-- ==== Sys2Proof/Word.lean ====
section
/-! DEFINITION. The word types and their plainest arithmetic. -/

namespace Sys2Proof

/-- A 64-bit register cell (R17). -/
abbrev Word := BitVec 64

/-- One byte of a memory. -/
abbrev Byte := BitVec 8

/-- Hall Time, in 0.5 ns ticks (R41). -/
abbrev Ticks := Nat

/-- A 16-bit status code (R18). -/
abbrev Status := Nat

end Sys2Proof
end

