-- ==== Sys2Proof/Syntax.lean ====
section
/-! DEFINITION. The commands the block takes: one constructor per row of spec/opcode_table.json, with the row's
operands. An operand is what comes from outside: an address, a value, a received packet, frame or message, a measured
quantity, or the Hall Time at which an event happens. -/

namespace Sys2Proof

/-- A package of the rack, P00–P71 (R7). -/
abbrev PkgId := Fin 72
/-- A fabric port F00–F19 (R7). -/
abbrev PortId := Fin 20
/-- A physical core of a package, 0–63 (R7). -/
abbrev CoreId := Fin 64
/-- A cluster, or cluster position, 0–3 (R7). -/
abbrev ClusterId := Fin 4
/-- A partition slot, 0–3 (R7). -/
abbrev SlotId := Fin 4
/-- A tray, and its TMC: CT00–CT17, then the host trays H0–H5 (Table 20-3). -/
abbrev TrayId := Fin 24
/-- A translation root, or a function: 0–3 the partition slots (virtual functions), 4 the physical function (R249). -/
abbrev Root := Fin 5
/-- A string of bytes, lowest address first. -/
abbrev Bytes := List (BitVec 8)
/-- The biases a generation sets (R347): for each layer, FP32 values by expert. -/
abbrev LayerBiases := List (Nat × List Nat)

/-- Who makes a CSR access (Table 24-2): a virtual function, the physical function, or the TMC over I3C. -/
inductive CsrSource | vf (n : Fin 4) | pf | i3c
  deriving DecidableEq, Repr

namespace Machine

/-- A packet: the fields of Table 10-1, the payload or control body, the trailer of Table 10-2 and the CRC. -/
structure Packet where
  type : Nat := 0
  vc : Nat := 0
  route : Nat := 0
  hops : Nat := 0
  len : Nat := 0
  stream : Nat := 0
  src : Nat := 0
  dst : Nat := 0
  seq : Nat := 0
  born : Nat := 0
  addr : Nat := 0
  body : Bytes := []
  info : Nat := 0
  crc : Nat := 0
  /-- Payload bytes that carry no data beside PAD: the model's own field (log entry 9). -/
  skip : List Nat := []
  deriving DecidableEq, Repr

/-- A frame as sent or received (Tables 9-2 and 9-3); a data frame's payload bytes; a control frame's fields. -/
structure Frame where
  type : Nat := 0
  count : Nat := 0
  letSeq : Nat := 0
  letAck : Nat := 0
  payload : Bytes := []
  pktStart : Nat := 0xFFFF
  /-- `CF_MARKER`. -/
  marker : Bytes := []
  /-- `CF_IDENTITY`. -/
  identity : Nat := 0
  /-- `LC_NOTICE`, `LC_SPARE_REQ`, `LC_SPARE_ACK`, `LC_RX_ACTIVE`, `LC_SWITCH_AT`. -/
  notice : Nat := 0
  spareReq : Nat := 0
  spareAck : Nat := 0
  rxActive : Nat := 0
  switchAt : Nat := 0
  /-- `FL_VC`0–15 and `FL_SHARED`. -/
  flVc : List Nat := []
  flShared : Nat := 0
  deriving DecidableEq, Repr

/-- Who makes a translated access: a core's play fetch or mover, a window access of a source package, the host through a
function, the storage port, or the hub reading a list or a table. -/
inductive Requester
  | fetch (core : Nat) | mover (core : Nat) | window (source : Nat) | ownWindow (core : Nat) | host (fn : Nat)
  | storage | hub
  deriving DecidableEq, Repr

/-- What a frame received on port S is (R626, R627). -/
inductive StoFrame
  | roce | address | echo | pause (on : Bool) | other
  deriving DecidableEq, Repr

/-- The kind of access: read, write, atomic or reduction (with FETCH_OLD), play fetch. -/
inductive Access4
  | read | write | atomic (old : Bool) | fetch
  deriving DecidableEq, Repr

/-- A configuration request of the host (R579, R620, R716): the vendor ID, device ID or class code, another register, or a write of
VF Enable. -/
inductive CfgReq
  | vendor | device | class_ | other (reg : Nat) | vfEnable (on : Bool)
  deriving DecidableEq, Repr

end Machine

open Machine (Packet Frame)

/-- The commands: one constructor per row of the opcode table. -/
inductive Instr where
  /-- REGISTER_WRITE (R11). A CSR write through BAR0 or I3C to a register that has no row of its own sets RW fields, clears W1C bits or sets W1S bits. -/
  | registerWrite (p : PkgId) (src : CsrSource) (off : Nat) (size : Nat) (data : Nat)
  /-- READ_CLEAR (R11). A read of an RC field returns its value and then clears it. -/
  | readClear (p : PkgId) (src : CsrSource) (off : Nat) (size : Nat)
  /-- FRAME_SEND (R389). A fabric port sends its next 640-byte data, idle or control frame, one per codeword. -/
  | frameSend (p : PkgId) (port : PortId) (t : Nat)
  /-- MARKER_RECEIVE (R51). A received time marker is checked, timestamped and used to compute delay and offset, the parent and root choice, and the rate steering. -/
  | markerReceive (p : PkgId) (port : PortId) (block : Bytes) (t4 : Nat)
  /-- FREE_LIMIT (R58). After 1 s in FREE, the package holds all scheduled-class injection. -/
  | freeLimit (p : PkgId) (t : Nat)
  /-- PPS_EDGE (R64). A PPS edge on PKG_PPS_IN is timestamped into HTM_PPS_HT, and the root steers its rate toward HTM_REF_PHASE. -/
  | ppsEdge (p : PkgId) (t : Nat)
  /-- CARD_POLL (R64). Every 100 ms the umpire reads the time card's state and writes HTM_REF_STATE and HTM_REF_TAI to the time-root candidates. -/
  | cardPoll (tai : Nat)
  /-- REFERENCE_LOST (R68). After three Sync intervals with no valid Sync, the time card declares the reference lost and enters HOLDOVER. -/
  | referenceLost (lastSync : Nat) (t : Nat)
  /-- PPS_LOSS (R69). When the card has delivered no PPS for 2 s, the root freezes its rate correction and the reference state becomes FREE. -/
  | ppsLoss (t : Nat)
  /-- REFERENCE_QUALIFIED (R70). A reference that returns is qualified for 60 s and then reported LOCKED. -/
  | referenceQualified (since : Nat) (t : Nat)
  /-- HOLDOVER_LIMIT (R68). When the lineup holdover limit is reached, the umpire posts the Critical event HallTimeHoldoverLimit. -/
  | holdoverLimit (t : Nat)
  /-- HIGH_WATER_RECORD (R72). Every second the umpire records the Hall Time high-water mark. -/
  | highWaterRecord (t : Nat)
  /-- COLD_HALL_SEED (R72). When no package of the hall holds valid time, the umpire of the time-card rack seeds the root candidate with the largest of the three seed values. -/
  | coldHallSeed (p : PkgId) (hallValid : Bool) (reference : Nat) (clock : Nat)
  /-- ISOLATED_RACK_SEED (R696). When no package of a rack has valid time 2 s after every port phase ends, the umpire, or in standalone mode the TMC of CT00, seeds P00. -/
  | isolatedRackSeed (reference : Nat) (clock : Nat) (t : Nat)
  /-- VOLLEY_BOUNDARY (R74). At each volley boundary the schedule-volley count advances, except at a stretch volley, where it holds. -/
  | volleyBoundary (p : PkgId) (t : Nat)
  /-- EPOCH_BOUNDARY (R82). At each epoch boundary the package adopts the new stretch count and does its other epoch work in rank order. -/
  | epochBoundary (p : PkgId) (lost : List Nat) (t : Nat)
  /-- WAIT_HT_RELEASE (R84). A waiting WAIT_HT releases within 8 ticks after HTM_NOW reaches its target. -/
  | waitHtRelease (p : PkgId) (core : CoreId) (t : Nat)
  /-- PLAY_FETCH_COMPLETE (R138). Play words fetched from local store or through translation arrive at the sequencer, or the fetch faults. -/
  | playFetchComplete (p : PkgId) (core : CoreId) (n : Nat) (t : Nat)
  /-- UNKNOWN_OPCODE (R147). A command word with an unknown opcode, VEC OP or TRANS FUNC stops the play with BAD_OPCODE. -/
  | unknownOpcode (p : PkgId) (core : CoreId) (t : Nat)
  /-- GEMM (R150). A GEMM command computes its output blocks in block-row order and writes them to local store. -/
  | gemm (p : PkgId) (core : CoreId) (conflicts : Nat) (fail : Option Nat) (t : Nat)
  /-- GROUPED_GEMM (R357). A GROUPED_GEMM checks every group-table entry and computes the entries in packed runs. -/
  | groupedGemm (p : PkgId) (core : CoreId) (fail : Option Nat) (t : Nat)
  /-- ATTN_BLOCK (R294). An ATTN_BLOCK computes running-softmax attention in HEAD, SEQUENCE or BATCH form. -/
  | attnBlock (p : PkgId) (core : CoreId) (t : Nat)
  /-- VEC (R152). A VEC command performs an elementwise operation, a conversion or a reduction. -/
  | vec (p : PkgId) (core : CoreId) (conflicts : Nat) (t : Nat)
  /-- TRANS (R118). A TRANS command applies a transcendental function to a prescaled input. -/
  | trans (p : PkgId) (core : CoreId) (t : Nat)
  /-- ROUTE (R332). A ROUTE command biases the scores, selects experts and writes assignments, the dispatch list and counts. -/
  | route (p : PkgId) (core : CoreId) (t : Nat)
  /-- LAYOUT (R220). A LAYOUT command copies a tensor element by element into another layout. -/
  | layout (p : PkgId) (core : CoreId) (t : Nat)
  /-- GATHER (R225). A GATHER command checks its block list and copies the listed source blocks to destination positions. -/
  | gather (p : PkgId) (core : CoreId) (t : Nat)
  /-- SCATTER (R229). A SCATTER command copies or scatter-adds blocks to the destinations that its list names. -/
  | scatter (p : PkgId) (core : CoreId) (t : Nat)
  /-- MOVE (R217). A MOVE command copies bytes unchanged between local, virtual and window addresses. -/
  | move (p : PkgId) (core : CoreId) (conflicts : Nat) (t : Nat)
  /-- SEND_TILE (R155). A SEND_TILE command arms the next GEMM that has TILE set. -/
  | sendTile (p : PkgId) (core : CoreId) (t : Nat)
  /-- TILE_STRIPE_SEND (R157). When a 32-row output stripe of a TILE GEMM is complete, the mover sends it into the peer window. -/
  | tileStripeSend (p : PkgId) (core : CoreId) (t : Nat)
  /-- WINDOW_OP (R148). A WINDOW_OP command performs an atomic ADD, SWAP, CAS, AND or OR on a window. -/
  | windowOp (p : PkgId) (core : CoreId) (t : Nat)
  /-- SEM_WAIT (R159). A SEM_WAIT command blocks issue until its semaphore reaches the threshold. -/
  | semWait (p : PkgId) (core : CoreId) (t : Nat)
  /-- SEM_WAIT_RELEASE (R523). A waiting SEM_WAIT releases when the semaphore reaches its threshold, consumes if asked and takes on the semaphore's status. -/
  | semWaitRelease (p : PkgId) (core : CoreId) (t : Nat)
  /-- SEM_POST (R160). A SEM_POST command retires at issue and queues an addition to a local or remote semaphore. -/
  | semPost (p : PkgId) (core : CoreId) (t : Nat)
  /-- SEM_POST_APPLY (R160). Once the earlier commands named in AFTER meet their condition, the queued semaphore addition is made, or sent as a control packet. -/
  | semPostApply (p : PkgId) (core : CoreId) (t : Nat)
  /-- FENCE (R184). A FENCE command blocks issue until the queues in its mask have released or retired. -/
  | fence (p : PkgId) (core : CoreId) (t : Nat)
  /-- FENCE_RELEASE (R184). A waiting FENCE releases once the masked queues meet their condition. -/
  | fenceRelease (p : PkgId) (core : CoreId) (t : Nat)
  /-- WAIT_HT (R164). A WAIT_HT command blocks issue until its Hall Time target, and releases at once if the target has passed. -/
  | waitHt (p : PkgId) (core : CoreId) (t : Nat)
  /-- BARRIER (R162). A BARRIER command arrives after every earlier command has retired and waits for PARTICIPANTS arrivals. -/
  | barrier (p : PkgId) (core : CoreId) (t : Nat)
  /-- ANNOUNCE (R822). An ANNOUNCE command records a core's expected load level for a run of volleys. -/
  | announce (p : PkgId) (core : CoreId) (t : Nat)
  /-- JUMP (R168). A JUMP command moves the sequencer by a signed word offset. -/
  | jump (p : PkgId) (core : CoreId) (t : Nat)
  /-- LOOP (R167). A LOOP command loads or decrements its counter and jumps while the counter is nonzero. -/
  | loop (p : PkgId) (core : CoreId) (t : Nat)
  /-- STOP (R169). A STOP command blocks until every earlier command has retired. -/
  | stop (p : PkgId) (core : CoreId) (t : Nat)
  /-- COMMAND_START (R179). A queue starts a command once its wait token, the hazard rules and its resources allow. -/
  | commandStart (p : PkgId) (core : CoreId) (queue : Fin 3) (stalls : Nat) (t : Nat)
  /-- COMMAND_RETIRE (R176). A command whose whole effect has happened retires, completes its token and latches or stops on a non-OK status. -/
  | commandRetire (p : PkgId) (core : CoreId) (num : Nat) (t : Nat)
  /-- PLAY_COMPLETE (R169). Once every issued command has retired, the core sends the play completion with its final status. -/
  | playComplete (p : PkgId) (core : CoreId) (t : Nat)
  /-- SHOT_CLOCK_EXPIRE (R189). When the shot clock reaches its limit, the play ends with SHOT_CLOCK and the core alone is reset. -/
  | shotClockExpire (p : PkgId) (core : CoreId) (t : Nat)
  /-- LANE_SLOTS_GRANTED (R313). A BATCH ATTN_BLOCK that is waiting takes its lane slots once enough of them are free. -/
  | laneSlotsGranted (p : PkgId) (core : CoreId) (t : Nat)
  /-- KV_PAGE_ARRIVE (R312). A fetched KV page lands in a staging slot and is computed in page order. -/
  | kvPageArrive (p : PkgId) (core : CoreId) (lane : Nat) (page : Nat) (slot : Nat) (wait : Nat) (t : Nat)
  /-- BIST_COMPLETE (R134). A core's built-in self-test ends with PASS or FAIL. -/
  | bistComplete (p : PkgId) (core : CoreId) (pass : Bool) (units : Nat) (bank : Nat) (t : Nat)
  /-- LS_ZEROING_COMPLETE (R135). The zeroing of a core's local store after a core reset without self-test completes. -/
  | lsZeroingComplete (p : PkgId) (core : CoreId) (t : Nat)
  /-- WALK_COMPLETE (R265). A translation walk finishes its HBM reads and either fills the caches or faults. -/
  | walkComplete (p : PkgId) (root : Root) (va : Nat) (r : Machine.Requester) (a : Machine.Access4) (t : Nat)
  /-- INV_RANGE (R271). Writing XLT_INV_CMD with kind RANGE submits a range invalidation and takes a ticket. -/
  | invRange (p : PkgId) (src : CsrSource) (root : Nat) (pages : Nat)
  /-- INV_ROOT (R271). Writing XLT_INV_CMD with kind ROOT submits an invalidation of every cached entry of a root. -/
  | invRoot (p : PkgId) (src : CsrSource) (root : Nat)
  /-- INV_ALL (R272). Writing XLT_INV_CMD with kind ALL through the PF or I3C invalidates every root. -/
  | invAll (p : PkgId) (src : CsrSource) (root : Nat)
  /-- INV_COMPLETE (R275). XLT_INV_DONE advances to a ticket once every access translated with a removed entry has completed. -/
  | invComplete (p : PkgId)
  /-- XLT_ROOT_WRITE (R278). Writing XLT_ROOT sets the root and performs a ROOT invalidation, or is refused when 64 invalidations are pending. -/
  | xltRootWrite (p : PkgId) (src : CsrSource) (root : Root) (data : Nat)
  /-- BAR2_READ (R586). A host BAR2 read is translated and completed, with all ones on a fault or poison on an HBM error. -/
  | bar2Read (p : PkgId) (fn : Root) (off : Nat) (n : Nat) (t : Nat)
  /-- BAR2_WRITE (R589). A host BAR2 write is translated and performed in PCIe order, or dropped on a fault. -/
  | bar2Write (p : PkgId) (fn : Root) (off : Nat) (data : Bytes) (poisoned : Bool) (t : Nat)
  /-- CACHE_ENTRY_ERROR (R741). An error in a translation-cache or walk-cache entry drops the entry and counts it, with no reset. -/
  | cacheEntryError (p : PkgId) (leaf : Bool) (index : Nat)
  /-- LOOP_WINDOW_CLOSE (R344). At an epoch that is a multiple of the loop period, each package snapshots and clears its load counters and sends the snapshot to the captain. -/
  | loopWindowClose (p : PkgId) (slot : SlotId) (t : Nat)
  /-- ROUTE_COUNTS_SNAPSHOT (R345). The captain receives a ROUTE_COUNTS packet of kind 0 and sums the loop snapshot. -/
  | routeCountsSnapshot (p : PkgId) (pkt : Packet) (t : Nat)
  /-- BIAS_UPDATE_COMPUTE (R345). At the end of the epoch after a close, the captain computes the bias update and sends a new generation, or skips the update. -/
  | biasUpdateCompute (p : PkgId) (slot : SlotId) (t : Nat)
  /-- BIAS_GENERATION_RECEIVE (R349). A package receives a bias generation from the captain, acknowledges it and holds it until it can be applied. -/
  | biasGenerationReceive (p : PkgId) (pkt : Packet) (num : Nat) (epoch : Nat) (host : Bool) (layers : LayerBiases) (t : Nat)
  /-- BIAS_APPLY (R348). At its apply epoch a package applies the next bias generation and sets MOE_GEN. -/
  | biasApply (p : PkgId) (slot : SlotId) (t : Nat)
  /-- BIAS_COMMIT (R350). Writing MOE_BIAS_COMMIT at the captain commits the staged biases as a generation with an apply epoch. -/
  | biasCommit (p : PkgId) (src : CsrSource) (epoch : Nat) (t : Nat)
  /-- ROUTE_COUNTS_STEP (R363). The captain receives a ROUTE_COUNTS packet of kind 1, starts the deadline on the first report and sums the step. -/
  | routeCountsStep (p : PkgId) (pkt : Packet) (t : Nat)
  /-- PLAN_GO (R366). Writing MOE_PLAN_GO submits a plan image that the captain checks, then accepts or refuses. -/
  | planGo (p : PkgId) (src : CsrSource) (slot : SlotId) (id : Nat) (len : Nat) (t : Nat)
  /-- PLAN_DEADLINE (R369). At the plan deadline the captain sends the accepted plan's sections, or decides FALLBACK. -/
  | planDeadline (p : PkgId) (slot : SlotId) (id : Nat) (t : Nat)
  /-- PLAN_SECTION_RECEIVE (R372). A package receives its plan section or the fallback decision, writes it to the plan address, loads the slot list and posts the plan semaphore. -/
  | planSectionReceive (p : PkgId) (pkt : Packet) (id : Nat) (section_ : Option Bytes) (t : Nat)
  /-- SIGNAL_DETECT (R384). A port in DETECT sees signal on its lanes and enters EQUALIZE. -/
  | signalDetect (p : PkgId) (port : PortId) (t : Nat)
  /-- EQUALIZE_COMPLETE (R387). Equalisation ends with polarity and lane order corrected and FEC aligned, and the port enters IDENTIFY. -/
  | equalizeComplete (p : PkgId) (port : PortId) (polarity : Nat) (order : Nat) (t : Nat)
  /-- CONTROL_FRAME_RECEIVE (R393). A received control frame delivers its marker, peer identity, link-control field and credit counts. -/
  | controlFrameReceive (p : PkgId) (port : PortId) (fr : Frame) (good : Bool) (t4 : Nat)
  /-- IDENTIFY_TIMEOUT (R397). A port that has not decided within 100 ms of entering IDENTIFY enters MISWIRED with cause NO_IDENTITY. -/
  | identifyTimeout (p : PkgId) (port : PortId) (t : Nat)
  /-- QUALIFY_WINDOW_END (R402). At the end of a qualification window the port classes its lanes, chooses the active lanes, and enters UP, requalifies or enters FAILED. -/
  | qualifyWindowEnd (p : PkgId) (port : PortId) (errs : List Nat) (peer : Option Nat) (peerFlagged : Bool) (t : Nat)
  /-- SERVICE_WINDOW_END (R408). Each 1 s service window measures every lane's error ratio and flags the port or calls for a lane replacement or a retrain. -/
  | serviceWindowEnd (p : PkgId) (port : PortId) (errs : List Nat) (t : Nat)
  /-- SPARE_SWITCH (R411). At the frame whose FR_COUNT equals LC_SWITCH_AT, the lane moves to the spare. -/
  | spareSwitch (p : PkgId) (port : PortId) (count : Nat) (t : Nat)
  /-- SPARE_ACK_TIMEOUT (R413). A spare request with no acknowledgement after 10 µs leads to a retrain. -/
  | spareAckTimeout (p : PkgId) (port : PortId) (t : Nat)
  /-- FEC_ALIGNMENT_LOSS (R414). A loss of FEC alignment that lasts 1 µs leads to a retrain. -/
  | fecAlignmentLoss (p : PkgId) (port : PortId) (t : Nat)
  /-- RETRAIN_NO_SIGNAL (R418). A retrain that sees no signal on any lane for 1 s ends in FAILED with cause NO_SIGNAL. -/
  | retrainNoSignal (p : PkgId) (port : PortId) (t : Nat)
  /-- LOSS_OF_SIGNAL (R400). A loss of signal on all five receive lanes for 100 ms returns a MISWIRED port to DETECT. -/
  | lossOfSignal (p : PkgId) (port : PortId) (t : Nat)
  /-- RETRAIN (R416). Writing LNK_RETRAIN retrains the port, and takes it out of MISWIRED. -/
  | retrain (p : PkgId) (port : PortId) (t : Nat)
  /-- CLEAR_FAILED (R420). Writing LNK_CLEAR_FAILED takes a FAILED port to DETECT while a maintenance window is open, and is otherwise refused. -/
  | clearFailed (p : PkgId) (port : PortId) (t : Nat)
  /-- LNK_ENABLE (R436). Writing LNK_ENABLE takes a DISABLED port to DETECT. -/
  | lnkEnable (p : PkgId) (port : PortId) (t : Nat)
  /-- LNK_DISABLE (R436). Writing LNK_DISABLE puts the port in DISABLED. -/
  | lnkDisable (p : PkgId) (port : PortId) (t : Nat)
  /-- DATA_FRAME_RECEIVE (R494). A received data frame is accepted in let-sequence order or discarded, and its packets are taken. -/
  | dataFrameReceive (p : PkgId) (port : PortId) (fr : Frame) (good : Bool) (t : Nat)
  /-- LET_TIMEOUT (R495). When the oldest unacknowledged frame was sent 2 µs ago, a let starts, and eight lets without progress cause a retrain. -/
  | letTimeout (p : PkgId) (port : PortId) (t : Nat)
  /-- PACKET_FORWARD (R433). A forwarding package sends a packet on along its route word, or discards it at a mapped-out link. -/
  | packetForward (p : PkgId) (port : PortId) (pkt : Packet) (t : Nat)
  /-- OPEN_PACKET_SEND (R466). An open-class packet is sent once credits for its whole length are held and no owned slot intervenes. -/
  | openPacketSend (p : PkgId) (port : PortId) (t : Nat)
  /-- SLOT_OPEN (R457). When a scheduled slot begins, the fabric engine sends the INJECT or FORWARD packets of its entry. -/
  | slotOpen (p : PkgId) (port : PortId) (j : Nat) (t : Nat)
  /-- SCHED_TO_OPEN (R460). A forwarded scheduled packet with no FORWARD entry for one full period is sent on in the open class. -/
  | schedToOpen (p : PkgId) (port : PortId) (t : Nat)
  /-- WRITE_PACKET (R440). The destination takes a WRITE packet, claims its window bit, performs it whole and acknowledges it. -/
  | writePacket (p : PkgId) (pkt : Packet) (t : Nat)
  /-- REDUCE_PACKET (R511). A REDUCE packet combines its payload into a window or a call step, or is staged. -/
  | reducePacket (p : PkgId) (pkt : Packet) (t : Nat)
  /-- READ_DATA (R446). A READ_DATA packet delivers a returned range, and the requester keeps the first copy. -/
  | readData (p : PkgId) (pkt : Packet) (t : Nat)
  /-- ACK (R482). An acknowledgement completes its sequences and carries congestion echo and old values. -/
  | ack (p : PkgId) (pkt : Packet) (t : Nat)
  /-- ATOMIC (R485). An ATOMIC packet performs its window operation once and records the old value. -/
  | atomic (p : PkgId) (pkt : Packet) (t : Nat)
  /-- SEM_POST_PACKET (R161). A SEM_POST packet adds its value to the semaphore exactly once. -/
  | semPostPacket (p : PkgId) (pkt : Packet) (t : Nat)
  /-- READ_REQ (R446). A READ_REQ reads a window range and returns it in READ_DATA packets. -/
  | readReq (p : PkgId) (pkt : Packet) (t : Nat)
  /-- PLAY_START (R141). A PLAY_START packet maps the logical core and starts the play, or is refused with VACANT or BUSY. -/
  | playStart (p : PkgId) (pkt : Packet) (t : Nat)
  /-- PLAY_DONE (R609). The captain collects a PLAY_DONE and completes the call entry that it belongs to. -/
  | playDone (p : PkgId) (pkt : Packet) (t : Nat)
  /-- LINK_STATE (R426). A LINK_STATE packet applies a braid or ring link change to the link map. -/
  | linkState (p : PkgId) (pkt : Packet) (t : Nat)
  /-- STRETCH_REQ (R79). The captain records a package's stretch request for an epoch. -/
  | stretchReq (p : PkgId) (pkt : Packet) (t : Nat)
  /-- STRETCH (R80). A package receives the stretch count for epoch E+2. -/
  | stretch (p : PkgId) (pkt : Packet) (t : Nat)
  /-- BARRIER_ARRIVE (R544). The captain counts a partition-barrier arrival and sends RELEASE when the count is reached. -/
  | barrierArrive (p : PkgId) (pkt : Packet) (t : Nat)
  /-- BARRIER_RELEASE (R544). A package releases its cores waiting on the barrier ID. -/
  | barrierRelease (p : PkgId) (pkt : Packet) (t : Nat)
  /-- BARRIER_MISMATCH (R545). A package ends its waiting BARRIERs with BARRIER_MISMATCH. -/
  | barrierMismatch (p : PkgId) (pkt : Packet) (t : Nat)
  /-- JOIN (R540). A COLL_CTRL JOIN lets the ring predecessor send step data, or ends the call on a digest mismatch. -/
  | join (p : PkgId) (pkt : Packet) (t : Nat)
  /-- COLL_ABORT (R541). A COLL_CTRL ABORT ends the call instance with the carried status. -/
  | collAbort (p : PkgId) (pkt : Packet) (t : Nat)
  /-- FANOUT_RUN (R610). A CALL_FANOUT RUN starts a COPY or STORAGE part at the target. -/
  | fanoutRun (p : PkgId) (pkt : Packet) (data : Bytes) (t : Nat)
  /-- FANOUT_DONE (R610). The captain records a part's status from a CALL_FANOUT DONE. -/
  | fanoutDone (p : PkgId) (pkt : Packet) (t : Nat)
  /-- BAD_PACKET_RECEIVE (R444). A packet of unknown type, or with a nonzero reserved field, has no effect and is answered BAD_PACKET. -/
  | badPacketReceive (p : PkgId) (pkt : Packet) (t : Nat)
  /-- RESEND_TIMEOUT (R480). A sequenced packet with no acknowledgement after 100,000 ticks is sent again with RESEND set. -/
  | resendTimeout (p : PkgId) (dst : Nat) (slot : SlotId) (sid : Nat) (seq : Nat) (t : Nat)
  /-- DELIVERY_GIVE_UP (R481). Past PK_BORN plus 4,002,048 ticks the source gives up, and the command ends with DELIVERY_TIMEOUT. -/
  | deliveryGiveUp (p : PkgId) (dst : Nat) (slot : SlotId) (sid : Nat) (seq : Nat) (t : Nat)
  /-- WINDOW_IDLE_FREE (R489). A receive window that has accepted nothing for 4 ms is freed. -/
  | windowIdleFree (p : PkgId) (src : Nat) (slot : SlotId) (sid : Nat) (t : Nat)
  /-- SEQUENCE_QUIET_END (R490). After the 8,000,000-tick quiet period of a reset slot, its streams restart at sequence 0. -/
  | sequenceQuietEnd (p : PkgId) (slot : SlotId) (t : Nat)
  /-- FAB_LOAD (R462). Writing FAB_LOAD schedules the channel table and template to load at an epoch. -/
  | fabLoad (p : PkgId) (src : CsrSource) (slot : SlotId) (epoch : Nat) (t : Nat)
  /-- TEMPLATE_LOAD (R462). At the load epoch the channel table and template are loaded and checked, or the old ones are kept. -/
  | templateLoad (p : PkgId) (slot : SlotId) (t : Nat)
  /-- WINDOW_REGISTER (R502). Writing COL_WIN_CMD with REGISTER reads, checks and copies a window descriptor. -/
  | windowRegister (p : PkgId) (src : CsrSource) (slot : SlotId) (index : Nat) (t : Nat)
  /-- WINDOW_DEREGISTER (R504). Writing COL_WIN_CMD with DEREGISTER removes a window and takes a ticket. -/
  | windowDeregister (p : PkgId) (src : CsrSource) (slot : SlotId) (index : Nat) (t : Nat)
  /-- DEREGISTER_COMPLETE (R504). COL_WIN_DONE reaches the ticket once every access that used the window has completed. -/
  | deregisterComplete (p : PkgId) (slot : SlotId) (t : Nat)
  /-- CALL_LOAD (R516). Writing COL_CALL_LOAD schedules a call-table load at an epoch. -/
  | callLoad (p : PkgId) (src : CsrSource) (slot : SlotId) (epoch : Nat) (t : Nat)
  /-- CALL_TABLE_LOAD (R516). At the load epoch, once no call is running, the call table is loaded and checked. -/
  | callTableLoad (p : PkgId) (slot : SlotId) (t : Nat)
  /-- CALL_FIRE (R517). A call fires when its semaphore threshold, start time and running limit allow, and checks its windows. -/
  | callFire (p : PkgId) (slot : SlotId) (t : Nat)
  /-- CALL_END (R522). A call ends once its results are in place and its packets acknowledged, and posts its done semaphore with its status. -/
  | callEnd (p : PkgId) (slot : SlotId) (call : Nat) (t : Nat)
  /-- COLLECTIVE_TIMEOUT (R542). A call that has not ended CD_TIMEOUT ticks after it fired ends with COLL_TIMEOUT. -/
  | collectiveTimeout (p : PkgId) (slot : SlotId) (call : Nat) (t : Nat)
  /-- SQ_DOORBELL (R591). A write of an SQ tail doorbell in BAR4 makes new calls available to fetch, or is dropped. -/
  | sqDoorbell (p : PkgId) (fn : Root) (q : Fin 256) (index : Nat) (t : Nat)
  /-- CQ_DOORBELL (R596). A write of a CQ head doorbell frees entries and releases held completions. -/
  | cqDoorbell (p : PkgId) (fn : Root) (c : Fin 256) (index : Nat) (t : Nat)
  /-- CALL_NOP (R600). A fetched NOP call passes the checks and completes OK. -/
  | callNop (p : PkgId) (q : Fin 256) (entry : Bytes) (t : Nat)
  /-- CALL_PLAY (R609). A fetched PLAY call is checked at the captain and starts one play by PLAY_START. -/
  | callPlay (p : PkgId) (q : Fin 256) (entry : Bytes) (t : Nat)
  /-- CALL_STEP (R609). A fetched STEP call reads its start list and starts every listed play. -/
  | callStep (p : PkgId) (q : Fin 256) (entry : Bytes) (t : Nat)
  /-- CALL_SEM_POST (R605). A fetched SEM_POST call sends SEM_POST packets to its targets. -/
  | callSemPost (p : PkgId) (q : Fin 256) (entry : Bytes) (t : Nat)
  /-- CALL_COPY (R606). A fetched COPY call moves data between partition space and the target's host. -/
  | callCopy (p : PkgId) (q : Fin 256) (entry : Bytes) (data : Bytes) (t : Nat)
  /-- CALL_STORAGE (R634). A fetched STORAGE call issues its storage-list entries as NVMe commands at each target. -/
  | callStorage (p : PkgId) (q : Fin 256) (entry : Bytes) (t : Nat)
  /-- CALL_COMPLETE (R595). A finished call writes its completion entry to its CQ, or waits while that CQ is full. -/
  | callComplete (p : PkgId) (num : Nat) (t : Nat)
  /-- INTERRUPT_COALESCE_TIMEOUT (R597). When the coalescing time passes, the CQ's MSI-X vector is raised. -/
  | interruptCoalesceTimeout (p : PkgId) (c : Fin 256) (t : Nat)
  /-- HOST_CALL_TIMEOUT (R604). A call not complete within its timeout completes with CALL_TIMEOUT. -/
  | hostCallTimeout (p : PkgId) (num : Nat) (t : Nat)
  /-- VF_FLR (R619). A function-level reset of a VF disables its queues and resets its host-interface state. -/
  | vfFlr (p : PkgId) (n : SlotId) (t : Nat)
  /-- PF_FLR (R620). A function-level reset of the PF clears VF Enable and resets every function's host-interface state. -/
  | pfFlr (p : PkgId) (t : Nat)
  /-- HOST_RESET (R621). A hot reset, a link-down or PKG_PERST_N has the effect of a PF FLR. -/
  | hostReset (p : PkgId) (linkDown : Bool) (t : Nat)
  /-- SQ_ENABLE (R593). Writing HIF_SQ_EN enables an SQ when its CQ and replay store qualify, and otherwise is refused. -/
  | sqEnable (p : PkgId) (src : CsrSource) (q : Fin 256) (data : Nat) (t : Nat)
  /-- PCIE_TRAINING_START (R716). Port H begins link training 20 ms after reset release. -/
  | pcieTrainingStart (p : PkgId) (t : Nat)
  /-- PCIE_CONFIG_REQUEST (R716). A configuration request is answered with Request Retry Status until the runtime runs, and normally after that. -/
  | pcieConfigRequest (p : PkgId) (fn : Root) (req : Machine.CfgReq) (t : Nat)
  /-- STO_CONNECT (R629). The HIF_STO_CTRL connect mask starts NVMe-oF connections, refused if they would exceed 64 queues. -/
  | stoConnect (p : PkgId) (src : CsrSource) (mask : Nat) (t : Nat)
  /-- STO_DISCONNECT (R629). The HIF_STO_CTRL disconnect mask closes NVMe-oF connections. -/
  | stoDisconnect (p : PkgId) (src : CsrSource) (mask : Nat) (t : Nat)
  /-- NVME_COMPLETION (R634). An NVMe completion ends its command, and with the last of them the storage entry. -/
  | nvmeCompletion (p : PkgId) (key : Nat) (nvme : Nat) (t : Nat)
  /-- NVME_TIMEOUT (R632). An NVMe command with no completion after 10 s is aborted, and its entry ends with STO_TIMEOUT. -/
  | nvmeTimeout (p : PkgId) (key : Nat) (t : Nat)
  /-- KEEP_ALIVE_FAILURE (R631). A failed keep-alive puts the connection DOWN. -/
  | keepAliveFailure (p : PkgId) (conn : Fin 16) (t : Nat)
  /-- RECONNECT_ATTEMPT (R631). Every 1 s the package tries again to connect each DOWN connection. -/
  | reconnectAttempt (p : PkgId) (conn : Fin 16) (answer : Option (Nat × Nat)) (t : Nat)
  /-- STORAGE_FRAME_RECEIVE (R626). Port S answers RoCEv2, ARP, neighbour discovery and echo, and drops and counts every other frame. -/
  | storageFrameReceive (p : PkgId) (kind : Machine.StoFrame) (mine : Bool) (vlan : Option Nat) (ecn : Bool) (t : Nat)
  /-- RDMA_ACCESS (R630). A target's RDMA access into the package is translated under the per-command key and needs the S permission. -/
  | rdmaAccess (p : PkgId) (key : Nat) (off : Nat) (data : Option Bytes) (n : Nat) (t : Nat)
  /-- LINEUP_STAGE (R672). Writing LUP_STAGE with STAGE copies a flash lineup into the staged half for checking, or records LUP_BUSY. -/
  | lineupStage (p : PkgId) (src : CsrSource) (slot : Nat) (t : Nat)
  /-- LINEUP_STAGE_CHECK_DONE (R672). The check of the staged lineup completes, and its result appears in LUP_STAGED. -/
  | lineupStageCheckDone (p : PkgId) (t : Nat)
  /-- LINEUP_DISCARD (R678). Writing LUP_STAGE with DISCARD empties the staged half and cancels any pending application. -/
  | lineupDiscard (p : PkgId) (src : CsrSource) (t : Nat)
  /-- LINEUP_APPLY_SCHEDULE (R673). Writing LUP_APPLY schedules the staged lineup for live application, or refuses the schedule. -/
  | lineupApplySchedule (p : PkgId) (src : CsrSource) (epoch : Nat) (t : Nat)
  /-- LINEUP_APPLY (R674). At the apply epoch the staged lineup replaces the active one whole. -/
  | lineupApply (p : PkgId) (t : Nat)
  /-- BOOT_SET_VERIFIED (R684). The boot set has been copied into SRAM and checked, and runs, which ends BOOT. -/
  | bootSetVerified (p : PkgId) (t : Nat)
  /-- SERIAL_WAIT_TIMEOUT (R686). After 2 s without a rack serial, the lineup check proceeds. -/
  | serialWaitTimeout (p : PkgId) (t : Nat)
  /-- LINEUP_LOAD_COMPLETE (R671). The bring-up lineup copy and check complete, and the lineup becomes ACTIVE or REFUSED. -/
  | lineupLoadComplete (p : PkgId) (t : Nat)
  /-- HBM_TRAINING_COMPLETE (R690). HBM training on the eight stacks completes. -/
  | hbmTrainingComplete (p : PkgId) (failed : Nat) (t : Nat)
  /-- HBM_TEST_COMPLETE (R691). The cold HBM pattern test, repair and zeroing complete, and each stack settles. -/
  | hbmTestComplete (p : PkgId) (failed : Nat) (repairs : List Nat) (t : Nat)
  /-- HBM_ZEROING_COMPLETE (R692). The warm zeroing of HBM completes. -/
  | hbmZeroingComplete (p : PkgId) (t : Nat)
  /-- PORT_PHASE_END (R694). The port phase ends when every port has settled or waited 1 s in DETECT. -/
  | portPhaseEnd (p : PkgId) (t : Nat)
  /-- TMC_GO_DISPATCH (R699). At the socket's phase time, the TMC writes GO to a package in CORES_PENDING. -/
  | tmcGoDispatch (p : PkgId) (t : Nat)
  /-- GO (R699). Writing GLB_GO starts the core waves of a package in CORES_PENDING, and is ignored otherwise. -/
  | go (p : PkgId) (src : CsrSource) (t : Nat)
  /-- GO_FALLBACK (R700). After 5 s in CORES_PENDING without GO, the package starts its waves by its own timer. -/
  | goFallback (p : PkgId) (t : Nat)
  /-- WAVE_START (R698). At 2 ms × w after GO, wave w powers its cores, which start self-test. -/
  | waveStart (p : PkgId) (t : Nat)
  /-- MAP_COMPLETE (R703). The logical map is built and the package becomes READY or HELD. -/
  | mapComplete (p : PkgId) (t : Nat)
  /-- READY_DEADLINE (R704). A package not READY 10 s after reset release enters HELD with every unmet cause. -/
  | readyDeadline (p : PkgId) (t : Nat)
  /-- RESET_CORE (R752). An RST_CMD write with scope CORE drains and resets one core. -/
  | resetCore (p : PkgId) (src : CsrSource) (target : Nat) (at_ : Bool) (t : Nat)
  /-- RESET_CLUSTER (R752). An RST_CMD write with scope CLUSTER drains and resets one cluster. -/
  | resetCluster (p : PkgId) (src : CsrSource) (target : Nat) (at_ : Bool) (t : Nat)
  /-- RESET_PARTITION (R752). An RST_CMD write with scope PARTITION drains and resets one partition slot at this package. -/
  | resetPartition (p : PkgId) (src : CsrSource) (target : Nat) (at_ : Bool) (t : Nat)
  /-- RESET_PACKAGE (R752). An RST_CMD write with scope PACKAGE drains and resets the package. -/
  | resetPackage (p : PkgId) (src : CsrSource) (target : Nat) (at_ : Bool) (t : Nat)
  /-- RESET_RACK (R726). An RST_CMD write with scope RACK and AT set resets the package as part of a rack reset. -/
  | resetRack (p : PkgId) (src : CsrSource) (target : Nat) (at_ : Bool) (t : Nat)
  /-- RESET_AT_TIME (R752). An RST_CMD with AT set acts when Hall Time reaches RST_CMD_HT. -/
  | resetAtTime (p : PkgId) (t : Nat)
  /-- PIN_RESET (R724). PKG_RESET_N held low for 1 µs or more resets the package at once without drain. -/
  | pinReset (p : PkgId) (t : Nat)
  /-- AUX_POWER_ON (R723). Auxiliary power coming up resets the package with cause POWER_ON and samples the straps. -/
  | auxPowerOn (p : PkgId) (variant : Fin 4) (t : Nat)
  /-- BROWN_OUT (R805). A rail under voltage resets the package with cause BROWN_OUT, and the TMC powers it down. -/
  | brownOut (p : PkgId) (rail : Fin 11) (t : Nat)
  /-- WATCHDOG_EXPIRY (R725). 1 s without a hub watchdog refresh causes a drained package reset. -/
  | watchdogExpiry (p : PkgId) (t : Nat)
  /-- CRITICAL_ERROR (R740). An uncorrectable error in critical state resets at the scope of its location. -/
  | criticalError (p : PkgId) (loc : Nat) (unit : Nat) (t : Nat)
  /-- DRAIN_COMPLETE (R729). A drain ends once every started command has retired and every request is acknowledged, and absorb begins. -/
  | drainComplete (p : PkgId) (scope : Nat) (target : Nat) (t : Nat)
  /-- DRAIN_TIMEOUT (R731). At the drain timeout the reset proceeds, work still in flight is abandoned and the cut is counted. -/
  | drainTimeout (p : PkgId) (scope : Nat) (target : Nat) (t : Nat)
  /-- ABSORB_HOLD_END (R736). 100 µs after drain end at PACKAGE or RACK scope, LINK_RESET is sent, the ports stop and the hub resets. -/
  | absorbHoldEnd (p : PkgId) (t : Nat)
  /-- LINK_RESET_HOLD_END (R738). After the 1 µs hold of a reset without drain, the hub is reset. -/
  | linkResetHoldEnd (p : PkgId) (t : Nat)
  /-- CLUSTER_RETRAIN_COMPLETE (R750). The UCIe link of a reset cluster is retrained. -/
  | clusterRetrainComplete (p : PkgId) (cl : ClusterId) (t : Nat)
  /-- PARTITION_RELEASE (R746). 8,000,000 ticks after its slot state is cleared, the partition is released, absorb ends and PARTITION_RESET is posted. -/
  | partitionRelease (p : PkgId) (slot : SlotId) (t : Nat)
  /-- TMC_IBI (R743). A package signals a locally begun partition reset to its TMC by an in-band interrupt, for extension by the umpire. -/
  | tmcIbi (p : PkgId) (slot : SlotId) (ht : Nat) (t : Nat)
  /-- CE_SAMPLE (R764). The hourly sample of CORE_LS_CE_COUNT marks cores whose counts rose by 1,000 or more. -/
  | ceSample (p : PkgId) (t : Nat)
  /-- RETIRE (R780). Writing GLB_REPAIR_CMD with RETIRE marks or retires a physical core, or is refused. -/
  | retire (p : PkgId) (src : CsrSource) (core : Nat) (force : Bool) (t : Nat)
  /-- SUBSTITUTION_COPY_DONE (R771). The copy of the retiring core's local store into the spare completes. -/
  | substitutionCopyDone (p : PkgId) (core : CoreId) (t : Nat)
  /-- MAP_RECORD_WRITE_DONE (R783). The write of a new map record over the older flash copy completes or fails. -/
  | mapRecordWriteDone (p : PkgId) (ok : Bool) (t : Nat)
  /-- MAP_WRITE_RETRY (R784). Every 10 s a failed map-record write is retried. -/
  | mapWriteRetry (p : PkgId) (t : Nat)
  /-- SHELF_FAILURE (R791). A failing shelf leaves the bus, and its controller reports the failure to the umpires. -/
  | shelfFailure (shelf : Fin 6)
  /-- BUS_OUT_OF_RANGE (R793). A bus voltage outside 740–860 V for 10 ms stops the tray converters. -/
  | busOutOfRange (rail : Fin 11) (t : Nat)
  /-- CONVERTER_FAILURE (R794). When one tray converter fails, the TMC writes the safe cap into PWR_TRAY_LIMIT. -/
  | converterFailure (tray : TrayId) (t : Nat)
  /-- RAIL_IN_REGULATION (R798). A rail reaches regulation, and the TMC enables the next rail or releases reset. -/
  | railInRegulation (p : PkgId) (rail : Fin 11) (mv : Nat) (amps : Nat) (t : Nat)
  /-- RAIL_UP_TIMEOUT (R799). A rail not in regulation 10 ms after enable ends the power-up with RAIL_NO_GOOD. -/
  | railUpTimeout (p : PkgId) (rail : Fin 11) (t : Nat)
  /-- POWER_UP_RETRY (R799). 10 s after a failed power-up the TMC tries again, up to three times an hour. -/
  | powerUpRetry (p : PkgId) (t : Nat)
  /-- RAIL_OFF (R801). A disabled rail reaches off, and the TMC disables the next rail. -/
  | railOff (p : PkgId) (rail : Fin 11) (t : Nat)
  /-- RAIL_DOWN_STEP_TIMEOUT (R802). 5 ms after a rail's disable the TMC moves on and keeps watching the late rail. -/
  | railDownStepTimeout (p : PkgId) (t : Nat)
  /-- RAIL_STUCK_TIMEOUT (R803). A rail still not off 50 ms after its disable opens the package e-fuse and records RAIL_STUCK. -/
  | railStuckTimeout (p : PkgId) (rail : Fin 11) (t : Nat)
  /-- EFUSE_RECLOSE (R804). 10 s after a stuck-rail opening the e-fuse closes and the package powers up. -/
  | efuseReclose (p : PkgId) (variant : Fin 4) (t : Nat)
  /-- SHARE_COMPUTE (R811). The umpire computes the rack share and writes PWR_SHARE to every package. -/
  | shareCompute (output : Nat) (inputs : Nat) (t : Nat)
  /-- BOOST_CHOICE (R813). Every 100 µs the package chooses its boost step and gating against the ceiling. -/
  | boostChoice (p : PkgId) (t : Nat)
  /-- POWER_SAMPLE (R807). The package measures its input power at its 50 V input every 1 µs. -/
  | powerSample (p : PkgId) (mw : Nat) (mv : Nat) (t : Nat)
  /-- DROOP_CROSSING (R821). A VDD_CORE droop past 55 mV is counted and gates the cluster for 1 µs. -/
  | droopCrossing (p : PkgId) (cl : ClusterId) (t : Nat)
  /-- ANNOUNCE_PHASE_WAKE (R822). From AT_HT minus 1 µs the regulator runs at least the announced number of phases. -/
  | announcePhaseWake (p : PkgId) (t : Nat)
  /-- ENERGY_INTERVAL (R828). Every 100 µs the input energy is apportioned to the slot, ballast and unassigned counters. -/
  | energyInterval (p : PkgId) (ein : Nat) (eout : Nat) (ecl : List Nat) (bal : List Nat) (t : Nat)
  /-- ENERGY_PUBLISH (R830). Once per second the umpire reads the energy counters and publishes the sums per partition. -/
  | energyPublish (t : Nat)
  /-- JUNCTION_SAMPLE (R835). Every 10 µs the hub reads the core and hub junction sensors. -/
  | junctionSample (p : PkgId) (cores : List Nat) (hub : Nat) (t : Nat)
  /-- THERMAL_GATE_UPDATE (R839). Every 100 µs each core, and the hub, sets its thermal gate from its mean temperature. -/
  | thermalGateUpdate (p : PkgId) (t : Nat)
  /-- THERMAL_TRIP (R848). A junction at 115 °C pulls PKG_THERMTRIP_N low, and the TMC powers the package down. -/
  | thermalTrip (p : PkgId) (t : Nat)
  /-- SUPPLY_UPDATE (R836). The TMC writes the tray's supply temperature and flow into THM_SUPPLY every 100 ms. -/
  | supplyUpdate (tray : TrayId) (temp : Int) (flow : Nat) (t : Nat)
  /-- SUPPLY_STALE (R836). With no THM_SUPPLY write for 1 s, THM_SUP_VALID reads 0. -/
  | supplyStale (p : PkgId) (t : Nat)
  /-- THETA_WINDOW (R850). At the end of each 10 s window the package computes θ and its excess, moves its level and sets the following cap. -/
  | thetaWindow (p : PkgId) (t : Nat)
  /-- JUNCTION_MINUTE (R857). Each minute the package records its mean junction and updates THM_CYCLE_RATE. -/
  | junctionMinute (p : PkgId) (t : Nat)
  /-- THERMAL_RELEASE (R856). Writing THM_RELEASE ends HOLD, or is refused. -/
  | thermalRelease (p : PkgId) (src : CsrSource) (t : Nat)
  /-- COOLANT_FAULT_CONDITION (R859). A coolant measurement out of range for its stated time causes the action of Table 19-4. -/
  | coolantFaultCondition (tray : TrayId) (row : Fin 8) (t : Nat)
  /-- HEARTBEAT_SEND (R867). A node sends HEARTBEAT every 100 ms, or every 1 s in solo. -/
  | heartbeatSend (node : Fin 34) (health : Nat) (t : Nat)
  /-- HEARTBEAT (R869). A received HEARTBEAT updates the nodes seen and acknowledges the nodes it lists. -/
  | heartbeat (ver : Nat) (node : Fin 34) (seen : Nat) (health : Nat) (t : Nat)
  /-- CLAIM (R876). A TMC receives a CLAIM and takes the claiming umpire as primary. -/
  | claim (ver : Nat) (umpire : Fin 2) (t : Nat)
  /-- UMPIRE_RELEASE (R873). A node receives an umpire's RELEASE with its cause. -/
  | umpireRelease (ver : Nat) (umpire : Fin 2) (cause : Nat) (t : Nat)
  /-- POWER_CMD_ON (R868). A POWER_CMD with operation ON from the primary makes the TMC power the named packages up. -/
  | powerCmdOn (ver : Nat) (node : Fin 34) (tray : TrayId) (mask : Fin 16) (t : Nat)
  /-- POWER_CMD_OFF (R868). A POWER_CMD with operation OFF makes the TMC power the named packages down. -/
  | powerCmdOff (ver : Nat) (node : Fin 34) (tray : TrayId) (mask : Fin 16) (t : Nat)
  /-- POWER_CMD_EFUSE_OPEN (R868). A POWER_CMD with operation E-FUSE_OPEN makes the TMC open the named e-fuses. -/
  | powerCmdEfuseOpen (ver : Nat) (node : Fin 34) (tray : TrayId) (mask : Fin 16) (t : Nat)
  /-- POWER_CMD_EFUSE_CLOSE (R868). A POWER_CMD with operation E-FUSE_CLOSE makes the TMC close the named e-fuses. -/
  | powerCmdEfuseClose (ver : Nat) (node : Fin 34) (tray : TrayId) (mask : Fin 16) (t : Nat)
  /-- POWER_DONE (R868). The primary receives POWER_DONE with the command's status. -/
  | powerDone (ver : Nat) (id : Nat) (st : Nat)
  /-- ALERT (R892). The primary receives an ALERT about a safety event and takes the safety action. -/
  | alert (ver : Nat) (unit : Nat) (wholeTray : Bool) (t : Nat)
  /-- PRESENCE (R867). A PRESENCE message reports a tray inserted, removed or with a changed input state. -/
  | presence (ver : Nat) (tray : TrayId) (inserted : Bool) (input : Bool) (t : Nat)
  /-- SHARE (R868). A TMC writes a received SHARE value into PWR_SHARE of its packages within 10 ms. -/
  | share (ver : Nat) (node : Fin 34) (tray : TrayId) (watts : Nat) (t : Nat)
  /-- UNITS (R868). A TMC receives the unit states of the rack's packages. -/
  | units (ver : Nat) (node : Fin 34) (tray : TrayId) (states : List Nat)
  /-- MAINT (R868). A TMC writes a received maintenance state into LNK_MAINT of its packages. -/
  | maint (ver : Nat) (node : Fin 34) (tray : TrayId) (on : Bool)
  /-- PRIMARY_LINE_RELEASE (R870). Hardware releases an umpire's PRIMARY line 200 ms after its last watchdog refresh. -/
  | primaryLineRelease (umpire : Fin 2) (t : Nat)
  /-- PRIMARY_ASSERT (R872). An umpire with a valid claim, whose peer's line has been released for 300 ms, asserts PRIMARY and sends CLAIM. -/
  | primaryAssert (umpire : Fin 2) (t : Nat)
  /-- QUORUM_LOSS (R874). A primary whose claim becomes invalid releases its line and sends RELEASE with cause 1. -/
  | quorumLoss (umpire : Fin 2) (t : Nat)
  /-- MIRROR_SYNC (R877). Every 100 ms the primary sends its standby the changes to its mirrored state. -/
  | mirrorSync
  /-- NO_PRIMARY_TIMEOUT (R876). After 1 s with no primary in paired mode, the Critical event NoPrimary is posted. -/
  | noPrimaryTimeout (t : Nat)
  /-- SOLO_ENTRY (R879). A TMC not acknowledged for MG_SOLO seconds enters solo at the safe cap. -/
  | soloEntry (tray : TrayId) (t : Nat)
  /-- UMPIRE_POLL (R883). Once a second the primary polls every TMC, updates unit states and judges readiness. -/
  | umpirePoll (answers : Nat) (t : Nat)
  /-- RACK_SUMMARY_READ (R888). The umpire of the captain rack reads the other racks' summaries and decides partition readiness. -/
  | rackSummaryRead (rack : Nat) (part : Nat) (ready : Bool) (cores : Nat) (reach : Bool) (rings : Bool) (excluded : List Nat) (t : Nat)
  /-- MAINT_WINDOW_EXPIRE (R890). At the end of a maintenance window LNK_MAINT_EN is cleared. -/
  | maintWindowExpire (t : Nat)
  /-- CONNECTOR_FAULT (R891). A short, open or reversal at a connector is handled as Table 20-8 gives, and ConnectorFault is posted. -/
  | connectorFault (tray : TrayId) (code : Nat) (kind : Nat) (t : Nat)
  /-- SERVICE_BUTTON (R951). Holding the service button for 2 s asks the TMC to make the tray safe, or is refused. -/
  | serviceButton (tray : TrayId) (t : Nat)
  /-- REDFISH_RETIRE (R780). The Retire action writes GLB_REPAIR_CMD. -/
  | redfishRetire (p : PkgId) (core : Nat) (force : Bool) (t : Nat)
  /-- REDFISH_THERMAL_RELEASE (R856). The ThermalRelease action writes THM_RELEASE. -/
  | redfishThermalRelease (p : PkgId) (t : Nat)
  /-- REDFISH_RESET (R865). The Reset action writes RST_CMD_HT and RST_CMD, or is refused in the wrong mode. -/
  | redfishReset (p : PkgId) (scope : Fin 6) (target : Nat) (at_ : Bool) (ht : Nat) (t : Nat)
  /-- REDFISH_CLEAR_FAILED (R420). The ClearFailed action writes LNK_CTRL for a port. -/
  | redfishClearFailed (p : PkgId) (port : PortId) (t : Nat)
  /-- REDFISH_LOCATE (R435). The Locate action sets the LOCATE lamp pattern of a port. -/
  | redfishLocate (p : PkgId) (port : PortId) (t : Nat)
  /-- OPEN_MAINTENANCE_WINDOW (R890). The OpenMaintenanceWindow action sets LNK_MAINT_EN for 1 min to 8 h. -/
  | openMaintenanceWindow (tray : Option TrayId) (minutes : Nat) (t : Nat)
  /-- CLOSE_MAINTENANCE_WINDOW (R890). The CloseMaintenanceWindow action clears LNK_MAINT_EN. -/
  | closeMaintenanceWindow (tray : Option TrayId) (t : Nat)
  /-- POWER_PACKAGE (R894). The PowerPackage action sends POWER_CMD to the package's TMC, or is refused with no primary. -/
  | powerPackage (p : PkgId) (on : Bool) (t : Nat)
  /-- SET_PARTITION_READY (R888). The SetPartitionReady action posts the captain rack's readiness decision to another rack's umpire. -/
  | setPartitionReady (part : Nat) (ready : Bool)
  /-- ROSTER_SUBMIT (R920). A roster pushed to UpdateService is checked and accepted for staging, or refused. -/
  | rosterSubmit (tray : TrayId) (image : Bytes) (t : Nat)
  /-- STAGE_WRITE (R921). BOOT_STAGE_CMD WRITE programs the staging buffer into flash. -/
  | stageWrite (p : PkgId) (src : CsrSource) (off : Nat) (t : Nat)
  /-- ERASE_SLOT (R921). BOOT_STAGE_CMD ERASE_SLOT erases the slot that is not running, with its settings region. -/
  | eraseSlot (p : PkgId) (src : CsrSource) (t : Nat)
  /-- READ_BACK (R921). BOOT_STAGE_CMD READ_BACK reads flash back into the staging buffer. -/
  | readBack (p : PkgId) (src : CsrSource) (off : Nat) (t : Nat)
  /-- BOOT_VERIFY (R922). BOOT_CMD VERIFY copies the staged images into memory, checks them and sets the vote. -/
  | bootVerify (p : PkgId) (src : CsrSource) (t : Nat)
  /-- VOTE_RECEIVE (R923). The coordinator receives a target's YES or NO vote. -/
  | voteReceive (target : Nat) (yes : Bool) (st : Nat) (t : Nat)
  /-- STAGING_TIMEOUT (R923). Staging not done in 15 min, or a vote missing 60 s later, aborts the roster. -/
  | stagingTimeout (t : Nat)
  /-- BOOT_ABORT (R924). BOOT_CMD ABORT erases the staged slot and leaves the boot control record unchanged. -/
  | bootAbort (p : PkgId) (src : CsrSource) (t : Nat)
  /-- BOOT_COMMIT (R928). BOOT_CMD COMMIT writes the boot control record STAGED with the activation time. -/
  | bootCommit (p : PkgId) (src : CsrSource) (t : Nat)
  /-- ROSTER_ACTIVATE (R929). At the activation Hall Time a target writes TRIAL and resets or restarts into the trial slot. -/
  | rosterActivate (target : Nat) (t : Nat)
  /-- BOOT_CONFIRM (R939). BOOT_CMD CONFIRM raises floors, applies key states, writes CONFIRMED and erases the old slot. -/
  | bootConfirm (p : PkgId) (src : CsrSource) (t : Nat)
  /-- BOOT_REVERT (R936). BOOT_CMD REVERT schedules a return to the confirmed slot at a Hall Time. -/
  | bootRevert (p : PkgId) (src : CsrSource) (t : Nat)
  /-- REVERT_AT_TIME (R936). At the revert time a target still in TRIAL writes REVERT and restarts from its old slot. -/
  | revertAtTime (target : Nat) (t : Nat)
  /-- CONFIRM_ROSTER (R937). The ConfirmRoster action records confirmation and sends CONFIRM, or is refused. -/
  | confirmRoster (tray : TrayId) (t : Nat)
  /-- REVERT_ROSTER (R936). The RevertRoster action reverts every target at one Hall Time. -/
  | revertRoster (tray : TrayId) (t : Nat)
  /-- TRIAL_WINDOW_END (R940). At BC_WINDOW_END, a target still in TRIAL writes REVERT for its next reset. -/
  | trialWindowEnd (target : Nat) (t : Nat)
  /-- TRIAL_SILENCE_TIMEOUT (R935). A restarted controller not heard on the rack bus within 60 s fails its trial. -/
  | trialSilenceTimeout (node : Fin 34) (t : Nat)
  /-- COORDINATOR_RESTART (R933). A restarted coordinator resends COMMIT from its commit record, or aborts a roster that has none. -/
  | coordinatorRestart (tray : TrayId) (t : Nat)
  /-- PCIE_LINK_TRAINED (R581). Port H finishes link training, at full or degraded rate and width, and the host link comes up. -/
  | pcieLinkTrained (p : PkgId) (rate : Nat) (width : Nat) (flit : Bool) (t : Nat)
  /-- STORAGE_LINK_CHANGE (R625). Port S completes auto-negotiation and training, or loses its link, and LNK_S_STATE changes. -/
  | storageLinkChange (p : PkgId) (st : Fin 3) (t : Nat)
  /-- PKG_RESET_RELEASE (R681). PKG_RESET_N is released after a pin reset with rails kept, and a bring-up begins. -/
  | pkgResetRelease (p : PkgId) (t : Nat)
  /-- AUX_POWER_LOSS (R723). VDD_AUX is lost, every rail goes, RST_LAST_CAUSE and LUP_RACK_SERIAL are lost and the tray latch locks. -/
  | auxPowerLoss (p : PkgId) (t : Nat)
  /-- SHELF_RESTORED (R811). A failed power shelf returns to the bus, the working count rises and the umpire recomputes the share within 100 ms. -/
  | shelfRestored (shelf : Fin 6)
  /-- HBM_TEMPERATURE_SAMPLE (R844). Every 1 ms the hub reads each HBM stack temperature and starts extended refresh at 95 °C or the hard-limit action at TH_HARD. -/
  | hbmTemperatureSample (p : PkgId) (temps : List Nat) (t : Nat)
  /-- COOLANT_CONDITION_END (R859). A coolant measurement that has been back in range for 10 s ends its condition and the action taken for it. -/
  | coolantConditionEnd (tray : TrayId) (row : Fin 8)
  /-- CONNECTOR_REENABLE (R891). A management action re-enables a connector held off after its fault has cleared for 10 s. -/
  | connectorReenable (tray : TrayId) (code : Nat) (cleared : Nat) (t : Nat)
  /-- CALL_AT_HT_ACTION (R603). At CL_HT, each target of a COPY or STORAGE call with AT_HT set starts its part. -/
  | callAtHtAction (p : PkgId) (t : Nat)
  /-- STAGGERED_ACTIVATION (R930). A later controller of a roster activates, a shelf controller 30 s after the previous one or the primary umpire once the standby is back and mirrored. -/
  | staggeredActivation (node : Fin 34) (t : Nat)
  deriving DecidableEq, Repr

end Sys2Proof
end

