-- ==== Sys2Proof/Config.lean ====
section
/-! DEFINITION. What an implementation fixes and the free values: constants with no body. -/

namespace Sys2Proof.Config

/-- `GLB_HUB_REV`: the spec gives no value (log entry 1). -/
opaque hubRev : BitVec 16

/-- `HIF_STO_MAC` of a package (log entry 1). -/
opaque stoMac : Nat → BitVec 48

/-- The rate the alignment loop asks for, in ppb, from the filtered offset (1/256 tick) and the rate in force: the spec
gives its bounds and its time constant only (log entry 6). -/
opaque steer : Int → Int → Int

/-- The rate the root asks for, in ppb, from the phase error of a PPS edge (ticks) and the rate in force: the spec
gives its bounds only (log entry 6). -/
opaque steerReference : Int → Int → Int

/-- The FP32 result of a transcendental function (`FUNC`) at an FP32 input: the spec bounds its error in ulp and fixes
no bits (log entry 7). -/
opaque transcendental : Nat → Nat → BitVec 32

/-- A byte the spec calls unspecified: package, draw and position (log entry 11). -/
opaque freeByte : Nat → Nat → Nat → BitVec 8
/-- A word the spec leaves open: package and draw (log entry 11). -/
opaque freeWord : Nat → Nat → BitVec 64

/-- The set of the translation cache that holds a root's page, and the ways of a set: the spec says least-recently used
per set and gives no set (log entry 8). -/
opaque leafSet : Nat → Nat → Nat
opaque leafWays : Nat
/-- The set of the walk cache for a root, level and page, and the ways of a set (log entry 8). -/
opaque walkSet : Nat → Nat → Nat → Nat
opaque walkWays : Nat

/-- An ECDSA P-384 signature over a SHA-384 hash verifies under the public key of a key slot: slot, hash, signature (log
entry 17). -/
opaque ecdsaVerifies : Nat → List (BitVec 8) → List (BitVec 8) → Bool
/-- An ML-DSA-87 signature over a message with a context string verifies under the public key of a key slot: slot, context,
message, signature (log entry 17). -/
opaque mldsaVerifies : Nat → List (BitVec 8) → List (BitVec 8) → List (BitVec 8) → Bool

/-- The fused minimum voltage of a cluster at a boost step, in mV (R820): fused at manufacture (log entry
18). -/
opaque vmin : Nat → Nat → Nat → BitVec 10

end Sys2Proof.Config
end

