-- ==== Sys2Proof/Machine/Sparse.lean ====
section
/-! DEFINITION. Sparse stores: a list of (key, value) pairs in one canonical form (keys strictly rising, no entry
equal to what an unlisted key reads as). Memories (`Host.Cell` lists) and the register store are both such lists. -/

namespace Sys2Proof.Machine

/-- The value at key `k`; an unlisted key reads as `d k`. -/
def Sparse.get {α : Type} (d : Nat → α) : List (Nat × α) → Nat → α
  | [], k => d k
  | (k', v) :: r, k => if k = k' then v else Sparse.get d r k

/-- `m` without key `k`. -/
def Sparse.erase {α : Type} (m : List (Nat × α)) (k : Nat) : List (Nat × α) :=
  m.filter (fun e => e.1 != k)

/-- Insert an entry before the first larger key. -/
def Sparse.insert {α : Type} (k : Nat) (v : α) : List (Nat × α) → List (Nat × α)
  | [] => [(k, v)]
  | (k', v') :: r => if k < k' then (k, v) :: (k', v') :: r else (k', v') :: Sparse.insert k v r

/-- Store `v` at key `k`; storing the unlisted value removes the entry, so that equal stores are equal lists. -/
def Sparse.set {α : Type} [DecidableEq α] (d : Nat → α) (m : List (Nat × α)) (k : Nat) (v : α) : List (Nat × α) :=
  if v = d k then Sparse.erase m k else Sparse.insert k v (Sparse.erase m k)

/-- Keep only the keys for which `p` holds; the others read as the unlisted value again. -/
def Sparse.keep {α : Type} (m : List (Nat × α)) (p : Nat → Bool) : List (Nat × α) :=
  m.filter (fun e => p e.1)

/-- The canonical form. -/
def Sparse.wf {α : Type} [DecidableEq α] (d : Nat → α) (m : List (Nat × α)) : Bool :=
  decide (List.Pairwise (fun a b => a.1 < b.1) m) && m.all (fun e => decide (e.2 ≠ d e.1))

/-- A byte memory: canonical pairs of address and byte (`Host.Cell`). -/
abbrev Memory := List (Nat × BitVec 8)

/-- What a byte that nothing has written reads as: zero (R135, R286; log entry 3). -/
def Memory.unlisted (_ : Nat) : BitVec 8 := 0

/-- Read one byte. -/
def Memory.read (m : Memory) (a : Nat) : BitVec 8 := Sparse.get Memory.unlisted m a

/-- Write one byte. -/
def Memory.write (m : Memory) (a : Nat) (b : BitVec 8) : Memory := Sparse.set Memory.unlisted m a b

/-- The canonical form of a memory. -/
def Memory.wf (m : Memory) : Bool := Sparse.wf Memory.unlisted m

/-- Read `n` bytes from address `a`, lowest address first. -/
def Memory.readBytes (m : Memory) (a : Nat) : Nat → List (BitVec 8)
  | 0 => []
  | n + 1 => Memory.read m a :: Memory.readBytes m (a + 1) n

/-- Write bytes from address `a` upward. -/
def Memory.writeBytes (m : Memory) (a : Nat) : List (BitVec 8) → Memory
  | [] => m
  | b :: r => Memory.writeBytes (Memory.write m a b) (a + 1) r

/-- Set the bytes `lo ≤ a < lo + n` back to zero. -/
def Memory.zeroRange (m : Memory) (lo n : Nat) : Memory :=
  Sparse.keep m (fun a => decide (a < lo) || decide (lo + n ≤ a))

/-- The little-endian value of a byte list (R3). -/
def leNat : List (BitVec 8) → Nat
  | [] => 0
  | b :: r => b.toNat + 256 * leNat r

/-- The `n` little-endian bytes of a value (R3). -/
def leBytes : Nat → Nat → List (BitVec 8)
  | 0, _ => []
  | n + 1, v => BitVec.ofNat 8 v :: leBytes n (v / 256)

/-- Read an `n`-byte little-endian value. -/
def Memory.readNat (m : Memory) (a n : Nat) : Nat := leNat (Memory.readBytes m a n)

/-- Write an `n`-byte little-endian value. -/
def Memory.writeNat (m : Memory) (a n v : Nat) : Memory := Memory.writeBytes m a (leBytes n v)

/-- The `n`-byte little-endian field at offset `off` of a byte list; bytes past its end read zero. -/
def fieldAt (bs : List (BitVec 8)) (off n : Nat) : Nat := leNat ((bs.drop off).take n)

/-- Bits `hi:lo` of a value. -/
def bits (v hi lo : Nat) : Nat := v / 2 ^ lo % 2 ^ (hi + 1 - lo)

/-- Bit `n` of a value. -/
def bit (v n : Nat) : Bool := v / 2 ^ n % 2 == 1

/-- The signed value of an `n`-bit field. -/
def toSigned (n v : Nat) : Int := if v % 2 ^ n < 2 ^ (n - 1) then (v % 2 ^ n : Int) else (v % 2 ^ n : Int) - 2 ^ n

/-- The `n`-bit two's-complement field of an integer. -/
def ofSigned (n : Nat) (v : Int) : Nat := (v % (2 ^ n : Int)).toNat

/-- Integer quotient rounded toward zero. -/
def divToZero (a : Int) (b : Nat) : Int := if 0 ≤ a then a / b else -((-a) / b)

/-- Saturating increment below `max`. -/
def satInc (max v : Nat) : Nat := if v < max then v + 1 else max

/-- Saturating addition. -/
def satAdd (max v n : Nat) : Nat := min max (v + n)

end Sys2Proof.Machine
end

