-- ==== Sys2Proof/Machine/Fp.lean ====
section
/-! DEFINITION. Number formats and arithmetic (R89–R93, R97–R118, R990, R996): a number is a NaN, an infinity, or a sign,
a mantissa and an exponent; operations are exact, and rounding is one operation. Flags are the bits of `CORE_FPFLAGS`. -/

namespace Sys2Proof.Machine

/-- A decoded number: `fin neg m e` is ±m × 2^e. -/
inductive Num
  | nan
  | inf (neg : Bool)
  | fin (neg : Bool) (m : Nat) (e : Int)
  deriving DecidableEq, Repr

/-- Which codes of a format are special. -/
inductive Special | ieee | e4m3 | none
  deriving DecidableEq, Repr

/-- A number format (Tables 3-2 and 5-2). -/
structure Fmt where
  width : Nat
  /-- Stored mantissa bits. -/
  mb : Nat
  bias : Int
  special : Special
  mx : Bool
  int : Bool
  /-- `emax_elem` of R110. -/
  emax : Int
  deriving DecidableEq, Repr

/-- The format of an `LD_FORMAT` code (Table 5-2). -/
def fmtOf : Nat → Option Fmt
  | 0x01 => some ⟨8, 3, 7, .e4m3, false, false, 8⟩
  | 0x02 => some ⟨8, 2, 15, .ieee, false, false, 15⟩
  | 0x03 => some ⟨8, 3, 7, .e4m3, true, false, 8⟩
  | 0x04 => some ⟨8, 2, 15, .ieee, true, false, 15⟩
  | 0x05 => some ⟨6, 2, 3, .none, true, false, 4⟩
  | 0x06 => some ⟨6, 3, 1, .none, true, false, 2⟩
  | 0x07 => some ⟨4, 1, 1, .none, true, false, 2⟩
  | 0x08 => some ⟨16, 7, 127, .ieee, false, false, 0⟩
  | 0x09 => some ⟨32, 23, 127, .ieee, false, false, 0⟩
  | 0x0A => some ⟨32, 0, 0, .none, false, true, 0⟩
  | 0x0B => some ⟨16, 0, 0, .none, false, true, 0⟩
  | 0x0C => some ⟨8, 0, 0, .none, false, true, 0⟩
  | _ => none

/-- FP32. -/
def fp32 : Fmt := ⟨32, 23, 127, .ieee, false, false, 0⟩
/-- BF16. -/
def bf16 : Fmt := ⟨16, 7, 127, .ieee, false, false, 0⟩

/-- `CORE_FP_INVALID`. -/
def fInvalid : Nat := 1
/-- `CORE_FP_OVERFLOW`. -/
def fOverflow : Nat := 2
/-- `CORE_FP_SATURATED`. -/
def fSaturated : Nat := 4
/-- `CORE_FP_NAN_IN`. -/
def fNanIn : Nat := 8
/-- `CORE_FP_UNDERFLOW`. -/
def fUnderflow : Nat := 16

/-- +0. -/
def Num.zero : Num := .fin false 0 0

/-- Is the value zero. -/
def Num.isZero : Num → Bool
  | .fin _ 0 _ => true
  | _ => false

/-- The sign of a number. -/
def Num.neg : Num → Bool
  | .nan => false
  | .inf n => n
  | .fin n _ _ => n

/-- The opposite number. -/
def Num.flip : Num → Num
  | .nan => .nan
  | .inf n => .inf (!n)
  | .fin n m e => .fin (!n) m e

/-- Exponent field width. -/
def Fmt.eb (f : Fmt) : Nat := f.width - 1 - f.mb

/-- Decode an element's bits (Table 3-2). -/
def Fmt.decode (f : Fmt) (w : Nat) : Num :=
  if f.int then
    let v : Int := if f.width = 32 then toSigned 32 w else (w % 2 ^ f.width : Int)
    .fin (decide (v < 0)) v.natAbs 0
  else
    let neg := bit w (f.width - 1)
    let ef := w / 2 ^ f.mb % 2 ^ f.eb
    let mant := w % 2 ^ f.mb
    let top := 2 ^ f.eb - 1
    if f.special = .ieee ∧ ef = top then (if mant = 0 then .inf neg else .nan)
    else if f.special = .e4m3 ∧ ef = top ∧ mant = 7 then .nan
    else if ef = 0 then .fin neg mant (1 - f.bias - f.mb)
    else .fin neg (2 ^ f.mb + mant) ((ef : Int) - f.bias - f.mb)

/-- `m` × 2^`d` rounded to an integer, to nearest, ties to even. -/
def rne (m : Nat) (d : Int) : Nat :=
  if 0 ≤ d then m * 2 ^ d.toNat
  else
    let h := 2 ^ (-d).toNat
    let q := m / h
    let r := m % h
    if 2 * r < h then q else if h < 2 * r then q + 1 else q + q % 2

/-- floor(log2) of ±m × 2^e, m not 0. -/
def floorLog (m : Nat) (e : Int) : Int := (Nat.log2 m : Int) + e

/-- Round a finite value to a format's precision, without its range. -/
def Fmt.roundFin (f : Fmt) (m : Nat) (e : Int) : Nat × Int :=
  if m = 0 then (0, 1 - f.bias - f.mb)
  else
    let q := max (1 - f.bias - f.mb) (floorLog m e - f.mb)
    (rne m (e - q), q)

/-- The largest finite value of a format. -/
def Fmt.maxFin (f : Fmt) : Nat × Int :=
  match f.special with
  | .ieee => (2 ^ (f.mb + 1) - 1, (2 ^ f.eb - 2 : Nat) - f.bias - f.mb)
  | .e4m3 => (2 ^ (f.mb + 1) - 2, (2 ^ f.eb - 1 : Nat) - f.bias - f.mb)
  | .none => (2 ^ (f.mb + 1) - 1, (2 ^ f.eb - 1 : Nat) - f.bias - f.mb)

/-- m × 2^e < m' × 2^e'. -/
def magLt (m : Nat) (e : Int) (m' : Nat) (e' : Int) : Bool :=
  let lo := min e e'
  decide (m * 2 ^ (e - lo).toNat < m' * 2 ^ (e' - lo).toNat)

/-- Round to FP32: what every engine operation does with its exact result (R98, R104, R113). -/
def round32 : Num → Num × Nat
  | .fin neg m e =>
    let (r, q) := fp32.roundFin m e
    if magLt fp32.maxFin.1 fp32.maxFin.2 r q then (.inf neg, fOverflow) else (.fin neg r q, 0)
  | x => (x, 0)

/-- The bits of a finite value already rounded to the format. -/
def Fmt.pack (f : Fmt) (neg : Bool) (r : Nat) (q : Int) : Nat :=
  let s := if neg then 2 ^ (f.width - 1) else 0
  if r < 2 ^ f.mb then s + r
  else
    let (r, q) := if r = 2 ^ (f.mb + 1) then (2 ^ f.mb, q + 1) else (r, q)
    s + (q + f.bias + f.mb).toNat * 2 ^ f.mb + (r - 2 ^ f.mb)

/-- Infinity of a format with infinities. -/
def Fmt.infBits (f : Fmt) (neg : Bool) : Nat :=
  (if neg then 2 ^ (f.width - 1) else 0) + (2 ^ f.eb - 1) * 2 ^ f.mb

/-- The canonical NaN (R103). -/
def Fmt.nanBits (f : Fmt) : Nat :=
  match f.width with
  | 32 => 0x7FC00000
  | 16 => 0x7FC0
  | _ => 0x7F

/-- The largest finite value as bits. -/
def Fmt.maxBits (f : Fmt) (neg : Bool) : Nat := f.pack neg f.maxFin.1 f.maxFin.2

/-- Saturate an integer to an integer format (R990). -/
def Fmt.satInt (f : Fmt) (v : Int) : Nat :=
  if f.width = 32 then ofSigned 32 (max (-(2 ^ 31)) (min (2 ^ 31 - 1) v))
  else (max 0 (min ((2 ^ f.width : Nat) - 1 : Int) v)).toNat

/-- Write a value out in a non-MX format (R105–R108, R990), with the saturate option. -/
def Fmt.encode (f : Fmt) (sat : Bool) (x : Num) : Nat × Nat :=
  if f.int then
    match x with
    | .nan => (0, 0)
    | .inf n => (f.satInt (if n then -(2 ^ 40) else 2 ^ 40), 0)
    | .fin n m e => (f.satInt (if n then -(rne m e : Int) else (rne m e : Int)), 0)
  else
    match x with
    | .nan => (f.nanBits, 0)
    | .inf n =>
      if sat then (f.maxBits n, fSaturated)
      else if f.special = .ieee then (f.infBits n, 0)
      else (f.nanBits, fOverflow)
    | .fin n m e =>
      let (r, q) := f.roundFin m e
      if magLt f.maxFin.1 f.maxFin.2 r q then
        if sat then (f.maxBits n, fSaturated)
        else if f.special = .ieee then (f.infBits n, fOverflow)
        else (f.nanBits, fOverflow)
      else (f.pack n r q, if m ≠ 0 ∧ r = 0 then fUnderflow else 0)

/-- Write an MX element: rounds, saturating (R110, R111). A value above the largest finite one saturates although it might round to
it, as the worked case below R111 says of 6.25 in E2M1. -/
def Fmt.encodeElem (f : Fmt) (n : Bool) (m : Nat) (e : Int) : Nat × Nat :=
  let (r, q) := f.roundFin m e
  if magLt f.maxFin.1 f.maxFin.2 m e then (f.maxBits n, fSaturated)
  else (f.pack n r q, if m ≠ 0 ∧ r = 0 then fUnderflow else 0)

/-- The larger of two magnitudes. -/
def magMax (a b : Nat × Int) : Nat × Int := if magLt a.1 a.2 b.1 b.2 then b else a

/-- Make one MX block (R110): scale byte, element bits and flags. -/
def Fmt.encodeBlock (f : Fmt) (xs : List Num) : Nat × List Nat × Nat :=
  if xs.any (fun x => match x with | .fin _ _ _ => false | _ => true) then (0xFF, xs.map (fun _ => 0), 0)
  else
    let amax := xs.foldl (fun a x => match x with | .fin _ m e => magMax a (m, e) | _ => a) (0, 0)
    if amax.1 = 0 then (0, xs.map (fun x => f.pack x.neg 0 0), 0)
    else
      let x := max (-127) (min 127 (floorLog amax.1 amax.2 - f.emax))
      let es := xs.map (fun v => match v with
        | .fin n m e => f.encodeElem n m (e - x)
        | _ => (0, 0))
      ((x + 127).toNat, es.map Prod.fst, es.foldl (fun g p => g ||| p.2) 0)

/-! ### Exact operations -/

/-- Exact product; ∞ × 0 is an invalid NaN (R102, R113). -/
def mulExact : Num → Num → Num × Nat
  | .nan, _ => (.nan, 0)
  | _, .nan => (.nan, 0)
  | .inf a, .inf b => (.inf (a != b), 0)
  | .inf a, .fin b m _ => if m = 0 then (.nan, fInvalid) else (.inf (a != b), 0)
  | .fin a m _, .inf b => if m = 0 then (.nan, fInvalid) else (.inf (a != b), 0)
  | .fin a m e, .fin b m' e' => (.fin (a != b) (m * m') (e + e'), 0)

/-- Exact sum; a zero result is +0 unless both addends are −0 (R101); ∞ − ∞ is an invalid NaN (R102). -/
def addExact : Num → Num → Num × Nat
  | .nan, _ => (.nan, 0)
  | _, .nan => (.nan, 0)
  | .inf a, .inf b => if a = b then (.inf a, 0) else (.nan, fInvalid)
  | .inf a, .fin _ _ _ => (.inf a, 0)
  | .fin _ _ _, .inf b => (.inf b, 0)
  | .fin a m e, .fin b m' e' =>
    let lo := min e e'
    let x : Int := (m * 2 ^ (e - lo).toNat : Nat)
    let y : Int := (m' * 2 ^ (e' - lo).toNat : Nat)
    let s := (if a then -x else x) + (if b then -y else y)
    if s = 0 then (.fin (a && b) 0 lo, 0) else (.fin (decide (s < 0)) s.natAbs lo, 0)

/-- Round the result of an exact operation to FP32, keeping its flags. -/
def rounded (p : Num × Nat) : Num × Nat :=
  let (x, f) := round32 p.1
  (x, p.2 ||| f)

/-- FP32 addition. -/
def add32 (a b : Num) : Num × Nat := rounded (addExact a b)
/-- FP32 subtraction: the sum of X and −Y (R113). -/
def sub32 (a b : Num) : Num × Nat := add32 a b.flip
/-- FP32 multiplication. -/
def mul32 (a b : Num) : Num × Nat := rounded (mulExact a b)
/-- Fused multiply-add, rounded once (R113). A NaN addend leaves no NaN that arose from other inputs. -/
def fma32 (a b c : Num) : Num × Nat :=
  if c == .nan then (.nan, 0)
  else
    let (p, f) := mulExact a b
    let (x, g) := rounded (addExact p c)
    (x, f ||| g)

/-- `a` × 2^`d`, exact. -/
def Num.scale (a : Num) (d : Int) : Num :=
  match a with
  | .fin n m e => .fin n m (e + d)
  | x => x

/-- a < b, neither NaN. -/
def Num.lt : Num → Num → Bool
  | .inf a, .inf b => a && !b
  | .inf a, _ => a
  | _, .inf b => !b
  | .fin a m e, .fin b m' e' =>
    if m = 0 ∧ m' = 0 then false
    else if a && !(m == 0) then (if b && !(m' == 0) then magLt m' e' m e else true)
    else if b && !(m' == 0) then false
    else magLt m e m' e'
  | _, _ => false

/-- Maximum of R117. -/
def maxNum (a b : Num) : Num :=
  match a, b with
  | .nan, _ => .nan
  | _, .nan => .nan
  | a, b => if a.isZero && b.isZero then (if a.neg then b else a) else if a.lt b then b else a

/-- Minimum of R117. -/
def minNum (a b : Num) : Num :=
  match a, b with
  | .nan, _ => .nan
  | _, .nan => .nan
  | a, b => if a.isZero && b.isZero then (if a.neg then a else b) else if b.lt a then b else a

/-! ### Reductions (R116) -/

/-- One halving of the tree: position i takes op(x[i], x[i + d]). -/
def foldHalf (op : Num → Num → Num × Nat) (d : Nat) (xs : List Num) : List Num × Nat :=
  let ps := (List.range d).map (fun i => op (xs.getD i .zero) (xs.getD (i + d) .zero))
  (ps.map Prod.fst, ps.foldl (fun f p => f ||| p.2) 0)

/-- The tree of one chunk of 256: halvings d = 128 … 1. -/
def treeChunk (op : Num → Num → Num × Nat) (xs : List Num) : Num × Nat :=
  let (ys, f) := [128, 64, 32, 16, 8, 4, 2, 1].foldl (fun (acc : List Num × Nat) d =>
    let (ys, f) := foldHalf op d acc.1
    (ys, acc.2 ||| f)) (xs, 0)
  (ys.headD .zero, f)

/-- A reduction in the exact order of R116. -/
def reduceTree (op : Num → Num → Num × Nat) (ident : Num) (xs : List Num) : Num × Nat :=
  (List.range ((xs.length + 255) / 256)).foldl (fun (acc : Num × Nat) c =>
    let ch := (xs.drop (256 * c)).take 256
    let (x, f) := treeChunk op (ch ++ List.replicate (256 - ch.length) ident)
    let (t, g) := op acc.1 x
    (t, acc.2 ||| f ||| g)) (ident, 0)

/-! ### Transcendentals (Table 3-6) -/

/-- A number as FP32 bits. -/
def Num.bits32 (x : Num) : Nat := (fp32.encode false x).1

/-- ±1 as a number. -/
def Num.one (neg : Bool) : Num := .fin neg 1 0

/-! The exact value of a transcendental function, to a relative error far below 2^-85, in fixed point with 256 binary places.
It serves to hold the free result inside the error bound of Table 3-6 and decides no bit of it beyond that. -/

/-- 1.0 in fixed point. -/
def fixOne : Nat := 2 ^ 256

/-- The natural logarithm of 2 in fixed point. -/
def fixLn2 : Nat := (List.range 260).foldl (fun s k => s + fixOne / ((k + 1) * 2 ^ (k + 1))) 0

/-- e^`t` in fixed point for 0 ≤ t < 1, by its series. -/
def fixExp (t : Nat) : Nat :=
  ((List.range 80).foldl (fun (acc : Nat × Nat) k =>
    let term := acc.1 * t / (fixOne * (k + 1))
    (term, acc.2 + term)) (fixOne, fixOne)).2

/-- A finite number in fixed point, magnitudes above 512 taken as 512: beyond it every bounded function has reached its limit. -/
def fixOf (neg : Bool) (m : Nat) (e : Int) : Int :=
  let a := if magLt 512 0 m e then 512 * fixOne
    else if 0 ≤ e + 256 then m * 2 ^ (e + 256).toNat else m / 2 ^ (-(e + 256)).toNat
  if neg then -(a : Int) else a

/-- 2^`i` · e^`r` as a mantissa and an exponent, with `r` in fixed point. -/
def expParts (y : Int) : Nat × Int := (fixExp (y % fixLn2).toNat, y / fixLn2)

/-- Square root, rounded down, of a number below 2^600. -/
def floorSqrt (n : Nat) : Nat :=
  (List.range 300).foldl (fun r k => let c := r + 2 ^ (299 - k); if c * c ≤ n then c else r) 0

/-- 2^x. -/
def exp2Near (n : Bool) (m : Nat) (e : Int) : Num :=
  let y := fixOf n m e
  .fin false (fixExp ((y % fixOne).toNat * fixLn2 / fixOne)) (y / fixOne - 256)

/-- e^x. -/
def expNear (n : Bool) (m : Nat) (e : Int) : Num :=
  let (v, i) := expParts (fixOf n m e)
  .fin false v (i - 256)

/-- log2 of a positive number. -/
def log2Near (m : Nat) (e : Int) : Num :=
  let z := fixOne * (m - 2 ^ m.log2) / (m + 2 ^ m.log2)
  let atanh := ((List.range 90).foldl (fun (acc : Nat × Nat) k =>
    (acc.1 * z / fixOne * z / fixOne, acc.2 + acc.1 / (2 * k + 1))) (z, 0)).2
  let y : Int := (m.log2 + e) * fixOne + (2 * atanh * fixOne / fixLn2 : Nat)
  .fin (decide (y < 0)) y.natAbs (-256)

/-- 1/x. -/
def recipNear (n : Bool) (m : Nat) (e : Int) : Num := .fin n (fixOne / m) (-256 - e)

/-- 1/√x. -/
def rsqrtNear (m : Nat) (e : Int) : Num :=
  let (m, e) := if e % 2 = 0 then (m, e) else (2 * m, e - 1)
  .fin false (floorSqrt (fixOne * fixOne / m)) (-256 - e / 2)

/-- tanh x: x itself near 0 and ±1 far from it. -/
def tanhNear (n : Bool) (m : Nat) (e : Int) : Num :=
  if magLt m e 1 (-60) then .fin n m e
  else if magLt 64 0 m e then .one n
  else
    let (v, i) := expParts (2 * fixOf false m e)
    let v := v * 2 ^ i.toNat
    .fin n ((v - fixOne) * fixOne / (v + fixOne)) (-256)

/-- 1/(1 + e^-x). -/
def sigmoidNear (n : Bool) (m : Nat) (e : Int) : Num :=
  let (v, i) := expParts (-fixOf false m e)
  let d := 2 ^ (256 - i).toNat
  let q := 512 + (-i).toNat
  .fin false ((if n then v else d) * 2 ^ q / (d + v)) (-(q : Int))

/-- The exact value of function `func` at a finite input, as closely as the bound needs it. -/
def transExact (func : Nat) (n : Bool) (m : Nat) (e : Int) : Num :=
  match func with
  | 0 => exp2Near n m e
  | 1 => expNear n m e
  | 2 => log2Near m e
  | 3 => recipNear n m e
  | 4 => rsqrtNear m e
  | 5 => tanhNear n m e
  | _ => sigmoidNear n m e

/-- The maximum error of Table 3-6 in ulp. -/
def transUlps (func : Nat) : Nat := if func = 3 ∨ func = 4 then 1 else 2

/-- `c` lies within `k` ulp of `v`: an ulp is that of the FP32 binade of `v`, and an infinity counts as 2^128. -/
def withinUlps (k : Nat) (v c : Num) : Bool :=
  match v with
  | .fin _ m e =>
    let c := match c with | .inf n => .fin n 1 128 | x => x
    match (addExact c v.flip).1 with
    | .fin _ d q =>
      let u := if m = 0 then -149 else max ((m.log2 : Int) + e - 23) (-149)
      match (addExact (.fin false k u) (.fin false m (e - 85))).1 with
      | .fin _ b p => !magLt b p d q
      | _ => false
    | _ => false
  | _ => false

/-- The free result of a function held inside its error bound: the free value of the function at the input, or the rounded exact
value where the free value breaks the bound (log entry 7). -/
def transFree (func : Nat) (x v : Num) : Num × Nat :=
  let c := fp32.decode (Config.transcendental func x.bits32).toNat
  if withinUlps (transUlps func) v c then (c, match c with | .inf _ => fOverflow | _ => 0) else round32 v

/-- A transcendental function on an FP32 input: the special values of Table 3-6; any other result is free within the error
bound the table gives (log entry 7), and OVERFLOW follows from it (R104). exp(±0) is 1 (R294's note on a masked block), and a
result of 2^128 or more is an infinity. -/
def transc (func : Nat) (x : Num) : Num × Nat :=
  match func, x with
  | _, .nan => (.nan, fNanIn)
  | 0, .inf n => (if n then .zero else .inf false, 0)
  | 1, .inf n => (if n then .zero else .inf false, 0)
  | 2, .inf n => if n then (.nan, fInvalid) else (.inf false, 0)
  | 3, .inf n => (.fin n 0 0, 0)
  | 4, .inf n => if n then (.nan, fInvalid) else (.zero, 0)
  | 5, .inf n => (.one n, 0)
  | _, .inf n => (if n then .zero else .one false, 0)
  | 0, .fin n m e =>
    if !n && !magLt m e 128 0 then (.inf false, fOverflow) else transFree 0 x (transExact 0 n m e)
  | 1, .fin n m e =>
    if m = 0 then (.one false, 0) else if !n && !magLt m e 89 0 then (.inf false, fOverflow) else transFree 1 x (transExact 1 n m e)
  | 2, .fin n m e =>
    if m = 0 then (.inf true, 0) else if n then (.nan, fInvalid) else transFree 2 x (transExact 2 n m e)
  | 3, .fin n m e =>
    if m = 0 then (.inf n, 0) else if !magLt 1 (-128) m e then (.inf n, fOverflow) else transFree 3 x (transExact 3 n m e)
  | 4, .fin n m e =>
    if m = 0 then (.inf n, 0) else if n then (.nan, fInvalid) else transFree 4 x (transExact 4 n m e)
  | f, .fin n m e => transFree f x (transExact f n m e)

end Sys2Proof.Machine
end

