-- ==== Sys2Proof/Machine/Layout.lean ====
section
/-! DEFINITION. Layout descriptors: parsing and checks (R197–R199, R203, R204, R211), addressing, swizzles, spans and
scale bytes (R200–R206, R210, R212), and elements in a byte store. -/

namespace Sys2Proof.Machine

/-- A parsed layout descriptor (Table 5-1). -/
structure Desc where
  format : Nat
  dims : Nat
  transposed : Bool
  sel : Nat
  cols : Nat
  rows : Nat
  /-- Six storage extents. -/
  ext : List Nat
  /-- Strides of dimensions 1–5 in bytes. -/
  stride : List Nat
  deriving DecidableEq, Repr

/-- Read a descriptor's 32 bytes. -/
def Desc.parse (b : Bytes) : Desc :=
  let st := fieldAt b 16 16
  { format := fieldAt b 0 1, dims := fieldAt b 1 1 % 8, transposed := bit (fieldAt b 1 1) 3, sel := fieldAt b 2 1 % 8,
    cols := fieldAt b 3 1 % 16, rows := fieldAt b 3 1 / 16,
    ext := (List.range 6).map (fun d => fieldAt b (4 + 2 * d) 2),
    stride := [bits st 23 0 * 64, bits st 49 24 * 64, bits st 75 50 * 64, bits st 101 76 * 64, bits st 127 102 * 64] }

/-- The format of a descriptor. -/
def Desc.fmt (d : Desc) : Fmt := (fmtOf d.format).getD fp32
/-- Extent of storage dimension `i`. -/
def Desc.e (d : Desc) (i : Nat) : Nat := d.ext.getD i 1
/-- Stride in bytes of storage dimension `i` ≥ 1. -/
def Desc.st (d : Desc) (i : Nat) : Nat := d.stride.getD (i - 1) 0

/-- Bytes of a line (R202). -/
def Desc.lineBytes (d : Desc) : Nat := ((d.e 0 * d.fmt.width + 7) / 8 + 63) / 64 * 64

/-- Span of dimensions 0 to `n` (R202). -/
def Desc.spanTo (d : Desc) (n : Nat) : Nat :=
  d.lineBytes + ((List.range n).map (fun i => (d.e (i + 1) - 1) * d.st (i + 1))).sum

/-- The span (R202). -/
def Desc.span (d : Desc) : Nat := d.spanTo 5

/-- Nonzero reserved fields of a descriptor (R9, R199). -/
def descReserved (b : Bytes) : Bool :=
  let d := Desc.parse b
  fieldAt b 1 1 / 16 != 0 || fieldAt b 2 1 / 8 != 0 ||
    (1 ≤ d.dims && d.dims ≤ 6 && (List.range 6).any (fun i => decide (d.dims ≤ i) && (d.e i != 1 || (i != 0 && d.st i != 0))))

/-- R198, R203, R204, R211: the descriptor is refused with BAD_DESCRIPTOR. -/
def Desc.bad (d : Desc) : Bool :=
  (fmtOf d.format).isNone || d.dims == 0 || d.dims == 7 ||
  (List.range d.dims).any (fun i => d.e i == 0) || decide (4 < d.sel) ||
  (List.range 5).any (fun i => decide (1 < d.e (i + 1)) && decide (d.st (i + 1) < d.spanTo i)) ||
  (d.fmt.mx && d.e 0 % 32 != 0)

/-- Extent of logical dimension `i` (R201). -/
def Desc.logical (d : Desc) (i : Nat) : Nat :=
  if d.transposed then (if i = 0 then d.e 1 else if i = 1 then d.e 0 else d.e i) else d.e i

/-- The storage index of a logical index (R201). -/
def Desc.storage (d : Desc) (a : List Nat) : List Nat :=
  if d.transposed then (match a with | x :: y :: r => y :: x :: r | _ => a) else a

/-- The swizzle of R210 on an absolute address. -/
def swizzle (sel x : Nat) : Nat :=
  if sel = 0 then x else x ^^^ (x / 4096 % 2 ^ (sel + 1) * 64)

/-- Address of the line of a storage index, before any swizzle (R202). -/
def Desc.lineAt (d : Desc) (data : Nat) (s : List Nat) : Nat :=
  data + ((List.range 5).map (fun i => s.getD (i + 1) 0 * d.st (i + 1))).sum

/-- Byte addresses an element occupies, swizzled, lowest first. -/
def Desc.elemBytes (d : Desc) (data : Nat) (s : List Nat) : List Nat :=
  let b := d.fmt.width
  let o := s.getD 0 0 * b
  (List.range ((o % 8 + b + 7) / 8)).map (fun i => swizzle d.sel (d.lineAt data s + o / 8 + i))

/-- Where the scale region begins (R205). -/
def Desc.scaleRegion (d : Desc) (data : Nat) : Nat :=
  let x := data + d.span
  if d.sel = 0 then x else (x + 4095) / 4096 * 4096

/-- Lines of the tensor. -/
def Desc.lines (d : Desc) : Nat := d.e 1 * d.e 2 * d.e 3 * d.e 4 * d.e 5

/-- Address of the scale byte of the block that holds an element (R205). -/
def Desc.scaleAt (d : Desc) (data : Nat) (s : List Nat) : Nat :=
  let lin := s.getD 1 0 + d.e 1 * (s.getD 2 0 + d.e 2 * (s.getD 3 0 + d.e 3 * (s.getD 4 0 + d.e 4 * s.getD 5 0)))
  d.scaleRegion data + s.getD 0 0 / 32 * d.lines + lin

/-- Bytes a tensor reaches from DATA: span, and the scale region when MX (R206). -/
def Desc.reach (d : Desc) (data : Nat) : Nat :=
  let hi := if d.fmt.mx then d.scaleRegion data + d.e 0 / 32 * d.lines else data + d.span
  let hi := if d.sel = 0 then hi else max hi ((data + d.span + 4095) / 4096 * 4096)
  hi - data

/-- The footprint used by the hazard and overlap rules (R212, R213): start and length. -/
def Desc.footprint (d : Desc) (data : Nat) : Nat × Nat :=
  if d.sel = 0 then (data, d.reach data)
  else
    let lo := data / 4096 * 4096
    (lo, data + d.reach data - lo)

/-- Read an element's bits. -/
def Desc.elemBits (d : Desc) (m : Memory) (data : Nat) (s : List Nat) : Nat :=
  let o := s.getD 0 0 * d.fmt.width
  leNat ((d.elemBytes data s).map (fun a => Memory.read m a)) / 2 ^ (o % 8) % 2 ^ d.fmt.width

/-- Write an element's bits. -/
def Desc.putBits (d : Desc) (m : Memory) (data : Nat) (s : List Nat) (v : Nat) : Memory :=
  let o := s.getD 0 0 * d.fmt.width % 8
  let addrs := d.elemBytes data s
  let old := leNat (addrs.map (fun a => Memory.read m a))
  let w := 2 ^ d.fmt.width
  let new := old - old / 2 ^ o % w * 2 ^ o + v % w * 2 ^ o
  (addrs.zip (leBytes addrs.length new)).foldl (fun m p => Memory.write m p.1 p.2) m

/-- Every local-store byte that reading an element touches: its bytes and its scale byte. -/
def Desc.touch (d : Desc) (data : Nat) (s : List Nat) : List Nat :=
  d.elemBytes data s ++ (if d.fmt.mx then [d.scaleAt data s] else [])

/-- The unscaled value of an element. -/
def Desc.rawElem (d : Desc) (m : Memory) (data : Nat) (s : List Nat) : Num := d.fmt.decode (d.elemBits m data s)

/-- The scale byte of an element's block; 127 (2⁰) outside the MX formats (R92). -/
def Desc.scaleByte (d : Desc) (m : Memory) (data : Nat) (s : List Nat) : Nat :=
  if d.fmt.mx then (Memory.read m (d.scaleAt data s)).toNat else 127

/-- The value a vector operation reads (R115), with flags. -/
def Desc.elem (d : Desc) (m : Memory) (data : Nat) (s : List Nat) : Num × Nat :=
  let x := d.rawElem m data s
  let sc := d.scaleByte m data s
  let nanIn := match x with | .nan => fNanIn | _ => 0
  if d.fmt.mx then
    if sc = 0xFF then (.nan, fNanIn)
    else
      let (y, f) := round32 (x.scale ((sc : Int) - 127))
      (y, nanIn ||| f)
  else (x, nanIn)

/-- A tensor a command names: its descriptor and first byte. -/
structure Tensor where
  d : Desc
  data : Nat
  deriving DecidableEq, Repr

/-- Every logical index of a shape given by its six extents, dimension 0 fastest. -/
def indices (ext : List Nat) : List (List Nat) :=
  match ext with
  | [] => [[]]
  | n :: r => (indices r).flatMap (fun rest => (List.range n).map (fun i => i :: rest))

/-- Write values over the lines of a tensor. Each line is a list of values along storage dimension 0, from position 0;
MX blocks are built whole (R109, R110, R115). -/
def Tensor.putLine (t : Tensor) (sat : Bool) (m : Memory) (s : List Nat) (xs : List Num) : Memory × Nat :=
  let f := t.d.fmt
  if f.mx then
    (List.range ((xs.length + 31) / 32)).foldl (fun (acc : Memory × Nat) b =>
      let ch := (xs.drop (32 * b)).take 32
      let (sc, es, g) := f.encodeBlock (ch ++ List.replicate (32 - ch.length) .zero)
      let m := (es.zip (List.range 32)).foldl (fun m p => t.d.putBits m t.data ((32 * b + p.2) :: s.tail) p.1) acc.1
      (Memory.write m (t.d.scaleAt t.data ((32 * b) :: s.tail)) (BitVec.ofNat 8 sc), acc.2 ||| g)) (m, 0)
  else
    (xs.zip (List.range xs.length)).foldl (fun (acc : Memory × Nat) p =>
      let (v, g) := f.encode sat p.1
      (t.d.putBits acc.1 t.data (p.2 :: s.tail) v, acc.2 ||| g)) (m, 0)

end Sys2Proof.Machine
end

