-- ==== Sys2Proof/Machine/Regs.lean ====
section
/-! DEFINITION. The register table of a package: one row per register of Table 24-3, with the fields its
defining chapter gives (bits, access code of Table 0-4, reset of R12), and one named `Fld` per field. -/

namespace Sys2Proof.Machine

/-- Access codes of Table 0-4 (R11); reserved bits have no entry. -/
inductive Access | ro | rw | w1c | w1s | rc | wo
  deriving DecidableEq, Repr

/-- Instance scopes of Table 24-3; `root` is per partition with instance 4 per package, `lcore` per logical core. -/
inductive Scope | pkg | part | cl | core | lcore | port | sel | fn | sq | cq | conn | root
  deriving DecidableEq, Repr

/-- Path codes of Table 24-2 (R982). -/
inductive PathCode | b | p | i | ir
  deriving DecidableEq, Repr

/-- The Reset column (R12): a value, from the lineup, from flash or the running image, or no reset alters the
field (its value at first power is given). -/
inductive ResetVal
  | value (v : Nat) | lineup | flash | kept (atPower : Nat)
  deriving DecidableEq, Repr

/-- One field of a register. -/
structure FieldSpec where
  lo : Nat
  width : Nat
  acc : Access
  reset : ResetVal
  deriving DecidableEq, Repr

/-- One row of Table 24-3: `count2` outer instances at `stride2`, each with `count` instances at `stride`. -/
structure RegSpec where
  name : String
  off : Nat
  count : Nat
  stride : Nat
  count2 : Nat
  stride2 : Nat
  width : Nat
  scope : Scope
  path : PathCode
  fields : List FieldSpec
  deriving DecidableEq, Repr

/-- A field of one register instance: the byte offset of its 64-bit cell, its low bit and its width. -/
structure Fld where
  off : Nat
  lo : Nat
  width : Nat
  deriving DecidableEq, Repr

/-- Rows of the register table, part 1. -/
def regTable1 : List RegSpec := [
  { name := "GLB_IDENTITY", off := 0x0, count := 1, stride := 0, count2 := 1, stride2 := 0x0, width := 64,
    scope := .pkg, path := .b, fields := [⟨53, 11, .ro, .lineup⟩, ⟨46, 7, .ro, (.kept 0)⟩, ⟨44, 2, .ro, (.kept 0)⟩, ⟨16, 16, .ro, (.kept 0)⟩, ⟨0, 16, .ro, (.kept 0x7204)⟩] },
  { name := "GLB_CAPS", off := 0x8, count := 1, stride := 0, count2 := 1, stride2 := 0x0, width := 64,
    scope := .pkg, path := .b, fields := [⟨40, 8, .ro, .lineup⟩, ⟨32, 8, .ro, (.kept 0x40)⟩, ⟨24, 8, .ro, (.kept 0x8)⟩, ⟨16, 8, .ro, (.kept 0x30)⟩, ⟨8, 8, .ro, (.kept 0x14)⟩, ⟨4, 4, .ro, (.kept 0x4)⟩, ⟨2, 2, .ro, .lineup⟩] },
  { name := "GLB_BRINGUP", off := 0x10, count := 1, stride := 0, count2 := 1, stride2 := 0x0, width := 64,
    scope := .pkg, path := .b, fields := [⟨48, 16, .ro, (.value 0)⟩, ⟨45, 1, .ro, (.value 0)⟩, ⟨44, 1, .ro, (.value 0)⟩, ⟨43, 1, .ro, (.value 0)⟩, ⟨42, 1, .ro, (.value 0)⟩, ⟨41, 1, .ro, (.value 0)⟩, ⟨40, 1, .ro, (.value 0)⟩, ⟨23, 1, .ro, (.kept 0)⟩, ⟨22, 1, .ro, (.value 0)⟩, ⟨16, 4, .ro, (.value 0)⟩, ⟨0, 4, .ro, (.value 0)⟩] },
  { name := "GLB_BU_MARK", off := 0x24, count := 8, stride := 4, count2 := 1, stride2 := 0x0, width := 32,
    scope := .pkg, path := .b, fields := [⟨0, 32, .ro, (.value 0)⟩] },
  { name := "GLB_CORE_GO", off := 0x48, count := 1, stride := 0, count2 := 1, stride2 := 0x0, width := 32,
    scope := .pkg, path := .i, fields := [⟨0, 1, .wo, (.value 0)⟩] },
  { name := "GLB_PART_READY", off := 0x50, count := 4, stride := 8, count2 := 1, stride2 := 0x0, width := 64,
    scope := .part, path := .ir, fields := [⟨63, 1, .ro, (.value 0)⟩, ⟨62, 1, .rw, (.value 0)⟩, ⟨0, 16, .ro, (.value 0)⟩] },
  { name := "GLB_RACK_READY", off := 0x70, count := 1, stride := 0, count2 := 1, stride2 := 0x0, width := 32,
    scope := .pkg, path := .ir, fields := [⟨31, 1, .rw, (.value 0)⟩, ⟨30, 1, .rw, (.value 0)⟩, ⟨0, 16, .rw, (.value 0)⟩] },
  { name := "GLB_MAP_CLUSTER", off := 0x80, count := 4, stride := 8, count2 := 1, stride2 := 0x0, width := 64,
    scope := .cl, path := .b, fields := [⟨48, 16, .ro, (.value 0)⟩, ⟨32, 16, .ro, (.value 0)⟩, ⟨16, 16, .ro, (.value 0)⟩, ⟨0, 16, .ro, (.value 0)⟩] },
  { name := "GLB_MAP_PERSIST", off := 0xa0, count := 1, stride := 0, count2 := 1, stride2 := 0x0, width := 64,
    scope := .pkg, path := .b, fields := [⟨32, 32, .ro, (.value 0)⟩, ⟨16, 16, .ro, (.value 0)⟩, ⟨2, 1, .ro, (.value 0)⟩, ⟨1, 1, .ro, (.value 0)⟩, ⟨0, 1, .ro, (.value 0)⟩] },
  { name := "GLB_REPAIR_CMD", off := 0xa8, count := 1, stride := 0, count2 := 1, stride2 := 0x0, width := 64,
    scope := .pkg, path := .i, fields := [⟨62, 2, .wo, (.value 0)⟩, ⟨61, 1, .wo, (.value 0)⟩, ⟨0, 7, .wo, (.value 0)⟩] },
  { name := "GLB_MAP_DEFERRED", off := 0xb0, count := 1, stride := 0, count2 := 1, stride2 := 0x0, width := 64,
    scope := .pkg, path := .b, fields := [⟨0, 64, .ro, (.value 0)⟩] },
  { name := "GLB_REPAIR_COUNTS", off := 0xb8, count := 4, stride := 8, count2 := 1, stride2 := 0x0, width := 64,
    scope := .pkg, path := .b, fields := [⟨0, 64, .ro, (.kept 0)⟩] },
  { name := "GLB_REPAIR_STATUS", off := 0xd8, count := 1, stride := 0, count2 := 1, stride2 := 0x0, width := 32,
    scope := .pkg, path := .b, fields := [⟨0, 16, .ro, (.value 0)⟩] },
  { name := "GLB_MAP_ENTRY", off := 0x100, count := 60, stride := 4, count2 := 1, stride2 := 0x0, width := 32,
    scope := .lcore, path := .b, fields := [⟨31, 1, .ro, (.value 0)⟩, ⟨30, 1, .ro, (.value 0)⟩, ⟨29, 1, .ro, (.value 0)⟩, ⟨0, 6, .ro, (.value 0)⟩] },
  { name := "GLB_MGMT", off := 0x200, count := 1, stride := 0, count2 := 1, stride2 := 0x0, width := 32,
    scope := .pkg, path := .ir, fields := [⟨6, 2, .rw, (.value 0)⟩, ⟨5, 1, .rw, (.value 0)⟩, ⟨4, 1, .ro, .lineup⟩, ⟨2, 2, .rw, (.value 0)⟩] },
  { name := "GLB_EXCL_CTL", off := 0x300, count := 4, stride := 8, count2 := 1, stride2 := 0x0, width := 32,
    scope := .part, path := .ir, fields := [⟨31, 1, .rw, (.value 0)⟩, ⟨0, 8, .ro, (.value 0)⟩] },
  { name := "GLB_EXCLUDE", off := 0x400, count := 128, stride := 4, count2 := 4, stride2 := 0x200, width := 32,
    scope := .part, path := .ir, fields := [⟨31, 1, .rw, (.value 0)⟩, ⟨29, 2, .rw, (.value 0)⟩, ⟨7, 11, .rw, (.value 0)⟩, ⟨0, 7, .rw, (.value 0)⟩] },
  { name := "RST_LAST_CAUSE", off := 0x10000, count := 1, stride := 0, count2 := 1, stride2 := 0x0, width := 64,
    scope := .pkg, path := .b, fields := [⟨56, 8, .ro, (.kept 0)⟩, ⟨53, 3, .ro, (.kept 0)⟩, ⟨40, 8, .ro, (.kept 0)⟩, ⟨32, 8, .ro, (.kept 0)⟩] },
  { name := "RST_LAST_HT", off := 0x10008, count := 1, stride := 0, count2 := 1, stride2 := 0x0, width := 64,
    scope := .pkg, path := .b, fields := [⟨0, 64, .ro, (.kept 0)⟩] },
  { name := "RST_CMD", off := 0x10010, count := 1, stride := 0, count2 := 1, stride2 := 0x0, width := 64,
    scope := .pkg, path := .i, fields := [⟨63, 1, .wo, (.value 0)⟩, ⟨56, 3, .wo, (.value 0)⟩, ⟨0, 6, .wo, (.value 0)⟩] },
  { name := "RST_CMD_HT", off := 0x10018, count := 1, stride := 0, count2 := 1, stride2 := 0x0, width := 64,
    scope := .pkg, path := .i, fields := [⟨0, 64, .wo, (.value 0)⟩] },
  { name := "RST_CMD_STATUS", off := 0x10020, count := 1, stride := 0, count2 := 1, stride2 := 0x0, width := 32,
    scope := .pkg, path := .b, fields := [⟨0, 16, .ro, (.value 0)⟩] },
  { name := "RST_STATE", off := 0x10028, count := 1, stride := 0, count2 := 1, stride2 := 0x0, width := 32,
    scope := .pkg, path := .b, fields := [⟨8, 4, .ro, (.value 0)⟩, ⟨4, 4, .ro, (.value 0)⟩, ⟨0, 4, .ro, (.value 0)⟩] },
  { name := "RST_CFG", off := 0x10030, count := 4, stride := 4, count2 := 1, stride2 := 0x0, width := 32,
    scope := .pkg, path := .b, fields := [⟨0, 32, .ro, .lineup⟩] },
  { name := "RST_POLICY", off := 0x10040, count := 1, stride := 0, count2 := 1, stride2 := 0x0, width := 32,
    scope := .pkg, path := .b, fields := [⟨0, 1, .ro, .lineup⟩] },
  { name := "RST_COUNTS", off := 0x10100, count := 9, stride := 8, count2 := 1, stride2 := 0x0, width := 64,
    scope := .pkg, path := .b, fields := [⟨0, 64, .ro, (.kept 0)⟩] },
  { name := "HTM_NOW", off := 0x20000, count := 1, stride := 0, count2 := 1, stride2 := 0x0, width := 64,
    scope := .pkg, path := .b, fields := [⟨0, 64, .ro, (.value 0)⟩] },
  { name := "HTM_STATUS", off := 0x20008, count := 1, stride := 0, count2 := 1, stride2 := 0x0, width := 64,
    scope := .pkg, path := .b, fields := [⟨44, 20, .ro, (.value 0)⟩, ⟨36, 8, .ro, (.value 0xff)⟩, ⟨31, 5, .ro, (.value 0x1f)⟩, ⟨28, 3, .ro, (.value 0)⟩, ⟨26, 2, .ro, (.value 0)⟩, ⟨25, 1, .ro, (.value 0)⟩, ⟨24, 1, .ro, (.value 0)⟩] },
  { name := "HTM_OFFSET", off := 0x20010, count := 1, stride := 0, count2 := 1, stride2 := 0x0, width := 32,
    scope := .pkg, path := .b, fields := [⟨0, 32, .ro, (.value 0x80000000)⟩] },
  { name := "HTM_RATE", off := 0x20018, count := 1, stride := 0, count2 := 1, stride2 := 0x0, width := 32,
    scope := .pkg, path := .b, fields := [⟨0, 32, .ro, (.value 0)⟩] }]

/-- Rows of the register table, part 2. -/
def regTable2 : List RegSpec := [
  { name := "HTM_REF_CTRL", off := 0x20020, count := 1, stride := 0, count2 := 1, stride2 := 0x0, width := 32,
    scope := .pkg, path := .i, fields := [⟨0, 2, .rw, (.value 0)⟩] },
  { name := "HTM_REF_PHASE", off := 0x20028, count := 1, stride := 0, count2 := 1, stride2 := 0x0, width := 32,
    scope := .pkg, path := .b, fields := [⟨0, 31, .ro, .lineup⟩] },
  { name := "HTM_PPS_HT", off := 0x20030, count := 1, stride := 0, count2 := 1, stride2 := 0x0, width := 64,
    scope := .pkg, path := .b, fields := [⟨0, 64, .ro, (.value 0)⟩] },
  { name := "HTM_PPS_TAI", off := 0x20038, count := 1, stride := 0, count2 := 1, stride2 := 0x0, width := 64,
    scope := .pkg, path := .b, fields := [⟨0, 48, .ro, (.value 0)⟩] },
  { name := "HTM_REF_TAI", off := 0x20040, count := 1, stride := 0, count2 := 1, stride2 := 0x0, width := 64,
    scope := .pkg, path := .i, fields := [⟨0, 48, .rw, (.value 0)⟩] },
  { name := "HTM_EVENT", off := 0x20048, count := 1, stride := 0, count2 := 1, stride2 := 0x0, width := 32,
    scope := .pkg, path := .b, fields := [⟨8, 1, .w1c, (.value 0)⟩, ⟨7, 1, .w1c, (.value 0)⟩, ⟨6, 1, .w1c, (.value 0)⟩, ⟨5, 1, .w1c, (.value 0)⟩, ⟨4, 1, .w1c, (.value 0)⟩, ⟨3, 1, .w1c, (.value 0)⟩, ⟨2, 1, .w1c, (.value 0)⟩, ⟨1, 1, .w1c, (.value 0)⟩, ⟨0, 1, .w1c, (.value 0)⟩] },
  { name := "HTM_LATE_COUNT", off := 0x20050, count := 1, stride := 0, count2 := 1, stride2 := 0x0, width := 32,
    scope := .pkg, path := .b, fields := [⟨0, 32, .rc, (.value 0)⟩] },
  { name := "HTM_PORT_DELAY", off := 0x20100, count := 20, stride := 8, count2 := 1, stride2 := 0x0, width := 32,
    scope := .port, path := .b, fields := [⟨31, 1, .ro, (.value 0)⟩, ⟨0, 24, .ro, (.value 0)⟩] },
  { name := "HTM_SCHED_VOLLEY", off := 0x20200, count := 4, stride := 64, count2 := 1, stride2 := 0x0, width := 64,
    scope := .part, path := .b, fields := [⟨0, 64, .ro, (.value 0)⟩] },
  { name := "HTM_STRETCH", off := 0x20208, count := 4, stride := 64, count2 := 1, stride2 := 0x0, width := 32,
    scope := .part, path := .b, fields := [⟨16, 8, .ro, (.value 0)⟩, ⟨8, 8, .ro, (.value 0)⟩, ⟨0, 8, .ro, (.value 0)⟩] },
  { name := "HTM_STRETCH_TOTAL", off := 0x20210, count := 4, stride := 64, count2 := 1, stride2 := 0x0, width := 64,
    scope := .part, path := .b, fields := [⟨0, 64, .ro, (.value 0)⟩] },
  { name := "BOOT_STATE", off := 0x40000, count := 1, stride := 0, count2 := 1, stride2 := 0x0, width := 64,
    scope := .pkg, path := .b, fields := [⟨0, 8, .ro, .flash⟩, ⟨8, 8, .ro, .flash⟩, ⟨16, 8, .ro, .flash⟩, ⟨24, 1, .ro, .flash⟩] },
  { name := "BOOT_FLOORS", off := 0x40008, count := 1, stride := 0, count2 := 1, stride2 := 0x0, width := 64,
    scope := .pkg, path := .b, fields := [⟨24, 8, .ro, (.kept 0)⟩, ⟨16, 8, .ro, (.kept 0)⟩, ⟨8, 8, .ro, (.kept 0)⟩, ⟨0, 8, .ro, (.kept 0)⟩] },
  { name := "BOOT_KEYS", off := 0x40010, count := 1, stride := 0, count2 := 1, stride2 := 0x0, width := 64,
    scope := .pkg, path := .b, fields := [⟨0, 8, .ro, (.kept 0)⟩] },
  { name := "BOOT_RUNNING", off := 0x40018, count := 4, stride := 8, count2 := 1, stride2 := 0x0, width := 64,
    scope := .pkg, path := .b, fields := [⟨48, 16, .ro, .flash⟩, ⟨0, 48, .ro, .flash⟩] },
  { name := "BOOT_ROSTER", off := 0x40040, count := 1, stride := 0, count2 := 1, stride2 := 0x0, width := 64,
    scope := .pkg, path := .b, fields := [⟨0, 64, .ro, .flash⟩] },
  { name := "BOOT_WINDOW", off := 0x40048, count := 1, stride := 0, count2 := 1, stride2 := 0x0, width := 64,
    scope := .pkg, path := .b, fields := [⟨0, 64, .ro, .flash⟩] },
  { name := "BOOT_STAGE_CMD", off := 0x40080, count := 1, stride := 0, count2 := 1, stride2 := 0x0, width := 64,
    scope := .pkg, path := .i, fields := [⟨62, 2, .wo, (.value 0)⟩, ⟨0, 26, .wo, (.value 0)⟩] },
  { name := "BOOT_STAGE_STATUS", off := 0x40088, count := 1, stride := 0, count2 := 1, stride2 := 0x0, width := 64,
    scope := .pkg, path := .b, fields := [⟨16, 1, .ro, (.value 0)⟩, ⟨0, 16, .ro, (.value 0)⟩] },
  { name := "BOOT_CMD", off := 0x40090, count := 1, stride := 0, count2 := 1, stride2 := 0x0, width := 64,
    scope := .pkg, path := .i, fields := [⟨61, 3, .wo, (.value 0)⟩] },
  { name := "BOOT_VOTE", off := 0x40098, count := 1, stride := 0, count2 := 1, stride2 := 0x0, width := 64,
    scope := .pkg, path := .b, fields := [⟨16, 16, .ro, (.value 0)⟩, ⟨0, 1, .ro, (.value 0)⟩] },
  { name := "BOOT_CMD_HT", off := 0x400a0, count := 1, stride := 0, count2 := 1, stride2 := 0x0, width := 64,
    scope := .pkg, path := .i, fields := [⟨0, 64, .wo, (.value 0)⟩] },
  { name := "BOOT_STAGE_BUF", off := 0x41000, count := 512, stride := 8, count2 := 1, stride2 := 0x0, width := 64,
    scope := .pkg, path := .i, fields := [⟨0, 64, .rw, (.value 0)⟩] },
  { name := "LUP_ACTIVE", off := 0x80000, count := 1, stride := 0, count2 := 1, stride2 := 0x0, width := 64,
    scope := .pkg, path := .b, fields := [⟨32, 32, .ro, .lineup⟩, ⟨0, 32, .ro, .lineup⟩] },
  { name := "LUP_VERSION", off := 0x80008, count := 1, stride := 0, count2 := 1, stride2 := 0x0, width := 64,
    scope := .pkg, path := .b, fields := [⟨48, 16, .ro, .lineup⟩, ⟨0, 48, .ro, .lineup⟩] },
  { name := "LUP_STATE", off := 0x80010, count := 1, stride := 0, count2 := 1, stride2 := 0x0, width := 32,
    scope := .pkg, path := .b, fields := [⟨5, 1, .w1c, (.value 0)⟩, ⟨4, 1, .ro, (.value 0)⟩, ⟨0, 3, .ro, (.value 0)⟩] },
  { name := "LUP_CHECK", off := 0x80018, count := 1, stride := 0, count2 := 1, stride2 := 0x0, width := 64,
    scope := .pkg, path := .b, fields := [⟨48, 16, .ro, (.value 0)⟩, ⟨32, 16, .ro, (.value 0)⟩, ⟨0, 32, .ro, (.value 0)⟩] },
  { name := "LUP_PLACE", off := 0x80028, count := 1, stride := 0, count2 := 1, stride2 := 0x0, width := 32,
    scope := .pkg, path := .b, fields := [⟨16, 11, .ro, .lineup⟩, ⟨8, 6, .ro, .lineup⟩, ⟨0, 4, .ro, .lineup⟩] },
  { name := "LUP_STAGED", off := 0x80108, count := 1, stride := 0, count2 := 1, stride2 := 0x0, width := 64,
    scope := .pkg, path := .b, fields := [⟨32, 32, .ro, (.value 0)⟩, ⟨16, 1, .ro, (.value 0)⟩, ⟨0, 16, .ro, (.value 0)⟩] },
  { name := "LUP_PENDING", off := 0x80118, count := 1, stride := 0, count2 := 1, stride2 := 0x0, width := 64,
    scope := .pkg, path := .b, fields := [⟨48, 16, .ro, (.value 0)⟩, ⟨0, 43, .ro, (.value 0)⟩] }]

/-- Rows of the register table, part 3. -/
def regTable3 : List RegSpec := [
  { name := "LUP_RACK_SERIAL", off := 0x80020, count := 1, stride := 0, count2 := 1, stride2 := 0x0, width := 64,
    scope := .pkg, path := .i, fields := [⟨0, 64, .rw, (.kept 0)⟩] },
  { name := "LUP_STAGE", off := 0x80100, count := 1, stride := 0, count2 := 1, stride2 := 0x0, width := 32,
    scope := .pkg, path := .i, fields := [⟨30, 2, .wo, (.value 0)⟩, ⟨0, 1, .wo, (.value 0)⟩] },
  { name := "LUP_APPLY", off := 0x80110, count := 1, stride := 0, count2 := 1, stride2 := 0x0, width := 64,
    scope := .pkg, path := .i, fields := [⟨0, 43, .wo, (.value 0)⟩] },
  { name := "LUP_PART", off := 0x80040, count := 4, stride := 8, count2 := 1, stride2 := 0x0, width := 64,
    scope := .part, path := .b, fields := [⟨32, 32, .ro, .lineup⟩, ⟨19, 13, .ro, .lineup⟩, ⟨0, 4, .ro, .lineup⟩] },
  { name := "LNK_STATE", off := 0x100000, count := 1, stride := 0, count2 := 20, stride2 := 0x4000, width := 64,
    scope := .port, path := .b, fields := [⟨32, 15, .ro, (.value 0)⟩, ⟨26, 5, .ro, (.value 0)⟩, ⟨21, 5, .ro, (.value 0)⟩, ⟨16, 5, .ro, (.value 0)⟩, ⟨12, 3, .ro, (.value 0)⟩, ⟨8, 3, .ro, (.value 0)⟩, ⟨6, 1, .ro, (.value 0x1)⟩, ⟨5, 1, .ro, (.value 0)⟩, ⟨4, 1, .ro, (.value 0)⟩, ⟨0, 4, .ro, (.value 0)⟩] },
  { name := "LNK_PEER_EXP", off := 0x100008, count := 1, stride := 0, count2 := 20, stride2 := 0x4000, width := 64,
    scope := .port, path := .b, fields := [⟨0, 64, .ro, .lineup⟩] },
  { name := "LNK_PEER_SEEN", off := 0x100010, count := 1, stride := 0, count2 := 20, stride2 := 0x4000, width := 64,
    scope := .port, path := .b, fields := [⟨0, 64, .ro, (.value 0)⟩] },
  { name := "LNK_LANE", off := 0x100020, count := 5, stride := 8, count2 := 20, stride2 := 0x4000, width := 64,
    scope := .port, path := .b, fields := [⟨32, 32, .ro, (.value 0)⟩, ⟨30, 2, .ro, (.value 0)⟩, ⟨28, 2, .ro, (.value 0)⟩, ⟨24, 4, .ro, (.value 0)⟩] },
  { name := "LNK_CTRL", off := 0x100048, count := 1, stride := 0, count2 := 20, stride2 := 0x4000, width := 32,
    scope := .port, path := .i, fields := [⟨4, 1, .rw, (.value 0)⟩, ⟨3, 1, .wo, (.value 0)⟩, ⟨2, 1, .wo, (.value 0)⟩, ⟨1, 1, .wo, (.value 0)⟩, ⟨0, 1, .wo, (.value 0)⟩] },
  { name := "LNK_COUNTS", off := 0x100050, count := 5, stride := 8, count2 := 20, stride2 := 0x4000, width := 64,
    scope := .port, path := .b, fields := [⟨0, 64, .ro, (.kept 0)⟩] },
  { name := "LNK_EVENT", off := 0x100080, count := 1, stride := 0, count2 := 20, stride2 := 0x4000, width := 32,
    scope := .port, path := .b, fields := [⟨8, 1, .w1c, (.value 0)⟩, ⟨7, 1, .w1c, (.value 0)⟩, ⟨6, 1, .w1c, (.value 0)⟩, ⟨5, 1, .w1c, (.value 0)⟩, ⟨4, 1, .w1c, (.value 0)⟩, ⟨3, 1, .w1c, (.value 0)⟩, ⟨2, 1, .w1c, (.value 0)⟩, ⟨1, 1, .w1c, (.value 0)⟩, ⟨0, 1, .w1c, (.value 0)⟩] },
  { name := "LNK_H_STATE", off := 0x150000, count := 1, stride := 0, count2 := 1, stride2 := 0x0, width := 64,
    scope := .pkg, path := .b, fields := [⟨0, 4, .ro, (.value 0)⟩] },
  { name := "LNK_S_STATE", off := 0x154000, count := 1, stride := 0, count2 := 1, stride2 := 0x0, width := 64,
    scope := .pkg, path := .b, fields := [⟨0, 4, .ro, (.value 0)⟩, ⟨8, 1, .ro, (.value 0)⟩] },
  { name := "LNK_MAP", off := 0x180000, count := 9, stride := 8, count2 := 1, stride2 := 0x0, width := 64,
    scope := .pkg, path := .b, fields := [⟨0, 64, .ro, (.value 0xffffffffffffffff)⟩] },
  { name := "LNK_MAINT", off := 0x180100, count := 1, stride := 0, count2 := 1, stride2 := 0x0, width := 32,
    scope := .pkg, path := .i, fields := [⟨0, 1, .rw, (.value 0)⟩] },
  { name := "LNK_HALL_POS", off := 0x180200, count := 1, stride := 0, count2 := 1, stride2 := 0x0, width := 64,
    scope := .pkg, path := .b, fields := [⟨40, 8, .ro, .lineup⟩, ⟨32, 8, .ro, .lineup⟩, ⟨6, 5, .ro, .lineup⟩, ⟨0, 6, .ro, .lineup⟩] },
  { name := "LNK_ROW_MAP", off := 0x180208, count := 1, stride := 0, count2 := 1, stride2 := 0x0, width := 64,
    scope := .pkg, path := .b, fields := [⟨0, 64, .ro, (.value 0xffffffffffffffff)⟩] },
  { name := "LNK_HRING_MAP", off := 0x180210, count := 1, stride := 0, count2 := 1, stride2 := 0x0, width := 32,
    scope := .pkg, path := .b, fields := [⟨0, 32, .ro, (.value 0xffffffff)⟩] },
  { name := "LNK_HALL_COUNTS", off := 0x180218, count := 2, stride := 8, count2 := 1, stride2 := 0x0, width := 64,
    scope := .pkg, path := .b, fields := [⟨0, 64, .ro, (.value 0)⟩] },
  { name := "FAB_LIMITS", off := 0x200000, count := 1, stride := 0, count2 := 1, stride2 := 0x0, width := 64,
    scope := .pkg, path := .b, fields := [⟨32, 32, .ro, (.value 0x3d0900)⟩, ⟨0, 32, .ro, (.value 0x186a0)⟩] },
  { name := "FAB_WATERMARK", off := 0x200008, count := 1, stride := 0, count2 := 1, stride2 := 0x0, width := 32,
    scope := .pkg, path := .b, fields := [⟨16, 16, .ro, (.value 0xc0)⟩, ⟨0, 16, .ro, (.value 0x40)⟩] },
  { name := "FAB_CHAN_VA", off := 0x200100, count := 4, stride := 64, count2 := 1, stride2 := 0x0, width := 64,
    scope := .part, path := .p, fields := [⟨14, 42, .rw, (.value 0)⟩] },
  { name := "FAB_TMPL_VA", off := 0x200108, count := 4, stride := 64, count2 := 1, stride2 := 0x0, width := 64,
    scope := .part, path := .p, fields := [⟨6, 50, .rw, (.value 0)⟩] },
  { name := "FAB_TMPL_CFG", off := 0x200110, count := 4, stride := 64, count2 := 1, stride2 := 0x0, width := 64,
    scope := .part, path := .p, fields := [⟨32, 13, .rw, (.value 0)⟩, ⟨0, 20, .rw, (.value 0)⟩] },
  { name := "FAB_LOAD", off := 0x200118, count := 4, stride := 64, count2 := 1, stride2 := 0x0, width := 64,
    scope := .part, path := .p, fields := [⟨0, 43, .wo, (.value 0)⟩] },
  { name := "FAB_LOAD_STATUS", off := 0x200120, count := 4, stride := 64, count2 := 1, stride2 := 0x0, width := 32,
    scope := .part, path := .b, fields := [⟨16, 1, .ro, (.value 0)⟩, ⟨0, 16, .ro, (.value 0)⟩] },
  { name := "FAB_SLOTS", off := 0x200400, count := 20, stride := 4, count2 := 4, stride2 := 0x100, width := 32,
    scope := .part, path := .b, fields := [⟨16, 8, .ro, .lineup⟩, ⟨0, 9, .ro, .lineup⟩] },
  { name := "FAB_COUNTS", off := 0x200800, count := 13, stride := 8, count2 := 1, stride2 := 0x0, width := 64,
    scope := .pkg, path := .b, fields := [⟨0, 64, .ro, (.value 0)⟩] },
  { name := "FAB_WIN", off := 0x200900, count := 1, stride := 0, count2 := 1, stride2 := 0x0, width := 32,
    scope := .pkg, path := .b, fields := [⟨16, 14, .ro, (.value 0)⟩, ⟨0, 14, .ro, (.value 0)⟩] },
  { name := "FAB_EVENT", off := 0x200a00, count := 1, stride := 0, count2 := 1, stride2 := 0x0, width := 32,
    scope := .pkg, path := .b, fields := [⟨4, 1, .w1c, (.value 0)⟩, ⟨3, 1, .w1c, (.value 0)⟩, ⟨2, 1, .w1c, (.value 0)⟩, ⟨1, 1, .w1c, (.value 0)⟩, ⟨0, 1, .w1c, (.value 0)⟩] }]

/-- Rows of the register table, part 4. -/
def regTable4 : List RegSpec := [
  { name := "FAB_PQ", off := 0x201000, count := 20, stride := 64, count2 := 1, stride2 := 0x0, width := 32,
    scope := .port, path := .b, fields := [⟨31, 1, .ro, (.value 0)⟩, ⟨30, 1, .ro, (.value 0)⟩, ⟨0, 19, .ro, (.value 0)⟩] },
  { name := "FAB_LET_STATE", off := 0x201008, count := 20, stride := 64, count2 := 1, stride2 := 0x0, width := 32,
    scope := .port, path := .b, fields := [⟨16, 2, .ro, (.value 0)⟩, ⟨7, 4, .ro, (.value 0)⟩, ⟨0, 7, .ro, (.value 0)⟩] },
  { name := "FAB_LETS", off := 0x201010, count := 20, stride := 64, count2 := 1, stride2 := 0x0, width := 64,
    scope := .port, path := .b, fields := [⟨0, 64, .ro, (.kept 0)⟩] },
  { name := "FAB_CREDITS", off := 0x201018, count := 20, stride := 64, count2 := 1, stride2 := 0x0, width := 32,
    scope := .port, path := .b, fields := [⟨0, 10, .ro, (.value 0)⟩] },
  { name := "COL_THRESH", off := 0x300000, count := 1, stride := 0, count2 := 1, stride2 := 0x0, width := 64,
    scope := .pkg, path := .b, fields := [⟨32, 32, .ro, .lineup⟩, ⟨0, 32, .ro, .lineup⟩] },
  { name := "COL_TIMEOUT_DEF", off := 0x300008, count := 1, stride := 0, count2 := 1, stride2 := 0x0, width := 32,
    scope := .pkg, path := .b, fields := [⟨0, 32, .ro, .lineup⟩] },
  { name := "COL_STAGE", off := 0x300010, count := 1, stride := 0, count2 := 1, stride2 := 0x0, width := 64,
    scope := .pkg, path := .b, fields := [⟨32, 32, .ro, (.value 0)⟩, ⟨0, 32, .ro, (.value 0)⟩] },
  { name := "COL_COUNTS", off := 0x300100, count := 6, stride := 8, count2 := 1, stride2 := 0x0, width := 64,
    scope := .pkg, path := .b, fields := [⟨0, 64, .ro, (.value 0)⟩] },
  { name := "COL_EVENT", off := 0x300200, count := 1, stride := 0, count2 := 1, stride2 := 0x0, width := 32,
    scope := .pkg, path := .b, fields := [⟨3, 1, .w1c, (.value 0)⟩, ⟨2, 1, .w1c, (.value 0)⟩, ⟨1, 1, .w1c, (.value 0)⟩, ⟨0, 1, .w1c, (.value 0)⟩] },
  { name := "COL_WIN_VA", off := 0x301000, count := 4, stride := 256, count2 := 1, stride2 := 0x0, width := 64,
    scope := .part, path := .p, fields := [⟨6, 50, .rw, (.value 0)⟩] },
  { name := "COL_WIN_CMD", off := 0x301008, count := 4, stride := 256, count2 := 1, stride2 := 0x0, width := 64,
    scope := .part, path := .p, fields := [⟨62, 2, .wo, (.value 0)⟩, ⟨0, 12, .wo, (.value 0)⟩] },
  { name := "COL_WIN_TICKET", off := 0x301010, count := 4, stride := 256, count2 := 1, stride2 := 0x0, width := 64,
    scope := .part, path := .b, fields := [⟨32, 32, .ro, (.value 0)⟩, ⟨0, 32, .ro, (.value 0)⟩] },
  { name := "COL_WIN_STATUS", off := 0x301018, count := 4, stride := 256, count2 := 1, stride2 := 0x0, width := 32,
    scope := .part, path := .b, fields := [⟨16, 12, .ro, (.value 0)⟩, ⟨0, 16, .ro, (.value 0)⟩] },
  { name := "COL_CALL_VA", off := 0x301020, count := 4, stride := 256, count2 := 1, stride2 := 0x0, width := 64,
    scope := .part, path := .p, fields := [⟨6, 50, .rw, (.value 0)⟩] },
  { name := "COL_CALL_LOAD", off := 0x301028, count := 4, stride := 256, count2 := 1, stride2 := 0x0, width := 64,
    scope := .part, path := .p, fields := [⟨0, 43, .wo, (.value 0)⟩] },
  { name := "COL_CALL_STATUS", off := 0x301030, count := 4, stride := 256, count2 := 1, stride2 := 0x0, width := 64,
    scope := .part, path := .b, fields := [⟨48, 10, .ro, (.value 0)⟩, ⟨32, 5, .ro, (.value 0)⟩, ⟨16, 1, .ro, (.value 0)⟩, ⟨0, 16, .ro, (.value 0)⟩] },
  { name := "COL_CALL_STAT", off := 0x310000, count := 1024, stride := 8, count2 := 4, stride2 := 0x2000, width := 64,
    scope := .part, path := .b, fields := [⟨32, 32, .ro, (.value 0)⟩, ⟨16, 2, .ro, (.value 0)⟩, ⟨0, 16, .ro, (.value 0)⟩] },
  { name := "XLT_ROOT", off := 0x400000, count := 5, stride := 8, count2 := 1, stride2 := 0x0, width := 64,
    scope := .root, path := .b, fields := [⟨20, 26, .rw, (.value 0)⟩, ⟨0, 1, .rw, (.value 0)⟩] },
  { name := "XLT_BAR2_VBASE", off := 0x400040, count := 5, stride := 8, count2 := 1, stride2 := 0x0, width := 64,
    scope := .root, path := .b, fields := [⟨12, 44, .rw, (.value 0)⟩] },
  { name := "XLT_PART_CFG", off := 0x400080, count := 4, stride := 8, count2 := 1, stride2 := 0x0, width := 64,
    scope := .part, path := .b, fields := [⟨48, 1, .ro, .lineup⟩, ⟨32, 9, .ro, .lineup⟩, ⟨0, 9, .ro, .lineup⟩] },
  { name := "XLT_KV_BASE", off := 0x4000c0, count := 4, stride := 8, count2 := 1, stride2 := 0x0, width := 64,
    scope := .part, path := .b, fields := [⟨49, 7, .ro, .lineup⟩] },
  { name := "XLT_INV_ADDR", off := 0x400100, count := 1, stride := 0, count2 := 1, stride2 := 0x0, width := 64,
    scope := .pkg, path := .b, fields := [⟨12, 44, .rw, (.value 0)⟩] },
  { name := "XLT_INV_CMD", off := 0x400108, count := 1, stride := 0, count2 := 1, stride2 := 0x0, width := 64,
    scope := .pkg, path := .b, fields := [⟨32, 32, .wo, (.value 0)⟩, ⟨4, 3, .wo, (.value 0)⟩, ⟨0, 2, .wo, (.value 0)⟩] },
  { name := "XLT_INV_TICKET", off := 0x400110, count := 1, stride := 0, count2 := 1, stride2 := 0x0, width := 64,
    scope := .pkg, path := .b, fields := [⟨32, 32, .ro, (.value 0)⟩, ⟨0, 32, .ro, (.value 0)⟩] },
  { name := "XLT_EVENT", off := 0x400118, count := 1, stride := 0, count2 := 1, stride2 := 0x0, width := 32,
    scope := .pkg, path := .b, fields := [⟨2, 1, .w1c, (.value 0)⟩, ⟨1, 1, .w1c, (.value 0)⟩, ⟨0, 1, .w1c, (.value 0)⟩] },
  { name := "XLT_STATS", off := 0x400120, count := 3, stride := 8, count2 := 1, stride2 := 0x0, width := 64,
    scope := .pkg, path := .b, fields := [⟨0, 64, .ro, (.value 0)⟩] },
  { name := "XLT_FAULT_PTR", off := 0x400140, count := 1, stride := 0, count2 := 1, stride2 := 0x0, width := 32,
    scope := .pkg, path := .b, fields := [⟨16, 16, .ro, (.value 0)⟩, ⟨0, 6, .ro, (.value 0)⟩] },
  { name := "XLT_FAULT_REC", off := 0x401000, count := 64, stride := 32, count2 := 1, stride2 := 0x0, width := 256,
    scope := .pkg, path := .b, fields := [⟨192, 64, .ro, (.value 0)⟩, ⟨128, 8, .ro, (.value 0)⟩, ⟨96, 32, .ro, (.value 0)⟩, ⟨80, 16, .ro, (.value 0)⟩, ⟨77, 3, .ro, (.value 0)⟩, ⟨74, 3, .ro, (.value 0)⟩, ⟨72, 2, .ro, (.value 0)⟩, ⟨0, 56, .ro, (.value 0)⟩] },
  { name := "MOE_PART_CFG", off := 0x500000, count := 4, stride := 64, count2 := 1, stride2 := 0x0, width := 64,
    scope := .part, path := .b, fields := [⟨32, 32, .ro, .lineup⟩, ⟨16, 8, .ro, .lineup⟩, ⟨1, 1, .ro, .lineup⟩, ⟨0, 1, .ro, .lineup⟩] },
  { name := "MOE_PART_LIM", off := 0x500008, count := 4, stride := 64, count2 := 1, stride2 := 0x0, width := 64,
    scope := .part, path := .b, fields := [⟨32, 32, .ro, .lineup⟩, ⟨0, 32, .ro, .lineup⟩] }]

/-- Rows of the register table, part 5. -/
def regTable5 : List RegSpec := [
  { name := "MOE_GEN", off := 0x500010, count := 4, stride := 64, count2 := 1, stride2 := 0x0, width := 32,
    scope := .part, path := .b, fields := [⟨0, 32, .ro, (.value 0)⟩] },
  { name := "MOE_STATS", off := 0x500018, count := 3, stride := 8, count2 := 4, stride2 := 0x40, width := 64,
    scope := .part, path := .b, fields := [⟨0, 64, .ro, (.value 0)⟩] },
  { name := "MOE_LAYER_SEL", off := 0x500100, count := 1, stride := 0, count2 := 1, stride2 := 0x0, width := 32,
    scope := .pkg, path := .b, fields := [⟨8, 2, .rw, (.value 0)⟩, ⟨0, 8, .rw, (.value 0)⟩] },
  { name := "MOE_LAYER_CFG", off := 0x500108, count := 1, stride := 0, count2 := 1, stride2 := 0x0, width := 64,
    scope := .sel, path := .b, fields := [⟨48, 16, .rw, (.value 0)⟩, ⟨35, 13, .rw, (.value 0)⟩, ⟨25, 10, .rw, (.value 0)⟩, ⟨14, 11, .rw, (.value 0)⟩, ⟨1, 1, .rw, (.value 0)⟩, ⟨0, 1, .rw, (.value 0)⟩] },
  { name := "MOE_LAYER_VA", off := 0x500110, count := 3, stride := 8, count2 := 1, stride2 := 0x0, width := 64,
    scope := .sel, path := .b, fields := [⟨6, 50, .rw, (.value 0)⟩] },
  { name := "MOE_LAYER_PLAN", off := 0x500128, count := 1, stride := 0, count2 := 1, stride2 := 0x0, width := 32,
    scope := .sel, path := .b, fields := [⟨16, 16, .rw, (.value 0)⟩, ⟨0, 12, .rw, (.value 0)⟩] },
  { name := "MOE_BIAS_COMMIT", off := 0x500200, count := 1, stride := 0, count2 := 1, stride2 := 0x0, width := 64,
    scope := .pkg, path := .p, fields := [⟨0, 43, .wo, (.value 0)⟩] },
  { name := "MOE_PLAN_ADDR", off := 0x500300, count := 4, stride := 64, count2 := 1, stride2 := 0x0, width := 64,
    scope := .part, path := .p, fields := [⟨6, 50, .rw, (.value 0)⟩] },
  { name := "MOE_PLAN_GO", off := 0x500308, count := 4, stride := 64, count2 := 1, stride2 := 0x0, width := 64,
    scope := .part, path := .p, fields := [⟨32, 32, .wo, (.value 0)⟩, ⟨0, 32, .wo, (.value 0)⟩] },
  { name := "MOE_PLAN_STATUS", off := 0x500310, count := 4, stride := 64, count2 := 1, stride2 := 0x0, width := 64,
    scope := .part, path := .b, fields := [⟨32, 32, .ro, (.value 0)⟩, ⟨0, 16, .ro, (.value 0)⟩] },
  { name := "MOE_EVENT", off := 0x500400, count := 1, stride := 0, count2 := 1, stride2 := 0x0, width := 32,
    scope := .pkg, path := .b, fields := [⟨5, 1, .w1c, (.value 0)⟩, ⟨4, 1, .w1c, (.value 0)⟩, ⟨3, 1, .w1c, (.value 0)⟩, ⟨2, 1, .w1c, (.value 0)⟩, ⟨1, 1, .w1c, (.value 0)⟩, ⟨0, 1, .w1c, (.value 0)⟩] },
  { name := "MOE_BIAS", off := 0x501000, count := 1024, stride := 4, count2 := 1, stride2 := 0x0, width := 32,
    scope := .sel, path := .b, fields := [⟨0, 32, .ro, (.value 0)⟩] },
  { name := "MOE_BIAS_STAGE", off := 0x502000, count := 1024, stride := 4, count2 := 1, stride2 := 0x0, width := 32,
    scope := .sel, path := .p, fields := [⟨0, 32, .rw, (.value 0)⟩] },
  { name := "MOE_LOAD", off := 0x503000, count := 1024, stride := 8, count2 := 1, stride2 := 0x0, width := 64,
    scope := .sel, path := .b, fields := [⟨0, 64, .ro, (.value 0)⟩] },
  { name := "PWR_STATUS", off := 0x600000, count := 1, stride := 0, count2 := 1, stride2 := 0x0, width := 64,
    scope := .pkg, path := .b, fields := [⟨48, 16, .ro, (.value 0xa28)⟩, ⟨32, 16, .ro, (.value 0xa28)⟩, ⟨16, 16, .ro, (.value 0)⟩, ⟨8, 4, .ro, (.value 0)⟩, ⟨4, 4, .ro, (.value 0)⟩, ⟨0, 1, .ro, .lineup⟩] },
  { name := "PWR_INPUT", off := 0x600008, count := 1, stride := 0, count2 := 1, stride2 := 0x0, width := 64,
    scope := .pkg, path := .b, fields := [⟨48, 16, .ro, (.value 0)⟩, ⟨0, 32, .ro, (.value 0)⟩] },
  { name := "PWR_RAMP_REF", off := 0x600010, count := 1, stride := 0, count2 := 1, stride2 := 0x0, width := 32,
    scope := .pkg, path := .b, fields := [⟨0, 32, .ro, (.value 0)⟩] },
  { name := "PWR_SHARE", off := 0x600018, count := 1, stride := 0, count2 := 1, stride2 := 0x0, width := 32,
    scope := .pkg, path := .i, fields := [⟨0, 16, .rw, (.value 0)⟩] },
  { name := "PWR_TRAY_LIMIT", off := 0x600020, count := 1, stride := 0, count2 := 1, stride2 := 0x0, width := 32,
    scope := .pkg, path := .i, fields := [⟨0, 16, .rw, (.value 0)⟩] },
  { name := "PWR_CFG", off := 0x600028, count := 1, stride := 0, count2 := 1, stride2 := 0x0, width := 64,
    scope := .pkg, path := .b, fields := [⟨48, 16, .ro, .lineup⟩, ⟨32, 16, .ro, .lineup⟩, ⟨16, 16, .ro, .lineup⟩, ⟨8, 8, .ro, .lineup⟩, ⟨1, 1, .ro, .lineup⟩, ⟨0, 1, .ro, .lineup⟩] },
  { name := "PWR_PART", off := 0x600040, count := 4, stride := 8, count2 := 1, stride2 := 0x0, width := 64,
    scope := .part, path := .b, fields := [⟨48, 16, .ro, .lineup⟩, ⟨32, 4, .ro, (.value 0)⟩, ⟨0, 32, .ro, (.value 0)⟩] },
  { name := "PWR_CLUSTER", off := 0x600080, count := 4, stride := 8, count2 := 1, stride2 := 0x0, width := 64,
    scope := .cl, path := .b, fields := [⟨48, 16, .ro, (.value 0x258)⟩, ⟨40, 8, .ro, (.value 0x2)⟩, ⟨36, 4, .ro, (.kept 0)⟩, ⟨32, 4, .ro, (.value 0)⟩, ⟨0, 32, .ro, (.value 0)⟩] },
  { name := "PWR_RAIL", off := 0x600100, count := 11, stride := 8, count2 := 1, stride2 := 0x0, width := 64,
    scope := .pkg, path := .b, fields := [⟨48, 16, .ro, (.value 0)⟩, ⟨32, 16, .ro, (.value 0)⟩, ⟨0, 2, .ro, (.value 0)⟩] },
  { name := "PWR_ENERGY", off := 0x600400, count := 7, stride := 8, count2 := 1, stride2 := 0x0, width := 64,
    scope := .pkg, path := .b, fields := [⟨0, 64, .ro, (.value 0)⟩] },
  { name := "PWR_COUNTS", off := 0x600500, count := 7, stride := 8, count2 := 1, stride2 := 0x0, width := 64,
    scope := .pkg, path := .b, fields := [⟨0, 64, .ro, (.value 0)⟩] },
  { name := "PWR_EVENT", off := 0x600600, count := 1, stride := 0, count2 := 1, stride2 := 0x0, width := 32,
    scope := .pkg, path := .b, fields := [⟨4, 1, .w1c, (.value 0)⟩, ⟨3, 1, .w1c, (.value 0)⟩, ⟨2, 1, .w1c, (.value 0)⟩, ⟨1, 1, .w1c, (.value 0)⟩, ⟨0, 1, .w1c, (.value 0)⟩] },
  { name := "THM_STATUS", off := 0x700000, count := 1, stride := 0, count2 := 1, stride2 := 0x0, width := 64,
    scope := .pkg, path := .b, fields := [⟨56, 8, .ro, (.value 0)⟩, ⟨48, 8, .ro, (.value 0)⟩, ⟨40, 8, .ro, (.value 0)⟩, ⟨0, 3, .ro, (.value 0)⟩] },
  { name := "THM_SUPPLY", off := 0x700008, count := 1, stride := 0, count2 := 1, stride2 := 0x0, width := 32,
    scope := .pkg, path := .ir, fields := [⟨31, 1, .ro, (.value 0)⟩, ⟨20, 11, .rw, (.value 0)⟩, ⟨0, 16, .rw, (.value 0)⟩] },
  { name := "THM_THETA", off := 0x700010, count := 1, stride := 0, count2 := 1, stride2 := 0x0, width := 64,
    scope := .pkg, path := .b, fields := [⟨32, 32, .ro, (.value 0)⟩, ⟨16, 16, .ro, (.value 0)⟩, ⟨8, 8, .ro, (.value 0)⟩] },
  { name := "THM_FOLLOW", off := 0x700018, count := 1, stride := 0, count2 := 1, stride2 := 0x0, width := 32,
    scope := .pkg, path := .b, fields := [⟨0, 16, .ro, (.value 0)⟩] }]

/-- Rows of the register table, part 6. -/
def regTable6 : List RegSpec := [
  { name := "THM_CFG", off := 0x700020, count := 1, stride := 0, count2 := 1, stride2 := 0x0, width := 64,
    scope := .pkg, path := .b, fields := [⟨0, 8, .ro, .lineup⟩, ⟨8, 8, .ro, .lineup⟩, ⟨16, 8, .ro, .lineup⟩, ⟨24, 8, .ro, .lineup⟩, ⟨32, 8, .ro, .lineup⟩, ⟨40, 8, .ro, .lineup⟩, ⟨48, 8, .ro, .lineup⟩] },
  { name := "THM_BASELINE", off := 0x700028, count := 1, stride := 0, count2 := 1, stride2 := 0x0, width := 32,
    scope := .pkg, path := .b, fields := [⟨0, 16, .ro, .lineup⟩] },
  { name := "THM_HOLD_CTRL", off := 0x700030, count := 1, stride := 0, count2 := 1, stride2 := 0x0, width := 32,
    scope := .pkg, path := .ir, fields := [⟨16, 16, .ro, (.value 0)⟩, ⟨0, 1, .wo, (.value 0)⟩] },
  { name := "THM_CORE", off := 0x700100, count := 64, stride := 4, count2 := 1, stride2 := 0x0, width := 32,
    scope := .core, path := .b, fields := [⟨24, 8, .ro, (.value 0)⟩, ⟨20, 4, .ro, (.value 0)⟩] },
  { name := "THM_HUB", off := 0x700200, count := 1, stride := 0, count2 := 1, stride2 := 0x0, width := 32,
    scope := .pkg, path := .b, fields := [⟨0, 8, .ro, (.value 0)⟩, ⟨8, 4, .ro, (.value 0)⟩] },
  { name := "THM_LOST", off := 0x700300, count := 4, stride := 8, count2 := 1, stride2 := 0x0, width := 64,
    scope := .part, path := .b, fields := [⟨32, 32, .ro, (.value 0)⟩, ⟨0, 8, .ro, (.value 0)⟩] },
  { name := "THM_CYCLE", off := 0x700400, count := 1, stride := 0, count2 := 1, stride2 := 0x0, width := 32,
    scope := .pkg, path := .b, fields := [⟨0, 16, .ro, (.value 0)⟩] },
  { name := "THM_EVENT", off := 0x700500, count := 1, stride := 0, count2 := 1, stride2 := 0x0, width := 32,
    scope := .pkg, path := .b, fields := [⟨5, 1, .w1c, (.value 0)⟩, ⟨4, 1, .w1c, (.value 0)⟩, ⟨3, 1, .w1c, (.value 0)⟩, ⟨2, 1, .w1c, (.value 0)⟩, ⟨1, 1, .w1c, (.value 0)⟩, ⟨0, 1, .w1c, (.value 0)⟩] },
  { name := "THM_COUNTS", off := 0x700600, count := 5, stride := 8, count2 := 1, stride2 := 0x0, width := 64,
    scope := .pkg, path := .b, fields := [⟨0, 64, .ro, (.value 0)⟩] },
  { name := "HBM_STACK", off := 0x800000, count := 8, stride := 256, count2 := 1, stride2 := 0x0, width := 64,
    scope := .pkg, path := .b, fields := [⟨40, 8, .ro, (.value 0)⟩, ⟨32, 8, .ro, (.kept 0)⟩, ⟨8, 8, .ro, (.kept 0x30)⟩, ⟨0, 2, .ro, (.value 0)⟩] },
  { name := "HBM_ECC", off := 0x800008, count := 8, stride := 256, count2 := 1, stride2 := 0x0, width := 64,
    scope := .pkg, path := .b, fields := [⟨32, 32, .ro, (.kept 0)⟩, ⟨1, 31, .ro, (.kept 0)⟩, ⟨0, 1, .w1c, (.value 0)⟩] },
  { name := "HBM_UE_ADDR", off := 0x800010, count := 8, stride := 256, count2 := 1, stride2 := 0x0, width := 64,
    scope := .pkg, path := .b, fields := [⟨6, 40, .ro, (.value 0)⟩] },
  { name := "HBM_BYTES", off := 0x800800, count := 2, stride := 8, count2 := 1, stride2 := 0x0, width := 64,
    scope := .pkg, path := .b, fields := [⟨0, 64, .ro, (.value 0)⟩] },
  { name := "CORE_IDENT", off := 0x1000000, count := 1, stride := 0, count2 := 64, stride2 := 0x40000, width := 32,
    scope := .core, path := .b, fields := [⟨24, 8, .ro, .lineup⟩, ⟨22, 2, .ro, .lineup⟩, ⟨21, 1, .ro, .lineup⟩, ⟨0, 6, .ro, (.kept 0)⟩] },
  { name := "CORE_STATUS", off := 0x1000008, count := 1, stride := 0, count2 := 64, stride2 := 0x40000, width := 32,
    scope := .core, path := .b, fields := [⟨16, 16, .ro, (.value 0)⟩, ⟨4, 1, .ro, (.value 0)⟩, ⟨0, 3, .ro, (.value 0)⟩] },
  { name := "CORE_CLOCK", off := 0x1000010, count := 1, stride := 0, count2 := 64, stride2 := 0x40000, width := 32,
    scope := .core, path := .b, fields := [⟨16, 16, .ro, (.value 0x5dc)⟩, ⟨8, 4, .ro, (.value 0)⟩, ⟨0, 1, .ro, .lineup⟩] },
  { name := "CORE_BIST", off := 0x1000018, count := 1, stride := 0, count2 := 64, stride2 := 0x40000, width := 32,
    scope := .core, path := .b, fields := [⟨26, 6, .ro, (.value 0)⟩, ⟨8, 6, .ro, (.value 0)⟩, ⟨4, 4, .ro, (.kept 0)⟩, ⟨0, 2, .ro, (.value 0)⟩] },
  { name := "CORE_LS_ECC", off := 0x1000020, count := 1, stride := 0, count2 := 64, stride2 := 0x40000, width := 64,
    scope := .core, path := .b, fields := [⟨32, 32, .ro, (.kept 0)⟩, ⟨26, 6, .ro, (.value 0)⟩, ⟨12, 14, .ro, (.value 0)⟩, ⟨1, 1, .w1c, (.value 0)⟩, ⟨0, 1, .w1c, (.value 0)⟩] },
  { name := "CORE_FPFLAGS", off := 0x1000028, count := 1, stride := 0, count2 := 64, stride2 := 0x40000, width := 32,
    scope := .core, path := .b, fields := [⟨4, 1, .w1c, (.value 0)⟩, ⟨3, 1, .w1c, (.value 0)⟩, ⟨2, 1, .w1c, (.value 0)⟩, ⟨1, 1, .w1c, (.value 0)⟩, ⟨0, 1, .w1c, (.value 0)⟩] },
  { name := "CORE_ME_STEPS", off := 0x1000030, count := 1, stride := 0, count2 := 64, stride2 := 0x40000, width := 64,
    scope := .core, path := .b, fields := [⟨0, 64, .ro, (.value 0)⟩] },
  { name := "CORE_LS_CONFLICTS", off := 0x1000038, count := 1, stride := 0, count2 := 64, stride2 := 0x40000, width := 64,
    scope := .core, path := .b, fields := [⟨0, 64, .ro, (.value 0)⟩] },
  { name := "CORE_SEQ_STATE", off := 0x1000100, count := 1, stride := 0, count2 := 64, stride2 := 0x40000, width := 32,
    scope := .core, path := .b, fields := [⟨8, 8, .ro, (.value 0)⟩, ⟨0, 3, .ro, (.value 0)⟩] },
  { name := "CORE_SEQ_PLAY", off := 0x1000108, count := 1, stride := 0, count2 := 64, stride2 := 0x40000, width := 64,
    scope := .core, path := .b, fields := [⟨0, 64, .ro, (.value 0)⟩] },
  { name := "CORE_SEQ_PC", off := 0x1000110, count := 1, stride := 0, count2 := 64, stride2 := 0x40000, width := 64,
    scope := .core, path := .b, fields := [⟨32, 24, .ro, (.value 0)⟩, ⟨0, 24, .ro, (.value 0)⟩] },
  { name := "CORE_SEQ_FIRST_ERR", off := 0x1000118, count := 1, stride := 0, count2 := 64, stride2 := 0x40000, width := 64,
    scope := .core, path := .b, fields := [⟨63, 1, .ro, (.value 0)⟩, ⟨16, 24, .ro, (.value 0)⟩, ⟨0, 16, .ro, (.value 0)⟩] },
  { name := "CORE_SEQ_ERR_INFO", off := 0x1000120, count := 1, stride := 0, count2 := 64, stride2 := 0x40000, width := 64,
    scope := .core, path := .b, fields := [⟨0, 64, .ro, (.value 0)⟩] },
  { name := "CORE_SEQ_SHOT", off := 0x1000128, count := 1, stride := 0, count2 := 64, stride2 := 0x40000, width := 64,
    scope := .core, path := .b, fields := [⟨32, 32, .ro, (.value 0)⟩, ⟨0, 32, .ro, .lineup⟩] },
  { name := "CORE_SEQ_RETIRED", off := 0x1000130, count := 1, stride := 0, count2 := 64, stride2 := 0x40000, width := 64,
    scope := .core, path := .b, fields := [⟨0, 64, .ro, (.value 0)⟩] },
  { name := "CORE_HAZ_STALLS", off := 0x1000138, count := 1, stride := 0, count2 := 64, stride2 := 0x40000, width := 64,
    scope := .core, path := .b, fields := [⟨0, 64, .ro, (.value 0)⟩] },
  { name := "CORE_MOV_INFLIGHT", off := 0x1000140, count := 1, stride := 0, count2 := 64, stride2 := 0x40000, width := 32,
    scope := .core, path := .b, fields := [⟨16, 13, .ro, (.value 0)⟩, ⟨0, 13, .ro, (.value 0)⟩] }]

/-- Rows of the register table, part 7. -/
def regTable7 : List RegSpec := [
  { name := "CORE_MOV_BYTES", off := 0x1000148, count := 1, stride := 0, count2 := 64, stride2 := 0x40000, width := 64,
    scope := .core, path := .b, fields := [⟨0, 64, .ro, (.value 0)⟩] },
  { name := "CORE_ATT_LANES", off := 0x1000200, count := 1, stride := 0, count2 := 64, stride2 := 0x40000, width := 64,
    scope := .core, path := .b, fields := [⟨32, 32, .ro, (.value 0)⟩, ⟨0, 32, .ro, (.value 0)⟩] },
  { name := "CORE_ATT_PAGES", off := 0x1000208, count := 1, stride := 0, count2 := 64, stride2 := 0x40000, width := 64,
    scope := .core, path := .b, fields := [⟨0, 64, .ro, (.value 0)⟩] },
  { name := "CORE_ATT_WAIT", off := 0x1000210, count := 1, stride := 0, count2 := 64, stride2 := 0x40000, width := 64,
    scope := .core, path := .b, fields := [⟨0, 64, .ro, (.value 0)⟩] },
  { name := "CORE_ATT_LAST_FAIL", off := 0x1000218, count := 1, stride := 0, count2 := 64, stride2 := 0x40000, width := 32,
    scope := .core, path := .b, fields := [⟨16, 12, .ro, (.value 0)⟩, ⟨0, 16, .ro, (.value 0)⟩] },
  { name := "CORE_TOK_STATUS", off := 0x1001000, count := 4096, stride := 4, count2 := 64, stride2 := 0x40000, width := 32,
    scope := .core, path := .b, fields := [⟨16, 1, .ro, (.value 0)⟩, ⟨0, 16, .ro, (.value 0)⟩] },
  { name := "HIF_PCIE_STATUS", off := 0x2000000, count := 1, stride := 0, count2 := 1, stride2 := 0x0, width := 32,
    scope := .pkg, path := .b, fields := [⟨31, 1, .ro, (.value 0)⟩, ⟨16, 5, .ro, (.value 0)⟩, ⟨8, 3, .ro, (.value 0)⟩, ⟨0, 1, .ro, (.value 0)⟩] },
  { name := "HIF_CALL_TIMEOUT", off := 0x2000008, count := 1, stride := 0, count2 := 1, stride2 := 0x0, width := 32,
    scope := .pkg, path := .p, fields := [⟨0, 32, .rw, (.value 0x2710)⟩] },
  { name := "HIF_EVENT", off := 0x2000010, count := 1, stride := 0, count2 := 1, stride2 := 0x0, width := 32,
    scope := .pkg, path := .b, fields := [⟨6, 1, .w1c, (.value 0)⟩, ⟨5, 1, .w1c, (.value 0)⟩, ⟨4, 1, .w1c, (.value 0)⟩, ⟨3, 1, .w1c, (.value 0)⟩, ⟨2, 1, .w1c, (.value 0)⟩, ⟨1, 1, .w1c, (.value 0)⟩, ⟨0, 1, .w1c, (.value 0)⟩] },
  { name := "HIF_CAPTAIN", off := 0x2000100, count := 4, stride := 8, count2 := 1, stride2 := 0x0, width := 32,
    scope := .part, path := .b, fields := [⟨31, 1, .ro, .lineup⟩, ⟨30, 1, .ro, .lineup⟩, ⟨7, 11, .ro, .lineup⟩, ⟨0, 7, .ro, .lineup⟩] },
  { name := "HIF_EVT_CQ", off := 0x2000140, count := 4, stride := 8, count2 := 1, stride2 := 0x0, width := 32,
    scope := .part, path := .p, fields := [⟨15, 1, .rw, (.value 0)⟩, ⟨0, 8, .rw, (.value 0)⟩] },
  { name := "HIF_SQ_BASE", off := 0x2010000, count := 256, stride := 64, count2 := 1, stride2 := 0x0, width := 64,
    scope := .sq, path := .p, fields := [⟨12, 52, .rw, (.value 0)⟩] },
  { name := "HIF_SQ_CFG", off := 0x2010008, count := 256, stride := 64, count2 := 1, stride2 := 0x0, width := 64,
    scope := .sq, path := .p, fields := [⟨63, 1, .rw, (.value 0)⟩, ⟨48, 8, .rw, (.value 0)⟩, ⟨32, 3, .rw, (.value 0)⟩, ⟨0, 13, .rw, (.value 0)⟩] },
  { name := "HIF_SQ_REPLAY", off := 0x2010010, count := 256, stride := 64, count2 := 1, stride2 := 0x0, width := 64,
    scope := .sq, path := .p, fields := [⟨20, 26, .rw, (.value 0)⟩] },
  { name := "HIF_SQ_STATE", off := 0x2010018, count := 256, stride := 64, count2 := 1, stride2 := 0x0, width := 64,
    scope := .sq, path := .p, fields := [⟨32, 13, .ro, (.value 0)⟩, ⟨16, 12, .ro, (.value 0)⟩, ⟨0, 12, .ro, (.value 0)⟩] },
  { name := "HIF_CQ_BASE", off := 0x2020000, count := 256, stride := 64, count2 := 1, stride2 := 0x0, width := 64,
    scope := .cq, path := .p, fields := [⟨12, 52, .rw, (.value 0)⟩] },
  { name := "HIF_CQ_CFG", off := 0x2020008, count := 256, stride := 64, count2 := 1, stride2 := 0x0, width := 64,
    scope := .cq, path := .p, fields := [⟨63, 1, .rw, (.value 0)⟩, ⟨48, 11, .rw, (.value 0)⟩, ⟨40, 8, .rw, (.value 0)⟩, ⟨32, 8, .rw, (.value 0)⟩, ⟨17, 3, .rw, (.value 0)⟩, ⟨0, 17, .rw, (.value 0)⟩] },
  { name := "HIF_CQ_STATE", off := 0x2020010, count := 256, stride := 64, count2 := 1, stride2 := 0x0, width := 64,
    scope := .cq, path := .p, fields := [⟨63, 1, .ro, (.value 0)⟩, ⟨32, 17, .ro, (.value 0)⟩, ⟨0, 17, .ro, (.value 0)⟩] },
  { name := "HIF_COUNTS", off := 0x2030000, count := 6, stride := 8, count2 := 1, stride2 := 0x0, width := 64,
    scope := .pkg, path := .b, fields := [⟨0, 64, .ro, (.value 0)⟩] },
  { name := "HIF_STO_MAC", off := 0x2040000, count := 1, stride := 0, count2 := 1, stride2 := 0x0, width := 64,
    scope := .pkg, path := .b, fields := [⟨0, 48, .ro, (.kept 0)⟩] },
  { name := "HIF_STO_IP", off := 0x2040008, count := 3, stride := 8, count2 := 1, stride2 := 0x0, width := 64,
    scope := .pkg, path := .p, fields := [⟨0, 64, .rw, (.value 0)⟩] },
  { name := "HIF_STO_NET", off := 0x2040020, count := 1, stride := 0, count2 := 1, stride2 := 0x0, width := 32,
    scope := .pkg, path := .p, fields := [⟨31, 1, .rw, (.value 0)⟩, ⟨20, 1, .rw, (.value 0)⟩, ⟨16, 3, .rw, (.value 0)⟩, ⟨0, 12, .rw, (.value 0)⟩] },
  { name := "HIF_STO_TABLE", off := 0x2040028, count := 1, stride := 0, count2 := 1, stride2 := 0x0, width := 64,
    scope := .pkg, path := .p, fields := [⟨12, 34, .rw, (.value 0)⟩] },
  { name := "HIF_STO_CTRL", off := 0x2040030, count := 1, stride := 0, count2 := 1, stride2 := 0x0, width := 32,
    scope := .pkg, path := .p, fields := [⟨16, 16, .wo, (.value 0)⟩, ⟨0, 16, .wo, (.value 0)⟩] },
  { name := "HIF_STO_CONN", off := 0x2040100, count := 16, stride := 8, count2 := 1, stride2 := 0x0, width := 64,
    scope := .conn, path := .b, fields := [⟨32, 7, .ro, (.value 0)⟩, ⟨16, 16, .ro, (.value 0)⟩, ⟨0, 2, .ro, (.value 0)⟩] },
  { name := "HIF_STO_COUNTS", off := 0x2040200, count := 5, stride := 8, count2 := 1, stride2 := 0x0, width := 64,
    scope := .pkg, path := .b, fields := [⟨0, 64, .ro, (.value 0)⟩] },
  { name := "MSIX_TABLE", off := 0x2080000, count := 2048, stride := 8, count2 := 1, stride2 := 0x0, width := 64,
    scope := .fn, path := .p, fields := [⟨0, 64, .rw, (.value 0)⟩] },
  { name := "MSIX_PBA", off := 0x20c0000, count := 16, stride := 8, count2 := 1, stride2 := 0x0, width := 64,
    scope := .fn, path := .p, fields := [⟨0, 64, .ro, (.value 0)⟩] },
  { name := "ERR_SUMMARY", off := 0x3000000, count := 1, stride := 0, count2 := 1, stride2 := 0x0, width := 64,
    scope := .pkg, path := .b, fields := [⟨0, 15, .w1c, (.value 0)⟩] },
  { name := "ERR_CSR", off := 0x3000008, count := 1, stride := 0, count2 := 1, stride2 := 0x0, width := 64,
    scope := .pkg, path := .b, fields := [⟨32, 32, .ro, (.value 0)⟩, ⟨31, 1, .w1c, (.value 0)⟩, ⟨30, 1, .ro, (.value 0)⟩, ⟨27, 3, .ro, (.value 0)⟩, ⟨0, 26, .ro, (.value 0)⟩] }]

/-- Rows of the register table, part 8. -/
def regTable8 : List RegSpec := [
  { name := "ERR_LOG_PTR", off := 0x3000010, count := 1, stride := 0, count2 := 1, stride2 := 0x0, width := 32,
    scope := .pkg, path := .b, fields := [⟨16, 16, .ro, (.value 0)⟩, ⟨0, 8, .ro, (.value 0)⟩] },
  { name := "ERR_LOG_REC", off := 0x3001000, count := 256, stride := 32, count2 := 1, stride2 := 0x0, width := 256,
    scope := .pkg, path := .b, fields := [⟨192, 64, .ro, (.value 0)⟩, ⟨128, 64, .ro, (.value 0)⟩, ⟨96, 32, .ro, (.value 0)⟩, ⟨80, 16, .ro, (.value 0)⟩, ⟨76, 4, .ro, (.value 0)⟩, ⟨64, 12, .ro, (.value 0)⟩] }]

/-- Every register of Table 24-3 (210 of them), and the MSI-X table and pending-bit array of R585. -/
def regTable : List RegSpec :=
  regTable1 ++ regTable2 ++ regTable3 ++ regTable4 ++ regTable5 ++ regTable6 ++ regTable7 ++ regTable8

/-- `GLB_RACK_ID` of `GLB_IDENTITY` (01_machine.md). -/
def F.GLB_RACK_ID : Fld := ⟨0x0, 53, 11⟩
/-- `GLB_PKG_ID` of `GLB_IDENTITY` (01_machine.md). -/
def F.GLB_PKG_ID : Fld := ⟨0x0, 46, 7⟩
/-- `GLB_VARIANT` of `GLB_IDENTITY` (01_machine.md). -/
def F.GLB_VARIANT : Fld := ⟨0x0, 44, 2⟩
/-- `GLB_HUB_REV` of `GLB_IDENTITY` (01_machine.md). -/
def F.GLB_HUB_REV : Fld := ⟨0x0, 16, 16⟩
/-- `GLB_PKG_TYPE` of `GLB_IDENTITY` (01_machine.md). -/
def F.GLB_PKG_TYPE : Fld := ⟨0x0, 0, 16⟩
/-- `GLB_LOGICAL_CORES` of `GLB_CAPS` (01_machine.md). -/
def F.GLB_LOGICAL_CORES : Fld := ⟨0x8, 40, 8⟩
/-- `GLB_PHYS_CORES` of `GLB_CAPS` (01_machine.md). -/
def F.GLB_PHYS_CORES : Fld := ⟨0x8, 32, 8⟩
/-- `GLB_HBM_STACKS` of `GLB_CAPS` (01_machine.md). -/
def F.GLB_HBM_STACKS : Fld := ⟨0x8, 24, 8⟩
/-- `GLB_HBM_GIB` of `GLB_CAPS` (01_machine.md). -/
def F.GLB_HBM_GIB : Fld := ⟨0x8, 16, 8⟩
/-- `GLB_FABRIC_PORTS` of `GLB_CAPS` (01_machine.md). -/
def F.GLB_FABRIC_PORTS : Fld := ⟨0x8, 8, 8⟩
/-- `GLB_PART_SLOTS` of `GLB_CAPS` (01_machine.md). -/
def F.GLB_PART_SLOTS : Fld := ⟨0x8, 4, 4⟩
/-- `GLB_SPARE_POLICY` of `GLB_CAPS` (01_machine.md). -/
def F.GLB_SPARE_POLICY : Fld := ⟨0x8, 2, 2⟩
/-- `GLB_BU_STATUS` of `GLB_BRINGUP` (15_bringup.md). -/
def F.GLB_BU_STATUS : Fld := ⟨0x10, 48, 16⟩
/-- `GLB_HOLD_CORES` of `GLB_BRINGUP` (15_bringup.md). -/
def F.GLB_HOLD_CORES : Fld := ⟨0x10, 45, 1⟩
/-- `GLB_HOLD_TIME` of `GLB_BRINGUP` (15_bringup.md). -/
def F.GLB_HOLD_TIME : Fld := ⟨0x10, 44, 1⟩
/-- `GLB_HOLD_BRAID` of `GLB_BRINGUP` (15_bringup.md). -/
def F.GLB_HOLD_BRAID : Fld := ⟨0x10, 43, 1⟩
/-- `GLB_HOLD_HBM` of `GLB_BRINGUP` (15_bringup.md). -/
def F.GLB_HOLD_HBM : Fld := ⟨0x10, 42, 1⟩
/-- `GLB_HOLD_LINEUP` of `GLB_BRINGUP` (15_bringup.md). -/
def F.GLB_HOLD_LINEUP : Fld := ⟨0x10, 41, 1⟩
/-- `GLB_HOLD_BOOT` of `GLB_BRINGUP` (15_bringup.md). -/
def F.GLB_HOLD_BOOT : Fld := ⟨0x10, 40, 1⟩
/-- `GLB_BU_SERIAL_SET` of `GLB_BRINGUP` (15_bringup.md). -/
def F.GLB_BU_SERIAL_SET : Fld := ⟨0x10, 23, 1⟩
/-- `GLB_BU_COLD` of `GLB_BRINGUP` (15_bringup.md). -/
def F.GLB_BU_COLD : Fld := ⟨0x10, 22, 1⟩
/-- `GLB_BU_WAVES` of `GLB_BRINGUP` (15_bringup.md). -/
def F.GLB_BU_WAVES : Fld := ⟨0x10, 16, 4⟩
/-- `GLB_BU_PHASE` of `GLB_BRINGUP` (15_bringup.md). -/
def F.GLB_BU_PHASE : Fld := ⟨0x10, 0, 4⟩
/-- `GLB_BU_MARK` of `GLB_BU_MARK` (15_bringup.md). -/
def F.GLB_BU_MARK (i : Nat) : Fld := ⟨0x20 + 0x4 * i, 0, 32⟩
/-- `GLB_GO` of `GLB_CORE_GO` (15_bringup.md). -/
def F.GLB_GO : Fld := ⟨0x48, 0, 1⟩
/-- `GLB_PS_READY` of `GLB_PART_READY` (15_bringup.md). -/
def F.GLB_PS_READY (s : Nat) : Fld := ⟨0x50 + 0x8 * s, 63, 1⟩
/-- `GLB_PART_READY` of `GLB_PART_READY` (15_bringup.md). -/
def F.GLB_PART_READY (s : Nat) : Fld := ⟨0x50 + 0x8 * s, 62, 1⟩
/-- `GLB_PS_CORES` of `GLB_PART_READY` (15_bringup.md). -/
def F.GLB_PS_CORES (s : Nat) : Fld := ⟨0x50 + 0x8 * s, 0, 16⟩
/-- `GLB_RACK_RDY` of `GLB_RACK_READY` (15_bringup.md). -/
def F.GLB_RACK_RDY : Fld := ⟨0x70, 31, 1⟩
/-- `GLB_RACK_FLOOR_MET` of `GLB_RACK_READY` (15_bringup.md). -/
def F.GLB_RACK_FLOOR_MET : Fld := ⟨0x70, 30, 1⟩
/-- `GLB_RACK_CORES` of `GLB_RACK_READY` (15_bringup.md). -/
def F.GLB_RACK_CORES : Fld := ⟨0x70, 0, 16⟩
/-- `GLB_MAP_VACANT` of `GLB_MAP_CLUSTER` (17_repair.md). -/
def F.GLB_MAP_VACANT (c : Nat) : Fld := ⟨0x80 + 0x8 * c, 48, 16⟩
/-- `GLB_MAP_RETIRED` of `GLB_MAP_CLUSTER` (17_repair.md). -/
def F.GLB_MAP_RETIRED (c : Nat) : Fld := ⟨0x80 + 0x8 * c, 32, 16⟩
/-- `GLB_MAP_SPARE` of `GLB_MAP_CLUSTER` (17_repair.md). -/
def F.GLB_MAP_SPARE (c : Nat) : Fld := ⟨0x80 + 0x8 * c, 16, 16⟩
/-- `GLB_MAP_ACTIVE` of `GLB_MAP_CLUSTER` (17_repair.md). -/
def F.GLB_MAP_ACTIVE (c : Nat) : Fld := ⟨0x80 + 0x8 * c, 0, 16⟩
/-- `GLB_MAP_SEQ` of `GLB_MAP_PERSIST` (17_repair.md). -/
def F.GLB_MAP_SEQ : Fld := ⟨0xa0, 32, 32⟩
/-- `GLB_MAP_WRITE_STATUS` of `GLB_MAP_PERSIST` (17_repair.md). -/
def F.GLB_MAP_WRITE_STATUS : Fld := ⟨0xa0, 16, 16⟩
/-- `GLB_MAP_REBUILT` of `GLB_MAP_PERSIST` (17_repair.md). -/
def F.GLB_MAP_REBUILT : Fld := ⟨0xa0, 2, 1⟩
/-- `GLB_MAP_WRITE_PENDING` of `GLB_MAP_PERSIST` (17_repair.md). -/
def F.GLB_MAP_WRITE_PENDING : Fld := ⟨0xa0, 1, 1⟩
/-- `GLB_MAP_FROM_FLASH` of `GLB_MAP_PERSIST` (17_repair.md). -/
def F.GLB_MAP_FROM_FLASH : Fld := ⟨0xa0, 0, 1⟩
/-- `GLB_REPAIR_OP` of `GLB_REPAIR_CMD` (17_repair.md). -/
def F.GLB_REPAIR_OP : Fld := ⟨0xa8, 62, 2⟩
/-- `GLB_REPAIR_FORCE` of `GLB_REPAIR_CMD` (17_repair.md). -/
def F.GLB_REPAIR_FORCE : Fld := ⟨0xa8, 61, 1⟩
/-- `GLB_REPAIR_CORE` of `GLB_REPAIR_CMD` (17_repair.md). -/
def F.GLB_REPAIR_CORE : Fld := ⟨0xa8, 0, 7⟩
/-- `GLB_MAP_DEFERRED` of `GLB_MAP_DEFERRED` (17_repair.md). -/
def F.GLB_MAP_DEFERRED : Fld := ⟨0xb0, 0, 64⟩
/-- `GLB_REPAIR_COUNTS` of `GLB_REPAIR_COUNTS` (17_repair.md). -/
def F.GLB_REPAIR_COUNTS (i : Nat) : Fld := ⟨0xb8 + 0x8 * i, 0, 64⟩
/-- `GLB_REPAIR_CODE` of `GLB_REPAIR_STATUS` (17_repair.md). -/
def F.GLB_REPAIR_CODE : Fld := ⟨0xd8, 0, 16⟩
/-- `GLB_ME_VACANT` of `GLB_MAP_ENTRY` (17_repair.md). -/
def F.GLB_ME_VACANT (g : Nat) : Fld := ⟨0x100 + 0x4 * g, 31, 1⟩
/-- `GLB_ME_MOVING` of `GLB_MAP_ENTRY` (17_repair.md). -/
def F.GLB_ME_MOVING (g : Nat) : Fld := ⟨0x100 + 0x4 * g, 30, 1⟩
/-- `GLB_ME_MARKED` of `GLB_MAP_ENTRY` (17_repair.md). -/
def F.GLB_ME_MARKED (g : Nat) : Fld := ⟨0x100 + 0x4 * g, 29, 1⟩
/-- `GLB_ME_PHYS` of `GLB_MAP_ENTRY` (17_repair.md). -/
def F.GLB_ME_PHYS (g : Nat) : Fld := ⟨0x100 + 0x4 * g, 0, 6⟩
/-- `GLB_MG_STATE` of `GLB_MGMT` (20_management.md). -/
def F.GLB_MG_STATE : Fld := ⟨0x200, 6, 2⟩
/-- `GLB_MG_SOLO` of `GLB_MGMT` (20_management.md). -/
def F.GLB_MG_SOLO : Fld := ⟨0x200, 5, 1⟩
/-- `GLB_MG_PAIRED` of `GLB_MGMT` (20_management.md). -/
def F.GLB_MG_PAIRED : Fld := ⟨0x200, 4, 1⟩
/-- `GLB_MG_PRIMARY` of `GLB_MGMT` (20_management.md). -/
def F.GLB_MG_PRIMARY : Fld := ⟨0x200, 2, 2⟩
/-- `GLB_EXCL_ALL` of `GLB_EXCL_CTL` (20_management.md). -/
def F.GLB_EXCL_ALL (s : Nat) : Fld := ⟨0x300 + 0x8 * s, 31, 1⟩
/-- `GLB_EXCL_COUNT` of `GLB_EXCL_CTL` (20_management.md). -/
def F.GLB_EXCL_COUNT (s : Nat) : Fld := ⟨0x300 + 0x8 * s, 0, 8⟩
/-- `GLB_EX_VALID` of `GLB_EXCLUDE` (20_management.md). -/
def F.GLB_EX_VALID (s i : Nat) : Fld := ⟨0x400 + 0x200 * s + 0x4 * i, 31, 1⟩
/-- `GLB_EX_STATE` of `GLB_EXCLUDE` (20_management.md). -/
def F.GLB_EX_STATE (s i : Nat) : Fld := ⟨0x400 + 0x200 * s + 0x4 * i, 29, 2⟩
/-- `GLB_EX_RACK` of `GLB_EXCLUDE` (20_management.md). -/
def F.GLB_EX_RACK (s i : Nat) : Fld := ⟨0x400 + 0x200 * s + 0x4 * i, 7, 11⟩
/-- `GLB_EX_PKG` of `GLB_EXCLUDE` (20_management.md). -/
def F.GLB_EX_PKG (s i : Nat) : Fld := ⟨0x400 + 0x200 * s + 0x4 * i, 0, 7⟩
/-- `RST_CAUSE` of `RST_LAST_CAUSE` (16_reset.md). -/
def F.RST_CAUSE : Fld := ⟨0x10000, 56, 8⟩
/-- `RST_SCOPE` of `RST_LAST_CAUSE` (16_reset.md). -/
def F.RST_SCOPE : Fld := ⟨0x10000, 53, 3⟩
/-- `RST_LOCATION` of `RST_LAST_CAUSE` (16_reset.md). -/
def F.RST_LOCATION : Fld := ⟨0x10000, 40, 8⟩
/-- `RST_UNIT` of `RST_LAST_CAUSE` (16_reset.md). -/
def F.RST_UNIT : Fld := ⟨0x10000, 32, 8⟩
/-- `RST_LAST_HT` of `RST_LAST_HT` (16_reset.md). -/
def F.RST_LAST_HT : Fld := ⟨0x10008, 0, 64⟩
/-- `RST_CMD_AT` of `RST_CMD` (16_reset.md). -/
def F.RST_CMD_AT : Fld := ⟨0x10010, 63, 1⟩
/-- `RST_CMD_SCOPE` of `RST_CMD` (16_reset.md). -/
def F.RST_CMD_SCOPE : Fld := ⟨0x10010, 56, 3⟩
/-- `RST_CMD_TARGET` of `RST_CMD` (16_reset.md). -/
def F.RST_CMD_TARGET : Fld := ⟨0x10010, 0, 6⟩
/-- `RST_CMD_HT` of `RST_CMD_HT` (16_reset.md). -/
def F.RST_CMD_HT : Fld := ⟨0x10018, 0, 64⟩
/-- `RST_CMD_STATUS` of `RST_CMD_STATUS` (16_reset.md). -/
def F.RST_CMD_STATUS : Fld := ⟨0x10020, 0, 16⟩
/-- `RST_SLOT_ABSORB` of `RST_STATE` (16_reset.md). -/
def F.RST_SLOT_ABSORB : Fld := ⟨0x10028, 8, 4⟩
/-- `RST_SLOT_DRAIN` of `RST_STATE` (16_reset.md). -/
def F.RST_SLOT_DRAIN : Fld := ⟨0x10028, 4, 4⟩
/-- `RST_CLUSTER_RESET` of `RST_STATE` (16_reset.md). -/
def F.RST_CLUSTER_RESET : Fld := ⟨0x10028, 0, 4⟩
/-- `RST_CFG` of `RST_CFG` (16_reset.md). -/
def F.RST_CFG (i : Nat) : Fld := ⟨0x10030 + 0x4 * i, 0, 32⟩
/-- `RS_PARITY` of `RST_POLICY` (16_reset.md). -/
def F.RS_PARITY : Fld := ⟨0x10040, 0, 1⟩
/-- `RST_COUNTS` of `RST_COUNTS` (16_reset.md). -/
def F.RST_COUNTS (i : Nat) : Fld := ⟨0x10100 + 0x8 * i, 0, 64⟩
/-- `HTM_NOW` of `HTM_NOW` (02_hall_time.md). -/
def F.HTM_NOW : Fld := ⟨0x20000, 0, 64⟩
/-- `HTM_ROOT_KEY` of `HTM_STATUS` (02_hall_time.md). -/
def F.HTM_ROOT_KEY : Fld := ⟨0x20008, 44, 20⟩
/-- `HTM_RANK` of `HTM_STATUS` (02_hall_time.md). -/
def F.HTM_RANK : Fld := ⟨0x20008, 36, 8⟩
/-- `HTM_PARENT_PORT` of `HTM_STATUS` (02_hall_time.md). -/
def F.HTM_PARENT_PORT : Fld := ⟨0x20008, 31, 5⟩
/-- `HTM_STATE` of `HTM_STATUS` (02_hall_time.md). -/
def F.HTM_STATE : Fld := ⟨0x20008, 28, 3⟩
/-- `HTM_REF` of `HTM_STATUS` (02_hall_time.md). -/
def F.HTM_REF : Fld := ⟨0x20008, 26, 2⟩
/-- `HTM_VALID` of `HTM_STATUS` (02_hall_time.md). -/
def F.HTM_VALID : Fld := ⟨0x20008, 25, 1⟩
/-- `HTM_IS_ROOT` of `HTM_STATUS` (02_hall_time.md). -/
def F.HTM_IS_ROOT : Fld := ⟨0x20008, 24, 1⟩
/-- `HTM_PARENT_OFFSET` of `HTM_OFFSET` (02_hall_time.md). -/
def F.HTM_PARENT_OFFSET : Fld := ⟨0x20010, 0, 32⟩
/-- `HTM_RATE_PPB` of `HTM_RATE` (02_hall_time.md). -/
def F.HTM_RATE_PPB : Fld := ⟨0x20018, 0, 32⟩
/-- `HTM_REF_STATE` of `HTM_REF_CTRL` (02_hall_time.md). -/
def F.HTM_REF_STATE : Fld := ⟨0x20020, 0, 2⟩
/-- `HTM_REF_PHASE` of `HTM_REF_PHASE` (02_hall_time.md). -/
def F.HTM_REF_PHASE : Fld := ⟨0x20028, 0, 31⟩
/-- `HTM_PPS_HT` of `HTM_PPS_HT` (02_hall_time.md). -/
def F.HTM_PPS_HT : Fld := ⟨0x20030, 0, 64⟩
/-- `HTM_PPS_TAI` of `HTM_PPS_TAI` (02_hall_time.md). -/
def F.HTM_PPS_TAI : Fld := ⟨0x20038, 0, 48⟩
/-- `HTM_REF_TAI` of `HTM_REF_TAI` (02_hall_time.md). -/
def F.HTM_REF_TAI : Fld := ⟨0x20040, 0, 48⟩
/-- `HTM_LATE_ACTION` of `HTM_EVENT` (02_hall_time.md). -/
def F.HTM_LATE_ACTION : Fld := ⟨0x20048, 8, 1⟩
/-- `HTM_MARKER_CRC` of `HTM_EVENT` (02_hall_time.md). -/
def F.HTM_MARKER_CRC : Fld := ⟨0x20048, 7, 1⟩
/-- `HTM_FAULT` of `HTM_EVENT` (02_hall_time.md). -/
def F.HTM_FAULT : Fld := ⟨0x20048, 6, 1⟩
/-- `HTM_REF_RESTORED` of `HTM_EVENT` (02_hall_time.md). -/
def F.HTM_REF_RESTORED : Fld := ⟨0x20048, 5, 1⟩
/-- `HTM_REF_HOLDOVER` of `HTM_EVENT` (02_hall_time.md). -/
def F.HTM_REF_HOLDOVER : Fld := ⟨0x20048, 4, 1⟩
/-- `HTM_ROOT_CHANGE` of `HTM_EVENT` (02_hall_time.md). -/
def F.HTM_ROOT_CHANGE : Fld := ⟨0x20048, 3, 1⟩
/-- `HTM_PARENT_CHANGE` of `HTM_EVENT` (02_hall_time.md). -/
def F.HTM_PARENT_CHANGE : Fld := ⟨0x20048, 2, 1⟩
/-- `HTM_LOCK_LOST` of `HTM_EVENT` (02_hall_time.md). -/
def F.HTM_LOCK_LOST : Fld := ⟨0x20048, 1, 1⟩
/-- `HTM_LOCK_ACQUIRED` of `HTM_EVENT` (02_hall_time.md). -/
def F.HTM_LOCK_ACQUIRED : Fld := ⟨0x20048, 0, 1⟩
/-- `HTM_LATE_COUNT` of `HTM_LATE_COUNT` (02_hall_time.md). -/
def F.HTM_LATE_COUNT : Fld := ⟨0x20050, 0, 32⟩
/-- `HTM_DELAY_VALID` of `HTM_PORT_DELAY` (02_hall_time.md). -/
def F.HTM_DELAY_VALID (n : Nat) : Fld := ⟨0x20100 + 0x8 * n, 31, 1⟩
/-- `HTM_DELAY` of `HTM_PORT_DELAY` (02_hall_time.md). -/
def F.HTM_DELAY (n : Nat) : Fld := ⟨0x20100 + 0x8 * n, 0, 24⟩
/-- `HTM_SCHED_VOLLEY` of `HTM_SCHED_VOLLEY` (02_hall_time.md). -/
def F.HTM_SCHED_VOLLEY (s : Nat) : Fld := ⟨0x20200 + 0x40 * s, 0, 64⟩
/-- `HTM_STRETCH_REQ` of `HTM_STRETCH` (02_hall_time.md). -/
def F.HTM_STRETCH_REQ (s : Nat) : Fld := ⟨0x20208 + 0x40 * s, 16, 8⟩
/-- `HTM_STRETCH_NEXT` of `HTM_STRETCH` (02_hall_time.md). -/
def F.HTM_STRETCH_NEXT (s : Nat) : Fld := ⟨0x20208 + 0x40 * s, 8, 8⟩
/-- `HTM_STRETCH_CUR` of `HTM_STRETCH` (02_hall_time.md). -/
def F.HTM_STRETCH_CUR (s : Nat) : Fld := ⟨0x20208 + 0x40 * s, 0, 8⟩
/-- `HTM_STRETCH_TOTAL` of `HTM_STRETCH_TOTAL` (02_hall_time.md). -/
def F.HTM_STRETCH_TOTAL (s : Nat) : Fld := ⟨0x20210 + 0x40 * s, 0, 64⟩
/-- `BC_STATE` of `BOOT_STATE` (21_update.md). -/
def F.BC_STATE : Fld := ⟨0x40000, 0, 8⟩
/-- `BC_ACTIVE` of `BOOT_STATE` (21_update.md). -/
def F.BC_ACTIVE : Fld := ⟨0x40000, 8, 8⟩
/-- `BC_WDOG` of `BOOT_STATE` (21_update.md). -/
def F.BC_WDOG : Fld := ⟨0x40000, 16, 8⟩
/-- `BOOT_IN_TRIAL` of `BOOT_STATE` (21_update.md). -/
def F.BOOT_IN_TRIAL : Fld := ⟨0x40000, 24, 1⟩
/-- `BOOT_FLOOR3` of `BOOT_FLOORS` (21_update.md). -/
def F.BOOT_FLOOR3 : Fld := ⟨0x40008, 24, 8⟩
/-- `BOOT_FLOOR2` of `BOOT_FLOORS` (21_update.md). -/
def F.BOOT_FLOOR2 : Fld := ⟨0x40008, 16, 8⟩
/-- `BOOT_FLOOR1` of `BOOT_FLOORS` (21_update.md). -/
def F.BOOT_FLOOR1 : Fld := ⟨0x40008, 8, 8⟩
/-- `BOOT_FLOOR0` of `BOOT_FLOORS` (21_update.md). -/
def F.BOOT_FLOOR0 : Fld := ⟨0x40008, 0, 8⟩
/-- `BOOT_KEYS` of `BOOT_KEYS` (21_update.md). -/
def F.BOOT_KEYS : Fld := ⟨0x40010, 0, 8⟩
/-- `BOOT_RUN_SECVER` of `BOOT_RUNNING` (21_update.md). -/
def F.BOOT_RUN_SECVER (i : Nat) : Fld := ⟨0x40018 + 0x8 * i, 48, 16⟩
/-- `BOOT_RUN_BUILD` of `BOOT_RUNNING` (21_update.md). -/
def F.BOOT_RUN_BUILD (i : Nat) : Fld := ⟨0x40018 + 0x8 * i, 0, 48⟩
/-- `BOOT_ROSTER` of `BOOT_ROSTER` (21_update.md). -/
def F.BOOT_ROSTER : Fld := ⟨0x40040, 0, 64⟩
/-- `BOOT_WINDOW` of `BOOT_WINDOW` (21_update.md). -/
def F.BOOT_WINDOW : Fld := ⟨0x40048, 0, 64⟩
/-- `BOOT_STAGE_OP` of `BOOT_STAGE_CMD` (21_update.md). -/
def F.BOOT_STAGE_OP : Fld := ⟨0x40080, 62, 2⟩
/-- `BOOT_STAGE_OFFSET` of `BOOT_STAGE_CMD` (21_update.md). -/
def F.BOOT_STAGE_OFFSET : Fld := ⟨0x40080, 0, 26⟩
/-- `BOOT_STAGE_BUSY` of `BOOT_STAGE_STATUS` (21_update.md). -/
def F.BOOT_STAGE_BUSY : Fld := ⟨0x40088, 16, 1⟩
/-- `BOOT_STAGE_CODE` of `BOOT_STAGE_STATUS` (21_update.md). -/
def F.BOOT_STAGE_CODE : Fld := ⟨0x40088, 0, 16⟩
/-- `BOOT_OP` of `BOOT_CMD` (21_update.md). -/
def F.BOOT_OP : Fld := ⟨0x40090, 61, 3⟩
/-- `BOOT_VOTE_STATUS` of `BOOT_VOTE` (21_update.md). -/
def F.BOOT_VOTE_STATUS : Fld := ⟨0x40098, 16, 16⟩
/-- `BOOT_VOTE_YES` of `BOOT_VOTE` (21_update.md). -/
def F.BOOT_VOTE_YES : Fld := ⟨0x40098, 0, 1⟩
/-- `BOOT_CMD_HT` of `BOOT_CMD_HT` (21_update.md). -/
def F.BOOT_CMD_HT : Fld := ⟨0x400a0, 0, 64⟩
/-- `BOOT_STAGE_BUF` of `BOOT_STAGE_BUF` (21_update.md). -/
def F.BOOT_STAGE_BUF (i : Nat) : Fld := ⟨0x41000 + 0x8 * i, 0, 64⟩
/-- `LUP_DIGEST32` of `LUP_ACTIVE` (14_lineup.md). -/
def F.LUP_DIGEST32 : Fld := ⟨0x80000, 32, 32⟩
/-- `LUP_STRUCT32` of `LUP_ACTIVE` (14_lineup.md). -/
def F.LUP_STRUCT32 : Fld := ⟨0x80000, 0, 32⟩
/-- `LUP_SECVER` of `LUP_VERSION` (14_lineup.md). -/
def F.LUP_SECVER : Fld := ⟨0x80008, 48, 16⟩
/-- `LUP_BUILD` of `LUP_VERSION` (14_lineup.md). -/
def F.LUP_BUILD : Fld := ⟨0x80008, 0, 48⟩
/-- `LUP_LATE` of `LUP_STATE` (14_lineup.md). -/
def F.LUP_LATE : Fld := ⟨0x80010, 5, 1⟩
/-- `LUP_PENDING_EN` of `LUP_STATE` (14_lineup.md). -/
def F.LUP_PENDING_EN : Fld := ⟨0x80010, 4, 1⟩
/-- `LUP_ST` of `LUP_STATE` (14_lineup.md). -/
def F.LUP_ST : Fld := ⟨0x80010, 0, 3⟩
/-- `LUP_CK_STATUS` of `LUP_CHECK` (14_lineup.md). -/
def F.LUP_CK_STATUS : Fld := ⟨0x80018, 48, 16⟩
/-- `LUP_CK_TAG` of `LUP_CHECK` (14_lineup.md). -/
def F.LUP_CK_TAG : Fld := ⟨0x80018, 32, 16⟩
/-- `LUP_CK_OFFSET` of `LUP_CHECK` (14_lineup.md). -/
def F.LUP_CK_OFFSET : Fld := ⟨0x80018, 0, 32⟩
/-- `LUP_RACK_INDEX` of `LUP_PLACE` (14_lineup.md). -/
def F.LUP_RACK_INDEX : Fld := ⟨0x80028, 16, 11⟩
/-- `LUP_SHARE` of `LUP_PLACE` (14_lineup.md). -/
def F.LUP_SHARE : Fld := ⟨0x80028, 8, 6⟩
/-- `LUP_SLOTS` of `LUP_PLACE` (14_lineup.md). -/
def F.LUP_SLOTS : Fld := ⟨0x80028, 0, 4⟩
/-- `LUP_STG_DIGEST32` of `LUP_STAGED` (14_lineup.md). -/
def F.LUP_STG_DIGEST32 : Fld := ⟨0x80108, 32, 32⟩
/-- `LUP_STG_LIVE_OK` of `LUP_STAGED` (14_lineup.md). -/
def F.LUP_STG_LIVE_OK : Fld := ⟨0x80108, 16, 1⟩
/-- `LUP_STG_STATUS` of `LUP_STAGED` (14_lineup.md). -/
def F.LUP_STG_STATUS : Fld := ⟨0x80108, 0, 16⟩
/-- `LUP_PEND_STATUS` of `LUP_PENDING` (14_lineup.md). -/
def F.LUP_PEND_STATUS : Fld := ⟨0x80118, 48, 16⟩
/-- `LUP_PEND_EPOCH` of `LUP_PENDING` (14_lineup.md). -/
def F.LUP_PEND_EPOCH : Fld := ⟨0x80118, 0, 43⟩
/-- `LUP_RACK_SERIAL` of `LUP_RACK_SERIAL` (14_lineup.md). -/
def F.LUP_RACK_SERIAL : Fld := ⟨0x80020, 0, 64⟩
/-- `LUP_STAGE_OP` of `LUP_STAGE` (14_lineup.md). -/
def F.LUP_STAGE_OP : Fld := ⟨0x80100, 30, 2⟩
/-- `LUP_STAGE_SLOT` of `LUP_STAGE` (14_lineup.md). -/
def F.LUP_STAGE_SLOT : Fld := ⟨0x80100, 0, 1⟩
/-- `LUP_APPLY_EPOCH` of `LUP_APPLY` (14_lineup.md). -/
def F.LUP_APPLY_EPOCH : Fld := ⟨0x80110, 0, 43⟩
/-- `LUP_PART_ID` of `LUP_PART` (14_lineup.md). -/
def F.LUP_PART_ID (s : Nat) : Fld := ⟨0x80040 + 0x8 * s, 32, 32⟩
/-- `LUP_PART_ENTRY` of `LUP_PART` (14_lineup.md). -/
def F.LUP_PART_ENTRY (s : Nat) : Fld := ⟨0x80040 + 0x8 * s, 19, 13⟩
/-- `LUP_PART_CLUSTERS` of `LUP_PART` (14_lineup.md). -/
def F.LUP_PART_CLUSTERS (s : Nat) : Fld := ⟨0x80040 + 0x8 * s, 0, 4⟩
/-- `LNK_RX_ORDER` of `LNK_STATE` (09_braid.md). -/
def F.LNK_RX_ORDER (n : Nat) : Fld := ⟨0x100000 + 0x4000 * n, 32, 15⟩
/-- `LNK_RX_POLARITY` of `LNK_STATE` (09_braid.md). -/
def F.LNK_RX_POLARITY (n : Nat) : Fld := ⟨0x100000 + 0x4000 * n, 26, 5⟩
/-- `LNK_TX_ACTIVE` of `LNK_STATE` (09_braid.md). -/
def F.LNK_TX_ACTIVE (n : Nat) : Fld := ⟨0x100000 + 0x4000 * n, 21, 5⟩
/-- `LNK_RX_ACTIVE` of `LNK_STATE` (09_braid.md). -/
def F.LNK_RX_ACTIVE (n : Nat) : Fld := ⟨0x100000 + 0x4000 * n, 16, 5⟩
/-- `LNK_FAIL_CAUSE` of `LNK_STATE` (09_braid.md). -/
def F.LNK_FAIL_CAUSE (n : Nat) : Fld := ⟨0x100000 + 0x4000 * n, 12, 3⟩
/-- `LNK_MIS_CAUSE` of `LNK_STATE` (09_braid.md). -/
def F.LNK_MIS_CAUSE (n : Nat) : Fld := ⟨0x100000 + 0x4000 * n, 8, 3⟩
/-- `LNK_MAPPED_OUT` of `LNK_STATE` (09_braid.md). -/
def F.LNK_MAPPED_OUT (n : Nat) : Fld := ⟨0x100000 + 0x4000 * n, 6, 1⟩
/-- `LNK_FLAGGED` of `LNK_STATE` (09_braid.md). -/
def F.LNK_FLAGGED (n : Nat) : Fld := ⟨0x100000 + 0x4000 * n, 5, 1⟩
/-- `LNK_RETRAINING` of `LNK_STATE` (09_braid.md). -/
def F.LNK_RETRAINING (n : Nat) : Fld := ⟨0x100000 + 0x4000 * n, 4, 1⟩
/-- `LNK_ST` of `LNK_STATE` (09_braid.md). -/
def F.LNK_ST (n : Nat) : Fld := ⟨0x100000 + 0x4000 * n, 0, 4⟩
/-- `LNK_PEER_EXP` of `LNK_PEER_EXP` (09_braid.md). -/
def F.LNK_PEER_EXP (n : Nat) : Fld := ⟨0x100008 + 0x4000 * n, 0, 64⟩
/-- `LNK_PEER_SEEN` of `LNK_PEER_SEEN` (09_braid.md). -/
def F.LNK_PEER_SEEN (n : Nat) : Fld := ⟨0x100010 + 0x4000 * n, 0, 64⟩
/-- `LNK_LN_ERRS` of `LNK_LANE` (09_braid.md). -/
def F.LNK_LN_ERRS (n i : Nat) : Fld := ⟨0x100020 + 0x4000 * n + 0x8 * i, 32, 32⟩
/-- `LNK_LN_CLASS` of `LNK_LANE` (09_braid.md). -/
def F.LNK_LN_CLASS (n i : Nat) : Fld := ⟨0x100020 + 0x4000 * n + 0x8 * i, 30, 2⟩
/-- `LNK_LN_ROLE` of `LNK_LANE` (09_braid.md). -/
def F.LNK_LN_ROLE (n i : Nat) : Fld := ⟨0x100020 + 0x4000 * n + 0x8 * i, 28, 2⟩
/-- `LNK_LN_WINDOW` of `LNK_LANE` (09_braid.md). -/
def F.LNK_LN_WINDOW (n i : Nat) : Fld := ⟨0x100020 + 0x4000 * n + 0x8 * i, 24, 4⟩
/-- `LNK_LOCATE` of `LNK_CTRL` (09_braid.md). -/
def F.LNK_LOCATE (n : Nat) : Fld := ⟨0x100048 + 0x4000 * n, 4, 1⟩
/-- `LNK_DISABLE` of `LNK_CTRL` (09_braid.md). -/
def F.LNK_DISABLE (n : Nat) : Fld := ⟨0x100048 + 0x4000 * n, 3, 1⟩
/-- `LNK_ENABLE` of `LNK_CTRL` (09_braid.md). -/
def F.LNK_ENABLE (n : Nat) : Fld := ⟨0x100048 + 0x4000 * n, 2, 1⟩
/-- `LNK_CLEAR_FAILED` of `LNK_CTRL` (09_braid.md). -/
def F.LNK_CLEAR_FAILED (n : Nat) : Fld := ⟨0x100048 + 0x4000 * n, 1, 1⟩
/-- `LNK_RETRAIN` of `LNK_CTRL` (09_braid.md). -/
def F.LNK_RETRAIN (n : Nat) : Fld := ⟨0x100048 + 0x4000 * n, 0, 1⟩
/-- `LNK_COUNTS` of `LNK_COUNTS` (09_braid.md). -/
def F.LNK_COUNTS (n i : Nat) : Fld := ⟨0x100050 + 0x4000 * n + 0x8 * i, 0, 64⟩
/-- `LNK_CLEAR_REFUSED` of `LNK_EVENT` (09_braid.md). -/
def F.LNK_CLEAR_REFUSED (n : Nat) : Fld := ⟨0x100080 + 0x4000 * n, 8, 1⟩
/-- `LNK_EV_PEER_RESET` of `LNK_EVENT` (09_braid.md). -/
def F.LNK_EV_PEER_RESET (n : Nat) : Fld := ⟨0x100080 + 0x4000 * n, 7, 1⟩
/-- `LNK_EV_FLAGGED` of `LNK_EVENT` (09_braid.md). -/
def F.LNK_EV_FLAGGED (n : Nat) : Fld := ⟨0x100080 + 0x4000 * n, 6, 1⟩
/-- `LNK_EV_LANE_SPARED` of `LNK_EVENT` (09_braid.md). -/
def F.LNK_EV_LANE_SPARED (n : Nat) : Fld := ⟨0x100080 + 0x4000 * n, 5, 1⟩
/-- `LNK_EV_RETRAIN` of `LNK_EVENT` (09_braid.md). -/
def F.LNK_EV_RETRAIN (n : Nat) : Fld := ⟨0x100080 + 0x4000 * n, 4, 1⟩
/-- `LNK_EV_FAILED` of `LNK_EVENT` (09_braid.md). -/
def F.LNK_EV_FAILED (n : Nat) : Fld := ⟨0x100080 + 0x4000 * n, 3, 1⟩
/-- `LNK_EV_MISWIRED` of `LNK_EVENT` (09_braid.md). -/
def F.LNK_EV_MISWIRED (n : Nat) : Fld := ⟨0x100080 + 0x4000 * n, 2, 1⟩
/-- `LNK_EV_DOWN` of `LNK_EVENT` (09_braid.md). -/
def F.LNK_EV_DOWN (n : Nat) : Fld := ⟨0x100080 + 0x4000 * n, 1, 1⟩
/-- `LNK_EV_UP` of `LNK_EVENT` (09_braid.md). -/
def F.LNK_EV_UP (n : Nat) : Fld := ⟨0x100080 + 0x4000 * n, 0, 1⟩
/-- `LNK_H_ST` of `LNK_H_STATE` (13_host.md). -/
def F.LNK_H_ST : Fld := ⟨0x150000, 0, 4⟩
/-- `LNK_S_ST` of `LNK_S_STATE` (13_host.md). -/
def F.LNK_S_ST : Fld := ⟨0x154000, 0, 4⟩
/-- `LNK_S_PFC` of `LNK_S_STATE` (13_host.md). -/
def F.LNK_S_PFC : Fld := ⟨0x154000, 8, 1⟩
/-- `LNK_MAP` of `LNK_MAP` (09_braid.md). -/
def F.LNK_MAP (i : Nat) : Fld := ⟨0x180000 + 0x8 * i, 0, 64⟩
/-- `LNK_MAINT_EN` of `LNK_MAINT` (09_braid.md). -/
def F.LNK_MAINT_EN : Fld := ⟨0x180100, 0, 1⟩
/-- `LNK_ROW_MEMBERS` of `LNK_HALL_POS` (12_hall.md). -/
def F.LNK_ROW_MEMBERS : Fld := ⟨0x180200, 40, 8⟩
/-- `LNK_HALL_MEMBERS` of `LNK_HALL_POS` (12_hall.md). -/
def F.LNK_HALL_MEMBERS : Fld := ⟨0x180200, 32, 8⟩
/-- `LNK_ROW` of `LNK_HALL_POS` (12_hall.md). -/
def F.LNK_ROW : Fld := ⟨0x180200, 6, 5⟩
/-- `LNK_POSITION` of `LNK_HALL_POS` (12_hall.md). -/
def F.LNK_POSITION : Fld := ⟨0x180200, 0, 6⟩
/-- `LNK_ROW_MAP` of `LNK_ROW_MAP` (12_hall.md). -/
def F.LNK_ROW_MAP : Fld := ⟨0x180208, 0, 64⟩
/-- `LNK_HRING_MAP` of `LNK_HRING_MAP` (12_hall.md). -/
def F.LNK_HRING_MAP : Fld := ⟨0x180210, 0, 32⟩
/-- `LNK_HALL_COUNTS` of `LNK_HALL_COUNTS` (12_hall.md). -/
def F.LNK_HALL_COUNTS (i : Nat) : Fld := ⟨0x180218 + 0x8 * i, 0, 64⟩
/-- `FAB_LIFETIME` of `FAB_LIMITS` (10_packets.md). -/
def F.FAB_LIFETIME : Fld := ⟨0x200000, 32, 32⟩
/-- `FAB_RESEND` of `FAB_LIMITS` (10_packets.md). -/
def F.FAB_RESEND : Fld := ⟨0x200000, 0, 32⟩
/-- `FAB_W2_KIB` of `FAB_WATERMARK` (10_packets.md). -/
def F.FAB_W2_KIB : Fld := ⟨0x200008, 16, 16⟩
/-- `FAB_W1_KIB` of `FAB_WATERMARK` (10_packets.md). -/
def F.FAB_W1_KIB : Fld := ⟨0x200008, 0, 16⟩
/-- `FAB_CHAN_VA` of `FAB_CHAN_VA` (10_packets.md). -/
def F.FAB_CHAN_VA (s : Nat) : Fld := ⟨0x200100 + 0x40 * s, 14, 42⟩
/-- `FAB_TMPL_VA` of `FAB_TMPL_VA` (10_packets.md). -/
def F.FAB_TMPL_VA (s : Nat) : Fld := ⟨0x200108 + 0x40 * s, 6, 50⟩
/-- `FAB_PERIOD` of `FAB_TMPL_CFG` (10_packets.md). -/
def F.FAB_PERIOD (s : Nat) : Fld := ⟨0x200110 + 0x40 * s, 32, 13⟩
/-- `FAB_ENTRIES` of `FAB_TMPL_CFG` (10_packets.md). -/
def F.FAB_ENTRIES (s : Nat) : Fld := ⟨0x200110 + 0x40 * s, 0, 20⟩
/-- `FAB_LOAD_EPOCH` of `FAB_LOAD` (10_packets.md). -/
def F.FAB_LOAD_EPOCH (s : Nat) : Fld := ⟨0x200118 + 0x40 * s, 0, 43⟩
/-- `FAB_LOADED` of `FAB_LOAD_STATUS` (10_packets.md). -/
def F.FAB_LOADED (s : Nat) : Fld := ⟨0x200120 + 0x40 * s, 16, 1⟩
/-- `FAB_LOAD_CODE` of `FAB_LOAD_STATUS` (10_packets.md). -/
def F.FAB_LOAD_CODE (s : Nat) : Fld := ⟨0x200120 + 0x40 * s, 0, 16⟩
/-- `FAB_OPEN_WEIGHT` of `FAB_SLOTS` (10_packets.md). -/
def F.FAB_OPEN_WEIGHT (s i : Nat) : Fld := ⟨0x200400 + 0x100 * s + 0x4 * i, 16, 8⟩
/-- `FAB_OWNED` of `FAB_SLOTS` (10_packets.md). -/
def F.FAB_OWNED (s i : Nat) : Fld := ⟨0x200400 + 0x100 * s + 0x4 * i, 0, 9⟩
/-- `FAB_COUNTS` of `FAB_COUNTS` (10_packets.md). -/
def F.FAB_COUNTS (i : Nat) : Fld := ⟨0x200800 + 0x8 * i, 0, 64⟩
/-- `FAB_WIN_PEAK` of `FAB_WIN` (10_packets.md). -/
def F.FAB_WIN_PEAK : Fld := ⟨0x200900, 16, 14⟩
/-- `FAB_WIN_USED` of `FAB_WIN` (10_packets.md). -/
def F.FAB_WIN_USED : Fld := ⟨0x200900, 0, 14⟩
/-- `FAB_EV_LOAD_FAIL` of `FAB_EVENT` (10_packets.md). -/
def F.FAB_EV_LOAD_FAIL : Fld := ⟨0x200a00, 4, 1⟩
/-- `FAB_EV_WIN_FULL` of `FAB_EVENT` (10_packets.md). -/
def F.FAB_EV_WIN_FULL : Fld := ⟨0x200a00, 3, 1⟩
/-- `FAB_EV_SCHED_DROP` of `FAB_EVENT` (10_packets.md). -/
def F.FAB_EV_SCHED_DROP : Fld := ⟨0x200a00, 2, 1⟩
/-- `FAB_EV_TIMEOUT` of `FAB_EVENT` (10_packets.md). -/
def F.FAB_EV_TIMEOUT : Fld := ⟨0x200a00, 1, 1⟩
/-- `FAB_EV_W2` of `FAB_EVENT` (10_packets.md). -/
def F.FAB_EV_W2 : Fld := ⟨0x200a00, 0, 1⟩
/-- `FAB_PQ_ABOVE_W2` of `FAB_PQ` (10_packets.md). -/
def F.FAB_PQ_ABOVE_W2 (n : Nat) : Fld := ⟨0x201000 + 0x40 * n, 31, 1⟩
/-- `FAB_PQ_ABOVE_W1` of `FAB_PQ` (10_packets.md). -/
def F.FAB_PQ_ABOVE_W1 (n : Nat) : Fld := ⟨0x201000 + 0x40 * n, 30, 1⟩
/-- `FAB_PQ_BYTES` of `FAB_PQ` (10_packets.md). -/
def F.FAB_PQ_BYTES (n : Nat) : Fld := ⟨0x201000 + 0x40 * n, 0, 19⟩
/-- `FAB_RETRAINS_60S` of `FAB_LET_STATE` (10_packets.md). -/
def F.FAB_RETRAINS_60S (n : Nat) : Fld := ⟨0x201008 + 0x40 * n, 16, 2⟩
/-- `FAB_LETS_RUN` of `FAB_LET_STATE` (10_packets.md). -/
def F.FAB_LETS_RUN (n : Nat) : Fld := ⟨0x201008 + 0x40 * n, 7, 4⟩
/-- `FAB_REPLAY_FRAMES` of `FAB_LET_STATE` (10_packets.md). -/
def F.FAB_REPLAY_FRAMES (n : Nat) : Fld := ⟨0x201008 + 0x40 * n, 0, 7⟩
/-- `FAB_LETS` of `FAB_LETS` (10_packets.md). -/
def F.FAB_LETS (n : Nat) : Fld := ⟨0x201010 + 0x40 * n, 0, 64⟩
/-- `FAB_SHARED_HELD` of `FAB_CREDITS` (10_packets.md). -/
def F.FAB_SHARED_HELD (n : Nat) : Fld := ⟨0x201018 + 0x40 * n, 0, 10⟩
/-- `COL_T2` of `COL_THRESH` (11_collectives.md). -/
def F.COL_T2 : Fld := ⟨0x300000, 32, 32⟩
/-- `COL_T1` of `COL_THRESH` (11_collectives.md). -/
def F.COL_T1 : Fld := ⟨0x300000, 0, 32⟩
/-- `COL_TIMEOUT_DEF` of `COL_TIMEOUT_DEF` (11_collectives.md). -/
def F.COL_TIMEOUT_DEF : Fld := ⟨0x300008, 0, 32⟩
/-- `COL_STAGE_PEAK` of `COL_STAGE` (11_collectives.md). -/
def F.COL_STAGE_PEAK : Fld := ⟨0x300010, 32, 32⟩
/-- `COL_STAGE_USED` of `COL_STAGE` (11_collectives.md). -/
def F.COL_STAGE_USED : Fld := ⟨0x300010, 0, 32⟩
/-- `COL_COUNTS` of `COL_COUNTS` (11_collectives.md). -/
def F.COL_COUNTS (i : Nat) : Fld := ⟨0x300100 + 0x8 * i, 0, 64⟩
/-- `COL_EV_STAGE_FULL` of `COL_EVENT` (11_collectives.md). -/
def F.COL_EV_STAGE_FULL : Fld := ⟨0x300200, 3, 1⟩
/-- `COL_EV_ABORT` of `COL_EVENT` (11_collectives.md). -/
def F.COL_EV_ABORT : Fld := ⟨0x300200, 2, 1⟩
/-- `COL_EV_LOAD_FAIL` of `COL_EVENT` (11_collectives.md). -/
def F.COL_EV_LOAD_FAIL : Fld := ⟨0x300200, 1, 1⟩
/-- `COL_EV_CALL_FAIL` of `COL_EVENT` (11_collectives.md). -/
def F.COL_EV_CALL_FAIL : Fld := ⟨0x300200, 0, 1⟩
/-- `COL_WIN_VA` of `COL_WIN_VA` (11_collectives.md). -/
def F.COL_WIN_VA (s : Nat) : Fld := ⟨0x301000 + 0x100 * s, 6, 50⟩
/-- `COL_WIN_OP` of `COL_WIN_CMD` (11_collectives.md). -/
def F.COL_WIN_OP (s : Nat) : Fld := ⟨0x301008 + 0x100 * s, 62, 2⟩
/-- `COL_WIN_INDEX` of `COL_WIN_CMD` (11_collectives.md). -/
def F.COL_WIN_INDEX (s : Nat) : Fld := ⟨0x301008 + 0x100 * s, 0, 12⟩
/-- `COL_WIN_ISSUED` of `COL_WIN_TICKET` (11_collectives.md). -/
def F.COL_WIN_ISSUED (s : Nat) : Fld := ⟨0x301010 + 0x100 * s, 32, 32⟩
/-- `COL_WIN_DONE` of `COL_WIN_TICKET` (11_collectives.md). -/
def F.COL_WIN_DONE (s : Nat) : Fld := ⟨0x301010 + 0x100 * s, 0, 32⟩
/-- `COL_WS_INDEX` of `COL_WIN_STATUS` (11_collectives.md). -/
def F.COL_WS_INDEX (s : Nat) : Fld := ⟨0x301018 + 0x100 * s, 16, 12⟩
/-- `COL_WS_CODE` of `COL_WIN_STATUS` (11_collectives.md). -/
def F.COL_WS_CODE (s : Nat) : Fld := ⟨0x301018 + 0x100 * s, 0, 16⟩
/-- `COL_CALL_VA` of `COL_CALL_VA` (11_collectives.md). -/
def F.COL_CALL_VA (s : Nat) : Fld := ⟨0x301020 + 0x100 * s, 6, 50⟩
/-- `COL_LOAD_EPOCH` of `COL_CALL_LOAD` (11_collectives.md). -/
def F.COL_LOAD_EPOCH (s : Nat) : Fld := ⟨0x301028 + 0x100 * s, 0, 43⟩
/-- `COL_BAD_ENTRY` of `COL_CALL_STATUS` (11_collectives.md). -/
def F.COL_BAD_ENTRY (s : Nat) : Fld := ⟨0x301030 + 0x100 * s, 48, 10⟩
/-- `COL_RUNNING` of `COL_CALL_STATUS` (11_collectives.md). -/
def F.COL_RUNNING (s : Nat) : Fld := ⟨0x301030 + 0x100 * s, 32, 5⟩
/-- `COL_LOADED` of `COL_CALL_STATUS` (11_collectives.md). -/
def F.COL_LOADED (s : Nat) : Fld := ⟨0x301030 + 0x100 * s, 16, 1⟩
/-- `COL_LOAD_CODE` of `COL_CALL_STATUS` (11_collectives.md). -/
def F.COL_LOAD_CODE (s : Nat) : Fld := ⟨0x301030 + 0x100 * s, 0, 16⟩
/-- `COL_CS_INSTANCES` of `COL_CALL_STAT` (11_collectives.md). -/
def F.COL_CS_INSTANCES (s i : Nat) : Fld := ⟨0x310000 + 0x2000 * s + 0x8 * i, 32, 32⟩
/-- `COL_CS_FORM` of `COL_CALL_STAT` (11_collectives.md). -/
def F.COL_CS_FORM (s i : Nat) : Fld := ⟨0x310000 + 0x2000 * s + 0x8 * i, 16, 2⟩
/-- `COL_CS_STATUS` of `COL_CALL_STAT` (11_collectives.md). -/
def F.COL_CS_STATUS (s i : Nat) : Fld := ⟨0x310000 + 0x2000 * s + 0x8 * i, 0, 16⟩
/-- `XLT_ROOT_ADDR` of `XLT_ROOT` (06_memory.md). -/
def F.XLT_ROOT_ADDR (r : Nat) : Fld := ⟨0x400000 + 0x8 * r, 20, 26⟩
/-- `XLT_ROOT_EN` of `XLT_ROOT` (06_memory.md). -/
def F.XLT_ROOT_EN (r : Nat) : Fld := ⟨0x400000 + 0x8 * r, 0, 1⟩
/-- `XLT_BAR2_VBASE` of `XLT_BAR2_VBASE` (06_memory.md). -/
def F.XLT_BAR2_VBASE (r : Nat) : Fld := ⟨0x400040 + 0x8 * r, 12, 44⟩
/-- `XLT_FAULT_POLICY` of `XLT_PART_CFG` (06_memory.md). -/
def F.XLT_FAULT_POLICY (s : Nat) : Fld := ⟨0x400080 + 0x8 * s, 48, 1⟩
/-- `XLT_HBM_LEN` of `XLT_PART_CFG` (06_memory.md). -/
def F.XLT_HBM_LEN (s : Nat) : Fld := ⟨0x400080 + 0x8 * s, 32, 9⟩
/-- `XLT_HBM_BASE` of `XLT_PART_CFG` (06_memory.md). -/
def F.XLT_HBM_BASE (s : Nat) : Fld := ⟨0x400080 + 0x8 * s, 0, 9⟩
/-- `XLT_KV_BASE` of `XLT_KV_BASE` (06_memory.md). -/
def F.XLT_KV_BASE (s : Nat) : Fld := ⟨0x4000c0 + 0x8 * s, 49, 7⟩
/-- `XLT_INV_VA` of `XLT_INV_ADDR` (06_memory.md). -/
def F.XLT_INV_VA : Fld := ⟨0x400100, 12, 44⟩
/-- `XLT_INV_PAGES` of `XLT_INV_CMD` (06_memory.md). -/
def F.XLT_INV_PAGES : Fld := ⟨0x400108, 32, 32⟩
/-- `XLT_INV_ROOT` of `XLT_INV_CMD` (06_memory.md). -/
def F.XLT_INV_ROOT : Fld := ⟨0x400108, 4, 3⟩
/-- `XLT_INV_KIND` of `XLT_INV_CMD` (06_memory.md). -/
def F.XLT_INV_KIND : Fld := ⟨0x400108, 0, 2⟩
/-- `XLT_INV_ISSUED` of `XLT_INV_TICKET` (06_memory.md). -/
def F.XLT_INV_ISSUED : Fld := ⟨0x400110, 32, 32⟩
/-- `XLT_INV_DONE` of `XLT_INV_TICKET` (06_memory.md). -/
def F.XLT_INV_DONE : Fld := ⟨0x400110, 0, 32⟩
/-- `XLT_INV_FULL` of `XLT_EVENT` (06_memory.md). -/
def F.XLT_INV_FULL : Fld := ⟨0x400118, 2, 1⟩
/-- `XLT_FAULT_LOGGED` of `XLT_EVENT` (06_memory.md). -/
def F.XLT_FAULT_LOGGED : Fld := ⟨0x400118, 1, 1⟩
/-- `XLT_WALK_UE` of `XLT_EVENT` (06_memory.md). -/
def F.XLT_WALK_UE : Fld := ⟨0x400118, 0, 1⟩
/-- `XLT_STATS` of `XLT_STATS` (06_memory.md). -/
def F.XLT_STATS (i : Nat) : Fld := ⟨0x400120 + 0x8 * i, 0, 64⟩
/-- `XLT_FAULT_LOST` of `XLT_FAULT_PTR` (06_memory.md). -/
def F.XLT_FAULT_LOST : Fld := ⟨0x400140, 16, 16⟩
/-- `XLT_FAULT_NEXT` of `XLT_FAULT_PTR` (06_memory.md). -/
def F.XLT_FAULT_NEXT : Fld := ⟨0x400140, 0, 6⟩
/-- `XLT_FR_HT` of `XLT_FAULT_REC` (06_memory.md). -/
def F.XLT_FR_HT (i : Nat) : Fld := ⟨0x401018 + 0x20 * i, 0, 64⟩
/-- `XLT_FR_SOURCE` of `XLT_FAULT_REC` (06_memory.md). -/
def F.XLT_FR_SOURCE (i : Nat) : Fld := ⟨0x401010 + 0x20 * i, 0, 8⟩
/-- `XLT_FR_REMOTE` of `XLT_FAULT_REC` (06_memory.md). -/
def F.XLT_FR_REMOTE (i : Nat) : Fld := ⟨0x401008 + 0x20 * i, 32, 32⟩
/-- `XLT_FR_STATUS` of `XLT_FAULT_REC` (06_memory.md). -/
def F.XLT_FR_STATUS (i : Nat) : Fld := ⟨0x401008 + 0x20 * i, 16, 16⟩
/-- `XLT_FR_ROOT` of `XLT_FAULT_REC` (06_memory.md). -/
def F.XLT_FR_ROOT (i : Nat) : Fld := ⟨0x401008 + 0x20 * i, 13, 3⟩
/-- `XLT_FR_LEVEL` of `XLT_FAULT_REC` (06_memory.md). -/
def F.XLT_FR_LEVEL (i : Nat) : Fld := ⟨0x401008 + 0x20 * i, 10, 3⟩
/-- `XLT_FR_ACCESS` of `XLT_FAULT_REC` (06_memory.md). -/
def F.XLT_FR_ACCESS (i : Nat) : Fld := ⟨0x401008 + 0x20 * i, 8, 2⟩
/-- `XLT_FR_VA` of `XLT_FAULT_REC` (06_memory.md). -/
def F.XLT_FR_VA (i : Nat) : Fld := ⟨0x401000 + 0x20 * i, 0, 56⟩
/-- `MOE_ETA` of `MOE_PART_CFG` (08_routing.md). -/
def F.MOE_ETA (s : Nat) : Fld := ⟨0x500000 + 0x40 * s, 32, 32⟩
/-- `MOE_PERIOD` of `MOE_PART_CFG` (08_routing.md). -/
def F.MOE_PERIOD (s : Nat) : Fld := ⟨0x500000 + 0x40 * s, 16, 8⟩
/-- `MOE_SCHED_MODE` of `MOE_PART_CFG` (08_routing.md). -/
def F.MOE_SCHED_MODE (s : Nat) : Fld := ⟨0x500000 + 0x40 * s, 1, 1⟩
/-- `MOE_LOOP_ON` of `MOE_PART_CFG` (08_routing.md). -/
def F.MOE_LOOP_ON (s : Nat) : Fld := ⟨0x500000 + 0x40 * s, 0, 1⟩
/-- `MOE_CLAMP` of `MOE_PART_LIM` (08_routing.md). -/
def F.MOE_CLAMP (s : Nat) : Fld := ⟨0x500008 + 0x40 * s, 32, 32⟩
/-- `MOE_DEADLINE` of `MOE_PART_LIM` (08_routing.md). -/
def F.MOE_DEADLINE (s : Nat) : Fld := ⟨0x500008 + 0x40 * s, 0, 32⟩
/-- `MOE_GEN` of `MOE_GEN` (08_routing.md). -/
def F.MOE_GEN (s : Nat) : Fld := ⟨0x500010 + 0x40 * s, 0, 32⟩
/-- `MOE_STATS` of `MOE_STATS` (08_routing.md). -/
def F.MOE_STATS (s i : Nat) : Fld := ⟨0x500018 + 0x40 * s + 0x8 * i, 0, 64⟩
/-- `MOE_SEL_SLOT` of `MOE_LAYER_SEL` (08_routing.md). -/
def F.MOE_SEL_SLOT : Fld := ⟨0x500100, 8, 2⟩
/-- `MOE_SEL_LAYER` of `MOE_LAYER_SEL` (08_routing.md). -/
def F.MOE_SEL_LAYER : Fld := ⟨0x500100, 0, 8⟩
/-- `MOE_ROUTES_PER_STEP` of `MOE_LAYER_CFG` (08_routing.md). -/
def F.MOE_ROUTES_PER_STEP (y : Nat) : Fld := ⟨0x10000108 + 0x8000 * y, 48, 16⟩
/-- `MOE_C_RES` of `MOE_LAYER_CFG` (08_routing.md). -/
def F.MOE_C_RES (y : Nat) : Fld := ⟨0x10000108 + 0x8000 * y, 35, 13⟩
/-- `MOE_DEADBAND` of `MOE_LAYER_CFG` (08_routing.md). -/
def F.MOE_DEADBAND (y : Nat) : Fld := ⟨0x10000108 + 0x8000 * y, 25, 10⟩
/-- `MOE_EXPERTS` of `MOE_LAYER_CFG` (08_routing.md). -/
def F.MOE_EXPERTS (y : Nat) : Fld := ⟨0x10000108 + 0x8000 * y, 14, 11⟩
/-- `MOE_PLAN` of `MOE_LAYER_CFG` (08_routing.md). -/
def F.MOE_PLAN (y : Nat) : Fld := ⟨0x10000108 + 0x8000 * y, 1, 1⟩
/-- `MOE_LOOP_EN` of `MOE_LAYER_CFG` (08_routing.md). -/
def F.MOE_LOOP_EN (y : Nat) : Fld := ⟨0x10000108 + 0x8000 * y, 0, 1⟩
/-- `MOE_VA` of `MOE_LAYER_VA` (08_routing.md). -/
def F.MOE_VA (y i : Nat) : Fld := ⟨0x10000110 + 0x8000 * y + 0x8 * i, 6, 50⟩
/-- `MOE_SECTION_KIB` of `MOE_LAYER_PLAN` (08_routing.md). -/
def F.MOE_SECTION_KIB (y : Nat) : Fld := ⟨0x10000128 + 0x8000 * y, 16, 16⟩
/-- `MOE_PLAN_SEM` of `MOE_LAYER_PLAN` (08_routing.md). -/
def F.MOE_PLAN_SEM (y : Nat) : Fld := ⟨0x10000128 + 0x8000 * y, 0, 12⟩
/-- `MOE_APPLY_EPOCH` of `MOE_BIAS_COMMIT` (08_routing.md). -/
def F.MOE_APPLY_EPOCH : Fld := ⟨0x500200, 0, 43⟩
/-- `MOE_PLAN_ADDR` of `MOE_PLAN_ADDR` (08_routing.md). -/
def F.MOE_PLAN_ADDR (s : Nat) : Fld := ⟨0x500300 + 0x40 * s, 6, 50⟩
/-- `MOE_GO_ID` of `MOE_PLAN_GO` (08_routing.md). -/
def F.MOE_GO_ID (s : Nat) : Fld := ⟨0x500308 + 0x40 * s, 32, 32⟩
/-- `MOE_GO_LEN` of `MOE_PLAN_GO` (08_routing.md). -/
def F.MOE_GO_LEN (s : Nat) : Fld := ⟨0x500308 + 0x40 * s, 0, 32⟩
/-- `MOE_PS_ID` of `MOE_PLAN_STATUS` (08_routing.md). -/
def F.MOE_PS_ID (s : Nat) : Fld := ⟨0x500310 + 0x40 * s, 32, 32⟩
/-- `MOE_PS_STATUS` of `MOE_PLAN_STATUS` (08_routing.md). -/
def F.MOE_PS_STATUS (s : Nat) : Fld := ⟨0x500310 + 0x40 * s, 0, 16⟩
/-- `MOE_PLAN_MALFORMED` of `MOE_EVENT` (08_routing.md). -/
def F.MOE_PLAN_MALFORMED : Fld := ⟨0x500400, 5, 1⟩
/-- `MOE_PLAN_LATE` of `MOE_EVENT` (08_routing.md). -/
def F.MOE_PLAN_LATE : Fld := ⟨0x500400, 4, 1⟩
/-- `MOE_FALLBACK` of `MOE_EVENT` (08_routing.md). -/
def F.MOE_FALLBACK : Fld := ⟨0x500400, 3, 1⟩
/-- `MOE_LOOP_SKIPPED` of `MOE_EVENT` (08_routing.md). -/
def F.MOE_LOOP_SKIPPED : Fld := ⟨0x500400, 2, 1⟩
/-- `MOE_BIAS_STALE` of `MOE_EVENT` (08_routing.md). -/
def F.MOE_BIAS_STALE : Fld := ⟨0x500400, 1, 1⟩
/-- `MOE_BIAS_APPLIED` of `MOE_EVENT` (08_routing.md). -/
def F.MOE_BIAS_APPLIED : Fld := ⟨0x500400, 0, 1⟩
/-- `MOE_BIAS` of `MOE_BIAS` (08_routing.md). -/
def F.MOE_BIAS (y i : Nat) : Fld := ⟨0x10001000 + 0x8000 * y + 0x4 * i, 0, 32⟩
/-- `MOE_BIAS_STAGE` of `MOE_BIAS_STAGE` (08_routing.md). -/
def F.MOE_BIAS_STAGE (y i : Nat) : Fld := ⟨0x10002000 + 0x8000 * y + 0x4 * i, 0, 32⟩
/-- `MOE_LOAD` of `MOE_LOAD` (08_routing.md). -/
def F.MOE_LOAD (y i : Nat) : Fld := ⟨0x10003000 + 0x8000 * y + 0x8 * i, 0, 64⟩
/-- `PWR_CAP_NOW` of `PWR_STATUS` (18_power.md). -/
def F.PWR_CAP_NOW : Fld := ⟨0x600000, 48, 16⟩
/-- `PWR_CEILING` of `PWR_STATUS` (18_power.md). -/
def F.PWR_CEILING : Fld := ⟨0x600000, 32, 16⟩
/-- `PWR_FLOOR` of `PWR_STATUS` (18_power.md). -/
def F.PWR_FLOOR : Fld := ⟨0x600000, 16, 16⟩
/-- `PWR_LIMITER` of `PWR_STATUS` (18_power.md). -/
def F.PWR_LIMITER : Fld := ⟨0x600000, 8, 4⟩
/-- `PWR_STEP` of `PWR_STATUS` (18_power.md). -/
def F.PWR_STEP : Fld := ⟨0x600000, 4, 4⟩
/-- `PWR_FIXED` of `PWR_STATUS` (18_power.md). -/
def F.PWR_FIXED : Fld := ⟨0x600000, 0, 1⟩
/-- `PWR_IN_MV` of `PWR_INPUT` (18_power.md). -/
def F.PWR_IN_MV : Fld := ⟨0x600008, 48, 16⟩
/-- `PWR_IN_MW` of `PWR_INPUT` (18_power.md). -/
def F.PWR_IN_MW : Fld := ⟨0x600008, 0, 32⟩
/-- `PWR_RAMP_REF` of `PWR_RAMP_REF` (18_power.md). -/
def F.PWR_RAMP_REF : Fld := ⟨0x600010, 0, 32⟩
/-- `PWR_SHARE_W` of `PWR_SHARE` (18_power.md). -/
def F.PWR_SHARE_W : Fld := ⟨0x600018, 0, 16⟩
/-- `PWR_TRAY_W` of `PWR_TRAY_LIMIT` (18_power.md). -/
def F.PWR_TRAY_W : Fld := ⟨0x600020, 0, 16⟩
/-- `PWR_CFG_CAP` of `PWR_CFG` (18_power.md). -/
def F.PWR_CFG_CAP : Fld := ⟨0x600028, 48, 16⟩
/-- `PWR_CFG_SAFE` of `PWR_CFG` (18_power.md). -/
def F.PWR_CFG_SAFE : Fld := ⟨0x600028, 32, 16⟩
/-- `PWR_CFG_RAMP` of `PWR_CFG` (18_power.md). -/
def F.PWR_CFG_RAMP : Fld := ⟨0x600028, 16, 16⟩
/-- `PWR_CFG_PCT` of `PWR_CFG` (18_power.md). -/
def F.PWR_CFG_PCT : Fld := ⟨0x600028, 8, 8⟩
/-- `PWR_CFG_BALLAST` of `PWR_CFG` (18_power.md). -/
def F.PWR_CFG_BALLAST : Fld := ⟨0x600028, 1, 1⟩
/-- `PWR_CFG_FIXED` of `PWR_CFG` (18_power.md). -/
def F.PWR_CFG_FIXED : Fld := ⟨0x600028, 0, 1⟩
/-- `PWR_PART_CAP` of `PWR_PART` (18_power.md). -/
def F.PWR_PART_CAP (s : Nat) : Fld := ⟨0x600040 + 0x8 * s, 48, 16⟩
/-- `PWR_PART_STEP` of `PWR_PART` (18_power.md). -/
def F.PWR_PART_STEP (s : Nat) : Fld := ⟨0x600040 + 0x8 * s, 32, 4⟩
/-- `PWR_PART_MW` of `PWR_PART` (18_power.md). -/
def F.PWR_PART_MW (s : Nat) : Fld := ⟨0x600040 + 0x8 * s, 0, 32⟩
/-- `PWR_CL_SET_MV` of `PWR_CLUSTER` (18_power.md). -/
def F.PWR_CL_SET_MV (c : Nat) : Fld := ⟨0x600080 + 0x8 * c, 48, 16⟩
/-- `PWR_CL_PHASES` of `PWR_CLUSTER` (18_power.md). -/
def F.PWR_CL_PHASES (c : Nat) : Fld := ⟨0x600080 + 0x8 * c, 40, 8⟩
/-- `PWR_CL_TOPSTEP` of `PWR_CLUSTER` (18_power.md). -/
def F.PWR_CL_TOPSTEP (c : Nat) : Fld := ⟨0x600080 + 0x8 * c, 36, 4⟩
/-- `PWR_CL_GATE` of `PWR_CLUSTER` (18_power.md). -/
def F.PWR_CL_GATE (c : Nat) : Fld := ⟨0x600080 + 0x8 * c, 32, 4⟩
/-- `PWR_CL_ANN_MA` of `PWR_CLUSTER` (18_power.md). -/
def F.PWR_CL_ANN_MA (c : Nat) : Fld := ⟨0x600080 + 0x8 * c, 0, 32⟩
/-- `PWR_RL_MV` of `PWR_RAIL` (18_power.md). -/
def F.PWR_RL_MV (i : Nat) : Fld := ⟨0x600100 + 0x8 * i, 48, 16⟩
/-- `PWR_RL_A` of `PWR_RAIL` (18_power.md). -/
def F.PWR_RL_A (i : Nat) : Fld := ⟨0x600100 + 0x8 * i, 32, 16⟩
/-- `PWR_RL_STATE` of `PWR_RAIL` (18_power.md). -/
def F.PWR_RL_STATE (i : Nat) : Fld := ⟨0x600100 + 0x8 * i, 0, 2⟩
/-- `PWR_ENERGY` of `PWR_ENERGY` (18_power.md). -/
def F.PWR_ENERGY (i : Nat) : Fld := ⟨0x600400 + 0x8 * i, 0, 64⟩
/-- `PWR_COUNTS` of `PWR_COUNTS` (18_power.md). -/
def F.PWR_COUNTS (i : Nat) : Fld := ⟨0x600500 + 0x8 * i, 0, 64⟩
/-- `PWR_EV_TRAY_LIMIT` of `PWR_EVENT` (18_power.md). -/
def F.PWR_EV_TRAY_LIMIT : Fld := ⟨0x600600, 4, 1⟩
/-- `PWR_EV_SHARE_CUT` of `PWR_EVENT` (18_power.md). -/
def F.PWR_EV_SHARE_CUT : Fld := ⟨0x600600, 3, 1⟩
/-- `PWR_EV_DROOP` of `PWR_EVENT` (18_power.md). -/
def F.PWR_EV_DROOP : Fld := ⟨0x600600, 2, 1⟩
/-- `PWR_EV_BALLAST_SHORT` of `PWR_EVENT` (18_power.md). -/
def F.PWR_EV_BALLAST_SHORT : Fld := ⟨0x600600, 1, 1⟩
/-- `PWR_EV_CAP_EXCEEDED` of `PWR_EVENT` (18_power.md). -/
def F.PWR_EV_CAP_EXCEEDED : Fld := ⟨0x600600, 0, 1⟩
/-- `THM_HOT_TJ` of `THM_STATUS` (19_cooling.md). -/
def F.THM_HOT_TJ : Fld := ⟨0x700000, 56, 8⟩
/-- `THM_HOT_UNIT` of `THM_STATUS` (19_cooling.md). -/
def F.THM_HOT_UNIT : Fld := ⟨0x700000, 48, 8⟩
/-- `THM_GATED` of `THM_STATUS` (19_cooling.md). -/
def F.THM_GATED : Fld := ⟨0x700000, 40, 8⟩
/-- `THM_LEVEL` of `THM_STATUS` (19_cooling.md). -/
def F.THM_LEVEL : Fld := ⟨0x700000, 0, 3⟩
/-- `THM_SUP_VALID` of `THM_SUPPLY` (19_cooling.md). -/
def F.THM_SUP_VALID : Fld := ⟨0x700008, 31, 1⟩
/-- `THM_SUP_FLOW` of `THM_SUPPLY` (19_cooling.md). -/
def F.THM_SUP_FLOW : Fld := ⟨0x700008, 20, 11⟩
/-- `THM_SUP_TEMP` of `THM_SUPPLY` (19_cooling.md). -/
def F.THM_SUP_TEMP : Fld := ⟨0x700008, 0, 16⟩
/-- `THM_THETA_FP32` of `THM_THETA` (19_cooling.md). -/
def F.THM_THETA_FP32 : Fld := ⟨0x700010, 32, 32⟩
/-- `THM_EXCESS` of `THM_THETA` (19_cooling.md). -/
def F.THM_EXCESS : Fld := ⟨0x700010, 16, 16⟩
/-- `THM_RUN` of `THM_THETA` (19_cooling.md). -/
def F.THM_RUN : Fld := ⟨0x700010, 8, 8⟩
/-- `THM_FOLLOW` of `THM_FOLLOW` (19_cooling.md). -/
def F.THM_FOLLOW : Fld := ⟨0x700018, 0, 16⟩
/-- `TH_TARGET` of `THM_CFG` (19_cooling.md). -/
def F.TH_TARGET : Fld := ⟨0x700020, 0, 8⟩
/-- `TH_THROTTLE` of `THM_CFG` (19_cooling.md). -/
def F.TH_THROTTLE : Fld := ⟨0x700020, 8, 8⟩
/-- `TH_HARD` of `THM_CFG` (19_cooling.md). -/
def F.TH_HARD : Fld := ⟨0x700020, 16, 8⟩
/-- `TH_TRIP` of `THM_CFG` (19_cooling.md). -/
def F.TH_TRIP : Fld := ⟨0x700020, 24, 8⟩
/-- `TH_WARN` of `THM_CFG` (19_cooling.md). -/
def F.TH_WARN : Fld := ⟨0x700020, 32, 8⟩
/-- `TH_FOLLOW` of `THM_CFG` (19_cooling.md). -/
def F.TH_FOLLOW : Fld := ⟨0x700020, 40, 8⟩
/-- `TH_HOLD` of `THM_CFG` (19_cooling.md). -/
def F.TH_HOLD : Fld := ⟨0x700020, 48, 8⟩
/-- `THM_BASELINE` of `THM_BASELINE` (19_cooling.md). -/
def F.THM_BASELINE : Fld := ⟨0x700028, 0, 16⟩
/-- `THM_REL_STATUS` of `THM_HOLD_CTRL` (19_cooling.md). -/
def F.THM_REL_STATUS : Fld := ⟨0x700030, 16, 16⟩
/-- `THM_RELEASE` of `THM_HOLD_CTRL` (19_cooling.md). -/
def F.THM_RELEASE : Fld := ⟨0x700030, 0, 1⟩
/-- `THM_CORE_TJ` of `THM_CORE` (19_cooling.md). -/
def F.THM_CORE_TJ (n : Nat) : Fld := ⟨0x700100 + 0x4 * n, 24, 8⟩
/-- `THM_CORE_GATE` of `THM_CORE` (19_cooling.md). -/
def F.THM_CORE_GATE (n : Nat) : Fld := ⟨0x700100 + 0x4 * n, 20, 4⟩
/-- `THM_HUB_TJ` of `THM_HUB` (19_cooling.md). -/
def F.THM_HUB_TJ : Fld := ⟨0x700200, 0, 8⟩
/-- `THM_HUB_GATE` of `THM_HUB` (19_cooling.md). -/
def F.THM_HUB_GATE : Fld := ⟨0x700200, 8, 4⟩
/-- `THM_LOST_TICKS` of `THM_LOST` (19_cooling.md). -/
def F.THM_LOST_TICKS (s : Nat) : Fld := ⟨0x700300 + 0x8 * s, 32, 32⟩
/-- `THM_LOST_REQ` of `THM_LOST` (19_cooling.md). -/
def F.THM_LOST_REQ (s : Nat) : Fld := ⟨0x700300 + 0x8 * s, 0, 8⟩
/-- `THM_CYCLE_RATE` of `THM_CYCLE` (19_cooling.md). -/
def F.THM_CYCLE_RATE : Fld := ⟨0x700400, 0, 16⟩
/-- `THM_EV_CYCLING` of `THM_EVENT` (19_cooling.md). -/
def F.THM_EV_CYCLING : Fld := ⟨0x700500, 5, 1⟩
/-- `THM_EV_HOLD` of `THM_EVENT` (19_cooling.md). -/
def F.THM_EV_HOLD : Fld := ⟨0x700500, 4, 1⟩
/-- `THM_EV_FOLLOW` of `THM_EVENT` (19_cooling.md). -/
def F.THM_EV_FOLLOW : Fld := ⟨0x700500, 3, 1⟩
/-- `THM_EV_WARN` of `THM_EVENT` (19_cooling.md). -/
def F.THM_EV_WARN : Fld := ⟨0x700500, 2, 1⟩
/-- `THM_EV_HARD` of `THM_EVENT` (19_cooling.md). -/
def F.THM_EV_HARD : Fld := ⟨0x700500, 1, 1⟩
/-- `THM_EV_THROTTLE` of `THM_EVENT` (19_cooling.md). -/
def F.THM_EV_THROTTLE : Fld := ⟨0x700500, 0, 1⟩
/-- `THM_COUNTS` of `THM_COUNTS` (19_cooling.md). -/
def F.THM_COUNTS (i : Nat) : Fld := ⟨0x700600 + 0x8 * i, 0, 64⟩
/-- `HBM_TEMP` of `HBM_STACK` (06_memory.md). -/
def F.HBM_TEMP (i : Nat) : Fld := ⟨0x800000 + 0x100 * i, 40, 8⟩
/-- `HBM_REPAIRS` of `HBM_STACK` (06_memory.md). -/
def F.HBM_REPAIRS (i : Nat) : Fld := ⟨0x800000 + 0x100 * i, 32, 8⟩
/-- `HBM_GIB` of `HBM_STACK` (06_memory.md). -/
def F.HBM_GIB (i : Nat) : Fld := ⟨0x800000 + 0x100 * i, 8, 8⟩
/-- `HBM_STATE` of `HBM_STACK` (06_memory.md). -/
def F.HBM_STATE (i : Nat) : Fld := ⟨0x800000 + 0x100 * i, 0, 2⟩
/-- `HBM_CE_COUNT` of `HBM_ECC` (06_memory.md). -/
def F.HBM_CE_COUNT (i : Nat) : Fld := ⟨0x800008 + 0x100 * i, 32, 32⟩
/-- `HBM_UE_COUNT` of `HBM_ECC` (06_memory.md). -/
def F.HBM_UE_COUNT (i : Nat) : Fld := ⟨0x800008 + 0x100 * i, 1, 31⟩
/-- `HBM_UE` of `HBM_ECC` (06_memory.md). -/
def F.HBM_UE (i : Nat) : Fld := ⟨0x800008 + 0x100 * i, 0, 1⟩
/-- `HBM_UE_ADDR` of `HBM_UE_ADDR` (06_memory.md). -/
def F.HBM_UE_ADDR (i : Nat) : Fld := ⟨0x800010 + 0x100 * i, 6, 40⟩
/-- `HBM_BYTES` of `HBM_BYTES` (06_memory.md). -/
def F.HBM_BYTES (i : Nat) : Fld := ⟨0x800800 + 0x8 * i, 0, 64⟩
/-- `CORE_LOGICAL` of `CORE_IDENT` (03_core.md). -/
def F.CORE_LOGICAL (n : Nat) : Fld := ⟨0x1000000 + 0x40000 * n, 24, 8⟩
/-- `CORE_PART_SLOT` of `CORE_IDENT` (03_core.md). -/
def F.CORE_PART_SLOT (n : Nat) : Fld := ⟨0x1000000 + 0x40000 * n, 22, 2⟩
/-- `CORE_PART_VALID` of `CORE_IDENT` (03_core.md). -/
def F.CORE_PART_VALID (n : Nat) : Fld := ⟨0x1000000 + 0x40000 * n, 21, 1⟩
/-- `CORE_PHYS` of `CORE_IDENT` (03_core.md). -/
def F.CORE_PHYS (n : Nat) : Fld := ⟨0x1000000 + 0x40000 * n, 0, 6⟩
/-- `CORE_LAST_STATUS` of `CORE_STATUS` (03_core.md). -/
def F.CORE_LAST_STATUS (n : Nat) : Fld := ⟨0x1000008 + 0x40000 * n, 16, 16⟩
/-- `CORE_GATED` of `CORE_STATUS` (03_core.md). -/
def F.CORE_GATED (n : Nat) : Fld := ⟨0x1000008 + 0x40000 * n, 4, 1⟩
/-- `CORE_STATE` of `CORE_STATUS` (03_core.md). -/
def F.CORE_STATE (n : Nat) : Fld := ⟨0x1000008 + 0x40000 * n, 0, 3⟩
/-- `CORE_CLK_MHZ` of `CORE_CLOCK` (03_core.md). -/
def F.CORE_CLK_MHZ (n : Nat) : Fld := ⟨0x1000010 + 0x40000 * n, 16, 16⟩
/-- `CORE_GATE` of `CORE_CLOCK` (03_core.md). -/
def F.CORE_GATE (n : Nat) : Fld := ⟨0x1000010 + 0x40000 * n, 8, 4⟩
/-- `CORE_FIXED_MODE` of `CORE_CLOCK` (03_core.md). -/
def F.CORE_FIXED_MODE (n : Nat) : Fld := ⟨0x1000010 + 0x40000 * n, 0, 1⟩
/-- `CORE_BIST_BANK` of `CORE_BIST` (03_core.md). -/
def F.CORE_BIST_BANK (n : Nat) : Fld := ⟨0x1000018 + 0x40000 * n, 26, 6⟩
/-- `CORE_BIST_FAIL` of `CORE_BIST` (03_core.md). -/
def F.CORE_BIST_FAIL (n : Nat) : Fld := ⟨0x1000018 + 0x40000 * n, 8, 6⟩
/-- `CORE_BIST_RUNS` of `CORE_BIST` (03_core.md). -/
def F.CORE_BIST_RUNS (n : Nat) : Fld := ⟨0x1000018 + 0x40000 * n, 4, 4⟩
/-- `CORE_BIST_RESULT` of `CORE_BIST` (03_core.md). -/
def F.CORE_BIST_RESULT (n : Nat) : Fld := ⟨0x1000018 + 0x40000 * n, 0, 2⟩
/-- `CORE_LS_CE_COUNT` of `CORE_LS_ECC` (03_core.md). -/
def F.CORE_LS_CE_COUNT (n : Nat) : Fld := ⟨0x1000020 + 0x40000 * n, 32, 32⟩
/-- `CORE_LS_UE_BANK` of `CORE_LS_ECC` (03_core.md). -/
def F.CORE_LS_UE_BANK (n : Nat) : Fld := ⟨0x1000020 + 0x40000 * n, 26, 6⟩
/-- `CORE_LS_UE_ROW` of `CORE_LS_ECC` (03_core.md). -/
def F.CORE_LS_UE_ROW (n : Nat) : Fld := ⟨0x1000020 + 0x40000 * n, 12, 14⟩
/-- `CORE_LS_UE` of `CORE_LS_ECC` (03_core.md). -/
def F.CORE_LS_UE (n : Nat) : Fld := ⟨0x1000020 + 0x40000 * n, 1, 1⟩
/-- `CORE_LS_CE` of `CORE_LS_ECC` (03_core.md). -/
def F.CORE_LS_CE (n : Nat) : Fld := ⟨0x1000020 + 0x40000 * n, 0, 1⟩
/-- `CORE_FP_UNDERFLOW` of `CORE_FPFLAGS` (03_core.md). -/
def F.CORE_FP_UNDERFLOW (n : Nat) : Fld := ⟨0x1000028 + 0x40000 * n, 4, 1⟩
/-- `CORE_FP_NAN_IN` of `CORE_FPFLAGS` (03_core.md). -/
def F.CORE_FP_NAN_IN (n : Nat) : Fld := ⟨0x1000028 + 0x40000 * n, 3, 1⟩
/-- `CORE_FP_SATURATED` of `CORE_FPFLAGS` (03_core.md). -/
def F.CORE_FP_SATURATED (n : Nat) : Fld := ⟨0x1000028 + 0x40000 * n, 2, 1⟩
/-- `CORE_FP_OVERFLOW` of `CORE_FPFLAGS` (03_core.md). -/
def F.CORE_FP_OVERFLOW (n : Nat) : Fld := ⟨0x1000028 + 0x40000 * n, 1, 1⟩
/-- `CORE_FP_INVALID` of `CORE_FPFLAGS` (03_core.md). -/
def F.CORE_FP_INVALID (n : Nat) : Fld := ⟨0x1000028 + 0x40000 * n, 0, 1⟩
/-- `CORE_ME_STEPS` of `CORE_ME_STEPS` (03_core.md). -/
def F.CORE_ME_STEPS (n : Nat) : Fld := ⟨0x1000030 + 0x40000 * n, 0, 64⟩
/-- `CORE_LS_CONFLICTS` of `CORE_LS_CONFLICTS` (03_core.md). -/
def F.CORE_LS_CONFLICTS (n : Nat) : Fld := ⟨0x1000038 + 0x40000 * n, 0, 64⟩
/-- `CORE_SEQ_LOOPS` of `CORE_SEQ_STATE` (04_plays.md). -/
def F.CORE_SEQ_LOOPS (n : Nat) : Fld := ⟨0x1000100 + 0x40000 * n, 8, 8⟩
/-- `CORE_SEQ_RUN` of `CORE_SEQ_STATE` (04_plays.md). -/
def F.CORE_SEQ_RUN (n : Nat) : Fld := ⟨0x1000100 + 0x40000 * n, 0, 3⟩
/-- `CORE_SEQ_PLAY` of `CORE_SEQ_PLAY` (04_plays.md). -/
def F.CORE_SEQ_PLAY (n : Nat) : Fld := ⟨0x1000108 + 0x40000 * n, 0, 64⟩
/-- `CORE_SEQ_OLDEST` of `CORE_SEQ_PC` (04_plays.md). -/
def F.CORE_SEQ_OLDEST (n : Nat) : Fld := ⟨0x1000110 + 0x40000 * n, 32, 24⟩
/-- `CORE_SEQ_NEXT` of `CORE_SEQ_PC` (04_plays.md). -/
def F.CORE_SEQ_NEXT (n : Nat) : Fld := ⟨0x1000110 + 0x40000 * n, 0, 24⟩
/-- `CORE_SEQ_ERR_VALID` of `CORE_SEQ_FIRST_ERR` (04_plays.md). -/
def F.CORE_SEQ_ERR_VALID (n : Nat) : Fld := ⟨0x1000118 + 0x40000 * n, 63, 1⟩
/-- `CORE_SEQ_ERR_WORD` of `CORE_SEQ_FIRST_ERR` (04_plays.md). -/
def F.CORE_SEQ_ERR_WORD (n : Nat) : Fld := ⟨0x1000118 + 0x40000 * n, 16, 24⟩
/-- `CORE_SEQ_ERR_STATUS` of `CORE_SEQ_FIRST_ERR` (04_plays.md). -/
def F.CORE_SEQ_ERR_STATUS (n : Nat) : Fld := ⟨0x1000118 + 0x40000 * n, 0, 16⟩
/-- `CORE_SEQ_ERR_INFO` of `CORE_SEQ_ERR_INFO` (04_plays.md). -/
def F.CORE_SEQ_ERR_INFO (n : Nat) : Fld := ⟨0x1000120 + 0x40000 * n, 0, 64⟩
/-- `CORE_SEQ_SHOT_NOW` of `CORE_SEQ_SHOT` (04_plays.md). -/
def F.CORE_SEQ_SHOT_NOW (n : Nat) : Fld := ⟨0x1000128 + 0x40000 * n, 32, 32⟩
/-- `CORE_SEQ_SHOT_LIMIT` of `CORE_SEQ_SHOT` (04_plays.md). -/
def F.CORE_SEQ_SHOT_LIMIT (n : Nat) : Fld := ⟨0x1000128 + 0x40000 * n, 0, 32⟩
/-- `CORE_SEQ_RETIRED` of `CORE_SEQ_RETIRED` (04_plays.md). -/
def F.CORE_SEQ_RETIRED (n : Nat) : Fld := ⟨0x1000130 + 0x40000 * n, 0, 64⟩
/-- `CORE_HAZ_STALLS` of `CORE_HAZ_STALLS` (04_plays.md). -/
def F.CORE_HAZ_STALLS (n : Nat) : Fld := ⟨0x1000138 + 0x40000 * n, 0, 64⟩
/-- `CORE_MOV_PEAK` of `CORE_MOV_INFLIGHT` (04_plays.md). -/
def F.CORE_MOV_PEAK (n : Nat) : Fld := ⟨0x1000140 + 0x40000 * n, 16, 13⟩
/-- `CORE_MOV_NOW` of `CORE_MOV_INFLIGHT` (04_plays.md). -/
def F.CORE_MOV_NOW (n : Nat) : Fld := ⟨0x1000140 + 0x40000 * n, 0, 13⟩
/-- `CORE_MOV_BYTES` of `CORE_MOV_BYTES` (04_plays.md). -/
def F.CORE_MOV_BYTES (n : Nat) : Fld := ⟨0x1000148 + 0x40000 * n, 0, 64⟩
/-- `CORE_ATT_FAILED` of `CORE_ATT_LANES` (07_attention.md). -/
def F.CORE_ATT_FAILED (n : Nat) : Fld := ⟨0x1000200 + 0x40000 * n, 32, 32⟩
/-- `CORE_ATT_DONE` of `CORE_ATT_LANES` (07_attention.md). -/
def F.CORE_ATT_DONE (n : Nat) : Fld := ⟨0x1000200 + 0x40000 * n, 0, 32⟩
/-- `CORE_ATT_PAGES` of `CORE_ATT_PAGES` (07_attention.md). -/
def F.CORE_ATT_PAGES (n : Nat) : Fld := ⟨0x1000208 + 0x40000 * n, 0, 64⟩
/-- `CORE_ATT_WAIT` of `CORE_ATT_WAIT` (07_attention.md). -/
def F.CORE_ATT_WAIT (n : Nat) : Fld := ⟨0x1000210 + 0x40000 * n, 0, 64⟩
/-- `CORE_ATT_FAIL_LANE` of `CORE_ATT_LAST_FAIL` (07_attention.md). -/
def F.CORE_ATT_FAIL_LANE (n : Nat) : Fld := ⟨0x1000218 + 0x40000 * n, 16, 12⟩
/-- `CORE_ATT_FAIL_STATUS` of `CORE_ATT_LAST_FAIL` (07_attention.md). -/
def F.CORE_ATT_FAIL_STATUS (n : Nat) : Fld := ⟨0x1000218 + 0x40000 * n, 0, 16⟩
/-- `CORE_TOK_PENDING` of `CORE_TOK_STATUS` (04_plays.md). -/
def F.CORE_TOK_PENDING (n i : Nat) : Fld := ⟨0x1001000 + 0x40000 * n + 0x4 * i, 16, 1⟩
/-- `CORE_TOK_CODE` of `CORE_TOK_STATUS` (04_plays.md). -/
def F.CORE_TOK_CODE (n i : Nat) : Fld := ⟨0x1001000 + 0x40000 * n + 0x4 * i, 0, 16⟩
/-- `HIF_PCIE_DEGRADED` of `HIF_PCIE_STATUS` (13_host.md). -/
def F.HIF_PCIE_DEGRADED : Fld := ⟨0x2000000, 31, 1⟩
/-- `HIF_PCIE_WIDTH` of `HIF_PCIE_STATUS` (13_host.md). -/
def F.HIF_PCIE_WIDTH : Fld := ⟨0x2000000, 16, 5⟩
/-- `HIF_PCIE_RATE` of `HIF_PCIE_STATUS` (13_host.md). -/
def F.HIF_PCIE_RATE : Fld := ⟨0x2000000, 8, 3⟩
/-- `HIF_PCIE_FLIT` of `HIF_PCIE_STATUS` (13_host.md). -/
def F.HIF_PCIE_FLIT : Fld := ⟨0x2000000, 0, 1⟩
/-- `HIF_CALL_TIMEOUT` of `HIF_CALL_TIMEOUT` (13_host.md). -/
def F.HIF_CALL_TIMEOUT : Fld := ⟨0x2000008, 0, 32⟩
/-- `HIF_EV_STO_REFUSED` of `HIF_EVENT` (13_host.md). -/
def F.HIF_EV_STO_REFUSED : Fld := ⟨0x2000010, 6, 1⟩
/-- `HIF_EV_QUEUE_REFUSED` of `HIF_EVENT` (13_host.md). -/
def F.HIF_EV_QUEUE_REFUSED : Fld := ⟨0x2000010, 5, 1⟩
/-- `HIF_EV_VF_WRITE_REFUSED` of `HIF_EVENT` (13_host.md). -/
def F.HIF_EV_VF_WRITE_REFUSED : Fld := ⟨0x2000010, 4, 1⟩
/-- `HIF_EV_DOORBELL_BAD` of `HIF_EVENT` (13_host.md). -/
def F.HIF_EV_DOORBELL_BAD : Fld := ⟨0x2000010, 3, 1⟩
/-- `HIF_EV_BAR2_FAULT` of `HIF_EVENT` (13_host.md). -/
def F.HIF_EV_BAR2_FAULT : Fld := ⟨0x2000010, 2, 1⟩
/-- `HIF_EV_CQ_FULL` of `HIF_EVENT` (13_host.md). -/
def F.HIF_EV_CQ_FULL : Fld := ⟨0x2000010, 1, 1⟩
/-- `HIF_EV_FLR` of `HIF_EVENT` (13_host.md). -/
def F.HIF_EV_FLR : Fld := ⟨0x2000010, 0, 1⟩
/-- `HIF_IS_CAPTAIN` of `HIF_CAPTAIN` (13_host.md). -/
def F.HIF_IS_CAPTAIN (s : Nat) : Fld := ⟨0x2000100 + 0x8 * s, 31, 1⟩
/-- `HIF_PART_VALID` of `HIF_CAPTAIN` (13_host.md). -/
def F.HIF_PART_VALID (s : Nat) : Fld := ⟨0x2000100 + 0x8 * s, 30, 1⟩
/-- `HIF_CAP_RACK` of `HIF_CAPTAIN` (13_host.md). -/
def F.HIF_CAP_RACK (s : Nat) : Fld := ⟨0x2000100 + 0x8 * s, 7, 11⟩
/-- `HIF_CAP_PKG` of `HIF_CAPTAIN` (13_host.md). -/
def F.HIF_CAP_PKG (s : Nat) : Fld := ⟨0x2000100 + 0x8 * s, 0, 7⟩
/-- `HIF_EVT_EN` of `HIF_EVT_CQ` (13_host.md). -/
def F.HIF_EVT_EN (s : Nat) : Fld := ⟨0x2000140 + 0x8 * s, 15, 1⟩
/-- `HIF_EVT_CQ_INDEX` of `HIF_EVT_CQ` (13_host.md). -/
def F.HIF_EVT_CQ_INDEX (s : Nat) : Fld := ⟨0x2000140 + 0x8 * s, 0, 8⟩
/-- `HIF_SQ_BASE` of `HIF_SQ_BASE` (13_host.md). -/
def F.HIF_SQ_BASE (q : Nat) : Fld := ⟨0x2010000 + 0x40 * q, 12, 52⟩
/-- `HIF_SQ_EN` of `HIF_SQ_CFG` (13_host.md). -/
def F.HIF_SQ_EN (q : Nat) : Fld := ⟨0x2010008 + 0x40 * q, 63, 1⟩
/-- `HIF_SQ_CQ` of `HIF_SQ_CFG` (13_host.md). -/
def F.HIF_SQ_CQ (q : Nat) : Fld := ⟨0x2010008 + 0x40 * q, 48, 8⟩
/-- `HIF_SQ_OWNER` of `HIF_SQ_CFG` (13_host.md). -/
def F.HIF_SQ_OWNER (q : Nat) : Fld := ⟨0x2010008 + 0x40 * q, 32, 3⟩
/-- `HIF_SQ_SIZE` of `HIF_SQ_CFG` (13_host.md). -/
def F.HIF_SQ_SIZE (q : Nat) : Fld := ⟨0x2010008 + 0x40 * q, 0, 13⟩
/-- `HIF_SQ_REPLAY` of `HIF_SQ_REPLAY` (13_host.md). -/
def F.HIF_SQ_REPLAY (q : Nat) : Fld := ⟨0x2010010 + 0x40 * q, 20, 26⟩
/-- `HIF_SQ_RUNNING` of `HIF_SQ_STATE` (13_host.md). -/
def F.HIF_SQ_RUNNING (q : Nat) : Fld := ⟨0x2010018 + 0x40 * q, 32, 13⟩
/-- `HIF_SQ_HEAD` of `HIF_SQ_STATE` (13_host.md). -/
def F.HIF_SQ_HEAD (q : Nat) : Fld := ⟨0x2010018 + 0x40 * q, 16, 12⟩
/-- `HIF_SQ_TAIL` of `HIF_SQ_STATE` (13_host.md). -/
def F.HIF_SQ_TAIL (q : Nat) : Fld := ⟨0x2010018 + 0x40 * q, 0, 12⟩
/-- `HIF_CQ_BASE` of `HIF_CQ_BASE` (13_host.md). -/
def F.HIF_CQ_BASE (c : Nat) : Fld := ⟨0x2020000 + 0x40 * c, 12, 52⟩
/-- `HIF_CQ_EN` of `HIF_CQ_CFG` (13_host.md). -/
def F.HIF_CQ_EN (c : Nat) : Fld := ⟨0x2020008 + 0x40 * c, 63, 1⟩
/-- `HIF_CQ_VECTOR` of `HIF_CQ_CFG` (13_host.md). -/
def F.HIF_CQ_VECTOR (c : Nat) : Fld := ⟨0x2020008 + 0x40 * c, 48, 11⟩
/-- `HIF_CQ_COAL_COUNT` of `HIF_CQ_CFG` (13_host.md). -/
def F.HIF_CQ_COAL_COUNT (c : Nat) : Fld := ⟨0x2020008 + 0x40 * c, 40, 8⟩
/-- `HIF_CQ_COAL_TIME` of `HIF_CQ_CFG` (13_host.md). -/
def F.HIF_CQ_COAL_TIME (c : Nat) : Fld := ⟨0x2020008 + 0x40 * c, 32, 8⟩
/-- `HIF_CQ_OWNER` of `HIF_CQ_CFG` (13_host.md). -/
def F.HIF_CQ_OWNER (c : Nat) : Fld := ⟨0x2020008 + 0x40 * c, 17, 3⟩
/-- `HIF_CQ_SIZE` of `HIF_CQ_CFG` (13_host.md). -/
def F.HIF_CQ_SIZE (c : Nat) : Fld := ⟨0x2020008 + 0x40 * c, 0, 17⟩
/-- `HIF_CQ_PHASE` of `HIF_CQ_STATE` (13_host.md). -/
def F.HIF_CQ_PHASE (c : Nat) : Fld := ⟨0x2020010 + 0x40 * c, 63, 1⟩
/-- `HIF_CQ_WINDEX` of `HIF_CQ_STATE` (13_host.md). -/
def F.HIF_CQ_WINDEX (c : Nat) : Fld := ⟨0x2020010 + 0x40 * c, 32, 17⟩
/-- `HIF_CQ_HEAD` of `HIF_CQ_STATE` (13_host.md). -/
def F.HIF_CQ_HEAD (c : Nat) : Fld := ⟨0x2020010 + 0x40 * c, 0, 17⟩
/-- `HIF_COUNTS` of `HIF_COUNTS` (13_host.md). -/
def F.HIF_COUNTS (i : Nat) : Fld := ⟨0x2030000 + 0x8 * i, 0, 64⟩
/-- `HIF_STO_MAC` of `HIF_STO_MAC` (13_host.md). -/
def F.HIF_STO_MAC : Fld := ⟨0x2040000, 0, 48⟩
/-- `HIF_STO_IP` of `HIF_STO_IP` (13_host.md). -/
def F.HIF_STO_IP (i : Nat) : Fld := ⟨0x2040008 + 0x8 * i, 0, 64⟩
/-- `HIF_STO_VLAN_EN` of `HIF_STO_NET` (13_host.md). -/
def F.HIF_STO_VLAN_EN : Fld := ⟨0x2040020, 31, 1⟩
/-- `HIF_STO_PFC_EN` of `HIF_STO_NET` (13_host.md). -/
def F.HIF_STO_PFC_EN : Fld := ⟨0x2040020, 20, 1⟩
/-- `HIF_STO_PRIO` of `HIF_STO_NET` (13_host.md). -/
def F.HIF_STO_PRIO : Fld := ⟨0x2040020, 16, 3⟩
/-- `HIF_STO_VLAN` of `HIF_STO_NET` (13_host.md). -/
def F.HIF_STO_VLAN : Fld := ⟨0x2040020, 0, 12⟩
/-- `HIF_STO_TABLE` of `HIF_STO_TABLE` (13_host.md). -/
def F.HIF_STO_TABLE : Fld := ⟨0x2040028, 12, 34⟩
/-- `HIF_STO_DISCONNECT` of `HIF_STO_CTRL` (13_host.md). -/
def F.HIF_STO_DISCONNECT : Fld := ⟨0x2040030, 16, 16⟩
/-- `HIF_STO_CONNECT` of `HIF_STO_CTRL` (13_host.md). -/
def F.HIF_STO_CONNECT : Fld := ⟨0x2040030, 0, 16⟩
/-- `HIF_STO_IOQS` of `HIF_STO_CONN` (13_host.md). -/
def F.HIF_STO_IOQS (k : Nat) : Fld := ⟨0x2040100 + 0x8 * k, 32, 7⟩
/-- `HIF_STO_NVME` of `HIF_STO_CONN` (13_host.md). -/
def F.HIF_STO_NVME (k : Nat) : Fld := ⟨0x2040100 + 0x8 * k, 16, 16⟩
/-- `HIF_STO_ST` of `HIF_STO_CONN` (13_host.md). -/
def F.HIF_STO_ST (k : Nat) : Fld := ⟨0x2040100 + 0x8 * k, 0, 2⟩
/-- `HIF_STO_COUNTS` of `HIF_STO_COUNTS` (13_host.md). -/
def F.HIF_STO_COUNTS (i : Nat) : Fld := ⟨0x2040200 + 0x8 * i, 0, 64⟩
/-- `MSIX_WORD` of `MSIX_TABLE` (13_host.md). -/
def F.MSIX_WORD (fn i : Nat) : Fld := ⟨0x20080000 + 0x1000000 * fn + 0x8 * i, 0, 64⟩
/-- `MSIX_PENDING` of `MSIX_PBA` (13_host.md). -/
def F.MSIX_PENDING (fn i : Nat) : Fld := ⟨0x200c0000 + 0x1000000 * fn + 0x8 * i, 0, 64⟩
/-- `ERR_SUB` of `ERR_SUMMARY` (23_status.md). -/
def F.ERR_SUB : Fld := ⟨0x3000000, 0, 15⟩
/-- `ERR_CSR_COUNT` of `ERR_CSR` (23_status.md). -/
def F.ERR_CSR_COUNT : Fld := ⟨0x3000008, 32, 32⟩
/-- `ERR_CSR_VALID` of `ERR_CSR` (23_status.md). -/
def F.ERR_CSR_VALID : Fld := ⟨0x3000008, 31, 1⟩
/-- `ERR_CSR_WRITE` of `ERR_CSR` (23_status.md). -/
def F.ERR_CSR_WRITE : Fld := ⟨0x3000008, 30, 1⟩
/-- `ERR_CSR_SOURCE` of `ERR_CSR` (23_status.md). -/
def F.ERR_CSR_SOURCE : Fld := ⟨0x3000008, 27, 3⟩
/-- `ERR_CSR_OFFSET` of `ERR_CSR` (23_status.md). -/
def F.ERR_CSR_OFFSET : Fld := ⟨0x3000008, 0, 26⟩
/-- `ERR_LOG_LOST` of `ERR_LOG_PTR` (23_status.md). -/
def F.ERR_LOG_LOST : Fld := ⟨0x3000010, 16, 16⟩
/-- `ERR_LOG_NEXT` of `ERR_LOG_PTR` (23_status.md). -/
def F.ERR_LOG_NEXT : Fld := ⟨0x3000010, 0, 8⟩
/-- `ERR_LR_HT` of `ERR_LOG_REC` (23_status.md). -/
def F.ERR_LR_HT (i : Nat) : Fld := ⟨0x3001018 + 0x20 * i, 0, 64⟩
/-- `ERR_LR_INFO` of `ERR_LOG_REC` (23_status.md). -/
def F.ERR_LR_INFO (i : Nat) : Fld := ⟨0x3001010 + 0x20 * i, 0, 64⟩
/-- `ERR_LR_REPEAT` of `ERR_LOG_REC` (23_status.md). -/
def F.ERR_LR_REPEAT (i : Nat) : Fld := ⟨0x3001008 + 0x20 * i, 32, 32⟩
/-- `ERR_LR_STATUS` of `ERR_LOG_REC` (23_status.md). -/
def F.ERR_LR_STATUS (i : Nat) : Fld := ⟨0x3001008 + 0x20 * i, 16, 16⟩
/-- `ERR_LR_KIND` of `ERR_LOG_REC` (23_status.md). -/
def F.ERR_LR_KIND (i : Nat) : Fld := ⟨0x3001008 + 0x20 * i, 12, 4⟩
/-- `ERR_LR_INDEX` of `ERR_LOG_REC` (23_status.md). -/
def F.ERR_LR_INDEX (i : Nat) : Fld := ⟨0x3001008 + 0x20 * i, 0, 12⟩

end Sys2Proof.Machine
end

