-- ==== Sys2Proof/Machine/State.lean ====
section
/-! DEFINITION. The state of the block: the 72 packages of a rack, its management, power and cooling, and the queue
of waiting commands. Registers live in each package's register store (`Regs.lean`); the structures here hold what the
spec gives the machine beside its registers. -/

namespace Sys2Proof.Machine

/-! ### Straps and Hall Time (02_hall_time.md) -/

/-- What the straps give a package (`GLB_IDENTITY`, R948): its number and the rack variant. -/
structure Straps where
  pkg : Nat := 0
  variant : Nat := 0
  deriving DecidableEq, Repr

/-- What a port last heard in a marker (Table 2-2); times in 1/256 tick. -/
structure Heard where
  valid : Bool
  locked : Bool
  ref : Nat
  rootKey : Nat
  rank : Nat
  seq : Nat
  tx : Nat
  rx : Nat
  deriving DecidableEq, Repr

/-- Marker state of one port. -/
structure PortTime where
  /-- `MK_SEQ` of the next marker to send. -/
  txSeq : Nat := 0
  /-- Markers sent since the port came up. -/
  sent : Nat := 0
  /-- AUX_SEL of the next marker (R49). -/
  auxSel : Nat := 0
  /-- Index of the last four-volley period in which a marker was sent (R391). -/
  lastPeriod : Option Nat := none
  heard : Option Heard := none
  deriving DecidableEq, Repr

/-- Hall Time state of a package beside the HTM registers. -/
structure HallTime where
  ports : Vector PortTime 20 := Vector.replicate 20 {}
  /-- The last 16 offset samples from the parent, newest first, in 1/256 tick. -/
  samples : List Int := []
  /-- Consecutive markers within 1 ns of the parent. -/
  within : Nat := 0
  /-- Consecutive markers more than 4 ns from the parent. -/
  beyond : Nat := 0
  /-- When FREE was entered. -/
  freeSince : Nat := 0
  /-- FREE has lasted 1 s (R58). -/
  freeHeld : Bool := false
  /-- The root's rate correction is frozen (R69). -/
  rateFrozen : Bool := false
  /-- Largest stretch request a captain has received in the current epoch, per slot (R79). -/
  captainMax : Vector Nat 4 := Vector.replicate 4 0
  /-- The captain's last decision (R79), per slot. -/
  stretchAfter : Vector Nat 4 := Vector.replicate 4 0
  /-- Stretch counts received in advance: (slot, epoch, count). -/
  stretchHeld : List (Nat × Nat × Nat) := []
  deriving DecidableEq, Repr

/-! ### The lineup image (14_lineup.md) -/

/-- A rack entry of IDENTITY (Table 14-4). -/
structure RackEntry where
  serial : Nat
  id : Nat
  share : Nat
  mapDigest : Bytes
  deriving DecidableEq, Repr

/-- A partition entry of PARTITIONS (Table 14-5) with its entries in COREMAP, ROUTING, POWER and KVLAYOUT (R643). -/
structure PartEntry where
  slot : Nat
  clusters : Nat
  faultPolicy : Nat
  captRack : Nat
  captPkg : Nat
  hbmBase : Nat
  hbmLen : Nat
  id : Nat
  /-- `PT_RACKS` as one number: bit r is rack ID r. -/
  racks : Nat
  minPkg : Nat
  minTotal : Nat
  eta : Nat
  clamp : Nat
  deadline : Nat
  period : Nat
  loopOn : Bool
  hostStep : Bool
  cap : Nat
  kvBase : Nat
  deriving DecidableEq, Repr

/-- A port record of a share table (Table 14-6). -/
structure SharePort where
  owner : List Nat
  weight : List Nat
  deriving DecidableEq, Repr

/-- COLLECTIVE (R658). -/
structure LupCollective where
  t1 : Nat := 65536
  t2 : Nat := 4194304
  timeout : Nat := 20000000
  stageCall : Nat := 0
  deriving DecidableEq, Repr

/-- TIME (Table 14-7). -/
structure LupTime where
  source : Nat := 0
  domain : Nat := 0
  syncLog : Int := 0
  cardRack : Nat := 0
  candidates : List Nat := []
  phase : Nat := 0
  holdover : Nat := 86400
  deriving DecidableEq, Repr

/-- POWER (R661). -/
structure LupPower where
  cap : Nat := 2200
  safeCap : Nat := 1500
  budget : Nat := 180000
  ramp : Nat := 300
  rampPct : Nat := 20
  fixed : Bool := false
  ballast : Bool := true
  deriving DecidableEq, Repr

/-- THERMAL (R662); `baselines` holds 72 values per rack entry. -/
structure LupThermal where
  target : Nat := 95
  throttle : Nat := 100
  hard : Nat := 105
  trip : Nat := 115
  warn : Nat := 10
  follow : Nat := 15
  hold : Nat := 40
  baselines : List Nat := []
  deriving DecidableEq, Repr

/-- MGMT (R663). -/
structure LupMgmt where
  paired : Bool := true
  solo : Nat := 5
  contestUp : Nat := 3
  contestDown : Nat := 60
  deriving DecidableEq, Repr

/-- RESET (R664). -/
structure LupReset where
  drainCore : Nat := 128000
  drainCluster : Nat := 512000
  drainPart : Nat := 4000000
  drainPkg : Nat := 20000000
  shotClock : Nat := 20000000
  parityPkg : Bool := false
  deriving DecidableEq, Repr

/-- A checked lineup image. -/
structure Lineup where
  secver : Nat := 0
  build : Nat := 0
  digest : Bytes := []
  structDigest : Bytes := []
  racks : List RackEntry := []
  parts : List PartEntry := []
  policy : Nat := 1
  remapOnBoot : Bool := false
  strandEnable : Nat := 0xFF
  /-- The 72 route-table entries, each of four route words (R428). -/
  routes : List Nat := []
  shares : List (List SharePort) := []
  coll : LupCollective := {}
  time : LupTime := {}
  power : LupPower := {}
  thermal : LupThermal := {}
  mgmt : LupMgmt := {}
  rst : LupReset := {}
  pins : List Nat := []
  deriving DecidableEq, Repr

/-- The lineup store: one active and one staged image (R670). -/
structure LineupStore where
  active : Option Lineup := none
  /-- A staged image under check: the copy taken from flash. -/
  staging : Option Bytes := none
  staged : Option Lineup := none
  deriving DecidableEq, Repr

/-! ### Links (09_braid.md) -/

/-- A pending lane replacement asked for by this receiver (R411). -/
structure SpareReq where
  lane : Nat
  switchAt : Nat
  sentAt : Nat
  acked : Bool
  deriving DecidableEq, Repr

/-- Link state of a port beside the LNK registers. -/
structure LinkPort where
  /-- Qualifications at bring-up that did not pass (R407). -/
  attempts : Nat := 0
  /-- The bring-up window applies (otherwise the retrain window). -/
  bringUp : Bool := true
  /-- Hall Time at which the current state was entered. -/
  entered : Nat := 0
  /-- Last identity word heard in IDENTIFY and how many times in a row (R396). -/
  idLast : Nat := 0
  idRun : Nat := 0
  /-- The identity accepted (R398). -/
  accepted : Nat := 0
  spareReq : Option SpareReq := none
  /-- The peer's request this transmitter has acknowledged: lane and switch count. -/
  peerSpare : Option (Nat × Nat) := none
  /-- `LC_NOTICE` to send and in how many more control frames (R419, R422). -/
  notice : Nat := 0
  noticeLeft : Nat := 0
  /-- Begin times of retrains within the last 60 s (R497). -/
  retrains : List Nat := []
  /-- The equalizer coefficients are stored (R416). -/
  coeffs : Bool := false
  /-- When the port last entered DETECT (R694). -/
  detectAt : Nat := 0
  /-- The link returns to the map at an epoch boundary: it leaves PEER_RESET (R424), or comes up after the port phase. -/
  restoreAtEpoch : Bool := false
  /-- The peer has shown UP (R424, R578). -/
  lineHi : Bool := false
  deriving DecidableEq, Repr

/-! ### Packets and the fabric engine (10_packets.md) -/

/-- Who waits for a sequence's acknowledgement. -/
inductive Owner
  | none
  /-- A mover command of a physical core, by its command number. -/
  | command (core : Nat) (num : Nat)
  /-- An operation of a call fanned out by the captain: running call and target. -/
  | call (num : Nat) (target : Nat)
  /-- A collective call instance of a slot: call number and instance. -/
  | collective (slot call inst : Nat)
  /-- A message of the routing control engine: slot, generation number (0 for a plan section) and target. -/
  | moe (slot num target : Nat)
  deriving DecidableEq, Repr

/-- A sequenced packet that has no acknowledgement yet (R479–R481). -/
structure Unacked where
  pkt : Packet
  sentAt : Nat
  sched : Bool
  chan : Nat
  owner : Owner
  deriving DecidableEq, Repr

/-- A packet to be injected: its fields without route, birth time and CRC; its class, channel and owner; `own` when
one of this package's movers sends it (R470). -/
structure Outgoing where
  pkt : Packet
  sched : Bool
  chan : Nat
  spread : Nat
  owner : Owner
  own : Bool
  /-- The port a ring step leaves by while its way is clear (R529, R534, R576). -/
  via : Option Nat := none
  deriving DecidableEq, Repr

/-- Source state of a stream: slot, stream ID and the next sequence number (R449). -/
structure StreamTx where
  slot : Nat
  stream : Nat
  next : Nat
  deriving DecidableEq, Repr

/-- A receive window (R484, R487): base, claims with whether each effect completed, and old values of atomics. -/
structure RxWindow where
  src : Nat
  slot : Nat
  stream : Nat
  base : Nat
  claims : List (Nat × Bool)
  olds : List (Nat × Nat)
  lastAccept : Nat
  deriving DecidableEq, Repr

/-- Throttle state of a destination (R471). -/
structure Throttle where
  dst : Nat
  rate : Nat
  marked : Bool
  budget : Int
  deriving DecidableEq, Repr

/-- A channel table entry (Table 10-6). -/
structure Channel where
  openClass : Bool := true
  spread : Nat := 0
  stream : Nat := 0
  pktUnits : Nat := 0
  deriving DecidableEq, Repr

/-- A template entry (Table 10-7). -/
structure TmplEntry where
  port : Nat
  kind : Nat
  volley : Nat
  slot : Nat
  who : Nat
  /-- The port the entry was loaded for; differs from `port` when redistributed (R463). -/
  orig : Nat
  deriving DecidableEq, Repr

/-- A packet waiting at an output queue: the scheduled class keeps its channel's stream; `fwd` when forwarded. -/
structure Queued where
  pkt : Packet
  sched : Bool
  fwd : Bool
  /-- When it joined the queue (R458, R460). -/
  since : Nat
  /-- For injected packets of this package: the channel. -/
  chan : Nat
  deriving DecidableEq, Repr

/-- Fabric state of one port beside the FAB registers. -/
structure FabPort where
  queue : List Queued := []
  /-- Bytes already begun on the link, waiting to be laid into data frames (R447). -/
  txBytes : Bytes := []
  /-- Position in the payload stream of the first byte of `txBytes`. -/
  txPos : Nat := 0
  /-- Positions in the payload stream of packet starts not yet sent. -/
  txStarts : List Nat := []
  /-- Zero bytes have been sent since the last packet (R448). -/
  txGap : Bool := false
  frCount : Nat := 0
  /-- Replay buffer: data frames sent and not acknowledged, oldest first, with when each was last sent. -/
  replay : List (Frame × Nat) := []
  /-- Frames a let still has to resend. -/
  letQueue : List Frame := []
  nextLet : Nat := 0
  lastInOrder : Nat := 0x7FFF
  letReq : Bool := false
  /-- Acknowledgement value for which a let has been started. -/
  letFor : Option Nat := none
  /-- Last acknowledgement heard. -/
  ackHeard : Nat := 0x7FFF
  rxBytes : Bytes := []
  /-- Position in the payload stream of the first byte of `rxBytes`. -/
  rxPos : Nat := 0
  /-- Bytes of the 64 KiB scheduled receive space in use. -/
  schedRx : Nat := 0
  /-- Cumulative credits heard from the peer, spent here, and returned by this receiver (16 channels, shared). -/
  crHeard : List Nat := List.replicate 16 0
  crSpent : List Nat := List.replicate 16 0
  crGiven : List Nat := List.replicate 16 0
  shHeard : Nat := 0
  shSpent : Nat := 0
  shGiven : Nat := 0
  /-- Own credits of each channel occupied by packets held here. -/
  rxOwn : List Nat := List.replicate 16 0
  /-- R470: injection is stopped. -/
  stopped : Bool := false
  /-- Bytes served for each slot in the current round of the weighted round robin (R474). -/
  served : List Nat := [0, 0, 0, 0]
  /-- Scheduled slot in progress: start tick and bytes already sent in it. -/
  slotSent : Nat × Nat := (0, 0)
  /-- The last frame put on the link. -/
  outFrame : Option Frame := none
  deriving DecidableEq, Repr

/-- A packet held in a receive buffer: its port and the own and shared credits it occupies. -/
structure Arrived where
  port : Nat
  pkt : Packet
  own : Nat
  shared : Nat
  deriving DecidableEq, Repr

/-- Fabric tables of a partition slot: in force and scheduled (R462). -/
structure FabTables where
  chans : List Channel := []
  /-- INJECT entries of the plan in force for each layer (R372): layer and entries. -/
  plans : List (Nat × List TmplEntry) := []
  tmpl : List TmplEntry := []
  period : Nat := 0
  /-- Entries in force this epoch after redistribution (R463). -/
  active : List TmplEntry := []
  loadEpoch : Option Nat := none
  /-- R490: no sequenced packet is sent before this time. -/
  quietUntil : Nat := 0
  deriving DecidableEq, Repr

/-- The fabric engine. -/
structure Fabric where
  ports : Vector FabPort 20 := Vector.replicate 20 {}
  tables : Vector FabTables 4 := Vector.replicate 4 {}
  streams : List StreamTx := []
  unacked : List Unacked := []
  windows : List RxWindow := []
  throttle : List Throttle := []
  /-- Packets that arrived and wait for the command that takes or forwards them. -/
  arrived : List Arrived := []
  /-- Packets not yet injected: they wait for window room (R479), the end of a quiet time (R490), the throttle (R471)
  or a stopped queue (R470). -/
  held : List Outgoing := []
  /-- Sequences finished since the last settlement: who waited, its status, and the old value returned. -/
  done : List (Owner × Status × Nat) := []
  /-- Spread rotation position of each channel used (R451): slot, channel, next candidate. -/
  rotate : List (Nat × Nat × Nat) := []
  deriving DecidableEq, Repr


/-! ### Translation and HBM (06_memory.md) -/

/-- A cached leaf: root, virtual base of the page, bytes of the page, package-local base, PTE bits 8:0. -/
structure Leaf where
  root : Nat
  va : Nat
  size : Nat
  base : Nat
  perm : Nat
  deriving DecidableEq, Repr

/-- A cached table entry: the table of level `level - 1` that the entry of level `level` covering `va` points to. -/
structure TableEntry where
  root : Nat
  level : Nat
  va : Nat
  table : Nat
  deriving DecidableEq, Repr

/-- The translation cache and the walk cache, most recently used first (R267, R270). -/
structure Xlt where
  leaves : List Leaf := []
  tables : List TableEntry := []
  deriving DecidableEq, Repr

/-! ### Cores (03_core.md, 04_plays.md) -/

/-- Where a command that has issued stands. -/
inductive Phase
  | queued | running | done
  deriving DecidableEq, Repr

/-- A READ_REQ outstanding (R446): its tag, its target, and the window offsets of the 64-byte units not yet returned. -/
structure Fetch where
  tag : Nat
  target : Nat
  need : List Nat
  deriving DecidableEq, Repr

/-- Running softmax state of one query row (R294). -/
structure SoftRow where
  m : Num
  l : Num
  acc : List Num
  deriving DecidableEq, Repr

/-- A lane of a BATCH ATTN_BLOCK (Table 7-5, R310–R317): the next page to request and to compute, the end page, pages
outstanding, pages landed with their ring slots, the first failing page with its status, and the rows. -/
structure Lane where
  seq : Nat
  region : Nat
  tokens : Nat
  start : Nat
  qpos : Nat
  skip : Bool
  request : Nat
  compute : Nat
  stop : Nat
  out : List Nat
  landed : List (Nat × Nat)
  failed : Option (Nat × Status)
  rows : List SoftRow
  deriving DecidableEq, Repr

/-- A command that has issued and not retired. -/
structure Cmd where
  num : Nat
  word : Nat
  bytes : Bytes
  /-- 0 matrix, 1 vector, 2 mover, 3 sequencer. -/
  queue : Nat
  phase : Phase := .queued
  status : Status := 0
  info : Nat := 0
  /-- The engine has made every local-store access of the command (R175). -/
  released : Bool := false
  /-- Packets of the command with no acknowledgement yet. -/
  waiting : Nat := 0
  fetches : List Fetch := []
  /-- Source bytes read so far, by address in the source's space. -/
  view : Memory := []
  /-- Packets not yet sent because an earlier one of the command reaches the same bytes (R234, R236). -/
  later : List Outgoing := []
  /-- Byte ranges of the read and write sets (start, length), fixed when it starts. -/
  reads : List (Nat × Nat) := []
  writes : List (Nat × Nat) := []
  /-- TILE: the armed SEND_TILE word, and output stripes sent. -/
  tile : Option Bytes := none
  stripes : Nat := 0
  /-- BATCH attention: its lanes once checked, and the lane slots it holds (R313). -/
  lanes : List Lane := []
  laneSlots : Nat := 0
  /-- ROUTE: generation and biases in force when it started (R330), and once computed its `CT_ASSIGNED` counts and its
  picks marked OVERFLOW (R342). -/
  biasGen : Nat := 0
  biases : List Nat := []
  routed : List Nat := []
  overflow : Nat := 0
  deriving DecidableEq, Repr

/-- What the sequencer waits for. -/
inductive Block
  | sem (sem threshold : Nat) (consume : Bool)
  | fence (mask : Nat)
  | waitHt (target : Nat)
  | barrier (id : Nat) (partition : Bool) (participants : Nat) (arrived : Bool)
  | stop (result : Nat)
  deriving DecidableEq, Repr

/-- A SEM_POST whose addition is still to come (R160): the commands it waits for have numbers below `before`. -/
structure Post where
  sem : Nat
  target : Nat
  value : Nat
  mask : Nat
  chan : Nat
  before : Nat
  deriving DecidableEq, Repr

/-- A running play. -/
structure Play where
  addr : Nat
  /-- `PH_LENGTH`, 0 until the header has been checked. -/
  length : Nat := 0
  id : Nat := 0
  /-- Words fetched, from the next word to issue on. -/
  buf : List Bytes := []
  /-- Loop counters: value and iteration index; value 0 is idle. -/
  loops : List (Nat × Nat) := List.replicate 8 (0, 0)
  tile : Option Bytes := none
  cmds : List Cmd := []
  nextNum : Nat := 0
  block : Option Block := none
  posts : List Post := []
  /-- Nothing further issues (R191). -/
  stopping : Bool := false
  /-- A drain of the core is under way (R727). -/
  draining : Bool := false
  result : Nat := 0
  /-- When the shot clock last restarted. -/
  shotBase : Nat := 0
  /-- What it had counted when the WAIT_HT issued that now holds it (R187). -/
  shotHeld : Nat := 0
  deriving DecidableEq, Repr

/-- A physical core. -/
structure Core where
  ls : Memory := []
  /-- 32-byte half-rows of local store that hold a double-bit error, and a single-bit error (R125, R126). -/
  lsBad : List Nat := []
  lsCe : List Nat := []
  play : Option Play := none
  deriving DecidableEq, Repr

/-! ### Windows, semaphores and barriers (04_plays.md, 11_collectives.md) -/

/-- A registered window (Table 11-1). -/
structure Window where
  slot : Nat
  index : Nat
  base : Nat
  length : Nat
  key : Nat
  rights : Nat
  sources : Nat
  deriving DecidableEq, Repr

/-- A contribution staged for a unit of an ORDERED window (R512). -/
structure Staged where
  slot : Nat
  window : Nat
  unit : Nat
  source : Nat
  code : Nat
  /-- Offset of the first byte in the unit. -/
  lead : Nat
  bytes : Bytes
  /-- Places of `bytes` that carry no data. -/
  skip : List Nat
  deriving DecidableEq, Repr

/-- What one level of a call does (R527–R536): reduce-scatter, all-gather, reduce to the root, owners' blocks to the root,
broadcast, all-to-all. -/
inductive StageKind | scatter | gather | toRoot | collect | spread | exchange
  deriving DecidableEq, Repr

/-- One step sequence of a call at one level: 0 BRAID, 1 ROW, 2 HALL. `rings` is 0 in DIRECT form; the region is elements
`lo` to `lo + len` in blocks of `blk`; `fmt` is the format of the payload it sends; `conv` says that its result takes the
output format (R510). -/
structure Stage where
  kind : StageKind
  level : Nat
  rings : Nat
  ranks : List Nat
  me : Nat
  root : Nat
  lo : Nat
  len : Nat
  blk : Nat
  fmt : Nat
  conv : Bool
  deriving DecidableEq, Repr

/-- Step data received and not yet combined: source, whether it is a WRITE, its first element, its elements, its bytes. -/
structure Piece where
  src : Nat
  final : Bool
  first : Nat
  vals : List Nat
  size : Nat
  deriving DecidableEq, Repr

/-- A running instance of a call (R517–R522). -/
structure CallRun where
  slot : Nat
  call : Nat
  inst : Nat
  desc : Bytes
  fired : Nat
  /-- `COL_CS_FORM`. -/
  form : Nat := 0
  participants : List Nat
  stages : List Stage := []
  /-- Stages finished, and elements received in the stage under way. -/
  done : Nat := 0
  got : Nat := 0
  /-- Source elements, and elements of the logical buffer held. -/
  src : List Nat := []
  vals : List (Nat × Nat) := []
  inbox : List Piece := []
  /-- Participants whose JOIN has come, and packets that wait for one. -/
  joined : List Nat := []
  waiting : List Outgoing := []
  /-- Packets sent and not yet acknowledged. -/
  out : Nat := 0
  /-- The destination holds this package's results. -/
  placed : Bool := false
  status : Status := 0
  byAbort : Bool := false
  deriving DecidableEq, Repr

/-- Collective traffic for an instance that has not fired here (R528, Table 11-9): a step packet; a JOIN (source, digest);
an ABORT (status). -/
inductive Early
  | step (pkt : Packet)
  | join (src digest : Nat)
  | abort (status : Status)
  deriving DecidableEq, Repr

/-- An arrival counted at a barrier: in a package (PACKAGE scope), or at the captain (PARTITION scope, with generation). -/
structure Arrival where
  slot : Nat
  id : Nat
  gen : Nat
  who : Nat
  participants : Nat
  /-- Arrivals carried (`BA_COUNT`). -/
  count : Nat := 1
  deriving DecidableEq, Repr

/-- State of the collective engine beside its windows, table and registers. -/
structure Coll where
  runs : List CallRun := []
  /-- Instances fired since load, by slot × 1024 + call. -/
  fired : List (Nat × Nat) := []
  /-- Held traffic: slot, call, instance modulo 16 for a step packet and in full otherwise. -/
  early : List (Nat × Nat × Nat × Early) := []
  /-- Call barriers counted here (R527): slot, call, instance, source, participants. -/
  arrivals : List Arrival := []
  /-- Call-table loads scheduled: slot and epoch. -/
  loads : List (Nat × Nat) := []
  /-- Deregistrations accepted and not completed (R504), oldest first: slot and ticket. -/
  deregs : List (Nat × Nat) := []
  deriving DecidableEq, Repr

/-- A drain under way (R727): scope code, target, cause code (0 for a drain without reset, R855), when it began. -/
structure Drain where
  scope : Nat
  target : Nat
  cause : Nat
  /-- Location code of a CRITICAL reset (R740). -/
  loc : Nat
  began : Nat
  deriving DecidableEq, Repr

/-- A load announcement (R822): physical core, Hall Time, level, volleys. -/
structure Announce where
  core : Nat
  ht : Nat
  level : Nat
  volleys : Nat
  deriving DecidableEq, Repr

/-! ### The routing control engine (08_routing.md) -/

/-- A bias generation (R347–R351): slot, number, apply epoch, whether a host committed it, and for each layer it sets the
FP32 biases by expert. -/
structure Generation where
  slot : Nat
  num : Nat
  epoch : Nat
  host : Bool
  layers : List (Nat × List Nat)
  deriving DecidableEq, Repr

/-- Counts of one ROUTE_COUNTS packet received by the captain: `RC_KIND`, layer, `RC_WHEN`, source, `RC_FIRST`. -/
structure CountReport where
  slot : Nat
  kind : Nat
  layer : Nat
  when_ : Nat
  src : Nat
  first : Nat
  counts : List Nat
  deriving DecidableEq, Repr

/-- Steps of a PLAN layer in this package (R361): ROUTE retirements in the open step, its number and its counts. -/
structure StepCount where
  slot : Nat
  layer : Nat
  routes : Nat
  step : Nat
  sums : List Nat
  deriving DecidableEq, Repr

/-- A step whose plan the captain decides (R363–R373): its plan ID, deadline, whether the request has been written, and the
plan accepted, as (package in TARGET form, section). -/
structure PlanRequest where
  slot : Nat
  id : Nat
  deadline : Nat
  written : Bool
  plan : Option (List (Nat × Bytes))
  deriving DecidableEq, Repr

/-- State of the routing control engine beside its registers. -/
structure Moe where
  /-- Generations received and not yet applied, in order of arrival. -/
  held : List Generation := []
  /-- Host generations applied (R351). -/
  hostApplied : List Generation := []
  /-- Captain: generations issued, newest first. -/
  issued : List Generation := []
  /-- Captain: last generation number given out, per slot. -/
  lastGen : List (Nat × Nat) := []
  /-- Captain: reports received of windows and steps not yet decided. -/
  reports : List CountReport := []
  /-- Captain: epoch of the last window decided, per slot. -/
  decided : List (Nat × Nat) := []
  steps : List StepCount := []
  requests : List PlanRequest := []
  /-- Captain: steps decided FALLBACK, by slot and plan ID (R371). -/
  fallen : List (Nat × Nat) := []
  deriving DecidableEq, Repr

/-! ### The host and storage ports (13_host.md) -/

/-- One action of a call: its target package, its logical core for a play, whether its start was acknowledged, and its
status with its `CE_INFO` contribution once known. -/
structure CallPart where
  target : Nat
  core : Nat := 0
  started : Bool := false
  result : Option (Status × Nat) := none
  deriving DecidableEq, Repr

/-- A fetched call (R600–R604): number, SQ, slot (4 for the PF), its 64 bytes, when it times out, what a COPY read from the
host, and its completion once decided. A duplicate names the call it waits for (R615). -/
structure HostCall where
  num : Nat
  sq : Nat
  slot : Nat
  entry : Bytes
  deadline : Nat
  data : Bytes := []
  started : Bool := false
  parts : List CallPart := []
  result : Option (Status × Nat) := none
  orig : Status := 0
  dupOf : Option Nat := none
  deriving DecidableEq, Repr

/-- A record of the replay window (R612): SQ, call ID, call number, and status and `CE_INFO` once completed. -/
structure ReplayRec where
  sq : Nat
  id : Nat
  num : Nat
  done : Option (Status × Nat)
  deriving DecidableEq, Repr

/-- An entry of a storage list being run (Table 13-11). -/
structure StoEntry where
  bytes : Bytes
  issued : Bool := false
  /-- Bytes of the entry not yet in an NVMe command, with the next offset; FLUSH and DEALLOCATE issue one command. -/
  next : Nat := 0
  left : Nat := 0
  out : Nat := 0
  status : Status := 0
  nvme : Nat := 0
  deriving DecidableEq, Repr

/-- The part of a COPY or STORAGE call that runs at this package (R606, R610, R634): the captain that asked, its tag, and
for a COPY whether each of its two RUN packets has come. -/
structure HostJob where
  captain : Nat
  tag : Nat
  slot : Nat
  storage : Bool
  ht : Nat := 0
  va : Option Nat := none
  arg : Nat := 0
  dir : Nat := 0
  hostAddr : Option Nat := none
  data : Bytes := []
  started : Bool := false
  entries : List StoEntry := []
  deriving DecidableEq, Repr

/-- An outstanding NVMe command (R630, R632): its key, its job and entry, when it was issued, and the memory it may reach. -/
structure NvmeCmd where
  key : Nat
  captain : Nat
  tag : Nat
  entry : Nat
  issued : Nat
  slot : Nat
  va : Nat
  size : Nat
  /-- The target writes into memory (a storage READ). -/
  toMemory : Bool
  conn : Nat
  deriving DecidableEq, Repr

/-- A storage connection beside `HIF_STO_CONN`: whether it is asked for, its entry, what the controller told, and the last
attempt. -/
structure Conn where
  wanted : Bool := false
  entry : Bytes := []
  maxTransfer : Nat := 0
  blockBytes : Nat := 0
  last : Nat := 0
  deriving DecidableEq, Repr

/-- What port S last answered (R626, R627). -/
inductive StoReply | none | roce | congestion | address | echo
  deriving DecidableEq, Repr

/-- What the endpoint last answered to a configuration request (R716): nothing yet, Request Retry Status, or a completion with
data. -/
inductive CfgReply
  | none | retry | data (v : Nat)
  deriving DecidableEq, Repr

/-- State of the host and storage ports beside their registers. -/
structure HostIf where
  calls : List HostCall := []
  nextCall : Nat := 0
  replay : List ReplayRec := []
  /-- Plays started by calls that timed out (R604): package, logical core. -/
  ghosts : List (Nat × Nat) := []
  jobs : List HostJob := []
  nvme : List NvmeCmd := []
  nextKey : Nat := 0
  conns : Vector Conn 16 := Vector.replicate 16 {}
  /-- Events not yet written (R617): slot, event code, `CE_INFO`. -/
  events : List (Nat × Nat × Nat) := []
  /-- Unsignalled entries of a CQ (R597): CQ, count, time of the first. -/
  coal : List (Nat × Nat × Nat) := []
  /-- What the package has written into its host's memory, by bus address. -/
  mem : Memory := []
  /-- VF Enable of the SR-IOV capability (R620). -/
  vfEnable : Bool := false
  cfg : CfgReply := .none
  reply : StoReply := .none
  deriving DecidableEq, Repr

/-! ### Bring-up, repair, rails and the boot flash (15_bringup.md, 17_repair.md, 18_power.md, 21_update.md) -/

/-- Progress of a bring-up beside `GLB_BRINGUP`. -/
structure BringUp where
  /-- When the reset was released; none while it is in force. -/
  released : Option Nat := none
  /-- When the current phase was entered. -/
  phaseAt : Nat := 0
  /-- The lineup check may go on without a rack serial (R686). -/
  proceed : Bool := false
  /-- The hub runtime runs. -/
  runtime : Bool := false
  hbmTrained : Bool := false
  /-- When the port phase ended. -/
  portsAt : Option Nat := none
  /-- The phase reached, and whether the deadline of R704 has passed (`GLB_BU_PHASE` then shows HELD until READY). -/
  step : Nat := 0
  late : Bool := false
  /-- When CORES_PENDING was entered. -/
  pendingAt : Nat := 0
  /-- When the waves started, and how many have begun. -/
  goAt : Option Nat := none
  waves : Nat := 0
  /-- MAP has ended. -/
  mapped : Bool := false
  deriving DecidableEq, Repr

/-- A substitution under way (R769–R774): the retiring core, its logical core, its reason, whether the local store is copied,
the spare under test or being filled, and whether the copy has begun. -/
structure Subst where
  core : Nat
  logical : Nat
  reason : Nat
  copy : Bool
  spare : Nat
  copying : Bool
  deriving DecidableEq, Repr

/-- Repair state of a package (17_repair.md): cores marked with reason and FORCE, substitutions, core resets for a hardware error
since bring-up, the last hourly samples, reasons of RETIRED cores, the records still to be written, oldest first, and when a
failed write is retried. -/
structure Repair where
  marks : List (Nat × Nat × Bool) := []
  substs : List Subst := []
  hwResets : List (Nat × Nat) := []
  ceLast : List (Nat × Nat) := []
  reasons : List (Nat × Nat) := []
  records : List Bytes := []
  retryAt : Option Nat := none
  deriving DecidableEq, Repr

/-- What a package's rails do. -/
inductive RailMode | off | up | on | down
  deriving DecidableEq, Repr

/-- The TMC's sequencing of a package's rails (R798–R806). -/
structure Rails where
  /-- VDD_AUX is up. -/
  aux : Bool := false
  /-- The package's input e-fuse is closed. -/
  efuse : Bool := true
  mode : RailMode := .off
  /-- Rails enabled and not yet in regulation, with when they were enabled. -/
  wait : List (Nat × Nat) := []
  /-- The rail disabled last and when, and rails disabled and not yet off, with when they were disabled. -/
  step : Nat := 0
  stepAt : Nat := 0
  late : List (Nat × Nat) := []
  /-- Failed power-ups and RAIL_STUCK events, by time (R799, R804). -/
  fails : List Nat := []
  stuck : List Nat := []
  /-- When the next power-up is tried, and when the e-fuse closes again. -/
  retryAt : Option Nat := none
  closeAt : Option Nat := none
  /-- Left off until a management power-on. -/
  held : Bool := false
  /-- Left off by a thermal trip (R849). -/
  tripped : Bool := false
  /-- Powered down by a safety action (R883). -/
  fault : Bool := false
  deriving DecidableEq, Repr

/-- Update state of a package beside the BOOT registers: a scheduled revert, and whether the unit is dead (R936, R941). -/
structure BootCtl where
  revertAt : Option Nat := none
  dead : Bool := false
  /-- The trial failed here and the coordinator has yet to revert the roster (R935, R936). -/
  failed : Bool := false
  /-- Slots whose settings region an image has built in its own format (R932). -/
  settings : List Nat := []
  deriving DecidableEq, Repr

/-- Severity of a Redfish event. -/
inductive Severity | ok | warning | critical
  deriving DecidableEq, Repr

/-- Thermal state of a package beside the THM registers (19_cooling.md). Temperatures are in 0.01 °C. -/
structure Therm where
  /-- The last ten samples, newest first: core junctions, and the hottest hub junction. -/
  samples : List (List Nat × Nat) := []
  /-- The last HBM stack readings; stacks on extended refresh, as a mask. -/
  stackReads : List Nat := List.replicate 8 0
  refresh : Nat := 0
  /-- When `THM_SUPPLY` was last written. -/
  supplyAt : Nat := 0
  /-- The open θ window: samples, sums of the hottest junction, supply temperature and input power (mW), and whether a sample
  made it invalid. -/
  winN : Nat := 0
  winTj : Nat := 0
  winTs : Int := 0
  winP : Nat := 0
  winBad : Bool := false
  /-- Excesses of the last six valid windows, newest first (R851). -/
  excess : List Int := []
  /-- The open minute: samples and sum; and the means of past minutes, newest first. -/
  minN : Nat := 0
  minTj : Nat := 0
  minutes : List Nat := []
  deriving DecidableEq, Repr

/-- The power controller of a package beside the PWR registers (18_power.md). Powers are in mW. -/
structure Power where
  /-- The package cap and the partition caps as they come down along the ramp, in µW, and when they last moved (R809). -/
  cap : Nat := 2600000000
  parts : List Nat := [2600000000, 2600000000, 2600000000, 2600000000]
  capAt : Nat := 0
  /-- The ramp ceiling, none before READY, and the ramp floor of this epoch (R823). -/
  rampCeil : Option Nat := none
  rampFloor : Nat := 0
  /-- Samples of the open epoch, of the open 100 µs and of the open 10 µs: number and sum. -/
  epoch : Nat × Nat := (0, 0)
  choice : Nat × Nat := (0, 0)
  burst : Nat × Nat := (0, 0)
  /-- The last sample, and the last time a sample was at or above 92% of the ceiling. -/
  lastP : Nat := 0
  highAt : Nat := 0
  /-- Gate of each cluster, the sixteenths that R815 adds until the next choice, and when a droop gate ends (R814, R815, R821). -/
  gates : List Nat := [0, 0, 0, 0]
  burstGate : Nat := 0
  droops : List Nat := [0, 0, 0, 0]
  /-- Some core was gated in the open epoch. -/
  gated : Bool := false
  /-- Consecutive epochs above a cap that only warns (R816). -/
  overCap : Nat := 0
  /-- Energy not yet counted, by slot, BALLAST and UNASSIGNED (µJ); energy of each slot in the open epoch (µJ); bytes moved for each
  slot in the open interval (R828, R829). -/
  acc : List Nat := [0, 0, 0, 0, 0, 0]
  used : List Nat := [0, 0, 0, 0]
  moved : List Nat := [0, 0, 0, 0]
  deriving DecidableEq, Repr

/-- A package. -/
structure Pkg where
  /-- Its straps, sampled at auxiliary power (R948). -/
  straps : Straps := {}
  /-- The register store. -/
  regs : List (Nat × Word) := []
  /-- Data of the last CSR, BAR2 or queue read. -/
  readData : Nat := 0
  /-- The last BAR2 read completed with a poisoned TLP (R588). -/
  readPoison : Bool := false
  /-- AER: a poisoned TLP was received (R588). -/
  aerPoisoned : Bool := false
  /-- The counter behind `HTM_NOW`; Hall Time once `HTM_VALID` is 1. -/
  now : Nat := 0
  /-- Error records held, 0–256 (R976). -/
  errCount : Nat := 0
  /-- Hall Time beside the HTM registers. -/
  time : HallTime := {}
  /-- Ports F00–F19 beside the LNK registers. -/
  links : Vector LinkPort 20 := Vector.replicate 20 {}
  /-- The fabric engine. -/
  fab : Fabric := {}
  /-- The lineup store (R670). -/
  lup : LineupStore := {}
  /-- HBM, by package-local address (R240). -/
  hbm : Memory := []
  /-- 64-byte units of HBM that hold an uncorrectable error (R248). -/
  hbmBad : List Nat := []
  /-- 64-byte units of HBM that hold a correctable error (R247). -/
  hbmCe : List Nat := []
  /-- The translation and walk caches. -/
  xlt : Xlt := {}
  /-- Physical cores 0–63. -/
  cores : Vector Core 64 := Vector.replicate 64 {}
  /-- Semaphore values, keyed by slot × 4096 + semaphore (R158). -/
  sems : List (Nat × Nat) := []
  /-- Semaphore statuses, keyed alike (R523). -/
  semStatus : List (Nat × Nat) := []
  /-- Registered windows (R500). -/
  windows : List Window := []
  /-- Contributions staged for ORDERED windows (R512). -/
  staged : List Staged := []
  /-- Arrivals at PACKAGE barriers (R162). -/
  arrivals : List Arrival := []
  /-- Arrivals counted here as captain (R544). -/
  capArrivals : List Arrival := []
  /-- Releases seen of each partition barrier (slot × 64 + ID). -/
  barGen : List (Nat × Nat) := []
  /-- Call table in force: slot, call, descriptor (R516). -/
  calls : List (Nat × Nat × Bytes) := []
  /-- Calls whose thresholds have been reached, in that order (R518). -/
  fireOrder : List (Nat × Nat) := []
  /-- The collective engine. -/
  coll : Coll := {}
  /-- Announcements in force (R822). -/
  announces : List Announce := []
  /-- The host and storage ports. -/
  host : HostIf := {}
  /-- The routing control engine. -/
  moe : Moe := {}
  /-- Drains under way (R727). -/
  drains : List Drain := []
  /-- Physical cores that are in reset and absorb (R734). -/
  coreDown : List Nat := []
  /-- When the absorb hold of a package reset began (R736). -/
  hold : Option Nat := none
  /-- Its answers go by line routes only: the reset follows an error in the route table, the link map or the slot template (R737). -/
  holdLine : Bool := false
  /-- Slots waiting for release (R746): slot and the time of release. -/
  releases : List (Nat × Nat) := []
  /-- Scheduled resets (R752): scope, target, Hall Time. -/
  resetsAt : List (Nat × Nat × Nat) := []
  /-- When the hold of a reset without drain at PACKAGE scope began (R738). -/
  linkHold : Option Nat := none
  /-- `PKG_RESET_N` keeps the package in reset (R724). -/
  pinLow : Bool := false
  /-- Slots whose locally begun reset is still to be signalled to the TMC (R743). -/
  ibi : List Nat := []
  /-- Thermal state beside the THM registers. -/
  therm : Therm := {}
  /-- The power controller beside the PWR registers. -/
  power : Power := {}
  /-- Progress of the bring-up. -/
  bring : BringUp := {}
  /-- Repair state. -/
  repair : Repair := {}
  /-- The TMC's sequencing of the package's rails. -/
  rails : Rails := {}
  /-- Update state beside the BOOT registers. -/
  boot : BootCtl := {}
  /-- The boot flash (R914); an unlisted byte is erased. -/
  flash : List (Nat × BitVec 8) := []
  /-- Redfish messages not yet posted: message, severity, argument. -/
  notices : List (String × Severity × Nat) := []
  /-- Free values drawn so far in this package (the model's own field, log entry 2). -/
  fresh : Nat := 0
  /-- Tag of the next READ_REQ. -/
  nextTag : Nat := 0
  deriving DecidableEq, Repr

/-- The designated time card (R62–R70): its reported state and what it last saw. Times are Hall Time ticks. -/
structure TimeCard where
  /-- 0 NONE, 1 LOCKED, 2 HOLDOVER. -/
  state : Nat := 0
  lastSync : Nat := 0
  lastPps : Nat := 0
  /-- TAI second of the next PPS edge. -/
  nextTai : Nat := 0
  /-- When the reference was lost. -/
  lostAt : Option Nat := none
  /-- When a returned reference began to qualify (R70). -/
  backAt : Option Nat := none
  limitPosted : Bool := false
  deriving DecidableEq, Repr

/-- A Redfish event the management has posted (R895): its number, MessageId, severity and argument. -/
structure RedfishEvent where
  id : Nat
  name : String
  severity : Severity
  arg : Nat
  deriving DecidableEq, Repr

/-! ### Management, power and cooling of the rack (18_power.md to 22_physical.md) -/

/-- The pattern of a tray service lamp (Table 22-3), and the refusal of R951. -/
inductive Lamp
  | off | green | greenBlink | amber (n : Nat) | amberThrice | blue
  deriving DecidableEq, Repr

/-- An entry of a TMC's management log: status, package, rail, time. -/
structure TmcEntry where
  status : Status
  pkg : Nat
  rail : Nat
  time : Nat
  deriving DecidableEq, Repr

/-- A tray and its TMC: CT00–CT17, or a host tray H0–H5 of the 72-S, which is tray 18 + h. -/
structure Tray where
  present : Bool := true
  /-- 12 V auxiliary supply, and the tray's 800 V input e-fuse. -/
  aux : Bool := true
  input : Bool := true
  /-- Bus converters working, and whether they have stopped (R792–R794). -/
  converters : Nat := 2
  stopped : Bool := false
  /-- Why the safe cap is in force: 0 converter, 1 supply temperature, 2 flow, 3 solo. -/
  limits : List Nat := []
  /-- Coolant conditions in force, by row of Table 19-4 from 0. -/
  conds : List Nat := []
  /-- Connector faults: code of Table 20-8 and when the condition cleared; a connector stays here until re-enabled. -/
  faults : List (Nat × Option Nat) := []
  /-- Supply temperature (0.01 °C) and flow (0.1 L/min) as the TMC last read them. -/
  supply : Int := 0
  flow : Nat := 0
  locked : Bool := true
  lamp : Lamp := .off
  /-- Held until replacement (R942). -/
  held : Bool := false
  /-- The service button has asked for the tray to be made safe, and its packages still power down (R951). -/
  safing : Bool := false
  started : Nat := 0
  lastAck : Nat := 0
  solo : Bool := false
  /-- End of the tray's own maintenance window, in standalone mode (R890). -/
  window : Option Nat := none
  /-- The umpire the TMC last took as primary from a CLAIM (1 or 2, 0 none), the unit states it last received. -/
  claimed : Nat := 0
  units : List Nat := []
  /-- GO phase origin (R699), and the sockets reset since it was fixed. -/
  origin : Option Nat := none
  restarted : List Nat := []
  log : List TmcEntry := []
  deriving DecidableEq, Repr

/-- Unit state of a package (Table 20-7): state, since when, and consecutive agreeing polls. -/
structure UnitState where
  state : Nat := 0
  since : Nat := 0
  agree : Nat := 0
  deriving DecidableEq, Repr

/-- The commit record of a roster (R925, R938). -/
structure Commit where
  id : Nat
  digest : Bytes
  targets : List Nat
  actHt : Nat
  confirmed : Bool
  deriving DecidableEq, Repr

/-- What the primary mirrors to its standby (R877): unit states, share, maintenance window, pending reset extensions (slot,
Hall Time, packages still to acknowledge), the roster commit record. -/
structure Mirror where
  units : Vector UnitState 72 := Vector.replicate 72 {}
  share : Nat := 0
  window : Option Nat := none
  exts : List (Nat × Nat × List Nat) := []
  commit : Option Commit := none
  deriving DecidableEq, Repr

/-- An umpire: RMC-A or RMC-B. -/
structure Umpire where
  up : Bool := true
  started : Nat := 0
  /-- The PRIMARY line, when it was last asserted and when last released. -/
  line : Bool := false
  asserted : Nat := 0
  released : Nat := 0
  /-- The first complete poll has been made (R897). -/
  polled : Bool := false
  mir : Mirror := {}
  deriving DecidableEq, Repr

/-- A frame on the rack bus (Tables 20-4, 20-5): type, sender, flags, sequence number, Hall Time, and the body as a list of
values. -/
structure BusMsg where
  type : Nat
  node : Nat
  flags : Nat
  seq : Nat
  ht : Nat
  body : List Nat
  deriving DecidableEq, Repr

/-- The rack bus: messages each node has sent, when each node's last HEARTBEAT came, its health bits, frames dropped, and the
last frame sent. -/
structure Bus where
  sent : List (Nat × Nat) := []
  heard : List (Nat × Nat) := []
  health : List (Nat × Nat) := []
  drops : Nat := 0
  last : Option BusMsg := none
  /-- POWER_CMDs awaiting POWER_DONE (command ID, tray), the next command ID, and the last answer (command ID, status). -/
  cmds : List (Nat × Nat) := []
  nextCmd : Nat := 0
  done : Option (Nat × Status) := none
  deriving DecidableEq, Repr

/-- What another rack's RackSummary holds of a partition (Table 20-11): rack, partition ID, whether every package reads
`GLB_PS_READY`, cores, reachability, rings with more than one link out, excluded packages, when it was read; and the last
decision its captain's umpire posted here. -/
structure Summary where
  rack : Nat
  part : Nat
  ready : Bool
  cores : Nat
  reach : Bool
  rings : Bool
  excluded : List Nat
  readAt : Nat
  deriving DecidableEq, Repr

/-- What the umpire saw of a package at its last poll: phase, lineup refused, port states. -/
structure Seen where
  phase : Nat := 0
  refused : Bool := false
  ports : List Nat := List.replicate 20 0
  deriving DecidableEq, Repr

/-- Update state of a controller (R916): its boot control record, the security version it runs and the one staged, the
secure-element counter, when it restarted, and whether it is dead. -/
structure Controller where
  active : Nat := 0
  state : Nat := 0
  roster : Nat := 0
  actHt : Nat := 0
  windowEnd : Nat := 0
  secver : Nat := 0
  staged : Option Nat := none
  floor : Nat := 0
  restart : Option Nat := none
  revertAt : Option Nat := none
  keys : Nat := 0
  dead : Bool := false
  deriving DecidableEq, Repr

/-- How a roster stands at its coordinator (R917, R923–R939). -/
inductive RosterPhase | staging | committed | trial | confirmed | reverted | aborted
  deriving DecidableEq, Repr

/-- A roster at its coordinator: the roster image, when it was accepted, its targets (a package, or 128 + a bus node), the
targets that have staged and voted with their status, how it stands and its status. -/
structure Roster where
  image : Bytes
  accepted : Nat
  targets : List Nat
  votes : List (Nat × Status)
  phase : RosterPhase
  status : Status
  deriving DecidableEq, Repr

/-- Answer of the last Redfish action: its status, 0 when it was performed. -/
abbrev ActionResult := Status

/-- The rack. -/
structure State where
  /-- Packages P00–P71. -/
  pkgs : Vector Pkg 72
  /-- Trays CT00–CT17, then host trays H0–H5, with their TMCs. -/
  trays : Vector Tray 24
  /-- RMC-A and RMC-B. -/
  umpires : Vector Umpire 2
  /-- The rack bus. -/
  bus : Bus
  /-- Power shelves that work. -/
  shelves : Vector Bool 6
  /-- The coolant-interface controller reports a pressure drop out of range. -/
  pressure : Bool
  /-- No unit has been primary since this Hall Time (R876). -/
  noPrimary : Option Nat
  /-- NoPrimary has been posted. -/
  noPrimaryPosted : Bool
  /-- Energy sums in mJ by partition ID (R830). -/
  energy : List (Nat × Nat)
  /-- Energy sum in mJ of ballast (R830). -/
  ballast : Nat
  /-- The packages' energy counters as last read (R830). -/
  lastEnergy : List (Nat × List Nat)
  /-- Other racks' summaries (R888). -/
  summaries : List Summary
  /-- Decisions of other racks' umpires about partitions captained there (R888): partition ID and readiness. -/
  decisions : List (Nat × Bool)
  /-- What the umpire saw at its last poll (R883). -/
  seen : Vector Seen 72
  /-- RackBelowFloor has been posted and still holds (R715). -/
  belowFloor : Bool
  /-- Rosters by coordinator: 0 the primary umpire, 1 + t the TMC of tray t in standalone mode. -/
  rosters : List (Nat × Roster)
  /-- Commit records of standalone coordinators, in their secure elements. -/
  commits : List (Nat × Commit)
  /-- Update state of the controllers, by bus node (R916). -/
  controllers : Vector Controller 34
  /-- Answer of the last Redfish action. -/
  action : ActionResult
  /-- The designated time card. -/
  card : TimeCard
  /-- Hall Time high-water mark recorded by the umpire (R72). -/
  highWater : Nat
  /-- Redfish events posted, newest first. -/
  events : List RedfishEvent
  /-- Number of the next event. -/
  nextEvent : Nat
  /-- Free values drawn so far (the model's own field, log entry 2). -/
  fresh : Nat
  /-- Commands that wait, the next one first: the model's queue. -/
  pending : List Instr
  deriving DecidableEq, Repr

/-- Why a machine stops with a fault: no meaning of this model ends in one. -/
inductive Fault
  /-- Raised by no meaning (safe). -/
  | unreachable
  deriving DecidableEq, Repr

/-- Why a command has no meaning. -/
inductive Refusal
  /-- Raised by the dispatch of a command that is not modelled, under its mnemonic (safe). -/
  | notModelled (mnemonic : String)
  deriving DecidableEq, Repr

/-- The rack after reset. -/
def State.reset : State :=
  { pkgs := Vector.ofFn (fun p : Fin 72 => { straps := { pkg := p.val } })
    trays := Vector.replicate 24 {}
    umpires := Vector.replicate 2 {}
    bus := {}
    shelves := Vector.replicate 6 true
    pressure := false
    noPrimary := none
    noPrimaryPosted := false
    energy := []
    ballast := 0
    lastEnergy := []
    summaries := []
    decisions := []
    seen := Vector.replicate 72 {}
    belowFloor := false
    rosters := []
    commits := []
    controllers := Vector.replicate 34 {}
    action := 0
    card := {}
    highWater := 0
    events := []
    nextEvent := 1
    fresh := 0
    pending := [] }

end Sys2Proof.Machine
end

