-- ==== Sys2Proof/Machine/Ops.lean ====
section
/-! DEFINITION. The named operations over a package's registers and the rack, and the error log. -/

namespace Sys2Proof.Machine

/-! ### The register store -/

/-- The first row of the register table with an instance at byte offset `o`, with its outer and inner index and the
offset inside the instance. -/
def RegSpec.covers (r : RegSpec) (o : Nat) : Option (Nat × Nat × Nat) :=
  if o < r.off then none else
    let rel := o - r.off
    let j := if r.stride2 = 0 then 0 else rel / r.stride2
    let rel2 := rel - j * r.stride2
    let i := if r.stride = 0 then 0 else rel2 / r.stride
    let rel3 := rel2 - i * r.stride
    if j < r.count2 ∧ i < r.count ∧ rel3 < r.width / 8 then some (j, i, rel3) else none

/-- Find the register at a byte offset of the CSR space (R10, R988). -/
def regFindIn : List RegSpec → Nat → Option (RegSpec × Nat × Nat × Nat)
  | [], _ => none
  | r :: rs, o => match r.covers o with
    | some (j, i, rel) => some (r, j, i, rel)
    | none => regFindIn rs o

/-- Find the register at a byte offset of the CSR space. -/
def regFind (o : Nat) : Option (RegSpec × Nat × Nat × Nat) := regFindIn regTable o

/-- Place a field value in a 64-bit word. -/
def placeField (lo width v : Nat) : Nat := v % 2 ^ width * 2 ^ lo

/-- The word a register's fields give at first power: each field's reset value (R12). -/
def resetWordOf (word : Nat) : List FieldSpec → Nat
  | [] => 0
  | f :: fs =>
    (if f.lo / 64 = word then
      match f.reset with
      | .value v => placeField (f.lo % 64) f.width v
      | .kept v => placeField (f.lo % 64) f.width v
      | .lineup => 0
      | .flash => 0
     else 0) + resetWordOf word fs

/-- What a register cell that holds no other value reads as: its reset value. Cells at and above 0x2000_0000 are the
functions' MSI-X tables, whose vectors come up masked (log entry 5). -/
def cellReset (off : Nat) : Word :=
  if 0x20000000 ≤ off then
    if off % 0x1000000 < 0xC0000 ∧ off % 16 = 8 then BitVec.ofNat 64 (2 ^ 32) else 0
  else if 0x4000000 ≤ off then 0
  else match regFind off with
    | some (r, _, _, rel) => BitVec.ofNat 64 (resetWordOf (rel / 8) r.fields)
    | none => 0

/-- Read a 64-bit register cell. -/
def Pkg.cell (k : Pkg) (off : Nat) : Word := Sparse.get cellReset k.regs off

/-- Write a 64-bit register cell. -/
def Pkg.setCell (k : Pkg) (off : Nat) (w : Word) : Pkg :=
  { k with regs := Sparse.set cellReset k.regs off w }

/-- The mask of a field in its word. -/
def fieldMask (lo width : Nat) : Word := BitVec.ofNat 64 (2 ^ width - 1) <<< lo

/-- The value of a field of a word. -/
def wordField (w : Word) (lo width : Nat) : Nat := w.toNat / 2 ^ lo % 2 ^ width

/-- A word with one field replaced. -/
def wordSet (w : Word) (lo width v : Nat) : Word :=
  (w &&& ~~~ fieldMask lo width) ||| (BitVec.ofNat 64 (v % 2 ^ width) <<< lo)

/-- Read a register field. -/
def Pkg.getF (k : Pkg) (f : Fld) : Nat := wordField (k.cell f.off) f.lo f.width

/-- Write a register field. -/
def Pkg.setF (k : Pkg) (f : Fld) (v : Nat) : Pkg := k.setCell f.off (wordSet (k.cell f.off) f.lo f.width v)

/-- Is a one-bit field set. -/
def Pkg.flag (k : Pkg) (f : Fld) : Bool := k.getF f == 1

/-- Set a one-bit field, as an event does. -/
def Pkg.raise (k : Pkg) (f : Fld) : Pkg := k.setF f 1

/-- Add to a counter that saturates at its field's largest value. -/
def Pkg.addSat (k : Pkg) (f : Fld) (n : Nat) : Pkg := k.setF f (min (2 ^ f.width - 1) (k.getF f + n))

/-- Count one event in a saturating counter. -/
def Pkg.inc (k : Pkg) (f : Fld) : Pkg := k.addSat f 1

/-- Add to a counter that wraps. -/
def Pkg.addWrap (k : Pkg) (f : Fld) (n : Nat) : Pkg := k.setF f (k.getF f + n)

/-- Ticks the shot clock has counted at a Hall Time (R185): a WAIT_HT that is the oldest command holds it until its target (R187). -/
def Play.shotCount (p : Play) (now : Nat) : Nat :=
  match p.cmds.head? with
  | some x => if fieldAt x.bytes 0 1 = 0x43 then p.shotHeld + (now - fieldAt x.bytes 16 8) else now - p.shotBase
  | none => now - p.shotBase

/-! ### Packages of the rack -/

/-- A package of the rack. -/
def State.pkg (s : State) (p : PkgId) : Pkg := s.pkgs[p]

/-- Replace a package. -/
def State.setPkg (s : State) (p : PkgId) (k : Pkg) : State := { s with pkgs := s.pkgs.set p k }

/-- Change one package. -/
def State.updPkg (s : State) (p : PkgId) (f : Pkg → Pkg) : State := s.setPkg p (f (s.pkg p))

/-- Change every package. -/
def State.mapPkgs (s : State) (f : Pkg → Pkg) : State := { s with pkgs := s.pkgs.map f }

/-- Change the package of a number, when there is one. -/
def State.updNat (s : State) (n : Nat) (f : Pkg → Pkg) : State := if h : n < 72 then s.updPkg ⟨n, h⟩ f else s

/-- Draw a number that indexes the next free value (log entry 2). -/
def State.draw (s : State) : State := { s with fresh := s.fresh + 1 }

/-- Unspecified bytes (log entry 11). -/
def Pkg.freeBytes (k : Pkg) (n : Nat) : Bytes := (List.range n).map (fun i => Config.freeByte k.straps.pkg k.fresh i)

/-- An open word (log entry 11). -/
def Pkg.freeNat (k : Pkg) (w : Nat) : Nat := (Config.freeWord k.straps.pkg k.fresh).toNat % 2 ^ w

/-- Draw the next free value of a package. -/
def Pkg.draw (k : Pkg) : Pkg := { k with fresh := k.fresh + 1 }

/-- Let a package's clock reach the Hall Time of an event; the count never decreases (R43). -/
def Pkg.at (k : Pkg) (t : Nat) : Pkg := { k with now := max k.now t }

/-- Hall Time as a package reports it: 0 while `HTM_VALID` is 0 (`HTM_NOW`). -/
def Pkg.hallTime (k : Pkg) : Nat := if k.flag F.HTM_VALID then k.now else 0

/-- Own package number, from the straps. -/
def Pkg.id (k : Pkg) : Nat := k.straps.pkg

/-- Own rack ID, 0 until a lineup is loaded. -/
def Pkg.rack (k : Pkg) : Nat := k.getF F.GLB_RACK_ID

/-- Own address in TARGET form: rack in bits 17:7, package in bits 6:0. -/
def Pkg.target (k : Pkg) : Nat := k.rack * 128 + k.id

/-! ### Status codes (R18–R20) -/

/-- Class of a status. -/
def statusClass (c : Status) : Nat := bits c 15 12

/-- Subsystem of a status. -/
def statusSub (c : Status) : Nat := bits c 11 8

/-- A status of class OK means success (R21). -/
def statusOk (c : Status) : Bool := statusClass c == 0

/-- Rank of a status class in R973: the smaller rank wins. -/
def statusRank (c : Status) : Nat :=
  match statusClass c with
  | 7 => 1 | 5 => 2 | 6 => 3 | 2 => 4 | 8 => 5 | 3 => 6 | 4 => 7 | 1 => 8 | 9 => 9 | 0 => 10 | _ => 11

/-- Of two statuses due together with no check order: R973 between classes, R1001 within one class. -/
def statusPick (a b : Status) : Status :=
  if statusRank a < statusRank b then a
  else if statusRank b < statusRank a then b
  else min a b

/-- Unit kinds of an error record (`ERR_LR_KIND`). -/
inductive UnitKind | package | core | cluster | slot | port | stack | rail | csr
  deriving DecidableEq, Repr

/-- The code of a unit kind. -/
def UnitKind.code : UnitKind → Nat
  | .package => 0 | .core => 1 | .cluster => 2 | .slot => 3 | .port => 4 | .stack => 5 | .rail => 6 | .csr => 7

/-! ### Power -/

/-- Bytes moved for a slot (R829). -/
def Pkg.moveBytes (k : Pkg) (slot n : Nat) : Pkg :=
  { k with power := { k.power with moved := if slot < 4 then k.power.moved.set slot (k.power.moved.getD slot 0 + n) else k.power.moved } }

/-- The setpoint of a cluster at a boost step before its bounds, in mV (R820): the larger of 1.07 × Vmin and Vmin + 55, rounded up to a
multiple of 5. -/
def rawSetpoint (pkg cl step : Nat) : Nat :=
  let v := (Config.vmin pkg cl step).toNat
  max ((107 * v + 499) / 500 * 5) ((v + 59) / 5 * 5)

/-- The highest usable boost step of a cluster (R817): `PWR_CL_TOPSTEP`. -/
def topStep (pkg cl : Nat) : Nat := ((List.range 15).takeWhile (fun f => decide (rawSetpoint pkg cl f ≤ 850))).length - 1

/-- The compute setpoint of a cluster at a boost step, in mV (R820). -/
def setpoint (pkg cl step : Nat) : Nat := min 850 (max 790 (rawSetpoint pkg cl step))

/-- A core of the cluster computes or self-tests. -/
def Pkg.clusterBusy (k : Pkg) (cl : Nat) : Bool :=
  (List.range 16).any (fun i => (k.cores.toList.getD (16 * cl + i) {}).play.isSome || k.getF (F.CORE_STATE (16 * cl + i)) == 1)

/-- The setpoint of a VDD_CORE rail, in mV (R797): `PWR_CL_SET_MV`. -/
def Pkg.railSetpoint (k : Pkg) (cl : Nat) : Nat :=
  if k.clusterBusy cl then setpoint k.straps.pkg cl ((k.getF (F.CORE_CLK_MHZ (16 * cl)) - 1500) / 25) else 600

/-! ### The error log (R974–R977) -/

/-- Does the most recent record have this status and unit, and lie within 1 ms (R975). -/
def Pkg.repeats (k : Pkg) (status : Status) (kind : UnitKind) (index : Nat) : Bool :=
  let i := (255 + k.getF F.ERR_LOG_NEXT) % 256
  k.errCount != 0 && k.getF (F.ERR_LR_STATUS i) == status && k.getF (F.ERR_LR_KIND i) == kind.code
    && k.getF (F.ERR_LR_INDEX i) == index && decide (k.hallTime ≤ k.getF (F.ERR_LR_HT i) + 2000000)

/-- Write a new record into the ring (R976). -/
def Pkg.newRecord (k : Pkg) (status : Status) (kind : UnitKind) (index info : Nat) : Pkg :=
  let i := k.getF F.ERR_LOG_NEXT
  let k := if k.errCount = 256 then k.inc F.ERR_LOG_LOST else { k with errCount := k.errCount + 1 }
  let k := k.setF (F.ERR_LR_HT i) k.hallTime
  let k := k.setF (F.ERR_LR_INFO i) info
  let k := k.setF (F.ERR_LR_REPEAT i) 0
  let k := k.setF (F.ERR_LR_STATUS i) status
  let k := k.setF (F.ERR_LR_KIND i) kind.code
  let k := k.setF (F.ERR_LR_INDEX i) index
  let k := k.setF F.ERR_LOG_NEXT ((i + 1) % 256)
  k.setF F.ERR_SUB (k.getF F.ERR_SUB ||| 2 ^ statusSub status)

/-- ERROR_LOG_RECORD (R974, R975): a new record, or one more repeat of the most recent one. -/
def Pkg.logError (k : Pkg) (status : Status) (kind : UnitKind) (index info : Nat) : Pkg :=
  if k.repeats status kind index then
    k.inc (F.ERR_LR_REPEAT ((255 + k.getF F.ERR_LOG_NEXT) % 256))
  else k.newRecord status kind index info

/-- Write a status into a register field of Table 23-1; a non-OK one is logged (R974). -/
def Pkg.report (k : Pkg) (f : Fld) (status : Status) (kind : UnitKind) (index info : Nat) : Pkg :=
  let k := k.setF f status
  if statusOk status then k else k.logError status kind index info

/-- A late action (R81). -/
def Pkg.lateAction (k : Pkg) : Pkg := (k.inc F.HTM_LATE_COUNT).raise F.HTM_LATE_ACTION

/-! ### Ownership of clusters -/

/-- Slot `s` holds a partition at this package. -/
def Pkg.slotHeld (k : Pkg) (s : Nat) : Bool := bit (k.getF F.LUP_SLOTS) s

/-- The slot whose partition holds cluster `c` here. -/
def Pkg.clusterSlot (k : Pkg) (c : Nat) : Option Nat :=
  (List.range 4).find? (fun s => k.slotHeld s && bit (k.getF (F.LUP_PART_CLUSTERS s)) c)

/-- Does slot `s` hold cluster `c`. -/
def Pkg.slotHasCluster (k : Pkg) (s c : Nat) : Bool := k.clusterSlot c == some s

/-- The PARTITIONS entry of the partition that slot `s` holds here (R650). -/
def Pkg.partEntry (k : Pkg) (s : Nat) : Option PartEntry :=
  if k.slotHeld s then k.lup.active.bind (fun l => l.parts[k.getF (F.LUP_PART_ENTRY s)]?) else none

/-- The physical cores of the clusters of slot `s`. -/
def Pkg.slotCores (k : Pkg) (s : Nat) : List Nat :=
  (List.range 64).filter (fun n => k.slotHasCluster s (n / 16))

/-- The slot drains, or is absorbed (R727, R734): at PARTITION scope, or with the package. -/
def Pkg.slotClosed (k : Pkg) (s : Nat) : Bool :=
  k.hold.isSome || bit (k.getF F.RST_SLOT_DRAIN) s || bit (k.getF F.RST_SLOT_ABSORB) s || k.drains.any (fun (d : Drain) => decide (4 ≤ d.scope))

/-- A scope takes in a physical core (Table 16-1). -/
def Pkg.scopeHasCore (k : Pkg) (scope target c : Nat) : Bool :=
  match scope with
  | 1 => c == target
  | 2 => c / 16 == target
  | 3 => k.clusterSlot (c / 16) == some target
  | _ => true

/-- A drain under way takes in the core. -/
def Pkg.coreDraining (k : Pkg) (c : Nat) : Bool := k.drains.any (fun (d : Drain) => k.scopeHasCore d.scope d.target c)

/-! ### Readiness (R705–R708) -/

/-- Enter a bring-up phase (Table 15-1), marked in µs from reset release. -/
def Pkg.enterPhase (k : Pkg) (n : Nat) : Pkg :=
  let k := if k.bring.late ∧ n < 7 then k else k.setF F.GLB_BU_PHASE n
  let k := k.setF (F.GLB_BU_MARK n) ((k.now - k.bring.released.getD k.now) / 2000)
  { k with bring := { k.bring with phaseAt := k.now, step := n } }

/-- Record the status of a failing step, unless an earlier one stands, and log it (`GLB_BU_STATUS`, R974). -/
def Pkg.buStatus (k : Pkg) (st : Status) (kind : UnitKind) (index : Nat) : Pkg :=
  let k := if k.getF F.GLB_BU_STATUS = 0 then k.setF F.GLB_BU_STATUS st else k
  k.logError st kind index 0

/-- Slots the package holds whose minimum its cores do not meet (R706). -/
def Pkg.shortSlots (k : Pkg) : List Nat :=
  (List.range 4).filter (fun s => match k.partEntry s with
    | some p => decide (k.getF (F.GLB_PS_CORES s) < p.minPkg)
    | none => false)

/-- Some braid port is UP. -/
def Pkg.braidUp (k : Pkg) : Bool := (List.range 16).any (fun n => k.getF (F.LNK_ST n) == 5)

/-- Every HBM stack is ready. -/
def Pkg.hbmReady (k : Pkg) : Bool := (List.range 8).all (fun i => k.getF (F.HBM_STATE i) == 2)

/-- The criteria of R705. -/
def Pkg.criteria (k : Pkg) : Bool :=
  k.bring.runtime && k.lup.active.isSome && k.hbmReady && k.braidUp && k.getF F.HTM_STATE == 2 && k.bring.mapped && k.shortSlots.isEmpty

/-- The package becomes READY: `GLB_PS_READY` of its slots, the hold causes end, and the ramp reference starts (R706, R823). -/
def Pkg.enterReady (k : Pkg) : Pkg :=
  let k := ((k.setF F.GLB_HOLD_BRAID 0).setF F.GLB_HOLD_TIME 0).setF F.GLB_HOLD_CORES 0
  let k := k.enterPhase 7
  let k := (List.range 4).foldl (fun k s => if k.slotHeld s then k.raise (F.GLB_PS_READY s) else k) k
  let r := k.getF F.PWR_IN_MW
  let d := k.getF F.PWR_CFG_PCT * k.getF F.PWR_CAP_NOW * 10
  { k.setF F.PWR_RAMP_REF r with
    power := { k.power with rampCeil := some (r + d), rampFloor := if k.flag F.PWR_CFG_BALLAST then r - d else 0 } }

/-- R707: a package in MAP or HELD becomes READY when every criterion holds, unless it is held by BOOT, LINEUP or HBM. -/
def Pkg.judgeReady (k : Pkg) : Pkg :=
  if k.bring.mapped ∧ k.bring.step ≠ 7 ∧ !(k.flag F.GLB_HOLD_BOOT || k.flag F.GLB_HOLD_LINEUP || k.flag F.GLB_HOLD_HBM) ∧ k.criteria
  then k.enterReady else k

/-! ### Redfish events -/

/-- Post a Redfish event. -/
def State.post (s : State) (name : String) (sev : Severity) (arg : Nat) : State :=
  { s with
    events := { id := s.nextEvent, name := name, severity := sev, arg := arg } :: s.events
    nextEvent := s.nextEvent + 1 }

/-- A package has something to tell management. -/
def Pkg.notice (k : Pkg) (name : String) (sev : Severity) (arg : Nat) : Pkg := { k with notices := k.notices ++ [(name, sev, arg)] }

/-- Post what a package has to tell. -/
def State.postNotices (s : State) (p : PkgId) : State :=
  let ns := (s.pkg p).notices
  let s := if ns.isEmpty then s else s.updPkg p (fun k => { k with notices := [] })
  ns.foldl (fun s n => s.post n.1 n.2.1 n.2.2) s

/-- Change one package and post what it then has to tell. -/
def State.updPost (s : State) (p : PkgId) (f : Pkg → Pkg) : State := (s.updPkg p f).postNotices p

/-! ### CRC-32C -/

/-- One bit step of the CRC-32C shift register (reflected polynomial 0x82F63B78). -/
def crcBit (c : BitVec 32) : BitVec 32 :=
  if c.getLsbD 0 then (c >>> 1) ^^^ 0x82F63B78#32 else c >>> 1

/-- One byte of CRC-32C. -/
def crcByte (c : BitVec 32) (b : BitVec 8) : BitVec 32 :=
  crcBit (crcBit (crcBit (crcBit (crcBit (crcBit (crcBit (crcBit (c ^^^ b.zeroExtend 32))))))))

/-- CRC-32C of a byte string (log entry 4). -/
def crc32c (bs : Bytes) : Nat := (~~~ (bs.foldl crcByte 0xFFFFFFFF#32)).toNat

end Sys2Proof.Machine
end

