-- ==== Sys2Proof/Machine/Access.lean ====
section
/-! DEFINITION. CSR accesses: widths and alignment (R14–R17, R994), paths (R982, R983), what a virtual function
reaches (R583, R584, R984), access codes (R11) and refused accesses (R15, R977). -/

namespace Sys2Proof.Machine

/-- The number of a CSR source in `ERR_CSR_SOURCE`: 0–3 VF, 4 PF, 5 I3C. -/
def csrSourceCode : CsrSource → Nat
  | .vf n => n.val
  | .pf => 4
  | .i3c => 5

/-- A refused access (R15): recorded in `ERR_CSR` when none is recorded, counted, and logged as CSR_ACCESS. -/
def Pkg.refuseCsr (k : Pkg) (src : CsrSource) (off : Nat) (isWrite : Bool) : Pkg :=
  let k := if k.flag F.ERR_CSR_VALID then k else
    let k := k.setF F.ERR_CSR_WRITE (if isWrite then 1 else 0)
    let k := k.setF F.ERR_CSR_SOURCE (csrSourceCode src)
    let k := k.setF F.ERR_CSR_OFFSET off
    k.raise F.ERR_CSR_VALID
  let k := k.inc F.ERR_CSR_COUNT
  k.logError 0x3007 .csr (csrSourceCode src) off

/-- One register reached by an access: its row, indices, the cell that stores it, which bits of the cell are
reached, and where they stand in the access's data. -/
structure CsrPart where
  spec : RegSpec
  outer : Nat
  inner : Nat
  cell : Nat
  word : Nat
  cellLo : Nat
  dataLo : Nat
  nbits : Nat
  deriving DecidableEq, Repr

/-- Where a register of `MOE_LAYER_SEL` scope or of a function's own scope is stored; any other is at its offset. -/
def cellOf (k : Pkg) (src : CsrSource) (r : RegSpec) (off : Nat) : Nat :=
  match r.scope with
  | .sel => 0x10000000 + 0x8000 * (k.getF F.MOE_SEL_SLOT * 256 + k.getF F.MOE_SEL_LAYER) + (off - 0x500000)
  | .fn => 0x20000000 + 0x1000000 * csrSourceCode src + (off - 0x2000000)
  | _ => off

/-- The part of an access that starts at `off`, reaching a 32-bit half or a whole 64-bit word. -/
def csrPartAt (k : Pkg) (src : CsrSource) (off nbits dataLo : Nat) : Option CsrPart :=
  match regFind off with
  | none => none
  | some (r, j, i, rel) =>
    if r.width = 32 then
      some { spec := r, outer := j, inner := i, cell := cellOf k src r off, word := 0, cellLo := 0, dataLo := dataLo, nbits := 32 }
    else
      some { spec := r, outer := j, inner := i, cell := cellOf k src r (off - rel % 8), word := rel / 8,
             cellLo := rel % 8 * 8, dataLo := dataLo, nbits := nbits }

/-- The registers an access reaches: one, or two 32-bit registers under one 64-bit access. -/
def csrParts (k : Pkg) (src : CsrSource) (off size : Nat) : List CsrPart :=
  if size = 32 then (csrPartAt k src off 32 0).toList
  else match regFind off with
    | some (r, _, _, _) =>
      if r.width = 32 then (csrPartAt k src off 32 0).toList ++ (csrPartAt k src (off + 4) 32 32).toList
      else (csrPartAt k src off 64 0).toList
    | none => (csrPartAt k src (off + 4) 32 32).toList

/-- R14 and R981: the width is 32 or 64 bits, the offset is naturally aligned and lies in the CSR space. -/
def csrWellFormed (off size : Nat) : Bool :=
  (size == 32 && off % 4 == 0 || size == 64 && off % 8 == 0) && decide (off < 0x4000000)

/-- Does the register offer the access's path (Table 24-2)? A BAR0 write to an Ir register is only ignored. -/
def pathRefused (src : CsrSource) (path : PathCode) : Bool :=
  match src, path with
  | _, .b => false
  | .i3c, .p => true
  | .i3c, _ => false
  | _, .p => false
  | _, .i => true
  | _, .ir => false

/-- The slot a register counts as a register of (R583, R984), when it is of partition scope. -/
def partScopeSlot (k : Pkg) (c : CsrPart) : Option Nat :=
  match c.spec.scope with
  | .part => some (if c.spec.count2 = 1 ∨ c.spec.name = "MOE_STATS" then
      (if c.spec.name = "MOE_STATS" then c.outer else c.inner) else c.outer)
  | .root => if c.inner < 4 then some c.inner else none
  | .sel => some (k.getF F.MOE_SEL_SLOT)
  | .core => k.clusterSlot ((if c.spec.count2 = 64 then c.outer else c.inner) / 16)
  | .lcore => k.clusterSlot (c.inner / (if k.getF F.GLB_SPARE_POLICY = 2 then 14 else 15))
  | .cl => k.clusterSlot c.inner
  | _ => none

/-- Does function `n` own the queue of an SQ or CQ register. -/
def ownsQueue (k : Pkg) (n : Nat) (c : CsrPart) : Bool :=
  match c.spec.scope with
  | .sq => k.getF (F.HIF_SQ_OWNER c.inner) == n
  | .cq => k.getF (F.HIF_CQ_OWNER c.inner) == n
  | _ => false

/-- What a virtual function's read returns (R583, R984). -/
def vfReads (k : Pkg) (n : Nat) (c : CsrPart) : Bool :=
  match c.spec.scope with
  | .pkg => true
  | .port => true
  | .fn => true
  | .root => c.inner == n || c.inner == 4
  | .sq => ownsQueue k n c
  | .cq => ownsQueue k n c
  | .conn => false
  | _ => partScopeSlot k c == some n

/-- Which writes a virtual function performs (R584). -/
def vfWrites (k : Pkg) (n : Nat) (c : CsrPart) : Bool :=
  match c.spec.scope with
  | .pkg => c.spec.name == "XLT_INV_ADDR" || c.spec.name == "XLT_INV_CMD"
  | .fn => true
  | .sq => ownsQueue k n c && (c.spec.name == "HIF_SQ_BASE" || c.spec.name == "HIF_SQ_CFG")
  | .cq => ownsQueue k n c && (c.spec.name == "HIF_CQ_BASE" || c.spec.name == "HIF_CQ_CFG")
  | .port => false
  | .conn => false
  | _ => partScopeSlot k c == some n

/-- The mask, in a part's cell, of the reached fields that satisfy `p`. -/
def partMask (c : CsrPart) (p : FieldSpec → Bool) : Word :=
  (c.spec.fields.filter (fun f => p f && f.lo / 64 == c.word)).foldl
    (fun m f => m ||| fieldMask (f.lo % 64) f.width) 0 &&& fieldMask c.cellLo c.nbits

/-- Values that no cell stores: straps, fuses, running clocks and a rail's setpoint (`GLB_IDENTITY`, `CORE_PHYS`, `HTM_NOW`,
`PWR_CL_TOPSTEP`, `PWR_CL_SET_MV`, `HIF_STO_MAC`, `CORE_SEQ_SHOT_NOW` while a play runs). -/
def liveWord (k : Pkg) (c : CsrPart) (w : Word) : Word :=
  if c.spec.name = "GLB_IDENTITY" then
    wordSet (wordSet (wordSet w 46 7 k.straps.pkg) 44 2 k.straps.variant) 16 16 Config.hubRev.toNat
  else if c.spec.name = "CORE_IDENT" then
    let w := wordSet w 0 6 c.outer
    if k.lup.active.isNone then wordSet w 24 8 0xFF else w
  else if c.spec.name = "CORE_SEQ_SHOT" then
    match (k.cores.toList.getD c.outer {}).play with
    | some p => wordSet w 32 32 (min (2 ^ 32 - 1) (p.shotCount k.now))
    | none => w
  else if c.spec.name = "HTM_NOW" then BitVec.ofNat 64 k.hallTime
  else if c.spec.name = "PWR_CLUSTER" then wordSet (wordSet w 36 4 (topStep k.straps.pkg c.inner)) 48 16 (k.railSetpoint c.inner)
  else if c.spec.name = "HIF_STO_MAC" then wordSet w 0 48 (Config.stoMac k.straps.pkg).toNat
  else w

/-- The data a part returns (R11): reserved and WO fields read zero. -/
def readPart (k : Pkg) (src : CsrSource) (c : CsrPart) : Nat :=
  let visible := match src with
    | .vf n => vfReads k n c
    | _ => true
  if visible then
    let w := liveWord k c (k.cell c.cell)
    let w := w &&& partMask c (fun f => f.acc != .wo)
    wordField w c.cellLo c.nbits * 2 ^ c.dataLo
  else 0

/-- A read clears the RC fields it returned (R11, R994). -/
def clearRc (src : CsrSource) (k : Pkg) (c : CsrPart) : Pkg :=
  let visible := match src with
    | .vf n => vfReads k n c
    | _ => true
  if visible then k.setCell c.cell (k.cell c.cell &&& ~~~ partMask c (fun f => f.acc == .rc)) else k

/-- Write one part (R11, R994): RW fields are set, W1C and W1S bits take each written 1, others are ignored. The
times of `RST_CMD_HT` and `BOOT_CMD_HT` are kept for the command that reads them. -/
def writePart (data : Nat) (k : Pkg) (c : CsrPart) (mayWrite : FieldSpec → Bool) : Pkg :=
  let d : Word := BitVec.ofNat 64 (data / 2 ^ c.dataLo % 2 ^ c.nbits) <<< c.cellLo
  let rw := partMask c (fun f => f.acc == .rw && mayWrite f)
  let w1c := partMask c (fun f => f.acc == .w1c && mayWrite f)
  let w1s := partMask c (fun f => f.acc == .w1s && mayWrite f)
  let held := if c.spec.name = "RST_CMD_HT" ∨ c.spec.name = "BOOT_CMD_HT" then partMask c (fun f => f.acc == .wo) else 0
  let rw := rw ||| held
  let w := k.cell c.cell
  let w := (w &&& ~~~ rw) ||| (d &&& rw)
  let w := w &&& ~~~ (d &&& w1c)
  let w := w ||| (d &&& w1s)
  k.setCell c.cell w

/-- Registers whose write is a command of its own: REGISTER_WRITE leaves them to that command. -/
def ownRow (name : String) : Bool :=
  ["GLB_CORE_GO", "GLB_REPAIR_CMD", "RST_CMD", "BOOT_STAGE_CMD", "BOOT_CMD", "LUP_STAGE", "LUP_APPLY", "FAB_LOAD",
   "COL_WIN_CMD", "COL_CALL_LOAD", "XLT_ROOT", "XLT_INV_CMD", "MOE_BIAS_COMMIT", "MOE_PLAN_GO", "THM_SUPPLY",
   "HIF_STO_CTRL", "HIF_SQ_CFG", "THM_HOLD_CTRL"].contains name

/-- Which fields a source may write: a virtual function never the owner of a queue (R584). -/
def mayWriteField (src : CsrSource) (name : String) (f : FieldSpec) : Bool :=
  match src with
  | .vf _ => !(name == "HIF_SQ_CFG" && f.lo == 32) && !(name == "HIF_CQ_CFG" && f.lo == 17)
  | _ => true

/-- The address and data of an MSI-X vector's message, and whether the vector is masked (R585). -/
def Pkg.msixMasked (k : Pkg) (fn vec : Nat) : Bool := bit (k.getF (F.MSIX_WORD fn (2 * vec + 1))) 32

/-- Send a vector's message: a memory write into the host. -/
def Pkg.msixSend (k : Pkg) (fn vec : Nat) : Pkg :=
  let k := k.setF (F.MSIX_PENDING fn (vec / 64)) (k.getF (F.MSIX_PENDING fn (vec / 64)) &&& (2 ^ 64 - 1 - 2 ^ (vec % 64)))
  { k with host := { k.host with
      mem := Memory.writeBytes k.host.mem (k.getF (F.MSIX_WORD fn (2 * vec))) (leBytes 4 (k.getF (F.MSIX_WORD fn (2 * vec + 1)))) } }

/-- Raise a function's vector: its message, or its pending bit while it is masked. -/
def Pkg.msixRaise (k : Pkg) (fn vec : Nat) : Pkg :=
  if k.msixMasked fn vec then
    k.setF (F.MSIX_PENDING fn (vec / 64)) (k.getF (F.MSIX_PENDING fn (vec / 64)) ||| 2 ^ (vec % 64))
  else k.msixSend fn vec

/-- Events of a new rack share or tray limit (`PWR_EVENT`). -/
def Pkg.noteLimits (new old : Pkg) : Pkg :=
  let a := old.getF F.PWR_SHARE_W
  let b := new.getF F.PWR_SHARE_W
  let new := if b ≠ 0 ∧ (a = 0 ∨ b < a) then new.raise F.PWR_EV_SHARE_CUT else new
  if new.getF F.PWR_TRAY_W ≠ 0 ∧ new.getF F.PWR_TRAY_W ≠ old.getF F.PWR_TRAY_W then new.raise F.PWR_EV_TRAY_LIMIT else new

/-- `GLB_EXCL_COUNT` follows the valid entries. -/
def Pkg.countExcluded (k : Pkg) (slot : Nat) : Pkg :=
  k.setF (F.GLB_EXCL_COUNT slot) ((List.range 128).filter (fun i => k.flag (F.GLB_EX_VALID slot i))).length

/-- What a write does beside storing its bits: a CQ that becomes enabled starts at entry 0 with PHASE 1 (R595), a pending
vector that is unmasked sends its message, a rack serial is noted (R686), and limits set their events. -/
def writeEffect (src : CsrSource) (old new : Pkg) (c : CsrPart) : Pkg :=
  if c.spec.name = "HIF_CQ_CFG" then
    if new.flag (F.HIF_CQ_EN c.inner) && !old.flag (F.HIF_CQ_EN c.inner) then
      ((new.setF (F.HIF_CQ_PHASE c.inner) 1).setF (F.HIF_CQ_WINDEX c.inner) 0).setF (F.HIF_CQ_HEAD c.inner) 0
    else new
  else if c.spec.name = "MSIX_TABLE" then
    let fn := csrSourceCode src
    let vec := c.inner / 2
    if bit (new.getF (F.MSIX_PENDING fn (vec / 64))) (vec % 64) && !new.msixMasked fn vec then new.msixSend fn vec else new
  else if c.spec.name = "LUP_RACK_SERIAL" then new.raise F.GLB_BU_SERIAL_SET
  else if c.spec.name = "PWR_SHARE" then new.noteLimits old
  else if c.spec.name = "PWR_TRAY_LIMIT" then
    if new.getF F.PWR_TRAY_W ≠ 0 then new.raise F.PWR_EV_TRAY_LIMIT else new
  else if c.spec.name = "GLB_EXCLUDE" then new.countExcluded c.outer
  else new

/-- Perform one part of a write that no path refused: a BAR0 write to an Ir register is ignored (R983), a virtual
function's write outside its reach is dropped and sets the event (R584). An unknown reset scope is refused (R753); a known one is a
command of its own. -/
def performPart (src : CsrSource) (data : Nat) (k : Pkg) (c : CsrPart) : Pkg :=
  let reached := match src with
    | .vf n => vfWrites k n c
    | _ => true
  if !reached then k.raise F.HIF_EV_VF_WRITE_REFUSED
  else if c.spec.path = .ir ∧ src ≠ .i3c then k
  else if c.spec.name = "RST_CMD" ∧ c.nbits = 64 ∧ 6 ≤ bits data 58 56 then k.report F.RST_CMD_STATUS 0x3004 .package 0 0
  else if ownRow c.spec.name then k
  else writeEffect src k (writePart data k c (mayWriteField src c.spec.name)) c

/-- A CSR write at a package. -/
def Pkg.csrWrite (k : Pkg) (src : CsrSource) (off size data : Nat) : Pkg :=
  if !csrWellFormed off size then k.refuseCsr src off true
  else
    let parts := csrParts k src off size
    if parts.any (fun c => pathRefused src c.spec.path) then k.refuseCsr src off true
    else match src, parts with
      | .vf _, [] => k.raise F.HIF_EV_VF_WRITE_REFUSED
      | _, _ => parts.foldl (performPart src data) k

/-- A CSR read at a package: the data lands in `readData`, and returned RC fields are cleared. -/
def Pkg.csrRead (k : Pkg) (src : CsrSource) (off size : Nat) : Pkg :=
  if !csrWellFormed off size then { k.refuseCsr src off false with readData := 2 ^ size - 1 }
  else
    let parts := csrParts k src off size
    if parts.any (fun c => pathRefused src c.spec.path) then
      { k.refuseCsr src off false with readData := 2 ^ size - 1 }
    else
      { parts.foldl (clearRc src) k with readData := (parts.map (readPart k src)).sum }

/-- A write that triggers an action of slot `s`, at byte offset `off` of a register with path code `path`: refused on a
path it does not offer (R983), dropped for a virtual function of another slot (R584). -/
def Pkg.viaPart (k : Pkg) (src : CsrSource) (s off : Nat) (path : PathCode) (act : Pkg → Pkg) : Pkg :=
  if pathRefused src path then k.refuseCsr src off true
  else match src with
    | .vf n => if n.val = s then act k else k.raise F.HIF_EV_VF_WRITE_REFUSED
    | _ => act k

/-- A write that triggers an action of the package, at byte offset `off` of a register with path code `path`. -/
def Pkg.viaPkg (k : Pkg) (src : CsrSource) (off : Nat) (path : PathCode) (act : Pkg → Pkg) : Pkg :=
  if pathRefused src path then k.refuseCsr src off true
  else match src with
    | .vf _ => k.raise F.HIF_EV_VF_WRITE_REFUSED
    | _ => act k

/-- REGISTER_WRITE (R11): a CSR write to a register that has no row of its own. -/
def execRegisterWrite (p : PkgId) (src : CsrSource) (off size data : Nat) (s : State) :
    Host.Outcome State Fault Refusal :=
  .next (s.updPkg p (fun k => k.csrWrite src off size data))

/-- READ_CLEAR (R11): a CSR read; RC fields are cleared once returned. -/
def execReadClear (p : PkgId) (src : CsrSource) (off size : Nat) (s : State) :
    Host.Outcome State Fault Refusal :=
  .next (s.updPkg p (fun k => k.csrRead src off size))

end Sys2Proof.Machine
end

