-- ==== Sys2Proof/Machine/Memory.lean ====
section
/-! DEFINITION. HBM (R244–R248, R993), translation (R249–R270), invalidation (R271–R278), the fault log (R279–R282), and
reads and writes at virtual addresses and at the own package's windows (R500–R505). -/

namespace Sys2Proof.Machine

/-- Why an access ended: its status, and what `CORE_SEQ_ERR_INFO` would hold. -/
structure Bad where
  status : Status
  info : Nat := 0
  deriving DecidableEq, Repr

/-! ### Local store (R119, R125, R126) -/

/-- Bytes of a local store (R119). -/
def lsBytes : Nat := 0x2800000

/-- A physical core. -/
def Pkg.core (k : Pkg) (c : Nat) : Core := k.cores.toList.getD c {}

/-- Replace a physical core. -/
def Pkg.setCore (k : Pkg) (c : Nat) (x : Core) : Pkg := { k with cores := k.cores.setIfInBounds c x }

/-- Change a physical core. -/
def Pkg.updCore (k : Pkg) (c : Nat) (f : Core → Core) : Pkg := k.setCore c (f (k.core c))

/-- The half-rows of a list of local-store byte addresses. -/
def halfRows (addrs : List Nat) : List Nat := (addrs.map (fun a => a / 32)).eraseDups

/-- A command reads local-store bytes: single-bit errors are corrected and counted (R125); a double-bit error is
recorded and ends the command (R126). -/
def Pkg.lsRead (k : Pkg) (c : Nat) (addrs : List Nat) : Pkg × Option Bad :=
  let hs := halfRows addrs
  let x := k.core c
  let ce := hs.filter (fun h => x.lsCe.contains h && !x.lsBad.contains h)
  let k := if ce.isEmpty then k else
    let k := k.setCore c { x with lsCe := x.lsCe.filter (fun h => !ce.contains h) }
    (k.addSat (F.CORE_LS_CE_COUNT c) ce.length).raise (F.CORE_LS_CE c)
  match hs.find? (fun h => x.lsBad.contains h) with
  | none => (k, none)
  | some h =>
    let k := if k.flag (F.CORE_LS_UE c) then k else
      let k := k.setF (F.CORE_LS_UE_BANK c) (bits (h * 32) 11 6)
      (k.setF (F.CORE_LS_UE_ROW c) (bits (h * 32) 25 12)).raise (F.CORE_LS_UE c)
    (k, some { status := 0x5101 })

/-- Replace local store by a content computed from it, where the byte ranges given were written whole: half-rows they
cover whole lose their errors (R126). -/
def Pkg.lsWrote (k : Pkg) (c : Nat) (m : Memory) (ranges : List (Nat × Nat)) : Pkg :=
  k.updCore c (fun x =>
    let whole (h : Nat) : Bool := ranges.any (fun r => decide (r.1 ≤ h * 32) && decide (h * 32 + 32 ≤ r.1 + r.2))
    { x with ls := m, lsBad := x.lsBad.filter (fun h => !whole h), lsCe := x.lsCe.filter (fun h => !whole h) })

/-! ### HBM -/

/-- Bytes of HBM: 384 GiB (R240). -/
def hbmBytes : Nat := 0x6000000000

/-- The stack of an address (R245). -/
def hbmStack (a : Nat) : Nat := (bits a 16 8 ^^^ bits a 25 17 ^^^ bits a 34 26) % 8

/-- The 64-byte units of a range. -/
def hbmUnits (a n : Nat) : List Nat := (List.range ((a % 64 + n + 63) / 64)).map (fun i => a / 64 + i)

/-- An HBM uncorrectable error on a unit is counted and its address recorded (R248). -/
def Pkg.hbmUe (k : Pkg) (u : Nat) : Pkg :=
  let st := hbmStack (u * 64)
  let k := k.inc (F.HBM_UE_COUNT st)
  if k.flag (F.HBM_UE st) then k else (k.setF (F.HBM_UE_ADDR st) u).raise (F.HBM_UE st)

/-- Correctable errors on the units read are corrected, counted and written back (R247). -/
def Pkg.hbmCorrect (k : Pkg) (us : List Nat) : Pkg :=
  let ce := k.hbmCe.filter (fun u => us.contains u)
  let k := { k with hbmCe := k.hbmCe.filter (fun u => !us.contains u) }
  ce.foldl (fun k u => k.inc (F.HBM_CE_COUNT (hbmStack (u * 64)))) k

/-- The errors that stop an access which reads the units `rd` and touches the units `all`: a failed stack (R993), or an
uncorrectable unit (R248). -/
def Pkg.hbmStop (k : Pkg) (all rd : List Nat) : Pkg × Option Status :=
  match all.find? (fun u => k.getF (F.HBM_STATE (hbmStack (u * 64))) == 3) with
  | some u => (k.logError 0x7D02 .stack (hbmStack (u * 64)) (u * 64), some 0x7D02)
  | none => match rd.find? (fun u => k.hbmBad.contains u) with
    | some u => (k.hbmUe u, some 0x5D01)
    | none => (k.hbmCorrect rd, none)

/-- Read HBM, in whole units (R246). -/
def Pkg.hbmRead (k : Pkg) (a n : Nat) : Pkg × Except Status Bytes :=
  let us := hbmUnits a n
  match k.hbmStop us us with
  | (k, some st) => (k, .error st)
  | (k, none) => (k.addWrap (F.HBM_BYTES 0) (64 * us.length), .ok (Memory.readBytes k.hbm a n))

/-- Write HBM: units covered in part are read and merged (R246); units written whole lose their errors. -/
def Pkg.hbmWrite (k : Pkg) (a : Nat) (bs : Bytes) : Pkg × Option Status :=
  let n := bs.length
  let us := hbmUnits a n
  let whole := us.filter (fun u => decide (a ≤ u * 64) && decide (u * 64 + 64 ≤ a + n))
  match k.hbmStop us (us.filter (fun u => !whole.contains u)) with
  | (k, some st) => (k, some st)
  | (k, none) =>
    let k := k.addWrap (F.HBM_BYTES 0) (64 * (us.length - whole.length))
    ({ k with
        hbm := Memory.writeBytes k.hbm a bs
        hbmBad := k.hbmBad.filter (fun u => !whole.contains u)
        hbmCe := k.hbmCe.filter (fun u => !whole.contains u) }.addWrap (F.HBM_BYTES 1) (64 * us.length), none)

/-! ### The address map -/

/-- Where a package-local address lies (Table 6-1): HBM, a physical core's store, a logical core's alias. -/
inductive Place
  | hbm (a : Nat)
  | physical (core off : Nat)
  | logical (l off : Nat)
  deriving DecidableEq, Repr

/-- Logical cores of the package (R240). -/
def Pkg.logicalCores (k : Pkg) : Nat := if k.getF F.GLB_SPARE_POLICY = 2 then 56 else 60

/-- Resolve a package-local address; none for the CSR space and unpopulated addresses. -/
def Pkg.place (k : Pkg) (a : Nat) : Option Place :=
  if a < hbmBytes then some (.hbm a)
  else if 0x100000000000 ≤ a ∧ a < 0x180000000000 then
    let n := (a - 0x100000000000) / 0x40000000
    let o := a % 0x40000000
    if n < 64 ∧ o < lsBytes then some (.physical n o) else none
  else if 0x180000000000 ≤ a ∧ a < 0x200000000000 then
    let l := (a - 0x180000000000) / 0x40000000
    let o := a % 0x40000000
    if l < k.logicalCores ∧ o < lsBytes then some (.logical l o) else none
  else none

/-- Every byte of a page lies in one populated region (R259). -/
def Pkg.pageGood (k : Pkg) (a size : Nat) : Bool :=
  match k.place a, k.place (a + size - 1) with
  | some (.hbm _), some (.hbm _) => true
  | some (.physical n _), some (.physical n' o') => n == n' && decide (size ≤ o' + 1)
  | some (.logical l _), some (.logical l' o') => l == l' && decide (size ≤ o' + 1)
  | _, _ => false

/-- Cluster of a logical core. -/
def Pkg.logicalCluster (k : Pkg) (l : Nat) : Nat := l / (if k.getF F.GLB_SPARE_POLICY = 2 then 14 else 15)

/-- The physical core a logical number names, through the map (R241); none for a vacancy (R242) and before MAP. -/
def Pkg.physOf (k : Pkg) (l : Nat) : Option Nat :=
  if k.logicalCores ≤ l ∨ !k.bring.mapped ∨ k.flag (F.GLB_ME_VACANT l) then none else some (k.getF (F.GLB_ME_PHYS l))

/-! ### Requesters (Table 6-4) -/

/-- `XLT_FR_SOURCE`. -/
def Requester.source : Requester → Nat
  | .fetch c => c
  | .mover c => c
  | .window _ => 0xFC
  | .ownWindow c => c
  | .host _ => 0xFE
  | .storage => 0xFD
  | .hub => 0xFE

/-- `XLT_FR_REMOTE`. -/
def Requester.remote : Requester → Nat
  | .window s => s
  | _ => 0

/-- `XLT_FR_ACCESS`. -/
def Access4.code : Access4 → Nat
  | .read => 0
  | .write => 1
  | .atomic _ => 2
  | .fetch => 3

/-- The PTE bits an access needs, as a mask over PTE bits 7:2 (Table 6-4). -/
def neededBits (r : Requester) (a : Access4) : Nat :=
  let rw := match a with
    | .read => 4
    | .write => 8
    | .atomic old => 32 + 8 + (if old then 4 else 0)
    | .fetch => 16
  match r with
  | .host _ => 64 + rw
  | .storage => 128 + rw
  | _ => rw

/-- The outputs a requester accepts (Table 6-4, R262). -/
def acceptsPlace (r : Requester) (p : Place) : Bool :=
  match p with
  | .hbm _ => true
  | .logical _ _ => (match r with | .window _ => true | .ownWindow _ => true | .host _ => true | _ => false)
  | .physical _ _ => (match r with | .host 4 => true | _ => false)

/-! ### The walk -/

/-- The allotment of a root: base and length (R252). -/
def Pkg.allotment (k : Pkg) (root : Nat) : Nat × Nat :=
  if root < 4 then (k.getF (F.XLT_HBM_BASE root) * 2 ^ 30, k.getF (F.XLT_HBM_LEN root) * 2 ^ 30) else (0, hbmBytes)

/-- A range lies inside the allotment of a root. -/
def Pkg.inAllotment (k : Pkg) (root a n : Nat) : Bool :=
  let (b, l) := k.allotment root
  decide (b ≤ a) && decide (a + n ≤ b + l) && decide (a + n ≤ hbmBytes)

/-- Bytes covered by one entry of a level (Table 6-2). -/
def levelCover (level : Nat) : Nat := [4096, 0x200000, 0x40000000, 0x8000000000].getD level 4096

/-- Index of a virtual address in a table of a level (Table 6-2). -/
def levelIndex (level va : Nat) : Nat := if level = 3 then bits va 55 39 else va / levelCover level % 512

/-- Bytes of a table of a level. -/
def tableBytes (level : Nat) : Nat := if level = 3 then 0x100000 else 4096

/-- What a page-table entry is (R256–R260), before the 64 KiB group check. -/
inductive Pte
  | invalid
  | bad
  | table (a : Nat)
  | leaf (base perm : Nat)
  deriving DecidableEq, Repr

/-- Decode an entry of a level (Table 6-3, R256, R257, R259, R260). The page of an entry with C64 is judged with its group (R265). -/
def Pkg.decodePte (k : Pkg) (level v : Nat) : Pte :=
  let addr := bits v 45 12 * 4096
  if !bit v 0 then .invalid
  else if bits v 55 46 ≠ 0 ∨ bits v 11 9 ≠ 0 then .bad
  else if !bit v 1 then
    if level = 0 ∨ bits v 8 2 ≠ 0 then .bad else .table addr
  else if level = 3 then .bad
  else if addr % levelCover level ≠ 0 then .bad
  else if level ≠ 0 ∧ bit v 8 then .bad
  else if !(level == 0 && bit v 8) && !k.pageGood addr (levelCover level) then .bad
  else .leaf addr (v % 512)

/-- R258: the sixteen entries of a 64 KiB group. -/
def groupGood (es : List Nat) : Bool :=
  let base := bits (es.headD 0) 45 12 * 4096
  base % 65536 == 0 &&
  (es.zip (List.range 16)).all (fun p =>
    bit p.1 0 && bit p.1 1 && bit p.1 8 && bits p.1 55 46 == 0 && bits p.1 11 9 == 0
      && bits p.1 7 2 == bits (es.headD 0) 7 2 && bits p.1 45 12 * 4096 == base + p.2 * 4096)

/-- A walk that ended in a fault: status and level. -/
structure WalkFault where
  status : Status
  level : Nat
  deriving DecidableEq, Repr

/-- Count one walk read of HBM. -/
def Pkg.walkRead (k : Pkg) (a n : Nat) : Pkg × Except Status Bytes :=
  let (k, r) := k.hbmRead a n
  let k := k.addWrap (F.XLT_STATS 2) 1
  match r with
  | .ok b => (k, .ok b)
  | .error 0x5D01 => (k.raise F.XLT_WALK_UE, .error 0x5204)
  | .error st => (k, .error st)

/-- Keep a table entry in the walk cache: the least recently used of a full set goes (R267, R270). -/
def Xlt.addTable (x : Xlt) (e : TableEntry) : Xlt :=
  let set (t : TableEntry) : Nat := Config.walkSet t.root t.level (t.va / levelCover t.level)
  let others := x.tables.filter (fun t => !(t.root == e.root && t.level == e.level && t.va == e.va))
  let peers := others.filter (fun t => set t == set e)
  let others := if Config.walkWays ≤ peers.length then
      (match peers.getLast? with | some v => others.erase v | none => others) else others
  { x with tables := (e :: others).take 2048 }

/-- Keep a leaf in the translation cache. -/
def Xlt.addLeaf (x : Xlt) (e : Leaf) : Xlt :=
  let set (t : Leaf) : Nat := Config.leafSet t.root (t.va / t.size)
  let others := x.leaves.filter (fun t => !(t.root == e.root && t.va == e.va))
  let peers := others.filter (fun t => set t == set e)
  let others := if Config.leafWays ≤ peers.length then
      (match peers.getLast? with | some v => others.erase v | none => others) else others
  { x with leaves := (e :: others).take 16384 }

/-- Walk from the table of `level` at `table` (R254, R265); entries met on the way are kept in the walk cache once they
prove good. `fuel` counts levels. A 64 KiB group is one read of its 128 bytes (R265), of which the entry's unit is already read. -/
def Pkg.walkFrom (k : Pkg) (root va : Nat) : Nat → Nat → Nat → Pkg × Except WalkFault Leaf
  | 0, level, _ => (k, .error ⟨0x5203, level⟩)
  | fuel + 1, level, table =>
    if !k.inAllotment root table (tableBytes level) then (k, .error ⟨0x5203, level⟩)
    else
      match k.walkRead (table + levelIndex level va * 8) 8 with
      | (k, .error st) => (k, .error ⟨st, level⟩)
      | (k, .ok b) =>
        match k.decodePte level (leNat b) with
        | .invalid => (k, .error ⟨0x5201, level⟩)
        | .bad => (k, .error ⟨0x5203, level⟩)
        | .table a =>
          if !k.inAllotment root a (tableBytes (level - 1)) then (k, .error ⟨0x5203, level⟩)
          else
            let e : TableEntry := { root := root, level := level, va := va / levelCover level * levelCover level, table := a }
            let (k', r) := k.walkFrom root va fuel (level - 1) a
            match r with
            | .ok l => ({ k' with xlt := k'.xlt.addTable e }, .ok l)
            | .error x => (k', .error x)
        | .leaf base perm =>
          if level = 0 ∧ bit perm 8 then
            let group := table + levelIndex 0 va / 16 * 128
            match k.hbmRead (group + (if levelIndex 0 va % 16 < 8 then 64 else 0)) 64 with
            | (k, .error 0x5D01) => (k.raise F.XLT_WALK_UE, .error ⟨0x5204, 0⟩)
            | (k, .error st) => (k, .error ⟨st, 0⟩)
            | (k, .ok _) =>
              let g := Memory.readBytes k.hbm group 128
              let es := (List.range 16).map (fun i => fieldAt g (8 * i) 8)
              if groupGood es && k.pageGood (bits (es.headD 0) 45 12 * 4096) 65536 then
                (k, .ok { root := root, va := va / 65536 * 65536, size := 65536, base := bits (es.headD 0) 45 12 * 4096, perm := perm })
              else (k, .error ⟨0x5203, 0⟩)
          else (k, .ok { root := root, va := va / levelCover level * levelCover level, size := levelCover level
                         base := base, perm := perm })

/-- Where a walk starts: the deepest cached table of the address, else the root table. -/
def Pkg.walkStart (k : Pkg) (root va : Nat) : Nat × Nat :=
  match [1, 2, 3].findSome? (fun lv =>
      (k.xlt.tables.find? (fun t => t.root == root && t.level == lv && t.va == va / levelCover lv * levelCover lv)).map
        (fun t => (lv - 1, t.table))) with
  | some x => x
  | none => (3, k.getF (F.XLT_ROOT_ADDR root) * 2 ^ 20)

/-- Walk for an address: NO_ROOT, or the walk itself. -/
def Pkg.walk (k : Pkg) (root va : Nat) : Pkg × Except WalkFault Leaf :=
  let table := k.getF (F.XLT_ROOT_ADDR root) * 2 ^ 20
  if !k.flag (F.XLT_ROOT_EN root) || !k.inAllotment root table 0x100000 then (k, .error ⟨0x5205, 3⟩)
  else
    let (level, t) := k.walkStart root va
    k.walkFrom root va 4 level t

/-- A leaf answers an access: PERMISSION when it lacks a bit, leaves the allotment, names another partition's core, or is
of a kind the requester does not accept (R252, R253, R261, R262). -/
def Pkg.leafAllows (k : Pkg) (l : Leaf) (r : Requester) (a : Access4) (p : Place) : Bool :=
  let need := neededBits r a
  (l.perm &&& need == need) && acceptsPlace r p &&
  (match p with
    | .hbm _ => k.inAllotment l.root l.base l.size
    | .logical n _ => l.root == 4 || k.clusterSlot (k.logicalCluster n) == some l.root
    | .physical _ _ => l.root == 4)

/-- Level of the leaf, for a fault record. -/
def Leaf.level (l : Leaf) : Nat := if l.size = 0x40000000 then 2 else if l.size = 0x200000 then 1 else 0

/-- Enter a fault in the fault log (R282). -/
def Pkg.logFault (k : Pkg) (st root level va : Nat) (r : Requester) (a : Access4) : Pkg :=
  let i := k.getF F.XLT_FAULT_NEXT
  let full := k.getF (F.XLT_FR_STATUS i) != 0
  let k := if full then k.inc F.XLT_FAULT_LOST else k
  let k := k.setF (F.XLT_FR_HT i) k.hallTime
  let k := k.setF (F.XLT_FR_SOURCE i) r.source
  let k := k.setF (F.XLT_FR_REMOTE i) r.remote
  let k := k.setF (F.XLT_FR_ROOT i) root
  let k := k.setF (F.XLT_FR_LEVEL i) level
  let k := k.setF (F.XLT_FR_ACCESS i) a.code
  let k := k.setF (F.XLT_FR_VA i) va
  let k := k.report (F.XLT_FR_STATUS i) st .slot root va
  (k.setF F.XLT_FAULT_NEXT ((i + 1) % 64)).raise F.XLT_FAULT_LOGGED

/-- TRANSLATION_FAULT (R279): the statuses of Table 6-7 enter the fault log. -/
def Pkg.faulted (k : Pkg) (st root level va : Nat) (r : Requester) (a : Access4) : Pkg × Bad :=
  (if statusSub st = 2 then k.logFault st root level va r a else k, { status := st, info := va })

/-- Where a translated byte lies once the logical map is resolved. -/
inductive Spot
  | hbm (a : Nat)
  | ls (core off : Nat)
  deriving DecidableEq, Repr

/-- Translate one address (R261–R265): the place of its byte and the bytes left in its page. A fault leaves the caches without what its
walk found (R268). -/
def Pkg.translate (k : Pkg) (root va : Nat) (r : Requester) (a : Access4) : Pkg × Except Bad (Spot × Nat) :=
  let found := k.xlt.leaves.find? (fun l => l.root == root && decide (l.va ≤ va) && decide (va < l.va + l.size))
  let old := k.xlt
  let (k, res) := match found with
    | some l => (({ k with xlt := { k.xlt with leaves := l :: k.xlt.leaves.erase l } } : Pkg).addWrap (F.XLT_STATS 0) 1, Except.ok l)
    | none => (k.addWrap (F.XLT_STATS 1) 1).walk root va
  match res with
  | .error w =>
    let (k, b) := k.faulted w.status root w.level va r a
    (k, .error b)
  | .ok l =>
    let fault (k : Pkg) (st : Nat) : Pkg × Except Bad (Spot × Nat) :=
      let (k, b) := (if found.isSome then k else { k with xlt := old }).faulted st root l.level va r a
      (k, .error b)
    match k.place (l.base + (va - l.va)) with
    | none => fault k 0x5203
    | some p =>
      if !k.leafAllows l r a p then fault k 0x5202
      else
        let k := if found.isSome then k else { k with xlt := k.xlt.addLeaf l }
        let left := l.va + l.size - va
        match p with
        | .hbm x => (k, .ok (.hbm x, left))
        | .physical c o => (k, .ok (.ls c o, left))
        | .logical n o =>
          match k.physOf n with
          | some c =>
            -- R734: a window access on the alias of a core in reset is ABSORBED.
            if (match r with | .window _ => true | .ownWindow _ => true | _ => false) && k.coreDown.contains c then
              (k.inc (F.RST_COUNTS 6), .error { status := 0x2001, info := va })
            -- R772: while the local store of the number is copied, the access is answered SUBSTITUTING.
            else if (match r with | .window _ => true | .ownWindow _ => true | _ => false) && k.repair.substs.any (fun (q : Subst) => q.copying && q.logical == n) then
              (k.inc (F.GLB_REPAIR_COUNTS 3), .error { status := 0x1101, info := va })
            else (k, .ok (.ls c o, left))
          | none => fault k 0x8201

/-! ### Reads and writes at virtual addresses -/

/-- A virtual address that leaves the 56-bit space is NOT_PRESENT (R264); others translate. -/
def Pkg.xlate (k : Pkg) (root va : Nat) (r : Requester) (a : Access4) : Pkg × Except Bad (Spot × Nat) :=
  if 2 ^ 56 ≤ va then
    let (k, b) := k.faulted 0x5201 root 3 va r a
    (k, .error b)
  else k.translate root va r a

/-- Read bytes at one spot. -/
def Pkg.spotRead (k : Pkg) (sp : Spot) (n va : Nat) : Pkg × Except Bad Bytes :=
  match sp with
  | .hbm a => (match k.hbmRead a n with
    | (k, .ok b) => (k, .ok b)
    | (k, .error st) => (k, .error { status := st, info := va }))
  | .ls c o => (match k.lsRead c ((List.range n).map (fun i => o + i)) with
    | (k, some b) => (k, .error b)
    | (k, none) => (k, .ok (Memory.readBytes (k.core c).ls o n)))

/-- Write bytes at one spot. -/
def Pkg.spotWrite (k : Pkg) (sp : Spot) (bs : Bytes) (va : Nat) : Pkg × Option Bad :=
  match sp with
  | .hbm a => (match k.hbmWrite a bs with
    | (k, some st) => (k, some { status := st, info := va })
    | (k, none) => (k, none))
  | .ls c o => (k.lsWrote c (Memory.writeBytes (k.core c).ls o bs) [(o, bs.length)], none)

/-- HBM bytes of a slot's translations count as moved for it (R829). -/
def Pkg.hbmMoved (k : Pkg) (root : Nat) (sp : Spot) (n : Nat) : Pkg :=
  match sp with
  | .hbm _ => k.moveBytes root n
  | .ls _ _ => k

/-- Read `n` bytes at a virtual address page by page (R263): the bytes read before a fault, and the fault. -/
def Pkg.xread (k : Pkg) (root : Nat) (r : Requester) (a : Access4) : Nat → Nat → Nat → Pkg × Bytes × Option Bad
  | 0, _, _ => (k, [], none)
  | fuel + 1, va, n =>
    if n = 0 then (k, [], none)
    else match k.xlate root va r a with
      | (k, .error b) => (k, [], some b)
      | (k, .ok (sp, left)) =>
        let m := min n left
        match k.spotRead sp m va with
        | (k, .error b) => (k, [], some b)
        | (k, .ok bs) =>
          let (k, rest, e) := (k.hbmMoved root sp m).xread root r a fuel (va + m) (n - m)
          (k, bs ++ rest, e)

/-- Write bytes at a virtual address page by page (R263). -/
def Pkg.xwrite (k : Pkg) (root : Nat) (r : Requester) (a : Access4) : Nat → Nat → Bytes → Pkg × Option Bad
  | 0, _, _ => (k, none)
  | fuel + 1, va, bs =>
    if bs.isEmpty then (k, none)
    else match k.xlate root va r a with
      | (k, .error b) => (k, some b)
      | (k, .ok (sp, left)) =>
        let m := min bs.length left
        match k.spotWrite sp (bs.take m) va with
        | (k, some b) => (k, some b)
        | (k, none) => (k.hbmMoved root sp m).xwrite root r a fuel (va + m) (bs.drop m)

/-- Pages an access of `n` bytes can touch. -/
def pages (n : Nat) : Nat := n / 4096 + 2

/-- Read at a virtual address. -/
def Pkg.vread (k : Pkg) (root : Nat) (r : Requester) (va n : Nat) : Pkg × Bytes × Option Bad :=
  k.xread root r (match r with | .fetch _ => .fetch | _ => .read) (pages n) va n

/-- Read bytes of a partition's space for the hub: its tables and lists (R599, log entry 15). -/
def Pkg.hubRead (k : Pkg) (slot va n : Nat) : Pkg × Bytes × Option Bad := k.vread slot .hub va n

/-- Write at a virtual address. -/
def Pkg.vwrite (k : Pkg) (root : Nat) (r : Requester) (va : Nat) (bs : Bytes) : Pkg × Option Bad :=
  k.xwrite root r .write (pages bs.length) va bs

/-- Translate every page of a range without accessing it (R440): the first fault. -/
def Pkg.xcheck (k : Pkg) (root : Nat) (r : Requester) (a : Access4) : Nat → Nat → Nat → Pkg × Option Bad
  | 0, _, _ => (k, none)
  | fuel + 1, va, n =>
    if n = 0 then (k, none)
    else match k.xlate root va r a with
      | (k, .error b) => (k, some b)
      | (k, .ok (_, left)) => k.xcheck root r a fuel (va + min n left) (n - min n left)

/-! ### Windows (R500–R505) -/

/-- The registered window of an index. -/
def Pkg.window (k : Pkg) (slot index : Nat) : Option Window :=
  k.windows.find? (fun w => w.slot == slot && w.index == index)

/-- The checks of R505, in order; the virtual address when they pass. -/
def Pkg.windowCheck (k : Pkg) (slot index off n rights : Nat) : Except Status (Window × Nat) :=
  match k.window slot index with
  | none => .error 0x3401
  | some w =>
    if w.length < off + n then .error 0x3404
    else if w.rights &&& rights = rights then .ok (w, w.base + off)
    else .error 0x3403

/-- Read through a window of this package. -/
def Pkg.winRead (k : Pkg) (slot index off n source : Nat) : Pkg × Bytes × Option Bad :=
  match k.windowCheck slot index off n 1 with
  | .error st => (k, [], some { status := st })
  | .ok (_, va) => k.vread slot (.window source) va n

/-- Write through a window of this package: performed only when every page translates (R440). -/
def Pkg.winWrite (k : Pkg) (slot index off source : Nat) (bs : Bytes) : Pkg × Option Bad :=
  match k.windowCheck slot index off bs.length 2 with
  | .error st => (k, some { status := st })
  | .ok (_, va) =>
    match k.xcheck slot (.window source) .write (pages bs.length) va bs.length with
    | (k, some b) => (k, some b)
    | (k, none) => k.vwrite slot (.window source) va bs

/-! ### Invalidation (R271–R278) -/

/-- Drop the cached entries an invalidation removes (Table 6-6): kind 1 RANGE, 2 ROOT, 3 ALL. -/
def Xlt.drop (x : Xlt) (kind root va n : Nat) : Xlt :=
  let leaf (l : Leaf) : Bool :=
    kind == 3 || (l.root == root && (kind == 2 || (decide (l.va < va + n) && decide (va < l.va + l.size))))
  { leaves := x.leaves.filter (fun l => !leaf l), tables := x.tables.filter (fun t => !(kind == 3 || t.root == root)) }

/-- Pending invalidations. -/
def Pkg.invPending (k : Pkg) : Nat := (2 ^ 32 + k.getF F.XLT_INV_ISSUED - k.getF F.XLT_INV_DONE) % 2 ^ 32

/-- Accept an invalidation: it takes the next ticket and its entries go at once (R271, R274). -/
def Pkg.acceptInv (k : Pkg) (kind root va n : Nat) : Pkg :=
  ({ k with xlt := k.xlt.drop kind root va n } : Pkg).addWrap F.XLT_INV_ISSUED 1

/-- A write of `XLT_INV_CMD` (R271, R272): a virtual function names its own root and may not use ALL. -/
def Pkg.invCmd (k : Pkg) (src : CsrSource) (kind root n : Nat) : Pkg :=
  let full (k : Pkg) : Pkg := k.raise F.XLT_INV_FULL
  let root := match src with | .vf f => f.val | _ => root
  let isVf := match src with | .vf _ => true | _ => false
  if kind % 4 = 0 then k
  else if kind % 4 = 3 ∧ isVf = true then full k
  else if 5 ≤ root ∨ (kind % 4 = 1 ∧ n = 0) then full k
  else if 64 ≤ k.invPending then full k
  else k.acceptInv (kind % 4) root (k.getF F.XLT_INV_VA * 4096) (n * 4096)

/-- INV_RANGE (R271). -/
def execInvRange (p : PkgId) (src : CsrSource) (root pages : Nat) (s : State) : Host.Outcome State Fault Refusal :=
  .next (s.updPkg p (fun k => k.invCmd src 1 (root % 8) (pages % 2 ^ 32)))

/-- INV_ROOT (R271). -/
def execInvRoot (p : PkgId) (src : CsrSource) (root : Nat) (s : State) : Host.Outcome State Fault Refusal :=
  .next (s.updPkg p (fun k => k.invCmd src 2 (root % 8) 0))

/-- INV_ALL (R272). The `XLT_INV_ROOT` field has no part in ALL, but R271 refuses a write that names root 5–7. -/
def execInvAll (p : PkgId) (src : CsrSource) (root : Nat) (s : State) : Host.Outcome State Fault Refusal :=
  .next (s.updPkg p (fun k => k.invCmd src 3 (root % 8) 0))

/-- INV_COMPLETE (R275, R276): the oldest pending invalidation completes. An access of this model begins and ends within
one step, so none is still running with a removed entry. -/
def execInvComplete (p : PkgId) (s : State) : Host.Outcome State Fault Refusal :=
  .next (s.updPkg p (fun k => if k.invPending = 0 then k else k.addWrap F.XLT_INV_DONE 1))

/-- XLT_ROOT_WRITE (R278): the root is written and its cached entries go, unless 64 invalidations are pending. -/
def Pkg.writeRoot (k : Pkg) (root data : Nat) : Pkg :=
  if 64 ≤ k.invPending then k.raise F.XLT_INV_FULL
  else
    let k := k.setF (F.XLT_ROOT_ADDR root) (bits data 45 20)
    let k := k.setF (F.XLT_ROOT_EN root) (data % 2)
    k.acceptInv 2 root 0 0

/-- XLT_ROOT_WRITE: a virtual function reaches its own slot's root only (R584). -/
def execXltRootWrite (p : PkgId) (src : CsrSource) (root : Fin 5) (data : Nat) (s : State) :
    Host.Outcome State Fault Refusal :=
  .next (s.updPkg p (fun k => match src with
    | .vf n => if n.val = root.val then k.writeRoot root data else k.raise F.HIF_EV_VF_WRITE_REFUSED
    | _ => k.writeRoot root data))

/-- WALK_COMPLETE (R265, R268): a walk for an access of a mover, window, function or the storage port completes and
fills the caches, or faults. -/
def execWalkComplete (p : PkgId) (root : Fin 5) (va : Nat) (r : Machine.Requester) (a : Machine.Access4) (t : Nat) (s : State) :
    Host.Outcome State Fault Refusal :=
  .next (s.updPkg p (fun k => ((k.at t).xlate root va r a).1))

/-- BAR2_READ (R586–R588): all ones on a fault, a poisoned TLP on an HBM error. -/
def execBar2Read (p : PkgId) (fn : Fin 5) (off n t : Nat) (s : State) : Host.Outcome State Fault Refusal :=
  .next (s.updPkg p (fun k =>
    match (k.at t).vread fn (.host fn) (k.getF (F.XLT_BAR2_VBASE fn) * 4096 + off) n with
    | (k, bs, none) => { k.moveBytes fn n with readData := leNat bs, readPoison := false }
    | (k, _, some b) =>
      if statusSub b.status = 2 then (({ k with readData := 2 ^ (8 * n) - 1, readPoison := false } : Pkg).raise F.HIF_EV_BAR2_FAULT).inc (F.HIF_COUNTS 5)
      else { k with readData := 2 ^ (8 * n) - 1, readPoison := true }))

/-- BAR2_WRITE (R586–R589): dropped on a fault or a failed stack; a poisoned write is dropped and logged through AER. -/
def execBar2Write (p : PkgId) (fn : Fin 5) (off : Nat) (data : Bytes) (poisoned : Bool) (t : Nat) (s : State) :
    Host.Outcome State Fault Refusal :=
  .next (s.updPkg p (fun k =>
    let k := k.at t
    if poisoned then { k with aerPoisoned := true }
    else
      match k.vwrite fn (.host fn) (k.getF (F.XLT_BAR2_VBASE fn) * 4096 + off) data with
      | (k, none) => k.moveBytes fn data.length
      | (k, some b) => if statusSub b.status = 2 then (k.raise F.HIF_EV_BAR2_FAULT).inc (F.HIF_COUNTS 5) else k))

/-- CACHE_ENTRY_ERROR (R741): the entry that holds the error goes and is counted. -/
def execCacheEntryError (p : PkgId) (leaf : Bool) (index : Nat) (s : State) : Host.Outcome State Fault Refusal :=
  .next (s.updPkg p (fun k =>
    let x := k.xlt
    let held := if leaf then decide (index < x.leaves.length) else decide (index < x.tables.length)
    if !held then k
    else
      let x := if leaf then { x with leaves := x.leaves.eraseIdx index } else { x with tables := x.tables.eraseIdx index }
      ({ k with xlt := x } : Pkg).inc (F.RST_COUNTS 7)))

end Sys2Proof.Machine
end

