-- ==== Sys2Proof/Machine/Compute.lean ====
section
/-! DEFINITION. Command words (Tables 4-2 to 4-10), operand references, and what the matrix and vector engines and LAYOUT
compute in local store (R85–R118, R150–R153, R207–R209, R220–R222). -/

namespace Sys2Proof.Machine

/-! ### Command words -/

/-- Field of a command word. -/
def Cmd.f (c : Cmd) (off size : Nat) : Nat := fieldAt c.bytes off size
/-- `CMD_OPCODE`. -/
def Cmd.op (c : Cmd) : Nat := c.f 0 1
/-- A flag of `CMD_FLAGS`. -/
def Cmd.flag (c : Cmd) (n : Nat) : Bool := bit (c.f 1 1) n
/-- SAT. -/
def Cmd.sat (c : Cmd) : Bool := c.flag 3
/-- ACC. -/
def Cmd.acc (c : Cmd) : Bool := c.flag 4
/-- TILE. -/
def Cmd.isTile (c : Cmd) : Bool := c.flag 5

/-- DESC of an operand reference. -/
def trefDesc (v : Nat) : Nat := bits v 57 32
/-- DATA of an operand reference. -/
def trefData (v : Nat) : Nat := bits v 25 0

/-- The operand references a command reads and writes (body offsets), by opcode. -/
def trefReads (op vop : Nat) (acc batch : Bool) : List Nat :=
  match op with
  | 0x01 => [16, 24] ++ (if acc then [40] else [])
  | 0x03 => if batch then [16] else [16, 24, 32]
  | 0x10 => [16] ++ (if [1, 2, 3, 4, 6, 7, 8, 9].contains vop then [32] else []) ++ (if [4, 9].contains vop then [40] else [])
  | 0x11 => [16]
  | 0x12 => [16]
  | 0x20 => [16]
  | _ => []

/-- The operand references a command writes. -/
def trefWrites (op : Nat) : List Nat :=
  match op with
  | 0x01 => [32]
  | 0x03 => [40, 48]
  | 0x10 => [24]
  | 0x11 => [24]
  | 0x12 => [24, 32]
  | 0x20 => [24]
  | _ => []

/-- Insert a number in increasing order. -/
def insertNat (x : Nat) : List Nat → List Nat
  | [] => [x]
  | y :: r => if x ≤ y then x :: y :: r else y :: insertNat x r

/-- The operand references of a command, in the order of its body fields. -/
def Cmd.trefs (c : Cmd) : List Nat :=
  (trefReads c.op (c.f 48 2) c.acc (bit (c.f 60 1) 3) ++ trefWrites c.op).foldr insertNat []

/-- Read a descriptor of a core's local store. -/
def Pkg.descAt (k : Pkg) (c off : Nat) : Bytes := Memory.readBytes (k.core c).ls off 32

/-- The tensor of an operand reference. -/
def Pkg.tensor (k : Pkg) (c v : Nat) : Tensor := { d := Desc.parse (k.descAt c (trefDesc v)), data := trefData v }

/-- The tensor of the operand reference at a body offset. -/
def Pkg.operand (k : Pkg) (c : Nat) (x : Cmd) (off : Nat) : Tensor := k.tensor c (x.f off 8)

/-- Step 5 of R991 for one descriptor: reserved fields, then its own values. A descriptor outside the local store cannot
be read (R120). -/
def Pkg.descCheck (k : Pkg) (c off : Nat) : Option Status :=
  if lsBytes < off + 32 then some 0x3104
  else
    let b := k.descAt c off
    if descReserved b then some 0x3101
    else if (Desc.parse b).bad then some 0x3105
    else none

/-- The local-store range of a tensor (R120). -/
def Tensor.inRange (t : Tensor) : Bool := decide (t.data + t.d.reach t.data ≤ lsBytes)

/-- Two byte ranges overlap. -/
def rangesMeet (a b : Nat × Nat) : Bool := decide (a.1 < b.1 + b.2) && decide (b.1 < a.1 + a.2)

/-- Two range lists overlap. -/
def setsMeet (as bs : List (Nat × Nat)) : Bool := as.any (fun a => bs.any (fun b => rangesMeet a b))

/-- First failing check of a list of checks, in order. -/
def firstBad : List (Bool × Status) → Option Status
  | [] => none
  | (b, st) :: r => if b then some st else firstBad r

/-- Step 5 of R991 for every operand reference, in body order: the descriptor's own fields, and then what the command asks of the
operand at that body offset. -/
def Pkg.descChecks (k : Pkg) (c : Nat) (x : Cmd) (bad : Nat → Desc → Bool) : Option Status :=
  x.trefs.findSome? (fun o => match k.descCheck c (trefDesc (x.f o 8)) with
    | some st => some st
    | none => if bad o (k.operand c x o).d then some 0x3105 else none)

/-- Record arithmetic flags in `CORE_FPFLAGS`. -/
def Pkg.fpFlags (k : Pkg) (c flags : Nat) : Pkg :=
  let put (k : Pkg) (n : Nat) (f : Fld) : Pkg := if bit flags n then k.raise f else k
  put (put (put (put (put k 0 (F.CORE_FP_INVALID c)) 1 (F.CORE_FP_OVERFLOW c)) 2 (F.CORE_FP_SATURATED c)) 3
    (F.CORE_FP_NAN_IN c)) 4 (F.CORE_FP_UNDERFLOW c)

/-- Store a new local-store content of which the listed bytes were written. -/
def Pkg.lsStore (k : Pkg) (c : Nat) (m : Memory) (written : List Nat) : Pkg :=
  k.updCore c (fun x =>
    let whole (h : Nat) : Bool := (List.range 32).all (fun i => written.contains (h * 32 + i))
    { x with ls := m, lsBad := x.lsBad.filter (fun h => !whole h), lsCe := x.lsCe.filter (fun h => !whole h) })

/-- Write lines of a tensor and store them: `lines` gives each line's index and values. -/
def Pkg.putLines (k : Pkg) (c : Nat) (t : Tensor) (sat : Bool) (lines : List (List Nat × List Num)) : Pkg :=
  let (m, fl) := lines.foldl (fun (acc : Memory × Nat) l =>
    let (m, g) := t.putLine sat acc.1 l.1 l.2
    (m, acc.2 ||| g)) ((k.core c).ls, 0)
  let written := lines.flatMap (fun l => (List.range l.2.length).flatMap (fun i => t.d.touch t.data (i :: l.1.tail)))
  (k.lsStore c m written).fpFlags c fl

/-! ### GEMM (R85–R111, R150, R151) -/

/-- One exact dot product of a step, times the block scales, rounded to FP32 (R97, R98, R101, R102). -/
def dotStep (as bs : List Num) (ea eb : Nat) : Num × Nat :=
  let nanIn := as.any (fun x => x == .nan) || bs.any (fun x => x == .nan) || ea == 0xFF || eb == 0xFF
  let (s, f) := (as.zip bs).foldl (fun (acc : Num × Nat) p =>
    let (q, f) := mulExact p.1 p.2
    let (s, g) := addExact acc.1 q
    (s, acc.2 ||| f ||| g)) (Num.fin true 0 0, 0)
  if nanIn then (.nan, fNanIn)
  else
    let (v, g) := round32 (s.scale ((ea : Int) + eb - 254))
    (v, f ||| g)

/-- Storage index of a logical matrix position (row, column). -/
def Desc.mat (d : Desc) (i j : Nat) : List Nat := d.storage [j, i, 0, 0, 0, 0]

/-- One element of C: steps in increasing K (R99). -/
def gemmElem (m : Memory) (a b : Tensor) (cin : Option Tensor) (kk i j : Nat) : Num × Nat :=
  let init := match cin with
    | some t => t.d.elem m t.data (t.d.mat i j)
    | none => (.zero, 0)
  (List.range ((kk + 31) / 32)).foldl (fun (acc : Num × Nat) kb =>
    let ks := (List.range (min 32 (kk - 32 * kb))).map (fun t => 32 * kb + t)
    let (v, f) := dotStep (ks.map (fun t => a.d.rawElem m a.data (a.d.mat i t))) (ks.map (fun t => b.d.rawElem m b.data (b.d.mat t j)))
      (a.d.scaleByte m a.data (a.d.mat i (32 * kb))) (b.d.scaleByte m b.data (b.d.mat (32 * kb) j))
    let (s, g) := add32 acc.1 v
    (s, acc.2 ||| f ||| g)) init

/-- Steps 6 and 7 of R991 for the pair of operand formats (R95). -/
def badPair (a b : Desc) : Bool :=
  let no (d : Desc) : Bool := d.format == 9 || d.fmt.int
  no a || no b || ((a.format == 8) != (b.format == 8))

/-- Descriptor values a matrix operand must have beside R198 (R207, R208): `wantT` is the TRANSPOSED an MX operand needs. -/
def badMatrixDesc (d : Desc) (wantT : Bool) : Bool := decide (2 < d.dims) || (d.fmt.mx && d.transposed != wantT)

/-- The logical matrix is smaller than r × c. -/
def Desc.smaller (d : Desc) (r c : Nat) : Bool := decide (d.logical 1 < r) || decide (d.logical 0 < c)

/-- A descriptor that an operand of a GEMM may not have (R96, R157, R207, R208, R511); CIN is an FP32 block (R99, Table 4-6). -/
def Cmd.badGemmDesc (x : Cmd) (off : Nat) (d : Desc) : Bool :=
  badMatrixDesc d (off == 24) || match off with
    | 32 => d.fmt.int || (x.isTile && (d.fmt.mx || (fieldAt (x.tile.getD []) 36 1 == 1 && d.format != 8 && d.format != 9)))
    | 40 => d.format != 9
    | _ => false

/-- The checks of a GEMM that need its descriptors (R991 steps 5–8 and 10). -/
def Pkg.gemmCheck (k : Pkg) (c : Nat) (x : Cmd) : Option Status :=
  match k.descChecks c x x.badGemmDesc with
  | some st => some st
  | none =>
    let a := k.operand c x 16
    let b := k.operand c x 24
    let o := k.operand c x 32
    let ci := k.operand c x 40
    let m := x.f 48 2
    let n := x.f 50 2
    let kk := x.f 52 2
    let tile := x.tile.getD []
    let inPlace := x.acc && x.f 40 8 == x.f 32 8 && o.d.format == 9
    let rd := [a.d.footprint a.data, b.d.footprint b.data, (trefDesc (x.f 16 8), 32), (trefDesc (x.f 24 8), 32), (trefDesc (x.f 32 8), 32)]
      ++ (if x.acc then [(trefDesc (x.f 40 8), 32)] else []) ++ (if x.acc && !inPlace then [ci.d.footprint ci.data] else [])
    firstBad [
      (badPair a.d b.d, 0x3103),
      (m == 0 || n == 0 || kk == 0 || a.d.smaller m kk || b.d.smaller kk n || o.d.smaller m n || (x.acc && ci.d.smaller m n)
        || (x.isTile && decide (fieldAt tile 32 4 < o.d.lineBytes)), 0x3109),
      (!a.inRange || !b.inRange || !o.inRange || (x.acc && !ci.inRange), 0x3104),
      (setsMeet rd [o.d.footprint o.data], 0x310C)]

/-- Bytes of local store a GEMM reads. -/
def Pkg.gemmTouch (k : Pkg) (c : Nat) (x : Cmd) : List Nat :=
  let a := k.operand c x 16
  let b := k.operand c x 24
  let ci := k.operand c x 40
  let m := x.f 48 2
  let n := x.f 50 2
  let kk := x.f 52 2
  let grid (t : Tensor) (r s : Nat) : List Nat :=
    (List.range r).flatMap (fun i => (List.range s).flatMap (fun j => t.d.touch t.data (t.d.mat i j)))
  x.trefs.flatMap (fun o => (List.range 32).map (fun i => trefDesc (x.f o 8) + i))
    ++ grid a m kk ++ grid b kk n ++ (if x.acc then grid ci m n else [])

/-- The lines of C that the output blocks `lo ≤ block < hi`, in block-row order, write: each line's storage index and the
values along storage dimension 0. -/
def blockRows (m n bi bj : Nat) (transposed : Bool) (val : Nat → Nat → Num) : List (List Nat × Nat × List Num) :=
  let is := (List.range (min 32 (m - 32 * bi))).map (fun r => 32 * bi + r)
  let js := (List.range (min 32 (n - 32 * bj))).map (fun r => 32 * bj + r)
  if transposed then js.map (fun j => ([0, j, 0, 0, 0, 0], 32 * bi, is.map (fun i => val i j)))
  else is.map (fun i => ([0, i, 0, 0, 0, 0], 32 * bj, js.map (fun j => val i j)))

/-- Write a run of values along storage dimension 0 from a position; an MX block is padded with +0 (R110). -/
def Tensor.putRun (t : Tensor) (sat : Bool) (m : Memory) (s : List Nat) (from_ : Nat) (xs : List Num) : Memory × Nat :=
  if t.d.fmt.mx then
    let (sc, es, g) := t.d.fmt.encodeBlock (xs ++ List.replicate (32 - xs.length) .zero)
    let m := (es.zip (List.range 32)).foldl (fun m p => t.d.putBits m t.data ((from_ + p.2) :: s.tail) p.1) m
    (Memory.write m (t.d.scaleAt t.data (from_ :: s.tail)) (BitVec.ofNat 8 sc), g)
  else
    (xs.zip (List.range xs.length)).foldl (fun (acc : Memory × Nat) p =>
      let (v, g) := t.d.fmt.encode sat p.1
      (t.d.putBits acc.1 t.data ((from_ + p.2) :: s.tail) v, acc.2 ||| g)) (m, 0)

/-- Compute and write the first `blocks` output blocks of C in block-row order (R150). -/
def Pkg.gemmWrite (k : Pkg) (c : Nat) (a b o : Tensor) (cin : Option Tensor) (m n kk : Nat) (sat : Bool) (blocks : Nat) : Pkg :=
  let m0 := (k.core c).ls
  let nb := (n + 31) / 32
  let (mem, fl, wr) := (List.range blocks).foldl (fun (acc : Memory × Nat × List Nat) t =>
    let rows := blockRows m n (t / nb) (t % nb) o.d.transposed (fun i j => (gemmElem m0 a b cin kk i j).1)
    let fs := (blockRows m n (t / nb) (t % nb) o.d.transposed (fun i j => .fin false (gemmElem m0 a b cin kk i j).2 0)).foldl
      (fun f r => r.2.2.foldl (fun f v => f ||| (match v with | .fin _ x _ => x | _ => 0)) f) 0
    rows.foldl (fun (acc : Memory × Nat × List Nat) r =>
      let (mem, g) := o.putRun sat acc.1 r.1 r.2.1 r.2.2
      let len := if o.d.fmt.mx then 32 else r.2.2.length
      (mem, acc.2.1 ||| g, acc.2.2 ++ (List.range len).flatMap (fun i => o.d.touch o.data ((r.2.1 + i) :: r.1.tail))))
      (acc.1, acc.2.1 ||| fs, acc.2.2)) (m0, 0, [])
  (k.lsStore c mem wr).fpFlags c fl

/-- GEMM in a core's local store. `fail` is the step whose residue check fails, if one does (R995); earlier output
blocks stay written. -/
def Pkg.gemm (k : Pkg) (c : Nat) (x : Cmd) (fail : Option Nat) : Pkg × Option Bad :=
  match k.gemmCheck c x with
  | some st => (k, some { status := st })
  | none =>
    match k.lsRead c (k.gemmTouch c x) with
    | (k, some b) => (k, some b)
    | (k, none) =>
      let m := x.f 48 2
      let n := x.f 50 2
      let kk := x.f 52 2
      let per := (kk + 31) / 32
      let total := (m + 31) / 32 * ((n + 31) / 32)
      let cin := if x.acc then some (k.operand c x 40) else none
      let run (k : Pkg) (blocks : Nat) : Pkg :=
        k.gemmWrite c (k.operand c x 16) (k.operand c x 24) (k.operand c x 32) cin m n kk x.sat blocks
      match fail with
      | some st =>
        if st < total * per then ((run k (st / per)).addWrap (F.CORE_ME_STEPS c) st, some { status := 0x5102 })
        else ((run k total).addWrap (F.CORE_ME_STEPS c) (total * per), none)
      | none => ((run k total).addWrap (F.CORE_ME_STEPS c) (total * per), none)

/-! ### VEC (R113–R117, R152, R153, R990, R996) -/

/-- The elements of a tensor along one storage line of Z, broadcast where its extent is 1 (R152). -/
def bcast (d : Desc) (a : List Nat) : List Nat :=
  d.storage ((List.range 6).map (fun i => if d.logical i = 1 then 0 else a.getD i 0))

/-- R152: the operand's logical extents equal the output's, or are 1. -/
def extentsFit (d z : Desc) : Bool := (List.range 6).all (fun i => d.logical i == z.logical i || d.logical i == 1)

/-- Value of an elementwise operation (Table 4-8). -/
def vecOp (op : Nat) (x y w imm : Num) : Num × Nat :=
  match op with
  | 0x01 => add32 x y
  | 0x02 => sub32 x y
  | 0x03 => mul32 x y
  | 0x04 => fma32 x y w
  | 0x06 => (minNum x y, 0)
  | 0x07 => (maxNum x y, 0)
  | 0x08 => if x == .nan || y == .nan then (.nan, 0) else if x.lt y then (.zero, 0) else (.one false, 0)
  | 0x09 => if w.isZero then (y, 0) else (x, 0)
  | 0x0B =>
    let (v, f) := mul32 x imm
    (v, if imm == .nan then f ||| fNanIn else f)
  | _ => (x, 0)

/-- Is the operation a reduction along AXIS. -/
def isReduction (op : Nat) : Bool := decide (0x10 ≤ op)

/-- Storage lines of a tensor: the index of each line's first element. -/
def Desc.allLines (d : Desc) : List (List Nat) :=
  (indices [d.e 1, d.e 2, d.e 3, d.e 4, d.e 5]).map (fun r => 0 :: r)

/-- The logical index of a storage index: TRANSPOSED swaps the first two both ways. -/
def Desc.logicalOf (d : Desc) (s : List Nat) : List Nat := d.storage s

/-- Y is used by an operation. -/
def usesY (op : Nat) : Bool := [1, 2, 3, 4, 6, 7, 8, 9].contains op
/-- W is used by an operation. -/
def usesW (op : Nat) : Bool := [4, 9].contains op

/-- A write into Z may coincide with an input exactly when formats and descriptors are the same (R153). -/
def sameTensor (a b : Tensor) : Bool := a == b

/-- The checks of a VEC that need its descriptors. -/
def Pkg.vecCheck (k : Pkg) (c : Nat) (x : Cmd) : Option Status :=
  match k.descChecks c x (fun _ d => d.fmt.int && x.f 48 2 != 0x0A) with
  | some st => some st
  | none =>
    let op := x.f 48 2
    let tx := k.operand c x 16
    let tz := k.operand c x 24
    let ins := [tx] ++ (if usesY op then [k.operand c x 32] else []) ++ (if usesW op then [k.operand c x 40] else [])
    let axis := x.f 50 1
    let fits := if isReduction op then
        (List.range 6).all (fun i => if i = axis then tz.d.logical i == 1 else tx.d.logical i == tz.d.logical i)
      else ins.all (fun t => extentsFit t.d tz.d)
    let rd := (ins.filter (fun t => isReduction op || !sameTensor t tz)).map (fun t => t.d.footprint t.data)
      ++ x.trefs.map (fun o => (trefDesc (x.f o 8), 32))
    firstBad [
      (!fits && decide (axis < 6), 0x3105),
      (decide (5 < axis), 0x3109),
      ((tz :: ins).any (fun t => !t.inRange), 0x3104),
      (setsMeet rd [tz.d.footprint tz.data], 0x310C)]

/-- The input list of a reduction at an output position. -/
def Pkg.axisList (k : Pkg) (c : Nat) (t : Tensor) (axis : Nat) (a : List Nat) : List (Num × Nat) :=
  (List.range (t.d.logical axis)).map (fun i => t.d.elem (k.core c).ls t.data (t.d.storage (a.set axis i)))

/-- A reduction of Table 4-8 (R116, R117). -/
def reduceOp (op : Nat) (xs : List Num) : Num × Nat :=
  match op with
  | 0x10 => reduceTree add32 .zero xs
  | 0x11 => reduceTree (fun a b => (maxNum a b, 0)) (.inf true) xs
  | 0x12 => reduceTree (fun a b => (minNum a b, 0)) (.inf false) xs
  | _ =>
    let sq := xs.map (fun v => mul32 v v)
    let (t, f) := reduceTree add32 .zero (sq.map Prod.fst)
    (t, sq.foldl (fun f p => f ||| p.2) f)

/-- The value of Z at a logical index. -/
def Pkg.vecAt (k : Pkg) (c : Nat) (x : Cmd) (a : List Nat) : Num × Nat :=
  let m := (k.core c).ls
  let op := x.f 48 2
  let get (off : Nat) : Num × Nat :=
    let t := k.operand c x off
    t.d.elem m t.data (bcast t.d a)
  if isReduction op then
    let xs := k.axisList c (k.operand c x 16) (x.f 50 1) a
    let (v, f) := reduceOp op (xs.map Prod.fst)
    (v, xs.foldl (fun f p => f ||| p.2) f)
  else
    let (vx, fx) := get 16
    let (vy, fy) := if usesY op then get 32 else (.zero, 0)
    let (vw, fw) := if usesW op then get 40 else (.zero, 0)
    let (v, f) := vecOp op vx vy vw (fp32.decode (x.f 52 4))
    (v, f ||| fx ||| fy ||| fw)

/-- Bytes of local store an elementwise or reduction command reads. -/
def Pkg.vecTouch (k : Pkg) (c : Nat) (x : Cmd) : List Nat :=
  x.trefs.flatMap (fun o => (List.range 32).map (fun i => trefDesc (x.f o 8) + i)) ++
  (trefReads x.op (x.f 48 2) false false).flatMap (fun o =>
    let t := k.operand c x o
    (indices ((List.range 6).map t.d.e)).flatMap (fun s => t.d.touch t.data s))

/-- Write every element of Z from a function of its logical index. -/
def Pkg.putTensor (k : Pkg) (c : Nat) (t : Tensor) (sat : Bool) (val : List Nat → Num × Nat) : Pkg :=
  let lines := t.d.allLines.map (fun s => (s, (List.range (t.d.e 0)).map (fun i => val (t.d.logicalOf (i :: s.tail)))))
  let fl := lines.foldl (fun f l => l.2.foldl (fun f p => f ||| p.2) f) 0
  (k.putLines c t sat (lines.map (fun l => (l.1, l.2.map Prod.fst)))).fpFlags c fl

/-- Write every element of a tensor as raw bits of a logical index. -/
def Pkg.putRaw (k : Pkg) (c : Nat) (t : Tensor) (val : List Nat → Nat) : Pkg :=
  let all := t.d.allLines.flatMap (fun s => (List.range (t.d.e 0)).map (fun i => i :: s.tail))
  let m := all.foldl (fun m s => t.d.putBits m t.data s (val (t.d.logicalOf s))) (k.core c).ls
  k.lsStore c m (all.flatMap (fun s => t.d.elemBytes t.data s))

/-- VEC in a core's local store. -/
def Pkg.vec (k : Pkg) (c : Nat) (x : Cmd) : Pkg × Option Bad :=
  match k.vecCheck c x with
  | some st => (k, some { status := st })
  | none =>
    match k.lsRead c (k.vecTouch c x) with
    | (k, some b) => (k, some b)
    | (k, none) =>
      let z := k.operand c x 24
      let m := (k.core c).ls
      let tx := k.operand c x 16
      let ty := k.operand c x 32
      let tw := k.operand c x 40
      if x.f 48 2 = 9 ∧ tx.d.format = z.d.format ∧ ty.d.format = z.d.format ∧ z.d.fmt.mx = false then
        (k.putRaw c z (fun a =>
          let sel := (tw.d.elem m tw.data (bcast tw.d a)).1
          if sel.isZero then ty.d.elemBits m ty.data (bcast ty.d a) else tx.d.elemBits m tx.data (bcast tx.d a)), none)
      else (k.putTensor c z x.sat (k.vecAt c x), none)

/-- The checks of a TRANS that need its descriptors. -/
def Pkg.transCheck (k : Pkg) (c : Nat) (x : Cmd) : Option Status :=
  match k.descChecks c x (fun _ d => d.fmt.int) with
  | some st => some st
  | none =>
    let tx := k.operand c x 16
    let tz := k.operand c x 24
    let rd := (if sameTensor tx tz then [] else [tx.d.footprint tx.data]) ++ x.trefs.map (fun o => (trefDesc (x.f o 8), 32))
    firstBad [
      (!extentsFit tx.d tz.d, 0x3105),
      (!tx.inRange || !tz.inRange, 0x3104),
      (setsMeet rd [tz.d.footprint tz.data], 0x310C)]

/-- TRANS in a core's local store (R118): the input is round(x × PRESCALE). -/
def Pkg.trans (k : Pkg) (c : Nat) (x : Cmd) : Pkg × Option Bad :=
  match k.transCheck c x with
  | some st => (k, some { status := st })
  | none =>
    match k.lsRead c (k.vecTouch c x) with
    | (k, some b) => (k, some b)
    | (k, none) =>
      let tx := k.operand c x 16
      let m := (k.core c).ls
      (k.putTensor c (k.operand c x 24) x.sat (fun a =>
        let (v, f) := tx.d.elem m tx.data (bcast tx.d a)
        let (w, g) := mul32 v (fp32.decode (x.f 36 4))
        let (r, h) := transc (x.f 32 1) w
        (r, f ||| g ||| h)), none)

/-! ### LAYOUT (R220–R222) -/

/-- The checks of a LAYOUT. -/
def Pkg.layoutCheck (k : Pkg) (c : Nat) (x : Cmd) : Option Status :=
  match k.descChecks c x (fun _ _ => false) with
  | some st => some st
  | none =>
    let a := k.operand c x 16
    let b := k.operand c x 24
    let inPlace := a.data == b.data
    let same := { a.d with sel := 0, cols := 0, rows := 0 } == { b.d with sel := 0, cols := 0, rows := 0 }
    let rd := (if inPlace then [] else [a.d.footprint a.data]) ++ x.trefs.map (fun o => (trefDesc (x.f o 8), 32))
    firstBad [
      (a.d.format != b.d.format || (List.range 6).any (fun i => a.d.logical i != b.d.logical i)
        || (a.d.transposed != b.d.transposed && a.d.fmt.mx) || (inPlace && !same), 0x3105),
      (!a.inRange || !b.inRange, 0x3104),
      (setsMeet rd [b.d.footprint b.data], 0x310C)]

/-- LAYOUT: every element, and every MX scale byte, goes to the same logical index. -/
def Pkg.layout (k : Pkg) (c : Nat) (x : Cmd) : Pkg × Option Bad :=
  match k.layoutCheck c x with
  | some st => (k, some { status := st })
  | none =>
    match k.lsRead c (k.vecTouch c x) with
    | (k, some b) => (k, some b)
    | (k, none) =>
      let a := k.operand c x 16
      let b := k.operand c x 24
      let m := (k.core c).ls
      let k := k.putRaw c b (fun i => a.d.elemBits m a.data (a.d.storage i))
      if a.d.fmt.mx then
        let heads := b.d.allLines.flatMap (fun s => (List.range (b.d.e 0 / 32)).map (fun i => (32 * i) :: s.tail))
        let mm := heads.foldl (fun mm s => Memory.write mm (b.d.scaleAt b.data s) (Memory.read m (a.d.scaleAt a.data s))) (k.core c).ls
        (k.lsStore c mm (heads.map (fun s => b.d.scaleAt b.data s)), none)
      else (k, none)

end Sys2Proof.Machine
end

