-- ==== Sys2Proof/Machine/Braid.lean ====
section
/-! DEFINITION. The geometry of the braid and the hall rings: strides, links, peers, the cable map (R379–R395,
R549–R553), the link maps (R425, R571) and the choice of routes and ring legs (R428–R432, R451, R558–R565). -/

namespace Sys2Proof.Machine

/-- Strand strides of Table 9-1. -/
def stride (s : Nat) : Nat := [1, 5, 7, 13, 17, 25, 29, 35].getD s 0

/-- The link number of braid port `n` of package `i` (R379, R380). -/
def linkNumber (i n : Nat) : Nat :=
  let s := n / 2
  if n % 2 = 0 then 72 * s + i else 72 * s + (i + 72 - stride s) % 72

/-- Row and position of a rack ID (R549). -/
def rackRow (r : Nat) : Nat := r / 64 % 32
/-- Position of a rack in its row (R549). -/
def rackPos (r : Nat) : Nat := r % 64

/-- The listed racks of rack `r`'s row ring (`row = true`) or hall ring, as positions or rows in increasing order
(R550). -/
def ringMembers (l : Lineup) (row : Bool) (r : Nat) : List Nat :=
  if row then (List.range 64).filter (fun x => l.racks.any (fun e => e.id == rackRow r * 64 + x))
  else (List.range 32).filter (fun y => l.racks.any (fun e => e.id == y * 64 + rackPos r))

/-- The rack ID at index `v` of a ring of rack `r`. -/
def ringRack (row : Bool) (r v : Nat) : Nat := if row then rackRow r * 64 + v else v * 64 + rackPos r

/-- Where rack `r` stands in its ring. -/
def ringSelf (row : Bool) (r : Nat) : Nat := if row then rackPos r else rackRow r

/-- The next member of a ring after `v`, wrapping. -/
def ringNext (members : List Nat) (v : Nat) : Nat :=
  (members.find? (fun m => decide (v < m))).getD (members.headD v)

/-- The previous member of a ring before `v`, wrapping. -/
def ringPrev (members : List Nat) (v : Nat) : Nat :=
  (members.reverse.find? (fun m => decide (m < v))).getD (members.getLastD v)

/-- The expected peer of a port: rack, package and port (R394, R551); none when the port has no peer (R552). -/
def expectedPeer (l : Lineup) (rack pkg port : Nat) : Option (Nat × Nat × Nat) :=
  if port < 16 then
    let s := port / 2
    if port % 2 = 0 then some (rack, (pkg + stride s) % 72, port + 1)
    else some (rack, (pkg + 72 - stride s) % 72, port - 1)
  else
    let row := decide (port < 18)
    let ms := ringMembers l row rack
    if ms.length < 2 then none
    else
      let v := ringSelf row rack
      let v' := if port % 2 = 0 then ringNext ms v else ringPrev ms v
      some (ringRack row rack v', pkg, if port % 2 = 0 then port + 1 else port - 1)

/-- A cable-map entry (R395). -/
def cableEntry : Option (Nat × Nat × Nat) → Nat
  | none => 0
  | some (r, p, f) => r * 2 ^ 21 + p * 2 ^ 14 + f * 2 ^ 9 + 1

/-- The canonical cable map of a rack: 1,440 entries of 4 bytes (R395, R648). -/
def cableMap (l : Lineup) (rack : Nat) : Bytes :=
  ((List.range 72).flatMap (fun p => (List.range 20).map (fun f => cableEntry (expectedPeer l rack p f)))).flatMap
    (fun e => leBytes 4 e)

/-- The first 32 bits of a digest, most significant byte first as digests are shown. -/
def digest32 (d : Bytes) : Nat := (d.take 4).foldl (fun v b => v * 256 + b.toNat) 0

/-- A peer identity word (Table 9-4). -/
def identityWord (rack pkg port digest : Nat) : Nat :=
  rack * 2 ^ 53 + pkg * 2 ^ 46 + port * 2 ^ 41 + digest

/-- The identity word this package sends on a port (R393). -/
def Pkg.ownIdentity (k : Pkg) (port : Nat) : Nat :=
  identityWord k.rack k.id port (k.getF F.LUP_STRUCT32)

/-! ### Maps -/

/-- Link `n` is mapped out (R425). -/
def Pkg.linkOut (k : Pkg) (n : Nat) : Bool := bit (k.getF (F.LNK_MAP (n / 64))) (n % 64)

/-- Set or clear bit `n` of a number. -/
def putBit (v n : Nat) (b : Bool) : Nat :=
  if bit v n then (if b then v else v - 2 ^ n) else (if b then v + 2 ^ n else v)

/-- Map a braid link out or in. -/
def Pkg.setLinkOut (k : Pkg) (n : Nat) (out : Bool) : Pkg :=
  k.setF (F.LNK_MAP (n / 64)) (putBit (k.getF (F.LNK_MAP (n / 64))) (n % 64) out)

/-- A ring link of this plane is mapped out (R571). -/
def Pkg.ringOut (k : Pkg) (row : Bool) (i : Nat) : Bool :=
  if row then bit (k.getF F.LNK_ROW_MAP) i else bit (k.getF F.LNK_HRING_MAP) i

/-- Map a ring link out or in. -/
def Pkg.setRingOut (k : Pkg) (row : Bool) (i : Nat) (out : Bool) : Pkg :=
  if row then k.setF F.LNK_ROW_MAP (putBit (k.getF F.LNK_ROW_MAP) i out)
  else k.setF F.LNK_HRING_MAP (putBit (k.getF F.LNK_HRING_MAP) i out)

/-- The ring link index of a hall port (R553). -/
def Pkg.ringLink (k : Pkg) (l : Lineup) (port : Nat) : Nat :=
  let row := decide (port < 18)
  let v := ringSelf row k.rack
  if port % 2 = 0 then v else ringPrev (ringMembers l row k.rack) v

/-! ### Route words (Table 9-7) -/

/-- Hop codes of a route word, in order. -/
def routeHops (rw : Nat) : List Nat :=
  if bit rw 13 then List.replicate (bits rw 12 6) (bits rw 3 0)
  else [bits rw 3 0, bits rw 7 4, bits rw 11 8].take (bits rw 15 14)

/-- The port a hop code leaves by. -/
def hopPort (h : Nat) : Nat := 2 * (h % 8) + (if bit h 3 then 1 else 0)

/-- The package a hop leads to. -/
def hopNext (i h : Nat) : Nat :=
  if bit h 3 then (i + 72 - stride (h % 8)) % 72 else (i + stride (h % 8)) % 72

/-- The links a list of hops crosses from package `i`. -/
def hopLinks (i : Nat) : List Nat → List Nat
  | [] => []
  | h :: hs => linkNumber i (hopPort h) :: hopLinks (hopNext i h) hs

/-- The package a list of hops ends at. -/
def hopsEnd (i : Nat) (hs : List Nat) : Nat := hs.foldl hopNext i

/-- No link of the route is mapped out. -/
def Pkg.routeClear (k : Pkg) (hops : List Nat) : Bool := (hopLinks k.id hops).all (fun n => !k.linkOut n)

/-- Candidate `c` of a difference's entry in the route table (R428). -/
def Pkg.candidate (k : Pkg) (d c : Nat) : Nat :=
  match k.lup.active with
  | some l => bits (l.routes.getD d 0) (16 * c + 15) (16 * c)
  | none => 0

/-- A candidate that is not empty and crosses no mapped-out link. -/
def Pkg.candidateClear (k : Pkg) (d c : Nat) : Bool :=
  k.candidate d c != 0 && k.routeClear (routeHops (k.candidate d c))

/-- Hops along strand `s` in the next direction that reach difference `d`. -/
def strandHops (s d : Nat) : Nat := ((List.range 72).find? (fun n => n * stride s % 72 == d)).getD 0

/-- The line route along strand `s`, if it is clear in one direction: fewer hops, next when equal (R431). -/
def Pkg.lineOn (k : Pkg) (d s : Nat) : Option Nat :=
  let n := strandHops s d
  let next := k.routeClear (List.replicate n s)
  let prev := k.routeClear (List.replicate (72 - n) (8 + s))
  let word (hops code : Nat) := 2 ^ 13 + hops * 64 + code
  if next && (!prev || decide (n ≤ 72 - n)) then some (word n s)
  else if prev then some (word (72 - n) (8 + s))
  else none

/-- The route word to another package of the rack (R430, R431); none means NO_ROUTE (R432). In an absorb hold after an error
in the route table, the link map or the slot template, it is a line route (R737). -/
def Pkg.route (k : Pkg) (d : Nat) : Option Nat :=
  match (if k.hold.isSome && k.holdLine then none else (List.range 4).find? (k.candidateClear d)) with
  | some c => some (k.candidate d c)
  | none => (List.range 8).findSome? (k.lineOn d)

/-- The clear candidates among those a channel's spread mask names, from position `start`, when it names more than one
(R451). -/
def Pkg.spreadPick (k : Pkg) (d mask start : Nat) : Option Nat :=
  if ((List.range 4).filter (bit mask)).length < 2 then none
  else ((List.range 4).map (fun i => (start + i) % 4)).find? (fun c => bit mask c && k.candidateClear d c)

/-! ### Ring legs (R557–R565) -/

/-- The members crossed by a leg, as the ring links it uses: `n` steps next from `v`, or prev. -/
def ringLinks (members : List Nat) (nextDir : Bool) : Nat → Nat → List Nat
  | _, 0 => []
  | v, n + 1 =>
    if nextDir then v :: ringLinks members nextDir (ringNext members v) n
    else ringPrev members v :: ringLinks members nextDir (ringPrev members v) n

/-- The position of a member in its ring. -/
def ringIndex (members : List Nat) (v : Nat) : Nat := members.findIdx (· == v)

/-- The direction of a ring leg to member `dest` (R558): false next, true prev; none when neither reaches it. -/
def Pkg.legDir (k : Pkg) (l : Lineup) (row : Bool) (dest : Nat) : Option Bool :=
  let ms := ringMembers l row k.rack
  let v := ringSelf row k.rack
  let n := (ringIndex ms dest + ms.length - ringIndex ms v) % ms.length
  let next := (ringLinks ms true v n).all (fun i => !k.ringOut row i)
  let prev := (ringLinks ms false v (ms.length - n)).all (fun i => !k.ringOut row i)
  if next && (!prev || decide (n ≤ ms.length - n)) then some false
  else if prev then some true
  else none

/-- The ring word (Table 12-1). -/
def ringWord (row prev : Bool) : Nat := (if row then 0 else 2 ^ 15) + (if prev then 2 ^ 14 else 0)

/-- The port of a ring leg. -/
def ringPort (row prev : Bool) : Nat := (if row then 16 else 18) + (if prev then 1 else 0)

/-- The level a ring leg travels at from this member: the dateline raises it (R563–R565). -/
def Pkg.ringLevel (k : Pkg) (l : Lineup) (row : Bool) (past : Bool) : Nat :=
  let ms := ringMembers l row k.rack
  (if row then 0 else 2) + (if past || ringSelf row k.rack == ms.headD 0 then 1 else 0)

end Sys2Proof.Machine
end

