-- ==== Sys2Proof/Machine/Fabric.lean ====
section
/-! DEFINITION. The fabric engine's shared operations: packet form and CRC (R437–R443, R556), output queues, marking
and watermarks (R468, R470), throttle (R471, R472), injection, resend and acknowledgement (R449, R479–R482), receive
windows (R484–R489). -/

namespace Sys2Proof.Machine

/-! ### Packet form -/

/-- A data packet (Table 10-4). -/
def isDataType (t : Nat) : Bool := t == 0x10 || t == 0x11 || t == 0x12
/-- A response type. -/
def isResponseType (t : Nat) : Bool := t == 0x12 || t == 0x40
/-- A sequenced type. -/
def isSequencedType (t : Nat) : Bool := !(t == 0x12 || t == 0x40 || t == 0x43)
/-- A known type. -/
def isKnownType (t : Nat) : Bool := isDataType t || (decide (0x40 ≤ t) && decide (t ≤ 0x4D))

/-- The slot of a packet: `PK_STREAM` bits 13:12. -/
def Packet.slot (p : Packet) : Nat := bits p.stream 13 12
/-- The stream ID of a packet: `PK_STREAM` bits 11:0. -/
def Packet.sid (p : Packet) : Nat := bits p.stream 11 0
/-- Source rack. -/
def Packet.srcRack (p : Packet) : Nat := bits p.src 17 7
/-- Destination rack. -/
def Packet.dstRack (p : Packet) : Nat := bits p.dst 17 7
/-- Destination package. -/
def Packet.dstPkg (p : Packet) : Nat := bits p.dst 6 0
/-- The packet's class is open (Table 10-9). -/
def Packet.isOpen (p : Packet) : Bool := bit p.vc 3
/-- HALL is set. -/
def Packet.hall (p : Packet) : Bool := bit p.vc 4

/-- Header bytes 0–23 with given `PK_VC`, `PK_ROUTE` and `PK_HOPS`. -/
def Packet.header (p : Packet) (vc route hops : Nat) : Bytes :=
  leBytes 1 p.type ++ leBytes 1 vc ++ leBytes 2 route ++ leBytes 1 hops ++ leBytes 1 p.len ++ leBytes 2 p.stream
    ++ leBytes 4 p.src ++ leBytes 4 p.dst ++ leBytes 4 p.seq ++ leBytes 4 p.born

/-- The 36 body bytes of a control packet. -/
def controlBody (b : Bytes) : Bytes := (b ++ List.replicate 36 0).take 36

/-- The bytes of a packet that follow its 24 common header bytes and precede its CRC. -/
def Packet.rest (p : Packet) : Bytes :=
  if isDataType p.type then leBytes 8 p.addr ++ p.body ++ leBytes 4 p.info else controlBody p.body

/-- The CRC a source computes (R438, R442, R556). -/
def Packet.goodCrc (p : Packet) : Nat :=
  crc32c (p.header (p.vc / 64 * 64) (if p.hall then 0 else p.route) 0 ++ p.rest)

/-- All bytes of a packet on a link. -/
def Packet.bytes (p : Packet) : Bytes := p.header p.vc p.route p.hops ++ p.rest ++ leBytes 4 p.crc

/-- Bytes a packet occupies: 40 plus its payload, or 64 (R437, R442). -/
def Packet.size (p : Packet) : Nat := if isDataType p.type then 40 + p.body.length else 64

/-- Read a packet from its bytes. -/
def Packet.parse (b : Bytes) : Packet :=
  let t := fieldAt b 0 1
  let n := (fieldAt b 5 1 % 32 + 1) * 256
  { type := t, vc := fieldAt b 1 1, route := fieldAt b 2 2, hops := fieldAt b 4 1, len := fieldAt b 5 1,
    stream := fieldAt b 6 2, src := fieldAt b 8 4, dst := fieldAt b 12 4, seq := fieldAt b 16 4, born := fieldAt b 20 4,
    addr := if isDataType t then fieldAt b 24 8 else 0,
    body := if isDataType t then (b.drop 32).take n else (b.drop 24).take 36,
    info := if isDataType t then fieldAt b (32 + n) 4 else 0,
    crc := if isDataType t then fieldAt b (36 + n) 4 else fieldAt b 60 4 }

/-- Bytes of the packet that begins with these header bytes. -/
def parsedSize (b : Bytes) : Nat := if isDataType (fieldAt b 0 1) then 40 + (fieldAt b 5 1 % 32 + 1) * 256 else 64

/-- Do the listed byte ranges (offset, size in the packet) of a control body hold only zero. -/
def zeroRanges (p : Packet) (rs : List (Nat × Nat)) : Bool :=
  rs.all (fun r => ((p.body.drop (r.1 - 24)).take r.2).all (· == 0))

/-- Every reserved field of the packet is zero (Tables 10-1, 10-2, 10-5); the bodies of the other chapters are
checked by their own commands. -/
def Packet.reservedZero (p : Packet) : Bool :=
  !bit p.hops 7 && p.src < 2 ^ 18 && p.dst < 2 ^ 18 &&
  (if isDataType p.type then
    p.info < 2 && p.len < 32 && (p.type == 0x11 || p.addr < 2 ^ 56)
   else p.len == 0 && !((p.type == 0x40 && 2 ≤ fieldAt p.body 8 1) || (p.type == 0x41 && 2 ≤ fieldAt p.body 10 1)) && zeroRanges p (match p.type with
    | 0x40 => [(33, 3), (38, 2), (56, 4)]
    | 0x41 => [(31, 1), (35, 1)]
    | 0x42 => [(26, 2), (32, 28)]
    | 0x43 => [(31, 1), (40, 20)]
    | 0x44 => [(25, 3), (36, 24)]
    | 0x45 => [(39, 21)]
    | 0x46 => [(27, 1), (36, 24)]
    | 0x47 => [(33, 27)]
    | 0x48 => [(33, 27)]
    | 0x4A => [(27, 1), (40, 20)]
    | 0x4B => [(25, 1), (38, 22)]
    | 0x4C => [(26, 2), (58, 2)]
    | _ => []))

/-! ### Output queues -/

/-- Watermark W1 in bytes. -/
def Pkg.w1 (k : Pkg) : Nat := k.getF F.FAB_W1_KIB * 1024
/-- Watermark W2 in bytes. -/
def Pkg.w2 (k : Pkg) : Nat := k.getF F.FAB_W2_KIB * 1024

/-- The fabric state of port `n` (ports above 19 read as an empty port). -/
def Pkg.fport (k : Pkg) (n : Nat) : FabPort := k.fab.ports.toList.getD n {}

/-- Replace the fabric state of port `n`. -/
def Pkg.setFport (k : Pkg) (n : Nat) (f : FabPort) : Pkg :=
  { k with fab := { k.fab with ports := k.fab.ports.setIfInBounds n f } }

/-- Refresh `FAB_PQ` from the queue (R468, R470): injection stops above W2 and resumes below W1. -/
def Pkg.refreshQueue (k : Pkg) (n : Nat) : Pkg :=
  let f := k.fport n
  let held := ((f.queue.filter (fun q => !q.sched)).map (fun q => q.pkt.size)).sum
  let stop := decide (k.w2 < held) || (f.stopped && !decide (held < k.w1))
  let k := k.setF (F.FAB_PQ_BYTES n) held
  let k := k.setF (F.FAB_PQ_ABOVE_W1 n) (if k.w1 < held then 1 else 0)
  let k := k.setF (F.FAB_PQ_ABOVE_W2 n) (if stop then 1 else 0)
  let k := if k.w2 < held then k.raise F.FAB_EV_W2 else k
  k.setFport n { f with stopped := stop }

/-- Add a packet to an output queue; an open-class request joining a queue above W1 is marked CONGESTED (R468). -/
def Pkg.enqueue (k : Pkg) (n : Nat) (q : Queued) : Pkg :=
  let mark := !q.sched && !isResponseType q.pkt.type && decide (k.w1 < k.getF (F.FAB_PQ_BYTES n)) && !bit q.pkt.vc 5
  let k := if mark then k.inc (F.FAB_COUNTS 12) else k
  let q := if mark then { q with pkt := { q.pkt with vc := q.pkt.vc + 32 } } else q
  let f := k.fport n
  let k := k.moveBytes q.pkt.slot q.pkt.size
  (k.setFport n { f with queue := f.queue ++ [q] }).refreshQueue n

/-! ### Throttle (R471, R472) -/

/-- Throttle entry of a destination. -/
def Fabric.throttleOf (f : Fabric) (dst : Nat) : Option Throttle := f.throttle.find? (fun t => t.dst == dst)

/-- Put a throttle entry; a full table of 1,024 drops the entry with the largest R (R472). -/
def Fabric.putThrottle (f : Fabric) (t : Throttle) : Fabric :=
  let rest := f.throttle.filter (fun e => e.dst != t.dst)
  let rest := if rest.length < 1024 then rest else
    let big := (rest.map Throttle.rate).foldl max 0
    match rest.find? (fun e => e.rate == big) with
    | some e => rest.erase e
    | none => rest
  { f with throttle := t :: rest }

/-- An ACK with CE_ECHO from a destination marks it. -/
def Fabric.markThrottle (f : Fabric) (dst : Nat) : Fabric :=
  match f.throttleOf dst with
  | some t => f.putThrottle { t with marked := true }
  | none => f.putThrottle { dst := dst, rate := 16, marked := true, budget := 16 * 6144 }

/-- THROTTLE_UPDATE: the rate and budget of every destination at a volley boundary. -/
def Fabric.throttleVolley (f : Fabric) : Fabric :=
  let ts := f.throttle.map (fun t =>
    let rate := if t.marked then max 1 (t.rate / 2) else if t.rate < 16 then t.rate + 1 else t.rate
    { t with rate := rate, marked := false, budget := min t.budget 0 + (rate * 6144 : Nat) })
  { f with throttle := ts.filter (fun t => t.rate != 16) }

/-- May an open request go to this destination now. -/
def Fabric.mayInject (f : Fabric) (dst : Nat) : Bool :=
  match f.throttleOf dst with
  | some t => decide (0 < t.budget)
  | none => true

/-- Spend a destination's budget. -/
def Fabric.spend (f : Fabric) (dst n : Nat) : Fabric :=
  { f with throttle := f.throttle.map (fun t => if t.dst = dst then { t with budget := t.budget - (n : Int) } else t) }

/-! ### Injection -/

/-- The way out for a packet injected here: route word, port and level; none is NO_ROUTE. A packet to another rack
starts its row or hall leg (R558); one within the rack takes a candidate or a line (R430, R431, R451). -/
def Pkg.wayOut (k : Pkg) (dst mask start : Nat) : Option (Nat × Nat × Nat) :=
  let rackB := bits dst 17 7
  let q := bits dst 6 0
  if rackB ≠ k.rack then
    match k.lup.active with
    | none => none
    | some l =>
      let row := decide (rackPos rackB ≠ rackPos k.rack)
      (k.legDir l row (if row then rackPos rackB else rackRow rackB)).map
        (fun prev => (ringWord row prev, ringPort row prev, k.ringLevel l row false))
  else
    let d := (q + 72 - k.id) % 72
    let rw := match (if mask = 0 then none else k.spreadPick d mask start) with
      | some c => some (k.candidate d c)
      | none => k.route d
    rw.map (fun w => (w, hopPort (bits w 3 0), if bit w 13 && k.id == 0 then 3 else 0))

/-- The way of a ring step on its own ring (R529, R576): one hop on its strand, or a leg in its direction; none when a link
of it is mapped out (R534). -/
def Pkg.viaWay (k : Pkg) (dst via : Nat) : Option (Nat × Nat × Nat) :=
  if via < 16 then
    if k.linkOut (linkNumber k.id via) then none else some (2 ^ 14 + via / 2 + (if via % 2 = 1 then 8 else 0), via, 0)
  else if 20 ≤ via then none
  else match k.lup.active with
    | none => none
    | some l =>
      let row := decide (via < 18)
      let prev := decide (via % 2 = 1)
      let ms := ringMembers l row k.rack
      let v := ringSelf row k.rack
      let dest := ringSelf row (bits dst 17 7)
      let n := (ringIndex ms dest + ms.length - ringIndex ms v) % ms.length
      if (ringLinks ms (!prev) v (if prev then ms.length - n else n)).all (fun i => !k.ringOut row i) then
        some (ringWord row prev, via, k.ringLevel l row false)
      else none

/-- Position of a channel's spread rotation (R451). -/
def Fabric.rotation (f : Fabric) (slot chan : Nat) : Nat :=
  ((f.rotate.find? (fun r => r.1 == slot && r.2.1 == chan)).map (fun r => r.2.2)).getD 0

/-- Next sequence number of a stream (R449). -/
def Fabric.nextSeq (f : Fabric) (slot sid : Nat) : Nat :=
  ((f.streams.find? (fun t => t.slot == slot && t.stream == sid)).map StreamTx.next).getD 0

/-- Advance a stream's sequence number, wrapping at 2³². -/
def Fabric.bumpSeq (f : Fabric) (slot sid : Nat) : Fabric :=
  let n := f.nextSeq slot sid
  { f with streams := { slot := slot, stream := sid, next := (n + 1) % 2 ^ 32 } ::
      f.streams.filter (fun t => !(t.slot == slot && t.stream == sid)) }

/-- The unacknowledged packets of a stream. -/
def Fabric.unackedOf (f : Fabric) (slot sid : Nat) : List Unacked :=
  f.unacked.filter (fun u => u.pkt.slot == slot && u.pkt.sid == sid)

/-- An ATOMIC with FETCH_OLD. -/
def Packet.fetchOld (p : Packet) : Bool := p.type == 0x41 && bit (fieldAt p.body 10 1) 0

/-- R479, R487: room in the stream's window of 4,096 unacknowledged packets, 64 of them ATOMIC with FETCH_OLD. -/
def Fabric.streamRoom (f : Fabric) (p : Packet) : Bool :=
  let us := f.unackedOf p.slot p.sid
  let n := f.nextSeq p.slot p.sid
  us.all (fun u => decide ((2 ^ 32 + n - u.pkt.seq) % 2 ^ 32 < 4096))
    && (!p.fetchOld || decide ((us.filter (fun u => u.pkt.fetchOld)).length < 64))

/-- Loopback: a packet whose destination is this package arrives here at once (port 20). -/
def loopPort : Nat := 20

/-- Put a formed packet on its way: into the output queue of its port, or back to this package. -/
def Pkg.launch (k : Pkg) (p : Packet) (sched : Bool) (chan port : Nat) : Pkg :=
  if port = loopPort then { k with fab := { k.fab with arrived := k.fab.arrived ++ [{ port := loopPort, pkt := p, own := 0, shared := 0 }] } }
  else k.enqueue port { pkt := p, sched := sched, fwd := false, since := k.now, chan := chan }

/-- Send a packet now: choose its route, number it if its type is sequenced, form its CRC and queue it. A route that
does not exist ends the sequence with NO_ROUTE and sends nothing (R432, R562). -/
def Pkg.sendNow (k : Pkg) (o : Outgoing) : Pkg :=
  let slot := o.pkt.slot
  let local_ := decide (o.pkt.dst = k.target)
  let way := if local_ then some (0, loopPort, 0)
    else (o.via.bind (k.viaWay o.pkt.dst)).orElse (fun _ => k.wayOut o.pkt.dst o.spread (k.fab.rotation slot o.chan))
  match way with
  | none => { k with fab := { k.fab with done := k.fab.done ++ [(o.owner, 0x4C01, 0)] } }
  | some (rw, port, level) =>
    let hall := decide (bits o.pkt.dst 17 7 ≠ k.rack)
    let seqd := isSequencedType o.pkt.type
    let p := { o.pkt with
      vc := o.pkt.vc / 128 * 128 + (if hall then 16 else 0) + (if o.sched then 0 else 8)
        + (if isResponseType o.pkt.type then 4 else 0) + level
      route := rw, hops := 0, src := k.target
      seq := if seqd then k.fab.nextSeq slot o.pkt.sid else o.pkt.seq
      born := k.now % 2 ^ 32 }
    let p := { p with crc := p.goodCrc }
    let fab := if seqd then k.fab.bumpSeq slot o.pkt.sid else k.fab
    let fab := if seqd then { fab with unacked := fab.unacked ++ [{ pkt := p, sentAt := k.now, sched := o.sched, chan := o.chan, owner := o.owner }] } else fab
    let fab := if !o.sched && !isResponseType p.type then fab.spend p.dst p.size else fab
    let fab := if o.spread = 0 then fab else
      { fab with rotate := (slot, o.chan, (match k.spreadPick ((bits p.dst 6 0 + 72 - k.id) % 72) o.spread (k.fab.rotation slot o.chan) with
          | some c => (c + 1) % 4 | none => k.fab.rotation slot o.chan)) ::
          fab.rotate.filter (fun r => !(r.1 == slot && r.2.1 == o.chan)) }
    let k := { k with fab := fab }
    let k := k.inc (F.FAB_COUNTS (if o.sched then 0 else 1))
    k.launch p o.sched o.chan port

/-- May the packet be injected now (R470, R471, R479, R490, and R727: no new request from a slot that drains). Responses are never
held (R473). -/
def Pkg.maySend (k : Pkg) (o : Outgoing) : Bool :=
  if isResponseType o.pkt.type then true
  else if o.pkt.type ≠ 0x46 ∧ k.slotClosed o.pkt.slot then false
  else
    let slot := o.pkt.slot
    let quiet := (k.fab.tables.toList.getD slot {}).quietUntil
    (!isSequencedType o.pkt.type || (decide (quiet ≤ k.now) && k.fab.streamRoom o.pkt)) &&
    (o.sched || (k.fab.mayInject o.pkt.dst && (!o.own ||
      (match k.wayOut o.pkt.dst o.spread (k.fab.rotation slot o.chan) with
        | some (_, port, _) => !(k.fport port).stopped
        | none => true))))

/-- Offer a packet to the fabric: sent at once, or held behind earlier held packets until it may go. -/
def Pkg.send (k : Pkg) (o : Outgoing) : Pkg :=
  if k.maySend o && (isResponseType o.pkt.type || !(k.fab.held.any (fun h => h.pkt.slot == o.pkt.slot && h.pkt.sid == o.pkt.sid)))
  then k.sendNow o
  else { k with fab := { k.fab with held := k.fab.held ++ [o] } }

/-- Send every held packet that may go now, in order. -/
def Pkg.releaseHeld (k : Pkg) : Pkg :=
  let hs := k.fab.held
  hs.foldl (fun k o => k.send o) { k with fab := { k.fab with held := [] } }

/-- A control packet of a stream. -/
def controlPacket (type slot sid dst : Nat) (body : Bytes) : Packet :=
  { type := type, stream := slot * 4096 + sid, dst := dst, body := controlBody body }

/-- Send a control packet on the hub's own stream 4,095 of a slot (R445). -/
def Pkg.sendHub (k : Pkg) (type slot dst : Nat) (body : Bytes) (owner : Owner := .none) : Pkg :=
  k.send { pkt := controlPacket type slot 4095 dst body, sched := false, chan := 0, spread := 0, owner := owner, own := false }

/-- The body of an ACK (Table 10-5). -/
def ackBody (seq count status flags stream data : Nat) : Bytes :=
  leBytes 4 seq ++ leBytes 2 count ++ leBytes 2 status ++ leBytes 1 flags ++ leBytes 3 0 ++ leBytes 2 (stream % 2 ^ 14)
    ++ leBytes 2 0 ++ leBytes 16 data

/-- Acknowledge a packet with a status (R486), copying CONGESTED into CE_ECHO (R469). -/
def Pkg.ack (k : Pkg) (p : Packet) (status : Status) (data : Nat := 0) : Pkg :=
  k.send { pkt := controlPacket 0x40 p.slot p.sid p.src
             (ackBody p.seq 1 status (if bit p.vc 5 then 1 else 0) p.stream data),
           sched := false, chan := 0, spread := 0, owner := .none, own := false }

/-- Send to every other package of the rack. -/
def Pkg.sendRack (k : Pkg) (type slot : Nat) (body : Bytes) : Pkg :=
  ((List.range 72).filter (fun p => p != k.id)).foldl (fun k p => k.sendHub type slot (k.rack * 128 + p) body) k

/-- Send a packet again (R480): RESEND set, the same sequence and birth time, a route chosen afresh. -/
def Pkg.resend (k : Pkg) (u : Unacked) : Pkg :=
  let way := if u.pkt.dst = k.target then some (0, loopPort, 0) else k.wayOut u.pkt.dst 0 0
  match way with
  | none => { k with fab := { k.fab with
      unacked := k.fab.unacked.erase u
      done := k.fab.done ++ [(u.owner, 0x4C01, 0)] } }
  | some (rw, port, level) =>
    let p := { u.pkt with
      vc := bits u.pkt.vc 7 7 * 128 + 64 + bits u.pkt.vc 4 4 * 16 + bits u.pkt.vc 3 3 * 8 + level
      route := rw, hops := 0 }
    let p := { p with crc := p.goodCrc }
    let fab := { k.fab with unacked := k.fab.unacked.map (fun v => if v = u then { v with pkt := p, sentAt := k.now } else v) }
    let fab := if u.sched then fab else fab.spend p.dst p.size
    let k := { k with fab := fab }
    ((k.inc (F.FAB_COUNTS 4)).inc (F.FAB_COUNTS (if u.sched then 0 else 1))).launch p u.sched u.chan port

/-! ### Receive windows -/

/-- What the receive window says of a sequenced packet (R485). -/
inductive Claim
  | fresh | duplicate (old : Nat) | inProgress | noWindow
  deriving DecidableEq, Repr

/-- The window of a packet's stream. -/
def Fabric.windowOf (f : Fabric) (p : Packet) : Option RxWindow :=
  f.windows.find? (fun w => w.src == p.src && w.slot == p.slot && w.stream == p.sid)

/-- Replace the window of a packet's stream. -/
def Fabric.putWindow (f : Fabric) (w : RxWindow) : Fabric :=
  { f with windows := w :: f.windows.filter (fun v => !(v.src == w.src && v.slot == w.slot && v.stream == w.stream)) }

/-- Move a window's base to `b`, dropping the claims below it. -/
def RxWindow.moveTo (w : RxWindow) (b : Nat) : RxWindow :=
  { w with base := b, claims := w.claims.filter (fun c => decide ((2 ^ 32 + c.1 - b) % 2 ^ 32 < 4096)) }

/-- Refresh `FAB_WIN`. -/
def Pkg.refreshWindows (k : Pkg) : Pkg :=
  let n := k.fab.windows.length
  (k.setF F.FAB_WIN_USED n).setF F.FAB_WIN_PEAK (max (k.getF F.FAB_WIN_PEAK) n)

/-- RECEIVE_WINDOW_CLAIM (R484, R485, R489): classify a sequenced packet and set its claim when it is new. -/
def Pkg.claim (k : Pkg) (p : Packet) : Pkg × Claim :=
  match k.fab.windowOf p with
  | none =>
    if k.fab.windows.length < 8192 then
      let w : RxWindow :=
        { src := p.src, slot := p.slot, stream := p.sid, base := (4294963201 + p.seq) % 2 ^ 32,
          claims := [(p.seq, false)], olds := [], lastAccept := k.now }
      (({ k with fab := k.fab.putWindow w } : Pkg).refreshWindows, .fresh)
    else ((k.inc (F.FAB_COUNTS 8)).raise F.FAB_EV_WIN_FULL, .noWindow)
  | some w =>
    let d := (2 ^ 32 + p.seq - w.base) % 2 ^ 32
    if 2 ^ 31 ≤ d then (k.inc (F.FAB_COUNTS 3), .duplicate 0)
    else
      let w := if d < 4096 then w else w.moveTo ((4294963201 + p.seq) % 2 ^ 32)
      match w.claims.find? (fun c => c.1 == p.seq) with
      | some (_, true) => (k.inc (F.FAB_COUNTS 3),
          .duplicate (((w.olds.find? (fun o => o.1 == p.seq)).map Prod.snd).getD 0))
      | some (_, false) => (k, .inProgress)
      | none =>
        let w := { w with claims := (p.seq, false) :: w.claims, lastAccept := k.now }
        ({ k with fab := k.fab.putWindow w }, .fresh)

/-- The effect of a claimed packet has completed; an ATOMIC's old value is recorded among the last 64 (R487). -/
def Pkg.claimDone (k : Pkg) (p : Packet) (old : Option Nat) : Pkg :=
  match k.fab.windowOf p with
  | none => k
  | some w => { k with fab := k.fab.putWindow { w with
      claims := w.claims.map (fun c => if c.1 = p.seq then (c.1, true) else c)
      olds := match old with
        | some v => ((p.seq, v) :: w.olds).take 64
        | none => w.olds } }

/-- The effect did not happen: the claim is cleared again (R486). -/
def Pkg.claimUndo (k : Pkg) (p : Packet) : Pkg :=
  match k.fab.windowOf p with
  | none => k
  | some w => { k with fab := k.fab.putWindow { w with claims := w.claims.filter (fun c => c.1 != p.seq) } }

/-! ### Acknowledgements -/

/-- Complete one sequence of a stream (R482): REPLAYED counts as OK. -/
def Fabric.complete (f : Fabric) (dst slot sid seq : Nat) (status : Status) (data : Nat) : Fabric :=
  match f.unacked.find? (fun u => u.pkt.dst == dst && u.pkt.slot == slot && u.pkt.sid == sid && u.pkt.seq == seq) with
  | none => f
  | some u => { f with
      unacked := f.unacked.erase u
      done := f.done ++ [(u.owner, if status = 0x9301 then 0 else status, data)] }

/-- Credits of 256 bytes a packet needs (R465). -/
def Packet.credits (p : Packet) : Nat := (p.size + 255) / 256

/-- Index of an open-class virtual channel in the flow fields: its number with bit 3 removed (Table 10-8). -/
def Packet.flowIndex (p : Packet) : Nat := bits p.vc 4 4 * 8 + bits p.vc 2 0

/-- Add to one entry of a list of 32-bit wrapping counts. -/
def addAt (xs : List Nat) (i n : Nat) : List Nat := xs.set i ((xs.getD i 0 + n) % 2 ^ 32)

/-- A packet leaves its receive buffer: scheduled space is freed, or its credits go back to the sender (R461, R467). -/
def Pkg.freeArrived (k : Pkg) (a : Arrived) : Pkg :=
  let k := { k with fab := { k.fab with arrived := k.fab.arrived.erase a } }
  if a.port = loopPort then k
  else
    let f := k.fport a.port
    let i := a.pkt.flowIndex
    if a.pkt.isOpen then
      k.setFport a.port { f with crGiven := addAt f.crGiven i a.own, shGiven := (f.shGiven + a.shared) % 2 ^ 32
                                 rxOwn := f.rxOwn.set i (f.rxOwn.getD i 0 - a.own) }
    else k.setFport a.port { f with schedRx := f.schedRx - a.pkt.size }

/-- A packet that arrived is taken by its command. -/
def Pkg.take (k : Pkg) (p : Packet) : Pkg :=
  match k.fab.arrived.find? (fun a => a.pkt == p) with
  | some a => k.freeArrived a
  | none => k

/-- R483: the packet has outlived 4,000,000 ticks. -/
def Pkg.expired (k : Pkg) (p : Packet) : Bool :=
  decide (k.getF F.FAB_LIFETIME < (2 ^ 32 + k.now - p.born) % 2 ^ 32)

/-- The checks every received packet passes before its effect (R439, R443, R444, R483): none when it goes on,
otherwise what became of it. -/
def Pkg.screen (k : Pkg) (p : Packet) : Pkg × Bool :=
  let k := k.take p
  if k.expired p then (k.inc (F.FAB_COUNTS 6), false)
  else
  let k := k.inc (F.FAB_COUNTS 2)
  if p.crc ≠ p.goodCrc then (k.inc (F.FAB_COUNTS 7), false)
  else if !isKnownType p.type || !p.reservedZero then (k.ack p 0x3301, false)
  else (k, true)

/-- R734: requests addressed into a scope in reset are answered ABSORBED. LINK_STATE concerns the package, not the slot
it carries (R445). -/
def Pkg.absorbs (k : Pkg) (p : Packet) : Bool :=
  k.hold.isSome || (p.type != 0x46 && bit (k.getF F.RST_SLOT_ABSORB) p.slot)

/-- Take a sequenced packet through the receive window (R485), perform its effect, and acknowledge (R486). The effect
answers the package, its status, and the old value of an atomic. -/
def Pkg.sequenced (k : Pkg) (p : Packet) (effect : Pkg → Pkg × Status × Option Nat) : Pkg :=
  let (k, ok) := k.screen p
  if !ok then k
  else if k.absorbs p then (k.inc (F.RST_COUNTS 6)).ack p 0x2001
  else
    match k.claim p with
    | (k, .duplicate old) => k.ack p 0x9301 old
    | (k, .inProgress) => k
    | (k, .noWindow) => k
    | (k, .fresh) =>
      let (k, status, old) := effect k
      if statusOk status then (k.claimDone p old).ack p status (old.getD 0)
      else (k.claimUndo p).ack p status

end Sys2Proof.Machine
end

