-- ==== Sys2Proof/Machine/Mover.lean ====
section
/-! DEFINITION. The mover (R149, R154–R157, R217–R236, R450, R506) and window operations at their destination
(R440, R505, R507–R513). -/

namespace Sys2Proof.Machine

/-! ### Semaphores (R158–R160, R523) -/

/-- Key of a semaphore. -/
def semKey (slot sem : Nat) : Nat := slot * 4096 + sem
/-- Unlisted semaphores read 0. -/
def semZero (_ : Nat) : Nat := 0
/-- Value of a semaphore. -/
def Pkg.sem (k : Pkg) (slot sem : Nat) : Nat := Sparse.get semZero k.sems (semKey slot sem)
/-- Status a semaphore carries (R523). -/
def Pkg.semSt (k : Pkg) (slot sem : Nat) : Status := Sparse.get semZero k.semStatus (semKey slot sem)

/-- Set a semaphore; calls whose threshold it now reaches join the firing order (R517, R518). -/
def Pkg.setSem (k : Pkg) (slot sem v : Nat) : Pkg :=
  let ready := k.calls.filter (fun d => d.1 == slot && fieldAt d.2.2 6 2 == sem && decide (fieldAt d.2.2 8 4 ≤ v)
    && !k.fireOrder.contains (d.1, d.2.1))
  { k with
    sems := Sparse.set semZero k.sems (semKey slot sem) (v % 2 ^ 32)
    fireOrder := k.fireOrder ++ ready.map (fun d => (d.1, d.2.1)) }

/-- Add to a semaphore, wrapping. -/
def Pkg.semAdd (k : Pkg) (slot sem v : Nat) : Pkg := k.setSem slot sem ((k.sem slot sem + v) % 2 ^ 32)

/-- Set the status a semaphore carries. -/
def Pkg.setSemSt (k : Pkg) (slot sem : Nat) (st : Status) : Pkg :=
  { k with semStatus := Sparse.set semZero k.semStatus (semKey slot sem) st }

/-! ### Reducer arithmetic (R235, R509, R511, Table 11-2) -/

/-- A reducer code valid for a REDUCE packet or scatter-add into a window (R507, R508). -/
def windowReducer (code : Nat) : Bool := [0x81, 0x82, 0x83, 0x91, 0x92, 0x93, 0xA4].contains code

/-- Combine one element: `old` in the window, `new` in the payload. -/
def reduceBits (code old new : Nat) : Nat × Nat :=
  match fmtOf (code / 16) with
  | none => (old, 0)
  | some f =>
    if f.int then ((old + new) % 2 ^ f.width, 0)
    else
      let a := f.decode old
      let b := f.decode new
      let (r, g) := match code % 16 with
        | 1 => add32 a b
        | 2 => (minNum a b, 0)
        | _ => (maxNum a b, 0)
      let (v, h) := f.encode false r
      (v, g ||| h)

/-- Combine byte strings element by element, except at the byte offsets `skip`. -/
def reduceBytes (code : Nat) (old new : Bytes) (skip : List Nat) : Bytes :=
  let w := ((fmtOf (code / 16)).getD fp32).width / 8
  ((List.range (new.length / w)).flatMap (fun i =>
    let o := fieldAt old (w * i) w
    if skip.contains (w * i) then leBytes w o else leBytes w (reduceBits code o (fieldAt new (w * i) w)).1))

/-- The flags that a scatter-add of the mover raises: NAN_IN where an input is NaN, else those of the addition. -/
def reduceFlags (code : Nat) (old new : Bytes) : Nat :=
  match fmtOf (code / 16) with
  | none => 0
  | some f =>
    let w := f.width / 8
    if f.int then 0
    else (List.range (new.length / w)).foldl (fun g i =>
      let o := fieldAt old (w * i) w
      let v := fieldAt new (w * i) w
      g ||| (if f.decode o == .nan || f.decode v == .nan then fNanIn else (reduceBits code o v).2)) 0

/-- Keep the old bytes at the offsets `skip`. -/
def overlay (old new : Bytes) (skip : List Nat) : Bytes :=
  ((old.zip new).zip (List.range new.length)).map (fun p => if skip.contains p.2 then p.1.1 else p.1.2)

/-! ### Window accesses at their destination -/

/-- Write a run into a window: whole or nothing (R440). -/
def Pkg.winPut (k : Pkg) (slot index off : Nat) (r : Requester) (bs : Bytes) (skip : List Nat) : Pkg × Option Bad :=
  match k.windowCheck slot index off bs.length 2 with
  | .error st => (k, some { status := st })
  | .ok (_, va) =>
    match k.xcheck slot r .write (pages bs.length) va bs.length with
    | (k, some b) => (k, some b)
    | (k, none) =>
      if skip.isEmpty then k.vwrite slot r va bs
      else
        match k.xread slot r .write (pages bs.length) va bs.length with
        | (k, _, some b) => (k, some b)
        | (k, old, none) => k.vwrite slot r va (overlay old bs skip)

/-- Reduce a run into a window that is not ORDERED (R511). -/
def Pkg.winReduce (k : Pkg) (slot : Nat) (r : Requester) (va code : Nat) (bs : Bytes) (skip : List Nat) : Pkg × Option Bad :=
  match k.xcheck slot r (.atomic false) (pages bs.length) va bs.length with
  | (k, some b) => (k, some b)
  | (k, none) =>
    match k.xread slot r (.atomic false) (pages bs.length) va bs.length with
    | (k, _, some b) => (k, some b)
    | (k, old, none) => k.xwrite slot r (.atomic false) (pages bs.length) va (reduceBytes code old bs skip)

/-- The payload bytes of a data packet without its PAD units. -/
def Packet.payload (p : Packet) : Bytes := p.body.take (p.body.length - bits p.stream 15 14 * 64)

/-- Bytes of staging in use by ORDERED windows. -/
def Pkg.orderedBytes (k : Pkg) : Nat := (k.staged.map (fun s => s.bytes.length)).sum

/-- Bytes of staging in use, by ORDERED windows and by the contributions that calls hold (R513, R528). -/
def Pkg.stagedBytes (k : Pkg) : Nat :=
  k.orderedBytes + (k.coll.runs.map (fun r => ((r.inbox.filter (fun p => !p.final)).map Piece.size).sum)).sum
    + (k.coll.early.map (fun e => match e.2.2.2 with
      | .step p => p.payload.length
      | _ => 0)).sum

/-- Staging that ORDERED windows may use: the 64 MiB without what `CO_STAGE_CALL` keeps for calls (R513, R658). -/
def Pkg.orderedLimit (k : Pkg) : Nat := 67108864 - (k.lup.active.map (fun l => l.coll.stageCall)).getD 0 * 2 ^ 20

/-- Staging in use, in KiB, rounded up (R512, `COL_STAGE`). -/
def Pkg.stagedKiB (k : Pkg) : Nat := (k.stagedBytes + 1023) / 1024

/-- Refresh `COL_STAGE`. -/
def Pkg.refreshStage (k : Pkg) : Pkg :=
  let n := k.stagedKiB
  (k.setF F.COL_STAGE_USED n).setF F.COL_STAGE_PEAK (max (k.getF F.COL_STAGE_PEAK) n)

/-- The staged contributions of the open round of a unit: the first from each source, in increasing source (R512). -/
def openRound (ss : List Staged) : List Staged :=
  (ss.foldl (fun (acc : List Staged) s => if acc.any (fun x => x.source == s.source) then acc else acc ++ [s]) []).foldr
    (fun s acc =>
      let (lo, hi) := acc.partition (fun x => decide (x.source < s.source))
      lo ++ s :: hi) []

/-- Apply every complete round of a unit (R512); `fuel` bounds the rounds. -/
def Pkg.applyRounds (k : Pkg) (w : Window) (unit : Nat) : Nat → Pkg
  | 0 => k
  | fuel + 1 =>
    let ss := k.staged.filter (fun s => s.slot == w.slot && s.window == w.index && s.unit == unit)
    let round := openRound ss
    if round.length < w.sources then k
    else
      let k := round.foldl (fun k s =>
        (k.winReduce w.slot (.window s.source) (w.base + unit * 64 + s.lead) s.code s.bytes s.skip).1) k
      let k := { k with staged := round.foldl (fun st s => st.erase s) k.staged }
      ((k.inc (F.COL_COUNTS 3)).refreshStage).applyRounds w unit fuel

/-- A contribution cut into the 64-byte units it reaches; a unit with no data gets none. -/
def contributions (slot index off source code : Nat) (bs : Bytes) (skip : List Nat) : List Staged :=
  let first := off / 64
  ((List.range ((off + bs.length + 63) / 64 - first)).map (fun i =>
    let lo := max off (64 * (first + i)) - off
    let hi := min bs.length (64 * (first + i + 1) - off)
    ({ slot := slot, window := index, unit := first + i, source := source, code := code, lead := (off + lo) % 64
       bytes := (bs.drop lo).take (hi - lo)
       skip := (skip.filter (fun j => decide (lo ≤ j) && decide (j < hi))).map (fun j => j - lo) } : Staged))).filter
    (fun s => decide (s.skip.length < s.bytes.length))

/-- A REDUCE into a window (R508, R511–R513): combined at once, or staged for an ORDERED window; STAGE_FULL when the
64 MiB of staging have no room. -/
def Pkg.winContribute (k : Pkg) (slot index off : Nat) (r : Requester) (source code : Nat) (bs : Bytes) (skip : List Nat) :
    Pkg × Option Bad :=
  match k.windowCheck slot index off bs.length 4 with
  | .error st => (k, some { status := st })
  | .ok (w, va) =>
    if !windowReducer code then (k, some { status := 0x3408 })
    else if !bit w.rights 4 then k.winReduce slot r va code bs skip
    else
      match k.xcheck slot r (.atomic false) (pages bs.length) va bs.length with
      | (k, some b) => (k, some b)
      | (k, none) =>
        if 67108864 < k.stagedBytes + bs.length ∨ k.orderedLimit < k.orderedBytes + bs.length then
          ((k.inc (F.COL_COUNTS 4)).raise F.COL_EV_STAGE_FULL, some { status := 0x1401 })
        else
          let units := contributions slot index off source code bs skip
          let k := { k with staged := k.staged ++ units }
          (units.foldl (fun k u => k.applyRounds w u.unit 64) k.refreshStage, none)

/-- The value a WINDOW_OP stores (Table 4-9): 0 ADD, 1 SWAP, 2 CAS, 3 AND, 4 OR. -/
def atomicNew (op size old compare operand : Nat) : Nat :=
  let m := 2 ^ (8 * size)
  match op with
  | 0 => (old + operand) % m
  | 1 => operand % m
  | 2 => if old = compare % m then operand % 2 ^ 64 % m else old
  | 3 => old &&& operand % m
  | _ => old ||| operand % m

/-- A window operation at its destination: the old value (R485). -/
def Pkg.winAtomic (k : Pkg) (slot index off size op compare operand : Nat) (old : Bool) (r : Requester) :
    Pkg × Except Bad Nat :=
  match k.windowCheck slot index off size 4 with
  | .error st => (k, .error { status := st })
  | .ok (_, va) =>
    match k.xcheck slot r (.atomic old) 2 va size with
    | (k, some b) => (k, .error b)
    | (k, none) =>
      match k.xread slot r (.atomic old) 2 va size with
      | (k, _, some b) => (k, .error b)
      | (k, bs, none) =>
        match k.xwrite slot r (.atomic old) 2 va (leBytes size (atomicNew op size (leNat bs) compare operand)) with
        | (k, some b) => (k, .error b)
        | (k, none) => (k, .ok (leNat bs))

/-! ### The mover's addresses and packets -/

/-- SPACE of an address. -/
def addrSpace (v : Nat) : Nat := bits v 63 62
/-- The package a TARGET field names, in TARGET form; SELF is the own package. -/
def Pkg.targetOf (k : Pkg) (v : Nat) : Nat := if bit v 31 then k.target else v % 2 ^ 18
/-- Window index of a WIN address. -/
def addrWin (v : Nat) : Nat := bits v 61 50
/-- Offset of a WIN address. -/
def addrOff (v : Nat) : Nat := bits v 43 0

/-- The partition slot of a physical core. -/
def Pkg.coreSlot (k : Pkg) (c : Nat) : Nat := (k.clusterSlot (c / 16)).getD 0

/-- The channel table entry of a channel of a slot. -/
def Pkg.channel (k : Pkg) (slot chan : Nat) : Channel := ((k.fab.tables.toList.getD slot {}).chans).getD chan {}

/-- Find an issued command of a core. -/
def Pkg.cmd (k : Pkg) (c num : Nat) : Option Cmd :=
  ((k.core c).play.map (fun p => p.cmds.find? (fun x => x.num == num))).join

/-- Change an issued command of a core. -/
def Pkg.updCmd (k : Pkg) (c num : Nat) (f : Cmd → Cmd) : Pkg :=
  k.updCore c (fun x => { x with play := x.play.map (fun p => { p with cmds := p.cmds.map (fun y => if y.num = num then f y else y) }) })

/-- The first non-OK status of a command is the one it ends with. -/
def Cmd.fail (x : Cmd) (b : Bad) : Cmd :=
  if statusOk x.status then { x with status := b.status, info := b.info } else x

/-- Send a packet of a mover command on its channel. -/
def Pkg.sendChan (k : Pkg) (c num slot chan : Nat) (p : Packet) : Pkg :=
  let ch := k.channel slot chan
  let k := k.updCmd c num (fun x => { x with waiting := x.waiting + 1 })
  k.send { pkt := { p with stream := p.stream + slot * 4096 + ch.stream }, sched := !ch.openClass, chan := chan
           spread := ch.spread, owner := .command c num, own := true }

/-- Cut a run into packets of a channel (R450): window offset, bytes and bytes that carry no data. -/
def cutRun (size : Nat) : Nat → Nat → Bytes → List (Nat × Bytes)
  | 0, _, _ => []
  | fuel + 1, off, bs =>
    if bs.isEmpty then [] else (off, bs.take size) :: cutRun size fuel (off + size) (bs.drop size)

/-- A data packet into a window (Tables 10-1, 10-4): the payload is rounded up to 256 bytes, with PAD; a run that does not
begin or end on a 64-byte unit names the bytes that carry no data. -/
def dataPacket (type dst win off code : Nat) (bs : Bytes) (last : Bool) : Packet :=
  let lead := off % 64
  let n := lead + bs.length
  let units := (n + 63) / 64
  let total := (n + 255) / 256 * 256
  { type := type, vc := if last then 128 else 0, len := total / 256 - 1, stream := (total / 64 - units) * 2 ^ 14
    dst := dst, addr := code * 2 ^ 56 + win * 2 ^ 44 + (off - lead)
    body := List.replicate lead 0 ++ bs ++ List.replicate (total - n) 0
    skip := List.range lead ++ (List.range (units * 64 - n)).map (fun i => n + i) }

/-- Packets of a run into a remote window. -/
def Pkg.runPackets (k : Pkg) (slot chan type dst win code off : Nat) (bs : Bytes) : List Packet :=
  let size := ((k.channel slot chan).pktUnits + 1) * 256 - off % 64
  let pieces := cutRun size (bs.length + 1) off bs
  (pieces.zip (List.range pieces.length)).map (fun p =>
    dataPacket type dst win p.1.1 code p.1.2 (decide (p.2 + 1 = pieces.length)))

/-- Send READ_REQs for the 64-byte units of a list of ranges of a remote window (R446), at most 64 KiB each. -/
def Pkg.sendReads (k : Pkg) (c num slot chan dst win : Nat) (ranges : List (Nat × Nat)) : Pkg :=
  ranges.foldl (fun k r =>
    let lo := r.1 / 64 * 64
    let units := (r.1 + r.2 + 63) / 64 - r.1 / 64
    (List.range ((units + 1023) / 1024)).foldl (fun k i =>
      let n := min 1024 (units - 1024 * i)
      let off := lo + 65536 * i
      let tag := 2 ^ 31 + k.nextTag % 2 ^ 31
      let ch := k.channel slot chan
      let k := { k with nextTag := k.nextTag + 1 }
      let k := k.updCmd c num (fun x => { x with fetches := x.fetches ++ [{ tag := tag, target := dst, need := (List.range n).map (fun j => off + 64 * j) }] })
      k.send { pkt := { type := 0x43, stream := slot * 4096 + ch.stream, dst := dst
                        body := controlBody (leBytes 8 (win * 2 ^ 44 + off) ++ leBytes 4 (n * 64) ++ leBytes 4 tag) }
               sched := !ch.openClass, chan := chan, spread := ch.spread, owner := .command c num, own := true }) k) k

/-! ### Block lists (R224–R232, R992) -/

/-- Block columns and rows of a side. -/
def Desc.blockCols (d : Desc) : Nat := if d.cols = 15 then d.e 0 else 2 ^ d.cols
/-- Block rows. -/
def Desc.blockRows (d : Desc) : Nat := if d.rows = 15 then d.e 1 else 2 ^ d.rows
/-- Block grid along dimensions 0 and 1. -/
def Desc.nb0 (d : Desc) : Nat := (d.e 0 + d.blockCols - 1) / d.blockCols
/-- Block grid along dimension 1. -/
def Desc.nb1 (d : Desc) : Nat := (d.e 1 + d.blockRows - 1) / d.blockRows

/-- Number of blocks. -/
def Desc.blocks (d : Desc) : Nat := d.nb0 * d.nb1 * d.e 2 * d.e 3

/-- Coordinates (c0, c1, c2, c3) of a linear block index. -/
def Desc.blockCoords (d : Desc) (i : Nat) : List Nat :=
  [i % d.nb0, i / d.nb0 % d.nb1, i / (d.nb0 * d.nb1) % d.e 2, i / (d.nb0 * d.nb1 * d.e 2)]

/-- Linear index of block coordinates. -/
def Desc.blockIndex (d : Desc) (c : List Nat) : Nat :=
  ((c.getD 3 0 * d.e 2 + c.getD 2 0) * d.nb1 + c.getD 1 0) * d.nb0 + c.getD 0 0

/-- A parsed block-list entry (Table 5-8). -/
structure BlockEntry where
  coords : List Nat
  pos : Nat
  skip : Bool
  reserved : Bool
  deriving DecidableEq, Repr

/-- Read entry `i` of a block list. -/
def blockEntry (list : Bytes) (i : Nat) : BlockEntry :=
  let b := (list.drop (16 * i)).take 16
  { coords := [fieldAt b 0 2, fieldAt b 2 2, fieldAt b 4 2, fieldAt b 6 2], pos := fieldAt b 8 4
    skip := bit (fieldAt b 12 1) 0, reserved := decide (2 ≤ fieldAt b 12 1) || fieldAt b 13 3 != 0 }

/-- Source and destination block indices of an entry (R225). -/
def entryEnds (gather : Bool) (s d : Desc) (e : BlockEntry) : Nat × Nat :=
  if gather then (s.blockIndex e.coords, e.pos) else (e.pos, d.blockIndex e.coords)

/-- The checks of a list, entry by entry (R227–R230): the first failing entry decides. -/
def checkEntries (gather add : Bool) (s d : Desc) : List BlockEntry → Nat → List Nat → Option Bad
  | [], _, _ => none
  | e :: r, i, seen =>
    if e.reserved then some { status := 0x3101 }
    else if e.skip then checkEntries gather add s d r (i + 1) seen
    else
      let side := if gather then s else d
      let other := if gather then d else s
      let inside := decide (e.coords.getD 0 0 < side.nb0) && decide (e.coords.getD 1 0 < side.nb1)
        && decide (e.coords.getD 2 0 < side.e 2) && decide (e.coords.getD 3 0 < side.e 3) && decide (e.pos < other.blocks)
      if !inside then some { status := 0x3109 }
      else
        let dst := (entryEnds gather s d e).2
        if !gather && !add && seen.contains dst then some { status := 0x310B, info := i }
        else checkEntries gather add s d r (i + 1) (dst :: seen)

/-- Split a byte run so that no piece crosses a 64-byte row on either side, and swizzle each side (R210). -/
def splitRows (ss ds : Nat) : Nat → Nat → Nat → Nat → List (Nat × Nat × Nat)
  | 0, _, _, _ => []
  | fuel + 1, a, b, n =>
    if n = 0 then []
    else
      let m := min n (min (64 - a % 64) (64 - b % 64))
      (swizzle ss a, swizzle ds b, m) :: splitRows ss ds fuel (a + m) (b + m) (n - m)

/-- The byte pieces (source address, destination address, length) of one block transfer (R219, R232, R992). -/
def blockPieces (s d : Desc) (sdata ddata si di : Nat) : List (Nat × Nat × Nat) :=
  let sc := s.blockCoords si
  let dc := d.blockCoords di
  let s0 := sc.getD 0 0 * s.blockCols
  let d0 := dc.getD 0 0 * d.blockCols
  let n0 := min s.blockCols (min (s.e 0 - s0) (d.e 0 - d0))
  let w := s.fmt.width
  (List.range s.blockRows).flatMap (fun r =>
    let s1 := sc.getD 1 0 * s.blockRows + r
    let d1 := dc.getD 1 0 * d.blockRows + r
    if s.e 1 ≤ s1 ∨ d.e 1 ≤ d1 then []
    else
      let sI := [s0, s1, sc.getD 2 0, sc.getD 3 0, 0, 0]
      let dI := [d0, d1, dc.getD 2 0, dc.getD 3 0, 0, 0]
      let bytes := n0 * w / 8
      splitRows s.sel d.sel (bytes + 1) (s.lineAt sdata sI + s0 * w / 8) (d.lineAt ddata dI + d0 * w / 8) bytes ++
      (if s.fmt.mx then (List.range (n0 / 32)).map (fun b =>
        (s.scaleAt sdata ((s0 + 32 * b) :: sI.tail), d.scaleAt ddata ((d0 + 32 * b) :: dI.tail), 1)) else []))

/-! ### Mover commands in two parts: gather the source bytes, then place them -/

/-- The base address of an end in its own space: local offset, virtual address, or window offset. -/
def addrBase (v : Nat) : Nat :=
  match addrSpace v with
  | 0 => bits v 25 0
  | 1 => bits v 55 0
  | _ => addrOff v

/-- Offsets of the SRC_TARGET and DST_TARGET fields, and CHANNEL, by opcode. -/
def Cmd.srcTarget (x : Cmd) : Nat := if x.op = 0x30 then x.f 36 4 else x.f 48 4
/-- DST_TARGET. -/
def Cmd.dstTarget (x : Cmd) : Nat := if x.op = 0x30 then x.f 40 4 else x.f 48 4
/-- CHANNEL. -/
def Cmd.chan (x : Cmd) : Nat :=
  match x.op with
  | 0x30 => x.f 44 2
  | 0x32 => x.f 28 2
  | _ => x.f 52 2

/-- An end of a mover command lies in a window of another package: only then is CHANNEL used (R154). -/
def Pkg.farEnd (k : Pkg) (x : Cmd) : Bool :=
  let far (t : Nat) : Bool := k.targetOf t != k.target
  if x.op == 0x31 || x.op == 0x32 then far (x.f 24 4)
  else (addrSpace (x.f 16 8) == 2 && far x.srcTarget) || (addrSpace (x.f 24 8) == 2 && far x.dstTarget)

/-- Is the command a GATHER or SCATTER. -/
def Cmd.isBlock (x : Cmd) : Bool := x.op == 0x21 || x.op == 0x22
/-- Scatter-add. -/
def Cmd.add (x : Cmd) : Bool := x.op == 0x22 && x.f 54 1 == 1

/-- Source and destination descriptors of a GATHER or SCATTER. -/
def Pkg.blockDescs (k : Pkg) (c : Nat) (x : Cmd) : Desc × Desc :=
  (Desc.parse (k.descAt c (x.f 32 4)), Desc.parse (k.descAt c (x.f 36 4)))

/-- The entries of the command's block list. -/
def Pkg.blockEntries (k : Pkg) (c : Nat) (x : Cmd) : List BlockEntry :=
  let b := Memory.readBytes (k.core c).ls (x.f 40 4) (16 * x.f 44 4)
  (List.range (x.f 44 4)).map (blockEntry b)

/-- The pieces a mover command copies, in order: source address, destination address, length. -/
def Pkg.movePieces (k : Pkg) (c : Nat) (x : Cmd) : List (Nat × Nat × Nat) :=
  let sb := addrBase (x.f 16 8)
  let db := addrBase (x.f 24 8)
  if x.op = 0x30 then [(sb, db, x.f 32 4)]
  else
    let (s, d) := k.blockDescs c x
    ((k.blockEntries c x).filter (fun e => !e.skip)).flatMap (fun e =>
      let (si, di) := entryEnds (x.op == 0x21) s d e
      blockPieces s d sb db si di)

/-- Reducer code of a scatter-add: its format, SUM or IADD. -/
def addCode (format : Nat) : Nat := format * 16 + (if format = 0xA then 4 else 1)

/-- Checks of MOVE, GATHER and SCATTER after the word checks (R991 steps 5–10). -/
def Pkg.moveCheck (k : Pkg) (c : Nat) (x : Cmd) : Option Bad :=
  let src := x.f 16 8
  let dst := x.f 24 8
  let out (base n : Nat) : Bool := decide (lsBytes < base + n)
  let plain (st : Option Status) : Option Bad := st.map (fun s => { status := s })
  if x.op = 0x30 then
    let n := x.f 32 4
    plain (firstBad [
      (n == 0 || n % 64 != 0, 0x3106),
      ((k.farEnd x && decide (1023 < x.chan)), 0x3109),
      ((addrSpace src == 0 && out (addrBase src) n) || (addrSpace dst == 0 && out (addrBase dst) n), 0x3104),
      (addrSpace src == 0 && addrSpace dst == 0 && rangesMeet (addrBase src, n) (addrBase dst, n), 0x310C)])
  else
    match k.descCheck c (x.f 32 4), k.descCheck c (x.f 36 4) with
    | some st, _ => some { status := st }
    | none, some st => some { status := st }
    | none, none =>
      let (s, d) := k.blockDescs c x
      let mxCols := s.fmt.mx && !(s.cols == 15 || (decide (5 ≤ s.cols)))
      let count := x.f 44 4
      match firstBad [
        (s.format != d.format || s.cols != d.cols || s.rows != d.rows || s.e 4 != 1 || s.e 5 != 1 || d.e 4 != 1 || d.e 5 != 1
          || mxCols || (x.add && !(s.format == 8 || s.format == 9 || s.format == 0xA)), 0x3105),
        (count == 0 || decide (65536 < count) || (k.farEnd x && decide (1023 < x.chan)) || (x.op == 0x22 && decide (1 < x.f 54 1)), 0x3109),
        ((addrSpace src == 0 && out (addrBase src) (s.reach (addrBase src)))
          || (addrSpace dst == 0 && out (addrBase dst) (d.reach (addrBase dst))) || out (x.f 40 4) (16 * count), 0x3104)] with
      | some st => some { status := st }
      | none =>
        match checkEntries (x.op == 0x21) x.add s d (k.blockEntries c x) 0 [] with
        | some b => some b
        | none =>
          let wr := if addrSpace dst = 0 then [d.footprint (addrBase dst)] else []
          let rd := (if addrSpace src = 0 then [s.footprint (addrBase src)] else []) ++
            [(x.f 32 4, 32), (x.f 36 4, 32), (x.f 40 4, 16 * count)]
          if setsMeet rd wr then some { status := 0x310C } else none

/-- Local-store bytes a mover command reads beside its source data. -/
def Cmd.listBytes (x : Cmd) : List Nat :=
  if x.isBlock then
    (List.range 32).map (fun i => x.f 32 4 + i) ++ (List.range 32).map (fun i => x.f 36 4 + i)
      ++ (List.range (16 * x.f 44 4)).map (fun i => x.f 40 4 + i)
  else []

/-- Read the source bytes of the pieces that lie in this package into the command's view, up to the first failure; the
number of bytes read is counted. -/
def Pkg.gatherView (k : Pkg) (c : Nat) (x : Cmd) (count : Nat) : List (Nat × Nat × Nat) → Pkg × Memory × Nat × Option Bad
  | [] => (k, x.view, count, none)
  | (a, _, n) :: r =>
    let src := x.f 16 8
    let slot := k.coreSlot c
    let (k, bs, bad) := match addrSpace src with
      | 0 => (match k.lsRead c ((List.range n).map (fun i => a + i)) with
        | (k, some b) => (k, [], some b)
        | (k, none) => (k, Memory.readBytes (k.core c).ls a n, none))
      | 1 => k.vread slot (.mover c) a n
      | _ => (match k.windowCheck slot (addrWin src) a n 1 with
        | .error st => (k, [], some { status := st })
        | .ok (_, va) => k.vread slot (.ownWindow c) va n)
    match bad with
    | some b => (k, Memory.writeBytes x.view a bs, count + bs.length, some b)
    | none => k.gatherView c { x with view := Memory.writeBytes x.view a bs } (count + bs.length) r

/-- Write one run at a destination in this package. -/
def Pkg.placeRun (k : Pkg) (c : Nat) (x : Cmd) (at_ : Nat) (bs : Bytes) : Pkg × Option Bad :=
  let dst := x.f 24 8
  let slot := k.coreSlot c
  let code := addCode (k.blockDescs c x).1.format
  match addrSpace dst with
  | 0 =>
    let m := (k.core c).ls
    let old := Memory.readBytes m at_ bs.length
    let k := if x.add then k.fpFlags c (reduceFlags code old bs) else k
    let bs := if x.add then reduceBytes code old bs [] else bs
    (k.lsStore c (Memory.writeBytes m at_ bs) ((List.range bs.length).map (fun i => at_ + i)), none)
  | 1 =>
    if x.add then
      match k.vread slot (.mover c) at_ bs.length with
      | (k, _, some b) => (k, some b)
      | (k, old, none) => (k.fpFlags c (reduceFlags code old bs)).vwrite slot (.mover c) at_ (reduceBytes code old bs [])
    else k.vwrite slot (.mover c) at_ bs
  | _ =>
    if x.add then k.winContribute slot (addrWin dst) at_ (.ownWindow c) k.target code bs []
    else
      match k.windowCheck slot (addrWin dst) at_ bs.length 2 with
      | .error st => (k, some { status := st })
      | .ok (_, va) => k.vwrite slot (.ownWindow c) va bs

/-- Does a packet reach bytes that an earlier packet of the list reaches. -/
def packetsMeet (ps : List Packet) (p : Packet) : Bool :=
  ps.any (fun q => rangesMeet (q.addr % 2 ^ 44, q.body.length) (p.addr % 2 ^ 44, p.body.length))

/-- Send the packets of a command up to the first that meets an earlier one; the rest wait for its acknowledgement. -/
def Pkg.sendPrefix (k : Pkg) (c num slot chan : Nat) : List Packet → List Packet → Pkg × List Packet
  | _, [] => (k, [])
  | sent, p :: r =>
    if packetsMeet sent p then (k, p :: r)
    else (k.sendChan c num slot chan p).sendPrefix c num slot chan (p :: sent) r

/-- Bytes the mover moves into or out of local store (`CORE_MOV_BYTES`). -/
def Cmd.lsEnds (x : Cmd) : Nat :=
  (if addrSpace (x.f 16 8) = 0 then 1 else 0) + (if addrSpace (x.f 24 8) = 0 then 1 else 0)

/-- Place every piece of a command from its view (the second part of MOVE, GATHER and SCATTER). -/
def Pkg.placeAll (k : Pkg) (c : Nat) (x : Cmd) : Pkg :=
  let ps := k.movePieces c x
  let dst := x.f 24 8
  let slot := k.coreSlot c
  let remote := decide (addrSpace dst = 2 ∧ k.targetOf x.dstTarget ≠ k.target)
  let total := (ps.map (fun p => p.2.2)).sum
  let k := k.addWrap (F.CORE_MOV_BYTES c) (total * x.lsEnds)
  if remote then
    let type := if x.add then 0x11 else 0x10
    let code := if x.add then addCode (k.blockDescs c x).1.format else 0
    let pkts := ps.flatMap (fun p =>
      k.runPackets slot x.chan type (k.targetOf x.dstTarget) (addrWin dst) code p.2.1 (Memory.readBytes x.view p.1 p.2.2))
    let (k, rest) := k.sendPrefix c x.num slot x.chan [] pkts
    k.updCmd c x.num (fun y => { y with released := true, phase := .done, view := []
                                        later := rest.map (fun p => { pkt := p, sched := false, chan := x.chan, spread := 0, owner := .command c x.num, own := true }) })
  else
    let (k, bad) := ps.foldl (fun (acc : Pkg × Option Bad) p =>
      match acc.2 with
      | some _ => acc
      | none => acc.1.placeRun c x p.2.1 (Memory.readBytes x.view p.1 p.2.2)) (k, none)
    k.updCmd c x.num (fun y =>
      let y := { y with released := true, phase := .done, view := [] }
      match bad with
      | some b => y.fail b
      | none => y)

/-- MOVE, GATHER and SCATTER: check, then read the source; when it is remote the command waits for its data. -/
def Pkg.moveStart (k : Pkg) (c : Nat) (x : Cmd) : Pkg :=
  let stop (k : Pkg) (b : Bad) : Pkg := k.updCmd c x.num (fun y => { y.fail b with phase := .done, released := true, view := [] })
  match k.lsRead c x.listBytes with
  | (k, some b) => stop k b
  | (k, none) =>
    match k.moveCheck c x with
    | some b => stop k b
    | none =>
      let ps := k.movePieces c x
      let src := x.f 16 8
      if addrSpace src = 2 ∧ k.targetOf x.srcTarget ≠ k.target then
        k.sendReads c x.num (k.coreSlot c) x.chan (k.targetOf x.srcTarget) (addrWin src) (ps.map (fun p => (p.1, p.2.2)))
      else
        match k.gatherView c x 0 ps with
        | (k, v, _, none) => k.placeAll c { x with view := v }
        | (k, v, n, some b) =>
          -- R263: pages read before a fault have been accessed; a MOVE has placed what it read.
          if x.op = 0x30 then
            let k := if n = 0 ∨ (addrSpace (x.f 24 8) = 2 ∧ k.targetOf x.dstTarget ≠ k.target) then k
              else (k.placeRun c x (addrBase (x.f 24 8)) (Memory.readBytes v (addrBase src) n)).1
            stop k b
          else
            -- Table 5-10: the content of the destination blocks is unspecified.
            let k := if addrSpace (x.f 24 8) = 2 ∧ k.targetOf x.dstTarget ≠ k.target then k
              else ps.foldl (fun k p => (k.placeRun c { x with bytes := x.bytes.set 54 0 } p.2.1 (k.freeBytes p.2.2)).1.draw) k
            stop k b

/-- Checks of WINDOW_OP after the word checks. -/
def Pkg.windowOpCheck (k : Pkg) (x : Cmd) : Option Status :=
  let op := x.f 30 1
  let size := x.f 31 1
  firstBad [
    (decide (4 < op) || !(size == 4 || size == 8 || size == 16) || (op == 2 && size == 16) || (k.farEnd x && decide (1023 < x.chan)), 0x3109),
    (x.flag 6 && decide (lsBytes < bits (x.f 32 8) 25 0 + 16), 0x3104)]

/-- Write a WINDOW_OP's old value to RESULT. -/
def Pkg.putOld (k : Pkg) (c : Nat) (x : Cmd) (old : Nat) : Pkg :=
  if x.flag 6 then
    let a := bits (x.f 32 8) 25 0
    let n := x.f 31 1
    (k.addWrap (F.CORE_MOV_BYTES c) n).lsStore c (Memory.writeBytes (k.core c).ls a (leBytes n old)) ((List.range n).map (fun i => a + i))
  else k

/-- WINDOW_OP: performed here, or sent as an ATOMIC packet (Table 10-5). -/
def Pkg.windowOp (k : Pkg) (c : Nat) (x : Cmd) : Pkg :=
  let stop (k : Pkg) (b : Option Bad) : Pkg := k.updCmd c x.num (fun y =>
    let y := { y with phase := .done, released := true }
    match b with | some b => y.fail b | none => y)
  match k.windowOpCheck x with
  | some st => stop k (some { status := st })
  | none =>
    let a := x.f 16 8
    let t := k.targetOf (x.f 24 4)
    let slot := k.coreSlot c
    let op := x.f 30 1
    let operand := if op = 2 then x.f 48 8 else x.f 48 16
    if t = k.target then
      match k.winAtomic slot (addrWin a) (addrOff a) (x.f 31 1) op (x.f 40 8) operand (x.flag 6) (.ownWindow c) with
      | (k, .error b) => stop k (some b)
      | (k, .ok old) => stop (k.putOld c x old) none
    else
      let body := leBytes 8 (addrWin a * 2 ^ 44 + addrOff a) ++ leBytes 1 op ++ leBytes 1 (x.f 31 1)
        ++ leBytes 1 (if x.flag 6 then 1 else 0) ++ leBytes 1 0 ++ leBytes 8 (x.f 40 8) ++ leBytes 16 operand
      let k := k.sendChan c x.num slot x.chan { type := 0x41, vc := 128, dst := t, body := controlBody body }
      k.updCmd c x.num (fun y => { y with phase := .done, released := !x.flag 6 })

/-! ### TILE stripes (R155–R157) -/

/-- TILE_STRIPE_SEND: the next stripe of a TILE GEMM goes into the peer window. -/
def Pkg.sendStripe (k : Pkg) (c : Nat) (x : Cmd) : Pkg :=
  let tile := x.tile.getD []
  let o := k.operand c x 32
  let m := x.f 48 2
  let s := x.stripes
  let pitch := fieldAt tile 32 4
  let dst := fieldAt tile 16 8
  let t := k.targetOf (fieldAt tile 24 4)
  let slot := k.coreSlot c
  let chan := fieldAt tile 28 2
  let reduce := fieldAt tile 36 1 == 1
  let code := if reduce then addCode o.d.format else 0
  let rows := (List.range (min 32 (m - 32 * s))).map (fun r => 32 * s + r)
  let k := k.updCmd c x.num (fun y => { y with stripes := s + 1, released := decide ((m + 31) / 32 ≤ s + 1) })
  let k := k.addWrap (F.CORE_MOV_BYTES c) (rows.length * o.d.lineBytes)
  rows.foldl (fun k r =>
    let base := o.d.lineAt o.data [0, r, 0, 0, 0, 0]
    let bs := (List.range o.d.lineBytes).map (fun i => Memory.read (k.core c).ls (swizzle o.d.sel (base + i)))
    let off := addrOff dst + r * pitch
    if t = k.target then
      let (k, bad) := if reduce then k.winContribute slot (addrWin dst) off (.ownWindow c) k.target code bs []
        else k.winPut slot (addrWin dst) off (.ownWindow c) bs []
      match bad with
      | some b => k.updCmd c x.num (fun y => y.fail b)
      | none => k
    else
      (k.runPackets slot chan (if reduce then 0x11 else 0x10) t (addrWin dst) code off bs).foldl
        (fun k p => k.sendChan c x.num slot chan p) k) k

/-- Output stripes of a GEMM. -/
def Cmd.stripeCount (x : Cmd) : Nat := (x.f 48 2 + 31) / 32

/-- Post SEM at TARGET once the last stripe has landed (Table 4-9, R547). -/
def Pkg.tilePost (k : Pkg) (c : Nat) (x : Cmd) : Pkg :=
  let tile := x.tile.getD []
  let sem := fieldAt tile 40 2
  let t := k.targetOf (fieldAt tile 24 4)
  let slot := k.coreSlot c
  if sem = 0xFFFF then k
  else if t = k.target then k.semAdd slot sem 1
  else
    let ch := k.channel slot (fieldAt tile 28 2)
    k.send { pkt := controlPacket 0x42 slot ch.stream t (leBytes 2 sem ++ leBytes 2 0 ++ leBytes 4 1), sched := !ch.openClass
             chan := fieldAt tile 28 2, spread := ch.spread, owner := .none, own := true }

/-! ### Completion of a command's packets -/

/-- A sequence of a command has finished (R482, R506, R522): count it, take its status, and for a WINDOW_OP its old
value. ABSORBED becomes PEER_LOST. Packets that waited for earlier ones go on. -/
def Pkg.commandDone (k : Pkg) (c num : Nat) (st : Status) (data : Nat) : Pkg :=
  match k.cmd c num with
  | none => k
  | some x =>
    let st := if statusClass st = 2 then 0x5401 else st
    let k := if x.op = 0x32 ∧ statusOk st then k.putOld c x data else k
    let k := k.updCmd c num (fun y =>
      let y := { y with waiting := y.waiting - 1, released := true }
      if statusOk st then y else y.fail { status := st })
    match k.cmd c num with
    | none => k
    | some y =>
      if y.waiting = 0 ∧ !y.later.isEmpty then
        let k := k.updCmd c num (fun z => { z with later := [] })
        let (k, rest) := k.sendPrefix c num (k.coreSlot c) y.chan [] (y.later.map Outgoing.pkt)
        k.updCmd c num (fun z => { z with later := y.later.drop (y.later.length - rest.length) })
      else k

/-- Settle the finished sequences of mover commands. -/
def Pkg.settleCmds (k : Pkg) : Pkg :=
  let mine := k.fab.done.filter (fun d => match d.1 with | .command _ _ => true | _ => false)
  let k := { k with fab := { k.fab with done := k.fab.done.filter (fun d => match d.1 with | .command _ _ => false | .none => false | _ => true) } }
  mine.foldl (fun k d => match d.1 with
    | .command c n => k.commandDone c n d.2.1 d.2.2
    | _ => k) k

/-- READ_DATA (R446): the first copy of each returned range is kept; with the last, the command places its data. -/
def Pkg.readReturned (k : Pkg) (p : Packet) : Pkg :=
  let hit (x : Cmd) : Bool := x.fetches.any (fun f => f.tag == p.seq && f.target == p.src)
  let found := (List.range 64).findSome? (fun c => ((k.core c).play.map (fun pl => (pl.cmds.find? hit).map (fun x => (c, x)))).join)
  match found with
  | none => k
  | some (c, x) =>
    let off := p.addr % 2 ^ 44
    let bs := p.payload
    let units := (List.range (bs.length / 64)).map (fun i => off + 64 * i)
    let k := if bit p.info 0 then k.updCmd c x.num (fun y => y.fail { status := 0x5302 }) else k
    let k := k.updCmd c x.num (fun y =>
      let f := y.fetches.find? (fun f => f.tag == p.seq)
      let fresh := units.filter (fun u => match f with | some f => f.need.contains u | none => false)
      { y with
        view := fresh.foldl (fun v u => Memory.writeBytes v u ((bs.drop (u - off)).take 64)) y.view
        fetches := (y.fetches.map (fun f => if f.tag = p.seq then { f with need := f.need.filter (fun u => !units.contains u) } else f)).filter
          (fun f => !f.need.isEmpty) })
    match k.cmd c x.num with
    | none => k
    | some y =>
      if !y.fetches.isEmpty then k
      else if statusOk y.status then (k.placeAll c y).settleCmds
      else k.updCmd c x.num (fun z => { z with phase := .done, released := true, view := [] })

/-- A READ_REQ was answered with a status instead of data (log entry 10): its command ends with it. -/
def Pkg.readFailed (k : Pkg) (src tag : Nat) (st : Status) : Pkg :=
  let hit (x : Cmd) : Bool := x.fetches.any (fun f => f.tag == tag && f.target == src)
  match (List.range 64).findSome? (fun c => ((k.core c).play.map (fun pl => (pl.cmds.find? hit).map (fun x => (c, x)))).join) with
  | none => k
  | some (c, x) =>
    let st := if statusClass st = 2 then 0x5401 else st
    k.updCmd c x.num (fun y =>
      let y := { y.fail { status := st } with fetches := y.fetches.filter (fun f => f.tag != tag) }
      if y.fetches.isEmpty then { y with phase := .done, released := true, view := [] } else y)

end Sys2Proof.Machine
end

