-- ==== Sys2Proof/Machine/Sequencer.lean ====
section
/-! DEFINITION. The sequencer (R136–R196): word checks, issue, start, retirement, tokens, hazards, semaphores, barriers,
loops, the shot clock, and what a core reset clears (R739). -/

namespace Sys2Proof.Machine

/-! ### Core reset (R133–R135, R739, R750) -/

/-- Record the cause of a reset (R723, `RST_LAST_CAUSE`), and count it by scope. -/
def Pkg.recordCause (k : Pkg) (cause scope loc unit : Nat) : Pkg :=
  let k := k.setF F.RST_CAUSE cause
  let k := k.setF F.RST_SCOPE scope
  let k := k.setF F.RST_LOCATION loc
  let k := if (1 ≤ scope ∧ scope ≤ 3) ∨ cause = 2 then k.setF F.RST_UNIT unit else (k.setF F.RST_UNIT (k.freeNat 8)).draw
  let k := k.setF F.RST_LAST_HT k.hallTime
  if 1 ≤ scope ∧ scope ≤ 5 then k.inc (F.RST_COUNTS (scope - 1)) else k

/-- Default of the shot clock (R186). -/
def Pkg.shotDefault (k : Pkg) : Nat := match k.lup.active with
  | some l => l.rst.shotClock
  | none => 0

/-- Registers of a core block that a core reset clears (Table 16-3). -/
def coreCleared (rel : Nat) : Bool :=
  (decide (0x28 ≤ rel) && decide (rel < 0x40)) || (decide (0x100 ≤ rel) && decide (rel < 0x220)) ||
    (decide (0x1000 ≤ rel) && decide (rel < 0x5000))

/-- Clear a core's state (Table 16-3, CORE): local store reads zero. -/
def Pkg.clearCore (k : Pkg) (c : Nat) : Pkg :=
  let base := 0x1000000 + c * 0x40000
  let k := { k with
    cores := k.cores.setIfInBounds c {}
    regs := Sparse.keep k.regs (fun o => !(decide (base ≤ o) && decide (o < base + 0x40000) && coreCleared (o - base)))
    arrivals := k.arrivals.filter (fun a => a.who != c)
    announces := k.announces.filter (fun a => a.core != c) }
  (k.setF (F.CORE_LS_UE c) 0).setF (F.CORE_SEQ_SHOT_LIMIT c) k.shotDefault

/-- A core enters reset: its state is cleared and it absorbs; it runs self-test when the cause is a hardware error in it
(R133), and otherwise its local store is zeroed. -/
def Pkg.resetCore (k : Pkg) (c : Nat) (hardware : Bool) : Pkg :=
  let k := k.clearCore c
  let k := { k with coreDown := if k.coreDown.contains c then k.coreDown else c :: k.coreDown }
  if hardware then
    (((k.setF (F.CORE_STATE c) 1).setF (F.CORE_BIST_RESULT c) 3)).inc (F.CORE_BIST_RUNS c)
  else k.setF (F.CORE_STATE c) 4

/-- The logical core a physical core serves, if any. -/
def Pkg.logicalOf (k : Pkg) (c : Nat) : Option Nat :=
  if !bit (k.getF (F.GLB_MAP_ACTIVE (c / 16))) (c % 16) then none
  else (List.range k.logicalCores).find? (fun g => !k.flag (F.GLB_ME_VACANT g) && k.getF (F.GLB_ME_PHYS g) == c)

/-- A physical core is retired. -/
def Pkg.isRetired (k : Pkg) (c : Nat) : Bool := bit (k.getF (F.GLB_MAP_RETIRED (c / 16))) (c % 16)

/-- A core comes out of reset and takes its state from the map (R750); absorb ends. -/
def Pkg.coreOut (k : Pkg) (c : Nat) : Pkg :=
  let k := { k with coreDown := k.coreDown.filter (fun x => x != c) }
  k.setF (F.CORE_STATE c) (if k.isRetired c then 5 else if (k.logicalOf c).isSome then 3 else 2)

/-! ### Plays -/

/-- The running play of a core. -/
def Pkg.play (k : Pkg) (c : Nat) : Option Play := (k.core c).play

/-- Change a core's play. -/
def Pkg.updPlay (k : Pkg) (c : Nat) (f : Play → Play) : Pkg :=
  k.updCore c (fun x => { x with play := x.play.map f })

/-- Refresh the registers that show the sequencer's state. -/
def Pkg.showSeq (k : Pkg) (c : Nat) : Pkg :=
  match k.play c with
  | none => (k.setF (F.CORE_SEQ_RUN c) 0).setF (F.CORE_SEQ_LOOPS c) 0
  | some p =>
    let run := match p.block with
      | some (.sem ..) => 2
      | some (.waitHt _) => 3
      | some (.barrier ..) => 4
      | some (.stop _) => 5
      | _ => if p.stopping then 5 else 1
    let k := k.setF (F.CORE_SEQ_RUN c) run
    let k := k.setF (F.CORE_SEQ_LOOPS c) (((p.loops.zip (List.range 8)).filter (fun l => l.1.1 != 0)).map (fun l => 2 ^ l.2)).sum
    let k := k.setF (F.CORE_SEQ_OLDEST c) ((p.cmds.head?.map Cmd.word).getD (k.getF (F.CORE_SEQ_NEXT c)))
    let mov := (p.cmds.filter (fun x => x.queue == 2 && x.phase != .queued)).length
      + (p.cmds.map (fun x => (x.lanes.map (fun l => l.out.length)).sum)).sum
    let k := k.setF (F.CORE_MOV_NOW c) mov
    let k := k.setF (F.CORE_MOV_PEAK c) (max (k.getF (F.CORE_MOV_PEAK c)) mov)
    k.setF (F.CORE_SEQ_SHOT_NOW c) (min (2 ^ 32 - 1) (p.shotCount k.now))

/-- Latch the first non-OK status of the play (R170, R192, R193). -/
def Pkg.latch (k : Pkg) (c word : Nat) (st info : Nat) : Pkg :=
  let k := k.report (F.CORE_LAST_STATUS c) st .core c info
  if k.flag (F.CORE_SEQ_ERR_VALID c) then k
  else
    let k := k.setF (F.CORE_SEQ_ERR_WORD c) word
    let k := k.setF (F.CORE_SEQ_ERR_STATUS c) st
    let k := k.setF (F.CORE_SEQ_ERR_INFO c) (if statusSub st = 2 ∨ statusSub st = 1 then info else 0)
    k.raise (F.CORE_SEQ_ERR_VALID c)

/-- A status stops the play (R191, R194). -/
def Pkg.stopsPlay (k : Pkg) (c : Nat) (st : Status) : Bool :=
  [3, 6, 7].contains (statusClass st) ||
    (statusSub st == 2 && !statusOk st && k.flag (F.XLT_FAULT_POLICY (k.coreSlot c)))

/-! ### Word checks (R991 steps 1–4) -/

/-- The queue of an opcode (Table 4-4): 0 matrix, 1 vector, 2 mover, 3 sequencer. -/
def queueOf (op : Nat) : Option Nat :=
  if op = 0x01 ∨ op = 0x02 ∨ op = 0x03 then some 0
  else if op = 0x10 ∨ op = 0x11 ∨ op = 0x12 then some 1
  else if op = 0x20 ∨ op = 0x21 ∨ op = 0x22 ∨ op = 0x30 ∨ op = 0x31 ∨ op = 0x32 then some 2
  else if (0x40 ≤ op ∧ op ≤ 0x45) ∨ (0x50 ≤ op ∧ op ≤ 0x52) then some 3
  else none

/-- R147. -/
def badOpcode (b : Bytes) : Bool :=
  let op := fieldAt b 0 1
  (queueOf op).isNone ||
  (op == 0x10 && !(([1, 2, 3, 4, 6, 7, 8, 9, 0x0A, 0x0B, 0x10, 0x11, 0x12, 0x13] : List Nat).contains (fieldAt b 48 2))) ||
  (op == 0x11 && decide (6 < fieldAt b 32 1))

/-- Kinds of address fields in a body. -/
inductive AddrKind
  | tref | addr | local_ (align : Nat) | win (align : Nat) | target | plain32
  deriving DecidableEq, Repr

/-- The body fields of a command that its form uses (offset, size), and its address fields (offset, kind). -/
def bodyFields (b : Bytes) : List (Nat × Nat) × List (Nat × AddrKind) :=
  let op := fieldAt b 0 1
  let vop := fieldAt b 48 2
  let srcWin := addrSpace (fieldAt b 16 8) == 2
  let dstWin := addrSpace (fieldAt b 24 8) == 2
  match op with
  | 0x01 => ([(16, 24), (48, 6)] ++ (if bit (fieldAt b 1 1) 4 then [(40, 8)] else []),
      [(16, .tref), (24, .tref), (32, .tref)] ++ (if bit (fieldAt b 1 1) 4 then [(40, .tref)] else []))
  | 0x02 => ([(16, 18)], [(16, .local_ 64), (24, .local_ 32)])
  | 0x03 => ([(16, 46)], [(16, .tref), (24, .tref), (32, .tref), (40, .tref), (48, .tref)])
  | 0x10 => ([(16, 16), (48, 3), (52, 4)] ++ (if usesY vop then [(32, 8)] else []) ++ (if usesW vop then [(40, 8)] else []),
      [(16, .tref), (24, .tref)] ++ (if usesY vop then [(32, .tref)] else []) ++ (if usesW vop then [(40, .tref)] else []))
  | 0x11 => ([(16, 17), (36, 4)], [(16, .tref), (24, .tref)])
  | 0x12 => ([(16, 24), (40, 3), (44, 10)], [(16, .tref), (24, .tref), (32, .tref)])
  | 0x20 => ([(16, 16)], [(16, .tref), (24, .tref)])
  | 0x21 => ([(16, 38)], [(16, .addr), (24, .addr), (32, .plain32), (36, .plain32), (40, .plain32)] ++ (if srcWin || dstWin then [(48, .target)] else []))
  | 0x22 => ([(16, 39)], [(16, .addr), (24, .addr), (32, .plain32), (36, .plain32), (40, .plain32)] ++ (if srcWin || dstWin then [(48, .target)] else []))
  | 0x30 => ([(16, 20), (44, 2)] ++ (if srcWin then [(36, 4)] else []) ++ (if dstWin then [(40, 4)] else []),
      [(16, .addr), (24, .addr)] ++ (if srcWin then [(36, .target)] else []) ++ (if dstWin then [(40, .target)] else []))
  | 0x31 => ([(16, 14), (32, 5), (40, 2)], [(16, .win 1), (24, .target)])
  | 0x32 => ([(16, 16), (48, 16)] ++ (if bit (fieldAt b 1 1) 6 then [(32, 8)] else []) ++ (if fieldAt b 30 1 = 2 then [(40, 8)] else []),
      [(16, .win (fieldAt b 31 1)), (24, .target)] ++ (if bit (fieldAt b 1 1) 6 then [(32, .local_ 16)] else []))
  | 0x40 => ([(16, 2), (20, 5)], [])
  | 0x41 => ([(16, 2), (20, 9), (30, 2)], [(20, .target)])
  | 0x42 => ([(16, 1)], [])
  | 0x43 => ([(16, 8)], [])
  | 0x44 => ([(16, 3), (20, 4)], [])
  | 0x45 => ([(16, 9), (26, 2)], [])
  | 0x50 => ([(16, 4)], [])
  | 0x51 => ([(16, 5), (24, 4)], [])
  | 0x52 => ([(16, 4)], [])
  | _ => ([], [])

/-- Reserved bits of one address field are set. -/
def addrReserved (b : Bytes) (off : Nat) : AddrKind → Bool
  | .tref => bits (fieldAt b off 8) 63 58 != 0 || bits (fieldAt b off 8) 31 26 != 0
  | .target =>
    let v := fieldAt b off 4
    if bit v 31 then v != 2 ^ 31 else bits v 30 18 != 0
  | .plain32 => false
  | _ =>
    let v := fieldAt b off 8
    match addrSpace v with
    | 0 => bits v 61 26 != 0
    | 1 => bits v 61 56 != 0
    | 2 => bits v 49 44 != 0
    | _ => false

/-- R148 for one address field. -/
def addrBad (b : Bytes) (off : Nat) : AddrKind → Bool
  | .tref => trefDesc (fieldAt b off 8) % 32 != 0 || trefData (fieldAt b off 8) % 64 != 0
  | .target =>
    let v := fieldAt b off 4
    !bit v 31 && decide (72 ≤ v % 128)
  | .plain32 => fieldAt b off 4 % (if off = 40 then 16 else 32) != 0
  | .addr =>
    let v := fieldAt b off 8
    addrSpace v == 3 || (addrSpace v == 0 && bits v 25 0 % 64 != 0)
  | .local_ al => addrSpace (fieldAt b off 8) != 0 || bits (fieldAt b off 8) 25 0 % al != 0
  | .win al => addrSpace (fieldAt b off 8) != 2 || (al != 0 && addrOff (fieldAt b off 8) % al != 0)

/-- Reserved bits in enumerated body fields: ATTN_BLOCK and ROUTE MODE, AFTER and MASK (Tables 4-6, 4-7, 4-11), and
CAPACITY in THRESHOLD mode (R335). -/
def bodyReservedBits (b : Bytes) : Bool :=
  match fieldAt b 0 1 with
  | 0x03 => decide (16 ≤ fieldAt b 60 1)
  | 0x12 => decide (4 ≤ fieldAt b 42 1) || (fieldAt b 42 1 % 2 == 0 && fieldAt b 48 2 != 0)
  | 0x41 => decide (16 ≤ fieldAt b 28 1)
  | 0x42 => decide (16 ≤ fieldAt b 16 1)
  | _ => false

/-- Flags a command does not use (R145, Table 4-3). -/
def badFlags (b : Bytes) : Bool :=
  let op := fieldAt b 0 1
  let fl := fieldAt b 1 1
  let seq := decide (0x40 ≤ op)
  bit fl 7 || (bit fl 6 && op != 0x32) || (bit fl 5 && op != 0x01) || (bit fl 4 && op != 0x01)
    || (bit fl 3 && !(([0x01, 0x03, 0x10, 0x11] : List Nat).contains op))
    || (seq && (bit fl 2 || fieldAt b 8 4 != 0 || fieldAt b 12 4 != 0))

/-- Nonzero reserved fields of a command word (R9, R145). -/
def wordReserved (b : Bytes) : Bool :=
  let (used, addrs) := bodyFields b
  badFlags b || decide (4096 ≤ fieldAt b 2 2) || decide (4096 ≤ fieldAt b 4 2) || decide (8 ≤ fieldAt b 6 1)
    || fieldAt b 7 1 != 0 || bodyReservedBits b || addrs.any (fun a => addrReserved b a.1 a.2)
    || (List.range 48).any (fun i =>
        !(used.any (fun u => decide (u.1 ≤ 16 + i) && decide (16 + i < u.1 + u.2))) && fieldAt b (16 + i) 1 != 0)

/-- Steps 1 to 4 of R991 on a stepped command word; `armed` is whether a SEND_TILE is armed (R156). -/
def wordCheck (b : Bytes) (armed : Bool) : Option Status :=
  let op := fieldAt b 0 1
  let tile := op == 0x01 && bit (fieldAt b 1 1) 5
  firstBad [
    (badOpcode b, 0x3102),
    (wordReserved b, 0x3101),
    ((tile && !armed) || (op == 0x31 && armed), 0x3108),
    ((bodyFields b).2.any (fun a => addrBad b a.1 a.2), 0x3106)]

/-- R146: the stepped word. The offset part wraps within its field. -/
def stepField (op v : Nat) (d : Int) : Nat :=
  let w := match op with
    | 0x30 | 0x21 | 0x22 | 0x31 | 0x32 | 0x02 => (match addrSpace v with | 0 => 26 | 1 => 56 | _ => 44)
    | _ => 26
  v - v % 2 ^ w + (((v % 2 ^ w : Nat) + d) % (2 ^ w : Nat)).toNat

/-- R146: apply STEP with iteration index `i`. -/
def stepWord (b : Bytes) (i : Nat) : Bytes :=
  let op := fieldAt b 0 1
  if bit (fieldAt b 1 1) 2 ∧ op < 0x40 then
    let a := leBytes 8 (stepField op (fieldAt b 16 8) (i * toSigned 32 (fieldAt b 8 4)))
    let c := if op = 0x31 ∨ op = 0x32 then (b.drop 24).take 8
      else leBytes 8 (stepField op (fieldAt b 24 8) (i * toSigned 32 (fieldAt b 12 4)))
    b.take 16 ++ a ++ c ++ b.drop 32
  else b

/-! ### Retirement (R176, R185, R190–R195) -/

/-- Complete a token (R176). -/
def Pkg.completeToken (k : Pkg) (c : Nat) (x : Cmd) (st : Status) : Pkg :=
  if x.flag 0 then
    let t := x.f 2 2 % 4096
    (k.setF (F.CORE_TOK_PENDING c t) 0).setF (F.CORE_TOK_CODE c t) st
  else k

/-- A command leaves the play with a status: its token completes, a non-OK status is latched or stops the play, and the
shot clock restarts (R176, R185, R190–R194). -/
def Pkg.retire (k : Pkg) (c : Nat) (x : Cmd) (st : Status) (info : Nat) : Pkg :=
  let k := k.completeToken c x st
  let k := k.addWrap (F.CORE_SEQ_RETIRED c) 1
  let k := if statusOk st then k else k.latch c x.word st info
  let stop := k.stopsPlay c st
  let k := k.updPlay c (fun p => { p with
    cmds := p.cmds.filter (fun y => y.num != x.num)
    stopping := p.stopping || stop
    shotBase := k.now
    shotHeld := 0 })
  k.showSeq c

/-! ### Barriers (R162, R163, R544, R545) -/

/-- End the BARRIER a core waits at. -/
def Pkg.endBarrier (k : Pkg) (c : Nat) (st : Status) : Pkg :=
  match k.play c with
  | none => k
  | some p => match p.block with
    | some (.barrier ..) =>
      let k := k.updPlay c (fun p => { p with block := none })
      (match p.cmds.find? (fun x => x.op == 0x44) with
        | some x => k.retire c x st 0
        | none => k)
    | _ => k

/-- The cores of a slot that wait at a barrier ID of a scope, having arrived. -/
def Pkg.waiters (k : Pkg) (slot id : Nat) (partition : Bool) : List Nat :=
  (List.range 64).filter (fun c => k.coreSlot c == slot && (match k.play c with
    | some p => (match p.block with
      | some (.barrier i pt _ arrived) => i == id && pt == partition && arrived
      | _ => false)
    | none => false))

/-- The body of a BARRIER packet (Table 11-8). -/
def barrierBody (id kind gen count participants : Nat) : Bytes :=
  leBytes 2 id ++ leBytes 1 kind ++ leBytes 1 0 ++ leBytes 4 gen ++ leBytes 4 count ++ leBytes 4 participants

/-- Releases seen of a partition barrier. -/
def Pkg.generation (k : Pkg) (slot id : Nat) : Nat := Sparse.get semZero k.barGen (slot * 64 + id)

/-- The captain of a slot, in TARGET form. -/
def Pkg.captain (k : Pkg) (slot : Nat) : Nat := k.getF (F.HIF_CAP_RACK slot) * 128 + k.getF (F.HIF_CAP_PKG slot)

/-- A core arrives at its barrier once every earlier command has retired (R162): at PACKAGE scope it is counted here; at
PARTITION scope it sends ARRIVE to the captain. -/
def Pkg.tryArrive (k : Pkg) (c : Nat) : Pkg :=
  match k.play c with
  | none => k
  | some p => match p.block with
    | some (.barrier id partition n false) =>
      if p.cmds.any (fun x => x.op != 0x44) then k
      else
        let slot := k.coreSlot c
        let k := k.updPlay c (fun p => { p with block := some (.barrier id partition n true) })
        if partition then
          k.sendHub 0x4A slot (k.captain slot) (barrierBody id 0 (k.generation slot id) 1 n)
        else
          let here := k.arrivals.filter (fun a => a.slot == slot && a.id == id)
          let all := here ++ [({ slot := slot, id := id, gen := 0, who := c, participants := n } : Arrival)]
          let others := k.arrivals.filter (fun a => !(a.slot == slot && a.id == id))
          if here.any (fun a => a.participants != n) then
            (k.waiters slot id false).foldl (fun k w => k.endBarrier w 0x310A) { k with arrivals := others }
          else if all.length = n then
            (k.waiters slot id false).foldl (fun k w => k.endBarrier w 0) { k with arrivals := others }
          else { k with arrivals := others ++ all }
    | _ => k

/-- A partition barrier is released at this package: its waiting cores go on. -/
def Pkg.releaseBarrier (k : Pkg) (slot id : Nat) (st : Status) : Pkg :=
  let k := if st = 0 then { k with barGen := Sparse.set semZero k.barGen (slot * 64 + id) (k.generation slot id + 1) } else k
  (k.waiters slot id true).foldl (fun k w => k.endBarrier w st) k

/-- The packages of a slot's partition, in TARGET form (R643). -/
def Pkg.partPackages (k : Pkg) (slot : Nat) : List Nat :=
  match k.lup.active with
  | none => [k.target]
  | some l => match k.partEntry slot with
    | none => [k.target]
    | some p => (l.racks.filter (fun r => bit p.racks r.id)).flatMap (fun r => (List.range 72).map (fun i => r.id * 128 + i))

/-- Send a control packet to every package of the partition; this package receives its own by loopback. -/
def Pkg.sendPartition (k : Pkg) (type slot : Nat) (body : Bytes) : Pkg :=
  (k.partPackages slot).foldl (fun k t => k.sendHub type slot t body) k

/-- The captain counts an arrival (R544, R545). -/
def Pkg.captainArrive (k : Pkg) (slot id gen who n count : Nat) : Pkg :=
  let here := k.capArrivals.filter (fun a => a.slot == slot && a.id == id && a.gen == gen)
  let others := k.capArrivals.filter (fun a => !(a.slot == slot && a.id == id && a.gen == gen))
  let all := here ++ [({ slot := slot, id := id, gen := gen, who := who, participants := n, count := count } : Arrival)]
  if here.any (fun a => a.participants != n) then
    ({ k with capArrivals := others } : Pkg).sendPartition 0x4A slot (barrierBody id 2 gen 0 n)
  else if n ≤ (all.map Arrival.count).sum then
    ({ k with capArrivals := others } : Pkg).sendPartition 0x4A slot (barrierBody id 1 gen 0 n)
  else { k with capArrivals := others ++ all }

/-! ### Semaphore posts (R160, R161) -/

/-- The commands a queue mask waits for have met its condition (Table 4-11). -/
def maskMet (p : Play) (mask before : Nat) : Bool :=
  p.cmds.all (fun x => decide (before ≤ x.num) ||
    !((bit mask 0 && x.queue == 0) || (bit mask 1 && (x.queue == 1 || x.op == 0x03)) || (bit mask 2 && x.queue == 2 && !x.released)
      || (bit mask 3 && x.queue == 2)))

/-- Make a queued addition: here, or by a SEM_POST packet on its channel (R161). -/
def Pkg.applyPost (k : Pkg) (c : Nat) (q : Post) : Pkg :=
  let slot := k.coreSlot c
  let t := k.targetOf q.target
  if t = k.target then k.semAdd slot q.sem q.value
  else
    let ch := k.channel slot q.chan
    k.send { pkt := controlPacket 0x42 slot ch.stream t (leBytes 2 q.sem ++ leBytes 2 0 ++ leBytes 4 q.value), sched := !ch.openClass
             chan := q.chan, spread := ch.spread, owner := .none, own := true }

/-- SEM_POST_APPLY (R160): every queued addition whose condition is met is made, in order. -/
def Pkg.applyPosts (k : Pkg) (c : Nat) : Pkg :=
  match k.play c with
  | none => k
  | some p =>
    let ready := p.posts.filter (fun q => maskMet p q.mask q.before)
    let k := k.updPlay c (fun p => { p with posts := p.posts.filter (fun q => !ready.contains q) })
    ready.foldl (fun k q => k.applyPost c q) k

/-! ### Issue (R171, R172) -/

/-- The token a command with NOTIFY names is PENDING. -/
def Pkg.notifyHeld (k : Pkg) (c : Nat) (b : Bytes) : Bool :=
  bit (fieldAt b 1 1) 0 && k.flag (F.CORE_TOK_PENDING c (fieldAt b 2 2 % 4096))

/-- The wait token of a word: PENDING, or its status. -/
def Pkg.waitToken (k : Pkg) (c : Nat) (b : Bytes) : Option Status :=
  if bit (fieldAt b 1 1) 1 then
    let t := fieldAt b 4 2 % 4096
    if k.flag (F.CORE_TOK_PENDING c t) then none else some (k.getF (F.CORE_TOK_CODE c t))
  else some 0

/-- The next word, stepped. -/
def Pkg.nextWord (_ : Pkg) (p : Play) : Option Bytes :=
  p.buf.head?.map (fun b => stepWord b ((p.loops.getD (fieldAt b 6 1 % 8) (0, 0)).2))

/-- Issue a word as a command (R176, R196): its token becomes PENDING and the next word follows. -/
def Pkg.pushCmd (k : Pkg) (c : Nat) (b : Bytes) (queue : Nat) (phase : Phase) : Pkg :=
  let word := k.getF (F.CORE_SEQ_NEXT c)
  let k := if bit (fieldAt b 1 1) 0 then k.setF (F.CORE_TOK_PENDING c (fieldAt b 2 2 % 4096)) 1 else k
  let k := k.setF (F.CORE_SEQ_NEXT c) (word + 1)
  let tile := fieldAt b 0 1 == 0x01 && bit (fieldAt b 1 1) 5
  k.updPlay c (fun p => { p with
    buf := p.buf.tail
    nextNum := p.nextNum + 1
    cmds := p.cmds ++ [{ num := p.nextNum, word := word, bytes := b, queue := queue, phase := phase
                         tile := if tile then p.tile else none }]
    tile := if tile then none else p.tile })

/-- The command issued last. -/
def Play.lastCmd (p : Play) : Option Cmd := p.cmds.getLast?

/-- A word whose checks fail ends at once with its status, which stops the play. -/
def Pkg.failWord (k : Pkg) (c : Nat) (b : Bytes) (st : Status) : Pkg :=
  let k := k.pushCmd c b 3 .done
  match (k.play c).bind Play.lastCmd with
  | some x => k.retire c x st 0
  | none => k

/-- A command word whose command reaches the local store (R181): all but SEND_TILE, a MOVE with no LOCAL end and a WINDOW_OP that
returns no old value. -/
def touchesLs (b : Bytes) : Bool :=
  match fieldAt b 0 1 with
  | 0x30 => addrSpace (fieldAt b 16 8) == 0 || addrSpace (fieldAt b 24 8) == 0
  | 0x31 => false
  | 0x32 => bit (fieldAt b 1 1) 6
  | _ => true

/-- Issue engine commands until one must wait, or a sequencer command, SEND_TILE or unfetched word is next. Running past
the last word is BAD_PLAY (R168). `fuel` bounds the words. -/
def Pkg.issue (k : Pkg) (c : Nat) : Nat → Pkg
  | 0 => k
  | fuel + 1 =>
    match k.play c with
    | none => k
    | some p =>
      if p.stopping || p.draining || p.block.isSome || p.length == 0 then k
      else if p.length ≤ k.getF (F.CORE_SEQ_NEXT c) then
        let k := k.latch c (k.getF (F.CORE_SEQ_NEXT c)) 0x3107 0
        (k.updPlay c (fun p => { p with stopping := true })).showSeq c
      else match k.nextWord p with
        | none => k
        | some b =>
          match queueOf (fieldAt b 0 1) with
          | none => k
          | some 3 => k
          | some q =>
            if fieldAt b 0 1 = 0x31 ∨ badOpcode b then k
            else match wordCheck b p.tile.isSome with
              | some st => k.failWord c b st
              | none =>
                let full := decide (32 ≤ (p.cmds.filter (fun x => x.queue == q && x.phase == .queued)).length)
                let fullV := fieldAt b 0 1 == 0x03 && decide (32 ≤ (p.cmds.filter (fun x => x.queue == 1 && x.phase == .queued)).length)
                let tracked := touchesLs b && decide (256 ≤ (p.cmds.filter (fun x => x.queue != 3 && !x.released && touchesLs x.bytes)).length)
                if k.notifyHeld c b || full || fullV || tracked then k
                else (k.pushCmd c b q .queued).issue c fuel

/-- Everything the sequencer does by itself after a change: posts, barrier arrival, issue. -/
def Pkg.seqGo (k : Pkg) (c : Nat) : Pkg :=
  let k := (k.applyPosts c).tryArrive c
  let k := k.issue c (((k.play c).map (fun p => p.buf.length + 1)).getD 0)
  k.showSeq c

/-- Issue the next word if it is the sequencer command (or SEND_TILE) `op` and may issue; `act` is its effect on the
package, given the issued command. A wait token that holds a non-OK status makes it DEP_FAILED (R177, R178). -/
def Pkg.seqIssue (k : Pkg) (c op : Nat) (act : Pkg → Cmd → Pkg) : Pkg :=
  match k.play c with
  | none => k
  | some p =>
    if p.stopping || p.draining || p.block.isSome || p.length == 0 || decide (p.length ≤ k.getF (F.CORE_SEQ_NEXT c)) then k
    else match k.nextWord p with
      | none => k
      | some b =>
        if fieldAt b 0 1 ≠ op then k
        else match wordCheck b p.tile.isSome with
          | some st => (k.failWord c b st).seqGo c
          | none =>
            if k.notifyHeld c b then k
            else match k.waitToken c b with
              | none => k
              | some st =>
                let k := k.pushCmd c b (if op = 0x31 then 2 else 3) .running
                match (k.play c).bind Play.lastCmd with
                | none => k
                | some x =>
                  if statusOk st then (act k x).seqGo c
                  else (k.retire c x 0x5103 0).seqGo c

/-- A sequencer command that retires at issue: its checks, then its effect. -/
def Pkg.atIssue (k : Pkg) (c : Nat) (x : Cmd) (bad : Option Status) (act : Pkg → Pkg × Status) : Pkg :=
  match bad with
  | some st => k.retire c x st 0
  | none =>
    let (k, st) := act k
    k.retire c x st 0

/-- Move the sequencer to a word (R167, R168). -/
def Pkg.jumpTo (k : Pkg) (c target : Nat) : Pkg :=
  (k.setF (F.CORE_SEQ_NEXT c) target).updPlay c (fun p => { p with buf := [] })

/-- The target word of a JUMP or LOOP, when it lies in words 1 to `PH_LENGTH` − 1 (R168). -/
def Pkg.jumpTarget (k : Pkg) (c : Nat) (x : Cmd) : Option Nat :=
  let t : Int := (x.word : Int) + toSigned 32 (x.f 16 4)
  match k.play c with
  | none => none
  | some p => if 1 ≤ t ∧ t < (p.length : Int) then some t.toNat else none

/-! ### Starting commands (R173–R181) -/

/-- The local-store range of a LOCAL end, or none. -/
def localRange (v n : Nat) : List (Nat × Nat) := if addrSpace v = 0 then [(bits v 25 0, n)] else []

/-- The read and write sets of a command (R179–R182, R213), without those of GROUPED_GEMM, BATCH attention and ROUTE,
which their chapters add. -/
def Pkg.baseSets (k : Pkg) (c : Nat) (x : Cmd) : List (Nat × Nat) × List (Nat × Nat) :=
  let foot (o : Nat) : Nat × Nat :=
    let t := k.operand c x o
    t.d.footprint t.data
  let descs := x.trefs.map (fun o => (trefDesc (x.f o 8), 32))
  let rd := (trefReads x.op (x.f 48 2) x.acc (bit (x.f 60 1) 3)).map foot ++ descs
  let wr := (trefWrites x.op).map foot
  match x.op with
  | 0x30 => (localRange (x.f 16 8) (x.f 32 4), localRange (x.f 24 8) (x.f 32 4))
  | 0x21 | 0x22 =>
    let (s, d) := k.blockDescs c x
    let sf := if addrSpace (x.f 16 8) = 0 then [s.footprint (addrBase (x.f 16 8))] else []
    let df := if addrSpace (x.f 24 8) = 0 then [d.footprint (addrBase (x.f 24 8))] else []
    (sf ++ [(x.f 32 4, 32), (x.f 36 4, 32), (x.f 40 4, 16 * x.f 44 4)] ++ (if x.add then df else []), df)
  | 0x32 => ([], if x.flag 6 then [(bits (x.f 32 8) 25 0, 16)] else [])
  | 0x02 => ([(bits (x.f 16 8) 25 0, 64 * x.f 32 2)], [])
  | _ => (rd, wr)

/-- R179, R180: an earlier command that is not locally released reaches what this one writes, or writes what it reads. -/
def hazard (p : Play) (num : Nat) (rd wr : List (Nat × Nat)) (sets : Cmd → List (Nat × Nat) × List (Nat × Nat)) : Bool :=
  p.cmds.any (fun y => decide (y.num < num) && !y.released &&
    (let (yr, yw) := sets y
     setsMeet wr yr || setsMeet wr yw || setsMeet rd yw))

/-- The first command of a queue that has not started, if every earlier one of the queue has left its engine. -/
def Play.queueHead (p : Play) (q : Nat) : Option Cmd := p.cmds.find? (fun x => x.queue == q && x.phase == .queued)

/-- An engine is busy: a started command of the queue whose effect has not been computed. The mover holds 4,096
operations (R174). ATTN_BLOCK holds the matrix and vector queues. -/
def Play.engineBusy (p : Play) (q : Nat) (attn : Bool) : Bool :=
  if q = 2 then decide (4096 ≤ (p.cmds.filter (fun x => x.queue == 2 && x.phase != .queued)).length)
  else p.cmds.any (fun x => x.phase == .running && (x.queue == q || (x.op == 0x03 && q == 1) || (attn && x.queue == 1)))

/-- COMMAND_START (R173–R180): the head of a queue starts, or ends DEP_FAILED. -/
def Pkg.startCmd (k : Pkg) (c q : Nat) (sets : Pkg → Cmd → List (Nat × Nat) × List (Nat × Nat)) : Pkg :=
  match k.play c with
  | none => k
  | some p => match p.queueHead q with
    | none => k
    | some x =>
      if p.engineBusy q (x.op == 0x03) then k
      else match k.waitToken c x.bytes with
        | none => k
        | some st =>
          if !statusOk st then (k.retire c x 0x5103 0).seqGo c
          else
            let (rd, wr) := sets k x
            let cur (y : Cmd) : List (Nat × Nat) × List (Nat × Nat) :=
              if y.phase = .queued then sets k y else (y.reads, y.writes)
            if hazard p x.num rd wr cur then k
            else (k.updCmd c x.num (fun y => { y with phase := .running, reads := rd, writes := wr })).showSeq c

/-- The started command of opcode `op` in a core. -/
def Pkg.started (k : Pkg) (c op : Nat) : Option Cmd :=
  (k.play c).bind (fun p => p.cmds.find? (fun x => x.phase == .running && x.op == op))

/-- An engine has computed a command: its status, and local release. -/
def Pkg.computed (k : Pkg) (c : Nat) (x : Cmd) (bad : Option Bad) : Pkg :=
  k.updCmd c x.num (fun y =>
    let y := { y with phase := .done, released := true }
    match bad with | some b => y.fail b | none => y)

/-- COMMAND_RETIRE (R175, R176, Table 4-12): a command whose whole effect has happened retires. -/
def Pkg.retireDone (k : Pkg) (c num : Nat) : Pkg :=
  match k.cmd c num with
  | none => k
  | some x =>
    let stripesLeft := x.isTile && x.op == 0x01 && statusOk x.status && decide (x.stripes < x.stripeCount)
    if x.queue = 3 ∨ x.phase ≠ .done ∨ x.waiting ≠ 0 ∨ !x.fetches.isEmpty ∨ !x.later.isEmpty ∨ stripesLeft then k
    else
      let k := if x.isTile && x.op == 0x01 && statusOk x.status then k.tilePost c x else k
      (k.retire c x x.status x.info).seqGo c

/-! ### Play start, fetch and end (R137–R144, R169, R170) -/

/-- PLAY_START at a physical core (R137, R141, R142); THERMAL_HOLD in HOLD (R855), BUSY before MAP (R714). Where several hold,
R973 gives ABSORBED, VACANT, BAD_ADDRESS and then the RESOURCE statuses. -/
def Pkg.startPlay (k : Pkg) (slot logical addr : Nat) : Pkg × Status :=
  let bad := addrSpace addr ≠ 0 ∧ addrSpace addr ≠ 1 ∨ addrReserved (leBytes 8 addr) 0 .addr ∨ addrBase addr % 64 ≠ 0
  let hot := k.getF F.THM_LEVEL = 3
  if !k.bring.mapped then (k, if bad then 0x3106 else if hot then 0x4A01 else 0x4101)
  else match k.physOf logical with
    | none => (k, 0x8101)
    | some c =>
      if k.coreSlot c ≠ slot ∨ (k.clusterSlot (c / 16)).isNone then (k, 0x8101)
      else if k.coreDown.contains c then (k.inc (F.RST_COUNTS 6), 0x2001)
      else if bad then (k, 0x3106)
      else if hot then (k, 0x4A01)
      else if k.getF (F.CORE_STATE c) ≠ 3 ∨ (k.play c).isSome then (k, 0x4101)
      else
        let k := k.updCore c (fun x => { x with play := some { addr := addr, shotBase := k.now, draining := k.coreDraining c } })
        let base := 0x1000000 + c * 0x40000
        let k := { k with regs := Sparse.keep k.regs (fun o => !(decide (base + 0x1000 ≤ o) && decide (o < base + 0x5000))) }
        let k := (k.setF (F.CORE_SEQ_PLAY c) addr).setF (F.CORE_SEQ_NEXT c) 0
        let k := { k with regs := Sparse.keep k.regs (fun o => !(decide (base + 0x118 ≤ o) && decide (o < base + 0x128))) }
        (k.showSeq c, 0)

/-- The PLAY_DONE body (Table 10-5). -/
def playDoneBody (id result status core : Nat) : Bytes :=
  leBytes 8 id ++ leBytes 4 result ++ leBytes 2 status ++ leBytes 1 core

/-- The play ends: PLAY_DONE goes to the captain with the final status (R169, R170). -/
def Pkg.endPlay (k : Pkg) (c : Nat) (result : Nat) (status : Option Status) : Pkg :=
  match k.play c with
  | none => k
  | some p =>
    let st := status.getD (if k.flag (F.CORE_SEQ_ERR_VALID c) then k.getF (F.CORE_SEQ_ERR_STATUS c) else 0)
    let slot := k.coreSlot c
    let k := k.updCore c (fun x => { x with play := none })
    let k := k.showSeq c
    k.sendHub 0x45 slot (k.captain slot) (playDoneBody p.id result st (k.getF (F.CORE_LOGICAL c)))

/-- A critical error in a core's fetch buffer, accumulator or token table (R740): the play ends CORE_FAULT and the core
resets. -/
def Pkg.coreFault (k : Pkg) (c loc : Nat) : Pkg :=
  let k := k.recordCause 0x08 1 loc c
  let k := if (k.play c).isSome then (k.latch c (k.getF (F.CORE_SEQ_NEXT c)) 0x7101 0).endPlay c 0 none else k
  k.resetCore c true

/-- PLAY_HEADER_CHECK (R143). -/
def headerCheck (b : Bytes) : Status :=
  let n := fieldAt b 8 4
  let shot := fieldAt b 12 4
  if fieldAt b 0 4 ≠ 0x59414C50 ∨ fieldAt b 4 2 ≠ 1 ∨ n < 2 ∨ 16777216 < n ∨ (0 < shot ∧ shot < 2000) then 0x3107
  else if fieldAt b 6 2 ≠ 0 ∨ fieldAt b 24 40 ≠ 0 then 0x3101
  else 0

/-- Read `n` play words from word `w` on. -/
def Pkg.fetchWords (k : Pkg) (c : Nat) (p : Play) (w n : Nat) : Pkg × Bytes × Option Bad :=
  let a := addrBase p.addr + 64 * w
  if addrSpace p.addr = 0 then
    let m := Memory.readBytes (k.core c).ls a (64 * n)
    if (halfRows ((List.range (64 * n)).map (fun i => a + i))).any (fun h => (k.core c).lsBad.contains h) then
      (k, [], some { status := 0x7101 })
    else (k, m, none)
  else k.vread (k.coreSlot c) (.fetch c) a (64 * n)

/-- Cut bytes into play words. -/
def words64 : Nat → Bytes → List Bytes
  | 0, _ => []
  | n + 1, b => b.take 64 :: words64 n (b.drop 64)

/-- PLAY_FETCH_COMPLETE: the next `n` words arrive; the first fetch of a play brings its header. A fault stops the play
with that status (R138). -/
def Pkg.fetchPlay (k : Pkg) (c n : Nat) : Pkg :=
  match k.play c with
  | none => k
  | some p =>
    if p.stopping || p.draining then k
    else
      let fail (k : Pkg) (b : Bad) : Pkg :=
        if b.status = 0x7101 then k.coreFault c 0x01
        else
          let k := k.latch c (k.getF (F.CORE_SEQ_NEXT c)) b.status b.info
          (k.updPlay c (fun p => { p with stopping := true })).showSeq c
      if p.length = 0 then
        match k.fetchWords c p 0 1 with
        | (k, _, some b) => fail k b
        | (k, h, none) =>
          match headerCheck h with
          | 0 =>
            let limit := if fieldAt h 12 4 = 0 then k.shotDefault else fieldAt h 12 4
            let k := k.updPlay c (fun p => { p with length := fieldAt h 8 4, id := fieldAt h 16 8 })
            let k := (k.setF (F.CORE_SEQ_SHOT_LIMIT c) limit).setF (F.CORE_SEQ_NEXT c) 1
            (match k.fetchWords c p 1 (min (n - 1) (fieldAt h 8 4 - 1)) with
              | (k, _, some b) => fail k b
              | (k, bs, none) =>
                (k.updPlay c (fun p => { p with buf := words64 (min (n - 1) (fieldAt h 8 4 - 1)) bs })).seqGo c)
          | st =>
            let k := k.updPlay c (fun p => { p with id := fieldAt h 16 8 })
            fail k { status := st }
      else
        let w := k.getF (F.CORE_SEQ_NEXT c) + p.buf.length
        let m := min n (p.length - w)
        match k.fetchWords c p w m with
        | (k, _, some b) => if p.buf.isEmpty then fail k b else k
        | (k, bs, none) => (k.updPlay c (fun p => { p with buf := p.buf ++ words64 m bs })).seqGo c

/-- PLAY_COMPLETE (R169, R191): every issued command has retired. The result of a play that ends without STOP is an open
word (log entry 11). -/
def Pkg.completePlay (k : Pkg) (c : Nat) : Pkg :=
  match k.play c with
  | none => k
  | some p =>
    if p.draining then k
    else match p.block with
      | some (.stop result) =>
        if p.cmds.any (fun x => x.op != 0x52) then k
        else
          let k := (match p.cmds.head? with | some x => k.retire c x 0 0 | none => k)
          k.endPlay c result none
      | _ => if p.stopping && p.cmds.isEmpty then (k.endPlay c (k.freeNat 32) none).draw else k

/-! ### The shot clock (R185–R189) -/

/-- R187: the oldest command that has not retired is a WAIT_HT whose target has not been reached. -/
def Pkg.shotPaused (k : Pkg) (p : Play) : Bool :=
  match p.cmds.head? with
  | some x => x.op == 0x43 && decide (k.now < x.f 16 8)
  | none => false

/-- SHOT_CLOCK_EXPIRE (R189): the play ends with SHOT_CLOCK and the core alone is reset. -/
def Pkg.shotExpire (k : Pkg) (c : Nat) : Pkg :=
  match k.play c with
  | none => k
  | some p =>
    if k.shotPaused p ∨ p.shotCount k.now < k.getF (F.CORE_SEQ_SHOT_LIMIT c) then k
    else
      let word := (p.cmds.head?.map Cmd.word).getD (k.getF (F.CORE_SEQ_NEXT c))
      let k := k.latch c word 0x6101 0
      let k := (k.endPlay c (k.freeNat 32) none).draw
      (k.recordCause 0x07 1 0 c).resetCore c false

/-! ### Drains of cores (R727, R732) -/

/-- A drain begins in a core: queued commands and waits end DRAINED, and nothing further issues. -/
def Pkg.drainCore (k : Pkg) (c : Nat) : Pkg :=
  match k.play c with
  | none => k
  | some p =>
    let k := k.updPlay c (fun p => { p with draining := true, block := none, buf := [] })
    let gone := p.cmds.filter (fun x => x.phase == .queued || x.queue == 3)
    let word := (gone.head?.map Cmd.word).getD (k.getF (F.CORE_SEQ_NEXT c))
    let k := k.latch c word 0x2101 0
    let k := { k with arrivals := k.arrivals.filter (fun a => a.who != c) }
    (gone.foldl (fun k x => k.retire c x 0x2101 0) k).showSeq c

/-- A core's started commands have all retired. -/
def Pkg.coreDrained (k : Pkg) (c : Nat) : Bool := match k.play c with
  | some p => p.cmds.isEmpty
  | none => true

end Sys2Proof.Machine
end

