-- ==== Sys2Proof/Machine/CoreCmds.lean ====
section
/-! DEFINITION. The commands of the sequencer, the mover, the plain matrix and vector commands, and the packets that
reach cores, semaphores, barriers and window reads. -/

namespace Sys2Proof.Machine

/-- PLAY_FETCH_COMPLETE (R138, R143): `n` play words arrive at a core's sequencer. -/
def execPlayFetchComplete (p : PkgId) (core : CoreId) (n t : Nat) (s : State) : Host.Outcome State Fault Refusal :=
  .next (s.updPkg p (fun k => (k.at t).fetchPlay core n))

/-- UNKNOWN_OPCODE (R147): the next word is no command. -/
def execUnknownOpcode (p : PkgId) (core : CoreId) (t : Nat) (s : State) : Host.Outcome State Fault Refusal :=
  .next (s.updPkg p (fun k =>
    let k := k.at t
    match k.play core with
    | none => k
    | some pl =>
      if pl.stopping || pl.draining || pl.block.isSome || pl.length == 0 || decide (pl.length ≤ k.getF (F.CORE_SEQ_NEXT core)) then k
      else match k.nextWord pl with
        | none => k
        | some b => if badOpcode b then k.failWord core b 0x3102 else k))

/-! ### Sequencer commands -/

/-- SEM_WAIT (R159): issue blocks until the semaphore reaches the threshold. -/
def execSemWait (p : PkgId) (core : CoreId) (t : Nat) (s : State) : Host.Outcome State Fault Refusal :=
  .next (s.updPkg p (fun k => (k.at t).seqIssue core 0x40 (fun k x =>
    if 4095 < x.f 16 2 ∨ 1 < x.f 24 1 then k.retire core x 0x3109 0
    else k.updPlay core (fun pl => { pl with block := some (.sem (x.f 16 2) (x.f 20 4) (x.f 24 1 == 1)) }))))

/-- SEM_WAIT_RELEASE (R159, R523): the threshold is reached; CONSUME subtracts it and clears the status the semaphore
carries, which the command ends with. -/
def Pkg.semRelease (k : Pkg) (c : Nat) : Pkg :=
  match k.play c with
  | none => k
  | some pl => match pl.block with
    | some (.sem sem thr consume) =>
      let slot := k.coreSlot c
      let v := k.sem slot sem
      if v < thr then k
      else
        let st := k.semSt slot sem
        let k := if consume then (k.setSem slot sem (v - thr)).setSemSt slot sem 0 else k
        let k := k.updPlay c (fun pl => { pl with block := none })
        (match pl.cmds.find? (fun x => x.op == 0x40) with
          | some x => (k.retire c x st 0).seqGo c
          | none => k)
    | _ => k

/-- SEM_WAIT_RELEASE. -/
def execSemWaitRelease (p : PkgId) (core : CoreId) (t : Nat) (s : State) : Host.Outcome State Fault Refusal :=
  .next (s.updPkg p (fun k => (k.at t).semRelease core))

/-- SEM_POST (R160): retires at issue and queues its addition. -/
def execSemPost (p : PkgId) (core : CoreId) (t : Nat) (s : State) : Host.Outcome State Fault Refusal :=
  .next (s.updPkg p (fun k => (k.at t).seqIssue core 0x41 (fun k x =>
    let far := decide (k.targetOf (x.f 20 4) ≠ k.target)
    k.atIssue core x (if 4095 < x.f 16 2 || (far && decide (1023 < x.f 30 2)) then some 0x3109 else none) (fun k =>
      (k.updPlay core (fun pl => { pl with posts := pl.posts ++ [{ sem := x.f 16 2, target := x.f 20 4, value := x.f 24 4
                                                                   mask := x.f 28 1, chan := x.f 30 2, before := x.num }] }), 0)))))

/-- SEM_POST_APPLY (R160). -/
def execSemPostApply (p : PkgId) (core : CoreId) (t : Nat) (s : State) : Host.Outcome State Fault Refusal :=
  .next (s.updPkg p (fun k => (k.at t).applyPosts core))

/-- FENCE (R184): issue blocks until the queues of the mask meet Table 4-11. -/
def execFence (p : PkgId) (core : CoreId) (t : Nat) (s : State) : Host.Outcome State Fault Refusal :=
  .next (s.updPkg p (fun k => (k.at t).seqIssue core 0x42 (fun k x =>
    if x.f 16 1 = 0 then k.retire core x 0x3109 0
    else k.updPlay core (fun pl => { pl with block := some (.fence (x.f 16 1)) }))))

/-- FENCE_RELEASE (R184). -/
def Pkg.fenceRelease (k : Pkg) (c : Nat) : Pkg :=
  match k.play c with
  | none => k
  | some pl => match pl.block, pl.cmds.find? (fun x => x.op == 0x42) with
    | some (.fence mask), some x =>
      if maskMet pl mask x.num then ((k.updPlay c (fun pl => { pl with block := none })).retire c x 0 0).seqGo c else k
    | _, _ => k

/-- FENCE_RELEASE. -/
def execFenceRelease (p : PkgId) (core : CoreId) (t : Nat) (s : State) : Host.Outcome State Fault Refusal :=
  .next (s.updPkg p (fun k => (k.at t).fenceRelease core))

/-- WAIT_HT (R84, R164, R165): a target already passed releases at once with OK_LATE. -/
def execWaitHt (p : PkgId) (core : CoreId) (t : Nat) (s : State) : Host.Outcome State Fault Refusal :=
  .next (s.updPkg p (fun k => (k.at t).seqIssue core 0x43 (fun k x =>
    if x.f 16 8 < k.now then k.lateAction.retire core x 0x0101 0
    else k.updPlay core (fun pl => { pl with block := some (.waitHt (x.f 16 8)), shotHeld := k.now - pl.shotBase }))))

/-- WAIT_HT_RELEASE (R84): Hall Time has reached the target. -/
def execWaitHtRelease (p : PkgId) (core : CoreId) (t : Nat) (s : State) : Host.Outcome State Fault Refusal :=
  .next (s.updPkg p (fun k =>
    let k := k.at t
    match k.play core with
    | none => k
    | some pl => match pl.block, pl.cmds.find? (fun x => x.op == 0x43) with
      | some (.waitHt target), some x =>
        if target ≤ k.hallTime then ((k.updPlay core (fun pl => { pl with block := none })).retire core x 0 0).seqGo core else k
      | _, _ => k))

/-- BARRIER (R162): issue blocks; the core arrives once every earlier command has retired. -/
def execBarrier (p : PkgId) (core : CoreId) (t : Nat) (s : State) : Host.Outcome State Fault Refusal :=
  .next (s.updPkg p (fun k => (k.at t).seqIssue core 0x44 (fun k x =>
    if 63 < x.f 16 2 ∨ 1 < x.f 18 1 ∨ x.f 20 4 = 0 then k.retire core x 0x3109 0
    else k.updPlay core (fun pl => { pl with block := some (.barrier (x.f 16 2) (x.f 18 1 == 1) (x.f 20 4) false) }))))

/-- ANNOUNCE (R165, R166, R822): the expected load is recorded; less than 4,000 ticks ahead it ends OK_LATE. -/
def execAnnounce (p : PkgId) (core : CoreId) (t : Nat) (s : State) : Host.Outcome State Fault Refusal :=
  .next (s.updPkg p (fun k => (k.at t).seqIssue core 0x45 (fun k x =>
    k.atIssue core x (if 16 < x.f 24 1 ∨ x.f 26 2 = 0 then some 0x3109 else none) (fun k =>
      let late := decide (x.f 16 8 < k.now + 4000)
      let k : Pkg := { k with announces := k.announces ++ [{ core := core, ht := x.f 16 8, level := x.f 24 1, volleys := x.f 26 2 }] }
      let k := k.inc (F.PWR_COUNTS 4)
      if late then ((k.lateAction).inc (F.PWR_COUNTS 5), 0x0101) else (k, 0)))))

/-- JUMP (R168). -/
def execJump (p : PkgId) (core : CoreId) (t : Nat) (s : State) : Host.Outcome State Fault Refusal :=
  .next (s.updPkg p (fun k => (k.at t).seqIssue core 0x50 (fun k x =>
    match k.jumpTarget core x with
    | none => k.retire core x 0x3107 0
    | some w => (k.retire core x 0 0).jumpTo core w)))

/-- LOOP (R167, R168). -/
def execLoop (p : PkgId) (core : CoreId) (t : Nat) (s : State) : Host.Outcome State Fault Refusal :=
  .next (s.updPkg p (fun k => (k.at t).seqIssue core 0x51 (fun k x =>
    let ctr := x.f 20 1
    if 7 < ctr ∨ x.f 24 4 = 0 then k.retire core x 0x3109 0
    else match k.jumpTarget core x with
      | none => k.retire core x 0x3107 0
      | some w =>
        let (v, i) := ((k.play core).map (fun pl => pl.loops.getD ctr (0, 0))).getD (0, 0)
        let left := (if v = 0 then x.f 24 4 else v) - 1
        let k := k.updPlay core (fun pl => { pl with loops := pl.loops.set ctr (left, if left = 0 then 0 else i + 1) })
        let k := k.retire core x 0 0
        if left = 0 then k else k.jumpTo core w)))

/-- STOP (R169): issue blocks until every earlier command has retired; an armed SEND_TILE is discarded (R156). -/
def execStop (p : PkgId) (core : CoreId) (t : Nat) (s : State) : Host.Outcome State Fault Refusal :=
  .next (s.updPkg p (fun k => (k.at t).seqIssue core 0x52 (fun k x =>
    k.updPlay core (fun pl => { pl with block := some (.stop (x.f 16 4)), tile := none }))))

/-- SEND_TILE (R155, R156): arms the next GEMM with TILE; retires at issue. -/
def execSendTile (p : PkgId) (core : CoreId) (t : Nat) (s : State) : Host.Outcome State Fault Refusal :=
  .next (s.updPkg p (fun k => (k.at t).seqIssue core 0x31 (fun k x =>
    let sem := x.f 40 2
    k.atIssue core x (if 1 < x.f 36 1 ∨ (4095 < sem ∧ sem ≠ 0xFFFF) ∨ x.f 32 4 % 64 ≠ 0 ∨ (k.farEnd x = true ∧ 1023 < x.f 28 2) then some 0x3109 else none)
      (fun k => (k.updPlay core (fun pl => { pl with tile := some x.bytes }), 0)))))

/-! ### Engine commands -/

/-- Run the started command of an opcode, if there is one. -/
def Pkg.onStarted (k : Pkg) (c op : Nat) (act : Pkg → Cmd → Pkg) : Pkg :=
  match k.started c op with
  | some x => act k x
  | none => k

/-- Count bank-conflict waits (R124). -/
def Pkg.conflicts (k : Pkg) (c n : Nat) : Pkg := k.addWrap (F.CORE_LS_CONFLICTS c) n

/-- A residue failure (R995, Table 3-8): the command ends with RESIDUE, the play ends, and the core is reset and tested
again (log entry 12). -/
def Pkg.residue (k : Pkg) (c : Nat) (x : Cmd) : Pkg :=
  let k := k.retire c x 0x5102 0
  let k := (k.endPlay c (k.freeNat 32) none).draw
  (k.recordCause 0x08 1 0 c).resetCore c true

/-- GEMM (R150): `conflicts` bank-conflict waits; `fail` the step whose residue check fails, if one does. -/
def execGemm (p : PkgId) (core : CoreId) (conflicts : Nat) (fail : Option Nat) (t : Nat) (s : State) :
    Host.Outcome State Fault Refusal :=
  .next (s.updPkg p (fun k => (k.at t).onStarted core 0x01 (fun k x =>
    let (k, bad) := (k.conflicts core conflicts).gemm core x fail
    match bad with
    | some b => if b.status = 0x5102 then k.residue core x else k.computed core x (some b)
    | none =>
      let k := k.computed core x none
      if x.isTile then k.updCmd core x.num (fun y => { y with released := false }) else k)))

/-- VEC (R152). -/
def execVec (p : PkgId) (core : CoreId) (conflicts t : Nat) (s : State) : Host.Outcome State Fault Refusal :=
  .next (s.updPkg p (fun k => (k.at t).onStarted core 0x10 (fun k x =>
    let (k, bad) := (k.conflicts core conflicts).vec core x
    k.computed core x bad)))

/-- R513, R772: a command whose own window answers STAGE_FULL or SUBSTITUTING waits and tries again; only the answer is counted. -/
def Pkg.orRetry (old new : Pkg) (c num : Nat) : Pkg :=
  match new.cmd c num with
  | none => new
  | some y =>
    if statusClass y.status ≠ 1 then new
    else
      let k := (old.setF (F.GLB_REPAIR_COUNTS 3) (new.getF (F.GLB_REPAIR_COUNTS 3))).setF (F.COL_COUNTS 4) (new.getF (F.COL_COUNTS 4))
      if new.flag F.COL_EV_STAGE_FULL then k.raise F.COL_EV_STAGE_FULL else k

/-- TRANS (R118). -/
def execTrans (p : PkgId) (core : CoreId) (t : Nat) (s : State) : Host.Outcome State Fault Refusal :=
  .next (s.updPkg p (fun k => (k.at t).onStarted core 0x11 (fun k x =>
    let (k, bad) := k.trans core x
    k.computed core x bad)))

/-- LAYOUT (R220). -/
def execLayout (p : PkgId) (core : CoreId) (t : Nat) (s : State) : Host.Outcome State Fault Refusal :=
  .next (s.updPkg p (fun k => (k.at t).onStarted core 0x20 (fun k x =>
    let (k, bad) := k.layout core x
    k.computed core x bad)))

/-- GATHER (R225). -/
def execGather (p : PkgId) (core : CoreId) (t : Nat) (s : State) : Host.Outcome State Fault Refusal :=
  .next (s.updPkg p (fun k => (k.at t).onStarted core 0x21 (fun k x =>
    if x.fetches.isEmpty then (k.orRetry (k.moveStart core x) core x.num).settleCmds else k)))

/-- SCATTER (R229). -/
def execScatter (p : PkgId) (core : CoreId) (t : Nat) (s : State) : Host.Outcome State Fault Refusal :=
  .next (s.updPkg p (fun k => (k.at t).onStarted core 0x22 (fun k x =>
    if x.fetches.isEmpty then (k.orRetry (k.moveStart core x) core x.num).settleCmds else k)))

/-- MOVE (R217). -/
def execMove (p : PkgId) (core : CoreId) (conflicts t : Nat) (s : State) : Host.Outcome State Fault Refusal :=
  .next (s.updPkg p (fun k => (k.at t).onStarted core 0x30 (fun k x =>
    if x.fetches.isEmpty then (k.orRetry ((k.conflicts core conflicts).moveStart core x) core x.num).settleCmds else k)))

/-- WINDOW_OP (R148). -/
def execWindowOp (p : PkgId) (core : CoreId) (t : Nat) (s : State) : Host.Outcome State Fault Refusal :=
  .next (s.updPkg p (fun k => (k.at t).onStarted core 0x32 (fun k x => (k.orRetry (k.windowOp core x) core x.num).settleCmds)))

/-- TILE_STRIPE_SEND (R157): the next output stripe of the core's TILE GEMM goes to the peer. -/
def execTileStripeSend (p : PkgId) (core : CoreId) (t : Nat) (s : State) : Host.Outcome State Fault Refusal :=
  .next (s.updPkg p (fun k =>
    let k := k.at t
    match (k.play core).bind (fun pl => pl.cmds.find? (fun x => x.op == 0x01 && x.isTile && x.phase == .done
        && decide (x.stripes < x.stripeCount) && statusOk x.status)) with
    | some x => (k.orRetry (k.sendStripe core x) core x.num).settleCmds
    | none => k))

/-- COMMAND_RETIRE of a command that closes no routing step: see `Routing.lean` for the ROUTE case. -/
def Pkg.commandRetire (k : Pkg) (c num : Nat) : Pkg := (k.settleCmds).retireDone c num

/-! ### Packets -/

/-- SEM_POST_PACKET (R161): the addition happens once. -/
def execSemPostPacket (p : PkgId) (pkt : Packet) (t : Nat) (s : State) : Host.Outcome State Fault Refusal :=
  .next (s.updPkg p (fun k => (k.at t).sequenced pkt (fun k =>
    let sem := fieldAt pkt.body 0 2
    if 4095 < sem then (k, 0x3301, none) else (k.semAdd pkt.slot sem (fieldAt pkt.body 4 4), 0, none))))

/-- PLAY_START (R137, R141, R142): refusals return in the acknowledgement. -/
def execPlayStart (p : PkgId) (pkt : Packet) (t : Nat) (s : State) : Host.Outcome State Fault Refusal :=
  .next (s.updPkg p (fun k => (k.at t).sequenced pkt (fun k =>
    let (k, st) := k.startPlay pkt.slot (fieldAt pkt.body 0 1) (fieldAt pkt.body 4 8)
    (k, st, none))))

/-- ATOMIC (R485): the window operation happens once and its old value is recorded. -/
def execAtomic (p : PkgId) (pkt : Packet) (t : Nat) (s : State) : Host.Outcome State Fault Refusal :=
  .next (s.updPkg p (fun k => (k.at t).sequenced pkt (fun k =>
    let a := fieldAt pkt.body 0 8
    let size := fieldAt pkt.body 9 1
    let old := pkt.fetchOld
    match k.winAtomic pkt.slot (bits a 55 44) (a % 2 ^ 44) size (fieldAt pkt.body 8 1) (fieldAt pkt.body 12 8) (fieldAt pkt.body 20 16) old
        (.window pkt.src) with
    | (k, .error b) => (k, b.status, none)
    | (k, .ok v) => (k, 0, if old then some v else none))))

/-- Answer a READ_REQ with READ_DATA packets of at most 8 KiB (R446). -/
def Pkg.returnData (k : Pkg) (req : Packet) (addr tag : Nat) (bs : Bytes) : Pkg :=
  let pieces := cutRun 8192 (bs.length + 1) 0 bs
  pieces.foldl (fun k pc =>
    let units := pc.2.length / 64
    let total := (pc.2.length + 255) / 256 * 256
    k.send { pkt := { type := 0x12, len := total / 256 - 1, stream := req.stream % 2 ^ 14 + (total / 64 - units) * 2 ^ 14
                      dst := req.src, seq := tag, addr := (addr + pc.1) % 2 ^ 56
                      body := pc.2 ++ List.replicate (total - pc.2.length) 0 }
             sched := false, chan := 0, spread := 0, owner := .none, own := false }) k

/-- READ_REQ (R446): reads a window range; a failure is answered by an ACK that names the tag (log entry 10). -/
def execReadReq (p : PkgId) (pkt : Packet) (t : Nat) (s : State) : Host.Outcome State Fault Refusal :=
  .next (s.updPkg p (fun k =>
    let (k, ok) := (k.at t).screen pkt
    if !ok then k
    else
      let a := fieldAt pkt.body 0 8
      let n := fieldAt pkt.body 8 4
      let tag := fieldAt pkt.body 12 4
      let answer (k : Pkg) (st : Status) : Pkg := k.ack { pkt with seq := tag } st
      if k.absorbs pkt then answer (k.inc (F.RST_COUNTS 6)) 0x2001
      else if n % 64 ≠ 0 ∨ n = 0 ∨ 65536 < n then answer k 0x3301
      else match k.winRead pkt.slot (bits a 55 44) (a % 2 ^ 44) n pkt.src with
        | (k, _, some b) => answer k b.status
        | (k, bs, none) => k.returnData pkt a tag bs))

/-- READ_DATA (R446). -/
def execReadData (p : PkgId) (pkt : Packet) (t : Nat) (s : State) : Host.Outcome State Fault Refusal :=
  .next (s.updPkg p (fun k =>
    let (k, ok) := (k.at t).screen pkt
    if ok then k.readReturned pkt else k))

end Sys2Proof.Machine
end

