-- ==== Sys2Proof/Machine/Attention.lean ====
section
/-! DEFINITION. ATTN_BLOCK (R288–R320, R999, R1000): operand checks, the running softmax, the BATCH form with its lanes,
pages and staging ring. -/

namespace Sys2Proof.Machine

/-- BATCH. -/
def Cmd.batch (x : Cmd) : Bool := bit (x.f 60 1) 3
/-- CAUSAL. -/
def Cmd.causal (x : Cmd) : Bool := bit (x.f 60 1) 2
/-- HEADS. -/
def Cmd.heads (x : Cmd) : Nat := x.f 61 1
/-- SEQUENCE mode. -/
def Cmd.sequence (x : Cmd) : Bool := x.f 60 1 % 4 == 1

/-- The most negative finite FP32 (R294). -/
def negMax : Num := fp32.decode 0xFF7FFFFF

/-- The empty row. -/
def emptyRow (d : Nat) : SoftRow := { m := negMax, l := .zero, acc := List.replicate d .zero }

/-- Dot product over `n` positions in steps of 32 (R97–R99), positions given by functions. -/
def dotRun (n : Nat) (a b : Nat → Num) (ea eb : Nat → Nat) : Num × Nat :=
  (List.range ((n + 31) / 32)).foldl (fun (acc : Num × Nat) kb =>
    let ks := (List.range (min 32 (n - 32 * kb))).map (fun t => 32 * kb + t)
    let (v, f) := dotStep (ks.map a) (ks.map b) (ea (32 * kb)) (eb (32 * kb))
    let (s, g) := add32 acc.1 v
    (s, acc.2 ||| f ||| g)) (.zero, 0)

/-- One key block of 32 for one row (R294): the scores of up to 32 keys (masked ones −∞), and the value of key `j`'s
column `n` with its scale byte. -/
def softStep (r : SoftRow) (scores : List Num) (bf : Bool) (v : Nat → Nat → Num) (ev : Nat → Nat → Nat) (present : Nat) : SoftRow × Nat :=
  let pad := scores ++ List.replicate (32 - scores.length) (.inf true)
  let (tm, _) := reduceTree (fun a b => (maxNum a b, 0)) (.inf true) pad
  let mn := maxNum r.m tm
  let (d1, f1) := sub32 r.m mn
  let (a, f2) := transc 1 d1
  let ps := pad.map (fun s =>
    let (d, f) := sub32 s mn
    let (p, g) := transc 1 d
    (p, f ||| g))
  let (la, f3) := mul32 r.l a
  let (sm, f4) := reduceTree add32 .zero (ps.map Prod.fst)
  let (l, f5) := add32 la sm
  let (pq, ep, f6) : List Num × Nat × Nat :=
    if bf then
      let es := ps.map (fun p => bf16.encode false p.1)
      (es.map (fun e => bf16.decode e.1), 127, es.foldl (fun f e => f ||| e.2) 0)
    else
      let f8 := (fmtOf 3).getD fp32
      let (sc, es, g) := f8.encodeBlock (ps.map Prod.fst)
      (es.map f8.decode, sc, g)
  let cols := (r.acc.zip (List.range r.acc.length)).map (fun c =>
    let (x, f) := mul32 c.1 a
    let js := List.range present
    let (y, g) := dotStep (js.map (fun j => pq.getD j .zero)) (js.map (fun j => v j c.2)) ep (ev 0 c.2)
    let (z, h) := add32 x y
    (z, f ||| g ||| h))
  ({ m := mn, l := l, acc := cols.map Prod.fst },
   f1 ||| f2 ||| f3 ||| f4 ||| f5 ||| f6 ||| ps.foldl (fun f p => f ||| p.2) 0 ||| cols.foldl (fun f c => f ||| c.2) 0)

/-- Process the keys of one K and V pair for one row: `masked j` says which keys are masked, `present` how many keys the
pair holds. `qs` is the query element with its scale byte. -/
def softKeys (m : Memory) (q : Tensor) (kt vt : Tensor) (qi : Nat → List Nat) (hk hv d nk : Nat) (scale : Num)
    (masked : Nat → Bool) (row : SoftRow) : SoftRow × Nat :=
  let kIdx (j i : Nat) : List Nat := [i, j, hk, 0, 0, 0]
  let vIdx (j i : Nat) : List Nat := if vt.d.fmt.mx then [j, i, hv, 0, 0, 0] else [i, j, hv, 0, 0, 0]
  (List.range ((nk + 31) / 32)).foldl (fun (acc : SoftRow × Nat) kb =>
    let present := min 32 (nk - 32 * kb)
    let sc := (List.range present).map (fun t =>
      let j := 32 * kb + t
      if masked j then (Num.inf true, 0)
      else
        let (s, f) := dotRun d (fun i => q.d.rawElem m q.data (qi i)) (fun i => kt.d.rawElem m kt.data (kIdx j i))
          (fun i => q.d.scaleByte m q.data (qi i)) (fun i => kt.d.scaleByte m kt.data (kIdx j i))
        let (s, g) := mul32 s scale
        (s, f ||| g))
    let (r, f) := softStep acc.1 (sc.map Prod.fst) (vt.d.format == 8)
      (fun j n => vt.d.rawElem m vt.data (vIdx (32 * kb + j) n)) (fun j n => vt.d.scaleByte m vt.data (vIdx (32 * kb + j) n)) present
    (r, acc.2 ||| f ||| sc.foldl (fun f s => f ||| s.2) 0)) (row, 0)

/-- The output values of a row: normalised in HEAD mode (R295), as they are in SEQUENCE mode (R296). -/
def rowOut (seqMode : Bool) (r : SoftRow) : List Num × Nat :=
  match seqMode, r.l with
  | true, _ => (r.acc, 0)
  | false, .fin false 0 _ => (r.acc.map (fun _ => .zero), 0)
  | false, l =>
    let (rc, f) := transc 3 l
    let xs := r.acc.map (fun v => mul32 v rc)
    (xs.map Prod.fst, xs.foldl (fun f p => f ||| p.2) f)

/-! ### The lane table (Tables 7-4, 7-5) -/

/-- A lane table header. -/
structure LaneHeader where
  lanes : Nat
  tpp : Nat
  pageBytes : Nat
  vOff : Nat
  stage : Nat
  slots : Nat
  prefetch : Nat
  rowsPerPos : Nat
  status : Nat
  deriving DecidableEq, Repr

/-- Read a header's 64 bytes. -/
def LaneHeader.parse (b : Bytes) : LaneHeader :=
  { lanes := fieldAt b 4 2, tpp := fieldAt b 6 2, pageBytes := fieldAt b 8 4, vOff := fieldAt b 12 4, stage := fieldAt b 16 4,
    slots := fieldAt b 20 2, prefetch := fieldAt b 22 1, rowsPerPos := fieldAt b 23 1, status := fieldAt b 24 4 }

/-- R304: wrong magic or a field outside Table 7-4. -/
def headerBad (b : Bytes) : Bool :=
  let h := LaneHeader.parse b
  fieldAt b 0 4 != 0x454E414C || h.lanes == 0 || decide (4096 < h.lanes) || h.tpp % 32 != 0 || h.tpp == 0 || decide (512 < h.tpp)
    || h.pageBytes % 64 != 0 || h.pageBytes == 0 || decide (65536 < h.pageBytes) || h.vOff % 64 != 0 || h.stage % 65536 != 0
    || decide (h.slots < 2) || decide (256 < h.slots) || h.prefetch == 0 || decide (64 < h.prefetch)
    || h.rowsPerPos == 0 || decide (32 < h.rowsPerPos) || h.status % 64 != 0

/-- The lane table of a BATCH command: its local-store offset. -/
def Cmd.laneTable (x : Cmd) : Nat := trefData (x.f 24 8)

/-- The header of a BATCH command's lane table. -/
def Pkg.laneHeader (k : Pkg) (c : Nat) (x : Cmd) : LaneHeader :=
  LaneHeader.parse (Memory.readBytes (k.core c).ls x.laneTable 64)

/-- Step 5 of R991 for the header. -/
def Pkg.headerCheck (k : Pkg) (c : Nat) (x : Cmd) : Option Status :=
  if lsBytes < x.laneTable + 64 then some 0x3104
  else
    let b := Memory.readBytes (k.core c).ls x.laneTable 64
    if fieldAt b 28 36 ≠ 0 then some 0x3101
    else if headerBad b then some 0x3105
    else none

/-- Bytes of entry `i` of a lane table. -/
def Pkg.laneEntry (k : Pkg) (c : Nat) (x : Cmd) (i : Nat) : Bytes :=
  Memory.readBytes (k.core c).ls (x.laneTable + 64 + 32 * i) 32

/-- Reserved fields of a lane entry. -/
def laneReserved (b : Bytes) : Bool := bits (fieldAt b 0 4) 30 21 != 0 || fieldAt b 20 12 != 0

/-! ### Operand checks (R288–R291, R296, R298–R304, R315, R316, R991, R998, R999) -/

/-- Storage extents of a descriptor at the listed dimensions. -/
def Desc.has (d : Desc) (es : List (Nat × Nat)) : Bool := es.all (fun p => d.e p.1 == p.2)

/-- Orientation and format of one operand (Table 7-1, R315, R316): 0 Q, 1 K, 2 V, 3 O, 4 STATE. -/
def attnOwnBad (x : Cmd) (which : Nat) (d : Desc) : Bool :=
  let kv := [1, 2].contains which
  d.transposed != (which == 1 || (which == 2 && d.fmt.mx)) ||
  (match which with
    | 0 => d.fmt.int || d.format == 9
    | 1 => false
    | 2 => !(([1, 2, 3, 4, 5, 6, 7, 8] : List Nat).contains d.format)
    | 3 => d.fmt.int || (x.sequence && d.format != 9)
    | _ => d.format != 9) ||
  (x.batch && kv && (!(([1, 2, 3, 4, 7] : List Nat).contains d.format) || d.sel == 4)) ||
  (!x.batch && !(d.has (if which = 4 then [(0, 1), (3, 2), (4, 1), (5, 1)] else [(3, 1), (4, 1), (5, 1)])))

/-- The dimension of V that counts keys. -/
def Desc.keyDim (d : Desc) : Nat := if d.fmt.mx then 0 else 1

/-- Step 5 of R991: each descriptor and the lane-table header, in the order of the body fields. -/
def Pkg.attnStep5 (k : Pkg) (c : Nat) (x : Cmd) : Option Status :=
  let q := k.operand c x 16
  let kd := (k.operand c x 24).d
  let vd := (k.operand c x 32).d
  let h := k.laneHeader c x
  let one (which off : Nat) (more : Bool) : Option Status :=
    match k.descCheck c (trefDesc (x.f off 8)) with
    | some st => some st
    | none => if attnOwnBad x which (k.operand c x off).d || more then some 0x3105 else none
  let header : Option Status :=
    if x.batch then
      match k.headerCheck c x with
      | some st => some st
      | none => if h.lanes ≠ q.d.e 4 then some 0x3105 else none
    else none
  [one 0 16 false, header,
   one 1 24 (x.batch && decide (h.pageBytes < kd.reach 0)),
   one 2 32 (if x.batch then x.laneTable != trefData (x.f 32 8) || decide (h.pageBytes < h.vOff + vd.reach h.vOff)
     else vd.e vd.keyDim != kd.e 1),
   one 3 40 (!x.batch && (k.operand c x 40).d.e 1 != q.d.e 1),
   one 4 48 (!x.batch && (k.operand c x 48).d.e 1 != q.d.e 1)].findSome? (fun o => o)

/-- Step 7 of R991: extents, HEADS and MODE. -/
def Pkg.attnExtentBad (k : Pkg) (c : Nat) (x : Cmd) : Bool :=
  let q := (k.operand c x 16).d
  let kd := (k.operand c x 24).d
  let vd := (k.operand c x 32).d
  let o := (k.operand c x 40).d
  let st := (k.operand c x 48).d
  let d := q.e 0
  let hd := x.heads
  let h := k.laneHeader c x
  d % 32 != 0 || decide (256 < d) || kd.e 0 != d || vd.e (1 - vd.keyDim) != d || o.e 0 != d
    || q.e 2 != hd || o.e 2 != hd || st.e 2 != hd || !(kd.e 2 == 1 || kd.e 2 == hd) || !(vd.e 2 == 1 || vd.e 2 == hd)
    || (x.batch && (decide (32 < q.e 1) || o.e 1 != q.e 1 || st.e 1 != q.e 1 || o.e 4 != h.lanes || st.e 4 != h.lanes
        || kd.e 1 != h.tpp || vd.e vd.keyDim != h.tpp || !q.has [(3, 1), (5, 1)] || !o.has [(3, 1), (5, 1)]
        || !st.has [(0, 1), (3, 2), (5, 1)] || !kd.has [(3, 1), (4, 1), (5, 1)] || !vd.has [(3, 1), (4, 1), (5, 1)]))
    || decide (1 < x.f 60 1 % 4) || hd == 0 || decide (8 < hd)

/-- The read and write sets (R298, R314); a BATCH whose header is bad only reads what its checks read. -/
def Pkg.attnSets (k : Pkg) (c : Nat) (x : Cmd) : List (Nat × Nat) × List (Nat × Nat) :=
  let foot (o : Nat) : Nat × Nat := (k.operand c x o).d.footprint (k.operand c x o).data
  let descs := [16, 24, 32, 40, 48].map (fun o => (trefDesc (x.f o 8), 32))
  if x.batch then
    let h := k.laneHeader c x
    if (k.headerCheck c x).isSome then ((x.laneTable, 64) :: descs, []) else
    ([foot 16, (x.laneTable, 64 + 32 * h.lanes)] ++ descs,
     [(h.stage, h.slots * 65536), foot 40, foot 48, (h.status, 2 * h.lanes)])
  else ([foot 16, foot 24, foot 32] ++ descs, [foot 40, foot 48])

/-- All the checks of an ATTN_BLOCK after its word checks. -/
def Pkg.attnCheck (k : Pkg) (c : Nat) (x : Cmd) : Option Status :=
  match k.attnStep5 c x with
  | some st => some st
  | none =>
    let q := k.operand c x 16
    let kt := k.operand c x 24
    let vt := k.operand c x 32
    let h := k.laneHeader c x
    let bf := vt.d.format == 8
    let sets := k.attnSets c x
    firstBad [
      (badPair q.d kt.d || (bf && q.d.format != 8), 0x3103),
      (k.attnExtentBad c x, 0x3109),
      (!q.inRange || (!x.batch && (!kt.inRange || !vt.inRange)) || !(k.operand c x 40).inRange || !(k.operand c x 48).inRange
        || (x.batch && (decide (lsBytes < x.laneTable + 64 + 32 * h.lanes) || decide (lsBytes < h.stage + h.slots * 65536)
            || decide (lsBytes < h.status + 2 * h.lanes))), 0x3104),
      (x.batch && (List.range h.lanes).any (fun i => laneReserved (k.laneEntry c x i)), 0x3101),
      (setsMeet sets.1 sets.2, 0x310C)]

/-! ### Computing and writing rows -/

/-- Rows of one key range: all heads and query rows (head-major), from K and V tensors in a memory. -/
def attnRows (m : Memory) (q kt vt : Tensor) (hd mq lane nk : Nat) (scale : Num) (masked : Nat → Nat → Bool)
    (rows : List SoftRow) : List SoftRow × Nat :=
  let d := q.d.e 0
  let out := (rows.zip (List.range (hd * mq))).map (fun p =>
    let h := p.2 / mq
    let r := p.2 % mq
    softKeys m q kt vt (fun i => [i, r, h, 0, lane, 0]) (if kt.d.e 2 = 1 then 0 else h) (if vt.d.e 2 = 1 then 0 else h) d nk scale
      (masked r) p.1)
  (out.map Prod.fst, out.foldl (fun f p => f ||| p.2) 0)

/-- Write O and STATE rows of a lane (R295–R297). -/
def Pkg.writeRows (k : Pkg) (c : Nat) (x : Cmd) (lane : Nat) (rows : List SoftRow) : Pkg :=
  let o := k.operand c x 40
  let st := k.operand c x 48
  let mq := o.d.e 1
  let outs := (rows.zip (List.range rows.length)).map (fun p =>
    let (vs, f) := rowOut x.sequence p.1
    (([0, p.2 % mq, p.2 / mq, 0, lane, 0], vs), f))
  let k := (k.putLines c o x.sat (outs.map Prod.fst)).fpFlags c (outs.foldl (fun f p => f ||| p.2) 0)
  let put (k : Pkg) (i row : Nat) (v : Num) : Pkg :=
    let a := st.d.lineAt st.data [0, row % mq, row / mq, i, lane, 0]
    let bs := leBytes 4 v.bits32 ++ List.replicate 60 0
    let addrs := (List.range 64).map (fun j => swizzle st.d.sel (a + j))
    k.lsStore c ((addrs.zip bs).foldl (fun m p => Memory.write m p.1 p.2) (k.core c).ls) addrs
  (rows.zip (List.range rows.length)).foldl (fun k p => put (put k 0 p.2 p.1.m) 1 p.2 p.1.l) k

/-- Matrix steps of `blocks` key blocks (Table 7-2, R292). -/
def attnSteps (q kd vd : Desc) (hd blocks : Nat) : Nat :=
  let rows := if kd.e 2 = 1 ∧ vd.e 2 = 1 then (hd * q.e 1 + 31) / 32 else hd * ((q.e 1 + 31) / 32)
  2 * rows * (q.e 0 / 32) * blocks

/-- Bytes a list of operands occupies, and their descriptors. -/
def Pkg.attnTouch (k : Pkg) (c : Nat) (x : Cmd) (offs : List Nat) : List Nat :=
  x.trefs.flatMap (fun o => (List.range 32).map (fun i => trefDesc (x.f o 8) + i)) ++
  (offs.flatMap (fun o =>
    let t := k.operand c x o
    (indices ((List.range 6).map t.d.e)).flatMap (fun s => t.d.touch t.data s))) ++
  (if x.batch then (List.range (64 + 32 * (k.laneHeader c x).lanes)).map (fun i => x.laneTable + i) else [])

/-- An ATTN_BLOCK without BATCH (R293, R294). -/
def Pkg.attnPlain (k : Pkg) (c : Nat) (x : Cmd) : Pkg :=
  let q := k.operand c x 16
  let kt := k.operand c x 24
  let vt := k.operand c x 32
  let mq := q.d.e 1
  let nk := kt.d.e 1
  let (rows, f) := attnRows (k.core c).ls q kt vt x.heads mq 0 nk (fp32.decode (x.f 56 4))
    (fun r j => x.causal && decide (r + nk < j + mq)) (List.replicate (x.heads * mq) (emptyRow (q.d.e 0)))
  let k := k.addWrap (F.CORE_ME_STEPS c) (attnSteps q.d kt.d vt.d x.heads ((nk + 31) / 32))
  (k.writeRows c x 0 rows).fpFlags c f

/-! ### BATCH: lanes, pages and the ring (R305–R319) -/

/-- Bytes of a sequence's range. -/
def seqRange : Nat := 2 ^ 28

/-- A lane as its entry gives it (R305–R309): the pages to read, or its failure. -/
def Pkg.newLane (k : Pkg) (c : Nat) (x : Cmd) (h : LaneHeader) (i : Nat) : Lane :=
  let b := k.laneEntry c x i
  let skip := bit (fieldAt b 0 4) 31
  let tokens := fieldAt b 8 4
  let start := fieldAt b 12 4
  let none_ := skip || decide (tokens ≤ start) || fieldAt b 4 4 % 65536 != 0
  let first := start / h.tpp
  { seq := fieldAt b 0 4 % 2 ^ 21, region := fieldAt b 4 4, tokens := tokens, start := start, qpos := fieldAt b 16 4, skip := skip
    request := first, compute := first, stop := if none_ then first else (tokens + h.tpp - 1) / h.tpp
    out := [], landed := []
    failed := if !skip && (decide (tokens < start) || fieldAt b 4 4 % 65536 != 0) then some (first, 0x3109) else none
    rows := List.replicate (x.heads * (k.operand c x 16).d.e 1) (emptyRow ((k.operand c x 16).d.e 0)) }

/-- Nothing of the lane is left to request, fetch or compute. -/
def Lane.complete (l : Lane) : Bool := l.out.isEmpty && (l.failed.isSome || l.compute == l.stop)

/-- A lane has pages left to request. -/
def Lane.wants (l : Lane) : Bool := l.failed.isNone && decide (l.request < l.stop)

/-- Ring slots that hold a page or wait for one. -/
def ringUsed (ls : List Lane) : Nat := (ls.map (fun l => l.out.length + l.landed.length)).sum

/-- A lane's page lies beyond its 256 MiB range (R307). -/
def Lane.beyond (l : Lane) (page : Nat) : Bool := decide (seqRange < l.region + (page + 1) * 65536)

/-- Request pages in lane order, and within a lane in page order, while a slot is free and the lane has fewer than
`prefetch` outstanding (R311). A page beyond the lane's range fails the lane instead (R307). -/
def requestPages (slots prefetch : Nat) : Nat → List Lane → List Lane
  | 0, ls => ls
  | fuel + 1, ls =>
    match (ls.zip (List.range ls.length)).find? (fun p => p.1.wants) with
    | none => ls
    | some (l, i) =>
      if l.beyond l.request then
        requestPages slots prefetch fuel (ls.set i { l with failed := some (l.request, 0x3109), landed := [] })
      else if slots ≤ ringUsed ls ∨ prefetch ≤ l.out.length then ls
      else requestPages slots prefetch fuel (ls.set i { l with out := l.out ++ [l.request], request := l.request + 1 })

/-- A lane ends: its rows, its status and the counters (R308, R309, R317, R318). -/
def Pkg.finishLane (k : Pkg) (c : Nat) (x : Cmd) (h : LaneHeader) (i : Nat) (l : Lane) : Pkg :=
  let st := (l.failed.map Prod.snd).getD 0
  let putStatus (k : Pkg) : Pkg :=
    let a := h.status + 2 * i
    k.lsStore c (Memory.writeBytes (k.core c).ls a (leBytes 2 st)) [a, a + 1]
  if l.skip then putStatus k
  else
    let rows := if l.failed.isSome then l.rows.map (fun r => emptyRow r.acc.length) else l.rows
    let k := putStatus (k.writeRows c x i rows)
    let k := k.addWrap (F.CORE_ATT_DONE c) 1
    if l.failed.isSome then k.inc (F.CORE_ATT_FAILED c) else k

/-- Store the lanes of a command, after requesting what may be requested; lanes that complete by that are finished, and
with the last the command has been computed (R319). -/
def Pkg.lanesStep (k : Pkg) (c : Nat) (x : Cmd) (h : LaneHeader) (ls : List Lane) : Pkg :=
  let ls' := requestPages h.slots h.prefetch (h.slots + ls.length + 1) ls
  let ended := ((ls.zip ls').zip (List.range ls.length)).filter (fun p => !p.1.1.complete && p.1.2.complete)
  let k := ended.foldl (fun k p => k.finishLane c x h p.2 p.1.2) k
  if ls'.all Lane.complete then
    let k := k.updCmd c x.num (fun y => { y with lanes := [] })
    match (ls'.zip (List.range ls'.length)).find? (fun p => p.1.failed.isSome) with
    | some (l, i) =>
      let st := (l.failed.map Prod.snd).getD 0
      let k := (k.setF (F.CORE_ATT_FAIL_LANE c) i).report (F.CORE_ATT_FAIL_STATUS c) st .core c i
      (k.computed c x none).updCmd c x.num (fun y => { y with status := 0x0102 })
    | none => k.computed c x none
  else k.updCmd c x.num (fun y => { y with lanes := ls' })

/-- A checked BATCH command begins: its lanes are set up and their first pages requested. -/
def Pkg.attnBatch (k : Pkg) (c : Nat) (x : Cmd) : Pkg :=
  let h := k.laneHeader c x
  let ls := (List.range h.lanes).map (k.newLane c x h)
  let k := ((ls.zip (List.range ls.length)).filter (fun p => p.1.complete)).foldl (fun k p => k.finishLane c x h p.2 p.1) k
  k.lanesStep c x h ls

/-- ATTN_BLOCK: its checks, then the whole computation, or the start of a BATCH. -/
def Pkg.attnBlock (k : Pkg) (c : Nat) (x : Cmd) : Pkg :=
  if !x.lanes.isEmpty then k
  else match k.attnCheck c x with
    | some st => k.computed c x (some { status := st })
    | none =>
      match k.lsRead c (k.attnTouch c x (if x.batch then [16] else [16, 24, 32])) with
      | (k, some b) => k.computed c x (some b)
      | (k, none) => if x.batch then k.attnBatch c x else (k.attnPlain c x).computed c x none

/-- Compute a lane's landed pages in page order (R306, R312); `fuel` bounds the pages. -/
def Pkg.computePages (k : Pkg) (c : Nat) (x : Cmd) (h : LaneHeader) (i : Nat) : Nat → Lane → Pkg × Lane
  | 0, l => (k, l)
  | fuel + 1, l =>
    match l.landed.find? (fun p => p.1 == l.compute) with
    | none => (k, l)
    | some (page, slot) =>
      let q := k.operand c x 16
      let base := h.stage + slot * 65536
      let kt : Tensor := { d := (k.operand c x 24).d, data := base }
      let vt : Tensor := { d := (k.operand c x 32).d, data := base + h.vOff }
      let (rows, f) := attnRows (k.core c).ls q kt vt x.heads (q.d.e 1) i h.tpp (fp32.decode (x.f 56 4))
        (fun r j =>
          let t := page * h.tpp + j
          decide (t < l.start) || decide (l.tokens ≤ t) || (x.causal && decide (l.qpos + r / h.rowsPerPos < t))) l.rows
      let k := (k.addWrap (F.CORE_ME_STEPS c) (attnSteps q.d kt.d vt.d x.heads (h.tpp / 32))).fpFlags c f
      k.computePages c x h i fuel
        { l with rows := rows, compute := page + 1, landed := l.landed.filter (fun p => p.1 != page) }

/-- A page of a lane fails (R317): the first failing page in page order decides the code; fetched pages are discarded. -/
def Lane.fail (l : Lane) (page : Nat) (st : Status) : Lane :=
  let first := match l.failed with
    | some (p, s) => if page < p then (page, st) else (p, s)
    | none => (page, st)
  { l with failed := some first, landed := [] }

/-- Store a changed lane, finishing it when it is complete, and go on. -/
def Pkg.laneDone (k : Pkg) (c : Nat) (x : Cmd) (h : LaneHeader) (i : Nat) (new : Lane) : Pkg :=
  let k := if new.complete then k.finishLane c x h i new else k
  k.lanesStep c x h (x.lanes.set i new)

/-- A requested page lands in ring slot `slot`, or its fetch fails (R305, R310, R312, R317); `wait` cycles passed in which
the matrix engine waited for it. -/
def Pkg.pageArrive (k : Pkg) (c : Nat) (x : Cmd) (lane page slot wait : Nat) : Pkg :=
  let h := k.laneHeader c x
  match x.lanes[lane]? with
  | none => k
  | some l =>
    if !l.out.contains page ∨ h.slots ≤ slot ∨ x.lanes.any (fun y => y.landed.any (fun p => p.2 == slot)) then k
    else
      let k := k.addWrap (F.CORE_ATT_WAIT c) wait
      let sl := k.coreSlot c
      let va := k.getF (F.XLT_KV_BASE sl) * 2 ^ 49 + l.seq * seqRange + l.region + page * 65536
      let (k, bs, bad) := k.vread sl (.mover c) va h.pageBytes
      let at_ := h.stage + slot * 65536
      let k := k.lsStore c (Memory.writeBytes (k.core c).ls at_ bs) ((List.range bs.length).map (fun i => at_ + i))
      let k := k.addWrap (F.CORE_MOV_BYTES c) bs.length
      let l1 := { l with out := l.out.erase page }
      match bad with
      | some b =>
        let k := if l.failed.isSome then k.addWrap (F.CORE_ATT_PAGES c) 1 else k
        k.laneDone c x h lane (l1.fail page b.status)
      | none =>
        let k := k.addWrap (F.CORE_ATT_PAGES c) 1
        if l.failed.isSome then k.laneDone c x h lane l1
        else
          let (k, l2) := k.computePages c x h lane (l.landed.length + 1) { l1 with landed := l1.landed ++ [(page, slot)] }
          k.laneDone c x h lane l2

/-! ### Commands -/

/-- Lane slots in use on a cluster (R313). -/
def Pkg.lanesHeld (k : Pkg) (cluster : Nat) : Nat :=
  ((List.range 16).map (fun i => match k.play (16 * cluster + i) with
    | some p => (p.cmds.map Cmd.laneSlots).sum
    | none => 0)).sum

/-- Lane slots a command needs: the lanes of a BATCH whose header is good. -/
def Pkg.lanesNeeded (k : Pkg) (c : Nat) (x : Cmd) : Nat :=
  if x.op = 0x03 ∧ x.batch = true ∧ k.headerCheck c x = none then (k.laneHeader c x).lanes else 0

/-- Footprints of every command but GROUPED_GEMM and ROUTE. -/
def Pkg.attnOrBase (k : Pkg) (c : Nat) (x : Cmd) : List (Nat × Nat) × List (Nat × Nat) :=
  if x.op = 0x03 then k.attnSets c x else k.baseSets c x

/-- ATTN_BLOCK (R288–R320). -/
def execAttnBlock (p : PkgId) (core : CoreId) (t : Nat) (s : State) : Host.Outcome State Fault Refusal :=
  .next (s.updPkg p (fun k => (k.at t).onStarted core 0x03 (fun k x => k.attnBlock core x)))

/-- KV_PAGE_ARRIVE (R310–R312, R317). -/
def execKvPageArrive (p : PkgId) (core : CoreId) (lane page slot wait t : Nat) (s : State) : Host.Outcome State Fault Refusal :=
  .next (s.updPkg p (fun k => (k.at t).onStarted core 0x03 (fun k x => k.pageArrive core x lane page slot wait)))

end Sys2Proof.Machine
end

