-- ==== Sys2Proof/Machine/HallTime.lean ====
section
/-! DEFINITION. Hall Time: markers, delay and offset, parent and root, alignment states, the external reference and
the cold start of a hall (02_hall_time.md, R45–R73; R696). -/

namespace Sys2Proof.Machine

/-! ### Accessors -/

/-- Marker state of port `n`. -/
def Pkg.ptime (k : Pkg) (n : Nat) : PortTime := k.time.ports.toList.getD n {}

/-- Replace the marker state of port `n`. -/
def Pkg.setPtime (k : Pkg) (n : Nat) (t : PortTime) : Pkg :=
  { k with time := { k.time with ports := k.time.ports.setIfInBounds n t } }

/-- Root key of this package (R53). -/
def Pkg.rootKey (k : Pkg) : Nat :=
  match k.lup.active with
  | some l =>
    if k.rack = l.time.cardRack ∧ l.time.candidates.contains k.id then l.time.candidates.findIdx (· == k.id)
    else 4 + k.rack * 72 + k.id
  | none => 4 + k.rack * 72 + k.id

/-- A 32-bit signed register value. -/
def Pkg.rate (k : Pkg) : Int := toSigned 32 (k.getF F.HTM_RATE_PPB)

/-- Enter an alignment state (Table 2-3), with the events of entering or leaving LOCKED and of FAULT. -/
def Pkg.setAlign (k : Pkg) (st : Nat) : Pkg :=
  let was := k.getF F.HTM_STATE
  let k := k.setF F.HTM_STATE st
  let k := if was ≠ 2 ∧ st = 2 then k.raise F.HTM_LOCK_ACQUIRED else k
  let k := if was = 2 ∧ st ≠ 2 then k.raise F.HTM_LOCK_LOST else k
  let k := if was ≠ 4 ∧ st = 4 then k.raise F.HTM_FAULT else k
  let k := if was ≠ 3 ∧ st = 3 then { k with time := { k.time with freeSince := k.now, freeHeld := false } } else k
  if st = 2 then k.judgeReady else k

/-- Load the counter: the times of a bring-up under way move with it. -/
def Pkg.setClock (k : Pkg) (v : Nat) : Pkg :=
  let mv (x : Nat) : Nat := x + v - k.now
  { k with now := v
           bring := { k.bring with released := k.bring.released.map mv, phaseAt := mv k.bring.phaseAt
                                   pendingAt := mv k.bring.pendingAt, goAt := k.bring.goAt.map mv } }

/-- Publish a hall reference state, with its events. -/
def Pkg.setRef (k : Pkg) (r : Nat) : Pkg :=
  let was := k.getF F.HTM_REF
  let k := k.setF F.HTM_REF r
  let k := if was ≠ r ∧ r = 1 then k.raise F.HTM_REF_RESTORED else k
  if was ≠ r ∧ (r = 2 ∨ r = 3) then k.raise F.HTM_REF_HOLDOVER else k

/-- May scheduled-class packets be injected (R58). -/
def Pkg.schedAllowed (k : Pkg) : Bool :=
  k.getF F.HTM_STATE == 2 || (k.getF F.HTM_STATE == 3 && !k.time.freeHeld)

/-! ### Markers -/

/-- The reserved fields of a marker are zero (Table 2-2, R50); a wrong `MK_TYPE` counts as one. -/
def markerReservedZero (b : Bytes) : Bool :=
  fieldAt b 0 1 == 0x5A && decide (bits (fieldAt b 1 1) 7 4 ≤ 2) && decide (fieldAt b 4 4 < 2 ^ 20) && fieldAt b 38 2 == 0

/-- The marker passes its CRC. -/
def markerCrcGood (b : Bytes) : Bool := b.length == 52 && fieldAt b 48 4 == crc32c (b.take 48)

/-- What a port hears in a marker received at local time `rx` (1/256 tick). -/
def heardOf (b : Bytes) (rx : Nat) : Heard :=
  { valid := bit (fieldAt b 1 1) 0, locked := bit (fieldAt b 1 1) 1, ref := bits (fieldAt b 1 1) 3 2
    rootKey := fieldAt b 4 4 % 2 ^ 20, rank := fieldAt b 37 1, seq := fieldAt b 2 2
    tx := fieldAt b 8 8 * 256 + fieldAt b 34 1, rx := rx }

/-- The marker block a port sends at its Hall Time `tx` (1/256 tick) (Table 2-2, R49). -/
def Pkg.markerBlock (k : Pkg) (n tx : Nat) : Bytes :=
  let t := k.ptime n
  let flags := k.getF F.HTM_VALID + (if k.getF F.HTM_STATE = 2 then 2 else 0) + k.getF F.HTM_REF * 4 + t.auxSel * 16
  let echo := t.heard
  let aux := if t.auxSel = 0 then k.getF F.HTM_PPS_HT else if t.auxSel = 1 then k.getF F.HTM_PPS_TAI else k.getF F.HTM_REF_PHASE
  let b := leBytes 1 0x5A ++ leBytes 1 flags ++ leBytes 2 t.txSeq ++ leBytes 4 (k.getF F.HTM_ROOT_KEY) ++ leBytes 8 (tx / 256)
    ++ leBytes 8 ((echo.map Heard.tx).getD 0 / 256) ++ leBytes 8 ((echo.map Heard.rx).getD 0 / 256)
    ++ leBytes 2 ((echo.map Heard.seq).getD 0) ++ leBytes 1 (tx % 256) ++ leBytes 1 ((echo.map Heard.tx).getD 0 % 256)
    ++ leBytes 1 ((echo.map Heard.rx).getD 0 % 256) ++ leBytes 1 (k.getF F.HTM_RANK) ++ leBytes 2 0 ++ leBytes 8 aux
  b ++ leBytes 4 (crc32c b)

/-- A marker has been sent on port `n` (R45, R49). -/
def Pkg.markerSent (k : Pkg) (n : Nat) : Pkg :=
  let t := k.ptime n
  k.setPtime n { t with txSeq := (t.txSeq + 1) % 65536, sent := t.sent + 1, auxSel := (t.auxSel + 1) % 3
                        lastPeriod := some (k.now / 8192) }

/-- Is a marker due on port `n` at the next control frame (R391). -/
def Pkg.markerDue (k : Pkg) (n : Nat) : Bool :=
  match (k.ptime n).lastPeriod with
  | none => true
  | some i => decide (i < k.now / 8192)

/-! ### Delay and offset (R51) -/

/-- One-way link delay, in 1/256 tick. -/
def linkDelay (t1 t2 t3 t4 : Int) : Int := divToZero ((t4 - t1) - (t3 - t2)) 2

/-- Peer time minus own time, in 1/256 tick. -/
def peerOffset (t1 t2 t3 t4 : Int) : Int := divToZero ((t2 - t1) + (t3 - t4)) 2

/-- The sample of a marker on port `n`: delay and offset, when its echo names one of the last 8 markers sent. -/
def Pkg.sample (k : Pkg) (n : Nat) (b : Bytes) (t4 : Nat) : Option (Int × Int) :=
  let t := k.ptime n
  let age := (65536 + t.txSeq - 1 - fieldAt b 32 2) % 65536
  let t1 : Int := fieldAt b 16 8 * 256 + fieldAt b 35 1
  let t2 : Int := fieldAt b 24 8 * 256 + fieldAt b 36 1
  let t3 : Int := fieldAt b 8 8 * 256 + fieldAt b 34 1
  if age < 8 ∧ age < t.sent then some (linkDelay t1 t2 t3 t4, peerOffset t1 t2 t3 t4) else none

/-! ### Parent and root (R53–R55) -/

/-- The ports whose peers advertise VALID. -/
def Pkg.validPorts (k : Pkg) : List (Nat × Heard) :=
  (List.range 20).filterMap (fun n => match (k.ptime n).heard with
    | some h => if h.valid then some (n, h) else none
    | none => none)

/-- Is neighbour `a` a better parent than `b` (R55). -/
def betterParent (a b : Nat × Heard) : Bool :=
  decide (a.2.rootKey < b.2.rootKey) ||
    (a.2.rootKey == b.2.rootKey && (decide (a.2.rank < b.2.rank) || (a.2.rank == b.2.rank && decide (a.1 < b.1))))

/-- The best parent among the neighbours that advertise a root key below this package's own. -/
def Pkg.bestParent (k : Pkg) : Option (Nat × Heard) :=
  (k.validPorts.filter (fun e => decide (e.2.rootKey < k.rootKey))).foldl
    (fun acc e => match acc with
      | none => some e
      | some a => some (if betterParent e a then e else a)) none

/-- The reference state a root reports: its card's state when it is a candidate with PPS, otherwise FREE. -/
def Pkg.rootRef (k : Pkg) : Nat :=
  if k.rootKey < 4 ∧ !k.time.rateFrozen then k.getF F.HTM_REF_STATE else 3

/-- Forget the filtered offset when the parent changes; the rate is held (R55, R56). -/
def Pkg.dropSamples (k : Pkg) : Pkg :=
  { k with time := { k.time with samples := [], within := 0, beyond := 0 } }

/-- PARENT_SELECT: choose root, parent and rank from what the ports have heard. -/
def Pkg.selectParent (k : Pkg) : Pkg :=
  let oldParent := k.getF F.HTM_PARENT_PORT
  let oldRoot := k.getF F.HTM_ROOT_KEY
  let k := match k.bestParent with
    | some (n, h) =>
      let k := k.setF F.HTM_IS_ROOT 0
      let k := (k.setF F.HTM_PARENT_PORT n).setF F.HTM_RANK (min 254 (h.rank + 1))
      let k := k.setF F.HTM_ROOT_KEY h.rootKey
      let k := if k.getF F.HTM_STATE = 3 then k.setAlign 1 else k
      k.setRef h.ref
    | none =>
      let k := (k.setF F.HTM_PARENT_PORT 31).setF F.HTM_PARENT_OFFSET 0x80000000
      if k.flag F.HTM_VALID then
        let k := if k.getF F.HTM_STATE = 4 then k else k.setAlign 2
        let k := ((k.setF F.HTM_IS_ROOT 1).setF F.HTM_RANK 0).setF F.HTM_ROOT_KEY k.rootKey
        k.setRef k.rootRef
      else (k.setF F.HTM_IS_ROOT 0).setF F.HTM_RANK 255
  let k := if k.getF F.HTM_PARENT_PORT ≠ oldParent then (k.dropSamples).raise F.HTM_PARENT_CHANGE else k
  if k.getF F.HTM_ROOT_KEY ≠ oldRoot then k.raise F.HTM_ROOT_CHANGE else k

/-- No parent with VALID set and not root: FREE, the rate frozen (Table 2-3). -/
def Pkg.loseParent (k : Pkg) : Pkg :=
  if k.flag F.HTM_VALID && k.getF F.HTM_PARENT_PORT == 31 && !k.flag F.HTM_IS_ROOT && k.getF F.HTM_STATE != 4
  then k.setAlign 3 else k

/-- A port stops hearing its peer. -/
def Pkg.forgetPeer (k : Pkg) (n : Nat) : Pkg :=
  ((k.setPtime n { k.ptime n with heard := none, sent := 0, lastPeriod := none }).selectParent).loseParent

/-! ### Steering (R56, R57) -/

/-- Keep a value within ±`b`. -/
def clampInt (b v : Int) : Int := max (-b) (min b v)

/-- The mean of the filter's samples. -/
def meanOffset (xs : List Int) : Int := if xs.isEmpty then 0 else divToZero xs.sum xs.length

/-- Take one offset sample from the parent: filter, steer the rate within its bound, and move between ACQUIRE and
LOCKED; a first sample beyond 1 ms from a new parent is FAULT. -/
def Pkg.takeOffset (k : Pkg) (o : Int) : Pkg :=
  let fresh := k.time.samples.isEmpty
  if fresh ∧ o.natAbs > 512000000 then k.setAlign 4
  else if k.getF F.HTM_STATE = 4 then k
  else
    let xs := (o :: k.time.samples).take 16
    let within := if o.natAbs ≤ 512 then k.time.within + 1 else 0
    let beyond := if o.natAbs > 2048 then k.time.beyond + 1 else 0
    let k := { k with time := { k.time with samples := xs, within := within, beyond := beyond } }
    let k := k.setF F.HTM_PARENT_OFFSET (ofSigned 32 (meanOffset xs))
    let locked := k.getF F.HTM_STATE == 2
    let bound : Int := if locked then 10000 else 50000
    let k := k.setF F.HTM_RATE_PPB (ofSigned 32 (clampInt bound (Config.steer (meanOffset xs) k.rate)))
    if !locked ∧ 64 ≤ within then k.setAlign 2
    else if locked ∧ 16 ≤ beyond then
      { k.setAlign 1 with time := { k.time with within := 0, beyond := 0 } }
    else k

/-- COUNTER_LOAD (R71): load the counter from a neighbour's time plus the measured delay, and enter ACQUIRE. -/
def Pkg.loadCounter (k : Pkg) (h : Heard) (delay : Int) (now4 : Nat) : Pkg :=
  let t : Int := h.tx + delay + (now4 - h.rx : Nat)
  ((k.setClock (t.toNat / 256)).raise F.HTM_VALID).setAlign 1

/-- A good marker on port `n`, received at local time `t4` (1/256 tick). -/
def Pkg.hearMarker (k : Pkg) (n : Nat) (b : Bytes) (t4 : Nat) : Pkg :=
  let smp := k.sample n b t4
  let h := heardOf b t4
  let k := k.setPtime n { k.ptime n with heard := some h }
  let k := match smp with
    | some (d, _) => (k.setF (F.HTM_DELAY n) (ofSigned 24 d)).setF (F.HTM_DELAY_VALID n) 1
    | none => k
  let loaded := !k.flag F.HTM_VALID && h.valid
  let k := match loaded, smp with
    | true, some (d, _) => k.loadCounter h d t4
    | _, _ => k
  let k := (k.selectParent).loseParent
  let k := if k.getF F.HTM_PARENT_PORT = n then
      let aux := fieldAt b 40 8
      match bits (fieldAt b 1 1) 7 4 with
      | 0 => k.setF F.HTM_PPS_HT aux
      | 1 => k.setF F.HTM_PPS_TAI aux
      | _ => k
    else k
  match smp with
  | some (_, o) => if k.getF F.HTM_PARENT_PORT = n ∧ !loaded ∧ k.flag F.HTM_VALID then k.takeOffset o else k
  | none => k

/-- A marker that fails its CRC or carries a nonzero reserved field is dropped and counted (R48, R50). -/
def Pkg.receiveMarker (k : Pkg) (n : Nat) (b : Bytes) (t4 : Nat) : Pkg :=
  if markerCrcGood b && markerReservedZero b then k.hearMarker n b t4
  else (k.raise F.HTM_MARKER_CRC).inc (F.LNK_COUNTS n 2)

/-- MARKER_RECEIVE (R51): a time marker arrives on a port that is UP, at local time `t4` in 1/256 tick. -/
def execMarkerReceive (p : PkgId) (port : PortId) (block : Bytes) (t4 : Nat) (s : State) :
    Host.Outcome State Fault Refusal :=
  .next (s.updPkg p (fun k =>
    let k := k.at (t4 / 256)
    if k.getF (F.LNK_ST port) = 5 then k.receiveMarker port block t4 else k))

/-- FREE_LIMIT (R58): FREE has lasted 1 s; scheduled-class injection is held. -/
def execFreeLimit (p : PkgId) (t : Nat) (s : State) : Host.Outcome State Fault Refusal :=
  .next (s.updPkg p (fun k =>
    let k := k.at t
    if k.getF F.HTM_STATE = 3 ∧ k.time.freeSince + 2000000000 ≤ k.now then
      { k with time := { k.time with freeHeld := true } }
    else k))

/-! ### The external reference (R61–R70) -/

/-- The signed phase error of a PPS edge against `HTM_REF_PHASE` modulo one second, in ticks. -/
def phaseError (ht phase : Nat) : Int :=
  let d := (2000000000 + ht - phase % 2000000000) % 2000000000
  if d < 1000000000 then d else (d : Int) - 2000000000

/-- The root steers toward the reference (R64, R65): within ±5 ppm, changing by at most 0.1 ppm per second; edges
come one second apart. -/
def Pkg.steerToReference (k : Pkg) (ht : Nat) : Pkg :=
  let want := Config.steerReference (phaseError ht (k.getF F.HTM_REF_PHASE)) k.rate
  let step := clampInt 100 (want - k.rate)
  k.setF F.HTM_RATE_PPB (ofSigned 32 (clampInt 5000 (k.rate + step)))

/-- PPS_EDGE (R64): an edge on `PKG_PPS_IN` of P00–P03 at Hall Time `t`; the root timestamps it and steers. -/
def execPpsEdge (p : PkgId) (t : Nat) (s : State) : Host.Outcome State Fault Refusal :=
  .next { (s.updPkg p (fun k =>
    let k := k.at t
    if k.id < 4 ∧ k.rootKey < 4 then
      let k := { k with time := { k.time with rateFrozen := false } }
      if k.flag F.HTM_IS_ROOT then
        let k := (k.setF F.HTM_PPS_HT t).setF F.HTM_PPS_TAI (k.getF F.HTM_REF_TAI)
        let k := k.setRef k.rootRef
        if k.getF F.HTM_REF_STATE = 1 ∨ k.getF F.HTM_REF_STATE = 2 then k.steerToReference t else k
      else k
    else k)) with card := { s.card with lastPps := max s.card.lastPps t } }

/-- CARD_POLL (R64): the umpire copies the time card's state and the TAI second of the next edge to P00–P03, and posts
HallTimeHoldover when it first sees HOLDOVER. -/
def execCardPoll (tai : Nat) (s : State) : Host.Outcome State Fault Refusal :=
  let entering := s.card.state == 2 && (s.pkg 0).getF F.HTM_REF_STATE != 2
  let s := { s with card := { s.card with nextTai := tai } }
  let s := s.mapPkgs (fun k =>
    if k.id < 4 then
      let k := (k.setF F.HTM_REF_STATE s.card.state).setF F.HTM_REF_TAI tai
      if k.flag F.HTM_IS_ROOT && decide (k.rootKey < 4) then k.setRef k.rootRef else k
    else k)
  .next (if entering then s.post "HallTimeHoldover" .warning 0 else s)

/-- The Sync interval of the active lineup, in ticks: 2^`TM_SYNC_LOG` seconds. -/
def syncTicks (e : Int) : Nat :=
  match e with
  | .ofNat n => 2000000000 * 2 ^ n
  | .negSucc n => 2000000000 / 2 ^ (n + 1)

/-- The TIME section in force at P00. -/
def State.timeSection (s : State) : LupTime := ((s.pkg 0).lup.active.map Lineup.time).getD {}

/-- REFERENCE_LOST (R68, Table 2-4): three Sync intervals without a valid Sync at Hall Time `t`; the card enters
HOLDOVER. -/
def execReferenceLost (lastSync t : Nat) (s : State) : Host.Outcome State Fault Refusal :=
  if s.card.state = 1 ∧ lastSync + 3 * syncTicks s.timeSection.syncLog ≤ t then
    .next { s with card := { s.card with state := 2, lastSync := lastSync, lostAt := some t, backAt := none, limitPosted := false } }
  else .next s

/-- PPS_LOSS (R69): the card has delivered no PPS for 2 s; the root freezes its rate and the reference is FREE. -/
def execPpsLoss (t : Nat) (s : State) : Host.Outcome State Fault Refusal :=
  if s.card.lastPps + 4000000000 ≤ t then
    .next (s.mapPkgs (fun k =>
      if k.rootKey < 4 then
        let k := { k with time := { k.time with rateFrozen := true } }
        if k.flag F.HTM_IS_ROOT then k.setRef 3 else k
      else k))
  else .next s

/-- REFERENCE_QUALIFIED (R70): a reference that returned at `since` has qualified for 60 s; the card reports LOCKED. -/
def execReferenceQualified (since t : Nat) (s : State) : Host.Outcome State Fault Refusal :=
  if s.card.state ≠ 1 ∧ since + 120000000000 ≤ t then
    .next { s with card := { s.card with state := 1, lastSync := t, lostAt := none, backAt := some since, limitPosted := false } }
  else .next s

/-- HOLDOVER_LIMIT (R68, Table 2-4): the lineup's holdover limit after the loss; Hall Time runs on unchanged. -/
def execHoldoverLimit (t : Nat) (s : State) : Host.Outcome State Fault Refusal :=
  match s.card.lostAt with
  | some t0 =>
    if s.card.state = 2 ∧ !s.card.limitPosted ∧ t0 + s.timeSection.holdover * 2000000000 ≤ t then
      .next (({ s with card := { s.card with limitPosted := true } } : State).post "HallTimeHoldoverLimit" .critical 0)
    else .next s
  | none => .next s

/-- HIGH_WATER_RECORD (R72): every second the umpire records the Hall Time high-water mark. -/
def execHighWaterRecord (t : Nat) (s : State) : Host.Outcome State Fault Refusal :=
  .next { s with highWater := max s.highWater t }

/-! ### Cold start (R72, R696) -/

/-- Seed a package's counter: it becomes valid, and with no better neighbour it is root and LOCKED (R59). -/
def Pkg.seed (k : Pkg) (v : Nat) : Pkg :=
  if k.flag F.HTM_VALID then k
  else ((((k.setClock (max k.now v)).raise F.HTM_VALID).setAlign 1).selectParent)

/-- The largest of the three seed values of R72. -/
def seedValue (reference highWater clock : Nat) : Nat := max reference (max (highWater + 2000000000) clock)

/-- No package of the rack holds valid time. -/
def State.noneValid (s : State) : Bool := s.pkgs.toList.all (fun k => !k.flag F.HTM_VALID)

/-- COLD_HALL_SEED (R72): the umpire of the time-card rack seeds root candidate `p`. `reference` and `clock` are the
reference-derived Hall Time and the battery-backed clock's estimate; `hallValid` says another rack holds valid time. -/
def execColdHallSeed (p : PkgId) (hallValid : Bool) (reference clock : Nat) (s : State) :
    Host.Outcome State Fault Refusal :=
  let k := s.pkg p
  if s.noneValid ∧ !hallValid ∧ k.rootKey < 4 then
    .next (s.updPkg p (fun k => k.seed (seedValue reference s.highWater clock)))
  else .next s

end Sys2Proof.Machine
end

