-- ==== Sys2Proof/Machine/Links.lean ====
section
/-! DEFINITION. Fabric ports: identity, qualification, service monitoring, lane sparing, retraining, FAILED and
PEER_RESET, and the link map (09_braid.md; ring links of 12_hall.md). -/

namespace Sys2Proof.Machine

/-- Link state of port `n`. -/
def Pkg.lport (k : Pkg) (n : Nat) : LinkPort := k.links.toList.getD n {}

/-- Replace the link state of port `n`. -/
def Pkg.setLport (k : Pkg) (n : Nat) (l : LinkPort) : Pkg := { k with links := k.links.setIfInBounds n l }

/-- `LNK_ST` of port `n` (Table 9-9). -/
def Pkg.linkSt (k : Pkg) (n : Nat) : Nat := k.getF (F.LNK_ST n)

/-! ### The link map (R425, R426, R569) -/

/-- The body of a LINK_STATE packet (Table 10-5). -/
def linkStateBody (link out ht : Nat) : Bytes :=
  leBytes 2 link ++ leBytes 1 out ++ leBytes 1 0 ++ leBytes 8 ht

/-- Map port `n`'s link out or in at this package, and tell every package that keeps it in its map. -/
def Pkg.mapPort (k : Pkg) (n : Nat) (out : Bool) : Pkg :=
  let o := if out then 1 else 0
  let k := k.setF (F.LNK_MAPPED_OUT n) o
  if n < 16 then
    let link := linkNumber k.id n
    if k.linkOut link = out then k
    else (k.setLinkOut link out).sendRack 0x46 0 (linkStateBody link o k.hallTime)
  else match k.lup.active with
    | none => k
    | some l =>
      let row := decide (n < 18)
      let i := k.ringLink l n
      if k.ringOut row i = out then k
      else
        let link := (if row then 2 else 3) * 2 ^ 14 + i
        let others := (ringMembers l row k.rack).filter (fun v => v != ringSelf row k.rack)
        others.foldl (fun k v => k.sendHub 0x46 0 (ringRack row k.rack v * 128 + k.id) (linkStateBody link o k.hallTime))
          (k.setRingOut row i out)

/-- Enter a port state; leaving UP sets the event, maps the link out and stops hearing the peer. -/
def Pkg.enterPort (k : Pkg) (n st : Nat) : Pkg :=
  let was := k.linkSt n
  let k := (k.setF (F.LNK_ST n) st).setLport n { k.lport n with entered := k.now }
  let k := if was = 5 ∧ st ≠ 5 then (k.raise (F.LNK_EV_DOWN n)).forgetPeer n else k
  if st = 5 then k else k.mapPort n true

/-- Is port `n` one the active lineup enables: a strand port that STRANDS enables, or a hall port with a peer
(R383, R436, R552). -/
def Pkg.portEnabled (k : Pkg) (n : Nat) : Bool :=
  match k.lup.active with
  | none => false
  | some l => if n < 16 then bit l.strandEnable (n / 2) else (expectedPeer l k.rack k.id n).isSome

/-- Enter DETECT to train from the start, with the bring-up window. -/
def Pkg.enterDetect (k : Pkg) (n : Nat) : Pkg :=
  let k := ((k.setF (F.LNK_RETRAINING n) 0).setF (F.LNK_FAIL_CAUSE n) 0).setF (F.LNK_MIS_CAUSE n) 0
  let k := k.setLport n { k.lport n with attempts := 0, bringUp := true, detectAt := k.now, idRun := 0, spareReq := none, peerSpare := none }
  k.enterPort n 1

/-- Enter FAILED with a cause (R419): the notice is sent in two control frames, and PORT_FAILED is logged (R974). -/
def Pkg.failPort (k : Pkg) (n cause : Nat) : Pkg :=
  if k.linkSt n = 7 then k else
  let k := (k.setF (F.LNK_RETRAINING n) 0).setF (F.LNK_FAIL_CAUSE n) cause
  let k := (k.enterPort n 7).raise (F.LNK_EV_FAILED n)
  let k := k.setLport n { k.lport n with notice := 1, noticeLeft := 2, spareReq := none, peerSpare := none }
  k.logError 0x7C03 .port n cause

/-- Enter MISWIRED with a cause (R396–R399). -/
def Pkg.miswire (k : Pkg) (n cause : Nat) : Pkg :=
  let k := (k.setF (F.LNK_MIS_CAUSE n) cause).setF (F.LNK_RETRAINING n) 0
  (k.enterPort n 6).raise (F.LNK_EV_MISWIRED n)

/-- R498: a retrain discards the replay buffer and the queued packets, and the let sequence restarts. The receiver then
grants its whole buffer: 16 credits for each channel and 768 shared (R465, R467). -/
def Pkg.clearPort (k : Pkg) (n : Nat) : Pkg :=
  let f := k.fport n
  let k := k.setFport n { f with queue := [], txBytes := [], txPos := 0, txStarts := [], txGap := false, replay := [], letQueue := [], nextLet := 0,
                                 lastInOrder := 0x7FFF, letReq := false, letFor := none, ackHeard := 0x7FFF, rxBytes := [],
                                 rxPos := 0, schedRx := 0, crHeard := List.replicate 16 0, crSpent := List.replicate 16 0,
                                 crGiven := List.replicate 16 16, shHeard := 0, shSpent := 0, shGiven := 768,
                                 rxOwn := List.replicate 16 0 }
  let k := { k with fab := { k.fab with
    arrived := k.fab.arrived.map (fun (a : Arrived) => if a.port = n then { a with own := 0, shared := 0 } else a) } }
  let k := k.setF (F.FAB_SHARED_HELD n) 0
  let k := (k.setF (F.FAB_REPLAY_FRAMES n) 0).setF (F.FAB_LETS_RUN n) 0
  k.refreshQueue n

/-- Begin a retrain (R416, R417); the fourth within 60 s is FAILED with cause RETRAIN_LIMIT instead (R497). -/
def Pkg.beginRetrain (k : Pkg) (n : Nat) : Pkg :=
  let recent := (k.lport n).retrains.filter (fun t => decide (k.now < t + 120000000000))
  if 3 ≤ recent.length then (k.failPort n 1)
  else
    let k := (k.enterPort n 2).setF (F.LNK_RETRAINING n) 1
    let k := k.setLport n { k.lport n with retrains := k.now :: recent, bringUp := false, idRun := 0, attempts := 0, spareReq := none, peerSpare := none }
    let k := ((k.raise (F.LNK_EV_RETRAIN n)).inc (F.LNK_COUNTS n 3)).setF (F.FAB_RETRAINS_60S n) (recent.length + 1)
    k.clearPort n

/-- Enter UP (R406): the link returns to the map, at the next epoch boundary when it comes from PEER_RESET (R424). -/
def Pkg.enterUp (k : Pkg) (n : Nat) : Pkg :=
  let k := k.clearPort n
  let k := (k.enterPort n 5).setF (F.LNK_RETRAINING n) 0
  let k := k.raise (F.LNK_EV_UP n)
  let l := k.lport n
  let k := k.setLport n { l with accepted := k.getF (F.LNK_PEER_SEEN n), attempts := 0, idRun := 0 }
  (if l.restoreAtEpoch then k else k.mapPort n false).judgeReady

/-- LINK_MAP_RESTORE (R424): links that left PEER_RESET and are UP return to the map at an epoch boundary. -/
def Pkg.restoreLinks (k : Pkg) : Pkg :=
  (List.range 20).foldl (fun k n =>
    let l := k.lport n
    if l.restoreAtEpoch ∧ k.linkSt n = 5 then
      (k.setLport n { l with restoreAtEpoch := false }).mapPort n false
    else k) k

/-! ### Identity (R396) -/

/-- The MISWIRED cause of an identity word, 0 when it is the expected one (`LNK_MIS_CAUSE`). -/
def Pkg.identityCause (k : Pkg) (n word : Nat) : Nat :=
  let exp := k.getF (F.LNK_PEER_EXP n)
  if bits word 63 53 ≠ bits exp 63 53 then 2
  else if bits word 52 41 ≠ bits exp 52 41 then 1
  else if bits word 31 0 ≠ k.getF F.LUP_STRUCT32 then 3
  else if word ≠ exp then 1
  else 0

/-- IDENTITY_DECIDED (R396): after 16 equal words a port in IDENTIFY goes to QUALIFY or MISWIRED; in UP a different
word is MISWIRED at once (R398). -/
def Pkg.hearIdentity (k : Pkg) (n word : Nat) : Pkg :=
  let l := k.lport n
  let k := k.setF (F.LNK_PEER_SEEN n) word
  if k.linkSt n = 3 then
    let run := if l.idRun ≠ 0 ∧ l.idLast = word then l.idRun + 1 else 1
    let k := k.setLport n { l with idLast := word, idRun := run }
    if run < 16 then k
    else if k.identityCause n word = 0 then k.enterPort n 4
    else k.miswire n (k.identityCause n word)
  else if k.linkSt n = 5 ∧ word ≠ l.accepted then k.miswire n (max 1 (k.identityCause n word))
  else k

/-! ### Qualification (R402–R407) -/

/-- Class of a lane with `errs` errors over a window whose CLEAN bound is `clean` (Table 9-6): the FAIL bound is 12
times it. -/
def laneClass (errs clean : Nat) : Nat := if errs ≤ clean then 1 else if errs ≤ 12 * clean then 2 else 3

/-- The four active lanes a receiver chooses (R404), as physical lanes. -/
def chooseLanes (cls errs : List Nat) : List Nat :=
  let c (l : Nat) := cls.getD l 3
  let e (l : Nat) := errs.getD l 0
  match [0, 1, 2, 3].find? (fun l => c l == 3) with
  | some bad => if c 4 ≠ 3 then [0, 1, 2, 3].map (fun l => if l = bad then 4 else l) else [0, 1, 2, 3]
  | none =>
    let flagged := [0, 1, 2, 3].filter (fun l => c l == 2)
    let worst := flagged.foldl (fun (b : Option Nat) l => match b with
      | none => some l
      | some m => if e m < e l then some l else some m) none
    match worst with
    | some bad => if c 4 = 1 then [0, 1, 2, 3].map (fun l => if l = bad then 4 else l) else [0, 1, 2, 3]
    | none => [0, 1, 2, 3]

/-- The mask of a list of lanes. -/
def laneMask (ls : List Nat) : Nat := ((List.range 5).map (fun l => if ls.contains l then 2 ^ l else 0)).sum

/-- Record a window's errors and classes in `LNK_LANE`. -/
def Pkg.recordLanes (k : Pkg) (n window : Nat) (errs cls : List Nat) : Pkg :=
  (List.range 5).foldl (fun k l =>
    ((k.setF (F.LNK_LN_ERRS n l) (min (2 ^ 32 - 1) (errs.getD l 0))).setF (F.LNK_LN_CLASS n l) (cls.getD l 0)).setF
      (F.LNK_LN_WINDOW n l) window) k

/-- Record which lanes are active and which is the idle spare. -/
def Pkg.recordRoles (k : Pkg) (n : Nat) (active : List Nat) : Pkg :=
  (List.range 5).foldl (fun k l => k.setF (F.LNK_LN_ROLE n l) (if active.contains l then 0 else 1)) k

/-- Set or clear the port's flag, with its event. -/
def Pkg.setFlagged (k : Pkg) (n : Nat) (b : Bool) : Pkg :=
  let was := k.flag (F.LNK_FLAGGED n)
  let k := k.setF (F.LNK_FLAGGED n) (if b then 1 else 0)
  if b && !was then k.raise (F.LNK_EV_FLAGGED n) else k

/-- The end of a qualification window with this receiver's lane errors; `peer` is the peer's active lanes when its
direction passed, `peerFlagged` whether one of them is FLAGGED. -/
def Pkg.endQualify (k : Pkg) (n : Nat) (errs : List Nat) (peer : Option Nat) (peerFlagged : Bool) : Pkg :=
  let l := k.lport n
  let clean := if l.bringUp then 425000 else 42500
  let cls := (List.range 5).map (fun i => laneClass (errs.getD i 0) clean)
  let k := k.recordLanes n (if l.bringUp then 1 else 2) errs cls
  let active := chooseLanes cls errs
  let pass := active.all (fun i => cls.getD i 3 != 3)
  match pass, peer with
  | true, some pa =>
    let k := (k.recordRoles n active).setF (F.LNK_RX_ACTIVE n) (laneMask active)
    let k := k.setF (F.LNK_TX_ACTIVE n) pa
    let k := k.setFlagged n (peerFlagged || active.any (fun i => cls.getD i 3 == 2))
    k.enterUp n
  | _, _ =>
    if k.flag (F.LNK_RETRAINING n) then k.failPort n 2
    else if 3 ≤ l.attempts + 1 then k.failPort n 2
    else k.setLport n { l with attempts := l.attempts + 1, entered := k.now }

/-! ### Service monitoring and sparing (R408–R415) -/

/-- The logical lane carried on physical lane `l` (`LNK_RX_ORDER`). -/
def Pkg.logicalLane (k : Pkg) (n l : Nat) : Nat :=
  ((List.range 5).find? (fun i => bits (k.getF (F.LNK_RX_ORDER n)) (3 * i + 2) (3 * i) == l)).getD l

/-- The end of a 1 s service window: flags, and a lane replacement or a retrain. -/
def Pkg.endService (k : Pkg) (n : Nat) (errs : List Nat) : Pkg :=
  let role (l : Nat) := k.getF (F.LNK_LN_ROLE n l)
  let cls := (List.range 5).map (fun i => laneClass (errs.getD i 0) 4250000)
  let active := (List.range 5).filter (fun l => role l == 0)
  let bad := active.filter (fun l => cls.getD l 0 == 3)
  let idle := (List.range 5).find? (fun l => role l == 1 && cls.getD l 3 != 3)
  let k := k.recordLanes n 3 errs cls
  let k := if active.any (fun l => cls.getD l 0 != 1) then k.setFlagged n true else k
  match bad, idle, (k.lport n).spareReq with
  | [], _, _ => k
  | [l], some _, none =>
    let next := ((k.fport n).frCount + 63) / 64 * 64
    k.setLport n { k.lport n with spareReq := some { lane := l, switchAt := (next + 256) % 65536, sentAt := k.now, acked := false } }
  | _, _, _ => k.beginRetrain n

/-- SPARE_SWITCH (R411): at the frame of the agreed count, the lane moves to the spare, in UP (R412, R415). -/
def Pkg.spareSwitch (k : Pkg) (n count : Nat) : Pkg :=
  let l := k.lport n
  let k := match l.spareReq with
    | some r =>
      match (List.range 5).find? (fun i => k.getF (F.LNK_LN_ROLE n i) == 1) with
      | some sp =>
        if r.acked ∧ r.switchAt = count then
          let lg := k.logicalLane n r.lane
          let ord := k.getF (F.LNK_RX_ORDER n)
          let k := (k.setF (F.LNK_LN_ROLE n r.lane) 2).setF (F.LNK_LN_ROLE n sp) 0
          let k := k.setF (F.LNK_RX_ACTIVE n) (putBit (putBit (k.getF (F.LNK_RX_ACTIVE n)) r.lane false) sp true)
          let k := k.setF (F.LNK_RX_ORDER n) (ord - bits ord (3 * lg + 2) (3 * lg) * 2 ^ (3 * lg) + sp * 2 ^ (3 * lg))
          let k := (k.inc (F.LNK_COUNTS n 4)).raise (F.LNK_EV_LANE_SPARED n)
          k.setLport n { k.lport n with spareReq := none }
        else k
      | none => k
    | none => k
  match l.peerSpare with
  | some (_, at_) => if at_ = count then k.setLport n { k.lport n with peerSpare := none } else k
  | none => k

/-! ### Link-control notices (R419, R423) -/

/-- LINK_RESET from the peer (R423): PEER_RESET, the link mapped out, bring-up window, no retrain counted. FAILED wins
over a crossing LINK_RESET (Table 9-11). -/
def Pkg.peerReset (k : Pkg) (n : Nat) : Pkg :=
  if k.linkSt n = 7 ∨ k.linkSt n = 0 then k
  else
    let k := (k.enterPort n 8).raise (F.LNK_EV_PEER_RESET n)
    let k := k.setF (F.LNK_RETRAINING n) 0
    let k := k.setLport n { k.lport n with bringUp := true, attempts := 0, idRun := 0, restoreAtEpoch := true, spareReq := none, peerSpare := none }
    k.clearPort n

/-- The link-control field of a control frame (Table 9-5). -/
def Pkg.hearControl (k : Pkg) (n : Nat) (f : Frame) : Pkg :=
  let l := k.lport n
  let k := if k.linkSt n = 5 ∧ bit f.spareReq 7 then
      k.setLport n { l with peerSpare := some (f.spareReq % 8, f.switchAt) } else k
  let l := k.lport n
  let k := match l.spareReq with
    | some r => if bit f.spareAck 7 ∧ f.spareAck % 8 = k.logicalLane n r.lane then
        k.setLport n { l with spareReq := some { r with acked := true } } else k
    | none => k
  let k := if k.linkSt n = 5 then k.setF (F.LNK_TX_ACTIVE n) f.rxActive else k
  if f.notice = 1 then k.failPort n 3
  else if f.notice = 2 then k.peerReset n
  else k

/-! ### Commands -/

/-- SIGNAL_DETECT (R384): a port in DETECT, or in PEER_RESET, sees signal and enters EQUALIZE. -/
def execSignalDetect (p : PkgId) (port : PortId) (t : Nat) (s : State) : Host.Outcome State Fault Refusal :=
  .next (s.updPkg p (fun k =>
    let k := k.at t
    if k.linkSt port = 1 ∨ k.linkSt port = 8 then k.enterPort port 2 else k))

/-- EQUALIZE_COMPLETE (R387): polarity and lane order are corrected and the port enters IDENTIFY. -/
def execEqualizeComplete (p : PkgId) (port : PortId) (polarity order t : Nat) (s : State) :
    Host.Outcome State Fault Refusal :=
  .next (s.updPkg p (fun k =>
    let k := k.at t
    if k.linkSt port = 2 then
      let k := (k.setF (F.LNK_RX_POLARITY port) polarity).setF (F.LNK_RX_ORDER port) order
      (k.setLport port { k.lport port with coeffs := true, idRun := 0 }).enterPort port 3
    else k))

/-- IDENTIFY_TIMEOUT (R397): 100 ms in IDENTIFY without a decision is MISWIRED, NO_IDENTITY. -/
def execIdentifyTimeout (p : PkgId) (port : PortId) (t : Nat) (s : State) : Host.Outcome State Fault Refusal :=
  .next (s.updPkg p (fun k =>
    let k := k.at t
    if k.linkSt port = 3 ∧ (k.lport port).entered + 200000000 ≤ k.now then k.miswire port 4 else k))

/-- QUALIFY_WINDOW_END (R402–R407). -/
def execQualifyWindowEnd (p : PkgId) (port : PortId) (errs : List Nat) (peer : Option Nat) (peerFlagged : Bool)
    (t : Nat) (s : State) : Host.Outcome State Fault Refusal :=
  .next (s.updPkg p (fun k =>
    let k := k.at t
    if k.linkSt port = 4 then k.endQualify port errs peer peerFlagged else k))

/-- SERVICE_WINDOW_END (R408–R414). -/
def execServiceWindowEnd (p : PkgId) (port : PortId) (errs : List Nat) (t : Nat) (s : State) :
    Host.Outcome State Fault Refusal :=
  .next (s.updPkg p (fun k =>
    let k := k.at t
    if k.linkSt port = 5 then k.endService port errs else k))

/-- SPARE_SWITCH (R411): the frame whose `FR_COUNT` is `count`. -/
def execSpareSwitch (p : PkgId) (port : PortId) (count t : Nat) (s : State) : Host.Outcome State Fault Refusal :=
  .next (s.updPkg p (fun k =>
    let k := k.at t
    if k.linkSt port = 5 then k.spareSwitch port count else k))

/-- SPARE_ACK_TIMEOUT (R413): 20,000 ticks without an acknowledgement lead to a retrain. -/
def execSpareAckTimeout (p : PkgId) (port : PortId) (t : Nat) (s : State) : Host.Outcome State Fault Refusal :=
  .next (s.updPkg p (fun k =>
    let k := k.at t
    match (k.lport port).spareReq with
    | some r => if k.linkSt port = 5 ∧ !r.acked ∧ r.sentAt + 20000 ≤ k.now then k.beginRetrain port else k
    | none => k))

/-- FEC_ALIGNMENT_LOSS (R414): lost for 1 µs; the port retrains. -/
def execFecAlignmentLoss (p : PkgId) (port : PortId) (t : Nat) (s : State) : Host.Outcome State Fault Refusal :=
  .next (s.updPkg p (fun k =>
    let k := k.at t
    if k.linkSt port = 5 then k.beginRetrain port else k))

/-- RETRAIN_NO_SIGNAL (R418): a retrain sees no signal for 1 s. -/
def execRetrainNoSignal (p : PkgId) (port : PortId) (t : Nat) (s : State) : Host.Outcome State Fault Refusal :=
  .next (s.updPkg p (fun k =>
    let k := k.at t
    if k.flag (F.LNK_RETRAINING port) && k.linkSt port == 2 && decide ((k.lport port).entered + 2000000000 ≤ k.now)
    then k.failPort port 4 else k))

/-- LOSS_OF_SIGNAL (R400): 100 ms without signal on all five lanes returns a MISWIRED port to DETECT. -/
def execLossOfSignal (p : PkgId) (port : PortId) (t : Nat) (s : State) : Host.Outcome State Fault Refusal :=
  .next (s.updPkg p (fun k =>
    let k := k.at t
    if k.linkSt port = 6 then k.enterDetect port else k))

/-- RETRAIN (R416, R400): `LNK_RETRAIN` written. -/
def execRetrain (p : PkgId) (port : PortId) (t : Nat) (s : State) : Host.Outcome State Fault Refusal :=
  .next (s.updPkg p (fun k =>
    let k := k.at t
    if k.linkSt port = 6 then k.enterDetect port
    else if k.linkSt port = 5 then k.beginRetrain port
    else k))

/-- CLEAR_FAILED on one port (R420, R421). -/
def Pkg.clearFailed (k : Pkg) (n : Nat) : Pkg :=
  if !k.flag F.LNK_MAINT_EN then k.raise (F.LNK_CLEAR_REFUSED n)
  else if k.linkSt n = 7 then k.enterDetect n
  else k

/-- CLEAR_FAILED (R420): `LNK_CLEAR_FAILED` written. -/
def execClearFailed (p : PkgId) (port : PortId) (t : Nat) (s : State) : Host.Outcome State Fault Refusal :=
  .next (s.updPkg p (fun k => (k.at t).clearFailed port))

/-- LNK_ENABLE (R436): from DISABLED, a port the lineup enables enters DETECT. -/
def execLnkEnable (p : PkgId) (port : PortId) (t : Nat) (s : State) : Host.Outcome State Fault Refusal :=
  .next (s.updPkg p (fun k =>
    let k := k.at t
    if k.linkSt port = 0 ∧ k.portEnabled port then k.enterDetect port else k))

/-- LNK_DISABLE (R436): the port enters DISABLED. -/
def execLnkDisable (p : PkgId) (port : PortId) (t : Nat) (s : State) : Host.Outcome State Fault Refusal :=
  .next (s.updPkg p (fun k =>
    let k := (k.at t).clearPort port
    k.enterPort port 0))

end Sys2Proof.Machine
end

