-- ==== Sys2Proof/Machine/FabricCmds.lean ====
section
/-! DEFINITION. Frames, lets, forwarding, the open class, slots and the source's timers (R389–R392, R447–R500,
R555–R568). -/

namespace Sys2Proof.Machine

/-! ### Lets (R493–R497) -/

/-- Serial comparison of 15-bit let sequences: is `a` at or before `b`. -/
def letLe (a b : Nat) : Bool := decide ((b + 2 ^ 15 - a) % 2 ^ 15 < 2 ^ 14)

/-- LET_START (R495, R496): resend every unacknowledged frame, oldest first; a let due after eight without progress
retrains the port instead. -/
def Pkg.startLet (k : Pkg) (n : Nat) : Pkg :=
  let f := k.fport n
  if 8 ≤ k.getF (F.FAB_LETS_RUN n) then k.beginRetrain n
  else
    let k := (k.inc (F.FAB_LETS n)).setF (F.FAB_LETS_RUN n) (k.getF (F.FAB_LETS_RUN n) + 1)
    k.setFport n { f with letQueue := f.replay.map Prod.fst, replay := f.replay.map (fun r => (r.1, k.now)) }

/-- Hear a let acknowledgement: acknowledged frames leave the replay buffer; the first LET_REQ of an acknowledgement
value starts a let. -/
def Pkg.hearLetAck (k : Pkg) (n field : Nat) : Pkg :=
  let f := k.fport n
  let a := field % 2 ^ 15
  let advanced := a != f.ackHeard
  let left := f.replay.filter (fun r => !letLe r.1.letSeq a)
  let f := { f with ackHeard := a, replay := left, letQueue := f.letQueue.filter (fun r => !letLe r.letSeq a)
                    letFor := if advanced then none else f.letFor }
  let k := (k.setFport n f).setF (F.FAB_REPLAY_FRAMES n) left.length
  let k := if advanced then k.setF (F.FAB_LETS_RUN n) 0 else k
  if bit field 15 ∧ f.letFor ≠ some a ∧ !left.isEmpty then
    (k.setFport n { f with letFor := some a }).startLet n
  else k

/-! ### Sending frames -/

/-- The control frame a port sends now (Table 9-3): marker when due, identity, link control and flow fields. -/
def Pkg.controlFrame (k : Pkg) (n : Nat) : Frame :=
  let f := k.fport n
  let l := k.lport n
  let up := k.linkSt n == 5
  { type := 2, count := f.frCount, letAck := f.lastInOrder + (if f.letReq then 2 ^ 15 else 0)
    marker := if up && k.markerDue n then k.markerBlock n (k.now * 256) else []
    identity := k.ownIdentity n
    notice := if 0 < l.noticeLeft then l.notice else 0
    spareReq := (match l.spareReq with | some r => if r.acked then 0 else 128 + k.logicalLane n r.lane | none => 0)
    spareAck := (match l.peerSpare with | some (i, _) => 128 + i | none => 0)
    rxActive := k.getF (F.LNK_RX_ACTIVE n)
    switchAt := (match l.spareReq with | some r => r.switchAt | none => 0)
    flVc := f.crGiven, flShared := f.shGiven }

/-- The next data frame from the bytes waiting on the link (R447, R448). -/
def nextData (f : FabPort) : Frame × FabPort :=
  let piece := f.txBytes.take 624
  let start := (f.txStarts.find? (fun p => decide (p < f.txPos + 624))).map (fun p => p - f.txPos)
  let fr : Frame := { type := 1, count := f.frCount, letSeq := f.nextLet
                      payload := (piece ++ List.replicate 624 0).take 624, pktStart := start.getD 0xFFFF }
  (fr, { f with txBytes := f.txBytes.drop 624, txPos := f.txPos + 624
                txStarts := f.txStarts.filter (fun p => decide (f.txPos + 624 ≤ p))
                txGap := decide (piece.length < 624), nextLet := (f.nextLet + 1) % 2 ^ 15 })

/-- Lay a packet on the link behind what waits: back to back, or at the next 64-byte boundary after a gap (R448). -/
def FabPort.lay (f : FabPort) (p : Packet) : FabPort :=
  let pos := f.txPos + f.txBytes.length
  let fill := if f.txGap ∧ f.txBytes.isEmpty then (64 - pos % 64) % 64 else 0
  { f with txBytes := f.txBytes ++ List.replicate fill 0 ++ p.bytes, txStarts := f.txStarts ++ [pos + fill] }

/-- Put a frame on the link and count it (R389). -/
def Pkg.putFrame (k : Pkg) (n : Nat) (fr : Frame) : Pkg :=
  let f := k.fport n
  k.setFport n { f with outFrame := some fr, frCount := (f.frCount + 1) % 65536 }

/-- FRAME_SEND (R389–R393, R419, R447, R493): the port sends its next frame: a control frame when `FR_COUNT` is a
multiple of 64, otherwise a frame a let resends, a new data frame, or an idle frame. -/
def Pkg.sendFrame (k : Pkg) (n : Nat) : Pkg :=
  let st := k.linkSt n
  let f := k.fport n
  let l := k.lport n
  let ackField := f.lastInOrder + (if f.letReq then 2 ^ 15 else 0)
  if st = 5 ∨ st = 3 ∨ st = 6 ∨ 0 < l.noticeLeft then
    if f.frCount % 64 = 0 then
      let fr := k.controlFrame n
      let k := if fr.marker.isEmpty then k else k.markerSent n
      let k := if 0 < l.noticeLeft then k.setLport n { k.lport n with noticeLeft := l.noticeLeft - 1 } else k
      k.putFrame n fr
    else if st = 5 then
      match f.letQueue with
      | r :: rest =>
        let fr := { r with count := f.frCount, letSeq := r.letSeq % 2 ^ 15 + 2 ^ 15, letAck := ackField }
        (k.setFport n { f with letQueue := rest
                               replay := f.replay.map (fun e => if e.1.letSeq = r.letSeq then (e.1, k.now) else e) }).putFrame n fr
      | [] =>
        if f.txBytes.isEmpty ∨ 102 ≤ f.replay.length then
          k.putFrame n { type := 0, count := f.frCount, letAck := ackField }
        else
          let (fr, f) := nextData f
          let fr := { fr with letAck := ackField }
          let k := (k.setFport n { f with replay := f.replay ++ [(fr, k.now)] }).setF (F.FAB_REPLAY_FRAMES n) (f.replay.length + 1)
          k.putFrame n fr
    else k.putFrame n { type := 0, count := f.frCount, letAck := ackField }
  else k

/-- FRAME_SEND at Hall Time `t`. -/
def execFrameSend (p : PkgId) (port : PortId) (t : Nat) (s : State) : Host.Outcome State Fault Refusal :=
  .next (s.updPkg p (fun k => (k.at t).sendFrame port))

/-! ### Receiving frames -/

/-- Take the packets that are complete in the received byte stream (R448); `fuel` bounds the packets of one frame. -/
def parsePackets : Nat → Bytes → Nat → List Packet × Bytes × Nat
  | 0, b, pos => ([], b, pos)
  | fuel + 1, b, pos =>
    match b with
    | [] => ([], [], pos)
    | x :: _ =>
      if x = 0 then
        let skip := min b.length (64 - pos % 64)
        parsePackets fuel (b.drop skip) (pos + skip)
      else if b.length < 8 ∨ b.length < parsedSize b then ([], b, pos)
      else
        let n := parsedSize b
        let (ps, rest, q) := parsePackets fuel (b.drop n) (pos + n)
        (Packet.parse b :: ps, rest, q)

/-- A packet enters the receive buffer of its port: scheduled packets need room in the 64 KiB outside credits (R461),
open ones occupy their channel's own credits first. -/
def Pkg.arrive (k : Pkg) (n : Nat) (p : Packet) : Pkg :=
  let f := k.fport n
  let hopped := { p with hops := bits p.hops 6 0 + 1 + (if bit p.hops 7 then 128 else 0) }
  let k := if p.dstRack = k.rack ∧ p.dstPkg = k.id then k.moveBytes p.slot p.size else k
  if p.isOpen then
    let i := p.flowIndex
    let own := min p.credits (16 - f.rxOwn.getD i 0)
    let k := k.setFport n { f with rxOwn := f.rxOwn.set i (f.rxOwn.getD i 0 + own) }
    { k with fab := { k.fab with arrived := k.fab.arrived ++ [{ port := n, pkt := hopped, own := own, shared := p.credits - own }] } }
  else if 65536 < f.schedRx + p.size then (k.inc (F.FAB_COUNTS 10)).raise F.FAB_EV_SCHED_DROP
  else
    let k := k.setFport n { f with schedRx := f.schedRx + p.size }
    { k with fab := { k.fab with arrived := k.fab.arrived ++ [{ port := n, pkt := hopped, own := 0, shared := 0 }] } }

/-- A frame that failed FEC decoding or its CRC, or has another type, is discarded and counted (R392). -/
def Pkg.badFrame (k : Pkg) (n : Nat) : Pkg := k.inc (F.LNK_COUNTS n 2)

/-- A good data or idle frame (R494). -/
def Pkg.receiveData (k : Pkg) (n : Nat) (fr : Frame) : Pkg :=
  let k := k.hearLetAck n fr.letAck
  if k.linkSt n ≠ 5 ∨ fr.type = 0 then k
  else
    let f := k.fport n
    if fr.letSeq % 2 ^ 15 = (f.lastInOrder + 1) % 2 ^ 15 then
      let (ps, rest, pos) := parsePackets 1024 (f.rxBytes ++ fr.payload) f.rxPos
      let k := k.setFport n { f with lastInOrder := fr.letSeq % 2 ^ 15, letReq := false, rxBytes := rest, rxPos := pos }
      ps.foldl (fun k p => k.arrive n p) k
    else k.setFport n { f with letReq := true }

/-- DATA_FRAME_RECEIVE (R494): a data or idle frame arrives; `good` says it passed FEC and its CRC. -/
def execDataFrameReceive (p : PkgId) (port : PortId) (fr : Frame) (good : Bool) (t : Nat) (s : State) :
    Host.Outcome State Fault Refusal :=
  .next (s.updPkg p (fun k =>
    let k := k.at t
    if k.linkSt port ≠ 5 then k
    else if !good ∨ 1 < fr.type then k.badFrame port
    else k.receiveData port fr))

/-- Credits heard in `CF_FLOW` (R467). -/
def Pkg.hearFlow (k : Pkg) (n : Nat) (fr : Frame) : Pkg :=
  let f := k.fport n
  (k.setFport n { f with crHeard := (fr.flVc ++ List.replicate 16 0).take 16, shHeard := fr.flShared }).setF
    (F.FAB_SHARED_HELD n) ((2 ^ 32 + fr.flShared - f.shSpent) % 2 ^ 32)

/-- CONTROL_FRAME_RECEIVE (R393): a control frame delivers its marker, identity, link control and credits; `good` says
it passed FEC and its CRC, `t4` is the local time of receipt in 1/256 tick. -/
def execControlFrameReceive (p : PkgId) (port : PortId) (fr : Frame) (good : Bool) (t4 : Nat) (s : State) :
    Host.Outcome State Fault Refusal :=
  .next (s.updPkg p (fun k =>
    let k := k.at (t4 / 256)
    let st := k.linkSt port
    if st ≠ 3 ∧ st ≠ 4 ∧ st ≠ 5 ∧ st ≠ 6 then k
    else if !good ∨ fr.type ≠ 2 then k.badFrame port
    else
      let k := k.hearIdentity port fr.identity
      let k := if k.linkSt port = 5 then
          let k := if fr.marker.isEmpty then k else k.receiveMarker port fr.marker t4
          (k.hearFlow port fr).hearLetAck port fr.letAck
        else k
      k.hearControl port fr))

/-- LET_TIMEOUT (R495, R496): the oldest unacknowledged frame was sent 4,000 ticks ago. -/
def execLetTimeout (p : PkgId) (port : PortId) (t : Nat) (s : State) : Host.Outcome State Fault Refusal :=
  .next (s.updPkg p (fun k =>
    let k := k.at t
    match (k.fport port).replay with
    | (_, sent) :: _ => if k.linkSt port = 5 ∧ sent + 4000 ≤ k.now then k.startLet port else k
    | [] => k))

/-! ### Forwarding (R433, R434, R555–R562) -/

/-- The level and class bits of a forwarded packet's virtual channel. -/
def withLevel (vc level : Nat) : Nat := vc / 4 * 4 + level

/-- NO_ROUTE_ANSWER (R562): discard, and answer the source's stream and sequence with NO_ROUTE. -/
def Pkg.answerNoRoute (k : Pkg) (p : Packet) : Pkg := (k.inc (F.LNK_HALL_COUNTS 0)).ack p 0x4C01

/-- Put a forwarded packet into its next output queue; at a mapped-out link it is discarded (R434). -/
def Pkg.forwardTo (k : Pkg) (p : Packet) (port : Nat) : Pkg :=
  if k.linkSt port = 5 ∧ k.flag (F.LNK_MAPPED_OUT port) = false then
    k.enqueue port { pkt := p, sched := !p.isOpen, fwd := true, since := k.now, chan := 0 }
  else k

/-- RING_LEG_START (R558): begin a row or hall leg here. -/
def Pkg.startLeg (k : Pkg) (l : Lineup) (p : Packet) (row : Bool) : Pkg :=
  match k.legDir l row (if row then rackPos p.dstRack else rackRow p.dstRack) with
  | none => k.answerNoRoute p
  | some prev => k.forwardTo { p with route := ringWord row prev, hops := 0, vc := withLevel p.vc (k.ringLevel l row false) }
      (ringPort row prev)

/-- Begin the braid leg in the destination rack (R560, R566). -/
def Pkg.startBraid (k : Pkg) (p : Packet) : Pkg :=
  match k.route ((p.dstPkg + 72 - k.id) % 72) with
  | none => k.answerNoRoute p
  | some rw => (k.inc (F.LNK_HALL_COUNTS 1)).forwardTo
      { p with route := rw, hops := 0, vc := withLevel p.vc (if bit rw 13 && k.id == 0 then 3 else 0) } (hopPort (bits rw 3 0))

/-- Forward a packet that came in on `port` and is not for this package. -/
def Pkg.forward (k : Pkg) (port : Nat) (p : Packet) : Pkg :=
  match k.lup.active with
  | none => k
  | some l =>
    if p.hall ∧ 16 ≤ port then
      if p.dstRack = k.rack then k.startBraid p
      else if rackPos p.dstRack ≠ rackPos k.rack then
        let prev := bit p.route 14
        k.forwardTo { p with vc := withLevel p.vc (k.ringLevel l true (bits p.vc 1 0 == 1)) } (ringPort true prev)
      else if !bit p.route 15 then k.startLeg l p false
      else
        let prev := bit p.route 14
        k.forwardTo { p with vc := withLevel p.vc (k.ringLevel l false (bits p.vc 1 0 == 3)) } (ringPort false prev)
    else if bit p.route 13 then
      k.forwardTo { p with vc := withLevel p.vc (if bits p.vc 1 0 = 3 ∨ k.id = 0 then 3 else 0) } (hopPort (bits p.route 3 0))
    else match (routeHops p.route)[bits p.hops 6 0]? with
      | some h => k.forwardTo { p with vc := withLevel p.vc (bits p.hops 6 0) } (hopPort h)
      | none => k

/-- PACKET_FORWARD (R433, R483): a packet for another package goes on along its route word. -/
def execPacketForward (p : PkgId) (port : PortId) (pkt : Packet) (t : Nat) (s : State) :
    Host.Outcome State Fault Refusal :=
  .next (s.updPkg p (fun k =>
    let k := (k.at t).take pkt
    if k.expired pkt then k.inc (F.FAB_COUNTS 6)
    else if pkt.dst = k.target then k
    else k.forward port pkt))

/-! ### Schedule volleys and slots -/

/-- Volley `j` of an epoch with stretch count `n` is a stretch volley (R78). -/
def isStretch (n j : Nat) : Bool := decide (j * n / 1024 < (j + 1) * n / 1024)

/-- Slot `s`'s partition is in a stretch volley at Hall Time `t`. -/
def Pkg.inStretch (k : Pkg) (s t : Nat) : Bool := isStretch (k.getF (F.HTM_STRETCH_CUR s)) (t / 2048 % 1024)

/-- The partition slot that owns slot `j` of a port at Hall Time `t` (R454, R75). -/
def Pkg.slotOwner (k : Pkg) (n j t : Nat) : Option Nat :=
  (List.range 4).find? (fun s => bit (k.getF (F.FAB_OWNED s n)) j && !k.inStretch s t)

/-- Ticks until the next owned slot on a port begins, 0 inside one (R452, R455). -/
def Pkg.ticksToSlot (k : Pkg) (n t : Nat) : Nat :=
  let v := t / 2048 * 2048
  let inside := (List.range 9).any (fun j => (k.slotOwner n j t).isSome && decide (208 * j ≤ t - v) && decide (t - v < 208 * j + 208))
  if inside then 0
  else
    let here := (List.range 9).filter (fun j => (k.slotOwner n j t).isSome && decide (t - v < 208 * j))
    match here with
    | j :: _ => v + 208 * j - t
    | [] => match (List.range 9).filter (fun j => (k.slotOwner n j (v + 2048)).isSome) with
      | j :: _ => v + 2048 + 208 * j - t
      | [] => 4096

/-- Ticks a packet takes on the link: whole frames of 12.8 ticks. -/
def linkTicks (size : Nat) : Nat := ((size + 623) / 624 * 128 + 9) / 10

/-! ### Open class (R466, R474) -/

/-- Credits a sender holds for a packet on port `f`: own, then shared (R466, R467). -/
def FabPort.heldCredits (f : FabPort) (p : Packet) : Nat × Nat :=
  let i := p.flowIndex
  ((2 ^ 32 + f.crHeard.getD i 0 - f.crSpent.getD i 0) % 2 ^ 32, (2 ^ 32 + f.shHeard - f.shSpent) % 2 ^ 32)

/-- Enough credits are held for the packet's whole length. -/
def FabPort.creditOk (f : FabPort) (p : Packet) : Bool :=
  let (o, sh) := f.heldCredits p
  decide (p.credits ≤ o + sh)

/-- Spend a packet's credits, the channel's own first. -/
def FabPort.spendCredits (f : FabPort) (p : Packet) : FabPort :=
  let (o, _) := f.heldCredits p
  let own := min o p.credits
  { f with crSpent := addAt f.crSpent p.flowIndex own, shSpent := (f.shSpent + (p.credits - own)) % 2 ^ 32 }

/-- Which of two waiting open-class packets of one port is served first (R474): responses, then the partition with the
least service for its weight, then the higher level. -/
def servesBefore (k : Pkg) (n : Nat) (f : FabPort) (a b : Queued) : Bool :=
  let ra := isResponseType a.pkt.type
  let rb := isResponseType b.pkt.type
  if ra ≠ rb then ra
  else
    let w (q : Queued) := max 1 (k.getF (F.FAB_OPEN_WEIGHT q.pkt.slot n))
    let sv (q : Queued) := f.served.getD q.pkt.slot 0
    if a.pkt.slot ≠ b.pkt.slot then decide (sv a * w b < sv b * w a)
    else decide (bits b.pkt.vc 1 0 < bits a.pkt.vc 1 0)

/-- The open-class packet a port serves next, among those whose credits are held. -/
def Pkg.nextOpen (k : Pkg) (n : Nat) : Option Queued :=
  let f := k.fport n
  (f.queue.filter (fun q => !q.sched && f.creditOk q.pkt)).foldl
    (fun acc q => match acc with
      | none => some q
      | some b => some (if servesBefore k n f q b then q else b)) none

/-- OPEN_PACKET_SEND (R455, R466, R474): the port sends one open-class packet when it ends before the next owned slot. -/
def Pkg.sendOpen (k : Pkg) (n : Nat) : Pkg :=
  let k := k.releaseHeld
  match k.nextOpen n with
  | none => k
  | some q =>
    if k.linkSt n = 5 ∧ linkTicks q.pkt.size ≤ k.ticksToSlot n k.now then
      let f := k.fport n
      let f := ({ f with queue := f.queue.erase q
                         served := f.served.set q.pkt.slot (f.served.getD q.pkt.slot 0 + q.pkt.size) } : FabPort)
      let f := (f.spendCredits q.pkt).lay q.pkt
      let k := (k.setFport n f).setF (F.FAB_SHARED_HELD n) ((2 ^ 32 + f.shHeard - f.shSpent) % 2 ^ 32)
      (k.refreshQueue n).releaseHeld
    else k

/-- OPEN_PACKET_SEND at Hall Time `t`. -/
def execOpenPacketSend (p : PkgId) (port : PortId) (t : Nat) (s : State) : Host.Outcome State Fault Refusal :=
  .next (s.updPkg p (fun k => (k.at t).sendOpen port))

/-! ### Slots (R452–R464) -/

/-- Fabric tables of a slot. -/
def Pkg.tables (k : Pkg) (s : Nat) : FabTables := k.fab.tables.toList.getD s {}

/-- Replace the fabric tables of a slot. -/
def Pkg.setTables (k : Pkg) (s : Nat) (t : FabTables) : Pkg :=
  { k with fab := { k.fab with tables := k.fab.tables.setIfInBounds s t } }

/-- Packets a slot's entry may send, in order: INJECT takes this package's packets of the channel's stream, FORWARD
takes forwarded packets of the stream (R457, R458); a moved INJECT entry takes them from its own port's queue, with a
route whose first hop leaves by the new port (R464), a moved hall entry the other direction of the leg (R568). -/
def Pkg.slotCandidates (k : Pkg) (s : Nat) (e : TmplEntry) : List (Queued × Packet) :=
  let chans := (k.tables s).chans
  if e.kind = 0 then
    let sid := (chans.getD e.who {}).stream
    let qs := (k.fport e.orig).queue.filter (fun q => q.sched && !q.fwd && q.pkt.slot == s && q.pkt.sid == sid)
    if e.port = e.orig then qs.map (fun q => (q, q.pkt))
    else qs.filterMap (fun q =>
      let d := (q.pkt.dstPkg + 72 - k.id) % 72
      let fix (rw : Nat) (hops : Nat) : Packet :=
        let p := { q.pkt with route := rw, hops := hops, vc := withLevel q.pkt.vc (if 16 ≤ e.port then bits q.pkt.vc 1 0 else 0) }
        { p with crc := p.goodCrc }
      if 16 ≤ e.port then
        match k.lup.active with
        | none => none
        | some l =>
          let row := decide (e.port < 18)
          let prev := decide (e.port % 2 = 1)
          if k.legDir l row (if row then rackPos q.pkt.dstRack else rackRow q.pkt.dstRack) = some prev
          then some (q, fix (ringWord row prev) 0) else none
      else
        match (List.range 4).find? (fun c => k.candidateClear d c && hopPort (bits (k.candidate d c) 3 0) == e.port) with
        | some c => some (q, fix (k.candidate d c) 0)
        | none => none)
  else if e.kind = 1 then
    ((k.fport e.orig).queue.filter (fun q => q.sched && q.fwd && q.pkt.slot == s && q.pkt.sid == e.who)).map (fun q => (q, q.pkt))
  else []

/-- The longest prefix that fits in a slot's 8,232 bytes (R453, R457). -/
def fitSlot : Nat → List (Queued × Packet) → List (Queued × Packet)
  | _, [] => []
  | room, (q, p) :: r => if p.size ≤ room then (q, p) :: fitSlot (room - p.size) r else []

/-- Send the packets of one entry in its slot. -/
def Pkg.runEntry (k : Pkg) (s : Nat) (e : TmplEntry) : Pkg :=
  (fitSlot 8232 (k.slotCandidates s e)).foldl (fun k qp =>
    let f := k.fport e.orig
    let k := k.setFport e.orig { f with queue := f.queue.erase qp.1 }
    k.setFport e.port ((k.fport e.port).lay qp.2)) k

/-- The entries in force for a slot of a port in the partition's current period volley (R456). -/
def Pkg.slotEntries (k : Pkg) (s n j : Nat) (extra : List TmplEntry) : List TmplEntry :=
  let t := k.tables s
  let v := k.getF (F.HTM_SCHED_VOLLEY s) % max 1 t.period
  (t.active.filter (fun e => e.port == n && e.volley == v && e.slot == j)) ++ extra

/-! ### Source timers (R480, R481, R489, R490) -/

/-- The unacknowledged packet of a stream with a sequence number. -/
def Fabric.unackedAt (f : Fabric) (dst slot sid seq : Nat) : Option Unacked :=
  f.unacked.find? (fun u => u.pkt.dst == dst && u.pkt.slot == slot && u.pkt.sid == sid && u.pkt.seq == seq)

/-- WINDOW_IDLE_FREE (R489): a window that accepted nothing for 8,000,000 ticks is freed. -/
def execWindowIdleFree (p : PkgId) (src : Nat) (slot : SlotId) (sid t : Nat) (s : State) :
    Host.Outcome State Fault Refusal :=
  .next (s.updPkg p (fun k =>
    let k := k.at t
    ({ k with fab := { k.fab with
      windows := k.fab.windows.filter (fun w =>
        !(w.src == src && w.slot == slot.val && w.stream == sid && decide (w.lastAccept + 8000000 ≤ k.now))) } } : Pkg).refreshWindows))

/-- SEQUENCE_QUIET_END (R490): the quiet time of a reset slot is over; its streams start again at 0. -/
def execSequenceQuietEnd (p : PkgId) (slot : SlotId) (t : Nat) (s : State) : Host.Outcome State Fault Refusal :=
  .next (s.updPkg p (fun k =>
    let k := k.at t
    let tb := k.tables slot
    if 0 < tb.quietUntil ∧ tb.quietUntil ≤ k.now then
      let k := k.setTables slot { tb with quietUntil := 0 }
      ({ k with fab := { k.fab with streams := k.fab.streams.filter (fun x => x.slot != slot.val) } } : Pkg).releaseHeld
    else k))

/-- A write of `FAB_LOAD` with an epoch: the load is scheduled (R462). Only a function that reaches the slot's
registers writes it. -/
def execFabLoad (p : PkgId) (src : CsrSource) (slot : SlotId) (epoch t : Nat) (s : State) :
    Host.Outcome State Fault Refusal :=
  .next (s.updPkg p (fun k => (k.at t).viaPart src slot (0x200118 + 0x40 * slot.val) .p (fun k =>
    let e := epoch % 2 ^ 43
    let k := if e * 2097152 < k.hallTime then k.lateAction else k
    k.setTables slot { k.tables slot with loadEpoch := some e })))

/-! ### Redistribution (R463, R567) -/

/-- Template order: port, period volley, slot. -/
def entryBefore (a b : TmplEntry) : Bool :=
  decide (a.port < b.port) || (a.port == b.port && (decide (a.volley < b.volley) || (a.volley == b.volley && decide (a.slot < b.slot))))

/-- Insert in template order. -/
def insertEntry (e : TmplEntry) : List TmplEntry → List TmplEntry
  | [] => [e]
  | x :: r => if entryBefore e x then e :: x :: r else x :: insertEntry e r

/-- Sort in template order. -/
def sortEntries (es : List TmplEntry) : List TmplEntry := es.foldr insertEntry []

/-- The SPARE entry a displaced entry takes: on the lowest braid port that is up (a hall entry on the other port of its
ring), the earliest at or after its own volley and slot, wrapping within the period. -/
def Pkg.pickSpare (k : Pkg) (spares : List TmplEntry) (e : TmplEntry) : Option TmplEntry :=
  let ports := if 16 ≤ e.port then [if e.port % 2 = 0 then e.port + 1 else e.port - 1] else List.range 16
  let ok := ports.filter (fun n => k.linkSt n == 5 && !k.flag (F.LNK_MAPPED_OUT n) && spares.any (fun x => x.port == n))
  match ok with
  | [] => none
  | n :: _ =>
    let mine := sortEntries (spares.filter (fun x => x.port == n))
    let later := mine.find? (fun x => decide (e.volley < x.volley) || (e.volley == x.volley && decide (e.slot ≤ x.slot)))
    later.orElse (fun _ => mine.head?)

/-- SLOT_REDISTRIBUTION (R463): from the template as loaded, every displaced INJECT or FORWARD entry moves to a SPARE
entry or is dropped for the epoch and counted. -/
def Pkg.redistribute (k : Pkg) (s : Nat) : Pkg :=
  let t := k.tables s
  let out (e : TmplEntry) := k.flag (F.LNK_MAPPED_OUT e.port)
  let stay := t.tmpl.filter (fun e => e.kind < 2 && !out e)
  let displaced := sortEntries (t.tmpl.filter (fun e => e.kind < 2 && out e))
  let spares := t.tmpl.filter (fun e => e.kind == 2)
  let (k, act, _) := displaced.foldl (fun (acc : Pkg × List TmplEntry × List TmplEntry) e =>
    let (k, act, spares) := acc
    match k.pickSpare spares e with
    | some x => (k, act ++ [{ e with port := x.port, volley := x.volley, slot := x.slot }], spares.erase x)
    | none => (k.inc (F.FAB_COUNTS 11), act, spares)) (k, stay, spares)
  k.setTables s { t with active := act }

/-- SCHED_TO_OPEN (R460): a forwarded scheduled packet whose stream had no FORWARD entry on this port for one full
period goes on in the open class. -/
def Pkg.schedToOpen (k : Pkg) (n : Nat) : Pkg :=
  let f := k.fport n
  let due (q : Queued) : Bool :=
    let t := k.tables q.pkt.slot
    q.sched && q.fwd && decide (q.since + t.period * 2048 ≤ k.now) &&
      !t.active.any (fun e => e.kind == 1 && e.port == n && e.who == q.pkt.sid)
  let hits := f.queue.filter due
  let k := k.setFport n { f with queue := f.queue.map (fun q =>
    if due q then { q with sched := false, pkt := { q.pkt with vc := q.pkt.vc + (if q.pkt.isOpen then 0 else 8) } } else q) }
  (k.addSat (F.FAB_COUNTS 9) hits.length).refreshQueue n

/-- SCHED_TO_OPEN at Hall Time `t`. -/
def execSchedToOpen (p : PkgId) (port : PortId) (t : Nat) (s : State) : Host.Outcome State Fault Refusal :=
  .next (s.updPkg p (fun k => (k.at t).schedToOpen port))

/-! ### Hub control packets -/

/-- The port of this package on a link that LINK_STATE names, if it has one. -/
def Pkg.portOnLink (k : Pkg) (link : Nat) : Option Nat :=
  match bits link 15 14 with
  | 0 => (List.range 16).find? (fun n => linkNumber k.id n == link)
  | 2 => (k.lup.active).bind (fun l => [16, 17].find? (fun n => k.ringLink l n == bits link 5 0))
  | 3 => (k.lup.active).bind (fun l => [18, 19].find? (fun n => k.ringLink l n == bits link 5 0))
  | _ => none

/-- A link of this package stays mapped out while its own port is not UP, or waits for the epoch boundary (R424, R425). -/
def Pkg.keepsOut (k : Pkg) (link : Nat) : Bool :=
  match k.portOnLink link with
  | some n => k.linkSt n != 5 || (k.lport n).restoreAtEpoch
  | none => false

/-- Apply a link change to the map. -/
def Pkg.applyLink (k : Pkg) (link : Nat) (out : Bool) : Pkg :=
  if !out && k.keepsOut link then k
  else
    let k := match k.portOnLink link with
      | some n => k.setF (F.LNK_MAPPED_OUT n) (if out then 1 else 0)
      | none => k
    match bits link 15 14 with
    | 0 => if link < 576 then k.setLinkOut link out else k
    | 2 => k.setRingOut true (bits link 5 0) out
    | 3 => k.setRingOut false (bits link 5 0) out
    | _ => k

/-- LINK_STATE (R426, R569): apply a braid or ring link change; scheduled entries wait for the boundary (R427). -/
def execLinkState (p : PkgId) (pkt : Packet) (t : Nat) (s : State) : Host.Outcome State Fault Refusal :=
  .next (s.updPkg p (fun k =>
    (k.at t).sequenced pkt (fun k =>
      (k.applyLink (fieldAt pkt.body 0 2) (fieldAt pkt.body 2 1 == 1), 0, none))))

/-- Is this package the captain of slot `s`. -/
def Pkg.isCaptain (k : Pkg) (s : Nat) : Bool := k.flag (F.HIF_IS_CAPTAIN s)

/-- STRETCH_REQ (R79): the captain keeps the largest request received for the epoch. -/
def execStretchReq (p : PkgId) (pkt : Packet) (t : Nat) (s : State) : Host.Outcome State Fault Refusal :=
  .next (s.updPkg p (fun k =>
    (k.at t).sequenced pkt (fun k =>
      let n := fieldAt pkt.body 8 1
      let sl := pkt.slot
      let cur := k.time.captainMax.toList.getD sl 0
      (if k.isCaptain sl then
        { k with time := { k.time with captainMax := k.time.captainMax.setIfInBounds sl (max cur (min 128 n)) } }
       else k, 0, none))))

/-- STRETCH (R80): a package receives the stretch count of an epoch. -/
def execStretch (p : PkgId) (pkt : Packet) (t : Nat) (s : State) : Host.Outcome State Fault Refusal :=
  .next (s.updPkg p (fun k =>
    (k.at t).sequenced pkt (fun k =>
      let n := min 128 (fieldAt pkt.body 8 1)
      let k := if fieldAt pkt.body 0 8 = k.hallTime / 2097152 + 1 then k.setF (F.HTM_STRETCH_NEXT pkt.slot) n else k
      ({ k with time := { k.time with stretchHeld := (pkt.slot, fieldAt pkt.body 0 8, n) :: k.time.stretchHeld } }, 0, none))))

/-- BAD_PACKET_RECEIVE (R444): an unknown type or a nonzero reserved field: no effect, BAD_PACKET. -/
def execBadPacketReceive (p : PkgId) (pkt : Packet) (t : Nat) (s : State) : Host.Outcome State Fault Refusal :=
  .next (s.updPkg p (fun k => ((k.at t).screen pkt).1))

end Sys2Proof.Machine
end

