-- ==== Sys2Proof/Machine/Routing.lean ====
section
/-! DEFINITION. Conditional computation (08_routing.md): ROUTE (R327–R342), GROUPED_GEMM (R352–R358), and the bias loop
(R343–R351). -/

namespace Sys2Proof.Machine

/-- Ticks of an epoch. -/
def epochTicks : Nat := 2097152

/-- Index of a layer's registers. -/
def layerIx (slot layer : Nat) : Nat := slot * 256 + layer

/-! ### ROUTE -/

/-- EXPERT_CHOICE. -/
def Cmd.expertChoice (x : Cmd) : Bool := bit (x.f 42 1) 0
/-- AT_LEAST_ONE. -/
def Cmd.atLeastOne (x : Cmd) : Bool := bit (x.f 42 1) 1

/-- The capacity C of Table 8-1. -/
def Pkg.routeC (k : Pkg) (c : Nat) (x : Cmd) : Nat :=
  if x.expertChoice then x.f 48 2 else k.getF (F.MOE_C_RES (layerIx (k.coreSlot c) (x.f 50 2 % 256)))

/-- Bytes of ASSIGN part 1 (Table 8-1). -/
def assignLines (x : Cmd) (cap : Nat) : Nat :=
  if x.expertChoice then x.f 40 2 * ((8 * cap + 63) / 64 * 64) else x.f 52 2 * 128

/-- Checks of a ROUTE after its word checks (R327–R329, R335, R337, R339, R362, R991, R998). The spans of ASSIGN and COUNTS depend on
the layer's capacity, so they are judged after it (log entry 31). -/
def Pkg.routeCheck (k : Pkg) (c : Nat) (x : Cmd) : Option Status :=
  let sc := k.operand c x 16
  let asg := k.operand c x 24
  let cnt := k.operand c x 32
  let n := x.f 40 2
  let cap := k.routeC c x
  let slot := k.coreSlot c
  let y := layerIx slot (x.f 50 2 % 256)
  let outBad (t : Tensor) : Bool := t.d.format != 0x0C || t.d.sel != 0
  let one (off : Nat) (bad : Bool) : Option Status :=
    match k.descCheck c (trefDesc (x.f off 8)) with
    | some st => some st
    | none => if bad then some 0x3105 else none
  match [one 16 (!(sc.d.format == 8 || sc.d.format == 9) || sc.d.dims != 2 || sc.d.transposed),
      one 24 (outBad asg), one 32 (outBad cnt)].findSome? (fun o => o) with
  | some st => some st
  | none => firstBad [
      (decide (sc.d.e 0 < n) || decide (sc.d.e 1 < x.f 52 2), 0x3109),
      (n == 0 || decide (1024 < n), 0x3109),
      (x.expertChoice && (cap == 0 || decide (4096 < cap)), 0x3109),
      (decide (255 < x.f 50 2), 0x3109),
      (k.getF (F.MOE_EXPERTS y) == 0, 0x3501),
      (k.getF (F.MOE_EXPERTS y) != n, 0x3109),
      (k.flag (F.MOE_SCHED_MODE slot) && k.flag (F.MOE_PLAN y) && k.getF (F.MOE_ROUTES_PER_STEP y) == 0, 0x3501),
      (!x.expertChoice && (cap == 0 || decide (4096 < cap)), 0x3109),
      (x.f 52 2 == 0, 0x3109),
      (decide (65536 < n * cap), 0x3109),
      (decide (asg.d.span < assignLines x cap + 16 * n * cap) || decide (cnt.d.span < 64 + 8 * n), 0x3105),
      (!sc.inRange || !asg.inRange || !cnt.inRange, 0x3104),
      (setsMeet ([sc.d.footprint sc.data] ++ x.trefs.map (fun o => (trefDesc (x.f o 8), 32)))
        [asg.d.footprint asg.data, cnt.d.footprint cnt.data], 0x310C)]

/-- One token's or expert's candidate: index, biased score, unbiased score as FP32. -/
structure Pick where
  ix : Nat
  biased : Num
  score : Nat
  deriving DecidableEq, Repr

/-- Insert a candidate by falling biased score, the lower index first among equals. -/
def insertPick (p : Pick) : List Pick → List Pick
  | [] => [p]
  | q :: r => if q.biased.lt p.biased || (!p.biased.lt q.biased && decide (p.ix < q.ix)) then p :: q :: r else q :: insertPick p r

/-- The `n` candidates with the largest biased scores, in increasing index. -/
def bestPicks (n : Nat) (ps : List Pick) : List Pick :=
  let top := (ps.foldr insertPick []).take n
  ps.filter (fun p => top.any (fun q => q.ix == p.ix))

/-- What a ROUTE chose: for each token its picks in expert order with FORCED, and whether it was truncated. -/
structure TokenPicks where
  picks : List Pick
  forced : Bool
  truncated : Bool
  deriving DecidableEq, Repr

/-- THRESHOLD for one token (R332–R334). -/
def thresholdToken (tau : Num) (atLeastOne : Bool) (cands : List Pick) : TokenPicks :=
  let pass := cands.filter (fun p => !(tau == .nan) && !p.biased.lt tau)
  if 16 < pass.length then { picks := bestPicks 16 pass, forced := false, truncated := true }
  else if pass.isEmpty && atLeastOne then { picks := bestPicks 1 cands, forced := !cands.isEmpty, truncated := false }
  else { picks := pass, forced := false, truncated := false }

/-- Candidates of token `t`: the experts whose biased score is not NaN (R331), in increasing expert. Also whether a score
was NaN, and the arithmetic flags. -/
def candidates (m : Memory) (sc : Tensor) (bias : List Nat) (n t : Nat) : List Pick × Bool × Nat :=
  let all := (List.range n).map (fun e =>
    let (s, f) := sc.d.elem m sc.data [e, t, 0, 0, 0, 0]
    let (b, g) := add32 s (fp32.decode (bias.getD e 0))
    (({ ix := e, biased := b, score := s.bits32 } : Pick), f ||| g))
  let good := (all.map Prod.fst).filter (fun p => !(p.biased == .nan))
  (good, decide (good.length < n), all.foldl (fun f p => f ||| p.2) 0)

/-- A `TL_PICK` word. -/
def pickWord (expert pos cap : Nat) (forced : Bool) : Nat :=
  pos % 65536 * 65536 + 32768 + (if cap ≤ pos then 16384 else 0) + (if forced then 8192 else 0) + expert

/-- A dispatch-list entry (R340): the token of a pick, or SKIP. -/
def dispatchEntry (pos : Nat) (token : Option Nat) : Bytes :=
  match token with
  | some t => leBytes 2 0 ++ leBytes 2 t ++ leBytes 4 0 ++ leBytes 4 pos ++ leBytes 4 0
  | none => leBytes 8 0 ++ leBytes 4 pos ++ leBytes 4 1

/-- The COUNTS structure (Table 8-4). -/
def countsBytes (gen n tokens picks empty forced truncated nan overflow cap : Nat) (assigned : List Nat) : Bytes :=
  leBytes 4 gen ++ leBytes 2 n ++ leBytes 2 tokens ++ leBytes 4 picks ++ leBytes 2 empty ++ leBytes 2 forced
    ++ leBytes 2 truncated ++ leBytes 2 nan ++ leBytes 4 overflow ++ leBytes 4 cap ++ leBytes 36 0
    ++ assigned.flatMap (fun a => leBytes 4 a ++ leBytes 4 (min a cap))

/-- ROUTE: choose, then write ASSIGN and COUNTS. -/
def Pkg.routeRun (k : Pkg) (c : Nat) (x : Cmd) : Pkg :=
  let m := (k.core c).ls
  let sc := k.operand c x 16
  let n := x.f 40 2
  let tokens := x.f 52 2
  let cap := k.routeC c x
  let cands := (List.range tokens).map (candidates m sc x.biases n)
  let flags := cands.foldl (fun f t => f ||| t.2.2) 0
  let nans := (cands.filter (fun t => t.2.1)).length
  let put (k : Pkg) (a : Nat) (bs : Bytes) : Pkg :=
    k.lsStore c (Memory.writeBytes (k.core c).ls a bs) ((List.range bs.length).map (fun i => a + i))
  let finish (assign counts : Bytes) (assigned : List Nat) (overflow : Nat) : Pkg :=
    let k := (put (put k (trefData (x.f 24 8)) assign) (trefData (x.f 32 8)) counts).fpFlags c flags
    (k.computed c x none).updCmd c x.num (fun y => { y with routed := assigned, overflow := overflow })
  if x.expertChoice then
    let lists := (List.range n).map (fun e =>
      bestPicks cap ((cands.zip (List.range tokens)).filterMap (fun t =>
        (t.1.1.find? (fun p => p.ix == e)).map (fun p => { p with ix := t.2 }))))
    let lineBytes := (8 * cap + 63) / 64 * 64
    let lines := lists.flatMap (fun ps =>
      ((List.range cap).flatMap (fun i => match ps[i]? with
        | some p => leBytes 2 p.ix ++ leBytes 2 0 ++ leBytes 4 p.score
        | none => leBytes 2 0xFFFF ++ leBytes 6 0)) ++ List.replicate (lineBytes - 8 * cap) 0)
    let disp := (lists.zip (List.range n)).flatMap (fun l =>
      (List.range cap).flatMap (fun i => dispatchEntry (l.2 * cap + i) (l.1[i]?.map Pick.ix)))
    let assigned := lists.map List.length
    let empty := ((List.range tokens).filter (fun t => !lists.any (fun l => l.any (fun p => p.ix == t)))).length
    finish (lines ++ disp) (countsBytes x.biasGen n tokens assigned.sum empty 0 0 nans 0 cap assigned) assigned 0
  else
    let picks := cands.map (fun t => thresholdToken (fp32.decode (x.f 44 4)) x.atLeastOne t.1)
    -- Positions: a running count of picks per expert over the tokens (R336).
    let (counts, rows) := picks.foldl (fun (acc : List Nat × List (List (Nat × Pick))) tp =>
      let row := tp.picks.map (fun p => (acc.1.getD p.ix 0, p))
      (tp.picks.foldl (fun cs p => cs.set p.ix (cs.getD p.ix 0 + 1)) acc.1, acc.2 ++ [row])) (List.replicate n 0, [])
    let lines := (rows.zip picks).flatMap (fun r =>
      let words := r.1.map (fun p => pickWord p.2.ix p.1 cap r.2.forced)
      let weights := r.1.map (fun p => p.2.score)
      (words ++ List.replicate (16 - words.length) 0).flatMap (leBytes 4)
        ++ (weights ++ List.replicate (16 - weights.length) 0).flatMap (leBytes 4))
    let owner (e pos : Nat) : Option Nat :=
      (rows.zip (List.range tokens)).findSome? (fun r => if r.1.any (fun p => p.2.ix == e && p.1 == pos) then some r.2 else none)
    let disp := (List.range n).flatMap (fun e => (List.range cap).flatMap (fun i =>
      dispatchEntry (e * cap + i) (if i < counts.getD e 0 then owner e i else none)))
    let overflow := (counts.map (fun a => a - cap)).sum
    finish (lines ++ disp)
      (countsBytes x.biasGen n tokens counts.sum (picks.filter (fun p => p.picks.isEmpty)).length
        (picks.filter (fun p => p.forced)).length (picks.filter (fun p => p.truncated)).length nans overflow cap counts) counts overflow

/-- ROUTE: its checks, then its run. -/
def Pkg.routeCmd (k : Pkg) (c : Nat) (x : Cmd) : Pkg :=
  match k.routeCheck c x with
  | some st => k.computed c x (some { status := st })
  | none =>
    match k.lsRead c (k.vecTouch c x) with
    | (k, some b) => k.computed c x (some b)
    | (k, none) => k.routeRun c x

/-- Biases of a layer in force. -/
def Pkg.layerBiases (k : Pkg) (slot layer n : Nat) : List Nat :=
  (List.range n).map (fun e => k.getF (F.MOE_BIAS (layerIx slot layer) e))

/-- A starting ROUTE takes the biases in force (R330). -/
def Pkg.takeBiases (k : Pkg) (c : Nat) : Pkg :=
  match k.started c 0x12 with
  | some x =>
    if x.biases.isEmpty then
      let slot := k.coreSlot c
      k.updCmd c x.num (fun y => { y with biasGen := k.getF (F.MOE_GEN slot), biases := k.layerBiases slot (x.f 50 2 % 256) (x.f 40 2) })
    else k
  | none => k

/-! ### GROUPED_GEMM -/

/-- A group-table entry (Table 8-6). -/
structure GroupEntry where
  m : Nat
  n : Nat
  kk : Nat
  descs : List Nat
  a : Tensor
  b : Tensor
  o : Tensor
  acc : Bool
  skip : Bool
  sat : Bool
  mFrom : Bool
  mSrc : Nat
  bLayout : Nat
  reserved : Bool
  deriving DecidableEq, Repr

/-- Local-store offset of the group table and of DESC_ARRAY. -/
def Cmd.groupTable (x : Cmd) : Nat := bits (x.f 16 8) 25 0
/-- DESC_ARRAY. -/
def Cmd.descArray (x : Cmd) : Nat := bits (x.f 24 8) 25 0

/-- Read entry `i`. -/
def Pkg.groupEntry (k : Pkg) (c : Nat) (x : Cmd) (i : Nat) : GroupEntry :=
  let b := Memory.readBytes (k.core c).ls (x.groupTable + 32 * i) 32
  let fl := fieldAt b 9 1
  let desc (off : Nat) : Nat := x.descArray + 32 * fieldAt b off 1
  let t (off data : Nat) : Tensor := { d := Desc.parse (k.descAt c (desc off)), data := fieldAt b data 4 }
  { m := fieldAt b 0 2, n := fieldAt b 2 2, kk := fieldAt b 4 2, descs := [desc 6, desc 7, desc 8]
    a := t 6 12, b := t 7 16, o := t 8 20, acc := bit fl 0, skip := bit fl 1, sat := bit fl 2, mFrom := bit fl 3
    mSrc := fieldAt b 24 4, bLayout := fieldAt b 7 1
    reserved := decide (16 ≤ fl) || fieldAt b 10 2 != 0 || fieldAt b 28 4 != 0 || (!bit fl 3 && fieldAt b 24 4 != 0) }

/-- R355: the entry is checked for its reserved fields only. -/
def GroupEntry.idle (e : GroupEntry) : Bool := e.skip || e.m == 0 || e.n == 0 || e.kk == 0

/-- What an entry reads and writes (R358). -/
def GroupEntry.sets (e : GroupEntry) : List (Nat × Nat) × List (Nat × Nat) :=
  if e.idle then ([], [])
  else (e.descs.map (fun d => (d, 32)) ++ [e.a.d.footprint e.a.data, e.b.d.footprint e.b.data]
      ++ (if e.mFrom then [(e.mSrc, 4)] else []), [e.o.d.footprint e.o.data])

/-- The checks of one entry (R353–R356, R991 within the entry). -/
def Pkg.groupEntryCheck (k : Pkg) (c : Nat) (e : GroupEntry) : Option Status :=
  if e.reserved then some 0x3101
  else if e.idle then none
  else if e.a.data % 64 ≠ 0 ∨ e.b.data % 64 ≠ 0 ∨ e.o.data % 64 ≠ 0 ∨ (e.mFrom = true ∧ e.mSrc % 4 ≠ 0) then some 0x3106
  else
    let bad := [badMatrixDesc e.a.d false, badMatrixDesc e.b.d true,
      badMatrixDesc e.o.d false || e.o.d.fmt.int || (e.acc && e.o.d.format != 9)]
    match (e.descs.zip bad).findSome? (fun p => match k.descCheck c p.1 with
      | some st => some st
      | none => if p.2 then some 0x3105 else none) with
    | some st => some st
    | none => firstBad [
        (badPair e.a.d e.b.d, 0x3103),
        (e.a.d.smaller e.m e.kk || e.b.d.smaller e.kk e.n || e.o.d.smaller e.m e.n, 0x3109),
        (!e.a.inRange || !e.b.inRange || !e.o.inRange || (e.mFrom && decide (lsBytes < e.mSrc + 4)), 0x3104)]

/-- The entries in index order: the first that fails its checks, or overlaps what an earlier one or the table holds
(R356); a status of Table 8-11 carries the entry's index. -/
def Pkg.groupCheckFrom (k : Pkg) (c : Nat) : Nat → List (Nat × Nat) → List (Nat × Nat) → List GroupEntry → Option Bad
  | _, _, _, [] => none
  | i, rd, wr, e :: r =>
    match k.groupEntryCheck c e with
    | some st => some { status := st, info := if [0x3104, 0x3105].contains st then i else 0 }
    | none =>
      let (er, ew) := e.sets
      if setsMeet ew (rd ++ er) || setsMeet ew wr || setsMeet er wr then some { status := 0x310C, info := i }
      else k.groupCheckFrom c (i + 1) (rd ++ er) (wr ++ ew) r

/-- The entries of a GROUPED_GEMM. -/
def Pkg.groupEntries (k : Pkg) (c : Nat) (x : Cmd) : List GroupEntry := (List.range (x.f 32 2)).map (k.groupEntry c x)

/-- All checks after the word checks. -/
def Pkg.groupCheck (k : Pkg) (c : Nat) (x : Cmd) : Option Bad :=
  let n := x.f 32 2
  if n = 0 ∨ 4096 < n then some { status := 0x3109 }
  else if lsBytes < x.groupTable + 32 * n then some { status := 0x3104 }
  else k.groupCheckFrom c 0 [(x.groupTable, 32 * n)] [] (k.groupEntries c x)

/-- Footprints of a GROUPED_GEMM (R358). -/
def Pkg.groupSets (k : Pkg) (c : Nat) (x : Cmd) : List (Nat × Nat) × List (Nat × Nat) :=
  let es := k.groupEntries c x
  ((x.groupTable, 32 * x.f 32 2) :: es.flatMap (fun e => e.sets.1), es.flatMap (fun e => e.sets.2))

/-- Two entries belong to one run (R357). -/
def sameRun (a b : GroupEntry) : Bool :=
  a.b.data == b.b.data && a.bLayout == b.bLayout && a.n == b.n && a.kk == b.kk && a.acc == b.acc && a.sat == b.sat
    && a.a.d.format == b.a.d.format && a.o.d.format == b.o.d.format

/-- Cut the entries into runs; entries skipped or empty break a run. -/
def groupRuns : List GroupEntry → List (List GroupEntry)
  | [] => []
  | e :: r =>
    let rest := groupRuns r
    if e.idle then [] :: rest
    else match rest with
      | (f :: fs) :: more => if sameRun e f then (e :: f :: fs) :: more else [e] :: rest
      | _ => [e] :: rest

/-- The rows a run stacks, each with its entry (R357). -/
def runRows (es : List GroupEntry) : List (GroupEntry × Nat) := es.flatMap (fun e => (List.range e.m).map (fun i => (e, i)))

/-- Compute and write the first `blocks` blocks of a run, in block-row order, from a memory as it was before the command. -/
def Pkg.runWrite (k : Pkg) (c : Nat) (m0 : Memory) (es : List GroupEntry) (blocks : Nat) : Pkg :=
  let rows := runRows es
  match es with
  | [] => k
  | e0 :: _ =>
    let nb := (e0.n + 31) / 32
    let (mem, fl, wr) := (List.range blocks).foldl (fun (acc : Memory × Nat × List Nat) t =>
      ((rows.drop (32 * (t / nb))).take 32).foldl (fun (acc : Memory × Nat × List Nat) r =>
        let (e, i) := r
        let js := (List.range (min 32 (e.n - 32 * (t % nb)))).map (fun q => 32 * (t % nb) + q)
        let vals := js.map (fun j => gemmElem m0 e.a e.b (if e.acc then some e.o else none) e.kk i j)
        let fl := vals.foldl (fun f v => f ||| v.2) acc.2.1
        if e.o.d.transposed then
          (js.zip vals).foldl (fun (acc : Memory × Nat × List Nat) p =>
            let (mem, g) := e.o.putRun e.sat acc.1 [0, p.1, 0, 0, 0, 0] i [p.2.1]
            (mem, acc.2.1 ||| g, acc.2.2 ++ e.o.d.touch e.o.data [i, p.1, 0, 0, 0, 0])) (acc.1, fl, acc.2.2)
        else
          let (mem, g) := e.o.putRun e.sat acc.1 [0, i, 0, 0, 0, 0] (32 * (t % nb)) (vals.map Prod.fst)
          let len := if e.o.d.fmt.mx then 32 else js.length
          (mem, fl ||| g, acc.2.2 ++ (List.range len).flatMap (fun q => e.o.d.touch e.o.data [32 * (t % nb) + q, i, 0, 0, 0, 0]))) acc)
      ((k.core c).ls, 0, [])
    (k.lsStore c mem wr).fpFlags c fl

/-- Steps and blocks of a run. -/
def runBlocks (es : List GroupEntry) : Nat := ((runRows es).length + 31) / 32 * (((es.head?.map GroupEntry.n).getD 0 + 31) / 32)
/-- Steps per block of a run. -/
def runPer (es : List GroupEntry) : Nat := ((es.head?.map GroupEntry.kk).getD 0 + 31) / 32

/-- Run the runs in table order up to a step budget; the steps run, and whether the budget ended the command. -/
def Pkg.runAll (k : Pkg) (c : Nat) (m0 : Memory) (fail : Option Nat) : Nat → List (List GroupEntry) → Pkg × Nat × Bool
  | done, [] => (k, done, false)
  | done, r :: rest =>
    let total := runBlocks r * runPer r
    match fail with
    | some st =>
      if st < done + total then (k.runWrite c m0 r ((st - done) / runPer r), st, true)
      else (k.runWrite c m0 r (runBlocks r)).runAll c m0 fail (done + total) rest
    | none => (k.runWrite c m0 r (runBlocks r)).runAll c m0 fail (done + total) rest

/-- Local-store bytes a GROUPED_GEMM reads. -/
def Pkg.groupTouch (k : Pkg) (c : Nat) (x : Cmd) : List Nat :=
  (List.range (32 * x.f 32 2)).map (fun i => x.groupTable + i) ++
  (k.groupEntries c x).flatMap (fun e => if e.idle then [] else
    let grid (t : Tensor) (r s : Nat) : List Nat :=
      (List.range r).flatMap (fun i => (List.range s).flatMap (fun j => t.d.touch t.data (t.d.mat i j)))
    e.descs.flatMap (fun d => (List.range 32).map (fun i => d + i)) ++ grid e.a e.m e.kk ++ grid e.b e.kk e.n
      ++ (if e.acc then grid e.o e.m e.n else []) ++ (if e.mFrom then (List.range 4).map (fun i => e.mSrc + i) else []))

/-- GROUPED_GEMM: checks, counts (R354), then the runs. -/
def Pkg.groupedGemm (k : Pkg) (c : Nat) (x : Cmd) (fail : Option Nat) : Pkg × Option Bad :=
  match k.groupCheck c x with
  | some b => (k, some b)
  | none =>
    match k.lsRead c (k.groupTouch c x) with
    | (k, some b) => (k, some b)
    | (k, none) =>
      let m0 := (k.core c).ls
      let es := (k.groupEntries c x).map (fun e =>
        if e.mFrom && !e.idle then { e with m := min e.m (Memory.readNat m0 e.mSrc 4) } else e)
      let (k, steps, failed) := k.runAll c m0 fail 0 (groupRuns es)
      (k.addWrap (F.CORE_ME_STEPS c) steps, if failed then some { status := 0x5102 } else none)

/-- GROUPED_GEMM (R353–R358): `fail` is the step whose residue check fails, if one does (R995). -/
def execGroupedGemm (p : PkgId) (core : CoreId) (fail : Option Nat) (t : Nat) (s : State) : Host.Outcome State Fault Refusal :=
  .next (s.updPkg p (fun k => (k.at t).onStarted core 0x02 (fun k x =>
    let (k, bad) := k.groupedGemm core x fail
    match bad with
    | some b => if b.status = 0x5102 then k.residue core x else k.computed core x (some b)
    | none => k.computed core x none)))

/-- ROUTE (R327–R342). -/
def execRoute (p : PkgId) (core : CoreId) (t : Nat) (s : State) : Host.Outcome State Fault Refusal :=
  .next (s.updPkg p (fun k => (k.at t).onStarted core 0x12 (fun k x => k.routeCmd core x)))

/-! ### Starting and retiring -/

/-- The read and write sets of any command. -/
def Pkg.fullSets (c : Nat) (k : Pkg) (x : Cmd) : List (Nat × Nat) × List (Nat × Nat) :=
  match x.op with
  | 0x02 => k.groupSets c x
  | 0x03 => k.attnSets c x
  | _ => k.baseSets c x

/-- Start the head of a queue; a BATCH ATTN_BLOCK must take lane slots for all its lanes (R313), and a ROUTE takes the
biases in force (R330). -/
def Pkg.commandStart (k : Pkg) (c q : Nat) : Pkg :=
  let k' := k.startCmd c q (Pkg.fullSets c)
  match (k.play c).bind (fun p => p.queueHead q) with
  | none => k
  | some x =>
    let need := k.lanesNeeded c x
    let started := match k'.cmd c x.num with
      | some y => y.phase == .running
      | none => false
    if started && decide (0 < need) then
      if 4096 < k.lanesHeld (c / 16) + need then k else k'.updCmd c x.num (fun y => { y with laneSlots := need })
    else k'.takeBiases c

/-- COMMAND_START (R173–R181); `stalls` cycles were spent waiting for a hazard. -/
def execCommandStart (p : PkgId) (core : CoreId) (queue : Fin 3) (stalls t : Nat) (s : State) : Host.Outcome State Fault Refusal :=
  .next (s.updPkg p (fun k => ((k.at t).addWrap (F.CORE_HAZ_STALLS core) stalls).commandStart core queue))

/-- LANE_SLOTS_GRANTED (R313): a waiting BATCH ATTN_BLOCK at the head of the matrix queue starts once enough slots are
free. -/
def execLaneSlotsGranted (p : PkgId) (core : CoreId) (t : Nat) (s : State) : Host.Outcome State Fault Refusal :=
  .next (s.updPkg p (fun k =>
    let k := k.at t
    match (k.play core).bind (fun pl => pl.queueHead 0) with
    | some x => if x.op = 0x03 ∧ x.batch = true then k.commandStart core 0 else k
    | none => k))

/-- Add load counts to a layer (R342). -/
def Pkg.addLoads (k : Pkg) (slot layer : Nat) (ns : List Nat) : Pkg :=
  (ns.zip (List.range ns.length)).foldl (fun k p => k.addWrap (F.MOE_LOAD (layerIx slot layer) p.2) p.1) k

/-- Send counts to the captain in ROUTE_COUNTS packets of six experts (Table 10-5). -/
def Pkg.sendCounts (k : Pkg) (slot layer kind when_ : Nat) (ns : List Nat) : Pkg :=
  (List.range ((ns.length + 5) / 6)).foldl (fun k i =>
    let six := (List.range 6).map (fun j => ns.getD (6 * i + j) 0)
    k.sendHub 0x49 slot (k.captain slot)
      (leBytes 1 layer ++ leBytes 1 kind ++ leBytes 2 (6 * i) ++ leBytes 8 when_ ++ six.flatMap (leBytes 4))) k

/-- Element-wise sum of count lists. -/
def addLists (a b : List Nat) : List Nat := (List.range (max a.length b.length)).map (fun i => a.getD i 0 + b.getD i 0)

/-- ROUTE_STEP_CLOSE (R361): one more OK retirement on a PLAN layer of a HOST_STEP partition; the last of a step sends its
counts to the captain. -/
def Pkg.stepRoute (k : Pkg) (slot layer : Nat) (ns : List Nat) : Pkg :=
  let y := layerIx slot layer
  if !k.flag (F.MOE_SCHED_MODE slot) || !k.flag (F.MOE_PLAN y) then k
  else
    let old := (k.moe.steps.find? (fun s => s.slot == slot && s.layer == layer)).getD
      { slot := slot, layer := layer, routes := 0, step := 0, sums := [] }
    let others := k.moe.steps.filter (fun s => !(s.slot == slot && s.layer == layer))
    let sums := addLists old.sums ns
    if k.getF (F.MOE_ROUTES_PER_STEP y) ≤ old.routes + 1 then
      let k := { k with moe := { k.moe with steps := { old with routes := 0, step := old.step + 1, sums := [] } :: others } }
      k.sendCounts slot layer 1 old.step sums
    else { k with moe := { k.moe with steps := { old with routes := old.routes + 1, sums := sums } :: others } }

/-- COMMAND_RETIRE (R175, R176): a ROUTE that retires OK adds its loads and counts towards its step (R342, R361). -/
def Pkg.retireRow (k : Pkg) (c num : Nat) : Pkg :=
  let x := k.settleCmds.cmd c num
  let slot := k.coreSlot c
  let k := k.commandRetire c num
  match x, k.cmd c num with
  | some x, none =>
    if x.op = 0x12 ∧ x.status = 0 then
      let layer := x.f 50 2 % 256
      ((k.addLoads slot layer x.routed).addSat (F.MOE_STATS slot 2) x.overflow).stepRoute slot layer x.routed
    else k
  | _, _ => k

/-- COMMAND_RETIRE. -/
def execCommandRetire (p : PkgId) (core : CoreId) (num t : Nat) (s : State) : Host.Outcome State Fault Refusal :=
  .next (s.updPkg p (fun k => (k.at t).retireRow core num))

/-! ### The bias loop -/

/-- An epoch boundary. -/
def atBoundary (t : Nat) : Bool := t % epochTicks == 0

/-- The layers the loop runs for (R343). -/
def Pkg.loopLayers (k : Pkg) (slot : Nat) : List Nat :=
  if !k.flag (F.MOE_LOOP_ON slot) then []
  else (List.range 256).filter (fun l => k.flag (F.MOE_LOOP_EN (layerIx slot l)) && k.getF (F.MOE_EXPERTS (layerIx slot l)) != 0)

/-- Loads of a layer. -/
def Pkg.loads (k : Pkg) (slot layer n : Nat) : List Nat := (List.range n).map (fun e => k.getF (F.MOE_LOAD (layerIx slot layer) e))

/-- LOOP_WINDOW_CLOSE (R344): snapshot, clear and send, at an epoch boundary whose number is a multiple of the period. -/
def Pkg.closeWindow (k : Pkg) (slot t : Nat) : Pkg :=
  let n := k.getF (F.MOE_PERIOD slot)
  let epoch := t / epochTicks
  if !k.flag F.HTM_VALID ∨ !atBoundary t ∨ n = 0 ∨ epoch % n ≠ 0 then k
  else (k.loopLayers slot).foldl (fun k l =>
    let e := k.getF (F.MOE_EXPERTS (layerIx slot l))
    let ns := k.loads slot l e
    let k := (List.range e).foldl (fun k i => k.setF (F.MOE_LOAD (layerIx slot l) i) 0) k
    k.sendCounts slot l 0 epoch ns) k

/-- LOOP_WINDOW_CLOSE. -/
def execLoopWindowClose (p : PkgId) (slot : SlotId) (t : Nat) (s : State) : Host.Outcome State Fault Refusal :=
  .next (s.updPkg p (fun k => (k.at t).closeWindow slot t))

/-- Read a slot's entry of a list of (slot, number). -/
def slotNat (xs : List (Nat × Nat)) (slot : Nat) : Option Nat := (xs.find? (fun x => x.1 == slot)).map Prod.snd
/-- Set a slot's entry. -/
def setSlotNat (xs : List (Nat × Nat)) (slot v : Nat) : List (Nat × Nat) := (slot, v) :: xs.filter (fun x => x.1 != slot)

/-- The report in a ROUTE_COUNTS packet. -/
def countReport (p : Packet) : CountReport :=
  { slot := p.slot, kind := fieldAt p.body 1 1, layer := fieldAt p.body 0 1, when_ := fieldAt p.body 4 8, src := p.src
    first := fieldAt p.body 2 2, counts := (List.range 6).map (fun j => fieldAt p.body (12 + 4 * j) 4) }

/-- Keep a report. -/
def Pkg.keepReport (k : Pkg) (r : CountReport) : Pkg := { k with moe := { k.moe with reports := k.moe.reports ++ [r] } }

/-- ROUTE_COUNTS_SNAPSHOT (R345): the captain keeps a snapshot; one that arrives after its window was decided is
discarded. -/
def execRouteCountsSnapshot (p : PkgId) (pkt : Packet) (t : Nat) (s : State) : Host.Outcome State Fault Refusal :=
  .next (s.updPkg p (fun k => (k.at t).sequenced pkt (fun k =>
    let r := countReport pkt
    let old := match slotNat k.moe.decided r.slot with
      | some e => decide (r.when_ ≤ e)
      | none => false
    if r.kind ≠ 0 ∨ old = true ∨ !k.isCaptain r.slot then (k, 0, none) else (k.keepReport r, 0, none))))

/-- The sums of every package's reports of one kind, layer and time; none while one is missing. -/
def Pkg.sumReports (k : Pkg) (slot kind layer when_ n : Nat) : Option (List Nat) :=
  let rs := k.moe.reports.filter (fun r => r.slot == slot && r.kind == kind && r.layer == layer && r.when_ == when_)
  let get (src i : Nat) : Option Nat := (rs.find? (fun r => r.src == src && r.first == i / 6 * 6)).map (fun r => r.counts.getD (i % 6) 0)
  let pkgs := k.partPackages slot
  if pkgs.all (fun q => (List.range ((n + 5) / 6)).all (fun i => (get q (6 * i)).isSome)) then
    some ((List.range n).map (fun e => (pkgs.map (fun q => (get q e).getD 0)).sum))
  else none

/-- One bias of R345. -/
def biasStep (n deadband total loads : Nat) (eta clamp : Num) (bias : Nat) : Nat :=
  let b := fp32.decode bias
  let d : Int := (loads : Int) * n - total
  let v := if 1000 * d > (deadband : Int) * total then (sub32 b eta).1
    else if 1000 * d < -((deadband : Int) * total) then (add32 b eta).1
    else b
  (if v == .nan then clamp.flip else minNum (maxNum v clamp.flip) clamp).bits32

/-- The captain gives a generation the next number and sends it to every package of the partition (R347); the layout of its
packets is not given, so their bodies are open bytes (log entry 13). -/
def Pkg.issueGeneration (k : Pkg) (slot : Nat) : Pkg × Nat :=
  let num := max ((slotNat k.moe.lastGen slot).getD 0) (k.getF (F.MOE_GEN slot)) + 1
  let k := { k with moe := { k.moe with lastGen := setSlotNat k.moe.lastGen slot num } }
  (((k.partPackages slot).foldl (fun (k : Pkg) (q : Nat) => (k.sendHub 0x4D slot q (k.freeBytes 36) (.moe slot num q)).draw) k), num)

/-- BIAS_UPDATE_COMPUTE (R345–R347): at the end of the epoch after a close. -/
def Pkg.biasUpdate (k : Pkg) (slot t : Nat) : Pkg :=
  let n := k.getF (F.MOE_PERIOD slot)
  let close := t / epochTicks - 1
  let doneAlready := match slotNat k.moe.decided slot with
    | some e => decide (close ≤ e)
    | none => false
  let layers := k.loopLayers slot
  if !k.isCaptain slot ∨ t < epochTicks ∨ !atBoundary t ∨ n = 0 ∨ close % n ≠ 0 ∨ doneAlready = true ∨ layers.isEmpty then k
  else
    let sums := layers.map (fun l => (l, k.sumReports slot 0 l close (k.getF (F.MOE_EXPERTS (layerIx slot l)))))
    let k := { k with moe := { k.moe with
      decided := setSlotNat k.moe.decided slot close
      reports := k.moe.reports.filter (fun r => !(r.slot == slot && r.kind == 0 && decide (r.when_ ≤ close))) } }
    if sums.any (fun x => x.2.isNone) then k.raise F.MOE_LOOP_SKIPPED
    else
      let eta := fp32.decode (k.getF (F.MOE_ETA slot))
      let clamp := fp32.decode (k.getF (F.MOE_CLAMP slot))
      let new := sums.map (fun x =>
        let ns := x.2.getD []
        let total := ns.sum
        let old := k.layerBiases slot x.1 ns.length
        (x.1, if total = 0 then old
          else (old.zip ns).map (fun p => biasStep ns.length (k.getF (F.MOE_DEADBAND (layerIx slot x.1))) total p.2 eta clamp p.1)))
      let (k, num) := k.issueGeneration slot
      { k with moe := { k.moe with issued := { slot := slot, num := num, epoch := close + 2, host := false, layers := new } :: k.moe.issued } }

/-- BIAS_UPDATE_COMPUTE. -/
def execBiasUpdateCompute (p : PkgId) (slot : SlotId) (t : Nat) (s : State) : Host.Outcome State Fault Refusal :=
  .next (s.updPkg p (fun k => (k.at t).biasUpdate slot t))

/-- Write a generation's biases, except those of layers that a host generation of the same apply epoch wrote (R351). -/
def Pkg.writeGeneration (k : Pkg) (g : Generation) : Pkg :=
  let kept (l : Nat) : Bool := !g.host && k.moe.hostApplied.any (fun h => h.slot == g.slot && h.epoch == g.epoch && h.layers.any (fun y => y.1 == l))
  let k := (g.layers.filter (fun l => !kept l.1)).foldl (fun k l =>
    (l.2.zip (List.range l.2.length)).foldl (fun k p => k.setF (F.MOE_BIAS (layerIx g.slot l.1) p.2) p.1) k) k
  let k := if g.host then { k with moe := { k.moe with hostApplied := g :: k.moe.hostApplied.filter (fun h => h.slot != g.slot || h.epoch == g.epoch) } } else k
  ((k.setF (F.MOE_GEN g.slot) g.num).raise F.MOE_BIAS_APPLIED)

/-- The held generation a package may apply next (R349). -/
def Pkg.nextGeneration (k : Pkg) (slot : Nat) : Option Generation :=
  let gen := k.getF (F.MOE_GEN slot)
  if gen = 0 then k.moe.held.find? (fun g => g.slot == slot)
  else k.moe.held.find? (fun g => g.slot == slot && g.num == gen + 1)

/-- BIAS_APPLY (R348, R349): apply, in order, every generation whose turn it is and whose epoch has come; `fuel` bounds
them. -/
def Pkg.applyGenerations (k : Pkg) (slot epoch : Nat) : Nat → Pkg
  | 0 => k
  | fuel + 1 =>
    match k.nextGeneration slot with
    | none => k
    | some g =>
      if epoch < g.epoch then k
      else
        let k := { k with moe := { k.moe with held := k.moe.held.filter (fun h => !(h.slot == slot && decide (h.num ≤ g.num))) } }
        let k := if g.epoch < epoch then k.raise F.MOE_BIAS_STALE else k
        (k.writeGeneration g).applyGenerations slot epoch fuel

/-- BIAS_APPLY. -/
def execBiasApply (p : PkgId) (slot : SlotId) (t : Nat) (s : State) : Host.Outcome State Fault Refusal :=
  .next (s.updPkg p (fun k =>
    let k := k.at t
    if atBoundary t && k.flag F.HTM_VALID then k.applyGenerations slot (t / epochTicks) k.moe.held.length else k))

/-- BIAS_STALE at a boundary (R349): a generation that is due and whose predecessor has not come. -/
def Pkg.staleCheck (k : Pkg) (slot epoch : Nat) : Pkg :=
  let after := k.applyGenerations slot epoch k.moe.held.length
  if after.moe.held.any (fun g => g.slot == slot && decide (g.epoch ≤ epoch)) then k.raise F.MOE_BIAS_STALE else k

/-- BIAS_GENERATION_RECEIVE (R349): acknowledge and hold. -/
def execBiasGenerationReceive (p : PkgId) (pkt : Packet) (num epoch : Nat) (host : Bool) (layers : LayerBiases) (t : Nat) (s : State) :
    Host.Outcome State Fault Refusal :=
  .next (s.updPkg p (fun k => (k.at t).sequenced pkt (fun k =>
    let g : Generation := { slot := pkt.slot, num := num, epoch := epoch, host := host, layers := layers }
    if (num ≤ k.getF (F.MOE_GEN pkt.slot) ∧ k.getF (F.MOE_GEN pkt.slot) ≠ 0) ∨ k.moe.held.any (fun h => h.slot == pkt.slot && h.num == num) then (k, 0, none)
    else
      let k := { k with moe := { k.moe with held := k.moe.held ++ [g] } }
      (if epoch * epochTicks < k.now then k.raise F.MOE_BIAS_STALE else k, 0, none))))

/-- BIAS_COMMIT (R350): at the captain of the selected slot, the staged biases of the selected layer become a generation. -/
def Pkg.biasCommit (k : Pkg) (epoch t : Nat) : Pkg :=
  let slot := k.getF F.MOE_SEL_SLOT
  let layer := k.getF F.MOE_SEL_LAYER
  if !k.isCaptain slot then k
  else
    let at_ := max (epoch % 2 ^ 43) (t / epochTicks + 2)
    let vals := (List.range 1024).map (fun e => k.getF (F.MOE_BIAS_STAGE (layerIx slot layer) e))
    let (k, num) := k.issueGeneration slot
    { k with moe := { k.moe with issued := { slot := slot, num := num, epoch := at_, host := true, layers := [(layer, vals)] } :: k.moe.issued } }

/-- BIAS_COMMIT. -/
def execBiasCommit (p : PkgId) (src : CsrSource) (epoch t : Nat) (s : State) : Host.Outcome State Fault Refusal :=
  .next (s.updPkg p (fun k => (k.at t).viaPkg src 0x500200 .p (fun k => k.biasCommit epoch t)))

/-- Settle the engine's messages: one that was not taken is sent again, for as long as its generation stands (R349). -/
def Pkg.settleMoe (k : Pkg) : Pkg :=
  let mine := k.fab.done.filter (fun d => match d.1 with | .moe .. => true | _ => false)
  let k := { k with fab := { k.fab with done := k.fab.done.filter (fun d => match d.1 with | .moe .. => false | _ => true) } }
  mine.foldl (fun k d => match d.1 with
    | .moe slot num target =>
      if statusOk d.2.1 || !k.moe.issued.any (fun g => g.slot == slot && g.num == num) then k
      else (k.sendHub 0x4D slot target (k.freeBytes 36) (.moe slot num target)).draw
    | _ => k) k

end Sys2Proof.Machine
end

