-- ==== Sys2Proof/Machine/Collectives.lean ====
section
/-! DEFINITION. The collective engine: call descriptors, participants, forms and stages (R514–R536), step packets
(R537–R539), firing, failing and ending (R517–R524, R540–R543). -/

namespace Sys2Proof.Machine

/-! ### Call descriptors (Table 11-3) -/

/-- `CD_OP`. -/
def cdOp (d : Bytes) : Nat := fieldAt d 0 1
/-- `CD_REDOP`. -/
def cdRed (d : Bytes) : Nat := fieldAt d 1 1
/-- `CD_SCOPE`. -/
def cdScope (d : Bytes) : Nat := fieldAt d 2 1
/-- `CD_OUT_FMT`. -/
def cdOut (d : Bytes) : Nat := fieldAt d 3 1
/-- `CD_CHANNEL`. -/
def cdChan (d : Bytes) : Nat := fieldAt d 4 2
/-- `CD_FIRE_SEM`. -/
def cdFireSem (d : Bytes) : Nat := fieldAt d 6 2
/-- `CD_FIRE_THRESHOLD`. -/
def cdThreshold (d : Bytes) : Nat := fieldAt d 8 4
/-- `CD_DONE_SEM`. -/
def cdDone (d : Bytes) : Nat := fieldAt d 12 2
/-- `CD_FLAGS`. -/
def cdFlags (d : Bytes) : Nat := fieldAt d 14 2
/-- `CD_START_HT`. -/
def cdStart (d : Bytes) : Nat := fieldAt d 16 8
/-- `CD_SRC_WIN`. -/
def cdSrcWin (d : Bytes) : Nat := fieldAt d 24 2
/-- `CD_DST_WIN`. -/
def cdDstWin (d : Bytes) : Nat := fieldAt d 26 2
/-- `CD_SRC_KEY`. -/
def cdSrcKey (d : Bytes) : Nat := fieldAt d 28 4
/-- `CD_DST_KEY`. -/
def cdDstKey (d : Bytes) : Nat := fieldAt d 32 4
/-- `CD_ROOT`. -/
def cdRoot (d : Bytes) : Nat := fieldAt d 36 4
/-- `CD_SRC_OFF`. -/
def cdSrcOff (d : Bytes) : Nat := fieldAt d 40 8
/-- `CD_DST_OFF`. -/
def cdDstOff (d : Bytes) : Nat := fieldAt d 48 8
/-- `CD_COUNT`. -/
def cdCount (d : Bytes) : Nat := fieldAt d 56 4
/-- `CD_TIMEOUT`. -/
def cdTimeout (d : Bytes) : Nat := fieldAt d 60 4

/-- REDUCE, ALL_REDUCE or REDUCE_SCATTER. -/
def cdReduces (d : Bytes) : Bool := cdOp d == 3 || cdOp d == 4 || cdOp d == 5
/-- BROADCAST or REDUCE. -/
def cdRooted (d : Bytes) : Bool := cdOp d == 2 || cdOp d == 3
/-- The element format of the source. -/
def cdIn (d : Bytes) : Nat := if cdReduces d then cdRed d / 16 else cdOut d
/-- Bytes of an element of a format. -/
def fmtBytes (code : Nat) : Nat := ((fmtOf code).getD fp32).width / 8
/-- The format of partials (R509): INT32 for IADD, else FP32. -/
def cdPartial (d : Bytes) : Nat := if cdIn d = 0xA then 0xA else 9
/-- The digest of a JOIN (Table 11-7). -/
def cdDigest (d : Bytes) : Nat := crc32c (d.take 4 ++ (d.drop 56).take 4)
/-- Reducer codes valid for a call (Table 11-2). -/
def callReducer (code : Nat) : Bool :=
  [0x11, 0x12, 0x13, 0x21, 0x22, 0x23, 0x81, 0x82, 0x83, 0x91, 0x92, 0x93, 0xA4].contains code

/-! ### Participants (R514, R515) -/

/-- Racks of the partition, in increasing rack ID. -/
def Pkg.partRacks (k : Pkg) (slot : Nat) : List Nat :=
  let rs := ((k.partPackages slot).map (fun t => t / 128)).eraseDups
  (List.range 2048).filter (fun r => rs.contains r)

/-- The participants joined by one level, in rank order: 0 BRAID, 1 ROW, 2 HALL. -/
def Pkg.levelRanks (k : Pkg) (slot level : Nat) : List Nat :=
  match level with
  | 0 => (List.range 72).map (fun i => k.rack * 128 + i)
  | 1 => ((k.partRacks slot).filter (fun r => rackRow r == rackRow k.rack)).map (fun r => r * 128 + k.id)
  | _ => ((k.partRacks slot).filter (fun r => rackPos r == rackPos k.rack)).map (fun r => r * 128 + k.id)

/-- All participants of a scope. -/
def Pkg.callPackages (k : Pkg) (slot scope : Nat) : List Nat :=
  let rs := (k.partRacks slot).filter (fun r => (bit scope 2 || rackRow r == rackRow k.rack) && (bit scope 1 || rackPos r == rackPos k.rack))
  rs.flatMap (fun r => if bit scope 0 then (List.range 72).map (fun i => r * 128 + i) else [r * 128 + k.id])

/-- Levels of a scope that join more than one participant. -/
def Pkg.callLevels (k : Pkg) (slot scope : Nat) : List Nat :=
  (List.range 3).filter (fun l => bit scope l && decide (1 < (k.levelRanks slot l).length))

/-! ### Forms and stages (R525–R536) -/

/-- Rings used at a level that carries `bytes` per participant (R525, R526): 0 is DIRECT. -/
def Pkg.ringsFor (k : Pkg) (level bytes : Nat) : Nat :=
  if bytes ≤ k.getF F.COL_T1 then 0
  else if level ≠ 0 then 2
  else if bytes ≤ k.getF F.COL_T2 then 8 else 16

/-- Elements of a block: ⌈len/n⌉ rounded up to 64 bytes of the input format (Table 11-5). -/
def blockElems (len n width : Nat) : Nat :=
  let u := 64 / width
  ((len + n - 1) / n + u - 1) / u * u

/-- A stage of a level. -/
def Pkg.stageAt (k : Pkg) (slot : Nat) (kind : StageKind) (level rings root lo len blk fmt : Nat) (conv : Bool) : Stage :=
  let ranks := k.levelRanks slot level
  { kind := kind, level := level, rings := rings, ranks := ranks, me := ranks.findIdx (fun t => t == k.target), root := root
    lo := lo, len := len, blk := blk, fmt := fmt, conv := conv }

/-- Start and end of the block of rank `p`. -/
def Stage.block (s : Stage) (p : Nat) : Nat × Nat := (s.lo + min (p * s.blk) s.len, s.lo + min ((p + 1) * s.blk) s.len)

/-- Start and end of part `r` of the block of rank `p` (R530), for elements of `width` bytes. -/
def Stage.part (s : Stage) (width r p : Nat) : Nat × Nat :=
  let (a, b) := s.block p
  let u := ((b - a) * width + 64 * s.rings - 1) / (64 * s.rings) * 64 / width
  (min (a + r * u) b, min (a + (r + 1) * u) b)

/-- The successor of rank `q` on ring `r` (R529, R576). -/
def Stage.succ (s : Stage) (r q : Nat) : Nat :=
  let n := s.ranks.length
  let d := if s.level = 0 then stride (r / 2) else 1
  if r % 2 = 0 then (q + d) % n else (q + n - d % n) % n

/-- The predecessor of rank `q` on ring `r`. -/
def Stage.pred (s : Stage) (r q : Nat) : Nat :=
  let n := s.ranks.length
  let d := if s.level = 0 then stride (r / 2) else 1
  if r % 2 = 0 then (q + n - d % n) % n else (q + d) % n

/-- The port of ring `r`. -/
def Stage.port (s : Stage) (r : Nat) : Nat := if s.level = 0 then r else 14 + 2 * s.level + r

/-- Its packets are WRITEs (R538). -/
def Stage.final (s : Stage) : Bool :=
  match s.kind with
  | .scatter => false
  | .toRoot => false
  | _ => true

/-- The stages of an ALL_REDUCE over a region (R535): `first` while the input format still stands. -/
def Pkg.allReduceStages (k : Pkg) (slot : Nat) (d : Bytes) : List Nat → Nat → Nat → Bool → List Stage
  | [], _, _, _ => []
  | l :: rest, lo, len, first =>
    let ein := fmtBytes (cdIn d)
    let w := if first then ein else 4
    let rings := k.ringsFor l (len * w)
    let blk := blockElems len (k.levelRanks slot l).length ein
    let last := rest.isEmpty
    let sc := k.stageAt slot .scatter l rings 0 lo len blk (if first && rings == 0 then cdIn d else cdPartial d) last
    let ga (fmt : Nat) := k.stageAt slot .gather l rings 0 lo len blk fmt false
    if l = 0 then
      let (a, b) := sc.block sc.me
      sc :: (k.allReduceStages slot d rest a (b - a) false ++ [ga (cdOut d)])
    else sc :: ga (if last then cdOut d else cdPartial d) :: k.allReduceStages slot d rest lo len false

/-- Does this package stand, in every level below `l` of the call, where the root stands. -/
def Pkg.onRootLine (k : Pkg) (d : Bytes) (levels : List Nat) (l : Nat) : Bool :=
  (!(levels.contains 0 && decide (0 < l)) || k.id == cdRoot d % 128)
    && (!(levels.contains 1 && decide (1 < l)) || rackPos k.rack == rackPos (cdRoot d / 128))

/-- The rank of a level's root. -/
def Pkg.levelRoot (k : Pkg) (slot : Nat) (d : Bytes) (l : Nat) : Nat :=
  (k.levelRanks slot l).findIdx (fun t => match l with
    | 0 => t % 128 == cdRoot d % 128
    | 1 => rackPos (t / 128) == rackPos (cdRoot d / 128)
    | _ => rackRow (t / 128) == rackRow (cdRoot d / 128))

/-- The stages of a REDUCE (R532, R536). -/
def Pkg.reduceStages (k : Pkg) (slot : Nat) (d : Bytes) (levels : List Nat) : List Stage :=
  (levels.filter (k.onRootLine d levels)).flatMap (fun l =>
    let first := levels.head? == some l
    let last := levels.getLast? == some l
    let e := cdCount d
    let ein := fmtBytes (cdIn d)
    let rings := k.ringsFor l (e * (if first then ein else 4))
    let root := k.levelRoot slot d l
    if rings = 0 then [k.stageAt slot .toRoot l 0 root 0 e e (if first then cdIn d else cdPartial d) last]
    else
      let blk := blockElems e (k.levelRanks slot l).length ein
      [k.stageAt slot .scatter l rings root 0 e blk (cdPartial d) last,
       k.stageAt slot .collect l rings root 0 e blk (if last then cdOut d else cdPartial d) false])

/-- The stages of a call at this package. -/
def Pkg.callStages (k : Pkg) (slot : Nat) (d : Bytes) : List Stage :=
  let levels := k.callLevels slot (cdScope d)
  let e := cdCount d
  let ein := fmtBytes (cdIn d)
  match cdOp d with
  | 2 => (levels.reverse.filter (k.onRootLine d levels)).map (fun l =>
      k.stageAt slot .spread l (k.ringsFor l (e * ein)) (k.levelRoot slot d l) 0 e e (cdOut d) false)
  | 3 => k.reduceStages slot d levels
  | 4 => k.allReduceStages slot d levels 0 e true
  | 5 => levels.map (fun l =>
      let rings := k.ringsFor l (e * ein)
      k.stageAt slot .scatter l rings 0 0 e (e / (k.levelRanks slot l).length) (if rings = 0 then cdIn d else cdPartial d) true)
  | 6 => levels.map (fun l =>
      k.stageAt slot .gather l (k.ringsFor l (e * ein)) 0 0 (e * (k.levelRanks slot l).length) e (cdOut d) false)
  | 7 => levels.map (fun l => k.stageAt slot .exchange l 0 0 0 (e * (k.levelRanks slot l).length) e (cdOut d) false)
  | _ => []

/-- `COL_CS_FORM`: the braid form. -/
def formOf (d : Bytes) (stages : List Stage) : Nat :=
  match stages.find? (fun s => s.level == 0) with
  | some s => if cdOp d = 7 then 0 else if s.rings = 16 then 2 else if s.rings = 8 then 1 else 0
  | none => 0

/-! ### Elements -/

/-- An element held. -/
def CallRun.val (r : CallRun) (e : Nat) : Nat := Sparse.get semZero r.vals e
/-- Hold an element. -/
def CallRun.setVal (r : CallRun) (e v : Nat) : CallRun := { r with vals := Sparse.set semZero r.vals e v }
/-- Hold consecutive elements. -/
def CallRun.setVals (r : CallRun) (first : Nat) (vs : List Nat) : CallRun :=
  (vs.zip (List.range vs.length)).foldl (fun r p => r.setVal (first + p.2) p.1) r
/-- Elements `a` to `b`. -/
def CallRun.slice (r : CallRun) (a b : Nat) : List Nat := (List.range (b - a)).map (fun i => r.val (a + i))

/-- One reduction step in FP32 or INT32 (R509). -/
def combine (code a b : Nat) : Nat := (reduceBits (if code % 16 = 4 then 0xA4 else 0x90 + code % 16) a b).1

/-- The final conversion (R510). -/
def toOut (d : Bytes) (v : Nat) : Nat :=
  if cdIn d = 0xA then v else (((fmtOf (cdOut d)).getD fp32).encode (bit (cdFlags d) 0) (fp32.decode v)).1

/-- An element as a stage's packets carry it. -/
def Stage.pack (s : Stage) (v : Nat) : Nat :=
  if s.final || s.fmt == 9 || s.fmt == 0xA then v else (((fmtOf s.fmt).getD fp32).encode false (fp32.decode v)).1

/-- A received element of a reduce stage as FP32 or INT32, exactly. -/
def Stage.unpack (s : Stage) (v : Nat) : Nat :=
  if s.final || s.fmt == 9 || s.fmt == 0xA then v else (((fmtOf s.fmt).getD fp32).decode v).bits32

/-- Little-endian elements of `w` bytes. -/
def unpackElems (w : Nat) (bs : Bytes) : List Nat := (List.range (bs.length / w)).map (fun i => fieldAt bs (w * i) w)

/-! ### Sending -/

/-- The owner of a call's packets. -/
def CallRun.owner (r : CallRun) : Owner := .collective r.slot r.call r.inst

/-- A packet of a call on its channel. -/
def Pkg.callPacket (k : Pkg) (r : CallRun) (p : Packet) (via : Option Nat) : Outgoing :=
  let ch := k.channel r.slot (cdChan r.desc)
  { pkt := { p with stream := p.stream % 2 ^ 16 / 2 ^ 14 * 2 ^ 14 + r.slot * 4096 + ch.stream }, sched := !ch.openClass
    chan := cdChan r.desc, spread := ch.spread, owner := r.owner, own := false, via := via }

/-- Send elements of a stage to a rank; on a ring they wait for the successor's JOIN (R533). -/
def Pkg.stepSend (k : Pkg) (r : CallRun) (s : Stage) (rank first : Nat) (vs : List Nat) (ring : Option Nat) : Pkg × CallRun :=
  let w := fmtBytes s.fmt
  let dst := s.ranks.getD rank 0
  let pkts := k.runPackets r.slot (cdChan r.desc) (if s.final then 0x10 else 0x11) dst r.call (cdRed r.desc)
    (r.inst % 16 * 2 ^ 40 + first * w) (vs.flatMap (fun v => leBytes w (s.pack v)))
  let outs := pkts.map (fun p => k.callPacket r p (ring.map s.port))
  if ring.isSome && !r.joined.contains dst then (k, { r with waiting := r.waiting ++ outs })
  else (outs.foldl (fun k o => k.send o) k, { r with out := r.out + outs.length })

/-- Do something for each of a list of numbers with a package and a run. -/
def eachRun (xs : List Nat) (k : Pkg) (r : CallRun) (act : Pkg → CallRun → Nat → Pkg × CallRun) : Pkg × CallRun :=
  xs.foldl (fun (a : Pkg × CallRun) i => act a.1 a.2 i) (k, r)

/-- The other ranks. -/
def Stage.others (s : Stage) : List Nat := (List.range s.ranks.length).filter (fun p => p != s.me)

/-- What a package sends when a stage begins (Tables 11-5, 11-6). -/
def Pkg.beginStage (k : Pkg) (r : CallRun) (s : Stage) : Pkg × CallRun :=
  let w := fmtBytes (cdIn r.desc)
  let rings := List.range s.rings
  let ringSend (block : Nat → Nat) : Pkg × CallRun := eachRun rings k r (fun k r i =>
    let (a, b) := s.part w i (block i)
    k.stepSend r s (s.succ i s.me) a (r.slice a b) (some i))
  let blockTo (block : Nat → Nat) : Pkg × CallRun := eachRun s.others k r (fun k r p =>
    let (a, b) := s.block (block p)
    k.stepSend r s p a (r.slice a b) none)
  match s.kind with
  | .scatter => if s.rings = 0 then blockTo (fun p => p) else ringSend (fun i => s.pred i s.me)
  | .gather => if s.rings = 0 then blockTo (fun _ => s.me) else ringSend (fun _ => s.me)
  | .toRoot => if s.me = s.root then (k, r) else k.stepSend r s s.root s.lo (r.slice s.lo (s.lo + s.len)) none
  | .collect =>
    if s.me = s.root then (k, r)
    else
      let (a, b) := s.block s.me
      k.stepSend r s s.root a (r.slice a b) none
  | .spread => if s.me ≠ s.root then (k, r) else if s.rings = 0 then blockTo (fun _ => 0) else ringSend (fun _ => 0)
  | .exchange => eachRun s.others k r (fun k r p => k.stepSend r s p (s.me * s.blk) ((r.src.drop (p * s.blk)).take s.blk) none)

/-! ### Receiving -/

/-- Sum of the sizes of ranges. -/
def sizes (rs : List (Nat × Nat)) : Nat := (rs.map (fun p => p.2 - p.1)).sum

/-- Elements a stage receives here before it is done. -/
def Stage.need (s : Stage) (w : Nat) : Nat :=
  let mine := s.block s.me
  match s.kind with
  | .scatter =>
    if s.rings = 0 then (s.ranks.length - 1) * (mine.2 - mine.1)
    else ((List.range s.rings).map (fun i =>
      sizes (((List.range s.ranks.length).filter (fun p => p != s.pred i s.me)).map (s.part w i)))).sum
  | .gather => sizes (s.others.map s.block)
  | .toRoot => if s.me = s.root then (s.ranks.length - 1) * s.len else 0
  | .collect => if s.me = s.root then sizes (s.others.map s.block) else 0
  | .spread => if s.me = s.root then 0 else s.len
  | .exchange => (s.ranks.length - 1) * s.blk

/-- The ring on which rank `q` may send elements `[a, b)` of block `p` to this package. -/
def Stage.ringOf (s : Stage) (w q p a b : Nat) : Option Nat :=
  (List.range s.rings).find? (fun i =>
    s.pred i s.me == q && decide ((s.part w i p).1 ≤ a) && decide (b ≤ (s.part w i p).2))

/-- Is `[a, b)` inside a range. -/
def within (a b : Nat) (r : Nat × Nat) : Bool := decide (r.1 ≤ a) && decide (b ≤ r.2)

/-- Take a piece in its own stage; false when it lies outside what the call receives there (R540). -/
def Pkg.takePiece (k : Pkg) (r : CallRun) (s : Stage) (pc : Piece) : (Pkg × CallRun) × Bool :=
  let w := fmtBytes (cdIn r.desc)
  let q := s.ranks.findIdx (fun t => t == pc.src)
  let a := pc.first
  let b := pc.first + pc.vals.length
  let r' := { r with got := r.got + pc.vals.length }
  let keep := ((k, { r' with inbox := r'.inbox ++ [pc] }), true)
  let put := ((k, r'.setVals a pc.vals), true)
  let bad := ((k, r), false)
  let p := if s.blk = 0 ∨ s.kind = .spread then 0 else (a - s.lo) / s.blk
  let region := within a b (s.lo, s.lo + s.len)
  if s.rings ≠ 0 ∧ s.kind ≠ .collect then
    match (if region then s.ringOf w q p a b else none) with
    | none => bad
    | some i => match s.kind with
      | .scatter =>
        let vs := (pc.vals.zip (r.slice a b)).map (fun x => combine (cdRed r.desc) x.1 x.2)
        if p = s.me then ((k, r'.setVals a vs), true) else (k.stepSend r' s (s.succ i s.me) a vs (some i), true)
      | _ =>
        let stop := if s.kind = .spread then s.root else p
        let r'' := r'.setVals a pc.vals
        if s.succ i s.me = stop then ((k, r''), true) else (k.stepSend r'' s (s.succ i s.me) a pc.vals (some i), true)
  else match s.kind with
    | .scatter => if within a b (s.block s.me) then keep else bad
    | .toRoot => if region && s.me == s.root then keep else bad
    | .gather => if within a b (s.block q) then put else bad
    | .collect => if within a b (s.block q) && s.me == s.root then put else bad
    | .spread => if region && q == s.root then put else bad
    | .exchange => if within a b (s.block q) then put else bad

/-- The element a rank contributed (DIRECT form). -/
def CallRun.contribution (r : CallRun) (s : Stage) (q e : Nat) : Nat :=
  if q = s.me then r.val e
  else match r.inbox.find? (fun pc => !pc.final && pc.src == s.ranks.getD q 0 && decide (pc.first ≤ e) && decide (e < pc.first + pc.vals.length)) with
    | some pc => pc.vals.getD (e - pc.first) 0
    | none => 0

/-- Reduce an element over ranks 0 to n − 1 in order, from rank 0's element (Table 11-5). -/
def CallRun.reduceElem (r : CallRun) (s : Stage) (e : Nat) : Nat :=
  (List.range (s.ranks.length - 1)).foldl (fun acc i => combine (cdRed r.desc) acc (r.contribution s (i + 1) e)) (r.contribution s 0 e)

/-- Close a stage: DIRECT contributions are combined, and the last reduction is converted (R510). -/
def CallRun.closeStage (r : CallRun) (s : Stage) : CallRun :=
  let (a, b) := match s.kind with
    | .scatter => s.block s.me
    | .toRoot => if s.me = s.root then (s.lo, s.lo + s.len) else (0, 0)
    | _ => (0, 0)
  let es := (List.range (b - a)).map (fun i => a + i)
  let r := if s.rings = 0 ∧ s.final = false then
      let vs := es.map (r.reduceElem s)
      { r.setVals a vs with inbox := r.inbox.filter (fun pc => !(!pc.final && s.ranks.contains pc.src)) }
    else r
  let r := if s.conv then r.setVals a ((r.slice a b).map (toOut r.desc)) else r
  { r with done := r.done + 1, got := 0 }

/-- The stage a piece belongs to. -/
def CallRun.stageOf (r : CallRun) (src : Nat) (final : Bool) : Option (Nat × Stage) :=
  ((List.range r.stages.length).zip r.stages).find? (fun p => p.2.final == final && p.2.ranks.contains src)

/-- Take the held pieces of the stage under way. -/
def Pkg.replay (k : Pkg) (r : CallRun) (s : Stage) : (Pkg × CallRun) × Bool :=
  let mine := r.inbox.filter (fun pc => match r.stageOf pc.src pc.final with
    | some (i, _) => i == r.done
    | none => false)
  let r := { r with inbox := r.inbox.filter (fun pc => !mine.contains pc) }
  mine.foldl (fun (a : (Pkg × CallRun) × Bool) pc =>
    let (x, ok) := a.1.1.takePiece a.1.2 s pc
    (x, a.2 && ok)) ((k, r), true)

/-- Close every stage whose data has come, and begin the next; `fuel` bounds the stages. -/
def Pkg.advance (k : Pkg) (r : CallRun) : Nat → (Pkg × CallRun) × Bool
  | 0 => ((k, r), true)
  | fuel + 1 => match r.stages[r.done]? with
    | none => ((k, r), true)
    | some s =>
      if r.got < s.need (fmtBytes (cdIn r.desc)) then ((k, r), true)
      else
        let r := r.closeStage s
        match r.stages[r.done]? with
        | none => ((k, r), true)
        | some s' =>
          let (k, r) := k.beginStage r s'
          match k.replay r s' with
          | (x, false) => (x, false)
          | ((k, r), true) => k.advance r fuel

/-! ### Runs -/

/-- The running instance of a call. -/
def Pkg.run (k : Pkg) (slot call : Nat) : Option CallRun := k.coll.runs.find? (fun r => r.slot == slot && r.call == call)

/-- Refresh `COL_RUNNING`. -/
def Pkg.showRuns (k : Pkg) (slot : Nat) : Pkg := k.setF (F.COL_RUNNING slot) (k.coll.runs.filter (fun r => r.slot == slot)).length

/-- Put a run back. -/
def Pkg.putRun (k : Pkg) (r : CallRun) : Pkg :=
  (({ k with coll := { k.coll with runs := r :: k.coll.runs.filter (fun x => !(x.slot == r.slot && x.call == r.call)) } } : Pkg).showRuns
    r.slot).refreshStage

/-- The body of a COLL_CTRL packet (Table 11-7). -/
def collBody (kind call inst digest status : Nat) : Bytes :=
  leBytes 1 kind ++ leBytes 1 0 ++ leBytes 2 call ++ leBytes 4 inst ++ leBytes 4 digest ++ leBytes 2 status

/-- A call ends with a status: nothing further is sent for it, and unless it came by ABORT every participant is told
(R541). -/
def Pkg.failRun (k : Pkg) (r : CallRun) (st : Status) (byAbort : Bool) : Pkg × CallRun :=
  if r.status ≠ 0 then (k, r)
  else
    let held := (k.fab.held.filter (fun o => o.owner == r.owner)).length
    let k := { k with fab := { k.fab with held := k.fab.held.filter (fun o => o.owner != r.owner) } }
    let r := { r with status := st, byAbort := byAbort, waiting := [], inbox := [], out := r.out - held }
    if byAbort then (k, r)
    else
      let dests := r.participants.filter (fun t => t != k.target)
      let k := dests.foldl (fun k t => k.send (k.callPacket r { type := 0x4B, dst := t, body := controlBody (collBody 2 r.call r.inst (cdDigest r.desc) st) } none)) k
      (k.addSat (F.COL_COUNTS 5) dests.length, { r with out := r.out + dests.length })

/-- A destination's byte range of a call at this package: offset and length. -/
def CallRun.destination (r : CallRun) (me : Nat) : Nat × Nat :=
  let d := r.desc
  let w := fmtBytes (cdOut d)
  let n := r.participants.length
  match cdOp d with
  | 1 => (0, 0)
  | 3 => if cdRoot d % 2 ^ 18 = me then (cdDstOff d, cdCount d * w) else (0, 0)
  | 5 => (cdDstOff d, cdCount d / n * w)
  | 6 => (cdDstOff d, n * cdCount d * w)
  | 7 => (cdDstOff d, n * cdCount d * w)
  | _ => (cdDstOff d, cdCount d * w)

/-- Byte range of the source of a call. -/
def CallRun.source (r : CallRun) (me : Nat) : Nat × Nat :=
  let d := r.desc
  let w := fmtBytes (cdIn d)
  match cdOp d with
  | 1 => (0, 0)
  | 2 => if cdRoot d % 2 ^ 18 = me then (cdSrcOff d, cdCount d * w) else (0, 0)
  | 7 => (cdSrcOff d, r.participants.length * cdCount d * w)
  | _ => (cdSrcOff d, cdCount d * w)

/-- First element of the results in the logical buffer: a REDUCE_SCATTER's own block. -/
def CallRun.resultFrom (r : CallRun) : Nat :=
  if cdOp r.desc = 5 then (match r.stages with
    | s :: _ => s.me * s.blk
    | [] => 0) else 0

/-- Once every stage is done, the results go to the destination. -/
def Pkg.placeResults (k : Pkg) (r : CallRun) : Pkg × CallRun :=
  if r.status ≠ 0 ∨ r.placed = true ∨ r.done < r.stages.length ∨ cdOp r.desc = 1 then (k, r)
  else
    let w := fmtBytes (cdOut r.desc)
    let (off, n) := r.destination k.target
    if n = 0 then (k, { r with placed := true })
    else
      let a := r.resultFrom
      match k.winWrite r.slot (cdDstWin r.desc) off k.target ((r.slice a (a + n / w)).flatMap (leBytes w)) with
      | (k, some b) => k.failRun r b.status false
      | (k, none) => (k, { r with placed := true })

/-- Go on with a run after it received something. -/
def Pkg.runOn (k : Pkg) (r : CallRun) : Pkg :=
  if r.status ≠ 0 then k.putRun r
  else match k.advance r (r.stages.length + 1) with
    | ((k, r), false) =>
      let (k, r) := k.failRun r 0x3405 false
      k.putRun r
    | ((k, r), true) =>
      let (k, r) := k.placeResults r
      k.putRun r

/-- Deliver a piece to a running instance; a piece that lies outside the call ends it with COLL_MISMATCH (R540). -/
def Pkg.deliver (k : Pkg) (r : CallRun) (pc : Piece) : Pkg × Status :=
  let mismatch (k : Pkg) (r : CallRun) : Pkg × Status :=
    let (k, r) := k.failRun r 0x3405 false
    (k.putRun r, 0x3405)
  match r.stageOf pc.src pc.final with
  | none => mismatch k r
  | some (i, s) =>
    if i < r.done then (k, 0)
    else if r.done < i then (k.putRun { r with inbox := r.inbox ++ [pc] }, 0)
    else match k.takePiece r s pc with
      | ((k, r), false) => mismatch k r
      | ((k, r), true) => (k.runOn r, 0)

/-- The elements of a step packet (R538). -/
def stepPiece (r : CallRun) (p : Packet) : Option Piece :=
  let n := p.payload.length
  let lead := ((List.range n).find? (fun i => !p.skip.contains i)).getD 0
  let bs := ((p.payload.zip (List.range n)).filter (fun x => !p.skip.contains x.2)).map Prod.fst
  let off := p.addr % 2 ^ 40 + lead
  let final := p.type == 0x10
  (r.stageOf p.src final).bind (fun x =>
    let w := fmtBytes x.2.fmt
    if off % w ≠ 0 ∨ bs.length % w ≠ 0 then none
    else some { src := p.src, final := final, first := off / w, vals := (unpackElems w bs).map x.2.unpack, size := bs.length })

/-- A step packet reaches a running instance. -/
def Pkg.deliverPacket (k : Pkg) (r : CallRun) (p : Packet) : Pkg × Status :=
  match stepPiece r p with
  | none =>
    let (k, r) := k.failRun r 0x3405 false
    (k.putRun r, 0x3405)
  | some pc => k.deliver r pc

/-- Instances of a call fired since load. -/
def Pkg.firedOf (k : Pkg) (slot call : Nat) : Nat := Sparse.get semZero k.coll.fired (slot * 1024 + call)

/-- Hold traffic of an instance that has not fired. -/
def Pkg.holdEarly (k : Pkg) (slot call inst : Nat) (e : Early) : Pkg :=
  ({ k with coll := { k.coll with early := k.coll.early ++ [(slot, call, inst, e)] } } : Pkg).refreshStage

/-- Staging has no room (R513): counted, and the packet is left without effect. -/
def Pkg.stageFull (k : Pkg) : Pkg × Status := ((k.inc (F.COL_COUNTS 4)).raise F.COL_EV_STAGE_FULL, 0x1401)

/-- Does a REDUCE packet to a running instance wait in staging: a contribution in DIRECT form, or one of a later stage. -/
def CallRun.stages? (r : CallRun) (p : Packet) : Bool :=
  p.type == 0x11 && (match r.stageOf p.src false with
    | some (i, s) => decide (r.done < i) || (i == r.done && s.rings == 0)
    | none => false)

/-- A step packet (R528, R537–R539). -/
def Pkg.stepPacket (k : Pkg) (p : Packet) : Pkg × Status :=
  let call := bits p.addr 55 44
  let i := bits p.addr 43 40
  let slot := p.slot
  let n := p.payload.length
  let counted := k.addSat (F.COL_COUNTS 2) n
  let noRoom : Bool := decide (67108864 < k.stagedBytes + n)
  match k.calls.find? (fun d => d.1 == slot && d.2.1 == call) with
  | none => (k, 0x3405)
  | some (_, _, d) =>
    let next := k.firedOf slot call
    let early : Pkg × Status :=
      if 8 ≤ (i + 16 - next % 16) % 16 then (k, 0x5401)
      else if noRoom then k.stageFull
      else (counted.holdEarly slot call i (.step p), 0)
    if p.type = 0x11 ∧ callReducer (p.addr / 2 ^ 56) = false then (k, 0x3408)
    else match k.run slot call with
      | none => early
      | some r =>
        if r.inst % 16 ≠ i then early
        else if p.type = 0x11 ∧ p.addr / 2 ^ 56 ≠ cdRed d then
          let (k, r) := k.failRun r 0x3405 false
          (k.putRun r, 0x3405)
        else if r.status ≠ 0 then (k, 0x5401)
        else if r.stages? p && noRoom then k.stageFull
        else counted.deliverPacket r p

/-- Is a stream that of a loaded call's channel (R537). -/
def Pkg.isCallStream (k : Pkg) (slot sid : Nat) : Bool :=
  k.calls.any (fun d => d.1 == slot && (k.channel slot (cdChan d.2.2)).stream == sid)

/-! ### JOIN and ABORT -/

/-- A JOIN reaches a running instance (R533, R540). -/
def Pkg.hearJoin (k : Pkg) (r : CallRun) (src digest : Nat) : Pkg × CallRun :=
  if r.status ≠ 0 then (k, r)
  else if digest ≠ cdDigest r.desc then k.failRun r 0x3405 false
  else
    let mine := r.waiting.filter (fun o => o.pkt.dst == src)
    let k := mine.foldl (fun k o => k.send o) k
    (k, { r with joined := src :: r.joined, waiting := r.waiting.filter (fun o => o.pkt.dst != src), out := r.out + mine.length })

/-- The predecessor on each ring of each level that runs as a ring. -/
def CallRun.predecessors (r : CallRun) : List Nat :=
  ((r.stages.flatMap (fun s => (List.range s.rings).map (fun i => (s.level, i, s.ranks.getD (s.pred i s.me) 0)))).eraseDups).map
    (fun x => x.2.2)

/-! ### Firing (R517–R521) -/

/-- The checks of a window a call names (R520). -/
def Pkg.callWindow (k : Pkg) (slot win key right off n : Nat) : Option Status :=
  match k.window slot win with
  | none => some 0x3401
  | some w =>
    if w.key ≠ key then some 0x3402
    else if !bit w.rights 3 || !bit w.rights right then some 0x3403
    else if w.length < off + n then some 0x3404
    else none

/-- The checks of a call at firing (R520, R521); a window is checked where the call uses it. -/
def Pkg.callCheck (k : Pkg) (r : CallRun) : Option Status :=
  let d := r.desc
  let (so, sn) := r.source k.target
  let (do_, dn) := r.destination k.target
  if cdOp d = 1 then none
  else if cdRooted d && !r.participants.contains (cdRoot d % 2 ^ 18) then some 0x3407
  else
    let src := if sn = 0 then none else k.callWindow r.slot (cdSrcWin d) (cdSrcKey d) 0 so sn
    let dst := if dn = 0 then none else k.callWindow r.slot (cdDstWin d) (cdDstKey d) 1 do_ dn
    match src, dst with
    | some st, _ => some st
    | none, some st => some st
    | none, none =>
      match k.window r.slot (cdSrcWin d), k.window r.slot (cdDstWin d) with
      | some a, some b =>
        let same := a.base + so == b.base + do_ && sn == dn && (cdOp d == 2 || cdOp d == 3 || cdOp d == 4)
        if sn ≠ 0 ∧ dn ≠ 0 ∧ rangesMeet (a.base + so, sn) (b.base + do_, dn) = true ∧ same = false then some 0x3407 else none
      | _, _ => none

/-- The initial elements: the source's, converted exactly (R509); an ALL_GATHER's own block and an ALL_TO_ALL's own block
stand at their places. -/
def CallRun.init (r : CallRun) (bs : Bytes) : CallRun :=
  let d := r.desc
  let f := (fmtOf (cdIn d)).getD fp32
  let vs := (unpackElems (fmtBytes (cdIn d)) bs).map (fun v => if cdReduces d && cdIn d != 0xA then (f.decode v).bits32 else v)
  let r := { r with src := vs }
  match cdOp d, r.stages with
  | 6, s :: _ => r.setVals (s.me * s.blk) vs
  | 7, s :: _ => r.setVals (s.me * s.blk) ((vs.drop (s.me * s.blk)).take s.blk)
  | _, [] => r.setVals 0 (if cdReduces d then vs.map (toOut d) else vs)
  | _, _ => r.setVals 0 vs

/-- The body of a call barrier's packet. -/
def callBarrier (call kind inst count n : Nat) : Bytes := barrierBody (64 + call) kind inst count n

/-- The lowest participant, which counts a call barrier. -/
def CallRun.lowest (r : CallRun) : Nat := r.participants.foldl min (r.participants.headD 0)

/-- A fired instance starts: its checks, its JOINs, its first sends, and the traffic held for it. -/
def Pkg.startRun (k : Pkg) (r : CallRun) : Pkg :=
  let fail (k : Pkg) (r : CallRun) (st : Status) (byAbort : Bool) : Pkg :=
    let (k, r) := k.failRun r st byAbort
    k.putRun r
  let mine := k.coll.early.filter (fun e => e.1 == r.slot && e.2.1 == r.call && (match e.2.2.2 with
    | .step _ => e.2.2.1 == r.inst % 16
    | _ => e.2.2.1 == r.inst))
  let k := { k with coll := { k.coll with early := k.coll.early.filter (fun e => !mine.contains e) } }
  match mine.findSome? (fun e => match e.2.2.2 with
      | .abort st => some st
      | _ => none) with
  | some st => fail k r st true
  | none =>
    match k.callCheck r with
    | some st => fail k r st false
    | none =>
      let (off, n) := r.source k.target
      let (k, bs, bad) := if n = 0 then (k, [], none) else k.winRead r.slot (cdSrcWin r.desc) off n k.target
      match bad with
      | some b => fail k r b.status false
      | none =>
        if cdOp r.desc = 1 then
          let o := k.callPacket r { type := 0x4A, dst := r.lowest, body := controlBody (callBarrier r.call 0 r.inst 1 r.participants.length) } none
          (k.send o).putRun { r with out := 1 }
        else
          let r := r.init bs
          let (k, r) := r.predecessors.foldl (fun (a : Pkg × CallRun) t =>
            (a.1.send (a.1.callPacket a.2 { type := 0x4B, dst := t, body := controlBody (collBody 1 a.2.call a.2.inst (cdDigest a.2.desc) 0) } none),
             { a.2 with out := a.2.out + 1 })) (k, r)
          let (k, r) := match r.stages with
            | s :: _ => k.beginStage r s
            | [] => (k, r)
          let (k, r) := mine.foldl (fun (a : Pkg × CallRun) e => match e.2.2.2 with
            | .join src digest => a.1.hearJoin a.2 src digest
            | _ => a) (k, r)
          let k := k.runOn r
          mine.foldl (fun k e => match e.2.2.2 with
            | .step p => (match k.run r.slot r.call with
              | some r => if r.status = 0 then (k.deliverPacket r p).1 else k
              | none => k)
            | _ => k) k

/-- The call that may fire next in a slot (R517, R518): the first in the order of thresholds reached that is ready. -/
def Pkg.nextFire (k : Pkg) (slot : Nat) : Option (Nat × Bytes) :=
  if 16 ≤ (k.coll.runs.filter (fun r => r.slot == slot)).length then none
  else (k.fireOrder.filter (fun f => f.1 == slot)).findSome? (fun f =>
    match k.calls.find? (fun d => d.1 == slot && d.2.1 == f.2) with
    | some (_, c, d) =>
      if cdThreshold d ≤ k.sem slot (cdFireSem d) ∧ (k.run slot c).isNone = true ∧ (cdStart d = 0 ∨ cdStart d ≤ k.hallTime) then some (c, d)
      else none
    | none => none)

/-- CALL_FIRE (R517–R521, R533). -/
def Pkg.fireCall (k : Pkg) (slot : Nat) : Pkg :=
  match k.nextFire slot with
  | none => k
  | some (c, d) =>
    let inst := k.firedOf slot c
    let k := { k with fireOrder := k.fireOrder.filter (fun f => f != (slot, c)) }
    let k := k.setSem slot (cdFireSem d) (k.sem slot (cdFireSem d) - cdThreshold d)
    let k := { k with coll := { k.coll with fired := Sparse.set semZero k.coll.fired (slot * 1024 + c) (inst + 1) } }
    let stages := k.callStages slot d
    k.startRun { slot := slot, call := c, inst := inst, desc := d, fired := k.now, form := formOf d stages
                 participants := k.callPackages slot (cdScope d), stages := stages }

/-! ### Ending (R522–R524, R541, R542) -/

/-- A sequence of a call has finished: counted, and a failure ends the call; ABSORBED and DELIVERY_TIMEOUT become PEER_LOST
(R541). -/
def Pkg.callSettled (k : Pkg) (slot call inst : Nat) (st : Status) : Pkg :=
  match k.run slot call with
  | none => k
  | some r =>
    if r.inst ≠ inst then k
    else
      let r := { r with out := r.out - 1 }
      if statusOk st ∨ r.status ≠ 0 then k.putRun r
      else
        let st := if statusClass st = 2 ∨ st = 0x6301 then 0x5401 else st
        let (k, r) := k.failRun r st false
        k.putRun r

/-- Settle the finished sequences of calls; `fuel` bounds the rounds, since settling may finish more. -/
def Pkg.settleCalls (k : Pkg) : Nat → Pkg
  | 0 => k
  | fuel + 1 =>
    let mine := k.fab.done.filter (fun d => match d.1 with | .collective .. => true | _ => false)
    if mine.isEmpty then k
    else
      let k := { k with fab := { k.fab with done := k.fab.done.filter (fun d => match d.1 with | .collective .. => false | _ => true) } }
      (mine.foldl (fun k d => match d.1 with
        | .collective s c i => k.callSettled s c i d.2.1
        | _ => k) k).settleCalls fuel

/-- A destination whose call failed holds unspecified bytes (R524). -/
def Pkg.spoil (k : Pkg) (r : CallRun) : Pkg :=
  let (off, n) := r.destination k.target
  match (if n = 0 then (k, some { status := 0 }) else k.winWrite r.slot (cdDstWin r.desc) off k.target (k.freeBytes n)) with
  | (k', none) => k'.draw
  | (_, some _) => k

/-- CALL_END (R522, R523): results in place and every packet acknowledged. -/
def Pkg.endRun (k : Pkg) (slot call : Nat) : Pkg :=
  let k := k.settleCalls 8
  match k.run slot call with
  | none => k
  | some r =>
    if 0 < r.out ∨ (r.status = 0 ∧ r.placed = false) then k
    else
      let st := r.status
      let k := if st = 0 then k else k.spoil r
      let k := ({ k with coll := { k.coll with runs := k.coll.runs.filter (fun x => !(x.slot == slot && x.call == call)) } } : Pkg).showRuns slot
      let k := (k.report (F.COL_CS_STATUS slot call) st .slot slot call).setF (F.COL_CS_FORM slot call) r.form
      let k := k.addWrap (F.COL_CS_INSTANCES slot call) 1
      let k := if st = 0 then k.inc (F.COL_COUNTS 0) else (k.inc (F.COL_COUNTS 1)).raise F.COL_EV_CALL_FAIL
      let k := if r.byAbort then k.raise F.COL_EV_ABORT else k
      let k := if st = 0 then k else k.setSemSt slot (cdDone r.desc) st
      (k.semAdd slot (cdDone r.desc) 1).refreshStage

/-- COLLECTIVE_TIMEOUT (R542). -/
def Pkg.callTimeout (k : Pkg) (slot call : Nat) : Pkg :=
  match k.run slot call with
  | none => k
  | some r =>
    let limit := if cdTimeout r.desc = 0 then k.getF F.COL_TIMEOUT_DEF else cdTimeout r.desc
    if r.status = 0 ∧ (r.placed = false ∨ 0 < r.out) ∧ r.fired + limit ≤ k.now then
      let (k, r) := k.failRun r 0x6401 false
      k.putRun r
    else k

end Sys2Proof.Machine
end

