-- ==== Sys2Proof/Machine/CollCmds.lean ====
section
/-! DEFINITION. WRITE and REDUCE packets, barriers, JOIN and ABORT, window and call-table commands, template loads and
scheduled slots. -/

namespace Sys2Proof.Machine

/-! ### Data packets -/

/-- WRITE_PACKET (R440, R441, R505, R537): a write into a window, or a step of a call. -/
def execWritePacket (p : PkgId) (pkt : Packet) (t : Nat) (s : State) : Host.Outcome State Fault Refusal :=
  .next (s.updPkg p (fun k => (k.at t).sequenced pkt (fun k =>
    if bit pkt.info 0 then (k, 0x5302, none)
    else if k.isCallStream pkt.slot pkt.sid then
      let (k, st) := k.stepPacket pkt
      (k, st, none)
    else match k.winPut pkt.slot (bits pkt.addr 55 44) (pkt.addr % 2 ^ 44) (.window pkt.src) pkt.payload pkt.skip with
      | (k, some b) => (k, b.status, none)
      | (k, none) => (k, 0, none))))

/-- REDUCE_PACKET (R440, R441, R508, R511–R513, R537). -/
def execReducePacket (p : PkgId) (pkt : Packet) (t : Nat) (s : State) : Host.Outcome State Fault Refusal :=
  .next (s.updPkg p (fun k => (k.at t).sequenced pkt (fun k =>
    if bit pkt.info 0 then (k, 0x5302, none)
    else if k.isCallStream pkt.slot pkt.sid then
      let (k, st) := k.stepPacket pkt
      (k, st, none)
    else match k.winContribute pkt.slot (bits pkt.addr 55 44) (pkt.addr % 2 ^ 44) (.window pkt.src) pkt.src (pkt.addr / 2 ^ 56)
        pkt.payload pkt.skip with
      | (k, some b) => (k, b.status, none)
      | (k, none) => (k, 0, none))))

/-! ### Barriers -/

/-- Send a call barrier's packet from the participant that counts, on the call's channel. -/
def Pkg.sendCallBarrier (k : Pkg) (slot call kind inst n : Nat) : Pkg :=
  match k.calls.find? (fun d => d.1 == slot && d.2.1 == call) with
  | none => k
  | some (_, _, d) =>
    let r : CallRun := { slot := slot, call := call, inst := inst, desc := d, fired := 0, participants := [] }
    (k.callPackages slot (cdScope d)).foldl (fun k t =>
      k.send { k.callPacket r { type := 0x4A, dst := t, body := controlBody (callBarrier call kind inst 0 n) } none with owner := .none }) k

/-- The lowest participant counts an arrival of a call barrier (R527, R545). -/
def Pkg.callArrive (k : Pkg) (slot call inst who n count : Nat) : Pkg :=
  let is (a : Arrival) : Bool := a.slot == slot && a.id == 64 + call && a.gen == inst
  let here := k.coll.arrivals.filter is
  let others := k.coll.arrivals.filter (fun a => !is a)
  let all := here ++ [({ slot := slot, id := 64 + call, gen := inst, who := who, participants := n, count := count } : Arrival)]
  if here.any (fun a => a.participants != n) then
    ({ k with coll := { k.coll with arrivals := others } } : Pkg).sendCallBarrier slot call 2 inst n
  else if n ≤ (all.map Arrival.count).sum then
    ({ k with coll := { k.coll with arrivals := others } } : Pkg).sendCallBarrier slot call 1 inst n
  else { k with coll := { k.coll with arrivals := others ++ all } }

/-- BARRIER_ARRIVE (R544, R545, R527): an arrival with an ID above 63 belongs to a call. -/
def execBarrierArrive (p : PkgId) (pkt : Packet) (t : Nat) (s : State) : Host.Outcome State Fault Refusal :=
  .next (s.updPkg p (fun k => (k.at t).sequenced pkt (fun k =>
    let id := fieldAt pkt.body 0 2
    let n := fieldAt pkt.body 12 4
    let count := fieldAt pkt.body 8 4
    (if id < 64 then k.captainArrive pkt.slot id (fieldAt pkt.body 4 4) pkt.src n count
     else k.callArrive pkt.slot (id - 64) (fieldAt pkt.body 4 4) pkt.src n count, 0, none))))

/-- A call barrier is over at this package. -/
def Pkg.callBarrierDone (k : Pkg) (slot call inst : Nat) (st : Status) : Pkg :=
  match k.run slot call with
  | none => k
  | some r =>
    if r.inst ≠ inst ∨ r.status ≠ 0 then k
    else if st = 0 then k.putRun { r with placed := true }
    else
      let (k, r) := k.failRun r st false
      k.putRun r

/-- BARRIER_RELEASE (R544, R527). -/
def execBarrierRelease (p : PkgId) (pkt : Packet) (t : Nat) (s : State) : Host.Outcome State Fault Refusal :=
  .next (s.updPkg p (fun k => (k.at t).sequenced pkt (fun k =>
    let id := fieldAt pkt.body 0 2
    (if id < 64 then k.releaseBarrier pkt.slot id 0
     else k.callBarrierDone pkt.slot (id - 64) (fieldAt pkt.body 4 4) 0, 0, none))))

/-- BARRIER_MISMATCH (R545); a call barrier ends with COLL_MISMATCH. -/
def execBarrierMismatch (p : PkgId) (pkt : Packet) (t : Nat) (s : State) : Host.Outcome State Fault Refusal :=
  .next (s.updPkg p (fun k => (k.at t).sequenced pkt (fun k =>
    let id := fieldAt pkt.body 0 2
    (if id < 64 then k.releaseBarrier pkt.slot id 0x310A
     else k.callBarrierDone pkt.slot (id - 64) (fieldAt pkt.body 4 4) 0x3405, 0, none))))

/-! ### COLL_CTRL (Table 11-7) -/

/-- JOIN (R533, R540, Table 11-9): heard by the running instance, or held until its instance fires. -/
def execJoin (p : PkgId) (pkt : Packet) (t : Nat) (s : State) : Host.Outcome State Fault Refusal :=
  .next (s.updPkg p (fun k => (k.at t).sequenced pkt (fun k =>
    let call := fieldAt pkt.body 2 2
    let inst := fieldAt pkt.body 4 4
    let digest := fieldAt pkt.body 8 4
    match k.run pkt.slot call with
    | some r =>
      if r.inst = inst then
        let (k, r) := k.hearJoin r pkt.src digest
        (k.putRun r, 0, none)
      else if k.firedOf pkt.slot call ≤ inst then (k.holdEarly pkt.slot call inst (.join pkt.src digest), 0, none)
      else (k, 0, none)
    | none =>
      if k.firedOf pkt.slot call ≤ inst then (k.holdEarly pkt.slot call inst (.join pkt.src digest), 0, none) else (k, 0, none))))

/-- COLL_ABORT (R541): the instance ends with the carried status and sends nothing further. -/
def execCollAbort (p : PkgId) (pkt : Packet) (t : Nat) (s : State) : Host.Outcome State Fault Refusal :=
  .next (s.updPkg p (fun k => (k.at t).sequenced pkt (fun k =>
    let call := fieldAt pkt.body 2 2
    let inst := fieldAt pkt.body 4 4
    let st := fieldAt pkt.body 12 2
    match k.run pkt.slot call with
    | some r =>
      if r.inst = inst then
        if r.placed ∧ r.out = 0 then (k, 0, none)
        else
          let (k, r) := k.failRun r st true
          (k.putRun r, 0, none)
      else if k.firedOf pkt.slot call ≤ inst then (k.holdEarly pkt.slot call inst (.abort st), 0, none)
      else (k, 0, none)
    | none =>
      if k.firedOf pkt.slot call ≤ inst then (k.holdEarly pkt.slot call inst (.abort st), 0, none) else (k, 0, none))))

/-! ### Windows (R501–R504) -/

/-- A window descriptor that breaks Table 11-1. -/
def badWindow (b : Bytes) : Bool :=
  let base := fieldAt b 0 8
  let len := fieldAt b 8 8
  let rights := fieldAt b 20 1
  let sources := fieldAt b 22 2
  decide (2 ^ 56 ≤ base) || base % 64 != 0 || len % 64 != 0 || decide (len < 64) || decide (2 ^ 40 < len) || decide (32 ≤ rights)
    || fieldAt b 21 1 != 0 || fieldAt b 24 8 != 0
    || (if bit rights 4 then decide (sources < 2) || decide (1024 < sources) else sources != 0)

/-- Note the last window command. -/
def Pkg.windowNote (k : Pkg) (slot index : Nat) (st : Status) : Pkg :=
  (k.setF (F.COL_WS_INDEX slot) index).report (F.COL_WS_CODE slot) st .slot slot index

/-- `COL_WIN_DONE` follows the tickets up to the oldest deregistration still open (R504). -/
def Pkg.windowTickets (k : Pkg) (slot : Nat) : Pkg :=
  k.setF (F.COL_WIN_DONE slot) (match k.coll.deregs.find? (fun d => d.1 == slot) with
    | some d => (2 ^ 32 + d.2 - 1) % 2 ^ 32
    | none => k.getF (F.COL_WIN_ISSUED slot))

/-- WINDOW_REGISTER at the engine. -/
def Pkg.registerWindow (k : Pkg) (slot index : Nat) : Pkg :=
  let index := index % 4096
  if (k.window slot index).isSome then k.windowNote slot index 0x3406
  else match k.hubRead slot (k.getF (F.COL_WIN_VA slot) * 64 + 32 * index) 32 with
    | (k, _, some b) => k.windowNote slot index b.status
    | (k, b, none) =>
      if badWindow b then k.windowNote slot index 0x3409
      else
        let w : Window := { slot := slot, index := index, base := fieldAt b 0 8, length := fieldAt b 8 8, key := fieldAt b 16 4
                            rights := fieldAt b 20 1, sources := fieldAt b 22 2 }
        let k := { k with windows := k.windows ++ [w] }
        ((k.addWrap (F.COL_WIN_ISSUED slot) 1).windowTickets slot).windowNote slot index 0

/-- WINDOW_REGISTER (R502, R503). -/
def execWindowRegister (p : PkgId) (src : CsrSource) (slot : SlotId) (index t : Nat) (s : State) : Host.Outcome State Fault Refusal :=
  .next (s.updPkg p (fun k => (k.at t).viaPart src slot (0x301008 + 0x100 * slot.val) .p (fun k => k.registerWindow slot index)))

/-- WINDOW_DEREGISTER at the engine: at most 64 are pending in a package. -/
def Pkg.deregisterWindow (k : Pkg) (slot index : Nat) : Pkg :=
  let index := index % 4096
  if (k.window slot index).isNone then k.windowNote slot index 0x3401
  else if 64 ≤ k.coll.deregs.length then k.windowNote slot index 0x3406
  else
    let k := { k with
      windows := k.windows.filter (fun w => !(w.slot == slot && w.index == index))
      staged := k.staged.filter (fun x => !(x.slot == slot && x.window == index)) }
    let k := k.addWrap (F.COL_WIN_ISSUED slot) 1
    let k := { k with coll := { k.coll with deregs := k.coll.deregs ++ [(slot, k.getF (F.COL_WIN_ISSUED slot))] } }
    (k.refreshStage.windowTickets slot).windowNote slot index 0

/-- WINDOW_DEREGISTER (R504). -/
def execWindowDeregister (p : PkgId) (src : CsrSource) (slot : SlotId) (index t : Nat) (s : State) : Host.Outcome State Fault Refusal :=
  .next (s.updPkg p (fun k => (k.at t).viaPart src slot (0x301008 + 0x100 * slot.val) .p (fun k => k.deregisterWindow slot index)))

/-- DEREGISTER_COMPLETE (R504): the accesses that used the window of the oldest open deregistration have completed. -/
def execDeregisterComplete (p : PkgId) (slot : SlotId) (t : Nat) (s : State) : Host.Outcome State Fault Refusal :=
  .next (s.updPkg p (fun k =>
    let k := k.at t
    match k.coll.deregs.find? (fun d => d.1 == slot.val) with
    | none => k
    | some d => ({ k with coll := { k.coll with deregs := k.coll.deregs.erase d } } : Pkg).windowTickets slot))

/-! ### Call tables (R516) -/

/-- A descriptor that breaks Tables 11-2 to 11-4. -/
def Pkg.badCall (k : Pkg) (slot : Nat) (d : Bytes) : Bool :=
  let op := cdOp d
  let scope := cdScope d
  let e := cdCount d
  let outs := [1, 2, 8, 9, 0xA]
  let n := (k.callPackages slot scope).length
  let one := scope == 1 || scope == 2 || scope == 4
  let w := fmtBytes (cdIn d)
  let common := decide (7 < op) || scope == 0 || decide (8 ≤ scope) || decide (2 ≤ cdFlags d) || decide (1023 < cdChan d)
    || decide (4095 < cdFireSem d) || decide (4095 < cdDone d) || cdThreshold d == 0
  let rest :=
    if op = 1 then cdRed d != 0 || (cdOut d != 0 && !outs.contains (cdOut d)) || ((d.drop 24).take 36).any (fun b => b != 0)
    else
      !outs.contains (cdOut d) ||
      (if cdReduces d then !callReducer (cdRed d) || ((cdOut d == 0xA) != (cdRed d == 0xA4)) else cdRed d != 0) ||
      (if cdRooted d then decide (2 ^ 18 ≤ cdRoot d) || !(k.partPackages slot).contains (cdRoot d) else cdRoot d != 0) ||
      decide (4095 < cdSrcWin d) || decide (4095 < cdDstWin d) || cdSrcOff d % 64 != 0 || cdDstOff d % 64 != 0 || e == 0 ||
      (decide (5 ≤ op) && !one) ||
      (op == 5 && (e % n != 0 || e / n * w % 64 != 0)) ||
      (decide (6 ≤ op) && e * w % 64 != 0)
  common || rest

/-- The first failing entry of a table: `seen` holds the fire semaphores of earlier calls. -/
def Pkg.firstBadCall (k : Pkg) (slot : Nat) (table : Bytes) : Nat → Nat → List Nat → Option Nat
  | 0, _, _ => none
  | fuel + 1, c, seen =>
    let d := (table.drop (64 * c)).take 64
    if cdOp d = 0 then k.firstBadCall slot table fuel (c + 1) seen
    else if k.badCall slot d || seen.contains (cdFireSem d) then some c
    else k.firstBadCall slot table fuel (c + 1) (cdFireSem d :: seen)

/-- CALL_LOAD (R516): the load is scheduled; an epoch already past runs it at once (R81). -/
def execCallLoad (p : PkgId) (src : CsrSource) (slot : SlotId) (epoch t : Nat) (s : State) : Host.Outcome State Fault Refusal :=
  .next (s.updPkg p (fun k => (k.at t).viaPart src slot (0x301028 + 0x100 * slot.val) .p (fun k =>
    let e := epoch % 2 ^ 43
    let k := if e * epochTicks < k.hallTime then k.lateAction else k
    { k with coll := { k.coll with loads := setSlotNat k.coll.loads slot e } })))

/-- A checked table comes into force: instances count from 0, and calls whose thresholds stand are ready. -/
def Pkg.takeCalls (k : Pkg) (slot : Nat) (table : Bytes) : Pkg :=
  let ds := ((List.range 1024).map (fun c => (slot, c, (table.drop (64 * c)).take 64))).filter (fun d => cdOp d.2.2 != 0)
  let ready := ds.filter (fun d => decide (cdThreshold d.2.2 ≤ k.sem slot (cdFireSem d.2.2)))
  let k := { k with
    calls := k.calls.filter (fun (d : Nat × Nat × Bytes) => d.1 != slot) ++ ds
    fireOrder := k.fireOrder.filter (fun (f : Nat × Nat) => f.1 != slot) ++ ready.map (fun (d : Nat × Nat × Bytes) => (slot, d.2.1))
    coll := { k.coll with
      fired := Sparse.keep k.coll.fired (fun i => i / 1024 != slot)
      early := k.coll.early.filter (fun e => e.1 != slot)
      arrivals := k.coll.arrivals.filter (fun a => a.slot != slot) } }
  let k := (List.range 1024).foldl (fun k c => k.setF (F.COL_CS_INSTANCES slot c) 0) k
  (k.setF (F.COL_LOADED slot) 1).refreshStage

/-- CALL_TABLE_LOAD (R516, R82 rank 4): at the epoch, once no call of the slot runs. -/
def Pkg.loadCalls (k : Pkg) (slot t : Nat) : Pkg :=
  match slotNat k.coll.loads slot with
  | none => k
  | some e =>
    if t < e * epochTicks ∨ k.coll.runs.any (fun r => r.slot == slot) = true then k
    else
      let k := { k with coll := { k.coll with loads := k.coll.loads.filter (fun x => x.1 != slot) } }
      let refuse (k : Pkg) (st : Status) : Pkg := (k.report (F.COL_LOAD_CODE slot) st .slot slot 0).raise F.COL_EV_LOAD_FAIL
      match k.hubRead slot (k.getF (F.COL_CALL_VA slot) * 64) 65536 with
      | (k, _, some b) => refuse k b.status
      | (k, table, none) =>
        match k.firstBadCall slot table 1024 0 [] with
        | some c => refuse (k.setF (F.COL_BAD_ENTRY slot) c) 0x3407
        | none => (k.takeCalls slot table).setF (F.COL_LOAD_CODE slot) 0

/-- CALL_TABLE_LOAD. -/
def execCallTableLoad (p : PkgId) (slot : SlotId) (t : Nat) (s : State) : Host.Outcome State Fault Refusal :=
  .next (s.updPkg p (fun k => (k.at t).loadCalls slot t))

/-! ### Calls -/

/-- CALL_FIRE (R517–R521): the next ready call of the slot fires. -/
def execCallFire (p : PkgId) (slot : SlotId) (t : Nat) (s : State) : Host.Outcome State Fault Refusal :=
  .next (s.updPkg p (fun k => (k.at t).fireCall slot))

/-- CALL_END (R522, R523). -/
def execCallEnd (p : PkgId) (slot : SlotId) (call t : Nat) (s : State) : Host.Outcome State Fault Refusal :=
  .next (s.updPkg p (fun k => (k.at t).endRun slot call))

/-- COLLECTIVE_TIMEOUT (R542). -/
def execCollectiveTimeout (p : PkgId) (slot : SlotId) (call t : Nat) (s : State) : Host.Outcome State Fault Refusal :=
  .next (s.updPkg p (fun k => (k.at t).callTimeout slot call))

/-! ### Channel tables and templates (R445, R462, Tables 10-6, 10-7) -/

/-- A channel table entry that breaks Table 10-6 or names stream 4,095. -/
def badChannel (b : Bytes) : Bool :=
  decide (1 < fieldAt b 0 1) || decide (15 < fieldAt b 1 1) || decide (4094 < fieldAt b 2 2) || (b.drop 5).any (fun x => x != 0)

/-- Read a channel table entry. -/
def readChannel (b : Bytes) : Channel :=
  { openClass := fieldAt b 0 1 == 1, spread := fieldAt b 1 1, stream := fieldAt b 2 2, pktUnits := fieldAt b 4 1 }

/-- A template entry that breaks Table 10-7. -/
def badTmpl (period : Nat) (b : Bytes) : Bool :=
  let kind := fieldAt b 1 1
  let who := fieldAt b 4 2
  decide (19 < fieldAt b 0 1) || decide (2 < kind) || decide (8 < fieldAt b 2 2 % 16) || decide (period ≤ fieldAt b 2 2 / 16)
    || (match kind with
      | 0 => decide (1023 < who)
      | 1 => decide (4095 < who)
      | _ => who != 0xFFFF) || fieldAt b 6 2 != 0

/-- Read a template entry. -/
def readTmpl (b : Bytes) : TmplEntry :=
  { port := fieldAt b 0 1, kind := fieldAt b 1 1, volley := fieldAt b 2 2 / 16, slot := fieldAt b 2 2 % 16, who := fieldAt b 4 2, orig := fieldAt b 0 1 }

/-- TEMPLATE_LOAD (R462): at the load epoch, both tables are read and checked; a load that fails keeps those in force. -/
def Pkg.loadTemplate (k : Pkg) (slot t : Nat) : Pkg :=
  let tb := k.tables slot
  match tb.loadEpoch with
  | none => k
  | some e =>
    if t < e * epochTicks then k
    else
      let k := k.setTables slot { tb with loadEpoch := none }
      let refuse (k : Pkg) (st : Status) : Pkg := (k.report (F.FAB_LOAD_CODE slot) st .slot slot 0).raise F.FAB_EV_LOAD_FAIL
      let period := k.getF (F.FAB_PERIOD slot)
      let entries := k.getF (F.FAB_ENTRIES slot)
      if period = 0 ∨ 4096 < period ∨ 180 * period < entries then refuse k 0x3105
      else match k.hubRead slot (k.getF (F.FAB_CHAN_VA slot) * 2 ^ 14) 16384 with
        | (k, _, some b) => refuse k b.status
        | (k, cb, none) =>
          match k.hubRead slot (k.getF (F.FAB_TMPL_VA slot) * 64) (8 * entries) with
          | (k, _, some b) => refuse k b.status
          | (k, eb, none) =>
            let cs := (List.range 1024).map (fun i => (cb.drop (16 * i)).take 16)
            let es := (List.range entries).map (fun i => (eb.drop (8 * i)).take 8)
            if cs.any badChannel || es.any (badTmpl period) then refuse k 0x3105
            else
              let k := k.setTables slot { k.tables slot with chans := cs.map readChannel, tmpl := es.map readTmpl, period := period
                                                             active := (es.map readTmpl).filter (fun e => decide (e.kind < 2)) }
              (k.setF (F.FAB_LOADED slot) 1).setF (F.FAB_LOAD_CODE slot) 0

/-- TEMPLATE_LOAD. -/
def execTemplateLoad (p : PkgId) (slot : SlotId) (t : Nat) (s : State) : Host.Outcome State Fault Refusal :=
  .next (s.updPkg p (fun k => (k.at t).loadTemplate slot t))

/-! ### Scheduled slots (R452–R459) -/

/-- SLOT_OPEN (R457, R458): the slot's owner sends the packets of its entries, while scheduled injection is allowed (R58). -/
def Pkg.openSlot (k : Pkg) (n j t : Nat) : Pkg :=
  if t % 2048 ≠ 208 * j ∨ 8 < j ∨ k.linkSt n ≠ 5 ∨ k.schedAllowed = false then k
  else match k.slotOwner n j t with
    | none => k
    | some s =>
      let tb := k.tables s
      let v := k.getF (F.HTM_SCHED_VOLLEY s) % max 1 tb.period
      let plans := (tb.plans.flatMap Prod.snd).filter (fun e => e.port == n && e.volley == v && e.slot == j)
      (((k.slotEntries s n j plans).foldl (fun k e => k.runEntry s e) k).refreshQueue n).releaseHeld

/-- SLOT_OPEN. -/
def execSlotOpen (p : PkgId) (port : PortId) (j t : Nat) (s : State) : Host.Outcome State Fault Refusal :=
  .next (s.updPkg p (fun k => (k.at t).openSlot port j t))

/-! ### Volleys -/

/-- VOLLEY_BOUNDARY (R74, R78, R471): each partition's schedule volley advances except where a stretch volley opens, and
the throttle is updated. -/
def Pkg.volley (k : Pkg) (t : Nat) : Pkg :=
  if t % 2048 ≠ 0 ∨ k.flag F.HTM_VALID = false then k
  else
    let k := ((List.range 4).filter k.slotHeld).foldl (fun k s =>
      if k.inStretch s t then k.addWrap (F.HTM_STRETCH_TOTAL s) 1 else k.addWrap (F.HTM_SCHED_VOLLEY s) 1) k
    ({ k with fab := k.fab.throttleVolley } : Pkg).releaseHeld

/-- VOLLEY_BOUNDARY. -/
def execVolleyBoundary (p : PkgId) (t : Nat) (s : State) : Host.Outcome State Fault Refusal :=
  .next (s.updPkg p (fun k => (k.at t).volley t))

end Sys2Proof.Machine
end

