-- ==== Sys2Proof/Machine/HostQueues.lean ====
section
/-! DEFINITION. Host queues: doorbells, submission and completion queues, interrupts, the replay window and events
(R590–R597, R612–R618). -/

namespace Sys2Proof.Machine

/-! ### Completion queues (R595–R597) -/

/-- The CQ has no free entry. -/
def Pkg.cqFull (k : Pkg) (c : Nat) : Bool :=
  (k.getF (F.HIF_CQ_WINDEX c) + 1) % max 1 (k.getF (F.HIF_CQ_SIZE c)) == k.getF (F.HIF_CQ_HEAD c)

/-- Raise the vector of a CQ; nothing is left unsignalled. -/
def Pkg.cqSignal (k : Pkg) (c : Nat) : Pkg :=
  ({ k with host := { k.host with coal := k.host.coal.filter (fun x => x.1 != c) } } : Pkg).msixRaise
    (k.getF (F.HIF_CQ_OWNER c)) (k.getF (F.HIF_CQ_VECTOR c))

/-- An entry with IRQ was written: signal at once, at the coalescing count, or later (R597). -/
def Pkg.cqIrq (k : Pkg) (c : Nat) : Pkg :=
  let old := (k.host.coal.find? (fun x => x.1 == c)).getD (c, 0, k.now)
  if k.getF (F.HIF_CQ_COAL_TIME c) = 0 ∨ k.getF (F.HIF_CQ_COAL_COUNT c) + 1 ≤ old.2.1 + 1 then k.cqSignal c
  else { k with host := { k.host with coal := (c, old.2.1 + 1, old.2.2) :: k.host.coal.filter (fun x => x.1 != c) } }

/-- A completion entry (Table 13-5) without PHASE: KIND is 0 for a call, 1 for an event. -/
def cqEntry (id status orig info head sq kind : Nat) : Bytes :=
  leBytes 4 id ++ leBytes 2 status ++ leBytes 2 orig ++ leBytes 4 info ++ leBytes 2 head ++ leBytes 1 sq ++ leBytes 1 (2 * kind)

/-- Write an entry into a CQ that has room (R595). -/
def Pkg.cqWrite (k : Pkg) (c : Nat) (e : Bytes) (irq : Bool) : Pkg :=
  let w := k.getF (F.HIF_CQ_WINDEX c)
  let phase := k.getF (F.HIF_CQ_PHASE c)
  let next := (w + 1) % max 1 (k.getF (F.HIF_CQ_SIZE c))
  let bytes := e.take 15 ++ leBytes 1 (fieldAt e 15 1 + phase)
  let k := { k with host := { k.host with mem := Memory.writeBytes k.host.mem (k.getF (F.HIF_CQ_BASE c) * 4096 + 16 * w) bytes } }
  let k := k.setF (F.HIF_CQ_WINDEX c) next
  let k := if next = 0 then k.setF (F.HIF_CQ_PHASE c) (1 - phase) else k
  if irq then k.cqIrq c else k

/-- INTERRUPT_COALESCE_TIMEOUT (R597). -/
def execInterruptCoalesceTimeout (p : PkgId) (c : Fin 256) (t : Nat) (s : State) : Host.Outcome State Fault Refusal :=
  .next (s.updPkg p (fun k =>
    let k := k.at t
    match k.host.coal.find? (fun x => x.1 == c.val) with
    | none => k
    | some x => if x.2.2 + k.getF (F.HIF_CQ_COAL_TIME c) * 2000 ≤ k.now then k.cqSignal c else k))

/-! ### Events (R617, R618) -/

/-- Write the events that wait, while their slot's event CQ has room. -/
def Pkg.flushEvents (k : Pkg) : Pkg :=
  k.host.events.foldl (fun k e =>
    let c := k.getF (F.HIF_EVT_CQ_INDEX e.1)
    if !k.flag (F.HIF_EVT_EN e.1) || !k.flag (F.HIF_CQ_EN c) then k
    else if k.cqFull c then
      { k.raise F.HIF_EV_CQ_FULL with host := { k.host with events := k.host.events ++ [e] } }
    else k.cqWrite c (cqEntry e.2.1 0 0 e.2.2 0 0 1) true) { k with host := { k.host with events := [] } }

/-- EVENT_POST (R617, R618): the captain writes an event to the slot's event CQ; with none enabled nothing is written. -/
def Pkg.postEvent (k : Pkg) (slot code info : Nat) : Pkg :=
  if !k.isCaptain slot || !k.flag (F.HIF_EVT_EN slot) then k
  else ({ k with host := { k.host with events := k.host.events ++ [(slot, code, info)] } } : Pkg).flushEvents

/-! ### Doorbells (R590, R591) -/

/-- SQ_DOORBELL: the tail moves when the function owns the enabled queue and the index is below its size. -/
def execSqDoorbell (p : PkgId) (fn : Root) (q : Fin 256) (index t : Nat) (s : State) : Host.Outcome State Fault Refusal :=
  .next (s.updPkg p (fun k =>
    let k := k.at t
    if k.getF (F.HIF_SQ_OWNER q) = fn.val ∧ k.flag (F.HIF_SQ_EN q) = true ∧ index < k.getF (F.HIF_SQ_SIZE q) then
      k.setF (F.HIF_SQ_TAIL q) index
    else k.raise F.HIF_EV_DOORBELL_BAD))

/-- CQ_DOORBELL (R591, R596): the head moves and events that waited are written. -/
def execCqDoorbell (p : PkgId) (fn : Root) (c : Fin 256) (index t : Nat) (s : State) : Host.Outcome State Fault Refusal :=
  .next (s.updPkg p (fun k =>
    let k := k.at t
    if k.getF (F.HIF_CQ_OWNER c) = fn.val ∧ k.flag (F.HIF_CQ_EN c) = true ∧ index < k.getF (F.HIF_CQ_SIZE c) then
      (k.setF (F.HIF_CQ_HEAD c) index).flushEvents
    else k.raise F.HIF_EV_DOORBELL_BAD))

/-! ### Enabling a submission queue (R593) -/

/-- The replay store lies in HBM outside every partition's allotment. -/
def Pkg.replayStoreGood (k : Pkg) (q : Nat) : Bool :=
  let a := k.getF (F.HIF_SQ_REPLAY q) * 2 ^ 20
  decide (a + 2 ^ 20 ≤ hbmBytes) && (List.range 4).all (fun s => !k.slotHeld s || !rangesMeet (a, 2 ^ 20) (k.allotment s))

/-- Empty the replay window of an SQ (R616). -/
def Pkg.clearReplay (k : Pkg) (q : Nat) : Pkg :=
  { k with host := { k.host with replay := k.host.replay.filter (fun r => r.sq != q) } }

/-- A write of `HIF_SQ_CFG`: the fields are stored (the owner only by the PF); the enable bit only when R593 allows it. -/
def Pkg.writeSqCfg (k : Pkg) (pf : Bool) (q data : Nat) : Pkg :=
  let was := k.flag (F.HIF_SQ_EN q)
  let k := k.setF (F.HIF_SQ_CQ q) (bits data 55 48)
  let k := if pf then k.setF (F.HIF_SQ_OWNER q) (bits data 34 32) else k
  let k := k.setF (F.HIF_SQ_SIZE q) (bits data 12 0)
  if !bit data 63 then (k.setF (F.HIF_SQ_EN q) 0).clearReplay q
  else if was then k
  else
    let c := k.getF (F.HIF_SQ_CQ q)
    let n := k.getF (F.HIF_SQ_SIZE q)
    if k.flag (F.HIF_CQ_EN c) && k.getF (F.HIF_CQ_OWNER c) == k.getF (F.HIF_SQ_OWNER q) && k.replayStoreGood q
        && decide (2 ≤ n) && decide (n ≤ 4096) then
      ((k.setF (F.HIF_SQ_EN q) 1).setF (F.HIF_SQ_HEAD q) 0).setF (F.HIF_SQ_TAIL q) 0
    else (k.setF (F.HIF_SQ_EN q) 0).raise F.HIF_EV_QUEUE_REFUSED

/-- SQ_ENABLE (R584, R593, R616): a write of `HIF_SQ_CFG`. -/
def execSqEnable (p : PkgId) (src : CsrSource) (q : Fin 256) (data t : Nat) (s : State) : Host.Outcome State Fault Refusal :=
  .next (s.updPkg p (fun k =>
    let k := k.at t
    match src with
    | .i3c => k.refuseCsr src (0x2010008 + 0x40 * q.val) true
    | .vf n => if k.getF (F.HIF_SQ_OWNER q) = n.val then k.writeSqCfg false q data else k.raise F.HIF_EV_VF_WRITE_REFUSED
    | .pf => k.writeSqCfg true q data))

/-! ### Function-level reset (R619–R621) -/

/-- The plays of a call that have not reported: package and logical core. -/
def HostCall.openPlays (c : HostCall) : List (Nat × Nat) :=
  if fieldAt c.entry 0 1 = 2 ∨ fieldAt c.entry 0 1 = 3 then
    (c.parts.filter (fun x => x.result.isNone)).map (fun x => (x.target, x.core))
  else []

/-- The effect of R619 on one function. -/
def Pkg.flr (k : Pkg) (fn : Nat) : Pkg :=
  let sqs := (List.range 256).filter (fun q => k.flag (F.HIF_SQ_EN q) && k.getF (F.HIF_SQ_OWNER q) == fn)
  let cqs := (List.range 256).filter (fun c => k.flag (F.HIF_CQ_EN c) && k.getF (F.HIF_CQ_OWNER c) == fn)
  let gone : List HostCall := k.host.calls.filter (fun c => sqs.contains c.sq)
  let k := { k with host := { k.host with
    calls := k.host.calls.filter (fun c => !sqs.contains c.sq)
    ghosts := k.host.ghosts ++ gone.flatMap HostCall.openPlays } }
  let k := sqs.foldl (fun k q => ((k.setF (F.HIF_SQ_EN q) 0).setF (F.HIF_SQ_RUNNING q) 0).clearReplay q) k
  let k := cqs.foldl (fun k c => k.setF (F.HIF_CQ_EN c) 0) k
  let k := { k with
    host := { k.host with coal := k.host.coal.filter (fun x => !cqs.contains x.1) }
    regs := Sparse.keep k.regs (fun o => !(decide (0x20080000 + 0x1000000 * fn ≤ o) && decide (o < 0x200C0080 + 0x1000000 * fn))) }
  (k.setF (F.XLT_BAR2_VBASE fn) 0).raise F.HIF_EV_FLR

/-- The effect of an FLR of the PF (R620). -/
def Pkg.flrAll (k : Pkg) : Pkg := (List.range 5).foldl Pkg.flr { k with host := { k.host with vfEnable := false } }

/-- A reset of host-interface state records its cause (Table 16-2). -/
def Pkg.hostCause (k : Pkg) : Pkg := k.recordCause 5 6 0 0

/-- VF_FLR (R619). -/
def execVfFlr (p : PkgId) (n : SlotId) (t : Nat) (s : State) : Host.Outcome State Fault Refusal :=
  .next (s.updPkg p (fun k => ((k.at t).flr n).hostCause))

/-- PF_FLR (R620). -/
def execPfFlr (p : PkgId) (t : Nat) (s : State) : Host.Outcome State Fault Refusal :=
  .next (s.updPkg p (fun k => ((k.at t).flrAll).hostCause))

/-- HOST_RESET (R621): a hot reset, a link-down or the host's fundamental reset; a link-down takes port H down. -/
def execHostReset (p : PkgId) (linkDown : Bool) (t : Nat) (s : State) : Host.Outcome State Fault Refusal :=
  .next (s.updPkg p (fun k =>
    let k := (k.at t).flrAll.hostCause
    if linkDown then k.setF F.LNK_H_ST 0 else k))

end Sys2Proof.Machine
end

