-- ==== Sys2Proof/Machine/Storage.lean ====
section
/-! DEFINITION. Parts of COPY and STORAGE calls at their package, the storage port and NVMe over Fabrics (R603, R606,
R610, R625–R635). -/

namespace Sys2Proof.Machine

/-! ### Jobs -/

/-- Find a job. -/
def Pkg.job (k : Pkg) (captain tag : Nat) : Option HostJob := k.host.jobs.find? (fun j => j.captain == captain && j.tag == tag)

/-- Put a job back, or add it. -/
def Pkg.putJob (k : Pkg) (j : HostJob) : Pkg :=
  { k with host := { k.host with jobs := k.host.jobs.filter (fun x => !(x.captain == j.captain && x.tag == j.tag)) ++ [j] } }

/-- The body of a CALL_FANOUT packet (Table 13-7). -/
def fanoutBody (kind op tag ht va arg aux status : Nat) : Bytes :=
  leBytes 1 kind ++ leBytes 1 op ++ leBytes 2 0 ++ leBytes 4 tag ++ leBytes 8 ht ++ leBytes 8 va ++ leBytes 4 arg ++ leBytes 4 aux
    ++ leBytes 2 status ++ leBytes 2 0

/-- Record the result of a part of a call at the captain. -/
def Pkg.partDone (k : Pkg) (num target : Nat) (st : Status) (info : Nat) : Pkg :=
  { k with host := { k.host with calls := k.host.calls.map (fun c =>
      if c.num = num then { c with parts := c.parts.map (fun x =>
        if x.target = target ∧ x.result.isNone = true then { x with result := some (st, info) } else x) } else c) } }

/-- A job ends: its captain is told, by DONE when it is another package (R610). -/
def Pkg.endJob (k : Pkg) (j : HostJob) (st : Status) (info : Nat) : Pkg :=
  let k := { k with host := { k.host with jobs := k.host.jobs.filter (fun x => !(x.captain == j.captain && x.tag == j.tag)) } }
  if j.captain = k.target then k.partDone (j.tag / 2) k.target st info
  else k.sendHub 0x4C j.slot j.captain (fanoutBody 2 (if j.storage then 6 else 5) j.tag 0 0 info 0 st)

/-! ### COPY (R598, R599, R606) -/

/-- Read from the partition page by page: the bytes read and the first fault. -/
def Pkg.copyOut (k : Pkg) (slot va n : Nat) : Pkg × Bytes × Option Bad := k.vread slot (.host slot) va n

/-- Write into the partition page by page: the number of bytes written and the first fault; `fuel` bounds the pages. -/
def Pkg.copyIn (k : Pkg) (slot : Nat) : Nat → Nat → Bytes → Nat → Pkg × Nat × Option Bad
  | 0, _, _, done => (k, done, none)
  | fuel + 1, va, bs, done =>
    if bs.isEmpty then (k, done, none)
    else
      let m := min bs.length (4096 - va % 4096)
      match k.vwrite slot (.host slot) va (bs.take m) with
      | (k, some b) => (k, done, some b)
      | (k, none) => k.copyIn slot fuel (va + m) (bs.drop m) (done + m)

/-- Run a COPY: DIR 0 host to partition, 1 partition to host. -/
def Pkg.runCopy (k : Pkg) (j : HostJob) : Pkg :=
  let va := j.va.getD 0
  let host := j.hostAddr.getD 0
  if j.dir = 0 then
    let bs := (j.data ++ List.replicate j.arg 0).take j.arg
    let (k, n, bad) := k.copyIn j.slot (pages j.arg) va bs 0
    k.endJob j ((bad.map Bad.status).getD 0) n
  else
    let (k, bs, bad) := k.copyOut j.slot va j.arg
    let k := { k with host := { k.host with mem := Memory.writeBytes k.host.mem host bs } }
    k.endJob j ((bad.map Bad.status).getD 0) bs.length

/-! ### Connections (Table 13-10) -/

/-- Connection entry `i` of the table in HBM. -/
def Pkg.connEntry (k : Pkg) (i : Nat) : Pkg × Bytes :=
  match k.hbmRead (k.getF F.HIF_STO_TABLE * 4096 + 256 * i) 256 with
  | (k, .ok b) => (k, b)
  | (k, .error _) => (k, [])

/-- A valid connection entry. -/
def connValid (b : Bytes) : Bool :=
  fieldAt b 19 1 == 1 && decide (1 ≤ fieldAt b 18 1) && decide (fieldAt b 18 1 ≤ 64) && decide (2 ≤ fieldAt b 20 2)
    && decide (fieldAt b 20 2 ≤ 1024) && decide (fieldAt b 22 1 < 16) && ((b.drop 23).take 9).all (fun x => x == 0)

/-- The connection state. -/
def Pkg.conn (k : Pkg) (i : Nat) : Conn := k.host.conns.toList.getD i {}
/-- Replace a connection. -/
def Pkg.setConn (k : Pkg) (i : Nat) (c : Conn) : Pkg := { k with host := { k.host with conns := k.host.conns.setIfInBounds i c } }

/-! ### NVMe commands (R629–R635) -/

/-- Fields of a storage-list entry. -/
def StoEntry.op (e : StoEntry) : Nat := fieldAt e.bytes 0 1
/-- `SE_CONN`. -/
def StoEntry.conn (e : StoEntry) : Nat := fieldAt e.bytes 1 1
/-- `SE_NLB`. -/
def StoEntry.nlb (e : StoEntry) : Nat := fieldAt e.bytes 16 4
/-- `SE_VA`. -/
def StoEntry.va (e : StoEntry) : Nat := fieldAt e.bytes 24 8

/-- A storage-list entry that breaks Table 13-11. -/
def badSto (b : Bytes) : Bool :=
  let op := fieldAt b 0 1
  op == 0 || decide (4 < op) || decide (15 < fieldAt b 1 1) || fieldAt b 2 2 != 0 || fieldAt b 20 4 != 0
    || (if op ≤ 2 then fieldAt b 24 8 % 64 != 0 else fieldAt b 24 8 != 0)

/-- The entry is over. -/
def StoEntry.finished (e : StoEntry) : Bool := e.issued && e.out == 0 && (e.left == 0 || e.status != 0)

/-- Commands outstanding on a connection. -/
def Pkg.nvmeOn (k : Pkg) (c : Nat) : Nat := (k.host.nvme.filter (fun x => x.conn == c)).length

/-- Issue one NVMe command of an entry. -/
def Pkg.nvmeIssue (k : Pkg) (j : HostJob) (i : Nat) (e : StoEntry) (size : Nat) : Pkg :=
  let x : NvmeCmd := { key := k.host.nextKey, captain := j.captain, tag := j.tag, entry := i, issued := k.now, slot := j.slot
                       va := e.va + e.next, size := size, toMemory := e.op == 1, conn := e.conn }
  ({ k with host := { k.host with nvme := k.host.nvme ++ [x], nextKey := k.host.nextKey + 1 } } : Pkg).inc (F.HIF_STO_COUNTS 2)

/-- Issue the commands of an entry while its connection has room; `fuel` bounds them. -/
def Pkg.entryIssue (k : Pkg) (j : HostJob) (i : Nat) : Nat → StoEntry → Pkg × StoEntry
  | 0, e => (k, e)
  | fuel + 1, e =>
    let c := k.conn e.conn
    let room := decide (k.nvmeOn e.conn < fieldAt c.entry 18 1 * fieldAt c.entry 20 2)
    if e.left = 0 ∨ e.status ≠ 0 ∨ room = false then (k, e)
    else
      let size := if e.op ≤ 2 then min e.left (min 1048576 (max 1 c.maxTransfer)) else 0
      let k := k.nvmeIssue j i e size
      k.entryIssue j i fuel { e with next := e.next + size, left := if e.op ≤ 2 then e.left - size else 0, out := e.out + 1 }

/-- Start an entry: the checks of R635 in order. -/
def Pkg.entryStart (k : Pkg) (j : HostJob) (e : StoEntry) : StoEntry :=
  let c := k.conn e.conn
  let e := { e with issued := true }
  if !connValid c.entry || !bit (fieldAt c.entry 22 1) j.slot then { e with status := 0x3E02 }
  else if k.getF (F.HIF_STO_ST e.conn) ≠ 2 then { e with status := 0x1E01 }
  else { e with left := if e.op ≤ 2 then e.nlb * c.blockBytes else 1 }

/-- May entry `i` start: earlier entries have, and a FLUSH waits for those of its connection (R634). -/
def mayStart (es : List StoEntry) (i : Nat) (e : StoEntry) : Bool :=
  (es.take i).all (fun x => x.issued && (e.op != 3 || x.conn != e.conn || x.finished))

/-- Go over the entries of a job in index order, starting and issuing what may go. -/
def Pkg.jobIssue (k : Pkg) (j : HostJob) : Pkg × HostJob :=
  (List.range j.entries.length).foldl (fun (a : Pkg × HostJob) i =>
    match a.2.entries[i]? with
    | none => a
    | some e =>
      let e := if !e.issued && mayStart a.2.entries i e then a.1.entryStart a.2 e else e
      let (k, e) := if e.issued then a.1.entryIssue a.2 i 16384 e else (a.1, e)
      (k, { a.2 with entries := a.2.entries.set i e })) (k, j)

/-- A job goes on; with its last entry it ends, with the status of the lowest-indexed entry that failed (Table 13-6). -/
def Pkg.jobStep (k : Pkg) (j : HostJob) : Pkg :=
  let (k, j) := k.jobIssue j
  if j.entries.all StoEntry.finished then
    match ((List.range j.entries.length).zip j.entries).find? (fun x => x.2.status != 0) with
    | some (i, e) => k.endJob j e.status (i * 65536 + (if e.status = 0x5E03 then e.nvme else 0))
    | none => k.endJob j 0 0
  else k.putJob j

/-- Run a STORAGE part: read its list under the partition's root (R599), then issue. -/
def Pkg.runStorage (k : Pkg) (j : HostJob) : Pkg :=
  match k.hubRead j.slot (j.va.getD 0) (32 * j.arg) with
  | (k, _, some b) => k.endJob j b.status 0
  | (k, bs, none) =>
    let es := (List.range j.arg).map (fun i => (bs.drop (32 * i)).take 32)
    match es.findIdx? badSto with
    | some i => k.endJob j 0x3603 (i * 65536)
    | none => k.jobStep { j with started := true, entries := es.map (fun b => { bytes := b }) }

/-- Act on a job whose parts have come: at `CL_HT`, or at once when it has passed (R603, R81). -/
def Pkg.runJob (k : Pkg) (j : HostJob) : Pkg :=
  let ready := j.va.isSome && (j.storage || j.hostAddr.isSome) && !j.started
  if !ready || (j.ht != 0 && decide (k.hallTime < j.ht)) then k.putJob j
  else
    let k := if j.ht ≠ 0 ∧ j.ht < k.hallTime then k.lateAction else k
    let j := { j with started := true }
    let k := k.putJob j
    if j.storage then k.runStorage j else k.runCopy j

/-- CALL_AT_HT_ACTION (R603): every part whose time has come acts. -/
def execCallAtHtAction (p : PkgId) (t : Nat) (s : State) : Host.Outcome State Fault Refusal :=
  .next (s.updPkg p (fun k =>
    let k := k.at t
    (k.host.jobs.filter (fun j => !j.started && j.ht != 0 && decide (j.ht ≤ k.hallTime))).foldl (fun k j =>
      k.runJob { j with ht := max j.ht k.hallTime }) k))

/-- FANOUT_RUN (R610, Table 13-7): the first packet of a part names what to do, the second of a COPY the host address; `data`
is what the host's memory holds there, for a COPY into the partition. -/
def execFanoutRun (p : PkgId) (pkt : Packet) (data : Bytes) (t : Nat) (s : State) : Host.Outcome State Fault Refusal :=
  .next (s.updPkg p (fun k => (k.at t).sequenced pkt (fun k =>
    let op := fieldAt pkt.body 1 1
    let tag := fieldAt pkt.body 4 4
    let va := fieldAt pkt.body 16 8
    let base := tag / 2 * 2
    let j := (k.job pkt.src base).getD { captain := pkt.src, tag := base, slot := pkt.slot, storage := op == 6 }
    let j := if op = 5 ∧ tag % 2 = 1 then { j with hostAddr := some va, data := data }
      else { j with ht := fieldAt pkt.body 8 8, va := some va, arg := fieldAt pkt.body 24 4, dir := fieldAt pkt.body 28 4 % 2 }
    (k.runJob j, 0, none))))

/-- Find a command by its key. -/
def Pkg.nvmeCmd (k : Pkg) (key : Nat) : Option NvmeCmd := k.host.nvme.find? (fun x => x.key == key)

/-- A command ends: its key is invalid from then on; its entry takes the first failure, and its job goes on. -/
def Pkg.nvmeEnd (k : Pkg) (x : NvmeCmd) (st : Status) (nvme : Nat) : Pkg :=
  let k := { k with host := { k.host with nvme := k.host.nvme.erase x } }
  match k.job x.captain x.tag with
  | none => k
  | some j => k.jobStep { j with entries := ((List.range j.entries.length).zip j.entries).map (fun p =>
      if p.1 = x.entry then { p.2 with out := p.2.out - 1, status := if p.2.status = 0 then st else p.2.status
                                       nvme := if p.2.status = 0 then nvme else p.2.nvme } else p.2) }

/-- NVME_COMPLETION (R634, R635): `nvme` is the NVMe status field. -/
def execNvmeCompletion (p : PkgId) (key nvme t : Nat) (s : State) : Host.Outcome State Fault Refusal :=
  .next (s.updPkg p (fun k =>
    let k := k.at t
    match k.nvmeCmd key with
    | none => k
    | some x =>
      let k := k.setF (F.HIF_STO_NVME x.conn) nvme
      if nvme = 0 then
        (k.addSat (F.HIF_STO_COUNTS (if x.toMemory then 0 else 1)) x.size).nvmeEnd x 0 0
      else ((k.inc (F.HIF_STO_COUNTS 3)).logError 0x5E03 .package 0 x.conn).nvmeEnd x 0x5E03 nvme))

/-- NVME_TIMEOUT (R632): no completion after 10 s. -/
def execNvmeTimeout (p : PkgId) (key t : Nat) (s : State) : Host.Outcome State Fault Refusal :=
  .next (s.updPkg p (fun k =>
    let k := k.at t
    match k.nvmeCmd key with
    | none => k
    | some x => if x.issued + 20000000000 ≤ k.now then k.nvmeEnd x 0x6E04 0 else k))

/-- RDMA_ACCESS (R630): a target reads or writes memory under a command's key; a fault ends the entry with its status. -/
def execRdmaAccess (p : PkgId) (key off : Nat) (data : Option Bytes) (n t : Nat) (s : State) :
    Host.Outcome State Fault Refusal :=
  .next (s.updPkg p (fun k =>
    let k := k.at t
    let fault (k : Pkg) (x : NvmeCmd) (b : Bad) : Pkg :=
      match k.job x.captain x.tag with
      | none => k
      | some j => k.putJob { j with entries := ((List.range j.entries.length).zip j.entries).map (fun p =>
          if p.1 = x.entry ∧ p.2.status = 0 then { p.2 with status := b.status } else p.2) }
    match k.nvmeCmd key, data with
    | some x, some bs =>
      if x.toMemory ∧ off + bs.length ≤ x.size then
        match k.vwrite x.slot .storage (x.va + off) bs with
        | (k, some b) => fault k x b
        | (k, none) => k.moveBytes x.slot bs.length
      else k
    | some x, none =>
      if !x.toMemory && decide (off + n ≤ x.size) then
        match k.vread x.slot .storage (x.va + off) n with
        | (k, _, some b) => fault k x b
        | (k, bs, none) => { k.moveBytes x.slot n with readData := leNat bs }
      else k
    | none, _ => k))

/-! ### Connecting (R629, R631, R633) -/

/-- Close a connection: its outstanding commands end with STO_CONN_DOWN (Table 13-12). -/
def Pkg.connDown (k : Pkg) (i : Nat) : Pkg :=
  let k := ((k.setF (F.HIF_STO_ST i) 0).setF (F.HIF_STO_IOQS i) 0)
  (k.host.nvme.filter (fun x => x.conn == i)).foldl (fun k x => k.nvmeEnd x 0x1E01 0) k

/-- STO_CONNECT (R629, R633): connections of the mask begin to connect, unless valid entries ask for more than 64 queues. -/
def Pkg.stoConnect (k : Pkg) (mask : Nat) : Pkg :=
  let (k, es) := (List.range 16).foldl (fun (a : Pkg × List Bytes) i =>
    let (k, b) := a.1.connEntry i
    (k, a.2 ++ [b])) (k, [])
  let broken := es.any (fun b => bit (fieldAt b 19 1) 0 && !connValid b)
  if broken = true ∨ 64 < ((es.filter connValid).map (fun b => fieldAt b 18 1)).sum then k.raise F.HIF_EV_STO_REFUSED
  else ((List.range 16).filter (bit mask)).foldl (fun k i =>
    let b := es.getD i []
    if connValid b && k.getF (F.HIF_STO_ST i) == 0 then
      (k.setConn i { k.conn i with wanted := true, entry := b, last := k.now }).setF (F.HIF_STO_ST i) 1
    else k) k

/-- STO_CONNECT. -/
def execStoConnect (p : PkgId) (src : CsrSource) (mask t : Nat) (s : State) : Host.Outcome State Fault Refusal :=
  .next (s.updPkg p (fun k => (k.at t).viaPkg src 0x2040030 .p (fun k => k.stoConnect mask)))

/-- STO_DISCONNECT (R629). -/
def execStoDisconnect (p : PkgId) (src : CsrSource) (mask t : Nat) (s : State) : Host.Outcome State Fault Refusal :=
  .next (s.updPkg p (fun k => (k.at t).viaPkg src 0x2040030 .p (fun k =>
    ((List.range 16).filter (bit mask)).foldl (fun k i => (k.setConn i { k.conn i with wanted := false }).connDown i) k)))

/-- KEEP_ALIVE_FAILURE (R631). -/
def execKeepAliveFailure (p : PkgId) (conn : Fin 16) (t : Nat) (s : State) : Host.Outcome State Fault Refusal :=
  .next (s.updPkg p (fun k =>
    let k := k.at t
    if k.getF (F.HIF_STO_ST conn) = 2 then (k.setConn conn { k.conn conn with last := k.now }).connDown conn else k))

/-- RECONNECT_ATTEMPT (R631): a connection that is asked for and not UP is tried, at once after its request and then every 1 s;
`answer` is the maximum transfer size and the block size the controller tells when it connects. -/
def execReconnectAttempt (p : PkgId) (conn : Fin 16) (answer : Option (Nat × Nat)) (t : Nat) (s : State) :
    Host.Outcome State Fault Refusal :=
  .next (s.updPkg p (fun k =>
    let k := k.at t
    let c := k.conn conn
    let st := k.getF (F.HIF_STO_ST conn)
    if !c.wanted || st == 2 || (st == 0 && decide (k.now < c.last + 2000000000)) then k
    else match answer with
      | some (mx, blk) =>
        ((k.setConn conn { c with maxTransfer := mx, blockBytes := blk, last := k.now }).setF (F.HIF_STO_ST conn) 2).setF
          (F.HIF_STO_IOQS conn) (fieldAt c.entry 18 1)
      | none => (k.setConn conn { c with last := k.now }).setF (F.HIF_STO_ST conn) 0))

/-- STORAGE_FRAME_RECEIVE (R626, R627): port S answers the frames it knows, on its own VLAN, and drops and counts every other;
a pause of its priority shows in `LNK_S_PFC`. -/
def execStorageFrameReceive (p : PkgId) (kind : StoFrame) (mine : Bool) (vlan : Option Nat) (ecn : Bool) (t : Nat) (s : State) :
    Host.Outcome State Fault Refusal :=
  .next (s.updPkg p (fun k =>
    let k := { k.at t with host := { (k.at t).host with reply := .none } }
    let tagged := if k.flag F.HIF_STO_VLAN_EN then vlan == some (k.getF F.HIF_STO_VLAN) else vlan.isNone
    let drop := k.inc (F.HIF_STO_COUNTS 4)
    let say (r : StoReply) : Pkg := { k with host := { k.host with reply := r } }
    if k.getF F.LNK_S_ST ≠ 2 then k
    else match kind with
      | .pause on => if k.flag F.HIF_STO_PFC_EN then k.setF F.LNK_S_PFC (if on then 1 else 0) else drop
      | .other => drop
      | .roce => if tagged && mine then say (if ecn then .congestion else .roce) else drop
      | .address => if tagged && mine then say .address else drop
      | .echo => if tagged && mine then say .echo else drop))

/-- STORAGE_LINK_CHANGE (R625): training ends, or the link is lost. -/
def execStorageLinkChange (p : PkgId) (st : Fin 3) (t : Nat) (s : State) : Host.Outcome State Fault Refusal :=
  .next (s.updPkg p (fun k => (k.at t).setF F.LNK_S_ST st))

end Sys2Proof.Machine
end

