-- ==== Sys2Proof/Machine/Calls.lean ====
section
/-! DEFINITION. Calls: fetch, checks, start, fan-out, completion and timeouts (R598–R611), and the acknowledgement of every
sequence (R482). -/

namespace Sys2Proof.Machine

/-! ### Call entries (Tables 13-3, 13-4) -/

/-- Do bytes `lo` to `hi - 1` hold only zero. -/
def zeroSpan (b : Bytes) (lo hi : Nat) : Bool := ((b.drop lo).take (hi - lo)).all (fun x => x == 0)

/-- Reserved bytes and flags of a call, and its opcode: R600 step 2. A call TARGET has bit 31, or bits 17:0 only. -/
def callForm (b : Bytes) (pf : Bool) : Bool :=
  let op := fieldAt b 0 1
  let fl := fieldAt b 1 1
  let target := fieldAt b 16 4
  let tgt := target == 2 ^ 31 || decide (target < 2 ^ 18)
  decide (fl < 8) && (!bit fl 1 || op == 5 || op == 6) && (bit fl 1 || zeroSpan b 8 16) && (!pf || op == 1 || op == 5) &&
  (match op with
    | 1 => zeroSpan b 16 64
    | 2 => tgt && zeroSpan b 21 24 && zeroSpan b 32 64 && !addrReserved b 24 .addr
    | 3 => zeroSpan b 28 64
    | 4 => tgt && zeroSpan b 22 24 && zeroSpan b 28 64
    | 5 => tgt && zeroSpan b 21 24 && zeroSpan b 44 64
    | 6 => tgt && zeroSpan b 32 64
    | _ => false)

/-- A logical core number of the partition: one of the policy's numbers, in a cluster of the partition. -/
def Pkg.partCore (k : Pkg) (slot g : Nat) : Bool :=
  match k.lup.active, k.partEntry slot with
  | some l, some p => decide (g < 4 * (16 - l.policy)) && bit p.clusters (g / (16 - l.policy))
  | _, _ => false

/-- Body values: R600 step 4. -/
def Pkg.callBody (k : Pkg) (slot : Nat) (b : Bytes) : Bool :=
  match fieldAt b 0 1 with
  | 2 => k.partCore slot (fieldAt b 20 1)
  | 3 => fieldAt b 16 8 % 16 == 0 && decide (fieldAt b 16 8 < 2 ^ 56) && decide (1 ≤ fieldAt b 24 4) && decide (fieldAt b 24 4 ≤ 1048576)
  | 4 => decide (fieldAt b 20 2 < 4096)
  | 5 => decide (fieldAt b 20 1 < 2) && fieldAt b 24 8 % 64 == 0 && decide (fieldAt b 24 8 < 2 ^ 56) && fieldAt b 32 8 % 64 == 0
      && fieldAt b 40 4 % 64 == 0 && decide (64 ≤ fieldAt b 40 4)
  | 6 => decide (1 ≤ fieldAt b 20 4) && decide (fieldAt b 20 4 ≤ 65536) && fieldAt b 24 8 % 32 == 0 && decide (fieldAt b 24 8 < 2 ^ 56)
  | _ => true

/-- The packages a TARGET names: none when it names no package of the partition, or ALL where ALL is not allowed (R608). -/
def Pkg.callTargets (k : Pkg) (slot target : Nat) (all : Bool) : Option (List Nat) :=
  if target = 2 ^ 31 then (if all then some (k.partPackages slot) else none)
  else if slot = 4 then (if target = k.target then some [target] else none)
  else if (k.partPackages slot).contains target then some [target] else none

/-- What is wrong with a start-list entry: a reserved field or a core outside the partition, or a target outside it. -/
def Pkg.badStart (k : Pkg) (slot : Nat) (e : Bytes) : Option Status :=
  let target := fieldAt e 0 4
  if !zeroSpan e 5 8 || addrReserved e 8 .addr || !(decide (target < 2 ^ 18) || target == 2 ^ 31) then some 0x3603
  else if (k.callTargets slot target false).isNone then some 0x3604
  else if !k.partCore slot (fieldAt e 4 1) then some 0x3603
  else none

/-- Refresh `HIF_SQ_RUNNING`. -/
def Pkg.showRunning (k : Pkg) (q : Nat) : Pkg := k.setF (F.HIF_SQ_RUNNING q) (k.host.calls.filter (fun c => c.sq == q)).length

/-- Change a call. -/
def Pkg.updCall (k : Pkg) (num : Nat) (f : HostCall → HostCall) : Pkg :=
  { k with host := { k.host with calls := k.host.calls.map (fun c => if c.num = num then f c else c) } }

/-- Find a call. -/
def Pkg.call (k : Pkg) (num : Nat) : Option HostCall := k.host.calls.find? (fun c => c.num == num)

/-! ### Starting a call -/

/-- The captain's exclusion list of a slot names a package, or excludes every one (R884–R886). -/
def Pkg.excluded (k : Pkg) (slot target : Nat) : Bool :=
  decide (slot < 4) && (k.flag (F.GLB_EXCL_ALL slot) || (List.range 128).any (fun i =>
    k.flag (F.GLB_EX_VALID slot i) && k.getF (F.GLB_EX_RACK slot i) * 128 + k.getF (F.GLB_EX_PKG slot i) == target))

/-- Send PLAY_START for every part (R609); a part at an excluded package ends with UNIT_EXCLUDED instead (R885). -/
def Pkg.sendStarts (k : Pkg) (num slot : Nat) (plays : List (Nat × Nat × Nat)) : Pkg :=
  let out (p : Nat × Nat × Nat) : Bool := k.excluded slot p.1
  let k := k.updCall num (fun c => { c with parts := plays.map (fun p =>
    { target := p.1, core := p.2.1, result := if out p then some (0x1B01, 0) else none }) })
  (plays.zip (List.range plays.length)).foldl (fun k p =>
    if out p.1 then k else k.sendHub 0x44 slot p.1.1 (leBytes 1 p.1.2.1 ++ leBytes 3 0 ++ leBytes 8 p.1.2.2) (.call num p.2)) k

/-- Start a call whose checks passed. -/
def Pkg.startCall (k : Pkg) (c : HostCall) : Pkg :=
  let b := c.entry
  let k := k.updCall c.num (fun x => { x with started := true })
  let finish (k : Pkg) (st : Status) : Pkg := k.updCall c.num (fun x => { x with result := some (st, 0) })
  let target := fieldAt b 16 4
  let ht := fieldAt b 8 8
  let op := fieldAt b 0 1
  -- R886: EXCL_ALL refuses the whole call; R885: a COPY at an excluded package.
  if c.slot < 4 ∧ (op = 2 ∨ op = 3 ∨ op = 5 ∨ op = 6) ∧ k.flag (F.GLB_EXCL_ALL c.slot) = true then finish k 0x1B01
  else if op = 5 ∧ k.excluded c.slot target = true then finish k 0x1B01
  else match op with
  | 1 => finish k 0
  | 2 => k.sendStarts c.num c.slot [(target, fieldAt b 20 1, fieldAt b 24 8)]
  | 3 =>
    let n := fieldAt b 24 4
    (match k.hubRead c.slot (fieldAt b 16 8) (16 * n) with
      | (k, _, some bad) => finish k bad.status
      | (k, bs, none) =>
        let es := (List.range n).map (fun i => (bs.drop (16 * i)).take 16)
        match ((List.range n).zip es).findSome? (fun e => (k.badStart c.slot e.2).map (fun st => (st, e.1))) with
        | some r => k.updCall c.num (fun x => { x with result := some r })
        | none => k.sendStarts c.num c.slot (es.map (fun e => (fieldAt e 0 4, fieldAt e 4 1, fieldAt e 8 8))))
  | 4 =>
    let ts := (k.callTargets c.slot target true).getD []
    let k := k.updCall c.num (fun x => { x with parts := ts.map (fun t => { target := t }) })
    (ts.zip (List.range ts.length)).foldl (fun k p =>
      k.sendHub 0x42 c.slot p.1 (leBytes 2 (fieldAt b 20 2) ++ leBytes 2 0 ++ leBytes 4 (fieldAt b 24 4)) (.call c.num p.2)) k
  | 5 =>
    let k := k.updCall c.num (fun x => { x with parts := [{ target := target }] })
    if target = k.target then
      k.runJob { captain := k.target, tag := 2 * c.num, slot := c.slot, storage := false, ht := ht, va := some (fieldAt b 24 8)
                 arg := fieldAt b 40 4, dir := fieldAt b 20 1, hostAddr := some (fieldAt b 32 8), data := c.data }
    else
      let k := k.sendHub 0x4C c.slot target (fanoutBody 1 5 (2 * c.num) ht (fieldAt b 24 8) (fieldAt b 40 4) (fieldAt b 20 1) 0) (.call c.num 0)
      k.sendHub 0x4C c.slot target (fanoutBody 1 5 (2 * c.num + 1) ht (fieldAt b 32 8) 0 0 0) (.call c.num 0)
  | _ =>
    let ts := (k.callTargets c.slot target true).getD []
    let out (t : Nat) : Bool := k.excluded c.slot t
    let k := k.updCall c.num (fun x => { x with parts := ts.map (fun t => { target := t, result := if out t then some (0x1B01, 0) else none }) })
    (ts.zip (List.range ts.length)).foldl (fun k p =>
      if out p.1 then k
      else if p.1 = k.target then
        k.runJob { captain := k.target, tag := 2 * c.num, slot := c.slot, storage := true, ht := ht, va := some (fieldAt b 24 8), arg := fieldAt b 20 4 }
      else k.sendHub 0x4C c.slot p.1 (fanoutBody 1 6 (2 * c.num) ht (fieldAt b 24 8) (fieldAt b 20 4) 0 0) (.call c.num p.2)) k

/-- Start the calls of an SQ in fetch order: one with ORDER waits for every earlier call of the SQ (R601). -/
def Pkg.startReady (k : Pkg) (q : Nat) : Nat → Pkg
  | 0 => k
  | fuel + 1 =>
    match (k.host.calls.filter (fun c => c.sq == q && c.dupOf.isNone)).find? (fun c => !c.started && c.result.isNone) with
    | none => k
    | some c =>
      if decide (c.slot < 4) && fieldAt c.entry 0 1 != 1 && k.slotClosed c.slot then k
      else if bit (fieldAt c.entry 1 1) 2 && k.host.calls.any (fun x => x.sq == q && decide (x.num < c.num)) then k
      else (k.startCall c).startReady q fuel

/-! ### Fetching (R594, R596, R600, R602, R613–R615) -/

/-- May the package fetch an entry of an SQ now. -/
def Pkg.mayFetch (k : Pkg) (q : Nat) : Bool :=
  let c := k.getF (F.HIF_SQ_CQ q)
  k.flag (F.HIF_SQ_EN q) && k.getF (F.HIF_SQ_HEAD q) != k.getF (F.HIF_SQ_TAIL q) && decide (k.host.calls.length < 4096)
    && !(k.cqFull c && k.host.calls.any (fun x => x.result.isSome && k.getF (F.HIF_SQ_CQ x.sq) == c))

/-- The first check that fails for a fetched call that is no duplicate (R600): its status and `CE_INFO`. A call that passes
them is ABSORBED while its slot drains or absorbs (R727, R734). -/
def Pkg.callRefusal (k : Pkg) (slot : Nat) (b : Bytes) : Option (Status × Nat) :=
  let op := fieldAt b 0 1
  let all := op == 4 || op == 6
  if !callForm b (slot == 4) then some (0x3603, 0)
  else if slot < 4 ∧ op ≠ 1 ∧ k.flag (F.HIF_PART_VALID slot) = false then some (0x3602, 0)
  else if slot < 4 ∧ op ≠ 1 ∧ k.isCaptain slot = false then some (0x3601, k.captain slot)
  else if !k.callBody slot b then some (0x3603, 0)
  else if op ≠ 1 ∧ op ≠ 3 ∧ (k.callTargets slot (fieldAt b 16 4) all).isNone = true then some (0x3604, 0)
  else if slot < 4 ∧ op ≠ 1 ∧ k.slotClosed slot = true then some (0x2001, 0)
  else none

/-- Keep the last 65,536 records of an SQ (R612). -/
def trimReplay (rs : List ReplayRec) (q : Nat) : List ReplayRec :=
  if 65536 < (rs.filter (fun r => r.sq == q)).length then
    match rs.find? (fun r => r.sq == q) with
    | some r => rs.erase r
    | none => rs
  else rs

/-- Fetch the entry at the head of an SQ: `b` is what the host's memory holds there, `data` what a COPY would read from it. -/
def Pkg.fetchCall (k : Pkg) (q : Nat) (b data : Bytes) : Pkg :=
  let size := max 1 (k.getF (F.HIF_SQ_SIZE q))
  let k := (k.setF (F.HIF_SQ_HEAD q) ((k.getF (F.HIF_SQ_HEAD q) + 1) % size)).inc (F.HIF_COUNTS 0)
  let slot := k.getF (F.HIF_SQ_OWNER q)
  let id := fieldAt b 4 4
  let num := k.host.nextCall
  let ms := if fieldAt b 2 2 = 0 then k.getF F.HIF_CALL_TIMEOUT else fieldAt b 2 2
  let c : HostCall := { num := num, sq := q, slot := slot, entry := b, deadline := k.now + ms * 2000000, data := data }
  let k := { k with host := { k.host with nextCall := num + 1 } }
  let add (k : Pkg) (c : HostCall) : Pkg := ({ k with host := { k.host with calls := k.host.calls ++ [c] } } : Pkg).showRunning q
  match k.host.replay.find? (fun r => r.sq == q && r.id == id) with
  | some r =>
    let k := k.inc (F.HIF_COUNTS 2)
    (match r.done with
      | some (st, info) => add k { c with started := true, result := some (0x9601, info), orig := st, dupOf := some r.num }
      | none => add k { c with started := true, dupOf := some r.num })
  | none =>
    let k := { k with host := { k.host with replay := trimReplay (k.host.replay ++ [({ sq := q, id := id, num := num, done := none } : ReplayRec)]) q } }
    match k.callRefusal slot b with
    | some r =>
      let k := if r.1 = 0x3601 then k.inc (F.HIF_COUNTS 3) else if r.1 = 0x2001 then k.inc (F.RST_COUNTS 6) else k
      add k { c with started := true, result := some r, orig := r.1 }
    | none => (add k c).startReady q 4096

/-- Fetch when the entry is of an opcode. -/
def Pkg.fetchOp (k : Pkg) (q : Nat) (b data : Bytes) (ok : Bool) : Pkg := if ok && k.mayFetch q then k.fetchCall q b data else k

/-- CALL_NOP (R600): a NOP, or an entry whose opcode is none of Table 13-4. -/
def execCallNop (p : PkgId) (q : Fin 256) (entry : Bytes) (t : Nat) (s : State) : Host.Outcome State Fault Refusal :=
  .next (s.updPkg p (fun k => (k.at t).fetchOp q entry [] (decide (fieldAt entry 0 1 < 2) || decide (6 < fieldAt entry 0 1))))

/-- CALL_PLAY (R609). -/
def execCallPlay (p : PkgId) (q : Fin 256) (entry : Bytes) (t : Nat) (s : State) : Host.Outcome State Fault Refusal :=
  .next (s.updPkg p (fun k => (k.at t).fetchOp q entry [] (fieldAt entry 0 1 == 2)))

/-- CALL_STEP (R609). -/
def execCallStep (p : PkgId) (q : Fin 256) (entry : Bytes) (t : Nat) (s : State) : Host.Outcome State Fault Refusal :=
  .next (s.updPkg p (fun k => (k.at t).fetchOp q entry [] (fieldAt entry 0 1 == 3)))

/-- CALL_SEM_POST (R605). -/
def execCallSemPost (p : PkgId) (q : Fin 256) (entry : Bytes) (t : Nat) (s : State) : Host.Outcome State Fault Refusal :=
  .next (s.updPkg p (fun k => (k.at t).fetchOp q entry [] (fieldAt entry 0 1 == 4)))

/-- CALL_COPY (R606): `data` is what the host's memory holds at HOST. -/
def execCallCopy (p : PkgId) (q : Fin 256) (entry data : Bytes) (t : Nat) (s : State) : Host.Outcome State Fault Refusal :=
  .next (s.updPkg p (fun k => (k.at t).fetchOp q entry data (fieldAt entry 0 1 == 5)))

/-- CALL_STORAGE (R634). -/
def execCallStorage (p : PkgId) (q : Fin 256) (entry : Bytes) (t : Nat) (s : State) : Host.Outcome State Fault Refusal :=
  .next (s.updPkg p (fun k => (k.at t).fetchOp q entry [] (fieldAt entry 0 1 == 6)))

/-! ### Results (Table 13-6) -/

/-- Insertion of parts by target. -/
def lowestFailing (parts : List CallPart) : Option CallPart :=
  (parts.filter (fun x => match x.result with
    | some (st, _) => !statusOk st
    | none => false)).foldl (fun acc x => match acc with
      | none => some x
      | some y => if x.target < y.target then some x else acc) none

/-- The completion of a call all of whose parts have results. -/
def callResult (c : HostCall) : Option (Status × Nat) :=
  if c.parts.isEmpty || c.parts.any (fun x => x.result.isNone) then none
  else
    let rs := c.parts.map (fun x => x.result.getD (0, 0))
    let all := fieldAt c.entry 16 4 == 2 ^ 31
    match fieldAt c.entry 0 1 with
    | 3 => (match ((List.range rs.length).zip rs).find? (fun r => !statusOk r.2.1) with
      | some (i, st, _) => some (st, i)
      | none => some (0, 0))
    | 4 => if all then (match lowestFailing c.parts with
        | some x => some ((x.result.getD (0, 0)).1, x.target)
        | none => some (0, 0)) else rs.head?.map (fun r => (r.1, 0))
    | 6 => if all then (match lowestFailing c.parts with
        | some x => some ((x.result.getD (0, 0)).1, x.target)
        | none => some (0, 0)) else rs.head?
    | _ => rs.head?

/-- Decide the calls whose parts are all in. -/
def Pkg.decideCalls (k : Pkg) : Pkg :=
  { k with host := { k.host with calls := k.host.calls.map (fun c =>
      if c.result.isSome ∨ c.dupOf.isSome then c else { c with result := callResult c }) } }

/-- A packet of a call was acknowledged or failed (R609, R610). -/
def Pkg.callAcked (k : Pkg) (num i : Nat) (st : Status) : Pkg :=
  match k.call num with
  | none => k
  | some c =>
    let op := fieldAt c.entry 0 1
    let set (f : CallPart → CallPart) : Pkg := k.updCall num (fun c => { c with parts := ((List.range c.parts.length).zip c.parts).map (fun p =>
      if p.1 = i then f p.2 else p.2) })
    if statusOk st then
      if op = 4 then set (fun x => { x with result := x.result.orElse (fun _ => some (st, 0)) })
      else set (fun x => { x with started := true })
    else set (fun x => { x with result := x.result.orElse (fun _ => some (st, 0)) })

/-- Settle the finished sequences of calls. -/
def Pkg.settleHost (k : Pkg) : Pkg :=
  let mine := k.fab.done.filter (fun d => match d.1 with | .call .. => true | _ => false)
  let k := { k with fab := { k.fab with done := k.fab.done.filter (fun d => match d.1 with | .call .. => false | _ => true) } }
  mine.foldl (fun k d => match d.1 with
    | .call n i => k.callAcked n i d.2.1
    | _ => k) k

/-- PLAY_DONE (R609): the captain's oldest open play of that package and core ends with the play's status and result; one of a
call that has timed out is discarded (R604). -/
def Pkg.playDone (k : Pkg) (src core result : Nat) (st : Status) : Pkg :=
  if k.host.ghosts.contains (src, core) then { k with host := { k.host with ghosts := k.host.ghosts.erase (src, core) } }
  else
    let open_ (c : HostCall) : Bool := (fieldAt c.entry 0 1 == 2 || fieldAt c.entry 0 1 == 3)
      && c.parts.any (fun x => x.target == src && x.core == core && x.result.isNone)
    match k.host.calls.find? open_ with
    | none => k
    | some c => k.updCall c.num (fun c =>
        let i := c.parts.findIdx (fun x => x.target == src && x.core == core && x.result.isNone)
        { c with parts := ((List.range c.parts.length).zip c.parts).map (fun p => if p.1 = i then { p.2 with result := some (st, result) } else p.2) })

/-- PLAY_DONE. -/
def execPlayDone (p : PkgId) (pkt : Packet) (t : Nat) (s : State) : Host.Outcome State Fault Refusal :=
  .next (s.updPkg p (fun k => (k.at t).sequenced pkt (fun k =>
    (k.playDone pkt.src (fieldAt pkt.body 14 1) (fieldAt pkt.body 8 4) (fieldAt pkt.body 12 2), 0, none))))

/-- FANOUT_DONE (R610): the captain records a part's status. -/
def execFanoutDone (p : PkgId) (pkt : Packet) (t : Nat) (s : State) : Host.Outcome State Fault Refusal :=
  .next (s.updPkg p (fun k => (k.at t).sequenced pkt (fun k =>
    (k.partDone (fieldAt pkt.body 4 4 / 2) pkt.src (fieldAt pkt.body 32 2) (fieldAt pkt.body 24 4), 0, none))))

/-! ### Completion (R595, R596, R604, R612–R615) -/

/-- Write the completion of a decided call: its record takes the completion, and duplicates that waited get theirs. -/
def Pkg.completeCall (k : Pkg) (c : HostCall) (st : Status) (info : Nat) : Pkg :=
  let cq := k.getF (F.HIF_SQ_CQ c.sq)
  let irq := bit (fieldAt c.entry 1 1) 0
  let orig := if c.dupOf.isSome then c.orig else st
  let k := k.cqWrite cq (cqEntry (fieldAt c.entry 4 4) st orig info (k.getF (F.HIF_SQ_HEAD c.sq)) c.sq 0) irq
  let k := k.inc (F.HIF_COUNTS 1)
  let dup (x : HostCall) : HostCall :=
    if c.dupOf.isNone ∧ x.dupOf = some c.num ∧ x.result.isNone = true then { x with result := some (0x9601, info), orig := st } else x
  let note (r : ReplayRec) : ReplayRec := if c.dupOf.isNone ∧ r.num = c.num then { r with done := some (st, info) } else r
  let rest : List HostCall := k.host.calls.filter (fun x => x.num != c.num)
  let k := { k with host := { k.host with calls := rest.map dup, replay := k.host.replay.map note } }
  (k.showRunning c.sq).startReady c.sq 4096

/-- CALL_COMPLETE (R595, R596). -/
def execCallComplete (p : PkgId) (num t : Nat) (s : State) : Host.Outcome State Fault Refusal :=
  .next (s.updPkg p (fun k =>
    let k := (k.at t).settleHost.decideCalls
    match k.call num with
    | none => k
    | some c => match c.result with
      | none => k
      | some (st, info) =>
        let cq := k.getF (F.HIF_SQ_CQ c.sq)
        if !k.flag (F.HIF_CQ_EN cq) then k
        else if k.cqFull cq then k.raise F.HIF_EV_CQ_FULL
        else k.completeCall c st info))

/-- HOST_CALL_TIMEOUT (R604): a PLAY, STEP, COPY or STORAGE call; the plays it started run on and their results are dropped. -/
def execHostCallTimeout (p : PkgId) (num t : Nat) (s : State) : Host.Outcome State Fault Refusal :=
  .next (s.updPkg p (fun k =>
    let k := (k.at t).settleHost.decideCalls
    match k.call num with
    | none => k
    | some c =>
      let op := fieldAt c.entry 0 1
      if c.result.isSome ∨ c.dupOf.isSome ∨ k.now < c.deadline ∨ op = 1 ∨ op = 4 then k
      else
        let k := { k with host := { k.host with ghosts := k.host.ghosts ++ c.openPlays } }
        (k.inc (F.HIF_COUNTS 4)).updCall num (fun x => { x with started := true, result := some (0x6601, 0), parts := [] })))

/-! ### Acknowledgements (R469, R471, R482, R513, R772) -/

/-- Settle every finished sequence. -/
def Pkg.settleAll (k : Pkg) : Pkg :=
  let k := ((((k.settleCmds).settleMoe).settleCalls 8).settleHost).decideCalls
  { k with fab := { k.fab with done := k.fab.done.filter (fun d => d.1 != .none) } }

/-- ACK (R482): it completes its sequences; CE_ECHO marks the destination; a RETRYABLE status (STAGE_FULL, SUBSTITUTING) counts
as no acknowledgement (R513, R772). An answer to a READ_REQ names its tag (log entry 10). -/
def Pkg.acknowledge (k : Pkg) (p : Packet) : Pkg :=
  let seq := fieldAt p.body 0 4
  let count := fieldAt p.body 4 2
  let st := fieldAt p.body 6 2
  let stream := fieldAt p.body 12 2
  let slot := bits stream 13 12
  let sid := bits stream 11 0
  let data := fieldAt p.body 16 16
  let k := if bit (fieldAt p.body 8 1) 0 then { k with fab := k.fab.markThrottle p.src } else k
  if statusClass st = 1 then k
  else if 2 ^ 31 ≤ seq ∧ (k.fab.unackedAt p.src slot sid seq).isNone = true then (k.readFailed p.src seq st).settleAll
  else
    let fab := (List.range (max 1 count)).foldl (fun (f : Fabric) i => f.complete p.src slot sid ((seq + i) % 2 ^ 32) st data) k.fab
    (({ k with fab := fab } : Pkg).settleAll).releaseHeld

/-- ACK. -/
def execAck (p : PkgId) (pkt : Packet) (t : Nat) (s : State) : Host.Outcome State Fault Refusal :=
  .next (s.updPkg p (fun k =>
    let (k, ok) := (k.at t).screen pkt
    if ok then k.acknowledge pkt else k))

/-- RESEND_TIMEOUT (R480): no acknowledgement 100,000 ticks after the latest sending; an open request waits for its budget
(R471). -/
def execResendTimeout (p : PkgId) (dst : Nat) (slot : SlotId) (sid seq t : Nat) (s : State) :
    Host.Outcome State Fault Refusal :=
  .next (s.updPkg p (fun k =>
    let k := k.at t
    match k.fab.unackedAt dst slot sid seq with
    | some u =>
      if u.sentAt + k.getF F.FAB_RESEND ≤ k.now ∧ (u.sched = true ∨ k.fab.mayInject u.pkt.dst = true) then (k.resend u).settleAll else k
    | none => k))

/-- DELIVERY_GIVE_UP (R481): Hall Time passes `PK_BORN` + 4,002,048 without an acknowledgement. -/
def execDeliveryGiveUp (p : PkgId) (dst : Nat) (slot : SlotId) (sid seq t : Nat) (s : State) :
    Host.Outcome State Fault Refusal :=
  .next (s.updPkg p (fun k =>
    let k := k.at t
    match k.fab.unackedAt dst slot sid seq with
    | some u =>
      if k.getF F.FAB_LIFETIME + 2048 < (2 ^ 32 + k.now - u.pkt.born) % 2 ^ 32 then
        let k := { k with fab := { k.fab with
          unacked := k.fab.unacked.erase u
          done := k.fab.done ++ [(u.owner, 0x6301, 0)] } }
        (((k.inc (F.FAB_COUNTS 5)).raise F.FAB_EV_TIMEOUT).settleAll).releaseHeld
      else k
    | none => k))

end Sys2Proof.Machine
end

