-- ==== Sys2Proof/Machine/Plans.lean ====
section
/-! DEFINITION. HOST_STEP: step reports, plan requests, plans and their sections (08_routing.md R361–R373). -/

namespace Sys2Proof.Machine

/-- The plan ID of a step: layer in bits 31:24, step in bits 23:0 (R365). -/
def planId (layer step : Nat) : Nat := layer * 2 ^ 24 + step % 2 ^ 24

/-- Layer of a plan ID. -/
def planLayer (id : Nat) : Nat := id / 2 ^ 24 % 256

/-- Undecided steps of a slot. -/
def Moe.pendingPlans (m : Moe) (slot : Nat) : List PlanRequest := m.requests.filter (fun r => r.slot == slot)

/-- The undecided step of a plan ID. -/
def Moe.request (m : Moe) (slot id : Nat) : Option PlanRequest := m.requests.find? (fun r => r.slot == slot && r.id == id)

/-- The step is decided: its request and its reports are dropped. -/
def Pkg.dropStep (k : Pkg) (slot id : Nat) : Pkg :=
  { k with moe := { k.moe with
      requests := k.moe.requests.filter (fun r => !(r.slot == slot && r.id == id))
      reports := k.moe.reports.filter (fun r => !(r.slot == slot && r.kind == 1 && planId r.layer r.when_ == id)) } }

/-- Send a decision to one package; the layout of its packets is not given (log entry 13). -/
def Pkg.sendDecision (k : Pkg) (slot q : Nat) : Pkg := (k.sendHub 0x4D slot q (k.freeBytes 36) (.moe slot 0 q)).draw

/-- FALLBACK (R370, R371): the captain tells every package and remembers the step. -/
def Pkg.fallback (k : Pkg) (slot id : Nat) : Pkg :=
  let k := (k.partPackages slot).foldl (fun k q => k.sendDecision slot q) (k.dropStep slot id)
  { k with moe := { k.moe with fallen := (slot, id) :: k.moe.fallen } }

/-- The bytes of a plan request (Table 8-12). -/
def Pkg.planRequest (k : Pkg) (slot layer id deadline : Nat) (counts : List Nat) : Bytes :=
  let y := layerIx slot layer
  leBytes 4 0x51455250 ++ leBytes 4 id ++ leBytes 4 (64 + 4 * counts.length) ++ leBytes 2 counts.length
    ++ leBytes 2 (k.getF (F.MOE_C_RES y)) ++ leBytes 4 (k.partPackages slot).length ++ leBytes 4 (k.getF (F.MOE_GEN slot))
    ++ leBytes 8 deadline ++ leBytes 8 counts.sum ++ leBytes 24 0 ++ counts.flatMap (leBytes 4)

/-- PLAN_REQUEST (R363, R364): with every package's report, write the request and signal the host. -/
def Pkg.tryRequest (k : Pkg) (slot layer step : Nat) (r : PlanRequest) : Pkg :=
  let y := layerIx slot layer
  if r.written then k
  else match k.sumReports slot 1 layer step (k.getF (F.MOE_EXPERTS y)) with
    | none => k
    | some counts =>
      match k.vwrite slot .hub (k.getF (F.MOE_VA y 2) * 64) (k.planRequest slot layer r.id r.deadline counts) with
      | (k, some _) => k
      | (k, none) =>
        let k := { k with moe := { k.moe with requests := k.moe.requests.map (fun (q : PlanRequest) =>
          if q.slot = slot ∧ q.id = r.id then { q with written := true } else q) } }
        k.postEvent slot 1 r.id

/-- ROUTE_COUNTS_STEP (R363, R373): the first report of a step starts its deadline, or decides FALLBACK at once while eight
requests are pending; a report of a decided step is discarded. -/
def Pkg.stepReport (k : Pkg) (r : CountReport) : Pkg :=
  let id := planId r.layer r.when_
  if !k.isCaptain r.slot ∨ k.moe.fallen.contains (r.slot, id) = true then k
  else match k.moe.request r.slot id with
    | some q => (k.keepReport r).tryRequest r.slot r.layer r.when_ q
    | none =>
      if 8 ≤ (k.moe.pendingPlans r.slot).length then k.fallback r.slot id
      else
        let q : PlanRequest := { slot := r.slot, id := id, deadline := k.now + k.getF (F.MOE_DEADLINE r.slot), written := false, plan := none }
        let k := { k with moe := { k.moe with requests := k.moe.requests ++ [q] } }
        (k.keepReport r).tryRequest r.slot r.layer r.when_ q

/-- ROUTE_COUNTS_STEP. -/
def execRouteCountsStep (p : PkgId) (pkt : Packet) (t : Nat) (s : State) : Host.Outcome State Fault Refusal :=
  .next (s.updPkg p (fun k => (k.at t).sequenced pkt (fun k =>
    let r := countReport pkt
    (if r.kind = 1 then k.stepReport r else k, 0, none))))

/-! ### Plans (R365–R371) -/

/-- The slot list of a section. -/
def sectionSlots (b : Bytes) : List Bytes :=
  (List.range (fieldAt b 20 4)).map (fun i => (b.drop (fieldAt b 16 4 + 8 * i)).take 8)

/-- SLOTSHARE gives scheduled slot `j` of a port of a rack to a partition slot (R656, R657). -/
def Pkg.shareOwns (k : Pkg) (rack slot port j : Nat) : Bool :=
  match k.lup.active.bind (fun l => (l.racks.find? (fun r => r.id == rack)).bind (fun r => l.shares[r.share]?)) with
  | none => false
  | some ports => match ports[port]? with
    | none => false
    | some q => q.owner[j]? == some slot

/-- A slot entry that breaks its form or names a slot the partition does not own. -/
def Pkg.badPlanSlot (k : Pkg) (rack slot : Nat) (e : Bytes) : Bool :=
  fieldAt e 1 1 != 0 || fieldAt e 6 2 != 0 || decide (19 < fieldAt e 0 1) || decide (1023 < fieldAt e 4 2)
    || !k.shareOwns rack slot (fieldAt e 0 1) (fieldAt e 2 2 % 16)

/-- A section that breaks Table 8-8. -/
def Pkg.badSection (k : Pkg) (rack slot id : Nat) (b : Bytes) : Bool :=
  fieldAt b 0 4 != 0x54434553 || fieldAt b 4 4 != id || decide (b.length < 32) || fieldAt b 24 8 != 0
    || fieldAt b 12 4 % 32 != 0 || decide (b.length < fieldAt b 8 4 + fieldAt b 12 4)
    || decide (b.length < fieldAt b 16 4 + 8 * fieldAt b 20 4)
    || (sectionSlots b).any (k.badPlanSlot rack slot)

/-- The sections of a plan image by package, when every condition of R366 holds. -/
def Pkg.checkPlan (k : Pkg) (slot id : Nat) (b : Bytes) : Option (List (Nat × Bytes)) :=
  let n := fieldAt b 12 2
  let pkgs := k.partPackages slot
  let cap := k.getF (F.MOE_SECTION_KIB (layerIx slot (planLayer id))) * 1024
  let recs := (List.range n).map (fun i => (b.drop (64 + 16 * i)).take 16)
  let secs := recs.map (fun r => (fieldAt r 0 2 * 128 + fieldAt r 2 1, (b.drop (fieldAt r 4 4)).take (fieldAt r 8 4)))
  if fieldAt b 0 4 != 0x4E414C50 || fieldAt b 4 4 != id || fieldAt b 8 4 != b.length || n != pkgs.length
      || decide (b.length < 64 + 16 * n) || (b.drop 14 |>.take 50).any (fun x => x != 0)
      || recs.any (fun r => fieldAt r 3 1 != 0 || fieldAt r 12 4 != 0 || fieldAt r 4 4 % 64 != 0 || decide (71 < fieldAt r 2 1)
          || decide (b.length < fieldAt r 4 4 + fieldAt r 8 4) || decide (cap < fieldAt r 8 4))
      || !pkgs.all (fun q => (secs.filter (fun x => x.1 == q)).length == 1)
      || secs.any (fun x => k.badSection (x.1 / 128) slot id x.2)
  then none else some secs

/-- Note the status of the last plan submitted. -/
def Pkg.planStatus (k : Pkg) (slot id : Nat) (st : Status) : Pkg :=
  (k.setF (F.MOE_PS_ID slot) id).report (F.MOE_PS_STATUS slot) st .slot slot id

/-- PLAN_GO (R365–R371): a plan for a step decided FALLBACK is late; one with no request written is unknown; a plan that
passes is kept for the sending of its sections. -/
def Pkg.submitPlan (k : Pkg) (slot id len : Nat) : Pkg :=
  let k := match k.moe.request slot id with
    | some r => if r.deadline ≤ k.now ∧ r.plan = none then k.fallback slot id else k
    | none => k
  if k.moe.fallen.contains (slot, id) then (k.planStatus slot id 0x6501).raise F.MOE_PLAN_LATE
  else match k.moe.request slot id with
    | none => k.planStatus slot id 0x3503
    | some r =>
      if !r.written ∨ r.plan ≠ none then k.planStatus slot id 0x3503
      else
        let (k, b, bad) := k.hubRead slot (k.getF (F.MOE_PLAN_ADDR slot) * 64) len
        match bad, k.checkPlan slot id b with
        | none, some secs =>
          let k := { k with moe := { k.moe with requests := k.moe.requests.map (fun (q : PlanRequest) =>
            if q.slot = slot ∧ q.id = id then { q with plan := some secs } else q) } }
          k.planStatus slot id 0
        | _, _ => (k.planStatus slot id 0x3502).raise F.MOE_PLAN_MALFORMED

/-- PLAN_GO. -/
def execPlanGo (p : PkgId) (src : CsrSource) (slot : SlotId) (id len t : Nat) (s : State) : Host.Outcome State Fault Refusal :=
  .next (s.updPkg p (fun k => (k.at t).viaPart src slot (0x500308 + 0x40 * slot.val) .p (fun k =>
    k.submitPlan slot (id % 2 ^ 32) (len % 2 ^ 32))))

/-- PLAN_DEADLINE (R369): send the accepted plan's sections; without a plan, decide FALLBACK once the deadline has come. -/
def execPlanDeadline (p : PkgId) (slot : SlotId) (id t : Nat) (s : State) : Host.Outcome State Fault Refusal :=
  .next (s.updPkg p (fun k =>
    let k := k.at t
    match k.moe.request slot id with
    | none => k
    | some r => match r.plan with
      | some secs => secs.foldl (fun k x => k.sendDecision slot x.1) (k.dropStep slot id)
      | none => if r.deadline ≤ k.now then k.fallback slot id else k))

/-- PLAN_SECTION_RECEIVE (R370, R372): write the section, or a copy of the RESERVED image, to the plan address, hand the slot
list to the fabric engine and add 1 to the plan semaphore. -/
def Pkg.takeSection (k : Pkg) (slot id : Nat) (section_ : Option Bytes) : Pkg × Status :=
  let y := layerIx slot (planLayer id)
  let (k, bytes, bad) := match section_ with
    | some b => (k, b, none)
    | none => k.hubRead slot (k.getF (F.MOE_VA y 1) * 64) (k.getF (F.MOE_SECTION_KIB y) * 1024)
  match bad with
  | some b => (k, b.status)
  | none =>
    match k.vwrite slot .hub (k.getF (F.MOE_VA y 0) * 64) bytes with
    | (k, some b) => (k, b.status)
    | (k, none) =>
      let tb := k.tables slot
      let entries := (sectionSlots bytes).map readTmpl
      let k := k.setTables slot { tb with plans := (planLayer id, entries) :: tb.plans.filter (fun x => x.1 != planLayer id) }
      let k := if section_.isSome then k.inc (F.MOE_STATS slot 0) else (k.inc (F.MOE_STATS slot 1)).raise F.MOE_FALLBACK
      (k.semAdd slot (k.getF (F.MOE_PLAN_SEM y)) 1, 0)

/-- PLAN_SECTION_RECEIVE. -/
def execPlanSectionReceive (p : PkgId) (pkt : Packet) (id : Nat) (section_ : Option Bytes) (t : Nat) (s : State) :
    Host.Outcome State Fault Refusal :=
  .next (s.updPkg p (fun k => (k.at t).sequenced pkt (fun k =>
    let (k, st) := k.takeSection pkt.slot id section_
    (k, st, none))))

end Sys2Proof.Machine
end

