-- ==== Sys2Proof/Machine/Flash.lean ====
section
/-! DEFINITION. The boot flash: regions (R914), boot control records (R915), map records (R781, R782), image headers and
signature blocks (R900–R910, R644, R645). -/

namespace Sys2Proof.Machine

/-- An erased byte. -/
def erased (_ : Nat) : BitVec 8 := 0xFF

/-- Read flash. -/
def Pkg.flashRead (k : Pkg) (a n : Nat) : Bytes := (List.range n).map (fun i => Sparse.get erased k.flash (a + i))

/-- Program flash bytes. -/
def Pkg.flashWrite (k : Pkg) (a : Nat) (bs : Bytes) : Pkg :=
  { k with flash := (bs.zip (List.range bs.length)).foldl (fun m p => Sparse.set erased m (a + p.2) p.1) k.flash }

/-- Erase `n` bytes from `a` on. -/
def Pkg.flashErase (k : Pkg) (a n : Nat) : Pkg :=
  { k with flash := Sparse.keep k.flash (fun x => decide (x < a) || decide (a + n ≤ x)) }

/-- Base and size of a class's region (1 HUB_BOOT, 2 HUB_RUNTIME, 3 MICROCODE, 4 LINEUP) in slot A (0) or B (1). -/
def flashRegion (cls slot : Nat) : Nat × Nat :=
  let a := match cls with
    | 1 => (0x0500000, 0x200000)
    | 2 => (0x0700000, 0x800000)
    | 3 => (0x0F00000, 0x100000)
    | _ => (0x1000000, 0x1000000)
  (a.1 + slot * 0x1B00000, a.2)

/-- The settings region of a slot. -/
def settingsBase (slot : Nat) : Nat := 0x100000 + slot * 0x200000

/-- Erase a slot with its settings region (R921). -/
def Pkg.eraseSlot (k : Pkg) (slot : Nat) : Pkg :=
  (k.flashErase (settingsBase slot) 0x200000).flashErase (flashRegion 1 slot).1 0x1B00000

/-- A sequence number is later than another modulo 2³² (R782). -/
def serialLater (a b : Nat) : Bool := decide (0 < (2 ^ 32 + a - b) % 2 ^ 32) && decide ((2 ^ 32 + a - b) % 2 ^ 32 < 2 ^ 31)

/-- Of two copies, the one in use: the valid one, or of two the later by sequence number (R782): its index. -/
def copyInUse (valid : Bytes → Bool) (seq : Bytes → Nat) (a b : Bytes) : Option Nat :=
  match valid a, valid b with
  | true, true => if serialLater (seq b) (seq a) then some 1 else some 0
  | true, false => some 0
  | false, true => some 1
  | false, false => none

/-! ### The boot control record (Table 21-8) -/

/-- Is a boot control record valid. -/
def bcValid (b : Bytes) : Bool :=
  fieldAt b 0 4 == 0x52435442 && fieldAt b 4 1 == 1 && decide (fieldAt b 5 1 < 2) && decide (fieldAt b 6 1 < 4)
    && fieldAt b 12 4 == 0 && fieldAt b 40 20 == 0 && fieldAt b 60 4 == crc32c (b.take 60)

/-- The boot control record in use and its copy. -/
def Pkg.bootRecord (k : Pkg) : Option (Nat × Bytes) :=
  let a := k.flashRead 0 64
  let b := k.flashRead 0x10000 64
  (copyInUse bcValid (fun r => fieldAt r 8 4) a b).map (fun i => (i, if i = 0 then a else b))

/-- The fields of a boot control record. -/
structure BootRec where
  active : Nat := 0
  state : Nat := 0
  wdog : Nat := 0
  seq : Nat := 0
  roster : Nat := 0
  actHt : Nat := 0
  windowEnd : Nat := 0
  deriving DecidableEq, Repr

/-- Read a record's fields. -/
def BootRec.parse (b : Bytes) : BootRec :=
  { active := fieldAt b 5 1, state := fieldAt b 6 1, wdog := fieldAt b 7 1, seq := fieldAt b 8 4, roster := fieldAt b 16 8
    actHt := fieldAt b 24 8, windowEnd := fieldAt b 32 8 }

/-- The bytes of a record. -/
def BootRec.bytes (r : BootRec) : Bytes :=
  let b := leBytes 4 0x52435442 ++ leBytes 1 1 ++ leBytes 1 r.active ++ leBytes 1 r.state ++ leBytes 1 r.wdog ++ leBytes 4 r.seq
    ++ leBytes 4 0 ++ leBytes 8 r.roster ++ leBytes 8 r.actHt ++ leBytes 8 r.windowEnd ++ leBytes 20 0
  b ++ leBytes 4 (crc32c b)

/-- The record in use, or defaults where none is valid. -/
def Pkg.bc (k : Pkg) : BootRec := (k.bootRecord.map (fun r => BootRec.parse r.2)).getD {}

/-- Show the record in the BOOT registers; `trial` says that the package runs from the trial slot. -/
def Pkg.showBoot (k : Pkg) (trial : Bool) : Pkg :=
  let r := k.bc
  let k := k.setF F.BC_STATE r.state
  let k := k.setF F.BC_ACTIVE r.active
  let k := k.setF F.BC_WDOG r.wdog
  let k := k.setF F.BOOT_IN_TRIAL (if trial then 1 else 0)
  let k := k.setF F.BOOT_ROSTER r.roster
  k.setF F.BOOT_WINDOW (if r.state = 1 then r.actHt else r.windowEnd)

/-- Write a changed record over the copy not in use (R914, R915). -/
def Pkg.writeBoot (k : Pkg) (f : BootRec → BootRec) : Pkg :=
  let old := k.bc
  let copy := match k.bootRecord with
    | some (i, _) => 1 - i
    | none => 0
  let r := { f old with seq := (old.seq + 1) % 2 ^ 32 }
  ((k.flashErase (copy * 0x10000) 0x10000).flashWrite (copy * 0x10000) r.bytes).showBoot (k.flag F.BOOT_IN_TRIAL)

/-- The slot the boot set and the lineup are read from (R916). -/
def BootRec.source (r : BootRec) : Nat := if r.state = 2 then 1 - r.active else r.active

/-! ### Map records (Tables 17-3, 17-4) -/

/-- The entry of a physical core. -/
def mapCore (b : Bytes) (c : Nat) : Nat := fieldAt b (32 + 2 * c) 2
/-- Its reason. -/
def mcReason (e : Nat) : Nat := bits e 10 8
/-- Its role: 0 SPARE, 1 ACTIVE, 2 RETIRED. -/
def mcRole (e : Nat) : Nat := bits e 7 6
/-- Its logical number in the cluster. -/
def mcLogical (e : Nat) : Nat := bits e 3 0

/-- R760: no logical number of a cluster is bound twice, and every number lies below the policy's count. -/
def mapEntriesOk (b : Bytes) : Bool :=
  let n := 16 - fieldAt b 5 1
  (List.range 4).all (fun c =>
    let act := (List.range 16).filter (fun i => mcRole (mapCore b (16 * c + i)) == 1)
    act.all (fun i => decide (mcLogical (mapCore b (16 * c + i)) < n)
      && (act.filter (fun j => mcLogical (mapCore b (16 * c + j)) == mcLogical (mapCore b (16 * c + i)))).length == 1))

/-- Is a map record valid (R782). -/
def mapValid (b : Bytes) : Bool :=
  fieldAt b 0 4 == 0x50414D4C && fieldAt b 4 1 == 1 && (fieldAt b 5 1 == 1 || fieldAt b 5 1 == 2) && fieldAt b 6 2 == 0
    && fieldAt b 12 4 == 0 && fieldAt b 24 8 == 0 && fieldAt b 168 84 == 0 && fieldAt b 252 4 == crc32c (b.take 252)
    && (List.range 64).all (fun c =>
      let e := mapCore b c
      decide (e < 2048) && bits e 5 4 == 0 && mcRole e != 3 && (mcRole e == 2 || mcReason e == 0) && (mcRole e == 1 || mcLogical e == 0))
    && mapEntriesOk b

/-- The map record in use and its copy. -/
def Pkg.mapRecord (k : Pkg) : Option (Nat × Bytes) :=
  let a := k.flashRead 0x20000 256
  let b := k.flashRead 0x30000 256
  (copyInUse mapValid (fun r => fieldAt r 8 4) a b).map (fun i => (i, if i = 0 then a else b))

/-- The record in use keeps a physical core as RETIRED. -/
def Pkg.recordedRetired (k : Pkg) (c : Nat) : Bool := match k.mapRecord with
  | some (_, b) => mcRole (mapCore b c) == 2
  | none => false

/-! ### Signatures (R644, R645, R901–R908) -/

/-- Sign-block pairs: slot, ECDSA signature, ML-DSA signature. -/
def sigPairs (b : Bytes) : List (Nat × Bytes × Bytes) :=
  (List.range (fieldAt b 4 1)).map (fun j =>
    let o := 16 + 4728 * j
    (fieldAt b o 1, (b.drop (o + 4)).take 96, (b.drop (o + 100)).take 4627))

/-- The layout of a signature block is right (Table 14-3, R645). -/
def sigLayout (b : Bytes) : Bool :=
  let n := fieldAt b 4 1
  fieldAt b 0 4 == 0x53474953 && (n == 1 || n == 2) && b.length == 16 + 4728 * n && fieldAt b 5 11 == 0
    && (List.range n).all (fun j =>
      let o := 16 + 4728 * j
      decide (fieldAt b o 1 < 4) && fieldAt b (o + 1) 3 == 0 && fieldAt b (o + 4727) 1 == 0)

/-- State of a key slot (Table 21-5): 0 ACTIVE, 1 RETIRED, 3 REVOKED. -/
def keyState (keys slot : Nat) : Nat := bits keys (2 * slot + 1) (2 * slot)

/-- The signature rule (R907, R908) for a message with its context string. -/
def sigAccepted (keys : Nat) (context msg block : Bytes) : Bool :=
  let ps := sigPairs block
  sigLayout block
    && ps.all (fun p => Config.ecdsaVerifies p.1 (sha384 msg) p.2.1 && Config.mldsaVerifies p.1 context msg p.2.2)
    && ps.all (fun p => (ps.filter (fun q => q.1 == p.1)).length == 1)
    && ps.all (fun p => keyState keys p.1 != 3)
    && ps.any (fun p => keyState keys p.1 == 0)

/-- ASCII bytes of a context string. -/
def ascii (s : List Nat) : Bytes := s.map (BitVec.ofNat 8)

/-- TLK-LINEUP. -/
def lineupContext : Bytes := ascii [84, 76, 75, 45, 76, 73, 78, 69, 85, 80]
/-- TLK-IMAGE. -/
def imageContext : Bytes := ascii [84, 76, 75, 45, 73, 77, 65, 71, 69]
/-- TLK-ROSTER. -/
def rosterContext : Bytes := ascii [84, 76, 75, 45, 82, 79, 83, 84, 69, 82]

/-! ### Images (R900, R901, R910, R912) -/

/-- Largest image of a class (Table 21-1). -/
def classLimit (cls : Nat) : Nat := [0, 2, 8, 1, 16, 32, 64, 4, 4].getD cls 0 * 1048576

/-- The image stored at a flash region: as long as its header says, no longer than the region; only the header where the magic
is wrong. -/
def Pkg.storedImage (k : Pkg) (cls slot : Nat) : Bytes :=
  let r := flashRegion cls slot
  let h := k.flashRead r.1 256
  let magic := if cls = 4 then 0x4C4E5550 else 0x474D4954
  if fieldAt h 0 4 = magic then k.flashRead r.1 (max 256 (min r.2 (fieldAt h 16 4))) else h

/-- The check of an image that is no lineup: the first failing status, 0 when it passes. -/
def imageCheck (cls keys floor : Nat) (b : Bytes) : Status :=
  let sig := fieldAt b 20 4
  if fieldAt b 0 4 ≠ 0x474D4954 ∨ fieldAt b 4 1 ≠ cls ∨ fieldAt b 5 1 ≠ 1 ∨ fieldAt b 16 4 ≠ b.length ∨ classLimit cls < b.length
      ∨ sig % 8 ≠ 0 ∨ sig < 256 ∨ b.length < sig ∨ fieldAt b 72 184 ≠ 0 ∨ (cls ≤ 4 ∧ 128 < fieldAt b 6 2) then 0x3803
  else if sha384 ((b.take sig).drop 256) ≠ (b.drop 24).take 48 then 0x5802
  else if !sigAccepted keys imageContext (b.take 256) (b.drop sig) then 0x5805
  else if fieldAt b 6 2 < floor then 0x3804
  else 0

/-- The fuse floor of a class 1–4 (R909). -/
def Pkg.fuseFloor (k : Pkg) (cls : Nat) : Nat :=
  match cls with
  | 1 => k.getF F.BOOT_FLOOR0
  | 2 => k.getF F.BOOT_FLOOR1
  | 3 => k.getF F.BOOT_FLOOR2
  | _ => k.getF F.BOOT_FLOOR3

end Sys2Proof.Machine
end

