-- ==== Sys2Proof/Machine/LineupImage.lean ====
section
/-! DEFINITION. The lineup image: layout, checks in order, and its fields (14_lineup.md R637–R669). -/

namespace Sys2Proof.Machine

/-- A section: tag, flags, body, and the image offsets of its frame and body. -/
structure Section where
  tag : Nat
  flags : Nat
  body : Bytes
  frame : Nat
  at_ : Nat
  deriving DecidableEq, Repr

/-- The frames from an offset up to the signature block; `fuel` bounds them. The offset where they end, or fail to fit. -/
def sectionsFrom (img : Bytes) (sig : Nat) : Nat → Nat → List Section × Nat
  | 0, o => ([], o)
  | fuel + 1, o =>
    if sig < o + 8 then ([], o)
    else
      let b := img.drop o
      let n := fieldAt b 4 4
      if sig < o + 8 + n then ([], o)
      else
        let (r, e) := sectionsFrom img sig fuel (o + 8 + n)
        ({ tag := fieldAt b 0 2, flags := fieldAt b 2 2, body := (b.drop 8).take n, frame := o, at_ := o + 8 } :: r, e)

/-- The sections of an image and where they end. -/
def imageSections (img : Bytes) : List Section × Nat := sectionsFrom img (fieldAt img 24 4) 65 256

/-- A section by tag. -/
def findSection (ss : List Section) (tag : Nat) : Option Section := ss.find? (fun s => s.tag == tag)

/-- The body of a section, empty when it is absent. -/
def bodyOf (ss : List Section) (tag : Nat) : Bytes := ((findSection ss tag).map Section.body).getD []

/-- Mandatory sections (Table 14-2). -/
def mandatory : List Nat := [1, 2, 3, 4, 5, 6, 9]

/-- Boot-class sections (Table 14-2). -/
def bootClass (tag : Nat) : Bool := !(([7, 0x0A, 0x0B, 0x0D] : List Nat).contains tag)

/-- The body length fits Table 14-2; a body sized by partitions must hold whole entries here (R643 is a later check). -/
def lengthFits (ss : List Section) (s : Section) : Bool :=
  let n := s.body.length
  let whole (head size : Nat) : Bool := decide (head ≤ n) && (n - head) % size == 0
  match s.tag with
  | 1 => decide (8 ≤ n) && n == 8 + 64 * fieldAt s.body 0 4
  | 2 => decide (8 ≤ n) && n == 8 + 320 * fieldAt s.body 0 2
  | 3 => whole 8 8
  | 4 => n == 16
  | 5 => n == 576
  | 6 => decide (8 ≤ n) && n == 8 + 320 * fieldAt s.body 0 1
  | 7 => n == 16
  | 8 => whole 8 16
  | 9 => n == 32
  | 0x0A => whole 16 8
  | 0x0B => n == 16 + 144 * fieldAt (bodyOf ss 1) 0 4
  | 0x0C => n == 16
  | 0x0D => n == 32
  | 0x0E => n == 16
  | _ => whole 8 16

/-- SHA-384 of the frames and bodies of the boot-class sections, in image order (R639). -/
def structDigest (img : Bytes) (ss : List Section) : Bytes :=
  sha384 ((ss.filter (fun s => bootClass s.tag)).flatMap (fun s => (img.drop s.frame).take (8 + s.body.length)))

/-! ### Field ranges: step 7 -/

/-- One check of a field: whether it fails, and its offset in the body. -/
abbrev Check := Bool × Nat

/-- Value within a range. -/
def outside (lo hi v : Nat) : Bool := decide (v < lo) || decide (hi < v)

/-- An FP32 value that is not positive and finite. -/
def notPositive (v : Nat) : Bool := decide (2 ^ 31 ≤ v) || v == 0 || decide (0x7F800000 ≤ v)

/-- Entry offsets. -/
def entriesAt (head size len : Nat) : List Nat := (List.range ((len - head) / size)).map (fun i => head + size * i)

/-- Fields of IDENTITY (R646). -/
def checkIdentity (b : Bytes) : List Check :=
  [(outside 1 2048 (fieldAt b 0 4), 0), (fieldAt b 4 4 != 0, 4)] ++
    (entriesAt 8 64 b.length).flatMap (fun o => [(decide (2047 < fieldAt b (o + 8) 2), o + 8), (fieldAt b (o + 11) 5 != 0, o + 11)])

/-- Fields of PARTITIONS (R649). -/
def checkPartitions (b : Bytes) : List Check :=
  [(outside 1 8192 (fieldAt b 0 2), 0), (fieldAt b 2 6 != 0, 2)] ++
    (entriesAt 8 320 b.length).flatMap (fun o =>
      [(decide (3 < fieldAt b o 1), o), (outside 1 15 (fieldAt b (o + 1) 1), o + 1), (decide (1 < fieldAt b (o + 2) 1), o + 2),
       (fieldAt b (o + 3) 1 != 0, o + 3), (decide (2 ^ 18 ≤ fieldAt b (o + 4) 4) || decide (71 < fieldAt b (o + 4) 4 % 128), o + 4),
       (outside 1 384 (fieldAt b (o + 10) 2), o + 10), (fieldAt b (o + 12) 4 == 0, o + 12), (fieldAt b (o + 16) 48 != 0, o + 16)])

/-- Fields of COREMAP (R652). -/
def checkCoremap (b : Bytes) : List Check :=
  [(outside 1 2 (fieldAt b 0 1), 0), (decide (1 < fieldAt b 1 1), 1), (fieldAt b 2 6 != 0, 2)] ++
    (entriesAt 8 8 b.length).map (fun o => (fieldAt b (o + 2) 2 != 0, o + 2))

/-- Fields of STRANDS (R654, R382). -/
def checkStrands (b : Bytes) : List Check :=
  (List.range 8).map (fun s => (fieldAt b s 1 != stride s, s)) ++
    [(fieldAt b 8 1 == 0, 8), (fieldAt b 9 1 != 0, 9), (fieldAt b 10 6 != 0, 10)]

/-- Fields of SLOTSHARE (R656). -/
def checkShares (b : Bytes) : List Check :=
  [(outside 1 64 (fieldAt b 0 1), 0), (fieldAt b 1 7 != 0, 1)] ++
    (entriesAt 8 16 b.length).flatMap (fun o =>
      (List.range 9).map (fun j => (decide (3 < fieldAt b (o + j) 1) && fieldAt b (o + j) 1 != 0xFF, o + j)) ++
        [(fieldAt b (o + 9) 1 != 0, o + 9), (fieldAt b (o + 14) 2 != 0, o + 14)])

/-- Fields of COLLECTIVE (R658). -/
def checkCollective (b : Bytes) : List Check :=
  [(outside 64 1048576 (fieldAt b 0 4), 0), (decide (fieldAt b 4 4 < fieldAt b 0 4), 4), (decide (fieldAt b 8 4 < 2000), 8),
   (decide (64 < fieldAt b 12 1), 12), (fieldAt b 13 3 != 0, 13)]

/-- Fields of ROUTING (R659). -/
def checkRouting (b : Bytes) : List Check :=
  (fieldAt b 0 8 != 0, 0) :: (entriesAt 8 16 b.length).flatMap (fun o =>
    [(notPositive (fieldAt b o 4), o), (notPositive (fieldAt b (o + 4) 4), o + 4), (decide (fieldAt b (o + 8) 4 < 2000), o + 8),
     (fieldAt b (o + 12) 1 == 0, o + 12), (decide (3 < fieldAt b (o + 13) 1), o + 13), (fieldAt b (o + 14) 2 != 0, o + 14)])

/-- Fields of TIME (R660). -/
def checkTime (b : Bytes) : List Check :=
  let sync := toSigned 8 (fieldAt b 2 1)
  let cand := (List.range 4).map (fun i => fieldAt b (6 + i) 1)
  [(decide (2 < fieldAt b 0 1), 0), (decide (127 < fieldAt b 1 1) || (fieldAt b 0 1 != 2 && fieldAt b 1 1 != 0), 1),
   (decide (sync < -4) || decide (2 < sync), 2), (fieldAt b 3 1 != 0, 3), (decide (2047 < fieldAt b 4 2), 4),
   (!(List.range 4).all (fun i => cand.contains i), 6), (fieldAt b 10 2 != 0, 10), (decide (1999999999 < fieldAt b 12 4), 12),
   (outside 3600 604800 (fieldAt b 16 4), 16), (fieldAt b 20 12 != 0, 20)]

/-- Fields of POWER (R661). -/
def checkPower (b : Bytes) : List Check :=
  let cap := fieldAt b 0 2
  [(outside 900 2600 cap, 0), (outside 900 cap (fieldAt b 2 2), 2), (outside 1 180000 (fieldAt b 4 4), 4),
   (outside 50 300 (fieldAt b 8 2), 8), (outside 5 50 (fieldAt b 10 1), 10), (decide (3 < fieldAt b 11 1), 11), (fieldAt b 12 4 != 0, 12)] ++
    (entriesAt 16 8 b.length).flatMap (fun o =>
      [(fieldAt b o 2 != 0 && outside 900 cap (fieldAt b o 2), o), (fieldAt b (o + 2) 6 != 0, o + 2)])

/-- Fields of THERMAL (R662). -/
def checkThermal (b : Bytes) : List Check :=
  let target := fieldAt b 0 1
  [(outside 80 95 target, 0), (outside (target + 1) 100 (fieldAt b 1 1), 1), (fieldAt b 2 1 != 105, 2), (fieldAt b 3 1 != 115, 3),
   (decide (100 < fieldAt b 4 1), 4), (outside (fieldAt b 4 1 + 1) 100 (fieldAt b 5 1), 5),
   (outside (fieldAt b 5 1 + 1) 100 (fieldAt b 6 1), 6), (fieldAt b 7 9 != 0, 7)]

/-- Fields of MGMT (R663). -/
def checkMgmt (b : Bytes) : List Check :=
  [(decide (1 < fieldAt b 0 1), 0), (outside 2 60 (fieldAt b 1 1), 1), (outside 1 10 (fieldAt b 2 1), 2), (fieldAt b 3 1 != 0, 3),
   (outside 10 600 (fieldAt b 4 2), 4), (fieldAt b 6 10 != 0, 6)]

/-- Fields of RESET (R664). -/
def checkReset (b : Bytes) : List Check :=
  let d (i : Nat) : Nat := fieldAt b (4 * i) 4
  (List.range 4).map (fun i => (outside (if i = 0 then 2000 else max 2000 (d (i - 1))) 200000000 (d i), 4 * i)) ++
    [(decide (fieldAt b 16 4 < 2000), 16), (decide (1 < fieldAt b 20 1), 20), (fieldAt b 21 11 != 0, 21)]

/-- Fields of PINS (R665). -/
def checkPins (b : Bytes) : List Check :=
  let f (i : Nat) : Nat := fieldAt b (2 * i) 2
  (List.range 8).map (fun i => (decide (5 < f i) || (f i != 0 && (List.range i).any (fun j => f j == f i)), 2 * i))

/-- Fields of KVLAYOUT (R666, R284). -/
def checkKv (b : Bytes) : List Check :=
  (fieldAt b 0 8 != 0, 0) :: (entriesAt 8 16 b.length).flatMap (fun o =>
    [(fieldAt b o 8 % 2 ^ 49 != 0 || decide (2 ^ 56 - 2 ^ 49 < fieldAt b o 8), o), (fieldAt b (o + 8) 4 != 65536, o + 8),
     (fieldAt b (o + 12) 4 != 0, o + 12)])

/-- The field checks of a section. -/
def sectionChecks (s : Section) : List Check :=
  match s.tag with
  | 1 => checkIdentity s.body
  | 2 => checkPartitions s.body
  | 3 => checkCoremap s.body
  | 4 => checkStrands s.body
  | 5 => []
  | 6 => checkShares s.body
  | 7 => checkCollective s.body
  | 8 => checkRouting s.body
  | 9 => checkTime s.body
  | 0x0A => checkPower s.body
  | 0x0B => checkThermal s.body
  | 0x0C => checkMgmt s.body
  | 0x0D => checkReset s.body
  | 0x0E => checkPins s.body
  | _ => checkKv s.body

/-! ### Reading the sections -/

/-- A rack entry. -/
def readRack (b : Bytes) (o : Nat) : RackEntry :=
  { serial := fieldAt b o 8, id := fieldAt b (o + 8) 2, share := fieldAt b (o + 10) 1, mapDigest := (b.drop (o + 16)).take 48 }

/-- Partition entry `i` with its entries in the other sections; defaults of Table 14-2 where a section is absent. -/
def readPartEntry (ss : List Section) (i : Nat) : PartEntry :=
  let b := bodyOf ss 2
  let o := 8 + 320 * i
  let cm := bodyOf ss 3
  let rt := bodyOf ss 8
  let pw := bodyOf ss 0x0A
  let kv := bodyOf ss 0x0F
  let r := 8 + 16 * i
  let has := !rt.isEmpty
  { slot := fieldAt b o 1, clusters := fieldAt b (o + 1) 1, faultPolicy := fieldAt b (o + 2) 1
    captRack := fieldAt b (o + 4) 4 / 128, captPkg := fieldAt b (o + 4) 4 % 128, hbmBase := fieldAt b (o + 8) 2
    hbmLen := fieldAt b (o + 10) 2, id := fieldAt b (o + 12) 4, racks := fieldAt b (o + 64) 256
    minPkg := fieldAt cm (8 + 8 * i) 2, minTotal := fieldAt cm (12 + 8 * i) 4
    eta := if has then fieldAt rt r 4 else 0x3A800000, clamp := if has then fieldAt rt (r + 4) 4 else 0x3F800000
    deadline := if has then fieldAt rt (r + 8) 4 else 400000, period := if has then fieldAt rt (r + 12) 1 else 16
    loopOn := if has then bit (fieldAt rt (r + 13) 1) 0 else true, hostStep := if has then bit (fieldAt rt (r + 13) 1) 1 else false
    cap := if pw.isEmpty then 0 else fieldAt pw (16 + 8 * i) 2
    kvBase := if kv.isEmpty then 0x0080000000000000 else fieldAt kv (8 + 16 * i) 8 }

/-- A port record of a share table. -/
def readShare (b : Bytes) (o : Nat) : SharePort :=
  { owner := (List.range 9).map (fun j => fieldAt b (o + j) 1), weight := (List.range 4).map (fun j => fieldAt b (o + 10 + j) 1) }

/-- The lineup of an image whose sections are well formed. -/
def readLineup (img : Bytes) (ss : List Section) : Lineup :=
  let id := bodyOf ss 1
  let sh := bodyOf ss 6
  let tm := bodyOf ss 9
  let co := bodyOf ss 7
  let pw := bodyOf ss 0x0A
  let th := bodyOf ss 0x0B
  let mg := bodyOf ss 0x0C
  let rs := bodyOf ss 0x0D
  let pn := bodyOf ss 0x0E
  { secver := fieldAt img 8 2, build := fieldAt img 10 6, digest := (img.drop 32).take 48, structDigest := (img.drop 80).take 48
    racks := (List.range (fieldAt id 0 4)).map (fun i => readRack id (8 + 64 * i))
    parts := (List.range (fieldAt (bodyOf ss 2) 0 2)).map (readPartEntry ss)
    policy := fieldAt (bodyOf ss 3) 0 1, remapOnBoot := bit (fieldAt (bodyOf ss 3) 1 1) 0
    strandEnable := fieldAt (bodyOf ss 4) 8 1
    routes := (List.range 72).map (fun d => fieldAt (bodyOf ss 5) (8 * d) 8)
    shares := (List.range (fieldAt sh 0 1)).map (fun t => (List.range 20).map (fun p => readShare sh (8 + 320 * t + 16 * p)))
    coll := if co.isEmpty then {} else { t1 := fieldAt co 0 4, t2 := fieldAt co 4 4, timeout := fieldAt co 8 4, stageCall := fieldAt co 12 1 }
    time := { source := fieldAt tm 0 1, domain := fieldAt tm 1 1, syncLog := toSigned 8 (fieldAt tm 2 1), cardRack := fieldAt tm 4 2
              candidates := (List.range 4).map (fun i => fieldAt tm (6 + i) 1), phase := fieldAt tm 12 4, holdover := fieldAt tm 16 4 }
    power := if pw.isEmpty then {} else
      { cap := fieldAt pw 0 2, safeCap := fieldAt pw 2 2, budget := fieldAt pw 4 4, ramp := fieldAt pw 8 2, rampPct := fieldAt pw 10 1
        fixed := bit (fieldAt pw 11 1) 0, ballast := bit (fieldAt pw 11 1) 1 }
    thermal := if th.isEmpty then {} else
      { target := fieldAt th 0 1, throttle := fieldAt th 1 1, hard := fieldAt th 2 1, trip := fieldAt th 3 1, warn := fieldAt th 4 1
        follow := fieldAt th 5 1, hold := fieldAt th 6 1
        baselines := (List.range ((th.length - 16) / 2)).map (fun i => fieldAt th (16 + 2 * i) 2) }
    mgmt := if mg.isEmpty then {} else
      { paired := fieldAt mg 0 1 == 1, solo := fieldAt mg 1 1, contestUp := fieldAt mg 2 1, contestDown := fieldAt mg 4 2 }
    rst := if rs.isEmpty then {} else
      { drainCore := fieldAt rs 0 4, drainCluster := fieldAt rs 4 4, drainPart := fieldAt rs 8 4, drainPkg := fieldAt rs 12 4
        shotClock := fieldAt rs 16 4, parityPkg := fieldAt rs 20 1 == 1 }
    pins := if pn.isEmpty then List.replicate 8 0 else (List.range 8).map (fun i => fieldAt pn (2 * i) 2) }

/-! ### Relations: step 8 -/

/-- One relation: whether it fails, the tag of the section and the offset in its body. -/
abbrev Relation := Bool × Nat × Nat

/-- Signed stride of a hop code, modulo 72. -/
def hopStride (h : Nat) : Nat := if h < 8 then stride h else 72 - stride (h % 8)

/-- A route word of entry `d` that breaks R429. In hop form bits 11:6 belong to the hop codes, as Table 9-8 has them. -/
def badCandidate (d w : Nat) : Bool :=
  let n := bits w 15 14
  if w = 0 then false
  else n == 0 || bit w 13 || bit w 12 || (([bits w 3 0, bits w 7 4, bits w 11 8].take n).map hopStride).sum % 72 != d
    || (decide (n < 2) && bits w 7 4 != 0) || (decide (n < 3) && bits w 11 8 != 0)

/-- Members of a set given as a bit mask over racks. -/
def popcount (n v : Nat) : Nat := ((List.range n).filter (fun i => bit v i)).length

/-- Relations between partitions (R651). -/
def partRelations (l : Lineup) : List Relation :=
  (l.parts.zip (List.range l.parts.length)).flatMap (fun (p, i) =>
    let o := 8 + 320 * i
    let rivals := (l.parts.take i).filter (fun q => q.racks &&& p.racks != 0)
    [(rivals.any (fun q => q.slot == p.slot), 2, o), (rivals.any (fun q => q.clusters &&& p.clusters != 0), 2, o + 1),
     (!bit p.racks p.captRack, 2, o + 4),
     (decide (384 < p.hbmBase + p.hbmLen) || rivals.any (fun q => decide (q.hbmBase < p.hbmBase + p.hbmLen) && decide (p.hbmBase < q.hbmBase + q.hbmLen)),
       2, o + 8),
     ((l.parts.take i).any (fun q => q.id == p.id), 2, o + 12),
     ((List.range 2048).any (fun r => bit p.racks r && !l.racks.any (fun e => e.id == r)), 2, o + 64)])

/-- Relations of COREMAP (R653). -/
def coreRelations (l : Lineup) : List Relation :=
  (l.parts.zip (List.range l.parts.length)).flatMap (fun (p, i) =>
    let most := (16 - l.policy) * popcount 4 p.clusters
    [(decide (most < p.minPkg), 3, 8 + 8 * i), (outside 1 (most * 72 * popcount 2048 p.racks) p.minTotal, 3, 12 + 8 * i)])

/-- Relations of SLOTSHARE (R657). -/
def shareRelations (l : Lineup) : List Relation :=
  (l.racks.zip (List.range l.racks.length)).flatMap (fun (r, i) =>
    match l.shares[r.share]? with
    | none => [(true, 1, 8 + 64 * i + 10)]
    | some ports =>
      let held (s : Nat) : Bool := l.parts.any (fun p => p.slot == s && bit p.racks r.id)
      (ports.zip (List.range ports.length)).map (fun (q, n) =>
        (q.owner.any (fun s => s != 0xFF && !held s) || (List.range 4).any (fun s => (q.weight.getD s 0 != 0) != held s),
          6, 8 + 320 * r.share + 16 * n)))

/-- Sections sized by partitions hold one entry for each (R643). -/
def countRelations (l : Lineup) (ss : List Section) : List Relation :=
  ([(3, 8, 8), (8, 8, 16), (0x0A, 16, 8), (0x0F, 8, 16)] : List (Nat × Nat × Nat)).map (fun (tag, head, size) =>
    let n := (bodyOf ss tag).length
    (n != 0 && n != head + size * l.parts.length, tag, 0))

/-- All relations, in section order of the field that fails. -/
def relations (l : Lineup) (ss : List Section) : List Relation :=
  (l.racks.zip (List.range l.racks.length)).flatMap (fun (r, i) =>
    [((l.racks.take i).any (fun q => q.serial == r.serial), 1, 8 + 64 * i), ((l.racks.take i).any (fun q => q.id == r.id), 1, 16 + 64 * i)])
  ++ partRelations l ++ countRelations l ss ++ coreRelations l
  ++ (l.routes.zip (List.range 72)).map (fun (v, d) =>
      (if d = 0 then v != 0 else (List.range 4).any (fun c => badCandidate d (bits v (16 * c + 15) (16 * c))), 5, 8 * d))
  ++ shareRelations l
  ++ [(!l.racks.any (fun r => r.id == l.time.cardRack), 9, 4)]

/-! ### The check (Table 14-8) -/

/-- Logical cores that cluster `c` can provide (R668). -/
def Pkg.clusterProvides (k : Pkg) (policy c : Nat) : Nat :=
  min (16 - policy) ((List.range 16).filter (fun i => !k.recordedRetired (16 * c + i))).length

/-- A partition of the lineup held by a rack asks for more logical cores than the package can provide (R668). -/
def Pkg.hwShort (k : Pkg) (l : Lineup) (rack : Nat) : Option Nat :=
  (List.range l.parts.length).find? (fun i => match l.parts[i]? with
    | none => false
    | some p => bit p.racks rack
        && decide ((((List.range 4).filter (fun c => bit p.clusters c)).map (k.clusterProvides l.policy)).sum < p.minPkg))

/-- Check an image (R667): the lineup, or the first failing status with its section tag and image offset (R669). -/
def Pkg.checkLineup (k : Pkg) (img : Bytes) : Except (Status × Nat × Nat) Lineup :=
  let sig := fieldAt img 24 4
  let bad1 := firstBad [(fieldAt img 0 4 != 0x4C4E5550, 0), (fieldAt img 4 2 != 3, 4), (fieldAt img 6 2 != 256, 6),
    (fieldAt img 16 4 != img.length || decide (16777216 < img.length), 16), (fieldAt img 22 2 != 0, 22),
    (decide (sig < 256) || decide (img.length < sig) || sig % 8 != 0, 24), (fieldAt img 28 4 != 0, 28), (fieldAt img 128 128 != 0, 128)]
  match bad1 with
  | some o => .error (0x3701, 0, o)
  | none =>
  if sha384 ((img.take sig).drop 256) ≠ (img.drop 32).take 48 then .error (0x5702, 0, 32)
  else if !sigAccepted (k.getF F.BOOT_KEYS) lineupContext (img.take 256) (img.drop sig) then .error (0x5703, 0, sig)
  else if fieldAt img 8 2 < k.getF F.BOOT_FLOOR3 then .error (0x3704, 0, 8)
  else
  let (ss, last) := imageSections img
  let order := (ss.zip (ss.drop 1)).find? (fun (p : Section × Section) => decide (p.2.tag ≤ p.1.tag))
  let frameBad := ss.find? (fun s => s.tag == 0 || decide (15 < s.tag) || s.flags != 1 || s.body.length % 8 != 0 || !lengthFits ss s)
  let missing := mandatory.find? (fun t => (findSection ss t).isNone)
  match order, frameBad, missing with
  | some p, _, _ => .error (0x3705, p.2.tag, p.2.frame)
  | none, some s, _ => .error (0x3705, s.tag, s.frame)
  | none, none, some t => .error (0x3705, t, last)
  | none, none, none =>
  if last ≠ sig ∨ ss.length ≠ fieldAt img 20 2 then .error (0x3705, 0, if last ≠ sig then last else 20)
  else if structDigest img ss ≠ (img.drop 80).take 48 then .error (0x5702, 0, 80)
  else
  let fields := (ss.flatMap (fun s => (sectionChecks s).map (fun c => (c.1, s.tag, s.at_ + c.2)))).find? (fun c => c.1)
  match fields with
  | some c => .error (0x3706, c.2.1, c.2.2)
  | none =>
  let l := readLineup img ss
  let place (tag o : Nat) : Nat := ((findSection ss tag).map Section.at_).getD 0 + o
  match (relations l ss).find? (fun c => c.1) with
  | some c => .error (0x3707, c.2.1, place c.2.1 c.2.2)
  | none =>
  match (if k.flag F.GLB_BU_SERIAL_SET then l.racks.find? (fun r => r.serial == k.getF F.LUP_RACK_SERIAL) else none) with
  | none => .error (0x3708, 1, place 1 0)
  | some r =>
  let i := l.racks.findIdx (fun x => x.serial == r.serial)
  if sha384 (cableMap l r.id) ≠ r.mapDigest then .error (0x3709, 1, place 1 (8 + 64 * i + 16))
  else match k.hwShort l r.id with
    | some j => .error (0x470A, 3, place 3 (8 + 8 * j))
    | none => .ok l

end Sys2Proof.Machine
end

