-- ==== Sys2Proof/Machine/LineupCmds.lean ====
section
/-! DEFINITION. The lineup store: loading a lineup into the fields it gives, staging and live application (R671–R680). -/

namespace Sys2Proof.Machine

/-- Apply a change for each number below `n`. -/
def Pkg.forEach (k : Pkg) (n : Nat) (f : Pkg → Nat → Pkg) : Pkg := (List.range n).foldl f k

/-- Fields of the live-class sections COLLECTIVE, POWER, THERMAL and RESET (R658, R661, R662, R664). -/
def Pkg.loadLive (k : Pkg) (l : Lineup) : Pkg :=
  let k := ((k.setF F.COL_T1 l.coll.t1).setF F.COL_T2 l.coll.t2).setF F.COL_TIMEOUT_DEF l.coll.timeout
  let k := ((k.setF (F.RST_CFG 0) l.rst.drainCore).setF (F.RST_CFG 1) l.rst.drainCluster).setF (F.RST_CFG 2) l.rst.drainPart
  let k := (k.setF (F.RST_CFG 3) l.rst.drainPkg).setF F.RS_PARITY (if l.rst.parityPkg then 1 else 0)
  let k := ((k.setF F.PWR_CFG_CAP l.power.cap).setF F.PWR_CFG_SAFE l.power.safeCap).setF F.PWR_CFG_RAMP l.power.ramp
  let k := (k.setF F.PWR_CFG_PCT l.power.rampPct).setF F.PWR_CFG_BALLAST (if l.power.ballast then 1 else 0)
  let fixed := if l.power.fixed then 1 else 0
  let k := (k.setF F.PWR_CFG_FIXED fixed).setF F.PWR_FIXED fixed
  let k := k.forEach 64 (fun k c => k.setF (F.CORE_FIXED_MODE c) fixed)
  let k := k.forEach 64 (fun k c => if (k.core c).play.isSome then k else k.setF (F.CORE_SEQ_SHOT_LIMIT c) l.rst.shotClock)
  let k := k.forEach 4 (fun k s => k.setF (F.PWR_PART_CAP s) ((k.partEntry s).map PartEntry.cap |>.getD 0))
  let k := ((k.setF F.TH_TARGET l.thermal.target).setF F.TH_THROTTLE l.thermal.throttle).setF F.TH_HARD l.thermal.hard
  let k := ((k.setF F.TH_TRIP l.thermal.trip).setF F.TH_WARN l.thermal.warn).setF F.TH_FOLLOW l.thermal.follow
  (k.setF F.TH_HOLD l.thermal.hold).setF F.THM_BASELINE (l.thermal.baselines.getD (72 * k.getF F.LUP_RACK_INDEX + k.id) 0)

/-- What `LUP_ACTIVE` and `LUP_VERSION` show of the active lineup. -/
def Pkg.showLineup (k : Pkg) (l : Lineup) : Pkg :=
  (((k.setF F.LUP_DIGEST32 (digest32 l.digest)).setF F.LUP_STRUCT32 (digest32 l.structDigest)).setF F.LUP_SECVER l.secver).setF
    F.LUP_BUILD l.build

/-- Fields of a partition that this package holds (R649, R650, R659, R666). -/
def Pkg.loadPart (k : Pkg) (i : Nat) (p : PartEntry) : Pkg :=
  let s := p.slot
  let k := ((k.setF (F.LUP_PART_ID s) p.id).setF (F.LUP_PART_ENTRY s) i).setF (F.LUP_PART_CLUSTERS s) p.clusters
  let k := ((k.setF (F.XLT_FAULT_POLICY s) p.faultPolicy).setF (F.XLT_HBM_LEN s) p.hbmLen).setF (F.XLT_HBM_BASE s) p.hbmBase
  let k := k.setF (F.XLT_KV_BASE s) (p.kvBase / 2 ^ 49)
  let k := ((k.setF (F.MOE_ETA s) p.eta).setF (F.MOE_PERIOD s) p.period).setF (F.MOE_SCHED_MODE s) (if p.hostStep then 1 else 0)
  let k := ((k.setF (F.MOE_LOOP_ON s) (if p.loopOn then 1 else 0)).setF (F.MOE_CLAMP s) p.clamp).setF (F.MOE_DEADLINE s) p.deadline
  let mine := decide (p.captRack = k.rack ∧ p.captPkg = k.id)
  let k := (k.setF (F.HIF_IS_CAPTAIN s) (if mine then 1 else 0)).setF (F.HIF_PART_VALID s) 1
  let k := (k.setF (F.HIF_CAP_RACK s) p.captRack).setF (F.HIF_CAP_PKG s) p.captPkg
  (List.range 64).foldl (fun k c =>
    if bit p.clusters (c / 16) then (k.setF (F.CORE_PART_SLOT c) s).setF (F.CORE_PART_VALID c) 1 else k) k

/-- The bits of a ring map whose links join two members. -/
def ringMask (ms : List Nat) : Nat := if ms.length < 2 then 0 else (ms.map (fun m => 2 ^ m)).sum

/-- A lineup becomes active whole: every field with reset value L takes its value (R13, R671). -/
def Pkg.loadLineup (k : Pkg) (l : Lineup) : Pkg :=
  match l.racks.find? (fun r => r.serial == k.getF F.LUP_RACK_SERIAL) with
  | none => k
  | some r =>
    let k := { k with lup := { k.lup with active := some l } }
    let k := (k.showLineup l).setF F.GLB_RACK_ID r.id
    let k := (k.setF F.GLB_LOGICAL_CORES (4 * (16 - l.policy))).setF F.GLB_SPARE_POLICY l.policy
    let k := k.setF F.GLB_MG_PAIRED (if l.mgmt.paired then 1 else 0)
    let k := (k.setF F.LUP_RACK_INDEX (l.racks.findIdx (fun x => x.serial == r.serial))).setF F.LUP_SHARE r.share
    let held := (l.parts.zip (List.range l.parts.length)).filter (fun (p : PartEntry × Nat) => bit p.1.racks r.id)
    let k := k.setF F.LUP_SLOTS ((held.map (fun (p : PartEntry × Nat) => 2 ^ p.1.slot)).sum)
    let k := k.forEach 64 (fun k c => k.setF (F.CORE_LOGICAL c) 0xFF)
    let k := held.foldl (fun k (p : PartEntry × Nat) => k.loadPart p.2 p.1) k
    let k := k.setF F.HTM_REF_PHASE l.time.phase
    let k := k.forEach 20 (fun k n =>
      k.setF (F.LNK_PEER_EXP n) (match expectedPeer l r.id k.id n with
        | some (a, b, c) => identityWord a b c (digest32 l.structDigest)
        | none => 0))
    let row := ringMembers l true r.id
    let hall := ringMembers l false r.id
    let k := ((k.setF F.LNK_ROW_MEMBERS row.length).setF F.LNK_HALL_MEMBERS hall.length).setF F.LNK_ROW (rackRow r.id)
    let k := k.setF F.LNK_POSITION (rackPos r.id)
    let k := (k.setF F.LNK_ROW_MAP (ringMask row)).setF F.LNK_HRING_MAP (ringMask hall)
    let ports := l.shares.getD r.share []
    let k := k.forEach 20 (fun k n =>
      let q := ports.getD n { owner := [], weight := [] }
      (List.range 4).foldl (fun k s =>
        let owned := ((List.range 9).filter (fun j => q.owner.getD j 0xFF == s)).map (fun j => 2 ^ j)
        (k.setF (F.FAB_OWNED s n) owned.sum).setF (F.FAB_OPEN_WEIGHT s n) (q.weight.getD s 0)) k)
    k.loadLive l

/-- Record a check of a lineup (R669, `LUP_CHECK`). -/
def Pkg.noteCheck (k : Pkg) (st : Status) (tag off : Nat) : Pkg :=
  ((k.setF F.LUP_CK_TAG tag).setF F.LUP_CK_OFFSET off).report F.LUP_CK_STATUS st .package 0 off

/-! ### Staging (R672, R678) -/

/-- Empty the staged half and cancel a pending application (R678). -/
def Pkg.discardStaged (k : Pkg) : Pkg :=
  let k := { k with lup := { k.lup with staging := none, staged := none } }
  let k := ((k.setF F.LUP_STG_DIGEST32 0).setF F.LUP_STG_LIVE_OK 0).setF F.LUP_STG_STATUS 0
  k.setF F.LUP_PENDING_EN 0

/-- LINEUP_STAGE (R672): copy a slot's lineup into the staged half, unless an application is pending. -/
def Pkg.stageLineup (k : Pkg) (slot : Nat) : Pkg :=
  if k.flag F.LUP_PENDING_EN then k.report F.LUP_STG_STATUS 0x470C .package 0 0
  else
    let k := k.discardStaged
    { k with lup := { k.lup with staging := some (k.storedImage 4 slot) } }

/-- LINEUP_STAGE. -/
def execLineupStage (p : PkgId) (src : CsrSource) (slot t : Nat) (s : State) : Host.Outcome State Fault Refusal :=
  .next (s.updPkg p (fun k => (k.at t).viaPkg src 0x80100 .i (fun k => k.stageLineup (slot % 2))))

/-- LINEUP_STAGE_CHECK_DONE (R667, R672): the result appears in `LUP_STAGED`. -/
def Pkg.checkStaged (k : Pkg) : Pkg :=
  match k.lup.staging with
  | none => k
  | some img =>
    let k := { k with lup := { k.lup with staging := none } }
    match k.checkLineup img with
    | .error (st, tag, off) => (k.noteCheck st tag off).setF F.LUP_STG_STATUS st
    | .ok l =>
      let k := { k with lup := { k.lup with staged := some l } }
      let k := ((k.noteCheck 0 0 0).setF F.LUP_STG_STATUS 0).setF F.LUP_STG_DIGEST32 (digest32 l.digest)
      k.setF F.LUP_STG_LIVE_OK (if (k.lup.active.map Lineup.structDigest) = some l.structDigest then 1 else 0)

/-- LINEUP_STAGE_CHECK_DONE. -/
def execLineupStageCheckDone (p : PkgId) (t : Nat) (s : State) : Host.Outcome State Fault Refusal :=
  .next (s.updPkg p (fun k => (k.at t).checkStaged))

/-- LINEUP_DISCARD (R678). -/
def execLineupDiscard (p : PkgId) (src : CsrSource) (t : Nat) (s : State) : Host.Outcome State Fault Refusal :=
  .next (s.updPkg p (fun k => (k.at t).viaPkg src 0x80100 .i Pkg.discardStaged))

/-! ### Live application (R673–R677) -/

/-- LINEUP_APPLY_SCHEDULE (R673, R675). -/
def Pkg.scheduleLineup (k : Pkg) (epoch : Nat) : Pkg :=
  match k.lup.staged with
  | none => k.report F.LUP_PEND_STATUS 0x3706 .package 0 0
  | some l =>
    if (k.lup.active.map Lineup.structDigest) ≠ some l.structDigest then k.report F.LUP_PEND_STATUS 0x370B .package 0 0
    else
      let now := k.hallTime / epochTicks
      let k := if epoch ≤ now then k.raise F.LUP_LATE else k
      let k := (k.setF F.LUP_PEND_EPOCH (max epoch (now + 1))).setF F.LUP_PEND_STATUS 0
      k.raise F.LUP_PENDING_EN

/-- LINEUP_APPLY_SCHEDULE. -/
def execLineupApplySchedule (p : PkgId) (src : CsrSource) (epoch t : Nat) (s : State) : Host.Outcome State Fault Refusal :=
  .next (s.updPkg p (fun k => (k.at t).viaPkg src 0x80110 .i (fun k => k.scheduleLineup (epoch % 2 ^ 43))))

/-- R860: a package whose baseline changes returns to level NONE without a following cap, unless it is in HOLD. -/
def Pkg.rebaseline (new old : Pkg) : Pkg :=
  if new.getF F.THM_BASELINE = old.getF F.THM_BASELINE ∨ new.getF F.THM_LEVEL = 3 then new
  else { ((new.setF F.THM_LEVEL 0).setF F.THM_FOLLOW 0).setF F.THM_RUN 0 with therm := { new.therm with excess := [] } }

/-- LINEUP_APPLY (R674): at the apply epoch the staged lineup replaces the active one whole, and the live-class fields take
their new values. -/
def Pkg.applyLineup (k : Pkg) (t : Nat) : Pkg :=
  match k.lup.staged with
  | none => k
  | some l =>
    if !k.flag F.LUP_PENDING_EN ∨ !k.flag F.HTM_VALID ∨ !atBoundary t ∨ t / epochTicks < k.getF F.LUP_PEND_EPOCH then k
    else
      let new := ({ k with lup := { active := some l, staging := none, staged := none } } : Pkg).setF F.LUP_PENDING_EN 0
      let new := ((new.setF F.LUP_STG_DIGEST32 0).setF F.LUP_STG_LIVE_OK 0).setF F.LUP_STG_STATUS 0
      ((new.showLineup l).loadLive l).rebaseline k

/-- LINEUP_APPLY. -/
def execLineupApply (p : PkgId) (t : Nat) (s : State) : Host.Outcome State Fault Refusal :=
  .next (s.updPkg p (fun k => (k.at t).applyLineup t))

end Sys2Proof.Machine
end

