-- ==== Sys2Proof/Machine/Repair.lean ====
section
/-! DEFINITION. Repair (17_repair.md): roles and the logical map, retirement, substitution, vacancies, the RETIRE command and
the persisted map record. -/

namespace Sys2Proof.Machine

/-! ### Roles (R758–R760) -/

/-- Logical numbers per cluster. -/
def Pkg.perCluster (k : Pkg) : Nat := if k.getF F.GLB_SPARE_POLICY = 2 then 14 else 15

/-- Set or clear a bit of a register field. -/
def Pkg.setBit (k : Pkg) (f : Fld) (i : Nat) (b : Bool) : Pkg := k.setF f (putBit (k.getF f) i b)

/-- Give a physical core a role: 0 SPARE, 1 ACTIVE, 2 RETIRED. -/
def Pkg.setRole (k : Pkg) (c role : Nat) : Pkg :=
  let k := k.setBit (F.GLB_MAP_SPARE (c / 16)) (c % 16) (role == 0)
  let k := k.setBit (F.GLB_MAP_ACTIVE (c / 16)) (c % 16) (role == 1)
  k.setBit (F.GLB_MAP_RETIRED (c / 16)) (c % 16) (role == 2)

/-- A physical core is a SPARE. -/
def Pkg.isSpare (k : Pkg) (c : Nat) : Bool := bit (k.getF (F.GLB_MAP_SPARE (c / 16))) (c % 16)

/-- Spares of a cluster that no substitution holds, lowest first (R769). -/
def Pkg.spares (k : Pkg) (cl : Nat) : List Nat :=
  (List.range 16).map (fun i => 16 * cl + i) |>.filter (fun c => k.isSpare c && !k.repair.substs.any (fun (q : Subst) => q.spare == c))

/-- Reasons of Table 17-1 that are permanent. -/
def permanent (reason : Nat) : Bool := reason == 1 || reason == 2 || reason == 6

/-- Change the repair state. -/
def Pkg.updRepair (k : Pkg) (f : Repair → Repair) : Pkg := { k with repair := f k.repair }

/-- Replace a key's value in a list of pairs. -/
def putPair (xs : List (Nat × Nat)) (i v : Nat) : List (Nat × Nat) := (i, v) :: xs.filter (fun p => p.1 != i)

/-- A key's value in a list of pairs. -/
def getPair (xs : List (Nat × Nat)) (i : Nat) : Nat := ((xs.find? (fun p => p.1 == i)).map Prod.snd).getD 0

/-! ### The map record (R781–R785) -/

/-- The entry of a physical core (Table 17-4). -/
def Pkg.mapEntry (k : Pkg) (c : Nat) : Nat :=
  if k.isRetired c then 2 * 64 + getPair k.repair.reasons c * 256
  else match k.logicalOf c with
    | some g => 64 + g % k.perCluster
    | none => 0

/-- The 256 bytes of a record of the map as it stands (Table 17-3). -/
def Pkg.mapBytes (k : Pkg) (seq : Nat) : Bytes :=
  let b := leBytes 4 0x50414D4C ++ leBytes 1 1 ++ leBytes 1 (k.getF F.GLB_SPARE_POLICY) ++ leBytes 2 0 ++ leBytes 4 seq ++ leBytes 4 0
    ++ leBytes 8 k.hallTime ++ leBytes 8 0 ++ (List.range 64).flatMap (fun c => leBytes 2 (k.mapEntry c))
    ++ (List.range 4).flatMap (fun c => leBytes 2 (k.getF (F.GLB_MAP_VACANT c))) ++ leBytes 84 0
  b ++ leBytes 4 (crc32c b)

/-- R783: a change of the map has its record written. -/
def Pkg.noteMap (k : Pkg) : Pkg :=
  let seq := (k.getF F.GLB_MAP_SEQ + k.repair.records.length + 1) % 2 ^ 32
  (k.updRepair (fun r => { r with records := r.records ++ [k.mapBytes seq] })).raise F.GLB_MAP_WRITE_PENDING

/-- MAP_RECORD_WRITE_DONE (R783, R784): the oldest record waiting is written over the copy not in use, or its write fails. -/
def Pkg.recordWritten (k : Pkg) (ok : Bool) : Pkg :=
  match k.repair.records with
  | [] => k
  | b :: rest =>
    if k.repair.retryAt.isSome then k
    else if ok then
      let copy := match k.mapRecord with
        | some (i, _) => 1 - i
        | none => 0
      let a := 0x20000 + copy * 0x10000
      let k := (k.flashErase a 0x10000).flashWrite a b
      let k := (k.setF F.GLB_MAP_SEQ (fieldAt b 8 4)).setF F.GLB_MAP_WRITE_STATUS 0
      (k.updRepair (fun r => { r with records := rest })).setF F.GLB_MAP_WRITE_PENDING (if rest.isEmpty then 0 else 1)
    else
      (k.updRepair (fun r => { r with retryAt := some (k.now + 20000000000) })).report F.GLB_MAP_WRITE_STATUS 0x5006 .package 0 0

/-- MAP_RECORD_WRITE_DONE. -/
def execMapRecordWriteDone (p : PkgId) (ok : Bool) (t : Nat) (s : State) : Host.Outcome State Fault Refusal :=
  .next (s.updPkg p (fun k => (k.at t).recordWritten ok))

/-- MAP_WRITE_RETRY (R784): 10 s after a failure the write is tried again. -/
def execMapWriteRetry (p : PkgId) (t : Nat) (s : State) : Host.Outcome State Fault Refusal :=
  .next (s.updPkg p (fun k =>
    let k := k.at t
    match k.repair.retryAt with
    | some r => if r ≤ k.now then k.updRepair (fun r => { r with retryAt := none }) else k
    | none => k))

/-! ### Retirement, substitution and vacancies (R765–R778) -/

/-- A core becomes RETIRED: its power is removed (R774). -/
def Pkg.retireCore (k : Pkg) (c reason : Nat) : Pkg :=
  let k := (k.clearCore c).setRole c 2
  let k := { k with coreDown := k.coreDown.filter (fun x => x != c) }
  let k := (k.setF (F.CORE_STATE c) 5).setF (F.CORE_LOGICAL c) 0xFF
  let k := k.setBit F.GLB_MAP_DEFERRED c false
  k.updRepair (fun r => { r with reasons := putPair r.reasons c reason, marks := r.marks.filter (fun m => m.1 != c)
                                 substs := r.substs.filter (fun (q : Subst) => q.core != c) })

/-- A core runs its self-test (R133). -/
def Pkg.startTest (k : Pkg) (c : Nat) : Pkg :=
  ((k.setF (F.CORE_STATE c) 1).setF (F.CORE_BIST_RESULT c) 3).inc (F.CORE_BIST_RUNS c)

/-- The switch of a substitution (R774): the spare takes the number; with a copy it takes the local store as it is (R771). A
switch in a cluster in reset leaves the new core in that reset. -/
def Pkg.switchCore (k : Pkg) (q : Subst) : Pkg :=
  let old := k.core q.core
  let k := k.retireCore q.core q.reason
  let k := if q.copy then k.setCore q.spare { k.core q.spare with ls := old.ls, lsBad := old.lsBad, lsCe := old.lsCe } else k
  let k := (k.setRole q.spare 1).setF (F.CORE_LOGICAL q.spare) q.logical
  let k := (k.setF (F.GLB_ME_PHYS q.logical) q.spare).setF (F.GLB_ME_MOVING q.logical) 0
  let k := (k.setF (F.GLB_ME_MARKED q.logical) 0).inc (F.GLB_REPAIR_COUNTS 0)
  let k := if q.copy then k.inc (F.GLB_REPAIR_COUNTS 1) else k
  let k := if bit (k.getF F.RST_CLUSTER_RESET) (q.spare / 16) then k.resetCore q.spare false else k.setF (F.CORE_STATE q.spare) 3
  k.noteMap

/-- A number becomes a vacancy and its core RETIRED (R776–R778). -/
def Pkg.vacate (k : Pkg) (c g reason : Nat) : Pkg :=
  let k := k.retireCore c reason
  let k := k.setBit (F.GLB_MAP_VACANT (c / 16)) (g % k.perCluster) true
  let k := (((k.raise (F.GLB_ME_VACANT g)).setF (F.GLB_ME_MOVING g) 0).setF (F.GLB_ME_MARKED g) 0).inc (F.GLB_REPAIR_COUNTS 2)
  let k := match k.clusterSlot (c / 16) with
    | none => k
    | some s =>
      let n := k.getF (F.GLB_PS_CORES s)
      let k := (k.setF (F.GLB_PS_CORES s) (n - 1)).notice "PartitionDegraded" .warning s
      (match k.partEntry s with
        | some p => if p.minPkg ≤ n ∧ n - 1 < p.minPkg then k.notice "PartitionBelowMinimum" .critical s else k
        | none => k)
  k.noteMap

/-- R765: a suspect trigger without a spare is deferred. -/
def Pkg.deferCore (k : Pkg) (c : Nat) : Pkg :=
  let k := (k.setBit F.GLB_MAP_DEFERRED c true).notice "SpareExhausted" .warning c
  let k := match k.logicalOf c with
    | some g => k.setF (F.GLB_ME_MARKED g) 0
    | none => k
  k.updRepair (fun r => { r with marks := r.marks.filter (fun m => m.1 != c) })

/-- SUBSTITUTION_BEGIN (R769, R770): the lowest spare runs its self-test; without a spare the number becomes a vacancy, or a suspect
core is deferred and comes out of its reset. -/
def Pkg.beginSubst (k : Pkg) (c reason : Nat) (force copy : Bool) : Pkg :=
  match k.logicalOf c with
  | none => k
  | some g =>
    let k := k.updRepair (fun r => { r with marks := r.marks.filter (fun m => m.1 != c) })
    match k.spares (c / 16) with
    | [] =>
      if permanent reason || force then k.vacate c g reason
      else
        let k := k.deferCore c
        if k.coreDown.contains c then k.coreOut c else k
    | sp :: _ =>
      let k := k.updRepair (fun r => { r with
        substs := r.substs ++ [{ core := c, logical := g, reason := reason, copy := copy, spare := sp, copying := false }] })
      ((k.setF (F.CORE_STATE c) 4).raise (F.GLB_ME_MOVING g)).startTest sp

/-- A marked core reaches its drain point (R766–R768). -/
def Pkg.drainPoint (k : Pkg) (c : Nat) (copy : Bool) : Pkg :=
  match k.repair.marks.find? (fun m => m.1 == c) with
  | some m => k.beginSubst c m.2.1 m.2.2 copy
  | none => k

/-- The next spare takes over a substitution whose spare has failed or gone (R770). -/
def Pkg.nextSpare (k : Pkg) (q : Subst) : Pkg :=
  match k.spares (q.core / 16) with
  | [] => k.vacate q.core q.logical q.reason
  | sp :: _ =>
    (k.updRepair (fun r => { r with substs := r.substs.map (fun (x : Subst) => if x.core = q.core then { x with spare := sp, copying := false } else x) })).startTest sp

/-- A SPARE is retired at once. -/
def Pkg.retireSpare (k : Pkg) (c reason : Nat) : Pkg :=
  let held := k.repair.substs.find? (fun (q : Subst) => q.spare == c)
  let k := (k.retireCore c reason).noteMap
  match held with
  | some q => k.nextSpare q
  | none => k

/-- A trigger of Table 17-1 on a core in service. -/
def Pkg.trigger (k : Pkg) (c reason : Nat) (force : Bool) : Pkg :=
  if k.repair.substs.any (fun (q : Subst) => q.core == c) then k
  else if k.isSpare c then k.retireSpare c reason
  else match k.logicalOf c with
    | none => k
    | some g =>
      let marked := k.repair.marks.find? (fun m => m.1 == c)
      if reason = 2 ∨ reason = 3 then k.beginSubst c reason (force || (marked.map (fun m => m.2.2)).getD false) false
      else if marked.isSome then k
      else if (k.spares (c / 16)).isEmpty && !force then k.deferCore c
      else
        let k := (k.updRepair (fun r => { r with marks := r.marks ++ [(c, reason, force)] })).raise (F.GLB_ME_MARKED g)
        if (k.play c).isNone && !k.coreDown.contains c then k.drainPoint c true else k

/-- The self-test of a spare ends (R770, R771). -/
def Pkg.spareTested (k : Pkg) (q : Subst) (pass : Bool) : Pkg :=
  if !pass then k.retireSpare q.spare 6
  else if q.copy then
    (k.setF (F.CORE_STATE q.spare) 2).updRepair (fun r => { r with substs := r.substs.map (fun (x : Subst) => if x.core = q.core then { x with copying := true } else x) })
  else k.switchCore q

/-- A core that comes out of a reset: it is at its drain point if marked, otherwise absorb ends and it takes its state from the map
(R750, R768). -/
def Pkg.comeBack (k : Pkg) (c : Nat) : Pkg :=
  if k.repair.marks.any (fun m => m.1 == c) then k.drainPoint c false else k.coreOut c

/-- The retest of a core after a reset for a hardware error ends (R762, R763). -/
def Pkg.retested (k : Pkg) (c : Nat) (pass : Bool) : Pkg :=
  let n := getPair k.repair.hwResets c + 1
  let k := k.updRepair (fun r => { r with hwResets := putPair r.hwResets c n })
  if !pass then (if k.isSpare c then k.retireSpare c 2 else k.trigger c 2 false)
  else if 3 ≤ n ∧ (k.logicalOf c).isSome = true then k.trigger c 3 false
  else k.comeBack c

/-- A reset of a cluster meets its substitutions (Table 17-5): copies are abandoned, and a spare already tested switches. -/
def Pkg.dropCopies (k : Pkg) (cl : Nat) : Pkg :=
  (k.repair.substs.filter (fun (q : Subst) => q.core / 16 == cl)).foldl (fun k (q : Subst) =>
    let q' := { q with copy := false, copying := false }
    if q.copying then k.switchCore q'
    else k.updRepair (fun r => { r with substs := r.substs.map (fun (x : Subst) => if x.core = q.core then q' else x) })) k

/-! ### Vacancies seen by the rack (R777, R778) -/

/-- Logical cores of a partition that are not vacancies: here, and in its other racks as their summaries say. -/
def State.partTotal (s : State) (id slot : Nat) : Nat :=
  (s.pkgs.toList.map (fun k => if k.slotHeld slot && k.getF (F.LUP_PART_ID slot) == id then k.getF (F.GLB_PS_CORES slot) else 0)).sum
    + ((s.summaries.filter (fun (x : Summary) => x.part == id)).map Summary.cores).sum

/-- A new vacancy: the captain posts DEGRADED, and a partition that falls below its total minimum is announced. -/
def State.noteVacancy (s : State) (p : PkgId) (g : Nat) : State :=
  let k := s.pkg p
  match k.clusterSlot (k.logicalCluster g) with
  | none => s
  | some slot =>
    let s := if k.getF (F.HIF_CAP_RACK slot) = k.rack then
      s.updNat (k.getF (F.HIF_CAP_PKG slot)) (fun c => c.postEvent slot 2 (k.rack * 65536 + (k.id * k.logicalCores + g))) else s
    match k.partEntry slot with
    | some e =>
      let n := s.partTotal e.id slot
      if n + 1 = e.minTotal then s.post "PartitionBelowMinimum" .critical slot else s
    | none => s

/-- Change a package, tell of each new vacancy, and post what it has to tell. -/
def State.updMap (s : State) (p : PkgId) (f : Pkg → Pkg) : State :=
  let old := s.pkg p
  let s := s.updPkg p f
  let new := s.pkg p
  let gone := (List.range 60).filter (fun g => new.flag (F.GLB_ME_VACANT g) && !old.flag (F.GLB_ME_VACANT g))
  (gone.foldl (fun (s : State) g => s.noteVacancy p g) s).postNotices p

/-! ### Commands -/

/-- LS_ZEROING_COMPLETE (R135, R750): the local store of a core reset without self-test reads as zero. -/
def execLsZeroingComplete (p : PkgId) (core : CoreId) (t : Nat) (s : State) : Host.Outcome State Fault Refusal :=
  .next (s.updMap p (fun k =>
    let k := k.at t
    if !k.coreDown.contains core.val || k.getF (F.CORE_STATE core) != 4 || bit (k.getF F.RST_CLUSTER_RESET) (core / 16)
        || k.repair.substs.any (fun (q : Subst) => q.core == core.val) then k
    else (k.setCore core {}).comeBack core))

/-- PLAY_COMPLETE (R169): the play ends; a marked core is then at its drain point. -/
def execPlayComplete (p : PkgId) (core : CoreId) (t : Nat) (s : State) : Host.Outcome State Fault Refusal :=
  .next (s.updMap p (fun k =>
    let k := k.at t
    let k' := k.completePlay core
    if (k.play core).isSome && (k'.play core).isNone then k'.drainPoint core true else k'))

/-- SHOT_CLOCK_EXPIRE (R189): the play ends and the core alone is reset, in place of a drain of that core (Table 16-6). -/
def execShotClockExpire (p : PkgId) (core : CoreId) (t : Nat) (s : State) : Host.Outcome State Fault Refusal :=
  .next (s.updPkg p (fun k =>
    let k := k.at t
    let k' := k.shotExpire core
    if (k.play core).isSome && (k'.play core).isNone then
      { k' with drains := k'.drains.filter (fun (d : Drain) => !(d.scope == 1 && d.target == core.val)) }
    else k'))

/-- CE_SAMPLE (R764, Table 17-1): the hourly sample of corrected errors. -/
def execCeSample (p : PkgId) (t : Nat) (s : State) : Host.Outcome State Fault Refusal :=
  .next (s.updMap p (fun k =>
    let k := k.at t
    if !k.flag F.HTM_VALID || t % 7200000000000 != 0 then k
    else (List.range 64).foldl (fun k c =>
      let n := k.getF (F.CORE_LS_CE_COUNT c)
      let was := getPair k.repair.ceLast c
      let k := if n = was then k else k.updRepair (fun r => { r with ceLast := putPair r.ceLast c n })
      if was + 1000 ≤ n then k.trigger c 4 false else k) k))

/-- The RETIRE command (Table 17-2). -/
def Pkg.retireCmd (k : Pkg) (c : Nat) (force : Bool) : Pkg :=
  let say (k : Pkg) (st : Status) : Pkg := k.report F.GLB_REPAIR_CODE st .core c 0
  let busy := k.repair.marks.any (fun m => m.1 == c) || k.repair.substs.any (fun (q : Subst) => q.core == c)
  if 63 < c then say k 0x3005
  else if k.isSpare c then say (k.trigger c 5 force) 0
  else if (k.logicalOf c).isNone then say k 0x3005
  else if busy then say k 0
  else if (k.spares (c / 16)).isEmpty && !force then say k 0x3005
  else say (k.trigger c 5 force) 0

/-- RETIRE (R780): a write of `GLB_REPAIR_CMD` with operation RETIRE. -/
def execRetire (p : PkgId) (src : CsrSource) (core : Nat) (force : Bool) (t : Nat) (s : State) : Host.Outcome State Fault Refusal :=
  .next (s.updMap p (fun k => (k.at t).viaPkg src 0xA8 .i (fun k => k.retireCmd (core % 128) force)))

/-- SUBSTITUTION_COPY_DONE (R771, R774): the copy ends, and the switch follows. -/
def execSubstitutionCopyDone (p : PkgId) (core : CoreId) (t : Nat) (s : State) : Host.Outcome State Fault Refusal :=
  .next (s.updPkg p (fun k =>
    let k := k.at t
    match k.repair.substs.find? (fun (q : Subst) => q.core == core.val && q.copying) with
    | some q => k.switchCore q
    | none => k))

end Sys2Proof.Machine
end

