-- ==== Sys2Proof/Machine/Rails.lean ====
section
/-! DEFINITION. What a reset of the hub die clears (Table 16-3, R738), and the TMC's sequencing of a package's rails (R798–R806). -/

namespace Sys2Proof.Machine

/-! ### Trays -/

/-- A tray. -/
def State.tray (s : State) (n : Nat) : Tray := s.trays.toList.getD n {}

/-- Change a tray. -/
def State.updTray (s : State) (n : Nat) (f : Tray → Tray) : State := { s with trays := s.trays.setIfInBounds n (f (s.tray n)) }

/-- The tray of a package, and its socket (R948). -/
def trayOf (p : Nat) : Nat := p / 4
/-- Socket of a package: 0 A to 3 D. -/
def socketOf (p : Nat) : Nat := p % 4

/-- The packages of a compute tray. -/
def trayPkgs (n : Nat) : List Nat := (List.range 4).map (fun i => 4 * n + i)

/-- The TMC writes an entry into its management log. -/
def State.tmcLog (s : State) (p rail t : Nat) (st : Status) : State :=
  s.updTray (trayOf p) (fun (y : Tray) => { y with log := { status := st, pkg := p, rail := rail, time := t } :: y.log })

/-! ### Resets that include the hub die (R739, R738) -/

/-- Mask of the fields of a register cell that a package reset keeps: those with reset value "—" (R739), and the rails as they are
measured (`PWR_RAIL`). -/
def keptMask (off : Nat) : Word :=
  if 0x600100 ≤ off ∧ off < 0x600158 then BitVec.allOnes 64
  else if 0x4000000 ≤ off then 0
  else match regFind off with
    | none => 0
    | some (r, _, _, rel) => (r.fields.filter (fun f => f.lo / 64 == rel / 8 && (match f.reset with | .kept _ => true | _ => false))).foldl
        (fun m f => m ||| fieldMask (f.lo % 64) f.width) 0

/-- The register store after a package reset. -/
def keptRegs (m : List (Nat × Word)) : List (Nat × Word) :=
  m.foldl (fun n c => Sparse.set cellReset n c.1 ((c.2 &&& keptMask c.1) ||| (cellReset c.1 &&& ~~~ keptMask c.1))) []

/-- LINK_RESET as the last frame of each port that is UP (R422); other ports keep theirs. -/
def Pkg.linkReset (k : Pkg) (notice : Bool) : Fabric :=
  { ports := Vector.ofFn (fun n : Fin 20 =>
      let f := k.fport n.val
      { outFrame := if notice && k.linkSt n.val == 5 then some { k.controlFrame n.val with notice := 2 } else f.outFrame }) }

/-- The hub die is reset (Table 16-3, PACKAGE): everything goes but the kept fields, what stands outside the die (straps, flash,
rails, the host's memory), and the model's own counters. Corrected-error counts at the reset stand in for the last sample. -/
def Pkg.resetHub (k : Pkg) (notice : Bool) : Pkg :=
  let regs := keptRegs k.regs
  { straps := k.straps, regs := regs, readData := k.readData, now := k.now, fab := k.linkReset notice
    host := { mem := k.host.mem, reply := k.host.reply, cfg := k.host.cfg }, pinLow := k.pinLow, rails := k.rails
    boot := { dead := k.boot.dead, failed := k.boot.failed, settings := k.boot.settings }
    repair := { ceLast := ((List.range 64).map (fun c => (c, ({ regs := regs } : Pkg).getF (F.CORE_LS_CE_COUNT c)))).filter (fun x => x.2 != 0) }
    flash := k.flash, notices := k.notices, fresh := k.fresh }

/-- VDD_AUX is lost (R723): only fuses, straps and flash are left. -/
def Pkg.auxLost (k : Pkg) : Pkg :=
  let k' := k.resetHub false
  let fuses : Pkg := { regs := [] }
  let fuses := (((fuses.setF F.BOOT_FLOOR0 (k.getF F.BOOT_FLOOR0)).setF F.BOOT_FLOOR1 (k.getF F.BOOT_FLOOR1)).setF F.BOOT_FLOOR2
    (k.getF F.BOOT_FLOOR2)).setF F.BOOT_FLOOR3 (k.getF F.BOOT_FLOOR3)
  let fuses := fuses.setF F.BOOT_KEYS (k.getF F.BOOT_KEYS)
  { k' with regs := fuses.regs, repair := {}, rails := { k.rails with aux := false, mode := .off, wait := [], late := [] } }

/-- A reset without drain at PACKAGE scope begins (R738): the hub is held for 2,000 ticks to send LINK_RESET while VDD_HUB and
VDD_SERDES are in regulation, and is otherwise reset at once. -/
def Pkg.resetNow (k : Pkg) : Pkg :=
  if k.getF (F.PWR_RL_STATE 1) = 2 ∧ k.getF (F.PWR_RL_STATE 2) = 2 then { k with linkHold := some k.now, drains := [], hold := none, holdLine := false }
  else k.resetHub false

/-! ### Power-up and power-down (R798–R806) -/

/-- Change a package's rails. -/
def Pkg.updRails (k : Pkg) (f : Rails → Rails) : Pkg := { k with rails := f k.rails }

/-- Enable rails. -/
def Pkg.enableRails (k : Pkg) (rs : List Nat) : Pkg :=
  let k := rs.foldl (fun k r => k.setF (F.PWR_RL_STATE r) 1) k
  k.updRails (fun r => { r with wait := r.wait ++ rs.map (fun x => (x, k.now)) })

/-- Begin a power-up (R798), with `PKG_RESET_N` driven low. -/
def Pkg.powerUp (k : Pkg) : Pkg :=
  if !k.rails.aux || !k.rails.efuse || k.rails.mode != .off then k
  else (({ k with pinLow := true } : Pkg).updRails (fun r => { r with mode := .up, wait := [], late := [], retryAt := none, held := false })).enableRails [1]

/-- Disable a rail of a power-down. -/
def Pkg.disableRail (k : Pkg) (rail : Nat) : Pkg :=
  (k.setF (F.PWR_RL_STATE rail) (if k.getF (F.PWR_RL_STATE rail) = 0 then 0 else 1)).updRails (fun r => { r with
    step := rail, stepAt := k.now, late := if k.getF (F.PWR_RL_STATE rail) = 0 then r.late else r.late ++ [(rail, k.now)] })

/-- Go on to the next rail that is not off; with none left the power-down ends once every rail is off (R801). -/
def Pkg.nextRail (k : Pkg) : Nat → Pkg
  | 0 => if k.rails.late.isEmpty then k.updRails (fun r => { r with mode := .off, step := 0 }) else k
  | n + 1 => if k.getF (F.PWR_RL_STATE (n + 1)) = 0 then k.nextRail n else k.disableRail (n + 1)

/-- Begin a power-down (R801); one that runs continues (Table 18-5). The hub is held in reset by `PKG_RESET_N` (R800). -/
def Pkg.powerDown (k : Pkg) : Pkg :=
  if k.rails.mode = .off ∨ k.rails.mode = .down then k
  else
    let k := if k.bring.released.isSome && k.linkHold.isNone then k.resetNow else k
    let k := { k with pinLow := true, bring := { k.bring with released := none } }
    (k.updRails (fun r => { r with mode := .down, wait := [], late := [] })).nextRail 10

/-- A safety power-down of a package. -/
def Pkg.safetyDown (k : Pkg) : Pkg := k.powerDown.updRails (fun r => { r with fault := true, retryAt := none, held := true })

end Sys2Proof.Machine
end

