-- ==== Sys2Proof/Machine/BringUp.lean ====
section
/-! DEFINITION. Bring-up (15_bringup.md): phases, boot set, lineup, HBM, ports, GO and the waves, MAP and readiness; and port H's
training and configuration requests. -/

namespace Sys2Proof.Machine

/-- Change the bring-up state. -/
def Pkg.updBring (k : Pkg) (f : BringUp → BringUp) : Pkg := { k with bring := f k.bring }

/-- A reset that includes the hub is released: BOOT begins (R681, Table 15-1). A record in REVERT becomes CONFIRMED first (R916). -/
def Pkg.release (k : Pkg) (cold : Bool) : Pkg :=
  let k := k.updBring (fun _ => { released := some k.now })
  let k := { k with pinLow := false, linkHold := none, hold := none, holdLine := false }
  let k := (k.setF F.GLB_BU_COLD (if cold then 1 else 0)).enterPhase 1
  if k.bc.state = 3 then (k.writeBoot (fun r => { r with state := 0, roster := 0 })).showBoot false
  else k.showBoot (k.bc.state == 2)

/-! ### BOOT (R683–R685, R935, R941, R945) -/

/-- The first failing status of a slot's boot set: HUB_BOOT, HUB_RUNTIME, MICROCODE; 0 when it passes. -/
def Pkg.bootSet (k : Pkg) (slot : Nat) : Status :=
  ([1, 2, 3].map (fun cls => imageCheck cls (k.getF F.BOOT_KEYS) (k.fuseFloor cls) (k.storedImage cls slot))).find? (fun st => st != 0) |>.getD 0

/-- Show a running image (`BOOT_RUNNING`). -/
def Pkg.showRunningImage (k : Pkg) (cls slot : Nat) : Pkg :=
  let h := k.storedImage cls slot
  (k.setF (F.BOOT_RUN_SECVER (cls - 1)) (fieldAt h 6 2)).setF (F.BOOT_RUN_BUILD (cls - 1)) (fieldAt h 8 6)

/-- The boot set of a slot runs, and LINEUP begins. In TRIAL the image has built its settings in the trial slot (R932). -/
def Pkg.runBootSet (k : Pkg) (slot : Nat) : Pkg :=
  let trial := decide (k.bc.state = 2)
  let k := (((k.showRunningImage 1 slot).showRunningImage 2 slot).showRunningImage 3 slot).updBring (fun b => { b with runtime := true })
  let k := if trial ∧ !k.boot.settings.contains slot then { k with boot := { k.boot with settings := slot :: k.boot.settings } } else k
  (k.setF F.LUP_ST 1).enterPhase 2

/-- The package is dead (R941): it is held with cause BOOT and runs no image. -/
def Pkg.bootDead (k : Pkg) (st : Status) : Pkg :=
  let k := (k.buStatus st .package 0).logError 0x7809 .package 0 0
  let k := { k.raise F.GLB_HOLD_BOOT with boot := { k.boot with dead := true } }
  k.enterPhase 8

/-- The trial fails here (R935): the unit writes REVERT, which its start from the confirmed slot turns into CONFIRMED (R916). -/
def Pkg.failTrial (k : Pkg) : Pkg :=
  let k := (k.buStatus 0x580A .package 0).writeBoot (fun r => { r with state := 3 })
  let k := (k.writeBoot (fun r => { r with state := 0, roster := 0 })).showBoot false
  { k with boot := { k.boot with failed := true } }

/-- BOOT_SET_VERIFIED (R684): the boot set is copied and checked. -/
def Pkg.bootVerified (k : Pkg) : Pkg :=
  if k.bring.step ≠ 1 ∨ k.bring.released.isNone then k
  else match k.bootRecord with
    | none =>
      let a := k.bootSet 0
      if a = 0 then (k.writeBoot (fun _ => { active := 0 })).runBootSet 0
      else if k.bootSet 1 = 0 then (k.writeBoot (fun _ => { active := 1 })).runBootSet 1
      else k.bootDead a
    | some _ =>
      let st := k.bootSet k.bc.source
      if st = 0 then k.runBootSet k.bc.source
      else if k.bc.state = 2 then
        let k := k.failTrial
        let st := k.bootSet k.bc.source
        if st = 0 then k.runBootSet k.bc.source else k.bootDead st
      else k.bootDead st

/-- A dead hub (R942): its tray's packages are powered down and kept off, the tray is held, and UnitDead is posted. -/
def State.hubDead (s : State) (p : Nat) (t : Nat) : State :=
  let s := (trayPkgs (trayOf p)).foldl (fun (s : State) q => s.updNat q (fun k => (k.at t).safetyDown)) s
  (s.updTray (trayOf p) (fun (y : Tray) => { y with held := true })).post "UnitDead" .critical p

/-- BOOT_SET_VERIFIED. -/
def execBootSetVerified (p : PkgId) (t : Nat) (s : State) : Host.Outcome State Fault Refusal :=
  let was := (s.pkg p).boot.dead
  let s := s.updPkg p (fun k => (k.at t).bootVerified)
  .next (if !was && (s.pkg p).boot.dead then s.hubDead p t else s)

/-! ### LINEUP (R686–R688) -/

/-- SERIAL_WAIT_TIMEOUT (R686): after 2 s the check proceeds without a rack serial. -/
def execSerialWaitTimeout (p : PkgId) (t : Nat) (s : State) : Host.Outcome State Fault Refusal :=
  .next (s.updPkg p (fun k =>
    let k := k.at t
    if k.bring.step = 2 ∧ !k.flag F.GLB_BU_SERIAL_SET ∧ k.bring.phaseAt + 4000000000 ≤ k.now then k.updBring (fun b => { b with proceed := true }) else k))

/-- The lineup is ACTIVE: HBM training and the training of every enabled port begin (R671, R689). After a reset of this package
alone its links left PEER_RESET at the far end, so they return to the map at an epoch boundary (R424). -/
def Pkg.lineupActive (k : Pkg) (l : Lineup) : Pkg :=
  let k := (((k.noteCheck 0 0 0).loadLineup l).setF F.LUP_ST 2).showRunningImage 4 k.bc.source
  let k := k.enterPhase 3
  let k := k.forEach 8 (fun k i => k.setF (F.HBM_STATE i) 1)
  let later := k.getF F.RST_SCOPE == 4 && k.getF F.RST_CAUSE != 1
  k.forEach 20 (fun k n => if k.portEnabled n then (k.setLport n { k.lport n with restoreAtEpoch := later }).enterDetect n else k)

/-- LINEUP_LOAD_COMPLETE (R671, R687, R688): the copy of the lineup is checked. In TRIAL a refusal fails the trial (R935), and
bring-up starts again from the confirmed slot. -/
def Pkg.lineupLoaded (k : Pkg) : Pkg :=
  if k.bring.step ≠ 2 ∨ !(k.flag F.GLB_BU_SERIAL_SET || k.bring.proceed) then k
  else match k.checkLineup (k.storedImage 4 k.bc.source) with
    | .ok l => k.lineupActive l
    | .error (st, tag, off) =>
      let k := k.noteCheck st tag off
      if k.bc.state = 2 then
        let cold := k.flag F.GLB_BU_COLD
        (k.failTrial.resetHub false).release cold
      else
        let k := ((k.setF F.LUP_ST 3).buStatus st .package 0).raise F.GLB_HOLD_LINEUP
        k.enterPhase 8

/-- LINEUP_LOAD_COMPLETE. -/
def execLineupLoadComplete (p : PkgId) (t : Nat) (s : State) : Host.Outcome State Fault Refusal :=
  .next (s.updPkg p (fun k => (k.at t).lineupLoaded))

/-! ### MEMORY_PORTS (R689–R695) -/

/-- Every stack is ready or failed (R693). -/
def Pkg.hbmSettled (k : Pkg) : Bool := (List.range 8).all (fun i => decide (2 ≤ k.getF (F.HBM_STATE i)))

/-- MEMORY_PORTS ends when HBM is settled and the port phase has ended. -/
def Pkg.endMemoryPorts (k : Pkg) : Pkg :=
  if k.bring.step = 3 ∧ k.hbmSettled ∧ k.bring.portsAt.isSome = true then (k.enterPhase 4).updBring (fun b => { b with pendingAt := k.now }) else k

/-- A stack fails (R693): HBM_STACK_FAILED, and the package will be held with cause HBM. -/
def Pkg.failStack (k : Pkg) (i : Nat) : Pkg := ((k.setF (F.HBM_STATE i) 3).buStatus 0x7D02 .stack i).raise F.GLB_HOLD_HBM

/-- HBM_TRAINING_COMPLETE (R690): the stacks of `failed` did not train. -/
def execHbmTrainingComplete (p : PkgId) (failed t : Nat) (s : State) : Host.Outcome State Fault Refusal :=
  .next (s.updPkg p (fun k =>
    let k := k.at t
    if k.bring.step ≠ 3 ∨ k.bring.hbmTrained then k
    else ((k.forEach 8 (fun k i => if bit failed i then k.failStack i else k)).updBring (fun b => { b with hbmTrained := true })).endMemoryPorts))

/-- HBM has been zeroed; the trained stacks that did not fail are ready. -/
def Pkg.hbmZeroed (k : Pkg) (failed : Nat) : Pkg :=
  let k := k.forEach 8 (fun k i => if k.getF (F.HBM_STATE i) ≠ 1 then k else if bit failed i then k.failStack i else k.setF (F.HBM_STATE i) 2)
  ({ k with hbm := [], hbmBad := [], hbmCe := [] } : Pkg).endMemoryPorts

/-- HBM_TEST_COMPLETE (R691, R693): the cold test; `repairs` rows repaired per stack, and the stacks of `failed` exceed their repair
resources. -/
def execHbmTestComplete (p : PkgId) (failed : Nat) (repairs : List Nat) (t : Nat) (s : State) : Host.Outcome State Fault Refusal :=
  .next (s.updPkg p (fun k =>
    let k := k.at t
    if k.bring.step ≠ 3 ∨ !k.bring.hbmTrained ∨ !k.flag F.GLB_BU_COLD ∨ k.hbmSettled then k
    else (k.forEach 8 (fun k i => if k.getF (F.HBM_STATE i) = 1 then k.addSat (F.HBM_REPAIRS i) (repairs.getD i 0) else k)).hbmZeroed failed))

/-- HBM_ZEROING_COMPLETE (R692): the warm zeroing pass ends. -/
def execHbmZeroingComplete (p : PkgId) (t : Nat) (s : State) : Host.Outcome State Fault Refusal :=
  .next (s.updPkg p (fun k =>
    let k := k.at t
    if k.bring.step ≠ 3 ∨ !k.bring.hbmTrained ∨ k.flag F.GLB_BU_COLD ∨ k.hbmSettled then k else k.hbmZeroed 0))

/-- R694: every enabled port has settled, or has spent 1 s without reaching IDENTIFY. -/
def Pkg.portsSettled (k : Pkg) : Bool :=
  (List.range 20).all (fun n =>
    let st := k.linkSt n
    !k.portEnabled n || st == 5 || st == 6 || st == 7 || ((st == 1 || st == 2 || st == 8) && decide ((k.lport n).detectAt + 2000000000 ≤ k.now)))

/-- PORT_PHASE_END (R694, R695): a link that comes up later joins the map as a restored one, at an epoch boundary. -/
def execPortPhaseEnd (p : PkgId) (t : Nat) (s : State) : Host.Outcome State Fault Refusal :=
  .next (s.updPkg p (fun k =>
    let k := k.at t
    if k.bring.step ≠ 3 ∨ k.bring.portsAt.isSome = true ∨ !k.portsSettled then k
    else
      let k := k.updBring (fun b => { b with portsAt := some k.now })
      let k := k.forEach 20 (fun k n => if k.linkSt n = 1 ∨ k.linkSt n = 2 then k.setLport n { k.lport n with restoreAtEpoch := true } else k)
      let k := if k.braidUp then k else (k.buStatus 0x7C04 .package 0).raise F.GLB_HOLD_BRAID
      k.endMemoryPorts))

/-- ISOLATED_RACK_SEED (R696): 2 s after the last port phase ended with no package's time valid, P00 is seeded under R72. -/
def execIsolatedRackSeed (reference clock t : Nat) (s : State) : Host.Outcome State Fault Refusal :=
  let due := s.pkgs.toList.all (fun k => match k.bring.portsAt with
    | some e => decide (e + 4000000000 ≤ max k.now t)
    | none => false)
  .next (if s.noneValid && due then s.updPkg 0 (fun k => (k.at t).seed (seedValue reference s.highWater clock)) else s)

/-! ### GO and the waves (R697–R702) -/

/-- The waves start (R699, R700). -/
def Pkg.startWaves (k : Pkg) : Pkg := if k.bring.step = 4 then (k.enterPhase 5).updBring (fun b => { b with goAt := some k.now, waves := 0 }) else k

/-- GO (R699, R701): a write of `GLB_GO`. -/
def execGo (p : PkgId) (src : CsrSource) (t : Nat) (s : State) : Host.Outcome State Fault Refusal :=
  .next (s.updPkg p (fun k => (k.at t).viaPkg src 0x48 .i Pkg.startWaves))

/-- TMC_GO_DISPATCH (R699): the first GO fixes the tray's phase origin; a socket's GO falls on its phase. -/
def execTmcGoDispatch (p : PkgId) (t : Nat) (s : State) : Host.Outcome State Fault Refusal :=
  let y := s.tray (trayOf p)
  let ph := socketOf p * 1000000
  let o := y.origin.getD (t + 4000000 - ph)
  if (s.pkg p).bring.step = 4 ∧ y.aux ∧ (t + 4000000 - ph) % 4000000 = o % 4000000 then
    .next ((s.updPkg p (fun k => (k.at t).startWaves)).updTray (trayOf p) (fun (y : Tray) =>
      { y with origin := some o, restarted := if y.origin.isNone then [] else y.restarted }))
  else .next s

/-- The tray's GO origin restarts when all four packages have been reset (Table 15-5). -/
def State.noteReset (s : State) (p : Nat) : State :=
  s.updTray (trayOf p) (fun (y : Tray) =>
    let rs := if y.restarted.contains (socketOf p) then y.restarted else socketOf p :: y.restarted
    if rs.length = 4 then { y with origin := none, restarted := [] } else { y with restarted := rs })

/-- GO_FALLBACK (R700): 5 s, and 0.5 ms for each socket, after CORES_PENDING began. -/
def execGoFallback (p : PkgId) (t : Nat) (s : State) : Host.Outcome State Fault Refusal :=
  .next (s.updPkg p (fun k =>
    let k := k.at t
    if k.bring.step = 4 ∧ k.bring.pendingAt + 10000000000 + socketOf p * 1000000 ≤ k.now then k.startWaves else k))

/-- The cores of a wave (R697). -/
def waveCores (w : Nat) : List Nat := (List.range 4).flatMap (fun c => [16 * c + 2 * w, 16 * c + 2 * w + 1])

/-- Waves whose self-tests have ended (`GLB_BU_WAVES`); after the eighth, CORES ends. -/
def Pkg.countWaves (k : Pkg) : Pkg :=
  let n := ((List.range k.bring.waves).takeWhile (fun w => (waveCores w).all (fun c => k.getF (F.CORE_BIST_RESULT c) != 3))).length
  let k := k.setF F.GLB_BU_WAVES n
  if n = 8 ∧ k.bring.step = 5 then k.enterPhase 6 else k

/-- The record in use keeps a core RETIRED, so that its wave skips it: for good with a permanent reason, at a warm bring-up with a
suspect one (R788). -/
def Pkg.skipped (k : Pkg) (c : Nat) : Bool :=
  match k.mapRecord with
  | none => false
  | some (_, b) =>
    let e := mapCore b c
    mcRole e == 2 && (permanent (mcReason e) || !k.flag F.GLB_BU_COLD)

/-- WAVE_START (R698): the next wave powers its cores, which start self-test. -/
def execWaveStart (p : PkgId) (t : Nat) (s : State) : Host.Outcome State Fault Refusal :=
  .next (s.updPkg p (fun k =>
    let k := k.at t
    match k.bring.goAt with
    | none => k
    | some go =>
      let w := k.bring.waves
      if k.bring.step ≠ 5 ∨ 8 ≤ w ∨ k.now < go + 4000000 * w then k
      else
        let k := (waveCores w).foldl (fun k c => if k.skipped c then k.setF (F.CORE_STATE c) 5 else k.startTest c) k
        (k.updBring (fun b => { b with waves := w + 1 })).countWaves))

/-- BIST_COMPLETE (R134, R135): the results are shown and the local store reads zero; then the wave goes on (R702), the substitution
goes on (R770), or the core comes out of its reset (R750, R762). -/
def execBistComplete (p : PkgId) (core : CoreId) (pass : Bool) (units bank t : Nat) (s : State) : Host.Outcome State Fault Refusal :=
  .next (s.updMap p (fun k =>
    let k := k.at t
    if k.getF (F.CORE_BIST_RESULT core) ≠ 3 then k
    else
      let k := (k.setF (F.CORE_BIST_RESULT core) (if pass then 1 else 2)).setF (F.CORE_BIST_FAIL core) (if pass then 0 else units)
      let k := (k.setF (F.CORE_BIST_BANK core) (if !pass && bit units 3 then bank else 0)).setCore core {}
      if k.bring.step = 5 then (if pass then k else k.setF (F.CORE_STATE core) 5).countWaves
      else match k.repair.substs.find? (fun (q : Subst) => q.spare == core.val) with
        | some q => k.spareTested q pass
        | none => k.retested core pass))

/-! ### MAP (R703–R708, R786–R788) -/

/-- The physical core bound to each logical number of a cluster (R786); none for a vacancy. -/
def bindCluster (rebuild : Bool) (n : Nat) (passing : List Nat) (recorded : Nat → Option Nat) : List (Option Nat) :=
  if rebuild then (List.range n).map (fun l => passing[l]?)
  else
    let kept := (List.range n).map (fun l => (recorded l).filter (fun c => passing.contains c))
    let free := passing.filter (fun c => !kept.contains (some c))
    (kept.foldl (fun (acc : List (Option Nat) × List Nat) (o : Option Nat) => match o, acc.2 with
      | some c, f => (acc.1 ++ [some c], f)
      | none, c :: f => (acc.1 ++ [some c], f)
      | none, [] => (acc.1 ++ [none], [])) ([], free)).1

/-- Build the logical map of one cluster. -/
def Pkg.mapCluster (k : Pkg) (rec_ : Option Bytes) (rebuild : Bool) (cl : Nat) : Pkg :=
  let n := k.perCluster
  let cores := (List.range 16).map (fun i => 16 * cl + i)
  let passing := cores.filter (fun c => k.getF (F.CORE_BIST_RESULT c) == 1 && k.getF (F.CORE_STATE c) != 5)
  let recorded (l : Nat) : Option Nat := match rec_ with
    | some b => cores.find? (fun c => mcRole (mapCore b c) == 1 && mcLogical (mapCore b c) == l)
    | none => none
  let bound := bindCluster rebuild n passing recorded
  let k := cores.foldl (fun k c =>
    if passing.contains c then ((k.setRole c 0).setF (F.CORE_STATE c) 2).setF (F.CORE_LOGICAL c) 0xFF
    else
      let old := match rec_ with
        | some b => if mcRole (mapCore b c) = 2 then mcReason (mapCore b c) else 0
        | none => 0
      let reason := if k.getF (F.CORE_BIST_RESULT c) = 2 then 1 else old
      let k := ((k.setRole c 2).setF (F.CORE_STATE c) 5).setF (F.CORE_LOGICAL c) 0xFF
      k.updRepair (fun r => { r with reasons := putPair r.reasons c reason })) k
  (bound.zip (List.range n)).foldl (fun k (x : Option Nat × Nat) =>
    let g := cl * n + x.2
    match x.1 with
    | some c => ((((k.setRole c 1).setF (F.CORE_STATE c) 3).setF (F.CORE_LOGICAL c) g).setF (F.GLB_ME_PHYS g) c).setF (F.GLB_ME_VACANT g) 0
    | none => (k.setBit (F.GLB_MAP_VACANT cl) x.2 true).raise (F.GLB_ME_VACANT g)) k

/-- Count the numbers of each slot that are not vacancies (`GLB_PS_CORES`). -/
def Pkg.countCores (k : Pkg) : Pkg :=
  k.forEach 4 (fun k s => k.setF (F.GLB_PS_CORES s)
    ((List.range k.logicalCores).filter (fun g => k.slotHasCluster s (k.logicalCluster g) && !k.flag (F.GLB_ME_VACANT g))).length)

/-- Build the whole map, and have its record written when it differs from the one used (R783, R786, R787). -/
def Pkg.buildMap (k : Pkg) : Pkg :=
  let rec_ := k.mapRecord.map Prod.snd
  let remap := (k.lup.active.map Lineup.remapOnBoot).getD false
  let rebuild := match rec_ with
    | none => true
    | some b => fieldAt b 5 1 != k.getF F.GLB_SPARE_POLICY || (k.flag F.GLB_BU_COLD && remap)
  let k := k.forEach 4 (fun k cl => k.mapCluster rec_ rebuild cl)
  let k := { k.updBring (fun b => { b with mapped := true }) with coreDown := [] }
  let k := (k.setF F.GLB_MAP_FROM_FLASH (if rec_.isSome then 1 else 0)).setF F.GLB_MAP_REBUILT (if rebuild then 1 else 0)
  let k := (k.setF F.GLB_MAP_SEQ ((rec_.map (fun b => fieldAt b 8 4)).getD 0)).countCores
  let now := k.mapBytes 0
  match rec_ with
  | some b => if (now.drop 5).take 1 = (b.drop 5).take 1 ∧ (now.drop 32).take 136 = (b.drop 32).take 136 then k else k.noteMap
  | none => k.noteMap

/-- The causes of R705's unmet criteria; each short slot raises CORE_SHORT. -/
def Pkg.holdCauses (k : Pkg) : Pkg :=
  let k := if k.bring.runtime then k else k.raise F.GLB_HOLD_BOOT
  let k := if k.lup.active.isSome then k else k.raise F.GLB_HOLD_LINEUP
  let k := if k.hbmReady then k else k.raise F.GLB_HOLD_HBM
  let k := if k.braidUp then k.setF F.GLB_HOLD_BRAID 0 else k.raise F.GLB_HOLD_BRAID
  let k := if k.getF F.HTM_STATE = 2 then k.setF F.GLB_HOLD_TIME 0 else k.raise F.GLB_HOLD_TIME
  if k.bring.mapped then k.shortSlots.foldl (fun k s => (k.buStatus 0x4002 .slot s).raise F.GLB_HOLD_CORES) k else k.raise F.GLB_HOLD_CORES

/-- MAP_COMPLETE (R703–R706): the map is built, and the package is READY or HELD. -/
def execMapComplete (p : PkgId) (t : Nat) (s : State) : Host.Outcome State Fault Refusal :=
  .next (s.updPkg p (fun k =>
    let k := k.at t
    if k.bring.step ≠ 6 ∨ k.bring.mapped then k
    else
      let k := k.buildMap
      if k.criteria then k.enterReady else (k.holdCauses).enterPhase 8))

/-- READY_DEADLINE (R704): 10 s after reset release a package that is not READY is HELD with every unmet cause. -/
def execReadyDeadline (p : PkgId) (t : Nat) (s : State) : Host.Outcome State Fault Refusal :=
  .next (s.updPkg p (fun k =>
    let k := k.at t
    match k.bring.released with
    | none => k
    | some r =>
      if k.bring.step = 7 ∨ k.bring.late ∨ k.now < r + 20000000000 then k
      else
        let k := k.holdCauses
        let k := if k.getF F.HTM_STATE = 2 then k else k.buStatus 0x6002 .package 0
        (if k.getF F.GLB_BU_PHASE = 8 then k else k.setF (F.GLB_BU_MARK 8) ((k.now - r) / 2000)).setF F.GLB_BU_PHASE 8 |>.updBring (fun b => { b with late := true })))

/-! ### Port H (R579, R581, R716) -/

/-- PCIE_TRAINING_START (R716): 20 ms after reset release. -/
def execPcieTrainingStart (p : PkgId) (t : Nat) (s : State) : Host.Outcome State Fault Refusal :=
  .next (s.updPkg p (fun k =>
    let k := k.at t
    match k.bring.released with
    | some r => if r + 40000000 ≤ k.now ∧ k.getF F.LNK_H_ST = 0 then k.setF F.LNK_H_ST 1 else k
    | none => k))

/-- PCIE_LINK_TRAINED (R581): rate 1–6 for 2.5–64 GT/s, the width and FLIT mode. -/
def execPcieLinkTrained (p : PkgId) (rate width : Nat) (flit : Bool) (t : Nat) (s : State) : Host.Outcome State Fault Refusal :=
  .next (s.updPkg p (fun k =>
    let k := k.at t
    if k.getF F.LNK_H_ST ≠ 1 then k
    else
      let k := (((k.setF F.LNK_H_ST 2).setF F.HIF_PCIE_RATE rate).setF F.HIF_PCIE_WIDTH width).setF F.HIF_PCIE_FLIT (if flit then 1 else 0)
      k.setF F.HIF_PCIE_DEGRADED (if rate < 6 ∨ width < 16 then 1 else 0)))

/-- PCIE_CONFIG_REQUEST (R579, R620, R716) of the physical (4) or a virtual function: Request Retry Status until the hub runtime
runs. The value of a register the spec does not give is open (log entry 11). -/
def execPcieConfigRequest (p : PkgId) (fn : Root) (req : Machine.CfgReq) (t : Nat) (s : State) : Host.Outcome State Fault Refusal :=
  .next (s.updPkg p (fun k =>
    let k := k.at t
    let say (k : Pkg) (r : CfgReply) : Pkg := { k with host := { k.host with cfg := r } }
    if k.getF F.LNK_H_ST ≠ 2 then k
    else if !k.bring.runtime then say k .retry
    else match req with
      | .vendor => say k (.data 0x1F3C)
      | .device => say k (.data (if fn = 4 then 0x7204 else 0x7205))
      | .class_ => say k (.data 0x120000)
      | .other _ => (say k (.data (k.freeNat 32))).draw
      | .vfEnable on => if fn = 4 then say { k with host := { k.host with vfEnable := on } } (.data 0) else (say k (.data (k.freeNat 32))).draw))

end Sys2Proof.Machine
end

