-- ==== Sys2Proof/Machine/Resets.lean ====
section
/-! DEFINITION. Resets and drains (16_reset.md): scopes, drains, absorb, what each scope clears, the order out of reset, management
commands, and the extension of partition resets. -/

namespace Sys2Proof.Machine

/-! ### What each scope clears (Table 16-3) -/

/-- CLUSTER: its cores are cleared and absorb, its clock is 1,500 MHz without gating, and its UCIe link retrains. Substitutions in it
lose their copies (Table 17-5). -/
def Pkg.resetCluster (k : Pkg) (cl : Nat) : Pkg :=
  let k := (k.setBit F.RST_CLUSTER_RESET cl true).dropCopies cl
  let k := (List.range 16).foldl (fun k i =>
    let c := 16 * cl + i
    let k := ((k.setF (F.CORE_CLK_MHZ c) 1500).setF (F.CORE_GATE c) 0).setF (F.CORE_GATED c) 0
    let k := k.setF (F.THM_CORE_GATE c) 0
    if k.getF (F.CORE_STATE c) = 0 ∨ k.getF (F.CORE_STATE c) = 5 ∨ k.getF (F.CORE_BIST_RESULT c) = 3 then k else k.resetCore c false) k
  { k.setF (F.PWR_CL_GATE cl) 0 with power := { k.power with gates := k.power.gates.set cl 0 } }

/-- Is a key of slot × size in the slot's range. -/
def inSlot (slot size key : Nat) : Bool := key / size == slot

/-- Windows, call table, staging and barrier counts of a slot (R548, R158). -/
def Pkg.clearCollSlot (k : Pkg) (slot : Nat) : Pkg :=
  let k := { k with
    sems := Sparse.keep k.sems (fun x => !inSlot slot 4096 x), semStatus := Sparse.keep k.semStatus (fun x => !inSlot slot 4096 x)
    windows := k.windows.filter (fun w => w.slot != slot), staged := k.staged.filter (fun w => w.slot != slot)
    arrivals := k.arrivals.filter (fun a => a.slot != slot), capArrivals := k.capArrivals.filter (fun a => a.slot != slot)
    barGen := Sparse.keep k.barGen (fun x => !inSlot slot 64 x)
    calls := k.calls.filter (fun c => c.1 != slot), fireOrder := k.fireOrder.filter (fun c => c.1 != slot)
    coll := { runs := k.coll.runs.filter (fun r => r.slot != slot), fired := k.coll.fired.filter (fun f => !inSlot slot 1024 f.1)
              early := k.coll.early.filter (fun e => e.1 != slot), arrivals := k.coll.arrivals.filter (fun a => a.slot != slot)
              loads := k.coll.loads.filter (fun l => l.1 != slot), deregs := k.coll.deregs.filter (fun d => d.1 != slot) }
    regs := Sparse.keep k.regs (fun o => !(decide (0x310000 + 0x2000 * slot ≤ o) && decide (o < 0x312000 + 0x2000 * slot))
      && o != 0x301030 + 0x100 * slot) }
  k.setF (F.COL_WIN_DONE slot) (k.getF (F.COL_WIN_ISSUED slot))

/-- Channel table, template, receive windows and source sequence state of a slot (R490). -/
def Pkg.clearFabSlot (k : Pkg) (slot : Nat) : Pkg :=
  let mine (o : Owner) : Bool := match o with
    | .collective s _ _ => s == slot
    | .moe s _ _ => s == slot
    | _ => false
  { k.setF (F.FAB_LOADED slot) 0 with
    fab := { k.fab with
      tables := k.fab.tables.setIfInBounds slot { quietUntil := k.now + 8000000 }
      streams := k.fab.streams.filter (fun x => x.slot != slot), unacked := k.fab.unacked.filter (fun u => u.pkt.slot != slot)
      windows := k.fab.windows.filter (fun w => w.slot != slot), held := k.fab.held.filter (fun o => o.pkt.slot != slot)
      done := k.fab.done.filter (fun d => !mine d.1) } }

/-- MOE state of a slot (R375). -/
def Pkg.clearMoeSlot (k : Pkg) (slot : Nat) : Pkg :=
  let base := 0x10000000 + 0x8000 * 256 * slot
  let k := { k with
    moe := { k.moe with steps := k.moe.steps.filter (fun x => x.slot != slot), reports := k.moe.reports.filter (fun x => x.slot != slot)
                        requests := k.moe.requests.filter (fun x => x.slot != slot), fallen := k.moe.fallen.filter (fun x => x.1 != slot) }
    regs := Sparse.keep k.regs (fun o => !(decide (base ≤ o) && decide (o < base + 0x8000 * 256) && decide (0x3000 ≤ (o - base) % 0x8000))) }
  k.forEach 3 (fun k i => k.setF (F.MOE_STATS slot i) 0)

/-- The captain completes the slot's running calls with ABSORBED (R732). -/
def Pkg.absorbCalls (k : Pkg) (p : Nat → Bool) : Pkg :=
  { k with host := { k.host with calls := k.host.calls.map (fun c =>
      if p c.slot && c.result.isNone && c.dupOf.isNone then { c with result := some (0x2001, 0), orig := 0x2001 } else c) } }

/-- The play of a core ends without PLAY_DONE (R732). -/
def Pkg.dropPlay (k : Pkg) (c : Nat) : Pkg := if (k.play c).isSome then (k.updCore c (fun x => { x with play := none })).showSeq c else k

/-- PARTITION at this package (Table 16-3, R746): the slot's state is cleared, its clusters are reset, and it absorbs until its
release 8,000,000 ticks later. Its locally begun reset is signalled to the TMC (R743). -/
def Pkg.resetSlot (k : Pkg) (slot : Nat) : Pkg :=
  let k := (k.absorbCalls (fun s => s == slot)).setBit F.RST_SLOT_DRAIN slot false
  let k := (List.range 4).foldl (fun k cl => if k.slotHasCluster slot cl then k.resetCluster cl else k) k
  let k := ((k.clearCollSlot slot).clearFabSlot slot).clearMoeSlot slot
  let k := { k with
    xlt := k.xlt.drop 2 slot 0 0
    host := { k.host with jobs := k.host.jobs.filter (fun j => j.slot != slot) }
    releases := (slot, k.now + 8000000) :: k.releases.filter (fun r => r.1 != slot)
    ibi := if k.ibi.contains slot then k.ibi else slot :: k.ibi }
  let k := ((k.setF (F.HTM_SCHED_VOLLEY slot) 0).setF (F.HTM_STRETCH_TOTAL slot) 0).setF (F.GLB_PART_READY slot) 0
  k.setBit F.RST_SLOT_ABSORB slot true

/-! ### Drains (R727–R733) -/

/-- A scope lies within another (Table 16-1). -/
def Pkg.scopeWithin (k : Pkg) (inner outer : Nat × Nat) : Bool :=
  match outer.1, inner.1 with
  | 4, _ => true
  | 5, _ => true
  | 3, 3 => inner.2 == outer.2
  | 3, 2 => k.slotHasCluster outer.2 inner.2
  | 3, 1 => k.slotHasCluster outer.2 (inner.2 / 16)
  | 2, 2 => inner.2 == outer.2
  | 2, 1 => inner.2 / 16 == outer.2
  | 1, 1 => inner.2 == outer.2
  | _, _ => false

/-- A reset that is past its drain covers the scope, until its release. -/
def Pkg.inReset (k : Pkg) (scope target : Nat) : Bool :=
  k.hold.isSome || k.linkHold.isSome
    || k.releases.any (fun r => k.scopeWithin (scope, target) (3, r.1))
    || (List.range 4).any (fun c => bit (k.getF F.RST_CLUSTER_RESET) c && k.scopeWithin (scope, target) (2, c))
    || (scope == 1 && k.coreDown.contains target)

/-- A reset of the scope is already under way, so that a new one merges into it (Table 16-6). -/
def Pkg.resetCovers (k : Pkg) (scope target : Nat) : Bool :=
  k.inReset scope target || k.drains.any (fun (d : Drain) => d.cause != 0 && k.scopeWithin (scope, target) (d.scope, d.target))

/-- A drain of a scope begins (R727); narrower drains end (Table 16-6). -/
def Pkg.beginDrain (k : Pkg) (scope target cause loc : Nat) : Pkg :=
  let k := { k with drains := k.drains.filter (fun (d : Drain) => !k.scopeWithin (d.scope, d.target) (scope, target))
                      ++ [{ scope := scope, target := target, cause := cause, loc := loc, began := k.now }] }
  let slots := (List.range 4).filter (fun s => decide (4 ≤ scope) && k.slotHeld s || (scope == 3 && s == target))
  let k := slots.foldl (fun k s => k.setBit F.RST_SLOT_DRAIN s true) k
  (List.range 64).foldl (fun k c => if k.scopeHasCore scope target c then k.drainCore c else k) k

/-- A reset with drain is asked for: it merges into one that covers it. -/
def Pkg.askReset (k : Pkg) (scope target cause loc : Nat) : Pkg :=
  if k.resetCovers scope target then k else k.beginDrain scope target cause loc

/-- Every command in the scope that had started has retired, and every request the scope sent is acknowledged or given up (R729). -/
def Pkg.drained (k : Pkg) (d : Drain) : Bool :=
  (List.range 64).all (fun c => !k.scopeHasCore d.scope d.target c || k.coreDrained c)
    && (match d.scope with
      | 3 => !k.fab.unacked.any (fun u => u.pkt.slot == d.target)
      | 4 => k.fab.unacked.isEmpty
      | 5 => k.fab.unacked.isEmpty
      | _ => !k.fab.unacked.any (fun u => match u.owner with
        | .command c _ => k.scopeHasCore d.scope d.target c
        | _ => false))

/-- The drain ends and the reset of its scope goes on (R732–R736); a drain for HOLD resets nothing (R855). -/
def Pkg.endDrain (k : Pkg) (d : Drain) : Pkg :=
  let k := { k with drains := k.drains.filter (fun (x : Drain) => x != d) }
  let cores := (List.range 64).filter (fun c => k.scopeHasCore d.scope d.target c)
  if d.cause = 0 then
    let k := (k.setBit F.RST_SLOT_DRAIN d.target false).absorbCalls (fun s => s == d.target)
    cores.foldl (fun k c => if (k.play c).isSome then (k.dropPlay c).drainPoint c true else k) k
  else
    let k := if d.scope = 4 ∨ d.scope = 5 then k.recordCause d.cause d.scope d.loc 0 else k.recordCause d.cause d.scope d.loc d.target
    match d.scope with
    | 1 => ((k.endPlay d.target (k.freeNat 32) none).draw).resetCore d.target false
    | 2 => (cores.foldl (fun k c => (k.endPlay c (k.freeNat 32) none).draw) k).resetCluster d.target
    | 3 => (cores.foldl Pkg.dropPlay k).resetSlot d.target
    | _ => { (cores.foldl Pkg.dropPlay k).absorbCalls (fun _ => true) with
        hold := some k.now, drains := [], holdLine := d.cause == 8 && (d.loc == 0x41 || d.loc == 0x42) }

/-- The drain of a scope and target under way. -/
def Pkg.drainOf (k : Pkg) (scope target : Nat) : Option Drain := k.drains.find? (fun (d : Drain) => d.scope == scope && d.target == target)

/-- DRAIN_COMPLETE (R729). -/
def execDrainComplete (p : PkgId) (scope target t : Nat) (s : State) : Host.Outcome State Fault Refusal :=
  .next (s.updMap p (fun k =>
    let k := k.at t
    match k.drainOf scope target with
    | some d => if k.drained d then k.endDrain d else k
    | none => k))

/-- The drain timeout of a scope (R730). -/
def Pkg.drainLimit (k : Pkg) (scope : Nat) : Nat := k.getF (F.RST_CFG (min scope 4 - 1))

/-- DRAIN_TIMEOUT (R731): commands in flight are abandoned, and the cut is counted. -/
def execDrainTimeout (p : PkgId) (scope target t : Nat) (s : State) : Host.Outcome State Fault Refusal :=
  .next (s.updMap p (fun k =>
    let k := k.at t
    match k.drainOf scope target with
    | some d => if d.began + k.drainLimit d.scope ≤ k.now then (k.inc (F.RST_COUNTS 5)).endDrain d else k
    | none => k))

/-! ### Management commands (R752, R753) -/

/-- A reset command at once, or at `RST_CMD_HT`; an unknown target is refused, and a time already past acts at once (R81). -/
def Pkg.resetCmd (k : Pkg) (scope target : Nat) (at_ valid : Bool) : Pkg :=
  if !valid then k.report F.RST_CMD_STATUS 0x3004 .package 0 scope
  else
    let k := k.setF F.RST_CMD_STATUS 0
    let ht := k.getF F.RST_CMD_HT
    if !at_ then k.askReset scope target 4 0
    else if ht ≤ k.now then k.lateAction.askReset scope target 4 0
    else { k with resetsAt := k.resetsAt ++ [(scope, target, ht)] }

/-- RESET_CORE (R752). -/
def execResetCore (p : PkgId) (src : CsrSource) (target : Nat) (at_ : Bool) (t : Nat) (s : State) : Host.Outcome State Fault Refusal :=
  .next (s.updPkg p (fun k => (k.at t).viaPkg src 0x10010 .i (fun k => k.resetCmd 1 target at_ (decide (target < 64)))))

/-- RESET_CLUSTER (R752). -/
def execResetCluster (p : PkgId) (src : CsrSource) (target : Nat) (at_ : Bool) (t : Nat) (s : State) : Host.Outcome State Fault Refusal :=
  .next (s.updPkg p (fun k => (k.at t).viaPkg src 0x10010 .i (fun k => k.resetCmd 2 target at_ (decide (target < 4)))))

/-- RESET_PARTITION (R752). -/
def execResetPartition (p : PkgId) (src : CsrSource) (target : Nat) (at_ : Bool) (t : Nat) (s : State) : Host.Outcome State Fault Refusal :=
  .next (s.updPkg p (fun k => (k.at t).viaPkg src 0x10010 .i (fun k => k.resetCmd 3 target at_ (decide (target < 4) && k.slotHeld target))))

/-- RESET_PACKAGE (R752). -/
def execResetPackage (p : PkgId) (src : CsrSource) (target : Nat) (at_ : Bool) (t : Nat) (s : State) : Host.Outcome State Fault Refusal :=
  .next (s.updPkg p (fun k => (k.at t).viaPkg src 0x10010 .i (fun k => k.resetCmd 4 0 at_ (target == 0))))

/-- RESET_RACK (R726): accepted only with AT. -/
def execResetRack (p : PkgId) (src : CsrSource) (target : Nat) (at_ : Bool) (t : Nat) (s : State) : Host.Outcome State Fault Refusal :=
  .next (s.updPkg p (fun k => (k.at t).viaPkg src 0x10010 .i (fun k => k.resetCmd 5 0 at_ (target == 0 && at_))))

/-- RESET_AT_TIME (R752): scheduled resets whose time has come act. -/
def execResetAtTime (p : PkgId) (t : Nat) (s : State) : Host.Outcome State Fault Refusal :=
  .next (s.updPkg p (fun k =>
    let k := k.at t
    let due := k.resetsAt.filter (fun r => decide (r.2.2 ≤ k.now))
    due.foldl (fun k r => k.askReset r.1 r.2.1 4 0) { k with resetsAt := k.resetsAt.filter (fun r => !decide (r.2.2 ≤ k.now)) }))

/-! ### Other sources (Table 16-2) -/

/-- PIN_RESET (R724): `PKG_RESET_N` has been low for 1 µs. -/
def execPinReset (p : PkgId) (t : Nat) (s : State) : Host.Outcome State Fault Refusal :=
  .next (s.updPkg p (fun k =>
    let k := { k.at t with pinLow := true }
    if k.linkHold.isSome ∨ k.bring.released.isNone = true then k else (k.recordCause 3 4 0 0).resetNow))

/-- PKG_RESET_RELEASE (R681, R724): the pin is released with rails kept, and a warm bring-up begins. -/
def execPkgResetRelease (p : PkgId) (t : Nat) (s : State) : Host.Outcome State Fault Refusal :=
  .next (s.updPkg p (fun k =>
    let k := k.at t
    if k.pinLow ∧ k.linkHold.isNone = true ∧ k.bring.released.isNone = true ∧ k.rails.mode = .on then k.release false else k))

/-- LINK_RESET_HOLD_END (R738): the hub is reset; bring-up follows at once unless the pin is held. -/
def execLinkResetHoldEnd (p : PkgId) (t : Nat) (s : State) : Host.Outcome State Fault Refusal :=
  let k := (s.pkg p).at t
  .next (match k.linkHold with
    | some b =>
      if b + 2000 ≤ k.now then
        (s.updPkg p (fun _ => let k := k.resetHub true; if k.pinLow then k else k.release false)).noteReset p
      else s.updPkg p (fun _ => k)
    | none => s.updPkg p (fun _ => k))

/-- ABSORB_HOLD_END (R736): LINK_RESET is sent, the ports stop, the hub is reset, and a warm bring-up begins (R722). -/
def execAbsorbHoldEnd (p : PkgId) (t : Nat) (s : State) : Host.Outcome State Fault Refusal :=
  let k := (s.pkg p).at t
  .next (match k.hold with
    | some b =>
      if b + 200000 ≤ k.now then (s.updPkg p (fun _ => (k.resetHub true).release false)).noteReset p else s.updPkg p (fun _ => k)
    | none => s.updPkg p (fun _ => k))

/-- Auxiliary power comes up (R723): the straps are sampled (R948), and the cause POWER_ON is recorded. -/
def Pkg.auxOn (k : Pkg) (p variant : Nat) : Pkg :=
  let k : Pkg := { k.auxLost with straps := { pkg := p, variant := variant }, pinLow := true }
  (k.updRails (fun r => { r with aux := true })).recordCause 1 4 0 0

/-- AUX_POWER_ON (R723). -/
def execAuxPowerOn (p : PkgId) (variant : Fin 4) (t : Nat) (s : State) : Host.Outcome State Fault Refusal :=
  .next (s.updPkg p (fun k =>
    let k := k.at t
    if k.rails.aux ∨ !k.rails.efuse then k else k.auxOn p variant))

/-- AUX_POWER_LOSS (R723, R950). -/
def execAuxPowerLoss (p : PkgId) (t : Nat) (s : State) : Host.Outcome State Fault Refusal :=
  .next ((s.updPkg p (fun k => (k.at t).auxLost)).updTray (trayOf p) (fun (y : Tray) => { y with locked := true }))

/-- BROWN_OUT (R805): the package resets at once, and the TMC powers it down, records RAIL_UNDERVOLT and tries again after 1 s unless
the tray's converters have stopped. -/
def State.brownOut (s : State) (p : PkgId) (rail t : Nat) : State :=
  let k := (s.pkg p).at t
  if rail = 0 ∨ k.getF (F.PWR_RL_STATE rail) ≠ 2 then s.updPkg p (fun _ => k)
  else
    let stopped := (s.tray (trayOf p)).stopped
    let k := (k.setF (F.PWR_RL_STATE rail) 3).recordCause 2 4 0 rail
    let k := if k.bring.released.isSome ∧ k.linkHold.isNone = true then k.resetNow else k
    let k := (k.powerDown).updRails (fun r => { r with retryAt := if stopped then none else some (k.now + 2000000000), fault := true })
    ((s.updPkg p (fun _ => k)).tmcLog p rail t 0x7903).post "RailFault" .critical p

/-- BROWN_OUT. -/
def execBrownOut (p : PkgId) (rail : Fin 11) (t : Nat) (s : State) : Host.Outcome State Fault Refusal := .next (s.brownOut p rail t)

/-- WATCHDOG_EXPIRY (R725): a drained package reset; in TRIAL the second one fails the trial (R935). -/
def execWatchdogExpiry (p : PkgId) (t : Nat) (s : State) : Host.Outcome State Fault Refusal :=
  .next (s.updPkg p (fun k =>
    let k := (k.at t).inc (F.RST_COUNTS 8)
    let k := if k.bc.state ≠ 2 then k
      else if k.bc.wdog = 0 then k.writeBoot (fun r => { r with wdog := 1 })
      else { (k.writeBoot (fun r => { r with state := 3, wdog := r.wdog + 1 })).logError 0x580A .package 0 0 with boot := { k.boot with failed := true } }
    k.askReset 4 0 6 0))

/-- Scope of a location of critical state (Table 16-4); none for an unknown code. -/
def criticalScope (loc : Nat) : Option Nat :=
  if 1 ≤ loc ∧ loc ≤ 3 then some 1
  else if loc = 0x10 then some 2
  else if 0x20 ≤ loc ∧ loc ≤ 0x23 then some 3
  else if 0x40 ≤ loc ∧ loc ≤ 0x48 then some 4
  else none

/-- CRITICAL_ERROR (R733, R740, R742): the failing unit is reset without drain at the scope of its location, and a drain of
it ends at once (Table 16-6); at PACKAGE scope, or under
the parity policy PACKAGE, the rest of the package drains first. `unit` is the core, cluster or slot. -/
def Pkg.critical (k : Pkg) (loc unit : Nat) : Pkg :=
  match criticalScope loc with
  | none => k
  | some sc =>
    let whole := sc == 4 || k.flag F.RS_PARITY
    let k := match sc with
      | 1 => if unit < 64 ∧ !k.inReset 1 unit then
          let k := { k with drains := k.drains.filter (fun (d : Drain) => !(d.scope == 1 && d.target == unit)) }
          k.coreFault unit loc else k
      | 2 => if unit < 4 ∧ !k.inReset 2 unit then
          let k := { k with drains := k.drains.filter (fun (d : Drain) => !k.scopeWithin (d.scope, d.target) (2, unit)) }
          let k := (List.range 16).foldl (fun k i =>
            let c := 16 * unit + i
            if (k.play c).isSome then ((k.latch c (k.getF (F.CORE_SEQ_NEXT c)) 0x7101 0).endPlay c (k.freeNat 32) none).draw else k) k
          (k.recordCause 8 2 loc unit).resetCluster unit else k
      | 3 => if unit < 4 ∧ k.slotHeld unit ∧ !k.inReset 3 unit then
          let k := { k with drains := k.drains.filter (fun (d : Drain) => !k.scopeWithin (d.scope, d.target) (3, unit)) }
          let k := (List.range 64).foldl (fun k c => if k.scopeHasCore 3 unit c then k.dropPlay c else k) k
          (k.recordCause 8 3 loc unit).resetSlot unit else k
      | _ => k
    if whole then k.askReset 4 0 8 loc else k

/-- CRITICAL_ERROR. -/
def execCriticalError (p : PkgId) (loc unit t : Nat) (s : State) : Host.Outcome State Fault Refusal :=
  .next (s.updMap p (fun k => (k.at t).critical loc unit))

/-! ### Out of reset (R746–R750) -/

/-- CLUSTER_RETRAIN_COMPLETE (R750). -/
def execClusterRetrainComplete (p : PkgId) (cl : ClusterId) (t : Nat) (s : State) : Host.Outcome State Fault Refusal :=
  .next (s.updPkg p (fun k => (k.at t).setBit F.RST_CLUSTER_RESET cl false))

/-- PARTITION_RELEASE (R746, R747): absorb ends, and the captain posts PARTITION_RESET with scope code 3. -/
def execPartitionRelease (p : PkgId) (slot : SlotId) (t : Nat) (s : State) : Host.Outcome State Fault Refusal :=
  .next (s.updPkg p (fun k =>
    let k := k.at t
    if k.releases.any (fun r => r.1 == slot.val && decide (r.2 ≤ k.now)) then
      let k := ({ k with releases := k.releases.filter (fun r => r.1 != slot.val) } : Pkg).setBit F.RST_SLOT_ABSORB slot false
      (k.postEvent slot 3 3).releaseHeld
    else k))

/-! ### Extension of a partition reset (R743–R745) -/

/-- The mode of management (R864): PAIRED unless an active lineup says otherwise. -/
def State.paired (s : State) : Bool :=
  match s.pkgs.toList.find? (fun k => k.lup.active.isSome) with
  | some k => k.flag F.GLB_MG_PAIRED
  | none => true

/-- The primary umpire (R876): 0 RMC-A, 1 RMC-B. -/
def State.primary (s : State) : Option Nat :=
  if (s.umpires[0]).line then some 0 else if (s.umpires[1]).line then some 1 else none

/-- The umpires' mirrored state, as an umpire holds it. -/
def State.mirrorOf (s : State) (u : Nat) : Mirror := ((s.umpires.toList)[u]?.map Umpire.mir).getD {}

/-- The primary's state; the state RMC-A holds while there is none. -/
def State.mir (s : State) : Mirror := s.mirrorOf (s.primary.getD 0)

/-- Change an umpire. -/
def State.updUmp (s : State) (u : Nat) (f : Umpire → Umpire) : State :=
  { s with umpires := s.umpires.setIfInBounds u (f (s.umpires.toList.getD u {})) }

/-- Change the primary's state. -/
def State.updMir (s : State) (f : Mirror → Mirror) : State :=
  match s.primary with
  | some u => s.updUmp u (fun (x : Umpire) => { x with mir := f x.mir })
  | none => s

/-- Packages of this rack that hold the partition a package holds in a slot, the package itself left out. -/
def State.otherHolders (s : State) (p : PkgId) (slot : Nat) : List Nat :=
  let k := s.pkg p
  (s.pkgs.toList.filter (fun q => q.id != k.id && q.slotHeld slot && q.getF (F.LUP_PART_ID slot) == k.getF (F.LUP_PART_ID slot))).map Pkg.id

/-- TMC_IBI (R743, R744): a package signals a partition reset it has begun. It acknowledges an extension that names it; otherwise, in
paired mode, the primary writes `RST_CMD` with AT and one time at every other package of the partition, at least 1 ms ahead. -/
def execTmcIbi (p : PkgId) (slot : SlotId) (ht t : Nat) (s : State) : Host.Outcome State Fault Refusal :=
  if !(s.pkg p).ibi.contains slot.val then .next s
  else
    let s := s.updPkg p (fun k => { k.at t with ibi := k.ibi.filter (fun x => x != slot.val) })
    let named (e : Nat × Nat × List Nat) : Bool := e.1 == slot.val && e.2.2.contains p.val
    if s.mir.exts.any named then
      let left := s.mir.exts.map (fun (e : Nat × Nat × List Nat) => if named e then (e.1, e.2.1, e.2.2.filter (fun q => q != p.val)) else e)
      .next (s.updMir (fun (m : Mirror) => { m with exts := left.filter (fun (e : Nat × Nat × List Nat) => !e.2.2.isEmpty) }))
    else if !s.paired ∨ s.primary.isNone = true then .next s
    else
      let others := s.otherHolders p slot
      let ht := max ht (t + 2000000)
      let s := others.foldl (fun (s : State) q => s.updNat q (fun (k : Pkg) =>
        (Pkg.setF { k with resetsAt := k.resetsAt ++ [(3, slot.val, ht)] } F.RST_CMD_HT ht).setF F.RST_CMD_STATUS 0)) s
      .next (s.updMir (fun (m : Mirror) => { m with exts := if others.isEmpty then m.exts else m.exts ++ [(slot.val, ht, others)] }))

end Sys2Proof.Machine
end

