-- ==== Sys2Proof/Machine/Power.lean ====
section
/-! DEFINITION. Power delivery, capping and energy (18_power.md): shelves and converters, the rail sequences, caps, boost steps and
gating, load previews, and the energy counters. -/

namespace Sys2Proof.Machine

/-! ### The power path (R789–R794) -/

/-- Power shelves that work. -/
def State.shelvesWorking (s : State) : Nat := (s.shelves.toList.filter id).length

/-- SHELF_FAILURE (R791): a shelf leaves the bus and its controller reports it. -/
def execShelfFailure (shelf : Fin 6) (s : State) : Host.Outcome State Fault Refusal :=
  .next (if s.shelves[shelf] then ({ s with shelves := s.shelves.set shelf false } : State).post "ShelfFault" .warning shelf else s)

/-- SHELF_RESTORED (R811): a shelf returns to the bus. Converters stopped by R793 run again: the spec names no event for it. -/
def execShelfRestored (shelf : Fin 6) (s : State) : Host.Outcome State Fault Refusal :=
  .next { s with shelves := s.shelves.set shelf true, trays := s.trays.map (fun (y : Tray) => { y with stopped := false }) }

/-- BUS_OUT_OF_RANGE (R793): the converters of the trays stop, and every package of theirs sees a brown-out on `rail`. -/
def execBusOutOfRange (rail : Fin 11) (t : Nat) (s : State) : Host.Outcome State Fault Refusal :=
  let s := { s with trays := s.trays.map (fun (y : Tray) => { y with stopped := true }) }
  .next ((List.finRange 72).foldl (fun (s : State) (p : Fin 72) => s.brownOut p rail t) s)

/-- Write `PWR_TRAY_LIMIT`: the package's safe cap while a limit of its tray holds, else 0. -/
def Pkg.writeTrayLimit (k : Pkg) (on : Bool) : Pkg :=
  let v := if on then k.getF F.PWR_CFG_SAFE else 0
  let k := k.setF F.PWR_TRAY_W v
  if v = 0 then k else k.raise F.PWR_EV_TRAY_LIMIT

/-- Put a limit on a tray, or take it off (R794, R859, R880): 0 converter, 1 supply temperature, 2 flow, 3 solo. -/
def State.setLimit (s : State) (n why : Nat) (on : Bool) : State :=
  let s := s.updTray n (fun (y : Tray) =>
    { y with limits := if on then (if y.limits.contains why then y.limits else y.limits ++ [why]) else y.limits.filter (fun x => x != why) })
  let any := !(s.tray n).limits.isEmpty
  (trayPkgs n).foldl (fun (s : State) q => s.updNat q (fun k => k.writeTrayLimit any)) s

/-- CONVERTER_FAILURE (R794): the TMC writes the safe cap at every package of the tray. -/
def execConverterFailure (tray : TrayId) (t : Nat) (s : State) : Host.Outcome State Fault Refusal :=
  if (s.tray tray).converters = 0 then .next s
  else
    let s := s.updTray tray (fun (y : Tray) => { y with converters := y.converters - 1, log := { status := 0x4905, pkg := 4 * tray, rail := 0, time := t } :: y.log })
    .next ((s.setLimit tray 0 true).post "ConverterDown" .warning tray)

/-! ### Rail sequences (R798–R806) -/

/-- R964: the tray's flow and supply temperature allow a power-up. -/
def Tray.mayPower (y : Tray) : Bool := decide (120 ≤ y.flow) && decide (y.supply ≤ 4500)

/-- A tray being made safe (R951): once every package's rails are off its input e-fuse opens, VDD_AUX is lost, the latch is released
and the lamp is blue. -/
def State.finishSafe (s : State) (n : Nat) : State :=
  if (s.tray n).safing ∧ (s.pkgs.toList.all (fun k => trayOf k.id != n || k.rails.mode == .off)) then
    let s := (trayPkgs n).foldl (fun (s : State) q => s.updNat q Pkg.auxLost) s
    s.updTray n (fun (y : Tray) => { y with safing := false, input := false, lamp := .blue, locked := !y.aux })
  else s

/-- RAIL_IN_REGULATION (R798, R800): the next rail is enabled; with every rail in regulation `PKG_RESET_N` is released and a cold
bring-up begins. -/
def execRailInRegulation (p : PkgId) (rail : Fin 11) (mv amps t : Nat) (s : State) : Host.Outcome State Fault Refusal :=
  .next (s.updPkg p (fun k =>
    let k := k.at t
    if k.rails.mode ≠ .up ∨ !k.rails.wait.any (fun w => w.1 == rail.val) then k
    else
      let k := k.updRails (fun (r : Rails) => { r with wait := r.wait.filter (fun w => w.1 != rail.val) })
      let k := ((k.setF (F.PWR_RL_STATE rail) 2).setF (F.PWR_RL_MV rail) mv).setF (F.PWR_RL_A rail) amps
      if rail.val < 6 then k.enableRails [rail.val + 1]
      else if rail.val = 6 then k.enableRails [7, 8, 9, 10]
      else if k.rails.wait.isEmpty then (k.updRails (fun (r : Rails) => { r with mode := .on, fault := false })).release true
      else k))

/-- RAIL_UP_TIMEOUT (R799): 10 ms after its enable a rail is not in regulation. -/
def execRailUpTimeout (p : PkgId) (rail : Fin 11) (t : Nat) (s : State) : Host.Outcome State Fault Refusal :=
  let k := (s.pkg p).at t
  if k.rails.mode ≠ .up ∨ !k.rails.wait.any (fun w => w.1 == rail.val && decide (w.2 + 20000000 ≤ k.now)) then .next (s.updPkg p (fun _ => k))
  else
    let fails := k.now :: k.rails.fails.filter (fun x => decide (k.now < x + 7200000000000))
    let k := k.powerDown.updRails (fun (r : Rails) => { r with
      fails := fails, fault := true, held := decide (3 ≤ fails.length)
      retryAt := if 3 ≤ fails.length then none else some (k.now + 20000000000) })
    .next (((s.updPkg p (fun _ => k)).tmcLog p rail t 0x7902).post "RailFault" .critical p)

/-- POWER_UP_RETRY (R799, R805): the wait is over and the TMC powers the package up again, unless R964 holds it. -/
def execPowerUpRetry (p : PkgId) (t : Nat) (s : State) : Host.Outcome State Fault Refusal :=
  let y := s.tray (trayOf p)
  .next (s.updPkg p (fun k =>
    let k := k.at t
    match k.rails.retryAt with
    | some w => if w ≤ k.now ∧ k.rails.mode = .off ∧ !k.rails.held ∧ y.mayPower ∧ !y.stopped then k.powerUp else k
    | none => k))

/-- RAIL_OFF (R801): a rail is off, and the next one is disabled. With VDD_HUB off the hub has lost its state. In a power-down of R806
the steps go by time. -/
def execRailOff (p : PkgId) (rail : Fin 11) (t : Nat) (s : State) : Host.Outcome State Fault Refusal :=
  .next (State.finishSafe (s.updPkg p (fun k =>
    let k := k.at t
    if !k.rails.late.any (fun w => w.1 == rail.val) then k
    else
      let k := if rail.val = 1 then { k.resetHub false with pinLow := true } else k
      let k := ((k.setF (F.PWR_RL_STATE rail) 0).setF (F.PWR_RL_MV rail) 0).setF (F.PWR_RL_A rail) 0
      let k := k.updRails (fun (r : Rails) => { r with late := r.late.filter (fun w => w.1 != rail.val) })
      if k.rails.step = rail.val ∧ (!k.rails.tripped ∨ rail.val = 1) then k.nextRail (rail.val - 1)
      else if k.rails.late.isEmpty ∧ k.rails.step ≤ 1 then k.updRails (fun (r : Rails) => { r with mode := .off, step := 0 })
      else k)) (trayOf p))

/-- RAIL_DOWN_STEP_TIMEOUT (R801, R802, R806): 5 ms after a disable, or 100 µs in a thermal trip, the TMC goes on to the next rail. -/
def execRailDownStepTimeout (p : PkgId) (t : Nat) (s : State) : Host.Outcome State Fault Refusal :=
  .next (s.updPkg p (fun k =>
    let k := k.at t
    let wait := if k.rails.tripped then 200000 else 10000000
    if k.rails.mode = .down ∧ k.rails.step ≠ 0 ∧ k.rails.stepAt + wait ≤ k.now then k.nextRail (k.rails.step - 1) else k))

/-- RAIL_STUCK_TIMEOUT (R803, R804): a rail not off after 50 ms; the package's e-fuse opens, and closes again after 10 s unless it is the
second time within 24 h. -/
def execRailStuckTimeout (p : PkgId) (rail : Fin 11) (t : Nat) (s : State) : Host.Outcome State Fault Refusal :=
  let k := (s.pkg p).at t
  if !k.rails.late.any (fun w => w.1 == rail.val && decide (w.2 + 100000000 ≤ k.now)) then .next (s.updPkg p (fun _ => k))
  else
    let again := k.rails.stuck.any (fun x => decide (k.now < x + 172800000000000))
    let k := k.auxLost.updRails (fun (r : Rails) => { r with
      efuse := false, stuck := k.now :: r.stuck, fault := true, held := again, retryAt := none
      closeAt := if again then none else some (k.now + 20000000000) })
    .next ((((s.updPkg p (fun _ => k)).tmcLog p rail t 0x7901).post "RailFault" .critical p).finishSafe (trayOf p))

/-- EFUSE_RECLOSE (R804): auxiliary power returns with the cause POWER_ON, and the package powers up unless R964 holds it. -/
def execEfuseReclose (p : PkgId) (variant : Fin 4) (t : Nat) (s : State) : Host.Outcome State Fault Refusal :=
  let y := s.tray (trayOf p)
  .next (s.updPkg p (fun k =>
    let k := k.at t
    match k.rails.closeAt with
    | some w =>
      if w ≤ k.now ∧ !k.rails.efuse then
        let k := (k.updRails (fun (r : Rails) => { r with efuse := true, closeAt := none })).auxOn p variant
        if y.mayPower then k.powerUp else k.updRails (fun (r : Rails) => { r with retryAt := some k.now })
      else k
    | none => k))

/-! ### The cap in force (R807–R812) -/

/-- Change the power controller's state. -/
def Pkg.updPower (k : Pkg) (f : Power → Power) : Pkg := { k with power := f k.power }

/-- The package is READY. -/
def Pkg.isReady (k : Pkg) : Bool := k.getF F.GLB_BU_PHASE == 7

/-- A cap, in µW, as it follows its input (R809): it rises at once and falls at `PW_RAMP` W per second; before READY it falls at once. -/
def rampCap (ready : Bool) (ramp dt old watts : Nat) : Nat :=
  let target := if watts = 0 then 2600000000 else watts * 1000000
  if old ≤ target ∨ !ready then target else max target (old - ramp * dt / 2000)

/-- An input of Table 18-4 in W that limits when it is nonzero. -/
def wattInput (code w : Nat) : List (Nat × Nat) := if w = 0 then [] else [(code, w * 1000)]

/-- The inputs whose fall takes effect at once (Table 18-4): limiter code and mW. -/
def Pkg.atOnceInputs (k : Pkg) : List (Nat × Nat) :=
  wattInput 3 (k.getF F.PWR_SHARE_W) ++ wattInput 4 (k.getF F.PWR_TRAY_W) ++ wattInput 5 (k.getF F.THM_FOLLOW) ++ [(6, 2600000)]

/-- The inputs enforced in the current mode (R808): in fixed-frequency mode the package cap only warns. -/
def Pkg.capInputs (k : Pkg) : List (Nat × Nat) :=
  (if k.flag F.PWR_FIXED ∨ k.lup.active.isNone then [] else [(1, k.power.cap / 1000)]) ++ k.atOnceInputs

/-- The lowest of some inputs, the first on a tie. -/
def lowestInput (xs : List (Nat × Nat)) : Nat × Nat := xs.foldl (fun a b => if b.2 < a.2 then b else a) (xs.headD (6, 2600000))

/-- The cap in force, in mW (R808). -/
def Pkg.capMw (k : Pkg) : Nat := (lowestInput k.capInputs).2

/-- The ceiling, in mW (R813, R823). -/
def Pkg.ceilMw (k : Pkg) : Nat := match k.power.rampCeil with
  | some c => min c k.capMw
  | none => k.capMw

/-- The power floor, in mW: the cap wins over it (Table 18-5). -/
def Pkg.floorMw (k : Pkg) : Nat := min k.power.rampFloor k.capMw

/-- What `PWR_STATUS` shows of cap, ceiling, floor and governing input. -/
def Pkg.showCaps (k : Pkg) : Pkg :=
  let low := lowestInput k.capInputs
  let k' := (k.setF F.PWR_CAP_NOW (low.2 / 1000)).setF F.PWR_CEILING (k.ceilMw / 1000)
  (k'.setF F.PWR_FLOOR (k.floorMw / 1000)).setF F.PWR_LIMITER (if k.ceilMw < low.2 then 7 else low.1)

/-- Move the caps along the ramp to now, and let a fall that takes effect at once lower the ramp reference (R809, R827). -/
def Pkg.refreshCaps (k : Pkg) : Pkg :=
  let old := k.getF F.PWR_CAP_NOW * 1000
  let dt := k.now - k.power.capAt
  let ramp := k.getF F.PWR_CFG_RAMP
  let k := k.updPower (fun (w : Power) => { w with
    cap := rampCap k.isReady ramp dt w.cap (k.getF F.PWR_CFG_CAP)
    parts := (List.range 4).map (fun s => rampCap k.isReady ramp dt (w.parts.getD s 2600000000) (k.getF (F.PWR_PART_CAP s)))
    capAt := k.now })
  let sudden := (lowestInput k.atOnceInputs).2
  let k := if sudden < old ∧ k.isReady then k.setF F.PWR_RAMP_REF (min (k.getF F.PWR_RAMP_REF) sudden) else k
  k.showCaps

/-- The cap in force of a slot's partition, in mW; none without one. -/
def Pkg.partCapMw (k : Pkg) (s : Nat) : Option Nat :=
  if k.getF (F.PWR_PART_CAP s) = 0 then none else some (k.power.parts.getD s 2600000000 / 1000)

/-! ### Gating (R814, R815, R821, R841) -/

/-- The power gate of a cluster in sixteenths. -/
def Pkg.clusterGate (k : Pkg) (cl : Nat) : Nat :=
  max (min 15 (k.power.gates.getD cl 0 + k.power.burstGate)) (if k.now < k.power.droops.getD cl 0 then 8 else 0)

/-- The gate in force on a core (R841, R843): the larger of its thermal gate and its cluster's power gate, and of the hub's gate when it
is ACTIVE. -/
def Pkg.gateOf (k : Pkg) (c : Nat) : Nat :=
  max (max (k.clusterGate (c / 16)) (k.getF (F.THM_CORE_GATE c))) (if k.getF (F.CORE_STATE c) = 3 then k.getF F.THM_HUB_GATE else 0)

/-- Show the gates in force: `PWR_CL_GATE`, `CORE_GATE` and `CORE_GATED`. -/
def Pkg.showGates (k : Pkg) : Pkg :=
  let k := (List.range 4).foldl (fun k cl => k.setF (F.PWR_CL_GATE cl) (k.clusterGate cl)) k
  let k := (List.range 64).foldl (fun k c => (k.setF (F.CORE_GATE c) (k.gateOf c)).setF (F.CORE_GATED c) (if k.gateOf c = 0 then 0 else 1)) k
  k.updPower (fun (w : Power) => { w with gated := w.gated || (List.range 64).any (fun c => k.gateOf c != 0) })

/-- Add a sample to a window. -/
def addSample (w : Nat × Nat) (mw : Nat) : Nat × Nat := (w.1 + 1, w.2 + mw)

/-- Mean of a window's samples. -/
def meanOf (w : Nat × Nat) : Nat := if w.1 = 0 then 0 else w.2 / w.1

/-- POWER_SAMPLE (R807): one sample of the input power (mW) and voltage (mV). In boost mode a 10 µs average 15% above the ceiling
gates by four sixteenths more until the next choice (R815). -/
def execPowerSample (p : PkgId) (mw mv t : Nat) (s : State) : Host.Outcome State Fault Refusal :=
  .next (s.updPkg p (fun k =>
    let k := (k.at t).setF F.PWR_IN_MV (mv / 10)
    let burst := addSample k.power.burst mw
    let overRun := burst.1 == 10 && !k.flag F.PWR_FIXED && decide (k.ceilMw * 115 < meanOf burst * 100)
    let high := decide (k.ceilMw * 92 ≤ mw * 100)
    let k := k.updPower (fun (w : Power) => { w with
      lastP := mw, epoch := addSample w.epoch mw, choice := addSample w.choice mw
      burst := if burst.1 = 10 then (0, 0) else burst
      burstGate := if overRun then 4 else w.burstGate
      highAt := if high then k.now else w.highAt })
    k.showGates))

/-- DROOP_CROSSING (R821): counted, and the cluster is gated by eight sixteenths for 1 µs. -/
def execDroopCrossing (p : PkgId) (cl : ClusterId) (t : Nat) (s : State) : Host.Outcome State Fault Refusal :=
  .next (s.updPkg p (fun k =>
    let k := ((k.at t).inc (F.PWR_COUNTS 1)).raise F.PWR_EV_DROOP
    (k.updPower (fun (w : Power) => { w with droops := w.droops.set cl (k.now + 2000) })).showGates))

/-! ### Boost steps (R813–R817) -/

/-- A partition is over its cap (R810). -/
def Pkg.partOver (k : Pkg) (s : Nat) : Bool := match k.partCapMw s with
  | some c => !k.flag F.PWR_FIXED && decide (c < k.getF (F.PWR_PART_MW s))
  | none => false

/-- A cluster's partition is over its cap, with its step already at 0. -/
def Pkg.clusterOver (k : Pkg) (cl : Nat) : Bool := match k.clusterSlot cl with
  | some s => k.partOver s && k.getF (F.PWR_PART_STEP s) == 0
  | none => false

/-- The step after a choice: `fall` steps down when power is above 98% of its limit, one up when it has stayed low, else held. -/
def nextStep (step power limit fall : Nat) (low : Bool) : Nat :=
  if limit * 98 < power * 100 then step - max 1 fall else if low then min 14 (step + 1) else step

/-- The gates after a choice (R814): with the step at 0 and power above the ceiling, clusters of partitions over their caps rise first;
below 92% of the ceiling they fall. -/
def Pkg.nextGates (k : Pkg) (power : Nat) : List Nat :=
  let overAt (cl : Nat) : Bool := k.clusterOver cl && decide (k.power.gates.getD cl 0 < 15)
  let hot := (List.range 4).any overAt
  let above := decide (k.ceilMw < power) && k.getF F.PWR_STEP == 0
  (List.range 4).map (fun cl =>
    let g := k.power.gates.getD cl 0
    if above then (if hot then (if overAt cl then g + 1 else g) else min 15 (g + 1))
    else if k.clusterOver cl then min 15 (g + 1)
    else if power * 100 < k.ceilMw * 92 then g - 1 else g)

/-- The step limit of each partition: 14 without a cap; otherwise moved by the rule of R813 against the partition's power and cap. -/
def Pkg.partSteps (k : Pkg) (fall : Nat) : Pkg :=
  (List.range 4).foldl (fun k s =>
    let was := k.getF (F.PWR_PART_STEP s)
    let mw := k.getF (F.PWR_PART_MW s)
    k.setF (F.PWR_PART_STEP s) (match k.partCapMw s with
      | none => 14
      | some c => if k.flag F.PWR_FIXED then 14 else nextStep was mw c fall (decide (mw * 100 < c * 92)))) k

/-- The step a cluster runs at (R813, R817, R843). -/
def Pkg.clusterStep (k : Pkg) (cl : Nat) : Nat :=
  if k.flag F.PWR_FIXED ∨ k.getF F.THM_HUB_GATE ≠ 0 then 0
  else min (min (k.getF F.PWR_STEP) (topStep k.id cl)) (match k.clusterSlot cl with
    | some s => k.getF (F.PWR_PART_STEP s)
    | none => 14)

/-- Set the clocks of the clusters (R127–R131). -/
def Pkg.setClocks (k : Pkg) : Pkg :=
  (List.range 64).foldl (fun k c => k.setF (F.CORE_CLK_MHZ c) (1500 + 25 * k.clusterStep (c / 16))) k

/-- BOOST_CHOICE (R813–R816): every 100 µs; how many steps are needed is the controller's prediction, a free value of at least one (log
entry 11). -/
def execBoostChoice (p : PkgId) (t : Nat) (s : State) : Host.Outcome State Fault Refusal :=
  .next (s.updPkg p (fun k =>
    let k := (k.at t).refreshCaps
    let power := if k.power.choice.1 = 0 then k.power.lastP else meanOf k.power.choice
    let was := k.getF F.PWR_STEP
    let gates := k.nextGates power
    let low := decide (k.power.highAt + 2000000 ≤ k.now)
    let step := if k.flag F.PWR_FIXED ∨ k.getF F.THM_HUB_GATE ≠ 0 then 0 else nextStep was power k.ceilMw (k.freeNat 4) low
    let k := (k.partSteps (k.freeNat 4)).draw.setF F.PWR_STEP step
    let k := if step = was then k else k.inc (F.PWR_COUNTS 6)
    let k := k.updPower (fun (w : Power) => { w with choice := (0, 0), burstGate := 0, gates := gates })
    k.setClocks.showGates))

/-! ### Load preview (R822) -/

/-- The level a core has announced for a volley: its newest announcement that covers it. -/
def Pkg.announced (k : Pkg) (core volley : Nat) : Nat :=
  ((k.announces.reverse.find? (fun (a : Announce) =>
    a.core == core && decide (a.ht / 2048 ≤ volley) && decide (volley < a.ht / 2048 + a.volleys))).map Announce.level).getD 0

/-- Sum of the levels of a cluster's cores for a volley. -/
def Pkg.clusterLevel (k : Pkg) (cl volley : Nat) : Nat := ((List.range 16).map (fun i => k.announced (16 * cl + i) volley)).sum

/-- Phases for a sum of levels: the current is 35 A × level ÷ 16 for each core, and a phase carries 30 A. -/
def phasesFor (level : Nat) : Nat := min 20 ((level * 35 + 479) / 480 + 2)

/-- Phases a cluster's regulator runs at least at a Hall Time: those of the volley, and those of announcements 1 µs away. -/
def Pkg.phasesAt (k : Pkg) (cl t : Nat) : Nat :=
  let soon := k.announces.filter (fun (a : Announce) => a.core / 16 == cl && decide (t < a.ht) && decide (a.ht ≤ t + 2000))
  soon.foldl (fun n (a : Announce) => max n (phasesFor (k.clusterLevel cl (a.ht / 2048)))) (phasesFor (k.clusterLevel cl (t / 2048)))

/-- ANNOUNCE_PHASE_WAKE (R822): the regulators run at least the announced phases; how many more they run for measured demand is open
(log entry 11). Announcements whose last volley has ended are dropped. -/
def execAnnouncePhaseWake (p : PkgId) (t : Nat) (s : State) : Host.Outcome State Fault Refusal :=
  .next (s.updPkg p (fun k =>
    let k := k.at t
    let k := { k with announces := k.announces.filter (fun (a : Announce) => decide (k.now / 2048 < a.ht / 2048 + a.volleys)) }
    let demand := k.freeNat 4 + 1
    ((List.range 4).foldl (fun k cl =>
      (k.setF (F.PWR_CL_PHASES cl) (max demand (k.phasesAt cl k.now))).setF (F.PWR_CL_ANN_MA cl) (k.clusterLevel cl (k.now / 2048) * 35000 / 16)) k).draw))

/-! ### Energy (R828–R830) -/

/-- The weights that share out the shared energy (R828): bytes moved, or the slots' own energy, or none. -/
def energyWeights (bytes own : List Nat) : List Nat := if 0 < bytes.sum then bytes else own

/-- The slot with the largest weight, the lowest on a tie. -/
def heaviest (w : List Nat) : Nat := (List.range 4).foldl (fun a i => if w.getD a 0 < w.getD i 0 then i else a) 0

/-- Parts of the shared energy by slot, and what goes to UNASSIGNED. -/
def shareEnergy (shared : Nat) (w : List Nat) : List Nat × Nat :=
  if w.sum = 0 then ([0, 0, 0, 0], shared)
  else
    let parts := (List.range 4).map (fun i => shared * w.getD i 0 / w.sum)
    (parts.set (heaviest w) (parts.getD (heaviest w) 0 + (shared - parts.sum)), 0)

/-- ENERGY_INTERVAL (R828): input energy, energy of all rails and of each VDD_CORE rail, and ballast of each cluster and the hub, in µJ,
over 100 µs. -/
def execEnergyInterval (p : PkgId) (ein eout : Nat) (ecl : List Nat) (bal : List Nat) (t : Nat) (s : State) : Host.Outcome State Fault Refusal :=
  .next (s.updPkg p (fun k =>
    let k := k.at t
    let own := (List.range 4).map (fun c => ein * ecl.getD c 0 / eout - bal.getD c 0)
    let bals := (bal.take 5).sum
    let shared := ein - own.sum - bals
    let ofSlot (s : Nat) : Nat := ((List.range 4).map (fun c => if k.slotHasCluster s c then own.getD c 0 else 0)).sum
    let slotOwn := (List.range 4).map ofSlot
    let (parts, rest) := shareEnergy shared (energyWeights k.power.moved slotOwn)
    let used := (List.range 4).map (fun s => slotOwn.getD s 0 + parts.getD s 0)
    let new := used ++ [bals, rest + (own.sum - slotOwn.sum)]
    let acc := (List.range 6).map (fun i => k.power.acc.getD i 0 + new.getD i 0)
    let k := (List.range 6).foldl (fun k i =>
      (k.addWrap (F.PWR_ENERGY i) (acc.getD i 0 / 1000)).addWrap (F.PWR_ENERGY 6) (acc.getD i 0 / 1000)) k
    k.updPower (fun (w : Power) => { w with
      acc := acc.map (fun x => x % 1000), moved := [0, 0, 0, 0]
      used := (List.range 4).map (fun s => w.used.getD s 0 + used.getD s 0) })))

/-- What a counter has gained since the last reading (R830). -/
def energyGain (old new : Nat) : Nat := if new < old then new else new - old

/-- The umpire reads one package's counters. -/
def State.readEnergy (s : State) (p : PkgId) : State :=
  let k := s.pkg p
  let new := (List.range 5).map (fun i => k.getF (F.PWR_ENERGY i))
  let old := ((s.lastEnergy.find? (fun e => e.1 == p.val)).map Prod.snd).getD []
  let gain (i : Nat) : Nat := energyGain (old.getD i 0) (new.getD i 0)
  let s := (List.range 4).foldl (fun (s : State) i =>
    let id := k.getF (F.LUP_PART_ID i)
    let sum := ((s.energy.find? (fun e => e.1 == id)).map Prod.snd).getD 0
    if k.slotHeld i then { s with energy := (id, sum + gain i) :: s.energy.filter (fun e => e.1 != id) } else s) s
  { s with ballast := s.ballast + gain 4, lastEnergy := (p.val, new) :: s.lastEnergy.filter (fun e => e.1 != p.val) }

/-- ENERGY_PUBLISH (R830): once per second the primary reads every powered package and publishes the sums. -/
def execEnergyPublish (t : Nat) (s : State) : Host.Outcome State Fault Refusal :=
  if s.primary.isNone then .next s
  else .next ((List.finRange 72).foldl (fun (s : State) (p : Fin 72) =>
    if (s.pkg p).rails.mode = .on ∧ (s.tray (trayOf p)).aux then (s.updPkg p (fun k => k.at t)).readEnergy p else s) s)

end Sys2Proof.Machine
end

