-- ==== Sys2Proof/Machine/Cooling.lean ====
section
/-! DEFINITION. Thermal control (19_cooling.md): sensors, the throttle, the trip, θ windows and levels, hold and release, junction
cycles, coolant faults. Temperatures are in 0.01 °C. -/

namespace Sys2Proof.Machine

/-- Change the thermal state. -/
def Pkg.updTherm (k : Pkg) (f : Therm → Therm) : Pkg := { k with therm := f k.therm }

/-- `TH_THROTTLE`; its default until a lineup is active. -/
def Pkg.throttleAt (k : Pkg) : Nat := 100 * (if k.lup.active.isNone then 100 else k.getF F.TH_THROTTLE)

/-- `TH_HARD`; its default until a lineup is active. -/
def Pkg.hardAt (k : Pkg) : Nat := 100 * (if k.lup.active.isNone then 105 else k.getF F.TH_HARD)

/-! ### Sensors and the hard limit (R835, R844) -/

/-- Set a thermal gate; becoming nonzero is a throttle entry. -/
def Pkg.setThermalGate (k : Pkg) (f : Fld) (g : Nat) : Pkg :=
  let k' := if k.getF f = 0 ∧ g ≠ 0 then (k.raise F.THM_EV_THROTTLE).inc (F.THM_COUNTS 0) else k
  k'.setF f g

/-- Count the cores with a nonzero thermal gate. -/
def Pkg.countGated (k : Pkg) : Pkg := k.setF F.THM_GATED ((List.range 64).filter (fun c => k.getF (F.THM_CORE_GATE c) != 0)).length

/-- A unit at `TH_HARD` (R844): its gate is 15 at once; on reaching the limit it is counted and announced. -/
def Pkg.hardLimit (k : Pkg) (f : Fld) (unit now before : Nat) : Pkg :=
  if now < k.hardAt then k
  else
    let k := k.setThermalGate f 15
    if before < k.hardAt then ((k.raise F.THM_EV_HARD).inc (F.THM_COUNTS 1)).notice "ThermalHardLimit" .critical unit else k

/-- The unit with the highest reading: the first on a tie. -/
def hottestUnit (xs : List (Nat × Nat)) : Nat × Nat := xs.foldl (fun a b => if a.2 < b.2 then b else a) (xs.headD (0, 0))

/-- Some unit is at `TH_HARD`. -/
def Pkg.anyHard (k : Pkg) (cores : List Nat) (hub : Nat) : Bool :=
  cores.any (fun x => decide (k.hardAt ≤ x)) || decide (k.hardAt ≤ hub) || k.therm.stackReads.any (fun x => decide (k.hardAt ≤ x))

/-- Junction readings enter the samples, the open θ window and the open minute (R850, R857). -/
def Pkg.sampleJunctions (k : Pkg) (cores : List Nat) (hub : Nat) : Pkg :=
  let hot := (hottestUnit (((List.range 64).zip cores) ++ [(0x40, hub)])).2
  let bad := !k.isReady || !k.flag F.THM_SUP_VALID || k.anyHard cores hub
  k.updTherm (fun (x : Therm) => { x with
    samples := ((cores, hub) :: x.samples).take 10
    winN := x.winN + 1, winTj := x.winTj + hot, winTs := x.winTs + toSigned 16 (k.getF F.THM_SUP_TEMP), winP := x.winP + k.power.lastP
    winBad := x.winBad || bad
    minN := x.minN + 1, minTj := x.minTj + hot })

/-- JUNCTION_SAMPLE (R835): every 10 µs, the 64 core junctions and the hottest hub junction. -/
def execJunctionSample (p : PkgId) (cores : List Nat) (hub t : Nat) (s : State) : Host.Outcome State Fault Refusal :=
  .next (s.updPost p (fun k =>
    let k := k.at t
    let last := k.therm.samples.head?
    let k := k.sampleJunctions cores hub
    let k := (List.range 64).foldl (fun k c => k.hardLimit (F.THM_CORE_GATE c) c (cores.getD c 0) ((last.map (fun x => x.1.getD c 0)).getD 0)) k
    let k := k.hardLimit F.THM_HUB_GATE 0x40 hub ((last.map Prod.snd).getD 0)
    let junctions := ((List.range 64).zip cores) ++ [(0x40, hub)]
    let units := junctions ++ ((List.range 8).map (fun i => (0x48 + i, k.therm.stackReads.getD i 0)))
    let k := (k.setF F.THM_HOT_TJ ((hottestUnit junctions).2 / 100)).setF F.THM_HOT_UNIT (hottestUnit units).1
    ((k.setF F.THM_HUB_TJ (hub / 100)).countGated).showGates))

/-- HBM_TEMPERATURE_SAMPLE (R835, R844): every 1 ms; a stack at 95 °C runs extended refresh, and one at `TH_HARD` counts as the hub. -/
def execHbmTemperatureSample (p : PkgId) (temps : List Nat) (t : Nat) (s : State) : Host.Outcome State Fault Refusal :=
  .next (s.updPost p (fun k =>
    let k := k.at t
    let old := k.therm.stackReads
    let new := (List.range 8).map (fun i => temps.getD i 0)
    let k := k.updTherm (fun (x : Therm) => { x with
      stackReads := new, refresh := ((List.range 8).map (fun i => if 9500 ≤ new.getD i 0 then 2 ^ i else 0)).sum
      winBad := x.winBad || new.any (fun x => decide (k.hardAt ≤ x)) })
    let k := (List.range 8).foldl (fun k i =>
      (k.setF (F.HBM_TEMP i) (new.getD i 0 / 100)).hardLimit F.THM_HUB_GATE (0x48 + i) (new.getD i 0) (old.getD i 0)) k
    k.showGates))

/-! ### The throttle (R838–R843) -/

/-- The gate of R839 after a step, from the mean temperature. -/
def stepGate (throttle hard g temp : Nat) : Nat :=
  if hard ≤ temp then 15 else if throttle ≤ temp then min 15 (g + 1) else if temp < throttle - 200 then g - 1 else g

/-- Mean of some readings. -/
def meanNat (xs : List Nat) : Nat := if xs.isEmpty then 0 else xs.sum / xs.length

/-- THERMAL_GATE_UPDATE (R839, R843): every 100 µs, from the mean of the last ten readings; while the hub's gate is nonzero the boost
step is 0. A stack at `TH_HARD` counts as the hub at `TH_HARD`. -/
def execThermalGateUpdate (p : PkgId) (t : Nat) (s : State) : Host.Outcome State Fault Refusal :=
  .next (s.updPkg p (fun k =>
    let k := k.at t
    if k.therm.samples.isEmpty then k
    else
      let k := (List.range 64).foldl (fun k c =>
        let m := meanNat (k.therm.samples.map (fun x => x.1.getD c 0))
        (k.setF (F.THM_CORE_TJ c) (m / 100)).setThermalGate (F.THM_CORE_GATE c) (stepGate k.throttleAt k.hardAt (k.getF (F.THM_CORE_GATE c)) m)) k
      let hub := meanNat (k.therm.samples.map Prod.snd)
      let hub := if k.therm.stackReads.any (fun x => decide (k.hardAt ≤ x)) then max hub k.hardAt else hub
      let k := k.setThermalGate F.THM_HUB_GATE (stepGate k.throttleAt k.hardAt (k.getF F.THM_HUB_GATE) hub)
      let k := if k.getF F.THM_HUB_GATE = 0 ∨ k.getF F.PWR_STEP = 0 then k else ((k.setF F.PWR_STEP 0).inc (F.PWR_COUNTS 6)).setClocks
      (k.countGated).showGates))

/-! ### The trip (R848, R849) -/

/-- THERMAL_TRIP (R848): power is removed, one rail every 100 µs, until a management power-on. -/
def execThermalTrip (p : PkgId) (t : Nat) (s : State) : Host.Outcome State Fault Refusal :=
  let k := (s.pkg p).at t
  if k.rails.mode = .off then .next (s.updPkg p (fun _ => k))
  else
    let k := (k.recordCause 0x0A 0 0 0).updRails (fun (r : Rails) => { r with tripped := true })
    .next ((s.updPkg p (fun _ => k.safetyDown)).post "ThermalTrip" .critical p)

/-! ### Supply readings (R836) -/

/-- SUPPLY_UPDATE (R836): every 100 ms the TMC writes temperature (0.01 °C) and flow (0.1 L/min) at its packages; a faulted sensor gives
no reading (Table 20-8). A tray limit in force is written again where a reset has cleared it (R831). -/
def execSupplyUpdate (tray : TrayId) (temp : Int) (flow t : Nat) (s : State) : Host.Outcome State Fault Refusal :=
  let y := s.tray tray
  let broken (code : Nat) : Bool := y.faults.any (fun f => f.1 == code)
  if !y.aux ∨ broken 5 then .next s
  else
    let flow := if broken 6 then y.flow else flow
    let s := s.updTray tray (fun (y : Tray) => { y with supply := temp, flow := flow })
    .next ((trayPkgs tray).foldl (fun (s : State) q => s.updNat q (fun k =>
      let k := ((k.at t).setF F.THM_SUP_TEMP (ofSigned 16 temp)).setF F.THM_SUP_FLOW flow
      let k := (k.raise F.THM_SUP_VALID).updTherm (fun (x : Therm) => { x with supplyAt := k.now })
      if !y.limits.isEmpty ∧ k.getF F.PWR_TRAY_W = 0 then k.writeTrayLimit true else k)) s)

/-- SUPPLY_STALE (R836): no write for 1 s. -/
def execSupplyStale (p : PkgId) (t : Nat) (s : State) : Host.Outcome State Fault Refusal :=
  .next (s.updPost p (fun k =>
    let k := k.at t
    if k.flag F.THM_SUP_VALID ∧ k.therm.supplyAt + 2000000000 ≤ k.now then (k.setF F.THM_SUP_VALID 0).notice "SensorLost" .warning k.id else k))

/-! ### Thermal resistance (R850–R856, R860) -/

/-- A quotient as an exact number with a sticky bit, fit for rounding to FP32. -/
def quotient (a : Int) (b : Nat) : Num :=
  let n := a.natAbs * 2 ^ 96
  .fin (decide (a < 0)) (2 * (n / b) + (if n % b = 0 then 0 else 1)) (-97)

/-- θ of a window (R850): 10 × (sum of tj − sum of ts) ÷ sum of p, rounded to FP32. -/
def thetaOf (x : Therm) : Num := (round32 (quotient (10 * ((x.winTj : Int) - x.winTs)) x.winP)).1

/-- floor(a × θ ÷ b). -/
def mulTheta (a : Int) (th : Num) (b : Nat) : Int :=
  match th with
  | .fin neg m e =>
    let v : Int := (if neg then -(m : Int) else m) * a
    if 0 ≤ e then v * 2 ^ e.toNat / b else v / (b * 2 ^ (-e).toNat : Nat)
  | _ => 0

/-- floor(a ÷ (b × θ)) for a θ above 0. -/
def divTheta (a : Int) (b : Nat) (th : Num) : Int :=
  match th with
  | .fin _ m e => if 0 ≤ e then a / (b * m * 2 ^ e.toNat : Nat) else a * 2 ^ (-e).toNat / (b * m : Nat)
  | _ => 0

/-- The excess, in tenths of a percent (R850): floor(1000 × (θ − θ0) ÷ θ0), θ0 the baseline × 0.0001. -/
def excessOf (th : Num) (baseline : Nat) : Int := mulTheta 10000000 th baseline - 1000

/-- The threshold of a level, in tenths of a percent. -/
def Pkg.threshold (k : Pkg) (level : Nat) : Int :=
  10 * ((if level = 1 then k.getF F.TH_WARN else if level = 2 then k.getF F.TH_FOLLOW else k.getF F.TH_HOLD : Nat) : Int)

/-- Three consecutive valid windows have been at or above a level's threshold. -/
def Pkg.reaches (k : Pkg) (xs : List Int) (level : Nat) : Bool := decide (3 ≤ xs.length) && (xs.take 3).all (fun x => decide (k.threshold level ≤ x))

/-- The level after a valid window (R851). -/
def Pkg.nextLevel (k : Pkg) (xs : List Int) : Nat :=
  let level := k.getF F.THM_LEVEL
  match [3, 2, 1].find? (fun l => decide (level < l) && k.reaches xs l) with
  | some l => l
  | none =>
    if (level = 1 ∨ level = 2) ∧ 6 ≤ xs.length ∧ (xs.take 6).all (fun x => decide (x < k.threshold level - 20)) then level - 1 else level

/-- `THM_RUN`: valid windows that count toward the next level, or else toward a fall. -/
def Pkg.runLength (k : Pkg) (xs : List Int) : Nat :=
  let level := k.getF F.THM_LEVEL
  if 3 ≤ level then 0
  else
    let up := (xs.takeWhile (fun x => decide (k.threshold (level + 1) ≤ x))).length
    if up ≠ 0 ∨ level = 0 then up else (xs.takeWhile (fun x => decide (x < k.threshold level - 20))).length

/-- Entry to HOLD (R855): every slot held here drains without a reset, `GLB_PS_READY` reads 0, and the following cap is 900 W. -/
def Pkg.enterHold (k : Pkg) : Pkg :=
  let k := (List.range 4).foldl (fun k s => if k.slotHeld s ∧ !k.slotClosed s then k.beginDrain 3 s 0 0 else k) k
  let k := (List.range 4).foldl (fun k s => k.setF (F.GLB_PS_READY s) 0) k
  ((k.setF F.THM_FOLLOW 900).raise F.THM_EV_HOLD).notice "ThermalHold" .critical k.id

/-- Enter a level (R853–R855). -/
def Pkg.enterLevel (k : Pkg) (level : Nat) : Pkg :=
  let k := k.setF F.THM_LEVEL level
  match level with
  | 0 => k.setF F.THM_FOLLOW 0
  | 1 => ((k.setF F.THM_FOLLOW 0).raise F.THM_EV_WARN).notice "ThermalResistanceHigh" .warning k.id
  | 2 => (k.raise F.THM_EV_FOLLOW).notice "ThermalCapFollowing" .warning k.id
  | _ => k.enterHold

/-- The following cap of a valid window (R854). -/
def Pkg.followCap (k : Pkg) (x : Therm) (th : Num) : Nat :=
  let n := x.winN
  (min 2600 (max 900 (divTheta (100 * k.getF F.TH_TARGET * n - x.winTs) (100 * n) th))).toNat

/-- A window's end (R850–R855). -/
def Pkg.thetaWindow (k : Pkg) : Pkg :=
  let x := k.therm
  let k := k.updTherm (fun (x : Therm) => { x with winN := 0, winTj := 0, winTs := 0, winP := 0, winBad := false })
  if x.winN = 0 ∨ x.winBad ∨ x.winP < 500000 * x.winN then k.inc (F.THM_COUNTS 3)
  else
    let th := thetaOf x
    let k := (k.inc (F.THM_COUNTS 2)).setF F.THM_THETA_FP32 th.bits32
    let base := k.getF F.THM_BASELINE
    if base = 0 then k
    else
      let ex := excessOf th base
      let k := (k.setF F.THM_EXCESS (ofSigned 16 ex)).updTherm (fun (x : Therm) => { x with excess := (ex :: x.excess).take 6 })
      let level := k.nextLevel k.therm.excess
      let k := if level = k.getF F.THM_LEVEL then k else k.enterLevel level
      let k := if level = 2 then k.setF F.THM_FOLLOW (k.followCap x th) else k
      (k.setF F.THM_RUN (k.runLength k.therm.excess)).refreshCaps

/-- Set or clear `GLB_PART_READY` of a partition at every package of the rack that holds it. -/
def State.setPartReady (s : State) (id : Nat) (ready : Bool) : State :=
  s.mapPkgs (fun k => (List.range 4).foldl (fun k i =>
    if k.slotHeld i ∧ k.getF (F.LUP_PART_ID i) = id then k.setF (F.GLB_PART_READY i) (if ready then 1 else 0) else k) k)

/-- Clear `GLB_PART_READY` of every partition that holds a package (R855, R887). -/
def State.clearReady (s : State) (p : PkgId) : State :=
  let k := s.pkg p
  (List.range 4).foldl (fun (s : State) i => if k.slotHeld i then s.setPartReady (k.getF (F.LUP_PART_ID i)) false else s) s

/-- THETA_WINDOW (R850): at Hall Time multiples of 10 s. On entry to HOLD the umpire clears the readiness of the package's partitions. -/
def execThetaWindow (p : PkgId) (t : Nat) (s : State) : Host.Outcome State Fault Refusal :=
  if t % 20000000000 ≠ 0 then .next s
  else
    let was := (s.pkg p).getF F.THM_LEVEL
    let s := s.updPost p (fun k => (k.at t).thetaWindow)
    .next (if was ≠ 3 ∧ (s.pkg p).getF F.THM_LEVEL = 3 ∧ s.paired ∧ s.primary.isSome then s.clearReady p else s)

/-- A release of HOLD (R856): refused while `THM_SUP_VALID` is 0 or the hottest junction is at or above `TH_TARGET`. -/
def Pkg.thermalRelease (k : Pkg) : Pkg :=
  if !k.flag F.THM_SUP_VALID ∨ k.getF F.TH_TARGET ≤ k.getF F.THM_HOT_TJ then k.report F.THM_REL_STATUS 0x3A02 .package 0 0
  else
    let k := k.setF F.THM_REL_STATUS 0
    if k.getF F.THM_LEVEL ≠ 3 then k
    else
      let k := (((k.setF F.THM_LEVEL 0).setF F.THM_FOLLOW 0).setF F.THM_RUN 0).updTherm (fun (x : Therm) => { x with excess := [] })
      let k := if k.isReady then (List.range 4).foldl (fun k s => if k.slotHeld s then k.raise (F.GLB_PS_READY s) else k) k else k
      k.refreshCaps

/-- THERMAL_RELEASE (R856). -/
def execThermalRelease (p : PkgId) (src : CsrSource) (t : Nat) (s : State) : Host.Outcome State Fault Refusal :=
  .next (s.updPkg p (fun k => (k.at t).viaPkg src 0x700030 .i Pkg.thermalRelease))

/-! ### Junction cycles (R857) -/

/-- Sum of the absolute differences of neighbours. -/
def stepSum : List Nat → Nat
  | a :: b :: r => (max a b - min a b) + stepSum (b :: r)
  | _ => 0

/-- JUNCTION_MINUTE (R857): the mean of the minute; with 61 means the cycle rate is the mean difference over 60 minutes. -/
def execJunctionMinute (p : PkgId) (t : Nat) (s : State) : Host.Outcome State Fault Refusal :=
  .next (s.updPost p (fun k =>
    let k := k.at t
    if k.therm.minN = 0 then k
    else
      let ms := (k.therm.minTj / k.therm.minN :: k.therm.minutes).take 61
      let k := k.updTherm (fun (x : Therm) => { x with minN := 0, minTj := 0, minutes := ms })
      if ms.length < 61 then k
      else
        let rate := stepSum ms / 60
        let k := k.setF F.THM_CYCLE_RATE rate
        if 800 < rate then (k.raise F.THM_EV_CYCLING).notice "ThermalCycling" .warning k.id else k))

/-! ### Coolant faults (R859) -/

/-- A safety power-down of the packages of a tray. -/
def State.trayDown (s : State) (n t : Nat) : State := (trayPkgs n).foldl (fun (s : State) q => s.updNat q (fun k => (k.at t).safetyDown)) s

/-- COOLANT_FAULT_CONDITION (R859): a row of Table 19-4 from 0, whose measurement has been out of range for its time. -/
def execCoolantFaultCondition (tray : TrayId) (row : Fin 8) (t : Nat) (s : State) : Host.Outcome State Fault Refusal :=
  if (s.tray tray).conds.contains row then .next s
  else
    let s := s.updTray tray (fun (y : Tray) => { y with conds := y.conds ++ [row.val] })
    .next (match row.val with
      | 0 => s.post "CoolantSupplyHigh" .warning tray
      | 1 => (s.setLimit tray 1 true).post "CoolantSupplyHigh" .warning tray
      | 2 => (s.trayDown tray t).post "CoolantFault" .critical tray
      | 3 => s.post "CoolantSupplyLow" .warning tray
      | 4 => (s.setLimit tray 2 true).post "CoolantFlowLow" .warning tray
      | 5 => (s.trayDown tray t).post "CoolantFault" .critical tray
      | 6 => ({ s with pressure := true } : State).post "CoolantPressure" .warning 0
      | _ => ((trayPkgs tray).foldl (fun (s : State) q => s.updNat q (fun k => (k.at t).setF F.THM_SUP_VALID 0)) s).post "SensorLost" .warning tray)

/-- COOLANT_CONDITION_END (R859): the measurement has been back in range for 10 s; a tray limit taken for it ends. -/
def execCoolantConditionEnd (tray : TrayId) (row : Fin 8) (s : State) : Host.Outcome State Fault Refusal :=
  if !(s.tray tray).conds.contains row then .next s
  else
    let s := s.updTray tray (fun (y : Tray) => { y with conds := y.conds.filter (fun x => x != row.val) })
    .next (match row.val with
      | 1 => s.setLimit tray 1 false
      | 4 => s.setLimit tray 2 false
      | 6 => { s with pressure := false }
      | _ => s)

end Sys2Proof.Machine
end

