-- ==== Sys2Proof/Machine/Epoch.lean ====
section
/-! DEFINITION. The epoch boundary (R82): stretch counts, requests and decisions, restored links and redistribution, stale biases, and
the power ramp. Roster activation, lineup application, template, call-table and bias loads are commands of their own. -/

namespace Sys2Proof.Machine

/-! ### Stretch (R77–R80, R845–R847) -/

/-- Rank 2: the stretch count of the epoch that begins, for each slot (R77); zero where none was received. -/
def Pkg.adoptStretch (k : Pkg) (epoch : Nat) : Pkg :=
  let count (s e : Nat) : Nat := ((k.time.stretchHeld.find? (fun h => h.1 == s && h.2.1 == e)).map (fun h => h.2.2)).getD 0
  let k' := (List.range 4).foldl (fun k s => (k.setF (F.HTM_STRETCH_CUR s) (count s epoch)).setF (F.HTM_STRETCH_NEXT s) (count s (epoch + 1))) k
  { k' with time := { k'.time with stretchHeld := k'.time.stretchHeld.filter (fun h => decide (epoch < h.2.1)) } }

/-- STRETCH_DECISION (R79, R80): the captain fixes the count of the epoch after the one that begins and sends it to every package. -/
def Pkg.decideStretch (k : Pkg) (epoch : Nat) : Pkg :=
  (List.range 4).foldl (fun k s =>
    if k.slotHeld s ∧ k.isCaptain s then
      let n := k.time.captainMax.toList.getD s 0
      let k := { k with time := { k.time with captainMax := k.time.captainMax.setIfInBounds s 0, stretchAfter := k.time.stretchAfter.setIfInBounds s n } }
      k.sendPartition 0x48 s (leBytes 8 (epoch + 1) ++ leBytes 1 n)
    else k) k

/-- The largest lost time of a slot's cores, in 1/256 tick (R846). -/
def Pkg.slotLost (k : Pkg) (lost : List Nat) (s : Nat) : Nat := (k.slotCores s).foldl (fun m c => max m (lost.getD c 0)) 0

/-- The stretch request for a lost time in 1/256 tick: min(128, ⌈L ÷ 2,048⌉). -/
def stretchRequest (lost : Nat) : Nat := min 128 ((lost + 524287) / 524288)

/-- STRETCH_REQ_SEND (R846, R847): requests of the epoch just ended, for slots whose template is in force. -/
def Pkg.requestStretch (k : Pkg) (epoch : Nat) (lost : List Nat) : Pkg :=
  (List.range 4).foldl (fun k s =>
    let l := k.slotLost lost s
    let n := if k.getF (F.FAB_LOADED s) = 1 then stretchRequest l else 0
    let k := ((k.setF (F.THM_LOST_TICKS s) (l / 256)).setF (F.THM_LOST_REQ s) n).setF (F.HTM_STRETCH_REQ s) n
    if n = 0 then k else (k.inc (F.THM_COUNTS 4)).sendHub 0x47 s (k.captain s) (leBytes 8 epoch ++ leBytes 1 n)) k

/-! ### Power at the boundary (R810, R816, R823–R827) -/

/-- The ramp reference after an epoch of mean power `p` (R823). -/
def rampRef (r p step : Nat) : Nat := min (max p (r - step)) (r + step)

/-- A cap that only warns is exceeded (R816). -/
def Pkg.capWarned (k : Pkg) : Bool :=
  k.flag F.PWR_FIXED && (decide (k.getF F.PWR_CFG_CAP * 1000 < k.getF F.PWR_IN_MW) ||
    (List.range 4).any (fun s => k.getF (F.PWR_PART_CAP s) != 0 && decide (k.getF (F.PWR_PART_CAP s) * 1000 < k.getF (F.PWR_PART_MW s))))

/-- Count an epoch above a cap that only warns; the sixteenth in a row is announced (R816). -/
def Pkg.countOver (k : Pkg) : Pkg :=
  if !k.capWarned then k.updPower (fun (w : Power) => { w with overCap := 0 })
  else
    let k := (k.inc (F.PWR_COUNTS 3)).updPower (fun (w : Power) => { w with overCap := w.overCap + 1 })
    if k.power.overCap = 16 then (k.raise F.PWR_EV_CAP_EXCEEDED).notice "PowerCapExceeded" .warning k.id else k

/-- RAMP_REFERENCE_UPDATE (R823, R826). -/
def Pkg.rampStep (k : Pkg) : Pkg :=
  if !k.isReady then k
  else
    let p := k.getF F.PWR_IN_MW
    let k := if p < k.floorMw then (k.inc (F.PWR_COUNTS 2)).raise F.PWR_EV_BALLAST_SHORT else k
    let r := rampRef (k.getF F.PWR_RAMP_REF) p (k.getF F.PWR_CFG_RAMP * 1048576 / 1000000)
    let d := k.getF F.PWR_CFG_PCT * (k.capMw / 1000) * 10
    ((k.setF F.PWR_RAMP_REF r).updPower (fun (w : Power) => { w with
      rampCeil := some (r + d), rampFloor := if k.flag F.PWR_CFG_BALLAST then r - d else 0 })).showCaps

/-- Close the epoch's power averages, and take the ramp step. -/
def Pkg.powerEpoch (k : Pkg) : Pkg :=
  let k := if k.power.epoch.1 = 0 then k else k.setF F.PWR_IN_MW (meanOf k.power.epoch)
  let k := (List.range 4).foldl (fun k s => k.setF (F.PWR_PART_MW s) (k.power.used.getD s 0 * 1000000 / 1048576)) k
  let k := if k.power.gated then k.inc (F.PWR_COUNTS 0) else k
  let k := k.updPower (fun (w : Power) => { w with epoch := (0, 0), used := [0, 0, 0, 0], gated := false })
  (k.countOver.refreshCaps).rampStep

/-! ### The boundary -/

/-- The work of an epoch boundary that opens `epoch`, in the order of R82; `lost` is each core's lost time of the epoch just ended. -/
def Pkg.boundary (k : Pkg) (epoch : Nat) (lost : List Nat) : Pkg :=
  let k := ((k.adoptStretch epoch).decideStretch epoch).requestStretch epoch lost
  let k := (List.range 4).foldl (fun k s => if k.getF (F.FAB_LOADED s) = 1 then k.redistribute s else k) k.restoreLinks
  let k := (List.range 4).foldl (fun k s => k.staleCheck s epoch) k
  k.powerEpoch

/-- EPOCH_BOUNDARY (R82), once Hall Time is valid. -/
def execEpochBoundary (p : PkgId) (lost : List Nat) (t : Nat) (s : State) : Host.Outcome State Fault Refusal :=
  .next (s.updPost p (fun k =>
    let k := k.at t
    if atBoundary t && k.flag F.HTM_VALID then k.boundary (t / epochTicks) lost else k))

end Sys2Proof.Machine
end

