-- ==== Sys2Proof/Machine/Management.lean ====
section
/-! DEFINITION. Management (20_management.md): the rack bus, election, solo, unit states and readiness, shares, maintenance windows and
connector faults. -/

namespace Sys2Proof.Machine

/-! ### Views of the rack -/

/-- The lineup in force, as the first package that has one holds it. -/
def State.lineup (s : State) : Option Lineup := (s.pkgs.toList.find? (fun k => k.lup.active.isSome)).bind (fun k => k.lup.active)

/-- The MGMT section in force. -/
def State.mgmt (s : State) : LupMgmt := (s.lineup.map Lineup.mgmt).getD {}

/-- The rack-bus node of a TMC (Table 20-3). -/
def trayNode (n : Nat) : Nat := n + 3

/-- The trays of the rack: 18, and 24 in the 72-S (Table 20-1). -/
def State.trayCount (s : State) : Nat := if (s.pkg 0).straps.variant = 1 then 24 else 18

/-- A TMC runs: its tray is there, it has 12 V, and it is not dead. -/
def State.tmcUp (s : State) (n : Nat) : Bool :=
  let y := s.tray n
  y.present && y.aux && !(s.controllers.toList.getD (trayNode n) {}).dead

/-- A TMC runs and is on the rack bus (Table 20-8, code 3). -/
def State.onBus (s : State) (n : Nat) : Bool := s.tmcUp n && !(s.tray n).faults.any (fun f => f.1 == 3)

/-- An umpire. -/
def State.ump (s : State) (u : Nat) : Umpire := s.umpires.toList.getD u {}

/-- When a node's last HEARTBEAT was heard. -/
def Bus.heardAt (b : Bus) (node : Nat) : Option Nat := (b.heard.find? (fun x => x.1 == node)).map Prod.snd

/-- A node has been heard within the last `span` ticks. -/
def Bus.heardWithin (b : Bus) (node span t : Nat) : Bool := match b.heardAt node with
  | some h => decide (t ≤ h + span)
  | none => false

/-- TMCs heard within the last 1 s. -/
def State.tmcsHeard (s : State) (t : Nat) : Nat :=
  ((List.range s.trayCount).filter (fun n => s.bus.heardWithin (trayNode n) 2000000000 t)).length

/-- A claim is valid (R871, R897): at least half of the TMCs have been heard, and the umpire has been up for 1 s. -/
def State.claimValid (s : State) (u t : Nat) : Bool :=
  (s.ump u).up && decide (s.trayCount ≤ 2 * s.tmcsHeard t) && decide ((s.ump u).started + 2000000000 ≤ t)

/-- Change a package for which a relation with its TMC exists: its hub has power. -/
def Pkg.hubOn (k : Pkg) : Bool := k.getF (F.PWR_RL_STATE 1) == 2

/-- Change the powered packages of a tray. -/
def State.updTrayPkgs (s : State) (n : Nat) (f : Pkg → Pkg) : State :=
  (trayPkgs n).foldl (fun (s : State) q => s.updNat q (fun k => if k.hubOn then f k else k)) s

/-! ### The rack bus (R866–R869) -/

/-- A node sends a message (R867): its count goes up. -/
def State.busSend (s : State) (type node flags ht : Nat) (body : List Nat) : State :=
  let n := ((s.bus.sent.find? (fun x => x.1 == node)).map Prod.snd).getD 0
  { s with bus := { s.bus with
      sent := (node, (n + 1) % 2 ^ 32) :: s.bus.sent.filter (fun x => x.1 != node)
      last := some { type := type, node := node, flags := flags, seq := n, ht := ht, body := body } } }

/-- `RB_FLAGS` of a node. -/
def State.busFlags (s : State) (node t : Nat) : Nat :=
  let solo := decide (3 ≤ node) && (s.tray (node - 3)).solo
  let umpire := node == 1 || node == 2
  (if solo then 1 else 0) + (if umpire && (s.ump (node - 1)).line then 2 else 0)
    + (if umpire && s.claimValid (node - 1) t then 4 else 0) + (if s.paired then 8 else 0)

/-- `RB_HT`: a node's Hall Time, 0 when it has none. -/
def State.busTime (s : State) (t : Nat) : Nat := if s.noneValid then 0 else t

/-- A node runs: an umpire, a TMC, or another controller that is not dead. -/
def State.nodeUp (s : State) (node : Nat) : Bool :=
  if node = 0 ∨ 33 < node then false
  else if node ≤ 2 then (s.ump (node - 1)).up
  else if node ≤ 26 then s.onBus (node - 3)
  else !(s.controllers.toList.getD node {}).dead

/-- HEARTBEAT_SEND (R867): the nodes heard within 300 ms, the rack serial, the digest of the sender's packages, and its health bits. -/
def execHeartbeatSend (node : Fin 34) (health t : Nat) (s : State) : Host.Outcome State Fault Refusal :=
  if !s.nodeUp node then .next s
  else
    let seen := ((List.range 34).map (fun n => if s.bus.heardWithin n 600000000 t then 2 ^ n else 0)).sum
    let own := if 3 ≤ node.val ∧ node.val ≤ 20 then s.pkgs.toList[4 * (node.val - 3)]? else none
    let serial := (s.pkg 0).getF F.LUP_RACK_SERIAL
    let digest := (own.map (fun k => k.getF F.LUP_DIGEST32)).getD 0
    .next (s.busSend 0x01 node (s.busFlags node t) (s.busTime t) [seen, serial, digest, health])

/-- A frame of an unknown version is dropped and counted (R867). -/
def State.dropFrame (s : State) : State := { s with bus := { s.bus with drops := s.bus.drops + 1 } }

/-- The pattern of a tray's service lamp (Table 22-3). -/
def State.lampOf (s : State) (n : Nat) : Lamp :=
  let y := s.tray n
  if !y.aux then .off
  else if (s.controllers.toList.getD (trayNode n) {}).dead then .amber 10
  else match y.faults with
    | f :: _ => .amber f.1
    | [] => if !y.input then .blue else if y.solo then .greenBlink else .green

/-- Show a tray's lamp. -/
def State.showLamp (s : State) (n : Nat) : State := s.updTray n (fun (y : Tray) => { y with lamp := s.lampOf n })

/-- A TMC is acknowledged (R869); one in solo leaves it (R881). -/
def State.acknowledge (s : State) (n t : Nat) : State :=
  let was := (s.tray n).solo
  let s := s.updTray n (fun (y : Tray) => { y with lastAck := t, solo := false })
  if was then ((s.updTrayPkgs n (fun k => k.setF F.GLB_MG_SOLO 0)).setLimit n 3 false).showLamp n |>.post "TrayManagementRejoined" .warning n else s.showLamp n

/-- HEARTBEAT (R869): the node is heard, and the TMCs it lists are acknowledged; in paired mode only the primary acknowledges. -/
def execHeartbeat (ver : Nat) (node : Fin 34) (seen health t : Nat) (s : State) : Host.Outcome State Fault Refusal :=
  if ver ≠ 1 then .next s.dropFrame
  else
    let s := { s with bus := { s.bus with
      heard := (node.val, t) :: s.bus.heard.filter (fun x => x.1 != node.val)
      health := (node.val, health) :: s.bus.health.filter (fun x => x.1 != node.val) } }
    let counts := !s.paired || s.primary == some (node.val - 1) && (node.val == 1 || node.val == 2)
    .next (if counts then (List.range 24).foldl (fun (s : State) n => if bit seen (trayNode n) && s.onBus n then s.acknowledge n t else s) s else s)

/-! ### Election (R870–R878) -/

/-- Each TMC takes its primary from the lines (R876), and tells its packages. -/
def State.takePrimary (s : State) : State :=
  let u := match s.primary with
    | some u => u + 1
    | none => 0
  (List.range 24).foldl (fun (s : State) n =>
    if s.tmcUp n then (s.updTray n (fun (y : Tray) => { y with claimed := u })).updTrayPkgs n (fun k => k.setF F.GLB_MG_PRIMARY u) else s) s

/-- CLAIM (R876): the TMCs take the umpire whose line is asserted. -/
def execClaim (ver : Nat) (umpire : Fin 2) (t : Nat) (s : State) : Host.Outcome State Fault Refusal :=
  .next (if ver ≠ 1 then s.dropFrame
    else ({ s with bus := { s.bus with heard := (umpire.val + 1, t) :: s.bus.heard.filter (fun x => x.1 != umpire.val + 1) } } : State).takePrimary)

/-- UMPIRE_RELEASE (R873, R876): a RELEASE is received; cause 1 quorum lost, 2 yielded, 3 shutdown. -/
def execUmpireRelease (ver : Nat) (umpire : Fin 2) (cause t : Nat) (s : State) : Host.Outcome State Fault Refusal :=
  .next (if ver ≠ 1 then s.dropFrame
    else ({ s with bus := { s.bus with last := some { type := 0x03, node := umpire.val + 1, flags := 0, seq := 0, ht := t, body := [cause] } } } : State).takePrimary)

/-- An umpire's line is released at `t`; with no line left the rack has no primary. -/
def State.releaseLine (s : State) (u t : Nat) : State :=
  let s := s.updUmp u (fun (x : Umpire) => { x with line := false, released := t })
  if s.primary.isNone then { s with noPrimary := some t, noPrimaryPosted := false } else s

/-- PRIMARY_LINE_RELEASE (R870): hardware releases the line of an umpire whose watchdog has run out. -/
def execPrimaryLineRelease (umpire : Fin 2) (t : Nat) (s : State) : Host.Outcome State Fault Refusal :=
  .next (if (s.ump umpire).line then (s.releaseLine umpire t).takePrimary else s)

/-- A new primary sends every pending extension again at the packages that have not acknowledged it (R878); a time past acts at once. -/
def State.resendExts (s : State) (t : Nat) : State :=
  s.mir.exts.foldl (fun (s : State) e => e.2.2.foldl (fun (s : State) q => s.updNat q (fun k =>
    let k := (k.at t).setF F.RST_CMD_HT e.2.1
    if k.resetsAt.contains (3, e.1, e.2.1) then k else k.resetCmd 3 e.1 true (k.slotHeld e.1))) s) s

/-- PRIMARY_ASSERT (R872, R873): with a valid claim and the other line released for 300 ms. When both assert in one instant RMC-B yields
with RELEASE cause 2. -/
def execPrimaryAssert (umpire : Fin 2) (t : Nat) (s : State) : Host.Outcome State Fault Refusal :=
  let u := umpire.val
  let other := s.ump (1 - u)
  if (s.ump u).line ∨ !s.paired ∨ !s.claimValid u t ∨ (if other.line then other.asserted ≠ t else t < other.released + 600000000) then .next s
  else
    let s := s.updUmp u (fun (x : Umpire) => { x with line := true, asserted := t, polled := false })
    let s := s.busSend 0x02 (u + 1) (s.busFlags (u + 1) t) (s.busTime t) [u + 1, s.tmcsHeard t]
    let s := if other.line then (s.releaseLine 1 t).busSend 0x03 2 (s.busFlags 2 t) (s.busTime t) [2] else s
    let s := { s with noPrimary := none, noPrimaryPosted := false }
    .next (s.resendExts t).takePrimary

/-- QUORUM_LOSS (R874): a primary whose claim is no longer valid releases its line, with RELEASE cause 1. -/
def execQuorumLoss (umpire : Fin 2) (t : Nat) (s : State) : Host.Outcome State Fault Refusal :=
  let u := umpire.val
  .next (if (s.ump u).line ∧ !s.claimValid u t then
      ((s.releaseLine u t).busSend 0x03 (u + 1) (s.busFlags (u + 1) t) (s.busTime t) [1]).takePrimary
    else s)

/-- MIRROR_SYNC (R877): the standby takes what the primary holds. -/
def execMirrorSync (s : State) : Host.Outcome State Fault Refusal :=
  .next (match s.primary with
    | some u => if (s.ump (1 - u)).up then s.updUmp (1 - u) (fun (x : Umpire) => { x with mir := s.mirrorOf u }) else s
    | none => s)

/-- NO_PRIMARY_TIMEOUT (Table 20-13): no primary for 1 s in paired mode. -/
def execNoPrimaryTimeout (t : Nat) (s : State) : Host.Outcome State Fault Refusal :=
  .next (if s.paired ∧ s.primary.isNone ∧ !s.noPrimaryPosted ∧ s.noPrimary.getD 0 + 2000000000 ≤ t then
      ({ s with noPrimaryPosted := true } : State).post "NoPrimary" .critical 0
    else s)

/-! ### Solo (R879–R881) -/

/-- SOLO_ENTRY (R879, R880, R897): a TMC not acknowledged for `MG_SOLO` seconds runs its tray alone at the safe cap. -/
def execSoloEntry (tray : TrayId) (t : Nat) (s : State) : Host.Outcome State Fault Refusal :=
  let y := s.tray tray
  let wait := s.mgmt.solo * 2000000000
  if !s.tmcUp tray ∨ y.solo ∨ t < y.lastAck + wait ∨ t < y.started + wait then .next s
  else
    let s := (s.updTray tray (fun (y : Tray) => { y with solo := true })).setLimit tray 3 true
    .next (((s.updTrayPkgs tray (fun k => k.raise F.GLB_MG_SOLO)).showLamp tray).post "TraySolo" .warning tray)

/-! ### Messages a TMC acts on (R868) -/

/-- The message comes from the primary umpire, and the TMC hears it. -/
def State.fromPrimary (s : State) (node tray : Nat) : Bool :=
  s.onBus tray && (node == 1 || node == 2) && s.primary == some (node - 1)

/-- Receive a message of the primary at a TMC. -/
def State.atTmc (s : State) (ver node tray : Nat) (f : State → State) : State :=
  if ver ≠ 1 then s.dropFrame else if s.fromPrimary node tray then f s else s

/-- A management power-on of a package (R799, R804, R849): it ends a hold; a package whose e-fuse is open has it closed. The TMC refuses
while R964 holds, or while the tray is held (R942). -/
def State.powerOn (s : State) (p t : Nat) : State :=
  let y := s.tray (trayOf p)
  if !y.mayPower ∨ y.held ∨ !y.input then s
  else s.updNat p (fun k =>
    let k := (k.at t).updRails (fun (r : Rails) => { r with held := false, tripped := false, closeAt := none })
    let k := if k.rails.efuse then k else (k.updRails (fun (r : Rails) => { r with efuse := true })).auxOn k.id k.straps.variant
    k.powerUp)

/-- Packages of a tray that a mask names. -/
def maskPkgs (tray mask : Nat) : List Nat := (trayPkgs tray).filter (fun q => bit mask (socketOf q))

/-- POWER_CMD_ON (R868). -/
def execPowerCmdOn (ver : Nat) (node : Fin 34) (tray : TrayId) (mask : Fin 16) (t : Nat) (s : State) : Host.Outcome State Fault Refusal :=
  .next (s.atTmc ver node tray (fun s => (maskPkgs tray mask).foldl (fun (s : State) q => s.powerOn q t) s))

/-- A management power-off (R801): no retry follows. -/
def Pkg.powerOff (k : Pkg) : Pkg := k.powerDown.updRails (fun (r : Rails) => { r with retryAt := none })

/-- POWER_CMD_OFF (R868). -/
def execPowerCmdOff (ver : Nat) (node : Fin 34) (tray : TrayId) (mask : Fin 16) (t : Nat) (s : State) : Host.Outcome State Fault Refusal :=
  .next (s.atTmc ver node tray (fun s => (maskPkgs tray mask).foldl (fun (s : State) q => s.updNat q (fun k => (k.at t).powerOff)) s))

/-- POWER_CMD_EFUSE_OPEN (R868): every rail of the package goes, VDD_AUX included. -/
def execPowerCmdEfuseOpen (ver : Nat) (node : Fin 34) (tray : TrayId) (mask : Fin 16) (t : Nat) (s : State) : Host.Outcome State Fault Refusal :=
  .next (s.atTmc ver node tray (fun s => (maskPkgs tray mask).foldl (fun (s : State) q => s.updNat q (fun k =>
    ((k.at t).auxLost).updRails (fun (r : Rails) => { r with efuse := false, closeAt := none, retryAt := none }))) s))

/-- POWER_CMD_EFUSE_CLOSE (R868): auxiliary power returns; with the tray's input open it is closed too, and the latch locks (R950). -/
def execPowerCmdEfuseClose (ver : Nat) (node : Fin 34) (tray : TrayId) (mask : Fin 16) (t : Nat) (s : State) : Host.Outcome State Fault Refusal :=
  .next (s.atTmc ver node tray (fun s =>
    let s := (s.updTray tray (fun (y : Tray) => { y with input := true, locked := true })).showLamp tray
    (maskPkgs tray mask).foldl (fun (s : State) q => s.updNat q (fun k =>
      let k := (k.at t).updRails (fun (r : Rails) => { r with efuse := true, closeAt := none })
      if k.rails.aux then k else k.auxOn k.id k.straps.variant)) s))

/-- POWER_DONE (R868): the primary receives a command's status. -/
def execPowerDone (ver : Nat) (id : Nat) (st : Nat) (s : State) : Host.Outcome State Fault Refusal :=
  .next (if ver ≠ 1 then s.dropFrame
    else { s with bus := { s.bus with cmds := s.bus.cmds.filter (fun c => c.1 != id), done := some (id, st) } })

/-- SHARE (R868): the TMC writes `PWR_SHARE` at its packages. -/
def execShare (ver : Nat) (node : Fin 34) (tray : TrayId) (watts t : Nat) (s : State) : Host.Outcome State Fault Refusal :=
  .next (s.atTmc ver node tray (fun s => s.updTrayPkgs tray (fun k =>
    let k := k.at t
    (k.setF F.PWR_SHARE_W watts).noteLimits k)))

/-- UNITS (R868): the TMC takes the rack's unit states and writes those of its packages. -/
def execUnits (ver : Nat) (node : Fin 34) (tray : TrayId) (states : List Nat) (s : State) : Host.Outcome State Fault Refusal :=
  .next (s.atTmc ver node tray (fun s =>
    (s.updTray tray (fun (y : Tray) => { y with units := states })).updTrayPkgs tray (fun k => k.setF F.GLB_MG_STATE (states.getD k.id 0))))

/-- MAINT (R868): the TMC writes `LNK_MAINT` at its packages. -/
def execMaint (ver : Nat) (node : Fin 34) (tray : TrayId) (on : Bool) (s : State) : Host.Outcome State Fault Refusal :=
  .next (s.atTmc ver node tray (fun s => s.updTrayPkgs tray (fun k => k.setF F.LNK_MAINT_EN (if on then 1 else 0))))

/-- Put a package's unit state, as the primary holds it. -/
def State.setUnit (s : State) (p : Nat) (x : UnitState) : State := s.updMir (fun (m : Mirror) => { m with units := m.units.setIfInBounds p x })

/-- A package's unit state, as the primary holds it. -/
def State.unit (s : State) (p : Nat) : UnitState := s.mir.units.toList.getD p {}

/-- Rule 1 of R883: a package that safety has powered down. -/
def Pkg.unsafe_ (k : Pkg) : Bool := k.rails.fault || k.rails.tripped

/-- ALERT (R892): the primary takes its safety action, rule 1 of R883, for packages that safety has powered down: the package named, or
those of the tray named. -/
def execAlert (ver : Nat) (unit : Nat) (wholeTray : Bool) (t : Nat) (s : State) : Host.Outcome State Fault Refusal :=
  if ver ≠ 1 then .next s.dropFrame
  else
    let ps := if wholeTray then trayPkgs unit else [unit]
    .next (ps.foldl (fun (s : State) q => match s.pkgs.toList[q]? with
      | some k => if k.unsafe_ ∧ (s.unit q).state ≠ 3 ∧ s.primary.isSome then (s.setUnit q { state := 3, since := t }).post "UnitDown" .critical q else s
      | none => s) s)

/-- PRESENCE (R867): a tray comes, goes, or its input changes. A tray that comes is whole again: R794 and R942 end. -/
def execPresence (ver : Nat) (tray : TrayId) (inserted input : Bool) (t : Nat) (s : State) : Host.Outcome State Fault Refusal :=
  if ver ≠ 1 then .next s.dropFrame
  else
    let was := (s.tray tray).present
    let s := s.updTray tray (fun (y : Tray) => { y with present := inserted, input := input && inserted })
    let s := if inserted && !was then
        (s.updTray tray (fun (y : Tray) => { y with aux := true, converters := 2, held := false, started := t, lastAck := t, solo := false })).setLimit tray 0 false
      else if !inserted then (s.updTray tray (fun (y : Tray) => { y with aux := false })) else s
    let s := if inserted && input then s else (trayPkgs tray).foldl (fun (s : State) q => s.updNat q (fun k => (k.at t).auxLost)) s
    .next (s.showLamp tray)

/-! ### Rack share (R811, R812) -/

/-- Shelf capacity in W (R790). -/
def State.capacity (s : State) : Nat := if 5 ≤ s.shelvesWorking then 180000 else 36000 * s.shelvesWorking

/-- SHARE_COMPUTE (R811): from the shelves' output and the 72 package inputs, in W; the primary writes the share at every package whose
lineup is ACTIVE and sends SHARE. In standalone mode no unit computes one. -/
def execShareCompute (output inputs t : Nat) (s : State) : Host.Outcome State Fault Refusal :=
  match s.primary with
  | none => .next s
  | some u =>
    if !s.paired then .next s
    else
      let budget := min ((s.lineup.map (fun l => l.power.budget)).getD 0) (s.capacity - (output - inputs))
      let share := budget / 72
      let s := s.updMir (fun (m : Mirror) => { m with share := share })
      let s := s.busSend 0x30 (u + 1) (s.busFlags (u + 1) t) (s.busTime t) [share]
      .next ((List.range 18).foldl (fun (s : State) n =>
        if s.tmcUp n then s.updTrayPkgs n (fun k => if k.lup.active.isSome then ((k.at t).setF F.PWR_SHARE_W share).noteLimits k else k) else s) s)

/-! ### Exclusion (R884–R886) -/

/-- Packages excluded from a partition: own packages whose unit state is not UP, and those that other racks' summaries name, as rack,
package and state. -/
def State.excludedOf (s : State) (rack part slot : Nat) : List (Nat × Nat × Nat) :=
  let own := (List.range 72).filterMap (fun q =>
    let x := (s.unit q).state
    match s.pkgs.toList[q]? with
    | some k => if k.slotHeld slot ∧ k.getF (F.LUP_PART_ID slot) = part ∧ x ≠ 0 then some (rack, q, x) else none
    | none => none)
  own ++ (s.summaries.filter (fun (y : Summary) => y.part == part && y.rack != rack)).flatMap (fun (y : Summary) => y.excluded.map (fun q => (y.rack, q, 2)))

/-- Write the exclusion list of a slot: the first 128 entries, and `GLB_EXCL_ALL` when there are more (R886). -/
def Pkg.writeExclusions (k : Pkg) (slot : Nat) (xs : List (Nat × Nat × Nat)) : Pkg :=
  let k := (List.range 128).foldl (fun k i => match xs[i]? with
    | some (r, q, st) => (((k.raise (F.GLB_EX_VALID slot i)).setF (F.GLB_EX_STATE slot i) st).setF (F.GLB_EX_RACK slot i) r).setF (F.GLB_EX_PKG slot i) q
    | none => if k.flag (F.GLB_EX_VALID slot i) then
        (((k.setF (F.GLB_EX_VALID slot i) 0).setF (F.GLB_EX_STATE slot i) 0).setF (F.GLB_EX_RACK slot i) 0).setF (F.GLB_EX_PKG slot i) 0 else k) k
  (k.setF (F.GLB_EXCL_ALL slot) (if 128 < xs.length then 1 else 0)).countExcluded slot

/-- EXCLUSION_UPDATE (R884): the exclusion lists at every captain of the rack. -/
def State.updateExclusions (s : State) : State :=
  (List.finRange 72).foldl (fun (s : State) (p : Fin 72) =>
    let k := s.pkg p
    (List.range 4).foldl (fun (s : State) i =>
      if k.slotHeld i ∧ k.isCaptain i ∧ k.hubOn then s.updPkg p (fun k => k.writeExclusions i (s.excludedOf k.rack (k.getF (F.LUP_PART_ID i)) i)) else s) s) s

/-! ### Unit states (R883) -/

/-- The management view: the TMC answered the poll and read the package. -/
def State.mgmtView (s : State) (answers p : Nat) : Bool :=
  bit answers (trayOf p) && (match s.pkgs.toList[p]? with
    | some k => k.hubOn
    | none => false)

/-- The data-path view: a braid port of a package on another tray reads UP toward this package, according to that package's TMC. -/
def State.dataView (s : State) (answers p : Nat) : Bool :=
  s.pkgs.toList.any (fun k => trayOf k.id != trayOf p && bit answers (trayOf k.id) && k.hubOn && (List.range 16).any (fun n =>
    k.linkSt n == 5 && (k.lup.active.bind (fun l => expectedPeer l k.rack k.id n)).map (fun e => e.2.1) == some p))

/-- The unit state after a poll (R883, rules 1–5 in order). Packages made safe by the service button become OFF once DOWN (R951). -/
def nextUnit (g : LupMgmt) (x : UnitState) (safety safed mgmt data : Bool) (t : Nat) : UnitState :=
  if safety then (if x.state = 3 then x else { state := 3, since := t })
  else if !data then
    (if safed && x.state == 2 then { state := 3, since := t }
     else if x.state = 2 then { x with agree := 0 }
     else if x.state = 3 ∧ safed then { x with agree := 0 }
     else { state := 2, since := t })
  else
    let x := if !mgmt then (if x.state = 0 then { state := 1, since := t } else { x with agree := 0 })
      else if x.state = 0 then x
      else if x.agree + 1 ≥ g.contestUp then { state := 0, since := t }
      else { x with agree := x.agree + 1 }
    if x.state = 1 ∧ x.since + g.contestDown * 2000000000 ≤ t then { state := 2, since := t } else x

/-- Tell a change of unit state (Table 20-13). -/
def State.postUnit (s : State) (p old new : Nat) : State :=
  if old = new then s
  else if new = 0 then s.post "UnitUp" .ok p
  else if new = 1 then s.post "UnitContested" .warning p
  else s.post "UnitDown" .critical p

/-- Update one package's unit state; DOWN and OFF clear the readiness of its partitions (R887). -/
def State.pollUnit (s : State) (answers t : Nat) (p : PkgId) : State :=
  let x := s.unit p
  let k := s.pkg p
  let y := s.tray (trayOf p)
  let n := nextUnit s.mgmt x k.unsafe_ (y.lamp == .blue) (s.mgmtView answers p) (s.dataView answers p) t
  let s := (s.setUnit p n).postUnit p x.state n.state
  let s := if k.hubOn ∧ bit answers (trayOf p) then s.updPkg p (fun k => k.setF F.GLB_MG_STATE n.state) else s
  if n.state ≠ x.state ∧ 2 ≤ n.state then s.clearReady p else s

/-! ### What a poll finds (Table 15-3) -/

/-- Events of a package's phase, lineup and ports since the last poll. -/
def State.pollSeen (s : State) (p : PkgId) : State :=
  let k := s.pkg p
  let o := s.seen.toList.getD p {}
  let n : Seen := { phase := k.getF F.GLB_BU_PHASE, refused := k.getF F.LUP_ST == 3, ports := (List.range 20).map k.linkSt }
  let s := { s with seen := s.seen.set p n }
  let s := if n.phase = 7 ∧ o.phase ≠ 7 then s.post "PackageReady" .ok p else s
  let s := if n.phase = 8 ∧ o.phase ≠ 8 then s.post "PackageHeld" .critical p else s
  let s := if n.refused && !o.refused then s.post "LineupRefused" .critical p else s
  (List.range 20).foldl (fun (s : State) i =>
    let a := o.ports.getD i 0
    let b := n.ports.getD i 0
    if b = a then s else if b = 6 then s.post "PortMiswired" .warning (p * 32 + i) else if b = 7 then s.post "PortFailed" .warning (p * 32 + i) else s) s

/-! ### Readiness (R710–R712, R887–R889) -/

/-- The rack-internal part of R710's reachability: every package has a route to every other (R430, R431). -/
def State.allReach (s : State) : Bool := s.pkgs.toList.all (fun k => (List.range 71).all (fun d => (k.route (d + 1)).isSome))

/-- On every plane, this rack's row ring and hall ring that join two or more of the partition's racks have at most one link mapped out. -/
def State.ringsGood (s : State) (l : Lineup) (e : PartEntry) : Bool :=
  s.pkgs.toList.all (fun k => [true, false].all (fun row =>
    let joins := (ringMembers l row k.rack).filter (fun v => bit e.racks (ringRack row k.rack v))
    decide (joins.length < 2) || decide (((List.range 64).filter (fun i => k.ringOut row i)).length ≤ 1)))

/-- Cores of a slot's partition over this rack's packages. -/
def State.rackCores (s : State) (slot : Nat) : Nat := (s.pkgs.toList.map (fun k => k.getF (F.GLB_PS_CORES slot))).sum

/-- A fresh summary of a rack and partition (R889): read within the last 5 s. -/
def State.summary (s : State) (rack part t : Nat) : Option Summary :=
  s.summaries.find? (fun (y : Summary) => y.rack == rack && y.part == part && decide (t ≤ y.readAt + 10000000000))

/-- R710 for a partition whose captain is in this rack. -/
def State.partCriteria (s : State) (l : Lineup) (e : PartEntry) (rack t : Nat) : Bool :=
  let others := ((l.racks.map RackEntry.id).filter (fun r => bit e.racks r && r != rack)).map (fun r => s.summary r e.id t)
  let cores := s.rackCores e.slot + (others.map (fun o => (o.map Summary.cores).getD 0)).sum
  let captain := match s.pkgs.toList[e.captPkg]? with
    | some k => k.getF F.LNK_H_ST == 2
    | none => false
  s.pkgs.toList.all (fun k => k.flag (F.GLB_PS_READY e.slot)) && others.all (fun o => match o with
      | some y => y.ready && y.reach && y.rings
      | none => false)
    && decide (e.minTotal ≤ cores) && captain && s.allReach && s.ringsGood l e

/-- Readiness of a partition after a poll: R710, without packages DOWN or OFF; a CONTESTED package leaves it as it was (R887). A
partition captained in another rack follows that rack's decision (R888). -/
def State.judgePart (s : State) (l : Lineup) (e : PartEntry) (rack : Nat) (was : Bool) (t : Nat) : Bool :=
  let states := (List.range 72).map (fun q => (s.unit q).state)
  if e.captRack = rack then
    s.partCriteria l e rack t && states.all (fun x => decide (x < 2)) && (was || states.all (fun x => x == 0))
  else ((s.decisions.find? (fun d => d.1 == e.id)).map Prod.snd).getD false && states.all (fun x => decide (x < 2))

/-- Write a partition's readiness and report when it becomes ready. -/
def State.reportPart (s : State) (id : Nat) (was now : Bool) : State :=
  let s := s.setPartReady id now
  if now && !was then s.post "PartitionReady" .ok id else s

/-- The rack's logical cores that are not vacancies. -/
def State.logicalTotal (s : State) : Nat :=
  (s.pkgs.toList.map (fun k => if k.bring.mapped then ((List.range k.logicalCores).filter (fun g => !k.flag (F.GLB_ME_VACANT g))).length else 0)).sum

/-- Judge the partitions and the rack, and write the results at every package (R710–R712, R715). -/
def State.judge (s : State) (t : Nat) : State :=
  match s.lineup, s.pkgs.toList.find? (fun k => k.lup.active.isSome) with
  | some l, some k0 =>
    let rack := k0.rack
    let mine := l.parts.filter (fun (e : PartEntry) => bit e.racks rack)
    let s := mine.foldl (fun (s : State) e =>
      let was := s.pkgs.toList.any (fun k => k.slotHeld e.slot && k.flag (F.GLB_PART_READY e.slot))
      s.reportPart e.id was (s.judgePart l e rack was t)) s
    let cores := s.logicalTotal
    let whole := s.pkgs.toList.all (fun k => k.isReady) && mine.all (fun (e : PartEntry) => s.pkgs.toList.all (fun k => k.flag (F.GLB_PART_READY e.slot)))
    let floor := decide (4000 ≤ cores)
    let was := s.pkgs.toList.any (fun k => k.flag F.GLB_RACK_RDY)
    let s := s.mapPkgs (fun k => if k.hubOn then
      ((k.setF F.GLB_RACK_RDY (if whole && floor then 1 else 0)).setF F.GLB_RACK_FLOOR_MET (if floor then 1 else 0)).setF F.GLB_RACK_CORES cores else k)
    let s := if whole && floor && !was then s.post "RackReady" .ok rack else s
    let below := whole && !floor
    let s := if below && !s.belowFloor then s.post "RackBelowFloor" .critical rack else s
    { s with belowFloor := below }
  | _, _ => s

/-- UMPIRE_POLL (R883): once per second the primary polls every TMC (`answers`, by tray), updates unit states and exclusions, and judges
readiness. The first poll of an umpire that has taken over posts UmpireFailover (Table 20-6). -/
def execUmpirePoll (answers t : Nat) (s : State) : Host.Outcome State Fault Refusal :=
  match s.primary with
  | none => .next s
  | some u =>
    if !s.paired then .next s
    else
      let took := !(s.ump u).polled && decide (0 < (s.ump (1 - u)).asserted)
      let s := s.updUmp u (fun (x : Umpire) => { x with polled := true })
      let s := if took then s.post "UmpireFailover" .warning u else s
      let s := (List.finRange 72).foldl (fun (s : State) (p : Fin 72) =>
        let s := s.pollUnit answers t p
        if s.mgmtView answers p then s.pollSeen p else s) s
      .next ((s.updateExclusions).judge t)

/-- RACK_SUMMARY_READ (R888): a summary of another rack is read, and the readiness of the partition judged again. -/
def execRackSummaryRead (rack part : Nat) (ready : Bool) (cores : Nat) (reach rings : Bool) (excluded : List Nat) (t : Nat) (s : State) :
    Host.Outcome State Fault Refusal :=
  if s.primary.isNone ∨ !s.paired then .next s
  else
    let y : Summary := { rack := rack, part := part, ready := ready, cores := cores, reach := reach, rings := rings, excluded := excluded, readAt := t }
    let s := { s with summaries := y :: s.summaries.filter (fun (x : Summary) => !(x.rack == rack && x.part == part)) }
    .next ((s.updateExclusions).judge t)

/-! ### Redfish actions of this chapter (Table 20-12, R865, R890, R894) -/

/-- An action's answer (R972). -/
def State.answer (s : State) (st : Status) : State := { s with action := st }

/-- A refusal for which the spec gives no status code: the answer is open (log entry 11). -/
def State.answerOpen (s : State) : State := (s.answer ((Config.freeWord 72 s.fresh).toNat % 65536)).draw

/-- A paired rack with no primary refuses every action (R894). -/
def State.asAction (s : State) (f : State → State) : State :=
  if s.paired ∧ s.primary.isNone then s.answer 0x4B03 else f (s.answer 0)

/-- REDFISH_RETIRE (R780): the answer is the command's status. -/
def execRedfishRetire (p : PkgId) (core : Nat) (force : Bool) (t : Nat) (s : State) : Host.Outcome State Fault Refusal :=
  .next (s.asAction (fun s =>
    let s := s.updMap p (fun k => (k.at t).retireCmd (core % 128) force)
    s.answer ((s.pkg p).getF F.GLB_REPAIR_CODE)))

/-- REDFISH_THERMAL_RELEASE (R856). -/
def execRedfishThermalRelease (p : PkgId) (t : Nat) (s : State) : Host.Outcome State Fault Refusal :=
  .next (s.asAction (fun s =>
    let s := s.updPkg p (fun k => (k.at t).thermalRelease)
    s.answer ((s.pkg p).getF F.THM_REL_STATUS)))

/-- A reset command with AT at one package, as the umpire writes it. -/
def State.resetAt (s : State) (q scope target ht t : Nat) : State :=
  s.updNat q (fun k => ((k.at t).setF F.RST_CMD_HT ht).resetCmd scope target true (scope == 5 || k.slotHeld target))

/-- REDFISH_RESET (R726, R744, R865): core, cluster and package scope at the package; partition scope at every package of the partition
and rack scope at every package, at one time, in paired mode only. -/
def execRedfishReset (p : PkgId) (scope : Fin 6) (target : Nat) (at_ : Bool) (ht t : Nat) (s : State) : Host.Outcome State Fault Refusal :=
  .next (s.asAction (fun s =>
    if scope.val = 3 ∨ scope.val = 5 then
      if !s.paired then s.answer 0x3B02
      else if scope.val = 3 ∧ !(s.pkg p).slotHeld target then s.answer 0x3004
      else
        let who := if scope.val = 5 then List.range 72 else p.val :: s.otherHolders p target
        who.foldl (fun (s : State) q => s.resetAt q scope (if scope.val = 5 then 0 else target) ht t) s
    else
      let valid := match scope.val with
        | 1 => decide (target < 64)
        | 2 => decide (target < 4)
        | 4 => target == 0
        | _ => false
      let s := s.updPkg p (fun k => ((k.at t).setF F.RST_CMD_HT ht).resetCmd scope target at_ valid)
      s.answer ((s.pkg p).getF F.RST_CMD_STATUS)))

/-- REDFISH_CLEAR_FAILED (R420, R421): refused outside a maintenance window. -/
def execRedfishClearFailed (p : PkgId) (port : PortId) (t : Nat) (s : State) : Host.Outcome State Fault Refusal :=
  .next (s.asAction (fun s =>
    let refused := !(s.pkg p).flag F.LNK_MAINT_EN
    let s := s.updPkg p (fun k => (k.at t).clearFailed port)
    if refused then s.answerOpen else s))

/-- REDFISH_LOCATE (R435). -/
def execRedfishLocate (p : PkgId) (port : PortId) (t : Nat) (s : State) : Host.Outcome State Fault Refusal :=
  .next (s.asAction (fun s => s.updPkg p (fun k => (k.at t).raise (F.LNK_LOCATE port))))

/-- Set or clear `LNK_MAINT_EN` at every powered package. -/
def State.setMaint (s : State) (on : Bool) : State := s.mapPkgs (fun k => if k.hubOn then k.setF F.LNK_MAINT_EN (if on then 1 else 0) else k)

/-- The primary sends MAINT. -/
def State.sendMaint (s : State) (t : Nat) : State := match s.primary with
  | some u => s.busSend 0x32 (u + 1) (s.busFlags (u + 1) t) (s.busTime t) [if s.mir.window.isSome then 1 else 0, s.mir.window.getD 0]
  | none => s

/-- OPEN_MAINTENANCE_WINDOW (R890, R865): 1 min to 8 h; rack-wide in paired mode, at one tray in standalone mode. -/
def execOpenMaintenanceWindow (tray : Option (Fin 24)) (minutes t : Nat) (s : State) : Host.Outcome State Fault Refusal :=
  .next (s.asAction (fun s =>
    let stop := t + minutes * 120000000000
    if minutes = 0 ∨ 480 < minutes then s.answerOpen
    else match tray with
      | none =>
        if !s.paired then s.answer 0x3B02
        else (((s.updMir (fun (m : Mirror) => { m with window := some stop })).setMaint true).sendMaint t).post "MaintenanceWindowOpened" .ok 0
      | some n =>
        if s.paired then s.answer 0x3B02
        else ((s.updTray n (fun (y : Tray) => { y with window := some stop })).updTrayPkgs n (fun k => k.raise F.LNK_MAINT_EN)).post
          "MaintenanceWindowOpened" .ok (n + 1)))

/-- The rack's window closes. -/
def State.closeWindow (s : State) (t : Nat) : State :=
  if s.mir.window.isNone then s
  else (((s.updMir (fun (m : Mirror) => { m with window := none })).setMaint false).sendMaint t).post "MaintenanceWindowClosed" .ok 0

/-- A tray's own window closes. -/
def State.closeTrayWindow (s : State) (n : Nat) : State :=
  if (s.tray n).window.isNone then s
  else ((s.updTray n (fun (y : Tray) => { y with window := none })).updTrayPkgs n (fun k => k.setF F.LNK_MAINT_EN 0)).post "MaintenanceWindowClosed" .ok (n + 1)

/-- CLOSE_MAINTENANCE_WINDOW (R890, R865). -/
def execCloseMaintenanceWindow (tray : Option (Fin 24)) (t : Nat) (s : State) : Host.Outcome State Fault Refusal :=
  .next (s.asAction (fun s => match tray with
    | none => if !s.paired then s.answer 0x3B02 else s.closeWindow t
    | some n => if s.paired then s.answer 0x3B02 else s.closeTrayWindow n))

/-- MAINT_WINDOW_EXPIRE (R890). -/
def execMaintWindowExpire (t : Nat) (s : State) : Host.Outcome State Fault Refusal :=
  let s := match s.mir.window with
    | some e => if e ≤ t ∧ s.primary.isSome then s.closeWindow t else s
    | none => s
  .next ((List.range 24).foldl (fun (s : State) n => match (s.tray n).window with
    | some e => if e ≤ t then s.closeTrayWindow n else s
    | none => s) s)

/-- POWER_PACKAGE (Table 20-12): the primary sends POWER_CMD to the package's TMC; in standalone mode the TMC acts on its own endpoint's
request. -/
def execPowerPackage (p : PkgId) (on : Bool) (t : Nat) (s : State) : Host.Outcome State Fault Refusal :=
  .next (s.asAction (fun s => match s.primary with
    | some u =>
      let id := s.bus.nextCmd
      let s := { s with bus := { s.bus with nextCmd := id + 1, cmds := (id, trayOf p) :: s.bus.cmds } }
      s.busSend 0x10 (u + 1) (s.busFlags (u + 1) t) (s.busTime t) [trayOf p, 2 ^ socketOf p, if on then 1 else 0, id]
    | none => if on then s.powerOn p t else s.updPkg p (fun k => (k.at t).powerOff)))

/-- SET_PARTITION_READY (R888): the umpire of the captain's rack posts its decision here. -/
def execSetPartitionReady (part : Nat) (ready : Bool) (s : State) : Host.Outcome State Fault Refusal :=
  .next (s.asAction (fun s =>
    if !s.paired then s.answer 0x3B02
    else
      let s := { s with decisions := (part, ready) :: s.decisions.filter (fun d => d.1 != part) }
      let was := s.pkgs.toList.any (fun k => (List.range 4).any (fun i => k.slotHeld i && k.getF (F.LUP_PART_ID i) == part && k.flag (F.GLB_PART_READY i)))
      s.reportPart part was ready))

/-! ### Connectors and the service button (R891, R892, R951) -/

/-- CONNECTOR_FAULT (R891): a connector of Table 20-8 by its code 1–9; `kind` 0 short, 1 open, 2 reversed. The connector is held off. -/
def execConnectorFault (tray : TrayId) (code kind t : Nat) (s : State) : Host.Outcome State Fault Refusal :=
  if code = 0 ∨ 9 < code ∨ (s.tray tray).faults.any (fun f => f.1 == code) ∨ (kind = 2 ∧ (code = 2 ∨ code = 3)) then .next s
  else
    let s := s.updTray tray (fun (y : Tray) => { y with faults := y.faults ++ [(code, none)] })
    let s := match code with
      | 1 => (trayPkgs tray).foldl (fun (s : State) q => s.updNat q (fun k => (k.at t).auxLost)) (s.updTray tray (fun (y : Tray) => { y with input := false }))
      | 2 => s.updTray tray (fun (y : Tray) => { y with aux := false })
      | 5 => (s.updTrayPkgs tray (fun k => k.setF F.THM_SUP_VALID 0)).post "SensorLost" .warning tray
      | 6 => s.post "SensorLost" .warning tray
      | _ => s
    let s := if s.onBus tray ∧ (code = 1 ∨ (5 ≤ code ∧ code ≤ 8)) then s.busSend 0x20 (trayNode tray) 0 (s.busTime t) [tray, 3, code] else s
    .next ((s.showLamp tray).post "ConnectorFault" .critical (tray * 16 + code))

/-- CONNECTOR_REENABLE (R891): a management action, once the condition has been clear for 10 s (`cleared`, when it ended). -/
def execConnectorReenable (tray : TrayId) (code cleared t : Nat) (s : State) : Host.Outcome State Fault Refusal :=
  if !(s.tray tray).faults.any (fun f => f.1 == code) ∨ t < cleared + 20000000000 then .next s
  else
    let s := s.updTray tray (fun (y : Tray) => { y with
      faults := y.faults.filter (fun f => f.1 != code)
      input := y.input || code == 1, aux := y.aux || code == 2
      started := if code = 2 then t else y.started, lastAck := if code = 2 then t else y.lastAck })
    .next (s.showLamp tray)

/-- SERVICE_BUTTON (R951): while a window is open, or with every package OFF, the tray is made safe; otherwise the lamp refuses. -/
def execServiceButton (tray : TrayId) (t : Nat) (s : State) : Host.Outcome State Fault Refusal :=
  let off := s.pkgs.toList.all (fun k => trayOf k.id != tray.val || k.rails.mode == .off)
  let opened := if s.paired then s.mir.window.isSome else (s.tray tray).window.isSome
  if !s.tmcUp tray then .next s
  else if opened ∨ off then
    let s := (trayPkgs tray).foldl (fun (s : State) q => s.updNat q (fun k => (k.at t).powerOff)) s
    .next ((s.updTray tray (fun (y : Tray) => { y with safing := true })).finishSafe tray)
  else .next (s.updTray tray (fun (y : Tray) => { y with lamp := .amberThrice }))

end Sys2Proof.Machine
end

