-- ==== Sys2Proof/Machine/Boot.lean ====
section
/-! DEFINITION. Rosters (21_update.md): submission, staging, verification and votes, commit, activation, trial, confirmation, revert and
abort, and dead units. A target is a package's number, or 128 and a rack-bus node (Table 20-3). -/

namespace Sys2Proof.Machine

/-! ### The roster image (Tables 21-3, 21-4) -/

/-- An entry of a roster: its 128 bytes. -/
def rosterEntry (b : Bytes) (i : Nat) : Bytes := (b.drop (128 + 128 * i)).take 128

/-- `RS_ENTRIES`. -/
def rosterCount (b : Bytes) : Nat := fieldAt b 6 2

/-- The entries of a roster. -/
def rosterEntries (b : Bytes) : List Bytes := (List.range (rosterCount b)).map (rosterEntry b)

/-- `RE_CLASS`. -/
def reClass (e : Bytes) : Nat := fieldAt e 0 1
/-- `RE_FLAGS` LIVE. -/
def reLive (e : Bytes) : Bool := fieldAt e 1 1 == 1
/-- `RE_SECVER`. -/
def reSecver (e : Bytes) : Nat := fieldAt e 4 2
/-- `RE_BUILD`. -/
def reBuild (e : Bytes) : Nat := fieldAt e 6 6
/-- `RE_LENGTH`. -/
def reLength (e : Bytes) : Nat := fieldAt e 12 4
/-- `RE_DIGEST`. -/
def reDigest (e : Bytes) : Bytes := (e.drop 16).take 48
/-- `RE_RACK`. -/
def reRack (e : Bytes) : Nat := fieldAt e 64 2
/-- `RE_MASK`. -/
def reMask (e : Bytes) : Nat := fieldAt e 72 16

/-- The confirmation window in ticks (`RS_WINDOW_H`: 0 takes 72 h). -/
def rosterWindow (b : Bytes) : Nat := (if fieldAt b 16 4 = 0 then 72 else fieldAt b 16 4) * 7200000000000

/-- The targets an entry names in a rack. -/
def entryTargets (rack : Nat) (e : Bytes) : List Nat :=
  if reRack e ≠ 0xFFFF ∧ reRack e ≠ rack then []
  else if reClass e ≤ 4 then (List.range 128).filter (bit (reMask e))
  else ((List.range 128).filter (bit (reMask e))).map (fun n => 128 + n)

/-- A state of Table 21-5 that may be written. -/
def keyCodesGood (v : Nat) : Bool := (List.range 4).all (fun i => keyState v i != 2)

/-- The format of a roster entry is right. -/
def entryFormat (e : Bytes) : Bool :=
  let c := reClass e
  decide (1 ≤ c) && decide (c ≤ 8) && (fieldAt e 1 1 == 0 || (c == 4 && reLive e)) && fieldAt e 2 2 == 0 && decide (c > 4 ∨ reSecver e ≤ 128)
    && decide (reLength e ≤ classLimit c) && fieldAt e 66 6 == 0 && fieldAt e 88 40 == 0

/-- No two entries name the same class at the same target (R903). -/
def entriesApart (b : Bytes) : Bool :=
  let es := (rosterEntries b).zip (List.range (rosterCount b))
  es.all (fun x => es.all (fun y => x.2 == y.2 || reClass x.1 != reClass y.1 || reMask x.1 &&& reMask y.1 == 0
    || (reRack x.1 != reRack y.1 && reRack x.1 != 0xFFFF && reRack y.1 != 0xFFFF)))

/-- The format of a roster is right (Tables 21-3, 21-4, R903). -/
def rosterFormat (b : Bytes) : Bool :=
  fieldAt b 0 4 == 0x52545352 && fieldAt b 4 2 == 1 && decide (rosterCount b ≤ 16384) && fieldAt b 8 8 != 0 && decide (fieldAt b 16 4 ≤ 720)
    && keyCodesGood (fieldAt b 20 1) && fieldAt b 21 3 == 0 && fieldAt b 80 48 == 0 && decide (128 + 128 * rosterCount b ≤ b.length)
    && (rosterEntries b).all entryFormat && entriesApart b

/-- Key states after a roster: a state only moves forward (R905). -/
def nextKeys (now roster : Nat) : Nat := now ||| roster

/-- R906: some slot stays ACTIVE. -/
def keysLeft (keys : Nat) : Bool := (List.range 4).any (fun i => keyState keys i == 0)

/-! ### Targets -/

/-- A controller node. -/
def State.ctrl (s : State) (node : Nat) : Controller := s.controllers.toList.getD node {}

/-- Change a controller. -/
def State.updCtrl (s : State) (node : Nat) (f : Controller → Controller) : State :=
  { s with controllers := s.controllers.setIfInBounds node (f (s.ctrl node)) }

/-- The rack's own ID. -/
def State.rackId (s : State) : Nat := ((s.pkgs.toList.find? (fun k => k.lup.active.isSome)).map Pkg.rack).getD 0

/-- A controller node that the rack has, of a class (Tables 20-3, 21-1). -/
def State.nodeOfClass (s : State) (cls node : Nat) : Bool :=
  match cls with
  | 5 => decide (3 ≤ node) && decide (node < 3 + s.trayCount) && (s.tray (node - 3)).present
  | 6 => node == 1 || node == 2
  | 7 => decide (27 ≤ node) && decide (node ≤ 32)
  | 8 => node == 33
  | _ => false

/-- An entry's target is present and of the right class; in standalone mode it belongs to the coordinator's tray (R919). -/
def State.targetGood (s : State) (tray cls target : Nat) : Bool :=
  if cls ≤ 4 then decide (target < 72) && (s.tray (trayOf target)).present && (s.paired || trayOf target == tray)
  else s.nodeOfClass cls (target - 128) && (s.paired || target == 128 + trayNode tray)

/-- The floor of a class at a target (R909, R911). -/
def State.floorOf (s : State) (cls target : Nat) : Nat :=
  if target < 72 then (s.pkgs.toList[target]?.map (fun k => k.fuseFloor cls)).getD 0 else (s.ctrl (target - 128)).floor

/-- The targets of a roster: those its entries name; with no entries every unit, since every unit keeps key states (R903, R904). -/
def State.rosterTargets (s : State) (tray : Nat) (b : Bytes) : List Nat :=
  if rosterCount b = 0 then
    let nodes := (List.range 34).filter (fun n => [5, 6, 7, 8].any (fun c => s.nodeOfClass c n))
    if s.paired then List.range 72 ++ nodes.map (fun n => 128 + n) else trayPkgs tray ++ [128 + trayNode tray]
  else ((rosterEntries b).flatMap (entryTargets s.rackId)).eraseDups

/-- Key states against which the coordinator checks a roster: a coordinating controller's own. -/
def State.coordKeys (s : State) (tray : Nat) : Nat := match s.primary with
  | some u => (s.ctrl (u + 1)).keys
  | none => (s.ctrl (trayNode tray)).keys

/-- The first failure of a roster (R920): format, digest, signatures, keys, targets, floors; 0 when it passes. -/
def State.rosterCheck (s : State) (tray : Nat) (b : Bytes) : Status :=
  let stop := 128 + 128 * rosterCount b
  let bad (p : Bytes → Nat → Bool) : Bool := (rosterEntries b).any (fun e => (entryTargets s.rackId e).any (p e))
  if !rosterFormat b then 0x3803
  else if sha384 ((b.take stop).drop 128) ≠ (b.drop 32).take 48 then 0x5802
  else if !sigAccepted (s.coordKeys tray) rosterContext (b.take 128) (b.drop stop) then 0x5805
  else if !keysLeft (nextKeys (s.coordKeys tray) (fieldAt b 20 1)) then 0x3809
  else if bad (fun e q => !s.targetGood tray (reClass e) q) then 0x3801
  else if bad (fun e q => decide (reSecver e < s.floorOf (reClass e) q)) then 0x3804
  else 0

/-! ### Rosters at their coordinators (R917–R920) -/

/-- A coordinator's key: 0 the primary umpire, 1 + t the TMC of tray t (R918). -/
def State.coord (s : State) (tray : Nat) : Nat := if s.paired then 0 else 1 + tray

/-- The roster of a coordinator. -/
def State.roster (s : State) (c : Nat) : Option Roster := (s.rosters.find? (fun r => r.1 == c)).map Prod.snd

/-- Put a coordinator's roster. -/
def State.putRoster (s : State) (c : Nat) (r : Roster) : State := { s with rosters := (c, r) :: s.rosters.filter (fun x => x.1 != c) }

/-- A roster is in progress (R917). -/
def Roster.open_ (r : Roster) : Bool := r.phase == .staging || r.phase == .committed || r.phase == .trial

/-- The roster in progress that names a target. -/
def State.rosterOf (s : State) (target : Nat) : Option (Nat × Roster) := s.rosters.find? (fun r => r.2.open_ && r.2.targets.contains target)

/-- The latest roster of a target, in progress or ended. -/
def State.lastRoster (s : State) (target : Nat) : Option Roster := (s.rosters.find? (fun r => r.2.targets.contains target)).map Prod.snd

/-- ROSTER_SUBMIT (R917, R920): refused with the first failing status, or accepted for staging. `tray` is the tray of a standalone
coordinator. -/
def execRosterSubmit (tray : TrayId) (image : Bytes) (t : Nat) (s : State) : Host.Outcome State Fault Refusal :=
  .next (s.asAction (fun s =>
    let c := s.coord tray
    let st := s.rosterCheck tray image
    if (s.roster c).any Roster.open_ then s.answer 0x4806
    else if st ≠ 0 then s.answer st
    else s.putRoster c { image := image, accepted := t, targets := s.rosterTargets tray image, votes := [], phase := .staging, status := 0 }))

/-- The commit record of a coordinator (R925). -/
def State.commitOf (s : State) (c : Nat) : Option Commit :=
  if c = 0 then s.mir.commit else (s.commits.find? (fun x => x.1 == c)).map Prod.snd

/-- Write a coordinator's commit record: in the secure storage of both umpires, or in the TMC's secure element. -/
def State.putCommit (s : State) (c : Nat) (r : Option Commit) : State :=
  if c = 0 then { s with umpires := s.umpires.map (fun (u : Umpire) => { u with mir := { u.mir with commit := r } }) }
  else { s with commits := (match r with
    | some x => [(c, x)]
    | none => []) ++ s.commits.filter (fun x => x.1 != c) }

/-! ### Staging at a package (R921, R922) -/

/-- The slot a package runs from. -/
def Pkg.runningSlot (k : Pkg) : Nat := if k.flag F.BOOT_IN_TRIAL then 1 - k.bc.active else k.bc.active

/-- STAGE_WRITE (R921): the staging buffer is programmed into flash; the offset is 4 KiB aligned. -/
def execStageWrite (p : PkgId) (src : CsrSource) (off t : Nat) (s : State) : Host.Outcome State Fault Refusal :=
  .next (s.updPkg p (fun k => (k.at t).viaPkg src 0x40080 .i (fun k =>
    let bs := (List.range 512).flatMap (fun i => leBytes 8 (k.getF (F.BOOT_STAGE_BUF i)))
    (k.flashWrite (off % 0x4000000 / 4096 * 4096) bs).setF F.BOOT_STAGE_CODE 0)))

/-- ERASE_SLOT (R921): the slot that is not running, with its settings. -/
def execEraseSlot (p : PkgId) (src : CsrSource) (t : Nat) (s : State) : Host.Outcome State Fault Refusal :=
  .next (s.updPkg p (fun k => (k.at t).viaPkg src 0x40080 .i (fun k =>
    let slot := 1 - k.runningSlot
    let k := { k with boot := { k.boot with settings := k.boot.settings.filter (fun x => x != slot) } }
    (k.eraseSlot slot).setF F.BOOT_STAGE_CODE 0)))

/-- READ_BACK (R921): flash into the staging buffer. Settings an image has built are in its own format: their bytes are open (log entry
11). -/
def execReadBack (p : PkgId) (src : CsrSource) (off t : Nat) (s : State) : Host.Outcome State Fault Refusal :=
  .next (s.updPkg p (fun k => (k.at t).viaPkg src 0x40080 .i (fun k =>
    let a := off % 0x4000000 / 4096 * 4096
    let built := k.boot.settings.any (fun x => decide (settingsBase x ≤ a) && decide (a < settingsBase x + 0x200000))
    let bs := if built then k.freeBytes 4096 else k.flashRead a 4096
    let k := if built then k.draw else k
    (k.forEach 512 (fun k i => k.setF (F.BOOT_STAGE_BUF i) (fieldAt bs (8 * i) 8))).setF F.BOOT_STAGE_CODE 0)))

/-- Copy a class's region from the running slot to the other (R921). -/
def Pkg.copyClass (k : Pkg) (cls slot : Nat) : Pkg :=
  let a := flashRegion cls (1 - slot)
  let b := (flashRegion cls slot).1
  let moved := k.flash.filterMap (fun x => if a.1 ≤ x.1 ∧ x.1 < a.1 + a.2 then some (x.1 - a.1 + b, x.2) else none)
  moved.foldl (fun k x => { k with flash := Sparse.set erased k.flash x.1 x.2 }) (k.flashErase b a.2)

/-- The check of one staged image of a package (R922): the first failing status, 0 when it passes. -/
def Pkg.verifyEntry (k : Pkg) (slot : Nat) (e : Bytes) : Status :=
  let cls := reClass e
  let img := k.flashRead (flashRegion cls slot).1 (reLength e)
  if sha384 img ≠ reDigest e then 0x5802
  else if cls = 4 then match k.checkLineup img with
    | .error (st, _, _) => st
    | .ok l => if l.build ≠ reBuild e ∨ l.secver ≠ reSecver e then 0x3803 else if reLive e ∧ !k.flag F.LUP_STG_LIVE_OK then 0x370B else 0
  else
    let st := imageCheck cls (k.getF F.BOOT_KEYS) (k.fuseFloor cls) img
    if st ≠ 0 then st else if fieldAt img 8 6 ≠ reBuild e ∨ fieldAt img 6 2 ≠ reSecver e then 0x3803 else 0

/-- Set the vote (`BOOT_VOTE`): YES, or NO with a status. -/
def Pkg.vote (k : Pkg) (st : Status) : Pkg :=
  (k.setF F.BOOT_VOTE_YES (if st = 0 then 1 else 0)).report F.BOOT_VOTE_STATUS st .package 0 0

/-- Verify a roster's staged images: the roster's own signatures, the classes it does not name copied from the running slot, and each
image it names here. -/
def Pkg.verify (k : Pkg) (rack : Nat) (b : Bytes) : Pkg :=
  let slot := 1 - k.runningSlot
  let mine := (rosterEntries b).filter (fun e => decide (reClass e ≤ 4) && (entryTargets rack e).contains k.id)
  let stop := 128 + 128 * rosterCount b
  if !sigAccepted (k.getF F.BOOT_KEYS) rosterContext (b.take 128) (b.drop stop) then k.vote 0x5805
  else
    let k := [1, 2, 3, 4].foldl (fun k c => if mine.any (fun e => reClass e == c) then k else k.copyClass c slot) k
    k.vote (((mine.map (k.verifyEntry slot)).find? (fun st => st != 0)).getD 0)

/-- BOOT_VERIFY (R922, R923); without a roster in progress there is nothing to vote for. -/
def execBootVerify (p : PkgId) (src : CsrSource) (t : Nat) (s : State) : Host.Outcome State Fault Refusal :=
  let r := s.rosterOf p
  .next (s.updPkg p (fun k => (k.at t).viaPkg src 0x40090 .i (fun k => match r with
    | some (_, r) => if r.phase = .staging then k.verify s.rackId r.image else k
    | none => k.vote 0x380B)))

/-! ### Votes, abort and commit (R923–R928) -/

/-- End a roster ABORTED (R924). -/
def State.abortRoster (s : State) (c : Nat) (r : Roster) (st : Status) : State :=
  let s := s.putRoster c { r with phase := .aborted, status := st }
  let s := r.targets.foldl (fun (s : State) q => if q < 128 then s else s.updCtrl (q - 128) (fun (x : Controller) => { x with staged := none })) s
  s.post "RosterAborted" .warning st

/-- An open lead that the coordinator adds to a least time (log entry 11). -/
def State.lead (s : State) : Nat := (Config.freeWord 72 s.fresh).toNat % 2 ^ 40

/-- The security version a roster gives a controller. -/
def rosterSecver (b : Bytes) (rack target : Nat) : Option Nat :=
  ((rosterEntries b).find? (fun e => decide (4 < reClass e) && (entryTargets rack e).contains target)).map reSecver

/-- Send COMMIT with an activation time: controllers keep their own records (R916, R928); a package's comes as BOOT_COMMIT. -/
def State.commitTo (s : State) (r : Roster) (ht : Nat) : State :=
  r.targets.foldl (fun (s : State) q =>
    if q < 128 then s
    else s.updCtrl (q - 128) (fun (x : Controller) =>
      if x.state = 2 then x
      else { x with state := 1, roster := fieldAt r.image 8 8, actHt := ht, staged := (rosterSecver r.image s.rackId q).orElse (fun _ => some x.secver) })) s

/-- ROSTER_COMMIT (R925, R926): the commit record is written before COMMIT is sent. -/
def State.commitRoster (s : State) (c : Nat) (r : Roster) (t : Nat) : State :=
  let ht := max (t + 60000000000) (fieldAt r.image 24 8) + s.lead
  let rec_ : Commit := { id := fieldAt r.image 8 8, digest := (r.image.drop 32).take 48, targets := r.targets, actHt := ht, confirmed := false }
  ((s.draw.putCommit c (some rec_)).putRoster c { r with phase := .committed }).commitTo r ht

/-- VOTE_RECEIVE (R923–R925). -/
def execVoteReceive (target : Nat) (yes : Bool) (st t : Nat) (s : State) : Host.Outcome State Fault Refusal :=
  match s.rosterOf target with
  | some (c, r) =>
    if r.phase ≠ .staging ∨ r.votes.any (fun v => v.1 == target) then .next s
    else if !yes then .next (s.abortRoster c { r with votes := (target, st) :: r.votes } st)
    else
      let r := { r with votes := (target, 0) :: r.votes }
      .next (if r.targets.all (fun q => r.votes.any (fun v => v.1 == q)) then s.commitRoster c r t else s.putRoster c r)
  | none => .next s

/-- A package target has voted. -/
def State.hasVoted (s : State) (q : Nat) : Bool := match s.pkgs.toList[q]? with
  | some k => k.flag F.BOOT_VOTE_YES || k.getF F.BOOT_VOTE_STATUS != 0
  | none => true

/-- STAGING_TIMEOUT (R923, R924): staging and verification not ended 15 min after acceptance, or a vote missing 60 s later. -/
def execStagingTimeout (t : Nat) (s : State) : Host.Outcome State Fault Refusal :=
  .next (s.rosters.foldl (fun (s : State) x =>
    let r := x.2
    let late := decide (r.accepted + 1800000000000 ≤ t) && !r.targets.all s.hasVoted
    let missing := decide (r.accepted + 1920000000000 ≤ t) && !r.targets.all (fun q => r.votes.any (fun v => v.1 == q))
    if r.phase = .staging ∧ (late || missing) = true then s.abortRoster x.1 r 0x6807 else s) s)

/-- BOOT_ABORT (R924): the staged slot is erased and the record left as it was; one aborted for another's sake reports UPD_ABORTED. From
the commit onward nothing aborts (R927). -/
def Pkg.abortStage (k : Pkg) : Pkg :=
  if k.bc.state ≠ 0 then k
  else
    let slot := 1 - k.runningSlot
    let k := { k.eraseSlot slot with boot := { k.boot with settings := k.boot.settings.filter (fun x => x != slot) } }
    if k.flag F.BOOT_VOTE_YES then k.vote 0x1808 else k

/-- BOOT_ABORT. -/
def execBootAbort (p : PkgId) (src : CsrSource) (t : Nat) (s : State) : Host.Outcome State Fault Refusal :=
  .next (s.updPkg p (fun k => (k.at t).viaPkg src 0x40090 .i Pkg.abortStage))

/-- A roster whose only package entry is a LIVE lineup (R931). -/
def rosterLive (b : Bytes) : Bool :=
  let ps := (rosterEntries b).filter (fun e => decide (reClass e ≤ 4))
  !ps.isEmpty && ps.all reLive

/-- A package activates (R929, R931): TRIAL with the end of its window; then a reset with cause ROSTER, or the trial slot's lineup is
staged. -/
def Pkg.activate (k : Pkg) (window : Nat) (live : Bool) : Pkg :=
  let k := k.writeBoot (fun r => { r with state := 2, windowEnd := r.actHt + window, wdog := 0 })
  if live then k.stageLineup (1 - k.bc.active) else k.askReset 4 0 9 0

/-- What a package's roster gives its activation: the window, and LIVE. -/
def State.trialTerms (s : State) (p : Nat) : Nat × Bool := match s.lastRoster p with
  | some r => (rosterWindow r.image, rosterLive r.image)
  | none => (518400000000000, false)

/-- BOOT_COMMIT (R928): the record is STAGED with the time of `BOOT_CMD_HT`; a time already past acts at once (R81). -/
def execBootCommit (p : PkgId) (src : CsrSource) (t : Nat) (s : State) : Host.Outcome State Fault Refusal :=
  let id := ((s.lastRoster p).map (fun r => fieldAt r.image 8 8)).getD 0
  let terms := s.trialTerms p
  .next (s.updPkg p (fun k => (k.at t).viaPkg src 0x40090 .i (fun k =>
    if 2 ≤ k.bc.state then k
    else
      let k := k.writeBoot (fun r => { r with state := 1, roster := id, actHt := k.getF F.BOOT_CMD_HT })
      if k.getF F.BOOT_CMD_HT < k.now then k.lateAction.activate terms.1 terms.2 else k)))

/-! ### Activation (R929–R931) -/

/-- A controller restarts into the trial slot. -/
def State.ctrlTrial (s : State) (node t : Nat) : State :=
  let window := ((s.lastRoster (128 + node)).map (fun r => rosterWindow r.image)).getD 518400000000000
  s.updCtrl node (fun (x : Controller) => { x with state := 2, windowEnd := x.actHt + window, restart := some t })

/-- What a controller's restart does beside its record: a TMC starts afresh without touching rails (R863, R897), an umpire begins
again. -/
def State.ctrlRestart (s : State) (node t : Nat) : State :=
  if 3 ≤ node ∧ node ≤ 26 then s.updTray (node - 3) (fun (y : Tray) => { y with started := t, lastAck := t })
  else if node = 1 ∨ node = 2 then s.updUmp (node - 1) (fun (x : Umpire) => { x with started := t, polled := false })
  else s

/-- A roster with every target in TRIAL has activated. -/
def State.inTrial (s : State) (q : Nat) : Bool :=
  if q < 72 then (s.pkgs.toList[q]?.map (fun k => k.bc.state == 2)).getD false else (s.ctrl (q - 128)).state == 2

/-- A committed roster whose targets are all in TRIAL is in trial. -/
def State.noteTrial (s : State) (target : Nat) : State := match s.rosterOf target with
  | some (c, r) => if r.phase = .committed ∧ r.targets.all s.inTrial then s.putRoster c { r with phase := .trial } else s
  | none => s

/-- ROSTER_ACTIVATE (R929, R930): at the activation time; umpires and shelf controllers wait for their turn. -/
def execRosterActivate (target t : Nat) (s : State) : Host.Outcome State Fault Refusal :=
  let terms := s.trialTerms target
  .next (if target < 72 then
      (s.updNat target (fun k =>
        let k := k.at t
        if k.bc.state = 1 ∧ k.bc.actHt ≤ k.now then k.activate terms.1 terms.2 else k)).noteTrial target
    else
      let node := target - 128
      let x := s.ctrl node
      if x.state = 1 ∧ x.actHt ≤ t ∧ (3 ≤ node ∧ node ≤ 26 ∨ node = 33) then ((s.ctrlTrial node t).ctrlRestart node t).noteTrial target else s)

/-- A shelf controller's turn has come: 30 s after the previous one restarted. -/
def State.shelfTurn (s : State) (t : Nat) : Bool := (List.range 6).all (fun i => match (s.ctrl (27 + i)).restart with
  | some w => decide (w + 60000000000 ≤ t)
  | none => true)

/-- STAGGERED_ACTIVATION (R930): a shelf controller 30 s after the previous one; the standby umpire first, and the primary, with RELEASE
cause 3, once the standby is back. -/
def execStaggeredActivation (node : Fin 34) (t : Nat) (s : State) : Host.Outcome State Fault Refusal :=
  let x := s.ctrl node
  if x.state ≠ 1 ∨ t < x.actHt then .next s
  else if 27 ≤ node.val ∧ node.val ≤ 32 then
    .next (if s.shelfTurn t then (s.ctrlTrial node t).noteTrial (128 + node) else s)
  else if node.val = 1 ∨ node.val = 2 then
    let u := node.val - 1
    if s.primary = some u then
      let o := s.ctrl (2 - u)
      let back := match o.restart with
        | some w => s.bus.heardWithin (2 - u) (t - w) t && decide (o.state ≠ 1)
        | none => decide (o.state ≠ 1)
      if back then
        let s := ((s.releaseLine u t).busSend 0x03 (u + 1) (s.busFlags (u + 1) t) (s.busTime t) [3]).takePrimary
        .next (((s.ctrlTrial node t).ctrlRestart node t).noteTrial (128 + node))
      else .next s
    else .next (((s.ctrlTrial node t).ctrlRestart node t).noteTrial (128 + node))
  else .next s

/-! ### Trial, confirmation and revert (R935–R940) -/

/-- Confirm at a package (R939): floors, key states, the record, then the old slot goes. -/
def Pkg.confirm (k : Pkg) (keys : Nat) : Pkg :=
  if k.bc.state ≠ 2 then k
  else
    let new := 1 - k.bc.active
    let ver (cls : Nat) : Nat := if cls = 4 then ((k.lup.active.map Lineup.secver).getD 0) else fieldAt (k.storedImage cls new) 6 2
    let k := (k.setF F.BOOT_FLOOR0 (max (k.fuseFloor 1) (ver 1))).setF F.BOOT_FLOOR1 (max (k.fuseFloor 2) (ver 2))
    let k := (k.setF F.BOOT_FLOOR2 (max (k.fuseFloor 3) (ver 3))).setF F.BOOT_FLOOR3 (max (k.fuseFloor 4) (ver 4))
    let k := k.setF F.BOOT_KEYS (nextKeys (k.getF F.BOOT_KEYS) keys)
    let k := (k.writeBoot (fun r => { r with state := 0, active := new, roster := 0, wdog := 0 })).showBoot false
    { k.eraseSlot (1 - new) with boot := { k.boot with settings := k.boot.settings.filter (fun x => x == new) } }

/-- BOOT_CONFIRM (R939). -/
def execBootConfirm (p : PkgId) (src : CsrSource) (t : Nat) (s : State) : Host.Outcome State Fault Refusal :=
  let keys := ((s.lastRoster p).map (fun r => fieldAt r.image 20 1)).getD 0
  .next (s.updPkg p (fun k => (k.at t).viaPkg src 0x40090 .i (fun k => k.confirm keys)))

/-- A package in TRIAL returns to its confirmed slot (R936). -/
def Pkg.revertNow (k : Pkg) : Pkg :=
  if k.bc.state ≠ 2 then k else (k.writeBoot (fun r => { r with state := 3 })).askReset 4 0 9 0

/-- BOOT_REVERT (R936): the return is scheduled at `BOOT_CMD_HT`; a time already past acts at once (R81). -/
def execBootRevert (p : PkgId) (src : CsrSource) (t : Nat) (s : State) : Host.Outcome State Fault Refusal :=
  .next (s.updPkg p (fun k => (k.at t).viaPkg src 0x40090 .i (fun k =>
    let ht := k.getF F.BOOT_CMD_HT
    if ht < k.now then k.lateAction.revertNow else { k with boot := { k.boot with revertAt := some ht } })))

/-- A controller writes REVERT and restarts from its confirmed slot, which writes CONFIRMED (R916, R935, R936). -/
def State.ctrlRevert (s : State) (node t : Nat) : State :=
  (s.updCtrl node (fun (x : Controller) => { x with state := 0, roster := 0, staged := none, revertAt := none, restart := some t })).ctrlRestart node t

/-- REVERT_AT_TIME (R936). -/
def execRevertAtTime (target t : Nat) (s : State) : Host.Outcome State Fault Refusal :=
  .next (if target < 72 then s.updNat target (fun k =>
      let k := k.at t
      match k.boot.revertAt with
      | some w => if w ≤ k.now then ({ k with boot := { k.boot with revertAt := none } } : Pkg).revertNow else k
      | none => k)
    else
      let x := s.ctrl (target - 128)
      match x.revertAt with
      | some w => if w ≤ t ∧ x.state = 2 then s.ctrlRevert (target - 128) t else s
      | none => s)

/-- The end of a target's confirmation window. -/
def State.windowEnd (s : State) (q : Nat) : Nat :=
  if q < 72 then (s.pkgs.toList[q]?.map (fun k => k.bc.windowEnd)).getD 0 else (s.ctrl (q - 128)).windowEnd

/-- Confirm at a controller (R939). -/
def State.ctrlConfirm (s : State) (node keys : Nat) : State :=
  s.updCtrl node (fun (x : Controller) =>
    let v := x.staged.getD x.secver
    { x with state := 0, active := 1 - x.active, roster := 0, secver := v, floor := max x.floor v, staged := none, keys := nextKeys x.keys keys })

/-- CONFIRM_ROSTER (R937, R938): before the window's end and with every target in TRIAL; it is recorded, and CONFIRM sent. A package's
comes as BOOT_CONFIRM. -/
def execConfirmRoster (tray : TrayId) (t : Nat) (s : State) : Host.Outcome State Fault Refusal :=
  .next (s.asAction (fun s =>
    let c := s.coord tray
    match s.roster c with
    | some r =>
      if r.phase ≠ .committed ∧ r.phase ≠ .trial then s.answer 0x380B
      else if r.targets.any (fun q => s.inTrial q && decide (s.windowEnd q ≤ t)) then s.answer 0x680C
      else if !r.targets.all s.inTrial then s.answer 0x380B
      else
        let s := s.putCommit c ((s.commitOf c).map (fun (x : Commit) => { x with confirmed := true }))
        let s := s.putRoster c { r with phase := .confirmed }
        r.targets.foldl (fun (s : State) q => if q < 128 then s else s.ctrlConfirm (q - 128) (fieldAt r.image 20 1)) s
    | none => s.answer 0x380B))

/-- Revert a roster (R936): REVERT with one time at least 30 s ahead; the roster ends REVERTED. A package's comes as BOOT_REVERT. -/
def State.revertRoster (s : State) (c : Nat) (r : Roster) (st : Status) (t : Nat) : State :=
  let ht := t + 60000000000 + s.lead
  let s := ((s.draw.putRoster c { r with phase := .reverted, status := st }).putCommit c none).post "RosterReverted" .warning st
  r.targets.foldl (fun (s : State) q =>
    if q < 72 then s.updNat q (fun k => { k.setF F.BOOT_CMD_HT ht with boot := { k.boot with failed := false } })
    else s.updCtrl (q - 128) (fun (x : Controller) => if x.state = 2 then { x with revertAt := some ht } else { x with state := 0, roster := 0, staged := none })) s

/-- Some package target of a roster has failed its trial (R935). -/
def State.trialFailed (s : State) (r : Roster) : Bool :=
  r.targets.any (fun q => (s.pkgs.toList[q]?.map (fun k => k.boot.failed)).getD false)

/-- REVERT_ROSTER (R936): the action, or the coordinator's own step after a trial failure. A confirmed roster never reverts (R938). -/
def execRevertRoster (tray : TrayId) (t : Nat) (s : State) : Host.Outcome State Fault Refusal :=
  let c := s.coord tray
  .next (match s.roster c with
    | some r =>
      if (r.phase = .committed ∨ r.phase = .trial) ∧ s.trialFailed r then s.revertRoster c r 0x580A t
      else s.asAction (fun s => if r.phase = .committed ∨ r.phase = .trial then s.revertRoster c r 0 t else s.answer 0x380B)
    | none => s.asAction (fun s => s.answer 0x380B))

/-- TRIAL_WINDOW_END (R940): a target still in TRIAL writes REVERT for its next reset; RosterUnconfirmed is posted once. -/
def execTrialWindowEnd (target t : Nat) (s : State) : Host.Outcome State Fault Refusal :=
  if !s.inTrial target ∨ t < s.windowEnd target then .next s
  else
    let s := if target < 72 then s.updNat target (fun k => (k.at t).writeBoot (fun r => { r with state := 3 }))
      else s.updCtrl (target - 128) (fun (x : Controller) => { x with state := 3 })
    .next (match s.rosterOf target with
      | some (c, r) => ((s.putRoster c { r with phase := .reverted }).putCommit c none).post "RosterUnconfirmed" .critical 0
      | none => s)

/-- What the rack does with a dead controller (R942). -/
def State.ctrlDead (s : State) (node t : Nat) : State :=
  let s := (s.updCtrl node (fun (x : Controller) => { x with dead := true, restart := none })).post "UnitDead" .critical (128 + node)
  if 3 ≤ node ∧ node ≤ 26 then
    let s := (trayPkgs (node - 3)).foldl (fun (s : State) q => s.updNat q (fun k => (k.at t).safetyDown)) s
    (s.updTray (node - 3) (fun (y : Tray) => { y with safing := true, held := true, lamp := .amber 10 })).finishSafe (node - 3)
  else if node = 1 ∨ node = 2 then
    (((s.updUmp (node - 1) (fun (x : Umpire) => { x with up := false })).releaseLine (node - 1) t)).takePrimary
  else if 27 ≤ node ∧ node ≤ 32 then { s with shelves := s.shelves.setIfInBounds (node - 27) false }
  else s.post "SensorLost" .warning 0

/-- TRIAL_SILENCE_TIMEOUT (R935, R941): a controller not heard within 60 s of its restart fails its trial and the roster is reverted; one
that restarted its confirmed images is dead. -/
def execTrialSilenceTimeout (node : Fin 34) (t : Nat) (s : State) : Host.Outcome State Fault Refusal :=
  let x := s.ctrl node
  match x.restart with
  | none => .next s
  | some w =>
    let heard := match s.bus.heardAt node with
      | some h => decide (w ≤ h)
      | none => false
    if heard then .next (s.updCtrl node (fun (x : Controller) => { x with restart := none }))
    else if t < w + 120000000000 then .next s
    else if x.state = 2 then
      let s' := s.ctrlRevert node t
      .next (match s.rosterOf (128 + node) with
        | some (c, r) => s'.revertRoster c r 0x580A t
        | none => s')
    else .next (s.ctrlDead node t)

/-- COORDINATOR_RESTART (R933, R934, R938): a roster without commit record is aborted; COMMIT is sent again to targets that have not
reached TRIAL, at the recorded time or, once that has passed, one 60 s ahead. -/
def execCoordinatorRestart (tray : TrayId) (t : Nat) (s : State) : Host.Outcome State Fault Refusal :=
  let c := s.coord tray
  match s.roster c, s.commitOf c with
  | some r, some x =>
    if x.confirmed ∨ r.phase ≠ .committed ∨ r.targets.all s.inTrial then .next s
    else
      let ht := if t ≤ x.actHt then x.actHt else t + 120000000000
      let s := s.putCommit c (some { x with actHt := ht })
      .next (({ r with targets := r.targets.filter (fun q => !s.inTrial q) } : Roster) |> fun left => s.commitTo left ht)
  | some r, none => .next (if r.phase = .staging then s.abortRoster c r 0x1808 else s)
  | none, _ => .next s

end Sys2Proof.Machine
end

