-- ==== Sys2Proof/Machine/Dispatch.lean ====
section
/-! DEFINITION. One arm per command. -/

namespace Sys2Proof.Machine

def exec (i : Instr) (s : State) : Host.Outcome State Fault Refusal :=
  match i with
  | .registerWrite p src off size data => Sys2Proof.Machine.execRegisterWrite p src off size data s
  | .readClear p src off size => Sys2Proof.Machine.execReadClear p src off size s
  | .frameSend p port t => Sys2Proof.Machine.execFrameSend p port t s
  | .markerReceive p port block t4 => Sys2Proof.Machine.execMarkerReceive p port block t4 s
  | .freeLimit p t => Sys2Proof.Machine.execFreeLimit p t s
  | .ppsEdge p t => Sys2Proof.Machine.execPpsEdge p t s
  | .cardPoll tai => Sys2Proof.Machine.execCardPoll tai s
  | .referenceLost lastSync t => Sys2Proof.Machine.execReferenceLost lastSync t s
  | .ppsLoss t => Sys2Proof.Machine.execPpsLoss t s
  | .referenceQualified since t => Sys2Proof.Machine.execReferenceQualified since t s
  | .holdoverLimit t => Sys2Proof.Machine.execHoldoverLimit t s
  | .highWaterRecord t => Sys2Proof.Machine.execHighWaterRecord t s
  | .coldHallSeed p hallValid reference clock => Sys2Proof.Machine.execColdHallSeed p hallValid reference clock s
  | .isolatedRackSeed reference clock t => Sys2Proof.Machine.execIsolatedRackSeed reference clock t s
  | .volleyBoundary p t => Sys2Proof.Machine.execVolleyBoundary p t s
  | .epochBoundary p lost t => Sys2Proof.Machine.execEpochBoundary p lost t s
  | .waitHtRelease p core t => Sys2Proof.Machine.execWaitHtRelease p core t s
  | .playFetchComplete p core n t => Sys2Proof.Machine.execPlayFetchComplete p core n t s
  | .unknownOpcode p core t => Sys2Proof.Machine.execUnknownOpcode p core t s
  | .gemm p core conflicts fail t => Sys2Proof.Machine.execGemm p core conflicts fail t s
  | .groupedGemm p core fail t => Sys2Proof.Machine.execGroupedGemm p core fail t s
  | .attnBlock p core t => Sys2Proof.Machine.execAttnBlock p core t s
  | .vec p core conflicts t => Sys2Proof.Machine.execVec p core conflicts t s
  | .trans p core t => Sys2Proof.Machine.execTrans p core t s
  | .route p core t => Sys2Proof.Machine.execRoute p core t s
  | .layout p core t => Sys2Proof.Machine.execLayout p core t s
  | .gather p core t => Sys2Proof.Machine.execGather p core t s
  | .scatter p core t => Sys2Proof.Machine.execScatter p core t s
  | .move p core conflicts t => Sys2Proof.Machine.execMove p core conflicts t s
  | .sendTile p core t => Sys2Proof.Machine.execSendTile p core t s
  | .tileStripeSend p core t => Sys2Proof.Machine.execTileStripeSend p core t s
  | .windowOp p core t => Sys2Proof.Machine.execWindowOp p core t s
  | .semWait p core t => Sys2Proof.Machine.execSemWait p core t s
  | .semWaitRelease p core t => Sys2Proof.Machine.execSemWaitRelease p core t s
  | .semPost p core t => Sys2Proof.Machine.execSemPost p core t s
  | .semPostApply p core t => Sys2Proof.Machine.execSemPostApply p core t s
  | .fence p core t => Sys2Proof.Machine.execFence p core t s
  | .fenceRelease p core t => Sys2Proof.Machine.execFenceRelease p core t s
  | .waitHt p core t => Sys2Proof.Machine.execWaitHt p core t s
  | .barrier p core t => Sys2Proof.Machine.execBarrier p core t s
  | .announce p core t => Sys2Proof.Machine.execAnnounce p core t s
  | .jump p core t => Sys2Proof.Machine.execJump p core t s
  | .loop p core t => Sys2Proof.Machine.execLoop p core t s
  | .stop p core t => Sys2Proof.Machine.execStop p core t s
  | .commandStart p core queue stalls t => Sys2Proof.Machine.execCommandStart p core queue stalls t s
  | .commandRetire p core num t => Sys2Proof.Machine.execCommandRetire p core num t s
  | .playComplete p core t => Sys2Proof.Machine.execPlayComplete p core t s
  | .shotClockExpire p core t => Sys2Proof.Machine.execShotClockExpire p core t s
  | .laneSlotsGranted p core t => Sys2Proof.Machine.execLaneSlotsGranted p core t s
  | .kvPageArrive p core lane page slot wait t => Sys2Proof.Machine.execKvPageArrive p core lane page slot wait t s
  | .bistComplete p core pass units bank t => Sys2Proof.Machine.execBistComplete p core pass units bank t s
  | .lsZeroingComplete p core t => Sys2Proof.Machine.execLsZeroingComplete p core t s
  | .walkComplete p root va r a t => Sys2Proof.Machine.execWalkComplete p root va r a t s
  | .invRange p src root pages => Sys2Proof.Machine.execInvRange p src root pages s
  | .invRoot p src root => Sys2Proof.Machine.execInvRoot p src root s
  | .invAll p src root => Sys2Proof.Machine.execInvAll p src root s
  | .invComplete p => Sys2Proof.Machine.execInvComplete p s
  | .xltRootWrite p src root data => Sys2Proof.Machine.execXltRootWrite p src root data s
  | .bar2Read p fn off n t => Sys2Proof.Machine.execBar2Read p fn off n t s
  | .bar2Write p fn off data poisoned t => Sys2Proof.Machine.execBar2Write p fn off data poisoned t s
  | .cacheEntryError p leaf index => Sys2Proof.Machine.execCacheEntryError p leaf index s
  | .loopWindowClose p slot t => Sys2Proof.Machine.execLoopWindowClose p slot t s
  | .routeCountsSnapshot p pkt t => Sys2Proof.Machine.execRouteCountsSnapshot p pkt t s
  | .biasUpdateCompute p slot t => Sys2Proof.Machine.execBiasUpdateCompute p slot t s
  | .biasGenerationReceive p pkt num epoch host layers t => Sys2Proof.Machine.execBiasGenerationReceive p pkt num epoch host layers t s
  | .biasApply p slot t => Sys2Proof.Machine.execBiasApply p slot t s
  | .biasCommit p src epoch t => Sys2Proof.Machine.execBiasCommit p src epoch t s
  | .routeCountsStep p pkt t => Sys2Proof.Machine.execRouteCountsStep p pkt t s
  | .planGo p src slot id len t => Sys2Proof.Machine.execPlanGo p src slot id len t s
  | .planDeadline p slot id t => Sys2Proof.Machine.execPlanDeadline p slot id t s
  | .planSectionReceive p pkt id section_ t => Sys2Proof.Machine.execPlanSectionReceive p pkt id section_ t s
  | .signalDetect p port t => Sys2Proof.Machine.execSignalDetect p port t s
  | .equalizeComplete p port polarity order t => Sys2Proof.Machine.execEqualizeComplete p port polarity order t s
  | .controlFrameReceive p port fr good t4 => Sys2Proof.Machine.execControlFrameReceive p port fr good t4 s
  | .identifyTimeout p port t => Sys2Proof.Machine.execIdentifyTimeout p port t s
  | .qualifyWindowEnd p port errs peer peerFlagged t => Sys2Proof.Machine.execQualifyWindowEnd p port errs peer peerFlagged t s
  | .serviceWindowEnd p port errs t => Sys2Proof.Machine.execServiceWindowEnd p port errs t s
  | .spareSwitch p port count t => Sys2Proof.Machine.execSpareSwitch p port count t s
  | .spareAckTimeout p port t => Sys2Proof.Machine.execSpareAckTimeout p port t s
  | .fecAlignmentLoss p port t => Sys2Proof.Machine.execFecAlignmentLoss p port t s
  | .retrainNoSignal p port t => Sys2Proof.Machine.execRetrainNoSignal p port t s
  | .lossOfSignal p port t => Sys2Proof.Machine.execLossOfSignal p port t s
  | .retrain p port t => Sys2Proof.Machine.execRetrain p port t s
  | .clearFailed p port t => Sys2Proof.Machine.execClearFailed p port t s
  | .lnkEnable p port t => Sys2Proof.Machine.execLnkEnable p port t s
  | .lnkDisable p port t => Sys2Proof.Machine.execLnkDisable p port t s
  | .dataFrameReceive p port fr good t => Sys2Proof.Machine.execDataFrameReceive p port fr good t s
  | .letTimeout p port t => Sys2Proof.Machine.execLetTimeout p port t s
  | .packetForward p port pkt t => Sys2Proof.Machine.execPacketForward p port pkt t s
  | .openPacketSend p port t => Sys2Proof.Machine.execOpenPacketSend p port t s
  | .slotOpen p port j t => Sys2Proof.Machine.execSlotOpen p port j t s
  | .schedToOpen p port t => Sys2Proof.Machine.execSchedToOpen p port t s
  | .writePacket p pkt t => Sys2Proof.Machine.execWritePacket p pkt t s
  | .reducePacket p pkt t => Sys2Proof.Machine.execReducePacket p pkt t s
  | .readData p pkt t => Sys2Proof.Machine.execReadData p pkt t s
  | .ack p pkt t => Sys2Proof.Machine.execAck p pkt t s
  | .atomic p pkt t => Sys2Proof.Machine.execAtomic p pkt t s
  | .semPostPacket p pkt t => Sys2Proof.Machine.execSemPostPacket p pkt t s
  | .readReq p pkt t => Sys2Proof.Machine.execReadReq p pkt t s
  | .playStart p pkt t => Sys2Proof.Machine.execPlayStart p pkt t s
  | .playDone p pkt t => Sys2Proof.Machine.execPlayDone p pkt t s
  | .linkState p pkt t => Sys2Proof.Machine.execLinkState p pkt t s
  | .stretchReq p pkt t => Sys2Proof.Machine.execStretchReq p pkt t s
  | .stretch p pkt t => Sys2Proof.Machine.execStretch p pkt t s
  | .barrierArrive p pkt t => Sys2Proof.Machine.execBarrierArrive p pkt t s
  | .barrierRelease p pkt t => Sys2Proof.Machine.execBarrierRelease p pkt t s
  | .barrierMismatch p pkt t => Sys2Proof.Machine.execBarrierMismatch p pkt t s
  | .join p pkt t => Sys2Proof.Machine.execJoin p pkt t s
  | .collAbort p pkt t => Sys2Proof.Machine.execCollAbort p pkt t s
  | .fanoutRun p pkt data t => Sys2Proof.Machine.execFanoutRun p pkt data t s
  | .fanoutDone p pkt t => Sys2Proof.Machine.execFanoutDone p pkt t s
  | .badPacketReceive p pkt t => Sys2Proof.Machine.execBadPacketReceive p pkt t s
  | .resendTimeout p dst slot sid seq t => Sys2Proof.Machine.execResendTimeout p dst slot sid seq t s
  | .deliveryGiveUp p dst slot sid seq t => Sys2Proof.Machine.execDeliveryGiveUp p dst slot sid seq t s
  | .windowIdleFree p src slot sid t => Sys2Proof.Machine.execWindowIdleFree p src slot sid t s
  | .sequenceQuietEnd p slot t => Sys2Proof.Machine.execSequenceQuietEnd p slot t s
  | .fabLoad p src slot epoch t => Sys2Proof.Machine.execFabLoad p src slot epoch t s
  | .templateLoad p slot t => Sys2Proof.Machine.execTemplateLoad p slot t s
  | .windowRegister p src slot index t => Sys2Proof.Machine.execWindowRegister p src slot index t s
  | .windowDeregister p src slot index t => Sys2Proof.Machine.execWindowDeregister p src slot index t s
  | .deregisterComplete p slot t => Sys2Proof.Machine.execDeregisterComplete p slot t s
  | .callLoad p src slot epoch t => Sys2Proof.Machine.execCallLoad p src slot epoch t s
  | .callTableLoad p slot t => Sys2Proof.Machine.execCallTableLoad p slot t s
  | .callFire p slot t => Sys2Proof.Machine.execCallFire p slot t s
  | .callEnd p slot call t => Sys2Proof.Machine.execCallEnd p slot call t s
  | .collectiveTimeout p slot call t => Sys2Proof.Machine.execCollectiveTimeout p slot call t s
  | .sqDoorbell p fn q index t => Sys2Proof.Machine.execSqDoorbell p fn q index t s
  | .cqDoorbell p fn c index t => Sys2Proof.Machine.execCqDoorbell p fn c index t s
  | .callNop p q entry t => Sys2Proof.Machine.execCallNop p q entry t s
  | .callPlay p q entry t => Sys2Proof.Machine.execCallPlay p q entry t s
  | .callStep p q entry t => Sys2Proof.Machine.execCallStep p q entry t s
  | .callSemPost p q entry t => Sys2Proof.Machine.execCallSemPost p q entry t s
  | .callCopy p q entry data t => Sys2Proof.Machine.execCallCopy p q entry data t s
  | .callStorage p q entry t => Sys2Proof.Machine.execCallStorage p q entry t s
  | .callComplete p num t => Sys2Proof.Machine.execCallComplete p num t s
  | .interruptCoalesceTimeout p c t => Sys2Proof.Machine.execInterruptCoalesceTimeout p c t s
  | .hostCallTimeout p num t => Sys2Proof.Machine.execHostCallTimeout p num t s
  | .vfFlr p n t => Sys2Proof.Machine.execVfFlr p n t s
  | .pfFlr p t => Sys2Proof.Machine.execPfFlr p t s
  | .hostReset p linkDown t => Sys2Proof.Machine.execHostReset p linkDown t s
  | .sqEnable p src q data t => Sys2Proof.Machine.execSqEnable p src q data t s
  | .pcieTrainingStart p t => Sys2Proof.Machine.execPcieTrainingStart p t s
  | .pcieConfigRequest p fn req t => Sys2Proof.Machine.execPcieConfigRequest p fn req t s
  | .stoConnect p src mask t => Sys2Proof.Machine.execStoConnect p src mask t s
  | .stoDisconnect p src mask t => Sys2Proof.Machine.execStoDisconnect p src mask t s
  | .nvmeCompletion p key nvme t => Sys2Proof.Machine.execNvmeCompletion p key nvme t s
  | .nvmeTimeout p key t => Sys2Proof.Machine.execNvmeTimeout p key t s
  | .keepAliveFailure p conn t => Sys2Proof.Machine.execKeepAliveFailure p conn t s
  | .reconnectAttempt p conn answer t => Sys2Proof.Machine.execReconnectAttempt p conn answer t s
  | .storageFrameReceive p kind mine vlan ecn t => Sys2Proof.Machine.execStorageFrameReceive p kind mine vlan ecn t s
  | .rdmaAccess p key off data n t => Sys2Proof.Machine.execRdmaAccess p key off data n t s
  | .lineupStage p src slot t => Sys2Proof.Machine.execLineupStage p src slot t s
  | .lineupStageCheckDone p t => Sys2Proof.Machine.execLineupStageCheckDone p t s
  | .lineupDiscard p src t => Sys2Proof.Machine.execLineupDiscard p src t s
  | .lineupApplySchedule p src epoch t => Sys2Proof.Machine.execLineupApplySchedule p src epoch t s
  | .lineupApply p t => Sys2Proof.Machine.execLineupApply p t s
  | .bootSetVerified p t => Sys2Proof.Machine.execBootSetVerified p t s
  | .serialWaitTimeout p t => Sys2Proof.Machine.execSerialWaitTimeout p t s
  | .lineupLoadComplete p t => Sys2Proof.Machine.execLineupLoadComplete p t s
  | .hbmTrainingComplete p failed t => Sys2Proof.Machine.execHbmTrainingComplete p failed t s
  | .hbmTestComplete p failed repairs t => Sys2Proof.Machine.execHbmTestComplete p failed repairs t s
  | .hbmZeroingComplete p t => Sys2Proof.Machine.execHbmZeroingComplete p t s
  | .portPhaseEnd p t => Sys2Proof.Machine.execPortPhaseEnd p t s
  | .tmcGoDispatch p t => Sys2Proof.Machine.execTmcGoDispatch p t s
  | .go p src t => Sys2Proof.Machine.execGo p src t s
  | .goFallback p t => Sys2Proof.Machine.execGoFallback p t s
  | .waveStart p t => Sys2Proof.Machine.execWaveStart p t s
  | .mapComplete p t => Sys2Proof.Machine.execMapComplete p t s
  | .readyDeadline p t => Sys2Proof.Machine.execReadyDeadline p t s
  | .resetCore p src target at_ t => Sys2Proof.Machine.execResetCore p src target at_ t s
  | .resetCluster p src target at_ t => Sys2Proof.Machine.execResetCluster p src target at_ t s
  | .resetPartition p src target at_ t => Sys2Proof.Machine.execResetPartition p src target at_ t s
  | .resetPackage p src target at_ t => Sys2Proof.Machine.execResetPackage p src target at_ t s
  | .resetRack p src target at_ t => Sys2Proof.Machine.execResetRack p src target at_ t s
  | .resetAtTime p t => Sys2Proof.Machine.execResetAtTime p t s
  | .pinReset p t => Sys2Proof.Machine.execPinReset p t s
  | .auxPowerOn p variant t => Sys2Proof.Machine.execAuxPowerOn p variant t s
  | .brownOut p rail t => Sys2Proof.Machine.execBrownOut p rail t s
  | .watchdogExpiry p t => Sys2Proof.Machine.execWatchdogExpiry p t s
  | .criticalError p loc unit t => Sys2Proof.Machine.execCriticalError p loc unit t s
  | .drainComplete p scope target t => Sys2Proof.Machine.execDrainComplete p scope target t s
  | .drainTimeout p scope target t => Sys2Proof.Machine.execDrainTimeout p scope target t s
  | .absorbHoldEnd p t => Sys2Proof.Machine.execAbsorbHoldEnd p t s
  | .linkResetHoldEnd p t => Sys2Proof.Machine.execLinkResetHoldEnd p t s
  | .clusterRetrainComplete p cl t => Sys2Proof.Machine.execClusterRetrainComplete p cl t s
  | .partitionRelease p slot t => Sys2Proof.Machine.execPartitionRelease p slot t s
  | .tmcIbi p slot ht t => Sys2Proof.Machine.execTmcIbi p slot ht t s
  | .ceSample p t => Sys2Proof.Machine.execCeSample p t s
  | .retire p src core force t => Sys2Proof.Machine.execRetire p src core force t s
  | .substitutionCopyDone p core t => Sys2Proof.Machine.execSubstitutionCopyDone p core t s
  | .mapRecordWriteDone p ok t => Sys2Proof.Machine.execMapRecordWriteDone p ok t s
  | .mapWriteRetry p t => Sys2Proof.Machine.execMapWriteRetry p t s
  | .shelfFailure shelf => Sys2Proof.Machine.execShelfFailure shelf s
  | .busOutOfRange rail t => Sys2Proof.Machine.execBusOutOfRange rail t s
  | .converterFailure tray t => Sys2Proof.Machine.execConverterFailure tray t s
  | .railInRegulation p rail mv amps t => Sys2Proof.Machine.execRailInRegulation p rail mv amps t s
  | .railUpTimeout p rail t => Sys2Proof.Machine.execRailUpTimeout p rail t s
  | .powerUpRetry p t => Sys2Proof.Machine.execPowerUpRetry p t s
  | .railOff p rail t => Sys2Proof.Machine.execRailOff p rail t s
  | .railDownStepTimeout p t => Sys2Proof.Machine.execRailDownStepTimeout p t s
  | .railStuckTimeout p rail t => Sys2Proof.Machine.execRailStuckTimeout p rail t s
  | .efuseReclose p variant t => Sys2Proof.Machine.execEfuseReclose p variant t s
  | .shareCompute output inputs t => Sys2Proof.Machine.execShareCompute output inputs t s
  | .boostChoice p t => Sys2Proof.Machine.execBoostChoice p t s
  | .powerSample p mw mv t => Sys2Proof.Machine.execPowerSample p mw mv t s
  | .droopCrossing p cl t => Sys2Proof.Machine.execDroopCrossing p cl t s
  | .announcePhaseWake p t => Sys2Proof.Machine.execAnnouncePhaseWake p t s
  | .energyInterval p ein eout ecl bal t => Sys2Proof.Machine.execEnergyInterval p ein eout ecl bal t s
  | .energyPublish t => Sys2Proof.Machine.execEnergyPublish t s
  | .junctionSample p cores hub t => Sys2Proof.Machine.execJunctionSample p cores hub t s
  | .thermalGateUpdate p t => Sys2Proof.Machine.execThermalGateUpdate p t s
  | .thermalTrip p t => Sys2Proof.Machine.execThermalTrip p t s
  | .supplyUpdate tray temp flow t => Sys2Proof.Machine.execSupplyUpdate tray temp flow t s
  | .supplyStale p t => Sys2Proof.Machine.execSupplyStale p t s
  | .thetaWindow p t => Sys2Proof.Machine.execThetaWindow p t s
  | .junctionMinute p t => Sys2Proof.Machine.execJunctionMinute p t s
  | .thermalRelease p src t => Sys2Proof.Machine.execThermalRelease p src t s
  | .coolantFaultCondition tray row t => Sys2Proof.Machine.execCoolantFaultCondition tray row t s
  | .heartbeatSend node health t => Sys2Proof.Machine.execHeartbeatSend node health t s
  | .heartbeat ver node seen health t => Sys2Proof.Machine.execHeartbeat ver node seen health t s
  | .claim ver umpire t => Sys2Proof.Machine.execClaim ver umpire t s
  | .umpireRelease ver umpire cause t => Sys2Proof.Machine.execUmpireRelease ver umpire cause t s
  | .powerCmdOn ver node tray mask t => Sys2Proof.Machine.execPowerCmdOn ver node tray mask t s
  | .powerCmdOff ver node tray mask t => Sys2Proof.Machine.execPowerCmdOff ver node tray mask t s
  | .powerCmdEfuseOpen ver node tray mask t => Sys2Proof.Machine.execPowerCmdEfuseOpen ver node tray mask t s
  | .powerCmdEfuseClose ver node tray mask t => Sys2Proof.Machine.execPowerCmdEfuseClose ver node tray mask t s
  | .powerDone ver id st => Sys2Proof.Machine.execPowerDone ver id st s
  | .alert ver unit wholeTray t => Sys2Proof.Machine.execAlert ver unit wholeTray t s
  | .presence ver tray inserted input t => Sys2Proof.Machine.execPresence ver tray inserted input t s
  | .share ver node tray watts t => Sys2Proof.Machine.execShare ver node tray watts t s
  | .units ver node tray states => Sys2Proof.Machine.execUnits ver node tray states s
  | .maint ver node tray on => Sys2Proof.Machine.execMaint ver node tray on s
  | .primaryLineRelease umpire t => Sys2Proof.Machine.execPrimaryLineRelease umpire t s
  | .primaryAssert umpire t => Sys2Proof.Machine.execPrimaryAssert umpire t s
  | .quorumLoss umpire t => Sys2Proof.Machine.execQuorumLoss umpire t s
  | .mirrorSync => Sys2Proof.Machine.execMirrorSync s
  | .noPrimaryTimeout t => Sys2Proof.Machine.execNoPrimaryTimeout t s
  | .soloEntry tray t => Sys2Proof.Machine.execSoloEntry tray t s
  | .umpirePoll answers t => Sys2Proof.Machine.execUmpirePoll answers t s
  | .rackSummaryRead rack part ready cores reach rings excluded t => Sys2Proof.Machine.execRackSummaryRead rack part ready cores reach rings excluded t s
  | .maintWindowExpire t => Sys2Proof.Machine.execMaintWindowExpire t s
  | .connectorFault tray code kind t => Sys2Proof.Machine.execConnectorFault tray code kind t s
  | .serviceButton tray t => Sys2Proof.Machine.execServiceButton tray t s
  | .redfishRetire p core force t => Sys2Proof.Machine.execRedfishRetire p core force t s
  | .redfishThermalRelease p t => Sys2Proof.Machine.execRedfishThermalRelease p t s
  | .redfishReset p scope target at_ ht t => Sys2Proof.Machine.execRedfishReset p scope target at_ ht t s
  | .redfishClearFailed p port t => Sys2Proof.Machine.execRedfishClearFailed p port t s
  | .redfishLocate p port t => Sys2Proof.Machine.execRedfishLocate p port t s
  | .openMaintenanceWindow tray minutes t => Sys2Proof.Machine.execOpenMaintenanceWindow tray minutes t s
  | .closeMaintenanceWindow tray t => Sys2Proof.Machine.execCloseMaintenanceWindow tray t s
  | .powerPackage p on t => Sys2Proof.Machine.execPowerPackage p on t s
  | .setPartitionReady part ready => Sys2Proof.Machine.execSetPartitionReady part ready s
  | .rosterSubmit tray image t => Sys2Proof.Machine.execRosterSubmit tray image t s
  | .stageWrite p src off t => Sys2Proof.Machine.execStageWrite p src off t s
  | .eraseSlot p src t => Sys2Proof.Machine.execEraseSlot p src t s
  | .readBack p src off t => Sys2Proof.Machine.execReadBack p src off t s
  | .bootVerify p src t => Sys2Proof.Machine.execBootVerify p src t s
  | .voteReceive target yes st t => Sys2Proof.Machine.execVoteReceive target yes st t s
  | .stagingTimeout t => Sys2Proof.Machine.execStagingTimeout t s
  | .bootAbort p src t => Sys2Proof.Machine.execBootAbort p src t s
  | .bootCommit p src t => Sys2Proof.Machine.execBootCommit p src t s
  | .rosterActivate target t => Sys2Proof.Machine.execRosterActivate target t s
  | .bootConfirm p src t => Sys2Proof.Machine.execBootConfirm p src t s
  | .bootRevert p src t => Sys2Proof.Machine.execBootRevert p src t s
  | .revertAtTime target t => Sys2Proof.Machine.execRevertAtTime target t s
  | .confirmRoster tray t => Sys2Proof.Machine.execConfirmRoster tray t s
  | .revertRoster tray t => Sys2Proof.Machine.execRevertRoster tray t s
  | .trialWindowEnd target t => Sys2Proof.Machine.execTrialWindowEnd target t s
  | .trialSilenceTimeout node t => Sys2Proof.Machine.execTrialSilenceTimeout node t s
  | .coordinatorRestart tray t => Sys2Proof.Machine.execCoordinatorRestart tray t s
  | .pcieLinkTrained p rate width flit t => Sys2Proof.Machine.execPcieLinkTrained p rate width flit t s
  | .storageLinkChange p st t => Sys2Proof.Machine.execStorageLinkChange p st t s
  | .pkgResetRelease p t => Sys2Proof.Machine.execPkgResetRelease p t s
  | .auxPowerLoss p t => Sys2Proof.Machine.execAuxPowerLoss p t s
  | .shelfRestored shelf => Sys2Proof.Machine.execShelfRestored shelf s
  | .hbmTemperatureSample p temps t => Sys2Proof.Machine.execHbmTemperatureSample p temps t s
  | .coolantConditionEnd tray row => Sys2Proof.Machine.execCoolantConditionEnd tray row s
  | .connectorReenable tray code cleared t => Sys2Proof.Machine.execConnectorReenable tray code cleared t s
  | .callAtHtAction p t => Sys2Proof.Machine.execCallAtHtAction p t s
  | .staggeredActivation node t => Sys2Proof.Machine.execStaggeredActivation node t s

end Sys2Proof.Machine
end

