-- ==== Sys2Proof/Safety.lean ====
section
/-! DEFINITION. The terms in which claims about the block are stated. -/

namespace Sys2Proof

/-- The package in which alone a command acts; `none` for a command of the rack, of a tray or of several packages. -/
def Instr.site : Instr → Option PkgId
  | .registerWrite p _ _ _ _ => some p
  | .readClear p _ _ _ => some p
  | .frameSend p _ _ => some p
  | .markerReceive p _ _ _ => some p
  | .freeLimit p _ => some p
  | .ppsEdge _ _ => none
  | .cardPoll _ => none
  | .referenceLost _ _ => none
  | .ppsLoss _ => none
  | .referenceQualified _ _ => none
  | .holdoverLimit _ => none
  | .highWaterRecord _ => none
  | .coldHallSeed p _ _ _ => some p
  | .isolatedRackSeed _ _ _ => none
  | .volleyBoundary p _ => some p
  | .epochBoundary p _ _ => some p
  | .waitHtRelease p _ _ => some p
  | .playFetchComplete p _ _ _ => some p
  | .unknownOpcode p _ _ => some p
  | .gemm p _ _ _ _ => some p
  | .groupedGemm p _ _ _ => some p
  | .attnBlock p _ _ => some p
  | .vec p _ _ _ => some p
  | .trans p _ _ => some p
  | .route p _ _ => some p
  | .layout p _ _ => some p
  | .gather p _ _ => some p
  | .scatter p _ _ => some p
  | .move p _ _ _ => some p
  | .sendTile p _ _ => some p
  | .tileStripeSend p _ _ => some p
  | .windowOp p _ _ => some p
  | .semWait p _ _ => some p
  | .semWaitRelease p _ _ => some p
  | .semPost p _ _ => some p
  | .semPostApply p _ _ => some p
  | .fence p _ _ => some p
  | .fenceRelease p _ _ => some p
  | .waitHt p _ _ => some p
  | .barrier p _ _ => some p
  | .announce p _ _ => some p
  | .jump p _ _ => some p
  | .loop p _ _ => some p
  | .stop p _ _ => some p
  | .commandStart p _ _ _ _ => some p
  | .commandRetire p _ _ _ => some p
  | .playComplete _ _ _ => none
  | .shotClockExpire p _ _ => some p
  | .laneSlotsGranted p _ _ => some p
  | .kvPageArrive p _ _ _ _ _ _ => some p
  | .bistComplete _ _ _ _ _ _ => none
  | .lsZeroingComplete _ _ _ => none
  | .walkComplete p _ _ _ _ _ => some p
  | .invRange p _ _ _ => some p
  | .invRoot p _ _ => some p
  | .invAll p _ _ => some p
  | .invComplete p => some p
  | .xltRootWrite p _ _ _ => some p
  | .bar2Read p _ _ _ _ => some p
  | .bar2Write p _ _ _ _ _ => some p
  | .cacheEntryError p _ _ => some p
  | .loopWindowClose p _ _ => some p
  | .routeCountsSnapshot p _ _ => some p
  | .biasUpdateCompute p _ _ => some p
  | .biasGenerationReceive p _ _ _ _ _ _ => some p
  | .biasApply p _ _ => some p
  | .biasCommit p _ _ _ => some p
  | .routeCountsStep p _ _ => some p
  | .planGo p _ _ _ _ _ => some p
  | .planDeadline p _ _ _ => some p
  | .planSectionReceive p _ _ _ _ => some p
  | .signalDetect p _ _ => some p
  | .equalizeComplete p _ _ _ _ => some p
  | .controlFrameReceive p _ _ _ _ => some p
  | .identifyTimeout p _ _ => some p
  | .qualifyWindowEnd p _ _ _ _ _ => some p
  | .serviceWindowEnd p _ _ _ => some p
  | .spareSwitch p _ _ _ => some p
  | .spareAckTimeout p _ _ => some p
  | .fecAlignmentLoss p _ _ => some p
  | .retrainNoSignal p _ _ => some p
  | .lossOfSignal p _ _ => some p
  | .retrain p _ _ => some p
  | .clearFailed p _ _ => some p
  | .lnkEnable p _ _ => some p
  | .lnkDisable p _ _ => some p
  | .dataFrameReceive p _ _ _ _ => some p
  | .letTimeout p _ _ => some p
  | .packetForward p _ _ _ => some p
  | .openPacketSend p _ _ => some p
  | .slotOpen p _ _ _ => some p
  | .schedToOpen p _ _ => some p
  | .writePacket p _ _ => some p
  | .reducePacket p _ _ => some p
  | .readData p _ _ => some p
  | .ack p _ _ => some p
  | .atomic p _ _ => some p
  | .semPostPacket p _ _ => some p
  | .readReq p _ _ => some p
  | .playStart p _ _ => some p
  | .playDone p _ _ => some p
  | .linkState p _ _ => some p
  | .stretchReq p _ _ => some p
  | .stretch p _ _ => some p
  | .barrierArrive p _ _ => some p
  | .barrierRelease p _ _ => some p
  | .barrierMismatch p _ _ => some p
  | .join p _ _ => some p
  | .collAbort p _ _ => some p
  | .fanoutRun p _ _ _ => some p
  | .fanoutDone p _ _ => some p
  | .badPacketReceive p _ _ => some p
  | .resendTimeout p _ _ _ _ _ => some p
  | .deliveryGiveUp p _ _ _ _ _ => some p
  | .windowIdleFree p _ _ _ _ => some p
  | .sequenceQuietEnd p _ _ => some p
  | .fabLoad p _ _ _ _ => some p
  | .templateLoad p _ _ => some p
  | .windowRegister p _ _ _ _ => some p
  | .windowDeregister p _ _ _ _ => some p
  | .deregisterComplete p _ _ => some p
  | .callLoad p _ _ _ _ => some p
  | .callTableLoad p _ _ => some p
  | .callFire p _ _ => some p
  | .callEnd p _ _ _ => some p
  | .collectiveTimeout p _ _ _ => some p
  | .sqDoorbell p _ _ _ _ => some p
  | .cqDoorbell p _ _ _ _ => some p
  | .callNop p _ _ _ => some p
  | .callPlay p _ _ _ => some p
  | .callStep p _ _ _ => some p
  | .callSemPost p _ _ _ => some p
  | .callCopy p _ _ _ _ => some p
  | .callStorage p _ _ _ => some p
  | .callComplete p _ _ => some p
  | .interruptCoalesceTimeout p _ _ => some p
  | .hostCallTimeout p _ _ => some p
  | .vfFlr p _ _ => some p
  | .pfFlr p _ => some p
  | .hostReset p _ _ => some p
  | .sqEnable p _ _ _ _ => some p
  | .pcieTrainingStart p _ => some p
  | .pcieConfigRequest p _ _ _ => some p
  | .stoConnect p _ _ _ => some p
  | .stoDisconnect p _ _ _ => some p
  | .nvmeCompletion p _ _ _ => some p
  | .nvmeTimeout p _ _ => some p
  | .keepAliveFailure p _ _ => some p
  | .reconnectAttempt p _ _ _ => some p
  | .storageFrameReceive p _ _ _ _ _ => some p
  | .rdmaAccess p _ _ _ _ _ => some p
  | .lineupStage p _ _ _ => some p
  | .lineupStageCheckDone p _ => some p
  | .lineupDiscard p _ _ => some p
  | .lineupApplySchedule p _ _ _ => some p
  | .lineupApply p _ => some p
  | .bootSetVerified _ _ => none
  | .serialWaitTimeout p _ => some p
  | .lineupLoadComplete p _ => some p
  | .hbmTrainingComplete p _ _ => some p
  | .hbmTestComplete p _ _ _ => some p
  | .hbmZeroingComplete p _ => some p
  | .portPhaseEnd p _ => some p
  | .tmcGoDispatch _ _ => none
  | .go p _ _ => some p
  | .goFallback p _ => some p
  | .waveStart p _ => some p
  | .mapComplete p _ => some p
  | .readyDeadline p _ => some p
  | .resetCore p _ _ _ _ => some p
  | .resetCluster p _ _ _ _ => some p
  | .resetPartition p _ _ _ _ => some p
  | .resetPackage p _ _ _ _ => some p
  | .resetRack p _ _ _ _ => some p
  | .resetAtTime p _ => some p
  | .pinReset p _ => some p
  | .auxPowerOn p _ _ => some p
  | .brownOut _ _ _ => none
  | .watchdogExpiry p _ => some p
  | .criticalError _ _ _ _ => none
  | .drainComplete _ _ _ _ => none
  | .drainTimeout _ _ _ _ => none
  | .absorbHoldEnd _ _ => none
  | .linkResetHoldEnd _ _ => none
  | .clusterRetrainComplete p _ _ => some p
  | .partitionRelease p _ _ => some p
  | .tmcIbi _ _ _ _ => none
  | .ceSample _ _ => none
  | .retire _ _ _ _ _ => none
  | .substitutionCopyDone p _ _ => some p
  | .mapRecordWriteDone p _ _ => some p
  | .mapWriteRetry p _ => some p
  | .shelfFailure _ => none
  | .busOutOfRange _ _ => none
  | .converterFailure _ _ => none
  | .railInRegulation p _ _ _ _ => some p
  | .railUpTimeout _ _ _ => none
  | .powerUpRetry p _ => some p
  | .railOff _ _ _ => none
  | .railDownStepTimeout p _ => some p
  | .railStuckTimeout _ _ _ => none
  | .efuseReclose p _ _ => some p
  | .shareCompute _ _ _ => none
  | .boostChoice p _ => some p
  | .powerSample p _ _ _ => some p
  | .droopCrossing p _ _ => some p
  | .announcePhaseWake p _ => some p
  | .energyInterval p _ _ _ _ _ => some p
  | .energyPublish _ => none
  | .junctionSample p _ _ _ => some p
  | .thermalGateUpdate p _ => some p
  | .thermalTrip p _ => some p
  | .supplyUpdate _ _ _ _ => none
  | .supplyStale p _ => some p
  | .thetaWindow _ _ => none
  | .junctionMinute p _ => some p
  | .thermalRelease p _ _ => some p
  | .coolantFaultCondition _ _ _ => none
  | .heartbeatSend _ _ _ => none
  | .heartbeat _ _ _ _ _ => none
  | .claim _ _ _ => none
  | .umpireRelease _ _ _ _ => none
  | .powerCmdOn _ _ _ _ _ => none
  | .powerCmdOff _ _ _ _ _ => none
  | .powerCmdEfuseOpen _ _ _ _ _ => none
  | .powerCmdEfuseClose _ _ _ _ _ => none
  | .powerDone _ _ _ => none
  | .alert _ _ _ _ => none
  | .presence _ _ _ _ _ => none
  | .share _ _ _ _ _ => none
  | .units _ _ _ _ => none
  | .maint _ _ _ _ => none
  | .primaryLineRelease _ _ => none
  | .primaryAssert _ _ => none
  | .quorumLoss _ _ => none
  | .mirrorSync => none
  | .noPrimaryTimeout _ => none
  | .soloEntry _ _ => none
  | .umpirePoll _ _ => none
  | .rackSummaryRead _ _ _ _ _ _ _ _ => none
  | .maintWindowExpire _ => none
  | .connectorFault _ _ _ _ => none
  | .serviceButton _ _ => none
  | .redfishRetire _ _ _ _ => none
  | .redfishThermalRelease _ _ => none
  | .redfishReset _ _ _ _ _ _ => none
  | .redfishClearFailed _ _ _ => none
  | .redfishLocate _ _ _ => none
  | .openMaintenanceWindow _ _ _ => none
  | .closeMaintenanceWindow _ _ => none
  | .powerPackage _ _ _ => none
  | .setPartitionReady _ _ => none
  | .rosterSubmit _ _ _ => none
  | .stageWrite p _ _ _ => some p
  | .eraseSlot p _ _ => some p
  | .readBack p _ _ _ => some p
  | .bootVerify p _ _ => some p
  | .voteReceive _ _ _ _ => none
  | .stagingTimeout _ => none
  | .bootAbort p _ _ => some p
  | .bootCommit p _ _ => some p
  | .rosterActivate _ _ => none
  | .bootConfirm p _ _ => some p
  | .bootRevert p _ _ => some p
  | .revertAtTime _ _ => none
  | .confirmRoster _ _ => none
  | .revertRoster _ _ => none
  | .trialWindowEnd _ _ => none
  | .trialSilenceTimeout _ _ => none
  | .coordinatorRestart _ _ => none
  | .pcieLinkTrained p _ _ _ _ => some p
  | .storageLinkChange p _ _ => some p
  | .pkgResetRelease p _ => some p
  | .auxPowerLoss _ _ => none
  | .shelfRestored _ => none
  | .hbmTemperatureSample p _ _ => some p
  | .coolantConditionEnd _ _ => none
  | .connectorReenable _ _ _ _ => none
  | .callAtHtAction p _ => some p
  | .staggeredActivation _ _ => none

end Sys2Proof

namespace Sys2Proof.Machine

/-- A command answers a next state, of which `P` holds. -/
def Completes (c : Instr) (s : State) (P : State → Prop) : Prop := ∃ t, exec c s = .next t ∧ P t

/-- The numbers of the Redfish events count up by one per event to the next one (R895). -/
def State.eventsInOrder (s : State) : Prop := ∀ i e, s.events[i]? = some e → e.id + i + 1 = s.nextEvent

/-- Nothing of a rack differs but one package, and the events that were posted. -/
def State.sameBut (s t : State) (p : PkgId) : Prop :=
  ∃ k es n, t = { s with pkgs := s.pkgs.set p k, events := es ++ s.events, nextEvent := n }

/-- Of a package these are the same: HBM, flash, windows, ports, host and routing engines, lineup store, rails, and every register below
offset `b`. -/
def Pkg.keeps (k j : Pkg) (b : Nat) : Prop :=
  j.hbm = k.hbm ∧ j.hbmBad = k.hbmBad ∧ j.flash = k.flash ∧ j.windows = k.windows ∧ j.links = k.links ∧ j.moe = k.moe ∧ j.lup = k.lup ∧
  j.boot = k.boot ∧ j.bring = k.bring ∧ ∀ o, o < b → j.cell o = k.cell o

/-- A received packet passes the checks of every packet, is not absorbed, and has a fresh place in its receive window (R439, R443, R444,
R483–R485, R734): its effect is performed. -/
def Pkg.accepts (k : Pkg) (p : Packet) : Bool :=
  (k.screen p).2 && !(k.screen p).1.absorbs p && decide (((k.screen p).1.claim p).2 = .fresh)

/-- The stretch count a package has received for slot `sl` and epoch `e`, 0 where it received none (R77, R80). -/
def Pkg.stretchFor (k : Pkg) (sl e : Nat) : Nat :=
  match k.time.stretchHeld.find? (fun h => h.1 == sl && h.2.1 == e) with
  | some h => h.2.2
  | none => 0

/-- The HBM units of a range hold no uncorrectable error and lie in stacks that have not failed. -/
def Pkg.unitsGood (k : Pkg) (a n : Nat) : Bool :=
  (hbmUnits a n).all (fun u => k.getF (F.HBM_STATE (hbmStack (u * 64))) != 3 && !k.hbmBad.contains u)

/-- An access of `n` bytes at a virtual address lies in one page that translates to HBM at `x`, whose units are good. -/
def Pkg.maps (k : Pkg) (root va n : Nat) (r : Requester) (a : Access4) (x : Nat) : Bool :=
  match (k.xlate root va r a).2 with
  | .ok (.hbm y, left) => y == x && decide (n ≤ left) && k.unitsGood x n
  | _ => false

/-- No cached leaf covers an address of a root. -/
def Pkg.uncached (k : Pkg) (root va : Nat) : Bool :=
  k.xlt.leaves.all (fun l => !(l.root == root && decide (l.va ≤ va) && decide (va < l.va + l.size)))

/-- The play of core `c` and its next word, when that word has opcode `op`, passes the word checks and may issue now (R171, R172, R177). -/
def Pkg.issuable (k : Pkg) (c op : Nat) : Option (Play × Bytes) :=
  match k.play c with
  | none => none
  | some pl => match k.nextWord pl with
    | none => none
    | some b =>
      if !pl.stopping && !pl.draining && pl.block.isNone && decide (k.getF (F.CORE_SEQ_NEXT c) < pl.length)
        && fieldAt b 0 1 == op && (wordCheck b pl.tile.isSome).isNone && !k.notifyHeld c b && k.waitToken c b == some 0
      then some (pl, b) else none

/-- A package fetches the entry at the head of a submission queue now, as a call that is no duplicate, passes the checks of R600 and is not
held back by ORDER; every earlier call has started. -/
def Pkg.takesCall (k : Pkg) (q : Nat) (e : Bytes) : Bool :=
  k.mayFetch q && (k.callRefusal (k.getF (F.HIF_SQ_OWNER q)) e).isNone && !bit (fieldAt e 1 1) 2
    && k.host.replay.all (fun r => !(r.sq == q && r.id == fieldAt e 4 4))
    && k.host.calls.all (fun c => c.started && decide (c.num < k.host.nextCall))

/-- A local store holds no error (R125, R126). -/
def Pkg.lsClean (k : Pkg) (c : Nat) : Bool := (k.core c).lsBad.isEmpty && (k.core c).lsCe.isEmpty

end Sys2Proof.Machine
end

