-- ==== Sys2Proof/WellFormed.lean ====
section
/-! DEFINITION. What an operand from outside may hold: field widths of Tables 10-1, 9-2 and 9-3, the Hall Time counter's
64 bits (R41), CSR accesses of 4 or 8 aligned bytes in BAR0, and the lengths of measured lists. `exec` does not lean on these
checks: it is total on every operand. -/

namespace Sys2Proof

/-- `v` fits in `n` bits. -/
def fits (n v : Nat) : Bool := decide (v < 2 ^ n)

/-- A Hall Time: the counter behind `HTM_NOW` has 64 bits (R41). -/
def timeOk (t : Nat) : Bool := fits 64 t

/-- A CSR access: 32 or 64 bits, naturally aligned, in the 64 MiB of BAR0 (R14, R981). -/
def accessOk (off size : Nat) : Bool :=
  (size == 32 && off % 4 == 0 || size == 64 && off % 8 == 0) && decide (off < 0x4000000)

/-- The fields of Table 10-1 fit their widths, and the body is at most 32 units of 256 bytes. -/
def Machine.Packet.wf (k : Packet) : Bool :=
  fits 8 k.type && fits 8 k.vc && fits 16 k.route && fits 8 k.hops && fits 8 k.len && fits 16 k.stream && fits 32 k.src
    && fits 32 k.dst && fits 32 k.seq && fits 32 k.born && fits 64 k.addr && decide (k.body.length ≤ 8192) && fits 32 k.crc

/-- The fields of Tables 9-2 and 9-3 fit their widths. -/
def Machine.Frame.wf (f : Frame) : Bool :=
  fits 8 f.type && fits 16 f.count && fits 16 f.letSeq && fits 16 f.letAck && decide (f.payload.length ≤ 624)
    && fits 16 f.pktStart && fits 8 f.notice && fits 8 f.spareReq && fits 8 f.spareAck && fits 8 f.rxActive
    && fits 16 f.switchAt

/-- The operands a command may carry, its Hall Time apart. -/
def Instr.operandsOk : Instr → Bool
  | .registerWrite _ _ off size data => accessOk off size && fits size data
  | .readClear _ _ off size => accessOk off size
  | .frameSend _ _ _ => true
  | .markerReceive _ _ block _ => decide (block.length ≤ 64)
  | .freeLimit _ _ => true
  | .ppsEdge _ _ => true
  | .cardPoll _ => true
  | .referenceLost lastSync _ => timeOk lastSync
  | .ppsLoss _ => true
  | .referenceQualified since _ => timeOk since
  | .holdoverLimit _ => true
  | .highWaterRecord _ => true
  | .coldHallSeed _ _ reference clock => timeOk reference && timeOk clock
  | .isolatedRackSeed reference clock _ => timeOk reference && timeOk clock
  | .volleyBoundary _ _ => true
  | .epochBoundary _ _ _ => true
  | .waitHtRelease _ _ _ => true
  | .playFetchComplete _ _ _ _ => true
  | .unknownOpcode _ _ _ => true
  | .gemm _ _ _ _ _ => true
  | .groupedGemm _ _ _ _ => true
  | .attnBlock _ _ _ => true
  | .vec _ _ _ _ => true
  | .trans _ _ _ => true
  | .route _ _ _ => true
  | .layout _ _ _ => true
  | .gather _ _ _ => true
  | .scatter _ _ _ => true
  | .move _ _ _ _ => true
  | .sendTile _ _ _ => true
  | .tileStripeSend _ _ _ => true
  | .windowOp _ _ _ => true
  | .semWait _ _ _ => true
  | .semWaitRelease _ _ _ => true
  | .semPost _ _ _ => true
  | .semPostApply _ _ _ => true
  | .fence _ _ _ => true
  | .fenceRelease _ _ _ => true
  | .waitHt _ _ _ => true
  | .barrier _ _ _ => true
  | .announce _ _ _ => true
  | .jump _ _ _ => true
  | .loop _ _ _ => true
  | .stop _ _ _ => true
  | .commandStart _ _ _ _ _ => true
  | .commandRetire _ _ _ _ => true
  | .playComplete _ _ _ => true
  | .shotClockExpire _ _ _ => true
  | .laneSlotsGranted _ _ _ => true
  | .kvPageArrive _ _ _ _ slot _ _ => decide (slot < 16)
  | .bistComplete _ _ _ units_ bank _ => fits 16 units_ && fits 8 bank
  | .lsZeroingComplete _ _ _ => true
  | .walkComplete _ _ _ _ _ _ => true
  | .invRange _ _ _ _ => true
  | .invRoot _ _ _ => true
  | .invAll _ _ _ => true
  | .invComplete _ => true
  | .xltRootWrite _ _ _ data => fits 64 data
  | .bar2Read _ _ _ _ _ => true
  | .bar2Write _ _ _ _ _ _ => true
  | .cacheEntryError _ _ _ => true
  | .loopWindowClose _ _ _ => true
  | .routeCountsSnapshot _ pkt _ => pkt.wf
  | .biasUpdateCompute _ _ _ => true
  | .biasGenerationReceive _ pkt _ epoch _ _ _ => pkt.wf && fits 48 epoch
  | .biasApply _ _ _ => true
  | .biasCommit _ _ epoch _ => fits 48 epoch
  | .routeCountsStep _ pkt _ => pkt.wf
  | .planGo _ _ _ _ len _ => fits 32 len
  | .planDeadline _ _ _ _ => true
  | .planSectionReceive _ pkt _ _ _ => pkt.wf
  | .signalDetect _ _ _ => true
  | .equalizeComplete _ _ polarity _ _ => fits 5 polarity
  | .controlFrameReceive _ _ fr _ _ => fr.wf
  | .identifyTimeout _ _ _ => true
  | .qualifyWindowEnd _ _ errs _ _ _ => errs.length == 5
  | .serviceWindowEnd _ _ errs _ => errs.length == 5
  | .spareSwitch _ _ count _ => fits 16 count
  | .spareAckTimeout _ _ _ => true
  | .fecAlignmentLoss _ _ _ => true
  | .retrainNoSignal _ _ _ => true
  | .lossOfSignal _ _ _ => true
  | .retrain _ _ _ => true
  | .clearFailed _ _ _ => true
  | .lnkEnable _ _ _ => true
  | .lnkDisable _ _ _ => true
  | .dataFrameReceive _ _ fr _ _ => fr.wf
  | .letTimeout _ _ _ => true
  | .packetForward _ _ pkt _ => pkt.wf
  | .openPacketSend _ _ _ => true
  | .slotOpen _ _ _ _ => true
  | .schedToOpen _ _ _ => true
  | .writePacket _ pkt _ => pkt.wf
  | .reducePacket _ pkt _ => pkt.wf
  | .readData _ pkt _ => pkt.wf
  | .ack _ pkt _ => pkt.wf
  | .atomic _ pkt _ => pkt.wf
  | .semPostPacket _ pkt _ => pkt.wf
  | .readReq _ pkt _ => pkt.wf
  | .playStart _ pkt _ => pkt.wf
  | .playDone _ pkt _ => pkt.wf
  | .linkState _ pkt _ => pkt.wf
  | .stretchReq _ pkt _ => pkt.wf
  | .stretch _ pkt _ => pkt.wf
  | .barrierArrive _ pkt _ => pkt.wf
  | .barrierRelease _ pkt _ => pkt.wf
  | .barrierMismatch _ pkt _ => pkt.wf
  | .join _ pkt _ => pkt.wf
  | .collAbort _ pkt _ => pkt.wf
  | .fanoutRun _ pkt _ _ => pkt.wf
  | .fanoutDone _ pkt _ => pkt.wf
  | .badPacketReceive _ pkt _ => pkt.wf
  | .resendTimeout _ dst _ sid seq _ => fits 18 dst && fits 12 sid && fits 32 seq
  | .deliveryGiveUp _ dst _ sid seq _ => fits 18 dst && fits 12 sid && fits 32 seq
  | .windowIdleFree _ src _ sid _ => fits 18 src && fits 12 sid
  | .sequenceQuietEnd _ _ _ => true
  | .fabLoad _ _ _ epoch _ => fits 48 epoch
  | .templateLoad _ _ _ => true
  | .windowRegister _ _ _ index _ => fits 12 index
  | .windowDeregister _ _ _ index _ => fits 12 index
  | .deregisterComplete _ _ _ => true
  | .callLoad _ _ _ epoch _ => fits 48 epoch
  | .callTableLoad _ _ _ => true
  | .callFire _ _ _ => true
  | .callEnd _ _ call _ => decide (call < 1024)
  | .collectiveTimeout _ _ call _ => decide (call < 1024)
  | .sqDoorbell _ _ _ index _ => fits 16 index
  | .cqDoorbell _ _ _ index _ => fits 16 index
  | .callNop _ _ entry _ => entry.length == 64
  | .callPlay _ _ entry _ => entry.length == 64
  | .callStep _ _ entry _ => entry.length == 64
  | .callSemPost _ _ entry _ => entry.length == 64
  | .callCopy _ _ entry _ _ => entry.length == 64
  | .callStorage _ _ entry _ => entry.length == 64
  | .callComplete _ _ _ => true
  | .interruptCoalesceTimeout _ _ _ => true
  | .hostCallTimeout _ _ _ => true
  | .vfFlr _ _ _ => true
  | .pfFlr _ _ => true
  | .hostReset _ _ _ => true
  | .sqEnable _ _ _ data _ => fits 64 data
  | .pcieTrainingStart _ _ => true
  | .pcieConfigRequest _ _ _ _ => true
  | .stoConnect _ _ mask _ => fits 16 mask
  | .stoDisconnect _ _ mask _ => fits 16 mask
  | .nvmeCompletion _ _ _ _ => true
  | .nvmeTimeout _ _ _ => true
  | .keepAliveFailure _ _ _ => true
  | .reconnectAttempt _ _ _ _ => true
  | .storageFrameReceive _ _ _ _ _ _ => true
  | .rdmaAccess _ _ _ _ _ _ => true
  | .lineupStage _ _ slot _ => fits 1 slot
  | .lineupStageCheckDone _ _ => true
  | .lineupDiscard _ _ _ => true
  | .lineupApplySchedule _ _ epoch _ => fits 48 epoch
  | .lineupApply _ _ => true
  | .bootSetVerified _ _ => true
  | .serialWaitTimeout _ _ => true
  | .lineupLoadComplete _ _ => true
  | .hbmTrainingComplete _ failed _ => fits 8 failed
  | .hbmTestComplete _ failed repairs _ => fits 8 failed && repairs.length == 8
  | .hbmZeroingComplete _ _ => true
  | .portPhaseEnd _ _ => true
  | .tmcGoDispatch _ _ => true
  | .go _ _ _ => true
  | .goFallback _ _ => true
  | .waveStart _ _ => true
  | .mapComplete _ _ => true
  | .readyDeadline _ _ => true
  | .resetCore _ _ target _ _ => fits 16 target
  | .resetCluster _ _ target _ _ => fits 16 target
  | .resetPartition _ _ target _ _ => fits 16 target
  | .resetPackage _ _ target _ _ => fits 16 target
  | .resetRack _ _ target _ _ => fits 16 target
  | .resetAtTime _ _ => true
  | .pinReset _ _ => true
  | .auxPowerOn _ _ _ => true
  | .brownOut _ _ _ => true
  | .watchdogExpiry _ _ => true
  | .criticalError _ loc _ _ => fits 16 loc
  | .drainComplete _ _ _ _ => true
  | .drainTimeout _ _ _ _ => true
  | .absorbHoldEnd _ _ => true
  | .linkResetHoldEnd _ _ => true
  | .clusterRetrainComplete _ _ _ => true
  | .partitionRelease _ _ _ => true
  | .tmcIbi _ _ ht _ => timeOk ht
  | .ceSample _ _ => true
  | .retire _ _ _ _ _ => true
  | .substitutionCopyDone _ _ _ => true
  | .mapRecordWriteDone _ _ _ => true
  | .mapWriteRetry _ _ => true
  | .shelfFailure _ => true
  | .busOutOfRange _ _ => true
  | .converterFailure _ _ => true
  | .railInRegulation _ _ _ _ _ => true
  | .railUpTimeout _ _ _ => true
  | .powerUpRetry _ _ => true
  | .railOff _ _ _ => true
  | .railDownStepTimeout _ _ => true
  | .railStuckTimeout _ _ _ => true
  | .efuseReclose _ _ _ => true
  | .shareCompute _ _ _ => true
  | .boostChoice _ _ => true
  | .powerSample _ _ _ _ => true
  | .droopCrossing _ _ _ => true
  | .announcePhaseWake _ _ => true
  | .energyInterval _ _ _ ecl bal _ => ecl.length == 4 && bal.length == 4
  | .energyPublish _ => true
  | .junctionSample _ cores _ _ => cores.length == 64
  | .thermalGateUpdate _ _ => true
  | .thermalTrip _ _ => true
  | .supplyUpdate _ _ _ _ => true
  | .supplyStale _ _ => true
  | .thetaWindow _ _ => true
  | .junctionMinute _ _ => true
  | .thermalRelease _ _ _ => true
  | .coolantFaultCondition _ _ _ => true
  | .heartbeatSend _ _ _ => true
  | .heartbeat ver _ seen _ _ => fits 8 ver && fits 64 seen
  | .claim ver _ _ => fits 8 ver
  | .umpireRelease ver _ _ _ => fits 8 ver
  | .powerCmdOn ver _ _ _ _ => fits 8 ver
  | .powerCmdOff ver _ _ _ _ => fits 8 ver
  | .powerCmdEfuseOpen ver _ _ _ _ => fits 8 ver
  | .powerCmdEfuseClose ver _ _ _ _ => fits 8 ver
  | .powerDone ver _ _ => fits 8 ver
  | .alert ver _ _ _ => fits 8 ver
  | .presence ver _ _ _ _ => fits 8 ver
  | .share ver _ _ _ _ => fits 8 ver
  | .units ver _ _ _ => fits 8 ver
  | .maint ver _ _ _ => fits 8 ver
  | .primaryLineRelease _ _ => true
  | .primaryAssert _ _ => true
  | .quorumLoss _ _ => true
  | .mirrorSync => true
  | .noPrimaryTimeout _ => true
  | .soloEntry _ _ => true
  | .umpirePoll answers _ => fits 24 answers
  | .rackSummaryRead _ _ _ _ _ _ _ _ => true
  | .maintWindowExpire _ => true
  | .connectorFault _ _ _ _ => true
  | .serviceButton _ _ => true
  | .redfishRetire _ _ _ _ => true
  | .redfishThermalRelease _ _ => true
  | .redfishReset _ _ _ _ ht _ => timeOk ht
  | .redfishClearFailed _ _ _ => true
  | .redfishLocate _ _ _ => true
  | .openMaintenanceWindow _ _ _ => true
  | .closeMaintenanceWindow _ _ => true
  | .powerPackage _ _ _ => true
  | .setPartitionReady _ _ => true
  | .rosterSubmit _ _ _ => true
  | .stageWrite _ _ _ _ => true
  | .eraseSlot _ _ _ => true
  | .readBack _ _ _ _ => true
  | .bootVerify _ _ _ => true
  | .voteReceive _ _ _ _ => true
  | .stagingTimeout _ => true
  | .bootAbort _ _ _ => true
  | .bootCommit _ _ _ => true
  | .rosterActivate _ _ => true
  | .bootConfirm _ _ _ => true
  | .bootRevert _ _ _ => true
  | .revertAtTime _ _ => true
  | .confirmRoster _ _ => true
  | .revertRoster _ _ => true
  | .trialWindowEnd _ _ => true
  | .trialSilenceTimeout _ _ => true
  | .coordinatorRestart _ _ => true
  | .pcieLinkTrained _ _ _ _ _ => true
  | .storageLinkChange _ _ _ => true
  | .pkgResetRelease _ _ => true
  | .auxPowerLoss _ _ => true
  | .shelfRestored _ => true
  | .hbmTemperatureSample _ temps _ => temps.length == 8
  | .coolantConditionEnd _ _ => true
  | .connectorReenable _ _ cleared _ => timeOk cleared
  | .callAtHtAction _ _ => true
  | .staggeredActivation _ _ => true

/-- The Hall Time at which a command happens, for the commands that carry one. -/
def Instr.time : Instr → Option Nat
  | .registerWrite _ _ _ _ _ => none
  | .readClear _ _ _ _ => none
  | .frameSend _ _ t => some t
  | .markerReceive _ _ _ t4 => some t4
  | .freeLimit _ t => some t
  | .ppsEdge _ t => some t
  | .cardPoll _ => none
  | .referenceLost _ t => some t
  | .ppsLoss t => some t
  | .referenceQualified _ t => some t
  | .holdoverLimit t => some t
  | .highWaterRecord t => some t
  | .coldHallSeed _ _ _ _ => none
  | .isolatedRackSeed _ _ t => some t
  | .volleyBoundary _ t => some t
  | .epochBoundary _ _ t => some t
  | .waitHtRelease _ _ t => some t
  | .playFetchComplete _ _ _ t => some t
  | .unknownOpcode _ _ t => some t
  | .gemm _ _ _ _ t => some t
  | .groupedGemm _ _ _ t => some t
  | .attnBlock _ _ t => some t
  | .vec _ _ _ t => some t
  | .trans _ _ t => some t
  | .route _ _ t => some t
  | .layout _ _ t => some t
  | .gather _ _ t => some t
  | .scatter _ _ t => some t
  | .move _ _ _ t => some t
  | .sendTile _ _ t => some t
  | .tileStripeSend _ _ t => some t
  | .windowOp _ _ t => some t
  | .semWait _ _ t => some t
  | .semWaitRelease _ _ t => some t
  | .semPost _ _ t => some t
  | .semPostApply _ _ t => some t
  | .fence _ _ t => some t
  | .fenceRelease _ _ t => some t
  | .waitHt _ _ t => some t
  | .barrier _ _ t => some t
  | .announce _ _ t => some t
  | .jump _ _ t => some t
  | .loop _ _ t => some t
  | .stop _ _ t => some t
  | .commandStart _ _ _ _ t => some t
  | .commandRetire _ _ _ t => some t
  | .playComplete _ _ t => some t
  | .shotClockExpire _ _ t => some t
  | .laneSlotsGranted _ _ t => some t
  | .kvPageArrive _ _ _ _ _ _ t => some t
  | .bistComplete _ _ _ _ _ t => some t
  | .lsZeroingComplete _ _ t => some t
  | .walkComplete _ _ _ _ _ t => some t
  | .invRange _ _ _ _ => none
  | .invRoot _ _ _ => none
  | .invAll _ _ _ => none
  | .invComplete _ => none
  | .xltRootWrite _ _ _ _ => none
  | .bar2Read _ _ _ _ t => some t
  | .bar2Write _ _ _ _ _ t => some t
  | .cacheEntryError _ _ _ => none
  | .loopWindowClose _ _ t => some t
  | .routeCountsSnapshot _ _ t => some t
  | .biasUpdateCompute _ _ t => some t
  | .biasGenerationReceive _ _ _ _ _ _ t => some t
  | .biasApply _ _ t => some t
  | .biasCommit _ _ _ t => some t
  | .routeCountsStep _ _ t => some t
  | .planGo _ _ _ _ _ t => some t
  | .planDeadline _ _ _ t => some t
  | .planSectionReceive _ _ _ _ t => some t
  | .signalDetect _ _ t => some t
  | .equalizeComplete _ _ _ _ t => some t
  | .controlFrameReceive _ _ _ _ t4 => some t4
  | .identifyTimeout _ _ t => some t
  | .qualifyWindowEnd _ _ _ _ _ t => some t
  | .serviceWindowEnd _ _ _ t => some t
  | .spareSwitch _ _ _ t => some t
  | .spareAckTimeout _ _ t => some t
  | .fecAlignmentLoss _ _ t => some t
  | .retrainNoSignal _ _ t => some t
  | .lossOfSignal _ _ t => some t
  | .retrain _ _ t => some t
  | .clearFailed _ _ t => some t
  | .lnkEnable _ _ t => some t
  | .lnkDisable _ _ t => some t
  | .dataFrameReceive _ _ _ _ t => some t
  | .letTimeout _ _ t => some t
  | .packetForward _ _ _ t => some t
  | .openPacketSend _ _ t => some t
  | .slotOpen _ _ _ t => some t
  | .schedToOpen _ _ t => some t
  | .writePacket _ _ t => some t
  | .reducePacket _ _ t => some t
  | .readData _ _ t => some t
  | .ack _ _ t => some t
  | .atomic _ _ t => some t
  | .semPostPacket _ _ t => some t
  | .readReq _ _ t => some t
  | .playStart _ _ t => some t
  | .playDone _ _ t => some t
  | .linkState _ _ t => some t
  | .stretchReq _ _ t => some t
  | .stretch _ _ t => some t
  | .barrierArrive _ _ t => some t
  | .barrierRelease _ _ t => some t
  | .barrierMismatch _ _ t => some t
  | .join _ _ t => some t
  | .collAbort _ _ t => some t
  | .fanoutRun _ _ _ t => some t
  | .fanoutDone _ _ t => some t
  | .badPacketReceive _ _ t => some t
  | .resendTimeout _ _ _ _ _ t => some t
  | .deliveryGiveUp _ _ _ _ _ t => some t
  | .windowIdleFree _ _ _ _ t => some t
  | .sequenceQuietEnd _ _ t => some t
  | .fabLoad _ _ _ _ t => some t
  | .templateLoad _ _ t => some t
  | .windowRegister _ _ _ _ t => some t
  | .windowDeregister _ _ _ _ t => some t
  | .deregisterComplete _ _ t => some t
  | .callLoad _ _ _ _ t => some t
  | .callTableLoad _ _ t => some t
  | .callFire _ _ t => some t
  | .callEnd _ _ _ t => some t
  | .collectiveTimeout _ _ _ t => some t
  | .sqDoorbell _ _ _ _ t => some t
  | .cqDoorbell _ _ _ _ t => some t
  | .callNop _ _ _ t => some t
  | .callPlay _ _ _ t => some t
  | .callStep _ _ _ t => some t
  | .callSemPost _ _ _ t => some t
  | .callCopy _ _ _ _ t => some t
  | .callStorage _ _ _ t => some t
  | .callComplete _ _ t => some t
  | .interruptCoalesceTimeout _ _ t => some t
  | .hostCallTimeout _ _ t => some t
  | .vfFlr _ _ t => some t
  | .pfFlr _ t => some t
  | .hostReset _ _ t => some t
  | .sqEnable _ _ _ _ t => some t
  | .pcieTrainingStart _ t => some t
  | .pcieConfigRequest _ _ _ t => some t
  | .stoConnect _ _ _ t => some t
  | .stoDisconnect _ _ _ t => some t
  | .nvmeCompletion _ _ _ t => some t
  | .nvmeTimeout _ _ t => some t
  | .keepAliveFailure _ _ t => some t
  | .reconnectAttempt _ _ _ t => some t
  | .storageFrameReceive _ _ _ _ _ t => some t
  | .rdmaAccess _ _ _ _ _ t => some t
  | .lineupStage _ _ _ t => some t
  | .lineupStageCheckDone _ t => some t
  | .lineupDiscard _ _ t => some t
  | .lineupApplySchedule _ _ _ t => some t
  | .lineupApply _ t => some t
  | .bootSetVerified _ t => some t
  | .serialWaitTimeout _ t => some t
  | .lineupLoadComplete _ t => some t
  | .hbmTrainingComplete _ _ t => some t
  | .hbmTestComplete _ _ _ t => some t
  | .hbmZeroingComplete _ t => some t
  | .portPhaseEnd _ t => some t
  | .tmcGoDispatch _ t => some t
  | .go _ _ t => some t
  | .goFallback _ t => some t
  | .waveStart _ t => some t
  | .mapComplete _ t => some t
  | .readyDeadline _ t => some t
  | .resetCore _ _ _ _ t => some t
  | .resetCluster _ _ _ _ t => some t
  | .resetPartition _ _ _ _ t => some t
  | .resetPackage _ _ _ _ t => some t
  | .resetRack _ _ _ _ t => some t
  | .resetAtTime _ t => some t
  | .pinReset _ t => some t
  | .auxPowerOn _ _ t => some t
  | .brownOut _ _ t => some t
  | .watchdogExpiry _ t => some t
  | .criticalError _ _ _ t => some t
  | .drainComplete _ _ _ t => some t
  | .drainTimeout _ _ _ t => some t
  | .absorbHoldEnd _ t => some t
  | .linkResetHoldEnd _ t => some t
  | .clusterRetrainComplete _ _ t => some t
  | .partitionRelease _ _ t => some t
  | .tmcIbi _ _ _ t => some t
  | .ceSample _ t => some t
  | .retire _ _ _ _ t => some t
  | .substitutionCopyDone _ _ t => some t
  | .mapRecordWriteDone _ _ t => some t
  | .mapWriteRetry _ t => some t
  | .shelfFailure _ => none
  | .busOutOfRange _ t => some t
  | .converterFailure _ t => some t
  | .railInRegulation _ _ _ _ t => some t
  | .railUpTimeout _ _ t => some t
  | .powerUpRetry _ t => some t
  | .railOff _ _ t => some t
  | .railDownStepTimeout _ t => some t
  | .railStuckTimeout _ _ t => some t
  | .efuseReclose _ _ t => some t
  | .shareCompute _ _ t => some t
  | .boostChoice _ t => some t
  | .powerSample _ _ _ t => some t
  | .droopCrossing _ _ t => some t
  | .announcePhaseWake _ t => some t
  | .energyInterval _ _ _ _ _ t => some t
  | .energyPublish t => some t
  | .junctionSample _ _ _ t => some t
  | .thermalGateUpdate _ t => some t
  | .thermalTrip _ t => some t
  | .supplyUpdate _ _ _ t => some t
  | .supplyStale _ t => some t
  | .thetaWindow _ t => some t
  | .junctionMinute _ t => some t
  | .thermalRelease _ _ t => some t
  | .coolantFaultCondition _ _ t => some t
  | .heartbeatSend _ _ t => some t
  | .heartbeat _ _ _ _ t => some t
  | .claim _ _ t => some t
  | .umpireRelease _ _ _ t => some t
  | .powerCmdOn _ _ _ _ t => some t
  | .powerCmdOff _ _ _ _ t => some t
  | .powerCmdEfuseOpen _ _ _ _ t => some t
  | .powerCmdEfuseClose _ _ _ _ t => some t
  | .powerDone _ _ _ => none
  | .alert _ _ _ t => some t
  | .presence _ _ _ _ t => some t
  | .share _ _ _ _ t => some t
  | .units _ _ _ _ => none
  | .maint _ _ _ _ => none
  | .primaryLineRelease _ t => some t
  | .primaryAssert _ t => some t
  | .quorumLoss _ t => some t
  | .mirrorSync => none
  | .noPrimaryTimeout t => some t
  | .soloEntry _ t => some t
  | .umpirePoll _ t => some t
  | .rackSummaryRead _ _ _ _ _ _ _ t => some t
  | .maintWindowExpire t => some t
  | .connectorFault _ _ _ t => some t
  | .serviceButton _ t => some t
  | .redfishRetire _ _ _ t => some t
  | .redfishThermalRelease _ t => some t
  | .redfishReset _ _ _ _ _ t => some t
  | .redfishClearFailed _ _ t => some t
  | .redfishLocate _ _ t => some t
  | .openMaintenanceWindow _ _ t => some t
  | .closeMaintenanceWindow _ t => some t
  | .powerPackage _ _ t => some t
  | .setPartitionReady _ _ => none
  | .rosterSubmit _ _ t => some t
  | .stageWrite _ _ _ t => some t
  | .eraseSlot _ _ t => some t
  | .readBack _ _ _ t => some t
  | .bootVerify _ _ t => some t
  | .voteReceive _ _ _ t => some t
  | .stagingTimeout t => some t
  | .bootAbort _ _ t => some t
  | .bootCommit _ _ t => some t
  | .rosterActivate _ t => some t
  | .bootConfirm _ _ t => some t
  | .bootRevert _ _ t => some t
  | .revertAtTime _ t => some t
  | .confirmRoster _ t => some t
  | .revertRoster _ t => some t
  | .trialWindowEnd _ t => some t
  | .trialSilenceTimeout _ t => some t
  | .coordinatorRestart _ t => some t
  | .pcieLinkTrained _ _ _ _ t => some t
  | .storageLinkChange _ _ t => some t
  | .pkgResetRelease _ t => some t
  | .auxPowerLoss _ t => some t
  | .shelfRestored _ => none
  | .hbmTemperatureSample _ _ t => some t
  | .coolantConditionEnd _ _ => none
  | .connectorReenable _ _ _ t => some t
  | .callAtHtAction _ t => some t
  | .staggeredActivation _ t => some t

/-- A well-formed command: its Hall Time and its operands fit. -/
def Instr.wf (i : Instr) : Bool := i.time.all timeOk && i.operandsOk

end Sys2Proof
end

