-- ==== Sys2Proof/Certificates/Slice0/Obligations.lean ====
section
/-! DEFINITION. The statements for the provers, from the numbered rules of spec/. -/

open Sys2Proof Sys2Proof.Machine

/-- R11, R994, R686: a write of an RW register through its own path stores the data, and a write of the rack serial is noted;
a written 1 clears a W1C bit and a written 0 leaves it; a read of an RC register returns its value and clears it. -/
def Obligations.RegisterAccessCodes : Prop :=
  (∀ (s : State) (p : PkgId) (d : Nat), d < 2 ^ 64 →
    Completes (.registerWrite p .i3c 0x80020 64 d) s (fun t =>
      (t.pkg p).getF F.LUP_RACK_SERIAL = d ∧ (t.pkg p).getF F.GLB_BU_SERIAL_SET = 1)) ∧
  (∀ (s : State) (p : PkgId) (d i : Nat), i < 9 →
    Completes (.registerWrite p .pf 0x20048 32 d) s (fun t =>
      (t.pkg p).getF ⟨0x20048, i, 1⟩ = if d.testBit i then 0 else (s.pkg p).getF ⟨0x20048, i, 1⟩)) ∧
  (∀ (s : State) (p : PkgId) (src : CsrSource),
    Completes (.readClear p src 0x20050 32) s (fun t =>
      (t.pkg p).readData = (s.pkg p).getF F.HTM_LATE_COUNT ∧ (t.pkg p).getF F.HTM_LATE_COUNT = 0))

/-- R14, R15: an access that is not 32 or 64 bits wide and naturally aligned is not performed: a write changes nothing but the ERR block's
registers and log, and a read beside these returns all ones; both are recorded and counted in the ERR block. -/
def Obligations.MalformedAccessIsRecorded : Prop :=
  ∀ (s : State) (p : PkgId) (src : CsrSource) (off size data : Nat), ¬ (size = 32 ∧ off % 4 = 0 ∨ size = 64 ∧ off % 8 = 0) →
    let recorded := fun (t : State) => (t.pkg p).getF F.ERR_CSR_VALID = 1 ∧
      (t.pkg p).getF F.ERR_CSR_COUNT = min (2 ^ 32 - 1) ((s.pkg p).getF F.ERR_CSR_COUNT + 1) ∧
      ∀ o, o < 0x3000000 ∨ 0x4000000 ≤ o → (t.pkg p).cell o = (s.pkg p).cell o
    Completes (.registerWrite p src off size data) s (fun t => recorded t ∧
      ∃ r n, t = s.setPkg p { s.pkg p with regs := r, errCount := n }) ∧
    Completes (.readClear p src off size) s (fun t => recorded t ∧ (t.pkg p).readData = 2 ^ size - 1 ∧
      ∃ r n, t = s.setPkg p { s.pkg p with regs := r, errCount := n, readData := 2 ^ size - 1 })
/-- R64, R68, R69, R70, R72: what the umpire's poll copies into P00–P03, how the card's state moves, and the high-water mark. R51, R58,
R59, R64, R71, R72, R696: a marker is timestamped and its fields are kept, or it is dropped and counted; a PPS edge is timestamped; FREE
stops scheduled injection after 1 s; a rack or hall with no valid time is seeded at the largest of three values. -/
def Obligations.HallTimeIsKept : Prop :=
  (
    (∀ (s : State) (tai : Nat) (p : PkgId), (s.pkg p).id < 4 →
      Completes (.cardPoll tai) s (fun t =>
        (t.pkg p).getF F.HTM_REF_STATE = s.card.state % 4 ∧ (t.pkg p).getF F.HTM_REF_TAI = tai % 2 ^ F.HTM_REF_TAI.width)) ∧
    (∀ (s : State) (lastSync t₀ : Nat), s.card.state = 1 → lastSync + 3 * syncTicks s.timeSection.syncLog ≤ t₀ →
      Completes (.referenceLost lastSync t₀) s (fun t => t.card.state = 2 ∧ t.card.lostAt = some t₀ ∧ t.pkgs = s.pkgs)) ∧
    (∀ (s : State) (t₀ : Nat) (p : PkgId), s.card.lastPps + 4000000000 ≤ t₀ → (s.pkg p).rootKey < 4 →
      Completes (.ppsLoss t₀) s (fun t =>
        (t.pkg p).time.rateFrozen = true ∧ (t.pkg p).getF F.HTM_RATE_PPB = (s.pkg p).getF F.HTM_RATE_PPB ∧
        ((s.pkg p).flag F.HTM_IS_ROOT = true → (t.pkg p).getF F.HTM_REF = 3))) ∧
    (∀ (s : State) (since t₀ : Nat), s.card.state ≠ 1 → since + 120000000000 ≤ t₀ →
      Completes (.referenceQualified since t₀) s (fun t => t.card.state = 1 ∧ t.card.lostAt = none ∧ t.pkgs = s.pkgs)) ∧
    (∀ (s : State) (t₀ t₁ : Nat), s.card.state = 2 → s.card.limitPosted = false → s.card.lostAt = some t₁ →
      t₁ + s.timeSection.holdover * 2000000000 ≤ t₀ →
      Completes (.holdoverLimit t₀) s (fun t => t.card.limitPosted = true ∧ t.pkgs = s.pkgs ∧
        t.events = { id := s.nextEvent, name := "HallTimeHoldoverLimit", severity := .critical, arg := 0 } :: s.events)) ∧
    (∀ (s : State) (t₀ : Nat), Completes (.highWaterRecord t₀) s (fun t => t = { s with highWater := max s.highWater t₀ }))) ∧
  (
    (∀ (s : State) (p : PkgId) (port : PortId) (b : Bytes) (t4 : Nat), (s.pkg p).getF (F.LNK_ST port) = 5 →
      markerCrcGood b = true → markerReservedZero b = true →
      Completes (.markerReceive p port b t4) s (fun t => ((t.pkg p).ptime port).heard = some (heardOf b t4))) ∧
    (∀ (s : State) (p : PkgId) (port : PortId) (b : Bytes) (t4 : Nat), (s.pkg p).getF (F.LNK_ST port) = 5 →
      markerCrcGood b = false →
      Completes (.markerReceive p port b t4) s (fun t =>
        (t.pkg p).ptime port = (s.pkg p).ptime port ∧ (t.pkg p).getF F.HTM_MARKER_CRC = 1 ∧
        (t.pkg p).getF (F.LNK_COUNTS port 2) = min (2 ^ 64 - 1) ((s.pkg p).getF (F.LNK_COUNTS port 2) + 1))) ∧
    (∀ (s : State) (p : PkgId) (t₀ : Nat), (s.pkg p).getF F.HTM_STATE = 3 →
      (s.pkg p).time.freeSince + 2000000000 ≤ max (s.pkg p).now t₀ →
      Completes (.freeLimit p t₀) s (fun t => (t.pkg p).schedAllowed = false)) ∧
    (∀ (s : State) (p : PkgId) (t₀ : Nat), t₀ < 2 ^ 64 → (s.pkg p).id < 4 → (s.pkg p).rootKey < 4 → (s.pkg p).flag F.HTM_IS_ROOT = true →
      Completes (.ppsEdge p t₀) s (fun t => (t.pkg p).getF F.HTM_PPS_HT = t₀ ∧
        (t.pkg p).getF F.HTM_PPS_TAI = (s.pkg p).getF F.HTM_REF_TAI % 2 ^ F.HTM_PPS_TAI.width)) ∧
    (∀ (s : State) (p : PkgId) (reference clock : Nat), s.noneValid = true → (s.pkg p).rootKey < 4 →
      Completes (.coldHallSeed p false reference clock) s (fun t =>
        (t.pkg p).getF F.HTM_VALID = 1 ∧
        (t.pkg p).now = max (s.pkg p).now (max reference (max (s.highWater + 2000000000) clock)))) ∧
    (∀ (s : State) (reference clock t₀ : Nat), s.noneValid = true →
      (∀ p : PkgId, ∃ e, (s.pkg p).bring.portsAt = some e ∧ e + 4000000000 ≤ max (s.pkg p).now t₀) →
      Completes (.isolatedRackSeed reference clock t₀) s (fun t =>
        (t.pkg 0).getF F.HTM_VALID = 1 ∧
        (t.pkg 0).now = max (max (s.pkg 0).now t₀) (max reference (max (s.highWater + 2000000000) clock)))))

/-- R74, R77, R78, R79, R846, R847: at a volley boundary each held partition counts one schedule volley, or one stretch volley while a
stretch volley opens; at an epoch boundary the stretch counts received for it and for the next epoch take effect, 0 where none was, and
the lost time of the slot's cores is recorded and asked for. -/
def Obligations.VolleysAndEpochs : Prop :=
  (∀ (s : State) (p : PkgId) (t₀ : Nat) (sl : SlotId), t₀ % 2048 = 0 → (s.pkg p).getF F.HTM_VALID = 1 → (s.pkg p).slotHeld sl = true →
    Completes (.volleyBoundary p t₀) s (fun t =>
      if (s.pkg p).inStretch sl t₀ then
        (t.pkg p).getF (F.HTM_STRETCH_TOTAL sl) = ((s.pkg p).getF (F.HTM_STRETCH_TOTAL sl) + 1) % 2 ^ 64 ∧
        (t.pkg p).getF (F.HTM_SCHED_VOLLEY sl) = (s.pkg p).getF (F.HTM_SCHED_VOLLEY sl)
      else
        (t.pkg p).getF (F.HTM_SCHED_VOLLEY sl) = ((s.pkg p).getF (F.HTM_SCHED_VOLLEY sl) + 1) % 2 ^ 64 ∧
        (t.pkg p).getF (F.HTM_STRETCH_TOTAL sl) = (s.pkg p).getF (F.HTM_STRETCH_TOTAL sl))) ∧
  (∀ (s : State) (p : PkgId) (lost : List Nat) (e : Nat) (sl : SlotId), (s.pkg p).getF F.HTM_VALID = 1 →
    Completes (.epochBoundary p lost (e * 2097152)) s (fun t =>
      (t.pkg p).getF (F.HTM_STRETCH_CUR sl) = (s.pkg p).stretchFor sl e % 256 ∧
      (t.pkg p).getF (F.HTM_STRETCH_NEXT sl) = (s.pkg p).stretchFor sl (e + 1) % 256 ∧
      (t.pkg p).getF (F.HTM_STRETCH_REQ sl) =
        (if (s.pkg p).getF (F.FAB_LOADED sl) = 1 then min 128 (((s.pkg p).slotLost lost sl + 524287) / 524288) else 0)))

/-- R384, R387, R397, R405, R406, R407, R418, R436: the states a port passes through from DISABLED to UP, and where it stops. -/
def Obligations.PortsComeUp : Prop :=
  ∀ (s : State) (p : PkgId) (port : PortId) (t₀ : Nat),
  ((s.pkg p).getF (F.LNK_ST port) = 0 → (s.pkg p).portEnabled port = true →
    Completes (.lnkEnable p port t₀) s (fun t => (t.pkg p).getF (F.LNK_ST port) = 1)) ∧
  ((s.pkg p).getF (F.LNK_ST port) = 1 ∨ (s.pkg p).getF (F.LNK_ST port) = 8 →
    Completes (.signalDetect p port t₀) s (fun t => (t.pkg p).getF (F.LNK_ST port) = 2)) ∧
  (∀ polarity order : Nat, (s.pkg p).getF (F.LNK_ST port) = 2 →
    Completes (.equalizeComplete p port polarity order t₀) s (fun t =>
      (t.pkg p).getF (F.LNK_ST port) = 3 ∧ (t.pkg p).getF (F.LNK_RX_POLARITY port) = polarity % 2 ^ 5 ∧
      (t.pkg p).getF (F.LNK_RX_ORDER port) = order % 2 ^ 15)) ∧
  ((s.pkg p).getF (F.LNK_ST port) = 3 → ((s.pkg p).lport port).entered + 200000000 ≤ max (s.pkg p).now t₀ →
    Completes (.identifyTimeout p port t₀) s (fun t =>
      (t.pkg p).getF (F.LNK_ST port) = 6 ∧ (t.pkg p).getF (F.LNK_MIS_CAUSE port) = 4)) ∧
  (∀ (errs : List Nat) (peerActive : Nat) (peerFlagged : Bool), (s.pkg p).getF (F.LNK_ST port) = 4 →
    (∀ i, i < 5 → errs.getD i 0 ≤ 42500) →
    Completes (.qualifyWindowEnd p port errs (some peerActive) peerFlagged t₀) s (fun t =>
      (t.pkg p).getF (F.LNK_ST port) = 5 ∧ (t.pkg p).getF (F.LNK_RX_ACTIVE port) = 15 ∧
      (t.pkg p).getF (F.LNK_TX_ACTIVE port) = peerActive % 2 ^ 5 ∧
      (t.pkg p).getF (F.LNK_FLAGGED port) = (if peerFlagged then 1 else 0) ∧
      (∀ i, i < 5 → (t.pkg p).getF (F.LNK_LN_CLASS port i) = 1))) ∧
  (∀ (errs : List Nat) (peerFlagged : Bool), (s.pkg p).getF (F.LNK_ST port) = 4 →
    (s.pkg p).getF (F.LNK_RETRAINING port) = 1 ∨ 2 ≤ ((s.pkg p).lport port).attempts →
    Completes (.qualifyWindowEnd p port errs none peerFlagged t₀) s (fun t =>
      (t.pkg p).getF (F.LNK_ST port) = 7 ∧ (t.pkg p).getF (F.LNK_FAIL_CAUSE port) = 2)) ∧
  Completes (.lnkDisable p port t₀) s (fun t => (t.pkg p).getF (F.LNK_ST port) = 0)

/-- R408, R410, R411, R414: the service window records every lane; a failing lane is replaced by the spare, or the port retrains. -/
def Obligations.LanesAreServed : Prop :=
  ∀ (s : State) (p : PkgId) (port : PortId) (t₀ : Nat), (s.pkg p).getF (F.LNK_ST port) = 5 →
  (∀ errs : List Nat, (∀ i, i < 5 → errs.getD i 0 ≤ 4250000) →
    Completes (.serviceWindowEnd p port errs t₀) s (fun t =>
      (t.pkg p).getF (F.LNK_ST port) = 5 ∧ (t.pkg p).getF (F.LNK_FLAGGED port) = (s.pkg p).getF (F.LNK_FLAGGED port) ∧
      ∀ i, i < 5 → (t.pkg p).getF (F.LNK_LN_ERRS port i) = errs.getD i 0 ∧ (t.pkg p).getF (F.LNK_LN_CLASS port i) = 1)) ∧
  (∀ (errs : List Nat) (l sp : Nat), l < 5 → sp < 5 → sp ≠ l → 51000000 < errs.getD l 0 →
    (∀ i, i < 5 → i ≠ l → errs.getD i 0 ≤ 4250000) → (s.pkg p).getF (F.LNK_LN_ROLE port l) = 0 →
    (s.pkg p).getF (F.LNK_LN_ROLE port sp) = 1 → ((s.pkg p).lport port).spareReq = none →
    Completes (.serviceWindowEnd p port errs t₀) s (fun t =>
      (t.pkg p).getF (F.LNK_ST port) = 5 ∧ (t.pkg p).getF (F.LNK_FLAGGED port) = 1 ∧
      ((t.pkg p).lport port).spareReq.map (fun r => (r.lane, r.acked)) = some (l, false))) ∧
  (∀ (errs : List Nat) (l : Nat), l < 5 → 51000000 < errs.getD l 0 → (s.pkg p).getF (F.LNK_LN_ROLE port l) = 0 →
    (∀ i, i < 5 → (s.pkg p).getF (F.LNK_LN_ROLE port i) ≠ 1) → ((s.pkg p).lport port).retrains.length < 3 →
    Completes (.serviceWindowEnd p port errs t₀) s (fun t => (t.pkg p).getF (F.LNK_ST port) = 2)) ∧
  (∀ (count sp : Nat) (r : SpareReq), ((s.pkg p).lport port).spareReq = some r → r.acked = true → r.switchAt = count → r.lane < 5 → sp < 5 →
    (s.pkg p).getF (F.LNK_LN_ROLE port r.lane) ≠ 1 → (s.pkg p).getF (F.LNK_LN_ROLE port sp) = 1 →
    (∀ i, i < sp → (s.pkg p).getF (F.LNK_LN_ROLE port i) ≠ 1) →
    Completes (.spareSwitch p port count t₀) s (fun t =>
      (t.pkg p).getF (F.LNK_ST port) = 5 ∧ (t.pkg p).getF (F.LNK_LN_ROLE port r.lane) = 2 ∧
      (t.pkg p).getF (F.LNK_LN_ROLE port sp) = 0 ∧ (t.pkg p).getF (F.LNK_EV_LANE_SPARED port) = 1 ∧
      ((t.pkg p).lport port).spareReq = none))

/-- R413, R414, R416, R497: what makes a port in UP retrain; the fourth retrain within 60 s is FAILED with cause RETRAIN_LIMIT. R400,
R418, R420, R421: what takes a port out of a retrain without signal, out of MISWIRED, and out of FAILED. -/
def Obligations.PortsLeaveUp : Prop :=
  (
    ∀ (s : State) (p : PkgId) (port : PortId) (t₀ : Nat), (s.pkg p).getF (F.LNK_ST port) = 5 →
    let recent := (((s.pkg p).lport port).retrains.filter (fun u => decide (max (s.pkg p).now t₀ < u + 120000000000))).length
    let outcome := fun t : State =>
      (recent < 3 → (t.pkg p).getF (F.LNK_ST port) = 2 ∧ (t.pkg p).getF (F.LNK_RETRAINING port) = 1 ∧
        (t.pkg p).getF (F.LNK_MAPPED_OUT port) = 1 ∧ ((t.pkg p).fport port).replay = [] ∧ ((t.pkg p).fport port).queue = []) ∧
      (3 ≤ recent → (t.pkg p).getF (F.LNK_ST port) = 7 ∧ (t.pkg p).getF (F.LNK_FAIL_CAUSE port) = 1)
    Completes (.retrain p port t₀) s outcome ∧
    Completes (.fecAlignmentLoss p port t₀) s outcome ∧
    (∀ r, ((s.pkg p).lport port).spareReq = some r → r.acked = false → r.sentAt + 20000 ≤ max (s.pkg p).now t₀ →
      Completes (.spareAckTimeout p port t₀) s outcome)) ∧
  (
    ∀ (s : State) (p : PkgId) (port : PortId) (t₀ : Nat),
    ((s.pkg p).getF (F.LNK_ST port) = 2 → (s.pkg p).getF (F.LNK_RETRAINING port) = 1 →
      ((s.pkg p).lport port).entered + 2000000000 ≤ max (s.pkg p).now t₀ →
      Completes (.retrainNoSignal p port t₀) s (fun t =>
        (t.pkg p).getF (F.LNK_ST port) = 7 ∧ (t.pkg p).getF (F.LNK_FAIL_CAUSE port) = 4 ∧ (t.pkg p).getF (F.LNK_EV_FAILED port) = 1)) ∧
    ((s.pkg p).getF (F.LNK_ST port) = 6 →
      Completes (.lossOfSignal p port t₀) s (fun t => (t.pkg p).getF (F.LNK_ST port) = 1) ∧
      Completes (.retrain p port t₀) s (fun t => (t.pkg p).getF (F.LNK_ST port) = 1)) ∧
    ((s.pkg p).getF (F.LNK_ST port) = 7 → (s.pkg p).getF F.LNK_MAINT_EN = 1 →
      Completes (.clearFailed p port t₀) s (fun t =>
        (t.pkg p).getF (F.LNK_ST port) = 1 ∧ (t.pkg p).getF (F.LNK_FAIL_CAUSE port) = 0 ∧ ((t.pkg p).lport port).bringUp = true)) ∧
    ((s.pkg p).getF F.LNK_MAINT_EN = 0 →
      Completes (.clearFailed p port t₀) s (fun t =>
        (t.pkg p).getF (F.LNK_ST port) = (s.pkg p).getF (F.LNK_ST port) ∧ (t.pkg p).getF (F.LNK_CLEAR_REFUSED port) = 1)))

/-- R389, R390, R447, R493, R495: a port in UP sends a control frame when its frame count is a multiple of 64; at other counts it resends the
frame that heads a let, or sends 624 payload bytes in a new data frame that joins the replay buffer, or an idle frame. -/
def Obligations.PortsSendFrames : Prop :=
  ∀ (s : State) (p : PkgId) (port : PortId) (t₀ : Nat), (s.pkg p).getF (F.LNK_ST port) = 5 →
  let f := (s.pkg p).fport port
  Completes (.frameSend p port t₀) s (fun t =>
    let g := (t.pkg p).fport port
    g.frCount = (f.frCount + 1) % 65536 ∧ g.outFrame.map Frame.count = some f.frCount ∧
    (f.frCount % 64 = 0 → g.outFrame.map Frame.type = some 2 ∧ g.replay = f.replay ∧ g.txBytes = f.txBytes) ∧
    (f.frCount % 64 ≠ 0 → ∀ r rest, f.letQueue = r :: rest →
      g.letQueue = rest ∧ g.outFrame.map Frame.payload = some r.payload ∧
      g.outFrame.map Frame.letSeq = some (r.letSeq % 2 ^ 15 + 2 ^ 15)) ∧
    (f.frCount % 64 ≠ 0 → f.letQueue = [] → f.txBytes ≠ [] → f.replay.length < 102 →
      g.outFrame.map Frame.type = some 1 ∧ g.outFrame.map Frame.letSeq = some f.nextLet ∧
      g.outFrame.map Frame.payload = some ((f.txBytes.take 624 ++ List.replicate 624 0).take 624) ∧
      g.txBytes = f.txBytes.drop 624 ∧ g.nextLet = (f.nextLet + 1) % 2 ^ 15 ∧ g.replay.length = f.replay.length + 1) ∧
    (f.frCount % 64 ≠ 0 → f.letQueue = [] → f.txBytes = [] → g.outFrame.map Frame.type = some 0))

/-- R392, R494: a bad data frame is discarded and counted; a frame in let order is accepted, and one out of order asks for a let. R392,
R396, R419, R423: a bad control frame is discarded and counted; a good one delivers the peer's identity, which decides a port in IDENTIFY
at its sixteenth equal word, and the peer's notices. -/
def Obligations.FramesAreReceived : Prop :=
  (
    ∀ (s : State) (p : PkgId) (port : PortId) (fr : Frame) (t₀ : Nat), (s.pkg p).getF (F.LNK_ST port) = 5 →
    let f := (s.pkg p).fport port
    Completes (.dataFrameReceive p port fr false t₀) s (fun t =>
      (t.pkg p).getF (F.LNK_COUNTS port 2) = min (2 ^ 64 - 1) ((s.pkg p).getF (F.LNK_COUNTS port 2) + 1) ∧ (t.pkg p).fab = (s.pkg p).fab) ∧
    (fr.type = 1 → bit fr.letAck 15 = false →
      Completes (.dataFrameReceive p port fr true t₀) s (fun t =>
        let g := (t.pkg p).fport port
        if fr.letSeq % 2 ^ 15 = (f.lastInOrder + 1) % 2 ^ 15 then g.lastInOrder = fr.letSeq % 2 ^ 15 ∧ g.letReq = false
        else g.lastInOrder = f.lastInOrder ∧ g.letReq = true ∧ (t.pkg p).fab.arrived = (s.pkg p).fab.arrived))) ∧
  (
    ∀ (s : State) (p : PkgId) (port : PortId) (fr : Frame) (t4 : Nat),
    let st := (s.pkg p).getF (F.LNK_ST port)
    let l := (s.pkg p).lport port
    (st = 3 ∨ st = 4 ∨ st = 5 ∨ st = 6 →
      Completes (.controlFrameReceive p port fr false t4) s (fun t =>
        (t.pkg p).getF (F.LNK_COUNTS port 2) = min (2 ^ 64 - 1) ((s.pkg p).getF (F.LNK_COUNTS port 2) + 1) ∧
        (t.pkg p).getF (F.LNK_PEER_SEEN port) = (s.pkg p).getF (F.LNK_PEER_SEEN port))) ∧
    (st = 3 → fr.type = 2 → fr.notice = 0 → l.idRun = 15 → l.idLast = fr.identity →
      Completes (.controlFrameReceive p port fr true t4) s (fun t =>
        (t.pkg p).getF (F.LNK_PEER_SEEN port) = fr.identity % 2 ^ 64 ∧
        (t.pkg p).getF (F.LNK_ST port) = (if (s.pkg p).identityCause port fr.identity = 0 then 4 else 6) ∧
        ((s.pkg p).identityCause port fr.identity ≠ 0 →
          (t.pkg p).getF (F.LNK_MIS_CAUSE port) = (s.pkg p).identityCause port fr.identity % 2 ^ 3))) ∧
    (st = 4 → fr.type = 2 → fr.notice = 1 →
      Completes (.controlFrameReceive p port fr true t4) s (fun t =>
        (t.pkg p).getF (F.LNK_ST port) = 7 ∧ (t.pkg p).getF (F.LNK_FAIL_CAUSE port) = 3)) ∧
    (st = 4 → fr.type = 2 → fr.notice = 2 →
      Completes (.controlFrameReceive p port fr true t4) s (fun t => (t.pkg p).getF (F.LNK_ST port) = 8)))


/-- R495, R496: 4,000 ticks after the oldest unacknowledged frame was sent, a let resends every one, oldest first; after eight lets without
progress the port retrains. -/
def Obligations.LetsResend : Prop :=
  ∀ (s : State) (p : PkgId) (port : PortId) (t₀ : Nat), (s.pkg p).getF (F.LNK_ST port) = 5 →
  ∀ (fr : Frame) (sent : Nat) (rest : List (Frame × Nat)), ((s.pkg p).fport port).replay = (fr, sent) :: rest →
  sent + 4000 ≤ max (s.pkg p).now t₀ →
  ((s.pkg p).getF (F.FAB_LETS_RUN port) < 8 →
    Completes (.letTimeout p port t₀) s (fun t =>
      ((t.pkg p).fport port).letQueue = fr :: rest.map Prod.fst ∧
      (t.pkg p).getF (F.FAB_LETS_RUN port) = (s.pkg p).getF (F.FAB_LETS_RUN port) + 1 ∧
      (t.pkg p).getF (F.FAB_LETS port) = min (2 ^ 64 - 1) ((s.pkg p).getF (F.FAB_LETS port) + 1))) ∧
  (8 ≤ (s.pkg p).getF (F.FAB_LETS_RUN port) → ((s.pkg p).lport port).retrains.length < 3 →
    Completes (.letTimeout p port t₀) s (fun t => (t.pkg p).getF (F.LNK_ST port) = 2))

/-- R433, R434, R483: a packet for another package joins the output queue its route word names, unchanged but for its virtual channel; at a
port that is not UP, or whose link is mapped out, it is discarded; one past its lifetime is dropped and counted. -/
def Obligations.PacketsAreForwarded : Prop :=
  ∀ (s : State) (p : PkgId) (port : PortId) (pkt : Packet) (t₀ : Nat),
  (((s.pkg p).at t₀).expired pkt = true →
    Completes (.packetForward p port pkt t₀) s (fun t =>
      (t.pkg p).getF (F.FAB_COUNTS 6) = min (2 ^ 64 - 1) ((s.pkg p).getF (F.FAB_COUNTS 6) + 1))) ∧
  (∀ h, ((s.pkg p).at t₀).expired pkt = false → (s.pkg p).lup.active.isSome = true → pkt.dst ≠ (s.pkg p).target → port.val < 16 →
    (if bit pkt.route 13 then some (bits pkt.route 3 0) else (routeHops pkt.route)[bits pkt.hops 6 0]?) = some h →
    Completes (.packetForward p port pkt t₀) s (fun t =>
      let before := ((s.pkg p).fport (hopPort h)).queue
      let after := ((t.pkg p).fport (hopPort h)).queue
      ((s.pkg p).getF (F.LNK_ST (hopPort h)) = 5 → (s.pkg p).getF (F.LNK_MAPPED_OUT (hopPort h)) = 0 → ∃ q : Queued, after = before ++ [q] ∧ q.fwd = true ∧ q.sched = !pkt.isOpen ∧
        { q.pkt with vc := pkt.vc } = pkt) ∧
      ((s.pkg p).getF (F.LNK_ST (hopPort h)) ≠ 5 ∨ (s.pkg p).getF (F.LNK_MAPPED_OUT (hopPort h)) = 1 → after = before)))

/-- R455, R457, R460, R465, R466: a port lays an open-class packet on the link when it holds its credits and the packet ends before the next
owned slot; in a slot it lays the packets of the slot's entry; a forwarded scheduled packet with no entry for a period goes on open. -/
def Obligations.PacketsLeaveByClass : Prop :=
  ∀ (s : State) (p : PkgId) (port : PortId), (s.pkg p).getF (F.LNK_ST port) = 5 →
  let f := (s.pkg p).fport port
  (∀ (t₀ : Nat) (q : Queued), (s.pkg p).fab.held = [] → (s.pkg p).nextOpen port = some q →
    linkTicks q.pkt.size ≤ (s.pkg p).ticksToSlot port (max (s.pkg p).now t₀) →
    Completes (.openPacketSend p port t₀) s (fun t =>
      let g := (t.pkg p).fport port
      g.queue = f.queue.erase q ∧ g.txBytes = (f.lay q.pkt).txBytes ∧ g.txStarts = (f.lay q.pkt).txStarts ∧
      g.crSpent = (f.spendCredits q.pkt).crSpent ∧ g.shSpent = (f.spendCredits q.pkt).shSpent)) ∧
  (∀ (t₀ j : Nat) (sl : Nat) (e : TmplEntry) (q : Queued), t₀ % 2048 = 208 * j → j ≤ 8 → (s.pkg p).schedAllowed = true →
    (s.pkg p).fab.held = [] → (s.pkg p).slotOwner port j t₀ = some sl → (s.pkg p).slotEntries sl port j [] = [e] →
    ((s.pkg p).tables sl).plans = [] → e.kind = 1 → e.port = port → e.orig = port → f.queue = [q] → q.sched = true → q.fwd = true →
    q.pkt.slot = sl → q.pkt.sid = e.who → q.pkt.size ≤ 8232 →
    Completes (.slotOpen p port j t₀) s (fun t =>
      ((t.pkg p).fport port).queue = [] ∧ ((t.pkg p).fport port).txBytes = (f.lay q.pkt).txBytes)) ∧
  (∀ (t₀ : Nat) (q : Queued), f.queue = [q] → q.sched = true → q.fwd = true → q.pkt.isOpen = false →
    q.since + ((s.pkg p).tables q.pkt.slot).period * 2048 ≤ max (s.pkg p).now t₀ →
    (∀ e ∈ ((s.pkg p).tables q.pkt.slot).active, ¬ (e.kind = 1 ∧ e.port = port ∧ e.who = q.pkt.sid)) →
    Completes (.schedToOpen p port t₀) s (fun t =>
      ((t.pkg p).fport port).queue = [{ q with sched := false, pkt := { q.pkt with vc := q.pkt.vc + 8 } }] ∧
      (t.pkg p).getF (F.FAB_COUNTS 9) = min (2 ^ 64 - 1) ((s.pkg p).getF (F.FAB_COUNTS 9) + 1)))

/-- R471, R480, R489, R490: an unacknowledged packet is sent again with RESEND set, an open one within its budget; an idle receive window is freed; after its quiet time a
slot's streams start again at 0. -/
def Obligations.FabricTimersAndTables : Prop :=
  (∀ (s : State) (p : PkgId) (t₀ dst : Nat) (sl : SlotId) (sid seq : Nat) (u : Unacked),
    (s.pkg p).fab.unackedAt dst sl sid seq = some u → u.sentAt + (s.pkg p).getF F.FAB_RESEND ≤ max (s.pkg p).now t₀ →
    u.sched = true ∨ (s.pkg p).fab.mayInject u.pkt.dst = true →
    Completes (.resendTimeout p dst sl sid seq t₀) s (fun t => t.pkg p = (((s.pkg p).at t₀).resend u).settleAll)) ∧
  (∀ (s : State) (p : PkgId) (t₀ : Nat) (u : Unacked) (rw port level : Nat), u ∈ (s.pkg p).fab.unacked →
    u.pkt.dst ≠ (s.pkg p).target → (s.pkg p).wayOut u.pkt.dst 0 0 = some (rw, port, level) →
    ∃ v ∈ (((s.pkg p).at t₀).resend u).fab.unacked, v.pkt.seq = u.pkt.seq ∧ v.pkt.born = u.pkt.born ∧ v.pkt.body = u.pkt.body ∧
      bit v.pkt.vc 6 = true ∧ v.pkt.route = rw ∧ v.sentAt = max (s.pkg p).now t₀) ∧
  (∀ (s : State) (p : PkgId) (src : Nat) (sl : SlotId) (sid t₀ : Nat),
    Completes (.windowIdleFree p src sl sid t₀) s (fun t => ∀ w, w ∈ (t.pkg p).fab.windows ↔
      w ∈ (s.pkg p).fab.windows ∧ ¬ (w.src = src ∧ w.slot = sl.val ∧ w.stream = sid ∧ w.lastAccept + 8000000 ≤ max (s.pkg p).now t₀))) ∧
  (∀ (s : State) (p : PkgId) (sl : SlotId) (t₀ : Nat), (s.pkg p).fab.held = [] → 0 < ((s.pkg p).tables sl).quietUntil →
    ((s.pkg p).tables sl).quietUntil ≤ max (s.pkg p).now t₀ →
    Completes (.sequenceQuietEnd p sl t₀) s (fun t =>
      ((t.pkg p).tables sl).quietUntil = 0 ∧ ∀ sid, (t.pkg p).fab.nextSeq sl sid = 0))

/-- R462: a write of FAB_LOAD schedules the load; at its epoch the channel table and the template that pass every check come into force,
and a load that fails a check keeps the tables in force. -/
def Obligations.TemplatesLoad : Prop :=
  (∀ (s : State) (p : PkgId) (src : CsrSource) (sl : SlotId) (epoch t₀ : Nat), src = .pf ∨ src = .vf sl →
    Completes (.fabLoad p src sl epoch t₀) s (fun t => ((t.pkg p).tables sl).loadEpoch = some (epoch % 2 ^ 43))) ∧
  (∀ (s : State) (p : PkgId) (sl : SlotId) (e t₀ : Nat), ((s.pkg p).tables sl).loadEpoch = some e → e * 2097152 ≤ t₀ →
    (s.pkg p).getF (F.FAB_PERIOD sl) = 0 ∨ 4096 < (s.pkg p).getF (F.FAB_PERIOD sl) ∨
      180 * (s.pkg p).getF (F.FAB_PERIOD sl) < (s.pkg p).getF (F.FAB_ENTRIES sl) →
    Completes (.templateLoad p sl t₀) s (fun t =>
      (t.pkg p).tables sl = { (s.pkg p).tables sl with loadEpoch := none } ∧
      (t.pkg p).getF (F.FAB_LOAD_CODE sl) = 0x3105 ∧ (t.pkg p).getF F.FAB_EV_LOAD_FAIL = 1 ∧
      (t.pkg p).getF (F.FAB_LOADED sl) = (s.pkg p).getF (F.FAB_LOADED sl))) ∧
  (∀ (s : State) (p : PkgId) (sl : SlotId) (e t₀ : Nat) (k₁ k₂ : Pkg) (cb eb : Bytes), ((s.pkg p).tables sl).loadEpoch = some e →
    e * 2097152 ≤ t₀ →
    let period := (s.pkg p).getF (F.FAB_PERIOD sl)
    let entries := (s.pkg p).getF (F.FAB_ENTRIES sl)
    let chans := (List.range 1024).map (fun i => (cb.drop (16 * i)).take 16)
    let tmpl := (List.range entries).map (fun i => (eb.drop (8 * i)).take 8)
    1 ≤ period → period ≤ 4096 → entries ≤ 180 * period →
    (((s.pkg p).at t₀).setTables sl { (s.pkg p).tables sl with loadEpoch := none }).hubRead sl
      ((s.pkg p).getF (F.FAB_CHAN_VA sl) * 2 ^ 14) 16384 = (k₁, cb, none) →
    k₁.hubRead sl ((s.pkg p).getF (F.FAB_TMPL_VA sl) * 64) (8 * entries) = (k₂, eb, none) →
    chans.any badChannel = false → tmpl.any (badTmpl period) = false →
    Completes (.templateLoad p sl t₀) s (fun t =>
      ((t.pkg p).tables sl).chans = chans.map readChannel ∧ ((t.pkg p).tables sl).tmpl = tmpl.map readTmpl ∧
      ((t.pkg p).tables sl).period = period ∧ ((t.pkg p).tables sl).active = (tmpl.map readTmpl).filter (fun x => decide (x.kind < 2)) ∧
      (t.pkg p).getF (F.FAB_LOADED sl) = 1 ∧ (t.pkg p).getF (F.FAB_LOAD_CODE sl) = 0))

/-- R252, R261–R265, R279–R282: a translation fills the caches; every HBM byte a partition's translation reaches lies in its allotment; an
access whose root is not enabled ends in NO_ROOT, which enters the fault log. -/
def Obligations.TranslationStaysInside : Prop :=
  (∀ (s : State) (p : PkgId) (root : Root) (va x : Nat) (r : Requester) (a : Access4) (t₀ : Nat),
    ((s.pkg p).at t₀).maps root va 1 r a x = true →
    Completes (.walkComplete p root va r a t₀) s (fun t =>
      (t.pkg p).uncached root va = false ∧ (t.pkg p).hbm = (s.pkg p).hbm)) ∧
  (∀ (k : Pkg) (root va : Nat) (r : Requester) (a : Access4) (y left : Nat), root < 4 → (k.xlate root va r a).2 = .ok (.hbm y, left) →
    k.getF (F.XLT_HBM_BASE root) * 2 ^ 30 ≤ y ∧
    y + left ≤ k.getF (F.XLT_HBM_BASE root) * 2 ^ 30 + k.getF (F.XLT_HBM_LEN root) * 2 ^ 30) ∧
  (∀ (s : State) (p : PkgId) (root : Root) (va : Nat) (r : Requester) (a : Access4) (t₀ : Nat), va < 2 ^ 56 →
    (s.pkg p).uncached root va = true → (s.pkg p).getF (F.XLT_ROOT_EN root) = 0 →
    Completes (.walkComplete p root va r a t₀) s (fun t =>
      let i := (s.pkg p).getF F.XLT_FAULT_NEXT
      (t.pkg p).getF (F.XLT_FR_STATUS i) = 0x5205 ∧ (t.pkg p).getF (F.XLT_FR_ROOT i) = root ∧ (t.pkg p).getF (F.XLT_FR_VA i) = va ∧
      (t.pkg p).getF (F.XLT_FR_LEVEL i) = 3 ∧ (t.pkg p).getF F.XLT_FAULT_NEXT = (i + 1) % 64 ∧
      (t.pkg p).getF F.XLT_FAULT_LOGGED = 1))

/-- R271–R278, R584, R741: an invalidation takes the next ticket and removes the entries it names, or is refused while 64 are pending; a
completion advances the done count; a write of a root removes what is cached of it; an entry in error is dropped and counted. -/
def Obligations.InvalidationsTakeTickets : Prop :=
  ∀ (s : State) (p : PkgId) (src : CsrSource) (root : Nat),
  let k := s.pkg p
  let rt := match src with | .vf f => f.val | _ => root % 8
  let taken := fun t : State => (t.pkg p).getF F.XLT_INV_ISSUED = (k.getF F.XLT_INV_ISSUED + 1) % 2 ^ 32
  (∀ n, rt < 5 → 1 ≤ n → n < 2 ^ 32 → k.invPending < 64 →
    Completes (.invRange p src root n) s (fun t => taken t ∧ (t.pkg p).xlt.leaves = k.xlt.leaves.filter (fun l =>
      !(l.root == rt && decide (l.va < k.getF F.XLT_INV_VA * 4096 + n * 4096) && decide (k.getF F.XLT_INV_VA * 4096 < l.va + l.size))))) ∧
  (rt < 5 → k.invPending < 64 →
    Completes (.invRoot p src root) s (fun t => taken t ∧ (t.pkg p).xlt.leaves = k.xlt.leaves.filter (fun l => l.root != rt) ∧
      (t.pkg p).xlt.tables = k.xlt.tables.filter (fun x => x.root != rt))) ∧
  (rt < 5 → k.invPending < 64 → src = .pf ∨ src = .i3c →
    Completes (.invAll p src root) s (fun t => taken t ∧ (t.pkg p).xlt.leaves = [] ∧ (t.pkg p).xlt.tables = [])) ∧
  (64 ≤ k.invPending →
    Completes (.invRoot p src root) s (fun t => (t.pkg p).getF F.XLT_INV_FULL = 1 ∧ (t.pkg p).xlt = k.xlt ∧
      (t.pkg p).getF F.XLT_INV_ISSUED = k.getF F.XLT_INV_ISSUED)) ∧
  (k.invPending ≠ 0 →
    Completes (.invComplete p) s (fun t => (t.pkg p).getF F.XLT_INV_DONE = (k.getF F.XLT_INV_DONE + 1) % 2 ^ 32)) ∧
  (∀ (r : Root) (data : Nat), (src = .pf ∨ src = .i3c ∨ ∃ n : Fin 4, src = .vf n ∧ n.val = r.val) → k.invPending < 64 →
    Completes (.xltRootWrite p src r data) s (fun t => taken t ∧
      (t.pkg p).getF (F.XLT_ROOT_ADDR r) = bits data 45 20 ∧ (t.pkg p).getF (F.XLT_ROOT_EN r) = data % 2 ∧
      (∀ l ∈ (t.pkg p).xlt.leaves, l.root ≠ r.val) ∧ ∀ x ∈ (t.pkg p).xlt.tables, x.root ≠ r.val)) ∧
  (∀ i, i < k.xlt.leaves.length →
    Completes (.cacheEntryError p true i) s (fun t => (t.pkg p).xlt.leaves = k.xlt.leaves.eraseIdx i ∧
      (t.pkg p).xlt.tables = k.xlt.tables ∧ (t.pkg p).getF (F.RST_COUNTS 7) = min (2 ^ 64 - 1) (k.getF (F.RST_COUNTS 7) + 1)))

/-- R586–R589: a BAR2 read returns the bytes its address translates to, or all ones where it faults; a BAR2 write is performed there, or has
no effect on memory where it faults or is poisoned. -/
def Obligations.HostReachesMemory : Prop :=
  ∀ (s : State) (p : PkgId) (fn : Root) (off t₀ : Nat),
  let k := (s.pkg p).at t₀
  let va := k.getF (F.XLT_BAR2_VBASE fn) * 4096 + off
  (∀ n x, k.maps fn va n (.host fn) .read x = true →
    Completes (.bar2Read p fn off n t₀) s (fun t =>
      (t.pkg p).readData = leNat (Memory.readBytes k.hbm x n) ∧ (t.pkg p).readPoison = false ∧ (t.pkg p).hbm = k.hbm)) ∧
  (∀ n, 1 ≤ n → va < 2 ^ 56 → k.uncached fn va = true → k.getF (F.XLT_ROOT_EN fn) = 0 →
    Completes (.bar2Read p fn off n t₀) s (fun t =>
      (t.pkg p).readData = 2 ^ (8 * n) - 1 ∧ (t.pkg p).readPoison = false ∧ (t.pkg p).getF F.HIF_EV_BAR2_FAULT = 1)) ∧
  (∀ (data : Bytes) (x : Nat), k.maps fn va data.length (.host fn) .write x = true →
    Completes (.bar2Write p fn off data false t₀) s (fun t => ∀ a,
      (t.pkg p).hbm.read a = if x ≤ a ∧ a < x + data.length then data.getD (a - x) 0 else k.hbm.read a)) ∧
  (∀ data : Bytes, data ≠ [] → va < 2 ^ 56 → k.uncached fn va = true → k.getF (F.XLT_ROOT_EN fn) = 0 →
    Completes (.bar2Write p fn off data false t₀) s (fun t =>
      (t.pkg p).hbm = k.hbm ∧ (t.pkg p).getF F.HIF_EV_BAR2_FAULT = 1)) ∧
  (∀ data : Bytes, Completes (.bar2Write p fn off data true t₀) s (fun t => (t.pkg p).aerPoisoned = true ∧ (t.pkg p).hbm = k.hbm))

/-- R252, R261: a virtual function's BAR2 write, whatever its address, changes no HBM byte outside the allotment of its partition. -/
def Obligations.HostWritesStayInAllotment : Prop :=
  ∀ (s t : State) (p : PkgId) (n : Fin 4) (off : Nat) (data : Bytes) (poisoned : Bool) (t₀ a : Nat),
  exec (.bar2Write p n.castSucc off data poisoned t₀) s = .next t →
  (a < (s.pkg p).getF (F.XLT_HBM_BASE n) * 2 ^ 30 ∨
    (s.pkg p).getF (F.XLT_HBM_BASE n) * 2 ^ 30 + (s.pkg p).getF (F.XLT_HBM_LEN n) * 2 ^ 30 ≤ a) →
  (t.pkg p).hbm.read a = (s.pkg p).hbm.read a

/-- R79, R80, R424–R426, R439, R443, R444, R483, R569: a LINK_STATE packet moves the link map, but a link of this package whose port is not
UP or waits for the boundary stays out, a stretch request is kept as the captain's largest,
a stretch count is kept for its epoch; a packet that fails a check has no effect beside its count or its BAD_PACKET answer. -/
def Obligations.ControlPacketsAct : Prop :=
  ∀ (s : State) (p : PkgId) (pkt : Packet) (t₀ : Nat),
  let k := (s.pkg p).at t₀
  (k.accepts pkt = true → fieldAt pkt.body 0 2 < 576 →
    Completes (.linkState p pkt t₀) s (fun t =>
      (t.pkg p).linkOut (fieldAt pkt.body 0 2) =
        (decide (fieldAt pkt.body 2 1 = 1) || (k.keepsOut (fieldAt pkt.body 0 2) && k.linkOut (fieldAt pkt.body 0 2))) ∧
      ∀ n, n < 576 → n ≠ fieldAt pkt.body 0 2 → (t.pkg p).linkOut n = k.linkOut n)) ∧
  (k.accepts pkt = true → bits (fieldAt pkt.body 0 2) 15 14 = 2 →
    Completes (.linkState p pkt t₀) s (fun t =>
      (t.pkg p).ringOut true (bits (fieldAt pkt.body 0 2) 5 0) =
        (decide (fieldAt pkt.body 2 1 = 1) || (k.keepsOut (fieldAt pkt.body 0 2) && k.ringOut true (bits (fieldAt pkt.body 0 2) 5 0))))) ∧
  (k.accepts pkt = true → k.isCaptain pkt.slot = true → pkt.slot < 4 →
    Completes (.stretchReq p pkt t₀) s (fun t =>
      (t.pkg p).time.captainMax.toList.getD pkt.slot 0 =
        max (k.time.captainMax.toList.getD pkt.slot 0) (min 128 (fieldAt pkt.body 8 1)))) ∧
  (k.accepts pkt = true →
    Completes (.stretch p pkt t₀) s (fun t =>
      (t.pkg p).stretchFor pkt.slot (fieldAt pkt.body 0 8) = min 128 (fieldAt pkt.body 8 1))) ∧
  (k.expired pkt = true →
    Completes (.badPacketReceive p pkt t₀) s (fun t =>
      (t.pkg p).getF (F.FAB_COUNTS 6) = min (2 ^ 64 - 1) (k.getF (F.FAB_COUNTS 6) + 1) ∧ (t.pkg p).fab.windows = k.fab.windows)) ∧
  (k.expired pkt = false → pkt.crc ≠ pkt.goodCrc →
    Completes (.badPacketReceive p pkt t₀) s (fun t =>
      (t.pkg p).getF (F.FAB_COUNTS 7) = min (2 ^ 64 - 1) (k.getF (F.FAB_COUNTS 7) + 1) ∧ (t.pkg p).fab.windows = k.fab.windows)) ∧
  (k.expired pkt = false → pkt.crc = pkt.goodCrc → isKnownType pkt.type = false ∨ pkt.reservedZero = false →
    Completes (.badPacketReceive p pkt t₀) s (fun t =>
      t.pkg p = ((k.take pkt).inc (F.FAB_COUNTS 2)).ack pkt 0x3301 ∧ (t.pkg p).fab.windows = k.fab.windows))

/-- R484, R485, R489: a sequenced packet is fresh, and claims its place, when its stream has no window and one is free, or when its sequence
lies in the window without a claim; a sequence below the window, or whose effect is done, is a duplicate. -/
def Obligations.ReceiveWindowsClaimOnce : Prop :=
  (∀ (k : Pkg) (pkt : Packet), k.fab.windowOf pkt = none → k.fab.windows.length < 8192 → pkt.seq < 2 ^ 32 →
    (k.claim pkt).2 = .fresh ∧ ((k.claim pkt).1.claim pkt).2 = .inProgress) ∧
  (∀ (k : Pkg) (pkt : Packet), k.fab.windowOf pkt = none → 8192 ≤ k.fab.windows.length →
    (k.claim pkt).2 = .noWindow ∧ (k.claim pkt).1.getF F.FAB_EV_WIN_FULL = 1 ∧ (k.claim pkt).1.fab = k.fab) ∧
  (∀ (k : Pkg) (pkt : Packet) (w : RxWindow), k.fab.windowOf pkt = some w → 2 ^ 31 ≤ (2 ^ 32 + pkt.seq - w.base) % 2 ^ 32 →
    (k.claim pkt).2 = .duplicate 0) ∧
  (∀ (k : Pkg) (pkt : Packet), k.fab.windowOf pkt = none → k.fab.windows.length < 8192 → pkt.seq < 2 ^ 32 →
    ∀ old, (((k.claim pkt).1.claimDone pkt old).claim pkt).2 = .duplicate (old.getD 0)) ∧
  (∀ (k : Pkg) (pkt : Packet), k.fab.windowOf pkt = none → k.fab.windows.length < 8192 → pkt.seq < 2 ^ 32 →
    (((k.claim pkt).1.claimUndo pkt).claim pkt).2 = .fresh)

/-- R159, R160, R162, R164, R169, R184: the sequencer commands that block issue hold it with their own condition, and STOP discards an
armed SEND_TILE (R156); a WAIT_HT whose target has passed is late. R84, R159, R184, R523: a block ends when its condition is met: the
waiting command retires and the semaphore is consumed. `one` says that nothing else of the play can move in the same step. -/
def Obligations.SequencerBlocksAndReleases : Prop :=
  (
    ∀ (s : State) (p : PkgId) (core : CoreId) (t₀ : Nat) (pl : Play) (b : Bytes),
    let k := (s.pkg p).at t₀
    let blocked := fun (t : State) => ((t.pkg p).play core).bind Play.block
    (k.issuable core 0x40 = some (pl, b) → fieldAt b 16 2 ≤ 4095 → fieldAt b 24 1 ≤ 1 →
      Completes (.semWait p core t₀) s (fun t => blocked t = some (.sem (fieldAt b 16 2) (fieldAt b 20 4) (fieldAt b 24 1 == 1)))) ∧
    (k.issuable core 0x42 = some (pl, b) → fieldAt b 16 1 ≠ 0 →
      Completes (.fence p core t₀) s (fun t => blocked t = some (.fence (fieldAt b 16 1)))) ∧
    (k.issuable core 0x43 = some (pl, b) → k.now ≤ fieldAt b 16 8 →
      Completes (.waitHt p core t₀) s (fun t => blocked t = some (.waitHt (fieldAt b 16 8)) ∧
        (t.pkg p).getF F.HTM_LATE_COUNT = k.getF F.HTM_LATE_COUNT)) ∧
    (k.issuable core 0x43 = some (pl, b) → fieldAt b 16 8 < k.now →
      Completes (.waitHt p core t₀) s (fun t => (t.pkg p).getF F.HTM_LATE_ACTION = 1 ∧
        (t.pkg p).getF F.HTM_LATE_COUNT = min (2 ^ 32 - 1) (k.getF F.HTM_LATE_COUNT + 1))) ∧
    (k.issuable core 0x44 = some (pl, b) → fieldAt b 16 2 ≤ 63 → fieldAt b 18 1 ≤ 1 → fieldAt b 20 4 ≠ 0 → (∃ x ∈ pl.cmds, x.op ≠ 0x44) →
      Completes (.barrier p core t₀) s (fun t =>
        blocked t = some (.barrier (fieldAt b 16 2) (fieldAt b 18 1 == 1) (fieldAt b 20 4) false))) ∧
    (k.issuable core 0x44 = some (pl, b) → fieldAt b 16 2 ≤ 63 → fieldAt b 18 1 = 0 → 2 ≤ fieldAt b 20 4 → pl.cmds = [] → k.arrivals = [] →
      Completes (.barrier p core t₀) s (fun t =>
        blocked t = some (.barrier (fieldAt b 16 2) false (fieldAt b 20 4) true) ∧
        (t.pkg p).arrivals = [{ slot := k.coreSlot core, id := fieldAt b 16 2, gen := 0, who := core, participants := fieldAt b 20 4 }])) ∧
    (k.issuable core 0x52 = some (pl, b) →
      Completes (.stop p core t₀) s (fun t => blocked t = some (.stop (fieldAt b 16 4)) ∧
        ((t.pkg p).play core).bind Play.tile = none))) ∧
  (
    ∀ (s : State) (p : PkgId) (core : CoreId) (t₀ : Nat) (pl : Play) (x : Cmd),
    let k := (s.pkg p).at t₀
    let retired := fun (t : State) => ((t.pkg p).play core).bind Play.block = none ∧
      ((t.pkg p).play core).map Play.cmds = some (pl.cmds.filter (fun y => y.num != x.num))
    k.play core = some pl → pl.buf = [] → pl.posts = [] →
    (∀ (sem thr : Nat) (consume : Bool), pl.block = some (.sem sem thr consume) → pl.cmds.find? (fun y => y.op == 0x40) = some x →
      thr ≤ k.sem (k.coreSlot core) sem →
      Completes (.semWaitRelease p core t₀) s (fun t => retired t ∧
        (t.pkg p).sem (k.coreSlot core) sem =
          (if consume then (k.sem (k.coreSlot core) sem - thr) % 2 ^ 32 else k.sem (k.coreSlot core) sem) ∧
        (consume = true → (t.pkg p).semSt (k.coreSlot core) sem = 0))) ∧
    (∀ mask, pl.block = some (.fence mask) → pl.cmds.find? (fun y => y.op == 0x42) = some x → maskMet pl mask x.num = true →
      Completes (.fenceRelease p core t₀) s retired) ∧
    (∀ target, pl.block = some (.waitHt target) → pl.cmds.find? (fun y => y.op == 0x43) = some x → k.getF F.HTM_VALID = 1 → target ≤ k.now →
      Completes (.waitHtRelease p core t₀) s retired))


/-- R155, R160, R161, R166, R167, R168, R176, R822: the sequencer commands that retire at issue, and the additions of SEM_POST. -/
def Obligations.SequencerRetiresAtIssue : Prop :=
  ∀ (s : State) (p : PkgId) (core : CoreId) (t₀ : Nat) (pl : Play) (b : Bytes),
  let k := (s.pkg p).at t₀
  (k.issuable core 0x41 = some (pl, b) → fieldAt b 16 2 ≤ 4095 → fieldAt b 20 4 = 2 ^ 31 → pl.cmds = [] → pl.posts = [] →
    Completes (.semPost p core t₀) s (fun t =>
      (t.pkg p).sem (k.coreSlot core) (fieldAt b 16 2) = (k.sem (k.coreSlot core) (fieldAt b 16 2) + fieldAt b 24 4) % 2 ^ 32)) ∧
  (k.issuable core 0x31 = some (pl, b) → pl.buf.length = 1 → fieldAt b 36 1 ≤ 1 → fieldAt b 40 2 ≤ 4095 ∨ fieldAt b 40 2 = 0xFFFF →
    fieldAt b 32 4 % 64 = 0 →
    fieldAt b 28 2 ≤ 1023 →
    Completes (.sendTile p core t₀) s (fun t => ((t.pkg p).play core).bind Play.tile = some b ∧
      (t.pkg p).getF (F.CORE_SEQ_RETIRED core) = (k.getF (F.CORE_SEQ_RETIRED core) + 1) % 2 ^ 64)) ∧
  (k.issuable core 0x45 = some (pl, b) → fieldAt b 24 1 ≤ 16 → fieldAt b 26 2 ≠ 0 → k.now + 4000 ≤ fieldAt b 16 8 →
    Completes (.announce p core t₀) s (fun t =>
      (t.pkg p).announces = k.announces ++ [{ core := core, ht := fieldAt b 16 8, level := fieldAt b 24 1, volleys := fieldAt b 26 2 }] ∧
      (t.pkg p).getF (F.PWR_COUNTS 4) = min (2 ^ 64 - 1) (k.getF (F.PWR_COUNTS 4) + 1))) ∧
  (k.issuable core 0x50 = some (pl, b) →
    let target : Int := (k.getF (F.CORE_SEQ_NEXT core) : Int) + toSigned 32 (fieldAt b 16 4)
    1 ≤ target → target < pl.length →
    Completes (.jump p core t₀) s (fun t => (t.pkg p).getF (F.CORE_SEQ_NEXT core) = target.toNat % 2 ^ 24 ∧
      ((t.pkg p).play core).map Play.buf = some [])) ∧
  (k.issuable core 0x51 = some (pl, b) → fieldAt b 20 1 ≤ 7 → pl.loops.length = 8 → fieldAt b 24 4 ≠ 0 →
    let target : Int := (k.getF (F.CORE_SEQ_NEXT core) : Int) + toSigned 32 (fieldAt b 16 4)
    let v := pl.loops.getD (fieldAt b 20 1) (0, 0)
    let left := (if v.1 = 0 then fieldAt b 24 4 else v.1) - 1
    1 ≤ target → target < pl.length →
    Completes (.loop p core t₀) s (fun t =>
      ((t.pkg p).play core).map (fun q => q.loops.getD (fieldAt b 20 1) (0, 0)) = some (left, if left = 0 then 0 else v.2 + 1) ∧
      (left ≠ 0 → (t.pkg p).getF (F.CORE_SEQ_NEXT core) = target.toNat % 2 ^ 24))) ∧
  (∀ q : Post, k.play core = some pl → pl.posts = [q] → maskMet pl q.mask q.before = true → q.target = 2 ^ 31 →
    Completes (.semPostApply p core t₀) s (fun t => ((t.pkg p).play core).map Play.posts = some [] ∧
      (t.pkg p).sem (k.coreSlot core) q.sem = (k.sem (k.coreSlot core) q.sem + q.value) % 2 ^ 32))

/-- R138, R143, R147, R191, R192: the first fetch of a play brings its header, which is checked; later words arrive in order; a word that is
no command ends BAD_OPCODE and stops the play. -/
def Obligations.PlaysAreFetched : Prop :=
  ∀ (s : State) (p : PkgId) (core : CoreId) (n t₀ : Nat) (pl : Play),
  let k := (s.pkg p).at t₀
  let words := fun w => Memory.readBytes (k.core core).ls (addrBase pl.addr + 64 * w) 64
  k.play core = some pl → pl.stopping = false → pl.draining = false → addrSpace pl.addr = 0 → k.lsClean core = true →
  (pl.length = 0 → headerCheck (words 0) = 0 →
    Completes (.playFetchComplete p core 1 t₀) s (fun t =>
      ((t.pkg p).play core).map (fun q => (q.length, q.id)) = some (fieldAt (words 0) 8 4, fieldAt (words 0) 16 8) ∧
      (t.pkg p).getF (F.CORE_SEQ_NEXT core) = 1 ∧
      (t.pkg p).getF (F.CORE_SEQ_SHOT_LIMIT core) = (if fieldAt (words 0) 12 4 = 0 then k.shotDefault % 2 ^ 32 else fieldAt (words 0) 12 4))) ∧
  (pl.length = 0 → headerCheck (words 0) ≠ 0 → k.getF (F.CORE_SEQ_ERR_VALID core) = 0 →
    Completes (.playFetchComplete p core n t₀) s (fun t => ((t.pkg p).play core).map Play.stopping = some true ∧
      (t.pkg p).getF (F.CORE_SEQ_ERR_VALID core) = 1 ∧ (t.pkg p).getF (F.CORE_SEQ_ERR_STATUS core) = headerCheck (words 0))) ∧
  (k.getF (F.CORE_SEQ_NEXT core) < pl.length → pl.buf = [] → pl.block = none →
    queueOf (fieldAt (words (k.getF (F.CORE_SEQ_NEXT core))) 0 1) = some 3 →
    Completes (.playFetchComplete p core 1 t₀) s (fun t =>
      ((t.pkg p).play core).map Play.buf = some [words (k.getF (F.CORE_SEQ_NEXT core))])) ∧
  (∀ b, k.nextWord pl = some b → badOpcode b = true → pl.block = none → k.getF (F.CORE_SEQ_NEXT core) < pl.length →
    k.getF (F.CORE_SEQ_ERR_VALID core) = 0 →
    Completes (.unknownOpcode p core t₀) s (fun t => ((t.pkg p).play core).map Play.stopping = some true ∧
      (t.pkg p).getF (F.CORE_SEQ_ERR_STATUS core) = 0x3102 ∧
      (t.pkg p).getF (F.CORE_SEQ_ERR_WORD core) = k.getF (F.CORE_SEQ_NEXT core) ∧
      (t.pkg p).getF (F.CORE_LAST_STATUS core) = 0x3102))

/-- R150, R152, R118, R220, R991: an engine that starts a command whose checks pass computes it in local store and releases it with status OK:
GEMM every output block, VEC and TRANS every element of Z (a SELECT in one format copies its bits), LAYOUT every element, and every MX scale byte, to the same
logical index; one whose checks fail writes
nothing and ends with the first failing check's status. -/
def Obligations.EnginesCompute : Prop :=
  ∀ (s : State) (p : PkgId) (core : CoreId) (t₀ : Nat) (x : Cmd),
  let k := (s.pkg p).at t₀
  let ended := fun (t : State) (st : Status) => ((t.pkg p).cmd core x.num).map (fun y => (y.status, y.phase)) = some (st, .done)
  let store := fun (t : State) => ((t.pkg p).core core).ls
  statusOk x.status = true → k.cmd core x.num = some x → k.lsClean core = true →
  (∀ conflicts, k.started core 0x01 = some x → x.isTile = false → k.gemmCheck core x = none →
    let cin := if x.acc then some (k.operand core x 40) else none
    Completes (.gemm p core conflicts none t₀) s (fun t => ended t x.status ∧
      store t = ((k.gemmWrite core (k.operand core x 16) (k.operand core x 24) (k.operand core x 32) cin
        (x.f 48 2) (x.f 50 2) (x.f 52 2) x.sat ((x.f 48 2 + 31) / 32 * ((x.f 50 2 + 31) / 32))).core core).ls ∧
      (t.pkg p).getF (F.CORE_LS_CONFLICTS core) = (k.getF (F.CORE_LS_CONFLICTS core) + conflicts) % 2 ^ 64)) ∧
  (∀ conflicts st, k.started core 0x01 = some x → k.gemmCheck core x = some st → statusOk st = false → st ≠ 0x5102 →
    Completes (.gemm p core conflicts none t₀) s (fun t => ended t st ∧ store t = (k.core core).ls)) ∧
  (∀ conflicts, k.started core 0x10 = some x → k.vecCheck core x = none → x.f 48 2 ≠ 9 →
    Completes (.vec p core conflicts t₀) s (fun t => ended t x.status ∧
      store t = ((k.putTensor core (k.operand core x 24) x.sat (k.vecAt core x)).core core).ls)) ∧
  (∀ conflicts, k.started core 0x10 = some x → k.vecCheck core x = none → x.f 48 2 = 9 →
    let tx := k.operand core x 16
    let tz := k.operand core x 24
    let ty := k.operand core x 32
    let tw := k.operand core x 40
    tx.d.format = tz.d.format → ty.d.format = tz.d.format → tz.d.fmt.mx = false →
    Completes (.vec p core conflicts t₀) s (fun t => ended t x.status ∧
      store t = ((k.putRaw core tz (fun a =>
        if (tw.d.elem (k.core core).ls tw.data (bcast tw.d a)).1.isZero then ty.d.elemBits (k.core core).ls ty.data (bcast ty.d a)
        else tx.d.elemBits (k.core core).ls tx.data (bcast tx.d a))).core core).ls)) ∧
  (∀ conflicts st, k.started core 0x10 = some x → k.vecCheck core x = some st → statusOk st = false →
    Completes (.vec p core conflicts t₀) s (fun t => ended t st ∧ store t = (k.core core).ls)) ∧
  (k.started core 0x11 = some x → k.transCheck core x = none →
    let tx := k.operand core x 16
    Completes (.trans p core t₀) s (fun t => ended t x.status ∧
      store t = ((k.putTensor core (k.operand core x 24) x.sat (fun a =>
        let v := tx.d.elem (k.core core).ls tx.data (bcast tx.d a)
        let w := mul32 v.1 (fp32.decode (x.f 36 4))
        let r := transc (x.f 32 1) w.1
        (r.1, v.2 ||| w.2 ||| r.2))).core core).ls)) ∧
  (∀ st, k.started core 0x11 = some x → k.transCheck core x = some st → statusOk st = false →
    Completes (.trans p core t₀) s (fun t => ended t st ∧ store t = (k.core core).ls)) ∧
  (k.started core 0x20 = some x → k.layoutCheck core x = none →
    let a := k.operand core x 16
    let b := k.operand core x 24
    let moved := ((k.putRaw core b (fun i => a.d.elemBits (k.core core).ls a.data (a.d.storage i))).core core).ls
    Completes (.layout p core t₀) s (fun t => ended t x.status ∧
      store t = if a.d.fmt.mx then
          (b.d.allLines.flatMap (fun i => (List.range (b.d.e 0 / 32)).map (fun j => (32 * j) :: i.tail))).foldl
            (fun m i => Memory.write m (b.d.scaleAt b.data i) (Memory.read (k.core core).ls (a.d.scaleAt a.data i))) moved
        else moved)) ∧
  (∀ st, k.started core 0x20 = some x → k.layoutCheck core x = some st → statusOk st = false →
    Completes (.layout p core t₀) s (fun t => ended t st ∧ store t = (k.core core).ls))

/-- R217, R225, R229: MOVE copies its bytes unchanged, between local store and local store or into HBM; GATHER and SCATTER copy the listed
blocks, piece by piece in list order; each ends OK. -/
def Obligations.MoverCopies : Prop :=
  ∀ (s : State) (p : PkgId) (core : CoreId) (t₀ : Nat) (x : Cmd),
  let k := (s.pkg p).at t₀
  let ended := fun (t : State) => ((t.pkg p).cmd core x.num).map (fun y => (y.status, y.phase)) = some (x.status, .done)
  let src := addrBase (x.f 16 8)
  let dst := addrBase (x.f 24 8)
  let n := x.f 32 4
  statusOk x.status = true → k.cmd core x.num = some x → k.lsClean core = true → x.fetches = [] → k.fab.done = [] →
  k.moveCheck core x = none → addrSpace (x.f 16 8) = 0 →
  (∀ conflicts, k.started core 0x30 = some x → addrSpace (x.f 24 8) = 0 →
    Completes (.move p core conflicts t₀) s (fun t => ended t ∧ (t.pkg p).hbm = k.hbm ∧
      ∀ a, ((t.pkg p).core core).ls.read a =
        if dst ≤ a ∧ a < dst + n then (k.core core).ls.read (src + (a - dst)) else (k.core core).ls.read a)) ∧
  (∀ conflicts y, k.started core 0x30 = some x → addrSpace (x.f 24 8) = 1 →
    k.maps (k.coreSlot core) dst n (.mover core) .write y = true →
    Completes (.move p core conflicts t₀) s (fun t => ended t ∧ ((t.pkg p).core core).ls = (k.core core).ls ∧
      ∀ a, (t.pkg p).hbm.read a = if y ≤ a ∧ a < y + n then (k.core core).ls.read (src + (a - y)) else k.hbm.read a)) ∧
  (k.started core 0x21 = some x → addrSpace (x.f 24 8) = 0 →
    Completes (.gather p core t₀) s (fun t => ended t ∧
      ((t.pkg p).core core).ls = (k.movePieces core x).foldl
        (fun m q => Memory.writeBytes m q.2.1 (Memory.readBytes (k.core core).ls q.1 q.2.2)) (k.core core).ls)) ∧
  (k.started core 0x22 = some x → addrSpace (x.f 24 8) = 0 → x.add = false →
    Completes (.scatter p core t₀) s (fun t => ended t ∧
      ((t.pkg p).core core).ls = (k.movePieces core x).foldl
        (fun m q => Memory.writeBytes m q.2.1 (Memory.readBytes (k.core core).ls q.1 q.2.2)) (k.core core).ls))

/-- R148, R156, R157, R176, R485: a WINDOW_OP on a window of this package combines the old value with its operand in HBM and returns the old
value in RESULT; a stripe of one row of a TILE GEMM is written into the peer window. -/
def Obligations.WindowsAreOperatedOn : Prop :=
  ∀ (s : State) (p : PkgId) (core : CoreId) (t₀ : Nat) (x : Cmd) (w : Window) (va y : Nat),
  let k := (s.pkg p).at t₀
  let slot := k.coreSlot core
  k.cmd core x.num = some x → statusOk x.status = true → k.fab.done = [] →
  (∀ old, k.started core 0x32 = some x → k.windowOpCheck x = none → x.f 24 4 = 2 ^ 31 →
    k.windowCheck slot (addrWin (x.f 16 8)) (addrOff (x.f 16 8)) (x.f 31 1) 4 = .ok (w, va) →
    k.maps slot va (x.f 31 1) (.ownWindow core) (.atomic (x.flag 6)) y = true →
    old = leNat (Memory.readBytes k.hbm y (x.f 31 1)) →
    Completes (.windowOp p core t₀) s (fun t =>
      ((t.pkg p).cmd core x.num).map (fun z => (z.status, z.phase, z.released)) = some (x.status, .done, true) ∧
      (t.pkg p).hbm = Memory.writeBytes k.hbm y (leBytes (x.f 31 1)
        (atomicNew (x.f 30 1) (x.f 31 1) old (x.f 40 8) (if x.f 30 1 = 2 then x.f 48 8 else x.f 48 16))) ∧
      ((t.pkg p).core core).ls = (if x.flag 6 then Memory.writeBytes (k.core core).ls (bits (x.f 32 8) 25 0) (leBytes (x.f 31 1) old)
        else (k.core core).ls))) ∧
  (∀ tile pl, k.play core = some pl → pl.cmds = [x] → x.op = 0x01 → x.isTile = true → x.phase = .done → x.stripes = 0 → x.f 48 2 = 1 →
    x.tile = some tile → fieldAt tile 24 4 = 2 ^ 31 → fieldAt tile 36 1 = 0 →
    let o := k.operand core x 32
    k.windowCheck slot (addrWin (fieldAt tile 16 8)) (addrOff (fieldAt tile 16 8)) o.d.lineBytes 2 = .ok (w, va) →
    k.maps slot va o.d.lineBytes (.ownWindow core) .write y = true →
    Completes (.tileStripeSend p core t₀) s (fun t =>
      ((t.pkg p).cmd core x.num).map (fun z => (z.status, z.stripes, z.released)) = some (x.status, 1, true) ∧
      (t.pkg p).hbm = Memory.writeBytes k.hbm y ((List.range o.d.lineBytes).map (fun i =>
        Memory.read (k.core core).ls (swizzle o.d.sel (o.d.lineAt o.data [0, 0, 0, 0, 0, 0] + i))))))

/-- R137, R141, R142, R161, R446, R485: what an accepted SEM_POST, PLAY_START or ATOMIC packet does once; a READ_REQ returns the bytes of its
window range, and the returned bytes reach the command that asked. -/
def Obligations.PacketsReachCores : Prop :=
  ∀ (s : State) (p : PkgId) (pkt : Packet) (t₀ : Nat),
  let k := (s.pkg p).at t₀
  (k.accepts pkt = true → fieldAt pkt.body 0 2 ≤ 4095 →
    Completes (.semPostPacket p pkt t₀) s (fun t =>
      (t.pkg p).sem pkt.slot (fieldAt pkt.body 0 2) =
        (k.sem pkt.slot (fieldAt pkt.body 0 2) + fieldAt pkt.body 4 4) % 2 ^ 32)) ∧
  (∀ core : CoreId, k.accepts pkt = true → k.getF F.THM_LEVEL ≠ 3 → k.bring.mapped = true →
    let addr := fieldAt pkt.body 4 8
    addrSpace addr = 0 ∨ addrSpace addr = 1 → addrReserved (leBytes 8 addr) 0 .addr = false → addrBase addr % 64 = 0 →
    k.physOf (fieldAt pkt.body 0 1) = some core.val → k.clusterSlot (core / 16) = some pkt.slot → k.coreDown.contains core.val = false →
    k.getF (F.CORE_STATE core) = 3 → k.play core = none →
    Completes (.playStart p pkt t₀) s (fun t =>
      (t.pkg p).play core = some { addr := addr, shotBase := k.now, draining := k.coreDraining core } ∧
      (t.pkg p).getF (F.CORE_SEQ_PLAY core) = addr ∧ (t.pkg p).getF (F.CORE_SEQ_NEXT core) = 0 ∧
      (t.pkg p).getF (F.CORE_SEQ_ERR_VALID core) = 0)) ∧
  (k.accepts pkt = true → k.getF F.THM_LEVEL = 3 →
    Completes (.playStart p pkt t₀) s (fun t => (t.pkg p).cores = k.cores)) ∧
  (∀ (w : Window) (va y size : Nat), k.accepts pkt = true → size = fieldAt pkt.body 9 1 →
    k.windowCheck pkt.slot (bits (fieldAt pkt.body 0 8) 55 44) (fieldAt pkt.body 0 8 % 2 ^ 44) size 4 = .ok (w, va) →
    k.maps pkt.slot va size (.window pkt.src) (.atomic pkt.fetchOld) y = true →
    Completes (.atomic p pkt t₀) s (fun t =>
      (t.pkg p).hbm = Memory.writeBytes k.hbm y (leBytes size (atomicNew (fieldAt pkt.body 8 1) size
        (leNat (Memory.readBytes k.hbm y size)) (fieldAt pkt.body 12 8) (fieldAt pkt.body 20 16))))) ∧
  (∀ (w : Window) (va y n : Nat), (k.screen pkt).2 = true → (k.screen pkt).1.absorbs pkt = false → n = fieldAt pkt.body 8 4 → n % 64 = 0 →
    0 < n → n ≤ 8192 → pkt.src = k.target →
    k.windowCheck pkt.slot (bits (fieldAt pkt.body 0 8) 55 44) (fieldAt pkt.body 0 8 % 2 ^ 44) n 1 = .ok (w, va) →
    k.maps pkt.slot va n (.window pkt.src) .read y = true →
    Completes (.readReq p pkt t₀) s (fun t => (t.pkg p).hbm = k.hbm ∧
      ∃ a ∈ (t.pkg p).fab.arrived, a.pkt.type = 0x12 ∧ a.pkt.seq = fieldAt pkt.body 12 4 ∧
        a.pkt.addr = fieldAt pkt.body 0 8 % 2 ^ 56 ∧ a.pkt.body.take n = Memory.readBytes k.hbm y n)) ∧
  (∀ (core : CoreId) (pl : Play) (x : Cmd) (units : List Nat), (k.screen pkt).2 = true → k.fab.done = [] →
    (∀ c : CoreId, c ≠ core → k.play c = none) → k.play core = some pl → pl.cmds = [x] → x.op = 0x30 → statusOk x.status = true →
    x.view = [] → pkt.addr % 2 ^ 44 = addrOff (x.f 16 8) → addrSpace (x.f 16 8) = 2 → addrSpace (x.f 24 8) = 0 →
    pkt.payload.length = x.f 32 4 → x.f 32 4 % 64 = 0 → bit pkt.info 0 = false →
    units = (List.range (x.f 32 4 / 64)).map (fun i => pkt.addr % 2 ^ 44 + 64 * i) →
    x.fetches = [{ tag := pkt.seq, target := pkt.src, need := units }] →
    Completes (.readData p pkt t₀) s (fun t =>
      ((t.pkg p).cmd core x.num).map (fun z => (z.status, z.phase)) = some (x.status, .done) ∧
      ((t.pkg p).core core).ls = Memory.writeBytes (k.core core).ls (addrBase (x.f 24 8)) pkt.payload))

/-- R173, R177–R181, R330, R175, R176: the head of a queue starts when its engine is free, its wait token is OK and no hazard holds; a command
whose whole effect has happened retires and completes its token; a ROUTE that retires OK adds its loads. -/
def Obligations.CommandsStartAndRetire : Prop :=
  ∀ (s : State) (p : PkgId) (core : CoreId) (t₀ : Nat) (pl : Play) (x : Cmd),
  let k := (s.pkg p).at t₀
  k.play core = some pl →
  (∀ (q : Fin 3) (stalls : Nat), pl.queueHead q = some x → pl.engineBusy q (x.op == 0x03) = false → k.waitToken core x.bytes = some 0 →
    hazard pl x.num (Pkg.fullSets core k x).1 (Pkg.fullSets core k x).2
      (fun y => if y.phase = .queued then Pkg.fullSets core k y else (y.reads, y.writes)) = false →
    k.lanesNeeded core x = 0 → k.cmd core x.num = some x →
    Completes (.commandStart p core q stalls t₀) s (fun t =>
      ((t.pkg p).cmd core x.num).map Cmd.phase = some .running ∧
      (t.pkg p).getF (F.CORE_HAZ_STALLS core) = (k.getF (F.CORE_HAZ_STALLS core) + stalls) % 2 ^ 64)) ∧
  (pl.queueHead 0 = some x → x.op = 0x03 → x.batch = true → pl.engineBusy 0 true = false → k.waitToken core x.bytes = some 0 →
    hazard pl x.num (Pkg.fullSets core k x).1 (Pkg.fullSets core k x).2
      (fun y => if y.phase = .queued then Pkg.fullSets core k y else (y.reads, y.writes)) = false →
    k.cmd core x.num = some x → 0 < k.lanesNeeded core x → k.lanesHeld (core / 16) + k.lanesNeeded core x ≤ 4096 →
    Completes (.laneSlotsGranted p core t₀) s (fun t =>
      ((t.pkg p).cmd core x.num).map (fun y => (y.phase, y.laneSlots)) = some (.running, k.lanesNeeded core x))) ∧
  (pl.cmds = [x] → pl.buf = [] → pl.posts = [] → pl.block = none → x.queue ≠ 3 → x.phase = .done → x.waiting = 0 → x.fetches = [] →
    x.later = [] → x.isTile = false → k.fab.done = [] → x.op ≠ 0x12 →
    Completes (.commandRetire p core x.num t₀) s (fun t => ((t.pkg p).play core).map Play.cmds = some [] ∧
      (t.pkg p).getF (F.CORE_SEQ_RETIRED core) = (k.getF (F.CORE_SEQ_RETIRED core) + 1) % 2 ^ 64 ∧
      (x.flag 0 = true → (t.pkg p).getF (F.CORE_TOK_PENDING core (x.f 2 2 % 4096)) = 0 ∧
        (t.pkg p).getF (F.CORE_TOK_CODE core (x.f 2 2 % 4096)) = x.status % 2 ^ 16))) ∧
  (∀ e n, pl.cmds = [x] → pl.buf = [] → pl.posts = [] → pl.block = none → x.queue ≠ 3 → x.phase = .done → x.waiting = 0 → x.fetches = [] →
    x.later = [] → x.isTile = false → k.fab.done = [] → x.op = 0x12 → x.status = 0 → x.routed[e]? = some n → x.routed.length ≤ 1024 →
    k.flag (F.MOE_SCHED_MODE (k.coreSlot core)) = false → k.coreSlot core < 4 →
    let y := layerIx (k.coreSlot core) (x.f 50 2 % 256)
    Completes (.commandRetire p core x.num t₀) s (fun t => ((t.pkg p).play core).map Play.cmds = some [] ∧
      (t.pkg p).getF (F.MOE_LOAD y e) = (k.getF (F.MOE_LOAD y e) + n) % 2 ^ 64 ∧
      (t.pkg p).getF (F.MOE_STATS (k.coreSlot core) 2) = min (2 ^ 64 - 1) (k.getF (F.MOE_STATS (k.coreSlot core) 2) + x.overflow)))

/-- R294–R297, R304, R310, R312, R332–R342, R353–R358: ATTN_BLOCK writes the rows of its softmax, ROUTE its assignments and counts,
GROUPED_GEMM its runs; one whose checks fail writes nothing and ends with that status; a page that arrives is read
through translation and counted, with its bytes and its wait. -/
def Obligations.AttentionAndRouting : Prop :=
  ∀ (s : State) (p : PkgId) (core : CoreId) (t₀ : Nat) (x : Cmd),
  let k := (s.pkg p).at t₀
  let ended := fun (t : State) (st : Status) => ((t.pkg p).cmd core x.num).map (fun y => (y.status, y.phase)) = some (st, .done)
  let store := fun (t : State) => ((t.pkg p).core core).ls
  statusOk x.status = true → k.cmd core x.num = some x → k.lsClean core = true →
  (k.started core 0x03 = some x → x.lanes = [] → x.batch = false → k.attnCheck core x = none →
    Completes (.attnBlock p core t₀) s (fun t => ended t x.status ∧ store t = ((k.attnPlain core x).core core).ls)) ∧
  (∀ st, k.started core 0x03 = some x → x.lanes = [] → k.attnCheck core x = some st → statusOk st = false →
    Completes (.attnBlock p core t₀) s (fun t => ended t st ∧ store t = (k.core core).ls)) ∧
  (k.started core 0x03 = some x → x.lanes = [] → x.batch = true → k.attnCheck core x = none →
    Completes (.attnBlock p core t₀) s (fun t => t.pkg p = k.attnBatch core x)) ∧
  (∀ (lane page slot wait y : Nat) (l : Lane), k.started core 0x03 = some x → x.lanes[lane]? = some l → page ∈ l.out →
    slot < (k.laneHeader core x).slots → (∀ z ∈ x.lanes, ∀ q ∈ z.landed, q.2 ≠ slot) →
    k.maps (k.coreSlot core) (k.getF (F.XLT_KV_BASE (k.coreSlot core)) * 2 ^ 49 + l.seq * 2 ^ 28 + l.region + page * 65536)
      (k.laneHeader core x).pageBytes (.mover core) .read y = true →
    Completes (.kvPageArrive p core lane page slot wait t₀) s (fun t =>
      (t.pkg p).getF (F.CORE_ATT_WAIT core) = (k.getF (F.CORE_ATT_WAIT core) + wait) % 2 ^ 64 ∧
      (t.pkg p).getF (F.CORE_ATT_PAGES core) = (k.getF (F.CORE_ATT_PAGES core) + 1) % 2 ^ 64 ∧
      (t.pkg p).getF (F.CORE_MOV_BYTES core) = (k.getF (F.CORE_MOV_BYTES core) + (k.laneHeader core x).pageBytes) % 2 ^ 64 ∧
      (t.pkg p).hbm = k.hbm)) ∧
  (k.started core 0x12 = some x → k.routeCheck core x = none →
    Completes (.route p core t₀) s (fun t => ended t x.status ∧ store t = ((k.routeRun core x).core core).ls ∧
      ((t.pkg p).cmd core x.num).map Cmd.routed = ((k.routeRun core x).cmd core x.num).map Cmd.routed)) ∧
  (∀ st, k.started core 0x12 = some x → k.routeCheck core x = some st → statusOk st = false →
    Completes (.route p core t₀) s (fun t => ended t st ∧ store t = (k.core core).ls)) ∧
  (k.started core 0x02 = some x → k.groupCheck core x = none →
    Completes (.groupedGemm p core none t₀) s (fun t => ended t x.status ∧ (t.pkg p).hbm = k.hbm ∧
      store t = ((k.runAll core (k.core core).ls none 0 (groupRuns ((k.groupEntries core x).map (fun e =>
        if e.mFrom && !e.idle then { e with m := min e.m (Memory.readNat (k.core core).ls e.mSrc 4) } else e)))).1.core core).ls)) ∧
  (∀ bad, k.started core 0x02 = some x → k.groupCheck core x = some bad → statusOk bad.status = false → bad.status ≠ 0x5102 →
    Completes (.groupedGemm p core none t₀) s (fun t => ended t bad.status ∧ store t = (k.core core).ls))

/-- R332–R334: THRESHOLD takes every expert whose biased score is not below the threshold, at most 16; with AT_LEAST_ONE a token that
passes none still gets its best expert; picks stand in increasing expert order. -/
def Obligations.ThresholdRouting : Prop :=
  ∀ (tau : Machine.Num) (least : Bool) (cands : List Pick), cands.Pairwise (fun a b => a.ix < b.ix) →
  let r := thresholdToken tau least cands
  r.picks.length ≤ 16 ∧ r.picks.Pairwise (fun a b => a.ix < b.ix) ∧ (∀ q ∈ r.picks, q ∈ cands) ∧
  (r.forced = false → ∀ q ∈ r.picks, q.biased.lt tau = false ∧ tau ≠ .nan) ∧
  (r.truncated = true → r.picks.length = 16) ∧
  (least = true → cands ≠ [] → r.picks ≠ []) ∧
  (r.truncated = false → ∀ q ∈ cands, tau ≠ .nan → q.biased.lt tau = false → q ∈ r.picks)

/-- R344–R351, R361, R363: the captain keeps the load reports of a window, and at the end of the epoch after it decides an update, or skips it
where a report is missing; a generation is held until its turn and epoch come, and then its biases are in force. -/
def Obligations.BiasLoop : Prop :=
  ∀ (s : State) (p : PkgId) (t₀ : Nat),
  let k := (s.pkg p).at t₀
  (∀ (sl : SlotId) (layer e : Nat), k.getF F.HTM_VALID = 1 → t₀ % 2097152 = 0 → k.getF (F.MOE_PERIOD sl) ≠ 0 →
    t₀ / 2097152 % k.getF (F.MOE_PERIOD sl) = 0 → layer ∈ k.loopLayers sl → e < k.getF (F.MOE_EXPERTS (layerIx sl layer)) → e < 1024 →
    Completes (.loopWindowClose p sl t₀) s (fun t => (t.pkg p).getF (F.MOE_LOAD (layerIx sl layer) e) = 0)) ∧
  (∀ pkt : Packet, k.accepts pkt = true → fieldAt pkt.body 1 1 = 0 → k.isCaptain pkt.slot = true → slotNat k.moe.decided pkt.slot = none →
    Completes (.routeCountsSnapshot p pkt t₀) s (fun t => (t.pkg p).moe.reports = k.moe.reports ++ [countReport pkt])) ∧
  (∀ (sl : SlotId) (n layer : Nat), k.isCaptain sl = true → 2097152 ≤ t₀ → t₀ % 2097152 = 0 → n = k.getF (F.MOE_PERIOD sl) → n ≠ 0 →
    (t₀ / 2097152 - 1) % n = 0 → slotNat k.moe.decided sl = none → layer ∈ k.loopLayers sl →
    k.sumReports sl 0 layer (t₀ / 2097152 - 1) (k.getF (F.MOE_EXPERTS (layerIx sl layer))) = none →
    Completes (.biasUpdateCompute p sl t₀) s (fun t => (t.pkg p).getF F.MOE_LOOP_SKIPPED = 1 ∧
      slotNat (t.pkg p).moe.decided sl = some (t₀ / 2097152 - 1) ∧ (t.pkg p).moe.issued = k.moe.issued)) ∧
  (∀ (sl : SlotId) (n : Nat), k.isCaptain sl = true → 2097152 ≤ t₀ → t₀ % 2097152 = 0 → n = k.getF (F.MOE_PERIOD sl) → n ≠ 0 →
    (t₀ / 2097152 - 1) % n = 0 → slotNat k.moe.decided sl = none → k.loopLayers sl ≠ [] →
    (∀ l ∈ k.loopLayers sl, k.sumReports sl 0 l (t₀ / 2097152 - 1) (k.getF (F.MOE_EXPERTS (layerIx sl l))) ≠ none) →
    Completes (.biasUpdateCompute p sl t₀) s (fun t =>
      slotNat (t.pkg p).moe.decided sl = some (t₀ / 2097152 - 1) ∧
      ∃ g : Generation, (t.pkg p).moe.issued = g :: k.moe.issued ∧ g.slot = sl.val ∧ g.epoch = t₀ / 2097152 + 1 ∧ g.host = false ∧
        g.layers.map Prod.fst = k.loopLayers sl ∧ k.getF (F.MOE_GEN sl) < g.num)) ∧
  (∀ (pkt : Packet) (num epoch : Nat) (host : Bool) (layers : LayerBiases), k.accepts pkt = true →
    k.getF (F.MOE_GEN pkt.slot) < num → (∀ h ∈ k.moe.held, ¬ (h.slot = pkt.slot ∧ h.num = num)) →
    Completes (.biasGenerationReceive p pkt num epoch host layers t₀) s (fun t =>
      (t.pkg p).moe.held = k.moe.held ++ [{ slot := pkt.slot, num := num, epoch := epoch, host := host, layers := layers }] ∧
      (t.pkg p).getF (F.MOE_GEN pkt.slot) = k.getF (F.MOE_GEN pkt.slot))) ∧
  (∀ (sl : SlotId) (g : Generation) (layer e v : Nat) (vs : List Nat), k.getF F.HTM_VALID = 1 → t₀ % 2097152 = 0 → k.moe.held = [g] →
    g.slot = sl.val → g.num = k.getF (F.MOE_GEN sl) + 1 → g.num < 2 ^ 32 → g.epoch = t₀ / 2097152 → g.layers = [(layer, vs)] → layer < 256 →
    vs.length ≤ 1024 → vs[e]? = some v → v < 2 ^ 32 → k.moe.hostApplied = [] →
    Completes (.biasApply p sl t₀) s (fun t => (t.pkg p).moe.held = [] ∧ (t.pkg p).getF (F.MOE_GEN sl) = g.num ∧
      (t.pkg p).getF (F.MOE_BIAS (layerIx sl layer) e) = v ∧ (t.pkg p).getF F.MOE_BIAS_APPLIED = 1)) ∧
  (∀ (src : CsrSource) (epoch : Nat), src = .pf → k.isCaptain (k.getF F.MOE_SEL_SLOT) = true →
    Completes (.biasCommit p src epoch t₀) s (fun t =>
      ∃ g : Generation, (t.pkg p).moe.issued = g :: k.moe.issued ∧ g.slot = k.getF F.MOE_SEL_SLOT ∧ g.host = true ∧
        g.epoch = max (epoch % 2 ^ 43) (t₀ / 2097152 + 2) ∧ g.layers.map Prod.fst = [k.getF F.MOE_SEL_LAYER] ∧
        k.getF (F.MOE_GEN (k.getF F.MOE_SEL_SLOT)) < g.num))

/-- R361, R363–R373: the captain of a HOST_STEP partition opens a request with its deadline at the first report of a step; a plan that
comes after a step fell back is late, one for no request is unknown; at the deadline without a plan the step falls back; a section is
written at the plan address and posts the plan semaphore. -/
def Obligations.HostSteps : Prop :=
  ∀ (s : State) (p : PkgId) (t₀ : Nat),
  let k := (s.pkg p).at t₀
  (∀ pkt : Packet, k.accepts pkt = true → (countReport pkt).kind = 1 → k.isCaptain pkt.slot = true →
    let id := planId (countReport pkt).layer (countReport pkt).when_
    k.moe.fallen = [] → k.moe.requests = [] →
    (k.keepReport (countReport pkt)).sumReports pkt.slot 1 (countReport pkt).layer (countReport pkt).when_
      (k.getF (F.MOE_EXPERTS (layerIx pkt.slot (countReport pkt).layer))) = none →
    Completes (.routeCountsStep p pkt t₀) s (fun t => ∃ q : PlanRequest,
      (t.pkg p).moe.requests.map (fun r => (r.slot, r.id, r.deadline)) = [(q.slot, q.id, q.deadline)] ∧ q.slot = pkt.slot ∧ q.id = id ∧
      q.deadline = k.now + k.getF (F.MOE_DEADLINE pkt.slot) ∧ (t.pkg p).moe.reports = k.moe.reports ++ [countReport pkt])) ∧
  (∀ (src : CsrSource) (sl : SlotId) (id len : Nat), src = .pf → id < 2 ^ 32 → k.moe.request sl id = none → (sl.val, id) ∈ k.moe.fallen →
    Completes (.planGo p src sl id len t₀) s (fun t => (t.pkg p).getF (F.MOE_PS_STATUS sl) = 0x6501 ∧
      (t.pkg p).getF (F.MOE_PS_ID sl) = id ∧ (t.pkg p).getF F.MOE_PLAN_LATE = 1)) ∧
  (∀ (src : CsrSource) (sl : SlotId) (id len : Nat), src = .pf → id < 2 ^ 32 → k.moe.request sl id = none → (sl.val, id) ∉ k.moe.fallen →
    Completes (.planGo p src sl id len t₀) s (fun t => (t.pkg p).getF (F.MOE_PS_STATUS sl) = 0x3503 ∧
      (t.pkg p).getF (F.MOE_PS_ID sl) = id)) ∧
  (∀ (src : CsrSource) (sl : SlotId) (id len : Nat) (r : PlanRequest) (k₁ : Pkg) (b : Bytes) (secs : List (Nat × Bytes)), src = .pf →
    id < 2 ^ 32 → len < 2 ^ 32 → k.moe.requests = [r] → r.slot = sl.val → r.id = id → r.written = true → r.plan = none → k.now < r.deadline →
    (sl.val, id) ∉ k.moe.fallen → k.hubRead sl (k.getF (F.MOE_PLAN_ADDR sl) * 64) len = (k₁, b, none) → k₁.checkPlan sl id b = some secs →
    Completes (.planGo p src sl id len t₀) s (fun t => (t.pkg p).getF (F.MOE_PS_STATUS sl) = 0 ∧
      (t.pkg p).moe.requests = [{ r with plan := some secs }])) ∧
  (∀ (sl : SlotId) (id : Nat) (r : PlanRequest), k.moe.request sl id = some r → r.plan = none → r.deadline ≤ k.now →
    Completes (.planDeadline p sl id t₀) s (fun t => (t.pkg p).moe.request sl id = none ∧
      (t.pkg p).moe.fallen = (sl.val, id) :: k.moe.fallen)) ∧
  (∀ (sl : SlotId) (id : Nat) (r : PlanRequest) (secs : List (Nat × Bytes)), k.moe.request sl id = some r → r.plan = some secs →
    Completes (.planDeadline p sl id t₀) s (fun t => (t.pkg p).moe.request sl id = none ∧ (t.pkg p).moe.fallen = k.moe.fallen)) ∧
  (∀ (pkt : Packet) (id y : Nat) (b : Bytes), k.accepts pkt = true →
    let ix := layerIx pkt.slot (planLayer id)
    k.maps pkt.slot (k.getF (F.MOE_VA ix 0) * 64) b.length .hub .write y = true →
    Completes (.planSectionReceive p pkt id (some b) t₀) s (fun t =>
      (t.pkg p).hbm = Memory.writeBytes k.hbm y b ∧
      (t.pkg p).sem pkt.slot (k.getF (F.MOE_PLAN_SEM ix)) = (k.sem pkt.slot (k.getF (F.MOE_PLAN_SEM ix)) + 1) % 2 ^ 32 ∧
      (t.pkg p).getF (F.MOE_STATS pkt.slot 0) = min (2 ^ 64 - 1) (k.getF (F.MOE_STATS pkt.slot 0) + 1)))


/-- R439–R441, R502–R505, R508, R511: windows are registered from checked descriptors and deregistered by tickets; an accepted WRITE packet
writes its payload, and a REDUCE packet into a window that is not ORDERED combines it with what is there. -/
def Obligations.WindowsTakeWrites : Prop :=
  ∀ (s : State) (p : PkgId) (t₀ : Nat),
  let k := (s.pkg p).at t₀
  (∀ (sl : SlotId) (index y : Nat) (b : Bytes), index < 4096 → k.window sl index = none →
    k.maps sl (k.getF (F.COL_WIN_VA sl) * 64 + 32 * index) 32 .hub .read y = true → b = Memory.readBytes k.hbm y 32 →
    Completes (.windowRegister p .pf sl index t₀) s (fun t =>
      (t.pkg p).getF (F.COL_WS_INDEX sl) = index ∧
      (t.pkg p).getF (F.COL_WS_CODE sl) = (if badWindow b then 0x3409 else 0) ∧
      (t.pkg p).windows = k.windows ++ (if badWindow b then [] else
        [{ slot := sl, index := index, base := fieldAt b 0 8, length := fieldAt b 8 8, key := fieldAt b 16 4, rights := fieldAt b 20 1,
           sources := fieldAt b 22 2 }]))) ∧
  (∀ (sl : SlotId) (index : Nat) (w : Window), index < 4096 → k.window sl index = some w →
    Completes (.windowRegister p .pf sl index t₀) s (fun t =>
      (t.pkg p).getF (F.COL_WS_CODE sl) = 0x3406 ∧ (t.pkg p).windows = k.windows)) ∧
  (∀ (sl : SlotId) (index : Nat) (w : Window), index < 4096 → k.window sl index = some w → k.coll.deregs = [] →
    Completes (.windowDeregister p .pf sl index t₀) s (fun t =>
      (t.pkg p).getF (F.COL_WS_CODE sl) = 0 ∧ (t.pkg p).window sl index = none ∧
      (t.pkg p).getF (F.COL_WIN_ISSUED sl) = (k.getF (F.COL_WIN_ISSUED sl) + 1) % 2 ^ 32 ∧
      (t.pkg p).getF (F.COL_WIN_DONE sl) = k.getF (F.COL_WIN_ISSUED sl))) ∧
  (∀ (sl : SlotId) (index : Nat), index < 4096 → k.window sl index = none →
    Completes (.windowDeregister p .pf sl index t₀) s (fun t =>
      (t.pkg p).getF (F.COL_WS_CODE sl) = 0x3401 ∧ (t.pkg p).windows = k.windows)) ∧
  (∀ (sl : SlotId) (ticket : Nat), k.coll.deregs = [(sl.val, ticket)] →
    Completes (.deregisterComplete p sl t₀) s (fun t => (t.pkg p).coll.deregs = [] ∧
      (t.pkg p).getF (F.COL_WIN_DONE sl) = k.getF (F.COL_WIN_ISSUED sl))) ∧
  (∀ (pkt : Packet) (w : Window) (va y : Nat), k.accepts pkt = true → bit pkt.info 0 = false → k.isCallStream pkt.slot pkt.sid = false →
    pkt.skip = [] → k.windowCheck pkt.slot (bits pkt.addr 55 44) (pkt.addr % 2 ^ 44) pkt.payload.length 2 = .ok (w, va) →
    k.maps pkt.slot va pkt.payload.length (.window pkt.src) .write y = true →
    Completes (.writePacket p pkt t₀) s (fun t => (t.pkg p).hbm = Memory.writeBytes k.hbm y pkt.payload)) ∧
  (∀ (pkt : Packet) (w : Window) (va y : Nat), k.accepts pkt = true → bit pkt.info 0 = false → k.isCallStream pkt.slot pkt.sid = false →
    k.windowCheck pkt.slot (bits pkt.addr 55 44) (pkt.addr % 2 ^ 44) pkt.payload.length 4 = .ok (w, va) →
    windowReducer (pkt.addr / 2 ^ 56) = true → bit w.rights 4 = false →
    k.maps pkt.slot va pkt.payload.length (.window pkt.src) (.atomic false) y = true →
    Completes (.reducePacket p pkt t₀) s (fun t =>
      (t.pkg p).hbm = Memory.writeBytes k.hbm y
        (reduceBytes (pkt.addr / 2 ^ 56) (Memory.readBytes k.hbm y pkt.payload.length) pkt.payload pkt.skip)))

/-- R516–R518, R520–R523, R527, R533, R540–R545: a call table is loaded whole at its epoch or refused with its first bad entry; a ready call
fires, its JOINs and ABORTs are heard or held, and it ends once its results are placed and its packets are acknowledged; barriers are
counted and released. -/
def Obligations.CallsRun : Prop :=
  ∀ (s : State) (p : PkgId) (t₀ : Nat),
  let k := (s.pkg p).at t₀
  (∀ (sl : SlotId) (epoch : Nat), Completes (.callLoad p .pf sl epoch t₀) s (fun t =>
      slotNat (t.pkg p).coll.loads sl = some (epoch % 2 ^ 43))) ∧
  (∀ (sl : SlotId) (e y : Nat) (table : Bytes), slotNat k.coll.loads sl = some e → e * 2097152 ≤ t₀ →
    (∀ r ∈ k.coll.runs, r.slot ≠ sl.val) → k.maps sl (k.getF (F.COL_CALL_VA sl) * 64) 65536 .hub .read y = true →
    table = Memory.readBytes k.hbm y 65536 →
    (k.firstBadCall sl table 1024 0 [] = none → Completes (.callTableLoad p sl t₀) s (fun t =>
      (t.pkg p).getF (F.COL_LOAD_CODE sl) = 0 ∧ (t.pkg p).getF (F.COL_LOADED sl) = 1 ∧
      (t.pkg p).calls = k.calls.filter (fun d => d.1 != sl.val) ++
        ((List.range 1024).map (fun c => (sl.val, c, (table.drop (64 * c)).take 64))).filter (fun d => cdOp d.2.2 != 0))) ∧
    (∀ c, k.firstBadCall sl table 1024 0 [] = some c → Completes (.callTableLoad p sl t₀) s (fun t =>
      (t.pkg p).getF (F.COL_LOAD_CODE sl) = 0x3407 ∧ (t.pkg p).getF (F.COL_BAD_ENTRY sl) = c ∧
      (t.pkg p).getF F.COL_EV_LOAD_FAIL = 1 ∧ (t.pkg p).calls = k.calls))) ∧
  (∀ (sl : SlotId) (c : Nat) (d : Bytes), k.nextFire sl = some (c, d) → cdOp d = 1 → k.coll.early = [] →
    Completes (.callFire p sl t₀) s (fun t =>
      (t.pkg p).firedOf sl c = k.firedOf sl c + 1 ∧
      (t.pkg p).sem sl (cdFireSem d) = (k.sem sl (cdFireSem d) - cdThreshold d) % 2 ^ 32 ∧
      ((t.pkg p).run sl c).map (fun r => (r.inst, r.fired, r.desc, r.status, r.out)) = some (k.firedOf sl c, k.now, d, 0, 1))) ∧
  (∀ (pkt : Packet) (r : CallRun), k.accepts pkt = true → k.run pkt.slot (fieldAt pkt.body 2 2) = some r → r.inst = fieldAt pkt.body 4 4 →
    r.status = 0 → r.waiting = [] → fieldAt pkt.body 8 4 = cdDigest r.desc →
    Completes (.join p pkt t₀) s (fun t =>
      (t.pkg p).run pkt.slot (fieldAt pkt.body 2 2) = some { r with joined := pkt.src :: r.joined })) ∧
  (∀ (pkt : Packet) (r : CallRun), k.accepts pkt = true → k.run pkt.slot (fieldAt pkt.body 2 2) = some r → r.inst = fieldAt pkt.body 4 4 →
    r.status = 0 → fieldAt pkt.body 8 4 ≠ cdDigest r.desc →
    Completes (.join p pkt t₀) s (fun t =>
      ((t.pkg p).run pkt.slot (fieldAt pkt.body 2 2)).map CallRun.status = some 0x3405)) ∧
  (∀ pkt : Packet, k.accepts pkt = true → k.run pkt.slot (fieldAt pkt.body 2 2) = none →
    k.firedOf pkt.slot (fieldAt pkt.body 2 2) ≤ fieldAt pkt.body 4 4 →
    Completes (.join p pkt t₀) s (fun t => (t.pkg p).coll.early =
      k.coll.early ++ [(pkt.slot, fieldAt pkt.body 2 2, fieldAt pkt.body 4 4, .join pkt.src (fieldAt pkt.body 8 4))])) ∧
  (∀ (pkt : Packet) (r : CallRun), k.accepts pkt = true → k.run pkt.slot (fieldAt pkt.body 2 2) = some r → r.inst = fieldAt pkt.body 4 4 →
    r.status = 0 → r.placed = false ∨ 0 < r.out →
    Completes (.collAbort p pkt t₀) s (fun t =>
      ((t.pkg p).run pkt.slot (fieldAt pkt.body 2 2)).map (fun r => (r.status, r.byAbort)) = some (fieldAt pkt.body 12 2, true))) ∧
  (∀ (sl : SlotId) (c : Nat) (r : CallRun), c < 1024 → k.fab.done = [] → k.run sl c = some r → r.out = 0 → r.status = 0 → r.placed = true →
    Completes (.callEnd p sl c t₀) s (fun t =>
      (t.pkg p).run sl c = none ∧ (t.pkg p).getF (F.COL_CS_STATUS sl c) = 0 ∧
      (t.pkg p).getF (F.COL_CS_INSTANCES sl c) = (k.getF (F.COL_CS_INSTANCES sl c) + 1) % 2 ^ 32 ∧
      (t.pkg p).getF (F.COL_COUNTS 0) = min (2 ^ 64 - 1) (k.getF (F.COL_COUNTS 0) + 1) ∧
      (t.pkg p).sem sl (cdDone r.desc) = (k.sem sl (cdDone r.desc) + 1) % 2 ^ 32)) ∧
  (∀ (sl : SlotId) (c : Nat) (r : CallRun), k.run sl c = some r → r.status = 0 → r.placed = false ∨ 0 < r.out →
    r.fired + (if cdTimeout r.desc = 0 then k.getF F.COL_TIMEOUT_DEF else cdTimeout r.desc) ≤ k.now →
    Completes (.collectiveTimeout p sl c t₀) s (fun t => ((t.pkg p).run sl c).map CallRun.status = some 0x6401)) ∧
  (∀ pkt : Packet, k.accepts pkt = true → fieldAt pkt.body 0 2 < 64 → fieldAt pkt.body 8 4 < fieldAt pkt.body 12 4 → k.capArrivals = [] →
    Completes (.barrierArrive p pkt t₀) s (fun t => (t.pkg p).capArrivals =
      [{ slot := pkt.slot, id := fieldAt pkt.body 0 2, gen := fieldAt pkt.body 4 4, who := pkt.src, participants := fieldAt pkt.body 12 4
         count := fieldAt pkt.body 8 4 }])) ∧
  (∀ (pkt : Packet) (a : Arrival), k.accepts pkt = true → fieldAt pkt.body 0 2 < 64 → k.capArrivals = [a] →
    a.slot = pkt.slot → a.id = fieldAt pkt.body 0 2 → a.gen = fieldAt pkt.body 4 4 →
    a.participants ≤ a.count + fieldAt pkt.body 8 4 ∨ a.participants ≠ fieldAt pkt.body 12 4 →
    Completes (.barrierArrive p pkt t₀) s (fun t => (t.pkg p).capArrivals = [])) ∧
  (∀ pkt : Packet, k.accepts pkt = true → fieldAt pkt.body 0 2 < 64 →
    Completes (.barrierRelease p pkt t₀) s (fun t =>
      (t.pkg p).generation pkt.slot (fieldAt pkt.body 0 2) = k.generation pkt.slot (fieldAt pkt.body 0 2) + 1)) ∧
  (∀ (pkt : Packet) (r : CallRun), k.accepts pkt = true → 64 ≤ fieldAt pkt.body 0 2 → k.run pkt.slot (fieldAt pkt.body 0 2 - 64) = some r →
    r.inst = fieldAt pkt.body 4 4 → r.status = 0 →
    Completes (.barrierRelease p pkt t₀) s (fun t =>
      (t.pkg p).run pkt.slot (fieldAt pkt.body 0 2 - 64) = some { r with placed := true })) ∧
  (∀ (pkt : Packet) (r : CallRun), k.accepts pkt = true → 64 ≤ fieldAt pkt.body 0 2 → k.run pkt.slot (fieldAt pkt.body 0 2 - 64) = some r →
    r.inst = fieldAt pkt.body 4 4 → r.status = 0 →
    Completes (.barrierMismatch p pkt t₀) s (fun t =>
      ((t.pkg p).run pkt.slot (fieldAt pkt.body 0 2 - 64)).map CallRun.status = some 0x3405))

/-- R600–R602, R605, R606, R609, R610, R613–R615: a call fetched from its queue takes the next number and a record of the replay window and
starts: a NOP is over, PLAY and STEP open their plays, SEM_POST and STORAGE a part for their target, a local COPY moves its bytes; a call
that a check refuses is completed with that status, and a duplicate with the first one's. -/
def Obligations.HostCallsAreFetched : Prop :=
  ∀ (s : State) (p : PkgId) (q : Fin 256) (b : Bytes) (t₀ : Nat),
  let k := (s.pkg p).at t₀
  let slot := k.getF (F.HIF_SQ_OWNER q)
  let n := k.host.nextCall
  let target := fieldAt b 16 4
  let got := fun (t : State) => ((t.pkg p).call n).map (fun c => (c.started, c.parts, c.result))
  (k.takesCall q b = true → fieldAt b 0 1 = 1 → k.getF (F.HIF_SQ_SIZE q) ≤ 4096 →
    Completes (.callNop p q b t₀) s (fun t => got t = some (true, [], some (0, 0)) ∧ (t.pkg p).host.nextCall = n + 1 ∧
      (t.pkg p).getF (F.HIF_SQ_HEAD q) = (k.getF (F.HIF_SQ_HEAD q) + 1) % max 1 (k.getF (F.HIF_SQ_SIZE q)) ∧
      (t.pkg p).getF (F.HIF_COUNTS 0) = min (2 ^ 64 - 1) (k.getF (F.HIF_COUNTS 0) + 1) ∧
      ({ sq := q, id := fieldAt b 4 4, num := n, done := none } : ReplayRec) ∈ (t.pkg p).host.replay)) ∧
  (k.takesCall q b = true → fieldAt b 0 1 = 2 → k.excluded slot target = false →
    Completes (.callPlay p q b t₀) s (fun t => got t = some (true, [{ target := target, core := fieldAt b 20 1 }], none))) ∧
  (∀ (y : Nat) (es : List Bytes), k.takesCall q b = true → fieldAt b 0 1 = 3 →
    k.maps slot (fieldAt b 16 8) (16 * fieldAt b 24 4) .hub .read y = true →
    es = (List.range (fieldAt b 24 4)).map (fun i => Memory.readBytes k.hbm (y + 16 * i) 16) →
    (∀ e ∈ es, zeroSpan e 5 8 = true ∧ addrReserved e 8 .addr = false ∧ fieldAt e 0 4 < 2 ^ 18 ∧
      (k.callTargets slot (fieldAt e 0 4) false).isSome = true ∧ k.partCore slot (fieldAt e 4 1) = true ∧
      k.excluded slot (fieldAt e 0 4) = false) →
    Completes (.callStep p q b t₀) s (fun t =>
      got t = some (true, es.map (fun e => ({ target := fieldAt e 0 4, core := fieldAt e 4 1 } : CallPart)), none))) ∧
  (k.takesCall q b = true → fieldAt b 0 1 = 4 → target ≠ 2 ^ 31 →
    Completes (.callSemPost p q b t₀) s (fun t => got t = some (true, [{ target := target }], none))) ∧
  (∀ (data : Bytes) (y : Nat), k.takesCall q b = true → fieldAt b 0 1 = 5 → target = k.target → k.excluded slot target = false →
    fieldAt b 8 8 = 0 → fieldAt b 20 1 = 1 → k.maps slot (fieldAt b 24 8) (fieldAt b 40 4) (.host slot) .read y = true →
    Completes (.callCopy p q b data t₀) s (fun t => got t = some (true, [{ target := target, result := some (0, fieldAt b 40 4) }], none) ∧
      (t.pkg p).host.mem = Memory.writeBytes k.host.mem (fieldAt b 32 8) (Memory.readBytes k.hbm y (fieldAt b 40 4)))) ∧
  (∀ (data : Bytes) (y : Nat), k.takesCall q b = true → fieldAt b 0 1 = 5 → target = k.target → k.excluded slot target = false →
    fieldAt b 8 8 = 0 → fieldAt b 20 1 = 0 → fieldAt b 24 8 % 4096 + fieldAt b 40 4 ≤ 4096 → data.length = fieldAt b 40 4 →
    k.maps slot (fieldAt b 24 8) (fieldAt b 40 4) (.host slot) .write y = true →
    Completes (.callCopy p q b data t₀) s (fun t => got t = some (true, [{ target := target, result := some (0, fieldAt b 40 4) }], none) ∧
      (t.pkg p).hbm = Memory.writeBytes k.hbm y data)) ∧
  (k.takesCall q b = true → fieldAt b 0 1 = 6 → target ≠ 2 ^ 31 → target ≠ k.target → k.excluded slot target = false →
    Completes (.callStorage p q b t₀) s (fun t => got t = some (true, [{ target := target }], none))) ∧
  (∀ r, k.mayFetch q = true → fieldAt b 0 1 = 2 → (∀ c ∈ k.host.calls, c.num < n) →
    (∀ r ∈ k.host.replay, r.sq ≠ q.val ∨ r.id ≠ fieldAt b 4 4) → k.callRefusal slot b = some r →
    Completes (.callPlay p q b t₀) s (fun t => got t = some (true, [], some r))) ∧
  (∀ (r : ReplayRec) (st info : Nat), k.mayFetch q = true → fieldAt b 0 1 = 2 → (∀ c ∈ k.host.calls, c.num < n) →
    k.host.replay.find? (fun r => r.sq == q.val && r.id == fieldAt b 4 4) = some r → r.done = some (st, info) →
    Completes (.callPlay p q b t₀) s (fun t => got t = some (true, [], some (0x9601, info)) ∧
      ((t.pkg p).call n).map (fun c => (c.orig, c.dupOf)) = some (st, some r.num) ∧ (t.pkg p).host.replay = k.host.replay))

/-- R481, R482, R513, R595, R596, R604, R609, R610: acknowledgements and DONE packets give parts their results; a decided call is written to
its completion queue and is over; a call past its deadline is decided HOST_CALL_TIMEOUT; a packet past its lifetime is given up. -/
def Obligations.HostCallsComplete : Prop :=
  ∀ (s : State) (p : PkgId) (t₀ : Nat),
  let k := (s.pkg p).at t₀
  (∀ (c : HostCall) (st info : Nat), k.fab.done = [] → k.host.calls = [c] → c.result = some (st, info) → c.dupOf = none →
    let cq := k.getF (F.HIF_SQ_CQ c.sq)
    let w := k.getF (F.HIF_CQ_WINDEX cq)
    k.getF (F.HIF_CQ_EN cq) = 1 → k.cqFull cq = false → bit (fieldAt c.entry 1 1) 0 = false → c.sq < 256 →
    Completes (.callComplete p c.num t₀) s (fun t => (t.pkg p).host.calls = [] ∧
      (t.pkg p).getF (F.HIF_CQ_WINDEX cq) = (w + 1) % max 1 (k.getF (F.HIF_CQ_SIZE cq)) ∧
      (t.pkg p).getF (F.HIF_COUNTS 1) = min (2 ^ 64 - 1) (k.getF (F.HIF_COUNTS 1) + 1) ∧
      (t.pkg p).host.mem = Memory.writeBytes k.host.mem (k.getF (F.HIF_CQ_BASE cq) * 4096 + 16 * w)
        ((cqEntry (fieldAt c.entry 4 4) st st info (k.getF (F.HIF_SQ_HEAD c.sq)) c.sq 0).take 15 ++
          leBytes 1 (k.getF (F.HIF_CQ_PHASE cq))))) ∧
  (∀ (num : Nat) (c : HostCall), k.fab.done = [] → k.call num = some c → c.result = none → c.dupOf = none → callResult c = none →
    fieldAt c.entry 0 1 ≠ 1 → fieldAt c.entry 0 1 ≠ 4 → c.deadline ≤ k.now →
    Completes (.hostCallTimeout p num t₀) s (fun t =>
      ((t.pkg p).call num).map (fun x => (x.result, x.parts)) = some (some (0x6601, 0), []) ∧
      (t.pkg p).host.ghosts = k.host.ghosts ++ c.openPlays ∧
      (t.pkg p).getF (F.HIF_COUNTS 4) = min (2 ^ 64 - 1) (k.getF (F.HIF_COUNTS 4) + 1))) ∧
  (∀ (pkt : Packet) (c : HostCall) (x : CallPart), k.accepts pkt = true → k.host.ghosts = [] → k.host.calls = [c] → fieldAt c.entry 0 1 = 2 →
    c.parts = [x] → x.target = pkt.src → x.core = fieldAt pkt.body 14 1 → x.result = none →
    Completes (.playDone p pkt t₀) s (fun t => (t.pkg p).host.calls =
      [{ c with parts := [{ x with result := some (fieldAt pkt.body 12 2, fieldAt pkt.body 8 4) }] }])) ∧
  (∀ pkt : Packet, k.accepts pkt = true → (pkt.src, fieldAt pkt.body 14 1) ∈ k.host.ghosts →
    Completes (.playDone p pkt t₀) s (fun t => (t.pkg p).host.calls = k.host.calls ∧
      (t.pkg p).host.ghosts = k.host.ghosts.erase (pkt.src, fieldAt pkt.body 14 1))) ∧
  (∀ (pkt : Packet) (c : HostCall) (x : CallPart), k.accepts pkt = true → k.host.calls = [c] → c.num = fieldAt pkt.body 4 4 / 2 →
    c.parts = [x] → x.target = pkt.src → x.result = none →
    Completes (.fanoutDone p pkt t₀) s (fun t => (t.pkg p).host.calls =
      [{ c with parts := [{ x with result := some (fieldAt pkt.body 32 2, fieldAt pkt.body 24 4) }] }])) ∧
  (∀ (pkt : Packet) (u : Unacked), (k.screen pkt).2 = true → statusClass (fieldAt pkt.body 6 2) ≠ 1 → k.fab.unacked = [u] → k.fab.held = [] →
    u.owner = .none → u.pkt.dst = pkt.src → u.pkt.slot = bits (fieldAt pkt.body 12 2) 13 12 →
    u.pkt.sid = bits (fieldAt pkt.body 12 2) 11 0 → u.pkt.seq = fieldAt pkt.body 0 4 → k.fab.done = [] →
    Completes (.ack p pkt t₀) s (fun t => (t.pkg p).fab.unacked = [])) ∧
  (∀ pkt : Packet, (k.screen pkt).2 = true → statusClass (fieldAt pkt.body 6 2) = 1 →
    Completes (.ack p pkt t₀) s (fun t => (t.pkg p).fab.unacked = k.fab.unacked)) ∧
  (∀ (dst sid seq : Nat) (sl : SlotId) (u : Unacked), k.fab.unacked = [u] → k.fab.held = [] → u.owner = .none → u.pkt.dst = dst →
    u.pkt.slot = sl.val → u.pkt.sid = sid → u.pkt.seq = seq → k.fab.done = [] →
    k.getF F.FAB_LIFETIME + 2048 < (2 ^ 32 + k.now - u.pkt.born) % 2 ^ 32 →
    Completes (.deliveryGiveUp p dst sl sid seq t₀) s (fun t => (t.pkg p).fab.unacked = [] ∧ (t.pkg p).getF F.FAB_EV_TIMEOUT = 1 ∧
      (t.pkg p).getF (F.FAB_COUNTS 5) = min (2 ^ 64 - 1) (k.getF (F.FAB_COUNTS 5) + 1)))

/-- R584, R590, R591, R593, R596, R597, R616: a doorbell moves its index only for the function that owns the enabled queue; a queue is
enabled when R593 allows it; interrupts held back for coalescing are signalled when their time is over. R619–R621: a function-level reset
disables the function's queues, drops its calls and closes its BAR2 window, and leaves the queues of other functions; a reset of the PF
does so for every function, and a host reset too. -/
def Obligations.HostQueuesMoveAndReset : Prop :=
  (
    ∀ (s : State) (p : PkgId) (t₀ : Nat),
    let k := (s.pkg p).at t₀
    (∀ (fn : Root) (q : Fin 256) (index : Nat), k.getF (F.HIF_SQ_OWNER q) = fn.val → k.getF (F.HIF_SQ_EN q) = 1 →
      index < k.getF (F.HIF_SQ_SIZE q) → index < 4096 →
      Completes (.sqDoorbell p fn q index t₀) s (fun t => (t.pkg p).getF (F.HIF_SQ_TAIL q) = index)) ∧
    (∀ (fn : Root) (q : Fin 256) (index : Nat),
      k.getF (F.HIF_SQ_OWNER q) ≠ fn.val ∨ k.getF (F.HIF_SQ_EN q) = 0 ∨ k.getF (F.HIF_SQ_SIZE q) ≤ index →
      Completes (.sqDoorbell p fn q index t₀) s (fun t => (t.pkg p).getF F.HIF_EV_DOORBELL_BAD = 1 ∧
        (t.pkg p).getF (F.HIF_SQ_TAIL q) = k.getF (F.HIF_SQ_TAIL q))) ∧
    (∀ (fn : Root) (c : Fin 256) (index : Nat), k.getF (F.HIF_CQ_OWNER c) = fn.val → k.getF (F.HIF_CQ_EN c) = 1 →
      index < k.getF (F.HIF_CQ_SIZE c) → k.host.events = [] →
      Completes (.cqDoorbell p fn c index t₀) s (fun t => (t.pkg p).getF (F.HIF_CQ_HEAD c) = index)) ∧
    (∀ (fn : Root) (c : Fin 256) (index : Nat),
      k.getF (F.HIF_CQ_OWNER c) ≠ fn.val ∨ k.getF (F.HIF_CQ_EN c) = 0 ∨ k.getF (F.HIF_CQ_SIZE c) ≤ index →
      Completes (.cqDoorbell p fn c index t₀) s (fun t => (t.pkg p).getF F.HIF_EV_DOORBELL_BAD = 1 ∧
        (t.pkg p).getF (F.HIF_CQ_HEAD c) = k.getF (F.HIF_CQ_HEAD c))) ∧
    (∀ (c : Fin 256) (x : Nat × Nat × Nat), k.host.coal = [x] → x.1 = c.val → x.2.2 + k.getF (F.HIF_CQ_COAL_TIME c) * 2000 ≤ k.now →
      let fn := k.getF (F.HIF_CQ_OWNER c)
      let v := k.getF (F.HIF_CQ_VECTOR c)
      Completes (.interruptCoalesceTimeout p c t₀) s (fun t => (t.pkg p).host.coal = [] ∧
        (k.msixMasked fn v = true →
          (t.pkg p).getF (F.MSIX_PENDING fn (v / 64)) = k.getF (F.MSIX_PENDING fn (v / 64)) ||| 2 ^ (v % 64)) ∧
        (k.msixMasked fn v = false → (t.pkg p).host.mem =
          Memory.writeBytes k.host.mem (k.getF (F.MSIX_WORD fn (2 * v))) (leBytes 4 (k.getF (F.MSIX_WORD fn (2 * v + 1))))))) ∧
    (∀ (q : Fin 256) (data : Nat), bit data 63 = true → k.getF (F.HIF_SQ_EN q) = 0 → k.getF (F.HIF_CQ_EN (bits data 55 48)) = 1 →
      k.getF (F.HIF_CQ_OWNER (bits data 55 48)) = bits data 34 32 → k.replayStoreGood q = true → 2 ≤ bits data 12 0 → bits data 12 0 ≤ 4096 →
      Completes (.sqEnable p .pf q data t₀) s (fun t => (t.pkg p).getF (F.HIF_SQ_EN q) = 1 ∧ (t.pkg p).getF (F.HIF_SQ_HEAD q) = 0 ∧
        (t.pkg p).getF (F.HIF_SQ_TAIL q) = 0 ∧ (t.pkg p).getF (F.HIF_SQ_SIZE q) = bits data 12 0 ∧
        (t.pkg p).getF (F.HIF_SQ_OWNER q) = bits data 34 32)) ∧
    (∀ (q : Fin 256) (data : Nat), bit data 63 = true → k.getF (F.HIF_SQ_EN q) = 0 → k.getF (F.HIF_CQ_EN (bits data 55 48)) = 0 ∨
      k.getF (F.HIF_CQ_OWNER (bits data 55 48)) ≠ bits data 34 32 ∨ k.replayStoreGood q = false ∨ bits data 12 0 < 2 ∨ 4096 < bits data 12 0 →
      Completes (.sqEnable p .pf q data t₀) s (fun t => (t.pkg p).getF (F.HIF_SQ_EN q) = 0 ∧ (t.pkg p).getF F.HIF_EV_QUEUE_REFUSED = 1)) ∧
    (∀ (q : Fin 256) (data : Nat), bit data 63 = false →
      Completes (.sqEnable p .pf q data t₀) s (fun t => (t.pkg p).getF (F.HIF_SQ_EN q) = 0 ∧
        (t.pkg p).host.replay = k.host.replay.filter (fun r => r.sq != q.val))) ∧
    (∀ (n : SlotId) (q : Fin 256) (data : Nat), k.getF (F.HIF_SQ_OWNER q) ≠ n.val →
      Completes (.sqEnable p (.vf n) q data t₀) s (fun t => (t.pkg p).getF F.HIF_EV_VF_WRITE_REFUSED = 1 ∧
        (t.pkg p).getF (F.HIF_SQ_EN q) = k.getF (F.HIF_SQ_EN q)))) ∧
  (
    ∀ (s : State) (p : PkgId) (t₀ : Nat),
    let k := (s.pkg p).at t₀
    let gone := fun (k' : Pkg) (fn : Nat) =>
      k'.getF (F.XLT_BAR2_VBASE fn) = 0 ∧
      (∀ q : Fin 256, k.getF (F.HIF_SQ_OWNER q) = fn → k'.getF (F.HIF_SQ_EN q) = 0) ∧
      (∀ c : Fin 256, k.getF (F.HIF_CQ_OWNER c) = fn → k'.getF (F.HIF_CQ_EN c) = 0) ∧
      (∀ c ∈ k'.host.calls, c ∈ k.host.calls ∧ ¬ (c.sq < 256 ∧ k.getF (F.HIF_SQ_EN c.sq) = 1 ∧ k.getF (F.HIF_SQ_OWNER c.sq) = fn))
    (∀ n : SlotId, Completes (.vfFlr p n t₀) s (fun t => (t.pkg p).getF F.HIF_EV_FLR = 1 ∧ gone (t.pkg p) n ∧
      (∀ q : Fin 256, k.getF (F.HIF_SQ_OWNER q) ≠ n.val → (t.pkg p).getF (F.HIF_SQ_EN q) = k.getF (F.HIF_SQ_EN q)) ∧
      (∀ c : Fin 256, k.getF (F.HIF_CQ_OWNER c) ≠ n.val → (t.pkg p).getF (F.HIF_CQ_EN c) = k.getF (F.HIF_CQ_EN c)))) ∧
    Completes (.pfFlr p t₀) s (fun t => (t.pkg p).getF F.HIF_EV_FLR = 1 ∧ (t.pkg p).host.vfEnable = false ∧ ∀ fn, fn < 5 → gone (t.pkg p) fn) ∧
    (∀ down, Completes (.hostReset p down t₀) s (fun t => (t.pkg p).host.vfEnable = false ∧
      (t.pkg p).getF F.LNK_H_ST = (if down then 0 else k.getF F.LNK_H_ST) ∧ ∀ fn, fn < 5 → gone (t.pkg p) fn)))


/-- R603, R606, R610, R625–R635: a part of a call waits for its Hall Time and then runs; connections are opened, closed, lost and tried
again; an NVMe command ends with its completion or after 10 s, and reaches memory only within its range; port S answers what it knows. -/
def Obligations.StorageRuns : Prop :=
  ∀ (s : State) (p : PkgId) (t₀ : Nat),
  let k := (s.pkg p).at t₀
  (∀ (pkt : Packet) (data : Bytes), k.accepts pkt = true → fieldAt pkt.body 1 1 = 6 → fieldAt pkt.body 8 8 ≠ 0 → k.hallTime < fieldAt pkt.body 8 8 →
    k.job pkt.src (fieldAt pkt.body 4 4 / 2 * 2) = none →
    Completes (.fanoutRun p pkt data t₀) s (fun t => (t.pkg p).host.jobs = k.host.jobs ++
      [{ captain := pkt.src, tag := fieldAt pkt.body 4 4 / 2 * 2, slot := pkt.slot, storage := true, ht := fieldAt pkt.body 8 8,
         va := some (fieldAt pkt.body 16 8), arg := fieldAt pkt.body 24 4, dir := fieldAt pkt.body 28 4 % 2 }])) ∧
  (∀ (j : HostJob) (va host y : Nat), k.host.jobs = [j] → j.started = false → j.ht ≠ 0 → j.ht ≤ k.hallTime → j.storage = false →
    j.va = some va → j.hostAddr = some host → j.dir = 1 → k.maps j.slot va j.arg (.host j.slot) .read y = true →
    Completes (.callAtHtAction p t₀) s (fun t => (t.pkg p).host.jobs = [] ∧
      (t.pkg p).host.mem = Memory.writeBytes k.host.mem host (Memory.readBytes k.hbm y j.arg))) ∧
  (∀ (mask i : Nat) (es : List Bytes), i < 16 → k.getF F.HIF_STO_TABLE * 4096 + 4096 ≤ hbmBytes →
    k.unitsGood (k.getF F.HIF_STO_TABLE * 4096) 4096 = true →
    es = (List.range 16).map (fun j => Memory.readBytes k.hbm (k.getF F.HIF_STO_TABLE * 4096 + 256 * j) 256) →
    (∀ b ∈ es, bit (fieldAt b 19 1) 0 = true → connValid b = true) →
    ((es.filter connValid).map (fun b => fieldAt b 18 1)).sum ≤ 64 → k.getF (F.HIF_STO_ST i) = 0 →
    Completes (.stoConnect p .pf mask t₀) s (fun t =>
      (t.pkg p).getF (F.HIF_STO_ST i) = if bit mask i && connValid (es.getD i []) then 1 else 0)) ∧
  (∀ (mask i : Nat) (es : List Bytes), i < 16 → k.getF F.HIF_STO_TABLE * 4096 + 4096 ≤ hbmBytes →
    k.unitsGood (k.getF F.HIF_STO_TABLE * 4096) 4096 = true →
    es = (List.range 16).map (fun j => Memory.readBytes k.hbm (k.getF F.HIF_STO_TABLE * 4096 + 256 * j) 256) →
    64 < ((es.filter connValid).map (fun b => fieldAt b 18 1)).sum →
    Completes (.stoConnect p .pf mask t₀) s (fun t => (t.pkg p).getF F.HIF_EV_STO_REFUSED = 1 ∧
      (t.pkg p).getF (F.HIF_STO_ST i) = k.getF (F.HIF_STO_ST i))) ∧
  (∀ (mask i : Nat), i < 16 → bit mask i = true →
    Completes (.stoDisconnect p .pf mask t₀) s (fun t => (t.pkg p).getF (F.HIF_STO_ST i) = 0 ∧ (t.pkg p).getF (F.HIF_STO_IOQS i) = 0 ∧
      ((t.pkg p).conn i).wanted = false)) ∧
  (∀ conn : Fin 16, k.getF (F.HIF_STO_ST conn) = 2 →
    Completes (.keepAliveFailure p conn t₀) s (fun t => (t.pkg p).getF (F.HIF_STO_ST conn) = 0 ∧
      (t.pkg p).conn conn = { k.conn conn with last := k.now })) ∧
  (∀ (conn : Fin 16) (mx blk : Nat), (k.conn conn).wanted = true → k.getF (F.HIF_STO_ST conn) = 1 → fieldAt (k.conn conn).entry 18 1 ≤ 64 →
    Completes (.reconnectAttempt p conn (some (mx, blk)) t₀) s (fun t => (t.pkg p).getF (F.HIF_STO_ST conn) = 2 ∧
      (t.pkg p).getF (F.HIF_STO_IOQS conn) = fieldAt (k.conn conn).entry 18 1 ∧
      (t.pkg p).conn conn = { k.conn conn with maxTransfer := mx, blockBytes := blk, last := k.now })) ∧
  (∀ conn : Fin 16, (k.conn conn).wanted = true → k.getF (F.HIF_STO_ST conn) = 1 →
    Completes (.reconnectAttempt p conn none t₀) s (fun t => (t.pkg p).getF (F.HIF_STO_ST conn) = 0 ∧
      (t.pkg p).conn conn = { k.conn conn with last := k.now })) ∧
  (∀ (key : Nat) (x : NvmeCmd) (j : HostJob) (e : StoEntry), k.nvmeCmd key = some x → k.host.jobs = [j] → j.captain = x.captain →
    j.tag = x.tag → j.entries = [e] → x.entry = 0 → e.issued = true → e.out = 1 → e.left = 0 → e.status = 0 → x.conn < 16 →
    Completes (.nvmeCompletion p key 0 t₀) s (fun t => (t.pkg p).host.jobs = [] ∧ (t.pkg p).host.nvme = k.host.nvme.erase x ∧
      (t.pkg p).getF (F.HIF_STO_COUNTS (if x.toMemory then 0 else 1)) =
        min (2 ^ 64 - 1) (k.getF (F.HIF_STO_COUNTS (if x.toMemory then 0 else 1)) + x.size))) ∧
  (∀ (key nvme : Nat) (x : NvmeCmd), k.nvmeCmd key = some x → nvme ≠ 0 → nvme < 2 ^ 16 → x.conn < 16 →
    Completes (.nvmeCompletion p key nvme t₀) s (fun t => (t.pkg p).getF (F.HIF_STO_NVME x.conn) = nvme ∧
      (t.pkg p).getF (F.HIF_STO_COUNTS 3) = min (2 ^ 64 - 1) (k.getF (F.HIF_STO_COUNTS 3) + 1))) ∧
  (∀ (key : Nat) (x : NvmeCmd) (j : HostJob) (e : StoEntry), k.nvmeCmd key = some x → x.issued + 20000000000 ≤ k.now → k.host.jobs = [j] →
    j.captain = x.captain → j.tag = x.tag → j.entries = [e] → x.entry = 0 → e.issued = true → e.out = 2 → e.left = 0 → e.status = 0 →
    Completes (.nvmeTimeout p key t₀) s (fun t => (t.pkg p).host.nvme = k.host.nvme.erase x ∧
      (t.pkg p).host.jobs.map (fun j => j.entries.map (fun e => (e.out, e.status))) = [[(1, 0x6E04)]])) ∧
  (∀ (key off y n : Nat) (bs : Bytes) (x : NvmeCmd), k.nvmeCmd key = some x → x.toMemory = true → off + bs.length ≤ x.size →
    k.maps x.slot (x.va + off) bs.length .storage .write y = true →
    Completes (.rdmaAccess p key off (some bs) n t₀) s (fun t => (t.pkg p).hbm = Memory.writeBytes k.hbm y bs)) ∧
  (∀ (key off y n : Nat) (x : NvmeCmd), k.nvmeCmd key = some x → x.toMemory = false → off + n ≤ x.size →
    k.maps x.slot (x.va + off) n .storage .read y = true →
    Completes (.rdmaAccess p key off none n t₀) s (fun t => (t.pkg p).readData = leNat (Memory.readBytes k.hbm y n) ∧ (t.pkg p).hbm = k.hbm)) ∧
  (∀ (key off n : Nat) (bs : Bytes) (x : NvmeCmd), k.nvmeCmd key = some x → x.toMemory = false ∨ x.size < off + bs.length →
    Completes (.rdmaAccess p key off (some bs) n t₀) s (fun t => t.pkg p = k)) ∧
  (∀ (kind : StoFrame) (mine : Bool) (vlan : Option Nat) (ecn : Bool), k.getF F.LNK_S_ST = 2 → k.getF F.HIF_STO_VLAN_EN = 0 →
    (kind = .echo → mine = true → vlan = none →
      Completes (.storageFrameReceive p kind mine vlan ecn t₀) s (fun t => (t.pkg p).host.reply = .echo)) ∧
    (kind = .roce → mine = true → vlan = none →
      Completes (.storageFrameReceive p kind mine vlan ecn t₀) s (fun t => (t.pkg p).host.reply = if ecn then .congestion else .roce)) ∧
    (kind = .other ∨ (kind = .echo ∧ mine = false) ∨ (kind = .address ∧ vlan.isSome = true) →
      Completes (.storageFrameReceive p kind mine vlan ecn t₀) s (fun t => (t.pkg p).host.reply = .none ∧
        (t.pkg p).getF (F.HIF_STO_COUNTS 4) = min (2 ^ 64 - 1) (k.getF (F.HIF_STO_COUNTS 4) + 1)))) ∧
  (∀ st : Fin 3, Completes (.storageLinkChange p st t₀) s (fun t => (t.pkg p).getF F.LNK_S_ST = st))

/-- R667, R672–R678: a lineup is staged from a slot, checked, scheduled for an epoch and applied whole at it; staging is refused while an
application is pending, scheduling without a staged lineup of the same structure; DISCARD empties the staged half. -/
def Obligations.LineupIsStagedAndApplied : Prop :=
  ∀ (s : State) (p : PkgId) (t₀ : Nat),
  let k := (s.pkg p).at t₀
  (∀ slot, k.getF F.LUP_PENDING_EN = 0 → Completes (.lineupStage p .i3c slot t₀) s (fun t =>
    ((t.pkg p).lup.staging).isSome = true ∧ (t.pkg p).lup.staged = none ∧ (t.pkg p).lup.active = k.lup.active)) ∧
  (∀ slot, k.getF F.LUP_PENDING_EN = 1 → Completes (.lineupStage p .i3c slot t₀) s (fun t =>
    (t.pkg p).getF F.LUP_STG_STATUS = 0x470C ∧ (t.pkg p).lup = k.lup)) ∧
  (∀ img : Bytes, k.lup.staging = some img → Completes (.lineupStageCheckDone p t₀) s (fun t => (t.pkg p).lup.staging = none ∧
    match k.checkLineup img with
    | .ok l => (t.pkg p).lup.staged = some l ∧ (t.pkg p).getF F.LUP_CK_STATUS = 0 ∧
        (t.pkg p).getF F.LUP_STG_DIGEST32 = digest32 l.digest % 2 ^ 32 ∧
        (t.pkg p).getF F.LUP_STG_LIVE_OK = if k.lup.active.map Lineup.structDigest = some l.structDigest then 1 else 0
    | .error e => (t.pkg p).lup.staged = k.lup.staged ∧ (t.pkg p).getF F.LUP_STG_STATUS = e.1 % 2 ^ 16 ∧
        (t.pkg p).getF F.LUP_CK_STATUS = e.1 % 2 ^ 16)) ∧
  Completes (.lineupDiscard p .i3c t₀) s (fun t => (t.pkg p).lup = { k.lup with staging := none, staged := none } ∧
    (t.pkg p).getF F.LUP_PENDING_EN = 0 ∧ (t.pkg p).getF F.LUP_STG_DIGEST32 = 0) ∧
  (∀ epoch, k.lup.staged = none → Completes (.lineupApplySchedule p .i3c epoch t₀) s (fun t =>
    (t.pkg p).getF F.LUP_PEND_STATUS = 0x3706 ∧ (t.pkg p).getF F.LUP_PENDING_EN = k.getF F.LUP_PENDING_EN)) ∧
  (∀ (epoch : Nat) (l : Lineup), k.lup.staged = some l → k.lup.active.map Lineup.structDigest ≠ some l.structDigest →
    Completes (.lineupApplySchedule p .i3c epoch t₀) s (fun t =>
      (t.pkg p).getF F.LUP_PEND_STATUS = 0x370B ∧ (t.pkg p).getF F.LUP_PENDING_EN = k.getF F.LUP_PENDING_EN)) ∧
  (∀ (epoch : Nat) (l : Lineup), k.lup.staged = some l → k.lup.active.map Lineup.structDigest = some l.structDigest →
    epoch < 2 ^ 43 → k.hallTime / 2097152 + 1 < 2 ^ 43 →
    Completes (.lineupApplySchedule p .i3c epoch t₀) s (fun t => (t.pkg p).getF F.LUP_PENDING_EN = 1 ∧ (t.pkg p).getF F.LUP_PEND_STATUS = 0 ∧
      (t.pkg p).getF F.LUP_PEND_EPOCH = max epoch (k.hallTime / 2097152 + 1) ∧
      (epoch ≤ k.hallTime / 2097152 → (t.pkg p).getF F.LUP_LATE = 1))) ∧
  (∀ l : Lineup, k.lup.staged = some l → k.getF F.LUP_PENDING_EN = 1 → k.getF F.HTM_VALID = 1 → t₀ % 2097152 = 0 →
    k.getF F.LUP_PEND_EPOCH ≤ t₀ / 2097152 →
    Completes (.lineupApply p t₀) s (fun t => (t.pkg p).lup = { active := some l, staging := none, staged := none } ∧
      (t.pkg p).getF F.LUP_PENDING_EN = 0 ∧ (t.pkg p).getF F.LUP_DIGEST32 = digest32 l.digest % 2 ^ 32 ∧
      (t.pkg p).getF F.COL_T1 = l.coll.t1 % 2 ^ 32 ∧ (t.pkg p).getF F.PWR_CFG_CAP = l.power.cap % 2 ^ F.PWR_CFG_CAP.width ∧
      (t.pkg p).getF F.TH_TRIP = l.thermal.trip % 2 ^ F.TH_TRIP.width))

/-- R135, R169, R189, R750, R764, R765–R768, R771, R774, R780, R783, R784: a play ends; a core out of reset takes its state from the map;
the hourly sample and RETIRE mark a core; a substitution switches to its spare; the record of the map is written or tried again. -/
def Obligations.RepairActs : Prop :=
  ∀ (s : State) (p : PkgId) (t₀ : Nat),
  let k := (s.pkg p).at t₀
  (∀ (core : CoreId) (pl : Play) (result : Nat), k.play core = some pl → pl.draining = false → pl.block = some (.stop result) →
    (∀ x ∈ pl.cmds, x.op = 0x52) → k.repair.marks = [] →
    Completes (.playComplete p core t₀) s (fun t => (t.pkg p).play core = none)) ∧
  (∀ (core : CoreId) (pl : Play), k.play core = some pl → k.shotPaused pl = false → k.getF (F.CORE_SEQ_SHOT_LIMIT core) ≤ pl.shotCount k.now →
    Completes (.shotClockExpire p core t₀) s (fun t => (t.pkg p).play core = none ∧ core.val ∈ (t.pkg p).coreDown ∧
      (t.pkg p).getF (F.CORE_STATE core) = 4 ∧ (t.pkg p).getF F.RST_CAUSE = 7 ∧ (t.pkg p).getF F.RST_SCOPE = 1 ∧
      (t.pkg p).getF F.RST_UNIT = core)) ∧
  (∀ core : CoreId, core.val ∈ k.coreDown → k.getF (F.CORE_STATE core) = 4 → bit (k.getF F.RST_CLUSTER_RESET) (core / 16) = false →
    k.repair.substs = [] → k.repair.marks = [] →
    Completes (.lsZeroingComplete p core t₀) s (fun t => (t.pkg p).core core = {} ∧ core.val ∉ (t.pkg p).coreDown ∧
      (t.pkg p).getF (F.CORE_STATE core) = if k.isRetired core then 5 else if (k.logicalOf core).isSome then 3 else 2)) ∧
  (k.getF F.HTM_VALID = 1 → t₀ % 7200000000000 = 0 →
    (∀ c, c < 64 → k.getF (F.CORE_LS_CE_COUNT c) < getPair k.repair.ceLast c + 1000) →
    Completes (.ceSample p t₀) s (fun t => (t.pkg p).repair.marks = k.repair.marks ∧
      ∀ c, c < 64 → getPair (t.pkg p).repair.ceLast c = k.getF (F.CORE_LS_CE_COUNT c))) ∧
  (∀ (core : CoreId) (g : Nat), k.getF F.HTM_VALID = 1 → t₀ % 7200000000000 = 0 →
    (∀ c, c < 64 → c ≠ core.val → k.getF (F.CORE_LS_CE_COUNT c) < getPair k.repair.ceLast c + 1000) →
    getPair k.repair.ceLast core + 1000 ≤ k.getF (F.CORE_LS_CE_COUNT core) → k.repair.substs = [] → k.repair.marks = [] →
    k.isSpare core = false → k.logicalOf core = some g → k.spares (core / 16) ≠ [] → (k.play core).isSome = true →
    Completes (.ceSample p t₀) s (fun t => (t.pkg p).repair.marks = [(core.val, 4, false)] ∧ (t.pkg p).getF (F.GLB_ME_MARKED g) = 1)) ∧
  (∀ (core g : Nat) (force : Bool), core < 64 → k.repair.substs = [] → k.repair.marks = [] → k.isSpare core = false →
    k.logicalOf core = some g → k.spares (core / 16) ≠ [] → (k.play core).isSome = true →
    Completes (.retire p .i3c core force t₀) s (fun t => (t.pkg p).repair.marks = [(core, 5, force)] ∧
      (t.pkg p).getF (F.GLB_ME_MARKED g) = 1 ∧ (t.pkg p).getF F.GLB_REPAIR_CODE = 0)) ∧
  (∀ (core : Nat) (force : Bool), core < 64 → k.repair.substs = [] → k.isSpare core = true →
    Completes (.retire p .i3c core force t₀) s (fun t => (t.pkg p).isRetired core = true ∧ (t.pkg p).isSpare core = false ∧
      (t.pkg p).getF (F.CORE_STATE core) = 5 ∧ (t.pkg p).getF F.GLB_REPAIR_CODE = 0 ∧ (t.pkg p).getF F.GLB_MAP_WRITE_PENDING = 1)) ∧
  (∀ (core : Nat) (force : Bool), core < 64 → k.isSpare core = false → k.logicalOf core = none →
    Completes (.retire p .i3c core force t₀) s (fun t => (t.pkg p).getF F.GLB_REPAIR_CODE = 0x3005 ∧ (t.pkg p).repair = k.repair)) ∧
  (∀ (core : CoreId) (q : Subst), k.repair.substs = [q] → q.core = core.val → q.copying = true → q.copy = true → q.spare < 64 →
    q.spare ≠ core.val → q.logical < 60 → bit (k.getF F.RST_CLUSTER_RESET) (q.spare / 16) = false →
    Completes (.substitutionCopyDone p core t₀) s (fun t => (t.pkg p).repair.substs = [] ∧
      ((t.pkg p).core q.spare).ls = (k.core core).ls ∧ (t.pkg p).getF (F.GLB_ME_PHYS q.logical) = q.spare ∧
      (t.pkg p).getF (F.CORE_STATE q.spare) = 3 ∧ (t.pkg p).getF (F.CORE_LOGICAL q.spare) = q.logical ∧
      (t.pkg p).isRetired core = true ∧ (t.pkg p).getF (F.CORE_STATE core) = 5 ∧
      (t.pkg p).getF (F.GLB_REPAIR_COUNTS 0) = min (2 ^ 64 - 1) (k.getF (F.GLB_REPAIR_COUNTS 0) + 1))) ∧
  (∀ (b : Bytes) (rest : List Bytes), k.repair.records = b :: rest → k.repair.retryAt = none →
    Completes (.mapRecordWriteDone p true t₀) s (fun t => (t.pkg p).repair.records = rest ∧
      (t.pkg p).getF F.GLB_MAP_SEQ = fieldAt b 8 4 ∧ (t.pkg p).getF F.GLB_MAP_WRITE_STATUS = 0 ∧
      (t.pkg p).getF F.GLB_MAP_WRITE_PENDING = (if rest.isEmpty then 0 else 1) ∧
      (t.pkg p).flash = ((k.flashErase (match k.mapRecord with | some (i, _) => 0x20000 + (1 - i) * 0x10000 | none => 0x20000) 0x10000).flashWrite
        (match k.mapRecord with | some (i, _) => 0x20000 + (1 - i) * 0x10000 | none => 0x20000) b).flash)) ∧
  (∀ (b : Bytes) (rest : List Bytes), k.repair.records = b :: rest → k.repair.retryAt = none →
    Completes (.mapRecordWriteDone p false t₀) s (fun t => (t.pkg p).repair.records = b :: rest ∧
      (t.pkg p).repair.retryAt = some (k.now + 20000000000) ∧ (t.pkg p).getF F.GLB_MAP_WRITE_STATUS = 0x5006 ∧ (t.pkg p).flash = k.flash)) ∧
  (∀ r, k.repair.retryAt = some r → r ≤ k.now → Completes (.mapWriteRetry p t₀) s (fun t => (t.pkg p).repair.retryAt = none))

/-- R581, R684, R686–R704, R716: the steps of a bring-up, each with what it leaves: the boot set runs or the package is dead, the lineup is
active or refused, HBM is trained and zeroed, the port phase ends, GO starts the waves, self-tests are shown, the map is built, and at the
deadline a package that is not READY is HELD. -/
def Obligations.BringUpProceeds : Prop :=
  ∀ (s : State) (p : PkgId) (t₀ : Nat),
  let k := (s.pkg p).at t₀
  (k.bring.step = 1 → k.bring.released.isSome = true → k.bootRecord = none → k.boot.dead = false →
    Completes (.bootSetVerified p t₀) s (fun t =>
      if k.bootSet 0 = 0 ∨ k.bootSet 1 = 0 then (t.pkg p).bring.runtime = true ∧ (t.pkg p).bring.step = 2 ∧ (t.pkg p).getF F.LUP_ST = 1
      else (t.pkg p).boot.dead = true ∧ (t.tray (trayOf p)).held = true)) ∧
  (k.bring.step = 2 → k.getF F.GLB_BU_SERIAL_SET = 0 → k.bring.phaseAt + 4000000000 ≤ k.now →
    Completes (.serialWaitTimeout p t₀) s (fun t => (t.pkg p).bring = { k.bring with proceed := true })) ∧
  (k.bring.step = 2 → k.bring.proceed = true → k.bc.state ≠ 2 →
    Completes (.lineupLoadComplete p t₀) s (fun t => match k.checkLineup (k.storedImage 4 k.bc.source) with
      | .ok _ => (t.pkg p).getF F.LUP_ST = 2 ∧ (t.pkg p).bring.step = 3 ∧ ∀ i, i < 8 → (t.pkg p).getF (F.HBM_STATE i) = 1
      | .error e => (t.pkg p).getF F.LUP_ST = 3 ∧ (t.pkg p).bring.step = 8 ∧ (t.pkg p).getF F.GLB_HOLD_LINEUP = 1 ∧
          (t.pkg p).getF F.LUP_CK_STATUS = e.1 % 2 ^ 16)) ∧
  (∀ failed, k.bring.step = 3 → k.bring.hbmTrained = false →
    Completes (.hbmTrainingComplete p failed t₀) s (fun t => (t.pkg p).bring.hbmTrained = true ∧
      ∀ i, i < 8 → (t.pkg p).getF (F.HBM_STATE i) = if bit failed i then 3 else k.getF (F.HBM_STATE i))) ∧
  (∀ (failed : Nat) (repairs : List Nat), k.bring.step = 3 → k.bring.hbmTrained = true → k.getF F.GLB_BU_COLD = 1 → k.hbmSettled = false →
    Completes (.hbmTestComplete p failed repairs t₀) s (fun t => (t.pkg p).hbm = [] ∧ (t.pkg p).hbmBad = [] ∧
      ∀ i, i < 8 → k.getF (F.HBM_STATE i) = 1 → (t.pkg p).getF (F.HBM_STATE i) = (if bit failed i then 3 else 2) ∧
        (t.pkg p).getF (F.HBM_REPAIRS i) = min 255 (k.getF (F.HBM_REPAIRS i) + repairs.getD i 0))) ∧
  (k.bring.step = 3 → k.bring.hbmTrained = true → k.getF F.GLB_BU_COLD = 0 → k.hbmSettled = false →
    Completes (.hbmZeroingComplete p t₀) s (fun t => (t.pkg p).hbm = [] ∧ (t.pkg p).hbmBad = [] ∧
      ∀ i, i < 8 → k.getF (F.HBM_STATE i) = 1 → (t.pkg p).getF (F.HBM_STATE i) = 2)) ∧
  (k.bring.step = 3 → k.bring.portsAt = none → k.portsSettled = true →
    Completes (.portPhaseEnd p t₀) s (fun t => (t.pkg p).bring.portsAt = some k.now ∧
      (t.pkg p).bring.step = (if k.hbmSettled then 4 else 3) ∧ (k.braidUp = false → (t.pkg p).getF F.GLB_HOLD_BRAID = 1))) ∧
  (k.bring.step = 4 → Completes (.go p .i3c t₀) s (fun t =>
    (t.pkg p).bring.step = 5 ∧ (t.pkg p).bring.goAt = some k.now ∧ (t.pkg p).bring.waves = 0)) ∧
  (k.bring.step ≠ 4 → Completes (.go p .i3c t₀) s (fun t => t = s.setPkg p k)) ∧
  (k.bring.step = 4 → k.bring.pendingAt + 10000000000 + socketOf p * 1000000 ≤ k.now →
    Completes (.goFallback p t₀) s (fun t => (t.pkg p).bring.step = 5 ∧ (t.pkg p).bring.goAt = some k.now)) ∧
  (k.bring.step = 4 → (s.tray (trayOf p)).aux = true → (s.tray (trayOf p)).origin = none →
    Completes (.tmcGoDispatch p t₀) s (fun t => (t.pkg p).bring.step = 5 ∧ (t.pkg p).bring.goAt = some k.now ∧
      (t.tray (trayOf p)).origin = some (t₀ + 4000000 - socketOf p * 1000000))) ∧
  (∀ go, k.bring.goAt = some go → k.bring.step = 5 → k.bring.waves < 8 → go + 4000000 * k.bring.waves ≤ k.now →
    Completes (.waveStart p t₀) s (fun t => (t.pkg p).bring.waves = k.bring.waves + 1 ∧
      ∀ c ∈ waveCores k.bring.waves, (k.skipped c = true → (t.pkg p).getF (F.CORE_STATE c) = 5) ∧
        (k.skipped c = false → (t.pkg p).getF (F.CORE_STATE c) = 1 ∧ (t.pkg p).getF (F.CORE_BIST_RESULT c) = 3))) ∧
  (∀ (core : CoreId) (pass : Bool) (units bank : Nat), k.getF (F.CORE_BIST_RESULT core) = 3 → k.bring.step = 5 →
    Completes (.bistComplete p core pass units bank t₀) s (fun t =>
      (t.pkg p).getF (F.CORE_BIST_RESULT core) = (if pass then 1 else 2) ∧ (t.pkg p).core core = {} ∧
      (pass = false → (t.pkg p).getF (F.CORE_STATE core) = 5 ∧ (t.pkg p).getF (F.CORE_BIST_FAIL core) = units % 2 ^ 6))) ∧
  (k.bring.step = 6 → k.bring.mapped = false →
    Completes (.mapComplete p t₀) s (fun t => (t.pkg p).bring.mapped = true ∧
      (t.pkg p).bring.step = (if k.buildMap.criteria then 7 else 8) ∧
      ∀ c, c < 64 → k.getF (F.CORE_BIST_RESULT c) = 2 → (t.pkg p).getF (F.CORE_STATE c) = 5 ∧ (t.pkg p).isRetired c = true)) ∧
  (∀ r, k.bring.released = some r → k.bring.step ≠ 7 → k.bring.late = false → r + 20000000000 ≤ k.now →
    Completes (.readyDeadline p t₀) s (fun t => (t.pkg p).getF F.GLB_BU_PHASE = 8 ∧ (t.pkg p).bring.late = true ∧
      (k.hbmReady = false → (t.pkg p).getF F.GLB_HOLD_HBM = 1) ∧ (k.getF F.HTM_STATE ≠ 2 → (t.pkg p).getF F.GLB_HOLD_TIME = 1))) ∧
  (∀ r, k.bring.released = some r → r + 40000000 ≤ k.now → k.getF F.LNK_H_ST = 0 →
    Completes (.pcieTrainingStart p t₀) s (fun t => (t.pkg p).getF F.LNK_H_ST = 1)) ∧
  (∀ (rate width : Nat) (flit : Bool), k.getF F.LNK_H_ST = 1 → rate < 8 → width < 32 →
    Completes (.pcieLinkTrained p rate width flit t₀) s (fun t => (t.pkg p).getF F.LNK_H_ST = 2 ∧ (t.pkg p).getF F.HIF_PCIE_RATE = rate ∧
      (t.pkg p).getF F.HIF_PCIE_WIDTH = width ∧ (t.pkg p).getF F.HIF_PCIE_DEGRADED = if rate < 6 ∨ width < 16 then 1 else 0)) ∧
  (∀ (fn : Root) (req : CfgReq), k.getF F.LNK_H_ST = 2 → k.bring.runtime = false →
    Completes (.pcieConfigRequest p fn req t₀) s (fun t => (t.pkg p).host.cfg = .retry)) ∧
  (∀ fn : Root, k.getF F.LNK_H_ST = 2 → k.bring.runtime = true →
    Completes (.pcieConfigRequest p fn .vendor t₀) s (fun t => (t.pkg p).host.cfg = .data 0x1F3C) ∧
    Completes (.pcieConfigRequest p fn .class_ t₀) s (fun t => (t.pkg p).host.cfg = .data 0x120000) ∧
    ∀ on, Completes (.pcieConfigRequest p 4 (.vfEnable on) t₀) s (fun t => (t.pkg p).host.vfEnable = on))

/-- R726–R732, R752, R753: a reset command of each scope begins a drain at once or waits for its Hall Time; an unknown target is refused;
a drain ends when its commands have retired or its time is over, and the reset of its scope follows. -/
def Obligations.ResetsAreCommanded : Prop :=
  ∀ (s : State) (p : PkgId) (t₀ : Nat),
  let k := (s.pkg p).at t₀
  let begun := fun (t : State) (scope target : Nat) => ∃ d ∈ (t.pkg p).drains, d.scope = scope ∧ d.target = target ∧ d.cause = 4 ∧ d.began = k.now
  let refused := fun (t : State) => (t.pkg p).getF F.RST_CMD_STATUS = 0x3004 ∧ (t.pkg p).drains = k.drains ∧ (t.pkg p).resetsAt = k.resetsAt
  let waits := fun (t : State) (scope target : Nat) =>
    (t.pkg p).getF F.RST_CMD_STATUS = 0 ∧ (t.pkg p).drains = k.drains ∧ (t.pkg p).resetsAt = k.resetsAt ++ [(scope, target, k.getF F.RST_CMD_HT)]
  (∀ c, (c < 64 → k.resetCovers 1 c = false → Completes (.resetCore p .i3c c false t₀) s (fun t => begun t 1 c ∧
      (t.pkg p).getF F.RST_CMD_STATUS = 0)) ∧
    (c < 64 → k.now < k.getF F.RST_CMD_HT → Completes (.resetCore p .i3c c true t₀) s (fun t => waits t 1 c)) ∧
    (64 ≤ c → ∀ h, Completes (.resetCore p .i3c c h t₀) s refused)) ∧
  (∀ c, (c < 4 → k.resetCovers 2 c = false → Completes (.resetCluster p .i3c c false t₀) s (fun t => begun t 2 c)) ∧
    (c < 4 → k.now < k.getF F.RST_CMD_HT → Completes (.resetCluster p .i3c c true t₀) s (fun t => waits t 2 c)) ∧
    (4 ≤ c → ∀ h, Completes (.resetCluster p .i3c c h t₀) s refused)) ∧
  (∀ c, (c < 4 → k.slotHeld c = true → k.resetCovers 3 c = false → Completes (.resetPartition p .i3c c false t₀) s (fun t => begun t 3 c ∧
      bit ((t.pkg p).getF F.RST_SLOT_DRAIN) c = true)) ∧
    (c < 4 → k.slotHeld c = true → k.now < k.getF F.RST_CMD_HT → Completes (.resetPartition p .i3c c true t₀) s (fun t => waits t 3 c)) ∧
    (c < 4 → k.slotHeld c = false → ∀ h, Completes (.resetPartition p .i3c c h t₀) s refused)) ∧
  (k.resetCovers 4 0 = false → Completes (.resetPackage p .i3c 0 false t₀) s (fun t => begun t 4 0)) ∧
  (k.now < k.getF F.RST_CMD_HT → Completes (.resetRack p .i3c 0 true t₀) s (fun t => waits t 5 0)) ∧
  (k.getF F.RST_CMD_HT ≤ k.now → k.resetCovers 5 0 = false → Completes (.resetRack p .i3c 0 true t₀) s (fun t => begun t 5 0 ∧
    (t.pkg p).getF F.HTM_LATE_ACTION = 1)) ∧
  Completes (.resetRack p .i3c 0 false t₀) s refused ∧
  (∀ c ht, k.resetsAt = [(1, c, ht)] → ht ≤ k.now → k.resetCovers 1 c = false →
    Completes (.resetAtTime p t₀) s (fun t => begun t 1 c ∧ (t.pkg p).resetsAt = [])) ∧
  (∀ d : Drain, k.drains = [d] → d.scope = 1 → d.target < 64 → d.cause ≠ 0 → k.drained d = true →
    Completes (.drainComplete p 1 d.target t₀) s (fun t => (t.pkg p).drains = [] ∧ d.target ∈ (t.pkg p).coreDown ∧
      (t.pkg p).getF (F.CORE_STATE d.target) = 4 ∧ (t.pkg p).getF F.RST_CAUSE = d.cause % 256 ∧ (t.pkg p).core d.target = {})) ∧
  (∀ d : Drain, k.drains = [d] → d.scope = 3 → d.target < 4 → d.cause ≠ 0 → k.drained d = true →
    Completes (.drainComplete p 3 d.target t₀) s (fun t => (t.pkg p).drains = [] ∧ bit ((t.pkg p).getF F.RST_SLOT_ABSORB) d.target = true ∧
      bit ((t.pkg p).getF F.RST_SLOT_DRAIN) d.target = false ∧ (d.target, k.now + 8000000) ∈ (t.pkg p).releases ∧
      (∀ w ∈ (t.pkg p).windows, w.slot ≠ d.target) ∧ (∀ i, i < 4096 → (t.pkg p).sem d.target i = 0))) ∧
  (∀ d : Drain, k.drains = [d] → d.scope = 4 → d.cause ≠ 0 → k.drained d = true →
    Completes (.drainComplete p 4 d.target t₀) s (fun t => (t.pkg p).drains = [] ∧ (t.pkg p).hold = some k.now ∧
      (∀ c : CoreId, (t.pkg p).play c = none))) ∧
  (∀ d : Drain, k.drains = [d] → d.scope = 1 → d.target < 64 → d.cause ≠ 0 → d.began + k.getF (F.RST_CFG 0) ≤ k.now →
    Completes (.drainTimeout p 1 d.target t₀) s (fun t => (t.pkg p).drains = [] ∧ d.target ∈ (t.pkg p).coreDown ∧
      (t.pkg p).getF (F.RST_COUNTS 5) = min (2 ^ 64 - 1) (k.getF (F.RST_COUNTS 5) + 1)))

/-- R681, R723–R725, R733, R736, R738, R740–R747, R750, R805: resets from other sources: the pin, auxiliary power, a brown-out, the
watchdog, critical state; and the order out of reset. -/
def Obligations.ResetsFromSources : Prop :=
  ∀ (s : State) (p : PkgId) (t₀ : Nat),
  let k := (s.pkg p).at t₀
  (k.linkHold = none → k.bring.released.isSome = true → k.getF (F.PWR_RL_STATE 1) = 2 → k.getF (F.PWR_RL_STATE 2) = 2 →
    Completes (.pinReset p t₀) s (fun t => (t.pkg p).pinLow = true ∧ (t.pkg p).linkHold = some k.now ∧ (t.pkg p).hold = none ∧
      (t.pkg p).drains = [] ∧ (t.pkg p).getF F.RST_CAUSE = 3 ∧ (t.pkg p).getF F.RST_SCOPE = 4)) ∧
  (∀ b, k.linkHold = some b → b + 2000 ≤ k.now → k.pinLow = true →
    Completes (.linkResetHoldEnd p t₀) s (fun t => (t.pkg p).linkHold = none ∧ (t.pkg p).bring.released = none ∧ (t.pkg p).hbm = [] ∧
      (t.pkg p).pinLow = true ∧ ∀ c : CoreId, (t.pkg p).core c = {})) ∧
  (∀ b, k.linkHold = some b → b + 2000 ≤ k.now → k.pinLow = false →
    Completes (.linkResetHoldEnd p t₀) s (fun t => (t.pkg p).linkHold = none ∧ (t.pkg p).bring.released = some k.now ∧ (t.pkg p).bring.step = 1)) ∧
  (∀ b, k.hold = some b → b + 200000 ≤ k.now →
    Completes (.absorbHoldEnd p t₀) s (fun t => (t.pkg p).hold = none ∧ (t.pkg p).bring.released = some k.now ∧ (t.pkg p).bring.step = 1 ∧
      (t.pkg p).getF F.GLB_BU_COLD = 0 ∧ (t.pkg p).windows = [] ∧ (t.pkg p).host.calls = [])) ∧
  (k.pinLow = true → k.linkHold = none → k.bring.released = none → k.rails.mode = .on →
    Completes (.pkgResetRelease p t₀) s (fun t => (t.pkg p).pinLow = false ∧ (t.pkg p).bring.released = some k.now ∧ (t.pkg p).bring.step = 1 ∧
      (t.pkg p).getF F.GLB_BU_PHASE = 1)) ∧
  (∀ v, k.rails.aux = false → k.rails.efuse = true →
    Completes (.auxPowerOn p v t₀) s (fun t => (t.pkg p).straps = { pkg := p, variant := v } ∧ (t.pkg p).rails.aux = true ∧
      (t.pkg p).pinLow = true ∧ (t.pkg p).getF F.RST_CAUSE = 1 ∧ (t.pkg p).flash = k.flash)) ∧
  Completes (.auxPowerLoss p t₀) s (fun t => (t.pkg p).rails.aux = false ∧ (t.pkg p).rails.mode = .off ∧ (t.pkg p).flash = k.flash ∧
    (t.pkg p).getF F.BOOT_FLOOR0 = k.getF F.BOOT_FLOOR0 ∧ (t.tray (trayOf p)).locked = true) ∧
  (∀ rail : Fin 11, rail.val ≠ 0 → k.getF (F.PWR_RL_STATE rail) = 2 →
    Completes (.brownOut p rail t₀) s (fun t => (t.pkg p).rails.fault = true ∧
      (t.pkg p).rails.retryAt = (if (s.tray (trayOf p)).stopped then none else some (k.now + 2000000000)) ∧
      (t.tray (trayOf p)).log = { status := 0x7903, pkg := p, rail := rail, time := t₀ } :: (s.tray (trayOf p)).log)) ∧
  (k.bc.state ≠ 2 → k.resetCovers 4 0 = false →
    Completes (.watchdogExpiry p t₀) s (fun t => (t.pkg p).getF (F.RST_COUNTS 8) = min (2 ^ 64 - 1) (k.getF (F.RST_COUNTS 8) + 1) ∧
      ∃ d ∈ (t.pkg p).drains, d.scope = 4 ∧ d.cause = 6 ∧ d.began = k.now)) ∧
  (∀ loc unit, 1 ≤ loc → loc ≤ 3 → unit < 64 → k.resetCovers 1 unit = false → k.getF F.RS_PARITY = 0 →
    Completes (.criticalError p loc unit t₀) s (fun t => unit ∈ (t.pkg p).coreDown ∧ (t.pkg p).getF (F.CORE_STATE unit) = 1 ∧
      (t.pkg p).getF (F.CORE_BIST_RESULT unit) = 3 ∧ (t.pkg p).getF F.RST_CAUSE = 8 ∧ (t.pkg p).getF F.RST_LOCATION = loc)) ∧
  (∀ unit, unit < 4 → bit (k.getF F.RST_CLUSTER_RESET) unit = false → k.getF F.RS_PARITY = 0 →
    Completes (.criticalError p 0x10 unit t₀) s (fun t => bit ((t.pkg p).getF F.RST_CLUSTER_RESET) unit = true ∧
      (t.pkg p).getF F.RST_CAUSE = 8 ∧ (t.pkg p).getF F.RST_SCOPE = 2 ∧ (t.pkg p).getF F.RST_UNIT = unit)) ∧
  (∀ cl : ClusterId, Completes (.clusterRetrainComplete p cl t₀) s (fun t => bit ((t.pkg p).getF F.RST_CLUSTER_RESET) cl = false ∧
    ∀ c, c < 4 → c ≠ cl.val → bit ((t.pkg p).getF F.RST_CLUSTER_RESET) c = bit (k.getF F.RST_CLUSTER_RESET) c)) ∧
  (∀ (sl : SlotId) (h : Nat), (sl.val, h) ∈ k.releases → h ≤ k.now →
    Completes (.partitionRelease p sl t₀) s (fun t => bit ((t.pkg p).getF F.RST_SLOT_ABSORB) sl = false ∧
      (t.pkg p).releases = k.releases.filter (fun r => r.1 != sl.val))) ∧
  (∀ (sl : SlotId) (ht : Nat) (q : PkgId), (∀ r : PkgId, (s.pkg r).id = r.val) → sl.val ∈ (s.pkg p).ibi → s.mir.exts = [] →
    s.paired = true → s.primary.isSome = true → q ≠ p → (s.pkg q).slotHeld sl = true →
    (s.pkg q).getF (F.LUP_PART_ID sl) = (s.pkg p).getF (F.LUP_PART_ID sl) →
    Completes (.tmcIbi p sl ht t₀) s (fun t => sl.val ∉ (t.pkg p).ibi ∧
      (t.pkg q).resetsAt = (s.pkg q).resetsAt ++ [(3, sl.val, max ht (t₀ + 2000000))] ∧ (t.pkg q).getF F.RST_CMD_STATUS = 0))

/-- R791–R794, R798–R806, R811: shelves and converters fail and return; the rails come up one after another until the package is released,
go down from the last to the first, and the time limits of a rail have their effects. -/
def Obligations.RailsAreSequenced : Prop :=
  ∀ (s : State) (p : PkgId) (t₀ : Nat),
  let k := (s.pkg p).at t₀
  let y := s.tray (trayOf p)
  (∀ sh : Fin 6, s.shelves[sh] = true → Completes (.shelfFailure sh) s (fun t => t.shelves[sh] = false ∧
    (∀ o : Fin 6, o ≠ sh → t.shelves[o] = s.shelves[o]) ∧ ∃ e ∈ t.events, e.name = "ShelfFault" ∧ e.arg = sh ∧ e.id = s.nextEvent)) ∧
  (∀ sh : Fin 6, Completes (.shelfRestored sh) s (fun t => t.shelves[sh] = true ∧ ∀ n, n < 24 → (t.tray n).stopped = false)) ∧
  (∀ rail : Fin 11, Completes (.busOutOfRange rail t₀) s (fun t => (∀ n, n < 24 → (t.tray n).stopped = true) ∧
    (rail.val ≠ 0 → k.getF (F.PWR_RL_STATE rail) = 2 → (t.pkg p).rails.fault = true ∧ (t.pkg p).rails.retryAt = none))) ∧
  (∀ tray : TrayId, (s.tray tray).converters ≠ 0 → tray.val = trayOf p →
    Completes (.converterFailure tray t₀) s (fun t => (t.tray tray).converters = (s.tray tray).converters - 1 ∧ 0 ∈ (t.tray tray).limits ∧
      (t.pkg p).getF F.PWR_TRAY_W = (s.pkg p).getF F.PWR_CFG_SAFE)) ∧
  (∀ (rail : Fin 11) (mv amps : Nat), k.rails.mode = .up → (∃ w ∈ k.rails.wait, w.1 = rail.val) → rail.val < 6 →
    Completes (.railInRegulation p rail mv amps t₀) s (fun t => (t.pkg p).getF (F.PWR_RL_STATE rail) = 2 ∧
      (t.pkg p).getF (F.PWR_RL_STATE (rail + 1)) = 1 ∧ (t.pkg p).getF (F.PWR_RL_MV rail) = mv % 2 ^ 16 ∧ (t.pkg p).rails.mode = .up)) ∧
  (∀ (rail : Fin 11) (mv amps w : Nat), k.rails.mode = .up → k.rails.wait = [(rail.val, w)] → 7 ≤ rail.val →
    Completes (.railInRegulation p rail mv amps t₀) s (fun t => (t.pkg p).getF (F.PWR_RL_STATE rail) = 2 ∧ (t.pkg p).rails.mode = .on ∧
      (t.pkg p).pinLow = false ∧ (t.pkg p).bring.released = some k.now ∧ (t.pkg p).getF F.GLB_BU_COLD = 1)) ∧
  (∀ (rail : Fin 11) (w : Nat), k.rails.mode = .up → (rail.val, w) ∈ k.rails.wait → w + 20000000 ≤ k.now →
    let fails := k.now :: k.rails.fails.filter (fun x => decide (k.now < x + 7200000000000))
    Completes (.railUpTimeout p rail t₀) s (fun t => (t.pkg p).rails.fails = fails ∧ (t.pkg p).rails.held = decide (3 ≤ fails.length) ∧
      (t.pkg p).rails.retryAt = (if 3 ≤ fails.length then none else some (k.now + 20000000000)) ∧
      (t.tray (trayOf p)).log = { status := 0x7902, pkg := p, rail := rail, time := t₀ } :: y.log)) ∧
  (∀ w, k.rails.retryAt = some w → w ≤ k.now → k.rails.mode = .off → k.rails.held = false → k.rails.aux = true → k.rails.efuse = true →
    y.mayPower = true → y.stopped = false →
    Completes (.powerUpRetry p t₀) s (fun t => (t.pkg p).rails.mode = .up ∧ (t.pkg p).getF (F.PWR_RL_STATE 1) = 1 ∧
      (t.pkg p).pinLow = true ∧ (t.pkg p).rails.wait = [(1, k.now)])) ∧
  (∀ rail : Fin 11, (∃ w ∈ k.rails.late, w.1 = rail.val) → rail.val ≠ 1 → y.safing = false →
    Completes (.railOff p rail t₀) s (fun t => (t.pkg p).getF (F.PWR_RL_STATE rail) = 0 ∧ (t.pkg p).getF (F.PWR_RL_MV rail) = 0 ∧
      ∀ w ∈ (t.pkg p).rails.late, w.1 ≠ rail.val)) ∧
  (∀ w, k.rails.late = [(1, w)] → k.rails.step = 1 → y.safing = false →
    Completes (.railOff p 1 t₀) s (fun t => (t.pkg p).getF (F.PWR_RL_STATE 1) = 0 ∧ (t.pkg p).rails.mode = .off ∧ (t.pkg p).pinLow = true)) ∧
  (∀ n, k.rails.mode = .down → k.rails.step = n + 2 → k.rails.tripped = false → k.rails.stepAt + 10000000 ≤ k.now →
    k.getF (F.PWR_RL_STATE (n + 1)) ≠ 0 → n < 9 →
    Completes (.railDownStepTimeout p t₀) s (fun t => (t.pkg p).rails.step = n + 1 ∧ (t.pkg p).rails.stepAt = k.now ∧
      (n + 1, k.now) ∈ (t.pkg p).rails.late)) ∧
  (∀ (rail : Fin 11) (w : Nat), (rail.val, w) ∈ k.rails.late → w + 100000000 ≤ k.now → y.safing = false →
    let again := k.rails.stuck.any (fun x => decide (k.now < x + 172800000000000))
    Completes (.railStuckTimeout p rail t₀) s (fun t => (t.pkg p).rails.efuse = false ∧ (t.pkg p).rails.aux = false ∧
      (t.pkg p).rails.held = again ∧ (t.pkg p).rails.closeAt = (if again then none else some (k.now + 20000000000)) ∧
      (t.pkg p).rails.stuck = k.now :: k.rails.stuck)) ∧
  (∀ (v : Fin 4) (w : Nat), k.rails.closeAt = some w → w ≤ k.now → k.rails.efuse = false → y.mayPower = true →
    Completes (.efuseReclose p v t₀) s (fun t => (t.pkg p).rails.efuse = true ∧ (t.pkg p).rails.closeAt = none ∧ (t.pkg p).rails.aux = true ∧
      (t.pkg p).rails.mode = .up ∧ (t.pkg p).getF F.RST_CAUSE = 1))

/-- R807–R817, R821, R822, R828, R830: samples, boost steps, droops and phase counts, and the energy counters. -/
def Obligations.PowerIsControlled : Prop :=
  ∀ (s : State) (p : PkgId) (t₀ : Nat),
  let k := (s.pkg p).at t₀
  (∀ mw mv, Completes (.powerSample p mw mv t₀) s (fun t => (t.pkg p).power.lastP = mw ∧ (t.pkg p).getF F.PWR_IN_MV = mv / 10 % 2 ^ 16 ∧
    (t.pkg p).power.epoch = (k.power.epoch.1 + 1, k.power.epoch.2 + mw))) ∧
  (∀ cl : ClusterId, k.power.droops.length = 4 →
    Completes (.droopCrossing p cl t₀) s (fun t => (t.pkg p).getF (F.PWR_COUNTS 1) = min (2 ^ 64 - 1) (k.getF (F.PWR_COUNTS 1) + 1) ∧
      (t.pkg p).getF F.PWR_EV_DROOP = 1 ∧ 8 ≤ (t.pkg p).getF (F.PWR_CL_GATE cl))) ∧
  (k.getF F.PWR_FIXED = 1 → Completes (.boostChoice p t₀) s (fun t => (t.pkg p).getF F.PWR_STEP = 0 ∧
    ∀ c, c < 64 → (t.pkg p).getF (F.CORE_CLK_MHZ c) = 1500)) ∧
  (k.getF F.PWR_FIXED = 0 → k.getF F.THM_HUB_GATE = 0 → k.power.choice.1 ≠ 0 →
    let power := k.power.choice.2 / k.power.choice.1
    let limit := k.refreshCaps.ceilMw
    (power * 100 ≤ limit * 98 → k.power.highAt + 2000000 ≤ k.now →
      Completes (.boostChoice p t₀) s (fun t => (t.pkg p).getF F.PWR_STEP = min 14 (k.getF F.PWR_STEP + 1))) ∧
    (power * 100 ≤ limit * 98 → k.now < k.power.highAt + 2000000 →
      Completes (.boostChoice p t₀) s (fun t => (t.pkg p).getF F.PWR_STEP = k.getF F.PWR_STEP)) ∧
    (limit * 98 < power * 100 → Completes (.boostChoice p t₀) s (fun t => (t.pkg p).getF F.PWR_STEP ≤ k.getF F.PWR_STEP - 1))) ∧
  Completes (.announcePhaseWake p t₀) s (fun t =>
    (t.pkg p).announces = k.announces.filter (fun a => decide (k.now / 2048 < a.ht / 2048 + a.volleys)) ∧
    ∀ cl, cl < 4 → ({ k with announces := (t.pkg p).announces } : Pkg).phasesAt cl k.now ≤ (t.pkg p).getF (F.PWR_CL_PHASES cl)) ∧
  (∀ ein eout, k.getF F.LUP_SLOTS = 0 → k.power.moved = [0, 0, 0, 0] → k.power.acc = [0, 0, 0, 0, 0, 0] →
    Completes (.energyInterval p ein eout [] [] t₀) s (fun t =>
      (t.pkg p).getF (F.PWR_ENERGY 5) = (k.getF (F.PWR_ENERGY 5) + ein / 1000) % 2 ^ 64 ∧
      (t.pkg p).getF (F.PWR_ENERGY 6) = (k.getF (F.PWR_ENERGY 6) + ein / 1000) % 2 ^ 64 ∧
      (∀ i, i < 5 → (t.pkg p).getF (F.PWR_ENERGY i) = k.getF (F.PWR_ENERGY i)) ∧ (t.pkg p).power.acc = [0, 0, 0, 0, 0, ein % 1000])) ∧
  (∀ (ein a b : Nat), (∀ c, k.clusterSlot c = none) → k.power.moved = [a, b, 0, 0] → 0 < a → b ≤ a →
    k.power.acc = [0, 0, 0, 0, 0, 0] →
    Completes (.energyInterval p ein 1 [] [] t₀) s (fun t =>
      (t.pkg p).power.moved = [0, 0, 0, 0] ∧
      (t.pkg p).getF (F.PWR_ENERGY 1) = (k.getF (F.PWR_ENERGY 1) + ein * b / (a + b) / 1000) % 2 ^ 64 ∧
      (t.pkg p).getF (F.PWR_ENERGY 0) = (k.getF (F.PWR_ENERGY 0) + (ein - ein * b / (a + b)) / 1000) % 2 ^ 64)) ∧
  (s.primary.isSome = true → (s.pkg p).rails.mode = .on → (s.tray (trayOf p)).aux = true →
    Completes (.energyPublish t₀) s (fun t =>
      (p.val, (List.range 5).map (fun i => (s.pkg p).getF (F.PWR_ENERGY i))) ∈ t.lastEnergy))

/-- R835, R836, R839, R843, R844, R848–R857, R859: temperatures are shown and a unit at the hard limit is gated at once; the gates follow
the mean; a trip powers the package down until management; windows move the level; supply readings grow stale; coolant faults act. -/
def Obligations.CoolingActs : Prop :=
  ∀ (s : State) (p : PkgId) (t₀ : Nat),
  let k := (s.pkg p).at t₀
  (∀ (cores : List Nat) (hub : Nat), Completes (.junctionSample p cores hub t₀) s (fun t =>
    (t.pkg p).therm.samples = ((cores, hub) :: k.therm.samples).take 10 ∧ (t.pkg p).getF F.THM_HUB_TJ = hub / 100 % 2 ^ 8 ∧
    (∀ c, c < 64 → k.hardAt ≤ cores.getD c 0 → (t.pkg p).getF (F.THM_CORE_GATE c) = 15) ∧
    (∀ c, c < 64 → cores.getD c 0 < k.hardAt → (t.pkg p).getF (F.THM_CORE_GATE c) = k.getF (F.THM_CORE_GATE c)) ∧
    (k.hardAt ≤ hub → (t.pkg p).getF F.THM_HUB_GATE = 15))) ∧
  (∀ temps : List Nat, Completes (.hbmTemperatureSample p temps t₀) s (fun t =>
    (t.pkg p).therm.stackReads = (List.range 8).map (fun i => temps.getD i 0) ∧
    (∀ i, i < 8 → (t.pkg p).getF (F.HBM_TEMP i) = temps.getD i 0 / 100 % 2 ^ 8) ∧
    (∀ i, i < 8 → k.hardAt ≤ temps.getD i 0 → (t.pkg p).getF F.THM_HUB_GATE = 15))) ∧
  (k.therm.samples ≠ [] → Completes (.thermalGateUpdate p t₀) s (fun t =>
    (∀ c, c < 64 → (t.pkg p).getF (F.THM_CORE_GATE c) =
      stepGate k.throttleAt k.hardAt (k.getF (F.THM_CORE_GATE c)) (meanNat (k.therm.samples.map (fun x => x.1.getD c 0)))) ∧
    ((t.pkg p).getF F.THM_HUB_GATE ≠ 0 → (t.pkg p).getF F.PWR_STEP = 0))) ∧
  (k.rails.mode ≠ .off → Completes (.thermalTrip p t₀) s (fun t => (t.pkg p).rails.tripped = true ∧ (t.pkg p).rails.held = true ∧
    (t.pkg p).rails.retryAt = none ∧ ∃ e ∈ t.events, e.name = "ThermalTrip" ∧ e.arg = p.val ∧ e.id = s.nextEvent)) ∧
  (∀ (tray : TrayId) (temp : Int) (flow : Nat), tray.val = trayOf p → (s.tray tray).aux = true → (s.tray tray).faults = [] →
    Completes (.supplyUpdate tray temp flow t₀) s (fun t => (t.pkg p).getF F.THM_SUP_TEMP = ofSigned 16 temp % 2 ^ 16 ∧
      (t.pkg p).getF F.THM_SUP_FLOW = flow % 2 ^ 11 ∧ (t.pkg p).getF F.THM_SUP_VALID = 1 ∧ (t.pkg p).therm.supplyAt = k.now ∧
      (t.tray tray).supply = temp ∧ (t.tray tray).flow = flow)) ∧
  (k.getF F.THM_SUP_VALID = 1 → k.therm.supplyAt + 2000000000 ≤ k.now →
    Completes (.supplyStale p t₀) s (fun t => (t.pkg p).getF F.THM_SUP_VALID = 0 ∧ ∃ e ∈ t.events, e.name = "SensorLost" ∧ e.arg = k.id)) ∧
  (t₀ % 20000000000 = 0 → k.therm.winBad = true → Completes (.thetaWindow p t₀) s (fun t =>
    (t.pkg p).getF (F.THM_COUNTS 3) = min (2 ^ 64 - 1) (k.getF (F.THM_COUNTS 3) + 1) ∧ (t.pkg p).getF F.THM_LEVEL = k.getF F.THM_LEVEL ∧
    (t.pkg p).therm.winN = 0)) ∧
  (let x := k.therm
   t₀ % 20000000000 = 0 → x.winBad = false → x.winN ≠ 0 → 500000 * x.winN ≤ x.winP → k.getF F.THM_BASELINE ≠ 0 →
    Completes (.thetaWindow p t₀) s (fun t => (t.pkg p).getF (F.THM_COUNTS 2) = min (2 ^ 64 - 1) (k.getF (F.THM_COUNTS 2) + 1) ∧
      (t.pkg p).getF F.THM_THETA_FP32 = (thetaOf x).bits32 % 2 ^ 32 ∧
      (t.pkg p).getF F.THM_LEVEL = k.nextLevel ((excessOf (thetaOf x) (k.getF F.THM_BASELINE) :: x.excess).take 6))) ∧
  (k.getF F.THM_SUP_VALID = 0 ∨ k.getF F.TH_TARGET ≤ k.getF F.THM_HOT_TJ →
    Completes (.thermalRelease p .i3c t₀) s (fun t => (t.pkg p).getF F.THM_REL_STATUS = 0x3A02 ∧
      (t.pkg p).getF F.THM_LEVEL = k.getF F.THM_LEVEL)) ∧
  (k.getF F.THM_SUP_VALID = 1 → k.getF F.THM_HOT_TJ < k.getF F.TH_TARGET → k.getF F.THM_LEVEL = 3 →
    Completes (.thermalRelease p .i3c t₀) s (fun t => (t.pkg p).getF F.THM_REL_STATUS = 0 ∧ (t.pkg p).getF F.THM_LEVEL = 0 ∧
      (t.pkg p).getF F.THM_FOLLOW = 0 ∧ (t.pkg p).therm.excess = [])) ∧
  (k.therm.minN ≠ 0 →
    let ms := (k.therm.minTj / k.therm.minN :: k.therm.minutes).take 61
    Completes (.junctionMinute p t₀) s (fun t => (t.pkg p).therm.minutes = ms ∧ (t.pkg p).therm.minN = 0 ∧
      (ms.length = 61 → (t.pkg p).getF F.THM_CYCLE_RATE = stepSum ms / 60 % 2 ^ 16 ∧
        (800 < stepSum ms / 60 → (t.pkg p).getF F.THM_EV_CYCLING = 1)))) ∧
  (∀ tray : TrayId, tray.val = trayOf p →
    (1 ∉ (s.tray tray).conds → Completes (.coolantFaultCondition tray 1 t₀) s (fun t => 1 ∈ (t.tray tray).conds ∧
      1 ∈ (t.tray tray).limits ∧ (t.pkg p).getF F.PWR_TRAY_W = (s.pkg p).getF F.PWR_CFG_SAFE)) ∧
    (5 ∉ (s.tray tray).conds → Completes (.coolantFaultCondition tray 5 t₀) s (fun t => 5 ∈ (t.tray tray).conds ∧
      (t.pkg p).rails.held = true ∧ (t.pkg p).rails.fault = true)) ∧
    (6 ∉ (s.tray tray).conds → Completes (.coolantFaultCondition tray 6 t₀) s (fun t => t.pressure = true)) ∧
    (4 ∈ (s.tray tray).conds → (s.tray tray).limits = [2] → Completes (.coolantConditionEnd tray 4) s (fun t =>
      4 ∉ (t.tray tray).conds ∧ (t.tray tray).limits = [] ∧ (t.pkg p).getF F.PWR_TRAY_W = 0)) ∧
    (6 ∈ (s.tray tray).conds → Completes (.coolantConditionEnd tray 6) s (fun t => t.pressure = false)))

/-- R862, R866–R881, R897: HEARTBEATs are sent and heard; an umpire asserts its line, and releases it; the TMCs take their primary from the
lines; the standby takes what the primary holds; a TMC without acknowledgement enters solo, and leaves it at one. -/
def Obligations.ThePrimaryIsElected : Prop :=
  ∀ (s : State) (t₀ : Nat),
  let told := fun (t : State) => ∀ n, n < 24 → t.tmcUp n = true → (t.tray n).claimed = (match t.primary with
    | some u => u + 1
    | none => 0)
  (∀ (node : Fin 34) (health : Nat), s.nodeUp node = true →
    let n := ((s.bus.sent.find? (fun x => x.1 == node.val)).map Prod.snd).getD 0
    Completes (.heartbeatSend node health t₀) s (fun t => t.pkgs = s.pkgs ∧ t.trays = s.trays ∧ t.umpires = s.umpires ∧
      (node.val, (n + 1) % 2 ^ 32) ∈ t.bus.sent ∧
      ∃ m, t.bus.last = some m ∧ m.type = 1 ∧ m.node = node.val ∧ m.seq = n ∧ m.ht = s.busTime t₀ ∧ m.flags = s.busFlags node t₀)) ∧
  (∀ (ver : Nat) (node : Fin 34) (seen health : Nat), ver ≠ 1 →
    Completes (.heartbeat ver node seen health t₀) s (fun t => t = { s with bus := { s.bus with drops := s.bus.drops + 1 } })) ∧
  (∀ (node : Fin 34) (seen health : Nat), Completes (.heartbeat 1 node seen health t₀) s (fun t => t.bus.heardAt node = some t₀)) ∧
  (∀ (node : Fin 34) (seen health n u : Nat), n < 24 → bit seen (trayNode n) = true → s.onBus n = true → s.paired = true →
    s.primary = some u → node.val = u + 1 →
    Completes (.heartbeat 1 node seen health t₀) s (fun t => (t.tray n).lastAck = t₀ ∧ (t.tray n).solo = false)) ∧
  (∀ (node : Fin 34) (seen health : Nat), s.paired = true → s.primary ≠ some (node.val - 1) →
    Completes (.heartbeat 1 node seen health t₀) s (fun t => t.trays = s.trays ∧ t.pkgs = s.pkgs)) ∧
  (∀ umpire : Fin 2, Completes (.claim 1 umpire t₀) s (fun t => told t ∧ t.bus.heardAt (umpire.val + 1) = some t₀ ∧ t.umpires = s.umpires)) ∧
  (∀ (umpire : Fin 2) (cause : Nat), Completes (.umpireRelease 1 umpire cause t₀) s (fun t => told t ∧ t.umpires = s.umpires ∧
    ∃ m, t.bus.last = some m ∧ m.type = 3 ∧ m.node = umpire.val + 1 ∧ m.body = [cause])) ∧
  (∀ umpire : Fin 2, (s.ump umpire).line = true → (s.ump (1 - umpire)).line = false →
    Completes (.primaryLineRelease umpire t₀) s (fun t => told t ∧ (t.ump umpire).line = false ∧ (t.ump umpire).released = t₀ ∧
      t.primary = none ∧ t.noPrimary = some t₀)) ∧
  (∀ umpire : Fin 2, (s.ump umpire).line = false → s.paired = true → s.claimValid umpire t₀ = true →
    let other := s.ump (1 - umpire)
    (other.line = false → other.released + 600000000 ≤ t₀ →
      Completes (.primaryAssert umpire t₀) s (fun t => told t ∧ t.primary = some umpire.val ∧ (t.ump umpire).asserted = t₀ ∧
        t.noPrimary = none ∧ ∃ m, t.bus.last = some m ∧ m.type = 2 ∧ m.node = umpire.val + 1)) ∧
    (other.line = true → other.asserted = t₀ →
      Completes (.primaryAssert umpire t₀) s (fun t => told t ∧ t.primary = some 0 ∧ (t.ump 1).line = false ∧ (t.ump 1).released = t₀ ∧
        ∃ m, t.bus.last = some m ∧ m.type = 3 ∧ m.node = 2 ∧ m.body = [2]))) ∧
  (∀ umpire : Fin 2, (s.ump umpire).line = true → s.claimValid umpire t₀ = false →
    Completes (.quorumLoss umpire t₀) s (fun t => told t ∧ (t.ump umpire).line = false ∧ (t.ump umpire).released = t₀ ∧
      ∃ m, t.bus.last = some m ∧ m.type = 3 ∧ m.node = umpire.val + 1 ∧ m.body = [1])) ∧
  (∀ u, s.primary = some u → (s.ump (1 - u)).up = true →
    Completes .mirrorSync s (fun t => (t.ump (1 - u)).mir = (s.ump u).mir ∧ t.ump u = s.ump u ∧ t.pkgs = s.pkgs)) ∧
  (s.paired = true → s.primary = none → s.noPrimaryPosted = false → s.noPrimary.getD 0 + 2000000000 ≤ t₀ →
    Completes (.noPrimaryTimeout t₀) s (fun t => t.noPrimaryPosted = true ∧ t.pkgs = s.pkgs ∧
      t.events = { id := s.nextEvent, name := "NoPrimary", severity := .critical, arg := 0 } :: s.events)) ∧
  (∀ (tray : TrayId), s.tmcUp tray = true → (s.tray tray).solo = false →
    (s.tray tray).lastAck + s.mgmt.solo * 2000000000 ≤ t₀ → (s.tray tray).started + s.mgmt.solo * 2000000000 ≤ t₀ →
    Completes (.soloEntry tray t₀) s (fun t => (t.tray tray).solo = true ∧ 3 ∈ (t.tray tray).limits ∧
      (∀ p : PkgId, trayOf p = tray.val → (t.pkg p).getF F.PWR_TRAY_W = (s.pkg p).getF F.PWR_CFG_SAFE ∧
        ((s.pkg p).hubOn = true → (t.pkg p).getF F.GLB_MG_SOLO = 1)) ∧
      ∃ e ∈ t.events, e.name = "TraySolo" ∧ e.arg = tray.val ∧ e.id = s.nextEvent))

/-- R785, R799, R801, R867, R868, R883, R892: a TMC acts on the primary's messages, and on no other's; a frame of another version is
dropped and counted; the primary takes its safety action at an alert; a tray goes and comes. -/
def Obligations.TraysHearThePrimary : Prop :=
  ∀ (s : State) (node : Fin 34) (tray : TrayId) (t₀ : Nat),
  (s.fromPrimary node tray = true → ∀ p : PkgId, trayOf p = tray.val →
    let k := (s.pkg p).at t₀
    (∀ mask : Fin 16, bit mask (socketOf p) = true →
      ((s.tray tray).mayPower = true → (s.tray tray).held = false → (s.tray tray).input = true → k.rails.aux = true → k.rails.efuse = true →
        k.rails.mode = .off →
        Completes (.powerCmdOn 1 node tray mask t₀) s (fun t => (t.pkg p).rails.mode = .up ∧ (t.pkg p).rails.held = false ∧
          (t.pkg p).rails.tripped = false ∧ (t.pkg p).getF (F.PWR_RL_STATE 1) = 1 ∧ (t.pkg p).pinLow = true)) ∧
      (k.rails.mode = .on → Completes (.powerCmdOff 1 node tray mask t₀) s (fun t => (t.pkg p).rails.mode ≠ .on ∧ (t.pkg p).rails.mode ≠ .up ∧
        (t.pkg p).pinLow = true ∧ (t.pkg p).bring.released = none ∧ (t.pkg p).rails.retryAt = none)) ∧
      Completes (.powerCmdEfuseOpen 1 node tray mask t₀) s (fun t => (t.pkg p).rails.efuse = false ∧ (t.pkg p).rails.aux = false ∧
        (t.pkg p).rails.mode = .off ∧ (t.pkg p).flash = (s.pkg p).flash ∧ (t.pkg p).getF F.BOOT_KEYS = (s.pkg p).getF F.BOOT_KEYS) ∧
      (k.rails.aux = false → Completes (.powerCmdEfuseClose 1 node tray mask t₀) s (fun t => (t.pkg p).rails.efuse = true ∧
        (t.pkg p).rails.aux = true ∧ (t.pkg p).getF F.RST_CAUSE = 1 ∧ (t.tray tray).input = true ∧ (t.tray tray).locked = true))) ∧
    (∀ watts, k.hubOn = true → Completes (.share 1 node tray watts t₀) s (fun t => (t.pkg p).getF F.PWR_SHARE_W = watts % 2 ^ 16)) ∧
    (∀ states : List Nat, k.hubOn = true → Completes (.units 1 node tray states) s (fun t => (t.tray tray).units = states ∧
      (t.pkg p).getF F.GLB_MG_STATE = states.getD k.id 0 % 4)) ∧
    (∀ on, k.hubOn = true → Completes (.maint 1 node tray on) s (fun t => (t.pkg p).getF F.LNK_MAINT_EN = if on then 1 else 0))) ∧
  (s.fromPrimary node tray = false → ∀ (mask : Fin 16) (watts : Nat) (states : List Nat) (on : Bool),
    ∀ c ∈ [Instr.powerCmdOn 1 node tray mask t₀, .powerCmdOff 1 node tray mask t₀, .powerCmdEfuseOpen 1 node tray mask t₀,
      .powerCmdEfuseClose 1 node tray mask t₀, .share 1 node tray watts t₀, .units 1 node tray states, .maint 1 node tray on],
    Completes c s (fun t => t = s)) ∧
  (∀ (ver : Nat) (mask : Fin 16) (watts unit : Nat) (states : List Nat) (on : Bool), ver ≠ 1 →
    ∀ c ∈ [Instr.powerCmdOn ver node tray mask t₀, .powerCmdOff ver node tray mask t₀, .powerCmdEfuseOpen ver node tray mask t₀,
      .powerCmdEfuseClose ver node tray mask t₀, .share ver node tray watts t₀, .units ver node tray states, .maint ver node tray on,
      .powerDone ver unit watts, .alert ver unit on t₀, .presence ver tray on on t₀],
    Completes c s (fun t => t = { s with bus := { s.bus with drops := s.bus.drops + 1 } })) ∧
  (∀ id st, Completes (.powerDone 1 id st) s (fun t => t.bus.done = some (id, st) ∧ (∀ c ∈ t.bus.cmds, c.1 ≠ id) ∧ t.pkgs = s.pkgs)) ∧
  (∀ p : PkgId, (s.pkg p).unsafe_ = true → (s.unit p).state ≠ 3 → s.primary.isSome = true →
    Completes (.alert 1 p false t₀) s (fun t => t.unit p = { state := 3, since := t₀ } ∧ t.pkgs = s.pkgs ∧
      t.events = { id := s.nextEvent, name := "UnitDown", severity := .critical, arg := p } :: s.events)) ∧
  (∀ input, Completes (.presence 1 tray false input t₀) s (fun t => (t.tray tray).present = false ∧ (t.tray tray).aux = false ∧
    (t.tray tray).input = false ∧ ∀ p : PkgId, trayOf p = tray.val → (t.pkg p).rails.aux = false ∧ (t.pkg p).rails.mode = .off)) ∧
  ((s.tray tray).present = false → Completes (.presence 1 tray true true t₀) s (fun t => (t.tray tray).present = true ∧
    (t.tray tray).aux = true ∧ (t.tray tray).input = true ∧ (t.tray tray).converters = 2 ∧ (t.tray tray).held = false ∧
    (t.tray tray).started = t₀ ∧ 0 ∉ (t.tray tray).limits))

/-- R710–R712, R715, R811, R883, R887, R888, R894: the primary's poll, the shares it sends, and other racks' summaries and decisions. -/
def Obligations.ThePrimaryPollsAndShares : Prop :=
  ∀ (s : State) (u t₀ : Nat), s.primary = some u → s.paired = true →
  (∀ output inputs,
    let share := min ((s.lineup.map (fun l => l.power.budget)).getD 0) (s.capacity - (output - inputs)) / 72
    Completes (.shareCompute output inputs t₀) s (fun t => t.mir.share = share ∧
      (∃ m, t.bus.last = some m ∧ m.type = 0x30 ∧ m.node = u + 1 ∧ m.body = [share]) ∧
      ∀ p : PkgId, s.tmcUp (trayOf p) = true → (s.pkg p).hubOn = true → (s.pkg p).lup.active.isSome = true →
        (t.pkg p).getF F.PWR_SHARE_W = share % 2 ^ 16)) ∧
  (∀ answers, Completes (.umpirePoll answers t₀) s (fun t => (t.ump u).polled = true ∧
    ((s.ump u).polled = false → 0 < (s.ump (1 - u)).asserted → ∃ e ∈ t.events, e.name = "UmpireFailover" ∧ e.arg = u) ∧
    ∀ p : PkgId,
      let x := s.unit p
      let safety := (s.pkg p).unsafe_
      let data := s.dataView answers p
      let mgmt := s.mgmtView answers p
      (safety = true → x.state ≠ 3 → t.unit p = { state := 3, since := t₀ }) ∧
      (safety = false → data = false → x.state < 2 → t.unit p = { state := 2, since := t₀ }) ∧
      (safety = false → data = true → mgmt = true → x.state = 0 → t.unit p = x) ∧
      (safety = false → data = true → mgmt = false → x.state = 0 → 0 < s.mgmt.contestDown → t.unit p = { state := 1, since := t₀ }) ∧
      (safety = false → data = true → mgmt = false → x.state = 1 → x.since + s.mgmt.contestDown * 2000000000 ≤ t₀ →
        t.unit p = { state := 2, since := t₀ }) ∧
      (safety = false → data = true → mgmt = true → x.state ≠ 0 → s.mgmt.contestUp ≤ x.agree + 1 → t.unit p = { state := 0, since := t₀ }) ∧
      (safety = false → data = true → mgmt = true → x.state = 3 → x.agree + 1 < s.mgmt.contestUp → t.unit p = { x with agree := x.agree + 1 }) ∧
      (s.lineup.isSome = true → (s.pkg p).hubOn = true → (t.pkg p).getF F.GLB_RACK_CORES = s.logicalTotal % 2 ^ 16 ∧
        (t.pkg p).getF F.GLB_RACK_FLOOR_MET = (if 4000 ≤ s.logicalTotal then 1 else 0)))) ∧
  (∀ (rack part : Nat) (ready : Bool) (cores : Nat) (reach rings : Bool) (excluded : List Nat),
    Completes (.rackSummaryRead rack part ready cores reach rings excluded t₀) s (fun t => t.umpires = s.umpires ∧
      t.summary rack part t₀ = some ⟨rack, part, ready, cores, reach, rings, excluded, t₀⟩)) ∧
  (∀ (part : Nat) (ready : Bool), Completes (.setPartitionReady part ready) s (fun t => (part, ready) ∈ t.decisions ∧
    (∀ d ∈ t.decisions, d.1 = part → d.2 = ready) ∧ t.action = 0 ∧
    ∀ (p : PkgId) (i : Nat), i < 4 → (s.pkg p).slotHeld i = true → (s.pkg p).getF (F.LUP_PART_ID i) = part →
      (t.pkg p).getF (F.GLB_PART_READY i) = if ready then 1 else 0))

/-- R894: a paired rack with no primary refuses every action with MGMT_NO_PRIMARY, 0x4B03: only the answer changes. A revert that the
coordinator begins itself after a failed trial (R936) is no action. -/
def Obligations.ActionsNeedAPrimary : Prop :=
  ∀ (s : State), s.paired = true → s.primary = none →
  ∀ (p : PkgId) (core target ht minutes part t₀ : Nat) (force on : Bool) (scope : Fin 6) (port : PortId) (tray : TrayId)
    (which : Option TrayId) (image : Bytes),
  (∀ c ∈ [Instr.redfishRetire p core force t₀, .redfishThermalRelease p t₀, .redfishReset p scope target on ht t₀,
      .redfishClearFailed p port t₀, .redfishLocate p port t₀, .openMaintenanceWindow which minutes t₀, .closeMaintenanceWindow which t₀,
      .powerPackage p on t₀, .setPartitionReady part on, .rosterSubmit tray image t₀, .confirmRoster tray t₀],
    Completes c s (fun t => t = { s with action := 0x4B03 })) ∧
  ((∀ r, s.roster (s.coord tray) = some r → s.trialFailed r = false) →
    Completes (.revertRoster tray t₀) s (fun t => t = { s with action := 0x4B03 }))

/-- R435, R726, R744, R780, R804, R856, R865, R890: with a primary, or in standalone mode, each action has its effect and its answer. -/
def Obligations.ActionsAreAnswered : Prop :=
  ∀ (s : State) (p : PkgId) (t₀ : Nat),
  let k := (s.pkg p).at t₀
  (s.paired = false ∨ s.primary.isSome = true →
    (∀ (core : Nat) (force : Bool), core < 64 → k.isSpare core = false → k.logicalOf core = none →
      Completes (.redfishRetire p core force t₀) s (fun t => t.action = 0x3005 ∧ (t.pkg p).repair = k.repair)) ∧
    (∀ (core : Nat) (force : Bool), core < 64 → k.repair.substs = [] → k.isSpare core = true →
      Completes (.redfishRetire p core force t₀) s (fun t => t.action = 0 ∧ (t.pkg p).isRetired core = true)) ∧
    (k.getF F.THM_SUP_VALID = 0 ∨ k.getF F.TH_TARGET ≤ k.getF F.THM_HOT_TJ → Completes (.redfishThermalRelease p t₀) s (fun t =>
      t.action = 0x3A02 ∧ (t.pkg p).getF F.THM_LEVEL = k.getF F.THM_LEVEL)) ∧
    (k.getF F.THM_SUP_VALID = 1 → k.getF F.THM_HOT_TJ < k.getF F.TH_TARGET → k.getF F.THM_LEVEL = 3 →
      Completes (.redfishThermalRelease p t₀) s (fun t => t.action = 0 ∧ (t.pkg p).getF F.THM_LEVEL = 0)) ∧
    (∀ ht, k.resetCovers 4 0 = false → Completes (.redfishReset p 4 0 false ht t₀) s (fun t => t.action = 0 ∧
      ∃ d ∈ (t.pkg p).drains, d.scope = 4 ∧ d.cause = 4 ∧ d.began = k.now)) ∧
    (∀ ht core, 64 ≤ core → Completes (.redfishReset p 1 core false ht t₀) s (fun t => t.action = 0x3004 ∧ (t.pkg p).drains = k.drains)) ∧
    (∀ ht, s.paired = true → k.now < ht → ht < 2 ^ 64 → Completes (.redfishReset p 5 0 true ht t₀) s (fun t => t.action = 0 ∧
      (t.pkg p).resetsAt = k.resetsAt ++ [(5, 0, ht)] ∧ (t.pkg p).drains = k.drains)) ∧
    (∀ (target ht : Nat) (at_ : Bool) (scope : Fin 6), scope = 3 ∨ scope = 5 → s.paired = false →
      Completes (.redfishReset p scope target at_ ht t₀) s (fun t => t.action = 0x3B02 ∧ t.pkgs = s.pkgs)) ∧
    (∀ port : PortId, k.getF F.LNK_MAINT_EN = 1 → k.getF (F.LNK_ST port) = 7 →
      Completes (.redfishClearFailed p port t₀) s (fun t => t.action = 0 ∧ (t.pkg p).getF (F.LNK_ST port) = 1)) ∧
    (∀ port : PortId, k.getF F.LNK_MAINT_EN = 0 →
      Completes (.redfishClearFailed p port t₀) s (fun t => (t.pkg p).getF (F.LNK_ST port) = k.getF (F.LNK_ST port) ∧
        (t.pkg p).getF (F.LNK_CLEAR_REFUSED port) = 1 ∧ t.fresh = s.fresh + 1)) ∧
    (∀ port : PortId, Completes (.redfishLocate p port t₀) s (fun t => t.action = 0 ∧ (t.pkg p).getF (F.LNK_LOCATE port) = 1 ∧
      (t.pkg p).links = (s.pkg p).links)) ∧
    (s.primary = none → Completes (.powerPackage p false t₀) s (fun t => t.action = 0 ∧ (t.pkg p).rails.mode ≠ .on ∧
      (t.pkg p).rails.mode ≠ .up ∧ (t.pkg p).rails.retryAt = none))) ∧
  (∀ u, s.primary = some u → ∀ on, Completes (.powerPackage p on t₀) s (fun t => t.pkgs = s.pkgs ∧
    (s.bus.nextCmd, trayOf p) ∈ t.bus.cmds ∧ ∃ m, t.bus.last = some m ∧ m.type = 0x10 ∧ m.node = u + 1)) ∧
  (∀ u minutes, s.primary = some u → s.paired = true → 1 ≤ minutes → minutes ≤ 480 →
    Completes (.openMaintenanceWindow none minutes t₀) s (fun t => t.mir.window = some (t₀ + minutes * 120000000000) ∧ t.action = 0 ∧
      (∀ q : PkgId, (s.pkg q).hubOn = true → (t.pkg q).getF F.LNK_MAINT_EN = 1) ∧
      t.events = { id := s.nextEvent, name := "MaintenanceWindowOpened", severity := .ok, arg := 0 } :: s.events)) ∧
  (∀ (minutes : Nat) (tray : TrayId), s.paired = false → 1 ≤ minutes → minutes ≤ 480 →
    Completes (.openMaintenanceWindow (some tray) minutes t₀) s (fun t => (t.tray tray).window = some (t₀ + minutes * 120000000000) ∧
      t.action = 0 ∧ ∀ q : PkgId, trayOf q = tray.val → (s.pkg q).hubOn = true → (t.pkg q).getF F.LNK_MAINT_EN = 1)) ∧
  (∀ u e, s.primary = some u → s.paired = true → s.mir.window = some e →
    Completes (.closeMaintenanceWindow none t₀) s (fun t => t.mir.window = none ∧ t.action = 0 ∧
      (∀ q : PkgId, (s.pkg q).hubOn = true → (t.pkg q).getF F.LNK_MAINT_EN = 0) ∧
      t.events = { id := s.nextEvent, name := "MaintenanceWindowClosed", severity := .ok, arg := 0 } :: s.events)) ∧
  (∀ u e, s.primary = some u → s.mir.window = some e → e ≤ t₀ →
    Completes (.maintWindowExpire t₀) s (fun t => t.mir.window = none ∧
      ∀ q : PkgId, (s.pkg q).hubOn = true → (t.pkg q).getF F.LNK_MAINT_EN = 0)) ∧
  (∀ (tray : TrayId) (e : Nat), (s.tray tray).window = some e → e ≤ t₀ → Completes (.maintWindowExpire t₀) s (fun t =>
    (t.tray tray).window = none))

/-- R891, R892, R951: a fault at a connector is kept and told, and has the effects of Table 20-8, until a management action re-enables it;
the service button makes a tray safe, or is refused by the lamp. -/
def Obligations.TraysAreServiced : Prop :=
  ∀ (s : State) (tray : TrayId) (t₀ : Nat),
  (∀ code kind, 1 ≤ code → code ≤ 9 → (∀ f ∈ (s.tray tray).faults, f.1 ≠ code) → kind ≠ 2 →
    Completes (.connectorFault tray code kind t₀) s (fun t => (t.tray tray).faults = (s.tray tray).faults ++ [(code, none)] ∧
      (∃ e ∈ t.events, e.name = "ConnectorFault" ∧ e.arg = tray.val * 16 + code) ∧
      (code = 1 → (t.tray tray).input = false ∧ ∀ p : PkgId, trayOf p = tray.val → (t.pkg p).rails.aux = false) ∧
      (code = 2 → (t.tray tray).aux = false ∧ (t.tray tray).lamp = .off) ∧
      (code = 5 → ∀ p : PkgId, trayOf p = tray.val → (s.pkg p).hubOn = true → (t.pkg p).getF F.THM_SUP_VALID = 0))) ∧
  (∀ code cleared, (∃ f ∈ (s.tray tray).faults, f.1 = code) → cleared + 20000000000 ≤ t₀ →
    Completes (.connectorReenable tray code cleared t₀) s (fun t => (∀ f ∈ (t.tray tray).faults, f.1 ≠ code) ∧ t.pkgs = s.pkgs ∧
      (code = 1 → (t.tray tray).input = true) ∧ (code = 2 → (t.tray tray).aux = true ∧ (t.tray tray).started = t₀))) ∧
  (∀ code cleared, t₀ < cleared + 20000000000 → Completes (.connectorReenable tray code cleared t₀) s (fun t => t = s)) ∧
  (s.tmcUp tray = true → (if s.paired then s.mir.window else (s.tray tray).window) = none →
    (∃ p : PkgId, trayOf (s.pkg p).id = tray.val ∧ (s.pkg p).rails.mode ≠ .off) →
    Completes (.serviceButton tray t₀) s (fun t => (t.tray tray).lamp = .amberThrice ∧ t.pkgs = s.pkgs)) ∧
  (s.tmcUp tray = true → (∀ p : PkgId, trayOf (s.pkg p).id = tray.val → (s.pkg p).rails.mode = .off) →
    Completes (.serviceButton tray t₀) s (fun t => (t.tray tray).lamp = .blue ∧ (t.tray tray).input = false ∧ (t.tray tray).locked = false ∧
      ∀ p : PkgId, trayOf p = tray.val → (s.pkg p).rails.mode = .off → (t.pkg p).rails.aux = false))

/-- R903, R917, R920–R925, R927, R933, R934: a roster is refused with its first failing check or accepted; staging writes, reads and erases
flash; a package votes; a roster whose votes are all YES is committed, and one with a NO, a missing vote or no commit record is aborted. -/
def Obligations.RostersAreStaged : Prop :=
  ∀ (s : State) (p : PkgId) (tray : TrayId) (t₀ : Nat),
  let k := (s.pkg p).at t₀
  let c := s.coord tray
  let byte := fun (k : Pkg) (x : Nat) => Sparse.get erased k.flash x
  let slot := 1 - k.runningSlot
  let inSlot := fun x => settingsBase slot ≤ x ∧ x < settingsBase slot + 0x200000 ∨
    (flashRegion 1 slot).1 ≤ x ∧ x < (flashRegion 1 slot).1 + 0x1B00000
  (s.paired = false ∨ s.primary.isSome = true → ∀ image : Bytes,
    ((s.roster c).any Roster.open_ = true → Completes (.rosterSubmit tray image t₀) s (fun t => t.action = 0x4806 ∧ t.rosters = s.rosters)) ∧
    ((s.roster c).any Roster.open_ = false →
      (rosterFormat image = false → Completes (.rosterSubmit tray image t₀) s (fun t => t.action = 0x3803 ∧ t.rosters = s.rosters)) ∧
      (rosterFormat image = true → sha384 ((image.take (128 + 128 * rosterCount image)).drop 128) ≠ (image.drop 32).take 48 →
        Completes (.rosterSubmit tray image t₀) s (fun t => t.action = 0x5802 ∧ t.rosters = s.rosters)) ∧
      Completes (.rosterSubmit tray image t₀) s (fun t => t.pkgs = s.pkgs ∧
        if s.rosterCheck tray image = 0 then t.action = 0 ∧ t.roster c = some
          { image := image, accepted := t₀, targets := s.rosterTargets tray image, votes := [], phase := .staging, status := 0 }
        else t.action = s.rosterCheck tray image ∧ t.rosters = s.rosters))) ∧
  (∀ off,
    let a := off % 0x4000000 / 4096 * 4096
    Completes (.stageWrite p .i3c off t₀) s (fun t => (t.pkg p).getF F.BOOT_STAGE_CODE = 0 ∧
      (∀ i, i < 512 → fieldAt ((t.pkg p).flashRead (a + 8 * i) 8) 0 8 = k.getF (F.BOOT_STAGE_BUF i)) ∧
      ∀ x, x < a ∨ a + 4096 ≤ x → byte (t.pkg p) x = byte k x) ∧
    (k.boot.settings = [] → Completes (.readBack p .i3c off t₀) s (fun t => (t.pkg p).getF F.BOOT_STAGE_CODE = 0 ∧
      (t.pkg p).flash = k.flash ∧ ∀ i, i < 512 → (t.pkg p).getF (F.BOOT_STAGE_BUF i) = fieldAt (k.flashRead (a + 8 * i) 8) 0 8))) ∧
  Completes (.eraseSlot p .i3c t₀) s (fun t => (t.pkg p).getF F.BOOT_STAGE_CODE = 0 ∧ slot ∉ (t.pkg p).boot.settings ∧
    ∀ x, byte (t.pkg p) x = if inSlot x then 0xFF else byte k x) ∧
  (s.rosterOf p = none → Completes (.bootVerify p .i3c t₀) s (fun t => (t.pkg p).getF F.BOOT_VOTE_YES = 0 ∧
    (t.pkg p).getF F.BOOT_VOTE_STATUS = 0x380B)) ∧
  (∀ d r, s.rosterOf p = some (d, r) → r.phase = .staging → rosterCount r.image = 0 →
    Completes (.bootVerify p .i3c t₀) s (fun t =>
      if sigAccepted (k.getF F.BOOT_KEYS) rosterContext (r.image.take 128) (r.image.drop 128) then
        (t.pkg p).getF F.BOOT_VOTE_YES = 1 ∧ (t.pkg p).getF F.BOOT_VOTE_STATUS = 0
      else (t.pkg p).getF F.BOOT_VOTE_YES = 0 ∧ (t.pkg p).getF F.BOOT_VOTE_STATUS = 0x5805 ∧ (t.pkg p).flash = k.flash)) ∧
  (∀ target st d r, s.rosterOf target = some (d, r) → r.phase = .staging → (∀ v ∈ r.votes, v.1 ≠ target) →
    Completes (.voteReceive target false st t₀) s (fun t => t.pkgs = s.pkgs ∧
      (∃ x, t.roster d = some x ∧ x.phase = .aborted ∧ x.status = st ∧ x.targets = r.targets) ∧
      t.events = { id := s.nextEvent, name := "RosterAborted", severity := .warning, arg := st } :: s.events) ∧
    ((∀ q ∈ r.targets, q = target ∨ ∃ v ∈ r.votes, v.1 = q) → Completes (.voteReceive target true st t₀) s (fun t => t.pkgs = s.pkgs ∧
      (∃ x, t.roster d = some x ∧ x.phase = .committed ∧ x.targets = r.targets) ∧
      (∃ x, t.commitOf d = some x ∧ x.id = fieldAt r.image 8 8 ∧ x.targets = r.targets ∧ x.confirmed = false ∧
        t₀ + 60000000000 ≤ x.actHt ∧ fieldAt r.image 24 8 ≤ x.actHt ∧
        ∀ n, n < 34 → 128 + n ∈ r.targets → (s.ctrl n).state ≠ 2 → (t.ctrl n).state = 1 ∧ (t.ctrl n).actHt = x.actHt))) ∧
    ((∃ q ∈ r.targets, q ≠ target ∧ ∀ v ∈ r.votes, v.1 ≠ q) → Completes (.voteReceive target true st t₀) s (fun t =>
      t.roster d = some { r with votes := (target, 0) :: r.votes } ∧ t.pkgs = s.pkgs ∧ t.controllers = s.controllers))) ∧
  (∀ d r, s.rosters = [(d, r)] → r.phase = .staging → r.accepted + 1920000000000 ≤ t₀ → (∃ q ∈ r.targets, ∀ v ∈ r.votes, v.1 ≠ q) →
    Completes (.stagingTimeout t₀) s (fun t => t.roster d = some { r with phase := .aborted, status := 0x6807 } ∧ t.pkgs = s.pkgs)) ∧
  (k.bc.state = 0 → Completes (.bootAbort p .i3c t₀) s (fun t => (∀ x, byte (t.pkg p) x = if inSlot x then 0xFF else byte k x) ∧
    (k.getF F.BOOT_VOTE_YES = 1 → (t.pkg p).getF F.BOOT_VOTE_YES = 0 ∧ (t.pkg p).getF F.BOOT_VOTE_STATUS = 0x1808))) ∧
  (k.bc.state ≠ 0 → Completes (.bootAbort p .i3c t₀) s (fun t => (t.pkg p).flash = k.flash ∧ (t.pkg p).regs = k.regs)) ∧
  (∀ r, s.roster c = some r → s.commitOf c = none → r.phase = .staging →
    Completes (.coordinatorRestart tray t₀) s (fun t => t.roster c = some { r with phase := .aborted, status := 0x1808 } ∧ t.pkgs = s.pkgs)) ∧
  (∀ r x, s.roster c = some r → s.commitOf c = some x → x.confirmed = false → r.phase = .committed → (∃ q ∈ r.targets, s.inTrial q = false) →
    let ht := if t₀ ≤ x.actHt then x.actHt else t₀ + 120000000000
    Completes (.coordinatorRestart tray t₀) s (fun t => t.commitOf c = some { x with actHt := ht } ∧
      ∀ n, n < 34 → 128 + n ∈ r.targets → (s.ctrl n).state ≠ 2 → (t.ctrl n).state = 1 ∧ (t.ctrl n).actHt = ht))

/-- R909, R915, R916, R928–R931, R935–R942: a commit is recorded and activated at its time; a roster in trial is confirmed in its window,
or reverted; a controller that stays silent after a restart fails its trial, or is dead. -/
def Obligations.RostersAreTried : Prop :=
  ∀ (s : State) (p : PkgId) (tray : TrayId) (t₀ : Nat),
  let k := (s.pkg p).at t₀
  let c := s.coord tray
  let byte := fun (k : Pkg) (x : Nat) => Sparse.get erased k.flash x
  let draining := fun (t : State) => ∃ d ∈ (t.pkg p).drains, d.scope = 4 ∧ d.cause = 9 ∧ d.began = k.now
  (k.bc.state < 2 → k.now ≤ k.getF F.BOOT_CMD_HT → Completes (.bootCommit p .i3c t₀) s (fun t => (t.pkg p).getF F.BC_STATE = 1 ∧
    (t.pkg p).getF F.BOOT_WINDOW = k.getF F.BOOT_CMD_HT ∧ (t.pkg p).drains = k.drains ∧
    ∀ r, s.lastRoster p = some r → (t.pkg p).getF F.BOOT_ROSTER = fieldAt r.image 8 8)) ∧
  (k.bc.state < 2 → k.getF F.BOOT_CMD_HT < k.now → s.lastRoster p = none → k.resetCovers 4 0 = false →
    Completes (.bootCommit p .i3c t₀) s (fun t => (t.pkg p).getF F.BC_STATE = 2 ∧ (t.pkg p).getF F.HTM_LATE_ACTION = 1 ∧ draining t)) ∧
  (2 ≤ k.bc.state → Completes (.bootCommit p .i3c t₀) s (fun t => (t.pkg p).flash = k.flash ∧ (t.pkg p).regs = k.regs)) ∧
  (k.bc.state = 1 → k.bc.actHt ≤ k.now → (s.trialTerms p).2 = false → k.resetCovers 4 0 = false →
    Completes (.rosterActivate p t₀) s (fun t => (t.pkg p).getF F.BC_STATE = 2 ∧
      (t.pkg p).getF F.BOOT_WINDOW = (k.bc.actHt + (s.trialTerms p).1) % 2 ^ 64 ∧ draining t)) ∧
  (∀ n, 3 ≤ n → n ≤ 26 → (s.ctrl n).state = 1 → (s.ctrl n).actHt ≤ t₀ →
    Completes (.rosterActivate (128 + n) t₀) s (fun t => (t.ctrl n).state = 2 ∧ (t.ctrl n).restart = some t₀ ∧
      (t.tray (n - 3)).started = t₀ ∧ t.pkgs = s.pkgs)) ∧
  (∀ node : Fin 34, (s.ctrl node).state = 1 → (s.ctrl node).actHt ≤ t₀ →
    (27 ≤ node.val → node.val ≤ 32 → s.shelfTurn t₀ = true →
      Completes (.staggeredActivation node t₀) s (fun t => (t.ctrl node).state = 2 ∧ (t.ctrl node).restart = some t₀ ∧ t.pkgs = s.pkgs)) ∧
    (27 ≤ node.val → node.val ≤ 32 → s.shelfTurn t₀ = false → Completes (.staggeredActivation node t₀) s (fun t => t = s)) ∧
    (∀ u, node.val = u + 1 → u < 2 → s.primary ≠ some u →
      Completes (.staggeredActivation node t₀) s (fun t => (t.ctrl node).state = 2 ∧ (t.ump u).started = t₀ ∧ (t.ump u).polled = false)) ∧
    (∀ u, node.val = u + 1 → s.primary = some u → (s.ctrl (2 - u)).state ≠ 1 → (s.ctrl (2 - u)).restart = none →
      Completes (.staggeredActivation node t₀) s (fun t => (t.ctrl node).state = 2 ∧ (t.ump u).line = false ∧
        ∃ m, t.bus.last = some m ∧ m.type = 3 ∧ m.node = u + 1 ∧ m.body = [3]))) ∧
  (k.bc.state = 2 →
    let new := 1 - k.bc.active
    Completes (.bootConfirm p .i3c t₀) s (fun t => (t.pkg p).getF F.BC_STATE = 0 ∧ (t.pkg p).getF F.BC_ACTIVE = new ∧
      (t.pkg p).getF F.BOOT_IN_TRIAL = 0 ∧ (t.pkg p).getF F.BOOT_ROSTER = 0 ∧
      (t.pkg p).getF F.BOOT_FLOOR0 = max (k.getF F.BOOT_FLOOR0) (fieldAt (k.storedImage 1 new) 6 2) % 2 ^ 8 ∧
      (∀ r, s.lastRoster p = some r → (t.pkg p).getF F.BOOT_KEYS = (k.getF F.BOOT_KEYS ||| fieldAt r.image 20 1)) ∧
      ∀ x, (flashRegion 1 k.bc.active).1 ≤ x → x < (flashRegion 1 k.bc.active).1 + 0x1B00000 → byte (t.pkg p) x = 0xFF)) ∧
  (k.bc.state ≠ 2 → Completes (.bootConfirm p .i3c t₀) s (fun t => (t.pkg p).flash = k.flash ∧ (t.pkg p).regs = k.regs)) ∧
  (k.now ≤ k.getF F.BOOT_CMD_HT → Completes (.bootRevert p .i3c t₀) s (fun t =>
    (t.pkg p).boot.revertAt = some (k.getF F.BOOT_CMD_HT) ∧ (t.pkg p).flash = k.flash ∧ (t.pkg p).regs = k.regs)) ∧
  (k.getF F.BOOT_CMD_HT < k.now → k.bc.state = 2 → k.resetCovers 4 0 = false →
    Completes (.bootRevert p .i3c t₀) s (fun t => (t.pkg p).getF F.BC_STATE = 3 ∧ (t.pkg p).getF F.HTM_LATE_ACTION = 1 ∧ draining t)) ∧
  (∀ w, k.boot.revertAt = some w → w ≤ k.now → k.bc.state = 2 → k.resetCovers 4 0 = false →
    Completes (.revertAtTime p t₀) s (fun t => (t.pkg p).boot.revertAt = none ∧ (t.pkg p).getF F.BC_STATE = 3 ∧ draining t)) ∧
  (∀ n w, n < 34 → (s.ctrl n).revertAt = some w → w ≤ t₀ → (s.ctrl n).state = 2 →
    Completes (.revertAtTime (128 + n) t₀) s (fun t => (t.ctrl n).state = 0 ∧ (t.ctrl n).revertAt = none ∧ (t.ctrl n).restart = some t₀ ∧
      t.pkgs = s.pkgs)) ∧
  (s.paired = false ∨ s.primary.isSome = true →
    (s.roster c = none → Completes (.confirmRoster tray t₀) s (fun t => t.action = 0x380B ∧ t.rosters = s.rosters) ∧
      Completes (.revertRoster tray t₀) s (fun t => t.action = 0x380B ∧ t.rosters = s.rosters)) ∧
    (∀ r, s.roster c = some r → (r.phase = .committed ∨ r.phase = .trial) →
      ((∃ q ∈ r.targets, s.inTrial q = true ∧ s.windowEnd q ≤ t₀) →
        Completes (.confirmRoster tray t₀) s (fun t => t.action = 0x680C ∧ t.rosters = s.rosters)) ∧
      ((∀ q ∈ r.targets, s.inTrial q = true ∧ t₀ < s.windowEnd q) → r.targets.Nodup →
        Completes (.confirmRoster tray t₀) s (fun t => t.action = 0 ∧ t.pkgs = s.pkgs ∧ t.roster c = some { r with phase := .confirmed } ∧
          t.commitOf c = (s.commitOf c).map (fun x => { x with confirmed := true }) ∧
          ∀ n, n < 34 → 128 + n ∈ r.targets → (t.ctrl n).state = 0 ∧ (t.ctrl n).active = 1 - (s.ctrl n).active ∧
            (t.ctrl n).floor = max (s.ctrl n).floor ((s.ctrl n).staged.getD (s.ctrl n).secver))) ∧
      (let st := if s.trialFailed r then 0x580A else 0
       t₀ < 2 ^ 63 → Completes (.revertRoster tray t₀) s (fun t => t.roster c = some { r with phase := .reverted, status := st } ∧
        t.commitOf c = none ∧ (∃ e ∈ t.events, e.name = "RosterReverted" ∧ e.arg = st ∧ e.id = s.nextEvent) ∧
        (p.val ∈ r.targets → t₀ + 60000000000 ≤ (t.pkg p).getF F.BOOT_CMD_HT ∧ (t.pkg p).boot.failed = false) ∧
        ∀ n, n < 34 → 128 + n ∈ r.targets → (s.ctrl n).state = 2 → ∃ w, (t.ctrl n).revertAt = some w ∧ t₀ + 60000000000 ≤ w)))) ∧
  (k.bc.state = 2 → k.bc.windowEnd ≤ t₀ → Completes (.trialWindowEnd p t₀) s (fun t => (t.pkg p).getF F.BC_STATE = 3 ∧
    ∀ d r, s.rosterOf p = some (d, r) → t.roster d = some { r with phase := .reverted } ∧ t.commitOf d = none ∧
      t.events = { id := s.nextEvent, name := "RosterUnconfirmed", severity := .critical, arg := 0 } :: s.events)) ∧
  (∀ (node : Fin 34) (w : Nat), (s.ctrl node).restart = some w →
    (∀ h, s.bus.heardAt node = some h → w ≤ h → Completes (.trialSilenceTimeout node t₀) s (fun t => (t.ctrl node).restart = none ∧
      (t.ctrl node).state = (s.ctrl node).state ∧ t.pkgs = s.pkgs)) ∧
    ((∀ h, s.bus.heardAt node = some h → h < w) → w + 120000000000 ≤ t₀ →
      ((s.ctrl node).state = 2 → Completes (.trialSilenceTimeout node t₀) s (fun t => (t.ctrl node).state = 0 ∧
        (t.ctrl node).restart = some t₀ ∧
        ∀ d r, s.rosterOf (128 + node.val) = some (d, r) → t.roster d = some { r with phase := .reverted, status := 0x580A })) ∧
      ((s.ctrl node).state ≠ 2 → Completes (.trialSilenceTimeout node t₀) s (fun t => (t.ctrl node).dead = true ∧
        (∃ e ∈ t.events, e.name = "UnitDead" ∧ e.arg = 128 + node.val ∧ e.id = s.nextEvent) ∧
        (∀ n, node.val = n + 3 → n < 24 → (t.tray n).held = true ∧ ∀ q : PkgId, trayOf q = n →
          (t.pkg q).rails.held = true) ∧
        (∀ u, node.val = u + 1 → u < 2 → (t.ump u).up = false ∧ (t.ump u).line = false)))))

/-- The model of a block (log entry 19): a step takes the command at the front of the queue and is that command's effect with the
queue's rest; on an empty queue the block idles, which is the model's choice. -/
def Obligations.StepRunsTheFrontCommand : Prop :=
  (∀ (c : Instr) (rest : List Instr) (s : State), step { s with pending := c :: rest } = exec c { s with pending := rest }) ∧
  (∀ s : State, s.pending = [] → step s = .next s)

/-- The queue is the model's own (log entry 19): whatever commands wait, as many steps as there are commands run them all without a fault or a refusal and leave the
queue empty: no command stops the block, and none puts another into the queue. -/
def Obligations.TheQueueIsEmptied : Prop :=
  ∀ s : State, ∃ t : State, Sys2Proof.core.run s.pending.length s = .next t ∧ t.pending = []

/-- R895: the numbers of the events count up by one per event, and every step keeps it so. -/
def Obligations.EventNumbersCountUp : Prop :=
  ∀ s t : State, s.eventsInOrder → step s = .next t → t.eventsInOrder

/-- R12, R895: after reset each register holds the value its table states, the queue is empty, and the events are in order. -/
def Obligations.ResetLeavesTheStatedValues : Prop :=
  State.reset.pending = [] ∧ State.reset.events = [] ∧ State.reset.eventsInOrder ∧
  ∀ p : PkgId,
  let k := State.reset.pkg p
  k.id = p.val ∧ k.windows = [] ∧ k.errCount = 0 ∧ k.getF F.HTM_VALID = 0 ∧
  k.getF F.HTM_RANK = 255 ∧ k.getF F.HTM_PARENT_PORT = 31 ∧ k.getF F.HTM_PARENT_OFFSET = 0x80000000 ∧
  k.getF F.FAB_LIFETIME = 4000000 ∧ k.getF F.FAB_RESEND = 100000 ∧ k.getF F.FAB_W2_KIB = 192 ∧ k.getF F.FAB_W1_KIB = 64 ∧
  k.getF F.PWR_CAP_NOW = 2600 ∧ k.getF F.PWR_CEILING = 2600 ∧
  (∀ c, c < 64 → k.getF (F.CORE_CLK_MHZ c) = 1500) ∧
  (∀ n, n < 20 → k.getF (F.LNK_ST n) = 0 ∧ k.getF (F.LNK_MAPPED_OUT n) = 1) ∧
  (∀ cl, cl < 4 → k.getF (F.PWR_CL_SET_MV cl) = 600 ∧ k.getF (F.PWR_CL_PHASES cl) = 2)

/-- Section 1 of the machine: a command of one package acts there alone; no other package, tray, umpire, controller, roster or record of the
rack differs after it, and events are only added. -/
def Obligations.LocalCommandsStayLocal : Prop :=
  ∀ (c : Instr) (p : PkgId) (s t : State), c.site = some p → exec c s = .next t → s.sameBut t p

/-- What families of commands leave as it was: the power and cooling ones, the sequencer's, the engines', the fabric's, the translation's
and the host port's. -/
def Obligations.FamiliesKeepTheRest : Prop :=
  ∀ (s t : State) (p : PkgId) (t₀ : Nat),
  let k := s.pkg p
  let j := t.pkg p
  (∀ (mw mv ein eout : Nat) (cl : ClusterId) (lost busy : List Nat),
    ∀ c ∈ [Instr.powerSample p mw mv t₀, .boostChoice p t₀, .droopCrossing p cl t₀, .energyInterval p ein eout lost busy t₀,
      .thermalGateUpdate p t₀, .supplyStale p t₀, .junctionMinute p t₀, .powerUpRetry p t₀, .railDownStepTimeout p t₀],
    exec c s = .next t → k.keeps j 0x600000 ∧ j.cores = k.cores ∧ j.host = k.host ∧ j.sems = k.sems) ∧
  (∀ (core : CoreId) (q : Fin 3) (stalls : Nat), ∀ c ∈ [Instr.waitHt p core t₀, .fence p core t₀, .semWait p core t₀, .semPost p core t₀,
      .barrier p core t₀, .jump p core t₀, .loop p core t₀, .stop p core t₀, .announce p core t₀, .commandStart p core q stalls t₀,
      .sendTile p core t₀, .laneSlotsGranted p core t₀],
    exec c s = .next t → k.keeps j 0x20000 ∧ j.host = k.host ∧ j.therm = k.therm ∧ ∀ c', (j.core c').ls = (k.core c').ls) ∧
  (∀ (core : CoreId) (conflicts : Nat), ∀ c ∈ [Instr.vec p core conflicts t₀, .trans p core t₀, .route p core t₀,
      .layout p core t₀, .attnBlock p core t₀],
    exec c s = .next t → k.keeps j 0x1000000 ∧ j.host = k.host ∧ j.sems = k.sems ∧ ∀ c', c' ≠ core.val → j.core c' = k.core c') ∧
  (∀ (port : PortId) (pkt : Packet), ∀ c ∈ [Instr.packetForward p port pkt t₀, .openPacketSend p port t₀, .schedToOpen p port t₀],
    exec c s = .next t → k.keeps j 0x180000 ∧ j.cores = k.cores ∧ j.host = k.host ∧ j.sems = k.sems) ∧
  (∀ (src : CsrSource) (root pages : Nat), ∀ c ∈ [Instr.invRange p src root pages, .invRoot p src root, .invAll p src root, .invComplete p],
    exec c s = .next t → k.keeps j 0x400000 ∧ j.cores = k.cores ∧ j.host = k.host ∧ j.sems = k.sems ∧ j.fab = k.fab) ∧
  (∀ (fn : Root) (q : Fin 256) (index num : Nat) (conn : Fin 16) (answer : Option (Nat × Nat)) (kind : StoFrame) (mine ecn : Bool)
      (vlan : Option Nat), ∀ c ∈ [Instr.sqDoorbell p fn q index t₀, .hostCallTimeout p num t₀, .reconnectAttempt p conn answer t₀,
      .storageFrameReceive p kind mine vlan ecn t₀],
    exec c s = .next t → k.keeps j 0x150000 ∧ j.cores = k.cores ∧ j.sems = k.sems)
end

