-- ==== Sys2Proof/Laws/Sparse.lean ====
section
/-! SUPPORT. Laws of the sparse stores: reading after writing, and the canonical form kept by every memory operation. -/

namespace Sys2Proof.Machine

variable {α : Type}

theorem Sparse.get_erase_other (d : Nat → α) (m : List (Nat × α)) {k j : Nat} (h : j ≠ k) :
    Sparse.get d (Sparse.erase m k) j = Sparse.get d m j := by
  induction m with
  | nil => rfl
  | cons e r ih =>
    obtain ⟨a, v⟩ := e
    by_cases ha : a = k
    · subst ha
      simp only [Sparse.erase, List.filter, bne_self_eq_false] at ih ⊢
      rw [Sparse.get, if_neg h]; exact ih
    · have : (a != k) = true := by simpa using ha
      simp only [Sparse.erase, List.filter, this] at ih ⊢
      rw [Sparse.get, Sparse.get, ih]

theorem Sparse.get_of_all_ne (d : Nat → α) (m : List (Nat × α)) (k : Nat) (h : ∀ e ∈ m, e.1 ≠ k) :
    Sparse.get d m k = d k := by
  induction m with
  | nil => rfl
  | cons e r ih =>
    obtain ⟨a, v⟩ := e
    have : k ≠ a := fun hk => h (a, v) (by simp) hk.symm
    rw [Sparse.get, if_neg this]
    exact ih (fun x hx => h x (List.mem_cons_of_mem _ hx))

theorem Sparse.get_erase_same (d : Nat → α) (m : List (Nat × α)) (k : Nat) :
    Sparse.get d (Sparse.erase m k) k = d k := by
  apply Sparse.get_of_all_ne
  intro e he
  simpa [Sparse.erase] using (List.mem_filter.mp he).2

theorem Sparse.get_insert_same (d : Nat → α) (m : List (Nat × α)) (k : Nat) (v : α) (h : ∀ e ∈ m, e.1 ≠ k) :
    Sparse.get d (Sparse.insert k v m) k = v := by
  induction m with
  | nil => simp [Sparse.insert, Sparse.get]
  | cons e r ih =>
    obtain ⟨a, w⟩ := e
    have hne : k ≠ a := fun hk => h (a, w) (by simp) hk.symm
    simp only [Sparse.insert]
    split
    · simp [Sparse.get]
    · rw [Sparse.get, if_neg hne]
      exact ih (fun x hx => h x (List.mem_cons_of_mem _ hx))

theorem Sparse.get_insert_other (d : Nat → α) (m : List (Nat × α)) {k j : Nat} (v : α) (h : j ≠ k) :
    Sparse.get d (Sparse.insert k v m) j = Sparse.get d m j := by
  induction m with
  | nil => simp [Sparse.insert, Sparse.get, h]
  | cons e r ih =>
    obtain ⟨a, w⟩ := e
    simp only [Sparse.insert]
    split
    · rw [Sparse.get, if_neg h]
    · rw [Sparse.get, Sparse.get, ih]

theorem Sparse.erase_ne (m : List (Nat × α)) (k : Nat) : ∀ e ∈ Sparse.erase m k, e.1 ≠ k := by
  intro e he
  simpa [Sparse.erase] using (List.mem_filter.mp he).2

/-- A store reads back at its key. -/
@[simp] theorem Sparse.get_set_same [DecidableEq α] (d : Nat → α) (m : List (Nat × α)) (k : Nat) (v : α) :
    Sparse.get d (Sparse.set d m k v) k = v := by
  unfold Sparse.set
  split
  · rename_i h; rw [Sparse.get_erase_same, h]
  · exact Sparse.get_insert_same d _ k v (Sparse.erase_ne m k)

/-- A store leaves every other key alone. -/
theorem Sparse.get_set_other [DecidableEq α] (d : Nat → α) (m : List (Nat × α)) {k j : Nat} (v : α) (h : j ≠ k) :
    Sparse.get d (Sparse.set d m k v) j = Sparse.get d m j := by
  unfold Sparse.set
  split
  · exact Sparse.get_erase_other d m h
  · rw [Sparse.get_insert_other d _ v h, Sparse.get_erase_other d m h]

theorem Sparse.insert_sorted (k : Nat) (v : α) (m : List (Nat × α)) (hs : m.Pairwise (fun a b => a.1 < b.1))
    (hn : ∀ e ∈ m, e.1 ≠ k) : (Sparse.insert k v m).Pairwise (fun a b => a.1 < b.1) ∧
      ∀ e ∈ Sparse.insert k v m, e = (k, v) ∨ e ∈ m := by
  induction m with
  | nil => simp [Sparse.insert]
  | cons e r ih =>
    obtain ⟨a, w⟩ := e
    have hr := List.pairwise_cons.mp hs
    obtain ⟨i1, i2⟩ := ih hr.2 (fun x hx => hn x (List.mem_cons_of_mem _ hx))
    have hne : a ≠ k := hn (a, w) (by simp)
    simp only [Sparse.insert]
    split
    · rename_i hlt
      refine ⟨List.pairwise_cons.mpr ⟨?_, hs⟩, by simp⟩
      intro x hx
      rcases List.mem_cons.mp hx with rfl | hx
      · exact hlt
      · exact lt_trans hlt (hr.1 x hx)
    · rename_i hlt
      refine ⟨List.pairwise_cons.mpr ⟨?_, i1⟩, ?_⟩
      · intro x hx
        rcases i2 x hx with rfl | hx
        · simp only; omega
        · exact hr.1 x hx
      · intro x hx
        rcases List.mem_cons.mp hx with rfl | hx
        · exact .inr (by simp)
        · rcases i2 x hx with h | h
          · exact .inl h
          · exact .inr (List.mem_cons_of_mem _ h)

theorem Sparse.wf_iff [DecidableEq α] (d : Nat → α) (m : List (Nat × α)) :
    Sparse.wf d m = true ↔ m.Pairwise (fun a b => a.1 < b.1) ∧ ∀ e ∈ m, e.2 ≠ d e.1 := by
  simp [Sparse.wf]

/-- Filtering keeps the canonical form. -/
theorem Sparse.wf_filter [DecidableEq α] (d : Nat → α) (m : List (Nat × α)) (p : Nat × α → Bool)
    (h : Sparse.wf d m = true) : Sparse.wf d (m.filter p) = true := by
  rw [Sparse.wf_iff] at h ⊢
  exact ⟨h.1.filter p, fun e he => h.2 e (List.mem_filter.mp he).1⟩

/-- A store keeps the canonical form. -/
theorem Sparse.wf_set [DecidableEq α] (d : Nat → α) (m : List (Nat × α)) (k : Nat) (v : α)
    (h : Sparse.wf d m = true) : Sparse.wf d (Sparse.set d m k v) = true := by
  have he := Sparse.wf_filter d m (fun e => e.1 != k) h
  unfold Sparse.set
  split
  · exact he
  · rename_i hv
    rw [Sparse.wf_iff] at he ⊢
    obtain ⟨i1, i2⟩ := Sparse.insert_sorted k v (Sparse.erase m k) he.1 (Sparse.erase_ne m k)
    refine ⟨i1, fun e hm => ?_⟩
    rcases i2 e hm with rfl | hm
    · exact hv
    · exact he.2 e hm

/-- Dropping keys keeps the canonical form. -/
theorem Sparse.wf_keep [DecidableEq α] (d : Nat → α) (m : List (Nat × α)) (p : Nat → Bool)
    (h : Sparse.wf d m = true) : Sparse.wf d (Sparse.keep m p) = true := Sparse.wf_filter d m _ h

/-- What a key reads as once only the keys of `p` are kept. -/
theorem Sparse.get_keep (d : Nat → α) (m : List (Nat × α)) (p : Nat → Bool) (k : Nat) :
    Sparse.get d (Sparse.keep m p) k = if p k then Sparse.get d m k else d k := by
  induction m with
  | nil => simp [Sparse.keep, Sparse.get]
  | cons e r ih =>
    obtain ⟨a, v⟩ := e
    simp only [Sparse.keep, List.filter_cons] at ih ⊢
    by_cases hp : p a
    · simp only [hp, if_true, Sparse.get]
      by_cases hk : k = a
      · subst hk; simp [hp]
      · simp [hk, ih]
    · simp only [hp, Bool.false_eq_true, if_false, Sparse.get]
      by_cases hk : k = a
      · subst hk; simp [hp, ih]
      · simp [hk, ih]

/-! ### Memories -/

@[simp] theorem Memory.read_write_same (m : Memory) (a : Nat) (b : BitVec 8) : (m.write a b).read a = b :=
  Sparse.get_set_same _ _ _ _

theorem Memory.read_write_other (m : Memory) {a x : Nat} (b : BitVec 8) (h : x ≠ a) : (m.write a b).read x = m.read x :=
  Sparse.get_set_other _ _ _ h

/-- Reading a byte after writing a run of bytes. -/
theorem Memory.read_writeBytes (m : Memory) (a : Nat) (bs : List (BitVec 8)) (x : Nat) :
    (m.writeBytes a bs).read x = if a ≤ x ∧ x < a + bs.length then bs.getD (x - a) 0 else m.read x := by
  induction bs generalizing m a with
  | nil =>
    have h : ¬ (a ≤ x ∧ x < a + ([] : List (BitVec 8)).length) := by simp
    rw [if_neg h]; rfl
  | cons b r ih =>
    rw [Memory.writeBytes, ih]
    by_cases hx : x = a
    · subst hx
      have h1 : ¬ (x + 1 ≤ x ∧ x < x + 1 + r.length) := by omega
      have h2 : x ≤ x ∧ x < x + (b :: r).length := by simp
      rw [if_neg h1, if_pos h2, Memory.read_write_same]; simp
    · rw [Memory.read_write_other _ _ hx]
      by_cases hin : a ≤ x ∧ x < a + (b :: r).length
      · have h1 : a + 1 ≤ x ∧ x < a + 1 + r.length := by simp only [List.length_cons] at hin; omega
        rw [if_pos h1, if_pos hin]
        obtain ⟨n, rfl⟩ : ∃ n, x = a + 1 + n := ⟨x - (a + 1), by omega⟩
        have e1 : a + 1 + n - (a + 1) = n := by omega
        have e2 : a + 1 + n - a = n + 1 := by omega
        rw [e1, e2]; simp
      · have h1 : ¬ (a + 1 ≤ x ∧ x < a + 1 + r.length) := by simp only [List.length_cons] at hin; omega
        rw [if_neg h1, if_neg hin]

/-- Bytes outside the written run read as before. -/
theorem Memory.read_writeBytes_outside (m : Memory) {a x : Nat} (bs : List (BitVec 8)) (h : x < a ∨ a + bs.length ≤ x) :
    (m.writeBytes a bs).read x = m.read x := by
  rw [Memory.read_writeBytes, if_neg (by omega)]

/-- Every memory operation keeps the canonical form: one byte. -/
theorem Memory.wf_write (m : Memory) (a : Nat) (b : BitVec 8) (h : m.wf = true) : (m.write a b).wf = true :=
  Sparse.wf_set _ _ _ _ h

/-- Every memory operation keeps the canonical form: a run of bytes. -/
theorem Memory.wf_writeBytes (m : Memory) (a : Nat) (bs : List (BitVec 8)) (h : m.wf = true) :
    (m.writeBytes a bs).wf = true := by
  induction bs generalizing m a with
  | nil => exact h
  | cons b r ih => exact ih _ _ (Memory.wf_write m a b h)

/-- Every memory operation keeps the canonical form: a little-endian value. -/
theorem Memory.wf_writeNat (m : Memory) (a n v : Nat) (h : m.wf = true) : (m.writeNat a n v).wf = true :=
  Memory.wf_writeBytes _ _ _ h

/-- Every memory operation keeps the canonical form: zeroing a range. -/
theorem Memory.wf_zeroRange (m : Memory) (lo n : Nat) (h : m.wf = true) : (m.zeroRange lo n).wf = true :=
  Sparse.wf_keep _ _ _ h

/-- A zeroed range reads zero, and the rest as before. -/
theorem Memory.read_zeroRange (m : Memory) (lo n x : Nat) :
    (m.zeroRange lo n).read x = if x < lo ∨ lo + n ≤ x then m.read x else 0 := by
  simp [Memory.read, Memory.zeroRange, Sparse.get_keep, Memory.unlisted]

/-- The empty memory is canonical. -/
theorem Memory.wf_nil : Memory.wf [] = true := rfl

theorem readBytes_length (m : Memory) (a n : Nat) : (m.readBytes a n).length = n := by
  induction n generalizing a with
  | zero => rfl
  | succ n ih => simp [Memory.readBytes, ih]

end Sys2Proof.Machine
end

