-- ==== Sys2Proof/Laws/Regs.lean ====
section
/-! SUPPORT. Laws of the register store: a field reads back what was written to it, and other fields keep their value. -/

namespace Sys2Proof.Machine

theorem testBit_wordField (w : Word) (lo width i : Nat) :
    (wordField w lo width).testBit i = (decide (i < width) && w.getLsbD (lo + i)) := by
  unfold wordField
  rw [Nat.testBit_mod_two_pow, Nat.testBit_div_two_pow, BitVec.getLsbD, Nat.add_comm]

theorem getLsbD_fieldMask (lo width i : Nat) :
    (fieldMask lo width).getLsbD i = (decide (i < 64) && decide (lo ≤ i) && decide (i < lo + width)) := by
  unfold fieldMask
  rw [BitVec.getLsbD_shiftLeft]
  by_cases h1 : i < 64 <;> by_cases h2 : lo ≤ i
  · have h3 : ¬ i < lo := by omega
    have h4 : i - lo < 64 := by omega
    simp only [h1, h2, h3, decide_true, decide_false, Bool.not_false, Bool.true_and, BitVec.getLsbD_ofNat, h4,
      Nat.testBit_two_pow_sub_one]
    congr 1; simp only [eq_iff_iff]; omega
  · have : i < lo := by omega
    simp [h2, this]
  · simp [h1]
  · simp [h1]

theorem getLsbD_wordSet (w : Word) (lo width v i : Nat) :
    (wordSet w lo width v).getLsbD i =
      if i < 64 ∧ lo ≤ i ∧ i < lo + width then v.testBit (i - lo) else w.getLsbD i := by
  unfold wordSet
  rw [BitVec.getLsbD_or, BitVec.getLsbD_and, BitVec.getLsbD_not, getLsbD_fieldMask, BitVec.getLsbD_shiftLeft]
  by_cases h1 : i < 64
  · by_cases h2 : lo ≤ i
    · have h3 : ¬ i < lo := by omega
      have h4 : i - lo < 64 := by omega
      simp only [h1, h2, h3, h4, decide_true, decide_false, Bool.not_false, Bool.true_and, BitVec.getLsbD_ofNat,
        Nat.testBit_mod_two_pow, true_and]
      by_cases h5 : i < lo + width
      · have : i - lo < width := by omega
        simp [h5, this]
      · have : ¬ i - lo < width := by omega
        simp [h5, this]
    · have h3 : i < lo := by omega
      simp [h1, h2, h3]
  · have : w.getLsbD i = false := BitVec.getLsbD_of_ge _ _ (by omega)
    simp [h1, this]

/-- A field reads back, cut to its width. -/
theorem wordField_wordSet_same (w : Word) (lo width v : Nat) (h : lo + width ≤ 64) :
    wordField (wordSet w lo width v) lo width = v % 2 ^ width := by
  apply Nat.eq_of_testBit_eq
  intro i
  rw [testBit_wordField, getLsbD_wordSet, Nat.testBit_mod_two_pow]
  by_cases hi : i < width
  · have : lo + i < 64 ∧ lo ≤ lo + i ∧ lo + i < lo + width := by omega
    simp [hi, this]
  · simp [hi]

/-- A field apart from the one written keeps its value. -/
theorem wordField_wordSet_other (w : Word) (lo width v lo' width' : Nat) (h : lo + width ≤ lo' ∨ lo' + width' ≤ lo) :
    wordField (wordSet w lo width v) lo' width' = wordField w lo' width' := by
  apply Nat.eq_of_testBit_eq
  intro i
  rw [testBit_wordField, testBit_wordField, getLsbD_wordSet]
  by_cases hi : i < width'
  · have : ¬ (lo' + i < 64 ∧ lo ≤ lo' + i ∧ lo' + i < lo + width) := by omega
    rw [if_neg this]
  · simp [hi]

theorem wordField_lt (w : Word) (lo width : Nat) : wordField w lo width < 2 ^ width := Nat.mod_lt _ (Nat.two_pow_pos _)

@[simp] theorem Pkg.cell_setCell_same (k : Pkg) (o : Nat) (w : Word) : (k.setCell o w).cell o = w :=
  Sparse.get_set_same _ _ _ _

theorem Pkg.cell_setCell_other (k : Pkg) {o o' : Nat} (w : Word) (h : o' ≠ o) : (k.setCell o w).cell o' = k.cell o' :=
  Sparse.get_set_other _ _ _ h

/-- A field lies inside its cell. -/
def Fld.fits (f : Fld) : Bool := decide (f.lo + f.width ≤ 64)

/-- Two fields share no bit. -/
def Fld.apart (f g : Fld) : Bool :=
  decide (f.off ≠ g.off) || decide (f.lo + f.width ≤ g.lo) || decide (g.lo + g.width ≤ f.lo)

/-- A register field reads back what was written to it. -/
theorem Pkg.getF_setF_same (k : Pkg) (f : Fld) (v : Nat) (h : f.fits = true) : (k.setF f v).getF f = v % 2 ^ f.width := by
  unfold Pkg.getF Pkg.setF
  rw [Pkg.cell_setCell_same]
  exact wordField_wordSet_same _ _ _ _ (by simpa [Fld.fits] using h)

/-- A register field keeps its value when another is written. -/
theorem Pkg.getF_setF_apart (k : Pkg) (f g : Fld) (v : Nat) (h : f.apart g = true) : (k.setF f v).getF g = k.getF g := by
  unfold Pkg.getF Pkg.setF
  by_cases ho : g.off = f.off
  · rw [ho, Pkg.cell_setCell_same]
    apply wordField_wordSet_other
    simpa [Fld.apart, ho] using h
  · rw [Pkg.cell_setCell_other _ _ ho]

theorem Pkg.getF_lt (k : Pkg) (f : Fld) : k.getF f < 2 ^ f.width := wordField_lt _ _ _

/-- A field depends on the register store alone. -/
theorem Pkg.getF_congr {k j : Pkg} (h : k.regs = j.regs) (f : Fld) : k.getF f = j.getF f := by
  simp [Pkg.getF, Pkg.cell, h]

/-- Writing a field keeps the register store canonical. -/
theorem Pkg.regs_wf_setF (k : Pkg) (f : Fld) (v : Nat) (h : Sparse.wf cellReset k.regs = true) :
    Sparse.wf cellReset (k.setF f v).regs = true := Sparse.wf_set _ _ _ _ h

end Sys2Proof.Machine
end

