-- ==== Sys2Proof/Laws/State.lean ====
section
/-! SUPPORT. What each update of the rack and of a package leaves alone, one lemma per field, and what it sets. -/

namespace Sys2Proof.Machine

/-! ### Updates of the rack -/

variable (s : State) (p q : PkgId) (k : Pkg) (f : Pkg → Pkg)

@[simp] theorem State.setPkg_trays : (s.setPkg p k).trays = s.trays := rfl
@[simp] theorem State.setPkg_umpires : (s.setPkg p k).umpires = s.umpires := rfl
@[simp] theorem State.setPkg_bus : (s.setPkg p k).bus = s.bus := rfl
@[simp] theorem State.setPkg_shelves : (s.setPkg p k).shelves = s.shelves := rfl
@[simp] theorem State.setPkg_pressure : (s.setPkg p k).pressure = s.pressure := rfl
@[simp] theorem State.setPkg_noPrimary : (s.setPkg p k).noPrimary = s.noPrimary := rfl
@[simp] theorem State.setPkg_noPrimaryPosted : (s.setPkg p k).noPrimaryPosted = s.noPrimaryPosted := rfl
@[simp] theorem State.setPkg_energy : (s.setPkg p k).energy = s.energy := rfl
@[simp] theorem State.setPkg_ballast : (s.setPkg p k).ballast = s.ballast := rfl
@[simp] theorem State.setPkg_lastEnergy : (s.setPkg p k).lastEnergy = s.lastEnergy := rfl
@[simp] theorem State.setPkg_summaries : (s.setPkg p k).summaries = s.summaries := rfl
@[simp] theorem State.setPkg_decisions : (s.setPkg p k).decisions = s.decisions := rfl
@[simp] theorem State.setPkg_seen : (s.setPkg p k).seen = s.seen := rfl
@[simp] theorem State.setPkg_belowFloor : (s.setPkg p k).belowFloor = s.belowFloor := rfl
@[simp] theorem State.setPkg_rosters : (s.setPkg p k).rosters = s.rosters := rfl
@[simp] theorem State.setPkg_commits : (s.setPkg p k).commits = s.commits := rfl
@[simp] theorem State.setPkg_controllers : (s.setPkg p k).controllers = s.controllers := rfl
@[simp] theorem State.setPkg_action : (s.setPkg p k).action = s.action := rfl
@[simp] theorem State.setPkg_card : (s.setPkg p k).card = s.card := rfl
@[simp] theorem State.setPkg_highWater : (s.setPkg p k).highWater = s.highWater := rfl
@[simp] theorem State.setPkg_events : (s.setPkg p k).events = s.events := rfl
@[simp] theorem State.setPkg_nextEvent : (s.setPkg p k).nextEvent = s.nextEvent := rfl
@[simp] theorem State.setPkg_fresh : (s.setPkg p k).fresh = s.fresh := rfl
@[simp] theorem State.setPkg_pending : (s.setPkg p k).pending = s.pending := rfl
@[simp] theorem State.updPkg_trays : (s.updPkg p f).trays = s.trays := rfl
@[simp] theorem State.updPkg_umpires : (s.updPkg p f).umpires = s.umpires := rfl
@[simp] theorem State.updPkg_bus : (s.updPkg p f).bus = s.bus := rfl
@[simp] theorem State.updPkg_shelves : (s.updPkg p f).shelves = s.shelves := rfl
@[simp] theorem State.updPkg_pressure : (s.updPkg p f).pressure = s.pressure := rfl
@[simp] theorem State.updPkg_noPrimary : (s.updPkg p f).noPrimary = s.noPrimary := rfl
@[simp] theorem State.updPkg_noPrimaryPosted : (s.updPkg p f).noPrimaryPosted = s.noPrimaryPosted := rfl
@[simp] theorem State.updPkg_energy : (s.updPkg p f).energy = s.energy := rfl
@[simp] theorem State.updPkg_ballast : (s.updPkg p f).ballast = s.ballast := rfl
@[simp] theorem State.updPkg_lastEnergy : (s.updPkg p f).lastEnergy = s.lastEnergy := rfl
@[simp] theorem State.updPkg_summaries : (s.updPkg p f).summaries = s.summaries := rfl
@[simp] theorem State.updPkg_decisions : (s.updPkg p f).decisions = s.decisions := rfl
@[simp] theorem State.updPkg_seen : (s.updPkg p f).seen = s.seen := rfl
@[simp] theorem State.updPkg_belowFloor : (s.updPkg p f).belowFloor = s.belowFloor := rfl
@[simp] theorem State.updPkg_rosters : (s.updPkg p f).rosters = s.rosters := rfl
@[simp] theorem State.updPkg_commits : (s.updPkg p f).commits = s.commits := rfl
@[simp] theorem State.updPkg_controllers : (s.updPkg p f).controllers = s.controllers := rfl
@[simp] theorem State.updPkg_action : (s.updPkg p f).action = s.action := rfl
@[simp] theorem State.updPkg_card : (s.updPkg p f).card = s.card := rfl
@[simp] theorem State.updPkg_highWater : (s.updPkg p f).highWater = s.highWater := rfl
@[simp] theorem State.updPkg_events : (s.updPkg p f).events = s.events := rfl
@[simp] theorem State.updPkg_nextEvent : (s.updPkg p f).nextEvent = s.nextEvent := rfl
@[simp] theorem State.updPkg_fresh : (s.updPkg p f).fresh = s.fresh := rfl
@[simp] theorem State.updPkg_pending : (s.updPkg p f).pending = s.pending := rfl
@[simp] theorem State.mapPkgs_trays : (s.mapPkgs f).trays = s.trays := rfl
@[simp] theorem State.mapPkgs_umpires : (s.mapPkgs f).umpires = s.umpires := rfl
@[simp] theorem State.mapPkgs_bus : (s.mapPkgs f).bus = s.bus := rfl
@[simp] theorem State.mapPkgs_shelves : (s.mapPkgs f).shelves = s.shelves := rfl
@[simp] theorem State.mapPkgs_pressure : (s.mapPkgs f).pressure = s.pressure := rfl
@[simp] theorem State.mapPkgs_noPrimary : (s.mapPkgs f).noPrimary = s.noPrimary := rfl
@[simp] theorem State.mapPkgs_noPrimaryPosted : (s.mapPkgs f).noPrimaryPosted = s.noPrimaryPosted := rfl
@[simp] theorem State.mapPkgs_energy : (s.mapPkgs f).energy = s.energy := rfl
@[simp] theorem State.mapPkgs_ballast : (s.mapPkgs f).ballast = s.ballast := rfl
@[simp] theorem State.mapPkgs_lastEnergy : (s.mapPkgs f).lastEnergy = s.lastEnergy := rfl
@[simp] theorem State.mapPkgs_summaries : (s.mapPkgs f).summaries = s.summaries := rfl
@[simp] theorem State.mapPkgs_decisions : (s.mapPkgs f).decisions = s.decisions := rfl
@[simp] theorem State.mapPkgs_seen : (s.mapPkgs f).seen = s.seen := rfl
@[simp] theorem State.mapPkgs_belowFloor : (s.mapPkgs f).belowFloor = s.belowFloor := rfl
@[simp] theorem State.mapPkgs_rosters : (s.mapPkgs f).rosters = s.rosters := rfl
@[simp] theorem State.mapPkgs_commits : (s.mapPkgs f).commits = s.commits := rfl
@[simp] theorem State.mapPkgs_controllers : (s.mapPkgs f).controllers = s.controllers := rfl
@[simp] theorem State.mapPkgs_action : (s.mapPkgs f).action = s.action := rfl
@[simp] theorem State.mapPkgs_card : (s.mapPkgs f).card = s.card := rfl
@[simp] theorem State.mapPkgs_highWater : (s.mapPkgs f).highWater = s.highWater := rfl
@[simp] theorem State.mapPkgs_events : (s.mapPkgs f).events = s.events := rfl
@[simp] theorem State.mapPkgs_nextEvent : (s.mapPkgs f).nextEvent = s.nextEvent := rfl
@[simp] theorem State.mapPkgs_fresh : (s.mapPkgs f).fresh = s.fresh := rfl
@[simp] theorem State.mapPkgs_pending : (s.mapPkgs f).pending = s.pending := rfl
@[simp] theorem State.post_pkgs (n : String) (v : Severity) (a : Nat) : (s.post n v a).pkgs = s.pkgs := rfl
@[simp] theorem State.post_trays (n : String) (v : Severity) (a : Nat) : (s.post n v a).trays = s.trays := rfl
@[simp] theorem State.post_umpires (n : String) (v : Severity) (a : Nat) : (s.post n v a).umpires = s.umpires := rfl
@[simp] theorem State.post_bus (n : String) (v : Severity) (a : Nat) : (s.post n v a).bus = s.bus := rfl
@[simp] theorem State.post_shelves (n : String) (v : Severity) (a : Nat) : (s.post n v a).shelves = s.shelves := rfl
@[simp] theorem State.post_pressure (n : String) (v : Severity) (a : Nat) : (s.post n v a).pressure = s.pressure := rfl
@[simp] theorem State.post_noPrimary (n : String) (v : Severity) (a : Nat) : (s.post n v a).noPrimary = s.noPrimary := rfl
@[simp] theorem State.post_noPrimaryPosted (n : String) (v : Severity) (a : Nat) : (s.post n v a).noPrimaryPosted = s.noPrimaryPosted := rfl
@[simp] theorem State.post_energy (n : String) (v : Severity) (a : Nat) : (s.post n v a).energy = s.energy := rfl
@[simp] theorem State.post_ballast (n : String) (v : Severity) (a : Nat) : (s.post n v a).ballast = s.ballast := rfl
@[simp] theorem State.post_lastEnergy (n : String) (v : Severity) (a : Nat) : (s.post n v a).lastEnergy = s.lastEnergy := rfl
@[simp] theorem State.post_summaries (n : String) (v : Severity) (a : Nat) : (s.post n v a).summaries = s.summaries := rfl
@[simp] theorem State.post_decisions (n : String) (v : Severity) (a : Nat) : (s.post n v a).decisions = s.decisions := rfl
@[simp] theorem State.post_seen (n : String) (v : Severity) (a : Nat) : (s.post n v a).seen = s.seen := rfl
@[simp] theorem State.post_belowFloor (n : String) (v : Severity) (a : Nat) : (s.post n v a).belowFloor = s.belowFloor := rfl
@[simp] theorem State.post_rosters (n : String) (v : Severity) (a : Nat) : (s.post n v a).rosters = s.rosters := rfl
@[simp] theorem State.post_commits (n : String) (v : Severity) (a : Nat) : (s.post n v a).commits = s.commits := rfl
@[simp] theorem State.post_controllers (n : String) (v : Severity) (a : Nat) : (s.post n v a).controllers = s.controllers := rfl
@[simp] theorem State.post_action (n : String) (v : Severity) (a : Nat) : (s.post n v a).action = s.action := rfl
@[simp] theorem State.post_card (n : String) (v : Severity) (a : Nat) : (s.post n v a).card = s.card := rfl
@[simp] theorem State.post_highWater (n : String) (v : Severity) (a : Nat) : (s.post n v a).highWater = s.highWater := rfl
@[simp] theorem State.post_fresh (n : String) (v : Severity) (a : Nat) : (s.post n v a).fresh = s.fresh := rfl
@[simp] theorem State.post_pending (n : String) (v : Severity) (a : Nat) : (s.post n v a).pending = s.pending := rfl
@[simp] theorem State.draw_pkgs : (s.draw).pkgs = s.pkgs := rfl
@[simp] theorem State.draw_trays : (s.draw).trays = s.trays := rfl
@[simp] theorem State.draw_umpires : (s.draw).umpires = s.umpires := rfl
@[simp] theorem State.draw_bus : (s.draw).bus = s.bus := rfl
@[simp] theorem State.draw_shelves : (s.draw).shelves = s.shelves := rfl
@[simp] theorem State.draw_pressure : (s.draw).pressure = s.pressure := rfl
@[simp] theorem State.draw_noPrimary : (s.draw).noPrimary = s.noPrimary := rfl
@[simp] theorem State.draw_noPrimaryPosted : (s.draw).noPrimaryPosted = s.noPrimaryPosted := rfl
@[simp] theorem State.draw_energy : (s.draw).energy = s.energy := rfl
@[simp] theorem State.draw_ballast : (s.draw).ballast = s.ballast := rfl
@[simp] theorem State.draw_lastEnergy : (s.draw).lastEnergy = s.lastEnergy := rfl
@[simp] theorem State.draw_summaries : (s.draw).summaries = s.summaries := rfl
@[simp] theorem State.draw_decisions : (s.draw).decisions = s.decisions := rfl
@[simp] theorem State.draw_seen : (s.draw).seen = s.seen := rfl
@[simp] theorem State.draw_belowFloor : (s.draw).belowFloor = s.belowFloor := rfl
@[simp] theorem State.draw_rosters : (s.draw).rosters = s.rosters := rfl
@[simp] theorem State.draw_commits : (s.draw).commits = s.commits := rfl
@[simp] theorem State.draw_controllers : (s.draw).controllers = s.controllers := rfl
@[simp] theorem State.draw_action : (s.draw).action = s.action := rfl
@[simp] theorem State.draw_card : (s.draw).card = s.card := rfl
@[simp] theorem State.draw_highWater : (s.draw).highWater = s.highWater := rfl
@[simp] theorem State.draw_events : (s.draw).events = s.events := rfl
@[simp] theorem State.draw_nextEvent : (s.draw).nextEvent = s.nextEvent := rfl
@[simp] theorem State.draw_pending : (s.draw).pending = s.pending := rfl

@[simp] theorem State.post_nextEvent (n : String) (v : Severity) (a : Nat) : (s.post n v a).nextEvent = s.nextEvent + 1 := rfl
@[simp] theorem State.post_events (n : String) (v : Severity) (a : Nat) :
    (s.post n v a).events = { id := s.nextEvent, name := n, severity := v, arg := a } :: s.events := rfl

@[simp] theorem State.pkg_setPkg_same : (s.setPkg p k).pkg p = k := by
  simp [State.pkg, State.setPkg]

theorem State.pkg_setPkg_other {p q : PkgId} (h : q ≠ p) : (s.setPkg p k).pkg q = s.pkg q := by
  have : p.val ≠ q.val := fun e => h (Fin.ext e.symm)
  simp [State.pkg, State.setPkg, this]

/-- What a changed package is afterwards. -/
@[simp] theorem State.pkg_updPkg_same : (s.updPkg p f).pkg p = f (s.pkg p) := State.pkg_setPkg_same _ _ _

/-- Every other package is untouched. -/
theorem State.pkg_updPkg_other {p q : PkgId} (h : q ≠ p) : (s.updPkg p f).pkg q = s.pkg q :=
  State.pkg_setPkg_other s _ h

@[simp] theorem State.pkg_mapPkgs : (s.mapPkgs f).pkg p = f (s.pkg p) := by
  simp [State.pkg, State.mapPkgs]

@[simp] theorem State.pkg_post (n : String) (v : Severity) (a : Nat) : (s.post n v a).pkg p = s.pkg p := rfl

@[simp] theorem State.pkg_draw : s.draw.pkg p = s.pkg p := rfl

/-- Posting a list of events touches the events alone. -/
theorem State.postAll_frame (l : List (String × Severity × Nat)) :
    ∃ es n, l.foldl (fun s n => s.post n.1 n.2.1 n.2.2) s = { s with events := es, nextEvent := n } := by
  induction l generalizing s with
  | nil => exact ⟨s.events, s.nextEvent, rfl⟩
  | cons x r ih =>
    obtain ⟨es, n, h⟩ := ih (s.post x.1 x.2.1 x.2.2)
    exact ⟨es, n, h⟩

/-- Posting a package's notices empties them and touches nothing else but the events. -/
theorem State.postNotices_frame :
    ∃ es n, s.postNotices p = { s.updPkg p (fun k => { k with notices := [] }) with events := es, nextEvent := n } := by
  unfold State.postNotices
  by_cases h : (s.pkg p).notices = []
  · have hs : s.updPkg p (fun k => { k with notices := [] }) = s := by
      have hk : ({ s.pkg p with notices := [] } : Pkg) = s.pkg p := by rw [← h]
      simp only [State.updPkg, State.setPkg, hk]
      simp [State.pkg]
    simp only [h, List.isEmpty_nil, if_true, hs]
    exact ⟨s.events, s.nextEvent, rfl⟩
  · have : (s.pkg p).notices.isEmpty = false := by simpa using h
    simp only [this, Bool.false_eq_true, if_false]
    exact State.postAll_frame _ _

/-- A change of one package with its notices posted: the package, and nothing else but the events. -/
theorem State.updPost_frame :
    ∃ es n, s.updPost p f = { s.updPkg p (fun k => { f k with notices := [] }) with events := es, nextEvent := n } := by
  unfold State.updPost
  obtain ⟨es, n, h⟩ := State.postNotices_frame (s.updPkg p f) p
  refine ⟨es, n, h.trans ?_⟩
  have : (s.updPkg p f).updPkg p (fun k => { k with notices := [] }) = s.updPkg p (fun k => { f k with notices := [] }) := by
    simp only [State.updPkg, State.pkg_setPkg_same]
    simp [State.setPkg]
  rw [this]

/-- What a changed package is afterwards, its notices posted. -/
@[simp] theorem State.pkg_updPost_same : (s.updPost p f).pkg p = { f (s.pkg p) with notices := [] } := by
  obtain ⟨es, n, h⟩ := State.updPost_frame s p f
  rw [h]
  show (s.updPkg p (fun k => { f k with notices := [] })).pkg p = _
  simp

/-- Every other package is untouched. -/
theorem State.pkg_updPost_other {p q : PkgId} (h : q ≠ p) : (s.updPost p f).pkg q = s.pkg q := by
  obtain ⟨es, n, hf⟩ := State.updPost_frame s p f
  rw [hf]
  show (s.updPkg p (fun k => { f k with notices := [] })).pkg q = _
  exact State.pkg_updPkg_other s _ h

@[simp] theorem State.updPost_trays : (s.updPost p f).trays = s.trays := by
  obtain ⟨es, n, h⟩ := State.updPost_frame s p f; rw [h]; rfl
@[simp] theorem State.updPost_umpires : (s.updPost p f).umpires = s.umpires := by
  obtain ⟨es, n, h⟩ := State.updPost_frame s p f; rw [h]; rfl
@[simp] theorem State.updPost_bus : (s.updPost p f).bus = s.bus := by
  obtain ⟨es, n, h⟩ := State.updPost_frame s p f; rw [h]; rfl
@[simp] theorem State.updPost_shelves : (s.updPost p f).shelves = s.shelves := by
  obtain ⟨es, n, h⟩ := State.updPost_frame s p f; rw [h]; rfl
@[simp] theorem State.updPost_pressure : (s.updPost p f).pressure = s.pressure := by
  obtain ⟨es, n, h⟩ := State.updPost_frame s p f; rw [h]; rfl
@[simp] theorem State.updPost_noPrimary : (s.updPost p f).noPrimary = s.noPrimary := by
  obtain ⟨es, n, h⟩ := State.updPost_frame s p f; rw [h]; rfl
@[simp] theorem State.updPost_noPrimaryPosted : (s.updPost p f).noPrimaryPosted = s.noPrimaryPosted := by
  obtain ⟨es, n, h⟩ := State.updPost_frame s p f; rw [h]; rfl
@[simp] theorem State.updPost_energy : (s.updPost p f).energy = s.energy := by
  obtain ⟨es, n, h⟩ := State.updPost_frame s p f; rw [h]; rfl
@[simp] theorem State.updPost_ballast : (s.updPost p f).ballast = s.ballast := by
  obtain ⟨es, n, h⟩ := State.updPost_frame s p f; rw [h]; rfl
@[simp] theorem State.updPost_lastEnergy : (s.updPost p f).lastEnergy = s.lastEnergy := by
  obtain ⟨es, n, h⟩ := State.updPost_frame s p f; rw [h]; rfl
@[simp] theorem State.updPost_summaries : (s.updPost p f).summaries = s.summaries := by
  obtain ⟨es, n, h⟩ := State.updPost_frame s p f; rw [h]; rfl
@[simp] theorem State.updPost_decisions : (s.updPost p f).decisions = s.decisions := by
  obtain ⟨es, n, h⟩ := State.updPost_frame s p f; rw [h]; rfl
@[simp] theorem State.updPost_seen : (s.updPost p f).seen = s.seen := by
  obtain ⟨es, n, h⟩ := State.updPost_frame s p f; rw [h]; rfl
@[simp] theorem State.updPost_belowFloor : (s.updPost p f).belowFloor = s.belowFloor := by
  obtain ⟨es, n, h⟩ := State.updPost_frame s p f; rw [h]; rfl
@[simp] theorem State.updPost_rosters : (s.updPost p f).rosters = s.rosters := by
  obtain ⟨es, n, h⟩ := State.updPost_frame s p f; rw [h]; rfl
@[simp] theorem State.updPost_commits : (s.updPost p f).commits = s.commits := by
  obtain ⟨es, n, h⟩ := State.updPost_frame s p f; rw [h]; rfl
@[simp] theorem State.updPost_controllers : (s.updPost p f).controllers = s.controllers := by
  obtain ⟨es, n, h⟩ := State.updPost_frame s p f; rw [h]; rfl
@[simp] theorem State.updPost_action : (s.updPost p f).action = s.action := by
  obtain ⟨es, n, h⟩ := State.updPost_frame s p f; rw [h]; rfl
@[simp] theorem State.updPost_card : (s.updPost p f).card = s.card := by
  obtain ⟨es, n, h⟩ := State.updPost_frame s p f; rw [h]; rfl
@[simp] theorem State.updPost_highWater : (s.updPost p f).highWater = s.highWater := by
  obtain ⟨es, n, h⟩ := State.updPost_frame s p f; rw [h]; rfl
@[simp] theorem State.updPost_fresh : (s.updPost p f).fresh = s.fresh := by
  obtain ⟨es, n, h⟩ := State.updPost_frame s p f; rw [h]; rfl
@[simp] theorem State.updPost_pending : (s.updPost p f).pending = s.pending := by
  obtain ⟨es, n, h⟩ := State.updPost_frame s p f; rw [h]; rfl

/-! ### Updates of a package -/

variable (g : Fld) (v : Nat)

@[simp] theorem Pkg.setF_straps : (k.setF g v).straps = k.straps := rfl
@[simp] theorem Pkg.setF_readData : (k.setF g v).readData = k.readData := rfl
@[simp] theorem Pkg.setF_readPoison : (k.setF g v).readPoison = k.readPoison := rfl
@[simp] theorem Pkg.setF_aerPoisoned : (k.setF g v).aerPoisoned = k.aerPoisoned := rfl
@[simp] theorem Pkg.setF_now : (k.setF g v).now = k.now := rfl
@[simp] theorem Pkg.setF_errCount : (k.setF g v).errCount = k.errCount := rfl
@[simp] theorem Pkg.setF_time : (k.setF g v).time = k.time := rfl
@[simp] theorem Pkg.setF_links : (k.setF g v).links = k.links := rfl
@[simp] theorem Pkg.setF_fab : (k.setF g v).fab = k.fab := rfl
@[simp] theorem Pkg.setF_lup : (k.setF g v).lup = k.lup := rfl
@[simp] theorem Pkg.setF_hbm : (k.setF g v).hbm = k.hbm := rfl
@[simp] theorem Pkg.setF_hbmBad : (k.setF g v).hbmBad = k.hbmBad := rfl
@[simp] theorem Pkg.setF_hbmCe : (k.setF g v).hbmCe = k.hbmCe := rfl
@[simp] theorem Pkg.setF_xlt : (k.setF g v).xlt = k.xlt := rfl
@[simp] theorem Pkg.setF_cores : (k.setF g v).cores = k.cores := rfl
@[simp] theorem Pkg.setF_sems : (k.setF g v).sems = k.sems := rfl
@[simp] theorem Pkg.setF_semStatus : (k.setF g v).semStatus = k.semStatus := rfl
@[simp] theorem Pkg.setF_windows : (k.setF g v).windows = k.windows := rfl
@[simp] theorem Pkg.setF_staged : (k.setF g v).staged = k.staged := rfl
@[simp] theorem Pkg.setF_arrivals : (k.setF g v).arrivals = k.arrivals := rfl
@[simp] theorem Pkg.setF_capArrivals : (k.setF g v).capArrivals = k.capArrivals := rfl
@[simp] theorem Pkg.setF_barGen : (k.setF g v).barGen = k.barGen := rfl
@[simp] theorem Pkg.setF_calls : (k.setF g v).calls = k.calls := rfl
@[simp] theorem Pkg.setF_fireOrder : (k.setF g v).fireOrder = k.fireOrder := rfl
@[simp] theorem Pkg.setF_coll : (k.setF g v).coll = k.coll := rfl
@[simp] theorem Pkg.setF_announces : (k.setF g v).announces = k.announces := rfl
@[simp] theorem Pkg.setF_host : (k.setF g v).host = k.host := rfl
@[simp] theorem Pkg.setF_moe : (k.setF g v).moe = k.moe := rfl
@[simp] theorem Pkg.setF_drains : (k.setF g v).drains = k.drains := rfl
@[simp] theorem Pkg.setF_coreDown : (k.setF g v).coreDown = k.coreDown := rfl
@[simp] theorem Pkg.setF_hold : (k.setF g v).hold = k.hold := rfl
@[simp] theorem Pkg.setF_holdLine : (k.setF g v).holdLine = k.holdLine := rfl
@[simp] theorem Pkg.setF_releases : (k.setF g v).releases = k.releases := rfl
@[simp] theorem Pkg.setF_resetsAt : (k.setF g v).resetsAt = k.resetsAt := rfl
@[simp] theorem Pkg.setF_linkHold : (k.setF g v).linkHold = k.linkHold := rfl
@[simp] theorem Pkg.setF_pinLow : (k.setF g v).pinLow = k.pinLow := rfl
@[simp] theorem Pkg.setF_ibi : (k.setF g v).ibi = k.ibi := rfl
@[simp] theorem Pkg.setF_therm : (k.setF g v).therm = k.therm := rfl
@[simp] theorem Pkg.setF_power : (k.setF g v).power = k.power := rfl
@[simp] theorem Pkg.setF_bring : (k.setF g v).bring = k.bring := rfl
@[simp] theorem Pkg.setF_repair : (k.setF g v).repair = k.repair := rfl
@[simp] theorem Pkg.setF_rails : (k.setF g v).rails = k.rails := rfl
@[simp] theorem Pkg.setF_boot : (k.setF g v).boot = k.boot := rfl
@[simp] theorem Pkg.setF_flash : (k.setF g v).flash = k.flash := rfl
@[simp] theorem Pkg.setF_notices : (k.setF g v).notices = k.notices := rfl
@[simp] theorem Pkg.setF_fresh : (k.setF g v).fresh = k.fresh := rfl
@[simp] theorem Pkg.setF_nextTag : (k.setF g v).nextTag = k.nextTag := rfl
@[simp] theorem Pkg.setCell_straps (o : Nat) (w : Word) : (k.setCell o w).straps = k.straps := rfl
@[simp] theorem Pkg.setCell_readData (o : Nat) (w : Word) : (k.setCell o w).readData = k.readData := rfl
@[simp] theorem Pkg.setCell_readPoison (o : Nat) (w : Word) : (k.setCell o w).readPoison = k.readPoison := rfl
@[simp] theorem Pkg.setCell_aerPoisoned (o : Nat) (w : Word) : (k.setCell o w).aerPoisoned = k.aerPoisoned := rfl
@[simp] theorem Pkg.setCell_now (o : Nat) (w : Word) : (k.setCell o w).now = k.now := rfl
@[simp] theorem Pkg.setCell_errCount (o : Nat) (w : Word) : (k.setCell o w).errCount = k.errCount := rfl
@[simp] theorem Pkg.setCell_time (o : Nat) (w : Word) : (k.setCell o w).time = k.time := rfl
@[simp] theorem Pkg.setCell_links (o : Nat) (w : Word) : (k.setCell o w).links = k.links := rfl
@[simp] theorem Pkg.setCell_fab (o : Nat) (w : Word) : (k.setCell o w).fab = k.fab := rfl
@[simp] theorem Pkg.setCell_lup (o : Nat) (w : Word) : (k.setCell o w).lup = k.lup := rfl
@[simp] theorem Pkg.setCell_hbm (o : Nat) (w : Word) : (k.setCell o w).hbm = k.hbm := rfl
@[simp] theorem Pkg.setCell_hbmBad (o : Nat) (w : Word) : (k.setCell o w).hbmBad = k.hbmBad := rfl
@[simp] theorem Pkg.setCell_hbmCe (o : Nat) (w : Word) : (k.setCell o w).hbmCe = k.hbmCe := rfl
@[simp] theorem Pkg.setCell_xlt (o : Nat) (w : Word) : (k.setCell o w).xlt = k.xlt := rfl
@[simp] theorem Pkg.setCell_cores (o : Nat) (w : Word) : (k.setCell o w).cores = k.cores := rfl
@[simp] theorem Pkg.setCell_sems (o : Nat) (w : Word) : (k.setCell o w).sems = k.sems := rfl
@[simp] theorem Pkg.setCell_semStatus (o : Nat) (w : Word) : (k.setCell o w).semStatus = k.semStatus := rfl
@[simp] theorem Pkg.setCell_windows (o : Nat) (w : Word) : (k.setCell o w).windows = k.windows := rfl
@[simp] theorem Pkg.setCell_staged (o : Nat) (w : Word) : (k.setCell o w).staged = k.staged := rfl
@[simp] theorem Pkg.setCell_arrivals (o : Nat) (w : Word) : (k.setCell o w).arrivals = k.arrivals := rfl
@[simp] theorem Pkg.setCell_capArrivals (o : Nat) (w : Word) : (k.setCell o w).capArrivals = k.capArrivals := rfl
@[simp] theorem Pkg.setCell_barGen (o : Nat) (w : Word) : (k.setCell o w).barGen = k.barGen := rfl
@[simp] theorem Pkg.setCell_calls (o : Nat) (w : Word) : (k.setCell o w).calls = k.calls := rfl
@[simp] theorem Pkg.setCell_fireOrder (o : Nat) (w : Word) : (k.setCell o w).fireOrder = k.fireOrder := rfl
@[simp] theorem Pkg.setCell_coll (o : Nat) (w : Word) : (k.setCell o w).coll = k.coll := rfl
@[simp] theorem Pkg.setCell_announces (o : Nat) (w : Word) : (k.setCell o w).announces = k.announces := rfl
@[simp] theorem Pkg.setCell_host (o : Nat) (w : Word) : (k.setCell o w).host = k.host := rfl
@[simp] theorem Pkg.setCell_moe (o : Nat) (w : Word) : (k.setCell o w).moe = k.moe := rfl
@[simp] theorem Pkg.setCell_drains (o : Nat) (w : Word) : (k.setCell o w).drains = k.drains := rfl
@[simp] theorem Pkg.setCell_coreDown (o : Nat) (w : Word) : (k.setCell o w).coreDown = k.coreDown := rfl
@[simp] theorem Pkg.setCell_hold (o : Nat) (w : Word) : (k.setCell o w).hold = k.hold := rfl
@[simp] theorem Pkg.setCell_releases (o : Nat) (w : Word) : (k.setCell o w).releases = k.releases := rfl
@[simp] theorem Pkg.setCell_resetsAt (o : Nat) (w : Word) : (k.setCell o w).resetsAt = k.resetsAt := rfl
@[simp] theorem Pkg.setCell_linkHold (o : Nat) (w : Word) : (k.setCell o w).linkHold = k.linkHold := rfl
@[simp] theorem Pkg.setCell_pinLow (o : Nat) (w : Word) : (k.setCell o w).pinLow = k.pinLow := rfl
@[simp] theorem Pkg.setCell_ibi (o : Nat) (w : Word) : (k.setCell o w).ibi = k.ibi := rfl
@[simp] theorem Pkg.setCell_therm (o : Nat) (w : Word) : (k.setCell o w).therm = k.therm := rfl
@[simp] theorem Pkg.setCell_power (o : Nat) (w : Word) : (k.setCell o w).power = k.power := rfl
@[simp] theorem Pkg.setCell_bring (o : Nat) (w : Word) : (k.setCell o w).bring = k.bring := rfl
@[simp] theorem Pkg.setCell_repair (o : Nat) (w : Word) : (k.setCell o w).repair = k.repair := rfl
@[simp] theorem Pkg.setCell_rails (o : Nat) (w : Word) : (k.setCell o w).rails = k.rails := rfl
@[simp] theorem Pkg.setCell_boot (o : Nat) (w : Word) : (k.setCell o w).boot = k.boot := rfl
@[simp] theorem Pkg.setCell_flash (o : Nat) (w : Word) : (k.setCell o w).flash = k.flash := rfl
@[simp] theorem Pkg.setCell_notices (o : Nat) (w : Word) : (k.setCell o w).notices = k.notices := rfl
@[simp] theorem Pkg.setCell_fresh (o : Nat) (w : Word) : (k.setCell o w).fresh = k.fresh := rfl
@[simp] theorem Pkg.setCell_nextTag (o : Nat) (w : Word) : (k.setCell o w).nextTag = k.nextTag := rfl
@[simp] theorem Pkg.at_straps (t : Nat) : (k.at t).straps = k.straps := rfl
@[simp] theorem Pkg.at_regs (t : Nat) : (k.at t).regs = k.regs := rfl
@[simp] theorem Pkg.at_readData (t : Nat) : (k.at t).readData = k.readData := rfl
@[simp] theorem Pkg.at_readPoison (t : Nat) : (k.at t).readPoison = k.readPoison := rfl
@[simp] theorem Pkg.at_aerPoisoned (t : Nat) : (k.at t).aerPoisoned = k.aerPoisoned := rfl
@[simp] theorem Pkg.at_errCount (t : Nat) : (k.at t).errCount = k.errCount := rfl
@[simp] theorem Pkg.at_time (t : Nat) : (k.at t).time = k.time := rfl
@[simp] theorem Pkg.at_links (t : Nat) : (k.at t).links = k.links := rfl
@[simp] theorem Pkg.at_fab (t : Nat) : (k.at t).fab = k.fab := rfl
@[simp] theorem Pkg.at_lup (t : Nat) : (k.at t).lup = k.lup := rfl
@[simp] theorem Pkg.at_hbm (t : Nat) : (k.at t).hbm = k.hbm := rfl
@[simp] theorem Pkg.at_hbmBad (t : Nat) : (k.at t).hbmBad = k.hbmBad := rfl
@[simp] theorem Pkg.at_hbmCe (t : Nat) : (k.at t).hbmCe = k.hbmCe := rfl
@[simp] theorem Pkg.at_xlt (t : Nat) : (k.at t).xlt = k.xlt := rfl
@[simp] theorem Pkg.at_cores (t : Nat) : (k.at t).cores = k.cores := rfl
@[simp] theorem Pkg.at_sems (t : Nat) : (k.at t).sems = k.sems := rfl
@[simp] theorem Pkg.at_semStatus (t : Nat) : (k.at t).semStatus = k.semStatus := rfl
@[simp] theorem Pkg.at_windows (t : Nat) : (k.at t).windows = k.windows := rfl
@[simp] theorem Pkg.at_staged (t : Nat) : (k.at t).staged = k.staged := rfl
@[simp] theorem Pkg.at_arrivals (t : Nat) : (k.at t).arrivals = k.arrivals := rfl
@[simp] theorem Pkg.at_capArrivals (t : Nat) : (k.at t).capArrivals = k.capArrivals := rfl
@[simp] theorem Pkg.at_barGen (t : Nat) : (k.at t).barGen = k.barGen := rfl
@[simp] theorem Pkg.at_calls (t : Nat) : (k.at t).calls = k.calls := rfl
@[simp] theorem Pkg.at_fireOrder (t : Nat) : (k.at t).fireOrder = k.fireOrder := rfl
@[simp] theorem Pkg.at_coll (t : Nat) : (k.at t).coll = k.coll := rfl
@[simp] theorem Pkg.at_announces (t : Nat) : (k.at t).announces = k.announces := rfl
@[simp] theorem Pkg.at_host (t : Nat) : (k.at t).host = k.host := rfl
@[simp] theorem Pkg.at_moe (t : Nat) : (k.at t).moe = k.moe := rfl
@[simp] theorem Pkg.at_drains (t : Nat) : (k.at t).drains = k.drains := rfl
@[simp] theorem Pkg.at_coreDown (t : Nat) : (k.at t).coreDown = k.coreDown := rfl
@[simp] theorem Pkg.at_hold (t : Nat) : (k.at t).hold = k.hold := rfl
@[simp] theorem Pkg.at_releases (t : Nat) : (k.at t).releases = k.releases := rfl
@[simp] theorem Pkg.at_resetsAt (t : Nat) : (k.at t).resetsAt = k.resetsAt := rfl
@[simp] theorem Pkg.at_linkHold (t : Nat) : (k.at t).linkHold = k.linkHold := rfl
@[simp] theorem Pkg.at_pinLow (t : Nat) : (k.at t).pinLow = k.pinLow := rfl
@[simp] theorem Pkg.at_ibi (t : Nat) : (k.at t).ibi = k.ibi := rfl
@[simp] theorem Pkg.at_therm (t : Nat) : (k.at t).therm = k.therm := rfl
@[simp] theorem Pkg.at_power (t : Nat) : (k.at t).power = k.power := rfl
@[simp] theorem Pkg.at_bring (t : Nat) : (k.at t).bring = k.bring := rfl
@[simp] theorem Pkg.at_repair (t : Nat) : (k.at t).repair = k.repair := rfl
@[simp] theorem Pkg.at_rails (t : Nat) : (k.at t).rails = k.rails := rfl
@[simp] theorem Pkg.at_boot (t : Nat) : (k.at t).boot = k.boot := rfl
@[simp] theorem Pkg.at_flash (t : Nat) : (k.at t).flash = k.flash := rfl
@[simp] theorem Pkg.at_notices (t : Nat) : (k.at t).notices = k.notices := rfl
@[simp] theorem Pkg.at_fresh (t : Nat) : (k.at t).fresh = k.fresh := rfl
@[simp] theorem Pkg.at_nextTag (t : Nat) : (k.at t).nextTag = k.nextTag := rfl

@[simp] theorem Pkg.at_now (t : Nat) : (k.at t).now = max k.now t := rfl
@[simp] theorem Pkg.getF_at (t : Nat) : (k.at t).getF g = k.getF g := rfl
@[simp] theorem Pkg.flag_at (t : Nat) : (k.at t).flag g = k.flag g := rfl
@[simp] theorem Pkg.getF_notices (n : List (String × Severity × Nat)) : ({ k with notices := n } : Pkg).getF g = k.getF g := rfl

end Sys2Proof.Machine
end

