-- ==== Sys2Proof/Laws/Errors.lean ====
section
/-! SUPPORT. What recording an error can change: the ERR registers and the count of records. -/

namespace Sys2Proof.Machine

/-- `j` differs from `k` at most in the ERR registers and the count of error records. -/
structure ErrOnly (k j : Pkg) : Prop where
  fields : ∃ r n, j = { k with regs := r, errCount := n }
  cells : ∀ o, o < 0x3000000 ∨ 0x4000000 ≤ o → j.cell o = k.cell o

namespace ErrOnly

variable {k j l : Pkg}

theorem refl (k : Pkg) : ErrOnly k k := ⟨⟨k.regs, k.errCount, rfl⟩, fun _ _ => rfl⟩

theorem trans (h : ErrOnly k j) (g : ErrOnly j l) : ErrOnly k l := by
  obtain ⟨⟨r, n, rfl⟩, hc⟩ := h
  obtain ⟨⟨r', n', rfl⟩, gc⟩ := g
  exact ⟨⟨r', n', rfl⟩, fun o ho => (gc o ho).trans (hc o ho)⟩

theorem setF (k : Pkg) (f : Fld) (v : Nat) (h : 0x3000000 ≤ f.off ∧ f.off < 0x4000000) : ErrOnly k (k.setF f v) :=
  ⟨⟨_, k.errCount, rfl⟩, fun o ho => Pkg.cell_setCell_other _ _ (by omega)⟩

theorem thenF (h : ErrOnly k j) (f : Fld) (v : Nat) (hf : 0x3000000 ≤ f.off ∧ f.off < 0x4000000) :
    ErrOnly k (j.setF f v) := h.trans (setF j f v hf)

theorem inc (k : Pkg) (f : Fld) (h : 0x3000000 ≤ f.off ∧ f.off < 0x4000000) : ErrOnly k (k.inc f) := setF k f _ h

theorem ite {c : Prop} [Decidable c] (h : ErrOnly k j) (g : ErrOnly k l) : ErrOnly k (if c then j else l) := by
  split <;> assumption

/-- A register outside the ERR block keeps its value. -/
theorem getF (h : ErrOnly k j) (f : Fld) (hf : f.off < 0x3000000 ∨ 0x4000000 ≤ f.off) : j.getF f = k.getF f := by
  unfold Pkg.getF; rw [h.cells _ hf]

end ErrOnly

/-- The fields of an error record lie in the ring of 256. -/
theorem errRing_lt (k : Pkg) : k.getF F.ERR_LOG_NEXT < 256 := Pkg.getF_lt k F.ERR_LOG_NEXT

theorem Pkg.setF_cell_other (k : Pkg) (f : Fld) (v : Nat) {o : Nat} (h : o ≠ f.off) : (k.setF f v).cell o = k.cell o :=
  Pkg.cell_setCell_other _ _ h

theorem Pkg.newRecord_frame (k : Pkg) (st : Status) (u : UnitKind) (i x : Nat) : ErrOnly k (k.newRecord st u i x) := by
  have hi := errRing_lt k
  unfold Pkg.newRecord
  have h0 : ErrOnly k (if k.errCount = 256 then k.inc F.ERR_LOG_LOST else { k with errCount := k.errCount + 1 }) :=
    ErrOnly.ite (ErrOnly.inc _ _ (by decide)) ⟨⟨k.regs, _, rfl⟩, fun _ _ => rfl⟩
  generalize k.getF F.ERR_LOG_NEXT = n at hi ⊢
  have a : 0x3000000 ≤ 0x3001018 + 0x20 * n ∧ 0x3001018 + 0x20 * n < 0x4000000 := by omega
  have b : 0x3000000 ≤ 0x3001010 + 0x20 * n ∧ 0x3001010 + 0x20 * n < 0x4000000 := by omega
  have c : 0x3000000 ≤ 0x3001008 + 0x20 * n ∧ 0x3001008 + 0x20 * n < 0x4000000 := by omega
  exact (((((((h0.thenF _ _ a).thenF _ _ b).thenF _ _ c).thenF _ _ c).thenF _ _ c).thenF _ _ c).thenF _ _
    (by decide)).thenF _ _ (by decide)

/-- Logging an error touches the log alone. -/
theorem Pkg.logError_frame (k : Pkg) (st : Status) (u : UnitKind) (i x : Nat) : ErrOnly k (k.logError st u i x) := by
  unfold Pkg.logError
  have h : (255 + k.getF F.ERR_LOG_NEXT) % 256 < 256 := Nat.mod_lt _ (by decide)
  generalize (255 + k.getF F.ERR_LOG_NEXT) % 256 = n at h ⊢
  have c : 0x3000000 ≤ 0x3001008 + 0x20 * n ∧ 0x3001008 + 0x20 * n < 0x4000000 := by omega
  exact ErrOnly.ite (ErrOnly.inc _ _ c) (Pkg.newRecord_frame _ _ _ _ _)

/-- Logging an error leaves `ERR_CSR` alone. -/
theorem Pkg.logError_csr (k : Pkg) (st : Status) (u : UnitKind) (i x : Nat) :
    (k.logError st u i x).cell 0x3000008 = k.cell 0x3000008 := by
  have hi := errRing_lt k
  have h : (255 + k.getF F.ERR_LOG_NEXT) % 256 < 256 := Nat.mod_lt _ (by decide)
  unfold Pkg.logError Pkg.newRecord
  generalize k.repeats st u i = b
  generalize (255 + k.getF F.ERR_LOG_NEXT) % 256 = m at h ⊢
  generalize k.getF F.ERR_LOG_NEXT = n at hi ⊢
  have a : (0x3000008 : Nat) ≠ 0x3001018 + 0x20 * n := by omega
  have b' : (0x3000008 : Nat) ≠ 0x3001010 + 0x20 * n := by omega
  have c : (0x3000008 : Nat) ≠ 0x3001008 + 0x20 * n := by omega
  have d : (0x3000008 : Nat) ≠ 0x3001008 + 0x20 * m := by omega
  split
  · exact Pkg.setF_cell_other _ _ _ d
  · dsimp only
    rw [Pkg.setF_cell_other _ _ _ (by decide), Pkg.setF_cell_other _ _ _ (by decide), Pkg.setF_cell_other _ _ _ c,
      Pkg.setF_cell_other _ _ _ c, Pkg.setF_cell_other _ _ _ c, Pkg.setF_cell_other _ _ _ c, Pkg.setF_cell_other _ _ _ b',
      Pkg.setF_cell_other _ _ _ a]
    split
    · exact Pkg.setF_cell_other _ _ _ (by decide)
    · rfl

/-- A refused access touches the ERR block alone. -/
theorem Pkg.refuseCsr_frame (k : Pkg) (src : CsrSource) (off : Nat) (w : Bool) : ErrOnly k (k.refuseCsr src off w) := by
  unfold Pkg.refuseCsr
  refine ErrOnly.trans ?_ (Pkg.logError_frame _ _ _ _ _)
  refine ErrOnly.trans ?_ (ErrOnly.inc _ _ (by decide))
  exact ErrOnly.ite (ErrOnly.refl k)
    (((((ErrOnly.refl k).thenF _ _ (by decide)).thenF _ _ (by decide)).thenF _ _ (by decide)).thenF _ _ (by decide))

/-- A refused access is counted, and recorded when no record stands. -/
theorem Pkg.refuseCsr_marks (k : Pkg) (src : CsrSource) (off : Nat) (w : Bool) :
    (k.refuseCsr src off w).getF F.ERR_CSR_VALID = 1 ∧
    (k.refuseCsr src off w).getF F.ERR_CSR_COUNT = min (2 ^ 32 - 1) (k.getF F.ERR_CSR_COUNT + 1) := by
  have hlog : ∀ (j : Pkg) (f : Fld) st u i x, f.off = 0x3000008 → (j.logError st u i x).getF f = j.getF f := by
    intro j f st u i x hf
    unfold Pkg.getF; rw [hf, Pkg.logError_csr]
  unfold Pkg.refuseCsr
  dsimp only
  rw [hlog _ _ _ _ _ _ rfl, hlog _ _ _ _ _ _ rfl]
  have hv : ∀ j : Pkg, (j.inc F.ERR_CSR_COUNT).getF F.ERR_CSR_VALID = j.getF F.ERR_CSR_VALID :=
    fun j => Pkg.getF_setF_apart _ _ _ _ (by decide)
  have hc : ∀ j : Pkg, (j.inc F.ERR_CSR_COUNT).getF F.ERR_CSR_COUNT = min (2 ^ 32 - 1) (j.getF F.ERR_CSR_COUNT + 1) := by
    intro j
    unfold Pkg.inc Pkg.addSat
    rw [Pkg.getF_setF_same _ _ _ (by decide)]
    exact Nat.mod_eq_of_lt (lt_of_le_of_lt (Nat.min_le_left _ _) (by decide))
  rw [hv, hc]
  split
  · rename_i h
    exact ⟨by simpa [Pkg.flag] using h, rfl⟩
  · unfold Pkg.raise
    refine ⟨Pkg.getF_setF_same _ _ _ (by decide), ?_⟩
    rw [Pkg.getF_setF_apart _ _ _ _ (by decide), Pkg.getF_setF_apart _ _ _ _ (by decide),
      Pkg.getF_setF_apart _ _ _ _ (by decide), Pkg.getF_setF_apart _ _ _ _ (by decide)]

end Sys2Proof.Machine
end

