-- ==== Sys2Proof/Laws/Fabric.lean ====
section
/-! SUPPORT. What the fabric engine's shared operations can change: the fabric state, the byte counts of R829 and the FAB
registers, and nothing else of a package. -/

namespace Sys2Proof.Machine

/-- `j` differs from `k` at most in the fabric state, the power controller's byte counts and the FAB registers that report (0x200800 and
up); the registers that configure the engine and its slots keep their value. -/
structure FabOnly (k j : Pkg) : Prop where
  fields : ∃ r f w, j = { k with regs := r, fab := f, power := { k.power with moved := w } }
  cells : ∀ o, o < 0x200800 ∨ 0x300000 ≤ o → j.cell o = k.cell o

namespace FabOnly

variable {k j l : Pkg}

theorem refl (k : Pkg) : FabOnly k k := ⟨⟨k.regs, k.fab, k.power.moved, rfl⟩, fun _ _ => rfl⟩

theorem trans (h : FabOnly k j) (g : FabOnly j l) : FabOnly k l := by
  obtain ⟨⟨r, f, w, rfl⟩, hc⟩ := h
  obtain ⟨⟨r', f', w', rfl⟩, gc⟩ := g
  exact ⟨⟨r', f', w', rfl⟩, fun o ho => (gc o ho).trans (hc o ho)⟩

theorem ofFab (k : Pkg) (f : Fabric) : FabOnly k { k with fab := f } := ⟨⟨k.regs, f, k.power.moved, rfl⟩, fun _ _ => rfl⟩

theorem setF (k : Pkg) (f : Fld) (v : Nat) (h : 0x200800 ≤ f.off ∧ f.off < 0x300000) : FabOnly k (k.setF f v) :=
  ⟨⟨_, k.fab, k.power.moved, rfl⟩, fun o ho => Pkg.cell_setCell_other _ _ (by omega)⟩

theorem moveBytes (k : Pkg) (s n : Nat) : FabOnly k (k.moveBytes s n) := by
  unfold Pkg.moveBytes; exact ⟨⟨k.regs, k.fab, _, rfl⟩, fun _ _ => rfl⟩

theorem ite {c : Prop} [Decidable c] (h : FabOnly k j) (g : FabOnly k l) : FabOnly k (if c then j else l) := by
  split <;> assumption

theorem foldl {α : Type} (xs : List α) (op : Pkg → α → Pkg) (h : ∀ k x, FabOnly k (op k x)) (k : Pkg) :
    FabOnly k (xs.foldl op k) := by
  induction xs generalizing k with
  | nil => exact refl k
  | cons x r ih => exact (h k x).trans (ih _)

/-- A register outside the FAB block keeps its value. -/
theorem getF (h : FabOnly k j) (f : Fld) (hf : f.off < 0x200800 ∨ 0x300000 ≤ f.off) : j.getF f = k.getF f := by
  unfold Pkg.getF; rw [h.cells _ hf]

theorem inc (k : Pkg) (f : Fld) (h : 0x200800 ≤ f.off ∧ f.off < 0x300000) : FabOnly k (k.inc f) := setF k f _ h

end FabOnly

/-- Continue a chain of updates at its last one. -/
theorem FabOnly.thenF {k j : Pkg} (h : FabOnly k j) (f : Fld) (v : Nat) (hf : 0x200800 ≤ f.off ∧ f.off < 0x300000) :
    FabOnly k (j.setF f v) := h.trans (FabOnly.setF j f v hf)

theorem FabOnly.thenFab {k j : Pkg} (h : FabOnly k j) (f : Fabric) : FabOnly k { j with fab := f } :=
  h.trans (FabOnly.ofFab j f)

theorem Pkg.refreshQueue_frame (k : Pkg) (n : Nat) (hn : n < 64) : FabOnly k (k.refreshQueue n) := by
  unfold Pkg.refreshQueue Pkg.setFport
  have h1 : 0x200800 ≤ 0x201000 + 0x40 * n ∧ 0x201000 + 0x40 * n < 0x300000 := by omega
  refine FabOnly.thenFab ?_ _
  exact FabOnly.ite (((((FabOnly.refl k).thenF _ _ h1).thenF _ _ h1).thenF _ _ h1).thenF _ _ (by decide))
    ((((FabOnly.refl k).thenF _ _ h1).thenF _ _ h1).thenF _ _ h1)

theorem Pkg.enqueue_frame (k : Pkg) (n : Nat) (q : Queued) (hn : n < 64) : FabOnly k (k.enqueue n q) := by
  unfold Pkg.enqueue
  refine FabOnly.trans ?_ (Pkg.refreshQueue_frame _ n hn)
  unfold Pkg.setFport
  refine FabOnly.thenFab (FabOnly.trans ?_ (FabOnly.moveBytes _ _ _)) _
  exact FabOnly.ite (FabOnly.inc _ _ (by decide)) (FabOnly.refl _)

theorem Pkg.launch_frame (k : Pkg) (p : Packet) (sched : Bool) (chan port : Nat) (hn : port < 64) :
    FabOnly k (k.launch p sched chan port) := by
  unfold Pkg.launch
  exact FabOnly.ite (FabOnly.ofFab _ _) (Pkg.enqueue_frame _ _ _ hn)

theorem hopPort_lt (h : Nat) : hopPort h < 64 := by
  unfold hopPort; split <;> omega

theorem ringPort_lt (row prev : Bool) : ringPort row prev < 64 := by
  cases row <;> cases prev <;> decide

theorem Pkg.wayOut_port (k : Pkg) (dst mask start rw port level : Nat) (h : k.wayOut dst mask start = some (rw, port, level)) :
    port < 64 := by
  unfold Pkg.wayOut at h
  dsimp only at h
  by_cases hr : bits dst 17 7 ≠ k.rack
  · rw [if_pos hr] at h
    cases hl : k.lup.active with
    | none => rw [hl] at h; cases h
    | some l =>
      rw [hl] at h
      obtain ⟨_, _, he⟩ := Option.map_eq_some_iff.mp h
      simp only [Prod.mk.injEq] at he
      rw [← he.2.1]; exact ringPort_lt _ _
  · rw [if_neg hr] at h
    obtain ⟨_, _, he⟩ := Option.map_eq_some_iff.mp h
    simp only [Prod.mk.injEq] at he
    rw [← he.2.1]; exact hopPort_lt _

theorem Pkg.viaWay_port (k : Pkg) (dst via rw port level : Nat) (h : k.viaWay dst via = some (rw, port, level)) :
    port < 64 := by
  unfold Pkg.viaWay at h
  split at h
  · split at h
    · cases h
    · simp only [Option.some.injEq, Prod.mk.injEq] at h; omega
  · by_cases hv : 20 ≤ via
    · rw [if_pos hv] at h; cases h
    · rw [if_neg hv] at h
      cases hl : k.lup.active with
      | none => rw [hl] at h; cases h
      | some l =>
        rw [hl] at h
        dsimp only at h
        generalize (ringLinks _ _ _ _).all _ = b at h
        cases b with
        | false => simp at h
        | true => simp at h; omega

theorem Pkg.sendNow_frame (k : Pkg) (o : Outgoing) : FabOnly k (k.sendNow o) := by
  unfold Pkg.sendNow
  dsimp only
  split
  · exact FabOnly.ofFab _ _
  · rename_i rw port level hw
    have hp : port < 64 := by
      split at hw
      · simp only [Option.some.injEq, Prod.mk.injEq] at hw; obtain ⟨_, rfl, _⟩ := hw; decide
      · cases hv : o.via.bind (k.viaWay o.pkt.dst) with
        | some w =>
          rw [hv] at hw
          obtain ⟨v, _, hv'⟩ := Option.bind_eq_some_iff.mp hv
          simp only [Option.orElse_some, Option.some.injEq] at hw
          subst hw
          exact Pkg.viaWay_port k _ _ _ _ _ hv'
        | none =>
          rw [hv] at hw
          simp only [Option.orElse_none] at hw
          exact Pkg.wayOut_port k _ _ _ _ _ _ hw
    refine FabOnly.trans ?_ (Pkg.launch_frame _ _ _ _ _ hp)
    refine (FabOnly.ofFab k _).trans (FabOnly.inc _ _ ?_)
    split <;> decide

/-- Offering a packet to the fabric touches the fabric alone. -/
theorem Pkg.send_frame (k : Pkg) (o : Outgoing) : FabOnly k (k.send o) := by
  unfold Pkg.send
  exact FabOnly.ite (Pkg.sendNow_frame k o) (FabOnly.ofFab k _)

/-- Releasing held packets touches the fabric alone. -/
theorem Pkg.releaseHeld_frame (k : Pkg) : FabOnly k k.releaseHeld := by
  unfold Pkg.releaseHeld
  exact (FabOnly.ofFab k _).trans (FabOnly.foldl _ _ (fun k o => Pkg.send_frame k o) _)

theorem Pkg.sendHub_frame (k : Pkg) (ty slot dst : Nat) (body : Bytes) (ow : Owner) : FabOnly k (k.sendHub ty slot dst body ow) :=
  Pkg.send_frame k _

/-- Acknowledging touches the fabric alone. -/
theorem Pkg.ack_frame (k : Pkg) (p : Packet) (st : Status) (d : Nat) : FabOnly k (k.ack p st d) := Pkg.send_frame k _

theorem Pkg.sendRack_frame (k : Pkg) (ty slot : Nat) (body : Bytes) : FabOnly k (k.sendRack ty slot body) := by
  unfold Pkg.sendRack
  exact FabOnly.foldl _ _ (fun k p => Pkg.sendHub_frame k _ _ _ _ _) _

theorem Pkg.resend_frame (k : Pkg) (u : Unacked) : FabOnly k (k.resend u) := by
  unfold Pkg.resend
  dsimp only
  split
  · exact FabOnly.ofFab _ _
  · rename_i rw port level hw
    have hp : port < 64 := by
      split at hw
      · simp only [Option.some.injEq, Prod.mk.injEq] at hw; obtain ⟨_, rfl, _⟩ := hw; decide
      · exact Pkg.wayOut_port k _ _ _ _ _ _ hw
    refine FabOnly.trans ?_ (Pkg.launch_frame _ _ _ _ _ hp)
    refine ((FabOnly.ofFab k _).trans (FabOnly.inc _ _ (by decide))).trans (FabOnly.inc _ _ ?_)
    split <;> decide

theorem Pkg.freeArrived_frame (k : Pkg) (a : Arrived) : FabOnly k (k.freeArrived a) := by
  unfold Pkg.freeArrived Pkg.setFport
  dsimp only
  split
  · exact FabOnly.ofFab _ _
  · split
    · exact (FabOnly.ofFab k _).thenFab _
    · exact (FabOnly.ofFab k _).thenFab _

theorem Pkg.take_frame (k : Pkg) (p : Packet) : FabOnly k (k.take p) := by
  unfold Pkg.take
  split
  · exact Pkg.freeArrived_frame _ _
  · exact FabOnly.refl k

/-- The checks of a received packet touch the fabric alone. -/
theorem Pkg.screen_frame (k : Pkg) (p : Packet) : FabOnly k (k.screen p).1 := by
  have h0 : FabOnly k (k.take p) := Pkg.take_frame k p
  have h : FabOnly k ((k.take p).inc (F.FAB_COUNTS 2)) := h0.trans (FabOnly.inc _ _ (by decide))
  unfold Pkg.screen
  dsimp only
  generalize he : (k.take p).expired p = e
  generalize (k.take p).inc (F.FAB_COUNTS 2) = j at h ⊢
  generalize isKnownType p.type = a
  generalize p.reservedZero = b
  cases e
  · by_cases hc : p.crc = p.goodCrc
    · cases a <;> cases b <;> simp only [hc, ne_eq, not_true_eq_false, if_false, Bool.not_false, Bool.not_true,
        Bool.or_true, Bool.or_false, Bool.or_self, Bool.false_eq_true, if_true]
      all_goals first | exact h | exact h.trans (Pkg.ack_frame _ _ _ _)
    · simp only [hc, ne_eq, not_false_eq_true, if_true, Bool.false_eq_true, if_false]
      exact h.trans (FabOnly.inc _ _ (by decide))
  · exact h0.trans (FabOnly.inc _ _ (by decide))

/-- `FabOnly` of the package that an operation answers beside something else. -/
structure FabPair {α : Type} (k : Pkg) (r : Pkg × α) : Prop where
  out : FabOnly k r.1

theorem Pkg.claim_pair (k : Pkg) (p : Packet) : FabPair k (k.claim p) := by
  unfold Pkg.claim
  cases k.fab.windowOf p with
  | none =>
    dsimp only
    split
    · unfold Pkg.refreshWindows
      exact ⟨((FabOnly.ofFab k _).thenF _ _ (by decide)).thenF _ _ (by decide)⟩
    · exact ⟨(FabOnly.inc _ _ (by decide)).thenF _ _ (by decide)⟩
  | some w =>
    dsimp only
    split
    · exact ⟨FabOnly.inc _ _ (by decide)⟩
    · split
      · exact ⟨FabOnly.inc _ _ (by decide)⟩
      · exact ⟨FabOnly.refl k⟩
      · exact ⟨FabOnly.ofFab _ _⟩

/-- Claiming a sequence touches the fabric alone. -/
theorem Pkg.claim_frame (k : Pkg) (p : Packet) : FabOnly k (k.claim p).1 := (Pkg.claim_pair k p).out

theorem Pkg.claimDone_frame (k : Pkg) (p : Packet) (old : Option Nat) : FabOnly k (k.claimDone p old) := by
  unfold Pkg.claimDone
  split
  · exact FabOnly.refl k
  · exact FabOnly.ofFab _ _

theorem Pkg.claimUndo_frame (k : Pkg) (p : Packet) : FabOnly k (k.claimUndo p) := by
  unfold Pkg.claimUndo
  split
  · exact FabOnly.refl k
  · exact FabOnly.ofFab _ _

/-- A packet of a known type with a good CRC, zero reserved fields and an age within its lifetime passes the checks. -/
theorem Pkg.screen_good (k : Pkg) (p : Packet) (he : k.expired p = false) (hc : p.crc = p.goodCrc)
    (ht : isKnownType p.type = true) (hr : p.reservedZero = true) :
    k.screen p = ((k.take p).inc (F.FAB_COUNTS 2), true) := by
  have he' : (k.take p).expired p = false := by
    obtain ⟨r, f, w, h⟩ := (Pkg.take_frame k p).fields
    have hl : (k.take p).getF F.FAB_LIFETIME = k.getF F.FAB_LIFETIME := by
      unfold Pkg.take
      split
      · unfold Pkg.freeArrived Pkg.setFport
        dsimp only
        split
        · rfl
        · split <;> rfl
      · rfl
    have hn : (k.take p).now = k.now := by rw [h]
    unfold Pkg.expired at he ⊢
    rw [hl, hn]; exact he
  unfold Pkg.screen
  simp [he', hc, ht, hr]

end Sys2Proof.Machine
end

