-- ==== Sys2Proof/Laws/Memory.lean ====
section
/-! SUPPORT. What the reads of HBM and of virtual addresses answer. -/

namespace Sys2Proof.Machine

theorem readBytes_empty (a n : Nat) : Memory.readBytes [] a n = List.replicate n 0#8 := by
  induction n generalizing a with
  | zero => rfl
  | succ n ih => simp [Memory.readBytes, ih, List.replicate_succ]; rfl

theorem leNat_zeros (n : Nat) : leNat (List.replicate n 0#8) = 0 := by
  induction n with
  | zero => rfl
  | succ n ih => simp [leNat, ih, List.replicate_succ]

/-- With no failed stack and no unit in error, nothing stops an access, and HBM keeps its bytes. -/
theorem hbmStop_clean (k : Pkg) (all rd : List Nat) (hs : ∀ i, i < 8 → k.getF (F.HBM_STATE i) ≠ 3) (hb : k.hbmBad = [])
    (hc : k.hbmCe = []) : k.hbmStop all rd = (k, none) := by
  have h₁ : all.find? (fun u => k.getF (F.HBM_STATE (hbmStack (u * 64))) == 3) = none := by
    simp [List.find?_eq_none, hs _ (Nat.mod_lt _ (by decide : 0 < 8)), hbmStack]
  have h₂ : rd.find? (fun u => k.hbmBad.contains u) = none := by simp [hb]
  simp only [Pkg.hbmStop, h₁, h₂, Pkg.hbmCorrect, hc]
  cases k
  simp_all

/-- With no failed stack and no unit in error, every range is good. -/
theorem unitsGood_clean (k : Pkg) (a n : Nat) (hs : ∀ i, i < 8 → k.getF (F.HBM_STATE i) ≠ 3) (hb : k.hbmBad = []) :
    k.unitsGood a n = true := by
  simp [Pkg.unitsGood, hb, hs _ (Nat.mod_lt _ (by decide : 0 < 8)), hbmStack]

/-- A page that translates to good HBM maps every access inside it. -/
theorem maps_page (k : Pkg) (root va n x left : Nat) (r : Requester) (a : Access4)
    (hx : (match (k.xlate root va r a).2 with
      | .ok (.hbm y, l) => y == x && l == left
      | _ => false) = true) (hl : n ≤ left) (hg : k.unitsGood x n = true) : k.maps root va n r a x = true := by
  unfold Pkg.maps
  split at hx
  · next y l h => simp_all
  · cases hx

/-- A read whose units do not stop it answers the bytes that HBM holds. -/
theorem hbmRead_good (k j : Pkg) (a n : Nat) (h : k.hbmStop (hbmUnits a n) (hbmUnits a n) = (j, none)) :
    k.hbmRead a n = (j.addWrap (F.HBM_BYTES 0) (64 * (hbmUnits a n).length), .ok (Memory.readBytes j.hbm a n)) := by
  simp only [Pkg.hbmRead, h]

/-- A read within one good page answers its bytes. -/
theorem xread_onePage (k : Pkg) (root : Nat) (r : Requester) (a : Access4) (fuel va n x left : Nat) (k₁ k₂ : Pkg) (bs : Bytes) (hn : n ≠ 0)
    (hl : n ≤ left) (h₁ : k.xlate root va r a = (k₁, .ok (.hbm x, left))) (h₂ : k₁.hbmRead x n = (k₂, .ok bs)) :
    (k.xread root r a (fuel + 2) va n).2 = (bs, none) := by
  unfold Pkg.xread
  rw [if_neg hn, h₁]
  simp only [Nat.min_eq_left hl, Pkg.spotRead, h₂, Nat.sub_self]
  unfold Pkg.xread
  simp

/-- A hub read within one good page answers its bytes. -/
theorem hubRead_onePage (k : Pkg) (slot va n x left : Nat) (bs : Bytes) (hn : n ≠ 0) (hl : n ≤ left)
    (hx : (k.xlate slot va .hub .read).2 = .ok (.hbm x, left))
    (hr : ((k.xlate slot va .hub .read).1.hbmRead x n).2 = .ok bs) :
    (k.hubRead slot va n).2 = (bs, none) :=
  xread_onePage k slot .hub .read (n / 4096) va n x left _ _ bs hn hl (Prod.ext rfl hx) (Prod.ext rfl hr)

/-- A channel entry of zeros meets Table 10-6. -/
theorem badChannel_zeros (n : Nat) : badChannel (List.replicate n 0#8) = false := by
  simp [badChannel, fieldAt, leNat_zeros]

end Sys2Proof.Machine
end

