-- ==== Sys2Proof/Laws/PerInstr.lean ====
section
/-! SUPPORT. Per-constructor facts about commands as syntax. Family Wf: a well-formed command happens at a Hall Time that the
64-bit counter can show. -/

namespace Sys2Proof.Laws.Wf

/-- A well-formed command's Hall Time fits the counter (R41). -/
def Statement (i : Instr) : Prop := i.wf = true → ∀ t, i.time = some t → t < 2 ^ 64

/-- Every constructor's check holds that of its Hall Time. -/
theorem time_fits (i : Instr) : Statement i := by
  intro h t ht
  simp only [Instr.wf, ht, Option.all_some, Bool.and_eq_true, timeOk, fits, decide_eq_true_eq] at h
  exact h.1

theorem registerWrite (p : PkgId) (src : CsrSource) (off : Nat) (size : Nat) (data : Nat) : Statement (.registerWrite p src off size data) := time_fits _
theorem readClear (p : PkgId) (src : CsrSource) (off : Nat) (size : Nat) : Statement (.readClear p src off size) := time_fits _
theorem frameSend (p : PkgId) (port : PortId) (t : Nat) : Statement (.frameSend p port t) := time_fits _
theorem markerReceive (p : PkgId) (port : PortId) (block : Bytes) (t4 : Nat) : Statement (.markerReceive p port block t4) := time_fits _
theorem freeLimit (p : PkgId) (t : Nat) : Statement (.freeLimit p t) := time_fits _
theorem ppsEdge (p : PkgId) (t : Nat) : Statement (.ppsEdge p t) := time_fits _
theorem cardPoll (tai : Nat) : Statement (.cardPoll tai) := time_fits _
theorem referenceLost (lastSync : Nat) (t : Nat) : Statement (.referenceLost lastSync t) := time_fits _
theorem ppsLoss (t : Nat) : Statement (.ppsLoss t) := time_fits _
theorem referenceQualified (since : Nat) (t : Nat) : Statement (.referenceQualified since t) := time_fits _
theorem holdoverLimit (t : Nat) : Statement (.holdoverLimit t) := time_fits _
theorem highWaterRecord (t : Nat) : Statement (.highWaterRecord t) := time_fits _
theorem coldHallSeed (p : PkgId) (hallValid : Bool) (reference : Nat) (clock : Nat) : Statement (.coldHallSeed p hallValid reference clock) := time_fits _
theorem isolatedRackSeed (reference : Nat) (clock : Nat) (t : Nat) : Statement (.isolatedRackSeed reference clock t) := time_fits _
theorem volleyBoundary (p : PkgId) (t : Nat) : Statement (.volleyBoundary p t) := time_fits _
theorem epochBoundary (p : PkgId) (lost : List Nat) (t : Nat) : Statement (.epochBoundary p lost t) := time_fits _
theorem waitHtRelease (p : PkgId) (core : CoreId) (t : Nat) : Statement (.waitHtRelease p core t) := time_fits _
theorem playFetchComplete (p : PkgId) (core : CoreId) (n : Nat) (t : Nat) : Statement (.playFetchComplete p core n t) := time_fits _
theorem unknownOpcode (p : PkgId) (core : CoreId) (t : Nat) : Statement (.unknownOpcode p core t) := time_fits _
theorem gemm (p : PkgId) (core : CoreId) (conflicts : Nat) (fail : Option Nat) (t : Nat) : Statement (.gemm p core conflicts fail t) := time_fits _
theorem groupedGemm (p : PkgId) (core : CoreId) (fail : Option Nat) (t : Nat) : Statement (.groupedGemm p core fail t) := time_fits _
theorem attnBlock (p : PkgId) (core : CoreId) (t : Nat) : Statement (.attnBlock p core t) := time_fits _
theorem vec (p : PkgId) (core : CoreId) (conflicts : Nat) (t : Nat) : Statement (.vec p core conflicts t) := time_fits _
theorem trans (p : PkgId) (core : CoreId) (t : Nat) : Statement (.trans p core t) := time_fits _
theorem route (p : PkgId) (core : CoreId) (t : Nat) : Statement (.route p core t) := time_fits _
theorem layout (p : PkgId) (core : CoreId) (t : Nat) : Statement (.layout p core t) := time_fits _
theorem gather (p : PkgId) (core : CoreId) (t : Nat) : Statement (.gather p core t) := time_fits _
theorem scatter (p : PkgId) (core : CoreId) (t : Nat) : Statement (.scatter p core t) := time_fits _
theorem move (p : PkgId) (core : CoreId) (conflicts : Nat) (t : Nat) : Statement (.move p core conflicts t) := time_fits _
theorem sendTile (p : PkgId) (core : CoreId) (t : Nat) : Statement (.sendTile p core t) := time_fits _
theorem tileStripeSend (p : PkgId) (core : CoreId) (t : Nat) : Statement (.tileStripeSend p core t) := time_fits _
theorem windowOp (p : PkgId) (core : CoreId) (t : Nat) : Statement (.windowOp p core t) := time_fits _
theorem semWait (p : PkgId) (core : CoreId) (t : Nat) : Statement (.semWait p core t) := time_fits _
theorem semWaitRelease (p : PkgId) (core : CoreId) (t : Nat) : Statement (.semWaitRelease p core t) := time_fits _
theorem semPost (p : PkgId) (core : CoreId) (t : Nat) : Statement (.semPost p core t) := time_fits _
theorem semPostApply (p : PkgId) (core : CoreId) (t : Nat) : Statement (.semPostApply p core t) := time_fits _
theorem fence (p : PkgId) (core : CoreId) (t : Nat) : Statement (.fence p core t) := time_fits _
theorem fenceRelease (p : PkgId) (core : CoreId) (t : Nat) : Statement (.fenceRelease p core t) := time_fits _
theorem waitHt (p : PkgId) (core : CoreId) (t : Nat) : Statement (.waitHt p core t) := time_fits _
theorem barrier (p : PkgId) (core : CoreId) (t : Nat) : Statement (.barrier p core t) := time_fits _
theorem announce (p : PkgId) (core : CoreId) (t : Nat) : Statement (.announce p core t) := time_fits _
theorem jump (p : PkgId) (core : CoreId) (t : Nat) : Statement (.jump p core t) := time_fits _
theorem loop (p : PkgId) (core : CoreId) (t : Nat) : Statement (.loop p core t) := time_fits _
theorem stop (p : PkgId) (core : CoreId) (t : Nat) : Statement (.stop p core t) := time_fits _
theorem commandStart (p : PkgId) (core : CoreId) (queue : Fin 3) (stalls : Nat) (t : Nat) : Statement (.commandStart p core queue stalls t) := time_fits _
theorem commandRetire (p : PkgId) (core : CoreId) (num : Nat) (t : Nat) : Statement (.commandRetire p core num t) := time_fits _
theorem playComplete (p : PkgId) (core : CoreId) (t : Nat) : Statement (.playComplete p core t) := time_fits _
theorem shotClockExpire (p : PkgId) (core : CoreId) (t : Nat) : Statement (.shotClockExpire p core t) := time_fits _
theorem laneSlotsGranted (p : PkgId) (core : CoreId) (t : Nat) : Statement (.laneSlotsGranted p core t) := time_fits _
theorem kvPageArrive (p : PkgId) (core : CoreId) (lane : Nat) (page : Nat) (slot : Nat) (wait : Nat) (t : Nat) : Statement (.kvPageArrive p core lane page slot wait t) := time_fits _
theorem bistComplete (p : PkgId) (core : CoreId) (pass : Bool) (units : Nat) (bank : Nat) (t : Nat) : Statement (.bistComplete p core pass units bank t) := time_fits _
theorem lsZeroingComplete (p : PkgId) (core : CoreId) (t : Nat) : Statement (.lsZeroingComplete p core t) := time_fits _
theorem walkComplete (p : PkgId) (root : Root) (va : Nat) (r : Machine.Requester) (a : Machine.Access4) (t : Nat) : Statement (.walkComplete p root va r a t) := time_fits _
theorem invRange (p : PkgId) (src : CsrSource) (root : Nat) (pages : Nat) : Statement (.invRange p src root pages) := time_fits _
theorem invRoot (p : PkgId) (src : CsrSource) (root : Nat) : Statement (.invRoot p src root) := time_fits _
theorem invAll (p : PkgId) (src : CsrSource) (root : Nat) : Statement (.invAll p src root) := time_fits _
theorem invComplete (p : PkgId) : Statement (.invComplete p) := time_fits _
theorem xltRootWrite (p : PkgId) (src : CsrSource) (root : Root) (data : Nat) : Statement (.xltRootWrite p src root data) := time_fits _
theorem bar2Read (p : PkgId) (fn : Root) (off : Nat) (n : Nat) (t : Nat) : Statement (.bar2Read p fn off n t) := time_fits _
theorem bar2Write (p : PkgId) (fn : Root) (off : Nat) (data : Bytes) (poisoned : Bool) (t : Nat) : Statement (.bar2Write p fn off data poisoned t) := time_fits _
theorem cacheEntryError (p : PkgId) (leaf : Bool) (index : Nat) : Statement (.cacheEntryError p leaf index) := time_fits _
theorem loopWindowClose (p : PkgId) (slot : SlotId) (t : Nat) : Statement (.loopWindowClose p slot t) := time_fits _
theorem routeCountsSnapshot (p : PkgId) (pkt : Machine.Packet) (t : Nat) : Statement (.routeCountsSnapshot p pkt t) := time_fits _
theorem biasUpdateCompute (p : PkgId) (slot : SlotId) (t : Nat) : Statement (.biasUpdateCompute p slot t) := time_fits _
theorem biasGenerationReceive (p : PkgId) (pkt : Machine.Packet) (num : Nat) (epoch : Nat) (host : Bool) (layers : LayerBiases) (t : Nat) : Statement (.biasGenerationReceive p pkt num epoch host layers t) := time_fits _
theorem biasApply (p : PkgId) (slot : SlotId) (t : Nat) : Statement (.biasApply p slot t) := time_fits _
theorem biasCommit (p : PkgId) (src : CsrSource) (epoch : Nat) (t : Nat) : Statement (.biasCommit p src epoch t) := time_fits _
theorem routeCountsStep (p : PkgId) (pkt : Machine.Packet) (t : Nat) : Statement (.routeCountsStep p pkt t) := time_fits _
theorem planGo (p : PkgId) (src : CsrSource) (slot : SlotId) (id : Nat) (len : Nat) (t : Nat) : Statement (.planGo p src slot id len t) := time_fits _
theorem planDeadline (p : PkgId) (slot : SlotId) (id : Nat) (t : Nat) : Statement (.planDeadline p slot id t) := time_fits _
theorem planSectionReceive (p : PkgId) (pkt : Machine.Packet) (id : Nat) (section_ : Option Bytes) (t : Nat) : Statement (.planSectionReceive p pkt id section_ t) := time_fits _
theorem signalDetect (p : PkgId) (port : PortId) (t : Nat) : Statement (.signalDetect p port t) := time_fits _
theorem equalizeComplete (p : PkgId) (port : PortId) (polarity : Nat) (order : Nat) (t : Nat) : Statement (.equalizeComplete p port polarity order t) := time_fits _
theorem controlFrameReceive (p : PkgId) (port : PortId) (fr : Machine.Frame) (good : Bool) (t4 : Nat) : Statement (.controlFrameReceive p port fr good t4) := time_fits _
theorem identifyTimeout (p : PkgId) (port : PortId) (t : Nat) : Statement (.identifyTimeout p port t) := time_fits _
theorem qualifyWindowEnd (p : PkgId) (port : PortId) (errs : List Nat) (peer : Option Nat) (peerFlagged : Bool) (t : Nat) : Statement (.qualifyWindowEnd p port errs peer peerFlagged t) := time_fits _
theorem serviceWindowEnd (p : PkgId) (port : PortId) (errs : List Nat) (t : Nat) : Statement (.serviceWindowEnd p port errs t) := time_fits _
theorem spareSwitch (p : PkgId) (port : PortId) (count : Nat) (t : Nat) : Statement (.spareSwitch p port count t) := time_fits _
theorem spareAckTimeout (p : PkgId) (port : PortId) (t : Nat) : Statement (.spareAckTimeout p port t) := time_fits _
theorem fecAlignmentLoss (p : PkgId) (port : PortId) (t : Nat) : Statement (.fecAlignmentLoss p port t) := time_fits _
theorem retrainNoSignal (p : PkgId) (port : PortId) (t : Nat) : Statement (.retrainNoSignal p port t) := time_fits _
theorem lossOfSignal (p : PkgId) (port : PortId) (t : Nat) : Statement (.lossOfSignal p port t) := time_fits _
theorem retrain (p : PkgId) (port : PortId) (t : Nat) : Statement (.retrain p port t) := time_fits _
theorem clearFailed (p : PkgId) (port : PortId) (t : Nat) : Statement (.clearFailed p port t) := time_fits _
theorem lnkEnable (p : PkgId) (port : PortId) (t : Nat) : Statement (.lnkEnable p port t) := time_fits _
theorem lnkDisable (p : PkgId) (port : PortId) (t : Nat) : Statement (.lnkDisable p port t) := time_fits _
theorem dataFrameReceive (p : PkgId) (port : PortId) (fr : Machine.Frame) (good : Bool) (t : Nat) : Statement (.dataFrameReceive p port fr good t) := time_fits _
theorem letTimeout (p : PkgId) (port : PortId) (t : Nat) : Statement (.letTimeout p port t) := time_fits _
theorem packetForward (p : PkgId) (port : PortId) (pkt : Machine.Packet) (t : Nat) : Statement (.packetForward p port pkt t) := time_fits _
theorem openPacketSend (p : PkgId) (port : PortId) (t : Nat) : Statement (.openPacketSend p port t) := time_fits _
theorem slotOpen (p : PkgId) (port : PortId) (j : Nat) (t : Nat) : Statement (.slotOpen p port j t) := time_fits _
theorem schedToOpen (p : PkgId) (port : PortId) (t : Nat) : Statement (.schedToOpen p port t) := time_fits _
theorem writePacket (p : PkgId) (pkt : Machine.Packet) (t : Nat) : Statement (.writePacket p pkt t) := time_fits _
theorem reducePacket (p : PkgId) (pkt : Machine.Packet) (t : Nat) : Statement (.reducePacket p pkt t) := time_fits _
theorem readData (p : PkgId) (pkt : Machine.Packet) (t : Nat) : Statement (.readData p pkt t) := time_fits _
theorem ack (p : PkgId) (pkt : Machine.Packet) (t : Nat) : Statement (.ack p pkt t) := time_fits _
theorem atomic (p : PkgId) (pkt : Machine.Packet) (t : Nat) : Statement (.atomic p pkt t) := time_fits _
theorem semPostPacket (p : PkgId) (pkt : Machine.Packet) (t : Nat) : Statement (.semPostPacket p pkt t) := time_fits _
theorem readReq (p : PkgId) (pkt : Machine.Packet) (t : Nat) : Statement (.readReq p pkt t) := time_fits _
theorem playStart (p : PkgId) (pkt : Machine.Packet) (t : Nat) : Statement (.playStart p pkt t) := time_fits _
theorem playDone (p : PkgId) (pkt : Machine.Packet) (t : Nat) : Statement (.playDone p pkt t) := time_fits _
theorem linkState (p : PkgId) (pkt : Machine.Packet) (t : Nat) : Statement (.linkState p pkt t) := time_fits _
theorem stretchReq (p : PkgId) (pkt : Machine.Packet) (t : Nat) : Statement (.stretchReq p pkt t) := time_fits _
theorem stretch (p : PkgId) (pkt : Machine.Packet) (t : Nat) : Statement (.stretch p pkt t) := time_fits _
theorem barrierArrive (p : PkgId) (pkt : Machine.Packet) (t : Nat) : Statement (.barrierArrive p pkt t) := time_fits _
theorem barrierRelease (p : PkgId) (pkt : Machine.Packet) (t : Nat) : Statement (.barrierRelease p pkt t) := time_fits _
theorem barrierMismatch (p : PkgId) (pkt : Machine.Packet) (t : Nat) : Statement (.barrierMismatch p pkt t) := time_fits _
theorem join (p : PkgId) (pkt : Machine.Packet) (t : Nat) : Statement (.join p pkt t) := time_fits _
theorem collAbort (p : PkgId) (pkt : Machine.Packet) (t : Nat) : Statement (.collAbort p pkt t) := time_fits _
theorem fanoutRun (p : PkgId) (pkt : Machine.Packet) (data : Bytes) (t : Nat) : Statement (.fanoutRun p pkt data t) := time_fits _
theorem fanoutDone (p : PkgId) (pkt : Machine.Packet) (t : Nat) : Statement (.fanoutDone p pkt t) := time_fits _
theorem badPacketReceive (p : PkgId) (pkt : Machine.Packet) (t : Nat) : Statement (.badPacketReceive p pkt t) := time_fits _
theorem resendTimeout (p : PkgId) (dst : Nat) (slot : SlotId) (sid : Nat) (seq : Nat) (t : Nat) : Statement (.resendTimeout p dst slot sid seq t) := time_fits _
theorem deliveryGiveUp (p : PkgId) (dst : Nat) (slot : SlotId) (sid : Nat) (seq : Nat) (t : Nat) : Statement (.deliveryGiveUp p dst slot sid seq t) := time_fits _
theorem windowIdleFree (p : PkgId) (src : Nat) (slot : SlotId) (sid : Nat) (t : Nat) : Statement (.windowIdleFree p src slot sid t) := time_fits _
theorem sequenceQuietEnd (p : PkgId) (slot : SlotId) (t : Nat) : Statement (.sequenceQuietEnd p slot t) := time_fits _
theorem fabLoad (p : PkgId) (src : CsrSource) (slot : SlotId) (epoch : Nat) (t : Nat) : Statement (.fabLoad p src slot epoch t) := time_fits _
theorem templateLoad (p : PkgId) (slot : SlotId) (t : Nat) : Statement (.templateLoad p slot t) := time_fits _
theorem windowRegister (p : PkgId) (src : CsrSource) (slot : SlotId) (index : Nat) (t : Nat) : Statement (.windowRegister p src slot index t) := time_fits _
theorem windowDeregister (p : PkgId) (src : CsrSource) (slot : SlotId) (index : Nat) (t : Nat) : Statement (.windowDeregister p src slot index t) := time_fits _
theorem deregisterComplete (p : PkgId) (slot : SlotId) (t : Nat) : Statement (.deregisterComplete p slot t) := time_fits _
theorem callLoad (p : PkgId) (src : CsrSource) (slot : SlotId) (epoch : Nat) (t : Nat) : Statement (.callLoad p src slot epoch t) := time_fits _
theorem callTableLoad (p : PkgId) (slot : SlotId) (t : Nat) : Statement (.callTableLoad p slot t) := time_fits _
theorem callFire (p : PkgId) (slot : SlotId) (t : Nat) : Statement (.callFire p slot t) := time_fits _
theorem callEnd (p : PkgId) (slot : SlotId) (call : Nat) (t : Nat) : Statement (.callEnd p slot call t) := time_fits _
theorem collectiveTimeout (p : PkgId) (slot : SlotId) (call : Nat) (t : Nat) : Statement (.collectiveTimeout p slot call t) := time_fits _
theorem sqDoorbell (p : PkgId) (fn : Root) (q : Fin 256) (index : Nat) (t : Nat) : Statement (.sqDoorbell p fn q index t) := time_fits _
theorem cqDoorbell (p : PkgId) (fn : Root) (c : Fin 256) (index : Nat) (t : Nat) : Statement (.cqDoorbell p fn c index t) := time_fits _
theorem callNop (p : PkgId) (q : Fin 256) (entry : Bytes) (t : Nat) : Statement (.callNop p q entry t) := time_fits _
theorem callPlay (p : PkgId) (q : Fin 256) (entry : Bytes) (t : Nat) : Statement (.callPlay p q entry t) := time_fits _
theorem callStep (p : PkgId) (q : Fin 256) (entry : Bytes) (t : Nat) : Statement (.callStep p q entry t) := time_fits _
theorem callSemPost (p : PkgId) (q : Fin 256) (entry : Bytes) (t : Nat) : Statement (.callSemPost p q entry t) := time_fits _
theorem callCopy (p : PkgId) (q : Fin 256) (entry : Bytes) (data : Bytes) (t : Nat) : Statement (.callCopy p q entry data t) := time_fits _
theorem callStorage (p : PkgId) (q : Fin 256) (entry : Bytes) (t : Nat) : Statement (.callStorage p q entry t) := time_fits _
theorem callComplete (p : PkgId) (num : Nat) (t : Nat) : Statement (.callComplete p num t) := time_fits _
theorem interruptCoalesceTimeout (p : PkgId) (c : Fin 256) (t : Nat) : Statement (.interruptCoalesceTimeout p c t) := time_fits _
theorem hostCallTimeout (p : PkgId) (num : Nat) (t : Nat) : Statement (.hostCallTimeout p num t) := time_fits _
theorem vfFlr (p : PkgId) (n : SlotId) (t : Nat) : Statement (.vfFlr p n t) := time_fits _
theorem pfFlr (p : PkgId) (t : Nat) : Statement (.pfFlr p t) := time_fits _
theorem hostReset (p : PkgId) (linkDown : Bool) (t : Nat) : Statement (.hostReset p linkDown t) := time_fits _
theorem sqEnable (p : PkgId) (src : CsrSource) (q : Fin 256) (data : Nat) (t : Nat) : Statement (.sqEnable p src q data t) := time_fits _
theorem pcieTrainingStart (p : PkgId) (t : Nat) : Statement (.pcieTrainingStart p t) := time_fits _
theorem pcieConfigRequest (p : PkgId) (fn : Root) (req : Machine.CfgReq) (t : Nat) : Statement (.pcieConfigRequest p fn req t) := time_fits _
theorem stoConnect (p : PkgId) (src : CsrSource) (mask : Nat) (t : Nat) : Statement (.stoConnect p src mask t) := time_fits _
theorem stoDisconnect (p : PkgId) (src : CsrSource) (mask : Nat) (t : Nat) : Statement (.stoDisconnect p src mask t) := time_fits _
theorem nvmeCompletion (p : PkgId) (key : Nat) (nvme : Nat) (t : Nat) : Statement (.nvmeCompletion p key nvme t) := time_fits _
theorem nvmeTimeout (p : PkgId) (key : Nat) (t : Nat) : Statement (.nvmeTimeout p key t) := time_fits _
theorem keepAliveFailure (p : PkgId) (conn : Fin 16) (t : Nat) : Statement (.keepAliveFailure p conn t) := time_fits _
theorem reconnectAttempt (p : PkgId) (conn : Fin 16) (answer : Option (Nat × Nat)) (t : Nat) : Statement (.reconnectAttempt p conn answer t) := time_fits _
theorem storageFrameReceive (p : PkgId) (kind : Machine.StoFrame) (mine : Bool) (vlan : Option Nat) (ecn : Bool) (t : Nat) : Statement (.storageFrameReceive p kind mine vlan ecn t) := time_fits _
theorem rdmaAccess (p : PkgId) (key : Nat) (off : Nat) (data : Option Bytes) (n : Nat) (t : Nat) : Statement (.rdmaAccess p key off data n t) := time_fits _
theorem lineupStage (p : PkgId) (src : CsrSource) (slot : Nat) (t : Nat) : Statement (.lineupStage p src slot t) := time_fits _
theorem lineupStageCheckDone (p : PkgId) (t : Nat) : Statement (.lineupStageCheckDone p t) := time_fits _
theorem lineupDiscard (p : PkgId) (src : CsrSource) (t : Nat) : Statement (.lineupDiscard p src t) := time_fits _
theorem lineupApplySchedule (p : PkgId) (src : CsrSource) (epoch : Nat) (t : Nat) : Statement (.lineupApplySchedule p src epoch t) := time_fits _
theorem lineupApply (p : PkgId) (t : Nat) : Statement (.lineupApply p t) := time_fits _
theorem bootSetVerified (p : PkgId) (t : Nat) : Statement (.bootSetVerified p t) := time_fits _
theorem serialWaitTimeout (p : PkgId) (t : Nat) : Statement (.serialWaitTimeout p t) := time_fits _
theorem lineupLoadComplete (p : PkgId) (t : Nat) : Statement (.lineupLoadComplete p t) := time_fits _
theorem hbmTrainingComplete (p : PkgId) (failed : Nat) (t : Nat) : Statement (.hbmTrainingComplete p failed t) := time_fits _
theorem hbmTestComplete (p : PkgId) (failed : Nat) (repairs : List Nat) (t : Nat) : Statement (.hbmTestComplete p failed repairs t) := time_fits _
theorem hbmZeroingComplete (p : PkgId) (t : Nat) : Statement (.hbmZeroingComplete p t) := time_fits _
theorem portPhaseEnd (p : PkgId) (t : Nat) : Statement (.portPhaseEnd p t) := time_fits _
theorem tmcGoDispatch (p : PkgId) (t : Nat) : Statement (.tmcGoDispatch p t) := time_fits _
theorem go (p : PkgId) (src : CsrSource) (t : Nat) : Statement (.go p src t) := time_fits _
theorem goFallback (p : PkgId) (t : Nat) : Statement (.goFallback p t) := time_fits _
theorem waveStart (p : PkgId) (t : Nat) : Statement (.waveStart p t) := time_fits _
theorem mapComplete (p : PkgId) (t : Nat) : Statement (.mapComplete p t) := time_fits _
theorem readyDeadline (p : PkgId) (t : Nat) : Statement (.readyDeadline p t) := time_fits _
theorem resetCore (p : PkgId) (src : CsrSource) (target : Nat) (at_ : Bool) (t : Nat) : Statement (.resetCore p src target at_ t) := time_fits _
theorem resetCluster (p : PkgId) (src : CsrSource) (target : Nat) (at_ : Bool) (t : Nat) : Statement (.resetCluster p src target at_ t) := time_fits _
theorem resetPartition (p : PkgId) (src : CsrSource) (target : Nat) (at_ : Bool) (t : Nat) : Statement (.resetPartition p src target at_ t) := time_fits _
theorem resetPackage (p : PkgId) (src : CsrSource) (target : Nat) (at_ : Bool) (t : Nat) : Statement (.resetPackage p src target at_ t) := time_fits _
theorem resetRack (p : PkgId) (src : CsrSource) (target : Nat) (at_ : Bool) (t : Nat) : Statement (.resetRack p src target at_ t) := time_fits _
theorem resetAtTime (p : PkgId) (t : Nat) : Statement (.resetAtTime p t) := time_fits _
theorem pinReset (p : PkgId) (t : Nat) : Statement (.pinReset p t) := time_fits _
theorem auxPowerOn (p : PkgId) (variant : Fin 4) (t : Nat) : Statement (.auxPowerOn p variant t) := time_fits _
theorem brownOut (p : PkgId) (rail : Fin 11) (t : Nat) : Statement (.brownOut p rail t) := time_fits _
theorem watchdogExpiry (p : PkgId) (t : Nat) : Statement (.watchdogExpiry p t) := time_fits _
theorem criticalError (p : PkgId) (loc : Nat) (unit : Nat) (t : Nat) : Statement (.criticalError p loc unit t) := time_fits _
theorem drainComplete (p : PkgId) (scope : Nat) (target : Nat) (t : Nat) : Statement (.drainComplete p scope target t) := time_fits _
theorem drainTimeout (p : PkgId) (scope : Nat) (target : Nat) (t : Nat) : Statement (.drainTimeout p scope target t) := time_fits _
theorem absorbHoldEnd (p : PkgId) (t : Nat) : Statement (.absorbHoldEnd p t) := time_fits _
theorem linkResetHoldEnd (p : PkgId) (t : Nat) : Statement (.linkResetHoldEnd p t) := time_fits _
theorem clusterRetrainComplete (p : PkgId) (cl : ClusterId) (t : Nat) : Statement (.clusterRetrainComplete p cl t) := time_fits _
theorem partitionRelease (p : PkgId) (slot : SlotId) (t : Nat) : Statement (.partitionRelease p slot t) := time_fits _
theorem tmcIbi (p : PkgId) (slot : SlotId) (ht : Nat) (t : Nat) : Statement (.tmcIbi p slot ht t) := time_fits _
theorem ceSample (p : PkgId) (t : Nat) : Statement (.ceSample p t) := time_fits _
theorem retire (p : PkgId) (src : CsrSource) (core : Nat) (force : Bool) (t : Nat) : Statement (.retire p src core force t) := time_fits _
theorem substitutionCopyDone (p : PkgId) (core : CoreId) (t : Nat) : Statement (.substitutionCopyDone p core t) := time_fits _
theorem mapRecordWriteDone (p : PkgId) (ok : Bool) (t : Nat) : Statement (.mapRecordWriteDone p ok t) := time_fits _
theorem mapWriteRetry (p : PkgId) (t : Nat) : Statement (.mapWriteRetry p t) := time_fits _
theorem shelfFailure (shelf : Fin 6) : Statement (.shelfFailure shelf) := time_fits _
theorem busOutOfRange (rail : Fin 11) (t : Nat) : Statement (.busOutOfRange rail t) := time_fits _
theorem converterFailure (tray : TrayId) (t : Nat) : Statement (.converterFailure tray t) := time_fits _
theorem railInRegulation (p : PkgId) (rail : Fin 11) (mv : Nat) (amps : Nat) (t : Nat) : Statement (.railInRegulation p rail mv amps t) := time_fits _
theorem railUpTimeout (p : PkgId) (rail : Fin 11) (t : Nat) : Statement (.railUpTimeout p rail t) := time_fits _
theorem powerUpRetry (p : PkgId) (t : Nat) : Statement (.powerUpRetry p t) := time_fits _
theorem railOff (p : PkgId) (rail : Fin 11) (t : Nat) : Statement (.railOff p rail t) := time_fits _
theorem railDownStepTimeout (p : PkgId) (t : Nat) : Statement (.railDownStepTimeout p t) := time_fits _
theorem railStuckTimeout (p : PkgId) (rail : Fin 11) (t : Nat) : Statement (.railStuckTimeout p rail t) := time_fits _
theorem efuseReclose (p : PkgId) (variant : Fin 4) (t : Nat) : Statement (.efuseReclose p variant t) := time_fits _
theorem shareCompute (output : Nat) (inputs : Nat) (t : Nat) : Statement (.shareCompute output inputs t) := time_fits _
theorem boostChoice (p : PkgId) (t : Nat) : Statement (.boostChoice p t) := time_fits _
theorem powerSample (p : PkgId) (mw : Nat) (mv : Nat) (t : Nat) : Statement (.powerSample p mw mv t) := time_fits _
theorem droopCrossing (p : PkgId) (cl : ClusterId) (t : Nat) : Statement (.droopCrossing p cl t) := time_fits _
theorem announcePhaseWake (p : PkgId) (t : Nat) : Statement (.announcePhaseWake p t) := time_fits _
theorem energyInterval (p : PkgId) (ein : Nat) (eout : Nat) (ecl : List Nat) (bal : List Nat) (t : Nat) : Statement (.energyInterval p ein eout ecl bal t) := time_fits _
theorem energyPublish (t : Nat) : Statement (.energyPublish t) := time_fits _
theorem junctionSample (p : PkgId) (cores : List Nat) (hub : Nat) (t : Nat) : Statement (.junctionSample p cores hub t) := time_fits _
theorem thermalGateUpdate (p : PkgId) (t : Nat) : Statement (.thermalGateUpdate p t) := time_fits _
theorem thermalTrip (p : PkgId) (t : Nat) : Statement (.thermalTrip p t) := time_fits _
theorem supplyUpdate (tray : TrayId) (temp : Int) (flow : Nat) (t : Nat) : Statement (.supplyUpdate tray temp flow t) := time_fits _
theorem supplyStale (p : PkgId) (t : Nat) : Statement (.supplyStale p t) := time_fits _
theorem thetaWindow (p : PkgId) (t : Nat) : Statement (.thetaWindow p t) := time_fits _
theorem junctionMinute (p : PkgId) (t : Nat) : Statement (.junctionMinute p t) := time_fits _
theorem thermalRelease (p : PkgId) (src : CsrSource) (t : Nat) : Statement (.thermalRelease p src t) := time_fits _
theorem coolantFaultCondition (tray : TrayId) (row : Fin 8) (t : Nat) : Statement (.coolantFaultCondition tray row t) := time_fits _
theorem heartbeatSend (node : Fin 34) (health : Nat) (t : Nat) : Statement (.heartbeatSend node health t) := time_fits _
theorem heartbeat (ver : Nat) (node : Fin 34) (seen : Nat) (health : Nat) (t : Nat) : Statement (.heartbeat ver node seen health t) := time_fits _
theorem claim (ver : Nat) (umpire : Fin 2) (t : Nat) : Statement (.claim ver umpire t) := time_fits _
theorem umpireRelease (ver : Nat) (umpire : Fin 2) (cause : Nat) (t : Nat) : Statement (.umpireRelease ver umpire cause t) := time_fits _
theorem powerCmdOn (ver : Nat) (node : Fin 34) (tray : TrayId) (mask : Fin 16) (t : Nat) : Statement (.powerCmdOn ver node tray mask t) := time_fits _
theorem powerCmdOff (ver : Nat) (node : Fin 34) (tray : TrayId) (mask : Fin 16) (t : Nat) : Statement (.powerCmdOff ver node tray mask t) := time_fits _
theorem powerCmdEfuseOpen (ver : Nat) (node : Fin 34) (tray : TrayId) (mask : Fin 16) (t : Nat) : Statement (.powerCmdEfuseOpen ver node tray mask t) := time_fits _
theorem powerCmdEfuseClose (ver : Nat) (node : Fin 34) (tray : TrayId) (mask : Fin 16) (t : Nat) : Statement (.powerCmdEfuseClose ver node tray mask t) := time_fits _
theorem powerDone (ver : Nat) (id : Nat) (st : Nat) : Statement (.powerDone ver id st) := time_fits _
theorem alert (ver : Nat) (unit : Nat) (wholeTray : Bool) (t : Nat) : Statement (.alert ver unit wholeTray t) := time_fits _
theorem presence (ver : Nat) (tray : TrayId) (inserted : Bool) (input : Bool) (t : Nat) : Statement (.presence ver tray inserted input t) := time_fits _
theorem share (ver : Nat) (node : Fin 34) (tray : TrayId) (watts : Nat) (t : Nat) : Statement (.share ver node tray watts t) := time_fits _
theorem units (ver : Nat) (node : Fin 34) (tray : TrayId) (states : List Nat) : Statement (.units ver node tray states) := time_fits _
theorem maint (ver : Nat) (node : Fin 34) (tray : TrayId) (on : Bool) : Statement (.maint ver node tray on) := time_fits _
theorem primaryLineRelease (umpire : Fin 2) (t : Nat) : Statement (.primaryLineRelease umpire t) := time_fits _
theorem primaryAssert (umpire : Fin 2) (t : Nat) : Statement (.primaryAssert umpire t) := time_fits _
theorem quorumLoss (umpire : Fin 2) (t : Nat) : Statement (.quorumLoss umpire t) := time_fits _
theorem mirrorSync : Statement (.mirrorSync) := time_fits _
theorem noPrimaryTimeout (t : Nat) : Statement (.noPrimaryTimeout t) := time_fits _
theorem soloEntry (tray : TrayId) (t : Nat) : Statement (.soloEntry tray t) := time_fits _
theorem umpirePoll (answers : Nat) (t : Nat) : Statement (.umpirePoll answers t) := time_fits _
theorem rackSummaryRead (rack : Nat) (part : Nat) (ready : Bool) (cores : Nat) (reach : Bool) (rings : Bool) (excluded : List Nat) (t : Nat) : Statement (.rackSummaryRead rack part ready cores reach rings excluded t) := time_fits _
theorem maintWindowExpire (t : Nat) : Statement (.maintWindowExpire t) := time_fits _
theorem connectorFault (tray : TrayId) (code : Nat) (kind : Nat) (t : Nat) : Statement (.connectorFault tray code kind t) := time_fits _
theorem serviceButton (tray : TrayId) (t : Nat) : Statement (.serviceButton tray t) := time_fits _
theorem redfishRetire (p : PkgId) (core : Nat) (force : Bool) (t : Nat) : Statement (.redfishRetire p core force t) := time_fits _
theorem redfishThermalRelease (p : PkgId) (t : Nat) : Statement (.redfishThermalRelease p t) := time_fits _
theorem redfishReset (p : PkgId) (scope : Fin 6) (target : Nat) (at_ : Bool) (ht : Nat) (t : Nat) : Statement (.redfishReset p scope target at_ ht t) := time_fits _
theorem redfishClearFailed (p : PkgId) (port : PortId) (t : Nat) : Statement (.redfishClearFailed p port t) := time_fits _
theorem redfishLocate (p : PkgId) (port : PortId) (t : Nat) : Statement (.redfishLocate p port t) := time_fits _
theorem openMaintenanceWindow (tray : Option TrayId) (minutes : Nat) (t : Nat) : Statement (.openMaintenanceWindow tray minutes t) := time_fits _
theorem closeMaintenanceWindow (tray : Option TrayId) (t : Nat) : Statement (.closeMaintenanceWindow tray t) := time_fits _
theorem powerPackage (p : PkgId) (on : Bool) (t : Nat) : Statement (.powerPackage p on t) := time_fits _
theorem setPartitionReady (part : Nat) (ready : Bool) : Statement (.setPartitionReady part ready) := time_fits _
theorem rosterSubmit (tray : TrayId) (image : Bytes) (t : Nat) : Statement (.rosterSubmit tray image t) := time_fits _
theorem stageWrite (p : PkgId) (src : CsrSource) (off : Nat) (t : Nat) : Statement (.stageWrite p src off t) := time_fits _
theorem eraseSlot (p : PkgId) (src : CsrSource) (t : Nat) : Statement (.eraseSlot p src t) := time_fits _
theorem readBack (p : PkgId) (src : CsrSource) (off : Nat) (t : Nat) : Statement (.readBack p src off t) := time_fits _
theorem bootVerify (p : PkgId) (src : CsrSource) (t : Nat) : Statement (.bootVerify p src t) := time_fits _
theorem voteReceive (target : Nat) (yes : Bool) (st : Nat) (t : Nat) : Statement (.voteReceive target yes st t) := time_fits _
theorem stagingTimeout (t : Nat) : Statement (.stagingTimeout t) := time_fits _
theorem bootAbort (p : PkgId) (src : CsrSource) (t : Nat) : Statement (.bootAbort p src t) := time_fits _
theorem bootCommit (p : PkgId) (src : CsrSource) (t : Nat) : Statement (.bootCommit p src t) := time_fits _
theorem rosterActivate (target : Nat) (t : Nat) : Statement (.rosterActivate target t) := time_fits _
theorem bootConfirm (p : PkgId) (src : CsrSource) (t : Nat) : Statement (.bootConfirm p src t) := time_fits _
theorem bootRevert (p : PkgId) (src : CsrSource) (t : Nat) : Statement (.bootRevert p src t) := time_fits _
theorem revertAtTime (target : Nat) (t : Nat) : Statement (.revertAtTime target t) := time_fits _
theorem confirmRoster (tray : TrayId) (t : Nat) : Statement (.confirmRoster tray t) := time_fits _
theorem revertRoster (tray : TrayId) (t : Nat) : Statement (.revertRoster tray t) := time_fits _
theorem trialWindowEnd (target : Nat) (t : Nat) : Statement (.trialWindowEnd target t) := time_fits _
theorem trialSilenceTimeout (node : Fin 34) (t : Nat) : Statement (.trialSilenceTimeout node t) := time_fits _
theorem coordinatorRestart (tray : TrayId) (t : Nat) : Statement (.coordinatorRestart tray t) := time_fits _
theorem pcieLinkTrained (p : PkgId) (rate : Nat) (width : Nat) (flit : Bool) (t : Nat) : Statement (.pcieLinkTrained p rate width flit t) := time_fits _
theorem storageLinkChange (p : PkgId) (st : Fin 3) (t : Nat) : Statement (.storageLinkChange p st t) := time_fits _
theorem pkgResetRelease (p : PkgId) (t : Nat) : Statement (.pkgResetRelease p t) := time_fits _
theorem auxPowerLoss (p : PkgId) (t : Nat) : Statement (.auxPowerLoss p t) := time_fits _
theorem shelfRestored (shelf : Fin 6) : Statement (.shelfRestored shelf) := time_fits _
theorem hbmTemperatureSample (p : PkgId) (temps : List Nat) (t : Nat) : Statement (.hbmTemperatureSample p temps t) := time_fits _
theorem coolantConditionEnd (tray : TrayId) (row : Fin 8) : Statement (.coolantConditionEnd tray row) := time_fits _
theorem connectorReenable (tray : TrayId) (code : Nat) (cleared : Nat) (t : Nat) : Statement (.connectorReenable tray code cleared t) := time_fits _
theorem callAtHtAction (p : PkgId) (t : Nat) : Statement (.callAtHtAction p t) := time_fits _
theorem staggeredActivation (node : Fin 34) (t : Nat) : Statement (.staggeredActivation node t) := time_fits _

end Sys2Proof.Laws.Wf
end

