-- ==== Sys2Proof/Tests/Slice0.lean ====
section
/-! SUPPORT. Checks of the operands, a state for the hypotheses of every statement, and small tests of single steps. -/

open Sys2Proof Sys2Proof.Machine

namespace Sys2Proof.Tests

-- One theorem after another: many at once would hold many threads waiting for the kernel.
set_option Elab.async false

/-- The rack after reset with P00 changed. -/
def onA (f : Pkg → Pkg) : State := State.reset.updPkg 0 f

/-- P00 after reset, changed. -/
def pkgA (f : Pkg → Pkg) : Pkg := f (State.reset.pkg 0)

/-! ### Ill-formed operands are refused -/

theorem test_wf_accepts : [Instr.registerWrite 0 .pf 0x3FFFFFC 32 (2 ^ 32 - 1), .freeLimit 0 (2 ^ 64 - 1), .ack 0 {} 0,
    .dataFrameReceive 0 0 {} true 0, .resendTimeout 0 (2 ^ 18 - 1) 0 4095 (2 ^ 32 - 1) 0, .callEnd 0 3 1023 0].all Instr.wf = true := by
  decide +kernel

/-- An ill-formed access, datum or Hall Time (R14, R41, R981). -/
theorem test_wf_access_and_time : [Instr.registerWrite 0 .pf 4 64 0, .registerWrite 0 .pf 0 16 0, .registerWrite 0 .pf 0x4000000 32 0,
    .registerWrite 0 .pf 0 32 (2 ^ 32), .readClear 0 .pf 2 32, .freeLimit 0 (2 ^ 64), .referenceLost (2 ^ 64) 0, .referenceQualified (2 ^ 64) 0,
    .coldHallSeed 0 false (2 ^ 64) 0, .coldHallSeed 0 false 0 (2 ^ 64), .isolatedRackSeed 0 (2 ^ 64) 0, .tmcIbi 0 0 (2 ^ 64) 0,
    .redfishReset 0 4 0 true (2 ^ 64) 0, .connectorReenable 0 1 (2 ^ 64) 0].all (fun i => !i.wf) = true := by decide +kernel

/-- A field of a packet or a frame that does not fit (Tables 9-2, 9-3, 10-1). -/
theorem test_wf_packet_fields : [({ type := 256 } : Packet), { vc := 256 }, { route := 65536 }, { hops := 256 }, { len := 256 },
    { stream := 65536 }, { src := 2 ^ 32 }, { dst := 2 ^ 32 }, { seq := 2 ^ 32 }, { born := 2 ^ 32 }, { addr := 2 ^ 64 },
    { body := List.replicate 8193 0 }, { crc := 2 ^ 32 }].all (fun k => !k.wf) = true := by decide +kernel
theorem test_wf_frame_fields : [({ type := 256 } : Frame), { count := 65536 }, { letSeq := 65536 }, { letAck := 65536 },
    { payload := List.replicate 625 0 }, { pktStart := 65536 }, { notice := 256 }, { spareReq := 256 }, { spareAck := 256 },
    { rxActive := 256 }, { switchAt := 65536 }].all (fun f => !f.wf) = true := by decide +kernel

/-- Every command that carries a packet or a frame refuses an ill-formed one. -/
theorem test_wf_packets :
    let k : Packet := { type := 256 }
    [Instr.routeCountsSnapshot 0 k 0, .biasGenerationReceive 0 k 0 0 false [] 0, .routeCountsStep 0 k 0, .planSectionReceive 0 k 0 none 0,
      .packetForward 0 0 k 0, .writePacket 0 k 0, .reducePacket 0 k 0, .readData 0 k 0, .ack 0 k 0, .atomic 0 k 0, .semPostPacket 0 k 0,
      .readReq 0 k 0, .playStart 0 k 0, .playDone 0 k 0, .linkState 0 k 0, .stretchReq 0 k 0, .stretch 0 k 0, .barrierArrive 0 k 0,
      .barrierRelease 0 k 0, .barrierMismatch 0 k 0, .join 0 k 0, .collAbort 0 k 0, .fanoutRun 0 k [] 0, .fanoutDone 0 k 0,
      .badPacketReceive 0 k 0, .controlFrameReceive 0 0 { type := 256 } true 0, .dataFrameReceive 0 0 { type := 256 } true 0].all
        (fun i => !i.wf) = true := by decide +kernel

/-- Operands wider than their fields. -/
theorem test_wf_widths : [Instr.kvPageArrive 0 0 0 0 16 0 0, .bistComplete 0 0 true 65536 0 0, .bistComplete 0 0 true 0 256 0,
    .xltRootWrite 0 .pf 0 (2 ^ 64), .biasGenerationReceive 0 {} 0 (2 ^ 48) false [] 0, .biasCommit 0 .pf (2 ^ 48) 0, .planGo 0 .pf 0 0 (2 ^ 32) 0,
    .equalizeComplete 0 0 32 0 0, .spareSwitch 0 0 65536 0, .resendTimeout 0 (2 ^ 18) 0 0 0 0, .deliveryGiveUp 0 0 0 4096 0 0,
    .windowIdleFree 0 (2 ^ 18) 0 0 0, .fabLoad 0 .pf 0 (2 ^ 48) 0, .windowRegister 0 .pf 0 4096 0, .windowDeregister 0 .pf 0 4096 0,
    .callLoad 0 .pf 0 (2 ^ 48) 0, .callEnd 0 0 1024 0, .collectiveTimeout 0 0 1024 0, .sqDoorbell 0 0 0 65536 0, .cqDoorbell 0 0 0 65536 0,
    .sqEnable 0 .pf 0 (2 ^ 64) 0, .stoConnect 0 .pf 65536 0, .stoDisconnect 0 .pf 65536 0, .lineupStage 0 .i3c 2 0,
    .lineupApplySchedule 0 .i3c (2 ^ 48) 0].all (fun i => !i.wf) = true := by decide +kernel
theorem test_wf_widths_of_the_rack : [Instr.hbmTrainingComplete 0 256 0, .hbmTestComplete 0 256 (List.replicate 8 0) 0, .resetCore 0 .i3c 65536 false 0,
    .resetCluster 0 .i3c 65536 false 0, .resetPartition 0 .i3c 65536 false 0, .resetPackage 0 .i3c 65536 false 0,
    .resetRack 0 .i3c 65536 false 0, .criticalError 0 65536 0 0, .heartbeat 256 1 0 0 0, .heartbeat 1 1 (2 ^ 64) 0 0, .claim 256 0 0,
    .umpireRelease 256 0 1 0, .powerCmdOn 256 1 0 0 0, .powerCmdOff 256 1 0 0 0, .powerCmdEfuseOpen 256 1 0 0 0,
    .powerCmdEfuseClose 256 1 0 0 0, .powerDone 256 0 0, .alert 256 0 false 0, .presence 256 0 true true 0, .share 256 1 0 0 0,
    .units 256 1 0 [], .maint 256 1 0 true, .umpirePoll (2 ^ 24) 0].all (fun i => !i.wf) = true := by decide +kernel

/-- Lists that are not as long as what they measure. -/
theorem test_wf_lengths : [Instr.markerReceive 0 0 (List.replicate 65 0) 0, .qualifyWindowEnd 0 0 [0, 0, 0, 0] none false 0,
    .serviceWindowEnd 0 0 [0, 0, 0, 0, 0, 0] 0, .callNop 0 0 [] 0, .callPlay 0 0 [] 0, .callStep 0 0 [] 0, .callSemPost 0 0 [] 0,
    .callCopy 0 0 [] [] 0, .callStorage 0 0 (List.replicate 65 0) 0, .hbmTestComplete 0 0 [] 0, .energyInterval 0 0 0 [0] [0, 0, 0, 0] 0,
    .energyInterval 0 0 0 [0, 0, 0, 0] [] 0, .junctionSample 0 [] 0 0, .hbmTemperatureSample 0 [0] 0].all (fun i => !i.wf) = true := by
  decide +kernel

/-! ### A state for every hypothesis -/

/-- P00 as a candidate root. -/
def rootA (k : Pkg) : Pkg := { k with lup := { k.lup with active := some { time := { candidates := [0] } } } }

theorem witness_HallTimeIsKept :
    ((State.reset.pkg 3).id < 4 ∧ ((onA rootA).pkg 0).rootKey < 4) ∧
    (let s : State := { State.reset with card := { State.reset.card with state := 1 } }
     s.card.state = 1 ∧ 0 + 3 * syncTicks s.timeSection.syncLog ≤ 20000000000) ∧
    State.reset.card.lastPps + 4000000000 ≤ 4000000000 ∧
    (State.reset.card.state ≠ 1 ∧ 0 + 120000000000 ≤ 120000000000) ∧
    (let s : State := { State.reset with card := { State.reset.card with state := 2, lostAt := some 0, limitPosted := false } }
     s.card.state = 2 ∧ s.card.limitPosted = false ∧ s.card.lostAt = some 0 ∧ 0 + s.timeSection.holdover * 2000000000 ≤ 172800000000000) := by
  decide +kernel

/-- A marker of zeros, with its CRC-32C. -/
def markerA : Bytes := let b := (0x5A : BitVec 8) :: List.replicate 47 0; b ++ leBytes 4 (crc32c b)

theorem witness_HallTimeIsKept_markers :
    ((onA (fun k => k.setF (F.LNK_ST 0) 5)).pkg 0).getF (F.LNK_ST 0) = 5 ∧ markerCrcGood markerA = true ∧ markerReservedZero markerA = true ∧
    markerCrcGood (List.replicate 64 1) = false ∧
    (let k := (onA (fun k => { k.setF F.HTM_STATE 3 with now := 2000000000 })).pkg 0
     k.getF F.HTM_STATE = 3 ∧ k.time.freeSince + 2000000000 ≤ max k.now 0) ∧
    (let k := (onA (fun k => (rootA k).setF F.HTM_IS_ROOT 1)).pkg 0
     (2 ^ 64 - 1 < 2 ^ 64) ∧ k.id < 4 ∧ k.rootKey < 4 ∧ k.flag F.HTM_IS_ROOT = true) ∧
    State.reset.noneValid = true := by decide +kernel
theorem witness_HallTimeIsKept_seed :
    let s := State.reset.mapPkgs (fun k => { k with bring := { k.bring with portsAt := some 0 }, now := 4000000000 })
    s.noneValid = true ∧ ∀ p : PkgId, (s.pkg p).bring.portsAt = some 0 ∧ 0 + 4000000000 ≤ max (s.pkg p).now 0 := by decide +kernel

theorem witness_VolleysAndEpochs :
    let k := (onA (fun k => (k.setF F.HTM_VALID 1).setF F.LUP_SLOTS 8)).pkg 0
    2048 % 2048 = 0 ∧ k.getF F.HTM_VALID = 1 ∧ k.slotHeld (3 : SlotId) = true := by decide +kernel

/-- P00 with a port in a state, and a lineup that enables every strand. -/
def portA (n st : Nat) (k : Pkg) : Pkg := { k.setF (F.LNK_ST n) st with lup := { k.lup with active := some {} } }

theorem witness_PortsComeUp :
    (let k := (onA (portA 15 0)).pkg 0; k.getF (F.LNK_ST 15) = 0 ∧ k.portEnabled 15 = true) ∧
    ((onA (portA 0 1)).pkg 0).getF (F.LNK_ST 0) = 1 ∧ ((onA (portA 19 8)).pkg 0).getF (F.LNK_ST 19) = 8 ∧
    ((onA (portA 19 2)).pkg 0).getF (F.LNK_ST 19) = 2 ∧
    (let k := (onA (portA 0 3)).pkg 0; k.getF (F.LNK_ST 0) = 3 ∧ (k.lport 0).entered + 200000000 ≤ max k.now 200000000) ∧
    (let k := (onA (portA 0 4)).pkg 0; k.getF (F.LNK_ST 0) = 4 ∧ ∀ i, i < 5 → [42500, 42500, 42500, 42500, 42500].getD i 0 ≤ 42500) ∧
    (let k := (onA (fun k => (portA 0 4 k).setF (F.LNK_RETRAINING 0) 1)).pkg 0
     k.getF (F.LNK_ST 0) = 4 ∧ k.getF (F.LNK_RETRAINING 0) = 1) ∧
    (let k := (onA (fun k => let k := portA 0 4 k; k.setLport 0 { k.lport 0 with attempts := 2 })).pkg 0
     k.getF (F.LNK_ST 0) = 4 ∧ 2 ≤ (k.lport 0).attempts) := by decide +kernel

/-- A request for lane 1's replacement, acknowledged or not. -/
def spareA (acked : Bool) (k : Pkg) : Pkg :=
  let k := (portA 0 5 k).setF (F.LNK_LN_ROLE 0 4) 1
  k.setLport 0 { k.lport 0 with spareReq := some { lane := 1, switchAt := 7, sentAt := 0, acked := acked } }

theorem witness_LanesAreServed :
    let roles := fun (k : Pkg) => (portA 0 5 k).setF (F.LNK_LN_ROLE 0 4) 1
    (let k := (onA (portA 0 5)).pkg 0; k.getF (F.LNK_ST 0) = 5 ∧ ∀ i, i < 5 → [4250000, 0, 0, 0, 0].getD i 0 ≤ 4250000) ∧
    (let k := (onA roles).pkg 0
     k.getF (F.LNK_ST 0) = 5 ∧ 51000000 < [51000001, 0, 0, 0, 4250000].getD 0 0 ∧
       (∀ i, i < 5 → i ≠ 0 → [51000001, 0, 0, 0, 4250000].getD i 0 ≤ 4250000) ∧ k.getF (F.LNK_LN_ROLE 0 0) = 0 ∧
       k.getF (F.LNK_LN_ROLE 0 4) = 1 ∧ (k.lport 0).spareReq = none) ∧
    (let k := (onA (portA 0 5)).pkg 0
     k.getF (F.LNK_ST 0) = 5 ∧ k.getF (F.LNK_LN_ROLE 0 0) = 0 ∧ (∀ i, i < 5 → k.getF (F.LNK_LN_ROLE 0 i) ≠ 1) ∧
       (k.lport 0).retrains.length < 3) ∧
    (let k := (onA (spareA true)).pkg 0
     k.getF (F.LNK_ST 0) = 5 ∧ (k.lport 0).spareReq = some ⟨1, 7, 0, true⟩ ∧ k.getF (F.LNK_LN_ROLE 0 1) ≠ 1 ∧
       k.getF (F.LNK_LN_ROLE 0 4) = 1 ∧ ∀ i, i < 4 → k.getF (F.LNK_LN_ROLE 0 i) ≠ 1) := by decide +kernel

theorem witness_PortsLeaveUp :
    (let k := (onA (spareA false)).pkg 0
     k.getF (F.LNK_ST 0) = 5 ∧ (k.lport 0).spareReq = some ⟨1, 7, 0, false⟩ ∧ 0 + 20000 ≤ max k.now 20000) ∧
    (let k := (onA (fun k => (portA 0 2 k).setF (F.LNK_RETRAINING 0) 1)).pkg 0
     k.getF (F.LNK_ST 0) = 2 ∧ k.getF (F.LNK_RETRAINING 0) = 1 ∧ (k.lport 0).entered + 2000000000 ≤ max k.now 2000000000) ∧
    ((onA (portA 19 6)).pkg 0).getF (F.LNK_ST 19) = 6 ∧
    (let k := (onA (fun k => (portA 0 7 k).setF F.LNK_MAINT_EN 1)).pkg 0
     k.getF (F.LNK_ST 0) = 7 ∧ k.getF F.LNK_MAINT_EN = 1) ∧
    (State.reset.pkg 0).getF F.LNK_MAINT_EN = 0 := by decide +kernel

/-- P00 whose port 0 holds one frame in its replay buffer. -/
def replayA (lets : Nat) (k : Pkg) : Pkg :=
  let k := (portA 0 5 k).setF (F.FAB_LETS_RUN 0) lets
  k.setFport 0 { k.fport 0 with replay := [({}, 0)], frCount := 1 }

theorem witness_PortsSendFrames :
    (let k := (onA (replayA 0)).pkg 0; k.getF (F.LNK_ST 0) = 5 ∧ (k.fport 0).frCount % 64 ≠ 0 ∧ (k.fport 0).letQueue = [] ∧ (k.fport 0).txBytes = []) ∧
    (let k := (onA (fun k => let k := replayA 0 k; k.setFport 0 { k.fport 0 with letQueue := [{}] })).pkg 0
     k.getF (F.LNK_ST 0) = 5 ∧ (k.fport 0).frCount % 64 ≠ 0 ∧ (k.fport 0).letQueue = [{}]) ∧
    (let k := (onA (fun k => let k := replayA 0 k; k.setFport 0 { k.fport 0 with txBytes := [1] })).pkg 0
     (k.fport 0).letQueue = [] ∧ (k.fport 0).txBytes ≠ [] ∧ (k.fport 0).replay.length < 102) ∧
    (let k := (onA (portA 0 5)).pkg 0; k.getF (F.LNK_ST 0) = 5 ∧ (k.fport 0).frCount % 64 = 0) := by decide +kernel

theorem witness_FramesAreReceived :
    ((onA (portA 0 5)).pkg 0).getF (F.LNK_ST 0) = 5 ∧ (({ type := 1 } : Frame).type = 1 ∧ bit ({ type := 1 } : Frame).letAck 15 = false) ∧
    (let k := (onA (fun k => let k := portA 0 3 k; k.setLport 0 { k.lport 0 with idRun := 15 })).pkg 0
     k.getF (F.LNK_ST 0) = 3 ∧ (k.lport 0).idRun = 15 ∧ (k.lport 0).idLast = ({ type := 2 } : Frame).identity ∧
       ({ type := 2 } : Frame).notice = 0) ∧
    ((onA (portA 0 4)).pkg 0).getF (F.LNK_ST 0) = 4 ∧ ((onA (portA 0 6)).pkg 0).getF (F.LNK_ST 0) = 6 := by decide +kernel

theorem witness_LetsResend :
    (let k := (onA (replayA 7)).pkg 0
     k.getF (F.LNK_ST 0) = 5 ∧ (k.fport 0).replay = [({}, 0)] ∧ 0 + 4000 ≤ max k.now 4000 ∧ k.getF (F.FAB_LETS_RUN 0) < 8) ∧
    (let k := (onA (replayA 8)).pkg 0
     k.getF (F.LNK_ST 0) = 5 ∧ 8 ≤ k.getF (F.FAB_LETS_RUN 0) ∧ (k.lport 0).retrains.length < 3) := by decide +kernel

theorem witness_PacketsAreForwarded :
    (((onA (fun k => k.setF F.HTM_VALID 1)).pkg 0).at 4000001).expired {} = true ∧
    (let k := (onA (fun k => (portA 0 5 k).setF (F.LNK_MAPPED_OUT 0) 0)).pkg 0
     let pkt : Packet := { dst := 1, route := 8192 }
     (k.at 4000000).expired pkt = false ∧ k.lup.active.isSome = true ∧ pkt.dst ≠ k.target ∧
       (if bit pkt.route 13 then some (bits pkt.route 3 0) else (routeHops pkt.route)[bits pkt.hops 6 0]?) = some 0 ∧
       k.getF (F.LNK_ST (hopPort 0)) = 5 ∧ k.getF (F.LNK_MAPPED_OUT (hopPort 0)) = 0) ∧
    (let k := (onA (portA 0 4)).pkg 0; k.lup.active.isSome = true ∧ k.getF (F.LNK_ST (hopPort 0)) ≠ 5) := by decide +kernel

theorem witness_RegisterAccessCodes : 2 ^ 64 - 1 < 2 ^ 64 ∧ 8 < 9 := by decide
theorem witness_MalformedAccessIsRecorded :
    ¬ (32 = 32 ∧ 2 % 4 = 0 ∨ 32 = 64 ∧ 2 % 8 = 0) ∧ ¬ (64 = 32 ∧ 4 % 4 = 0 ∨ 64 = 64 ∧ 4 % 8 = 0) ∧
      ¬ (8 = 32 ∧ 0 % 4 = 0 ∨ 8 = 64 ∧ 0 % 8 = 0) := by decide

/-- P00 with port 0 in UP and one queue. -/
def queueA (qs : List Queued) (k : Pkg) : Pkg :=
  let k := (portA 0 5 k).setF F.HTM_STATE 2
  k.setFport 0 { k.fport 0 with queue := qs, crHeard := List.replicate 16 1000 }
/-- A scheduled packet that was forwarded, and its template entry. -/
def schedA : Queued := { pkt := { len := 1 }, sched := true, fwd := true, since := 0, chan := 0 }
def entryA : TmplEntry := { port := 0, kind := 1, volley := 0, slot := 8, who := 0, orig := 0 }
/-- Slot 0 owns slot 8 of port 0 and has one forward entry there. -/
def slotA (k : Pkg) : Pkg :=
  ((queueA [schedA] k).setTables 0 { period := 1, tmpl := [entryA], active := [entryA] }).setF (F.FAB_OWNED 0 0) 256

theorem witness_PacketsLeaveByClass :
    (let q : Queued := { pkt := { len := 1 }, sched := false, fwd := false, since := 0, chan := 0 }
     let k := (onA (queueA [q])).pkg 0
     k.getF (F.LNK_ST 0) = 5 ∧ k.fab.held = [] ∧ k.nextOpen 0 = some q ∧ linkTicks q.pkt.size ≤ k.ticksToSlot 0 (max k.now 0)) ∧
    (let k := (onA slotA).pkg 0
     k.getF (F.LNK_ST 0) = 5 ∧ 1664 % 2048 = 208 * 8 ∧ k.schedAllowed = true ∧ k.fab.held = [] ∧ k.slotOwner 0 8 1664 = some 0 ∧
       k.slotEntries 0 0 8 [] = [entryA] ∧ (k.tables 0).plans = [] ∧ (k.fport 0).queue = [schedA] ∧ schedA.pkt.slot = 0 ∧
       schedA.pkt.sid = entryA.who ∧ schedA.pkt.size ≤ 8232) ∧
    (let k := (onA (queueA [schedA])).pkg 0
     k.getF (F.LNK_ST 0) = 5 ∧ (k.fport 0).queue = [schedA] ∧ schedA.pkt.isOpen = false ∧
       0 + (k.tables schedA.pkt.slot).period * 2048 ≤ max k.now 0 ∧
       ∀ e ∈ (k.tables schedA.pkt.slot).active, ¬ (e.kind = 1 ∧ e.port = 0 ∧ e.who = schedA.pkt.sid)) := by decide +kernel

/-- P00 with one unacknowledged packet for P01, and a lineup. -/
def unackedA (k : Pkg) : Pkg :=
  { k with fab := { k.fab with unacked := [{ pkt := { dst := 1 }, sentAt := 0, sched := false, chan := 0, owner := .none }] },
           lup := { k.lup with active := some { routes := (List.range 72).map (fun d => d) } } }

theorem witness_FabricTimersAndTables :
    (let k := (onA (fun k => (unackedA k).setF F.FAB_RESEND 400000)).pkg 0
     k.fab.unackedAt 1 0 0 0 = some { pkt := { dst := 1 }, sentAt := 0, sched := false, chan := 0, owner := .none } ∧
       0 + k.getF F.FAB_RESEND ≤ max k.now 400000 ∧ k.fab.mayInject 1 = true) ∧
    (let k := (onA (fun k => (List.range 9).foldl (fun k n => k.setF (F.LNK_MAP n) 0) (unackedA k))).pkg 0
     (∀ u ∈ k.fab.unacked, u.pkt.dst = 1) ∧ k.fab.unacked ≠ [] ∧ 1 ≠ k.target ∧ (k.wayOut 1 0 0).isSome = true) ∧
    (let k := (onA (fun k => k.setTables 3 { quietUntil := 5 })).pkg 0
     k.fab.held = [] ∧ 0 < (k.tables 3).quietUntil ∧ (k.tables 3).quietUntil ≤ max k.now 5) := by decide +kernel

theorem witness_TemplatesLoad :
    (CsrSource.vf 3 = .pf ∨ CsrSource.vf 3 = .vf 3) ∧
    (∀ n, n ∈ [0, 4097] →
      let k := (onA (fun k => (k.setTables 0 { loadEpoch := some 1 }).setF (F.FAB_PERIOD 0) n)).pkg 0
      (k.tables 0).loadEpoch = some 1 ∧ 1 * 2097152 ≤ 2097152 ∧
        (k.getF (F.FAB_PERIOD 0) = 0 ∨ 4096 < k.getF (F.FAB_PERIOD 0) ∨ 180 * k.getF (F.FAB_PERIOD 0) < k.getF (F.FAB_ENTRIES 0))) ∧
    (let k := (onA (fun k => ((k.setTables 0 { loadEpoch := some 1 }).setF (F.FAB_PERIOD 0) 1).setF (F.FAB_ENTRIES 0) 181)).pkg 0
     180 * k.getF (F.FAB_PERIOD 0) < k.getF (F.FAB_ENTRIES 0)) := by decide +kernel

/-- P00 with one cached page of slot 0: 1 GiB from address 0 to its allotment, which is the second GiB of HBM. -/
def pageA (k : Pkg) : Pkg :=
  { (k.setF (F.XLT_HBM_BASE 0) 1).setF (F.XLT_HBM_LEN 0) 1 with
    xlt := { k.xlt with leaves := [{ root := 0, va := 0, size := 0x40000000, base := 0x40000000, perm := 0x1FF }] } }

theorem witness_TranslationStaysInside :
    (((onA pageA).pkg 0).at 0).maps 0 0x3FFFFFFF 1 .hub .read 0x7FFFFFFF = true ∧
    (match (((onA pageA).pkg 0).xlate 0 0 .hub .read).2 with
      | .ok (.hbm y, left) => y == 0x40000000 && left == 0x40000000
      | _ => false) = true ∧
    (2 ^ 56 - 1 < 2 ^ 56 ∧ (State.reset.pkg 0).uncached 4 (2 ^ 56 - 1) = true ∧ (State.reset.pkg 0).getF (F.XLT_ROOT_EN 4) = 0) := by
  decide +kernel

theorem witness_InvalidationsTakeTickets :
    (State.reset.pkg 0).invPending < 64 ∧ (8 + 4) % 8 < 5 ∧ (3 : Fin 4).val < 5 ∧ 1 ≤ 2 ^ 32 - 1 ∧ 2 ^ 32 - 1 < 2 ^ 32 ∧
    64 ≤ ((onA (fun k => k.setF F.XLT_INV_ISSUED 64)).pkg 0).invPending ∧
    ((onA (fun k => k.setF F.XLT_INV_ISSUED 1)).pkg 0).invPending ≠ 0 ∧
    (CsrSource.vf 3 = .pf ∨ CsrSource.vf 3 = .i3c ∨ ∃ n : Fin 4, CsrSource.vf 3 = .vf n ∧ n.val = ((3 : Root) : Nat)) ∧
    0 < ((onA pageA).pkg 0).xlt.leaves.length := by decide +kernel

theorem witness_HostReachesMemory :
    (let k := ((onA pageA).pkg 0).at 0
     let va := k.getF (F.XLT_BAR2_VBASE 0) * 4096 + 0
     k.maps 0 va 8 (.host 0) .read 0x40000000 = true ∧ k.maps 0 va 2 (.host 0) .write 0x40000000 = true) ∧
    (let k := (State.reset.pkg 0).at 0
     1 ≤ 4096 ∧ k.getF (F.XLT_BAR2_VBASE 4) * 4096 + 7 < 2 ^ 56 ∧ k.uncached 4 7 = true ∧ k.getF (F.XLT_ROOT_EN 4) = 0) := by decide +kernel

theorem witness_HostWritesStayInAllotment :
    let s := onA pageA
    (∃ t, exec (.bar2Write 0 (Fin.castSucc (0 : Fin 4)) 5 [1] false 0) s = .next t) ∧
    (s.pkg 0).getF (F.XLT_HBM_BASE (0 : Fin 4)) * 2 ^ 30 = 2 ^ 30 ∧ (s.pkg 0).getF (F.XLT_HBM_LEN (0 : Fin 4)) * 2 ^ 30 = 2 ^ 30 :=
  ⟨⟨_, rfl⟩, by decide +kernel, by decide +kernel⟩

/-- A LINK_STATE packet for P00, sealed. -/
def linkStateA (ref : Nat) (k : Pkg) : Packet :=
  let q : Packet := { type := 0x46, dst := k.target, body := leBytes 2 ref ++ List.replicate 34 0 }
  { q with crc := q.goodCrc }

theorem witness_ControlPacketsAct :
    (let k := (State.reset.pkg 0).at 0
     k.accepts (linkStateA 575 k) = true ∧ fieldAt (linkStateA 575 k).body 0 2 < 576) ∧
    (let k := (State.reset.pkg 0).at 0
     k.accepts (linkStateA 0x8000 k) = true ∧ bits (fieldAt (linkStateA 0x8000 k).body 0 2) 15 14 = 2) ∧
    (let k := ((onA (fun k => k.setF (F.HIF_IS_CAPTAIN 0) 1)).pkg 0).at 0
     k.accepts (linkStateA 0 k) = true ∧ k.isCaptain (linkStateA 0 k).slot = true ∧ (linkStateA 0 k).slot < 4) ∧
    (let k := (onA (fun k => k.setF F.FAB_LIFETIME 4000000)).pkg 0
     (k.at 4000001).expired {} = true ∧ (k.at 4000000).expired {} = false ∧ (({ crc := 1 } : Packet).crc ≠ ({ crc := 1 } : Packet).goodCrc) ∧
       isKnownType 200 = false) := by decide +kernel

/-- A receive window of stream 0 of source 0. -/
def windowA (k : Pkg) : Pkg :=
  { k with fab := { k.fab with windows := [{ src := 0, slot := 0, stream := 0, base := 5, claims := [], olds := [], lastAccept := 0 }] } }

theorem witness_ReceiveWindowsClaimOnce :
    (let k := State.reset.pkg 0
     k.fab.windowOf {} = none ∧ k.fab.windows.length < 8192 ∧ ({ seq := 2 ^ 32 - 1 } : Packet).seq < 2 ^ 32) ∧
    (let k := (onA windowA).pkg 0
     k.fab.windowOf {} = some ⟨0, 0, 0, 5, [], [], 0⟩ ∧ 2 ^ 31 ≤ (2 ^ 32 + ({ seq := 4 } : Packet).seq - 5) % 2 ^ 32) := by decide +kernel
theorem windowsFull (k : Pkg) (n : Nat) (h : 8192 ≤ n) :
    let j : Pkg := { k with fab := { k.fab with windows := List.replicate n ⟨1, 0, 0, 0, [], [], 0⟩ } }
    j.fab.windowOf {} = none ∧ 8192 ≤ j.fab.windows.length := by
  simp [Fabric.windowOf, h]
theorem witness_ReceiveWindowsClaimOnce_full :
    ∃ k : Pkg, k.fab.windowOf {} = none ∧ 8192 ≤ k.fab.windows.length := ⟨_, windowsFull (State.reset.pkg 0) 8192 (Nat.le_refl _)⟩

theorem templates_zero (j : Pkg) (n m : Nat) (hn : n ≠ 0) (hl : n ≤ 0x40000000)
    (hs : ∀ i, i < 8 → (j.xlate 0 0 .hub .read).1.getF (F.HBM_STATE i) ≠ 3)
    (he : (j.xlate 0 0 .hub .read).1.hbm = [] ∧ (j.xlate 0 0 .hub .read).1.hbmBad = [] ∧ (j.xlate 0 0 .hub .read).1.hbmCe = [])
    (hx : (match (j.xlate 0 0 .hub .read).2 with
        | .ok (.hbm y, left) => y == 0x40000000 && left == 0x40000000
        | _ => false) = true) :
    ∃ k₁ k₂ cb eb, j.hubRead 0 0 n = (k₁, cb, none) ∧ k₁.hubRead 0 m 0 = (k₂, eb, none) ∧
      ((List.range 1024).map (fun i => (cb.drop (16 * i)).take 16)).any badChannel = false := by
  have hy : (j.xlate 0 0 .hub .read).2 = .ok (.hbm 0x40000000, 0x40000000) := by
    split at hx
    · next h => simp at hx; rw [h, hx.1, hx.2]
    · cases hx
  have hr : ((j.xlate 0 0 .hub .read).1.hbmRead 0x40000000 n).2 = .ok (List.replicate n 0#8) := by
    rw [hbmRead_good _ _ _ _ (hbmStop_clean _ _ _ hs he.2.1 he.2.2), he.1, readBytes_empty]
  refine ⟨_, _, _, _, Prod.ext rfl (hubRead_onePage j 0 0 n _ _ _ hn hl hy hr), rfl, ?_⟩
  simp [List.drop_replicate, List.take_replicate, badChannel_zeros]

theorem witness_TemplatesLoad_accepted :
    let k := (onA (fun k => ((pageA k).setTables 0 { loadEpoch := some 1 }).setF (F.FAB_PERIOD 0) 4096)).pkg 0
    let j := (k.at 2097152).setTables 0 { k.tables 0 with loadEpoch := none }
    ((k.tables 0).loadEpoch = some 1 ∧ 1 * 2097152 ≤ 2097152 ∧ k.getF (F.FAB_PERIOD 0) = 4096 ∧ k.getF (F.FAB_ENTRIES 0) = 0 ∧
      k.getF (F.FAB_CHAN_VA 0) = 0 ∧ k.getF (F.FAB_TMPL_VA 0) = 0) ∧
    ∃ k₁ k₂ cb eb, j.hubRead 0 0 16384 = (k₁, cb, none) ∧ k₁.hubRead 0 0 0 = (k₂, eb, none) ∧
      ((List.range 1024).map (fun i => (cb.drop (16 * i)).take 16)).any badChannel = false :=
  ⟨by decide +kernel, templates_zero _ 16384 0 (by decide) (by decide) (by decide +kernel) (by decide +kernel) (by decide +kernel)⟩

/-- A command word or a header: an opcode and body fields (offset, size, value), zeros elsewhere. -/
def wordA (op : Nat) (fs : List (Nat × Nat × Nat)) : Bytes :=
  fs.foldl (fun b f => b.take f.1 ++ leBytes f.2.1 f.2.2 ++ b.drop (f.1 + f.2.1)) (leBytes 64 op)

/-- P00 with core 0 running a play of ten words that stands at word 1. -/
def playA (pl : Play) (k : Pkg) : Pkg :=
  (k.updCore 0 (fun c => { c with play := some { pl with length := 10 } })).setF (F.CORE_SEQ_NEXT 0) 1
/-- The same, its next word fetched. -/
def nextA (pl : Play) (b : Bytes) (k : Pkg) : Pkg := playA { pl with buf := [b] } k
/-- That word issues now. -/
def issuesA (pl : Play) (b : Bytes) (op : Nat) : Prop :=
  (((onA (nextA pl b)).pkg 0).at 0).issuable (0 : CoreId) op = some ({ pl with buf := [b], length := 10 }, b)

theorem witness_SequencerBlocksAndReleases :
    (let b := wordA 0x40 [(16, 2, 4095), (20, 4, 7), (24, 1, 1)]
     issuesA { addr := 0 } b 0x40 ∧ fieldAt b 16 2 ≤ 4095 ∧ fieldAt b 24 1 ≤ 1) ∧
    (let b := wordA 0x42 [(16, 1, 15)]; issuesA { addr := 0 } b 0x42 ∧ fieldAt b 16 1 ≠ 0) ∧
    (let b := wordA 0x43 []; issuesA { addr := 0 } b 0x43 ∧ (((onA (nextA { addr := 0 } b)).pkg 0).at 0).now ≤ fieldAt b 16 8) ∧
    (let b := wordA 0x43 [(16, 8, 4)]
     (((onA (nextA { addr := 0 } b)).pkg 0).at 5).issuable (0 : CoreId) 0x43 = some ({ addr := 0, buf := [b], length := 10 }, b) ∧
       fieldAt b 16 8 < (((onA (nextA { addr := 0 } b)).pkg 0).at 5).now) ∧
    (let b := wordA 0x44 [(16, 2, 63), (18, 1, 1), (20, 4, 1)]
     issuesA { addr := 0, cmds := [⟨0, 1, wordA 1 [], 0, .running, 0, 0, false, 0, [], [], [], [], [], none, 0, [], 0, 0, [], [], 0⟩] } b 0x44 ∧
       fieldAt b 16 2 ≤ 63 ∧ fieldAt b 18 1 ≤ 1 ∧ fieldAt b 20 4 ≠ 0 ∧
       Cmd.op ⟨0, 1, wordA 1 [], 0, .running, 0, 0, false, 0, [], [], [], [], [], none, 0, [], 0, 0, [], [], 0⟩ ≠ 0x44) ∧
    (let b := wordA 0x44 [(16, 2, 63), (20, 4, 2)]
     issuesA { addr := 0 } b 0x44 ∧ fieldAt b 18 1 = 0 ∧ 2 ≤ fieldAt b 20 4 ∧ (((onA (nextA { addr := 0 } b)).pkg 0).at 0).arrivals = []) ∧
    issuesA { addr := 0 } (wordA 0x52 [(16, 4, 9)]) 0x52 := by
  unfold issuesA
  decide +kernel

/-- A command word of the sequencer's queue that has issued. -/
def waitA (b : Bytes) : Cmd := { num := 0, word := 1, bytes := b, queue := 3 }

theorem witness_SequencerBlocksAndReleases_releases :
    (let x := waitA (wordA 0x40 [])
     let pl : Play := { addr := 0, length := 10, block := some (.sem 3 0 true), cmds := [x] }
     let k := ((onA (playA pl)).pkg 0).at 0
     k.play (0 : CoreId) = some pl ∧ pl.cmds.find? (fun y => y.op == 0x40) = some x ∧ 0 ≤ k.sem (k.coreSlot (0 : CoreId)) 3) ∧
    (let x := waitA (wordA 0x42 [(16, 1, 15)])
     let pl : Play := { addr := 0, length := 10, block := some (.fence 15), cmds := [x] }
     pl.cmds.find? (fun y => y.op == 0x42) = some x ∧ maskMet pl 15 x.num = true) ∧
    (let x := waitA (wordA 0x43 [])
     let pl : Play := { addr := 0, length := 10, block := some (.waitHt 0), cmds := [x] }
     let k := ((onA (fun k => (playA pl k).setF F.HTM_VALID 1)).pkg 0).at 0
     k.play (0 : CoreId) = some pl ∧ pl.cmds.find? (fun y => y.op == 0x43) = some x ∧ k.getF F.HTM_VALID = 1 ∧ 0 ≤ k.now) := by
  decide +kernel

theorem witness_SequencerRetiresAtIssue :
    (let b := wordA 0x41 [(16, 2, 4095), (20, 4, 2 ^ 31), (24, 4, 2 ^ 32 - 1)]
     issuesA { addr := 0 } b 0x41 ∧ fieldAt b 16 2 ≤ 4095 ∧ fieldAt b 20 4 = 2 ^ 31) ∧
    (∀ n, n ∈ [4095, 0xFFFF] →
     let b := wordA 0x31 [(16, 8, 2 ^ 63), (24, 4, 1), (28, 2, 1023), (36, 1, 1), (40, 2, n)]
     issuesA { addr := 0 } b 0x31 ∧ fieldAt b 36 1 ≤ 1 ∧ (fieldAt b 40 2 ≤ 4095 ∨ fieldAt b 40 2 = 0xFFFF) ∧ fieldAt b 32 4 % 64 = 0 ∧
       fieldAt b 28 2 ≤ 1023) ∧
    (let b := wordA 0x45 [(16, 8, 4000), (24, 1, 16), (26, 2, 1)]
     issuesA { addr := 0 } b 0x45 ∧ fieldAt b 24 1 ≤ 16 ∧ fieldAt b 26 2 ≠ 0 ∧
       (((onA (nextA { addr := 0 } b)).pkg 0).at 0).now + 4000 ≤ fieldAt b 16 8) ∧
    (let b := wordA 0x50 [(16, 4, 8)]
     let k := ((onA (nextA { addr := 0 } b)).pkg 0).at 0
     let target : Int := (k.getF (F.CORE_SEQ_NEXT (0 : CoreId)) : Int) + toSigned 32 (fieldAt b 16 4)
     issuesA { addr := 0 } b 0x50 ∧ 1 ≤ target ∧ target < (10 : Nat)) ∧
    (let b := wordA 0x51 [(20, 1, 7), (24, 4, 2)]
     let k := ((onA (nextA { addr := 0 } b)).pkg 0).at 0
     let target : Int := (k.getF (F.CORE_SEQ_NEXT (0 : CoreId)) : Int) + toSigned 32 (fieldAt b 16 4)
     issuesA { addr := 0 } b 0x51 ∧ fieldAt b 20 1 ≤ 7 ∧ (List.replicate 8 (0, 0)).length = 8 ∧ fieldAt b 24 4 ≠ 0 ∧ 1 ≤ target ∧
       target < (10 : Nat)) ∧
    (let q : Post := { sem := 4095, target := 2 ^ 31, value := 1, mask := 15, chan := 0, before := 0 }
     let pl : Play := { addr := 0, length := 10, posts := [q] }
     (((onA (playA pl)).pkg 0).at 0).play (0 : CoreId) = some pl ∧ maskMet pl q.mask q.before = true) := by
  unfold issuesA
  decide +kernel

/-- P00 with a play at address 0 of core 0, whose local store starts with a header or other words. -/
def storedA (pl : Play) (b : Bytes) (k : Pkg) : Pkg :=
  (k.updCore 0 (fun c => { c with play := some pl, ls := Memory.writeBytes [] 0 b })).setF (F.CORE_SEQ_NEXT 0) 1

theorem witness_PlaysAreFetched :
    (let b := wordA 0x59414C50 [(4, 2, 1), (8, 4, 16777216), (12, 4, 2000)]
     let k := ((onA (storedA { addr := 0 } b)).pkg 0).at 0
     k.play (0 : CoreId) = some { addr := 0 } ∧ addrSpace 0 = 0 ∧ k.lsClean (0 : CoreId) = true ∧
       headerCheck (Memory.readBytes (k.core (0 : CoreId)).ls (addrBase 0 + 64 * 0) 64) = 0) ∧
    (let k := ((onA (storedA { addr := 0 } [])).pkg 0).at 0
     headerCheck (Memory.readBytes (k.core (0 : CoreId)).ls (addrBase 0 + 64 * 0) 64) ≠ 0 ∧ k.getF (F.CORE_SEQ_ERR_VALID (0 : CoreId)) = 0) ∧
    (let k := ((onA (storedA { addr := 0, length := 2 } (wordA 0 [] ++ wordA 0x40 []))).pkg 0).at 0
     k.getF (F.CORE_SEQ_NEXT (0 : CoreId)) < 2 ∧
       queueOf (fieldAt (Memory.readBytes (k.core (0 : CoreId)).ls (addrBase 0 + 64 * k.getF (F.CORE_SEQ_NEXT (0 : CoreId))) 64) 0 1) = some 3) ∧
    (let b := wordA 0x11 [(32, 1, 7)]
     let pl : Play := { addr := 0, length := 10, buf := [b] }
     let k := ((onA (playA pl)).pkg 0).at 0
     k.play (0 : CoreId) = some pl ∧ k.nextWord pl = some b ∧ badOpcode b = true ∧ k.getF (F.CORE_SEQ_NEXT (0 : CoreId)) < 10 ∧
       k.getF (F.CORE_SEQ_ERR_VALID (0 : CoreId)) = 0) := by decide +kernel

/-- P00 with core 0 running one command, whose local store holds some bytes from address 0. -/
def cmdA (x : Cmd) (b : Bytes) (k : Pkg) : Pkg :=
  k.updCore 0 (fun c => { c with play := some { addr := 0, length := 10, cmds := [x] }, ls := Memory.writeBytes [] 0 b })
/-- A running command. -/
def runA (q : Nat) (b : Bytes) : Cmd := { num := 0, word := 1, bytes := b, queue := q, phase := .running }
/-- The descriptor of one element. -/
def descA (format : Nat) : Bytes := leBytes 4 (format + 0x200) ++ leBytes 28 0x000100010001000100010001
/-- The operand at a local-store address, with the descriptor at 0. -/
def trefA (data : Nat) : Nat := data

/-- Core 0 runs `x` on one-element tensors; the command is of opcode `op`. -/
def startedA (x : Cmd) (b : Bytes) (op : Nat) : Prop :=
  let k := ((onA (cmdA x b)).pkg 0).at 0
  statusOk x.status = true ∧ k.cmd (0 : CoreId) x.num = some x ∧ k.lsClean (0 : CoreId) = true ∧ k.started (0 : CoreId) op = some x

/-- A package that runs `x`. -/
def atA (x : Cmd) (b : Bytes) : Pkg := ((onA (cmdA x b)).pkg 0).at 0

/-- GEMM, VEC, TRANS and LAYOUT words over operands at 64, 128, 192. -/
def gemmA : Cmd := runA 0 (wordA 1 [(16, 8, trefA 64), (24, 8, trefA 128), (32, 8, trefA 192), (48, 2, 1), (50, 2, 1), (52, 2, 1)])
def vecA (op : Nat) : Cmd :=
  runA 1 (wordA 0x10 [(16, 8, trefA 64), (24, 8, trefA 192), (32, 8, trefA 128), (40, 8, trefA 256), (48, 2, op)])
def transA : Cmd := runA 1 (wordA 0x11 [(16, 8, trefA 64), (24, 8, trefA 192)])
def layoutA : Cmd := runA 2 (wordA 0x20 [(16, 8, trefA 64), (24, 8, trefA 192)])

theorem witness_EnginesCompute :
    (startedA gemmA (descA 8) 0x01 ∧ gemmA.isTile = false ∧ (atA gemmA (descA 8)).gemmCheck 0 gemmA = none) ∧
    (startedA gemmA [] 0x01 ∧ (atA gemmA []).gemmCheck 0 gemmA = some 0x3105 ∧ statusOk 0x3105 = false) ∧
    (startedA (vecA 1) (descA 9) 0x10 ∧ (atA (vecA 1) (descA 9)).vecCheck 0 (vecA 1) = none ∧ (vecA 1).f 48 2 ≠ 9) ∧
    (startedA (vecA 9) (descA 9) 0x10 ∧ (atA (vecA 9) (descA 9)).vecCheck 0 (vecA 9) = none ∧ (vecA 9).f 48 2 = 9 ∧
      (let k := atA (vecA 9) (descA 9)
       (k.operand 0 (vecA 9) 16).d.format = (k.operand 0 (vecA 9) 24).d.format ∧
         (k.operand 0 (vecA 9) 32).d.format = (k.operand 0 (vecA 9) 24).d.format ∧ (k.operand 0 (vecA 9) 24).d.fmt.mx = false)) ∧
    (startedA (vecA 1) [] 0x10 ∧ (atA (vecA 1) []).vecCheck 0 (vecA 1) = some 0x3105) ∧
    (startedA transA (descA 9) 0x11 ∧ (atA transA (descA 9)).transCheck 0 transA = none) ∧
    (startedA transA [] 0x11 ∧ (atA transA []).transCheck 0 transA = some 0x3105) ∧
    (startedA layoutA (descA 9) 0x20 ∧ (atA layoutA (descA 9)).layoutCheck 0 layoutA = none) ∧
    (startedA layoutA [] 0x20 ∧ (atA layoutA []).layoutCheck 0 layoutA = some 0x3105) := by
  unfold startedA
  decide +kernel

/-- MOVE, GATHER and SCATTER words; addresses 2⁶² on are HBM. -/
def moveA (dst : Nat) : Cmd := runA 2 (wordA 0x30 [(16, 8, 64), (24, 8, dst), (32, 4, 64)])
/-- GATHER and SCATTER of one block, its list at 320. -/
def blocksA (op : Nat) : Cmd := runA 2 (wordA op [(16, 8, 64), (24, 8, 128), (40, 4, 320), (44, 4, 1)])

theorem witness_MoverCopies :
    (startedA (moveA 128) [] 0x30 ∧ (moveA 128).fetches = [] ∧ (atA (moveA 128) []).fab.done = [] ∧
      (atA (moveA 128) []).moveCheck 0 (moveA 128) = none ∧ addrSpace ((moveA 128).f 16 8) = 0 ∧ addrSpace ((moveA 128).f 24 8) = 0) ∧
    (let k := ((onA (fun k => pageA (cmdA (moveA (2 ^ 62)) [] k))).pkg 0).at 0
     k.started (0 : CoreId) 0x30 = some (moveA (2 ^ 62)) ∧ k.cmd (0 : CoreId) 0 = some (moveA (2 ^ 62)) ∧
       k.moveCheck (0 : CoreId) (moveA (2 ^ 62)) = none ∧ addrSpace ((moveA (2 ^ 62)).f 24 8) = 1 ∧
       k.maps (k.coreSlot (0 : CoreId)) (addrBase ((moveA (2 ^ 62)).f 24 8)) ((moveA (2 ^ 62)).f 32 4) (.mover (0 : CoreId)) .write 0x40000000 = true) ∧
    (startedA (blocksA 0x21) (descA 9) 0x21 ∧ (atA (blocksA 0x21) (descA 9)).moveCheck 0 (blocksA 0x21) = none ∧
      addrSpace ((blocksA 0x21).f 24 8) = 0) ∧
    (startedA (blocksA 0x22) (descA 9) 0x22 ∧ (atA (blocksA 0x22) (descA 9)).moveCheck 0 (blocksA 0x22) = none ∧
      (blocksA 0x22).add = false) := by
  unfold startedA
  decide +kernel

/-- Window 5 of slot 0: 1 MiB from virtual address 0, with all rights. -/
def winA (k : Pkg) : Pkg :=
  { pageA k with windows := [{ slot := 0, index := 5, base := 0, length := 0x100000, key := 0, rights := 15, sources := 0 }] }
/-- The address of an offset in window 5. -/
def winAddr (off : Nat) : Nat := 2 ^ 63 + 5 * 2 ^ 50 + off
/-- A WINDOW_OP on this package's window 5, and a GEMM under TILE with one row for it. -/
def opA : Cmd := runA 2 (wordA 0x32 [(16, 8, winAddr 16), (24, 4, 2 ^ 31), (30, 1, 2), (31, 1, 8)])
def tileA : Cmd :=
  { runA 0 (wordA 0x2001 [(16, 8, trefA 64), (24, 8, trefA 128), (32, 8, trefA 192), (48, 2, 1), (50, 2, 1), (52, 2, 1)]) with
    phase := .done, tile := some (wordA 0x31 [(16, 8, winAddr 0), (24, 4, 2 ^ 31)]) }

theorem witness_WindowsAreOperatedOn :
    (let k := ((onA (fun k => winA (cmdA opA [] k))).pkg 0).at 0
     k.cmd (0 : CoreId) opA.num = some opA ∧ statusOk opA.status = true ∧ k.fab.done = [] ∧ k.started (0 : CoreId) 0x32 = some opA ∧
       k.windowOpCheck opA = none ∧ opA.f 24 4 = 2 ^ 31 ∧
       (match k.windowCheck (k.coreSlot (0 : CoreId)) (addrWin (opA.f 16 8)) (addrOff (opA.f 16 8)) (opA.f 31 1) 4 with
         | .ok (w, va) => w == ⟨0, 5, 0, 0x100000, 0, 15, 0⟩ && va == 16
         | _ => false) = true ∧
       k.maps (k.coreSlot (0 : CoreId)) 16 (opA.f 31 1) (.ownWindow (0 : CoreId)) (.atomic (opA.flag 6)) 0x40000010 = true) ∧
    (let k := ((onA (fun k => winA (cmdA tileA (descA 9) k))).pkg 0).at 0
     let tile := wordA 0x31 [(16, 8, winAddr 0), (24, 4, 2 ^ 31)]
     k.play (0 : CoreId) = some { addr := 0, length := 10, cmds := [tileA] } ∧ tileA.op = 0x01 ∧ tileA.isTile = true ∧ tileA.phase = .done ∧
       tileA.stripes = 0 ∧ tileA.f 48 2 = 1 ∧ tileA.tile = some tile ∧ fieldAt tile 24 4 = 2 ^ 31 ∧ fieldAt tile 36 1 = 0 ∧
       (let n := (k.operand (0 : CoreId) tileA 32).d.lineBytes
        (match k.windowCheck (k.coreSlot (0 : CoreId)) (addrWin (fieldAt tile 16 8)) (addrOff (fieldAt tile 16 8)) n 2 with
          | .ok (w, va) => w == ⟨0, 5, 0, 0x100000, 0, 15, 0⟩ && va == 0
          | _ => false) = true ∧
        k.maps (k.coreSlot (0 : CoreId)) 0 n (.ownWindow (0 : CoreId)) .write 0x40000000 = true)) := by
  decide +kernel

/-- A packet for P00, sealed. -/
def sealedA (q : Packet) : Packet := { q with crc := q.goodCrc }
/-- Slot 0 holds cluster 0, the map is in force and core 0 is IDLE: a play may start. -/
def readyA (k : Pkg) : Pkg :=
  let k := ((k.setF (F.LUP_PART_CLUSTERS 0) 1).setF F.LUP_SLOTS 1).setF (F.CORE_STATE 0) 3
  { k with bring := { k.bring with mapped := true } }
/-- MOVE from window 5 of P01 into local store, waiting for one unit. -/
def fetchA : Cmd :=
  { runA 2 (wordA 0x30 [(16, 8, winAddr 0), (24, 8, 128), (32, 4, 64), (36, 4, 1)]) with fetches := [{ tag := 7, target := 1, need := [0] }] }

theorem witness_PacketsReachCores :
    (let q := sealedA { type := 0x42, body := leBytes 2 4095 ++ List.replicate 34 0 }
     ((State.reset.pkg 0).at 0).accepts q = true ∧ fieldAt q.body 0 2 ≤ 4095) ∧
    (∀ addr, addr ∈ [0x3FFFFC0, 2 ^ 62] →
     let q := sealedA { type := 0x44, body := leBytes 2 0 ++ leBytes 2 0 ++ leBytes 8 addr ++ List.replicate 24 0 }
     let k := ((onA readyA).pkg 0).at 0
     let a := fieldAt q.body 4 8
     k.accepts q = true ∧ k.getF F.THM_LEVEL ≠ 3 ∧ k.bring.mapped = true ∧ (addrSpace a = 0 ∨ addrSpace a = 1) ∧
       addrReserved (leBytes 8 a) 0 .addr = false ∧ addrBase a % 64 = 0 ∧ k.physOf (fieldAt q.body 0 1) = some 0 ∧
       k.clusterSlot (0 / 16) = some q.slot ∧ k.coreDown.contains 0 = false ∧ k.getF (F.CORE_STATE 0) = 3 ∧ k.play 0 = none) ∧
    (let q := sealedA { type := 0x44, body := List.replicate 36 0 }
     let k := ((onA (fun k => k.setF F.THM_LEVEL 3)).pkg 0).at 0
     k.accepts q = true ∧ k.getF F.THM_LEVEL = 3) := by decide +kernel

/-- A sealed packet that is neither expired nor malformed passes the checks of every packet. -/
theorem screen_sealed (k : Pkg) (q : Packet) (he : (k.take (sealedA q)).expired (sealedA q) = false)
    (ht : isKnownType (sealedA q).type = true) (hz : (sealedA q).reservedZero = true) : (k.screen (sealedA q)).2 = true := by
  have hc : (sealedA q).crc = (sealedA q).goodCrc := rfl
  unfold Pkg.screen
  simp [he, hc, ht, hz]

/-- A READ_DATA packet of 64 bytes for `fetchA`. -/
def dataA : Packet := { type := 0x12, src := 1, seq := 7, addr := 5 * 2 ^ 44, len := 1, body := List.replicate 64 3 }
theorem witness_PacketsReachCores_screen : ((((onA (cmdA fetchA [])).pkg 0).at 0).screen (sealedA dataA)).2 = true :=
  screen_sealed _ _ (by decide +kernel) (by decide +kernel) (by decide +kernel)

theorem witness_PacketsReachCores_windows :
    (let q := sealedA { type := 0x41, src := 1, body := leBytes 8 (5 * 2 ^ 44 + 16) ++ [2, 8] ++ List.replicate 26 0 }
     let k := ((onA winA).pkg 0).at 0
     k.accepts q = true ∧ fieldAt q.body 9 1 = 8 ∧
       (match k.windowCheck q.slot (bits (fieldAt q.body 0 8) 55 44) (fieldAt q.body 0 8 % 2 ^ 44) 8 4 with
         | .ok (w, va) => w == ⟨0, 5, 0, 0x100000, 0, 15, 0⟩ && va == 16
         | _ => false) = true ∧
       k.maps q.slot 16 8 (.window q.src) (.atomic q.fetchOld) 0x40000010 = true) ∧
    (let q := sealedA { type := 0x43, body := leBytes 8 (5 * 2 ^ 44) ++ leBytes 4 128 ++ leBytes 4 9 ++ List.replicate 20 0 }
     let k := ((onA winA).pkg 0).at 0
     (k.screen q).2 = true ∧ (k.screen q).1.absorbs q = false ∧ fieldAt q.body 8 4 = 128 ∧ q.src = k.target ∧
       (match k.windowCheck q.slot (bits (fieldAt q.body 0 8) 55 44) (fieldAt q.body 0 8 % 2 ^ 44) 128 1 with
         | .ok (w, va) => w == ⟨0, 5, 0, 0x100000, 0, 15, 0⟩ && va == 0
         | _ => false) = true ∧
       k.maps q.slot 0 128 (.window q.src) .read 0x40000000 = true) ∧
    (let q := sealedA dataA
     let pl : Play := { addr := 0, length := 10, cmds := [fetchA] }
     let k := ((onA (cmdA fetchA [])).pkg 0).at 0
     k.fab.done = [] ∧ (∀ c : CoreId, c ≠ 0 → k.play c = none) ∧ k.play (0 : CoreId) = some pl ∧ fetchA.op = 0x30 ∧
       statusOk fetchA.status = true ∧ fetchA.view = [] ∧ q.addr % 2 ^ 44 = addrOff (fetchA.f 16 8) ∧ addrSpace (fetchA.f 16 8) = 2 ∧
       addrSpace (fetchA.f 24 8) = 0 ∧ q.payload.length = fetchA.f 32 4 ∧ fetchA.f 32 4 % 64 = 0 ∧ bit q.info 0 = false ∧
       [0] = (List.range (fetchA.f 32 4 / 64)).map (fun i => q.addr % 2 ^ 44 + 64 * i) ∧
       fetchA.fetches = [{ tag := q.seq, target := q.src, need := [0] }]) := by decide +kernel

/-- P00 with core 0 holding one command of a play, and its local store's bytes at the given addresses. -/
def filledA (x : Cmd) (bs : List (Nat × Bytes)) (k : Pkg) : Pkg :=
  k.updCore 0 (fun c => { c with play := some { addr := 0, length := 10, cmds := [x] }
                                 ls := bs.foldl (fun m p => Memory.writeBytes m p.1 p.2) [] })
/-- A descriptor of six dimensions: format, TRANSPOSED, extents, strides in 64 bytes. -/
def descB (format : Nat) (t : Bool) (ext strides : List Nat) : Bytes :=
  [BitVec.ofNat 8 format, if t then 14 else 6, 0, 0] ++ ext.flatMap (leBytes 2)
    ++ leBytes 16 (strides.getD 0 0 + strides.getD 1 0 * 2 ^ 24 + strides.getD 2 0 * 2 ^ 50)
/-- An operand reference: descriptor offset and data. -/
def refB (d data : Nat) : Nat := d * 2 ^ 32 + data
/-- A BATCH ATTN_BLOCK over a lane table at 192, and its store: Q, K, V, O and STATE descriptors, header and one lane. -/
def batchA (phase : Phase) : Cmd :=
  { runA 0 (wordA 0x03 [(16, 8, refB 0 320), (24, 8, refB 32 192), (32, 8, refB 64 192), (40, 8, refB 96 384), (48, 8, refB 128 448),
      (60, 1, 8), (61, 1, 1)]) with phase := phase }
def headerA : Bytes :=
  leBytes 4 0x454E414C ++ leBytes 2 1 ++ leBytes 2 32 ++ leBytes 4 4096 ++ leBytes 4 2048 ++ leBytes 4 65536 ++ leBytes 2 2 ++ [1, 1]
    ++ leBytes 4 576 ++ List.replicate 36 0
def batchStore : List (Nat × Bytes) :=
  [(0, descB 1 false [32, 1, 1, 1, 1, 1] []), (32, descB 1 true [32, 32, 1, 1, 1, 1] [1]), (64, descB 1 false [32, 32, 1, 1, 1, 1] [1]),
   (96, descB 8 false [32, 1, 1, 1, 1, 1] []), (128, descB 9 false [1, 1, 1, 2, 1, 1] [0, 0, 1]), (192, headerA)]
/-- The same block without a lane table: K and V of one key at 640 and 704. -/
def attnA : Cmd :=
  runA 0 (wordA 0x03 [(16, 8, refB 0 320), (24, 8, refB 32 640), (32, 8, refB 64 704), (40, 8, refB 96 384), (48, 8, refB 128 448), (61, 1, 1)])
def attnStore : List (Nat × Bytes) :=
  [(0, descB 1 false [32, 1, 1, 1, 1, 1] []), (32, descB 1 true [32, 1, 1, 1, 1, 1] []), (64, descB 1 false [32, 1, 1, 1, 1, 1] []),
   (96, descB 8 false [32, 1, 1, 1, 1, 1] []), (128, descB 9 false [1, 1, 1, 2, 1, 1] [0, 0, 1])]
/-- A ROUTE of one token over one expert, and a GROUPED_GEMM of one entry. -/
def routeA : Cmd :=
  runA 1 (wordA 0x12 [(16, 8, refB 0 192), (24, 8, refB 32 256), (32, 8, refB 64 512), (40, 2, 1), (52, 2, 1)])
def routeStore : List (Nat × Bytes) :=
  [(0, leBytes 4 0x209 ++ leBytes 28 0x000100010001000100010001), (32, descB 0xC false [144, 1, 1, 1, 1, 1] []),
   (64, descB 0xC false [72, 1, 1, 1, 1, 1] [])]
def groupA (n : Nat) : Cmd := runA 0 (wordA 0x02 [(16, 8, 64), (32, 2, n)])
def groupStore : List (Nat × Bytes) :=
  [(0, descA 8), (64, leBytes 2 1 ++ leBytes 2 1 ++ leBytes 2 1 ++ [0, 0, 0, 0, 0, 0] ++ leBytes 4 128 ++ leBytes 4 192 ++ leBytes 4 256)]

/-- P00 with core 0 running `x`. -/
def busyA (x : Cmd) (bs : List (Nat × Bytes)) : Pkg := ((onA (filledA x bs)).pkg 0).at 0

theorem witness_CommandsStartAndRetire :
    (let x := { moveA 128 with phase := .queued }
     let pl : Play := { addr := 0, length := 10, cmds := [x] }
     let k := busyA x []
     k.play (0 : CoreId) = some pl ∧ pl.queueHead 2 = some x ∧ pl.engineBusy 2 (x.op == 0x03) = false ∧
       k.waitToken (0 : CoreId) x.bytes = some 0 ∧
       hazard pl x.num (Pkg.fullSets (0 : CoreId) k x).1 (Pkg.fullSets (0 : CoreId) k x).2
         (fun y => if y.phase = .queued then Pkg.fullSets (0 : CoreId) k y else (y.reads, y.writes)) = false ∧
       k.lanesNeeded (0 : CoreId) x = 0 ∧ k.cmd (0 : CoreId) x.num = some x) ∧
    (let x := batchA .queued
     let pl : Play := { addr := 0, length := 10, cmds := [x] }
     let k := busyA x batchStore
     pl.queueHead 0 = some x ∧ x.op = 0x03 ∧ x.batch = true ∧ pl.engineBusy 0 true = false ∧ k.waitToken (0 : CoreId) x.bytes = some 0 ∧
       hazard pl x.num (Pkg.fullSets (0 : CoreId) k x).1 (Pkg.fullSets (0 : CoreId) k x).2
         (fun y => if y.phase = .queued then Pkg.fullSets (0 : CoreId) k y else (y.reads, y.writes)) = false ∧
       0 < k.lanesNeeded (0 : CoreId) x ∧ k.lanesHeld (0 / 16) + k.lanesNeeded (0 : CoreId) x ≤ 4096) ∧
    (let x := { moveA 128 with phase := .done }
     let k := busyA x []
     x.queue ≠ 3 ∧ x.waiting = 0 ∧ x.fetches = [] ∧ x.later = [] ∧ x.isTile = false ∧ k.fab.done = [] ∧ x.op ≠ 0x12) ∧
    (let x := { routeA with phase := .done, routed := [5] }
     let k := busyA x []
     k.play (0 : CoreId) = some { addr := 0, length := 10, cmds := [x] } ∧ x.queue ≠ 3 ∧ x.waiting = 0 ∧ x.fetches = [] ∧ x.later = [] ∧
       x.isTile = false ∧ x.op = 0x12 ∧ x.status = 0 ∧ x.routed[0]? = some 5 ∧ x.routed.length ≤ 1024 ∧
       k.flag (F.MOE_SCHED_MODE (k.coreSlot (0 : CoreId))) = false ∧ k.coreSlot (0 : CoreId) < 4) := by decide +kernel

/-- A running lane of a BATCH that waits for its page 0. -/
def laneA : Lane :=
  { seq := 0, region := 0, tokens := 32, start := 0, qpos := 0, skip := false, request := 1, compute := 0, stop := 1, out := [0], landed := []
    failed := none, rows := [] }

theorem witness_AttentionAndRouting :
    (let k := busyA attnA attnStore
     statusOk attnA.status = true ∧ k.cmd (0 : CoreId) attnA.num = some attnA ∧ k.lsClean (0 : CoreId) = true ∧
       k.started (0 : CoreId) 0x03 = some attnA ∧ attnA.lanes = [] ∧ attnA.batch = false ∧ k.attnCheck (0 : CoreId) attnA = none) ∧
    (busyA attnA []).attnCheck (0 : CoreId) attnA = some 0x3105 ∧
    (let x := batchA .running
     let k := busyA x batchStore
     k.started (0 : CoreId) 0x03 = some x ∧ x.lanes = [] ∧ x.batch = true ∧ k.attnCheck (0 : CoreId) x = none) ∧
    (let x := { batchA .running with lanes := [laneA] }
     let k := ((onA (fun k => pageA (filledA x batchStore k))).pkg 0).at 0
     k.started (0 : CoreId) 0x03 = some x ∧ x.lanes[0]? = some laneA ∧ 0 ∈ laneA.out ∧ 1 < (k.laneHeader (0 : CoreId) x).slots ∧
       (∀ z ∈ x.lanes, ∀ q ∈ z.landed, q.2 ≠ 1) ∧
       k.maps (k.coreSlot (0 : CoreId)) (k.getF (F.XLT_KV_BASE (k.coreSlot (0 : CoreId))) * 2 ^ 49 + laneA.seq * 2 ^ 28 + laneA.region + 0 * 65536)
         (k.laneHeader (0 : CoreId) x).pageBytes (.mover (0 : CoreId)) .read 0x40000000 = true) ∧
    (let k := ((onA (fun k => ((filledA routeA routeStore k).setF (F.MOE_EXPERTS 0) 1).setF (F.MOE_C_RES 0) 1)).pkg 0).at 0
     k.started (0 : CoreId) 0x12 = some routeA ∧ k.routeCheck (0 : CoreId) routeA = none) ∧
    ((busyA routeA []).routeCheck (0 : CoreId) routeA = some 0x3105) ∧
    (let k := busyA (groupA 1) groupStore
     k.started (0 : CoreId) 0x02 = some (groupA 1) ∧ k.groupCheck (0 : CoreId) (groupA 1) = none) ∧
    ((busyA (groupA 4097) []).groupCheck (0 : CoreId) (groupA 4097) = some { status := 0x3109 } ∧ statusOk 0x3109 = false) := by decide +kernel

/-- A candidate. -/
def pickA (n : Nat) : Pick := { ix := n, biased := .zero, score := 0 }
theorem witness_ThresholdRouting :
    (List.map pickA (List.range 17)).Pairwise (fun a b => a.ix < b.ix) ∧
    (thresholdToken .zero false ((List.range 17).map pickA)).truncated = true ∧
    (let r := thresholdToken (.inf false) true [pickA 0]; r.forced = true ∧ r.picks = [pickA 0]) ∧
    (thresholdToken .zero false [pickA 0]).forced = false ∧ (pickA 0).biased.lt .zero = false ∧ Machine.Num.zero ≠ .nan := by decide +kernel

/-- P00 as captain of slot 0, its loop on with period 1 over layer 255 of two experts. -/
def loopA (k : Pkg) : Pkg :=
  (((((k.setF F.HTM_VALID 1).setF (F.MOE_PERIOD 0) 1).setF (F.MOE_LOOP_ON 0) 1).setF (F.MOE_LOOP_EN 255) 1).setF (F.MOE_EXPERTS 255) 2).setF
    (F.HIF_IS_CAPTAIN 0) 1
/-- A generation for slot 0. -/
def genA (vs : List Nat) : Generation := { slot := 0, num := 1, epoch := 2, host := false, layers := [(255, vs)] }

theorem witness_BiasLoop :
    (let k := ((onA loopA).pkg 0).at 2097152
     k.getF F.HTM_VALID = 1 ∧ 2097152 % 2097152 = 0 ∧ k.getF (F.MOE_PERIOD (0 : SlotId)) ≠ 0 ∧
       2097152 / 2097152 % k.getF (F.MOE_PERIOD (0 : SlotId)) = 0 ∧ 255 ∈ k.loopLayers (0 : SlotId) ∧
       1 < k.getF (F.MOE_EXPERTS (layerIx (0 : SlotId) 255))) ∧
    (let q := sealedA { type := 0x49, body := List.replicate 36 0 }
     let k := ((onA loopA).pkg 0).at 0
     k.accepts q = true ∧ fieldAt q.body 1 1 = 0 ∧ k.isCaptain q.slot = true ∧ slotNat k.moe.decided q.slot = none) ∧
    (let k := ((onA loopA).pkg 0).at 4194304
     k.isCaptain (0 : SlotId) = true ∧ 2097152 ≤ 4194304 ∧ 4194304 % 2097152 = 0 ∧ 1 = k.getF (F.MOE_PERIOD (0 : SlotId)) ∧
       (4194304 / 2097152 - 1) % 1 = 0 ∧ slotNat k.moe.decided (0 : SlotId) = none ∧ 255 ∈ k.loopLayers (0 : SlotId) ∧
       (k.sumReports (0 : SlotId) 0 255 (4194304 / 2097152 - 1) (k.getF (F.MOE_EXPERTS (layerIx (0 : SlotId) 255)))).isNone = true) ∧
    (let k := ((onA (fun k => (loopA k).keepReport ⟨0, 0, 255, 1, 0, 0, [1, 2]⟩)).pkg 0).at 4194304
     k.loopLayers (0 : SlotId) ≠ [] ∧
       ∀ l ∈ k.loopLayers (0 : SlotId), (k.sumReports (0 : SlotId) 0 l (4194304 / 2097152 - 1) (k.getF (F.MOE_EXPERTS (layerIx (0 : SlotId) l)))) ≠ none) ∧
    (let q := sealedA { type := 0x4D, body := List.replicate 36 0 }
     let k := (State.reset.pkg 0).at 0
     k.accepts q = true ∧ k.getF (F.MOE_GEN q.slot) < 1 ∧ ∀ h ∈ k.moe.held, ¬ (h.slot = q.slot ∧ h.num = 1)) ∧
    (let g := genA [2 ^ 32 - 1]
     let k := ((onA (fun k => { loopA k with moe := { k.moe with held := [g] } })).pkg 0).at 4194304
     k.moe.held = [g] ∧ g.slot = (0 : SlotId).val ∧ g.num = k.getF (F.MOE_GEN (0 : SlotId)) + 1 ∧ g.num < 2 ^ 32 ∧ g.epoch = 4194304 / 2097152 ∧
       g.layers = [(255, [2 ^ 32 - 1])] ∧ [2 ^ 32 - 1].length ≤ 1024 ∧ [2 ^ 32 - 1][0]? = some (2 ^ 32 - 1) ∧ k.moe.hostApplied = []) ∧
    (((onA loopA).pkg 0).at 0).isCaptain ((((onA loopA).pkg 0).at 0).getF F.MOE_SEL_SLOT) = true := by decide +kernel

/-- P00 with plan requests and fallen steps of slot 0. -/
def plansA (rs : List PlanRequest) (fallen : List (Nat × Nat)) (k : Pkg) : Pkg :=
  { loopA k with moe := { k.moe with requests := rs, fallen := fallen } }

theorem witness_HostSteps :
    (let q := sealedA { type := 0x49, body := [255, 1] ++ List.replicate 34 0 }
     let k := ((onA (fun k => (loopA k).setF (F.MOE_EXPERTS 255) 7)).pkg 0).at 0
     k.accepts q = true ∧ (countReport q).kind = 1 ∧ k.isCaptain q.slot = true ∧ k.moe.fallen = [] ∧ k.moe.requests = [] ∧
       (k.keepReport (countReport q)).sumReports q.slot 1 (countReport q).layer (countReport q).when_
         (k.getF (F.MOE_EXPERTS (layerIx q.slot (countReport q).layer))) = none) ∧
    (let k := ((onA (plansA [] [(0, 2 ^ 32 - 1)])).pkg 0).at 0
     k.moe.request (0 : SlotId) (2 ^ 32 - 1) = none ∧ ((0 : SlotId).val, 2 ^ 32 - 1) ∈ k.moe.fallen ∧ ((0 : SlotId).val, 0) ∉ k.moe.fallen) ∧
    (let r : PlanRequest := { slot := 0, id := 5, deadline := 1, written := true, plan := none }
     let k := ((onA (plansA [r] [])).pkg 0).at 1
     k.moe.request (0 : SlotId) 5 = some r ∧ r.plan = none ∧ r.deadline ≤ k.now) ∧
    (let r : PlanRequest := { slot := 0, id := 5, deadline := 1, written := true, plan := some [] }
     (((onA (plansA [r] [])).pkg 0).at 1).moe.request (0 : SlotId) 5 = some r) ∧
    (let q := sealedA { type := 0x4D, body := List.replicate 36 0 }
     let k := ((onA pageA).pkg 0).at 0
     k.accepts q = true ∧ k.maps q.slot (k.getF (F.MOE_VA (layerIx q.slot (planLayer 0)) 0) * 64) 64 .hub .write 0x40000000 = true) := by
  decide +kernel

/-- A plan image for P00 alone: a header, one record and an empty section. -/
def planA : Bytes :=
  leBytes 4 0x4E414C50 ++ leBytes 4 5 ++ leBytes 4 160 ++ leBytes 2 1 ++ List.replicate 50 0
    ++ (leBytes 2 0 ++ [0, 0] ++ leBytes 4 128 ++ leBytes 4 32 ++ leBytes 4 0) ++ List.replicate 48 0
    ++ (leBytes 4 0x54434553 ++ leBytes 4 5 ++ List.replicate 24 0)

theorem witness_HostSteps_plan :
    let r : PlanRequest := { slot := 0, id := 5, deadline := 1, written := true, plan := none }
    let k := ((onA (fun k => { pageA ((plansA [r] [] k).setF (F.MOE_SECTION_KIB 0) 1) with hbm := Memory.writeBytes [] 0x40000000 planA })).pkg 0).at 0
    (k.moe.requests = [r] ∧ r.slot = (0 : SlotId).val ∧ r.id = 5 ∧ k.now < r.deadline ∧ ((0 : SlotId).val, 5) ∉ k.moe.fallen) ∧
    ((k.hubRead (0 : SlotId) (k.getF (F.MOE_PLAN_ADDR (0 : SlotId)) * 64) 160).2 = (planA, none)) ∧
    ((k.hubRead (0 : SlotId) (k.getF (F.MOE_PLAN_ADDR (0 : SlotId)) * 64) 160).1.checkPlan (0 : SlotId) 5 planA).isSome = true := by
  decide +kernel

/-- A window descriptor of 64 bytes at virtual address 0 (Table 11-1). -/
def windowDescA : Bytes := leBytes 8 0 ++ leBytes 8 64 ++ List.replicate 16 0

theorem witness_WindowsTakeWrites :
    (let k := ((onA (fun k => { pageA k with hbm := Memory.writeBytes [] 0x4001FFE0 windowDescA })).pkg 0).at 0
     4095 < 4096 ∧ k.window (0 : SlotId) 4095 = none ∧
       k.maps (0 : SlotId) (k.getF (F.COL_WIN_VA (0 : SlotId)) * 64 + 32 * 4095) 32 .hub .read 0x4001FFE0 = true ∧
       badWindow (Memory.readBytes k.hbm 0x4001FFE0 32) = false) ∧
    badWindow (Memory.readBytes [] 0x4001FFE0 32) = true ∧
    (let k := ((onA winA).pkg 0).at 0
     k.window (0 : SlotId) 5 = some ⟨0, 5, 0, 0x100000, 0, 15, 0⟩ ∧ k.coll.deregs = [] ∧ k.window (0 : SlotId) 4095 = none) ∧
    (((onA (fun k => { k with coll := { k.coll with deregs := [(3, 7)] } })).pkg 0).at 0).coll.deregs = [((3 : SlotId).val, 7)] ∧
    windowReducer 0x81 = true ∧ windowReducer 0xA4 = true ∧ bit (⟨0, 5, 0, 0x100000, 0, 15, 0⟩ : Window).rights 4 = false := by decide +kernel

/-- A WRITE or REDUCE packet of 64 bytes for window 5. -/
def writeA (type : Nat) : Packet := { type := type, src := 1, addr := 0x81 * 2 ^ 56 * (type - 0x10) + 5 * 2 ^ 44 + 128, len := 1, body := List.replicate 64 3 }

/-- A sealed request of a stream without a window is accepted where nothing is in reset. -/
theorem accepts_sealed (k : Pkg) (q : Packet) (he : (k.take (sealedA q)).expired (sealedA q) = false)
    (ht : isKnownType (sealedA q).type = true) (hz : (sealedA q).reservedZero = true)
    (ha : ((k.take (sealedA q)).inc (F.FAB_COUNTS 2)).absorbs (sealedA q) = false)
    (hc : (((k.take (sealedA q)).inc (F.FAB_COUNTS 2)).claim (sealedA q)).2 = .fresh) : k.accepts (sealedA q) = true := by
  have hg : (sealedA q).crc = (sealedA q).goodCrc := rfl
  have hs : k.screen (sealedA q) = (((k.take (sealedA q)).inc (F.FAB_COUNTS 2)), true) := by
    unfold Pkg.screen
    simp [he, hg, ht, hz]
  unfold Pkg.accepts
  rw [hs]
  simp [ha, hc]

theorem witness_WindowsTakeWrites_accepts :
    (((onA winA).pkg 0).at 0).accepts (sealedA (writeA 0x10)) = true ∧ (((onA winA).pkg 0).at 0).accepts (sealedA (writeA 0x11)) = true :=
  ⟨accepts_sealed _ _ (by decide +kernel) (by decide +kernel) (by decide +kernel) (by decide +kernel) (by decide +kernel),
   accepts_sealed _ _ (by decide +kernel) (by decide +kernel) (by decide +kernel) (by decide +kernel) (by decide +kernel)⟩

theorem witness_WindowsTakeWrites_payload :
    let k := ((onA winA).pkg 0).at 0
    (∀ n, n ∈ [0x10, 0x11] →
      let q := sealedA (writeA n)
      bit q.info 0 = false ∧ k.isCallStream q.slot q.sid = false ∧ q.skip = [] ∧
       (match k.windowCheck q.slot (bits q.addr 55 44) (q.addr % 2 ^ 44) q.payload.length (if n = 0x10 then 2 else 4) with
         | .ok (w, va) => w == ⟨0, 5, 0, 0x100000, 0, 15, 0⟩ && va == 128
         | _ => false) = true ∧
       k.maps q.slot 128 q.payload.length (.window q.src) (if n = 0x10 then .write else .atomic false) 0x40000080 = true) ∧
    windowReducer ((sealedA (writeA 0x11)).addr / 2 ^ 56) = true := by decide +kernel

theorem noBadCall (k : Pkg) (slot n fuel : Nat) : ∀ c seen, k.firstBadCall slot (List.replicate n 0#8) fuel c seen = none := by
  induction fuel with
  | zero => intro c seen; rfl
  | succ m ih =>
    intro c seen
    have h : cdOp (((List.replicate n 0#8).drop (64 * c)).take 64) = 0 := by
      simp [List.drop_replicate, List.take_replicate, cdOp, fieldAt, leNat_zeros]
    simp only [Pkg.firstBadCall, h, ite_true]
    exact ih _ _

/-- P00 with a call-table load due at epoch 1 for slot 0, and a byte at the head of the table. -/
def tableA (b : Bytes) (k : Pkg) : Pkg :=
  { pageA k with coll := { k.coll with loads := [(0, 1)] }, hbm := Memory.writeBytes [] 0x40000000 b }

theorem witness_CallsRun_table :
    let k := ((onA (tableA [])).pkg 0).at 2097152
    (slotNat k.coll.loads (0 : SlotId) = some 1 ∧ 1 * 2097152 ≤ 2097152 ∧ (∀ r ∈ k.coll.runs, r.slot ≠ (0 : SlotId).val)) ∧
    k.maps (0 : SlotId) (k.getF (F.COL_CALL_VA (0 : SlotId)) * 64) 65536 .hub .read 0x40000000 = true ∧
    k.firstBadCall (0 : SlotId) (Memory.readBytes k.hbm 0x40000000 65536) 1024 0 [] = none := by
  refine ⟨by decide +kernel, maps_page _ _ _ _ _ 0x40000000 _ _ (by decide +kernel) (by decide)
    (unitsGood_clean _ _ _ (by decide +kernel) (by decide +kernel)), ?_⟩
  have h : (((onA (tableA [])).pkg 0).at 2097152).hbm = [] := by decide +kernel
  rw [h, readBytes_empty]
  exact noBadCall _ _ _ _ _ _

theorem witness_CallsRun_badTable :
    let k := ((onA (tableA [255])).pkg 0).at 2097152
    k.firstBadCall (0 : SlotId) (Memory.readBytes k.hbm 0x40000000 65536) 1024 0 [] = some 0 := by decide +kernel

/-- A BROADCAST descriptor that fires at semaphore 3 with threshold 2, and a running instance of call 7. -/
def callDescA : Bytes := [1, 0, 0, 0, 0, 0] ++ leBytes 2 3 ++ leBytes 4 2 ++ List.replicate 52 0
def callRunA : CallRun := { slot := 0, call := 7, inst := 4, desc := callDescA, fired := 0, participants := [0], out := 0 }
def callsA (rs : List CallRun) (k : Pkg) : Pkg := { k with coll := { k.coll with runs := rs } }
/-- A COLL_CTRL or BARRIER packet with the given body. -/
def ctrlA (type : Nat) (b : Bytes) : Packet := sealedA { type := type, src := 1, body := (b ++ List.replicate 36 0).take 36 }

theorem witness_CallsRun :
    (let k := ((onA (fun k => { k.semAdd 0 3 2 with calls := [(0, 7, callDescA)], fireOrder := [(0, 7)] })).pkg 0).at 0
     k.nextFire (0 : SlotId) = some (7, callDescA) ∧ cdOp callDescA = 1 ∧ k.coll.early = []) ∧
    (let q := ctrlA 0x4B (leBytes 2 1 ++ leBytes 2 7 ++ leBytes 4 4 ++ leBytes 4 (cdDigest callDescA))
     let k := ((onA (callsA [callRunA])).pkg 0).at 0
     k.accepts q = true ∧ k.run q.slot (fieldAt q.body 2 2) = some callRunA ∧ callRunA.inst = fieldAt q.body 4 4 ∧ callRunA.status = 0 ∧
       callRunA.waiting = [] ∧ fieldAt q.body 8 4 = cdDigest callRunA.desc ∧ callRunA.placed = false) ∧
    (let q := ctrlA 0x4B (leBytes 2 1 ++ leBytes 2 7 ++ leBytes 4 4)
     let k := ((onA (callsA [callRunA])).pkg 0).at 0
     k.accepts q = true ∧ k.run q.slot (fieldAt q.body 2 2) = some callRunA ∧ fieldAt q.body 8 4 ≠ cdDigest callRunA.desc ∧
       (let j := ((onA (callsA [])).pkg 0).at 0
        j.accepts q = true ∧ j.run q.slot (fieldAt q.body 2 2) = none ∧ j.firedOf q.slot (fieldAt q.body 2 2) ≤ fieldAt q.body 4 4)) ∧
    (let r := { callRunA with placed := true, call := 1023 }
     let k := ((onA (callsA [r])).pkg 0).at 0
     1023 < 1024 ∧ k.fab.done = [] ∧ k.run (0 : SlotId) 1023 = some r ∧ r.out = 0 ∧ r.status = 0) ∧
    (let k := ((onA (callsA [callRunA])).pkg 0).at 20000000
     k.run (0 : SlotId) 7 = some callRunA ∧
       callRunA.fired + (if cdTimeout callRunA.desc = 0 then k.getF F.COL_TIMEOUT_DEF else cdTimeout callRunA.desc) ≤ k.now) := by decide +kernel

theorem witness_CallsRun_barriers :
    (let q := ctrlA 0x4A (leBytes 2 63 ++ leBytes 2 0 ++ leBytes 4 5 ++ leBytes 4 1 ++ leBytes 4 2)
     let k := (State.reset.pkg 0).at 0
     k.accepts q = true ∧ fieldAt q.body 0 2 < 64 ∧ fieldAt q.body 8 4 < fieldAt q.body 12 4 ∧ k.capArrivals = [] ∧
       (let a : Arrival := { slot := 0, id := 63, gen := 5, who := 2, participants := 2 }
        let j := ((onA (fun k => { k with capArrivals := [a] })).pkg 0).at 0
        j.accepts q = true ∧ j.capArrivals = [a] ∧ a.slot = q.slot ∧ a.id = fieldAt q.body 0 2 ∧ a.gen = fieldAt q.body 4 4) ∧
       (2 ≤ 1 + fieldAt q.body 8 4 ∧ 3 ≠ fieldAt q.body 12 4)) ∧
    (let q := ctrlA 0x4A (leBytes 2 71 ++ leBytes 2 0 ++ leBytes 4 4)
     let k := ((onA (callsA [callRunA])).pkg 0).at 0
     k.accepts q = true ∧ 64 ≤ fieldAt q.body 0 2 ∧ k.run q.slot (fieldAt q.body 0 2 - 64) = some callRunA ∧
       callRunA.inst = fieldAt q.body 4 4 ∧ callRunA.status = 0) := by decide +kernel

/-- P00 as captain of slot 0, with queue 255 of virtual function 0 enabled and one entry waiting; the partition is rack 0. -/
def hostA (k : Pkg) : Pkg :=
  let k := ((((pageA k).setF (F.HIF_IS_CAPTAIN 0) 1).setF (F.HIF_PART_VALID 0) 1).setF F.LUP_SLOTS 1)
  let k := ((k.setF (F.HIF_SQ_EN 255) 1).setF (F.HIF_SQ_TAIL 255) 1).setF (F.HIF_SQ_SIZE 255) 4096
  { k with lup := { k.lup with active := some {
      racks := [{ serial := 1, id := 0, share := 0, mapDigest := [] }]
      parts := [{ slot := 0, clusters := 1, faultPolicy := 0, captRack := 0, captPkg := 0, hbmBase := 1, hbmLen := 1, id := 1, racks := 1
                  minPkg := 0, minTotal := 0, eta := 0, clamp := 0, deadline := 0, period := 0, loopOn := false, hostStep := false
                  cap := 2200, kvBase := 0 }] } } }
/-- Queue 255 takes the entry `b` now. -/
def takesA (b : Bytes) : Prop := (((onA hostA).pkg 0).at 0).takesCall (255 : Fin 256) b = true
/-- A call for P00. -/
def entryB (op : Nat) (fs : List (Nat × Nat × Nat)) : Bytes := wordA op ((4, 4, 9) :: fs)

theorem witness_HostCallsAreFetched :
    (takesA (entryB 1 []) ∧ fieldAt (entryB 1 []) 0 1 = 1 ∧ (((onA hostA).pkg 0).at 0).getF (F.HIF_SQ_SIZE (255 : Fin 256)) ≤ 4096) ∧
    (takesA (entryB 2 []) ∧ fieldAt (entryB 2 []) 0 1 = 2 ∧ (((onA hostA).pkg 0).at 0).excluded 0 (fieldAt (entryB 2 []) 16 4) = false) ∧
    (let b := entryB 3 [(24, 4, 2)]
     let k := ((onA hostA).pkg 0).at 0
     takesA b ∧ fieldAt b 0 1 = 3 ∧ k.maps (k.getF (F.HIF_SQ_OWNER (255 : Fin 256))) (fieldAt b 16 8) (16 * fieldAt b 24 4) .hub .read 0x40000000 = true ∧
       ∀ e ∈ (List.range (fieldAt b 24 4)).map (fun i => Memory.readBytes k.hbm (0x40000000 + 16 * i) 16),
         zeroSpan e 5 8 = true ∧ addrReserved e 8 .addr = false ∧ fieldAt e 0 4 < 2 ^ 18 ∧
           (k.callTargets 0 (fieldAt e 0 4) false).isSome = true ∧ k.partCore 0 (fieldAt e 4 1) = true ∧ k.excluded 0 (fieldAt e 0 4) = false) ∧
    (takesA (entryB 4 []) ∧ fieldAt (entryB 4 []) 0 1 = 4 ∧ fieldAt (entryB 4 []) 16 4 ≠ 2 ^ 31) ∧
    (∀ dir, dir ∈ [0, 1] →
     let b := entryB 5 [(20, 1, dir), (24, 8, 4032), (40, 4, 64)]
     let k := ((onA hostA).pkg 0).at 0
     takesA b ∧ fieldAt b 0 1 = 5 ∧ fieldAt b 16 4 = k.target ∧ k.excluded 0 (fieldAt b 16 4) = false ∧ fieldAt b 8 8 = 0 ∧ fieldAt b 20 1 = dir ∧
       fieldAt b 24 8 % 4096 + fieldAt b 40 4 ≤ 4096 ∧ (List.replicate 64 (7 : BitVec 8)).length = fieldAt b 40 4 ∧
       k.maps 0 (fieldAt b 24 8) (fieldAt b 40 4) (.host 0) (if dir = 1 then .read else .write) 0x40000FC0 = true) ∧
    (let b := entryB 6 [(16, 4, 71), (20, 4, 65536)]
     let k := ((onA hostA).pkg 0).at 0
     takesA b ∧ fieldAt b 0 1 = 6 ∧ fieldAt b 16 4 ≠ 2 ^ 31 ∧ fieldAt b 16 4 ≠ k.target ∧ k.excluded 0 (fieldAt b 16 4) = false) ∧
    (let b := entryB 2 [(16, 4, 72)]
     let k := ((onA hostA).pkg 0).at 0
     k.mayFetch (255 : Fin 256) = true ∧ fieldAt b 0 1 = 2 ∧ (∀ c ∈ k.host.calls, c.num < k.host.nextCall) ∧
       (∀ r ∈ k.host.replay, r.sq ≠ (255 : Fin 256).val ∨ r.id ≠ fieldAt b 4 4) ∧ k.callRefusal 0 b = some (0x3604, 0)) ∧
    (let r : ReplayRec := { sq := 255, id := 9, num := 0, done := some (0, 0) }
     let k := ((onA (fun k => { hostA k with host := { k.host with replay := [r], nextCall := 1 } })).pkg 0).at 0
     k.mayFetch (255 : Fin 256) = true ∧ (∀ c ∈ k.host.calls, c.num < k.host.nextCall) ∧
       k.host.replay.find? (fun r => r.sq == (255 : Fin 256).val && r.id == fieldAt (entryB 2 []) 4 4) = some r ∧ r.done = some (0, 0)) := by
  unfold takesA
  decide +kernel

/-- A call of queue 255. -/
def callA (op : Nat) (parts : List CallPart) (result : Option (Status × Nat)) : HostCall :=
  { num := 0, sq := 255, slot := 0, entry := entryB op [], deadline := 7, started := true, parts := parts, result := result }
def callsB (cs : List HostCall) (ghosts : List (Nat × Nat)) (k : Pkg) : Pkg := { hostA k with host := { k.host with calls := cs, ghosts := ghosts } }
/-- An unacknowledged packet of slot 3, stream 4095. -/
def sentA : Unacked := { pkt := { dst := 1, stream := 3 * 4096 + 4095, seq := 2 ^ 32 - 1 }, sentAt := 0, sched := false, chan := 0, owner := .none }

theorem witness_HostCallsComplete :
    (let c := callA 1 [] (some (0, 0))
     let k := ((onA (fun k => ((callsB [c] [] k).setF (F.HIF_CQ_EN 0) 1).setF (F.HIF_CQ_SIZE 0) 2)).pkg 0).at 0
     k.fab.done = [] ∧ k.host.calls = [c] ∧ c.result = some (0, 0) ∧ c.dupOf = none ∧ k.getF (F.HIF_CQ_EN (k.getF (F.HIF_SQ_CQ c.sq))) = 1 ∧
       k.cqFull (k.getF (F.HIF_SQ_CQ c.sq)) = false ∧ bit (fieldAt c.entry 1 1) 0 = false ∧ c.sq < 256) ∧
    (let c := callA 2 [{ target := 1 }] none
     let k := ((onA (callsB [c] [])).pkg 0).at 7
     k.call 0 = some c ∧ c.result = none ∧ callResult c = none ∧ fieldAt c.entry 0 1 ≠ 1 ∧ fieldAt c.entry 0 1 ≠ 4 ∧ c.deadline ≤ k.now ∧
       k.fab.done = []) ∧
    (let c := callA 2 [{ target := 1 }] none
     let q := ctrlA 0x45 (List.replicate 36 0)
     let k := ((onA (callsB [c] [])).pkg 0).at 0
     k.accepts q = true ∧ k.host.ghosts = [] ∧ k.host.calls = [c] ∧ fieldAt c.entry 0 1 = 2 ∧ 1 = q.src ∧ 0 = fieldAt q.body 14 1) ∧
    (let q := ctrlA 0x45 (List.replicate 36 0)
     let k := ((onA (callsB [] [(1, 0)])).pkg 0).at 0
     k.accepts q = true ∧ (q.src, fieldAt q.body 14 1) ∈ k.host.ghosts) ∧
    (let c := callA 6 [{ target := 1 }] none
     let q := ctrlA 0x4C (List.replicate 36 0)
     let k := ((onA (callsB [c] [])).pkg 0).at 0
     k.accepts q = true ∧ k.host.calls = [c] ∧ c.num = fieldAt q.body 4 4 / 2) ∧
    (∀ st, st ∈ [0, 0x1101] →
     let q := ctrlA 0x40 (leBytes 4 (2 ^ 32 - 1) ++ leBytes 2 0 ++ leBytes 2 st ++ leBytes 4 0 ++ leBytes 2 (3 * 4096 + 4095))
     let k := ((onA (fun k => { k with fab := { k.fab with unacked := [sentA] } })).pkg 0).at 0
     (k.screen q).2 = true ∧ (if st = 0 then statusClass (fieldAt q.body 6 2) ≠ 1 else statusClass (fieldAt q.body 6 2) = 1) ∧
       k.fab.unacked = [sentA] ∧ k.fab.held = [] ∧ sentA.owner = .none ∧ sentA.pkt.dst = q.src ∧
       sentA.pkt.slot = bits (fieldAt q.body 12 2) 13 12 ∧ sentA.pkt.sid = bits (fieldAt q.body 12 2) 11 0 ∧
       sentA.pkt.seq = fieldAt q.body 0 4 ∧ k.fab.done = []) ∧
    (let k := ((onA (fun k => { k with fab := { k.fab with unacked := [sentA] } })).pkg 0).at 4002049
     k.fab.unacked = [sentA] ∧ sentA.pkt.slot = (3 : SlotId).val ∧ sentA.pkt.sid = 4095 ∧
       k.getF F.FAB_LIFETIME + 2048 < (2 ^ 32 + k.now - sentA.pkt.born) % 2 ^ 32) := by decide +kernel

/-- P00 with submission queue 255 and completion queue 0 of virtual function 3, both enabled with two entries. -/
def queuesA (k : Pkg) : Pkg :=
  let k := ((k.setF (F.HIF_SQ_OWNER 255) 3).setF (F.HIF_SQ_EN 255) 1).setF (F.HIF_SQ_SIZE 255) 2
  ((k.setF (F.HIF_CQ_OWNER 0) 3).setF (F.HIF_CQ_EN 0) 1).setF (F.HIF_CQ_SIZE 0) 2

theorem witness_HostQueuesMoveAndReset :
    (let k := ((onA queuesA).pkg 0).at 0
     k.getF (F.HIF_SQ_OWNER (255 : Fin 256)) = (3 : Root).val ∧ k.getF (F.HIF_SQ_EN (255 : Fin 256)) = 1 ∧
       1 < k.getF (F.HIF_SQ_SIZE (255 : Fin 256)) ∧ k.getF (F.HIF_SQ_SIZE (255 : Fin 256)) ≤ 2 ∧ k.getF (F.HIF_SQ_OWNER (255 : Fin 256)) ≠ (4 : Root).val ∧
       k.getF (F.HIF_SQ_EN (0 : Fin 256)) = 0 ∧ k.getF (F.HIF_CQ_OWNER (0 : Fin 256)) = (3 : Root).val ∧ k.getF (F.HIF_CQ_EN (0 : Fin 256)) = 1 ∧
       1 < k.getF (F.HIF_CQ_SIZE (0 : Fin 256)) ∧ k.getF (F.HIF_CQ_SIZE (0 : Fin 256)) ≤ 2 ∧ k.host.events = [] ∧
       k.getF (F.HIF_CQ_OWNER (0 : Fin 256)) ≠ (4 : Root).val ∧ k.getF (F.HIF_CQ_EN (255 : Fin 256)) = 0 ∧
       k.getF (F.HIF_SQ_OWNER (255 : Fin 256)) ≠ (0 : SlotId).val) ∧
    (∀ masked, masked ∈ [0, 2 ^ 32] →
     let k := ((onA (fun k => { k.setF (F.MSIX_WORD 0 1) masked with host := { k.host with coal := [(255, 1, 0)] } })).pkg 0).at 0
     k.host.coal = [(255, 1, 0)] ∧ 0 + k.getF (F.HIF_CQ_COAL_TIME (255 : Fin 256)) * 2000 ≤ k.now ∧
       k.msixMasked (k.getF (F.HIF_CQ_OWNER (255 : Fin 256))) (k.getF (F.HIF_CQ_VECTOR (255 : Fin 256))) = decide (masked ≠ 0)) ∧
    (∀ n, n ∈ [2, 4096] →
     let data := 2 ^ 63 + 3 * 2 ^ 32 + n
     let k := ((onA queuesA).pkg 0).at 0
     bit data 63 = true ∧ k.getF (F.HIF_SQ_EN (0 : Fin 256)) = 0 ∧ k.getF (F.HIF_CQ_EN (bits data 55 48)) = 1 ∧
       k.getF (F.HIF_CQ_OWNER (bits data 55 48)) = bits data 34 32 ∧ k.replayStoreGood (0 : Fin 256) = true ∧ 2 ≤ bits data 12 0 ∧
       bits data 12 0 ≤ 4096) ∧
    (bits (2 ^ 63 + 1) 12 0 < 2 ∧ 4096 < bits (2 ^ 63 + 4097) 12 0 ∧
      (((onA queuesA).pkg 0).at 0).getF (F.HIF_CQ_EN (bits (2 ^ 63 + 255 * 2 ^ 48) 55 48)) = 0 ∧
      (((onA queuesA).pkg 0).at 0).getF (F.HIF_CQ_OWNER (bits (2 ^ 63) 55 48)) ≠ bits (2 ^ 63) 34 32 ∧
      (((onA (fun k => (queuesA k).setF (F.HIF_SQ_REPLAY 0) (2 ^ 20))).pkg 0).at 0).replayStoreGood (0 : Fin 256) = false) ∧
    bit 0 63 = false := by decide +kernel

/-- A valid connection entry that asks for 64 I/O queues. -/
def connA : Bytes := List.replicate 18 0 ++ [64, 1] ++ leBytes 2 2 ++ List.replicate 234 0
/-- An outstanding NVMe command of entry 0 of the job with tag 4, and that job. -/
def nvmeA (toMemory : Bool) : NvmeCmd :=
  { key := 9, captain := 1, tag := 4, entry := 0, issued := 0, slot := 0, va := 64, size := 64, toMemory := toMemory, conn := 15 }
def jobA (out : Nat) : HostJob := { captain := 1, tag := 4, slot := 0, storage := true, started := true, entries := [{ bytes := [], issued := true, out := out }] }
def nvmesA (x : NvmeCmd) (js : List HostJob) (k : Pkg) : Pkg := { pageA k with host := { k.host with nvme := [x], jobs := js } }

theorem witness_StorageRuns :
    (let q := ctrlA 0x4C ([1, 6, 0, 0] ++ leBytes 4 5 ++ leBytes 8 100)
     let k := (State.reset.pkg 0).at 0
     k.accepts q = true ∧ fieldAt q.body 1 1 = 6 ∧ fieldAt q.body 8 8 ≠ 0 ∧ k.hallTime < fieldAt q.body 8 8 ∧
       k.job q.src (fieldAt q.body 4 4 / 2 * 2) = none) ∧
    (let j : HostJob := { captain := 0, tag := 0, slot := 0, storage := false, ht := 7, va := some 64, arg := 64, dir := 1, hostAddr := some 4096 }
     let k := ((onA (fun k => { (pageA k).setF F.HTM_VALID 1 with host := { k.host with jobs := [j] } })).pkg 0).at 7
     k.host.jobs = [j] ∧ j.started = false ∧ j.ht ≠ 0 ∧ j.ht ≤ k.hallTime ∧ k.maps j.slot 64 j.arg (.host j.slot) .read 0x40000040 = true) ∧
    (let k := (State.reset.pkg 0).at 0
     let es := (List.range 16).map (fun j => Memory.readBytes k.hbm (k.getF F.HIF_STO_TABLE * 4096 + 256 * j) 256)
     15 < 16 ∧ k.getF F.HIF_STO_TABLE * 4096 + 4096 ≤ hbmBytes ∧ (∀ b ∈ es, bit (fieldAt b 19 1) 0 = true → connValid b = true) ∧
       ((es.filter connValid).map (fun b => fieldAt b 18 1)).sum ≤ 64 ∧ k.getF (F.HIF_STO_ST 15) = 0) ∧
    (State.reset.pkg 0).unitsGood 0 4096 = true ∧
    (let k := ((onA (fun k => { k with hbm := Memory.writeBytes [] 0 (connA ++ connA) })).pkg 0).at 0
     let es := (List.range 16).map (fun j => Memory.readBytes k.hbm (k.getF F.HIF_STO_TABLE * 4096 + 256 * j) 256)
     64 < ((es.filter connValid).map (fun b => fieldAt b 18 1)).sum) ∧
    (((onA (fun k => k.setF (F.HIF_STO_ST 15) 2)).pkg 0).at 0).getF (F.HIF_STO_ST (15 : Fin 16)) = 2 ∧
    (let k := ((onA (fun k => (k.setConn 15 { wanted := true, entry := connA }).setF (F.HIF_STO_ST 15) 1)).pkg 0).at 0
     (k.conn (15 : Fin 16)).wanted = true ∧ k.getF (F.HIF_STO_ST (15 : Fin 16)) = 1 ∧ fieldAt (k.conn (15 : Fin 16)).entry 18 1 ≤ 64) := by
  decide +kernel

theorem witness_StorageRuns_nvme :
    (let k := ((onA (nvmesA (nvmeA true) [jobA 1])).pkg 0).at 0
     k.nvmeCmd 9 = some (nvmeA true) ∧ k.host.jobs = [jobA 1] ∧ (jobA 1).captain = (nvmeA true).captain ∧ (jobA 1).tag = (nvmeA true).tag ∧
       (nvmeA true).conn < 16 ∧ 1 ≠ 0 ∧ 2 ^ 16 - 1 < 2 ^ 16) ∧
    (let k := ((onA (nvmesA (nvmeA true) [jobA 2])).pkg 0).at 20000000000
     k.nvmeCmd 9 = some (nvmeA true) ∧ (nvmeA true).issued + 20000000000 ≤ k.now ∧ k.host.jobs = [jobA 2]) ∧
    (let k := ((onA (nvmesA (nvmeA true) [])).pkg 0).at 0
     60 + ([1, 2, 3, 4] : Bytes).length ≤ (nvmeA true).size ∧
       k.maps (nvmeA true).slot ((nvmeA true).va + 60) ([1, 2, 3, 4] : Bytes).length .storage .write 0x4000007C = true) ∧
    (let k := ((onA (nvmesA (nvmeA false) [])).pkg 0).at 0
     k.nvmeCmd 9 = some (nvmeA false) ∧ (nvmeA false).toMemory = false ∧ 0 + 64 ≤ (nvmeA false).size ∧
       k.maps (nvmeA false).slot ((nvmeA false).va + 0) 64 .storage .read 0x40000040 = true) ∧
    (nvmeA true).size < 61 + ([1, 2, 3, 4] : Bytes).length ∧
    (let k := ((onA (fun k => k.setF F.LNK_S_ST 2)).pkg 0).at 0
     k.getF F.LNK_S_ST = 2 ∧ k.getF F.HIF_STO_VLAN_EN = 0 ∧ (some 5 : Option Nat).isSome = true) := by decide +kernel

/-- P00 with a lineup staged and one in force. -/
def stagedA (l : Lineup) (k : Pkg) : Pkg := { k with lup := { k.lup with active := some {}, staged := some l } }

theorem witness_LineupIsStagedAndApplied :
    ((State.reset.pkg 0).at 0).getF F.LUP_PENDING_EN = 0 ∧
    (((onA (fun k => k.setF F.LUP_PENDING_EN 1)).pkg 0).at 0).getF F.LUP_PENDING_EN = 1 ∧
    (((onA (fun k => { k with lup := { k.lup with staging := some [] } })).pkg 0).at 0).lup.staging = some [] ∧
    ((State.reset.pkg 0).at 0).lup.staged = none ∧
    (let l : Lineup := { structDigest := [1] }
     let k := ((onA (stagedA l)).pkg 0).at 0
     k.lup.staged = some l ∧ k.lup.active.map Lineup.structDigest ≠ some l.structDigest) ∧
    (let k := ((onA (stagedA {})).pkg 0).at 0
     k.lup.staged = some {} ∧ k.lup.active.map Lineup.structDigest = some ({} : Lineup).structDigest ∧ 2 ^ 43 - 1 < 2 ^ 43 ∧
       k.hallTime / 2097152 + 1 < 2 ^ 43) ∧
    (let k := ((onA (fun k => ((stagedA {} k).setF F.LUP_PENDING_EN 1).setF F.HTM_VALID 1)).pkg 0).at 0
     k.lup.staged = some {} ∧ k.getF F.LUP_PENDING_EN = 1 ∧ k.getF F.HTM_VALID = 1 ∧ 0 % 2097152 = 0 ∧ k.getF F.LUP_PEND_EPOCH ≤ 0 / 2097152) := by
  decide +kernel

/-- Core 0 is logical core 0, core 15 is a spare of cluster 0. -/
def mappedA (k : Pkg) : Pkg := ((k.setF (F.GLB_MAP_ACTIVE 0) 1).setF (F.GLB_ME_PHYS 0) 0).setF (F.GLB_MAP_SPARE 0) 0x8000
/-- P00 with repair state. -/
def repairA (r : Repair) (k : Pkg) : Pkg := { mappedA k with repair := r }

theorem witness_RepairActs :
    (let pl : Play := { addr := 0, length := 10, block := some (.stop 9), cmds := [waitA (wordA 0x52 [])] }
     let k := ((onA (playA pl)).pkg 0).at 0
     k.play (0 : CoreId) = some pl ∧ pl.draining = false ∧ (∀ x ∈ pl.cmds, x.op = 0x52) ∧ k.repair.marks = []) ∧
    (let pl : Play := { addr := 0, length := 10 }
     let k := ((onA (playA pl)).pkg 0).at 0
     k.play (0 : CoreId) = some pl ∧ k.shotPaused pl = false ∧ k.getF (F.CORE_SEQ_SHOT_LIMIT (0 : CoreId)) ≤ pl.shotCount k.now) ∧
    (let k := ((onA (fun k => { k.setF (F.CORE_STATE 63) 4 with coreDown := [63] })).pkg 0).at 0
     (63 : CoreId).val ∈ k.coreDown ∧ k.getF (F.CORE_STATE (63 : CoreId)) = 4 ∧ bit (k.getF F.RST_CLUSTER_RESET) ((63 : CoreId) / 16) = false ∧
       k.repair.substs = [] ∧ k.repair.marks = []) ∧
    (let k := ((onA (fun k => k.setF F.HTM_VALID 1)).pkg 0).at 7200000000000
     k.getF F.HTM_VALID = 1 ∧ 7200000000000 % 7200000000000 = 0 ∧
       ∀ c, c < 64 → k.getF (F.CORE_LS_CE_COUNT c) < getPair k.repair.ceLast c + 1000) ∧
    (let k := ((onA (fun k => ((mappedA (playA { addr := 0 } k)).setF F.HTM_VALID 1).setF (F.CORE_LS_CE_COUNT 0) 1000)).pkg 0).at 7200000000000
     k.getF F.HTM_VALID = 1 ∧ (∀ c, c < 64 → c ≠ (0 : CoreId).val → k.getF (F.CORE_LS_CE_COUNT c) < getPair k.repair.ceLast c + 1000) ∧
       getPair k.repair.ceLast (0 : CoreId) + 1000 ≤ k.getF (F.CORE_LS_CE_COUNT (0 : CoreId)) ∧ k.repair.substs = [] ∧ k.repair.marks = [] ∧
       k.isSpare (0 : CoreId) = false ∧ k.logicalOf (0 : CoreId) = some 0 ∧ k.spares ((0 : CoreId) / 16) ≠ [] ∧ (k.play (0 : CoreId)).isSome = true) ∧
    (let k := ((onA mappedA).pkg 0).at 0
     k.isSpare 15 = true ∧ k.repair.substs = [] ∧ k.isSpare 63 = false ∧ k.logicalOf 63 = none) ∧
    (let q : Subst := { core := 0, logical := 0, reason := 5, copy := true, spare := 15, copying := true }
     let k := ((onA (repairA { substs := [q] })).pkg 0).at 0
     k.repair.substs = [q] ∧ q.core = (0 : CoreId).val ∧ q.spare < 64 ∧ q.spare ≠ (0 : CoreId).val ∧ q.logical < 60 ∧
       bit (k.getF F.RST_CLUSTER_RESET) (q.spare / 16) = false) ∧
    (((onA (repairA { records := [[1], [2]] })).pkg 0).at 0).repair.records = [1] :: [[2]] ∧
    (let k := ((onA (repairA { records := [[1]], retryAt := some 5 })).pkg 0).at 5
     k.repair.retryAt = some 5 ∧ 5 ≤ k.now) := by decide +kernel

/-- P00 at a step of its bring-up. -/
def bringA (b : BringUp) (k : Pkg) : Pkg := { k with bring := b }

theorem witness_BringUpProceeds :
    (let k := ((onA (bringA { step := 1, released := some 0 })).pkg 0).at 0
     k.bring.step = 1 ∧ k.bring.released.isSome = true ∧ k.boot.dead = false) ∧
    (let k := ((onA (bringA { step := 2 })).pkg 0).at 4000000000
     k.bring.step = 2 ∧ k.getF F.GLB_BU_SERIAL_SET = 0 ∧ k.bring.phaseAt + 4000000000 ≤ k.now) ∧
    (let k := ((onA (bringA { step := 3 })).pkg 0).at 0
     k.bring.step = 3 ∧ k.bring.hbmTrained = false) ∧
    (∀ cold, cold ∈ [0, 1] →
     let k := ((onA (fun k => (bringA { step := 3, hbmTrained := true } k).setF F.GLB_BU_COLD cold)).pkg 0).at 0
     k.bring.step = 3 ∧ k.bring.hbmTrained = true ∧ k.getF F.GLB_BU_COLD = cold ∧ k.hbmSettled = false) ∧
    (let k := ((onA (fun k => (List.range 20).foldl (fun k n => k.setF (F.LNK_ST n) 7) (bringA { step := 3 } k))).pkg 0).at 0
     k.bring.step = 3 ∧ k.bring.portsAt = none ∧ k.portsSettled = true ∧ k.braidUp = false) ∧
    (let k := ((onA (bringA { step := 4 })).pkg 0).at 10000000000
     k.bring.step = 4 ∧ k.bring.pendingAt + 10000000000 + socketOf 0 * 1000000 ≤ k.now ∧ (State.reset.pkg 0).bring.step ≠ 4) ∧
    (let s : State := { onA (bringA { step := 4 }) with trays := State.reset.trays.set 0 { State.reset.tray 0 with aux := true } }
     trayOf 0 = 0 ∧ ((s.pkg 0).at 0).bring.step = 4 ∧ (s.tray (trayOf 0)).aux = true ∧ (s.tray (trayOf 0)).origin = none) ∧
    (let k := ((onA (bringA { step := 5, goAt := some 0, waves := 7 })).pkg 0).at 28000000
     k.bring.goAt = some 0 ∧ k.bring.step = 5 ∧ k.bring.waves < 8 ∧ 0 + 4000000 * k.bring.waves ≤ k.now) ∧
    (let k := ((onA (fun k => (bringA { step := 5 } k).setF (F.CORE_BIST_RESULT 63) 3)).pkg 0).at 0
     k.getF (F.CORE_BIST_RESULT (63 : CoreId)) = 3 ∧ k.bring.step = 5) ∧
    (let k := ((onA (bringA { step := 6 })).pkg 0).at 0
     k.bring.step = 6 ∧ k.bring.mapped = false) ∧
    (let k := ((onA (bringA { step := 6, released := some 0 })).pkg 0).at 20000000000
     k.bring.released = some 0 ∧ k.bring.step ≠ 7 ∧ k.bring.late = false ∧ 0 + 20000000000 ≤ k.now) ∧
    (let k := ((onA (bringA { released := some 0 })).pkg 0).at 40000000
     0 + 40000000 ≤ k.now ∧ k.getF F.LNK_H_ST = 0) ∧
    (∀ r, r ∈ [true, false] →
     let k := ((onA (fun k => (bringA { runtime := r } k).setF F.LNK_H_ST 2)).pkg 0).at 0
     k.getF F.LNK_H_ST = 2 ∧ k.bring.runtime = r) ∧
    (((onA (fun k => k.setF F.LNK_H_ST 1)).pkg 0).at 0).getF F.LNK_H_ST = 1 := by decide +kernel

/-- With an erased flash there is no boot control record and no trial. -/
theorem witness_BringUpProceeds_flash :
    let k := ((onA (bringA { step := 2, proceed := true })).pkg 0).at 0
    k.bring.step = 2 ∧ k.bring.proceed = true ∧ k.bootRecord = none ∧ k.bc.state ≠ 2 := by decide +kernel

/-- P00 with one drain. -/
def drainA (d : Drain) (k : Pkg) : Pkg := { k with drains := [d] }

theorem witness_ResetsAreCommanded :
    (let k := ((State.reset.pkg 0)).at 0
     (∀ c, c < 64 → k.resetCovers 1 c = false) ∧ (∀ c, c < 4 → k.resetCovers 2 c = false) ∧ k.slotHeld 3 = false ∧ k.resetCovers 4 0 = false ∧
       k.resetCovers 5 0 = false ∧ k.getF F.RST_CMD_HT ≤ k.now) ∧
    (let k := ((onA (fun k => (k.setF F.RST_CMD_HT 1).setF F.LUP_SLOTS 8)).pkg 0).at 0
     k.now < k.getF F.RST_CMD_HT ∧ k.slotHeld 3 = true ∧ k.resetCovers 3 3 = false) ∧
    (let k := ((onA (fun k => { k with resetsAt := [(1, 63, 5)] })).pkg 0).at 5
     k.resetsAt = [(1, 63, 5)] ∧ 5 ≤ k.now ∧ k.resetCovers 1 63 = false) ∧
    (∀ sc, sc ∈ [1, 3, 4] →
     let d : Drain := { scope := sc, target := if sc = 4 then 0 else 3, cause := 4, loc := 0, began := 0 }
     let k := ((onA (drainA d)).pkg 0).at 0
     k.drains = [d] ∧ d.cause ≠ 0 ∧ k.drained d = true) ∧
    (let d : Drain := { scope := 1, target := 63, cause := 4, loc := 0, began := 0 }
     let k := ((onA (drainA d)).pkg 0).at 128000
     k.drains = [d] ∧ d.target < 64 ∧ d.began + k.getF (F.RST_CFG 0) ≤ k.now) := by decide +kernel

theorem witness_ResetsFromSources :
    (let k := ((onA (fun k => ((bringA { released := some 0 } k).setF (F.PWR_RL_STATE 1) 2).setF (F.PWR_RL_STATE 2) 2)).pkg 0).at 0
     k.linkHold = none ∧ k.bring.released.isSome = true ∧ k.getF (F.PWR_RL_STATE 1) = 2 ∧ k.getF (F.PWR_RL_STATE 2) = 2) ∧
    (∀ low, low ∈ [true, false] →
     let k := ((onA (fun k => { k with linkHold := some 0, pinLow := low })).pkg 0).at 2000
     k.linkHold = some 0 ∧ 0 + 2000 ≤ k.now ∧ k.pinLow = low) ∧
    (let k := ((onA (fun k => { k with hold := some 0 })).pkg 0).at 200000
     k.hold = some 0 ∧ 0 + 200000 ≤ k.now) ∧
    (let k := ((onA (fun k => { k with pinLow := true, rails := { k.rails with mode := .on } })).pkg 0).at 0
     k.pinLow = true ∧ k.linkHold = none ∧ k.bring.released = none ∧ k.rails.mode = .on) ∧
    (let k := ((onA (fun k => { k with rails := { k.rails with aux := false, efuse := true } })).pkg 0).at 0
     k.rails.aux = false ∧ k.rails.efuse = true) ∧
    (((onA (fun k => k.setF (F.PWR_RL_STATE 10) 2)).pkg 0).at 0).getF (F.PWR_RL_STATE (10 : Fin 11)) = 2 ∧
    (let k := (State.reset.pkg 0).at 0
     k.bc.state ≠ 2 ∧ k.resetCovers 4 0 = false ∧ k.resetCovers 1 63 = false ∧ k.getF F.RS_PARITY = 0 ∧
       bit (k.getF F.RST_CLUSTER_RESET) 3 = false) ∧
    (let k := ((onA (fun k => { k with releases := [(3, 5)] })).pkg 0).at 5
     ((3 : SlotId).val, 5) ∈ k.releases ∧ 5 ≤ k.now) := by decide +kernel

/-- RMC-B is primary. -/
def primaryA : State := { State.reset with umpires := State.reset.umpires.set 1 { line := true, polled := true } }
/-- P00 and P71 hold slot 3 of one partition; P00 has a reset of it to signal. -/
def signalA : State :=
  ((primaryA.updPkg 0 (fun k => { k.setF F.LUP_SLOTS 8 with ibi := [3] })).updPkg 71 (fun k => k.setF F.LUP_SLOTS 8))
theorem witness_ResetsFromSources_signal :
    (∀ r : PkgId, (signalA.pkg r).id = r.val) ∧ (3 : SlotId).val ∈ (signalA.pkg 0).ibi ∧ signalA.mir.exts = [] ∧ signalA.paired = true ∧
      signalA.primary.isSome = true ∧ (71 : PkgId) ≠ 0 ∧ (signalA.pkg 71).slotHeld (3 : SlotId) = true ∧
      (signalA.pkg 71).getF (F.LUP_PART_ID (3 : SlotId)) = (signalA.pkg 0).getF (F.LUP_PART_ID (3 : SlotId)) := by decide +kernel

/-- The rack after reset with tray 0 changed. -/
def onTray (f : Tray → Tray) : State := State.reset.updTray 0 f
/-- P00 with its rails in some state. -/
def railsA (r : Rails) (k : Pkg) : Pkg := { k with rails := r }

theorem witness_RailsAreSequenced :
    State.reset.shelves[(5 : Fin 6)] = true ∧
    (((onA (fun k => k.setF (F.PWR_RL_STATE 10) 2)).pkg 0).at 0).getF (F.PWR_RL_STATE (10 : Fin 11)) = 2 ∧
    ((State.reset.tray (0 : TrayId)).converters ≠ 0 ∧ (0 : TrayId).val = trayOf (3 : PkgId)) ∧
    (let k := ((onA (railsA { mode := .up, wait := [(5, 0)] })).pkg 0).at 0
     k.rails.mode = .up ∧ (∃ w ∈ k.rails.wait, w.1 = (5 : Fin 11).val) ∧ (5 : Fin 11).val < 6) ∧
    (let k := ((onA (railsA { mode := .up, wait := [(10, 0)] })).pkg 0).at 20000000
     k.rails.mode = .up ∧ k.rails.wait = [((10 : Fin 11).val, 0)] ∧ 7 ≤ (10 : Fin 11).val ∧ ((10 : Fin 11).val, 0) ∈ k.rails.wait ∧
       0 + 20000000 ≤ k.now) ∧
    (let s : State := (onTray (fun y => { y with flow := 120, supply := 4500, aux := true })).updPkg 0 (railsA { aux := true, retryAt := some 5 })
     let k := (s.pkg 0).at 5
     let y := s.tray (trayOf (0 : PkgId))
     k.rails.retryAt = some 5 ∧ 5 ≤ k.now ∧ k.rails.mode = .off ∧ k.rails.held = false ∧ k.rails.aux = true ∧ k.rails.efuse = true ∧
       y.mayPower = true ∧ y.stopped = false) ∧
    (let k := ((onA (railsA { mode := .down, late := [(10, 0)], step := 10 })).pkg 0).at 100000000
     (∃ w ∈ k.rails.late, w.1 = (10 : Fin 11).val) ∧ (10 : Fin 11).val ≠ 1 ∧ (State.reset.tray (trayOf (0 : PkgId))).safing = false ∧
       ((10 : Fin 11).val, 0) ∈ k.rails.late ∧ 0 + 100000000 ≤ k.now) ∧
    (let k := ((onA (railsA { mode := .down, late := [(1, 0)], step := 1 })).pkg 0).at 0
     k.rails.late = [(1, 0)] ∧ k.rails.step = 1) ∧
    (let k := ((onA (fun k => (railsA { mode := .down, step := 10 } k).setF (F.PWR_RL_STATE 9) 2)).pkg 0).at 10000000
     k.rails.mode = .down ∧ k.rails.step = 8 + 2 ∧ k.rails.tripped = false ∧ k.rails.stepAt + 10000000 ≤ k.now ∧
       k.getF (F.PWR_RL_STATE (8 + 1)) ≠ 0 ∧ 8 < 9) ∧
    (let s : State := (onTray (fun y => { y with flow := 120 })).updPkg 0 (railsA { efuse := false, closeAt := some 5 })
     let k := (s.pkg 0).at 5
     k.rails.closeAt = some 5 ∧ 5 ≤ k.now ∧ k.rails.efuse = false ∧ (s.tray (trayOf (0 : PkgId))).mayPower = true) := by decide +kernel

/-- P00 with the power controller in some state. -/
def powerA (w : Power) (k : Pkg) : Pkg := { k with power := w }

theorem witness_PowerIsControlled :
    ((State.reset.pkg 0).at 0).power.droops.length = 4 ∧
    (((onA (fun k => k.setF F.PWR_FIXED 1)).pkg 0).at 0).getF F.PWR_FIXED = 1 ∧
    (∀ t, t ∈ [1999999, 2000000] →
     let k := ((onA (fun k => (powerA { choice := (1, 0) } k).setF F.PWR_FIXED 0)).pkg 0).at t
     k.getF F.PWR_FIXED = 0 ∧ k.getF F.THM_HUB_GATE = 0 ∧ k.power.choice.1 ≠ 0 ∧
       k.power.choice.2 / k.power.choice.1 * 100 ≤ k.refreshCaps.ceilMw * 98 ∧
       (if t = 2000000 then k.power.highAt + 2000000 ≤ k.now else k.now < k.power.highAt + 2000000)) ∧
    (let k := ((onA (fun k => (powerA { choice := (1, 5000000) } k).setF F.PWR_FIXED 0)).pkg 0).at 0
     k.refreshCaps.ceilMw * 98 < k.power.choice.2 / k.power.choice.1 * 100) ∧
    (let k := (State.reset.pkg 0).at 0
     k.getF F.LUP_SLOTS = 0 ∧ k.power.moved = [0, 0, 0, 0] ∧ k.power.acc = [0, 0, 0, 0, 0, 0]) ∧
    (let k := ((onA (powerA { moved := [7, 5, 0, 0] })).pkg 0).at 0
     (∀ c, c < 4 → k.clusterSlot c = none) ∧ k.power.moved = [7, 5, 0, 0] ∧ 0 < 7 ∧ 5 ≤ 7 ∧ k.power.acc = [0, 0, 0, 0, 0, 0]) ∧
    (let s := primaryA.updPkg 0 (railsA { mode := .on })
     s.primary.isSome = true ∧ (s.pkg 0).rails.mode = .on ∧ (s.tray (trayOf (0 : PkgId))).aux = true) := by decide +kernel

/-- No slot is held after reset, so no cluster has a slot. -/
theorem witness_PowerIsControlled_slots (c : Nat) : (((onA (powerA { moved := [7, 5, 0, 0] })).pkg 0).at 0).clusterSlot c = none := by
  have h : ∀ i, i < 4 → (((onA (powerA { moved := [7, 5, 0, 0] })).pkg 0).at 0).slotHeld i = false := by decide +kernel
  simp only [Pkg.clusterSlot, List.find?_eq_none, List.mem_range]
  intro i hi
  simp [h i hi]

/-- P00 with thermal state. -/
def thermA (x : Therm) (k : Pkg) : Pkg := { k with therm := x }

theorem witness_CoolingActs :
    ((((onA (thermA { samples := [([7000], 5000)] })).pkg 0).at 0).therm.samples ≠ []) ∧
    (((onA (railsA { mode := .on })).pkg 0).at 0).rails.mode ≠ .off ∧
    ((0 : TrayId).val = trayOf (0 : PkgId) ∧ (State.reset.tray (0 : TrayId)).aux = true ∧ (State.reset.tray (0 : TrayId)).faults = []) ∧
    (let k := ((onA (fun k => k.setF F.THM_SUP_VALID 1)).pkg 0).at 2000000000
     k.getF F.THM_SUP_VALID = 1 ∧ k.therm.supplyAt + 2000000000 ≤ k.now) ∧
    (let k := ((onA (thermA { winBad := true })).pkg 0).at 20000000000
     20000000000 % 20000000000 = 0 ∧ k.therm.winBad = true) ∧
    (let k := ((onA (fun k => (thermA { winN := 2, winP := 1000000 } k).setF F.THM_BASELINE 1)).pkg 0).at 0
     0 % 20000000000 = 0 ∧ k.therm.winBad = false ∧ k.therm.winN ≠ 0 ∧ 500000 * k.therm.winN ≤ k.therm.winP ∧ k.getF F.THM_BASELINE ≠ 0) ∧
    ((State.reset.pkg 0).at 0).getF F.THM_SUP_VALID = 0 ∧
    (let k := ((onA (fun k => ((k.setF F.THM_SUP_VALID 1).setF F.THM_HOT_TJ 95).setF F.TH_TARGET 95)).pkg 0).at 0
     k.getF F.TH_TARGET ≤ k.getF F.THM_HOT_TJ) ∧
    (let k := ((onA (fun k => (((k.setF F.THM_SUP_VALID 1).setF F.THM_HOT_TJ 94).setF F.TH_TARGET 95).setF F.THM_LEVEL 3)).pkg 0).at 0
     k.getF F.THM_SUP_VALID = 1 ∧ k.getF F.THM_HOT_TJ < k.getF F.TH_TARGET ∧ k.getF F.THM_LEVEL = 3) ∧
    (let k := ((onA (thermA { minN := 1, minTj := 7000, minutes := List.replicate 60 0 })).pkg 0).at 0
     k.therm.minN ≠ 0 ∧ ((k.therm.minTj / k.therm.minN :: k.therm.minutes).take 61).length = 61) ∧
    (let y := State.reset.tray (0 : TrayId)
     1 ∉ y.conds ∧ 5 ∉ y.conds ∧ 6 ∉ y.conds) ∧
    (let y := (onTray (fun y => { y with conds := [4, 6], limits := [2] })).tray (0 : TrayId)
     4 ∈ y.conds ∧ y.limits = [2] ∧ 6 ∈ y.conds) := by decide +kernel

/-- The rack after reset with the heartbeats of the first `n` trays heard at 1 s. -/
def heardA (n : Nat) (s : State) : State :=
  { s with bus := { s.bus with heard := (List.range n).map (fun i => (i + 3, 2000000000)) } }

theorem witness_ThePrimaryIsElected :
    State.reset.nodeUp 1 = true ∧ State.reset.nodeUp 26 = true ∧ State.reset.nodeUp 33 = true ∧
    (∀ n, n ∈ [0, 23] → n < 24 ∧ bit (2 ^ (n + 3)) (trayNode n) = true ∧ primaryA.onBus n = true) ∧
    primaryA.paired = true ∧ primaryA.primary = some 1 ∧ (2 : Fin 34).val = 1 + 1 ∧ primaryA.primary ≠ some ((1 : Fin 34).val - 1) ∧
    (primaryA.ump (1 : Fin 2)).line = true ∧ (primaryA.ump (1 - (1 : Fin 2).val)).line = false ∧
    (let s := heardA 9 State.reset
     (∀ u : Fin 2, (s.ump u).line = false ∧ s.claimValid u 2000000000 = true ∧ (s.ump (1 - u)).line = false ∧
       (s.ump (1 - u)).released + 600000000 ≤ 2000000000) ∧ s.paired = true) ∧
    (let s := (heardA 9 State.reset).updUmp 1 (fun x => { x with line := true, asserted := 2000000000 })
     (s.ump (0 : Fin 2)).line = false ∧ s.paired = true ∧ s.claimValid 0 2000000000 = true ∧ (s.ump 1).line = true ∧
       (s.ump 1).asserted = 2000000000) ∧
    primaryA.claimValid (1 : Fin 2) 0 = false ∧ (primaryA.ump (1 - 1)).up = true ∧
    (State.reset.primary = none ∧ State.reset.noPrimaryPosted = false ∧ State.reset.noPrimary.getD 0 + 2000000000 ≤ 2000000000) ∧
    (State.reset.tmcUp (23 : TrayId) = true ∧ (State.reset.tray (23 : TrayId)).solo = false ∧
      (State.reset.tray (23 : TrayId)).lastAck + State.reset.mgmt.solo * 2000000000 ≤ 10000000000 ∧
      (State.reset.tray (23 : TrayId)).started + State.reset.mgmt.solo * 2000000000 ≤ 10000000000) := by decide +kernel

/-- The hub of a package has power. -/
def hubA (k : Pkg) : Pkg := k.setF (F.PWR_RL_STATE 1) 2

theorem witness_TraysHearThePrimary :
    primaryA.fromPrimary (2 : Fin 34) (0 : TrayId) = true ∧ State.reset.fromPrimary (2 : Fin 34) (0 : TrayId) = false ∧
    (∀ p : PkgId, p ∈ [0, 3] → trayOf p = (0 : TrayId).val ∧ bit (9 : Fin 16) (socketOf p) = true) ∧
    (let s := (primaryA.updTray 0 (fun y => { y with flow := 120 })).updPkg 3 (railsA { aux := true })
     let k := (s.pkg 3).at 0
     let y := s.tray (0 : TrayId)
     s.fromPrimary (2 : Fin 34) (0 : TrayId) = true ∧ y.mayPower = true ∧ y.held = false ∧ y.input = true ∧ k.rails.aux = true ∧ k.rails.efuse = true ∧ k.rails.mode = .off) ∧
    (let s := primaryA.updPkg 3 (railsA { mode := .on })
     s.fromPrimary (2 : Fin 34) (0 : TrayId) = true ∧ ((s.pkg 3).at 0).rails.mode = .on) ∧
    (let s := primaryA.updPkg 3 (railsA { aux := false })
     s.fromPrimary (2 : Fin 34) (0 : TrayId) = true ∧ ((s.pkg 3).at 0).rails.aux = false) ∧
    (let s := primaryA.updPkg 3 hubA
     s.fromPrimary (2 : Fin 34) (0 : TrayId) = true ∧ ((s.pkg 3).at 0).hubOn = true) ∧
    (let s := primaryA.updPkg 71 (railsA { tripped := true })
     (s.pkg 71).unsafe_ = true ∧ (s.unit 71).state ≠ 3 ∧ s.primary.isSome = true) ∧
    ((onTray (fun y => { y with present := false })).tray (0 : TrayId)).present = false := by decide +kernel

/-- RMC-B is primary, P00 has unit state `x`, and its hub has power where `mgmt` says so; P71 finds P00 at its port 0 where `data`
says so. -/
def polledA (x : UnitState) (mgmt data : Bool) : State :=
  let s := ((primaryA.setUnit 0 x).updPkg 71 (fun k => (hubA (portA 0 (if data then 5 else 0) k)).setF F.GLB_MG_PAIRED 1))
  if mgmt then s.updPkg 0 hubA else s

/-- Every tray has answered. -/
def allAnswer : Nat := 0xFFFFFF

theorem witness_ThePrimaryPollsAndShares :
    (let s := polledA {} true true
     s.primary = some 1 ∧ s.paired = true ∧ s.tmcUp (trayOf (71 : PkgId)) = true ∧ (s.pkg 71).hubOn = true ∧
       (s.pkg 71).lup.active.isSome = true ∧ s.lineup.isSome = true) ∧
    (let s : State := { primaryA with umpires := (State.reset.umpires.set 1 { line := true }).set 0 { asserted := 1 } }
     (s.ump 1).polled = false ∧ 0 < (s.ump (1 - 1)).asserted ∧ s.primary = some 1 ∧ s.paired = true) ∧
    (let s := (polledA {} true true).updPkg 0 (railsA { fault := true })
     s.paired = true ∧ (s.pkg 0).unsafe_ = true ∧ (s.unit 0).state ≠ 3) ∧
    (let s := polledA {} true false
     s.paired = true ∧ (s.pkg 0).unsafe_ = false ∧ s.dataView allAnswer 0 = false ∧ (s.unit 0).state < 2) ∧
    (let s := polledA {} true true
     (s.pkg 0).unsafe_ = false ∧ s.dataView allAnswer 0 = true ∧ s.mgmtView allAnswer 0 = true ∧ (s.unit 0).state = 0) ∧
    (let s := polledA {} false true
     s.paired = true ∧ (s.pkg 0).unsafe_ = false ∧ s.dataView allAnswer 0 = true ∧ s.mgmtView allAnswer 0 = false ∧ (s.unit 0).state = 0 ∧
       0 < s.mgmt.contestDown) ∧
    (let s := polledA { state := 1 } false true
     s.paired = true ∧ s.dataView allAnswer 0 = true ∧ s.mgmtView allAnswer 0 = false ∧ (s.unit 0).state = 1 ∧
       (s.unit 0).since + s.mgmt.contestDown * 2000000000 ≤ 120000000000) ∧
    (let s := polledA { state := 2, agree := 2 } true true
     s.paired = true ∧ s.dataView allAnswer 0 = true ∧ s.mgmtView allAnswer 0 = true ∧ (s.unit 0).state ≠ 0 ∧
       s.mgmt.contestUp ≤ (s.unit 0).agree + 1) ∧
    (let s := polledA { state := 3, agree := 1 } true true
     s.paired = true ∧ s.dataView allAnswer 0 = true ∧ s.mgmtView allAnswer 0 = true ∧ (s.unit 0).state = 3 ∧
       (s.unit 0).agree + 1 < s.mgmt.contestUp) ∧
    (let s := (polledA {} true true).updPkg 0 (fun k => k.setF F.LUP_SLOTS 8)
     s.primary = some 1 ∧ s.paired = true ∧ (s.pkg 0).slotHeld 3 = true ∧ (s.pkg 0).getF (F.LUP_PART_ID 3) = 0) := by decide +kernel

theorem witness_ActionsNeedAPrimary :
    State.reset.paired = true ∧ State.reset.primary = none ∧ State.reset.roster (State.reset.coord (0 : TrayId)) = none := by decide +kernel

/-- The rack in standalone mode, with P00 changed. -/
def aloneA (f : Pkg → Pkg) : State := onA (fun k => f ((hubA (portA 0 0 k)).setF F.GLB_MG_PAIRED 0))

theorem witness_ActionsAreAnswered :
    (let s := primaryA
     let k := (s.pkg 0).at 0
     s.primary = some 1 ∧ s.paired = true ∧ k.isSpare 63 = false ∧ k.logicalOf 63 = none ∧ k.getF F.THM_SUP_VALID = 0 ∧
       k.resetCovers 4 0 = false ∧ k.now < 1 ∧ k.getF F.LNK_MAINT_EN = 0) ∧
    (let k := ((primaryA.updPkg 0 (fun k => k.setF (F.GLB_MAP_SPARE 3) 0x8000)).pkg 0).at 0
     k.repair.substs = [] ∧ k.isSpare 63 = true) ∧
    (let k := ((primaryA.updPkg 0 (fun k => ((k.setF F.THM_SUP_VALID 1).setF F.TH_TARGET 95).setF F.THM_HOT_TJ 95)).pkg 0).at 0
     k.getF F.THM_SUP_VALID = 1 ∧ k.getF F.TH_TARGET ≤ k.getF F.THM_HOT_TJ) ∧
    (let k := ((primaryA.updPkg 0 (fun k => (((k.setF F.THM_SUP_VALID 1).setF F.TH_TARGET 95).setF F.THM_HOT_TJ 94).setF F.THM_LEVEL 3)).pkg 0).at 0
     k.getF F.THM_SUP_VALID = 1 ∧ k.getF F.THM_HOT_TJ < k.getF F.TH_TARGET ∧ k.getF F.THM_LEVEL = 3) ∧
    (let s := aloneA (fun k => k.setF F.LNK_MAINT_EN 1 |>.setF (F.LNK_ST 19) 7)
     let k := (s.pkg 0).at 0
     s.paired = false ∧ s.primary = none ∧ k.getF F.LNK_MAINT_EN = 1 ∧ k.getF (F.LNK_ST (19 : PortId)) = 7 ∧ (s.pkg 0).hubOn = true ∧
       trayOf (0 : PkgId) = (0 : TrayId).val) ∧
    (let s := (primaryA.updMir (fun m => { m with window := some 5 })).updPkg 71 hubA
     s.primary = some 1 ∧ s.paired = true ∧ s.mir.window = some 5 ∧ (s.pkg 71).hubOn = true) ∧
    ((onTray (fun y => { y with window := some 5 })).tray (0 : TrayId)).window = some 5 := by decide +kernel

theorem witness_TraysAreServiced :
    (let y := State.reset.tray (23 : TrayId)
     ∀ c, c ∈ [1, 2, 5, 9] → 1 ≤ c ∧ c ≤ 9 ∧ ∀ f ∈ y.faults, f.1 ≠ c) ∧
    ((State.reset.updPkg 3 hubA).pkg 3).hubOn = true ∧ trayOf (3 : PkgId) = (0 : TrayId).val ∧
    (∀ c, c ∈ [1, 2] → ∃ f ∈ ((onTray (fun y => { y with faults := [(1, none), (2, none)] })).tray (0 : TrayId)).faults, f.1 = c) ∧
    (let s := State.reset.updPkg 3 (railsA { mode := .on })
     s.tmcUp (0 : TrayId) = true ∧ s.paired = true ∧ s.mir.window = none ∧ trayOf (s.pkg 3).id = (0 : TrayId).val ∧
       (s.pkg 3).rails.mode ≠ .off) ∧
    (State.reset.tmcUp (0 : TrayId) = true ∧ ∀ p : PkgId, trayOf (State.reset.pkg p).id = (0 : TrayId).val →
      (State.reset.pkg p).rails.mode = .off) := by decide +kernel

/-- A roster of no entries for the primary: its header, with ID 1. -/
def rosterA (targets : List Nat) (votes : List (Nat × Status)) (phase : RosterPhase) : Roster :=
  { image := leBytes 4 0x52545352 ++ leBytes 2 1 ++ leBytes 2 0 ++ leBytes 8 1 ++ List.replicate 112 0
    accepted := 0, targets := targets, votes := votes, phase := phase, status := 0 }

/-- The primary coordinates a roster. -/
def rosteredA (r : Roster) (s : State) : State := { s with rosters := [(0, r)] }

/-- P00's boot control record in a state. -/
def recordA (state ht stop : Nat) (k : Pkg) : Pkg :=
  k.writeBoot (fun r => { r with state := state, actHt := ht, windowEnd := stop })

/-- A controller of the rack, changed. -/
def ctlA (n : Nat) (f : Controller → Controller) (s : State) : State := s.updCtrl n f

theorem witness_RostersAreStaged :
    (let r := rosterA [0, 71, 161] [] .staging
     let s := rosteredA r primaryA
     s.primary.isSome = true ∧ s.coord (0 : TrayId) = 0 ∧ (s.roster 0).any Roster.open_ = true ∧ s.rosterOf (0 : PkgId) = some (0, r) ∧
       s.rosterOf 161 = some (0, r) ∧ r.phase = .staging ∧ rosterCount r.image = 0 ∧ (∀ v ∈ r.votes, v.1 ≠ 71) ∧
       (∃ q ∈ r.targets, q ≠ 71 ∧ ∀ v ∈ r.votes, v.1 ≠ q) ∧ r.accepted + 1920000000000 ≤ 1920000000000 ∧
       s.roster (s.coord (0 : TrayId)) = some r ∧ s.commitOf (s.coord (0 : TrayId)) = none) ∧
    (primaryA.roster (primaryA.coord (0 : TrayId))).any Roster.open_ = false ∧ rosterFormat [] = false ∧
    rosterFormat (rosterA [] [] .staging).image = true ∧
    (let r := rosterA [0, 71, 161] [(0, 0), (161, 0)] .staging
     (rosteredA r primaryA).rosterOf 71 = some (0, r) ∧ (∀ v ∈ r.votes, v.1 ≠ 71) ∧
       ∀ q ∈ r.targets, q = 71 ∨ ∃ v ∈ r.votes, v.1 = q) ∧
    (((State.reset.pkg 0).at 0).boot.settings = [] ∧ State.reset.rosterOf (0 : PkgId) = none ∧ ((State.reset.pkg 0).at 0).bc.state = 0) ∧
    ((onA (recordA 2 0 9)).pkg 0).bc.state ≠ 0 ∧
    (let r := rosterA [0, 161] [] .committed
     let x : Commit := { id := 1, digest := [], targets := [0, 161], actHt := 5, confirmed := false }
     let s := (rosteredA r primaryA).putCommit 0 (some x)
     s.roster (s.coord (0 : TrayId)) = some r ∧ s.commitOf (s.coord (0 : TrayId)) = some x ∧ x.confirmed = false ∧
       ∃ q ∈ r.targets, s.inTrial q = false) := by decide +kernel

/-- The digest of a roster of no entries is not all zeros. -/
theorem witness_RostersAreStaged_digest :
    let image := (rosterA [] [] .staging).image
    sha384 ((image.take (128 + 128 * rosterCount image)).drop 128) ≠ (image.drop 32).take 48 := by decide +kernel

theorem witness_RostersAreTried :
    (let s := State.reset
     ((s.pkg 0).at 0).bc.state < 2 ∧ ((s.pkg 0).at 0).now ≤ ((s.pkg 0).at 0).getF F.BOOT_CMD_HT ∧
       ((s.pkg 0).at 1).getF F.BOOT_CMD_HT < ((s.pkg 0).at 1).now ∧ s.lastRoster (0 : PkgId) = none ∧ (s.trialTerms (0 : PkgId)).2 = false) ∧
    (let k := ((onA (recordA 1 5 0)).pkg 0).at 5
     k.bc.state = 1 ∧ k.bc.actHt ≤ k.now ∧ k.resetCovers 4 0 = false) ∧
    (let k := ((onA (fun k => (recordA 2 5 9 k).setF F.BOOT_CMD_HT 8)).pkg 0).at 9
     k.bc.state = 2 ∧ k.bc.windowEnd ≤ k.now ∧ k.getF F.BOOT_CMD_HT < k.now ∧ k.resetCovers 4 0 = false) ∧
    (let k := ((onA (fun k => { recordA 2 5 9 k with boot := { k.boot with revertAt := some 7 } })).pkg 0).at 7
     k.boot.revertAt = some 7 ∧ 7 ≤ k.now ∧ k.bc.state = 2 ∧ k.resetCovers 4 0 = false) ∧
    (∀ n, n ∈ [1, 2, 3, 26, 27, 32] →
     let s := ctlA n (fun x => { x with state := 1, actHt := 5 }) State.reset
     (s.ctrl n).state = 1 ∧ (s.ctrl n).actHt ≤ 5 ∧ s.shelfTurn 5 = true ∧ s.primary ≠ some (n - 1)) ∧
    (let s := ctlA 28 (fun x => { x with restart := some 0 }) (ctlA 27 (fun x => { x with state := 1, actHt := 5 }) State.reset)
     (s.ctrl (27 : Fin 34)).state = 1 ∧ (s.ctrl (27 : Fin 34)).actHt ≤ 59999999999 ∧ s.shelfTurn 59999999999 = false) ∧
    (let s := ctlA 2 (fun x => { x with state := 1, actHt := 5 }) primaryA
     (s.ctrl (2 : Fin 34)).state = 1 ∧ (2 : Fin 34).val = 1 + 1 ∧ s.primary = some 1 ∧ (s.ctrl (2 - 1)).state ≠ 1 ∧ (s.ctrl (2 - 1)).restart = none) ∧
    (∀ n, n ∈ [0, 33] →
     let s := ctlA n (fun x => { x with state := 2, revertAt := some 5 }) State.reset
     (s.ctrl n).revertAt = some 5 ∧ (s.ctrl n).state = 2) ∧
    (∀ phase, phase ∈ [RosterPhase.committed, .trial] →
     let r := rosterA [0, 161] [] phase
     let s := rosteredA r ((ctlA 33 (fun x => { x with state := 2, windowEnd := 9 }) primaryA).updPkg 0 (recordA 2 5 9))
     s.primary.isSome = true ∧ s.coord (0 : TrayId) = 0 ∧ s.roster 0 = some r ∧ s.lastRoster (0 : PkgId) = some r ∧ r.targets.Nodup ∧
       (∀ q ∈ r.targets, s.inTrial q = true ∧ 8 < s.windowEnd q) ∧ (∃ q ∈ r.targets, s.inTrial q = true ∧ s.windowEnd q ≤ 9) ∧
       s.rosterOf (0 : PkgId) = some (0, r) ∧ (0 : PkgId).val ∈ r.targets) ∧
    primaryA.roster (primaryA.coord (0 : TrayId)) = none := by decide +kernel

theorem witness_RostersAreTried_silence :
    (let s := ctlA 1 (fun x => { x with restart := some 5 }) State.reset
     let s : State := { s with bus := { s.bus with heard := [(1, 5)] } }
     (s.ctrl (1 : Fin 34)).restart = some 5 ∧ s.bus.heardAt (1 : Fin 34) = some 5) ∧
    (∀ st, st ∈ [0, 2] → ∀ n : Fin 34, n ∈ [1, 2, 3, 26, 33] →
     let s := ctlA n (fun x => { x with state := st, restart := some 5 }) (rosteredA (rosterA [128 + n.val] [] .trial) State.reset)
     (s.ctrl n).restart = some 5 ∧ s.bus.heardAt n = none ∧ (s.ctrl n).state = st ∧
       s.rosterOf (128 + n.val) = some (0, rosterA [128 + n.val] [] .trial)) := by decide +kernel

theorem witness_StepRunsTheFrontCommand : State.reset.pending = [] ∧
    (State.reset.withFetchWord 8 0).pending = [] := by decide +kernel

theorem witness_EventNumbersCountUp : (State.reset.post "TraySolo" .warning 5).eventsInOrder ∧
    ∃ t, step (State.reset.post "TraySolo" .warning 5) = .next t := by
  refine ⟨fun i e h => ?_, _, rfl⟩
  match i with
  | 0 => simp [State.post, State.reset] at h; subst h; rfl
  | i + 1 => simp [State.post, State.reset] at h

theorem witness_LocalCommandsStayLocal : (Instr.eraseSlot 71 .i3c 0).site = some 71 ∧
    ∃ t, exec (.eraseSlot 71 .i3c 0) State.reset = .next t := ⟨rfl, _, rfl⟩

theorem witness_FamiliesKeepTheRest :
    (∃ t, exec (.boostChoice 0 0) State.reset = .next t) ∧ (∃ t, exec (.fence 0 63 0) State.reset = .next t) ∧
    (∃ t, exec (.trans 0 63 0) State.reset = .next t) ∧ (∃ t, exec (.openPacketSend 0 19 0) State.reset = .next t) ∧
    (∃ t, exec (.invComplete 0) State.reset = .next t) ∧ (∃ t, exec (.hostCallTimeout 0 0 0) State.reset = .next t) :=
  ⟨⟨_, rfl⟩, ⟨_, rfl⟩, ⟨_, rfl⟩, ⟨_, rfl⟩, ⟨_, rfl⟩, ⟨_, rfl⟩⟩

/-! ### Worked cases of the spec -/

/-- Table 9-8: the four candidates of route entry 42 pass the check of R429 and lead from P10 to P52 over the links it lists. -/
theorem test_route_entry_42 :
    ([0x8027, 0x8036, 0x8045, 0x80D9] : List Nat).map (fun w => (badCandidate 42 w, hopsEnd 10 (routeHops w))) =
      List.replicate 4 (false, 52) ∧
    hopLinks 10 (routeHops 0x8027) = [7 * 72 + 10, 2 * 72 + 45] ∧ hopLinks 10 (routeHops 0x80D9) = [72 + 5, 5 * 72 + 52] := by decide

/-- Table 9-8: with no link mapped out, strand 0 reaches difference 42 by 30 hops prev. -/
theorem test_line_route_42 : ((List.range 9).foldl (fun (k : Pkg) i => k.setF (F.LNK_MAP i) 0) {}).lineOn 42 0 = some 0x2788 := by
  decide +kernel

end Sys2Proof.Tests
end

section
/-! PROOFS. Accesses of the wrong width or alignment (R14, R15): both kinds of access end in `Pkg.refuseCsr`, whose frame and
marks are laws of the error log. -/

namespace Sys2Proof.Machine

/-- R14: outside the two aligned widths no offset makes an access well formed. -/
theorem csrWellFormed_eq_false {off size : Nat} (h : ¬ (size = 32 ∧ off % 4 = 0 ∨ size = 64 ∧ off % 8 = 0)) :
    csrWellFormed off size = false := by
  simp only [csrWellFormed, Bool.and_eq_false_iff]
  left
  simpa using h

/-- R15: a malformed write is refused, whatever its data. -/
theorem Pkg.csrWrite_of_malformed (k : Pkg) (src : CsrSource) (data : Nat) {off size : Nat} (h : csrWellFormed off size = false) :
    k.csrWrite src off size data = k.refuseCsr src off true := by
  simp [Pkg.csrWrite, h]

/-- R15: a malformed read is refused and returns all ones. -/
theorem Pkg.csrRead_of_malformed (k : Pkg) (src : CsrSource) {off size : Nat} (h : csrWellFormed off size = false) :
    k.csrRead src off size = { k.refuseCsr src off false with readData := 2 ^ size - 1 } := by
  simp [Pkg.csrRead, h]

theorem exec_registerWrite (p : PkgId) (src : CsrSource) (off size data : Nat) (s : State) :
    exec (.registerWrite p src off size data) s = .next (s.setPkg p ((s.pkg p).csrWrite src off size data)) := rfl

theorem exec_readClear (p : PkgId) (src : CsrSource) (off size : Nat) (s : State) :
    exec (.readClear p src off size) s = .next (s.setPkg p ((s.pkg p).csrRead src off size)) := rfl

/-- Settles O2: a malformed access is refused, and a refusal counts the access, leaves a standing record and touches the ERR
block alone. -/
theorem malformedAccessIsRecorded : Obligations.MalformedAccessIsRecorded := by
  intro s p src off size data malformed
  have hwf := csrWellFormed_eq_false malformed
  constructor
  · obtain ⟨hvalid, hcount⟩ := Pkg.refuseCsr_marks (s.pkg p) src off true
    obtain ⟨⟨r, n, hfields⟩, hcells⟩ := Pkg.refuseCsr_frame (s.pkg p) src off true
    refine ⟨_, exec_registerWrite .., ?_⟩
    simp only [Pkg.csrWrite_of_malformed _ _ _ hwf, State.pkg_setPkg_same]
    exact ⟨⟨hvalid, hcount, hcells⟩, r, n, by rw [hfields]⟩
  · obtain ⟨hvalid, hcount⟩ := Pkg.refuseCsr_marks (s.pkg p) src off false
    obtain ⟨⟨r, n, hfields⟩, hcells⟩ := Pkg.refuseCsr_frame (s.pkg p) src off false
    refine ⟨_, exec_readClear .., ?_⟩
    simp only [Pkg.csrRead_of_malformed _ _ hwf, State.pkg_setPkg_same, true_and]
    exact ⟨⟨hvalid, hcount, hcells⟩, r, n, by rw [hfields]⟩

end Sys2Proof.Machine
end

section
/-! PROOFS. Volleys and epochs (R74, R77–R80, R846). The HTM registers of slot `s` lie in the 64-byte block 0x20200 + 0x40·s, so each
slot's turn of a boundary leaves the other slots' counts alone; what a boundary does after the stretch counts lies above the HTM
registers. -/

namespace Sys2Proof.Machine

/-! ### Register cells that an operation leaves alone -/

/-- The register cells at the offsets of `P` are the same in `j` as in `k`. -/
def CellsKept (P : Nat → Prop) (k j : Pkg) : Prop := ∀ o, P o → j.cell o = k.cell o

namespace CellsKept

variable {P Q : Nat → Prop} {k j l : Pkg}

theorem ofRegs (h : j.regs = k.regs) : CellsKept P k j := fun _ _ => by simp [Pkg.cell, h]

theorem refl (k : Pkg) : CellsKept P k k := ofRegs rfl

theorem trans (h : CellsKept P k j) (g : CellsKept P j l) : CellsKept P k l := fun o ho => (g o ho).trans (h o ho)

theorem mono (h : CellsKept Q k j) (hPQ : ∀ o, P o → Q o) : CellsKept P k j := fun o ho => h o (hPQ o ho)

/-- Fields in kept cells read as before. -/
theorem getF (h : CellsKept P k j) {f : Fld} (hf : P f.off) : j.getF f = k.getF f := by
  unfold Pkg.getF; rw [h _ hf]

theorem setF (k : Pkg) {f : Fld} (v : Nat) (hf : ¬ P f.off) : CellsKept P k (k.setF f v) :=
  fun _ ho => Pkg.setF_cell_other k f v (fun e => hf (e ▸ ho))

theorem inc (k : Pkg) {f : Fld} (hf : ¬ P f.off) : CellsKept P k (k.inc f) := setF k _ hf

/-- Continue a chain of updates at its last one. -/
theorem thenF (h : CellsKept P k j) {f : Fld} (v : Nat) (hf : ¬ P f.off) : CellsKept P k (j.setF f v) := h.trans (setF j v hf)

theorem ite {c : Prop} [Decidable c] (h : CellsKept P k j) (g : CellsKept P k l) : CellsKept P k (if c then j else l) := by
  split <;> assumption

theorem foldl {α : Type} (xs : List α) {op : Pkg → α → Pkg} (h : ∀ k, ∀ x ∈ xs, CellsKept P k (op k x)) (k : Pkg) :
    CellsKept P k (xs.foldl op k) :=
  List.foldlRecOn xs op (refl k) (fun b hb x hx => hb.trans (h b x hx))

end CellsKept

/-- The fabric's operations keep the cells outside the FAB registers that report. -/
theorem FabOnly.cellsKept {P : Nat → Prop} {k j : Pkg} (h : FabOnly k j) (hP : ∀ o, P o → o < 0x200800 ∨ 0x300000 ≤ o) :
    CellsKept P k j := fun o ho => h.cells o (hP o ho)

/-- The HTM registers of slot `s`, R74 and R77. -/
abbrev htmOfSlot (s o : Nat) : Prop := o / 64 = 0x808 + s

/-- The blocks below the links' registers, HTM and LUP among them. -/
abbrev belowLinks (o : Nat) : Prop := o < 0x100000

/-- One turn per element: what the own turn of `x` makes of `A` is `B`, when the turns before keep `A` and those after keep `B`. -/
theorem foldl_ownTurn {α β : Type} {op : β → α → β} {x : α} {A B : β → Prop}
    (own : ∀ b, A b → B (op b x)) {l : List α} :
    (∀ b, ∀ y ∈ l, y ≠ x → A b → A (op b y)) → (∀ b, ∀ y ∈ l, y ≠ x → B b → B (op b y)) →
      l.Nodup → x ∈ l → ∀ {b}, A b → B (l.foldl op b) := by
  induction l with
  | nil => simp
  | cons y l ih =>
    intro before after nodup hx b ha
    obtain ⟨hy, nodup⟩ := List.nodup_cons.mp nodup
    rw [List.foldl_cons]
    by_cases e : y = x
    · subst e
      exact List.foldlRecOn l op (own b ha)
        (fun b hb z hz => after b z (List.mem_cons_of_mem _ hz) (fun hzy => hy (hzy ▸ hz)) hb)
    · exact ih (fun b z hz => before b z (List.mem_cons_of_mem _ hz))
        (fun b z hz => after b z (List.mem_cons_of_mem _ hz)) nodup
        ((List.mem_cons.mp hx).resolve_left (fun h => e h.symm)) (before b y List.mem_cons_self e ha)

/-! ### Volley boundaries (R74, R78) -/

/-- Slot `s`'s turn of a volley boundary. -/
def Pkg.countVolley (t : Nat) (k : Pkg) (s : Nat) : Pkg :=
  if k.inStretch s t then k.addWrap (F.HTM_STRETCH_TOTAL s) 1 else k.addWrap (F.HTM_SCHED_VOLLEY s) 1

/-- From `k` to `j`, slot `s` counted the volley that opens at `t`: as a stretch volley or as a schedule volley, and not as both. -/
def Pkg.volleyCounted (k j : Pkg) (s t : Nat) : Prop :=
  if k.inStretch s t then
    j.getF (F.HTM_STRETCH_TOTAL s) = (k.getF (F.HTM_STRETCH_TOTAL s) + 1) % 2 ^ 64 ∧
    j.getF (F.HTM_SCHED_VOLLEY s) = k.getF (F.HTM_SCHED_VOLLEY s)
  else
    j.getF (F.HTM_SCHED_VOLLEY s) = (k.getF (F.HTM_SCHED_VOLLEY s) + 1) % 2 ^ 64 ∧
    j.getF (F.HTM_STRETCH_TOTAL s) = k.getF (F.HTM_STRETCH_TOTAL s)

theorem htmOfSlot_stretchTotal (s : Nat) : htmOfSlot s (F.HTM_STRETCH_TOTAL s).off := by
  simp only [F.HTM_STRETCH_TOTAL]; omega

theorem htmOfSlot_schedVolley (s : Nat) : htmOfSlot s (F.HTM_SCHED_VOLLEY s).off := by
  simp only [F.HTM_SCHED_VOLLEY]; omega

theorem htmOfSlot_stretchCur (s : Nat) : htmOfSlot s (F.HTM_STRETCH_CUR s).off := by
  simp only [F.HTM_STRETCH_CUR]; omega

theorem htmOfSlot_stretchNext (s : Nat) : htmOfSlot s (F.HTM_STRETCH_NEXT s).off := htmOfSlot_stretchCur s

theorem htmOfSlot_stretchReq (s : Nat) : htmOfSlot s (F.HTM_STRETCH_REQ s).off := htmOfSlot_stretchCur s

/-- Whether a stretch volley opens, and the counts of a slot, are read from the slot's own block. -/
theorem Pkg.volleyCounted_of_kept {k k' j j' : Pkg} {s t : Nat} (hk : CellsKept (htmOfSlot s) k k') (hj : CellsKept (htmOfSlot s) j j')
    (h : k'.volleyCounted j s t) : k.volleyCounted j' s t := by
  have hin : k'.inStretch s t = k.inStretch s t := by simp only [Pkg.inStretch, hk.getF (htmOfSlot_stretchCur s)]
  simpa only [Pkg.volleyCounted, hin, hj.getF (htmOfSlot_stretchTotal s), hj.getF (htmOfSlot_schedVolley s),
    hk.getF (htmOfSlot_stretchTotal s), hk.getF (htmOfSlot_schedVolley s)] using h

/-- A slot's turn counts its volley. -/
theorem Pkg.countVolley_own (k : Pkg) (t s : Nat) : k.volleyCounted (k.countVolley t s) s t := by
  have hapart : (F.HTM_STRETCH_TOTAL s).apart (F.HTM_SCHED_VOLLEY s) = true ∧
      (F.HTM_SCHED_VOLLEY s).apart (F.HTM_STRETCH_TOTAL s) = true := by
    simp [Fld.apart, F.HTM_STRETCH_TOTAL, F.HTM_SCHED_VOLLEY]
  unfold Pkg.volleyCounted Pkg.countVolley Pkg.addWrap
  by_cases h : k.inStretch s t = true
  · simp only [h, if_true]
    exact ⟨Pkg.getF_setF_same _ _ _ rfl, Pkg.getF_setF_apart _ _ _ _ hapart.1⟩
  · simp only [h]
    exact ⟨Pkg.getF_setF_same _ _ _ rfl, Pkg.getF_setF_apart _ _ _ _ hapart.2⟩

/-- A slot's turn leaves the blocks of the other slots alone. -/
theorem Pkg.countVolley_kept (k : Pkg) (t : Nat) {s y : Nat} (h : y ≠ s) : CellsKept (htmOfSlot s) k (k.countVolley t y) := by
  unfold Pkg.countVolley Pkg.addWrap
  refine CellsKept.ite (CellsKept.setF _ _ ?_) (CellsKept.setF _ _ ?_)
  · have := htmOfSlot_stretchTotal y; omega
  · have := htmOfSlot_schedVolley y; omega

/-- A volley boundary counts one volley of each held slot. -/
theorem Pkg.volley_counts (k : Pkg) {t s : Nat} (ht : t % 2048 = 0) (hv : k.getF F.HTM_VALID = 1) (hs : s < 4)
    (held : k.slotHeld s = true) : k.volleyCounted (k.volley t) s t := by
  have hc : ¬ (t % 2048 ≠ 0 ∨ k.flag F.HTM_VALID = false) := by simp [ht, Pkg.flag, hv]
  have hturns : k.volleyCounted (((List.range 4).filter k.slotHeld).foldl (Pkg.countVolley t) k) s t := by
    refine foldl_ownTurn (A := CellsKept (htmOfSlot s) k) (B := fun j => k.volleyCounted j s t)
      (fun j hj => Pkg.volleyCounted_of_kept hj (CellsKept.refl _) (Pkg.countVolley_own j t s))
      (fun j y _ hy hj => hj.trans (Pkg.countVolley_kept j t hy))
      (fun j y _ hy hj => Pkg.volleyCounted_of_kept (CellsKept.refl k) (Pkg.countVolley_kept j t hy) hj)
      (List.nodup_range.filter _) ?_ (CellsKept.refl k)
    exact List.mem_filter.mpr ⟨List.mem_range.mpr hs, held⟩
  unfold Pkg.volley
  rw [if_neg hc]
  exact Pkg.volleyCounted_of_kept (CellsKept.refl k)
    (((FabOnly.ofFab _ _).trans (Pkg.releaseHeld_frame _)).cellsKept (fun o ho => by omega)) hturns

/-! ### The stretch counts of an epoch (R77) -/

/-- A slot's turn of taking the stretch counts that `k₀` received. -/
def Pkg.showStretch (k₀ : Pkg) (e : Nat) : Pkg → Nat → Pkg := fun k s =>
  (k.setF (F.HTM_STRETCH_CUR s) (k₀.stretchFor s e)).setF (F.HTM_STRETCH_NEXT s) (k₀.stretchFor s (e + 1))

/-- Slot `s` shows the counts that `k₀` received for epoch `e` and the next one. -/
def Pkg.showsStretch (k₀ j : Pkg) (e s : Nat) : Prop :=
  j.getF (F.HTM_STRETCH_CUR s) = k₀.stretchFor s e % 256 ∧ j.getF (F.HTM_STRETCH_NEXT s) = k₀.stretchFor s (e + 1) % 256

theorem Pkg.stretchFor_eq (k : Pkg) (s e : Nat) :
    k.stretchFor s e = ((k.time.stretchHeld.find? (fun h => h.1 == s && h.2.1 == e)).map (fun h => h.2.2)).getD 0 := by
  unfold Pkg.stretchFor
  cases k.time.stretchHeld.find? (fun h => h.1 == s && h.2.1 == e) <;> rfl

/-- Rank 2 of R82 is the slots' turns, and a change of the store of received counts. -/
theorem Pkg.adoptStretch_eq (k : Pkg) (e : Nat) :
    ∃ T, k.adoptStretch e = { (List.range 4).foldl (k.showStretch e) k with time := T } := by
  have hturn : k.showStretch e = fun j s =>
      (j.setF (F.HTM_STRETCH_CUR s) (((k.time.stretchHeld.find? (fun h => h.1 == s && h.2.1 == e)).map (fun h => h.2.2)).getD 0)).setF
        (F.HTM_STRETCH_NEXT s) (((k.time.stretchHeld.find? (fun h => h.1 == s && h.2.1 == e + 1)).map (fun h => h.2.2)).getD 0) := by
    funext j s
    simp only [Pkg.showStretch, Pkg.stretchFor_eq]
  rw [hturn]
  exact ⟨_, rfl⟩

theorem Pkg.adoptStretch_turns {P : Nat → Prop} (k : Pkg) (e : Nat) :
    CellsKept P ((List.range 4).foldl (k.showStretch e) k) (k.adoptStretch e) := by
  obtain ⟨T, h⟩ := Pkg.adoptStretch_eq k e
  rw [h]
  exact CellsKept.ofRegs rfl

/-- A slot's turn of taking the counts touches its own block alone. -/
theorem Pkg.showStretch_kept {P : Nat → Prop} (k₀ : Pkg) (e : Nat) (k : Pkg) {y : Nat} (h : ∀ o, P o → ¬ htmOfSlot y o) :
    CellsKept P k (k₀.showStretch e k y) := by
  unfold Pkg.showStretch
  exact (CellsKept.setF k _ (fun hp => h _ hp (htmOfSlot_stretchCur y))).thenF _ (fun hp => h _ hp (htmOfSlot_stretchNext y))

/-- The counts shown are read from the slot's own block. -/
theorem Pkg.showsStretch_of_kept {k₀ j j' : Pkg} {e s : Nat} (hj : CellsKept (htmOfSlot s) j j') (h : k₀.showsStretch j e s) :
    k₀.showsStretch j' e s :=
  ⟨(hj.getF (htmOfSlot_stretchCur s)).trans h.1, (hj.getF (htmOfSlot_stretchNext s)).trans h.2⟩

/-- After rank 2 of R82 each slot shows its counts. -/
theorem Pkg.adoptStretch_shows (k : Pkg) (e : Nat) {s : Nat} (hs : s < 4) : k.showsStretch (k.adoptStretch e) e s := by
  refine Pkg.showsStretch_of_kept (Pkg.adoptStretch_turns k e) ?_
  refine foldl_ownTurn (A := fun _ => True) (B := fun j => k.showsStretch j e s) (fun j _ => ⟨?_, ?_⟩) (fun _ _ _ _ _ => trivial)
    (fun j y _ hy hj => Pkg.showsStretch_of_kept (Pkg.showStretch_kept k e j (fun o _ => by omega)) hj)
    List.nodup_range (List.mem_range.mpr hs) trivial
  · exact (Pkg.getF_setF_apart _ _ _ _ (by simp [Fld.apart, F.HTM_STRETCH_CUR, F.HTM_STRETCH_NEXT])).trans
      (Pkg.getF_setF_same _ _ _ rfl)
  · exact Pkg.getF_setF_same _ _ _ rfl

/-- Cells outside the slots' HTM blocks are the same after rank 2 of R82. -/
theorem Pkg.adoptStretch_kept {P : Nat → Prop} (k : Pkg) (e : Nat) (h : ∀ s, s < 4 → ∀ o, P o → ¬ htmOfSlot s o) :
    CellsKept P k (k.adoptStretch e) :=
  (CellsKept.foldl _ (fun j s hs => Pkg.showStretch_kept k e j (h s (List.mem_range.mp hs))) k).trans
    (Pkg.adoptStretch_turns k e)

/-! ### The captain's decision (R79, R80) -/

theorem Pkg.sendPartition_frame (k : Pkg) (ty s : Nat) (body : Bytes) : FabOnly k (k.sendPartition ty s body) :=
  FabOnly.foldl _ _ (fun k d => Pkg.sendHub_frame k ty s d body .none) k

/-- The decision is a matter of the captain's own store and of packets. -/
theorem Pkg.decideStretch_kept {P : Nat → Prop} (k : Pkg) (e : Nat) (hP : ∀ o, P o → o < 0x200800 ∨ 0x300000 ≤ o) :
    CellsKept P k (k.decideStretch e) := by
  unfold Pkg.decideStretch
  refine CellsKept.foldl _ (fun j s _ => CellsKept.ite ?_ (CellsKept.refl j)) k
  refine CellsKept.trans ?_ ((Pkg.sendPartition_frame _ _ _ _).cellsKept hP)
  exact CellsKept.ofRegs rfl

/-! ### The stretch request (R846, R847) -/

/-- What slot `s` asks for: nothing without a template in force. -/
def Pkg.stretchAsk (k : Pkg) (lost : List Nat) (s : Nat) : Nat :=
  if k.getF (F.FAB_LOADED s) = 1 then stretchRequest (k.slotLost lost s) else 0

/-- Slot `s`'s turn of recording its lost time and asking for it. -/
def Pkg.requestTurn (e : Nat) (lost : List Nat) (k : Pkg) (s : Nat) : Pkg :=
  let n := k.stretchAsk lost s
  let k := ((k.setF (F.THM_LOST_TICKS s) (k.slotLost lost s / 256)).setF (F.THM_LOST_REQ s) n).setF (F.HTM_STRETCH_REQ s) n
  if n = 0 then k else (k.inc (F.THM_COUNTS 4)).sendHub 0x47 s (k.captain s) (leBytes 8 e ++ leBytes 1 n)

theorem Pkg.requestStretch_eq (k : Pkg) (e : Nat) (lost : List Nat) :
    k.requestStretch e lost = (List.range 4).foldl (Pkg.requestTurn e lost) k := rfl

/-- The LUP registers and the slots' FAB registers: what says which cores a slot has and whether its template is in force. -/
abbrev lineupToSlots (o : Nat) : Prop := 0x80000 ≤ o ∧ o < 0x200800

theorem Pkg.clusterSlot_of_kept {k j : Pkg} (h : CellsKept lineupToSlots k j) : j.clusterSlot = k.clusterSlot := by
  funext c
  have hslots : j.getF F.LUP_SLOTS = k.getF F.LUP_SLOTS := h.getF (by decide)
  have hclusters : ∀ s, s < 4 → j.getF (F.LUP_PART_CLUSTERS s) = k.getF (F.LUP_PART_CLUSTERS s) :=
    fun s hs => h.getF (by simp only [F.LUP_PART_CLUSTERS]; omega)
  simp [Pkg.clusterSlot, Pkg.slotHeld, List.range_succ, List.find?_cons, hslots, hclusters]

theorem Pkg.stretchAsk_of_kept {k j : Pkg} {s : Nat} (h : CellsKept lineupToSlots k j) (lost : List Nat) (hs : s < 4) :
    j.stretchAsk lost s = k.stretchAsk lost s := by
  have hloaded : j.getF (F.FAB_LOADED s) = k.getF (F.FAB_LOADED s) := h.getF (by simp only [F.FAB_LOADED]; omega)
  simp only [Pkg.stretchAsk, hloaded, Pkg.slotLost, Pkg.slotCores, Pkg.slotHasCluster, Pkg.clusterSlot_of_kept h]

theorem Pkg.stretchAsk_le (k : Pkg) (lost : List Nat) (s : Nat) : k.stretchAsk lost s ≤ 128 := by
  unfold Pkg.stretchAsk stretchRequest
  split <;> omega

/-- After the request is stored, what a slot's turn still does is counting and sending. -/
theorem Pkg.requestTurn_stored {P : Nat → Prop} (k : Pkg) (e : Nat) (lost : List Nat) (s : Nat) (hP : ∀ o, P o → o < 0x200800) :
    CellsKept P (((k.setF (F.THM_LOST_TICKS s) (k.slotLost lost s / 256)).setF (F.THM_LOST_REQ s) (k.stretchAsk lost s)).setF
      (F.HTM_STRETCH_REQ s) (k.stretchAsk lost s)) (k.requestTurn e lost s) := by
  unfold Pkg.requestTurn
  refine CellsKept.ite (CellsKept.refl _) (CellsKept.trans (CellsKept.inc _ ?_) ((Pkg.sendHub_frame _ _ _ _ _ _).cellsKept ?_))
  · exact fun hp => absurd (hP _ hp) (by decide)
  · exact fun o ho => .inl (hP o ho)

/-- Recording the lost time leaves every cell below the thermal registers alone. -/
theorem Pkg.lostTime_kept {P : Nat → Prop} (k : Pkg) (s l n : Nat) (hP : ∀ o, P o → o < 0x200800) :
    CellsKept P k ((k.setF (F.THM_LOST_TICKS s) l).setF (F.THM_LOST_REQ s) n) :=
  (CellsKept.setF k l (fun hp => absurd (hP _ hp) (by simp only [F.THM_LOST_TICKS]; omega))).thenF n
    (fun hp => absurd (hP _ hp) (by simp only [F.THM_LOST_REQ]; omega))

/-- A slot's turn touches, below the FAB registers that report, its own block alone. -/
theorem Pkg.requestTurn_kept {P : Nat → Prop} (k : Pkg) (e : Nat) (lost : List Nat) {y : Nat}
    (hP : ∀ o, P o → o < 0x200800 ∧ ¬ htmOfSlot y o) : CellsKept P k (k.requestTurn e lost y) := by
  have hlow : ∀ o, P o → o < 0x200800 := fun o ho => (hP o ho).1
  refine CellsKept.trans ?_ (Pkg.requestTurn_stored k e lost y hlow)
  exact (Pkg.lostTime_kept k y _ _ hlow).thenF _ (fun hp => (hP _ hp).2 (htmOfSlot_stretchReq y))

/-- From `k` to `j`, slot `s` asked for its lost time, and its stretch counts stand. -/
def Pkg.stretchAsked (k j : Pkg) (lost : List Nat) (s : Nat) : Prop :=
  j.getF (F.HTM_STRETCH_REQ s) = k.stretchAsk lost s ∧ j.getF (F.HTM_STRETCH_CUR s) = k.getF (F.HTM_STRETCH_CUR s) ∧
  j.getF (F.HTM_STRETCH_NEXT s) = k.getF (F.HTM_STRETCH_NEXT s)

/-- What a slot asks and shows is read from the cells of the lineup, its template and its own block. -/
theorem Pkg.stretchAsked_of_kept {k k' j j' : Pkg} {lost : List Nat} {s : Nat} (hs : s < 4)
    (hk : CellsKept (fun o => lineupToSlots o ∨ htmOfSlot s o) k k') (hj : CellsKept (htmOfSlot s) j j')
    (h : k'.stretchAsked j lost s) : k.stretchAsked j' lost s := by
  obtain ⟨hreq, hcur, hnext⟩ := h
  have hc := htmOfSlot_stretchCur s
  have hn := htmOfSlot_stretchNext s
  exact ⟨(hj.getF (htmOfSlot_stretchReq s)).trans (hreq.trans (Pkg.stretchAsk_of_kept (hk.mono (fun _ => .inl)) lost hs)),
    (hj.getF hc).trans (hcur.trans (hk.getF (.inr hc))), (hj.getF hn).trans (hnext.trans (hk.getF (.inr hn)))⟩

theorem Pkg.requestTurn_own (k : Pkg) (e : Nat) (lost : List Nat) {s : Nat} (hs : s < 4) :
    k.stretchAsked (k.requestTurn e lost s) lost s := by
  have hstored := Pkg.requestTurn_stored (P := htmOfSlot s) k e lost s (fun o ho => by omega)
  have hlost := Pkg.lostTime_kept (P := htmOfSlot s) k s (k.slotLost lost s / 256) (k.stretchAsk lost s) (fun o ho => by omega)
  have hle := Pkg.stretchAsk_le k lost s
  refine ⟨?_, ?_, ?_⟩
  · rw [hstored.getF (htmOfSlot_stretchReq s), Pkg.getF_setF_same _ _ _ rfl]
    exact Nat.mod_eq_of_lt (lt_of_le_of_lt hle (by norm_num [F.HTM_STRETCH_REQ]))
  · rw [hstored.getF (htmOfSlot_stretchCur s), Pkg.getF_setF_apart _ _ _ _ (by simp [Fld.apart, F.HTM_STRETCH_CUR, F.HTM_STRETCH_REQ]),
      hlost.getF (htmOfSlot_stretchCur s)]
  · rw [hstored.getF (htmOfSlot_stretchNext s), Pkg.getF_setF_apart _ _ _ _ (by simp [Fld.apart, F.HTM_STRETCH_NEXT, F.HTM_STRETCH_REQ]),
      hlost.getF (htmOfSlot_stretchNext s)]

/-- At a boundary each slot asks for its lost time. -/
theorem Pkg.requestStretch_asks (k : Pkg) (e : Nat) (lost : List Nat) {s : Nat} (hs : s < 4) :
    k.stretchAsked (k.requestStretch e lost) lost s := by
  rw [Pkg.requestStretch_eq]
  refine foldl_ownTurn (A := CellsKept (fun o => lineupToSlots o ∨ htmOfSlot s o) k) (B := fun j => k.stretchAsked j lost s)
    (fun j hj => Pkg.stretchAsked_of_kept hs hj (CellsKept.refl _) (Pkg.requestTurn_own j e lost hs))
    (fun j y hy ne hj => hj.trans (Pkg.requestTurn_kept j e lost ?_))
    (fun j y _ ne hj => Pkg.stretchAsked_of_kept hs (CellsKept.refl k) (Pkg.requestTurn_kept j e lost ?_) hj)
    List.nodup_range (List.mem_range.mpr hs) (CellsKept.refl k)
  · have := List.mem_range.mp hy
    intro o ho
    omega
  · intro o ho
    omega

/-! ### The rest of the boundary (R82): links, templates, biases and power -/

theorem Pkg.setRingOut_kept (k : Pkg) (row : Bool) (i : Nat) (out : Bool) : CellsKept belowLinks k (k.setRingOut row i out) := by
  unfold Pkg.setRingOut
  exact CellsKept.ite (CellsKept.setF _ _ (by decide)) (CellsKept.setF _ _ (by decide))

theorem Pkg.mapPort_kept (k : Pkg) (n : Nat) (out : Bool) : CellsKept belowLinks k (k.mapPort n out) := by
  have hmapped : ∀ v, CellsKept belowLinks k (k.setF (F.LNK_MAPPED_OUT n) v) :=
    fun v => CellsKept.setF k v (by simp only [F.LNK_MAPPED_OUT]; omega)
  unfold Pkg.mapPort
  refine CellsKept.ite ?_ ?_
  · refine CellsKept.ite (hmapped _) (((hmapped _).thenF _ ?_).trans ((Pkg.sendRack_frame _ _ _ _).cellsKept (fun o ho => by omega)))
    simp only [F.LNK_MAP]; omega
  · dsimp only
    split
    · exact hmapped _
    · refine CellsKept.ite (hmapped _) (CellsKept.trans ?_ (CellsKept.foldl _
        (fun j v _ => (Pkg.sendHub_frame j _ _ _ _ _).cellsKept (fun o ho => by omega)) _))
      exact (hmapped _).trans (Pkg.setRingOut_kept _ _ _ _)

theorem Pkg.restoreLinks_kept (k : Pkg) : CellsKept belowLinks k k.restoreLinks := by
  unfold Pkg.restoreLinks
  refine CellsKept.foldl _ (fun j n _ => CellsKept.ite (CellsKept.trans ?_ (Pkg.mapPort_kept _ _ _)) (CellsKept.refl j)) k
  exact CellsKept.ofRegs rfl

/-- Redistribution counts the entries it drops, and sets the slot's active entries. -/
theorem Pkg.redistribute_kept (k : Pkg) (s : Nat) : CellsKept belowLinks k (k.redistribute s) := by
  unfold Pkg.redistribute
  refine CellsKept.trans ?_ (CellsKept.ofRegs rfl)
  refine List.foldlRecOn (motive := fun (acc : Pkg × List TmplEntry × List TmplEntry) => CellsKept belowLinks k acc.1) _ _
    (CellsKept.refl k) ?_
  rintro ⟨j, act, spares⟩ hj x -
  dsimp only at hj ⊢
  split
  · exact hj
  · exact hj.trans (CellsKept.inc j (by decide))

theorem Pkg.staleCheck_kept (k : Pkg) (s e : Nat) : CellsKept belowLinks k (k.staleCheck s e) := by
  unfold Pkg.staleCheck
  exact CellsKept.ite (CellsKept.setF k 1 (by decide)) (CellsKept.refl k)

theorem Pkg.countOver_kept (k : Pkg) : CellsKept belowLinks k k.countOver := by
  have hinc : CellsKept belowLinks k (k.inc (F.PWR_COUNTS 3)) := CellsKept.inc k (by decide)
  unfold Pkg.countOver
  refine CellsKept.ite (CellsKept.ofRegs rfl) (CellsKept.ite ?_ ?_)
  · exact ((hinc.trans (CellsKept.ofRegs rfl)).thenF 1 (by decide)).trans (CellsKept.ofRegs rfl)
  · exact hinc.trans (CellsKept.ofRegs rfl)

theorem Pkg.showCaps_kept (k : Pkg) : CellsKept belowLinks k k.showCaps := by
  unfold Pkg.showCaps
  exact (((CellsKept.setF k _ (by decide)).thenF _ (by decide)).thenF _ (by decide)).thenF _ (by decide)

theorem Pkg.refreshCaps_kept (k : Pkg) : CellsKept belowLinks k k.refreshCaps := by
  unfold Pkg.refreshCaps
  refine CellsKept.trans ?_ (Pkg.showCaps_kept _)
  refine CellsKept.ite (CellsKept.thenF ?_ _ ?_) ?_
  · exact CellsKept.ofRegs rfl
  · decide
  · exact CellsKept.ofRegs rfl

theorem Pkg.rampStep_kept (k : Pkg) : CellsKept belowLinks k k.rampStep := by
  have hshort : CellsKept belowLinks k ((k.inc (F.PWR_COUNTS 2)).raise F.PWR_EV_BALLAST_SHORT) :=
    (CellsKept.inc k (by decide)).thenF 1 (by decide)
  unfold Pkg.rampStep
  refine CellsKept.ite (CellsKept.refl k) (CellsKept.trans ?_ (Pkg.showCaps_kept _))
  exact ((CellsKept.ite hshort (CellsKept.refl k)).thenF _ (by decide)).trans (CellsKept.ofRegs rfl)

theorem Pkg.powerEpoch_kept (k : Pkg) : CellsKept belowLinks k k.powerEpoch := by
  have hmean : CellsKept belowLinks k (if k.power.epoch.1 = 0 then k else k.setF F.PWR_IN_MW (meanOf k.power.epoch)) :=
    CellsKept.ite (CellsKept.refl k) (CellsKept.setF k _ (by decide))
  have hparts := hmean.trans (CellsKept.foldl (List.range 4)
    (op := fun k s => k.setF (F.PWR_PART_MW s) (k.power.used.getD s 0 * 1000000 / 1048576))
    (fun j s _ => CellsKept.setF j _ (by simp only [F.PWR_PART_MW]; omega)) _)
  unfold Pkg.powerEpoch
  refine CellsKept.trans ?_ (Pkg.rampStep_kept _)
  refine CellsKept.trans ?_ (Pkg.refreshCaps_kept _)
  refine CellsKept.trans ?_ (Pkg.countOver_kept _)
  exact (CellsKept.ite (hparts.trans (CellsKept.inc _ (by decide))) hparts).trans (CellsKept.ofRegs rfl)

/-- Below the links' registers a boundary does no more than its stretch counts and requests. -/
theorem Pkg.boundary_kept (k : Pkg) (e : Nat) (lost : List Nat) :
    CellsKept belowLinks (((k.adoptStretch e).decideStretch e).requestStretch e lost) (k.boundary e lost) := by
  unfold Pkg.boundary
  refine CellsKept.trans ?_ (Pkg.powerEpoch_kept _)
  refine CellsKept.trans ?_ (CellsKept.foldl _ (fun j s _ => Pkg.staleCheck_kept j s e) _)
  refine CellsKept.trans (Pkg.restoreLinks_kept _) (CellsKept.foldl _ (fun j s _ => ?_) _)
  exact CellsKept.ite (Pkg.redistribute_kept j s) (CellsKept.refl j)

/-- An epoch boundary: the received counts take effect, and the lost time is asked for. -/
theorem Pkg.boundary_stretch (k : Pkg) (e : Nat) (lost : List Nat) {s : Nat} (hs : s < 4) :
    k.showsStretch (k.boundary e lost) e s ∧ (k.boundary e lost).getF (F.HTM_STRETCH_REQ s) = k.stretchAsk lost s := by
  have hshown : k.showsStretch ((k.adoptStretch e).decideStretch e) e s :=
    Pkg.showsStretch_of_kept (Pkg.decideStretch_kept _ e (fun o ho => by omega)) (Pkg.adoptStretch_shows k e hs)
  have hslots : CellsKept lineupToSlots k ((k.adoptStretch e).decideStretch e) :=
    (Pkg.adoptStretch_kept k e (fun s hs o ho => by omega)).trans (Pkg.decideStretch_kept _ e (fun o ho => by omega))
  obtain ⟨hreq, hcur, hnext⟩ := Pkg.requestStretch_asks ((k.adoptStretch e).decideStretch e) e lost hs
  have hrest : CellsKept (htmOfSlot s) _ (k.boundary e lost) := (Pkg.boundary_kept k e lost).mono (fun o ho => by omega)
  refine ⟨Pkg.showsStretch_of_kept hrest ⟨hcur.trans hshown.1, hnext.trans hshown.2⟩, ?_⟩
  exact (hrest.getF (htmOfSlot_stretchReq s)).trans (hreq.trans (Pkg.stretchAsk_of_kept hslots lost hs))

/-! ### The commands -/

theorem exec_volleyBoundary (p : PkgId) (t : Nat) (s : State) :
    exec (.volleyBoundary p t) s = .next (s.updPkg p (fun k => (k.at t).volley t)) := rfl

/-- EPOCH_BOUNDARY at a boundary, once Hall Time is valid. -/
theorem exec_epochBoundary {s : State} {p : PkgId} (lost : List Nat) (e : Nat) (hv : (s.pkg p).getF F.HTM_VALID = 1) :
    ∃ t, exec (.epochBoundary p lost (e * 2097152)) s = .next t ∧
      t.pkg p = { ((s.pkg p).at (e * 2097152)).boundary e lost with notices := [] } := by
  refine ⟨_, rfl, ?_⟩
  simp [atBoundary, epochTicks, Pkg.flag, hv]

/-- Settles O4: each slot's turn at a boundary writes its own HTM block, and nothing after it reaches that block. -/
theorem volleysAndEpochs : Obligations.VolleysAndEpochs := by
  constructor
  · intro s p t sl ht hv held
    refine ⟨_, exec_volleyBoundary p t s, ?_⟩
    simp only [State.pkg_updPkg_same]
    exact Pkg.volley_counts ((s.pkg p).at t) ht hv sl.isLt held
  · intro s p lost e sl hv
    obtain ⟨t, hexec, hpkg⟩ := exec_epochBoundary lost e hv
    refine ⟨t, hexec, ?_⟩
    obtain ⟨⟨hcur, hnext⟩, hreq⟩ := Pkg.boundary_stretch ((s.pkg p).at (e * 2097152)) e lost sl.isLt
    rw [hpkg]
    exact ⟨hcur, hnext, hreq⟩

end Sys2Proof.Machine
end

section
/-! PROOFS. Ports that leave UP (R400, R413, R414, R416, R418, R420, R421, R497). The ports' own LNK registers lie in 0x100000 to
0x180000. Losing the peer and mapping a link out reach outside them, so entering a state other than UP changes there the port's state,
its mapped-out flag and its DOWN event alone. -/

namespace Sys2Proof.Machine

/-! ### The state of a port -/

/-- The registers of the ports themselves; the maps and the maintenance register lie above them. -/
abbrev linkRegs (o : Nat) : Prop := 0x100000 ≤ o ∧ o < 0x180000

@[simp] theorem Pkg.getF_setLport (k : Pkg) (n : Nat) (l : LinkPort) (f : Fld) : (k.setLport n l).getF f = k.getF f := rfl

@[simp] theorem Pkg.linkSt_setLport (k : Pkg) (n m : Nat) (l : LinkPort) : (k.setLport n l).linkSt m = k.linkSt m := rfl

@[simp] theorem Pkg.linkSt_at (k : Pkg) (t n : Nat) : (k.at t).linkSt n = k.linkSt n := rfl

@[simp] theorem Pkg.lport_at (k : Pkg) (t n : Nat) : (k.at t).lport n = k.lport n := rfl

theorem Pkg.setLport_kept {P : Nat → Prop} (k : Pkg) (n : Nat) (l : LinkPort) : CellsKept P k (k.setLport n l) := CellsKept.ofRegs rfl

theorem Pkg.lport_congr {k j : Pkg} (h : j.links = k.links) (n : Nat) : j.lport n = k.lport n := by
  simp only [Pkg.lport, h]

theorem Pkg.lport_setLport_same (k : Pkg) {n : Nat} (hn : n < 20) (l : LinkPort) : (k.setLport n l).lport n = l := by
  simp [Pkg.lport, Pkg.setLport, List.getD, hn]

theorem Pkg.fport_setFport_same (k : Pkg) {n : Nat} (hn : n < 20) (f : FabPort) : (k.setFport n f).fport n = f := by
  simp [Pkg.fport, Pkg.setFport, List.getD, hn]

theorem FabOnly.links {k j : Pkg} (h : FabOnly k j) : j.links = k.links := by
  obtain ⟨⟨r, f, w, rfl⟩, -⟩ := h
  rfl

theorem FabOnly.linkRegs {k j : Pkg} (h : FabOnly k j) : CellsKept linkRegs k j := h.cellsKept (fun o ho => by omega)

/-! ### What losing a peer leaves alone -/

theorem Pkg.enterPhase_linkRegs (k : Pkg) {n : Nat} (hn : n < 8) : CellsKept linkRegs k (k.enterPhase n) := by
  unfold Pkg.enterPhase
  refine CellsKept.trans (CellsKept.thenF (CellsKept.ite (CellsKept.refl k) (CellsKept.setF k n (by decide))) _ ?_) (CellsKept.ofRegs rfl)
  simp only [F.GLB_BU_MARK]; omega

theorem Pkg.enterReady_linkRegs (k : Pkg) : CellsKept linkRegs k k.enterReady := by
  have hready : ∀ (j : Pkg), ∀ s ∈ List.range 4, CellsKept linkRegs j (if j.slotHeld s then j.raise (F.GLB_PS_READY s) else j) := by
    intro j s hs
    have := List.mem_range.mp hs
    refine CellsKept.ite (CellsKept.setF j 1 ?_) (CellsKept.refl j)
    simp only [F.GLB_PS_READY]; omega
  unfold Pkg.enterReady
  refine CellsKept.trans ?_ (CellsKept.ofRegs rfl)
  refine CellsKept.thenF (CellsKept.trans ?_ (CellsKept.foldl _ hready _)) _ (by decide)
  exact (((CellsKept.setF k 0 (by decide)).thenF 0 (by decide)).thenF 0 (by decide)).trans (Pkg.enterPhase_linkRegs _ (by decide))

theorem Pkg.judgeReady_linkRegs (k : Pkg) : CellsKept linkRegs k k.judgeReady := by
  unfold Pkg.judgeReady
  exact CellsKept.ite k.enterReady_linkRegs (CellsKept.refl k)

/-- Continue a chain of updates at its last one, on a condition. -/
theorem CellsKept.thenIf {P : Nat → Prop} {k j l : Pkg} {c : Prop} {_ : Decidable c} (h : CellsKept P k j) (g : CellsKept P j l) :
    CellsKept P k (if c then l else j) := CellsKept.ite (h.trans g) h

theorem Pkg.setAlign_linkRegs (k : Pkg) (st : Nat) : CellsKept linkRegs k (k.setAlign st) := by
  unfold Pkg.setAlign
  refine CellsKept.thenIf (CellsKept.thenIf (CellsKept.thenIf (CellsKept.thenIf (CellsKept.thenIf (CellsKept.setF k st ?_)
    (CellsKept.setF _ 1 ?_)) (CellsKept.setF _ 1 ?_)) (CellsKept.setF _ 1 ?_)) (CellsKept.ofRegs rfl)) (Pkg.judgeReady_linkRegs _)
  all_goals decide

theorem Pkg.setRef_linkRegs (k : Pkg) (r : Nat) : CellsKept linkRegs k (k.setRef r) := by
  unfold Pkg.setRef
  exact ((CellsKept.setF k r (by decide)).thenIf (CellsKept.setF _ 1 (by decide))).thenIf (CellsKept.setF _ 1 (by decide))

theorem Pkg.selectParent_linkRegs (k : Pkg) : CellsKept linkRegs k k.selectParent := by
  unfold Pkg.selectParent
  refine CellsKept.thenIf (CellsKept.thenIf ?_ (CellsKept.thenF (CellsKept.ofRegs rfl) 1 (by decide))) (CellsKept.setF _ 1 (by decide))
  split
  · refine CellsKept.trans (CellsKept.thenIf ?_ (Pkg.setAlign_linkRegs _ 1)) (Pkg.setRef_linkRegs _ _)
    exact (((CellsKept.setF k 0 (by decide)).thenF _ (by decide)).thenF _ (by decide)).thenF _ (by decide)
  · have hnone : CellsKept linkRegs k ((k.setF F.HTM_PARENT_PORT 31).setF F.HTM_PARENT_OFFSET 0x80000000) :=
      (CellsKept.setF k _ (by decide)).thenF _ (by decide)
    refine CellsKept.ite (CellsKept.trans ?_ (Pkg.setRef_linkRegs _ _)) ((hnone.thenF 0 (by decide)).thenF 255 (by decide))
    exact (((CellsKept.ite hnone (hnone.trans (Pkg.setAlign_linkRegs _ 2))).thenF 1 (by decide)).thenF 0 (by decide)).thenF _ (by decide)

/-- A port that stops hearing its peer is a matter of Hall Time and of readiness. -/
theorem Pkg.forgetPeer_linkRegs (k : Pkg) (n : Nat) : CellsKept linkRegs k (k.forgetPeer n) := by
  unfold Pkg.forgetPeer Pkg.loseParent
  exact CellsKept.thenIf (CellsKept.trans (CellsKept.ofRegs rfl) (Pkg.selectParent_linkRegs _)) (Pkg.setAlign_linkRegs _ 3)

/-! ### Mapping out and entering a state -/

theorem Pkg.setRingOut_linkRegs (k : Pkg) (row : Bool) (i : Nat) (out : Bool) : CellsKept linkRegs k (k.setRingOut row i out) := by
  unfold Pkg.setRingOut
  exact CellsKept.ite (CellsKept.setF _ _ (by decide)) (CellsKept.setF _ _ (by decide))

theorem Pkg.setRingOut_links (k : Pkg) (row : Bool) (i : Nat) (out : Bool) : (k.setRingOut row i out).links = k.links := by
  unfold Pkg.setRingOut
  split <;> rfl

/-- R425, R426: mapping a port's link writes the port's own flag, then at most a word of a map, then sends packets. -/
theorem Pkg.mapPort_stages (k : Pkg) (n : Nat) (out : Bool) :
    ∃ j, FabOnly j (k.mapPort n out) ∧ CellsKept linkRegs (k.setF (F.LNK_MAPPED_OUT n) (if out then 1 else 0)) j ∧ j.links = k.links := by
  unfold Pkg.mapPort
  dsimp only
  generalize (if out = true then 1 else 0) = o
  split
  · split
    · exact ⟨_, FabOnly.refl _, CellsKept.refl _, rfl⟩
    · refine ⟨_, Pkg.sendRack_frame _ _ _ _, CellsKept.setF _ _ ?_, rfl⟩
      simp only [F.LNK_MAP]; omega
  · split
    · exact ⟨_, FabOnly.refl _, CellsKept.refl _, rfl⟩
    · split
      · exact ⟨_, FabOnly.refl _, CellsKept.refl _, rfl⟩
      · exact ⟨_, FabOnly.foldl _ _ (fun j v => Pkg.sendHub_frame j _ _ _ _ _) _, Pkg.setRingOut_linkRegs _ _ _ _,
          Pkg.setRingOut_links _ _ _ _⟩

theorem Pkg.mapPort_links (k : Pkg) (n : Nat) (out : Bool) : (k.mapPort n out).links = k.links := by
  obtain ⟨j, hsent, -, hlinks⟩ := k.mapPort_stages n out
  exact hsent.links.trans hlinks

/-- Of the ports' registers, mapping a port's link changes the port's own flag alone. -/
theorem Pkg.mapPort_linkRegs (k : Pkg) (n : Nat) (out : Bool) :
    CellsKept linkRegs (k.setF (F.LNK_MAPPED_OUT n) (if out then 1 else 0)) (k.mapPort n out) := by
  obtain ⟨j, hsent, hflag, -⟩ := k.mapPort_stages n out
  exact hflag.trans hsent.linkRegs

/-- What entering state `st` other than UP writes into the registers of port `n`. -/
def Pkg.markEntered (k : Pkg) (n st : Nat) : Pkg :=
  let k' := k.setF (F.LNK_ST n) st
  (if k.linkSt n = 5 then k'.raise (F.LNK_EV_DOWN n) else k').setF (F.LNK_MAPPED_OUT n) 1

theorem CellsKept.setF_congr {P : Nat → Prop} {k j : Pkg} (h : CellsKept P k j) (f : Fld) (v : Nat) (hf : P f.off) :
    CellsKept P (k.setF f v) (j.setF f v) := by
  intro o ho
  unfold Pkg.setF
  rw [h _ hf]
  by_cases e : o = f.off
  · rw [e, Pkg.cell_setCell_same, Pkg.cell_setCell_same]
  · rw [Pkg.cell_setCell_other _ _ e, Pkg.cell_setCell_other _ _ e, h o ho]

/-- Of the ports' registers, entering a state other than UP changes the state, the mapped-out flag and the DOWN event of the port. -/
theorem Pkg.enterPort_linkRegs (k : Pkg) {n st : Nat} (hn : n < 20) (hst : st ≠ 5) :
    CellsKept linkRegs (k.markEntered n st) (k.enterPort n st) := by
  have hmapped : linkRegs (F.LNK_MAPPED_OUT n).off := by simp only [F.LNK_MAPPED_OUT]; omega
  have hdown : linkRegs (F.LNK_EV_DOWN n).off := by simp only [F.LNK_EV_DOWN]; omega
  unfold Pkg.enterPort Pkg.markEntered
  simp only [hst, ne_eq, not_false_eq_true, and_true, if_false]
  refine CellsKept.trans (CellsKept.setF_congr ?_ _ 1 hmapped) (Pkg.mapPort_linkRegs _ n true)
  split
  · exact CellsKept.trans (CellsKept.setF_congr (Pkg.setLport_kept _ _ _) _ 1 hdown) (Pkg.forgetPeer_linkRegs _ n)
  · exact Pkg.setLport_kept _ _ _

theorem Pkg.enterPort_st (k : Pkg) {n st : Nat} (hn : n < 20) (hst : st ≠ 5) :
    (k.enterPort n st).getF (F.LNK_ST n) = st % 16 := by
  have hdown : (F.LNK_EV_DOWN n).apart (F.LNK_ST n) = true := by simp [Fld.apart, F.LNK_EV_DOWN, F.LNK_ST]
  rw [(k.enterPort_linkRegs hn hst).getF (by simp only [F.LNK_ST]; omega)]
  unfold Pkg.markEntered
  rw [Pkg.getF_setF_apart _ _ _ _ (by simp [Fld.apart, F.LNK_MAPPED_OUT, F.LNK_ST])]
  split
  · exact (Pkg.getF_setF_apart _ _ _ _ hdown).trans (Pkg.getF_setF_same _ _ _ rfl)
  · exact Pkg.getF_setF_same _ _ _ rfl

theorem Pkg.enterPort_mappedOut (k : Pkg) {n st : Nat} (hn : n < 20) (hst : st ≠ 5) :
    (k.enterPort n st).getF (F.LNK_MAPPED_OUT n) = 1 := by
  rw [(k.enterPort_linkRegs hn hst).getF (by simp only [F.LNK_MAPPED_OUT]; omega)]
  exact Pkg.getF_setF_same _ _ _ rfl

/-- The port's other fields keep their value when it enters a state other than UP. -/
theorem Pkg.enterPort_other (k : Pkg) {n st : Nat} (hn : n < 20) (hst : st ≠ 5) {f : Fld} (hf : linkRegs f.off)
    (hstate : (F.LNK_ST n).apart f = true) (hmapped : (F.LNK_MAPPED_OUT n).apart f = true) (hdown : (F.LNK_EV_DOWN n).apart f = true) :
    (k.enterPort n st).getF f = k.getF f := by
  rw [(k.enterPort_linkRegs hn hst).getF hf]
  unfold Pkg.markEntered
  rw [Pkg.getF_setF_apart _ _ _ _ hmapped]
  split
  · exact (Pkg.getF_setF_apart _ _ _ _ hdown).trans (Pkg.getF_setF_apart _ _ _ _ hstate)
  · exact Pkg.getF_setF_apart _ _ _ _ hstate

theorem Pkg.enterPort_failCause (k : Pkg) {n st : Nat} (hn : n < 20) (hst : st ≠ 5) :
    (k.enterPort n st).getF (F.LNK_FAIL_CAUSE n) = k.getF (F.LNK_FAIL_CAUSE n) :=
  k.enterPort_other hn hst (by simp only [F.LNK_FAIL_CAUSE]; omega) (by simp [Fld.apart, F.LNK_ST, F.LNK_FAIL_CAUSE])
    (by simp [Fld.apart, F.LNK_MAPPED_OUT, F.LNK_FAIL_CAUSE]) (by simp [Fld.apart, F.LNK_EV_DOWN, F.LNK_FAIL_CAUSE])

/-- From a state other than UP, entering a state changes nothing of the port's link state but the time. -/
theorem Pkg.enterPort_lport (k : Pkg) {n : Nat} (st : Nat) (hn : n < 20) (hwas : k.linkSt n ≠ 5) :
    (k.enterPort n st).lport n = { k.lport n with entered := k.now } := by
  have hkept : (k.enterPort n st).links = ((k.setF (F.LNK_ST n) st).setLport n { k.lport n with entered := k.now }).links := by
    unfold Pkg.enterPort
    simp only [hwas, ne_eq, false_and, if_false]
    split
    · rfl
    · exact Pkg.mapPort_links _ n true
  exact (Pkg.lport_congr hkept n).trans (Pkg.lport_setLport_same _ hn _)

/-! ### FAILED (R419) and DETECT -/

/-- A port that fails shows FAILED, the cause and the event. -/
theorem Pkg.failPort_fails (k : Pkg) {n cause : Nat} (hn : n < 20) (hcause : cause < 8) (hwas : k.linkSt n ≠ 7) :
    (k.failPort n cause).getF (F.LNK_ST n) = 7 ∧ (k.failPort n cause).getF (F.LNK_FAIL_CAUSE n) = cause ∧
    (k.failPort n cause).getF (F.LNK_EV_FAILED n) = 1 := by
  have hlog : ∀ (j : Pkg) (f : Fld), linkRegs f.off → (j.logError 0x7C03 .port n cause).getF f = j.getF f :=
    fun j f hf => (Pkg.logError_frame j _ _ _ _).getF f (by omega)
  have hst : linkRegs (F.LNK_ST n).off := by simp only [F.LNK_ST]; omega
  have hevent : linkRegs (F.LNK_EV_FAILED n).off := by simp only [F.LNK_EV_FAILED]; omega
  unfold Pkg.failPort
  rw [if_neg hwas]
  refine ⟨?_, ?_, ?_⟩
  · rw [hlog _ _ hst, Pkg.getF_setLport, Pkg.raise, Pkg.getF_setF_apart _ _ _ _ (by simp [Fld.apart, F.LNK_EV_FAILED, F.LNK_ST])]
    exact Pkg.enterPort_st _ hn (by decide)
  · rw [hlog _ (F.LNK_FAIL_CAUSE n) hst, Pkg.getF_setLport, Pkg.raise,
      Pkg.getF_setF_apart _ _ _ _ (by simp [Fld.apart, F.LNK_EV_FAILED, F.LNK_FAIL_CAUSE]),
      Pkg.enterPort_failCause _ hn (by decide), Pkg.getF_setF_same _ _ _ rfl]
    exact Nat.mod_eq_of_lt hcause
  · rw [hlog _ _ hevent, Pkg.getF_setLport]
    exact Pkg.getF_setF_same _ _ _ rfl

/-- A port that trains from the start is in DETECT, and shows no cause of an earlier failure. -/
theorem Pkg.enterDetect_detects (k : Pkg) {n : Nat} (hn : n < 20) :
    (k.enterDetect n).getF (F.LNK_ST n) = 1 ∧ (k.enterDetect n).getF (F.LNK_FAIL_CAUSE n) = 0 := by
  unfold Pkg.enterDetect
  refine ⟨Pkg.enterPort_st _ hn (by decide), ?_⟩
  rw [Pkg.enterPort_failCause _ hn (by decide), Pkg.getF_setLport,
    Pkg.getF_setF_apart _ _ _ _ (by simp [Fld.apart, F.LNK_MIS_CAUSE, F.LNK_FAIL_CAUSE])]
  exact Pkg.getF_setF_same _ _ _ rfl

/-- A port that trains from the start has the bring-up window. -/
theorem Pkg.enterDetect_bringUp (k : Pkg) {n : Nat} (hn : n < 20) (hwas : k.linkSt n ≠ 5) :
    ((k.enterDetect n).lport n).bringUp = true := by
  have hstate : (((k.setF (F.LNK_RETRAINING n) 0).setF (F.LNK_FAIL_CAUSE n) 0).setF (F.LNK_MIS_CAUSE n) 0).linkSt n = k.linkSt n := by
    unfold Pkg.linkSt
    rw [Pkg.getF_setF_apart _ _ _ _ (by simp [Fld.apart, F.LNK_MIS_CAUSE, F.LNK_ST]),
      Pkg.getF_setF_apart _ _ _ _ (by simp [Fld.apart, F.LNK_FAIL_CAUSE, F.LNK_ST]),
      Pkg.getF_setF_apart _ _ _ _ (by simp [Fld.apart, F.LNK_RETRAINING, F.LNK_ST])]
  unfold Pkg.enterDetect
  dsimp only
  generalize ((k.setF (F.LNK_RETRAINING n) 0).setF (F.LNK_FAIL_CAUSE n) 0).setF (F.LNK_MIS_CAUSE n) 0 = j at hstate ⊢
  rw [← hstate] at hwas
  rw [Pkg.enterPort_lport _ 1 hn (by rwa [Pkg.linkSt_setLport]), Pkg.lport_setLport_same _ hn]

/-! ### Retraining (R416, R497, R498) -/

@[simp] theorem Pkg.fport_setF (k : Pkg) (f : Fld) (v n : Nat) : (k.setF f v).fport n = k.fport n := rfl

theorem Pkg.refreshQueue_fport (k : Pkg) {n : Nat} (hn : n < 20) :
    ∃ stop, (k.refreshQueue n).fport n = { k.fport n with stopped := stop } :=
  ⟨_, Pkg.fport_setFport_same _ hn _⟩

/-- R498: nothing of the port's replay buffer and output queue is left. -/
theorem Pkg.clearPort_discards (k : Pkg) {n : Nat} (hn : n < 20) :
    ((k.clearPort n).fport n).replay = [] ∧ ((k.clearPort n).fport n).queue = [] := by
  have harrived : ∀ (j : Pkg) (a : List Arrived), ({ j with fab := { j.fab with arrived := a } } : Pkg).fport n = j.fport n := fun _ _ => rfl
  unfold Pkg.clearPort
  dsimp only
  obtain ⟨stop, h⟩ := Pkg.refreshQueue_fport (n := n) _ hn
  rw [h, Pkg.fport_setF, Pkg.fport_setF, Pkg.fport_setF, harrived, Pkg.fport_setFport_same _ hn]
  exact ⟨rfl, rfl⟩

/-- Discarding what a port holds is a matter of the fabric. -/
theorem Pkg.clearPort_frame (k : Pkg) {n : Nat} (hn : n < 20) : FabOnly k (k.clearPort n) := by
  have hregs : ∀ i, i < 0x40 → 0x200800 ≤ 0x201000 + i + 0x40 * n ∧ 0x201000 + i + 0x40 * n < 0x300000 := by omega
  unfold Pkg.clearPort
  refine FabOnly.trans ?_ (Pkg.refreshQueue_frame _ n (by omega))
  refine FabOnly.thenF (FabOnly.thenF (FabOnly.thenF ?_ _ 0 (hregs 0x18 (by decide))) _ 0 (hregs 0x8 (by decide))) _ 0 (hregs 0x8 (by decide))
  exact (FabOnly.ofFab k _).thenFab _

/-- How many retrains the port began within the last 60 s. -/
def Pkg.recentRetrains (k : Pkg) (n : Nat) : Nat :=
  ((k.lport n).retrains.filter (fun u => decide (k.now < u + 120000000000))).length

/-- R497: the fourth retrain within 60 s is a failure instead. -/
theorem Pkg.beginRetrain_limit (k : Pkg) {n : Nat} (h : 3 ≤ k.recentRetrains n) : k.beginRetrain n = k.failPort n 1 := by
  unfold Pkg.beginRetrain
  exact if_pos h

/-- R416: before the limit, a retrain enters EQUALIZE, is recorded and counted, and discards what the port holds. -/
theorem Pkg.beginRetrain_stages (k : Pkg) {n : Nat} (h : k.recentRetrains n < 3) :
    ∃ l v, k.beginRetrain n = ((((((k.enterPort n 2).setF (F.LNK_RETRAINING n) 1).setLport n l).raise (F.LNK_EV_RETRAIN n)).inc
      (F.LNK_COUNTS n 3)).setF (F.FAB_RETRAINS_60S n) v).clearPort n := by
  unfold Pkg.beginRetrain
  exact ⟨_, _, if_neg (Nat.not_le.mpr h)⟩

/-- The port's state register, after a retrain began. -/
theorem Pkg.beginRetrain_state (k : Pkg) {n : Nat} (hn : n < 20) (h : k.recentRetrains n < 3) :
    CellsKept (fun o => o = (F.LNK_ST n).off) ((k.enterPort n 2).setF (F.LNK_RETRAINING n) 1) (k.beginRetrain n) := by
  obtain ⟨l, v, hstages⟩ := k.beginRetrain_stages h
  rw [hstages]
  have hlport := Pkg.setLport_kept (P := fun o => o = (F.LNK_ST n).off) ((k.enterPort n 2).setF (F.LNK_RETRAINING n) 1) n l
  refine (((hlport.thenF 1 ?_).trans (CellsKept.inc _ ?_)).thenF v ?_).trans ((Pkg.clearPort_frame _ hn).cellsKept ?_)
  · simp only [F.LNK_EV_RETRAIN, F.LNK_ST]; omega
  · simp only [F.LNK_COUNTS, F.LNK_ST]; omega
  · simp only [F.FAB_RETRAINS_60S, F.LNK_ST]; omega
  · simp only [F.LNK_ST]; omega

/-- A retrain that begins leaves the port in EQUALIZE, retraining, mapped out and empty. -/
theorem Pkg.beginRetrain_retrains (k : Pkg) {n : Nat} (hn : n < 20) (h : k.recentRetrains n < 3) :
    (k.beginRetrain n).getF (F.LNK_ST n) = 2 ∧ (k.beginRetrain n).getF (F.LNK_RETRAINING n) = 1 ∧
    (k.beginRetrain n).getF (F.LNK_MAPPED_OUT n) = 1 ∧ ((k.beginRetrain n).fport n).replay = [] ∧
    ((k.beginRetrain n).fport n).queue = [] := by
  have hstate := k.beginRetrain_state hn h
  refine ⟨?_, ?_, ?_, ?_⟩
  · rw [hstate.getF rfl, Pkg.getF_setF_apart _ _ _ _ (by simp [Fld.apart, F.LNK_RETRAINING, F.LNK_ST])]
    exact Pkg.enterPort_st k hn (by decide)
  · rw [hstate.getF (f := F.LNK_RETRAINING n) rfl]
    exact Pkg.getF_setF_same _ _ _ rfl
  · rw [hstate.getF (f := F.LNK_MAPPED_OUT n) rfl, Pkg.getF_setF_apart _ _ _ _ (by simp [Fld.apart, F.LNK_RETRAINING, F.LNK_MAPPED_OUT])]
    exact Pkg.enterPort_mappedOut k hn (by decide)
  · obtain ⟨l, v, hstages⟩ := k.beginRetrain_stages h
    rw [hstages]
    exact Pkg.clearPort_discards _ hn

/-- R416, R497: what a port in UP that needs a retrain comes to, given its retrains within the last 60 s. -/
def Pkg.retrainedOrFailed (j : Pkg) (n recent : Nat) : Prop :=
  (recent < 3 → j.getF (F.LNK_ST n) = 2 ∧ j.getF (F.LNK_RETRAINING n) = 1 ∧ j.getF (F.LNK_MAPPED_OUT n) = 1 ∧
    (j.fport n).replay = [] ∧ (j.fport n).queue = []) ∧
  (3 ≤ recent → j.getF (F.LNK_ST n) = 7 ∧ j.getF (F.LNK_FAIL_CAUSE n) = 1)

theorem Pkg.beginRetrain_outcome (k : Pkg) {n : Nat} (hn : n < 20) (hup : k.linkSt n = 5) :
    (k.beginRetrain n).retrainedOrFailed n (k.recentRetrains n) := by
  refine ⟨k.beginRetrain_retrains hn, fun h => ?_⟩
  obtain ⟨hst, hcause, -⟩ := k.failPort_fails hn (cause := 1) (by decide) (by rw [hup]; decide)
  rw [k.beginRetrain_limit h]
  exact ⟨hst, hcause⟩

/-! ### The commands -/

section Commands

variable {s : State} {p : PkgId} {port : PortId} {t₀ : Nat}

theorem Completes.mono {c : Instr} {P Q : State → Prop} (h : Completes c s P) (hPQ : ∀ t, P t → Q t) : Completes c s Q := by
  obtain ⟨t, hexec, ht⟩ := h
  exact ⟨t, hexec, hPQ t ht⟩

/-- RETRAIN of a port in UP begins a retrain (R416). -/
theorem retrain_of_up (hup : (s.pkg p).linkSt port = 5) :
    Completes (.retrain p port t₀) s (fun t => t.pkg p = ((s.pkg p).at t₀).beginRetrain port) := by
  refine ⟨_, rfl, ?_⟩
  simp [hup]

/-- RETRAIN takes a port out of MISWIRED (R400). -/
theorem retrain_of_miswired (hst : (s.pkg p).linkSt port = 6) :
    Completes (.retrain p port t₀) s (fun t => t.pkg p = ((s.pkg p).at t₀).enterDetect port) := by
  refine ⟨_, rfl, ?_⟩
  simp [hst]

theorem fecAlignmentLoss_of_up (hup : (s.pkg p).linkSt port = 5) :
    Completes (.fecAlignmentLoss p port t₀) s (fun t => t.pkg p = ((s.pkg p).at t₀).beginRetrain port) := by
  refine ⟨_, rfl, ?_⟩
  simp [hup]

theorem spareAckTimeout_of_up {r : SpareReq} (hup : (s.pkg p).linkSt port = 5) (hreq : ((s.pkg p).lport port).spareReq = some r)
    (hunacked : r.acked = false) (hlate : r.sentAt + 20000 ≤ max (s.pkg p).now t₀) :
    Completes (.spareAckTimeout p port t₀) s (fun t => t.pkg p = ((s.pkg p).at t₀).beginRetrain port) := by
  refine ⟨_, rfl, ?_⟩
  simp only [State.pkg_updPkg_same, Pkg.lport_at, hreq, Pkg.linkSt_at, Pkg.at_now]
  simp [hup, hunacked, hlate]

theorem retrainNoSignal_of_late (hst : (s.pkg p).linkSt port = 2) (hretraining : (s.pkg p).getF (F.LNK_RETRAINING port) = 1)
    (hlate : ((s.pkg p).lport port).entered + 2000000000 ≤ max (s.pkg p).now t₀) :
    Completes (.retrainNoSignal p port t₀) s (fun t => t.pkg p = ((s.pkg p).at t₀).failPort port 4) := by
  refine ⟨_, rfl, ?_⟩
  simp only [State.pkg_updPkg_same, Pkg.lport_at, Pkg.linkSt_at, Pkg.at_now, Pkg.flag, Pkg.getF_at]
  simp [hst, hretraining, hlate]

theorem lossOfSignal_of_miswired (hst : (s.pkg p).linkSt port = 6) :
    Completes (.lossOfSignal p port t₀) s (fun t => t.pkg p = ((s.pkg p).at t₀).enterDetect port) := by
  refine ⟨_, rfl, ?_⟩
  simp [hst]

/-- R420: in a maintenance window, CLEAR_FAILED takes a port out of FAILED. -/
theorem clearFailed_of_failed (hst : (s.pkg p).linkSt port = 7) (hmaint : (s.pkg p).getF F.LNK_MAINT_EN = 1) :
    Completes (.clearFailed p port t₀) s (fun t => t.pkg p = ((s.pkg p).at t₀).enterDetect port) := by
  refine ⟨_, rfl, ?_⟩
  simp [Pkg.clearFailed, Pkg.flag, hst, hmaint]

/-- R421: outside a maintenance window CLEAR_FAILED is refused. -/
theorem clearFailed_outside_maintenance (hmaint : (s.pkg p).getF F.LNK_MAINT_EN = 0) :
    Completes (.clearFailed p port t₀) s (fun t => t.pkg p = ((s.pkg p).at t₀).raise (F.LNK_CLEAR_REFUSED port)) := by
  refine ⟨_, rfl, ?_⟩
  simp [Pkg.clearFailed, Pkg.flag, hmaint]

end Commands

/-- Settles O7: every command comes to beginning a retrain, failing, training from the start or a refusal, and what each of these
shows was said once. -/
theorem portsLeaveUp : Obligations.PortsLeaveUp := by
  constructor
  · intro s p port t₀ hup recent outcome
    have houtcome : ∀ t : State, t.pkg p = ((s.pkg p).at t₀).beginRetrain port → outcome t := by
      intro t ht
      have h := Pkg.beginRetrain_outcome ((s.pkg p).at t₀) port.isLt hup
      rw [← ht] at h
      exact h
    exact ⟨(retrain_of_up hup).mono houtcome, (fecAlignmentLoss_of_up hup).mono houtcome,
      fun r hreq hunacked hlate => (spareAckTimeout_of_up hup hreq hunacked hlate).mono houtcome⟩
  · intro s p port t₀
    have hdetect : ∀ t : State, t.pkg p = ((s.pkg p).at t₀).enterDetect port →
        (t.pkg p).getF (F.LNK_ST port) = 1 ∧ (t.pkg p).getF (F.LNK_FAIL_CAUSE port) = 0 := by
      intro t ht
      rw [ht]
      exact Pkg.enterDetect_detects _ port.isLt
    refine ⟨fun hst hretraining hlate => ?_, fun hst => ⟨?_, ?_⟩, fun hst hmaint => ?_, fun hmaint => ?_⟩
    · refine (retrainNoSignal_of_late hst hretraining hlate).mono (fun t ht => ?_)
      rw [ht]
      exact Pkg.failPort_fails _ port.isLt (by decide) (ne_of_eq_of_ne hst (by decide))
    · exact (lossOfSignal_of_miswired hst).mono (fun t ht => (hdetect t ht).1)
    · exact (retrain_of_miswired hst).mono (fun t ht => (hdetect t ht).1)
    · refine (clearFailed_of_failed hst hmaint).mono (fun t ht => ?_)
      obtain ⟨hdetected, hcause⟩ := hdetect t ht
      refine ⟨hdetected, hcause, ?_⟩
      rw [ht]
      exact Pkg.enterDetect_bringUp _ port.isLt (ne_of_eq_of_ne hst (by decide))
    · refine (clearFailed_outside_maintenance hmaint).mono (fun t ht => ?_)
      rw [ht]
      exact ⟨Pkg.getF_setF_apart _ _ _ _ (by simp [Fld.apart, F.LNK_CLEAR_REFUSED, F.LNK_ST]), Pkg.getF_setF_same _ _ _ rfl⟩

end Sys2Proof.Machine
end

section
/-! PROOFS. The steps of a bring-up (R581, R684, R686–R704, R716). A step writes the registers it names, leaves the bring-up state where
it says, and passes the rest on. The one step that could reach another phase behind its own back is the start of port training, where a
port that loses its peer may have readiness judged again; no package is ready while its HBM is not. -/

namespace Sys2Proof.Machine

/-! ### Updates that leave the bring-up where it is -/

/-- `j` stands where `k` does in its bring-up, with the same lineups, straps and flash and the same register cells at the offsets of `P`. -/
structure BringKept (P : Nat → Prop) (k j : Pkg) : Prop where
  bring : j.bring = k.bring
  lup : j.lup = k.lup
  straps : j.straps = k.straps
  flash : j.flash = k.flash
  cells : CellsKept P k j

namespace BringKept

variable {P : Nat → Prop} {k j l : Pkg}

theorem refl (k : Pkg) : BringKept P k k := ⟨rfl, rfl, rfl, rfl, CellsKept.refl k⟩

theorem trans (h : BringKept P k j) (g : BringKept P j l) : BringKept P k l :=
  ⟨g.bring.trans h.bring, g.lup.trans h.lup, g.straps.trans h.straps, g.flash.trans h.flash, h.cells.trans g.cells⟩

theorem setF (k : Pkg) {f : Fld} (v : Nat) (hf : ¬ P f.off) : BringKept P k (k.setF f v) := ⟨rfl, rfl, rfl, rfl, CellsKept.setF k v hf⟩

theorem thenF (h : BringKept P k j) {f : Fld} (v : Nat) (hf : ¬ P f.off) : BringKept P k (j.setF f v) := h.trans (setF j v hf)

theorem ite {c : Prop} [Decidable c] (h : BringKept P k j) (g : BringKept P k l) : BringKept P k (if c then j else l) := by
  split <;> assumption

theorem foldl {α : Type} (xs : List α) {op : Pkg → α → Pkg} (h : ∀ k, ∀ x ∈ xs, BringKept P k (op k x)) (k : Pkg) :
    BringKept P k (xs.foldl op k) :=
  List.foldlRecOn xs op (refl k) (fun b hb x hx => hb.trans (h b x hx))

theorem ofErr (h : ErrOnly k j) (hP : ∀ o, P o → o < 0x3000000) : BringKept P k j := by
  have hcells : CellsKept P k j := fun o ho => h.cells o (.inl (hP o ho))
  obtain ⟨⟨r, n, rfl⟩, -⟩ := h
  exact ⟨rfl, rfl, rfl, rfl, hcells⟩

theorem ofFab (h : FabOnly k j) (hP : ∀ o, P o → o < 0x200800 ∨ 0x300000 ≤ o) : BringKept P k j := by
  have hcells := h.cellsKept hP
  obtain ⟨⟨r, f, w, rfl⟩, -⟩ := h
  exact ⟨rfl, rfl, rfl, rfl, hcells⟩

theorem setLport (k : Pkg) (n : Nat) (l : LinkPort) : BringKept P k (k.setLport n l) := ⟨rfl, rfl, rfl, rfl, CellsKept.ofRegs rfl⟩

end BringKept

/-- Of the cells of `P`, a fold leaves what the one turn that may write them leaves. -/
theorem CellsKept.foldl_turn {P : Nat → Prop} {α : Type} {op : Pkg → α → Pkg} {x : α} {l : List α}
    (hother : ∀ j, ∀ y ∈ l, y ≠ x → CellsKept P j (op j y)) (nodup : l.Nodup) (hx : x ∈ l) (k : Pkg) :
    ∃ j, CellsKept P k j ∧ CellsKept P (op j x) (l.foldl op k) :=
  foldl_ownTurn (A := CellsKept P k) (B := fun b => ∃ j, CellsKept P k j ∧ CellsKept P (op j x) b)
    (fun b hb => ⟨b, hb, CellsKept.refl _⟩) (fun b y hy ne hb => hb.trans (hother b y hy ne))
    (fun b y hy ne ⟨j, hj, hb⟩ => ⟨j, hj, hb.trans (hother b y hy ne)⟩) nodup hx (CellsKept.refl k)

theorem Fld.apart_of_off {f g : Fld} (h : f.off ≠ g.off) : f.apart g = true := by
  simp [Fld.apart, h]

/-! ### Entering a phase, and the status of a failing step -/

@[simp] theorem Pkg.enterPhase_bring (k : Pkg) (n : Nat) :
    (k.enterPhase n).bring = { k.bring with phaseAt := k.now, step := n } := by
  unfold Pkg.enterPhase
  dsimp only
  split <;> rfl

@[simp] theorem Pkg.enterPhase_boot (k : Pkg) (n : Nat) : (k.enterPhase n).boot = k.boot := by
  unfold Pkg.enterPhase
  dsimp only
  split <;> rfl

@[simp] theorem Pkg.enterPhase_hbm (k : Pkg) (n : Nat) : (k.enterPhase n).hbm = k.hbm ∧ (k.enterPhase n).hbmBad = k.hbmBad := by
  unfold Pkg.enterPhase
  dsimp only
  split <;> exact ⟨rfl, rfl⟩

@[simp] theorem Pkg.enterPhase_cores (k : Pkg) (n : Nat) : (k.enterPhase n).cores = k.cores := by
  unfold Pkg.enterPhase
  dsimp only
  split <;> rfl

@[simp] theorem Pkg.updBring_bring (k : Pkg) (f : BringUp → BringUp) : (k.updBring f).bring = f k.bring := rfl
@[simp] theorem Pkg.updBring_hbm (k : Pkg) (f : BringUp → BringUp) : (k.updBring f).hbm = k.hbm := rfl
@[simp] theorem Pkg.updBring_hbmBad (k : Pkg) (f : BringUp → BringUp) : (k.updBring f).hbmBad = k.hbmBad := rfl
@[simp] theorem Pkg.getF_updBring (k : Pkg) (f : BringUp → BringUp) (g : Fld) : (k.updBring f).getF g = k.getF g := rfl

/-- Entering a phase shows the phase and its mark. -/
theorem Pkg.getF_enterPhase (k : Pkg) {n : Nat} {f : Fld} (hphase : F.GLB_BU_PHASE.apart f = true)
    (hmark : (F.GLB_BU_MARK n).apart f = true) : (k.enterPhase n).getF f = k.getF f := by
  unfold Pkg.enterPhase
  refine (Pkg.getF_setF_apart _ _ _ _ hmark).trans ?_
  split
  · rfl
  · exact Pkg.getF_setF_apart _ _ _ _ hphase

theorem Pkg.enterPhase_kept {P : Nat → Prop} (k : Pkg) {n : Nat} (hn : n ≤ 8) (hP : ∀ o, P o → 0x40 < o) :
    CellsKept P k (k.enterPhase n) := by
  have hmark : (F.GLB_BU_MARK n).off ≤ 0x40 := by simp only [F.GLB_BU_MARK]; omega
  unfold Pkg.enterPhase
  refine CellsKept.trans (CellsKept.thenF (CellsKept.ite (CellsKept.refl k) (CellsKept.setF k n ?_)) _ ?_) (CellsKept.ofRegs rfl)
  · exact fun h => absurd (hP _ h) (by decide)
  · exact fun h => absurd (hP _ h) (by omega)

theorem Pkg.getF_logError (k : Pkg) (st : Status) (u : UnitKind) (i x : Nat) {f : Fld} (hf : f.off < 0x3000000) :
    (k.logError st u i x).getF f = k.getF f :=
  (Pkg.logError_frame k st u i x).getF f (.inl hf)

/-- R974: recording a failing step writes `GLB_BU_STATUS` and the error log. -/
theorem Pkg.getF_buStatus (k : Pkg) (st : Status) (u : UnitKind) (i : Nat) {f : Fld} (hstatus : F.GLB_BU_STATUS.apart f = true)
    (hf : f.off < 0x3000000) : (k.buStatus st u i).getF f = k.getF f := by
  unfold Pkg.buStatus
  rw [Pkg.getF_logError _ _ _ _ _ hf]
  split
  · exact Pkg.getF_setF_apart _ _ _ _ hstatus
  · rfl

/-- The register cells of the bring-up and of the error log are written as a bring-up goes on; those of `P` are not among them. -/
abbrev apartFromBringUp (P : Nat → Prop) : Prop := ∀ o, P o → 0x40 < o ∧ o < 0x3000000

theorem Pkg.buStatus_kept {P : Nat → Prop} (k : Pkg) (st : Status) (u : UnitKind) (i : Nat) (hP : apartFromBringUp P) :
    BringKept P k (k.buStatus st u i) := by
  unfold Pkg.buStatus
  refine BringKept.trans (BringKept.ite (BringKept.setF k st ?_) (BringKept.refl k))
    (BringKept.ofErr (Pkg.logError_frame _ _ _ _ _) (fun o ho => (hP o ho).2))
  exact fun h => absurd (hP _ h).1 (by decide)

/-! ### BOOT (R684, R941, R942) -/

/-- The boot set of a slot runs: the runtime does, LINEUP begins, and the package is as alive as before. -/
theorem Pkg.runBootSet_runs (k : Pkg) (slot : Nat) :
    (k.runBootSet slot).bring.runtime = true ∧ (k.runBootSet slot).bring.step = 2 ∧ (k.runBootSet slot).getF F.LUP_ST = 1 ∧
    (k.runBootSet slot).boot.dead = k.boot.dead := by
  unfold Pkg.runBootSet
  dsimp only
  rw [Pkg.getF_enterPhase _ (by decide) (by decide), Pkg.getF_setF_same _ _ _ rfl, Pkg.enterPhase_bring, Pkg.enterPhase_boot]
  split <;> exact ⟨rfl, rfl, rfl, rfl⟩

theorem Pkg.bootDead_dead (k : Pkg) (st : Status) : (k.bootDead st).boot.dead = true := by
  unfold Pkg.bootDead
  rw [Pkg.enterPhase_boot]

/-- R684, R941: with no boot control record in use, the first of the two boot sets that passes runs, or the package is dead. -/
theorem Pkg.bootVerified_outcome (k : Pkg) (hstep : k.bring.step = 1) (hreleased : k.bring.released.isSome = true)
    (hrecord : k.bootRecord = none) :
    (k.bootSet 0 = 0 ∨ k.bootSet 1 = 0 → k.bootVerified.bring.runtime = true ∧ k.bootVerified.bring.step = 2 ∧
      k.bootVerified.getF F.LUP_ST = 1 ∧ k.bootVerified.boot.dead = k.boot.dead) ∧
    (¬ (k.bootSet 0 = 0 ∨ k.bootSet 1 = 0) → k.bootVerified.boot.dead = true) := by
  have hnone : k.bring.released.isNone = false := by simpa [Option.isSome_iff_ne_none] using hreleased
  unfold Pkg.bootVerified
  simp only [hstep, hnone, hrecord, ne_eq, not_true_eq_false, Bool.false_eq_true, or_self, if_false]
  by_cases h0 : k.bootSet 0 = 0
  · simp only [h0, true_or, if_true, not_true_eq_false, forall_const, false_implies, and_true]
    exact Pkg.runBootSet_runs _ 0
  · by_cases h1 : k.bootSet 1 = 0
    · simp only [h0, h1, or_true, if_true, if_false, not_true_eq_false, forall_const, false_implies, and_true]
      exact Pkg.runBootSet_runs _ 1
    · simp only [h0, h1, or_self, if_false, not_false_eq_true, forall_const, false_implies, true_and]
      exact Pkg.bootDead_dead _ _

theorem Pkg.nextRail_boot (k : Pkg) (n : Nat) : (k.nextRail n).boot = k.boot := by
  induction n with
  | zero => unfold Pkg.nextRail; split <;> rfl
  | succ n ih =>
    unfold Pkg.nextRail
    split
    · exact ih
    · rfl

theorem Pkg.resetNow_dead (k : Pkg) : k.resetNow.boot.dead = k.boot.dead := by
  unfold Pkg.resetNow
  split <;> rfl

/-- A power-down does not bring a dead package back. -/
theorem Pkg.safetyDown_dead (k : Pkg) : k.safetyDown.boot.dead = k.boot.dead := by
  show k.powerDown.boot.dead = k.boot.dead
  unfold Pkg.powerDown
  split
  · rfl
  · dsimp only
    rw [Pkg.nextRail_boot]
    split
    · exact Pkg.resetNow_dead k
    · rfl

theorem State.tray_updTray_same (s : State) {n : Nat} (hn : n < 24) (f : Tray → Tray) : (s.updTray n f).tray n = f (s.tray n) := by
  simp [State.tray, State.updTray, List.getD, hn]

theorem State.pkg_updTray (s : State) (n : Nat) (f : Tray → Tray) (p : PkgId) : (s.updTray n f).pkg p = s.pkg p := rfl

theorem State.tray_post (s : State) (n : String) (v : Severity) (a m : Nat) : (s.post n v a).tray m = s.tray m := rfl

theorem trayOf_lt (p : PkgId) : trayOf p < 24 := by
  unfold trayOf; omega

/-- What a change of package `n` keeps of every package holds of each package afterwards. -/
theorem State.updNat_pkg {α : Type} {f : Pkg → Pkg} {v : Pkg → α} (hf : ∀ k, v (f k) = v k) (s : State) (n : Nat) (p : PkgId) :
    v ((s.updNat n f).pkg p) = v (s.pkg p) := by
  unfold State.updNat
  split
  · next h =>
    by_cases hp : p = ⟨n, h⟩
    · rw [hp, State.pkg_updPkg_same, hf]
    · rw [State.pkg_updPkg_other _ _ hp]
  · rfl

theorem State.foldl_updNat_pkg {α : Type} {f : Pkg → Pkg} {v : Pkg → α} (hf : ∀ k, v (f k) = v k) (l : List Nat) (s : State) (p : PkgId) :
    v ((l.foldl (fun s q => s.updNat q f) s).pkg p) = v (s.pkg p) := by
  induction l generalizing s with
  | nil => rfl
  | cons q l ih => exact (ih _).trans (State.updNat_pkg hf s q p)

/-- R942: the tray of a dead hub is held, and its packages are as dead as before. -/
theorem State.hubDead_holds (s : State) (p : PkgId) (t : Nat) :
    ((s.hubDead p t).tray (trayOf p)).held = true ∧ ((s.hubDead p t).pkg p).boot.dead = (s.pkg p).boot.dead := by
  unfold State.hubDead
  rw [State.tray_post, State.tray_updTray_same _ (trayOf_lt p), State.pkg_post, State.pkg_updTray]
  exact ⟨rfl, State.foldl_updNat_pkg (f := fun k => (k.at t).safetyDown) (v := fun k => k.boot.dead)
    (fun k => Pkg.safetyDown_dead (k.at t)) _ s p⟩

theorem exec_bootSetVerified (p : PkgId) (t : Nat) (s : State) :
    exec (.bootSetVerified p t) s =
      .next (if !(s.pkg p).boot.dead && ((s.updPkg p (fun k => (k.at t).bootVerified)).pkg p).boot.dead
        then (s.updPkg p (fun k => (k.at t).bootVerified)).hubDead p t else s.updPkg p (fun k => (k.at t).bootVerified)) := rfl

/-! ### HBM (R690–R693) -/

/-- The register block of HBM stack `i`. -/
abbrev hbmOf (i o : Nat) : Prop := o = 0x800000 + 0x100 * i

/-- A stack that fails shows it; the rest of its failure concerns the bring-up's registers and the error log. -/
theorem Pkg.failStack_shown {P : Nat → Prop} (k : Pkg) (i : Nat) (hP : apartFromBringUp P) :
    BringKept P (k.setF (F.HBM_STATE i) 3) (k.failStack i) := by
  unfold Pkg.failStack
  refine (Pkg.buStatus_kept _ _ _ _ hP).thenF 1 ?_
  exact fun h => absurd (hP _ h).1 (by decide)

theorem Pkg.failStack_kept {P : Nat → Prop} (k : Pkg) (i : Nat) (hP : apartFromBringUp P) (hi : ¬ P (F.HBM_STATE i).off) :
    BringKept P k (k.failStack i) := (BringKept.setF k 3 hi).trans (k.failStack_shown i hP)

theorem hbmOf_apart {i : Nat} (hi : i < 8) : apartFromBringUp (hbmOf i) := by
  intro o ho; omega

theorem hbmOf_state (i : Nat) : hbmOf i (F.HBM_STATE i).off := rfl

theorem hbmOf_repairs (i : Nat) : hbmOf i (F.HBM_REPAIRS i).off := rfl

theorem Pkg.failStack_own (k : Pkg) {i : Nat} (hi : i < 8) :
    (k.failStack i).getF (F.HBM_STATE i) = 3 ∧ (k.failStack i).getF (F.HBM_REPAIRS i) = k.getF (F.HBM_REPAIRS i) := by
  have hshown := (k.failStack_shown i (hbmOf_apart hi)).cells
  rw [hshown.getF (hbmOf_state i), hshown.getF (hbmOf_repairs i)]
  exact ⟨Pkg.getF_setF_same _ _ _ rfl, Pkg.getF_setF_apart _ _ _ _ (by simp [Fld.apart, F.HBM_STATE, F.HBM_REPAIRS])⟩

/-- Of a stack's block, a loop over the stacks leaves what the stack's own turn leaves. -/
theorem Pkg.forEach_hbm {op : Pkg → Nat → Pkg} {i : Nat} (hi : i < 8) (hother : ∀ j y, y ≠ i → CellsKept (hbmOf i) j (op j y)) (k : Pkg) :
    ∃ j, CellsKept (hbmOf i) k j ∧ CellsKept (hbmOf i) (op j i) (k.forEach 8 op) :=
  CellsKept.foldl_turn (fun j y _ hy => hother j y hy) List.nodup_range (List.mem_range.mpr hi) k

/-- MEMORY_PORTS ends, or everything stays. -/
theorem Pkg.endMemoryPorts_bring (k : Pkg) :
    k.endMemoryPorts.bring.hbmTrained = k.bring.hbmTrained ∧ k.endMemoryPorts.bring.portsAt = k.bring.portsAt ∧
    k.endMemoryPorts.bring.step = if k.bring.step = 3 ∧ k.hbmSettled ∧ k.bring.portsAt.isSome = true then 4 else k.bring.step := by
  unfold Pkg.endMemoryPorts
  split <;> simp

theorem Pkg.endMemoryPorts_hbm (k : Pkg) : k.endMemoryPorts.hbm = k.hbm ∧ k.endMemoryPorts.hbmBad = k.hbmBad := by
  unfold Pkg.endMemoryPorts
  split <;> simp

theorem Pkg.getF_endMemoryPorts (k : Pkg) {f : Fld} (hphase : F.GLB_BU_PHASE.apart f = true) (hmark : (F.GLB_BU_MARK 4).apart f = true) :
    k.endMemoryPorts.getF f = k.getF f := by
  unfold Pkg.endMemoryPorts
  split
  · exact Pkg.getF_enterPhase k hphase hmark
  · rfl

theorem Pkg.endMemoryPorts_kept {P : Nat → Prop} (k : Pkg) (hP : apartFromBringUp P) : CellsKept P k k.endMemoryPorts := by
  unfold Pkg.endMemoryPorts
  refine CellsKept.ite (CellsKept.trans (Pkg.enterPhase_kept k (n := 4) (by decide) (fun o ho => (hP o ho).1)) ?_) (CellsKept.refl k)
  exact CellsKept.ofRegs rfl

/-- A stack's turn of the end of training. -/
def Pkg.trainStack (failed : Nat) (k : Pkg) (i : Nat) : Pkg := if bit failed i then k.failStack i else k

theorem Pkg.trainStack_kept {P : Nat → Prop} (failed : Nat) (k : Pkg) (i : Nat) (hP : apartFromBringUp P) (hi : ¬ P (F.HBM_STATE i).off) :
    BringKept P k (k.trainStack failed i) :=
  BringKept.ite (k.failStack_kept i hP hi) (BringKept.refl k)

/-- R690, R693: after training the stacks that did not train have failed, and the others are as they were. -/
theorem Pkg.trainStacks_state (k : Pkg) (failed : Nat) {i : Nat} (hi : i < 8) :
    (k.forEach 8 (Pkg.trainStack failed)).getF (F.HBM_STATE i) = if bit failed i then 3 else k.getF (F.HBM_STATE i) := by
  obtain ⟨j, hbefore, hafter⟩ := Pkg.forEach_hbm hi (op := Pkg.trainStack failed)
    (fun j y hy => (j.trainStack_kept failed y (hbmOf_apart hi) (by simp only [F.HBM_STATE]; omega)).cells) k
  rw [hafter.getF (hbmOf_state i)]
  unfold Pkg.trainStack
  split
  · exact (j.failStack_own hi).1
  · exact hbefore.getF (hbmOf_state i)

/-- A stack's turn of the end of zeroing: trained stacks are ready, or have failed the test. -/
def Pkg.zeroStack (failed : Nat) (k : Pkg) (i : Nat) : Pkg :=
  if k.getF (F.HBM_STATE i) ≠ 1 then k else if bit failed i then k.failStack i else k.setF (F.HBM_STATE i) 2

theorem Pkg.zeroStack_kept {P : Nat → Prop} (failed : Nat) (k : Pkg) (i : Nat) (hP : apartFromBringUp P) (hi : ¬ P (F.HBM_STATE i).off) :
    BringKept P k (k.zeroStack failed i) :=
  BringKept.ite (BringKept.refl k) (BringKept.ite (k.failStack_kept i hP hi) (BringKept.setF k 2 hi))

/-- R693: a trained stack's turn leaves it ready or failed, with its repairs as they were. -/
theorem Pkg.zeroStack_own (k : Pkg) (failed : Nat) {i : Nat} (hi : i < 8) (htrained : k.getF (F.HBM_STATE i) = 1) :
    (k.zeroStack failed i).getF (F.HBM_STATE i) = (if bit failed i then 3 else 2) ∧
    (k.zeroStack failed i).getF (F.HBM_REPAIRS i) = k.getF (F.HBM_REPAIRS i) := by
  unfold Pkg.zeroStack
  rw [if_neg (not_not.mpr htrained)]
  split
  · exact k.failStack_own hi
  · exact ⟨Pkg.getF_setF_same _ _ _ rfl, Pkg.getF_setF_apart _ _ _ _ (by simp [Fld.apart, F.HBM_STATE, F.HBM_REPAIRS])⟩

theorem Pkg.hbmZeroed_eq (k : Pkg) (failed : Nat) :
    k.hbmZeroed failed = ({ k.forEach 8 (Pkg.zeroStack failed) with hbm := [], hbmBad := [], hbmCe := [] } : Pkg).endMemoryPorts := rfl

/-- R691–R693: HBM reads zero, and the trained stacks are ready or failed. -/
theorem Pkg.hbmZeroed_zeroes (k : Pkg) (failed : Nat) : (k.hbmZeroed failed).hbm = [] ∧ (k.hbmZeroed failed).hbmBad = [] := by
  rw [Pkg.hbmZeroed_eq]
  exact Pkg.endMemoryPorts_hbm _

theorem Pkg.hbmZeroed_stack (k : Pkg) (failed : Nat) {i : Nat} (hi : i < 8) (htrained : k.getF (F.HBM_STATE i) = 1) :
    (k.hbmZeroed failed).getF (F.HBM_STATE i) = (if bit failed i then 3 else 2) ∧
    (k.hbmZeroed failed).getF (F.HBM_REPAIRS i) = k.getF (F.HBM_REPAIRS i) := by
  obtain ⟨j, hbefore, hafter⟩ := Pkg.forEach_hbm hi (op := Pkg.zeroStack failed)
    (fun j y hy => (j.zeroStack_kept failed y (hbmOf_apart hi) (by simp only [F.HBM_STATE]; omega)).cells) k
  obtain ⟨hstate, hrepairs⟩ := j.zeroStack_own failed hi ((hbefore.getF (hbmOf_state i)).trans htrained)
  have hend : CellsKept (hbmOf i) (k.forEach 8 (Pkg.zeroStack failed)) (k.hbmZeroed failed) := by
    rw [Pkg.hbmZeroed_eq]
    exact CellsKept.trans (CellsKept.ofRegs rfl) (Pkg.endMemoryPorts_kept _ (hbmOf_apart hi))
  have hdone := hafter.trans hend
  exact ⟨(hdone.getF (hbmOf_state i)).trans hstate,
    (hdone.getF (hbmOf_repairs i)).trans (hrepairs.trans (hbefore.getF (hbmOf_repairs i)))⟩

/-- A stack's turn of counting its repaired rows. -/
def Pkg.countRepairs (repairs : List Nat) (k : Pkg) (i : Nat) : Pkg :=
  if k.getF (F.HBM_STATE i) = 1 then k.addSat (F.HBM_REPAIRS i) (repairs.getD i 0) else k

/-- R691: the repaired rows of a trained stack are counted, and it is still to be zeroed. -/
theorem Pkg.countRepairs_own (k : Pkg) (repairs : List Nat) {i : Nat} (hi : i < 8) (htrained : k.getF (F.HBM_STATE i) = 1) :
    (k.forEach 8 (Pkg.countRepairs repairs)).getF (F.HBM_STATE i) = 1 ∧
    (k.forEach 8 (Pkg.countRepairs repairs)).getF (F.HBM_REPAIRS i) = min 255 (k.getF (F.HBM_REPAIRS i) + repairs.getD i 0) := by
  obtain ⟨j, hbefore, hafter⟩ := Pkg.forEach_hbm hi (op := Pkg.countRepairs repairs)
    (fun j y hy => CellsKept.ite (CellsKept.setF j _ (by simp only [F.HBM_REPAIRS]; omega)) (CellsKept.refl j)) k
  have htrained' : j.getF (F.HBM_STATE i) = 1 := (hbefore.getF (hbmOf_state i)).trans htrained
  rw [hafter.getF (hbmOf_state i), hafter.getF (hbmOf_repairs i), ← hbefore.getF (hbmOf_repairs i)]
  unfold Pkg.countRepairs Pkg.addSat
  rw [if_pos htrained']
  refine ⟨(Pkg.getF_setF_apart _ _ _ _ (by simp [Fld.apart, F.HBM_STATE, F.HBM_REPAIRS])).trans htrained', ?_⟩
  refine (Pkg.getF_setF_same _ _ _ rfl).trans (Nat.mod_eq_of_lt ?_)
  exact lt_of_le_of_lt (Nat.min_le_left _ _) (by norm_num [F.HBM_REPAIRS])

/-! ### The port phase (R694, R695) -/

/-- A port's turn of the end of the port phase: one still in DETECT or EQUALIZE joins the map at an epoch boundary. -/
def Pkg.deferPort (k : Pkg) (n : Nat) : Pkg :=
  if k.linkSt n = 1 ∨ k.linkSt n = 2 then k.setLport n { k.lport n with restoreAtEpoch := true } else k

theorem Pkg.deferPorts_kept {P : Nat → Prop} (k : Pkg) : BringKept P k (k.forEach 20 Pkg.deferPort) :=
  BringKept.foldl _ (fun j n _ => BringKept.ite (BringKept.setLport j n _) (BringKept.refl j)) k

theorem Pkg.hbmSettled_of_kept {k j : Pkg} (h : CellsKept (fun o => 0x800000 ≤ o ∧ o < 0x801000) k j) : j.hbmSettled = k.hbmSettled := by
  have hstate : ∀ i < 8, j.getF (F.HBM_STATE i) = k.getF (F.HBM_STATE i) := fun i hi => h.getF (by simp only [F.HBM_STATE]; omega)
  unfold Pkg.hbmSettled
  rw [Bool.eq_iff_iff]
  simp +contextual [hstate]

/-- R695: no braid port is up. -/
def Pkg.holdBraid (k : Pkg) : Pkg := if k.braidUp then k else (k.buStatus 0x7C04 .package 0).raise F.GLB_HOLD_BRAID

theorem Pkg.holdBraid_kept {P : Nat → Prop} (k : Pkg) (hP : apartFromBringUp P) : BringKept P k k.holdBraid := by
  refine BringKept.ite (BringKept.refl k) ((Pkg.buStatus_kept k _ _ _ hP).thenF 1 ?_)
  exact fun h => absurd (hP _ h).1 (by decide)

theorem Pkg.braidUp_of_kept {k j : Pkg} (h : CellsKept linkRegs k j) : j.braidUp = k.braidUp := by
  have hstate : ∀ n < 16, j.getF (F.LNK_ST n) = k.getF (F.LNK_ST n) := fun n hn => h.getF (by simp only [F.LNK_ST]; omega)
  unfold Pkg.braidUp
  rw [Bool.eq_iff_iff]
  simp only [List.any_eq_true, List.mem_range, beq_iff_eq]
  exact exists_congr fun n => and_congr_right fun hn => by rw [hstate n hn]

/-- The port phase ends. -/
def Pkg.endPortPhase (k : Pkg) : Pkg :=
  ((k.updBring (fun b => { b with portsAt := some k.now })).forEach 20 Pkg.deferPort).holdBraid.endMemoryPorts

/-- R694, R695: the port phase has ended now, and with HBM settled MEMORY_PORTS has; without a braid port up the cause is BRAID. -/
theorem Pkg.endPortPhase_ends (k : Pkg) (hstep : k.bring.step = 3) :
    k.endPortPhase.bring.portsAt = some k.now ∧ k.endPortPhase.bring.step = (if k.hbmSettled then 4 else 3) ∧
    (k.braidUp = false → k.endPortPhase.getF F.GLB_HOLD_BRAID = 1) := by
  have hdefer : ∀ {P}, BringKept P (k.updBring (fun b => { b with portsAt := some k.now }))
      ((k.updBring (fun b => { b with portsAt := some k.now })).forEach 20 Pkg.deferPort) := Pkg.deferPorts_kept _
  unfold Pkg.endPortPhase
  generalize (k.updBring _).forEach 20 Pkg.deferPort = j at hdefer ⊢
  have hkept : BringKept (fun o => 0x800000 ≤ o ∧ o < 0x801000) (k.updBring (fun b => { b with portsAt := some k.now })) j.holdBraid :=
    hdefer.trans (j.holdBraid_kept (fun o ho => by omega))
  have hsettled : j.holdBraid.hbmSettled = k.hbmSettled := Pkg.hbmSettled_of_kept hkept.cells
  obtain ⟨-, hports, hend⟩ := j.holdBraid.endMemoryPorts_bring
  refine ⟨?_, ?_, fun hdown => ?_⟩
  · rw [hports, hkept.bring]; rfl
  · rw [hend, hkept.bring, hsettled]
    simp [hstep]
  · have hdown' : j.braidUp = false := (Pkg.braidUp_of_kept hdefer.cells).trans hdown
    rw [Pkg.getF_endMemoryPorts _ (by decide) (by decide)]
    unfold Pkg.holdBraid
    simp only [hdown', Bool.false_eq_true, if_false]
    exact Pkg.getF_setF_same _ _ _ rfl

/-! ### GO and the waves (R697–R702) -/

/-- R699: from CORES_PENDING the waves start, with none begun. -/
theorem Pkg.startWaves_starts (k : Pkg) (hstep : k.bring.step = 4) :
    k.startWaves.bring.step = 5 ∧ k.startWaves.bring.goAt = some k.now ∧ k.startWaves.bring.waves = 0 := by
  unfold Pkg.startWaves
  simp [hstep]

/-- R701: in any other phase nothing starts. -/
theorem Pkg.startWaves_ignored (k : Pkg) (hstep : k.bring.step ≠ 4) : k.startWaves = k := if_neg hstep

/-- The state and self-test registers of core `c`. -/
abbrev coreRegs (c o : Nat) : Prop := o = 0x1000008 + 0x40000 * c ∨ o = 0x1000018 + 0x40000 * c

theorem coreRegs_state (c : Nat) : coreRegs c (F.CORE_STATE c).off := .inl rfl

theorem coreRegs_result (c : Nat) : coreRegs c (F.CORE_BIST_RESULT c).off := .inr rfl

theorem coreRegs_fail (c : Nat) : coreRegs c (F.CORE_BIST_FAIL c).off := .inr rfl

theorem coreRegs_runs (c : Nat) : coreRegs c (F.CORE_BIST_RUNS c).off := .inr rfl

theorem coreRegs_bank (c : Nat) : coreRegs c (F.CORE_BIST_BANK c).off := .inr rfl

theorem coreRegs_other {c y : Nat} (h : y ≠ c) : ∀ o, coreRegs c o → ¬ coreRegs y o := by
  intro o ho; omega

/-- Whether a wave skips a core is read from the record in flash and from `GLB_BU_COLD`. -/
theorem Pkg.skipped_of_kept {k j : Pkg} (h : BringKept (· = 0x10) k j) (c : Nat) : j.skipped c = k.skipped c := by
  have hcold : j.flag F.GLB_BU_COLD = k.flag F.GLB_BU_COLD := by
    unfold Pkg.flag
    rw [h.cells.getF (f := F.GLB_BU_COLD) rfl]
  have hread : ∀ a n, j.flashRead a n = k.flashRead a n := fun a n => by
    unfold Pkg.flashRead
    rw [h.flash]
  unfold Pkg.skipped Pkg.mapRecord
  rw [hread, hread, hcold]

/-- A core's turn of its wave. -/
def Pkg.powerCore (k : Pkg) (c : Nat) : Pkg := if k.skipped c then k.setF (F.CORE_STATE c) 5 else k.startTest c

theorem Pkg.powerCore_kept {P : Nat → Prop} (k : Pkg) (c : Nat) (hP : ∀ o, P o → ¬ coreRegs c o) : BringKept P k (k.powerCore c) := by
  have hstate : ∀ v, BringKept P k (k.setF (F.CORE_STATE c) v) := fun v => BringKept.setF k v (fun h => hP _ h (coreRegs_state c))
  unfold Pkg.powerCore Pkg.startTest Pkg.inc Pkg.addSat
  refine BringKept.ite (hstate 5) (((hstate 1).thenF 3 ?_).thenF _ ?_)
  · exact fun h => hP _ h (coreRegs_result c)
  · exact fun h => hP _ h (coreRegs_runs c)

/-- From `k` to `j`, core `c` was powered and tests itself, or was skipped. -/
def Pkg.corePowered (k j : Pkg) (c : Nat) : Prop :=
  (k.skipped c = true → j.getF (F.CORE_STATE c) = 5) ∧
  (k.skipped c = false → j.getF (F.CORE_STATE c) = 1 ∧ j.getF (F.CORE_BIST_RESULT c) = 3)

theorem Pkg.corePowered_of_kept {k j j' : Pkg} {c : Nat} (hj : CellsKept (coreRegs c) j j') (h : k.corePowered j c) : k.corePowered j' c := by
  unfold Pkg.corePowered
  rw [hj.getF (coreRegs_state c), hj.getF (coreRegs_result c)]
  exact h

theorem Pkg.powerCore_own (k : Pkg) (c : Nat) : k.corePowered (k.powerCore c) c := by
  unfold Pkg.corePowered Pkg.powerCore Pkg.startTest Pkg.inc Pkg.addSat
  refine ⟨fun h => ?_, fun h => ⟨?_, ?_⟩⟩
  · rw [if_pos h]
    exact Pkg.getF_setF_same _ _ _ rfl
  all_goals simp only [h, Bool.false_eq_true, if_false]
  · rw [Pkg.getF_setF_apart _ _ _ _ (by simp [Fld.apart, F.CORE_BIST_RUNS, F.CORE_STATE]),
      Pkg.getF_setF_apart _ _ _ _ (by simp [Fld.apart, F.CORE_BIST_RESULT, F.CORE_STATE])]
    exact Pkg.getF_setF_same _ _ _ rfl
  · rw [Pkg.getF_setF_apart _ _ _ _ (by simp [Fld.apart, F.CORE_BIST_RUNS, F.CORE_BIST_RESULT])]
    exact Pkg.getF_setF_same _ _ _ rfl

theorem waveCores_nodup : ∀ w < 8, (waveCores w).Nodup := by decide

/-- R697, R698: a wave powers its cores, but the skipped ones. -/
theorem Pkg.powerCores_power (k : Pkg) {w c : Nat} (hw : w < 8) (hc : c ∈ waveCores w) :
    k.corePowered ((waveCores w).foldl Pkg.powerCore k) c := by
  refine foldl_ownTurn (A := BringKept (· = 0x10) k) (B := fun j => k.corePowered j c) (fun j hj => ?_)
    (fun j y _ _ hj => hj.trans (j.powerCore_kept y (fun o ho => by omega)))
    (fun j y _ hy hj => Pkg.corePowered_of_kept (j.powerCore_kept y (coreRegs_other hy)).cells hj)
    (waveCores_nodup w hw) hc (BringKept.refl k)
  have h := j.powerCore_own c
  unfold Pkg.corePowered at h ⊢
  rwa [Pkg.skipped_of_kept hj] at h

/-- Counting the waves whose self-tests have ended writes the bring-up's registers. -/
theorem Pkg.countWaves_kept {P : Nat → Prop} (k : Pkg) (hP : ∀ o, P o → 0x40 < o) : CellsKept P k k.countWaves := by
  unfold Pkg.countWaves
  refine CellsKept.thenIf (CellsKept.setF k _ ?_) (Pkg.enterPhase_kept _ (n := 6) (by decide) hP)
  exact fun h => absurd (hP _ h) (by decide)

theorem Pkg.countWaves_waves (k : Pkg) : k.countWaves.bring.waves = k.bring.waves := by
  unfold Pkg.countWaves
  dsimp only
  split <;> simp

theorem Pkg.countWaves_cores (k : Pkg) : k.countWaves.cores = k.cores := by
  unfold Pkg.countWaves
  dsimp only
  split <;> simp

/-- R698: a wave starts: its cores are powered, and it is counted. -/
def Pkg.startWave (k : Pkg) : Pkg :=
  (((waveCores k.bring.waves).foldl Pkg.powerCore k).updBring (fun b => { b with waves := k.bring.waves + 1 })).countWaves

theorem Pkg.startWave_powers (k : Pkg) (hmore : k.bring.waves < 8) :
    k.startWave.bring.waves = k.bring.waves + 1 ∧ ∀ c ∈ waveCores k.bring.waves, k.corePowered k.startWave c := by
  unfold Pkg.startWave
  refine ⟨(Pkg.countWaves_waves _).trans rfl, fun c hc => ?_⟩
  have hcounted : ∀ j : Pkg, CellsKept (coreRegs c) j (j.updBring (fun b => { b with waves := k.bring.waves + 1 })).countWaves :=
    fun j => CellsKept.trans (CellsKept.ofRegs rfl) (Pkg.countWaves_kept _ (fun o ho => by omega))
  exact Pkg.corePowered_of_kept (hcounted _) (Pkg.powerCores_power k hmore hc)

/-! ### Self-tests (R134, R135, R702) -/

@[simp] theorem Pkg.getF_setCore (k : Pkg) (c : Nat) (x : Core) (f : Fld) : (k.setCore c x).getF f = k.getF f := rfl

theorem Pkg.setCore_kept {P : Nat → Prop} (k : Pkg) (c : Nat) (x : Core) : CellsKept P k (k.setCore c x) := CellsKept.ofRegs rfl

theorem Pkg.core_setCore_same (k : Pkg) {c : Nat} (hc : c < 64) (x : Core) : (k.setCore c x).core c = x := by
  simp [Pkg.core, Pkg.setCore, List.getD, hc]

/-- The results of a self-test are shown, and the core starts afresh. -/
def Pkg.showBist (k : Pkg) (core : Nat) (pass : Bool) (units bank : Nat) : Pkg :=
  (((k.setF (F.CORE_BIST_RESULT core) (if pass then 1 else 2)).setF (F.CORE_BIST_FAIL core) (if pass then 0 else units)).setF
    (F.CORE_BIST_BANK core) (if !pass && bit units 3 then bank else 0)).setCore core {}

theorem Pkg.showBist_result (k : Pkg) (core : Nat) (pass : Bool) (units bank : Nat) :
    (k.showBist core pass units bank).getF (F.CORE_BIST_RESULT core) = (if pass then 1 else 2) := by
  unfold Pkg.showBist
  rw [Pkg.getF_setCore, Pkg.getF_setF_apart _ _ _ _ (by simp [Fld.apart, F.CORE_BIST_BANK, F.CORE_BIST_RESULT]),
    Pkg.getF_setF_apart _ _ _ _ (by simp [Fld.apart, F.CORE_BIST_FAIL, F.CORE_BIST_RESULT]), Pkg.getF_setF_same _ _ _ rfl]
  cases pass <;> rfl

theorem Pkg.showBist_fail (k : Pkg) (core units bank : Nat) :
    (k.showBist core false units bank).getF (F.CORE_BIST_FAIL core) = units % 2 ^ 6 := by
  unfold Pkg.showBist
  rw [Pkg.getF_setCore, Pkg.getF_setF_apart _ _ _ _ (by simp [Fld.apart, F.CORE_BIST_BANK, F.CORE_BIST_FAIL])]
  exact Pkg.getF_setF_same _ _ _ rfl

theorem Pkg.showBist_kept {P : Nat → Prop} (k : Pkg) (core : Nat) (pass : Bool) (units bank : Nat) (hP : ∀ o, P o → ¬ coreRegs core o) :
    CellsKept P k (k.showBist core pass units bank) := by
  unfold Pkg.showBist
  refine CellsKept.trans ?_ (Pkg.setCore_kept _ _ _)
  refine CellsKept.thenF (CellsKept.thenF (CellsKept.setF k _ ?_) _ ?_) _ ?_
  · exact fun h => hP _ h (coreRegs_result core)
  · exact fun h => hP _ h (coreRegs_fail core)
  · exact fun h => hP _ h (coreRegs_bank core)

/-- R702: in CORES a core that fails is RETIRED, and the waves are counted. -/
def Pkg.endBist (k : Pkg) (core : Nat) (pass : Bool) (units bank : Nat) : Pkg :=
  (if pass then k.showBist core pass units bank else (k.showBist core pass units bank).setF (F.CORE_STATE core) 5).countWaves

theorem Pkg.endBist_kept {P : Nat → Prop} (k : Pkg) (core : Nat) (pass : Bool) (units bank : Nat)
    (hP : ∀ o, P o → ¬ coreRegs core o ∧ 0x40 < o) : CellsKept P k (k.endBist core pass units bank) := by
  have hshow := k.showBist_kept core pass units bank (fun o ho => (hP o ho).1)
  unfold Pkg.endBist
  refine CellsKept.trans (CellsKept.ite hshow (hshow.thenF 5 ?_)) (Pkg.countWaves_kept _ (fun o ho => (hP o ho).2))
  exact fun h => (hP _ h).1 (coreRegs_state core)

theorem Pkg.endBist_core (k : Pkg) {core : Nat} (hcore : core < 64) (pass : Bool) (units bank : Nat) :
    (k.endBist core pass units bank).core core = {} := by
  have hcores : (k.endBist core pass units bank).cores = (k.showBist core pass units bank).cores := by
    unfold Pkg.endBist
    rw [Pkg.countWaves_cores]
    split <;> rfl
  have h : (k.showBist core pass units bank).core core = {} := Pkg.core_setCore_same _ hcore _
  unfold Pkg.core at h ⊢
  rwa [hcores]

/-- R135, R702: the result of the self-test is shown, and a core that fails is RETIRED with its failing units. -/
theorem Pkg.endBist_shows (k : Pkg) (core : Nat) (pass : Bool) (units bank : Nat) :
    (k.endBist core pass units bank).getF (F.CORE_BIST_RESULT core) = (if pass then 1 else 2) ∧
    (pass = false → (k.endBist core pass units bank).getF (F.CORE_STATE core) = 5 ∧
      (k.endBist core pass units bank).getF (F.CORE_BIST_FAIL core) = units % 2 ^ 6) := by
  have hcount : ∀ j : Pkg, CellsKept (coreRegs core) j j.countWaves := fun j => j.countWaves_kept (fun o ho => by omega)
  have hstate : ∀ (f : Fld) (j : Pkg), f.off = 0x1000018 + 0x40000 * core → (j.setF (F.CORE_STATE core) 5).getF f = j.getF f :=
    fun f j hf => Pkg.getF_setF_apart _ _ _ _ (by simp [Fld.apart, F.CORE_STATE, hf])
  unfold Pkg.endBist
  rw [(hcount _).getF (coreRegs_result core)]
  constructor
  · rw [← k.showBist_result core pass units bank]
    split
    · rfl
    · exact hstate _ _ rfl
  · rintro rfl
    rw [(hcount _).getF (coreRegs_state core), (hcount _).getF (coreRegs_fail core)]
    exact ⟨Pkg.getF_setF_same _ _ _ rfl, (hstate _ _ rfl).trans (k.showBist_fail core units bank)⟩

/-- A change of a package that makes no logical number vacant changes that package, whose notices are posted. -/
theorem State.pkg_updMap_of_vacant_kept (s : State) (p : PkgId) {f : Pkg → Pkg}
    (h : CellsKept (fun o => 0x100 ≤ o ∧ o < 0x200) (s.pkg p) (f (s.pkg p))) :
    (s.updMap p f).pkg p = { f (s.pkg p) with notices := [] } := by
  have hgone : (List.range 60).filter (fun g => (f (s.pkg p)).flag (F.GLB_ME_VACANT g) && !(s.pkg p).flag (F.GLB_ME_VACANT g)) = [] := by
    rw [List.filter_eq_nil_iff]
    intro g hg
    have hg := List.mem_range.mp hg
    have hvacant : (f (s.pkg p)).getF (F.GLB_ME_VACANT g) = (s.pkg p).getF (F.GLB_ME_VACANT g) :=
      h.getF (by simp only [F.GLB_ME_VACANT]; omega)
    simp [Pkg.flag, hvacant]
  have hpost : s.updMap p f = s.updPost p f := by
    unfold State.updMap State.updPost
    simp only [State.pkg_updPkg_same, hgone, List.foldl_nil]
  rw [hpost, State.pkg_updPost_same]

/-! ### MAP (R702, R703) -/

theorem testBit_eq_bit (v i : Nat) : v.testBit i = bit v i := by
  rw [bit, Nat.testBit_eq_decide_div_mod_eq, Bool.eq_iff_iff]
  simp

theorem bit_mod_two_pow (v : Nat) {w i : Nat} (hi : i < w) : bit (v % 2 ^ w) i = bit v i := by
  rw [← testBit_eq_bit, ← testBit_eq_bit, Nat.testBit_mod_two_pow]
  simp [hi]

/-- Changing a bit is changing the lowest bit of what stands at and above it. -/
theorem putBit_eq (v n : Nat) (b : Bool) : putBit v n b = 2 ^ n * (2 * (v / 2 ^ n / 2) + if b then 1 else 0) + v % 2 ^ n := by
  have hv : v = 2 ^ n * (v / 2 ^ n) + v % 2 ^ n := (Nat.div_add_mod v (2 ^ n)).symm
  have hm : v / 2 ^ n = 2 * (v / 2 ^ n / 2) + v / 2 ^ n % 2 := (Nat.div_add_mod _ 2).symm
  have hlow : v / 2 ^ n % 2 = if bit v n then 1 else 0 := by
    unfold bit
    rcases Nat.mod_two_eq_zero_or_one (v / 2 ^ n) with h | h <;> simp [h]
  rw [hlow] at hm
  generalize v / 2 ^ n / 2 = q at hm ⊢
  generalize v % 2 ^ n = r at hv ⊢
  rw [hm] at hv
  unfold putBit
  generalize bit v n = was at hv ⊢
  cases was <;> cases b <;> simp only [Bool.false_eq_true, if_true, if_false, Nat.mul_add, Nat.mul_one, Nat.mul_zero] at hv ⊢ <;> omega

theorem bit_putBit_same (v n : Nat) (b : Bool) : bit (putBit v n b) n = b := by
  rw [← testBit_eq_bit, putBit_eq, Nat.testBit_two_pow_mul_add _ (Nat.mod_lt _ (Nat.two_pow_pos n))]
  cases b <;> simp

theorem bit_putBit_other (v : Nat) {n i : Nat} (b : Bool) (h : i ≠ n) : bit (putBit v n b) i = bit v i := by
  have hr := Nat.mod_lt v (Nat.two_pow_pos n)
  have hv : v.testBit i = (2 ^ n * (v / 2 ^ n) + v % 2 ^ n).testBit i := by rw [Nat.div_add_mod]
  rw [← testBit_eq_bit, ← testBit_eq_bit, putBit_eq, hv, Nat.testBit_two_pow_mul_add _ hr, Nat.testBit_two_pow_mul_add _ hr]
  split
  · rfl
  · obtain ⟨m, hm⟩ : ∃ m, i - n = m + 1 := ⟨i - n - 1, by omega⟩
    rw [hm, Nat.testBit_succ, Nat.testBit_succ]
    congr 1
    split <;> omega

/-- Core `c` is RETIRED, by its state and by the map. -/
def Pkg.heldRetired (k : Pkg) (c : Nat) : Prop := k.getF (F.CORE_STATE c) = 5 ∧ k.isRetired c = true

theorem Pkg.heldRetired.setF {k : Pkg} {c : Nat} (h : k.heldRetired c) {f : Fld} (v : Nat) (hstate : f.apart (F.CORE_STATE c) = true)
    (hmap : f.apart (F.GLB_MAP_RETIRED (c / 16)) = true) : (k.setF f v).heldRetired c := by
  unfold Pkg.heldRetired Pkg.isRetired
  rw [Pkg.getF_setF_apart _ _ _ _ hstate, Pkg.getF_setF_apart _ _ _ _ hmap]
  exact h

/-- The map's registers of the clusters, and the cores' own registers. -/
abbrev mapRegs (o : Nat) : Prop := (0x80 ≤ o ∧ o < 0xA0) ∨ (0x1000000 ≤ o ∧ o < 0x2000000)

theorem Pkg.heldRetired.of_kept {k j : Pkg} {c : Nat} (hc : c < 64) (hkept : CellsKept mapRegs k j) (h : k.heldRetired c) :
    j.heldRetired c := by
  unfold Pkg.heldRetired Pkg.isRetired
  rw [hkept.getF (f := F.CORE_STATE c) (by simp only [F.CORE_STATE]; omega),
    hkept.getF (f := F.GLB_MAP_RETIRED (c / 16)) (by simp only [F.GLB_MAP_RETIRED]; omega)]
  exact h

/-- A core's role is three bits of its cluster's map. -/
theorem Pkg.setRole_retired (k : Pkg) (c role : Nat) : (k.setRole c role).getF (F.GLB_MAP_RETIRED (c / 16)) =
    putBit (k.getF (F.GLB_MAP_RETIRED (c / 16))) (c % 16) (role == 2) % 2 ^ 16 := by
  unfold Pkg.setRole Pkg.setBit
  rw [Pkg.getF_setF_same _ _ _ rfl, Pkg.getF_setF_apart _ _ _ _ (by simp [Fld.apart, F.GLB_MAP_ACTIVE, F.GLB_MAP_RETIRED]),
    Pkg.getF_setF_apart _ _ _ _ (by simp [Fld.apart, F.GLB_MAP_SPARE, F.GLB_MAP_RETIRED])]
  rfl

theorem Pkg.setRole_kept {P : Nat → Prop} (k : Pkg) (c role : Nat) (hc : ¬ P (0x80 + 0x8 * (c / 16))) : BringKept P k (k.setRole c role) :=
  ((BringKept.setF k _ hc).thenF _ hc).thenF _ hc

theorem Pkg.isRetired_setRole_same (k : Pkg) (c role : Nat) : (k.setRole c role).isRetired c = (role == 2) := by
  unfold Pkg.isRetired
  rw [Pkg.setRole_retired, bit_mod_two_pow _ (Nat.mod_lt _ (by decide)), bit_putBit_same]

theorem Pkg.isRetired_setRole_other (k : Pkg) {c y : Nat} (role : Nat) (h : y ≠ c) : (k.setRole y role).isRetired c = k.isRetired c := by
  unfold Pkg.isRetired
  by_cases hcl : c / 16 = y / 16
  · rw [hcl, Pkg.setRole_retired, bit_mod_two_pow _ (Nat.mod_lt _ (by decide)), bit_putBit_other _ _ (by omega)]
  · rw [(k.setRole_kept (P := (· = 0x80 + 0x8 * (c / 16))) y role (by omega)).cells.getF rfl]

theorem Pkg.heldRetired.setRole {k : Pkg} {c y : Nat} (h : k.heldRetired c) (role : Nat) (hne : y ≠ c) (hy : y < 64) :
    (k.setRole y role).heldRetired c := by
  obtain ⟨hstate, hretired⟩ := h
  refine ⟨?_, (k.isRetired_setRole_other role hne).trans hretired⟩
  rw [(k.setRole_kept (P := (· = (F.CORE_STATE c).off)) y role (by simp only [F.CORE_STATE]; omega)).cells.getF rfl]
  exact hstate

/-- Writing a register of another core, or another register of the core, keeps it RETIRED. -/
theorem Pkg.heldRetired.setF_off {k : Pkg} {c : Nat} (h : k.heldRetired c) {f : Fld} (v : Nat) (hf : 0x1000000 ≤ f.off)
    (hstate : f.off ≠ (F.CORE_STATE c).off) (hc : c < 64) : (k.setF f v).heldRetired c :=
  Pkg.heldRetired.setF h v (Fld.apart_of_off hstate) (Fld.apart_of_off (by simp only [F.GLB_MAP_RETIRED]; omega))

theorem Pkg.heldRetired.updRepair {k : Pkg} {c : Nat} (h : k.heldRetired c) (f : Repair → Repair) : (k.updRepair f).heldRetired c := h

/-- What MAP writes of another core keeps a core RETIRED. -/
theorem Pkg.heldRetired.settled {k : Pkg} {c y : Nat} (h : k.heldRetired c) (role st logical : Nat) (hne : y ≠ c) (hy : y < 64)
    (hc : c < 64) : (((k.setRole y role).setF (F.CORE_STATE y) st).setF (F.CORE_LOGICAL y) logical).heldRetired c :=
  ((h.setRole role hne hy).setF_off st (by simp only [F.CORE_STATE]; omega) (by simp only [F.CORE_STATE]; omega) hc).setF_off logical
    (by simp only [F.CORE_LOGICAL]; omega) (by simp only [F.CORE_LOGICAL, F.CORE_STATE]; omega) hc

/-- The physical cores of a cluster. -/
def clusterCores (cl : Nat) : List Nat := (List.range 16).map (fun i => 16 * cl + i)

theorem mem_clusterCores {cl c : Nat} : c ∈ clusterCores cl ↔ c / 16 = cl := by
  unfold clusterCores
  simp only [List.mem_map, List.mem_range]
  constructor
  · rintro ⟨i, hi, rfl⟩; omega
  · intro h
    exact ⟨c % 16, by omega, by omega⟩

theorem clusterCores_nodup (cl : Nat) : (clusterCores cl).Nodup :=
  List.nodup_range.map (fun a b h => by simpa using h)

/-- The cores of a cluster that passed their self-test. -/
def Pkg.passing (k : Pkg) (cl : Nat) : List Nat :=
  (clusterCores cl).filter (fun c => k.getF (F.CORE_BIST_RESULT c) == 1 && k.getF (F.CORE_STATE c) != 5)

theorem Pkg.cluster_of_passing {k : Pkg} {cl c : Nat} (h : c ∈ k.passing cl) : c / 16 = cl :=
  mem_clusterCores.mp (List.mem_filter.mp h).1

/-- R702: a core whose self-test failed does not pass. -/
theorem Pkg.not_passing_of_failed {k : Pkg} {c : Nat} (h : k.getF (F.CORE_BIST_RESULT c) = 2) (cl : Nat) : c ∉ k.passing cl := by
  simp [Pkg.passing, h]

/-- R786: only cores that pass are bound to logical numbers. -/
theorem passing_of_mem_bindCluster {rebuild : Bool} {n : Nat} {passing : List Nat} {recorded : Nat → Option Nat} {c : Nat}
    (h : some c ∈ bindCluster rebuild n passing recorded) : c ∈ passing := by
  unfold bindCluster at h
  split at h
  · obtain ⟨l, -, hl⟩ := List.mem_map.mp h
    exact List.mem_of_getElem? hl
  · revert h
    dsimp only
    generalize hkept : (List.range n).map (fun l => (recorded l).filter (fun c => passing.contains c)) = kept
    have hkept : ∀ c, some c ∈ kept → c ∈ passing := by
      intro c hc
      rw [← hkept] at hc
      obtain ⟨l, -, hl⟩ := List.mem_map.mp hc
      simpa using (Option.filter_eq_some_iff.mp hl).2
    intro h
    refine (List.foldlRecOn (motive := fun (acc : List (Option Nat) × List Nat) =>
      (∀ c, some c ∈ acc.1 → c ∈ passing) ∧ ∀ c ∈ acc.2, c ∈ passing) kept _ ⟨?_, ?_⟩ ?_).1 c h
    · simp
    · exact fun c hc => (List.mem_filter.mp hc).1
    · rintro ⟨bound, free⟩ ⟨hbound, hfree⟩ o ho
      rcases o with _ | c <;> rcases free with _ | ⟨d, free⟩
      all_goals
        simp only [List.mem_append, List.mem_singleton, reduceCtorEq, or_false, Option.some.injEq]
      · exact ⟨hbound, hfree⟩
      · exact ⟨fun x hx => hx.elim (hbound x) (fun e => hfree x (by simp [e])), fun x hx => hfree x (List.mem_cons_of_mem _ hx)⟩
      · exact ⟨fun x hx => hx.elim (hbound x) (fun e => e ▸ hkept c ho), hfree⟩
      · exact ⟨fun x hx => hx.elim (hbound x) (fun e => e ▸ hkept c ho), hfree⟩

/-- A core's turn of MAP: it is a SPARE until a number is bound to it, or RETIRED with its reason. -/
def Pkg.settleCore (passing : List Nat) (rec_ : Option Bytes) (k : Pkg) (c : Nat) : Pkg :=
  if passing.contains c then ((k.setRole c 0).setF (F.CORE_STATE c) 2).setF (F.CORE_LOGICAL c) 0xFF
  else
    let old := match rec_ with
      | some b => if mcRole (mapCore b c) = 2 then mcReason (mapCore b c) else 0
      | none => 0
    let reason := if k.getF (F.CORE_BIST_RESULT c) = 2 then 1 else old
    let k := ((k.setRole c 2).setF (F.CORE_STATE c) 5).setF (F.CORE_LOGICAL c) 0xFF
    k.updRepair (fun r => { r with reasons := putPair r.reasons c reason })

/-- A logical number's turn of MAP, with `n` numbers to a cluster: it is bound to a core, or vacant. -/
def Pkg.bindNumber (cl n : Nat) (k : Pkg) (x : Option Nat × Nat) : Pkg :=
  let g := cl * n + x.2
  match x.1 with
  | some c => ((((k.setRole c 1).setF (F.CORE_STATE c) 3).setF (F.CORE_LOGICAL c) g).setF (F.GLB_ME_PHYS g) c).setF (F.GLB_ME_VACANT g) 0
  | none => (k.setBit (F.GLB_MAP_VACANT cl) x.2 true).raise (F.GLB_ME_VACANT g)

/-- The core that a record binds to a logical number of a cluster. -/
def recordedCore (rec_ : Option Bytes) (cl l : Nat) : Option Nat := match rec_ with
  | some b => (clusterCores cl).find? (fun c => mcRole (mapCore b c) == 1 && mcLogical (mapCore b c) == l)
  | none => none

/-- R786: the map of a cluster is each core's turn, then each logical number's. -/
theorem Pkg.mapCluster_eq (k : Pkg) (rec_ : Option Bytes) (rebuild : Bool) (cl : Nat) :
    k.mapCluster rec_ rebuild cl = ((bindCluster rebuild k.perCluster (k.passing cl) (recordedCore rec_ cl)).zip
      (List.range k.perCluster)).foldl (Pkg.bindNumber cl k.perCluster)
        ((clusterCores cl).foldl (Pkg.settleCore (k.passing cl) rec_) k) := rfl

theorem Pkg.perCluster_le (k : Pkg) : k.perCluster ≤ 15 := by
  unfold Pkg.perCluster
  split <;> omega

theorem Pkg.settleCore_keeps {k : Pkg} {c y : Nat} (passing : List Nat) (rec_ : Option Bytes) (h : k.heldRetired c) (hne : y ≠ c)
    (hy : y < 64) (hc : c < 64) : (k.settleCore passing rec_ y).heldRetired c := by
  unfold Pkg.settleCore
  split
  · exact h.settled 0 2 0xFF hne hy hc
  · exact (h.settled 2 5 0xFF hne hy hc).updRepair _

/-- R702: a core that did not pass is RETIRED at its own turn. -/
theorem Pkg.settleCore_own (k : Pkg) {c : Nat} {passing : List Nat} (rec_ : Option Bytes) (h : c ∉ passing) (hc : c < 64) :
    (k.settleCore passing rec_ c).heldRetired c := by
  have hpass : passing.contains c = false := by simpa using h
  unfold Pkg.settleCore
  simp only [hpass, Bool.false_eq_true, if_false]
  have hset : ((k.setRole c 2).setF (F.CORE_STATE c) 5).heldRetired c := by
    refine ⟨Pkg.getF_setF_same _ _ _ rfl, ?_⟩
    unfold Pkg.isRetired
    rw [Pkg.getF_setF_apart _ _ _ _ (Fld.apart_of_off (by simp only [F.CORE_STATE, F.GLB_MAP_RETIRED]; omega))]
    exact k.isRetired_setRole_same c 2
  refine Pkg.heldRetired.updRepair ?_ _
  exact hset.setF_off 0xFF (by simp only [F.CORE_LOGICAL]; omega) (by simp only [F.CORE_LOGICAL, F.CORE_STATE]; omega) hc

/-- Registers at the offsets of the map's entries are none of what makes a core RETIRED. -/
theorem Pkg.heldRetired.setEntry {k : Pkg} {c : Nat} (h : k.heldRetired c) {f : Fld} (v : Nat) (hf : 0xA0 ≤ f.off ∧ f.off < 0x1000000)
    (hc : c < 64) : (k.setF f v).heldRetired c :=
  h.of_kept hc (CellsKept.setF k v (by omega))

theorem Pkg.bindNumber_keeps {k : Pkg} {c cl n : Nat} {x : Option Nat × Nat} (h : k.heldRetired c)
    (hx : ∀ y, x.1 = some y → y ≠ c ∧ y < 64) (hg : cl * n + x.2 < 64) (hcl : cl < 4) (hc : c < 64) :
    (k.bindNumber cl n x).heldRetired c := by
  have hphys : 0xA0 ≤ (F.GLB_ME_PHYS (cl * n + x.2)).off ∧ (F.GLB_ME_PHYS (cl * n + x.2)).off < 0x1000000 := by
    simp only [F.GLB_ME_PHYS]; omega
  unfold Pkg.bindNumber
  dsimp only
  split
  · next y hy =>
    obtain ⟨hne, hy⟩ := hx y hy
    exact ((h.settled 1 3 (cl * n + x.2) hne hy hc).setEntry y hphys hc).setEntry 0 hphys hc
  · refine Pkg.heldRetired.setEntry (h.setF _ ?_ ?_) 1 hphys hc
    · exact Fld.apart_of_off (by simp only [F.GLB_MAP_VACANT, F.CORE_STATE]; omega)
    · simp [Fld.apart, F.GLB_MAP_VACANT, F.GLB_MAP_RETIRED]

/-- A logical number's turn is about a core that passed, and about one of 60 numbers. -/
theorem Pkg.turn_of_mem_zip {k : Pkg} {cl : Nat} {rebuild : Bool} {recorded : Nat → Option Nat} (hcl : cl < 4) {x : Option Nat × Nat}
    (hx : x ∈ (bindCluster rebuild k.perCluster (k.passing cl) recorded).zip (List.range k.perCluster)) :
    (∀ y, x.1 = some y → y ∈ k.passing cl ∧ y < 64) ∧ cl * k.perCluster + x.2 < 64 := by
  obtain ⟨hbound, hnumber⟩ := List.of_mem_zip hx
  have hnumber := List.mem_range.mp hnumber
  have hper := k.perCluster_le
  refine ⟨fun y hy => ?_, ?_⟩
  · have hpass := passing_of_mem_bindCluster (hy ▸ hbound)
    have := Pkg.cluster_of_passing hpass
    exact ⟨hpass, by omega⟩
  · have : cl * k.perCluster ≤ 3 * 15 := Nat.mul_le_mul (by omega) hper
    omega

/-- R786: the numbers' turns keep every core RETIRED that did not pass. -/
theorem Pkg.bindNumbers_keep {k j : Pkg} {c cl : Nat} {rebuild : Bool} {recorded : Nat → Option Nat} (hcl : cl < 4) (hc : c < 64)
    (hfailed : c ∉ k.passing cl) (h : j.heldRetired c) :
    (((bindCluster rebuild k.perCluster (k.passing cl) recorded).zip (List.range k.perCluster)).foldl
      (Pkg.bindNumber cl k.perCluster) j).heldRetired c := by
  refine List.foldlRecOn (motive := fun j : Pkg => j.heldRetired c) _ _ h (fun b hb x hx => ?_)
  obtain ⟨hcores, hnumber⟩ := Pkg.turn_of_mem_zip hcl hx
  exact Pkg.bindNumber_keeps hb (fun y hy => ⟨fun e => hfailed (e ▸ (hcores y hy).1), (hcores y hy).2⟩) hnumber hcl hc

/-- Building the map of a cluster retires each of its cores that did not pass. -/
theorem Pkg.mapCluster_retires (k : Pkg) (rec_ : Option Bytes) (rebuild : Bool) {c : Nat} (hc : c < 64)
    (hfailed : c ∉ k.passing (c / 16)) : (k.mapCluster rec_ rebuild (c / 16)).heldRetired c := by
  rw [Pkg.mapCluster_eq]
  refine Pkg.bindNumbers_keep (by omega) hc hfailed ?_
  refine foldl_ownTurn (A := fun _ => True) (B := fun j : Pkg => j.heldRetired c) (fun (j : Pkg) _ => j.settleCore_own rec_ hfailed hc)
    (fun _ _ _ _ _ => trivial) (fun j y hy hne h => Pkg.settleCore_keeps _ rec_ h hne ?_ hc)
    (clusterCores_nodup _) (mem_clusterCores.mpr rfl) trivial
  have := mem_clusterCores.mp hy
  omega

/-- Building the map of another cluster keeps a core RETIRED. -/
theorem Pkg.mapCluster_keeps {k : Pkg} (rec_ : Option Bytes) (rebuild : Bool) {c cl : Nat} (hc : c < 64) (hcl : cl < 4)
    (hother : cl ≠ c / 16) (h : k.heldRetired c) : (k.mapCluster rec_ rebuild cl).heldRetired c := by
  rw [Pkg.mapCluster_eq]
  refine Pkg.bindNumbers_keep hcl hc (fun hpass => hother (Pkg.cluster_of_passing hpass).symm) ?_
  refine List.foldlRecOn (motive := fun j : Pkg => j.heldRetired c) _ _ h (fun j hj y hy => ?_)
  have := mem_clusterCores.mp hy
  exact Pkg.settleCore_keeps _ rec_ hj (by omega) (by omega) hc

/-- The self-test results. -/
abbrev bistRegs (o : Nat) : Prop := 0x1000000 ≤ o ∧ o % 0x40000 = 0x18

theorem Pkg.settled_bist {k j : Pkg} (h : CellsKept bistRegs k j) (y role st logical : Nat) (hy : y < 64) :
    CellsKept bistRegs k (((j.setRole y role).setF (F.CORE_STATE y) st).setF (F.CORE_LOGICAL y) logical) := by
  refine ((h.trans (Pkg.setRole_kept j y role (by omega)).cells).thenF st ?_).thenF logical ?_
  · simp only [F.CORE_STATE]; omega
  · simp only [F.CORE_LOGICAL]; omega

theorem Pkg.updRepair_kept {P : Nat → Prop} (k : Pkg) (f : Repair → Repair) : CellsKept P k (k.updRepair f) := CellsKept.ofRegs rfl

/-- MAP judges the self-tests and does not change their results. -/
theorem Pkg.mapCluster_bist (k : Pkg) (rec_ : Option Bytes) (rebuild : Bool) {cl : Nat} (hcl : cl < 4) :
    CellsKept bistRegs k (k.mapCluster rec_ rebuild cl) := by
  rw [Pkg.mapCluster_eq]
  refine CellsKept.trans (CellsKept.foldl _ (fun j y hy => ?_) k) (CellsKept.foldl _ (fun j x hx => ?_) _)
  · have := mem_clusterCores.mp hy
    exact CellsKept.ite (Pkg.settled_bist (CellsKept.refl j) y 0 2 0xFF (by omega))
      ((Pkg.settled_bist (CellsKept.refl j) y 2 5 0xFF (by omega)).trans (Pkg.updRepair_kept _ _))
  · obtain ⟨hcores, hnumber⟩ := Pkg.turn_of_mem_zip hcl hx
    unfold Pkg.bindNumber
    dsimp only
    split
    · next y hy =>
      have hentry : ¬ bistRegs (F.GLB_ME_PHYS (cl * k.perCluster + x.2)).off := by simp only [F.GLB_ME_PHYS]; omega
      exact ((Pkg.settled_bist (CellsKept.refl j) y 1 3 _ (hcores y hy).2).thenF y hentry).thenF 0 hentry
    · refine (CellsKept.setF j _ ?_).thenF 1 ?_
      · simp only [F.GLB_MAP_VACANT]; omega
      · simp only [F.GLB_ME_VACANT]; omega

theorem Pkg.mapClusters_retire (k : Pkg) (rec_ : Option Bytes) (rebuild : Bool) {c : Nat} (hc : c < 64)
    (hfailed : k.getF (F.CORE_BIST_RESULT c) = 2) : (k.forEach 4 (fun k cl => k.mapCluster rec_ rebuild cl)).heldRetired c := by
  refine foldl_ownTurn (A := CellsKept bistRegs k) (B := fun j : Pkg => j.heldRetired c) (fun j hj => ?_)
    (fun j cl hcl _ hj => hj.trans (j.mapCluster_bist rec_ rebuild (List.mem_range.mp hcl)))
    (fun j cl hcl hother hj => Pkg.mapCluster_keeps rec_ rebuild hc (List.mem_range.mp hcl) hother hj)
    List.nodup_range (List.mem_range.mpr (by omega)) (CellsKept.refl k)
  refine j.mapCluster_retires rec_ rebuild hc (Pkg.not_passing_of_failed ?_ _)
  rw [hj.getF (f := F.CORE_BIST_RESULT c) (by simp only [F.CORE_BIST_RESULT]; omega)]
  exact hfailed

theorem Pkg.countCores_kept {P : Nat → Prop} (k : Pkg) (hP : ∀ o, P o → 0x70 ≤ o) : BringKept P k k.countCores := by
  refine BringKept.foldl _ (fun j s hs => BringKept.setF j _ (fun h => absurd (hP _ h) ?_)) k
  have := List.mem_range.mp hs
  simp only [F.GLB_PS_CORES]; omega

theorem Pkg.noteMap_kept {P : Nat → Prop} (k : Pkg) (hP : ¬ P 0xA0) : BringKept P k k.noteMap := by
  unfold Pkg.noteMap
  refine BringKept.thenF ?_ 1 hP
  exact ⟨rfl, rfl, rfl, rfl, CellsKept.ofRegs rfl⟩

/-- R786, R787: the map is built anew without a record of the same policy, and at a cold bring-up with REMAP_ON_BOOT. -/
def Pkg.rebuildsMap (k : Pkg) (rec_ : Option Bytes) : Bool := match rec_ with
  | none => true
  | some b => fieldAt b 5 1 != k.getF F.GLB_SPARE_POLICY || (k.flag F.GLB_BU_COLD && (k.lup.active.map Lineup.remapOnBoot).getD false)

/-- MAP ends with its clusters built: what it used and counts is shown. -/
def Pkg.showMap (rec_ : Option Bytes) (rebuild : Bool) (k : Pkg) : Pkg :=
  (((({ k.updBring (fun b => { b with mapped := true }) with coreDown := [] } : Pkg).setF F.GLB_MAP_FROM_FLASH
    (if rec_.isSome then 1 else 0)).setF F.GLB_MAP_REBUILT (if rebuild then 1 else 0)).setF F.GLB_MAP_SEQ
      ((rec_.map (fun b => fieldAt b 8 4)).getD 0)).countCores

/-- R783: the map's record is to be written when it differs from the one used. -/
def Pkg.noteChangedMap (rec_ : Option Bytes) (k : Pkg) : Pkg := match rec_ with
  | some b => if ((k.mapBytes 0).drop 5).take 1 = (b.drop 5).take 1 ∧ ((k.mapBytes 0).drop 32).take 136 = (b.drop 32).take 136 then k
      else k.noteMap
  | none => k.noteMap

theorem Pkg.buildMap_eq (k : Pkg) : k.buildMap =
    ((k.forEach 4 (fun j cl => j.mapCluster (k.mapRecord.map Prod.snd) (k.rebuildsMap (k.mapRecord.map Prod.snd)) cl)).showMap
      (k.mapRecord.map Prod.snd) (k.rebuildsMap (k.mapRecord.map Prod.snd))).noteChangedMap (k.mapRecord.map Prod.snd) := by
  unfold Pkg.buildMap
  generalize k.mapRecord.map Prod.snd = rec_
  cases rec_ <;> rfl

theorem Pkg.noteChangedMap_kept {P : Nat → Prop} (k : Pkg) (rec_ : Option Bytes) (hP : ¬ P 0xA0) : BringKept P k (k.noteChangedMap rec_) := by
  unfold Pkg.noteChangedMap
  split
  · exact BringKept.ite (BringKept.refl k) (k.noteMap_kept hP)
  · exact k.noteMap_kept hP

theorem Pkg.showMap_kept (k : Pkg) (rec_ : Option Bytes) (rebuild : Bool) :
    CellsKept mapRegs k (k.showMap rec_ rebuild) ∧ (k.showMap rec_ rebuild).bring.mapped = true := by
  have hended : CellsKept mapRegs k ({ k.updBring (fun b => { b with mapped := true }) with coreDown := [] } : Pkg) := CellsKept.ofRegs rfl
  unfold Pkg.showMap
  constructor
  · refine CellsKept.trans ?_ (Pkg.countCores_kept _ (fun o ho => by omega)).cells
    exact CellsKept.thenF (CellsKept.thenF (CellsKept.thenF hended _ (by decide)) _ (by decide)) _ (by decide)
  · rw [(Pkg.countCores_kept (P := mapRegs) _ (fun o ho => by omega)).bring]
    rfl

/-- R702, R703: the map is built, and cores whose self-test failed are RETIRED in it. -/
theorem Pkg.buildMap_retires (k : Pkg) {c : Nat} (hc : c < 64) (hfailed : k.getF (F.CORE_BIST_RESULT c) = 2) :
    k.buildMap.heldRetired c := by
  rw [Pkg.buildMap_eq]
  refine Pkg.heldRetired.of_kept hc ?_
    (k.mapClusters_retire (k.mapRecord.map Prod.snd) (k.rebuildsMap (k.mapRecord.map Prod.snd)) hc hfailed)
  exact (Pkg.showMap_kept _ _ _).1.trans (Pkg.noteChangedMap_kept _ _ (by decide)).cells

theorem Pkg.buildMap_mapped (k : Pkg) : k.buildMap.bring.mapped = true := by
  rw [Pkg.buildMap_eq, (Pkg.noteChangedMap_kept (P := mapRegs) _ _ (by decide)).bring]
  exact (Pkg.showMap_kept _ _ _).2

/-! ### READY and HELD (R704–R707) -/

/-- READY begins: the slots held are shown ready, and the power controller takes its reference. -/
theorem Pkg.enterReady_stages {P : Nat → Prop} (k : Pkg) (hP : ∀ o, P o → 0x70 ≤ o ∧ o ≠ 0x600010) :
    CellsKept P k k.enterReady ∧ k.enterReady.bring.step = 7 ∧ k.enterReady.bring.mapped = k.bring.mapped := by
  have hcauses : CellsKept P k (((k.setF F.GLB_HOLD_BRAID 0).setF F.GLB_HOLD_TIME 0).setF F.GLB_HOLD_CORES 0) := by
    have hhold : ¬ P 0x10 := fun h => absurd (hP _ h).1 (by decide)
    exact ((CellsKept.setF k 0 hhold).thenF 0 hhold).thenF 0 hhold
  have hready : ∀ j : Pkg, BringKept P j ((List.range 4).foldl (fun k s => if k.slotHeld s then k.raise (F.GLB_PS_READY s) else k) j) := by
    refine BringKept.foldl _ (fun j s hs => BringKept.ite (BringKept.setF j 1 (fun h => absurd (hP _ h).1 ?_)) (BringKept.refl j))
    have := List.mem_range.mp hs
    simp only [F.GLB_PS_READY]; omega
  have hphase := Pkg.enterPhase_kept (P := P) (((k.setF F.GLB_HOLD_BRAID 0).setF F.GLB_HOLD_TIME 0).setF F.GLB_HOLD_CORES 0) (n := 7)
    (by decide) (fun o ho => lt_of_lt_of_le (by decide) (hP o ho).1)
  have hslots := hready ((((k.setF F.GLB_HOLD_BRAID 0).setF F.GLB_HOLD_TIME 0).setF F.GLB_HOLD_CORES 0).enterPhase 7)
  unfold Pkg.enterReady
  dsimp only
  refine ⟨?_, ?_, ?_⟩
  · refine CellsKept.trans (CellsKept.thenF (hcauses.trans (hphase.trans hslots.cells)) _ ?_) (CellsKept.ofRegs rfl)
    exact fun h => (hP _ h).2 rfl
  · rw [Pkg.setF_bring, hslots.bring, Pkg.enterPhase_bring]
  · rw [Pkg.setF_bring, hslots.bring, Pkg.enterPhase_bring]
    rfl

/-- The causes BOOT and LINEUP of R704. -/
def Pkg.holdUnstarted (k : Pkg) : Pkg :=
  let k := if k.bring.runtime then k else k.raise F.GLB_HOLD_BOOT
  if k.lup.active.isSome then k else k.raise F.GLB_HOLD_LINEUP

/-- The cause HBM. -/
def Pkg.holdHbm (k : Pkg) : Pkg := if k.hbmReady then k else k.raise F.GLB_HOLD_HBM

/-- The causes BRAID and TIME, which a package can lose again. -/
def Pkg.holdUnlinked (k : Pkg) : Pkg := if k.braidUp then k.setF F.GLB_HOLD_BRAID 0 else k.raise F.GLB_HOLD_BRAID

def Pkg.holdTime (k : Pkg) : Pkg := if k.getF F.HTM_STATE = 2 then k.setF F.GLB_HOLD_TIME 0 else k.raise F.GLB_HOLD_TIME

/-- The cause CORES, with a record for each short slot. -/
def Pkg.holdCores (k : Pkg) : Pkg :=
  if k.bring.mapped then k.shortSlots.foldl (fun k s => (k.buStatus 0x4002 .slot s).raise F.GLB_HOLD_CORES) k else k.raise F.GLB_HOLD_CORES

theorem Pkg.holdCauses_eq (k : Pkg) : k.holdCauses = k.holdUnstarted.holdHbm.holdUnlinked.holdTime.holdCores := rfl

section Causes

variable {P : Nat → Prop} (hP : apartFromBringUp P)
include hP

/-- The causes stand in the bring-up's own register. -/
theorem BringKept.setCause (k : Pkg) {f : Fld} (v : Nat) (hf : f.off = 0x10) : BringKept P k (k.setF f v) :=
  BringKept.setF k v (fun h => absurd (hP _ h).1 (by omega))

theorem Pkg.holdUnstarted_kept (k : Pkg) : BringKept P k k.holdUnstarted := by
  unfold Pkg.holdUnstarted
  have hboot : BringKept P k (if k.bring.runtime then k else k.raise F.GLB_HOLD_BOOT) :=
    BringKept.ite (BringKept.refl k) (BringKept.setCause hP k 1 rfl)
  exact BringKept.ite hboot (hboot.trans (BringKept.setCause hP _ 1 rfl))

theorem Pkg.holdHbm_kept (k : Pkg) : BringKept P k k.holdHbm :=
  BringKept.ite (BringKept.refl k) (BringKept.setCause hP k 1 rfl)

theorem Pkg.holdUnlinked_kept (k : Pkg) : BringKept P k k.holdUnlinked :=
  BringKept.ite (BringKept.setCause hP k 0 rfl) (BringKept.setCause hP k 1 rfl)

theorem Pkg.holdTime_kept (k : Pkg) : BringKept P k k.holdTime :=
  BringKept.ite (BringKept.setCause hP k 0 rfl) (BringKept.setCause hP k 1 rfl)

theorem Pkg.holdCores_kept (k : Pkg) : BringKept P k k.holdCores :=
  BringKept.ite (BringKept.foldl _ (fun j _ _ => (Pkg.buStatus_kept j _ _ _ hP).trans (BringKept.setCause hP _ 1 rfl)) k)
    (BringKept.setCause hP k 1 rfl)

/-- Finding the causes leaves the package where it is, and every register but the causes and the records. -/
theorem Pkg.holdCauses_kept (k : Pkg) : BringKept P k k.holdCauses := by
  rw [Pkg.holdCauses_eq]
  exact (((k.holdUnstarted_kept hP).trans (Pkg.holdHbm_kept hP _)).trans (Pkg.holdUnlinked_kept hP _)).trans
    ((Pkg.holdTime_kept hP _).trans (Pkg.holdCores_kept hP _))

end Causes

theorem Pkg.getF_holdUnlinked (k : Pkg) {f : Fld} (h : F.GLB_HOLD_BRAID.apart f = true) : k.holdUnlinked.getF f = k.getF f := by
  unfold Pkg.holdUnlinked
  split <;> exact Pkg.getF_setF_apart _ _ _ _ h

theorem Pkg.getF_holdTime (k : Pkg) {f : Fld} (h : F.GLB_HOLD_TIME.apart f = true) : k.holdTime.getF f = k.getF f := by
  unfold Pkg.holdTime
  split <;> exact Pkg.getF_setF_apart _ _ _ _ h

theorem Pkg.getF_holdCores (k : Pkg) {f : Fld} (hstatus : F.GLB_BU_STATUS.apart f = true) (hcores : F.GLB_HOLD_CORES.apart f = true)
    (hf : f.off < 0x3000000) : k.holdCores.getF f = k.getF f := by
  unfold Pkg.holdCores
  split
  · refine List.foldlRecOn (motive := fun j : Pkg => j.getF f = k.getF f) _ _ rfl (fun j hj _ _ => ?_)
    exact (Pkg.getF_setF_apart _ _ _ _ hcores).trans ((Pkg.getF_buStatus _ _ _ _ hstatus hf).trans hj)
  · exact Pkg.getF_setF_apart _ _ _ _ hcores

theorem Pkg.hbmReady_of_kept {k j : Pkg} (h : CellsKept (fun o => 0x800000 ≤ o ∧ o < 0x801000) k j) : j.hbmReady = k.hbmReady := by
  have hstate : ∀ i < 8, j.getF (F.HBM_STATE i) = k.getF (F.HBM_STATE i) := fun i hi => h.getF (by simp only [F.HBM_STATE]; omega)
  unfold Pkg.hbmReady
  rw [Bool.eq_iff_iff]
  simp +contextual [hstate]

/-- R704: HBM that is not ready is a cause. -/
theorem Pkg.holdCauses_hbm (k : Pkg) (h : k.hbmReady = false) : k.holdCauses.getF F.GLB_HOLD_HBM = 1 := by
  have hready : k.holdUnstarted.hbmReady = false :=
    (Pkg.hbmReady_of_kept (Pkg.holdUnstarted_kept (fun o ho => by omega) k).cells).trans h
  rw [Pkg.holdCauses_eq, Pkg.getF_holdCores _ (by decide) (by decide) (by decide), Pkg.getF_holdTime _ (by decide),
    Pkg.getF_holdUnlinked _ (by decide)]
  unfold Pkg.holdHbm
  simp only [hready, Bool.false_eq_true, if_false]
  exact Pkg.getF_setF_same _ _ _ rfl

/-- R704: Hall Time that is not LOCKED is a cause. -/
theorem Pkg.holdCauses_time (k : Pkg) (h : k.getF F.HTM_STATE ≠ 2) : k.holdCauses.getF F.GLB_HOLD_TIME = 1 := by
  have hP : apartFromBringUp (· = 0x20008) := fun o ho => by omega
  have hkept : BringKept (· = 0x20008) k k.holdUnstarted.holdHbm.holdUnlinked :=
    ((k.holdUnstarted_kept hP).trans (Pkg.holdHbm_kept hP _)).trans (Pkg.holdUnlinked_kept hP _)
  have hstate : k.holdUnstarted.holdHbm.holdUnlinked.getF F.HTM_STATE ≠ 2 := by rwa [hkept.cells.getF (f := F.HTM_STATE) rfl]
  rw [Pkg.holdCauses_eq, Pkg.getF_holdCores _ (by decide) (by decide) (by decide)]
  unfold Pkg.holdTime
  rw [if_neg hstate]
  exact Pkg.getF_setF_same _ _ _ rfl

/-- The package is READY or HELD at the end of MAP (R705). -/
def Pkg.judgeMap (k : Pkg) : Pkg := if k.criteria then k.enterReady else k.holdCauses.enterPhase 8

theorem Pkg.judgeMap_stages {P : Nat → Prop} (k : Pkg) (hP : ∀ o, P o → (0x70 ≤ o ∧ o ≠ 0x600010) ∧ o < 0x3000000) :
    CellsKept P k k.judgeMap ∧ k.judgeMap.bring.mapped = k.bring.mapped ∧ k.judgeMap.bring.step = (if k.criteria then 7 else 8) := by
  have hP' : apartFromBringUp P := fun o ho => ⟨lt_of_lt_of_le (by decide) (hP o ho).1.1, (hP o ho).2⟩
  obtain ⟨hcells, hstep, hmapped⟩ := k.enterReady_stages (fun o ho => (hP o ho).1)
  have hheld := k.holdCauses_kept hP'
  unfold Pkg.judgeMap
  split
  · exact ⟨hcells, hmapped, hstep⟩
  · refine ⟨hheld.cells.trans (Pkg.enterPhase_kept _ (n := 8) (by decide) (fun o ho => (hP' o ho).1)), ?_, ?_⟩
    · rw [Pkg.enterPhase_bring, hheld.bring]
    · rw [Pkg.enterPhase_bring]

/-- TIME_NOT_LOCKED at the deadline. -/
def Pkg.recordUnlocked (k : Pkg) : Pkg := if k.getF F.HTM_STATE = 2 then k else k.buStatus 0x6002 .package 0

/-- HELD is shown, its mark counted from the release of the reset at `r`. -/
def Pkg.showHeld (k : Pkg) (r : Nat) : Pkg :=
  (if k.getF F.GLB_BU_PHASE = 8 then k else k.setF (F.GLB_BU_MARK 8) ((k.now - r) / 2000)).setF F.GLB_BU_PHASE 8

/-- R704: the deadline passes for a package that is not READY. -/
def Pkg.missDeadline (k : Pkg) (r : Nat) : Pkg := (k.holdCauses.recordUnlocked.showHeld r).updBring (fun b => { b with late := true })

theorem Pkg.missDeadline_held (k : Pkg) (r : Nat) :
    (k.missDeadline r).getF F.GLB_BU_PHASE = 8 ∧ (k.missDeadline r).bring.late = true := by
  unfold Pkg.missDeadline Pkg.showHeld
  rw [Pkg.getF_updBring]
  exact ⟨Pkg.getF_setF_same _ _ _ rfl, rfl⟩

theorem Pkg.getF_showHeld (k : Pkg) (r : Nat) {f : Fld} (hphase : F.GLB_BU_PHASE.apart f = true)
    (hmark : (F.GLB_BU_MARK 8).apart f = true) : (k.showHeld r).getF f = k.getF f := by
  unfold Pkg.showHeld
  rw [Pkg.getF_setF_apart _ _ _ _ hphase]
  split
  · rfl
  · exact Pkg.getF_setF_apart _ _ _ _ hmark

theorem Pkg.getF_recordUnlocked (k : Pkg) {f : Fld} (hstatus : F.GLB_BU_STATUS.apart f = true) (hf : f.off < 0x3000000) :
    k.recordUnlocked.getF f = k.getF f := by
  unfold Pkg.recordUnlocked
  split
  · rfl
  · exact Pkg.getF_buStatus _ _ _ _ hstatus hf

/-- The deadline shows the causes that it finds. -/
theorem Pkg.getF_missDeadline (k : Pkg) (r : Nat) {f : Fld} (hstatus : F.GLB_BU_STATUS.apart f = true)
    (hphase : F.GLB_BU_PHASE.apart f = true) (hmark : (F.GLB_BU_MARK 8).apart f = true) (hf : f.off < 0x3000000) :
    (k.missDeadline r).getF f = k.holdCauses.getF f := by
  unfold Pkg.missDeadline
  rw [Pkg.getF_updBring, Pkg.getF_showHeld _ _ hphase hmark, Pkg.getF_recordUnlocked _ hstatus hf]

/-! ### Port H (R581, R716) -/

/-- R581: the link's rate, width and mode are shown, and whether it is degraded. -/
def Pkg.showPcie (k : Pkg) (rate width : Nat) (flit : Bool) : Pkg :=
  ((((k.setF F.LNK_H_ST 2).setF F.HIF_PCIE_RATE rate).setF F.HIF_PCIE_WIDTH width).setF F.HIF_PCIE_FLIT (if flit then 1 else 0)).setF
    F.HIF_PCIE_DEGRADED (if rate < 6 ∨ width < 16 then 1 else 0)

theorem Pkg.showPcie_shows (k : Pkg) {rate width : Nat} (flit : Bool) (hrate : rate < 8) (hwidth : width < 32) :
    (k.showPcie rate width flit).getF F.LNK_H_ST = 2 ∧ (k.showPcie rate width flit).getF F.HIF_PCIE_RATE = rate ∧
    (k.showPcie rate width flit).getF F.HIF_PCIE_WIDTH = width ∧
    (k.showPcie rate width flit).getF F.HIF_PCIE_DEGRADED = if rate < 6 ∨ width < 16 then 1 else 0 := by
  unfold Pkg.showPcie
  refine ⟨?_, ?_, ?_, ?_⟩
  · rw [Pkg.getF_setF_apart _ _ _ _ (by decide), Pkg.getF_setF_apart _ _ _ _ (by decide), Pkg.getF_setF_apart _ _ _ _ (by decide),
      Pkg.getF_setF_apart _ _ _ _ (by decide)]
    exact Pkg.getF_setF_same _ _ _ rfl
  · rw [Pkg.getF_setF_apart _ _ _ _ (by decide), Pkg.getF_setF_apart _ _ _ _ (by decide), Pkg.getF_setF_apart _ _ _ _ (by decide),
      Pkg.getF_setF_same _ _ _ rfl]
    exact Nat.mod_eq_of_lt hrate
  · rw [Pkg.getF_setF_apart _ _ _ _ (by decide), Pkg.getF_setF_apart _ _ _ _ (by decide), Pkg.getF_setF_same _ _ _ rfl]
    exact Nat.mod_eq_of_lt hwidth
  · rw [Pkg.getF_setF_same _ _ _ rfl]
    split <;> rfl

/-! ### Port training and readiness (R689, R707)

A port that trains afresh may lose its peer; with its last parent gone or its time aligned anew, readiness is judged again. While a stack
of HBM is not ready that judgement changes nothing. -/

/-- Offsets among the lineup's state and the HBM stacks' blocks, with that of stack 1. -/
structure TrainCells (P : Nat → Prop) : Prop where
  stack : P (F.HBM_STATE 1).off
  among : ∀ o, P o → o = 0x80010 ∨ (0x800000 ≤ o ∧ o < 0x801000)

/-- With stack 1 not ready, `j` stands where `k` does in its bring-up, with the same cells at the offsets of `P`. -/
def Steady (P : Nat → Prop) (k j : Pkg) : Prop := k.getF (F.HBM_STATE 1) ≠ 2 → BringKept P k j

section Steady

variable {P : Nat → Prop} (hP : TrainCells P)

namespace Steady

variable {k j l : Pkg}

theorem refl (k : Pkg) : Steady P k k := fun _ => BringKept.refl k

theorem ite {c : Prop} [Decidable c] (h : Steady P k j) (g : Steady P k l) : Steady P k (if c then j else l) := by
  split <;> assumption

theorem setTime (k : Pkg) (T : HallTime) : Steady P k { k with time := T } := fun _ => ⟨rfl, rfl, rfl, rfl, CellsKept.ofRegs rfl⟩

theorem setLport (k : Pkg) (n : Nat) (l : LinkPort) : Steady P k (k.setLport n l) := fun _ => BringKept.setLport k n l

theorem setF (k : Pkg) {f : Fld} (v : Nat) (hf : ¬ P f.off) : Steady P k (k.setF f v) := fun _ => BringKept.setF k v hf

include hP

theorem trans (h : Steady P k j) (g : Steady P j l) : Steady P k l := by
  intro hk
  have hj := h hk
  exact hj.trans (g (by rwa [hj.cells.getF hP.stack]))

theorem thenIf {c : Prop} [Decidable c] (h : Steady P k j) (g : Steady P j l) : Steady P k (if c then l else j) :=
  ite (h.trans hP g) h

theorem foldl {α : Type} (xs : List α) {op : Pkg → α → Pkg} (h : ∀ k, ∀ x ∈ xs, Steady P k (op k x)) (k : Pkg) :
    Steady P k (xs.foldl op k) :=
  List.foldlRecOn xs op (refl k) (fun b hb x hx => hb.trans hP (h b x hx))

theorem ofFab (h : FabOnly k j) : Steady P k j := fun _ => BringKept.ofFab h (fun o ho => by have := hP.among o ho; omega)

/-- Any register elsewhere may be written. -/
theorem write (k : Pkg) {f : Fld} (v : Nat) (hf : f.off < 0x800000 ∧ f.off ≠ 0x80010) : Steady P k (k.setF f v) :=
  setF k v (fun h => by have := hP.among _ h; omega)

theorem thenWrite (h : Steady P k j) {f : Fld} (v : Nat) (hf : f.off < 0x800000 ∧ f.off ≠ 0x80010) : Steady P k (j.setF f v) :=
  h.trans hP (write hP j v hf)

end Steady

include hP

omit hP in
/-- R705, R707: a package whose HBM is not ready does not become READY. -/
theorem Pkg.judgeReady_steady (k : Pkg) : Steady P k k.judgeReady := by
  intro h
  have hready : k.hbmReady = false := by
    rw [Pkg.hbmReady, List.all_eq_false]
    exact ⟨1, by decide, by simpa using h⟩
  have hcriteria : k.criteria = false := by simp [Pkg.criteria, hready]
  unfold Pkg.judgeReady
  rw [if_neg (by simp [hcriteria])]
  exact BringKept.refl k

theorem Pkg.setAlign_steady (k : Pkg) (st : Nat) : Steady P k (k.setAlign st) := by
  unfold Pkg.setAlign
  refine Steady.thenIf hP (Steady.thenIf hP (Steady.thenIf hP (Steady.thenIf hP (Steady.thenIf hP (Steady.write hP k st ?_)
    (Steady.write hP _ 1 ?_)) (Steady.write hP _ 1 ?_)) (Steady.write hP _ 1 ?_)) (Steady.setTime _ _)) (Pkg.judgeReady_steady _)
  all_goals decide

theorem Pkg.setRef_steady (k : Pkg) (r : Nat) : Steady P k (k.setRef r) := by
  unfold Pkg.setRef
  refine Steady.thenIf hP (Steady.thenIf hP (Steady.write hP k r ?_) (Steady.write hP _ 1 ?_)) (Steady.write hP _ 1 ?_)
  all_goals decide

theorem Pkg.selectParent_steady (k : Pkg) : Steady P k k.selectParent := by
  unfold Pkg.selectParent
  refine Steady.thenIf hP (Steady.thenIf hP ?_ (Steady.thenWrite hP (Steady.setTime _ _) 1 (by decide))) (Steady.write hP _ 1 (by decide))
  split
  · refine Steady.trans hP (Steady.thenIf hP ?_ (Pkg.setAlign_steady hP _ 1)) (Pkg.setRef_steady hP _ _)
    refine Steady.thenWrite hP (Steady.thenWrite hP (Steady.thenWrite hP (Steady.write hP k 0 ?_) _ ?_) _ ?_) _ ?_
    all_goals decide
  · have hnone : Steady P k ((k.setF F.HTM_PARENT_PORT 31).setF F.HTM_PARENT_OFFSET 0x80000000) :=
      Steady.thenWrite hP (Steady.write hP k _ (by decide)) _ (by decide)
    refine Steady.ite (Steady.trans hP ?_ (Pkg.setRef_steady hP _ _)) (Steady.thenWrite hP (Steady.thenWrite hP hnone 0 ?_) 255 ?_)
    · refine Steady.thenWrite hP (Steady.thenWrite hP (Steady.thenWrite hP ?_ 1 ?_) 0 ?_) _ ?_
      · exact Steady.ite hnone (hnone.trans hP (Pkg.setAlign_steady hP _ 2))
      all_goals decide
    all_goals decide

theorem Pkg.forgetPeer_steady (k : Pkg) (n : Nat) : Steady P k (k.forgetPeer n) := by
  unfold Pkg.forgetPeer Pkg.loseParent
  exact Steady.thenIf hP (Steady.trans hP (Steady.setTime _ _) (Pkg.selectParent_steady hP _)) (Pkg.setAlign_steady hP _ 3)

theorem Pkg.setRingOut_steady (k : Pkg) (row : Bool) (i : Nat) (out : Bool) : Steady P k (k.setRingOut row i out) := by
  unfold Pkg.setRingOut
  exact Steady.ite (Steady.write hP _ _ (by decide)) (Steady.write hP _ _ (by decide))

/-- R425, R426: mapping a port's link writes at most a word of a map, apart from the port's own register and packets. -/
theorem Pkg.mapPort_steady (k : Pkg) {n : Nat} (hn : n < 20) (out : Bool)
    (hword : n < 16 → ¬ P (F.LNK_MAP (linkNumber k.id n / 64)).off) : Steady P k (k.mapPort n out) := by
  have hmapped : ∀ v, Steady P k (k.setF (F.LNK_MAPPED_OUT n) v) := fun v =>
    Steady.write hP k v (by simp only [F.LNK_MAPPED_OUT]; omega)
  unfold Pkg.mapPort
  dsimp only
  generalize (if out = true then 1 else 0) = o
  split
  · next h16 =>
    refine Steady.ite (hmapped o) (Steady.trans hP (Steady.trans hP (hmapped o) ?_) (Steady.ofFab hP (Pkg.sendRack_frame _ _ _ _)))
    exact Steady.setF _ _ (hword h16)
  · split
    · exact hmapped o
    · refine Steady.ite (hmapped o) (Steady.trans hP ?_
        (Steady.foldl hP _ (fun j v _ => Steady.ofFab hP (Pkg.sendHub_frame j _ _ _ _ _)) _))
      exact (hmapped o).trans hP (Pkg.setRingOut_steady hP _ _ _ _)

/-- What entering a state does before the port's link is mapped out. -/
def Pkg.leaveUp (k : Pkg) (n st : Nat) : Pkg :=
  let j := (k.setF (F.LNK_ST n) st).setLport n { k.lport n with entered := k.now }
  if k.linkSt n = 5 ∧ st ≠ 5 then (j.raise (F.LNK_EV_DOWN n)).forgetPeer n else j

omit hP in
theorem Pkg.enterPort_eq (k : Pkg) (n : Nat) {st : Nat} (hst : st ≠ 5) : k.enterPort n st = (k.leaveUp n st).mapPort n true := by
  unfold Pkg.enterPort Pkg.leaveUp
  exact if_neg hst

theorem Pkg.leaveUp_steady (k : Pkg) {n : Nat} (hn : n < 20) (st : Nat) : Steady P k (k.leaveUp n st) := by
  refine Steady.thenIf hP (Steady.trans hP (Steady.write hP k st ?_) (Steady.setLport _ n _))
    (Steady.trans hP (Steady.write hP _ 1 ?_) (Pkg.forgetPeer_steady hP _ n))
  · simp only [F.LNK_ST]; omega
  · simp only [F.LNK_EV_DOWN]; omega

/-- What a port's turn of training does before the port's link is mapped out. -/
def Pkg.startDetect (k : Pkg) (n : Nat) : Pkg :=
  let j := ((k.setF (F.LNK_RETRAINING n) 0).setF (F.LNK_FAIL_CAUSE n) 0).setF (F.LNK_MIS_CAUSE n) 0
  (j.setLport n { j.lport n with attempts := 0, bringUp := true, detectAt := j.now, idRun := 0, spareReq := none, peerSpare := none }).leaveUp n 1

omit hP in
theorem Pkg.enterDetect_eq (k : Pkg) (n : Nat) : k.enterDetect n = (k.startDetect n).mapPort n true :=
  Pkg.enterPort_eq _ n (st := 1) (by decide)

theorem Pkg.startDetect_steady (k : Pkg) {n : Nat} (hn : n < 20) : Steady P k (k.startDetect n) := by
  unfold Pkg.startDetect
  refine Steady.trans hP (Steady.trans hP (Steady.thenWrite hP (Steady.thenWrite hP (Steady.write hP k 0 ?_) 0 ?_) 0 ?_) (Steady.setLport _ n _))
    (Pkg.leaveUp_steady hP _ hn 1)
  · simp only [F.LNK_RETRAINING]; omega
  · simp only [F.LNK_FAIL_CAUSE]; omega
  · simp only [F.LNK_MIS_CAUSE]; omega

/-- A port's turn of the lineup becoming ACTIVE: training of an enabled port begins. -/
def Pkg.trainPort (later : Bool) (k : Pkg) (n : Nat) : Pkg :=
  if k.portEnabled n then (k.setLport n { k.lport n with restoreAtEpoch := later }).enterDetect n else k

/-- An enabled port's turn before its link is mapped out. -/
def Pkg.startTraining (later : Bool) (k : Pkg) (n : Nat) : Pkg :=
  (k.setLport n { k.lport n with restoreAtEpoch := later }).startDetect n

theorem Pkg.startTraining_steady (later : Bool) (k : Pkg) {n : Nat} (hn : n < 20) : Steady P k (k.startTraining later n) :=
  (Steady.setLport k n _).trans hP (Pkg.startDetect_steady hP _ hn)

omit hP in
theorem Pkg.trainPort_of_enabled (later : Bool) {k : Pkg} {n : Nat} (h : k.portEnabled n = true) :
    k.trainPort later n = (k.startTraining later n).mapPort n true := by
  unfold Pkg.trainPort
  rw [if_pos h, Pkg.enterDetect_eq]
  rfl

theorem Pkg.trainPort_steady (later : Bool) (k : Pkg) {n : Nat} (hn : n < 20)
    (hword : n < 16 → ¬ P (F.LNK_MAP (linkNumber k.id n / 64)).off) : Steady P k (k.trainPort later n) := by
  by_cases henabled : k.portEnabled n = true
  · intro hk
    have hstart := Pkg.startTraining_steady hP later k hn
    rw [Pkg.trainPort_of_enabled later henabled]
    refine hstart.trans hP (Pkg.mapPort_steady hP _ hn true ?_) hk
    rwa [Pkg.id, (hstart hk).straps]
  · unfold Pkg.trainPort
    rw [if_neg henabled]
    exact Steady.refl k

end Steady

section Commands

variable {s : State} {p : PkgId} {t₀ : Nat}

/-- BOOT_SET_VERIFIED that ends with the package alive changes the package alone. -/
theorem bootSetVerified_alive (h : ((s.pkg p).at t₀).bootVerified.boot.dead = false) :
    Completes (.bootSetVerified p t₀) s (fun t => t.pkg p = ((s.pkg p).at t₀).bootVerified) := by
  refine ⟨_, exec_bootSetVerified p t₀ s, ?_⟩
  simp [h]

/-- BOOT_SET_VERIFIED that ends with the package dead holds its tray. -/
theorem bootSetVerified_dies (halive : (s.pkg p).boot.dead = false) (h : ((s.pkg p).at t₀).bootVerified.boot.dead = true) :
    Completes (.bootSetVerified p t₀) s (fun t => (t.pkg p).boot.dead = true ∧ (t.tray (trayOf p)).held = true) := by
  obtain ⟨hheld, hkept⟩ := State.hubDead_holds (s.updPkg p (fun k => (k.at t₀).bootVerified)) p t₀
  rw [State.pkg_updPkg_same, h] at hkept
  refine ⟨_, exec_bootSetVerified p t₀ s, ?_⟩
  simp [h, halive, hkept, hheld]

theorem bootSetVerified_completes (hstep : (s.pkg p).bring.step = 1) (hreleased : (s.pkg p).bring.released.isSome = true)
    (hrecord : ((s.pkg p).at t₀).bootRecord = none) (halive : (s.pkg p).boot.dead = false) :
    Completes (.bootSetVerified p t₀) s (fun t =>
      if ((s.pkg p).at t₀).bootSet 0 = 0 ∨ ((s.pkg p).at t₀).bootSet 1 = 0
      then (t.pkg p).bring.runtime = true ∧ (t.pkg p).bring.step = 2 ∧ (t.pkg p).getF F.LUP_ST = 1
      else (t.pkg p).boot.dead = true ∧ (t.tray (trayOf p)).held = true) := by
  obtain ⟨hruns, hdies⟩ := Pkg.bootVerified_outcome ((s.pkg p).at t₀) hstep hreleased hrecord
  by_cases hpasses : ((s.pkg p).at t₀).bootSet 0 = 0 ∨ ((s.pkg p).at t₀).bootSet 1 = 0
  · obtain ⟨hruntime, hlineup, hlup, hdead⟩ := hruns hpasses
    refine (bootSetVerified_alive (hdead.trans halive)).mono (fun t ht => ?_)
    rw [if_pos hpasses, ht]
    exact ⟨hruntime, hlineup, hlup⟩
  · refine (bootSetVerified_dies halive (hdies hpasses)).mono (fun t ht => ?_)
    rwa [if_neg hpasses]

theorem hbmTrainingComplete_completes {failed : Nat} (hstep : (s.pkg p).bring.step = 3) (huntrained : (s.pkg p).bring.hbmTrained = false) :
    Completes (.hbmTrainingComplete p failed t₀) s (fun t => t.pkg p =
      ((((s.pkg p).at t₀).forEach 8 (Pkg.trainStack failed)).updBring (fun b => { b with hbmTrained := true })).endMemoryPorts) := by
  refine ⟨_, rfl, ?_⟩
  simp [hstep, huntrained]
  rfl

theorem hbmTestComplete_completes {failed : Nat} {repairs : List Nat} (hstep : (s.pkg p).bring.step = 3)
    (htrained : (s.pkg p).bring.hbmTrained = true) (hcold : (s.pkg p).getF F.GLB_BU_COLD = 1)
    (hunsettled : ((s.pkg p).at t₀).hbmSettled = false) :
    Completes (.hbmTestComplete p failed repairs t₀) s (fun t =>
      t.pkg p = (((s.pkg p).at t₀).forEach 8 (Pkg.countRepairs repairs)).hbmZeroed failed) := by
  refine ⟨_, rfl, ?_⟩
  simp [hstep, htrained, hunsettled, Pkg.flag, hcold]
  rfl

theorem hbmZeroingComplete_completes (hstep : (s.pkg p).bring.step = 3) (htrained : (s.pkg p).bring.hbmTrained = true)
    (hwarm : (s.pkg p).getF F.GLB_BU_COLD = 0) (hunsettled : ((s.pkg p).at t₀).hbmSettled = false) :
    Completes (.hbmZeroingComplete p t₀) s (fun t => t.pkg p = ((s.pkg p).at t₀).hbmZeroed 0) := by
  refine ⟨_, rfl, ?_⟩
  simp [hstep, htrained, hunsettled, Pkg.flag, hwarm]

theorem portPhaseEnd_completes (hstep : (s.pkg p).bring.step = 3) (hopen : (s.pkg p).bring.portsAt = none)
    (hsettled : ((s.pkg p).at t₀).portsSettled = true) :
    Completes (.portPhaseEnd p t₀) s (fun t => t.pkg p = ((s.pkg p).at t₀).endPortPhase) := by
  refine ⟨_, rfl, ?_⟩
  simp [hstep, hopen, hsettled]
  rfl

/-- R699, R701: GO over I3C starts the waves of a package in CORES_PENDING. -/
theorem exec_go_i3c : exec (.go p .i3c t₀) s = .next (s.updPkg p (fun k => (k.at t₀).startWaves)) := rfl

theorem go_completes : Completes (.go p .i3c t₀) s (fun t => t.pkg p = ((s.pkg p).at t₀).startWaves) :=
  ⟨_, exec_go_i3c, State.pkg_updPkg_same _ _ _⟩

theorem goFallback_completes (hstep : (s.pkg p).bring.step = 4)
    (hlate : (s.pkg p).bring.pendingAt + 10000000000 + socketOf p * 1000000 ≤ ((s.pkg p).at t₀).now) :
    Completes (.goFallback p t₀) s (fun t => t.pkg p = ((s.pkg p).at t₀).startWaves) := by
  refine ⟨_, rfl, (State.pkg_updPkg_same _ _ _).trans ?_⟩
  exact if_pos ⟨hstep, hlate⟩

/-- R699: the first GO of a tray fixes its phase origin. -/
theorem tmcGoDispatch_completes (hstep : (s.pkg p).bring.step = 4) (haux : (s.tray (trayOf p)).aux = true)
    (hfirst : (s.tray (trayOf p)).origin = none) :
    Completes (.tmcGoDispatch p t₀) s (fun t => t.pkg p = ((s.pkg p).at t₀).startWaves ∧
      (t.tray (trayOf p)).origin = some (t₀ + 4000000 - socketOf p * 1000000)) := by
  have hphase : (t₀ + 4000000 - socketOf p * 1000000) % 4000000 =
      (s.tray (trayOf p)).origin.getD (t₀ + 4000000 - socketOf p * 1000000) % 4000000 := by rw [hfirst, Option.getD_none]
  refine ⟨_, if_pos ⟨hstep, haux, hphase⟩, ?_, ?_⟩
  · rw [State.pkg_updTray, State.pkg_updPkg_same]
  · rw [State.tray_updTray_same _ (trayOf_lt p), hfirst, Option.getD_none]

theorem waveStart_completes {go : Nat} (hgo : (s.pkg p).bring.goAt = some go) (hstep : (s.pkg p).bring.step = 5)
    (hmore : (s.pkg p).bring.waves < 8) (hdue : go + 4000000 * (s.pkg p).bring.waves ≤ ((s.pkg p).at t₀).now) :
    Completes (.waveStart p t₀) s (fun t => t.pkg p = ((s.pkg p).at t₀).startWave) := by
  refine ⟨_, rfl, (State.pkg_updPkg_same _ _ _).trans ?_⟩
  simp only [Pkg.at_bring, hgo]
  exact if_neg (by omega)

theorem bistComplete_completes {core : CoreId} {pass : Bool} {units bank : Nat} (hrunning : (s.pkg p).getF (F.CORE_BIST_RESULT core) = 3)
    (hstep : (s.pkg p).bring.step = 5) :
    Completes (.bistComplete p core pass units bank t₀) s (fun t =>
      t.pkg p = { ((s.pkg p).at t₀).endBist core pass units bank with notices := [] }) := by
  refine ⟨_, rfl, ?_⟩
  have hend : ∀ f : Pkg → Pkg, f (s.pkg p) = ((s.pkg p).at t₀).endBist core pass units bank →
      (s.updMap p f).pkg p = { ((s.pkg p).at t₀).endBist core pass units bank with notices := [] } := by
    intro f hf
    rw [State.pkg_updMap_of_vacant_kept, hf]
    rw [hf]
    exact CellsKept.trans (CellsKept.ofRegs rfl) (Pkg.endBist_kept _ core pass units bank (fun o ho => by omega))
  refine hend _ ?_
  dsimp only
  rw [Pkg.getF_at, if_neg (not_not.mpr hrunning)]
  exact if_pos hstep

theorem mapComplete_completes (hstep : (s.pkg p).bring.step = 6) (hunmapped : (s.pkg p).bring.mapped = false) :
    Completes (.mapComplete p t₀) s (fun t => t.pkg p = ((s.pkg p).at t₀).buildMap.judgeMap) := by
  refine ⟨_, rfl, (State.pkg_updPkg_same _ _ _).trans ?_⟩
  exact if_neg (by simp [hstep, hunmapped])

theorem readyDeadline_completes {r : Nat} (hreleased : (s.pkg p).bring.released = some r) (hstep : (s.pkg p).bring.step ≠ 7)
    (hfirst : (s.pkg p).bring.late = false) (hdue : r + 20000000000 ≤ ((s.pkg p).at t₀).now) :
    Completes (.readyDeadline p t₀) s (fun t => t.pkg p = ((s.pkg p).at t₀).missDeadline r) := by
  refine ⟨_, rfl, (State.pkg_updPkg_same _ _ _).trans ?_⟩
  simp only [Pkg.at_bring, hreleased]
  refine if_neg ?_
  rw [hfirst]
  simp only [Bool.false_eq_true, false_or]
  omega

theorem pcieTrainingStart_completes {r : Nat} (hreleased : (s.pkg p).bring.released = some r)
    (hdue : r + 40000000 ≤ ((s.pkg p).at t₀).now) (hst : (s.pkg p).getF F.LNK_H_ST = 0) :
    Completes (.pcieTrainingStart p t₀) s (fun t => t.pkg p = ((s.pkg p).at t₀).setF F.LNK_H_ST 1) := by
  refine ⟨_, rfl, (State.pkg_updPkg_same _ _ _).trans ?_⟩
  simp only [Pkg.at_bring, hreleased]
  exact if_pos ⟨hdue, hst⟩

theorem pcieLinkTrained_completes {rate width : Nat} {flit : Bool} (hst : (s.pkg p).getF F.LNK_H_ST = 1) :
    Completes (.pcieLinkTrained p rate width flit t₀) s (fun t => t.pkg p = ((s.pkg p).at t₀).showPcie rate width flit) := by
  refine ⟨_, rfl, (State.pkg_updPkg_same _ _ _).trans ?_⟩
  exact if_neg (not_not.mpr hst)

end Commands

end Sys2Proof.Machine
end

section
/-! PROOFS. The end of LINEUP (R671, R686–R689): a lineup is refused, or ACTIVE with the memory in training. The ports train at the same
time, and of a package of a rack they do not touch the memory. -/

namespace Sys2Proof.Machine

/-! ### Loading a lineup (R671)

A load writes registers: what no register write changes is as before, but for the active lineup. -/

section Loading

variable {β : Type} {v : Pkg → β} (hv : ∀ k f x, v (Pkg.setF k f x) = v k)

theorem Pkg.foldl_unchanged {α : Type} {op : Pkg → α → Pkg} (h : ∀ j x, v (op j x) = v j) (xs : List α) (k : Pkg) :
    v (xs.foldl op k) = v k :=
  List.foldlRecOn (motive := fun j : Pkg => v j = v k) xs op rfl (fun j hj x _ => (h j x).trans hj)

include hv

theorem Pkg.loadLive_unchanged (k : Pkg) (l : Lineup) : v (k.loadLive l) = v k := by
  unfold Pkg.loadLive Pkg.forEach
  repeat rw [hv]
  rw [Pkg.foldl_unchanged (v := v), Pkg.foldl_unchanged (v := v), Pkg.foldl_unchanged (v := v)]
  · repeat rw [hv]
  · exact fun j c => hv j _ _
  · intro j c
    split
    · rfl
    · exact hv j _ _
  · exact fun j s => hv j _ _

theorem Pkg.loadPart_unchanged (k : Pkg) (i : Nat) (p : PartEntry) : v (k.loadPart i p) = v k := by
  unfold Pkg.loadPart
  rw [Pkg.foldl_unchanged (v := v)]
  · repeat rw [hv]
  · intro j c
    split
    · rw [hv, hv]
    · rfl

theorem Pkg.loadLineup_unchanged (k : Pkg) (l : Lineup) :
    v (k.loadLineup l) = v k ∨ v (k.loadLineup l) = v { k with lup := { k.lup with active := some l } } := by
  unfold Pkg.loadLineup
  split
  · exact .inl rfl
  · right
    unfold Pkg.forEach Pkg.showLineup
    rw [Pkg.loadLive_unchanged hv, Pkg.foldl_unchanged (v := v)]
    · repeat rw [hv]
      rw [Pkg.foldl_unchanged (v := v) (fun j n => hv j _ _), hv, Pkg.foldl_unchanged (v := v) (fun j x => Pkg.loadPart_unchanged hv j _ _),
        Pkg.foldl_unchanged (v := v) (fun j n => hv j _ _)]
      repeat rw [hv]
    · exact fun j n => Pkg.foldl_unchanged (v := v) (fun j s => (hv _ _ _).trans (hv _ _ _)) _ _

end Loading

/-! ### LINEUP (R671, R686–R688) -/

/-- A check of a lineup is recorded in `LUP_CHECK` and the error log. -/
theorem Pkg.noteCheck_kept {P : Nat → Prop} (k : Pkg) (st : Status) (tag off : Nat) (hP : ∀ o, P o → o ≠ 0x80018 ∧ o < 0x3000000) :
    BringKept P k (k.noteCheck st tag off) := by
  have hcheck : ¬ P 0x80018 := fun h => (hP _ h).1 rfl
  have hnoted := ((BringKept.setF k (f := F.LUP_CK_TAG) tag hcheck).thenF (f := F.LUP_CK_OFFSET) off hcheck).thenF
    (f := F.LUP_CK_STATUS) st hcheck
  unfold Pkg.noteCheck Pkg.report
  exact BringKept.ite hnoted (hnoted.trans (BringKept.ofErr (Pkg.logError_frame _ _ _ _ _) (fun o ho => (hP o ho).2)))

theorem Pkg.noteCheck_status (k : Pkg) (st : Status) (tag off : Nat) :
    (k.noteCheck st tag off).getF F.LUP_CK_STATUS = st % 2 ^ 16 := by
  unfold Pkg.noteCheck Pkg.report
  dsimp only
  split
  · exact Pkg.getF_setF_same _ _ _ rfl
  · exact (Pkg.getF_logError _ _ _ _ _ (by decide)).trans (Pkg.getF_setF_same _ _ _ rfl)

/-- The boot record in use is read from flash. -/
theorem Pkg.bc_of_flash {k j : Pkg} (h : j.flash = k.flash) : j.bc = k.bc := by
  have hread : ∀ a n, j.flashRead a n = k.flashRead a n := fun a n => by
    unfold Pkg.flashRead
    rw [h]
  unfold Pkg.bc Pkg.bootRecord
  rw [hread, hread]

/-- R687, R688: the lineup is refused, and the package is HELD. -/
def Pkg.refuseLineup (k : Pkg) (st : Status) (tag off : Nat) : Pkg :=
  ((((k.noteCheck st tag off).setF F.LUP_ST 3).buStatus st .package 0).raise F.GLB_HOLD_LINEUP).enterPhase 8

theorem Pkg.refuseLineup_shows (k : Pkg) (st : Status) (tag off : Nat) :
    (k.refuseLineup st tag off).getF F.LUP_ST = 3 ∧ (k.refuseLineup st tag off).bring.step = 8 ∧
    (k.refuseLineup st tag off).getF F.GLB_HOLD_LINEUP = 1 ∧ (k.refuseLineup st tag off).getF F.LUP_CK_STATUS = st % 2 ^ 16 := by
  unfold Pkg.refuseLineup Pkg.raise
  refine ⟨?_, ?_, ?_, ?_⟩
  · rw [Pkg.getF_enterPhase _ (by decide) (by decide), Pkg.getF_setF_apart _ _ _ _ (by decide),
      Pkg.getF_buStatus _ _ _ _ (by decide) (by decide)]
    exact Pkg.getF_setF_same _ _ _ rfl
  · rw [Pkg.enterPhase_bring]
  · rw [Pkg.getF_enterPhase _ (by decide) (by decide)]
    exact Pkg.getF_setF_same _ _ _ rfl
  · rw [Pkg.getF_enterPhase _ (by decide) (by decide), Pkg.getF_setF_apart _ _ _ _ (by decide),
      Pkg.getF_buStatus _ _ _ _ (by decide) (by decide), Pkg.getF_setF_apart _ _ _ _ (by decide)]
    exact k.noteCheck_status st tag off

section Loaded

variable {k : Pkg} (hstep : k.bring.step = 2) (hproceed : k.bring.proceed = true)
include hstep hproceed

theorem Pkg.lineupLoaded_accepted {l : Lineup} (h : k.checkLineup (k.storedImage 4 k.bc.source) = .ok l) :
    k.lineupLoaded = k.lineupActive l := by
  unfold Pkg.lineupLoaded
  rw [if_neg (by simp [hstep, hproceed]), h]

theorem Pkg.lineupLoaded_refused {e : Status × Nat × Nat} (hconfirmed : k.bc.state ≠ 2)
    (h : k.checkLineup (k.storedImage 4 k.bc.source) = .error e) : k.lineupLoaded = k.refuseLineup e.1 e.2.1 e.2.2 := by
  have hbc : (k.noteCheck e.1 e.2.1 e.2.2).bc.state ≠ 2 := by
    rwa [Pkg.bc_of_flash (k.noteCheck_kept (P := fun _ => False) _ _ _ (fun _ ho => ho.elim)).flash]
  unfold Pkg.lineupLoaded
  rw [if_neg (by simp [hstep, hproceed]), h]
  exact if_neg hbc

/-- R687, R688: a refused lineup is shown, and the package is HELD. -/
theorem Pkg.lineupLoaded_refusal {e : Status × Nat × Nat} (hconfirmed : k.bc.state ≠ 2)
    (h : k.checkLineup (k.storedImage 4 k.bc.source) = .error e) :
    k.lineupLoaded.getF F.LUP_ST = 3 ∧ k.lineupLoaded.bring.step = 8 ∧ k.lineupLoaded.getF F.GLB_HOLD_LINEUP = 1 ∧
    k.lineupLoaded.getF F.LUP_CK_STATUS = e.1 % 2 ^ 16 := by
  rw [Pkg.lineupLoaded_refused hstep hproceed hconfirmed h]
  exact k.refuseLineup_shows _ _ _

end Loaded

/-- LINEUP ends: the lineup is ACTIVE, its image is shown, and MEMORY_PORTS begins. -/
def Pkg.endLineup (k : Pkg) (l : Lineup) : Pkg :=
  ((((k.noteCheck 0 0 0).loadLineup l).setF F.LUP_ST 2).showRunningImage 4 k.bc.source).enterPhase 3

/-- Training of every HBM stack begins. -/
def Pkg.startStacks (k : Pkg) : Pkg := k.forEach 8 (fun k i => k.setF (F.HBM_STATE i) 1)

theorem Pkg.lineupActive_eq (k : Pkg) (l : Lineup) :
    ∃ later, k.lineupActive l = (k.endLineup l).startStacks.forEach 20 (Pkg.trainPort later) := ⟨_, rfl⟩

theorem Pkg.endLineup_active (k : Pkg) (l : Lineup) : (k.endLineup l).getF F.LUP_ST = 2 ∧ (k.endLineup l).bring.step = 3 := by
  unfold Pkg.endLineup Pkg.showRunningImage
  refine ⟨?_, by rw [Pkg.enterPhase_bring]⟩
  rw [Pkg.getF_enterPhase _ (by decide) (by decide)]
  dsimp only
  rw [Pkg.getF_setF_apart _ _ _ _ (by decide), Pkg.getF_setF_apart _ _ _ _ (by decide)]
  exact Pkg.getF_setF_same _ _ _ rfl

theorem Pkg.enterPhase_placed (k : Pkg) (n : Nat) : (k.enterPhase n).straps = k.straps ∧ (k.enterPhase n).lup = k.lup := by
  unfold Pkg.enterPhase
  dsimp only
  split <;> exact ⟨rfl, rfl⟩

theorem Pkg.endLineup_straps (k : Pkg) (l : Lineup) : (k.endLineup l).straps = k.straps := by
  have hload := Pkg.loadLineup_unchanged (v := Pkg.straps) (fun _ _ _ => rfl) (k.noteCheck 0 0 0) l
  have hnote := (k.noteCheck_kept (P := fun _ => False) 0 0 0 (fun _ ho => ho.elim)).straps
  unfold Pkg.endLineup Pkg.showRunningImage
  rw [(Pkg.enterPhase_placed _ _).1]
  exact (or_self_iff.mp hload).trans hnote

/-- An active lineup that is loaded again stays active. -/
theorem Pkg.endLineup_lineup (k : Pkg) (l : Lineup) (h : k.lup.active = some l) : (k.endLineup l).lup.active = some l := by
  have hload := Pkg.loadLineup_unchanged (v := fun k => k.lup.active) (fun _ _ _ => rfl) (k.noteCheck 0 0 0) l
  have hnote := (k.noteCheck_kept (P := fun _ => False) 0 0 0 (fun _ ho => ho.elim)).lup
  unfold Pkg.endLineup Pkg.showRunningImage
  rw [(Pkg.enterPhase_placed _ _).2]
  refine hload.elim (fun hkept => hkept.trans ?_) (fun hset => hset)
  rwa [hnote]

theorem Pkg.startStacks_kept {P : Nat → Prop} (k : Pkg) (hP : ∀ o, P o → o < 0x800000) : BringKept P k k.startStacks := by
  refine BringKept.foldl _ (fun j i _ => BringKept.setF j 1 (fun h => absurd (hP _ h) ?_)) k
  simp only [F.HBM_STATE]
  omega

/-- R690: each stack is in training. -/
theorem Pkg.startStacks_state (k : Pkg) {i : Nat} (hi : i < 8) : k.startStacks.getF (F.HBM_STATE i) = 1 := by
  obtain ⟨j, -, hafter⟩ := Pkg.forEach_hbm hi (op := fun k i => k.setF (F.HBM_STATE i) 1)
    (fun j y hy => CellsKept.setF j 1 (by simp only [F.HBM_STATE]; omega)) k
  exact (hafter.getF (hbmOf_state i)).trans (Pkg.getF_setF_same _ _ _ rfl)

/-- R671, R689: the lineup is ACTIVE and every HBM stack is in training. -/
def Pkg.memoryTrains (k : Pkg) : Prop := k.getF F.LUP_ST = 2 ∧ k.bring.step = 3 ∧ ∀ i, i < 8 → k.getF (F.HBM_STATE i) = 1

theorem Pkg.startStacks_trains (k : Pkg) (l : Lineup) : (k.endLineup l).startStacks.memoryTrains := by
  obtain ⟨hactive, hstep⟩ := k.endLineup_active l
  have hkept := (k.endLineup l).startStacks_kept (P := (· = 0x80010)) (fun o ho => by omega)
  exact ⟨(hkept.cells.getF (f := F.LUP_ST) rfl).trans hactive, by rw [hkept.bring, hstep], fun i hi => Pkg.startStacks_state _ hi⟩

/-- The registers that show the lineup's state and the stacks'. -/
abbrev trainRegs (o : Nat) : Prop := o = 0x80010 ∨ (0x800000 ≤ o ∧ o < 0x801000)

theorem trainRegs_cells : TrainCells trainRegs := ⟨.inr (by decide), fun _ h => h⟩

theorem Pkg.memoryTrains.of_kept {k j : Pkg} (hkept : BringKept trainRegs k j) (h : k.memoryTrains) : j.memoryTrains := by
  obtain ⟨hlup, hstep, hstacks⟩ := h
  refine ⟨(hkept.cells.getF (f := F.LUP_ST) (.inl rfl)).trans hlup, by rw [hkept.bring, hstep], fun i hi => ?_⟩
  exact (hkept.cells.getF (f := F.HBM_STATE i) (.inr (by simp only [F.HBM_STATE]; omega))).trans (hstacks i hi)

/-- The braid links of a rack are numbered below 576, in nine words of the map (R379, R425). -/
theorem linkNumber_lt {i n : Nat} (hi : i < 72) (hn : n < 16) : linkNumber i n < 576 := by
  unfold linkNumber
  dsimp only
  split <;> omega

/-- R689: the ports' training leaves a stack that is not ready, and the registers of `P`, as they are, whatever the ports are, when the
words of the map that hold their links are not of `P`. -/
theorem Pkg.trainPorts_steady {P : Nat → Prop} (hP : TrainCells P) (later : Bool) (k : Pkg)
    (hword : ∀ n < 16, ¬ P (F.LNK_MAP (linkNumber k.id n / 64)).off) : Steady P k (k.forEach 20 (Pkg.trainPort later)) := by
  intro hk
  refine List.foldlRecOn (motive := fun j : Pkg => BringKept P k j) _ _ (BringKept.refl k) (fun j hj n hn => hj.trans ?_)
  refine Pkg.trainPort_steady hP later j (List.mem_range.mp hn) (fun h16 => ?_) ?_
  · rw [Pkg.id, hj.straps]
    exact hword n h16
  · rwa [hj.cells.getF hP.stack]

/-- R689: the ports of a package of a rack train without touching its memory. -/
theorem Pkg.lineupActive_trains (k : Pkg) (l : Lineup) (hid : k.id < 72) : (k.lineupActive l).memoryTrains := by
  obtain ⟨later, heq⟩ := k.lineupActive_eq l
  have htrains := k.startStacks_trains l
  have hstraps : (k.endLineup l).startStacks.id = k.id := by
    rw [Pkg.id, ((k.endLineup l).startStacks_kept (P := fun _ => False) (fun _ ho => ho.elim)).straps, k.endLineup_straps l, Pkg.id]
  rw [heq]
  refine htrains.of_kept (Pkg.trainPorts_steady trainRegs_cells later _ (fun n hn => ?_) ?_)
  · have := linkNumber_lt hid hn
    rw [hstraps]
    simp only [F.LNK_MAP]
    omega
  · rw [htrains.2.2 1 (by decide)]
    decide

section Ends

variable {s : State} {p : PkgId} {t₀ : Nat}

theorem serialWaitTimeout_completes (hstep : (s.pkg p).bring.step = 2) (hserial : (s.pkg p).getF F.GLB_BU_SERIAL_SET = 0)
    (hdue : (s.pkg p).bring.phaseAt + 4000000000 ≤ ((s.pkg p).at t₀).now) :
    Completes (.serialWaitTimeout p t₀) s (fun t => (t.pkg p).bring = { (s.pkg p).bring with proceed := true }) := by
  refine ⟨_, rfl, (congrArg Pkg.bring (State.pkg_updPkg_same _ _ _)).trans ?_⟩
  dsimp only
  rw [if_pos ⟨hstep, by simp [Pkg.flag, hserial], hdue⟩]
  rfl

theorem lineupLoadComplete_completes :
    Completes (.lineupLoadComplete p t₀) s (fun t => t.pkg p = ((s.pkg p).at t₀).lineupLoaded) :=
  ⟨_, rfl, State.pkg_updPkg_same _ _ _⟩

/-- R671, R687, R688 for a package of a rack: the lineup is ACTIVE and the memory trains, or the lineup is refused. -/
theorem lineupLoadComplete_ends (hid : (s.pkg p).id < 72) (hstep : (s.pkg p).bring.step = 2) (hproceed : (s.pkg p).bring.proceed = true)
    (hconfirmed : ((s.pkg p).at t₀).bc.state ≠ 2) :
    Completes (.lineupLoadComplete p t₀) s (fun t =>
      match ((s.pkg p).at t₀).checkLineup (((s.pkg p).at t₀).storedImage 4 ((s.pkg p).at t₀).bc.source) with
      | .ok _ => (t.pkg p).memoryTrains
      | .error e => (t.pkg p).getF F.LUP_ST = 3 ∧ (t.pkg p).bring.step = 8 ∧ (t.pkg p).getF F.GLB_HOLD_LINEUP = 1 ∧
          (t.pkg p).getF F.LUP_CK_STATUS = e.1 % 2 ^ 16) := by
  have haccepted : ∀ l, _ → ((s.pkg p).at t₀).lineupLoaded.memoryTrains := fun l h =>
    (Pkg.lineupLoaded_accepted (k := (s.pkg p).at t₀) hstep hproceed (l := l) h) ▸ Pkg.lineupActive_trains _ l hid
  have hrefused := fun e => Pkg.lineupLoaded_refusal (k := (s.pkg p).at t₀) hstep hproceed (e := e) hconfirmed
  refine lineupLoadComplete_completes.mono (fun t ht => ?_)
  rw [ht]
  generalize ((s.pkg p).at t₀).checkLineup _ = checked at *
  cases checked with
  | ok l => exact haccepted l rfl
  | error e => exact hrefused e rfl

theorem linkUp (hst : (s.pkg p).getF F.LNK_H_ST = 2) : ¬ ((s.pkg p).at t₀).getF F.LNK_H_ST ≠ 2 := not_not.mpr hst

/-- R716: no configuration request is answered before the hub runtime runs. -/
theorem pcieConfigRequest_retried {fn : Root} {req : CfgReq} (hst : (s.pkg p).getF F.LNK_H_ST = 2) (hruntime : (s.pkg p).bring.runtime = false) :
    Completes (.pcieConfigRequest p fn req t₀) s (fun t => (t.pkg p).host.cfg = .retry) := by
  refine ⟨_, rfl, (congrArg (fun k : Pkg => k.host.cfg) (State.pkg_updPkg_same _ _ _)).trans ?_⟩
  dsimp only
  rw [if_neg (linkUp hst), if_pos (by simp [hruntime])]

section Answered

variable (hst : (s.pkg p).getF F.LNK_H_ST = 2) (hruntime : (s.pkg p).bring.runtime = true)
include hst hruntime

theorem pcieConfigRequest_vendor {fn : Root} :
    Completes (.pcieConfigRequest p fn .vendor t₀) s (fun t => (t.pkg p).host.cfg = .data 0x1F3C) := by
  refine ⟨_, rfl, (congrArg (fun k : Pkg => k.host.cfg) (State.pkg_updPkg_same _ _ _)).trans ?_⟩
  dsimp only
  rw [if_neg (linkUp hst), if_neg (by simp [hruntime])]

theorem pcieConfigRequest_class {fn : Root} :
    Completes (.pcieConfigRequest p fn .class_ t₀) s (fun t => (t.pkg p).host.cfg = .data 0x120000) := by
  refine ⟨_, rfl, (congrArg (fun k : Pkg => k.host.cfg) (State.pkg_updPkg_same _ _ _)).trans ?_⟩
  dsimp only
  rw [if_neg (linkUp hst), if_neg (by simp [hruntime])]

theorem pcieConfigRequest_vfEnable (on : Bool) :
    Completes (.pcieConfigRequest p 4 (.vfEnable on) t₀) s (fun t => (t.pkg p).host.vfEnable = on) := by
  refine ⟨_, rfl, (congrArg (fun k : Pkg => k.host.vfEnable) (State.pkg_updPkg_same _ _ _)).trans ?_⟩
  dsimp only
  rw [if_neg (linkUp hst), if_neg (by simp [hruntime])]
  rfl

end Answered

end Ends

end Sys2Proof.Machine
end

section
/-! PROOFS. A bring-up as a whole. Every clause but that of an accepted lineup holds of every package. That clause fails of a package whose
strap number is far beyond the rack, and is empty where no lineup is accepted; which of the two it is rests on the signature predicates,
which the model leaves open (log entry 17). For the packages of a rack it holds: `lineupLoadComplete_ends`. -/

namespace Sys2Proof.Machine

/-- Every accepted lineup that ends LINEUP trains the memory, on whatever package. -/
def AcceptedLineupsTrain : Prop :=
  ∀ (k : Pkg) (l : Lineup), k.bring.step = 2 → k.bring.proceed = true → k.bc.state ≠ 2 →
    k.checkLineup (k.storedImage 4 k.bc.source) = .ok l → (k.lineupActive l).memoryTrains

/-- Each clause of a bring-up but that of an accepted lineup holds of every package; that clause is `AcceptedLineupsTrain`. -/
theorem bringUpProceeds_of_acceptedLineupsTrain (htrain : AcceptedLineupsTrain) : Obligations.BringUpProceeds := by
  unfold Obligations.BringUpProceeds
  intro s p t₀
  refine ⟨fun hstep hreleased hrecord halive => bootSetVerified_completes hstep hreleased hrecord halive,
    fun hstep hserial hdue => serialWaitTimeout_completes hstep hserial hdue, fun hstep hproceed hconfirmed => ?_,
    fun failed hstep huntrained => ?_, fun failed repairs hstep htrained hcold hunsettled => ?_,
    fun hstep htrained hwarm hunsettled => ?_, fun hstep hopen hsettled => ?_, fun hstep => ?_, fun hstep => ?_,
    fun hstep hlate => ?_, fun hstep haux hfirst => ?_, fun go hgo hstep hmore hdue => ?_,
    fun core pass units bank hrunning hstep => ?_, fun hstep hunmapped => ?_, fun r hreleased hstep hfirst hdue => ?_,
    fun r hreleased hdue hst => ?_, fun rate width flit hst hrate hwidth => ?_, fun fn req hst hruntime => ?_,
    fun fn hst hruntime => ?_⟩
  · have haccepted := fun l hl => (Pkg.lineupLoaded_accepted (k := (s.pkg p).at t₀) hstep hproceed (l := l) hl) ▸
      htrain _ l hstep hproceed hconfirmed hl
    have hrefused := fun e => Pkg.lineupLoaded_refusal (k := (s.pkg p).at t₀) hstep hproceed (e := e) hconfirmed
    refine lineupLoadComplete_completes.mono (fun t ht => ?_)
    rw [ht]
    generalize ((s.pkg p).at t₀).checkLineup _ = checked at *
    cases checked with
    | ok l => exact haccepted l rfl
    | error e => exact hrefused e rfl
  · refine (hbmTrainingComplete_completes hstep huntrained).mono (fun t ht => ?_)
    rw [ht]
    refine ⟨(Pkg.endMemoryPorts_bring _).1, fun i hi => ?_⟩
    rw [Pkg.getF_endMemoryPorts _ (Fld.apart_of_off (by simp only [F.GLB_BU_PHASE, F.HBM_STATE]; omega))
      (Fld.apart_of_off (by simp only [F.GLB_BU_MARK, F.HBM_STATE]; omega)), Pkg.getF_updBring]
    exact Pkg.trainStacks_state _ failed hi
  · refine (hbmTestComplete_completes hstep htrained hcold hunsettled).mono (fun t ht => ?_)
    rw [ht]
    refine ⟨(Pkg.hbmZeroed_zeroes _ _).1, (Pkg.hbmZeroed_zeroes _ _).2, fun i hi hi1 => ?_⟩
    obtain ⟨hstate, hrepairs⟩ := Pkg.countRepairs_own ((s.pkg p).at t₀) repairs hi hi1
    obtain ⟨hdone, hkept⟩ := Pkg.hbmZeroed_stack _ failed hi hstate
    exact ⟨hdone, hkept.trans hrepairs⟩
  · refine (hbmZeroingComplete_completes hstep htrained hwarm hunsettled).mono (fun t ht => ?_)
    rw [ht]
    refine ⟨(Pkg.hbmZeroed_zeroes _ _).1, (Pkg.hbmZeroed_zeroes _ _).2, fun i hi hi1 => ?_⟩
    rw [(Pkg.hbmZeroed_stack _ 0 hi hi1).1]
    simp [bit]
  · refine (portPhaseEnd_completes hstep hopen hsettled).mono (fun t ht => ?_)
    rw [ht]
    exact Pkg.endPortPhase_ends _ hstep
  · refine go_completes.mono (fun t ht => ?_)
    rw [ht]
    exact Pkg.startWaves_starts _ hstep
  · refine ⟨_, exec_go_i3c, ?_⟩
    rw [State.updPkg, Pkg.startWaves_ignored _ hstep]
  · refine (goFallback_completes hstep hlate).mono (fun t ht => ?_)
    obtain ⟨hfive, hgo, -⟩ := Pkg.startWaves_starts ((s.pkg p).at t₀) hstep
    rw [ht]
    exact ⟨hfive, hgo⟩
  · refine (tmcGoDispatch_completes hstep haux hfirst).mono (fun t ⟨ht, horigin⟩ => ?_)
    obtain ⟨hfive, hgo, -⟩ := Pkg.startWaves_starts ((s.pkg p).at t₀) hstep
    rw [ht]
    exact ⟨hfive, hgo, horigin⟩
  · refine (waveStart_completes hgo hstep hmore hdue).mono (fun t ht => ?_)
    rw [ht]
    exact Pkg.startWave_powers _ hmore
  · refine (bistComplete_completes hrunning hstep).mono (fun t ht => ?_)
    obtain ⟨hresult, hfailed⟩ := Pkg.endBist_shows ((s.pkg p).at t₀) core pass units bank
    rw [ht]
    exact ⟨hresult, Pkg.endBist_core _ core.isLt pass units bank, hfailed⟩
  · refine (mapComplete_completes hstep hunmapped).mono (fun t ht => ?_)
    obtain ⟨hkept, hmapped, hends⟩ := ((s.pkg p).at t₀).buildMap.judgeMap_stages (P := mapRegs) (fun o ho => by omega)
    rw [ht]
    refine ⟨hmapped.trans (Pkg.buildMap_mapped _), hends, fun c hc hfailed => ?_⟩
    exact (Pkg.buildMap_retires _ hc hfailed).of_kept hc hkept
  · refine (readyDeadline_completes hreleased hstep hfirst hdue).mono (fun t ht => ?_)
    obtain ⟨hheld, hlate⟩ := ((s.pkg p).at t₀).missDeadline_held r
    rw [ht]
    refine ⟨hheld, hlate, fun hhbm => ?_, fun htime => ?_⟩
    · exact (Pkg.getF_missDeadline _ r (by decide) (by decide) (by decide) (by decide)).trans (Pkg.holdCauses_hbm _ hhbm)
    · exact (Pkg.getF_missDeadline _ r (by decide) (by decide) (by decide) (by decide)).trans (Pkg.holdCauses_time _ htime)
  · refine (pcieTrainingStart_completes hreleased hdue hst).mono (fun t ht => ?_)
    rw [ht]
    exact Pkg.getF_setF_same _ _ _ rfl
  · refine (pcieLinkTrained_completes hst).mono (fun t ht => ?_)
    rw [ht]
    exact Pkg.showPcie_shows _ flit hrate hwidth
  · exact pcieConfigRequest_retried hst hruntime
  · exact ⟨pcieConfigRequest_vendor hst hruntime, pcieConfigRequest_class hst hruntime, pcieConfigRequest_vfEnable hst hruntime⟩

/-! ### An accepted lineup (R667) -/

/-- R644, R652, R667: what an accepted image holds, of what is asked of it: its signatures verify, STRANDS stands in it, and its fields
are in range. -/
theorem Pkg.checkLineup_ok {k : Pkg} {img : Bytes} {l : Lineup} (h : k.checkLineup img = .ok l) :
    sigAccepted (k.getF F.BOOT_KEYS) lineupContext (img.take 256) (img.drop (fieldAt img 24 4)) = true ∧
    ∃ ss, l = readLineup img ss ∧ (∀ t ∈ mandatory, (findSection ss t).isSome = true) ∧ ∀ x ∈ ss, ∀ c ∈ sectionChecks x, c.1 = false := by
  unfold Pkg.checkLineup at h
  dsimp only at h
  split at h
  · cases h
  split at h
  · cases h
  split at h
  · cases h
  next hsig =>
  split at h
  · cases h
  generalize imageSections img = found at h
  obtain ⟨ss, last⟩ := found
  dsimp only at h
  split at h
  · cases h
  · cases h
  · cases h
  next hmissing =>
  split at h
  · cases h
  split at h
  · cases h
  split at h
  · cases h
  next hfields =>
  split at h
  · cases h
  split at h
  · cases h
  split at h
  · cases h
  split at h
  · cases h
  refine ⟨by simpa using hsig, ss, ?_, fun t ht => ?_, fun x hx c hc => ?_⟩
  · exact (Except.ok.inj h).symm
  · have := List.find?_eq_none.mp hmissing t ht
    simpa [Option.isSome_iff_ne_none] using this
  · have := List.find?_eq_none.mp hfields (c.1, x.tag, x.at_ + c.2) (List.mem_flatMap.mpr ⟨x, hx, List.mem_map.mpr ⟨c, hc, rfl⟩⟩)
    simpa using this

theorem fieldAt_lt (b : Bytes) (o : Nat) : fieldAt b o 1 < 256 := by
  unfold fieldAt
  rcases (b.drop o) with _ | ⟨x, xs⟩
  · decide
  · simp [leNat]
    omega

theorem exists_bit_of_ne_zero {v : Nat} (h : v ≠ 0) (hv : v < 256) : ∃ s < 8, bit v s = true := by
  obtain ⟨s, hs⟩ := Nat.exists_testBit_of_ne_zero h
  refine ⟨s, ?_, by rwa [← testBit_eq_bit]⟩
  by_contra hge
  have := Nat.ge_two_pow_of_testBit hs
  have := Nat.pow_le_pow_right (n := 2) (by decide) (not_lt.mp hge)
  omega

/-- R652: an accepted lineup enables a strand. -/
theorem Pkg.strand_of_accepted {k : Pkg} {img : Bytes} {l : Lineup} (h : k.checkLineup img = .ok l) :
    ∃ s < 8, bit l.strandEnable s = true := by
  obtain ⟨-, ss, rfl, hmandatory, hfields⟩ := Pkg.checkLineup_ok h
  obtain ⟨x, hx⟩ := Option.isSome_iff_exists.mp (hmandatory 4 (by decide))
  have htag : x.tag = 4 := by simpa using List.find?_some hx
  have hbody : bodyOf ss 4 = x.body := by simp [bodyOf, hx]
  have hnonzero := hfields x (List.mem_of_find?_eq_some hx) (fieldAt x.body 8 1 == 0, 8) (by simp [sectionChecks, htag, checkStrands])
  refine exists_bit_of_ne_zero (v := fieldAt (bodyOf ss 4) 8 1) ?_ (fieldAt_lt _ _)
  rw [hbody]
  simpa using hnonzero

/-- The check reads the registers and the flash. -/
theorem Pkg.checkLineup_congr {k j : Pkg} (hregs : j.regs = k.regs) (hflash : j.flash = k.flash) (img : Bytes) :
    j.checkLineup img = k.checkLineup img := by
  have hfield : ∀ f, j.getF f = k.getF f := Pkg.getF_congr hregs
  have hread : ∀ a n, j.flashRead a n = k.flashRead a n := fun a n => by
    unfold Pkg.flashRead
    rw [hflash]
  have hflag : ∀ f, j.flag f = k.flag f := fun f => by rw [Pkg.flag, hfield, Pkg.flag]
  have hretired : ∀ c, j.recordedRetired c = k.recordedRetired c := fun c => by
    unfold Pkg.recordedRetired Pkg.mapRecord
    rw [hread, hread]
  have hshort : ∀ l r, j.hwShort l r = k.hwShort l r := fun l r => by
    have hprovides : j.clusterProvides = k.clusterProvides := by
      funext policy c
      simp only [Pkg.clusterProvides, hretired]
    unfold Pkg.hwShort
    rw [hprovides]
  unfold Pkg.checkLineup
  simp only [hfield, hflag, hshort]

theorem Pkg.storedImage_of_flash {k j : Pkg} (h : j.flash = k.flash) (cls slot : Nat) : j.storedImage cls slot = k.storedImage cls slot := by
  have hread : ∀ a n, j.flashRead a n = k.flashRead a n := fun a n => by
    unfold Pkg.flashRead
    rw [h]
  unfold Pkg.storedImage
  simp only [hread]

/-! ### A strap number beyond the rack (R379, R425)

The links' map of a package stands in nine words, which hold the links of packages 0 to 71. Nothing in the model bounds the number that the
straps give. For the number below, the link of strand `s` stands in the map where the model keeps the state of HBM stack 0, so that the
training of its port writes that register. -/

/-- The strap number whose link of strand `s` is bit 1 of the word at the register of HBM stack 0. -/
def strayNumber (s : Nat) : Nat := 64 * 0xD0000 + 1 - 72 * s

/-- That link. -/
def strayLink : Nat := 64 * 0xD0000 + 1

theorem linkNumber_stray {s : Nat} (hs : s < 8) : linkNumber (strayNumber s) (2 * s) = strayLink := by
  unfold linkNumber strayNumber strayLink
  dsimp only
  split <;> omega

/-- The links of the other ports stand elsewhere, and none of them at stack 1. -/
theorem linkNumber_stray_other {s n : Nat} (hs : s < 8) (hn : n < 16) (hne : n ≠ 2 * s) :
    linkNumber (strayNumber s) n / 64 ≠ 0xD0000 ∧ linkNumber (strayNumber s) n / 64 ≠ 0xD0020 := by
  unfold linkNumber strayNumber
  dsimp only
  split <;> omega

theorem Pkg.linkOut_of_kept {P : Nat → Prop} {k j : Pkg} (hkept : CellsKept P k j) {n : Nat} (hn : P (F.LNK_MAP (n / 64)).off) :
    j.linkOut n = k.linkOut n := by
  unfold Pkg.linkOut
  rw [hkept.getF hn]

theorem Pkg.linkOut_setLinkOut (k : Pkg) (n : Nat) (out : Bool) : (k.setLinkOut n out).linkOut n = out := by
  unfold Pkg.linkOut Pkg.setLinkOut
  rw [Pkg.getF_setF_same _ _ _ rfl]
  exact (bit_mod_two_pow _ (Nat.mod_lt n (by decide : 64 > 0))).trans (bit_putBit_same _ _ _)

/-- R425: a braid port's link is mapped out. -/
theorem Pkg.mapPort_out (k : Pkg) {n : Nat} (hn : n < 16) (hword : 0x300000 ≤ (F.LNK_MAP (linkNumber k.id n / 64)).off) :
    (k.mapPort n true).linkOut (linkNumber k.id n) = true := by
  unfold Pkg.mapPort
  dsimp only
  simp only [if_true, if_pos hn]
  split
  · next hout => exact hout
  · rw [Pkg.linkOut_of_kept ((Pkg.sendRack_frame _ _ _ _).cellsKept (P := (0x300000 ≤ ·)) (fun o ho => .inr ho)) hword]
    exact Pkg.linkOut_setLinkOut _ _ _

/-- A stray link that is mapped out shows in the state of stack 0, which is not in training then. -/
theorem Pkg.stack_of_strayOut {k : Pkg} (h : k.linkOut strayLink = true) : k.getF (F.HBM_STATE 0) ≠ 1 := by
  have hcell : (F.LNK_MAP (strayLink / 64)).off = (F.HBM_STATE 0).off := by decide
  have hbit : (k.getF (F.HBM_STATE 0)).testBit 1 = true := by
    have := h
    unfold Pkg.linkOut Pkg.getF at this
    rw [← testBit_eq_bit, hcell, show strayLink % 64 = 1 by decide, testBit_wordField] at this
    unfold Pkg.getF
    rw [testBit_wordField]
    exact this
  intro hone
  rw [hone] at hbit
  exact absurd hbit (by decide)

/-- Stack 1, whose readiness keeps a package from READY. -/
theorem stackOne_cells : TrainCells (· = 0x800100) := ⟨by decide, fun o ho => by omega⟩

/-- Stacks 0 and 1. -/
theorem stackPair_cells : TrainCells (fun o => o = 0x800000 ∨ o = 0x800100) := ⟨by decide, fun o ho => by omega⟩

section Stray

variable {k : Pkg} {s : Nat} (hs : s < 8) (hid : k.id = strayNumber s) (hstack : k.getF (F.HBM_STATE 1) ≠ 2)
include hs hid hstack

/-- A port's turn of training keeps the bring-up and stack 1. -/
theorem Pkg.trainPort_stray (later : Bool) {n : Nat} (hn : n < 20) : BringKept (· = 0x800100) k (k.trainPort later n) := by
  refine Pkg.trainPort_steady stackOne_cells later k hn (fun h16 => ?_) hstack
  rw [hid]
  by_cases hown : n = 2 * s
  · rw [hown, linkNumber_stray hs]
    decide
  · have := (linkNumber_stray_other hs h16 hown).2
    simp only [F.LNK_MAP]
    omega

/-- The turn of another port keeps the stray link. -/
theorem Pkg.trainPort_stray_other (later : Bool) {n : Nat} (hn : n < 20) (hne : n ≠ 2 * s) :
    (k.trainPort later n).linkOut strayLink = k.linkOut strayLink := by
  have hkept : BringKept (fun o => o = 0x800000 ∨ o = 0x800100) k (k.trainPort later n) := by
    refine Pkg.trainPort_steady stackPair_cells later k hn (fun h16 => ?_) hstack
    rw [hid]
    obtain ⟨hzero, hone⟩ := linkNumber_stray_other hs h16 hne
    simp only [F.LNK_MAP]
    omega
  exact Pkg.linkOut_of_kept hkept.cells (.inl (by decide))

/-- The turn of the strand's own port maps the stray link out. -/
theorem Pkg.trainPort_stray_own (later : Bool) {l : Lineup} (hactive : k.lup.active = some l) (hstrand : bit l.strandEnable s = true) :
    (k.trainPort later (2 * s)).linkOut strayLink = true := by
  have henabled : k.portEnabled (2 * s) = true := by
    unfold Pkg.portEnabled
    simp [hactive, hstrand, show 2 * s < 16 by omega]
  have hstart : (k.startTraining later (2 * s)).id = strayNumber s := by
    rw [Pkg.id, (Pkg.startTraining_steady stackOne_cells later k (n := 2 * s) (by omega) hstack).straps]
    exact hid
  rw [Pkg.trainPort_of_enabled later henabled, ← linkNumber_stray hs, ← hstart]
  refine Pkg.mapPort_out _ (by omega) ?_
  rw [hstart, linkNumber_stray hs]
  decide

theorem Pkg.trainPorts_stray (later : Bool) {l : Lineup} (hactive : k.lup.active = some l) (hstrand : bit l.strandEnable s = true) :
    (k.forEach 20 (Pkg.trainPort later)).linkOut strayLink = true := by
  have hturn : ∀ j, BringKept (· = 0x800100) k j → j.id = strayNumber s ∧ j.getF (F.HBM_STATE 1) ≠ 2 := fun j hj =>
    ⟨by rw [Pkg.id, hj.straps]; exact hid, by rwa [hj.cells.getF stackOne_cells.stack]⟩
  have hkeep : ∀ j, ∀ n ∈ List.range 20, BringKept (· = 0x800100) k j → BringKept (· = 0x800100) k (j.trainPort later n) := by
    intro j n hn hj
    obtain ⟨hid, hstack⟩ := hturn j hj
    exact hj.trans (Pkg.trainPort_stray hs hid hstack later (List.mem_range.mp hn))
  refine (foldl_ownTurn (A := BringKept (· = 0x800100) k) (B := fun j => BringKept (· = 0x800100) k j ∧ j.linkOut strayLink = true)
    (x := 2 * s) (fun j hj => ?_) (fun j n hn _ hj => hkeep j n hn hj) (fun j n hn hne ⟨hj, hout⟩ => ?_) List.nodup_range
    (List.mem_range.mpr (by omega)) (BringKept.refl k)).2
  · obtain ⟨hid, hstack⟩ := hturn j hj
    exact ⟨hkeep j _ (List.mem_range.mpr (by omega)) hj,
      Pkg.trainPort_stray_own hs hid hstack later (by rw [hj.lup]; exact hactive) hstrand⟩
  · obtain ⟨hid, hstack⟩ := hturn j hj
    exact ⟨hkeep j n hn hj, (Pkg.trainPort_stray_other hs hid hstack later (List.mem_range.mp hn) hne).trans hout⟩

end Stray

/-- A package that an accepted lineup finds with that strap number does not train its memory. -/
theorem Pkg.lineupActive_stray {k : Pkg} {s : Nat} {l : Lineup} (hs : s < 8) (hid : k.id = strayNumber s) (hactive : k.lup.active = some l)
    (hstrand : bit l.strandEnable s = true) : ¬ (k.lineupActive l).memoryTrains := by
  intro htrains
  obtain ⟨later, heq⟩ := k.lineupActive_eq l
  obtain ⟨-, -, hstacks⟩ := k.startStacks_trains l
  have hkept := (k.endLineup l).startStacks_kept (P := fun _ => False) (fun _ ho => ho.elim)
  rw [heq] at htrains
  refine Pkg.stack_of_strayOut (Pkg.trainPorts_stray hs ?_ ?_ later (l := l) ?_ hstrand) (htrains.2.2 0 (by decide))
  · rw [Pkg.id, hkept.straps, k.endLineup_straps l]
    exact hid
  · rw [hstacks 1 (by decide)]
    decide
  · rw [hkept.lup]
    exact k.endLineup_lineup l hactive

/-- The package with that strap number, in LINEUP with `l` active from before. -/
def Pkg.strayed (k : Pkg) (s : Nat) (l : Lineup) : Pkg :=
  { k with straps := { k.straps with pkg := strayNumber s }, bring := { k.bring with step := 2, proceed := true }
           lup := { k.lup with active := some l } }

/-- Were any lineup accepted, a package with such a number would accept it and not train its memory. -/
theorem acceptedLineupsTrain_iff : AcceptedLineupsTrain ↔
    ∀ (k : Pkg) (l : Lineup), k.bc.state ≠ 2 → k.checkLineup (k.storedImage 4 k.bc.source) ≠ .ok l := by
  refine ⟨fun htrain k l hconfirmed hl => ?_, fun hnone k l _ _ hconfirmed hl => absurd hl (hnone k l hconfirmed)⟩
  obtain ⟨s, hs, hstrand⟩ := Pkg.strand_of_accepted hl
  have hbc : (k.strayed s l).bc = k.bc := Pkg.bc_of_flash rfl
  refine Pkg.lineupActive_stray (k := k.strayed s l) hs rfl rfl hstrand (htrain (k.strayed s l) l rfl rfl (by rwa [hbc]) ?_)
  rw [hbc, Pkg.storedImage_of_flash (k := k) (j := k.strayed s l) rfl, Pkg.checkLineup_congr (k := k) (j := k.strayed s l) rfl rfl]
  exact hl

theorem acceptedLineupsTrain_of_bringUpProceeds (h : Obligations.BringUpProceeds) : AcceptedLineupsTrain := by
  intro k l hstep hproceed hconfirmed hl
  unfold Obligations.BringUpProceeds at h
  have hk : ((State.reset.setPkg 0 k).pkg 0).at 0 = k := by
    rw [State.pkg_setPkg_same, Pkg.at, Nat.max_zero]
  obtain ⟨-, -, hlineup, -⟩ := h (State.reset.setPkg 0 k) 0 0
  rw [hk] at hlineup
  obtain ⟨t, hexec, ht⟩ := hlineup hstep hproceed hconfirmed
  obtain ⟨u, hexec', hu⟩ := lineupLoadComplete_completes (s := State.reset.setPkg 0 k) (p := 0) (t₀ := 0)
  obtain rfl : t = u := by
    rw [hexec] at hexec'
    exact Host.Outcome.next.inj hexec'
  rw [hl, hu, hk, Pkg.lineupLoaded_accepted hstep hproceed hl] at ht
  exact ht

/-- The bring-up obligation says no more and no less than that no package of any state ever accepts a lineup. -/
theorem bringUpProceeds_iff : Obligations.BringUpProceeds ↔
    ∀ (k : Pkg) (l : Lineup), k.bc.state ≠ 2 → k.checkLineup (k.storedImage 4 k.bc.source) ≠ .ok l :=
  ⟨fun h => acceptedLineupsTrain_iff.mp (acceptedLineupsTrain_of_bringUpProceeds h),
    fun h => bringUpProceeds_of_acceptedLineupsTrain (acceptedLineupsTrain_iff.mpr h)⟩

/-- R908: a signature block has a pair, and each pair's ECDSA signature verifies. -/
theorem verifies_of_sigAccepted {keys : Nat} {context msg block : Bytes} (h : sigAccepted keys context msg block = true) :
    ∃ slot hash sig, Config.ecdsaVerifies slot hash sig = true := by
  unfold sigAccepted at h
  simp only [Bool.and_eq_true, List.any_eq_true, List.all_eq_true] at h
  obtain ⟨⟨⟨⟨-, hverify⟩, -⟩, -⟩, x, hx, -⟩ := h
  exact ⟨_, _, _, (hverify x hx).1⟩

/-- Acceptance rests on the signature predicates, which the model leaves open (log entry 17). -/
theorem bringUpProceeds_of_no_signature (h : ∀ slot hash sig, Config.ecdsaVerifies slot hash sig = false) : Obligations.BringUpProceeds := by
  rw [bringUpProceeds_iff]
  intro k l _ hl
  obtain ⟨slot, hash, sig, hverifies⟩ := verifies_of_sigAccepted (Pkg.checkLineup_ok hl).1
  exact Bool.false_ne_true ((h slot hash sig).symm.trans hverifies)

end Sys2Proof.Machine
end

section
/-! PROOFS. Actions without a primary (R894): every action of the rack goes through `State.asAction`, which refuses it. -/

namespace Sys2Proof.Machine

/-- R894: without a primary a paired rack answers an action with MGMT_NO_PRIMARY, whatever the action would do. -/
theorem State.asAction_of_noPrimary {s : State} (hpaired : s.paired = true) (hnone : s.primary = none) (f : State → State) :
    s.asAction f = { s with action := 0x4B03 } :=
  if_pos ⟨hpaired, by rw [hnone]; rfl⟩

/-- A command that is an action and nothing else is refused without a primary. -/
theorem completes_of_asAction {c : Instr} {s : State} (hpaired : s.paired = true) (hnone : s.primary = none) {f : State → State}
    (h : exec c s = .next (s.asAction f)) : Completes c s (fun t => t = { s with action := 0x4B03 }) :=
  ⟨_, h, State.asAction_of_noPrimary hpaired hnone f⟩

/-- R936: where no trial has failed, REVERT_ROSTER is an action. -/
theorem exec_revertRoster_asAction {s : State} {tray : TrayId} {t : Nat}
    (h : ∀ r, s.roster (s.coord tray) = some r → s.trialFailed r = false) :
    ∃ f, exec (.revertRoster tray t) s = .next (s.asAction f) := by
  show ∃ f, execRevertRoster tray t s = .next (s.asAction f)
  unfold execRevertRoster
  dsimp only
  split
  · next r hr =>
    rw [h r hr, if_neg (fun hfailed => Bool.false_ne_true hfailed.2)]
    exact ⟨_, rfl⟩
  · exact ⟨_, rfl⟩

/-- Settles O50: each action is `State.asAction` of its effect, and a revert is one where no trial has failed. -/
theorem actionsNeedAPrimary : Obligations.ActionsNeedAPrimary := by
  unfold Obligations.ActionsNeedAPrimary
  intro s hpaired hnone p core target ht minutes part t₀ force on scope port tray which image
  refine ⟨fun c hc => ?_, fun h => ?_⟩
  · simp only [List.mem_cons, List.not_mem_nil, or_false] at hc
    rcases hc with rfl | rfl | rfl | rfl | rfl | rfl | rfl | rfl | rfl | rfl | rfl <;>
      exact completes_of_asAction hpaired hnone rfl
  · obtain ⟨f, hf⟩ := exec_revertRoster_asAction (t := t₀) h
    exact completes_of_asAction hpaired hnone hf

end Sys2Proof.Machine
end

section
/-! PROOFS. What the changes that a TMC makes leave alone (20_management.md): those of packages by number, of trays, of umpires, and the
frames on the rack bus. -/

namespace Sys2Proof.Machine

/-! ### Changes one element at a time -/

/-- Each element's turn in a fold makes `P` true of it, and every turn keeps `P` of all. -/
theorem foldl_each {α β : Type} {f : β → α → β} {P : α → β → Prop} (l : List α) (s : β)
    (hset : ∀ s, ∀ x ∈ l, P x (f s x)) (hkeep : ∀ s y, ∀ x ∈ l, P y s → P y (f s x)) : ∀ x ∈ l, P x (l.foldl f s) := by
  induction l generalizing s with
  | nil => exact fun _ hx => absurd hx List.not_mem_nil
  | cons a l ih =>
    intro x hx
    rcases List.mem_cons.mp hx with rfl | hmem
    · exact List.foldlRecOn l f (hset s x hx) (fun b hb y hy => hkeep b x y (List.mem_cons_of_mem _ hy) hb)
    · exact ih (f s a) (fun s y hy => hset s y (List.mem_cons_of_mem _ hy))
        (fun s y z hz => hkeep s y z (List.mem_cons_of_mem _ hz)) x hmem

/-- A view that every turn of a fold keeps. -/
theorem foldl_keeps {α β γ : Type} {f : β → α → β} {v : β → γ} (l : List α) (s : β) (h : ∀ s, ∀ x ∈ l, v (f s x) = v s) :
    v (l.foldl f s) = v s :=
  List.foldlRecOn l f (motive := fun b => v b = v s) rfl (fun b hb x hx => (h b x hx).trans hb)

/-! ### Packages by number -/

/-- Nothing of the rack differs but its packages. -/
def State.PkgsOnly (s t : State) : Prop := ∃ ps, t = { s with pkgs := ps }

namespace State.PkgsOnly

variable {s t u : State}

theorem refl (s : State) : s.PkgsOnly s := ⟨s.pkgs, rfl⟩

theorem trans (h : s.PkgsOnly t) (g : t.PkgsOnly u) : s.PkgsOnly u := by
  obtain ⟨ps, rfl⟩ := h
  obtain ⟨qs, rfl⟩ := g
  exact ⟨qs, rfl⟩

theorem updNat (s : State) (n : Nat) (f : Pkg → Pkg) : s.PkgsOnly (s.updNat n f) := by
  unfold State.updNat
  split
  · exact ⟨_, rfl⟩
  · exact refl s

theorem foldl {α : Type} (l : List α) {f : State → α → State} (h : ∀ (s : State) x, s.PkgsOnly (f s x)) (s : State) :
    s.PkgsOnly (l.foldl f s) :=
  List.foldlRecOn l f (refl s) (fun b hb x _ => hb.trans (h b x))

theorem tray (h : s.PkgsOnly t) (n : Nat) : t.tray n = s.tray n := by obtain ⟨ps, rfl⟩ := h; rfl

theorem tmcUp (h : s.PkgsOnly t) (n : Nat) : t.tmcUp n = s.tmcUp n := by obtain ⟨ps, rfl⟩ := h; rfl

theorem onBus (h : s.PkgsOnly t) (n : Nat) : t.onBus n = s.onBus n := by obtain ⟨ps, rfl⟩ := h; rfl

theorem nextEvent (h : s.PkgsOnly t) : t.nextEvent = s.nextEvent := by obtain ⟨ps, rfl⟩ := h; rfl

end State.PkgsOnly

/-- A change by number reaches the package of that number alone. -/
theorem State.pkg_updNat (s : State) (n : Nat) (f : Pkg → Pkg) (p : PkgId) :
    (s.updNat n f).pkg p = if p.val = n then f (s.pkg p) else s.pkg p := by
  unfold State.updNat
  split
  · next h =>
    by_cases hp : p = ⟨n, h⟩
    · rw [hp, State.pkg_updPkg_same, if_pos rfl]
    · rw [State.pkg_updPkg_other _ _ hp, if_neg (fun e => hp (Fin.ext e))]
  · next h => rw [if_neg (fun e : p.val = n => h (e ▸ p.isLt))]

/-- A change at each number of a list without repeats reaches each package it names once. -/
theorem State.pkg_foldl_updNat {l : List Nat} (hl : l.Nodup) (s : State) (f : Pkg → Pkg) (p : PkgId) :
    (l.foldl (fun s q => s.updNat q f) s).pkg p = if p.val ∈ l then f (s.pkg p) else s.pkg p := by
  induction l generalizing s with
  | nil => rfl
  | cons q l ih =>
    obtain ⟨hq, hl⟩ := List.nodup_cons.mp hl
    rw [List.foldl_cons, ih hl, State.pkg_updNat]
    by_cases hp : p.val = q
    · simp [hp, hq]
    · simp [hp]

theorem nodup_trayPkgs (n : Nat) : (trayPkgs n).Nodup :=
  List.nodup_range.map (fun i j h => by omega)

theorem mem_trayPkgs {n q : Nat} : q ∈ trayPkgs n ↔ trayOf q = n := by
  simp only [trayPkgs, trayOf, List.mem_map, List.mem_range]
  exact ⟨fun ⟨i, hi, h⟩ => by omega, fun h => ⟨q - 4 * n, by omega, by omega⟩⟩

theorem State.updTrayPkgs_pkgsOnly (s : State) (n : Nat) (f : Pkg → Pkg) : s.PkgsOnly (s.updTrayPkgs n f) :=
  State.PkgsOnly.foldl _ (fun s q => State.PkgsOnly.updNat s q _) s

theorem State.pkg_updTrayPkgs (s : State) (f : Pkg → Pkg) (p : PkgId) :
    (s.updTrayPkgs (trayOf p) f).pkg p = if (s.pkg p).hubOn then f (s.pkg p) else s.pkg p :=
  (State.pkg_foldl_updNat (nodup_trayPkgs _) s _ p).trans (if_pos (mem_trayPkgs.mpr rfl))

/-! ### Trays -/

/-- Nothing of the rack differs but its packages, its trays and the events that were posted. -/
def State.TmcOnly (s t : State) : Prop := ∃ ps ys es n, t = { s with pkgs := ps, trays := ys, events := es, nextEvent := n }

namespace State.TmcOnly

variable {s t u : State}

theorem refl (s : State) : s.TmcOnly s := ⟨s.pkgs, s.trays, s.events, s.nextEvent, rfl⟩

theorem trans (h : s.TmcOnly t) (g : t.TmcOnly u) : s.TmcOnly u := by
  obtain ⟨ps, ys, es, n, rfl⟩ := h
  obtain ⟨ps', ys', es', n', rfl⟩ := g
  exact ⟨ps', ys', es', n', rfl⟩

theorem ofPkgs (h : s.PkgsOnly t) : s.TmcOnly t := by
  obtain ⟨ps, rfl⟩ := h
  exact ⟨ps, s.trays, s.events, s.nextEvent, rfl⟩

theorem updTray (s : State) (n : Nat) (f : Tray → Tray) : s.TmcOnly (s.updTray n f) := ⟨s.pkgs, _, s.events, s.nextEvent, rfl⟩

theorem post (s : State) (n : String) (v : Severity) (a : Nat) : s.TmcOnly (s.post n v a) := ⟨s.pkgs, s.trays, _, _, rfl⟩

theorem ite {c : Prop} [Decidable c] (h : s.TmcOnly t) (g : s.TmcOnly u) : s.TmcOnly (if c then t else u) := by
  split <;> assumption

theorem foldl {α : Type} (l : List α) {f : State → α → State} (h : ∀ (s : State) x, s.TmcOnly (f s x)) (s : State) : s.TmcOnly (l.foldl f s) :=
  List.foldlRecOn l f (refl s) (fun b hb x _ => hb.trans (h b x))

theorem bus (h : s.TmcOnly t) : t.bus = s.bus := by obtain ⟨ps, ys, es, n, rfl⟩ := h; rfl

theorem umpires (h : s.TmcOnly t) : t.umpires = s.umpires := by obtain ⟨ps, ys, es, n, rfl⟩ := h; rfl

theorem controllers (h : s.TmcOnly t) : t.controllers = s.controllers := by obtain ⟨ps, ys, es, n, rfl⟩ := h; rfl

theorem noPrimary (h : s.TmcOnly t) : t.noPrimary = s.noPrimary := by obtain ⟨ps, ys, es, n, rfl⟩ := h; rfl

end State.TmcOnly

theorem State.tray_updTray_other (s : State) {n m : Nat} (h : m ≠ n) (f : Tray → Tray) : (s.updTray n f).tray m = s.tray m := by
  simp [State.tray, State.updTray, List.getD, h.symm]

theorem State.showLamp_tmcOnly (s : State) (n : Nat) : s.TmcOnly (s.showLamp n) := State.TmcOnly.updTray s n _

theorem State.tray_showLamp_same (s : State) {n : Nat} (hn : n < 24) : (s.showLamp n).tray n = { s.tray n with lamp := s.lampOf n } :=
  State.tray_updTray_same s hn _

theorem State.tray_showLamp_other (s : State) {n m : Nat} (h : m ≠ n) : (s.showLamp n).tray m = s.tray m :=
  State.tray_updTray_other s h _

/-- The limits of a tray once one is put on or taken off. -/
def limitsAfter (why : Nat) (on : Bool) (ls : List Nat) : List Nat :=
  if on then (if ls.contains why then ls else ls ++ [why]) else ls.filter (fun x => x != why)

theorem mem_limitsAfter_on (why : Nat) (ls : List Nat) : why ∈ limitsAfter why true ls := by
  by_cases h : why ∈ ls <;> simp [limitsAfter, h]

/-- Once a limit is noted at the tray, what follows is the packages' (R794, R859, R880). -/
theorem State.setLimit_pkgsOnly (s : State) {n : Nat} (why : Nat) (on : Bool) :
    (s.updTray n (fun y => { y with limits := limitsAfter why on y.limits })).PkgsOnly (s.setLimit n why on) :=
  State.PkgsOnly.foldl _ (fun s q => State.PkgsOnly.updNat s q _) _

theorem State.setLimit_tmcOnly (s : State) (n why : Nat) (on : Bool) : s.TmcOnly (s.setLimit n why on) :=
  (State.TmcOnly.updTray s n _).trans (.ofPkgs (s.setLimit_pkgsOnly why on))

theorem State.tray_setLimit_same (s : State) {n : Nat} (hn : n < 24) (why : Nat) (on : Bool) :
    (s.setLimit n why on).tray n = { s.tray n with limits := limitsAfter why on (s.tray n).limits } := by
  rw [(s.setLimit_pkgsOnly why on).tray, State.tray_updTray_same s hn]

theorem State.tray_setLimit_other (s : State) {n m : Nat} (h : m ≠ n) (why : Nat) (on : Bool) :
    (s.setLimit n why on).tray m = s.tray m := by
  rw [(s.setLimit_pkgsOnly why on).tray, State.tray_updTray_other s h]

/-- A limit put on a tray writes the safe cap at its packages. -/
theorem State.pkg_setLimit_on (s : State) (why : Nat) (p : PkgId) :
    (s.setLimit (trayOf p) why true).pkg p = (s.pkg p).writeTrayLimit true := by
  have hmem := mem_limitsAfter_on why (s.tray (trayOf p)).limits
  have hany : (!((s.updTray (trayOf p) (fun y => { y with limits := limitsAfter why true y.limits })).tray (trayOf p)).limits.isEmpty)
      = true := by
    rw [State.tray_updTray_same s (trayOf_lt p), Bool.not_eq_true', List.isEmpty_eq_false_iff]
    exact List.ne_nil_of_mem hmem
  refine (State.pkg_foldl_updNat (nodup_trayPkgs _) _ _ p).trans ((if_pos (mem_trayPkgs.mpr rfl)).trans ?_)
  exact congrArg (s.pkg p).writeTrayLimit hany

/-! ### Umpires -/

theorem State.ump_updUmp_same (s : State) {u : Nat} (hu : u < 2) (f : Umpire → Umpire) : (s.updUmp u f).ump u = f (s.ump u) := by
  simp [State.ump, State.updUmp, List.getD, hu]

theorem State.ump_updUmp_other (s : State) {u v : Nat} (h : v ≠ u) (f : Umpire → Umpire) : (s.updUmp u f).ump v = s.ump v := by
  simp [State.ump, State.updUmp, List.getD, h.symm]

theorem State.ump_congr {s t : State} (h : t.umpires = s.umpires) (u : Nat) : t.ump u = s.ump u := by unfold State.ump; rw [h]

theorem State.primary_congr {s t : State} (h : t.umpires = s.umpires) : t.primary = s.primary := by unfold State.primary; rw [h]

/-- R876: the primary is the umpire whose line is asserted, RMC-A before RMC-B. -/
theorem State.primary_eq (s : State) :
    s.primary = if (s.ump 0).line then some 0 else if (s.ump 1).line then some 1 else none := by
  simp [State.primary, State.ump, List.getD]

theorem State.primary_lt {s : State} {u : Nat} (h : s.primary = some u) : u < 2 := by
  rw [State.primary_eq] at h
  split at h
  · cases h; decide
  · split at h <;> cases h; decide

/-- R876: the one umpire whose line is asserted is primary. -/
theorem State.primary_of_line {s : State} (u : Fin 2) (hline : (s.ump u).line = true) (hother : (s.ump (1 - u.val)).line = false) :
    s.primary = some u.val := by
  rw [State.primary_eq]
  match u with
  | 0 => exact if_pos hline
  | 1 => exact (if_neg (Bool.not_eq_true _ ▸ hother)).trans (if_pos hline)

/-- With neither line asserted no umpire is primary. -/
theorem State.primary_of_no_line {s : State} (u : Fin 2) (hline : (s.ump u).line = false) (hother : (s.ump (1 - u.val)).line = false) :
    s.primary = none := by
  rw [State.primary_eq]
  match u with
  | 0 => exact (if_neg (Bool.not_eq_true _ ▸ hline)).trans (if_neg (Bool.not_eq_true _ ▸ hother))
  | 1 => exact (if_neg (Bool.not_eq_true _ ▸ hother)).trans (if_neg (Bool.not_eq_true _ ▸ hline))

theorem State.mirrorOf_eq (s : State) {u : Nat} (hu : u < 2) : s.mirrorOf u = (s.ump u).mir := by
  simp [State.mirrorOf, State.ump, List.getD, hu]

/-- R870, R873, R874: a released line changes the umpire, and the time without a primary. -/
theorem State.releaseLine_umpires (s : State) (u t : Nat) :
    (s.releaseLine u t).umpires = (s.updUmp u (fun x => { x with line := false, released := t })).umpires := by
  unfold State.releaseLine
  dsimp only
  split <;> rfl

theorem State.ump_releaseLine_same (s : State) {u : Nat} (hu : u < 2) (t : Nat) :
    (s.releaseLine u t).ump u = { s.ump u with line := false, released := t } :=
  (State.ump_congr (s.releaseLine_umpires u t) u).trans (s.ump_updUmp_same hu _)

theorem State.ump_releaseLine_other (s : State) {u v : Nat} (h : v ≠ u) (t : Nat) : (s.releaseLine u t).ump v = s.ump v :=
  (State.ump_congr (s.releaseLine_umpires u t) v).trans (s.ump_updUmp_other h _)

/-- R876: a release that leaves no primary starts the time without one. -/
theorem State.releaseLine_noPrimary {s : State} {u t : Nat} (h : (s.releaseLine u t).primary = none) :
    (s.releaseLine u t).noPrimary = some t := by
  rw [State.primary_congr (s.releaseLine_umpires u t)] at h
  unfold State.releaseLine
  dsimp only
  rw [if_pos (by rw [h]; rfl)]

/-! ### The rack bus -/

/-- R867: a node's frame goes out under the count of its messages. -/
theorem State.busSend_last (s : State) (type node flags ht : Nat) (body : List Nat) :
    (s.busSend type node flags ht body).bus.last = some ⟨type, node, flags,
      ((s.bus.sent.find? (fun x => x.1 == node)).map Prod.snd).getD 0, ht, body⟩ := rfl

/-- What a receiver sees of a frame: its type, its sender and its body. -/
theorem State.busSend_sends (s : State) (type node flags ht : Nat) (body : List Nat) :
    ∃ m, (s.busSend type node flags ht body).bus.last = some m ∧ m.type = type ∧ m.node = node ∧ m.body = body :=
  ⟨_, s.busSend_last type node flags ht body, rfl, rfl, rfl⟩

/-- The node heard last was heard when it was heard. -/
theorem Bus.heardAt_cons (b : Bus) (node t : Nat) (l : List (Nat × Nat)) : ({ b with heard := (node, t) :: l } : Bus).heardAt node = some t := by
  simp [Bus.heardAt]

end Sys2Proof.Machine
end

section
/-! PROOFS. Election and solo (R862, R866–R881, R897): HEARTBEATs and who acknowledges, the PRIMARY lines, and a tray that runs alone. -/

namespace Sys2Proof.Machine

/-! ### HEARTBEAT (R867, R869, R881) -/

/-- What acknowledging a TMC does to its tray, and to no other. -/
theorem State.tray_acknowledge_same (s : State) {n : Nat} (hn : n < 24) (t : Nat) :
    ∃ ls lamp, (s.acknowledge n t).tray n = { s.tray n with lastAck := t, solo := false, limits := ls, lamp := lamp } := by
  unfold State.acknowledge
  dsimp only
  split
  · rw [State.tray_post, State.tray_showLamp_same _ hn, State.tray_setLimit_same _ hn, (State.updTrayPkgs_pkgsOnly _ _ _).tray,
      State.tray_updTray_same s hn]
    exact ⟨_, _, rfl⟩
  · rw [State.tray_showLamp_same _ hn, State.tray_updTray_same s hn]
    exact ⟨_, _, rfl⟩

theorem State.tray_acknowledge_other (s : State) {n m : Nat} (h : m ≠ n) (t : Nat) : (s.acknowledge n t).tray m = s.tray m := by
  unfold State.acknowledge
  dsimp only
  split
  · rw [State.tray_post, State.tray_showLamp_other _ h, State.tray_setLimit_other _ h, (State.updTrayPkgs_pkgsOnly _ _ _).tray,
      State.tray_updTray_other s h]
  · rw [State.tray_showLamp_other _ h, State.tray_updTray_other s h]

theorem State.acknowledge_tmcOnly (s : State) (n t : Nat) : s.TmcOnly (s.acknowledge n t) := by
  have hupd := State.TmcOnly.updTray s n (fun y => { y with lastAck := t, solo := false })
  exact .ite (hupd.trans ((State.TmcOnly.ofPkgs (State.updTrayPkgs_pkgsOnly _ _ _)).trans
      ((State.setLimit_tmcOnly _ _ _ _).trans ((State.showLamp_tmcOnly _ _).trans (.post _ _ _ _)))))
    (hupd.trans (State.showLamp_tmcOnly _ _))

/-- An acknowledgement takes no TMC off the bus, and puts none on it. -/
theorem State.onBus_acknowledge (s : State) {n : Nat} (hn : n < 24) (t m : Nat) : (s.acknowledge n t).onBus m = s.onBus m := by
  unfold State.onBus State.tmcUp
  rw [(s.acknowledge_tmcOnly n t).controllers]
  by_cases h : m = n
  · subst h
    obtain ⟨ls, lamp, htray⟩ := s.tray_acknowledge_same hn t
    rw [htray]
  · rw [s.tray_acknowledge_other h t]

/-- A HEARTBEAT's turn at tray `n` (R869): its TMC is acknowledged when the frame lists it and it is on the bus. -/
def State.hearAck (seen t : Nat) (s : State) (n : Nat) : State :=
  if bit seen (trayNode n) && s.onBus n then s.acknowledge n t else s

/-- A tray's TMC was acknowledged at `t`, and does not run alone. -/
def State.AckedAt (s : State) (n t : Nat) : Prop := (s.tray n).lastAck = t ∧ (s.tray n).solo = false

theorem State.hearAck_tmcOnly (seen t : Nat) (s : State) (n : Nat) : s.TmcOnly (s.hearAck seen t n) :=
  .ite (s.acknowledge_tmcOnly n t) (.refl s)

theorem State.onBus_hearAck (seen t : Nat) (s : State) {n : Nat} (hn : n < 24) (m : Nat) : (s.hearAck seen t n).onBus m = s.onBus m := by
  unfold State.hearAck
  split
  · exact s.onBus_acknowledge hn t m
  · rfl

theorem State.ackedAt_acknowledge (s : State) {n : Nat} (hn : n < 24) (t : Nat) : (s.acknowledge n t).AckedAt n t := by
  obtain ⟨ls, lamp, htray⟩ := s.tray_acknowledge_same hn t
  unfold State.AckedAt
  rw [htray]
  exact ⟨rfl, rfl⟩

/-- A TMC once acknowledged stays so through the turns of the others. -/
theorem State.AckedAt.hearAck {s : State} {m t : Nat} (h : s.AckedAt m t) (seen : Nat) {n : Nat} (hn : n < 24) :
    (s.hearAck seen t n).AckedAt m t := by
  unfold State.hearAck
  split
  · by_cases hm : m = n
    · exact hm ▸ s.ackedAt_acknowledge hn t
    · unfold State.AckedAt
      rwa [s.tray_acknowledge_other hm t]
  · exact h

/-- R869, R881: every TMC that a HEARTBEAT lists and that is on the bus is acknowledged. -/
theorem State.ackedAt_foldl_hearAck (s : State) {seen t n : Nat} (hn : n < 24) (hseen : bit seen (trayNode n) = true)
    (hbus : s.onBus n = true) : ((List.range 24).foldl (State.hearAck seen t) s).AckedAt n t := by
  have hkept : ((List.range 24).foldl (State.hearAck seen t) s).onBus n = s.onBus n :=
    foldl_keeps (v := fun s => s.onBus n) _ s (fun s m hm => s.onBus_hearAck seen t (List.mem_range.mp hm) n)
  refine foldl_each (P := fun n s => bit seen (trayNode n) = true → s.onBus n = true → s.AckedAt n t) (List.range 24) s ?_ ?_
    n (List.mem_range.mpr hn) hseen (hkept.trans hbus)
  · intro s m hm hseen hbus
    rw [s.onBus_hearAck seen t (List.mem_range.mp hm)] at hbus
    unfold State.hearAck
    rw [hseen, hbus]
    exact s.ackedAt_acknowledge (List.mem_range.mp hm) t
  · intro s m k hk h hseen hbus
    rw [s.onBus_hearAck seen t (List.mem_range.mp hk)] at hbus
    exact (h hseen hbus).hearAck seen (List.mem_range.mp hk)

/-- The rack once a HEARTBEAT has been heard, before it acknowledges anything. -/
def State.hear (s : State) (node : Fin 34) (health t : Nat) : State :=
  { s with bus := { s.bus with
      heard := (node.val, t) :: s.bus.heard.filter (fun x => x.1 != node.val)
      health := (node.val, health) :: s.bus.health.filter (fun x => x.1 != node.val) } }

/-- A HEARTBEAT acknowledges (R869): in paired mode the primary's alone. -/
def State.acks (s : State) (node : Fin 34) : Bool :=
  !s.paired || s.primary == some (node.val - 1) && (node.val == 1 || node.val == 2)

theorem exec_heartbeat (node : Fin 34) (seen health t : Nat) (s : State) :
    exec (.heartbeat 1 node seen health t) s =
      .next (if s.acks node then (List.range 24).foldl (State.hearAck seen t) (s.hear node health t) else s.hear node health t) := rfl

theorem State.heard_hear (s : State) (node : Fin 34) (health t : Nat) : (s.hear node health t).bus.heardAt node = some t :=
  Bus.heardAt_cons s.bus _ _ _

theorem State.acks_primary {s : State} {node : Fin 34} {u : Nat} (hprimary : s.primary = some u) (hnode : node.val = u + 1) :
    s.acks node = true := by
  have hu := State.primary_lt hprimary
  unfold State.acks
  rw [hprimary, hnode]
  obtain rfl | rfl : u = 0 ∨ u = 1 := by omega
  all_goals simp

theorem State.acks_other {s : State} {node : Fin 34} (hpaired : s.paired = true) (hprimary : s.primary ≠ some (node.val - 1)) :
    s.acks node = false := by
  unfold State.acks
  rw [hpaired, beq_eq_false_iff_ne.mpr hprimary]
  rfl

theorem exec_heartbeatSend {s : State} {node : Fin 34} (health t : Nat) (hup : s.nodeUp node = true) :
    ∃ body, exec (.heartbeatSend node health t) s = .next (s.busSend 0x01 node (s.busFlags node t) (s.busTime t) body) := by
  have hrefused : ¬ (!s.nodeUp node) = true := by simp [hup]
  exact ⟨_, if_neg hrefused⟩

section Heartbeats

variable {s : State} {t₀ : Nat}

/-- R867: a node that runs sends its HEARTBEAT under the count of its messages, with its Hall Time and flags. -/
theorem heartbeatSend_completes (node : Fin 34) (health : Nat) (hup : s.nodeUp node = true) :
    let n := ((s.bus.sent.find? (fun x => x.1 == node.val)).map Prod.snd).getD 0
    Completes (.heartbeatSend node health t₀) s (fun t => t.pkgs = s.pkgs ∧ t.trays = s.trays ∧ t.umpires = s.umpires ∧
      (node.val, (n + 1) % 2 ^ 32) ∈ t.bus.sent ∧
      ∃ m, t.bus.last = some m ∧ m.type = 1 ∧ m.node = node.val ∧ m.seq = n ∧ m.ht = s.busTime t₀ ∧ m.flags = s.busFlags node t₀) := by
  obtain ⟨body, hexec⟩ := exec_heartbeatSend health t₀ hup
  exact ⟨_, hexec, rfl, rfl, rfl, List.mem_cons_self, _, s.busSend_last _ _ _ _ _, rfl, rfl, rfl, rfl, rfl⟩

/-- R867: a frame of an unknown version is dropped and counted. -/
theorem heartbeat_dropped {ver : Nat} (node : Fin 34) (seen health : Nat) (hver : ver ≠ 1) :
    Completes (.heartbeat ver node seen health t₀) s (fun t => t = { s with bus := { s.bus with drops := s.bus.drops + 1 } }) :=
  ⟨_, if_pos hver, rfl⟩

theorem heartbeat_heard (node : Fin 34) (seen health : Nat) :
    Completes (.heartbeat 1 node seen health t₀) s (fun t => t.bus.heardAt node = some t₀) := by
  have hkept : (s.hear node health t₀).TmcOnly (if s.acks node then (List.range 24).foldl (State.hearAck seen t₀) (s.hear node health t₀)
      else s.hear node health t₀) := .ite (.foldl _ (State.hearAck_tmcOnly seen t₀) _) (.refl _)
  refine ⟨_, exec_heartbeat node seen health t₀ s, ?_⟩
  beta_reduce
  rw [hkept.bus]
  exact s.heard_hear node health t₀

/-- R869, R881: the primary's HEARTBEAT acknowledges the TMCs it lists, and ends their solo. -/
theorem heartbeat_acknowledges {node : Fin 34} {seen n u : Nat} (health : Nat) (hn : n < 24) (hseen : bit seen (trayNode n) = true)
    (hbus : s.onBus n = true) (hprimary : s.primary = some u) (hnode : node.val = u + 1) :
    Completes (.heartbeat 1 node seen health t₀) s (fun t => (t.tray n).lastAck = t₀ ∧ (t.tray n).solo = false) := by
  refine ⟨_, exec_heartbeat node seen health t₀ s, ?_⟩
  rw [if_pos (State.acks_primary hprimary hnode)]
  exact State.ackedAt_foldl_hearAck (s.hear node health t₀) hn hseen hbus

/-- R869: in paired mode no other node's HEARTBEAT acknowledges. -/
theorem heartbeat_ignored {node : Fin 34} (seen health : Nat) (hpaired : s.paired = true) (hprimary : s.primary ≠ some (node.val - 1)) :
    Completes (.heartbeat 1 node seen health t₀) s (fun t => t.trays = s.trays ∧ t.pkgs = s.pkgs) := by
  refine ⟨_, exec_heartbeat node seen health t₀ s, ?_⟩
  rw [if_neg (by rw [State.acks_other hpaired hprimary]; decide)]
  exact ⟨rfl, rfl⟩

end Heartbeats

/-! ### The TMCs take their primary from the lines (R876) -/

/-- The number by which TMCs and packages name the primary: 1 RMC-A, 2 RMC-B, 0 none. -/
def State.primaryCode (s : State) : Nat := match s.primary with
  | some u => u + 1
  | none => 0

/-- The TMC of tray `n` takes its primary, and tells its packages. -/
def State.tellPrimary (u : Nat) (s : State) (n : Nat) : State :=
  if s.tmcUp n then (s.updTray n (fun y => { y with claimed := u })).updTrayPkgs n (fun k => k.setF F.GLB_MG_PRIMARY u) else s

/-- Every TMC that runs has taken its primary from the lines. -/
def State.Told (s : State) : Prop := ∀ n, n < 24 → s.tmcUp n = true → (s.tray n).claimed = s.primaryCode

theorem State.takePrimary_eq (s : State) : s.takePrimary = (List.range 24).foldl (State.tellPrimary s.primaryCode) s := rfl

theorem State.tellPrimary_tmcOnly (u : Nat) (s : State) (n : Nat) : s.TmcOnly (s.tellPrimary u n) :=
  .ite ((State.TmcOnly.updTray s n _).trans (.ofPkgs (State.updTrayPkgs_pkgsOnly _ _ _))) (.refl s)

theorem State.takePrimary_tmcOnly (s : State) : s.TmcOnly s.takePrimary :=
  State.TmcOnly.foldl _ (State.tellPrimary_tmcOnly _) s

/-- What a TMC's turn does to its tray, and to no other. -/
theorem State.tray_tellPrimary_same (u : Nat) (s : State) {n : Nat} (hn : n < 24) :
    (s.tellPrimary u n).tray n = if s.tmcUp n then { s.tray n with claimed := u } else s.tray n := by
  unfold State.tellPrimary
  split
  · rw [(State.updTrayPkgs_pkgsOnly _ _ _).tray, State.tray_updTray_same s hn]
  · rfl

theorem State.tray_tellPrimary_other (u : Nat) (s : State) {n m : Nat} (h : m ≠ n) : (s.tellPrimary u n).tray m = s.tray m := by
  unfold State.tellPrimary
  split
  · rw [(State.updTrayPkgs_pkgsOnly _ _ _).tray, State.tray_updTray_other s h]
  · rfl

theorem State.tmcUp_tellPrimary (u : Nat) (s : State) {n : Nat} (hn : n < 24) (m : Nat) : (s.tellPrimary u n).tmcUp m = s.tmcUp m := by
  unfold State.tmcUp
  rw [(s.tellPrimary_tmcOnly u n).controllers]
  by_cases h : m = n
  · subst h
    rw [s.tray_tellPrimary_same u hn]
    split <;> rfl
  · rw [s.tray_tellPrimary_other u h]

/-- R876: once the TMCs have taken their primary, each one names the umpire whose line is asserted. -/
theorem State.takePrimary_told (s : State) : s.takePrimary.Told := by
  intro n hn hup
  have hcode : s.takePrimary.primaryCode = s.primaryCode := by
    unfold State.primaryCode; rw [State.primary_congr s.takePrimary_tmcOnly.umpires]
  rw [hcode]
  rw [State.takePrimary_eq] at hup ⊢
  refine foldl_each (P := fun n s' => s'.tmcUp n = true → (s'.tray n).claimed = s.primaryCode) (List.range 24) s ?_ ?_
    n (List.mem_range.mpr hn) hup
  · intro s' m hm hup
    rw [s'.tmcUp_tellPrimary _ (List.mem_range.mp hm)] at hup
    rw [s'.tray_tellPrimary_same _ (List.mem_range.mp hm), if_pos hup]
  · intro s' m k hk h hup
    have hk := List.mem_range.mp hk
    rw [s'.tmcUp_tellPrimary _ hk] at hup
    by_cases hm : m = k
    · subst hm
      rw [s'.tray_tellPrimary_same _ hk, if_pos hup]
    · rw [s'.tray_tellPrimary_other _ hm]
      exact h hup

theorem State.ump_takePrimary (s : State) (u : Nat) : s.takePrimary.ump u = s.ump u := State.ump_congr s.takePrimary_tmcOnly.umpires u

theorem State.primary_takePrimary (s : State) : s.takePrimary.primary = s.primary := State.primary_congr s.takePrimary_tmcOnly.umpires

theorem State.bus_takePrimary (s : State) : s.takePrimary.bus = s.bus := s.takePrimary_tmcOnly.bus

/-! ### The PRIMARY lines (R870–R878) -/

theorem State.resendExts_pkgsOnly (s : State) (t : Nat) : s.PkgsOnly (s.resendExts t) :=
  .foldl _ (fun s _ => .foldl _ (fun s _ => .updNat s _ _) s) s

/-- The rack at an assertion (R872, R877): the umpire's line, and its CLAIM on the bus. -/
def State.assertLine (s : State) (u t : Nat) : State :=
  let s := s.updUmp u (fun x => { x with line := true, asserted := t, polled := false })
  s.busSend 0x02 (u + 1) (s.busFlags (u + 1) t) (s.busTime t) [u + 1, s.tmcsHeard t]

/-- RMC-B yields (R873): it releases its line, with RELEASE cause 2. -/
def State.yieldB (s : State) (t : Nat) : State :=
  (s.releaseLine 1 t).busSend 0x03 2 (s.busFlags 2 t) (s.busTime t) [2]

/-- The end of an assertion (R876, R878): there is a primary, which sends pending extensions again, and the TMCs take it. -/
def State.takeOver (s : State) (t : Nat) : State :=
  (({ s with noPrimary := none, noPrimaryPosted := false } : State).resendExts t).takePrimary

/-- R878: the end of an assertion changes packages, trays and the time without a primary, and nothing else but events. -/
theorem State.takeOver_tmcOnly (s : State) (t : Nat) :
    ({ s with noPrimary := none, noPrimaryPosted := false } : State).TmcOnly (s.takeOver t) :=
  (State.TmcOnly.ofPkgs (State.resendExts_pkgsOnly _ t)).trans (State.takePrimary_tmcOnly _)

theorem State.assertLine_umpires (s : State) (u t : Nat) :
    (s.assertLine u t).umpires = (s.updUmp u (fun x => { x with line := true, asserted := t, polled := false })).umpires := rfl

theorem State.ump_assertLine_same (s : State) {u : Nat} (hu : u < 2) (t : Nat) :
    (s.assertLine u t).ump u = { s.ump u with line := true, asserted := t, polled := false } :=
  (State.ump_congr (s.assertLine_umpires u t) u).trans (s.ump_updUmp_same hu _)

theorem State.ump_assertLine_other (s : State) {u v : Nat} (h : v ≠ u) (t : Nat) : (s.assertLine u t).ump v = s.ump v :=
  (State.ump_congr (s.assertLine_umpires u t) v).trans (s.ump_updUmp_other h _)

/-- R873: RMC-B's line is released as it yields, and RMC-A's stays as it was. -/
theorem State.ump_yieldB (s : State) (t v : Nat) : (s.yieldB t).ump v = (s.releaseLine 1 t).ump v := State.ump_congr rfl v

theorem State.ump_yieldB_one (s : State) (t : Nat) : (s.yieldB t).ump 1 = { s.ump 1 with line := false, released := t } :=
  (s.ump_yieldB t 1).trans (s.ump_releaseLine_same (by decide) t)

theorem State.ump_yieldB_zero (s : State) (t : Nat) : (s.yieldB t).ump 0 = s.ump 0 :=
  (s.ump_yieldB t 0).trans (s.ump_releaseLine_other (by decide) t)

theorem State.takeOver_told (s : State) (t : Nat) : (s.takeOver t).Told := State.takePrimary_told _

theorem State.ump_takeOver (s : State) (t u : Nat) : (s.takeOver t).ump u = s.ump u := State.ump_congr (s.takeOver_tmcOnly t).umpires u

theorem State.primary_takeOver (s : State) (t : Nat) : (s.takeOver t).primary = s.primary :=
  State.primary_congr (s.takeOver_tmcOnly t).umpires

theorem State.bus_takeOver (s : State) (t : Nat) : (s.takeOver t).bus = s.bus := (s.takeOver_tmcOnly t).bus

theorem State.noPrimary_takeOver (s : State) (t : Nat) : (s.takeOver t).noPrimary = none := (s.takeOver_tmcOnly t).noPrimary

/-- The rack once a CLAIM has been heard (R876). -/
def State.hearClaim (s : State) (umpire : Fin 2) (t : Nat) : State :=
  { s with bus := { s.bus with heard := (umpire.val + 1, t) :: s.bus.heard.filter (fun x => x.1 != umpire.val + 1) } }

/-- The rack once a RELEASE has been received (R873). -/
def State.hearRelease (s : State) (umpire : Fin 2) (cause t : Nat) : State :=
  { s with bus := { s.bus with last := some { type := 0x03, node := umpire.val + 1, flags := 0, seq := 0, ht := t, body := [cause] } } }

/-- An umpire that has lost its quorum says so as its line is released (R874). -/
def State.loseQuorum (s : State) (u t : Nat) : State :=
  (s.releaseLine u t).busSend 0x03 (u + 1) (s.busFlags (u + 1) t) (s.busTime t) [1]

section Equations

variable (umpire : Fin 2) (cause t : Nat) (s : State)

theorem exec_claim : exec (.claim 1 umpire t) s = .next (s.hearClaim umpire t).takePrimary := rfl

theorem exec_umpireRelease : exec (.umpireRelease 1 umpire cause t) s = .next (s.hearRelease umpire cause t).takePrimary := rfl

theorem exec_primaryLineRelease : exec (.primaryLineRelease umpire t) s =
    .next (if (s.ump umpire).line then (s.releaseLine umpire t).takePrimary else s) := rfl

theorem exec_quorumLoss : exec (.quorumLoss umpire t) s =
    .next (if (s.ump umpire).line ∧ !s.claimValid umpire t then (s.loseQuorum umpire t).takePrimary else s) := rfl

theorem exec_noPrimaryTimeout : exec (.noPrimaryTimeout t) s =
    .next (if s.paired ∧ s.primary.isNone ∧ !s.noPrimaryPosted ∧ s.noPrimary.getD 0 + 2000000000 ≤ t
      then ({ s with noPrimaryPosted := true } : State).post "NoPrimary" .critical 0 else s) := rfl

end Equations

theorem otherUmpire_ne (u : Fin 2) : 1 - u.val ≠ u.val := by omega

section Lines

variable {s : State} {umpire : Fin 2} {t₀ : Nat}

theorem claim_completes (umpire : Fin 2) : Completes (.claim 1 umpire t₀) s (fun t => t.Told ∧
    t.bus.heardAt (umpire.val + 1) = some t₀ ∧ t.umpires = s.umpires) := by
  refine ⟨_, exec_claim umpire t₀ s, State.takePrimary_told _, ?_, (State.takePrimary_tmcOnly _).umpires⟩
  rw [State.bus_takePrimary]
  exact Bus.heardAt_cons s.bus _ _ _

theorem umpireRelease_completes (umpire : Fin 2) (cause : Nat) : Completes (.umpireRelease 1 umpire cause t₀) s (fun t => t.Told ∧
    t.umpires = s.umpires ∧ ∃ m, t.bus.last = some m ∧ m.type = 3 ∧ m.node = umpire.val + 1 ∧ m.body = [cause]) := by
  refine ⟨_, exec_umpireRelease umpire cause t₀ s, State.takePrimary_told _, (State.takePrimary_tmcOnly _).umpires, ?_⟩
  rw [State.bus_takePrimary]
  exact ⟨_, rfl, rfl, rfl, rfl⟩

/-- R870: the watchdog's release of the one asserted line leaves the rack without a primary. -/
theorem primaryLineRelease_completes (hline : (s.ump umpire).line = true) (hother : (s.ump (1 - umpire.val)).line = false) :
    Completes (.primaryLineRelease umpire t₀) s (fun t => t.Told ∧ (t.ump umpire).line = false ∧ (t.ump umpire).released = t₀ ∧
      t.primary = none ∧ t.noPrimary = some t₀) := by
  have hump := s.ump_releaseLine_same umpire.isLt t₀
  have hnone : (s.releaseLine umpire t₀).primary = none :=
    State.primary_of_no_line umpire (by rw [hump]) (by rwa [s.ump_releaseLine_other (otherUmpire_ne umpire)])
  refine ⟨_, (exec_primaryLineRelease umpire t₀ s).trans (congrArg _ (if_pos hline)), State.takePrimary_told _, ?_⟩
  rw [State.ump_takePrimary, hump, State.primary_takePrimary, (State.takePrimary_tmcOnly _).noPrimary]
  exact ⟨rfl, rfl, hnone, State.releaseLine_noPrimary hnone⟩

/-- PRIMARY_ASSERT with a valid claim, against a line that is released for 300 ms or asserted in the same instant. -/
theorem exec_primaryAssert (hline : (s.ump umpire).line = false) (hpaired : s.paired = true) (hvalid : s.claimValid umpire t₀ = true)
    (hother : ¬ if (s.ump (1 - umpire.val)).line then (s.ump (1 - umpire.val)).asserted ≠ t₀
      else t₀ < (s.ump (1 - umpire.val)).released + 600000000) :
    exec (.primaryAssert umpire t₀) s = .next ((if (s.ump (1 - umpire.val)).line then (s.assertLine umpire t₀).yieldB t₀
      else s.assertLine umpire t₀).takeOver t₀) := by
  refine if_neg ?_
  rw [hline, hpaired, hvalid]
  rintro (h | h | h | h)
  · exact Bool.false_ne_true h
  · exact Bool.false_ne_true h
  · exact Bool.false_ne_true h
  · exact hother h

/-- R872, R876, R877: an umpire with a valid claim asserts a free line, and is primary. -/
theorem primaryAssert_completes (hline : (s.ump umpire).line = false) (hpaired : s.paired = true) (hvalid : s.claimValid umpire t₀ = true)
    (hother : (s.ump (1 - umpire.val)).line = false) (hfree : (s.ump (1 - umpire.val)).released + 600000000 ≤ t₀) :
    Completes (.primaryAssert umpire t₀) s (fun t => t.Told ∧ t.primary = some umpire.val ∧ (t.ump umpire).asserted = t₀ ∧
      t.noPrimary = none ∧ ∃ m, t.bus.last = some m ∧ m.type = 2 ∧ m.node = umpire.val + 1) := by
  have hump := s.ump_assertLine_same umpire.isLt t₀
  have hprimary : (s.assertLine umpire t₀).primary = some umpire.val :=
    State.primary_of_line umpire (by rw [hump]) (by rwa [s.ump_assertLine_other (otherUmpire_ne umpire)])
  refine ⟨_, exec_primaryAssert hline hpaired hvalid (by rw [if_neg (by rw [hother]; decide)]; omega), ?_⟩
  beta_reduce
  rw [if_neg (by rw [hother]; decide), State.primary_takeOver, State.ump_takeOver, State.noPrimary_takeOver, State.bus_takeOver]
  exact ⟨State.takeOver_told _ _, hprimary, congrArg Umpire.asserted hump, rfl, _, rfl, rfl, rfl⟩

/-- R873: when both assert in one instant RMC-B yields (how the instant is told: assumption log entry 64). -/
theorem primaryAssert_yields (hline : (s.ump umpire).line = false) (hpaired : s.paired = true) (hvalid : s.claimValid umpire t₀ = true)
    (hother : (s.ump (1 - umpire.val)).line = true) (hinstant : (s.ump (1 - umpire.val)).asserted = t₀) :
    Completes (.primaryAssert umpire t₀) s (fun t => t.Told ∧ t.primary = some 0 ∧ (t.ump 1).line = false ∧ (t.ump 1).released = t₀ ∧
      ∃ m, t.bus.last = some m ∧ m.type = 3 ∧ m.node = 2 ∧ m.body = [2]) := by
  have hA : ((s.assertLine umpire t₀).ump 0).line = true := by
    match umpire with
    | 0 => exact congrArg Umpire.line (s.ump_assertLine_same (u := 0) (by decide) t₀)
    | 1 => exact (congrArg Umpire.line (s.ump_assertLine_other (u := 1) (v := 0) (by decide) t₀)).trans hother
  have hB := (s.assertLine umpire t₀).ump_yieldB_one t₀
  have hprimary : ((s.assertLine umpire t₀).yieldB t₀).primary = some 0 := by
    rw [State.primary_eq, State.ump_yieldB_zero, if_pos hA]
  refine ⟨_, exec_primaryAssert hline hpaired hvalid (by rw [if_pos hother]; exact fun h => h hinstant), ?_⟩
  beta_reduce
  rw [if_pos hother, State.primary_takeOver, State.ump_takeOver, State.bus_takeOver]
  exact ⟨State.takeOver_told _ _, hprimary, congrArg Umpire.line hB, congrArg Umpire.released hB, State.busSend_sends ..⟩

/-- R874: a primary whose claim stops being valid releases its line, with RELEASE cause 1. -/
theorem quorumLoss_completes (hline : (s.ump umpire).line = true) (hinvalid : s.claimValid umpire t₀ = false) :
    Completes (.quorumLoss umpire t₀) s (fun t => t.Told ∧ (t.ump umpire).line = false ∧ (t.ump umpire).released = t₀ ∧
      ∃ m, t.bus.last = some m ∧ m.type = 3 ∧ m.node = umpire.val + 1 ∧ m.body = [1]) := by
  have hump := s.ump_releaseLine_same umpire.isLt t₀
  refine ⟨_, (exec_quorumLoss umpire t₀ s).trans (congrArg _ (if_pos ⟨hline, by rw [hinvalid]; rfl⟩)), State.takePrimary_told _, ?_⟩
  rw [State.ump_takePrimary, State.bus_takePrimary]
  exact ⟨congrArg Umpire.line hump, congrArg Umpire.released hump, State.busSend_sends ..⟩

/-- R877: the standby takes what the primary holds. -/
theorem mirrorSync_completes {u : Nat} (hprimary : s.primary = some u) (hup : (s.ump (1 - u)).up = true) :
    Completes .mirrorSync s (fun t => (t.ump (1 - u)).mir = (s.ump u).mir ∧ t.ump u = s.ump u ∧ t.pkgs = s.pkgs) := by
  have hu := State.primary_lt hprimary
  refine ⟨s.updUmp (1 - u) (fun x => { x with mir := s.mirrorOf u }), ?_, ?_, s.ump_updUmp_other (by omega) _, rfl⟩
  · show execMirrorSync s = _
    simp only [execMirrorSync, hprimary, hup, if_true]
  · rw [s.ump_updUmp_same (by omega)]
    exact s.mirrorOf_eq hu

/-- A paired rack without a primary for 1 s posts NoPrimary (Table 20-13). -/
theorem noPrimaryTimeout_completes (hpaired : s.paired = true) (hnone : s.primary = none) (hfirst : s.noPrimaryPosted = false)
    (hlate : s.noPrimary.getD 0 + 2000000000 ≤ t₀) :
    Completes (.noPrimaryTimeout t₀) s (fun t => t.noPrimaryPosted = true ∧ t.pkgs = s.pkgs ∧
      t.events = { id := s.nextEvent, name := "NoPrimary", severity := .critical, arg := 0 } :: s.events) :=
  ⟨_, (exec_noPrimaryTimeout t₀ s).trans (congrArg _ (if_pos ⟨hpaired, by rw [hnone]; rfl, by rw [hfirst]; rfl, hlate⟩)), rfl, rfl, rfl⟩

end Lines

/-! ### Solo (R879, R880) -/

/-- R859, R880: a limit put on writes the safe cap, and raises an event unless the safe cap is 0. -/
theorem Pkg.writeTrayLimit_on (k : Pkg) : k.writeTrayLimit true =
    if k.getF F.PWR_CFG_SAFE = 0 then k.setF F.PWR_TRAY_W (k.getF F.PWR_CFG_SAFE)
    else (k.setF F.PWR_TRAY_W (k.getF F.PWR_CFG_SAFE)).raise F.PWR_EV_TRAY_LIMIT := rfl

/-- While a limit holds a package's tray limit is its safe cap. -/
theorem Pkg.getF_writeTrayLimit_on (k : Pkg) : (k.writeTrayLimit true).getF F.PWR_TRAY_W = k.getF F.PWR_CFG_SAFE := by
  have hset : (k.setF F.PWR_TRAY_W (k.getF F.PWR_CFG_SAFE)).getF F.PWR_TRAY_W = k.getF F.PWR_CFG_SAFE :=
    (k.getF_setF_same _ _ rfl).trans (Nat.mod_eq_of_lt (k.getF_lt F.PWR_CFG_SAFE))
  rw [Pkg.writeTrayLimit_on]
  split
  · exact hset
  · exact (Pkg.getF_setF_apart _ _ _ _ rfl).trans hset

/-- A limit says nothing of whether the package's hub has power. -/
theorem Pkg.hubOn_writeTrayLimit_on (k : Pkg) : (k.writeTrayLimit true).hubOn = k.hubOn := by
  have hset : (k.setF F.PWR_TRAY_W (k.getF F.PWR_CFG_SAFE)).getF (F.PWR_RL_STATE 1) = k.getF (F.PWR_RL_STATE 1) :=
    Pkg.getF_setF_apart _ _ _ _ rfl
  refine congrArg (· == 2) ?_
  rw [Pkg.writeTrayLimit_on]
  split
  · exact hset
  · exact (Pkg.getF_setF_apart _ _ _ _ rfl).trans hset

/-- The rack once a tray's TMC has entered solo, before its lamp and its event (R880). -/
def State.enterSolo (s : State) (n : Nat) : State :=
  ((s.updTray n (fun y => { y with solo := true })).setLimit n 3 true).updTrayPkgs n (fun k => k.raise F.GLB_MG_SOLO)

theorem State.tray_enterSolo (s : State) {n : Nat} (hn : n < 24) :
    (s.enterSolo n).tray n = { s.tray n with solo := true, limits := limitsAfter 3 true (s.tray n).limits } := by
  unfold State.enterSolo
  rw [(State.updTrayPkgs_pkgsOnly _ _ _).tray, State.tray_setLimit_same _ hn, State.tray_updTray_same s hn]

theorem State.nextEvent_enterSolo (s : State) (n : Nat) : (s.enterSolo n).nextEvent = s.nextEvent :=
  (State.updTrayPkgs_pkgsOnly _ _ _).nextEvent.trans (State.setLimit_pkgsOnly _ _ _).nextEvent

theorem State.pkg_enterSolo (s : State) (p : PkgId) : (s.enterSolo (trayOf p)).pkg p =
    if (s.pkg p).hubOn then ((s.pkg p).writeTrayLimit true).raise F.GLB_MG_SOLO else (s.pkg p).writeTrayLimit true := by
  unfold State.enterSolo
  rw [State.pkg_updTrayPkgs, State.pkg_setLimit_on, State.pkg_updTray, Pkg.hubOn_writeTrayLimit_on]

/-- R880: the packages of a tray in solo have the safe cap, and those with power say so. -/
theorem State.enterSolo_caps (s : State) (p : PkgId) :
    ((s.enterSolo (trayOf p)).pkg p).getF F.PWR_TRAY_W = (s.pkg p).getF F.PWR_CFG_SAFE ∧
    ((s.pkg p).hubOn = true → ((s.enterSolo (trayOf p)).pkg p).getF F.GLB_MG_SOLO = 1) := by
  rw [State.pkg_enterSolo]
  constructor
  · split
    · exact (Pkg.getF_setF_apart _ _ _ _ rfl).trans (Pkg.getF_writeTrayLimit_on _)
    · exact Pkg.getF_writeTrayLimit_on _
  · intro hon
    rw [if_pos hon]
    exact Pkg.getF_setF_same _ _ _ rfl

/-- R879, R880: a TMC without acknowledgement for `MG_SOLO` seconds enters solo. -/
theorem soloEntry_completes {s : State} {t₀ : Nat} {tray : TrayId} (hup : s.tmcUp tray = true) (hsolo : (s.tray tray).solo = false)
    (hack : (s.tray tray).lastAck + s.mgmt.solo * 2000000000 ≤ t₀) (hstart : (s.tray tray).started + s.mgmt.solo * 2000000000 ≤ t₀) :
    Completes (.soloEntry tray t₀) s (fun t => (t.tray tray).solo = true ∧ 3 ∈ (t.tray tray).limits ∧
      (∀ p : PkgId, trayOf p = tray.val → (t.pkg p).getF F.PWR_TRAY_W = (s.pkg p).getF F.PWR_CFG_SAFE ∧
        ((s.pkg p).hubOn = true → (t.pkg p).getF F.GLB_MG_SOLO = 1)) ∧
      ∃ e ∈ t.events, e.name = "TraySolo" ∧ e.arg = tray.val ∧ e.id = s.nextEvent) := by
  refine ⟨((s.enterSolo tray).showLamp tray).post "TraySolo" .warning tray, if_neg ?_, ?_⟩
  · rw [hup, hsolo]
    rintro (h | h | h | h)
    · exact Bool.false_ne_true h
    · exact Bool.false_ne_true h
    · omega
    · omega
  · beta_reduce
    rw [State.tray_post, State.tray_showLamp_same _ tray.isLt, State.tray_enterSolo s tray.isLt]
    refine ⟨rfl, mem_limitsAfter_on 3 _, fun p hp => ?_, _, List.mem_cons_self, rfl, rfl, s.nextEvent_enterSolo tray⟩
    rw [← hp]
    exact s.enterSolo_caps p

/-! ### The election as a whole -/

/-- Settles O47, clause by clause: HEARTBEATs, the lines, the mirror, and solo. -/
theorem thePrimaryIsElected : Obligations.ThePrimaryIsElected := by
  unfold Obligations.ThePrimaryIsElected
  intro s t₀ told
  refine ⟨fun node health hup => heartbeatSend_completes node health hup,
    fun ver node seen health hver => heartbeat_dropped node seen health hver,
    fun node seen health => heartbeat_heard node seen health,
    fun node seen health n u hn hseen hbus _ hprimary hnode => heartbeat_acknowledges health hn hseen hbus hprimary hnode,
    fun node seen health hpaired hprimary => heartbeat_ignored seen health hpaired hprimary,
    claim_completes, umpireRelease_completes,
    fun umpire hline hother => primaryLineRelease_completes hline hother,
    fun umpire hline hpaired hvalid => ⟨primaryAssert_completes hline hpaired hvalid, primaryAssert_yields hline hpaired hvalid⟩,
    fun umpire hline hinvalid => quorumLoss_completes hline hinvalid,
    fun u hprimary hup => mirrorSync_completes hprimary hup,
    noPrimaryTimeout_completes,
    fun tray hup hsolo hack hstart => soloEntry_completes hup hsolo hack hstart⟩

end Sys2Proof.Machine
end

section
/-! PROOFS. The boot flash under a package's staging commands (R921): what a byte reads as after programming and erasing, and the
little-endian words that the staging buffer is made of. -/

namespace Sys2Proof.Machine

/-! ### Little-endian words -/

@[simp] theorem leBytes_length (n v : Nat) : (leBytes n v).length = n := by
  induction n generalizing v with
  | zero => rfl
  | succ n ih => simp [leBytes, ih]

/-- The bytes of a value read back, cut to their number. -/
theorem leNat_leBytes (n v : Nat) : leNat (leBytes n v) = v % 256 ^ n := by
  induction n generalizing v with
  | zero => simp [leBytes, leNat, Nat.mod_one]
  | succ n ih =>
    calc v % 256 + 256 * leNat (leBytes n (v / 256)) = v % (256 * 256 ^ n) := by rw [ih, Nat.mod_mul]
      _ = v % 256 ^ (n + 1) := by rw [Nat.pow_succ']

theorem leNat_lt (bs : Bytes) : leNat bs < 256 ^ bs.length := by
  induction bs with
  | nil => simp [leNat]
  | cons b r ih =>
    rw [leNat, List.length_cons, Nat.pow_succ']
    have := b.isLt
    omega

/-- A word that is read is below 2⁶⁴. -/
theorem fieldAt_word_lt (bs : Bytes) (o : Nat) : fieldAt bs o 8 < 2 ^ 64 :=
  calc fieldAt bs o 8 < 256 ^ ((bs.drop o).take 8).length := leNat_lt _
    _ ≤ 256 ^ 8 := Nat.pow_le_pow_right (by decide) (by rw [List.length_take]; exact Nat.min_le_left _ _)

/-- Of blocks of one length laid end to end, the block at an index. -/
theorem block_flatMap {α β : Type} {f : α → List β} {n : Nat} (hlen : ∀ x, (f x).length = n) (l : List α) {i : Nat} (hi : i < l.length) :
    ((l.flatMap f).drop (n * i)).take n = f l[i] := by
  induction l generalizing i with
  | nil => exact absurd hi (Nat.not_lt_zero i)
  | cons x l ih =>
    rw [List.flatMap_cons]
    cases i with
    | zero => rw [Nat.mul_zero, List.drop_zero, List.take_left' (hlen x)]; rfl
    | succ i =>
      rw [Nat.mul_succ, Nat.add_comm, ← List.drop_drop, List.drop_left' (hlen x), List.getElem_cons_succ]
      exact ih (Nat.lt_of_succ_lt_succ hi)

/-! ### Bytes of flash -/

@[simp] theorem Pkg.flashRead_length (k : Pkg) (a n : Nat) : (k.flashRead a n).length = n := by simp [Pkg.flashRead]

theorem Pkg.flashRead_setF (k : Pkg) (f : Fld) (v a n : Nat) : (k.setF f v).flashRead a n = k.flashRead a n := rfl

/-- A part of what is read is what is read there. -/
theorem Pkg.flashRead_part (k : Pkg) (a : Nat) {o m n : Nat} (h : o + m ≤ n) :
    ((k.flashRead a n).drop o).take m = k.flashRead (a + o) m := by
  apply List.ext_getElem
  · simp only [List.length_take, List.length_drop, Pkg.flashRead_length]
    omega
  · intro i _ _
    simp [Pkg.flashRead, Nat.add_assoc]

/-- A field of what is read is the field read where it stands. -/
theorem Pkg.fieldAt_flashRead (k : Pkg) (a : Nat) {o m n : Nat} (h : o + m ≤ n) :
    fieldAt (k.flashRead a n) o m = fieldAt (k.flashRead (a + o) m) 0 m := by
  unfold fieldAt
  rw [k.flashRead_part a h, k.flashRead_part (a + o) (o := 0) (m := m) (Nat.zero_add m).le, Nat.add_zero]

/-- An erased range reads as erased, and the rest as before. -/
theorem Pkg.byte_flashErase (k : Pkg) (a n x : Nat) : Sparse.get erased (k.flashErase a n).flash x =
    if a ≤ x ∧ x < a + n then 0xFF else Sparse.get erased k.flash x := by
  simp only [Pkg.flashErase, Sparse.get_keep, Bool.or_eq_true, decide_eq_true_eq]
  by_cases h : a ≤ x ∧ x < a + n
  · rw [if_pos h, if_neg (by omega)]; rfl
  · rw [if_neg h, if_pos (by omega)]

/-- R921: an erased slot reads as erased, with its settings region, and the rest of the flash as before. -/
theorem Pkg.byte_eraseSlot (k : Pkg) (slot x : Nat) : Sparse.get erased (k.eraseSlot slot).flash x =
    if settingsBase slot ≤ x ∧ x < settingsBase slot + 0x200000 ∨ (flashRegion 1 slot).1 ≤ x ∧ x < (flashRegion 1 slot).1 + 0x1B00000
    then 0xFF else Sparse.get erased k.flash x := by
  unfold Pkg.eraseSlot
  rw [Pkg.byte_flashErase, Pkg.byte_flashErase, ← ite_or]
  exact if_congr or_comm rfl rfl

/-- Bytes are programmed one by one, lowest address first. -/
theorem Pkg.flashWrite_concat (k : Pkg) (a : Nat) (bs : Bytes) (b : BitVec 8) :
    (k.flashWrite a (bs ++ [b])).flash = Sparse.set erased (k.flashWrite a bs).flash (a + bs.length) b := by
  unfold Pkg.flashWrite
  rw [List.length_append, List.length_singleton, List.range_succ, List.zip_append (by simp), List.foldl_append]
  rfl

/-- Programmed bytes read back, and the rest of the flash as before. -/
theorem Pkg.byte_flashWrite (k : Pkg) (a : Nat) (bs : Bytes) (x : Nat) : Sparse.get erased (k.flashWrite a bs).flash x =
    if a ≤ x ∧ x < a + bs.length then bs.getD (x - a) 0 else Sparse.get erased k.flash x := by
  induction bs using List.reverseRecOn with
  | nil => rw [if_neg (by simp)]; rfl
  | append_singleton bs b ih =>
    rw [Pkg.flashWrite_concat, List.length_append, List.length_singleton]
    by_cases hx : x = a + bs.length
    · subst hx
      rw [Sparse.get_set_same, if_pos (by omega), Nat.add_sub_cancel_left]
      simp
    · rw [Sparse.get_set_other _ _ _ hx, ih]
      by_cases hin : a ≤ x ∧ x < a + bs.length
      · rw [if_pos hin, if_pos (by omega), List.getD_append _ _ _ _ (by omega)]
      · rw [if_neg hin, if_neg (by omega)]

/-- What is read inside a programmed range. -/
theorem Pkg.flashRead_flashWrite (k : Pkg) (a : Nat) {bs : Bytes} {o n : Nat} (h : o + n ≤ bs.length) :
    (k.flashWrite a bs).flashRead (a + o) n = (bs.drop o).take n := by
  apply List.ext_getElem
  · simp only [List.length_take, List.length_drop, Pkg.flashRead_length]
    omega
  · intro i hi _
    rw [Pkg.flashRead_length] at hi
    have hoff : a + o + i - a = o + i := by omega
    simp only [Pkg.flashRead, List.getElem_map, List.getElem_range, List.getElem_take, List.getElem_drop]
    rw [Pkg.byte_flashWrite, if_pos (by omega), hoff, List.getD_eq_getElem _ _ (by omega)]

/-! ### The staging buffer (R921) -/

/-- The bytes of the staging buffer. -/
def Pkg.stageBytes (k : Pkg) : Bytes := (List.range 512).flatMap (fun i => leBytes 8 (k.getF (F.BOOT_STAGE_BUF i)))

theorem Pkg.stageBytes_length (k : Pkg) : k.stageBytes.length = 4096 := by
  rw [Pkg.stageBytes, List.length_flatMap]
  simp only [leBytes_length, List.map_const', List.sum_replicate, List.length_range, smul_eq_mul, Nat.reduceMul]

/-- The staging buffer programmed at an address reads back word by word. -/
theorem Pkg.stageBytes_reads (k : Pkg) (a : Nat) {i : Nat} (hi : i < 512) :
    fieldAt ((k.flashWrite a k.stageBytes).flashRead (a + 8 * i) 8) 0 8 = k.getF (F.BOOT_STAGE_BUF i) := by
  have hblock : (k.stageBytes.drop (8 * i)).take 8 = leBytes 8 (k.getF (F.BOOT_STAGE_BUF i)) := by
    have hlen : i < (List.range 512).length := by rwa [List.length_range]
    have := block_flatMap (fun i => leBytes_length 8 (k.getF (F.BOOT_STAGE_BUF i))) (List.range 512) hlen
    rwa [List.getElem_range] at this
  rw [Pkg.flashRead_flashWrite _ _ (by rw [Pkg.stageBytes_length]; omega), hblock, fieldAt, List.drop_zero,
    List.take_of_length_le (leBytes_length 8 _).le, leNat_leBytes]
  exact Nat.mod_eq_of_lt (Pkg.getF_lt _ _)

/-- The staging buffer filled with the words of a byte string. -/
def Pkg.fillStage (k : Pkg) (bs : Bytes) : Pkg := k.forEach 512 (fun k i => k.setF (F.BOOT_STAGE_BUF i) (fieldAt bs (8 * i) 8))

theorem Pkg.fillStage_flash (k : Pkg) (bs : Bytes) : (k.fillStage bs).flash = k.flash :=
  foldl_keeps (v := Pkg.flash) _ _ (fun _ _ _ => rfl)

/-- Every word of the buffer is the word of its place. -/
theorem Pkg.fillStage_buf (k : Pkg) (bs : Bytes) {i : Nat} (hi : i < 512) :
    (k.fillStage bs).getF (F.BOOT_STAGE_BUF i) = fieldAt bs (8 * i) 8 := by
  have own : ∀ (k : Pkg) (i : Nat), (k.setF (F.BOOT_STAGE_BUF i) (fieldAt bs (8 * i) 8)).getF (F.BOOT_STAGE_BUF i) = fieldAt bs (8 * i) 8 :=
    fun k i => (Pkg.getF_setF_same _ _ _ rfl).trans (Nat.mod_eq_of_lt (fieldAt_word_lt bs _))
  refine foldl_each (P := fun i (k : Pkg) => k.getF (F.BOOT_STAGE_BUF i) = fieldAt bs (8 * i) 8) _ _ (fun k x _ => own k x)
    (fun k y x _ hy => ?_) i (List.mem_range.mpr hi)
  by_cases hxy : y = x
  · exact hxy ▸ own k x
  · have hoff : (F.BOOT_STAGE_BUF x).off ≠ (F.BOOT_STAGE_BUF y).off := by
      simp only [F.BOOT_STAGE_BUF]
      omega
    exact (Pkg.getF_setF_apart _ _ _ _ (by simp [Fld.apart, hoff])).trans hy

end Sys2Proof.Machine
end

section
/-! PROOFS. What a package does for a roster (R921–R924): staging commands on the boot flash, the vote, and the abort. -/

namespace Sys2Proof.Machine

/-! ### Status registers and the vote -/

/-- A reported status is written, and what logging it changes is the error log (R974). -/
theorem Pkg.report_frame (k : Pkg) (f : Fld) (st : Status) (u : UnitKind) (i x : Nat) : ErrOnly (k.setF f st) (k.report f st u i x) :=
  ErrOnly.ite (ErrOnly.refl _) (Pkg.logError_frame _ _ _ _ _)

theorem ErrOnly.flash {k j : Pkg} (h : ErrOnly k j) : j.flash = k.flash := by
  obtain ⟨⟨r, n, rfl⟩, _⟩ := h
  rfl

/-- A status that its register holds reads back. -/
theorem Pkg.vote_status (k : Pkg) {st : Status} (hst : st < 2 ^ 16) : (k.vote st).getF F.BOOT_VOTE_STATUS = st :=
  ((Pkg.report_frame _ _ _ _ _ _).getF _ (by decide)).trans ((Pkg.getF_setF_same _ _ _ rfl).trans (Nat.mod_eq_of_lt hst))

/-- R922: a package votes YES exactly with status 0. -/
theorem Pkg.vote_yes (k : Pkg) (st : Status) : (k.vote st).getF F.BOOT_VOTE_YES = if st = 0 then 1 else 0 := by
  refine ((Pkg.report_frame _ _ _ _ _ _).getF _ (by decide)).trans ?_
  rw [Pkg.getF_setF_apart _ _ _ _ rfl, Pkg.getF_setF_same _ _ _ rfl]
  split <;> rfl

theorem Pkg.vote_flash (k : Pkg) (st : Status) : (k.vote st).flash = k.flash := (Pkg.report_frame _ _ _ _ _ _).flash

/-- R922: a roster whose signatures fail is voted down before anything is staged. -/
theorem Pkg.verify_unsigned {k : Pkg} (rack : Nat) {b : Bytes}
    (h : ¬ sigAccepted (k.getF F.BOOT_KEYS) rosterContext (b.take 128) (b.drop (128 + 128 * rosterCount b)) = true) :
    k.verify rack b = k.vote 0x5805 :=
  if_pos (by simpa using h)

/-- R922: a signed roster that names no image is voted up, once every class is copied from the running slot. -/
theorem Pkg.verify_empty {k : Pkg} (rack : Nat) {b : Bytes} (hcount : rosterCount b = 0)
    (h : sigAccepted (k.getF F.BOOT_KEYS) rosterContext (b.take 128) (b.drop (128 + 128 * rosterCount b)) = true) :
    k.verify rack b = ([1, 2, 3, 4].foldl (fun (j : Pkg) c => j.copyClass c (1 - k.runningSlot)) k).vote 0 := by
  have hentries : rosterEntries b = [] := by rw [rosterEntries, hcount]; rfl
  unfold Pkg.verify
  rw [hentries]
  exact if_neg (by simpa using h)

/-! ### The commands, as the TMC gives them over I3C -/

/-- A slot's settings are no longer an image's own. -/
def Pkg.dropSettings (k : Pkg) (slot : Nat) : Pkg :=
  { k with boot := { k.boot with settings := k.boot.settings.filter (fun x => x != slot) } }

theorem Pkg.dropSettings_not_mem (k : Pkg) (slot : Nat) : slot ∉ (k.dropSettings slot).boot.settings := by
  simp [Pkg.dropSettings, List.mem_filter]

variable {s : State} {p : PkgId} {t₀ : Nat}

/-- R983: an action of the package reached over I3C alone acts. -/
theorem Pkg.viaPkg_i3c (k : Pkg) (off : Nat) (act : Pkg → Pkg) : k.viaPkg .i3c off .i act = act k := rfl

/-- A command that changes one package completes with that change. -/
theorem completes_of_updPkg {c : Instr} {f : Pkg → Pkg} {P : State → Prop} (hexec : exec c s = .next (s.updPkg p f))
    (h : ∀ t : State, t.pkg p = f (s.pkg p) → P t) : Completes c s P :=
  ⟨_, hexec, h _ (State.pkg_updPkg_same _ _ _)⟩

/-- R921: STAGE_WRITE programs the buffer at the offset's 4 KiB. -/
theorem exec_stageWrite (off : Nat) : exec (.stageWrite p .i3c off t₀) s = .next (s.updPkg p (fun k =>
    ((k.at t₀).flashWrite (off % 0x4000000 / 4096 * 4096) (k.at t₀).stageBytes).setF F.BOOT_STAGE_CODE 0)) := rfl

theorem stageWrite_completes (off : Nat) :
    let k := (s.pkg p).at t₀
    let a := off % 0x4000000 / 4096 * 4096
    Completes (.stageWrite p .i3c off t₀) s (fun t => (t.pkg p).getF F.BOOT_STAGE_CODE = 0 ∧
      (∀ i, i < 512 → fieldAt ((t.pkg p).flashRead (a + 8 * i) 8) 0 8 = k.getF (F.BOOT_STAGE_BUF i)) ∧
      ∀ x, x < a ∨ a + 4096 ≤ x → Sparse.get erased (t.pkg p).flash x = Sparse.get erased k.flash x) := by
  intro k a
  refine completes_of_updPkg (exec_stageWrite off) (fun t ht => ?_)
  rw [ht, Pkg.setF_flash]
  refine ⟨Pkg.getF_setF_same _ _ _ rfl, fun i hi => ?_, fun x hx => ?_⟩
  · rw [Pkg.flashRead_setF]
    exact k.stageBytes_reads a hi
  · refine (k.byte_flashWrite a k.stageBytes x).trans (if_neg ?_)
    rw [Pkg.stageBytes_length]
    omega

/-- R921: READ_BACK fills the buffer with what flash holds; where no image has built its settings, no byte is open. -/
theorem exec_readBack (off : Nat) (hsettings : ((s.pkg p).at t₀).boot.settings = []) :
    exec (.readBack p .i3c off t₀) s = .next (s.setPkg p
      ((((s.pkg p).at t₀).fillStage (((s.pkg p).at t₀).flashRead (off % 0x4000000 / 4096 * 4096) 4096)).setF F.BOOT_STAGE_CODE 0)) := by
  show execReadBack p .i3c off t₀ s = _
  simp only [execReadBack, State.updPkg, Pkg.viaPkg_i3c, hsettings, List.any_nil, Bool.false_eq_true, if_false]
  rfl

theorem readBack_completes (off : Nat) (hsettings : ((s.pkg p).at t₀).boot.settings = []) :
    let k := (s.pkg p).at t₀
    let a := off % 0x4000000 / 4096 * 4096
    Completes (.readBack p .i3c off t₀) s (fun t => (t.pkg p).getF F.BOOT_STAGE_CODE = 0 ∧ (t.pkg p).flash = k.flash ∧
      ∀ i, i < 512 → (t.pkg p).getF (F.BOOT_STAGE_BUF i) = fieldAt (k.flashRead (a + 8 * i) 8) 0 8) := by
  intro k a
  refine ⟨_, exec_readBack off hsettings, ?_⟩
  beta_reduce
  rw [State.pkg_setPkg_same, Pkg.setF_flash, Pkg.fillStage_flash]
  refine ⟨Pkg.getF_setF_same _ _ _ rfl, rfl, fun i hi => ?_⟩
  have happart : F.BOOT_STAGE_CODE.apart (F.BOOT_STAGE_BUF i) = true := by
    have hoff : (0x40088 : Nat) ≠ 0x41000 + 0x8 * i := by omega
    simp [Fld.apart, F.BOOT_STAGE_CODE, F.BOOT_STAGE_BUF, hoff]
  rw [Pkg.getF_setF_apart _ _ _ _ happart, Pkg.fillStage_buf _ _ hi]
  exact k.fieldAt_flashRead a (by omega)

/-- R921: ERASE_SLOT erases the slot that is not running, with its settings. -/
theorem exec_eraseSlot : exec (.eraseSlot p .i3c t₀) s = .next (s.updPkg p (fun k =>
    (((k.at t₀).dropSettings (1 - (k.at t₀).runningSlot)).eraseSlot (1 - (k.at t₀).runningSlot)).setF F.BOOT_STAGE_CODE 0)) := rfl

theorem eraseSlot_completes :
    let k := (s.pkg p).at t₀
    let slot := 1 - k.runningSlot
    Completes (.eraseSlot p .i3c t₀) s (fun t => (t.pkg p).getF F.BOOT_STAGE_CODE = 0 ∧ slot ∉ (t.pkg p).boot.settings ∧
      ∀ x, Sparse.get erased (t.pkg p).flash x =
        if settingsBase slot ≤ x ∧ x < settingsBase slot + 0x200000 ∨
          (flashRegion 1 slot).1 ≤ x ∧ x < (flashRegion 1 slot).1 + 0x1B00000 then 0xFF else Sparse.get erased k.flash x) := by
  intro k slot
  refine completes_of_updPkg exec_eraseSlot (fun t ht => ?_)
  rw [ht]
  exact ⟨Pkg.getF_setF_same _ _ _ rfl, k.dropSettings_not_mem slot, (k.dropSettings slot).byte_eraseSlot slot⟩

/-- R922, R923: BOOT_VERIFY verifies the roster in staging, and votes NO where there is none. -/
theorem exec_bootVerify : exec (.bootVerify p .i3c t₀) s = .next (s.updPkg p (fun k => match s.rosterOf p with
    | some (_, r) => if r.phase = .staging then (k.at t₀).verify s.rackId r.image else k.at t₀
    | none => (k.at t₀).vote 0x380B)) := rfl

/-- R923: without a roster there is nothing to vote for. -/
theorem bootVerify_completes_of_no_roster (hroster : s.rosterOf p = none) :
    Completes (.bootVerify p .i3c t₀) s (fun t => (t.pkg p).getF F.BOOT_VOTE_YES = 0 ∧ (t.pkg p).getF F.BOOT_VOTE_STATUS = 0x380B) := by
  refine completes_of_updPkg exec_bootVerify (fun t ht => ?_)
  rw [ht, hroster]
  exact ⟨Pkg.vote_yes _ _, Pkg.vote_status _ (by decide)⟩

/-- R922: the vote on a roster of no entries is that of its signatures. -/
theorem bootVerify_completes {d : Nat} {r : Roster} (hroster : s.rosterOf p = some (d, r)) (hphase : r.phase = .staging)
    (hcount : rosterCount r.image = 0) :
    let k := (s.pkg p).at t₀
    Completes (.bootVerify p .i3c t₀) s (fun t =>
      if sigAccepted (k.getF F.BOOT_KEYS) rosterContext (r.image.take 128) (r.image.drop 128) then
        (t.pkg p).getF F.BOOT_VOTE_YES = 1 ∧ (t.pkg p).getF F.BOOT_VOTE_STATUS = 0
      else (t.pkg p).getF F.BOOT_VOTE_YES = 0 ∧ (t.pkg p).getF F.BOOT_VOTE_STATUS = 0x5805 ∧ (t.pkg p).flash = k.flash) := by
  intro k
  have hstop : 128 + 128 * rosterCount r.image = 128 := by rw [hcount]
  refine completes_of_updPkg exec_bootVerify (fun t ht => ?_)
  rw [ht, hroster]
  dsimp only
  rw [if_pos hphase]
  split
  · next hsig =>
    rw [Pkg.verify_empty _ hcount (by rwa [hstop])]
    exact ⟨Pkg.vote_yes _ _, Pkg.vote_status _ (by decide)⟩
  · next hsig =>
    rw [Pkg.verify_unsigned _ (by rwa [hstop])]
    exact ⟨Pkg.vote_yes _ _, Pkg.vote_status _ (by decide), Pkg.vote_flash _ _⟩

theorem exec_bootAbort : exec (.bootAbort p .i3c t₀) s = .next (s.updPkg p (fun k => (k.at t₀).abortStage)) := by
  show execBootAbort p .i3c t₀ s = _
  simp only [execBootAbort, Pkg.viaPkg_i3c]

/-- R924: outside a commit the staged slot is erased, and a YES becomes the NO of an aborted roster. -/
theorem Pkg.abortStage_eq {k : Pkg} (hstate : k.bc.state = 0) : k.abortStage =
    if k.flag F.BOOT_VOTE_YES then ((k.eraseSlot (1 - k.runningSlot)).dropSettings (1 - k.runningSlot)).vote 0x1808
    else (k.eraseSlot (1 - k.runningSlot)).dropSettings (1 - k.runningSlot) :=
  if_neg (not_not_intro hstate)

theorem bootAbort_completes (hstate : ((s.pkg p).at t₀).bc.state = 0) :
    let k := (s.pkg p).at t₀
    let slot := 1 - k.runningSlot
    Completes (.bootAbort p .i3c t₀) s (fun t =>
      (∀ x, Sparse.get erased (t.pkg p).flash x =
        if settingsBase slot ≤ x ∧ x < settingsBase slot + 0x200000 ∨
          (flashRegion 1 slot).1 ≤ x ∧ x < (flashRegion 1 slot).1 + 0x1B00000 then 0xFF else Sparse.get erased k.flash x) ∧
      (k.getF F.BOOT_VOTE_YES = 1 → (t.pkg p).getF F.BOOT_VOTE_YES = 0 ∧ (t.pkg p).getF F.BOOT_VOTE_STATUS = 0x1808)) := by
  intro k slot
  have hbyte := k.byte_eraseSlot slot
  refine completes_of_updPkg exec_bootAbort (fun t ht => ?_)
  rw [ht, Pkg.abortStage_eq hstate]
  split
  · exact ⟨by rwa [Pkg.vote_flash], fun _ => ⟨Pkg.vote_yes _ _, Pkg.vote_status _ (by decide)⟩⟩
  · next hno => exact ⟨hbyte, fun hyes => absurd (beq_iff_eq.mpr hyes) hno⟩

/-- R927: from the commit onward nothing aborts. -/
theorem bootAbort_completes_of_committed (hstate : ((s.pkg p).at t₀).bc.state ≠ 0) :
    Completes (.bootAbort p .i3c t₀) s (fun t =>
      (t.pkg p).flash = ((s.pkg p).at t₀).flash ∧ (t.pkg p).regs = ((s.pkg p).at t₀).regs) := by
  refine completes_of_updPkg exec_bootAbort (fun t ht => ?_)
  rw [ht, Pkg.abortStage, if_pos hstate]
  exact ⟨rfl, rfl⟩

end Sys2Proof.Machine
end

section
/-! PROOFS. What a coordinator does for a roster (R917–R928, R933, R934): submission, votes, abort, commit, and its restart. -/

namespace Sys2Proof.Machine

/-! ### Rosters, commit records and controllers -/

@[simp] theorem State.roster_putRoster_same (s : State) (c : Nat) (r : Roster) : (s.putRoster c r).roster c = some r := by
  simp [State.roster, State.putRoster]

/-- Nothing of the rack differs but its controllers. -/
def State.ControllersOnly (s t : State) : Prop := ∃ cs, t = { s with controllers := cs }

namespace State.ControllersOnly

variable {s t u : State}

theorem refl (s : State) : s.ControllersOnly s := ⟨s.controllers, rfl⟩

theorem trans (h : s.ControllersOnly t) (g : t.ControllersOnly u) : s.ControllersOnly u := by
  obtain ⟨cs, rfl⟩ := h
  obtain ⟨ds, rfl⟩ := g
  exact ⟨ds, rfl⟩

theorem updCtrl (s : State) (n : Nat) (f : Controller → Controller) : s.ControllersOnly (s.updCtrl n f) := ⟨_, rfl⟩

theorem ite {c : Prop} [Decidable c] (h : s.ControllersOnly t) (g : s.ControllersOnly u) : s.ControllersOnly (if c then t else u) := by
  split <;> assumption

theorem foldl {α : Type} (l : List α) {f : State → α → State} (h : ∀ (s : State) x, s.ControllersOnly (f s x)) (s : State) :
    s.ControllersOnly (l.foldl f s) :=
  List.foldlRecOn l f (refl s) (fun b hb x _ => hb.trans (h b x))

theorem pkgs (h : s.ControllersOnly t) : t.pkgs = s.pkgs := by obtain ⟨cs, rfl⟩ := h; rfl

theorem events (h : s.ControllersOnly t) : t.events = s.events := by obtain ⟨cs, rfl⟩ := h; rfl

theorem nextEvent (h : s.ControllersOnly t) : t.nextEvent = s.nextEvent := by obtain ⟨cs, rfl⟩ := h; rfl

theorem roster (h : s.ControllersOnly t) (c : Nat) : t.roster c = s.roster c := by obtain ⟨cs, rfl⟩ := h; rfl

theorem commitOf (h : s.ControllersOnly t) (c : Nat) : t.commitOf c = s.commitOf c := by obtain ⟨cs, rfl⟩ := h; rfl

end State.ControllersOnly

theorem State.ctrl_updCtrl_same (s : State) {n : Nat} (hn : n < 34) (f : Controller → Controller) : (s.updCtrl n f).ctrl n = f (s.ctrl n) := by
  simp [State.ctrl, State.updCtrl, List.getD, hn]

theorem State.ctrl_updCtrl_other (s : State) {n m : Nat} (h : m ≠ n) (f : Controller → Controller) : (s.updCtrl n f).ctrl m = s.ctrl m := by
  simp [State.ctrl, State.updCtrl, List.getD, h.symm]

/-- A commit record is written into both umpires, or into a TMC's secure element. -/
theorem State.putCommit_frame (s : State) (c : Nat) (x : Option Commit) :
    ∃ us cs, s.putCommit c x = { s with umpires := us, commits := cs } := by
  unfold State.putCommit
  split
  · exact ⟨_, s.commits, rfl⟩
  · exact ⟨s.umpires, _, rfl⟩

theorem State.putCommit_pkgs (s : State) (c : Nat) (x : Option Commit) : (s.putCommit c x).pkgs = s.pkgs := by
  obtain ⟨us, cs, h⟩ := s.putCommit_frame c x
  rw [h]

theorem State.ctrl_putCommit (s : State) (c : Nat) (x : Option Commit) (n : Nat) : (s.putCommit c x).ctrl n = s.ctrl n := by
  obtain ⟨us, cs, h⟩ := s.putCommit_frame c x
  rw [h]
  rfl

theorem State.inTrial_putCommit (s : State) (c : Nat) (x : Option Commit) : (s.putCommit c x).inTrial = s.inTrial := by
  obtain ⟨us, cs, h⟩ := s.putCommit_frame c x
  rw [h]
  rfl

/-- The record that either umpire holds is the one written to both. -/
theorem State.ump_putCommit_zero (s : State) (x : Option Commit) {u : Nat} (hu : u < 2) : ((s.putCommit 0 x).ump u).mir.commit = x := by
  simp [State.putCommit, State.ump, List.getD, hu]

theorem State.primary_getD_lt (s : State) : s.primary.getD 0 < 2 := by
  cases h : s.primary with
  | none => decide
  | some u => exact State.primary_lt h

/-- R925: a commit record reads back at its coordinator. -/
theorem State.commitOf_putCommit_same (s : State) (c : Nat) (x : Option Commit) : (s.putCommit c x).commitOf c = x := by
  unfold State.commitOf
  by_cases hc : c = 0
  · subst hc
    rw [if_pos rfl, State.mir, State.mirrorOf_eq _ (State.primary_getD_lt _)]
    exact s.ump_putCommit_zero x (State.primary_getD_lt _)
  · cases x <;> simp [State.putCommit, hc]

/-! ### Abort (R924) -/

/-- What an abort forgets at each target that is a controller. -/
def State.unstage (s : State) (q : Nat) : State := if q < 128 then s else s.updCtrl (q - 128) (fun x => { x with staged := none })

theorem State.unstage_controllersOnly (s : State) (q : Nat) : s.ControllersOnly (s.unstage q) := .ite (.refl s) (.updCtrl s _ _)

/-- An abort ends the roster, then the controllers forget what they staged, then the event is posted. -/
theorem State.abortRoster_eq (s : State) (c : Nat) (r : Roster) (st : Status) : s.abortRoster c r st =
    (r.targets.foldl State.unstage (s.putRoster c { r with phase := .aborted, status := st })).post "RosterAborted" .warning st := rfl

theorem State.abortRoster_frame (s : State) (c : Nat) (r : Roster) (st : Status) :
    (s.abortRoster c r st).roster c = some { r with phase := .aborted, status := st } ∧ (s.abortRoster c r st).pkgs = s.pkgs ∧
      (s.abortRoster c r st).events = { id := s.nextEvent, name := "RosterAborted", severity := .warning, arg := st } :: s.events := by
  have hframe := State.ControllersOnly.foldl r.targets State.unstage_controllersOnly (s.putRoster c { r with phase := .aborted, status := st })
  rw [State.abortRoster_eq, State.post_pkgs, State.post_events, hframe.pkgs, hframe.events, hframe.nextEvent]
  exact ⟨(hframe.roster c).trans (s.roster_putRoster_same c _), rfl, rfl⟩

/-! ### Commit (R916, R925, R928) -/

/-- A target's turn of COMMIT. -/
def State.commitAt (r : Roster) (ht : Nat) (s : State) (q : Nat) : State :=
  if q < 128 then s
  else s.updCtrl (q - 128) (fun (x : Controller) =>
    if x.state = 2 then x
    else { x with state := 1, roster := fieldAt r.image 8 8, actHt := ht, staged := (rosterSecver r.image s.rackId q).orElse (fun _ => some x.secver) })

theorem State.commitTo_eq (s : State) (r : Roster) (ht : Nat) : s.commitTo r ht = r.targets.foldl (State.commitAt r ht) s := rfl

theorem State.commitTo_controllersOnly (s : State) (r : Roster) (ht : Nat) : s.ControllersOnly (s.commitTo r ht) :=
  State.ControllersOnly.foldl r.targets (fun s _ => .ite (.refl s) (.updCtrl s _ _)) s

/-- A controller that is not in TRIAL holds a commit with this activation time. -/
def Controller.CommittedFor (ht : Nat) (x : Controller) : Prop := x.state ≠ 2 → x.state = 1 ∧ x.actHt = ht

/-- A controller's own turn commits it, unless it is in TRIAL. -/
theorem State.commitAt_own (r : Roster) (ht : Nat) (s : State) {n : Nat} (hn : n < 34) :
    ((s.commitAt r ht (128 + n)).ctrl n).CommittedFor ht := by
  rw [State.commitAt, if_neg (by omega), Nat.add_sub_cancel_left, State.ctrl_updCtrl_same s hn]
  split
  · next htrial => exact fun h => absurd htrial h
  · exact fun _ => ⟨rfl, rfl⟩

/-- Another target's turn leaves a controller alone. -/
theorem State.commitAt_other (r : Roster) (ht : Nat) (s : State) {n q : Nat} (hq : q ≠ 128 + n) : (s.commitAt r ht q).ctrl n = s.ctrl n := by
  unfold State.commitAt
  split
  · rfl
  · exact s.ctrl_updCtrl_other (by omega) _

/-- No turn puts a controller into TRIAL. -/
theorem State.commitAt_ne_trial (r : Roster) (ht : Nat) (s : State) {n : Nat} (hn : n < 34) (q : Nat) (h : (s.ctrl n).state ≠ 2) :
    ((s.commitAt r ht q).ctrl n).state ≠ 2 := by
  by_cases hq : q = 128 + n
  · subst hq
    rw [State.commitAt, if_neg (by omega), Nat.add_sub_cancel_left, State.ctrl_updCtrl_same s hn, if_neg h]
    exact show 1 ≠ 2 by decide
  · rwa [s.commitAt_other r ht hq]

/-- R916, R928: COMMIT stages every controller it names that is not in TRIAL already. -/
theorem State.commitTo_ctrl {s : State} {r : Roster} (ht : Nat) {n : Nat} (hn : n < 34) (hmem : 128 + n ∈ r.targets)
    (hstate : (s.ctrl n).state ≠ 2) : ((s.commitTo r ht).ctrl n).state = 1 ∧ ((s.commitTo r ht).ctrl n).actHt = ht := by
  have hleft : ((s.commitTo r ht).ctrl n).state ≠ 2 :=
    List.foldlRecOn r.targets (State.commitAt r ht) (motive := fun s => (s.ctrl n).state ≠ 2) hstate
      (fun s hs q _ => s.commitAt_ne_trial r ht hn q hs)
  refine foldl_each (f := State.commitAt r ht) (P := fun q (s : State) => q = 128 + n → (s.ctrl n).CommittedFor ht) r.targets s
    (fun s q _ hq => hq ▸ s.commitAt_own r ht hn) (fun s y q _ hy hyn => ?_) (128 + n) hmem rfl hleft
  by_cases hq : q = 128 + n
  · exact hq ▸ s.commitAt_own r ht hn
  · rw [s.commitAt_other r ht hq]
    exact hy hyn

/-- The activation time of a roster that commits now: 30 s ahead, not before its own earliest time (R926). -/
def State.activationTime (s : State) (r : Roster) (t : Nat) : Nat := max (t + 60000000000) (fieldAt r.image 24 8) + s.lead

/-- The commit record of a roster (R925). -/
def Roster.commitRecord (r : Roster) (ht : Nat) : Commit :=
  { id := fieldAt r.image 8 8, digest := (r.image.drop 32).take 48, targets := r.targets, actHt := ht, confirmed := false }

/-- The coordinator's own part of a commit: its record, then the roster's phase. -/
def State.recordCommit (s : State) (c : Nat) (r : Roster) (ht : Nat) : State :=
  (s.draw.putCommit c (some (r.commitRecord ht))).putRoster c { r with phase := .committed }

theorem State.ctrl_recordCommit (s : State) (c : Nat) (r : Roster) (ht n : Nat) : (s.recordCommit c r ht).ctrl n = s.ctrl n :=
  s.draw.ctrl_putCommit c _ n

theorem State.commitRoster_eq (s : State) (c : Nat) (r : Roster) (t : Nat) :
    s.commitRoster c r t = (s.recordCommit c r (s.activationTime r t)).commitTo r (s.activationTime r t) := rfl

/-- R925, R928: the roster is committed, its record is written, and its controllers are staged. -/
theorem State.commitRoster_frame (s : State) (c : Nat) (r : Roster) (t : Nat) :
    (s.commitRoster c r t).pkgs = s.pkgs ∧ (s.commitRoster c r t).roster c = some { r with phase := .committed } ∧
      (s.commitRoster c r t).commitOf c = some (r.commitRecord (s.activationTime r t)) ∧
      ∀ n, n < 34 → 128 + n ∈ r.targets → (s.ctrl n).state ≠ 2 →
        ((s.commitRoster c r t).ctrl n).state = 1 ∧ ((s.commitRoster c r t).ctrl n).actHt = s.activationTime r t := by
  rw [State.commitRoster_eq]
  have hframe := (s.recordCommit c r (s.activationTime r t)).commitTo_controllersOnly r (s.activationTime r t)
  refine ⟨hframe.pkgs.trans (s.draw.putCommit_pkgs c _), (hframe.roster c).trans (State.roster_putRoster_same _ c _),
    (hframe.commitOf c).trans (s.draw.commitOf_putCommit_same c _), fun n hn hmem hstate => State.commitTo_ctrl _ hn hmem ?_⟩
  rwa [State.ctrl_recordCommit]

/-! ### The commands -/

variable {s : State} {tray : TrayId} {t₀ : Nat}

/-- R894: with a primary, or standalone, an action is performed. -/
theorem State.asAction_of_primary (h : s.paired = false ∨ s.primary.isSome = true) (f : State → State) : s.asAction f = f (s.answer 0) := by
  refine if_neg (fun ⟨hpaired, hnone⟩ => ?_)
  rcases h with h | h
  · exact Bool.false_ne_true (h ▸ hpaired)
  · rw [Option.isNone_iff_eq_none.mp hnone] at h
    exact Bool.false_ne_true h

/-- The roster that a submission puts into staging. -/
def State.accepted (s : State) (tray : TrayId) (image : Bytes) (t : Nat) : Roster :=
  { image := image, accepted := t, targets := s.rosterTargets tray image, votes := [], phase := .staging, status := 0 }

/-- R917, R920: a submission is refused while a roster is open, then with its first failing check. -/
theorem exec_rosterSubmit (h : s.paired = false ∨ s.primary.isSome = true) (image : Bytes) : exec (.rosterSubmit tray image t₀) s =
    .next (if (s.roster (s.coord tray)).any Roster.open_ then s.answer 0x4806
      else if s.rosterCheck tray image ≠ 0 then s.answer (s.rosterCheck tray image)
      else (s.answer 0).putRoster (s.coord tray) (s.accepted tray image t₀)) :=
  congrArg Host.Outcome.next (State.asAction_of_primary h _)

theorem rosterSubmit_completes_of_open (h : s.paired = false ∨ s.primary.isSome = true) (image : Bytes)
    (hopen : (s.roster (s.coord tray)).any Roster.open_ = true) :
    Completes (.rosterSubmit tray image t₀) s (fun t => t.action = 0x4806 ∧ t.rosters = s.rosters) :=
  ⟨_, exec_rosterSubmit h image, by rw [if_pos hopen]; exact ⟨rfl, rfl⟩⟩

/-- R920: a failing check is the answer, and nothing changes. -/
theorem rosterSubmit_completes_of_check (h : s.paired = false ∨ s.primary.isSome = true) {image : Bytes}
    (hopen : (s.roster (s.coord tray)).any Roster.open_ = false) {st : Status} (hcheck : s.rosterCheck tray image = st) (hst : st ≠ 0) :
    Completes (.rosterSubmit tray image t₀) s (fun t => t.action = st ∧ t.rosters = s.rosters) :=
  ⟨_, exec_rosterSubmit h image, by rw [hopen, if_neg Bool.false_ne_true, hcheck, if_pos hst]; exact ⟨rfl, rfl⟩⟩

/-- R920: the format is checked first. -/
theorem State.rosterCheck_of_format (s : State) (tray : Nat) {image : Bytes} (h : rosterFormat image = false) :
    s.rosterCheck tray image = 0x3803 :=
  if_pos (by rw [h]; rfl)

/-- R920: the digest of the entries is checked second. -/
theorem State.rosterCheck_of_digest (s : State) (tray : Nat) {image : Bytes} (hformat : rosterFormat image = true)
    (h : sha384 ((image.take (128 + 128 * rosterCount image)).drop 128) ≠ (image.drop 32).take 48) :
    s.rosterCheck tray image = 0x5802 :=
  (if_neg (by rw [hformat]; exact Bool.false_ne_true)).trans (if_pos h)

/-- R920: the outcome of a submission is that of the checks. -/
theorem rosterSubmit_completes (h : s.paired = false ∨ s.primary.isSome = true) (image : Bytes)
    (hopen : (s.roster (s.coord tray)).any Roster.open_ = false) :
    Completes (.rosterSubmit tray image t₀) s (fun t => t.pkgs = s.pkgs ∧
      if s.rosterCheck tray image = 0 then t.action = 0 ∧ t.roster (s.coord tray) = some (s.accepted tray image t₀)
      else t.action = s.rosterCheck tray image ∧ t.rosters = s.rosters) := by
  refine ⟨_, exec_rosterSubmit h image, ?_⟩
  beta_reduce
  rw [hopen, if_neg Bool.false_ne_true]
  by_cases hcheck : s.rosterCheck tray image = 0
  · rw [if_neg (not_not_intro hcheck), if_pos hcheck]
    exact ⟨rfl, rfl, State.roster_putRoster_same _ _ _⟩
  · rw [if_pos hcheck, if_neg hcheck]
    exact ⟨rfl, rfl, rfl⟩

/-- A roster with one target's vote. -/
def Roster.voted (r : Roster) (target : Nat) (st : Status) : Roster := { r with votes := (target, st) :: r.votes }

/-- Every target has voted. -/
def Roster.allVoted (r : Roster) : Bool := r.targets.all (fun q => r.votes.any (fun v => v.1 == q))

theorem Roster.allVoted_iff {r : Roster} : r.allVoted = true ↔ ∀ q ∈ r.targets, ∃ v ∈ r.votes, v.1 = q := by
  simp only [Roster.allVoted, List.all_eq_true, List.any_eq_true, beq_iff_eq]

theorem Roster.allVoted_voted {r : Roster} {target : Nat} {st : Status} :
    (r.voted target st).allVoted = true ↔ ∀ q ∈ r.targets, q = target ∨ ∃ v ∈ r.votes, v.1 = q := by
  rw [Roster.allVoted_iff]
  simp only [Roster.voted, List.mem_cons, exists_eq_or_imp, eq_comm]

/-- A vote missing. -/
theorem Roster.allVoted_eq_false {r : Roster} (h : ∃ q ∈ r.targets, ∀ v ∈ r.votes, v.1 ≠ q) : r.allVoted = false := by
  obtain ⟨q, hq, hnone⟩ := h
  refine Bool.eq_false_iff.mpr (fun hall => ?_)
  obtain ⟨v, hv, hvq⟩ := Roster.allVoted_iff.mp hall q hq
  exact hnone v hv hvq

section Votes

variable {target d : Nat} {r : Roster}

/-- R923–R925: a target's first vote on a roster in staging aborts it, commits it, or is kept. -/
theorem exec_voteReceive (hroster : s.rosterOf target = some (d, r)) (hphase : r.phase = .staging) (hfirst : ∀ v ∈ r.votes, v.1 ≠ target)
    (yes : Bool) (st : Nat) : exec (.voteReceive target yes st t₀) s =
      if !yes then .next (s.abortRoster d (r.voted target st) st)
      else .next (if (r.voted target 0).allVoted then s.commitRoster d (r.voted target 0) t₀ else s.putRoster d (r.voted target 0)) := by
  have hfresh : ¬ (r.phase ≠ .staging ∨ r.votes.any (fun v => v.1 == target) = true) := by
    rintro (h | h)
    · exact h hphase
    · obtain ⟨v, hv, hvt⟩ := List.any_eq_true.mp h
      exact hfirst v hv (beq_iff_eq.mp hvt)
  show execVoteReceive target yes st t₀ s = _
  unfold execVoteReceive
  rw [hroster]
  exact if_neg hfresh

/-- R924: a NO aborts the roster with its status. -/
theorem voteReceive_completes_of_no (hroster : s.rosterOf target = some (d, r)) (hphase : r.phase = .staging)
    (hfirst : ∀ v ∈ r.votes, v.1 ≠ target) (st : Nat) :
    Completes (.voteReceive target false st t₀) s (fun t => t.pkgs = s.pkgs ∧
      (∃ x, t.roster d = some x ∧ x.phase = .aborted ∧ x.status = st ∧ x.targets = r.targets) ∧
      t.events = { id := s.nextEvent, name := "RosterAborted", severity := .warning, arg := st } :: s.events) := by
  obtain ⟨hr, hpkgs, hevents⟩ := s.abortRoster_frame d (r.voted target st) st
  exact ⟨_, exec_voteReceive hroster hphase hfirst false st, hpkgs, ⟨_, hr, rfl, rfl, rfl⟩, hevents⟩

/-- R925: with the last YES the roster is committed. -/
theorem voteReceive_completes_of_last (hroster : s.rosterOf target = some (d, r)) (hphase : r.phase = .staging)
    (hfirst : ∀ v ∈ r.votes, v.1 ≠ target) (st : Nat) (hall : ∀ q ∈ r.targets, q = target ∨ ∃ v ∈ r.votes, v.1 = q) :
    Completes (.voteReceive target true st t₀) s (fun t => t.pkgs = s.pkgs ∧
      (∃ x, t.roster d = some x ∧ x.phase = .committed ∧ x.targets = r.targets) ∧
      (∃ x, t.commitOf d = some x ∧ x.id = fieldAt r.image 8 8 ∧ x.targets = r.targets ∧ x.confirmed = false ∧
        t₀ + 60000000000 ≤ x.actHt ∧ fieldAt r.image 24 8 ≤ x.actHt ∧
        ∀ n, n < 34 → 128 + n ∈ r.targets → (s.ctrl n).state ≠ 2 → (t.ctrl n).state = 1 ∧ (t.ctrl n).actHt = x.actHt)) := by
  obtain ⟨hpkgs, hr, hcommit, hctrl⟩ := s.commitRoster_frame d (r.voted target 0) t₀
  refine ⟨_, (exec_voteReceive hroster hphase hfirst true st).trans (congrArg Host.Outcome.next (if_pos (Roster.allVoted_voted.mpr hall))), hpkgs,
    ⟨_, hr, rfl, rfl⟩, _, hcommit, rfl, rfl, rfl, ?_, ?_, hctrl⟩
  · exact (Nat.le_max_left _ _).trans (Nat.le_add_right _ _)
  · exact (Nat.le_max_right _ _).trans (Nat.le_add_right _ _)

/-- R923: a YES with others missing is kept. -/
theorem voteReceive_completes_of_missing (hroster : s.rosterOf target = some (d, r)) (hphase : r.phase = .staging)
    (hfirst : ∀ v ∈ r.votes, v.1 ≠ target) (st : Nat) (hmissing : ∃ q ∈ r.targets, q ≠ target ∧ ∀ v ∈ r.votes, v.1 ≠ q) :
    Completes (.voteReceive target true st t₀) s (fun t =>
      t.roster d = some { r with votes := (target, 0) :: r.votes } ∧ t.pkgs = s.pkgs ∧ t.controllers = s.controllers) := by
  have hnot : ¬ (r.voted target 0).allVoted = true := by
    intro hall
    obtain ⟨q, hq, hne, hnone⟩ := hmissing
    obtain heq | ⟨v, hv, hvq⟩ := Roster.allVoted_voted.mp hall q hq
    · exact hne heq
    · exact hnone v hv hvq
  exact ⟨_, (exec_voteReceive hroster hphase hfirst true st).trans (congrArg Host.Outcome.next (if_neg hnot)), s.roster_putRoster_same d _, rfl, rfl⟩

/-- R924: a vote still missing 60 s after the 15 min of staging aborts the roster. -/
theorem stagingTimeout_completes (hrosters : s.rosters = [(d, r)]) (hphase : r.phase = .staging) (hlate : r.accepted + 1920000000000 ≤ t₀)
    (hmissing : ∃ q ∈ r.targets, ∀ v ∈ r.votes, v.1 ≠ q) :
    Completes (.stagingTimeout t₀) s (fun t => t.roster d = some { r with phase := .aborted, status := 0x6807 } ∧ t.pkgs = s.pkgs) := by
  have hexec : exec (.stagingTimeout t₀) s = .next (s.abortRoster d r 0x6807) := by
    show execStagingTimeout t₀ s = _
    unfold execStagingTimeout
    rw [hrosters]
    refine congrArg Host.Outcome.next (if_pos ⟨hphase, ?_⟩)
    have hnot : (r.targets.all fun q => r.votes.any fun v => v.1 == q) = false := Roster.allVoted_eq_false hmissing
    rw [hnot, decide_eq_true hlate, Bool.not_false, Bool.and_true, Bool.or_true]
  obtain ⟨hr, hpkgs, _⟩ := s.abortRoster_frame d r 0x6807
  exact ⟨_, hexec, hr, hpkgs⟩

end Votes

/-! ### A coordinator that restarts -/

/-- R934: a roster in staging has no commit record, and is aborted. -/
theorem coordinatorRestart_completes_of_staging {r : Roster} (hroster : s.roster (s.coord tray) = some r)
    (hcommit : s.commitOf (s.coord tray) = none) (hphase : r.phase = .staging) :
    Completes (.coordinatorRestart tray t₀) s (fun t =>
      t.roster (s.coord tray) = some { r with phase := .aborted, status := 0x1808 } ∧ t.pkgs = s.pkgs) := by
  have hexec : exec (.coordinatorRestart tray t₀) s = .next (s.abortRoster (s.coord tray) r 0x1808) := by
    show execCoordinatorRestart tray t₀ s = _
    simp only [execCoordinatorRestart, hroster, hcommit]
    exact congrArg Host.Outcome.next (if_pos hphase)
  obtain ⟨hr, hpkgs, _⟩ := s.abortRoster_frame (s.coord tray) r 0x1808
  exact ⟨_, hexec, hr, hpkgs⟩

/-- The targets of a roster that have not reached TRIAL. -/
def State.untried (s : State) (r : Roster) : Roster := { r with targets := r.targets.filter (fun q => !s.inTrial q) }

theorem State.mem_untried {r : Roster} {n : Nat} (hmem : 128 + n ∈ r.targets) (hstate : (s.ctrl n).state ≠ 2) :
    128 + n ∈ (s.untried r).targets := by
  have htrial : s.inTrial (128 + n) = false := by
    rw [State.inTrial, if_neg (by omega), Nat.add_sub_cancel_left]
    exact beq_false_of_ne hstate
  exact List.mem_filter.mpr ⟨hmem, by rw [htrial]; rfl⟩

/-- R933: a committed roster that has not activated everywhere is committed again, in time. -/
theorem exec_coordinatorRestart_of_committed {r : Roster} {x : Commit} (hroster : s.roster (s.coord tray) = some r)
    (hcommit : s.commitOf (s.coord tray) = some x) (hopen : x.confirmed = false) (hphase : r.phase = .committed)
    (huntried : ∃ q ∈ r.targets, s.inTrial q = false) {ht : Nat} (hht : (if t₀ ≤ x.actHt then x.actHt else t₀ + 120000000000) = ht) :
    exec (.coordinatorRestart tray t₀) s =
      .next ((s.putCommit (s.coord tray) (some { x with actHt := ht })).commitTo (s.untried r) ht) := by
  have hnot : ¬ (x.confirmed = true ∨ r.phase ≠ .committed ∨ r.targets.all s.inTrial = true) := by
    rintro (h | h | h)
    · exact Bool.false_ne_true (hopen.symm.trans h)
    · exact h hphase
    · obtain ⟨q, hq, hfalse⟩ := huntried
      exact Bool.false_ne_true (hfalse.symm.trans (List.all_eq_true.mp h q hq))
  show execCoordinatorRestart tray t₀ s = _
  simp only [execCoordinatorRestart, hroster, hcommit]
  rw [if_neg hnot, hht, State.inTrial_putCommit]
  rfl

theorem coordinatorRestart_completes_of_committed {r : Roster} {x : Commit} (hroster : s.roster (s.coord tray) = some r)
    (hcommit : s.commitOf (s.coord tray) = some x) (hopen : x.confirmed = false) (hphase : r.phase = .committed)
    (huntried : ∃ q ∈ r.targets, s.inTrial q = false) :
    let ht := if t₀ ≤ x.actHt then x.actHt else t₀ + 120000000000
    Completes (.coordinatorRestart tray t₀) s (fun t => t.commitOf (s.coord tray) = some { x with actHt := ht } ∧
      ∀ n, n < 34 → 128 + n ∈ r.targets → (s.ctrl n).state ≠ 2 → (t.ctrl n).state = 1 ∧ (t.ctrl n).actHt = ht) := by
  intro ht
  refine ⟨_, exec_coordinatorRestart_of_committed hroster hcommit hopen hphase huntried rfl, ?_, fun n hn hmem hstate => ?_⟩
  · exact ((State.commitTo_controllersOnly _ _ _).commitOf _).trans (s.commitOf_putCommit_same _ _)
  · refine State.commitTo_ctrl _ hn (s.mem_untried hmem hstate) ?_
    rwa [State.ctrl_putCommit]

/-! ### Staging as a whole -/

/-- Settles O53, clause by clause: submission, staging at a package, votes, abort, and the coordinator's restart. The order of the checks
and the vote without a roster are those of log entry 67, the aligned offset and the status of a restart's abort those of log entry 68. -/
theorem rostersAreStaged : Obligations.RostersAreStaged := by
  unfold Obligations.RostersAreStaged
  intro s p tray t₀ k c byte slot inSlot
  refine ⟨fun h image => ⟨rosterSubmit_completes_of_open h image, fun hopen => ⟨?_, ?_, rosterSubmit_completes h image hopen⟩⟩,
    fun off => ⟨stageWrite_completes off, readBack_completes off⟩,
    eraseSlot_completes,
    bootVerify_completes_of_no_roster,
    fun d r hroster hphase hcount => bootVerify_completes hroster hphase hcount,
    fun target st d r hroster hphase hfirst => ⟨voteReceive_completes_of_no hroster hphase hfirst st,
      voteReceive_completes_of_last hroster hphase hfirst st, voteReceive_completes_of_missing hroster hphase hfirst st⟩,
    fun d r hrosters hphase hlate hmissing => stagingTimeout_completes hrosters hphase hlate hmissing,
    bootAbort_completes,
    bootAbort_completes_of_committed,
    fun r hroster hcommit hphase => coordinatorRestart_completes_of_staging hroster hcommit hphase,
    fun r x hroster hcommit hopen hphase huntried => coordinatorRestart_completes_of_committed hroster hcommit hopen hphase huntried⟩
  · exact fun hformat => rosterSubmit_completes_of_check h hopen (s.rosterCheck_of_format tray hformat) (by decide)
  · exact fun hformat hdigest => rosterSubmit_completes_of_check h hopen (s.rosterCheck_of_digest tray hformat hdigest) (by decide)

end Sys2Proof.Machine
end

section
/-! PROOFS. What every command leaves of the queue and of the events (R895, log entry 19): no command stops the block, none puts another
into the queue, and an event is only ever posted by `State.post`. -/

namespace Sys2Proof.Machine

/-! ### The relation -/

/-- `t` comes after `s`: the same commands wait, and the events stay in order. -/
structure State.Extends (s t : State) : Prop where
  pending : t.pending = s.pending
  inOrder : s.eventsInOrder → t.eventsInOrder

/-- An outcome is a next state of which `P` holds. -/
def Answers (o : Host.Outcome State Fault Refusal) (P : State → Prop) : Prop := ∃ t, o = .next t ∧ P t

theorem Answers.next {t : State} {P : State → Prop} (h : P t) : Answers (.next t) P := ⟨t, rfl, h⟩

theorem Answers.ite {c : Prop} [Decidable c] {o o' : Host.Outcome State Fault Refusal} {P : State → Prop} (h : Answers o P) (g : Answers o' P) :
    Answers (if c then o else o') P := by
  split <;> assumption

namespace State.Extends

variable {s t u : State}

theorem refl (s : State) : s.Extends s := ⟨rfl, id⟩

theorem trans (h : s.Extends t) (g : t.Extends u) : s.Extends u := ⟨g.pending.trans h.pending, g.inOrder ∘ h.inOrder⟩

/-- A change that touches neither the queue nor the events. -/
theorem ofSame (hpending : t.pending = s.pending) (hevents : t.events = s.events) (hnext : t.nextEvent = s.nextEvent) : s.Extends t :=
  ⟨hpending, fun h i e => by rw [hevents, hnext]; exact h i e⟩

/-- R895: a posted event takes the next number. -/
theorem post (s : State) (n : String) (v : Severity) (a : Nat) : s.Extends (s.post n v a) := by
  refine ⟨rfl, fun h i e he => ?_⟩
  rw [State.post_events] at he
  rw [State.post_nextEvent]
  cases i with
  | zero => obtain rfl := Option.some.inj he; rfl
  | succ i =>
    have := h i e he
    omega

theorem ite {c : Prop} [Decidable c] (h : s.Extends t) (g : s.Extends u) : s.Extends (if c then t else u) := by
  split <;> assumption

theorem foldl {α : Type} (l : List α) {f : State → α → State} (h : ∀ (s : State) x, s.Extends (f s x)) (s : State) : s.Extends (l.foldl f s) := by
  induction l generalizing s with
  | nil => exact refl s
  | cons x r ih => exact (h s x).trans (ih _)

theorem thenPost (h : s.Extends t) (n : String) (v : Severity) (a : Nat) : s.Extends (t.post n v a) := h.trans (post t n v a)

theorem updPkg (s : State) (p : PkgId) (f : Pkg → Pkg) : s.Extends (s.updPkg p f) := ofSame rfl rfl rfl
theorem mapPkgs (s : State) (f : Pkg → Pkg) : s.Extends (s.mapPkgs f) := ofSame rfl rfl rfl
theorem updTray (s : State) (n : Nat) (f : Tray → Tray) : s.Extends (s.updTray n f) := ofSame rfl rfl rfl
theorem updUmp (s : State) (u : Nat) (f : Umpire → Umpire) : s.Extends (s.updUmp u f) := ofSame rfl rfl rfl
theorem updCtrl (s : State) (n : Nat) (f : Controller → Controller) : s.Extends (s.updCtrl n f) := ofSame rfl rfl rfl
theorem putRoster (s : State) (c : Nat) (r : Roster) : s.Extends (s.putRoster c r) := ofSame rfl rfl rfl
theorem answer (s : State) (st : Status) : s.Extends (s.answer st) := ofSame rfl rfl rfl
theorem answerOpen (s : State) : s.Extends s.answerOpen := ofSame rfl rfl rfl
theorem busSend (s : State) (type node flags ht : Nat) (body : List Nat) : s.Extends (s.busSend type node flags ht body) := ofSame rfl rfl rfl
theorem dropFrame (s : State) : s.Extends s.dropFrame := ofSame rfl rfl rfl
theorem showLamp (s : State) (n : Nat) : s.Extends (s.showLamp n) := ofSame rfl rfl rfl

theorem ofPkgs (h : s.PkgsOnly t) : s.Extends t := by
  obtain ⟨ps, rfl⟩ := h
  exact ofSame rfl rfl rfl

theorem ofControllers (h : s.ControllersOnly t) : s.Extends t := by
  obtain ⟨cs, rfl⟩ := h
  exact ofSame rfl rfl rfl

theorem updNat (s : State) (n : Nat) (f : Pkg → Pkg) : s.Extends (s.updNat n f) := ofPkgs (.updNat s n f)

/-- A change of the packages of a list, by number. -/
theorem updNats (l : List Nat) (f : Nat → Pkg → Pkg) (s : State) : s.Extends (l.foldl (fun (s : State) q => s.updNat q (f q)) s) :=
  foldl l (fun s q => updNat s q (f q)) s

theorem updTrayPkgs (s : State) (n : Nat) (f : Pkg → Pkg) : s.Extends (s.updTrayPkgs n f) := ofPkgs (s.updTrayPkgs_pkgsOnly n f)

theorem postNotices (s : State) (p : PkgId) : s.Extends (s.postNotices p) :=
  (ite (refl s) (updPkg s p _)).trans (foldl _ (fun s (n : String × Severity × Nat) => post s n.1 n.2.1 n.2.2) _)

theorem updPost (s : State) (p : PkgId) (f : Pkg → Pkg) : s.Extends (s.updPost p f) := (updPkg s p f).trans (postNotices _ p)

theorem updMir (s : State) (f : Mirror → Mirror) : s.Extends (s.updMir f) := by
  unfold State.updMir
  split
  · exact updUmp s _ _
  · exact refl s

end State.Extends

open State (Extends)

variable (s : State)

/-! ### Changes of the rack that commands share -/

theorem State.noteVacancy_extends (p : PkgId) (g : Nat) : s.Extends (s.noteVacancy p g) := by
  unfold State.noteVacancy
  dsimp only
  split
  · exact .refl s
  · have hpost : ∀ slot, s.Extends (if (s.pkg p).getF (F.HIF_CAP_RACK slot) = (s.pkg p).rack then
        s.updNat ((s.pkg p).getF (F.HIF_CAP_PKG slot)) (fun c => c.postEvent slot 2 ((s.pkg p).rack * 65536 + ((s.pkg p).id * (s.pkg p).logicalCores + g)))
        else s) := fun slot => .ite (.updNat s _ _) (.refl s)
    split
    · exact .ite ((hpost _).thenPost _ _ _) (hpost _)
    · exact hpost _

theorem State.updMap_extends (p : PkgId) (f : Pkg → Pkg) : s.Extends (s.updMap p f) :=
  ((Extends.updPkg s p f).trans (.foldl _ (fun s g => s.noteVacancy_extends p g) _)).trans (.postNotices _ p)

theorem State.tmcLog_extends (p rail t : Nat) (st : Status) : s.Extends (s.tmcLog p rail t st) := .updTray s _ _

theorem State.hubDead_extends (p t : Nat) : s.Extends (s.hubDead p t) :=
  ((Extends.updNats _ _ s).trans (.updTray _ _ _)).thenPost _ _ _

theorem State.brownOut_extends (p : PkgId) (rail t : Nat) : s.Extends (s.brownOut p rail t) :=
  .ite (.updPkg s p _) (((Extends.updPkg s p _).trans (State.tmcLog_extends _ _ _ _ _)).thenPost _ _ _)

theorem State.setLimit_extends (n why : Nat) (on : Bool) : s.Extends (s.setLimit n why on) :=
  (Extends.updTray s n _).trans (.updNats _ _ _)

theorem State.finishSafe_extends (n : Nat) : s.Extends (s.finishSafe n) :=
  .ite ((Extends.updNats _ _ s).trans (.updTray _ _ _)) (.refl s)

theorem State.readEnergy_extends (p : PkgId) : s.Extends (s.readEnergy p) :=
  by
  unfold State.readEnergy
  extract_lets k new old gain u
  have hshares : s.Extends u := by
    refine .foldl _ (fun s i => ?_) s
    exact .ite (.ofSame rfl rfl rfl) (.refl s)
  exact hshares.trans (.ofSame rfl rfl rfl)

theorem State.clearReady_extends (p : PkgId) : s.Extends (s.clearReady p) :=
  .foldl _ (fun s _ => .ite (.mapPkgs s _) (.refl s)) s

theorem State.trayDown_extends (n t : Nat) : s.Extends (s.trayDown n t) := .updNats _ _ s

theorem State.acknowledge_extends (n t : Nat) : s.Extends (s.acknowledge n t) := by
  have hseen : s.Extends (s.updTray n (fun y => { y with lastAck := t, solo := false })) := .updTray s n _
  exact .ite ((((hseen.trans (.updTrayPkgs _ _ _)).trans (State.setLimit_extends _ _ _ _)).trans (.showLamp _ _)).thenPost _ _ _)
    (hseen.trans (.showLamp _ _))

theorem State.takePrimary_extends : s.Extends s.takePrimary :=
  .foldl _ (fun s n => .ite ((Extends.updTray s n _).trans (.updTrayPkgs _ _ _)) (.refl s)) s

theorem State.releaseLine_extends (u t : Nat) : s.Extends (s.releaseLine u t) :=
  .ite (.ofSame rfl rfl rfl) (.updUmp s _ _)

theorem State.resendExts_extends (t : Nat) : s.Extends (s.resendExts t) :=
  .foldl _ (fun s _ => .updNats _ _ s) s

theorem State.atTmc_extends (ver node tray : Nat) {f : State → State} (h : s.Extends (f s)) : s.Extends (s.atTmc ver node tray f) :=
  .ite (.dropFrame s) (.ite h (.refl s))

theorem State.powerOn_extends (p t : Nat) : s.Extends (s.powerOn p t) := .ite (.refl s) (.updNat s _ _)

theorem State.updateExclusions_extends : s.Extends s.updateExclusions :=
  .foldl _ (fun s p => .foldl _ (fun s _ => .ite (.updPkg s p _) (.refl s)) s) s

theorem State.postUnit_extends (p old new : Nat) : s.Extends (s.postUnit p old new) :=
  .ite (.refl s) (.ite (.post s _ _ _) (.ite (.post s _ _ _) (.post s _ _ _)))

theorem State.pollUnit_extends (answers t : Nat) (p : PkgId) : s.Extends (s.pollUnit answers t p) := by
  have hunit : ∀ x old new, s.Extends ((s.setUnit p x).postUnit p old new) := fun x _ _ =>
    (Extends.updMir s _).trans (State.postUnit_extends _ _ _ _)
  have hshow : ∀ x old new (c : Prop) [Decidable c] f, s.Extends (if c then ((s.setUnit p x).postUnit p old new).updPkg p f else (s.setUnit p x).postUnit p old new) :=
    fun x old new _ _ _ => .ite ((hunit x old new).trans (.updPkg _ p _)) (hunit x old new)
  exact .ite ((hshow _ _ _ _ _).trans (State.clearReady_extends _ p)) (hshow _ _ _ _ _)

theorem State.Extends.thenPostIf {s t : State} (h : s.Extends t) (c : Prop) [Decidable c] (n : String) (v : Severity) (a : Nat) :
    s.Extends (if c then t.post n v a else t) := .ite (h.thenPost n v a) h

theorem State.pollSeen_extends (p : PkgId) : s.Extends (s.pollSeen p) := by
  unfold State.pollSeen
  extract_lets k o n s₀ s₁ s₂ s₃
  have hseen : s.Extends s₀ := .ofSame rfl rfl rfl
  have hphases : s.Extends s₃ := ((hseen.thenPostIf _ _ _ _).thenPostIf _ _ _ _).thenPostIf _ _ _ _
  exact hphases.trans (.foldl _ (fun s _ => .ite (.refl s) (.ite (.post s _ _ _) (.ite (.post s _ _ _) (.refl s)))) _)

theorem State.reportPart_extends (id : Nat) (was now : Bool) : s.Extends (s.reportPart id was now) :=
  (Extends.mapPkgs s _).thenPostIf _ _ _ _

theorem State.judge_extends (t : Nat) : s.Extends (s.judge t) := by
  unfold State.judge
  split
  · refine (Extends.thenPostIf (Extends.thenPostIf (Extends.trans ?_ (.mapPkgs _ _)) _ _ _ _) _ _ _ _).trans (.ofSame rfl rfl rfl)
    exact .foldl _ (fun s _ => s.reportPart_extends _ _ _) s
  · exact .refl s

theorem State.asAction_extends {f : State → State} (h : ∀ s : State, s.Extends (f s)) : s.Extends (s.asAction f) :=
  .ite (.answer s _) ((Extends.answer s _).trans (h _))

theorem State.resetAt_extends (q scope target ht t : Nat) : s.Extends (s.resetAt q scope target ht t) := .updNat s _ _

theorem State.sendMaint_extends (t : Nat) : s.Extends (s.sendMaint t) := by
  unfold State.sendMaint
  split
  · exact .busSend s _ _ _ _ _
  · exact .refl s

theorem State.closeWindow_extends (t : Nat) : s.Extends (s.closeWindow t) :=
  .ite (.refl s) ((((Extends.updMir s _).trans (.mapPkgs _ _)).trans (State.sendMaint_extends _ _)).thenPost _ _ _)

theorem State.closeTrayWindow_extends (n : Nat) : s.Extends (s.closeTrayWindow n) :=
  .ite (.refl s) (((Extends.updTray s n _).trans (.updTrayPkgs _ _ _)).thenPost _ _ _)

theorem State.putCommit_extends (c : Nat) (x : Option Commit) : s.Extends (s.putCommit c x) := by
  obtain ⟨us, cs, h⟩ := s.putCommit_frame c x
  rw [h]
  exact .ofSame rfl rfl rfl

theorem State.abortRoster_extends (c : Nat) (r : Roster) (st : Status) : s.Extends (s.abortRoster c r st) :=
  ((Extends.putRoster s c _).trans (.foldl _ (fun s _ => .ite (.refl s) (.updCtrl s _ _)) _)).thenPost _ _ _

theorem State.commitRoster_extends (c : Nat) (r : Roster) (t : Nat) : s.Extends (s.commitRoster c r t) :=
  (((Extends.ofSame rfl rfl rfl : s.Extends s.draw).trans (State.putCommit_extends _ _ _)).trans (.putRoster _ _ _)).trans
    (.ofControllers (State.commitTo_controllersOnly _ _ _))

theorem State.ctrlRestart_extends (node t : Nat) : s.Extends (s.ctrlRestart node t) :=
  .ite (.updTray s _ _) (.ite (.updUmp s _ _) (.refl s))

theorem State.noteTrial_extends (target : Nat) : s.Extends (s.noteTrial target) := by
  unfold State.noteTrial
  split
  · exact .ite (.putRoster s _ _) (.refl s)
  · exact .refl s

theorem State.ctrlRevert_extends (node t : Nat) : s.Extends (s.ctrlRevert node t) :=
  (Extends.updCtrl s _ _).trans (State.ctrlRestart_extends _ _ _)

/-- A controller goes into trial and restarts, and its roster is noted. -/
theorem State.enterTrial_extends (node t target : Nat) : s.Extends (((s.ctrlTrial node t).ctrlRestart node t).noteTrial target) :=
  ((Extends.updCtrl s _ _).trans (State.ctrlRestart_extends _ _ _)).trans (State.noteTrial_extends _ _)

theorem State.revertRoster_extends (c : Nat) (r : Roster) (st : Status) (t : Nat) : s.Extends (s.revertRoster c r st t) :=
  ((((Extends.ofSame rfl rfl rfl : s.Extends s.draw).trans (.putRoster _ _ _)).trans (State.putCommit_extends _ _ _)).thenPost _ _ _).trans
    (.foldl _ (fun s _ => .ite (.updNat s _ _) (.updCtrl s _ _)) _)

theorem State.ctrlDead_extends (node t : Nat) : s.Extends (s.ctrlDead node t) := by
  have hdead : s.Extends ((s.updCtrl node (fun (x : Controller) => { x with dead := true, restart := none })).post "UnitDead" .critical (128 + node)) :=
    (Extends.updCtrl s _ _).thenPost _ _ _
  refine .ite ?_ (.ite ?_ (.ite (hdead.trans (.ofSame rfl rfl rfl)) (hdead.thenPost _ _ _)))
  · exact ((hdead.trans (.updNats _ _ _)).trans (.updTray _ _ _)).trans (State.finishSafe_extends _ _)
  · exact ((hdead.trans (.updUmp _ _ _)).trans (State.releaseLine_extends _ _ _)).trans (State.takePrimary_extends _)


/-! ### The commands of the rack, one by one -/

section Commands

variable {s} (p : PkgId) (node : Fin 34) (tray : TrayId) (mask : Fin 16) (umpire : Fin 2) (t : Nat)

theorem execPpsEdge_extends : Answers (execPpsEdge p t s) s.Extends := .next (.ofSame rfl rfl rfl)

theorem execCardPoll_extends (tai : Nat) : Answers (execCardPoll tai s) s.Extends := by
  have hcard : s.Extends { s with card := { s.card with nextTai := tai } } := .ofSame rfl rfl rfl
  exact .next ((hcard.trans (.mapPkgs _ _)).thenPostIf _ _ _ _)

theorem execReferenceLost_extends (lastSync : Nat) : Answers (execReferenceLost lastSync t s) s.Extends :=
  .ite (.next (.ofSame rfl rfl rfl)) (.next (.refl s))

theorem execPpsLoss_extends : Answers (execPpsLoss t s) s.Extends := .ite (.next (.mapPkgs s _)) (.next (.refl s))

theorem execReferenceQualified_extends (since : Nat) : Answers (execReferenceQualified since t s) s.Extends :=
  .ite (.next (.ofSame rfl rfl rfl)) (.next (.refl s))

theorem execHoldoverLimit_extends : Answers (execHoldoverLimit t s) s.Extends := by
  unfold execHoldoverLimit
  have hposted : s.Extends { s with card := { s.card with limitPosted := true } } := .ofSame rfl rfl rfl
  split
  · exact .ite (.next (hposted.thenPost _ _ _)) (.next (.refl s))
  · exact .next (.refl s)

theorem execHighWaterRecord_extends : Answers (execHighWaterRecord t s) s.Extends := .next (.ofSame rfl rfl rfl)

theorem execIsolatedRackSeed_extends (reference clock : Nat) : Answers (execIsolatedRackSeed reference clock t s) s.Extends :=
  .next (.ite (.updPkg s 0 _) (.refl s))

theorem execBootSetVerified_extends : Answers (execBootSetVerified p t s) s.Extends :=
  .next (.ite ((Extends.updPkg s p _).trans (State.hubDead_extends _ _ _)) (.updPkg s p _))

theorem execTmcGoDispatch_extends : Answers (execTmcGoDispatch p t s) s.Extends :=
  .ite (.next ((Extends.updPkg s p _).trans (.updTray _ _ _))) (.next (.refl s))

theorem State.noteReset_extends (s : State) (p : Nat) : s.Extends (s.noteReset p) := .updTray s _ _

theorem execAbsorbHoldEnd_extends : Answers (execAbsorbHoldEnd p t s) s.Extends := by
  refine .next ?_
  split
  · exact .ite ((Extends.updPkg s p _).trans (State.noteReset_extends _ _)) (.updPkg s p _)
  · exact .updPkg s p _

theorem execLinkResetHoldEnd_extends : Answers (execLinkResetHoldEnd p t s) s.Extends := by
  refine .next ?_
  split
  · exact .ite ((Extends.updPkg s p _).trans (State.noteReset_extends _ _)) (.updPkg s p _)
  · exact .updPkg s p _

theorem execTmcIbi_extends (slot : SlotId) (ht : Nat) : Answers (execTmcIbi p slot ht t s) s.Extends := by
  unfold execTmcIbi
  have hibi := Extends.updPkg s p (fun k => { k.at t with ibi := k.ibi.filter (fun x => x != slot.val) })
  exact .ite (.next (.refl s)) (.ite (.next (hibi.trans (.updMir _ _))) (.ite (.next hibi) (.next ((hibi.trans (.updNats _ _ _)).trans (.updMir _ _)))))

theorem execShelfFailure_extends (shelf : Fin 6) : Answers (execShelfFailure shelf s) s.Extends := by
  have hshelf : s.Extends { s with shelves := s.shelves.set shelf false } := .ofSame rfl rfl rfl
  exact .next (.ite (hshelf.thenPost _ _ _) (.refl s))

theorem execBusOutOfRange_extends (rail : Fin 11) : Answers (execBusOutOfRange rail t s) s.Extends := by
  have hstopped : s.Extends { s with trays := s.trays.map (fun (y : Tray) => { y with stopped := true }) } := .ofSame rfl rfl rfl
  exact .next (hstopped.trans (.foldl _ (fun s p => s.brownOut_extends p rail t) _))

theorem execConverterFailure_extends : Answers (execConverterFailure tray t s) s.Extends :=
  .ite (.next (.refl s)) (.next (((Extends.updTray s _ _).trans (State.setLimit_extends _ _ _ _)).thenPost _ _ _))

theorem execRailUpTimeout_extends (rail : Fin 11) : Answers (execRailUpTimeout p rail t s) s.Extends :=
  .ite (.next (.updPkg s p _)) (.next (((Extends.updPkg s p _).trans (State.tmcLog_extends _ _ _ _ _)).thenPost _ _ _))

theorem execRailOff_extends (rail : Fin 11) : Answers (execRailOff p rail t s) s.Extends :=
  .next ((Extends.updPkg s p _).trans (State.finishSafe_extends _ _))

theorem execRailStuckTimeout_extends (rail : Fin 11) : Answers (execRailStuckTimeout p rail t s) s.Extends :=
  .ite (.next (.updPkg s p _))
    (.next ((((Extends.updPkg s p _).trans (State.tmcLog_extends _ _ _ _ _)).thenPost _ _ _).trans (State.finishSafe_extends _ _)))

theorem execShareCompute_extends (output inputs : Nat) : Answers (execShareCompute output inputs t s) s.Extends := by
  unfold execShareCompute
  split
  · exact .next (.refl s)
  · extract_lets budget share s₀ s₁
    have hsent : s.Extends s₁ := (Extends.updMir s _).trans (.busSend _ _ _ _ _ _)
    exact .ite (.next (.refl s)) (.next (hsent.trans (.foldl _ (fun s _ => .ite (.updTrayPkgs s _ _) (.refl s)) _)))

theorem execEnergyPublish_extends : Answers (execEnergyPublish t s) s.Extends :=
  .ite (.next (.refl s)) (.next (.foldl _ (fun s p => .ite ((Extends.updPkg s p _).trans (State.readEnergy_extends _ p)) (.refl s)) s))

theorem execSupplyUpdate_extends (temp : Int) (flow : Nat) : Answers (execSupplyUpdate tray temp flow t s) s.Extends :=
  .ite (.next (.refl s)) (.next ((Extends.updTray s _ _).trans (.updNats _ _ _)))

theorem execThetaWindow_extends : Answers (execThetaWindow p t s) s.Extends :=
  .ite (.next (.refl s)) (.next (.ite ((Extends.updPost s p _).trans (State.clearReady_extends _ p)) (.updPost s p _)))

theorem execCoolantFaultCondition_extends (row : Fin 8) : Answers (execCoolantFaultCondition tray row t s) s.Extends := by
  unfold execCoolantFaultCondition
  extract_lets s₀
  have hcond : s.Extends s₀ := .updTray s _ _
  refine .ite (.next (.refl s)) (.next (hcond.trans ?_))
  split
  · exact .post _ _ _ _
  · exact (State.setLimit_extends _ _ _ _).thenPost _ _ _
  · exact (State.trayDown_extends _ _ _).thenPost _ _ _
  · exact .post _ _ _ _
  · exact (State.setLimit_extends _ _ _ _).thenPost _ _ _
  · exact (State.trayDown_extends _ _ _).thenPost _ _ _
  · have hpressure : s₀.Extends { s₀ with pressure := true } := .ofSame rfl rfl rfl
    exact hpressure.thenPost _ _ _
  · exact (Extends.updNats _ _ _).thenPost _ _ _

theorem execHeartbeatSend_extends (health : Nat) : Answers (execHeartbeatSend node health t s) s.Extends :=
  .ite (.next (.refl s)) (.next (.busSend s _ _ _ _ _))

theorem State.hearAcks_extends (s : State) (seen t : Nat) : s.Extends ((List.range 24).foldl (State.hearAck seen t) s) :=
  .foldl _ (fun s n => .ite (s.acknowledge_extends n t) (.refl s)) s

theorem execHeartbeat_extends (ver seen health : Nat) : Answers (execHeartbeat ver node seen health t s) s.Extends := by
  refine .ite (.next (.dropFrame s)) (.next ?_)
  have hheard : s.Extends { s with bus := { s.bus with
      heard := (node.val, t) :: s.bus.heard.filter (fun x => x.1 != node.val)
      health := (node.val, health) :: s.bus.health.filter (fun x => x.1 != node.val) } } := .ofSame rfl rfl rfl
  exact .ite (hheard.trans (State.hearAcks_extends _ seen t)) hheard

theorem execClaim_extends (ver : Nat) : Answers (execClaim ver umpire t s) s.Extends := by
  have hheard : s.Extends { s with bus := { s.bus with
      heard := (umpire.val + 1, t) :: s.bus.heard.filter (fun x => x.1 != umpire.val + 1) } } := .ofSame rfl rfl rfl
  exact .next (.ite (.dropFrame s) (hheard.trans (State.takePrimary_extends _)))

theorem execUmpireRelease_extends (ver cause : Nat) : Answers (execUmpireRelease ver umpire cause t s) s.Extends := by
  have hlast : s.Extends { s with bus := { s.bus with
      last := some { type := 0x03, node := umpire.val + 1, flags := 0, seq := 0, ht := t, body := [cause] } } } := .ofSame rfl rfl rfl
  exact .next (.ite (.dropFrame s) (hlast.trans (State.takePrimary_extends _)))

theorem execPowerCmdOn_extends (ver : Nat) : Answers (execPowerCmdOn ver node tray mask t s) s.Extends :=
  .next (State.atTmc_extends s _ _ _ (.foldl _ (fun s q => s.powerOn_extends q t) s))

theorem execPowerCmdOff_extends (ver : Nat) : Answers (execPowerCmdOff ver node tray mask t s) s.Extends :=
  .next (State.atTmc_extends s _ _ _ (.updNats _ _ s))

theorem execPowerCmdEfuseOpen_extends (ver : Nat) : Answers (execPowerCmdEfuseOpen ver node tray mask t s) s.Extends :=
  .next (State.atTmc_extends s _ _ _ (.updNats _ _ s))

theorem execPowerCmdEfuseClose_extends (ver : Nat) : Answers (execPowerCmdEfuseClose ver node tray mask t s) s.Extends :=
  .next (State.atTmc_extends s _ _ _ (((Extends.updTray s _ _).trans (.showLamp _ _)).trans (.updNats _ _ _)))

theorem execPowerDone_extends (ver id st : Nat) : Answers (execPowerDone ver id st s) s.Extends :=
  .next (.ite (.dropFrame s) (.ofSame rfl rfl rfl))

theorem execAlert_extends (ver unit : Nat) (wholeTray : Bool) : Answers (execAlert ver unit wholeTray t s) s.Extends := by
  refine .ite (.next (.dropFrame s)) (.next (.foldl _ (fun s q => ?_) s))
  split
  · exact .ite ((Extends.updMir s _).thenPost _ _ _) (.refl s)
  · exact .refl s

theorem execPresence_extends (ver : Nat) (inserted input : Bool) : Answers (execPresence ver tray inserted input t s) s.Extends := by
  refine .ite (.next (.dropFrame s)) (.next (Extends.trans ?_ (.showLamp _ _)))
  have hpresent := Extends.updTray s tray (fun y => { y with present := inserted, input := input && inserted })
  have hmoved : ∀ was : Bool, s.Extends _ := fun was => Extends.ite (c := (inserted && !was) = true)
    ((hpresent.trans (.updTray _ tray (fun y =>
      { y with aux := true, converters := 2, held := false, started := t, lastAck := t, solo := false }))).trans (State.setLimit_extends _ tray 0 false))
    (.ite (c := (!inserted) = true) (hpresent.trans (.updTray _ tray (fun y => { y with aux := false }))) hpresent)
  exact .ite (hmoved _) ((hmoved _).trans (.updNats _ _ _))

theorem execShare_extends (ver watts : Nat) : Answers (execShare ver node tray watts t s) s.Extends :=
  .next (State.atTmc_extends s _ _ _ (.updTrayPkgs s _ _))

theorem execUnits_extends (ver : Nat) (states : List Nat) : Answers (execUnits ver node tray states s) s.Extends :=
  .next (State.atTmc_extends s _ _ _ ((Extends.updTray s _ _).trans (.updTrayPkgs _ _ _)))

theorem execMaint_extends (ver : Nat) (on : Bool) : Answers (execMaint ver node tray on s) s.Extends :=
  .next (State.atTmc_extends s _ _ _ (.updTrayPkgs s _ _))

theorem execPrimaryLineRelease_extends : Answers (execPrimaryLineRelease umpire t s) s.Extends :=
  .next (.ite ((State.releaseLine_extends s _ _).trans (State.takePrimary_extends _)) (.refl s))

theorem execPrimaryAssert_extends : Answers (execPrimaryAssert umpire t s) s.Extends := by
  unfold execPrimaryAssert
  extract_lets u other s₀ s₁ s₂ s₃
  have hasserted : s.Extends s₁ := (Extends.updUmp s _ _).trans (.busSend _ _ _ _ _ _)
  have hreleased : s.Extends s₂ := .ite ((hasserted.trans (State.releaseLine_extends _ _ _)).trans (.busSend _ _ _ _ _ _)) hasserted
  have hprimary : s.Extends s₃ := hreleased.trans (.ofSame rfl rfl rfl)
  exact .ite (.next (.refl s)) (.next ((hprimary.trans (State.resendExts_extends _ _)).trans (State.takePrimary_extends _)))

theorem execQuorumLoss_extends : Answers (execQuorumLoss umpire t s) s.Extends :=
  .next (.ite (((State.releaseLine_extends s _ _).trans (.busSend _ _ _ _ _ _)).trans (State.takePrimary_extends _)) (.refl s))

theorem execMirrorSync_extends : Answers (execMirrorSync s) s.Extends := by
  refine .next ?_
  split
  · exact .ite (.updUmp s _ _) (.refl s)
  · exact .refl s

theorem execNoPrimaryTimeout_extends : Answers (execNoPrimaryTimeout t s) s.Extends := by
  have hposted : s.Extends { s with noPrimaryPosted := true } := .ofSame rfl rfl rfl
  exact .next (.ite (hposted.thenPost _ _ _) (.refl s))

theorem execSoloEntry_extends : Answers (execSoloEntry tray t s) s.Extends :=
  .ite (.next (.refl s)) (.next (((((Extends.updTray s _ _).trans (State.setLimit_extends _ _ _ _)).trans (.updTrayPkgs _ _ _)).trans
    (.showLamp _ _)).thenPost _ _ _))

/-- The polls of the 72 packages (R887). -/
theorem State.pollAll_extends (s : State) (answers t : Nat) : s.Extends ((List.finRange 72).foldl (fun (s : State) (p : Fin 72) =>
    let s := s.pollUnit answers t p
    if s.mgmtView answers p then s.pollSeen p else s) s) :=
  .foldl _ (fun s p => .ite ((s.pollUnit_extends _ _ p).trans (State.pollSeen_extends _ p)) (s.pollUnit_extends _ _ p)) s

theorem execUmpirePoll_extends (answers : Nat) : Answers (execUmpirePoll answers t s) s.Extends := by
  unfold execUmpirePoll
  split
  · exact .next (.refl s)
  · extract_lets took s₀ s₁ s₂
    have hpolled : s.Extends s₁ := Extends.thenPostIf (.updUmp s _ _) _ _ _ _
    have hunits : s.Extends s₂ := hpolled.trans (State.pollAll_extends s₁ answers t)
    exact .ite (.next (.refl s)) (.next ((hunits.trans (State.updateExclusions_extends _)).trans (State.judge_extends _ _)))

theorem execRackSummaryRead_extends (rack part : Nat) (ready : Bool) (cores : Nat) (reach rings : Bool) (excluded : List Nat) :
    Answers (execRackSummaryRead rack part ready cores reach rings excluded t s) s.Extends := by
  unfold execRackSummaryRead
  extract_lets y s₀
  have hsummary : s.Extends s₀ := .ofSame rfl rfl rfl
  exact .ite (.next (.refl s)) (.next ((hsummary.trans (State.updateExclusions_extends _)).trans (State.judge_extends _ _)))

theorem execMaintWindowExpire_extends : Answers (execMaintWindowExpire t s) s.Extends := by
  unfold execMaintWindowExpire
  extract_lets u
  have hrack : s.Extends u := by
    show s.Extends (match s.mir.window with
      | some e => if e ≤ t ∧ s.primary.isSome then s.closeWindow t else s
      | none => s)
    split
    · exact .ite (s.closeWindow_extends t) (.refl s)
    · exact .refl s
  refine .next (hrack.trans (.foldl _ (fun s n => ?_) _))
  split
  · exact .ite (s.closeTrayWindow_extends n) (.refl s)
  · exact .refl s

/-- The effects of Table 20-8 that a connector's fault has at once. -/
theorem execConnectorFault_extends (code kind : Nat) : Answers (execConnectorFault tray code kind t s) s.Extends := by
  unfold execConnectorFault
  extract_lets s₀ s₁ s₂
  have hfault : s.Extends s₀ := .updTray s _ _
  have heffect : s.Extends s₁ := by
    refine hfault.trans ?_
    show s₀.Extends (match code with
      | 1 => (trayPkgs tray).foldl (fun (s : State) q => s.updNat q (fun k => (k.at t).auxLost)) (s₀.updTray tray (fun (y : Tray) => { y with input := false }))
      | 2 => s₀.updTray tray (fun (y : Tray) => { y with aux := false })
      | 5 => (s₀.updTrayPkgs tray (fun k => k.setF F.THM_SUP_VALID 0)).post "SensorLost" .warning tray
      | 6 => s₀.post "SensorLost" .warning tray
      | _ => s₀)
    split
    · exact (Extends.updTray _ _ _).trans (.updNats _ _ _)
    · exact .updTray _ _ _
    · exact (Extends.updTrayPkgs _ _ _).thenPost _ _ _
    · exact .post _ _ _ _
    · exact .refl _
  have htold : s.Extends s₂ := .ite (heffect.trans (.busSend _ _ _ _ _ _)) heffect
  exact .ite (.next (.refl s)) (.next ((htold.trans (.showLamp _ _)).thenPost _ _ _))

theorem execServiceButton_extends : Answers (execServiceButton tray t s) s.Extends :=
  .ite (.next (.refl s)) (.ite (.next (((Extends.updNats _ _ s).trans (.updTray _ _ _)).trans (State.finishSafe_extends _ _))) (.next (.updTray s _ _)))

theorem execRedfishRetire_extends (core : Nat) (force : Bool) : Answers (execRedfishRetire p core force t s) s.Extends :=
  .next (State.asAction_extends s (fun s => (s.updMap_extends p _).trans (.answer _ _)))

theorem execRedfishThermalRelease_extends : Answers (execRedfishThermalRelease p t s) s.Extends :=
  .next (State.asAction_extends s (fun s => (Extends.updPkg s p _).trans (.answer _ _)))

theorem execRedfishReset_extends (scope : Fin 6) (target : Nat) (at_ : Bool) (ht : Nat) :
    Answers (execRedfishReset p scope target at_ ht t s) s.Extends :=
  .next (State.asAction_extends s (fun s => .ite
    (.ite (.answer s _) (.ite (.answer s _) (.foldl _ (fun s q => s.resetAt_extends q _ _ _ _) s)))
    ((Extends.updPkg s p _).trans (.answer _ _))))

theorem execRedfishClearFailed_extends (port : PortId) : Answers (execRedfishClearFailed p port t s) s.Extends :=
  .next (State.asAction_extends s (fun s => .ite ((Extends.updPkg s p _).trans (.answerOpen _)) (.updPkg s p _)))

theorem execRedfishLocate_extends (port : PortId) : Answers (execRedfishLocate p port t s) s.Extends :=
  .next (State.asAction_extends s (fun s => .updPkg s p _))

theorem execOpenMaintenanceWindow_extends (tray : Option TrayId) (minutes : Nat) : Answers (execOpenMaintenanceWindow tray minutes t s) s.Extends := by
  refine .next (State.asAction_extends s (fun s => .ite (.answerOpen s) ?_))
  split
  · exact .ite (.answer s _) ((((Extends.updMir s _).trans (.mapPkgs _ _)).trans (State.sendMaint_extends _ _)).thenPost _ _ _)
  · exact .ite (.answer s _) (((Extends.updTray s _ _).trans (.updTrayPkgs _ _ _)).thenPost _ _ _)

theorem execCloseMaintenanceWindow_extends (tray : Option TrayId) : Answers (execCloseMaintenanceWindow tray t s) s.Extends := by
  refine .next (State.asAction_extends s (fun s => ?_))
  split
  · exact .ite (.answer s _) (s.closeWindow_extends t)
  · exact .ite (.answer s _) (s.closeTrayWindow_extends _)

theorem execPowerPackage_extends (on : Bool) : Answers (execPowerPackage p on t s) s.Extends := by
  refine .next (State.asAction_extends s (fun s => ?_))
  split
  · extract_lets id bus s₀
    have hnumbered : s.Extends s₀ := .ofSame rfl rfl rfl
    exact hnumbered.trans (.busSend _ _ _ _ _ _)
  · exact .ite (s.powerOn_extends p t) (.updPkg s p _)

theorem execSetPartitionReady_extends (part : Nat) (ready : Bool) : Answers (execSetPartitionReady part ready s) s.Extends := by
  refine .next (State.asAction_extends s (fun s => ?_))
  extract_lets s₀ was
  have hdecided : s.Extends s₀ := .ofSame rfl rfl rfl
  exact .ite (.answer s _) (hdecided.trans (State.reportPart_extends _ _ _ _))

theorem execRosterSubmit_extends (image : Bytes) : Answers (execRosterSubmit tray image t s) s.Extends :=
  .next (State.asAction_extends s (fun s => .ite (.answer s _) (.ite (.answer s _) (.putRoster s _ _))))

theorem execVoteReceive_extends (target : Nat) (yes : Bool) (st : Nat) : Answers (execVoteReceive target yes st t s) s.Extends := by
  unfold execVoteReceive
  split
  · exact .ite (.next (.refl s)) (.ite (.next (s.abortRoster_extends _ _ _)) (.next (.ite (s.commitRoster_extends _ _ _) (.putRoster s _ _))))
  · exact .next (.refl s)

theorem execStagingTimeout_extends : Answers (execStagingTimeout t s) s.Extends :=
  .next (.foldl _ (fun s _ => .ite (s.abortRoster_extends _ _ _) (.refl s)) s)

theorem execRosterActivate_extends (target : Nat) : Answers (execRosterActivate target t s) s.Extends :=
  .next (.ite ((Extends.updNat s _ _).trans (State.noteTrial_extends _ _)) (.ite (s.enterTrial_extends _ _ _) (.refl s)))

theorem execRevertAtTime_extends (target : Nat) : Answers (execRevertAtTime target t s) s.Extends := by
  refine .next (.ite (.updNat s _ _) ?_)
  dsimp only
  split
  · exact .ite (s.ctrlRevert_extends _ _) (.refl s)
  · exact .refl s

theorem execConfirmRoster_extends : Answers (execConfirmRoster tray t s) s.Extends := by
  refine .next (State.asAction_extends s (fun s => ?_))
  dsimp only
  split
  · refine .ite (.answer s _) (.ite (.answer s _) (.ite (.answer s _) ?_))
    have hconfirmed : ∀ x c r, s.Extends ((s.putCommit c x).putRoster c r) := fun x c r => (s.putCommit_extends c x).trans (.putRoster _ c r)
    exact (hconfirmed _ _ _).trans (.foldl _ (fun s _ => .ite (.refl s) (.updCtrl s _ _)) _)
  · exact .answer s _

theorem execRevertRoster_extends : Answers (execRevertRoster tray t s) s.Extends := by
  refine .next ?_
  split
  · exact .ite (s.revertRoster_extends _ _ _ _) (State.asAction_extends s (fun s => .ite (s.revertRoster_extends _ _ _ _) (.answer s _)))
  · exact State.asAction_extends s (fun s => .answer s _)

theorem execTrialWindowEnd_extends (target : Nat) : Answers (execTrialWindowEnd target t s) s.Extends := by
  unfold execTrialWindowEnd
  extract_lets s₀
  have hended : s.Extends s₀ := .ite (.updNat s _ _) (.updCtrl s _ _)
  refine .ite (.next (.refl s)) (.next (hended.trans ?_))
  split
  · exact ((Extends.putRoster _ _ _).trans (State.putCommit_extends _ _ _)).thenPost _ _ _
  · exact .refl _

theorem execTrialSilenceTimeout_extends : Answers (execTrialSilenceTimeout node t s) s.Extends := by
  unfold execTrialSilenceTimeout
  dsimp only
  split
  · exact .next (.refl s)
  · refine .ite (.next (.updCtrl s _ _)) (.ite (.next (.refl s)) (.ite (.next ?_) (.next (s.ctrlDead_extends _ _))))
    split
    · exact (s.ctrlRevert_extends _ _).trans (State.revertRoster_extends _ _ _ _ _)
    · exact s.ctrlRevert_extends _ _

theorem execCoordinatorRestart_extends : Answers (execCoordinatorRestart tray t s) s.Extends := by
  unfold execCoordinatorRestart
  dsimp only
  split
  · exact .ite (.next (.refl s)) (.next ((s.putCommit_extends _ _).trans (.ofControllers (State.commitTo_controllersOnly _ _ _))))
  · exact .next (.ite (s.abortRoster_extends _ _ _) (.refl s))
  · exact .next (.refl s)

theorem execAuxPowerLoss_extends : Answers (execAuxPowerLoss p t s) s.Extends := .next ((Extends.updPkg s p _).trans (.updTray _ _ _))

theorem execShelfRestored_extends (shelf : Fin 6) : Answers (execShelfRestored shelf s) s.Extends := .next (.ofSame rfl rfl rfl)

theorem execCoolantConditionEnd_extends (row : Fin 8) : Answers (execCoolantConditionEnd tray row s) s.Extends := by
  unfold execCoolantConditionEnd
  extract_lets s₀
  have hcond : s.Extends s₀ := .updTray s _ _
  refine .ite (.next (.refl s)) (.next (hcond.trans ?_))
  split
  · exact State.setLimit_extends _ _ _ _
  · exact State.setLimit_extends _ _ _ _
  · exact .ofSame rfl rfl rfl
  · exact .refl _

theorem execConnectorReenable_extends (code cleared : Nat) : Answers (execConnectorReenable tray code cleared t s) s.Extends :=
  .ite (.next (.refl s)) (.next ((Extends.updTray s _ _).trans (.showLamp _ _)))

theorem execStaggeredActivation_extends : Answers (execStaggeredActivation node t s) s.Extends := by
  have htrial : s.Extends (((s.ctrlTrial node t).noteTrial (128 + node))) := (Extends.updCtrl s _ _).trans (State.noteTrial_extends _ _)
  refine .ite (.next (.refl s)) (.ite (.next (.ite htrial (.refl s))) (.ite (.ite (.ite (.next ?_) (.next (.refl s))) (.next ?_)) (.next (.refl s))))
  · exact (((s.releaseLine_extends _ _).trans (.busSend _ _ _ _ _ _)).trans (State.takePrimary_extends _)).trans (State.enterTrial_extends _ _ _ _)
  · exact s.enterTrial_extends _ _ _

theorem execBrownOut_extends (rail : Fin 11) : Answers (execBrownOut p rail t s) s.Extends := .next (s.brownOut_extends p rail t)

end Commands

/-! ### The commands of one package -/

/-- A step of package `p` alone: nothing else of the rack differs, and what waits and what was posted stays in order. -/
structure State.StepsAt (p : PkgId) (s t : State) : Prop where
  sameBut : s.sameBut t p
  ordered : s.Extends t

namespace State.StepsAt

variable (p : PkgId)

theorem updPkg (f : Pkg → Pkg) : s.StepsAt p (s.updPkg p f) := ⟨⟨f (s.pkg p), [], s.nextEvent, rfl⟩, .updPkg s p f⟩

theorem refl : s.StepsAt p s := by
  refine ⟨⟨s.pkg p, [], s.nextEvent, ?_⟩, .refl s⟩
  simp [State.pkg]

/-- Posted events come before the ones that stand. -/
theorem thenPost {t : State} (h : s.StepsAt p t) (n : String) (v : Severity) (a : Nat) : s.StepsAt p (t.post n v a) := by
  obtain ⟨⟨k, es, m, ht⟩, hext⟩ := h
  refine ⟨⟨k, { id := m, name := n, severity := v, arg := a } :: es, m + 1, ?_⟩, hext.thenPost n v a⟩
  rw [ht]
  rfl

/-- A step of one package, twice at the same one. -/
theorem thenPkg {t : State} (h : s.StepsAt p t) (f : Pkg → Pkg) : s.StepsAt p (t.updPkg p f) := by
  obtain ⟨⟨k, es, m, ht⟩, hext⟩ := h
  refine ⟨⟨f (t.pkg p), es, m, ?_⟩, hext.trans (.updPkg t p f)⟩
  rw [State.updPkg, State.setPkg]
  generalize f (t.pkg p) = j
  subst ht
  simp

theorem postAll {t : State} (h : s.StepsAt p t) (ns : List (String × Severity × Nat)) :
    s.StepsAt p (ns.foldl (fun s n => s.post n.1 n.2.1 n.2.2) t) := by
  induction ns generalizing t with
  | nil => exact h
  | cons n r ih => exact ih (h.thenPost s p n.1 n.2.1 n.2.2)

theorem updPost (f : Pkg → Pkg) : s.StepsAt p (s.updPost p f) := by
  have hupd := updPkg s p f
  have hcleared : s.StepsAt p (if ((s.updPkg p f).pkg p).notices.isEmpty then s.updPkg p f
      else (s.updPkg p f).updPkg p (fun k => { k with notices := [] })) := by
    split
    · exact hupd
    · exact hupd.thenPkg s p _
  exact hcleared.postAll s p _

end State.StepsAt

/-- A command of one package steps that package: it changes it, and posts its notices or one event. -/
theorem exec_stepsAt {c : Instr} {p : PkgId} (hsite : c.site = some p) : Completes c s (State.StepsAt p s) := by
  cases c with
  | registerWrite | readClear | frameSend | markerReceive | freeLimit | volleyBoundary | waitHtRelease | playFetchComplete
  | unknownOpcode | gemm | groupedGemm | attnBlock | vec | trans | route | layout | gather | scatter | move | sendTile | tileStripeSend
  | windowOp | semWait | semWaitRelease | semPost | semPostApply | fence | fenceRelease | waitHt | barrier | announce | jump | loop
  | stop | commandStart | commandRetire | shotClockExpire | laneSlotsGranted | kvPageArrive | walkComplete | invRange | invRoot
  | invAll | invComplete | xltRootWrite | bar2Read | bar2Write | cacheEntryError | loopWindowClose | routeCountsSnapshot
  | biasUpdateCompute | biasGenerationReceive | biasApply | biasCommit | routeCountsStep | planGo | planDeadline | planSectionReceive
  | signalDetect | equalizeComplete | controlFrameReceive | identifyTimeout | qualifyWindowEnd | serviceWindowEnd | spareSwitch
  | spareAckTimeout | fecAlignmentLoss | retrainNoSignal | lossOfSignal | retrain | clearFailed | lnkEnable | lnkDisable
  | dataFrameReceive | letTimeout | packetForward | openPacketSend | slotOpen | schedToOpen | writePacket | reducePacket | readData
  | ack | atomic | semPostPacket | readReq | playStart | playDone | linkState | stretchReq | stretch | barrierArrive | barrierRelease
  | barrierMismatch | join | collAbort | fanoutRun | fanoutDone | badPacketReceive | resendTimeout | deliveryGiveUp | windowIdleFree
  | sequenceQuietEnd | fabLoad | templateLoad | windowRegister | windowDeregister | deregisterComplete | callLoad | callTableLoad
  | callFire | callEnd | collectiveTimeout | sqDoorbell | cqDoorbell | callNop | callPlay | callStep | callSemPost | callCopy
  | callStorage | callComplete | interruptCoalesceTimeout | hostCallTimeout | vfFlr | pfFlr | hostReset | sqEnable | pcieTrainingStart
  | pcieConfigRequest | stoConnect | stoDisconnect | nvmeCompletion | nvmeTimeout | keepAliveFailure | reconnectAttempt
  | storageFrameReceive | rdmaAccess | lineupStage | lineupStageCheckDone | lineupDiscard | lineupApplySchedule | lineupApply
  | serialWaitTimeout | lineupLoadComplete | hbmTrainingComplete | hbmTestComplete | hbmZeroingComplete | portPhaseEnd | go
  | goFallback | waveStart | mapComplete | readyDeadline | resetCore | resetCluster | resetPartition | resetPackage | resetRack
  | resetAtTime | pinReset | auxPowerOn | watchdogExpiry | clusterRetrainComplete | partitionRelease | substitutionCopyDone
  | mapRecordWriteDone | mapWriteRetry | railInRegulation | powerUpRetry | railDownStepTimeout | efuseReclose | boostChoice
  | powerSample | droopCrossing | announcePhaseWake | energyInterval | thermalGateUpdate | thermalRelease | stageWrite | eraseSlot
  | readBack | bootVerify | bootAbort | bootCommit | bootConfirm | bootRevert | pcieLinkTrained | storageLinkChange | pkgResetRelease
  | callAtHtAction =>
    obtain rfl := Option.some.inj hsite
    exact Answers.next (.updPkg s _ _)
  | epochBoundary | junctionSample | supplyStale | junctionMinute | hbmTemperatureSample =>
    obtain rfl := Option.some.inj hsite
    exact Answers.next (.updPost s _ _)
  | coldHallSeed =>
    obtain rfl := Option.some.inj hsite
    exact Answers.ite (.next (.updPkg s _ _)) (.next (.refl s _))
  | thermalTrip =>
    obtain rfl := Option.some.inj hsite
    exact Answers.ite (.next (.updPkg s _ _)) (.next ((State.StepsAt.updPkg s _ _).thenPost s _ _ _ _))
  | playComplete | bistComplete | lsZeroingComplete | criticalError | drainComplete | drainTimeout | ceSample | retire | ppsEdge
  | cardPoll | referenceLost | ppsLoss | referenceQualified | holdoverLimit | highWaterRecord | isolatedRackSeed | bootSetVerified
  | tmcGoDispatch | brownOut | absorbHoldEnd | linkResetHoldEnd | tmcIbi | shelfFailure | busOutOfRange | converterFailure
  | railUpTimeout | railOff | railStuckTimeout | shareCompute | energyPublish | supplyUpdate | thetaWindow | coolantFaultCondition
  | heartbeatSend | heartbeat | claim | umpireRelease | powerCmdOn | powerCmdOff | powerCmdEfuseOpen | powerCmdEfuseClose | powerDone
  | alert | presence | share | units | maint | primaryLineRelease | primaryAssert | quorumLoss | mirrorSync | noPrimaryTimeout
  | soloEntry | umpirePoll | rackSummaryRead | maintWindowExpire | connectorFault | serviceButton | redfishRetire
  | redfishThermalRelease | redfishReset | redfishClearFailed | redfishLocate | openMaintenanceWindow | closeMaintenanceWindow
  | powerPackage | setPartitionReady | rosterSubmit | voteReceive | stagingTimeout | rosterActivate | revertAtTime | confirmRoster
  | revertRoster | trialWindowEnd | trialSilenceTimeout | coordinatorRestart | auxPowerLoss | shelfRestored | coolantConditionEnd
  | connectorReenable | staggeredActivation => cases hsite

/-- What every command leaves: the queue behind it, and the order of the events. -/
theorem exec_extends (c : Instr) : Completes c s s.Extends := by
  cases hsite : c.site with
  | some p => exact (exec_stepsAt s hsite).mono (fun _ h => h.ordered)
  | none => cases c with
    | registerWrite | readClear | frameSend | markerReceive | freeLimit | volleyBoundary | waitHtRelease | playFetchComplete
    | unknownOpcode | gemm | groupedGemm | attnBlock | vec | trans | route | layout | gather | scatter | move | sendTile
    | tileStripeSend | windowOp | semWait | semWaitRelease | semPost | semPostApply | fence | fenceRelease | waitHt | barrier
    | announce | jump | loop | stop | commandStart | commandRetire | shotClockExpire | laneSlotsGranted | kvPageArrive | walkComplete
    | invRange | invRoot | invAll | invComplete | xltRootWrite | bar2Read | bar2Write | cacheEntryError | loopWindowClose
    | routeCountsSnapshot | biasUpdateCompute | biasGenerationReceive | biasApply | biasCommit | routeCountsStep | planGo
    | planDeadline | planSectionReceive | signalDetect | equalizeComplete | controlFrameReceive | identifyTimeout | qualifyWindowEnd
    | serviceWindowEnd | spareSwitch | spareAckTimeout | fecAlignmentLoss | retrainNoSignal | lossOfSignal | retrain | clearFailed
    | lnkEnable | lnkDisable | dataFrameReceive | letTimeout | packetForward | openPacketSend | slotOpen | schedToOpen | writePacket
    | reducePacket | readData | ack | atomic | semPostPacket | readReq | playStart | playDone | linkState | stretchReq | stretch
    | barrierArrive | barrierRelease | barrierMismatch | join | collAbort | fanoutRun | fanoutDone | badPacketReceive | resendTimeout
    | deliveryGiveUp | windowIdleFree | sequenceQuietEnd | fabLoad | templateLoad | windowRegister | windowDeregister
    | deregisterComplete | callLoad | callTableLoad | callFire | callEnd | collectiveTimeout | sqDoorbell | cqDoorbell | callNop
    | callPlay | callStep | callSemPost | callCopy | callStorage | callComplete | interruptCoalesceTimeout | hostCallTimeout | vfFlr
    | pfFlr | hostReset | sqEnable | pcieTrainingStart | pcieConfigRequest | stoConnect | stoDisconnect | nvmeCompletion | nvmeTimeout
    | keepAliveFailure | reconnectAttempt | storageFrameReceive | rdmaAccess | lineupStage | lineupStageCheckDone | lineupDiscard
    | lineupApplySchedule | lineupApply | serialWaitTimeout | lineupLoadComplete | hbmTrainingComplete | hbmTestComplete
    | hbmZeroingComplete | portPhaseEnd | go | goFallback | waveStart | mapComplete | readyDeadline | resetCore | resetCluster
    | resetPartition | resetPackage | resetRack | resetAtTime | pinReset | auxPowerOn | watchdogExpiry | clusterRetrainComplete
    | partitionRelease | substitutionCopyDone | mapRecordWriteDone | mapWriteRetry | railInRegulation | powerUpRetry
    | railDownStepTimeout | efuseReclose | boostChoice | powerSample | droopCrossing | announcePhaseWake | energyInterval
    | thermalGateUpdate | thermalRelease | stageWrite | eraseSlot | readBack | bootVerify | bootAbort | bootCommit | bootConfirm
    | bootRevert | pcieLinkTrained | storageLinkChange | pkgResetRelease | callAtHtAction | epochBoundary | junctionSample
    | supplyStale | junctionMinute | hbmTemperatureSample | coldHallSeed | thermalTrip => cases hsite
    | playComplete | bistComplete | lsZeroingComplete | criticalError | drainComplete | drainTimeout | ceSample | retire => exact Answers.next (s.updMap_extends _ _)
    | ppsEdge => exact execPpsEdge_extends ..
    | cardPoll => exact execCardPoll_extends ..
    | referenceLost => exact execReferenceLost_extends ..
    | ppsLoss => exact execPpsLoss_extends ..
    | referenceQualified => exact execReferenceQualified_extends ..
    | holdoverLimit => exact execHoldoverLimit_extends ..
    | highWaterRecord => exact execHighWaterRecord_extends ..
    | isolatedRackSeed => exact execIsolatedRackSeed_extends ..
    | bootSetVerified => exact execBootSetVerified_extends ..
    | tmcGoDispatch => exact execTmcGoDispatch_extends ..
    | brownOut => exact execBrownOut_extends ..
    | absorbHoldEnd => exact execAbsorbHoldEnd_extends ..
    | linkResetHoldEnd => exact execLinkResetHoldEnd_extends ..
    | tmcIbi => exact execTmcIbi_extends ..
    | shelfFailure => exact execShelfFailure_extends ..
    | busOutOfRange => exact execBusOutOfRange_extends ..
    | converterFailure => exact execConverterFailure_extends ..
    | railUpTimeout => exact execRailUpTimeout_extends ..
    | railOff => exact execRailOff_extends ..
    | railStuckTimeout => exact execRailStuckTimeout_extends ..
    | shareCompute => exact execShareCompute_extends ..
    | energyPublish => exact execEnergyPublish_extends ..
    | supplyUpdate => exact execSupplyUpdate_extends ..
    | thetaWindow => exact execThetaWindow_extends ..
    | coolantFaultCondition => exact execCoolantFaultCondition_extends ..
    | heartbeatSend => exact execHeartbeatSend_extends ..
    | heartbeat => exact execHeartbeat_extends ..
    | claim => exact execClaim_extends ..
    | umpireRelease => exact execUmpireRelease_extends ..
    | powerCmdOn => exact execPowerCmdOn_extends ..
    | powerCmdOff => exact execPowerCmdOff_extends ..
    | powerCmdEfuseOpen => exact execPowerCmdEfuseOpen_extends ..
    | powerCmdEfuseClose => exact execPowerCmdEfuseClose_extends ..
    | powerDone => exact execPowerDone_extends ..
    | alert => exact execAlert_extends ..
    | presence => exact execPresence_extends ..
    | share => exact execShare_extends ..
    | units => exact execUnits_extends ..
    | maint => exact execMaint_extends ..
    | primaryLineRelease => exact execPrimaryLineRelease_extends ..
    | primaryAssert => exact execPrimaryAssert_extends ..
    | quorumLoss => exact execQuorumLoss_extends ..
    | mirrorSync => exact execMirrorSync_extends ..
    | noPrimaryTimeout => exact execNoPrimaryTimeout_extends ..
    | soloEntry => exact execSoloEntry_extends ..
    | umpirePoll => exact execUmpirePoll_extends ..
    | rackSummaryRead => exact execRackSummaryRead_extends ..
    | maintWindowExpire => exact execMaintWindowExpire_extends ..
    | connectorFault => exact execConnectorFault_extends ..
    | serviceButton => exact execServiceButton_extends ..
    | redfishRetire => exact execRedfishRetire_extends ..
    | redfishThermalRelease => exact execRedfishThermalRelease_extends ..
    | redfishReset => exact execRedfishReset_extends ..
    | redfishClearFailed => exact execRedfishClearFailed_extends ..
    | redfishLocate => exact execRedfishLocate_extends ..
    | openMaintenanceWindow => exact execOpenMaintenanceWindow_extends ..
    | closeMaintenanceWindow => exact execCloseMaintenanceWindow_extends ..
    | powerPackage => exact execPowerPackage_extends ..
    | setPartitionReady => exact execSetPartitionReady_extends ..
    | rosterSubmit => exact execRosterSubmit_extends ..
    | voteReceive => exact execVoteReceive_extends ..
    | stagingTimeout => exact execStagingTimeout_extends ..
    | rosterActivate => exact execRosterActivate_extends ..
    | revertAtTime => exact execRevertAtTime_extends ..
    | confirmRoster => exact execConfirmRoster_extends ..
    | revertRoster => exact execRevertRoster_extends ..
    | trialWindowEnd => exact execTrialWindowEnd_extends ..
    | trialSilenceTimeout => exact execTrialSilenceTimeout_extends ..
    | coordinatorRestart => exact execCoordinatorRestart_extends ..
    | auxPowerLoss => exact execAuxPowerLoss_extends ..
    | shelfRestored => exact execShelfRestored_extends ..
    | coolantConditionEnd => exact execCoolantConditionEnd_extends ..
    | connectorReenable => exact execConnectorReenable_extends ..
    | staggeredActivation => exact execStaggeredActivation_extends ..

/-! ### The queue, the events and the rest of the rack -/

theorem step_of_pending {c : Instr} {rest : List Instr} (h : s.pending = c :: rest) : step s = exec c { s with pending := rest } := by
  rw [step, h]

theorem step_of_idle (h : s.pending = []) : step s = .next s := by
  rw [step, h]

/-- Settles O55. -/
theorem stepRunsTheFrontCommand : Obligations.StepRunsTheFrontCommand := by
  unfold Obligations.StepRunsTheFrontCommand
  exact ⟨fun _ _ _ => step_of_pending _ rfl, fun s h => step_of_idle s h⟩

/-- As many steps as commands wait empty the queue, since no command adds to it. -/
theorem run_empties (cs : List Instr) (s : State) (h : s.pending = cs) :
    ∃ t : State, Sys2Proof.core.run cs.length s = .next t ∧ t.pending = [] := by
  induction cs generalizing s with
  | nil => exact ⟨s, rfl, h⟩
  | cons c rest ih =>
    obtain ⟨t, hexec, hext⟩ := exec_extends { s with pending := rest } c
    have hstep : Sys2Proof.core.step s = .next t := (step_of_pending s h).trans hexec
    obtain ⟨u, hrun, hempty⟩ := ih t hext.pending
    refine ⟨u, ?_, hempty⟩
    simp only [List.length_cons, Host.Core.run, hstep]
    exact hrun

/-- Settles O56, by induction on the queue: each step runs its first command and leaves its rest. -/
theorem theQueueIsEmptied : Obligations.TheQueueIsEmptied := by
  unfold Obligations.TheQueueIsEmptied
  exact fun s => run_empties s.pending s rfl

/-- Settles O57: a step is an idle one or that of a command, and every command keeps the events in order. -/
theorem eventNumbersCountUp : Obligations.EventNumbersCountUp := by
  unfold Obligations.EventNumbersCountUp
  intro s t horder hstep
  cases hpending : s.pending with
  | nil =>
    obtain rfl := Host.Outcome.next.inj ((step_of_idle s hpending).symm.trans hstep)
    exact horder
  | cons c rest =>
    obtain ⟨u, hexec, hext⟩ := exec_extends { s with pending := rest } c
    obtain rfl := Host.Outcome.next.inj (hexec.symm.trans ((step_of_pending s hpending).symm.trans hstep))
    exact hext.inOrder horder

/-- Settles O59. -/
theorem localCommandsStayLocal : Obligations.LocalCommandsStayLocal := by
  unfold Obligations.LocalCommandsStayLocal
  intro c p s t hsite hexec
  obtain ⟨u, hnext, hsteps⟩ := exec_stepsAt s hsite
  obtain rfl := Host.Outcome.next.inj (hnext.symm.trans hexec)
  exact hsteps.sameBut

end Sys2Proof.Machine
end

section
/-! PROOFS. What a translation, and a read or write of HBM, leaves alone (R246–R248, R261–R270, R279–R282): the counters and error
registers of XLT and HBM, the caches, the error log and the bytes moved (R829) change, and nothing else. -/

namespace Sys2Proof.Machine

/-! ### The frame of an access -/

/-- The registers outside the translation's own reports, the HBM counters and errors, the error log, and the counts of R734 and R772. The
state of a stack, at the start of its block, is no counter. -/
abbrev xltKeeps (o : Nat) : Prop :=
  (o < 0x400118 ∧ o ≠ 0xd0 ∧ o ≠ 0x10130) ∨ (0x402000 ≤ o ∧ o < 0x800800 ∧ (0x800000 ≤ o → o % 0x100 = 0)) ∨
    (0x801000 ≤ o ∧ o < 0x3000000) ∨ 0x4000000 ≤ o

/-- `j` differs from `k` at most as a translation or a read of HBM changes a package. -/
structure XltOnly (k j : Pkg) : Prop where
  fields : ∃ r x ce n w, j = { k with regs := r, xlt := x, hbmCe := ce, errCount := n, power := { k.power with moved := w } }
  cells : CellsKept xltKeeps k j

namespace XltOnly

variable {k j l : Pkg}

theorem refl (k : Pkg) : XltOnly k k := ⟨⟨k.regs, k.xlt, k.hbmCe, k.errCount, k.power.moved, rfl⟩, .refl k⟩

theorem trans (h : XltOnly k j) (g : XltOnly j l) : XltOnly k l := by
  obtain ⟨⟨r, x, ce, n, w, rfl⟩, hc⟩ := h
  obtain ⟨⟨r', x', ce', n', w', rfl⟩, gc⟩ := g
  exact ⟨⟨r', x', ce', n', w', rfl⟩, hc.trans gc⟩

theorem setF (k : Pkg) (f : Fld) (v : Nat) (hf : ¬ xltKeeps f.off) : XltOnly k (k.setF f v) :=
  ⟨⟨_, k.xlt, k.hbmCe, k.errCount, k.power.moved, rfl⟩, .setF k v hf⟩

theorem thenF (h : XltOnly k j) (f : Fld) (v : Nat) (hf : ¬ xltKeeps f.off) : XltOnly k (j.setF f v) := h.trans (setF j f v hf)

theorem inc (k : Pkg) (f : Fld) (hf : ¬ xltKeeps f.off) : XltOnly k (k.inc f) := setF k f _ hf

theorem addWrap (k : Pkg) (f : Fld) (n : Nat) (hf : ¬ xltKeeps f.off) : XltOnly k (k.addWrap f n) := setF k f _ hf

theorem ofXlt (k : Pkg) (x : Xlt) : XltOnly k { k with xlt := x } := ⟨⟨k.regs, x, k.hbmCe, k.errCount, k.power.moved, rfl⟩, .ofRegs rfl⟩

theorem ofCe (k : Pkg) (ce : List Nat) : XltOnly k { k with hbmCe := ce } := ⟨⟨k.regs, k.xlt, ce, k.errCount, k.power.moved, rfl⟩, .ofRegs rfl⟩

theorem ofErr (h : ErrOnly k j) : XltOnly k j := by
  obtain ⟨⟨r, n, hj⟩, hc⟩ := h
  refine ⟨⟨r, k.xlt, k.hbmCe, n, k.power.moved, hj⟩, fun o ho => hc o ?_⟩
  omega

theorem moveBytes (k : Pkg) (root n : Nat) : XltOnly k (k.moveBytes root n) := by
  unfold Pkg.moveBytes
  exact ⟨⟨k.regs, k.xlt, k.hbmCe, k.errCount, _, rfl⟩, .ofRegs rfl⟩

theorem ite {c : Prop} [Decidable c] (h : XltOnly k j) (g : XltOnly k l) : XltOnly k (if c then j else l) := by
  split <;> assumption

theorem foldl {α : Type} (xs : List α) {op : Pkg → α → Pkg} (h : ∀ k x, XltOnly k (op k x)) (k : Pkg) : XltOnly k (xs.foldl op k) := by
  induction xs generalizing k with
  | nil => exact refl k
  | cons x r ih => exact (h k x).trans (ih _)

/-- A register outside the access's own keeps its value. -/
theorem getF (h : XltOnly k j) (f : Fld) (hf : xltKeeps f.off) : j.getF f = k.getF f := h.cells.getF hf

theorem hbm (h : XltOnly k j) : j.hbm = k.hbm := by obtain ⟨⟨r, x, ce, n, w, rfl⟩, -⟩ := h; rfl
theorem hbmBad (h : XltOnly k j) : j.hbmBad = k.hbmBad := by obtain ⟨⟨r, x, ce, n, w, rfl⟩, -⟩ := h; rfl
theorem cores (h : XltOnly k j) : j.cores = k.cores := by obtain ⟨⟨r, x, ce, n, w, rfl⟩, -⟩ := h; rfl
theorem now (h : XltOnly k j) : j.now = k.now := by obtain ⟨⟨r, x, ce, n, w, rfl⟩, -⟩ := h; rfl
theorem fab (h : XltOnly k j) : j.fab = k.fab := by obtain ⟨⟨r, x, ce, n, w, rfl⟩, -⟩ := h; rfl

theorem hbmState (h : XltOnly k j) (i : Nat) (hi : i < 8) : j.getF (F.HBM_STATE i) = k.getF (F.HBM_STATE i) :=
  h.getF _ (by show xltKeeps (0x800000 + 0x100 * i); omega)

theorem hbmBase (h : XltOnly k j) {root : Nat} (hroot : root < 4) : j.getF (F.XLT_HBM_BASE root) = k.getF (F.XLT_HBM_BASE root) :=
  h.getF _ (by show xltKeeps (0x400080 + 0x8 * root); omega)

theorem hbmLen (h : XltOnly k j) {root : Nat} (hroot : root < 4) : j.getF (F.XLT_HBM_LEN root) = k.getF (F.XLT_HBM_LEN root) :=
  h.getF _ (by show xltKeeps (0x400080 + 0x8 * root); omega)

end XltOnly

/-! ### HBM -/

theorem hbmStack_lt (a : Nat) : hbmStack a < 8 := Nat.mod_lt _ (by decide)

theorem Pkg.hbmUe_frame (k : Pkg) (u : Nat) : XltOnly k (k.hbmUe u) := by
  have hstack := hbmStack_lt (u * 64)
  unfold Pkg.hbmUe
  generalize hbmStack (u * 64) = i at hstack ⊢
  have hcount : ¬ xltKeeps (0x800008 + 0x100 * i) := by omega
  have haddr : ¬ xltKeeps (0x800010 + 0x100 * i) := by omega
  have hinc := XltOnly.inc k (F.HBM_UE_COUNT i) hcount
  exact .ite hinc ((hinc.thenF (F.HBM_UE_ADDR i) _ haddr).thenF (F.HBM_UE i) 1 hcount)

theorem Pkg.hbmCorrect_frame (k : Pkg) (us : List Nat) : XltOnly k (k.hbmCorrect us) := by
  refine (XltOnly.ofCe k _).trans (.foldl _ (fun k u => .inc k _ ?_) _)
  have hstack := hbmStack_lt (u * 64)
  show ¬ xltKeeps (0x800008 + 0x100 * hbmStack (u * 64))
  omega

/-- An access that HBM stops, or lets pass, corrects and reports (R247, R248, R993). -/
theorem Pkg.hbmStop_frame (k : Pkg) (all rd : List Nat) : XltOnly k (k.hbmStop all rd).1 := by
  unfold Pkg.hbmStop
  split
  · exact .ofErr (Pkg.logError_frame _ _ _ _ _)
  · split
    · exact k.hbmUe_frame _
    · exact k.hbmCorrect_frame rd

theorem Pkg.hbmRead_frame (k : Pkg) (a n : Nat) : XltOnly k (k.hbmRead a n).1 := by
  unfold Pkg.hbmRead
  have h := k.hbmStop_frame (hbmUnits a n) (hbmUnits a n)
  dsimp only
  split
  · next heq => rw [heq] at h; exact h
  · next heq => rw [heq] at h; exact h.trans (.addWrap _ _ _ (by decide))

theorem Pkg.walkRead_frame (k : Pkg) (a n : Nat) : XltOnly k (k.walkRead a n).1 := by
  unfold Pkg.walkRead
  have h : XltOnly k ((k.hbmRead a n).1.addWrap (F.XLT_STATS 2) 1) := (k.hbmRead_frame a n).trans (.addWrap _ _ _ (by decide))
  dsimp only
  split
  · exact h
  · exact h.thenF _ _ (by decide)
  · exact h

/-! ### Walks and translations -/

theorem Pkg.walkFrom_frame (root va : Nat) (fuel : Nat) (k : Pkg) (level table : Nat) : XltOnly k (k.walkFrom root va fuel level table).1 := by
  induction fuel generalizing k level table with
  | zero => exact .refl k
  | succ fuel ih =>
    have hread := k.walkRead_frame (table + levelIndex level va * 8) 8
    unfold Pkg.walkFrom
    split
    · exact .refl k
    · split
      · next heq => rw [heq] at hread; exact hread
      · next j b heq =>
        rw [heq] at hread
        split
        · exact hread
        · exact hread
        · next a _ =>
          split
          · exact hread
          · have hsub := hread.trans (ih j (level - 1) a)
            dsimp only
            split
            · exact hsub.trans (.ofXlt _ _)
            · exact hsub
        · next base perm _ =>
          split
          · have hgroup := j.hbmRead_frame (table + levelIndex 0 va / 16 * 128 + (if levelIndex 0 va % 16 < 8 then 64 else 0)) 64
            dsimp only
            split
            · next h => rw [h] at hgroup; exact (hread.trans hgroup).thenF _ _ (by decide)
            · next h => rw [h] at hgroup; exact hread.trans hgroup
            · next h =>
              rw [h] at hgroup
              split
              · exact hread.trans hgroup
              · exact hread.trans hgroup
          · exact hread

theorem Pkg.walk_frame (k : Pkg) (root va : Nat) : XltOnly k (k.walk root va).1 := by
  unfold Pkg.walk
  dsimp only
  split
  · exact .refl k
  · exact Pkg.walkFrom_frame root va 4 k _ _

theorem xltFault_lt (k : Pkg) : k.getF F.XLT_FAULT_NEXT < 64 := Pkg.getF_lt k F.XLT_FAULT_NEXT

/-- The fields of fault record `i`, beside its status (Table 6-8). -/
def Pkg.writeFault (k : Pkg) (i root level va : Nat) (r : Requester) (a : Access4) : Pkg :=
  ((((((k.setF (F.XLT_FR_HT i) k.hallTime).setF (F.XLT_FR_SOURCE i) r.source).setF (F.XLT_FR_REMOTE i) r.remote).setF
    (F.XLT_FR_ROOT i) root).setF (F.XLT_FR_LEVEL i) level).setF (F.XLT_FR_ACCESS i) a.code).setF (F.XLT_FR_VA i) va

/-- A record that stands in the fault log is lost (R282). -/
def Pkg.loseFault (k : Pkg) (i : Nat) : Pkg := if k.getF (F.XLT_FR_STATUS i) != 0 then k.inc F.XLT_FAULT_LOST else k

theorem Pkg.logFault_eq (k : Pkg) (st root level va : Nat) (r : Requester) (a : Access4) : k.logFault st root level va r a =
    let i := k.getF F.XLT_FAULT_NEXT
    ((((k.loseFault i).writeFault i root level va r a).report (F.XLT_FR_STATUS i) st .slot root va).setF F.XLT_FAULT_NEXT
      ((i + 1) % 64)).raise F.XLT_FAULT_LOGGED := rfl

/-- The words of a fault record lie among the translation's own registers. -/
theorem faultRecord_cells {i : Nat} (hi : i < 64) : ¬ xltKeeps (F.XLT_FR_HT i).off ∧ ¬ xltKeeps (F.XLT_FR_SOURCE i).off ∧
    ¬ xltKeeps (F.XLT_FR_STATUS i).off ∧ ¬ xltKeeps (F.XLT_FR_VA i).off := by
  refine ⟨?_, ?_, ?_, ?_⟩ <;> simp only [F.XLT_FR_HT, F.XLT_FR_SOURCE, F.XLT_FR_STATUS, F.XLT_FR_VA] <;> omega

theorem Pkg.writeFault_frame (k : Pkg) {i : Nat} (hi : i < 64) (root level va : Nat) (r : Requester) (a : Access4) :
    XltOnly k (k.writeFault i root level va r a) := by
  obtain ⟨hht, hsource, hstatus, hva⟩ := faultRecord_cells hi
  unfold Pkg.writeFault
  exact ((((((XltOnly.setF k (F.XLT_FR_HT i) _ hht).thenF (F.XLT_FR_SOURCE i) _ hsource).thenF (F.XLT_FR_REMOTE i) _ hstatus).thenF
    (F.XLT_FR_ROOT i) _ hstatus).thenF (F.XLT_FR_LEVEL i) _ hstatus).thenF (F.XLT_FR_ACCESS i) _ hstatus).thenF (F.XLT_FR_VA i) _ hva

theorem Pkg.loseFault_frame (k : Pkg) (i : Nat) : XltOnly k (k.loseFault i) := .ite (.inc k _ (by decide)) (.refl k)

theorem Pkg.logFault_frame (k : Pkg) (st root level va : Nat) (r : Requester) (a : Access4) : XltOnly k (k.logFault st root level va r a) := by
  have hi := xltFault_lt k
  rw [Pkg.logFault_eq]
  generalize k.getF F.XLT_FAULT_NEXT = i at hi ⊢
  obtain ⟨-, -, hstatus, -⟩ := faultRecord_cells hi
  have hrecord := (k.loseFault_frame i).trans (Pkg.writeFault_frame _ hi root level va r a)
  have hset := hrecord.thenF (F.XLT_FR_STATUS i) st hstatus
  have hreport : XltOnly k (((k.loseFault i).writeFault i root level va r a).report (F.XLT_FR_STATUS i) st .slot root va) :=
    .ite hset (hset.trans (.ofErr (Pkg.logError_frame _ _ _ _ _)))
  exact (hreport.thenF F.XLT_FAULT_NEXT _ (by decide)).thenF F.XLT_FAULT_LOGGED 1 (by decide)

theorem Pkg.faulted_frame (k : Pkg) (st root level va : Nat) (r : Requester) (a : Access4) : XltOnly k (k.faulted st root level va r a).1 :=
  .ite (k.logFault_frame st root level va r a) (.refl k)


/-- A leaf of a root holds the page of an address. -/
def Leaf.covers (l : Leaf) (root va : Nat) : Prop := l.root = root ∧ l.va ≤ va ∧ va < l.va + l.size

theorem levelCover_pos (level : Nat) : 0 < levelCover level := by
  unfold levelCover
  match level with
  | 0 | 1 | 2 | 3 => decide
  | _ + 4 => simp

/-- The page of size `n` in which an address lies. -/
theorem page_covers (va : Nat) {n : Nat} (hn : 0 < n) : va / n * n ≤ va ∧ va < va / n * n + n := by
  have h := Nat.div_add_mod va n
  have hlt := Nat.mod_lt va hn
  rw [Nat.mul_comm] at h
  omega

/-- A walk that finds a leaf finds the one of the address (R254, R265). -/
theorem Pkg.walkFrom_covers {root va fuel level table : Nat} {k : Pkg} {l : Leaf} (h : (k.walkFrom root va fuel level table).2 = .ok l) :
    l.covers root va := by
  induction fuel generalizing k level table with
  | zero => simp [Pkg.walkFrom] at h
  | succ fuel ih =>
    unfold Pkg.walkFrom at h
    split at h
    · cases h
    · split at h
      · cases h
      · next j b _ =>
        split at h
        · cases h
        · cases h
        · next a _ =>
          split at h
          · cases h
          · dsimp only at h
            split at h
            · next hsub =>
              obtain rfl := Except.ok.inj h
              exact ih hsub
            · cases h
        · next base perm _ =>
          split at h
          · dsimp only at h
            split at h
            · cases h
            · cases h
            · split at h
              · obtain rfl := Except.ok.inj h
                exact ⟨rfl, page_covers va (by decide)⟩
              · cases h
          · obtain rfl := Except.ok.inj h
            exact ⟨rfl, page_covers va (levelCover_pos level)⟩

theorem Pkg.walk_covers {k : Pkg} {root va : Nat} {l : Leaf} (h : (k.walk root va).2 = .ok l) : l.covers root va := by
  unfold Pkg.walk at h
  dsimp only at h
  split at h
  · cases h
  · exact Pkg.walkFrom_covers h

/-- The cached leaf of an address. -/
def Pkg.cachedLeaf (k : Pkg) (root va : Nat) : Option Leaf :=
  k.xlt.leaves.find? (fun l => l.root == root && decide (l.va ≤ va) && decide (va < l.va + l.size))

theorem Pkg.cachedLeaf_covers {k : Pkg} {root va : Nat} {l : Leaf} (h : k.cachedLeaf root va = some l) : l.covers root va := by
  have hp := List.find?_some h
  simp only [Bool.and_eq_true, beq_iff_eq, decide_eq_true_eq] at hp
  exact ⟨hp.1.1, hp.1.2, hp.2⟩

/-- The leaf of an address: the cached one, which becomes the newest, or the one a walk finds (R261, R265). -/
def Pkg.findLeaf (k : Pkg) (root va : Nat) : Pkg × Except WalkFault Leaf :=
  match k.cachedLeaf root va with
  | some l => (({ k with xlt := { k.xlt with leaves := l :: k.xlt.leaves.erase l } } : Pkg).addWrap (F.XLT_STATS 0) 1, .ok l)
  | none => (k.addWrap (F.XLT_STATS 1) 1).walk root va

theorem Pkg.findLeaf_frame (k : Pkg) (root va : Nat) : XltOnly k (k.findLeaf root va).1 := by
  unfold Pkg.findLeaf
  split
  · exact (XltOnly.ofXlt k _).trans (.addWrap _ _ _ (by decide))
  · exact (XltOnly.addWrap k (F.XLT_STATS 1) 1 (by decide)).trans (Pkg.walk_frame _ root va)

theorem Pkg.findLeaf_covers {k : Pkg} {root va : Nat} {l : Leaf} (h : (k.findLeaf root va).2 = .ok l) : l.covers root va := by
  unfold Pkg.findLeaf at h
  split at h
  · next l' hcached =>
    obtain rfl := Except.ok.inj h
    exact Pkg.cachedLeaf_covers hcached
  · exact Pkg.walk_covers h

/-- A leaf that a walk found enters the cache (R268). -/
def Pkg.keepLeaf (k j : Pkg) (root va : Nat) (l : Leaf) : Pkg :=
  if (k.cachedLeaf root va).isSome then j else { j with xlt := j.xlt.addLeaf l }

theorem Pkg.keepLeaf_frame (k j : Pkg) (root va : Nat) (l : Leaf) : XltOnly j (k.keepLeaf j root va l) := .ite (.refl j) (.ofXlt j _)

/-- A fault leaves the caches without what its walk found (R268). -/
def Pkg.leafFault (k j : Pkg) (st root va : Nat) (l : Leaf) (r : Requester) (a : Access4) : Pkg × Bad :=
  (if (k.cachedLeaf root va).isSome then j else { j with xlt := k.xlt }).faulted st root l.level va r a

theorem Pkg.leafFault_frame (k j : Pkg) (st root va : Nat) (l : Leaf) (r : Requester) (a : Access4) :
    XltOnly j (k.leafFault j st root va l r a).1 :=
  (XltOnly.ite (.refl j) (.ofXlt j _)).trans (Pkg.faulted_frame _ st root l.level va r a)

/-- Requests through a window (Table 6-4). -/
def Requester.ofWindow : Requester → Bool
  | .window _ => true
  | .ownWindow _ => true
  | _ => false

/-- What a leaf answers: a fault, HBM, or a core's store, where the map, a reset or a substitution may stop the access. -/
def Pkg.answerLeaf (k j : Pkg) (root va : Nat) (r : Requester) (a : Access4) (l : Leaf) : Pkg × Except Bad (Spot × Nat) :=
  let fault (j : Pkg) (st : Nat) : Pkg × Except Bad (Spot × Nat) := ((k.leafFault j st root va l r a).1, .error (k.leafFault j st root va l r a).2)
  match j.place (l.base + (va - l.va)) with
  | none => fault j 0x5203
  | some p =>
    if !j.leafAllows l r a p then fault j 0x5202
    else
      let i := k.keepLeaf j root va l
      let left := l.va + l.size - va
      match p with
      | .hbm x => (i, .ok (.hbm x, left))
      | .physical c o => (i, .ok (.ls c o, left))
      | .logical n o =>
        match i.physOf n with
        | some c =>
          if r.ofWindow && i.coreDown.contains c then (i.inc (F.RST_COUNTS 6), .error { status := 0x2001, info := va })
          else if r.ofWindow && i.repair.substs.any (fun (q : Subst) => q.copying && q.logical == n) then
            (i.inc (F.GLB_REPAIR_COUNTS 3), .error { status := 0x1101, info := va })
          else (i, .ok (.ls c o, left))
        | none => fault i 0x8201

theorem Pkg.translate_eq (k : Pkg) (root va : Nat) (r : Requester) (a : Access4) : k.translate root va r a =
    match (k.findLeaf root va).2 with
    | .error w => (((k.findLeaf root va).1.faulted w.status root w.level va r a).1, .error ((k.findLeaf root va).1.faulted w.status root w.level va r a).2)
    | .ok l => k.answerLeaf (k.findLeaf root va).1 root va r a l := by
  rfl

theorem Pkg.answerLeaf_frame (k j : Pkg) (root va : Nat) (r : Requester) (a : Access4) (l : Leaf) :
    XltOnly j (k.answerLeaf j root va r a l).1 := by
  have hkeep := k.keepLeaf_frame j root va l
  unfold Pkg.answerLeaf
  dsimp only
  split
  · exact k.leafFault_frame j 0x5203 root va l r a
  · split
    · exact k.leafFault_frame j 0x5202 root va l r a
    · split
      · exact hkeep
      · exact hkeep
      · split
        · split
          · exact hkeep.trans (.inc _ _ (by decide))
          · split
            · exact hkeep.trans (.inc _ _ (by decide))
            · exact hkeep
        · exact hkeep.trans (k.leafFault_frame _ 0x8201 root va l r a)

theorem Pkg.translate_frame (k : Pkg) (root va : Nat) (r : Requester) (a : Access4) : XltOnly k (k.translate root va r a).1 := by
  rw [Pkg.translate_eq]
  split
  · exact (k.findLeaf_frame root va).trans (Pkg.faulted_frame _ _ root _ va r a)
  · exact (k.findLeaf_frame root va).trans (k.answerLeaf_frame _ root va r a _)

theorem Pkg.xlate_frame (k : Pkg) (root va : Nat) (r : Requester) (a : Access4) : XltOnly k (k.xlate root va r a).1 := by
  unfold Pkg.xlate
  split
  · exact k.faulted_frame 0x5201 root 3 va r a
  · exact k.translate_frame root va r a

/-- An answer in HBM is what the leaf names, which lets the access there (R262). -/
theorem Pkg.answerLeaf_hbm {k j : Pkg} {root va x left : Nat} {r : Requester} {a : Access4} {l : Leaf}
    (h : (k.answerLeaf j root va r a l).2 = .ok (.hbm x, left)) :
    j.place (l.base + (va - l.va)) = some (.hbm x) ∧ j.leafAllows l r a (.hbm x) = true ∧ left = l.va + l.size - va ∧
      (k.answerLeaf j root va r a l).1 = k.keepLeaf j root va l := by
  unfold Pkg.answerLeaf at h ⊢
  cases hplace : j.place (l.base + (va - l.va)) with
  | none => simp [hplace] at h
  | some p =>
    simp only [hplace] at h ⊢
    cases hallows : j.leafAllows l r a p with
    | false => simp [hallows] at h
    | true =>
      simp only [hallows, Bool.not_true, Bool.false_eq_true, if_false] at h ⊢
      cases p with
      | hbm y =>
        simp only [Except.ok.injEq, Prod.mk.injEq, Spot.hbm.injEq] at h
        obtain ⟨rfl, rfl⟩ := h
        exact ⟨rfl, hallows, rfl, rfl⟩
      | physical c o => simp at h
      | logical n o =>
        dsimp only at h
        split at h
        · split at h
          · cases h
          · split at h
            · cases h
            · simp at h
        · cases h

/-- A translation to HBM goes through a leaf of the address, which is in the cache afterwards. -/
theorem Pkg.xlate_hbm {k : Pkg} {root va x left : Nat} {r : Requester} {a : Access4} (h : (k.xlate root va r a).2 = .ok (.hbm x, left)) :
    ∃ j l, XltOnly k j ∧ l.covers root va ∧ j.place (l.base + (va - l.va)) = some (.hbm x) ∧ j.leafAllows l r a (.hbm x) = true ∧
      left = l.va + l.size - va ∧ (k.findLeaf root va).2 = .ok l ∧ (k.findLeaf root va).1 = j ∧ (k.xlate root va r a).1 = k.keepLeaf j root va l := by
  unfold Pkg.xlate at h ⊢
  split
  · next hva => rw [if_pos hva] at h; cases h
  · next hva =>
    rw [if_neg hva] at h
    rw [Pkg.translate_eq] at h ⊢
    cases hfind : (k.findLeaf root va).2 with
    | error w => rw [hfind] at h; cases h
    | ok l =>
      simp only [hfind] at h ⊢
      obtain ⟨hplace, hallows, hleft, hout⟩ := Pkg.answerLeaf_hbm h
      exact ⟨_, l, k.findLeaf_frame root va, Pkg.findLeaf_covers hfind, hplace, hallows, hleft, rfl, rfl, hout⟩

/-- A place in HBM is the address itself (Table 6-1). -/
theorem Pkg.place_hbm {k : Pkg} {a x : Nat} (h : k.place a = some (.hbm x)) : x = a := by
  unfold Pkg.place at h
  dsimp only at h
  split at h
  · simpa using h.symm
  · split at h
    · split at h <;> simp at h
    · split at h
      · split at h <;> simp at h
      · simp at h

/-- The allotment bounds a leaf that lets an access to HBM (R252, R261). -/
theorem Pkg.inAllotment_of_allows {k : Pkg} {l : Leaf} {r : Requester} {a : Access4} {x : Nat} (h : k.leafAllows l r a (.hbm x) = true) :
    k.inAllotment l.root l.base l.size = true := by
  simp only [Pkg.leafAllows, Bool.and_eq_true] at h
  exact h.2

/-- R252, R261: a partition's translation to HBM stays within its allotment. -/
theorem Pkg.xlate_inside {k : Pkg} {root va y left : Nat} {r : Requester} {a : Access4} (hroot : root < 4)
    (h : (k.xlate root va r a).2 = .ok (.hbm y, left)) :
    k.getF (F.XLT_HBM_BASE root) * 2 ^ 30 ≤ y ∧
      y + left ≤ k.getF (F.XLT_HBM_BASE root) * 2 ^ 30 + k.getF (F.XLT_HBM_LEN root) * 2 ^ 30 := by
  obtain ⟨j, l, hframe, ⟨hlroot, hlo, hhi⟩, hplace, hallows, hleft, -⟩ := Pkg.xlate_hbm h
  have hin := Pkg.inAllotment_of_allows hallows
  simp only [Pkg.inAllotment, Pkg.allotment, hlroot, if_pos hroot, Bool.and_eq_true, decide_eq_true_eq, hframe.hbmBase hroot,
    hframe.hbmLen hroot] at hin
  have hy := Pkg.place_hbm hplace
  omega

/-- A leaf of an address, cached, leaves the address no longer uncached. -/
theorem Pkg.uncached_eq_false {k : Pkg} {root va : Nat} {l : Leaf} (hl : l.covers root va) (hmem : l ∈ k.xlt.leaves) : k.uncached root va = false := by
  obtain ⟨hroot, hlo, hhi⟩ := hl
  unfold Pkg.uncached
  rw [List.all_eq_false]
  exact ⟨l, hmem, by simp [hroot, hlo, hhi]⟩

theorem Pkg.uncached_iff (k : Pkg) (root va : Nat) : k.uncached root va = true ↔ k.cachedLeaf root va = none := by
  simp only [Pkg.uncached, Pkg.cachedLeaf, List.all_eq_true, List.find?_eq_none, Bool.not_eq_true', Bool.not_eq_true]

/-- The leaf that answers an access is in the cache afterwards (R268). -/
theorem Pkg.mem_leaves_of_findLeaf {k : Pkg} {root va : Nat} {l : Leaf} (h : (k.findLeaf root va).2 = .ok l) :
    l ∈ (k.keepLeaf (k.findLeaf root va).1 root va l).xlt.leaves := by
  unfold Pkg.findLeaf at h ⊢
  unfold Pkg.keepLeaf
  cases hcached : k.cachedLeaf root va with
  | some l' =>
    simp only [hcached] at h ⊢
    obtain rfl := Except.ok.inj h
    simp [Pkg.addWrap]
  | none =>
    simp only [Option.isSome_none, Bool.false_eq_true, if_false]
    simp [Xlt.addLeaf]

theorem Pkg.xlate_caches {k : Pkg} {root va x left : Nat} {r : Requester} {a : Access4} (h : (k.xlate root va r a).2 = .ok (.hbm x, left)) :
    (k.xlate root va r a).1.uncached root va = false := by
  obtain ⟨j, l, -, hcovers, -, -, -, hfind, rfl, hout⟩ := Pkg.xlate_hbm h
  rw [hout]
  exact Pkg.uncached_eq_false hcovers (Pkg.mem_leaves_of_findLeaf hfind)

/-- What `maps` says: the access lies in one page, which translates to good HBM. -/
theorem Pkg.maps_iff {k : Pkg} {root va n x : Nat} {r : Requester} {a : Access4} : k.maps root va n r a x = true ↔
    ∃ left, (k.xlate root va r a).2 = .ok (.hbm x, left) ∧ n ≤ left ∧ k.unitsGood x n = true := by
  unfold Pkg.maps
  constructor
  · intro h
    split at h
    · next y left heq =>
      simp only [Bool.and_eq_true, beq_iff_eq, decide_eq_true_eq] at h
      obtain ⟨⟨rfl, hleft⟩, hgood⟩ := h
      exact ⟨left, heq, hleft, hgood⟩
    · cases h
  · rintro ⟨left, heq, hleft, hgood⟩
    simp [heq, hleft, hgood]

/-! ### Roots that are not enabled (R279–R282) -/

/-- A walk from a root that is not enabled ends NO_ROOT. -/
theorem Pkg.walk_of_disabled {k : Pkg} {root : Nat} (va : Nat) (h : k.getF (F.XLT_ROOT_EN root) = 0) :
    k.walk root va = (k, .error ⟨0x5205, 3⟩) := by
  simp [Pkg.walk, Pkg.flag, h]

theorem Pkg.xlate_of_disabled {k : Pkg} {root va : Nat} (r : Requester) (a : Access4) (hva : va < 2 ^ 56) (huncached : k.uncached root va = true)
    (hroot : root < 8) (hen : k.getF (F.XLT_ROOT_EN root) = 0) :
    k.xlate root va r a = ((k.addWrap (F.XLT_STATS 1) 1).logFault 0x5205 root 3 va r a, .error { status := 0x5205, info := va }) := by
  have hen' : (k.addWrap (F.XLT_STATS 1) 1).getF (F.XLT_ROOT_EN root) = 0 := by
    have hkept : xltKeeps (F.XLT_ROOT_EN root).off := by show xltKeeps (0x400000 + 0x8 * root); omega
    rw [(XltOnly.addWrap k (F.XLT_STATS 1) 1 (by decide)).getF _ hkept, hen]
  have hfind : k.findLeaf root va = (k.addWrap (F.XLT_STATS 1) 1, .error ⟨0x5205, 3⟩) := by
    rw [Pkg.findLeaf, (k.uncached_iff root va).mp huncached]
    exact Pkg.walk_of_disabled va hen'
  rw [Pkg.xlate, if_neg (by omega), Pkg.translate_eq, hfind]
  rfl

end Sys2Proof.Machine
end

section
/-! PROOFS. The fault log's record (R282), and translation as a whole (R252, R261–R265, R279–R282). -/

namespace Sys2Proof.Machine

/-! ### The record of a fault -/

/-- Reporting a status touches its register and the error log. -/
theorem Pkg.getF_report (k : Pkg) (f g : Fld) (st : Status) (u : UnitKind) (i x : Nat) (hg : g.off < 0x3000000) :
    (k.report f st u i x).getF g = (k.setF f st).getF g := (k.report_frame f st u i x).getF g (.inl hg)

theorem Pkg.writeFault_fields (k : Pkg) (i root level va : Nat) (r : Requester) (a : Access4) :
    (k.writeFault i root level va r a).getF (F.XLT_FR_ROOT i) = root % 2 ^ 3 ∧
    (k.writeFault i root level va r a).getF (F.XLT_FR_LEVEL i) = level % 2 ^ 3 ∧
    (k.writeFault i root level va r a).getF (F.XLT_FR_VA i) = va % 2 ^ 56 := by
  have hlevel : (F.XLT_FR_LEVEL i).apart (F.XLT_FR_ROOT i) = true := by simp [Fld.apart, F.XLT_FR_LEVEL, F.XLT_FR_ROOT]
  have haccess : (F.XLT_FR_ACCESS i).apart (F.XLT_FR_ROOT i) = true := by simp [Fld.apart, F.XLT_FR_ACCESS, F.XLT_FR_ROOT]
  have haccess' : (F.XLT_FR_ACCESS i).apart (F.XLT_FR_LEVEL i) = true := by simp [Fld.apart, F.XLT_FR_ACCESS, F.XLT_FR_LEVEL]
  have hva : (F.XLT_FR_VA i).apart (F.XLT_FR_ROOT i) = true := Fld.apart_of_off (by show 0x401000 + 0x20 * i ≠ 0x401008 + 0x20 * i; omega)
  have hva' : (F.XLT_FR_VA i).apart (F.XLT_FR_LEVEL i) = true := Fld.apart_of_off (by show 0x401000 + 0x20 * i ≠ 0x401008 + 0x20 * i; omega)
  unfold Pkg.writeFault
  refine ⟨?_, ?_, Pkg.getF_setF_same _ _ _ rfl⟩
  · rw [Pkg.getF_setF_apart _ _ _ _ hva, Pkg.getF_setF_apart _ _ _ _ haccess, Pkg.getF_setF_apart _ _ _ _ hlevel]
    exact Pkg.getF_setF_same _ _ _ rfl
  · rw [Pkg.getF_setF_apart _ _ _ _ hva', Pkg.getF_setF_apart _ _ _ _ haccess']
    exact Pkg.getF_setF_same _ _ _ rfl

/-- A record's own words are those that were written before its report, with its status. -/
theorem Pkg.getF_logFault (k : Pkg) (st root level va : Nat) (r : Requester) (a : Access4) {g : Fld} (hg : 0x401000 ≤ g.off ∧ g.off < 0x402000) :
    (k.logFault st root level va r a).getF g = (((k.loseFault (k.getF F.XLT_FAULT_NEXT)).writeFault (k.getF F.XLT_FAULT_NEXT) root level va r a).setF
      (F.XLT_FR_STATUS (k.getF F.XLT_FAULT_NEXT)) st).getF g := by
  have hnext : F.XLT_FAULT_NEXT.apart g = true := Fld.apart_of_off (by show 0x400140 ≠ g.off; omega)
  have hlogged : F.XLT_FAULT_LOGGED.apart g = true := Fld.apart_of_off (by show 0x400118 ≠ g.off; omega)
  rw [Pkg.logFault_eq]
  dsimp only
  rw [Pkg.raise, Pkg.getF_setF_apart _ _ _ _ hlogged, Pkg.getF_setF_apart _ _ _ _ hnext, Pkg.getF_report _ _ _ _ _ _ _ (by omega)]

/-- A fault's record: its status, root, level and address, in the entry that was next (R282, Table 6-8). -/
theorem Pkg.logFault_fields (k : Pkg) (st root level va : Nat) (r : Requester) (a : Access4) :
    let i := k.getF F.XLT_FAULT_NEXT
    let j := k.logFault st root level va r a
    j.getF (F.XLT_FR_STATUS i) = st % 2 ^ 16 ∧ j.getF (F.XLT_FR_ROOT i) = root % 2 ^ 3 ∧ j.getF (F.XLT_FR_VA i) = va % 2 ^ 56 ∧
      j.getF (F.XLT_FR_LEVEL i) = level % 2 ^ 3 ∧ j.getF F.XLT_FAULT_NEXT = (i + 1) % 64 ∧ j.getF F.XLT_FAULT_LOGGED = 1 := by
  intro i j
  have hi : i < 64 := xltFault_lt k
  have hword : 0x401000 ≤ 0x401008 + 0x20 * i ∧ 0x401008 + 0x20 * i < 0x402000 := by omega
  have hvaword : 0x401000 ≤ 0x401000 + 0x20 * i ∧ 0x401000 + 0x20 * i < 0x402000 := by omega
  have hroot : (F.XLT_FR_STATUS i).apart (F.XLT_FR_ROOT i) = true := by simp [Fld.apart, F.XLT_FR_STATUS, F.XLT_FR_ROOT]
  have hlevel : (F.XLT_FR_STATUS i).apart (F.XLT_FR_LEVEL i) = true := by simp [Fld.apart, F.XLT_FR_STATUS, F.XLT_FR_LEVEL]
  have hva : (F.XLT_FR_STATUS i).apart (F.XLT_FR_VA i) = true := Fld.apart_of_off (by show 0x401008 + 0x20 * i ≠ 0x401000 + 0x20 * i; omega)
  obtain ⟨hrootIs, hlevelIs, hvaIs⟩ := (k.loseFault i).writeFault_fields i root level va r a
  refine ⟨?_, ?_, ?_, ?_, ?_, Pkg.getF_setF_same _ _ _ (by decide)⟩
  · exact (k.getF_logFault st root level va r a hword).trans (Pkg.getF_setF_same _ _ _ rfl)
  · exact ((k.getF_logFault st root level va r a hword).trans (Pkg.getF_setF_apart _ _ _ _ hroot)).trans hrootIs
  · exact ((k.getF_logFault st root level va r a hvaword).trans (Pkg.getF_setF_apart _ _ _ _ hva)).trans hvaIs
  · exact ((k.getF_logFault st root level va r a hword).trans (Pkg.getF_setF_apart _ _ _ _ hlevel)).trans hlevelIs
  · have hnext : j.getF F.XLT_FAULT_NEXT = (i + 1) % 64 % 2 ^ 6 :=
      (Pkg.getF_setF_apart _ _ _ _ (by decide)).trans (Pkg.getF_setF_same _ _ _ (by decide))
    omega

/-! ### Translation as a whole -/

theorem exec_walkComplete (s : State) (p : PkgId) (root : Root) (va : Nat) (r : Requester) (a : Access4) (t₀ : Nat) :
    exec (.walkComplete p root va r a t₀) s = .next (s.updPkg p (fun k => ((k.at t₀).xlate root va r a).1)) := rfl

/-- Settles O15: a walk's leaf covers the address and is cached; the allotment bounds each leaf that HBM answers; a root that is not enabled
ends the walk at once. -/
theorem translationStaysInside : Obligations.TranslationStaysInside := by
  unfold Obligations.TranslationStaysInside
  refine ⟨fun s p root va x r a t₀ hmaps => ?_, fun k root va r a y left hroot hxlate => Pkg.xlate_inside hroot hxlate,
    fun s p root va r a t₀ hva huncached hen => ?_⟩
  · obtain ⟨left, hxlate, -, -⟩ := Pkg.maps_iff.mp hmaps
    refine completes_of_updPkg (exec_walkComplete s p root va r a t₀) fun t ht => ?_
    rw [ht]
    exact ⟨Pkg.xlate_caches hxlate, (Pkg.xlate_frame _ root va r a).hbm⟩
  · refine completes_of_updPkg (exec_walkComplete s p root va r a t₀) fun t ht => ?_
    rw [ht, Pkg.xlate_of_disabled (k := (s.pkg p).at t₀) r a hva huncached (by omega) hen]
    have hnext : (((s.pkg p).at t₀).addWrap (F.XLT_STATS 1) 1).getF F.XLT_FAULT_NEXT = (s.pkg p).getF F.XLT_FAULT_NEXT :=
      Pkg.getF_setF_apart _ _ _ _ (by decide)
    have hfields := (((s.pkg p).at t₀).addWrap (F.XLT_STATS 1) 1).logFault_fields 0x5205 root 3 va r a
    rw [hnext, Nat.mod_eq_of_lt hva, Nat.mod_eq_of_lt (show root.val < 2 ^ 3 by omega)] at hfields
    exact hfields

end Sys2Proof.Machine
end

section
/-! PROOFS. Reads and writes through a translation (R246–R248, R261, R586–R589): an access within one good page reads or writes HBM at the
place its leaf names, and a partition's writes stay within its allotment. -/

namespace Sys2Proof.Machine

/-! ### Units of HBM -/

theorem Pkg.unitsGood_congr {k j : Pkg} (hstate : ∀ i, i < 8 → j.getF (F.HBM_STATE i) = k.getF (F.HBM_STATE i)) (hbad : j.hbmBad = k.hbmBad) (a n : Nat) :
    j.unitsGood a n = k.unitsGood a n := by
  unfold Pkg.unitsGood
  rw [hbad]
  congr 1
  funext u
  rw [hstate _ (hbmStack_lt _)]

theorem XltOnly.unitsGood {k j : Pkg} (h : XltOnly k j) (a n : Nat) : j.unitsGood a n = k.unitsGood a n :=
  Pkg.unitsGood_congr h.hbmState h.hbmBad a n

/-- Good units let an access pass (R247, R248). -/
theorem Pkg.hbmStop_of_good {k : Pkg} {a n : Nat} (h : k.unitsGood a n = true) {rd : List Nat} (hrd : ∀ u ∈ rd, u ∈ hbmUnits a n) :
    k.hbmStop (hbmUnits a n) rd = (k.hbmCorrect rd, none) := by
  simp only [Pkg.unitsGood, List.all_eq_true, Bool.and_eq_true, bne_iff_ne, ne_eq, Bool.not_eq_true'] at h
  have hall : (hbmUnits a n).find? (fun u => k.getF (F.HBM_STATE (hbmStack (u * 64))) == 3) = none :=
    List.find?_eq_none.mpr fun u hu => by simpa using (h u hu).1
  have hread : rd.find? (fun u => k.hbmBad.contains u) = none :=
    List.find?_eq_none.mpr fun u hu => by
    rw [(h u (hrd u hu)).2]
    exact Bool.false_ne_true
  unfold Pkg.hbmStop
  rw [hall, hread]

theorem Pkg.hbmRead_of_good {k : Pkg} {a n : Nat} (h : k.unitsGood a n = true) : (k.hbmRead a n).2 = .ok (Memory.readBytes k.hbm a n) := by
  have hstop := Pkg.hbmStop_of_good h (fun u hu => hu)
  rw [hbmRead_good _ _ _ _ hstop]
  have hframe := k.hbmStop_frame (hbmUnits a n) (hbmUnits a n)
  rw [hstop] at hframe
  rw [hframe.hbm]

/-- `j` is `k` after bytes were written to HBM, beside what an access changes. -/
def Pkg.Wrote (k : Pkg) (x : Nat) (bs : Bytes) (j : Pkg) : Prop :=
  ∃ bad, XltOnly { k with hbm := Memory.writeBytes k.hbm x bs, hbmBad := bad } j

theorem Pkg.Wrote.trans {k j l : Pkg} {x : Nat} {bs : Bytes} (h : k.Wrote x bs j) (g : XltOnly j l) : k.Wrote x bs l := by
  obtain ⟨bad, h⟩ := h
  exact ⟨bad, h.trans g⟩

theorem Pkg.Wrote.after {k j l : Pkg} {x : Nat} {bs : Bytes} (g : XltOnly k j) (h : j.Wrote x bs l) : k.Wrote x bs l := by
  obtain ⟨bad, h⟩ := h
  obtain ⟨⟨r, y, ce, n, w, rfl⟩, hc⟩ := g
  exact ⟨bad, .trans ⟨⟨r, y, ce, n, w, rfl⟩, hc⟩ h⟩

theorem Pkg.Wrote.hbm {k j : Pkg} {x : Nat} {bs : Bytes} (h : k.Wrote x bs j) : j.hbm = Memory.writeBytes k.hbm x bs := by
  obtain ⟨bad, h⟩ := h
  exact h.hbm

/-- A byte after a write: the new one within the range, the old one elsewhere. -/
theorem Pkg.Wrote.read {k j : Pkg} {x : Nat} {bs : Bytes} (h : k.Wrote x bs j) (a : Nat) :
    j.hbm.read a = if x ≤ a ∧ a < x + bs.length then bs.getD (a - x) 0 else k.hbm.read a := by
  rw [h.hbm, Memory.read_writeBytes]

theorem Pkg.Wrote.getF {k j : Pkg} {x : Nat} {bs : Bytes} (h : k.Wrote x bs j) (f : Fld) (hf : xltKeeps f.off) : j.getF f = k.getF f := by
  obtain ⟨bad, h⟩ := h
  exact h.getF f hf

theorem Pkg.Wrote.nil (k : Pkg) (x : Nat) : k.Wrote x [] k := ⟨k.hbmBad, .refl k⟩

/-- A write of HBM stops without effect, or writes its bytes (R246–R248). -/
theorem Pkg.hbmWrite_wrote (k : Pkg) (a : Nat) (bs : Bytes) :
    XltOnly k (k.hbmWrite a bs).1 ∧ (k.hbmWrite a bs).2 ≠ none ∨ k.Wrote a bs (k.hbmWrite a bs).1 ∧ (k.hbmWrite a bs).2 = none := by
  unfold Pkg.hbmWrite
  extract_lets n us whole
  have hstop := k.hbmStop_frame us (us.filter (fun u => !whole.contains u))
  split
  · next j st heq =>
    rw [heq] at hstop
    exact .inl ⟨hstop, by simp⟩
  · next j heq =>
    rw [heq] at hstop
    refine .inr ⟨?_, rfl⟩
    have hcount : XltOnly k (j.addWrap (F.HBM_BYTES 0) (64 * (us.length - whole.length))) := hstop.trans (.addWrap _ _ _ (by decide))
    exact Pkg.Wrote.after hcount (.trans ⟨j.hbmBad.filter (fun u => !whole.contains u), .ofCe _ (j.hbmCe.filter (fun u => !whole.contains u))⟩
      (.addWrap _ (F.HBM_BYTES 1) _ (by decide)))

theorem Pkg.hbmWrite_of_good {k : Pkg} {a : Nat} {bs : Bytes} (h : k.unitsGood a bs.length = true) :
    k.Wrote a bs (k.hbmWrite a bs).1 ∧ (k.hbmWrite a bs).2 = none := by
  obtain ⟨-, hsome⟩ | hwrote := k.hbmWrite_wrote a bs
  · refine absurd ?_ hsome
    unfold Pkg.hbmWrite
    dsimp only
    rw [Pkg.hbmStop_of_good h (fun u hu => (List.mem_filter.mp hu).1)]
  · exact hwrote

/-! ### Accesses within one page -/

/-- One piece of a read, and the rest. -/
theorem Pkg.xread_step {k j i : Pkg} {root va n left : Nat} {r : Requester} {a : Access4} {sp : Spot} {bs : Bytes} (fuel : Nat) (hn : n ≠ 0)
    (hx : k.xlate root va r a = (j, .ok (sp, left))) (hr : j.spotRead sp (min n left) va = (i, .ok bs)) :
    k.xread root r a (fuel + 1) va n =
      let o := (i.hbmMoved root sp (min n left)).xread root r a fuel (va + min n left) (n - min n left)
      (o.1, bs ++ o.2.1, o.2.2) := by
  rw [Pkg.xread, if_neg hn, hx]
  dsimp only
  rw [hr]

/-- One piece of a write, and the rest. -/
theorem Pkg.xwrite_step {k j i : Pkg} {root va left : Nat} {bs : Bytes} {r : Requester} {a : Access4} {sp : Spot} (fuel : Nat) (hbs : bs ≠ [])
    (hx : k.xlate root va r a = (j, .ok (sp, left))) (hw : j.spotWrite sp (bs.take (min bs.length left)) va = (i, none)) :
    k.xwrite root r a (fuel + 1) va bs =
      (i.hbmMoved root sp (min bs.length left)).xwrite root r a fuel (va + min bs.length left) (bs.drop (min bs.length left)) := by
  rw [Pkg.xwrite, if_neg (by simpa using hbs), hx]
  dsimp only
  rw [hw]

theorem Pkg.xread_zero (k : Pkg) (root va : Nat) (r : Requester) (a : Access4) (fuel : Nat) : k.xread root r a fuel va 0 = (k, [], none) := by
  cases fuel <;> rfl

theorem Pkg.xwrite_nil (k : Pkg) (root va : Nat) (r : Requester) (a : Access4) (fuel : Nat) : k.xwrite root r a fuel va [] = (k, none) := by
  cases fuel <;> rfl

theorem Pkg.hbmMoved_frame (k : Pkg) (root : Nat) (sp : Spot) (n : Nat) : XltOnly k (k.hbmMoved root sp n) := by
  unfold Pkg.hbmMoved
  split
  · exact .moveBytes k root n
  · exact .refl k

/-- A read that `maps` describes returns the bytes of HBM there. -/
theorem Pkg.xread_of_maps {k : Pkg} {root va n x : Nat} {r : Requester} {a : Access4} (h : k.maps root va n r a x = true) (fuel : Nat) :
    XltOnly k (k.xread root r a (fuel + 2) va n).1 ∧ (k.xread root r a (fuel + 2) va n).2 = (Memory.readBytes k.hbm x n, none) := by
  obtain ⟨left, hx, hleft, hgood⟩ := Pkg.maps_iff.mp h
  have hframe := k.xlate_frame root va r a
  rw [← hframe.unitsGood] at hgood
  have hread := Pkg.hbmRead_of_good hgood
  rw [hframe.hbm] at hread
  have hbytes := Pkg.hbmRead_frame (k.xlate root va r a).1 x n
  by_cases hn : n = 0
  · subst hn
    rw [Pkg.xread_zero]
    exact ⟨.refl k, rfl⟩
  · have hspot : (k.xlate root va r a).1.spotRead (.hbm x) (min n left) va =
        (((k.xlate root va r a).1.hbmRead x n).1, .ok (Memory.readBytes k.hbm x n)) := by
      rw [Nat.min_eq_left hleft, Pkg.spotRead, show (k.xlate root va r a).1.hbmRead x n = (_, .ok _) from Prod.ext rfl hread]
    rw [Pkg.xread_step (fuel + 1) hn (Prod.ext rfl hx) hspot, Nat.min_eq_left hleft, Nat.sub_self, Pkg.xread_zero]
    exact ⟨(hframe.trans hbytes).trans (Pkg.hbmMoved_frame _ root (.hbm x) n), congrArg (·, none) (List.append_nil _)⟩

/-- A write that `maps` describes writes its bytes in HBM there. -/
theorem Pkg.xwrite_of_maps {k : Pkg} {root va x : Nat} {bs : Bytes} {r : Requester} {a : Access4} (h : k.maps root va bs.length r a x = true)
    (fuel : Nat) : k.Wrote x bs (k.xwrite root r a (fuel + 2) va bs).1 ∧ (k.xwrite root r a (fuel + 2) va bs).2 = none := by
  obtain ⟨left, hx, hleft, hgood⟩ := Pkg.maps_iff.mp h
  have hframe := k.xlate_frame root va r a
  rw [← hframe.unitsGood] at hgood
  obtain ⟨hwrote, hnone⟩ := Pkg.hbmWrite_of_good hgood
  by_cases hbs : bs = []
  · subst hbs
    rw [Pkg.xwrite_nil]
    exact ⟨.nil k x, rfl⟩
  · have hspot : (k.xlate root va r a).1.spotWrite (.hbm x) (bs.take (min bs.length left)) va =
        (((k.xlate root va r a).1.hbmWrite x bs).1, none) := by
      rw [Nat.min_eq_left hleft, List.take_length, Pkg.spotWrite, show (k.xlate root va r a).1.hbmWrite x bs = (_, none) from Prod.ext rfl hnone]
    rw [Pkg.xwrite_step (fuel + 1) hbs (Prod.ext rfl hx) hspot, Nat.min_eq_left hleft, List.drop_length, Pkg.xwrite_nil]
    exact ⟨Pkg.Wrote.after hframe (hwrote.trans (Pkg.hbmMoved_frame _ root (.hbm x) bs.length)), rfl⟩

theorem Pkg.vread_of_maps {k : Pkg} {root va n x : Nat} {r : Requester} {a : Access4} (ha : a = match r with | .fetch _ => .fetch | _ => .read)
    (h : k.maps root va n r a x = true) :
    XltOnly k (k.vread root r va n).1 ∧ (k.vread root r va n).2 = (Memory.readBytes k.hbm x n, none) := by
  subst ha
  exact Pkg.xread_of_maps h _

theorem Pkg.vwrite_of_maps {k : Pkg} {root va x : Nat} {bs : Bytes} {r : Requester} (h : k.maps root va bs.length r .write x = true) :
    k.Wrote x bs (k.vwrite root r va bs).1 ∧ (k.vwrite root r va bs).2 = none := Pkg.xwrite_of_maps h _

/-- An access whose translation fails at its first byte moves none (R261). -/
theorem Pkg.xread_of_fault {k : Pkg} {root va n : Nat} {r : Requester} {a : Access4} {b : Bad} (hn : n ≠ 0)
    (h : (k.xlate root va r a).2 = .error b) (fuel : Nat) :
    XltOnly k (k.xread root r a (fuel + 1) va n).1 ∧ (k.xread root r a (fuel + 1) va n).2 = ([], some b) := by
  rw [Pkg.xread, if_neg hn, show k.xlate root va r a = (_, .error b) from Prod.ext rfl h]
  exact ⟨k.xlate_frame root va r a, rfl⟩

theorem Pkg.xwrite_of_fault {k : Pkg} {root va : Nat} {bs : Bytes} {r : Requester} {a : Access4} {b : Bad} (hbs : bs ≠ [])
    (h : (k.xlate root va r a).2 = .error b) (fuel : Nat) :
    XltOnly k (k.xwrite root r a (fuel + 1) va bs).1 ∧ (k.xwrite root r a (fuel + 1) va bs).2 = some b := by
  rw [Pkg.xwrite, if_neg (by simpa using hbs), show k.xlate root va r a = (_, .error b) from Prod.ext rfl h]
  exact ⟨k.xlate_frame root va r a, rfl⟩

/-! ### The host's accesses (R586–R589) -/

/-- A read's answer: its bytes, all ones where its translation faults, or poisoned all ones (R587). -/
def Pkg.bar2Answer (fn n : Nat) : Pkg × Bytes × Option Bad → Pkg
  | (k, bs, none) => { k.moveBytes fn n with readData := leNat bs, readPoison := false }
  | (k, _, some b) =>
    if statusSub b.status = 2 then (({ k with readData := 2 ^ (8 * n) - 1, readPoison := false } : Pkg).raise F.HIF_EV_BAR2_FAULT).inc (F.HIF_COUNTS 5)
    else { k with readData := 2 ^ (8 * n) - 1, readPoison := true }

theorem exec_bar2Read (s : State) (p : PkgId) (fn : Root) (off n t₀ : Nat) : exec (.bar2Read p fn off n t₀) s = .next (s.updPkg p (fun k =>
    Pkg.bar2Answer fn n ((k.at t₀).vread fn (.host fn) (k.getF (F.XLT_BAR2_VBASE fn) * 4096 + off) n))) := rfl

/-- The end of a write: its bytes are counted, or its fault is raised (R588). -/
def Pkg.bar2Written (fn n : Nat) : Pkg × Option Bad → Pkg
  | (k, none) => k.moveBytes fn n
  | (k, some b) => if statusSub b.status = 2 then (k.raise F.HIF_EV_BAR2_FAULT).inc (F.HIF_COUNTS 5) else k

theorem Pkg.bar2Written_hbm (fn n : Nat) (o : Pkg × Option Bad) : (Pkg.bar2Written fn n o).hbm = o.1.hbm := by
  obtain ⟨k, _ | b⟩ := o
  · rfl
  · unfold Pkg.bar2Written
    dsimp only
    split <;> rfl

theorem exec_bar2Write (s : State) (p : PkgId) (fn : Root) (off : Nat) (data : Bytes) (t₀ : Nat) :
    exec (.bar2Write p fn off data false t₀) s = .next (s.updPkg p (fun k =>
      Pkg.bar2Written fn data.length ((k.at t₀).vwrite fn (.host fn) (k.getF (F.XLT_BAR2_VBASE fn) * 4096 + off) data))) := rfl

theorem exec_bar2Write_poisoned (s : State) (p : PkgId) (fn : Root) (off : Nat) (data : Bytes) (t₀ : Nat) :
    exec (.bar2Write p fn off data true t₀) s = .next (s.updPkg p (fun k => { k.at t₀ with aerPoisoned := true })) := rfl

/-- A translation fault raises the function's event (R587, R588). -/
theorem Pkg.bar2Fault_raised (k : Pkg) : ((k.raise F.HIF_EV_BAR2_FAULT).inc (F.HIF_COUNTS 5)).getF F.HIF_EV_BAR2_FAULT = 1 :=
  (Pkg.getF_setF_apart _ _ _ _ (by decide)).trans (Pkg.getF_setF_same _ _ _ (by decide))

/-- Settles O17: a read or write within one good page goes to HBM there; one whose root is not enabled faults; a poisoned write does nothing. -/
theorem hostReachesMemory : Obligations.HostReachesMemory := by
  unfold Obligations.HostReachesMemory
  intro s p fn off t₀ k va
  have hnoRoot : ∀ a, va < 2 ^ 56 → k.uncached fn va = true → k.getF (F.XLT_ROOT_EN fn) = 0 →
      (k.xlate fn va (.host fn) a).2 = .error { status := 0x5205, info := va } := fun a hva huncached hen => by
    rw [Pkg.xlate_of_disabled (.host fn) a hva huncached (by omega) hen]
  refine ⟨fun n x hmaps => ?_, fun n hn hva huncached hen => ?_, fun data x hmaps => ?_, fun data hdata hva huncached hen => ?_, fun data => ?_⟩
  · obtain ⟨hframe, hread⟩ := Pkg.vread_of_maps rfl hmaps
    refine completes_of_updPkg (exec_bar2Read s p fn off n t₀) fun t ht => ?_
    replace ht : t.pkg p = Pkg.bar2Answer fn n (k.vread fn (.host fn) va n) := ht
    rw [ht, show (k.vread fn (.host fn) va n) = (_, _, none) from Prod.ext rfl hread]
    exact ⟨rfl, rfl, hframe.hbm⟩
  · obtain ⟨-, hread⟩ := Pkg.xread_of_fault (Nat.ne_of_gt hn) (hnoRoot .read hva huncached hen) (n / 4096 + 1)
    refine completes_of_updPkg (exec_bar2Read s p fn off n t₀) fun t ht => ?_
    replace ht : t.pkg p = Pkg.bar2Answer fn n (k.vread fn (.host fn) va n) := ht
    rw [ht, show (k.vread fn (.host fn) va n) = (_, _, some _) from Prod.ext rfl hread, Pkg.bar2Answer, if_pos (by exact (rfl : statusSub 0x5205 = 2))]
    exact ⟨rfl, rfl, Pkg.bar2Fault_raised _⟩
  · obtain ⟨hwrote, -⟩ := Pkg.vwrite_of_maps hmaps
    refine completes_of_updPkg (exec_bar2Write s p fn off data t₀) fun t ht a => ?_
    rw [ht, Pkg.bar2Written_hbm]
    exact hwrote.read a
  · obtain ⟨hframe, hwrite⟩ := Pkg.xwrite_of_fault hdata (hnoRoot .write hva huncached hen) (data.length / 4096 + 1)
    refine completes_of_updPkg (exec_bar2Write s p fn off data t₀) fun t ht => ?_
    replace ht : t.pkg p = Pkg.bar2Written fn data.length (k.vwrite fn (.host fn) va data) := ht
    rw [ht, show (k.vwrite fn (.host fn) va data) = (_, some _) from Prod.ext rfl hwrite]
    rw [Pkg.bar2Written, if_pos (by exact (rfl : statusSub 0x5205 = 2))]
    exact ⟨hframe.hbm, Pkg.bar2Fault_raised _⟩
  · exact completes_of_updPkg (exec_bar2Write_poisoned s p fn off data t₀) fun t ht => by rw [ht]; exact ⟨rfl, rfl⟩

/-! ### Writes stay within the allotment (R252, R261) -/

/-- `j` keeps byte `a` of HBM, and the allotment of `root`. -/
structure Pkg.KeepsByte (root a : Nat) (k j : Pkg) : Prop where
  byte : j.hbm.read a = k.hbm.read a
  base : j.getF (F.XLT_HBM_BASE root) = k.getF (F.XLT_HBM_BASE root)
  len : j.getF (F.XLT_HBM_LEN root) = k.getF (F.XLT_HBM_LEN root)

theorem Pkg.KeepsByte.trans {root a : Nat} {k j l : Pkg} (h : KeepsByte root a k j) (g : KeepsByte root a j l) : KeepsByte root a k l :=
  ⟨g.byte.trans h.byte, g.base.trans h.base, g.len.trans h.len⟩

theorem Pkg.KeepsByte.ofXltOnly {root a : Nat} {k j : Pkg} (hroot : root < 4) (h : XltOnly k j) : KeepsByte root a k j :=
  ⟨by rw [h.hbm], h.hbmBase hroot, h.hbmLen hroot⟩

/-- The allotment of a root leaves a byte out. -/
def Pkg.byteOutside (k : Pkg) (root a : Nat) : Prop :=
  a < k.getF (F.XLT_HBM_BASE root) * 2 ^ 30 ∨ k.getF (F.XLT_HBM_BASE root) * 2 ^ 30 + k.getF (F.XLT_HBM_LEN root) * 2 ^ 30 ≤ a

theorem Pkg.KeepsByte.byteOutside {root a : Nat} {k j : Pkg} (h : KeepsByte root a k j) (g : k.byteOutside root a) : j.byteOutside root a := by
  unfold Pkg.byteOutside
  rw [h.base, h.len]
  exact g

/-- A write to the place of a translation keeps a byte outside the allotment. -/
theorem Pkg.spotWrite_keepsByte {k : Pkg} {root va left a : Nat} {sp : Spot} {bs : Bytes} (hroot : root < 4)
    (hin : ∀ y, sp = .hbm y → k.getF (F.XLT_HBM_BASE root) * 2 ^ 30 ≤ y ∧
      y + left ≤ k.getF (F.XLT_HBM_BASE root) * 2 ^ 30 + k.getF (F.XLT_HBM_LEN root) * 2 ^ 30)
    (ha : k.byteOutside root a) (hlen : bs.length ≤ left) : KeepsByte root a k (k.spotWrite sp bs va).1 := by
  cases sp with
  | ls c o => exact ⟨rfl, rfl, rfl⟩
  | hbm y =>
    have hchange : KeepsByte root a k (k.hbmWrite y bs).1 := by
      obtain ⟨hframe, -⟩ | ⟨hwrote, -⟩ := k.hbmWrite_wrote y bs
      · exact .ofXltOnly hroot hframe
      · have hkept : xltKeeps (0x400080 + 0x8 * root) := by omega
        refine ⟨?_, hwrote.getF _ hkept, hwrote.getF _ hkept⟩
        rw [hwrote.read, if_neg]
        have hy := hin y rfl
        unfold Pkg.byteOutside at ha
        omega
    unfold Pkg.spotWrite
    dsimp only
    split <;> (next heq => rw [heq] at hchange; exact hchange)

/-- R252, R261: a partition's write keeps every byte outside its allotment. -/
theorem Pkg.xwrite_keepsByte {root a : Nat} (hroot : root < 4) (r : Requester) (acc : Access4) (fuel : Nat) (k : Pkg) (va : Nat) (bs : Bytes)
    (ha : k.byteOutside root a) : KeepsByte root a k (k.xwrite root r acc fuel va bs).1 := by
  induction fuel generalizing k va bs with
  | zero => exact ⟨rfl, rfl, rfl⟩
  | succ fuel ih =>
    have hframe : KeepsByte root a k (k.xlate root va r acc).1 := .ofXltOnly hroot (k.xlate_frame root va r acc)
    have hinside := fun y left => Pkg.xlate_inside (k := k) (va := va) (y := y) (left := left) (r := r) (a := acc) hroot
    unfold Pkg.xwrite
    split
    · exact ⟨rfl, rfl, rfl⟩
    · split
      · next j b heq => rw [heq] at hframe; exact hframe
      · next j sp left heq =>
        rw [heq] at hframe hinside
        have hspot := Pkg.spotWrite_keepsByte (k := j) (root := root) (va := va) (left := left) (a := a) (sp := sp)
          (bs := bs.take (min bs.length left)) hroot (fun y hy => by rw [hframe.base, hframe.len]; exact hinside y left (by rw [hy]))
          (hframe.byteOutside ha) (by rw [List.length_take]; omega)
        dsimp only
        split
        · next heq => rw [heq] at hspot; exact hframe.trans hspot
        · next l heq =>
          rw [heq] at hspot
          have hmoved : KeepsByte root a l (l.hbmMoved root sp (min bs.length left)) := .ofXltOnly hroot (l.hbmMoved_frame _ _ _)
          have hchunk := (hframe.trans hspot).trans hmoved
          exact hchunk.trans (ih _ _ _ (hchunk.byteOutside ha))

/-- Settles O18: every chunk of the write lies in the allotment, or in a core's store. -/
theorem hostWritesStayInAllotment : Obligations.HostWritesStayInAllotment := by
  unfold Obligations.HostWritesStayInAllotment
  intro s t p n off data poisoned t₀ a hexec ha
  cases poisoned with
  | true =>
    rw [exec_bar2Write_poisoned] at hexec
    obtain rfl := Host.Outcome.next.inj hexec
    rw [State.pkg_updPkg_same]
    rfl
  | false =>
    rw [exec_bar2Write] at hexec
    obtain rfl := Host.Outcome.next.inj hexec
    rw [State.pkg_updPkg_same, Pkg.bar2Written_hbm]
    exact (Pkg.xwrite_keepsByte (k := (s.pkg p).at t₀) (by exact n.isLt) _ _ _ _ _ ha).byte

end Sys2Proof.Machine
end

section
/-! PROOFS. What a register field holds after an event, a count or an addition (R13, and the counters' rules). -/

namespace Sys2Proof.Machine

theorem Pkg.getF_raise_same (k : Pkg) (f : Fld) (h : f.fits = true) (hw : 1 ≤ f.width) : (k.raise f).getF f = 1 :=
  (Pkg.getF_setF_same k f 1 h).trans (Nat.mod_eq_of_lt (Nat.one_lt_two_pow (by omega)))

theorem Pkg.getF_raise_apart (k : Pkg) (f g : Fld) (h : f.apart g = true) : (k.raise f).getF g = k.getF g := Pkg.getF_setF_apart k f g 1 h

/-- A saturating counter after an addition. -/
theorem Pkg.getF_addSat_same (k : Pkg) (f : Fld) (n : Nat) (h : f.fits = true) :
    (k.addSat f n).getF f = min (2 ^ f.width - 1) (k.getF f + n) := by
  have hpos : 0 < 2 ^ f.width := Nat.two_pow_pos _
  exact (Pkg.getF_setF_same k f _ h).trans (Nat.mod_eq_of_lt (by omega))

theorem Pkg.getF_inc_same (k : Pkg) (f : Fld) (h : f.fits = true) : (k.inc f).getF f = min (2 ^ f.width - 1) (k.getF f + 1) :=
  k.getF_addSat_same f 1 h

theorem Pkg.getF_addSat_apart (k : Pkg) (f g : Fld) (n : Nat) (h : f.apart g = true) : (k.addSat f n).getF g = k.getF g :=
  Pkg.getF_setF_apart k f g _ h

theorem Pkg.getF_inc_apart (k : Pkg) (f g : Fld) (h : f.apart g = true) : (k.inc f).getF g = k.getF g := Pkg.getF_setF_apart k f g _ h

/-- A wrapping counter after an addition. -/
theorem Pkg.getF_addWrap_same (k : Pkg) (f : Fld) (n : Nat) (h : f.fits = true) : (k.addWrap f n).getF f = (k.getF f + n) % 2 ^ f.width :=
  Pkg.getF_setF_same k f _ h

theorem Pkg.getF_addWrap_apart (k : Pkg) (f g : Fld) (n : Nat) (h : f.apart g = true) : (k.addWrap f n).getF g = k.getF g :=
  Pkg.getF_setF_apart k f g _ h

theorem Fld.apart_iff (f g : Fld) : f.apart g = true ↔ f.off ≠ g.off ∨ f.lo + f.width ≤ g.lo ∨ g.lo + g.width ≤ f.lo := by
  simp [Fld.apart, or_assoc]

theorem Pkg.flag_iff (k : Pkg) (f : Fld) : k.flag f = true ↔ k.getF f = 1 := by simp [Pkg.flag]

theorem Pkg.flag_eq_false_iff (k : Pkg) (f : Fld) : k.flag f = false ↔ k.getF f ≠ 1 := by simp [Pkg.flag]

end Sys2Proof.Machine
end

section
/-! PROOFS. Invalidations of the translation caches (R271–R278, R584, R741). -/

namespace Sys2Proof.Machine

/-- The root that an invalidation names: a virtual function's own (R275). -/
def invRootOf (src : CsrSource) (root : Nat) : Nat := match src with | .vf f => f.val | _ => root

/-- A write that came over a virtual function. -/
def isVfSource (src : CsrSource) : Bool := match src with | .vf _ => true | _ => false

/-- An invalidation of a root that exists, with room for it, is accepted. -/
theorem Pkg.invCmd_accepted {k : Pkg} {src : CsrSource} {kind root n : Nat} (hroot : invRootOf src root < 5) (hroom : k.invPending < 64)
    (hkind : kind = 1 ∧ n ≠ 0 ∨ kind = 2 ∨ kind = 3 ∧ (src = .pf ∨ src = .i3c)) :
    k.invCmd src kind root n = k.acceptInv kind (invRootOf src root) (k.getF F.XLT_INV_VA * 4096) (n * 4096) := by
  have hkind' : kind % 4 = kind ∧ kind ≠ 0 ∧ (kind = 1 → n ≠ 0) := by
    obtain ⟨rfl, hn⟩ | rfl | ⟨rfl, -⟩ := hkind <;> simp
    exact hn
  obtain ⟨hmod, hne, hpages⟩ := hkind'
  have hvf : ¬ (kind = 3 ∧ isVfSource src = true) := by
    rintro ⟨rfl, hvf⟩
    obtain rfl | rfl : src = .pf ∨ src = .i3c := by simpa using hkind
    all_goals cases hvf
  have hbad : ¬ (5 ≤ invRootOf src root ∨ (kind = 1 ∧ n = 0)) := by
    rintro (h | ⟨h, hz⟩)
    · omega
    · exact hpages h hz
  unfold Pkg.invCmd
  dsimp only
  rw [hmod, if_neg hne]
  show (if kind = 3 ∧ isVfSource src = true then _ else if 5 ≤ invRootOf src root ∨ kind = 1 ∧ n = 0 then _ else _) = _
  rw [if_neg hvf, if_neg hbad, if_neg (by omega)]
  rfl

/-- With 64 pending, an invalidation of a root is refused (R276). -/
theorem Pkg.invCmd_full {k : Pkg} {src : CsrSource} {root : Nat} (h : 64 ≤ k.invPending) : k.invCmd src 2 root 0 = k.raise F.XLT_INV_FULL := by
  unfold Pkg.invCmd
  dsimp only
  rw [if_neg (by decide), if_neg (fun h => absurd h.1 (by decide)), if_pos h, ite_self]

theorem Pkg.getF_acceptInv_issued (k : Pkg) (kind root va n : Nat) :
    (k.acceptInv kind root va n).getF F.XLT_INV_ISSUED = (k.getF F.XLT_INV_ISSUED + 1) % 2 ^ 32 :=
  Pkg.getF_addWrap_same _ F.XLT_INV_ISSUED 1 rfl

theorem Pkg.getF_acceptInv_apart (k : Pkg) (kind root va n : Nat) {f : Fld} (hf : f.off ≠ F.XLT_INV_ISSUED.off) :
    (k.acceptInv kind root va n).getF f = k.getF f :=
  Pkg.getF_addWrap_apart { k with xlt := k.xlt.drop kind root va n } F.XLT_INV_ISSUED f 1 (Fld.apart_of_off hf.symm)

@[simp] theorem Pkg.acceptInv_xlt (k : Pkg) (kind root va n : Nat) : (k.acceptInv kind root va n).xlt = k.xlt.drop kind root va n := rfl

theorem Xlt.drop_range (x : Xlt) (root va n : Nat) : (x.drop 1 root va n).leaves =
    x.leaves.filter (fun l => !(l.root == root && decide (l.va < va + n) && decide (va < l.va + l.size))) := by
  simp [Xlt.drop, Bool.and_assoc]

theorem Xlt.drop_root (x : Xlt) (root va n : Nat) :
    (x.drop 2 root va n).leaves = x.leaves.filter (fun l => l.root != root) ∧
      (x.drop 2 root va n).tables = x.tables.filter (fun t => t.root != root) := by
  simp [Xlt.drop, bne]

theorem Xlt.drop_all (x : Xlt) (root va n : Nat) : x.drop 3 root va n = { leaves := [], tables := [] } := by
  simp [Xlt.drop]

/-- A write of a root with room for its invalidation (R278). -/
theorem Pkg.writeRoot_accepted {k : Pkg} {root : Nat} (data : Nat) (hroom : k.invPending < 64) :
    k.writeRoot root data = ((k.setF (F.XLT_ROOT_ADDR root) (bits data 45 20)).setF (F.XLT_ROOT_EN root) (data % 2)).acceptInv 2 root 0 0 := by
  unfold Pkg.writeRoot
  rw [if_neg (by omega)]

/-- The fields of a written root, the ticket taken, and what is cached afterwards. -/
theorem Pkg.writeRoot_fields {k : Pkg} {root : Nat} (data : Nat) (hroot : root < 5) (hroom : k.invPending < 64) :
    (k.writeRoot root data).getF F.XLT_INV_ISSUED = (k.getF F.XLT_INV_ISSUED + 1) % 2 ^ 32 ∧
      (k.writeRoot root data).getF (F.XLT_ROOT_ADDR root) = bits data 45 20 ∧ (k.writeRoot root data).getF (F.XLT_ROOT_EN root) = data % 2 ∧
      (k.writeRoot root data).xlt = k.xlt.drop 2 root 0 0 := by
  have hoff : (0x400000 + 0x8 * root) ≠ F.XLT_INV_ISSUED.off := by show (0x400000 + 0x8 * root) ≠ 0x400110; omega
  have hen : (F.XLT_ROOT_EN root).apart (F.XLT_ROOT_ADDR root) = true := by simp [Fld.apart, F.XLT_ROOT_EN, F.XLT_ROOT_ADDR]
  have haddr : bits data 45 20 < 2 ^ 26 := Nat.mod_lt _ (by decide)
  rw [Pkg.writeRoot_accepted data hroom]
  refine ⟨?_, ?_, ?_, rfl⟩
  · rw [Pkg.getF_acceptInv_issued, Pkg.getF_setF_apart _ _ _ _ (Fld.apart_of_off hoff), Pkg.getF_setF_apart _ _ _ _ (Fld.apart_of_off hoff)]
  · rw [Pkg.getF_acceptInv_apart _ _ _ _ _ hoff, Pkg.getF_setF_apart _ _ _ _ hen, Pkg.getF_setF_same _ _ _ rfl]
    exact Nat.mod_eq_of_lt haddr
  · rw [Pkg.getF_acceptInv_apart _ _ _ _ _ hoff, Pkg.getF_setF_same _ _ _ rfl]
    exact Nat.mod_mod data 2

theorem exec_invRange (s : State) (p : PkgId) (src : CsrSource) (root n : Nat) :
    exec (.invRange p src root n) s = .next (s.updPkg p (fun k => k.invCmd src 1 (root % 8) (n % 2 ^ 32))) := rfl

theorem exec_invRoot (s : State) (p : PkgId) (src : CsrSource) (root : Nat) :
    exec (.invRoot p src root) s = .next (s.updPkg p (fun k => k.invCmd src 2 (root % 8) 0)) := rfl

theorem exec_invAll (s : State) (p : PkgId) (src : CsrSource) (root : Nat) :
    exec (.invAll p src root) s = .next (s.updPkg p (fun k => k.invCmd src 3 (root % 8) 0)) := rfl

theorem exec_invComplete (s : State) (p : PkgId) :
    exec (.invComplete p) s = .next (s.updPkg p (fun k => if k.invPending = 0 then k else k.addWrap F.XLT_INV_DONE 1)) := rfl

theorem exec_xltRootWrite {s : State} {p : PkgId} {src : CsrSource} {r : Root} (data : Nat)
    (h : src = .pf ∨ src = .i3c ∨ ∃ n : Fin 4, src = .vf n ∧ n.val = r.val) :
    exec (.xltRootWrite p src r data) s = .next (s.updPkg p (fun k => k.writeRoot r data)) := by
  obtain rfl | rfl | ⟨n, rfl, hn⟩ := h
  · rfl
  · rfl
  · show Host.Outcome.next (s.updPkg p (fun k => if n.val = r.val then _ else _)) = _
    simp only [if_pos hn]

/-- A cached leaf in error is dropped and counted (R741). -/
theorem exec_cacheEntryError (s : State) (p : PkgId) (i : Nat) : exec (.cacheEntryError p true i) s = .next (s.updPkg p (fun k =>
    if !decide (i < k.xlt.leaves.length) then k
    else ({ k with xlt := { k.xlt with leaves := k.xlt.leaves.eraseIdx i } } : Pkg).inc (F.RST_COUNTS 7))) := rfl

/-- Settles O16: by what an accepted invalidation drops, a full queue, and a write of a root. -/
theorem invalidationsTakeTickets : Obligations.InvalidationsTakeTickets := by
  unfold Obligations.InvalidationsTakeTickets
  intro s p src root k rt taken
  have hrt : rt = invRootOf src (root % 8) := rfl
  refine ⟨fun n hroot hn hlt hroom => ?_, fun hroot hroom => ?_, fun hroot hroom hsrc => ?_, fun hfull => ?_, fun hpending => ?_,
    fun r data hsrc hroom => ?_, fun i hi => ?_⟩
  · refine completes_of_updPkg (exec_invRange s p src root n) fun t ht => ?_
    rw [Nat.mod_eq_of_lt hlt, Pkg.invCmd_accepted hroot hroom (by omega)] at ht
    simp only [taken, ht]
    exact ⟨Pkg.getF_acceptInv_issued _ _ _ _ _, Xlt.drop_range _ _ _ _⟩
  · refine completes_of_updPkg (exec_invRoot s p src root) fun t ht => ?_
    rw [Pkg.invCmd_accepted hroot hroom (by omega)] at ht
    simp only [taken, ht]
    exact ⟨Pkg.getF_acceptInv_issued _ _ _ _ _, Xlt.drop_root _ _ _ _⟩
  · refine completes_of_updPkg (exec_invAll s p src root) fun t ht => ?_
    rw [Pkg.invCmd_accepted hroot hroom (.inr (.inr ⟨rfl, hsrc⟩))] at ht
    simp only [taken, ht, Pkg.acceptInv_xlt, Xlt.drop_all]
    exact ⟨Pkg.getF_acceptInv_issued _ _ _ _ _, trivial, trivial⟩
  · refine completes_of_updPkg (exec_invRoot s p src root) fun t ht => ?_
    rw [Pkg.invCmd_full hfull] at ht
    rw [ht]
    exact ⟨Pkg.getF_raise_same _ F.XLT_INV_FULL rfl (by decide), rfl, Pkg.getF_setF_apart _ _ _ _ (by decide)⟩
  · refine completes_of_updPkg (exec_invComplete s p) fun t ht => ?_
    rw [if_neg hpending] at ht
    rw [ht]
    exact Pkg.getF_addWrap_same _ F.XLT_INV_DONE 1 rfl
  · refine completes_of_updPkg (exec_xltRootWrite data hsrc) fun t ht => ?_
    obtain ⟨hissued, haddr, hen, hxlt⟩ := Pkg.writeRoot_fields (k := k) data r.isLt hroom
    obtain ⟨hleaves, htables⟩ := Xlt.drop_root k.xlt r 0 0
    simp only [taken, ht]
    refine ⟨hissued, haddr, hen, ?_, ?_⟩
    · rw [hxlt, hleaves]
      intro l hl
      simpa using (List.mem_filter.mp hl).2
    · rw [hxlt, htables]
      intro x hx
      simpa using (List.mem_filter.mp hx).2
  · refine completes_of_updPkg (exec_cacheEntryError s p i) fun t ht => ?_
    rw [if_neg (by simpa using hi)] at ht
    rw [ht]
    exact ⟨rfl, rfl, Pkg.getF_inc_same _ (F.RST_COUNTS 7) rfl⟩

end Sys2Proof.Machine
end

section
/-! PROOFS. Ports on their way to UP (R384–R407, R436) and their lanes in service (R408–R414). -/

namespace Sys2Proof.Machine

/-! ### Entering UP and MISWIRED -/

/-- Entering UP changes the state and the time of the port, and nothing else. -/
theorem Pkg.enterPort_up (k : Pkg) (n : Nat) :
    k.enterPort n 5 = (k.setF (F.LNK_ST n) 5).setLport n { (k.setF (F.LNK_ST n) 5).lport n with entered := k.now } := by
  simp only [Pkg.enterPort, ne_eq, not_true_eq_false, and_false, if_false, if_true]
  rfl

/-- What entering UP writes into the registers of port `n`, before its link returns to the map. -/
def Pkg.markUp (k : Pkg) (n : Nat) : Pkg := ((k.setF (F.LNK_ST n) 5).setF (F.LNK_RETRAINING n) 0).raise (F.LNK_EV_UP n)

/-- Of the ports' registers, entering UP changes those of `markUp` and the mapped-out flag. -/
theorem Pkg.enterUp_linkRegs (k : Pkg) {n : Nat} (hn : n < 20) :
    CellsKept linkRegs (k.markUp n) (k.enterUp n) ∨ CellsKept linkRegs ((k.markUp n).setF (F.LNK_MAPPED_OUT n) 0) (k.enterUp n) := by
  have hup : linkRegs (F.LNK_ST n).off := by simp only [F.LNK_ST]; omega
  have hretraining : linkRegs (F.LNK_RETRAINING n).off := by simp only [F.LNK_RETRAINING]; omega
  have hevent : linkRegs (F.LNK_EV_UP n).off := by simp only [F.LNK_EV_UP]; omega
  have hmapped : linkRegs (F.LNK_MAPPED_OUT n).off := by simp only [F.LNK_MAPPED_OUT]; omega
  have hentered : CellsKept linkRegs (k.setF (F.LNK_ST n) 5) ((k.clearPort n).enterPort n 5) := by
    rw [Pkg.enterPort_up]
    exact ((Pkg.clearPort_frame k hn).linkRegs.setF_congr _ _ hup).trans (.ofRegs rfl)
  have hmarked : CellsKept linkRegs (k.markUp n) ((((k.clearPort n).enterPort n 5).setF (F.LNK_RETRAINING n) 0).raise (F.LNK_EV_UP n)) :=
    (hentered.setF_congr (F.LNK_RETRAINING n) 0 hretraining).setF_congr (F.LNK_EV_UP n) 1 hevent
  have hreturn : ∀ j, CellsKept linkRegs (k.markUp n) j →
      CellsKept linkRegs ((k.markUp n).setF (F.LNK_MAPPED_OUT n) 0) (j.mapPort n false).judgeReady := fun j h => by
    have hmap := j.mapPort_linkRegs n false
    rw [if_neg Bool.false_ne_true] at hmap
    exact ((h.setF_congr _ 0 hmapped).trans hmap).trans (Pkg.judgeReady_linkRegs _)
  unfold Pkg.enterUp
  extract_lets k₁ k₂ k₃ l k₄
  have h₄ : CellsKept linkRegs (k.markUp n) k₄ := CellsKept.trans (j := k₃) hmarked (Pkg.setLport_kept k₃ n _)
  split
  · exact .inl (h₄.trans (Pkg.judgeReady_linkRegs _))
  · exact .inr (hreturn k₄ h₄)

/-- The port's other fields keep their value when it enters UP. -/
theorem Pkg.enterUp_other (k : Pkg) {n : Nat} (hn : n < 20) {f : Fld} (hf : linkRegs f.off) (hstate : (F.LNK_ST n).apart f = true)
    (hretraining : (F.LNK_RETRAINING n).apart f = true) (hevent : (F.LNK_EV_UP n).apart f = true) (hmapped : (F.LNK_MAPPED_OUT n).apart f = true) :
    (k.enterUp n).getF f = k.getF f := by
  have hmark : (k.markUp n).getF f = k.getF f := by
    unfold Pkg.markUp
    rw [Pkg.getF_raise_apart _ _ _ hevent, Pkg.getF_setF_apart _ _ _ _ hretraining, Pkg.getF_setF_apart _ _ _ _ hstate]
  obtain h | h := k.enterUp_linkRegs hn
  · rw [h.getF hf, hmark]
  · rw [h.getF hf, Pkg.getF_setF_apart _ _ _ _ hmapped, hmark]

theorem Pkg.enterUp_st (k : Pkg) {n : Nat} (hn : n < 20) : (k.enterUp n).getF (F.LNK_ST n) = 5 := by
  have hst : linkRegs (F.LNK_ST n).off := by simp only [F.LNK_ST]; omega
  have hmark : (k.markUp n).getF (F.LNK_ST n) = 5 := by
    unfold Pkg.markUp
    rw [Pkg.getF_raise_apart _ _ _ (by simp [Fld.apart, F.LNK_EV_UP, F.LNK_ST]),
      Pkg.getF_setF_apart _ _ _ _ (by simp [Fld.apart, F.LNK_RETRAINING, F.LNK_ST])]
    exact Pkg.getF_setF_same _ _ _ rfl
  obtain h | h := k.enterUp_linkRegs hn
  · rw [h.getF hst, hmark]
  · rw [h.getF hst, Pkg.getF_setF_apart _ _ _ _ (by simp [Fld.apart, F.LNK_MAPPED_OUT, F.LNK_ST]), hmark]

/-- A miswired port shows its state and its cause (R396–R399). -/
theorem Pkg.miswire_shows (k : Pkg) {n : Nat} (cause : Nat) (hn : n < 20) :
    (k.miswire n cause).getF (F.LNK_ST n) = 6 ∧ (k.miswire n cause).getF (F.LNK_MIS_CAUSE n) = cause % 2 ^ 3 := by
  unfold Pkg.miswire
  constructor
  · rw [Pkg.getF_raise_apart _ _ _ (by simp [Fld.apart, F.LNK_EV_MISWIRED, F.LNK_ST])]
    exact Pkg.enterPort_st _ hn (by decide)
  · rw [Pkg.getF_raise_apart _ _ _ (by simp [Fld.apart, F.LNK_EV_MISWIRED, F.LNK_MIS_CAUSE]),
      Pkg.enterPort_other _ hn (by decide) (f := F.LNK_MIS_CAUSE n) (by simp only [F.LNK_MIS_CAUSE]; omega) (by simp [Fld.apart, F.LNK_ST, F.LNK_MIS_CAUSE])
        (by simp [Fld.apart, F.LNK_MAPPED_OUT, F.LNK_MIS_CAUSE]) (by simp [Fld.apart, F.LNK_EV_DOWN, F.LNK_MIS_CAUSE]),
      Pkg.getF_setF_apart _ _ _ _ (by simp [Fld.apart, F.LNK_RETRAINING, F.LNK_MIS_CAUSE])]
    exact Pkg.getF_setF_same _ _ _ rfl

/-! ### Records of the lanes -/

/-- The LNK_LANE register of lane `i`. -/
abbrev laneReg (n i o : Nat) : Prop := o = 0x100020 + 0x4000 * n + 0x8 * i

/-- A lane's turn of `recordLanes`. -/
def Pkg.recordLane (k : Pkg) (n window : Nat) (errs cls : List Nat) (l : Nat) : Pkg :=
  ((k.setF (F.LNK_LN_ERRS n l) (min (2 ^ 32 - 1) (errs.getD l 0))).setF (F.LNK_LN_CLASS n l) (cls.getD l 0)).setF (F.LNK_LN_WINDOW n l) window

theorem Pkg.recordLanes_eq (k : Pkg) (n window : Nat) (errs cls : List Nat) :
    k.recordLanes n window errs cls = (List.range 5).foldl (fun k l => k.recordLane n window errs cls l) k := rfl

theorem Pkg.recordLane_kept {P : Nat → Prop} (k : Pkg) (n window : Nat) (errs cls : List Nat) (l : Nat) (hP : ∀ o, P o → ¬ laneReg n l o) :
    CellsKept P k (k.recordLane n window errs cls l) :=
  ((CellsKept.setF k (f := F.LNK_LN_ERRS n l) _ (fun h => hP _ h rfl)).thenF (f := F.LNK_LN_CLASS n l) _ (fun h => hP _ h rfl)).thenF
    (f := F.LNK_LN_WINDOW n l) _ (fun h => hP _ h rfl)

/-- Registers other than the lanes' keep their value. -/
theorem Pkg.recordLanes_kept {P : Nat → Prop} (k : Pkg) (n window : Nat) (errs cls : List Nat) (hP : ∀ o i, P o → i < 5 → ¬ laneReg n i o) :
    CellsKept P k (k.recordLanes n window errs cls) := by
  rw [Pkg.recordLanes_eq]
  exact .foldl _ (fun j i hi => j.recordLane_kept n window errs cls i (fun o ho => hP o i ho (List.mem_range.mp hi))) _

theorem Pkg.getF_recordLanes (k : Pkg) {n : Nat} (window : Nat) (errs cls : List Nat) {f : Fld} (hf : f.off < 0x100020 + 0x4000 * n ∨ 0x100048 + 0x4000 * n ≤ f.off) :
    (k.recordLanes n window errs cls).getF f = k.getF f :=
  (k.recordLanes_kept (P := fun o => o = f.off) n window errs cls (by rintro o i rfl hi; omega)).getF rfl

/-- Lane `i`'s record of a window; its role stays. -/
theorem Pkg.recordLanes_lane (k : Pkg) (n window : Nat) (errs cls : List Nat) {i : Nat} (hi : i < 5) :
    (k.recordLanes n window errs cls).getF (F.LNK_LN_ERRS n i) = min (2 ^ 32 - 1) (errs.getD i 0) ∧
      (k.recordLanes n window errs cls).getF (F.LNK_LN_CLASS n i) = cls.getD i 0 % 4 ∧
      (k.recordLanes n window errs cls).getF (F.LNK_LN_ROLE n i) = k.getF (F.LNK_LN_ROLE n i) := by
  have hother : ∀ j, ∀ y ∈ List.range 5, y ≠ i → CellsKept (laneReg n i) j (j.recordLane n window errs cls y) := by
    intro j y hy hne
    exact j.recordLane_kept n window errs cls y (by intro o ho; omega)
  obtain ⟨j, hbefore, hafter⟩ := CellsKept.foldl_turn (P := laneReg n i) hother List.nodup_range (List.mem_range.mpr hi) k
  rw [Pkg.recordLanes_eq]
  refine ⟨?_, ?_, ?_⟩
  · rw [hafter.getF (f := F.LNK_LN_ERRS n i) rfl, Pkg.recordLane, Pkg.getF_setF_apart _ _ _ _ (by simp [Fld.apart, F.LNK_LN_WINDOW, F.LNK_LN_ERRS]),
      Pkg.getF_setF_apart _ _ _ _ (by simp [Fld.apart, F.LNK_LN_CLASS, F.LNK_LN_ERRS]), Pkg.getF_setF_same _ _ _ rfl]
    show _ % 2 ^ 32 = _
    omega
  · rw [hafter.getF (f := F.LNK_LN_CLASS n i) rfl, Pkg.recordLane, Pkg.getF_setF_apart _ _ _ _ (by simp [Fld.apart, F.LNK_LN_WINDOW, F.LNK_LN_CLASS])]
    exact Pkg.getF_setF_same _ _ _ rfl
  · rw [hafter.getF (f := F.LNK_LN_ROLE n i) rfl, Pkg.recordLane, Pkg.getF_setF_apart _ _ _ _ (by simp [Fld.apart, F.LNK_LN_WINDOW, F.LNK_LN_ROLE]),
      Pkg.getF_setF_apart _ _ _ _ (by simp [Fld.apart, F.LNK_LN_CLASS, F.LNK_LN_ROLE]),
      Pkg.getF_setF_apart _ _ _ _ (by simp [Fld.apart, F.LNK_LN_ERRS, F.LNK_LN_ROLE]), hbefore.getF (f := F.LNK_LN_ROLE n i) rfl]

theorem Pkg.recordLanes_links (k : Pkg) (n window : Nat) (errs cls : List Nat) : (k.recordLanes n window errs cls).links = k.links := by
  rw [Pkg.recordLanes_eq]
  exact List.foldlRecOn (motive := fun (j : Pkg) => j.links = k.links) _ _ rfl (fun j hj i hi => hj)

/-- The roles lie in the lanes' registers, beside the classes. -/
theorem Pkg.recordRoles_class (k : Pkg) (n : Nat) (active : List Nat) (i : Nat) :
    (k.recordRoles n active).getF (F.LNK_LN_CLASS n i) = k.getF (F.LNK_LN_CLASS n i) := by
  unfold Pkg.recordRoles
  refine List.foldlRecOn (motive := fun (j : Pkg) => j.getF (F.LNK_LN_CLASS n i) = k.getF (F.LNK_LN_CLASS n i)) _ _ rfl (fun j hj l hl => ?_)
  rw [Pkg.getF_setF_apart _ _ _ _ (by simp only [Fld.apart_iff, F.LNK_LN_ROLE, F.LNK_LN_CLASS]; omega), hj]

theorem Pkg.setFlagged_kept {P : Nat → Prop} (k : Pkg) (n : Nat) (b : Bool) (hP : ∀ o, P o → o ≠ 0x100000 + 0x4000 * n ∧ o ≠ 0x100080 + 0x4000 * n) :
    CellsKept P k (k.setFlagged n b) := by
  have hflag : CellsKept P k (k.setF (F.LNK_FLAGGED n) (if b then 1 else 0)) := .setF k _ (fun h => (hP _ h).1 rfl)
  exact .ite (hflag.thenF (f := F.LNK_EV_FLAGGED n) 1 (fun h => (hP _ h).2 rfl)) hflag

theorem Pkg.setFlagged_flag (k : Pkg) (n : Nat) (b : Bool) : (k.setFlagged n b).getF (F.LNK_FLAGGED n) = if b then 1 else 0 := by
  have hset : (k.setF (F.LNK_FLAGGED n) (if b then 1 else 0)).getF (F.LNK_FLAGGED n) = if b then 1 else 0 := by
    rw [Pkg.getF_setF_same _ _ _ rfl]
    cases b <;> rfl
  unfold Pkg.setFlagged
  dsimp only
  split
  · rw [Pkg.getF_raise_apart _ _ _ (Fld.apart_of_off (by simp only [F.LNK_EV_FLAGGED, F.LNK_FLAGGED]; omega)), hset]
  · exact hset

/-- The flag is one field of the port's state register. -/
theorem Pkg.setFlagged_apart (k : Pkg) (n : Nat) (b : Bool) {f : Fld} (hflag : (F.LNK_FLAGGED n).apart f = true)
    (hevent : (F.LNK_EV_FLAGGED n).apart f = true) : (k.setFlagged n b).getF f = k.getF f := by
  unfold Pkg.setFlagged
  dsimp only
  split
  · rw [Pkg.getF_raise_apart _ _ _ hevent, Pkg.getF_setF_apart _ _ _ _ hflag]
  · exact Pkg.getF_setF_apart _ _ _ _ hflag

theorem Pkg.setFlagged_links (k : Pkg) (n : Nat) (b : Bool) : (k.setFlagged n b).links = k.links := by
  unfold Pkg.setFlagged
  dsimp only
  split <;> rfl


/-! ### Qualification (R402–R407) -/

/-- The classes of the five lanes over a window (Table 9-6). -/
def laneClasses (errs : List Nat) (clean : Nat) : List Nat := (List.range 5).map (fun i => laneClass (errs.getD i 0) clean)

theorem getD_laneClasses (errs : List Nat) (clean d : Nat) {i : Nat} (hi : i < 5) : (laneClasses errs clean).getD i d = laneClass (errs.getD i 0) clean := by
  simp [laneClasses, List.getD, hi]

theorem laneClass_of_clean {errs clean : Nat} (h : errs ≤ clean) : laneClass errs clean = 1 := if_pos h

theorem laneClasses_of_clean {errs : List Nat} {clean : Nat} (h : ∀ i, i < 5 → errs.getD i 0 ≤ clean) : laneClasses errs clean = [1, 1, 1, 1, 1] := by
  have hmap : laneClasses errs clean = (List.range 5).map (fun _ => 1) :=
    List.map_congr_left fun i hi => laneClass_of_clean (h i (List.mem_range.mp hi))
  rw [hmap]
  rfl

/-- The window of a bring-up, or of a retrain (R402, R403). -/
def Pkg.qualifyBound (k : Pkg) (n : Nat) : Nat := if (k.lport n).bringUp then 425000 else 42500

/-- A port whose lanes are all clean, and whose peer's direction passed, enters UP on lanes 0 to 3. -/
theorem Pkg.endQualify_of_clean {k : Pkg} {n : Nat} {errs : List Nat} (h : ∀ i, i < 5 → errs.getD i 0 ≤ 42500) (pa : Nat) (flagged : Bool) :
    k.endQualify n errs (some pa) flagged = (((((k.recordLanes n (if (k.lport n).bringUp then 1 else 2) errs [1, 1, 1, 1, 1]).recordRoles n
      [0, 1, 2, 3]).setF (F.LNK_RX_ACTIVE n) 15).setF (F.LNK_TX_ACTIVE n) pa).setFlagged n flagged).enterUp n := by
  have hclasses : laneClasses errs (k.qualifyBound n) = [1, 1, 1, 1, 1] := laneClasses_of_clean fun i hi => by
    have := h i hi
    unfold Pkg.qualifyBound
    split <;> omega
  unfold Pkg.endQualify
  extract_lets l clean cls k₁ active pass
  have hcls : cls = [1, 1, 1, 1, 1] := hclasses
  have hactive : active = [0, 1, 2, 3] := by
    show chooseLanes cls errs = _
    rw [hcls]
    rfl
  have hpass : pass = true := by
    show active.all _ = true
    rw [hactive, hcls]
    rfl
  have hclear : active.any (fun i => cls.getD i 3 == 2) = false := by
    rw [hactive, hcls]
    rfl
  rw [hpass]
  show ((((k₁.recordRoles n active).setF (F.LNK_RX_ACTIVE n) (laneMask active)).setF (F.LNK_TX_ACTIVE n) pa).setFlagged n
    (flagged || active.any (fun i => cls.getD i 3 == 2))).enterUp n = _
  rw [hclear, Bool.or_false, hactive, show k₁ = k.recordLanes n (if (k.lport n).bringUp then 1 else 2) errs [1, 1, 1, 1, 1] by rw [← hcls]]
  rfl

/-- A direction that does not pass ends FAILED in a retrain, and at the third attempt (R405). -/
theorem Pkg.endQualify_of_failed {k : Pkg} {n : Nat} {errs : List Nat} {flagged : Bool}
    (h : k.getF (F.LNK_RETRAINING n) = 1 ∨ 2 ≤ (k.lport n).attempts) :
    k.endQualify n errs none flagged = (k.recordLanes n (if (k.lport n).bringUp then 1 else 2) errs (laneClasses errs (k.qualifyBound n))).failPort n 2 := by
  have hkept : ∀ w cls, (k.recordLanes n w errs cls).getF (F.LNK_RETRAINING n) = k.getF (F.LNK_RETRAINING n) :=
    fun w cls => k.getF_recordLanes w errs cls (.inl (by show 0x100000 + 0x4000 * n < _; omega))
  unfold Pkg.endQualify
  extract_lets l clean cls k₁ active pass
  have hfail : (if k₁.flag (F.LNK_RETRAINING n) = true then k₁.failPort n 2
      else if 3 ≤ l.attempts + 1 then k₁.failPort n 2 else k₁.setLport n { l with attempts := l.attempts + 1, entered := k₁.now }) = k₁.failPort n 2 := by
    split
    · rfl
    · next hretrain =>
      rw [Pkg.flag_iff, hkept] at hretrain
      rw [if_pos (by have := h.resolve_left hretrain; show 3 ≤ (k.lport n).attempts + 1; omega)]
  cases pass <;> exact hfail

/-! ### The commands of a bring-up -/

theorem Pkg.linkSt_eq (k : Pkg) (n : Nat) : k.linkSt n = k.getF (F.LNK_ST n) := rfl

section Commands

variable {s : State} {p : PkgId} {port : PortId} {t₀ : Nat}

theorem lnkEnable_of_disabled (hst : (s.pkg p).linkSt port = 0) (henabled : (s.pkg p).portEnabled port = true) :
    Completes (.lnkEnable p port t₀) s (fun t => t.pkg p = ((s.pkg p).at t₀).enterDetect port) :=
  completes_of_updPkg rfl fun _ ht => ht.trans (if_pos ⟨hst, henabled⟩)

theorem signalDetect_of_waiting (hst : (s.pkg p).linkSt port = 1 ∨ (s.pkg p).linkSt port = 8) :
    Completes (.signalDetect p port t₀) s (fun t => t.pkg p = ((s.pkg p).at t₀).enterPort port 2) :=
  completes_of_updPkg rfl fun _ ht => ht.trans (if_pos hst)

theorem equalizeComplete_of_equalize (polarity order : Nat) (hst : (s.pkg p).linkSt port = 2) :
    Completes (.equalizeComplete p port polarity order t₀) s (fun t => ∃ l, t.pkg p =
      (((((s.pkg p).at t₀).setF (F.LNK_RX_POLARITY port) polarity).setF (F.LNK_RX_ORDER port) order).setLport port l).enterPort port 3) :=
  completes_of_updPkg rfl fun _ ht => ⟨_, ht.trans (if_pos hst)⟩

theorem identifyTimeout_of_late (hst : (s.pkg p).linkSt port = 3) (hlate : ((s.pkg p).lport port).entered + 200000000 ≤ max (s.pkg p).now t₀) :
    Completes (.identifyTimeout p port t₀) s (fun t => t.pkg p = ((s.pkg p).at t₀).miswire port 4) :=
  completes_of_updPkg rfl fun _ ht => ht.trans (if_pos ⟨hst, hlate⟩)

theorem qualifyWindowEnd_of_qualify (errs : List Nat) (peer : Option Nat) (flagged : Bool) (hst : (s.pkg p).linkSt port = 4) :
    Completes (.qualifyWindowEnd p port errs peer flagged t₀) s (fun t => t.pkg p = ((s.pkg p).at t₀).endQualify port errs peer flagged) :=
  completes_of_updPkg rfl fun _ ht => ht.trans (if_pos hst)

theorem lnkDisable_completes :
    Completes (.lnkDisable p port t₀) s (fun t => t.pkg p = (((s.pkg p).at t₀).clearPort port).enterPort port 0) :=
  completes_of_updPkg rfl fun _ ht => ht

theorem serviceWindowEnd_of_up (errs : List Nat) (hst : (s.pkg p).linkSt port = 5) :
    Completes (.serviceWindowEnd p port errs t₀) s (fun t => t.pkg p = ((s.pkg p).at t₀).endService port errs) :=
  completes_of_updPkg rfl fun _ ht => ht.trans (if_pos hst)

theorem spareSwitch_of_up (count : Nat) (hst : (s.pkg p).linkSt port = 5) :
    Completes (.spareSwitch p port count t₀) s (fun t => t.pkg p = ((s.pkg p).at t₀).spareSwitch port count) :=
  completes_of_updPkg rfl fun _ ht => ht.trans (if_pos hst)

end Commands

/-- A port whose lanes are all clean shows UP, its lanes and its flag. -/
theorem Pkg.endQualify_shows {k : Pkg} {n : Nat} (hn : n < 20) {errs : List Nat} (h : ∀ i, i < 5 → errs.getD i 0 ≤ 42500) (pa : Nat) (flagged : Bool) :
    let j := k.endQualify n errs (some pa) flagged
    j.getF (F.LNK_ST n) = 5 ∧ j.getF (F.LNK_RX_ACTIVE n) = 15 ∧ j.getF (F.LNK_TX_ACTIVE n) = pa % 2 ^ 5 ∧
      j.getF (F.LNK_FLAGGED n) = (if flagged then 1 else 0) ∧ ∀ i, i < 5 → j.getF (F.LNK_LN_CLASS n i) = 1 := by
  intro j
  have hj : j = _ := Pkg.endQualify_of_clean h pa flagged
  have hreg : ∀ {f : Fld}, f.off = 0x100000 + 0x4000 * n → linkRegs f.off := by intro f hf; omega
  rw [hj]
  refine ⟨Pkg.enterUp_st _ hn, ?_, ?_, ?_, fun i hi => ?_⟩
  · rw [Pkg.enterUp_other _ hn (hreg rfl) (by simp [Fld.apart, F.LNK_ST, F.LNK_RX_ACTIVE]) (by simp [Fld.apart, F.LNK_RETRAINING, F.LNK_RX_ACTIVE])
      (Fld.apart_of_off (by simp only [F.LNK_EV_UP, F.LNK_RX_ACTIVE]; omega)) (by simp [Fld.apart, F.LNK_MAPPED_OUT, F.LNK_RX_ACTIVE]),
      Pkg.setFlagged_apart _ _ _ (by simp [Fld.apart, F.LNK_FLAGGED, F.LNK_RX_ACTIVE])
        (Fld.apart_of_off (by simp only [F.LNK_EV_FLAGGED, F.LNK_RX_ACTIVE]; omega)),
      Pkg.getF_setF_apart _ _ _ _ (by simp [Fld.apart, F.LNK_TX_ACTIVE, F.LNK_RX_ACTIVE])]
    exact Pkg.getF_setF_same _ _ _ rfl
  · rw [Pkg.enterUp_other _ hn (hreg rfl) (by simp [Fld.apart, F.LNK_ST, F.LNK_TX_ACTIVE]) (by simp [Fld.apart, F.LNK_RETRAINING, F.LNK_TX_ACTIVE])
      (Fld.apart_of_off (by simp only [F.LNK_EV_UP, F.LNK_TX_ACTIVE]; omega)) (by simp [Fld.apart, F.LNK_MAPPED_OUT, F.LNK_TX_ACTIVE]),
      Pkg.setFlagged_apart _ _ _ (by simp [Fld.apart, F.LNK_FLAGGED, F.LNK_TX_ACTIVE])
        (Fld.apart_of_off (by simp only [F.LNK_EV_FLAGGED, F.LNK_TX_ACTIVE]; omega))]
    exact Pkg.getF_setF_same _ _ _ rfl
  · rw [Pkg.enterUp_other _ hn (hreg rfl) (by simp [Fld.apart, F.LNK_ST, F.LNK_FLAGGED]) (by simp [Fld.apart, F.LNK_RETRAINING, F.LNK_FLAGGED])
      (Fld.apart_of_off (by simp only [F.LNK_EV_UP, F.LNK_FLAGGED]; omega)) (by simp [Fld.apart, F.LNK_MAPPED_OUT, F.LNK_FLAGGED])]
    exact Pkg.setFlagged_flag _ _ _
  · have hoff : ∀ o, o = 0x100000 + 0x4000 * n ∨ o = 0x100080 + 0x4000 * n → o ≠ (F.LNK_LN_CLASS n i).off := by
      intro o ho
      simp only [F.LNK_LN_CLASS]
      omega
    have hstate : ∀ {f : Fld}, f.off = 0x100000 + 0x4000 * n ∨ f.off = 0x100080 + 0x4000 * n → f.apart (F.LNK_LN_CLASS n i) = true :=
      fun hf => Fld.apart_of_off (hoff _ hf)
    rw [Pkg.enterUp_other _ hn (by simp only [F.LNK_LN_CLASS]; omega) (hstate (.inl rfl)) (hstate (.inl rfl)) (hstate (.inr rfl)) (hstate (.inl rfl)),
      Pkg.setFlagged_apart _ _ _ (hstate (.inl rfl)) (hstate (.inr rfl)), Pkg.getF_setF_apart _ _ _ _ (hstate (.inl rfl)),
      Pkg.getF_setF_apart _ _ _ _ (hstate (.inl rfl)), Pkg.recordRoles_class]
    obtain ⟨-, hclass, -⟩ := k.recordLanes_lane n (if (k.lport n).bringUp then 1 else 2) errs [1, 1, 1, 1, 1] hi
    rw [hclass]
    rcases (by omega : i = 0 ∨ i = 1 ∨ i = 2 ∨ i = 3 ∨ i = 4) with rfl | rfl | rfl | rfl | rfl <;> rfl

/-- Settles O5: what each step of a bring-up enters, and what a window's end records. -/
theorem portsComeUp : Obligations.PortsComeUp := by
  unfold Obligations.PortsComeUp
  intro s p port t₀
  refine ⟨fun hst henabled => ?_, fun hst => ?_, fun polarity order hst => ?_, fun hst hlate => ?_, fun errs pa flagged hst hclean => ?_,
    fun errs flagged hst hfail => ?_, ?_⟩
  · refine (lnkEnable_of_disabled hst henabled).mono fun t ht => ?_
    rw [ht]
    exact (Pkg.enterDetect_detects _ port.isLt).1
  · refine (signalDetect_of_waiting hst).mono fun t ht => ?_
    rw [ht]
    exact Pkg.enterPort_st _ port.isLt (by decide)
  · refine (equalizeComplete_of_equalize polarity order hst).mono fun t ⟨l, ht⟩ => ?_
    rw [ht]
    refine ⟨Pkg.enterPort_st _ port.isLt (by decide), ?_, ?_⟩
    · rw [Pkg.enterPort_other _ port.isLt (by decide) (f := F.LNK_RX_POLARITY port) (by simp only [F.LNK_RX_POLARITY]; omega) (by simp [Fld.apart, F.LNK_ST, F.LNK_RX_POLARITY])
        (by simp [Fld.apart, F.LNK_MAPPED_OUT, F.LNK_RX_POLARITY])
        (Fld.apart_of_off (by simp only [F.LNK_EV_DOWN, F.LNK_RX_POLARITY]; omega)), Pkg.getF_setLport,
        Pkg.getF_setF_apart _ _ _ _ (by simp [Fld.apart, F.LNK_RX_ORDER, F.LNK_RX_POLARITY])]
      exact Pkg.getF_setF_same _ _ _ rfl
    · rw [Pkg.enterPort_other _ port.isLt (by decide) (f := F.LNK_RX_ORDER port) (by simp only [F.LNK_RX_ORDER]; omega) (by simp [Fld.apart, F.LNK_ST, F.LNK_RX_ORDER])
        (by simp [Fld.apart, F.LNK_MAPPED_OUT, F.LNK_RX_ORDER])
        (Fld.apart_of_off (by simp only [F.LNK_EV_DOWN, F.LNK_RX_ORDER]; omega)), Pkg.getF_setLport]
      exact Pkg.getF_setF_same _ _ _ rfl
  · refine (identifyTimeout_of_late hst hlate).mono fun t ht => ?_
    rw [ht]
    exact Pkg.miswire_shows _ 4 port.isLt
  · refine (qualifyWindowEnd_of_qualify errs (some pa) flagged hst).mono fun t ht => ?_
    rw [ht]
    exact Pkg.endQualify_shows port.isLt hclean pa flagged
  · refine (qualifyWindowEnd_of_qualify errs none flagged hst).mono fun t ht => ?_
    rw [ht, Pkg.endQualify_of_failed (k := (s.pkg p).at t₀) hfail]
    obtain ⟨hfailed, hcause, -⟩ := Pkg.failPort_fails (cause := 2) (((s.pkg p).at t₀).recordLanes port
      (if ((s.pkg p).lport port).bringUp then 1 else 2) errs (laneClasses errs (((s.pkg p).at t₀).qualifyBound port))) port.isLt (by decide)
      (by
        rw [Pkg.linkSt_eq, Pkg.getF_recordLanes _ _ _ _ (.inl (by show 0x100000 + 0x4000 * port.val < _; omega))]
        exact ne_of_eq_of_ne hst (by decide))
    exact ⟨hfailed, hcause⟩
  · refine lnkDisable_completes.mono fun t ht => ?_
    rw [ht]
    exact Pkg.enterPort_st _ port.isLt (by decide)

end Sys2Proof.Machine
end

section
/-! PROOFS. Lanes in service (R408–R414): what a service window records, and a lane that moves to the spare. -/

namespace Sys2Proof.Machine

/-! ### The end of a service window -/

theorem Pkg.getF_recordLanes_st (k : Pkg) (n window : Nat) (errs cls : List Nat) {f : Fld} (hf : f.off = 0x100000 + 0x4000 * n) :
    (k.recordLanes n window errs cls).getF f = k.getF f := k.getF_recordLanes window errs cls (.inl (by omega))

/-- What a service window leaves of the port before a lane is replaced: its records, and the flag when a lane is not clean. -/
def Pkg.recordService (k : Pkg) (n : Nat) (errs : List Nat) : Pkg :=
  let k₁ := k.recordLanes n 3 errs (laneClasses errs 4250000)
  if ((List.range 5).filter (fun l => k.getF (F.LNK_LN_ROLE n l) == 0)).any (fun l => (laneClasses errs 4250000).getD l 0 != 1) then k₁.setFlagged n true else k₁

/-- The active lanes that failed. -/
def Pkg.failedLanes (k : Pkg) (n : Nat) (errs : List Nat) : List Nat :=
  ((List.range 5).filter (fun l => k.getF (F.LNK_LN_ROLE n l) == 0)).filter (fun l => (laneClasses errs 4250000).getD l 0 == 3)

/-- The idle spare, if it has not failed. -/
def Pkg.idleLane (k : Pkg) (n : Nat) (errs : List Nat) : Option Nat :=
  (List.range 5).find? (fun l => k.getF (F.LNK_LN_ROLE n l) == 1 && (laneClasses errs 4250000).getD l 3 != 3)

/-- The request for the idle spare: the lane, and the control frame at which it moves (R411). -/
def Pkg.requestSpare (k : Pkg) (n lane : Nat) : Pkg :=
  k.setLport n { k.lport n with spareReq := some { lane := lane, switchAt := (((k.fport n).frCount + 63) / 64 * 64 + 256) % 65536, sentAt := k.now, acked := false } }

@[simp] theorem Pkg.getF_requestSpare (k : Pkg) (n lane : Nat) (f : Fld) : (k.requestSpare n lane).getF f = k.getF f := rfl

theorem Pkg.requestSpare_spareReq (k : Pkg) {n : Nat} (lane : Nat) (hn : n < 20) :
    ((k.requestSpare n lane).lport n).spareReq.map (fun r => (r.lane, r.acked)) = some (lane, false) := by
  rw [Pkg.requestSpare, Pkg.lport_setLport_same _ hn]
  rfl

theorem Pkg.endService_eq (k : Pkg) (n : Nat) (errs : List Nat) : k.endService n errs =
    match k.failedLanes n errs, k.idleLane n errs, ((k.recordService n errs).lport n).spareReq with
    | [], _, _ => k.recordService n errs
    | [l], some _, none => (k.recordService n errs).requestSpare n l
    | _, _, _ => (k.recordService n errs).beginRetrain n := rfl

theorem Pkg.recordService_links (k : Pkg) (n : Nat) (errs : List Nat) : (k.recordService n errs).links = k.links := by
  unfold Pkg.recordService
  dsimp only
  split
  · rw [Pkg.setFlagged_links, Pkg.recordLanes_links]
  · exact Pkg.recordLanes_links _ _ _ _ _

theorem Pkg.recordService_st (k : Pkg) (n : Nat) (errs : List Nat) : (k.recordService n errs).getF (F.LNK_ST n) = k.getF (F.LNK_ST n) := by
  unfold Pkg.recordService
  dsimp only
  split
  · rw [Pkg.setFlagged_apart _ _ _ (by simp [Fld.apart, F.LNK_FLAGGED, F.LNK_ST]) (Fld.apart_of_off (by simp only [F.LNK_EV_FLAGGED, F.LNK_ST]; omega)),
      Pkg.getF_recordLanes_st _ _ _ _ _ rfl]
  · exact Pkg.getF_recordLanes_st _ _ _ _ _ rfl

/-- Lane `i`'s record of a service window. -/
theorem Pkg.recordService_lane (k : Pkg) (n : Nat) (errs : List Nat) {i : Nat} (hi : i < 5) :
    (k.recordService n errs).getF (F.LNK_LN_ERRS n i) = min (2 ^ 32 - 1) (errs.getD i 0) ∧
      (k.recordService n errs).getF (F.LNK_LN_CLASS n i) = laneClass (errs.getD i 0) 4250000 := by
  have hkept : ∀ {f : Fld}, f.off = 0x100020 + 0x4000 * n + 0x8 * i →
      (k.recordService n errs).getF f = (k.recordLanes n 3 errs (laneClasses errs 4250000)).getF f := by
    intro f hf
    unfold Pkg.recordService
    dsimp only
    split
    · exact (Pkg.setFlagged_kept (P := fun o => o = f.off) _ n true (by intro o ho; omega)).getF rfl
    · rfl
  obtain ⟨herrs, hclass, -⟩ := k.recordLanes_lane n 3 errs (laneClasses errs 4250000) hi
  have hlt : laneClass (errs.getD i 0) 4250000 < 4 := by
    unfold laneClass
    split
    · decide
    · split <;> decide
  rw [hkept (f := F.LNK_LN_ERRS n i) rfl, hkept (f := F.LNK_LN_CLASS n i) rfl, herrs, hclass, getD_laneClasses errs _ _ hi, Nat.mod_eq_of_lt hlt]
  exact ⟨rfl, rfl⟩

theorem laneClass_of_failed {errs : Nat} (h : 51000000 < errs) : laneClass errs 4250000 = 3 := by
  unfold laneClass
  rw [if_neg (by omega), if_neg (by omega)]

/-- With clean lanes a service window records them, and nothing else. -/
theorem Pkg.endService_of_clean {k : Pkg} {n : Nat} {errs : List Nat} (h : ∀ i, i < 5 → errs.getD i 0 ≤ 4250000) :
    k.endService n errs = k.recordLanes n 3 errs (laneClasses errs 4250000) ∧ k.recordService n errs = k.recordLanes n 3 errs (laneClasses errs 4250000) := by
  have hclass : ∀ l ∈ (List.range 5).filter (fun l => k.getF (F.LNK_LN_ROLE n l) == 0), (laneClasses errs 4250000).getD l 0 = 1 := fun l hl => by
    have hlt := List.mem_range.mp (List.mem_filter.mp hl).1
    rw [getD_laneClasses errs _ _ hlt, laneClass_of_clean (h l hlt)]
  have hservice : k.recordService n errs = k.recordLanes n 3 errs (laneClasses errs 4250000) := by
    refine if_neg ?_
    rw [Bool.not_eq_true, List.any_eq_false]
    intro l hl
    rw [hclass l hl]
    decide
  have hnone : k.failedLanes n errs = [] := List.filter_eq_nil_iff.mpr fun l hl => by
    rw [hclass l hl]
    decide
  rw [Pkg.endService_eq, hnone, hservice]
  exact ⟨rfl, rfl⟩

/-- One failed lane among clean ones. -/
theorem Pkg.failedLanes_of_one {k : Pkg} {n l : Nat} {errs : List Nat} (hl : l < 5) (hbad : 51000000 < errs.getD l 0)
    (hclean : ∀ i, i < 5 → i ≠ l → errs.getD i 0 ≤ 4250000) (hrole : k.getF (F.LNK_LN_ROLE n l) = 0) : k.failedLanes n errs = [l] := by
  have hpick : ∀ i ∈ List.range 5, (k.getF (F.LNK_LN_ROLE n i) == 0 && (laneClasses errs 4250000).getD i 0 == 3) = (i == l) := by
    intro i hi
    have hlt := List.mem_range.mp hi
    rw [getD_laneClasses errs _ _ hlt]
    by_cases he : i = l
    · subst he
      rw [hrole, laneClass_of_failed hbad]
      exact (beq_self_eq_true i).symm
    · rw [laneClass_of_clean (hclean i hlt he), beq_eq_false_iff_ne.mpr he]
      exact Bool.and_false _
  unfold Pkg.failedLanes
  rw [List.filter_filter, List.filter_congr (fun i hi => (Bool.and_comm _ _).trans (hpick i hi))]
  rcases (by omega : l = 0 ∨ l = 1 ∨ l = 2 ∨ l = 3 ∨ l = 4) with rfl | rfl | rfl | rfl | rfl <;> rfl

theorem Pkg.mem_failedLanes {k : Pkg} {n l : Nat} {errs : List Nat} (hl : l < 5) (hbad : 51000000 < errs.getD l 0)
    (hrole : k.getF (F.LNK_LN_ROLE n l) = 0) : l ∈ k.failedLanes n errs := by
  refine List.mem_filter.mpr ⟨List.mem_filter.mpr ⟨List.mem_range.mpr hl, by simp [hrole]⟩, ?_⟩
  rw [getD_laneClasses errs _ _ hl, laneClass_of_failed hbad]
  rfl

/-- A failed lane flags the port. -/
theorem Pkg.recordService_flagged {k : Pkg} {n l : Nat} {errs : List Nat} (hl : l < 5) (hbad : 51000000 < errs.getD l 0)
    (hrole : k.getF (F.LNK_LN_ROLE n l) = 0) : (k.recordService n errs).getF (F.LNK_FLAGGED n) = 1 := by
  have hany : ((List.range 5).filter (fun l => k.getF (F.LNK_LN_ROLE n l) == 0)).any (fun l => (laneClasses errs 4250000).getD l 0 != 1) = true := by
    rw [List.any_eq_true]
    refine ⟨l, List.mem_filter.mpr ⟨List.mem_range.mpr hl, by simp [hrole]⟩, ?_⟩
    rw [getD_laneClasses errs _ _ hl, laneClass_of_failed hbad]
    rfl
  unfold Pkg.recordService
  rw [if_pos hany, Pkg.setFlagged_flag]
  rfl

/-- The idle spare takes the place of the one failed lane (R411). -/
theorem Pkg.endService_of_spare {k : Pkg} {n l sp : Nat} {errs : List Nat} (hl : l < 5) (hsp : sp < 5) (hne : sp ≠ l) (hbad : 51000000 < errs.getD l 0)
    (hclean : ∀ i, i < 5 → i ≠ l → errs.getD i 0 ≤ 4250000) (hrole : k.getF (F.LNK_LN_ROLE n l) = 0)
    (hspare : k.getF (F.LNK_LN_ROLE n sp) = 1) (hreq : (k.lport n).spareReq = none) :
    k.endService n errs = (k.recordService n errs).requestSpare n l := by
  have hidle : (k.idleLane n errs).isSome = true := by
    refine List.find?_isSome.mpr ⟨sp, List.mem_range.mpr hsp, ?_⟩
    rw [getD_laneClasses errs _ _ hsp, laneClass_of_clean (hclean sp hsp hne), hspare]
    rfl
  obtain ⟨i, hi⟩ := Option.isSome_iff_exists.mp hidle
  rw [Pkg.endService_eq, Pkg.failedLanes_of_one hl hbad hclean hrole, hi, Pkg.lport_congr (k.recordService_links n errs), hreq]

/-- With no spare, a failed lane makes the port retrain (R414). -/
theorem Pkg.endService_of_noSpare {k : Pkg} {n l : Nat} {errs : List Nat} (hl : l < 5) (hbad : 51000000 < errs.getD l 0)
    (hrole : k.getF (F.LNK_LN_ROLE n l) = 0) (hnone : ∀ i, i < 5 → k.getF (F.LNK_LN_ROLE n i) ≠ 1) :
    k.endService n errs = (k.recordService n errs).beginRetrain n := by
  have hidle : k.idleLane n errs = none := List.find?_eq_none.mpr fun i hi => by simp [hnone i (List.mem_range.mp hi)]
  have hmem := Pkg.mem_failedLanes hl hbad hrole
  rw [Pkg.endService_eq, hidle]
  cases hfailed : k.failedLanes n errs with
  | nil => rw [hfailed] at hmem; cases hmem
  | cons x r => cases r <;> rfl

/-! ### The switch to the spare -/

/-- The registers of the switch from lane `from` to lane `sp` (R411). -/
def Pkg.switchLane (k : Pkg) (n lane sp : Nat) : Pkg :=
  let lg := k.logicalLane n lane
  let ord := k.getF (F.LNK_RX_ORDER n)
  let k := (k.setF (F.LNK_LN_ROLE n lane) 2).setF (F.LNK_LN_ROLE n sp) 0
  let k := k.setF (F.LNK_RX_ACTIVE n) (putBit (putBit (k.getF (F.LNK_RX_ACTIVE n)) lane false) sp true)
  let k := k.setF (F.LNK_RX_ORDER n) (ord - bits ord (3 * lg + 2) (3 * lg) * 2 ^ (3 * lg) + sp * 2 ^ (3 * lg))
  (k.inc (F.LNK_COUNTS n 4)).raise (F.LNK_EV_LANE_SPARED n)

/-- The peer's switch at this frame is over. -/
def Pkg.endPeerSpare (k : Pkg) (n count : Nat) : Option (Nat × Nat) → Pkg
  | some (_, at_) => if at_ = count then k.setLport n { k.lport n with peerSpare := none } else k
  | none => k

theorem Pkg.spareSwitch_of_acked {k : Pkg} {n count sp : Nat} {r : SpareReq} (hreq : (k.lport n).spareReq = some r) (hacked : r.acked = true)
    (hat : r.switchAt = count) (hsp : (List.range 5).find? (fun i => k.getF (F.LNK_LN_ROLE n i) == 1) = some sp) :
    k.spareSwitch n count =
      ((k.switchLane n r.lane sp).setLport n { (k.switchLane n r.lane sp).lport n with spareReq := none }).endPeerSpare n count (k.lport n).peerSpare := by
  simp only [Pkg.spareSwitch, hreq, hsp, hacked, hat, and_self, if_true]
  rfl

theorem Pkg.endPeerSpare_regs (k : Pkg) (n count : Nat) (o : Option (Nat × Nat)) : (k.endPeerSpare n count o).regs = k.regs := by
  unfold Pkg.endPeerSpare
  split
  · split <;> rfl
  · rfl

theorem Pkg.getF_endPeerSpare (k : Pkg) (n count : Nat) (o : Option (Nat × Nat)) (f : Fld) : (k.endPeerSpare n count o).getF f = k.getF f :=
  (CellsKept.ofRegs (P := fun _ => True) (k.endPeerSpare_regs n count o)).getF trivial

theorem Pkg.endPeerSpare_spareReq (k : Pkg) {n : Nat} (hn : n < 20) (count : Nat) (o : Option (Nat × Nat)) :
    ((k.endPeerSpare n count o).lport n).spareReq = (k.lport n).spareReq := by
  unfold Pkg.endPeerSpare
  split
  · split
    · rw [Pkg.lport_setLport_same _ hn]
    · rfl
  · rfl

/-- A switch shows its lanes' roles and the event. -/
theorem Pkg.switchLane_shows (k : Pkg) (n : Nat) {lane sp : Nat} (hlane : lane < 5) (hsp : sp < 5) (hne : lane ≠ sp) :
    let j := k.switchLane n lane sp
    j.getF (F.LNK_ST n) = k.getF (F.LNK_ST n) ∧ j.getF (F.LNK_LN_ROLE n lane) = 2 ∧ j.getF (F.LNK_LN_ROLE n sp) = 0 ∧
      j.getF (F.LNK_EV_LANE_SPARED n) = 1 := by
  have hcount : ∀ {g : Fld}, g.off < 0x100048 + 0x4000 * n → (F.LNK_COUNTS n 4).apart g = true :=
    fun hg => Fld.apart_of_off (by simp only [F.LNK_COUNTS]; omega)
  have hevent : ∀ {g : Fld}, g.off < 0x100048 + 0x4000 * n → (F.LNK_EV_LANE_SPARED n).apart g = true :=
    fun hg => Fld.apart_of_off (by simp only [F.LNK_EV_LANE_SPARED]; omega)
  have hrole : ∀ i, i < 5 → (F.LNK_LN_ROLE n i).off = 0x100020 + 0x4000 * n + 0x8 * i := fun i _ => rfl
  have hstate : ∀ {f g : Fld}, f.off = 0x100000 + 0x4000 * n → 0x100020 + 0x4000 * n ≤ g.off → f.apart g = true :=
    fun hf hg => Fld.apart_of_off (by omega)
  have hlanes : ∀ {i : Nat}, i < 5 → (k.switchLane n lane sp).getF (F.LNK_LN_ROLE n i) =
      ((k.setF (F.LNK_LN_ROLE n lane) 2).setF (F.LNK_LN_ROLE n sp) 0).getF (F.LNK_LN_ROLE n i) := by
    intro i hi
    have hlt := hrole i hi
    unfold Pkg.switchLane
    rw [Pkg.getF_raise_apart _ _ _ (hevent (by omega)), Pkg.getF_inc_apart _ _ _ (hcount (by omega)),
      Pkg.getF_setF_apart _ _ _ _ (hstate rfl (by omega)), Pkg.getF_setF_apart _ _ _ _ (hstate rfl (by omega))]
  intro j
  refine ⟨?_, ?_, ?_, Pkg.getF_raise_same _ _ rfl (Nat.le_refl 1)⟩
  · have hlane' := hrole lane hlane
    have hsp' := hrole sp hsp
    simp only [j, Pkg.switchLane]
    rw [Pkg.getF_raise_apart _ _ _ (hevent (by simp only [F.LNK_ST]; omega)), Pkg.getF_inc_apart _ _ _ (hcount (by simp only [F.LNK_ST]; omega)),
      Pkg.getF_setF_apart _ _ _ _ (by simp [Fld.apart, F.LNK_RX_ORDER, F.LNK_ST]),
      Pkg.getF_setF_apart _ _ _ _ (by simp [Fld.apart, F.LNK_RX_ACTIVE, F.LNK_ST]),
      Pkg.getF_setF_apart _ _ _ _ (Fld.apart_of_off (by simp only [F.LNK_LN_ROLE, F.LNK_ST]; omega)),
      Pkg.getF_setF_apart _ _ _ _ (Fld.apart_of_off (by simp only [F.LNK_LN_ROLE, F.LNK_ST]; omega))]
  · rw [hlanes hlane, Pkg.getF_setF_apart _ _ _ _ (Fld.apart_of_off (by simp only [F.LNK_LN_ROLE]; omega))]
    exact Pkg.getF_setF_same _ _ _ rfl
  · rw [hlanes hsp]
    exact Pkg.getF_setF_same _ _ _ rfl

/-- The lane's agreed frame moves it to the spare (R411). -/
theorem Pkg.spareSwitch_shows {k : Pkg} {n count sp : Nat} {r : SpareReq} (hn : n < 20) (hreq : (k.lport n).spareReq = some r)
    (hacked : r.acked = true) (hat : r.switchAt = count) (hlane : r.lane < 5) (hsp : sp < 5) (hne : r.lane ≠ sp)
    (hfind : (List.range 5).find? (fun i => k.getF (F.LNK_LN_ROLE n i) == 1) = some sp) :
    (k.spareSwitch n count).getF (F.LNK_ST n) = k.getF (F.LNK_ST n) ∧ (k.spareSwitch n count).getF (F.LNK_LN_ROLE n r.lane) = 2 ∧
      (k.spareSwitch n count).getF (F.LNK_LN_ROLE n sp) = 0 ∧ (k.spareSwitch n count).getF (F.LNK_EV_LANE_SPARED n) = 1 ∧
      ((k.spareSwitch n count).lport n).spareReq = none := by
  obtain ⟨hst, hold, hnew, hevent⟩ := k.switchLane_shows n hlane hsp hne
  rw [Pkg.spareSwitch_of_acked hreq hacked hat hfind, Pkg.endPeerSpare_spareReq _ hn, Pkg.lport_setLport_same _ hn]
  generalize k.switchLane n r.lane sp = j at hst hold hnew hevent ⊢
  have hregs : ∀ l f, ((j.setLport n l).endPeerSpare n count (k.lport n).peerSpare).getF f = j.getF f :=
    fun l f => (Pkg.getF_endPeerSpare _ _ _ _ _).trans (Pkg.getF_setLport j n l f)
  exact ⟨(hregs _ _).trans hst, (hregs _ _).trans hold, (hregs _ _).trans hnew, (hregs _ _).trans hevent, rfl⟩

/-- Settles O6: the records of a service window, and the three ends of a failed lane. -/
theorem lanesAreServed : Obligations.LanesAreServed := by
  unfold Obligations.LanesAreServed
  intro s p port t₀ hup
  refine ⟨fun errs hclean => ?_, fun errs l sp hl hsp hne hbad hclean hrole hspare hreq => ?_,
    fun errs l hl hbad hrole hnone hrecent => ?_, fun count sp r hreq hacked hat hlane hsp hrole hspare hfirst => ?_⟩
  · refine (serviceWindowEnd_of_up errs hup).mono fun t ht => ?_
    obtain ⟨hend, hservice⟩ := Pkg.endService_of_clean (k := (s.pkg p).at t₀) (n := port) hclean
    rw [ht, hend]
    refine ⟨(Pkg.getF_recordLanes_st _ _ _ _ _ rfl).trans hup, Pkg.getF_recordLanes_st _ _ _ _ _ rfl, fun i hi => ?_⟩
    rw [← hservice]
    obtain ⟨herrs, hclass⟩ := ((s.pkg p).at t₀).recordService_lane port errs hi
    have hle := hclean i hi
    exact ⟨herrs.trans (Nat.min_eq_right (by omega)), hclass.trans (laneClass_of_clean hle)⟩
  · refine (serviceWindowEnd_of_up errs hup).mono fun t ht => ?_
    rw [ht, Pkg.endService_of_spare (k := (s.pkg p).at t₀) hl hsp hne hbad hclean hrole hspare hreq]
    rw [Pkg.getF_requestSpare, Pkg.getF_requestSpare]
    exact ⟨(Pkg.recordService_st _ _ _).trans hup, Pkg.recordService_flagged (k := (s.pkg p).at t₀) hl hbad hrole,
      Pkg.requestSpare_spareReq _ l port.isLt⟩
  · refine (serviceWindowEnd_of_up errs hup).mono fun t ht => ?_
    rw [ht, Pkg.endService_of_noSpare (k := (s.pkg p).at t₀) hl hbad hrole hnone]
    have hlport : (((s.pkg p).at t₀).recordService port errs).lport port = (s.pkg p).lport port := Pkg.lport_congr (Pkg.recordService_links _ _ _) _
    refine (Pkg.beginRetrain_retrains _ port.isLt ?_).1
    rw [Pkg.recentRetrains, hlport]
    exact Nat.lt_of_le_of_lt (List.length_filter_le _ _) hrecent
  · refine (spareSwitch_of_up count hup).mono fun t ht => ?_
    have hfind : (List.range 5).find? (fun i => (s.pkg p).getF (F.LNK_LN_ROLE port i) == 1) = some sp := by
      rw [List.find?_range_eq_some]
      refine ⟨by simp [hspare], List.mem_range.mpr hsp, fun i hi => by simp [hfirst i hi]⟩
    have hne : r.lane ≠ sp := fun h => hrole (h ▸ hspare)
    obtain ⟨hst, hshown⟩ := Pkg.spareSwitch_shows (k := (s.pkg p).at t₀) port.isLt hreq hacked hat hlane hsp hne hfind
    rw [ht]
    exact ⟨hst.trans hup, hshown⟩

end Sys2Proof.Machine
end

section
/-! PROOFS. Frames sent (R389–R393, R447, R493, R495) and lets (R495, R496). -/

namespace Sys2Proof.Machine

/-! ### The fabric state of a port -/

theorem Pkg.fport_setLport (k : Pkg) (n m : Nat) (l : LinkPort) : (k.setLport n l).fport m = k.fport m := rfl

theorem Pkg.fport_at (k : Pkg) (t n : Nat) : (k.at t).fport n = k.fport n := rfl

theorem Pkg.getF_setFport (k : Pkg) (n : Nat) (g : FabPort) (f : Fld) : (k.setFport n g).getF f = k.getF f := rfl

theorem Pkg.fport_setFport_other (k : Pkg) {n m : Nat} (h : n ≠ m) (f : FabPort) : (k.setFport n f).fport m = k.fport m := by
  simp [Pkg.fport, Pkg.setFport, List.getD, List.getElem?_set_ne h]

/-- Putting a frame on the link keeps it as the last one, and counts it (R389). -/
theorem Pkg.putFrame_fport (k : Pkg) {n : Nat} (hn : n < 20) (fr : Frame) :
    (k.putFrame n fr).fport n = { k.fport n with outFrame := some fr, frCount := ((k.fport n).frCount + 1) % 65536 } :=
  Pkg.fport_setFport_same _ hn _

/-! ### Sending frames -/

/-- The acknowledgement a frame carries (R494). -/
def FabPort.ackField (f : FabPort) : Nat := f.lastInOrder + (if f.letReq then 2 ^ 15 else 0)

/-- The control frame that is due goes out, and its marker and notice are counted. -/
def Pkg.sendControl (k : Pkg) (n : Nat) : Pkg :=
  let k₁ := if (k.controlFrame n).marker.isEmpty then k else k.markerSent n
  let k₂ := if 0 < (k.lport n).noticeLeft then k₁.setLport n { k₁.lport n with noticeLeft := (k.lport n).noticeLeft - 1 } else k₁
  k₂.putFrame n (k.controlFrame n)

/-- The frame that heads a let goes out again (R495). -/
def Pkg.sendLet (k : Pkg) (n : Nat) (r : Frame) (rest : List Frame) : Pkg :=
  let f := k.fport n
  (k.setFport n { f with letQueue := rest
                         replay := f.replay.map (fun e => if e.1.letSeq = r.letSeq then (e.1, k.now) else e) }).putFrame n
    { r with count := f.frCount, letSeq := r.letSeq % 2 ^ 15 + 2 ^ 15, letAck := f.ackField }

/-- A new data frame goes out and joins the replay buffer (R447, R493). -/
def Pkg.sendData (k : Pkg) (n : Nat) : Pkg :=
  let f := k.fport n
  let fr := { (nextData f).1 with letAck := f.ackField }
  ((k.setFport n { (nextData f).2 with replay := f.replay ++ [(fr, k.now)] }).setF (F.FAB_REPLAY_FRAMES n) (f.replay.length + 1)).putFrame n fr

/-- An idle frame goes out. -/
def Pkg.sendIdle (k : Pkg) (n : Nat) : Pkg :=
  k.putFrame n { type := 0, count := (k.fport n).frCount, letAck := (k.fport n).ackField }

theorem Pkg.sendFrame_of_control {k : Pkg} {n : Nat} (hup : k.linkSt n = 5) (hcount : (k.fport n).frCount % 64 = 0) :
    k.sendFrame n = k.sendControl n := by
  unfold Pkg.sendFrame
  extract_lets st f l ackField
  rw [if_pos (.inl hup), if_pos hcount]
  rfl

theorem Pkg.sendFrame_of_let {k : Pkg} {n : Nat} {r : Frame} {rest : List Frame} (hup : k.linkSt n = 5) (hcount : (k.fport n).frCount % 64 ≠ 0)
    (hlet : (k.fport n).letQueue = r :: rest) : k.sendFrame n = k.sendLet n r rest := by
  unfold Pkg.sendFrame
  extract_lets st f l ackField
  rw [if_pos (.inl hup), if_neg hcount, if_pos hup]
  simp only [show f.letQueue = r :: rest from hlet]
  rfl

theorem Pkg.sendFrame_of_data {k : Pkg} {n : Nat} (hup : k.linkSt n = 5) (hcount : (k.fport n).frCount % 64 ≠ 0)
    (hlet : (k.fport n).letQueue = []) (hbytes : (k.fport n).txBytes ≠ []) (hroom : (k.fport n).replay.length < 102) :
    k.sendFrame n = k.sendData n := by
  unfold Pkg.sendFrame
  extract_lets st f l ackField
  rw [if_pos (.inl hup), if_neg hcount, if_pos hup]
  simp only [show f.letQueue = [] from hlet]
  rw [if_neg]
  · rfl
  · rintro (h | h)
    · exact hbytes (List.isEmpty_iff.mp h)
    · exact Nat.not_le_of_lt hroom h

theorem Pkg.sendFrame_of_idle {k : Pkg} {n : Nat} (hup : k.linkSt n = 5) (hcount : (k.fport n).frCount % 64 ≠ 0)
    (hlet : (k.fport n).letQueue = []) (hidle : (k.fport n).txBytes = [] ∨ 102 ≤ (k.fport n).replay.length) :
    k.sendFrame n = k.sendIdle n := by
  unfold Pkg.sendFrame
  extract_lets st f l ackField
  rw [if_pos (.inl hup), if_neg hcount, if_pos hup]
  simp only [show f.letQueue = [] from hlet]
  rw [if_pos (hidle.imp_left List.isEmpty_iff.mpr)]
  rfl

theorem Pkg.sendControl_fport (k : Pkg) {n : Nat} (hn : n < 20) :
    (k.sendControl n).fport n = { k.fport n with outFrame := some (k.controlFrame n), frCount := ((k.fport n).frCount + 1) % 65536 } := by
  have hmarker : (if (k.controlFrame n).marker.isEmpty then k else k.markerSent n).fport n = k.fport n := by split <;> rfl
  unfold Pkg.sendControl
  dsimp only
  rw [Pkg.putFrame_fport _ hn]
  split
  · rw [Pkg.fport_setLport, hmarker]
  · rw [hmarker]

theorem Pkg.sendLet_fport (k : Pkg) {n : Nat} (hn : n < 20) (r : Frame) (rest : List Frame) :
    (k.sendLet n r rest).fport n = { k.fport n with
      letQueue := rest, replay := (k.fport n).replay.map (fun e => if e.1.letSeq = r.letSeq then (e.1, k.now) else e)
      outFrame := some { r with count := (k.fport n).frCount, letSeq := r.letSeq % 2 ^ 15 + 2 ^ 15, letAck := (k.fport n).ackField }
      frCount := ((k.fport n).frCount + 1) % 65536 } := by
  unfold Pkg.sendLet
  rw [Pkg.putFrame_fport _ hn, Pkg.fport_setFport_same _ hn]

theorem Pkg.sendData_fport (k : Pkg) {n : Nat} (hn : n < 20) :
    (k.sendData n).fport n = { (nextData (k.fport n)).2 with
      replay := (k.fport n).replay ++ [({ (nextData (k.fport n)).1 with letAck := (k.fport n).ackField }, k.now)]
      outFrame := some { (nextData (k.fport n)).1 with letAck := (k.fport n).ackField }
      frCount := ((k.fport n).frCount + 1) % 65536 } := by
  unfold Pkg.sendData
  rw [Pkg.putFrame_fport _ hn, Pkg.fport_setF, Pkg.fport_setFport_same _ hn]
  rfl

/-- Settles O8: each kind of frame, and what sending it leaves of the port. -/
theorem portsSendFrames : Obligations.PortsSendFrames := by
  unfold Obligations.PortsSendFrames
  intro s p port t₀ hup f
  have hn := port.isLt
  refine completes_of_updPkg (f := fun k => (k.at t₀).sendFrame port) rfl fun t ht => ?_
  rw [ht]
  generalize hk : (s.pkg p).at t₀ = k
  have hf : k.fport port = f := by rw [← hk]; rfl
  replace hup : k.linkSt port = 5 := by rw [← hk]; exact hup
  rw [← hf]
  by_cases hcount : (k.fport port).frCount % 64 = 0
  · rw [Pkg.sendFrame_of_control hup hcount, Pkg.sendControl_fport k hn]
    exact ⟨rfl, rfl, fun _ => ⟨rfl, rfl, rfl⟩, fun h => absurd hcount h, fun h => absurd hcount h, fun h => absurd hcount h⟩
  · cases hlet : (k.fport port).letQueue with
    | cons r rest =>
      rw [Pkg.sendFrame_of_let hup hcount hlet, Pkg.sendLet_fport k hn]
      refine ⟨rfl, rfl, fun h => absurd h hcount, fun _ r' rest' h => ?_, fun _ h => (List.cons_ne_nil _ _ h).elim, fun _ h => (List.cons_ne_nil _ _ h).elim⟩
      obtain ⟨rfl, rfl⟩ := List.cons.inj h
      exact ⟨rfl, rfl, rfl⟩
    | nil =>
      by_cases hidle : (k.fport port).txBytes = [] ∨ 102 ≤ (k.fport port).replay.length
      · rw [Pkg.sendFrame_of_idle hup hcount hlet hidle, Pkg.sendIdle, Pkg.putFrame_fport k hn]
        refine ⟨rfl, rfl, fun h => absurd h hcount, fun _ r' rest' h => (List.cons_ne_nil _ _ h.symm).elim, fun _ _ hbytes hroom => ?_, fun _ _ _ => rfl⟩
        exact (hidle.elim hbytes (Nat.not_le_of_lt hroom)).elim
      · obtain ⟨hbytes, hroom⟩ := not_or.mp hidle
        rw [Pkg.sendFrame_of_data hup hcount hlet hbytes (Nat.lt_of_not_le hroom), Pkg.sendData_fport k hn]
        refine ⟨rfl, rfl, fun h => absurd h hcount, fun _ r' rest' h => (List.cons_ne_nil _ _ h.symm).elim, fun _ _ _ _ => ?_, fun _ _ h => absurd h hbytes⟩
        exact ⟨rfl, rfl, rfl, rfl, rfl, List.length_append⟩

/-! ### Lets (R495, R496) -/

theorem letTimeout_of_late {s : State} {p : PkgId} {port : PortId} {t₀ sent : Nat} {fr : Frame} {rest : List (Frame × Nat)}
    (hup : (s.pkg p).linkSt port = 5) (hreplay : ((s.pkg p).fport port).replay = (fr, sent) :: rest) (hlate : sent + 4000 ≤ max (s.pkg p).now t₀) :
    Completes (.letTimeout p port t₀) s (fun t => t.pkg p = ((s.pkg p).at t₀).startLet port) := by
  refine completes_of_updPkg (f := fun k => match ((k.at t₀).fport port).replay with
    | (_, sent) :: _ => if (k.at t₀).linkSt port = 5 ∧ sent + 4000 ≤ (k.at t₀).now then (k.at t₀).startLet port else k.at t₀
    | [] => k.at t₀) rfl fun t ht => ?_
  rw [ht, Pkg.fport_at, hreplay]
  exact if_pos ⟨hup, hlate⟩

/-- A let resends every unacknowledged frame. -/
theorem Pkg.startLet_of_few {k : Pkg} {n : Nat} (hn : n < 20) (hfew : k.getF (F.FAB_LETS_RUN n) < 8) :
    ((k.startLet n).fport n).letQueue = (k.fport n).replay.map Prod.fst ∧
      (k.startLet n).getF (F.FAB_LETS_RUN n) = k.getF (F.FAB_LETS_RUN n) + 1 ∧
      (k.startLet n).getF (F.FAB_LETS n) = min (2 ^ 64 - 1) (k.getF (F.FAB_LETS n) + 1) := by
  have hrun : (F.FAB_LETS_RUN n).apart (F.FAB_LETS n) = true := Fld.apart_of_off (by simp only [F.FAB_LETS_RUN, F.FAB_LETS]; omega)
  unfold Pkg.startLet
  dsimp only
  rw [if_neg (by omega)]
  refine ⟨by rw [Pkg.fport_setFport_same _ hn], ?_, ?_⟩
  · rw [Pkg.getF_setFport, Pkg.getF_setF_same _ _ _ rfl]
    exact Nat.mod_eq_of_lt (show k.getF (F.FAB_LETS_RUN n) + 1 < 2 ^ 4 by omega)
  · rw [Pkg.getF_setFport, Pkg.getF_setF_apart _ _ _ _ hrun]
    exact Pkg.getF_inc_same _ _ rfl

/-- Settles O10: the first eight lets resend; the next one is a retrain. -/
theorem letsResend : Obligations.LetsResend := by
  unfold Obligations.LetsResend
  intro s p port t₀ hup fr sent rest hreplay hlate
  refine ⟨fun hfew => ?_, fun hmany hrecent => ?_⟩
  · refine (letTimeout_of_late hup hreplay hlate).mono fun t ht => ?_
    obtain ⟨hqueue, hrun, hlets⟩ := Pkg.startLet_of_few (k := (s.pkg p).at t₀) port.isLt hfew
    rw [ht]
    refine ⟨hqueue.trans ?_, hrun, hlets⟩
    rw [Pkg.fport_at, hreplay]
    rfl
  · refine (letTimeout_of_late hup hreplay hlate).mono fun t ht => ?_
    have hretrain : ((s.pkg p).at t₀).startLet port = ((s.pkg p).at t₀).beginRetrain port := if_pos hmany
    rw [ht, hretrain]
    exact (Pkg.beginRetrain_retrains ((s.pkg p).at t₀) port.isLt (Nat.lt_of_le_of_lt (List.length_filter_le _ _) hrecent)).1

end Sys2Proof.Machine
end

section
/-! PROOFS. Frames received (R392, R396, R419, R423, R494). -/

namespace Sys2Proof.Machine

/-! ### Let acknowledgements and arrivals -/

/-- The port once the peer has acknowledged up to `a` (R494). -/
def FabPort.acknowledge (f : FabPort) (a : Nat) : FabPort :=
  { f with ackHeard := a, replay := f.replay.filter (fun r => !letLe r.1.letSeq a), letQueue := f.letQueue.filter (fun r => !letLe r.letSeq a)
           letFor := if a != f.ackHeard then none else f.letFor }

/-- An acknowledgement that asks for no let takes the acknowledged frames from the replay buffer. -/
theorem Pkg.hearLetAck_of_plain {k : Pkg} {n field : Nat} (hn : n < 20) (hplain : bit field 15 = false) :
    (k.hearLetAck n field).fport n = (k.fport n).acknowledge (field % 2 ^ 15) ∧ FabOnly k (k.hearLetAck n field) ∧
      (k.hearLetAck n field).fab.arrived = k.fab.arrived := by
  have hreg : ∀ f : Fld, f.off = 0x201008 + 0x40 * n → 0x200800 ≤ f.off ∧ f.off < 0x300000 := by intro f hf; omega
  unfold Pkg.hearLetAck
  extract_lets f a advanced left f' k₁ k₂
  have hk₁ : k₁.fport n = f' ∧ FabOnly k k₁ ∧ k₁.fab.arrived = k.fab.arrived := by
    refine ⟨(Pkg.fport_setF _ _ _ _).trans (Pkg.fport_setFport_same k hn f'), ?_, rfl⟩
    exact (FabOnly.ofFab k { k.fab with ports := k.fab.ports.setIfInBounds n f' }).thenF (F.FAB_REPLAY_FRAMES n) left.length (hreg _ rfl)
  have hk₂ : k₂.fport n = f' ∧ FabOnly k k₂ ∧ k₂.fab.arrived = k.fab.arrived := by
    show (if advanced = true then k₁.setF (F.FAB_LETS_RUN n) 0 else k₁).fport n = f' ∧ FabOnly k (if advanced = true then k₁.setF (F.FAB_LETS_RUN n) 0 else k₁) ∧
      (if advanced = true then k₁.setF (F.FAB_LETS_RUN n) 0 else k₁).fab.arrived = k.fab.arrived
    obtain ⟨hport, hframe, harrived⟩ := hk₁
    split
    · exact ⟨(Pkg.fport_setF _ _ _ _).trans hport, hframe.thenF (F.FAB_LETS_RUN n) 0 (hreg _ rfl), harrived⟩
    · exact ⟨hport, hframe, harrived⟩
  rw [if_neg (by rw [hplain]; simp)]
  exact hk₂

/-- A packet that enters a receive buffer leaves the port's let sequence alone. -/
theorem Pkg.arrive_let (k : Pkg) {n : Nat} (hn : n < 20) (p : Packet) :
    ((k.arrive n p).fport n).lastInOrder = (k.fport n).lastInOrder ∧ ((k.arrive n p).fport n).letReq = (k.fport n).letReq := by
  have harrived : ∀ (j : Pkg) (a : List Arrived), ({ j with fab := { j.fab with arrived := a } } : Pkg).fport n = j.fport n := fun _ _ => rfl
  unfold Pkg.arrive
  dsimp only
  split
  · rw [harrived, Pkg.fport_setFport_same _ hn]
    exact ⟨rfl, rfl⟩
  · split
    · split <;> exact ⟨rfl, rfl⟩
    · rw [harrived, Pkg.fport_setFport_same _ hn]
      exact ⟨rfl, rfl⟩

theorem Pkg.arriveAll_let {n : Nat} (hn : n < 20) (ps : List Packet) (k : Pkg) :
    ((ps.foldl (fun k p => k.arrive n p) k).fport n).lastInOrder = (k.fport n).lastInOrder ∧
      ((ps.foldl (fun k p => k.arrive n p) k).fport n).letReq = (k.fport n).letReq := by
  refine List.foldlRecOn (motive := fun (j : Pkg) => (j.fport n).lastInOrder = (k.fport n).lastInOrder ∧ (j.fport n).letReq = (k.fport n).letReq)
    _ _ ⟨rfl, rfl⟩ (fun j hj p _ => ?_)
  obtain ⟨hlast, hreq⟩ := hj
  obtain ⟨hlast', hreq'⟩ := j.arrive_let hn p
  exact ⟨hlast'.trans hlast, hreq'.trans hreq⟩

/-- The port with a frame in let order: its packets are taken from the bytes received (R448). -/
def FabPort.accept (f : FabPort) (fr : Frame) : FabPort :=
  { f with lastInOrder := fr.letSeq % 2 ^ 15, letReq := false, rxBytes := (parsePackets 1024 (f.rxBytes ++ fr.payload) f.rxPos).2.1
           rxPos := (parsePackets 1024 (f.rxBytes ++ fr.payload) f.rxPos).2.2 }

/-- A data frame after its acknowledgement was heard (R494). -/
def Pkg.acceptData (k : Pkg) (n : Nat) (fr : Frame) : Pkg :=
  let f := k.fport n
  if fr.letSeq % 2 ^ 15 = (f.lastInOrder + 1) % 2 ^ 15 then
    (parsePackets 1024 (f.rxBytes ++ fr.payload) f.rxPos).1.foldl (fun k p => k.arrive n p) (k.setFport n (f.accept fr))
  else k.setFport n { f with letReq := true }

theorem Pkg.receiveData_eq (k : Pkg) (n : Nat) (fr : Frame) : k.receiveData n fr =
    if (k.hearLetAck n fr.letAck).linkSt n ≠ 5 ∨ fr.type = 0 then k.hearLetAck n fr.letAck
    else (k.hearLetAck n fr.letAck).acceptData n fr := rfl

/-- A data frame in let order is accepted; another asks for a let. -/
theorem Pkg.acceptData_order (k : Pkg) {n : Nat} (hn : n < 20) (fr : Frame) :
    if fr.letSeq % 2 ^ 15 = ((k.fport n).lastInOrder + 1) % 2 ^ 15 then
      ((k.acceptData n fr).fport n).lastInOrder = fr.letSeq % 2 ^ 15 ∧ ((k.acceptData n fr).fport n).letReq = false
    else ((k.acceptData n fr).fport n).lastInOrder = (k.fport n).lastInOrder ∧ ((k.acceptData n fr).fport n).letReq = true ∧
      (k.acceptData n fr).fab.arrived = k.fab.arrived := by
  by_cases horder : fr.letSeq % 2 ^ 15 = ((k.fport n).lastInOrder + 1) % 2 ^ 15
  · obtain ⟨hlast, hreq⟩ := Pkg.arriveAll_let hn (parsePackets 1024 ((k.fport n).rxBytes ++ fr.payload) (k.fport n).rxPos).1
      (k.setFport n ((k.fport n).accept fr))
    rw [Pkg.fport_setFport_same _ hn] at hlast hreq
    rw [if_pos horder, Pkg.acceptData, if_pos horder]
    exact ⟨hlast, hreq⟩
  · rw [if_neg horder, Pkg.acceptData, if_neg horder, Pkg.fport_setFport_same _ hn]
    exact ⟨rfl, rfl, rfl⟩

/-- A data frame is taken in let order (R494). -/
theorem Pkg.receiveData_order {k : Pkg} {n : Nat} (hn : n < 20) {fr : Frame} (hup : k.linkSt n = 5) (htype : fr.type = 1)
    (hplain : bit fr.letAck 15 = false) :
    if fr.letSeq % 2 ^ 15 = ((k.fport n).lastInOrder + 1) % 2 ^ 15 then
      ((k.receiveData n fr).fport n).lastInOrder = fr.letSeq % 2 ^ 15 ∧ ((k.receiveData n fr).fport n).letReq = false
    else ((k.receiveData n fr).fport n).lastInOrder = (k.fport n).lastInOrder ∧ ((k.receiveData n fr).fport n).letReq = true ∧
      (k.receiveData n fr).fab.arrived = k.fab.arrived := by
  obtain ⟨hport, hframe, harrived⟩ := Pkg.hearLetAck_of_plain (k := k) (field := fr.letAck) hn hplain
  have hst : (k.hearLetAck n fr.letAck).linkSt n = 5 := by
    rw [Pkg.linkSt_eq, hframe.linkRegs.getF (by simp only [F.LNK_ST]; omega)]
    exact hup
  have hlast : ((k.hearLetAck n fr.letAck).fport n).lastInOrder = (k.fport n).lastInOrder := by rw [hport]; rfl
  have haccept := (k.hearLetAck n fr.letAck).acceptData_order hn fr
  rw [hlast, harrived] at haccept
  rw [Pkg.receiveData_eq, if_neg (c := _ ∨ fr.type = 0) (by rw [hst, htype]; decide)]
  exact haccept

/-! ### Identity and link control -/

/-- The identity that is decided is the one that was seen. -/
theorem Pkg.identityCause_seen (k : Pkg) (n word seen : Nat) (l : LinkPort) :
    ((k.setF (F.LNK_PEER_SEEN n) seen).setLport n l).identityCause n word = k.identityCause n word := by
  have hexp : (k.setF (F.LNK_PEER_SEEN n) seen).getF (F.LNK_PEER_EXP n) = k.getF (F.LNK_PEER_EXP n) :=
    Pkg.getF_setF_apart _ _ _ _ (Fld.apart_of_off (by simp only [F.LNK_PEER_SEEN, F.LNK_PEER_EXP]; omega))
  have hstruct : (k.setF (F.LNK_PEER_SEEN n) seen).getF F.LUP_STRUCT32 = k.getF F.LUP_STRUCT32 :=
    Pkg.getF_setF_apart _ _ _ _ (Fld.apart_of_off (by simp only [F.LNK_PEER_SEEN, F.LUP_STRUCT32]; omega))
  unfold Pkg.identityCause
  rw [Pkg.getF_setLport, Pkg.getF_setLport, hexp, hstruct]

theorem Pkg.linkSt_seen (k : Pkg) (n seen : Nat) : (k.setF (F.LNK_PEER_SEEN n) seen).linkSt n = k.linkSt n :=
  Pkg.getF_setF_apart _ _ _ _ (Fld.apart_of_off (by simp only [F.LNK_PEER_SEEN, F.LNK_ST]; omega))

/-- The sixteenth equal word decides (R396). -/
theorem Pkg.hearIdentity_decides {k : Pkg} {n word : Nat} (hst : k.linkSt n = 3) (hrun : (k.lport n).idRun = 15) (hlast : (k.lport n).idLast = word) :
    ∃ l, k.hearIdentity n word = if k.identityCause n word = 0 then ((k.setF (F.LNK_PEER_SEEN n) word).setLport n l).enterPort n 4
      else ((k.setF (F.LNK_PEER_SEEN n) word).setLport n l).miswire n (k.identityCause n word) := by
  refine ⟨{ k.lport n with idLast := word, idRun := 16 }, ?_⟩
  unfold Pkg.hearIdentity
  extract_lets l k₁ run k₂
  have hrun16 : run = 16 := by
    show (if l.idRun ≠ 0 ∧ l.idLast = word then l.idRun + 1 else 1) = 16
    rw [if_pos ⟨by rw [show l.idRun = 15 from hrun]; decide, hlast⟩, show l.idRun = 15 from hrun]
  have hk₂ : k₂ = (k.setF (F.LNK_PEER_SEEN n) word).setLport n { k.lport n with idLast := word, idRun := 16 } := by
    show k₁.setLport n { l with idLast := word, idRun := run } = _
    rw [hrun16]
  rw [if_pos ((k.linkSt_seen n word).trans hst), if_neg (by rw [hrun16]; decide), hk₂, Pkg.identityCause_seen]

/-- In QUALIFY a word is only shown. -/
theorem Pkg.hearIdentity_of_qualify {k : Pkg} {n : Nat} (word : Nat) (hst : k.linkSt n = 4) : k.hearIdentity n word = k.setF (F.LNK_PEER_SEEN n) word := by
  unfold Pkg.hearIdentity
  dsimp only
  rw [Pkg.linkSt_seen, hst, if_neg (by decide), if_neg (fun h => absurd h.1 (by decide))]

/-- What a decided port shows of its peer, its state and its cause. -/
theorem Pkg.hearIdentity_shows {k : Pkg} {n word : Nat} (hn : n < 20) (hst : k.linkSt n = 3) (hrun : (k.lport n).idRun = 15)
    (hlast : (k.lport n).idLast = word) :
    (k.hearIdentity n word).getF (F.LNK_PEER_SEEN n) = word % 2 ^ 64 ∧
      (k.hearIdentity n word).getF (F.LNK_ST n) = (if k.identityCause n word = 0 then 4 else 6) ∧
      (k.identityCause n word ≠ 0 → (k.hearIdentity n word).getF (F.LNK_MIS_CAUSE n) = k.identityCause n word % 2 ^ 3) := by
  obtain ⟨l, hdecided⟩ := Pkg.hearIdentity_decides hst hrun hlast
  have hseen : ((k.setF (F.LNK_PEER_SEEN n) word).setLport n l).getF (F.LNK_PEER_SEEN n) = word % 2 ^ 64 := by
    rw [Pkg.getF_setLport]
    exact Pkg.getF_setF_same _ _ _ rfl
  have hreg : linkRegs (F.LNK_PEER_SEEN n).off := by simp only [F.LNK_PEER_SEEN]; omega
  have hapart : ∀ {f : Fld}, f.off = 0x100000 + 0x4000 * n ∨ f.off = 0x100080 + 0x4000 * n → f.apart (F.LNK_PEER_SEEN n) = true :=
    fun hf => Fld.apart_of_off (by simp only [F.LNK_PEER_SEEN]; omega)
  have hkept : ∀ (j : Pkg) (st : Nat), st ≠ 5 → (j.enterPort n st).getF (F.LNK_PEER_SEEN n) = j.getF (F.LNK_PEER_SEEN n) :=
    fun j st h => j.enterPort_other hn h hreg (hapart (.inl rfl)) (hapart (.inl rfl)) (hapart (.inr rfl))
  rw [hdecided]
  split
  · next hcause => exact ⟨(hkept _ 4 (by decide)).trans hseen, Pkg.enterPort_st _ hn (by decide), fun h => absurd hcause h⟩
  · obtain ⟨hmis, hshown⟩ := Pkg.miswire_shows ((k.setF (F.LNK_PEER_SEEN n) word).setLport n l) (k.identityCause n word) hn
    refine ⟨?_, hmis, fun _ => hshown⟩
    rw [Pkg.miswire, Pkg.getF_raise_apart _ _ _ (hapart (.inr rfl)), hkept _ 6 (by decide), Pkg.getF_setF_apart _ _ _ _ (hapart (.inl rfl)),
      Pkg.getF_setF_apart _ _ _ _ (hapart (.inl rfl)), hseen]

/-- What a control frame says of the spare lane and the peer's lanes (R411). -/
def Pkg.hearSpare (k : Pkg) (n : Nat) (f : Frame) : Pkg :=
  let l := k.lport n
  let k := if k.linkSt n = 5 ∧ bit f.spareReq 7 then
      k.setLport n { l with peerSpare := some (f.spareReq % 8, f.switchAt) } else k
  let l := k.lport n
  let k := match l.spareReq with
    | some r => if bit f.spareAck 7 ∧ f.spareAck % 8 = k.logicalLane n r.lane then
        k.setLport n { l with spareReq := some { r with acked := true } } else k
    | none => k
  if k.linkSt n = 5 then k.setF (F.LNK_TX_ACTIVE n) f.rxActive else k

theorem Pkg.hearControl_eq (k : Pkg) (n : Nat) (f : Frame) : k.hearControl n f =
    if f.notice = 1 then (k.hearSpare n f).failPort n 3 else if f.notice = 2 then (k.hearSpare n f).peerReset n else k.hearSpare n f := rfl

/-- Beside UP, what is heard of spares changes no register. -/
theorem Pkg.getF_hearSpare {k : Pkg} {n : Nat} (f : Frame) (hst : k.linkSt n ≠ 5) (g : Fld) : (k.hearSpare n f).getF g = k.getF g := by
  unfold Pkg.hearSpare
  extract_lets l k₁ l₁ k₂
  have hk₁ : k₁ = k := if_neg (fun h => hst h.1)
  have hk₂ : ∃ l', k₂ = k ∨ k₂ = k.setLport n l' := by
    simp only [k₂, hk₁]
    split
    · next r _ =>
      refine ⟨{ l₁ with spareReq := some { r with acked := true } }, ?_⟩
      split
      · exact .inr rfl
      · exact .inl rfl
    · exact ⟨l, .inl rfl⟩
  have hst₂ : k₂.linkSt n = k.linkSt n := by
    obtain ⟨l', h | h⟩ := hk₂ <;> rw [h]
    exact Pkg.linkSt_setLport k n n l'
  rw [if_neg (by rw [hst₂]; exact hst)]
  obtain ⟨l', h | h⟩ := hk₂ <;> rw [h]
  exact Pkg.getF_setLport k n l' g

/-- LINK_RESET of the peer brings a port that trains to PEER_RESET (R423). -/
theorem Pkg.peerReset_st {k : Pkg} {n : Nat} (hn : n < 20) (hst : k.linkSt n = 4) : (k.peerReset n).getF (F.LNK_ST n) = 8 := by
  unfold Pkg.peerReset
  rw [if_neg (by rw [hst]; decide)]
  dsimp only
  rw [(Pkg.clearPort_frame _ hn).linkRegs.getF (f := F.LNK_ST n) (by simp only [F.LNK_ST]; omega), Pkg.getF_setLport,
    Pkg.getF_setF_apart _ _ _ _ (by simp [Fld.apart, F.LNK_RETRAINING, F.LNK_ST]),
    Pkg.getF_raise_apart _ _ _ (by simp [Fld.apart, F.LNK_EV_PEER_RESET, F.LNK_ST])]
  exact Pkg.enterPort_st _ hn (by decide)

/-! ### The commands -/

section Commands

variable {s : State} {p : PkgId} {port : PortId} {fr : Frame} {t₀ : Nat}

theorem dataFrameReceive_of_bad (hup : (s.pkg p).linkSt port = 5) :
    Completes (.dataFrameReceive p port fr false t₀) s (fun t => t.pkg p = ((s.pkg p).at t₀).badFrame port) :=
  completes_of_updPkg rfl fun _ ht => ht.trans ((if_neg (not_not.mpr hup)).trans (if_pos (.inl rfl)))

theorem dataFrameReceive_of_good (hup : (s.pkg p).linkSt port = 5) (htype : fr.type = 1) :
    Completes (.dataFrameReceive p port fr true t₀) s (fun t => t.pkg p = ((s.pkg p).at t₀).receiveData port fr) :=
  completes_of_updPkg rfl fun _ ht => ht.trans ((if_neg (not_not.mpr hup)).trans (if_neg (by rw [htype]; decide)))

theorem controlFrameReceive_of_bad (hst : (s.pkg p).linkSt port = 3 ∨ (s.pkg p).linkSt port = 4 ∨ (s.pkg p).linkSt port = 5 ∨ (s.pkg p).linkSt port = 6) :
    Completes (.controlFrameReceive p port fr false t₀) s (fun t => t.pkg p = ((s.pkg p).at (t₀ / 256)).badFrame port) := by
  refine completes_of_updPkg rfl fun _ ht => ht.trans ((if_neg ?_).trans (if_pos (.inl rfl)))
  rw [Pkg.linkSt_at]
  omega

/-- A good control frame at a port whose peer's word does not bring it to UP. -/
theorem controlFrameReceive_of_good (hst : (s.pkg p).linkSt port = 3 ∨ (s.pkg p).linkSt port = 4) (htype : fr.type = 2)
    (hafter : (((s.pkg p).at (t₀ / 256)).hearIdentity port fr.identity).linkSt port ≠ 5) :
    Completes (.controlFrameReceive p port fr true t₀) s (fun t =>
      t.pkg p = (((s.pkg p).at (t₀ / 256)).hearIdentity port fr.identity).hearControl port fr) := by
  refine completes_of_updPkg rfl fun _ ht => ht.trans ((if_neg ?_).trans ((if_neg ?_).trans ?_))
  · rw [Pkg.linkSt_at]
    omega
  · rw [htype]
    decide
  · show (if (((s.pkg p).at (t₀ / 256)).hearIdentity port fr.identity).linkSt port = 5 then _ else _ : Pkg).hearControl port fr = _
    rw [if_neg hafter]

end Commands

/-- Settles O9: bad frames, the let order, the sixteenth identity word, and the peer's notices. -/
theorem framesAreReceived : Obligations.FramesAreReceived := by
  unfold Obligations.FramesAreReceived
  constructor
  · intro s p port fr t₀ hup f
    refine ⟨(dataFrameReceive_of_bad hup).mono fun t ht => ?_, fun htype hplain => (dataFrameReceive_of_good hup htype).mono fun t ht => ?_⟩
    · rw [ht]
      exact ⟨Pkg.getF_inc_same _ _ rfl, rfl⟩
    · rw [ht]
      exact Pkg.receiveData_order (k := (s.pkg p).at t₀) port.isLt hup htype hplain
  · intro s p port fr t₀ st l
    refine ⟨fun hst => ?_, fun hst htype hnotice hrun hlast => ?_, fun hst htype hnotice => ?_, fun hst htype hnotice => ?_⟩
    · refine (controlFrameReceive_of_bad hst).mono fun t ht => ?_
      rw [ht]
      exact ⟨Pkg.getF_inc_same _ _ rfl, Pkg.getF_inc_apart _ _ _ (Fld.apart_of_off (by simp only [F.LNK_COUNTS, F.LNK_PEER_SEEN]; omega))⟩
    · obtain ⟨hseen, hstate, hcause⟩ := Pkg.hearIdentity_shows (k := (s.pkg p).at (t₀ / 256)) port.isLt hst hrun hlast
      have hafter : (((s.pkg p).at (t₀ / 256)).hearIdentity port fr.identity).linkSt port ≠ 5 := by
        rw [Pkg.linkSt_eq, hstate]
        split <;> decide
      refine (controlFrameReceive_of_good (.inl hst) htype hafter).mono fun t ht => ?_
      rw [ht, Pkg.hearControl_eq, if_neg (by rw [hnotice]; decide), if_neg (by rw [hnotice]; decide), Pkg.getF_hearSpare fr hafter,
        Pkg.getF_hearSpare fr hafter, Pkg.getF_hearSpare fr hafter]
      exact ⟨hseen, hstate, hcause⟩
    all_goals
      have hheard : ((s.pkg p).at (t₀ / 256)).hearIdentity port fr.identity = ((s.pkg p).at (t₀ / 256)).setF (F.LNK_PEER_SEEN port) fr.identity :=
        Pkg.hearIdentity_of_qualify fr.identity hst
      have hafter : (((s.pkg p).at (t₀ / 256)).hearIdentity port fr.identity).linkSt port = 4 := by
        rw [hheard, Pkg.linkSt_seen]
        exact hst
      have hnotUp : (((s.pkg p).at (t₀ / 256)).hearIdentity port fr.identity).linkSt port ≠ 5 := by rw [hafter]; decide
      have hspare : ((((s.pkg p).at (t₀ / 256)).hearIdentity port fr.identity).hearSpare port fr).linkSt port = 4 :=
        (Pkg.getF_hearSpare fr hnotUp _).trans hafter
      refine (controlFrameReceive_of_good (.inr hst) htype hnotUp).mono fun t ht => ?_
      rw [ht, Pkg.hearControl_eq, hnotice]
    · rw [if_pos rfl]
      obtain ⟨hfailed, hshown, -⟩ := Pkg.failPort_fails (cause := 3) _ port.isLt (by decide) (show _ ≠ 7 by rw [hspare]; decide)
      exact ⟨hfailed, hshown⟩
    · rw [if_neg (by decide), if_pos rfl]
      exact Pkg.peerReset_st port.isLt hspare

end Sys2Proof.Machine
end

section
/-! PROOFS. Packets forwarded (R433, R434, R483) and laid on a link by their class (R455, R457, R460, R465, R466). -/

namespace Sys2Proof.Machine

/-! ### What taking a packet from its buffer leaves alone -/

theorem Pkg.freeArrived_regs (k : Pkg) (a : Arrived) : (k.freeArrived a).regs = k.regs := by
  unfold Pkg.freeArrived
  dsimp only
  split
  · rfl
  · split <;> rfl

theorem Pkg.take_regs (k : Pkg) (p : Packet) : (k.take p).regs = k.regs := by
  unfold Pkg.take
  split
  · exact Pkg.freeArrived_regs _ _
  · rfl

theorem Pkg.getF_take (k : Pkg) (p : Packet) (f : Fld) : (k.take p).getF f = k.getF f :=
  (CellsKept.ofRegs (P := fun _ => True) (k.take_regs p)).getF trivial

theorem Pkg.take_now (k : Pkg) (p : Packet) : (k.take p).now = k.now := by
  obtain ⟨⟨r, f, w, h⟩, -⟩ := k.take_frame p
  rw [h]

theorem Pkg.expired_take (k : Pkg) (p q : Packet) : (k.take p).expired q = k.expired q := by
  unfold Pkg.expired
  rw [Pkg.getF_take, Pkg.take_now]

/-- A port whose queue stays keeps it, as every other port does. -/
theorem Pkg.queue_setFport (k : Pkg) {m : Nat} {g : FabPort} (h : g.queue = (k.fport m).queue) (n : Nat) :
    ((k.setFport m g).fport n).queue = (k.fport n).queue := by
  by_cases hm : m < 20
  · by_cases hmn : m = n
    · subst hmn
      rw [Pkg.fport_setFport_same _ hm, h]
    · rw [Pkg.fport_setFport_other _ hmn]
  · have hout : k.setFport m g = k := by
      unfold Pkg.setFport Vector.setIfInBounds
      have hsame : k.fab.ports.toArray.setIfInBounds m g = k.fab.ports.toArray := Array.setIfInBounds_eq_of_size_le (by simp; omega)
      simp [hsame]
    rw [hout]

theorem Pkg.queue_take (k : Pkg) (p : Packet) (n : Nat) : ((k.take p).fport n).queue = (k.fport n).queue := by
  unfold Pkg.take
  split
  · next a _ =>
    unfold Pkg.freeArrived
    extract_lets fab k' f i
    have hk' : (k'.fport n).queue = (k.fport n).queue := rfl
    have hfreed : ∀ g : FabPort, g.queue = f.queue → ((k'.setFport a.port g).fport n).queue = (k.fport n).queue :=
      fun g hg => (k'.queue_setFport hg n).trans hk'
    split
    · exact hk'
    · split <;> exact hfreed _ rfl
  · rfl

/-! ### Joining an output queue -/

/-- A packet joins the queue of its port, unchanged but for a congestion mark (R468). -/
theorem Pkg.enqueue_queue (k : Pkg) {n : Nat} (hn : n < 20) (q : Queued) :
    ∃ vc, ((k.enqueue n q).fport n).queue = (k.fport n).queue ++ [{ q with pkt := { q.pkt with vc := vc } }] := by
  unfold Pkg.enqueue
  extract_lets mark k₁ pkt q' f k₂
  have hq' : ∃ vc, q' = { q with pkt := { q.pkt with vc := vc } } := by
    simp only [q']
    split
    · exact ⟨q.pkt.vc + 32, rfl⟩
    · exact ⟨q.pkt.vc, rfl⟩
  have hf : f.queue = (k.fport n).queue := by
    show (k₁.fport n).queue = _
    simp only [k₁]
    split <;> rfl
  obtain ⟨vc, hvc⟩ := hq'
  obtain ⟨stop, hrefresh⟩ := Pkg.refreshQueue_fport (k₂.setFport n { f with queue := f.queue ++ [q'] }) hn
  refine ⟨vc, ?_⟩
  rw [hrefresh, Pkg.fport_setFport_same _ hn, ← hvc, ← hf]

/-- The level of a forwarded packet leaves the bits of its class alone. -/
theorem bit_withLevel (vc : Nat) {level : Nat} (h : level < 4) : bit (withLevel vc level) 3 = bit vc 3 := by
  unfold bit withLevel
  congr 1
  norm_num
  omega

theorem Pkg.forwardTo_queue (k : Pkg) {port : Nat} (hport : port < 20) (p : Packet) {level : Nat} (hlevel : level < 4) :
    (k.getF (F.LNK_ST port) = 5 → k.getF (F.LNK_MAPPED_OUT port) = 0 →
      ∃ q : Queued, ((k.forwardTo { p with vc := withLevel p.vc level } port).fport port).queue = (k.fport port).queue ++ [q] ∧ q.fwd = true ∧
        q.sched = !p.isOpen ∧ { q.pkt with vc := p.vc } = p) ∧
      (k.getF (F.LNK_ST port) ≠ 5 ∨ k.getF (F.LNK_MAPPED_OUT port) = 1 →
        ((k.forwardTo { p with vc := withLevel p.vc level } port).fport port).queue = (k.fport port).queue) := by
  unfold Pkg.forwardTo
  refine ⟨fun hup hmapped => ?_, fun hdown => ?_⟩
  · rw [if_pos ⟨hup, (Pkg.flag_eq_false_iff _ _).mpr (by rw [hmapped]; decide)⟩]
    obtain ⟨vc, hqueue⟩ := k.enqueue_queue hport
      { pkt := { p with vc := withLevel p.vc level }, sched := !({ p with vc := withLevel p.vc level } : Packet).isOpen, fwd := true, since := k.now, chan := 0 }
    exact ⟨_, hqueue, rfl, congrArg (!·) (bit_withLevel p.vc hlevel), rfl⟩
  · rw [if_neg]
    rintro ⟨hup, hmapped⟩
    rw [Pkg.flag_eq_false_iff] at hmapped
    exact hdown.elim (absurd hup) hmapped

theorem hopPort_lt_braid (h : Nat) : hopPort h < 16 := by
  unfold hopPort
  split <;> omega

/-- The next hop of a packet on the braid (R433). -/
def Packet.nextHop (p : Packet) : Option Nat :=
  if bit p.route 13 then some (bits p.route 3 0) else (routeHops p.route)[bits p.hops 6 0]?

/-- A packet on the braid goes on along its route word, its level at most 3. -/
theorem Pkg.forward_of_hop {k : Pkg} {port h : Nat} {p : Packet} (hactive : k.lup.active.isSome = true) (hport : port < 16) (hhop : p.nextHop = some h) :
    hopPort h < 16 ∧ ∃ level, level < 4 ∧ k.forward port p = k.forwardTo { p with vc := withLevel p.vc level } (hopPort h) := by
  obtain ⟨l, hl⟩ := Option.isSome_iff_exists.mp hactive
  unfold Packet.nextHop at hhop
  unfold Pkg.forward
  rw [hl]
  dsimp only
  rw [if_neg (fun hc => absurd hc.2 (by omega))]
  by_cases hline : bit p.route 13 = true
  · rw [if_pos hline] at hhop
    obtain rfl := Option.some.inj hhop
    rw [if_pos hline]
    refine ⟨hopPort_lt_braid _, _, ?_, rfl⟩
    split <;> decide
  · rw [if_neg hline] at hhop
    rw [if_neg hline, hhop]
    obtain ⟨hlt, -⟩ := List.getElem?_eq_some_iff.mp hhop
    have hhops : routeHops p.route = [bits p.route 3 0, bits p.route 7 4, bits p.route 11 8].take (bits p.route 15 14) := if_neg hline
    have hlevel : bits p.hops 6 0 < 3 := by
      rw [hhops] at hlt
      exact Nat.lt_of_lt_of_le hlt (List.length_take_le' _ _)
    exact ⟨hopPort_lt_braid _, _, Nat.lt_succ_of_lt hlevel, rfl⟩

theorem packetForward_of_expired {s : State} {p : PkgId} {port : PortId} {pkt : Packet} {t₀ : Nat} (h : ((s.pkg p).at t₀).expired pkt = true) :
    Completes (.packetForward p port pkt t₀) s (fun t => t.pkg p = (((s.pkg p).at t₀).take pkt).inc (F.FAB_COUNTS 6)) :=
  completes_of_updPkg rfl fun _ ht => ht.trans (if_pos ((Pkg.expired_take _ _ _).trans h))

theorem Pkg.target_take (k : Pkg) (p : Packet) : (k.take p).target = k.target := by
  obtain ⟨⟨r, f, w, h⟩, -⟩ := k.take_frame p
  have hid : (k.take p).id = k.id := by rw [h]; rfl
  unfold Pkg.target Pkg.rack
  rw [Pkg.getF_take, hid]

theorem packetForward_of_live {s : State} {p : PkgId} {port : PortId} {pkt : Packet} {t₀ : Nat} (h : ((s.pkg p).at t₀).expired pkt = false)
    (hdst : pkt.dst ≠ (s.pkg p).target) :
    Completes (.packetForward p port pkt t₀) s (fun t => t.pkg p = (((s.pkg p).at t₀).take pkt).forward port pkt) := by
  refine completes_of_updPkg rfl fun _ ht => ht.trans ((if_neg ?_).trans (if_neg ?_))
  · rw [Pkg.expired_take, h]
    exact Bool.false_ne_true
  · rw [Pkg.target_take]
    exact hdst

/-- Settles O11: a live packet goes to the port of its next hop, or is discarded there. -/
theorem packetsAreForwarded : Obligations.PacketsAreForwarded := by
  unfold Obligations.PacketsAreForwarded
  intro s p port pkt t₀
  refine ⟨fun hexpired => ?_, fun h hlive hactive hdst hport hhop => ?_⟩
  · refine (packetForward_of_expired hexpired).mono fun t ht => ?_
    rw [ht, Pkg.getF_inc_same _ _ rfl, Pkg.getF_take]
    rfl
  · refine (packetForward_of_live hlive hdst).mono fun t ht => ?_
    have hactive' : (((s.pkg p).at t₀).take pkt).lup.active.isSome = true := by
      obtain ⟨⟨r, f, w, h⟩, -⟩ := ((s.pkg p).at t₀).take_frame pkt
      rw [h]
      exact hactive
    obtain ⟨hlt, level, hlevel, hforward⟩ := Pkg.forward_of_hop hactive' hport hhop
    have hqueue := (((s.pkg p).at t₀).take pkt).forwardTo_queue (port := hopPort h) (by omega) pkt hlevel
    rw [ht, hforward]
    rw [Pkg.getF_take, Pkg.getF_take, Pkg.queue_take] at hqueue
    exact hqueue

end Sys2Proof.Machine
end

section
/-! PROOFS. Packets laid on a link by their class (R455, R457, R460, R465, R466), and the source's timers (R480, R489, R490). -/

namespace Sys2Proof.Machine

theorem Pkg.releaseHeld_of_none {k : Pkg} (h : k.fab.held = []) : k.releaseHeld = k := by
  unfold Pkg.releaseHeld
  rw [h, List.foldl_nil, ← h]

/-! ### The open class -/

/-- The port that lays an open-class packet on its link: the packet leaves the queue, is served, and its credits are spent (R466, R474). -/
def FabPort.layOpen (f : FabPort) (q : Queued) : FabPort :=
  (({ f with queue := f.queue.erase q
             served := f.served.set q.pkt.slot (f.served.getD q.pkt.slot 0 + q.pkt.size) } : FabPort).spendCredits q.pkt).lay q.pkt

theorem FabPort.layOpen_fields (f : FabPort) (q : Queued) :
    (f.layOpen q).queue = f.queue.erase q ∧ (f.layOpen q).txBytes = (f.lay q.pkt).txBytes ∧ (f.layOpen q).txStarts = (f.lay q.pkt).txStarts ∧
      (f.layOpen q).crSpent = (f.spendCredits q.pkt).crSpent ∧ (f.layOpen q).shSpent = (f.spendCredits q.pkt).shSpent :=
  ⟨rfl, rfl, rfl, rfl, rfl⟩

theorem Pkg.refreshQueue_held (k : Pkg) (n : Nat) : (k.refreshQueue n).fab.held = k.fab.held := by
  unfold Pkg.refreshQueue
  extract_lets f held stop k₁ k₂ k₃ k₄
  have hk₄ : k₄.fab.held = k.fab.held := by
    simp only [k₄]
    split <;> rfl
  exact hk₄

theorem Pkg.sendOpen_of_next {k : Pkg} {n : Nat} {q : Queued} (hn : n < 20) (hheld : k.fab.held = []) (hnext : k.nextOpen n = some q)
    (hup : k.linkSt n = 5) (hslot : linkTicks q.pkt.size ≤ k.ticksToSlot n k.now) :
    ∃ stop, (k.sendOpen n).fport n = { (k.fport n).layOpen q with stopped := stop } := by
  unfold Pkg.sendOpen
  rw [Pkg.releaseHeld_of_none hheld]
  dsimp only
  rw [hnext]
  dsimp only
  rw [if_pos ⟨hup, hslot⟩]
  obtain ⟨stop, hrefresh⟩ := Pkg.refreshQueue_fport ((k.setFport n ((k.fport n).layOpen q)).setF (F.FAB_SHARED_HELD n)
    ((2 ^ 32 + ((k.fport n).layOpen q).shHeard - ((k.fport n).layOpen q).shSpent) % 2 ^ 32)) hn
  have hnone : ((((k.setFport n ((k.fport n).layOpen q)).setF (F.FAB_SHARED_HELD n)
      ((2 ^ 32 + ((k.fport n).layOpen q).shHeard - ((k.fport n).layOpen q).shSpent) % 2 ^ 32)).refreshQueue n)).fab.held = [] :=
    (Pkg.refreshQueue_held _ _).trans hheld
  refine ⟨stop, ?_⟩
  rw [Pkg.fport_setF, Pkg.fport_setFport_same _ hn] at hrefresh
  exact (congrArg (fun j => Pkg.fport j n) (Pkg.releaseHeld_of_none hnone)).trans hrefresh

/-! ### Slots -/

/-- The one waiting packet of a FORWARD entry is its slot's candidate (R458). -/
theorem Pkg.slotCandidates_forward {k : Pkg} {sl : Nat} {e : TmplEntry} {q : Queued} (hkind : e.kind = 1) (hqueue : (k.fport e.orig).queue = [q])
    (hsched : q.sched = true) (hfwd : q.fwd = true) (hslot : q.pkt.slot = sl) (hsid : q.pkt.sid = e.who) :
    k.slotCandidates sl e = [(q, q.pkt)] := by
  unfold Pkg.slotCandidates
  dsimp only
  rw [if_neg (by omega), if_pos hkind, hqueue]
  simp [hsched, hfwd, hslot, hsid]

/-- A packet that fits in its slot is laid on the link of the entry's port. -/
theorem Pkg.runEntry_forward {k : Pkg} {sl n : Nat} {e : TmplEntry} {q : Queued} (hkind : e.kind = 1) (hport : e.port = n) (horig : e.orig = n)
    (hqueue : (k.fport n).queue = [q]) (hsched : q.sched = true) (hfwd : q.fwd = true) (hslot : q.pkt.slot = sl) (hsid : q.pkt.sid = e.who)
    (hsize : q.pkt.size ≤ 8232) (hn : n < 20) :
    ((k.runEntry sl e).fport n) = ({ k.fport n with queue := [] } : FabPort).lay q.pkt ∧ (k.runEntry sl e).fab.held = k.fab.held := by
  have hfit : fitSlot 8232 (k.slotCandidates sl e) = [(q, q.pkt)] := by
    rw [Pkg.slotCandidates_forward hkind (by rw [horig]; exact hqueue) hsched hfwd hslot hsid]
    simp [fitSlot, hsize]
  unfold Pkg.runEntry
  rw [hfit, List.foldl_cons, List.foldl_nil, horig, hport]
  dsimp only
  rw [Pkg.fport_setFport_same _ hn, Pkg.fport_setFport_same _ hn, hqueue, List.erase_cons_head]
  exact ⟨rfl, rfl⟩

theorem FabPort.lay_emptied (f : FabPort) (p : Packet) :
    (({ f with queue := [] } : FabPort).lay p).queue = [] ∧ (({ f with queue := [] } : FabPort).lay p).txBytes = (f.lay p).txBytes := ⟨rfl, rfl⟩

/-! ### Scheduled packets that go open -/

/-- A forwarded packet whose stream had no entry for one period (R460). -/
def Pkg.entryless (k : Pkg) (n : Nat) (q : Queued) : Bool :=
  q.sched && q.fwd && decide (q.since + (k.tables q.pkt.slot).period * 2048 ≤ k.now) &&
    !(k.tables q.pkt.slot).active.any (fun e => e.kind == 1 && e.port == n && e.who == q.pkt.sid)

/-- The packet in the open class. -/
def Queued.toOpen (q : Queued) : Queued := { q with sched := false, pkt := { q.pkt with vc := q.pkt.vc + (if q.pkt.isOpen then 0 else 8) } }

theorem Pkg.schedToOpen_eq (k : Pkg) (n : Nat) : k.schedToOpen n =
    ((k.setFport n { k.fport n with queue := (k.fport n).queue.map (fun q => if k.entryless n q then q.toOpen else q) }).addSat (F.FAB_COUNTS 9)
      ((k.fport n).queue.filter (k.entryless n)).length).refreshQueue n := rfl

/-- The fabric's counters are not among the registers of a queue. -/
theorem Pkg.getF_refreshQueue (k : Pkg) (n : Nat) {f : Fld} (hf : f.off < 0x200A00) : (k.refreshQueue n).getF f = k.getF f := by
  have hport : ∀ {g : Fld}, g.off = 0x201000 + 0x40 * n → g.apart f = true := fun hg => Fld.apart_of_off (by omega)
  unfold Pkg.refreshQueue
  extract_lets g held stop k₁ k₂ k₃ k₄
  have hk₃ : k₃.getF f = k.getF f :=
    (Pkg.getF_setF_apart _ _ _ _ (hport rfl)).trans ((Pkg.getF_setF_apart _ _ _ _ (hport rfl)).trans (Pkg.getF_setF_apart _ _ _ _ (hport rfl)))
  have hk₄ : k₄.getF f = k.getF f := by
    simp only [k₄]
    split
    · exact (Pkg.getF_raise_apart _ _ _ (Fld.apart_of_off (by simp only [F.FAB_EV_W2]; omega))).trans hk₃
    · exact hk₃
  exact (Pkg.getF_setFport _ _ _ _).trans hk₄

theorem Pkg.schedToOpen_of_one {k : Pkg} {n : Nat} {q : Queued} (hn : n < 20) (hqueue : (k.fport n).queue = [q]) (hdue : k.entryless n q = true) :
    ((k.schedToOpen n).fport n).queue = [q.toOpen] ∧
      (k.schedToOpen n).getF (F.FAB_COUNTS 9) = min (2 ^ 64 - 1) (k.getF (F.FAB_COUNTS 9) + 1) := by
  rw [Pkg.schedToOpen_eq, hqueue, List.filter_cons_of_pos hdue, List.map_cons, if_pos hdue]
  obtain ⟨stop, hrefresh⟩ := Pkg.refreshQueue_fport ((k.setFport n { k.fport n with queue := [q.toOpen] }).addSat (F.FAB_COUNTS 9) 1) hn
  have hport : ((k.setFport n { k.fport n with queue := [q.toOpen] }).addSat (F.FAB_COUNTS 9) 1).fport n = { k.fport n with queue := [q.toOpen] } :=
    Pkg.fport_setFport_same k hn _
  refine ⟨?_, ?_⟩
  · exact (congrArg FabPort.queue hrefresh).trans (congrArg FabPort.queue hport)
  · exact (Pkg.getF_refreshQueue _ n (by decide)).trans (Pkg.getF_addSat_same (k.setFport n _) (F.FAB_COUNTS 9) 1 rfl)

/-- Settles O12: an open packet, the packet of a slot's entry, and a packet without an entry. -/
theorem packetsLeaveByClass : Obligations.PacketsLeaveByClass := by
  unfold Obligations.PacketsLeaveByClass
  intro s p port hup f
  have hn := port.isLt
  refine ⟨fun t₀ q hheld hnext hslot => ?_, fun t₀ j sl e q hat hj hallowed hheld howner hentries hplans hkind hport horig hqueue hsched hfwd hqslot hsid hsize => ?_,
    fun t₀ q hqueue hsched hfwd hclosed hdue hnone => ?_⟩
  · refine completes_of_updPkg (f := fun k => (k.at t₀).sendOpen port) rfl fun t ht => ?_
    obtain ⟨stop, hsent⟩ := Pkg.sendOpen_of_next (k := (s.pkg p).at t₀) hn hheld hnext hup hslot
    rw [ht, hsent]
    exact FabPort.layOpen_fields f q
  · refine completes_of_updPkg (f := fun k => (k.at t₀).openSlot port j t₀) rfl fun t ht => ?_
    obtain ⟨hlaid, hheld'⟩ := Pkg.runEntry_forward (k := (s.pkg p).at t₀) hkind hport horig hqueue hsched hfwd hqslot hsid hsize hn
    obtain ⟨hempty, hbytes⟩ := FabPort.lay_emptied f q.pkt
    obtain ⟨stop, hrefresh⟩ := Pkg.refreshQueue_fport (((s.pkg p).at t₀).runEntry sl e) hn
    have hopened : ((s.pkg p).at t₀).openSlot port j t₀ = (((s.pkg p).at t₀).runEntry sl e).refreshQueue port := by
      unfold Pkg.openSlot
      rw [if_neg (by
        rintro (h | h | h | h)
        · exact h hat
        · omega
        · exact h hup
        · exact absurd (hallowed.symm.trans h) (by decide))]
      rw [show ((s.pkg p).at t₀).slotOwner port j t₀ = some sl from howner]
      dsimp only
      rw [show (((s.pkg p).at t₀).tables sl).plans = [] from hplans, List.flatMap_nil, List.filter_nil,
        show ((s.pkg p).at t₀).slotEntries sl port j [] = [e] from hentries, List.foldl_cons, List.foldl_nil]
      exact Pkg.releaseHeld_of_none ((Pkg.refreshQueue_held _ _).trans (hheld'.trans hheld))
    rw [ht, hopened, hrefresh, hlaid]
    exact ⟨hempty, hbytes⟩
  · refine completes_of_updPkg (f := fun k => (k.at t₀).schedToOpen port) rfl fun t ht => ?_
    have hentryless : ((s.pkg p).at t₀).entryless port q = true := by
      have hany : ((s.pkg p).tables q.pkt.slot).active.any (fun e => e.kind == 1 && e.port == port.val && e.who == q.pkt.sid) = false := by
        rw [List.any_eq_false]
        intro e he
        simpa [and_assoc] using hnone e he
      have hdue' : decide (q.since + (((s.pkg p).at t₀).tables q.pkt.slot).period * 2048 ≤ ((s.pkg p).at t₀).now) = true := decide_eq_true hdue
      unfold Pkg.entryless
      rw [hsched, hfwd, hdue', show (((s.pkg p).at t₀).tables q.pkt.slot).active.any _ = false from hany]
      rfl
    have hopen : q.toOpen = { q with sched := false, pkt := { q.pkt with vc := q.pkt.vc + 8 } } := by
      unfold Queued.toOpen
      rw [hclosed]
      rfl
    rw [ht, ← hopen]
    exact Pkg.schedToOpen_of_one (k := (s.pkg p).at t₀) hn hqueue hentryless

end Sys2Proof.Machine
end

section
/-! PROOFS. The source's timers (R480, R489, R490) and the loading of tables (R462). -/

namespace Sys2Proof.Machine

/-! ### A packet sent again -/

theorem Pkg.ringLevel_lt (k : Pkg) (l : Lineup) (row past : Bool) : k.ringLevel l row past < 4 := by
  unfold Pkg.ringLevel
  dsimp only
  split <;> split <;> decide

/-- A way out starts at one of four levels. -/
theorem Pkg.wayOut_level {k : Pkg} {dst mask start rw port level : Nat} (h : k.wayOut dst mask start = some (rw, port, level)) : level < 4 := by
  unfold Pkg.wayOut at h
  dsimp only at h
  split at h
  · split at h
    · cases h
    · obtain ⟨prev, -, heq⟩ := Option.map_eq_some_iff.mp h
      obtain ⟨-, -, rfl⟩ := Prod.mk.inj heq |>.imp_right Prod.mk.inj
      exact Pkg.ringLevel_lt _ _ _ _
  · obtain ⟨w, -, heq⟩ := Option.map_eq_some_iff.mp h
    obtain ⟨-, -, rfl⟩ := Prod.mk.inj heq |>.imp_right Prod.mk.inj
    split <;> decide

theorem Pkg.unacked_setF (k : Pkg) (f : Fld) (v : Nat) : (k.setF f v).fab.unacked = k.fab.unacked := rfl

theorem Pkg.unacked_setFport (k : Pkg) (n : Nat) (f : FabPort) : (k.setFport n f).fab.unacked = k.fab.unacked := rfl

theorem Pkg.unacked_moveBytes (k : Pkg) (s n : Nat) : (k.moveBytes s n).fab.unacked = k.fab.unacked := rfl

theorem Pkg.refreshQueue_unacked (k : Pkg) (n : Nat) : (k.refreshQueue n).fab.unacked = k.fab.unacked := by
  unfold Pkg.refreshQueue
  extract_lets f held stop k₁ k₂ k₃ k₄
  have hk₄ : k₄.fab.unacked = k.fab.unacked := by
    simp only [k₄]
    split <;> rfl
  exact hk₄

/-- A packet on its way leaves the unacknowledged packets alone. -/
theorem Pkg.enqueue_unacked (k : Pkg) (n : Nat) (q : Queued) : (k.enqueue n q).fab.unacked = k.fab.unacked := by
  unfold Pkg.enqueue Pkg.inc Pkg.addSat
  dsimp only
  rw [Pkg.refreshQueue_unacked, Pkg.unacked_setFport, Pkg.unacked_moveBytes]
  split
  · exact Pkg.unacked_setF _ _ _
  · rfl

theorem Pkg.launch_unacked (k : Pkg) (p : Packet) (sched : Bool) (chan port : Nat) : (k.launch p sched chan port).fab.unacked = k.fab.unacked := by
  unfold Pkg.launch
  split
  · rfl
  · exact Pkg.enqueue_unacked _ _ _

/-- A packet that is sent again: RESEND set, the same sequence and birth time, a route chosen afresh (R480). -/
def Unacked.again (u : Unacked) (rw level : Nat) : Packet :=
  { u.pkt with
    vc := bits u.pkt.vc 7 7 * 128 + 64 + bits u.pkt.vc 4 4 * 16 + bits u.pkt.vc 3 3 * 8 + level
    route := rw, hops := 0 }

theorem Unacked.resend_bit (u : Unacked) (rw : Nat) {level : Nat} (h : level < 4) : bit (u.again rw level).vc 6 = true := by
  have h7 : bits u.pkt.vc 7 7 < 2 := Nat.mod_lt _ (by decide)
  have h4 : bits u.pkt.vc 4 4 < 2 := Nat.mod_lt _ (by decide)
  have h3 : bits u.pkt.vc 3 3 < 2 := Nat.mod_lt _ (by decide)
  unfold bit Unacked.again
  rw [beq_iff_eq]
  dsimp only
  norm_num
  omega

/-- The resent packet stands among the unacknowledged ones with its new route and time. -/
theorem Pkg.resend_unacked {k : Pkg} {u : Unacked} {rw port level : Nat} (hdst : u.pkt.dst ≠ k.target)
    (hway : k.wayOut u.pkt.dst 0 0 = some (rw, port, level)) :
    (k.resend u).fab.unacked = k.fab.unacked.map (fun v => if v = u then
      { v with pkt := { u.again rw level with crc := (u.again rw level).goodCrc }, sentAt := k.now } else v) := by
  unfold Pkg.resend
  extract_lets way
  have hway' : way = some (rw, port, level) := (if_neg hdst).trans hway
  rw [hway']
  dsimp only
  rw [Pkg.launch_unacked]
  show (if u.sched = true then _ else Fabric.spend _ _ _ : Fabric).unacked = _
  split <;> rfl

theorem resendTimeout_of_due {s : State} {p : PkgId} {t₀ dst : Nat} {sl : SlotId} {sid seq : Nat} {u : Unacked}
    (hu : (s.pkg p).fab.unackedAt dst sl sid seq = some u) (hdue : u.sentAt + (s.pkg p).getF F.FAB_RESEND ≤ max (s.pkg p).now t₀)
    (hmay : u.sched = true ∨ (s.pkg p).fab.mayInject u.pkt.dst = true) :
    Completes (.resendTimeout p dst sl sid seq t₀) s (fun t => t.pkg p = (((s.pkg p).at t₀).resend u).settleAll) := by
  refine completes_of_updPkg (f := fun k => match (k.at t₀).fab.unackedAt dst sl sid seq with
    | some u => if u.sentAt + (k.at t₀).getF F.FAB_RESEND ≤ (k.at t₀).now ∧ (u.sched = true ∨ (k.at t₀).fab.mayInject u.pkt.dst = true)
      then ((k.at t₀).resend u).settleAll else k.at t₀
    | none => k.at t₀) rfl fun t ht => ?_
  rw [ht, show ((s.pkg p).at t₀).fab.unackedAt dst sl sid seq = some u from hu]
  exact if_pos ⟨hdue, hmay⟩

/-! ### Receive windows and streams -/

theorem Pkg.refreshWindows_fab (k : Pkg) : k.refreshWindows.fab = k.fab := rfl

/-- A window of a stream that has been idle (R489). -/
def RxWindow.idle (w : RxWindow) (src slot sid now : Nat) : Bool :=
  w.src == src && w.slot == slot && w.stream == sid && decide (w.lastAccept + 8000000 ≤ now)

theorem exec_windowIdleFree (s : State) (p : PkgId) (src : Nat) (sl : SlotId) (sid t₀ : Nat) :
    exec (.windowIdleFree p src sl sid t₀) s = .next (s.updPkg p (fun k =>
      ({ k.at t₀ with fab := { k.fab with windows := k.fab.windows.filter (fun w => !w.idle src sl sid (k.at t₀).now) } } : Pkg).refreshWindows)) := rfl

theorem Pkg.tables_setTables_same (k : Pkg) {s : Nat} (hs : s < 4) (t : FabTables) : (k.setTables s t).tables s = t := by
  simp [Pkg.tables, Pkg.setTables, List.getD, hs]

/-- The end of a slot's quiet time (R490). -/
def Pkg.endQuiet (k : Pkg) (sl : Nat) : Pkg :=
  let j := k.setTables sl { k.tables sl with quietUntil := 0 }
  { j with fab := { j.fab with streams := k.fab.streams.filter (fun x => x.slot != sl) } }

theorem sequenceQuietEnd_of_over {s : State} {p : PkgId} {sl : SlotId} {t₀ : Nat} (hheld : (s.pkg p).fab.held = [])
    (hquiet : 0 < ((s.pkg p).tables sl).quietUntil) (hover : ((s.pkg p).tables sl).quietUntil ≤ max (s.pkg p).now t₀) :
    Completes (.sequenceQuietEnd p sl t₀) s (fun t => t.pkg p = ((s.pkg p).at t₀).endQuiet sl) := by
  refine completes_of_updPkg (f := fun k => if 0 < ((k.at t₀).tables sl).quietUntil ∧ ((k.at t₀).tables sl).quietUntil ≤ (k.at t₀).now
    then ((k.at t₀).endQuiet sl).releaseHeld else k.at t₀) rfl fun t ht => ?_
  rw [ht]
  exact (if_pos ⟨hquiet, hover⟩).trans (Pkg.releaseHeld_of_none hheld)

theorem Pkg.endQuiet_nextSeq (k : Pkg) (sl sid : Nat) : (k.endQuiet sl).fab.nextSeq sl sid = 0 := by
  have hnone : (k.fab.streams.filter (fun x => x.slot != sl)).find? (fun t => t.slot == sl && t.stream == sid) = none := by
    rw [List.find?_eq_none]
    intro x hx
    have hslot := (List.mem_filter.mp hx).2
    simp only [bne_iff_ne] at hslot
    simp [hslot]
  show ((((k.fab.streams.filter (fun x => x.slot != sl)).find? (fun t => t.slot == sl && t.stream == sid)).map StreamTx.next).getD 0) = 0
  rw [hnone]
  rfl

/-- Settles O13: a due packet goes again; an idle window is freed; a slot's streams start again. -/
theorem fabricTimersAndTables : Obligations.FabricTimersAndTables := by
  unfold Obligations.FabricTimersAndTables
  refine ⟨fun s p t₀ dst sl sid seq u hu hdue hmay => resendTimeout_of_due hu hdue hmay, fun s p t₀ u rw port level hmem hdst hway => ?_,
    fun s p src sl sid t₀ => ?_, fun s p sl t₀ hheld hquiet hover => ?_⟩
  · refine ⟨{ u with pkt := { u.again rw level with crc := (u.again rw level).goodCrc }, sentAt := max (s.pkg p).now t₀ }, ?_, rfl, rfl, rfl,
      u.resend_bit rw (Pkg.wayOut_level hway), rfl, rfl⟩
    rw [Pkg.resend_unacked (k := (s.pkg p).at t₀) hdst hway]
    exact List.mem_map.mpr ⟨u, hmem, if_pos rfl⟩
  · refine completes_of_updPkg (exec_windowIdleFree s p src sl sid t₀) fun t ht w => ?_
    rw [ht, Pkg.refreshWindows_fab]
    simp only [List.mem_filter, RxWindow.idle, Bool.not_eq_true', Bool.and_eq_false_iff, beq_eq_false_iff_ne, decide_eq_false_iff_not, not_and_or, ne_eq, or_assoc]
    rfl
  · refine (sequenceQuietEnd_of_over hheld hquiet hover).mono fun t ht => ?_
    rw [ht]
    refine ⟨?_, fun sid => Pkg.endQuiet_nextSeq _ sl sid⟩
    exact congrArg FabTables.quietUntil (((s.pkg p).at t₀).tables_setTables_same sl.isLt { ((s.pkg p).at t₀).tables sl with quietUntil := 0 })

/-! ### Loading a template (R462) -/

theorem fabLoad_completes {s : State} {p : PkgId} {src : CsrSource} {sl : SlotId} (epoch t₀ : Nat) (hsrc : src = .pf ∨ src = .vf sl) :
    Completes (.fabLoad p src sl epoch t₀) s (fun t => ∃ j : Pkg, t.pkg p = j.setTables sl { j.tables sl with loadEpoch := some (epoch % 2 ^ 43) }) := by
  obtain rfl | rfl := hsrc
  · exact completes_of_updPkg rfl fun _ ht => ⟨_, ht⟩
  · exact completes_of_updPkg rfl fun _ ht => ⟨_, ht.trans (if_pos rfl)⟩

/-- A load that is refused reports its status (R462). -/
def Pkg.refuseLoad (k : Pkg) (slot : Nat) (st : Status) : Pkg :=
  (k.report (F.FAB_LOAD_CODE slot) st .slot slot 0).raise F.FAB_EV_LOAD_FAIL

/-- The slot's load, begun: it is no longer scheduled. -/
def Pkg.beginLoad (k : Pkg) (slot : Nat) : Pkg := k.setTables slot { k.tables slot with loadEpoch := none }

theorem Pkg.refuseLoad_tables (k : Pkg) (slot : Nat) (st : Status) (sl : Nat) : (k.refuseLoad slot st).tables sl = k.tables sl := by
  have hlog : ∀ j : Pkg, (j.logError st .slot slot 0).tables sl = j.tables sl := fun j => by
    obtain ⟨⟨r, n, h⟩, -⟩ := Pkg.logError_frame j st .slot slot 0
    rw [h]
    rfl
  show ((k.report (F.FAB_LOAD_CODE slot) st .slot slot 0)).tables sl = k.tables sl
  unfold Pkg.report
  dsimp only
  split
  · rfl
  · rw [hlog]
    rfl

theorem Pkg.refuseLoad_shows (k : Pkg) {slot : Nat} (hs : slot < 4) (st : Status) :
    (k.refuseLoad slot st).getF (F.FAB_LOAD_CODE slot) = st % 2 ^ 16 ∧ (k.refuseLoad slot st).getF F.FAB_EV_LOAD_FAIL = 1 ∧
      (k.refuseLoad slot st).getF (F.FAB_LOADED slot) = k.getF (F.FAB_LOADED slot) := by
  have hevent : ∀ {f : Fld}, f.off = 0x200120 + 0x40 * slot → F.FAB_EV_LOAD_FAIL.apart f = true := fun hf =>
    Fld.apart_of_off (by simp only [F.FAB_EV_LOAD_FAIL]; omega)
  have hcode : (F.FAB_LOAD_CODE slot).apart (F.FAB_LOADED slot) = true := by simp [Fld.apart, F.FAB_LOAD_CODE, F.FAB_LOADED]
  have hlow : 0x200120 + 0x40 * slot < 0x3000000 := by omega
  refine ⟨?_, Pkg.getF_raise_same _ _ rfl (Nat.le_refl 1), ?_⟩
  · exact (Pkg.getF_raise_apart _ _ _ (hevent rfl)).trans ((Pkg.getF_report _ _ _ _ _ _ _ hlow).trans (Pkg.getF_setF_same _ _ _ rfl))
  · exact (Pkg.getF_raise_apart _ _ _ (hevent rfl)).trans ((Pkg.getF_report _ _ _ _ _ _ _ hlow).trans (Pkg.getF_setF_apart _ _ _ _ hcode))

/-- A period or a number of entries out of range is refused. -/
theorem Pkg.loadTemplate_of_badSize {k : Pkg} {slot t e : Nat} (hload : (k.tables slot).loadEpoch = some e) (hdue : e * 2097152 ≤ t)
    (hbad : k.getF (F.FAB_PERIOD slot) = 0 ∨ 4096 < k.getF (F.FAB_PERIOD slot) ∨ 180 * k.getF (F.FAB_PERIOD slot) < k.getF (F.FAB_ENTRIES slot)) :
    k.loadTemplate slot t = (k.beginLoad slot).refuseLoad slot 0x3105 := by
  unfold Pkg.loadTemplate
  extract_lets tb
  rw [show tb.loadEpoch = some e from hload]
  dsimp only
  rw [show epochTicks = 2097152 from rfl, if_neg (Nat.not_lt.mpr hdue)]
  exact if_pos hbad

/-- The tables come into force. -/
def Pkg.installTables (k : Pkg) (slot period : Nat) (chans tmpl : List Bytes) : Pkg :=
  ((k.setTables slot { k.tables slot with chans := chans.map readChannel, tmpl := tmpl.map readTmpl, period := period
                                          active := (tmpl.map readTmpl).filter (fun e => decide (e.kind < 2)) }).setF (F.FAB_LOADED slot) 1).setF
    (F.FAB_LOAD_CODE slot) 0

theorem Pkg.loadTemplate_of_good {k k₁ k₂ : Pkg} {slot t e : Nat} {cb eb : Bytes} (hload : (k.tables slot).loadEpoch = some e) (hdue : e * 2097152 ≤ t)
    (hlow : 1 ≤ k.getF (F.FAB_PERIOD slot)) (hhigh : k.getF (F.FAB_PERIOD slot) ≤ 4096)
    (hentries : k.getF (F.FAB_ENTRIES slot) ≤ 180 * k.getF (F.FAB_PERIOD slot))
    (hchans : (k.beginLoad slot).hubRead slot (k.getF (F.FAB_CHAN_VA slot) * 2 ^ 14) 16384 = (k₁, cb, none))
    (htmpl : k₁.hubRead slot (k₁.getF (F.FAB_TMPL_VA slot) * 64) (8 * k.getF (F.FAB_ENTRIES slot)) = (k₂, eb, none))
    (hgood : ((List.range 1024).map (fun i => (cb.drop (16 * i)).take 16)).any badChannel = false)
    (hgood' : ((List.range (k.getF (F.FAB_ENTRIES slot))).map (fun i => (eb.drop (8 * i)).take 8)).any (badTmpl (k.getF (F.FAB_PERIOD slot))) = false) :
    k.loadTemplate slot t = k₂.installTables slot (k.getF (F.FAB_PERIOD slot)) ((List.range 1024).map (fun i => (cb.drop (16 * i)).take 16))
      ((List.range (k.getF (F.FAB_ENTRIES slot))).map (fun i => (eb.drop (8 * i)).take 8)) := by
  unfold Pkg.loadTemplate
  extract_lets tb
  rw [show tb.loadEpoch = some e from hload]
  dsimp only
  rw [show epochTicks = 2097152 from rfl, if_neg (Nat.not_lt.mpr hdue)]
  refine (if_neg ?_).trans ?_
  · show ¬ (k.getF (F.FAB_PERIOD slot) = 0 ∨ 4096 < k.getF (F.FAB_PERIOD slot) ∨ 180 * k.getF (F.FAB_PERIOD slot) < k.getF (F.FAB_ENTRIES slot))
    omega
  · rw [show (k.setTables slot { tb with loadEpoch := none }).hubRead slot ((k.setTables slot { tb with loadEpoch := none }).getF (F.FAB_CHAN_VA slot) * 2 ^ 14)
      16384 = (k₁, cb, none) from hchans]
    dsimp only
    rw [show k₁.hubRead slot (k₁.getF (F.FAB_TMPL_VA slot) * 64) (8 * (k.setTables slot { tb with loadEpoch := none }).getF (F.FAB_ENTRIES slot)) = (k₂, eb, none)
      from htmpl]
    refine if_neg ?_
    rw [Bool.or_eq_true, not_or]
    exact ⟨Bool.eq_false_iff.mp hgood, Bool.eq_false_iff.mp hgood'⟩

theorem Pkg.installTables_shows (k : Pkg) {slot : Nat} (hs : slot < 4) (period : Nat) (chans tmpl : List Bytes) :
    let j := k.installTables slot period chans tmpl
    (j.tables slot).chans = chans.map readChannel ∧ (j.tables slot).tmpl = tmpl.map readTmpl ∧ (j.tables slot).period = period ∧
      (j.tables slot).active = (tmpl.map readTmpl).filter (fun x => decide (x.kind < 2)) ∧
      j.getF (F.FAB_LOADED slot) = 1 ∧ j.getF (F.FAB_LOAD_CODE slot) = 0 := by
  intro j
  have htables : j.tables slot = { k.tables slot with chans := chans.map readChannel, tmpl := tmpl.map readTmpl, period := period
                                                      active := (tmpl.map readTmpl).filter (fun e => decide (e.kind < 2)) } :=
    k.tables_setTables_same hs _
  have hcode : (F.FAB_LOAD_CODE slot).apart (F.FAB_LOADED slot) = true := by simp [Fld.apart, F.FAB_LOAD_CODE, F.FAB_LOADED]
  rw [htables]
  exact ⟨rfl, rfl, rfl, rfl, (Pkg.getF_setF_apart _ _ _ _ hcode).trans (Pkg.getF_setF_same _ _ _ rfl), Pkg.getF_setF_same _ _ _ rfl⟩

/-- The registers that configure the fabric and its slots. -/
abbrev fabConfig (o : Nat) : Prop := 0x200000 ≤ o ∧ o < 0x200800

theorem XltOnly.fabConfig {k j : Pkg} (h : XltOnly k j) : CellsKept fabConfig k j := h.cells.mono fun o ho => by omega

/-- A read of local store writes the core's own registers alone. -/
theorem Pkg.lsRead_fabConfig (k : Pkg) (c : Nat) (addrs : List Nat) : CellsKept fabConfig k (k.lsRead c addrs).1 := by
  unfold Pkg.lsRead
  extract_lets hs x ce k₀ k₁
  have hk₁ : CellsKept fabConfig k k₁ := by
    simp only [k₁]
    split
    · exact .refl k
    · exact .thenF (.thenF (.ofRegs rfl) (f := F.CORE_LS_CE_COUNT c) _ (by simp only [F.CORE_LS_CE_COUNT]; omega)) (f := F.CORE_LS_CE c) 1
        (by simp only [F.CORE_LS_CE]; omega)
  split
  · exact hk₁
  · dsimp only
    split
    · exact hk₁
    · exact ((hk₁.thenF (f := F.CORE_LS_UE_BANK c) _ (by simp only [F.CORE_LS_UE_BANK]; omega)).thenF (f := F.CORE_LS_UE_ROW c) _
        (by simp only [F.CORE_LS_UE_ROW]; omega)).thenF (f := F.CORE_LS_UE c) 1 (by simp only [F.CORE_LS_UE]; omega)

theorem Pkg.spotRead_fabConfig (k : Pkg) (sp : Spot) (n va : Nat) : CellsKept fabConfig k (k.spotRead sp n va).1 := by
  unfold Pkg.spotRead
  cases sp with
  | hbm a =>
    have h := (k.hbmRead_frame a n).fabConfig
    dsimp only
    split <;> (next heq => rw [heq] at h; exact h)
  | ls c o =>
    have h := k.lsRead_fabConfig c ((List.range n).map (fun i => o + i))
    dsimp only
    split <;> (next heq => rw [heq] at h; exact h)

/-- A read through a translation leaves the configuration of the fabric alone. -/
theorem Pkg.xread_fabConfig (root : Nat) (r : Requester) (a : Access4) (fuel : Nat) (k : Pkg) (va n : Nat) :
    CellsKept fabConfig k (k.xread root r a fuel va n).1 := by
  induction fuel generalizing k va n with
  | zero => exact .refl k
  | succ fuel ih =>
    have hxlate := (k.xlate_frame root va r a).fabConfig
    unfold Pkg.xread
    split
    · exact .refl k
    · split
      · next heq => rw [heq] at hxlate; exact hxlate
      · next j sp left heq =>
        rw [heq] at hxlate
        have hspot := j.spotRead_fabConfig sp (min n left) va
        dsimp only
        split
        · next heq => rw [heq] at hspot; exact hxlate.trans hspot
        · next i bs heq =>
          rw [heq] at hspot
          exact ((hxlate.trans hspot).trans (i.hbmMoved_frame root sp _).fabConfig).trans (ih _ _ _)

/-- Settles O14: the load is scheduled, refused, or installed. -/
theorem templatesLoad : Obligations.TemplatesLoad := by
  unfold Obligations.TemplatesLoad
  refine ⟨fun s p src sl epoch t₀ hsrc => ?_, fun s p sl e t₀ hload hdue hbad => ?_,
    fun s p sl e t₀ k₁ k₂ cb eb hload hdue hlow hhigh hentries hchans htmpl hgood hgood' => ?_⟩
  · refine (fabLoad_completes epoch t₀ hsrc).mono fun t ⟨j, ht⟩ => ?_
    rw [ht, Pkg.tables_setTables_same _ sl.isLt]
  · refine completes_of_updPkg (f := fun k => (k.at t₀).loadTemplate sl t₀) rfl fun t ht => ?_
    rw [ht, Pkg.loadTemplate_of_badSize (k := (s.pkg p).at t₀) hload hdue hbad, Pkg.refuseLoad_tables]
    exact ⟨Pkg.tables_setTables_same _ sl.isLt _, Pkg.refuseLoad_shows (((s.pkg p).at t₀).beginLoad sl) sl.isLt 0x3105⟩
  · refine completes_of_updPkg (f := fun k => (k.at t₀).loadTemplate sl t₀) rfl fun t ht => ?_
    have hva : k₁.getF (F.FAB_TMPL_VA sl) = (s.pkg p).getF (F.FAB_TMPL_VA sl) := by
      have hframe := Pkg.xread_fabConfig sl .hub .read (pages 16384) (((s.pkg p).at t₀).beginLoad sl) ((s.pkg p).getF (F.FAB_CHAN_VA sl) * 2 ^ 14) 16384
      have hk₁ : k₁ = ((((s.pkg p).at t₀).beginLoad sl).hubRead sl ((s.pkg p).getF (F.FAB_CHAN_VA sl) * 2 ^ 14) 16384).1 := (congrArg Prod.fst hchans).symm
      rw [hk₁]
      exact hframe.getF (by simp only [F.FAB_TMPL_VA]; omega)
    rw [ht, Pkg.loadTemplate_of_good (k := (s.pkg p).at t₀) hload hdue hlow hhigh hentries hchans (hva ▸ htmpl) hgood hgood']
    exact Pkg.installTables_shows _ sl.isLt _ _ _

end Sys2Proof.Machine
end

section
/-! PROOFS. Sequenced packets (R485, R486), and the control packets of the hub (R79, R80, R424–R426, R439, R443, R444, R483, R569). -/

namespace Sys2Proof.Machine

/-! ### A sequenced packet that is accepted -/

/-- An accepted packet has its effect on the package that has screened and claimed it, and what follows is the fabric's (R485, R486). -/
theorem Pkg.sequenced_ends {k : Pkg} {p : Packet} (h : k.accepts p = true) (effect : Pkg → Pkg × Status × Option Nat) :
    FabOnly (effect ((k.screen p).1.claim p).1).1 (k.sequenced p effect) := by
  simp only [Pkg.accepts, Bool.and_eq_true, Bool.not_eq_true', decide_eq_true_eq] at h
  obtain ⟨⟨hscreen, habsorb⟩, hfresh⟩ := h
  unfold Pkg.sequenced
  rw [show k.screen p = ((k.screen p).1, true) from Prod.ext rfl hscreen]
  dsimp only
  rw [if_neg (by decide), if_neg (by rw [habsorb]; decide),
    show (k.screen p).1.claim p = (((k.screen p).1.claim p).1, .fresh) from Prod.ext rfl hfresh]
  dsimp only
  split
  · exact (Pkg.claimDone_frame _ p _).trans (Pkg.ack_frame _ p _ _)
  · exact (Pkg.claimUndo_frame _ p).trans (Pkg.ack_frame _ p _ _)

theorem Pkg.claimed_frame (k : Pkg) (p : Packet) : FabOnly k ((k.screen p).1.claim p).1 := (k.screen_frame p).trans (Pkg.claim_frame _ p)

/-- An accepted packet has its effect on a package that differs from the one before in its fabric alone, and so does what follows. -/
theorem Pkg.sequenced_of_accepts {k : Pkg} {p : Packet} (h : k.accepts p = true) (effect : Pkg → Pkg × Status × Option Nat) :
    ∃ j, FabOnly k j ∧ FabOnly (effect j).1 (k.sequenced p effect) := ⟨_, k.claimed_frame p, Pkg.sequenced_ends h effect⟩

namespace FabOnly

variable {k j : Pkg}

theorem lup (h : FabOnly k j) : j.lup = k.lup := by obtain ⟨⟨r, f, w, rfl⟩, -⟩ := h; rfl
theorem id (h : FabOnly k j) : j.id = k.id := by obtain ⟨⟨r, f, w, rfl⟩, -⟩ := h; rfl
theorem time (h : FabOnly k j) : j.time = k.time := by obtain ⟨⟨r, f, w, rfl⟩, -⟩ := h; rfl
theorem now (h : FabOnly k j) : j.now = k.now := by obtain ⟨⟨r, f, w, rfl⟩, -⟩ := h; rfl
theorem lport (h : FabOnly k j) (n : Nat) : j.lport n = k.lport n := Pkg.lport_congr h.links n
theorem rack (h : FabOnly k j) : j.rack = k.rack := h.getF F.GLB_RACK_ID (.inl (by decide))

theorem linkSt (h : FabOnly k j) {n : Nat} (hn : n < 20) : j.linkSt n = k.linkSt n :=
  h.linkRegs.getF (by simp only [F.LNK_ST]; omega)

theorem linkOut (h : FabOnly k j) {n : Nat} (hn : n < 576) : j.linkOut n = k.linkOut n := by
  unfold Pkg.linkOut
  rw [h.getF _ (.inl (by simp only [F.LNK_MAP]; omega))]

theorem ringOut (h : FabOnly k j) (row : Bool) (i : Nat) : j.ringOut row i = k.ringOut row i := by
  unfold Pkg.ringOut
  rw [h.getF F.LNK_ROW_MAP (.inl (by decide)), h.getF F.LNK_HRING_MAP (.inl (by decide))]

theorem portOnLink (h : FabOnly k j) (link : Nat) : j.portOnLink link = k.portOnLink link := by
  have hring : ∀ l n, j.ringLink l n = k.ringLink l n := fun l n => by
    unfold Pkg.ringLink
    rw [h.rack]
  unfold Pkg.portOnLink
  rw [h.lup, h.id]
  simp only [hring]

end FabOnly

/-- A port of this package is one of the twenty. -/
theorem Pkg.portOnLink_lt {k : Pkg} {link n : Nat} (h : k.portOnLink link = some n) : n < 20 := by
  unfold Pkg.portOnLink at h
  split at h
  · have := List.mem_range.mp (List.mem_of_find?_eq_some h)
    omega
  · obtain ⟨l, -, hfind⟩ := Option.bind_eq_some_iff.mp h
    have := List.mem_of_find?_eq_some hfind
    simp at this
    omega
  · obtain ⟨l, -, hfind⟩ := Option.bind_eq_some_iff.mp h
    have := List.mem_of_find?_eq_some hfind
    simp at this
    omega
  · cases h

theorem FabOnly.keepsOut {k j : Pkg} (h : FabOnly k j) (link : Nat) : j.keepsOut link = k.keepsOut link := by
  unfold Pkg.keepsOut
  rw [h.portOnLink]
  split
  · next n hport => rw [h.linkSt (Pkg.portOnLink_lt hport), h.lport]
  · rfl

/-! ### The link map -/

/-- Marking a link's own port leaves the maps alone. -/
def Pkg.markLink (k : Pkg) (link : Nat) (out : Bool) : Pkg :=
  match k.portOnLink link with
  | some n => k.setF (F.LNK_MAPPED_OUT n) (if out then 1 else 0)
  | none => k

theorem Pkg.markLink_kept {P : Nat → Prop} (k : Pkg) (link : Nat) (out : Bool) (hP : ∀ o, P o → 0x180000 ≤ o) : CellsKept P k (k.markLink link out) := by
  unfold Pkg.markLink
  split
  · next n hport =>
    have hn := Pkg.portOnLink_lt hport
    refine .setF k _ (fun h => ?_)
    have := hP _ h
    simp only [F.LNK_MAPPED_OUT] at this
    omega
  · exact .refl k

theorem Pkg.applyLink_of_kept {k : Pkg} {link : Nat} {out : Bool} (h : out = false ∧ k.keepsOut link = true) : k.applyLink link out = k := by
  unfold Pkg.applyLink
  rw [if_pos (by rw [h.1, h.2]; rfl)]

theorem Pkg.applyLink_of_moved {k : Pkg} {link : Nat} {out : Bool} (h : ¬ (out = false ∧ k.keepsOut link = true)) : k.applyLink link out =
    match bits link 15 14 with
    | 0 => if link < 576 then (k.markLink link out).setLinkOut link out else k.markLink link out
    | 2 => (k.markLink link out).setRingOut true (bits link 5 0) out
    | 3 => (k.markLink link out).setRingOut false (bits link 5 0) out
    | _ => k.markLink link out := by
  unfold Pkg.applyLink
  rw [if_neg (by simpa using h)]
  rfl

theorem bits_braid {link : Nat} (h : link < 576) : bits link 15 14 = 0 := by
  unfold bits
  norm_num
  omega

theorem Pkg.linkOut_setLinkOut_other (k : Pkg) {m n : Nat} (out : Bool) (h : n ≠ m) : (k.setLinkOut m out).linkOut n = k.linkOut n := by
  unfold Pkg.linkOut Pkg.setLinkOut
  by_cases hword : n / 64 = m / 64
  · rw [hword, Pkg.getF_setF_same _ _ _ rfl]
    exact (bit_mod_two_pow _ (Nat.mod_lt n (by decide : 64 > 0))).trans (bit_putBit_other _ _ (by omega))
  · rw [Pkg.getF_setF_apart _ _ _ _ (Fld.apart_of_off (by simp only [F.LNK_MAP]; omega))]

/-- A braid link's change moves that link alone, unless its own port keeps it out (R424–R426). -/
theorem Pkg.applyLink_braid (k : Pkg) {link : Nat} (out : Bool) (h : link < 576) :
    (k.applyLink link out).linkOut link = (out || (k.keepsOut link && k.linkOut link)) ∧
      ∀ n, n < 576 → n ≠ link → (k.applyLink link out).linkOut n = k.linkOut n := by
  by_cases hkept : out = false ∧ k.keepsOut link = true
  · rw [Pkg.applyLink_of_kept hkept, hkept.1, hkept.2]
    simp
  · have hmark : ∀ n, n < 576 → (k.markLink link out).linkOut n = k.linkOut n := fun n _ =>
      Pkg.linkOut_of_kept (P := fun o => 0x180000 ≤ o) (k.markLink_kept link out (fun _ ho => ho)) (by simp only [F.LNK_MAP]; omega)
    rw [Pkg.applyLink_of_moved hkept, bits_braid h]
    simp only [if_pos h]
    rw [Pkg.linkOut_setLinkOut]
    refine ⟨?_, fun n hn hne => (Pkg.linkOut_setLinkOut_other _ out hne).trans (hmark n hn)⟩
    cases out with
    | true => rfl
    | false => rw [show k.keepsOut link = false by simpa using hkept]; rfl

/-- A row link's change, unless its own port keeps it out (R569). -/
theorem Pkg.applyLink_row (k : Pkg) {link : Nat} (out : Bool) (h : bits link 15 14 = 2) :
    (k.applyLink link out).ringOut true (bits link 5 0) = (out || (k.keepsOut link && k.ringOut true (bits link 5 0))) := by
  by_cases hkept : out = false ∧ k.keepsOut link = true
  · rw [Pkg.applyLink_of_kept hkept, hkept.1, hkept.2]
    simp
  · have hindex : bits link 5 0 < 64 := Nat.mod_lt _ (by decide)
    have hset : ((k.markLink link out).setRingOut true (bits link 5 0) out).ringOut true (bits link 5 0) = out := by
      unfold Pkg.ringOut Pkg.setRingOut
      simp only [if_true]
      rw [Pkg.getF_setF_same _ _ _ (by decide)]
      exact (bit_mod_two_pow _ hindex).trans (bit_putBit_same _ _ _)
    rw [Pkg.applyLink_of_moved hkept, h]
    refine hset.trans ?_
    cases out with
    | true => rfl
    | false => rw [show k.keepsOut link = false by simpa using hkept]; rfl

/-! ### Stretch requests and counts -/

/-- The captain's largest request (R79). -/
def Pkg.keepRequest (k : Pkg) (sl n : Nat) : Pkg :=
  if k.isCaptain sl then
    { k with time := { k.time with captainMax := k.time.captainMax.setIfInBounds sl (max (k.time.captainMax.toList.getD sl 0) (min 128 n)) } }
  else k

theorem Pkg.keepRequest_max {k : Pkg} {sl : Nat} (n : Nat) (hcaptain : k.isCaptain sl = true) (hsl : sl < 4) :
    (k.keepRequest sl n).time.captainMax.toList.getD sl 0 = max (k.time.captainMax.toList.getD sl 0) (min 128 n) := by
  unfold Pkg.keepRequest
  rw [if_pos hcaptain]
  simp [List.getD, hsl]

/-- A stretch count is kept for its epoch, and shown when that is the next one (R80). -/
def Pkg.keepStretch (k : Pkg) (pkt : Packet) : Pkg :=
  let n := min 128 (fieldAt pkt.body 8 1)
  let k := if fieldAt pkt.body 0 8 = k.hallTime / 2097152 + 1 then k.setF (F.HTM_STRETCH_NEXT pkt.slot) n else k
  { k with time := { k.time with stretchHeld := (pkt.slot, fieldAt pkt.body 0 8, n) :: k.time.stretchHeld } }

theorem Pkg.keepStretch_for (k : Pkg) (pkt : Packet) : (k.keepStretch pkt).stretchFor pkt.slot (fieldAt pkt.body 0 8) = min 128 (fieldAt pkt.body 8 1) := by
  unfold Pkg.keepStretch Pkg.stretchFor
  dsimp only
  rw [List.find?_cons_of_pos (by simp)]

/-! ### Packets that fail a check -/

theorem Pkg.enqueue_windows (k : Pkg) (n : Nat) (q : Queued) : (k.enqueue n q).fab.windows = k.fab.windows := by
  have hrefresh : ∀ j : Pkg, (j.refreshQueue n).fab.windows = j.fab.windows := fun j => by
    unfold Pkg.refreshQueue
    extract_lets f held stop k₁ k₂ k₃ k₄
    have hk₄ : k₄.fab.windows = j.fab.windows := by
      simp only [k₄]
      split <;> rfl
    exact hk₄
  unfold Pkg.enqueue
  extract_lets mark k₁ pkt q' f k₂
  have hk₁ : k₁.fab.windows = k.fab.windows := by
    simp only [k₁]
    split <;> rfl
  exact (hrefresh _).trans hk₁

theorem Pkg.launch_windows (k : Pkg) (p : Packet) (sched : Bool) (chan port : Nat) : (k.launch p sched chan port).fab.windows = k.fab.windows := by
  unfold Pkg.launch
  split
  · rfl
  · exact Pkg.enqueue_windows _ _ _

/-- Sending leaves the receive windows alone. -/
theorem Pkg.sendNow_windows (k : Pkg) (o : Outgoing) : (k.sendNow o).fab.windows = k.fab.windows := by
  unfold Pkg.sendNow
  dsimp only
  split
  · rfl
  · rw [Pkg.launch_windows]
    show (if o.spread = 0 then _ else _ : Fabric).windows = _
    split_ifs <;> rfl

theorem Pkg.send_windows (k : Pkg) (o : Outgoing) : (k.send o).fab.windows = k.fab.windows := by
  unfold Pkg.send
  split
  · exact Pkg.sendNow_windows k o
  · rfl

theorem Pkg.take_windows (k : Pkg) (p : Packet) : (k.take p).fab.windows = k.fab.windows := by
  unfold Pkg.take
  split
  · unfold Pkg.freeArrived
    dsimp only
    split
    · rfl
    · split <;> rfl
  · rfl

/-- A packet past its lifetime is dropped and counted (R483). -/
theorem Pkg.screen_of_expired {k : Pkg} {p : Packet} (h : k.expired p = true) : k.screen p = ((k.take p).inc (F.FAB_COUNTS 6), false) := by
  unfold Pkg.screen
  dsimp only
  rw [if_pos ((Pkg.expired_take k p p).trans h)]

/-- A packet whose CRC is wrong is dropped and counted (R439). -/
theorem Pkg.screen_of_badCrc {k : Pkg} {p : Packet} (h : k.expired p = false) (hcrc : p.crc ≠ p.goodCrc) :
    k.screen p = (((k.take p).inc (F.FAB_COUNTS 2)).inc (F.FAB_COUNTS 7), false) := by
  unfold Pkg.screen
  dsimp only
  rw [if_neg (by rw [Pkg.expired_take, h]; exact Bool.false_ne_true), if_pos hcrc]

/-- A packet of an unknown type, or with a reserved field that is not zero, is answered BAD_PACKET (R443, R444). -/
theorem Pkg.screen_of_malformed {k : Pkg} {p : Packet} (h : k.expired p = false) (hcrc : p.crc = p.goodCrc)
    (hbad : isKnownType p.type = false ∨ p.reservedZero = false) :
    k.screen p = (((k.take p).inc (F.FAB_COUNTS 2)).ack p 0x3301, false) := by
  unfold Pkg.screen
  dsimp only
  rw [if_neg (by rw [Pkg.expired_take, h]; exact Bool.false_ne_true), if_neg (not_not.mpr hcrc), if_pos (by simpa using hbad)]

theorem Pkg.getF_inc_take (k : Pkg) (p : Packet) (f : Fld) (hf : f.fits = true) :
    ((k.take p).inc f).getF f = min (2 ^ f.width - 1) (k.getF f + 1) := by
  rw [Pkg.getF_inc_same _ _ hf, Pkg.getF_take]

section Commands

variable {s : State} {p : PkgId} {pkt : Packet} {t₀ : Nat}

theorem exec_linkState : exec (.linkState p pkt t₀) s = .next (s.updPkg p (fun k => (k.at t₀).sequenced pkt (fun k =>
    (k.applyLink (fieldAt pkt.body 0 2) (fieldAt pkt.body 2 1 == 1), 0, none)))) := rfl

theorem exec_stretchReq : exec (.stretchReq p pkt t₀) s = .next (s.updPkg p (fun k => (k.at t₀).sequenced pkt (fun k =>
    (k.keepRequest pkt.slot (fieldAt pkt.body 8 1), 0, none)))) := rfl

theorem exec_stretch : exec (.stretch p pkt t₀) s = .next (s.updPkg p (fun k => (k.at t₀).sequenced pkt (fun k =>
    (k.keepStretch pkt, 0, none)))) := rfl

theorem exec_badPacketReceive : exec (.badPacketReceive p pkt t₀) s = .next (s.updPkg p (fun k => ((k.at t₀).screen pkt).1)) := rfl

end Commands

/-- Settles O19: an accepted packet has its effect on a package that differs in its fabric alone; one that fails a check is counted or answered. -/
theorem controlPacketsAct : Obligations.ControlPacketsAct := by
  unfold Obligations.ControlPacketsAct
  intro s p pkt t₀ k
  refine ⟨fun haccepts hbraid => ?_, fun haccepts hrow => ?_, fun haccepts hcaptain hslot => ?_, fun haccepts => ?_, fun hexpired => ?_,
    fun hlive hcrc => ?_, fun hlive hcrc hbad => ?_⟩
  · refine completes_of_updPkg exec_linkState fun t ht => ?_
    obtain ⟨j, hj, hafter⟩ := Pkg.sequenced_of_accepts haccepts (fun k => (k.applyLink (fieldAt pkt.body 0 2) (fieldAt pkt.body 2 1 == 1), 0, none))
    obtain ⟨hlink, hothers⟩ := j.applyLink_braid (fieldAt pkt.body 2 1 == 1) hbraid
    rw [ht]
    refine ⟨?_, fun n hn hne => ?_⟩
    · rw [hafter.linkOut hbraid, hlink, hj.keepsOut, hj.linkOut hbraid]
      rfl
    · rw [hafter.linkOut hn, hothers n hn hne, hj.linkOut hn]
  · refine completes_of_updPkg exec_linkState fun t ht => ?_
    obtain ⟨j, hj, hafter⟩ := Pkg.sequenced_of_accepts haccepts (fun k => (k.applyLink (fieldAt pkt.body 0 2) (fieldAt pkt.body 2 1 == 1), 0, none))
    rw [ht, hafter.ringOut, j.applyLink_row (fieldAt pkt.body 2 1 == 1) hrow, hj.keepsOut, hj.ringOut]
    rfl
  · refine completes_of_updPkg exec_stretchReq fun t ht => ?_
    obtain ⟨j, hj, hafter⟩ := Pkg.sequenced_of_accepts haccepts (fun k => (k.keepRequest pkt.slot (fieldAt pkt.body 8 1), 0, none))
    have hcaptain' : j.isCaptain pkt.slot = true := by
      unfold Pkg.isCaptain Pkg.flag at hcaptain ⊢
      rw [hj.getF _ (by simp only [F.HIF_IS_CAPTAIN]; omega)]
      exact hcaptain
    rw [ht, hafter.time, Pkg.keepRequest_max _ hcaptain' hslot, hj.time]
  · refine completes_of_updPkg exec_stretch fun t ht => ?_
    obtain ⟨j, hj, hafter⟩ := Pkg.sequenced_of_accepts haccepts (fun k => (k.keepStretch pkt, 0, none))
    have hheld := j.keepStretch_for pkt
    unfold Pkg.stretchFor at hheld ⊢
    rw [ht, hafter.time]
    exact hheld
  · refine completes_of_updPkg exec_badPacketReceive fun t ht => ?_
    rw [Pkg.screen_of_expired hexpired] at ht
    rw [ht]
    exact ⟨Pkg.getF_inc_take k pkt _ rfl, Pkg.take_windows k pkt⟩
  · refine completes_of_updPkg exec_badPacketReceive fun t ht => ?_
    rw [Pkg.screen_of_badCrc hlive hcrc] at ht
    rw [ht]
    refine ⟨?_, Pkg.take_windows k pkt⟩
    rw [Pkg.getF_inc_same _ _ rfl, Pkg.getF_inc_apart _ _ _ (by decide), Pkg.getF_take]
    rfl
  · refine completes_of_updPkg exec_badPacketReceive fun t ht => ?_
    rw [Pkg.screen_of_malformed hlive hcrc hbad] at ht
    rw [ht]
    exact ⟨rfl, (Pkg.send_windows _ _).trans (Pkg.take_windows k pkt)⟩

end Sys2Proof.Machine
end

section
/-! PROOFS. THRESHOLD routing (R332–R334): what a token's picks are. -/

namespace Sys2Proof.Machine

/-! ### The picks of one token -/

theorem insertPick_perm (p : Pick) (ps : List Pick) : (insertPick p ps).Perm (p :: ps) := by
  induction ps with
  | nil => exact .refl _
  | cons q r ih =>
    simp only [insertPick]
    split
    · exact .refl _
    · exact (ih.cons q).trans (.swap p q r)

theorem foldr_insertPick_perm (ps : List Pick) : (ps.foldr insertPick []).Perm ps := by
  induction ps with
  | nil => exact .refl _
  | cons p r ih => exact (insertPick_perm p _).trans (ih.cons p)

/-- Candidates in increasing expert order are told apart by their expert. -/
theorem eq_of_ix_eq {ps : List Pick} (h : ps.Pairwise (fun a b => a.ix < b.ix)) {p q : Pick} (hp : p ∈ ps) (hq : q ∈ ps)
    (e : p.ix = q.ix) : p = q := by
  have inj : (ps.map Pick.ix).Nodup := List.pairwise_map.mpr (h.imp fun lt => Nat.ne_of_lt lt)
  exact List.inj_on_of_nodup_map inj hp hq e

/-- The best picks are the first `n` of the candidates in falling order, in another order. -/
theorem bestPicks_perm {ps : List Pick} (h : ps.Pairwise (fun a b => a.ix < b.ix)) (n : Nat) :
    (bestPicks n ps).Perm ((ps.foldr insertPick []).take n) := by
  have perm := foldr_insertPick_perm ps
  have nodup : ps.Nodup := h.imp fun {a b} lt e => by subst e; exact Nat.lt_irrefl _ lt
  have inside : ∀ q ∈ (ps.foldr insertPick []).take n, q ∈ ps := fun q hq => perm.mem_iff.mp (List.mem_of_mem_take hq)
  refine (List.perm_ext_iff_of_nodup (nodup.filter _) ((perm.nodup_iff.mpr nodup).sublist (List.take_sublist ..))).mpr fun p => ?_
  simp only [List.mem_filter, List.any_eq_true, beq_iff_eq]
  constructor
  · rintro ⟨hp, q, hq, e⟩
    rwa [← eq_of_ix_eq h (inside q hq) hp e]
  · exact fun hp => ⟨inside p hp, p, hp, rfl⟩

theorem length_bestPicks {ps : List Pick} (h : ps.Pairwise (fun a b => a.ix < b.ix)) (n : Nat) :
    (bestPicks n ps).length = min n ps.length := by
  rw [(bestPicks_perm h n).length_eq, List.length_take, (foldr_insertPick_perm ps).length_eq]

theorem bestPicks_sublist (n : Nat) (ps : List Pick) : (bestPicks n ps).Sublist ps := List.filter_sublist

/-- The candidates that pass the threshold (R332). -/
def passes (tau : Num) (cands : List Pick) : List Pick := cands.filter (fun p => !(tau == .nan) && !p.biased.lt tau)

theorem mem_passes {tau : Num} {cands : List Pick} {q : Pick} :
    q ∈ passes tau cands ↔ q ∈ cands ∧ tau ≠ .nan ∧ q.biased.lt tau = false := by
  simp [passes]

/-- The three ways a token is routed: cut to its best 16, forced to its best one, or every candidate that passes. -/
theorem thresholdToken_cases (tau : Num) (least : Bool) (cands : List Pick) :
    (16 < (passes tau cands).length ∧
      thresholdToken tau least cands = { picks := bestPicks 16 (passes tau cands), forced := false, truncated := true }) ∨
    (passes tau cands = [] ∧ least = true ∧
      thresholdToken tau least cands = { picks := bestPicks 1 cands, forced := !cands.isEmpty, truncated := false }) ∨
    ((passes tau cands).length ≤ 16 ∧ (least = true → passes tau cands ≠ []) ∧
      thresholdToken tau least cands = { picks := passes tau cands, forced := false, truncated := false }) := by
  unfold thresholdToken
  rw [show cands.filter _ = passes tau cands from rfl]
  dsimp only
  split
  case isTrue long => exact .inl ⟨long, rfl⟩
  case isFalse short =>
    split
    case isTrue none => 
      obtain ⟨he, hl⟩ := Bool.and_eq_true_iff.mp none
      exact .inr (.inl ⟨List.isEmpty_iff.mp he, hl, rfl⟩)
    case isFalse some =>
      refine .inr (.inr ⟨Nat.le_of_not_lt short, fun hl he => some ?_, rfl⟩)
      rw [hl, he]; rfl

/-- Settles O30: by the three ways a token is routed; the best picks of `n` are exactly `n` of the candidates, or all. -/
theorem thresholdRouting : Obligations.ThresholdRouting := by
  unfold Obligations.ThresholdRouting
  intro tau least cands order r
  have sub : (passes tau cands).Sublist cands := List.filter_sublist
  obtain ⟨long, e⟩ | ⟨none, hleast, e⟩ | ⟨short, some, e⟩ := thresholdToken_cases tau least cands
  · have cut : (bestPicks 16 (passes tau cands)).length = 16 := by
      rw [length_bestPicks (order.sublist sub)]; omega
    have inside := bestPicks_sublist 16 (passes tau cands)
    simp only [r, e]
    exact ⟨Nat.le_of_eq cut, order.sublist (inside.trans sub), fun q hq => sub.subset (inside.subset hq),
      fun _ q hq => (mem_passes.mp (inside.subset hq)).2.symm, fun _ => cut,
      fun _ _ hnil => by rw [hnil] at cut; simp at cut, by simp⟩
  · have one := length_bestPicks order 1
    have inside := bestPicks_sublist 1 cands
    simp only [r, e]
    refine ⟨by omega, order.sublist inside, fun q hq => inside.subset hq, fun hf q hq => ?_, by simp, fun _ hne hnil => ?_,
      fun _ q hq htau hlt => ?_⟩
    · have : cands = [] := by simpa using hf
      subst this; exact absurd hq (by simp [bestPicks])
    · have : 0 < cands.length := List.length_pos_iff.mpr hne
      rw [hnil, List.length_nil] at one; omega
    · have := mem_passes.mpr ⟨hq, htau, hlt⟩
      rw [none] at this; simp at this
  · simp only [r, e]
    exact ⟨short, order.sublist sub, fun q hq => sub.subset hq, fun _ q hq => (mem_passes.mp hq).2.symm, by simp,
      fun hl _ => some hl, fun _ q hq htau hlt => mem_passes.mpr ⟨hq, htau, hlt⟩⟩

end Sys2Proof.Machine
end

section
/-! PROOFS. Power (R807–R830): what samples, boost steps, droops and the energy counters write. -/

namespace Sys2Proof.Machine

/-! ### Folds over fields -/

/-- The own turn writes the field, and no other turn does. -/
theorem foldl_range_getF {n i : Nat} (hi : i < n) {op : Pkg → Nat → Pkg} {f : Fld} {w : Nat} {A : Pkg → Prop}
    (keep : ∀ j x, A j → A (op j x)) (own : ∀ j, A j → (op j i).getF f = w)
    (other : ∀ j x, x ≠ i → (op j x).getF f = j.getF f) {k : Pkg} (ha : A k) : ((List.range n).foldl op k).getF f = w :=
  foldl_ownTurn (A := A) (B := fun j => j.getF f = w) own (fun j x _ _ => keep j x)
    (fun j x _ ne hj => (other j x ne).trans hj) List.nodup_range (List.mem_range.mpr hi) ha

/-! ### Gates (R841) -/

theorem Pkg.getF_updPower (k : Pkg) (g : Power → Power) (f : Fld) : (k.updPower g).getF f = k.getF f := rfl

theorem Pkg.getF_draw (k : Pkg) (f : Fld) : k.draw.getF f = k.getF f := rfl

/-- A cluster's gate is shown, and a core's. -/
def Pkg.gateCluster (k : Pkg) (cl : Nat) : Pkg := k.setF (F.PWR_CL_GATE cl) (k.clusterGate cl)
def Pkg.gateCore (k : Pkg) (c : Nat) : Pkg := (k.setF (F.CORE_GATE c) (k.gateOf c)).setF (F.CORE_GATED c) (if k.gateOf c = 0 then 0 else 1)

/-- The gates of all clusters and cores are shown. -/
def Pkg.gatesShown (k : Pkg) : Pkg := (List.range 64).foldl Pkg.gateCore ((List.range 4).foldl Pkg.gateCluster k)

theorem Pkg.showGates_eq (k : Pkg) : k.showGates =
    k.gatesShown.updPower (fun w => { w with gated := w.gated || (List.range 64).any (fun c => k.gatesShown.gateOf c != 0) }) := rfl

/-- The fields in which the gates in force are shown leave `f` alone. -/
def Fld.gateFree (f : Fld) : Prop :=
  (∀ cl < 4, (F.PWR_CL_GATE cl).apart f = true) ∧ ∀ c, (F.CORE_GATE c).apart f = true ∧ (F.CORE_GATED c).apart f = true

/-- A field below the core registers and beside the gates of the clusters. -/
theorem Fld.gateFree_of_off {f : Fld} (h : f.off < 0x600080 ∨ 0x6000A0 ≤ f.off ∧ f.off < 0x1000000) : f.gateFree :=
  ⟨fun cl _ => Fld.apart_of_off (by simp only [F.PWR_CL_GATE]; omega),
    fun c => ⟨Fld.apart_of_off (by simp only [F.CORE_GATE]; omega), Fld.apart_of_off (by simp only [F.CORE_GATED]; omega)⟩⟩

theorem Pkg.getF_gateCore (k : Pkg) (c : Nat) {f : Fld} (h : (F.CORE_GATE c).apart f = true ∧ (F.CORE_GATED c).apart f = true) :
    (k.gateCore c).getF f = k.getF f := by
  rw [Pkg.gateCore, Pkg.getF_setF_apart _ _ f _ h.2, Pkg.getF_setF_apart _ _ f _ h.1]

theorem Pkg.getF_gateCores (k : Pkg) {f : Fld} (h : ∀ c, (F.CORE_GATE c).apart f = true ∧ (F.CORE_GATED c).apart f = true) :
    ((List.range 64).foldl Pkg.gateCore k).getF f = k.getF f :=
  foldl_keeps (v := fun j : Pkg => j.getF f) (List.range 64) k fun j c _ => Pkg.getF_gateCore j c (h c)

theorem Pkg.getF_showGates (k : Pkg) {f : Fld} (h : f.gateFree) : k.showGates.getF f = k.getF f := by
  rw [Pkg.showGates_eq, Pkg.getF_updPower, Pkg.gatesShown, Pkg.getF_gateCores _ h.2]
  exact foldl_keeps (v := fun j : Pkg => j.getF f) (List.range 4) k fun j cl hcl =>
    Pkg.getF_setF_apart _ _ f _ (h.1 cl (List.mem_range.mp hcl))

theorem Pkg.gatesShown_power (k : Pkg) : k.gatesShown.power = k.power := by
  unfold Pkg.gatesShown
  rw [foldl_keeps (v := Pkg.power) (f := Pkg.gateCore) (List.range 64) _ (fun _ _ _ => rfl),
    foldl_keeps (v := Pkg.power) (f := Pkg.gateCluster) (List.range 4) _ (fun _ _ _ => rfl)]

theorem Pkg.showGates_power (k : Pkg) : ∃ g, k.showGates.power = { k.power with gated := g } :=
  ⟨_, by rw [Pkg.showGates_eq, Pkg.updPower, Pkg.gatesShown_power]⟩

theorem Pkg.clusterGate_le (k : Pkg) (cl : Nat) : k.clusterGate cl ≤ 15 := by
  unfold Pkg.clusterGate
  split <;> omega

/-- The gate of a cluster is shown as it stands. -/
theorem Pkg.getF_showGates_cluster (k : Pkg) {cl : Nat} (h : cl < 4) : k.showGates.getF (F.PWR_CL_GATE cl) = k.clusterGate cl := by
  rw [Pkg.showGates_eq, Pkg.getF_updPower, Pkg.gatesShown, Pkg.getF_gateCores _ fun c =>
    ⟨Fld.apart_of_off (by simp only [F.CORE_GATE, F.PWR_CL_GATE]; omega), Fld.apart_of_off (by simp only [F.CORE_GATED, F.PWR_CL_GATE]; omega)⟩]
  refine foldl_range_getF (op := Pkg.gateCluster) (A := fun j => j.power = k.power ∧ j.now = k.now) h (fun j x hj => hj) (fun j hj => ?_) (fun j x ne => ?_) ⟨rfl, rfl⟩
  · have same : j.clusterGate cl = k.clusterGate cl := by unfold Pkg.clusterGate; rw [hj.1, hj.2]
    rw [Pkg.gateCluster, Pkg.getF_setF_same j _ _ rfl, same]
    exact Nat.mod_eq_of_lt (Nat.lt_succ_of_le (Pkg.clusterGate_le k cl))
  · exact Pkg.getF_setF_apart j _ _ _ (Fld.apart_of_off (by simp only [F.PWR_CL_GATE]; omega))

/-- The gate of a cluster with a droop gate that runs (R821). -/
theorem Pkg.eight_le_clusterGate {k : Pkg} {cl : Nat} (h : k.now < k.power.droops.getD cl 0) : 8 ≤ k.clusterGate cl := by
  unfold Pkg.clusterGate
  rw [if_pos h]
  exact Nat.le_max_right ..

/-! ### Caps, steps and clocks (R808–R817) -/

theorem Pkg.getF_showCaps (k : Pkg) {f : Fld} (h₁ : F.PWR_CAP_NOW.apart f = true) (h₂ : F.PWR_CEILING.apart f = true)
    (h₃ : F.PWR_FLOOR.apart f = true) (h₄ : F.PWR_LIMITER.apart f = true) : k.showCaps.getF f = k.getF f := by
  unfold Pkg.showCaps
  rw [Pkg.getF_setF_apart _ _ f _ h₄, Pkg.getF_setF_apart _ _ f _ h₃, Pkg.getF_setF_apart _ _ f _ h₂, Pkg.getF_setF_apart _ _ f _ h₁]

/-- The caps move along the ramp. -/
def Pkg.rampCaps (k : Pkg) : Pkg :=
  k.updPower (fun w => { w with
    cap := rampCap k.isReady (k.getF F.PWR_CFG_RAMP) (k.now - k.power.capAt) w.cap (k.getF F.PWR_CFG_CAP)
    parts := (List.range 4).map (fun s =>
      rampCap k.isReady (k.getF F.PWR_CFG_RAMP) (k.now - k.power.capAt) (w.parts.getD s 2600000000) (k.getF (F.PWR_PART_CAP s)))
    capAt := k.now })

theorem Pkg.refreshCaps_cases (k : Pkg) :
    k.refreshCaps = k.rampCaps.showCaps ∨ ∃ v, k.refreshCaps = (k.rampCaps.setF F.PWR_RAMP_REF v).showCaps := by
  by_cases h : (lowestInput k.rampCaps.atOnceInputs).2 < k.getF F.PWR_CAP_NOW * 1000 ∧ k.rampCaps.isReady
  · exact .inr ⟨_, congrArg Pkg.showCaps (if_pos h)⟩
  · exact .inl (congrArg Pkg.showCaps (if_neg h))

theorem Pkg.getF_refreshCaps (k : Pkg) {f : Fld} (h₁ : F.PWR_CAP_NOW.apart f = true) (h₂ : F.PWR_CEILING.apart f = true)
    (h₃ : F.PWR_FLOOR.apart f = true) (h₄ : F.PWR_LIMITER.apart f = true) (h₅ : F.PWR_RAMP_REF.apart f = true) :
    k.refreshCaps.getF f = k.getF f := by
  obtain e | ⟨v, e⟩ := k.refreshCaps_cases <;> rw [e, Pkg.getF_showCaps _ h₁ h₂ h₃ h₄]
  · rfl
  · rw [Pkg.getF_setF_apart _ _ f _ h₅]; rfl

theorem Pkg.showCaps_frame (k : Pkg) : ∃ r, k.showCaps = { k with regs := r } := ⟨_, rfl⟩

/-- What the caps are refreshed to: their registers and the caps along the ramp. -/
theorem Pkg.refreshCaps_frame (k : Pkg) : ∃ r cap parts,
    k.refreshCaps = { k with regs := r, power := { k.power with cap := cap, parts := parts, capAt := k.now } } := by
  obtain e | ⟨v, e⟩ := k.refreshCaps_cases
  · obtain ⟨r, er⟩ := k.rampCaps.showCaps_frame
    exact ⟨r, _, _, by rw [e, er]; rfl⟩
  · obtain ⟨r, er⟩ := (k.rampCaps.setF F.PWR_RAMP_REF v).showCaps_frame
    exact ⟨r, _, _, by rw [e, er]; rfl⟩

theorem Pkg.getF_partSteps (k : Pkg) (fall : Nat) {f : Fld} (h : ∀ s, (F.PWR_PART_STEP s).apart f = true) :
    (k.partSteps fall).getF f = k.getF f := by
  unfold Pkg.partSteps
  exact foldl_keeps (v := fun j : Pkg => j.getF f) _ _ fun _ s _ => Pkg.getF_setF_apart _ _ f _ (h s)

theorem Pkg.getF_setClocks (k : Pkg) {f : Fld} (h : ∀ c, (F.CORE_CLK_MHZ c).apart f = true) : k.setClocks.getF f = k.getF f := by
  unfold Pkg.setClocks
  exact foldl_keeps (v := fun j : Pkg => j.getF f) _ _ fun _ c _ => Pkg.getF_setF_apart _ _ f _ (h c)

theorem Pkg.clusterStep_fixed {k : Pkg} (h : k.getF F.PWR_FIXED = 1) (cl : Nat) : k.clusterStep cl = 0 :=
  if_pos (.inl ((Pkg.flag_iff ..).mpr h))

theorem Pkg.getF_setClocks_fixed {k : Pkg} (h : k.getF F.PWR_FIXED = 1) {c : Nat} (hc : c < 64) :
    k.setClocks.getF (F.CORE_CLK_MHZ c) = 1500 := by
  refine foldl_range_getF (A := fun j => j.getF F.PWR_FIXED = 1) hc (fun j x hj => ?_) (fun j hj => ?_) (fun j x ne => ?_) h
  · exact (Pkg.getF_setF_apart _ _ _ _ (Fld.apart_of_off (by simp only [F.CORE_CLK_MHZ, F.PWR_FIXED]; omega))).trans hj
  · rw [Pkg.getF_setF_same j _ _ rfl, Pkg.clusterStep_fixed hj]; rfl
  · exact Pkg.getF_setF_apart _ _ _ _ (Fld.apart_of_off (by simp only [F.CORE_CLK_MHZ]; omega))

theorem gateFree_clock (c : Nat) : (F.CORE_CLK_MHZ c).gateFree :=
  ⟨fun cl _ => Fld.apart_of_off (by simp only [F.PWR_CL_GATE, F.CORE_CLK_MHZ]; omega),
    fun n => ⟨(Fld.apart_iff _ _).mpr (.inr (.inl (by change 12 ≤ 16; omega))),
      Fld.apart_of_off (by simp only [F.CORE_GATED, F.CORE_CLK_MHZ]; omega)⟩⟩

/-- The mean power a boost choice looks at (R813). -/
def Pkg.choicePower (k : Pkg) : Nat := if k.power.choice.1 = 0 then k.power.lastP else meanOf k.power.choice

/-- The step a boost choice takes, once the caps are refreshed. -/
def Pkg.chosenStep (k : Pkg) : Nat :=
  if k.flag F.PWR_FIXED ∨ k.getF F.THM_HUB_GATE ≠ 0 then 0
  else nextStep (k.getF F.PWR_STEP) k.choicePower k.ceilMw (k.freeNat 4) (decide (k.power.highAt + 2000000 ≤ k.now))

/-- The package before its clocks follow a boost choice. -/
def Pkg.boosted (k : Pkg) : Pkg :=
  let j := (k.partSteps (k.freeNat 4)).draw.setF F.PWR_STEP k.chosenStep
  (if k.chosenStep = k.getF F.PWR_STEP then j else j.inc (F.PWR_COUNTS 6)).updPower
    (fun w => { w with choice := (0, 0), burstGate := 0, gates := k.nextGates k.choicePower })

theorem exec_boostChoice (s : State) (p : PkgId) (t₀ : Nat) :
    exec (.boostChoice p t₀) s = .next (s.updPkg p (fun k => (k.at t₀).refreshCaps.boosted.setClocks.showGates)) := rfl

theorem apart_partStep (s : Nat) {f : Fld} (h : f.off < 0x600040) : (F.PWR_PART_STEP s).apart f = true :=
  Fld.apart_of_off (by simp only [F.PWR_PART_STEP]; omega)

/-- The package with its new step, before the change of step is counted. -/
def Pkg.stepped (k : Pkg) : Pkg := (k.partSteps (k.freeNat 4)).draw.setF F.PWR_STEP k.chosenStep

/-- The controller's state after a choice. -/
def Pkg.choiceMade (k : Pkg) (w : Power) : Power := { w with choice := (0, 0), burstGate := 0, gates := k.nextGates k.choicePower }

theorem Pkg.boosted_cases (k : Pkg) :
    k.boosted = k.stepped.updPower k.choiceMade ∨ k.boosted = (k.stepped.inc (F.PWR_COUNTS 6)).updPower k.choiceMade := by
  by_cases h : k.chosenStep = k.getF F.PWR_STEP
  · exact .inl (congrArg (Pkg.updPower · k.choiceMade) (if_pos h))
  · exact .inr (congrArg (Pkg.updPower · k.choiceMade) (if_neg h))

/-- The count of step changes lies above what a boost choice reads. -/
theorem Pkg.getF_boosted_eq (k : Pkg) {f : Fld} (h : (F.PWR_COUNTS 6).apart f = true) : k.boosted.getF f = k.stepped.getF f := by
  obtain e | e := k.boosted_cases <;> rw [e, Pkg.getF_updPower]
  exact Pkg.getF_inc_apart _ _ f h

/-- Of the registers below the partitions' a boost choice writes the step alone. -/
theorem Pkg.getF_boosted (k : Pkg) {f : Fld} (h : f.off < 0x600040) (hstep : F.PWR_STEP.apart f = true) : k.boosted.getF f = k.getF f := by
  rw [Pkg.getF_boosted_eq k (Fld.apart_of_off (by simp only [F.PWR_COUNTS]; omega)), Pkg.stepped, Pkg.getF_setF_apart _ _ f _ hstep,
    Pkg.getF_draw, Pkg.getF_partSteps k _ (fun s => apart_partStep s h)]

theorem Pkg.getF_boosted_step (k : Pkg) : k.boosted.getF F.PWR_STEP = k.chosenStep % 2 ^ 4 := by
  rw [Pkg.getF_boosted_eq k (by decide), Pkg.stepped, Pkg.getF_setF_same _ _ _ rfl]
  rfl

/-- The step after a boost choice. -/
theorem Pkg.getF_clocked_step (k : Pkg) : k.boosted.setClocks.showGates.getF F.PWR_STEP = k.chosenStep % 2 ^ 4 := by
  rw [Pkg.getF_showGates _ (Fld.gateFree_of_off (.inl (by decide))),
    Pkg.getF_setClocks _ (fun c => Fld.apart_of_off (by simp only [F.CORE_CLK_MHZ, F.PWR_STEP]; omega)), Pkg.getF_boosted_step]

theorem Pkg.chosenStep_fixed {k : Pkg} (h : k.getF F.PWR_FIXED = 1) : k.chosenStep = 0 := if_pos (.inl ((Pkg.flag_iff ..).mpr h))

/-- The step of a choice in boost mode, in terms of the package before its caps are refreshed. -/
theorem Pkg.chosenStep_boost {k : Pkg} (hfixed : k.getF F.PWR_FIXED = 0) (hhub : k.getF F.THM_HUB_GATE = 0) (hn : k.power.choice.1 ≠ 0) :
    ∃ fall, k.refreshCaps.chosenStep = nextStep (k.getF F.PWR_STEP) (k.power.choice.2 / k.power.choice.1) k.refreshCaps.ceilMw fall
      (decide (k.power.highAt + 2000000 ≤ k.now)) := by
  obtain ⟨r, cap, parts, e⟩ := k.refreshCaps_frame
  have hpower : k.refreshCaps.power = { k.power with cap := cap, parts := parts, capAt := k.now } := by rw [e]
  have hnow : k.refreshCaps.now = k.now := by rw [e]
  have boost : ¬ (k.refreshCaps.flag F.PWR_FIXED ∨ k.refreshCaps.getF F.THM_HUB_GATE ≠ 0) := by
    rw [Pkg.flag_iff, Pkg.getF_refreshCaps k (by decide) (by decide) (by decide) (by decide) (by decide),
      Pkg.getF_refreshCaps k (by decide) (by decide) (by decide) (by decide) (by decide), hfixed, hhub]
    simp
  refine ⟨k.refreshCaps.freeNat 4, ?_⟩
  rw [Pkg.chosenStep, if_neg boost, Pkg.getF_refreshCaps k (by decide) (by decide) (by decide) (by decide) (by decide), Pkg.choicePower, hpower,
    hnow]
  exact congrArg (nextStep _ · _ _ _) ((if_neg hn).trans (if_neg hn))

/-! ### Announced phases (R822) -/

theorem phasesFor_le (n : Nat) : phasesFor n ≤ 20 := Nat.min_le_left ..

theorem Pkg.phasesAt_le (k : Pkg) (cl t : Nat) : k.phasesAt cl t ≤ 20 := by
  unfold Pkg.phasesAt
  exact List.foldlRecOn (motive := fun n => n ≤ 20) _ _ (phasesFor_le _) (fun b hb a _ => Nat.max_le.mpr ⟨hb, phasesFor_le _⟩)

theorem Pkg.phasesAt_congr {k j : Pkg} (h : j.announces = k.announces) (cl t : Nat) : j.phasesAt cl t = k.phasesAt cl t := by
  simp only [Pkg.phasesAt, Pkg.clusterLevel, Pkg.announced, h]

/-- A cluster's turn of the regulators. -/
def Pkg.runPhases (demand : Nat) (k : Pkg) (cl : Nat) : Pkg :=
  (k.setF (F.PWR_CL_PHASES cl) (max demand (k.phasesAt cl k.now))).setF (F.PWR_CL_ANN_MA cl) (k.clusterLevel cl (k.now / 2048) * 35000 / 16)

/-- The announcements whose last volley has not ended. -/
def Pkg.freshAnnounces (k : Pkg) : List Announce := k.announces.filter (fun a => decide (k.now / 2048 < a.ht / 2048 + a.volleys))

theorem exec_announcePhaseWake (s : State) (p : PkgId) (t₀ : Nat) : exec (.announcePhaseWake p t₀) s = .next (s.updPkg p (fun k =>
    ((List.range 4).foldl (Pkg.runPhases ((k.at t₀).freeNat 4 + 1)) { k.at t₀ with announces := (k.at t₀).freshAnnounces }).draw)) := rfl

theorem Pkg.runPhases_announces (demand : Nat) (k : Pkg) :
    ((List.range 4).foldl (Pkg.runPhases demand) k).announces = k.announces :=
  foldl_keeps (v := Pkg.announces) (f := Pkg.runPhases demand) _ k (fun _ _ _ => rfl)

/-- A cluster's regulator runs at least the announced phases. -/
theorem Pkg.getF_runPhases (k : Pkg) {demand cl : Nat} (hd : demand ≤ 16) (h : cl < 4) :
    k.phasesAt cl k.now ≤ ((List.range 4).foldl (Pkg.runPhases demand) k).getF (F.PWR_CL_PHASES cl) := by
  have run : ((List.range 4).foldl (Pkg.runPhases demand) k).getF (F.PWR_CL_PHASES cl) = max demand (k.phasesAt cl k.now) := by
    refine foldl_range_getF (op := Pkg.runPhases demand) (A := fun j => j.announces = k.announces ∧ j.now = k.now) h (fun j x hj => hj) (fun j hj => ?_)
      (fun j x ne => ?_) ⟨rfl, rfl⟩
    · rw [Pkg.runPhases, Pkg.getF_setF_apart _ _ _ _ ((Fld.apart_iff _ _).mpr (.inr (.inl (by change 32 ≤ 40; omega)))),
        Pkg.getF_setF_same j _ _ rfl, hj.2, Pkg.phasesAt_congr hj.1]
      have := Pkg.phasesAt_le k cl k.now
      exact Nat.mod_eq_of_lt (by change max demand _ < 2 ^ 8; omega)
    · rw [Pkg.runPhases, Pkg.getF_setF_apart _ _ _ _ (Fld.apart_of_off (by simp only [F.PWR_CL_ANN_MA, F.PWR_CL_PHASES]; omega)),
        Pkg.getF_setF_apart _ _ _ _ (Fld.apart_of_off (by simp only [F.PWR_CL_PHASES]; omega))]
  rw [run]
  exact Nat.le_max_right ..

/-! ### Energy (R828–R830) -/

/-- The own turn changes a field as `g` says, and no other turn changes it. -/
theorem foldl_range_getF_own {n i : Nat} (hi : i < n) {op : Pkg → Nat → Pkg} {f : Fld} (g : Nat → Nat)
    (own : ∀ j, (op j i).getF f = g (j.getF f)) (other : ∀ j x, x ≠ i → (op j x).getF f = j.getF f) (k : Pkg) :
    ((List.range n).foldl op k).getF f = g (k.getF f) :=
  foldl_ownTurn (A := fun j => j.getF f = k.getF f) (B := fun j => j.getF f = g (k.getF f)) (fun j hj => hj ▸ own j)
    (fun j x _ ne hj => (other j x ne).trans hj) (fun j x _ ne hj => (other j x ne).trans hj) List.nodup_range (List.mem_range.mpr hi) rfl

/-- What an interval gives to the six counters, in µJ: the slots' parts, ballast, and what no slot takes. -/
def Pkg.intervalParts (k : Pkg) (ein eout : Nat) (ecl bal : List Nat) : List Nat :=
  let own := (List.range 4).map (fun c => ein * ecl.getD c 0 / eout - bal.getD c 0)
  let bals := (bal.take 5).sum
  let slotOwn := (List.range 4).map (fun s => ((List.range 4).map (fun c => if k.slotHasCluster s c then own.getD c 0 else 0)).sum)
  let shares := shareEnergy (ein - own.sum - bals) (energyWeights k.power.moved slotOwn)
  (List.range 4).map (fun s => slotOwn.getD s 0 + shares.1.getD s 0) ++ [bals, shares.2 + (own.sum - slotOwn.sum)]

/-- The energy not yet counted after an interval. -/
def Pkg.intervalAcc (k : Pkg) (parts : List Nat) : List Nat := (List.range 6).map (fun i => k.power.acc.getD i 0 + parts.getD i 0)

/-- Counter `i` takes the whole mJ of its part, and so does their sum. -/
def Pkg.countEnergy (acc : List Nat) (k : Pkg) (i : Nat) : Pkg :=
  (k.addWrap (F.PWR_ENERGY i) (acc.getD i 0 / 1000)).addWrap (F.PWR_ENERGY 6) (acc.getD i 0 / 1000)

/-- The package after an interval whose parts are `parts` (R828). -/
def Pkg.intervalDone (parts : List Nat) (k : Pkg) : Pkg :=
  ((List.range 6).foldl (Pkg.countEnergy (k.intervalAcc parts)) k).updPower (fun w => { w with
    acc := (k.intervalAcc parts).map (fun x => x % 1000), moved := [0, 0, 0, 0]
    used := (List.range 4).map (fun s => w.used.getD s 0 + ((List.range 4).map (fun s => parts.getD s 0)).getD s 0) })

theorem exec_energyInterval (s : State) (p : PkgId) (ein eout : Nat) (ecl bal : List Nat) (t₀ : Nat) :
    exec (.energyInterval p ein eout ecl bal t₀) s =
      .next (s.updPkg p (fun k => (k.at t₀).intervalDone ((k.at t₀).intervalParts ein eout ecl bal))) := rfl

theorem apart_energy {i j : Nat} (h : i ≠ j) : (F.PWR_ENERGY i).apart (F.PWR_ENERGY j) = true :=
  Fld.apart_of_off (by simp only [F.PWR_ENERGY]; omega)

theorem Pkg.getF_countEnergy (acc : List Nat) (k : Pkg) {i : Nat} (h : i < 6) :
    ((List.range 6).foldl (Pkg.countEnergy acc) k).getF (F.PWR_ENERGY i) = (k.getF (F.PWR_ENERGY i) + acc.getD i 0 / 1000) % 2 ^ 64 := by
  refine foldl_range_getF_own (op := Pkg.countEnergy acc) h (fun v => (v + acc.getD i 0 / 1000) % 2 ^ 64) (fun j => ?_) (fun j x ne => ?_) k
  · rw [Pkg.countEnergy, Pkg.getF_addWrap_apart _ _ _ _ (apart_energy (by omega)), Pkg.getF_addWrap_same _ _ _ rfl]; rfl
  · by_cases six : i = 6
    · omega
    · rw [Pkg.countEnergy, Pkg.getF_addWrap_apart _ _ _ _ (apart_energy (Ne.symm six)), Pkg.getF_addWrap_apart _ _ _ _ (apart_energy ne)]

theorem Pkg.getF_countEnergy_sum (acc : List Nat) (k : Pkg) (l : List Nat) (hl : ∀ i ∈ l, i < 6) :
    (l.foldl (Pkg.countEnergy acc) k).getF (F.PWR_ENERGY 6) =
      (k.getF (F.PWR_ENERGY 6) + (l.map (fun i => acc.getD i 0 / 1000)).sum) % 2 ^ 64 := by
  induction l generalizing k with
  | nil => exact (Nat.mod_eq_of_lt (Pkg.getF_lt k (F.PWR_ENERGY 6))).symm
  | cons i l ih =>
    have hi : i < 6 := hl i List.mem_cons_self
    rw [List.foldl_cons, ih _ (fun x hx => hl x (List.mem_cons_of_mem _ hx)), Pkg.countEnergy, Pkg.getF_addWrap_same _ _ _ rfl,
      Pkg.getF_addWrap_apart _ _ _ _ (apart_energy (by omega)), List.map_cons, List.sum_cons]
    change ((_ + _) % 2 ^ 64 + _) % 2 ^ 64 = _
    rw [Nat.mod_add_mod, Nat.add_assoc]

/-- With no core and no ballast energy all of an interval is shared (R828). -/
theorem Pkg.intervalParts_shared (k : Pkg) (ein eout : Nat) :
    k.intervalParts ein eout [] [] = (List.range 4).map (fun s => (shareEnergy ein (energyWeights k.power.moved [0, 0, 0, 0])).1.getD s 0) ++
      [0, (shareEnergy ein (energyWeights k.power.moved [0, 0, 0, 0])).2] := by
  have own : (List.range 4).map (fun c => ein * ([] : List Nat).getD c 0 / eout - ([] : List Nat).getD c 0) = [0, 0, 0, 0] := by
    simp [List.range_succ]
  have none (s : Nat) : ((List.range 4).map (fun c => if k.slotHasCluster s c then ([0, 0, 0, 0] : List Nat).getD c 0 else 0)).sum = 0 := by
    simp [List.range_succ]
  simp only [Pkg.intervalParts, own, none]
  simp [List.range_succ]

/-- Energy that no slot has earned is unassigned. -/
theorem shareEnergy_none (ein : Nat) : shareEnergy ein (energyWeights [0, 0, 0, 0] [0, 0, 0, 0]) = ([0, 0, 0, 0], ein) := rfl

/-- The slot that moved the most bytes takes what rounding leaves. -/
theorem shareEnergy_two {ein a b : Nat} (ha : 0 < a) (hb : b ≤ a) :
    shareEnergy ein (energyWeights [a, b, 0, 0] [0, 0, 0, 0]) = ([ein - ein * b / (a + b), ein * b / (a + b), 0, 0], 0) := by
  have heavy : heaviest [a, b, 0, 0] = 0 := by simp [heaviest, List.range_succ, Nat.not_lt.mpr hb]
  have split : ein * a / (a + b) + ein * b / (a + b) ≤ ein :=
    calc ein * a / (a + b) + ein * b / (a + b) ≤ (ein * a + ein * b) / (a + b) := Nat.div_add_div_le_add_div
      _ = ein := by rw [← Nat.mul_add, Nat.mul_div_cancel _ (by omega)]
  have sum : ([a, b, 0, 0] : List Nat).sum = a + b := by simp
  have weights : energyWeights [a, b, 0, 0] [0, 0, 0, 0] = [a, b, 0, 0] := if_pos (by rw [sum]; omega)
  rw [weights, shareEnergy, if_neg (by rw [sum]; omega), sum, heavy]
  simp only [List.range_succ, List.range_zero, List.nil_append, List.cons_append, List.map_cons, List.map_nil, List.getD_cons_zero,
    List.getD_cons_succ, Nat.mul_zero, Nat.zero_div, List.set_cons_zero, List.sum_cons, List.sum_nil]
  generalize ein * a / (a + b) = x at split ⊢
  generalize ein * b / (a + b) = y at split ⊢
  rw [show x + (ein - (x + (y + (0 + (0 + 0))))) = ein - y by omega]

/-- The umpire's reading of a package is kept until the package is read again. -/
theorem State.readEnergy_lastEnergy (s : State) (p : PkgId) : (s.readEnergy p).lastEnergy =
    (p.val, (List.range 5).map (fun i => (s.pkg p).getF (F.PWR_ENERGY i))) :: s.lastEnergy.filter (fun e => e.1 != p.val) := by
  unfold State.readEnergy
  dsimp only
  rw [foldl_keeps (v := State.lastEnergy) (List.range 4) s fun s i _ => by split <;> rfl]

theorem State.readEnergy_pkg (s : State) (p q : PkgId) : (s.readEnergy p).pkg q = s.pkg q := by
  unfold State.readEnergy
  dsimp only
  exact foldl_keeps (v := fun t : State => t.pkg q) (List.range 4) s fun s i _ => by split <;> rfl

theorem State.readEnergy_tray (s : State) (p : PkgId) (n : Nat) : (s.readEnergy p).tray n = s.tray n := by
  unfold State.readEnergy
  dsimp only
  exact foldl_keeps (v := fun t : State => t.tray n) (List.range 4) s fun s i _ => by split <;> rfl

/-- A powered package is read (R830). -/
def State.readPowered (t₀ : Nat) (s : State) (p : Fin 72) : State :=
  if (s.pkg p).rails.mode = .on ∧ (s.tray (trayOf p)).aux then (s.updPkg p (fun k => k.at t₀)).readEnergy p else s

theorem exec_energyPublish (s : State) (t₀ : Nat) (h : s.primary.isSome = true) :
    exec (.energyPublish t₀) s = .next ((List.finRange 72).foldl (State.readPowered t₀) s) := by
  have held : ¬ s.primary.isNone = true := by simpa [← Option.isSome_iff_ne_none] using h
  exact if_neg held

theorem State.lastEnergy_publish {s : State} {p : PkgId} (t₀ : Nat) (hon : (s.pkg p).rails.mode = .on) (haux : (s.tray (trayOf p)).aux = true) :
    (p.val, (List.range 5).map (fun i => (s.pkg p).getF (F.PWR_ENERGY i))) ∈
      ((List.finRange 72).foldl (State.readPowered t₀) s).lastEnergy := by
  refine foldl_ownTurn (A := fun t : State => t.pkg p = s.pkg p ∧ t.tray (trayOf p) = s.tray (trayOf p))
    (B := fun t => (p.val, (List.range 5).map (fun i => (s.pkg p).getF (F.PWR_ENERGY i))) ∈ t.lastEnergy)
    (fun t ht => ?_) (fun t q _ ne ht => ?_) (fun t q _ ne ht => ?_) (List.nodup_finRange 72) (List.mem_finRange p) ⟨rfl, rfl⟩
  · rw [State.readPowered, if_pos ⟨ht.1 ▸ hon, ht.2 ▸ haux⟩, State.readEnergy_lastEnergy, State.pkg_updPkg_same, ht.1]
    exact List.mem_cons_self
  · unfold State.readPowered
    split
    · rw [State.readEnergy_pkg, State.readEnergy_tray, State.pkg_updPkg_other t _ (Ne.symm ne)]; exact ht
    · exact ht
  · unfold State.readPowered
    split
    · rw [State.readEnergy_lastEnergy]
      exact List.mem_cons_of_mem _ (List.mem_filter.mpr ⟨ht, bne_iff_ne.mpr fun e => ne (Fin.ext e.symm)⟩)
    · exact ht

/-! ### The obligation -/

/-- The controller's state after a sample (R807, R815). -/
def Pkg.powerSampled (mw : Nat) (k : Pkg) (w : Power) : Power :=
  let burst := addSample k.power.burst mw
  let overRun := burst.1 == 10 && !k.flag F.PWR_FIXED && decide (k.ceilMw * 115 < meanOf burst * 100)
  let high := decide (k.ceilMw * 92 ≤ mw * 100)
  { w with
    lastP := mw, epoch := addSample w.epoch mw, choice := addSample w.choice mw
    burst := if burst.1 = 10 then (0, 0) else burst
    burstGate := if overRun then 4 else w.burstGate
    highAt := if high then k.now else w.highAt }

theorem exec_powerSample (s : State) (p : PkgId) (mw mv t₀ : Nat) : exec (.powerSample p mw mv t₀) s =
    .next (s.updPkg p (fun k => (((k.at t₀).setF F.PWR_IN_MV (mv / 10)).updPower
      (((k.at t₀).setF F.PWR_IN_MV (mv / 10)).powerSampled mw)).showGates)) := rfl

/-- A droop of a cluster, before the gates are shown (R821). -/
def Pkg.drooped (cl : ClusterId) (k : Pkg) : Pkg :=
  ((k.inc (F.PWR_COUNTS 1)).raise F.PWR_EV_DROOP).updPower (fun w => { w with droops := w.droops.set cl (k.now + 2000) })

theorem exec_droopCrossing (s : State) (p : PkgId) (cl : ClusterId) (t₀ : Nat) :
    exec (.droopCrossing p cl t₀) s = .next (s.updPkg p (fun k => ((k.at t₀).drooped cl).showGates)) := rfl

/-- R807: a sample is kept, and counted in the epoch's mean. -/
theorem Pkg.powerSampled_shows (k : Pkg) (mw mv : Nat) :
    let j := ((k.setF F.PWR_IN_MV (mv / 10)).updPower ((k.setF F.PWR_IN_MV (mv / 10)).powerSampled mw)).showGates
    j.power.lastP = mw ∧ j.getF F.PWR_IN_MV = mv / 10 % 2 ^ 16 ∧ j.power.epoch = (k.power.epoch.1 + 1, k.power.epoch.2 + mw) := by
  intro j
  obtain ⟨g, e⟩ := ((k.setF F.PWR_IN_MV (mv / 10)).updPower ((k.setF F.PWR_IN_MV (mv / 10)).powerSampled mw)).showGates_power
  refine ⟨by rw [e]; rfl, ?_, by rw [e]; rfl⟩
  rw [Pkg.getF_showGates _ (Fld.gateFree_of_off (.inl (by decide))), Pkg.getF_updPower, Pkg.getF_setF_same _ _ _ rfl]
  rfl

theorem Pkg.getF_drooped (k : Pkg) (cl : ClusterId) {f : Fld} (h : 0x6000A0 ≤ f.off ∧ f.off < 0x1000000) :
    (k.drooped cl).showGates.getF f = ((k.inc (F.PWR_COUNTS 1)).raise F.PWR_EV_DROOP).getF f := by
  rw [Pkg.getF_showGates _ (Fld.gateFree_of_off (.inr h)), Pkg.drooped, Pkg.getF_updPower]

/-- R821: a droop is counted, and the cluster is gated. -/
theorem Pkg.drooped_shows (k : Pkg) (cl : ClusterId) (hcl : k.power.droops.length = 4) :
    (k.drooped cl).showGates.getF (F.PWR_COUNTS 1) = min (2 ^ 64 - 1) (k.getF (F.PWR_COUNTS 1) + 1) ∧
      (k.drooped cl).showGates.getF F.PWR_EV_DROOP = 1 ∧ 8 ≤ (k.drooped cl).showGates.getF (F.PWR_CL_GATE cl) := by
  refine ⟨?_, ?_, ?_⟩
  · rw [Pkg.getF_drooped k cl (by decide), Pkg.getF_raise_apart _ _ _ (by decide), Pkg.getF_inc_same _ _ rfl]
    rfl
  · rw [Pkg.getF_drooped k cl (by decide), Pkg.getF_raise_same _ _ rfl (Nat.le_refl 1)]
  · rw [Pkg.getF_showGates_cluster _ cl.isLt]
    refine Pkg.eight_le_clusterGate ?_
    have here : (k.power.droops.set cl (k.now + 2000)).getD cl 0 = k.now + 2000 := by
      rw [List.getD_eq_getElem?_getD, List.getElem?_set_self (by rw [hcl]; exact cl.isLt)]; rfl
    exact Nat.lt_of_lt_of_eq (by omega : k.now < k.now + 2000) here.symm

/-- R817: at fixed frequency the step is 0 and the clocks stand at 1,500 MHz. -/
theorem Pkg.boosted_fixed (k : Pkg) (hfixed : k.getF F.PWR_FIXED = 1) :
    k.refreshCaps.boosted.setClocks.showGates.getF F.PWR_STEP = 0 ∧
      ∀ c, c < 64 → k.refreshCaps.boosted.setClocks.showGates.getF (F.CORE_CLK_MHZ c) = 1500 := by
  have fixed : k.refreshCaps.getF F.PWR_FIXED = 1 := (Pkg.getF_refreshCaps k rfl rfl rfl rfl rfl).trans hfixed
  have fixed' : k.refreshCaps.boosted.getF F.PWR_FIXED = 1 := (Pkg.getF_boosted _ (by decide) rfl).trans fixed
  refine ⟨by rw [Pkg.getF_clocked_step, Pkg.chosenStep_fixed fixed]; rfl, fun c hc => ?_⟩
  rw [Pkg.getF_showGates _ (gateFree_clock c), Pkg.getF_setClocks_fixed fixed' hc]

/-- A boost choice completes with the step it chose. -/
theorem boostChoice_completes {s : State} {p : PkgId} {t₀ v : Nat} {P : Nat → Prop}
    (hv : ((s.pkg p).at t₀).refreshCaps.chosenStep = v) (hlt : v < 16) (hP : P v) :
    Completes (.boostChoice p t₀) s (fun t => P ((t.pkg p).getF F.PWR_STEP)) :=
  completes_of_updPkg (exec_boostChoice s p t₀) fun t ht => by
    rw [ht, Pkg.getF_clocked_step, hv, show v % 2 ^ 4 = v from Nat.mod_eq_of_lt hlt]; exact hP

/-- The regulators of a package whose announcements have been looked through (R822). -/
def Pkg.wokenPhases (k : Pkg) : Pkg :=
  ((List.range 4).foldl (Pkg.runPhases (k.freeNat 4 + 1)) { k with announces := k.freshAnnounces }).draw

theorem Pkg.draw_announces (k : Pkg) : k.draw.announces = k.announces := rfl

theorem Pkg.wokenPhases_announces (k : Pkg) : k.wokenPhases.announces = k.freshAnnounces := by
  rw [Pkg.wokenPhases, Pkg.draw_announces, Pkg.runPhases_announces]

theorem Pkg.getF_wokenPhases (k : Pkg) {cl : Nat} (hcl : cl < 4) :
    ({ k with announces := k.freshAnnounces } : Pkg).phasesAt cl k.now ≤ k.wokenPhases.getF (F.PWR_CL_PHASES cl) := by
  rw [Pkg.wokenPhases, Pkg.getF_draw]
  exact Pkg.getF_runPhases _ (Nat.mod_lt _ (by decide) : k.freeNat 4 < 2 ^ 4) hcl

/-- With no energy left over from before, each counter takes its part. -/
theorem Pkg.intervalAcc_of_none {k : Pkg} {a b c d e f : Nat} (h : k.power.acc = [0, 0, 0, 0, 0, 0]) :
    k.intervalAcc [a, b, c, d, e, f] = [a, b, c, d, e, f] := by
  simp only [Pkg.intervalAcc, h, List.range_succ, List.range_zero, List.nil_append, List.cons_append, List.map_cons, List.map_nil,
    List.getD_cons_zero, List.getD_cons_succ, Nat.zero_add]

theorem Pkg.getF_intervalDone (k : Pkg) (parts : List Nat) {i : Nat} (h : i < 6) :
    (k.intervalDone parts).getF (F.PWR_ENERGY i) = (k.getF (F.PWR_ENERGY i) + (k.intervalAcc parts).getD i 0 / 1000) % 2 ^ 64 := by
  rw [Pkg.intervalDone, Pkg.getF_updPower, Pkg.getF_countEnergy _ _ h]

theorem Pkg.getF_intervalDone_sum (k : Pkg) (parts : List Nat) : (k.intervalDone parts).getF (F.PWR_ENERGY 6) =
    (k.getF (F.PWR_ENERGY 6) + ((List.range 6).map (fun i => (k.intervalAcc parts).getD i 0 / 1000)).sum) % 2 ^ 64 := by
  rw [Pkg.intervalDone, Pkg.getF_updPower, Pkg.getF_countEnergy_sum _ _ _ (by decide)]

/-- R828: input energy that no slot has earned goes to UNASSIGNED. -/
theorem Pkg.intervalDone_unassigned {k : Pkg} (hacc : k.power.acc = [0, 0, 0, 0, 0, 0]) (ein : Nat) :
    let j := k.intervalDone [0, 0, 0, 0, 0, ein]
    j.getF (F.PWR_ENERGY 5) = (k.getF (F.PWR_ENERGY 5) + ein / 1000) % 2 ^ 64 ∧
    j.getF (F.PWR_ENERGY 6) = (k.getF (F.PWR_ENERGY 6) + ein / 1000) % 2 ^ 64 ∧
    (∀ i, i < 5 → j.getF (F.PWR_ENERGY i) = k.getF (F.PWR_ENERGY i)) ∧ j.power.acc = [0, 0, 0, 0, 0, ein % 1000] := by
  intro j
  refine ⟨?_, ?_, fun i hi => ?_, ?_⟩
  · rw [Pkg.getF_intervalDone k _ (by decide), Pkg.intervalAcc_of_none hacc]; rfl
  · rw [Pkg.getF_intervalDone_sum, Pkg.intervalAcc_of_none hacc]
    simp [List.range_succ]
  · have none : ([0, 0, 0, 0, 0, ein] : List Nat).getD i 0 = 0 := by
      match i, hi with
      | 0, _ | 1, _ | 2, _ | 3, _ | 4, _ => rfl
    rw [Pkg.getF_intervalDone k _ (by omega), Pkg.intervalAcc_of_none hacc, none]
    exact Nat.mod_eq_of_lt (Pkg.getF_lt k (F.PWR_ENERGY i))
  · change (k.intervalAcc [0, 0, 0, 0, 0, ein]).map (fun x => x % 1000) = _
    rw [Pkg.intervalAcc_of_none hacc]; rfl

/-- Settles O45: each command's registers by the reads of what it writes, the shares of R828 by the two ways they are weighed. -/
theorem powerIsControlled : Obligations.PowerIsControlled := by
  unfold Obligations.PowerIsControlled
  intro s p t₀ k
  refine ⟨fun mw mv => ?_, fun cl hcl => ?_, fun hfixed => ?_, fun hfixed hhub hn => ?_, ?_, fun ein eout hslots hmoved hacc => ?_,
    fun ein a b hslots hmoved ha hb hacc => ?_, fun hprimary hon haux => ?_⟩
  · exact completes_of_updPkg (exec_powerSample s p mw mv t₀) fun t ht => ht ▸ Pkg.powerSampled_shows k mw mv
  · exact completes_of_updPkg (exec_droopCrossing s p cl t₀) fun t ht => ht ▸ Pkg.drooped_shows k cl hcl
  · exact completes_of_updPkg (exec_boostChoice s p t₀) fun t ht => ht ▸ Pkg.boosted_fixed k hfixed
  · obtain ⟨fall, hstep⟩ := Pkg.chosenStep_boost hfixed hhub hn
    have lt : k.getF F.PWR_STEP < 16 := k.getF_lt F.PWR_STEP
    refine ⟨fun hpow hlow => boostChoice_completes (P := (· = _)) ?_ (by omega) rfl,
      fun hpow hlow => boostChoice_completes (P := (· = _)) ?_ lt rfl,
      fun hpow => boostChoice_completes (v := k.getF F.PWR_STEP - max 1 fall) (P := (· ≤ _)) ?_ (by omega) (by omega)⟩
    · rw [hstep, nextStep, if_neg (Nat.not_lt.mpr hpow), if_pos (decide_eq_true hlow)]
    · rw [hstep, nextStep, if_neg (Nat.not_lt.mpr hpow), if_neg (by simpa using hlow)]
    · rw [hstep, nextStep, if_pos hpow]
  · refine completes_of_updPkg (f := fun k => (k.at t₀).wokenPhases) (exec_announcePhaseWake s p t₀) fun t ht => ?_
    rw [ht]
    refine ⟨Pkg.wokenPhases_announces k, fun cl hcl => ?_⟩
    rw [Pkg.wokenPhases_announces]
    exact Pkg.getF_wokenPhases k hcl
  · have parts : k.intervalParts ein eout [] [] = [0, 0, 0, 0, 0, ein] := by
      rw [Pkg.intervalParts_shared, hmoved, shareEnergy_none]; rfl
    refine completes_of_updPkg (exec_energyInterval s p _ _ _ _ t₀) fun t ht => ?_
    rw [ht, parts]
    exact Pkg.intervalDone_unassigned hacc ein
  · have parts : k.intervalParts ein 1 [] [] = [ein - ein * b / (a + b), ein * b / (a + b), 0, 0, 0, 0] := by
      rw [Pkg.intervalParts_shared, hmoved, shareEnergy_two ha hb]; rfl
    refine completes_of_updPkg (exec_energyInterval s p _ _ _ _ t₀) fun t ht => ?_
    rw [ht, parts]
    refine ⟨rfl, ?_, ?_⟩
    · rw [Pkg.getF_intervalDone _ _ (by decide), Pkg.intervalAcc_of_none (k := k) hacc]; rfl
    · rw [Pkg.getF_intervalDone _ _ (by decide), Pkg.intervalAcc_of_none (k := k) hacc]; rfl
  · exact ⟨_, exec_energyPublish s t₀ hprimary, State.lastEnergy_publish t₀ hon haux⟩

end Sys2Proof.Machine
end

section
/-! PROOFS. What the sequencer writes (04_plays.md): core registers, the error log and the plays, and after a change of state its posts
and packets. -/

namespace Sys2Proof.Machine

/-! ### Cores -/

theorem Pkg.core_setCore_other (k : Pkg) {c c' : Nat} (h : c' ≠ c) (x : Core) : (k.setCore c x).core c' = k.core c' := by
  simp [Pkg.core, Pkg.setCore, List.getD, Ne.symm h]

theorem Pkg.core_of_large (k : Pkg) {c : Nat} (h : 64 ≤ c) : k.core c = {} := by
  simp [Pkg.core, List.getD, h]

theorem Pkg.setCore_of_large (k : Pkg) {c : Nat} (h : 64 ≤ c) (x : Core) (c' : Nat) : (k.setCore c x).core c' = k.core c' := by
  by_cases e : c' = c
  · rw [Pkg.core_of_large _ (e ▸ h), Pkg.core_of_large _ (e ▸ h)]
  · exact Pkg.core_setCore_other k e x

/-- A change of one core as each core sees it. -/
theorem Pkg.core_updCore (k : Pkg) (c c' : Nat) (f : Core → Core) :
    (k.updCore c f).core c' = if c' = c ∧ c < 64 then f (k.core c) else k.core c' := by
  unfold Pkg.updCore
  by_cases hc : c < 64
  · by_cases e : c' = c
    · rw [if_pos ⟨e, hc⟩, e, Pkg.core_setCore_same k hc]
    · rw [if_neg (fun h => e h.1), Pkg.core_setCore_other k e]
  · rw [if_neg (fun h => hc h.2), Pkg.setCore_of_large k (Nat.le_of_not_lt hc)]

theorem Pkg.play_congr {k j : Pkg} (h : j.cores = k.cores) (c : Nat) : j.play c = k.play c := by
  unfold Pkg.play Pkg.core; rw [h]

theorem Pkg.play_setF (k : Pkg) (f : Fld) (v c : Nat) : (k.setF f v).play c = k.play c := rfl

theorem Pkg.play_updPlay (k : Pkg) {c : Nat} (hc : c < 64) (f : Play → Play) : (k.updPlay c f).play c = (k.play c).map f := by
  unfold Pkg.updPlay Pkg.play
  rw [Pkg.core_updCore, if_pos ⟨rfl, hc⟩]

theorem Pkg.getF_updPlay (k : Pkg) (c : Nat) (f : Play → Play) (g : Fld) : (k.updPlay c f).getF g = k.getF g := rfl

/-! ### What the sequencer leaves alone -/

/-- The cells outside the cores' registers and the error log. -/
abbrev seqKeeps (o : Nat) : Prop := o < 0x1000000 ∨ (0x2000000 ≤ o ∧ o < 0x3000000) ∨ 0x4000000 ≤ o

/-- `j` differs from `k` at most in the registers of the cores, the error log and the cores' plays. -/
structure SeqOnly (k j : Pkg) : Prop where
  fields : ∃ r n cs, j = { k with regs := r, errCount := n, cores := cs }
  cells : CellsKept seqKeeps k j
  stores : ∀ c, ∃ pl, j.core c = { k.core c with play := pl }

namespace SeqOnly

variable {k j l : Pkg}

theorem refl (k : Pkg) : SeqOnly k k := ⟨⟨k.regs, k.errCount, k.cores, rfl⟩, .refl k, fun c => ⟨(k.core c).play, rfl⟩⟩

theorem trans (h : SeqOnly k j) (g : SeqOnly j l) : SeqOnly k l := by
  obtain ⟨⟨r, n, cs, e⟩, hc, hs⟩ := h
  obtain ⟨⟨r', n', cs', e'⟩, gc, gs⟩ := g
  refine ⟨⟨r', n', cs', by rw [e', e]⟩, hc.trans gc, fun c => ?_⟩
  obtain ⟨pl, hpl⟩ := hs c
  obtain ⟨pl', hpl'⟩ := gs c
  exact ⟨pl', by rw [hpl', hpl]⟩

theorem setF (k : Pkg) {f : Fld} (v : Nat) (h : ¬ seqKeeps f.off) : SeqOnly k (k.setF f v) :=
  ⟨⟨_, k.errCount, k.cores, rfl⟩, .setF k v h, fun c => ⟨(k.core c).play, rfl⟩⟩

theorem thenF (h : SeqOnly k j) {f : Fld} (v : Nat) (hf : ¬ seqKeeps f.off) : SeqOnly k (j.setF f v) := h.trans (setF j v hf)

theorem ofErr (h : ErrOnly k j) : SeqOnly k j := by
  have cells : CellsKept seqKeeps k j := fun o ho => h.cells o (by omega)
  obtain ⟨⟨r, n, rfl⟩, -⟩ := h
  exact ⟨⟨r, n, k.cores, rfl⟩, cells, fun c => ⟨(k.core c).play, rfl⟩⟩

theorem updPlay (k : Pkg) (c : Nat) (f : Play → Play) : SeqOnly k (k.updPlay c f) := by
  refine ⟨⟨k.regs, k.errCount, _, rfl⟩, .ofRegs rfl, fun c' => ?_⟩
  rw [Pkg.updPlay, Pkg.core_updCore]
  split
  · next h => exact ⟨_, by rw [h.1]⟩
  · exact ⟨(k.core c').play, rfl⟩

theorem ite {c : Prop} [Decidable c] (h : SeqOnly k j) (g : SeqOnly k l) : SeqOnly k (if c then j else l) := by
  split <;> assumption

theorem foldl {α : Type} (xs : List α) {op : Pkg → α → Pkg} (h : ∀ k x, SeqOnly k (op k x)) (k : Pkg) : SeqOnly k (xs.foldl op k) :=
  List.foldlRecOn xs op (refl k) (fun b hb x _ => hb.trans (h b x))

theorem getF (h : SeqOnly k j) {f : Fld} (hf : seqKeeps f.off) : j.getF f = k.getF f := h.cells.getF hf

theorem now (h : SeqOnly k j) : j.now = k.now := by obtain ⟨⟨r, n, cs, e⟩, -, -⟩ := h; rw [e]

theorem sems (h : SeqOnly k j) : j.sems = k.sems ∧ j.semStatus = k.semStatus := by obtain ⟨⟨r, n, cs, e⟩, -, -⟩ := h; rw [e]; exact ⟨rfl, rfl⟩

end SeqOnly

/-- The cell of a core's register, or of its tokens. -/
theorem not_seqKeeps_core {c o : Nat} (hc : c < 64) (h : 0x1000000 + 0x40000 * c ≤ o ∧ o < 0x1040000 + 0x40000 * c) : ¬ seqKeeps o := by
  unfold seqKeeps; omega

theorem Pkg.showSeq_frame (k : Pkg) {c : Nat} (hc : c < 64) : SeqOnly k (k.showSeq c) := by
  have own (f : Fld) (h : 0x1000000 + 0x40000 * c ≤ f.off ∧ f.off < 0x1040000 + 0x40000 * c) : ¬ seqKeeps f.off := not_seqKeeps_core hc h
  have hrun : ¬ seqKeeps (F.CORE_SEQ_RUN c).off := own _ (by simp only [F.CORE_SEQ_RUN]; omega)
  have hloops : ¬ seqKeeps (F.CORE_SEQ_LOOPS c).off := own _ (by simp only [F.CORE_SEQ_LOOPS]; omega)
  have hold : ¬ seqKeeps (F.CORE_SEQ_OLDEST c).off := own _ (by simp only [F.CORE_SEQ_OLDEST]; omega)
  have hmov : ¬ seqKeeps (F.CORE_MOV_NOW c).off := own _ (by simp only [F.CORE_MOV_NOW]; omega)
  have hpeak : ¬ seqKeeps (F.CORE_MOV_PEAK c).off := own _ (by simp only [F.CORE_MOV_PEAK]; omega)
  have hshot : ¬ seqKeeps (F.CORE_SEQ_SHOT_NOW c).off := own _ (by simp only [F.CORE_SEQ_SHOT_NOW]; omega)
  unfold Pkg.showSeq
  split
  · exact (SeqOnly.setF k _ hrun).thenF _ hloops
  · exact (((((SeqOnly.setF k _ hrun).thenF _ hloops).thenF _ hold).thenF _ hmov).thenF _ hpeak).thenF _ hshot

theorem Pkg.showSeq_cores (k : Pkg) (c : Nat) : (k.showSeq c).cores = k.cores := by
  unfold Pkg.showSeq
  split <;> rfl

theorem Pkg.report_seq (k : Pkg) {f : Fld} (hf : ¬ seqKeeps f.off) (st : Status) (kind : UnitKind) (i info : Nat) :
    SeqOnly k (k.report f st kind i info) := by
  unfold Pkg.report
  split
  · exact SeqOnly.setF k _ hf
  · exact (SeqOnly.setF k _ hf).trans (.ofErr (Pkg.logError_frame ..))

theorem Pkg.latch_frame (k : Pkg) {c : Nat} (hc : c < 64) (word st info : Nat) : SeqOnly k (k.latch c word st info) := by
  have own (f : Fld) (h : 0x1000000 + 0x40000 * c ≤ f.off ∧ f.off < 0x1040000 + 0x40000 * c) : ¬ seqKeeps f.off := not_seqKeeps_core hc h
  have hword : ¬ seqKeeps (F.CORE_SEQ_ERR_WORD c).off := own _ (by simp only [F.CORE_SEQ_ERR_WORD]; omega)
  have hst : ¬ seqKeeps (F.CORE_SEQ_ERR_STATUS c).off := own _ (by simp only [F.CORE_SEQ_ERR_STATUS]; omega)
  have hinfo : ¬ seqKeeps (F.CORE_SEQ_ERR_INFO c).off := own _ (by simp only [F.CORE_SEQ_ERR_INFO]; omega)
  have hvalid : ¬ seqKeeps (F.CORE_SEQ_ERR_VALID c).off := own _ (by simp only [F.CORE_SEQ_ERR_VALID]; omega)
  have hreport := k.report_seq (own (F.CORE_LAST_STATUS c) (by simp only [F.CORE_LAST_STATUS]; omega)) st .core c info
  unfold Pkg.latch
  exact SeqOnly.ite hreport ((((hreport.thenF _ hword).thenF _ hst).thenF _ hinfo).thenF _ hvalid)

theorem ErrOnly.cores {k j : Pkg} (h : ErrOnly k j) : j.cores = k.cores := by
  obtain ⟨⟨r, n, rfl⟩, -⟩ := h; rfl

theorem Pkg.report_cores (k : Pkg) (f : Fld) (st : Status) (kind : UnitKind) (i info : Nat) : (k.report f st kind i info).cores = k.cores := by
  unfold Pkg.report
  split
  · rfl
  · exact (Pkg.logError_frame ..).cores

theorem Pkg.latch_cores (k : Pkg) (c word st info : Nat) : (k.latch c word st info).cores = k.cores := by
  unfold Pkg.latch
  dsimp only
  split
  · exact Pkg.report_cores ..
  · exact Pkg.report_cores ..

theorem Pkg.completeToken_frame (k : Pkg) {c : Nat} (hc : c < 64) (x : Cmd) (st : Status) : SeqOnly k (k.completeToken c x st) := by
  have ht : x.f 2 2 % 4096 < 4096 := Nat.mod_lt _ (by decide)
  unfold Pkg.completeToken
  refine SeqOnly.ite ((SeqOnly.setF k _ ?_).thenF _ ?_) (.refl k)
  · exact not_seqKeeps_core hc (by simp only [F.CORE_TOK_PENDING]; omega)
  · exact not_seqKeeps_core hc (by simp only [F.CORE_TOK_CODE]; omega)

theorem Pkg.completeToken_cores (k : Pkg) (c : Nat) (x : Cmd) (st : Status) : (k.completeToken c x st).cores = k.cores := by
  unfold Pkg.completeToken
  split <;> rfl

/-! ### Retirement -/

/-- The play after a command has retired: it is gone, and the shot clock restarts (R176, R185). -/
def Play.retired (pl : Play) (num : Nat) (stop : Bool) (now : Nat) : Play :=
  { pl with cmds := pl.cmds.filter (fun y => y.num != num), stopping := pl.stopping || stop, shotBase := now, shotHeld := 0 }

/-- The registers of a retirement, before the play changes. -/
def Pkg.retireMarks (k : Pkg) (c : Nat) (x : Cmd) (st : Status) (info : Nat) : Pkg :=
  let k := (k.completeToken c x st).addWrap (F.CORE_SEQ_RETIRED c) 1
  if statusOk st then k else k.latch c x.word st info

theorem Pkg.retire_eq (k : Pkg) (c : Nat) (x : Cmd) (st : Status) (info : Nat) :
    k.retire c x st info = ((k.retireMarks c x st info).updPlay c (fun pl =>
      pl.retired x.num ((k.retireMarks c x st info).stopsPlay c st) (k.retireMarks c x st info).now)).showSeq c := rfl

theorem Pkg.retireMarks_frame (k : Pkg) {c : Nat} (hc : c < 64) (x : Cmd) (st : Status) (info : Nat) :
    SeqOnly k (k.retireMarks c x st info) := by
  have counted : SeqOnly k ((k.completeToken c x st).addWrap (F.CORE_SEQ_RETIRED c) 1) :=
    (k.completeToken_frame hc x st).thenF _ (not_seqKeeps_core hc (by simp only [F.CORE_SEQ_RETIRED]; omega))
  unfold Pkg.retireMarks
  exact SeqOnly.ite counted (counted.trans (Pkg.latch_frame _ hc _ _ _))

theorem Pkg.retireMarks_cores (k : Pkg) (c : Nat) (x : Cmd) (st : Status) (info : Nat) : (k.retireMarks c x st info).cores = k.cores := by
  unfold Pkg.retireMarks
  dsimp only
  split
  · exact Pkg.completeToken_cores ..
  · exact (Pkg.latch_cores ..).trans (Pkg.completeToken_cores ..)

theorem Pkg.retire_frame (k : Pkg) {c : Nat} (hc : c < 64) (x : Cmd) (st : Status) (info : Nat) : SeqOnly k (k.retire c x st info) := by
  rw [Pkg.retire_eq]
  exact ((k.retireMarks_frame hc x st info).trans (.updPlay _ c _)).trans (Pkg.showSeq_frame _ hc)

theorem Pkg.play_retire (k : Pkg) {c : Nat} (hc : c < 64) (x : Cmd) (st : Status) (info : Nat) :
    ∃ stop, (k.retire c x st info).play c = (k.play c).map (fun pl => pl.retired x.num stop k.now) ∧ (st = 0 → stop = false) := by
  refine ⟨(k.retireMarks c x st info).stopsPlay c st, ?_, fun h => ?_⟩
  · rw [Pkg.retire_eq, Pkg.play_congr (Pkg.showSeq_cores _ c), Pkg.play_updPlay _ hc, Pkg.play_congr (k.retireMarks_cores c x st info),
      (k.retireMarks_frame hc x st info).now]
  · subst h; rfl

/-! ### Issue -/

/-- The command a word is issued as. -/
def Play.newCmd (pl : Play) (word : Nat) (b : Bytes) (queue : Nat) (phase : Phase) : Cmd :=
  { num := pl.nextNum, word := word, bytes := b, queue := queue, phase := phase
    tile := if fieldAt b 0 1 == 0x01 && bit (fieldAt b 1 1) 5 then pl.tile else none }

/-- The play after a word has been issued. -/
def Play.issued (pl : Play) (word : Nat) (b : Bytes) (queue : Nat) (phase : Phase) : Play :=
  { pl with
    buf := pl.buf.tail
    nextNum := pl.nextNum + 1
    cmds := pl.cmds ++ [pl.newCmd word b queue phase]
    tile := if fieldAt b 0 1 == 0x01 && bit (fieldAt b 1 1) 5 then none else pl.tile }

/-- The registers of an issue. -/
def Pkg.issueMarks (k : Pkg) (c : Nat) (b : Bytes) : Pkg :=
  (if bit (fieldAt b 1 1) 0 then k.setF (F.CORE_TOK_PENDING c (fieldAt b 2 2 % 4096)) 1 else k).setF (F.CORE_SEQ_NEXT c)
    (k.getF (F.CORE_SEQ_NEXT c) + 1)

theorem Pkg.pushCmd_eq (k : Pkg) (c : Nat) (b : Bytes) (queue : Nat) (phase : Phase) :
    k.pushCmd c b queue phase = (k.issueMarks c b).updPlay c (fun pl => pl.issued (k.getF (F.CORE_SEQ_NEXT c)) b queue phase) := rfl

theorem Pkg.issueMarks_frame (k : Pkg) {c : Nat} (hc : c < 64) (b : Bytes) : SeqOnly k (k.issueMarks c b) := by
  have ht : fieldAt b 2 2 % 4096 < 4096 := Nat.mod_lt _ (by decide)
  unfold Pkg.issueMarks
  refine SeqOnly.thenF (SeqOnly.ite (SeqOnly.setF k _ ?_) (.refl k)) _ ?_
  · exact not_seqKeeps_core hc (by simp only [F.CORE_TOK_PENDING]; omega)
  · exact not_seqKeeps_core hc (by simp only [F.CORE_SEQ_NEXT]; omega)

theorem Pkg.issueMarks_cores (k : Pkg) (c : Nat) (b : Bytes) : (k.issueMarks c b).cores = k.cores := by
  unfold Pkg.issueMarks
  split <;> rfl

theorem Pkg.pushCmd_frame (k : Pkg) {c : Nat} (hc : c < 64) (b : Bytes) (queue : Nat) (phase : Phase) :
    SeqOnly k (k.pushCmd c b queue phase) := by
  rw [Pkg.pushCmd_eq]
  exact (k.issueMarks_frame hc b).trans (.updPlay _ c _)

theorem Pkg.play_pushCmd (k : Pkg) {c : Nat} (hc : c < 64) (b : Bytes) (queue : Nat) (phase : Phase) :
    (k.pushCmd c b queue phase).play c = (k.play c).map (fun pl => pl.issued (k.getF (F.CORE_SEQ_NEXT c)) b queue phase) := by
  rw [Pkg.pushCmd_eq, Pkg.play_updPlay _ hc, Pkg.play_congr (k.issueMarks_cores c b)]

theorem Pkg.failWord_frame (k : Pkg) {c : Nat} (hc : c < 64) (b : Bytes) (st : Status) : SeqOnly k (k.failWord c b st) := by
  have pushed := k.pushCmd_frame hc b 3 .done
  unfold Pkg.failWord
  dsimp only
  split
  · exact pushed.trans (Pkg.retire_frame _ hc _ _ _)
  · exact pushed

/-- The sequencer has run past the last word (R168). -/
def Pkg.pastEnd (k : Pkg) (c : Nat) : Pkg :=
  ((k.latch c (k.getF (F.CORE_SEQ_NEXT c)) 0x3107 0).updPlay c (fun pl => { pl with stopping := true })).showSeq c

/-- What issue does with the next word: nothing, a stop past the last word, a failed check, or a command and what follows it. -/
theorem Pkg.issue_succ (k : Pkg) (c fuel : Nat) : k.issue c (fuel + 1) = k ∨ k.issue c (fuel + 1) = k.pastEnd c ∨
    ∃ pl b, k.play c = some pl ∧ k.nextWord pl = some b ∧ pl.block = none ∧
      ((∃ st, k.issue c (fuel + 1) = k.failWord c b st) ∨ ∃ q, k.issue c (fuel + 1) = (k.pushCmd c b q .queued).issue c fuel) := by
  cases hpl : k.play c with
  | none => simp [Pkg.issue, hpl]
  | some pl =>
    simp only [Pkg.issue, hpl]
    split
    · exact .inl rfl
    next going =>
    have free : pl.block = none := by
      cases hb : pl.block with
      | none => rfl
      | some blk => simp [hb] at going
    split
    · exact .inr (.inl rfl)
    cases hb : k.nextWord pl with
    | none => exact .inl rfl
    | some b =>
      dsimp only
      split
      · exact .inl rfl
      · exact .inl rfl
      next q _ _ =>
      split
      · exact .inl rfl
      split
      · exact .inr (.inr ⟨pl, b, rfl, hb, free, .inl ⟨_, rfl⟩⟩)
      split
      · exact .inl rfl
      · exact .inr (.inr ⟨pl, b, rfl, hb, free, .inr ⟨q, rfl⟩⟩)

theorem Pkg.pastEnd_frame (k : Pkg) {c : Nat} (hc : c < 64) : SeqOnly k (k.pastEnd c) :=
  ((k.latch_frame hc _ _ _).trans (.updPlay _ c _)).trans (Pkg.showSeq_frame _ hc)

theorem Pkg.play_pastEnd (k : Pkg) {c : Nat} (hc : c < 64) :
    (k.pastEnd c).play c = (k.play c).map (fun pl => { pl with stopping := true }) := by
  rw [Pkg.pastEnd, Pkg.play_congr (Pkg.showSeq_cores _ c), Pkg.play_updPlay _ hc, Pkg.play_congr (k.latch_cores c _ _ _)]

theorem Pkg.issue_frame {c : Nat} (hc : c < 64) (fuel : Nat) (k : Pkg) : SeqOnly k (k.issue c fuel) := by
  induction fuel generalizing k with
  | zero => exact .refl k
  | succ fuel ih =>
    obtain e | e | ⟨pl, b, -, -, -, ⟨st, e⟩ | ⟨q, e⟩⟩ := k.issue_succ c fuel <;> rw [e]
    · exact .refl k
    · exact k.pastEnd_frame hc
    · exact k.failWord_frame hc b st
    · exact (k.pushCmd_frame hc b q .queued).trans (ih _)

/-- A view of a play that issue leaves alone. -/
theorem Pkg.issue_view {α : Type} {v : Play → α} (hstop : ∀ pl : Play, v { pl with stopping := true } = v pl)
    (hpush : ∀ (pl : Play) w b q ph, v (pl.issued w b q ph) = v pl) (hretire : ∀ (pl : Play) n st now, v (pl.retired n st now) = v pl)
    {c : Nat} (hc : c < 64) (fuel : Nat) (k : Pkg) : ((k.issue c fuel).play c).map v = (k.play c).map v := by
  have map_map (o : Option Play) (f : Play → Play) (h : ∀ pl, v (f pl) = v pl) : (o.map f).map v = o.map v := by
    cases o with
    | none => rfl
    | some pl => exact congrArg some (h pl)
  have pushed (k : Pkg) (b : Bytes) (q : Nat) (ph : Phase) : ((k.pushCmd c b q ph).play c).map v = (k.play c).map v := by
    rw [k.play_pushCmd hc, map_map _ _ (fun pl => hpush pl _ _ _ _)]
  induction fuel generalizing k with
  | zero => rfl
  | succ fuel ih =>
    obtain e | e | ⟨pl, b, -, -, -, ⟨st, e⟩ | ⟨q, e⟩⟩ := k.issue_succ c fuel <;> rw [e]
    · rw [k.play_pastEnd hc, map_map _ _ hstop]
    · unfold Pkg.failWord
      dsimp only
      split
      · next x _ =>
        obtain ⟨stop, hplay, -⟩ := (k.pushCmd c b 3 .done).play_retire hc x st 0
        rw [hplay, map_map _ _ (fun pl => hretire pl _ _ _), pushed]
      · exact pushed k b 3 .done
    · rw [ih, pushed]

/-- A blocked sequencer issues nothing. -/
theorem Pkg.issue_of_blocked {k : Pkg} {c fuel : Nat} {pl : Play} (hpl : k.play c = some pl) (h : pl.block.isSome = true) :
    k.issue c fuel = k := by
  cases fuel with
  | zero => rfl
  | succ fuel => simp [Pkg.issue, hpl, h]

/-- With no word fetched issue at most finds the play at its end. -/
theorem Pkg.issue_of_unfetched {k : Pkg} {c fuel : Nat} {pl : Play} (hpl : k.play c = some pl) (h : pl.buf = []) :
    k.issue c fuel = k ∨ k.issue c fuel = k.pastEnd c := by
  cases fuel with
  | zero => exact .inl rfl
  | succ fuel =>
    obtain e | e | ⟨pl', b, hpl', hb, -⟩ := k.issue_succ c fuel
    · exact .inl e
    · exact .inr e
    · cases hpl.symm.trans hpl'
      simp [Pkg.nextWord, h] at hb

end Sys2Proof.Machine
end

section
/-! PROOFS. What the sequencer does by itself after a change: posts, barrier arrival and issue (R160, R162, R171); and how the next word
issues. -/

namespace Sys2Proof.Machine

/-! ### Posts, packets and arrivals -/

/-- The cells that neither the sequencer nor the fabric writes. -/
abbrev goKeeps (o : Nat) : Prop := seqKeeps o ∧ (o < 0x200800 ∨ 0x300000 ≤ o)

/-- `j` differs from `k` at most in what the sequencer writes, the fabric, the semaphores and the barrier arrivals. -/
structure GoOnly (k j : Pkg) : Prop where
  fields : ∃ r n cs f w sm fo ar, j = { k with
    regs := r, errCount := n, cores := cs, fab := f, power := { k.power with moved := w }, sems := sm, fireOrder := fo, arrivals := ar }
  cells : CellsKept goKeeps k j
  stores : ∀ c, ∃ pl, j.core c = { k.core c with play := pl }

namespace GoOnly

variable {k j l : Pkg}

theorem ofSeq (h : SeqOnly k j) : GoOnly k j := by
  obtain ⟨⟨r, n, cs, e⟩, hc, hs⟩ := h
  exact ⟨⟨r, n, cs, k.fab, k.power.moved, k.sems, k.fireOrder, k.arrivals, e⟩, hc.mono fun o ho => ho.1, hs⟩

theorem refl (k : Pkg) : GoOnly k k := ofSeq (.refl k)

theorem trans (h : GoOnly k j) (g : GoOnly j l) : GoOnly k l := by
  obtain ⟨⟨r, n, cs, f, w, sm, fo, ar, e⟩, hc, hs⟩ := h
  obtain ⟨⟨r', n', cs', f', w', sm', fo', ar', e'⟩, gc, gs⟩ := g
  refine ⟨⟨r', n', cs', f', w', sm', fo', ar', by rw [e', e]⟩, hc.trans gc, fun c => ?_⟩
  obtain ⟨pl, hpl⟩ := hs c
  obtain ⟨pl', hpl'⟩ := gs c
  exact ⟨pl', by rw [hpl', hpl]⟩

theorem ofFab (h : FabOnly k j) : GoOnly k j := by
  have cells : CellsKept goKeeps k j := fun o ho => h.cells o ho.2
  obtain ⟨⟨r, f, w, rfl⟩, -⟩ := h
  exact ⟨⟨r, k.errCount, k.cores, f, w, k.sems, k.fireOrder, k.arrivals, rfl⟩, cells, fun c => ⟨(k.core c).play, rfl⟩⟩

theorem ofArrivals (k : Pkg) (ar : List Arrival) : GoOnly k { k with arrivals := ar } :=
  ⟨⟨k.regs, k.errCount, k.cores, k.fab, k.power.moved, k.sems, k.fireOrder, ar, rfl⟩, .ofRegs rfl, fun c => ⟨(k.core c).play, rfl⟩⟩

theorem semAdd (k : Pkg) (slot sem v : Nat) : GoOnly k (k.semAdd slot sem v) :=
  ⟨⟨k.regs, k.errCount, k.cores, k.fab, k.power.moved, _, _, k.arrivals, rfl⟩, .ofRegs rfl, fun c => ⟨(k.core c).play, rfl⟩⟩

theorem ite {c : Prop} [Decidable c] (h : GoOnly k j) (g : GoOnly k l) : GoOnly k (if c then j else l) := by
  split <;> assumption

theorem foldl {α : Type} (xs : List α) {op : Pkg → α → Pkg} (h : ∀ k, ∀ x ∈ xs, GoOnly k (op k x)) (k : Pkg) : GoOnly k (xs.foldl op k) :=
  List.foldlRecOn xs op (refl k) (fun b hb x hx => hb.trans (h b x hx))

theorem getF (h : GoOnly k j) {f : Fld} (hf : goKeeps f.off) : j.getF f = k.getF f := h.cells.getF hf

theorem announces (h : GoOnly k j) : j.announces = k.announces := by
  obtain ⟨⟨r, n, cs, f, w, sm, fo, ar, e⟩, -, -⟩ := h; rw [e]

theorem now (h : GoOnly k j) : j.now = k.now := by
  obtain ⟨⟨r, n, cs, f, w, sm, fo, ar, e⟩, -, -⟩ := h; rw [e]

end GoOnly

theorem Pkg.applyPost_cases (k : Pkg) (c : Nat) (q : Post) :
    k.applyPost c q = k.semAdd (k.coreSlot c) q.sem q.value ∨ ∃ o, k.applyPost c q = k.send o := by
  unfold Pkg.applyPost
  dsimp only
  split
  · exact .inl rfl
  · exact .inr ⟨_, rfl⟩

theorem Pkg.applyPost_frame (k : Pkg) (c : Nat) (q : Post) : GoOnly k (k.applyPost c q) := by
  obtain e | ⟨o, e⟩ := k.applyPost_cases c q <;> rw [e]
  · exact .semAdd ..
  · exact .ofFab (k.send_frame o)

theorem FabOnly.cores {k j : Pkg} (h : FabOnly k j) : j.cores = k.cores := by
  obtain ⟨⟨r, f, w, rfl⟩, -⟩ := h; rfl

theorem FabOnly.arrivals {k j : Pkg} (h : FabOnly k j) : j.arrivals = k.arrivals := by
  obtain ⟨⟨r, f, w, rfl⟩, -⟩ := h; rfl

theorem Pkg.applyPost_cores (k : Pkg) (c : Nat) (q : Post) :
    (k.applyPost c q).cores = k.cores ∧ (k.applyPost c q).arrivals = k.arrivals := by
  obtain e | ⟨o, e⟩ := k.applyPost_cases c q <;> rw [e]
  · exact ⟨rfl, rfl⟩
  · exact ⟨(k.send_frame o).cores, (k.send_frame o).arrivals⟩

/-- The queued additions whose condition is met (R160). -/
def Play.metPosts (pl : Play) : List Post := pl.posts.filter (fun q => maskMet pl q.mask q.before)

/-- The play after they have been made. -/
def Play.posted (met : List Post) (pl : Play) : Play := { pl with posts := pl.posts.filter (fun q => !met.contains q) }

theorem Pkg.applyPosts_eq {k : Pkg} {c : Nat} {pl : Play} (hpl : k.play c = some pl) :
    k.applyPosts c = pl.metPosts.foldl (fun k q => k.applyPost c q) (k.updPlay c (Play.posted pl.metPosts)) := by
  unfold Pkg.applyPosts
  rw [hpl]
  rfl

theorem Pkg.applyPosts_frame (k : Pkg) (c : Nat) : GoOnly k (k.applyPosts c) := by
  cases hpl : k.play c with
  | none => rw [Pkg.applyPosts, hpl]; exact .refl k
  | some pl =>
    rw [Pkg.applyPosts_eq hpl]
    exact (GoOnly.ofSeq (.updPlay k c _)).trans (.foldl _ (fun k q _ => k.applyPost_frame c q) _)

theorem Pkg.play_applyPosts {k : Pkg} {c : Nat} (hc : c < 64) {pl : Play} (hpl : k.play c = some pl) :
    (k.applyPosts c).play c = some (pl.posted pl.metPosts) := by
  rw [Pkg.applyPosts_eq hpl, Pkg.play_congr (k := k.updPlay c (Play.posted pl.metPosts))
    (foldl_keeps (v := Pkg.cores) _ _ fun k q _ => (k.applyPost_cores c q).1), Pkg.play_updPlay k hc, hpl]
  rfl

theorem Pkg.applyPosts_arrivals (k : Pkg) (c : Nat) : (k.applyPosts c).arrivals = k.arrivals := by
  cases hpl : k.play c with
  | none => rw [Pkg.applyPosts, hpl]
  | some pl =>
    rw [Pkg.applyPosts_eq hpl, foldl_keeps (v := Pkg.arrivals) _ _ fun k q _ => (k.applyPost_cores c q).2]
    rfl

/-- With no post queued nothing is posted. -/
theorem Pkg.applyPosts_of_none {k : Pkg} {c : Nat} {pl : Play} (hpl : k.play c = some pl) (h : pl.posts = []) : SeqOnly k (k.applyPosts c) := by
  rw [Pkg.applyPosts_eq hpl, Play.metPosts, h]
  exact .updPlay k c _

theorem Pkg.waiters_lt {k : Pkg} {slot id : Nat} {pt : Bool} {w : Nat} (h : w ∈ k.waiters slot id pt) : w < 64 :=
  List.mem_range.mp (List.mem_filter.mp h).1

theorem Pkg.endBarrier_frame (k : Pkg) {c : Nat} (hc : c < 64) (st : Status) : SeqOnly k (k.endBarrier c st) := by
  unfold Pkg.endBarrier
  split
  · exact .refl k
  split
  · dsimp only
    split
    · exact (SeqOnly.updPlay k c _).trans (Pkg.retire_frame _ hc _ _ _)
    · exact .updPlay k c _
  · exact .refl k

theorem Pkg.endBarriers_frame (k j : Pkg) (slot id : Nat) (pt : Bool) (st : Status) :
    GoOnly j ((k.waiters slot id pt).foldl (fun k w => k.endBarrier w st) j) :=
  .foldl _ (fun l _ hw => .ofSeq (l.endBarrier_frame (Pkg.waiters_lt hw) st)) j

theorem Pkg.tryArrive_frame (k : Pkg) (c : Nat) : GoOnly k (k.tryArrive c) := by
  unfold Pkg.tryArrive
  split
  · exact .refl k
  split
  · next id pt n _ =>
    have arrived := GoOnly.ofSeq (.updPlay k c (fun p => { p with block := some (.barrier id pt n true) }))
    dsimp only
    refine .ite (.refl k) (.ite (arrived.trans (.ofFab (Pkg.sendHub_frame ..))) (.ite ?_ (.ite ?_ ?_)))
    · exact arrived.trans ((GoOnly.ofArrivals ..).trans (Pkg.endBarriers_frame ..))
    · exact arrived.trans ((GoOnly.ofArrivals ..).trans (Pkg.endBarriers_frame ..))
    · exact arrived.trans (.ofArrivals ..)
  · exact .refl k

/-- A core with no pending barrier, or with commands before it, does not arrive. -/
theorem Pkg.tryArrive_of_early {k : Pkg} {c : Nat} {pl : Play} (hpl : k.play c = some pl)
    (h : ∀ id pt n, pl.block = some (.barrier id pt n false) → pl.cmds.any (fun x => x.op != 0x44) = true) : k.tryArrive c = k := by
  unfold Pkg.tryArrive
  rw [hpl]
  dsimp only
  split
  · next id pt n hb => exact if_pos (h id pt n hb)
  · rfl

/-- The first core of a PACKAGE barrier arrives (R162). -/
theorem Pkg.tryArrive_of_first {k : Pkg} {c id n : Nat} {pl : Play} (hpl : k.play c = some pl) (hb : pl.block = some (.barrier id false n false))
    (hcmds : pl.cmds.any (fun x => x.op != 0x44) = false) (hnone : k.arrivals = []) (hn : 2 ≤ n) :
    k.tryArrive c = { k.updPlay c (fun p => { p with block := some (.barrier id false n true) }) with
      arrivals := [{ slot := k.coreSlot c, id := id, gen := 0, who := c, participants := n }] } := by
  have none : (k.updPlay c (fun p => { p with block := some (.barrier id false n true) })).arrivals = [] := hnone
  unfold Pkg.tryArrive
  rw [hpl]
  dsimp only
  rw [hb]
  dsimp only
  rw [if_neg (by simp [hcmds]), if_neg (by simp), none, if_neg (by simp), if_neg (by simp; omega)]
  rfl

theorem Pkg.seqGo_frame (k : Pkg) {c : Nat} (hc : c < 64) : GoOnly k (k.seqGo c) := by
  unfold Pkg.seqGo
  exact (((k.applyPosts_frame c).trans (Pkg.tryArrive_frame _ c)).trans (.ofSeq (Pkg.issue_frame hc _ _))).trans
    (.ofSeq (Pkg.showSeq_frame _ hc))

/-- The sequencer's own turn when its core does not arrive at a barrier. -/
theorem Pkg.seqGo_of_early {k : Pkg} {c : Nat} (hc : c < 64) {pl : Play} (hpl : k.play c = some pl)
    (h : ∀ id pt n, pl.block = some (.barrier id pt n false) → pl.cmds.any (fun x => x.op != 0x44) = true) :
    k.seqGo c = ((k.applyPosts c).issue c (pl.buf.length + 1)).showSeq c := by
  have posted := Pkg.play_applyPosts hc hpl
  unfold Pkg.seqGo
  dsimp only
  rw [Pkg.tryArrive_of_early posted h, posted]
  rfl

/-- A blocked play only makes its posts. -/
theorem Pkg.play_seqGo_of_blocked {k : Pkg} {c : Nat} (hc : c < 64) {pl : Play} (hpl : k.play c = some pl) (hb : pl.block.isSome = true)
    (h : ∀ id pt n, pl.block = some (.barrier id pt n false) → pl.cmds.any (fun x => x.op != 0x44) = true) :
    (k.seqGo c).play c = some (pl.posted pl.metPosts) := by
  have posted := Pkg.play_applyPosts hc hpl
  rw [Pkg.seqGo_of_early hc hpl h, Pkg.issue_of_blocked posted hb, Pkg.play_congr (Pkg.showSeq_cores ..), posted]

/-- With no word fetched the sequencer makes its posts, and may find the play at its end. -/
theorem Pkg.seqGo_of_unfetched {k : Pkg} {c : Nat} (hc : c < 64) {pl : Play} (hpl : k.play c = some pl) (hb : pl.block = none)
    (hbuf : pl.buf = []) : k.seqGo c = (k.applyPosts c).showSeq c ∨ k.seqGo c = ((k.applyPosts c).pastEnd c).showSeq c := by
  have posted := Pkg.play_applyPosts hc hpl
  rw [Pkg.seqGo_of_early hc hpl (fun id pt n h => by simp [hb] at h)]
  exact (Pkg.issue_of_unfetched posted hbuf).imp (congrArg (Pkg.showSeq · c)) (congrArg (Pkg.showSeq · c))

theorem Pkg.play_seqGo_of_unfetched {k : Pkg} {c : Nat} (hc : c < 64) {pl : Play} (hpl : k.play c = some pl) (hb : pl.block = none)
    (hbuf : pl.buf = []) : ∃ stop, (k.seqGo c).play c = some { pl.posted pl.metPosts with stopping := stop } := by
  have posted := Pkg.play_applyPosts hc hpl
  obtain e | e := Pkg.seqGo_of_unfetched hc hpl hb hbuf <;> rw [e, Pkg.play_congr (Pkg.showSeq_cores ..)]
  · exact ⟨pl.stopping, by rw [posted]; rfl⟩
  · exact ⟨true, by rw [Pkg.play_pastEnd _ hc, posted]; rfl⟩

/-! ### Fields of a core that the sequencer shows -/

/-- The fields in which the sequencer's state is shown leave `f` alone. -/
structure Fld.showFree (c : Nat) (f : Fld) : Prop where
  run : (F.CORE_SEQ_RUN c).apart f = true
  loops : (F.CORE_SEQ_LOOPS c).apart f = true
  oldest : (F.CORE_SEQ_OLDEST c).apart f = true
  movNow : (F.CORE_MOV_NOW c).apart f = true
  movPeak : (F.CORE_MOV_PEAK c).apart f = true
  shotNow : (F.CORE_SEQ_SHOT_NOW c).apart f = true

theorem Pkg.getF_showSeq (k : Pkg) {c : Nat} {f : Fld} (h : f.showFree c) : (k.showSeq c).getF f = k.getF f := by
  unfold Pkg.showSeq
  split
  · rw [Pkg.getF_setF_apart _ _ f _ h.loops, Pkg.getF_setF_apart _ _ f _ h.run]
  · dsimp only
    rw [Pkg.getF_setF_apart _ _ f _ h.shotNow, Pkg.getF_setF_apart _ _ f _ h.movPeak, Pkg.getF_setF_apart _ _ f _ h.movNow,
      Pkg.getF_setF_apart _ _ f _ h.oldest, Pkg.getF_setF_apart _ _ f _ h.loops, Pkg.getF_setF_apart _ _ f _ h.run]

/-- The fields that latch a status leave `f` alone. -/
structure Fld.latchFree (c : Nat) (f : Fld) : Prop where
  last : (F.CORE_LAST_STATUS c).apart f = true
  word : (F.CORE_SEQ_ERR_WORD c).apart f = true
  status : (F.CORE_SEQ_ERR_STATUS c).apart f = true
  info : (F.CORE_SEQ_ERR_INFO c).apart f = true
  valid : (F.CORE_SEQ_ERR_VALID c).apart f = true
  off : f.off < 0x3000000

theorem Pkg.getF_latch (k : Pkg) {c : Nat} {f : Fld} (h : f.latchFree c) (word st info : Nat) : (k.latch c word st info).getF f = k.getF f := by
  have report := (k.getF_report (F.CORE_LAST_STATUS c) f st .core c info h.off).trans (Pkg.getF_setF_apart k _ f st h.last)
  unfold Pkg.latch
  dsimp only
  split
  · exact report
  · rw [Pkg.raise, Pkg.getF_setF_apart _ _ f _ h.valid, Pkg.getF_setF_apart _ _ f _ h.info, Pkg.getF_setF_apart _ _ f _ h.status,
      Pkg.getF_setF_apart _ _ f _ h.word, report]

theorem Pkg.getF_pastEnd (k : Pkg) {c : Nat} {f : Fld} (hs : f.showFree c) (hl : f.latchFree c) : (k.pastEnd c).getF f = k.getF f := by
  rw [Pkg.pastEnd, Pkg.getF_showSeq _ hs, Pkg.getF_updPlay, Pkg.getF_latch _ hl]

theorem Fld.showFree_next (c : Nat) : (F.CORE_SEQ_NEXT c).showFree c := by
  constructor <;> simp [Fld.apart, F.CORE_SEQ_NEXT, F.CORE_SEQ_RUN, F.CORE_SEQ_LOOPS, F.CORE_SEQ_OLDEST, F.CORE_MOV_NOW, F.CORE_MOV_PEAK,
    F.CORE_SEQ_SHOT_NOW]

theorem Fld.showFree_retired (c : Nat) : (F.CORE_SEQ_RETIRED c).showFree c := by
  constructor <;> simp [Fld.apart, F.CORE_SEQ_RETIRED, F.CORE_SEQ_RUN, F.CORE_SEQ_LOOPS, F.CORE_SEQ_OLDEST, F.CORE_MOV_NOW, F.CORE_MOV_PEAK,
    F.CORE_SEQ_SHOT_NOW]

theorem Fld.latchFree_next {c : Nat} (hc : c < 64) : (F.CORE_SEQ_NEXT c).latchFree c := by
  constructor
  case off => simp only [F.CORE_SEQ_NEXT]; omega
  all_goals simp [Fld.apart, F.CORE_SEQ_NEXT, F.CORE_LAST_STATUS, F.CORE_SEQ_ERR_WORD, F.CORE_SEQ_ERR_STATUS, F.CORE_SEQ_ERR_INFO,
    F.CORE_SEQ_ERR_VALID]

theorem Fld.latchFree_retired {c : Nat} (hc : c < 64) : (F.CORE_SEQ_RETIRED c).latchFree c := by
  constructor
  case off => simp only [F.CORE_SEQ_RETIRED]; omega
  all_goals simp [Fld.apart, F.CORE_SEQ_RETIRED, F.CORE_LAST_STATUS, F.CORE_SEQ_ERR_WORD, F.CORE_SEQ_ERR_STATUS, F.CORE_SEQ_ERR_INFO,
    F.CORE_SEQ_ERR_VALID]

theorem Pkg.getF_completeToken (k : Pkg) (c : Nat) (x : Cmd) (st : Status) {f : Fld} (h : f.off < 0x1001000 + 0x40000 * c) :
    (k.completeToken c x st).getF f = k.getF f := by
  unfold Pkg.completeToken
  split
  · dsimp only
    rw [Pkg.getF_setF_apart _ _ f _ (Fld.apart_of_off (by simp only [F.CORE_TOK_CODE]; omega)),
      Pkg.getF_setF_apart _ _ f _ (Fld.apart_of_off (by simp only [F.CORE_TOK_PENDING]; omega))]
  · rfl

theorem Pkg.getF_retire_retired (k : Pkg) {c : Nat} (hc : c < 64) (x : Cmd) (st : Status) (info : Nat) :
    (k.retire c x st info).getF (F.CORE_SEQ_RETIRED c) = (k.getF (F.CORE_SEQ_RETIRED c) + 1) % 2 ^ 64 := by
  have counted : ((k.completeToken c x st).addWrap (F.CORE_SEQ_RETIRED c) 1).getF (F.CORE_SEQ_RETIRED c) =
      (k.getF (F.CORE_SEQ_RETIRED c) + 1) % 2 ^ 64 := by
    rw [Pkg.getF_addWrap_same _ _ _ rfl, Pkg.getF_completeToken _ _ _ _ (by simp only [F.CORE_SEQ_RETIRED]; omega)]
    rfl
  rw [Pkg.retire_eq, Pkg.getF_showSeq _ (Fld.showFree_retired c), Pkg.getF_updPlay]
  unfold Pkg.retireMarks
  dsimp only
  split
  · exact counted
  · rw [Pkg.getF_latch _ (Fld.latchFree_retired hc), counted]

/-- Posts leave the registers of the cores alone. -/
theorem Pkg.getF_applyPosts (k : Pkg) (c : Nat) {f : Fld} (h : 0x1000000 ≤ f.off) : (k.applyPosts c).getF f = k.getF f := by
  cases hpl : k.play c with
  | none => rw [Pkg.applyPosts, hpl]
  | some pl =>
    rw [Pkg.applyPosts_eq hpl, foldl_keeps (v := fun j : Pkg => j.getF f) _ _ fun j q _ => ?_, Pkg.getF_updPlay]
    obtain e | ⟨o, e⟩ := j.applyPost_cases c q <;> rw [e]
    · rfl
    · exact (j.send_frame o).getF f (.inr (by omega))

/-- With no word fetched, what the sequencer shows of other things stays. -/
theorem Pkg.getF_seqGo_of_unfetched {k : Pkg} {c : Nat} (hc : c < 64) {pl : Play} (hpl : k.play c = some pl) (hb : pl.block = none)
    (hbuf : pl.buf = []) {f : Fld} (hs : f.showFree c) (hl : f.latchFree c) (ho : 0x1000000 ≤ f.off) : (k.seqGo c).getF f = k.getF f := by
  obtain e | e := Pkg.seqGo_of_unfetched hc hpl hb hbuf <;> rw [e, Pkg.getF_showSeq _ hs]
  · exact k.getF_applyPosts c ho
  · rw [Pkg.getF_pastEnd _ hs hl, k.getF_applyPosts c ho]

/-! ### Issue of a sequencer command -/

/-- The queue a sequencer command is issued to: SEND_TILE is the mover's. -/
def issueQueue (op : Nat) : Nat := if op = 0x31 then 2 else 3

/-- What it means that the next word may issue as `op` (R171, R176–R178, R991). -/
theorem Pkg.issuable_iff {k : Pkg} {c op : Nat} {pl : Play} {b : Bytes} (h : k.issuable c op = some (pl, b)) :
    k.play c = some pl ∧ k.nextWord pl = some b ∧ pl.stopping = false ∧ pl.draining = false ∧ pl.block = none ∧
      k.getF (F.CORE_SEQ_NEXT c) < pl.length ∧ fieldAt b 0 1 = op ∧ wordCheck b pl.tile.isSome = none ∧ k.notifyHeld c b = false ∧
      k.waitToken c b = some 0 := by
  unfold Pkg.issuable at h
  split at h
  · cases h
  next pl' hpl =>
  split at h
  · cases h
  next b' hb =>
  split at h
  next ok =>
    cases h
    simp only [Bool.and_eq_true, Bool.not_eq_true', Option.isNone_iff_eq_none, decide_eq_true_eq, beq_iff_eq] at ok
    obtain ⟨⟨⟨⟨⟨⟨⟨h₁, h₂⟩, h₃⟩, h₄⟩, h₅⟩, h₆⟩, h₇⟩, h₈⟩ := ok
    exact ⟨hpl, hb, h₁, h₂, h₃, h₄, h₅, h₆, h₇, h₈⟩
  · cases h

/-- A word that may issue does, and its effect follows. -/
theorem Pkg.seqIssue_of_issuable {k : Pkg} {c op : Nat} (hc : c < 64) {pl : Play} {b : Bytes} (h : k.issuable c op = some (pl, b))
    (act : Pkg → Cmd → Pkg) :
    k.seqIssue c op act = (act (k.pushCmd c b (issueQueue op) .running)
      (pl.newCmd (k.getF (F.CORE_SEQ_NEXT c)) b (issueQueue op) .running)).seqGo c := by
  obtain ⟨hpl, hb, hstop, hdrain, hblock, hnext, hop, hcheck, hheld, hwait⟩ := Pkg.issuable_iff h
  have pushed := k.play_pushCmd hc b (issueQueue op) .running
  have last : ((k.pushCmd c b (issueQueue op) .running).play c).bind Play.lastCmd =
      some (pl.newCmd (k.getF (F.CORE_SEQ_NEXT c)) b (issueQueue op) .running) := by
    rw [pushed, hpl]
    exact List.getLast?_concat
  have going : (pl.stopping || pl.draining || pl.block.isSome || pl.length == 0 ||
      decide (pl.length ≤ k.getF (F.CORE_SEQ_NEXT c))) = false := by
    simp [hstop, hdrain, hblock]; omega
  unfold Pkg.seqIssue
  rw [hpl]
  simp only [going, hb, hop, hcheck, hheld, hwait]
  unfold issueQueue at last ⊢
  rw [last, if_neg Bool.false_ne_true, if_neg (fun h => h rfl), if_neg Bool.false_ne_true]
  rfl

end Sys2Proof.Machine
end

section
/-! PROOFS. The sequencer's commands (R155–R169, R184): those that block issue and what releases them, and those that retire at issue. -/

namespace Sys2Proof.Machine

/-! ### Commands that issue -/

/-- The package in which a word has just issued. -/
def Pkg.issuedAs (k : Pkg) (c op : Nat) (b : Bytes) : Pkg := k.pushCmd c b (issueQueue op) .running

/-- The command it issued as. -/
def Pkg.issuedCmd (k : Pkg) (c op : Nat) (pl : Play) (b : Bytes) : Cmd :=
  pl.newCmd (k.getF (F.CORE_SEQ_NEXT c)) b (issueQueue op) .running

/-- The play in which it issued. -/
def Pkg.issuedPlay (k : Pkg) (c op : Nat) (pl : Play) (b : Bytes) : Play :=
  pl.issued (k.getF (F.CORE_SEQ_NEXT c)) b (issueQueue op) .running

theorem Pkg.play_issuedAs {k : Pkg} {c op : Nat} (hc : c < 64) {pl : Play} {b : Bytes} (h : k.issuable c op = some (pl, b)) :
    (k.issuedAs c op b).play c = some (k.issuedPlay c op pl b) := by
  rw [Pkg.issuedAs, k.play_pushCmd hc, (Pkg.issuable_iff h).1]
  rfl

theorem Pkg.issuedAs_frame (k : Pkg) {c : Nat} (hc : c < 64) (op : Nat) (b : Bytes) : SeqOnly k (k.issuedAs c op b) :=
  k.pushCmd_frame hc _ _ _

/-- A command of the sequencer completes with the effect of the word that may issue. -/
theorem seqIssue_completes {i : Instr} {s : State} {p : PkgId} {core : CoreId} {op t₀ : Nat} {act : Pkg → Cmd → Pkg} {P : State → Prop}
    (hexec : exec i s = .next (s.updPkg p (fun k => (k.at t₀).seqIssue core op act))) {pl : Play} {b : Bytes}
    (h : ((s.pkg p).at t₀).issuable core op = some (pl, b))
    (hP : ∀ t : State, t.pkg p = (act (((s.pkg p).at t₀).issuedAs core op b) (((s.pkg p).at t₀).issuedCmd core op pl b)).seqGo core → P t) :
    Completes i s P :=
  completes_of_updPkg hexec fun t ht => hP t (ht.trans (Pkg.seqIssue_of_issuable core.isLt h act))

/-! ### Commands that block issue -/

/-- A play that a command blocks only makes its posts. -/
theorem Pkg.play_blocked {j : Pkg} {c : Nat} (hc : c < 64) {pl : Play} (hpl : j.play c = some pl) (f : Play → Play) {blk : Block}
    (hb : (f pl).block = some blk) (h : ∀ id pt n, blk = .barrier id pt n false → (f pl).cmds.any (fun x => x.op != 0x44) = true) :
    ((j.updPlay c f).seqGo c).play c = some ((f pl).posted (f pl).metPosts) := by
  have set : (j.updPlay c f).play c = some (f pl) := by rw [Pkg.play_updPlay j hc, hpl]; rfl
  exact Pkg.play_seqGo_of_blocked hc set (by rw [hb]; rfl) fun id pt n e => h id pt n (Option.some.inj (hb.symm.trans e))

theorem Pkg.showSeq_arrivals (k : Pkg) (c : Nat) : (k.showSeq c).arrivals = k.arrivals := by
  unfold Pkg.showSeq
  split <;> rfl

theorem Pkg.getF_lateAction (k : Pkg) : k.lateAction.getF F.HTM_LATE_ACTION = 1 ∧
    k.lateAction.getF F.HTM_LATE_COUNT = min (2 ^ 32 - 1) (k.getF F.HTM_LATE_COUNT + 1) := by
  refine ⟨Pkg.getF_raise_same _ _ rfl (Nat.le_refl 1), ?_⟩
  rw [Pkg.lateAction, Pkg.getF_raise_apart _ _ _ (by decide), Pkg.getF_inc_same _ _ rfl]
  rfl

theorem Pkg.coreSlot_congr {k j : Pkg} (h : ∀ f : Fld, f.off < 0x100000 → j.getF f = k.getF f) (c : Nat) : j.coreSlot c = k.coreSlot c := by
  have slots : j.getF F.LUP_SLOTS = k.getF F.LUP_SLOTS := h F.LUP_SLOTS (by decide)
  unfold Pkg.coreSlot Pkg.clusterSlot Pkg.slotHeld
  rw [slots, List.find?_congr fun s hs => ?_]
  have hs : s < 4 := List.mem_range.mp hs
  rw [h (F.LUP_PART_CLUSTERS s) (by simp only [F.LUP_PART_CLUSTERS]; omega)]

theorem SeqOnly.coreSlot {k j : Pkg} (h : SeqOnly k j) (c : Nat) : j.coreSlot c = k.coreSlot c :=
  Pkg.coreSlot_congr (fun f hf => h.getF (by unfold seqKeeps; omega)) c

theorem GoOnly.coreSlot {k j : Pkg} (h : GoOnly k j) (c : Nat) : j.coreSlot c = k.coreSlot c :=
  Pkg.coreSlot_congr (fun f hf => h.getF (by unfold goKeeps seqKeeps; omega)) c

/-- The sequencer's turn in which its core is the first to arrive at a PACKAGE barrier. -/
theorem Pkg.seqGo_of_first {j : Pkg} {c id n : Nat} (hc : c < 64) {pl : Play} (hpl : j.play c = some pl)
    (hb : pl.block = some (.barrier id false n false)) (hcmds : pl.cmds.any (fun x => x.op != 0x44) = false) (hnone : j.arrivals = [])
    (hn : 2 ≤ n) : ((j.seqGo c).play c).bind Play.block = some (.barrier id false n true) ∧
      (j.seqGo c).arrivals = [{ slot := j.coreSlot c, id := id, gen := 0, who := c, participants := n }] := by
  have posted := Pkg.play_applyPosts hc hpl
  have first := Pkg.tryArrive_of_first (pl := pl.posted pl.metPosts) posted hb hcmds ((j.applyPosts_arrivals c).trans hnone) hn
  have set : ((j.applyPosts c).tryArrive c).play c = some { pl.posted pl.metPosts with block := some (.barrier id false n true) } := by
    rw [first]
    exact (Pkg.play_updPlay _ hc _).trans (by rw [posted]; rfl)
  have go : j.seqGo c = ((j.applyPosts c).tryArrive c).showSeq c := by
    unfold Pkg.seqGo
    dsimp only
    rw [Pkg.issue_of_blocked set rfl]
  rw [go]
  refine ⟨by rw [Pkg.play_congr (Pkg.showSeq_cores ..), set]; rfl, ?_⟩
  rw [Pkg.showSeq_arrivals, first, (j.applyPosts_frame c).coreSlot]

section
variable {s : State} {p : PkgId} {core : CoreId} {t₀ : Nat} {pl : Play} {b : Bytes}

/-- What blocks the core's play. -/
def State.blockOf (t : State) (p : PkgId) (core : CoreId) : Option Block := ((t.pkg p).play core).bind Play.block

/-- The package in which a word has issued, and then blocks its play. -/
def Pkg.blockedBy (k : Pkg) (c op : Nat) (b : Bytes) (f : Play → Play) : Pkg := ((k.issuedAs c op b).updPlay c f).seqGo c

theorem Pkg.play_blockedBy {k : Pkg} {c op : Nat} (hc : c < 64) {pl : Play} {b : Bytes} (h : k.issuable c op = some (pl, b))
    (f : Play → Play) {blk : Block} (hb : (f (k.issuedPlay c op pl b)).block = some blk)
    (hearly : ∀ id pt n, blk = .barrier id pt n false → (f (k.issuedPlay c op pl b)).cmds.any (fun x => x.op != 0x44) = true) :
    (k.blockedBy c op b f).play c =
      some ((f (k.issuedPlay c op pl b)).posted (f (k.issuedPlay c op pl b)).metPosts) :=
  Pkg.play_blocked hc (Pkg.play_issuedAs hc h) f hb hearly

theorem Pkg.blockedBy_frame (k : Pkg) {c : Nat} (hc : c < 64) (op : Nat) (b : Bytes) (f : Play → Play) :
    GoOnly k (k.blockedBy c op b f) :=
  (GoOnly.ofSeq ((k.issuedAs_frame hc op b).trans (.updPlay _ c f))).trans (Pkg.seqGo_frame _ hc)

/-- A word that may issue and then only blocks its play. -/
theorem blockedBy_completes {i : Instr} {op : Nat} {act : Pkg → Cmd → Pkg} {f : Play → Play} {P : State → Prop}
    (hexec : exec i s = .next (s.updPkg p (fun k => (k.at t₀).seqIssue core op act)))
    (h : ((s.pkg p).at t₀).issuable core op = some (pl, b))
    (hact : ∀ j, act j (((s.pkg p).at t₀).issuedCmd core op pl b) = j.updPlay core f)
    (hP : ∀ t : State, t.pkg p = ((s.pkg p).at t₀).blockedBy core op b f → P t) : Completes i s P :=
  seqIssue_completes hexec h fun t ht => hP t (ht.trans (congrArg (Pkg.seqGo · core) (hact _)))

/-- The block that such a word leaves. -/
theorem blockOf_blockedBy {op : Nat} {f : Play → Play} {blk : Block} {t : State} (h : ((s.pkg p).at t₀).issuable core op = some (pl, b))
    (ht : t.pkg p = ((s.pkg p).at t₀).blockedBy core op b f) (hb : (f (((s.pkg p).at t₀).issuedPlay core op pl b)).block = some blk)
    (hearly : ∀ id pt n, blk = .barrier id pt n false →
      (f (((s.pkg p).at t₀).issuedPlay core op pl b)).cmds.any (fun x => x.op != 0x44) = true) : t.blockOf p core = some blk := by
  rw [State.blockOf, ht, Pkg.play_blockedBy core.isLt h f hb hearly]
  exact hb

theorem semWait_completes (h : ((s.pkg p).at t₀).issuable core 0x40 = some (pl, b)) (hsem : fieldAt b 16 2 ≤ 4095)
    (hconsume : fieldAt b 24 1 ≤ 1) : Completes (.semWait p core t₀) s (fun t =>
      t.blockOf p core = some (.sem (fieldAt b 16 2) (fieldAt b 20 4) (fieldAt b 24 1 == 1))) :=
  have good : ¬ (4095 < fieldAt b 16 2 ∨ 1 < fieldAt b 24 1) := by omega
  blockedBy_completes rfl h (fun _ => if_neg good) fun _ ht => blockOf_blockedBy h ht rfl (fun _ _ _ e => by cases e)

theorem fence_completes (h : ((s.pkg p).at t₀).issuable core 0x42 = some (pl, b)) (hmask : fieldAt b 16 1 ≠ 0) :
    Completes (.fence p core t₀) s (fun t => t.blockOf p core = some (.fence (fieldAt b 16 1))) :=
  blockedBy_completes rfl h (fun _ => if_neg hmask) fun _ ht => blockOf_blockedBy h ht rfl (fun _ _ _ e => by cases e)

/-- What a WAIT_HT does to its play. -/
def Play.waitFor (now : Nat) (b : Bytes) (pl : Play) : Play :=
  { pl with block := some (.waitHt (fieldAt b 16 8)), shotHeld := now - pl.shotBase }

theorem exec_waitHt (s : State) (p : PkgId) (core : CoreId) (t₀ : Nat) : exec (.waitHt p core t₀) s =
    .next (s.updPkg p (fun k => (k.at t₀).seqIssue core 0x43 (fun k x =>
      if x.f 16 8 < k.now then k.lateAction.retire core x 0x0101 0 else k.updPlay core (Play.waitFor k.now x.bytes)))) := rfl

theorem waitHt_completes (h : ((s.pkg p).at t₀).issuable core 0x43 = some (pl, b)) (htarget : ((s.pkg p).at t₀).now ≤ fieldAt b 16 8) :
    Completes (.waitHt p core t₀) s (fun t => t.blockOf p core = some (.waitHt (fieldAt b 16 8)) ∧
      (t.pkg p).getF F.HTM_LATE_COUNT = ((s.pkg p).at t₀).getF F.HTM_LATE_COUNT) := by
  have now := (((s.pkg p).at t₀).issuedAs_frame core.isLt 0x43 b).now
  refine seqIssue_completes (exec_waitHt s p core t₀) h fun t ht => ?_
  have ahead : ¬ fieldAt b 16 8 < (((s.pkg p).at t₀).issuedAs core 0x43 b).now := by omega
  have ht : t.pkg p = ((s.pkg p).at t₀).blockedBy core 0x43 b (Play.waitFor (((s.pkg p).at t₀).issuedAs core 0x43 b).now b) :=
    ht.trans (congrArg (Pkg.seqGo · core) (if_neg ahead))
  refine ⟨blockOf_blockedBy h ht rfl (fun _ _ _ e => by cases e), ?_⟩
  rw [ht, (Pkg.blockedBy_frame _ core.isLt _ _ _).getF (by decide)]

theorem waitHt_late_completes (h : ((s.pkg p).at t₀).issuable core 0x43 = some (pl, b)) (hlate : fieldAt b 16 8 < ((s.pkg p).at t₀).now) :
    Completes (.waitHt p core t₀) s (fun t => (t.pkg p).getF F.HTM_LATE_ACTION = 1 ∧
      (t.pkg p).getF F.HTM_LATE_COUNT = min (2 ^ 32 - 1) (((s.pkg p).at t₀).getF F.HTM_LATE_COUNT + 1)) := by
  have issued := ((s.pkg p).at t₀).issuedAs_frame core.isLt 0x43 b
  refine seqIssue_completes (exec_waitHt s p core t₀) h fun t ht => ?_
  have late : fieldAt b 16 8 < (((s.pkg p).at t₀).issuedAs core 0x43 b).now := by rw [issued.now]; exact hlate
  have ht := ht.trans (congrArg (Pkg.seqGo · core) (if_pos late))
  have rest (j : Pkg) (x : Cmd) : GoOnly j ((j.retire core x 0x0101 0).seqGo core) :=
    (GoOnly.ofSeq (j.retire_frame core.isLt x _ _)).trans (Pkg.seqGo_frame _ core.isLt)
  obtain ⟨hact, hcount⟩ := Pkg.getF_lateAction (((s.pkg p).at t₀).issuedAs core 0x43 b)
  rw [ht, (rest _ _).getF (by decide), (rest _ _).getF (by decide), hact, hcount, issued.getF (by decide)]
  exact ⟨rfl, rfl⟩

/-- A BARRIER whose fields are in range. -/
def barrierBlock (b : Bytes) (arrived : Bool) : Block := .barrier (fieldAt b 16 2) (fieldAt b 18 1 == 1) (fieldAt b 20 4) arrived

theorem barrier_blockedBy {P : State → Prop} (h : ((s.pkg p).at t₀).issuable core 0x44 = some (pl, b)) (hid : fieldAt b 16 2 ≤ 63)
    (hscope : fieldAt b 18 1 ≤ 1) (hn : fieldAt b 20 4 ≠ 0)
    (hP : ∀ t : State, t.pkg p =
      ((s.pkg p).at t₀).blockedBy core 0x44 b (fun pl => { pl with block := some (barrierBlock b false) }) → P t) :
    Completes (.barrier p core t₀) s P :=
  have good : ¬ (63 < fieldAt b 16 2 ∨ 1 < fieldAt b 18 1 ∨ fieldAt b 20 4 = 0) := by omega
  blockedBy_completes rfl h (fun _ => if_neg good) hP

theorem barrier_completes (h : ((s.pkg p).at t₀).issuable core 0x44 = some (pl, b)) (hid : fieldAt b 16 2 ≤ 63)
    (hscope : fieldAt b 18 1 ≤ 1) (hn : fieldAt b 20 4 ≠ 0) (hearly : ∃ x ∈ pl.cmds, x.op ≠ 0x44) :
    Completes (.barrier p core t₀) s (fun t => t.blockOf p core = some (barrierBlock b false)) :=
  barrier_blockedBy h hid hscope hn fun _ ht => blockOf_blockedBy h ht rfl fun _ _ _ _ => by
    obtain ⟨x, hx, hop⟩ := hearly
    exact List.any_eq_true.mpr ⟨x, List.mem_append_left _ hx, bne_iff_ne.mpr hop⟩

theorem barrier_first_completes (h : ((s.pkg p).at t₀).issuable core 0x44 = some (pl, b)) (hid : fieldAt b 16 2 ≤ 63)
    (hscope : fieldAt b 18 1 = 0) (hn : 2 ≤ fieldAt b 20 4) (hcmds : pl.cmds = []) (hnone : ((s.pkg p).at t₀).arrivals = []) :
    Completes (.barrier p core t₀) s (fun t =>
      t.blockOf p core = some (.barrier (fieldAt b 16 2) false (fieldAt b 20 4) true) ∧
      (t.pkg p).arrivals = [{ slot := ((s.pkg p).at t₀).coreSlot core, id := fieldAt b 16 2, gen := 0, who := core
                              participants := fieldAt b 20 4 }]) := by
  refine barrier_blockedBy h hid (by omega) (by omega) fun t ht => ?_
  obtain ⟨-, -, -, -, -, -, hop, -⟩ := Pkg.issuable_iff h
  have frame := (((s.pkg p).at t₀).issuedAs_frame core.isLt 0x44 b).trans
    (.updPlay _ core (fun pl => { pl with block := some (barrierBlock b false) }))
  have set : ((((s.pkg p).at t₀).issuedAs core 0x44 b).updPlay core (fun pl => { pl with block := some (barrierBlock b false) })).play core =
      some { ((s.pkg p).at t₀).issuedPlay core 0x44 pl b with block := some (barrierBlock b false) } := by
    rw [Pkg.play_updPlay _ core.isLt, Pkg.play_issuedAs core.isLt h]; rfl
  have block : barrierBlock b false = .barrier (fieldAt b 16 2) false (fieldAt b 20 4) false := by simp [barrierBlock, hscope]
  have alone : (((s.pkg p).at t₀).issuedPlay core 0x44 pl b).cmds.any (fun x => x.op != 0x44) = false := by
    have cmds : (((s.pkg p).at t₀).issuedPlay core 0x44 pl b).cmds = [((s.pkg p).at t₀).issuedCmd core 0x44 pl b] :=
      congrArg (· ++ [_]) hcmds
    have op : (((s.pkg p).at t₀).issuedCmd core 0x44 pl b).op = 0x44 := hop
    simp [cmds, op]
  have none : ((((s.pkg p).at t₀).issuedAs core 0x44 b).updPlay core
      (fun pl => { pl with block := some (barrierBlock b false) })).arrivals = [] := by
    obtain ⟨⟨r, n, cs, e⟩, -, -⟩ := frame
    rw [e]; exact hnone
  obtain ⟨hblock, harr⟩ := Pkg.seqGo_of_first core.isLt set (congrArg some block) alone none hn
  rw [frame.coreSlot] at harr
  exact ⟨by rw [State.blockOf, ht]; exact hblock, by rw [ht]; exact harr⟩

theorem stop_completes (h : ((s.pkg p).at t₀).issuable core 0x52 = some (pl, b)) :
    Completes (.stop p core t₀) s (fun t => t.blockOf p core = some (.stop (fieldAt b 16 4)) ∧
      ((t.pkg p).play core).bind Play.tile = none) :=
  blockedBy_completes rfl h (fun _ => rfl) fun t ht => by
    refine ⟨blockOf_blockedBy h ht rfl (fun _ _ _ e => by cases e), ?_⟩
    rw [ht, Pkg.play_blockedBy core.isLt h _ rfl (fun _ _ _ e => by cases e)]
    rfl

/-! ### Release -/

/-- The package after a waiting command of its play has been released. -/
def Pkg.releasedBy (k : Pkg) (c : Nat) (x : Cmd) (st : Status) : Pkg :=
  ((k.updPlay c (fun pl => { pl with block := none })).retire c x st 0).seqGo c

/-- The command retires, and with nothing fetched or posted nothing else of the play moves. -/
theorem Pkg.releasedBy_spec {k : Pkg} {c : Nat} (hc : c < 64) {pl : Play} (hpl : k.play c = some pl) (hbuf : pl.buf = []) (hposts : pl.posts = [])
    (x : Cmd) (st : Status) : SeqOnly k (k.releasedBy c x st) ∧
      ∃ q, (k.releasedBy c x st).play c = some q ∧ q.block = none ∧ q.cmds = pl.cmds.filter (fun y => y.num != x.num) := by
  have freed : (k.updPlay c (fun pl => { pl with block := none })).play c = some { pl with block := none } := by
    rw [Pkg.play_updPlay k hc, hpl]; rfl
  obtain ⟨stop, hretired, -⟩ := (k.updPlay c (fun pl => { pl with block := none })).play_retire hc x st 0
  rw [freed] at hretired
  have frame : SeqOnly k ((k.updPlay c (fun pl => { pl with block := none })).retire c x st 0) :=
    (SeqOnly.updPlay k c _).trans (Pkg.retire_frame _ hc x st 0)
  have posts := frame.trans (Pkg.applyPosts_of_none hretired hposts)
  constructor
  · unfold Pkg.releasedBy
    obtain e | e := Pkg.seqGo_of_unfetched hc hretired rfl hbuf <;> rw [e]
    · exact posts.trans (Pkg.showSeq_frame _ hc)
    · exact (posts.trans (Pkg.pastEnd_frame _ hc)).trans (Pkg.showSeq_frame _ hc)
  · obtain ⟨stop', hplay⟩ := Pkg.play_seqGo_of_unfetched hc hretired rfl hbuf
    exact ⟨_, hplay, rfl, rfl⟩

/-- A command has left the play, which waits no longer. -/
def State.retiredFrom (t : State) (p : PkgId) (core : CoreId) (pl : Play) (x : Cmd) : Prop :=
  ((t.pkg p).play core).bind Play.block = none ∧
    ((t.pkg p).play core).map Play.cmds = some (pl.cmds.filter (fun y => y.num != x.num))

theorem retiredFrom_releasedBy {k : Pkg} {t : State} {x : Cmd} {st : Status} (hpl : k.play core = some pl) (hbuf : pl.buf = [])
    (hposts : pl.posts = []) (ht : t.pkg p = k.releasedBy core x st) : t.retiredFrom p core pl x := by
  obtain ⟨-, q, hq, hblock, hcmds⟩ := Pkg.releasedBy_spec core.isLt hpl hbuf hposts x st
  rw [State.retiredFrom, ht, hq]
  exact ⟨hblock, congrArg some hcmds⟩

/-- The semaphore after a released SEM_WAIT (R159, R523). -/
def Pkg.consumed (k : Pkg) (slot sem thr : Nat) (consume : Bool) : Pkg :=
  if consume then (k.setSem slot sem (k.sem slot sem - thr)).setSemSt slot sem 0 else k

theorem Pkg.consumed_cores (k : Pkg) (slot sem thr : Nat) (consume : Bool) : (k.consumed slot sem thr consume).cores = k.cores := by
  unfold Pkg.consumed
  split <;> rfl

theorem Pkg.sem_setSem_same (k : Pkg) (slot sem v : Nat) : (k.setSem slot sem v).sem slot sem = v % 2 ^ 32 := Sparse.get_set_same ..

theorem Pkg.semSt_setSemSt_same (k : Pkg) (slot sem : Nat) (st : Status) : (k.setSemSt slot sem st).semSt slot sem = st := Sparse.get_set_same ..

theorem Pkg.consumed_sem (k : Pkg) (slot sem thr : Nat) (consume : Bool) :
    (k.consumed slot sem thr consume).sem slot sem = (if consume then (k.sem slot sem - thr) % 2 ^ 32 else k.sem slot sem) ∧
    (consume = true → (k.consumed slot sem thr consume).semSt slot sem = 0) := by
  cases consume with
  | false => exact ⟨rfl, fun h => by cases h⟩
  | true => exact ⟨k.sem_setSem_same slot sem _, fun _ => Pkg.semSt_setSemSt_same _ slot sem 0⟩

theorem SeqOnly.sem {k j : Pkg} (h : SeqOnly k j) (slot n : Nat) : j.sem slot n = k.sem slot n ∧ j.semSt slot n = k.semSt slot n := by
  obtain ⟨hs, hst⟩ := h.sems
  exact ⟨by unfold Pkg.sem; rw [hs], by unfold Pkg.semSt; rw [hst]⟩

theorem Pkg.semRelease_of_reached {k : Pkg} {c sem thr : Nat} {consume : Bool} {pl : Play} {x : Cmd} (hpl : k.play c = some pl)
    (hblock : pl.block = some (.sem sem thr consume)) (hx : pl.cmds.find? (fun y => y.op == 0x40) = some x)
    (hthr : thr ≤ k.sem (k.coreSlot c) sem) :
    k.semRelease c = (k.consumed (k.coreSlot c) sem thr consume).releasedBy c x (k.semSt (k.coreSlot c) sem) := by
  unfold Pkg.semRelease
  rw [hpl]
  dsimp only
  rw [hblock]
  dsimp only
  rw [if_neg (Nat.not_lt.mpr hthr), hx]
  rfl

theorem semWaitRelease_completes {sem thr : Nat} {consume : Bool} {x : Cmd} (hpl : ((s.pkg p).at t₀).play core = some pl)
    (hbuf : pl.buf = []) (hposts : pl.posts = []) (hblock : pl.block = some (.sem sem thr consume))
    (hx : pl.cmds.find? (fun y => y.op == 0x40) = some x)
    (hthr : thr ≤ ((s.pkg p).at t₀).sem (((s.pkg p).at t₀).coreSlot core) sem) :
    Completes (.semWaitRelease p core t₀) s (fun t => t.retiredFrom p core pl x ∧
      (t.pkg p).sem (((s.pkg p).at t₀).coreSlot core) sem =
        (if consume then (((s.pkg p).at t₀).sem (((s.pkg p).at t₀).coreSlot core) sem - thr) % 2 ^ 32
          else ((s.pkg p).at t₀).sem (((s.pkg p).at t₀).coreSlot core) sem) ∧
      (consume = true → (t.pkg p).semSt (((s.pkg p).at t₀).coreSlot core) sem = 0)) :=
  completes_of_updPkg (f := fun k => (k.at t₀).semRelease core) rfl fun t ht => by
    have ht := ht.trans (Pkg.semRelease_of_reached hpl hblock hx hthr)
    have hpl' := (Pkg.play_congr (Pkg.consumed_cores _ (((s.pkg p).at t₀).coreSlot core) sem thr consume) core).trans hpl
    obtain ⟨frame, -⟩ := Pkg.releasedBy_spec core.isLt hpl' hbuf hposts x (((s.pkg p).at t₀).semSt (((s.pkg p).at t₀).coreSlot core) sem)
    obtain ⟨hsem, hst⟩ := ((s.pkg p).at t₀).consumed_sem (((s.pkg p).at t₀).coreSlot core) sem thr consume
    refine ⟨retiredFrom_releasedBy hpl' hbuf hposts ht, ?_, fun hc => ?_⟩
    · rw [ht, (frame.sem _ _).1, hsem]
    · rw [ht, (frame.sem _ _).2, hst hc]

theorem Pkg.fenceRelease_of_met {k : Pkg} {c mask : Nat} {pl : Play} {x : Cmd} (hpl : k.play c = some pl)
    (hblock : pl.block = some (.fence mask)) (hx : pl.cmds.find? (fun y => y.op == 0x42) = some x) (hmet : maskMet pl mask x.num = true) :
    k.fenceRelease c = k.releasedBy c x 0 := by
  unfold Pkg.fenceRelease
  rw [hpl]
  dsimp only
  rw [hblock, hx]
  exact if_pos hmet

/-- WAIT_HT_RELEASE as the package's own step (R84). -/
def Pkg.waitHtRelease (k : Pkg) (c : Nat) : Pkg :=
  match k.play c with
  | none => k
  | some pl => match pl.block, pl.cmds.find? (fun x => x.op == 0x43) with
    | some (.waitHt target), some x => if target ≤ k.hallTime then k.releasedBy c x 0 else k
    | _, _ => k

theorem exec_waitHtRelease (s : State) (p : PkgId) (core : CoreId) (t₀ : Nat) :
    exec (.waitHtRelease p core t₀) s = .next (s.updPkg p (fun k => (k.at t₀).waitHtRelease core)) := rfl

theorem Pkg.waitHtRelease_of_reached {k : Pkg} {c target : Nat} {pl : Play} {x : Cmd} (hpl : k.play c = some pl)
    (hblock : pl.block = some (.waitHt target)) (hx : pl.cmds.find? (fun y => y.op == 0x43) = some x)
    (hvalid : k.getF F.HTM_VALID = 1) (hreached : target ≤ k.now) : k.waitHtRelease c = k.releasedBy c x 0 := by
  have valid : k.hallTime = k.now := if_pos ((Pkg.flag_iff ..).mpr hvalid)
  unfold Pkg.waitHtRelease
  rw [hpl]
  dsimp only
  rw [hblock, hx]
  exact if_pos (valid ▸ hreached)

end

/-- Settles O21: a word that may issue and blocks leaves its block; a release retires the waiting command, and nothing else moves. -/
theorem sequencerBlocksAndReleases : Obligations.SequencerBlocksAndReleases := by
  unfold Obligations.SequencerBlocksAndReleases
  constructor
  · intro s p core t₀ pl b k blocked
    exact ⟨semWait_completes, fence_completes, waitHt_completes, waitHt_late_completes, barrier_completes, barrier_first_completes,
      stop_completes⟩
  · intro s p core t₀ pl x k retired hpl hbuf hposts
    refine ⟨fun sem thr consume hblock hx hthr => semWaitRelease_completes hpl hbuf hposts hblock hx hthr,
      fun mask hblock hx hmet => ?_, fun target hblock hx hvalid hreached => ?_⟩
    · exact completes_of_updPkg (f := fun k => (k.at t₀).fenceRelease core) rfl fun t ht =>
        retiredFrom_releasedBy hpl hbuf hposts (ht.trans (Pkg.fenceRelease_of_met hpl hblock hx hmet))
    · exact completes_of_updPkg (exec_waitHtRelease s p core t₀) fun t ht =>
        retiredFrom_releasedBy hpl hbuf hposts (ht.trans (Pkg.waitHtRelease_of_reached hpl hblock hx hvalid hreached))

end Sys2Proof.Machine
end

section
/-! PROOFS. The sequencer's commands that retire at issue (R155, R160, R161, R166–R168, R176). -/

namespace Sys2Proof.Machine

/-! ### Retirement at issue -/

theorem Pkg.atIssue_of_good {k : Pkg} {c : Nat} {x : Cmd} {bad : Option Status} (h : bad = none) (act : Pkg → Pkg × Status) :
    k.atIssue c x bad act = (act k).1.retire c x (act k).2 0 := by
  subst h; rfl

theorem Pkg.targetOf_here (k : Pkg) : k.targetOf (2 ^ 31) = k.target := rfl

/-- The play of a word that retired at issue. -/
theorem Pkg.play_retired {j : Pkg} {c : Nat} (hc : c < 64) {pl : Play} (hpl : j.play c = some pl) (x : Cmd) :
    (j.retire c x 0 0).play c = some (pl.retired x.num false j.now) := by
  obtain ⟨stop, h, hstop⟩ := j.play_retire hc x 0 0
  rw [h, hpl, hstop rfl]
  rfl

theorem Pkg.getF_issuedAs_retired (k : Pkg) (c op : Nat) (b : Bytes) :
    (k.issuedAs c op b).getF (F.CORE_SEQ_RETIRED c) = k.getF (F.CORE_SEQ_RETIRED c) := by
  rw [Pkg.issuedAs, Pkg.pushCmd_eq, Pkg.getF_updPlay, Pkg.issueMarks,
    Pkg.getF_setF_apart _ _ _ _ (Fld.apart_of_off (by simp only [F.CORE_SEQ_NEXT, F.CORE_SEQ_RETIRED]; omega))]
  split
  · exact Pkg.getF_setF_apart _ _ _ _ (Fld.apart_of_off (by simp only [F.CORE_TOK_PENDING, F.CORE_SEQ_RETIRED]; omega))
  · rfl

theorem Pkg.issuedPlay_next (k : Pkg) (c op : Nat) (pl : Play) (b : Bytes) : (k.issuedPlay c op pl b).buf = pl.buf.tail := rfl

section
variable {s : State} {p : PkgId} {core : CoreId} {t₀ : Nat} {pl : Play} {b : Bytes}

/-! ### SEM_POST (R160, R161) -/

/-- The addition a SEM_POST queues. -/
def postOf (x : Cmd) : Post := { sem := x.f 16 2, target := x.f 20 4, value := x.f 24 4, mask := x.f 28 1, chan := x.f 30 2, before := x.num }

theorem exec_semPost (s : State) (p : PkgId) (core : CoreId) (t₀ : Nat) : exec (.semPost p core t₀) s =
    .next (s.updPkg p (fun k => (k.at t₀).seqIssue core 0x41 (fun k x =>
      k.atIssue core x (if 4095 < x.f 16 2 || (decide (k.targetOf (x.f 20 4) ≠ k.target) && decide (1023 < x.f 30 2)) then some 0x3109 else none)
        (fun k => (k.updPlay core (fun pl => { pl with posts := pl.posts ++ [postOf x] }), 0))))) := rfl

/-- With no command before it, a post to this package is made at once. -/
theorem Pkg.sem_seqGo_of_post {j : Pkg} {c : Nat} (hc : c < 64) {pl : Play} {q : Post} (hpl : j.play c = some pl) (hposts : pl.posts = [q])
    (hmet : maskMet pl q.mask q.before = true) (hhere : q.target = 2 ^ 31) :
    (j.applyPosts c).sem (j.coreSlot c) q.sem = (j.sem (j.coreSlot c) q.sem + q.value) % 2 ^ 32 ∧
      ((j.applyPosts c).play c).map Play.posts = some [] := by
  have met : pl.metPosts = [q] := by rw [Play.metPosts, hposts]; simp [hmet]
  have slot : (j.updPlay c (Play.posted [q])).coreSlot c = j.coreSlot c := (SeqOnly.updPlay j c _).coreSlot c
  constructor
  · rw [Pkg.applyPosts_eq hpl, met]
    change ((j.updPlay c (Play.posted [q])).applyPost c q).sem _ _ = _
    unfold Pkg.applyPost
    rw [hhere]
    dsimp only
    rw [if_pos (Pkg.targetOf_here _), slot, Pkg.semAdd, Pkg.sem_setSem_same, Nat.mod_mod]
    rfl
  · rw [Pkg.play_applyPosts hc hpl, met]
    simp [Play.posted, hposts]

/-- After its posts the sequencer's turn changes no semaphore. -/
theorem Pkg.sem_seqGo {j : Pkg} {c : Nat} (hc : c < 64) {pl : Play} (hpl : j.play c = some pl) (hb : pl.block = none) (slot n : Nat) :
    (j.seqGo c).sem slot n = (j.applyPosts c).sem slot n := by
  rw [Pkg.seqGo_of_early hc hpl (fun _ _ _ e => by simp [hb] at e)]
  exact ((Pkg.issue_frame hc _ _).trans (Pkg.showSeq_frame _ hc)).sem slot n |>.1

theorem semPost_completes (h : ((s.pkg p).at t₀).issuable core 0x41 = some (pl, b)) (hsem : fieldAt b 16 2 ≤ 4095)
    (hhere : fieldAt b 20 4 = 2 ^ 31) (hcmds : pl.cmds = []) (hposts : pl.posts = []) :
    Completes (.semPost p core t₀) s (fun t =>
      (t.pkg p).sem (((s.pkg p).at t₀).coreSlot core) (fieldAt b 16 2) =
        (((s.pkg p).at t₀).sem (((s.pkg p).at t₀).coreSlot core) (fieldAt b 16 2) + fieldAt b 24 4) % 2 ^ 32) := by
  obtain ⟨-, -, -, -, hblock, -⟩ := Pkg.issuable_iff h
  have issued := ((s.pkg p).at t₀).issuedAs_frame core.isLt 0x41 b
  have hpl := Pkg.play_issuedAs core.isLt h
  refine seqIssue_completes (exec_semPost s p core t₀) h fun t ht => ?_
  generalize hx : ((s.pkg p).at t₀).issuedCmd core 0x41 pl b = x at ht
  have xf (o n : Nat) : x.f o n = fieldAt b o n := by rw [← hx]; rfl
  have good : ¬ (decide (4095 < x.f 16 2) || (decide ((((s.pkg p).at t₀).issuedAs core 0x41 b).targetOf (x.f 20 4) ≠
      (((s.pkg p).at t₀).issuedAs core 0x41 b).target) && decide (1023 < x.f 30 2))) = true := by
    rw [xf, xf, hhere, Pkg.targetOf_here]
    simp; omega
  generalize hj : ((((s.pkg p).at t₀).issuedAs core 0x41 b).updPlay core (fun pl => { pl with posts := pl.posts ++ [postOf x] })) = j
  have ht : t.pkg p = (j.retire core x 0 0).seqGo core :=
    ht.trans (congrArg (Pkg.seqGo · core) ((Pkg.atIssue_of_good (if_neg good) _).trans (by rw [← hj])))
  have frame : SeqOnly ((s.pkg p).at t₀) (j.retire core x 0 0) :=
    (hj ▸ issued.trans (.updPlay _ core _) : SeqOnly _ j).trans (j.retire_frame core.isLt x 0 0)
  have queued : j.play core = some { ((s.pkg p).at t₀).issuedPlay core 0x41 pl b with posts := [postOf x] } := by
    rw [← hj, Pkg.play_updPlay _ core.isLt, hpl]
    exact congrArg (fun ps => some { ((s.pkg p).at t₀).issuedPlay core 0x41 pl b with posts := ps ++ [postOf x] }) hposts
  have retired := Pkg.play_retired core.isLt queued x
  have alone : (((s.pkg p).at t₀).issuedPlay core 0x41 pl b).cmds = [x] := by rw [← hx]; exact congrArg (· ++ [_]) hcmds
  obtain ⟨post, -⟩ := Pkg.sem_seqGo_of_post (q := postOf x) core.isLt retired rfl (by simp [maskMet, Play.retired, alone]) ((xf 20 4).trans hhere)
  rw [ht, Pkg.sem_seqGo core.isLt retired hblock, ← frame.coreSlot, ← xf 16 2, ← xf 24 4]
  refine post.trans ?_
  rw [(frame.sem _ _).1]
  rfl

theorem semPostApply_completes {q : Post} (hpl : ((s.pkg p).at t₀).play core = some pl) (hposts : pl.posts = [q])
    (hmet : maskMet pl q.mask q.before = true) (hhere : q.target = 2 ^ 31) :
    Completes (.semPostApply p core t₀) s (fun t => ((t.pkg p).play core).map Play.posts = some [] ∧
      (t.pkg p).sem (((s.pkg p).at t₀).coreSlot core) q.sem =
        (((s.pkg p).at t₀).sem (((s.pkg p).at t₀).coreSlot core) q.sem + q.value) % 2 ^ 32) :=
  completes_of_updPkg (f := fun k => (k.at t₀).applyPosts core) rfl fun t ht => by
    obtain ⟨hsem, hplay⟩ := Pkg.sem_seqGo_of_post core.isLt hpl hposts hmet hhere
    rw [ht]
    exact ⟨hplay, hsem⟩

/-! ### SEND_TILE and ANNOUNCE (R155, R166) -/

theorem sendTile_completes (h : ((s.pkg p).at t₀).issuable core 0x31 = some (pl, b)) (hlen : pl.buf.length = 1) (hmode : fieldAt b 36 1 ≤ 1)
    (hsem : fieldAt b 40 2 ≤ 4095 ∨ fieldAt b 40 2 = 0xFFFF) (hstride : fieldAt b 32 4 % 64 = 0) (hchan : fieldAt b 28 2 ≤ 1023) :
    Completes (.sendTile p core t₀) s (fun t => ((t.pkg p).play core).bind Play.tile = some b ∧
      (t.pkg p).getF (F.CORE_SEQ_RETIRED core) = (((s.pkg p).at t₀).getF (F.CORE_SEQ_RETIRED core) + 1) % 2 ^ 64) := by
  obtain ⟨-, -, -, -, hblock, -⟩ := Pkg.issuable_iff h
  have hpl := Pkg.play_issuedAs core.isLt h
  refine seqIssue_completes rfl h fun t ht => ?_
  generalize hx : ((s.pkg p).at t₀).issuedCmd core 0x31 pl b = x at ht
  have xf (o n : Nat) : x.f o n = fieldAt b o n := by rw [← hx]; rfl
  have good : ¬ (1 < x.f 36 1 ∨ (4095 < x.f 40 2 ∧ x.f 40 2 ≠ 0xFFFF) ∨ x.f 32 4 % 64 ≠ 0 ∨
      ((((s.pkg p).at t₀).issuedAs core 0x31 b).farEnd x = true ∧ 1023 < x.f 28 2)) := by
    rw [xf, xf, xf, xf]; omega
  generalize hj : ((((s.pkg p).at t₀).issuedAs core 0x31 b).updPlay core (fun pl => { pl with tile := some x.bytes })) = j
  have ht : t.pkg p = (j.retire core x 0 0).seqGo core :=
    ht.trans (congrArg (Pkg.seqGo · core) ((Pkg.atIssue_of_good (if_neg good) _).trans (by rw [← hj])))
  have armed : j.play core = some { ((s.pkg p).at t₀).issuedPlay core 0x31 pl b with tile := some b } := by
    rw [← hj, Pkg.play_updPlay _ core.isLt, hpl, ← hx]; rfl
  have retired := Pkg.play_retired core.isLt armed x
  have unfetched : (((s.pkg p).at t₀).issuedPlay core 0x31 pl b).buf = [] :=
    List.eq_nil_of_length_eq_zero (by rw [Pkg.issuedPlay_next, List.length_tail, hlen])
  obtain ⟨stop, hplay⟩ := Pkg.play_seqGo_of_unfetched core.isLt retired hblock unfetched
  refine ⟨by rw [ht, hplay]; rfl, ?_⟩
  rw [ht, Pkg.getF_seqGo_of_unfetched core.isLt retired hblock unfetched (Fld.showFree_retired core) (Fld.latchFree_retired core.isLt)
    (by simp only [F.CORE_SEQ_RETIRED]; omega), Pkg.getF_retire_retired _ core.isLt, ← hj, Pkg.getF_updPlay, Pkg.getF_issuedAs_retired]

/-- An announcement is recorded and counted (R166). -/
def Pkg.announcing (k : Pkg) (c : Nat) (x : Cmd) : Pkg :=
  ({ k with announces := k.announces ++ [{ core := c, ht := x.f 16 8, level := x.f 24 1, volleys := x.f 26 2 }] } : Pkg).inc (F.PWR_COUNTS 4)

theorem Pkg.getF_announcing (k : Pkg) (c : Nat) (x : Cmd) :
    (k.announcing c x).getF (F.PWR_COUNTS 4) = min (2 ^ 64 - 1) (k.getF (F.PWR_COUNTS 4) + 1) := Pkg.getF_inc_same _ _ rfl

theorem exec_announce (s : State) (p : PkgId) (core : CoreId) (t₀ : Nat) : exec (.announce p core t₀) s =
    .next (s.updPkg p (fun k => (k.at t₀).seqIssue core 0x45 (fun k x =>
      k.atIssue core x (if 16 < x.f 24 1 ∨ x.f 26 2 = 0 then some 0x3109 else none) (fun k =>
        if decide (x.f 16 8 < k.now + 4000) then (((k.announcing core x).lateAction).inc (F.PWR_COUNTS 5), 0x0101)
        else (k.announcing core x, 0))))) := rfl

theorem announce_completes (h : ((s.pkg p).at t₀).issuable core 0x45 = some (pl, b)) (hlevel : fieldAt b 24 1 ≤ 16) (hn : fieldAt b 26 2 ≠ 0)
    (hahead : ((s.pkg p).at t₀).now + 4000 ≤ fieldAt b 16 8) : Completes (.announce p core t₀) s (fun t =>
      (t.pkg p).announces = ((s.pkg p).at t₀).announces ++
        [{ core := core, ht := fieldAt b 16 8, level := fieldAt b 24 1, volleys := fieldAt b 26 2 }] ∧
      (t.pkg p).getF (F.PWR_COUNTS 4) = min (2 ^ 64 - 1) (((s.pkg p).at t₀).getF (F.PWR_COUNTS 4) + 1)) := by
  have issued := ((s.pkg p).at t₀).issuedAs_frame core.isLt 0x45 b
  refine seqIssue_completes (exec_announce s p core t₀) h fun t ht => ?_
  generalize hx : ((s.pkg p).at t₀).issuedCmd core 0x45 pl b = x at ht
  have xf (o n : Nat) : x.f o n = fieldAt b o n := by rw [← hx]; rfl
  have good : ¬ (16 < x.f 24 1 ∨ x.f 26 2 = 0) := by rw [xf, xf]; omega
  have ahead : ¬ decide (x.f 16 8 < (((s.pkg p).at t₀).issuedAs core 0x45 b).now + 4000) = true := by
    rw [xf, issued.now, decide_eq_true_eq]; omega
  rw [Pkg.atIssue_of_good (if_neg good), if_neg ahead] at ht
  generalize hj : ((s.pkg p).at t₀).issuedAs core 0x45 b = j at ht issued
  have rest : GoOnly (j.announcing core x) (t.pkg p) :=
    ht ▸ (GoOnly.ofSeq (Pkg.retire_frame _ core.isLt x 0 0)).trans (Pkg.seqGo_frame _ core.isLt)
  constructor
  · rw [rest.announces]
    obtain ⟨⟨r, n, cs, e⟩, -, -⟩ := issued
    change j.announces ++ [{ core := core, ht := x.f 16 8, level := x.f 24 1, volleys := x.f 26 2 }] = _
    rw [xf, xf, xf, e]
  · rw [rest.getF (by decide), Pkg.getF_announcing, issued.getF (by decide)]

/-! ### JUMP and LOOP (R167, R168) -/

theorem Pkg.play_jumpTo {j : Pkg} {c : Nat} (hc : c < 64) {pl : Play} (hpl : j.play c = some pl) (target : Nat) :
    (j.jumpTo c target).play c = some { pl with buf := [] } := by
  rw [Pkg.jumpTo, Pkg.play_updPlay _ hc, Pkg.play_setF, hpl]
  rfl

/-- After a jump nothing is fetched, and the sequencer stands at the target. -/
theorem Pkg.jumpTo_seqGo {j : Pkg} {c : Nat} (hc : c < 64) {pl : Play} (hpl : j.play c = some pl) (hb : pl.block = none) (target : Nat) :
    ((j.jumpTo c target).seqGo c).getF (F.CORE_SEQ_NEXT c) = target % 2 ^ 24 ∧
      ∃ stop, ((j.jumpTo c target).seqGo c).play c = some { ({ pl with buf := [] } : Play).posted pl.metPosts with stopping := stop } := by
  have jumped := Pkg.play_jumpTo hc hpl target
  refine ⟨?_, Pkg.play_seqGo_of_unfetched hc jumped hb rfl⟩
  rw [Pkg.getF_seqGo_of_unfetched hc jumped hb rfl (Fld.showFree_next c) (Fld.latchFree_next hc) (by simp only [F.CORE_SEQ_NEXT]; omega),
    Pkg.jumpTo, Pkg.getF_updPlay, Pkg.getF_setF_same _ _ _ rfl]
  rfl

/-- The target of a jump (R168). -/
def Pkg.jumpWord (k : Pkg) (c : Nat) (b : Bytes) : Int := (k.getF (F.CORE_SEQ_NEXT c) : Int) + toSigned 32 (fieldAt b 16 4)

theorem Pkg.jumpTarget_issued {k : Pkg} {c op : Nat} (h1 : 1 ≤ k.jumpWord c b)
    (hlt : k.jumpWord c b < pl.length) {j : Pkg} {q : Play} (hq : j.play c = some q) (hlen : q.length = pl.length) :
    j.jumpTarget c (k.issuedCmd c op pl b) = some (k.jumpWord c b).toNat := by
  unfold Pkg.jumpTarget
  rw [hq]
  dsimp only
  rw [hlen]
  exact if_pos ⟨h1, hlt⟩

theorem jump_completes (h : ((s.pkg p).at t₀).issuable core 0x50 = some (pl, b)) (h1 : 1 ≤ ((s.pkg p).at t₀).jumpWord core b)
    (hlt : ((s.pkg p).at t₀).jumpWord core b < pl.length) : Completes (.jump p core t₀) s (fun t =>
      (t.pkg p).getF (F.CORE_SEQ_NEXT core) = (((s.pkg p).at t₀).jumpWord core b).toNat % 2 ^ 24 ∧
      ((t.pkg p).play core).map Play.buf = some []) := by
  obtain ⟨-, -, -, -, hblock, -⟩ := Pkg.issuable_iff h
  have hpl := Pkg.play_issuedAs core.isLt h
  refine seqIssue_completes rfl h fun t ht => ?_
  rw [Pkg.jumpTarget_issued h1 hlt hpl rfl] at ht
  obtain ⟨hnext, stop, hplay⟩ := Pkg.jumpTo_seqGo core.isLt (Pkg.play_retired core.isLt hpl _) hblock _
  exact ⟨ht ▸ hnext, by rw [ht, hplay]; rfl⟩

/-- The sequencer's turn leaves the loop counters alone. -/
theorem Pkg.loops_seqGo {j : Pkg} {c : Nat} (hc : c < 64) {pl : Play} (hpl : j.play c = some pl) (hb : pl.block = none) :
    ((j.seqGo c).play c).map Play.loops = some pl.loops := by
  rw [Pkg.seqGo_of_early hc hpl (fun _ _ _ e => by simp [hb] at e), Pkg.play_congr (Pkg.showSeq_cores ..),
    Pkg.issue_view (v := Play.loops) (fun _ => rfl) (fun _ _ _ _ _ => rfl) (fun _ _ _ _ => rfl) hc, Pkg.play_applyPosts hc hpl]
  rfl

/-- A loop counter and its iteration index after a LOOP, and whether it goes on (R167). -/
def loopAfter (v : Nat × Nat) (n : Nat) : Nat × Nat :=
  ((if v.1 = 0 then n else v.1) - 1, if (if v.1 = 0 then n else v.1) - 1 = 0 then 0 else v.2 + 1)

/-- The play with a loop counter set. -/
def Play.withLoop (ctr : Nat) (v : Nat × Nat) (pl : Play) : Play := { pl with loops := pl.loops.set ctr v }

/-- A LOOP whose fields and target are good. -/
def Pkg.loopRun (c : Nat) (x : Cmd) (w : Nat) (v : Nat × Nat) (k : Pkg) : Pkg :=
  let k := (k.updPlay c (Play.withLoop (x.f 20 1) (loopAfter v (x.f 24 4)))).retire c x 0 0
  if (loopAfter v (x.f 24 4)).1 = 0 then k else k.jumpTo c w

theorem exec_loop (s : State) (p : PkgId) (core : CoreId) (t₀ : Nat) : exec (.loop p core t₀) s =
    .next (s.updPkg p (fun k => (k.at t₀).seqIssue core 0x51 (fun k x =>
      if 7 < x.f 20 1 ∨ x.f 24 4 = 0 then k.retire core x 0x3109 0
      else match k.jumpTarget core x with
        | none => k.retire core x 0x3107 0
        | some w => k.loopRun core x w (((k.play core).map (fun pl => pl.loops.getD (x.f 20 1) (0, 0))).getD (0, 0))))) := rfl

theorem loop_completes (h : ((s.pkg p).at t₀).issuable core 0x51 = some (pl, b)) (hctr : fieldAt b 20 1 ≤ 7) (hlen : pl.loops.length = 8)
    (hn : fieldAt b 24 4 ≠ 0) (h1 : 1 ≤ ((s.pkg p).at t₀).jumpWord core b) (hlt : ((s.pkg p).at t₀).jumpWord core b < pl.length) :
    let v := loopAfter (pl.loops.getD (fieldAt b 20 1) (0, 0)) (fieldAt b 24 4)
    Completes (.loop p core t₀) s (fun t =>
      ((t.pkg p).play core).map (fun q => q.loops.getD (fieldAt b 20 1) (0, 0)) = some v ∧
      (v.1 ≠ 0 → (t.pkg p).getF (F.CORE_SEQ_NEXT core) = (((s.pkg p).at t₀).jumpWord core b).toNat % 2 ^ 24)) := by
  intro v
  obtain ⟨-, -, -, -, hblock, -⟩ := Pkg.issuable_iff h
  have hpl := Pkg.play_issuedAs core.isLt h
  refine seqIssue_completes (exec_loop s p core t₀) h fun t ht => ?_
  have good : ¬ (7 < fieldAt b 20 1 ∨ fieldAt b 24 4 = 0) := by omega
  have ht := ht.trans (congrArg (Pkg.seqGo · core) (if_neg good))
  rw [Pkg.jumpTarget_issued h1 hlt hpl rfl, hpl] at ht
  generalize hj : (((s.pkg p).at t₀).issuedAs core 0x51 b).updPlay core (Play.withLoop (fieldAt b 20 1) v) = j
  generalize hx : ((s.pkg p).at t₀).issuedCmd core 0x51 pl b = x at ht
  have ht : t.pkg p = (if v.1 = 0 then j.retire core x 0 0
      else (j.retire core x 0 0).jumpTo core (((s.pkg p).at t₀).jumpWord core b).toNat).seqGo core := by
    rw [ht, ← hj, ← hx]; rfl
  have looped : j.play core = some ((((s.pkg p).at t₀).issuedPlay core 0x51 pl b).withLoop (fieldAt b 20 1) v) := by
    rw [← hj, Pkg.play_updPlay _ core.isLt, hpl]; rfl
  have retired := Pkg.play_retired core.isLt looped x
  have counter : (pl.loops.set (fieldAt b 20 1) v).getD (fieldAt b 20 1) (0, 0) = v := by
    rw [List.getD_eq_getElem?_getD, List.getElem?_set_self (by rw [hlen]; omega)]
    rfl
  by_cases left : v.1 = 0
  · rw [if_pos left] at ht
    have loops := Pkg.loops_seqGo core.isLt retired hblock
    rw [← ht] at loops
    refine ⟨?_, fun ne => absurd left ne⟩
    have := congrArg (Option.map (fun l : List (Nat × Nat) => l.getD (fieldAt b 20 1) (0, 0))) loops
    rw [Option.map_map] at this
    exact this.trans (congrArg some counter)
  · rw [if_neg left] at ht
    obtain ⟨hnext, stop, hplay⟩ := Pkg.jumpTo_seqGo core.isLt retired hblock (((s.pkg p).at t₀).jumpWord core b).toNat
    exact ⟨by rw [ht, hplay]; exact congrArg some counter, fun _ => ht ▸ hnext⟩

end

/-- Settles O22: each command by the package in which its word has issued and retired. -/
theorem sequencerRetiresAtIssue : Obligations.SequencerRetiresAtIssue := by
  unfold Obligations.SequencerRetiresAtIssue
  intro s p core t₀ pl b k
  exact ⟨semPost_completes, sendTile_completes, announce_completes, jump_completes, loop_completes, fun q => semPostApply_completes⟩

end Sys2Proof.Machine
end

section
/-! PROOFS. Fetching a play (R138, R143, R147): the header, the words, and a word that is no command. -/

namespace Sys2Proof.Machine

/-! ### A barrier's end leaves fetch alone -/

/-- A retirement, a latched status and the shown state of core `w` leave `f` alone. -/
structure Fld.seqFree (w : Nat) (f : Fld) : Prop where
  shows : f.showFree w
  latch : f.latchFree w
  retired : (F.CORE_SEQ_RETIRED w).apart f = true
  tokens : f.off < 0x1001000 + 0x40000 * w ∨ 0x1005000 + 0x40000 * w ≤ f.off

theorem Pkg.getF_retire (k : Pkg) {c : Nat} (x : Cmd) (st : Status) (info : Nat) {f : Fld} (h : f.seqFree c) :
    (k.retire c x st info).getF f = k.getF f := by
  have token : (k.completeToken c x st).getF f = k.getF f := by
    have ht : x.f 2 2 % 4096 < 4096 := Nat.mod_lt _ (by decide)
    have out := h.tokens
    unfold Pkg.completeToken
    split
    · dsimp only
      rw [Pkg.getF_setF_apart _ _ f _ (Fld.apart_of_off (by simp only [F.CORE_TOK_CODE]; omega)),
        Pkg.getF_setF_apart _ _ f _ (Fld.apart_of_off (by simp only [F.CORE_TOK_PENDING]; omega))]
    · rfl
  have counted : ((k.completeToken c x st).addWrap (F.CORE_SEQ_RETIRED c) 1).getF f = k.getF f := by
    rw [Pkg.getF_addWrap_apart _ _ f _ h.retired, token]
  rw [Pkg.retire_eq, Pkg.getF_showSeq _ h.shows, Pkg.getF_updPlay]
  unfold Pkg.retireMarks
  dsimp only
  split
  · exact counted
  · rw [Pkg.getF_latch _ h.latch, counted]

/-- The registers of another core. -/
theorem Fld.seqFree_other {w c : Nat} (hc : c < 64) (ne : w ≠ c) {f : Fld} (h : 0x1000000 + 0x40000 * c ≤ f.off ∧ f.off < 0x1040000 + 0x40000 * c) :
    f.seqFree w := by
  have apart (g : Fld) (hg : 0x1000000 + 0x40000 * w ≤ g.off ∧ g.off < 0x1040000 + 0x40000 * w) : g.apart f = true :=
    Fld.apart_of_off (by omega)
  refine ⟨⟨?_, ?_, ?_, ?_, ?_, ?_⟩, ⟨?_, ?_, ?_, ?_, ?_, by omega⟩, ?_, by omega⟩ <;> refine apart _ ?_
  · simp only [F.CORE_SEQ_RUN]; omega
  · simp only [F.CORE_SEQ_LOOPS]; omega
  · simp only [F.CORE_SEQ_OLDEST]; omega
  · simp only [F.CORE_MOV_NOW]; omega
  · simp only [F.CORE_MOV_PEAK]; omega
  · simp only [F.CORE_SEQ_SHOT_NOW]; omega
  · simp only [F.CORE_LAST_STATUS]; omega
  · simp only [F.CORE_SEQ_ERR_WORD]; omega
  · simp only [F.CORE_SEQ_ERR_STATUS]; omega
  · simp only [F.CORE_SEQ_ERR_INFO]; omega
  · simp only [F.CORE_SEQ_ERR_VALID]; omega
  · simp only [F.CORE_SEQ_RETIRED]; omega

theorem Pkg.getF_endBarrier (k : Pkg) {w : Nat} (st : Status) {f : Fld} (h : f.seqFree w) : (k.endBarrier w st).getF f = k.getF f := by
  unfold Pkg.endBarrier
  split
  · rfl
  split
  · dsimp only
    split
    · rw [Pkg.getF_retire _ _ _ _ h, Pkg.getF_updPlay]
    · rfl
  · rfl

theorem Pkg.getF_tryArrive (k : Pkg) (c : Nat) {f : Fld} (h : ∀ w < 64, f.seqFree w) (ho : 0x1000000 ≤ f.off) :
    (k.tryArrive c).getF f = k.getF f := by
  have ends (j l : Pkg) (slot id : Nat) (pt : Bool) (st : Status) :
      ((j.waiters slot id pt).foldl (fun k w => k.endBarrier w st) l).getF f = l.getF f :=
    foldl_keeps (v := fun j : Pkg => j.getF f) _ _ fun j w hw => j.getF_endBarrier st (h w (Pkg.waiters_lt hw))
  unfold Pkg.tryArrive
  split
  · rfl
  split
  · dsimp only
    split
    · rfl
    split
    · exact ((Pkg.sendHub_frame ..).getF f (.inr (by omega))).trans (Pkg.getF_updPlay ..)
    split
    · exact ends ..
    split
    · exact ends ..
    · rfl
  · rfl

theorem Pkg.getF_seqGo_of_buf {k : Pkg} {c : Nat} (hc : c < 64) {f : Fld} (h : ∀ w < 64, f.seqFree w) (ho : 0x1000000 ≤ f.off)
    (hbuf : (((k.applyPosts c).tryArrive c).play c).map Play.buf = some []) : (k.seqGo c).getF f = k.getF f := by
  obtain ⟨pl, hpl, hb⟩ := Option.map_eq_some_iff.mp hbuf
  have arrive : ((k.applyPosts c).tryArrive c).getF f = k.getF f := (Pkg.getF_tryArrive _ c h ho).trans (k.getF_applyPosts c ho)
  unfold Pkg.seqGo
  dsimp only
  rw [Pkg.getF_showSeq _ (h c hc).shows]
  obtain e | e := Pkg.issue_of_unfetched (fuel := ((((k.applyPosts c).tryArrive c).play c).map (fun p => p.buf.length + 1)).getD 0) hpl hb <;>
    rw [e]
  · exact arrive
  · rw [Pkg.getF_pastEnd _ (h c hc).shows (h c hc).latch, arrive]

/-! ### Views of a play -/

/-- What a retirement, a block and an end of a play leave alone of it. -/
structure PlayView {α : Type} (v : Play → α) : Prop where
  block : ∀ (pl : Play) b, v { pl with block := b } = v pl
  posts : ∀ (pl : Play) met, v (pl.posted met) = v pl
  retired : ∀ (pl : Play) n stop now, v (pl.retired n stop now) = v pl
  stopping : ∀ pl : Play, v { pl with stopping := true } = v pl

theorem Option.map_map_of_eq {α : Type} {v : Play → α} {f : Play → Play} (h : ∀ pl, v (f pl) = v pl) (o : Option Play) :
    (o.map f).map v = o.map v := by
  cases o with
  | none => rfl
  | some pl => exact congrArg some (h pl)

theorem Pkg.play_updPlay_other (k : Pkg) {c w : Nat} (h : c ≠ w) (f : Play → Play) : (k.updPlay w f).play c = k.play c := by
  unfold Pkg.updPlay Pkg.play
  rw [Pkg.core_updCore, if_neg (fun e => h e.1)]

theorem Pkg.view_updPlay {α : Type} {v : Play → α} (k : Pkg) {c : Nat} (hc : c < 64) (w : Nat) {f : Play → Play} (h : ∀ pl, v (f pl) = v pl) :
    ((k.updPlay w f).play c).map v = (k.play c).map v := by
  by_cases e : c = w
  · subst e
    rw [Pkg.play_updPlay k hc, Option.map_map_of_eq h]
  · rw [Pkg.play_updPlay_other k e]

theorem Pkg.view_retire {α : Type} {v : Play → α} (hv : PlayView v) (k : Pkg) {c : Nat} (hc : c < 64) (w : Nat) (x : Cmd) (st : Status) (info : Nat) :
    ((k.retire w x st info).play c).map v = (k.play c).map v := by
  rw [Pkg.retire_eq, Pkg.play_congr (Pkg.showSeq_cores ..), Pkg.view_updPlay _ hc w (fun pl => hv.retired pl _ _ _),
    Pkg.play_congr (k.retireMarks_cores w x st info)]

theorem Pkg.view_endBarrier {α : Type} {v : Play → α} (hv : PlayView v) (k : Pkg) {c : Nat} (hc : c < 64) (w : Nat) (st : Status) :
    ((k.endBarrier w st).play c).map v = (k.play c).map v := by
  unfold Pkg.endBarrier
  split
  · rfl
  split
  · dsimp only
    split
    · rw [Pkg.view_retire hv _ hc, Pkg.view_updPlay _ hc w (fun pl => hv.block pl _)]
    · rw [Pkg.view_updPlay _ hc w (fun pl => hv.block pl _)]
  · rfl

theorem Pkg.view_tryArrive {α : Type} {v : Play → α} (hv : PlayView v) (k : Pkg) {c : Nat} (hc : c < 64) :
    ((k.tryArrive c).play c).map v = (k.play c).map v := by
  have ends (j l : Pkg) (slot id : Nat) (pt : Bool) (st : Status) :
      ((((j.waiters slot id pt).foldl (fun k w => k.endBarrier w st) l).play c).map v) = (l.play c).map v :=
    foldl_keeps (v := fun j : Pkg => (j.play c).map v) _ _ fun j w _ => Pkg.view_endBarrier hv j hc w st
  have arrived (id n : Nat) (pt : Bool) : (((k.updPlay c (fun p => { p with block := some (.barrier id pt n true) })).play c).map v) =
      (k.play c).map v := Pkg.view_updPlay k hc c (fun pl => hv.block pl _)
  unfold Pkg.tryArrive
  split
  · rfl
  split
  · dsimp only
    split
    · rfl
    split
    · rw [Pkg.play_congr (Pkg.sendHub_frame ..).cores, arrived]
    split
    · rw [ends]; exact arrived ..
    split
    · rw [ends]; exact arrived ..
    · exact arrived ..
  · rfl

theorem Pkg.view_applyPosts {α : Type} {v : Play → α} (hv : PlayView v) (k : Pkg) {c : Nat} (hc : c < 64) :
    ((k.applyPosts c).play c).map v = (k.play c).map v := by
  cases hpl : k.play c with
  | none => rw [Pkg.applyPosts, hpl]; simp [hpl]
  | some pl => rw [Pkg.play_applyPosts hc hpl]; exact congrArg some (hv.posts pl _)

theorem Pkg.arrive_buf {k : Pkg} {c : Nat} (hc : c < 64) {pl : Play} (hpl : k.play c = some pl) (hbuf : pl.buf = []) :
    (((k.applyPosts c).tryArrive c).play c).map Play.buf = some [] := by
  have hv : PlayView Play.buf := ⟨fun _ _ => rfl, fun _ _ => rfl, fun _ _ _ _ => rfl, fun _ => rfl⟩
  rw [Pkg.view_tryArrive hv _ hc, Pkg.view_applyPosts hv _ hc, hpl]
  exact congrArg some hbuf

/-- With no word fetched the sequencer's turn keeps what no retirement writes. -/
theorem Pkg.view_seqGo {α : Type} {v : Play → α} (hv : PlayView v) {k : Pkg} {c : Nat} (hc : c < 64) {pl : Play} (hpl : k.play c = some pl)
    (hbuf : pl.buf = []) : ((k.seqGo c).play c).map v = some (v pl) := by
  have before : ((((k.applyPosts c).tryArrive c).play c).map v) = some (v pl) := by
    rw [Pkg.view_tryArrive hv _ hc, Pkg.view_applyPosts hv _ hc, hpl]; rfl
  obtain ⟨q, hq, hb⟩ := Option.map_eq_some_iff.mp (Pkg.arrive_buf hc hpl hbuf)
  unfold Pkg.seqGo
  dsimp only
  rw [Pkg.play_congr (Pkg.showSeq_cores ..)]
  obtain e | e := Pkg.issue_of_unfetched (fuel := ((((k.applyPosts c).tryArrive c).play c).map (fun p => p.buf.length + 1)).getD 0) hq hb <;>
    rw [e]
  · exact before
  · rw [Pkg.play_pastEnd _ hc, Option.map_map_of_eq hv.stopping, before]

end Sys2Proof.Machine
end

section
/-! PROOFS. Fetching a play (R138, R143, R147): the header, the words, and a word that is no command. -/

namespace Sys2Proof.Machine

/-! ### Words of a clean local store -/

theorem Pkg.lsClean_iff {k : Pkg} {c : Nat} (h : k.lsClean c = true) : (k.core c).lsBad = [] ∧ (k.core c).lsCe = [] := by
  simpa [Pkg.lsClean] using h

/-- Play words fetched from a clean local store. -/
theorem Pkg.fetchWords_local {k : Pkg} {c : Nat} {pl : Play} (hlocal : addrSpace pl.addr = 0) (hbad : (k.core c).lsBad = []) (w n : Nat) :
    k.fetchWords c pl w n = (k, Memory.readBytes (k.core c).ls (addrBase pl.addr + 64 * w) (64 * n), none) := by
  have clean (l : List Nat) : l.any (fun h => (k.core c).lsBad.contains h) = false := by rw [hbad]; simp
  unfold Pkg.fetchWords
  dsimp only
  rw [if_pos hlocal, clean]
  rfl

/-- Word `w` of a play. -/
def Pkg.playWord (k : Pkg) (c : Nat) (pl : Play) (w : Nat) : Bytes := Memory.readBytes (k.core c).ls (addrBase pl.addr + 64 * w) 64

theorem fieldAt_lt_pow (b : Bytes) (o n : Nat) : fieldAt b o n < 256 ^ n :=
  calc fieldAt b o n < 256 ^ ((b.drop o).take n).length := leNat_lt _
    _ ≤ 256 ^ n := Nat.pow_le_pow_right (by decide) (by rw [List.length_take]; exact Nat.min_le_left _ _)

theorem Fld.seqFree_next {c : Nat} (hc : c < 64) (w : Nat) : (F.CORE_SEQ_NEXT c).seqFree w := by
  by_cases e : w = c
  · subst e
    exact ⟨Fld.showFree_next w, Fld.latchFree_next hc, Fld.apart_of_off (by simp only [F.CORE_SEQ_RETIRED, F.CORE_SEQ_NEXT]; omega),
      by simp only [F.CORE_SEQ_NEXT]; omega⟩
  · exact Fld.seqFree_other hc e (by simp only [F.CORE_SEQ_NEXT]; omega)

theorem Fld.seqFree_limit {c : Nat} (hc : c < 64) (w : Nat) : (F.CORE_SEQ_SHOT_LIMIT c).seqFree w := by
  by_cases e : w = c
  · subst e
    refine ⟨?_, ?_, Fld.apart_of_off (by simp only [F.CORE_SEQ_RETIRED, F.CORE_SEQ_SHOT_LIMIT]; omega),
      by simp only [F.CORE_SEQ_SHOT_LIMIT]; omega⟩
    · constructor <;> simp [Fld.apart, F.CORE_SEQ_SHOT_LIMIT, F.CORE_SEQ_RUN, F.CORE_SEQ_LOOPS, F.CORE_SEQ_OLDEST, F.CORE_MOV_NOW,
        F.CORE_MOV_PEAK, F.CORE_SEQ_SHOT_NOW]
    · constructor
      case off => simp only [F.CORE_SEQ_SHOT_LIMIT]; omega
      all_goals simp [Fld.apart, F.CORE_SEQ_SHOT_LIMIT, F.CORE_LAST_STATUS, F.CORE_SEQ_ERR_WORD, F.CORE_SEQ_ERR_STATUS,
        F.CORE_SEQ_ERR_INFO, F.CORE_SEQ_ERR_VALID]
  · exact Fld.seqFree_other hc e (by simp only [F.CORE_SEQ_SHOT_LIMIT]; omega)

section
variable {s : State} {p : PkgId} {core : CoreId} {t₀ : Nat} {pl : Play}

/-- What fetch needs of a play. -/
structure Pkg.Fetching (k : Pkg) (c : Nat) (pl : Play) : Prop where
  play : k.play c = some pl
  stopping : pl.stopping = false
  draining : pl.draining = false
  addr : addrSpace pl.addr = 0
  clean : k.lsClean c = true

/-- The package that has taken the header of its play (R143). -/
def Pkg.headed (k : Pkg) (c : Nat) (h : Bytes) : Pkg :=
  ((k.updPlay c (fun pl => { pl with length := fieldAt h 8 4, id := fieldAt h 16 8 })).setF (F.CORE_SEQ_SHOT_LIMIT c)
    (if fieldAt h 12 4 = 0 then k.shotDefault else fieldAt h 12 4)).setF (F.CORE_SEQ_NEXT c) 1

theorem Pkg.fetchPlay_header {k : Pkg} {c : Nat} (hc : c < 64) (h : k.Fetching c pl) (hlen : pl.length = 0)
    (good : Machine.headerCheck (k.playWord c pl 0) = 0) :
    k.fetchPlay c 1 = ((k.headed c (k.playWord c pl 0)).updPlay c (fun pl => { pl with buf := [] })).seqGo c := by
  obtain ⟨hplay, hstop, hdrain, haddr, hclean⟩ := h
  have store : ((k.headed c (k.playWord c pl 0)).core c).lsBad = [] := by
    obtain ⟨hbad, -⟩ := Pkg.lsClean_iff hclean
    change ((k.updPlay c _).core c).lsBad = []
    rw [Pkg.updPlay, Pkg.core_updCore, if_pos ⟨rfl, hc⟩]
    exact hbad
  unfold Pkg.fetchPlay
  rw [hplay]
  dsimp only
  rw [if_neg (by simp [hstop, hdrain]), if_pos hlen, Pkg.fetchWords_local haddr (Pkg.lsClean_iff hclean).1 0 1]
  dsimp only
  have e : Machine.headerCheck ((k.core c).ls.readBytes (addrBase pl.addr + 64 * 0) (64 * 1)) = 0 := good
  rw [e, Nat.sub_self, Nat.zero_min]
  change (match (k.headed c (k.playWord c pl 0)).fetchWords c pl 1 0 with
    | (k, _, some b) => _
    | (k, bs, none) => _) = _
  rw [Pkg.fetchWords_local haddr store 1 0]
  rfl

/-- The header of a play is taken: its length, its number, its shot clock, and the next word. -/
theorem Pkg.fetchPlay_header_shows {k : Pkg} {c : Nat} (hc : c < 64) (h : k.Fetching c pl) (hlen : pl.length = 0)
    (good : Machine.headerCheck (k.playWord c pl 0) = 0) :
    ((k.fetchPlay c 1).play c).map (fun q => (q.length, q.id)) =
      some (fieldAt (k.playWord c pl 0) 8 4, fieldAt (k.playWord c pl 0) 16 8) ∧
    (k.fetchPlay c 1).getF (F.CORE_SEQ_NEXT c) = 1 ∧
    (k.fetchPlay c 1).getF (F.CORE_SEQ_SHOT_LIMIT c) =
      (if fieldAt (k.playWord c pl 0) 12 4 = 0 then k.shotDefault % 2 ^ 32 else fieldAt (k.playWord c pl 0) 12 4) := by
  generalize hb : k.playWord c pl 0 = b at good ⊢
  have hplay : ((k.headed c b).updPlay c (fun pl => { pl with buf := [] })).play c =
      some { pl with length := fieldAt b 8 4, id := fieldAt b 16 8, buf := [] } := by
    rw [Pkg.play_updPlay _ hc, Pkg.headed, Pkg.play_setF, Pkg.play_setF, Pkg.play_updPlay _ hc, h.play]
    rfl
  have arrive := Pkg.arrive_buf hc hplay rfl
  rw [Pkg.fetchPlay_header hc h hlen (hb ▸ good), hb]
  refine ⟨Pkg.view_seqGo (v := fun q => (q.length, q.id)) ⟨fun _ _ => rfl, fun _ _ => rfl, fun _ _ _ _ => rfl, fun _ => rfl⟩ hc hplay rfl, ?_, ?_⟩
  · rw [Pkg.getF_seqGo_of_buf hc (fun w _ => Fld.seqFree_next hc w) (by simp only [F.CORE_SEQ_NEXT]; omega) arrive, Pkg.getF_updPlay,
      Pkg.headed, Pkg.getF_setF_same _ _ _ rfl]
    rfl
  · rw [Pkg.getF_seqGo_of_buf hc (fun w _ => Fld.seqFree_limit hc w) (by simp only [F.CORE_SEQ_SHOT_LIMIT]; omega) arrive, Pkg.getF_updPlay,
      Pkg.headed, Pkg.getF_setF_apart _ _ _ _ (Fld.apart_of_off (by simp only [F.CORE_SEQ_NEXT, F.CORE_SEQ_SHOT_LIMIT]; omega)),
      Pkg.getF_setF_same _ _ _ rfl]
    change (if _ then _ else _) % 2 ^ 32 = _
    split
    · rfl
    · exact Nat.mod_eq_of_lt (fieldAt_lt_pow b 12 4)

/-! ### Latched failures -/

/-- The first status of a play that is latched (R170, R192). -/
theorem Pkg.getF_latch_first (k : Pkg) {c : Nat} (hc : c < 64) (hnone : k.getF (F.CORE_SEQ_ERR_VALID c) = 0) (word st info : Nat) :
    (k.latch c word st info).getF (F.CORE_SEQ_ERR_VALID c) = 1 ∧ (k.latch c word st info).getF (F.CORE_SEQ_ERR_STATUS c) = st % 2 ^ 16 ∧
    (k.latch c word st info).getF (F.CORE_SEQ_ERR_WORD c) = word % 2 ^ 24 ∧
    (k.latch c word st info).getF (F.CORE_LAST_STATUS c) = st % 2 ^ 16 := by
  have low (f : Fld) (h : f.off < 0x1040000 + 0x40000 * c) : f.off < 0x3000000 := by omega
  have report (f : Fld) (h : f.off < 0x1040000 + 0x40000 * c) :
      (k.report (F.CORE_LAST_STATUS c) st .core c info).getF f = (k.setF (F.CORE_LAST_STATUS c) st).getF f :=
    k.getF_report _ f st .core c info (low f h)
  have free : ¬ (k.report (F.CORE_LAST_STATUS c) st .core c info).flag (F.CORE_SEQ_ERR_VALID c) = true := by
    rw [Pkg.flag_iff, report _ (by simp only [F.CORE_SEQ_ERR_VALID]; omega),
      Pkg.getF_setF_apart _ _ _ _ (Fld.apart_of_off (by simp only [F.CORE_LAST_STATUS, F.CORE_SEQ_ERR_VALID]; omega)), hnone]
    decide
  have e : k.latch c word st info =
      ((((k.report (F.CORE_LAST_STATUS c) st .core c info).setF (F.CORE_SEQ_ERR_WORD c) word).setF (F.CORE_SEQ_ERR_STATUS c) st).setF
        (F.CORE_SEQ_ERR_INFO c) (if statusSub st = 2 ∨ statusSub st = 1 then info else 0)).raise (F.CORE_SEQ_ERR_VALID c) := if_neg free
  have info_apart (f : Fld) (h : f.off ≠ 0x1000120 + 0x40000 * c) : (F.CORE_SEQ_ERR_INFO c).apart f = true :=
    Fld.apart_of_off (by simp only [F.CORE_SEQ_ERR_INFO]; omega)
  have last_apart (f : Fld) (h : f.off = 0x1000118 + 0x40000 * c) : f.apart (F.CORE_LAST_STATUS c) = true :=
    Fld.apart_of_off (by simp only [F.CORE_LAST_STATUS]; omega)
  refine ⟨by rw [e]; exact Pkg.getF_raise_same _ _ rfl (Nat.le_refl 1), ?_, ?_, ?_⟩
  · rw [e, Pkg.getF_raise_apart _ _ _ (by simp [Fld.apart, F.CORE_SEQ_ERR_VALID, F.CORE_SEQ_ERR_STATUS]),
      Pkg.getF_setF_apart _ _ _ _ (info_apart _ (by simp only [F.CORE_SEQ_ERR_STATUS]; omega)), Pkg.getF_setF_same _ _ _ rfl]
    rfl
  · rw [e, Pkg.getF_raise_apart _ _ _ (by simp [Fld.apart, F.CORE_SEQ_ERR_VALID, F.CORE_SEQ_ERR_WORD]),
      Pkg.getF_setF_apart _ _ _ _ (info_apart _ (by simp only [F.CORE_SEQ_ERR_WORD]; omega)),
      Pkg.getF_setF_apart _ _ _ _ (by simp [Fld.apart, F.CORE_SEQ_ERR_STATUS, F.CORE_SEQ_ERR_WORD]), Pkg.getF_setF_same _ _ _ rfl]
    rfl
  · rw [e, Pkg.getF_raise_apart _ _ _ (last_apart _ rfl), Pkg.getF_setF_apart _ _ _ _ (info_apart _ (by simp only [F.CORE_LAST_STATUS]; omega)),
      Pkg.getF_setF_apart _ _ _ _ (last_apart _ rfl), Pkg.getF_setF_apart _ _ _ _ (last_apart _ rfl),
      report _ (by simp only [F.CORE_LAST_STATUS]; omega), Pkg.getF_setF_same _ _ _ rfl]
    rfl

/-- What is latched is not hidden by what the sequencer shows. -/
theorem Fld.showFree_latched {c : Nat} {f : Fld} (h : f.off = 0x1000118 + 0x40000 * c ∨ f.off = 0x1000008 + 0x40000 * c) : f.showFree c := by
  constructor <;> refine Fld.apart_of_off ?_
  · simp only [F.CORE_SEQ_RUN]; omega
  · simp only [F.CORE_SEQ_LOOPS]; omega
  · simp only [F.CORE_SEQ_OLDEST]; omega
  · simp only [F.CORE_MOV_NOW]; omega
  · simp only [F.CORE_MOV_PEAK]; omega
  · simp only [F.CORE_SEQ_SHOT_NOW]; omega

theorem headerCheck_cases (b : Bytes) : headerCheck b = 0x3107 ∨ headerCheck b = 0x3101 ∨ headerCheck b = 0 := by
  unfold headerCheck
  dsimp only
  split
  · exact .inl rfl
  split
  · exact .inr (.inl rfl)
  · exact .inr (.inr rfl)

/-- The package that has read the number in its play's header. -/
def Pkg.numbered (k : Pkg) (c : Nat) (b : Bytes) : Pkg := k.updPlay c (fun pl => { pl with id := fieldAt b 16 8 })

/-- The play stops with a status (R138). -/
def Pkg.stopFetch (k : Pkg) (c : Nat) (st : Status) : Pkg :=
  ((k.latch c (k.getF (F.CORE_SEQ_NEXT c)) st 0).updPlay c (fun pl => { pl with stopping := true })).showSeq c

/-- A header that fails its checks (R143). -/
theorem Pkg.fetchPlay_badHeader {k : Pkg} {c n : Nat} (h : k.Fetching c pl) (hlen : pl.length = 0)
    (bad : Machine.headerCheck (k.playWord c pl 0) ≠ 0) :
    k.fetchPlay c n = (k.numbered c (k.playWord c pl 0)).stopFetch c (Machine.headerCheck (k.playWord c pl 0)) := by
  obtain ⟨hplay, hstop, hdrain, haddr, hclean⟩ := h
  unfold Pkg.fetchPlay
  rw [hplay]
  dsimp only
  rw [if_neg (by simp [hstop, hdrain]), if_pos hlen, Pkg.fetchWords_local haddr (Pkg.lsClean_iff hclean).1 0 1]
  dsimp only
  change (match Machine.headerCheck (k.playWord c pl 0) with
    | 0 => _
    | st => _) = _
  obtain e | e | e := headerCheck_cases (k.playWord c pl 0)
  · rw [e]; rfl
  · rw [e]; rfl
  · exact absurd e bad

theorem Pkg.stopFetch_shows {k : Pkg} {c : Nat} (hc : c < 64) {pl : Play} (hpl : k.play c = some pl)
    (hnone : k.getF (F.CORE_SEQ_ERR_VALID c) = 0) (st : Status) :
    ((k.stopFetch c st).play c).map Play.stopping = some true ∧ (k.stopFetch c st).getF (F.CORE_SEQ_ERR_VALID c) = 1 ∧
      (k.stopFetch c st).getF (F.CORE_SEQ_ERR_STATUS c) = st % 2 ^ 16 := by
  obtain ⟨hvalid, hst, -, -⟩ := k.getF_latch_first hc hnone (k.getF (F.CORE_SEQ_NEXT c)) st 0
  refine ⟨?_, ?_, ?_⟩
  · rw [Pkg.stopFetch, Pkg.play_congr (Pkg.showSeq_cores ..), Pkg.play_updPlay _ hc, Pkg.play_congr (k.latch_cores c _ _ _), hpl]
    rfl
  · rw [Pkg.stopFetch, Pkg.getF_showSeq _ (Fld.showFree_latched (.inl rfl)), Pkg.getF_updPlay, hvalid]
  · rw [Pkg.stopFetch, Pkg.getF_showSeq _ (Fld.showFree_latched (.inl rfl)), Pkg.getF_updPlay, hst]

theorem badHeader_completes {n : Nat} (h : ((s.pkg p).at t₀).Fetching core pl) (hlen : pl.length = 0)
    (bad : headerCheck (((s.pkg p).at t₀).playWord core pl 0) ≠ 0) (hnone : ((s.pkg p).at t₀).getF (F.CORE_SEQ_ERR_VALID core) = 0) :
    Completes (.playFetchComplete p core n t₀) s (fun t => ((t.pkg p).play core).map Play.stopping = some true ∧
      (t.pkg p).getF (F.CORE_SEQ_ERR_VALID core) = 1 ∧
      (t.pkg p).getF (F.CORE_SEQ_ERR_STATUS core) = headerCheck (((s.pkg p).at t₀).playWord core pl 0)) :=
  completes_of_updPkg (f := fun k => (k.at t₀).fetchPlay core n) rfl fun t ht => by
    have hplay : (((s.pkg p).at t₀).numbered core (((s.pkg p).at t₀).playWord core pl 0)).play core =
        some { pl with id := fieldAt (((s.pkg p).at t₀).playWord core pl 0) 16 8 } := by
      rw [Pkg.numbered, Pkg.play_updPlay _ core.isLt, h.play]; rfl
    have small : headerCheck (((s.pkg p).at t₀).playWord core pl 0) % 2 ^ 16 = headerCheck (((s.pkg p).at t₀).playWord core pl 0) := by
      obtain e | e | e := headerCheck_cases (((s.pkg p).at t₀).playWord core pl 0) <;> rw [e] <;> rfl
    rw [ht, Pkg.fetchPlay_badHeader h hlen bad]
    have shows := Pkg.stopFetch_shows core.isLt hplay hnone (headerCheck (((s.pkg p).at t₀).playWord core pl 0))
    rwa [small] at shows

/-! ### Later words -/

theorem sequencer_of_queueOf {op : Nat} (h : queueOf op = some 3) : 0x40 ≤ op := by
  unfold queueOf at h
  split at h
  · simp at h
  split at h
  · simp at h
  split at h
  · simp at h
  split at h
  · omega
  · simp at h

theorem stepWord_of_sequencer {b : Bytes} (h : 0x40 ≤ fieldAt b 0 1) (i : Nat) : stepWord b i = b := by
  unfold stepWord
  dsimp only
  rw [if_neg (fun e => absurd e.2 (Nat.not_lt.mpr h))]

/-- A sequencer command is not issued with the engine commands. -/
theorem Pkg.issue_of_sequencer {k : Pkg} {c fuel : Nat} (hpl : k.play c = some pl) {b : Bytes} (hbuf : pl.buf = [b])
    (hop : queueOf (fieldAt b 0 1) = some 3) (hnext : k.getF (F.CORE_SEQ_NEXT c) < pl.length) : k.issue c fuel = k := by
  cases fuel with
  | zero => rfl
  | succ fuel =>
    have word : k.nextWord pl = some b := by
      rw [Pkg.nextWord, hbuf]
      exact congrArg some (stepWord_of_sequencer (sequencer_of_queueOf hop) _)
    unfold Pkg.issue
    rw [hpl]
    dsimp only
    split
    · rfl
    rw [if_neg (Nat.not_le.mpr hnext), word]
    dsimp only
    rw [hop]
    rfl

theorem Pkg.fetchPlay_next {k : Pkg} {c : Nat} (h : k.Fetching c pl) (hnext : k.getF (F.CORE_SEQ_NEXT c) < pl.length) (hbuf : pl.buf = []) :
    k.fetchPlay c 1 =
      (k.updPlay c (fun q => { q with buf := q.buf ++ [k.playWord c pl (k.getF (F.CORE_SEQ_NEXT c))] })).seqGo c := by
  obtain ⟨hplay, hstop, hdrain, haddr, hclean⟩ := h
  have one : min 1 (pl.length - (k.getF (F.CORE_SEQ_NEXT c) + pl.buf.length)) = 1 := by rw [hbuf, List.length_nil]; omega
  have cut : words64 1 (k.playWord c pl (k.getF (F.CORE_SEQ_NEXT c))) = [k.playWord c pl (k.getF (F.CORE_SEQ_NEXT c))] := by
    have len : (k.playWord c pl (k.getF (F.CORE_SEQ_NEXT c))).length = 64 := readBytes_length ..
    change [(k.playWord c pl _).take 64] = _
    rw [List.take_of_length_le (Nat.le_of_eq len)]
  unfold Pkg.fetchPlay
  rw [hplay]
  dsimp only
  rw [if_neg (by simp [hstop, hdrain]), if_neg (by omega), one, Pkg.fetchWords_local haddr (Pkg.lsClean_iff hclean).1]
  dsimp only
  rw [hbuf, List.length_nil, Nat.add_zero]
  change (k.updPlay c (fun p => { p with buf := p.buf ++ words64 1 (k.playWord c pl (k.getF (F.CORE_SEQ_NEXT c))) })).seqGo c = _
  rw [cut]

theorem nextWord_completes (h : ((s.pkg p).at t₀).Fetching core pl)
    (hnext : ((s.pkg p).at t₀).getF (F.CORE_SEQ_NEXT core) < pl.length) (hbuf : pl.buf = []) (hblock : pl.block = none)
    (hop : queueOf (fieldAt (((s.pkg p).at t₀).playWord core pl (((s.pkg p).at t₀).getF (F.CORE_SEQ_NEXT core))) 0 1) = some 3) :
    Completes (.playFetchComplete p core 1 t₀) s (fun t => ((t.pkg p).play core).map Play.buf =
      some [((s.pkg p).at t₀).playWord core pl (((s.pkg p).at t₀).getF (F.CORE_SEQ_NEXT core))]) :=
  completes_of_updPkg (f := fun k => (k.at t₀).fetchPlay core 1) rfl fun t ht => by
    rw [ht, Pkg.fetchPlay_next h hnext hbuf]
    generalize hw : ((s.pkg p).at t₀).playWord core pl (((s.pkg p).at t₀).getF (F.CORE_SEQ_NEXT core)) = w at hop
    have hplay : (((s.pkg p).at t₀).updPlay core (fun q => { q with buf := q.buf ++ [w] })).play core = some { pl with buf := [w] } := by
      rw [Pkg.play_updPlay _ core.isLt, h.play]
      exact congrArg (fun l => some { pl with buf := l ++ [w] }) hbuf
    have posted := Pkg.play_applyPosts core.isLt hplay
    have stays := (Pkg.getF_applyPosts (((s.pkg p).at t₀).updPlay core (fun q => { q with buf := q.buf ++ [w] })) core
      (f := F.CORE_SEQ_NEXT core) (by simp only [F.CORE_SEQ_NEXT]; omega)).trans (Pkg.getF_updPlay ..)
    rw [Pkg.seqGo_of_early core.isLt hplay (fun _ _ _ e => by simp [hblock] at e),
      Pkg.issue_of_sequencer posted rfl hop (Nat.lt_of_le_of_lt (Nat.le_of_eq stays) hnext), Pkg.play_congr (Pkg.showSeq_cores ..), posted]
    rfl

/-! ### A word that is no command (R147) -/

theorem Pkg.issuedPlay_lastCmd (pl : Play) (w : Nat) (b : Bytes) (q : Nat) (ph : Phase) :
    (pl.issued w b q ph).lastCmd = some (pl.newCmd w b q ph) := List.getLast?_concat

theorem Pkg.failWord_eq {k : Pkg} {c : Nat} (hc : c < 64) (hpl : k.play c = some pl) (b : Bytes) (st : Status) :
    k.failWord c b st = (k.pushCmd c b 3 .done).retire c (pl.newCmd (k.getF (F.CORE_SEQ_NEXT c)) b 3 .done) st 0 := by
  have last : ((k.pushCmd c b 3 .done).play c).bind Play.lastCmd = some (pl.newCmd (k.getF (F.CORE_SEQ_NEXT c)) b 3 .done) := by
    rw [k.play_pushCmd hc, hpl]
    exact Pkg.issuedPlay_lastCmd ..
  unfold Pkg.failWord
  dsimp only
  rw [last]

theorem Pkg.getF_pushCmd (k : Pkg) (c : Nat) (b : Bytes) (q : Nat) (ph : Phase) {f : Fld} (h : f.off < 0x1000110 + 0x40000 * c ∨
    0x1000110 + 0x40000 * c < f.off) (ht : f.off < 0x1001000 + 0x40000 * c) : (k.pushCmd c b q ph).getF f = k.getF f := by
  rw [Pkg.pushCmd_eq, Pkg.getF_updPlay, Pkg.issueMarks, Pkg.getF_setF_apart _ _ f _ (Fld.apart_of_off (by simp only [F.CORE_SEQ_NEXT]; omega))]
  split
  · exact Pkg.getF_setF_apart _ _ f _ (Fld.apart_of_off (by simp only [F.CORE_TOK_PENDING]; omega))
  · rfl

/-- A command that ends with a status that is latched first and stops its play (R170, R191, R192). -/
theorem Pkg.retire_latches {k : Pkg} {c : Nat} (hc : c < 64) {pl : Play} (hpl : k.play c = some pl) (x : Cmd) {st : Status}
    (hbad : statusOk st = false) (hstops : [3, 6, 7].contains (statusClass st) = true) (hnone : k.getF (F.CORE_SEQ_ERR_VALID c) = 0) :
    ((k.retire c x st 0).play c).map Play.stopping = some true ∧
      (k.retire c x st 0).getF (F.CORE_SEQ_ERR_STATUS c) = st % 2 ^ 16 ∧
      (k.retire c x st 0).getF (F.CORE_SEQ_ERR_WORD c) = x.word % 2 ^ 24 ∧
      (k.retire c x st 0).getF (F.CORE_LAST_STATUS c) = st % 2 ^ 16 := by
  have counted (f : Fld) (h : f.off < 0x1000130 + 0x40000 * c) :
      ((k.completeToken c x st).addWrap (F.CORE_SEQ_RETIRED c) 1).getF f = k.getF f := by
    rw [Pkg.getF_addWrap_apart _ _ f _ (Fld.apart_of_off (by simp only [F.CORE_SEQ_RETIRED]; omega)),
      Pkg.getF_completeToken _ _ _ _ (by omega)]
  have marks : k.retireMarks c x st 0 = ((k.completeToken c x st).addWrap (F.CORE_SEQ_RETIRED c) 1).latch c x.word st 0 :=
    if_neg (by rw [hbad]; decide)
  obtain ⟨-, hst, hword, hlast⟩ := Pkg.getF_latch_first ((k.completeToken c x st).addWrap (F.CORE_SEQ_RETIRED c) 1) hc
    ((counted _ (by simp only [F.CORE_SEQ_ERR_VALID]; omega)).trans hnone) x.word st 0
  have fields (f : Fld) (h : f.showFree c) : (k.retire c x st 0).getF f =
      (((k.completeToken c x st).addWrap (F.CORE_SEQ_RETIRED c) 1).latch c x.word st 0).getF f := by
    rw [Pkg.retire_eq, Pkg.getF_showSeq _ h, Pkg.getF_updPlay, marks]
  refine ⟨?_, ?_, ?_, ?_⟩
  · rw [Pkg.retire_eq, Pkg.play_congr (Pkg.showSeq_cores ..), Pkg.play_updPlay _ hc, Pkg.play_congr (k.retireMarks_cores c x st 0), hpl]
    change some (pl.stopping || (_ || _)) = _
    rw [hstops]
    simp
  · rw [fields _ (Fld.showFree_latched (.inl rfl)), hst]
  · rw [fields _ (Fld.showFree_latched (.inl rfl)), hword]
  · rw [fields _ (Fld.showFree_latched (.inr rfl)), hlast]

/-- UNKNOWN_OPCODE as the package's own step. -/
def Pkg.unknownOpcode (k : Pkg) (c : Nat) : Pkg :=
  match k.play c with
  | none => k
  | some pl =>
    if pl.stopping || pl.draining || pl.block.isSome || pl.length == 0 || decide (pl.length ≤ k.getF (F.CORE_SEQ_NEXT c)) then k
    else match k.nextWord pl with
      | none => k
      | some b => if badOpcode b then k.failWord c b 0x3102 else k

theorem exec_unknownOpcode (s : State) (p : PkgId) (core : CoreId) (t₀ : Nat) :
    exec (.unknownOpcode p core t₀) s = .next (s.updPkg p (fun k => (k.at t₀).unknownOpcode core)) := rfl

theorem unknownOpcode_completes (h : ((s.pkg p).at t₀).Fetching core pl) {b : Bytes} (hb : ((s.pkg p).at t₀).nextWord pl = some b)
    (hop : badOpcode b = true) (hblock : pl.block = none) (hnext : ((s.pkg p).at t₀).getF (F.CORE_SEQ_NEXT core) < pl.length)
    (hnone : ((s.pkg p).at t₀).getF (F.CORE_SEQ_ERR_VALID core) = 0) :
    Completes (.unknownOpcode p core t₀) s (fun t => ((t.pkg p).play core).map Play.stopping = some true ∧
      (t.pkg p).getF (F.CORE_SEQ_ERR_STATUS core) = 0x3102 ∧
      (t.pkg p).getF (F.CORE_SEQ_ERR_WORD core) = ((s.pkg p).at t₀).getF (F.CORE_SEQ_NEXT core) ∧
      (t.pkg p).getF (F.CORE_LAST_STATUS core) = 0x3102) :=
  completes_of_updPkg (exec_unknownOpcode s p core t₀) fun t ht => by
    have going : ¬ (pl.stopping || pl.draining || pl.block.isSome || pl.length == 0 ||
        decide (pl.length ≤ ((s.pkg p).at t₀).getF (F.CORE_SEQ_NEXT core))) = true := by
      have ne : pl.length ≠ 0 := by omega
      simp only [h.stopping, h.draining, hblock, Option.isSome_none, Bool.false_or, Bool.or_eq_true, beq_iff_eq, decide_eq_true_eq, ne, false_or]
      exact Nat.not_le.mpr hnext
    have act : ((s.pkg p).at t₀).unknownOpcode core = ((s.pkg p).at t₀).failWord core b 0x3102 := by
      unfold Pkg.unknownOpcode
      rw [h.play]
      dsimp only
      rw [if_neg going, hb]
      exact if_pos hop
    have issued := ((s.pkg p).at t₀).play_pushCmd core.isLt b 3 .done
    rw [h.play] at issued
    have free : (((s.pkg p).at t₀).pushCmd core b 3 .done).getF (F.CORE_SEQ_ERR_VALID core) = 0 := by
      rw [Pkg.getF_pushCmd _ _ _ _ _ (by simp only [F.CORE_SEQ_ERR_VALID]; omega) (by simp only [F.CORE_SEQ_ERR_VALID]; omega), hnone]
    obtain ⟨hstop, hst, hword, hlast⟩ := Pkg.retire_latches core.isLt issued
      (pl.newCmd (((s.pkg p).at t₀).getF (F.CORE_SEQ_NEXT core)) b 3 .done) (st := 0x3102) rfl rfl free
    rw [ht, act, Pkg.failWord_eq core.isLt h.play]
    exact ⟨hstop, hst, hword.trans (Nat.mod_eq_of_lt (Pkg.getF_lt _ (F.CORE_SEQ_NEXT core))), hlast⟩

end

/-- Settles O23: a fetch by what its first word says, and a bad word by its retirement. -/
theorem playsAreFetched : Obligations.PlaysAreFetched := by
  unfold Obligations.PlaysAreFetched
  intro s p core n t₀ pl k words hplay hstop hdrain haddr hclean
  have h : k.Fetching core pl := ⟨hplay, hstop, hdrain, haddr, hclean⟩
  refine ⟨fun hlen good => ?_, fun hlen bad hnone => badHeader_completes h hlen bad hnone,
    fun hnext hbuf hblock hop => nextWord_completes h hnext hbuf hblock hop,
    fun b hb hop hblock hnext hnone => unknownOpcode_completes h hb hop hblock hnext hnone⟩
  exact completes_of_updPkg (f := fun k => (k.at t₀).fetchPlay core 1) rfl fun t ht => by
    rw [ht]
    exact Pkg.fetchPlay_header_shows core.isLt h hlen good

end Sys2Proof.Machine
end

section
/-! PROOFS. The engines (R85–R118, R150–R153, R220–R222): what a command computes depends on its core alone, goes into the local store, and
releases the command. -/

namespace Sys2Proof.Machine

/-! ### Local store -/

theorem Pkg.fpFlags_cores (k : Pkg) (c flags : Nat) : (k.fpFlags c flags).cores = k.cores := by
  have put (k : Pkg) (n : Nat) (f : Fld) : (if bit flags n then k.raise f else k).cores = k.cores := by split <;> rfl
  unfold Pkg.fpFlags
  simp only [put]

theorem Pkg.core_congr {k j : Pkg} (h : j.cores = k.cores) (c : Nat) : j.core c = k.core c := by unfold Pkg.core; rw [h]

theorem Pkg.core_fpFlags (k : Pkg) (c flags c' : Nat) : (k.fpFlags c flags).core c' = k.core c' := Pkg.core_congr (k.fpFlags_cores c flags) c'

theorem Pkg.ls_lsStore (k : Pkg) {c : Nat} (hc : c < 64) (m : Memory) (wr : List Nat) :
    ((k.lsStore c m wr).core c).ls = m ∧ ((k.lsStore c m wr).core c).play = (k.core c).play := by
  rw [Pkg.lsStore, Pkg.core_updCore, if_pos ⟨rfl, hc⟩]
  exact ⟨rfl, rfl⟩

/-- A read of a local store without errors gives no error. -/
theorem Pkg.lsRead_of_clean {k : Pkg} {c : Nat} (h : k.lsClean c = true) (addrs : List Nat) : k.lsRead c addrs = (k, none) := by
  obtain ⟨hbad, hce⟩ := Pkg.lsClean_iff h
  have ce : (halfRows addrs).filter (fun h => (k.core c).lsCe.contains h && !(k.core c).lsBad.contains h) = [] := by
    rw [hce]; simp
  have ue : (halfRows addrs).find? (fun h => (k.core c).lsBad.contains h) = none := by
    rw [hbad]; simp
  unfold Pkg.lsRead
  dsimp only
  rw [ce, ue]
  rfl

/-! ### What depends on the core alone -/

section
variable {k j : Pkg} {c : Nat} (h : j.core c = k.core c)
include h

theorem Pkg.operand_congr (x : Cmd) (off : Nat) : j.operand c x off = k.operand c x off := by
  unfold Pkg.operand Pkg.tensor Pkg.descAt; rw [h]

theorem Pkg.descCheck_congr (off : Nat) : j.descCheck c off = k.descCheck c off := by
  unfold Pkg.descCheck Pkg.descAt; rw [h]

theorem Pkg.descChecks_congr (x : Cmd) (bad : Nat → Desc → Bool) : j.descChecks c x bad = k.descChecks c x bad := by
  unfold Pkg.descChecks
  simp only [Pkg.descCheck_congr h, Pkg.operand_congr h]

theorem Pkg.lsClean_congr : j.lsClean c = k.lsClean c := by unfold Pkg.lsClean; rw [h]

theorem Pkg.gemmCheck_congr (x : Cmd) : j.gemmCheck c x = k.gemmCheck c x := by
  unfold Pkg.gemmCheck
  simp only [Pkg.descChecks_congr h, Pkg.operand_congr h]

theorem Pkg.vecCheck_congr (x : Cmd) : j.vecCheck c x = k.vecCheck c x := by
  unfold Pkg.vecCheck
  simp only [Pkg.descChecks_congr h, Pkg.operand_congr h]

theorem Pkg.vecAt_congr (x : Cmd) : j.vecAt c x = k.vecAt c x := by
  funext a
  unfold Pkg.vecAt Pkg.axisList
  simp only [Pkg.operand_congr h, h]

end

/-! ### What writes a tensor -/

/-- `j` has the local store `m` in core `c`, and the plays of `k`. -/
def Pkg.Stored (k j : Pkg) (c : Nat) (m : Memory) : Prop := (j.core c).ls = m ∧ j.play c = k.play c

theorem Pkg.Stored.setF {k j : Pkg} {c : Nat} {m : Memory} (h : k.Stored j c m) (f : Fld) (v : Nat) : k.Stored (j.setF f v) c m := h

theorem Pkg.Stored.fpFlags {k j : Pkg} {c : Nat} {m : Memory} (h : k.Stored j c m) (flags : Nat) : k.Stored (j.fpFlags c flags) c m := by
  unfold Pkg.Stored Pkg.play at *
  rw [Pkg.core_fpFlags]
  exact h

/-- What two packages with the same core store is the same. -/
theorem Pkg.stored_lsStore {k j : Pkg} {c : Nat} (hc : c < 64) (h : j.core c = k.core c) (m : Memory) (wr : List Nat) (fl : Nat) :
    k.Stored ((j.lsStore c m wr).fpFlags c fl) c (((k.lsStore c m wr).fpFlags c fl).core c).ls := by
  refine Pkg.Stored.fpFlags ⟨?_, ?_⟩ fl
  · rw [Pkg.core_fpFlags, (j.ls_lsStore hc m wr).1, (k.ls_lsStore hc m wr).1]
  · exact (j.ls_lsStore hc m wr).2.trans (congrArg Core.play h)

section
variable {k j : Pkg} {c : Nat} (hc : c < 64) (h : j.core c = k.core c)
include hc h

theorem Pkg.stored_gemmWrite (a b o : Tensor) (cin : Option Tensor) (m n kk : Nat) (sat : Bool) (blocks : Nat) :
    k.Stored (j.gemmWrite c a b o cin m n kk sat blocks) c ((k.gemmWrite c a b o cin m n kk sat blocks).core c).ls := by
  unfold Pkg.gemmWrite
  rw [h]
  dsimp only
  exact Pkg.stored_lsStore hc h _ _ _

theorem Pkg.stored_putLines (t : Tensor) (sat : Bool) (lines : List (List Nat × List Num)) :
    k.Stored (j.putLines c t sat lines) c ((k.putLines c t sat lines).core c).ls := by
  unfold Pkg.putLines
  rw [h]
  dsimp only
  exact Pkg.stored_lsStore hc h _ _ _

theorem Pkg.stored_putTensor (t : Tensor) (sat : Bool) (val : List Nat → Num × Nat) :
    k.Stored (j.putTensor c t sat val) c ((k.putTensor c t sat val).core c).ls := by
  unfold Pkg.putTensor
  dsimp only
  rw [Pkg.core_fpFlags]
  exact (Pkg.stored_putLines hc h t sat _).fpFlags _

theorem Pkg.stored_putRaw (t : Tensor) (val : List Nat → Nat) : k.Stored (j.putRaw c t val) c ((k.putRaw c t val).core c).ls := by
  unfold Pkg.putRaw
  dsimp only
  rw [h, (k.ls_lsStore hc _ _).1]
  exact ⟨(j.ls_lsStore hc _ _).1, (j.ls_lsStore hc _ _).2.trans (congrArg Core.play h)⟩

end

/-! ### Commands -/

theorem Pkg.cmd_eq (k : Pkg) (c num : Nat) : k.cmd c num = (k.play c).bind (fun pl => pl.cmds.find? (fun x => x.num == num)) := by
  unfold Pkg.cmd Pkg.play
  cases (k.core c).play <;> rfl

theorem Pkg.cmd_congr {k j : Pkg} {c : Nat} (h : j.play c = k.play c) (num : Nat) : j.cmd c num = k.cmd c num := by
  rw [Pkg.cmd_eq, Pkg.cmd_eq, h]

/-- A command whose number is looked for, after each command of that number has changed. -/
theorem find?_map_num (l : List Cmd) (num : Nat) (f : Cmd → Cmd) (hf : ∀ x, (f x).num = x.num) :
    (l.map (fun y => if y.num = num then f y else y)).find? (fun x => x.num == num) = (l.find? (fun x => x.num == num)).map f := by
  induction l with
  | nil => rfl
  | cons y l ih =>
    rw [List.map_cons]
    by_cases e : y.num = num
    · rw [if_pos e, List.find?_cons_of_pos (by simp [hf, e]), List.find?_cons_of_pos (by simp [e])]; rfl
    · rw [if_neg e, List.find?_cons_of_neg (by simp [e]), List.find?_cons_of_neg (by simp [e]), ih]

theorem Pkg.cmd_updCmd (k : Pkg) {c : Nat} (hc : c < 64) (num : Nat) {f : Cmd → Cmd} (hf : ∀ x, (f x).num = x.num) :
    (k.updCmd c num f).cmd c num = (k.cmd c num).map f := by
  rw [Pkg.cmd_eq, Pkg.cmd_eq]
  have play : (k.updCmd c num f).play c =
      (k.play c).map (fun pl => { pl with cmds := pl.cmds.map (fun y => if y.num = num then f y else y) }) := by
    unfold Pkg.updCmd Pkg.play
    rw [Pkg.core_updCore, if_pos ⟨rfl, hc⟩]
  rw [play]
  cases k.play c with
  | none => rfl
  | some pl => exact find?_map_num pl.cmds num f hf

theorem Pkg.ls_updCmd (k : Pkg) {c : Nat} (hc : c < 64) (num : Nat) (f : Cmd → Cmd) : ((k.updCmd c num f).core c).ls = (k.core c).ls := by
  unfold Pkg.updCmd
  rw [Pkg.core_updCore, if_pos ⟨rfl, hc⟩]

/-- A command after its engine has computed it. -/
def Cmd.ended (x : Cmd) (bad : Option Bad) : Cmd :=
  match bad with
  | some b => ({ x with phase := .done, released := true } : Cmd).fail b
  | none => { x with phase := .done, released := true }

theorem Cmd.ended_num (x : Cmd) (bad : Option Bad) : (x.ended bad).num = x.num := by
  cases bad with
  | none => rfl
  | some b => unfold Cmd.ended Cmd.fail; dsimp only; split <;> rfl

theorem Pkg.computed_eq (k : Pkg) (c : Nat) (x : Cmd) (bad : Option Bad) : k.computed c x bad = k.updCmd c x.num (fun y => y.ended bad) := rfl

/-- The status with which a computed command ends. -/
def endStatus (x : Cmd) (bad : Option Bad) : Status :=
  match bad with
  | some b => b.status
  | none => x.status

/-- A computed command has ended, and the local store is as its engine left it. -/
theorem Pkg.computed_ends {k j : Pkg} {c : Nat} (hc : c < 64) {x : Cmd} {m : Memory} (hstored : k.Stored j c m) (hx : k.cmd c x.num = some x)
    (hok : statusOk x.status = true) (bad : Option Bad) :
    ((j.computed c x bad).cmd c x.num).map (fun y => (y.status, y.phase)) = some (endStatus x bad, .done) ∧
      ((j.computed c x bad).core c).ls = m := by
  rw [Pkg.computed_eq, Pkg.cmd_updCmd j hc _ (fun y => y.ended_num bad), Pkg.cmd_congr hstored.2, hx, Pkg.ls_updCmd j hc]
  refine ⟨?_, hstored.1⟩
  cases bad with
  | none => rfl
  | some b =>
    have e : (x.ended (some b)) = { x with phase := .done, released := true, status := b.status, info := b.info } := if_pos hok
    change some ((x.ended (some b)).status, (x.ended (some b)).phase) = _
    rw [e]
    rfl

end Sys2Proof.Machine
end

section
/-! PROOFS. GEMM, VEC, TRANS and LAYOUT from a clean local store (R118, R150, R152, R220, R991). -/

namespace Sys2Proof.Machine

theorem Pkg.getF_fpFlags (k : Pkg) (c flags : Nat) {f : Fld} (h : f.off ≠ 0x1000028 + 0x40000 * c) : (k.fpFlags c flags).getF f = k.getF f := by
  have put (k : Pkg) (n : Nat) (g : Fld) (hg : g.off = 0x1000028 + 0x40000 * c) : (if bit flags n then k.raise g else k).getF f = k.getF f := by
    split
    · exact Pkg.getF_raise_apart k g f (Fld.apart_of_off (by omega))
    · rfl
  unfold Pkg.fpFlags
  dsimp only
  rw [put _ _ _ rfl, put _ _ _ rfl, put _ _ _ rfl, put _ _ _ rfl, put _ _ _ rfl]

theorem Pkg.getF_updCmd (k : Pkg) (c num : Nat) (g : Cmd → Cmd) (f : Fld) : (k.updCmd c num g).getF f = k.getF f := rfl

theorem Pkg.getF_lsStore (k : Pkg) (c : Nat) (m : Memory) (wr : List Nat) (f : Fld) : (k.lsStore c m wr).getF f = k.getF f := rfl

theorem Pkg.getF_gemmWrite (k : Pkg) (c : Nat) (a b o : Tensor) (cin : Option Tensor) (m n kk : Nat) (sat : Bool) (blocks : Nat) {f : Fld}
    (h : f.off ≠ 0x1000028 + 0x40000 * c) : (k.gemmWrite c a b o cin m n kk sat blocks).getF f = k.getF f := by
  unfold Pkg.gemmWrite
  dsimp only
  rw [Pkg.getF_fpFlags _ c _ h, Pkg.getF_lsStore]

/-- CIN of a GEMM. -/
def Pkg.gemmCin (k : Pkg) (c : Nat) (x : Cmd) : Option Tensor := if x.acc then some (k.operand c x 40) else none

/-- Every output block of a GEMM is written. -/
def Pkg.gemmDone (k : Pkg) (c : Nat) (x : Cmd) : Pkg :=
  k.gemmWrite c (k.operand c x 16) (k.operand c x 24) (k.operand c x 32) (k.gemmCin c x) (x.f 48 2) (x.f 50 2) (x.f 52 2) x.sat
    ((x.f 48 2 + 31) / 32 * ((x.f 50 2 + 31) / 32))

section
variable {k j : Pkg} {c : Nat} {x : Cmd}

theorem Pkg.gemm_of_good (hclean : k.lsClean c = true) (hcheck : k.gemmCheck c x = none) :
    ∃ steps, k.gemm c x none = ((k.gemmDone c x).addWrap (F.CORE_ME_STEPS c) steps, none) := by
  unfold Pkg.gemm
  rw [hcheck]
  dsimp only
  rw [Pkg.lsRead_of_clean hclean]
  exact ⟨_, rfl⟩

theorem Pkg.gemm_of_bad {st : Status} (hcheck : k.gemmCheck c x = some st) (fail : Option Nat) :
    k.gemm c x fail = (k, some { status := st }) := by
  unfold Pkg.gemm
  rw [hcheck]

theorem Pkg.stored_gemmDone (hc : c < 64) (h : j.core c = k.core c) :
    k.Stored (j.gemmDone c x) c ((k.gemmDone c x).core c).ls := by
  have cin : j.gemmCin c x = k.gemmCin c x := by unfold Pkg.gemmCin; rw [Pkg.operand_congr h]
  unfold Pkg.gemmDone
  rw [Pkg.operand_congr h, Pkg.operand_congr h, Pkg.operand_congr h, cin]
  exact Pkg.stored_gemmWrite hc h ..

/-- SELECT in one format copies the bits (R990). -/
def Pkg.selectBits (k : Pkg) (c : Nat) (x : Cmd) (a : List Nat) : Nat :=
  let m := (k.core c).ls
  let tx := k.operand c x 16
  let ty := k.operand c x 32
  let tw := k.operand c x 40
  if (tw.d.elem m tw.data (bcast tw.d a)).1.isZero then ty.d.elemBits m ty.data (bcast ty.d a) else tx.d.elemBits m tx.data (bcast tx.d a)

/-- X and Y of a SELECT have the format of Z. -/
def Pkg.selectsBits (k : Pkg) (c : Nat) (x : Cmd) : Prop :=
  x.f 48 2 = 9 ∧ (k.operand c x 16).d.format = (k.operand c x 24).d.format ∧ (k.operand c x 32).d.format = (k.operand c x 24).d.format ∧
    (k.operand c x 24).d.fmt.mx = false

theorem Pkg.selectsBits_congr (h : j.core c = k.core c) : j.selectsBits c x ↔ k.selectsBits c x := by
  unfold Pkg.selectsBits
  rw [Pkg.operand_congr h, Pkg.operand_congr h, Pkg.operand_congr h]

theorem Pkg.selectBits_congr (h : j.core c = k.core c) : j.selectBits c x = k.selectBits c x := by
  funext a
  unfold Pkg.selectBits
  rw [Pkg.operand_congr h, Pkg.operand_congr h, Pkg.operand_congr h, h]

theorem Pkg.vec_of_bad {st : Status} (hcheck : k.vecCheck c x = some st) : k.vec c x = (k, some { status := st }) := by
  unfold Pkg.vec
  rw [hcheck]

theorem Pkg.vec_of_values (hclean : k.lsClean c = true) (hcheck : k.vecCheck c x = none) (hop : ¬ k.selectsBits c x) :
    k.vec c x = (k.putTensor c (k.operand c x 24) x.sat (k.vecAt c x), none) := by
  unfold Pkg.vec
  rw [hcheck]
  dsimp only
  rw [Pkg.lsRead_of_clean hclean]
  exact if_neg hop

theorem Pkg.vec_of_bits (hclean : k.lsClean c = true) (hcheck : k.vecCheck c x = none) (hop : k.selectsBits c x) :
    k.vec c x = (k.putRaw c (k.operand c x 24) (k.selectBits c x), none) := by
  unfold Pkg.vec
  rw [hcheck]
  dsimp only
  rw [Pkg.lsRead_of_clean hclean]
  exact if_pos hop

/-- The value of Z in a TRANS (R118). -/
def Pkg.transAt (k : Pkg) (c : Nat) (x : Cmd) (a : List Nat) : Num × Nat :=
  let v := (k.operand c x 16).d.elem (k.core c).ls (k.operand c x 16).data (bcast (k.operand c x 16).d a)
  let w := mul32 v.1 (fp32.decode (x.f 36 4))
  let r := transc (x.f 32 1) w.1
  (r.1, v.2 ||| w.2 ||| r.2)

theorem Pkg.trans_of_good (hclean : k.lsClean c = true) (hcheck : k.transCheck c x = none) :
    k.trans c x = (k.putTensor c (k.operand c x 24) x.sat (k.transAt c x), none) := by
  unfold Pkg.trans
  rw [hcheck]
  dsimp only
  rw [Pkg.lsRead_of_clean hclean]
  rfl

theorem Pkg.trans_of_bad {st : Status} (hcheck : k.transCheck c x = some st) : k.trans c x = (k, some { status := st }) := by
  unfold Pkg.trans
  rw [hcheck]

/-- Every element of B has the bits of the element of A at its logical index (R220). -/
def Pkg.relaid (k : Pkg) (c : Nat) (x : Cmd) : Pkg :=
  k.putRaw c (k.operand c x 24) (fun i => (k.operand c x 16).d.elemBits (k.core c).ls (k.operand c x 16).data ((k.operand c x 16).d.storage i))

/-- The MX blocks of B: the index of each block's first element. -/
def Desc.heads (d : Desc) : List (List Nat) := d.allLines.flatMap (fun s => (List.range (d.e 0 / 32)).map (fun i => (32 * i) :: s.tail))

/-- And every MX scale byte that of A. -/
def Pkg.scalesMoved (k : Pkg) (c : Nat) (x : Cmd) : Memory :=
  (k.operand c x 24).d.heads.foldl (fun m i => Memory.write m ((k.operand c x 24).d.scaleAt (k.operand c x 24).data i)
    (Memory.read (k.core c).ls ((k.operand c x 16).d.scaleAt (k.operand c x 16).data i))) ((k.relaid c x).core c).ls

/-- The local store after a LAYOUT. -/
def Pkg.layoutMem (k : Pkg) (c : Nat) (x : Cmd) : Memory :=
  if (k.operand c x 16).d.fmt.mx then k.scalesMoved c x else ((k.relaid c x).core c).ls

theorem Pkg.layout_of_bad {st : Status} (hcheck : k.layoutCheck c x = some st) : k.layout c x = (k, some { status := st }) := by
  unfold Pkg.layout
  rw [hcheck]

theorem Pkg.layout_of_good (hc : c < 64) (hclean : k.lsClean c = true) (hcheck : k.layoutCheck c x = none) :
    ∃ j, k.layout c x = (j, none) ∧ k.Stored j c (k.layoutMem c x) := by
  have raw : k.Stored (k.relaid c x) c ((k.relaid c x).core c).ls := Pkg.stored_putRaw hc rfl ..
  unfold Pkg.layout
  rw [hcheck]
  dsimp only
  rw [Pkg.lsRead_of_clean hclean]
  dsimp only
  split
  case isTrue mx =>
    refine ⟨_, rfl, ?_, ?_⟩
    · exact (Pkg.ls_lsStore (k.relaid c x) hc _ _).1.trans (if_pos mx).symm
    · exact (Pkg.ls_lsStore (k.relaid c x) hc _ _).2.trans raw.2
  case isFalse plain =>
    refine ⟨_, rfl, ?_, raw.2⟩
    exact (if_neg plain).symm

end

section
variable {s : State} {p : PkgId} {core : CoreId} {t₀ : Nat} {x : Cmd}

/-- A command has ended, with a local store. -/
def State.endedWith (t : State) (p : PkgId) (core : CoreId) (x : Cmd) (st : Status) (m : Memory) : Prop :=
  ((t.pkg p).cmd core x.num).map (fun y => (y.status, y.phase)) = some (st, .done) ∧ ((t.pkg p).core core).ls = m

/-- An engine runs its started command. -/
theorem Pkg.onStarted_of_started {k : Pkg} {c op : Nat} (h : k.started c op = some x) (act : Pkg → Cmd → Pkg) : k.onStarted c op act = act k x := by
  unfold Pkg.onStarted; rw [h]

/-- An engine that computes its command and no more ends it. -/
theorem endedWith_of_computed {t : State} {k j : Pkg} {m : Memory} (hk : k.cmd core x.num = some x) (hok : statusOk x.status = true)
    (hstored : k.Stored j core m) (bad : Option Bad) (ht : t.pkg p = j.computed core x bad) :
    t.endedWith p core x (endStatus x bad) m := by
  rw [State.endedWith, ht]
  exact Pkg.computed_ends core.isLt hstored hk hok bad

theorem Pkg.conflicts_core (k : Pkg) (c n : Nat) : (k.conflicts c n).core c = k.core c := rfl

theorem Pkg.stored_conflicts (k : Pkg) (c n : Nat) : k.Stored (k.conflicts c n) c (k.core c).ls := ⟨rfl, rfl⟩

variable (hok : statusOk x.status = true) (hx : ((s.pkg p).at t₀).cmd core x.num = some x) (hclean : ((s.pkg p).at t₀).lsClean core = true)
include hok hx

theorem gemm_bad_completes (conflicts : Nat) {st : Status} (hstart : ((s.pkg p).at t₀).started core 0x01 = some x)
    (hcheck : ((s.pkg p).at t₀).gemmCheck core x = some st) (hres : st ≠ 0x5102) :
    Completes (.gemm p core conflicts none t₀) s (fun t => t.endedWith p core x st (((s.pkg p).at t₀).core core).ls) :=
  completes_of_updPkg rfl fun t ht => by
    have act := ht.trans (Pkg.onStarted_of_started hstart _)
    dsimp only at act
    rw [Pkg.gemm_of_bad ((Pkg.gemmCheck_congr (Pkg.conflicts_core _ core conflicts) x).trans hcheck)] at act
    exact endedWith_of_computed hx hok (Pkg.stored_conflicts _ core conflicts) _ (act.trans (if_neg hres))

include hclean

theorem gemm_completes (conflicts : Nat) (hstart : ((s.pkg p).at t₀).started core 0x01 = some x) (htile : x.isTile = false)
    (hcheck : ((s.pkg p).at t₀).gemmCheck core x = none) :
    Completes (.gemm p core conflicts none t₀) s (fun t =>
      t.endedWith p core x x.status ((((s.pkg p).at t₀).gemmDone core x).core core).ls ∧
      (t.pkg p).getF (F.CORE_LS_CONFLICTS core) = (((s.pkg p).at t₀).getF (F.CORE_LS_CONFLICTS core) + conflicts) % 2 ^ 64) :=
  completes_of_updPkg rfl fun t ht => by
    have same := Pkg.conflicts_core ((s.pkg p).at t₀) core conflicts
    obtain ⟨steps, hgemm⟩ := Pkg.gemm_of_good ((Pkg.lsClean_congr same).trans hclean) ((Pkg.gemmCheck_congr same x).trans hcheck)
    have act := ht.trans (Pkg.onStarted_of_started hstart _)
    dsimp only at act
    rw [hgemm] at act
    dsimp only at act
    rw [if_neg (by simp [htile])] at act
    refine ⟨endedWith_of_computed hx hok ((Pkg.stored_gemmDone core.isLt same).setF _ _) none act, ?_⟩
    rw [act, Pkg.computed_eq, Pkg.getF_updCmd,
      Pkg.getF_addWrap_apart _ _ _ _ (Fld.apart_of_off (by simp only [F.CORE_ME_STEPS, F.CORE_LS_CONFLICTS]; omega)), Pkg.gemmDone,
      Pkg.getF_gemmWrite _ _ _ _ _ _ _ _ _ _ _ (by simp only [F.CORE_LS_CONFLICTS]; omega), Pkg.conflicts, Pkg.getF_addWrap_same _ _ _ rfl]
    rfl

theorem vec_values_completes (conflicts : Nat) (hstart : ((s.pkg p).at t₀).started core 0x10 = some x)
    (hcheck : ((s.pkg p).at t₀).vecCheck core x = none) (hop : x.f 48 2 ≠ 9) :
    Completes (.vec p core conflicts t₀) s (fun t => t.endedWith p core x x.status
      ((((s.pkg p).at t₀).putTensor core (((s.pkg p).at t₀).operand core x 24) x.sat (((s.pkg p).at t₀).vecAt core x)).core core).ls) :=
  completes_of_updPkg rfl fun t ht => by
    have same := Pkg.conflicts_core ((s.pkg p).at t₀) core conflicts
    have act := ht.trans (Pkg.onStarted_of_started hstart _)
    dsimp only at act
    rw [Pkg.vec_of_values ((Pkg.lsClean_congr same).trans hclean) ((Pkg.vecCheck_congr same x).trans hcheck) (fun h => hop h.1),
      Pkg.operand_congr same, Pkg.vecAt_congr same] at act
    exact endedWith_of_computed hx hok (Pkg.stored_putTensor core.isLt same ..) none act

theorem vec_bits_completes (conflicts : Nat) (hstart : ((s.pkg p).at t₀).started core 0x10 = some x)
    (hcheck : ((s.pkg p).at t₀).vecCheck core x = none) (hop : ((s.pkg p).at t₀).selectsBits core x) :
    Completes (.vec p core conflicts t₀) s (fun t => t.endedWith p core x x.status
      ((((s.pkg p).at t₀).putRaw core (((s.pkg p).at t₀).operand core x 24) (((s.pkg p).at t₀).selectBits core x)).core core).ls) :=
  completes_of_updPkg rfl fun t ht => by
    have same := Pkg.conflicts_core ((s.pkg p).at t₀) core conflicts
    have act := ht.trans (Pkg.onStarted_of_started hstart _)
    dsimp only at act
    rw [Pkg.vec_of_bits ((Pkg.lsClean_congr same).trans hclean) ((Pkg.vecCheck_congr same x).trans hcheck)
      ((Pkg.selectsBits_congr same).mpr hop), Pkg.operand_congr same, Pkg.selectBits_congr same] at act
    exact endedWith_of_computed hx hok (Pkg.stored_putRaw core.isLt same ..) none act

theorem trans_completes (hstart : ((s.pkg p).at t₀).started core 0x11 = some x) (hcheck : ((s.pkg p).at t₀).transCheck core x = none) :
    Completes (.trans p core t₀) s (fun t => t.endedWith p core x x.status
      ((((s.pkg p).at t₀).putTensor core (((s.pkg p).at t₀).operand core x 24) x.sat (((s.pkg p).at t₀).transAt core x)).core core).ls) :=
  completes_of_updPkg rfl fun t ht => by
    have act := ht.trans (Pkg.onStarted_of_started hstart _)
    dsimp only at act
    rw [Pkg.trans_of_good hclean hcheck] at act
    exact endedWith_of_computed hx hok (Pkg.stored_putTensor core.isLt rfl ..) none act

theorem layout_completes (hstart : ((s.pkg p).at t₀).started core 0x20 = some x) (hcheck : ((s.pkg p).at t₀).layoutCheck core x = none) :
    Completes (.layout p core t₀) s (fun t => t.endedWith p core x x.status (((s.pkg p).at t₀).layoutMem core x)) :=
  completes_of_updPkg rfl fun t ht => by
    obtain ⟨j, hj, hstored⟩ := Pkg.layout_of_good core.isLt hclean hcheck
    have act := ht.trans (Pkg.onStarted_of_started hstart _)
    dsimp only at act
    rw [hj] at act
    exact endedWith_of_computed hx hok hstored none act

omit hclean

theorem vec_bad_completes (conflicts : Nat) {st : Status} (hstart : ((s.pkg p).at t₀).started core 0x10 = some x)
    (hcheck : ((s.pkg p).at t₀).vecCheck core x = some st) :
    Completes (.vec p core conflicts t₀) s (fun t => t.endedWith p core x st (((s.pkg p).at t₀).core core).ls) :=
  completes_of_updPkg rfl fun t ht => by
    have act := ht.trans (Pkg.onStarted_of_started hstart _)
    dsimp only at act
    rw [Pkg.vec_of_bad ((Pkg.vecCheck_congr (Pkg.conflicts_core _ core conflicts) x).trans hcheck)] at act
    exact endedWith_of_computed hx hok (Pkg.stored_conflicts _ core conflicts) _ act

theorem trans_bad_completes {st : Status} (hstart : ((s.pkg p).at t₀).started core 0x11 = some x)
    (hcheck : ((s.pkg p).at t₀).transCheck core x = some st) :
    Completes (.trans p core t₀) s (fun t => t.endedWith p core x st (((s.pkg p).at t₀).core core).ls) :=
  completes_of_updPkg rfl fun t ht => by
    have act := ht.trans (Pkg.onStarted_of_started hstart _)
    dsimp only at act
    rw [Pkg.trans_of_bad hcheck] at act
    exact endedWith_of_computed hx hok (k := (s.pkg p).at t₀) ⟨rfl, rfl⟩ _ act

theorem layout_bad_completes {st : Status} (hstart : ((s.pkg p).at t₀).started core 0x20 = some x)
    (hcheck : ((s.pkg p).at t₀).layoutCheck core x = some st) :
    Completes (.layout p core t₀) s (fun t => t.endedWith p core x st (((s.pkg p).at t₀).core core).ls) :=
  completes_of_updPkg rfl fun t ht => by
    have act := ht.trans (Pkg.onStarted_of_started hstart _)
    dsimp only at act
    rw [Pkg.layout_of_bad hcheck] at act
    exact endedWith_of_computed hx hok (k := (s.pkg p).at t₀) ⟨rfl, rfl⟩ _ act

end

/-- Settles O24: each engine by what its command gives from a clean store, and by its first failing check. -/
theorem enginesCompute : Obligations.EnginesCompute := by
  unfold Obligations.EnginesCompute
  intro s p core t₀ x k ended store hok hx hclean
  refine ⟨fun n hs htile hc => ?_, fun n st hs hc _ hres => ?_, fun n hs hc hop => ?_, fun n hs hc hop hX hY hZ => ?_,
    fun n st hs hc _ => ?_, fun hs hc => ?_, fun st hs hc _ => ?_, fun hs hc => ?_, fun st hs hc _ => ?_⟩
  · exact (gemm_completes hok hx hclean n hs htile hc).mono fun t h => ⟨h.1.1, h.1.2, h.2⟩
  · exact gemm_bad_completes hok hx n hs hc hres
  · exact vec_values_completes hok hx hclean n hs hc hop
  · exact vec_bits_completes hok hx hclean n hs hc ⟨hop, hX, hY, hZ⟩
  · exact vec_bad_completes hok hx n hs hc
  · exact trans_completes hok hx hclean hs hc
  · exact trans_bad_completes hok hx hs hc
  · exact layout_completes hok hx hclean hs hc
  · exact layout_bad_completes hok hx hs hc

end Sys2Proof.Machine
end

section
/-! PROOFS. Commands start and retire (R171–R181, R313, R330, R342). -/

namespace Sys2Proof.Machine

/-! ### Sets and tokens -/

section
variable {k j : Pkg} {c : Nat} (h : j.core c = k.core c)
include h

theorem Pkg.descAt_congr (off : Nat) : j.descAt c off = k.descAt c off := by unfold Pkg.descAt; rw [h]

theorem Pkg.laneHeader_congr (x : Cmd) : j.laneHeader c x = k.laneHeader c x := by unfold Pkg.laneHeader; rw [h]

theorem Pkg.headerCheck_congr (x : Cmd) : j.headerCheck c x = k.headerCheck c x := by unfold Pkg.headerCheck; rw [h]

theorem Pkg.lanesNeeded_congr (x : Cmd) : j.lanesNeeded c x = k.lanesNeeded c x := by
  unfold Pkg.lanesNeeded; rw [Pkg.headerCheck_congr h, Pkg.laneHeader_congr h]

theorem Pkg.fullSets_congr : Pkg.fullSets c j = Pkg.fullSets c k := by
  have entry (x : Cmd) : j.groupEntry c x = k.groupEntry c x := by
    funext i; unfold Pkg.groupEntry; simp only [h, Pkg.descAt_congr h]
  have group (x : Cmd) : j.groupSets c x = k.groupSets c x := by
    unfold Pkg.groupSets Pkg.groupEntries; simp only [entry]
  have attn (x : Cmd) : j.attnSets c x = k.attnSets c x := by
    unfold Pkg.attnSets; simp only [Pkg.operand_congr h, Pkg.laneHeader_congr h, Pkg.headerCheck_congr h]
  have base (x : Cmd) : j.baseSets c x = k.baseSets c x := by
    unfold Pkg.baseSets Pkg.blockDescs; simp only [Pkg.operand_congr h, Pkg.descAt_congr h]
  funext x
  unfold Pkg.fullSets
  rw [group, attn, base]

end

/-- The tokens' registers of a core. -/
theorem Pkg.waitToken_congr {k j : Pkg} {c : Nat} (h : ∀ f : Fld, 0x1001000 + 0x40000 * c ≤ f.off → j.getF f = k.getF f) (b : Bytes) :
    j.waitToken c b = k.waitToken c b := by
  unfold Pkg.waitToken Pkg.flag
  dsimp only
  rw [h (F.CORE_TOK_PENDING c (fieldAt b 4 2 % 4096)) (by simp only [F.CORE_TOK_PENDING]; omega),
    h (F.CORE_TOK_CODE c (fieldAt b 4 2 % 4096)) (by simp only [F.CORE_TOK_CODE]; omega)]

/-! ### Start (R173–R181, R313, R330) -/

/-- The read and write sets that stand for a command: its own once it has started. -/
def Pkg.currentSets (k : Pkg) (c : Nat) (y : Cmd) : List (Nat × Nat) × List (Nat × Nat) :=
  if y.phase = .queued then Pkg.fullSets c k y else (y.reads, y.writes)

/-- A command that runs, with its sets. -/
def Pkg.runCmd (k : Pkg) (c : Nat) (x : Cmd) : Pkg :=
  (k.updCmd c x.num (fun y => { y with phase := .running, reads := (Pkg.fullSets c k x).1, writes := (Pkg.fullSets c k x).2 })).showSeq c

theorem Pkg.startCmd_of_free {k : Pkg} {c q : Nat} {pl : Play} {x : Cmd} (hpl : k.play c = some pl) (hhead : pl.queueHead q = some x)
    (hfree : pl.engineBusy q (x.op == 0x03) = false) (htoken : k.waitToken c x.bytes = some 0)
    (hhazard : hazard pl x.num (Pkg.fullSets c k x).1 (Pkg.fullSets c k x).2 (k.currentSets c) = false) :
    k.startCmd c q (Pkg.fullSets c) = k.runCmd c x := by
  unfold Pkg.startCmd
  rw [hpl]
  dsimp only
  rw [hhead]
  dsimp only
  rw [hfree, htoken]
  change (if hazard pl x.num (Pkg.fullSets c k x).1 (Pkg.fullSets c k x).2 (k.currentSets c) = true then k else k.runCmd c x) = _
  rw [hhazard]
  rfl

theorem Pkg.cmd_showSeq (k : Pkg) (c c' num : Nat) : (k.showSeq c').cmd c num = k.cmd c num :=
  Pkg.cmd_congr (Pkg.play_congr (k.showSeq_cores c') c) num

theorem Pkg.cmd_runCmd {k : Pkg} {c : Nat} (hc : c < 64) {x : Cmd} (hx : k.cmd c x.num = some x) :
    (k.runCmd c x).cmd c x.num = some { x with phase := .running, reads := (Pkg.fullSets c k x).1, writes := (Pkg.fullSets c k x).2 } := by
  rw [Pkg.runCmd, Pkg.cmd_showSeq, Pkg.cmd_updCmd _ hc, hx]
  · rfl
  · exact fun _ => rfl

/-- A command whose number another change names. -/
theorem find?_map_other (l : List Cmd) {num n : Nat} (h : n ≠ num) (f : Cmd → Cmd) (hf : ∀ x, (f x).num = x.num) :
    (l.map (fun y => if y.num = num then f y else y)).find? (fun x => x.num == n) = l.find? (fun x => x.num == n) := by
  induction l with
  | nil => rfl
  | cons y l ih =>
    have same : (if y.num = num then f y else y).num = y.num := by split <;> simp [hf]
    rw [List.map_cons]
    by_cases e : y.num = n
    · rw [if_neg (fun e' => h (e.symm.trans e')), List.find?_cons, List.find?_cons, beq_iff_eq.mpr e]
    · simp only [List.find?_cons, same, beq_eq_false_iff_ne.mpr e, ih]

theorem Pkg.cmd_updCmd_other (k : Pkg) {c : Nat} (hc : c < 64) {num n : Nat} (h : n ≠ num) {f : Cmd → Cmd} (hf : ∀ x, (f x).num = x.num) :
    (k.updCmd c num f).cmd c n = k.cmd c n := by
  rw [Pkg.cmd_eq, Pkg.cmd_eq]
  have play : (k.updCmd c num f).play c =
      (k.play c).map (fun pl => { pl with cmds := pl.cmds.map (fun y => if y.num = num then f y else y) }) := by
    unfold Pkg.updCmd Pkg.play
    rw [Pkg.core_updCore, if_pos ⟨rfl, hc⟩]
  rw [play]
  cases k.play c with
  | none => rfl
  | some pl => exact find?_map_other pl.cmds h f hf

/-- A view of a command that a change of commands leaves alone. -/
theorem Pkg.cmd_updCmd_view {α : Type} {v : Cmd → α} (k : Pkg) {c : Nat} (hc : c < 64) (num n : Nat) {f : Cmd → Cmd}
    (hf : ∀ x, (f x).num = x.num) (hv : ∀ x, v (f x) = v x) : ((k.updCmd c num f).cmd c n).map v = (k.cmd c n).map v := by
  by_cases e : n = num
  · subst e
    rw [Pkg.cmd_updCmd k hc n hf]
    cases k.cmd c n with
    | none => rfl
    | some x => exact congrArg some (hv x)
  · rw [Pkg.cmd_updCmd_other k hc e hf]

theorem Pkg.takeBiases_phase (k : Pkg) {c : Nat} (hc : c < 64) (n : Nat) : ((k.takeBiases c).cmd c n).map Cmd.phase = (k.cmd c n).map Cmd.phase := by
  unfold Pkg.takeBiases
  split
  · split
    · refine Pkg.cmd_updCmd_view k hc _ n (fun _ => ?_) (fun _ => ?_) <;> rfl
    · rfl
  · rfl

theorem Pkg.getF_takeBiases (k : Pkg) (c : Nat) (f : Fld) : (k.takeBiases c).getF f = k.getF f := by
  unfold Pkg.takeBiases
  split
  · split <;> rfl
  · rfl

theorem Pkg.commandStart_of_free {k : Pkg} {c q : Nat} (hc : c < 64) {pl : Play} {x : Cmd} (hpl : k.play c = some pl)
    (hhead : pl.queueHead q = some x) (hfree : pl.engineBusy q (x.op == 0x03) = false) (htoken : k.waitToken c x.bytes = some 0)
    (hhazard : hazard pl x.num (Pkg.fullSets c k x).1 (Pkg.fullSets c k x).2 (k.currentSets c) = false) (hx : k.cmd c x.num = some x) :
    k.commandStart c q = if 0 < k.lanesNeeded c x then
        if 4096 < k.lanesHeld (c / 16) + k.lanesNeeded c x then k
        else (k.runCmd c x).updCmd c x.num (fun y => { y with laneSlots := k.lanesNeeded c x })
      else (k.runCmd c x).takeBiases c := by
  unfold Pkg.commandStart
  rw [Pkg.startCmd_of_free hpl hhead hfree htoken hhazard, hpl]
  dsimp only [Option.bind_some]
  rw [hhead]
  dsimp only
  rw [Pkg.cmd_runCmd hc hx]
  by_cases need : 0 < k.lanesNeeded c x
  · rw [if_pos need]; simp [need]
  · rw [if_neg need]; simp [need]

section
variable {s : State} {p : PkgId} {core : CoreId} {t₀ : Nat} {pl : Play} {x : Cmd} (hpl : ((s.pkg p).at t₀).play core = some pl)
include hpl

theorem commandStart_completes (q : Fin 3) (stalls : Nat) (hhead : pl.queueHead q = some x) (hfree : pl.engineBusy q (x.op == 0x03) = false)
    (htoken : ((s.pkg p).at t₀).waitToken core x.bytes = some 0)
    (hhazard : hazard pl x.num (Pkg.fullSets core ((s.pkg p).at t₀) x).1 (Pkg.fullSets core ((s.pkg p).at t₀) x).2
      (((s.pkg p).at t₀).currentSets core) = false)
    (hneed : ((s.pkg p).at t₀).lanesNeeded core x = 0) (hx : ((s.pkg p).at t₀).cmd core x.num = some x) :
    Completes (.commandStart p core q stalls t₀) s (fun t =>
      ((t.pkg p).cmd core x.num).map Cmd.phase = some .running ∧
      (t.pkg p).getF (F.CORE_HAZ_STALLS core) = (((s.pkg p).at t₀).getF (F.CORE_HAZ_STALLS core) + stalls) % 2 ^ 64) :=
  completes_of_updPkg (f := fun k => ((k.at t₀).addWrap (F.CORE_HAZ_STALLS core) stalls).commandStart core q) rfl fun t ht => by
    generalize hj : ((s.pkg p).at t₀).addWrap (F.CORE_HAZ_STALLS core) stalls = j at ht
    have same : j.core core = ((s.pkg p).at t₀).core core := hj ▸ rfl
    have token : j.waitToken core x.bytes = some 0 := by
      refine (Pkg.waitToken_congr (fun f hf => ?_) _).trans htoken
      rw [← hj, Pkg.getF_addWrap_apart _ _ f _ (Fld.apart_of_off (by simp only [F.CORE_HAZ_STALLS]; omega))]
    have sets : j.currentSets core = ((s.pkg p).at t₀).currentSets core := by
      unfold Pkg.currentSets; rw [Pkg.fullSets_congr same]
    have hx' : j.cmd core x.num = some x := (Pkg.cmd_congr (congrArg Core.play same) _).trans hx
    have start := Pkg.commandStart_of_free core.isLt ((congrArg Core.play same).trans hpl) hhead hfree token
      (by rw [Pkg.fullSets_congr same, sets]; exact hhazard) hx'
    rw [Pkg.lanesNeeded_congr same, hneed, if_neg (by decide)] at start
    rw [ht, start]
    constructor
    · rw [Pkg.takeBiases_phase _ core.isLt, Pkg.cmd_runCmd core.isLt hx']; rfl
    · have free : (F.CORE_HAZ_STALLS core).showFree core := by
        constructor <;> exact Fld.apart_of_off (by
          simp only [F.CORE_HAZ_STALLS, F.CORE_SEQ_RUN, F.CORE_SEQ_LOOPS, F.CORE_SEQ_OLDEST, F.CORE_MOV_NOW, F.CORE_MOV_PEAK,
            F.CORE_SEQ_SHOT_NOW]; omega)
      rw [Pkg.getF_takeBiases, Pkg.runCmd, Pkg.getF_showSeq _ free, Pkg.getF_updCmd, ← hj, Pkg.getF_addWrap_same _ _ _ rfl]
      rfl

/-- LANE_SLOTS_GRANTED as the package's own step. -/
def Pkg.laneSlotsGranted (k : Pkg) (c : Nat) : Pkg :=
  match (k.play c).bind (fun pl => pl.queueHead 0) with
  | some x => if x.op = 0x03 ∧ x.batch = true then k.commandStart c 0 else k
  | none => k

omit hpl in
theorem exec_laneSlotsGranted (s : State) (p : PkgId) (core : CoreId) (t₀ : Nat) :
    exec (.laneSlotsGranted p core t₀) s = .next (s.updPkg p (fun k => (k.at t₀).laneSlotsGranted core)) := rfl

theorem laneSlotsGranted_completes (hhead : pl.queueHead 0 = some x) (hop : x.op = 0x03) (hbatch : x.batch = true)
    (hfree : pl.engineBusy 0 true = false) (htoken : ((s.pkg p).at t₀).waitToken core x.bytes = some 0)
    (hhazard : hazard pl x.num (Pkg.fullSets core ((s.pkg p).at t₀) x).1 (Pkg.fullSets core ((s.pkg p).at t₀) x).2
      (((s.pkg p).at t₀).currentSets core) = false)
    (hx : ((s.pkg p).at t₀).cmd core x.num = some x) (hneed : 0 < ((s.pkg p).at t₀).lanesNeeded core x)
    (hroom : ((s.pkg p).at t₀).lanesHeld (core / 16) + ((s.pkg p).at t₀).lanesNeeded core x ≤ 4096) :
    Completes (.laneSlotsGranted p core t₀) s (fun t =>
      ((t.pkg p).cmd core x.num).map (fun y => (y.phase, y.laneSlots)) = some (.running, ((s.pkg p).at t₀).lanesNeeded core x)) :=
  completes_of_updPkg (exec_laneSlotsGranted s p core t₀) fun t ht => by
    have start := Pkg.commandStart_of_free core.isLt hpl hhead (by rw [hop]; exact hfree) htoken hhazard hx
    have act : ((s.pkg p).at t₀).laneSlotsGranted core = ((s.pkg p).at t₀).commandStart core 0 := by
      unfold Pkg.laneSlotsGranted
      rw [hpl]
      dsimp only [Option.bind_some]
      rw [hhead]
      exact if_pos ⟨hop, hbatch⟩
    rw [ht, act, start, if_pos hneed, if_neg (Nat.not_lt.mpr hroom), Pkg.cmd_updCmd _ core.isLt, Pkg.cmd_runCmd core.isLt hx]
    · rfl
    · exact fun _ => rfl

end

/-! ### Retirement (R172, R177, R342) -/

theorem Pkg.settleCmds_of_none {k : Pkg} (h : k.fab.done = []) : k.settleCmds = k := by
  unfold Pkg.settleCmds
  rw [h]
  change { k with fab := { k.fab with done := [] } } = k
  rw [← h]

/-- A command alone in its play whose whole effect has happened. -/
structure Pkg.AloneDone (k : Pkg) (c : Nat) (pl : Play) (x : Cmd) : Prop where
  play : k.play c = some pl
  cmds : pl.cmds = [x]
  unfetched : pl.buf = []
  block : pl.block = none
  queue : x.queue ≠ 3
  phase : x.phase = .done
  waiting : x.waiting = 0
  fetches : x.fetches = []
  later : x.later = []
  tile : x.isTile = false
  settled : k.fab.done = []

section
variable {k : Pkg} {c : Nat} {pl : Play} {x : Cmd} (h : k.AloneDone c pl x)
include h

theorem Pkg.AloneDone.cmd : k.cmd c x.num = some x := by
  rw [Pkg.cmd_eq, h.play, Option.bind_some, h.cmds]
  exact List.find?_cons_of_pos (beq_iff_eq.mpr rfl)

theorem Pkg.AloneDone.commandRetire : k.commandRetire c x.num = (k.retire c x x.status x.info).seqGo c := by
  unfold Pkg.commandRetire Pkg.retireDone
  rw [Pkg.settleCmds_of_none h.settled, h.cmd]
  simp [h.queue, h.phase, h.waiting, h.fetches, h.later, h.tile]

/-- The play after the command has retired, before its posts and the next issue. -/
theorem Pkg.AloneDone.play_retire (hc : c < 64) : ∃ pl', (k.retire c x x.status x.info).play c = some pl' ∧ pl'.cmds = [] ∧ pl'.buf = [] ∧
    pl'.block = none := by
  obtain ⟨stop, hplay, -⟩ := k.play_retire hc x x.status x.info
  refine ⟨_, hplay.trans (congrArg (Option.map _) h.play), ?_, h.unfetched, h.block⟩
  simp [Play.retired, h.cmds]

theorem Pkg.AloneDone.play_commandRetire (hc : c < 64) : ((k.commandRetire c x.num).play c).map Play.cmds = some [] := by
  obtain ⟨pl', hplay, hcmds, hbuf, hblock⟩ := h.play_retire hc
  obtain ⟨stop, he⟩ := Pkg.play_seqGo_of_unfetched hc hplay hblock hbuf
  rw [h.commandRetire, he]
  exact congrArg some hcmds

theorem Pkg.AloneDone.getF_commandRetire (hc : c < 64) {f : Fld} (hs : f.showFree c) (hl : f.latchFree c) (ho : 0x1000000 ≤ f.off) :
    (k.commandRetire c x.num).getF f = (k.retire c x x.status x.info).getF f := by
  obtain ⟨pl', hplay, -, hbuf, hblock⟩ := h.play_retire hc
  rw [h.commandRetire, Pkg.getF_seqGo_of_unfetched hc hplay hblock hbuf hs hl ho]

theorem Pkg.AloneDone.commandRetire_frame (hc : c < 64) : GoOnly k (k.commandRetire c x.num) := by
  rw [h.commandRetire]
  exact (GoOnly.ofSeq (k.retire_frame hc _ _ _)).trans (Pkg.seqGo_frame _ hc)

theorem Pkg.AloneDone.retireRow (hc : c < 64) : k.retireRow c x.num = if x.op = 0x12 ∧ x.status = 0 then
      (((k.commandRetire c x.num).addLoads (k.coreSlot c) (x.f 50 2 % 256) x.routed).addSat (F.MOE_STATS (k.coreSlot c) 2) x.overflow).stepRoute
        (k.coreSlot c) (x.f 50 2 % 256) x.routed
    else k.commandRetire c x.num := by
  have gone : (k.commandRetire c x.num).cmd c x.num = none := by
    have play := h.play_commandRetire hc
    rw [Pkg.cmd_eq]
    cases e : (k.commandRetire c x.num).play c with
    | none => rfl
    | some pl' =>
      rw [e] at play
      rw [Option.bind_some, Option.some.inj play]
      rfl
  unfold Pkg.retireRow
  rw [Pkg.settleCmds_of_none h.settled, h.cmd]
  dsimp only
  rw [gone]

end

/-- The token's registers lie behind those the sequencer shows. -/
theorem Fld.showFree_of_token {c : Nat} {f : Fld} (h : 0x1001000 + 0x40000 * c ≤ f.off) : f.showFree c := by
  constructor <;> exact Fld.apart_of_off (by
    simp only [F.CORE_SEQ_RUN, F.CORE_SEQ_LOOPS, F.CORE_SEQ_OLDEST, F.CORE_MOV_NOW, F.CORE_MOV_PEAK, F.CORE_SEQ_SHOT_NOW]; omega)

theorem Fld.latchFree_of_token {c : Nat} {f : Fld} (h : 0x1001000 + 0x40000 * c ≤ f.off) (hf : f.off < 0x3000000) : f.latchFree c := by
  constructor
  case off => exact hf
  all_goals exact Fld.apart_of_off (by
    simp only [F.CORE_LAST_STATUS, F.CORE_SEQ_ERR_WORD, F.CORE_SEQ_ERR_STATUS, F.CORE_SEQ_ERR_INFO, F.CORE_SEQ_ERR_VALID]; omega)

/-- What a retirement leaves in the registers of the tokens is what completing its token leaves. -/
theorem Pkg.getF_retire_token (k : Pkg) (c : Nat) (x : Cmd) (st : Status) (info : Nat) {f : Fld}
    (h : 0x1001000 + 0x40000 * c ≤ f.off) (hf : f.off < 0x3000000) : (k.retire c x st info).getF f = (k.completeToken c x st).getF f := by
  have counted : ((k.completeToken c x st).addWrap (F.CORE_SEQ_RETIRED c) 1).getF f = (k.completeToken c x st).getF f :=
    Pkg.getF_addWrap_apart _ _ f _ (Fld.apart_of_off (by simp only [F.CORE_SEQ_RETIRED]; omega))
  rw [Pkg.retire_eq, Pkg.getF_showSeq _ (Fld.showFree_of_token h), Pkg.getF_updPlay]
  unfold Pkg.retireMarks
  dsimp only
  split
  · exact counted
  · rw [Pkg.getF_latch _ (Fld.latchFree_of_token h hf), counted]

theorem Pkg.completeToken_shows (k : Pkg) (c : Nat) {x : Cmd} (st : Status) (h : x.flag 0 = true) :
    (k.completeToken c x st).getF (F.CORE_TOK_PENDING c (x.f 2 2 % 4096)) = 0 ∧
      (k.completeToken c x st).getF (F.CORE_TOK_CODE c (x.f 2 2 % 4096)) = st % 2 ^ 16 := by
  have done : k.completeToken c x st =
      (k.setF (F.CORE_TOK_PENDING c (x.f 2 2 % 4096)) 0).setF (F.CORE_TOK_CODE c (x.f 2 2 % 4096)) st := if_pos h
  rw [done]
  constructor
  · rw [Pkg.getF_setF_apart _ _ _ _ (by simp [Fld.apart, F.CORE_TOK_PENDING, F.CORE_TOK_CODE]), Pkg.getF_setF_same _ _ _ rfl]
    exact Nat.zero_mod _
  · exact Pkg.getF_setF_same _ _ _ rfl

section
variable {s : State} {p : PkgId} {core : CoreId} {t₀ : Nat} {pl : Play} {x : Cmd} (h : ((s.pkg p).at t₀).AloneDone core pl x)
include h

theorem commandRetire_completes (hop : x.op ≠ 0x12) :
    Completes (.commandRetire p core x.num t₀) s (fun t => ((t.pkg p).play core).map Play.cmds = some [] ∧
      (t.pkg p).getF (F.CORE_SEQ_RETIRED core) = (((s.pkg p).at t₀).getF (F.CORE_SEQ_RETIRED core) + 1) % 2 ^ 64 ∧
      (x.flag 0 = true → (t.pkg p).getF (F.CORE_TOK_PENDING core (x.f 2 2 % 4096)) = 0 ∧
        (t.pkg p).getF (F.CORE_TOK_CODE core (x.f 2 2 % 4096)) = x.status % 2 ^ 16)) :=
  completes_of_updPkg (f := fun k => (k.at t₀).retireRow core x.num) rfl fun t ht => by
    rw [ht, h.retireRow core.isLt, if_neg (fun e => hop e.1)]
    refine ⟨h.play_commandRetire core.isLt, ?_, fun token => ?_⟩
    · rw [h.getF_commandRetire core.isLt (Fld.showFree_retired core) (Fld.latchFree_retired core.isLt) (by simp only [F.CORE_SEQ_RETIRED]; omega),
        Pkg.getF_retire_retired _ core.isLt]
    · have shown (f : Fld) (lo : 0x1001000 + 0x40000 * core ≤ f.off) (hi : f.off < 0x3000000) :
          (((s.pkg p).at t₀).commandRetire core x.num).getF f = (((s.pkg p).at t₀).completeToken core x x.status).getF f := by
        rw [h.getF_commandRetire core.isLt (Fld.showFree_of_token lo) (Fld.latchFree_of_token lo hi) (by omega), Pkg.getF_retire_token _ _ _ _ _ lo hi]
      have := core.isLt
      rw [shown _ (by simp only [F.CORE_TOK_PENDING]; omega) (by simp only [F.CORE_TOK_PENDING]; omega),
        shown _ (by simp only [F.CORE_TOK_CODE]; omega) (by simp only [F.CORE_TOK_CODE]; omega)]
      exact Pkg.completeToken_shows _ _ _ token

end

/-! ### The loads of a ROUTE (R342) -/

theorem Pkg.getF_addLoads_apart (k : Pkg) (slot layer : Nat) (ns : List Nat) {f : Fld} (h : ∀ e, (F.MOE_LOAD (layerIx slot layer) e).apart f = true) :
    (k.addLoads slot layer ns).getF f = k.getF f :=
  foldl_keeps (v := fun j : Pkg => j.getF f) _ _ fun j q _ => Pkg.getF_addWrap_apart j _ f _ (h q.2)

/-- One addition of `addLoads`. -/
def Pkg.addLoad (y : Nat) (k : Pkg) (q : Nat × Nat) : Pkg := k.addWrap (F.MOE_LOAD y q.2) q.1

theorem Pkg.addLoads_eq (k : Pkg) (slot layer : Nat) (ns : List Nat) :
    k.addLoads slot layer ns = (ns.zip (List.range ns.length)).foldl (Pkg.addLoad (layerIx slot layer)) k := rfl

theorem Pkg.addLoads_cores (k : Pkg) (slot layer : Nat) (ns : List Nat) : (k.addLoads slot layer ns).cores = k.cores :=
  foldl_keeps (v := Pkg.cores) _ _ fun _ _ _ => rfl

theorem Pkg.getF_addLoads (k : Pkg) (slot layer : Nat) {ns : List Nat} {e n : Nat} (h : ns[e]? = some n) :
    (k.addLoads slot layer ns).getF (F.MOE_LOAD (layerIx slot layer) e) = (k.getF (F.MOE_LOAD (layerIx slot layer) e) + n) % 2 ^ 64 := by
  obtain ⟨he, hn⟩ := List.getElem?_eq_some_iff.mp h
  have turn (q : Nat × Nat) (hq : q ∈ ns.zip (List.range ns.length)) : ns[q.2]? = some q.1 := by
    obtain ⟨i, hi, rfl⟩ := List.mem_iff_getElem.mp hq
    simp only [List.getElem_zip, List.getElem_range]
    exact List.getElem?_eq_getElem _
  have mem : (n, e) ∈ ns.zip (List.range ns.length) :=
    List.mem_iff_getElem.mpr ⟨e, by simpa using he, by simp [hn]⟩
  have nodup : (ns.zip (List.range ns.length)).Nodup := by
    refine List.Nodup.of_map Prod.snd ?_
    rw [List.map_snd_zip (by simp)]
    exact List.nodup_range
  have unique (q) (hq : q ∈ ns.zip (List.range ns.length)) (ne : q ≠ (n, e)) : q.2 ≠ e := fun same =>
    ne (Prod.ext (Option.some.inj ((same ▸ turn q hq).symm.trans h)) same)
  have other (j : Pkg) (q) (hq : q ∈ ns.zip (List.range ns.length)) (ne : q ≠ (n, e)) :
      (Pkg.addLoad (layerIx slot layer) j q).getF (F.MOE_LOAD (layerIx slot layer) e) = j.getF (F.MOE_LOAD (layerIx slot layer) e) :=
    Pkg.getF_addWrap_apart j _ _ _ (Fld.apart_of_off (by have := unique q hq ne; simp only [F.MOE_LOAD]; omega))
  rw [Pkg.addLoads_eq]
  exact foldl_ownTurn (op := Pkg.addLoad (layerIx slot layer)) (x := (n, e))
    (A := fun j => j.getF (F.MOE_LOAD (layerIx slot layer) e) = k.getF (F.MOE_LOAD (layerIx slot layer) e))
    (B := fun j => j.getF (F.MOE_LOAD (layerIx slot layer) e) = (k.getF (F.MOE_LOAD (layerIx slot layer) e) + n) % 2 ^ 64)
    (fun j hj => (Pkg.getF_addWrap_same j _ _ rfl).trans (by rw [hj]; rfl)) (fun j q hq ne hj => (other j q hq ne).trans hj)
    (fun j q hq ne hj => (other j q hq ne).trans hj) nodup mem rfl

theorem Pkg.stepRoute_of_unscheduled {k : Pkg} {slot : Nat} (h : k.flag (F.MOE_SCHED_MODE slot) = false) (layer : Nat) (ns : List Nat) :
    k.stepRoute slot layer ns = k := by
  unfold Pkg.stepRoute
  rw [h]
  rfl

theorem routeRetire_completes {s : State} {p : PkgId} {core : CoreId} {t₀ : Nat} {pl : Play} {x : Cmd}
    (h : ((s.pkg p).at t₀).AloneDone core pl x) (hop : x.op = 0x12) (hst : x.status = 0) {e n : Nat} (hn : x.routed[e]? = some n)
    (hmode : ((s.pkg p).at t₀).flag (F.MOE_SCHED_MODE (((s.pkg p).at t₀).coreSlot core)) = false)
    (hslot : ((s.pkg p).at t₀).coreSlot core < 4) :
    Completes (.commandRetire p core x.num t₀) s (fun t => ((t.pkg p).play core).map Play.cmds = some [] ∧
      (t.pkg p).getF (F.MOE_LOAD (layerIx (((s.pkg p).at t₀).coreSlot core) (x.f 50 2 % 256)) e) =
        (((s.pkg p).at t₀).getF (F.MOE_LOAD (layerIx (((s.pkg p).at t₀).coreSlot core) (x.f 50 2 % 256)) e) + n) % 2 ^ 64 ∧
      (t.pkg p).getF (F.MOE_STATS (((s.pkg p).at t₀).coreSlot core) 2) =
        min (2 ^ 64 - 1) (((s.pkg p).at t₀).getF (F.MOE_STATS (((s.pkg p).at t₀).coreSlot core) 2) + x.overflow)) :=
  completes_of_updPkg (f := fun k => (k.at t₀).retireRow core x.num) rfl fun t ht => by
    generalize hsl : ((s.pkg p).at t₀).coreSlot core = slot at *
    have frame := h.commandRetire_frame core.isLt
    have row := h.retireRow core.isLt
    rw [if_pos ⟨hop, hst⟩, hsl] at row
    have loadOff (e : Nat) : 0x4000000 ≤ (F.MOE_LOAD (layerIx slot (x.f 50 2 % 256)) e).off := by simp only [F.MOE_LOAD]; omega
    have statsApart (e : Nat) : (F.MOE_LOAD (layerIx slot (x.f 50 2 % 256)) e).apart (F.MOE_STATS slot 2) = true :=
      Fld.apart_of_off (by simp only [F.MOE_LOAD, F.MOE_STATS]; omega)
    have modeApart (e : Nat) : (F.MOE_LOAD (layerIx slot (x.f 50 2 % 256)) e).apart (F.MOE_SCHED_MODE slot) = true :=
      Fld.apart_of_off (by simp only [F.MOE_LOAD, F.MOE_SCHED_MODE]; omega)
    rw [Pkg.stepRoute_of_unscheduled] at row
    · rw [ht, row]
      refine ⟨?_, ?_, ?_⟩
      · exact (congrArg (Option.map Play.cmds) (Pkg.play_congr (Pkg.addLoads_cores ..) _)).trans (h.play_commandRetire core.isLt)
      · rw [Pkg.getF_addSat_apart _ _ _ _ (Fld.apart_of_off (by simp only [F.MOE_LOAD, F.MOE_STATS]; omega)), Pkg.getF_addLoads _ _ _ hn,
          frame.getF ⟨.inr (.inr (loadOff e)), .inr (by have := loadOff e; omega)⟩]
      · rw [Pkg.getF_addSat_same _ _ _ rfl, Pkg.getF_addLoads_apart _ _ _ _ statsApart,
          frame.getF ⟨.inl (by simp only [F.MOE_STATS]; omega), .inr (by simp only [F.MOE_STATS]; omega)⟩]
        rfl
    · have kept : (((((s.pkg p).at t₀).commandRetire core x.num).addLoads slot (x.f 50 2 % 256) x.routed).addSat
          (F.MOE_STATS slot 2) x.overflow).getF (F.MOE_SCHED_MODE slot) = ((s.pkg p).at t₀).getF (F.MOE_SCHED_MODE slot) := by
        rw [Pkg.getF_addSat_apart _ _ _ _ (Fld.apart_of_off (by simp only [F.MOE_STATS, F.MOE_SCHED_MODE]; omega)),
          Pkg.getF_addLoads_apart _ _ _ _ modeApart,
          frame.getF ⟨.inl (by simp only [F.MOE_SCHED_MODE]; omega), .inr (by simp only [F.MOE_SCHED_MODE]; omega)⟩]
      rw [← hmode, Pkg.flag, kept, Pkg.flag]

/-- Settles O28: each clause is what its command leaves of the play and of the registers. -/
theorem commandsStartAndRetire : Obligations.CommandsStartAndRetire := by
  unfold Obligations.CommandsStartAndRetire
  intro s p core t₀ pl x k hpl
  refine ⟨fun q stalls hhead hfree htoken hhazard hneed hx => ?_, fun hhead hop hbatch hfree htoken hhazard hx hneed hroom => ?_,
    fun hcmds hbuf _ hblock hqueue hphase hwait hfetch hlater htile hdone hop => ?_,
    fun e n hcmds hbuf _ hblock hqueue hphase hwait hfetch hlater htile hdone hop hst hn _ hmode hslot => ?_⟩
  · exact commandStart_completes hpl q stalls hhead hfree htoken hhazard hneed hx
  · exact laneSlotsGranted_completes hpl hhead hop hbatch hfree htoken hhazard hx hneed hroom
  · exact commandRetire_completes ⟨hpl, hcmds, hbuf, hblock, hqueue, hphase, hwait, hfetch, hlater, htile, hdone⟩ hop
  · exact routeRetire_completes ⟨hpl, hcmds, hbuf, hblock, hqueue, hphase, hwait, hfetch, hlater, htile, hdone⟩ hop hst hn hmode hslot

end Sys2Proof.Machine
end

section
/-! PROOFS. Resets from sources (R733, R740): why the statement fails for a critical error of a cluster. -/

namespace Sys2Proof.Machine

/-- In a package whose absorb hold runs every scope is past its drain, so that a critical error of a cluster changes nothing. -/
theorem Pkg.critical_of_held {k : Pkg} {b unit : Nat} (hhold : k.hold = some b) (hparity : k.flag F.RS_PARITY = false) :
    k.critical 0x10 unit = k := by
  have inReset : k.inReset 2 unit = true := by simp [Pkg.inReset, hhold]
  unfold Pkg.critical
  rw [show criticalScope 0x10 = some 2 from rfl]
  simp [inReset, hparity]

/-- A rack whose packages are held between drain and reset (R736). -/
def heldRack : State := { State.reset with pkgs := Vector.replicate 72 { hold := some 0 } }

/-- Refutes O43: the clause about a critical error of a cluster leaves out that a package past its drain is already in reset. In
`heldRack` the absorb hold of P00 runs, and its cluster 0 does not enter reset. -/
theorem not_resetsFromSources : ¬ Obligations.ResetsFromSources := by
  unfold Obligations.ResetsFromSources
  intro h
  obtain ⟨-, -, -, -, -, -, -, -, -, -, cluster, -⟩ := h heldRack 0 0
  obtain ⟨t, ht, hbit, -⟩ := cluster 0 (by decide) (by decide) (by decide)
  have same : ((heldRack.pkg 0).at 0).critical 0x10 0 = (heldRack.pkg 0).at 0 := Pkg.critical_of_held rfl (by decide)
  have kept : t.pkg 0 = { (heldRack.pkg 0).at 0 with notices := [] } := by
    rw [← Host.Outcome.next.inj ht, State.pkg_updMap_of_vacant_kept _ _ (same ▸ .ofRegs rfl), same]
  rw [kept] at hbit
  exact absurd hbit (by decide)

end Sys2Proof.Machine
end

section
/-! PROOFS. Hall Time is kept (R51, R58, R59, R64, R68–R72, R696). -/

namespace Sys2Proof.Machine

/-! ### What alignment leaves alone -/

/-- `j` has the counter of `k`, as valid, and its ports have heard the same. -/
structure ClockKept (k j : Pkg) : Prop where
  now : j.now = k.now
  ports : j.time.ports = k.time.ports
  valid : j.getF F.HTM_VALID = k.getF F.HTM_VALID

namespace ClockKept

variable {k j l : Pkg}

theorem refl (k : Pkg) : ClockKept k k := ⟨rfl, rfl, rfl⟩

theorem trans (h : ClockKept k j) (g : ClockKept j l) : ClockKept k l :=
  ⟨g.now.trans h.now, g.ports.trans h.ports, g.valid.trans h.valid⟩

theorem updTime (k : Pkg) (T : HallTime) (hT : T.ports = k.time.ports) : ClockKept k { k with time := T } := ⟨rfl, hT, rfl⟩

theorem updBring (k : Pkg) (b : BringUp) : ClockKept k { k with bring := b } := ⟨rfl, rfl, rfl⟩

theorem updPower (k : Pkg) (w : Power) : ClockKept k { k with power := w } := ⟨rfl, rfl, rfl⟩

theorem setF (k : Pkg) {f : Fld} (v : Nat) (h : f.apart F.HTM_VALID = true) : ClockKept k (k.setF f v) :=
  ⟨rfl, rfl, Pkg.getF_setF_apart k f _ v h⟩

theorem thenF (h : ClockKept k j) {f : Fld} (v : Nat) (hf : f.apart F.HTM_VALID = true) : ClockKept k (j.setF f v) := h.trans (setF j v hf)

theorem thenTime (h : ClockKept k j) (T : HallTime) (hT : T.ports = k.time.ports) : ClockKept k { j with time := T } :=
  ⟨h.now, hT, h.valid⟩

theorem ite {c : Prop} [Decidable c] (h : ClockKept k j) (g : ClockKept k l) : ClockKept k (if c then j else l) := by
  split <;> assumption

theorem thenIf {c : Prop} [Decidable c] (h : ClockKept k j) (g : ClockKept j l) : ClockKept k (if c then l else j) := ite (h.trans g) h

theorem foldl {α : Type} (xs : List α) {op : Pkg → α → Pkg} (h : ∀ k, ∀ x ∈ xs, ClockKept k (op k x)) (k : Pkg) : ClockKept k (xs.foldl op k) :=
  List.foldlRecOn xs op (refl k) (fun b hb x hx => hb.trans (h b x hx))

end ClockKept

theorem Pkg.enterPhase_clock (k : Pkg) {n : Nat} (hn : n < 9) : ClockKept k (k.enterPhase n) := by
  unfold Pkg.enterPhase
  refine ClockKept.trans (ClockKept.thenF (ClockKept.ite (ClockKept.refl k) (ClockKept.setF k n (by decide))) _ ?_) (ClockKept.updBring _ _)
  exact Fld.apart_of_off (by simp only [F.GLB_BU_MARK, F.HTM_VALID]; omega)

theorem Pkg.enterReady_clock (k : Pkg) : ClockKept k k.enterReady := by
  have slot (j : Pkg) : ∀ s ∈ List.range 4, ClockKept j (if j.slotHeld s then j.raise (F.GLB_PS_READY s) else j) := by
    intro s hs
    have := List.mem_range.mp hs
    refine ClockKept.ite (ClockKept.setF j 1 (Fld.apart_of_off ?_)) (ClockKept.refl j)
    simp only [F.GLB_PS_READY, F.HTM_VALID]; omega
  unfold Pkg.enterReady
  refine ClockKept.trans ?_ (ClockKept.updPower _ _)
  refine ClockKept.thenF (f := F.PWR_RAMP_REF) (ClockKept.trans ?_ (ClockKept.foldl _ slot _)) _ (by decide)
  exact (((ClockKept.setF k 0 (by decide)).thenF 0 (by decide)).thenF 0 (by decide)).trans (Pkg.enterPhase_clock _ (by decide))

theorem Pkg.judgeReady_clock (k : Pkg) : ClockKept k k.judgeReady := by
  unfold Pkg.judgeReady
  exact ClockKept.ite k.enterReady_clock (ClockKept.refl k)

theorem Pkg.setAlign_clock (k : Pkg) (st : Nat) : ClockKept k (k.setAlign st) := by
  unfold Pkg.setAlign
  refine ClockKept.thenIf (ClockKept.thenIf (ClockKept.thenIf (ClockKept.thenIf (ClockKept.thenIf (ClockKept.setF k st ?_)
    (ClockKept.setF _ 1 ?_)) (ClockKept.setF _ 1 ?_)) (ClockKept.setF _ 1 ?_)) (ClockKept.updTime _ _ (by rfl))) (Pkg.judgeReady_clock _)
  all_goals decide

theorem Pkg.setRef_clock (k : Pkg) (r : Nat) : ClockKept k (k.setRef r) := by
  unfold Pkg.setRef
  exact ((ClockKept.setF k r (by decide)).thenIf (ClockKept.setF _ 1 (by decide))).thenIf (ClockKept.setF _ 1 (by decide))

theorem Pkg.selectParent_clock (k : Pkg) : ClockKept k k.selectParent := by
  unfold Pkg.selectParent
  refine ClockKept.thenIf (ClockKept.thenIf ?_ (ClockKept.thenF (f := F.HTM_PARENT_CHANGE) (ClockKept.updTime _ _ (by rfl)) 1 (by decide)))
    (ClockKept.setF _ 1 (by decide))
  split
  · refine ClockKept.trans (ClockKept.thenIf ?_ (Pkg.setAlign_clock _ 1)) (Pkg.setRef_clock _ _)
    exact (((ClockKept.setF k 0 (by decide)).thenF _ (by decide)).thenF _ (by decide)).thenF _ (by decide)
  · have hnone : ClockKept k ((k.setF F.HTM_PARENT_PORT 31).setF F.HTM_PARENT_OFFSET 0x80000000) :=
      (ClockKept.setF k _ (by decide)).thenF _ (by decide)
    refine ClockKept.ite (ClockKept.trans ?_ (Pkg.setRef_clock _ _)) ((hnone.thenF 0 (by decide)).thenF 255 (by decide))
    exact (((ClockKept.ite hnone (hnone.trans (Pkg.setAlign_clock _ 2))).thenF 1 (by decide)).thenF 0 (by decide)).thenF _ (by decide)

theorem Pkg.loseParent_clock (k : Pkg) : ClockKept k k.loseParent := by
  unfold Pkg.loseParent
  exact ClockKept.ite (k.setAlign_clock 3) (.refl k)

/-- A sample from the parent moves the alignment, the rate and the filter (R56, R57). -/
theorem Pkg.takeOffset_clock (k : Pkg) (o : Int) : ClockKept k (k.takeOffset o) := by
  have filtered (T : HallTime) (hT : T.ports = k.time.ports) (v w : Nat) :
      ClockKept k ((({ k with time := T } : Pkg).setF F.HTM_PARENT_OFFSET v).setF F.HTM_RATE_PPB w) :=
    ((ClockKept.updTime k T hT).thenF (f := F.HTM_PARENT_OFFSET) v (by decide)).thenF (f := F.HTM_RATE_PPB) w (by decide)
  unfold Pkg.takeOffset
  refine ClockKept.ite (k.setAlign_clock 4) (ClockKept.ite (.refl k) (ClockKept.ite ?_ (ClockKept.ite ?_ ?_)))
  · exact (filtered _ (by rfl) _ _).trans (Pkg.setAlign_clock _ 2)
  · exact ((filtered _ (by rfl) _ _).trans (Pkg.setAlign_clock _ 1)).thenTime _ (by rfl)
  · exact filtered _ (by rfl) _ _

/-! ### Markers (R48, R50, R51, R58) -/

theorem Pkg.ptime_congr {k j : Pkg} (h : j.time.ports = k.time.ports) (n : Nat) : j.ptime n = k.ptime n := by
  unfold Pkg.ptime; rw [h]

theorem Pkg.ptime_setPtime_same (k : Pkg) {n : Nat} (hn : n < 20) (t : PortTime) : (k.setPtime n t).ptime n = t := by
  simp [Pkg.ptime, Pkg.setPtime, hn]

/-- The stages of a good marker: the measured delay is shown, an invalid counter is loaded, and an AUX word from the parent is shown. -/
def Pkg.showDelay (n : Nat) (k : Pkg) : Option (Int × Int) → Pkg
  | some (d, _) => (k.setF (F.HTM_DELAY n) (ofSigned 24 d)).setF (F.HTM_DELAY_VALID n) 1
  | none => k

def Pkg.loadFrom (h : Heard) (t4 : Nat) (k : Pkg) (loaded : Bool) (smp : Option (Int × Int)) : Pkg :=
  match loaded, smp with
  | true, some (d, _) => k.loadCounter h d t4
  | _, _ => k

def Pkg.showAux (n : Nat) (b : Bytes) (k : Pkg) : Pkg :=
  if k.getF F.HTM_PARENT_PORT = n then
    match bits (fieldAt b 1 1) 7 4 with
    | 0 => k.setF F.HTM_PPS_HT (fieldAt b 40 8)
    | 1 => k.setF F.HTM_PPS_TAI (fieldAt b 40 8)
    | _ => k
  else k

def Pkg.steerFrom (n : Nat) (loaded : Bool) (k : Pkg) : Option (Int × Int) → Pkg
  | some (_, o) => if k.getF F.HTM_PARENT_PORT = n ∧ !loaded ∧ k.flag F.HTM_VALID then k.takeOffset o else k
  | none => k

/-- The port has heard the marker. -/
def Pkg.heardAt (k : Pkg) (n : Nat) (b : Bytes) (t4 : Nat) : Pkg := k.setPtime n { k.ptime n with heard := some (heardOf b t4) }

theorem Pkg.hearMarker_eq (k : Pkg) (n : Nat) (b : Bytes) (t4 : Nat) : k.hearMarker n b t4 =
    let j := (k.heardAt n b t4).showDelay n (k.sample n b t4)
    let loaded := !j.flag F.HTM_VALID && (heardOf b t4).valid
    ((((j.loadFrom (heardOf b t4) t4 loaded (k.sample n b t4)).selectParent).loseParent).showAux n b).steerFrom n loaded (k.sample n b t4) := rfl

theorem Pkg.showDelay_ports (n : Nat) (k : Pkg) (smp : Option (Int × Int)) : (k.showDelay n smp).time.ports = k.time.ports := by
  cases smp <;> rfl

theorem Pkg.loadFrom_ports (h : Heard) (t4 : Nat) (k : Pkg) (loaded : Bool) (smp : Option (Int × Int)) :
    (k.loadFrom h t4 loaded smp).time.ports = k.time.ports := by
  unfold Pkg.loadFrom
  split
  · exact (Pkg.setAlign_clock _ 1).ports
  · rfl

theorem Pkg.showAux_ports (n : Nat) (b : Bytes) (k : Pkg) : (k.showAux n b).time.ports = k.time.ports := by
  unfold Pkg.showAux
  split
  · split <;> rfl
  · rfl

theorem Pkg.steerFrom_ports (n : Nat) (loaded : Bool) (k : Pkg) (smp : Option (Int × Int)) :
    (k.steerFrom n loaded smp).time.ports = k.time.ports := by
  unfold Pkg.steerFrom
  split
  · exact (ClockKept.ite (Pkg.takeOffset_clock _ _) (.refl k)).ports
  · rfl

/-- The port has heard the marker, whatever the marker does to the counter and to the parent. -/
theorem Pkg.hearMarker_hears (k : Pkg) {n : Nat} (hn : n < 20) (b : Bytes) (t4 : Nat) :
    ((k.hearMarker n b t4).ptime n).heard = some (heardOf b t4) := by
  have ports : (k.hearMarker n b t4).time.ports = (k.heardAt n b t4).time.ports := by
    rw [Pkg.hearMarker_eq, Pkg.steerFrom_ports, Pkg.showAux_ports, (Pkg.loseParent_clock _).ports, (Pkg.selectParent_clock _).ports,
      Pkg.loadFrom_ports, Pkg.showDelay_ports]
  rw [Pkg.ptime_congr ports, Pkg.heardAt, Pkg.ptime_setPtime_same k hn]

theorem markerReceive_good {s : State} {p : PkgId} {port : PortId} {b : Bytes} {t4 : Nat} (hup : (s.pkg p).getF (F.LNK_ST port) = 5)
    (hcrc : markerCrcGood b = true) (hzero : markerReservedZero b = true) :
    Completes (.markerReceive p port b t4) s (fun t => ((t.pkg p).ptime port).heard = some (heardOf b t4)) :=
  completes_of_updPkg (f := fun k => if (k.at (t4 / 256)).getF (F.LNK_ST port) = 5 then (k.at (t4 / 256)).receiveMarker port b t4 else k.at (t4 / 256))
    rfl fun t ht => by
      rw [ht, if_pos (show ((s.pkg p).at (t4 / 256)).getF (F.LNK_ST port) = 5 from hup), Pkg.receiveMarker, if_pos (by rw [hcrc, hzero]; rfl)]
      exact Pkg.hearMarker_hears _ port.isLt b t4

theorem markerReceive_bad {s : State} {p : PkgId} {port : PortId} {b : Bytes} {t4 : Nat} (hup : (s.pkg p).getF (F.LNK_ST port) = 5)
    (hcrc : markerCrcGood b = false) :
    Completes (.markerReceive p port b t4) s (fun t =>
      (t.pkg p).ptime port = (s.pkg p).ptime port ∧ (t.pkg p).getF F.HTM_MARKER_CRC = 1 ∧
      (t.pkg p).getF (F.LNK_COUNTS port 2) = min (2 ^ 64 - 1) ((s.pkg p).getF (F.LNK_COUNTS port 2) + 1)) :=
  completes_of_updPkg (f := fun k => if (k.at (t4 / 256)).getF (F.LNK_ST port) = 5 then (k.at (t4 / 256)).receiveMarker port b t4 else k.at (t4 / 256))
    rfl fun t ht => by
      rw [ht, if_pos (show ((s.pkg p).at (t4 / 256)).getF (F.LNK_ST port) = 5 from hup), Pkg.receiveMarker, if_neg (by simp [hcrc])]
      refine ⟨rfl, ?_, ?_⟩
      · rw [Pkg.getF_inc_apart _ _ _ (Fld.apart_of_off (by simp only [F.LNK_COUNTS, F.HTM_MARKER_CRC]; omega))]
        exact Pkg.getF_setF_same _ _ _ rfl
      · rw [Pkg.getF_inc_same _ _ rfl]
        rw [Pkg.raise, Pkg.getF_setF_apart _ _ _ _ (Fld.apart_of_off (by simp only [F.LNK_COUNTS, F.HTM_MARKER_CRC]; omega))]
        rfl

theorem Pkg.schedAllowed_of_held {k : Pkg} (hfree : k.getF F.HTM_STATE = 3) (hheld : k.time.freeHeld = true) : k.schedAllowed = false := by
  simp [Pkg.schedAllowed, hfree, hheld]

theorem freeLimit_completes {s : State} {p : PkgId} {t₀ : Nat} (hfree : (s.pkg p).getF F.HTM_STATE = 3)
    (hlong : (s.pkg p).time.freeSince + 2000000000 ≤ max (s.pkg p).now t₀) :
    Completes (.freeLimit p t₀) s (fun t => (t.pkg p).schedAllowed = false) :=
  completes_of_updPkg (f := fun k => if (k.at t₀).getF F.HTM_STATE = 3 ∧ (k.at t₀).time.freeSince + 2000000000 ≤ (k.at t₀).now then
      { k.at t₀ with time := { (k.at t₀).time with freeHeld := true } } else k.at t₀) rfl fun t ht => by
    rw [ht, if_pos (show ((s.pkg p).at t₀).getF F.HTM_STATE = 3 ∧ ((s.pkg p).at t₀).time.freeSince + 2000000000 ≤ ((s.pkg p).at t₀).now from
      ⟨hfree, hlong⟩)]
    exact Pkg.schedAllowed_of_held hfree rfl

/-! ### Seeds (R72, R696) -/

theorem State.not_valid {s : State} (h : s.noneValid = true) (p : PkgId) : (s.pkg p).flag F.HTM_VALID = false := by
  have := List.all_eq_true.mp h (s.pkg p) (Vector.mem_toList_iff.mpr (Vector.getElem_mem _))
  simpa using this

theorem Pkg.seed_seeds (k : Pkg) (v : Nat) (h : k.flag F.HTM_VALID = false) :
    (k.seed v).getF F.HTM_VALID = 1 ∧ (k.seed v).now = max k.now v := by
  have kept := ((((k.setClock (max k.now v)).raise F.HTM_VALID).setAlign_clock 1).trans (Pkg.selectParent_clock _))
  rw [Pkg.seed, if_neg (by rw [h]; decide)]
  exact ⟨kept.valid.trans (Pkg.getF_setF_same _ _ _ rfl), kept.now⟩

theorem coldHallSeed_completes {s : State} {p : PkgId} (reference clock : Nat) (hnone : s.noneValid = true) (hroot : (s.pkg p).rootKey < 4) :
    Completes (.coldHallSeed p false reference clock) s (fun t => (t.pkg p).getF F.HTM_VALID = 1 ∧
      (t.pkg p).now = max (s.pkg p).now (max reference (max (s.highWater + 2000000000) clock))) := by
  refine ⟨_, if_pos ⟨hnone, rfl, hroot⟩, ?_⟩
  simp only [State.pkg_updPkg_same]
  exact Pkg.seed_seeds _ _ (State.not_valid hnone p)

theorem isolatedRackSeed_completes {s : State} (reference clock : Nat) {t₀ : Nat} (hnone : s.noneValid = true)
    (hdue : ∀ p : PkgId, ∃ e, (s.pkg p).bring.portsAt = some e ∧ e + 4000000000 ≤ max (s.pkg p).now t₀) :
    Completes (.isolatedRackSeed reference clock t₀) s (fun t => (t.pkg 0).getF F.HTM_VALID = 1 ∧
      (t.pkg 0).now = max (max (s.pkg 0).now t₀) (max reference (max (s.highWater + 2000000000) clock))) := by
  have due : s.pkgs.toList.all (fun k => match k.bring.portsAt with
      | some e => decide (e + 4000000000 ≤ max k.now t₀)
      | none => false) = true := by
    refine List.all_eq_true.mpr fun k hk => ?_
    obtain ⟨i, hi, rfl⟩ := Vector.mem_iff_getElem.mp (Vector.mem_toList_iff.mp hk)
    obtain ⟨e, he, hlate⟩ := hdue ⟨i, hi⟩
    change (s.pkgs[i]).bring.portsAt = some e at he
    rw [he]
    exact decide_eq_true hlate
  refine ⟨_, congrArg Host.Outcome.next (if_pos ?_), ?_⟩
  · rw [hnone, Bool.true_and]; exact due
  · simp only [State.pkg_updPkg_same]
    exact Pkg.seed_seeds _ _ (State.not_valid hnone 0)

/-! ### The external reference (R64, R68–R70, R72) -/

theorem Pkg.setRef_time (k : Pkg) (r : Nat) : (k.setRef r).time = k.time := by
  unfold Pkg.setRef
  dsimp only
  split <;> split <;> rfl

/-- Publishing a reference state changes the word of the reference and of its events. -/
theorem Pkg.getF_setRef (k : Pkg) (r : Nat) {f : Fld} (h : f.off ≠ 0x20008 ∧ f.off ≠ 0x20048) : (k.setRef r).getF f = k.getF f := by
  have event (c : Prop) [Decidable c] (j : Pkg) (e : Fld) (he : e.off = 0x20048) : (if c then j.raise e else j).getF f = j.getF f := by
    split
    · exact Pkg.getF_setF_apart _ _ _ _ (Fld.apart_of_off (by rw [he]; exact h.2.symm))
    · rfl
  unfold Pkg.setRef
  dsimp only
  rw [event _ _ _ rfl, event _ _ _ rfl, Pkg.getF_setF_apart _ _ _ _ (Fld.apart_of_off (by exact h.1.symm))]

theorem Pkg.setRef_shows (k : Pkg) (r : Nat) : (k.setRef r).getF F.HTM_REF = r % 4 := by
  have event (c : Prop) [Decidable c] (j : Pkg) (e : Fld) (he : e.apart F.HTM_REF = true) :
      (if c then j.raise e else j).getF F.HTM_REF = j.getF F.HTM_REF := by
    split
    · exact Pkg.getF_setF_apart _ _ _ _ he
    · rfl
  unfold Pkg.setRef
  dsimp only
  rw [event _ _ _ (by decide), event _ _ _ (by decide), Pkg.getF_setF_same _ _ _ rfl]
  rfl

/-- What the poll of the card leaves of P00–P03 (R64). -/
def Pkg.pollCard (st tai : Nat) (k : Pkg) : Pkg :=
  if k.id < 4 then
    let k := (k.setF F.HTM_REF_STATE st).setF F.HTM_REF_TAI tai
    if k.flag F.HTM_IS_ROOT && decide (k.rootKey < 4) then k.setRef k.rootRef else k
  else k

theorem Pkg.pollCard_shows (k : Pkg) (st tai : Nat) (h : k.id < 4) : (k.pollCard st tai).getF F.HTM_REF_STATE = st % 4 ∧
    (k.pollCard st tai).getF F.HTM_REF_TAI = tai % 2 ^ F.HTM_REF_TAI.width := by
  have state : ((k.setF F.HTM_REF_STATE st).setF F.HTM_REF_TAI tai).getF F.HTM_REF_STATE = st % 4 := by
    rw [Pkg.getF_setF_apart _ _ _ _ (by decide), Pkg.getF_setF_same _ _ _ rfl]
    rfl
  have second : ((k.setF F.HTM_REF_STATE st).setF F.HTM_REF_TAI tai).getF F.HTM_REF_TAI = tai % 2 ^ F.HTM_REF_TAI.width :=
    Pkg.getF_setF_same _ _ _ rfl
  unfold Pkg.pollCard
  rw [if_pos h]
  dsimp only
  split
  · rw [Pkg.getF_setRef _ _ (by decide), Pkg.getF_setRef _ _ (by decide)]
    exact ⟨state, second⟩
  · exact ⟨state, second⟩

theorem cardPoll_completes {s : State} {tai : Nat} {p : PkgId} (h : (s.pkg p).id < 4) :
    Completes (.cardPoll tai) s (fun t => (t.pkg p).getF F.HTM_REF_STATE = s.card.state % 4 ∧
      (t.pkg p).getF F.HTM_REF_TAI = tai % 2 ^ F.HTM_REF_TAI.width) := by
  refine ⟨_, rfl, ?_⟩
  have polled (c : Bool) : (if c then (({ s with card := { s.card with nextTai := tai } } : State).mapPkgs
        (Pkg.pollCard s.card.state tai)).post "HallTimeHoldover" .warning 0
      else ({ s with card := { s.card with nextTai := tai } } : State).mapPkgs (Pkg.pollCard s.card.state tai)).pkg p =
      (s.pkg p).pollCard s.card.state tai := by
    split
    · exact State.pkg_mapPkgs ..
    · exact State.pkg_mapPkgs ..
  have shown := (s.pkg p).pollCard_shows s.card.state tai h
  rw [← polled (s.card.state == 2 && (s.pkg 0).getF F.HTM_REF_STATE != 2)] at shown
  exact shown

theorem ppsLoss_completes {s : State} {t₀ : Nat} {p : PkgId} (hlate : s.card.lastPps + 4000000000 ≤ t₀) (hroot : (s.pkg p).rootKey < 4) :
    Completes (.ppsLoss t₀) s (fun t => (t.pkg p).time.rateFrozen = true ∧ (t.pkg p).getF F.HTM_RATE_PPB = (s.pkg p).getF F.HTM_RATE_PPB ∧
      ((s.pkg p).flag F.HTM_IS_ROOT = true → (t.pkg p).getF F.HTM_REF = 3)) := by
  refine ⟨_, if_pos hlate, ?_⟩
  simp only [State.pkg_mapPkgs, if_pos hroot]
  generalize hj : ({ s.pkg p with time := { (s.pkg p).time with rateFrozen := true } } : Pkg) = j
  have frozen : j.time.rateFrozen = true := by rw [← hj]
  have rate : j.getF F.HTM_RATE_PPB = (s.pkg p).getF F.HTM_RATE_PPB := by rw [← hj]; rfl
  have root : j.flag F.HTM_IS_ROOT = (s.pkg p).flag F.HTM_IS_ROOT := by rw [← hj]; rfl
  split
  · exact ⟨(Pkg.setRef_time j 3).symm ▸ frozen, (Pkg.getF_setRef j 3 (by decide)).trans rate, fun _ => j.setRef_shows 3⟩
  · next hnot => exact ⟨frozen, rate, fun h => absurd (root.trans h) hnot⟩

/-- What a PPS edge leaves of a root that has a card (R64, R65). -/
def Pkg.takeEdge (t : Nat) (k : Pkg) : Pkg :=
  let k := (k.setF F.HTM_PPS_HT t).setF F.HTM_PPS_TAI (k.getF F.HTM_REF_TAI)
  let k := k.setRef k.rootRef
  if k.getF F.HTM_REF_STATE = 1 ∨ k.getF F.HTM_REF_STATE = 2 then k.steerToReference t else k

theorem Pkg.takeEdge_shows (k : Pkg) (t : Nat) : (k.takeEdge t).getF F.HTM_PPS_HT = t % 2 ^ 64 ∧
    (k.takeEdge t).getF F.HTM_PPS_TAI = k.getF F.HTM_REF_TAI % 2 ^ F.HTM_PPS_TAI.width := by
  have shown (f : Fld) (hf : f.off ≠ 0x20008 ∧ f.off ≠ 0x20048) (hr : F.HTM_RATE_PPB.apart f = true) :
      (k.takeEdge t).getF f = ((k.setF F.HTM_PPS_HT t).setF F.HTM_PPS_TAI (k.getF F.HTM_REF_TAI)).getF f := by
    unfold Pkg.takeEdge
    dsimp only
    split
    · exact (Pkg.getF_setF_apart _ _ _ _ hr).trans (Pkg.getF_setRef _ _ hf)
    · exact Pkg.getF_setRef _ _ hf
  rw [shown _ (by decide) (by decide), shown _ (by decide) (by decide), Pkg.getF_setF_same _ _ _ rfl,
    Pkg.getF_setF_apart _ _ _ _ (by decide), Pkg.getF_setF_same _ _ _ rfl]
  exact ⟨rfl, rfl⟩

theorem ppsEdge_completes {s : State} {p : PkgId} {t₀ : Nat} (ht : t₀ < 2 ^ 64) (hid : (s.pkg p).id < 4) (hkey : (s.pkg p).rootKey < 4)
    (hroot : (s.pkg p).flag F.HTM_IS_ROOT = true) :
    Completes (.ppsEdge p t₀) s (fun t => (t.pkg p).getF F.HTM_PPS_HT = t₀ ∧
      (t.pkg p).getF F.HTM_PPS_TAI = (s.pkg p).getF F.HTM_REF_TAI % 2 ^ F.HTM_PPS_TAI.width) := by
  refine ⟨_, rfl, ?_⟩
  have edge : ((s.updPkg p (fun k =>
      let k := k.at t₀
      if k.id < 4 ∧ k.rootKey < 4 then
        let k := { k with time := { k.time with rateFrozen := false } }
        if k.flag F.HTM_IS_ROOT then k.takeEdge t₀ else k
      else k)).pkg p) = ({ (s.pkg p).at t₀ with time := { ((s.pkg p).at t₀).time with rateFrozen := false } } : Pkg).takeEdge t₀ := by
    rw [State.pkg_updPkg_same]
    exact (if_pos (show ((s.pkg p).at t₀).id < 4 ∧ ((s.pkg p).at t₀).rootKey < 4 from ⟨hid, hkey⟩)).trans (if_pos hroot)
  have shown := ({ (s.pkg p).at t₀ with time := { ((s.pkg p).at t₀).time with rateFrozen := false } } : Pkg).takeEdge_shows t₀
  rw [← edge, Nat.mod_eq_of_lt ht] at shown
  exact shown

theorem holdoverLimit_completes {s : State} {t₀ t₁ : Nat} (hst : s.card.state = 2) (hnew : s.card.limitPosted = false)
    (hlost : s.card.lostAt = some t₁) (hlate : t₁ + s.timeSection.holdover * 2000000000 ≤ t₀) :
    Completes (.holdoverLimit t₀) s (fun t => t.card.limitPosted = true ∧ t.pkgs = s.pkgs ∧
      t.events = { id := s.nextEvent, name := "HallTimeHoldoverLimit", severity := .critical, arg := 0 } :: s.events) := by
  refine ⟨(({ s with card := { s.card with limitPosted := true } } : State).post "HallTimeHoldoverLimit" .critical 0), ?_, rfl, rfl, rfl⟩
  change execHoldoverLimit t₀ s = _
  unfold execHoldoverLimit
  rw [hlost]
  exact if_pos ⟨hst, by rw [hnew]; rfl, hlate⟩

/-- Settles O3: each clause is what its command leaves of the counter, of the ports' state and of the card. -/
theorem hallTimeIsKept : Obligations.HallTimeIsKept := by
  unfold Obligations.HallTimeIsKept
  refine ⟨⟨?_, ?_, ?_, ?_, ?_, ?_⟩, ?_, ?_, ?_, ?_, ?_, ?_⟩
  · exact fun s tai p h => cardPoll_completes h
  · exact fun s lastSync t₀ hst hlate => ⟨_, if_pos ⟨hst, hlate⟩, rfl, rfl, rfl⟩
  · exact fun s t₀ p hlate hroot => ppsLoss_completes hlate hroot
  · exact fun s since t₀ hst hlate => ⟨_, if_pos ⟨hst, hlate⟩, rfl, rfl, rfl⟩
  · exact fun s t₀ t₁ hst hnew hlost hlate => holdoverLimit_completes hst hnew hlost hlate
  · exact fun s t₀ => ⟨_, rfl, rfl⟩
  · exact fun s p port b t4 hup hcrc hzero => markerReceive_good hup hcrc hzero
  · exact fun s p port b t4 hup hcrc => markerReceive_bad hup hcrc
  · exact fun s p t₀ hfree hlong => freeLimit_completes hfree hlong
  · exact fun s p t₀ ht hid hkey hroot => ppsEdge_completes ht hid hkey hroot
  · exact fun s p reference clock hnone hroot => coldHallSeed_completes reference clock hnone hroot
  · exact fun s reference clock t₀ hnone hdue => isolatedRackSeed_completes reference clock hnone hdue

end Sys2Proof.Machine
end

section
/-! PROOFS. Host queues and function-level resets (R584, R590–R597, R616, R619–R621). -/

namespace Sys2Proof.Machine

/-! ### Doorbells (R590, R591) -/

section
variable {s : State} {p : PkgId} {t₀ : Nat}

/-- A doorbell as the package's own step. -/
def Pkg.sqDoorbell (fn q index : Nat) (k : Pkg) : Pkg :=
  if k.getF (F.HIF_SQ_OWNER q) = fn ∧ k.flag (F.HIF_SQ_EN q) = true ∧ index < k.getF (F.HIF_SQ_SIZE q) then k.setF (F.HIF_SQ_TAIL q) index
  else k.raise F.HIF_EV_DOORBELL_BAD

def Pkg.cqDoorbell (fn c index : Nat) (k : Pkg) : Pkg :=
  if k.getF (F.HIF_CQ_OWNER c) = fn ∧ k.flag (F.HIF_CQ_EN c) = true ∧ index < k.getF (F.HIF_CQ_SIZE c) then
    (k.setF (F.HIF_CQ_HEAD c) index).flushEvents
  else k.raise F.HIF_EV_DOORBELL_BAD

theorem sqDoorbell_moves (fn : Root) (q : Fin 256) (index : Nat) (hown : ((s.pkg p).at t₀).getF (F.HIF_SQ_OWNER q) = fn.val)
    (hen : ((s.pkg p).at t₀).getF (F.HIF_SQ_EN q) = 1) (hsize : index < ((s.pkg p).at t₀).getF (F.HIF_SQ_SIZE q)) (hfit : index < 4096) :
    Completes (.sqDoorbell p fn q index t₀) s (fun t => (t.pkg p).getF (F.HIF_SQ_TAIL q) = index) :=
  completes_of_updPkg (f := fun k => (k.at t₀).sqDoorbell fn q index) rfl fun t ht => by
    rw [ht, Pkg.sqDoorbell, if_pos ⟨hown, (Pkg.flag_iff _ _).mpr hen, hsize⟩, Pkg.getF_setF_same _ _ _ rfl]
    exact Nat.mod_eq_of_lt hfit

theorem sqDoorbell_refused (fn : Root) (q : Fin 256) (index : Nat) (h : ((s.pkg p).at t₀).getF (F.HIF_SQ_OWNER q) ≠ fn.val ∨
      ((s.pkg p).at t₀).getF (F.HIF_SQ_EN q) = 0 ∨ ((s.pkg p).at t₀).getF (F.HIF_SQ_SIZE q) ≤ index) :
    Completes (.sqDoorbell p fn q index t₀) s (fun t => (t.pkg p).getF F.HIF_EV_DOORBELL_BAD = 1 ∧
      (t.pkg p).getF (F.HIF_SQ_TAIL q) = ((s.pkg p).at t₀).getF (F.HIF_SQ_TAIL q)) :=
  completes_of_updPkg (f := fun k => (k.at t₀).sqDoorbell fn q index) rfl fun t ht => by
    rw [ht, Pkg.sqDoorbell, if_neg (by rw [Pkg.flag_iff]; omega)]
    exact ⟨Pkg.getF_setF_same _ _ _ rfl, Pkg.getF_setF_apart _ _ _ _ (Fld.apart_of_off (by simp only [F.HIF_EV_DOORBELL_BAD, F.HIF_SQ_TAIL]; omega))⟩

theorem Pkg.flushEvents_of_none {k : Pkg} (h : k.host.events = []) (f : Fld) : k.flushEvents.getF f = k.getF f := by
  unfold Pkg.flushEvents
  rw [h]
  rfl

theorem cqDoorbell_moves (fn : Root) (c : Fin 256) (index : Nat) (hown : ((s.pkg p).at t₀).getF (F.HIF_CQ_OWNER c) = fn.val)
    (hen : ((s.pkg p).at t₀).getF (F.HIF_CQ_EN c) = 1) (hsize : index < ((s.pkg p).at t₀).getF (F.HIF_CQ_SIZE c))
    (hnone : ((s.pkg p).at t₀).host.events = []) :
    Completes (.cqDoorbell p fn c index t₀) s (fun t => (t.pkg p).getF (F.HIF_CQ_HEAD c) = index) :=
  completes_of_updPkg (f := fun k => (k.at t₀).cqDoorbell fn c index) rfl fun t ht => by
    have hfit : index < 2 ^ 17 := hsize.trans (Pkg.getF_lt _ (F.HIF_CQ_SIZE c))
    rw [ht, Pkg.cqDoorbell, if_pos ⟨hown, (Pkg.flag_iff _ _).mpr hen, hsize⟩, Pkg.flushEvents_of_none (k := ((s.pkg p).at t₀).setF (F.HIF_CQ_HEAD c) index) hnone,
      Pkg.getF_setF_same _ _ _ rfl]
    exact Nat.mod_eq_of_lt hfit

theorem cqDoorbell_refused (fn : Root) (c : Fin 256) (index : Nat) (h : ((s.pkg p).at t₀).getF (F.HIF_CQ_OWNER c) ≠ fn.val ∨
      ((s.pkg p).at t₀).getF (F.HIF_CQ_EN c) = 0 ∨ ((s.pkg p).at t₀).getF (F.HIF_CQ_SIZE c) ≤ index) :
    Completes (.cqDoorbell p fn c index t₀) s (fun t => (t.pkg p).getF F.HIF_EV_DOORBELL_BAD = 1 ∧
      (t.pkg p).getF (F.HIF_CQ_HEAD c) = ((s.pkg p).at t₀).getF (F.HIF_CQ_HEAD c)) :=
  completes_of_updPkg (f := fun k => (k.at t₀).cqDoorbell fn c index) rfl fun t ht => by
    rw [ht, Pkg.cqDoorbell, if_neg (by rw [Pkg.flag_iff]; omega)]
    exact ⟨Pkg.getF_setF_same _ _ _ rfl, Pkg.getF_setF_apart _ _ _ _ (Fld.apart_of_off (by simp only [F.HIF_EV_DOORBELL_BAD, F.HIF_CQ_HEAD]; omega))⟩

/-! ### Interrupts held back (R597) -/

theorem Pkg.cqSignal_coal (k : Pkg) (c : Nat) : (k.cqSignal c).host.coal = k.host.coal.filter (fun x => x.1 != c) := by
  unfold Pkg.cqSignal Pkg.msixRaise
  split <;> rfl

theorem Pkg.cqSignal_masked {k : Pkg} {c : Nat} (h : k.msixMasked (k.getF (F.HIF_CQ_OWNER c)) (k.getF (F.HIF_CQ_VECTOR c)) = true) :
    let fn := k.getF (F.HIF_CQ_OWNER c)
    let v := k.getF (F.HIF_CQ_VECTOR c)
    (k.cqSignal c).getF (F.MSIX_PENDING fn (v / 64)) = k.getF (F.MSIX_PENDING fn (v / 64)) ||| 2 ^ (v % 64) := by
  intro fn v
  have pending : k.getF (F.MSIX_PENDING fn (v / 64)) ||| 2 ^ (v % 64) < 2 ^ 64 :=
    Nat.or_lt_two_pow (Pkg.getF_lt k (F.MSIX_PENDING fn (v / 64))) (Nat.pow_lt_pow_right (by decide) (Nat.mod_lt _ (by decide)))
  have raised : k.cqSignal c = ({ k with host := { k.host with coal := k.host.coal.filter (fun x => x.1 != c) } } : Pkg).setF
      (F.MSIX_PENDING fn (v / 64)) (k.getF (F.MSIX_PENDING fn (v / 64)) ||| 2 ^ (v % 64)) := if_pos h
  rw [raised, Pkg.getF_setF_same _ _ _ rfl]
  exact Nat.mod_eq_of_lt pending

theorem Pkg.cqSignal_unmasked {k : Pkg} {c : Nat} (h : k.msixMasked (k.getF (F.HIF_CQ_OWNER c)) (k.getF (F.HIF_CQ_VECTOR c)) = false) :
    let fn := k.getF (F.HIF_CQ_OWNER c)
    let v := k.getF (F.HIF_CQ_VECTOR c)
    (k.cqSignal c).host.mem = Memory.writeBytes k.host.mem (k.getF (F.MSIX_WORD fn (2 * v))) (leBytes 4 (k.getF (F.MSIX_WORD fn (2 * v + 1)))) := by
  intro fn v
  have hv : v < 2 ^ 11 := Pkg.getF_lt k (F.HIF_CQ_VECTOR c)
  have sent : k.cqSignal c = ({ k with host := { k.host with coal := k.host.coal.filter (fun x => x.1 != c) } } : Pkg).msixSend fn v :=
    if_neg (by rw [← Bool.not_eq_true] at h; exact h)
  have word (i : Nat) (hi : i < 2 ^ 12) (j : Pkg) (n w : Nat) : (j.setF (F.MSIX_PENDING fn n) w).getF (F.MSIX_WORD fn i) = j.getF (F.MSIX_WORD fn i) :=
    Pkg.getF_setF_apart _ _ _ _ (Fld.apart_of_off (by simp only [F.MSIX_PENDING, F.MSIX_WORD]; omega))
  rw [sent]
  unfold Pkg.msixSend
  dsimp only
  rw [word _ (by omega), word _ (by omega)]
  rfl

/-- INTERRUPT_COALESCE_TIMEOUT as the package's own step. -/
def Pkg.coalesceTimeout (k : Pkg) (c : Nat) : Pkg :=
  match k.host.coal.find? (fun x => x.1 == c) with
  | none => k
  | some x => if x.2.2 + k.getF (F.HIF_CQ_COAL_TIME c) * 2000 ≤ k.now then k.cqSignal c else k

theorem Pkg.coalesceTimeout_of_late {k : Pkg} {c : Nat} {x : Nat × Nat × Nat} (hcoal : k.host.coal = [x]) (hx : x.1 = c)
    (hlate : x.2.2 + k.getF (F.HIF_CQ_COAL_TIME c) * 2000 ≤ k.now) : k.coalesceTimeout c = k.cqSignal c := by
  have found : k.host.coal.find? (fun y => y.1 == c) = some x := by rw [hcoal]; exact List.find?_cons_of_pos (beq_iff_eq.mpr hx)
  unfold Pkg.coalesceTimeout
  rw [found]
  exact if_pos hlate

theorem interruptCoalesceTimeout_completes (c : Fin 256) (x : Nat × Nat × Nat) (hcoal : ((s.pkg p).at t₀).host.coal = [x]) (hx : x.1 = c.val)
    (hlate : x.2.2 + ((s.pkg p).at t₀).getF (F.HIF_CQ_COAL_TIME c) * 2000 ≤ ((s.pkg p).at t₀).now) :
    let k := (s.pkg p).at t₀
    let fn := k.getF (F.HIF_CQ_OWNER c)
    let v := k.getF (F.HIF_CQ_VECTOR c)
    Completes (.interruptCoalesceTimeout p c t₀) s (fun t => (t.pkg p).host.coal = [] ∧
      (k.msixMasked fn v = true → (t.pkg p).getF (F.MSIX_PENDING fn (v / 64)) = k.getF (F.MSIX_PENDING fn (v / 64)) ||| 2 ^ (v % 64)) ∧
      (k.msixMasked fn v = false → (t.pkg p).host.mem =
        Memory.writeBytes k.host.mem (k.getF (F.MSIX_WORD fn (2 * v))) (leBytes 4 (k.getF (F.MSIX_WORD fn (2 * v + 1)))))) :=
  completes_of_updPkg (f := fun k => (k.at t₀).coalesceTimeout c) rfl fun t ht => by
    rw [ht, Pkg.coalesceTimeout_of_late hcoal hx hlate]
    refine ⟨?_, fun h => Pkg.cqSignal_masked h, fun h => Pkg.cqSignal_unmasked h⟩
    rw [Pkg.cqSignal_coal, hcoal]
    simp [hx]

/-! ### Enabling a submission queue (R584, R593, R616) -/

/-- The configuration of a queue as the PF writes it, before its enable bit is judged. -/
def Pkg.setSqCfg (k : Pkg) (q data : Nat) : Pkg :=
  ((k.setF (F.HIF_SQ_CQ q) (bits data 55 48)).setF (F.HIF_SQ_OWNER q) (bits data 34 32)).setF (F.HIF_SQ_SIZE q) (bits data 12 0)

theorem Pkg.getF_setSqCfg_apart (k : Pkg) (q data : Nat) {f : Fld} (h : f.off ≠ 0x2010008 + 0x40 * q) : (k.setSqCfg q data).getF f = k.getF f := by
  rw [Pkg.setSqCfg, Pkg.getF_setF_apart _ _ _ _ (Fld.apart_of_off (Ne.symm h)), Pkg.getF_setF_apart _ _ _ _ (Fld.apart_of_off (Ne.symm h)),
    Pkg.getF_setF_apart _ _ _ _ (Fld.apart_of_off (Ne.symm h))]

theorem bits_lt (v hi lo : Nat) : bits v hi lo < 2 ^ (hi + 1 - lo) := Nat.mod_lt _ (Nat.two_pow_pos _)

theorem Pkg.setSqCfg_shows (k : Pkg) (q data : Nat) : (k.setSqCfg q data).getF (F.HIF_SQ_CQ q) = bits data 55 48 ∧
    (k.setSqCfg q data).getF (F.HIF_SQ_OWNER q) = bits data 34 32 ∧ (k.setSqCfg q data).getF (F.HIF_SQ_SIZE q) = bits data 12 0 ∧
    (k.setSqCfg q data).getF (F.HIF_SQ_EN q) = k.getF (F.HIF_SQ_EN q) := by
  have cq : bits data 55 48 < 2 ^ 8 := bits_lt ..
  have owner : bits data 34 32 < 2 ^ 3 := bits_lt ..
  have size : bits data 12 0 < 2 ^ 13 := bits_lt ..
  have ownerCq : (F.HIF_SQ_OWNER q).apart (F.HIF_SQ_CQ q) = true := by simp [Fld.apart, F.HIF_SQ_OWNER, F.HIF_SQ_CQ]
  have sizeCq : (F.HIF_SQ_SIZE q).apart (F.HIF_SQ_CQ q) = true := by simp [Fld.apart, F.HIF_SQ_SIZE, F.HIF_SQ_CQ]
  have sizeOwner : (F.HIF_SQ_SIZE q).apart (F.HIF_SQ_OWNER q) = true := by simp [Fld.apart, F.HIF_SQ_SIZE, F.HIF_SQ_OWNER]
  have cqEn : (F.HIF_SQ_CQ q).apart (F.HIF_SQ_EN q) = true := by simp [Fld.apart, F.HIF_SQ_EN, F.HIF_SQ_CQ]
  have ownerEn : (F.HIF_SQ_OWNER q).apart (F.HIF_SQ_EN q) = true := by simp [Fld.apart, F.HIF_SQ_EN, F.HIF_SQ_OWNER]
  have sizeEn : (F.HIF_SQ_SIZE q).apart (F.HIF_SQ_EN q) = true := by simp [Fld.apart, F.HIF_SQ_EN, F.HIF_SQ_SIZE]
  unfold Pkg.setSqCfg
  refine ⟨?_, ?_, ?_, ?_⟩
  · rw [Pkg.getF_setF_apart _ _ _ _ sizeCq, Pkg.getF_setF_apart _ _ _ _ ownerCq, Pkg.getF_setF_same _ _ _ rfl]
    exact Nat.mod_eq_of_lt cq
  · rw [Pkg.getF_setF_apart _ _ _ _ sizeOwner, Pkg.getF_setF_same _ _ _ rfl]
    exact Nat.mod_eq_of_lt owner
  · rw [Pkg.getF_setF_same _ _ _ rfl]
    exact Nat.mod_eq_of_lt size
  · rw [Pkg.getF_setF_apart _ _ _ _ sizeEn, Pkg.getF_setF_apart _ _ _ _ ownerEn, Pkg.getF_setF_apart _ _ _ _ cqEn]

/-- Whether the queue may be enabled with this configuration (R593). -/
def Pkg.mayEnable (k : Pkg) (q data : Nat) : Bool :=
  k.flag (F.HIF_CQ_EN (bits data 55 48)) && k.getF (F.HIF_CQ_OWNER (bits data 55 48)) == bits data 34 32 && k.replayStoreGood q
    && decide (2 ≤ bits data 12 0) && decide (bits data 12 0 ≤ 4096)

theorem Pkg.replayStoreGood_setSqCfg (k : Pkg) {q : Nat} (hq : q < 256) (data : Nat) : (k.setSqCfg q data).replayStoreGood q = k.replayStoreGood q := by
  have kept (f : Fld) (h : f.off ≠ 0x2010008 + 0x40 * q) := k.getF_setSqCfg_apart q data h
  have allotment (s : Nat) (hs : s ∈ List.range 4) : (k.setSqCfg q data).allotment s = k.allotment s := by
    have := List.mem_range.mp hs
    unfold Pkg.allotment
    rw [kept _ (by simp only [F.XLT_HBM_BASE]; omega), kept _ (by simp only [F.XLT_HBM_LEN]; omega)]
  unfold Pkg.replayStoreGood Pkg.slotHeld
  dsimp only
  rw [kept (F.HIF_SQ_REPLAY q) (by simp only [F.HIF_SQ_REPLAY]; omega), kept F.LUP_SLOTS (by simp only [F.LUP_SLOTS]; omega)]
  rw [Bool.eq_iff_iff, Bool.and_eq_true, Bool.and_eq_true, List.all_eq_true, List.all_eq_true]
  exact and_congr_right' (forall₂_congr fun s hs => by rw [allotment s hs])

theorem Pkg.writeSqCfg_of_disabled {k : Pkg} {q data : Nat} (hq : q < 256) (hbit : bit data 63 = true) (hoff : k.getF (F.HIF_SQ_EN q) = 0) :
    k.writeSqCfg true q data = if k.mayEnable q data then
        (((k.setSqCfg q data).setF (F.HIF_SQ_EN q) 1).setF (F.HIF_SQ_HEAD q) 0).setF (F.HIF_SQ_TAIL q) 0
      else ((k.setSqCfg q data).setF (F.HIF_SQ_EN q) 0).raise F.HIF_EV_QUEUE_REFUSED := by
  obtain ⟨hcq, howner, hsize, -⟩ := k.setSqCfg_shows q data
  have may : ((k.setSqCfg q data).flag (F.HIF_CQ_EN ((k.setSqCfg q data).getF (F.HIF_SQ_CQ q))) &&
      (k.setSqCfg q data).getF (F.HIF_CQ_OWNER ((k.setSqCfg q data).getF (F.HIF_SQ_CQ q))) == (k.setSqCfg q data).getF (F.HIF_SQ_OWNER q) &&
      (k.setSqCfg q data).replayStoreGood q && decide (2 ≤ (k.setSqCfg q data).getF (F.HIF_SQ_SIZE q)) &&
      decide ((k.setSqCfg q data).getF (F.HIF_SQ_SIZE q) ≤ 4096)) = k.mayEnable q data := by
    rw [hcq, howner, hsize, k.replayStoreGood_setSqCfg hq, Pkg.flag, k.getF_setSqCfg_apart q data (by simp only [F.HIF_CQ_EN]; omega),
      k.getF_setSqCfg_apart q data (by simp only [F.HIF_CQ_OWNER]; omega)]
    rfl
  have off : k.flag (F.HIF_SQ_EN q) = false := (Pkg.flag_eq_false_iff _ _).mpr (by omega)
  rw [← may]
  unfold Pkg.writeSqCfg
  rw [hbit, off]
  rfl

theorem Pkg.getF_clearReplay (k : Pkg) (q : Nat) (f : Fld) : (k.clearReplay q).getF f = k.getF f := rfl

theorem sqEnable_enables (q : Fin 256) (data : Nat) (hbit : bit data 63 = true) (hoff : ((s.pkg p).at t₀).getF (F.HIF_SQ_EN q) = 0)
    (hcq : ((s.pkg p).at t₀).getF (F.HIF_CQ_EN (bits data 55 48)) = 1)
    (howner : ((s.pkg p).at t₀).getF (F.HIF_CQ_OWNER (bits data 55 48)) = bits data 34 32) (hstore : ((s.pkg p).at t₀).replayStoreGood q = true)
    (hlow : 2 ≤ bits data 12 0) (hhigh : bits data 12 0 ≤ 4096) :
    Completes (.sqEnable p .pf q data t₀) s (fun t => (t.pkg p).getF (F.HIF_SQ_EN q) = 1 ∧ (t.pkg p).getF (F.HIF_SQ_HEAD q) = 0 ∧
      (t.pkg p).getF (F.HIF_SQ_TAIL q) = 0 ∧ (t.pkg p).getF (F.HIF_SQ_SIZE q) = bits data 12 0 ∧
      (t.pkg p).getF (F.HIF_SQ_OWNER q) = bits data 34 32) :=
  completes_of_updPkg (f := fun k => (k.at t₀).writeSqCfg true q data) rfl fun t ht => by
    obtain ⟨-, hown, hsize, -⟩ := ((s.pkg p).at t₀).setSqCfg_shows q data
    have may : ((s.pkg p).at t₀).mayEnable q data = true := by
      simp [Pkg.mayEnable, Pkg.flag, hcq, howner, hstore, hlow, hhigh]
    have tail (f : Fld) (h : f.off ≠ 0x2010018 + 0x40 * q) : (F.HIF_SQ_TAIL q).apart f = true := Fld.apart_of_off (Ne.symm h)
    have head (f : Fld) (h : f.off ≠ 0x2010018 + 0x40 * q) : (F.HIF_SQ_HEAD q).apart f = true := Fld.apart_of_off (Ne.symm h)
    have size : (F.HIF_SQ_EN q).apart (F.HIF_SQ_SIZE q) = true := by simp [Fld.apart, F.HIF_SQ_EN, F.HIF_SQ_SIZE]
    have owner : (F.HIF_SQ_EN q).apart (F.HIF_SQ_OWNER q) = true := by simp [Fld.apart, F.HIF_SQ_EN, F.HIF_SQ_OWNER]
    have tailHead : (F.HIF_SQ_TAIL q).apart (F.HIF_SQ_HEAD q) = true := by simp [Fld.apart, F.HIF_SQ_TAIL, F.HIF_SQ_HEAD]
    have other (f : Fld) (h : f.off = 0x2010008 + 0x40 * q) : f.off ≠ 0x2010018 + 0x40 * q := by omega
    rw [ht, Pkg.writeSqCfg_of_disabled q.isLt hbit hoff, if_pos may]
    refine ⟨?_, ?_, ?_, ?_, ?_⟩
    · rw [Pkg.getF_setF_apart _ _ _ _ (tail _ (other _ rfl)), Pkg.getF_setF_apart _ _ _ _ (head _ (other _ rfl)), Pkg.getF_setF_same _ _ _ rfl]
      rfl
    · rw [Pkg.getF_setF_apart _ _ _ _ tailHead, Pkg.getF_setF_same _ _ _ rfl]
      rfl
    · rw [Pkg.getF_setF_same _ _ _ rfl]
      rfl
    · rw [Pkg.getF_setF_apart _ _ _ _ (tail _ (other _ rfl)), Pkg.getF_setF_apart _ _ _ _ (head _ (other _ rfl)), Pkg.getF_setF_apart _ _ _ _ size,
        hsize]
    · rw [Pkg.getF_setF_apart _ _ _ _ (tail _ (other _ rfl)), Pkg.getF_setF_apart _ _ _ _ (head _ (other _ rfl)), Pkg.getF_setF_apart _ _ _ _ owner,
        hown]

theorem sqEnable_refused (q : Fin 256) (data : Nat) (hbit : bit data 63 = true) (hoff : ((s.pkg p).at t₀).getF (F.HIF_SQ_EN q) = 0)
    (h : ((s.pkg p).at t₀).getF (F.HIF_CQ_EN (bits data 55 48)) = 0 ∨
      ((s.pkg p).at t₀).getF (F.HIF_CQ_OWNER (bits data 55 48)) ≠ bits data 34 32 ∨ ((s.pkg p).at t₀).replayStoreGood q = false ∨
      bits data 12 0 < 2 ∨ 4096 < bits data 12 0) :
    Completes (.sqEnable p .pf q data t₀) s (fun t => (t.pkg p).getF (F.HIF_SQ_EN q) = 0 ∧ (t.pkg p).getF F.HIF_EV_QUEUE_REFUSED = 1) :=
  completes_of_updPkg (f := fun k => (k.at t₀).writeSqCfg true q data) rfl fun t ht => by
    have may : ¬ ((s.pkg p).at t₀).mayEnable q data = true := by
      simp only [Pkg.mayEnable, Bool.and_eq_true, Pkg.flag_iff, beq_iff_eq, decide_eq_true_eq]
      rintro ⟨⟨⟨⟨hcq, howner⟩, hstore⟩, hlow⟩, hhigh⟩
      obtain h | h | h | h | h := h
      · omega
      · exact h howner
      · rw [hstore] at h; exact absurd h (by decide)
      · omega
      · omega
    rw [ht, Pkg.writeSqCfg_of_disabled q.isLt hbit hoff, if_neg may]
    refine ⟨?_, Pkg.getF_setF_same _ _ _ rfl⟩
    rw [Pkg.raise, Pkg.getF_setF_apart _ _ _ _ (Fld.apart_of_off (by simp only [F.HIF_EV_QUEUE_REFUSED, F.HIF_SQ_EN]; omega)),
      Pkg.getF_setF_same _ _ _ rfl]
    rfl

theorem sqEnable_disables (q : Fin 256) (data : Nat) (hbit : bit data 63 = false) :
    Completes (.sqEnable p .pf q data t₀) s (fun t => (t.pkg p).getF (F.HIF_SQ_EN q) = 0 ∧
      (t.pkg p).host.replay = ((s.pkg p).at t₀).host.replay.filter (fun r => r.sq != q.val)) :=
  completes_of_updPkg (f := fun k => (k.at t₀).writeSqCfg true q data) rfl fun t ht => by
    have off : ((s.pkg p).at t₀).writeSqCfg true q data = ((((s.pkg p).at t₀).setSqCfg q data).setF (F.HIF_SQ_EN q) 0).clearReplay q := by
      unfold Pkg.writeSqCfg
      rw [hbit]
      rfl
    rw [ht, off]
    refine ⟨?_, rfl⟩
    rw [Pkg.getF_clearReplay, Pkg.getF_setF_same _ _ _ rfl]
    rfl

theorem sqEnable_foreign (n : SlotId) (q : Fin 256) (data : Nat) (h : ((s.pkg p).at t₀).getF (F.HIF_SQ_OWNER q) ≠ n.val) :
    Completes (.sqEnable p (.vf n) q data t₀) s (fun t => (t.pkg p).getF F.HIF_EV_VF_WRITE_REFUSED = 1 ∧
      (t.pkg p).getF (F.HIF_SQ_EN q) = ((s.pkg p).at t₀).getF (F.HIF_SQ_EN q)) :=
  completes_of_updPkg (f := fun k => if (k.at t₀).getF (F.HIF_SQ_OWNER q) = n.val then (k.at t₀).writeSqCfg false q data
      else (k.at t₀).raise F.HIF_EV_VF_WRITE_REFUSED) rfl fun t ht => by
    rw [ht, if_neg h]
    exact ⟨Pkg.getF_setF_same _ _ _ rfl,
      Pkg.getF_setF_apart _ _ _ _ (Fld.apart_of_off (by simp only [F.HIF_EV_VF_WRITE_REFUSED, F.HIF_SQ_EN]; omega))⟩

end

/-! ### Function-level reset (R619–R621) -/

/-- The queues a function owns and has enabled. -/
def Pkg.ownSqs (k : Pkg) (fn : Nat) : List Nat := (List.range 256).filter (fun q => k.flag (F.HIF_SQ_EN q) && k.getF (F.HIF_SQ_OWNER q) == fn)
def Pkg.ownCqs (k : Pkg) (fn : Nat) : List Nat := (List.range 256).filter (fun c => k.flag (F.HIF_CQ_EN c) && k.getF (F.HIF_CQ_OWNER c) == fn)

/-- The stages of a function-level reset: its calls go, its queues are disabled, its interrupts and its vectors go. -/
def Pkg.dropCalls (k : Pkg) (fn : Nat) : Pkg :=
  { k with host := { k.host with
    calls := k.host.calls.filter (fun c => !(k.ownSqs fn).contains c.sq)
    ghosts := k.host.ghosts ++ (k.host.calls.filter (fun c => (k.ownSqs fn).contains c.sq)).flatMap HostCall.openPlays } }

theorem Pkg.getF_dropCalls (k : Pkg) (fn : Nat) (f : Fld) : (k.dropCalls fn).getF f = k.getF f := by
  unfold Pkg.getF Pkg.cell
  rfl

def Pkg.disableSq (k : Pkg) (q : Nat) : Pkg := ((k.setF (F.HIF_SQ_EN q) 0).setF (F.HIF_SQ_RUNNING q) 0).clearReplay q

def Pkg.disableCq (k : Pkg) (c : Nat) : Pkg := k.setF (F.HIF_CQ_EN c) 0

def Pkg.clearVectors (k : Pkg) (fn : Nat) (cqs : List Nat) : Pkg :=
  { k with
    host := { k.host with coal := k.host.coal.filter (fun x => !cqs.contains x.1) }
    regs := Sparse.keep k.regs (fun o => !(decide (0x20080000 + 0x1000000 * fn ≤ o) && decide (o < 0x200C0080 + 0x1000000 * fn))) }

theorem Pkg.flr_eq (k : Pkg) (fn : Nat) : k.flr fn =
    (((((k.ownCqs fn).foldl Pkg.disableCq ((k.ownSqs fn).foldl Pkg.disableSq (k.dropCalls fn))).clearVectors fn (k.ownCqs fn)).setF
      (F.XLT_BAR2_VBASE fn) 0).raise F.HIF_EV_FLR) := rfl

theorem Pkg.mem_ownSqs (k : Pkg) (fn q : Nat) : q ∈ k.ownSqs fn ↔ q < 256 ∧ k.getF (F.HIF_SQ_EN q) = 1 ∧ k.getF (F.HIF_SQ_OWNER q) = fn := by
  rw [Pkg.ownSqs, List.mem_filter, List.mem_range, Bool.and_eq_true, Pkg.flag_iff, beq_iff_eq]

theorem Pkg.mem_ownCqs (k : Pkg) (fn c : Nat) : c ∈ k.ownCqs fn ↔ c < 256 ∧ k.getF (F.HIF_CQ_EN c) = 1 ∧ k.getF (F.HIF_CQ_OWNER c) = fn := by
  rw [Pkg.ownCqs, List.mem_filter, List.mem_range, Bool.and_eq_true, Pkg.flag_iff, beq_iff_eq]

theorem Pkg.getF_clearVectors (k : Pkg) (fn : Nat) (cqs : List Nat) {f : Fld} (h : f.off < 0x20080000) :
    (k.clearVectors fn cqs).getF f = k.getF f := by
  have cell : (k.clearVectors fn cqs).cell f.off = k.cell f.off := by
    rw [Pkg.cell, Pkg.cell, Pkg.clearVectors, Sparse.get_keep, if_pos (by simp; omega)]
  rw [Pkg.getF, Pkg.getF, cell]

/-- A queue's own turn disables it, and the turns of other queues leave its registers. -/
theorem Pkg.getF_disableSq_apart (k : Pkg) (q : Nat) {f : Fld} (h : f.off ≠ 0x2010008 + 0x40 * q ∧ f.off ≠ 0x2010018 + 0x40 * q) :
    (k.disableSq q).getF f = k.getF f := by
  rw [Pkg.disableSq, Pkg.getF_clearReplay, Pkg.getF_setF_apart _ _ _ _ (Fld.apart_of_off (Ne.symm h.2)),
    Pkg.getF_setF_apart _ _ _ _ (Fld.apart_of_off (Ne.symm h.1))]

theorem Pkg.getF_disableSq_own (k : Pkg) (q : Nat) : (k.disableSq q).getF (F.HIF_SQ_EN q) = 0 := by
  rw [Pkg.disableSq, Pkg.getF_clearReplay, Pkg.getF_setF_apart _ _ _ _ (Fld.apart_of_off (by simp only [F.HIF_SQ_RUNNING, F.HIF_SQ_EN]; omega)),
    Pkg.getF_setF_same _ _ _ rfl]
  rfl

theorem Pkg.getF_disableSq_en (k : Pkg) {q q' : Nat} (h : q' ≠ q) : (k.disableSq q').getF (F.HIF_SQ_EN q) = k.getF (F.HIF_SQ_EN q) :=
  k.getF_disableSq_apart q' (by simp only [F.HIF_SQ_EN]; omega)

/-- A register that is neither a queue's, nor a vector's, nor one the reset shows is left alone by a function-level reset. -/
theorem Pkg.getF_flr_apart (k : Pkg) {fn : Nat} {f : Fld} (hb : (F.XLT_BAR2_VBASE fn).apart f = true) (he : F.HIF_EV_FLR.apart f = true)
    (hv : f.off < 0x20080000) : (k.flr fn).getF f =
      ((k.ownCqs fn).foldl Pkg.disableCq ((k.ownSqs fn).foldl Pkg.disableSq (k.dropCalls fn))).getF f := by
  rw [Pkg.flr_eq, Pkg.raise, Pkg.getF_setF_apart _ _ _ _ he, Pkg.getF_setF_apart _ _ _ _ hb, Pkg.getF_clearVectors _ _ _ hv]

theorem Pkg.getF_disableSqs_cq (k : Pkg) (l : List Nat) (hl : ∀ q ∈ l, q < 256) {f : Fld} (h : 0x2020000 ≤ f.off) :
    (l.foldl Pkg.disableSq k).getF f = k.getF f :=
  foldl_keeps (f := Pkg.disableSq) (v := fun j : Pkg => j.getF f) _ _ fun j q hq => j.getF_disableSq_apart q (by have := hl q hq; omega)

theorem Pkg.getF_disableCqs_sq (k : Pkg) (l : List Nat) {f : Fld} (h : f.off < 0x2020000) : (l.foldl Pkg.disableCq k).getF f = k.getF f :=
  foldl_keeps (f := Pkg.disableCq) (v := fun j : Pkg => j.getF f) _ _ fun j c _ =>
    Pkg.getF_setF_apart _ _ _ _ (Fld.apart_of_off (by simp only [F.HIF_CQ_EN]; omega))

/-- A turn of each element of a list that clears the element's own bit and keeps the others. -/
theorem foldl_clears {op : Pkg → Nat → Pkg} {F : Nat → Fld} {l : List Nat} (hl : l.Nodup) (own : ∀ j i, (op j i).getF (F i) = 0)
    (other : ∀ j i i', i' ≠ i → (op j i').getF (F i) = j.getF (F i)) (k : Pkg) (i : Nat) :
    (l.foldl op k).getF (F i) = if i ∈ l then 0 else k.getF (F i) := by
  split
  · next mem =>
    exact foldl_ownTurn (op := op) (A := fun _ => True) (B := fun j => j.getF (F i) = 0) (fun j _ => own j i) (fun _ _ _ _ _ => trivial)
      (fun j i' _ ne hj => (other j i i' ne).trans hj) hl mem trivial
  · next mem => exact foldl_keeps (f := op) (v := fun j : Pkg => j.getF (F i)) l k fun j i' hi' => other j i i' (fun e => mem (e ▸ hi'))

theorem Pkg.nodup_ownSqs (k : Pkg) (fn : Nat) : (k.ownSqs fn).Nodup := List.nodup_range.filter _

theorem Pkg.nodup_ownCqs (k : Pkg) (fn : Nat) : (k.ownCqs fn).Nodup := List.nodup_range.filter _

/-- The enable bit of a submission queue, and of a completion queue, after a function-level reset. -/
theorem Pkg.getF_flr_sq (k : Pkg) {fn : Nat} (hfn : fn < 5) {q : Nat} (hq : q < 256) :
    (k.flr fn).getF (F.HIF_SQ_EN q) = if q ∈ k.ownSqs fn then 0 else k.getF (F.HIF_SQ_EN q) := by
  rw [Pkg.getF_flr_apart _ (Fld.apart_of_off (by simp only [F.XLT_BAR2_VBASE, F.HIF_SQ_EN]; omega))
      (Fld.apart_of_off (by simp only [F.HIF_EV_FLR, F.HIF_SQ_EN]; omega)) (by simp only [F.HIF_SQ_EN]; omega),
    Pkg.getF_disableCqs_sq _ _ (by simp only [F.HIF_SQ_EN]; omega)]
  rw [foldl_clears (F := F.HIF_SQ_EN) (k.nodup_ownSqs fn) Pkg.getF_disableSq_own (fun j _ _ ne => j.getF_disableSq_en ne), Pkg.getF_dropCalls]

theorem Pkg.getF_flr_cq (k : Pkg) {fn : Nat} (hfn : fn < 5) {c : Nat} (hc : c < 256) :
    (k.flr fn).getF (F.HIF_CQ_EN c) = if c ∈ k.ownCqs fn then 0 else k.getF (F.HIF_CQ_EN c) := by
  have own (j : Pkg) (i : Nat) : (j.disableCq i).getF (F.HIF_CQ_EN i) = 0 := (Pkg.getF_setF_same _ _ _ rfl).trans rfl
  have other (j : Pkg) (i i' : Nat) (ne : i' ≠ i) : (j.disableCq i').getF (F.HIF_CQ_EN i) = j.getF (F.HIF_CQ_EN i) :=
    Pkg.getF_setF_apart _ _ _ _ (Fld.apart_of_off (by simp only [F.HIF_CQ_EN]; omega))
  rw [Pkg.getF_flr_apart _ (Fld.apart_of_off (by simp only [F.XLT_BAR2_VBASE, F.HIF_CQ_EN]; omega))
      (Fld.apart_of_off (by simp only [F.HIF_EV_FLR, F.HIF_CQ_EN]; omega)) (by simp only [F.HIF_CQ_EN]; omega),
    foldl_clears (F := F.HIF_CQ_EN) (k.nodup_ownCqs fn) own other,
    Pkg.getF_disableSqs_cq _ _ (fun q hq => ((k.mem_ownSqs fn q).mp hq).1) (by simp only [F.HIF_CQ_EN]; omega), Pkg.getF_dropCalls]

theorem Pkg.getF_flr_sqOwner (k : Pkg) {fn : Nat} (hfn : fn < 5) {q : Nat} (hq : q < 256) :
    (k.flr fn).getF (F.HIF_SQ_OWNER q) = k.getF (F.HIF_SQ_OWNER q) := by
  have turn (j : Pkg) (q' : Nat) : (j.disableSq q').getF (F.HIF_SQ_OWNER q) = j.getF (F.HIF_SQ_OWNER q) := by
    by_cases e : q' = q
    · subst e
      rw [Pkg.disableSq, Pkg.getF_clearReplay, Pkg.getF_setF_apart _ _ _ _ (Fld.apart_of_off (by simp only [F.HIF_SQ_RUNNING, F.HIF_SQ_OWNER]; omega)),
        Pkg.getF_setF_apart _ _ _ _ (by simp [Fld.apart, F.HIF_SQ_EN, F.HIF_SQ_OWNER])]
    · exact j.getF_disableSq_apart q' (by simp only [F.HIF_SQ_OWNER]; omega)
  rw [Pkg.getF_flr_apart _ (Fld.apart_of_off (by simp only [F.XLT_BAR2_VBASE, F.HIF_SQ_OWNER]; omega))
      (Fld.apart_of_off (by simp only [F.HIF_EV_FLR, F.HIF_SQ_OWNER]; omega)) (by simp only [F.HIF_SQ_OWNER]; omega),
    Pkg.getF_disableCqs_sq _ _ (by simp only [F.HIF_SQ_OWNER]; omega),
    foldl_keeps (f := Pkg.disableSq) (v := fun j : Pkg => j.getF (F.HIF_SQ_OWNER q)) _ _ fun j q' _ => turn j q', Pkg.getF_dropCalls]

theorem Pkg.getF_flr_cqOwner (k : Pkg) {fn : Nat} (hfn : fn < 5) {c : Nat} (hc : c < 256) :
    (k.flr fn).getF (F.HIF_CQ_OWNER c) = k.getF (F.HIF_CQ_OWNER c) := by
  have turn (j : Pkg) (c' : Nat) : (j.disableCq c').getF (F.HIF_CQ_OWNER c) = j.getF (F.HIF_CQ_OWNER c) :=
    Pkg.getF_setF_apart _ _ _ _ ((Fld.apart_iff _ _).mpr (by simp only [F.HIF_CQ_EN, F.HIF_CQ_OWNER]; omega))
  rw [Pkg.getF_flr_apart _ (Fld.apart_of_off (by simp only [F.XLT_BAR2_VBASE, F.HIF_CQ_OWNER]; omega))
      (Fld.apart_of_off (by simp only [F.HIF_EV_FLR, F.HIF_CQ_OWNER]; omega)) (by simp only [F.HIF_CQ_OWNER]; omega),
    foldl_keeps (f := Pkg.disableCq) (v := fun j : Pkg => j.getF (F.HIF_CQ_OWNER c)) _ _ fun j c' _ => turn j c',
    Pkg.getF_disableSqs_cq _ _ (fun q hq => ((k.mem_ownSqs fn q).mp hq).1) (by simp only [F.HIF_CQ_OWNER]; omega), Pkg.getF_dropCalls]

theorem Pkg.flr_bar2 (k : Pkg) {fn : Nat} (hfn : fn < 5) : (k.flr fn).getF (F.XLT_BAR2_VBASE fn) = 0 := by
  rw [Pkg.flr_eq, Pkg.raise, Pkg.getF_setF_apart _ _ _ _ (Fld.apart_of_off (by simp only [F.HIF_EV_FLR, F.XLT_BAR2_VBASE]; omega)),
    Pkg.getF_setF_same _ _ _ rfl]
  rfl

theorem Pkg.getF_flr_below (k : Pkg) {fn : Nat} {f : Fld} (h : f.off < 0x2000000) (hb : (F.XLT_BAR2_VBASE fn).apart f = true) :
    (k.flr fn).getF f = k.getF f := by
  rw [Pkg.getF_flr_apart _ hb (Fld.apart_of_off (by simp only [F.HIF_EV_FLR]; omega)) (by omega), Pkg.getF_disableCqs_sq _ _ (by omega),
    foldl_keeps (f := Pkg.disableSq) (v := fun j : Pkg => j.getF f) _ _ fun j q _ => j.getF_disableSq_apart q (by omega), Pkg.getF_dropCalls]

theorem Pkg.flr_host (k : Pkg) (fn : Nat) : (k.flr fn).host.calls = k.host.calls.filter (fun c => !(k.ownSqs fn).contains c.sq) ∧
    (k.flr fn).host.vfEnable = k.host.vfEnable := by
  have sqs {α : Type} (v : HostIf → α) (hv : ∀ h r, v { h with replay := r } = v h) (j : Pkg) (l : List Nat) :
      v (l.foldl Pkg.disableSq j).host = v j.host :=
    foldl_keeps (f := Pkg.disableSq) (v := fun j : Pkg => v j.host) _ _ fun _ _ _ => hv _ _
  have cqs {α : Type} (v : HostIf → α) (j : Pkg) (l : List Nat) : v (l.foldl Pkg.disableCq j).host = v j.host :=
    foldl_keeps (f := Pkg.disableCq) (v := fun j : Pkg => v j.host) _ _ fun _ _ _ => rfl
  rw [Pkg.flr_eq]
  exact ⟨(cqs HostIf.calls _ _).trans (sqs HostIf.calls (fun _ _ => rfl) _ _),
    (cqs HostIf.vfEnable _ _).trans (sqs HostIf.vfEnable (fun _ _ => rfl) _ _)⟩

theorem Pkg.flr_event (k : Pkg) (fn : Nat) : (k.flr fn).getF F.HIF_EV_FLR = 1 := by
  rw [Pkg.flr_eq, Pkg.raise, Pkg.getF_setF_same _ _ _ rfl]
  rfl

/-- What is gone from `k` to `j` of a function that was reset. -/
structure Pkg.Gone (k : Pkg) (fn : Nat) (j : Pkg) : Prop where
  bar2 : j.getF (F.XLT_BAR2_VBASE fn) = 0
  sqs : ∀ q : Fin 256, k.getF (F.HIF_SQ_OWNER q) = fn → j.getF (F.HIF_SQ_EN q) = 0
  cqs : ∀ c : Fin 256, k.getF (F.HIF_CQ_OWNER c) = fn → j.getF (F.HIF_CQ_EN c) = 0
  calls : ∀ c ∈ j.host.calls, c ∈ k.host.calls ∧ ¬ (c.sq < 256 ∧ k.getF (F.HIF_SQ_EN c.sq) = 1 ∧ k.getF (F.HIF_SQ_OWNER c.sq) = fn)

theorem Pkg.flr_sq_off {k : Pkg} {fn : Nat} (hfn : fn < 5) {q : Nat} (hq : q < 256) (own : k.getF (F.HIF_SQ_OWNER q) = fn) :
    (k.flr fn).getF (F.HIF_SQ_EN q) = 0 := by
  have bit : k.getF (F.HIF_SQ_EN q) < 2 := Pkg.getF_lt k (F.HIF_SQ_EN q)
  rw [k.getF_flr_sq hfn hq]
  split
  · rfl
  · next out => rw [k.mem_ownSqs] at out; omega

theorem Pkg.flr_cq_off {k : Pkg} {fn : Nat} (hfn : fn < 5) {c : Nat} (hc : c < 256) (own : k.getF (F.HIF_CQ_OWNER c) = fn) :
    (k.flr fn).getF (F.HIF_CQ_EN c) = 0 := by
  have bit : k.getF (F.HIF_CQ_EN c) < 2 := Pkg.getF_lt k (F.HIF_CQ_EN c)
  rw [k.getF_flr_cq hfn hc]
  split
  · rfl
  · next out => rw [k.mem_ownCqs] at out; omega

theorem Pkg.mem_flr_calls (k : Pkg) (fn : Nat) (c : HostCall) : c ∈ (k.flr fn).host.calls ↔ c ∈ k.host.calls ∧ c.sq ∉ k.ownSqs fn := by
  rw [(k.flr_host fn).1, List.mem_filter]
  simp

theorem Pkg.flr_gone (k : Pkg) {fn : Nat} (hfn : fn < 5) : k.Gone fn (k.flr fn) where
  bar2 := k.flr_bar2 hfn
  sqs q own := Pkg.flr_sq_off hfn q.isLt own
  cqs c own := Pkg.flr_cq_off hfn c.isLt own
  calls c hc := by rwa [k.mem_flr_calls, k.mem_ownSqs] at hc

/-! ### The cause of a reset (Table 16-2) -/

/-- `j` differs from `k` at most in its registers and in the values drawn. -/
def RegsOnly (k j : Pkg) : Prop := ∃ r n, j = { k with regs := r, fresh := n }

namespace RegsOnly

variable {k j l : Pkg}

theorem refl (k : Pkg) : RegsOnly k k := ⟨k.regs, k.fresh, rfl⟩

theorem trans (h : RegsOnly k j) (g : RegsOnly j l) : RegsOnly k l := by
  obtain ⟨r, n, e⟩ := h
  obtain ⟨r', n', e'⟩ := g
  exact ⟨r', n', by rw [e', e]⟩

theorem setF (k : Pkg) (f : Fld) (v : Nat) : RegsOnly k (k.setF f v) := ⟨_, k.fresh, rfl⟩

theorem draw (k : Pkg) : RegsOnly k k.draw := ⟨k.regs, _, rfl⟩

theorem ite {c : Prop} [Decidable c] (h : RegsOnly k j) (g : RegsOnly k l) : RegsOnly k (if c then j else l) := by
  split <;> assumption

theorem host (h : RegsOnly k j) : j.host = k.host := by obtain ⟨r, n, e⟩ := h; rw [e]

end RegsOnly

/-- Recording a cause writes registers and may draw. -/
theorem Pkg.recordCause_frame (k : Pkg) (cause scope loc unit : Nat) : RegsOnly k (k.recordCause cause scope loc unit) := by
  have unitSet (j : Pkg) : RegsOnly j
      (if (1 ≤ scope ∧ scope ≤ 3) ∨ cause = 2 then j.setF F.RST_UNIT unit else (j.setF F.RST_UNIT (j.freeNat 8)).draw) :=
    .ite (.setF ..) ((RegsOnly.setF ..).trans (.draw _))
  have counted (j : Pkg) : RegsOnly j (if 1 ≤ scope ∧ scope ≤ 5 then j.inc (F.RST_COUNTS (scope - 1)) else j) := .ite (.setF ..) (.refl j)
  exact (((((RegsOnly.setF k F.RST_CAUSE cause).trans (.setF _ F.RST_SCOPE scope)).trans (.setF _ F.RST_LOCATION loc)).trans (unitSet _)).trans
    (.setF _ F.RST_LAST_HT _)).trans (counted _)

/-- The cells outside that block. -/
abbrev apartFromResets (o : Nat) : Prop := o < 0x10000 ∨ 0x10128 ≤ o

theorem Pkg.recordCause_kept (k : Pkg) (cause scope loc unit : Nat) : CellsKept apartFromResets k (k.recordCause cause scope loc unit) := by
  have drawn (j : Pkg) : CellsKept apartFromResets j j.draw := .ofRegs rfl
  have counted (j : Pkg) : CellsKept apartFromResets j (if 1 ≤ scope ∧ scope ≤ 5 then j.inc (F.RST_COUNTS (scope - 1)) else j) := by
    split
    · exact .inc j (by simp only [F.RST_COUNTS, apartFromResets]; omega)
    · exact .refl j
  have unitSet (j : Pkg) : CellsKept apartFromResets j
      (if (1 ≤ scope ∧ scope ≤ 3) ∨ cause = 2 then j.setF F.RST_UNIT unit else (j.setF F.RST_UNIT (j.freeNat 8)).draw) :=
    .ite (.setF j _ (by decide)) ((CellsKept.setF j _ (by decide)).trans (drawn _))
  have head := (((CellsKept.setF (P := apartFromResets) k cause (f := F.RST_CAUSE) (by decide)).thenF (f := F.RST_SCOPE) scope (by decide)).thenF
    (f := F.RST_LOCATION) loc (by decide)).trans (unitSet _)
  exact (head.thenF (f := F.RST_LAST_HT) _ (by decide)).trans (counted _)

theorem Pkg.getF_recordCause (k : Pkg) (cause scope loc unit : Nat) {f : Fld} (h : apartFromResets f.off) :
    (k.recordCause cause scope loc unit).getF f = k.getF f := (k.recordCause_kept cause scope loc unit).getF h

theorem Pkg.hostCause_host (k : Pkg) : k.hostCause.host = k.host := (k.recordCause_frame 5 6 0 0).host

/-- What is gone stays so while the queues' registers and the calls are kept. -/
theorem Pkg.Gone.kept {k j l : Pkg} {fn : Nat} (h : k.Gone fn j) (cells : CellsKept (fun o => 0x400000 ≤ o) j l)
    (calls : l.host.calls = j.host.calls) : k.Gone fn l where
  bar2 := (cells.getF (by simp only [F.XLT_BAR2_VBASE]; omega)).trans h.bar2
  sqs q own := (cells.getF (by simp only [F.HIF_SQ_EN]; omega)).trans (h.sqs q own)
  cqs c own := (cells.getF (by simp only [F.HIF_CQ_EN]; omega)).trans (h.cqs c own)
  calls := by rw [calls]; exact h.calls

theorem Pkg.Gone.hostCause {k j : Pkg} {fn : Nat} (h : k.Gone fn j) : k.Gone fn j.hostCause :=
  h.kept ((j.recordCause_kept 5 6 0 0).mono fun o ho => .inr (by omega)) (by rw [j.hostCause_host])

/-! ### Every function at once (R620, R621) -/

/-- The PF's reset resets every function, each in its turn. -/
theorem Pkg.flrAll_eq (k : Pkg) : k.flrAll = (List.range 5).foldl Pkg.flr { k with host := { k.host with vfEnable := false } } := rfl

theorem foldl_range_turn {A B : Pkg → Prop} {op : Pkg → Nat → Pkg} {n i : Nat} (hi : i < n) (own : ∀ j, A j → B (op j i))
    (before : ∀ j x, x < n → x ≠ i → A j → A (op j x)) (after : ∀ j x, x < n → B j → B (op j x)) {k : Pkg} (ha : A k) :
    B ((List.range n).foldl op k) :=
  foldl_ownTurn own (fun j x hx => before j x (List.mem_range.mp hx)) (fun j x hx _ => after j x (List.mem_range.mp hx)) List.nodup_range
    (List.mem_range.mpr hi) ha

theorem Pkg.flrAll_gone (k : Pkg) {fn : Nat} (hfn : fn < 5) : k.Gone fn k.flrAll where
  bar2 := by
    have bar2Apart (x : Nat) (hx : x ≠ fn) : (F.XLT_BAR2_VBASE x).apart (F.XLT_BAR2_VBASE fn) = true :=
      Fld.apart_of_off (by simp only [F.XLT_BAR2_VBASE]; omega)
    refine foldl_range_turn (op := Pkg.flr) (A := fun _ => True) (B := fun j => j.getF (F.XLT_BAR2_VBASE fn) = 0) hfn (fun j _ => j.flr_bar2 hfn)
      (fun _ _ _ _ _ => trivial) (fun j x hx hj => ?_) trivial
    by_cases e : x = fn
    · exact e ▸ j.flr_bar2 hx
    · exact (j.getF_flr_below (by simp only [F.XLT_BAR2_VBASE]; omega) (bar2Apart x e)).trans hj
  sqs q own := by
    refine foldl_range_turn (op := Pkg.flr) (A := fun j => j.getF (F.HIF_SQ_OWNER q) = fn) (B := fun j => j.getF (F.HIF_SQ_EN q) = 0) hfn
      (fun j hj => Pkg.flr_sq_off hfn q.isLt hj) (fun j x hx _ hj => (j.getF_flr_sqOwner hx q.isLt).trans hj) (fun j x hx hj => ?_) own
    rw [j.getF_flr_sq hx q.isLt, hj, ite_self]
  cqs c own := by
    refine foldl_range_turn (op := Pkg.flr) (A := fun j => j.getF (F.HIF_CQ_OWNER c) = fn) (B := fun j => j.getF (F.HIF_CQ_EN c) = 0) hfn
      (fun j hj => Pkg.flr_cq_off hfn c.isLt hj) (fun j x hx _ hj => (j.getF_flr_cqOwner hx c.isLt).trans hj) (fun j x hx hj => ?_) own
    rw [j.getF_flr_cq hx c.isLt, hj, ite_self]
  calls c hc := by
    have subset (j : Pkg) (l : List Nat) : ∀ c ∈ (l.foldl Pkg.flr j).host.calls, c ∈ j.host.calls :=
      List.foldlRecOn l Pkg.flr (motive := fun i : Pkg => ∀ c ∈ i.host.calls, c ∈ j.host.calls) (fun _ h => h)
        (fun i hi x _ c h => hi c ((i.mem_flr_calls x c).mp h).1)
    refine ⟨subset { k with host := { k.host with vfEnable := false } } (List.range 5) c (by rwa [← Pkg.flrAll_eq]), fun ⟨hsq, en, own⟩ => ?_⟩
    have gone : ∀ c' ∈ k.flrAll.host.calls, c'.sq ≠ c.sq :=
      foldl_range_turn (op := Pkg.flr) (A := fun j => j.getF (F.HIF_SQ_EN c.sq) = 1 ∧ j.getF (F.HIF_SQ_OWNER c.sq) = fn)
        (B := fun j => ∀ c' ∈ j.host.calls, c'.sq ≠ c.sq) hfn
        (fun j hj c' hc' e => ((j.mem_flr_calls fn c').mp hc').2 ((j.mem_ownSqs fn c'.sq).mpr (e ▸ ⟨hsq, hj⟩)))
        (fun j x hx ne hj => ⟨by
            rw [j.getF_flr_sq hx hsq, if_neg (fun mem => ne (((j.mem_ownSqs x c.sq).mp mem).2.2.symm.trans hj.2))]; exact hj.1,
          (j.getF_flr_sqOwner hx hsq).trans hj.2⟩)
        (fun j x _ hj c' hc' => hj c' ((j.mem_flr_calls x c').mp hc').1) ⟨en, own⟩
    exact gone c hc rfl

theorem Pkg.flrAll_event (k : Pkg) : k.flrAll.getF F.HIF_EV_FLR = 1 := by
  rw [Pkg.flrAll_eq, List.range_succ, List.foldl_append]
  exact Pkg.flr_event _ 4

theorem Pkg.flrAll_vfEnable (k : Pkg) : k.flrAll.host.vfEnable = false :=
  foldl_keeps (f := Pkg.flr) (v := fun j : Pkg => j.host.vfEnable) _ _ fun j x _ => (j.flr_host x).2

theorem Pkg.getF_flrAll_below (k : Pkg) {f : Fld} (h : f.off < 0x400040) : k.flrAll.getF f = k.getF f :=
  foldl_keeps (f := Pkg.flr) (v := fun j : Pkg => j.getF f) (List.range 5) { k with host := { k.host with vfEnable := false } } fun j x _ =>
    j.getF_flr_below (by omega) (Fld.apart_of_off (by simp only [F.XLT_BAR2_VBASE]; omega))

section
variable (s : State) (p : PkgId) (t₀ : Nat)

theorem vfFlr_completes (n : SlotId) : Completes (.vfFlr p n t₀) s (fun t => (t.pkg p).getF F.HIF_EV_FLR = 1 ∧
      ((s.pkg p).at t₀).Gone n (t.pkg p) ∧
      (∀ q : Fin 256, ((s.pkg p).at t₀).getF (F.HIF_SQ_OWNER q) ≠ n.val → (t.pkg p).getF (F.HIF_SQ_EN q) = ((s.pkg p).at t₀).getF (F.HIF_SQ_EN q)) ∧
      (∀ c : Fin 256, ((s.pkg p).at t₀).getF (F.HIF_CQ_OWNER c) ≠ n.val → (t.pkg p).getF (F.HIF_CQ_EN c) = ((s.pkg p).at t₀).getF (F.HIF_CQ_EN c))) :=
  completes_of_updPkg (f := fun k => ((k.at t₀).flr n).hostCause) rfl fun t ht => by
    have hn : n.val < 5 := by omega
    have cell (f : Fld) (hf : 0x10128 ≤ f.off) : (((s.pkg p).at t₀).flr n).hostCause.getF f = (((s.pkg p).at t₀).flr n).getF f :=
      Pkg.getF_recordCause _ 5 6 0 0 (.inr hf)
    rw [ht]
    refine ⟨?_, (Pkg.flr_gone _ hn).hostCause, fun q other => ?_, fun c other => ?_⟩
    · rw [cell _ (by decide), Pkg.flr_event]
    · rw [cell _ (by simp only [F.HIF_SQ_EN]; omega), Pkg.getF_flr_sq _ hn q.isLt, if_neg (fun mem => other ((Pkg.mem_ownSqs _ _ _).mp mem).2.2)]
    · rw [cell _ (by simp only [F.HIF_CQ_EN]; omega), Pkg.getF_flr_cq _ hn c.isLt, if_neg (fun mem => other ((Pkg.mem_ownCqs _ _ _).mp mem).2.2)]

theorem pfFlr_completes : Completes (.pfFlr p t₀) s (fun t => (t.pkg p).getF F.HIF_EV_FLR = 1 ∧ (t.pkg p).host.vfEnable = false ∧
    ∀ fn, fn < 5 → ((s.pkg p).at t₀).Gone fn (t.pkg p)) :=
  completes_of_updPkg (f := fun k => ((k.at t₀).flrAll).hostCause) rfl fun t ht => by
    rw [ht]
    refine ⟨?_, ?_, fun fn hfn => (Pkg.flrAll_gone _ hfn).hostCause⟩
    · exact (Pkg.getF_recordCause _ 5 6 0 0 (.inr (by decide))).trans (Pkg.flrAll_event _)
    · rw [Pkg.hostCause_host, Pkg.flrAll_vfEnable]

/-- HOST_RESET as the package's own step. -/
def Pkg.hostReset (k : Pkg) (down : Bool) : Pkg := if down then k.flrAll.hostCause.setF F.LNK_H_ST 0 else k.flrAll.hostCause

theorem Pkg.hostReset_resets (k : Pkg) (down : Bool) : (k.hostReset down).host.vfEnable = false ∧
    (k.hostReset down).getF F.LNK_H_ST = (if down then 0 else k.getF F.LNK_H_ST) ∧ ∀ fn, fn < 5 → k.Gone fn (k.hostReset down) := by
  have off : k.flrAll.hostCause.host.vfEnable = false := by rw [Pkg.hostCause_host, Pkg.flrAll_vfEnable]
  have gone (fn : Nat) (hfn : fn < 5) : k.Gone fn k.flrAll.hostCause := (k.flrAll_gone hfn).hostCause
  have link : k.flrAll.hostCause.getF F.LNK_H_ST = k.getF F.LNK_H_ST := by
    rw [Pkg.hostCause, Pkg.getF_recordCause _ 5 6 0 0 (.inr (by decide)), Pkg.getF_flrAll_below _ (by decide)]
  cases down with
  | false =>
    have act : k.hostReset false = k.flrAll.hostCause := if_neg (by decide)
    rw [act]
    exact ⟨off, link, gone⟩
  | true =>
    have act : k.hostReset true = k.flrAll.hostCause.setF F.LNK_H_ST 0 := if_pos rfl
    rw [act, if_pos rfl, Pkg.getF_setF_same _ _ _ rfl, Nat.zero_mod, Pkg.setF_host]
    exact ⟨off, rfl, fun fn hfn => (gone fn hfn).kept (.setF _ 0 (by decide)) (congrArg HostIf.calls (Pkg.setF_host ..))⟩

theorem hostReset_completes (down : Bool) : Completes (.hostReset p down t₀) s (fun t => (t.pkg p).host.vfEnable = false ∧
    (t.pkg p).getF F.LNK_H_ST = (if down then 0 else ((s.pkg p).at t₀).getF F.LNK_H_ST) ∧
    ∀ fn, fn < 5 → ((s.pkg p).at t₀).Gone fn (t.pkg p)) :=
  completes_of_updPkg (f := fun k => (k.at t₀).hostReset down) rfl fun _ ht => ht ▸ Pkg.hostReset_resets _ down

end

/-- Settles O37: doorbells, coalesced interrupts and the enabling of a queue, then the function-level resets. -/
theorem hostQueuesMoveAndReset : Obligations.HostQueuesMoveAndReset := by
  unfold Obligations.HostQueuesMoveAndReset
  refine ⟨fun s p t₀ => ⟨?_, ?_, ?_, ?_, ?_, ?_, ?_, ?_, ?_⟩, fun s p t₀ => ⟨fun n => ?_, ?_, fun down => ?_⟩⟩
  · exact fun fn q index hown hen hsize hfit => sqDoorbell_moves fn q index hown hen hsize hfit
  · exact fun fn q index h => sqDoorbell_refused fn q index h
  · exact fun fn c index hown hen hsize hnone => cqDoorbell_moves fn c index hown hen hsize hnone
  · exact fun fn c index h => cqDoorbell_refused fn c index h
  · exact fun c x hcoal hx hlate => interruptCoalesceTimeout_completes c x hcoal hx hlate
  · exact fun q data hbit hoff hcq howner hstore hlow hhigh => sqEnable_enables q data hbit hoff hcq howner hstore hlow hhigh
  · exact fun q data hbit hoff h => sqEnable_refused q data hbit hoff h
  · exact fun q data hbit => sqEnable_disables q data hbit
  · exact fun n q data h => sqEnable_foreign n q data h
  · exact (vfFlr_completes s p t₀ n).mono fun t ⟨event, gone, sqs, cqs⟩ => ⟨event, ⟨gone.bar2, gone.sqs, gone.cqs, gone.calls⟩, sqs, cqs⟩
  · exact (pfFlr_completes s p t₀).mono fun t ⟨event, off, gone⟩ =>
      ⟨event, off, fun fn hfn => ⟨(gone fn hfn).bar2, (gone fn hfn).sqs, (gone fn hfn).cqs, (gone fn hfn).calls⟩⟩
  · exact (hostReset_completes s p t₀ down).mono fun t ⟨off, link, gone⟩ =>
      ⟨off, link, fun fn hfn => ⟨(gone fn hfn).bar2, (gone fn hfn).sqs, (gone fn hfn).cqs, (gone fn hfn).calls⟩⟩

end Sys2Proof.Machine
end

section
/-! PROOFS. Cooling (R835–R859): the gates of the units, the θ windows, the trip, and coolant faults. -/

namespace Sys2Proof.Machine

/-! ### Notices that are posted -/

theorem State.postAll_keeps {e : RedfishEvent} (l : List (String × Severity × Nat)) (s : State) (h : e ∈ s.events) :
    e ∈ (l.foldl (fun s n => s.post n.1 n.2.1 n.2.2) s).events :=
  List.foldlRecOn l _ (motive := fun t : State => e ∈ t.events) h (fun _ ht _ _ => List.mem_cons_of_mem _ ht)

theorem State.postAll_posts {x : String × Severity × Nat} {l : List (String × Severity × Nat)} (h : x ∈ l) (s : State) :
    ∃ e ∈ (l.foldl (fun s n => s.post n.1 n.2.1 n.2.2) s).events, e.name = x.1 ∧ e.arg = x.2.2 := by
  induction l generalizing s with
  | nil => cases h
  | cons y l ih =>
    rcases List.mem_cons.mp h with rfl | hl
    · exact ⟨_, State.postAll_keeps l _ List.mem_cons_self, rfl, rfl⟩
    · exact ih hl _

/-- A notice of the changed package is among the events. -/
theorem State.updPost_posts (s : State) (p : PkgId) (f : Pkg → Pkg) {x : String × Severity × Nat} (h : x ∈ (f (s.pkg p)).notices) :
    ∃ e ∈ (s.updPost p f).events, e.name = x.1 ∧ e.arg = x.2.2 := by
  unfold State.updPost State.postNotices
  exact State.postAll_posts (by rw [State.pkg_updPkg_same]; exact h) _

theorem completes_of_updPost {c : Instr} {f : Pkg → Pkg} {P : State → Prop} {s : State} {p : PkgId}
    (hexec : exec c s = .next (s.updPost p f)) (h : ∀ t : State, t.pkg p = { f (s.pkg p) with notices := [] } → P t) : Completes c s P :=
  ⟨_, hexec, h _ (State.pkg_updPost_same ..)⟩

/-! ### A unit's gate (R844) -/

theorem Pkg.getF_notice (k : Pkg) (n : String) (v : Severity) (a : Nat) (f : Fld) : (k.notice n v a).getF f = k.getF f := rfl

theorem Pkg.setThermalGate_cases (k : Pkg) (f : Fld) (g : Nat) :
    k.setThermalGate f g = k.setF f g ∨ k.setThermalGate f g = ((k.raise F.THM_EV_THROTTLE).inc (F.THM_COUNTS 0)).setF f g := by
  by_cases h : k.getF f = 0 ∧ g ≠ 0
  · exact .inr (congrArg (Pkg.setF · f g) (if_pos h))
  · exact .inl (congrArg (Pkg.setF · f g) (if_neg h))

/-- The fields that a gate `f` and what counts it leave alone. -/
structure Fld.gateApart (f g : Fld) : Prop where
  own : f.apart g = true
  event : g.off ≠ 0x700500
  counts : g.off ≠ 0x700600 ∧ g.off ≠ 0x700608

theorem Pkg.getF_setThermalGate (k : Pkg) {f g : Fld} (h : f.gateApart g) (v : Nat) : (k.setThermalGate f v).getF g = k.getF g := by
  obtain e | e := k.setThermalGate_cases f v <;> rw [e, Pkg.getF_setF_apart _ _ g _ h.own]
  rw [Pkg.getF_inc_apart _ _ g (Fld.apart_of_off h.counts.1.symm), Pkg.getF_raise_apart _ _ g (Fld.apart_of_off h.event.symm)]

theorem Pkg.getF_setThermalGate_same (k : Pkg) {f : Fld} (hf : f.fits = true) (v : Nat) :
    (k.setThermalGate f v).getF f = v % 2 ^ f.width := by
  obtain e | e := k.setThermalGate_cases f v <;> rw [e, Pkg.getF_setF_same _ _ _ hf]

theorem Pkg.setThermalGate_frame (k : Pkg) (f : Fld) (v : Nat) : ∃ r, k.setThermalGate f v = { k with regs := r } := by
  obtain e | e := k.setThermalGate_cases f v <;> exact ⟨_, e⟩

/-- Reaching the limit is counted and announced (R844). -/
def Pkg.hardReached (k : Pkg) (unit before : Nat) : Pkg :=
  if before < k.hardAt then ((k.raise F.THM_EV_HARD).inc (F.THM_COUNTS 1)).notice "ThermalHardLimit" .critical unit else k

theorem Pkg.hardReached_frame (k : Pkg) (unit before : Nat) : ∃ r n, k.hardReached unit before = { k with regs := r, notices := n } := by
  unfold Pkg.hardReached
  split <;> exact ⟨_, _, rfl⟩

theorem Pkg.getF_hardReached (k : Pkg) (unit before : Nat) {g : Fld} (he : g.off ≠ 0x700500) (hc : g.off ≠ 0x700608) :
    (k.hardReached unit before).getF g = k.getF g := by
  unfold Pkg.hardReached
  split
  · rw [Pkg.getF_notice, Pkg.getF_inc_apart _ _ g (Fld.apart_of_off hc.symm), Pkg.getF_raise_apart _ _ g (Fld.apart_of_off he.symm)]
  · rfl

/-- Below the limit nothing happens; at it the gate is set. -/
theorem Pkg.hardLimit_below {k : Pkg} {now : Nat} (h : now < k.hardAt) (f : Fld) (unit before : Nat) : k.hardLimit f unit now before = k := if_pos h

theorem Pkg.hardLimit_at {k : Pkg} {now : Nat} (h : k.hardAt ≤ now) (f : Fld) (unit before : Nat) :
    k.hardLimit f unit now before = (k.setThermalGate f 15).hardReached unit before := if_neg (Nat.not_lt.mpr h)

theorem Pkg.hardLimit_cases (k : Pkg) (f : Fld) (unit now before : Nat) :
    k.hardLimit f unit now before = k ∨ k.hardLimit f unit now before = (k.setThermalGate f 15).hardReached unit before :=
  (Nat.lt_or_ge now k.hardAt).imp (Pkg.hardLimit_below · f unit before) (Pkg.hardLimit_at · f unit before)

theorem Pkg.hardLimit_frame (k : Pkg) (f : Fld) (unit now before : Nat) :
    ∃ r n, k.hardLimit f unit now before = { k with regs := r, notices := n } := by
  obtain e | e := k.hardLimit_cases f unit now before
  · exact ⟨k.regs, k.notices, e⟩
  · obtain ⟨r, er⟩ := k.setThermalGate_frame f 15
    obtain ⟨r', n, er'⟩ := (k.setThermalGate f 15).hardReached_frame unit before
    exact ⟨r', n, by rw [e, er', er]⟩

theorem Pkg.hardLimit_therm (k : Pkg) (f : Fld) (unit now before : Nat) : (k.hardLimit f unit now before).therm = k.therm := by
  obtain ⟨r, n, e⟩ := k.hardLimit_frame f unit now before
  rw [e]

theorem Pkg.getF_hardLimit (k : Pkg) {f g : Fld} (h : f.gateApart g) (unit now before : Nat) :
    (k.hardLimit f unit now before).getF g = k.getF g := by
  obtain e | e := k.hardLimit_cases f unit now before <;> rw [e]
  rw [Pkg.getF_hardReached _ _ _ h.event h.counts.2, Pkg.getF_setThermalGate k h]

/-- A unit at the limit is gated at once. -/
theorem Pkg.getF_hardLimit_at {k : Pkg} {now : Nat} (h : k.hardAt ≤ now) {f : Fld} (hf : f.fits = true) (hw : f.width = 4)
    (he : f.off ≠ 0x700500) (hc : f.off ≠ 0x700608) (unit before : Nat) : (k.hardLimit f unit now before).getF f = 15 := by
  rw [Pkg.hardLimit_at h, Pkg.getF_hardReached _ _ _ he hc, Pkg.getF_setThermalGate_same k hf, hw]; rfl

/-- The limits a package goes by: they stand in its configuration and its lineup. -/
theorem Pkg.hardAt_congr {k j : Pkg} (hl : j.lup.active = k.lup.active) (hf : j.getF F.TH_HARD = k.getF F.TH_HARD) : j.hardAt = k.hardAt := by
  unfold Pkg.hardAt; rw [hl, hf]

theorem Pkg.throttleAt_congr {k j : Pkg} (hl : j.lup.active = k.lup.active) (hf : j.getF F.TH_THROTTLE = k.getF F.TH_THROTTLE) :
    j.throttleAt = k.throttleAt := by
  unfold Pkg.throttleAt; rw [hl, hf]

theorem Pkg.hardAt_hardLimit (k : Pkg) {f : Fld} (h : f.gateApart F.TH_HARD) (unit now before : Nat) :
    (k.hardLimit f unit now before).hardAt = k.hardAt := by
  refine Pkg.hardAt_congr ?_ (Pkg.getF_hardLimit k h unit now before)
  obtain ⟨r, n, e⟩ := k.hardLimit_frame f unit now before
  rw [e]

/-! ### What the gates of the cores and of the hub leave alone -/

theorem coreGate_apart {c : Nat} (hc : c < 64) {g : Fld} (h : g.off < 0x700100 ∨ 0x700200 ≤ g.off) (he : g.off ≠ 0x700500)
    (hn : g.off ≠ 0x700600 ∧ g.off ≠ 0x700608) : (F.THM_CORE_GATE c).gateApart g :=
  ⟨Fld.apart_of_off (by simp only [F.THM_CORE_GATE]; omega), he, hn⟩

theorem coreGate_apart_other {c d : Nat} (h : c ≠ d) (hd : d < 64) : (F.THM_CORE_GATE c).gateApart (F.THM_CORE_GATE d) :=
  ⟨Fld.apart_of_off (by simp only [F.THM_CORE_GATE]; omega), by simp only [F.THM_CORE_GATE]; omega, by simp only [F.THM_CORE_GATE]; omega⟩

theorem hubGate_apart {g : Fld} (h : g.off < 0x700200) : F.THM_HUB_GATE.gateApart g :=
  ⟨Fld.apart_of_off (by simp only [F.THM_HUB_GATE]; omega), by omega, by omega⟩

theorem gateFree_core (c : Nat) (hc : c < 64) : (F.THM_CORE_GATE c).gateFree :=
  Fld.gateFree_of_off (.inr (by simp only [F.THM_CORE_GATE]; omega))

theorem Pkg.gatesShown_therm (k : Pkg) : k.gatesShown.therm = k.therm := by
  unfold Pkg.gatesShown
  rw [foldl_keeps (v := Pkg.therm) (f := Pkg.gateCore) (List.range 64) _ (fun _ _ _ => rfl),
    foldl_keeps (v := Pkg.therm) (f := Pkg.gateCluster) (List.range 4) _ (fun _ _ _ => rfl)]

theorem Pkg.updPower_therm (k : Pkg) (g : Power → Power) : (k.updPower g).therm = k.therm := rfl

theorem Pkg.showGates_therm (k : Pkg) : k.showGates.therm = k.therm := by
  rw [Pkg.showGates_eq, Pkg.updPower_therm, Pkg.gatesShown_therm]

theorem Pkg.getF_countGated (k : Pkg) {g : Fld} (h : F.THM_GATED.apart g = true) : k.countGated.getF g = k.getF g :=
  Pkg.getF_setF_apart _ _ g _ h

end Sys2Proof.Machine
end

section
/-! PROOFS. Cooling commands (R835–R849): the samples, the throttle, the trip and the supply readings. -/

namespace Sys2Proof.Machine

/-! ### JUNCTION_SAMPLE (R835, R844) -/

/-- A core at its turn of the hard limit; `last` is the sample before. -/
def Pkg.coreLimit (cores : List Nat) (last : Option (List Nat × Nat)) (k : Pkg) (c : Nat) : Pkg :=
  k.hardLimit (F.THM_CORE_GATE c) c (cores.getD c 0) ((last.map (fun x => x.1.getD c 0)).getD 0)

/-- All cores have had their turn. -/
def Pkg.coresLimited (k : Pkg) (cores : List Nat) (last : Option (List Nat × Nat)) : Pkg :=
  (List.range 64).foldl (Pkg.coreLimit cores last) k

/-- The hottest units are shown, and the gates. -/
def Pkg.showHottest (k : Pkg) (cores : List Nat) (hub : Nat) : Pkg :=
  let junctions := ((List.range 64).zip cores) ++ [(0x40, hub)]
  let units := junctions ++ ((List.range 8).map (fun i => (0x48 + i, k.therm.stackReads.getD i 0)))
  let k := (k.setF F.THM_HOT_TJ ((hottestUnit junctions).2 / 100)).setF F.THM_HOT_UNIT (hottestUnit units).1
  ((k.setF F.THM_HUB_TJ (hub / 100)).countGated).showGates

def Pkg.hubLimited (k : Pkg) (cores : List Nat) (hub : Nat) : Pkg :=
  ((k.sampleJunctions cores hub).coresLimited cores k.therm.samples.head?).hardLimit F.THM_HUB_GATE 0x40 hub
    ((k.therm.samples.head?.map Prod.snd).getD 0)

theorem exec_junctionSample (s : State) (p : PkgId) (cores : List Nat) (hub t₀ : Nat) : exec (.junctionSample p cores hub t₀) s =
    .next (s.updPost p (fun k => ((k.at t₀).hubLimited cores hub).showHottest cores hub)) := by
  change execJunctionSample p cores hub t₀ s = _
  unfold execJunctionSample Pkg.showHottest Pkg.hubLimited Pkg.coresLimited Pkg.coreLimit
  rfl

theorem Pkg.sampleJunctions_hardAt (k : Pkg) (cores : List Nat) (hub : Nat) : (k.sampleJunctions cores hub).hardAt = k.hardAt := rfl

theorem Pkg.getF_sampleJunctions (k : Pkg) (cores : List Nat) (hub : Nat) (f : Fld) : (k.sampleJunctions cores hub).getF f = k.getF f := rfl

section
variable (k : Pkg) (cores : List Nat) (last : Option (List Nat × Nat))

theorem Pkg.coresLimited_therm : (k.coresLimited cores last).therm = k.therm :=
  foldl_keeps (v := Pkg.therm) (f := Pkg.coreLimit cores last) (List.range 64) k (fun _ _ _ => Pkg.hardLimit_therm ..)

theorem Pkg.coresLimited_hardAt : (k.coresLimited cores last).hardAt = k.hardAt :=
  foldl_keeps (v := Pkg.hardAt) (f := Pkg.coreLimit cores last) (List.range 64) k fun j _ hc =>
    Pkg.hardAt_hardLimit j (coreGate_apart (List.mem_range.mp hc) (by decide) (by decide) (by decide)) ..

theorem Pkg.getF_coresLimited_hot {c : Nat} (hc : c < 64) (h : k.hardAt ≤ cores.getD c 0) :
    (k.coresLimited cores last).getF (F.THM_CORE_GATE c) = 15 := by
  refine foldl_range_getF (op := Pkg.coreLimit cores last) (A := fun j => j.hardAt = k.hardAt) hc (fun j x hj => ?_) (fun j hj => ?_)
    (fun j x ne => ?_) rfl
  · refine (Pkg.hardAt_hardLimit j ⟨Fld.apart_of_off ?_, by decide, by decide⟩ ..).trans hj
    simp only [F.THM_CORE_GATE, F.TH_HARD]; omega
  · exact Pkg.getF_hardLimit_at (hj.symm ▸ h) rfl rfl (by simp only [F.THM_CORE_GATE]; omega) (by simp only [F.THM_CORE_GATE]; omega) _ _
  · exact Pkg.getF_hardLimit j (coreGate_apart_other ne hc) _ _ _

theorem Pkg.getF_coresLimited_cool {c : Nat} (hc : c < 64) (h : cores.getD c 0 < k.hardAt) :
    (k.coresLimited cores last).getF (F.THM_CORE_GATE c) = k.getF (F.THM_CORE_GATE c) := by
  refine foldl_range_getF (op := Pkg.coreLimit cores last) (A := fun j => j.hardAt = k.hardAt ∧ j.getF (F.THM_CORE_GATE c) = k.getF (F.THM_CORE_GATE c))
    hc (fun j x hj => ⟨?_, ?_⟩) (fun j hj => ?_) (fun j x ne => ?_) ⟨rfl, rfl⟩
  · refine (Pkg.hardAt_hardLimit j ⟨Fld.apart_of_off ?_, by decide, by decide⟩ ..).trans hj.1
    simp only [F.THM_CORE_GATE, F.TH_HARD]; omega
  · by_cases e : x = c
    · rw [e, Pkg.coreLimit, Pkg.hardLimit_below (hj.1.symm ▸ h)]; exact hj.2
    · exact (Pkg.getF_hardLimit j (coreGate_apart_other e hc) _ _ _).trans hj.2
  · rw [Pkg.coreLimit, Pkg.hardLimit_below (hj.1.symm ▸ h)]; exact hj.2
  · exact Pkg.getF_hardLimit j (coreGate_apart_other ne hc) _ _ _

theorem Pkg.showHottest_therm (hub : Nat) : (k.showHottest cores hub).therm = k.therm :=
  Pkg.showGates_therm _

theorem Pkg.getF_showHottest (hub : Nat) {f : Fld} (hf : 0x700100 ≤ f.off ∧ f.off < 0x1000000) (hu : F.THM_HUB_TJ.apart f = true) :
    (k.showHottest cores hub).getF f = k.getF f := by
  have top {g : Fld} (hg : g.off = 0x700000) : g.apart f = true := Fld.apart_of_off (by omega)
  refine (Pkg.getF_showGates _ (Fld.gateFree_of_off (.inr (by omega)))).trans ((Pkg.getF_countGated _ (top rfl)).trans ?_)
  rw [Pkg.getF_setF_apart _ _ f _ hu, Pkg.getF_setF_apart _ _ f _ (top rfl), Pkg.getF_setF_apart _ _ f _ (top rfl)]

theorem Pkg.getF_showHottest_hub (hub : Nat) : (k.showHottest cores hub).getF F.THM_HUB_TJ = hub / 100 % 2 ^ 8 := by
  refine (Pkg.getF_showGates _ (Fld.gateFree_of_off (.inr (by decide)))).trans ((Pkg.getF_countGated _ (by decide)).trans ?_)
  exact Pkg.getF_setF_same _ _ _ rfl

end

theorem Pkg.hubLimited_therm (k : Pkg) (cores : List Nat) (hub : Nat) : (k.hubLimited cores hub).therm = (k.sampleJunctions cores hub).therm := by
  rw [Pkg.hubLimited, Pkg.hardLimit_therm, Pkg.coresLimited_therm]

theorem hubGate_apart_core {c : Nat} (hc : c < 64) : F.THM_HUB_GATE.gateApart (F.THM_CORE_GATE c) :=
  hubGate_apart (by simp only [F.THM_CORE_GATE]; omega)

/-- R835, R844: the readings are kept; a core at the limit is gated at once and a cooler one stays as it is. -/
theorem Pkg.junctions_show (k : Pkg) (cores : List Nat) (hub : Nat) :
    let j := (k.hubLimited cores hub).showHottest cores hub
    j.therm.samples = ((cores, hub) :: k.therm.samples).take 10 ∧ j.getF F.THM_HUB_TJ = hub / 100 % 2 ^ 8 ∧
    (∀ c, c < 64 → k.hardAt ≤ cores.getD c 0 → j.getF (F.THM_CORE_GATE c) = 15) ∧
    (∀ c, c < 64 → cores.getD c 0 < k.hardAt → j.getF (F.THM_CORE_GATE c) = k.getF (F.THM_CORE_GATE c)) ∧
    (k.hardAt ≤ hub → j.getF F.THM_HUB_GATE = 15) := by
  intro j
  have core {c : Nat} (hc : c < 64) : j.getF (F.THM_CORE_GATE c) =
      ((k.sampleJunctions cores hub).coresLimited cores k.therm.samples.head?).getF (F.THM_CORE_GATE c) :=
    (Pkg.getF_showHottest _ _ _ (by simp only [F.THM_CORE_GATE]; omega)
      (Fld.apart_of_off (by simp only [F.THM_CORE_GATE, F.THM_HUB_TJ]; omega))).trans
      (Pkg.getF_hardLimit _ (hubGate_apart_core hc) _ _ _)
  refine ⟨?_, Pkg.getF_showHottest_hub .., fun c hc hot => ?_, fun c hc cool => ?_, fun hot => ?_⟩
  · rw [Pkg.showHottest_therm, Pkg.hubLimited_therm]; rfl
  · rw [core hc, Pkg.getF_coresLimited_hot _ _ _ hc (by rw [Pkg.sampleJunctions_hardAt]; exact hot)]
  · rw [core hc, Pkg.getF_coresLimited_cool _ _ _ hc (by rw [Pkg.sampleJunctions_hardAt]; exact cool), Pkg.getF_sampleJunctions]
  · refine (Pkg.getF_showHottest _ _ _ (by decide) (by decide)).trans (Pkg.getF_hardLimit_at ?_ rfl rfl (by decide) (by decide) _ _)
    rw [Pkg.coresLimited_hardAt]; exact hot

/-! ### HBM_TEMPERATURE_SAMPLE (R835, R844) -/

/-- The readings of the stacks. -/
def stackTemps (temps : List Nat) : List Nat := (List.range 8).map (fun i => temps.getD i 0)

theorem stackTemps_getD (temps : List Nat) {i : Nat} (h : i < 8) : (stackTemps temps).getD i 0 = temps.getD i 0 := by
  simp [stackTemps, List.getD, h]

/-- The readings are kept. -/
def Pkg.stacksRead (k : Pkg) (temps : List Nat) : Pkg :=
  k.updTherm (fun x => { x with
    stackReads := stackTemps temps
    refresh := ((List.range 8).map (fun i => if 9500 ≤ (stackTemps temps).getD i 0 then 2 ^ i else 0)).sum
    winBad := x.winBad || (stackTemps temps).any (fun x => decide (k.hardAt ≤ x)) })

theorem Pkg.stacksRead_hardAt (k : Pkg) (temps : List Nat) : (k.stacksRead temps).hardAt = k.hardAt := rfl

/-- A stack at its turn: its register, then the hard limit as the hub's. -/
def Pkg.stackLimit (temps old : List Nat) (k : Pkg) (i : Nat) : Pkg :=
  (k.setF (F.HBM_TEMP i) ((stackTemps temps).getD i 0 / 100)).hardLimit F.THM_HUB_GATE (0x48 + i) ((stackTemps temps).getD i 0) (old.getD i 0)

theorem exec_hbmTemperatureSample (s : State) (p : PkgId) (temps : List Nat) (t₀ : Nat) : exec (.hbmTemperatureSample p temps t₀) s =
    .next (s.updPost p (fun k =>
      ((List.range 8).foldl (Pkg.stackLimit temps (k.at t₀).therm.stackReads) ((k.at t₀).stacksRead temps)).showGates)) := rfl

section
variable (k : Pkg) (temps old : List Nat)

theorem Pkg.stackLimit_hardAt (i : Nat) : (k.stackLimit temps old i).hardAt = k.hardAt :=
  (Pkg.hardAt_hardLimit _ (hubGate_apart (by decide)) _ _ _).trans
    (Pkg.hardAt_congr rfl (Pkg.getF_setF_apart _ _ _ _ (Fld.apart_of_off (by simp only [F.HBM_TEMP, F.TH_HARD]; omega))))

theorem Pkg.getF_stacksLimited_temp {i : Nat} (hi : i < 8) :
    ((List.range 8).foldl (Pkg.stackLimit temps old) k).getF (F.HBM_TEMP i) = temps.getD i 0 / 100 % 2 ^ 8 := by
  have off (x : Nat) : F.THM_HUB_GATE.gateApart (F.HBM_TEMP x) :=
    ⟨Fld.apart_of_off (by simp only [F.THM_HUB_GATE, F.HBM_TEMP]; omega), by simp only [F.HBM_TEMP]; omega, by simp only [F.HBM_TEMP]; omega⟩
  refine foldl_range_getF (op := Pkg.stackLimit temps old) (A := fun _ => True) hi (fun _ _ _ => trivial) (fun j _ => ?_) (fun j x ne => ?_) trivial
  · rw [Pkg.stackLimit, Pkg.getF_hardLimit _ (off i), Pkg.getF_setF_same _ _ _ rfl, stackTemps_getD _ hi]
    rfl
  · rw [Pkg.stackLimit, Pkg.getF_hardLimit _ (off i), Pkg.getF_setF_apart _ _ _ _ (Fld.apart_of_off (by simp only [F.HBM_TEMP]; omega))]

/-- A hot stack gates the hub, and the gate stays at the other stacks' turns. -/
theorem Pkg.getF_stacksLimited_hub {i : Nat} (hi : i < 8) (h : k.hardAt ≤ temps.getD i 0) :
    ((List.range 8).foldl (Pkg.stackLimit temps old) k).getF F.THM_HUB_GATE = 15 := by
  refine foldl_range_turn (A := fun j => j.hardAt = k.hardAt) (B := fun j => j.getF F.THM_HUB_GATE = 15) (op := Pkg.stackLimit temps old) hi
    (fun j hj => ?_) (fun j x _ _ hj => (Pkg.stackLimit_hardAt ..).trans hj) (fun j x _ hj => ?_) rfl
  · refine Pkg.getF_hardLimit_at ?_ rfl rfl (by decide) (by decide) _ _
    rw [stackTemps_getD _ hi]
    have same : (j.setF (F.HBM_TEMP i) (temps.getD i 0 / 100)).hardAt = j.hardAt := Pkg.hardAt_congr rfl <|
      Pkg.getF_setF_apart _ _ _ _ (Fld.apart_of_off (by simp only [F.HBM_TEMP, F.TH_HARD]; omega))
    rw [same, hj]; exact h
  · have here : (j.setF (F.HBM_TEMP x) ((stackTemps temps).getD x 0 / 100)).getF F.THM_HUB_GATE = 15 :=
      (Pkg.getF_setF_apart _ _ _ _ (Fld.apart_of_off (by simp only [F.HBM_TEMP, F.THM_HUB_GATE]; omega))).trans hj
    obtain e | e := Pkg.hardLimit_cases (j.setF (F.HBM_TEMP x) ((stackTemps temps).getD x 0 / 100)) F.THM_HUB_GATE (0x48 + x)
      ((stackTemps temps).getD x 0) (old.getD x 0) <;> rw [Pkg.stackLimit, e]
    · exact here
    · rw [Pkg.getF_hardReached _ _ _ (by decide) (by decide), Pkg.getF_setThermalGate_same _ rfl]; rfl

end

/-- R835, R844: the stacks' readings are shown, and a stack at the limit gates the hub. -/
theorem Pkg.stacks_show (k : Pkg) (temps : List Nat) :
    let j := ((List.range 8).foldl (Pkg.stackLimit temps k.therm.stackReads) (k.stacksRead temps)).showGates
    j.therm.stackReads = stackTemps temps ∧ (∀ i, i < 8 → j.getF (F.HBM_TEMP i) = temps.getD i 0 / 100 % 2 ^ 8) ∧
    (∀ i, i < 8 → k.hardAt ≤ temps.getD i 0 → j.getF F.THM_HUB_GATE = 15) := by
  intro j
  refine ⟨?_, fun i hi => ?_, fun i hi hot => ?_⟩
  · rw [Pkg.showGates_therm, foldl_keeps (v := Pkg.therm) (f := Pkg.stackLimit temps k.therm.stackReads) (List.range 8) _
      (fun _ _ _ => Pkg.hardLimit_therm ..)]
    rfl
  · rw [Pkg.getF_showGates _ (Fld.gateFree_of_off (.inr (by simp only [F.HBM_TEMP]; omega))), Pkg.getF_stacksLimited_temp _ _ _ hi]
  · rw [Pkg.getF_showGates _ (Fld.gateFree_of_off (.inr (by decide))), Pkg.getF_stacksLimited_hub _ _ _ hi (by rw [Pkg.stacksRead_hardAt]; exact hot)]

/-! ### THERMAL_GATE_UPDATE (R839, R843) -/

theorem stepGate_le {throttle hard g temp : Nat} (h : g ≤ 15) : stepGate throttle hard g temp ≤ 15 := by
  unfold stepGate
  split
  · omega
  · split
    · omega
    · split <;> omega

/-- The mean of a core's last readings. -/
def Pkg.meanCore (k : Pkg) (c : Nat) : Nat := meanNat (k.therm.samples.map (fun x => x.1.getD c 0))

/-- A core at its turn of the throttle. -/
def Pkg.coreStep (k : Pkg) (c : Nat) : Pkg :=
  (k.setF (F.THM_CORE_TJ c) (k.meanCore c / 100)).setThermalGate (F.THM_CORE_GATE c)
    (stepGate k.throttleAt k.hardAt (k.getF (F.THM_CORE_GATE c)) (k.meanCore c))

def Pkg.coresStepped (k : Pkg) : Pkg := (List.range 64).foldl Pkg.coreStep k

/-- The mean of the hub's last readings, or the limit when a stack stands at it. -/
def Pkg.hubMean (k : Pkg) : Nat :=
  if k.therm.stackReads.any (fun x => decide (k.hardAt ≤ x)) then max (meanNat (k.therm.samples.map Prod.snd)) k.hardAt
  else meanNat (k.therm.samples.map Prod.snd)

def Pkg.hubStepped (k : Pkg) : Pkg :=
  k.setThermalGate F.THM_HUB_GATE (stepGate k.throttleAt k.hardAt (k.getF F.THM_HUB_GATE) k.hubMean)

/-- The boost step is 0 while the hub is gated. -/
def Pkg.stepHeld (k : Pkg) : Pkg :=
  if k.getF F.THM_HUB_GATE = 0 ∨ k.getF F.PWR_STEP = 0 then k else ((k.setF F.PWR_STEP 0).inc (F.PWR_COUNTS 6)).setClocks

/-- The throttle's step of a package that has readings. -/
def Pkg.throttled (k : Pkg) : Pkg := (k.coresStepped.hubStepped.stepHeld.countGated).showGates

theorem exec_thermalGateUpdate (s : State) (p : PkgId) (t₀ : Nat) : exec (.thermalGateUpdate p t₀) s =
    .next (s.updPkg p (fun k => if (k.at t₀).therm.samples.isEmpty then k.at t₀ else (k.at t₀).throttled)) := by
  change execThermalGateUpdate p t₀ s = _
  unfold execThermalGateUpdate Pkg.throttled Pkg.stepHeld Pkg.hubStepped Pkg.hubMean Pkg.coresStepped Pkg.coreStep Pkg.meanCore
  rfl

theorem Pkg.coreStep_frame (k : Pkg) (c : Nat) : ∃ r, k.coreStep c = { k with regs := r } := by
  obtain ⟨r, e⟩ := (k.setF (F.THM_CORE_TJ c) (k.meanCore c / 100)).setThermalGate_frame (F.THM_CORE_GATE c)
    (stepGate k.throttleAt k.hardAt (k.getF (F.THM_CORE_GATE c)) (k.meanCore c))
  exact ⟨r, by rw [Pkg.coreStep, e]; rfl⟩

theorem Pkg.getF_coreStep (k : Pkg) {c : Nat} {f : Fld} (hj : (F.THM_CORE_TJ c).apart f = true) (h : (F.THM_CORE_GATE c).gateApart f) :
    (k.coreStep c).getF f = k.getF f := by
  rw [Pkg.coreStep, Pkg.getF_setThermalGate _ h, Pkg.getF_setF_apart _ _ _ _ hj]

theorem Pkg.getF_coreStep_below (k : Pkg) (c : Nat) {f : Fld} (hf : f.off < 0x700100) : (k.coreStep c).getF f = k.getF f :=
  Pkg.getF_coreStep k (Fld.apart_of_off (by simp only [F.THM_CORE_TJ]; omega))
    ⟨Fld.apart_of_off (by simp only [F.THM_CORE_GATE]; omega), by omega, by omega⟩

/-- What a turn of the throttle reads beside the gate. -/
def Pkg.SameLimits (k j : Pkg) : Prop := j.therm = k.therm ∧ j.throttleAt = k.throttleAt ∧ j.hardAt = k.hardAt

theorem Pkg.SameLimits.coreStep {k j : Pkg} (h : k.SameLimits j) (c : Nat) : k.SameLimits (j.coreStep c) := by
  have kept : (j.coreStep c).therm = j.therm ∧ (j.coreStep c).lup = j.lup := by
    obtain ⟨r, e⟩ := j.coreStep_frame c
    rw [e]; exact ⟨rfl, rfl⟩
  have lup := congrArg (fun x => x.active) kept.2
  exact ⟨kept.1.trans h.1, (Pkg.throttleAt_congr lup (j.getF_coreStep_below c (by decide))).trans h.2.1,
    (Pkg.hardAt_congr lup (j.getF_coreStep_below c (by decide))).trans h.2.2⟩

theorem Pkg.getF_coresStepped (k : Pkg) {c : Nat} (hc : c < 64) : k.coresStepped.getF (F.THM_CORE_GATE c) =
    stepGate k.throttleAt k.hardAt (k.getF (F.THM_CORE_GATE c)) (k.meanCore c) := by
  have apart {x : Nat} (ne : x ≠ c) (j : Pkg) : (j.coreStep x).getF (F.THM_CORE_GATE c) = j.getF (F.THM_CORE_GATE c) :=
    Pkg.getF_coreStep j (Fld.apart_of_off (by simp only [F.THM_CORE_TJ, F.THM_CORE_GATE]; omega)) (coreGate_apart_other ne hc)
  refine foldl_ownTurn (A := fun j => k.SameLimits j ∧ j.getF (F.THM_CORE_GATE c) = k.getF (F.THM_CORE_GATE c))
    (B := fun j => j.getF (F.THM_CORE_GATE c) = stepGate k.throttleAt k.hardAt (k.getF (F.THM_CORE_GATE c)) (k.meanCore c))
    (fun j hj => ?_) (fun j x _ ne hj => ⟨hj.1.coreStep x, (apart ne j).trans hj.2⟩) (fun j x _ ne hj => (apart ne j).trans hj)
    List.nodup_range (List.mem_range.mpr hc) ⟨⟨rfl, rfl, rfl⟩, rfl⟩
  obtain ⟨⟨therm, throttle, hard⟩, own⟩ := hj
  rw [Pkg.coreStep, Pkg.getF_setThermalGate_same _ rfl, own, throttle, hard, show j.meanCore c = k.meanCore c by unfold Pkg.meanCore; rw [therm]]
  have lt := stepGate_le (throttle := k.throttleAt) (hard := k.hardAt) (temp := k.meanCore c)
    (Nat.lt_succ_iff.mp (Pkg.getF_lt k (F.THM_CORE_GATE c) : k.getF (F.THM_CORE_GATE c) < 16))
  exact Nat.mod_eq_of_lt (Nat.lt_succ_of_le lt)

theorem Pkg.getF_hubStepped_core (k : Pkg) {c : Nat} (hc : c < 64) : k.hubStepped.getF (F.THM_CORE_GATE c) = k.getF (F.THM_CORE_GATE c) :=
  Pkg.getF_setThermalGate k (hubGate_apart_core hc) _

theorem apart_clock_thermal {f : Fld} (hf : f.off < 0x1000000) (c : Nat) : (F.CORE_CLK_MHZ c).apart f = true :=
  Fld.apart_of_off (by simp only [F.CORE_CLK_MHZ]; omega)

/-- Holding the boost step touches it, its count and the clocks. -/
theorem Pkg.getF_stepHeld (k : Pkg) {f : Fld} (hf : 0x700000 ≤ f.off ∧ f.off < 0x1000000) : k.stepHeld.getF f = k.getF f := by
  unfold Pkg.stepHeld
  split
  · rfl
  · rw [Pkg.getF_setClocks _ (apart_clock_thermal hf.2), Pkg.getF_inc_apart _ _ f (Fld.apart_of_off (by simp only [F.PWR_COUNTS]; omega)),
      Pkg.getF_setF_apart _ _ f _ (Fld.apart_of_off (by simp only [F.PWR_STEP]; omega))]

theorem Pkg.getF_stepHeld_step {k : Pkg} (h : k.getF F.THM_HUB_GATE ≠ 0) : k.stepHeld.getF F.PWR_STEP = 0 := by
  unfold Pkg.stepHeld
  split
  · next h' => exact h'.resolve_left h
  · rw [Pkg.getF_setClocks _ (apart_clock_thermal (by decide)), Pkg.getF_inc_apart _ _ _ (by decide), Pkg.getF_setF_same _ _ _ rfl]
    rfl

/-- R839, R843: each core's gate takes its step; while the hub is gated the boost step is 0. -/
theorem Pkg.throttled_shows (k : Pkg) : (∀ c, c < 64 → k.throttled.getF (F.THM_CORE_GATE c) =
      stepGate k.throttleAt k.hardAt (k.getF (F.THM_CORE_GATE c)) (k.meanCore c)) ∧
    (k.throttled.getF F.THM_HUB_GATE ≠ 0 → k.throttled.getF F.PWR_STEP = 0) := by
  refine ⟨fun c hc => ?_, ?_⟩
  · rw [Pkg.throttled, Pkg.getF_showGates _ (gateFree_core c hc),
      Pkg.getF_countGated _ (Fld.apart_of_off (by simp only [F.THM_GATED, F.THM_CORE_GATE]; omega)),
      Pkg.getF_stepHeld _ (by simp only [F.THM_CORE_GATE]; omega), Pkg.getF_hubStepped_core _ hc, Pkg.getF_coresStepped k hc]
  · rw [Pkg.throttled, Pkg.getF_showGates _ (Fld.gateFree_of_off (.inr (by decide))), Pkg.getF_countGated _ (by decide),
      Pkg.getF_stepHeld _ (by decide), Pkg.getF_showGates _ (Fld.gateFree_of_off (.inl (by decide))), Pkg.getF_countGated _ (by decide)]
    exact Pkg.getF_stepHeld_step

/-! ### The trip (R848) -/

theorem Pkg.nextRail_tripped (k : Pkg) (n : Nat) : (k.nextRail n).rails.tripped = k.rails.tripped := by
  induction n with
  | zero => unfold Pkg.nextRail; split <;> rfl
  | succ n ih =>
    unfold Pkg.nextRail
    split
    · exact ih
    · rfl

theorem Pkg.resetNow_rails (k : Pkg) : k.resetNow.rails = k.rails := by
  unfold Pkg.resetNow
  split <;> rfl

theorem Pkg.powerDown_tripped (k : Pkg) : k.powerDown.rails.tripped = k.rails.tripped := by
  unfold Pkg.powerDown
  split
  · rfl
  · refine (Pkg.nextRail_tripped _ 10).trans ?_
    split
    · change k.resetNow.rails.tripped = _
      rw [k.resetNow_rails]
    · rfl

/-- A package that trips, before its power goes down. -/
def Pkg.tripNoted (k : Pkg) : Pkg := (k.recordCause 0x0A 0 0 0).updRails (fun r => { r with tripped := true })

theorem exec_thermalTrip {s : State} {p : PkgId} {t₀ : Nat} (h : (s.pkg p).rails.mode ≠ .off) : exec (.thermalTrip p t₀) s =
    .next ((s.updPkg p (fun _ => ((s.pkg p).at t₀).tripNoted.safetyDown)).post "ThermalTrip" .critical p) := if_neg h

theorem Pkg.tripNoted_safetyDown (k : Pkg) : k.tripNoted.safetyDown.rails.tripped = true ∧ k.tripNoted.safetyDown.rails.held = true ∧
    k.tripNoted.safetyDown.rails.retryAt = none :=
  ⟨Pkg.powerDown_tripped _, rfl, rfl⟩

theorem thermalTrip_completes {s : State} {p : PkgId} {t₀ : Nat} (h : (s.pkg p).rails.mode ≠ .off) :
    Completes (.thermalTrip p t₀) s (fun t => (t.pkg p).rails.tripped = true ∧ (t.pkg p).rails.held = true ∧ (t.pkg p).rails.retryAt = none ∧
      ∃ e ∈ t.events, e.name = "ThermalTrip" ∧ e.arg = p.val ∧ e.id = s.nextEvent) := by
  refine ⟨_, exec_thermalTrip h, ?_⟩
  dsimp only
  rw [State.pkg_post, State.pkg_updPkg_same]
  obtain ⟨tripped, held, retry⟩ := ((s.pkg p).at t₀).tripNoted_safetyDown
  exact ⟨tripped, held, retry, _, List.mem_cons_self, rfl, rfl, rfl⟩

end Sys2Proof.Machine
end

section
/-! PROOFS. Cooling, continued (R836, R850–R859): supply readings, θ windows, release, junction cycles and coolant faults. -/

namespace Sys2Proof.Machine

/-! ### Supply readings (R836) -/

theorem Pkg.getF_updTherm (k : Pkg) (g : Therm → Therm) (f : Fld) : (k.updTherm g).getF f = k.getF f := rfl

/-- A tray limit's writes at a package. -/
theorem Pkg.writeTrayLimit_cases (k : Pkg) (on : Bool) : ∃ v, k.writeTrayLimit on = k.setF F.PWR_TRAY_W v ∨
    k.writeTrayLimit on = (k.setF F.PWR_TRAY_W v).raise F.PWR_EV_TRAY_LIMIT := by
  refine ⟨if on then k.getF F.PWR_CFG_SAFE else 0, ?_⟩
  by_cases h : (if on then k.getF F.PWR_CFG_SAFE else 0) = 0
  · exact .inl (if_pos h)
  · exact .inr (if_neg h)

theorem Pkg.getF_writeTrayLimit (k : Pkg) (on : Bool) {f : Fld} (h₁ : F.PWR_TRAY_W.apart f = true) (h₂ : F.PWR_EV_TRAY_LIMIT.apart f = true) :
    (k.writeTrayLimit on).getF f = k.getF f := by
  obtain ⟨v, e | e⟩ := k.writeTrayLimit_cases on <;> rw [e]
  · exact Pkg.getF_setF_apart _ _ f _ h₁
  · rw [Pkg.getF_raise_apart _ _ f h₂, Pkg.getF_setF_apart _ _ f _ h₁]

theorem Pkg.writeTrayLimit_frame (k : Pkg) (on : Bool) : ∃ r, k.writeTrayLimit on = { k with regs := r } := by
  obtain ⟨v, e | e⟩ := k.writeTrayLimit_cases on <;> exact ⟨_, e⟩

theorem Pkg.getF_writeTrayLimit_off (k : Pkg) : (k.writeTrayLimit false).getF F.PWR_TRAY_W = 0 := Pkg.getF_setF_same _ _ _ rfl

/-- What the TMC writes at a package of its tray: a reading, and a limit that a reset has cleared. -/
def Pkg.supplyRead (temp : Int) (flow : Nat) (k : Pkg) : Pkg :=
  (((k.setF F.THM_SUP_TEMP (ofSigned 16 temp)).setF F.THM_SUP_FLOW flow).raise F.THM_SUP_VALID).updTherm (fun x => { x with supplyAt := k.now })

def Pkg.limitAgain (limited : Bool) (k : Pkg) : Pkg := if limited ∧ k.getF F.PWR_TRAY_W = 0 then k.writeTrayLimit true else k

theorem Pkg.limitAgain_therm (limited : Bool) (k : Pkg) : (k.limitAgain limited).therm = k.therm := by
  unfold Pkg.limitAgain
  split
  · obtain ⟨r, e⟩ := k.writeTrayLimit_frame true
    rw [e]
  · rfl

theorem Pkg.getF_limitAgain (limited : Bool) (k : Pkg) {f : Fld} (h₁ : F.PWR_TRAY_W.apart f = true) (h₂ : F.PWR_EV_TRAY_LIMIT.apart f = true) :
    (k.limitAgain limited).getF f = k.getF f := by
  unfold Pkg.limitAgain
  split
  · exact Pkg.getF_writeTrayLimit k true h₁ h₂
  · rfl

/-- What an update does to a package of the tray, when the tray is under a limit or not. -/
def Pkg.supplyTold (temp : Int) (flow t₀ : Nat) (limited : Bool) (k : Pkg) : Pkg := ((k.at t₀).supplyRead temp flow).limitAgain limited

theorem exec_supplyUpdate {s : State} {tray : TrayId} (temp : Int) (flow t₀ : Nat) (haux : (s.tray tray).aux = true)
    (hfaults : (s.tray tray).faults = []) : exec (.supplyUpdate tray temp flow t₀) s =
    .next ((trayPkgs tray).foldl (fun t q => t.updNat q (Pkg.supplyTold temp flow t₀ (!(s.tray tray).limits.isEmpty)))
      (s.updTray tray (fun y => { y with supply := temp, flow := flow }))) := by
  have whole (code : Nat) : (s.tray tray).faults.any (fun f => f.1 == code) = false := by rw [hfaults]; rfl
  change execSupplyUpdate tray temp flow t₀ s = _
  unfold execSupplyUpdate
  dsimp only
  rw [if_neg (by rw [haux, whole]; decide)]
  simp only [whole, Bool.false_eq_true, if_false]
  rfl

/-- R836: a reading is written at the packages of the tray, and kept at the TMC. -/
theorem supplyUpdate_completes {s : State} {tray : TrayId} {p : PkgId} (temp : Int) (flow t₀ : Nat) (hp : tray.val = trayOf p)
    (haux : (s.tray tray).aux = true) (hfaults : (s.tray tray).faults = []) :
    Completes (.supplyUpdate tray temp flow t₀) s (fun t => (t.pkg p).getF F.THM_SUP_TEMP = ofSigned 16 temp % 2 ^ 16 ∧
      (t.pkg p).getF F.THM_SUP_FLOW = flow % 2 ^ 11 ∧ (t.pkg p).getF F.THM_SUP_VALID = 1 ∧ (t.pkg p).therm.supplyAt = ((s.pkg p).at t₀).now ∧
      (t.tray tray).supply = temp ∧ (t.tray tray).flow = flow) := by
  refine ⟨_, exec_supplyUpdate temp flow t₀ haux hfaults, ?_⟩
  have pkg := (State.pkg_foldl_updNat (nodup_trayPkgs tray) (s.updTray tray (fun y => { y with supply := temp, flow := flow }))
    (Pkg.supplyTold temp flow t₀ (!(s.tray tray).limits.isEmpty)) p).trans (if_pos (mem_trayPkgs.mpr hp.symm))
  have tray' := (State.PkgsOnly.foldl (trayPkgs tray) (fun t q => State.PkgsOnly.updNat t q
    (Pkg.supplyTold temp flow t₀ (!(s.tray tray).limits.isEmpty)))
    (s.updTray tray (fun y => { y with supply := temp, flow := flow }))).tray tray
  refine ⟨?_, ?_, ?_, ?_, ?_, ?_⟩
  · rw [pkg, Pkg.supplyTold, Pkg.getF_limitAgain _ _ (by decide) (by decide), Pkg.supplyRead, Pkg.getF_updTherm, Pkg.getF_raise_apart _ _ _ (by decide),
      Pkg.getF_setF_apart _ _ _ _ (by decide), Pkg.getF_setF_same _ _ _ rfl]; rfl
  · rw [pkg, Pkg.supplyTold, Pkg.getF_limitAgain _ _ (by decide) (by decide), Pkg.supplyRead, Pkg.getF_updTherm, Pkg.getF_raise_apart _ _ _ (by decide),
      Pkg.getF_setF_same _ _ _ rfl]; rfl
  · rw [pkg, Pkg.supplyTold, Pkg.getF_limitAgain _ _ (by decide) (by decide), Pkg.supplyRead, Pkg.getF_updTherm, Pkg.getF_raise_same _ _ rfl (Nat.le_refl 1)]
  · rw [pkg, Pkg.supplyTold, Pkg.limitAgain_therm]; rfl
  · rw [tray', State.tray_updTray_same s tray.isLt]
  · rw [tray', State.tray_updTray_same s tray.isLt]

/-- R836: a reading that has grown old is no longer valid, and it is told. -/
def Pkg.supplyLost (k : Pkg) : Pkg := (k.setF F.THM_SUP_VALID 0).notice "SensorLost" .warning k.id

theorem exec_supplyStale (s : State) (p : PkgId) (t₀ : Nat) : exec (.supplyStale p t₀) s = .next (s.updPost p (fun k =>
    if (k.at t₀).flag F.THM_SUP_VALID ∧ (k.at t₀).therm.supplyAt + 2000000000 ≤ (k.at t₀).now then (k.at t₀).supplyLost else k.at t₀)) := rfl

theorem supplyStale_completes {s : State} {p : PkgId} {t₀ : Nat} (hvalid : ((s.pkg p).at t₀).getF F.THM_SUP_VALID = 1)
    (hold : ((s.pkg p).at t₀).therm.supplyAt + 2000000000 ≤ ((s.pkg p).at t₀).now) : Completes (.supplyStale p t₀) s (fun t =>
      (t.pkg p).getF F.THM_SUP_VALID = 0 ∧ ∃ e ∈ t.events, e.name = "SensorLost" ∧ e.arg = ((s.pkg p).at t₀).id) := by
  have act : (if ((s.pkg p).at t₀).flag F.THM_SUP_VALID ∧ ((s.pkg p).at t₀).therm.supplyAt + 2000000000 ≤ ((s.pkg p).at t₀).now then
      ((s.pkg p).at t₀).supplyLost else (s.pkg p).at t₀) = ((s.pkg p).at t₀).supplyLost := if_pos ⟨(Pkg.flag_iff ..).mpr hvalid, hold⟩
  refine ⟨_, exec_supplyStale s p t₀, ?_, ?_⟩
  · rw [State.pkg_updPost_same, Pkg.getF_notices, act, Pkg.supplyLost, Pkg.getF_notice, Pkg.getF_setF_same _ _ _ rfl]
    rfl
  · exact State.updPost_posts s p _ (x := ("SensorLost", .warning, ((s.pkg p).at t₀).id))
      (by rw [act]; exact List.mem_append_right _ List.mem_cons_self)

/-! ### Junction cycles (R857) -/

/-- The means of the past minutes, the last one first. -/
def Pkg.minuteMeans (k : Pkg) : List Nat := (k.therm.minTj / k.therm.minN :: k.therm.minutes).take 61

/-- The minute is closed. -/
def Pkg.minuteClosed (k : Pkg) : Pkg := k.updTherm (fun x => { x with minN := 0, minTj := 0, minutes := k.minuteMeans })

/-- The cycle rate is shown, and told when it is high. -/
def Pkg.showRate (k : Pkg) (rate : Nat) : Pkg :=
  if 800 < rate then ((k.setF F.THM_CYCLE_RATE rate).raise F.THM_EV_CYCLING).notice "ThermalCycling" .warning k.id else k.setF F.THM_CYCLE_RATE rate

def Pkg.minuteDone (k : Pkg) : Pkg :=
  if k.minuteMeans.length < 61 then k.minuteClosed else k.minuteClosed.showRate (stepSum k.minuteMeans / 60)

theorem exec_junctionMinute (s : State) (p : PkgId) (t₀ : Nat) : exec (.junctionMinute p t₀) s =
    .next (s.updPost p (fun k => if (k.at t₀).therm.minN = 0 then k.at t₀ else (k.at t₀).minuteDone)) := rfl

theorem Pkg.showRate_shows (k : Pkg) (rate : Nat) : (k.showRate rate).therm = k.therm ∧
    (k.showRate rate).getF F.THM_CYCLE_RATE = rate % 2 ^ 16 ∧ (800 < rate → (k.showRate rate).getF F.THM_EV_CYCLING = 1) := by
  have own : (k.setF F.THM_CYCLE_RATE rate).getF F.THM_CYCLE_RATE = rate % 2 ^ 16 := Pkg.getF_setF_same _ _ _ rfl
  unfold Pkg.showRate
  by_cases h : 800 < rate
  · rw [if_pos h, Pkg.getF_notice, Pkg.getF_notice, Pkg.getF_raise_apart _ _ _ (by decide), Pkg.getF_raise_same _ _ rfl (Nat.le_refl 1)]
    exact ⟨rfl, own, fun _ => rfl⟩
  · rw [if_neg h]
    exact ⟨rfl, own, fun h' => absurd h' h⟩

/-- R857: the mean of the minute is kept; with 61 means the rate is shown. -/
theorem Pkg.minuteDone_shows (k : Pkg) : k.minuteDone.therm.minutes = k.minuteMeans ∧ k.minuteDone.therm.minN = 0 ∧
    (k.minuteMeans.length = 61 → k.minuteDone.getF F.THM_CYCLE_RATE = stepSum k.minuteMeans / 60 % 2 ^ 16 ∧
      (800 < stepSum k.minuteMeans / 60 → k.minuteDone.getF F.THM_EV_CYCLING = 1)) := by
  obtain ⟨therm, rate, event⟩ := k.minuteClosed.showRate_shows (stepSum k.minuteMeans / 60)
  unfold Pkg.minuteDone
  by_cases h : k.minuteMeans.length < 61
  · rw [if_pos h]
    exact ⟨rfl, rfl, fun h' => absurd h' (Nat.ne_of_lt h)⟩
  · rw [if_neg h, therm]
    exact ⟨rfl, rfl, fun _ => ⟨rate, event⟩⟩

/-! ### Release of HOLD (R856) -/

/-- The release of a package on hold. -/
def Pkg.holdReleased (k : Pkg) : Pkg :=
  (((k.setF F.THM_LEVEL 0).setF F.THM_FOLLOW 0).setF F.THM_RUN 0).updTherm (fun x => { x with excess := [] })

/-- Readiness of the slots held here is shown again once the package is ready. -/
def Pkg.readyAgain (k : Pkg) : Pkg :=
  if k.isReady then (List.range 4).foldl (fun k s => if k.slotHeld s then k.raise (F.GLB_PS_READY s) else k) k else k

theorem Pkg.readyAgain_kept (k : Pkg) : CellsKept (0x70 ≤ ·) k k.readyAgain := by
  unfold Pkg.readyAgain
  refine .ite (.foldl _ (fun j s hs => .ite (.setF j 1 ?_) (.refl j)) k) (.refl k)
  have := List.mem_range.mp hs
  simp only [F.GLB_PS_READY]; omega

theorem Pkg.readyAgain_therm (k : Pkg) : k.readyAgain.therm = k.therm := by
  unfold Pkg.readyAgain
  split
  · exact foldl_keeps (v := Pkg.therm) (List.range 4) k fun j s _ => by split <;> rfl
  · rfl

theorem Pkg.refreshCaps_therm (k : Pkg) : k.refreshCaps.therm = k.therm := by
  obtain ⟨r, cap, parts, e⟩ := k.refreshCaps_frame
  rw [e]

/-- The caps lie beside the thermal registers. -/
theorem Pkg.getF_refreshCaps_thermal (k : Pkg) {f : Fld} (h : 0x700000 ≤ f.off) : k.refreshCaps.getF f = k.getF f :=
  Pkg.getF_refreshCaps k (Fld.apart_of_off (by simp only [F.PWR_CAP_NOW]; omega)) (Fld.apart_of_off (by simp only [F.PWR_CEILING]; omega))
    (Fld.apart_of_off (by simp only [F.PWR_FLOOR]; omega)) (Fld.apart_of_off (by simp only [F.PWR_LIMITER]; omega))
    (Fld.apart_of_off (by simp only [F.PWR_RAMP_REF]; omega))

theorem exec_thermalRelease (s : State) (p : PkgId) (t₀ : Nat) : exec (.thermalRelease p .i3c t₀) s =
    .next (s.updPkg p (fun k => (k.at t₀).thermalRelease)) := rfl

theorem Pkg.thermalRelease_refused {k : Pkg} (h : k.getF F.THM_SUP_VALID = 0 ∨ k.getF F.TH_TARGET ≤ k.getF F.THM_HOT_TJ) :
    k.thermalRelease = k.report F.THM_REL_STATUS 0x3A02 .package 0 0 :=
  if_pos (h.imp_left fun h => by rw [(Pkg.flag_eq_false_iff ..).mpr (by rw [h]; decide)]; rfl)

theorem Pkg.thermalRelease_held {k : Pkg} (hvalid : k.getF F.THM_SUP_VALID = 1) (hcool : k.getF F.THM_HOT_TJ < k.getF F.TH_TARGET)
    (hlevel : k.getF F.THM_LEVEL = 3) : k.thermalRelease = ((k.setF F.THM_REL_STATUS 0).holdReleased.readyAgain).refreshCaps := by
  have go : ¬ ((!k.flag F.THM_SUP_VALID) = true ∨ k.getF F.TH_TARGET ≤ k.getF F.THM_HOT_TJ) := by
    rw [(Pkg.flag_iff ..).mpr hvalid]
    simpa using hcool
  have held : ¬ (k.setF F.THM_REL_STATUS 0).getF F.THM_LEVEL ≠ 3 := by
    rw [Pkg.getF_setF_apart _ _ _ _ (by decide)]; exact not_not.mpr hlevel
  exact (if_neg go).trans (if_neg held)

/-- R856: a refused release reports TOO_HOT and leaves the level. -/
theorem thermalRelease_refused {s : State} {p : PkgId} {t₀ : Nat}
    (h : ((s.pkg p).at t₀).getF F.THM_SUP_VALID = 0 ∨ ((s.pkg p).at t₀).getF F.TH_TARGET ≤ ((s.pkg p).at t₀).getF F.THM_HOT_TJ) :
    Completes (.thermalRelease p .i3c t₀) s (fun t => (t.pkg p).getF F.THM_REL_STATUS = 0x3A02 ∧
      (t.pkg p).getF F.THM_LEVEL = ((s.pkg p).at t₀).getF F.THM_LEVEL) :=
  completes_of_updPkg (exec_thermalRelease s p t₀) fun t ht => by
    rw [ht, Pkg.thermalRelease_refused h, Pkg.getF_report (g := F.THM_REL_STATUS) (hg := by decide),
      Pkg.getF_report (g := F.THM_LEVEL) (hg := by decide), Pkg.getF_setF_same _ _ _ rfl, Pkg.getF_setF_apart _ _ _ _ (by decide)]
    exact ⟨rfl, rfl⟩

/-- R856: a release of HOLD returns to NORMAL. -/
theorem thermalRelease_completes {s : State} {p : PkgId} {t₀ : Nat} (hvalid : ((s.pkg p).at t₀).getF F.THM_SUP_VALID = 1)
    (hcool : ((s.pkg p).at t₀).getF F.THM_HOT_TJ < ((s.pkg p).at t₀).getF F.TH_TARGET) (hlevel : ((s.pkg p).at t₀).getF F.THM_LEVEL = 3) :
    Completes (.thermalRelease p .i3c t₀) s (fun t => (t.pkg p).getF F.THM_REL_STATUS = 0 ∧ (t.pkg p).getF F.THM_LEVEL = 0 ∧
      (t.pkg p).getF F.THM_FOLLOW = 0 ∧ (t.pkg p).therm.excess = []) := by
  refine completes_of_updPkg (exec_thermalRelease s p t₀) fun t ht => ?_
  have read {f : Fld} (hf : 0x700000 ≤ f.off) : (t.pkg p).getF f = ((((s.pkg p).at t₀).setF F.THM_REL_STATUS 0).holdReleased).getF f := by
    rw [ht, Pkg.thermalRelease_held hvalid hcool hlevel, Pkg.getF_refreshCaps_thermal _ hf,
      (Pkg.readyAgain_kept _).getF (f := f) (show 0x70 ≤ f.off by omega)]
  refine ⟨?_, ?_, ?_, ?_⟩
  · rw [read (by decide), Pkg.holdReleased, Pkg.getF_updTherm, Pkg.getF_setF_apart _ _ _ _ (by decide), Pkg.getF_setF_apart _ _ _ _ (by decide),
      Pkg.getF_setF_apart _ _ _ _ (by decide), Pkg.getF_setF_same _ _ _ rfl]; rfl
  · rw [read (by decide), Pkg.holdReleased, Pkg.getF_updTherm, Pkg.getF_setF_apart _ _ _ _ (by decide), Pkg.getF_setF_apart _ _ _ _ (by decide),
      Pkg.getF_setF_same _ _ _ rfl]; rfl
  · rw [read (by decide), Pkg.holdReleased, Pkg.getF_updTherm, Pkg.getF_setF_apart _ _ _ _ (by decide), Pkg.getF_setF_same _ _ _ rfl]; rfl
  · rw [ht, Pkg.thermalRelease_held hvalid hcool hlevel, Pkg.refreshCaps_therm, Pkg.readyAgain_therm]; rfl

end Sys2Proof.Machine
end

section
/-! PROOFS. Cooling, the θ windows (R850–R855) and coolant faults (R859); a drain's marks. -/

namespace Sys2Proof.Machine

/-! ### What a drain touches (R726, R730) -/

/-- The commands of a play that a drain ends: those that have not started, and SEQ's. -/
def Play.gone (p : Play) : List Cmd := p.cmds.filter (fun x => x.phase == .queued || x.queue == 3)

/-- A core whose play takes no more words; its first command that is gone is latched. -/
def Pkg.playStopped (k : Pkg) (c : Nat) (p : Play) : Pkg :=
  let j := k.updPlay c (fun p => { p with draining := true, block := none, buf := [] })
  j.latch c ((p.gone.head?.map Cmd.word).getD (j.getF (F.CORE_SEQ_NEXT c))) 0x2101 0

def Pkg.arrivalsLeft (k : Pkg) (c : Nat) : Pkg := { k with arrivals := k.arrivals.filter (fun a => a.who != c) }

theorem Pkg.drainCore_of_none {k : Pkg} {c : Nat} (h : k.play c = none) : k.drainCore c = k := by
  unfold Pkg.drainCore
  rw [h]

theorem Pkg.drainCore_of_play {k : Pkg} {c : Nat} {p : Play} (h : k.play c = some p) : k.drainCore c =
    (p.gone.foldl (fun k x => k.retire c x 0x2101 0) ((k.playStopped c p).arrivalsLeft c)).showSeq c := by
  unfold Pkg.drainCore
  rw [h]
  rfl

/-- Draining a core is the sequencer's work; its barrier arrivals go. -/
theorem Pkg.drainCore_frame (k : Pkg) {c : Nat} (hc : c < 64) : GoOnly k (k.drainCore c) := by
  cases h : k.play c with
  | none => rw [Pkg.drainCore_of_none h]; exact .refl k
  | some p =>
    rw [Pkg.drainCore_of_play h]
    have stopped : GoOnly k (k.playStopped c p) := .ofSeq ((SeqOnly.updPlay k c _).trans (Pkg.latch_frame _ hc _ _ _))
    have retired := SeqOnly.foldl p.gone (fun j x => j.retire_frame hc x 0x2101 0) ((k.playStopped c p).arrivalsLeft c)
    exact (stopped.trans (.ofArrivals (k.playStopped c p) _)).trans (.ofSeq (retired.trans (Pkg.showSeq_frame _ hc)))

/-- The cores of a scope drain. -/
def Pkg.coresDrained (k : Pkg) (scope target : Nat) : Pkg :=
  (List.range 64).foldl (fun k c => if k.scopeHasCore scope target c then k.drainCore c else k) k

theorem Pkg.coresDrained_frame (k : Pkg) (scope target : Nat) : GoOnly k (k.coresDrained scope target) :=
  .foldl _ (fun j _ hc => .ite (j.drainCore_frame (List.mem_range.mp hc)) (.refl j)) k

/-- A drain is recorded, and the slots it closes are marked. -/
def Pkg.drainNoted (k : Pkg) (scope target cause loc : Nat) : Pkg :=
  { k with drains := k.drains.filter (fun (d : Drain) => !k.scopeWithin (d.scope, d.target) (scope, target))
                      ++ [{ scope := scope, target := target, cause := cause, loc := loc, began := k.now }] }

theorem Pkg.drainNoted_kept {P : Nat → Prop} (k : Pkg) (scope target cause loc : Nat) : CellsKept P k (k.drainNoted scope target cause loc) := .ofRegs rfl

def Pkg.slotsClosed (k j : Pkg) (scope target : Nat) : Pkg :=
  ((List.range 4).filter (fun s => decide (4 ≤ scope) && j.slotHeld s || (scope == 3 && s == target))).foldl
    (fun k s => k.setBit F.RST_SLOT_DRAIN s true) k

theorem Pkg.beginDrain_eq (k : Pkg) (scope target cause loc : Nat) : k.beginDrain scope target cause loc =
    ((k.drainNoted scope target cause loc).slotsClosed (k.drainNoted scope target cause loc) scope target).coresDrained scope target := rfl

theorem Pkg.slotsClosed_kept (k j : Pkg) (scope target : Nat) : CellsKept (· ≠ 0x10028) k (k.slotsClosed j scope target) :=
  .foldl _ (fun j _ _ => .setF j _ (by decide)) k

/-- A drain touches the drain bits of the slots, and what the sequencer touches. -/
theorem Pkg.beginDrain_kept (k : Pkg) (scope target cause loc : Nat) :
    CellsKept (fun o => goKeeps o ∧ o ≠ 0x10028) k (k.beginDrain scope target cause loc) := by
  rw [Pkg.beginDrain_eq]
  have closed := Pkg.slotsClosed_kept (k.drainNoted scope target cause loc) (k.drainNoted scope target cause loc) scope target
  have drained := (Pkg.coresDrained_frame ((k.drainNoted scope target cause loc).slotsClosed (k.drainNoted scope target cause loc) scope target)
    scope target).cells
  exact ((k.drainNoted_kept scope target cause loc).trans (closed.mono fun o ho => ho.2)).trans (drained.mono fun o ho => ho.1)

/-! ### Levels (R851–R855) -/

/-- The cells of the level, of θ and of the thermal counts. -/
abbrev levelCells (o : Nat) : Prop := o = 0x700000 ∨ o = 0x700010 ∨ (0x700600 ≤ o ∧ o < 0x800000)

/-- The slots held here drain on entry to HOLD, and their readiness goes. -/
def Pkg.holdDrained (k : Pkg) : Pkg := (List.range 4).foldl (fun k s => if k.slotHeld s ∧ !k.slotClosed s then k.beginDrain 3 s 0 0 else k) k

def Pkg.readyOff (k : Pkg) : Pkg := (List.range 4).foldl (fun k s => k.setF (F.GLB_PS_READY s) 0) k

def Pkg.holdTold (k : Pkg) : Pkg := ((k.setF F.THM_FOLLOW 900).raise F.THM_EV_HOLD).notice "ThermalHold" .critical k.id

theorem Pkg.enterHold_eq (k : Pkg) : k.enterHold = k.holdDrained.readyOff.holdTold := rfl

theorem Pkg.holdDrained_kept (k : Pkg) : CellsKept levelCells k k.holdDrained :=
  .foldl _ (fun j s _ => .ite ((j.beginDrain_kept 3 s 0 0).mono fun o ho => by unfold levelCells at ho; unfold goKeeps seqKeeps; omega) (.refl j)) k

theorem Pkg.readyOff_kept (k : Pkg) : CellsKept levelCells k k.readyOff := by
  refine .foldl _ (fun j s hs => .setF j 0 ?_) k
  have := List.mem_range.mp hs
  simp only [F.GLB_PS_READY]; omega

theorem Pkg.holdTold_kept (k : Pkg) : CellsKept levelCells k k.holdTold :=
  CellsKept.trans ((CellsKept.setF k (f := F.THM_FOLLOW) 900 (by decide)).thenF (f := F.THM_EV_HOLD) 1 (by decide)) (.ofRegs rfl)

theorem Pkg.enterHold_kept (k : Pkg) : CellsKept levelCells k k.enterHold := by
  rw [Pkg.enterHold_eq]
  exact (k.holdDrained_kept.trans (Pkg.readyOff_kept _)).trans (Pkg.holdTold_kept _)

/-- After the level is written, entering it touches neither it, nor θ, nor the counts. -/
theorem Pkg.enterLevel_kept (k : Pkg) (level : Nat) : CellsKept levelCells (k.setF F.THM_LEVEL level) (k.enterLevel level) := by
  generalize h : k.setF F.THM_LEVEL level = j
  have kept (f : Fld) (v : Nat) (hf : ¬ levelCells f.off) (i : Pkg) : CellsKept levelCells i (i.setF f v) := .setF i v hf
  have told (n : String) (v : Severity) (a : Nat) (i : Pkg) : CellsKept levelCells i (i.notice n v a) := .ofRegs rfl
  match level, h with
  | 0, h => exact h ▸ kept F.THM_FOLLOW 0 (by decide) _
  | 1, h => exact h ▸ ((kept F.THM_FOLLOW 0 (by decide) _).trans (kept F.THM_EV_WARN 1 (by decide) _)).trans (told _ _ _ _)
  | 2, h => exact h ▸ (kept F.THM_EV_FOLLOW 1 (by decide) _).trans (told _ _ _ _)
  | n + 3, h => exact h ▸ Pkg.enterHold_kept _

/-- The level and its thresholds are what the next level depends on. -/
theorem Pkg.nextLevel_congr {k j : Pkg} (hl : j.getF F.THM_LEVEL = k.getF F.THM_LEVEL) (hw : j.getF F.TH_WARN = k.getF F.TH_WARN)
    (hf : j.getF F.TH_FOLLOW = k.getF F.TH_FOLLOW) (hh : j.getF F.TH_HOLD = k.getF F.TH_HOLD) (xs : List Int) : j.nextLevel xs = k.nextLevel xs := by
  have threshold (l : Nat) : j.threshold l = k.threshold l := by unfold Pkg.threshold; rw [hw, hf, hh]
  have reaches : j.reaches xs = k.reaches xs := by funext l; unfold Pkg.reaches; rw [threshold]
  unfold Pkg.nextLevel
  simp only [hl, reaches, threshold]

theorem Pkg.nextLevel_lt (k : Pkg) (xs : List Int) : k.nextLevel xs < 8 := by
  have lt : k.getF F.THM_LEVEL < 8 := k.getF_lt F.THM_LEVEL
  unfold Pkg.nextLevel
  dsimp only
  split
  · next l h =>
    have mem : l ∈ [3, 2, 1] := List.mem_of_find?_eq_some h
    have le : ∀ x ∈ [3, 2, 1], x < 8 := by decide
    exact le l mem
  · split <;> omega

/-! ### A θ window (R850) -/

/-- The window is closed; an invalid one is counted. -/
def Pkg.windowClosed (k : Pkg) : Pkg := k.updTherm (fun x => { x with winN := 0, winTj := 0, winTs := 0, winP := 0, winBad := false })

/-- θ of a valid window is counted and shown. -/
def Pkg.thetaShown (k : Pkg) : Pkg := (k.windowClosed.inc (F.THM_COUNTS 2)).setF F.THM_THETA_FP32 (thetaOf k.therm).bits32

/-- The excess of a valid window. -/
def Pkg.windowExcess (k : Pkg) : Int := excessOf (thetaOf k.therm) (k.thetaShown.getF F.THM_BASELINE)

def Pkg.excessShown (k : Pkg) : Pkg :=
  (k.thetaShown.setF F.THM_EXCESS (ofSigned 16 k.windowExcess)).updTherm (fun x => { x with excess := (k.windowExcess :: x.excess).take 6 })

/-- The level takes its step, and the following cap. -/
def Pkg.levelStepped (k : Pkg) (level : Nat) (x : Therm) (th : Num) : Pkg :=
  let k := if level = k.getF F.THM_LEVEL then k else k.enterLevel level
  let k := if level = 2 then k.setF F.THM_FOLLOW (k.followCap x th) else k
  (k.setF F.THM_RUN (k.runLength k.therm.excess)).refreshCaps

theorem Pkg.getF_thetaShown_baseline (k : Pkg) : k.thetaShown.getF F.THM_BASELINE = k.getF F.THM_BASELINE := by
  rw [Pkg.thetaShown, Pkg.getF_setF_apart _ _ _ _ (by decide), Pkg.getF_inc_apart _ _ _ (by decide)]
  rfl

theorem Pkg.thetaWindow_invalid {k : Pkg} (h : k.therm.winBad = true) : k.thetaWindow = k.windowClosed.inc (F.THM_COUNTS 3) :=
  if_pos (.inr (.inl h))

theorem Pkg.thetaWindow_valid {k : Pkg} (hbad : k.therm.winBad = false) (hn : k.therm.winN ≠ 0) (hp : 500000 * k.therm.winN ≤ k.therm.winP)
    (hbase : k.getF F.THM_BASELINE ≠ 0) :
    k.thetaWindow = k.excessShown.levelStepped (k.excessShown.nextLevel k.excessShown.therm.excess) k.therm (thetaOf k.therm) := by
  have valid : ¬ (k.therm.winN = 0 ∨ k.therm.winBad = true ∨ k.therm.winP < 500000 * k.therm.winN) := by
    rw [hbad]
    simp only [hn, Bool.false_eq_true, false_or, Nat.not_lt]
    exact hp
  have base := k.getF_thetaShown_baseline
  refine (if_neg valid).trans ((if_neg (base.symm ▸ hbase : k.thetaShown.getF F.THM_BASELINE ≠ 0)).trans ?_)
  rfl


theorem Pkg.windowExcess_eq (k : Pkg) : k.windowExcess = excessOf (thetaOf k.therm) (k.getF F.THM_BASELINE) := by
  rw [Pkg.windowExcess, Pkg.getF_thetaShown_baseline]

/-- R850: an invalid window is counted, and nothing else moves. -/
theorem Pkg.thetaWindow_invalid_shows {k : Pkg} (h : k.therm.winBad = true) :
    k.thetaWindow.getF (F.THM_COUNTS 3) = min (2 ^ 64 - 1) (k.getF (F.THM_COUNTS 3) + 1) ∧ k.thetaWindow.getF F.THM_LEVEL = k.getF F.THM_LEVEL ∧
      k.thetaWindow.therm.winN = 0 := by
  rw [Pkg.thetaWindow_invalid h, Pkg.getF_inc_same _ _ rfl, Pkg.getF_inc_apart _ _ _ (by decide)]
  exact ⟨rfl, rfl, rfl⟩

theorem Pkg.levelStepped_kept (k : Pkg) (level : Nat) (x : Therm) (th : Num) {f : Fld} (hf : levelCells f.off) (ht : F.THM_RUN.apart f = true)
    (hl : (k.setF F.THM_LEVEL level).getF f = k.getF f) : (k.levelStepped level x th).getF f = k.getF f := by
  have far : 0x700000 ≤ f.off := by unfold levelCells at hf; omega
  have follow (j : Pkg) : (if level = 2 then j.setF F.THM_FOLLOW (j.followCap x th) else j).getF f = j.getF f := by
    split
    · exact Pkg.getF_setF_apart _ _ f _ (Fld.apart_of_off (by unfold levelCells at hf; simp only [F.THM_FOLLOW]; omega))
    · rfl
  unfold Pkg.levelStepped
  dsimp only
  rw [Pkg.getF_refreshCaps_thermal _ far, Pkg.getF_setF_apart _ _ f _ ht, follow]
  split
  · rfl
  · exact ((k.enterLevel_kept level).getF hf).trans hl

theorem Pkg.getF_levelStepped_level (k : Pkg) {level : Nat} (x : Therm) (th : Num) (hlt : level < 8) :
    (k.levelStepped level x th).getF F.THM_LEVEL = level := by
  have follow (j : Pkg) : (if level = 2 then j.setF F.THM_FOLLOW (j.followCap x th) else j).getF F.THM_LEVEL = j.getF F.THM_LEVEL := by
    split
    · exact Pkg.getF_setF_apart _ _ _ _ (by decide)
    · rfl
  unfold Pkg.levelStepped
  dsimp only
  rw [Pkg.getF_refreshCaps_thermal _ (by decide), Pkg.getF_setF_apart _ _ _ _ (by decide), follow]
  split
  · next h => exact h.symm
  · exact ((k.enterLevel_kept level).getF (f := F.THM_LEVEL) (by decide)).trans ((Pkg.getF_setF_same _ _ _ rfl).trans (Nat.mod_eq_of_lt hlt))

theorem Pkg.getF_excessShown (k : Pkg) {f : Fld} (h₁ : F.THM_EXCESS.apart f = true) (h₂ : F.THM_THETA_FP32.apart f = true)
    (h₃ : (F.THM_COUNTS 2).apart f = true) : k.excessShown.getF f = k.getF f := by
  rw [Pkg.excessShown, Pkg.getF_updTherm, Pkg.getF_setF_apart _ _ f _ h₁, Pkg.thetaShown, Pkg.getF_setF_apart _ _ f _ h₂,
    Pkg.getF_inc_apart _ _ f h₃]
  rfl

/-- R850, R851: a valid window is counted, θ is shown, and the level takes its step. -/
theorem Pkg.thetaWindow_valid_shows {k : Pkg} (hbad : k.therm.winBad = false) (hn : k.therm.winN ≠ 0) (hp : 500000 * k.therm.winN ≤ k.therm.winP)
    (hbase : k.getF F.THM_BASELINE ≠ 0) :
    k.thetaWindow.getF (F.THM_COUNTS 2) = min (2 ^ 64 - 1) (k.getF (F.THM_COUNTS 2) + 1) ∧
      k.thetaWindow.getF F.THM_THETA_FP32 = (thetaOf k.therm).bits32 % 2 ^ 32 ∧
      k.thetaWindow.getF F.THM_LEVEL = k.nextLevel ((excessOf (thetaOf k.therm) (k.getF F.THM_BASELINE) :: k.therm.excess).take 6) := by
  have next : k.excessShown.nextLevel k.excessShown.therm.excess =
      k.nextLevel ((excessOf (thetaOf k.therm) (k.getF F.THM_BASELINE) :: k.therm.excess).take 6) := by
    rw [← k.windowExcess_eq]
    exact Pkg.nextLevel_congr (k.getF_excessShown (by decide) (by decide) (by decide)) (k.getF_excessShown (by decide) (by decide) (by decide))
      (k.getF_excessShown (by decide) (by decide) (by decide)) (k.getF_excessShown (by decide) (by decide) (by decide)) _
  rw [Pkg.thetaWindow_valid hbad hn hp hbase, next]
  refine ⟨?_, ?_, Pkg.getF_levelStepped_level _ _ _ (Pkg.nextLevel_lt _ _)⟩
  · rw [Pkg.levelStepped_kept (hf := by decide) (ht := by decide) (hl := Pkg.getF_setF_apart _ _ _ _ (by decide)), Pkg.excessShown,
      Pkg.getF_updTherm, Pkg.getF_setF_apart _ _ _ _ (by decide), Pkg.thetaShown, Pkg.getF_setF_apart _ _ _ _ (by decide),
      Pkg.getF_inc_same _ _ rfl]
    rfl
  · rw [Pkg.levelStepped_kept (hf := by decide) (ht := by decide) (hl := Pkg.getF_setF_apart _ _ _ _ (by decide)), Pkg.excessShown,
      Pkg.getF_updTherm, Pkg.getF_setF_apart _ _ _ _ (by decide), Pkg.thetaShown, Pkg.getF_setF_same _ _ _ rfl]
    rfl

/-! ### Readiness of the partitions (R855) -/

/-- Readiness of one partition, as a package shows it. -/
def Pkg.showPartReady (id : Nat) (ready : Bool) (k : Pkg) : Pkg := (List.range 4).foldl (fun k i =>
  if k.slotHeld i ∧ k.getF (F.LUP_PART_ID i) = id then k.setF (F.GLB_PART_READY i) (if ready then 1 else 0) else k) k

theorem Pkg.showPartReady_frame (id : Nat) (ready : Bool) (k : Pkg) :
    (k.showPartReady id ready).therm = k.therm ∧ CellsKept (0x70 ≤ ·) k (k.showPartReady id ready) := by
  constructor
  · exact foldl_keeps (v := Pkg.therm) (List.range 4) k fun j i _ => by split <;> rfl
  · refine .foldl _ (fun j i hi => .ite (.setF j _ ?_) (.refl j)) k
    have := List.mem_range.mp hi
    simp only [F.GLB_PART_READY]; omega

theorem State.setPartReady_eq (s : State) (id : Nat) (ready : Bool) : s.setPartReady id ready = s.mapPkgs (Pkg.showPartReady id ready) := rfl

/-- Clearing the readiness of partitions touches nothing thermal. -/
theorem State.clearReady_kept (s : State) (p q : PkgId) : ((s.clearReady p).pkg q).therm = (s.pkg q).therm ∧
    CellsKept (0x70 ≤ ·) (s.pkg q) ((s.clearReady p).pkg q) := by
  refine List.foldlRecOn (motive := fun t : State => (t.pkg q).therm = (s.pkg q).therm ∧ CellsKept (0x70 ≤ ·) (s.pkg q) (t.pkg q))
    (List.range 4) _ ⟨rfl, .refl _⟩ (fun t ht i _ => ?_)
  split
  · rw [State.setPartReady_eq, State.pkg_mapPkgs]
    obtain ⟨therm, cells⟩ := Pkg.showPartReady_frame ((s.pkg p).getF (F.LUP_PART_ID i)) false (t.pkg q)
    exact ⟨therm.trans ht.1, ht.2.trans cells⟩
  · exact ht

/-- A window's end is the package's own, but for the readiness of partitions. -/
theorem thetaWindow_completes {s : State} {p : PkgId} {t₀ : Nat} (h : t₀ % 20000000000 = 0) : Completes (.thetaWindow p t₀) s (fun t =>
    (t.pkg p).therm = (((s.pkg p).at t₀).thetaWindow).therm ∧
      ∀ f : Fld, 0x70 ≤ f.off → (t.pkg p).getF f = ((s.pkg p).at t₀).thetaWindow.getF f) := by
  refine ⟨_, if_neg (not_not.mpr h), ?_⟩
  have own := State.pkg_updPost_same s p (fun k => (k.at t₀).thetaWindow)
  split
  · obtain ⟨therm, cells⟩ := (s.updPost p (fun k => (k.at t₀).thetaWindow)).clearReady_kept p p
    exact ⟨therm.trans (by rw [own]), fun f hf => (cells.getF hf).trans (by rw [own, Pkg.getF_notices])⟩
  · exact ⟨by rw [own], fun f _ => by rw [own, Pkg.getF_notices]⟩

/-! ### Coolant faults (R859) -/

section
variable {s : State} {tray : TrayId} {p : PkgId}

/-- A limit that leaves none takes the cap off the packages of the tray. -/
theorem State.pkg_setLimit_of_none (s : State) {n : Nat} (why : Nat) (on : Bool) (p : PkgId) (hp : n = trayOf p)
    (h : limitsAfter why on (s.tray n).limits = []) : (s.setLimit n why on).pkg p = (s.pkg p).writeTrayLimit false := by
  have hn : n < 24 := hp ▸ trayOf_lt p
  have hany : (!((s.updTray n (fun y => { y with limits := limitsAfter why on y.limits })).tray n).limits.isEmpty) = false := by
    rw [State.tray_updTray_same s hn, h]; rfl
  refine (State.pkg_foldl_updNat (nodup_trayPkgs n) _ _ p).trans ((if_pos (mem_trayPkgs.mpr hp.symm)).trans ?_)
  exact congrArg (s.pkg p).writeTrayLimit hany

/-- The condition is noted at the tray, or taken off. -/
def State.condNoted (s : State) (tray : TrayId) (row : Nat) : State := s.updTray tray (fun y => { y with conds := y.conds ++ [row] })

def State.condEnded (s : State) (tray : TrayId) (row : Nat) : State :=
  s.updTray tray (fun y => { y with conds := y.conds.filter (fun x => x != row) })

theorem exec_coolantFault_hot (t₀ : Nat) (h : 1 ∉ (s.tray tray).conds) : exec (.coolantFaultCondition tray 1 t₀) s =
    .next (((s.condNoted tray 1).setLimit tray 1 true).post "CoolantSupplyHigh" .warning tray) := if_neg (by simpa using h)

theorem exec_coolantFault_flow (t₀ : Nat) (h : 5 ∉ (s.tray tray).conds) : exec (.coolantFaultCondition tray 5 t₀) s =
    .next (((s.condNoted tray 5).trayDown tray t₀).post "CoolantFault" .critical tray) := if_neg (by simpa using h)

theorem exec_coolantFault_pressure (t₀ : Nat) (h : 6 ∉ (s.tray tray).conds) : exec (.coolantFaultCondition tray 6 t₀) s =
    .next (({ s.condNoted tray 6 with pressure := true } : State).post "CoolantPressure" .warning 0) := if_neg (by simpa using h)

theorem exec_coolantEnd_flow (h : 4 ∈ (s.tray tray).conds) : exec (.coolantConditionEnd tray 4) s =
    .next ((s.condEnded tray 4).setLimit tray 2 false) := if_neg (by simpa using h)

theorem exec_coolantEnd_pressure (h : 6 ∈ (s.tray tray).conds) : exec (.coolantConditionEnd tray 6) s =
    .next { s.condEnded tray 6 with pressure := false } := if_neg (by simpa using h)

/-- R859, a supply that is too hot: the tray goes under its limit. -/
theorem coolantFault_hot (t₀ : Nat) (hp : tray.val = trayOf p) (h : 1 ∉ (s.tray tray).conds) :
    Completes (.coolantFaultCondition tray 1 t₀) s (fun t => 1 ∈ (t.tray tray).conds ∧ 1 ∈ (t.tray tray).limits ∧
      (t.pkg p).getF F.PWR_TRAY_W = (s.pkg p).getF F.PWR_CFG_SAFE) := by
  refine ⟨_, exec_coolantFault_hot t₀ h, ?_⟩
  have limit : ((s.condNoted tray 1).setLimit tray 1 true).pkg p = (s.pkg p).writeTrayLimit true := by
    rw [hp, State.pkg_setLimit_on]
    rfl
  dsimp only
  rw [State.tray_post, State.tray_setLimit_same _ tray.isLt, State.condNoted, State.tray_updTray_same s tray.isLt, State.pkg_post]
  exact ⟨List.mem_append_right _ List.mem_cons_self, mem_limitsAfter_on ..,
    (congrArg (Pkg.getF · F.PWR_TRAY_W) limit).trans (Pkg.getF_writeTrayLimit_on _)⟩

/-- R859, no flow: the packages of the tray are powered down. -/
theorem coolantFault_flow (t₀ : Nat) (hp : tray.val = trayOf p) (h : 5 ∉ (s.tray tray).conds) :
    Completes (.coolantFaultCondition tray 5 t₀) s (fun t => 5 ∈ (t.tray tray).conds ∧ (t.pkg p).rails.held = true ∧
      (t.pkg p).rails.fault = true) := by
  refine ⟨_, exec_coolantFault_flow t₀ h, ?_⟩
  have down : ((s.condNoted tray 5).trayDown tray t₀).pkg p = ((s.pkg p).at t₀).safetyDown :=
    (State.pkg_foldl_updNat (nodup_trayPkgs tray) _ _ p).trans (if_pos (mem_trayPkgs.mpr hp.symm))
  have same : ((s.condNoted tray 5).trayDown tray t₀).tray tray = (s.condNoted tray 5).tray tray :=
    (State.PkgsOnly.foldl _ (fun s q => State.PkgsOnly.updNat s q _) _).tray _
  dsimp only
  rw [State.tray_post, State.pkg_post, same, down, State.condNoted, State.tray_updTray_same s tray.isLt]
  exact ⟨List.mem_append_right _ List.mem_cons_self, rfl, rfl⟩

/-- R859, flow again: the tray's last limit goes, and with it its packages'. -/
theorem coolantEnd_flow (hp : tray.val = trayOf p) (h : 4 ∈ (s.tray tray).conds) (hl : (s.tray tray).limits = [2]) :
    Completes (.coolantConditionEnd tray 4) s (fun t => 4 ∉ (t.tray tray).conds ∧ (t.tray tray).limits = [] ∧
      (t.pkg p).getF F.PWR_TRAY_W = 0) := by
  refine ⟨_, exec_coolantEnd_flow h, ?_⟩
  have here : (s.condEnded tray 4).tray tray = { s.tray tray with conds := (s.tray tray).conds.filter (fun x => x != 4) } :=
    State.tray_updTray_same s tray.isLt _
  have none : limitsAfter 2 false ((s.condEnded tray 4).tray tray).limits = [] := by rw [here, hl]; rfl
  have limit : ((s.condEnded tray 4).setLimit tray 2 false).pkg p = (s.pkg p).writeTrayLimit false :=
    State.pkg_setLimit_of_none _ 2 false p hp none
  dsimp only
  rw [State.tray_setLimit_same _ tray.isLt, limit, none, here]
  exact ⟨by simp, rfl, Pkg.getF_writeTrayLimit_off _⟩

end

/-- A change of one package with its notices posted, as its thermal state and its registers show it. -/
theorem completes_of_updPost_view {c : Instr} {f : Pkg → Pkg} {P : State → Prop} {s : State} {p : PkgId}
    (hexec : exec c s = .next (s.updPost p f))
    (h : ∀ t : State, (t.pkg p).therm = (f (s.pkg p)).therm → (∀ g, (t.pkg p).getF g = (f (s.pkg p)).getF g) → P t) : Completes c s P :=
  completes_of_updPost hexec fun t ht => h t (by rw [ht]) fun g => by rw [ht, Pkg.getF_notices]

/-- Settles O46: each command by the registers it writes; a θ window by whether its level is entered anew. -/
theorem coolingActs : Obligations.CoolingActs := by
  unfold Obligations.CoolingActs
  intro s p t₀ k
  refine ⟨fun cores hub => ?_, fun temps => ?_, fun hsamples => ?_, fun hmode => thermalTrip_completes hmode,
    fun tray temp flow hp haux hfaults => supplyUpdate_completes temp flow t₀ hp haux hfaults, fun hvalid hold => supplyStale_completes hvalid hold,
    fun ht hbad => ?_, ?_, fun h => thermalRelease_refused h, fun hvalid hcool hlevel => thermalRelease_completes hvalid hcool hlevel,
    fun hn => ?_, fun tray hp => ⟨coolantFault_hot t₀ hp, coolantFault_flow t₀ hp, fun h => ⟨_, exec_coolantFault_pressure t₀ h, rfl⟩,
      coolantEnd_flow hp, fun h => ⟨_, exec_coolantEnd_pressure h, rfl⟩⟩⟩
  · refine completes_of_updPost_view (exec_junctionSample s p cores hub t₀) fun t therm read => ?_
    simp only [therm, read]
    exact Pkg.junctions_show ((s.pkg p).at t₀) cores hub
  · refine completes_of_updPost_view (exec_hbmTemperatureSample s p temps t₀) fun t therm read => ?_
    simp only [therm, read]
    exact Pkg.stacks_show ((s.pkg p).at t₀) temps
  · refine completes_of_updPkg (exec_thermalGateUpdate s p t₀) fun t ht => ?_
    rw [ht, if_neg (show ¬ k.therm.samples.isEmpty = true by simpa using hsamples)]
    exact k.throttled_shows
  · refine (thetaWindow_completes ht).mono fun t ⟨therm, cells⟩ => ?_
    rw [therm, cells _ (by decide), cells _ (by decide)]
    exact Pkg.thetaWindow_invalid_shows hbad
  · intro x ht hbad hn hp hbase
    refine (thetaWindow_completes ht).mono fun t ⟨_, cells⟩ => ?_
    rw [cells _ (by decide), cells _ (by decide), cells _ (by decide)]
    exact Pkg.thetaWindow_valid_shows hbad hn hp hbase
  · refine completes_of_updPost_view (exec_junctionMinute s p t₀) fun t therm read => ?_
    rw [if_neg (show ¬ ((s.pkg p).at t₀).therm.minN = 0 from hn)] at therm read
    simp only [therm, read]
    exact k.minuteDone_shows

end Sys2Proof.Machine
end

section
/-! PROOFS. Power delivery (R791–R806, R811): shelves and converters, the rails that come up and go down, and their time limits. -/

namespace Sys2Proof.Machine

/-! ### The boot record's registers (R916) -/

/-- What writing and showing the boot record touches. -/
structure BootOnly (k j : Pkg) : Prop where
  fields : ∃ r fl, j = { k with regs := r, flash := fl }
  cells : CellsKept (fun o => o < 0x40000 ∨ 0x40050 ≤ o) k j

namespace BootOnly

variable {k j l : Pkg}

theorem trans (h : BootOnly k j) (g : BootOnly j l) : BootOnly k l := by
  obtain ⟨⟨r, fl, e⟩, hc⟩ := h
  obtain ⟨⟨r', fl', e'⟩, gc⟩ := g
  exact ⟨⟨r', fl', by rw [e', e]⟩, hc.trans gc⟩

theorem setF (k : Pkg) (f : Fld) (v : Nat) (h : 0x40000 ≤ f.off ∧ f.off < 0x40050) : BootOnly k (k.setF f v) :=
  ⟨⟨_, k.flash, rfl⟩, .setF k v (by omega)⟩

theorem ofFlash (k : Pkg) (fl : List (Nat × BitVec 8)) : BootOnly k { k with flash := fl } := ⟨⟨k.regs, fl, rfl⟩, .ofRegs rfl⟩

end BootOnly

theorem Pkg.showBoot_frame (k : Pkg) (trial : Bool) : BootOnly k (k.showBoot trial) :=
  (((((BootOnly.setF k F.BC_STATE _ (by decide)).trans (.setF _ F.BC_ACTIVE _ (by decide))).trans (.setF _ F.BC_WDOG _ (by decide))).trans
    (.setF _ F.BOOT_IN_TRIAL _ (by decide))).trans (.setF _ F.BOOT_ROSTER _ (by decide))).trans (.setF _ F.BOOT_WINDOW _ (by decide))

theorem Pkg.writeBoot_frame (k : Pkg) (f : BootRec → BootRec) : BootOnly k (k.writeBoot f) :=
  BootOnly.trans (.ofFlash k _) (Pkg.showBoot_frame _ _)

/-! ### Release of the reset (R681) -/

/-- The reset is released, and BOOT begins. -/
def Pkg.releasing (k : Pkg) (cold : Bool) : Pkg :=
  let k := k.updBring (fun _ => { released := some k.now })
  let k := { k with pinLow := false, linkHold := none, hold := none, holdLine := false }
  (k.setF F.GLB_BU_COLD (if cold then 1 else 0)).enterPhase 1

theorem Pkg.release_frame (k : Pkg) (cold : Bool) : BootOnly (k.releasing cold) (k.release cold) := by
  by_cases h : (k.releasing cold).bc.state = 3
  · have e : k.release cold = ((k.releasing cold).writeBoot (fun r => { r with state := 0, roster := 0 })).showBoot false := if_pos h
    rw [e]
    exact (Pkg.writeBoot_frame _ _).trans (Pkg.showBoot_frame _ _)
  · have e : k.release cold = (k.releasing cold).showBoot ((k.releasing cold).bc.state == 2) := if_neg h
    rw [e]
    exact Pkg.showBoot_frame _ _

theorem Pkg.enterPhase_rails (k : Pkg) (n : Nat) : (k.enterPhase n).rails = k.rails ∧ (k.enterPhase n).pinLow = k.pinLow := by
  unfold Pkg.enterPhase
  dsimp only
  split <;> exact ⟨rfl, rfl⟩

/-- What a release leaves of the rails, and what it says of itself. -/
theorem Pkg.release_shows (k : Pkg) (cold : Bool) : (k.release cold).rails = k.rails ∧ (k.release cold).pinLow = false ∧
    (k.release cold).bring.released = some k.now ∧ (k.release cold).getF F.GLB_BU_COLD = (if cold then 1 else 0) := by
  obtain ⟨⟨r, fl, e⟩, cells⟩ := k.release_frame cold
  obtain ⟨rails, pin⟩ := Pkg.enterPhase_rails (({ k.updBring (fun _ => { released := some k.now }) with
    pinLow := false, linkHold := none, hold := none, holdLine := false } : Pkg).setF F.GLB_BU_COLD (if cold then 1 else 0)) 1
  refine ⟨by rw [e]; exact rails, by rw [e]; exact pin, ?_, ?_⟩
  · rw [e]
    exact congrArg BringUp.released (Pkg.enterPhase_bring _ 1)
  · rw [cells.getF (by decide), Pkg.releasing, Pkg.getF_enterPhase _ (by decide) (by decide), Pkg.getF_setF_same _ _ _ rfl]
    cases cold <;> rfl

theorem Pkg.getF_release (k : Pkg) (cold : Bool) {f : Fld} (h : 0x40050 ≤ f.off) : (k.release cold).getF f = k.getF f := by
  rw [(k.release_frame cold).cells.getF (.inr h), Pkg.releasing, Pkg.getF_enterPhase _ (Fld.apart_of_off (by simp only [F.GLB_BU_PHASE]; omega))
    (Fld.apart_of_off (by simp only [F.GLB_BU_MARK]; omega)), Pkg.getF_setF_apart _ _ f _ (Fld.apart_of_off (by simp only [F.GLB_BU_COLD]; omega))]
  rfl

/-! ### Rails (R798–R806) -/

theorem Pkg.getF_updRails (k : Pkg) (g : Rails → Rails) (f : Fld) : (k.updRails g).getF f = k.getF f := rfl

theorem Pkg.enableRails_one (k : Pkg) (r : Nat) : k.enableRails [r] =
    (k.setF (F.PWR_RL_STATE r) 1).updRails (fun x => { x with wait := x.wait ++ [(r, k.now)] }) := rfl

theorem apart_rail {i j : Nat} (h : i ≠ j) : (F.PWR_RL_STATE i).apart (F.PWR_RL_STATE j) = true :=
  Fld.apart_of_off (by simp only [F.PWR_RL_STATE]; omega)

theorem apart_rail_mv (i j : Nat) : (F.PWR_RL_STATE i).apart (F.PWR_RL_MV j) = true :=
  (Fld.apart_iff _ _).mpr (.inr (.inl (by simp only [F.PWR_RL_STATE, F.PWR_RL_MV]; omega)))

theorem apart_mv_rail (i j : Nat) : (F.PWR_RL_MV i).apart (F.PWR_RL_STATE j) = true :=
  (Fld.apart_iff _ _).mpr (.inr (.inr (by simp only [F.PWR_RL_STATE, F.PWR_RL_MV]; omega)))

theorem apart_amps_rail (i j : Nat) : (F.PWR_RL_A i).apart (F.PWR_RL_STATE j) = true :=
  (Fld.apart_iff _ _).mpr (.inr (.inr (by simp only [F.PWR_RL_STATE, F.PWR_RL_A]; omega)))

theorem apart_amps_mv (i j : Nat) : (F.PWR_RL_A i).apart (F.PWR_RL_MV j) = true :=
  (Fld.apart_iff _ _).mpr (.inr (.inl (by simp only [F.PWR_RL_MV, F.PWR_RL_A]; omega)))

/-- A rail is shown with its state, voltage and current. -/
def Pkg.showRail (k : Pkg) (rail state mv amps : Nat) : Pkg :=
  ((k.setF (F.PWR_RL_STATE rail) state).setF (F.PWR_RL_MV rail) mv).setF (F.PWR_RL_A rail) amps

theorem Pkg.getF_showRail_state (k : Pkg) (rail state mv amps : Nat) : (k.showRail rail state mv amps).getF (F.PWR_RL_STATE rail) = state % 2 ^ 2 := by
  rw [Pkg.showRail, Pkg.getF_setF_apart _ _ _ _ (apart_amps_rail rail rail), Pkg.getF_setF_apart _ _ _ _ (apart_mv_rail rail rail),
    Pkg.getF_setF_same _ _ _ rfl]
  rfl

theorem Pkg.getF_showRail_mv (k : Pkg) (rail state mv amps : Nat) : (k.showRail rail state mv amps).getF (F.PWR_RL_MV rail) = mv % 2 ^ 16 := by
  rw [Pkg.showRail, Pkg.getF_setF_apart _ _ _ _ (apart_amps_mv rail rail), Pkg.getF_setF_same _ _ _ rfl]
  rfl

/-- The rails that are waited for, without one. -/
def Pkg.waitOver (k : Pkg) (rail : Nat) : Pkg := k.updRails (fun r => { r with wait := r.wait.filter (fun w => w.1 != rail) })

/-- What a rail in regulation leads to (R798, R800). -/
def Pkg.railUp (k : Pkg) (rail : Nat) : Pkg :=
  if rail < 6 then k.enableRails [rail + 1]
  else if rail = 6 then k.enableRails [7, 8, 9, 10]
  else if k.rails.wait.isEmpty then (k.updRails (fun r => { r with mode := .on, fault := false })).release true
  else k

theorem exec_railInRegulation (s : State) (p : PkgId) (rail : Fin 11) (mv amps t₀ : Nat) : exec (.railInRegulation p rail mv amps t₀) s =
    .next (s.updPkg p (fun k => if (k.at t₀).rails.mode ≠ .up ∨ !(k.at t₀).rails.wait.any (fun w => w.1 == rail.val) then k.at t₀
      else (((k.at t₀).waitOver rail.val).showRail rail 2 mv amps).railUp rail.val)) := rfl

theorem railWaits {ws : List (Nat × Nat)} {rail : Nat} (h : ∃ w ∈ ws, w.1 = rail) : ws.any (fun w => w.1 == rail) = true := by
  obtain ⟨w, hw, e⟩ := h
  exact List.any_eq_true.mpr ⟨w, hw, by simp [e]⟩

theorem railInRegulation_completes {s : State} {p : PkgId} {rail : Fin 11} {t₀ : Nat} (mv amps : Nat) {P : Pkg → Prop}
    (hmode : ((s.pkg p).at t₀).rails.mode = .up) (hwait : ∃ w ∈ ((s.pkg p).at t₀).rails.wait, w.1 = rail.val)
    (h : P (((((s.pkg p).at t₀).waitOver rail.val).showRail rail 2 mv amps).railUp rail.val)) :
    Completes (.railInRegulation p rail mv amps t₀) s (fun t => P (t.pkg p)) :=
  completes_of_updPkg (exec_railInRegulation s p rail mv amps t₀) fun t ht => by
    rw [ht, if_neg (by rw [hmode, railWaits hwait]; decide)]; exact h

/-- R798: the first rails come up one after another. -/
theorem Pkg.railUp_first (k : Pkg) {rail : Nat} (mv amps : Nat) (hrail : rail < 6) :
    let j := (k.showRail rail 2 mv amps).railUp rail
    j.getF (F.PWR_RL_STATE rail) = 2 ∧ j.getF (F.PWR_RL_STATE (rail + 1)) = 1 ∧ j.getF (F.PWR_RL_MV rail) = mv % 2 ^ 16 ∧
      j.rails.mode = k.rails.mode := by
  have e : (k.showRail rail 2 mv amps).railUp rail = _ := (if_pos hrail).trans (Pkg.enableRails_one _ _)
  rw [e]
  refine ⟨?_, ?_, ?_, rfl⟩
  · rw [Pkg.getF_updRails, Pkg.getF_setF_apart _ _ _ _ (apart_rail (by omega)), Pkg.getF_showRail_state]; rfl
  · rw [Pkg.getF_updRails, Pkg.getF_setF_same _ _ _ rfl]; rfl
  · rw [Pkg.getF_updRails, Pkg.getF_setF_apart _ _ _ _ (apart_rail_mv _ _), Pkg.getF_showRail_mv]

/-- R800: with the last rail in regulation the reset is released. -/
theorem Pkg.railUp_last {k : Pkg} {rail : Nat} (mv amps : Nat) (hrail : 7 ≤ rail) (hwait : k.rails.wait = []) :
    let j := (k.showRail rail 2 mv amps).railUp rail
    j.getF (F.PWR_RL_STATE rail) = 2 ∧ j.rails.mode = .on ∧ j.pinLow = false ∧ j.bring.released = some k.now ∧ j.getF F.GLB_BU_COLD = 1 := by
  have e : (k.showRail rail 2 mv amps).railUp rail =
      ((k.showRail rail 2 mv amps).updRails (fun r => { r with mode := .on, fault := false })).release true :=
    (if_neg (by omega)).trans ((if_neg (by omega)).trans (if_pos (List.isEmpty_iff.mpr hwait)))
  obtain ⟨rails, pin, released, cold⟩ := ((k.showRail rail 2 mv amps).updRails (fun r => { r with mode := .on, fault := false })).release_shows true
  rw [e]
  refine ⟨?_, congrArg Rails.mode rails, pin, released, cold⟩
  rw [Pkg.getF_release _ _ (by simp only [F.PWR_RL_STATE]; omega), Pkg.getF_updRails, Pkg.getF_showRail_state]; rfl

/-! ### Power-down (R801–R806) -/

/-- A step of a power-down disables one of the rails up to `n`; a higher one stays as it is. -/
theorem Pkg.getF_nextRail (k : Pkg) {n : Nat} {f : Fld} (h : ∀ i, 1 ≤ i → i ≤ n → (F.PWR_RL_STATE i).apart f = true) :
    (k.nextRail n).getF f = k.getF f := by
  induction n with
  | zero => unfold Pkg.nextRail; split <;> rfl
  | succ n ih =>
    unfold Pkg.nextRail
    split
    · exact ih fun i h₁ hi => h i h₁ (by omega)
    · rw [Pkg.disableRail, Pkg.getF_updRails, Pkg.getF_setF_apart _ _ _ _ (h (n + 1) (by omega) (Nat.le_refl _))]

/-- What a step of a power-down adds to the rails not yet off. -/
theorem Pkg.late_nextRail (k : Pkg) {n : Nat} {w : Nat × Nat} (h : w ∈ (k.nextRail n).rails.late) :
    w ∈ k.rails.late ∨ (1 ≤ w.1 ∧ w.1 ≤ n) := by
  induction n with
  | zero =>
    unfold Pkg.nextRail at h
    split at h <;> exact .inl h
  | succ n ih =>
    unfold Pkg.nextRail at h
    split at h
    · exact (ih h).imp_right fun h => ⟨h.1, by omega⟩
    · next ne =>
      have e : (k.disableRail (n + 1)).rails.late = k.rails.late ++ [(n + 1, k.now)] := if_neg ne
      rw [e] at h
      rcases List.mem_append.mp h with h | h
      · exact .inl h
      · rw [List.mem_singleton.mp h]
        exact .inr ⟨by omega, by omega⟩

theorem Pkg.disableRail_shows {k : Pkg} {n : Nat} (h : k.getF (F.PWR_RL_STATE (n + 1)) ≠ 0) :
    (k.nextRail (n + 1)).rails.step = n + 1 ∧ (k.nextRail (n + 1)).rails.stepAt = k.now ∧ (n + 1, k.now) ∈ (k.nextRail (n + 1)).rails.late := by
  have e : k.nextRail (n + 1) = k.disableRail (n + 1) := if_neg h
  have late : (k.disableRail (n + 1)).rails.late = k.rails.late ++ [(n + 1, k.now)] := if_neg h
  rw [e, late]
  exact ⟨rfl, rfl, List.mem_append_right _ List.mem_cons_self⟩

/-- R802: the time limit of a step lets the power-down go on. -/
theorem exec_railDownStepTimeout (s : State) (p : PkgId) (t₀ : Nat) : exec (.railDownStepTimeout p t₀) s = .next (s.updPkg p (fun k =>
    if (k.at t₀).rails.mode = .down ∧ (k.at t₀).rails.step ≠ 0 ∧
      (k.at t₀).rails.stepAt + (if (k.at t₀).rails.tripped then 200000 else 10000000) ≤ (k.at t₀).now
    then (k.at t₀).nextRail ((k.at t₀).rails.step - 1) else k.at t₀)) := rfl

theorem railDownStep_completes {s : State} {p : PkgId} {t₀ n : Nat} (hmode : ((s.pkg p).at t₀).rails.mode = .down)
    (hstep : ((s.pkg p).at t₀).rails.step = n + 2) (htrip : ((s.pkg p).at t₀).rails.tripped = false)
    (htime : ((s.pkg p).at t₀).rails.stepAt + 10000000 ≤ ((s.pkg p).at t₀).now) (hon : ((s.pkg p).at t₀).getF (F.PWR_RL_STATE (n + 1)) ≠ 0) :
    Completes (.railDownStepTimeout p t₀) s (fun t => (t.pkg p).rails.step = n + 1 ∧ (t.pkg p).rails.stepAt = ((s.pkg p).at t₀).now ∧
      (n + 1, ((s.pkg p).at t₀).now) ∈ (t.pkg p).rails.late) :=
  completes_of_updPkg (exec_railDownStepTimeout s p t₀) fun t ht => by
    rw [ht, if_pos ⟨hmode, by omega, by rw [htrip]; exact htime⟩, hstep]
    exact Pkg.disableRail_shows hon

/-- A rail is off. -/
def Pkg.lateOver (k : Pkg) (rail : Nat) : Pkg := k.updRails (fun r => { r with late := r.late.filter (fun w => w.1 != rail) })

/-- With VDD_HUB the hub's state goes. -/
def Pkg.hubOff (k : Pkg) (rail : Nat) : Pkg := if rail = 1 then { k.resetHub false with pinLow := true } else k

/-- What comes after a rail that is off. -/
def Pkg.railGone (k : Pkg) (rail : Nat) : Pkg :=
  if k.rails.step = rail ∧ (!k.rails.tripped ∨ rail = 1) then k.nextRail (rail - 1)
  else if k.rails.late.isEmpty ∧ k.rails.step ≤ 1 then k.updRails (fun r => { r with mode := .off, step := 0 })
  else k

theorem exec_railOff (s : State) (p : PkgId) (rail : Fin 11) (t₀ : Nat) : exec (.railOff p rail t₀) s = .next (State.finishSafe
    (s.updPkg p (fun k => if !(k.at t₀).rails.late.any (fun w => w.1 == rail.val) then k.at t₀
      else ((((k.at t₀).hubOff rail).showRail rail 0 0 0).lateOver rail).railGone rail)) (trayOf p)) := rfl

/-- A tray that is not being made safe stays as it is. -/
theorem State.finishSafe_of_none {s : State} {n : Nat} (h : (s.tray n).safing = false) : s.finishSafe n = s :=
  if_neg fun h' => by rw [h] at h'; exact Bool.false_ne_true h'.1

theorem railOff_completes {s : State} {p : PkgId} {rail : Fin 11} {t₀ : Nat} {P : Pkg → Prop} (hsafe : (s.tray (trayOf p)).safing = false)
    (hlate : ∃ w ∈ ((s.pkg p).at t₀).rails.late, w.1 = rail.val)
    (h : P (((((s.pkg p).at t₀).hubOff rail).showRail rail 0 0 0).lateOver rail |>.railGone rail)) :
    Completes (.railOff p rail t₀) s (fun t => P (t.pkg p)) := by
  refine ⟨_, exec_railOff s p rail t₀, ?_⟩
  dsimp only
  rw [State.finishSafe_of_none (s := s.updPkg p _) hsafe, State.pkg_updPkg_same, if_neg (by rw [railWaits hlate]; decide)]
  exact h

theorem Pkg.getF_railGone (k : Pkg) {rail : Nat} {f : Fld} (h : ∀ i, i < rail → (F.PWR_RL_STATE i).apart f = true) :
    (k.railGone rail).getF f = k.getF f := by
  unfold Pkg.railGone
  split
  · exact Pkg.getF_nextRail k fun i _ hi => h i (by omega)
  · split <;> rfl

theorem Pkg.late_railGone (k : Pkg) {rail : Nat} {w : Nat × Nat} (h : w ∈ (k.railGone rail).rails.late) : w ∈ k.rails.late ∨ w.1 < rail := by
  unfold Pkg.railGone at h
  split at h
  · exact (Pkg.late_nextRail k h).imp_right fun h => by omega
  · split at h <;> exact .inl h

/-- R801: a rail that is off is shown so, and is waited for no longer. -/
theorem Pkg.railGone_shows (k : Pkg) (rail : Nat) :
    let j := ((k.showRail rail 0 0 0).lateOver rail).railGone rail
    j.getF (F.PWR_RL_STATE rail) = 0 ∧ j.getF (F.PWR_RL_MV rail) = 0 ∧ ∀ w ∈ j.rails.late, w.1 ≠ rail := by
  refine ⟨?_, ?_, fun w hw => ?_⟩
  · rw [Pkg.getF_railGone _ fun i hi => apart_rail (by omega), Pkg.lateOver, Pkg.getF_updRails, Pkg.getF_showRail_state]
    rfl
  · rw [Pkg.getF_railGone _ fun i _ => apart_rail_mv i rail, Pkg.lateOver, Pkg.getF_updRails, Pkg.getF_showRail_mv]
    rfl
  · rcases Pkg.late_railGone _ hw with h | h
    · exact bne_iff_ne.mp (List.mem_filter.mp h).2
    · omega

end Sys2Proof.Machine
end

section
/-! PROOFS. Power delivery, continued (R791–R806, R811): the time limits of a rail, the power-up, shelves, converters and the bus. -/

namespace Sys2Proof.Machine

theorem State.tray_updPkg (s : State) (p : PkgId) (f : Pkg → Pkg) (n : Nat) : (s.updPkg p f).tray n = s.tray n := rfl

/-! ### The last rail (R801) -/

/-- R801: with VDD_HUB off the power-down is over. -/
theorem Pkg.railGone_last {k : Pkg} {w : Nat} (hlate : k.rails.late = [(1, w)]) (hstep : k.rails.step = 1) :
    let j := (((k.hubOff 1).showRail 1 0 0 0).lateOver 1).railGone 1
    j.getF (F.PWR_RL_STATE 1) = 0 ∧ j.rails.mode = .off ∧ j.pinLow = true := by
  have late : (((k.hubOff 1).showRail 1 0 0 0).lateOver 1).rails.late = [] := by
    change (k.rails.late.filter (fun w => w.1 != 1)) = []
    rw [hlate]; rfl
  have gone : (((k.hubOff 1).showRail 1 0 0 0).lateOver 1).railGone 1 =
      (((k.hubOff 1).showRail 1 0 0 0).lateOver 1).updRails (fun r => { r with mode := .off, step := 0 }) :=
    (if_pos ⟨hstep, .inr rfl⟩).trans (if_pos (List.isEmpty_iff.mpr late))
  refine ⟨(Pkg.railGone_shows (k.hubOff 1) 1).1, ?_, ?_⟩
  · rw [gone]; rfl
  · rw [gone]; rfl

/-! ### Time limits (R799, R803, R804) -/

/-- The failed power-ups of the last hour, this one first. -/
def Pkg.upFails (k : Pkg) : List Nat := k.now :: k.rails.fails.filter (fun x => decide (k.now < x + 7200000000000))

def Pkg.upFailed (k : Pkg) : Pkg := k.powerDown.updRails (fun r => { r with
  fails := k.upFails, fault := true, held := decide (3 ≤ k.upFails.length)
  retryAt := if 3 ≤ k.upFails.length then none else some (k.now + 20000000000) })

theorem overdue {ws : List (Nat × Nat)} {rail w t now : Nat} (h : (rail, w) ∈ ws) (hw : w + t ≤ now) :
    ws.any (fun w => w.1 == rail && decide (w.2 + t ≤ now)) = true :=
  List.any_eq_true.mpr ⟨_, h, by simp [hw]⟩

section
variable {s : State} {p : PkgId} {t₀ : Nat}

theorem exec_railUpTimeout {rail : Fin 11} {w : Nat} (hmode : ((s.pkg p).at t₀).rails.mode = .up)
    (hw : (rail.val, w) ∈ ((s.pkg p).at t₀).rails.wait) (ht : w + 20000000 ≤ ((s.pkg p).at t₀).now) :
    exec (.railUpTimeout p rail t₀) s =
      .next (((s.updPkg p (fun _ => ((s.pkg p).at t₀).upFailed)).tmcLog p rail t₀ 0x7902).post "RailFault" .critical p) := by
  refine if_neg fun h => ?_
  rw [overdue hw ht] at h
  exact h.elim (fun h => h hmode) Bool.false_ne_true

theorem State.tray_tmcLog (s : State) (p : PkgId) (rail t : Nat) (st : Status) : (s.tmcLog p rail t st).tray (trayOf p) =
    { s.tray (trayOf p) with log := { status := st, pkg := p, rail := rail, time := t } :: (s.tray (trayOf p)).log } :=
  State.tray_updTray_same s (trayOf_lt p) _

theorem State.pkg_tmcLog (s : State) (p q : PkgId) (rail t : Nat) (st : Status) : (s.tmcLog p rail t st).pkg q = s.pkg q := rfl

/-- R799: a rail that does not come up ends the power-up, which is tried again unless it failed three times in an hour. -/
theorem railUpTimeout_completes {rail : Fin 11} {w : Nat} (hmode : ((s.pkg p).at t₀).rails.mode = .up)
    (hw : (rail.val, w) ∈ ((s.pkg p).at t₀).rails.wait) (ht : w + 20000000 ≤ ((s.pkg p).at t₀).now) :
    Completes (.railUpTimeout p rail t₀) s (fun t => (t.pkg p).rails.fails = ((s.pkg p).at t₀).upFails ∧
      (t.pkg p).rails.held = decide (3 ≤ ((s.pkg p).at t₀).upFails.length) ∧
      (t.pkg p).rails.retryAt = (if 3 ≤ ((s.pkg p).at t₀).upFails.length then none else some (((s.pkg p).at t₀).now + 20000000000)) ∧
      (t.tray (trayOf p)).log = { status := 0x7902, pkg := p, rail := rail, time := t₀ } :: (s.tray (trayOf p)).log) := by
  refine ⟨_, exec_railUpTimeout hmode hw ht, ?_⟩
  dsimp only
  rw [State.pkg_post, State.pkg_tmcLog, State.pkg_updPkg_same, State.tray_post, State.tray_tmcLog, State.tray_updPkg]
  exact ⟨rfl, rfl, rfl, rfl⟩

/-- R804: a rail that has stuck before stays off. -/
def Pkg.stuckAgain (k : Pkg) : Bool := k.rails.stuck.any (fun x => decide (k.now < x + 172800000000000))

def Pkg.railStuck (k : Pkg) : Pkg := k.auxLost.updRails (fun r => { r with
  efuse := false, stuck := k.now :: r.stuck, fault := true, held := k.stuckAgain, retryAt := none
  closeAt := if k.stuckAgain then none else some (k.now + 20000000000) })

theorem Pkg.auxLost_rails (k : Pkg) : k.auxLost.rails = { k.rails with aux := false, mode := .off, wait := [], late := [] } := rfl

theorem Pkg.railStuck_rails (k : Pkg) : k.railStuck.rails.efuse = false ∧ k.railStuck.rails.aux = false ∧
    k.railStuck.rails.held = k.stuckAgain ∧ k.railStuck.rails.closeAt = (if k.stuckAgain then none else some (k.now + 20000000000)) ∧
    k.railStuck.rails.stuck = k.now :: k.rails.stuck := ⟨rfl, rfl, rfl, rfl, rfl⟩

theorem exec_railStuckTimeout {rail : Fin 11} {w : Nat} (hw : (rail.val, w) ∈ ((s.pkg p).at t₀).rails.late)
    (ht : w + 100000000 ≤ ((s.pkg p).at t₀).now) : exec (.railStuckTimeout p rail t₀) s =
      .next ((((s.updPkg p (fun _ => ((s.pkg p).at t₀).railStuck)).tmcLog p rail t₀ 0x7901).post "RailFault" .critical p).finishSafe (trayOf p)) :=
  if_neg (by rw [overdue hw ht]; decide)

/-- R803, R804: a rail that does not go off opens the package's e-fuse. -/
theorem railStuckTimeout_completes {rail : Fin 11} {w : Nat} (hw : (rail.val, w) ∈ ((s.pkg p).at t₀).rails.late)
    (ht : w + 100000000 ≤ ((s.pkg p).at t₀).now) (hsafe : (s.tray (trayOf p)).safing = false) :
    Completes (.railStuckTimeout p rail t₀) s (fun t => (t.pkg p).rails.efuse = false ∧ (t.pkg p).rails.aux = false ∧
      (t.pkg p).rails.held = ((s.pkg p).at t₀).stuckAgain ∧
      (t.pkg p).rails.closeAt = (if ((s.pkg p).at t₀).stuckAgain then none else some (((s.pkg p).at t₀).now + 20000000000)) ∧
      (t.pkg p).rails.stuck = ((s.pkg p).at t₀).now :: ((s.pkg p).at t₀).rails.stuck) := by
  refine ⟨_, exec_railStuckTimeout hw ht, ?_⟩
  dsimp only
  rw [State.finishSafe_of_none (by rw [State.tray_post, State.tray_tmcLog, State.tray_updPkg]; exact hsafe), State.pkg_post, State.pkg_tmcLog,
    State.pkg_updPkg_same]
  exact Pkg.railStuck_rails _

/-! ### The power-up (R798, R804, R805) -/

/-- A package with power for its rails begins a power-up. -/
theorem Pkg.powerUp_of_off {k : Pkg} (haux : k.rails.aux = true) (hfuse : k.rails.efuse = true) (hmode : k.rails.mode = .off) :
    k.powerUp = (({ k with pinLow := true } : Pkg).updRails
      (fun r => { r with mode := .up, wait := [], late := [], retryAt := none, held := false })).enableRails [1] :=
  if_neg (by rw [haux, hfuse, hmode]; decide)

theorem Pkg.powerUp_shows {k : Pkg} (haux : k.rails.aux = true) (hfuse : k.rails.efuse = true) (hmode : k.rails.mode = .off) :
    k.powerUp.rails.mode = .up ∧ k.powerUp.getF (F.PWR_RL_STATE 1) = 1 ∧ k.powerUp.pinLow = true ∧ k.powerUp.rails.wait = [(1, k.now)] := by
  rw [Pkg.powerUp_of_off haux hfuse hmode, Pkg.enableRails_one]
  refine ⟨rfl, ?_, rfl, rfl⟩
  rw [Pkg.getF_updRails, Pkg.getF_setF_same _ _ _ rfl]
  rfl

theorem Pkg.powerUp_kept {k : Pkg} (haux : k.rails.aux = true) (hfuse : k.rails.efuse = true) (hmode : k.rails.mode = .off) :
    k.powerUp.rails.efuse = true ∧ k.powerUp.rails.aux = true ∧ k.powerUp.rails.closeAt = k.rails.closeAt ∧
      ∀ f, (F.PWR_RL_STATE 1).apart f = true → k.powerUp.getF f = k.getF f := by
  rw [Pkg.powerUp_of_off haux hfuse hmode, Pkg.enableRails_one]
  refine ⟨hfuse, haux, rfl, fun f hf => ?_⟩
  rw [Pkg.getF_updRails, Pkg.getF_setF_apart _ _ f _ hf]
  rfl

/-- R799, R805: the TMC tries again unless R964 holds it. -/
def Pkg.tryPowerUp (may stopped : Bool) (k : Pkg) : Pkg :=
  match k.rails.retryAt with
  | some w => if w ≤ k.now ∧ k.rails.mode = .off ∧ !k.rails.held ∧ may ∧ !stopped then k.powerUp else k
  | none => k

theorem exec_powerUpRetry (s : State) (p : PkgId) (t₀ : Nat) : exec (.powerUpRetry p t₀) s = .next (s.updPkg p (fun k =>
    (k.at t₀).tryPowerUp (s.tray (trayOf p)).mayPower (s.tray (trayOf p)).stopped)) := rfl

theorem powerUpRetry_completes {w : Nat} (hw : ((s.pkg p).at t₀).rails.retryAt = some w) (ht : w ≤ ((s.pkg p).at t₀).now)
    (hmode : ((s.pkg p).at t₀).rails.mode = .off) (hheld : ((s.pkg p).at t₀).rails.held = false) (haux : ((s.pkg p).at t₀).rails.aux = true)
    (hfuse : ((s.pkg p).at t₀).rails.efuse = true) (hmay : (s.tray (trayOf p)).mayPower = true) (hrun : (s.tray (trayOf p)).stopped = false) :
    Completes (.powerUpRetry p t₀) s (fun t => (t.pkg p).rails.mode = .up ∧ (t.pkg p).getF (F.PWR_RL_STATE 1) = 1 ∧
      (t.pkg p).pinLow = true ∧ (t.pkg p).rails.wait = [(1, ((s.pkg p).at t₀).now)]) := by
  have tries : ((s.pkg p).at t₀).tryPowerUp (s.tray (trayOf p)).mayPower (s.tray (trayOf p)).stopped = ((s.pkg p).at t₀).powerUp := by
    unfold Pkg.tryPowerUp
    rw [hw]
    exact if_pos ⟨ht, hmode, by rw [hheld]; rfl, hmay, by rw [hrun]; rfl⟩
  refine completes_of_updPkg (exec_powerUpRetry s p t₀) fun t ht => ?_
  rw [ht, tries]
  exact Pkg.powerUp_shows haux hfuse hmode

/-- R804: the e-fuse closes again, and auxiliary power returns. -/
def Pkg.recloses (p variant : Nat) (k : Pkg) : Pkg := (k.updRails (fun r => { r with efuse := true, closeAt := none })).auxOn p variant

def Pkg.tryReclose (may : Bool) (p variant : Nat) (k : Pkg) : Pkg :=
  match k.rails.closeAt with
  | some w =>
    if w ≤ k.now ∧ !k.rails.efuse then
      if may then (k.recloses p variant).powerUp else (k.recloses p variant).updRails (fun r => { r with retryAt := some (k.recloses p variant).now })
    else k
  | none => k

theorem exec_efuseReclose (s : State) (p : PkgId) (v : Fin 4) (t₀ : Nat) : exec (.efuseReclose p v t₀) s = .next (s.updPkg p (fun k =>
    (k.at t₀).tryReclose (s.tray (trayOf p)).mayPower p v)) := rfl

theorem Pkg.getF_recordCause_cause (k : Pkg) {cause : Nat} (hc : cause < 256) (scope loc unit : Nat) :
    (k.recordCause cause scope loc unit).getF F.RST_CAUSE = cause := by
  have counted (j : Pkg) : (if 1 ≤ scope ∧ scope ≤ 5 then j.inc (F.RST_COUNTS (scope - 1)) else j).getF F.RST_CAUSE = j.getF F.RST_CAUSE := by
    split
    · exact Pkg.getF_inc_apart _ _ _ (Fld.apart_of_off (by simp only [F.RST_COUNTS, F.RST_CAUSE]; omega))
    · rfl
  have unitSet (j : Pkg) : (if (1 ≤ scope ∧ scope ≤ 3) ∨ cause = 2 then j.setF F.RST_UNIT unit
      else (j.setF F.RST_UNIT (j.freeNat 8)).draw).getF F.RST_CAUSE = j.getF F.RST_CAUSE := by
    split
    · exact Pkg.getF_setF_apart _ _ _ _ (by decide)
    · rw [Pkg.getF_draw, Pkg.getF_setF_apart _ _ _ _ (by decide)]
  unfold Pkg.recordCause
  dsimp only
  rw [counted, Pkg.getF_setF_apart _ _ _ _ (by decide), unitSet, Pkg.getF_setF_apart _ _ _ _ (by decide),
    Pkg.getF_setF_apart _ _ _ _ (by decide), Pkg.getF_setF_same _ _ _ rfl]
  exact Nat.mod_eq_of_lt hc

theorem Pkg.recloses_rails (k : Pkg) (p variant : Nat) : (k.recloses p variant).rails.aux = true ∧ (k.recloses p variant).rails.efuse = true ∧
    (k.recloses p variant).rails.mode = .off ∧ (k.recloses p variant).rails.closeAt = none := by
  obtain ⟨r, n, e⟩ := Pkg.recordCause_frame (({ (k.updRails (fun r => { r with efuse := true, closeAt := none })).auxLost with
    straps := { pkg := p, variant := variant }, pinLow := true } : Pkg).updRails (fun r => { r with aux := true })) 1 4 0 0
  have rails : (k.recloses p variant).rails = { k.rails with efuse := true, closeAt := none, aux := true, mode := .off, wait := [], late := [] } :=
    congrArg Pkg.rails e
  rw [rails]
  exact ⟨rfl, rfl, rfl, rfl⟩

theorem efuseReclose_completes (v : Fin 4) {w : Nat} (hw : ((s.pkg p).at t₀).rails.closeAt = some w) (ht : w ≤ ((s.pkg p).at t₀).now)
    (hopen : ((s.pkg p).at t₀).rails.efuse = false) (hmay : (s.tray (trayOf p)).mayPower = true) :
    Completes (.efuseReclose p v t₀) s (fun t => (t.pkg p).rails.efuse = true ∧ (t.pkg p).rails.closeAt = none ∧ (t.pkg p).rails.aux = true ∧
      (t.pkg p).rails.mode = .up ∧ (t.pkg p).getF F.RST_CAUSE = 1) := by
  have tries : ((s.pkg p).at t₀).tryReclose (s.tray (trayOf p)).mayPower p v = (((s.pkg p).at t₀).recloses p v).powerUp := by
    unfold Pkg.tryReclose
    rw [hw, hmay]
    exact (if_pos ⟨ht, by rw [hopen]; rfl⟩).trans (if_pos rfl)
  obtain ⟨haux, hfuse, hmode, hclose⟩ := Pkg.recloses_rails ((s.pkg p).at t₀) p v
  obtain ⟨fuse, aux, close, read⟩ := Pkg.powerUp_kept haux hfuse hmode
  refine completes_of_updPkg (exec_efuseReclose s p v t₀) fun t ht => ?_
  rw [ht, tries]
  refine ⟨fuse, close.trans hclose, aux, (Pkg.powerUp_shows haux hfuse hmode).1, ?_⟩
  rw [read _ (by decide)]
  exact Pkg.getF_recordCause_cause _ (by decide) _ _ _

/-! ### Shelves and converters (R791, R794, R811) -/

theorem shelfFailure_completes (sh : Fin 6) (h : s.shelves[sh] = true) : Completes (.shelfFailure sh) s (fun t => t.shelves[sh] = false ∧
    (∀ o : Fin 6, o ≠ sh → t.shelves[o] = s.shelves[o]) ∧ ∃ e ∈ t.events, e.name = "ShelfFault" ∧ e.arg = sh ∧ e.id = s.nextEvent) := by
  refine ⟨({ s with shelves := s.shelves.set sh false } : State).post "ShelfFault" .warning sh, congrArg Host.Outcome.next (if_pos h), ?_,
    fun o ho => ?_, _, List.mem_cons_self, rfl, rfl, rfl⟩
  · exact Vector.getElem_set_self ..
  · exact Vector.getElem_set_ne sh.isLt o.isLt fun e => ho (Fin.ext e.symm)

/-- Every tray of the rack, its converters stopped or running. -/
theorem State.tray_stopped (s : State) (b : Bool) {n : Nat} (hn : n < 24) :
    ({ s with trays := s.trays.map (fun (y : Tray) => { y with stopped := b }) } : State).tray n = { s.tray n with stopped := b } := by
  simp [State.tray, List.getD, hn]

theorem shelfRestored_completes (sh : Fin 6) : Completes (.shelfRestored sh) s (fun t => t.shelves[sh] = true ∧
    ∀ n, n < 24 → (t.tray n).stopped = false) := by
  refine ⟨_, rfl, Vector.getElem_set_self .., fun n hn => ?_⟩
  exact congrArg Tray.stopped (State.tray_stopped s false hn)

theorem exec_converterFailure {tray : TrayId} (h : (s.tray tray).converters ≠ 0) : exec (.converterFailure tray t₀) s =
    .next (((s.updTray tray (fun y => { y with
      converters := y.converters - 1, log := { status := 0x4905, pkg := 4 * tray, rail := 0, time := t₀ } :: y.log })).setLimit tray 0 true).post
      "ConverterDown" .warning tray) := if_neg h

theorem converterFailure_completes {tray : TrayId} (h : (s.tray tray).converters ≠ 0) (hp : tray.val = trayOf p) :
    Completes (.converterFailure tray t₀) s (fun t => (t.tray tray).converters = (s.tray tray).converters - 1 ∧ 0 ∈ (t.tray tray).limits ∧
      (t.pkg p).getF F.PWR_TRAY_W = (s.pkg p).getF F.PWR_CFG_SAFE) := by
  refine ⟨_, exec_converterFailure h, ?_⟩
  dsimp only
  rw [State.tray_post, State.tray_setLimit_same _ tray.isLt, State.tray_updTray_same s tray.isLt, State.pkg_post]
  refine ⟨rfl, mem_limitsAfter_on .., ?_⟩
  rw [hp, State.pkg_setLimit_on]
  exact Pkg.getF_writeTrayLimit_on _

/-! ### The bus (R793) -/

/-- A brown-out of a package: what it records and does. -/
def Pkg.brownedOut (k : Pkg) (rail : Nat) (stopped : Bool) : Pkg :=
  let k := (k.setF (F.PWR_RL_STATE rail) 3).recordCause 2 4 0 rail
  let k := if k.bring.released.isSome ∧ k.linkHold.isNone = true then k.resetNow else k
  k.powerDown.updRails (fun r => { r with retryAt := if stopped then none else some (k.now + 2000000000), fault := true })

theorem State.brownOut_of_on {rail : Nat} (hrail : rail ≠ 0) (hon : ((s.pkg p).at t₀).getF (F.PWR_RL_STATE rail) = 2) :
    s.brownOut p rail t₀ = ((s.updPkg p (fun _ => ((s.pkg p).at t₀).brownedOut rail (s.tray (trayOf p)).stopped)).tmcLog p rail t₀ 0x7903).post
      "RailFault" .critical p :=
  if_neg fun h => h.elim hrail fun h => h hon

theorem State.brownOut_cases (s : State) (p : PkgId) (rail t₀ : Nat) : ∃ k, s.brownOut p rail t₀ = s.updPkg p (fun _ => k) ∨
    s.brownOut p rail t₀ = ((s.updPkg p (fun _ => k)).tmcLog p rail t₀ 0x7903).post "RailFault" .critical p := by
  by_cases h : rail = 0 ∨ ((s.pkg p).at t₀).getF (F.PWR_RL_STATE rail) ≠ 2
  · exact ⟨(s.pkg p).at t₀, .inl (if_pos h)⟩
  · exact ⟨((s.pkg p).at t₀).brownedOut rail (s.tray (trayOf p)).stopped, .inr (if_neg h)⟩

/-- A brown-out is one package's, and leaves the converters as they are. -/
theorem State.brownOut_kept (s : State) (p : PkgId) (rail t₀ : Nat) : (∀ q, q ≠ p → (s.brownOut p rail t₀).pkg q = s.pkg q) ∧
    ∀ n, ((s.brownOut p rail t₀).tray n).stopped = (s.tray n).stopped := by
  obtain ⟨k, e | e⟩ := s.brownOut_cases p rail t₀ <;> rw [e]
  · exact ⟨fun q hq => State.pkg_updPkg_other s _ hq, fun n => rfl⟩
  · refine ⟨fun q hq => (State.pkg_tmcLog (s.updPkg p (fun _ => k)) p q rail t₀ 0x7903).trans (State.pkg_updPkg_other s _ hq), fun n => ?_⟩
    rw [State.tray_post]
    by_cases hn : n = trayOf p
    · rw [hn, State.tray_tmcLog, State.tray_updPkg]
    · rw [State.tmcLog, State.tray_updTray_other _ hn, State.tray_updPkg]

/-- The converters of all trays stop. -/
def State.busDown (s : State) : State := { s with trays := s.trays.map (fun (y : Tray) => { y with stopped := true }) }

theorem exec_busOutOfRange (s : State) (rail : Fin 11) (t₀ : Nat) : exec (.busOutOfRange rail t₀) s =
    .next ((List.finRange 72).foldl (fun s p => s.brownOut p rail t₀) s.busDown) := rfl

theorem busOutOfRange_completes (rail : Fin 11) : Completes (.busOutOfRange rail t₀) s (fun t => (∀ n, n < 24 → (t.tray n).stopped = true) ∧
    (rail.val ≠ 0 → ((s.pkg p).at t₀).getF (F.PWR_RL_STATE rail) = 2 → (t.pkg p).rails.fault = true ∧ (t.pkg p).rails.retryAt = none)) := by
  have down : ∀ n, n < 24 → (s.busDown.tray n).stopped = true := fun n hn => congrArg Tray.stopped (State.tray_stopped s true hn)
  have step (t : State) (q : Fin 72) (ht : ∀ n, n < 24 → (t.tray n).stopped = true) : ∀ n, n < 24 → ((t.brownOut q rail t₀).tray n).stopped = true :=
    fun n hn => ((t.brownOut_kept q rail t₀).2 n).trans (ht n hn)
  refine ⟨_, exec_busOutOfRange s rail t₀, List.foldlRecOn (motive := fun t : State => ∀ n, n < 24 → (t.tray n).stopped = true) _ _ down
    (fun t ht q _ => step t q ht), fun hrail hon => ?_⟩
  refine foldl_ownTurn (A := fun t : State => t.pkg p = s.pkg p ∧ ∀ n, n < 24 → (t.tray n).stopped = true)
    (B := fun t => (t.pkg p).rails.fault = true ∧ (t.pkg p).rails.retryAt = none) (fun t ht => ?_)
    (fun t q _ ne ht => ⟨((t.brownOut_kept q rail t₀).1 p ne.symm).trans ht.1, step t q ht.2⟩)
    (fun t q _ ne ht => ?_) (List.nodup_finRange 72) (List.mem_finRange p) ⟨rfl, down⟩
  · rw [State.brownOut_of_on hrail (ht.1.symm ▸ hon), ht.2 _ (trayOf_lt p), State.pkg_post, State.pkg_tmcLog, State.pkg_updPkg_same]
    exact ⟨rfl, rfl⟩
  · rw [(t.brownOut_kept q rail t₀).1 p ne.symm]; exact ht

end

/-- Settles O44: each command by the rails it moves; the bus by the turn of each package. -/
theorem railsAreSequenced : Obligations.RailsAreSequenced := by
  unfold Obligations.RailsAreSequenced
  intro s p t₀ k y
  refine ⟨shelfFailure_completes, shelfRestored_completes, busOutOfRange_completes, fun tray h hp => converterFailure_completes h hp,
    fun rail mv amps hmode hwait hrail => ?_, fun rail mv amps w hmode hwait hrail => ?_, fun rail w hmode hw ht => railUpTimeout_completes hmode hw ht,
    fun w hw ht hmode hheld haux hfuse hmay hrun => powerUpRetry_completes hw ht hmode hheld haux hfuse hmay hrun,
    fun rail hlate hrail hsafe => ?_, fun w hlate hstep hsafe => ?_,
    fun n hmode hstep htrip htime hon _ => railDownStep_completes hmode hstep htrip htime hon,
    fun rail w hw ht hsafe => railStuckTimeout_completes hw ht hsafe,
    fun v w hw ht hopen hmay => efuseReclose_completes v hw ht hopen hmay⟩
  · refine railInRegulation_completes mv amps (P := fun j => j.getF (F.PWR_RL_STATE rail) = 2 ∧ j.getF (F.PWR_RL_STATE (rail + 1)) = 1 ∧
      j.getF (F.PWR_RL_MV rail) = mv % 2 ^ 16 ∧ j.rails.mode = .up) hmode hwait ?_
    obtain ⟨state, next, volts, mode⟩ := Pkg.railUp_first (((s.pkg p).at t₀).waitOver rail.val) mv amps hrail
    exact ⟨state, next, volts, mode.trans hmode⟩
  · have none : (((s.pkg p).at t₀).waitOver rail.val).rails.wait = [] := by
      change ((s.pkg p).at t₀).rails.wait.filter (fun w => w.1 != rail.val) = []
      rw [show ((s.pkg p).at t₀).rails.wait = _ from hwait]
      simp
    refine railInRegulation_completes mv amps (P := fun j => j.getF (F.PWR_RL_STATE rail) = 2 ∧ j.rails.mode = .on ∧ j.pinLow = false ∧
      j.bring.released = some ((s.pkg p).at t₀).now ∧ j.getF F.GLB_BU_COLD = 1) hmode ⟨_, hwait ▸ List.mem_cons_self, rfl⟩ ?_
    exact Pkg.railUp_last mv amps hrail none
  · refine railOff_completes (P := fun j => j.getF (F.PWR_RL_STATE rail) = 0 ∧ j.getF (F.PWR_RL_MV rail) = 0 ∧
      ∀ w ∈ j.rails.late, w.1 ≠ rail.val) hsafe hlate ?_
    exact Pkg.railGone_shows _ _
  · refine railOff_completes (P := fun j => j.getF (F.PWR_RL_STATE 1) = 0 ∧ j.rails.mode = .off ∧ j.pinLow = true) hsafe
      ⟨_, hlate ▸ List.mem_cons_self, rfl⟩ ?_
    exact Pkg.railGone_last hlate hstep

end Sys2Proof.Machine
end

section
/-! PROOFS. Resets that are commanded (R732, R770): why the statement fails for a slot whose substitution names no logical core. -/

namespace Sys2Proof.Machine

/-- A substitution of core 0 whose logical number, 0x3FCA, is past the 60 of the map: the register in which its physical core is shown,
0x100 + 4 × 0x3FCA, is the word 0x10028 of the slots' drain bits. -/
def straySubst : Subst := { core := 0, logical := 0x3FCA, reason := 0, copy := false, spare := 16, copying := true }

/-- A drain of partition slot 0 by a command. -/
def slotDrain : Drain := { scope := 3, target := 0, cause := 4, loc := 0, began := 0 }

/-- A package that holds slot 0 with cluster 0, drains it, and copies for that substitution. -/
def strayPkg : Pkg :=
  (({ drains := [slotDrain], repair := { substs := [straySubst] } } : Pkg).setF F.LUP_SLOTS 1).setF (F.LUP_PART_CLUSTERS 0) 1

def strayRack : State := { State.reset with pkgs := Vector.replicate 72 strayPkg }

/-- The drain bit of slot 0 at P00 after a command. -/
def drainBitAfter : Host.Outcome State Fault Refusal → Bool
  | .next t => bit ((t.pkg 0).getF F.RST_SLOT_DRAIN) 0
  | _ => false

/-- The reset of cluster 0 ends the copy (Table 17-5): the switch shows physical core 16 in the word of the drain bits, and bit 4 of 16
is the drain bit of slot 0. -/
theorem drainBitAfter_strayRack : drainBitAfter (exec (.drainComplete 0 3 0 0) strayRack) = true := by decide +kernel

/-- Refutes O42: the clause about a partition's drain says nothing of the substitutions under way. In `strayRack` the reset of slot 0
clears its drain bit, and the switch to a spare then sets it again. -/
theorem not_resetsAreCommanded : ¬ Obligations.ResetsAreCommanded := by
  unfold Obligations.ResetsAreCommanded
  intro h
  obtain ⟨-, -, -, -, -, -, -, -, -, partition, -⟩ := h strayRack 0 0
  obtain ⟨t, ht, -, -, hbit, -⟩ := partition slotDrain (by decide +kernel) rfl (by decide) (by decide) (by decide +kernel)
  have drained : drainBitAfter (.next t) = true := ht ▸ drainBitAfter_strayRack
  exact absurd (drained.symm.trans hbit) (by decide)

end Sys2Proof.Machine
end

section
/-! PROOFS. What the power and cooling commands leave alone: registers below the power block, and all state but the power, rail and
thermal controllers'. -/

namespace Sys2Proof.Machine

/-- The package a command leaves behind. -/
theorem pkg_of_exec {c : Instr} {s t : State} {p : PkgId} {f : Pkg → Pkg} (hexec : exec c s = .next (s.updPkg p f)) (h : exec c s = .next t) :
    t.pkg p = f (s.pkg p) := by
  rw [← Host.Outcome.next.inj (hexec.symm.trans h), State.pkg_updPkg_same]

theorem pkg_of_exec_updPost {c : Instr} {s t : State} {p : PkgId} {f : Pkg → Pkg} (hexec : exec c s = .next (s.updPost p f))
    (h : exec c s = .next t) : t.pkg p = { f (s.pkg p) with notices := [] } := by
  rw [← Host.Outcome.next.inj (hexec.symm.trans h), State.pkg_updPost_same]

/-- `j` differs from `k` at most in registers from the power block up, in the power, rail and thermal controllers, and in time. -/
structure PowerOnly (k j : Pkg) : Prop where
  fields : ∃ r n w th rl pin nt fr, j = { k with
    regs := r, now := n, power := w, therm := th, rails := rl, pinLow := pin, notices := nt, fresh := fr }
  cells : CellsKept (· < 0x600000) k j

namespace PowerOnly

variable {k j l : Pkg}

theorem refl (k : Pkg) : PowerOnly k k := ⟨⟨_, _, _, _, _, _, _, _, rfl⟩, .refl k⟩

theorem trans (h : PowerOnly k j) (g : PowerOnly j l) : PowerOnly k l := by
  obtain ⟨⟨r, n, w, th, rl, pin, nt, fr, e⟩, hc⟩ := h
  obtain ⟨⟨r', n', w', th', rl', pin', nt', fr', e'⟩, gc⟩ := g
  exact ⟨⟨r', n', w', th', rl', pin', nt', fr', by rw [e', e]⟩, hc.trans gc⟩

theorem setF (k : Pkg) (f : Fld) (v : Nat) (h : 0x600000 ≤ f.off) : PowerOnly k (k.setF f v) :=
  ⟨⟨_, _, _, _, _, _, _, _, rfl⟩, .setF k v (by omega)⟩

theorem setNow (k : Pkg) (t : Nat) : PowerOnly k (k.at t) := ⟨⟨_, _, _, _, _, _, _, _, rfl⟩, .ofRegs rfl⟩

theorem draw (k : Pkg) : PowerOnly k k.draw := ⟨⟨_, _, _, _, _, _, _, _, rfl⟩, .ofRegs rfl⟩

theorem updPower (k : Pkg) (g : Power → Power) : PowerOnly k (k.updPower g) := ⟨⟨_, _, _, _, _, _, _, _, rfl⟩, .ofRegs rfl⟩

theorem updTherm (k : Pkg) (g : Therm → Therm) : PowerOnly k (k.updTherm g) := ⟨⟨_, _, _, _, _, _, _, _, rfl⟩, .ofRegs rfl⟩

theorem updRails (k : Pkg) (g : Rails → Rails) : PowerOnly k (k.updRails g) := ⟨⟨_, _, _, _, _, _, _, _, rfl⟩, .ofRegs rfl⟩

theorem pin (k : Pkg) (b : Bool) : PowerOnly k { k with pinLow := b } := ⟨⟨_, _, _, _, _, _, _, _, rfl⟩, .ofRegs rfl⟩

theorem notices (k : Pkg) (ns : List (String × Severity × Nat)) : PowerOnly k { k with notices := ns } :=
  ⟨⟨_, _, _, _, _, _, _, _, rfl⟩, .ofRegs rfl⟩

theorem ite {c : Prop} [Decidable c] (h : PowerOnly k j) (g : PowerOnly k l) : PowerOnly k (if c then j else l) := by
  split <;> assumption

theorem foldl {α : Type} (xs : List α) {op : Pkg → α → Pkg} (h : ∀ k x, PowerOnly k (op k x)) (k : Pkg) : PowerOnly k (xs.foldl op k) :=
  List.foldlRecOn xs op (refl k) (fun b hb x _ => hb.trans (h b x))

/-- What the statement asks of these commands. -/
theorem keeps (h : PowerOnly k j) : k.keeps j 0x600000 ∧ j.cores = k.cores ∧ j.host = k.host ∧ j.sems = k.sems := by
  obtain ⟨⟨r, n, w, th, rl, pin, nt, fr, e⟩, hc⟩ := h
  refine ⟨⟨?_, ?_, ?_, ?_, ?_, ?_, ?_, ?_, ?_, fun o ho => hc o ho⟩, ?_, ?_, ?_⟩ <;> rw [e]

end PowerOnly

/-! ### Gates, caps and steps -/

theorem Pkg.showGates_powerOnly (k : Pkg) : PowerOnly k k.showGates := by
  have clusters : PowerOnly k ((List.range 4).foldl Pkg.gateCluster k) :=
    .foldl _ (fun j cl => .setF j _ _ (by simp only [F.PWR_CL_GATE]; omega)) k
  have cores : PowerOnly ((List.range 4).foldl Pkg.gateCluster k) k.gatesShown := .foldl _ (fun j c =>
    (PowerOnly.setF j (F.CORE_GATE c) _ (by simp only [F.CORE_GATE]; omega)).trans (.setF _ (F.CORE_GATED c) _ (by simp only [F.CORE_GATED]; omega))) _
  rw [Pkg.showGates_eq]
  exact (clusters.trans cores).trans (.updPower _ _)

theorem Pkg.showCaps_powerOnly (k : Pkg) : PowerOnly k k.showCaps :=
  (((PowerOnly.setF k F.PWR_CAP_NOW _ (by decide)).trans (.setF _ F.PWR_CEILING _ (by decide))).trans
    (.setF _ F.PWR_FLOOR _ (by decide))).trans (.setF _ F.PWR_LIMITER _ (by decide))

theorem Pkg.refreshCaps_powerOnly (k : Pkg) : PowerOnly k k.refreshCaps := by
  have ramp : PowerOnly k k.rampCaps := .updPower k _
  obtain e | ⟨v, e⟩ := k.refreshCaps_cases <;> rw [e]
  · exact ramp.trans (Pkg.showCaps_powerOnly _)
  · exact (ramp.trans (.setF _ F.PWR_RAMP_REF v (by decide))).trans (Pkg.showCaps_powerOnly _)

theorem Pkg.setClocks_powerOnly (k : Pkg) : PowerOnly k k.setClocks :=
  .foldl _ (fun j c => .setF j (F.CORE_CLK_MHZ c) _ (by simp only [F.CORE_CLK_MHZ]; omega)) k

theorem Pkg.inc_powerOnly (k : Pkg) (f : Fld) (h : 0x600000 ≤ f.off) : PowerOnly k (k.inc f) := .setF k f _ h

theorem Pkg.boosted_powerOnly (k : Pkg) : PowerOnly k k.boosted := by
  have parts : PowerOnly k (k.partSteps (k.freeNat 4)) :=
    .foldl _ (fun j s => .setF j (F.PWR_PART_STEP s) _ (by simp only [F.PWR_PART_STEP]; omega)) k
  have stepped : PowerOnly k k.stepped := (parts.trans (.draw _)).trans (.setF _ F.PWR_STEP _ (by decide))
  obtain e | e := k.boosted_cases <;> rw [e]
  · exact stepped.trans (.updPower _ _)
  · exact (stepped.trans (Pkg.inc_powerOnly _ (F.PWR_COUNTS 6) (by decide))).trans (.updPower _ _)

theorem Pkg.intervalDone_powerOnly (k : Pkg) (parts : List Nat) : PowerOnly k (k.intervalDone parts) := by
  have off (i : Nat) : 0x600000 ≤ (F.PWR_ENERGY i).off := by simp only [F.PWR_ENERGY]; omega
  have counted : PowerOnly k ((List.range 6).foldl (Pkg.countEnergy (k.intervalAcc parts)) k) :=
    .foldl _ (fun j i => (PowerOnly.setF j (F.PWR_ENERGY i) _ (off i)).trans (.setF _ (F.PWR_ENERGY 6) _ (off 6))) k
  exact counted.trans (.updPower _ _)

theorem Pkg.drooped_powerOnly (k : Pkg) (cl : ClusterId) : PowerOnly k (k.drooped cl) :=
  ((Pkg.inc_powerOnly k (F.PWR_COUNTS 1) (by decide)).trans (.setF _ F.PWR_EV_DROOP 1 (by decide))).trans (.updPower _ _)

/-! ### The throttle -/

theorem Pkg.setThermalGate_powerOnly (k : Pkg) (f : Fld) (v : Nat) (h : 0x600000 ≤ f.off) : PowerOnly k (k.setThermalGate f v) := by
  obtain e | e := k.setThermalGate_cases f v <;> rw [e]
  · exact .setF k f v h
  · exact ((PowerOnly.setF k F.THM_EV_THROTTLE 1 (by decide)).trans (Pkg.inc_powerOnly _ (F.THM_COUNTS 0) (by decide))).trans (.setF _ f v h)

theorem Pkg.stepHeld_powerOnly (k : Pkg) : PowerOnly k k.stepHeld :=
  .ite (.refl k) (((PowerOnly.setF k F.PWR_STEP 0 (by decide)).trans (Pkg.inc_powerOnly _ (F.PWR_COUNTS 6) (by decide))).trans
    (Pkg.setClocks_powerOnly _))

theorem Pkg.throttled_powerOnly (k : Pkg) : PowerOnly k k.throttled := by
  have cores : PowerOnly k k.coresStepped := .foldl _ (fun j c =>
    (PowerOnly.setF j (F.THM_CORE_TJ c) _ (by simp only [F.THM_CORE_TJ]; omega)).trans
      (Pkg.setThermalGate_powerOnly _ (F.THM_CORE_GATE c) _ (by simp only [F.THM_CORE_GATE]; omega))) k
  have hub : PowerOnly k.coresStepped k.coresStepped.hubStepped := Pkg.setThermalGate_powerOnly _ F.THM_HUB_GATE _ (by decide)
  have count (j : Pkg) : PowerOnly j j.countGated := .setF j F.THM_GATED _ (by decide)
  exact (((cores.trans hub).trans (Pkg.stepHeld_powerOnly _)).trans (count _)).trans (Pkg.showGates_powerOnly _)

theorem Pkg.minuteDone_powerOnly (k : Pkg) : PowerOnly k k.minuteDone := by
  have closed : PowerOnly k k.minuteClosed := .updTherm k _
  have rate (j : Pkg) (v : Nat) : PowerOnly j (j.setF F.THM_CYCLE_RATE v) := .setF j F.THM_CYCLE_RATE v (by decide)
  have told (j : Pkg) (v : Nat) : PowerOnly j (j.showRate v) :=
    .ite (((rate j v).trans (.setF _ F.THM_EV_CYCLING 1 (by decide))).trans (.notices _ _)) (rate j v)
  exact .ite closed (closed.trans (told _ _))

/-! ### Rails -/

theorem Pkg.disableRail_powerOnly (k : Pkg) (n : Nat) : PowerOnly k (k.disableRail n) :=
  (PowerOnly.setF k (F.PWR_RL_STATE n) _ (by simp only [F.PWR_RL_STATE]; omega)).trans (.updRails _ _)

theorem Pkg.nextRail_powerOnly (k : Pkg) (n : Nat) : PowerOnly k (k.nextRail n) := by
  induction n with
  | zero => exact .ite (.updRails k _) (.refl k)
  | succ n ih => exact .ite ih (k.disableRail_powerOnly _)

theorem Pkg.powerUp_powerOnly (k : Pkg) : PowerOnly k k.powerUp := by
  have begun : PowerOnly k (({ k with pinLow := true } : Pkg).updRails
      (fun r => { r with mode := .up, wait := [], late := [], retryAt := none, held := false })) := (PowerOnly.pin k true).trans (.updRails _ _)
  refine .ite (.refl k) (begun.trans ?_)
  rw [Pkg.enableRails_one]
  exact (PowerOnly.setF _ (F.PWR_RL_STATE 1) 1 (by decide)).trans (.updRails _ _)

theorem Pkg.tryPowerUp_powerOnly (k : Pkg) (may stopped : Bool) : PowerOnly k (k.tryPowerUp may stopped) := by
  unfold Pkg.tryPowerUp
  split
  · exact .ite k.powerUp_powerOnly (.refl k)
  · exact .refl k

/-- The family of the power and cooling commands. -/
theorem powerCommands_keep {s t : State} {p : PkgId} {t₀ : Nat} (mw mv ein eout : Nat) (cl : ClusterId) (lost busy : List Nat) :
    ∀ c ∈ [Instr.powerSample p mw mv t₀, .boostChoice p t₀, .droopCrossing p cl t₀, .energyInterval p ein eout lost busy t₀,
      .thermalGateUpdate p t₀, .supplyStale p t₀, .junctionMinute p t₀, .powerUpRetry p t₀, .railDownStepTimeout p t₀],
    exec c s = .next t → PowerOnly (s.pkg p) (t.pkg p) := by
  have now := PowerOnly.setNow (s.pkg p) t₀
  intro c hc h
  simp only [List.mem_cons, List.not_mem_nil, or_false] at hc
  rcases hc with rfl | rfl | rfl | rfl | rfl | rfl | rfl | rfl | rfl
  · rw [pkg_of_exec (exec_powerSample s p mw mv t₀) h]
    exact ((now.trans (.setF _ F.PWR_IN_MV _ (by decide))).trans (.updPower _ _)).trans (Pkg.showGates_powerOnly _)
  · rw [pkg_of_exec (exec_boostChoice s p t₀) h]
    exact (((now.trans (Pkg.refreshCaps_powerOnly _)).trans (Pkg.boosted_powerOnly _)).trans (Pkg.setClocks_powerOnly _)).trans
      (Pkg.showGates_powerOnly _)
  · rw [pkg_of_exec (exec_droopCrossing s p cl t₀) h]
    exact (now.trans (Pkg.drooped_powerOnly _ cl)).trans (Pkg.showGates_powerOnly _)
  · rw [pkg_of_exec (exec_energyInterval s p ein eout lost busy t₀) h]
    exact now.trans (Pkg.intervalDone_powerOnly _ _)
  · rw [pkg_of_exec (exec_thermalGateUpdate s p t₀) h]
    exact .ite now (now.trans (Pkg.throttled_powerOnly _))
  · rw [pkg_of_exec_updPost (exec_supplyStale s p t₀) h]
    exact (PowerOnly.ite (now.trans ((PowerOnly.setF _ F.THM_SUP_VALID 0 (by decide)).trans (.notices _ _))) now).trans (.notices _ _)
  · rw [pkg_of_exec_updPost (exec_junctionMinute s p t₀) h]
    exact (PowerOnly.ite now (now.trans (Pkg.minuteDone_powerOnly _))).trans (.notices _ _)
  · rw [pkg_of_exec (exec_powerUpRetry s p t₀) h]
    exact now.trans (Pkg.tryPowerUp_powerOnly _ _ _)
  · rw [pkg_of_exec (exec_railDownStepTimeout s p t₀) h]
    exact .ite (now.trans (Pkg.nextRail_powerOnly _ _)) now

end Sys2Proof.Machine
end

section
/-! PROOFS. What the sequencer's commands and the engines' leave alone. -/

namespace Sys2Proof.Machine

/-! ### The sequencer -/

/-- `j` differs from `k` at most in what the sequencer, its posts and packets touch, and in the announcements; no core's local store
differs. -/
structure SeqFamily (k j : Pkg) : Prop where
  fields : ∃ r t n cs f w sm fo ar an, j = { k with
    regs := r, now := t, errCount := n, cores := cs, fab := f, power := { k.power with moved := w }, sems := sm, fireOrder := fo, arrivals := ar, announces := an }
  cells : CellsKept (· < 0x20000) k j
  ls : ∀ c, (j.core c).ls = (k.core c).ls

namespace SeqFamily

variable {k j l : Pkg}

theorem ofGo (h : GoOnly k j) : SeqFamily k j := by
  obtain ⟨⟨r, n, cs, f, w, sm, fo, ar, e⟩, hc, hs⟩ := h
  refine ⟨⟨r, k.now, n, cs, f, w, sm, fo, ar, k.announces, e⟩, hc.mono fun o ho => ?_, fun c => ?_⟩
  · unfold goKeeps seqKeeps; omega
  · obtain ⟨pl, hpl⟩ := hs c
    rw [hpl]

theorem ofSeq (h : SeqOnly k j) : SeqFamily k j := ofGo (.ofSeq h)

theorem refl (k : Pkg) : SeqFamily k k := ofGo (.refl k)

theorem trans (h : SeqFamily k j) (g : SeqFamily j l) : SeqFamily k l := by
  obtain ⟨⟨r, t, n, cs, f, w, sm, fo, ar, an, e⟩, hc, hs⟩ := h
  obtain ⟨⟨r', t', n', cs', f', w', sm', fo', ar', an', e'⟩, gc, gs⟩ := g
  exact ⟨⟨r', t', n', cs', f', w', sm', fo', ar', an', by rw [e', e]⟩, hc.trans gc, fun c => (gs c).trans (hs c)⟩

theorem setNow (k : Pkg) (t : Nat) : SeqFamily k (k.at t) :=
  ⟨⟨_, _, _, _, _, k.power.moved, _, _, _, _, rfl⟩, .ofRegs rfl, fun _ => rfl⟩

theorem setF (k : Pkg) (f : Fld) (v : Nat) (h : 0x20000 ≤ f.off) : SeqFamily k (k.setF f v) :=
  ⟨⟨_, _, _, _, _, k.power.moved, _, _, _, _, rfl⟩, .setF k v (by omega), fun _ => rfl⟩

theorem announce (k : Pkg) (an : List Announce) : SeqFamily k { k with announces := an } :=
  ⟨⟨_, _, _, _, _, k.power.moved, _, _, _, _, rfl⟩, .ofRegs rfl, fun _ => rfl⟩

theorem updCore (k : Pkg) (c : Nat) {f : Core → Core} (h : ∀ x, (f x).ls = x.ls) : SeqFamily k (k.updCore c f) := by
  refine ⟨⟨_, _, _, _, _, k.power.moved, _, _, _, _, rfl⟩, .ofRegs rfl, fun c' => ?_⟩
  rw [Pkg.core_updCore]
  split
  · next e => rw [h, e.1]
  · rfl

theorem updCmd (k : Pkg) (c num : Nat) (f : Cmd → Cmd) : SeqFamily k (k.updCmd c num f) := .updCore k c fun _ => rfl

theorem updPlay (k : Pkg) (c : Nat) (f : Play → Play) : SeqFamily k (k.updPlay c f) := .ofSeq (.updPlay k c f)

theorem ite {c : Prop} [Decidable c] (h : SeqFamily k j) (g : SeqFamily k l) : SeqFamily k (if c then j else l) := by
  split <;> assumption

theorem lateAction (k : Pkg) : SeqFamily k k.lateAction :=
  (SeqFamily.setF k F.HTM_LATE_COUNT _ (by decide)).trans (.setF _ F.HTM_LATE_ACTION 1 (by decide))

/-- What the statement asks of these commands. -/
theorem keeps (h : SeqFamily k j) : k.keeps j 0x20000 ∧ j.host = k.host ∧ j.therm = k.therm ∧ ∀ c, (j.core c).ls = (k.core c).ls := by
  obtain ⟨⟨r, t, n, cs, f, w, sm, fo, ar, an, e⟩, hc, hs⟩ := h
  refine ⟨⟨?_, ?_, ?_, ?_, ?_, ?_, ?_, ?_, ?_, fun o ho => hc o ho⟩, ?_, ?_, hs⟩ <;> rw [e]

end SeqFamily

section
variable {c : Nat} (hc : c < 64)
include hc

theorem Pkg.retire_family (k : Pkg) (x : Cmd) (st : Status) (info : Nat) : SeqFamily k (k.retire c x st info) := .ofSeq (k.retire_frame hc x st info)

theorem Pkg.seqGo_family (k : Pkg) : SeqFamily k (k.seqGo c) := .ofGo (k.seqGo_frame hc)

/-- A command that retires at issue touches what its own act touches. -/
theorem Pkg.atIssue_family (k : Pkg) (x : Cmd) (bad : Option Status) {act : Pkg → Pkg × Status} (hact : SeqFamily k (act k).1) :
    SeqFamily k (k.atIssue c x bad act) := by
  cases bad with
  | some st => exact k.retire_family hc x st 0
  | none => exact hact.trans (Pkg.retire_family hc _ x _ 0)

/-- A sequencer command touches what its own act touches, and what follows an issue. -/
theorem Pkg.seqIssue_family (k : Pkg) (op : Nat) {act : Pkg → Cmd → Pkg} (hact : ∀ j x, SeqFamily j (act j x)) :
    SeqFamily k (k.seqIssue c op act) := by
  unfold Pkg.seqIssue
  split
  · exact .refl k
  · refine .ite (.refl k) ?_
    split
    · exact .refl k
    · next b _ =>
      refine .ite (.refl k) ?_
      split
      · exact (SeqFamily.ofSeq (k.failWord_frame hc b _)).trans (Pkg.seqGo_family hc _)
      · refine .ite (.refl k) ?_
        split
        · exact .refl k
        · have pushed : SeqFamily k (k.pushCmd c b (if op = 0x31 then 2 else 3) .running) := .ofSeq (k.pushCmd_frame hc b _ _)
          dsimp only
          split
          · exact pushed
          · exact .ite ((pushed.trans (hact _ _)).trans (Pkg.seqGo_family hc _))
              ((pushed.trans (Pkg.retire_family hc _ _ _ _)).trans (Pkg.seqGo_family hc _))

theorem Pkg.jumpTo_family (k : Pkg) (target : Nat) : SeqFamily k (k.jumpTo c target) :=
  (SeqFamily.setF k (F.CORE_SEQ_NEXT c) target (by simp only [F.CORE_SEQ_NEXT]; omega)).trans (.updPlay _ _ _)

/-! ### Starting a command -/

theorem Pkg.startCmd_family (k : Pkg) (q : Nat) (sets : Pkg → Cmd → List (Nat × Nat) × List (Nat × Nat)) :
    SeqFamily k (k.startCmd c q sets) := by
  unfold Pkg.startCmd
  split
  · exact .refl k
  · split
    · exact .refl k
    · refine .ite (.refl k) ?_
      split
      · exact .refl k
      · refine .ite ((k.retire_family hc _ _ _).trans (Pkg.seqGo_family hc _)) ?_
        exact .ite (.refl k) ((SeqFamily.updCmd k c _ _).trans (.ofSeq (Pkg.showSeq_frame _ hc)))

omit hc in
theorem Pkg.takeBiases_family (k : Pkg) : SeqFamily k (k.takeBiases c) := by
  unfold Pkg.takeBiases
  split
  · exact .ite (.updCmd k c _ _) (.refl k)
  · exact .refl k

theorem Pkg.commandStart_family (k : Pkg) (q : Nat) : SeqFamily k (k.commandStart c q) := by
  have started := k.startCmd_family hc q (Pkg.fullSets c)
  unfold Pkg.commandStart
  split
  · exact .refl k
  · exact .ite (.ite (.refl k) (started.trans (.updCmd _ _ _ _))) (started.trans (Pkg.takeBiases_family _))

end

/-- A change of one package, as the statement sees it. -/
theorem seqFamily_of_exec {i : Instr} {s t : State} {p : PkgId} {t₀ : Nat} {f : Pkg → Pkg} (hexec : exec i s = .next (s.updPkg p (fun k => f (k.at t₀))))
    (hf : ∀ k, SeqFamily k (f k)) (h : exec i s = .next t) : SeqFamily (s.pkg p) (t.pkg p) := by
  rw [pkg_of_exec hexec h]
  exact (SeqFamily.setNow _ t₀).trans (hf _)

/-- The family of the sequencer's commands. -/
theorem seqCommands_keep {s t : State} {p : PkgId} {t₀ : Nat} (core : CoreId) (q : Fin 3) (stalls : Nat) :
    ∀ c ∈ [Instr.waitHt p core t₀, .fence p core t₀, .semWait p core t₀, .semPost p core t₀,
      .barrier p core t₀, .jump p core t₀, .loop p core t₀, .stop p core t₀, .announce p core t₀, .commandStart p core q stalls t₀,
      .sendTile p core t₀, .laneSlotsGranted p core t₀],
    exec c s = .next t → SeqFamily (s.pkg p) (t.pkg p) := by
  have hc := core.isLt
  have issued {i : Instr} {op : Nat} {act : Pkg → Cmd → Pkg}
      (hexec : exec i s = .next (s.updPkg p (fun k => (k.at t₀).seqIssue core op act))) (hact : ∀ j x, SeqFamily j (act j x))
      (h : exec i s = .next t) : SeqFamily (s.pkg p) (t.pkg p) :=
    seqFamily_of_exec hexec (fun k => k.seqIssue_family hc op hact) h
  intro c hmem h
  simp only [List.mem_cons, List.not_mem_nil, or_false] at hmem
  rcases hmem with rfl | rfl | rfl | rfl | rfl | rfl | rfl | rfl | rfl | rfl | rfl | rfl
  · exact issued rfl (fun j x => .ite ((SeqFamily.lateAction j).trans (Pkg.retire_family hc _ x _ _)) (.updPlay j _ _)) h
  · exact issued rfl (fun j x => .ite (j.retire_family hc x _ _) (.updPlay j _ _)) h
  · exact issued rfl (fun j x => .ite (j.retire_family hc x _ _) (.updPlay j _ _)) h
  · exact issued rfl (fun j x => j.atIssue_family hc x _ (.updPlay j _ _)) h
  · exact issued rfl (fun j x => .ite (j.retire_family hc x _ _) (.updPlay j _ _)) h
  · refine issued rfl (fun j x => ?_) h
    split
    · exact j.retire_family hc x _ _
    · exact (j.retire_family hc x _ _).trans (Pkg.jumpTo_family hc _ _)
  · refine issued rfl (fun j x => .ite (j.retire_family hc x _ _) ?_) h
    split
    · exact j.retire_family hc x _ _
    · have looped (g : Play → Play) : SeqFamily j ((j.updPlay core.val g).retire core.val x 0 0) :=
        (SeqFamily.updPlay j core.val g).trans (Pkg.retire_family hc _ x 0 0)
      exact .ite (looped _) ((looped _).trans (Pkg.jumpTo_family hc _ _))
  · exact issued rfl (fun j x => .updPlay j _ _) h
  · refine issued rfl (fun j x => j.atIssue_family hc x _ ?_) h
    have told (an : List Announce) : SeqFamily j (({ j with announces := an } : Pkg).inc (F.PWR_COUNTS 4)) :=
      (SeqFamily.announce j an).trans (.setF _ (F.PWR_COUNTS 4) _ (by decide))
    dsimp only
    split
    · exact ((told _).trans (.lateAction _)).trans (.setF _ (F.PWR_COUNTS 5) _ (by decide))
    · exact told _
  · refine seqFamily_of_exec (f := fun k => (k.addWrap (F.CORE_HAZ_STALLS core) stalls).commandStart core q) rfl (fun k => ?_) h
    exact (SeqFamily.setF k (F.CORE_HAZ_STALLS core) _ (by simp only [F.CORE_HAZ_STALLS]; omega)).trans (Pkg.commandStart_family hc _ _)
  · exact issued rfl (fun j x => j.atIssue_family hc x _ (.updPlay j _ _)) h
  · refine seqFamily_of_exec (f := fun k => match (k.play core).bind (fun pl => pl.queueHead 0) with
      | some x => if x.op = 0x03 ∧ x.batch = true then k.commandStart core 0 else k
      | none => k) rfl (fun k => ?_) h
    split
    · exact .ite (k.commandStart_family hc 0) (.refl k)
    · exact .refl k

end Sys2Proof.Machine
end

section
/-! PROOFS. What the engines' commands, the fabric's, the translation's and the host port's leave alone; O60. -/

namespace Sys2Proof.Machine

/-! ### The engines -/

/-- `j` differs from `k` at most in core `c`, the registers from the cores' up, and in time. -/
structure EngineOnly (c : Nat) (k j : Pkg) : Prop where
  fields : ∃ r t n cs, j = { k with regs := r, now := t, errCount := n, cores := cs }
  cells : CellsKept (· < 0x1000000) k j
  others : ∀ c', c' ≠ c → j.core c' = k.core c'

namespace EngineOnly

variable {c : Nat} {k j l : Pkg}

theorem refl (k : Pkg) : EngineOnly c k k := ⟨⟨_, _, _, _, rfl⟩, .refl k, fun _ _ => rfl⟩

theorem trans (h : EngineOnly c k j) (g : EngineOnly c j l) : EngineOnly c k l := by
  obtain ⟨⟨r, t, n, cs, e⟩, hc, hs⟩ := h
  obtain ⟨⟨r', t', n', cs', e'⟩, gc, gs⟩ := g
  exact ⟨⟨r', t', n', cs', by rw [e', e]⟩, hc.trans gc, fun c' h => (gs c' h).trans (hs c' h)⟩

theorem setNow (k : Pkg) (t : Nat) : EngineOnly c k (k.at t) := ⟨⟨_, _, _, _, rfl⟩, .ofRegs rfl, fun _ _ => rfl⟩

theorem setF (k : Pkg) (f : Fld) (v : Nat) (h : 0x1000000 ≤ f.off) : EngineOnly c k (k.setF f v) :=
  ⟨⟨_, _, _, _, rfl⟩, .setF k v (by omega), fun _ _ => rfl⟩

theorem setCore (k : Pkg) (x : Core) : EngineOnly c k (k.setCore c x) :=
  ⟨⟨_, _, _, _, rfl⟩, .ofRegs rfl, fun _ h => Pkg.core_setCore_other k h x⟩

theorem updCore (k : Pkg) (f : Core → Core) : EngineOnly c k (k.updCore c f) := setCore k _

theorem updCmd (k : Pkg) (num : Nat) (f : Cmd → Cmd) : EngineOnly c k (k.updCmd c num f) := updCore k _

theorem lsStore (k : Pkg) (m : Memory) (wr : List Nat) : EngineOnly c k (k.lsStore c m wr) := updCore k _

theorem computed (k : Pkg) (x : Cmd) (bad : Option Bad) : EngineOnly c k (k.computed c x bad) := updCmd k _ _

theorem ofErr (h : ErrOnly k j) : EngineOnly c k j := by
  have cells : CellsKept (· < 0x1000000) k j := fun o ho => h.cells o (by omega)
  obtain ⟨⟨r, n, rfl⟩, -⟩ := h
  exact ⟨⟨_, _, _, _, rfl⟩, cells, fun _ _ => rfl⟩

theorem ite {p : Prop} [Decidable p] (h : EngineOnly c k j) (g : EngineOnly c k l) : EngineOnly c k (if p then j else l) := by
  split <;> assumption

theorem foldl {α : Type} (xs : List α) {op : Pkg → α → Pkg} (h : ∀ k x, EngineOnly c k (op k x)) (k : Pkg) : EngineOnly c k (xs.foldl op k) :=
  List.foldlRecOn xs op (refl k) (fun b hb x _ => hb.trans (h b x))

/-- What the statement asks of these commands. -/
theorem keeps (h : EngineOnly c k j) : k.keeps j 0x1000000 ∧ j.host = k.host ∧ j.sems = k.sems ∧ ∀ c', c' ≠ c → j.core c' = k.core c' := by
  obtain ⟨⟨r, t, n, cs, e⟩, hc, hs⟩ := h
  refine ⟨⟨?_, ?_, ?_, ?_, ?_, ?_, ?_, ?_, ?_, fun o ho => hc o ho⟩, ?_, ?_, hs⟩ <;> rw [e]

end EngineOnly

section
variable (k : Pkg) (c : Nat)

theorem Pkg.fpFlags_engine (flags : Nat) : EngineOnly c k (k.fpFlags c flags) := by
  have flag (j : Pkg) (n : Nat) (f : Fld) (hf : 0x1000000 ≤ f.off) : EngineOnly c j (if bit flags n then j.raise f else j) :=
    .ite (.setF j f 1 hf) (.refl j)
  exact ((((flag k 0 (F.CORE_FP_INVALID c) (by simp only [F.CORE_FP_INVALID]; omega)).trans
    (flag _ 1 (F.CORE_FP_OVERFLOW c) (by simp only [F.CORE_FP_OVERFLOW]; omega))).trans
    (flag _ 2 (F.CORE_FP_SATURATED c) (by simp only [F.CORE_FP_SATURATED]; omega))).trans
    (flag _ 3 (F.CORE_FP_NAN_IN c) (by simp only [F.CORE_FP_NAN_IN]; omega))).trans
    (flag _ 4 (F.CORE_FP_UNDERFLOW c) (by simp only [F.CORE_FP_UNDERFLOW]; omega))

theorem Pkg.putLines_engine (t : Tensor) (sat : Bool) (lines : List (List Nat × List Num)) : EngineOnly c k (k.putLines c t sat lines) :=
  (EngineOnly.lsStore k _ _).trans (Pkg.fpFlags_engine _ c _)

theorem Pkg.putTensor_engine (t : Tensor) (sat : Bool) (val : List Nat → Num × Nat) : EngineOnly c k (k.putTensor c t sat val) :=
  (k.putLines_engine c t sat _).trans (Pkg.fpFlags_engine _ c _)

theorem Pkg.putRaw_engine (t : Tensor) (val : List Nat → Nat) : EngineOnly c k (k.putRaw c t val) := .lsStore k _ _

theorem Pkg.report_engine {f : Fld} (hf : 0x1000000 ≤ f.off) (st : Status) (u : UnitKind) (i x : Nat) : EngineOnly c k (k.report f st u i x) :=
  .ite (.setF k f st hf) ((EngineOnly.setF k f st hf).trans (.ofErr (Pkg.logError_frame ..)))

/-- Reading local store may correct an error, and log one. -/
theorem Pkg.lsRead_engine (addrs : List Nat) : EngineOnly c k (k.lsRead c addrs).1 := by
  unfold Pkg.lsRead
  extract_lets hs x ce k₀ k₁
  have corrected : EngineOnly c k k₁ := .ite (.refl k) (((EngineOnly.setCore k _).trans
    (.setF _ (F.CORE_LS_CE_COUNT c) _ (by simp only [F.CORE_LS_CE_COUNT]; omega))).trans (.setF _ (F.CORE_LS_CE c) 1 (by simp only [F.CORE_LS_CE]; omega)))
  split
  · exact corrected
  · exact .ite corrected (((corrected.trans (.setF _ (F.CORE_LS_UE_BANK c) _ (by simp only [F.CORE_LS_UE_BANK]; omega))).trans
      (.setF _ (F.CORE_LS_UE_ROW c) _ (by simp only [F.CORE_LS_UE_ROW]; omega))).trans (.setF _ (F.CORE_LS_UE c) 1 (by simp only [F.CORE_LS_UE]; omega)))

/-- The element-wise operation of VEC, once its operands are read. -/
theorem Pkg.vec_engine (x : Cmd) : EngineOnly c k (k.vec c x).1 := by
  unfold Pkg.vec
  split
  · exact .refl k
  · have read := k.lsRead_engine c (k.vecTouch c x)
    generalize k.lsRead c (k.vecTouch c x) = r at read
    obtain ⟨j, _ | b⟩ := r
    · dsimp only at read ⊢
      rw [apply_ite Prod.fst]
      dsimp only
      exact .ite (read.trans (j.putRaw_engine c _ _)) (read.trans (j.putTensor_engine c _ _ _))
    · exact read

theorem Pkg.trans_engine (x : Cmd) : EngineOnly c k (k.trans c x).1 := by
  unfold Pkg.trans
  split
  · exact .refl k
  · have read := k.lsRead_engine c (k.vecTouch c x)
    generalize k.lsRead c (k.vecTouch c x) = r at read
    obtain ⟨j, _ | b⟩ := r
    · dsimp only at read ⊢
      exact read.trans (j.putTensor_engine c _ _ _)
    · exact read

theorem Pkg.layout_engine (x : Cmd) : EngineOnly c k (k.layout c x).1 := by
  unfold Pkg.layout
  split
  · exact .refl k
  · have read := k.lsRead_engine c (k.vecTouch c x)
    generalize k.lsRead c (k.vecTouch c x) = r at read
    obtain ⟨j, _ | b⟩ := r
    · dsimp only at read ⊢
      rw [apply_ite Prod.fst]
      dsimp only
      exact .ite ((read.trans (j.putRaw_engine c _ _)).trans (.lsStore _ _ _)) (read.trans (j.putRaw_engine c _ _))
    · exact read

/-- What ROUTE stores: its picks and its counts, and its flags; then it is computed. -/
theorem Pkg.routed_engine (x : Cmd) (m₁ m₂ : Memory) (w₁ w₂ : List Nat) (flags num : Nat) (f : Cmd → Cmd) : EngineOnly c k
    (((((k.lsStore c m₁ w₁).lsStore c m₂ w₂).fpFlags c flags).computed c x none).updCmd c num f) :=
  ((((EngineOnly.lsStore k m₁ w₁).trans (.lsStore _ m₂ w₂)).trans (Pkg.fpFlags_engine _ c flags)).trans (.computed _ x none)).trans (.updCmd _ num f)

theorem Pkg.routeRun_engine (x : Cmd) : EngineOnly c k (k.routeRun c x) := by
  unfold Pkg.routeRun
  extract_lets m sc n tokens cap cands flags nans put finish lists lineBytes lines disp assigned empty picks
  have finished (a b : Bytes) (l : List Nat) (o : Nat) : EngineOnly c k (finish a b l o) := Pkg.routed_engine k c x _ _ _ _ _ _ _
  split
  · exact finished _ _ _ _
  · exact finished _ _ _ _

theorem Pkg.routeCmd_engine (x : Cmd) : EngineOnly c k (k.routeCmd c x) := by
  unfold Pkg.routeCmd
  split
  · exact .computed k x _
  · have read := k.lsRead_engine c (k.vecTouch c x)
    generalize k.lsRead c (k.vecTouch c x) = r at read
    obtain ⟨j, _ | b⟩ := r
    · dsimp only at read ⊢
      exact read.trans (j.routeRun_engine c x)
    · exact read.trans (.computed j x _)

/-! Attention. -/

theorem Pkg.writeRows_engine (x : Cmd) (lane : Nat) (rows : List SoftRow) : EngineOnly c k (k.writeRows c x lane rows) := by
  unfold Pkg.writeRows
  extract_lets o st mq outs k₁ put
  have rowsPut : EngineOnly c k k₁ := (k.putLines_engine c _ _ _).trans (Pkg.fpFlags_engine _ c _)
  exact rowsPut.trans (.foldl _ (fun j p => (EngineOnly.lsStore j _ _).trans (.lsStore _ _ _)) _)

theorem Pkg.attnPlain_engine (x : Cmd) : EngineOnly c k (k.attnPlain c x) := by
  unfold Pkg.attnPlain
  extract_lets q kt vt mq nk
  split
  exact ((EngineOnly.setF k (F.CORE_ME_STEPS c) _ (by simp only [F.CORE_ME_STEPS]; omega)).trans (Pkg.writeRows_engine _ c x 0 _)).trans
    (Pkg.fpFlags_engine _ c _)

theorem Pkg.finishLane_engine (x : Cmd) (h : LaneHeader) (i : Nat) (l : Lane) : EngineOnly c k (k.finishLane c x h i l) := by
  unfold Pkg.finishLane
  extract_lets st rows putStatus
  have status (j : Pkg) : EngineOnly c j (putStatus j) := .lsStore j _ _
  split
  · exact status k
  · have done (rows : List SoftRow) : EngineOnly c k ((putStatus (k.writeRows c x i rows)).addWrap (F.CORE_ATT_DONE c) 1) :=
      ((k.writeRows_engine c x i rows).trans (status _)).trans (.setF _ (F.CORE_ATT_DONE c) _ (by simp only [F.CORE_ATT_DONE]; omega))
    exact .ite ((done _).trans (.setF _ (F.CORE_ATT_FAILED c) _ (by simp only [F.CORE_ATT_FAILED]; omega))) (done _)

theorem Pkg.lanesStep_engine (x : Cmd) (h : LaneHeader) (ls : List Lane) : EngineOnly c k (k.lanesStep c x h ls) := by
  unfold Pkg.lanesStep
  extract_lets ls' ended k₁ k₂
  have finished : EngineOnly c k k₁ := .foldl _ (fun j p => j.finishLane_engine c x h _ _) k
  split
  · have emptied : EngineOnly c k k₂ := finished.trans (.updCmd _ _ _)
    split
    · exact (((emptied.trans (.setF _ (F.CORE_ATT_FAIL_LANE c) _ (by simp only [F.CORE_ATT_FAIL_LANE]; omega))).trans
        (Pkg.report_engine _ c (by simp only [F.CORE_ATT_FAIL_STATUS]; omega) _ _ _ _)).trans (.computed _ x none)).trans (.updCmd _ _ _)
    · exact emptied.trans (.computed _ x none)
  · exact finished.trans (.updCmd _ _ _)

theorem Pkg.attnBatch_engine (x : Cmd) : EngineOnly c k (k.attnBatch c x) :=
  (EngineOnly.foldl _ (fun j _ => j.finishLane_engine c x _ _ _) k).trans (Pkg.lanesStep_engine _ c x _ _)

theorem Pkg.attnBlock_engine (x : Cmd) : EngineOnly c k (k.attnBlock c x) := by
  unfold Pkg.attnBlock
  refine .ite (.refl k) ?_
  split
  · exact .computed k x _
  · have read := k.lsRead_engine c (k.attnTouch c x (if x.batch then [16] else [16, 24, 32]))
    generalize k.lsRead c (k.attnTouch c x (if x.batch then [16] else [16, 24, 32])) = r at read
    obtain ⟨j, _ | b⟩ := r
    · dsimp only at read ⊢
      exact .ite (read.trans (j.attnBatch_engine c x)) ((read.trans (j.attnPlain_engine c x)).trans (.computed _ x none))
    · exact read.trans (.computed j x _)

/-- A command that has started. -/
theorem Pkg.onStarted_engine (op : Nat) {act : Pkg → Cmd → Pkg} (hact : ∀ j x, EngineOnly c j (act j x)) :
    EngineOnly c k (k.onStarted c op act) := by
  unfold Pkg.onStarted
  split
  · exact hact _ _
  · exact .refl k

end

/-- The family of the engines' commands. -/
theorem engineCommands_keep {s t : State} {p : PkgId} {t₀ : Nat} (core : CoreId) (conflicts : Nat) :
    ∀ c ∈ [Instr.vec p core conflicts t₀, .trans p core t₀, .route p core t₀, .layout p core t₀, .attnBlock p core t₀],
    exec c s = .next t → EngineOnly core.val (s.pkg p) (t.pkg p) := by
  have started {i : Instr} {op : Nat} {act : Pkg → Cmd → Pkg}
      (hexec : exec i s = .next (s.updPkg p (fun k => (k.at t₀).onStarted core op act))) (hact : ∀ j x, EngineOnly core.val j (act j x))
      (h : exec i s = .next t) : EngineOnly core.val (s.pkg p) (t.pkg p) := by
    rw [pkg_of_exec hexec h]
    exact (EngineOnly.setNow _ t₀).trans (Pkg.onStarted_engine _ _ op hact)
  intro c hmem h
  simp only [List.mem_cons, List.not_mem_nil, or_false] at hmem
  rcases hmem with rfl | rfl | rfl | rfl | rfl
  · exact started rfl (fun j x => ((EngineOnly.setF j (F.CORE_LS_CONFLICTS core) _ (by simp only [F.CORE_LS_CONFLICTS]; omega)).trans
      (Pkg.vec_engine _ core x)).trans (.computed _ x _)) h
  · exact started rfl (fun j x => (j.trans_engine core x).trans (.computed _ x _)) h
  · exact started rfl (fun j x => j.routeCmd_engine core x) h
  · exact started rfl (fun j x => (j.layout_engine core x).trans (.computed _ x _)) h
  · exact started rfl (fun j x => j.attnBlock_engine core x) h

end Sys2Proof.Machine
end

section
/-! PROOFS. What the fabric's, the translation's and the host port's commands leave alone; O60. -/

namespace Sys2Proof.Machine

/-! ### The fabric -/

/-- `j` differs from `k` at most in the fabric, the bytes moved, the registers from 0x180000 up, and in time. -/
structure PacketOnly (k j : Pkg) : Prop where
  fields : ∃ r t f w, j = { k with regs := r, now := t, fab := f, power := { k.power with moved := w } }
  cells : CellsKept (· < 0x180000) k j

namespace PacketOnly

variable {k j l : Pkg}

theorem refl (k : Pkg) : PacketOnly k k := ⟨⟨k.regs, k.now, k.fab, k.power.moved, rfl⟩, .refl k⟩

theorem trans (h : PacketOnly k j) (g : PacketOnly j l) : PacketOnly k l := by
  obtain ⟨⟨r, t, f, w, e⟩, hc⟩ := h
  obtain ⟨⟨r', t', f', w', e'⟩, gc⟩ := g
  exact ⟨⟨r', t', f', w', by rw [e', e]⟩, hc.trans gc⟩

theorem setF (k : Pkg) (f : Fld) (v : Nat) (h : 0x180000 ≤ f.off) : PacketOnly k (k.setF f v) :=
  ⟨⟨_, _, _, k.power.moved, rfl⟩, .setF k v (by omega)⟩

theorem setNow (k : Pkg) (t : Nat) : PacketOnly k (k.at t) := ⟨⟨_, _, _, k.power.moved, rfl⟩, .ofRegs rfl⟩

theorem setFport (k : Pkg) (n : Nat) (f : FabPort) : PacketOnly k (k.setFport n f) := ⟨⟨_, _, _, k.power.moved, rfl⟩, .ofRegs rfl⟩

theorem ofFabOnly (h : FabOnly k j) : PacketOnly k j := by
  obtain ⟨⟨r, f, w, e⟩, hc⟩ := h
  exact ⟨⟨r, k.now, f, w, e⟩, fun o ho => hc o (.inl (by omega))⟩

theorem ite {c : Prop} [Decidable c] (h : PacketOnly k j) (g : PacketOnly k l) : PacketOnly k (if c then j else l) := by
  split <;> assumption

/-- What the statement asks of these commands. -/
theorem keeps (h : PacketOnly k j) : k.keeps j 0x180000 ∧ j.cores = k.cores ∧ j.host = k.host ∧ j.sems = k.sems := by
  obtain ⟨⟨r, t, f, w, e⟩, hc⟩ := h
  refine ⟨⟨?_, ?_, ?_, ?_, ?_, ?_, ?_, ?_, ?_, fun o ho => hc o ho⟩, ?_, ?_, ?_⟩ <;> rw [e]

end PacketOnly

section
variable (k : Pkg)

theorem Pkg.refreshQueue_packetOnly (n : Nat) : PacketOnly k (k.refreshQueue n) := by
  unfold Pkg.refreshQueue
  extract_lets f held stop k₁ k₂ k₃ k₄
  have shown : PacketOnly k k₃ := ((PacketOnly.setF k (F.FAB_PQ_BYTES n) held (by simp only [F.FAB_PQ_BYTES]; omega)).trans
    (.setF _ (F.FAB_PQ_ABOVE_W1 n) _ (by simp only [F.FAB_PQ_ABOVE_W1]; omega))).trans
    (.setF _ (F.FAB_PQ_ABOVE_W2 n) _ (by simp only [F.FAB_PQ_ABOVE_W2]; omega))
  have told : PacketOnly k k₄ := .ite (shown.trans (.setF _ F.FAB_EV_W2 1 (by decide))) shown
  exact told.trans (.setFport _ _ _)

theorem Pkg.forwardTo_packetOnly (p : Packet) {port : Nat} (h : port < 64) : PacketOnly k (k.forwardTo p port) :=
  .ite (.ofFabOnly (k.enqueue_frame port _ h)) (.refl k)

/-- A hall packet that finds no way is counted and answered. -/
theorem Pkg.answerNoRoute_packetOnly (p : Packet) : PacketOnly k (k.answerNoRoute p) :=
  (PacketOnly.setF k (F.LNK_HALL_COUNTS 0) _ (by decide)).trans (.ofFabOnly (Pkg.ack_frame _ p _ _))

theorem Pkg.startBraid_packetOnly (p : Packet) : PacketOnly k (k.startBraid p) := by
  unfold Pkg.startBraid
  split
  · exact k.answerNoRoute_packetOnly p
  · exact (PacketOnly.setF k (F.LNK_HALL_COUNTS 1) _ (by decide)).trans (Pkg.forwardTo_packetOnly _ _ (hopPort_lt _))

theorem Pkg.startLeg_packetOnly (l : Lineup) (p : Packet) (row : Bool) : PacketOnly k (k.startLeg l p row) := by
  unfold Pkg.startLeg
  split
  · exact k.answerNoRoute_packetOnly p
  · exact k.forwardTo_packetOnly _ (ringPort_lt _ _)

theorem Pkg.forward_packetOnly (port : Nat) (p : Packet) : PacketOnly k (k.forward port p) := by
  unfold Pkg.forward
  split
  · exact .refl k
  · rename_i l _
    refine .ite (.ite (k.startBraid_packetOnly p) (.ite (k.forwardTo_packetOnly _ (ringPort_lt _ _))
      (.ite (k.startLeg_packetOnly l p false) (k.forwardTo_packetOnly _ (ringPort_lt _ _))))) (.ite (k.forwardTo_packetOnly _ (hopPort_lt _)) ?_)
    split
    · exact k.forwardTo_packetOnly _ (hopPort_lt _)
    · exact .refl k

theorem Pkg.sendOpen_packetOnly (n : Nat) : PacketOnly k (k.sendOpen n) := by
  have released : PacketOnly k k.releaseHeld := .ofFabOnly k.releaseHeld_frame
  unfold Pkg.sendOpen
  dsimp only
  split
  · exact released
  · exact .ite ((((released.trans (.setFport _ _ _)).trans
      (.setF _ (F.FAB_SHARED_HELD n) _ (by simp only [F.FAB_SHARED_HELD]; omega))).trans (Pkg.refreshQueue_packetOnly _ n)).trans
      (.ofFabOnly (Pkg.releaseHeld_frame _))) released

theorem Pkg.schedToOpen_packetOnly (n : Nat) : PacketOnly k (k.schedToOpen n) :=
  ((PacketOnly.setFport k n _).trans (.setF _ (F.FAB_COUNTS 9) _ (by decide))).trans (Pkg.refreshQueue_packetOnly _ n)

end

/-- The family of the fabric's commands. -/
theorem fabricCommands_keep {s t : State} {p : PkgId} {t₀ : Nat} (port : PortId) (pkt : Packet) :
    ∀ c ∈ [Instr.packetForward p port pkt t₀, .openPacketSend p port t₀, .schedToOpen p port t₀],
    exec c s = .next t → PacketOnly (s.pkg p) (t.pkg p) := by
  have now : PacketOnly (s.pkg p) ((s.pkg p).at t₀) := .setNow _ t₀
  intro c hmem h
  simp only [List.mem_cons, List.not_mem_nil, or_false] at hmem
  rcases hmem with rfl | rfl | rfl
  · rw [pkg_of_exec rfl h]
    have taken := now.trans (.ofFabOnly (Pkg.take_frame _ pkt))
    exact .ite (taken.trans (.setF _ (F.FAB_COUNTS 6) _ (by decide))) (.ite taken (taken.trans (Pkg.forward_packetOnly _ port pkt)))
  · rw [pkg_of_exec rfl h]
    exact now.trans (Pkg.sendOpen_packetOnly _ port)
  · rw [pkg_of_exec rfl h]
    exact now.trans (Pkg.schedToOpen_packetOnly _ port)

/-! ### The translation -/

/-- `j` differs from `k` at most in the caches of the translation and the registers from 0x400000 up. -/
structure InvalidOnly (k j : Pkg) : Prop where
  fields : ∃ r x, j = { k with regs := r, xlt := x }
  cells : CellsKept (· < 0x400000) k j

namespace InvalidOnly

variable {k j l : Pkg}

theorem refl (k : Pkg) : InvalidOnly k k := ⟨⟨_, _, rfl⟩, .refl k⟩

theorem setF (k : Pkg) (f : Fld) (v : Nat) (h : 0x400000 ≤ f.off) : InvalidOnly k (k.setF f v) :=
  ⟨⟨_, _, rfl⟩, .setF k v (by omega)⟩

theorem ite {c : Prop} [Decidable c] (h : InvalidOnly k j) (g : InvalidOnly k l) : InvalidOnly k (if c then j else l) := by
  split <;> assumption

theorem accept (k : Pkg) (kind root va n : Nat) : InvalidOnly k (k.acceptInv kind root va n) :=
  ⟨⟨_, _, rfl⟩, CellsKept.thenF (.ofRegs rfl) _ (show ¬ F.XLT_INV_ISSUED.off < 0x400000 by decide)⟩

/-- An invalidation is accepted, or refused and told. -/
theorem command (k : Pkg) (src : CsrSource) (kind root n : Nat) : InvalidOnly k (k.invCmd src kind root n) :=
  have full : InvalidOnly k (k.raise F.XLT_INV_FULL) := .setF k _ 1 (by decide)
  .ite (.refl k) (.ite full (.ite full (.ite full (.accept k _ _ _ _))))

/-- What the statement asks of these commands. -/
theorem keeps (h : InvalidOnly k j) : k.keeps j 0x400000 ∧ j.cores = k.cores ∧ j.host = k.host ∧ j.sems = k.sems ∧ j.fab = k.fab := by
  obtain ⟨⟨r, x, e⟩, hc⟩ := h
  refine ⟨⟨?_, ?_, ?_, ?_, ?_, ?_, ?_, ?_, ?_, fun o ho => hc o ho⟩, ?_, ?_, ?_, ?_⟩ <;> rw [e]

end InvalidOnly

/-- The family of the translation's commands. -/
theorem translationCommands_keep {s t : State} {p : PkgId} (src : CsrSource) (root pages : Nat) :
    ∀ c ∈ [Instr.invRange p src root pages, .invRoot p src root, .invAll p src root, .invComplete p],
    exec c s = .next t → InvalidOnly (s.pkg p) (t.pkg p) := by
  intro c hmem h
  simp only [List.mem_cons, List.not_mem_nil, or_false] at hmem
  rcases hmem with rfl | rfl | rfl | rfl
  · rw [pkg_of_exec rfl h]; exact .command _ src 1 _ _
  · rw [pkg_of_exec rfl h]; exact .command _ src 2 _ _
  · rw [pkg_of_exec rfl h]; exact .command _ src 3 _ _
  · rw [pkg_of_exec rfl h]; exact .ite (.refl _) (.setF _ F.XLT_INV_DONE _ (by decide))

/-! ### The host port -/

/-- `j` differs from `k` at most in the host port's state, the fabric, the registers from 0x150000 up, and in time. -/
structure PortOnly (k j : Pkg) : Prop where
  fields : ∃ r t f o, j = { k with regs := r, now := t, fab := f, host := o }
  cells : CellsKept (· < 0x150000) k j

namespace PortOnly

variable {k j l : Pkg}

theorem refl (k : Pkg) : PortOnly k k := ⟨⟨_, _, _, _, rfl⟩, .refl k⟩

theorem trans (h : PortOnly k j) (g : PortOnly j l) : PortOnly k l := by
  obtain ⟨⟨r, t, f, o, e⟩, hc⟩ := h
  obtain ⟨⟨r', t', f', o', e'⟩, gc⟩ := g
  exact ⟨⟨r', t', f', o', by rw [e', e]⟩, hc.trans gc⟩

theorem setF (k : Pkg) (f : Fld) (v : Nat) (h : 0x150000 ≤ f.off) : PortOnly k (k.setF f v) := ⟨⟨_, _, _, _, rfl⟩, .setF k v (by omega)⟩

theorem setNow (k : Pkg) (t : Nat) : PortOnly k (k.at t) := ⟨⟨_, _, _, _, rfl⟩, .ofRegs rfl⟩

theorem ofHost (k : Pkg) (o : HostIf) : PortOnly k { k with host := o } := ⟨⟨_, _, _, _, rfl⟩, .ofRegs rfl⟩

theorem setConn (k : Pkg) (i : Nat) (c : Conn) : PortOnly k (k.setConn i c) := ofHost k _

theorem ofFab (k : Pkg) (f : Fabric) : PortOnly k { k with fab := f } := ⟨⟨_, _, _, _, rfl⟩, .ofRegs rfl⟩

theorem ite {c : Prop} [Decidable c] (h : PortOnly k j) (g : PortOnly k l) : PortOnly k (if c then j else l) := by
  split <;> assumption

theorem foldl {α : Type} (xs : List α) {op : Pkg → α → Pkg} (h : ∀ k x, PortOnly k (op k x)) (k : Pkg) : PortOnly k (xs.foldl op k) :=
  List.foldlRecOn xs op (refl k) (fun b hb x _ => hb.trans (h b x))

/-- What the statement asks of these commands. -/
theorem keeps (h : PortOnly k j) : k.keeps j 0x150000 ∧ j.cores = k.cores ∧ j.sems = k.sems := by
  obtain ⟨⟨r, t, f, o, e⟩, hc⟩ := h
  refine ⟨⟨?_, ?_, ?_, ?_, ?_, ?_, ?_, ?_, ?_, fun o ho => hc o ho⟩, ?_, ?_⟩ <;> rw [e]

end PortOnly

section
variable (k : Pkg)

theorem Pkg.callAcked_portOnly (num i : Nat) (st : Status) : PortOnly k (k.callAcked num i st) := by
  unfold Pkg.callAcked
  split
  · exact .refl k
  · exact .ite (.ite (.ofHost k _) (.ofHost k _)) (.ofHost k _)

theorem Pkg.settleHost_portOnly : PortOnly k k.settleHost := by
  unfold Pkg.settleHost
  refine (PortOnly.ofFab k _).trans (.foldl _ (fun j d => ?_) _)
  split
  · exact j.callAcked_portOnly _ _ _
  · exact .refl j

end

/-- The package before port S has answered. -/
def Pkg.unanswered (k : Pkg) : Pkg := { k with host := { k.host with reply := .none } }

theorem storageFrameReceive_portOnly (kind : StoFrame) (mine ecn : Bool) (vlan : Option Nat) (t₀ : Nat) {s t : State} {p : PkgId}
    (h : exec (.storageFrameReceive p kind mine vlan ecn t₀) s = .next t) : PortOnly (s.pkg p) (t.pkg p) := by
  rw [pkg_of_exec rfl h]
  have cleared : PortOnly (s.pkg p) ((s.pkg p).at t₀).unanswered := (PortOnly.setNow _ t₀).trans (.ofHost _ _)
  have dropped : PortOnly (s.pkg p) (((s.pkg p).at t₀).unanswered.inc (F.HIF_STO_COUNTS 4)) := cleared.trans (.setF _ _ _ (by decide))
  have said (r : StoReply) : PortOnly (s.pkg p)
      { ((s.pkg p).at t₀).unanswered with host := { ((s.pkg p).at t₀).unanswered.host with reply := r } } := cleared.trans (.ofHost _ _)
  refine .ite cleared ?_
  cases kind with
  | pause on => exact .ite (cleared.trans (.setF _ F.LNK_S_PFC _ (by decide))) dropped
  | other => exact dropped
  | roce => exact .ite (said _) dropped
  | address => exact .ite (said _) dropped
  | echo => exact .ite (said _) dropped

/-- The family of the host port's commands. -/
theorem portCommands_keep {s t : State} {p : PkgId} {t₀ : Nat} (fn : Root) (q : Fin 256) (index num : Nat) (conn : Fin 16)
    (answer : Option (Nat × Nat)) (kind : StoFrame) (mine ecn : Bool) (vlan : Option Nat) :
    ∀ c ∈ [Instr.sqDoorbell p fn q index t₀, .hostCallTimeout p num t₀, .reconnectAttempt p conn answer t₀,
      .storageFrameReceive p kind mine vlan ecn t₀],
    exec c s = .next t → PortOnly (s.pkg p) (t.pkg p) := by
  have now : PortOnly (s.pkg p) ((s.pkg p).at t₀) := .setNow _ t₀
  intro c hmem h
  simp only [List.mem_cons, List.not_mem_nil, or_false] at hmem
  rcases hmem with rfl | rfl | rfl | rfl
  · rw [pkg_of_exec rfl h]
    exact .ite (now.trans (.setF _ (F.HIF_SQ_TAIL q) _ (by simp only [F.HIF_SQ_TAIL]; omega)))
      (now.trans (.setF _ F.HIF_EV_DOORBELL_BAD 1 (by decide)))
  · rw [pkg_of_exec rfl h]
    have decided : PortOnly (s.pkg p) ((s.pkg p).at t₀).settleHost.decideCalls := (now.trans (Pkg.settleHost_portOnly _)).trans (.ofHost _ _)
    dsimp only
    split
    · exact decided
    · exact .ite decided (((decided.trans (.ofHost _ _)).trans (.setF _ (F.HIF_COUNTS 4) _ (by decide))).trans (.ofHost _ _))
  · rw [pkg_of_exec rfl h]
    refine .ite now ?_
    cases answer with
    | none => exact (now.trans (.setConn _ conn _)).trans (.setF _ (F.HIF_STO_ST conn) _ (by simp only [F.HIF_STO_ST]; omega))
    | some a =>
      obtain ⟨mx, blk⟩ := a
      exact ((now.trans (.setConn _ conn _)).trans (.setF _ (F.HIF_STO_ST conn) _ (by simp only [F.HIF_STO_ST]; omega))).trans
        (.setF _ (F.HIF_STO_IOQS conn) _ (by simp only [F.HIF_STO_IOQS]; omega))
  · exact storageFrameReceive_portOnly kind mine ecn vlan t₀ h

/-! ### O60 -/

/-- Settles O60: each family's commands keep to a relation of their own, `PowerOnly` to `PortOnly`, which names the state they may change. -/
theorem familiesKeepTheRest : Obligations.FamiliesKeepTheRest := by
  unfold Obligations.FamiliesKeepTheRest
  intro s t p t₀ k j
  refine ⟨?_, ?_, ?_, ?_, ?_, ?_⟩
  · intro mw mv ein eout cl lost busy c hc h
    exact (powerCommands_keep mw mv ein eout cl lost busy c hc h).keeps
  · intro core q stalls c hc h
    exact (seqCommands_keep core q stalls c hc h).keeps
  · intro core conflicts c hc h
    exact (engineCommands_keep core conflicts c hc h).keeps
  · intro port pkt c hc h
    exact (fabricCommands_keep port pkt c hc h).keeps
  · intro src root pages c hc h
    exact (translationCommands_keep src root pages c hc h).keeps
  · intro fn q index num conn answer kind mine ecn vlan c hc h
    exact (portCommands_keep fn q index num conn answer kind mine ecn vlan c hc h).keeps

end Sys2Proof.Machine
end

section
/-! PROOFS. The bias loop: load reports, updates and generations (R343–R351, R361, R363); O31. -/

namespace Sys2Proof.Machine

variable {s : State} {p : PkgId} {t₀ : Nat}

theorem FabOnly.moe {k j : Pkg} (h : FabOnly k j) : j.moe = k.moe := by obtain ⟨⟨r, f, w, rfl⟩, -⟩ := h; rfl

theorem FabOnly.isCaptain {k j : Pkg} (h : FabOnly k j) (slot : Nat) : j.isCaptain slot = k.isCaptain slot := by
  unfold Pkg.isCaptain Pkg.flag
  rw [h.getF _ (.inr (by simp only [F.HIF_IS_CAPTAIN]; omega))]

/-! ### Windows (R344, R345) -/

theorem Pkg.sendCounts_frame (k : Pkg) (slot layer kind when_ : Nat) (ns : List Nat) : FabOnly k (k.sendCounts slot layer kind when_ ns) :=
  FabOnly.foldl _ _ (fun j _ => Pkg.sendHub_frame j _ _ _ _ _) k

/-- What the close of a window does for a layer: its loads are cleared and sent. -/
def Pkg.closeLayer (slot epoch : Nat) (k : Pkg) (l : Nat) : Pkg :=
  let e := k.getF (F.MOE_EXPERTS (layerIx slot l))
  let ns := k.loads slot l e
  let k := (List.range e).foldl (fun k i => k.setF (F.MOE_LOAD (layerIx slot l) i) 0) k
  k.sendCounts slot l 0 epoch ns

theorem Pkg.closeWindow_of_due {k : Pkg} {slot t : Nat} (hvalid : k.getF F.HTM_VALID = 1) (hat : t % 2097152 = 0) (hn : k.getF (F.MOE_PERIOD slot) ≠ 0)
    (hdue : t / 2097152 % k.getF (F.MOE_PERIOD slot) = 0) :
    k.closeWindow slot t = (k.loopLayers slot).foldl (Pkg.closeLayer slot (t / 2097152)) k := by
  refine if_neg ?_
  simp [Pkg.flag, hvalid, atBoundary, epochTicks, hat, hn, hdue]

/-- A register that is no load of a layer, nor the fabric's, is as before. -/
theorem Pkg.getF_closeLayer (k : Pkg) (slot epoch l : Nat) {f : Fld} (hf : 0x300000 ≤ f.off)
    (ha : ∀ i, i < 2048 → (F.MOE_LOAD (layerIx slot l) i).apart f = true) : (k.closeLayer slot epoch l).getF f = k.getF f := by
  have cleared : ((List.range (k.getF (F.MOE_EXPERTS (layerIx slot l)))).foldl (fun k i => k.setF (F.MOE_LOAD (layerIx slot l) i) 0) k).getF f = k.getF f := by
    refine foldl_keeps (v := fun j => Pkg.getF j f) _ k fun j i hi => Pkg.getF_setF_apart _ _ _ _ (ha i ?_)
    exact (List.mem_range.mp hi).trans (k.getF_lt (F.MOE_EXPERTS (layerIx slot l)))
  exact ((Pkg.sendCounts_frame _ slot l 0 epoch _).getF f (.inr hf)).trans cleared

/-- The loads of the layer itself are 0. -/
theorem Pkg.getF_closeLayer_own (k : Pkg) (slot epoch l : Nat) {e : Nat} (he : e < k.getF (F.MOE_EXPERTS (layerIx slot l))) :
    (k.closeLayer slot epoch l).getF (F.MOE_LOAD (layerIx slot l) e) = 0 := by
  have cleared : ((List.range (k.getF (F.MOE_EXPERTS (layerIx slot l)))).foldl (fun k i => k.setF (F.MOE_LOAD (layerIx slot l) i) 0) k).getF
      (F.MOE_LOAD (layerIx slot l) e) = 0 :=
    foldl_range_getF (A := fun _ => True) he (fun _ _ _ => trivial) (fun j _ => (Pkg.getF_setF_same j (F.MOE_LOAD (layerIx slot l) e) 0 rfl).trans (Nat.zero_mod _))
      (fun j i hi => Pkg.getF_setF_apart _ _ _ _ (Fld.apart_of_off (by simp only [F.MOE_LOAD]; omega))) trivial
  exact ((Pkg.sendCounts_frame _ slot l 0 epoch _).getF _ (.inr (by simp only [F.MOE_LOAD]; omega))).trans cleared

/-- R344: the loads of every layer of the loop are cleared. -/
theorem Pkg.getF_closeLayers (k : Pkg) (slot epoch : Nat) {ls : List Nat} (nodup : ls.Nodup) {layer e : Nat} (hlayer : layer ∈ ls)
    (he : e < k.getF (F.MOE_EXPERTS (layerIx slot layer))) (hsize : e < 1024) :
    (ls.foldl (Pkg.closeLayer slot epoch) k).getF (F.MOE_LOAD (layerIx slot layer) e) = 0 := by
  have experts (j : Pkg) (l : Nat) : (j.closeLayer slot epoch l).getF (F.MOE_EXPERTS (layerIx slot layer)) = j.getF (F.MOE_EXPERTS (layerIx slot layer)) :=
    j.getF_closeLayer slot epoch l (by simp only [F.MOE_EXPERTS]; omega)
      (fun i hi => Fld.apart_of_off (by simp only [F.MOE_LOAD, F.MOE_EXPERTS]; omega))
  have other (j : Pkg) (l : Nat) (hl : l ≠ layer) :
      (j.closeLayer slot epoch l).getF (F.MOE_LOAD (layerIx slot layer) e) = j.getF (F.MOE_LOAD (layerIx slot layer) e) :=
    j.getF_closeLayer slot epoch l (by simp only [F.MOE_LOAD]; omega)
      (fun i hi => Fld.apart_of_off (by simp only [F.MOE_LOAD, layerIx]; omega))
  exact foldl_ownTurn (A := fun j => e < j.getF (F.MOE_EXPERTS (layerIx slot layer))) (B := fun j => j.getF (F.MOE_LOAD (layerIx slot layer) e) = 0)
    (fun j hj => j.getF_closeLayer_own slot epoch layer hj) (fun j l _ _ hj => (experts j l).symm ▸ hj) (fun j l _ hl hj => (other j l hl).trans hj)
    nodup hlayer he

theorem Pkg.loopLayers_nodup (k : Pkg) (slot : Nat) : (k.loopLayers slot).Nodup := by
  unfold Pkg.loopLayers
  split
  · exact List.nodup_nil
  · exact List.nodup_range.filter _

/-- The effect of a snapshot at the captain. -/
def Pkg.hearSnapshot (k : Pkg) (r : CountReport) : Pkg × Status × Option Nat :=
  let old := match slotNat k.moe.decided r.slot with
    | some e => decide (r.when_ ≤ e)
    | none => false
  if r.kind ≠ 0 ∨ old = true ∨ !k.isCaptain r.slot then (k, 0, none) else (k.keepReport r, 0, none)

theorem exec_routeCountsSnapshot (pkt : Packet) : exec (.routeCountsSnapshot p pkt t₀) s =
    .next (s.updPkg p (fun k => (k.at t₀).sequenced pkt (fun k => k.hearSnapshot (countReport pkt)))) := rfl

theorem Pkg.hearSnapshot_of_captain {k : Pkg} {r : CountReport} (hkind : r.kind = 0) (hcap : k.isCaptain r.slot = true)
    (hnone : slotNat k.moe.decided r.slot = none) : k.hearSnapshot r = (k.keepReport r, 0, none) := by
  refine if_neg ?_
  simp [hkind, hcap, hnone]

/-! ### Updates (R345–R347) -/

theorem Pkg.sendGeneration_moe (k : Pkg) (slot num q : Nat) :
    (k.sendHub 0x4D slot q (k.freeBytes 36) (.moe slot num q)).moe = k.moe :=
  (Pkg.sendHub_frame k _ _ _ _ _).moe

/-- The number that the captain gives the next generation of a slot. -/
def Pkg.nextGen (k : Pkg) (slot : Nat) : Nat := max ((slotNat k.moe.lastGen slot).getD 0) (k.getF (F.MOE_GEN slot)) + 1

theorem Pkg.nextGen_gt (k : Pkg) (slot : Nat) : k.getF (F.MOE_GEN slot) < k.nextGen slot := by
  unfold Pkg.nextGen; omega

/-- Sending a generation changes nothing of the bias state but the number given out. -/
theorem Pkg.issueGeneration_moe (k : Pkg) (slot : Nat) :
    (k.issueGeneration slot).1.moe = { k.moe with lastGen := setSlotNat k.moe.lastGen slot (k.nextGen slot) } :=
  foldl_keeps (v := Pkg.moe) _ _ (fun j q _ => j.sendGeneration_moe slot _ q)

/-- The window is marked as decided, and its reports are dropped. -/
def Pkg.decideWindow (k : Pkg) (slot close : Nat) : Pkg :=
  { k with moe := { k.moe with
      decided := setSlotNat k.moe.decided slot close
      reports := k.moe.reports.filter (fun r => !(r.slot == slot && r.kind == 0 && decide (r.when_ ≤ close))) } }

theorem slotNat_setSlotNat (xs : List (Nat × Nat)) (slot v : Nat) : slotNat (setSlotNat xs slot v) slot = some v := by
  simp [slotNat, setSlotNat]

/-- The sums of a window's reports, by layer. -/
def Pkg.windowSums (k : Pkg) (slot close : Nat) : List (Nat × Option (List Nat)) :=
  (k.loopLayers slot).map (fun l => (l, k.sumReports slot 0 l close (k.getF (F.MOE_EXPERTS (layerIx slot l)))))

/-- The biases of a layer after an update. -/
def Pkg.stepBiases (k : Pkg) (slot : Nat) (x : Nat × Option (List Nat)) : Nat × List Nat :=
  let ns := x.2.getD []
  let total := ns.sum
  let old := k.layerBiases slot x.1 ns.length
  (x.1, if total = 0 then old
    else (old.zip ns).map (fun p => biasStep ns.length (k.getF (F.MOE_DEADBAND (layerIx slot x.1))) total p.2 (fp32.decode (k.getF (F.MOE_ETA slot)))
      (fp32.decode (k.getF (F.MOE_CLAMP slot))) p.1))

/-- A decided window becomes a generation. -/
def Pkg.issueUpdate (k : Pkg) (slot close : Nat) (sums : List (Nat × Option (List Nat))) : Pkg :=
  let r := k.issueGeneration slot
  { r.1 with moe := { r.1.moe with
      issued := { slot := slot, num := r.2, epoch := close + 2, host := false, layers := sums.map (k.stepBiases slot) } :: r.1.moe.issued } }

/-- R345: an update that is due is decided, or skipped where a report is missing. -/
theorem Pkg.biasUpdate_of_due {k : Pkg} {slot t : Nat} (hcap : k.isCaptain slot = true) (hlate : 2097152 ≤ t) (hat : t % 2097152 = 0)
    (hn : k.getF (F.MOE_PERIOD slot) ≠ 0) (hdue : (t / 2097152 - 1) % k.getF (F.MOE_PERIOD slot) = 0) (hnone : slotNat k.moe.decided slot = none)
    (hlayers : k.loopLayers slot ≠ []) :
    k.biasUpdate slot t = if (k.windowSums slot (t / 2097152 - 1)).any (fun x => x.2.isNone) then
        (k.decideWindow slot (t / 2097152 - 1)).raise F.MOE_LOOP_SKIPPED
      else (k.decideWindow slot (t / 2097152 - 1)).issueUpdate slot (t / 2097152 - 1) (k.windowSums slot (t / 2097152 - 1)) := by
  refine (if_neg ?_).trans rfl
  simp [hcap, Nat.not_lt.mpr hlate, epochTicks, atBoundary, hat, hn, hdue, hnone, hlayers]

theorem Pkg.windowSums_missing {k : Pkg} {slot close layer : Nat} (hlayer : layer ∈ k.loopLayers slot)
    (hmiss : k.sumReports slot 0 layer close (k.getF (F.MOE_EXPERTS (layerIx slot layer))) = none) :
    (k.windowSums slot close).any (fun x => x.2.isNone) = true :=
  List.any_eq_true.mpr ⟨_, List.mem_map.mpr ⟨layer, hlayer, rfl⟩, by rw [hmiss]; rfl⟩

theorem Pkg.windowSums_full {k : Pkg} {slot close : Nat}
    (hall : ∀ l ∈ k.loopLayers slot, k.sumReports slot 0 l close (k.getF (F.MOE_EXPERTS (layerIx slot l))) ≠ none) :
    (k.windowSums slot close).any (fun x => x.2.isNone) = false := by
  refine List.any_eq_false.mpr fun x hx => ?_
  obtain ⟨l, hl, rfl⟩ := List.mem_map.mp hx
  exact fun h => hall l hl (Option.isNone_iff_eq_none.mp h)

theorem Pkg.issueUpdate_moe (k : Pkg) (slot close : Nat) (sums : List (Nat × Option (List Nat))) :
    (k.issueUpdate slot close sums).moe.decided = k.moe.decided ∧
    (k.issueUpdate slot close sums).moe.issued =
      { slot := slot, num := k.nextGen slot, epoch := close + 2, host := false, layers := sums.map (k.stepBiases slot) } :: k.moe.issued := by
  have told := k.issueGeneration_moe slot
  constructor
  · show (k.issueGeneration slot).1.moe.decided = _
    rw [told]
  · show _ :: (k.issueGeneration slot).1.moe.issued = _
    rw [told]
    rfl

/-! ### Generations (R348–R351) -/

/-- The effect of a generation that comes. -/
def Pkg.hearGeneration (k : Pkg) (g : Generation) : Pkg × Status × Option Nat :=
  if (g.num ≤ k.getF (F.MOE_GEN g.slot) ∧ k.getF (F.MOE_GEN g.slot) ≠ 0) ∨ k.moe.held.any (fun h => h.slot == g.slot && h.num == g.num) then (k, 0, none)
  else
    let k := { k with moe := { k.moe with held := k.moe.held ++ [g] } }
    (if g.epoch * epochTicks < k.now then k.raise F.MOE_BIAS_STALE else k, 0, none)

theorem exec_biasGenerationReceive (pkt : Packet) (num epoch : Nat) (host : Bool) (layers : LayerBiases) :
    exec (.biasGenerationReceive p pkt num epoch host layers t₀) s = .next (s.updPkg p (fun k => (k.at t₀).sequenced pkt
      (fun k => k.hearGeneration { slot := pkt.slot, num := num, epoch := epoch, host := host, layers := layers }))) := rfl

theorem Pkg.hearGeneration_of_new {k : Pkg} {g : Generation} (hnum : k.getF (F.MOE_GEN g.slot) < g.num)
    (hnew : ∀ h ∈ k.moe.held, ¬ (h.slot = g.slot ∧ h.num = g.num)) :
    (k.hearGeneration g).1.moe.held = k.moe.held ++ [g] ∧ (k.hearGeneration g).1.getF (F.MOE_GEN g.slot) = k.getF (F.MOE_GEN g.slot) := by
  have act : k.hearGeneration g = (if g.epoch * epochTicks < k.now then
      Pkg.raise { k with moe := { k.moe with held := k.moe.held ++ [g] } } F.MOE_BIAS_STALE
      else { k with moe := { k.moe with held := k.moe.held ++ [g] } }, 0, none) := by
    refine if_neg ?_
    rintro (⟨h, -⟩ | h)
    · omega
    · obtain ⟨x, hx, he⟩ := List.any_eq_true.mp h
      simp only [Bool.and_eq_true, beq_iff_eq] at he
      exact hnew x hx he
  rw [act]
  dsimp only
  split
  · exact ⟨rfl, Pkg.getF_setF_apart _ _ _ _ (Fld.apart_of_off (by simp only [F.MOE_BIAS_STALE, F.MOE_GEN]; omega))⟩
  · exact ⟨rfl, rfl⟩

/-- The biases of one layer are written. -/
def Pkg.writeBiases (k : Pkg) (y : Nat) (vs : List Nat) : Pkg :=
  (vs.zip (List.range vs.length)).foldl (fun k p => k.setF (F.MOE_BIAS y p.2) p.1) k

theorem Pkg.writeBiases_keeps {β : Type} (v : Pkg → β) (k : Pkg) (y : Nat) (vs : List Nat)
    (h : ∀ j i w, i < vs.length → v (Pkg.setF j (F.MOE_BIAS y i) w) = v j) : v (k.writeBiases y vs) = v k :=
  foldl_keeps (v := v) _ k (fun j x hx => h j x.2 x.1 (List.mem_range.mp (List.of_mem_zip hx).2))

theorem Pkg.getF_writeBiases (k : Pkg) (y : Nat) {vs : List Nat} {e w : Nat} (he : vs[e]? = some w) :
    (k.writeBiases y vs).getF (F.MOE_BIAS y e) = w % 2 ^ 32 := by
  have hlt : e < vs.length := (List.getElem?_eq_some_iff.mp he).1
  have hmem : (w, e) ∈ vs.zip (List.range vs.length) :=
    List.mem_iff_getElem?.mpr ⟨e, by rw [List.getElem?_zip_eq_some]; exact ⟨he, by simp [hlt]⟩⟩
  have only : ∀ x ∈ vs.zip (List.range vs.length), x.2 = e → x = (w, e) := by
    intro x hx hxe
    obtain ⟨i, hi⟩ := List.mem_iff_getElem?.mp hx
    obtain ⟨h1, h2⟩ := List.getElem?_zip_eq_some.mp hi
    have hie : i = x.2 := by
      have := List.getElem?_eq_some_iff.mp h2
      obtain ⟨hl, hv⟩ := this
      simpa using hv
    refine Prod.ext (Option.some.inj ?_) hxe
    rw [← h1, hie, hxe, he]
  have nodup : (vs.zip (List.range vs.length)).Nodup :=
    List.Nodup.of_map Prod.snd (by rw [List.map_snd_zip (by simp)]; exact List.nodup_range)
  exact foldl_ownTurn (x := (w, e)) (A := fun _ => True) (B := fun j => Pkg.getF j (F.MOE_BIAS y e) = w % 2 ^ 32)
    (fun j _ => Pkg.getF_setF_same j (F.MOE_BIAS y e) w rfl) (fun _ _ _ _ _ => trivial)
    (fun j x hx ne hj => (Pkg.getF_setF_apart _ _ _ _ (Fld.apart_of_off (by
      have : x.2 ≠ e := fun h => ne (only x hx h)
      simp only [F.MOE_BIAS]; omega))).trans hj) nodup hmem trivial

/-- What becomes of a generation of one layer that is applied with no host generation before it. -/
theorem Pkg.writeGeneration_one {k : Pkg} {g : Generation} {layer : Nat} {vs : List Nat} (hlayers : g.layers = [(layer, vs)])
    (hhost : k.moe.hostApplied = []) : ∃ m : Moe, m.held = k.moe.held ∧
      k.writeGeneration g = (({ k.writeBiases (layerIx g.slot layer) vs with moe := m } : Pkg).setF (F.MOE_GEN g.slot) g.num).raise F.MOE_BIAS_APPLIED := by
  have moeKept : (k.writeBiases (layerIx g.slot layer) vs).moe = k.moe := Pkg.writeBiases_keeps Pkg.moe k _ vs (fun _ _ _ _ => rfl)
  have written : (g.layers.filter (fun l => !(!g.host && k.moe.hostApplied.any
      (fun h => h.slot == g.slot && h.epoch == g.epoch && h.layers.any (fun y => y.1 == l.1))))).foldl
      (fun k l => (l.2.zip (List.range l.2.length)).foldl (fun k p => k.setF (F.MOE_BIAS (layerIx g.slot l.1) p.2) p.1) k) k =
        k.writeBiases (layerIx g.slot layer) vs := by
    rw [hlayers, hhost]
    simp only [List.any_nil, Bool.and_false, Bool.not_false, List.filter_cons_of_pos, List.filter_nil, List.foldl_cons, List.foldl_nil]
    rfl
  unfold Pkg.writeGeneration
  dsimp only
  rw [written]
  split
  · exact ⟨{ (k.writeBiases (layerIx g.slot layer) vs).moe with
      hostApplied := g :: (k.writeBiases (layerIx g.slot layer) vs).moe.hostApplied.filter (fun h => h.slot != g.slot || h.epoch == g.epoch) },
      (show (k.writeBiases (layerIx g.slot layer) vs).moe.held = _ by rw [moeKept]), rfl⟩
  · exact ⟨(k.writeBiases (layerIx g.slot layer) vs).moe, congrArg Moe.held moeKept, rfl⟩

/-- The only generation held is the next to apply. -/
theorem Pkg.nextGeneration_of_one {k : Pkg} {g : Generation} (hheld : k.moe.held = [g]) (hnum : g.num = k.getF (F.MOE_GEN g.slot) + 1) :
    k.nextGeneration g.slot = some g := by
  unfold Pkg.nextGeneration
  rw [hheld]
  dsimp only
  split <;> simp [hnum]

/-- A generation held alone, when its turn and its epoch have come. -/
theorem Pkg.applyGenerations_of_one {k : Pkg} {g : Generation} (hheld : k.moe.held = [g]) (hnum : g.num = k.getF (F.MOE_GEN g.slot) + 1) :
    k.applyGenerations g.slot g.epoch 1 = ({ k with moe := { k.moe with held := [] } } : Pkg).writeGeneration g := by
  have gone : k.moe.held.filter (fun h => !(h.slot == g.slot && decide (h.num ≤ g.num))) = [] := by simp [hheld]
  unfold Pkg.applyGenerations
  rw [Pkg.nextGeneration_of_one hheld hnum]
  dsimp only
  rw [if_neg (Nat.lt_irrefl _), if_neg (Nat.lt_irrefl _), gone]
  rfl

theorem exec_biasApply_of_due (sl : SlotId) {g : Generation} (hvalid : ((s.pkg p).at t₀).getF F.HTM_VALID = 1) (hat : t₀ % 2097152 = 0)
    (hheld : ((s.pkg p).at t₀).moe.held = [g]) (hslot : g.slot = sl.val) (hnum : g.num = ((s.pkg p).at t₀).getF (F.MOE_GEN g.slot) + 1)
    (hepoch : g.epoch = t₀ / 2097152) :
    exec (.biasApply p sl t₀) s = .next (s.updPkg p (fun k => ({ k.at t₀ with moe := { (k.at t₀).moe with held := [] } } : Pkg).writeGeneration g)) := by
  have due : (if atBoundary t₀ && ((s.pkg p).at t₀).flag F.HTM_VALID then
      ((s.pkg p).at t₀).applyGenerations sl (t₀ / epochTicks) ((s.pkg p).at t₀).moe.held.length else (s.pkg p).at t₀) =
        ({ (s.pkg p).at t₀ with moe := { ((s.pkg p).at t₀).moe with held := [] } } : Pkg).writeGeneration g := by
    rw [if_pos (by simp [atBoundary, epochTicks, hat, Pkg.flag, hvalid]), hheld, ← hslot, show t₀ / epochTicks = g.epoch from hepoch.symm]
    exact Pkg.applyGenerations_of_one hheld hnum
  exact congrArg (fun k => Host.Outcome.next (s.setPkg p k)) due

/-- What BIAS_COMMIT makes of the staged biases. -/
theorem Pkg.biasCommit_of_captain {k : Pkg} {epoch t : Nat} (hcap : k.isCaptain (k.getF F.MOE_SEL_SLOT) = true) :
    ∃ vals : List Nat, (k.biasCommit epoch t).moe.issued =
      ⟨k.getF F.MOE_SEL_SLOT, k.nextGen (k.getF F.MOE_SEL_SLOT), max (epoch % 2 ^ 43) (t / 2097152 + 2), true, [(k.getF F.MOE_SEL_LAYER, vals)]⟩
        :: k.moe.issued := by
  refine ⟨(List.range 1024).map (fun e => k.getF (F.MOE_BIAS_STAGE (layerIx (k.getF F.MOE_SEL_SLOT) (k.getF F.MOE_SEL_LAYER)) e)), ?_⟩
  unfold Pkg.biasCommit
  dsimp only
  rw [if_neg (by simp [hcap])]
  show _ :: (k.issueGeneration (k.getF F.MOE_SEL_SLOT)).1.moe.issued = _
  rw [k.issueGeneration_moe]
  rfl

/-! ### O31 -/

/-- Settles O31. -/
theorem biasLoop : Obligations.BiasLoop := by
  unfold Obligations.BiasLoop
  intro s p t₀
  dsimp only
  refine ⟨?_, ?_, ?_, ?_, ?_, ?_, ?_⟩
  · intro sl layer e hvalid hat hn hdue hlayer he hsize
    refine completes_of_updPkg (f := fun k => (k.at t₀).closeWindow sl t₀) rfl fun t ht => ?_
    rw [ht, Pkg.closeWindow_of_due hvalid hat hn hdue]
    exact Pkg.getF_closeLayers _ sl _ (Pkg.loopLayers_nodup _ sl) hlayer he hsize
  · intro pkt haccepts hkind hcap hnone
    refine completes_of_updPkg (exec_routeCountsSnapshot pkt) fun t ht => ?_
    obtain ⟨j, hj, hend⟩ := Pkg.sequenced_of_accepts haccepts (fun k => k.hearSnapshot (countReport pkt))
    rw [ht, hend.moe, Pkg.hearSnapshot_of_captain (k := j) (r := countReport pkt) hkind ((hj.isCaptain pkt.slot).trans hcap) (hj.moe ▸ hnone)]
    show j.moe.reports ++ [countReport pkt] = _
    rw [hj.moe]
  · intro sl n layer hcap hlate hat hn hn0 hdue hnone hlayer hmiss
    refine completes_of_updPkg (f := fun k => (k.at t₀).biasUpdate sl t₀) rfl fun t ht => ?_
    rw [ht, Pkg.biasUpdate_of_due hcap hlate hat (hn ▸ hn0) (hn ▸ hdue) hnone (List.ne_nil_of_mem hlayer),
      if_pos (Pkg.windowSums_missing hlayer hmiss)]
    exact ⟨Pkg.getF_raise_same _ _ (by decide) (by decide), slotNat_setSlotNat _ _ _, rfl⟩
  · intro sl n hcap hlate hat hn hn0 hdue hnone hlayers hall
    refine completes_of_updPkg (f := fun k => (k.at t₀).biasUpdate sl t₀) rfl fun t ht => ?_
    rw [ht, Pkg.biasUpdate_of_due hcap hlate hat (hn ▸ hn0) (hn ▸ hdue) hnone hlayers, if_neg (by rw [Pkg.windowSums_full hall]; decide)]
    obtain ⟨hdecided, hissued⟩ := Pkg.issueUpdate_moe (((s.pkg p).at t₀).decideWindow sl (t₀ / 2097152 - 1)) sl (t₀ / 2097152 - 1)
      (((s.pkg p).at t₀).windowSums sl (t₀ / 2097152 - 1))
    refine ⟨hdecided ▸ slotNat_setSlotNat _ _ _, _, hissued, rfl, ?_, rfl, ?_, ?_⟩
    · show t₀ / 2097152 - 1 + 2 = _
      omega
    · simp only [Pkg.windowSums, List.map_map]
      exact List.map_id'' (fun _ => rfl) _
    · exact Pkg.nextGen_gt (((s.pkg p).at t₀).decideWindow sl (t₀ / 2097152 - 1)) sl
  · intro pkt num epoch host layers haccepts hnum hnew
    refine completes_of_updPkg (exec_biasGenerationReceive pkt num epoch host layers) fun t ht => ?_
    obtain ⟨j, hj, hend⟩ := Pkg.sequenced_of_accepts haccepts
      (fun k => k.hearGeneration { slot := pkt.slot, num := num, epoch := epoch, host := host, layers := layers })
    have hgen : ∀ x, 0x300000 ≤ (F.MOE_GEN x).off := fun x => by simp only [F.MOE_GEN]; omega
    obtain ⟨hheld, hkept⟩ := Pkg.hearGeneration_of_new (k := j)
      (g := { slot := pkt.slot, num := num, epoch := epoch, host := host, layers := layers })
      ((hj.getF _ (.inr (hgen _))).symm ▸ hnum) (by rw [hj.moe]; exact hnew)
    rw [ht, hend.moe, hend.getF _ (.inr (hgen _)), hheld, hj.moe]
    exact ⟨rfl, hkept.trans (hj.getF _ (.inr (hgen _)))⟩
  · intro sl g layer e v vs hvalid hat hheld hslot hnum hsize hepoch hlayers hlayer hlen hv hv32 hhost
    refine completes_of_updPkg (exec_biasApply_of_due sl hvalid hat hheld hslot (hslot ▸ hnum) hepoch) fun t ht => ?_
    obtain ⟨m, hm, act⟩ := Pkg.writeGeneration_one (k := { (s.pkg p).at t₀ with moe := { ((s.pkg p).at t₀).moe with held := [] } }) hlayers hhost
    have he : e < 1024 := (List.getElem?_eq_some_iff.mp hv).1.trans_le hlen
    rw [ht, act, hslot]
    refine ⟨hm, ?_, ?_, Pkg.getF_raise_same _ _ (by decide) (by decide)⟩
    · rw [Pkg.getF_raise_apart _ _ _ (Fld.apart_of_off (by simp only [F.MOE_BIAS_APPLIED, F.MOE_GEN]; omega)), Pkg.getF_setF_same _ _ _ rfl]
      exact Nat.mod_eq_of_lt hsize
    · rw [Pkg.getF_raise_apart _ _ _ (Fld.apart_of_off (by simp only [F.MOE_BIAS_APPLIED, F.MOE_BIAS]; omega)),
        Pkg.getF_setF_apart _ _ _ _ (Fld.apart_of_off (by simp only [F.MOE_GEN, F.MOE_BIAS]; omega))]
      exact (Pkg.getF_writeBiases _ _ hv).trans (Nat.mod_eq_of_lt hv32)
  · intro src epoch hsrc hcap
    subst hsrc
    refine completes_of_updPkg (f := fun k => (k.at t₀).biasCommit epoch t₀) rfl fun t ht => ?_
    obtain ⟨vals, hissued⟩ := Pkg.biasCommit_of_captain (epoch := epoch) (t := t₀) hcap
    rw [ht, hissued]
    exact ⟨_, rfl, rfl, rfl, rfl, rfl, Pkg.nextGen_gt _ _⟩

end Sys2Proof.Machine
end

section
/-! PROOFS. The lineup store: staging, its check, and live application (R671–R680); O39. -/

namespace Sys2Proof.Machine

variable {s : State} {p : PkgId} {t₀ : Nat}

/-! ### The live sections (R658, R661, R662, R664) -/

theorem Pkg.getF_forEach (k : Pkg) (n : Nat) {step : Pkg → Nat → Pkg} {f : Fld} (h : ∀ j i, (step j i).getF f = j.getF f) :
    (k.forEach n step).getF f = k.getF f := foldl_keeps (v := fun j => Pkg.getF j f) _ k (fun j i _ => h j i)

/-- The registers of the cores are none of the package's. -/
theorem Pkg.getF_fixedModes (k : Pkg) (v : Nat) {f : Fld} (hf : f.off < 0x1000000) :
    (k.forEach 64 (fun k c => k.setF (F.CORE_FIXED_MODE c) v)).getF f = k.getF f :=
  k.getF_forEach 64 (fun j c => Pkg.getF_setF_apart _ _ _ _ (Fld.apart_of_off (by simp only [F.CORE_FIXED_MODE]; omega)))

theorem Pkg.getF_shotLimits (k : Pkg) (v : Nat) {f : Fld} (hf : f.off < 0x1000000) :
    (k.forEach 64 (fun k c => if (k.core c).play.isSome then k else k.setF (F.CORE_SEQ_SHOT_LIMIT c) v)).getF f = k.getF f := by
  refine k.getF_forEach 64 fun j c => ?_
  split
  · rfl
  · exact Pkg.getF_setF_apart _ _ _ _ (Fld.apart_of_off (by simp only [F.CORE_SEQ_SHOT_LIMIT]; omega))

theorem Pkg.getF_partCaps (k : Pkg) (v : Pkg → Nat → Nat) {f : Fld} (hf : f.off < 0x600040 ∨ 0x700000 ≤ f.off) :
    (k.forEach 4 (fun k c => k.setF (F.PWR_PART_CAP c) (v k c))).getF f = k.getF f := by
  refine foldl_keeps (v := fun j => Pkg.getF j f) _ k fun j c hc => ?_
  have hc : c < 4 := List.mem_range.mp hc
  exact Pkg.getF_setF_apart _ _ _ _ (Fld.apart_of_off (by simp only [F.PWR_PART_CAP]; omega))

/-- One field of each section, as the lineup gives it. -/
theorem Pkg.getF_loadLive (k : Pkg) (l : Lineup) : (k.loadLive l).getF F.COL_T1 = l.coll.t1 % 2 ^ 32 ∧
    (k.loadLive l).getF F.PWR_CFG_CAP = l.power.cap % 2 ^ F.PWR_CFG_CAP.width ∧
    (k.loadLive l).getF F.TH_TRIP = l.thermal.trip % 2 ^ F.TH_TRIP.width := by
  unfold Pkg.loadLive
  refine ⟨?_, ?_, ?_⟩
  all_goals
    simp (disch := decide) only [Pkg.getF_setF_apart, Pkg.getF_setF_same, Pkg.getF_fixedModes, Pkg.getF_shotLimits, Pkg.getF_partCaps]
  rfl

/-- The lineup's own registers are no section's. -/
theorem Pkg.getF_loadLive_lup (k : Pkg) (l : Lineup) :
    (k.loadLive l).getF F.LUP_DIGEST32 = k.getF F.LUP_DIGEST32 ∧ (k.loadLive l).getF F.LUP_PENDING_EN = k.getF F.LUP_PENDING_EN := by
  unfold Pkg.loadLive
  constructor
  all_goals simp (disch := decide) only [Pkg.getF_setF_apart, Pkg.getF_fixedModes, Pkg.getF_shotLimits, Pkg.getF_partCaps]

theorem Pkg.getF_showLineup (k : Pkg) (l : Lineup) : (k.showLineup l).getF F.LUP_DIGEST32 = digest32 l.digest % 2 ^ 32 ∧
    (k.showLineup l).getF F.LUP_PENDING_EN = k.getF F.LUP_PENDING_EN := by
  unfold Pkg.showLineup
  constructor
  · simp (disch := decide) only [Pkg.getF_setF_apart, Pkg.getF_setF_same]
    rfl
  · simp (disch := decide) only [Pkg.getF_setF_apart]

/-- R860 touches the thermal level alone. -/
theorem Pkg.getF_rebaseline (k old : Pkg) {f : Fld} (hlevel : F.THM_LEVEL.apart f = true) (hfollow : F.THM_FOLLOW.apart f = true)
    (hrun : F.THM_RUN.apart f = true) : (k.rebaseline old).getF f = k.getF f := by
  unfold Pkg.rebaseline
  split
  · rfl
  · exact (Pkg.getF_setF_apart _ _ _ _ hrun).trans ((Pkg.getF_setF_apart _ _ _ _ hfollow).trans (Pkg.getF_setF_apart _ _ _ _ hlevel))

theorem Pkg.rebaseline_lup (k old : Pkg) : (k.rebaseline old).lup = k.lup := by
  unfold Pkg.rebaseline
  split <;> rfl

/-! ### Staging (R667, R672, R678) -/

/-- An empty staged half. -/
theorem Pkg.discardStaged_shows (k : Pkg) : k.discardStaged.lup = { k.lup with staging := none, staged := none } ∧
    k.discardStaged.getF F.LUP_PENDING_EN = 0 ∧ k.discardStaged.getF F.LUP_STG_DIGEST32 = 0 := by
  refine ⟨rfl, Pkg.getF_setF_same _ _ _ rfl, ?_⟩
  unfold Pkg.discardStaged
  simp (disch := decide) only [Pkg.getF_setF_apart]
  exact Pkg.getF_setF_same _ _ _ rfl

theorem Pkg.stageLineup_of_free {k : Pkg} (h : k.getF F.LUP_PENDING_EN = 0) (slot : Nat) :
    k.stageLineup slot = { k.discardStaged with lup := { k.discardStaged.lup with staging := some (k.discardStaged.storedImage 4 slot) } } :=
  if_neg (by rw [(Pkg.flag_eq_false_iff k _).mpr (by omega)]; decide)

theorem Pkg.stageLineup_of_pending {k : Pkg} (h : k.getF F.LUP_PENDING_EN = 1) (slot : Nat) :
    k.stageLineup slot = k.report F.LUP_STG_STATUS 0x470C .package 0 0 := if_pos ((Pkg.flag_iff k _).mpr h)

theorem ErrOnly.lup {k j : Pkg} (h : ErrOnly k j) : j.lup = k.lup := by
  obtain ⟨⟨r, n, rfl⟩, -⟩ := h
  rfl

theorem Pkg.report_lup (k : Pkg) (f : Fld) (st : Status) (u : UnitKind) (i x : Nat) : (k.report f st u i x).lup = k.lup :=
  (Pkg.report_frame k f st u i x).lup

/-- The field that reports holds the status. -/
theorem Pkg.getF_report_same (k : Pkg) {f : Fld} (st : Status) (u : UnitKind) (i x : Nat) (hoff : f.off < 0x3000000) (hfits : f.fits = true) :
    (k.report f st u i x).getF f = st % 2 ^ f.width := (k.getF_report f f st u i x hoff).trans (k.getF_setF_same f st hfits)

theorem Pkg.noteCheck_shows (k : Pkg) (st : Status) (tag off : Nat) : (k.noteCheck st tag off).lup = k.lup ∧
    (k.noteCheck st tag off).getF F.LUP_CK_STATUS = st % 2 ^ 16 :=
  ⟨Pkg.report_lup .., k.noteCheck_status st tag off⟩

/-- The staged half is empty of an image in check. -/
def Pkg.endStaging (k : Pkg) : Pkg := { k with lup := { k.lup with staging := none } }

/-- A refused image. -/
def Pkg.refuseStaged (k : Pkg) (e : Status × Nat × Nat) : Pkg := (k.endStaging.noteCheck e.1 e.2.1 e.2.2).setF F.LUP_STG_STATUS e.1

/-- A lineup is kept as the staged one, and its check is noted. -/
def Pkg.keepStaged (k : Pkg) (l : Lineup) : Pkg :=
  Pkg.noteCheck { k.endStaging with lup := { k.endStaging.lup with staged := some l } } 0 0 0

/-- An accepted image is the staged lineup. -/
def Pkg.acceptStaged (k : Pkg) (l : Lineup) : Pkg :=
  let j := ((k.keepStaged l).setF F.LUP_STG_STATUS 0).setF F.LUP_STG_DIGEST32 (digest32 l.digest)
  j.setF F.LUP_STG_LIVE_OK (if (j.lup.active.map Lineup.structDigest) = some l.structDigest then 1 else 0)

/-- A check reads registers and the map record, not the staged half. -/
theorem Pkg.checkLineup_endStaging (k : Pkg) (img : Bytes) : k.endStaging.checkLineup img = k.checkLineup img := by
  have hget (f : Fld) : k.endStaging.getF f = k.getF f := rfl
  have hflag (f : Fld) : k.endStaging.flag f = k.flag f := rfl
  have hshort (l : Lineup) (r : Nat) : k.endStaging.hwShort l r = k.hwShort l r := rfl
  unfold Pkg.checkLineup
  simp only [hget, hflag, hshort]

theorem Pkg.checkStaged_of_error {k : Pkg} {img : Bytes} {e : Status × Nat × Nat} (himg : k.lup.staging = some img)
    (h : k.checkLineup img = .error e) : k.checkStaged = k.refuseStaged e := by
  obtain ⟨st, tag, off⟩ := e
  unfold Pkg.checkStaged
  rw [himg]
  show (match k.endStaging.checkLineup img with | .error (st, tag, off) => _ | .ok l => _) = _
  rw [Pkg.checkLineup_endStaging, h]
  rfl

theorem Pkg.checkStaged_of_ok {k : Pkg} {img : Bytes} {l : Lineup} (himg : k.lup.staging = some img) (h : k.checkLineup img = .ok l) :
    k.checkStaged = k.acceptStaged l := by
  unfold Pkg.checkStaged
  rw [himg]
  show (match k.endStaging.checkLineup img with | .error (st, tag, off) => _ | .ok l => _) = _
  rw [Pkg.checkLineup_endStaging, h]
  rfl

theorem Pkg.refuseStaged_shows (k : Pkg) (e : Status × Nat × Nat) : (k.refuseStaged e).lup = { k.lup with staging := none } ∧
    (k.refuseStaged e).getF F.LUP_STG_STATUS = e.1 % 2 ^ 16 ∧ (k.refuseStaged e).getF F.LUP_CK_STATUS = e.1 % 2 ^ 16 := by
  obtain ⟨hlup, hstatus⟩ := k.endStaging.noteCheck_shows e.1 e.2.1 e.2.2
  exact ⟨hlup, Pkg.getF_setF_same _ _ _ rfl, (Pkg.getF_setF_apart _ _ _ _ (by decide)).trans hstatus⟩

theorem Pkg.acceptStaged_shows (k : Pkg) (l : Lineup) : (k.acceptStaged l).lup = { k.lup with staging := none, staged := some l } ∧
    (k.acceptStaged l).getF F.LUP_CK_STATUS = 0 ∧ (k.acceptStaged l).getF F.LUP_STG_DIGEST32 = digest32 l.digest % 2 ^ 32 ∧
    (k.acceptStaged l).getF F.LUP_STG_LIVE_OK = if k.lup.active.map Lineup.structDigest = some l.structDigest then 1 else 0 := by
  have hlup : (k.keepStaged l).lup = { k.lup with staging := none, staged := some l } := Pkg.report_lup ..
  unfold Pkg.acceptStaged
  refine ⟨hlup, ?_, ?_, ?_⟩
  · simp (disch := decide) only [Pkg.getF_setF_apart]
    exact Pkg.noteCheck_status _ 0 0 0
  · simp (disch := decide) only [Pkg.getF_setF_apart]
    exact Pkg.getF_setF_same _ _ _ rfl
  · rw [Pkg.getF_setF_same _ _ _ rfl]
    simp only [Pkg.setF_lup, hlup]
    split <;> rfl

/-! ### Live application (R673–R677) -/

/-- An application is scheduled. -/
def Pkg.schedule (k : Pkg) (epoch : Nat) : Pkg :=
  let now := k.hallTime / epochTicks
  let k := if epoch ≤ now then k.raise F.LUP_LATE else k
  ((k.setF F.LUP_PEND_EPOCH (max epoch (now + 1))).setF F.LUP_PEND_STATUS 0).raise F.LUP_PENDING_EN

theorem Pkg.scheduleLineup_of_same {k : Pkg} {l : Lineup} (hstaged : k.lup.staged = some l)
    (hsame : k.lup.active.map Lineup.structDigest = some l.structDigest) (epoch : Nat) : k.scheduleLineup epoch = k.schedule epoch := by
  unfold Pkg.scheduleLineup
  rw [hstaged]
  exact if_neg (not_not.mpr hsame)

theorem Pkg.scheduleLineup_of_other {k : Pkg} {l : Lineup} (hstaged : k.lup.staged = some l)
    (hother : k.lup.active.map Lineup.structDigest ≠ some l.structDigest) (epoch : Nat) :
    k.scheduleLineup epoch = k.report F.LUP_PEND_STATUS 0x370B .package 0 0 := by
  unfold Pkg.scheduleLineup
  rw [hstaged]
  exact if_pos hother

theorem Pkg.scheduleLineup_of_none {k : Pkg} (hstaged : k.lup.staged = none) (epoch : Nat) :
    k.scheduleLineup epoch = k.report F.LUP_PEND_STATUS 0x3706 .package 0 0 := by
  unfold Pkg.scheduleLineup
  rw [hstaged]

/-- A refused schedule leaves what is pending. -/
theorem Pkg.getF_pending_report (k : Pkg) (st : Status) (hst : st < 2 ^ 16) :
    (k.report F.LUP_PEND_STATUS st .package 0 0).getF F.LUP_PEND_STATUS = st ∧
    (k.report F.LUP_PEND_STATUS st .package 0 0).getF F.LUP_PENDING_EN = k.getF F.LUP_PENDING_EN :=
  ⟨(Pkg.getF_report_same k st _ _ _ (by decide) (by decide)).trans (Nat.mod_eq_of_lt hst),
    (k.getF_report _ _ st _ _ _ (by decide)).trans (Pkg.getF_setF_apart _ _ _ _ (by decide))⟩

theorem Pkg.schedule_shows (k : Pkg) {epoch : Nat} (hepoch : epoch < 2 ^ 43) (hnow : k.hallTime / 2097152 + 1 < 2 ^ 43) :
    (k.schedule epoch).getF F.LUP_PENDING_EN = 1 ∧ (k.schedule epoch).getF F.LUP_PEND_STATUS = 0 ∧
    (k.schedule epoch).getF F.LUP_PEND_EPOCH = max epoch (k.hallTime / 2097152 + 1) ∧
    (epoch ≤ k.hallTime / 2097152 → (k.schedule epoch).getF F.LUP_LATE = 1) := by
  unfold Pkg.schedule
  refine ⟨Pkg.getF_raise_same _ _ (by decide) (by decide), ?_, ?_, fun hlate => ?_⟩
  · exact (Pkg.getF_raise_apart _ _ _ (by decide)).trans (Pkg.getF_setF_same _ _ _ rfl)
  · rw [Pkg.getF_raise_apart _ _ _ (by decide), Pkg.getF_setF_apart _ _ _ _ (by decide), Pkg.getF_setF_same _ _ _ rfl]
    exact Nat.mod_eq_of_lt (Nat.max_lt.mpr ⟨hepoch, hnow⟩)
  · rw [Pkg.getF_raise_apart _ _ _ (by decide), Pkg.getF_setF_apart _ _ _ _ (by decide), Pkg.getF_setF_apart _ _ _ _ (by decide),
      if_pos (show epoch ≤ k.hallTime / epochTicks from hlate)]
    exact Pkg.getF_raise_same _ _ (by decide) (by decide)

/-- The staged half after an application: the lineup is the active one. -/
def Pkg.takeStaged (k : Pkg) (l : Lineup) : Pkg :=
  let new := ({ k with lup := { active := some l, staging := none, staged := none } } : Pkg).setF F.LUP_PENDING_EN 0
  ((new.setF F.LUP_STG_DIGEST32 0).setF F.LUP_STG_LIVE_OK 0).setF F.LUP_STG_STATUS 0

theorem Pkg.applyLineup_of_due {k : Pkg} {l : Lineup} {t : Nat} (hstaged : k.lup.staged = some l) (hpending : k.getF F.LUP_PENDING_EN = 1)
    (hvalid : k.getF F.HTM_VALID = 1) (hat : t % 2097152 = 0) (hdue : k.getF F.LUP_PEND_EPOCH ≤ t / 2097152) :
    k.applyLineup t = (((k.takeStaged l).showLineup l).loadLive l).rebaseline k := by
  unfold Pkg.applyLineup
  rw [hstaged]
  refine if_neg ?_
  simp [Pkg.flag, hpending, hvalid, atBoundary, epochTicks, hat, Nat.not_lt.mpr hdue]

/-- R674: the lineup replaces the active one whole. -/
theorem Pkg.takeStaged_applied (k : Pkg) (l : Lineup) :
    let t := (((k.takeStaged l).showLineup l).loadLive l).rebaseline k
    t.lup = { active := some l, staging := none, staged := none } ∧ t.getF F.LUP_PENDING_EN = 0 ∧
    t.getF F.LUP_DIGEST32 = digest32 l.digest % 2 ^ 32 ∧ t.getF F.COL_T1 = l.coll.t1 % 2 ^ 32 ∧
    t.getF F.PWR_CFG_CAP = l.power.cap % 2 ^ F.PWR_CFG_CAP.width ∧ t.getF F.TH_TRIP = l.thermal.trip % 2 ^ F.TH_TRIP.width := by
  intro t
  obtain ⟨hcoll, hcap, htrip⟩ := Pkg.getF_loadLive ((k.takeStaged l).showLineup l) l
  obtain ⟨hdigest, hpending⟩ := Pkg.getF_loadLive_lup ((k.takeStaged l).showLineup l) l
  obtain ⟨shownDigest, shownPending⟩ := Pkg.getF_showLineup (k.takeStaged l) l
  have cleared : (k.takeStaged l).getF F.LUP_PENDING_EN = 0 := by
    unfold Pkg.takeStaged
    simp (disch := decide) only [Pkg.getF_setF_apart]
    exact Pkg.getF_setF_same _ _ _ rfl
  have kept {f : Fld} (h1 : F.THM_LEVEL.apart f = true) (h2 : F.THM_FOLLOW.apart f = true) (h3 : F.THM_RUN.apart f = true) :
      t.getF f = (((k.takeStaged l).showLineup l).loadLive l).getF f := Pkg.getF_rebaseline _ k h1 h2 h3
  refine ⟨?_, (kept (by decide) (by decide) (by decide)).trans (hpending.trans (shownPending.trans cleared)),
    (kept (by decide) (by decide) (by decide)).trans (hdigest.trans shownDigest), (kept (by decide) (by decide) (by decide)).trans hcoll,
    (kept (by decide) (by decide) (by decide)).trans hcap, (kept (by decide) (by decide) (by decide)).trans htrip⟩
  exact (Pkg.rebaseline_lup _ k).trans (Pkg.loadLive_unchanged (v := Pkg.lup) (fun _ _ _ => rfl) _ l)

/-! ### O39 -/

/-- Settles O39. -/
theorem lineupIsStagedAndApplied : Obligations.LineupIsStagedAndApplied := by
  unfold Obligations.LineupIsStagedAndApplied
  intro s p t₀
  dsimp only
  refine ⟨?_, ?_, ?_, ?_, ?_, ?_, ?_, ?_⟩
  · intro slot hfree
    refine completes_of_updPkg (f := fun k => (k.at t₀).stageLineup (slot % 2)) rfl fun t ht => ?_
    rw [ht, Pkg.stageLineup_of_free hfree]
    exact ⟨rfl, rfl, rfl⟩
  · intro slot hpending
    refine completes_of_updPkg (f := fun k => (k.at t₀).stageLineup (slot % 2)) rfl fun t ht => ?_
    rw [ht, Pkg.stageLineup_of_pending hpending]
    exact ⟨Pkg.getF_report_same _ _ _ _ _ (by decide) (by decide), Pkg.report_lup ..⟩
  · intro img himg
    refine completes_of_updPkg (f := fun k => (k.at t₀).checkStaged) rfl fun t ht => ?_
    cases h : ((s.pkg p).at t₀).checkLineup img with
    | error e =>
      obtain ⟨hlup, hstage, hcheck⟩ := Pkg.refuseStaged_shows ((s.pkg p).at t₀) e
      rw [ht, Pkg.checkStaged_of_error himg h, hlup]
      exact ⟨rfl, rfl, hstage, hcheck⟩
    | ok l =>
      obtain ⟨hlup, hcheck, hdigest, hlive⟩ := Pkg.acceptStaged_shows ((s.pkg p).at t₀) l
      rw [ht, Pkg.checkStaged_of_ok himg h, hlup]
      exact ⟨rfl, rfl, hcheck, hdigest, hlive⟩
  · exact completes_of_updPkg (f := fun k => (k.at t₀).discardStaged) rfl fun t ht => by
      rw [ht]; exact Pkg.discardStaged_shows _
  · intro epoch hnone
    refine completes_of_updPkg (f := fun k => (k.at t₀).scheduleLineup (epoch % 2 ^ 43)) rfl fun t ht => ?_
    rw [ht, Pkg.scheduleLineup_of_none hnone]
    exact Pkg.getF_pending_report _ _ (by decide)
  · intro epoch l hstaged hother
    refine completes_of_updPkg (f := fun k => (k.at t₀).scheduleLineup (epoch % 2 ^ 43)) rfl fun t ht => ?_
    rw [ht, Pkg.scheduleLineup_of_other hstaged hother]
    exact Pkg.getF_pending_report _ _ (by decide)
  · intro epoch l hstaged hsame hepoch hnow
    refine completes_of_updPkg (f := fun k => (k.at t₀).scheduleLineup (epoch % 2 ^ 43)) rfl fun t ht => ?_
    rw [ht, Pkg.scheduleLineup_of_same hstaged hsame, Nat.mod_eq_of_lt hepoch]
    exact Pkg.schedule_shows _ hepoch hnow
  · intro l hstaged hpending hvalid hat hdue
    refine completes_of_updPkg (f := fun k => (k.at t₀).applyLineup t₀) rfl fun t ht => ?_
    rw [ht, Pkg.applyLineup_of_due hstaged hpending hvalid hat hdue]
    exact Pkg.takeStaged_applied _ l

end Sys2Proof.Machine
end

section
/-! PROOFS. Connector faults and the service button (R891, R892, R951); O52. -/

namespace Sys2Proof.Machine

/-! ### Powering a package off (R801) -/

/-- A step of a power-down leaves the mode, or ends it OFF; it writes registers and rails alone. -/
theorem Pkg.nextRail_frame (k : Pkg) (n : Nat) : ∃ r x, k.nextRail n = { k with regs := r, rails := x } ∧ (x.mode = .off ∨ x.mode = k.rails.mode) := by
  induction n with
  | zero =>
    unfold Pkg.nextRail
    split
    · exact ⟨_, _, rfl, .inl rfl⟩
    · exact ⟨k.regs, k.rails, rfl, .inr rfl⟩
  | succ n ih =>
    unfold Pkg.nextRail
    split
    · exact ih
    · exact ⟨_, _, rfl, .inr rfl⟩

theorem Pkg.powerDown_of_off {k : Pkg} (h : k.rails.mode = .off) : k.powerDown = k := if_pos (.inl h)

/-- The package before the first step of its power-down. -/
def Pkg.downBegun (k : Pkg) : Pkg :=
  let k := if k.bring.released.isSome && k.linkHold.isNone then k.resetNow else k
  let k := { k with pinLow := true, bring := { k.bring with released := none } }
  k.updRails (fun r => { r with mode := .down, wait := [], late := [] })

theorem Pkg.powerDown_cases (k : Pkg) : k.powerDown = k ∧ (k.rails.mode = .off ∨ k.rails.mode = .down) ∨ k.powerDown = k.downBegun.nextRail 10 := by
  by_cases h : k.rails.mode = .off ∨ k.rails.mode = .down
  · exact .inl ⟨if_pos h, h⟩
  · exact .inr (if_neg h)

theorem Pkg.resetNow_straps (k : Pkg) : k.resetNow.straps = k.straps := by
  unfold Pkg.resetNow
  split <;> rfl

theorem Pkg.downBegun_straps (k : Pkg) : k.downBegun.straps = k.straps := by
  show (if k.bring.released.isSome && k.linkHold.isNone then k.resetNow else k).straps = _
  split
  · exact k.resetNow_straps
  · rfl

theorem Pkg.powerDown_straps (k : Pkg) : k.powerDown.straps = k.straps := by
  obtain ⟨e, -⟩ | e := k.powerDown_cases
  · rw [e]
  · obtain ⟨r, x, he, -⟩ := k.downBegun.nextRail_frame 10
    rw [e, he]
    exact k.downBegun_straps

/-- A package powered down is neither on nor on its way up. -/
theorem Pkg.powerDown_mode (k : Pkg) : k.powerDown.rails.mode = .off ∨ k.powerDown.rails.mode = .down := by
  obtain ⟨e, h⟩ | e := k.powerDown_cases
  · rwa [e]
  · obtain ⟨r, x, he, hmode⟩ := k.downBegun.nextRail_frame 10
    rw [e, he]
    exact hmode

/-- A package that was on is held in reset while its rails go down. -/
theorem Pkg.powerDown_of_on {k : Pkg} (h : k.rails.mode = .on) : k.powerDown.pinLow = true ∧ k.powerDown.bring.released = none := by
  obtain ⟨-, h'⟩ | e := k.powerDown_cases
  · rw [h] at h'
    exact absurd h' (by decide)
  · obtain ⟨r, x, he, -⟩ := k.downBegun.nextRail_frame 10
    rw [e, he]
    exact ⟨rfl, rfl⟩

theorem Pkg.powerOff_shows (k : Pkg) : k.powerOff.rails.mode ≠ .on ∧ k.powerOff.rails.mode ≠ .up ∧ k.powerOff.rails.retryAt = none := by
  show k.powerDown.rails.mode ≠ .on ∧ k.powerDown.rails.mode ≠ .up ∧ _
  obtain h | h := k.powerDown_mode <;> rw [h] <;> exact ⟨by decide, by decide, rfl⟩

/-! ### The packages of a tray -/

/-- A change at every package of a tray. -/
theorem State.pkg_foldl_tray (s : State) (n : Nat) (f : Pkg → Pkg) (p : PkgId) :
    ((trayPkgs n).foldl (fun s q => s.updNat q f) s).pkg p = if trayOf p = n then f (s.pkg p) else s.pkg p := by
  rw [State.pkg_foldl_updNat (nodup_trayPkgs n)]
  simp only [mem_trayPkgs]

theorem State.all_pkgs (s : State) (f : Pkg → Bool) : s.pkgs.toList.all f = true ↔ ∀ p : PkgId, f (s.pkg p) = true := by
  rw [List.all_eq_true]
  constructor
  · exact fun h p => h _ (Vector.mem_toList_iff.mpr (Vector.getElem_mem p.isLt))
  · intro h k hk
    obtain ⟨i, hi, rfl⟩ := Vector.mem_iff_getElem.mp (Vector.mem_toList_iff.mp hk)
    exact h ⟨i, hi⟩

/-! ### A connector fault (R891, Table 20-8) -/

section Fault

variable {s : State} {tray : TrayId} {t₀ : Nat}

/-- The fault is kept. -/
def State.keepFault (s : State) (tray code : Nat) : State :=
  s.updTray tray (fun (y : Tray) => { y with faults := y.faults ++ [(code, none)] })

/-- The effect of Table 20-8. -/
def State.faultEffect (s : State) (tray code t : Nat) : State :=
  match code with
  | 1 => (trayPkgs tray).foldl (fun (s : State) q => s.updNat q (fun k => (k.at t).auxLost)) (s.updTray tray (fun (y : Tray) => { y with input := false }))
  | 2 => s.updTray tray (fun (y : Tray) => { y with aux := false })
  | 5 => (s.updTrayPkgs tray (fun k => k.setF F.THM_SUP_VALID 0)).post "SensorLost" .warning tray
  | 6 => s.post "SensorLost" .warning tray
  | _ => s

/-- The TMC tells of the fault over the rack bus. -/
def State.tellFault (s : State) (tray code t : Nat) : State :=
  if s.onBus tray ∧ (code = 1 ∨ (5 ≤ code ∧ code ≤ 8)) then s.busSend 0x20 (trayNode tray) 0 (s.busTime t) [tray, 3, code] else s

theorem State.tray_tellFault (n code t m : Nat) : (s.tellFault n code t).tray m = s.tray m := by
  unfold State.tellFault
  split <;> rfl

theorem State.pkg_tellFault (n code t : Nat) (p : PkgId) : (s.tellFault n code t).pkg p = s.pkg p := by
  unfold State.tellFault
  split <;> rfl

theorem exec_connectorFault {code kind : Nat} (h₁ : 1 ≤ code) (h₉ : code ≤ 9) (hnew : ∀ f ∈ (s.tray tray).faults, f.1 ≠ code) (hkind : kind ≠ 2) :
    exec (.connectorFault tray code kind t₀) s = .next (((((s.keepFault tray code).faultEffect tray code t₀).tellFault tray code t₀).showLamp tray).post
      "ConnectorFault" .critical (tray * 16 + code)) := by
  refine (if_neg ?_).trans rfl
  rintro (h | h | h | h)
  · omega
  · omega
  · obtain ⟨f, hf, he⟩ := List.any_eq_true.mp h
    exact hnew f hf (beq_iff_eq.mp he)
  · exact hkind h.1

/-- A fault takes the tray's input or its 12 V at most. -/
theorem State.tray_faultEffect (code t : Nat) : ∃ i a, (s.faultEffect tray code t).tray tray = { s.tray tray with input := i, aux := a } ∧
    (code = 1 → i = false) ∧ (code = 2 → a = false) := by
  unfold State.faultEffect
  split
  · rw [(State.PkgsOnly.foldl _ (fun s q => State.PkgsOnly.updNat s q _) _).tray, State.tray_updTray_same s tray.isLt]
    exact ⟨false, _, rfl, fun _ => rfl, fun h => by omega⟩
  · rw [State.tray_updTray_same s tray.isLt]
    exact ⟨_, false, rfl, fun h => by omega, fun _ => rfl⟩
  · rw [State.tray_post, (State.updTrayPkgs_pkgsOnly _ _ _).tray]
    exact ⟨_, _, rfl, fun h => by omega, fun h => by omega⟩
  · exact ⟨_, _, rfl, fun h => by omega, fun h => by omega⟩
  · next h₁ h₂ _ _ => exact ⟨_, _, rfl, fun h => absurd h h₁, fun h => absurd h h₂⟩

theorem State.lampOf_of_dark {n : Nat} (h : (s.tray n).aux = false) : s.lampOf n = .off := if_pos (by rw [h]; rfl)

theorem connectorFault_completes {code kind : Nat} (h₁ : 1 ≤ code) (h₉ : code ≤ 9) (hnew : ∀ f ∈ (s.tray tray).faults, f.1 ≠ code) (hkind : kind ≠ 2) :
    Completes (.connectorFault tray code kind t₀) s (fun t => (t.tray tray).faults = (s.tray tray).faults ++ [(code, none)] ∧
      (∃ e ∈ t.events, e.name = "ConnectorFault" ∧ e.arg = tray.val * 16 + code) ∧
      (code = 1 → (t.tray tray).input = false ∧ ∀ p : PkgId, trayOf p = tray.val → (t.pkg p).rails.aux = false) ∧
      (code = 2 → (t.tray tray).aux = false ∧ (t.tray tray).lamp = .off) ∧
      (code = 5 → ∀ p : PkgId, trayOf p = tray.val → (s.pkg p).hubOn = true → (t.pkg p).getF F.THM_SUP_VALID = 0)) := by
  refine ⟨_, exec_connectorFault h₁ h₉ hnew hkind, ?_⟩
  obtain ⟨i, a, heffect, hinput, haux⟩ := (s.keepFault tray code).tray_faultEffect (tray := tray) code t₀
  have hkeep : (s.keepFault tray code).tray tray = { s.tray tray with faults := (s.tray tray).faults ++ [(code, none)] } :=
    State.tray_updTray_same s tray.isLt _
  have told : (((s.keepFault tray code).faultEffect tray code t₀).tellFault tray code t₀).tray tray =
      { s.tray tray with faults := (s.tray tray).faults ++ [(code, none)], input := i, aux := a } := by
    rw [State.tray_tellFault, heffect, hkeep]
  have lamp := State.tray_showLamp_same (((s.keepFault tray code).faultEffect tray code t₀).tellFault tray code t₀) tray.isLt
  have pkgs (p : PkgId) : ((((s.keepFault tray code).faultEffect tray code t₀).tellFault tray code t₀).showLamp tray).pkg p =
      ((s.keepFault tray code).faultEffect tray code t₀).pkg p := State.pkg_tellFault _ _ _ p
  refine ⟨?_, ⟨_, List.mem_cons_self, rfl, rfl⟩, ?_, ?_, ?_⟩
  · rw [State.tray_post, lamp, told]
  · rintro rfl
    refine ⟨by rw [State.tray_post, lamp, told]; exact hinput rfl, fun p hp => ?_⟩
    rw [State.pkg_post, pkgs]
    have gone : ((s.keepFault tray 1).faultEffect tray 1 t₀).pkg p = ((s.pkg p).at t₀).auxLost :=
      (State.pkg_foldl_tray _ tray (fun k => (k.at t₀).auxLost) p).trans (if_pos hp)
    rw [gone]
    rfl
  · rintro rfl
    rw [State.tray_post, lamp, told]
    exact ⟨haux rfl, State.lampOf_of_dark (by rw [told]; exact haux rfl)⟩
  · rintro rfl p hp hon
    rw [State.pkg_post, pkgs]
    have read : ((s.keepFault tray 5).faultEffect tray 5 t₀).pkg p = (s.pkg p).setF F.THM_SUP_VALID 0 :=
      (State.pkg_foldl_tray _ tray (fun k => if k.hubOn then k.setF F.THM_SUP_VALID 0 else k) p).trans ((if_pos hp).trans (if_pos hon))
    rw [read]
    exact Pkg.getF_setF_same _ _ _ rfl

/-! ### Its end, and the service button (R891, R951) -/

/-- A management action re-enables a connector. -/
def State.enableConnector (s : State) (tray code t : Nat) : State :=
  s.updTray tray (fun (y : Tray) => { y with
      faults := y.faults.filter (fun f => f.1 != code)
      input := y.input || code == 1, aux := y.aux || code == 2
      started := if code = 2 then t else y.started, lastAck := if code = 2 then t else y.lastAck })

theorem exec_connectorReenable {code cleared : Nat} (hfault : ∃ f ∈ (s.tray tray).faults, f.1 = code) (hclear : cleared + 20000000000 ≤ t₀) :
    exec (.connectorReenable tray code cleared t₀) s = .next ((s.enableConnector tray code t₀).showLamp tray) := by
  obtain ⟨f, hf, he⟩ := hfault
  refine if_neg ?_
  rintro (h | h)
  · have any : (s.tray tray).faults.any (fun f => f.1 == code) = true := List.any_eq_true.mpr ⟨f, hf, beq_iff_eq.mpr he⟩
    rw [any] at h
    exact absurd h (by decide)
  · omega

theorem connectorReenable_completes {code cleared : Nat} (hfault : ∃ f ∈ (s.tray tray).faults, f.1 = code) (hclear : cleared + 20000000000 ≤ t₀) :
    Completes (.connectorReenable tray code cleared t₀) s (fun t => (∀ f ∈ (t.tray tray).faults, f.1 ≠ code) ∧ t.pkgs = s.pkgs ∧
      (code = 1 → (t.tray tray).input = true) ∧ (code = 2 → (t.tray tray).aux = true ∧ (t.tray tray).started = t₀)) := by
  refine ⟨_, exec_connectorReenable hfault hclear, ?_⟩
  have htray := State.tray_updTray_same s tray.isLt (fun (y : Tray) => { y with
      faults := y.faults.filter (fun f => f.1 != code)
      input := y.input || code == 1, aux := y.aux || code == 2
      started := if code = 2 then t₀ else y.started, lastAck := if code = 2 then t₀ else y.lastAck })
  refine ⟨fun f hf => ?_, rfl, ?_, ?_⟩
  · rw [State.tray_showLamp_same _ tray.isLt, State.enableConnector, htray] at hf
    simpa using (List.mem_filter.mp hf).2
  · rintro rfl
    rw [State.tray_showLamp_same _ tray.isLt, State.enableConnector, htray]
    exact Bool.or_true _
  · rintro rfl
    rw [State.tray_showLamp_same _ tray.isLt, State.enableConnector, htray]
    exact ⟨Bool.or_true _, rfl⟩

/-- Every package that belongs to the tray is OFF. -/
def State.trayOff (s : State) (tray : Nat) : Prop := ∀ p : PkgId, trayOf (s.pkg p).id = tray → (s.pkg p).rails.mode = .off

theorem State.trayOff_iff (s : State) (tray : Nat) :
    s.pkgs.toList.all (fun k => trayOf k.id != tray || k.rails.mode == .off) = true ↔ s.trayOff tray := by
  rw [State.all_pkgs]
  refine forall_congr' fun p => ?_
  rw [Bool.or_eq_true, bne_iff_ne, beq_iff_eq]
  exact ⟨fun h hp => h.resolve_left (not_not.mpr hp), fun h => or_iff_not_imp_left.mpr (fun hp => h (not_not.mp hp))⟩

/-- The packages of the tray are powered off, and the tray asks to be made safe. -/
def State.askSafe (s : State) (tray t : Nat) : State :=
  ((trayPkgs tray).foldl (fun (s : State) q => s.updNat q (fun k => (k.at t).powerOff)) s).updTray tray (fun (y : Tray) => { y with safing := true })

theorem exec_serviceButton_refused (hup : s.tmcUp tray = true) (hwindow : (if s.paired then s.mir.window else (s.tray tray).window) = none)
    (hon : ¬ s.trayOff tray) : exec (.serviceButton tray t₀) s = .next (s.updTray tray (fun (y : Tray) => { y with lamp := .amberThrice })) := by
  have closed : (if s.paired then s.mir.window.isSome else (s.tray tray).window.isSome) = false := by
    split at hwindow <;> simp_all
  refine (if_neg (by simp [hup])).trans (if_neg ?_)
  rintro (h | h)
  · rw [closed] at h
    exact absurd h (by decide)
  · exact hon ((s.trayOff_iff tray).mp h)

theorem exec_serviceButton_safe (hup : s.tmcUp tray = true) (hoff : s.trayOff tray) :
    exec (.serviceButton tray t₀) s = .next ((s.askSafe tray t₀).finishSafe tray) :=
  (if_neg (by simp [hup])).trans (if_pos (.inr ((s.trayOff_iff tray).mpr hoff)))

theorem State.pkg_askSafe (s : State) (tray t : Nat) (p : PkgId) :
    (s.askSafe tray t).pkg p = if trayOf p = tray then ((s.pkg p).at t).powerOff else s.pkg p := s.pkg_foldl_tray tray _ p

theorem Pkg.powerOff_of_off {k : Pkg} (h : k.rails.mode = .off) : k.powerOff.rails.mode = .off := by
  show k.powerDown.rails.mode = _
  rw [Pkg.powerDown_of_off h, h]

/-- A tray that is OFF stays so. -/
theorem State.trayOff_askSafe {tray : Nat} (h : s.trayOff tray) (t : Nat) : (s.askSafe tray t).trayOff tray := by
  intro p hp
  rw [State.pkg_askSafe] at hp ⊢
  by_cases mine : trayOf p = tray
  · rw [if_pos mine, show ((s.pkg p).at t).powerOff.id = (s.pkg p).id from congrArg Straps.pkg (Pkg.powerDown_straps _)] at hp
    rw [if_pos mine]
    exact Pkg.powerOff_of_off (h p hp)
  · rw [if_neg mine] at hp ⊢
    exact h p hp

/-- A tray whose packages are OFF is made safe at once. -/
def State.madeSafe (s : State) (n : Nat) : State :=
  ((trayPkgs n).foldl (fun (s : State) q => s.updNat q Pkg.auxLost) s).updTray n
    (fun (y : Tray) => { y with safing := false, input := false, lamp := .blue, locked := !y.aux })

theorem State.finishSafe_of_off {n : Nat} (hsafing : (s.tray n).safing = true) (hoff : s.trayOff n) : s.finishSafe n = s.madeSafe n :=
  if_pos ⟨hsafing, (s.trayOff_iff n).mpr hoff⟩

theorem State.tray_askSafe (s : State) (tray : TrayId) (t : Nat) : (s.askSafe tray t).tray tray = { s.tray tray with safing := true } := by
  unfold State.askSafe
  rw [State.tray_updTray_same _ tray.isLt, (State.PkgsOnly.foldl _ (fun s q => State.PkgsOnly.updNat s q _) s).tray]

theorem State.tray_madeSafe (s : State) (tray : TrayId) :
    (s.madeSafe tray).tray tray = { s.tray tray with safing := false, input := false, lamp := .blue, locked := !(s.tray tray).aux } := by
  unfold State.madeSafe
  rw [State.tray_updTray_same _ tray.isLt, (State.PkgsOnly.foldl _ (fun s q => State.PkgsOnly.updNat s q _) s).tray]

theorem State.pkg_madeSafe (s : State) (n : Nat) (p : PkgId) : (s.madeSafe n).pkg p = if trayOf p = n then (s.pkg p).auxLost else s.pkg p :=
  s.pkg_foldl_tray n Pkg.auxLost p

theorem State.aux_of_tmcUp {n : Nat} (h : s.tmcUp n = true) : (s.tray n).aux = true := by
  simp only [State.tmcUp, Bool.and_eq_true] at h
  exact h.1.2

theorem serviceButton_safe (hup : s.tmcUp tray = true) (hoff : s.trayOff tray) : Completes (.serviceButton tray t₀) s (fun t =>
    (t.tray tray).lamp = .blue ∧ (t.tray tray).input = false ∧ (t.tray tray).locked = false ∧
    ∀ p : PkgId, trayOf p = tray.val → (s.pkg p).rails.mode = .off → (t.pkg p).rails.aux = false) := by
  refine ⟨_, exec_serviceButton_safe hup hoff, ?_⟩
  rw [State.finishSafe_of_off (by rw [State.tray_askSafe]) (State.trayOff_askSafe hoff t₀)]
  dsimp only
  rw [State.tray_madeSafe, State.tray_askSafe]
  refine ⟨rfl, rfl, by rw [State.aux_of_tmcUp hup]; rfl, fun p hp _ => ?_⟩
  rw [State.pkg_madeSafe, if_pos hp]
  rfl

end Fault

/-! ### O52 -/

/-- Settles O52. -/
theorem traysAreServiced : Obligations.TraysAreServiced := by
  unfold Obligations.TraysAreServiced
  intro s tray t₀
  refine ⟨?_, ?_, ?_, ?_, ?_⟩
  · exact fun code kind h₁ h₉ hnew hkind => connectorFault_completes h₁ h₉ hnew hkind
  · exact fun code cleared hfault hclear => connectorReenable_completes hfault hclear
  · exact fun code cleared hlate => ⟨_, if_pos (.inr hlate), rfl⟩
  · intro hup hwindow hon
    obtain ⟨p, hp, hmode⟩ := hon
    refine ⟨_, exec_serviceButton_refused hup hwindow (fun h => hmode (h p hp)), ?_, rfl⟩
    rw [State.tray_updTray_same s tray.isLt]
  · exact fun hup hoff => serviceButton_safe hup hoff

end Sys2Proof.Machine
end

section
/-! PROOFS. Retirement, substitution and the map record (R764–R784), and the end of a play (R169, R189); O40. -/

namespace Sys2Proof.Machine

/-! ### Plays that end (R169, R189) -/

theorem Pkg.endPlay_play (k : Pkg) {c : Nat} (hc : c < 64) (result : Nat) (st : Option Status) : (k.endPlay c result st).play c = none := by
  cases hp : k.play c with
  | none => rwa [Pkg.endPlay, hp]
  | some pl =>
    have ended : ((k.updCore c (fun x => { x with play := none })).showSeq c).play c = none := by
      rw [Pkg.play_congr (Pkg.showSeq_cores _ c), Pkg.play, Pkg.core_updCore, if_pos ⟨rfl, hc⟩]
    rw [Pkg.endPlay, hp]
    exact (Pkg.play_congr (Pkg.sendHub_frame _ _ _ _ _ _).cores c).trans ended

theorem Pkg.endPlay_frame (k : Pkg) {c : Nat} (hc : c < 64) (result : Nat) (st : Option Status) : GoOnly k (k.endPlay c result st) := by
  unfold Pkg.endPlay
  split
  · exact .refl k
  · have gone : SeqOnly k (k.updCore c (fun x => { x with play := none })) := by
      refine ⟨⟨k.regs, k.errCount, _, rfl⟩, .ofRegs rfl, fun c' => ?_⟩
      rw [Pkg.core_updCore]
      split
      · next h => exact ⟨none, by rw [h.1]⟩
      · exact ⟨(k.core c').play, rfl⟩
    exact (GoOnly.ofSeq (gone.trans (Pkg.showSeq_frame _ hc))).trans (.ofFab (Pkg.sendHub_frame ..))

theorem GoOnly.repair {k j : Pkg} (h : GoOnly k j) : j.repair = k.repair := by
  obtain ⟨⟨r, n, cs, f, w, sm, fo, ar, e⟩, -, -⟩ := h
  rw [e]

/-- The play stands at STOP, with nothing left but that command: it retires, and the play ends with its result. -/
def Pkg.stopPlay (k : Pkg) (c : Nat) (pl : Play) (result : Nat) : Pkg :=
  (match pl.cmds.head? with | some x => k.retire c x 0 0 | none => k).endPlay c result none

theorem Pkg.completePlay_of_stop {k : Pkg} {c result : Nat} {pl : Play} (hp : k.play c = some pl) (hdrain : pl.draining = false)
    (hblock : pl.block = some (.stop result)) (hcmds : ∀ x ∈ pl.cmds, x.op = 0x52) : k.completePlay c = k.stopPlay c pl result := by
  have clear : pl.cmds.any (fun x => x.op != 0x52) = false := List.any_eq_false.mpr fun x hx => by simp [hcmds x hx]
  unfold Pkg.completePlay
  rw [hp]
  dsimp only
  rw [if_neg (by rw [hdrain]; decide), hblock]
  dsimp only
  rw [if_neg (by rw [clear]; decide)]
  rfl

theorem Pkg.stopPlay_frame (k : Pkg) {c : Nat} (hc : c < 64) (pl : Play) (result : Nat) : GoOnly k (k.stopPlay c pl result) := by
  have retired : GoOnly k (match pl.cmds.head? with | some x => k.retire c x 0 0 | none => k) := by
    split
    · exact .ofSeq (k.retire_frame hc _ 0 0)
    · exact .refl k
  exact retired.trans (Pkg.endPlay_frame _ hc result none)

/-- A package whose cores' marks are none is at no core's drain point. -/
theorem Pkg.drainPoint_of_none {k : Pkg} (h : k.repair.marks = []) (c : Nat) (copy : Bool) : k.drainPoint c copy = k := by
  unfold Pkg.drainPoint
  rw [h]
  rfl

/-- A core-scope reset is recorded: cause, scope, location, unit and time, and counted. -/
theorem Pkg.recordCause_core (k : Pkg) (cause loc unit : Nat) : k.recordCause cause 1 loc unit =
    (((((k.setF F.RST_CAUSE cause).setF F.RST_SCOPE 1).setF F.RST_LOCATION loc).setF F.RST_UNIT unit).setF F.RST_LAST_HT
      ((((k.setF F.RST_CAUSE cause).setF F.RST_SCOPE 1).setF F.RST_LOCATION loc).setF F.RST_UNIT unit).hallTime).inc (F.RST_COUNTS 0) := rfl

theorem Pkg.recordCause_core_shows (k : Pkg) {cause unit : Nat} (loc : Nat) (hc : cause < 256) (hu : unit < 256) :
    (k.recordCause cause 1 loc unit).getF F.RST_CAUSE = cause ∧ (k.recordCause cause 1 loc unit).getF F.RST_SCOPE = 1 ∧
    (k.recordCause cause 1 loc unit).getF F.RST_UNIT = unit := by
  rw [Pkg.recordCause_core]
  unfold Pkg.inc Pkg.addSat
  refine ⟨?_, ?_, ?_⟩
  all_goals simp (disch := decide) only [Pkg.getF_setF_apart, Pkg.getF_setF_same]
  · exact Nat.mod_eq_of_lt hc
  · rfl
  · exact Nat.mod_eq_of_lt hu

/-- The cells outside a core's own registers. -/
abbrev outsideCore (c o : Nat) : Prop := o < 0x1000000 + c * 0x40000 ∨ 0x1040000 + c * 0x40000 ≤ o

/-- What `clearCore` drops, before it sets the two registers of the core. -/
def Pkg.droppedCore (k : Pkg) (c : Nat) : Pkg :=
  { k with cores := k.cores.setIfInBounds c {}, arrivals := k.arrivals.filter (fun a => a.who != c), announces := k.announces.filter (fun a => a.core != c),
           regs := Sparse.keep k.regs (fun o => !(decide (0x1000000 + c * 0x40000 ≤ o) && decide (o < 0x1000000 + c * 0x40000 + 0x40000) &&
             coreCleared (o - (0x1000000 + c * 0x40000)))) }

theorem Pkg.clearCore_eq (k : Pkg) (c : Nat) : k.clearCore c =
    ((k.droppedCore c).setF (F.CORE_LS_UE c) 0).setF (F.CORE_SEQ_SHOT_LIMIT c) (k.droppedCore c).shotDefault := rfl

theorem Pkg.droppedCore_kept (k : Pkg) (c : Nat) : CellsKept (outsideCore c) k (k.droppedCore c) := by
  intro o ho
  have out : (decide (0x1000000 + c * 0x40000 ≤ o) && decide (o < 0x1000000 + c * 0x40000 + 0x40000)) = false := by
    rw [Bool.and_eq_false_iff, decide_eq_false_iff_not, decide_eq_false_iff_not]
    omega
  rw [Pkg.cell, Pkg.cell, Pkg.droppedCore, Sparse.get_keep, if_pos (by rw [out]; rfl)]

theorem Pkg.clearCore_kept (k : Pkg) (c : Nat) : CellsKept (outsideCore c) k (k.clearCore c) := by
  rw [Pkg.clearCore_eq]
  exact ((k.droppedCore_kept c).thenF 0 (by simp only [F.CORE_LS_UE]; omega)).thenF _ (by simp only [F.CORE_SEQ_SHOT_LIMIT]; omega)

theorem Pkg.core_clearCore (k : Pkg) {c : Nat} (hc : c < 64) : (k.clearCore c).core c = {} := Pkg.core_setCore_same k hc {}

/-- The list of the cores in reset is set. -/
def Pkg.withDown (k : Pkg) (l : List Nat) : Pkg := { k with coreDown := l }

theorem Pkg.withDown_cores (k : Pkg) (l : List Nat) : (k.withDown l).cores = k.cores := rfl

theorem Pkg.withDown_regs (k : Pkg) (l : List Nat) : (k.withDown l).regs = k.regs := rfl

theorem Pkg.withDown_coreDown (k : Pkg) (l : List Nat) : (k.withDown l).coreDown = l := rfl

theorem Pkg.withDown_repair (k : Pkg) (l : List Nat) : (k.withDown l).repair = k.repair := rfl

/-- A core in reset, before its state says so. -/
def Pkg.downCore (k : Pkg) (c : Nat) : Pkg :=
  (k.clearCore c).withDown (if (k.clearCore c).coreDown.contains c then (k.clearCore c).coreDown else c :: (k.clearCore c).coreDown)

theorem Pkg.resetCore_false (k : Pkg) (c : Nat) : k.resetCore c false = (k.downCore c).setF (F.CORE_STATE c) 4 := by
  unfold Pkg.resetCore
  rw [if_neg Bool.false_ne_true, Pkg.downCore, Pkg.withDown]

theorem Pkg.mem_downCore (k : Pkg) (c : Nat) : c ∈ (k.downCore c).coreDown := by
  rw [Pkg.downCore, Pkg.withDown_coreDown]
  split
  · next h => exact List.contains_iff_mem.mp h
  · exact List.mem_cons_self

theorem Pkg.coreDown_setF (k : Pkg) (f : Fld) (v : Nat) : (k.setF f v).coreDown = k.coreDown := rfl

theorem Pkg.resetCore_shows (k : Pkg) {c : Nat} (hc : c < 64) : (k.resetCore c false).play c = none ∧ c ∈ (k.resetCore c false).coreDown ∧
    (k.resetCore c false).getF (F.CORE_STATE c) = 4 ∧ CellsKept (outsideCore c) k (k.resetCore c false) := by
  rw [Pkg.resetCore_false]
  refine ⟨?_, ?_, Pkg.getF_setF_same _ _ _ rfl, ?_⟩
  · rw [Pkg.play_setF, Pkg.downCore, Pkg.play_congr (Pkg.withDown_cores _ _), Pkg.play, k.core_clearCore hc]
  · rw [Pkg.coreDown_setF]
    exact k.mem_downCore c
  · exact ((k.clearCore_kept c).trans (.ofRegs (Pkg.withDown_regs _ _))).thenF 4 (by simp only [F.CORE_STATE]; omega)

/-- The play of a core whose time is over, before the core's reset. -/
def Pkg.endShot (k : Pkg) (c : Nat) (pl : Play) : Pkg :=
  let j := k.latch c ((pl.cmds.head?.map Cmd.word).getD (k.getF (F.CORE_SEQ_NEXT c))) 0x6101 0
  (j.endPlay c (j.freeNat 32) none).draw

theorem Pkg.shotExpire_of_due {k : Pkg} {c : Nat} {pl : Play} (hp : k.play c = some pl) (hrun : k.shotPaused pl = false)
    (hdue : k.getF (F.CORE_SEQ_SHOT_LIMIT c) ≤ pl.shotCount k.now) :
    k.shotExpire c = ((k.endShot c pl).recordCause 0x07 1 0 c).resetCore c false := by
  unfold Pkg.shotExpire
  rw [hp]
  exact if_neg (by rw [hrun]; simpa using hdue)

/-- R189: what the core and the reset registers show. -/
theorem Pkg.shotExpire_shows {k : Pkg} {c : Nat} (hc : c < 64) {pl : Play} (hp : k.play c = some pl) (hrun : k.shotPaused pl = false)
    (hdue : k.getF (F.CORE_SEQ_SHOT_LIMIT c) ≤ pl.shotCount k.now) :
    (k.shotExpire c).play c = none ∧ c ∈ (k.shotExpire c).coreDown ∧ (k.shotExpire c).getF (F.CORE_STATE c) = 4 ∧
    (k.shotExpire c).getF F.RST_CAUSE = 7 ∧ (k.shotExpire c).getF F.RST_SCOPE = 1 ∧ (k.shotExpire c).getF F.RST_UNIT = c := by
  obtain ⟨hcause, hscope, hunit⟩ := (k.endShot c pl).recordCause_core_shows (cause := 0x07) (unit := c) 0 (by decide) (by omega)
  obtain ⟨hplay, hdown, hstate, kept⟩ := ((k.endShot c pl).recordCause 0x07 1 0 c).resetCore_shows hc
  have outside {f : Fld} (hf : f.off < 0x1000000) : outsideCore c f.off := .inl (by omega)
  rw [Pkg.shotExpire_of_due hp hrun hdue]
  exact ⟨hplay, hdown, hstate, (kept.getF (outside (by decide))).trans hcause, (kept.getF (outside (by decide))).trans hscope,
    (kept.getF (outside (by decide))).trans hunit⟩

/-! ### A core comes out of reset (R135, R750) -/

theorem Pkg.comeBack_of_unmarked {k : Pkg} (h : k.repair.marks = []) (c : Nat) : k.comeBack c = k.coreOut c :=
  if_neg (by rw [h]; exact Bool.false_ne_true)

theorem Pkg.coreOut_shows (k : Pkg) (c : Nat) : c ∉ (k.coreOut c).coreDown ∧
    (k.coreOut c).getF (F.CORE_STATE c) = (if k.isRetired c then 5 else if (k.logicalOf c).isSome then 3 else 2) ∧
    CellsKept (· < 0x1000000) k (k.coreOut c) := by
  refine ⟨?_, ?_, ?_⟩
  · show c ∉ k.coreDown.filter (fun x => x != c)
    simp
  · refine (Pkg.getF_setF_same _ _ _ rfl).trans ?_
    show (if k.isRetired c then 5 else if (k.logicalOf c).isSome then 3 else 2) % 8 = _
    split
    · rfl
    · split <;> rfl
  · exact CellsKept.thenF (.ofRegs rfl) _ (by simp only [F.CORE_STATE]; omega)

/-! ### Retirement (R774) -/

/-- What is kept of the registers when core `c` is retired. -/
abbrev retireKeeps (c o : Nat) : Prop := outsideCore c o ∧ o ≠ 0x80 + 0x8 * (c / 16) ∧ o ≠ 0xB0

/-- A retired core takes its role and leaves the list of the cores in reset. -/
def Pkg.retireRole (k : Pkg) (c : Nat) : Pkg :=
  ((k.clearCore c).setRole c 2).withDown (((k.clearCore c).setRole c 2).coreDown.filter (fun x => x != c))

/-- A retired core's registers. -/
def Pkg.retireShown (k : Pkg) (c : Nat) : Pkg :=
  (((k.retireRole c).setF (F.CORE_STATE c) 5).setF (F.CORE_LOGICAL c) 0xFF).setBit F.GLB_MAP_DEFERRED c false

theorem Pkg.retireCore_eq (k : Pkg) (c reason : Nat) : k.retireCore c reason =
    (k.retireShown c).updRepair (fun r => { r with reasons := putPair r.reasons c reason, marks := r.marks.filter (fun m => m.1 != c),
                                                   substs := r.substs.filter (fun (q : Subst) => q.core != c) }) := by
  rw [Pkg.retireCore, Pkg.retireShown, Pkg.retireRole, Pkg.withDown]

theorem Pkg.updRepair_regs (k : Pkg) (f : Repair → Repair) : (k.updRepair f).regs = k.regs := rfl

theorem Pkg.getF_updRepair (k : Pkg) (f : Repair → Repair) (g : Fld) : (k.updRepair f).getF g = k.getF g := rfl

theorem Pkg.retireCore_kept (k : Pkg) (c reason : Nat) : CellsKept (retireKeeps c) k (k.retireCore c reason) := by
  have role : CellsKept (retireKeeps c) k (k.retireRole c) :=
    (((k.clearCore_kept c).mono fun o ho => ho.1).trans (Pkg.setRole_kept _ c 2 (fun h => h.2.1 rfl)).cells).trans (.ofRegs (Pkg.withDown_regs _ _))
  have shown : CellsKept (retireKeeps c) k (k.retireShown c) :=
    ((role.thenF (f := F.CORE_STATE c) 5 (fun h => by have := h.1; simp only [F.CORE_STATE] at this; omega)).thenF (f := F.CORE_LOGICAL c) 0xFF
      (fun h => by have := h.1; simp only [F.CORE_LOGICAL] at this; omega)).thenF (f := F.GLB_MAP_DEFERRED) _ (fun h => h.2.2 rfl)
  rw [Pkg.retireCore_eq]
  exact shown.trans (.ofRegs (Pkg.updRepair_regs _ _))

theorem Pkg.isSpare_setRole (k : Pkg) (c role : Nat) : (k.setRole c role).isSpare c = (role == 0) := by
  have apart {f : Fld} (hf : f.off = 0x80 + 0x8 * (c / 16)) (hl : 32 ≤ f.lo ∨ f.lo + f.width ≤ 16) : f.apart (F.GLB_MAP_SPARE (c / 16)) = true :=
    (Fld.apart_iff _ _).mpr (.inr (by simp only [F.GLB_MAP_SPARE]; omega))
  have spare : (k.setRole c role).getF (F.GLB_MAP_SPARE (c / 16)) = putBit (k.getF (F.GLB_MAP_SPARE (c / 16))) (c % 16) (role == 0) % 2 ^ 16 := by
    unfold Pkg.setRole Pkg.setBit
    rw [Pkg.getF_setF_apart _ _ _ _ (apart rfl (.inl (Nat.le_refl _))), Pkg.getF_setF_apart _ _ _ _ (apart rfl (.inr (Nat.le_refl _))),
      Pkg.getF_setF_same _ _ _ rfl]
    rfl
  unfold Pkg.isSpare
  rw [spare, bit_mod_two_pow _ (Nat.mod_lt _ (by decide)), bit_putBit_same]

/-- The map of roles is not written after a retired core's role. -/
theorem Pkg.retireCore_map (k : Pkg) {c : Nat} (hc : c < 64) (reason : Nat) :
    CellsKept (fun o => 0x80 ≤ o ∧ o < 0xA0) ((k.clearCore c).setRole c 2) (k.retireCore c reason) := by
  have role : CellsKept (fun o => 0x80 ≤ o ∧ o < 0xA0) ((k.clearCore c).setRole c 2) (k.retireRole c) := .ofRegs (Pkg.withDown_regs _ _)
  have shown : CellsKept (fun o => 0x80 ≤ o ∧ o < 0xA0) ((k.clearCore c).setRole c 2) (k.retireShown c) :=
    ((role.thenF (f := F.CORE_STATE c) 5 (by simp only [F.CORE_STATE]; omega)).thenF (f := F.CORE_LOGICAL c) 0xFF (by simp only [F.CORE_LOGICAL]; omega)).thenF
      (f := F.GLB_MAP_DEFERRED) _ (by decide)
  rw [Pkg.retireCore_eq]
  exact shown.trans (.ofRegs (Pkg.updRepair_regs _ _))

theorem Pkg.isRetired_kept {P : Nat → Prop} {k j : Pkg} (h : CellsKept P k j) {c : Nat} (hP : P (0x80 + 0x8 * (c / 16))) :
    j.isRetired c = k.isRetired c := congrArg (fun v => bit v (c % 16)) (h.getF (f := F.GLB_MAP_RETIRED (c / 16)) hP)

theorem Pkg.isSpare_kept {P : Nat → Prop} {k j : Pkg} (h : CellsKept P k j) {c : Nat} (hP : P (0x80 + 0x8 * (c / 16))) :
    j.isSpare c = k.isSpare c := congrArg (fun v => bit v (c % 16)) (h.getF (f := F.GLB_MAP_SPARE (c / 16)) hP)

/-- R774: a retired core is no spare, and its state says so. -/
theorem Pkg.retireCore_shows (k : Pkg) {c : Nat} (hc : c < 64) (reason : Nat) : (k.retireCore c reason).isRetired c = true ∧
    (k.retireCore c reason).isSpare c = false ∧ (k.retireCore c reason).getF (F.CORE_STATE c) = 5 := by
  have hmap : 0x80 ≤ 0x80 + 0x8 * (c / 16) ∧ 0x80 + 0x8 * (c / 16) < 0xA0 := by omega
  refine ⟨(Pkg.isRetired_kept (k.retireCore_map hc reason) hmap).trans (Pkg.isRetired_setRole_same _ c 2),
    (Pkg.isSpare_kept (k.retireCore_map hc reason) hmap).trans (Pkg.isSpare_setRole _ c 2), ?_⟩
  rw [Pkg.retireCore_eq, Pkg.getF_updRepair, Pkg.retireShown, Pkg.setBit,
    Pkg.getF_setF_apart _ _ _ _ (Fld.apart_of_off (by simp only [F.GLB_MAP_DEFERRED, F.CORE_STATE]; omega)),
    Pkg.getF_setF_apart _ _ _ _ (Fld.apart_of_off (by simp only [F.CORE_LOGICAL, F.CORE_STATE]; omega)), Pkg.getF_setF_same _ _ _ rfl]
  rfl

theorem Pkg.retireShown_repair (k : Pkg) (c : Nat) : (k.retireShown c).repair = k.repair := by
  have cleared : (k.clearCore c).repair = k.repair := by rw [Pkg.clearCore_eq]; rfl
  have role (j : Pkg) : (j.setRole c 2).repair = j.repair := rfl
  have shown (j : Pkg) (f f' f'' : Fld) (v v' v'' : Nat) : (((j.setF f v).setF f' v').setF f'' v'').repair = j.repair := rfl
  rw [Pkg.retireShown, Pkg.setBit, shown, Pkg.retireRole, Pkg.withDown_repair, role, cleared]

theorem Pkg.retireCore_repair (k : Pkg) (c reason : Nat) : (k.retireCore c reason).repair = { k.repair with
    reasons := putPair k.repair.reasons c reason
    marks := k.repair.marks.filter (fun m => m.1 != c)
    substs := k.repair.substs.filter (fun (q : Subst) => q.core != c) } := by
  rw [Pkg.retireCore_eq, Pkg.updRepair, k.retireShown_repair]

/-! ### Marks (R764–R768, Table 17-1) -/

/-- A core is marked for a reason. -/
def Pkg.marked (k : Pkg) (c g reason : Nat) (force : Bool) : Pkg :=
  (k.updRepair (fun r => { r with marks := r.marks ++ [(c, reason, force)] })).raise (F.GLB_ME_MARKED g)

/-- A core in service with a spare in its cluster, that still runs a play: a trigger marks it. -/
structure Pkg.canMark (k : Pkg) (c g : Nat) : Prop where
  substs : k.repair.substs = []
  marks : k.repair.marks = []
  spare : k.isSpare c = false
  logical : k.logicalOf c = some g
  spares : k.spares (c / 16) ≠ []
  play : (k.play c).isSome = true

theorem Pkg.canMark.trigger {k : Pkg} {c g reason : Nat} (h : k.canMark c g) (h₂ : reason ≠ 2) (h₃ : reason ≠ 3) (force : Bool) :
    k.trigger c reason force = k.marked c g reason force := by
  have spares : ¬ ((k.spares (c / 16)).isEmpty && !force) = true := by
    rw [Bool.and_eq_true, List.isEmpty_iff]
    exact fun h' => h.spares h'.1
  have runs : (((k.updRepair (fun r => { r with marks := r.marks ++ [(c, reason, force)] })).raise (F.GLB_ME_MARKED g)).play c).isNone = false := by
    show (k.play c).isNone = false
    rw [Option.isNone_eq_false_iff]
    exact h.play
  have unmarked : k.repair.marks.find? (fun m => m.1 == c) = none := by rw [h.marks]; rfl
  unfold Pkg.trigger
  rw [if_neg (by rw [h.substs]; exact Bool.false_ne_true), if_neg (by rw [h.spare]; decide), h.logical]
  dsimp only
  rw [if_neg (not_or.mpr ⟨h₂, h₃⟩), if_neg (by rw [unmarked]; decide), if_neg spares, if_neg (by rw [runs, Bool.false_and]; exact Bool.false_ne_true)]
  rfl

theorem Pkg.marked_shows (k : Pkg) (c g reason : Nat) (force : Bool) : (k.marked c g reason force).repair.marks = k.repair.marks ++ [(c, reason, force)] ∧
    (k.marked c g reason force).getF (F.GLB_ME_MARKED g) = 1 := ⟨rfl, Pkg.getF_raise_same _ _ rfl (Nat.le_refl 1)⟩

/-- Marking a core makes no number vacant. -/
theorem Pkg.vacant_marked (k : Pkg) (c g reason : Nat) (force : Bool) (n : Nat) : (k.marked c g reason force).getF (F.GLB_ME_VACANT n) = k.getF (F.GLB_ME_VACANT n) :=
  Pkg.getF_setF_apart _ _ _ _ ((Fld.apart_iff _ _).mpr (.inr (.inl (by simp only [F.GLB_ME_MARKED, F.GLB_ME_VACANT]; omega))))

/-- A SPARE is retired at once when no substitution holds it. -/
theorem Pkg.trigger_spare {k : Pkg} {c : Nat} (hsubsts : k.repair.substs = []) (hspare : k.isSpare c = true) (reason : Nat) (force : Bool) :
    k.trigger c reason force = (k.retireCore c reason).noteMap := by
  unfold Pkg.trigger
  rw [if_neg (by rw [hsubsts]; exact Bool.false_ne_true), if_pos hspare, Pkg.retireSpare, hsubsts]
  rfl

end Sys2Proof.Machine
end

section
/-! PROOFS. The commands of section 17's repairs, each through what it leaves of the package (R764–R785); O40. -/

namespace Sys2Proof.Machine

/-- A change of a package that makes no logical number vacant changes that package alone, whose notices are posted. -/
theorem State.pkg_updMap_of_vacant (s : State) (p : PkgId) {f : Pkg → Pkg}
    (h : ∀ g, g < 60 → (f (s.pkg p)).getF (F.GLB_ME_VACANT g) = (s.pkg p).getF (F.GLB_ME_VACANT g)) :
    (s.updMap p f).pkg p = { f (s.pkg p) with notices := [] } := by
  have hgone : (List.range 60).filter (fun g => (f (s.pkg p)).flag (F.GLB_ME_VACANT g) && !(s.pkg p).flag (F.GLB_ME_VACANT g)) = [] := by
    rw [List.filter_eq_nil_iff]
    intro g hg
    simp [Pkg.flag, h g (List.mem_range.mp hg)]
  have hpost : s.updMap p f = s.updPost p f := by
    unfold State.updMap State.updPost
    simp only [State.pkg_updPkg_same, hgone, List.foldl_nil]
  rw [hpost, State.pkg_updPost_same]

theorem completes_of_updMap {c : Instr} {f : Pkg → Pkg} {P : State → Prop} {s : State} {p : PkgId} {j : Pkg} (hexec : exec c s = .next (s.updMap p f))
    (hrun : f (s.pkg p) = j) (hvacant : ∀ g, g < 60 → j.getF (F.GLB_ME_VACANT g) = (s.pkg p).getF (F.GLB_ME_VACANT g))
    (h : ∀ t : State, t.pkg p = { j with notices := [] } → P t) : Completes c s P := by
  subst hrun
  exact ⟨_, hexec, h _ (s.pkg_updMap_of_vacant p hvacant)⟩

theorem completes_of_updPkg_eq {c : Instr} {f : Pkg → Pkg} {P : State → Prop} {s : State} {p : PkgId} {j : Pkg} (hexec : exec c s = .next (s.updPkg p f))
    (hrun : f (s.pkg p) = j) (h : ∀ t : State, t.pkg p = j → P t) : Completes c s P :=
  completes_of_updPkg hexec fun t ht => h t (ht.trans hrun)

/-- The cells of the table of logical numbers. -/
abbrev numberCells (o : Nat) : Prop := 0x100 ≤ o ∧ o < 0x200

theorem CellsKept.vacant {k j : Pkg} (h : CellsKept numberCells k j) (g : Nat) (hg : g < 60) : j.getF (F.GLB_ME_VACANT g) = k.getF (F.GLB_ME_VACANT g) :=
  h.getF (by simp only [F.GLB_ME_VACANT]; omega)

theorem ErrOnly.repair {k j : Pkg} (h : ErrOnly k j) : j.repair = k.repair := by
  obtain ⟨⟨r, n, rfl⟩, -⟩ := h
  rfl

theorem ErrOnly.cellsKept {P : Nat → Prop} {k j : Pkg} (h : ErrOnly k j) (hP : ∀ o, P o → o < 0x3000000) : CellsKept P k j :=
  fun o ho => h.cells o (.inl (hP o ho))

/-! ### The hourly sample of corrected errors (R764) -/

/-- The counters last sampled are replaced. -/
def Pkg.withSamples (k : Pkg) (ls : List (Nat × Nat)) : Pkg := k.updRepair (fun r => { r with ceLast := ls })

/-- The sample of one core. -/
def Pkg.sampleCore (k : Pkg) (c : Nat) : Pkg :=
  let n := k.getF (F.CORE_LS_CE_COUNT c)
  let was := getPair k.repair.ceLast c
  let k := if n = was then k else k.updRepair (fun r => { r with ceLast := putPair r.ceLast c n })
  if was + 1000 ≤ n then k.trigger c 4 false else k

theorem exec_ceSample (s : State) (p : PkgId) (t : Nat) : exec (.ceSample p t) s = .next (s.updMap p (fun k =>
    if !(k.at t).flag F.HTM_VALID || t % 7200000000000 != 0 then k.at t else (List.range 64).foldl Pkg.sampleCore (k.at t))) := rfl

/-- The samples after that of a core. -/
def nextSamples (ls : List (Nat × Nat)) (c n : Nat) : List (Nat × Nat) := if n = getPair ls c then ls else putPair ls c n

theorem getPair_putPair_same (ls : List (Nat × Nat)) (c n : Nat) : getPair (putPair ls c n) c = n := by simp [getPair, putPair]

theorem getPair_putPair_other (ls : List (Nat × Nat)) {c d : Nat} (n : Nat) (h : d ≠ c) : getPair (putPair ls c n) d = getPair ls d := by
  have same : (fun a : Nat × Nat => !decide (a.1 = c) && decide (a.1 = d)) = fun a => a.1 == d := by
    funext a
    rw [Bool.eq_iff_iff]
    simp only [Bool.and_eq_true, Bool.not_eq_true', decide_eq_false_iff_not, decide_eq_true_eq, beq_iff_eq]
    omega
  simp [getPair, putPair, Ne.symm h, List.find?_filter, same]

theorem getPair_nextSamples_same (ls : List (Nat × Nat)) (c n : Nat) : getPair (nextSamples ls c n) c = n := by
  unfold nextSamples
  split
  · next h => exact h.symm
  · exact getPair_putPair_same ls c n

theorem getPair_nextSamples_other (ls : List (Nat × Nat)) {c d : Nat} (n : Nat) (h : d ≠ c) : getPair (nextSamples ls c n) d = getPair ls d := by
  unfold nextSamples
  split
  · rfl
  · exact getPair_putPair_other ls n h

theorem Pkg.sampleCore_eq (k : Pkg) (c : Nat) : k.sampleCore c =
    if getPair k.repair.ceLast c + 1000 ≤ k.getF (F.CORE_LS_CE_COUNT c) then
      (k.withSamples (nextSamples k.repair.ceLast c (k.getF (F.CORE_LS_CE_COUNT c)))).trigger c 4 false
    else k.withSamples (nextSamples k.repair.ceLast c (k.getF (F.CORE_LS_CE_COUNT c))) := by
  unfold Pkg.sampleCore nextSamples
  dsimp only
  by_cases h : k.getF (F.CORE_LS_CE_COUNT c) = getPair k.repair.ceLast c
  · rw [if_pos h, if_pos h]; rfl
  · rw [if_neg h, if_neg h]; rfl

/-- Cores with fewer than 1,000 new errors: their counters are kept, and nothing else happens. -/
theorem Pkg.sampleCores_of_few {k : Pkg} {l : List Nat} (hnodup : l.Nodup)
    (hfew : ∀ c ∈ l, k.getF (F.CORE_LS_CE_COUNT c) < getPair k.repair.ceLast c + 1000) : ∃ ls, l.foldl Pkg.sampleCore k = k.withSamples ls ∧
    (∀ c, c ∉ l → getPair ls c = getPair k.repair.ceLast c) ∧ ∀ c ∈ l, getPair ls c = k.getF (F.CORE_LS_CE_COUNT c) := by
  induction l generalizing k with
  | nil => exact ⟨k.repair.ceLast, rfl, fun _ _ => rfl, fun c hc => absurd hc List.not_mem_nil⟩
  | cons x xs ih =>
    obtain ⟨hx, hxs⟩ := List.nodup_cons.mp hnodup
    obtain ⟨ls, hls⟩ : ∃ ls, ls = nextSamples k.repair.ceLast x (k.getF (F.CORE_LS_CE_COUNT x)) := ⟨_, rfl⟩
    have first : k.sampleCore x = k.withSamples ls := by
      rw [Pkg.sampleCore_eq, if_neg (Nat.not_le.mpr (hfew x List.mem_cons_self)), hls]
    have others {c : Nat} (hc : c ≠ x) : getPair ls c = getPair k.repair.ceLast c := hls ▸ getPair_nextSamples_other _ _ hc
    have few : ∀ c ∈ xs, (k.withSamples ls).getF (F.CORE_LS_CE_COUNT c) < getPair (k.withSamples ls).repair.ceLast c + 1000 := fun c hc => by
      show k.getF (F.CORE_LS_CE_COUNT c) < getPair ls c + 1000
      rw [others fun e => hx (e ▸ hc)]
      exact hfew c (List.mem_cons_of_mem _ hc)
    obtain ⟨ls', hfold, hout, hin⟩ := ih hxs few
    refine ⟨ls', by rw [List.foldl_cons, first, hfold]; rfl, fun c hc => ?_, fun c hc => ?_⟩
    · exact (hout c fun h => hc (List.mem_cons_of_mem _ h)).trans (others fun e => hc (e ▸ List.mem_cons_self))
    · rcases List.mem_cons.mp hc with rfl | hc
      · exact (hout c hx).trans (hls ▸ getPair_nextSamples_same _ _ _)
      · exact hin c hc

/-- One core with 1,000 new errors, that can be marked: it is marked. -/
theorem Pkg.sampleCores_of_one {k : Pkg} {core g : Nat} (hcore : core < 64) (hcan : k.canMark core g)
    (hfew : ∀ c, c < 64 → c ≠ core → k.getF (F.CORE_LS_CE_COUNT c) < getPair k.repair.ceLast c + 1000)
    (hmany : getPair k.repair.ceLast core + 1000 ≤ k.getF (F.CORE_LS_CE_COUNT core)) :
    ∃ ls ls', (List.range 64).foldl Pkg.sampleCore k = ((k.withSamples ls).marked core g 4 false).withSamples ls' := by
  obtain ⟨l₁, l₂, hl⟩ := List.append_of_mem (List.mem_range.mpr hcore)
  have below : ∀ c ∈ l₁ ++ core :: l₂, c < 64 := fun c hc => List.mem_range.mp (hl ▸ hc)
  have nodup : (l₁ ++ core :: l₂).Nodup := hl ▸ List.nodup_range
  obtain ⟨h₁, h₂, happart⟩ := List.nodup_append.mp nodup
  obtain ⟨hnot, h₂⟩ := List.nodup_cons.mp h₂
  have ne₁ {c : Nat} (hc : c ∈ l₁) : c ≠ core := happart c hc core List.mem_cons_self
  have notIn₁ {c : Nat} (hc : c ∈ core :: l₂) : c ∉ l₁ := fun h => happart c h c hc rfl
  have ne₂ {c : Nat} (hc : c ∈ l₂) : c ≠ core := fun e => hnot (e ▸ hc)
  obtain ⟨ls, hfold, hout, -⟩ := Pkg.sampleCores_of_few (k := k) h₁ fun c hc => hfew c (below c (List.mem_append_left _ hc)) (ne₁ hc)
  have hcan' : ((k.withSamples ls).withSamples (nextSamples ls core (k.getF (F.CORE_LS_CE_COUNT core)))).canMark core g :=
    ⟨hcan.substs, hcan.marks, hcan.spare, hcan.logical, hcan.spares, hcan.play⟩
  have marks : (k.withSamples ls).sampleCore core =
      (k.withSamples (nextSamples ls core (k.getF (F.CORE_LS_CE_COUNT core)))).marked core g 4 false := by
    rw [Pkg.sampleCore_eq, if_pos]
    · exact hcan'.trigger (by decide) (by decide) false
    · show getPair ls core + 1000 ≤ k.getF (F.CORE_LS_CE_COUNT core)
      rw [hout core (notIn₁ List.mem_cons_self)]
      exact hmany
  have counts (c : Nat) (j : Pkg) : (j.marked core g 4 false).getF (F.CORE_LS_CE_COUNT c) = j.getF (F.CORE_LS_CE_COUNT c) :=
    Pkg.getF_setF_apart _ _ _ _ ((Fld.apart_iff _ _).mpr (.inr (.inl (by simp only [F.GLB_ME_MARKED, F.CORE_LS_CE_COUNT]; omega))))
  obtain ⟨ls', hfold', -, -⟩ := Pkg.sampleCores_of_few
    (k := (k.withSamples (nextSamples ls core (k.getF (F.CORE_LS_CE_COUNT core)))).marked core g 4 false) h₂ fun c hc => by
      rw [counts]
      show k.getF (F.CORE_LS_CE_COUNT c) < getPair (nextSamples ls core (k.getF (F.CORE_LS_CE_COUNT core))) c + 1000
      rw [getPair_nextSamples_other _ _ (ne₂ hc), hout c (notIn₁ (List.mem_cons_of_mem _ hc))]
      exact hfew c (below c (List.mem_append_right _ (List.mem_cons_of_mem _ hc))) (ne₂ hc)
  exact ⟨_, ls', by rw [hl, List.foldl_append, List.foldl_cons, hfold, marks, hfold']⟩

/-! ### The switch of a substitution (R771, R774) -/

/-- The spare holds the retired core's local store. -/
def Pkg.switchStore (k : Pkg) (q : Subst) : Pkg :=
  (k.retireCore q.core q.reason).setCore q.spare { (k.retireCore q.core q.reason).core q.spare with ls := (k.core q.core).ls, lsBad := (k.core q.core).lsBad, lsCe := (k.core q.core).lsCe }

/-- The spare's number, and the counts of a substitution with a copy. -/
def Pkg.switchShown (k : Pkg) (q : Subst) : Pkg :=
  ((((((k.setRole q.spare 1).setF (F.CORE_LOGICAL q.spare) q.logical).setF (F.GLB_ME_PHYS q.logical) q.spare).setF (F.GLB_ME_MOVING q.logical) 0).setF
    (F.GLB_ME_MARKED q.logical) 0).inc (F.GLB_REPAIR_COUNTS 0)).inc (F.GLB_REPAIR_COUNTS 1)

theorem Pkg.switchShown_kept {P : Nat → Prop} (k : Pkg) (q : Subst) (hrole : ¬ P (0x80 + 0x8 * (q.spare / 16))) (hlogical : ¬ P (0x1000000 + 0x40000 * q.spare))
    (hnumber : ¬ P (0x100 + 0x4 * q.logical)) (hcount₀ : ¬ P 0xB8) (hcount₁ : ¬ P 0xC0) : CellsKept P k (k.switchShown q) :=
  ((((((k.setRole_kept q.spare 1 hrole).cells.thenF q.logical hlogical).thenF q.spare hnumber).thenF 0 hnumber).thenF 0 hnumber).thenF _ hcount₀).thenF _ hcount₁

theorem Pkg.switchShown_repair (k : Pkg) (q : Subst) : (k.switchShown q).repair = k.repair := rfl

theorem Pkg.switchShown_cores (k : Pkg) (q : Subst) : (k.switchShown q).cores = k.cores := rfl

theorem Pkg.switchStore_regs (k : Pkg) (q : Subst) : (k.switchStore q).regs = (k.retireCore q.core q.reason).regs := by rw [Pkg.switchStore, Pkg.setCore]

theorem Pkg.switchStore_repair (k : Pkg) (q : Subst) : (k.switchStore q).repair = (k.retireCore q.core q.reason).repair := by rw [Pkg.switchStore, Pkg.setCore]

section Switch

variable {k : Pkg} {q : Subst} (hcopy : q.copy = true) (hc : q.core < 64) (hs : q.spare < 64) (hne : q.spare ≠ q.core) (hl : q.logical < 60)
  (hreset : bit (k.getF F.RST_CLUSTER_RESET) (q.spare / 16) = false)

include hc in
/-- A retirement's registers, where the map of roles and the registers of the core are not meant. -/
theorem Pkg.switchStore_kept {P : Nat → Prop} (hP : ∀ o, P o → (0xA0 ≤ o ∧ o < 0x1000000) ∧ o ≠ 0xB0) : CellsKept P k (k.switchStore q) :=
  ((k.retireCore_kept q.core q.reason).mono fun o ho => by
    obtain ⟨⟨hlow, hhigh⟩, hdeferred⟩ := hP o ho
    exact ⟨.inl (by omega), by omega, hdeferred⟩).trans (.ofRegs (k.switchStore_regs q))

include hcopy hc hs hl hreset in
/-- A switch with a copy, in a cluster that is not in reset. -/
theorem Pkg.switchCore_of_copy : k.switchCore q = (((k.switchStore q).switchShown q).setF (F.CORE_STATE q.spare) 3).noteMap := by
  have kept : CellsKept (· = 0x10028) k ((k.switchStore q).switchShown q) :=
    (Pkg.switchStore_kept hc (by omega)).trans ((k.switchStore q).switchShown_kept q (by omega) (by omega) (by omega) (by decide) (by decide))
  have noReset : bit (((k.switchStore q).switchShown q).getF F.RST_CLUSTER_RESET) (q.spare / 16) = false := by
    rw [kept.getF (f := F.RST_CLUSTER_RESET) rfl, hreset]
  unfold Pkg.switchCore
  dsimp only
  rw [hcopy, if_pos rfl, if_pos rfl]
  show Pkg.noteMap (if bit (((k.switchStore q).switchShown q).getF F.RST_CLUSTER_RESET) (q.spare / 16) = true then _ else _) = _
  rw [noReset]
  rfl

/-- The end of a switch writes the spare's state and notes the map. -/
theorem Pkg.switchEnd_kept {P : Nat → Prop} (k : Pkg) (spare : Nat) (hstate : ¬ P (0x1000008 + 0x40000 * spare)) (hnote : ¬ P 0xA0) :
    CellsKept P k ((k.setF (F.CORE_STATE spare) 3).noteMap) := (CellsKept.setF k 3 hstate).trans (Pkg.noteMap_kept _ hnote).cells

theorem Pkg.switchEnd_cores (k : Pkg) (spare : Nat) : ((k.setF (F.CORE_STATE spare) 3).noteMap).cores = k.cores := rfl

theorem Pkg.switchEnd_substs (k : Pkg) (spare : Nat) : ((k.setF (F.CORE_STATE spare) 3).noteMap).repair.substs = k.repair.substs := rfl

include hcopy hc hs hne hl hreset in
/-- R774: what a switch with a copy leaves. -/
theorem Pkg.switchCore_shows (hsubsts : k.repair.substs = [q]) : (k.switchCore q).repair.substs = [] ∧
    ((k.switchCore q).core q.spare).ls = (k.core q.core).ls ∧ (k.switchCore q).getF (F.GLB_ME_PHYS q.logical) = q.spare ∧
    (k.switchCore q).getF (F.CORE_STATE q.spare) = 3 ∧ (k.switchCore q).getF (F.CORE_LOGICAL q.spare) = q.logical ∧
    (k.switchCore q).isRetired q.core = true ∧ (k.switchCore q).getF (F.CORE_STATE q.core) = 5 ∧
    (k.switchCore q).getF (F.GLB_REPAIR_COUNTS 0) = min (2 ^ 64 - 1) (k.getF (F.GLB_REPAIR_COUNTS 0) + 1) := by
  obtain ⟨hretired, -, hstate⟩ := k.retireCore_shows hc q.reason
  have store {P : Nat → Prop} : CellsKept P (k.retireCore q.core q.reason) (k.switchStore q) := .ofRegs (k.switchStore_regs q)
  rw [Pkg.switchCore_of_copy hcopy hc hs hl hreset]
  refine ⟨?_, ?_, ?_, ?_, ?_, ?_, ?_, ?_⟩
  · rw [Pkg.switchEnd_substs, Pkg.switchShown_repair, Pkg.switchStore_repair, Pkg.retireCore_repair, hsubsts]
    simp
  · rw [Pkg.core_congr (Pkg.switchEnd_cores _ _), Pkg.core_congr (Pkg.switchShown_cores _ _), Pkg.switchStore, Pkg.core_setCore_same _ hs]
  · rw [(Pkg.switchEnd_kept (P := fun o => 0x100 ≤ o ∧ o < 0x200) _ q.spare (by omega) (by decide)).getF (by simp only [F.GLB_ME_PHYS]; omega), Pkg.switchShown,
      Pkg.getF_inc_apart _ _ _ (Fld.apart_of_off (by simp only [F.GLB_REPAIR_COUNTS, F.GLB_ME_PHYS]; omega)),
      Pkg.getF_inc_apart _ _ _ (Fld.apart_of_off (by simp only [F.GLB_REPAIR_COUNTS, F.GLB_ME_PHYS]; omega)),
      Pkg.getF_setF_apart _ _ _ _ ((Fld.apart_iff _ _).mpr (.inr (by simp only [F.GLB_ME_MARKED, F.GLB_ME_PHYS]; omega))),
      Pkg.getF_setF_apart _ _ _ _ ((Fld.apart_iff _ _).mpr (.inr (by simp only [F.GLB_ME_MOVING, F.GLB_ME_PHYS]; omega))), Pkg.getF_setF_same _ _ _ rfl]
    exact Nat.mod_eq_of_lt hs
  · rw [(Pkg.noteMap_kept (P := fun o => 0x1000000 ≤ o) _ (by decide)).cells.getF (by simp only [F.CORE_STATE]; omega), Pkg.getF_setF_same _ _ _ rfl]
    rfl
  · rw [(Pkg.switchEnd_kept (P := (· = 0x1000000 + 0x40000 * q.spare)) _ q.spare (by omega) (by omega)).getF rfl, Pkg.switchShown,
      Pkg.getF_inc_apart _ _ _ (Fld.apart_of_off (by simp only [F.GLB_REPAIR_COUNTS, F.CORE_LOGICAL]; omega)),
      Pkg.getF_inc_apart _ _ _ (Fld.apart_of_off (by simp only [F.GLB_REPAIR_COUNTS, F.CORE_LOGICAL]; omega)),
      Pkg.getF_setF_apart _ _ _ _ (Fld.apart_of_off (by simp only [F.GLB_ME_MARKED, F.CORE_LOGICAL]; omega)),
      Pkg.getF_setF_apart _ _ _ _ (Fld.apart_of_off (by simp only [F.GLB_ME_MOVING, F.CORE_LOGICAL]; omega)),
      Pkg.getF_setF_apart _ _ _ _ (Fld.apart_of_off (by simp only [F.GLB_ME_PHYS, F.CORE_LOGICAL]; omega)), Pkg.getF_setF_same _ _ _ rfl]
    exact Nat.mod_eq_of_lt (by show q.logical < 2 ^ 8; omega)
  · have afterRole : CellsKept (fun o => 0x80 ≤ o ∧ o < 0xA0) ((k.switchStore q).setRole q.spare 1) ((((k.switchStore q).switchShown q).setF (F.CORE_STATE q.spare) 3).noteMap) :=
      CellsKept.trans ((((((CellsKept.setF _ (f := F.CORE_LOGICAL q.spare) _ (by simp only [F.CORE_LOGICAL]; omega)).thenF (f := F.GLB_ME_PHYS q.logical) _
        (by simp only [F.GLB_ME_PHYS]; omega)).thenF (f := F.GLB_ME_MOVING q.logical) _ (by simp only [F.GLB_ME_MOVING]; omega)).thenF
        (f := F.GLB_ME_MARKED q.logical) _ (by simp only [F.GLB_ME_MARKED]; omega)).thenF (f := F.GLB_REPAIR_COUNTS 0) _ (by decide)).thenF
        (f := F.GLB_REPAIR_COUNTS 1) _ (by decide)) (Pkg.switchEnd_kept ((k.switchStore q).switchShown q) q.spare (by omega) (by decide))
    rw [Pkg.isRetired_kept afterRole (by omega), Pkg.isRetired_setRole_other _ _ hne, Pkg.isRetired_kept (P := fun _ => True) store trivial]
    exact hretired
  · rw [(Pkg.switchEnd_kept (P := (· = 0x1000008 + 0x40000 * q.core)) _ q.spare (by omega) (by omega)).getF rfl,
      ((k.switchStore q).switchShown_kept (P := (· = 0x1000008 + 0x40000 * q.core)) q (by omega) (by omega) (by omega) (by omega) (by omega)).getF rfl,
      (store (P := fun _ => True)).getF trivial]
    exact hstate
  · rw [(Pkg.switchEnd_kept (P := (· = 0xB8)) _ q.spare (by omega) (by decide)).getF rfl, Pkg.switchShown, Pkg.getF_inc_apart _ _ _ (by decide), Pkg.getF_inc_same _ _ rfl,
      Pkg.getF_setF_apart _ _ _ _ (Fld.apart_of_off (by simp only [F.GLB_REPAIR_COUNTS, F.GLB_ME_MARKED]; omega)),
      Pkg.getF_setF_apart _ _ _ _ (Fld.apart_of_off (by simp only [F.GLB_REPAIR_COUNTS, F.GLB_ME_MOVING]; omega)),
      Pkg.getF_setF_apart _ _ _ _ (Fld.apart_of_off (by simp only [F.GLB_REPAIR_COUNTS, F.GLB_ME_PHYS]; omega)),
      Pkg.getF_setF_apart _ _ _ _ (Fld.apart_of_off (by simp only [F.GLB_REPAIR_COUNTS, F.CORE_LOGICAL]; omega)),
      (Pkg.setRole_kept (P := (· = 0xB8)) _ q.spare 1 (by omega)).cells.getF rfl, (Pkg.switchStore_kept (P := (· = 0xB8)) hc (by omega)).getF rfl]
    rfl

end Switch

/-! ### The map record (R783, R784) -/

/-- The copy of the map record that is not in use. -/
def Pkg.mapTarget (k : Pkg) : Nat := match k.mapRecord with
  | some (i, _) => 0x20000 + (1 - i) * 0x10000
  | none => 0x20000

theorem Pkg.recordWritten_of_ok {k : Pkg} {b : Bytes} {rest : List Bytes} (hrecords : k.repair.records = b :: rest) (hretry : k.repair.retryAt = none) :
    k.recordWritten true = ((((((k.flashErase k.mapTarget 0x10000).flashWrite k.mapTarget b).setF F.GLB_MAP_SEQ (fieldAt b 8 4)).setF F.GLB_MAP_WRITE_STATUS 0).updRepair
      (fun r => { r with records := rest })).setF F.GLB_MAP_WRITE_PENDING (if rest.isEmpty then 0 else 1)) := by
  unfold Pkg.recordWritten Pkg.mapTarget
  rw [hrecords]
  dsimp only
  rw [if_neg (by rw [hretry]; exact Bool.false_ne_true), if_pos rfl]
  cases k.mapRecord <;> rfl

theorem Pkg.recordWritten_of_failed {k : Pkg} {b : Bytes} {rest : List Bytes} (hrecords : k.repair.records = b :: rest) (hretry : k.repair.retryAt = none) :
    k.recordWritten false = (k.updRepair (fun r => { r with retryAt := some (k.now + 20000000000) })).report F.GLB_MAP_WRITE_STATUS 0x5006 .package 0 0 := by
  unfold Pkg.recordWritten
  rw [hrecords]
  dsimp only
  rw [if_neg (by rw [hretry]; exact Bool.false_ne_true), if_neg Bool.false_ne_true]

/-! ### RETIRE (R780, Table 17-2) -/

theorem exec_retire_i3c (s : State) (p : PkgId) {core : Nat} (hcore : core < 64) (force : Bool) (t : Nat) :
    exec (.retire p .i3c core force t) s = .next (s.updMap p (fun k => (k.at t).retireCmd core force)) := by
  have short : core % 128 = core := Nat.mod_eq_of_lt (by omega)
  show Host.Outcome.next (s.updMap p (fun k => (k.at t).retireCmd (core % 128) force)) = _
  rw [short]

theorem Pkg.noteMap_pending (k : Pkg) : k.noteMap.getF F.GLB_MAP_WRITE_PENDING = 1 := Pkg.getF_raise_same _ _ rfl (Nat.le_refl 1)

/-- RETIRE tells its status. -/
def Pkg.sayRepair (k : Pkg) (c : Nat) (st : Status) : Pkg := k.report F.GLB_REPAIR_CODE st .core c 0

theorem Pkg.sayRepair_frame (k : Pkg) (c : Nat) (st : Status) : ErrOnly (k.setF F.GLB_REPAIR_CODE st) (k.sayRepair c st) := Pkg.report_frame ..

theorem Pkg.sayRepair_kept {P : Nat → Prop} (k : Pkg) (c : Nat) (st : Status) (hP : ∀ o, P o → o < 0x3000000 ∧ o ≠ 0xD8) : CellsKept P k (k.sayRepair c st) :=
  (CellsKept.setF k st fun h => (hP _ h).2 rfl).trans ((k.sayRepair_frame c st).cellsKept fun o ho => (hP o ho).1)

theorem Pkg.sayRepair_shows (k : Pkg) (c : Nat) (st : Status) : (k.sayRepair c st).getF F.GLB_REPAIR_CODE = st % 2 ^ 16 ∧ (k.sayRepair c st).repair = k.repair :=
  ⟨Pkg.getF_report_same k st .core c 0 (by decide) rfl, (k.sayRepair_frame c st).repair⟩

theorem Pkg.canMark.retireCmd {k : Pkg} {c g : Nat} (h : k.canMark c g) (hc : c < 64) (force : Bool) :
    k.retireCmd c force = (k.marked c g 5 force).sayRepair c 0 := by
  have notBusy : ¬ (k.repair.marks.any (fun m => m.1 == c) || k.repair.substs.any (fun (q : Subst) => q.core == c)) = true := by
    rw [h.marks, h.substs]
    exact Bool.false_ne_true
  have spares : ¬ ((k.spares (c / 16)).isEmpty && !force) = true := by
    rw [Bool.and_eq_true, List.isEmpty_iff]
    exact fun h' => h.spares h'.1
  unfold Pkg.retireCmd
  dsimp only
  rw [if_neg (by omega), if_neg (by rw [h.spare]; exact Bool.false_ne_true), if_neg (by rw [h.logical]; exact Bool.false_ne_true), if_neg notBusy, if_neg spares,
    h.trigger (by decide) (by decide), Pkg.sayRepair]

/-- A spare is retired by RETIRE. -/
def Pkg.spareGone (k : Pkg) (c : Nat) : Pkg := ((k.retireCore c 5).noteMap).sayRepair c 0

theorem Pkg.noteMap_said (j : Pkg) (c : Nat) {P : Nat → Prop} (hP : ∀ o, P o → o < 0x3000000 ∧ o ≠ 0xD8 ∧ o ≠ 0xA0) : CellsKept P j (j.noteMap.sayRepair c 0) :=
  (j.noteMap_kept fun h => (hP _ h).2.2 rfl).cells.trans (j.noteMap.sayRepair_kept c 0 fun o ho => ⟨(hP o ho).1, (hP o ho).2.1⟩)

theorem Pkg.spareGone_shows (k : Pkg) {c : Nat} (hc : c < 64) : ((k.spareGone c).isRetired c = true ∧ (k.spareGone c).isSpare c = false ∧
    (k.spareGone c).getF (F.CORE_STATE c) = 5 ∧ (k.spareGone c).getF F.GLB_REPAIR_CODE = 0 ∧ (k.spareGone c).getF F.GLB_MAP_WRITE_PENDING = 1) ∧
    CellsKept numberCells k (k.spareGone c) := by
  obtain ⟨hretired, hnot, hstate⟩ := k.retireCore_shows hc 5
  have retired := k.retireCore_kept c 5
  rw [Pkg.spareGone]
  generalize k.retireCore c 5 = j at hretired hnot hstate retired
  have kept := j.noteMap_said c (P := fun o => 0x80 ≤ o ∧ o < 0xA0) (by omega)
  refine ⟨⟨(Pkg.isRetired_kept kept (by omega)).trans hretired, (Pkg.isSpare_kept kept (by omega)).trans hnot, ?_, (Pkg.sayRepair_shows _ c 0).1, ?_⟩, ?_⟩
  · exact ((j.noteMap_said c (P := (· = 0x1000008 + 0x40000 * c)) (by omega)).getF rfl).trans hstate
  · exact ((Pkg.sayRepair_kept (P := (· = 0xA0)) _ c 0 (by omega)).getF rfl).trans j.noteMap_pending
  · exact (retired.mono fun o ho => ⟨.inl (by omega), by omega, by omega⟩).trans (j.noteMap_said c (by omega))

theorem Pkg.retireCmd_of_spare {k : Pkg} {c : Nat} (hc : c < 64) (hsubsts : k.repair.substs = []) (hspare : k.isSpare c = true) (force : Bool) :
    k.retireCmd c force = k.spareGone c := by
  unfold Pkg.retireCmd
  dsimp only
  rw [if_neg (by omega), if_pos hspare, Pkg.trigger_spare hsubsts hspare, Pkg.spareGone, Pkg.sayRepair]

theorem Pkg.retireCmd_of_unmapped {k : Pkg} {c : Nat} (hc : c < 64) (hspare : k.isSpare c = false) (hlogical : k.logicalOf c = none) (force : Bool) :
    k.retireCmd c force = k.sayRepair c 0x3005 := by
  unfold Pkg.retireCmd
  dsimp only
  rw [if_neg (by omega), if_neg (by rw [hspare]; exact Bool.false_ne_true), if_pos (by rw [hlogical]; rfl), Pkg.sayRepair]

/-! ### The obligation -/

theorem Pkg.logicalOf_lt {k : Pkg} {c g : Nat} (h : k.logicalOf c = some g) : g < 60 := by
  have small : k.logicalCores ≤ 60 := by unfold Pkg.logicalCores; split <;> decide
  unfold Pkg.logicalOf at h
  split at h
  · cases h
  · exact Nat.lt_of_lt_of_le (List.mem_range.mp (List.mem_of_find?_eq_some h)) small

theorem Pkg.marked_told (k : Pkg) (c : Nat) {g : Nat} (hg : g < 60) (force : Bool) :
    ((k.marked c g 5 force).sayRepair c 0).repair.marks = k.repair.marks ++ [(c, 5, force)] ∧
    ((k.marked c g 5 force).sayRepair c 0).getF (F.GLB_ME_MARKED g) = 1 ∧ ((k.marked c g 5 force).sayRepair c 0).getF F.GLB_REPAIR_CODE = 0 := by
  obtain ⟨hcode, hrepair⟩ := (k.marked c g 5 force).sayRepair_shows c 0
  obtain ⟨hmarks, hflag⟩ := k.marked_shows c g 5 force
  have kept := (k.marked c g 5 force).sayRepair_kept (P := numberCells) c 0 (by omega)
  exact ⟨(congrArg Repair.marks hrepair).trans hmarks, (kept.getF (by simp only [F.GLB_ME_MARKED]; omega)).trans hflag, hcode⟩

section Commands

variable {s : State} {p : PkgId} {t₀ : Nat} {k : Pkg} (hk : k = (s.pkg p).at t₀)

include hk

theorem vacant_of_kept {j : Pkg} (h : CellsKept numberCells k j) (g : Nat) (hg : g < 60) : j.getF (F.GLB_ME_VACANT g) = (s.pkg p).getF (F.GLB_ME_VACANT g) := by
  rw [h.vacant g hg, hk]
  rfl

theorem completes_playComplete {core : CoreId} {pl : Play} {result : Nat} (hp : k.play core = some pl) (hdrain : pl.draining = false)
    (hblock : pl.block = some (.stop result)) (hcmds : ∀ x ∈ pl.cmds, x.op = 0x52) (hmarks : k.repair.marks = []) :
    Completes (.playComplete p core t₀) s (fun t => (t.pkg p).play core = none) := by
  have frame := k.stopPlay_frame core.isLt pl result
  have ended : (k.stopPlay core pl result).play core = none := Pkg.endPlay_play _ core.isLt result none
  refine completes_of_updMap (j := k.stopPlay core pl result) rfl ?_ ?_ fun t ht => ?_
  · dsimp only
    rw [← hk, Pkg.completePlay_of_stop hp hdrain hblock hcmds, Pkg.drainPoint_of_none ((congrArg Repair.marks frame.repair).trans hmarks), ite_self]
  · exact vacant_of_kept hk (frame.cells.mono fun o ho => by unfold goKeeps seqKeeps; omega)
  · rw [ht]
    exact ended

theorem completes_shotClockExpire {core : CoreId} {pl : Play} (hp : k.play core = some pl) (hrun : k.shotPaused pl = false)
    (hdue : k.getF (F.CORE_SEQ_SHOT_LIMIT core) ≤ pl.shotCount k.now) :
    Completes (.shotClockExpire p core t₀) s (fun t => (t.pkg p).play core = none ∧ core.val ∈ (t.pkg p).coreDown ∧
      (t.pkg p).getF (F.CORE_STATE core) = 4 ∧ (t.pkg p).getF F.RST_CAUSE = 7 ∧ (t.pkg p).getF F.RST_SCOPE = 1 ∧
      (t.pkg p).getF F.RST_UNIT = core) := by
  obtain ⟨hplay, shows⟩ := Pkg.shotExpire_shows core.isLt hp hrun hdue
  refine completes_of_updPkg_eq (j := { k.shotExpire core with drains := (k.shotExpire core).drains.filter (fun (d : Drain) => !(d.scope == 1 && d.target == core.val)) })
    rfl ?_ fun t ht => ?_
  · dsimp only
    rw [← hk, if_pos (by rw [hp, hplay]; rfl)]
  · generalize k.shotExpire core = j at ht hplay shows
    rw [ht]
    exact ⟨hplay, shows⟩

theorem completes_lsZeroing {core : CoreId} (hdown : core.val ∈ k.coreDown) (hstate : k.getF (F.CORE_STATE core) = 4)
    (hreset : bit (k.getF F.RST_CLUSTER_RESET) (core / 16) = false) (hsubsts : k.repair.substs = []) (hmarks : k.repair.marks = []) :
    Completes (.lsZeroingComplete p core t₀) s (fun t => (t.pkg p).core core = {} ∧ core.val ∉ (t.pkg p).coreDown ∧
      (t.pkg p).getF (F.CORE_STATE core) = if k.isRetired core then 5 else if (k.logicalOf core).isSome then 3 else 2) := by
  have due : ¬ ((!k.coreDown.contains core.val || k.getF (F.CORE_STATE core) != 4 || bit (k.getF F.RST_CLUSTER_RESET) (core / 16)
      || k.repair.substs.any (fun (q : Subst) => q.core == core.val)) = true) := by
    rw [List.contains_iff_mem.mpr hdown, hstate, hreset, hsubsts]
    exact Bool.false_ne_true
  obtain ⟨hout, hshown, kept⟩ := (k.setCore core {}).coreOut_shows core
  refine completes_of_updMap (j := (k.setCore core {}).coreOut core) rfl ?_ ?_ fun t ht => ?_
  · dsimp only
    rw [← hk, if_neg due]
    exact Pkg.comeBack_of_unmarked (k := k.setCore core {}) hmarks core
  · exact vacant_of_kept hk (CellsKept.trans (.ofRegs (j := k.setCore core {}) rfl) (kept.mono fun o ho => by omega))
  · rw [ht]
    exact ⟨k.core_setCore_same core.isLt {}, hout, hshown⟩

theorem completes_ceSample_few (hvalid : k.getF F.HTM_VALID = 1) (ht₀ : t₀ % 7200000000000 = 0)
    (hfew : ∀ c, c < 64 → k.getF (F.CORE_LS_CE_COUNT c) < getPair k.repair.ceLast c + 1000) :
    Completes (.ceSample p t₀) s (fun t => (t.pkg p).repair.marks = k.repair.marks ∧
      ∀ c, c < 64 → getPair (t.pkg p).repair.ceLast c = k.getF (F.CORE_LS_CE_COUNT c)) := by
  obtain ⟨ls, hfold, -, hin⟩ := Pkg.sampleCores_of_few (k := k) List.nodup_range fun c hc => hfew c (List.mem_range.mp hc)
  have due : ¬ ((!k.flag F.HTM_VALID || t₀ % 7200000000000 != 0) = true) := by
    rw [(k.flag_iff _).mpr hvalid, ht₀]
    decide
  refine completes_of_updMap (exec_ceSample s p t₀) (by rw [← hk, if_neg due, hfold]) ?_ fun t ht => ?_
  · exact vacant_of_kept hk (.ofRegs (j := k.withSamples ls) rfl)
  · rw [ht]
    exact ⟨rfl, fun c hc => hin c (List.mem_range.mpr hc)⟩

theorem completes_ceSample_one {core : CoreId} {g : Nat} (hvalid : k.getF F.HTM_VALID = 1) (ht₀ : t₀ % 7200000000000 = 0)
    (hfew : ∀ c, c < 64 → c ≠ core.val → k.getF (F.CORE_LS_CE_COUNT c) < getPair k.repair.ceLast c + 1000)
    (hmany : getPair k.repair.ceLast core + 1000 ≤ k.getF (F.CORE_LS_CE_COUNT core)) (hcan : k.canMark core g) :
    Completes (.ceSample p t₀) s (fun t => (t.pkg p).repair.marks = [(core.val, 4, false)] ∧ (t.pkg p).getF (F.GLB_ME_MARKED g) = 1) := by
  obtain ⟨ls, ls', hfold⟩ := Pkg.sampleCores_of_one core.isLt hcan hfew hmany
  obtain ⟨hmarks, hflag⟩ := (k.withSamples ls).marked_shows core g 4 false
  have due : ¬ ((!k.flag F.HTM_VALID || t₀ % 7200000000000 != 0) = true) := by
    rw [(k.flag_iff _).mpr hvalid, ht₀]
    decide
  refine completes_of_updMap (exec_ceSample s p t₀) (by rw [← hk, if_neg due, hfold]) ?_ fun t ht => ?_
  · intro n _
    have : k.getF (F.GLB_ME_VACANT n) = (s.pkg p).getF (F.GLB_ME_VACANT n) := by rw [hk]; rfl
    exact ((k.withSamples ls).vacant_marked core g 4 false n).trans this
  · rw [ht]
    have none : (k.withSamples ls).repair.marks = [] := hcan.marks
    rw [none] at hmarks
    exact ⟨hmarks, hflag⟩

theorem completes_retire_marked {core g : Nat} {force : Bool} (hcore : core < 64) (hcan : k.canMark core g) :
    Completes (.retire p .i3c core force t₀) s (fun t => (t.pkg p).repair.marks = [(core, 5, force)] ∧
      (t.pkg p).getF (F.GLB_ME_MARKED g) = 1 ∧ (t.pkg p).getF F.GLB_REPAIR_CODE = 0) := by
  obtain ⟨hmarks, shows⟩ := k.marked_told core (Pkg.logicalOf_lt hcan.logical) force
  rw [hcan.marks] at hmarks
  refine completes_of_updMap (exec_retire_i3c s p hcore force t₀) (by rw [← hk, hcan.retireCmd hcore]) ?_ fun t ht => ?_
  · intro n hn
    have : k.getF (F.GLB_ME_VACANT n) = (s.pkg p).getF (F.GLB_ME_VACANT n) := by rw [hk]; rfl
    exact (((k.marked core g 5 force).sayRepair_kept (P := numberCells) core 0 (by omega)).vacant n hn).trans ((k.vacant_marked core g 5 force n).trans this)
  · rw [ht]
    exact ⟨hmarks, shows⟩

theorem completes_retire_spare {core : Nat} {force : Bool} (hcore : core < 64) (hsubsts : k.repair.substs = []) (hspare : k.isSpare core = true) :
    Completes (.retire p .i3c core force t₀) s (fun t => (t.pkg p).isRetired core = true ∧ (t.pkg p).isSpare core = false ∧
      (t.pkg p).getF (F.CORE_STATE core) = 5 ∧ (t.pkg p).getF F.GLB_REPAIR_CODE = 0 ∧ (t.pkg p).getF F.GLB_MAP_WRITE_PENDING = 1) := by
  obtain ⟨j, hj⟩ : ∃ j, j = k.spareGone core := ⟨_, rfl⟩
  obtain ⟨shows, kept⟩ := k.spareGone_shows hcore
  rw [← hj] at shows kept
  refine completes_of_updMap (exec_retire_i3c s p hcore force t₀) (by rw [← hk, Pkg.retireCmd_of_spare hcore hsubsts hspare, ← hj]) (vacant_of_kept hk kept) fun t ht => ?_
  rw [ht]
  exact shows

theorem completes_retire_unmapped {core : Nat} {force : Bool} (hcore : core < 64) (hspare : k.isSpare core = false) (hlogical : k.logicalOf core = none) :
    Completes (.retire p .i3c core force t₀) s (fun t => (t.pkg p).getF F.GLB_REPAIR_CODE = 0x3005 ∧ (t.pkg p).repair = k.repair) := by
  refine completes_of_updMap (exec_retire_i3c s p hcore force t₀) (by rw [← hk, Pkg.retireCmd_of_unmapped hcore hspare hlogical]) ?_ fun t ht => ?_
  · exact vacant_of_kept hk (k.sayRepair_kept core 0x3005 (by omega))
  · rw [ht]
    exact k.sayRepair_shows core 0x3005

theorem completes_copyDone {core : CoreId} {q : Subst} (hsubsts : k.repair.substs = [q]) (hcore : q.core = core.val) (hcopying : q.copying = true)
    (hcopy : q.copy = true) (hs : q.spare < 64) (hne : q.spare ≠ core.val) (hl : q.logical < 60)
    (hreset : bit (k.getF F.RST_CLUSTER_RESET) (q.spare / 16) = false) :
    Completes (.substitutionCopyDone p core t₀) s (fun t => (t.pkg p).repair.substs = [] ∧
      ((t.pkg p).core q.spare).ls = (k.core core).ls ∧ (t.pkg p).getF (F.GLB_ME_PHYS q.logical) = q.spare ∧
      (t.pkg p).getF (F.CORE_STATE q.spare) = 3 ∧ (t.pkg p).getF (F.CORE_LOGICAL q.spare) = q.logical ∧
      (t.pkg p).isRetired core = true ∧ (t.pkg p).getF (F.CORE_STATE core) = 5 ∧
      (t.pkg p).getF (F.GLB_REPAIR_COUNTS 0) = min (2 ^ 64 - 1) (k.getF (F.GLB_REPAIR_COUNTS 0) + 1)) := by
  have found : k.repair.substs.find? (fun (q : Subst) => q.core == core.val && q.copying) = some q := by
    rw [hsubsts, List.find?_cons, hcore, hcopying, beq_self_eq_true]
    rfl
  refine completes_of_updPkg_eq (j := k.switchCore q) rfl ?_ fun t ht => ?_
  · dsimp only
    rw [← hk, found]
  · rw [ht, ← hcore]
    exact Pkg.switchCore_shows hcopy (hcore ▸ core.isLt) hs (hcore ▸ hne) hl hreset hsubsts

theorem completes_recordWritten {b : Bytes} {rest : List Bytes} (hrecords : k.repair.records = b :: rest) (hretry : k.repair.retryAt = none) :
    Completes (.mapRecordWriteDone p true t₀) s (fun t => (t.pkg p).repair.records = rest ∧
      (t.pkg p).getF F.GLB_MAP_SEQ = fieldAt b 8 4 ∧ (t.pkg p).getF F.GLB_MAP_WRITE_STATUS = 0 ∧
      (t.pkg p).getF F.GLB_MAP_WRITE_PENDING = (if rest.isEmpty then 0 else 1) ∧
      (t.pkg p).flash = ((k.flashErase k.mapTarget 0x10000).flashWrite k.mapTarget b).flash) := by
  refine completes_of_updPkg_eq (f := fun k' => (k'.at t₀).recordWritten true) rfl
    ((congrArg (Pkg.recordWritten · true) hk.symm).trans (Pkg.recordWritten_of_ok hrecords hretry)) fun t ht => ?_
  rw [ht]
  refine ⟨rfl, ?_, ?_, ?_, rfl⟩
  · rw [Pkg.getF_setF_apart _ _ _ _ (by decide), Pkg.getF_updRepair, Pkg.getF_setF_apart _ _ _ _ (by decide), Pkg.getF_setF_same _ _ _ rfl]
    exact Nat.mod_eq_of_lt (fieldAt_lt_pow b 8 4)
  · rw [Pkg.getF_setF_apart _ _ _ _ (by decide), Pkg.getF_updRepair, Pkg.getF_setF_same _ _ _ rfl]
    rfl
  · rw [Pkg.getF_setF_same _ _ _ rfl]
    split <;> rfl

theorem completes_recordFailed {b : Bytes} {rest : List Bytes} (hrecords : k.repair.records = b :: rest) (hretry : k.repair.retryAt = none) :
    Completes (.mapRecordWriteDone p false t₀) s (fun t => (t.pkg p).repair.records = b :: rest ∧
      (t.pkg p).repair.retryAt = some (k.now + 20000000000) ∧ (t.pkg p).getF F.GLB_MAP_WRITE_STATUS = 0x5006 ∧ (t.pkg p).flash = k.flash) := by
  refine completes_of_updPkg_eq (f := fun k' => (k'.at t₀).recordWritten false) rfl
    ((congrArg (Pkg.recordWritten · false) hk.symm).trans (Pkg.recordWritten_of_failed hrecords hretry)) fun t ht => ?_
  have frame := Pkg.report_frame (k.updRepair (fun r => { r with retryAt := some (k.now + 20000000000) })) F.GLB_MAP_WRITE_STATUS 0x5006 .package 0 0
  rw [ht]
  exact ⟨(congrArg Repair.records frame.repair).trans hrecords, congrArg Repair.retryAt frame.repair, Pkg.getF_report_same _ _ _ _ _ (by decide) rfl, frame.flash⟩

theorem completes_mapWriteRetry {r : Nat} (hretry : k.repair.retryAt = some r) (hdue : r ≤ k.now) :
    Completes (.mapWriteRetry p t₀) s (fun t => (t.pkg p).repair.retryAt = none) := by
  refine completes_of_updPkg_eq (j := k.updRepair (fun r => { r with retryAt := none })) rfl ?_ fun t ht => ?_
  · dsimp only
    rw [← hk, hretry]
    exact if_pos hdue
  · rw [ht]
    rfl

end Commands

/-- Settles O40: each command by what its operation on the package leaves. -/
theorem repairActs : Obligations.RepairActs := by
  intro s p t₀
  obtain ⟨k, hk⟩ : ∃ k, k = (s.pkg p).at t₀ := ⟨_, rfl⟩
  rw [← hk]
  refine ⟨?_, ?_, ?_, ?_, ?_, ?_, ?_, ?_, ?_, ?_, ?_, ?_⟩
  · exact fun core pl result hp hdrain hblock hcmds hmarks => completes_playComplete hk hp hdrain hblock hcmds hmarks
  · exact fun core pl hp hrun hdue => completes_shotClockExpire hk hp hrun hdue
  · exact fun core hdown hstate hreset hsubsts hmarks => completes_lsZeroing hk hdown hstate hreset hsubsts hmarks
  · exact fun hvalid ht₀ hfew => completes_ceSample_few hk hvalid ht₀ hfew
  · exact fun core g hvalid ht₀ hfew hmany hsubsts hmarks hspare hlogical hspares hplay =>
      completes_ceSample_one hk hvalid ht₀ hfew hmany ⟨hsubsts, hmarks, hspare, hlogical, hspares, hplay⟩
  · exact fun core g force hcore hsubsts hmarks hspare hlogical hspares hplay =>
      completes_retire_marked hk hcore ⟨hsubsts, hmarks, hspare, hlogical, hspares, hplay⟩
  · exact fun core force hcore hsubsts hspare => completes_retire_spare hk hcore hsubsts hspare
  · exact fun core force hcore hspare hlogical => completes_retire_unmapped hk hcore hspare hlogical
  · exact fun core q hsubsts hcore hcopying hcopy hs hne hl hreset => completes_copyDone hk hsubsts hcore hcopying hcopy hs hne hl hreset
  · exact fun b rest hrecords hretry => completes_recordWritten hk hrecords hretry
  · exact fun b rest hrecords hretry => completes_recordFailed hk hrecords hretry
  · exact fun r hretry hdue => completes_mapWriteRetry hk hretry hdue

end Sys2Proof.Machine
end

section
/-! PROOFS. Actions of the rack (R972, Table 20-12): what each does when it is heard; O51. -/

namespace Sys2Proof.Machine

theorem completes_of_heard {c : Instr} {s : State} {P : State → Prop} {f : State → State} (h : s.paired = false ∨ s.primary.isSome = true)
    (hexec : exec c s = .next (s.asAction f)) (hP : P (f (s.answer 0))) : Completes c s P :=
  ⟨_, hexec, (State.asAction_of_primary h f).symm ▸ hP⟩

theorem State.pkg_answer (s : State) (st : Status) (p : PkgId) : (s.answer st).pkg p = s.pkg p := rfl

/-! ### Packages -/

section Packages

variable {s : State} {p : PkgId} {t₀ : Nat} {k : Pkg} (hk : k = (s.pkg p).at t₀) (heard : s.paired = false ∨ s.primary.isSome = true)

/-- An action at one package whose status its register shows. -/
theorem completes_answered {c : Instr} {f : Pkg → Pkg} {g : Fld} {P : State → Prop} (heard : s.paired = false ∨ s.primary.isSome = true)
    (hexec : exec c s = .next (s.asAction (fun s => (s.updPkg p f).answer (((s.updPkg p f).pkg p).getF g))))
    (h : ∀ t : State, t.pkg p = f (s.pkg p) → t.action = (f (s.pkg p)).getF g → P t) : Completes c s P := by
  refine completes_of_heard heard hexec (h _ ?_ ?_)
  · rw [State.pkg_answer, State.pkg_updPkg_same, State.pkg_answer]
  · show (((s.answer 0).updPkg p f).pkg p).getF g = _
    rw [State.pkg_updPkg_same, State.pkg_answer]

theorem exec_redfishRetire (s : State) (p : PkgId) {core : Nat} (hcore : core < 64) (force : Bool) (t : Nat) : exec (.redfishRetire p core force t) s =
    .next (s.asAction (fun s => (s.updMap p (fun k => (k.at t).retireCmd core force)).answer
      (((s.updMap p (fun k => (k.at t).retireCmd core force)).pkg p).getF F.GLB_REPAIR_CODE))) := by
  have short : core % 128 = core := Nat.mod_eq_of_lt (by omega)
  show Host.Outcome.next (s.asAction (fun s => (s.updMap p (fun k => (k.at t).retireCmd (core % 128) force)).answer
      (((s.updMap p (fun k => (k.at t).retireCmd (core % 128) force)).pkg p).getF F.GLB_REPAIR_CODE))) = _
  rw [short]

include hk heard

theorem completes_redfishRetire {core : Nat} {force : Bool} (hcore : core < 64) {j : Pkg} (hrun : k.retireCmd core force = j) (hkept : CellsKept numberCells k j) :
    Completes (.redfishRetire p core force t₀) s (fun t => t.action = j.getF F.GLB_REPAIR_CODE ∧ t.pkg p = { j with notices := [] }) := by
  have ran : (((s.answer 0).pkg p).at t₀).retireCmd core force = j := by rw [State.pkg_answer, ← hk, hrun]
  have gone : ((s.answer 0).updMap p (fun k => (k.at t₀).retireCmd core force)).pkg p = { j with notices := [] } := by
    rw [State.pkg_updMap_of_vacant, ran]
    rw [ran]
    exact vacant_of_kept hk hkept
  refine completes_of_heard heard (exec_redfishRetire s p hcore force t₀) ⟨?_, ?_⟩
  · show (((s.answer 0).updMap p (fun k => (k.at t₀).retireCmd core force)).pkg p).getF F.GLB_REPAIR_CODE = _
    rw [gone, Pkg.getF_notices]
  · rw [State.pkg_answer, gone]

theorem redfishThermalRelease_refused (h : k.getF F.THM_SUP_VALID = 0 ∨ k.getF F.TH_TARGET ≤ k.getF F.THM_HOT_TJ) :
    Completes (.redfishThermalRelease p t₀) s (fun t => t.action = 0x3A02 ∧ (t.pkg p).getF F.THM_LEVEL = k.getF F.THM_LEVEL) := by
  refine completes_answered (p := p) (f := fun k => (k.at t₀).thermalRelease) (g := F.THM_REL_STATUS) heard rfl fun t ht haction => ?_
  rw [haction, ht, ← hk, Pkg.thermalRelease_refused h, Pkg.getF_report_same _ _ _ _ _ (by decide) rfl, Pkg.getF_report (g := F.THM_LEVEL) (hg := by decide),
    Pkg.getF_setF_apart _ _ _ _ (by decide)]
  exact ⟨rfl, rfl⟩

theorem redfishThermalRelease_held (hvalid : k.getF F.THM_SUP_VALID = 1) (hcool : k.getF F.THM_HOT_TJ < k.getF F.TH_TARGET) (hlevel : k.getF F.THM_LEVEL = 3) :
    Completes (.redfishThermalRelease p t₀) s (fun t => t.action = 0 ∧ (t.pkg p).getF F.THM_LEVEL = 0) := by
  have same : exec (.thermalRelease p .i3c t₀) s = .next (s.updPkg p (fun k => (k.at t₀).thermalRelease)) := exec_thermalRelease s p t₀
  obtain ⟨t', hexec, hstatus, hlow, -⟩ := thermalRelease_completes (s := s) (p := p) (t₀ := t₀) (hk ▸ hvalid) (hk ▸ hcool) (hk ▸ hlevel)
  have shown : t'.pkg p = (((s.pkg p).at t₀).thermalRelease) := by
    have : s.updPkg p (fun k => (k.at t₀).thermalRelease) = t' := Host.Outcome.next.inj (same.symm.trans hexec)
    rw [← this, State.pkg_updPkg_same]
  refine completes_answered (p := p) (f := fun k => (k.at t₀).thermalRelease) (g := F.THM_REL_STATUS) heard rfl fun t ht haction => ?_
  rw [haction, ht, ← shown]
  exact ⟨hstatus, hlow⟩

end Packages

/-! ### Resets (R726, R744, R865) -/

/-- The whole package lies in a package's or a rack's scope alone. -/
theorem Pkg.scopeWithin_whole (k j : Pkg) (o : Nat × Nat) : k.scopeWithin (4, 0) o = j.scopeWithin (4, 0) o := by
  obtain ⟨a, b⟩ := o
  match a with
  | 0 | 1 | 2 | 3 | 4 | 5 => rfl
  | n + 6 => rfl

theorem Pkg.inReset_whole {k j : Pkg} (hhold : j.hold = k.hold) (hlink : j.linkHold = k.linkHold) (hreleases : j.releases = k.releases)
    (hreset : j.getF F.RST_CLUSTER_RESET = k.getF F.RST_CLUSTER_RESET) : j.inReset 4 0 = k.inReset 4 0 := by
  unfold Pkg.inReset
  rw [hhold, hlink, hreleases, hreset]
  simp only [Pkg.scopeWithin_whole j k]
  rfl

/-- A reset command at once, with its time register written. -/
def Pkg.resetOrdered (k : Pkg) (ht : Nat) : Pkg := (k.setF F.RST_CMD_HT ht).setF F.RST_CMD_STATUS 0

theorem Pkg.resetCovers_ordered (k : Pkg) (ht : Nat) : (k.resetOrdered ht).resetCovers 4 0 = k.resetCovers 4 0 := by
  have reset : (k.resetOrdered ht).getF F.RST_CLUSTER_RESET = k.getF F.RST_CLUSTER_RESET := by
    rw [Pkg.resetOrdered, Pkg.getF_setF_apart _ _ _ _ (by decide), Pkg.getF_setF_apart _ _ _ _ (by decide)]
  unfold Pkg.resetCovers
  rw [Pkg.inReset_whole (k := k) (j := k.resetOrdered ht) rfl rfl rfl reset]
  simp only [Pkg.scopeWithin_whole (k.resetOrdered ht) k]
  rfl

theorem Pkg.resetCmd_atOnce {k : Pkg} (ht : Nat) (hcovers : k.resetCovers 4 0 = false) :
    (k.setF F.RST_CMD_HT ht).resetCmd 4 0 false true = (k.resetOrdered ht).beginDrain 4 0 4 0 := by
  unfold Pkg.resetCmd
  rw [if_neg (by decide)]
  dsimp only
  rw [if_pos (by decide), ← Pkg.resetOrdered]
  exact if_neg (by rw [k.resetCovers_ordered, hcovers]; decide)

theorem Pkg.resetCmd_invalid (k : Pkg) (scope target : Nat) (at_ : Bool) :
    k.resetCmd scope target at_ false = k.report F.RST_CMD_STATUS 0x3004 .package 0 scope := if_pos rfl

/-- R744: a reset command for a Hall Time to come waits. -/
theorem Pkg.resetCmd_waits {k : Pkg} {scope ht : Nat} (target : Nat) (hnow : k.now < ht) (hht : ht < 2 ^ 64) :
    (k.setF F.RST_CMD_HT ht).resetCmd scope target true true = { k.resetOrdered ht with resetsAt := k.resetsAt ++ [(scope, target, ht)] } := by
  have time : (k.resetOrdered ht).getF F.RST_CMD_HT = ht := by
    rw [Pkg.resetOrdered, Pkg.getF_setF_apart _ _ _ _ (by decide), Pkg.getF_setF_same _ _ _ rfl]
    exact Nat.mod_eq_of_lt hht
  unfold Pkg.resetCmd
  rw [if_neg (by decide)]
  dsimp only
  rw [if_neg (by decide), ← Pkg.resetOrdered, time]
  exact if_neg (Nat.not_le.mpr hnow)

theorem Pkg.beginDrain_drains (k : Pkg) (scope target cause loc : Nat) :
    (k.beginDrain scope target cause loc).drains = (k.drainNoted scope target cause loc).drains := by
  have closed (j : Pkg) : (j.slotsClosed j scope target).drains = j.drains := foldl_keeps (v := Pkg.drains) _ _ fun _ _ _ => rfl
  rw [Pkg.beginDrain_eq]
  obtain ⟨r, n, cs, f, w, sm, fo, ar, e⟩ := (Pkg.coresDrained_frame ((k.drainNoted scope target cause loc).slotsClosed (k.drainNoted scope target cause loc) scope target)
    scope target).fields
  rw [e]
  exact closed _

/-- A reset of rack scope for a Hall Time, at every package. -/
def State.resetRack (s : State) (ht t : Nat) : State :=
  (List.range 72).foldl (fun s q => s.updNat q (fun k => ((k.at t).setF F.RST_CMD_HT ht).resetCmd 5 0 true true)) s

theorem State.pkg_resetRack (s : State) (ht t : Nat) (p : PkgId) :
    (s.resetRack ht t).pkg p = (((s.pkg p).at t).setF F.RST_CMD_HT ht).resetCmd 5 0 true true := by
  rw [State.resetRack, State.pkg_foldl_updNat List.nodup_range, if_pos (List.mem_range.mpr p.isLt)]

theorem State.resetRack_action (s : State) (ht t : Nat) : (s.resetRack ht t).action = s.action := by
  have only : s.PkgsOnly (s.resetRack ht t) := .foldl _ (fun s q => .updNat s q _) _
  obtain ⟨ps, e⟩ := only
  rw [e]

section Resets

variable {s : State} {p : PkgId} {t₀ : Nat} {k : Pkg} (hk : k = (s.pkg p).at t₀) (heard : s.paired = false ∨ s.primary.isSome = true)

include hk heard

theorem redfishReset_package (ht : Nat) (hcovers : k.resetCovers 4 0 = false) : Completes (.redfishReset p 4 0 false ht t₀) s (fun t => t.action = 0 ∧
    ∃ d ∈ (t.pkg p).drains, d.scope = 4 ∧ d.cause = 4 ∧ d.began = k.now) := by
  refine completes_answered (p := p) (f := fun k => ((k.at t₀).setF F.RST_CMD_HT ht).resetCmd 4 0 false true) (g := F.RST_CMD_STATUS) heard rfl fun t hpkg haction => ?_
  rw [← hk, Pkg.resetCmd_atOnce ht hcovers] at hpkg haction
  constructor
  · rw [haction, ((k.resetOrdered ht).beginDrain_kept 4 0 4 0).getF (by decide), Pkg.resetOrdered, Pkg.getF_setF_same _ _ _ rfl]
    rfl
  · rw [hpkg, Pkg.beginDrain_drains]
    exact ⟨_, List.mem_append_right _ (List.mem_singleton.mpr rfl), rfl, rfl, rfl⟩

theorem redfishReset_noCore (ht : Nat) {core : Nat} (hcore : 64 ≤ core) : Completes (.redfishReset p 1 core false ht t₀) s (fun t =>
    t.action = 0x3004 ∧ (t.pkg p).drains = k.drains) := by
  have unknown : decide (core < 64) = false := decide_eq_false (Nat.not_lt.mpr hcore)
  refine completes_answered (p := p) (f := fun k => ((k.at t₀).setF F.RST_CMD_HT ht).resetCmd 1 core false (decide (core < 64))) (g := F.RST_CMD_STATUS)
    heard rfl fun t hpkg haction => ?_
  rw [← hk, unknown, Pkg.resetCmd_invalid] at hpkg haction
  rw [haction, hpkg, Pkg.getF_report_same _ _ _ _ _ (by decide) rfl]
  obtain ⟨⟨r, n, e⟩, -⟩ := Pkg.report_frame (k.setF F.RST_CMD_HT ht) F.RST_CMD_STATUS 0x3004 .package 0 1
  rw [e]
  exact ⟨rfl, rfl⟩

theorem redfishReset_rack (hpaired : s.paired = true) {ht : Nat} (hnow : k.now < ht) (hht : ht < 2 ^ 64) :
    Completes (.redfishReset p 5 0 true ht t₀) s (fun t => t.action = 0 ∧ (t.pkg p).resetsAt = k.resetsAt ++ [(5, 0, ht)] ∧ (t.pkg p).drains = k.drains) := by
  have known : (s.answer 0).paired = true := hpaired
  have slotless : ¬ ((5 : Fin 6).val = 3 ∧ (!((s.answer 0).pkg p).slotHeld 0) = true) := fun h => absurd h.1 (by decide)
  have reached : ((s.answer 0).resetRack ht t₀).pkg p = { k.resetOrdered ht with resetsAt := k.resetsAt ++ [(5, 0, ht)] } := by
    rw [State.pkg_resetRack, State.pkg_answer, ← hk, Pkg.resetCmd_waits 0 hnow hht]
  refine ⟨(s.answer 0).resetRack ht t₀, ?_, State.resetRack_action _ ht t₀, by rw [reached], by rw [reached]; rfl⟩
  refine congrArg Host.Outcome.next ((State.asAction_of_primary heard _).trans ?_)
  rw [if_pos (.inr rfl), if_neg (by rw [known]; decide), if_neg slotless]
  rfl

omit hk in
theorem redfishReset_standalone (hpaired : s.paired = false) {scope : Fin 6} (hscope : scope = 3 ∨ scope = 5) (target ht : Nat) (at_ : Bool) :
    Completes (.redfishReset p scope target at_ ht t₀) s (fun t => t.action = 0x3B02 ∧ t.pkgs = s.pkgs) := by
  have wide : scope.val = 3 ∨ scope.val = 5 := hscope.imp (congrArg Fin.val) (congrArg Fin.val)
  have alone : (s.answer 0).paired = false := hpaired
  refine ⟨_, congrArg Host.Outcome.next (State.asAction_of_primary heard _), ?_⟩
  dsimp only
  rw [if_pos wide, if_pos (by rw [alone]; rfl)]
  exact ⟨rfl, rfl⟩

end Resets

/-! ### Ports (R420, R421, R435) -/

section Ports

variable {s : State} {p : PkgId} {t₀ : Nat} {k : Pkg} (hk : k = (s.pkg p).at t₀) (heard : s.paired = false ∨ s.primary.isSome = true) {port : PortId}

include hk heard

theorem redfishClearFailed_inWindow (hmaint : k.getF F.LNK_MAINT_EN = 1) (hfailed : k.getF (F.LNK_ST port) = 7) :
    Completes (.redfishClearFailed p port t₀) s (fun t => t.action = 0 ∧ (t.pkg p).getF (F.LNK_ST port) = 1) := by
  have opened : ((s.answer 0).pkg p).flag F.LNK_MAINT_EN = true := (Pkg.flag_iff _ _).mpr (by rw [hk] at hmaint; exact hmaint)
  have cleared : k.clearFailed port = k.enterDetect port := by
    unfold Pkg.clearFailed
    rw [if_neg (by rw [(Pkg.flag_iff _ _).mpr hmaint]; decide), if_pos (show k.linkSt port = 7 from hfailed)]
  refine completes_of_heard heard rfl ?_
  dsimp only
  rw [opened, if_neg (by decide), State.pkg_updPkg_same, State.pkg_answer, ← hk, cleared]
  exact ⟨rfl, (k.enterDetect_detects port.isLt).1⟩

theorem redfishClearFailed_outside (hmaint : k.getF F.LNK_MAINT_EN = 0) : Completes (.redfishClearFailed p port t₀) s (fun t =>
    (t.pkg p).getF (F.LNK_ST port) = k.getF (F.LNK_ST port) ∧ (t.pkg p).getF (F.LNK_CLEAR_REFUSED port) = 1 ∧ t.fresh = s.fresh + 1) := by
  have closed : ((s.answer 0).pkg p).flag F.LNK_MAINT_EN = false :=
    (Pkg.flag_eq_false_iff _ _).mpr (by rw [hk] at hmaint; show (s.pkg p).getF F.LNK_MAINT_EN ≠ 1; rw [show (s.pkg p).getF F.LNK_MAINT_EN = 0 from hmaint]; decide)
  have refused : k.clearFailed port = k.raise (F.LNK_CLEAR_REFUSED port) := by
    unfold Pkg.clearFailed
    rw [if_pos (by rw [(Pkg.flag_eq_false_iff _ _).mpr (by rw [hmaint]; decide)]; rfl)]
  refine completes_of_heard heard rfl ?_
  dsimp only
  rw [closed, if_pos (by decide)]
  have shown : (((s.answer 0).updPkg p (fun k => (k.at t₀).clearFailed port)).answerOpen.pkg p) = k.raise (F.LNK_CLEAR_REFUSED port) := by
    show (((s.answer 0).updPkg p (fun k => (k.at t₀).clearFailed port)).pkg p) = _
    rw [State.pkg_updPkg_same, State.pkg_answer, ← hk, refused]
  rw [shown]
  exact ⟨Pkg.getF_raise_apart _ _ _ (Fld.apart_of_off (by simp only [F.LNK_CLEAR_REFUSED, F.LNK_ST]; omega)), Pkg.getF_raise_same _ _ rfl (Nat.le_refl 1), rfl⟩

omit hk in
theorem redfishLocate_completes : Completes (.redfishLocate p port t₀) s (fun t => t.action = 0 ∧ (t.pkg p).getF (F.LNK_LOCATE port) = 1 ∧
    (t.pkg p).links = (s.pkg p).links) := by
  refine completes_of_heard heard rfl ?_
  rw [State.pkg_updPkg_same]
  exact ⟨rfl, Pkg.getF_raise_same _ _ rfl (Nat.le_refl 1), rfl⟩

end Ports

/-! ### Power (Table 20-12) -/

section Power

variable {s : State} {p : PkgId} {t₀ : Nat}

theorem powerPackage_off (heard : s.paired = false ∨ s.primary.isSome = true) (hnone : s.primary = none) : Completes (.powerPackage p false t₀) s (fun t =>
    t.action = 0 ∧ (t.pkg p).rails.mode ≠ .on ∧ (t.pkg p).rails.mode ≠ .up ∧ (t.pkg p).rails.retryAt = none) := by
  have alone : (s.answer 0).primary = none := hnone
  refine completes_of_heard heard rfl ?_
  dsimp only
  rw [alone]
  dsimp only
  rw [if_neg Bool.false_ne_true, State.pkg_updPkg_same]
  exact ⟨rfl, Pkg.powerOff_shows _⟩

theorem powerPackage_asked {u : Nat} (hprimary : s.primary = some u) (on : Bool) : Completes (.powerPackage p on t₀) s (fun t => t.pkgs = s.pkgs ∧
    (s.bus.nextCmd, trayOf p) ∈ t.bus.cmds ∧ ∃ m, t.bus.last = some m ∧ m.type = 0x10 ∧ m.node = u + 1) := by
  have led : (s.answer 0).primary = some u := hprimary
  refine completes_of_heard (.inr (by rw [hprimary]; rfl)) rfl ?_
  dsimp only
  rw [led]
  exact ⟨rfl, List.mem_cons_self, _, State.busSend_last .., rfl, rfl⟩

end Power

/-! ### Maintenance windows (R890) -/

theorem State.primary_updUmp (s : State) (u : Nat) {f : Umpire → Umpire} (hline : ∀ x, (f x).line = x.line) : (s.updUmp u f).primary = s.primary := by
  have lines (v : Nat) (hv : v < 2) : ((s.updUmp u f).ump v).line = (s.ump v).line := by
    by_cases h : v = u
    · subst h
      rw [s.ump_updUmp_same hv]
      exact hline _
    · rw [s.ump_updUmp_other h]
  rw [State.primary_eq, State.primary_eq, lines 0 (by decide), lines 1 (by decide)]

theorem State.updMir_eq {s : State} {u : Nat} (h : s.primary = some u) (f : Mirror → Mirror) :
    s.updMir f = s.updUmp u (fun x => { x with mir := f x.mir }) := by
  unfold State.updMir
  rw [h]

theorem State.mir_eq {s : State} {u : Nat} (h : s.primary = some u) : s.mir = (s.ump u).mir := by
  rw [State.mir, h]
  exact s.mirrorOf_eq (State.primary_lt h)

theorem State.mir_congr {s t : State} (h : t.umpires = s.umpires) : t.mir = s.mir := by
  unfold State.mir State.mirrorOf
  rw [State.primary_congr h, h]

theorem State.mir_updMir {s : State} {u : Nat} (h : s.primary = some u) (f : Mirror → Mirror) : (s.updMir f).mir = f s.mir := by
  have led : (s.updUmp u (fun x => { x with mir := f x.mir })).primary = some u :=
    (s.primary_updUmp u (f := fun x => { x with mir := f x.mir }) fun _ => rfl).trans h
  rw [State.updMir_eq h, State.mir_eq led, State.mir_eq h, s.ump_updUmp_same (State.primary_lt h)]

theorem State.sendMaint_frame (s : State) (t : Nat) : ∃ b, s.sendMaint t = { s with bus := b } := by
  unfold State.sendMaint
  split
  · exact ⟨_, rfl⟩
  · exact ⟨s.bus, rfl⟩

theorem State.pkg_setMaint (s : State) (on : Bool) (q : PkgId) :
    (s.setMaint on).pkg q = if (s.pkg q).hubOn then (s.pkg q).setF F.LNK_MAINT_EN (if on then 1 else 0) else s.pkg q := State.pkg_mapPkgs s q _

theorem State.maint_setMaint (s : State) (on : Bool) {q : PkgId} (h : (s.pkg q).hubOn = true) :
    ((s.setMaint on).pkg q).getF F.LNK_MAINT_EN = if on then 1 else 0 := by
  rw [State.pkg_setMaint, if_pos h, Pkg.getF_setF_same _ _ _ rfl]
  split <;> rfl

/-- The rack's window is set, and told. -/
def State.setWindow (s : State) (w : Option Nat) (t : Nat) : State :=
  ((s.updMir (fun (m : Mirror) => { m with window := w })).setMaint w.isSome).sendMaint t

theorem State.setWindow_shows {s : State} {u : Nat} (h : s.primary = some u) (w : Option Nat) (t : Nat) : (s.setWindow w t).mir.window = w ∧
    (s.setWindow w t).action = s.action ∧ (s.setWindow w t).trays = s.trays ∧ (s.setWindow w t).events = s.events ∧ (s.setWindow w t).nextEvent = s.nextEvent ∧
    ∀ q : PkgId, (s.pkg q).hubOn = true → ((s.setWindow w t).pkg q).getF F.LNK_MAINT_EN = if w.isSome then 1 else 0 := by
  have mirrored := State.mir_updMir h (fun (m : Mirror) => { m with window := w })
  obtain ⟨b, e⟩ := ((s.updMir (fun (m : Mirror) => { m with window := w })).setMaint w.isSome).sendMaint_frame t
  rw [State.setWindow, e]
  refine ⟨?_, ?_, ?_, ?_, ?_, fun q hq => ?_⟩
  · exact (congrArg Mirror.window (State.mir_congr (s := s.updMir (fun (m : Mirror) => { m with window := w })) rfl)).trans (congrArg Mirror.window mirrored)
  all_goals rw [State.updMir_eq h]
  · rfl
  · rfl
  · rfl
  · rfl
  · exact State.maint_setMaint (s.updUmp u _) w.isSome (q := q) hq

theorem State.closeWindow_eq {s : State} {e : Nat} (h : s.mir.window = some e) (t : Nat) :
    s.closeWindow t = (s.setWindow none t).post "MaintenanceWindowClosed" .ok 0 :=
  if_neg (by rw [h]; exact Bool.false_ne_true)

theorem State.pkg_updTrayPkgs_cases (s : State) (n : Nat) (f : Pkg → Pkg) (p : PkgId) : (s.updTrayPkgs n f).pkg p = s.pkg p ∨ (s.updTrayPkgs n f).pkg p = f (s.pkg p) := by
  have turn := State.pkg_foldl_updNat (nodup_trayPkgs n) s (fun k => if k.hubOn then f k else k) p
  unfold State.updTrayPkgs
  rw [turn]
  split
  · split
    · exact .inr rfl
    · exact .inl rfl
  · exact .inl rfl

/-- A tray's window closes, and its packages leave maintenance. -/
def State.trayClosed (s : State) (n : Nat) : State :=
  ((s.updTray n (fun (y : Tray) => { y with window := none })).updTrayPkgs n (fun k => k.setF F.LNK_MAINT_EN 0)).post "MaintenanceWindowClosed" .ok (n + 1)

theorem State.trayClosed_umpires (s : State) (n : Nat) : (s.trayClosed n).umpires = s.umpires := by
  obtain ⟨ps, e⟩ := State.updTrayPkgs_pkgsOnly (s.updTray n (fun (y : Tray) => { y with window := none })) n (fun k => k.setF F.LNK_MAINT_EN 0)
  rw [State.trayClosed, e]
  rfl

theorem State.tray_trayClosed (s : State) (n m : Nat) : (s.trayClosed n).tray m = (s.updTray n (fun (y : Tray) => { y with window := none })).tray m := by
  rw [State.trayClosed, State.tray_post, (State.updTrayPkgs_pkgsOnly ..).tray]

theorem State.window_trayClosed (s : State) {n m : Nat} (h : (s.tray m).window = none) : ((s.trayClosed n).tray m).window = none := by
  rw [State.tray_trayClosed]
  by_cases hm : m = n
  · subst hm
    by_cases hlt : m < 24
    · rw [s.tray_updTray_same hlt]
    · simp [State.tray, State.updTray, hlt]
  · rw [s.tray_updTray_other hm]
    exact h

theorem State.pkg_trayClosed (s : State) (n : Nat) (q : PkgId) : (s.trayClosed n).pkg q = s.pkg q ∨ (s.trayClosed n).pkg q = (s.pkg q).setF F.LNK_MAINT_EN 0 :=
  State.pkg_updTrayPkgs_cases (s.updTray n (fun (y : Tray) => { y with window := none })) n (fun k => k.setF F.LNK_MAINT_EN 0) q

/-- The tray's window, if it is over, closes. -/
def State.expireTray (t : Nat) (s : State) (n : Nat) : State := match (s.tray n).window with
  | some e => if e ≤ t then s.closeTrayWindow n else s
  | none => s

theorem State.expireTray_of_over {s : State} {t n e : Nat} (h : (s.tray n).window = some e) (he : e ≤ t) : s.expireTray t n = s.trayClosed n := by
  unfold State.expireTray
  rw [h]
  dsimp only
  rw [if_pos he]
  exact if_neg (by rw [h]; exact Bool.false_ne_true)

theorem State.expireTray_cases (t : Nat) (s : State) (n : Nat) : s.expireTray t n = s ∨ s.expireTray t n = s.trayClosed n := by
  cases h : (s.tray n).window with
  | none => exact .inl (by unfold State.expireTray; rw [h])
  | some e =>
    by_cases he : e ≤ t
    · exact .inr (State.expireTray_of_over h he)
    · refine .inl ?_
      unfold State.expireTray
      rw [h]
      exact if_neg he

/-- The rack's window, if it is over, closes. -/
def State.expireRack (s : State) (t : Nat) : State := match s.mir.window with
  | some e => if e ≤ t ∧ s.primary.isSome then s.closeWindow t else s
  | none => s

theorem exec_maintWindowExpire (s : State) (t : Nat) : exec (.maintWindowExpire t) s = .next ((List.range 24).foldl (State.expireTray t) (s.expireRack t)) := rfl

theorem State.expireRack_trays (s : State) (t : Nat) : (s.expireRack t).trays = s.trays := by
  unfold State.expireRack
  cases hw : s.mir.window with
  | none => rfl
  | some e =>
    dsimp only
    split
    · next h =>
      obtain ⟨u, hu⟩ := Option.isSome_iff_exists.mp h.2
      obtain ⟨-, -, htrays, -⟩ := State.setWindow_shows hu none t
      rw [State.closeWindow_eq hw]
      exact htrays
    · rfl

section Windows

variable {s : State} {u : Nat} {t₀ : Nat}

theorem openRackWindow (hprimary : s.primary = some u) (hpaired : s.paired = true) {minutes : Nat} (hmin : 1 ≤ minutes) (hmax : minutes ≤ 480) :
    Completes (.openMaintenanceWindow none minutes t₀) s (fun t => t.mir.window = some (t₀ + minutes * 120000000000) ∧ t.action = 0 ∧
      (∀ q : PkgId, (s.pkg q).hubOn = true → (t.pkg q).getF F.LNK_MAINT_EN = 1) ∧
      t.events = { id := s.nextEvent, name := "MaintenanceWindowOpened", severity := .ok, arg := 0 } :: s.events) := by
  obtain ⟨hwindow, haction, -, hevents, hnext, hmaint⟩ :=
    State.setWindow_shows (s := s.answer 0) hprimary (some (t₀ + minutes * 120000000000)) t₀
  have known : (s.answer 0).paired = true := hpaired
  refine ⟨((s.answer 0).setWindow (some (t₀ + minutes * 120000000000)) t₀).post "MaintenanceWindowOpened" .ok 0, ?_, hwindow, haction, hmaint, ?_⟩
  · refine congrArg Host.Outcome.next ((State.asAction_of_primary (.inr (by rw [hprimary]; rfl)) _).trans ?_)
    dsimp only
    rw [if_neg (by omega), if_neg (by rw [known]; decide)]
    rfl
  · show _ :: _ = _
    rw [hevents, hnext]
    rfl

theorem openTrayWindow {minutes : Nat} {tray : TrayId} (hpaired : s.paired = false) (hmin : 1 ≤ minutes) (hmax : minutes ≤ 480) :
    Completes (.openMaintenanceWindow (some tray) minutes t₀) s (fun t => (t.tray tray).window = some (t₀ + minutes * 120000000000) ∧
      t.action = 0 ∧ ∀ q : PkgId, trayOf q = tray.val → (s.pkg q).hubOn = true → (t.pkg q).getF F.LNK_MAINT_EN = 1) := by
  have alone : (s.answer 0).paired = false := hpaired
  have only := State.updTrayPkgs_pkgsOnly ((s.answer 0).updTray tray (fun (y : Tray) => { y with window := some (t₀ + minutes * 120000000000) })) tray (fun k => k.raise F.LNK_MAINT_EN)
  refine ⟨(((s.answer 0).updTray tray (fun (y : Tray) => { y with window := some (t₀ + minutes * 120000000000) })).updTrayPkgs tray (fun k => k.raise F.LNK_MAINT_EN)).post
    "MaintenanceWindowOpened" .ok (tray + 1), ?_, ?_, ?_, fun q hq hon => ?_⟩
  · refine congrArg Host.Outcome.next ((State.asAction_of_primary (.inl hpaired) _).trans ?_)
    dsimp only
    rw [if_neg (by omega), if_neg (by rw [alone]; decide)]
  · rw [State.tray_post, only.tray, State.tray_updTray_same _ tray.isLt]
  · obtain ⟨ps, e⟩ := only
    rw [e]
    rfl
  · rw [State.pkg_post, ← hq, State.pkg_updTrayPkgs, State.pkg_updTray, State.pkg_answer, if_pos hon]
    exact Pkg.getF_raise_same _ _ rfl (Nat.le_refl 1)

theorem closeRackWindow (hprimary : s.primary = some u) (hpaired : s.paired = true) {e : Nat} (hopen : s.mir.window = some e) :
    Completes (.closeMaintenanceWindow none t₀) s (fun t => t.mir.window = none ∧ t.action = 0 ∧
      (∀ q : PkgId, (s.pkg q).hubOn = true → (t.pkg q).getF F.LNK_MAINT_EN = 0) ∧
      t.events = { id := s.nextEvent, name := "MaintenanceWindowClosed", severity := .ok, arg := 0 } :: s.events) := by
  obtain ⟨hwindow, haction, -, hevents, hnext, hmaint⟩ := State.setWindow_shows (s := s.answer 0) hprimary none t₀
  have known : (s.answer 0).paired = true := hpaired
  refine ⟨((s.answer 0).setWindow none t₀).post "MaintenanceWindowClosed" .ok 0, ?_, hwindow, haction, hmaint, ?_⟩
  · refine congrArg Host.Outcome.next ((State.asAction_of_primary (.inr (by rw [hprimary]; rfl)) _).trans ?_)
    dsimp only
    rw [if_neg (by rw [known]; decide)]
    exact State.closeWindow_eq (s := s.answer 0) hopen t₀
  · show _ :: _ = _
    rw [hevents, hnext]
    rfl

theorem expireRackWindow (hprimary : s.primary = some u) {e : Nat} (hopen : s.mir.window = some e) (he : e ≤ t₀) :
    Completes (.maintWindowExpire t₀) s (fun t => t.mir.window = none ∧ ∀ q : PkgId, (s.pkg q).hubOn = true → (t.pkg q).getF F.LNK_MAINT_EN = 0) := by
  obtain ⟨hwindow, -, -, -, -, hmaint⟩ := State.setWindow_shows hprimary none t₀
  have closed : s.expireRack t₀ = (s.setWindow none t₀).post "MaintenanceWindowClosed" .ok 0 := by
    unfold State.expireRack
    rw [hopen]
    dsimp only
    rw [if_pos ⟨he, by rw [hprimary]; rfl⟩]
    exact State.closeWindow_eq hopen t₀
  refine ⟨_, exec_maintWindowExpire s t₀, ?_, fun q hq => ?_⟩
  · have umpires : ((List.range 24).foldl (State.expireTray t₀) (s.expireRack t₀)).umpires = (s.expireRack t₀).umpires := by
      refine foldl_keeps (v := State.umpires) _ _ fun s n _ => ?_
      obtain e | e := s.expireTray_cases t₀ n <;> rw [e]
      exact s.trayClosed_umpires n
    rw [State.mir_congr umpires, closed]
    exact hwindow
  · refine List.foldlRecOn (motive := fun t : State => (t.pkg q).getF F.LNK_MAINT_EN = 0) _ _ ?_ fun s h n _ => ?_
    · rw [closed]
      exact hmaint q hq
    · obtain e | e := s.expireTray_cases t₀ n
      · rw [e]
        exact h
      · rw [e]
        obtain e | e := s.pkg_trayClosed n q
        · rw [e]
          exact h
        · rw [e, Pkg.getF_setF_same _ _ _ rfl]
          rfl

theorem expireTrayWindow {tray : TrayId} {e : Nat} (hopen : (s.tray tray).window = some e) (he : e ≤ t₀) :
    Completes (.maintWindowExpire t₀) s (fun t => (t.tray tray).window = none) := by
  refine ⟨_, exec_maintWindowExpire s t₀, ?_⟩
  refine foldl_ownTurn (A := fun t : State => (t.tray tray).window = some e) (B := fun t : State => (t.tray tray).window = none) (fun t ht => ?_) (fun t n _ hn ht => ?_)
    (fun t n _ _ ht => ?_) List.nodup_range (List.mem_range.mpr tray.isLt) ?_
  · rw [State.expireTray_of_over ht he, State.tray_trayClosed, t.tray_updTray_same tray.isLt]
  · obtain e | e := t.expireTray_cases t₀ n <;> rw [e]
    · exact ht
    · rw [State.tray_trayClosed, t.tray_updTray_other (Ne.symm hn)]
      exact ht
  · obtain e | e := t.expireTray_cases t₀ n <;> rw [e]
    · exact ht
    · exact t.window_trayClosed ht
  · show ((s.expireRack t₀).trays.toList.getD tray {}).window = some e
    rw [s.expireRack_trays t₀]
    exact hopen

end Windows

/-- Settles O51: each action by the operation it does where it is heard. -/
theorem actionsAreAnswered : Obligations.ActionsAreAnswered := by
  intro s p t₀
  obtain ⟨k, hk⟩ : ∃ k, k = (s.pkg p).at t₀ := ⟨_, rfl⟩
  rw [← hk]
  refine ⟨fun heard => ⟨?_, ?_, ?_, ?_, ?_, ?_, ?_, ?_, ?_, ?_, ?_, ?_⟩, ?_, ?_, ?_, ?_, ?_, ?_⟩
  · intro core force hcore hspare hlogical
    obtain ⟨hcode, hrepair⟩ := k.sayRepair_shows core 0x3005
    refine (completes_redfishRetire hk heard hcore (Pkg.retireCmd_of_unmapped hcore hspare hlogical force) (k.sayRepair_kept core 0x3005 (by omega))).mono fun t ht => ?_
    obtain ⟨haction, hpkg⟩ := ht
    rw [haction, hpkg]
    exact ⟨hcode, hrepair⟩
  · intro core force hcore hsubsts hspare
    obtain ⟨j, hj⟩ : ∃ j, j = k.spareGone core := ⟨_, rfl⟩
    obtain ⟨⟨hretired, -, -, hcode, -⟩, kept⟩ := k.spareGone_shows hcore
    rw [← hj] at hretired hcode kept
    refine (completes_redfishRetire hk heard hcore ((Pkg.retireCmd_of_spare hcore hsubsts hspare force).trans hj.symm) kept).mono fun t ht => ?_
    obtain ⟨haction, hpkg⟩ := ht
    rw [haction, hpkg]
    exact ⟨hcode, hretired⟩
  · exact redfishThermalRelease_refused hk heard
  · exact redfishThermalRelease_held hk heard
  · exact fun ht => redfishReset_package hk heard ht
  · exact fun ht core => redfishReset_noCore hk heard ht
  · exact fun ht hpaired hnow hht => redfishReset_rack hk heard hpaired hnow hht
  · exact fun target ht at_ scope hscope hpaired => redfishReset_standalone heard hpaired hscope target ht at_
  · exact fun port => redfishClearFailed_inWindow hk heard
  · exact fun port => redfishClearFailed_outside hk heard
  · exact fun port => redfishLocate_completes heard
  · exact powerPackage_off heard
  · exact fun u hprimary on => powerPackage_asked hprimary on
  · exact fun u minutes hprimary hpaired hmin hmax => openRackWindow hprimary hpaired hmin hmax
  · exact fun minutes tray hpaired hmin hmax => openTrayWindow hpaired hmin hmax
  · exact fun u e hprimary hpaired hopen => closeRackWindow hprimary hpaired hopen
  · exact fun u e hprimary hopen he => expireRackWindow hprimary hopen he
  · exact fun tray e hopen he => expireTrayWindow hopen he

end Sys2Proof.Machine
end

section
/-! PROOFS. Messages a TMC acts on (R867, R868, R883, R892): each on the packages it names; O48. -/

namespace Sys2Proof.Machine

/-! ### Packages named by a mask -/

theorem nodup_maskPkgs (tray mask : Nat) : (maskPkgs tray mask).Nodup := (nodup_trayPkgs tray).filter _

theorem mem_maskPkgs {p tray mask : Nat} (htray : trayOf p = tray) (hmask : bit mask (socketOf p) = true) : p ∈ maskPkgs tray mask :=
  List.mem_filter.mpr ⟨mem_trayPkgs.mpr htray, hmask⟩

/-- A change at the packages a mask names. -/
theorem State.pkg_foldl_mask (s : State) {p : PkgId} {tray mask : Nat} (htray : trayOf p = tray) (hmask : bit mask (socketOf p) = true) (f : Pkg → Pkg) :
    ((maskPkgs tray mask).foldl (fun s q => s.updNat q f) s).pkg p = f (s.pkg p) :=
  (State.pkg_foldl_updNat (nodup_maskPkgs tray mask) s f p).trans (if_pos (mem_maskPkgs htray hmask))

theorem State.mask_pkgsOnly (s : State) (tray mask : Nat) (f : Pkg → Pkg) : s.PkgsOnly ((maskPkgs tray mask).foldl (fun s q => s.updNat q f) s) :=
  .foldl _ (fun s q => .updNat s q f) s

/-! ### Packages -/

/-- A management power-on of a package. -/
def Pkg.cmdOn (k : Pkg) : Pkg :=
  let k := k.updRails (fun (r : Rails) => { r with held := false, tripped := false, closeAt := none })
  let k := if k.rails.efuse then k else (k.updRails (fun (r : Rails) => { r with efuse := true })).auxOn k.id k.straps.variant
  k.powerUp

theorem Pkg.cmdOn_of_off {k : Pkg} (haux : k.rails.aux = true) (hfuse : k.rails.efuse = true) (hmode : k.rails.mode = .off) :
    k.cmdOn.rails.mode = .up ∧ k.cmdOn.rails.held = false ∧ k.cmdOn.rails.tripped = false ∧ k.cmdOn.getF (F.PWR_RL_STATE 1) = 1 ∧ k.cmdOn.pinLow = true := by
  have up : k.cmdOn = (k.updRails (fun (r : Rails) => { r with held := false, tripped := false, closeAt := none })).powerUp :=
    congrArg Pkg.powerUp (if_pos hfuse)
  obtain ⟨hup, hstate, hpin, -⟩ := Pkg.powerUp_shows (k := k.updRails (fun (r : Rails) => { r with held := false, tripped := false, closeAt := none })) haux hfuse hmode
  have rails : k.cmdOn.rails.held = false ∧ k.cmdOn.rails.tripped = false := by
    rw [up, Pkg.powerUp_of_off (k := k.updRails (fun (r : Rails) => { r with held := false, tripped := false, closeAt := none })) haux hfuse hmode, Pkg.enableRails_one]
    exact ⟨rfl, rfl⟩
  rw [← up] at hup hstate hpin
  exact ⟨hup, rails.1, rails.2, hstate, hpin⟩

theorem Pkg.powerOff_of_on {k : Pkg} (h : k.rails.mode = .on) : k.powerOff.pinLow = true ∧ k.powerOff.bring.released = none := Pkg.powerDown_of_on h

theorem Pkg.auxLost_flash (k : Pkg) : k.auxLost.flash = k.flash := rfl

/-- The fuses outlast a loss of auxiliary power. -/
theorem Pkg.auxLost_keys (k : Pkg) : k.auxLost.getF F.BOOT_KEYS = k.getF F.BOOT_KEYS := by
  have shown : ∃ j : Pkg, k.auxLost.regs = (j.setF F.BOOT_KEYS (k.getF F.BOOT_KEYS)).regs := ⟨_, rfl⟩
  obtain ⟨j, hj⟩ := shown
  rw [Pkg.getF_congr hj, Pkg.getF_setF_same _ _ _ rfl]
  exact Nat.mod_eq_of_lt (k.getF_lt F.BOOT_KEYS)

/-- A package whose e-fuse is opened. -/
def Pkg.fuseOpened (k : Pkg) : Pkg := (k.auxLost).updRails (fun (r : Rails) => { r with efuse := false, closeAt := none, retryAt := none })

theorem Pkg.fuseOpened_shows (k : Pkg) : k.fuseOpened.rails.efuse = false ∧ k.fuseOpened.rails.aux = false ∧ k.fuseOpened.rails.mode = .off ∧
    k.fuseOpened.flash = k.flash ∧ k.fuseOpened.getF F.BOOT_KEYS = k.getF F.BOOT_KEYS := ⟨rfl, rfl, rfl, k.auxLost_flash, k.auxLost_keys⟩

/-- A package whose e-fuse is closed. -/
def Pkg.fuseClosed (k : Pkg) : Pkg :=
  let k := k.updRails (fun (r : Rails) => { r with efuse := true, closeAt := none })
  if k.rails.aux then k else k.auxOn k.id k.straps.variant

theorem Pkg.auxOn_shows (k : Pkg) (p variant : Nat) : (k.auxOn p variant).rails = { k.auxLost.rails with aux := true } ∧ (k.auxOn p variant).getF F.RST_CAUSE = 1 := by
  unfold Pkg.auxOn
  dsimp only
  refine ⟨?_, Pkg.getF_recordCause_cause _ (by decide) 4 0 0⟩
  obtain ⟨r, n, e⟩ := Pkg.recordCause_frame (({ k.auxLost with straps := { pkg := p, variant := variant }, pinLow := true } : Pkg).updRails (fun r => { r with aux := true })) 1 4 0 0
  rw [e]
  rfl

theorem Pkg.fuseClosed_shows {k : Pkg} (haux : k.rails.aux = false) :
    k.fuseClosed.rails.efuse = true ∧ k.fuseClosed.rails.aux = true ∧ k.fuseClosed.getF F.RST_CAUSE = 1 := by
  have closed : k.fuseClosed = (k.updRails (fun (r : Rails) => { r with efuse := true, closeAt := none })).auxOn k.id k.straps.variant :=
    if_neg (by show ¬ k.rails.aux = true; rw [haux]; decide)
  obtain ⟨hrails, hcause⟩ := (k.updRails (fun (r : Rails) => { r with efuse := true, closeAt := none })).auxOn_shows k.id k.straps.variant
  rw [closed, hrails]
  exact ⟨rfl, rfl, hcause⟩

theorem Pkg.getF_noteLimits (k old : Pkg) {f : Fld} (hshare : F.PWR_EV_SHARE_CUT.apart f = true) (htray : F.PWR_EV_TRAY_LIMIT.apart f = true) :
    (k.noteLimits old).getF f = k.getF f := by
  have raised (c : Prop) [Decidable c] (j : Pkg) {g : Fld} (h : g.apart f = true) : (if c then j.raise g else j).getF f = j.getF f := by
    split
    · exact Pkg.getF_raise_apart _ _ _ h
    · rfl
  exact (raised _ _ htray).trans (raised _ k hshare)

/-! ### Messages -/

section Messages

variable {s : State} {node : Fin 34} {tray : TrayId} {t₀ : Nat}

/-- A message of the primary is acted on. -/
theorem completes_of_message {c : Instr} {f : State → State} {P : State → Prop} (hfrom : s.fromPrimary node tray = true)
    (hexec : exec c s = .next (s.atTmc 1 node tray f)) (h : P (f s)) : Completes c s P := by
  have acted : s.atTmc 1 node tray f = f s := (if_neg (by decide)).trans (if_pos hfrom)
  exact ⟨_, hexec, acted.symm ▸ h⟩

section Named

variable {p : PkgId} {k : Pkg} (hfrom : s.fromPrimary node tray = true) (htray : trayOf p = tray.val) (hk : k = (s.pkg p).at t₀)

include hfrom htray

section Masked

variable {mask : Fin 16} (hmask : bit mask (socketOf p) = true)

include hk hmask

theorem powerCmdOn_completes (hmay : (s.tray tray).mayPower = true) (hheld : (s.tray tray).held = false) (hinput : (s.tray tray).input = true)
    (haux : k.rails.aux = true) (hfuse : k.rails.efuse = true) (hmode : k.rails.mode = .off) :
    Completes (.powerCmdOn 1 node tray mask t₀) s (fun t => (t.pkg p).rails.mode = .up ∧ (t.pkg p).rails.held = false ∧
      (t.pkg p).rails.tripped = false ∧ (t.pkg p).getF (F.PWR_RL_STATE 1) = 1 ∧ (t.pkg p).pinLow = true) := by
  have turn : ((maskPkgs tray mask).foldl (fun (s : State) q => s.powerOn q t₀) s).pkg p = k.cmdOn := by
    refine foldl_ownTurn (A := fun t : State => t.pkg p = s.pkg p ∧ t.tray tray = s.tray tray) (B := fun t : State => t.pkg p = k.cmdOn) (x := p.val) ?_ ?_ ?_
      (nodup_maskPkgs tray mask) (mem_maskPkgs htray hmask) ⟨rfl, rfl⟩
    · rintro t ⟨hpkg, ht⟩
      have may : ¬ ((!(t.tray (trayOf p)).mayPower) = true ∨ (t.tray (trayOf p)).held = true ∨ (!(t.tray (trayOf p)).input) = true) := by
        rw [htray, ht, hmay, hheld, hinput]
        decide
      refine (congrArg (State.pkg · p) (if_neg may)).trans ?_
      rw [State.pkg_updNat, if_pos rfl, hpkg, hk, Pkg.cmdOn]
    · rintro t q - hq ⟨hpkg, ht⟩
      unfold State.powerOn
      dsimp only
      split
      · exact ⟨hpkg, ht⟩
      · exact ⟨(t.pkg_updNat q _ p).trans ((if_neg (Ne.symm hq)).trans hpkg), ((State.PkgsOnly.updNat t q _).tray tray).trans ht⟩
    · rintro t q - hq hpkg
      unfold State.powerOn
      dsimp only
      split
      · exact hpkg
      · exact (t.pkg_updNat q _ p).trans ((if_neg (Ne.symm hq)).trans hpkg)
  refine completes_of_message hfrom rfl ?_
  rw [turn]
  exact Pkg.cmdOn_of_off haux hfuse hmode

theorem powerCmdOff_completes (hmode : k.rails.mode = .on) : Completes (.powerCmdOff 1 node tray mask t₀) s (fun t => (t.pkg p).rails.mode ≠ .on ∧
    (t.pkg p).rails.mode ≠ .up ∧ (t.pkg p).pinLow = true ∧ (t.pkg p).bring.released = none ∧ (t.pkg p).rails.retryAt = none) := by
  refine completes_of_message hfrom rfl ?_
  rw [s.pkg_foldl_mask htray hmask, ← hk]
  obtain ⟨hon, hup, hretry⟩ := k.powerOff_shows
  obtain ⟨hpin, hreleased⟩ := Pkg.powerOff_of_on hmode
  exact ⟨hon, hup, hpin, hreleased, hretry⟩

theorem efuseOpen_completes : Completes (.powerCmdEfuseOpen 1 node tray mask t₀) s (fun t => (t.pkg p).rails.efuse = false ∧ (t.pkg p).rails.aux = false ∧
    (t.pkg p).rails.mode = .off ∧ (t.pkg p).flash = (s.pkg p).flash ∧ (t.pkg p).getF F.BOOT_KEYS = (s.pkg p).getF F.BOOT_KEYS) := by
  refine completes_of_message (f := fun s => (maskPkgs tray mask).foldl (fun (s : State) q => s.updNat q (fun k => (k.at t₀).fuseOpened)) s) hfrom rfl ?_
  rw [s.pkg_foldl_mask htray hmask, ← hk]
  obtain ⟨hfuse, haux, hmode, hflash, hkeys⟩ := k.fuseOpened_shows
  exact ⟨hfuse, haux, hmode, hflash.trans (by rw [hk]; rfl), hkeys.trans (by rw [hk]; rfl)⟩

theorem efuseClose_completes (haux : k.rails.aux = false) : Completes (.powerCmdEfuseClose 1 node tray mask t₀) s (fun t => (t.pkg p).rails.efuse = true ∧
    (t.pkg p).rails.aux = true ∧ (t.pkg p).getF F.RST_CAUSE = 1 ∧ (t.tray tray).input = true ∧ (t.tray tray).locked = true) := by
  have only := ((s.updTray tray (fun (y : Tray) => { y with input := true, locked := true })).showLamp tray).mask_pkgsOnly tray mask (fun k => (k.at t₀).fuseClosed)
  obtain ⟨hfuse, haux', hcause⟩ := Pkg.fuseClosed_shows haux
  refine completes_of_message (f := fun s => (maskPkgs tray mask).foldl (fun (s : State) q => s.updNat q (fun k => (k.at t₀).fuseClosed))
    ((s.updTray tray (fun (y : Tray) => { y with input := true, locked := true })).showLamp tray)) hfrom rfl ?_
  rw [State.pkg_foldl_mask _ htray hmask, only.tray, State.tray_showLamp_same _ tray.isLt, State.tray_updTray_same _ tray.isLt, State.showLamp, State.pkg_updTray,
    State.pkg_updTray, ← hk]
  exact ⟨hfuse, haux', hcause, rfl, rfl⟩

end Masked

include hk in
theorem share_completes (watts : Nat) (hhub : k.hubOn = true) : Completes (.share 1 node tray watts t₀) s (fun t => (t.pkg p).getF F.PWR_SHARE_W = watts % 2 ^ 16) := by
  have on : (s.pkg p).hubOn = true := by rw [hk] at hhub; exact hhub
  refine completes_of_message hfrom rfl ?_
  rw [← htray, State.pkg_updTrayPkgs, if_pos on, Pkg.getF_noteLimits _ _ (by decide) (by decide), Pkg.getF_setF_same _ _ _ rfl]
  rfl

theorem units_completes (states : List Nat) (hhub : (s.pkg p).hubOn = true) : Completes (.units 1 node tray states) s (fun t => (t.tray tray).units = states ∧
    (t.pkg p).getF F.GLB_MG_STATE = states.getD (s.pkg p).id 0 % 4) := by
  have only := State.updTrayPkgs_pkgsOnly (s.updTray tray (fun (y : Tray) => { y with units := states })) tray (fun k => k.setF F.GLB_MG_STATE (states.getD k.id 0))
  refine completes_of_message hfrom rfl ⟨?_, ?_⟩
  · rw [only.tray, State.tray_updTray_same _ tray.isLt]
  · rw [← htray, State.pkg_updTrayPkgs, State.pkg_updTray, if_pos hhub, Pkg.getF_setF_same _ _ _ rfl]
    rfl

theorem maint_completes (on : Bool) (hhub : (s.pkg p).hubOn = true) : Completes (.maint 1 node tray on) s (fun t =>
    (t.pkg p).getF F.LNK_MAINT_EN = if on then 1 else 0) := by
  refine completes_of_message hfrom rfl ?_
  rw [← htray, State.pkg_updTrayPkgs, if_pos hhub, Pkg.getF_setF_same _ _ _ rfl]
  cases on <;> rfl

end Named

/-- A message from another node than the primary is not acted on. -/
theorem completes_of_stranger {c : Instr} {f : State → State} (hfrom : s.fromPrimary node tray = false)
    (hexec : exec c s = .next (s.atTmc 1 node tray f)) : Completes c s (fun t => t = s) :=
  ⟨_, hexec, (if_neg (by decide)).trans (if_neg (by rw [hfrom]; exact Bool.false_ne_true))⟩

/-- A message of another version is dropped and counted. -/
theorem completes_of_version {c : Instr} {f : State → State} {ver : Nat} (hver : ver ≠ 1) (hexec : exec c s = .next (s.atTmc ver node tray f)) :
    Completes c s (fun t => t = { s with bus := { s.bus with drops := s.bus.drops + 1 } }) :=
  ⟨_, hexec, if_pos hver⟩

/-! ### What the primary hears, and trays that come and go -/

theorem powerDone_completes (id st : Nat) : Completes (.powerDone 1 id st) s (fun t => t.bus.done = some (id, st) ∧ (∀ c ∈ t.bus.cmds, c.1 ≠ id) ∧ t.pkgs = s.pkgs) := by
  refine ⟨_, congrArg Host.Outcome.next (if_neg (by decide)), rfl, fun c hc => ?_, rfl⟩
  have := (List.mem_filter.mp hc).2
  simpa using this

theorem State.unit_setUnit {s : State} {u : Nat} (h : s.primary = some u) (p : PkgId) (x : UnitState) : (s.setUnit p x).unit p = x := by
  unfold State.unit State.setUnit
  rw [State.mir_updMir h]
  simp [List.getD]

theorem State.setUnit_shows {s : State} {u : Nat} (h : s.primary = some u) (p : Nat) (x : UnitState) : (s.setUnit p x).pkgs = s.pkgs ∧
    (s.setUnit p x).events = s.events ∧ (s.setUnit p x).nextEvent = s.nextEvent := by
  unfold State.setUnit
  rw [State.updMir_eq h]
  exact ⟨rfl, rfl, rfl⟩

theorem State.pkgs_get (s : State) (p : PkgId) : s.pkgs.toList[p.val]? = some (s.pkg p) := by
  simp [State.pkg]

/-- The primary's safety action for one package. -/
def State.alertOne (t : Nat) (s : State) (q : Nat) : State := match s.pkgs.toList[q]? with
  | some k => if k.unsafe_ ∧ (s.unit q).state ≠ 3 ∧ s.primary.isSome then (s.setUnit q { state := 3, since := t }).post "UnitDown" .critical q else s
  | none => s

theorem exec_alert (s : State) (p : PkgId) (t : Nat) : exec (.alert 1 p false t) s = .next (s.alertOne t p) := rfl

theorem alert_completes {p : PkgId} (hunsafe : (s.pkg p).unsafe_ = true) (hstate : (s.unit p).state ≠ 3) (hprimary : s.primary.isSome = true) :
    Completes (.alert 1 p false t₀) s (fun t => t.unit p = { state := 3, since := t₀ } ∧ t.pkgs = s.pkgs ∧
      t.events = { id := s.nextEvent, name := "UnitDown", severity := .critical, arg := p } :: s.events) := by
  obtain ⟨u, hu⟩ := Option.isSome_iff_exists.mp hprimary
  obtain ⟨hpkgs, hevents, hnext⟩ := State.setUnit_shows hu p.val { state := 3, since := t₀ }
  have taken : s.alertOne t₀ p = (s.setUnit p { state := 3, since := t₀ }).post "UnitDown" .critical p := by
    unfold State.alertOne
    rw [s.pkgs_get p]
    exact if_pos ⟨hunsafe, hstate, hprimary⟩
  refine ⟨_, exec_alert s p t₀, ?_⟩
  rw [taken]
  refine ⟨State.unit_setUnit hu p _, hpkgs, ?_⟩
  show _ :: _ = _
  rw [hevents, hnext]

/-- A tray that is taken out has no input and no auxiliary supply. -/
def State.trayGone (s : State) (tray : Nat) : State :=
  (s.updTray tray (fun (y : Tray) => { y with present := false, input := false })).updTray tray (fun (y : Tray) => { y with aux := false })

theorem exec_presence_gone (s : State) (tray : TrayId) (input : Bool) (t : Nat) : exec (.presence 1 tray false input t) s =
    .next (((trayPkgs tray).foldl (fun (s : State) q => s.updNat q (fun k => (k.at t).auxLost)) (s.trayGone tray)).showLamp tray) := by
  cases input <;> rfl

theorem presence_gone (input : Bool) : Completes (.presence 1 tray false input t₀) s (fun t => (t.tray tray).present = false ∧ (t.tray tray).aux = false ∧
    (t.tray tray).input = false ∧ ∀ p : PkgId, trayOf p = tray.val → (t.pkg p).rails.aux = false ∧ (t.pkg p).rails.mode = .off) := by
  have only : (s.trayGone tray).PkgsOnly ((trayPkgs tray).foldl (fun (s : State) q => s.updNat q (fun k => (k.at t₀).auxLost)) (s.trayGone tray)) :=
    .foldl _ (fun s q => .updNat s q _) _
  refine ⟨_, exec_presence_gone s tray input t₀, ?_⟩
  dsimp only
  rw [State.tray_showLamp_same _ tray.isLt, only.tray, State.trayGone, State.tray_updTray_same _ tray.isLt, State.tray_updTray_same _ tray.isLt]
  refine ⟨rfl, rfl, rfl, fun p hp => ?_⟩
  rw [State.showLamp, State.pkg_updTray, State.pkg_foldl_tray, if_pos hp, Pkg.auxLost_rails]
  exact ⟨rfl, rfl⟩

/-- A tray that is put in is whole again. -/
def State.trayCame (s : State) (tray t : Nat) : State :=
  ((s.updTray tray (fun (y : Tray) => { y with present := true, input := true })).updTray tray
    (fun (y : Tray) => { y with aux := true, converters := 2, held := false, started := t, lastAck := t, solo := false })).setLimit tray 0 false

theorem exec_presence_came {s : State} {tray : TrayId} (hgone : (s.tray tray).present = false) (t : Nat) :
    exec (.presence 1 tray true true t) s = .next ((s.trayCame tray t).showLamp tray) := by
  have came : (true && !(s.tray tray).present) = true := by rw [hgone]; rfl
  refine congrArg (fun s : State => Host.Outcome.next (s.showLamp tray)) ?_
  exact if_pos came

theorem presence_came (hgone : (s.tray tray).present = false) : Completes (.presence 1 tray true true t₀) s (fun t => (t.tray tray).present = true ∧
    (t.tray tray).aux = true ∧ (t.tray tray).input = true ∧ (t.tray tray).converters = 2 ∧ (t.tray tray).held = false ∧
    (t.tray tray).started = t₀ ∧ 0 ∉ (t.tray tray).limits) := by
  refine ⟨_, exec_presence_came hgone t₀, ?_⟩
  dsimp only
  rw [State.tray_showLamp_same _ tray.isLt, State.trayCame, State.tray_setLimit_same _ tray.isLt, State.tray_updTray_same _ tray.isLt, State.tray_updTray_same _ tray.isLt]
  refine ⟨rfl, rfl, rfl, rfl, rfl, rfl, ?_⟩
  show 0 ∉ List.filter (fun x => x != 0) _
  simp

end Messages

/-- Settles O48: each message by the change it makes at the packages of its tray, and who is heard. -/
theorem traysHearThePrimary : Obligations.TraysHearThePrimary := by
  intro s node tray t₀
  refine ⟨fun hfrom p htray => ?_, fun hfrom mask watts states on c hc => ?_, fun ver mask watts unit states on hver c hc => ?_, powerDone_completes,
    fun p hunsafe hstate hprimary => alert_completes hunsafe hstate hprimary, presence_gone, presence_came⟩
  · obtain ⟨k, hk⟩ : ∃ k, k = (s.pkg p).at t₀ := ⟨_, rfl⟩
    have hub : k.hubOn = (s.pkg p).hubOn := by rw [hk]; rfl
    have id : k.id = (s.pkg p).id := by rw [hk]; rfl
    rw [← hk]
    refine ⟨fun mask hmask => ⟨?_, ?_, ?_, ?_⟩, ?_, ?_, ?_⟩
    · exact powerCmdOn_completes hfrom htray hk hmask
    · exact powerCmdOff_completes hfrom htray hk hmask
    · exact efuseOpen_completes hfrom htray hk hmask
    · exact efuseClose_completes hfrom htray hk hmask
    · exact share_completes hfrom htray hk
    · rw [hub, id]
      exact units_completes hfrom htray
    · rw [hub]
      exact maint_completes hfrom htray
  · simp only [List.mem_cons, List.not_mem_nil, or_false] at hc
    obtain rfl | rfl | rfl | rfl | rfl | rfl | rfl := hc <;> exact completes_of_stranger hfrom rfl
  · simp only [List.mem_cons, List.not_mem_nil, or_false] at hc
    obtain rfl | rfl | rfl | rfl | rfl | rfl | rfl | rfl | rfl | rfl := hc
    iterate 7 exact completes_of_version (node := node) (tray := tray) hver rfl
    · exact ⟨_, congrArg Host.Outcome.next (if_pos hver), rfl⟩
    · exact ⟨_, if_pos hver, rfl⟩
    · exact ⟨_, if_pos hver, rfl⟩

end Sys2Proof.Machine
end

section
/-! PROOFS. The poll of the primary (R883–R888): what judging, excluding and telling leave as it was; O49. -/

namespace Sys2Proof.Machine

/-! ### A package that is polled -/

/-- Registers that a poll does not write: those beside readiness, unit state and exclusions. -/
abbrev pollKeeps (o : Nat) : Prop := o < 0x50 ∨ (0x100 ≤ o ∧ o < 0x200) ∨ 0x1000 ≤ o

/-- `j` differs from `k` at most in the readiness, unit-state and exclusion registers. -/
structure Pkg.Polled (k j : Pkg) : Prop where
  fields : ∃ r, j = { k with regs := r }
  cells : CellsKept pollKeeps k j

namespace Pkg.Polled

variable {k j l : Pkg}

theorem refl (k : Pkg) : k.Polled k := ⟨⟨k.regs, rfl⟩, .refl k⟩

theorem trans (h : k.Polled j) (g : j.Polled l) : k.Polled l := by
  obtain ⟨⟨r, rfl⟩, hc⟩ := h
  obtain ⟨⟨r', rfl⟩, gc⟩ := g
  exact ⟨⟨r', rfl⟩, hc.trans gc⟩

theorem setF (k : Pkg) {f : Fld} (v : Nat) (h : ¬ pollKeeps f.off) : k.Polled (k.setF f v) := ⟨⟨_, rfl⟩, .setF k v h⟩

theorem ite {c : Prop} [Decidable c] (h : k.Polled j) (g : k.Polled l) : k.Polled (if c then j else l) := by split <;> assumption

theorem foldl {α : Type} (xs : List α) {op : Pkg → α → Pkg} (h : ∀ k : Pkg, ∀ x ∈ xs, k.Polled (op k x)) (k : Pkg) : k.Polled (xs.foldl op k) :=
  List.foldlRecOn xs op (motive := k.Polled) (refl k) fun _ hb x hx => hb.trans (h _ x hx)

theorem getF (h : k.Polled j) {f : Fld} (hf : pollKeeps f.off) : j.getF f = k.getF f := h.cells.getF hf

theorem flag (h : k.Polled j) {f : Fld} (hf : pollKeeps f.off) : j.flag f = k.flag f := by
  unfold Pkg.flag
  rw [h.getF hf]

theorem lup (h : k.Polled j) : j.lup = k.lup := by obtain ⟨⟨r, rfl⟩, -⟩ := h; rfl

theorem rails (h : k.Polled j) : j.rails = k.rails := by obtain ⟨⟨r, rfl⟩, -⟩ := h; rfl

theorem bring (h : k.Polled j) : j.bring = k.bring := by obtain ⟨⟨r, rfl⟩, -⟩ := h; rfl

theorem id (h : k.Polled j) : j.id = k.id := by obtain ⟨⟨r, rfl⟩, -⟩ := h; rfl

theorem rack (h : k.Polled j) : j.rack = k.rack := h.getF (.inl (by decide))

theorem hubOn (h : k.Polled j) : j.hubOn = k.hubOn := by
  unfold Pkg.hubOn
  rw [h.getF (f := F.PWR_RL_STATE 1) (.inr (.inr (by decide)))]

theorem unsafe_ (h : k.Polled j) : j.unsafe_ = k.unsafe_ := by
  unfold Pkg.unsafe_
  rw [h.rails]

theorem linkSt (h : k.Polled j) (n : Nat) : j.linkSt n = k.linkSt n := h.getF (f := F.LNK_ST n) (.inr (.inr (by simp only [F.LNK_ST]; omega)))

end Pkg.Polled

theorem Pkg.showPartReady_polled (id : Nat) (ready : Bool) (k : Pkg) : k.Polled (k.showPartReady id ready) :=
  .foldl _ (fun j i hi => .ite (.setF j _ (by have := List.mem_range.mp hi; simp only [F.GLB_PART_READY]; omega)) (.refl j)) k

theorem Pkg.writeExclusions_polled (k : Pkg) {slot : Nat} (hslot : slot < 4) (xs : List (Nat × Nat × Nat)) : k.Polled (k.writeExclusions slot xs) := by
  have entry (j : Pkg) (i v st r q : Nat) (hi : i < 128) : j.Polled ((((j.setF (F.GLB_EX_VALID slot i) v).setF (F.GLB_EX_STATE slot i) st).setF
      (F.GLB_EX_RACK slot i) r).setF (F.GLB_EX_PKG slot i) q) :=
    (((Pkg.Polled.setF j v (by simp only [F.GLB_EX_VALID]; omega)).trans (.setF _ st (by simp only [F.GLB_EX_STATE]; omega))).trans
      (.setF _ r (by simp only [F.GLB_EX_RACK]; omega))).trans (.setF _ q (by simp only [F.GLB_EX_PKG]; omega))
  unfold Pkg.writeExclusions
  refine ((Pkg.Polled.foldl (List.range 128) (fun j i hi => ?_) k).trans (.setF _ _ (by simp only [F.GLB_EXCL_ALL]; omega))).trans
    (.setF _ _ (by simp only [F.GLB_EXCL_COUNT]; omega))
  have hi := List.mem_range.mp hi
  split
  · exact entry j i _ _ _ _ hi
  · exact .ite (entry j i _ _ _ _ hi) (.refl j)

/-! ### The rack after a part of a poll -/

/-- What a poll tells and writes, without the unit states: packages by their readiness and exclusions, events, and what was seen. -/
structure State.Quiet (s t : State) : Prop where
  pkgs : ∀ p : PkgId, (s.pkg p).Polled (t.pkg p)
  umpires : t.umpires = s.umpires
  trays : t.trays = s.trays
  summaries : t.summaries = s.summaries
  events : ∀ e ∈ s.events, e ∈ t.events

namespace State.Quiet

variable {s t u : State}

theorem ofSame (hpkgs : t.pkgs = s.pkgs) (humpires : t.umpires = s.umpires) (htrays : t.trays = s.trays) (hsummaries : t.summaries = s.summaries)
    (hevents : t.events = s.events) : s.Quiet t :=
  ⟨fun p => by have : t.pkg p = s.pkg p := by unfold State.pkg; rw [hpkgs]
               rw [this]; exact .refl _, humpires, htrays, hsummaries, fun e he => hevents ▸ he⟩

theorem refl (s : State) : s.Quiet s := ofSame rfl rfl rfl rfl rfl

theorem trans (h : s.Quiet t) (g : t.Quiet u) : s.Quiet u :=
  ⟨fun p => (h.pkgs p).trans (g.pkgs p), g.umpires.trans h.umpires, g.trays.trans h.trays, g.summaries.trans h.summaries, fun e he => g.events e (h.events e he)⟩

theorem post (s : State) (n : String) (v : Severity) (a : Nat) : s.Quiet (s.post n v a) :=
  ⟨fun p => by rw [State.pkg_post]; exact .refl _, rfl, rfl, rfl, fun _ he => List.mem_cons_of_mem _ he⟩

theorem ite {c : Prop} [Decidable c] (h : s.Quiet t) (g : s.Quiet u) : s.Quiet (if c then t else u) := by split <;> assumption

theorem thenPostIf (h : s.Quiet t) (c : Prop) [Decidable c] (n : String) (v : Severity) (a : Nat) : s.Quiet (if c then t.post n v a else t) :=
  .ite (h.trans (post t n v a)) h

theorem foldl {α : Type} (l : List α) {f : State → α → State} (h : ∀ s : State, ∀ x ∈ l, s.Quiet (f s x)) (s : State) : s.Quiet (l.foldl f s) :=
  List.foldlRecOn l f (motive := s.Quiet) (refl s) fun _ hb x hx => hb.trans (h _ x hx)

theorem updPkg (s : State) (p : PkgId) {f : Pkg → Pkg} (h : ∀ k : Pkg, k.Polled (f k)) : s.Quiet (s.updPkg p f) := by
  refine ⟨fun q => ?_, rfl, rfl, rfl, fun _ he => he⟩
  by_cases hq : q = p
  · subst hq
    rw [State.pkg_updPkg_same]
    exact h _
  · rw [State.pkg_updPkg_other _ _ hq]
    exact .refl _

theorem mapPkgs (s : State) {f : Pkg → Pkg} (h : ∀ k : Pkg, k.Polled (f k)) : s.Quiet (s.mapPkgs f) :=
  ⟨fun p => by rw [State.pkg_mapPkgs]; exact h _, rfl, rfl, rfl, fun _ he => he⟩

theorem tray (h : s.Quiet t) (n : Nat) : t.tray n = s.tray n := by unfold State.tray; rw [h.trays]

theorem primary (h : s.Quiet t) : t.primary = s.primary := State.primary_congr h.umpires

theorem ump (h : s.Quiet t) (v : Nat) : t.ump v = s.ump v := State.ump_congr h.umpires v

theorem unit (h : s.Quiet t) (p : Nat) : t.unit p = s.unit p := by unfold State.unit; rw [State.mir_congr h.umpires]

end State.Quiet

theorem State.setPartReady_quiet (s : State) (id : Nat) (ready : Bool) : s.Quiet (s.setPartReady id ready) := .mapPkgs s (Pkg.showPartReady_polled id ready)

theorem State.clearReady_quiet (s : State) (p : PkgId) : s.Quiet (s.clearReady p) :=
  .foldl _ (fun s _ _ => .ite (s.setPartReady_quiet _ _) (.refl s)) s

theorem State.postUnit_quiet (s : State) (p old new : Nat) : s.Quiet (s.postUnit p old new) :=
  .ite (.refl s) (.ite (.post s _ _ _) (.ite (.post s _ _ _) (.post s _ _ _)))

theorem State.pollSeen_quiet (s : State) (p : PkgId) : s.Quiet (s.pollSeen p) := by
  unfold State.pollSeen
  extract_lets k o n s₀ s₁ s₂ s₃
  have hseen : s.Quiet s₀ := .ofSame rfl rfl rfl rfl rfl
  have hphases : s.Quiet s₃ := ((hseen.thenPostIf _ _ _ _).thenPostIf _ _ _ _).thenPostIf _ _ _ _
  exact hphases.trans (.foldl _ (fun s _ _ => .ite (.refl s) (.ite (.post s _ _ _) (.ite (.post s _ _ _) (.refl s)))) _)

theorem State.updateExclusions_quiet (s : State) : s.Quiet s.updateExclusions :=
  .foldl _ (fun s p _ => .foldl _ (fun s _ hi => .ite (.updPkg s p fun k => k.writeExclusions_polled (List.mem_range.mp hi) _) (.refl s)) s) s

theorem State.reportPart_quiet (s : State) (id : Nat) (was now : Bool) : s.Quiet (s.reportPart id was now) :=
  (s.setPartReady_quiet id now).thenPostIf _ _ _ _

/-! ### Judging (R710–R712, R715) -/

/-- A package shows the readiness of the rack. -/
def Pkg.showRack (ready : Bool) (cores : Nat) (k : Pkg) : Pkg := if k.hubOn then
  ((k.setF F.GLB_RACK_RDY (if ready then 1 else 0)).setF F.GLB_RACK_FLOOR_MET (if decide (4000 ≤ cores) then 1 else 0)).setF F.GLB_RACK_CORES cores else k

theorem Pkg.showRack_polled (ready : Bool) (cores : Nat) (k : Pkg) : k.Polled (k.showRack ready cores) :=
  .ite (((Pkg.Polled.setF k _ (by decide)).trans (.setF _ _ (by decide))).trans (.setF _ _ (by decide))) (.refl k)

theorem Pkg.showRack_shows {k : Pkg} (h : k.hubOn = true) (ready : Bool) (cores : Nat) : (k.showRack ready cores).getF F.GLB_RACK_CORES = cores % 2 ^ 16 ∧
    (k.showRack ready cores).getF F.GLB_RACK_FLOOR_MET = if 4000 ≤ cores then 1 else 0 := by
  rw [Pkg.showRack, if_pos h, Pkg.getF_setF_same _ _ _ rfl, Pkg.getF_setF_apart _ _ _ _ (by decide), Pkg.getF_setF_same _ _ _ rfl]
  refine ⟨rfl, ?_⟩
  simp only [decide_eq_true_eq]
  split <;> rfl

/-- The partitions of the rack are judged. -/
def State.partsJudged (s : State) (l : Lineup) (rack t : Nat) : State :=
  (l.parts.filter (fun (e : PartEntry) => bit e.racks rack)).foldl (fun (s : State) e =>
    let was := s.pkgs.toList.any (fun k => k.slotHeld e.slot && k.flag (F.GLB_PART_READY e.slot))
    s.reportPart e.id was (s.judgePart l e rack was t)) s

theorem State.partsJudged_quiet (s : State) (l : Lineup) (rack t : Nat) : s.Quiet (s.partsJudged l rack t) := .foldl _ (fun s _ _ => s.reportPart_quiet _ _ _) s

/-- Every package and every partition of the rack is ready. -/
def State.rackWhole (s : State) (l : Lineup) (rack : Nat) : Bool := s.pkgs.toList.all (fun k => k.isReady) &&
  (l.parts.filter (fun (e : PartEntry) => bit e.racks rack)).all (fun (e : PartEntry) => s.pkgs.toList.all (fun k => k.flag (F.GLB_PART_READY e.slot)))

/-- A judged rack: its partitions, then the packages by one readiness, then what is told. -/
theorem State.judge_of_lineup {s : State} {l : Lineup} (h : s.lineup = some l) (t : Nat) : ∃ rack ready,
    ((s.partsJudged l rack t).mapPkgs (Pkg.showRack ready (s.partsJudged l rack t).logicalTotal)).Quiet (s.judge t) ∧
    (s.judge t).pkgs = ((s.partsJudged l rack t).mapPkgs (Pkg.showRack ready (s.partsJudged l rack t).logicalTotal)).pkgs := by
  have found : ∃ k0, s.pkgs.toList.find? (fun k => k.lup.active.isSome) = some k0 := by
    unfold State.lineup at h
    cases hf : s.pkgs.toList.find? (fun k => k.lup.active.isSome) with
    | none => rw [hf] at h; cases h
    | some k0 => exact ⟨k0, rfl⟩
  have posted (s : State) (c : Prop) [Decidable c] (n : String) (v : Severity) (a : Nat) : (if c then s.post n v a else s).pkgs = s.pkgs := by split <;> rfl
  obtain ⟨k0, hk0⟩ := found
  unfold State.judge
  rw [h, hk0]
  dsimp only
  refine ⟨k0.rack, (s.partsJudged l k0.rack t).rackWhole l k0.rack && decide (4000 ≤ (s.partsJudged l k0.rack t).logicalTotal), ?_, (posted _ _ _ _ _).trans (posted _ _ _ _ _)⟩
  exact ((State.Quiet.thenPostIf (.refl _) _ _ _ _).thenPostIf _ _ _ _).trans (.ofSame rfl rfl rfl rfl rfl)

theorem State.judge_quiet (s : State) (t : Nat) : s.Quiet (s.judge t) := by
  cases h : s.lineup with
  | none =>
    have : s.judge t = s := by unfold State.judge; rw [h]
    rw [this]
    exact .refl s
  | some l =>
    obtain ⟨rack, ready, quiet, -⟩ := State.judge_of_lineup h t
    exact ((s.partsJudged_quiet l rack t).trans (.mapPkgs _ (Pkg.showRack_polled ready _))).trans quiet

end Sys2Proof.Machine
end

section
/-! PROOFS. The primary's commands (R811, R883, R888): the share, the poll unit by unit, summaries and decisions; O49. -/

namespace Sys2Proof.Machine

/-! ### What a view of the rack depends on -/

theorem State.map_pkgs_congr {α : Type} {s t : State} {g : Pkg → α} (h : ∀ p : PkgId, g (t.pkg p) = g (s.pkg p)) : t.pkgs.toList.map g = s.pkgs.toList.map g := by
  refine List.ext_getElem (by simp) fun i h₁ h₂ => ?_
  have hi : i < 72 := by simpa using h₁
  have := h ⟨i, hi⟩
  simpa [State.pkg] using this

theorem State.any_pkgs_congr {s t : State} {g g' : Pkg → Bool} (h : ∀ p : PkgId, g' (t.pkg p) = g (s.pkg p)) : t.pkgs.toList.any g' = s.pkgs.toList.any g := by
  rw [Bool.eq_iff_iff, List.any_eq_true, List.any_eq_true]
  have mem (s : State) (p : PkgId) : s.pkg p ∈ s.pkgs.toList := Vector.mem_toList_iff.mpr (Vector.getElem_mem p.isLt)
  have named (s : State) {k : Pkg} (hk : k ∈ s.pkgs.toList) : ∃ p : PkgId, s.pkg p = k := by
    obtain ⟨i, hi, rfl⟩ := Vector.mem_iff_getElem.mp (Vector.mem_toList_iff.mp hk)
    exact ⟨⟨i, hi⟩, rfl⟩
  constructor
  · rintro ⟨k, hk, hg⟩
    obtain ⟨p, rfl⟩ := named t hk
    exact ⟨_, mem s p, (h p).symm.trans hg⟩
  · rintro ⟨k, hk, hg⟩
    obtain ⟨p, rfl⟩ := named s hk
    exact ⟨_, mem t p, (h p).trans hg⟩

/-- The first value that a list's members have. -/
theorem find?_bind_eq {α β : Type} (g : α → Option β) (l : List α) : (l.find? (fun k => (g k).isSome)).bind g = (l.map g).findSome? id := by
  induction l with
  | nil => rfl
  | cons x xs ih =>
    rw [List.find?_cons, List.map_cons, List.findSome?_cons]
    cases hx : g x with
    | none => exact ih
    | some y => exact hx

section Congr

variable {s t : State} (h : ∀ p : PkgId, (s.pkg p).Polled (t.pkg p))

include h

theorem State.lineup_congr : t.lineup = s.lineup := by
  have lineups : t.pkgs.toList.map (fun k => k.lup.active) = s.pkgs.toList.map (fun k => k.lup.active) := State.map_pkgs_congr fun p => by rw [(h p).lup]
  unfold State.lineup
  rw [find?_bind_eq, find?_bind_eq, lineups]

theorem State.mgmt_congr : t.mgmt = s.mgmt := by
  unfold State.mgmt
  rw [State.lineup_congr h]

theorem State.mgmtView_congr (answers : Nat) (p : PkgId) : t.mgmtView answers p = s.mgmtView answers p := by
  unfold State.mgmtView
  rw [s.pkgs_get, t.pkgs_get]
  dsimp only
  rw [(h p).hubOn]

theorem State.dataView_congr (answers : Nat) (p : PkgId) : t.dataView answers p = s.dataView answers p := by
  refine State.any_pkgs_congr fun q => ?_
  simp only [(h q).id, (h q).hubOn, (h q).lup, (h q).rack, (h q).linkSt]

theorem State.logicalTotal_congr : t.logicalTotal = s.logicalTotal := by
  have cores (q : PkgId) : (t.pkg q).logicalCores = (s.pkg q).logicalCores := by
    unfold Pkg.logicalCores
    rw [(h q).getF (f := F.GLB_SPARE_POLICY) (.inl (by decide))]
  have small (k : Pkg) : k.logicalCores ≤ 60 := by unfold Pkg.logicalCores; split <;> decide
  refine congrArg List.sum (State.map_pkgs_congr fun q => ?_)
  have vacant : (List.range (s.pkg q).logicalCores).filter (fun g => !(t.pkg q).flag (F.GLB_ME_VACANT g)) =
      (List.range (s.pkg q).logicalCores).filter (fun g => !(s.pkg q).flag (F.GLB_ME_VACANT g)) := by
    refine List.filter_congr fun g hg => ?_
    have hg := List.mem_range.mp hg
    have := small (s.pkg q)
    rw [(h q).flag (.inr (.inl (by simp only [F.GLB_ME_VACANT]; omega)))]
  rw [cores, (h q).bring, vacant]

end Congr

/-- A judged rack shows its logical cores at every powered package. -/
theorem State.judge_shows {s : State} (h : s.lineup.isSome = true) (t : Nat) {p : PkgId} (hp : (s.pkg p).hubOn = true) :
    ((s.judge t).pkg p).getF F.GLB_RACK_CORES = s.logicalTotal % 2 ^ 16 ∧
    ((s.judge t).pkg p).getF F.GLB_RACK_FLOOR_MET = if 4000 ≤ s.logicalTotal then 1 else 0 := by
  obtain ⟨l, hl⟩ := Option.isSome_iff_exists.mp h
  obtain ⟨rack, ready, -, hpkgs⟩ := State.judge_of_lineup hl t
  have judged := s.partsJudged_quiet l rack t
  have shown : (s.judge t).pkg p = ((s.partsJudged l rack t).pkg p).showRack ready s.logicalTotal := by
    have same : (s.judge t).pkg p = ((s.partsJudged l rack t).mapPkgs (Pkg.showRack ready (s.partsJudged l rack t).logicalTotal)).pkg p := by
      unfold State.pkg
      rw [hpkgs]
    rw [same, State.pkg_mapPkgs, State.logicalTotal_congr judged.pkgs]
  rw [shown]
  exact Pkg.showRack_shows ((judged.pkgs p).hubOn.trans hp) ready s.logicalTotal

/-! ### The rules of unit states (R883) -/

section Rules

variable {g : LupMgmt} {x : UnitState} {safed : Bool} {t : Nat}

theorem nextUnit_unsafe (mgmt data : Bool) (h : x.state ≠ 3) : nextUnit g x true safed mgmt data t = { state := 3, since := t } :=
  (if_pos rfl).trans (if_neg h)

theorem nextUnit_silent (mgmt : Bool) (h : x.state < 2) : nextUnit g x false safed mgmt false t = { state := 2, since := t } := by
  have notDown : (safed && x.state == 2) = false := by
    rw [Bool.and_eq_false_iff]
    exact .inr (by simp; omega)
  unfold nextUnit
  rw [if_neg (by decide), if_pos (by decide), if_neg (by rw [notDown]; decide), if_neg (by omega), if_neg (by omega)]

/-- What management's view makes of a unit whose data path is seen. -/
def viewedUnit (g : LupMgmt) (x : UnitState) (mgmt : Bool) (t : Nat) : UnitState :=
  if !mgmt then (if x.state = 0 then { state := 1, since := t } else { x with agree := 0 })
  else if x.state = 0 then x
  else if x.agree + 1 ≥ g.contestUp then { state := 0, since := t }
  else { x with agree := x.agree + 1 }

/-- With its data path seen, a unit goes by management's view, and DOWN once contested for long enough. -/
theorem nextUnit_seen {mgmt : Bool} {y : UnitState} (h : viewedUnit g x mgmt t = y) : nextUnit g x false safed mgmt true t =
    if y.state = 1 ∧ y.since + g.contestDown * 2000000000 ≤ t then { state := 2, since := t } else y := by
  subst h
  rfl

theorem nextUnit_up (h : x.state = 0) : nextUnit g x false safed true true t = x := by
  have view : viewedUnit g x true t = x := (if_neg (by decide)).trans (if_pos h)
  rw [nextUnit_seen view, if_neg (by omega)]

theorem nextUnit_contested (h : x.state = 0) (hdown : 0 < g.contestDown) : nextUnit g x false safed false true t = { state := 1, since := t } := by
  have view : viewedUnit g x false t = { state := 1, since := t } := (if_pos (by decide)).trans (if_pos h)
  rw [nextUnit_seen view, if_neg (by dsimp only; omega)]

theorem nextUnit_down (h : x.state = 1) (hdue : x.since + g.contestDown * 2000000000 ≤ t) : nextUnit g x false safed false true t = { state := 2, since := t } := by
  have view : viewedUnit g x false t = { x with agree := 0 } := (if_pos (by decide)).trans (if_neg (by omega))
  rw [nextUnit_seen view, if_pos ⟨h, hdue⟩]

theorem nextUnit_agreed (h : x.state ≠ 0) (hup : g.contestUp ≤ x.agree + 1) : nextUnit g x false safed true true t = { state := 0, since := t } := by
  have view : viewedUnit g x true t = { state := 0, since := t } := (if_neg (by decide)).trans ((if_neg h).trans (if_pos hup))
  rw [nextUnit_seen view, if_neg (by dsimp only; omega)]

theorem nextUnit_agrees (h : x.state = 3) (hup : x.agree + 1 < g.contestUp) : nextUnit g x false safed true true t = { x with agree := x.agree + 1 } := by
  have view : viewedUnit g x true t = { x with agree := x.agree + 1 } := (if_neg (by decide)).trans ((if_neg (by omega)).trans (if_neg (by omega)))
  rw [nextUnit_seen view, if_neg (by dsimp only; omega)]

end Rules

/-! ### The poll -/

/-- The unit state a poll finds. -/
def State.pollNext (s : State) (answers t : Nat) (p : PkgId) : UnitState :=
  nextUnit s.mgmt (s.unit p) (s.pkg p).unsafe_ ((s.tray (trayOf p)).lamp == .blue) (s.mgmtView answers p) (s.dataView answers p) t

/-- The poll of one package. -/
def State.pollOne (answers t : Nat) (s : State) (p : PkgId) : State :=
  let s := s.pollUnit answers t p
  if s.mgmtView answers p then s.pollSeen p else s

theorem State.pollOne_quiet (s : State) (answers t : Nat) (p : PkgId) : (s.setUnit p (s.pollNext answers t p)).Quiet (s.pollOne answers t p) := by
  have shown (s : State) (v : Nat) : s.Quiet (s.updPkg p (fun k => k.setF F.GLB_MG_STATE v)) := .updPkg s p fun k => .setF k v (by decide)
  have unit : (s.setUnit p (s.pollNext answers t p)).Quiet (s.pollUnit answers t p) := by
    have posted := (s.setUnit p (s.pollNext answers t p)).postUnit_quiet p (s.unit p).state (s.pollNext answers t p).state
    have told : (s.setUnit p (s.pollNext answers t p)).Quiet (if (s.pkg p).hubOn ∧ bit answers (trayOf p) then
        ((s.setUnit p (s.pollNext answers t p)).postUnit p (s.unit p).state (s.pollNext answers t p).state).updPkg p (fun k => k.setF F.GLB_MG_STATE (s.pollNext answers t p).state)
        else (s.setUnit p (s.pollNext answers t p)).postUnit p (s.unit p).state (s.pollNext answers t p).state) := .ite (posted.trans (shown _ _)) posted
    exact .ite (told.trans (State.clearReady_quiet _ p)) told
  exact .ite (unit.trans (State.pollSeen_quiet _ p)) unit

/-- What a poll keeps while it goes from package to package. -/
structure State.Polling (s : State) (u : Nat) (t : State) : Prop where
  pkgs : ∀ p : PkgId, (s.pkg p).Polled (t.pkg p)
  trays : t.trays = s.trays
  primary : t.primary = some u
  polled : (t.ump u).polled = (s.ump u).polled
  events : ∀ e ∈ s.events, e ∈ t.events

theorem State.Polling.quiet {s t t' : State} {u : Nat} (h : s.Polling u t) (g : t.Quiet t') : s.Polling u t' :=
  ⟨fun p => (h.pkgs p).trans (g.pkgs p), g.trays.trans h.trays, g.primary.trans h.primary, (congrArg Umpire.polled (g.ump u)).trans h.polled,
    fun e he => g.events e (h.events e he)⟩

theorem State.setUnit_eq {s : State} {u : Nat} (h : s.primary = some u) (p : Nat) (x : UnitState) : s.setUnit p x =
    s.updUmp u (fun y => { y with mir := { y.mir with units := y.mir.units.setIfInBounds p x } }) := State.updMir_eq h _

theorem State.Polling.setUnit {s t : State} {u : Nat} (h : s.Polling u t) (p : Nat) (x : UnitState) : s.Polling u (t.setUnit p x) := by
  rw [State.setUnit_eq h.primary]
  refine ⟨h.pkgs, h.trays, (t.primary_updUmp u (f := fun y => { y with mir := { y.mir with units := y.mir.units.setIfInBounds p x } }) fun _ => rfl).trans h.primary,
    ?_, h.events⟩
  rw [t.ump_updUmp_same (State.primary_lt h.primary)]
  exact h.polled

theorem State.unit_setUnit_other {s : State} {u : Nat} (h : s.primary = some u) {p q : Nat} (hne : q ≠ p) (x : UnitState) : (s.setUnit p x).unit q = s.unit q := by
  unfold State.unit State.setUnit
  rw [State.mir_updMir h]
  simp [List.getD, Ne.symm hne]

section Poll

variable {s t : State} {u answers now : Nat}

theorem State.Polling.pollOne (h : s.Polling u t) (p : PkgId) : s.Polling u (t.pollOne answers now p) := (h.setUnit p _).quiet (t.pollOne_quiet answers now p)

/-- What is polled of a package depends on what the poll keeps, and on its unit state. -/
theorem State.Polling.pollNext (h : s.Polling u t) {p : PkgId} (hunit : t.unit p = s.unit p) : t.pollNext answers now p = s.pollNext answers now p := by
  have tray : t.tray (trayOf p) = s.tray (trayOf p) := by unfold State.tray; rw [h.trays]
  unfold State.pollNext
  rw [State.mgmt_congr h.pkgs, hunit, (h.pkgs p).unsafe_, tray, State.mgmtView_congr h.pkgs, State.dataView_congr h.pkgs]

/-- After a poll of all packages every unit state is the one its poll finds. -/
theorem State.pollAll_shows (hprimary : s.primary = some u) : s.Polling u ((List.finRange 72).foldl (State.pollOne answers now) s) ∧
    ∀ p : PkgId, ((List.finRange 72).foldl (State.pollOne answers now) s).unit p = s.pollNext answers now p := by
  have start : s.Polling u s := ⟨fun _ => .refl _, rfl, hprimary, rfl, fun _ he => he⟩
  have other {t : State} {p q : PkgId} (h : s.Polling u t) (hq : q ≠ p) : (t.pollOne answers now q).unit p = t.unit p :=
    ((t.pollOne_quiet answers now q).unit p).trans (State.unit_setUnit_other h.primary (fun e => hq (Fin.ext e.symm)) _)
  refine ⟨List.foldlRecOn _ _ (motive := s.Polling u) start fun t h p _ => h.pollOne p, fun p => ?_⟩
  refine (foldl_ownTurn (A := fun t : State => s.Polling u t ∧ t.unit p = s.unit p) (B := fun t : State => s.Polling u t ∧ t.unit p = s.pollNext answers now p)
    ?_ ?_ ?_ (List.nodup_finRange 72) (List.mem_finRange p) ⟨start, rfl⟩).2
  · rintro t ⟨h, hunit⟩
    refine ⟨h.pollOne p, ?_⟩
    rw [(t.pollOne_quiet answers now p).unit, State.unit_setUnit h.primary, h.pollNext hunit]
  · rintro t q - hq ⟨h, hunit⟩
    exact ⟨h.pollOne q, (other h hq).trans hunit⟩
  · rintro t q - hq ⟨h, hunit⟩
    exact ⟨h.pollOne q, (other h hq).trans hunit⟩

/-- The umpire has polled; its first poll after a failover is told. -/
def State.pollBegun (s : State) (u : Nat) : State :=
  let t := s.updUmp u (fun (x : Umpire) => { x with polled := true })
  if !(s.ump u).polled && decide (0 < (s.ump (1 - u)).asserted) then t.post "UmpireFailover" .warning u else t

theorem exec_umpirePoll (hprimary : s.primary = some u) (hpaired : s.paired = true) : exec (.umpirePoll answers now) s =
    .next ((((List.finRange 72).foldl (State.pollOne answers now) (s.pollBegun u)).updateExclusions).judge now) := by
  show (match s.primary with
    | none => Host.Outcome.next s
    | some u => if !s.paired then .next s else .next ((((List.finRange 72).foldl (State.pollOne answers now) (s.pollBegun u)).updateExclusions).judge now)) = _
  rw [hprimary]
  exact if_neg (by rw [hpaired]; decide)

theorem State.pollBegun_shows (hprimary : s.primary = some u) : (s.pollBegun u).primary = some u ∧ ((s.pollBegun u).ump u).polled = true ∧
    (s.pollBegun u).pkgs = s.pkgs ∧ (s.pollBegun u).trays = s.trays ∧ (s.pollBegun u).mir = s.mir ∧
    ((s.ump u).polled = false → 0 < (s.ump (1 - u)).asserted → ∃ e ∈ (s.pollBegun u).events, e.name = "UmpireFailover" ∧ e.arg = u) := by
  have hu := State.primary_lt hprimary
  have led : (s.updUmp u (fun (x : Umpire) => { x with polled := true })).primary = some u :=
    (s.primary_updUmp u (f := fun (x : Umpire) => { x with polled := true }) fun _ => rfl).trans hprimary
  have umpires : (s.pollBegun u).umpires = (s.updUmp u (fun (x : Umpire) => { x with polled := true })).umpires := by
    unfold State.pollBegun
    dsimp only
    split <;> rfl
  refine ⟨(State.primary_congr umpires).trans led, ?_, ?_, ?_, ?_, fun hfirst hother => ?_⟩
  · rw [State.ump_congr umpires, s.ump_updUmp_same hu]
  · unfold State.pollBegun
    dsimp only
    split <;> rfl
  · unfold State.pollBegun
    dsimp only
    split <;> rfl
  · rw [State.mir_congr umpires, State.mir_eq led, State.mir_eq hprimary, s.ump_updUmp_same hu]
  · have told : (!(s.ump u).polled && decide (0 < (s.ump (1 - u)).asserted)) = true := by
      rw [hfirst, decide_eq_true hother]
      rfl
    unfold State.pollBegun
    dsimp only
    rw [if_pos told]
    exact ⟨_, List.mem_cons_self, rfl, rfl⟩

end Poll

/-! ### The share (R811) -/

section Share

variable {s : State} {u t₀ : Nat}

theorem State.pkg_updTrayPkgs_other (s : State) {n : Nat} (f : Pkg → Pkg) {p : PkgId} (h : trayOf p ≠ n) : (s.updTrayPkgs n f).pkg p = s.pkg p :=
  (State.pkg_foldl_updNat (nodup_trayPkgs n) s _ p).trans (if_neg fun hmem => h (mem_trayPkgs.mp hmem))

/-- A package whose lineup is ACTIVE takes the share. -/
def Pkg.takeShare (share t : Nat) (k : Pkg) : Pkg := if k.lup.active.isSome then ((k.at t).setF F.PWR_SHARE_W share).noteLimits k else k

/-- The share is kept and sent, before the packages have it. -/
def State.shareSent (s : State) (u share t : Nat) : State :=
  (s.updMir (fun (m : Mirror) => { m with share := share })).busSend 0x30 (u + 1)
    ((s.updMir (fun (m : Mirror) => { m with share := share })).busFlags (u + 1) t) ((s.updMir (fun (m : Mirror) => { m with share := share })).busTime t) [share]

/-- The share of R811. -/
def State.shareOf (s : State) (output inputs : Nat) : Nat :=
  min ((s.lineup.map (fun l => l.power.budget)).getD 0) (s.capacity - (output - inputs)) / 72

/-- The TMCs of the packages write the share. -/
def State.shareWritten (s : State) (share t : Nat) : State :=
  (List.range 18).foldl (fun (s : State) n => if s.tmcUp n then s.updTrayPkgs n (Pkg.takeShare share t) else s) s

theorem exec_shareCompute (hprimary : s.primary = some u) (hpaired : s.paired = true) (output inputs : Nat) : exec (.shareCompute output inputs t₀) s =
    .next ((s.shareSent u (s.shareOf output inputs) t₀).shareWritten (s.shareOf output inputs) t₀) := by
  show (match s.primary with
    | none => Host.Outcome.next s
    | some u => if !s.paired then .next s else .next ((s.shareSent u (s.shareOf output inputs) t₀).shareWritten (s.shareOf output inputs) t₀)) = _
  rw [hprimary]
  exact if_neg (by rw [hpaired]; decide)

theorem State.shareWritten_pkgsOnly (s : State) (share t : Nat) : s.PkgsOnly (s.shareWritten share t) :=
  .foldl _ (fun s n => by split; exacts [s.updTrayPkgs_pkgsOnly n _, .refl s]) s

theorem State.pkg_shareWritten (s : State) (share t : Nat) {p : PkgId} (hup : s.tmcUp (trayOf p) = true) (hhub : (s.pkg p).hubOn = true) :
    (s.shareWritten share t).pkg p = (s.pkg p).takeShare share t := by
  have up (j : State) (h : s.PkgsOnly j) (n : Nat) : s.PkgsOnly (if j.tmcUp n then j.updTrayPkgs n (Pkg.takeShare share t) else j) := by
    split
    exacts [h.trans (j.updTrayPkgs_pkgsOnly n _), h]
  have other (j : State) {n : Nat} (hn : n ≠ trayOf p) : (if j.tmcUp n then j.updTrayPkgs n (Pkg.takeShare share t) else j).pkg p = j.pkg p := by
    split
    exacts [j.pkg_updTrayPkgs_other _ (Ne.symm hn), rfl]
  refine (foldl_ownTurn (A := fun j : State => s.PkgsOnly j ∧ j.pkg p = s.pkg p) (B := fun j : State => s.PkgsOnly j ∧ j.pkg p = (s.pkg p).takeShare share t) ?_ ?_ ?_
    List.nodup_range (List.mem_range.mpr (show trayOf p < 18 by unfold trayOf; omega)) ⟨.refl s, rfl⟩).2
  · rintro j ⟨h, hpkg⟩
    refine ⟨up j h _, ?_⟩
    rw [if_pos ((h.tmcUp _).trans hup), State.pkg_updTrayPkgs, hpkg, if_pos hhub]
  · rintro j n - hn ⟨h, hpkg⟩
    exact ⟨up j h n, (other j hn).trans hpkg⟩
  · rintro j n - hn ⟨h, hpkg⟩
    exact ⟨up j h n, (other j hn).trans hpkg⟩

theorem shareCompute_completes (hprimary : s.primary = some u) (hpaired : s.paired = true) (output inputs : Nat) :
    Completes (.shareCompute output inputs t₀) s (fun t => t.mir.share = s.shareOf output inputs ∧
      (∃ m, t.bus.last = some m ∧ m.type = 0x30 ∧ m.node = u + 1 ∧ m.body = [s.shareOf output inputs]) ∧
      ∀ p : PkgId, s.tmcUp (trayOf p) = true → (s.pkg p).hubOn = true → (s.pkg p).lup.active.isSome = true →
        (t.pkg p).getF F.PWR_SHARE_W = s.shareOf output inputs % 2 ^ 16) := by
  obtain ⟨share, hshare⟩ : ∃ x, x = s.shareOf output inputs := ⟨_, rfl⟩
  have sent : ∃ b, s.shareSent u share t₀ = { s.updMir (fun (m : Mirror) => { m with share := share }) with bus := b } ∧
      ∃ m, b.last = some m ∧ m.type = 0x30 ∧ m.node = u + 1 ∧ m.body = [share] := ⟨_, rfl, _, rfl, rfl, rfl, rfl⟩
  obtain ⟨b, hsent, hlast⟩ := sent
  obtain ⟨ps, honly⟩ := (s.shareSent u share t₀).shareWritten_pkgsOnly share t₀
  have base (p : PkgId) : (s.shareSent u share t₀).pkg p = s.pkg p := by rw [hsent, State.updMir_eq hprimary]; rfl
  refine ⟨_, exec_shareCompute hprimary hpaired output inputs, ?_, ?_, fun p hup hhub hactive => ?_⟩
  · rw [← hshare, State.mir_congr (s := s.updMir (fun (m : Mirror) => { m with share := share })) (by rw [honly, hsent]), State.mir_updMir hprimary]
  · rw [← hshare, honly, hsent]
    exact hlast
  · have tmc : (s.shareSent u share t₀).tmcUp (trayOf p) = true := by rw [hsent, State.updMir_eq hprimary]; exact hup
    rw [← hshare, State.pkg_shareWritten _ share t₀ tmc (by rw [base]; exact hhub), base, Pkg.takeShare, if_pos hactive,
      Pkg.getF_noteLimits _ _ (by decide) (by decide), Pkg.getF_setF_same _ _ _ rfl]
    rfl

end Share

/-! ### Other racks (R888) -/

/-- A summary takes the place of an earlier one of the same rack and partition. -/
def State.takeSummary (s : State) (y : Summary) : State := { s with summaries := y :: s.summaries.filter (fun (x : Summary) => !(x.rack == y.rack && x.part == y.part)) }

/-- A decision takes the place of an earlier one about the same partition. -/
def State.takeDecision (s : State) (part : Nat) (ready : Bool) : State := { s with decisions := (part, ready) :: s.decisions.filter (fun d => d.1 != part) }

/-- Whether a package shows the partition ready. -/
def State.partWas (s : State) (part : Nat) : Bool :=
  s.pkgs.toList.any (fun k => (List.range 4).any (fun i => k.slotHeld i && k.getF (F.LUP_PART_ID i) == part && k.flag (F.GLB_PART_READY i)))

/-- A package shows a partition's readiness at every slot that holds it. -/
theorem Pkg.showPartReady_shows (k : Pkg) {i part : Nat} (hi : i < 4) (hheld : k.slotHeld i = true) (hpart : k.getF (F.LUP_PART_ID i) = part) (ready : Bool) :
    (k.showPartReady part ready).getF (F.GLB_PART_READY i) = if ready then 1 else 0 := by
  have far {f : Fld} (hf : 0x80000 ≤ f.off) (j : Pkg) (x v : Nat) (hx : x < 4) : (j.setF (F.GLB_PART_READY x) v).getF f = j.getF f :=
    Pkg.getF_setF_apart _ _ _ _ (Fld.apart_of_off (by simp only [F.GLB_PART_READY]; omega))
  refine foldl_ownTurn (A := fun j : Pkg => j.getF F.LUP_SLOTS = k.getF F.LUP_SLOTS ∧ j.getF (F.LUP_PART_ID i) = part)
    (B := fun j : Pkg => j.getF (F.GLB_PART_READY i) = if ready then 1 else 0) ?_ ?_ ?_ List.nodup_range (List.mem_range.mpr hi) ⟨rfl, hpart⟩
  · rintro j ⟨hslots, hid⟩
    have held : j.slotHeld i = true := by unfold Pkg.slotHeld at hheld ⊢; rw [hslots]; exact hheld
    rw [if_pos ⟨held, hid⟩, Pkg.getF_setF_same _ _ _ rfl]
    cases ready <;> rfl
  · rintro j x hx - ⟨hslots, hid⟩
    have hx := List.mem_range.mp hx
    split
    · exact ⟨(far (by decide) j x _ hx).trans hslots, (far (by simp only [F.LUP_PART_ID]; omega) j x _ hx).trans hid⟩
    · exact ⟨hslots, hid⟩
  · rintro j x - hne h
    split
    · rw [Pkg.getF_setF_apart _ _ _ _ (Fld.apart_of_off (by simp only [F.GLB_PART_READY]; omega))]
      exact h
    · exact h

section Others

variable {s : State} {u t₀ : Nat} (hprimary : s.primary = some u) (hpaired : s.paired = true)

include hprimary hpaired

theorem rackSummaryRead_completes (rack part : Nat) (ready : Bool) (cores : Nat) (reach rings : Bool) (excluded : List Nat) :
    Completes (.rackSummaryRead rack part ready cores reach rings excluded t₀) s (fun t => t.umpires = s.umpires ∧
      t.summary rack part t₀ = some ⟨rack, part, ready, cores, reach, rings, excluded, t₀⟩) := by
  obtain ⟨y, hy⟩ : ∃ y : Summary, y = ⟨rack, part, ready, cores, reach, rings, excluded, t₀⟩ := ⟨_, rfl⟩
  have quiet := (s.takeSummary y).updateExclusions_quiet.trans (State.judge_quiet _ t₀)
  have fresh : (y.rack == rack && y.part == part && decide (t₀ ≤ y.readAt + 10000000000)) = true := by simp [hy]
  refine ⟨((s.takeSummary y).updateExclusions).judge t₀, ?_, quiet.umpires, ?_⟩
  · rw [hy]
    exact if_neg (by rw [hprimary, hpaired]; exact not_or.mpr ⟨Bool.false_ne_true, Bool.false_ne_true⟩)
  · unfold State.summary
    rw [quiet.summaries, State.takeSummary, ← hy]
    exact List.find?_cons_of_pos fresh

theorem setPartitionReady_completes (part : Nat) (ready : Bool) : Completes (.setPartitionReady part ready) s (fun t => (part, ready) ∈ t.decisions ∧
    (∀ d ∈ t.decisions, d.1 = part → d.2 = ready) ∧ t.action = 0 ∧
    ∀ (p : PkgId) (i : Nat), i < 4 → (s.pkg p).slotHeld i = true → (s.pkg p).getF (F.LUP_PART_ID i) = part →
      (t.pkg p).getF (F.GLB_PART_READY i) = if ready then 1 else 0) := by
  obtain ⟨t, ht⟩ : ∃ t, t = (s.answer 0).takeDecision part ready := ⟨_, rfl⟩
  have known : (s.answer 0).paired = true := hpaired
  have told : ∃ es n, t.reportPart part (t.partWas part) ready = { t.setPartReady part ready with events := es, nextEvent := n } := by
    unfold State.reportPart
    dsimp only
    split
    exacts [⟨_, _, rfl⟩, ⟨_, _, rfl⟩]
  obtain ⟨es, n, e⟩ := told
  refine ⟨t.reportPart part (t.partWas part) ready, ?_, ?_⟩
  · refine congrArg Host.Outcome.next ((State.asAction_of_primary (.inr (by rw [hprimary]; rfl)) _).trans ?_)
    rw [if_neg (by rw [known]; decide), ht]
    rfl
  · rw [e, ht]
    refine ⟨List.mem_cons_self, fun d hd hpart => ?_, rfl, fun p i hi hheld hpart => ?_⟩
    · rcases List.mem_cons.mp hd with rfl | hd
      · rfl
      · have := (List.mem_filter.mp hd).2
        simp [hpart] at this
    · show ((State.setPartReady _ part ready).pkg p).getF _ = _
      rw [State.setPartReady_eq, State.pkg_mapPkgs]
      exact Pkg.showPartReady_shows (s.pkg p) hi hheld hpart ready

theorem umpirePoll_completes (answers : Nat) : Completes (.umpirePoll answers t₀) s (fun t => (t.ump u).polled = true ∧
    ((s.ump u).polled = false → 0 < (s.ump (1 - u)).asserted → ∃ e ∈ t.events, e.name = "UmpireFailover" ∧ e.arg = u) ∧
    ∀ p : PkgId, t.unit p = s.pollNext answers t₀ p ∧ (s.lineup.isSome = true → (s.pkg p).hubOn = true →
      (t.pkg p).getF F.GLB_RACK_CORES = s.logicalTotal % 2 ^ 16 ∧ (t.pkg p).getF F.GLB_RACK_FLOOR_MET = (if 4000 ≤ s.logicalTotal then 1 else 0))) := by
  obtain ⟨hled, hpolled, hpkgs, htrays, hmir, hfailover⟩ := State.pollBegun_shows hprimary
  obtain ⟨polling, units⟩ := State.pollAll_shows (answers := answers) (now := t₀) hled
  obtain ⟨j, hj⟩ : ∃ j, j = (List.finRange 72).foldl (State.pollOne answers t₀) (s.pollBegun u) := ⟨_, rfl⟩
  rw [← hj] at polling units
  have same (p : PkgId) : (s.pkg p).Polled ((s.pollBegun u).pkg p) := by
    have : (s.pollBegun u).pkg p = s.pkg p := by unfold State.pkg; rw [hpkgs]
    rw [this]
    exact .refl _
  have next (p : PkgId) : (s.pollBegun u).pollNext answers t₀ p = s.pollNext answers t₀ p := by
    have unit : (s.pollBegun u).unit p = s.unit p := by unfold State.unit; rw [hmir]
    have tray : (s.pollBegun u).tray (trayOf p) = s.tray (trayOf p) := by unfold State.tray; rw [htrays]
    unfold State.pollNext
    rw [State.mgmt_congr same, unit, (same p).unsafe_, tray, State.mgmtView_congr same, State.dataView_congr same]
  have exclusions := j.updateExclusions_quiet
  have judged := exclusions.trans (State.judge_quiet _ t₀)
  have kept (p : PkgId) : (s.pkg p).Polled (j.updateExclusions.pkg p) := ((same p).trans (polling.pkgs p)).trans (exclusions.pkgs p)
  refine ⟨_, exec_umpirePoll hprimary hpaired, ?_, fun hfirst hother => ?_, fun p => ⟨?_, fun hlineup hhub => ?_⟩⟩
  all_goals rw [← hj]
  · rw [judged.ump, polling.polled, hpolled]
  · obtain ⟨e, he, hname⟩ := hfailover hfirst hother
    exact ⟨e, judged.events e (polling.events e he), hname⟩
  · rw [judged.unit, units, next]
  · have cores := State.logicalTotal_congr kept
    rw [← cores]
    exact State.judge_shows ((State.lineup_congr kept).symm ▸ hlineup) t₀ ((kept p).hubOn.trans hhub)

end Others

/-- Settles O49: the share by the trays' TMCs, the units by the rules of a poll, and what other racks tell. -/
theorem thePrimaryPollsAndShares : Obligations.ThePrimaryPollsAndShares := by
  intro s u t₀ hprimary hpaired
  refine ⟨shareCompute_completes hprimary hpaired, fun answers => ?_, rackSummaryRead_completes hprimary hpaired, setPartitionReady_completes hprimary hpaired⟩
  refine (umpirePoll_completes hprimary hpaired answers).mono fun t ⟨hpolled, hfailover, hunits⟩ => ⟨hpolled, hfailover, fun p => ?_⟩
  obtain ⟨hunit, hcores⟩ := hunits p
  dsimp only
  rw [hunit]
  unfold State.pollNext
  refine ⟨?_, ?_, ?_, ?_, ?_, ?_, ?_, hcores⟩
  · intro hsafety
    rw [hsafety]
    exact nextUnit_unsafe _ _
  · intro hsafety hdata
    rw [hsafety, hdata]
    exact nextUnit_silent _
  · intro hsafety hdata hmgmt
    rw [hsafety, hdata, hmgmt]
    exact nextUnit_up
  · intro hsafety hdata hmgmt
    rw [hsafety, hdata, hmgmt]
    exact nextUnit_contested
  · intro hsafety hdata hmgmt
    rw [hsafety, hdata, hmgmt]
    exact nextUnit_down
  · intro hsafety hdata hmgmt
    rw [hsafety, hdata, hmgmt]
    exact nextUnit_agreed
  · intro hsafety hdata hmgmt
    rw [hsafety, hdata, hmgmt]
    exact nextUnit_agrees

end Sys2Proof.Machine
end

section
/-! PROOFS. The boot record (Table 21-7, R915, R916): the two copies, and what a package reads after it has written one; O54. -/

namespace Sys2Proof.Machine

/-! ### Fields of byte strings laid end to end -/

theorem fieldAt_append_left {a b : Bytes} {o n : Nat} (h : o + n ≤ a.length) : fieldAt (a ++ b) o n = fieldAt a o n := by
  unfold fieldAt
  rw [List.drop_append_of_le_length (by omega), List.take_append_of_le_length (by rw [List.length_drop]; omega)]

theorem fieldAt_append_leBytes {a : Bytes} {o : Nat} (n v : Nat) (h : a.length = o) : fieldAt (a ++ leBytes n v) o n = v % 256 ^ n := by
  unfold fieldAt
  rw [List.drop_left' h, List.take_of_length_le (leBytes_length n v).le, leNat_leBytes]

/-! ### A record and its bytes -/

/-- A record as it is read back: each field cut to its bytes. -/
def BootRec.stored (r : BootRec) : BootRec :=
  ⟨r.active % 2 ^ 8, r.state % 2 ^ 8, r.wdog % 2 ^ 8, r.seq % 2 ^ 32, r.roster % 2 ^ 64, r.actHt % 2 ^ 64, r.windowEnd % 2 ^ 64⟩

/-- A record's bytes before its check. -/
def BootRec.body (r : BootRec) : Bytes :=
  leBytes 4 0x52435442 ++ leBytes 1 1 ++ leBytes 1 r.active ++ leBytes 1 r.state ++ leBytes 1 r.wdog ++ leBytes 4 r.seq
    ++ leBytes 4 0 ++ leBytes 8 r.roster ++ leBytes 8 r.actHt ++ leBytes 8 r.windowEnd ++ leBytes 20 0

theorem BootRec.bytes_eq (r : BootRec) : r.bytes = r.body ++ leBytes 4 (crc32c r.body) := rfl

theorem BootRec.body_length (r : BootRec) : r.body.length = 60 := by simp [BootRec.body]

theorem BootRec.bytes_length (r : BootRec) : r.bytes.length = 64 := by rw [BootRec.bytes_eq, List.length_append, r.body_length, leBytes_length]

/-- The fields of Table 21-7 that the model reads. -/
theorem BootRec.body_fields (r : BootRec) : fieldAt r.body 0 4 = 0x52435442 ∧ fieldAt r.body 4 1 = 1 ∧ fieldAt r.body 5 1 = r.active % 2 ^ 8 ∧
    fieldAt r.body 6 1 = r.state % 2 ^ 8 ∧ fieldAt r.body 7 1 = r.wdog % 2 ^ 8 ∧ fieldAt r.body 8 4 = r.seq % 2 ^ 32 ∧ fieldAt r.body 12 4 = 0 ∧
    fieldAt r.body 16 8 = r.roster % 2 ^ 64 ∧ fieldAt r.body 24 8 = r.actHt % 2 ^ 64 ∧ fieldAt r.body 32 8 = r.windowEnd % 2 ^ 64 ∧ fieldAt r.body 40 20 = 0 := by
  have reads : ∀ n v, fieldAt (leBytes n v) 0 n = v % 256 ^ n := fun n v => fieldAt_append_leBytes (a := []) n v rfl
  unfold BootRec.body
  simp (disch := simp) only [fieldAt_append_left, fieldAt_append_leBytes, reads]
  exact ⟨rfl, rfl, rfl, rfl, rfl, rfl, rfl, rfl, rfl, rfl, rfl⟩

theorem crc32c_lt (b : Bytes) : crc32c b < 256 ^ 4 := (~~~ (b.foldl crcByte 0xFFFFFFFF#32)).isLt

theorem BootRec.fieldAt_bytes (r : BootRec) {o n : Nat} (h : o + n ≤ 60) : fieldAt r.bytes o n = fieldAt r.body o n := by
  rw [BootRec.bytes_eq]
  exact fieldAt_append_left (by rw [r.body_length]; exact h)

theorem BootRec.parse_bytes (r : BootRec) : BootRec.parse r.bytes = r.stored := by
  obtain ⟨-, -, hactive, hstate, hwdog, hseq, -, hroster, hact, hend, -⟩ := r.body_fields
  unfold BootRec.parse BootRec.stored
  rw [r.fieldAt_bytes (by decide), r.fieldAt_bytes (by decide), r.fieldAt_bytes (by decide), r.fieldAt_bytes (by decide), r.fieldAt_bytes (by decide),
    r.fieldAt_bytes (by decide), r.fieldAt_bytes (by decide), hactive, hstate, hwdog, hseq, hroster, hact, hend]

/-- A record with a slot and a state of the table is valid. -/
theorem BootRec.valid_bytes {r : BootRec} (hactive : r.active < 2) (hstate : r.state < 4) : bcValid r.bytes = true := by
  obtain ⟨hmagic, hversion, ha, hs, -, -, hzero, -, -, -, hzeros⟩ := r.body_fields
  have check : fieldAt r.bytes 60 4 = crc32c (r.bytes.take 60) := by
    rw [BootRec.bytes_eq, fieldAt_append_leBytes _ _ r.body_length, List.take_left' r.body_length]
    exact Nat.mod_eq_of_lt (crc32c_lt _)
  unfold bcValid
  rw [r.fieldAt_bytes (by decide), r.fieldAt_bytes (by decide), r.fieldAt_bytes (by decide), r.fieldAt_bytes (by decide), r.fieldAt_bytes (by decide),
    r.fieldAt_bytes (by decide), hmagic, hversion, ha, hs, hzero, hzeros, check, decide_eq_true (show r.active % 2 ^ 8 < 2 by omega),
    decide_eq_true (show r.state % 2 ^ 8 < 4 by omega), beq_self_eq_true, beq_self_eq_true, beq_self_eq_true, beq_self_eq_true]
  rfl

theorem BootRec.parse_lt {b : Bytes} (h : bcValid b = true) : (BootRec.parse b).active < 2 ∧ (BootRec.parse b).state < 4 := by
  unfold bcValid at h
  simp only [Bool.and_eq_true, decide_eq_true_eq] at h
  obtain ⟨⟨⟨⟨⟨-, hactive⟩, hstate⟩, -⟩, -⟩, -⟩ := h
  exact ⟨hactive, hstate⟩

theorem BootRec.parse_seq (b : Bytes) : (BootRec.parse b).seq < 2 ^ 32 ∧ (BootRec.parse b).roster < 2 ^ 64 ∧ (BootRec.parse b).actHt < 2 ^ 64 ∧
    (BootRec.parse b).windowEnd < 2 ^ 64 := ⟨fieldAt_lt_pow b 8 4, fieldAt_lt_pow b 16 8, fieldAt_lt_pow b 24 8, fieldAt_lt_pow b 32 8⟩

/-! ### The copy in use -/

theorem serialLater_next {n : Nat} (h : n < 2 ^ 32) : serialLater ((n + 1) % 2 ^ 32) n = true ∧ serialLater n ((n + 1) % 2 ^ 32) = false := by
  unfold serialLater
  constructor
  · rw [Bool.and_eq_true, decide_eq_true_eq, decide_eq_true_eq]
    omega
  · rw [Bool.and_eq_false_iff, decide_eq_false_iff_not, decide_eq_false_iff_not]
    omega

/-- One of two copies. -/
def copyOf (a b : Bytes) (i : Nat) : Bytes := if i = 0 then a else b

/-- The copy in use is valid. -/
theorem copyInUse_valid {a b : Bytes} {i : Nat} (h : copyInUse bcValid (fun r => fieldAt r 8 4) a b = some i) : i < 2 ∧ bcValid (copyOf a b i) = true := by
  unfold copyInUse at h
  cases ha : bcValid a <;> cases hb : bcValid b <;> rw [ha, hb] at h <;> dsimp only at h
  · cases h
  · cases h; exact ⟨by decide, hb⟩
  · cases h; exact ⟨by decide, ha⟩
  · split at h <;> cases h
    exacts [⟨by decide, hb⟩, ⟨by decide, ha⟩]

/-- A record that follows the one in use, written over the other copy, is then in use. -/
theorem copyInUse_next {a b new : Bytes} {i : Nat} (h : copyInUse bcValid (fun r => fieldAt r 8 4) a b = some i) (hnew : bcValid new = true)
    (hseq : fieldAt new 8 4 = (fieldAt (copyOf a b i) 8 4 + 1) % 2 ^ 32) :
    copyInUse bcValid (fun r => fieldAt r 8 4) (if i = 0 then a else new) (if i = 0 then new else b) = some (1 - i) := by
  obtain ⟨hi, hvalid⟩ := copyInUse_valid h
  obtain ⟨later, earlier⟩ := serialLater_next (n := fieldAt (copyOf a b i) 8 4) (fieldAt_lt_pow _ 8 4)
  obtain rfl | rfl : i = 0 ∨ i = 1 := by omega
  · have ha : bcValid a = true := hvalid
    unfold copyInUse
    rw [if_pos rfl, if_pos rfl, ha, hnew]
    dsimp only
    exact if_pos (show serialLater (fieldAt new 8 4) (fieldAt a 8 4) = true by rw [hseq]; exact later)
  · have hb : bcValid b = true := hvalid
    unfold copyInUse
    rw [if_neg (by decide), if_neg (by decide), hb, hnew]
    dsimp only
    exact if_neg (show ¬ serialLater (fieldAt b 8 4) (fieldAt new 8 4) = true by rw [hseq]; exact Bool.eq_false_iff.mp earlier)

/-! ### A package's record -/

/-- The two copies of a package's boot record. -/
def Pkg.bootCopy (k : Pkg) (i : Nat) : Bytes := k.flashRead (i * 0x10000) 64

theorem Pkg.bootRecord_eq (k : Pkg) : k.bootRecord =
    (copyInUse bcValid (fun r => fieldAt r 8 4) (k.bootCopy 0) (k.bootCopy 1)).map (fun i => (i, copyOf (k.bootCopy 0) (k.bootCopy 1) i)) := rfl

theorem Pkg.bc_lt (k : Pkg) : k.bc.active < 2 ∧ k.bc.state < 4 := by
  unfold Pkg.bc
  rw [Pkg.bootRecord_eq]
  cases h : copyInUse bcValid (fun r => fieldAt r 8 4) (k.bootCopy 0) (k.bootCopy 1) with
  | none => exact show (0 : Nat) < 2 ∧ (0 : Nat) < 4 by decide
  | some i => exact BootRec.parse_lt (copyInUse_valid h).2

theorem Pkg.bc_fields_lt (k : Pkg) : k.bc.seq < 2 ^ 32 ∧ k.bc.roster < 2 ^ 64 ∧ k.bc.actHt < 2 ^ 64 ∧ k.bc.windowEnd < 2 ^ 64 := by
  unfold Pkg.bc
  rw [Pkg.bootRecord_eq]
  cases copyInUse bcValid (fun r => fieldAt r 8 4) (k.bootCopy 0) (k.bootCopy 1) with
  | none => exact show (0 : Nat) < 2 ^ 32 ∧ (0 : Nat) < 2 ^ 64 ∧ (0 : Nat) < 2 ^ 64 ∧ (0 : Nat) < 2 ^ 64 by decide
  | some i => exact BootRec.parse_seq _

/-- The copy a new record is written over, and the record. -/
def Pkg.bootTarget (k : Pkg) : Nat := match k.bootRecord with
  | some (i, _) => 1 - i
  | none => 0

def Pkg.nextBoot (k : Pkg) (f : BootRec → BootRec) : BootRec := { f k.bc with seq := (k.bc.seq + 1) % 2 ^ 32 }

/-- The record is written, before its registers are. -/
def Pkg.bootWritten (k : Pkg) (f : BootRec → BootRec) : Pkg :=
  (k.flashErase (k.bootTarget * 0x10000) 0x10000).flashWrite (k.bootTarget * 0x10000) (k.nextBoot f).bytes

theorem Pkg.writeBoot_eq (k : Pkg) (f : BootRec → BootRec) : k.writeBoot f = (k.bootWritten f).showBoot (k.flag F.BOOT_IN_TRIAL) := rfl

theorem Pkg.bootCopy_written_same (k : Pkg) (f : BootRec → BootRec) : (k.bootWritten f).bootCopy k.bootTarget = (k.nextBoot f).bytes := by
  have read := (k.flashErase (k.bootTarget * 0x10000) 0x10000).flashRead_flashWrite (k.bootTarget * 0x10000) (bs := (k.nextBoot f).bytes) (o := 0) (n := 64)
    (by rw [BootRec.bytes_length])
  rw [Nat.add_zero, List.drop_zero, List.take_of_length_le (by rw [BootRec.bytes_length])] at read
  exact read

theorem Pkg.bootCopy_written_other (k : Pkg) (f : BootRec → BootRec) {i : Nat} (h : i ≠ k.bootTarget) : (k.bootWritten f).bootCopy i = k.bootCopy i := by
  unfold Pkg.bootCopy Pkg.flashRead
  refine List.map_congr_left fun x hx => ?_
  have hx := List.mem_range.mp hx
  unfold Pkg.bootWritten
  rw [Pkg.byte_flashWrite, if_neg (by rw [BootRec.bytes_length]; omega), Pkg.byte_flashErase, if_neg (by omega)]

/-- R916: the record last written is the one in use. -/
theorem Pkg.bc_bootWritten (k : Pkg) {f : BootRec → BootRec} (hactive : (f k.bc).active < 2) (hstate : (f k.bc).state < 4) :
    (k.bootWritten f).bc = (k.nextBoot f).stored := by
  have valid : bcValid (k.nextBoot f).bytes = true := BootRec.valid_bytes hactive hstate
  have same := k.bootCopy_written_same f
  have reads : fieldAt (k.nextBoot f).bytes 8 4 = (k.bc.seq + 1) % 2 ^ 32 := by
    have := congrArg BootRec.seq (k.nextBoot f).parse_bytes
    exact this.trans (Nat.mod_eq_of_lt (Nat.mod_lt _ (by decide)))
  rw [← BootRec.parse_bytes]
  cases h : copyInUse bcValid (fun r => fieldAt r 8 4) (k.bootCopy 0) (k.bootCopy 1) with
  | none =>
    have target : k.bootTarget = 0 := by
      unfold Pkg.bootTarget
      rw [Pkg.bootRecord_eq, h]
      rfl
    have other : bcValid (k.bootCopy 1) = false := by
      unfold copyInUse at h
      cases ha : bcValid (k.bootCopy 0) <;> cases hb : bcValid (k.bootCopy 1) <;> rw [ha, hb] at h <;> dsimp only at h
      · cases h
      · split at h <;> cases h
    have used : copyInUse bcValid (fun r => fieldAt r 8 4) ((k.bootWritten f).bootCopy 0) ((k.bootWritten f).bootCopy 1) = some 0 := by
      rw [k.bootCopy_written_other f (i := 1) (by rw [target]; decide), ← target, same]
      unfold copyInUse
      rw [valid, other]
      exact congrArg some target.symm
    unfold Pkg.bc
    rw [Pkg.bootRecord_eq, used, ← same, target]
    rfl
  | some i =>
    obtain ⟨hi, -⟩ := copyInUse_valid h
    have target : k.bootTarget = 1 - i := by
      unfold Pkg.bootTarget
      rw [Pkg.bootRecord_eq, h]
      rfl
    have seq : fieldAt (copyOf (k.bootCopy 0) (k.bootCopy 1) i) 8 4 = k.bc.seq := by
      unfold Pkg.bc
      rw [Pkg.bootRecord_eq, h]
      rfl
    have used := copyInUse_next h valid (reads.trans (by rw [seq]))
    obtain rfl | rfl : i = 0 ∨ i = 1 := by omega
    · rw [if_pos rfl, if_pos rfl, ← same, target, ← k.bootCopy_written_other f (i := 0) (by rw [target]; decide)] at used
      unfold Pkg.bc
      rw [Pkg.bootRecord_eq, used, ← same, target]
      rfl
    · rw [if_neg (by decide), if_neg (by decide), ← same, target, ← k.bootCopy_written_other f (i := 1) (by rw [target]; decide)] at used
      unfold Pkg.bc
      rw [Pkg.bootRecord_eq, used, ← same, target]
      rfl

theorem Pkg.showBoot_flash (k : Pkg) (trial : Bool) : (k.showBoot trial).flash = k.flash := rfl

theorem Pkg.bc_writeBoot (k : Pkg) {f : BootRec → BootRec} (hactive : (f k.bc).active < 2) (hstate : (f k.bc).state < 4) :
    (k.writeBoot f).bc = (k.nextBoot f).stored := (Pkg.bc_of_flash (Pkg.showBoot_flash _ _)).trans (k.bc_bootWritten hactive hstate)

end Sys2Proof.Machine
end

section
/-! PROOFS. A package under a roster (R915, R928–R931, R935–R940): the boot record's registers, activation, confirmation and return; O54. -/

namespace Sys2Proof.Machine

/-! ### The registers of the record -/

theorem Pkg.showBoot_shows (k : Pkg) (trial : Bool) : (k.showBoot trial).getF F.BC_STATE = k.bc.state ∧ (k.showBoot trial).getF F.BC_ACTIVE = k.bc.active ∧
    (k.showBoot trial).getF F.BOOT_IN_TRIAL = (if trial then 1 else 0) ∧ (k.showBoot trial).getF F.BOOT_ROSTER = k.bc.roster ∧
    (k.showBoot trial).getF F.BOOT_WINDOW = if k.bc.state = 1 then k.bc.actHt else k.bc.windowEnd := by
  obtain ⟨hactive, hstate⟩ := k.bc_lt
  obtain ⟨-, hroster, hact, hend⟩ := k.bc_fields_lt
  have window : (if k.bc.state = 1 then k.bc.actHt else k.bc.windowEnd) < 2 ^ 64 := by split <;> assumption
  unfold Pkg.showBoot
  simp (disch := decide) only [Pkg.getF_setF_apart, Pkg.getF_setF_same]
  refine ⟨Nat.mod_eq_of_lt (by show k.bc.state < 2 ^ 8; omega), Nat.mod_eq_of_lt (by show k.bc.active < 2 ^ 8; omega), ?_, Nat.mod_eq_of_lt hroster,
    Nat.mod_eq_of_lt window⟩
  cases trial <;> rfl

/-- R916: what a package shows of the record it has written. -/
theorem Pkg.writeBoot_shows (k : Pkg) {f : BootRec → BootRec} (hactive : (f k.bc).active < 2) (hstate : (f k.bc).state < 4) :
    (k.writeBoot f).getF F.BC_STATE = (f k.bc).state ∧ (k.writeBoot f).getF F.BC_ACTIVE = (f k.bc).active ∧
    (k.writeBoot f).getF F.BOOT_ROSTER = (f k.bc).roster % 2 ^ 64 ∧
    (k.writeBoot f).getF F.BOOT_WINDOW = (if (f k.bc).state = 1 then (f k.bc).actHt else (f k.bc).windowEnd) % 2 ^ 64 := by
  obtain ⟨hs, ha, -, hr, hw⟩ := (k.bootWritten f).showBoot_shows (k.flag F.BOOT_IN_TRIAL)
  have state : (k.nextBoot f).stored.state = (f k.bc).state := Nat.mod_eq_of_lt (by show (f k.bc).state < 2 ^ 8; omega)
  have active : (k.nextBoot f).stored.active = (f k.bc).active := Nat.mod_eq_of_lt (by show (f k.bc).active < 2 ^ 8; omega)
  rw [← Pkg.writeBoot_eq, k.bc_bootWritten hactive hstate] at hs ha hr hw
  rw [state] at hs hw
  refine ⟨hs, ha.trans active, hr, hw.trans ?_⟩
  split <;> rfl

theorem BootOnly.drains {k j : Pkg} (h : BootOnly k j) : j.drains = k.drains := by
  obtain ⟨⟨r, fl, e⟩, -⟩ := h
  rw [e]

theorem BootOnly.now {k j : Pkg} (h : BootOnly k j) : j.now = k.now := by
  obtain ⟨⟨r, fl, e⟩, -⟩ := h
  rw [e]

theorem BootOnly.boot {k j : Pkg} (h : BootOnly k j) : j.boot = k.boot := by
  obtain ⟨⟨r, fl, e⟩, -⟩ := h
  rw [e]

theorem Pkg.resetCovers_whole {k j : Pkg} (hhold : j.hold = k.hold) (hlink : j.linkHold = k.linkHold) (hreleases : j.releases = k.releases)
    (hdrains : j.drains = k.drains) (hreset : j.getF F.RST_CLUSTER_RESET = k.getF F.RST_CLUSTER_RESET) : j.resetCovers 4 0 = k.resetCovers 4 0 := by
  unfold Pkg.resetCovers
  rw [Pkg.inReset_whole hhold hlink hreleases hreset, hdrains]
  simp only [Pkg.scopeWithin_whole j k]

theorem BootOnly.resetCovers {k j : Pkg} (h : BootOnly k j) : j.resetCovers 4 0 = k.resetCovers 4 0 := by
  have reset := h.cells.getF (f := F.RST_CLUSTER_RESET) (by decide)
  obtain ⟨⟨r, fl, e⟩, -⟩ := h
  exact Pkg.resetCovers_whole (by rw [e]) (by rw [e]) (by rw [e]) (by rw [e]) reset

/-! ### A record written for a reset (R929, R936) -/

/-- A drain of the package for a roster, begun at a time. -/
def Pkg.drainsForRoster (k : Pkg) (now : Nat) : Prop := ∃ d ∈ k.drains, d.scope = 4 ∧ d.cause = 9 ∧ d.began = now

theorem Pkg.askReset_roster {k : Pkg} (h : k.resetCovers 4 0 = false) : k.askReset 4 0 9 0 = k.beginDrain 4 0 9 0 := if_neg (by rw [h]; decide)

theorem Pkg.beginDrain_roster (k : Pkg) : (k.beginDrain 4 0 9 0).drainsForRoster k.now := by
  unfold Pkg.drainsForRoster
  rw [Pkg.beginDrain_drains]
  exact ⟨_, List.mem_append_right _ (List.mem_singleton.mpr rfl), rfl, rfl, rfl⟩

theorem Pkg.boot_slotsClosed (k j : Pkg) : (k.slotsClosed j 4 0).boot = k.boot := foldl_keeps (v := Pkg.boot) _ _ fun _ _ _ => rfl

theorem Pkg.boot_coresDrained (k : Pkg) : (k.coresDrained 4 0).boot = k.boot := by
  obtain ⟨r, n, cs, f, w, sm, fo, ar, e⟩ := (k.coresDrained_frame 4 0).fields
  rw [e]

theorem Pkg.boot_beginDrain (k : Pkg) : (k.beginDrain 4 0 9 0).boot = k.boot := by
  rw [Pkg.beginDrain_eq, Pkg.boot_coresDrained, Pkg.boot_slotsClosed]
  rfl

/-- The record is written, and the package reset with cause ROSTER. -/
def Pkg.resetInto (k : Pkg) (f : BootRec → BootRec) : Pkg := (k.writeBoot f).askReset 4 0 9 0

theorem Pkg.resetInto_shows (k : Pkg) {f : BootRec → BootRec} (hactive : (f k.bc).active < 2) (hstate : (f k.bc).state < 4) (h : k.resetCovers 4 0 = false) :
    (k.resetInto f).getF F.BC_STATE = (f k.bc).state ∧
    (k.resetInto f).getF F.BOOT_WINDOW = (if (f k.bc).state = 1 then (f k.bc).actHt else (f k.bc).windowEnd) % 2 ^ 64 ∧
    (k.resetInto f).getF F.HTM_LATE_ACTION = k.getF F.HTM_LATE_ACTION ∧ (k.resetInto f).drainsForRoster k.now ∧ (k.resetInto f).boot = k.boot := by
  obtain ⟨hs, -, -, hw⟩ := k.writeBoot_shows hactive hstate
  have frame := k.writeBoot_frame f
  have drain := (k.writeBoot f).beginDrain_kept 4 0 9 0
  have eq : k.resetInto f = (k.writeBoot f).beginDrain 4 0 9 0 := Pkg.askReset_roster (frame.resetCovers.trans h)
  rw [eq]
  refine ⟨(drain.getF (by decide)).trans hs, (drain.getF (by decide)).trans hw, (drain.getF (by decide)).trans (frame.cells.getF (by decide)), ?_, ?_⟩
  · rw [← frame.now]
    exact Pkg.beginDrain_roster _
  · rw [← frame.boot]
    exact Pkg.boot_beginDrain _

theorem Pkg.lateAction_shows (k : Pkg) : k.lateAction.getF F.HTM_LATE_ACTION = 1 ∧ k.lateAction.now = k.now ∧ k.lateAction.bc = k.bc ∧
    k.lateAction.resetCovers 4 0 = k.resetCovers 4 0 := by
  refine ⟨Pkg.getF_raise_same _ _ rfl (Nat.le_refl 1), rfl, Pkg.bc_of_flash rfl, Pkg.resetCovers_whole rfl rfl rfl rfl ?_⟩
  unfold Pkg.lateAction
  rw [Pkg.getF_raise_apart _ _ _ (by decide), Pkg.getF_inc_apart _ _ _ (by decide)]

/-! ### Commit and activation (R928–R931) -/

/-- The record of a package in TRIAL. -/
def BootRec.tried (window : Nat) (r : BootRec) : BootRec := { r with state := 2, windowEnd := r.actHt + window, wdog := 0 }

theorem BootRec.tried_active (window : Nat) (r : BootRec) : (r.tried window).active = r.active := rfl

theorem BootRec.tried_state (window : Nat) (r : BootRec) : (r.tried window).state = 2 := rfl

theorem Pkg.activate_reset (k : Pkg) (window : Nat) : k.activate window false = k.resetInto (BootRec.tried window) := rfl

/-- The record of a package whose roster is committed. -/
def BootRec.staged (id ht : Nat) (r : BootRec) : BootRec := { r with state := 1, roster := id, actHt := ht }

section Commit

variable {k : Pkg} (id : Nat) (terms : Nat × Bool)

/-- BOOT_COMMIT at a package. -/
def Pkg.commitBoot (k : Pkg) (id : Nat) (terms : Nat × Bool) : Pkg :=
  if 2 ≤ k.bc.state then k
  else
    let k := k.writeBoot (fun r => { r with state := 1, roster := id, actHt := k.getF F.BOOT_CMD_HT })
    if k.getF F.BOOT_CMD_HT < k.now then k.lateAction.activate terms.1 terms.2 else k

theorem Pkg.getF_bootCmdHt_writeBoot (k : Pkg) (f : BootRec → BootRec) : (k.writeBoot f).getF F.BOOT_CMD_HT = k.getF F.BOOT_CMD_HT :=
  (k.writeBoot_frame f).cells.getF (by decide)

theorem Pkg.commitBoot_early (hstate : k.bc.state < 2) (hearly : k.now ≤ k.getF F.BOOT_CMD_HT) :
    k.commitBoot id terms = k.writeBoot (BootRec.staged id (k.getF F.BOOT_CMD_HT)) := by
  unfold Pkg.commitBoot
  rw [if_neg (Nat.not_le.mpr hstate)]
  dsimp only
  rw [Pkg.getF_bootCmdHt_writeBoot, (k.writeBoot_frame _).now]
  exact if_neg (Nat.not_lt.mpr hearly)

theorem Pkg.commitBoot_late (window : Nat) (hstate : k.bc.state < 2) (hlate : k.getF F.BOOT_CMD_HT < k.now) :
    k.commitBoot id (window, false) = ((k.writeBoot (BootRec.staged id (k.getF F.BOOT_CMD_HT))).lateAction).resetInto (BootRec.tried window) := by
  unfold Pkg.commitBoot
  rw [if_neg (Nat.not_le.mpr hstate)]
  dsimp only
  rw [Pkg.getF_bootCmdHt_writeBoot, (k.writeBoot_frame _).now]
  exact if_pos hlate

theorem Pkg.commitBoot_early_shows (hstate : k.bc.state < 2) (hearly : k.now ≤ k.getF F.BOOT_CMD_HT) :
    (k.commitBoot id terms).getF F.BC_STATE = 1 ∧ (k.commitBoot id terms).getF F.BOOT_WINDOW = k.getF F.BOOT_CMD_HT ∧
    (k.commitBoot id terms).drains = k.drains ∧ (k.commitBoot id terms).getF F.BOOT_ROSTER = id % 2 ^ 64 := by
  obtain ⟨hs, -, hr, hw⟩ := k.writeBoot_shows (f := BootRec.staged id (k.getF F.BOOT_CMD_HT)) k.bc_lt.1 (show 1 < 4 by decide)
  rw [Pkg.commitBoot_early id terms hstate hearly]
  exact ⟨hs, hw.trans (Nat.mod_eq_of_lt (k.getF_lt F.BOOT_CMD_HT)), (k.writeBoot_frame _).drains, hr⟩

theorem Pkg.commitBoot_late_shows (window : Nat) (hstate : k.bc.state < 2) (hlate : k.getF F.BOOT_CMD_HT < k.now) (hcovers : k.resetCovers 4 0 = false) :
    (k.commitBoot id (window, false)).getF F.BC_STATE = 2 ∧ (k.commitBoot id (window, false)).getF F.HTM_LATE_ACTION = 1 ∧
    (k.commitBoot id (window, false)).drainsForRoster k.now := by
  rw [Pkg.commitBoot_late id window hstate hlate]
  have frame := k.writeBoot_frame (BootRec.staged id (k.getF F.BOOT_CMD_HT))
  generalize k.writeBoot (BootRec.staged id (k.getF F.BOOT_CMD_HT)) = j at frame ⊢
  obtain ⟨hlateFlag, hnow, -, hcovered⟩ := j.lateAction_shows
  have covers := (hcovered.trans frame.resetCovers).trans hcovers
  rw [frame.now] at hnow
  generalize j.lateAction = i at hlateFlag hnow covers ⊢
  obtain ⟨hs, -, hl, hd, -⟩ := i.resetInto_shows (f := BootRec.tried window) (by rw [BootRec.tried_active]; exact i.bc_lt.1)
    (by rw [BootRec.tried_state]; decide) covers
  rw [hnow] at hd
  rw [BootRec.tried_state] at hs
  exact ⟨hs, hl.trans hlateFlag, hd⟩

end Commit

/-! ### Confirmation (R939) -/

/-- The floors and keys after a confirmation, before its record. -/
def Pkg.floorsRaised (k : Pkg) (keys : Nat) : Pkg :=
  let new := 1 - k.bc.active
  let ver (cls : Nat) : Nat := if cls = 4 then ((k.lup.active.map Lineup.secver).getD 0) else fieldAt (k.storedImage cls new) 6 2
  let k := (k.setF F.BOOT_FLOOR0 (max (k.fuseFloor 1) (ver 1))).setF F.BOOT_FLOOR1 (max (k.fuseFloor 2) (ver 2))
  let k := (k.setF F.BOOT_FLOOR2 (max (k.fuseFloor 3) (ver 3))).setF F.BOOT_FLOOR3 (max (k.fuseFloor 4) (ver 4))
  k.setF F.BOOT_KEYS (nextKeys (k.getF F.BOOT_KEYS) keys)

/-- The record of a package that has confirmed. -/
def BootRec.confirmed (new : Nat) (r : BootRec) : BootRec := { r with state := 0, active := new, roster := 0, wdog := 0 }

/-- A confirmed package before its old slot goes. -/
def Pkg.bootConfirmed (k : Pkg) (keys : Nat) : Pkg := ((k.floorsRaised keys).writeBoot (BootRec.confirmed (1 - k.bc.active))).showBoot false

/-- The slot that is not the new one goes, with its settings. -/
def Pkg.oldSlotGone (k : Pkg) (new : Nat) : Pkg :=
  { k.eraseSlot (1 - new) with boot := { k.boot with settings := k.boot.settings.filter (fun x => x == new) } }

theorem Pkg.getF_oldSlotGone (k : Pkg) (new : Nat) (f : Fld) : (k.oldSlotGone new).getF f = k.getF f := by
  have regs : (k.oldSlotGone new).regs = k.regs := rfl
  exact Pkg.getF_congr regs f

theorem Pkg.oldSlotGone_flash (k : Pkg) (new : Nat) : (k.oldSlotGone new).flash = (k.eraseSlot (1 - new)).flash := rfl

theorem Pkg.confirm_of_trial {k : Pkg} (h : k.bc.state = 2) (keys : Nat) : k.confirm keys = (k.bootConfirmed keys).oldSlotGone (1 - k.bc.active) := by
  unfold Pkg.confirm Pkg.oldSlotGone Pkg.bootConfirmed Pkg.floorsRaised BootRec.confirmed
  rw [if_neg (not_not.mpr h)]

theorem Pkg.floorsRaised_shows (k : Pkg) (keys : Nat) :
    (k.floorsRaised keys).getF F.BOOT_FLOOR0 = max (k.getF F.BOOT_FLOOR0) (fieldAt (k.storedImage 1 (1 - k.bc.active)) 6 2) % 2 ^ 8 ∧
    (k.floorsRaised keys).getF F.BOOT_KEYS = (k.getF F.BOOT_KEYS ||| keys) % 2 ^ 8 := by
  unfold Pkg.floorsRaised
  simp (disch := decide) only [Pkg.getF_setF_apart, Pkg.getF_setF_same]
  exact ⟨rfl, rfl⟩

theorem Pkg.getF_showBoot_apart (k : Pkg) (trial : Bool) {f : Fld} (h : f = F.BOOT_FLOOR0 ∨ f = F.BOOT_KEYS) : (k.showBoot trial).getF f = k.getF f := by
  unfold Pkg.showBoot
  rcases h with rfl | rfl <;> simp (disch := decide) only [Pkg.getF_setF_apart]

theorem Pkg.getF_writeBoot_apart (k : Pkg) (g : BootRec → BootRec) {f : Fld} (h : f = F.BOOT_FLOOR0 ∨ f = F.BOOT_KEYS) :
    (k.writeBoot g).getF f = k.getF f := by
  have regs : (k.bootWritten g).regs = k.regs := rfl
  rw [Pkg.writeBoot_eq, Pkg.getF_showBoot_apart _ _ h]
  exact Pkg.getF_congr regs f

/-- R939: what a confirmed package shows, before its old slot goes. -/
theorem Pkg.bootConfirmed_shows (k : Pkg) {keys : Nat} (hkeys : keys < 256) :
    (k.bootConfirmed keys).getF F.BC_STATE = 0 ∧ (k.bootConfirmed keys).getF F.BC_ACTIVE = 1 - k.bc.active ∧
    (k.bootConfirmed keys).getF F.BOOT_IN_TRIAL = 0 ∧ (k.bootConfirmed keys).getF F.BOOT_ROSTER = 0 ∧
    (k.bootConfirmed keys).getF F.BOOT_FLOOR0 = max (k.getF F.BOOT_FLOOR0) (fieldAt (k.storedImage 1 (1 - k.bc.active)) 6 2) % 2 ^ 8 ∧
    (k.bootConfirmed keys).getF F.BOOT_KEYS = (k.getF F.BOOT_KEYS ||| keys) := by
  obtain ⟨hfloor, hkey⟩ := k.floorsRaised_shows keys
  have active := k.bc_lt.1
  unfold Pkg.bootConfirmed
  have written := (k.floorsRaised keys).bc_writeBoot (f := BootRec.confirmed (1 - k.bc.active)) (show 1 - k.bc.active < 2 by omega) (show 0 < 4 by decide)
  have floor := (k.floorsRaised keys).getF_writeBoot_apart (BootRec.confirmed (1 - k.bc.active)) (f := F.BOOT_FLOOR0) (.inl rfl)
  have key := (k.floorsRaised keys).getF_writeBoot_apart (BootRec.confirmed (1 - k.bc.active)) (f := F.BOOT_KEYS) (.inr rfl)
  generalize (k.floorsRaised keys).writeBoot (BootRec.confirmed (1 - k.bc.active)) = j at written floor key ⊢
  obtain ⟨hs, ha, ht, hr, -⟩ := j.showBoot_shows false
  rw [written] at hs ha hr
  refine ⟨hs, ha.trans (Nat.mod_eq_of_lt (show 1 - k.bc.active < 2 ^ 8 by omega)), ht, hr, ?_, ?_⟩
  · rw [Pkg.getF_showBoot_apart _ _ (.inl rfl), floor, hfloor]
  · rw [Pkg.getF_showBoot_apart _ _ (.inr rfl), key, hkey]
    exact Nat.mod_eq_of_lt (Nat.or_lt_two_pow (k.getF_lt F.BOOT_KEYS) hkeys)

/-! ### The return (R936) -/

theorem Pkg.revertNow_of_trial {k : Pkg} (h : k.bc.state = 2) : k.revertNow = k.resetInto (fun r => { r with state := 3 }) := if_neg (not_not.mpr h)

theorem Pkg.revertNow_shows {k : Pkg} (h : k.bc.state = 2) (hcovers : k.resetCovers 4 0 = false) : k.revertNow.getF F.BC_STATE = 3 ∧
    k.revertNow.getF F.HTM_LATE_ACTION = k.getF F.HTM_LATE_ACTION ∧ k.revertNow.drainsForRoster k.now ∧ k.revertNow.boot = k.boot := by
  obtain ⟨hs, -, hl, hd, hb⟩ := k.resetInto_shows (f := fun r => { r with state := 3 }) k.bc_lt.1 (show 3 < 4 by decide) hcovers
  rw [Pkg.revertNow_of_trial h]
  exact ⟨hs, hl, hd, hb⟩

end Sys2Proof.Machine
end

section
/-! PROOFS. The roster commands of a package (R928, R929, R936, R939, R940); O54. -/

namespace Sys2Proof.Machine

theorem completes_of_updNat {c : Instr} {f : Pkg → Pkg} {P : State → Prop} {s : State} {p : PkgId} (hexec : exec c s = .next (s.updNat p f))
    (h : ∀ t : State, t.pkg p = f (s.pkg p) → P t) : Completes c s P :=
  ⟨_, hexec, h _ ((s.pkg_updNat p f p).trans (if_pos rfl))⟩

/-- Recording that a roster is in trial changes no more than the rosters. -/
theorem State.noteTrial_frame (s : State) (target : Nat) : ∃ rs, s.noteTrial target = { s with rosters := rs } := by
  unfold State.noteTrial
  split
  · split
    · exact ⟨_, rfl⟩
    · exact ⟨s.rosters, rfl⟩
  · exact ⟨s.rosters, rfl⟩

theorem State.trialTerms_of_none {s : State} {p : Nat} (h : s.lastRoster p = none) : s.trialTerms p = (518400000000000, false) := by
  unfold State.trialTerms
  rw [h]

/-- The ID of a target's latest roster. -/
def State.rosterId (s : State) (p : Nat) : Nat := ((s.lastRoster p).map (fun r => fieldAt r.image 8 8)).getD 0

/-- The key states that a target's latest roster writes. -/
def State.rosterKeys (s : State) (p : Nat) : Nat := ((s.lastRoster p).map (fun r => fieldAt r.image 20 1)).getD 0

theorem State.rosterKeys_lt (s : State) (p : Nat) : s.rosterKeys p < 256 := by
  unfold State.rosterKeys
  cases s.lastRoster p with
  | none => exact Nat.zero_lt_succ _
  | some r => exact fieldAt_lt r.image 20

theorem exec_bootCommit (s : State) (p : PkgId) (t₀ : Nat) :
    exec (.bootCommit p .i3c t₀) s = .next (s.updPkg p (fun k => (k.at t₀).commitBoot (s.rosterId p) (s.trialTerms p))) := by
  show execBootCommit p .i3c t₀ s = _
  unfold execBootCommit Pkg.commitBoot State.rosterId
  simp only [Pkg.viaPkg_i3c]

theorem exec_bootConfirm (s : State) (p : PkgId) (t₀ : Nat) :
    exec (.bootConfirm p .i3c t₀) s = .next (s.updPkg p (fun k => (k.at t₀).confirm (s.rosterKeys p))) := by
  show execBootConfirm p .i3c t₀ s = _
  unfold execBootConfirm State.rosterKeys
  simp only [Pkg.viaPkg_i3c]

theorem exec_bootRevert (s : State) (p : PkgId) (t₀ : Nat) : exec (.bootRevert p .i3c t₀) s = .next (s.updPkg p (fun k =>
    if (k.at t₀).getF F.BOOT_CMD_HT < (k.at t₀).now then (k.at t₀).lateAction.revertNow
    else { k.at t₀ with boot := { (k.at t₀).boot with revertAt := some ((k.at t₀).getF F.BOOT_CMD_HT) } })) := by
  show execBootRevert p .i3c t₀ s = _
  unfold execBootRevert
  simp only [Pkg.viaPkg_i3c]

section Package

variable {s : State} {p : PkgId} {t₀ : Nat} {k : Pkg} (hk : k = (s.pkg p).at t₀)
include hk

theorem bootCommit_early (hstate : k.bc.state < 2) (hearly : k.now ≤ k.getF F.BOOT_CMD_HT) : Completes (.bootCommit p .i3c t₀) s (fun t =>
    (t.pkg p).getF F.BC_STATE = 1 ∧ (t.pkg p).getF F.BOOT_WINDOW = k.getF F.BOOT_CMD_HT ∧ (t.pkg p).drains = k.drains ∧
    ∀ r, s.lastRoster p = some r → (t.pkg p).getF F.BOOT_ROSTER = fieldAt r.image 8 8) := by
  refine completes_of_updPkg (exec_bootCommit s p t₀) fun t ht => ?_
  obtain ⟨hs, hw, hd, hr⟩ := Pkg.commitBoot_early_shows (s.rosterId p) (s.trialTerms p) hstate hearly
  rw [ht, ← hk]
  refine ⟨hs, hw, hd, fun r hroster => hr.trans ?_⟩
  rw [State.rosterId, hroster]
  exact Nat.mod_eq_of_lt (fieldAt_lt_pow r.image 8 8)

theorem bootCommit_late (hstate : k.bc.state < 2) (hlate : k.getF F.BOOT_CMD_HT < k.now) (hroster : s.lastRoster p = none) (hcovers : k.resetCovers 4 0 = false) :
    Completes (.bootCommit p .i3c t₀) s (fun t => (t.pkg p).getF F.BC_STATE = 2 ∧ (t.pkg p).getF F.HTM_LATE_ACTION = 1 ∧ (t.pkg p).drainsForRoster k.now) := by
  refine completes_of_updPkg (exec_bootCommit s p t₀) fun t ht => ?_
  rw [ht, ← hk, State.trialTerms_of_none hroster]
  exact Pkg.commitBoot_late_shows _ _ hstate hlate hcovers

theorem bootCommit_refused (hstate : 2 ≤ k.bc.state) : Completes (.bootCommit p .i3c t₀) s (fun t => (t.pkg p).flash = k.flash ∧ (t.pkg p).regs = k.regs) := by
  refine completes_of_updPkg_eq (j := k) (exec_bootCommit s p t₀) ?_ fun t ht => ?_
  · rw [← hk]
    exact if_pos hstate
  · rw [ht]
    exact ⟨rfl, rfl⟩

theorem rosterActivate_package (hstate : k.bc.state = 1) (hdue : k.bc.actHt ≤ k.now) (hreset : (s.trialTerms p).2 = false) (hcovers : k.resetCovers 4 0 = false) :
    Completes (.rosterActivate p t₀) s (fun t => (t.pkg p).getF F.BC_STATE = 2 ∧
      (t.pkg p).getF F.BOOT_WINDOW = (k.bc.actHt + (s.trialTerms p).1) % 2 ^ 64 ∧ (t.pkg p).drainsForRoster k.now) := by
  obtain ⟨rs, frame⟩ := (s.updNat p (fun k => if (k.at t₀).bc.state = 1 ∧ (k.at t₀).bc.actHt ≤ (k.at t₀).now
    then (k.at t₀).activate (s.trialTerms p).1 (s.trialTerms p).2 else k.at t₀)).noteTrial_frame p
  refine ⟨_, congrArg Host.Outcome.next ((if_pos p.isLt).trans frame), ?_⟩
  show ((State.updNat _ _ _).pkg p).getF _ = _ ∧ ((State.updNat _ _ _).pkg p).getF _ = _ ∧ ((State.updNat _ _ _).pkg p).drainsForRoster _
  rw [State.pkg_updNat, if_pos rfl, ← hk, if_pos ⟨hstate, hdue⟩, hreset, Pkg.activate_reset]
  have active : (BootRec.tried (s.trialTerms p).1 k.bc).active < 2 := by rw [BootRec.tried_active]; exact k.bc_lt.1
  obtain ⟨hs, hw, -, hd, -⟩ := k.resetInto_shows active (show 2 < 4 by decide) hcovers
  exact ⟨hs, hw, hd⟩

theorem bootConfirm_of_trial (hstate : k.bc.state = 2) : Completes (.bootConfirm p .i3c t₀) s (fun t =>
    (t.pkg p).getF F.BC_STATE = 0 ∧ (t.pkg p).getF F.BC_ACTIVE = 1 - k.bc.active ∧ (t.pkg p).getF F.BOOT_IN_TRIAL = 0 ∧ (t.pkg p).getF F.BOOT_ROSTER = 0 ∧
    (t.pkg p).getF F.BOOT_FLOOR0 = max (k.getF F.BOOT_FLOOR0) (fieldAt (k.storedImage 1 (1 - k.bc.active)) 6 2) % 2 ^ 8 ∧
    (∀ r, s.lastRoster p = some r → (t.pkg p).getF F.BOOT_KEYS = (k.getF F.BOOT_KEYS ||| fieldAt r.image 20 1)) ∧
    ∀ x, (flashRegion 1 k.bc.active).1 ≤ x → x < (flashRegion 1 k.bc.active).1 + 0x1B00000 → Sparse.get erased (t.pkg p).flash x = 0xFF) := by
  have old : 1 - (1 - k.bc.active) = k.bc.active := by have := k.bc_lt.1; omega
  obtain ⟨hs, ha, ht, hr, hf, hkeys⟩ := k.bootConfirmed_shows (s.rosterKeys_lt p)
  refine completes_of_updPkg_eq (j := k.confirm (s.rosterKeys p)) (exec_bootConfirm s p t₀) (by rw [← hk]) fun t ht' => ?_
  rw [ht', Pkg.confirm_of_trial hstate]
  generalize k.bootConfirmed (s.rosterKeys p) = j at hs ha ht hr hf hkeys ⊢
  simp only [Pkg.getF_oldSlotGone, Pkg.oldSlotGone_flash]
  refine ⟨hs, ha, ht, hr, hf, fun r hroster => ?_, fun x hlow hhigh => ?_⟩
  · have keys : s.rosterKeys p = fieldAt r.image 20 1 := by rw [State.rosterKeys, hroster]; rfl
    rw [← keys]
    exact hkeys
  · rw [old, Pkg.byte_eraseSlot, if_pos (.inr ⟨hlow, hhigh⟩)]

theorem bootConfirm_refused (hstate : k.bc.state ≠ 2) : Completes (.bootConfirm p .i3c t₀) s (fun t => (t.pkg p).flash = k.flash ∧ (t.pkg p).regs = k.regs) := by
  refine completes_of_updPkg_eq (j := k) (exec_bootConfirm s p t₀) ?_ fun t ht => ?_
  · rw [← hk]
    exact if_pos hstate
  · rw [ht]
    exact ⟨rfl, rfl⟩

theorem bootRevert_early (hearly : k.now ≤ k.getF F.BOOT_CMD_HT) : Completes (.bootRevert p .i3c t₀) s (fun t =>
    (t.pkg p).boot.revertAt = some (k.getF F.BOOT_CMD_HT) ∧ (t.pkg p).flash = k.flash ∧ (t.pkg p).regs = k.regs) := by
  refine completes_of_updPkg (exec_bootRevert s p t₀) fun t ht => ?_
  rw [ht, ← hk, if_neg (Nat.not_lt.mpr hearly)]
  exact ⟨rfl, rfl, rfl⟩

theorem bootRevert_late (hlate : k.getF F.BOOT_CMD_HT < k.now) (hstate : k.bc.state = 2) (hcovers : k.resetCovers 4 0 = false) :
    Completes (.bootRevert p .i3c t₀) s (fun t => (t.pkg p).getF F.BC_STATE = 3 ∧ (t.pkg p).getF F.HTM_LATE_ACTION = 1 ∧ (t.pkg p).drainsForRoster k.now) := by
  obtain ⟨hl, hnow, hbc, hcov⟩ := k.lateAction_shows
  obtain ⟨hs, hlt, hd, -⟩ := Pkg.revertNow_shows ((congrArg BootRec.state hbc).trans hstate) (hcov.trans hcovers)
  refine completes_of_updPkg (exec_bootRevert s p t₀) fun t ht => ?_
  rw [ht, ← hk, if_pos hlate]
  rw [hnow] at hd
  exact ⟨hs, hlt.trans hl, hd⟩

theorem revertAtTime_package {w : Nat} (hat : k.boot.revertAt = some w) (hdue : w ≤ k.now) (hstate : k.bc.state = 2) (hcovers : k.resetCovers 4 0 = false) :
    Completes (.revertAtTime p t₀) s (fun t => (t.pkg p).boot.revertAt = none ∧ (t.pkg p).getF F.BC_STATE = 3 ∧ (t.pkg p).drainsForRoster k.now) := by
  refine completes_of_updNat (congrArg Host.Outcome.next (if_pos p.isLt)) fun t ht => ?_
  dsimp only at ht
  rw [← hk, hat] at ht
  dsimp only at ht
  rw [if_pos hdue] at ht
  rw [ht]
  have same : ({ k with boot := { k.boot with revertAt := none } } : Pkg).bc = k.bc := Pkg.bc_of_flash rfl
  obtain ⟨hs, -, hd, hb⟩ := Pkg.revertNow_shows ((congrArg BootRec.state same).trans hstate)
    ((Pkg.resetCovers_whole (k := k) rfl rfl rfl rfl rfl).trans hcovers)
  exact ⟨congrArg BootCtl.revertAt hb, hs, hd⟩

end Package

end Sys2Proof.Machine
end

section
/-! PROOFS. The roster commands of the controllers and of a roster's coordinator (R929–R942); O54. -/

namespace Sys2Proof.Machine

variable {s : State} {t₀ : Nat}

/-! ### The restart of a controller -/

/-- A restart changes a controller's own tray or umpire. -/
theorem State.ctrlRestart_frame (s : State) (n t : Nat) : ∃ ys us, s.ctrlRestart n t = { s with trays := ys, umpires := us } := by
  unfold State.ctrlRestart
  split
  · exact ⟨_, s.umpires, rfl⟩
  · split
    · exact ⟨s.trays, _, rfl⟩
    · exact ⟨s.trays, s.umpires, rfl⟩

theorem State.ctrl_ctrlRestart (s : State) (n t m : Nat) : (s.ctrlRestart n t).ctrl m = s.ctrl m := by
  obtain ⟨ys, us, h⟩ := s.ctrlRestart_frame n t
  rw [h]
  rfl

theorem State.ctrlRestart_pkgs (s : State) (n t : Nat) : (s.ctrlRestart n t).pkgs = s.pkgs := by
  obtain ⟨ys, us, h⟩ := s.ctrlRestart_frame n t
  rw [h]

theorem State.ctrlRestart_bus (s : State) (n t : Nat) : (s.ctrlRestart n t).bus = s.bus := by
  obtain ⟨ys, us, h⟩ := s.ctrlRestart_frame n t
  rw [h]

theorem State.tray_ctrlRestart (s : State) {n : Nat} (hlow : 3 ≤ n) (hhigh : n ≤ 26) (t : Nat) : ((s.ctrlRestart n t).tray (n - 3)).started = t := by
  rw [State.ctrlRestart, if_pos ⟨hlow, hhigh⟩, State.tray_updTray_same _ (by omega)]

theorem State.ump_ctrlRestart (s : State) {n u : Nat} (hn : n = u + 1) (hu : u < 2) (t : Nat) :
    (s.ctrlRestart n t).ump u = { s.ump u with started := t, polled := false } := by
  subst hn
  rw [State.ctrlRestart, if_neg (by omega), if_pos (by omega), Nat.add_sub_cancel, State.ump_updUmp_same _ hu]

/-! ### Activation at a controller (R929, R930) -/

theorem State.ctrl_noteTrial (s : State) (q m : Nat) : (s.noteTrial q).ctrl m = s.ctrl m := by
  obtain ⟨rs, h⟩ := s.noteTrial_frame q
  rw [h]
  rfl

theorem State.noteTrial_pkgs (s : State) (q : Nat) : (s.noteTrial q).pkgs = s.pkgs := by
  obtain ⟨rs, h⟩ := s.noteTrial_frame q
  rw [h]

theorem State.noteTrial_bus (s : State) (q : Nat) : (s.noteTrial q).bus = s.bus := by
  obtain ⟨rs, h⟩ := s.noteTrial_frame q
  rw [h]

theorem State.tray_noteTrial (s : State) (q n : Nat) : (s.noteTrial q).tray n = s.tray n := by
  obtain ⟨rs, h⟩ := s.noteTrial_frame q
  rw [h]
  rfl

theorem State.ump_noteTrial (s : State) (q u : Nat) : (s.noteTrial q).ump u = s.ump u := by
  obtain ⟨rs, h⟩ := s.noteTrial_frame q
  rw [h]
  rfl

/-- R929: a controller in TRIAL has restarted. -/
theorem State.ctrl_ctrlTrial (s : State) {n : Nat} (hn : n < 34) (t : Nat) :
    ((s.ctrlTrial n t).ctrl n).state = 2 ∧ ((s.ctrlTrial n t).ctrl n).restart = some t := by
  rw [State.ctrlTrial, State.ctrl_updCtrl_same s hn]
  exact ⟨rfl, rfl⟩

theorem State.ump_ctrlTrial (s : State) (n t u : Nat) : (s.ctrlTrial n t).ump u = s.ump u := rfl

theorem State.ctrlTrial_bus (s : State) (n t : Nat) : (s.ctrlTrial n t).bus = s.bus := rfl

theorem rosterActivate_tmc {n : Nat} (hlow : 3 ≤ n) (hhigh : n ≤ 26) (hstate : (s.ctrl n).state = 1) (hdue : (s.ctrl n).actHt ≤ t₀) :
    Completes (.rosterActivate (128 + n) t₀) s (fun t => (t.ctrl n).state = 2 ∧ (t.ctrl n).restart = some t₀ ∧ (t.tray (n - 3)).started = t₀ ∧
      t.pkgs = s.pkgs) := by
  refine ⟨(((s.ctrlTrial n t₀).ctrlRestart n t₀).noteTrial (128 + n)), ?_, ?_⟩
  · refine congrArg Host.Outcome.next ((if_neg (by omega)).trans ?_)
    dsimp only
    rw [Nat.add_sub_cancel_left]
    exact if_pos ⟨hstate, hdue, .inl ⟨hlow, hhigh⟩⟩
  · dsimp only
    rw [State.ctrl_noteTrial, State.ctrl_ctrlRestart, State.tray_noteTrial, State.tray_ctrlRestart _ hlow hhigh, State.noteTrial_pkgs, State.ctrlRestart_pkgs]
    obtain ⟨hs, hr⟩ := s.ctrl_ctrlTrial (n := n) (by omega) t₀
    exact ⟨hs, hr, rfl, rfl⟩

section Staggered

variable {node : Fin 34} (hstate : (s.ctrl node).state = 1) (hdue : (s.ctrl node).actHt ≤ t₀)
include hstate hdue

theorem exec_staggered_shelf (hlow : 27 ≤ node.val) (hhigh : node.val ≤ 32) : exec (.staggeredActivation node t₀) s =
    .next (if s.shelfTurn t₀ then (s.ctrlTrial node t₀).noteTrial (128 + node) else s) := by
  refine (if_neg ?_).trans (if_pos ⟨hlow, hhigh⟩)
  rintro (h | h) <;> omega

theorem staggered_shelf (hlow : 27 ≤ node.val) (hhigh : node.val ≤ 32) (hturn : s.shelfTurn t₀ = true) : Completes (.staggeredActivation node t₀) s (fun t =>
    (t.ctrl node).state = 2 ∧ (t.ctrl node).restart = some t₀ ∧ t.pkgs = s.pkgs) := by
  refine ⟨_, (exec_staggered_shelf hstate hdue hlow hhigh).trans (congrArg _ (if_pos hturn)), ?_⟩
  dsimp only
  rw [State.ctrl_noteTrial, State.noteTrial_pkgs]
  obtain ⟨hs, hr⟩ := s.ctrl_ctrlTrial node.isLt t₀
  exact ⟨hs, hr, rfl⟩

theorem staggered_waits (hlow : 27 ≤ node.val) (hhigh : node.val ≤ 32) (hturn : s.shelfTurn t₀ = false) :
    Completes (.staggeredActivation node t₀) s (fun t => t = s) :=
  ⟨_, (exec_staggered_shelf hstate hdue hlow hhigh).trans (congrArg _ (if_neg (by rw [hturn]; decide))), rfl⟩

theorem staggered_standby {u : Nat} (hnode : node.val = u + 1) (hu : u < 2) (hprimary : s.primary ≠ some u) : Completes (.staggeredActivation node t₀) s (fun t =>
    (t.ctrl node).state = 2 ∧ (t.ump u).started = t₀ ∧ (t.ump u).polled = false) := by
  have umpire : node.val - 1 = u := by omega
  refine ⟨(((s.ctrlTrial node t₀).ctrlRestart node t₀).noteTrial (128 + node)), ?_, ?_⟩
  · refine (if_neg (by rintro (h | h) <;> omega)).trans ((if_neg (by omega)).trans ((if_pos (by omega)).trans ?_))
    dsimp only
    rw [umpire]
    exact if_neg hprimary
  · dsimp only
    rw [State.ctrl_noteTrial, State.ctrl_ctrlRestart, State.ump_noteTrial, State.ump_ctrlRestart _ hnode hu]
    exact ⟨(s.ctrl_ctrlTrial node.isLt t₀).1, rfl, rfl⟩

/-- The primary releases its line, with cause 3, and every tray hears of it. -/
def State.yieldsToRestart (s : State) (u t : Nat) : State :=
  ((s.releaseLine u t).busSend 0x03 (u + 1) (s.busFlags (u + 1) t) (s.busTime t) [3]).takePrimary

theorem staggered_primary {u : Nat} (hnode : node.val = u + 1) (hprimary : s.primary = some u) (hother : (s.ctrl (2 - u)).state ≠ 1)
    (hback : (s.ctrl (2 - u)).restart = none) : Completes (.staggeredActivation node t₀) s (fun t =>
    (t.ctrl node).state = 2 ∧ (t.ump u).line = false ∧ ∃ m, t.bus.last = some m ∧ m.type = 3 ∧ m.node = u + 1 ∧ m.body = [3]) := by
  have umpire : node.val - 1 = u := by omega
  have hu : u < 2 := State.primary_lt hprimary
  refine ⟨((((s.yieldsToRestart u t₀).ctrlTrial node t₀).ctrlRestart node t₀).noteTrial (128 + node)), ?_, ?_⟩
  · refine (if_neg (by rintro (h | h) <;> omega)).trans ((if_neg (by omega)).trans ((if_pos (by omega)).trans ?_))
    dsimp only
    rw [umpire, hback]
    exact (if_pos hprimary).trans (if_pos (decide_eq_true hother))
  · dsimp only
    rw [State.ctrl_noteTrial, State.ctrl_ctrlRestart, State.ump_noteTrial, State.noteTrial_bus, State.ctrlRestart_bus, State.ump_ctrlRestart _ hnode hu]
    refine ⟨(State.ctrl_ctrlTrial _ node.isLt t₀).1, ?_, ?_⟩
    · rw [State.ump_ctrlTrial, State.yieldsToRestart, State.ump_takePrimary]
      exact congrArg Umpire.line (s.ump_releaseLine_same hu t₀)
    · rw [State.ctrlTrial_bus, State.yieldsToRestart, State.bus_takePrimary]
      exact State.busSend_sends ..

end Staggered

end Sys2Proof.Machine
end

section
/-! PROOFS. Confirmation, revert and dead units at a roster's coordinator (R935–R942); O54. -/

namespace Sys2Proof.Machine

variable {s : State} {t₀ : Nat}

/-! ### Revert (R936) -/

/-- R916, R936: a controller that reverts restarts from its confirmed slot. -/
theorem State.ctrl_ctrlRevert (s : State) {n : Nat} (hn : n < 34) (t : Nat) : (s.ctrlRevert n t).ctrl n =
    { s.ctrl n with state := 0, roster := 0, staged := none, revertAt := none, restart := some t } := by
  rw [State.ctrlRevert, State.ctrl_ctrlRestart, State.ctrl_updCtrl_same s hn]

theorem revertAtTime_controller {n w : Nat} (hn : n < 34) (hat : (s.ctrl n).revertAt = some w) (hdue : w ≤ t₀) (hstate : (s.ctrl n).state = 2) :
    Completes (.revertAtTime (128 + n) t₀) s (fun t => (t.ctrl n).state = 0 ∧ (t.ctrl n).revertAt = none ∧ (t.ctrl n).restart = some t₀ ∧ t.pkgs = s.pkgs) := by
  refine ⟨s.ctrlRevert n t₀, congrArg Host.Outcome.next ((if_neg (by omega)).trans ?_), ?_⟩
  · dsimp only
    rw [Nat.add_sub_cancel_left, hat]
    exact if_pos ⟨hdue, hstate⟩
  · dsimp only
    rw [State.ctrl_ctrlRevert _ hn]
    exact ⟨rfl, rfl, rfl, State.ctrlRestart_pkgs _ _ _⟩

/-- The time at which a roster's targets return. -/
def State.revertTime (s : State) (t : Nat) : Nat := t + 60000000000 + s.lead

theorem State.revertTime_lt (s : State) {t : Nat} (h : t < 2 ^ 63) : s.revertTime t < 2 ^ 64 := by
  have lead : s.lead < 2 ^ 40 := Nat.mod_lt _ (by decide)
  unfold State.revertTime
  omega

/-- A roster is over at its coordinator. -/
def State.revertNoted (s : State) (c : Nat) (r : Roster) (st : Status) : State :=
  ((s.draw.putRoster c { r with phase := .reverted, status := st }).putCommit c none).post "RosterReverted" .warning st

/-- A target's turn of REVERT. -/
def State.revertAt (ht : Nat) (s : State) (q : Nat) : State :=
  if q < 72 then s.updNat q (fun k => { k.setF F.BOOT_CMD_HT ht with boot := { k.boot with failed := false } })
  else s.updCtrl (q - 128) (fun (x : Controller) => if x.state = 2 then { x with revertAt := some ht } else { x with state := 0, roster := 0, staged := none })

theorem State.revertRoster_eq (s : State) (c : Nat) (r : Roster) (st : Status) (t : Nat) :
    s.revertRoster c r st t = r.targets.foldl (State.revertAt (s.revertTime t)) (s.revertNoted c r st) := rfl

/-- A revert reaches packages and controllers. -/
def State.TargetsOnly (s t : State) : Prop := ∃ ps cs, t = { s with pkgs := ps, controllers := cs }

theorem State.revertAt_frame (ht : Nat) (s : State) (q : Nat) : s.TargetsOnly (s.revertAt ht q) := by
  unfold State.revertAt
  split
  · obtain ⟨ps, h⟩ := State.PkgsOnly.updNat s q (fun k => { k.setF F.BOOT_CMD_HT ht with boot := { k.boot with failed := false } })
    exact ⟨ps, s.controllers, h⟩
  · exact ⟨s.pkgs, _, rfl⟩

theorem State.revertAll_frame (l : List Nat) (ht : Nat) (s : State) : s.TargetsOnly (l.foldl (State.revertAt ht) s) :=
  List.foldlRecOn l (State.revertAt ht) (motive := s.TargetsOnly) ⟨s.pkgs, s.controllers, rfl⟩ fun b hb q _ => by
    obtain ⟨ps, cs, rfl⟩ := hb
    obtain ⟨ps', cs', h⟩ := State.revertAt_frame ht { s with pkgs := ps, controllers := cs } q
    exact ⟨ps', cs', h⟩

/-- A package that is told to return. -/
def Pkg.ToldToRevert (ht : Nat) (k : Pkg) : Prop := k.getF F.BOOT_CMD_HT = ht % 2 ^ 64 ∧ k.boot.failed = false

theorem State.revertAt_tells (ht : Nat) (s : State) (p : PkgId) : ((s.revertAt ht p).pkg p).ToldToRevert ht := by
  rw [State.revertAt, if_pos p.isLt, State.pkg_updNat, if_pos rfl]
  exact ⟨Pkg.getF_setF_same _ _ _ rfl, rfl⟩

theorem State.revertAt_pkg_other (ht : Nat) (s : State) {q : Nat} {p : PkgId} (h : p.val ≠ q) : (s.revertAt ht q).pkg p = s.pkg p := by
  unfold State.revertAt
  split
  · rw [State.pkg_updNat, if_neg h]
  · rfl

theorem State.revertAll_pkg {l : List Nat} {p : PkgId} (ht : Nat) (s : State) (h : p.val ∈ l) : ((l.foldl (State.revertAt ht) s).pkg p).ToldToRevert ht := by
  refine foldl_each (f := State.revertAt ht) (P := fun q (s : State) => p.val = q → (s.pkg p).ToldToRevert ht) l s
    (fun s q _ hq => hq ▸ s.revertAt_tells ht p) (fun s y q _ hy hyp => ?_) p h rfl
  by_cases hq : p.val = q
  · exact hq ▸ s.revertAt_tells ht p
  · rw [s.revertAt_pkg_other ht hq]
    exact hy hyp

theorem State.revertAt_ctrl (ht : Nat) (s : State) (q n : Nat) (hn : n < 34) : (s.revertAt ht q).ctrl n = s.ctrl n ∨
    (s.revertAt ht q).ctrl n = if (s.ctrl n).state = 2 then { s.ctrl n with revertAt := some ht } else { s.ctrl n with state := 0, roster := 0, staged := none } := by
  unfold State.revertAt
  split
  · left
    obtain ⟨ps, h⟩ := State.PkgsOnly.updNat s q (fun k => { k.setF F.BOOT_CMD_HT ht with boot := { k.boot with failed := false } })
    rw [h]
    rfl
  · by_cases hq : n = q - 128
    · right
      rw [← hq, State.ctrl_updCtrl_same s hn]
    · left
      exact s.ctrl_updCtrl_other hq _

/-- A controller in TRIAL has its time to return. -/
def Controller.Returns (ht : Nat) (x : Controller) : Prop := x.state = 2 ∧ x.revertAt = some ht

theorem State.revertAll_ctrl {l : List Nat} {n : Nat} (ht : Nat) (s : State) (hn : n < 34) (hmem : 128 + n ∈ l) (hstate : (s.ctrl n).state = 2) :
    ((l.foldl (State.revertAt ht) s).ctrl n).Returns ht := by
  have trial (s : State) (q : Nat) (h : (s.ctrl n).state = 2) : ((s.revertAt ht q).ctrl n).state = 2 := by
    rcases s.revertAt_ctrl ht q n hn with e | e <;> rw [e]
    · exact h
    · rw [if_pos h]
      exact h
  have told (s : State) (q : Nat) (h : (s.ctrl n).Returns ht) : ((s.revertAt ht q).ctrl n).Returns ht := by
    rcases s.revertAt_ctrl ht q n hn with e | e <;> rw [e]
    · exact h
    · rw [if_pos h.1]
      exact ⟨h.1, rfl⟩
  have own (s : State) (h : (s.ctrl n).state = 2) : ((s.revertAt ht (128 + n)).ctrl n).Returns ht := by
    rw [State.revertAt, if_neg (by omega), Nat.add_sub_cancel_left, State.ctrl_updCtrl_same s hn, if_pos h]
    exact ⟨h, rfl⟩
  induction l generalizing s with
  | nil => exact absurd hmem List.not_mem_nil
  | cons q l ih =>
    rcases List.mem_cons.mp hmem with rfl | hmem
    · exact List.foldlRecOn l (State.revertAt ht) (motive := fun s => (s.ctrl n).Returns ht) (own s hstate) fun b hb q _ => told b q hb
    · exact ih (s.revertAt ht q) hmem (trial s q hstate)

/-- A controller that has restarted from its confirmed slot is left there. -/
theorem State.revertAll_ctrl_confirmed (l : List Nat) {n w : Nat} (ht : Nat) (s : State) (hn : n < 34) (hstate : (s.ctrl n).state = 0)
    (hrestart : (s.ctrl n).restart = some w) :
    ((l.foldl (State.revertAt ht) s).ctrl n).state = 0 ∧ ((l.foldl (State.revertAt ht) s).ctrl n).restart = some w :=
  List.foldlRecOn l (State.revertAt ht) (motive := fun s => (s.ctrl n).state = 0 ∧ (s.ctrl n).restart = some w) ⟨hstate, hrestart⟩ fun b hb q _ => by
    obtain ⟨h0, hr⟩ := hb
    rcases b.revertAt_ctrl ht q n hn with e | e <;> rw [e]
    · exact ⟨h0, hr⟩
    · rw [if_neg (by rw [h0]; decide)]
      exact ⟨rfl, hr⟩

theorem State.ctrl_revertNoted (s : State) (c : Nat) (r : Roster) (st : Status) (n : Nat) : (s.revertNoted c r st).ctrl n = s.ctrl n :=
  State.ctrl_putCommit _ c none n

theorem State.revertNoted_events (s : State) (c : Nat) (r : Roster) (st : Status) :
    (s.revertNoted c r st).events = ⟨s.nextEvent, "RosterReverted", .warning, st⟩ :: s.events := by
  obtain ⟨us, cs, h⟩ := (s.draw.putRoster c { r with phase := .reverted, status := st }).putCommit_frame c none
  rw [State.revertNoted, h]
  rfl

theorem State.revertRoster_roster (s : State) (c : Nat) (r : Roster) (st : Status) (t : Nat) :
    (s.revertRoster c r st t).roster c = some { r with phase := .reverted, status := st } := by
  rw [State.revertRoster_eq]
  obtain ⟨ps, cs, h⟩ := State.revertAll_frame r.targets (s.revertTime t) (s.revertNoted c r st)
  obtain ⟨us, cs', h'⟩ := (s.draw.putRoster c { r with phase := .reverted, status := st }).putCommit_frame c none
  rw [h]
  show (s.revertNoted c r st).roster c = _
  rw [State.revertNoted, h']
  exact s.draw.roster_putRoster_same c _

/-- R936: the roster ends, and its targets are told when to return. -/
theorem State.revertRoster_shows (s : State) (c : Nat) (r : Roster) (st : Status) {t : Nat} (ht : t < 2 ^ 63) (p : PkgId) :
    (s.revertRoster c r st t).roster c = some { r with phase := .reverted, status := st } ∧ (s.revertRoster c r st t).commitOf c = none ∧
    (∃ e ∈ (s.revertRoster c r st t).events, e.name = "RosterReverted" ∧ e.arg = st ∧ e.id = s.nextEvent) ∧
    (p.val ∈ r.targets → t + 60000000000 ≤ ((s.revertRoster c r st t).pkg p).getF F.BOOT_CMD_HT ∧ ((s.revertRoster c r st t).pkg p).boot.failed = false) ∧
    ∀ n, n < 34 → 128 + n ∈ r.targets → (s.ctrl n).state = 2 → ∃ w, ((s.revertRoster c r st t).ctrl n).revertAt = some w ∧ t + 60000000000 ≤ w := by
  have later : t + 60000000000 ≤ s.revertTime t := Nat.le_add_right _ _
  refine ⟨s.revertRoster_roster c r st t, ?_⟩
  rw [State.revertRoster_eq]
  refine ⟨?_, ?_, fun hp => ?_, fun n hn hmem hstate => ?_⟩
  · obtain ⟨ps, cs, h⟩ := State.revertAll_frame r.targets (s.revertTime t) (s.revertNoted c r st)
    rw [h]
    exact State.commitOf_putCommit_same _ c none
  · obtain ⟨ps, cs, h⟩ := State.revertAll_frame r.targets (s.revertTime t) (s.revertNoted c r st)
    rw [h]
    refine ⟨_, (s.revertNoted_events c r st).symm ▸ List.mem_cons_self, rfl, rfl, rfl⟩
  · obtain ⟨hcmd, hfailed⟩ := State.revertAll_pkg (s.revertTime t) (s.revertNoted c r st) hp
    rw [hcmd, Nat.mod_eq_of_lt (s.revertTime_lt ht)]
    exact ⟨later, hfailed⟩
  · exact ⟨_, (State.revertAll_ctrl _ _ hn hmem ((congrArg Controller.state (s.ctrl_revertNoted c r st n)).trans hstate)).2, later⟩

/-! ### The coordinator's actions (R936–R939) -/

section Actions

variable {tray : TrayId} (hact : s.paired = false ∨ s.primary.isSome = true)
include hact

theorem exec_confirmRoster : exec (.confirmRoster tray t₀) s = .next (match s.roster (s.coord tray) with
    | some r =>
      if r.phase ≠ .committed ∧ r.phase ≠ .trial then (s.answer 0).answer 0x380B
      else if r.targets.any (fun q => s.inTrial q && decide (s.windowEnd q ≤ t₀)) then (s.answer 0).answer 0x680C
      else if !r.targets.all s.inTrial then (s.answer 0).answer 0x380B
      else r.targets.foldl (fun (s : State) q => if q < 128 then s else s.ctrlConfirm (q - 128) (fieldAt r.image 20 1))
        (((s.answer 0).putCommit (s.coord tray) ((s.commitOf (s.coord tray)).map (fun (x : Commit) => { x with confirmed := true }))).putRoster
          (s.coord tray) { r with phase := .confirmed })
    | none => (s.answer 0).answer 0x380B) := by
  show Host.Outcome.next (s.asAction _) = _
  rw [State.asAction_of_primary hact]
  rfl

theorem confirmRoster_none (hroster : s.roster (s.coord tray) = none) :
    Completes (.confirmRoster tray t₀) s (fun t => t.action = 0x380B ∧ t.rosters = s.rosters) := by
  refine ⟨(s.answer 0).answer 0x380B, (exec_confirmRoster hact).trans ?_, ?_⟩
  · rw [hroster]
  · exact ⟨rfl, rfl⟩

theorem revertRoster_none (hroster : s.roster (s.coord tray) = none) :
    Completes (.revertRoster tray t₀) s (fun t => t.action = 0x380B ∧ t.rosters = s.rosters) := by
  refine ⟨(s.answer 0).answer 0x380B, congrArg Host.Outcome.next ?_, rfl, rfl⟩
  rw [hroster]
  exact State.asAction_of_primary hact _

variable {r : Roster} (hroster : s.roster (s.coord tray) = some r) (hphase : r.phase = .committed ∨ r.phase = .trial)
include hroster hphase

theorem confirmRoster_over (hover : ∃ q ∈ r.targets, s.inTrial q = true ∧ s.windowEnd q ≤ t₀) :
    Completes (.confirmRoster tray t₀) s (fun t => t.action = 0x680C ∧ t.rosters = s.rosters) := by
  refine ⟨(s.answer 0).answer 0x680C, (exec_confirmRoster hact).trans ?_, ?_⟩
  · rw [hroster]
    refine congrArg Host.Outcome.next ((if_neg fun h => hphase.elim h.1 h.2).trans (if_pos ?_))
    obtain ⟨q, hq, htrial, hlate⟩ := hover
    exact List.any_eq_true.mpr ⟨q, hq, by rw [htrial, decide_eq_true hlate]; rfl⟩
  · exact ⟨rfl, rfl⟩

/-- A target's turn of CONFIRM. -/
def State.confirmAt (keys : Nat) (s : State) (q : Nat) : State := if q < 128 then s else s.ctrlConfirm (q - 128) keys

omit hact hroster hphase in
theorem State.confirmAt_controllersOnly (keys : Nat) (s : State) (q : Nat) : s.ControllersOnly (s.confirmAt keys q) := .ite (.refl s) (.updCtrl s _ _)

omit hact hroster hphase in
theorem State.confirmAt_other (keys : Nat) (s : State) {n q : Nat} (hq : q ≠ 128 + n) : (s.confirmAt keys q).ctrl n = s.ctrl n := by
  unfold State.confirmAt
  split
  · rfl
  · exact s.ctrl_updCtrl_other (by omega) _

/-- R939: a controller that runs its new slot for good. -/
def Controller.ConfirmedFrom (x y : Controller) : Prop := y.state = 0 ∧ y.active = 1 - x.active ∧ y.floor = max x.floor (x.staged.getD x.secver)

omit hact hroster hphase in
theorem State.confirmAt_own (keys : Nat) (s : State) {n : Nat} (hn : n < 34) : (s.ctrl n).ConfirmedFrom ((s.confirmAt keys (128 + n)).ctrl n) := by
  rw [State.confirmAt, if_neg (by omega), Nat.add_sub_cancel_left, State.ctrlConfirm, State.ctrl_updCtrl_same s hn]
  exact ⟨rfl, rfl, rfl⟩

theorem confirmRoster_confirms (hgood : ∀ q ∈ r.targets, s.inTrial q = true ∧ t₀ < s.windowEnd q) (hnodup : r.targets.Nodup) :
    Completes (.confirmRoster tray t₀) s (fun t => t.action = 0 ∧ t.pkgs = s.pkgs ∧ t.roster (s.coord tray) = some { r with phase := .confirmed } ∧
      t.commitOf (s.coord tray) = (s.commitOf (s.coord tray)).map (fun x => { x with confirmed := true }) ∧
      ∀ n, n < 34 → 128 + n ∈ r.targets → (t.ctrl n).state = 0 ∧ (t.ctrl n).active = 1 - (s.ctrl n).active ∧
        (t.ctrl n).floor = max (s.ctrl n).floor ((s.ctrl n).staged.getD (s.ctrl n).secver)) := by
  have inside : ¬ r.targets.any (fun q => s.inTrial q && decide (s.windowEnd q ≤ t₀)) = true := by
    intro h
    obtain ⟨q, hq, hlate⟩ := List.any_eq_true.mp h
    exact Nat.not_le.mpr (hgood q hq).2 (of_decide_eq_true (Bool.and_eq_true_iff.mp hlate).2)
  have all : r.targets.all s.inTrial = true := List.all_eq_true.mpr fun q hq => (hgood q hq).1
  obtain ⟨us, cs, noted⟩ := (s.answer 0).putCommit_frame (s.coord tray) ((s.commitOf (s.coord tray)).map (fun (x : Commit) => { x with confirmed := true }))
  have commit := (s.answer 0).commitOf_putCommit_same (s.coord tray) ((s.commitOf (s.coord tray)).map (fun (x : Commit) => { x with confirmed := true }))
  refine ⟨r.targets.foldl (State.confirmAt (fieldAt r.image 20 1)) (((s.answer 0).putCommit (s.coord tray)
      ((s.commitOf (s.coord tray)).map (fun (x : Commit) => { x with confirmed := true }))).putRoster (s.coord tray) { r with phase := .confirmed }), (exec_confirmRoster hact).trans ?_, ?_⟩
  · rw [hroster]
    exact congrArg Host.Outcome.next ((if_neg fun h => hphase.elim h.1 h.2).trans ((if_neg inside).trans (if_neg (by rw [all]; decide))))
  · have frame := State.ControllersOnly.foldl r.targets (State.confirmAt_controllersOnly (fieldAt r.image 20 1)) (((s.answer 0).putCommit (s.coord tray)
      ((s.commitOf (s.coord tray)).map (fun (x : Commit) => { x with confirmed := true }))).putRoster (s.coord tray) { r with phase := .confirmed })
    refine ⟨?_, ?_, (frame.roster _).trans (State.roster_putRoster_same _ _ _), (frame.commitOf _).trans commit, fun n hn hmem => ?_⟩
    · obtain ⟨cs', h⟩ := frame
      rw [h, noted]
      rfl
    · rw [frame.pkgs]
      exact (s.answer 0).putCommit_pkgs _ _
    · refine foldl_ownTurn (op := State.confirmAt (fieldAt r.image 20 1)) (x := 128 + n) (A := fun t => t.ctrl n = s.ctrl n)
        (B := fun t => (s.ctrl n).ConfirmedFrom (t.ctrl n)) (fun b hb => hb ▸ b.confirmAt_own _ hn) (fun b q _ hq hb => ?_) (fun b q _ hq hb => ?_)
        hnodup hmem ((s.answer 0).ctrl_putCommit _ _ n)
      · rw [b.confirmAt_other _ hq]
        exact hb
      · rw [b.confirmAt_other _ hq]
        exact hb

theorem revertRoster_reverts (p : PkgId) (ht : t₀ < 2 ^ 63) : Completes (.revertRoster tray t₀) s (fun t =>
    t.roster (s.coord tray) = some { r with phase := .reverted, status := if s.trialFailed r then 0x580A else 0 } ∧ t.commitOf (s.coord tray) = none ∧
    (∃ e ∈ t.events, e.name = "RosterReverted" ∧ e.arg = (if s.trialFailed r then 0x580A else 0) ∧ e.id = s.nextEvent) ∧
    (p.val ∈ r.targets → t₀ + 60000000000 ≤ (t.pkg p).getF F.BOOT_CMD_HT ∧ (t.pkg p).boot.failed = false) ∧
    ∀ n, n < 34 → 128 + n ∈ r.targets → (s.ctrl n).state = 2 → ∃ w, (t.ctrl n).revertAt = some w ∧ t₀ + 60000000000 ≤ w) := by
  have run : exec (.revertRoster tray t₀) s = .next (if (r.phase = .committed ∨ r.phase = .trial) ∧ s.trialFailed r then s.revertRoster (s.coord tray) r 0x580A t₀
      else s.asAction (fun s' => if r.phase = .committed ∨ r.phase = .trial then s'.revertRoster (s.coord tray) r 0 t₀ else s'.answer 0x380B)) := by
    refine congrArg Host.Outcome.next ?_
    rw [hroster]
  cases hfailed : s.trialFailed r with
  | true => exact ⟨_, run.trans (congrArg _ (if_pos ⟨hphase, hfailed⟩)), s.revertRoster_shows _ r 0x580A ht p⟩
  | false =>
    refine ⟨_, run.trans (congrArg _ ((if_neg fun h => Bool.false_ne_true (hfailed.symm.trans h.2)).trans
      ((State.asAction_of_primary hact _).trans (if_pos hphase)))), (s.answer 0).revertRoster_shows _ r 0 ht p⟩

end Actions

end Sys2Proof.Machine
end

section
/-! PROOFS. The end of a trial window and dead units (R935, R940–R942); O54. -/

namespace Sys2Proof.Machine

variable {s : State} {t₀ : Nat}

/-! ### The end of a window (R940) -/

theorem State.inTrial_pkg (s : State) (p : PkgId) : s.inTrial p = ((s.pkg p).bc.state == 2) := by
  rw [State.inTrial, if_pos p.isLt, State.pkgs_get]
  rfl

theorem State.windowEnd_pkg (s : State) (p : PkgId) : s.windowEnd p = (s.pkg p).bc.windowEnd := by
  rw [State.windowEnd, if_pos p.isLt, State.pkgs_get]
  rfl

/-- R940: the package's next reset returns it. -/
def State.windowEnded (s : State) (p : PkgId) (t : Nat) : State := s.updNat p (fun k => (k.at t).writeBoot (fun r => { r with state := 3 }))

theorem exec_trialWindowEnd {p : PkgId} (hstate : (s.pkg p).bc.state = 2) (hover : (s.pkg p).bc.windowEnd ≤ t₀) : exec (.trialWindowEnd p t₀) s =
    .next (match (s.windowEnded p t₀).rosterOf p with
      | some (c, r) => (((s.windowEnded p t₀).putRoster c { r with phase := .reverted }).putCommit c none).post "RosterUnconfirmed" .critical 0
      | none => s.windowEnded p t₀) := by
  show execTrialWindowEnd p t₀ s = _
  unfold execTrialWindowEnd
  rw [s.inTrial_pkg, s.windowEnd_pkg, hstate]
  refine (if_neg (by rintro (h | h); exacts [Bool.noConfusion h, Nat.not_lt.mpr hover h])).trans ?_
  rw [if_pos p.isLt]
  rfl

theorem State.windowEnded_frame (s : State) (p : PkgId) (t : Nat) : s.PkgsOnly (s.windowEnded p t) := State.PkgsOnly.updNat s p _

theorem State.windowEnded_shows (s : State) (p : PkgId) (t : Nat) : ((s.windowEnded p t).pkg p).getF F.BC_STATE = 3 := by
  rw [State.windowEnded, State.pkg_updNat, if_pos rfl]
  exact (((s.pkg p).at t).writeBoot_shows (f := fun r => { r with state := 3 }) (Pkg.bc_lt _).1 (show 3 < 4 by decide)).1

/-- A roster that ends unconfirmed. -/
def State.unconfirmed (s : State) (c : Nat) (r : Roster) : State :=
  ((s.putRoster c { r with phase := .reverted }).putCommit c none).post "RosterUnconfirmed" .critical 0

theorem State.unconfirmed_shows (s : State) (c : Nat) (r : Roster) : (s.unconfirmed c r).pkgs = s.pkgs ∧
    (s.unconfirmed c r).roster c = some { r with phase := .reverted } ∧ (s.unconfirmed c r).commitOf c = none ∧
    (s.unconfirmed c r).events = { id := s.nextEvent, name := "RosterUnconfirmed", severity := .critical, arg := 0 } :: s.events := by
  obtain ⟨us, cs, h⟩ := (s.putRoster c { r with phase := .reverted }).putCommit_frame c none
  have commit := (s.putRoster c { r with phase := .reverted }).commitOf_putCommit_same c none
  have roster := s.roster_putRoster_same c { r with phase := .reverted }
  unfold State.unconfirmed
  refine ⟨?_, ?_, commit, ?_⟩ <;> rw [h]
  · rfl
  · exact roster
  · rfl

theorem trialWindowEnd_completes {p : PkgId} (hstate : (s.pkg p).bc.state = 2) (hover : (s.pkg p).bc.windowEnd ≤ t₀) :
    Completes (.trialWindowEnd p t₀) s (fun t => (t.pkg p).getF F.BC_STATE = 3 ∧
      ∀ d r, s.rosterOf p = some (d, r) → t.roster d = some { r with phase := .reverted } ∧ t.commitOf d = none ∧
        t.events = { id := s.nextEvent, name := "RosterUnconfirmed", severity := .critical, arg := 0 } :: s.events) := by
  have run := exec_trialWindowEnd (t₀ := t₀) hstate hover
  have shows := s.windowEnded_shows p t₀
  obtain ⟨ps, frame⟩ := s.windowEnded_frame p t₀
  have same : (s.windowEnded p t₀).rosterOf p = s.rosterOf p := by rw [frame]; rfl
  rw [same] at run
  cases hroster : s.rosterOf p with
  | none =>
    rw [hroster] at run
    exact ⟨_, run, shows, fun d r h => nomatch h⟩
  | some x =>
    obtain ⟨c, r⟩ := x
    rw [hroster] at run
    obtain ⟨hpkgs, hr, hc, he⟩ := (s.windowEnded p t₀).unconfirmed_shows c r
    refine ⟨(s.windowEnded p t₀).unconfirmed c r, run, ?_, fun d r' h => ?_⟩
    · exact (congrArg (fun l => (l[p]).getF F.BC_STATE) hpkgs).trans shows
    · obtain ⟨rfl, rfl⟩ := Prod.mk.inj (Option.some.inj h)
      refine ⟨hr, hc, he.trans ?_⟩
      rw [frame]

/-! ### Silent and dead controllers (R935, R941, R942) -/

/-- A controller has been heard since its restart. -/
def State.heardSince (s : State) (node w : Nat) : Bool := match s.bus.heardAt node with
  | some h => decide (w ≤ h)
  | none => false

theorem State.heardSince_of_late {node w h : Nat} (hheard : s.bus.heardAt node = some h) (hlate : w ≤ h) : s.heardSince node w = true := by
  rw [State.heardSince, hheard]
  exact decide_eq_true hlate

theorem State.heardSince_of_silent {node w : Nat} (hsilent : ∀ h, s.bus.heardAt node = some h → h < w) : s.heardSince node w = false := by
  unfold State.heardSince
  cases hheard : s.bus.heardAt node with
  | none => rfl
  | some h => exact decide_eq_false (Nat.not_le.mpr (hsilent h hheard))

theorem exec_trialSilenceTimeout {node : Fin 34} {w : Nat} (hw : (s.ctrl node).restart = some w) : exec (.trialSilenceTimeout node t₀) s =
    if s.heardSince node w then .next (s.updCtrl node (fun (x : Controller) => { x with restart := none }))
    else if t₀ < w + 120000000000 then .next s
    else if (s.ctrl node).state = 2 then .next (match s.rosterOf (128 + node) with
        | some (c, r) => (s.ctrlRevert node t₀).revertRoster c r 0x580A t₀
        | none => s.ctrlRevert node t₀)
    else .next (s.ctrlDead node t₀) := by
  show execTrialSilenceTimeout node t₀ s = _
  unfold execTrialSilenceTimeout
  dsimp only
  rw [hw]
  rfl

theorem trialSilence_heard {node : Fin 34} {w h : Nat} (hw : (s.ctrl node).restart = some w) (hheard : s.bus.heardAt node = some h) (hlate : w ≤ h) :
    Completes (.trialSilenceTimeout node t₀) s (fun t => (t.ctrl node).restart = none ∧ (t.ctrl node).state = (s.ctrl node).state ∧ t.pkgs = s.pkgs) := by
  refine ⟨_, (exec_trialSilenceTimeout hw).trans (if_pos (State.heardSince_of_late hheard hlate)), ?_⟩
  dsimp only
  rw [State.ctrl_updCtrl_same s node.isLt]
  exact ⟨rfl, rfl, rfl⟩

section Silent

variable {node : Fin 34} {w : Nat} (hw : (s.ctrl node).restart = some w) (hsilent : ∀ h, s.bus.heardAt node = some h → h < w)
  (hlate : w + 120000000000 ≤ t₀)
include hw hsilent hlate

theorem trialSilence_fails (hstate : (s.ctrl node).state = 2) : Completes (.trialSilenceTimeout node t₀) s (fun t => (t.ctrl node).state = 0 ∧
    (t.ctrl node).restart = some t₀ ∧
    ∀ d r, s.rosterOf (128 + node.val) = some (d, r) → t.roster d = some { r with phase := .reverted, status := 0x580A }) := by
  have run := (exec_trialSilenceTimeout hw).trans ((if_neg (by rw [State.heardSince_of_silent hsilent]; decide)).trans
    ((if_neg (Nat.not_lt.mpr hlate)).trans (if_pos hstate)))
  have ctrl := s.ctrl_ctrlRevert node.isLt t₀
  cases hroster : s.rosterOf (128 + node) with
  | none =>
    rw [hroster] at run
    refine ⟨_, run, ?_⟩
    dsimp only
    rw [ctrl]
    exact ⟨rfl, rfl, fun d r h => nomatch h⟩
  | some x =>
    obtain ⟨c, r⟩ := x
    rw [hroster] at run
    refine ⟨_, run, ?_⟩
    dsimp only
    rw [State.revertRoster_eq]
    have noted := ((s.ctrlRevert node t₀).ctrl_revertNoted c r 0x580A node).trans ctrl
    have kept := State.revertAll_ctrl_confirmed r.targets ((s.ctrlRevert node t₀).revertTime t₀) ((s.ctrlRevert node t₀).revertNoted c r 0x580A) node.isLt
      (congrArg Controller.state noted) (congrArg Controller.restart noted)
    refine ⟨kept.1, kept.2, fun d r' h => ?_⟩
    obtain ⟨rfl, rfl⟩ := Prod.mk.inj (Option.some.inj h)
    exact (s.ctrlRevert node t₀).revertRoster_roster c r 0x580A t₀

/-- A dead controller, told to the rack. -/
def State.deadNoted (s : State) (n : Nat) : State :=
  (s.updCtrl n (fun (x : Controller) => { x with dead := true, restart := none })).post "UnitDead" .critical (128 + n)

/-- R942: the packages of a dead TMC's tray go down, and the tray with them. -/
def State.tmcDead (s : State) (n t : Nat) : State :=
  ((trayPkgs n).foldl (fun (s : State) q => s.updNat q (fun k => (k.at t).safetyDown)) s).updTray n
    (fun (y : Tray) => { y with safing := true, held := true, lamp := .amber 10 })

/-- R942: a dead umpire's line is released. -/
def State.umpireDead (s : State) (u t : Nat) : State := ((s.updUmp u (fun (x : Umpire) => { x with up := false })).releaseLine u t).takePrimary

omit hw hsilent hlate in
theorem State.ctrlDead_eq (s : State) (n t : Nat) : s.ctrlDead n t =
    if 3 ≤ n ∧ n ≤ 26 then ((s.deadNoted n).tmcDead (n - 3) t).finishSafe (n - 3)
    else if n = 1 ∨ n = 2 then (s.deadNoted n).umpireDead (n - 1) t
    else if 27 ≤ n ∧ n ≤ 32 then { s.deadNoted n with shelves := s.shelves.setIfInBounds (n - 27) false }
    else (s.deadNoted n).post "SensorLost" .warning 0 := rfl

omit hw hsilent hlate in
theorem State.finishSafe_frame (s : State) (n : Nat) : ∃ ps ys, s.finishSafe n = { s with pkgs := ps, trays := ys } := by
  unfold State.finishSafe
  split
  · obtain ⟨ps, h⟩ := State.PkgsOnly.foldl (trayPkgs n) (fun s q => State.PkgsOnly.updNat s q Pkg.auxLost) s
    rw [h]
    exact ⟨ps, _, rfl⟩
  · exact ⟨s.pkgs, s.trays, rfl⟩

omit hw hsilent hlate in
theorem State.finishSafe_held (s : State) (n : TrayId) : ((s.finishSafe n).tray n).held = (s.tray n).held ∧
    ∀ q : PkgId, ((s.finishSafe n).pkg q).rails.held = (s.pkg q).rails.held := by
  by_cases h : (s.tray n).safing = true ∧ (s.pkgs.toList.all (fun k => trayOf k.id != n || k.rails.mode == .off)) = true
  · have e : s.finishSafe n = s.madeSafe n := if_pos h
    rw [e, State.tray_madeSafe]
    refine ⟨rfl, fun q => ?_⟩
    rw [State.pkg_madeSafe]
    split
    · rw [Pkg.auxLost_rails]
    · rfl
  · have e : s.finishSafe n = s := if_neg h
    rw [e]
    exact ⟨rfl, fun _ => rfl⟩

omit hw hsilent hlate in
theorem State.tmcDead_frame (s : State) (n t : Nat) : ∃ ps ys, s.tmcDead n t = { s with pkgs := ps, trays := ys } := by
  unfold State.tmcDead
  obtain ⟨ps, h⟩ := State.PkgsOnly.foldl (trayPkgs n) (fun s q => State.PkgsOnly.updNat s q (fun k => (k.at t).safetyDown)) s
  rw [h]
  exact ⟨ps, _, rfl⟩

omit hw hsilent hlate in
theorem State.tmcDead_held (s : State) (n : TrayId) (t : Nat) : ((s.tmcDead n t).tray n).held = true ∧
    ∀ q : PkgId, trayOf q = n.val → ((s.tmcDead n t).pkg q).rails.held = true := by
  unfold State.tmcDead
  refine ⟨by rw [State.tray_updTray_same _ n.isLt], fun q hq => ?_⟩
  rw [State.pkg_updTray, State.pkg_foldl_tray, if_pos hq]
  rfl

omit hw hsilent hlate in
theorem State.takePrimary_events (s : State) : s.takePrimary.events = s.events := by
  rw [State.takePrimary_eq]
  refine foldl_keeps (v := State.events) _ _ fun s n _ => ?_
  unfold State.tellPrimary
  generalize State.primaryCode _ = u
  split
  · obtain ⟨ps, h⟩ := State.updTrayPkgs_pkgsOnly (s.updTray n fun (y : Tray) => { y with claimed := u }) n (fun k => k.setF F.GLB_MG_PRIMARY u)
    rw [h]
    rfl
  · rfl

omit hw hsilent hlate in
theorem State.releaseLine_frame (s : State) (u t : Nat) : ∃ us x b, s.releaseLine u t = { s with umpires := us, noPrimary := x, noPrimaryPosted := b } := by
  unfold State.releaseLine
  dsimp only
  split
  · exact ⟨_, _, _, rfl⟩
  · exact ⟨_, s.noPrimary, s.noPrimaryPosted, rfl⟩

omit hw hsilent hlate in
theorem State.umpireDead_shows (s : State) {u : Nat} (hu : u < 2) (t : Nat) : (s.umpireDead u t).controllers = s.controllers ∧
    (s.umpireDead u t).events = s.events ∧ ((s.umpireDead u t).ump u).up = false ∧ ((s.umpireDead u t).ump u).line = false := by
  have released := (s.updUmp u (fun (x : Umpire) => { x with up := false })).ump_releaseLine_same hu t
  obtain ⟨us, x, b, frame⟩ := (s.updUmp u (fun (x : Umpire) => { x with up := false })).releaseLine_frame u t
  unfold State.umpireDead
  rw [(State.takePrimary_tmcOnly _).controllers, State.takePrimary_events, State.ump_takePrimary, released, State.ump_updUmp_same s hu, frame]
  exact ⟨rfl, rfl, rfl, rfl⟩

omit hw hsilent hlate in
/-- R942: a dead controller is recorded and told, whatever it is. -/
theorem State.ctrlDead_told (s : State) (n t : Nat) : (s.ctrlDead n t).controllers = (s.deadNoted n).controllers ∧
    ∀ e ∈ (s.deadNoted n).events, e ∈ (s.ctrlDead n t).events := by
  rw [State.ctrlDead_eq]
  split
  · obtain ⟨ps, ys, h⟩ := ((s.deadNoted n).tmcDead (n - 3) t).finishSafe_frame (n - 3)
    obtain ⟨ps', ys', h'⟩ := (s.deadNoted n).tmcDead_frame (n - 3) t
    rw [h, h']
    exact ⟨rfl, fun _ he => he⟩
  · split
    · obtain ⟨hc, he, -⟩ := (s.deadNoted n).umpireDead_shows (u := n - 1) (by omega) t
      rw [hc, he]
      exact ⟨rfl, fun _ he => he⟩
    · split
      · exact ⟨rfl, fun _ he => he⟩
      · exact ⟨rfl, fun _ he => List.mem_cons_of_mem _ he⟩

theorem trialSilence_dead (hstate : (s.ctrl node).state ≠ 2) : Completes (.trialSilenceTimeout node t₀) s (fun t => (t.ctrl node).dead = true ∧
    (∃ e ∈ t.events, e.name = "UnitDead" ∧ e.arg = 128 + node.val ∧ e.id = s.nextEvent) ∧
    (∀ n, node.val = n + 3 → n < 24 → (t.tray n).held = true ∧ ∀ q : PkgId, trayOf q = n → (t.pkg q).rails.held = true) ∧
    ∀ u, node.val = u + 1 → u < 2 → (t.ump u).up = false ∧ (t.ump u).line = false) := by
  have run := (exec_trialSilenceTimeout hw).trans ((if_neg (by rw [State.heardSince_of_silent hsilent]; decide)).trans
    ((if_neg (Nat.not_lt.mpr hlate)).trans (if_neg hstate)))
  obtain ⟨hctrl, hevents⟩ := s.ctrlDead_told node t₀
  refine ⟨_, run, ?_, ⟨_, hevents _ List.mem_cons_self, rfl, rfl, rfl⟩, fun n hnode hn => ?_, fun u hnode hu => ?_⟩
  · have same : (s.ctrlDead node t₀).ctrl node = (s.deadNoted node).ctrl node := by unfold State.ctrl; rw [hctrl]
    have noted : (s.deadNoted node).ctrl node = { s.ctrl node with dead := true, restart := none } :=
      s.ctrl_updCtrl_same node.isLt (fun (x : Controller) => { x with dead := true, restart := none })
    rw [same, noted]
  · have number : node.val - 3 = n := by omega
    rw [State.ctrlDead_eq, if_pos (by omega), number]
    obtain ⟨htray, hpkg⟩ := ((s.deadNoted node).tmcDead n t₀).finishSafe_held ⟨n, hn⟩
    obtain ⟨hheld, hdown⟩ := (s.deadNoted node).tmcDead_held ⟨n, hn⟩ t₀
    exact ⟨htray.trans hheld, fun q hq => (hpkg q).trans (hdown q hq)⟩
  · have number : node.val - 1 = u := by omega
    rw [State.ctrlDead_eq, if_neg (by omega), if_pos (by omega), number]
    exact ((s.deadNoted node).umpireDead_shows hu t₀).2.2

end Silent

/-- Settles O54. -/
theorem rostersAreTried : Obligations.RostersAreTried := by
  unfold Obligations.RostersAreTried
  intro s p tray t₀
  obtain ⟨k, hk⟩ : ∃ k, k = (s.pkg p).at t₀ := ⟨_, rfl⟩
  rw [← hk]
  have bc : (s.pkg p).bc = k.bc := by rw [hk]; exact (Pkg.bc_of_flash rfl).symm
  refine ⟨bootCommit_early hk, bootCommit_late hk, bootCommit_refused hk, rosterActivate_package hk, fun n hlow hhigh => rosterActivate_tmc hlow hhigh,
    fun node hstate hdue => ⟨staggered_shelf hstate hdue, staggered_waits hstate hdue, fun u => staggered_standby hstate hdue,
      fun u => staggered_primary hstate hdue⟩,
    bootConfirm_of_trial hk, bootConfirm_refused hk, bootRevert_early hk, bootRevert_late hk, fun w => revertAtTime_package hk,
    fun n w => revertAtTime_controller, fun hact => ⟨fun hroster => ⟨confirmRoster_none hact hroster, revertRoster_none hact hroster⟩,
      fun r hroster hphase => ⟨confirmRoster_over hact hroster hphase, confirmRoster_confirms hact hroster hphase, revertRoster_reverts hact hroster hphase p⟩⟩,
    fun hstate hover => trialWindowEnd_completes (bc ▸ hstate) (bc ▸ hover),
    fun node w hw => ⟨fun h hheard hlate => trialSilence_heard hw hheard hlate, fun hsilent hlate =>
      ⟨trialSilence_fails hw hsilent hlate, trialSilence_dead hw hsilent hlate⟩⟩⟩

end Sys2Proof.Machine
end

section
/-! PROOFS. Translation side by side (R246–R248, R261–R265): packages that agree on HBM, on the caches and on what configures translation reach
the same HBM bytes; and what a translation that succeeds leaves of the registers. -/

namespace Sys2Proof.Machine

/-! ### Packages that agree -/

/-- `j` holds the HBM, the translation caches and the registers at `P` that `k` holds. -/
structure Alike (P : Nat → Prop) (k j : Pkg) : Prop where
  hbm : j.hbm = k.hbm
  hbmBad : j.hbmBad = k.hbmBad
  hbmCe : j.hbmCe = k.hbmCe
  xlt : j.xlt = k.xlt
  cells : CellsKept P k j

/-- The registers that translation for a root reads. -/
structure XltReads (P : Nat → Prop) (root : Nat) : Prop where
  policy : P 0x8
  rootReg : P (0x400000 + 0x8 * root)
  allotment : root < 4 → P (0x400080 + 0x8 * root)
  units : ∀ i, i < 8 → P (0x800000 + 0x100 * i)

variable {P : Nat → Prop} {k j : Pkg}

namespace Alike

theorem setF (h : Alike P k j) (f : Fld) {v w : Nat} (hv : P f.off → w = v) : Alike P (k.setF f v) (j.setF f w) := by
  refine ⟨h.hbm, h.hbmBad, h.hbmCe, h.xlt, fun o ho => ?_⟩
  unfold Pkg.setF
  by_cases ho' : o = f.off
  · subst ho'
    rw [Pkg.cell_setCell_same, Pkg.cell_setCell_same, h.cells _ ho, hv ho]
  · rw [Pkg.cell_setCell_other _ _ ho', Pkg.cell_setCell_other _ _ ho', h.cells _ ho]

theorem addWrap (h : Alike P k j) (f : Fld) (n : Nat) : Alike P (k.addWrap f n) (j.addWrap f n) :=
  h.setF f fun hf => by rw [h.cells.getF hf]

theorem inc (h : Alike P k j) (f : Fld) : Alike P (k.inc f) (j.inc f) := h.setF f fun hf => by rw [h.cells.getF hf]

theorem ofXlt (h : Alike P k j) {x y : Xlt} (hxy : y = x) : Alike P { k with xlt := x } { j with xlt := y } :=
  ⟨h.hbm, h.hbmBad, h.hbmCe, hxy, (CellsKept.ofRegs rfl).trans (h.cells.trans (CellsKept.ofRegs rfl))⟩

theorem incs (h : Alike P k j) (us : List Nat) (f : Nat → Fld) :
    Alike P (us.foldl (fun k u => k.inc (f u)) k) (us.foldl (fun k u => k.inc (f u)) j) := by
  induction us generalizing k j with
  | nil => exact h
  | cons u us ih => exact ih (h.inc (f u))

end Alike

/-! ### Reads of HBM -/

/-- The registers that an access which succeeds leaves alone, whatever it counts. -/
abbrev countsNothing (o : Nat) : Prop := o % 64 = 24

theorem Pkg.hbmCorrect_counts (k : Pkg) (us : List Nat) : CellsKept countsNothing k (k.hbmCorrect us) :=
  .trans (.ofRegs rfl) (.foldl _ (fun j u _ => .inc j (f := F.HBM_CE_COUNT (hbmStack (u * 64))) (by simp only [F.HBM_CE_COUNT]; omega)) _)

theorem Alike.hbmCorrect (h : Alike P k j) (us : List Nat) : Alike P (k.hbmCorrect us) (j.hbmCorrect us) := by
  have start : Alike P { k with hbmCe := k.hbmCe.filter (fun u => !us.contains u) } { j with hbmCe := j.hbmCe.filter (fun u => !us.contains u) } :=
    ⟨h.hbm, h.hbmBad, by rw [h.hbmCe], h.xlt, (CellsKept.ofRegs rfl).trans (h.cells.trans (CellsKept.ofRegs rfl))⟩
  unfold Pkg.hbmCorrect
  rw [h.hbmCe] at start ⊢
  exact start.incs _ _

/-- A read that is answered stops nowhere. -/
theorem Pkg.hbmRead_ok {k : Pkg} {a n : Nat} {b : Bytes} (h : (k.hbmRead a n).2 = .ok b) : k.unitsGood a n = true := by
  by_contra hbad
  unfold Pkg.unitsGood at hbad
  simp only [List.all_eq_true, Bool.and_eq_true, bne_iff_ne, ne_eq, Bool.not_eq_true', not_forall] at hbad
  obtain ⟨u, hu, hbad⟩ := hbad
  have stopped : ∃ st, (k.hbmStop (hbmUnits a n) (hbmUnits a n)).2 = some st := by
    unfold Pkg.hbmStop
    cases hfailed : (hbmUnits a n).find? (fun u => k.getF (F.HBM_STATE (hbmStack (u * 64))) == 3) with
    | some v => exact ⟨_, rfl⟩
    | none =>
      cases hue : (hbmUnits a n).find? (fun u => k.hbmBad.contains u) with
      | some v => exact ⟨_, rfl⟩
      | none =>
        refine absurd ⟨fun h3 => ?_, ?_⟩ hbad
        · exact absurd (beq_iff_eq.mpr h3) (List.find?_eq_none.mp hfailed u hu)
        · exact Bool.eq_false_iff.mpr (List.find?_eq_none.mp hue u hu)
  obtain ⟨st, stopped⟩ := stopped
  unfold Pkg.hbmRead at h
  dsimp only at h
  rw [show k.hbmStop (hbmUnits a n) (hbmUnits a n) = (_, some st) from Prod.ext rfl stopped] at h
  cases h

theorem Pkg.hbmRead_of_unitsGood {k : Pkg} {a n : Nat} (h : k.unitsGood a n = true) :
    (k.hbmRead a n).1 = (k.hbmCorrect (hbmUnits a n)).addWrap (F.HBM_BYTES 0) (64 * (hbmUnits a n).length) := by
  rw [hbmRead_good _ _ _ _ (Pkg.hbmStop_of_good h fun u hu => hu)]

theorem Pkg.hbmRead_counts {k : Pkg} {a n : Nat} (h : k.unitsGood a n = true) : CellsKept countsNothing k (k.hbmRead a n).1 := by
  rw [Pkg.hbmRead_of_unitsGood h]
  exact (k.hbmCorrect_counts _).trans (.setF _ _ (by decide))

theorem Alike.unitsGood (h : Alike P k j) {root : Nat} (hreads : XltReads P root) (a n : Nat) : j.unitsGood a n = k.unitsGood a n :=
  Pkg.unitsGood_congr (fun i hi => h.cells.getF (hreads.units i hi)) h.hbmBad a n

/-- A read that one package answers, the other answers alike. -/
theorem Alike.hbmRead (h : Alike P k j) {root a n : Nat} {b : Bytes} (hreads : XltReads P root) (hok : (k.hbmRead a n).2 = .ok b) :
    (j.hbmRead a n).2 = .ok b ∧ Alike P (k.hbmRead a n).1 (j.hbmRead a n).1 := by
  have good := Pkg.hbmRead_ok hok
  have good' := (h.unitsGood hreads a n).trans good
  rw [Pkg.hbmRead_of_good good] at hok
  rw [Pkg.hbmRead_of_good good', Pkg.hbmRead_of_unitsGood good, Pkg.hbmRead_of_unitsGood good', h.hbm]
  exact ⟨hok, (h.hbmCorrect _).addWrap _ _⟩

/-! ### Walks -/

theorem Alike.inAllotment (h : Alike P k j) {root : Nat} (hreads : XltReads P root) : j.inAllotment root = k.inAllotment root := by
  have allotment : j.allotment root = k.allotment root := by
    unfold Pkg.allotment
    split
    · next hroot => rw [h.cells.getF (f := F.XLT_HBM_BASE root) (hreads.allotment hroot), h.cells.getF (f := F.XLT_HBM_LEN root) (hreads.allotment hroot)]
    · rfl
  funext a n
  unfold Pkg.inAllotment
  rw [allotment]

theorem Alike.place (h : Alike P k j) {root : Nat} (hreads : XltReads P root) : j.place = k.place := by
  funext a
  unfold Pkg.place Pkg.logicalCores
  rw [h.cells.getF (f := F.GLB_SPARE_POLICY) hreads.policy]

theorem Alike.pageGood (h : Alike P k j) {root : Nat} (hreads : XltReads P root) : j.pageGood = k.pageGood := by
  funext a n
  unfold Pkg.pageGood
  rw [h.place hreads]

theorem Alike.decodePte (h : Alike P k j) {root : Nat} (hreads : XltReads P root) : j.decodePte = k.decodePte := by
  funext level v
  unfold Pkg.decodePte
  rw [h.pageGood hreads]

/-- A walk read that is answered. -/
theorem Pkg.walkRead_ok {k : Pkg} {a n : Nat} {b : Bytes} (h : (k.walkRead a n).2 = .ok b) :
    (k.hbmRead a n).2 = .ok b ∧ (k.walkRead a n).1 = (k.hbmRead a n).1.addWrap (F.XLT_STATS 2) 1 := by
  unfold Pkg.walkRead at h ⊢
  dsimp only at h ⊢
  split at h
  · next heq =>
    rw [heq]
    exact ⟨h, rfl⟩
  · cases h
  · cases h

theorem Alike.walkRead (h : Alike P k j) {root a n : Nat} {b : Bytes} (hreads : XltReads P root) (hok : (k.walkRead a n).2 = .ok b) :
    (j.walkRead a n).2 = .ok b ∧ Alike P (k.walkRead a n).1 (j.walkRead a n).1 ∧ CellsKept countsNothing k (k.walkRead a n).1 := by
  obtain ⟨hread, hfirst⟩ := Pkg.walkRead_ok hok
  obtain ⟨hread', halike⟩ := h.hbmRead hreads hread
  have second : j.walkRead a n = ((j.hbmRead a n).1.addWrap (F.XLT_STATS 2) 1, .ok b) := by
    unfold Pkg.walkRead
    rw [show j.hbmRead a n = ((j.hbmRead a n).1, .ok b) from Prod.ext rfl hread']
  rw [second, hfirst]
  exact ⟨rfl, halike.addWrap _ _, (Pkg.hbmRead_counts (Pkg.hbmRead_ok hread)).trans (.setF _ _ (by decide))⟩

theorem Alike.walkRead_pair (h : Alike P k j) {root a n : Nat} {b : Bytes} {k₁ : Pkg} (hreads : XltReads P root) (hok : k.walkRead a n = (k₁, .ok b)) :
    ∃ j₁, j.walkRead a n = (j₁, .ok b) ∧ Alike P k₁ j₁ ∧ CellsKept countsNothing k k₁ := by
  obtain ⟨hok', halike, hkept⟩ := h.walkRead hreads (congrArg Prod.snd hok)
  rw [hok] at halike hkept
  exact ⟨_, Prod.ext rfl hok', halike, hkept⟩

theorem Alike.hbmRead_pair (h : Alike P k j) {root a n : Nat} {b : Bytes} {k₁ : Pkg} (hreads : XltReads P root) (hok : k.hbmRead a n = (k₁, .ok b)) :
    ∃ j₁, j.hbmRead a n = (j₁, .ok b) ∧ Alike P k₁ j₁ ∧ CellsKept countsNothing k k₁ := by
  obtain ⟨hok', halike⟩ := h.hbmRead hreads (congrArg Prod.snd hok)
  have hkept := Pkg.hbmRead_counts (Pkg.hbmRead_ok (congrArg Prod.snd hok))
  rw [hok] at halike hkept
  exact ⟨_, Prod.ext rfl hok', halike, hkept⟩

/-- A walk that finds its leaf in one package finds it in the other. -/
theorem Alike.walkFrom {root : Nat} (hreads : XltReads P root) (va fuel : Nat) {k j : Pkg} (h : Alike P k j) (level table : Nat) {l : Leaf}
    (hok : (k.walkFrom root va fuel level table).2 = .ok l) :
    (j.walkFrom root va fuel level table).2 = .ok l ∧ Alike P (k.walkFrom root va fuel level table).1 (j.walkFrom root va fuel level table).1 ∧
      CellsKept countsNothing k (k.walkFrom root va fuel level table).1 := by
  induction fuel generalizing k j level table l with
  | zero => cases hok
  | succ fuel ih =>
    unfold Pkg.walkFrom at hok ⊢
    rw [h.inAllotment hreads]
    split at hok
    · cases hok
    · next hin =>
      rw [if_neg hin, if_neg hin]
      obtain ⟨k₁, res, hread⟩ : ∃ k₁ res, k.walkRead (table + levelIndex level va * 8) 8 = (k₁, res) := ⟨_, _, rfl⟩
      rw [hread] at hok ⊢
      cases res with
      | error st => cases hok
      | ok b =>
        obtain ⟨j₁, hread', halike, hkept⟩ := h.walkRead_pair hreads hread
        rw [hread']
        dsimp only at hok ⊢
        rw [halike.decodePte hreads, halike.inAllotment hreads]
        cases hpte : k₁.decodePte level (leNat b) with
        | invalid => rw [hpte] at hok; cases hok
        | bad => rw [hpte] at hok; cases hok
        | table a =>
          rw [hpte] at hok
          dsimp only at hok ⊢
          split at hok
          · cases hok
          · next hin' =>
            rw [if_neg hin', if_neg hin']
            cases hsub : (k₁.walkFrom root va fuel (level - 1) a).2 with
            | error x => rw [hsub] at hok; cases hok
            | ok l' =>
              obtain ⟨hsub', halike', hkept'⟩ := ih halike (level - 1) a hsub
              rw [hsub] at hok
              rw [hsub']
              exact ⟨hok, halike'.ofXlt (by rw [halike'.xlt]), (hkept.trans hkept').trans (.ofRegs rfl)⟩
        | leaf base perm =>
          rw [hpte] at hok
          dsimp only at hok ⊢
          split at hok
          · next hgroup =>
            rw [if_pos hgroup, if_pos hgroup]
            obtain ⟨k₂, res, hread2⟩ : ∃ k₂ res, k₁.hbmRead (table + levelIndex 0 va / 16 * 128 + (if levelIndex 0 va % 16 < 8 then 64 else 0)) 64 = (k₂, res) :=
              ⟨_, _, rfl⟩
            rw [hread2] at hok ⊢
            cases res with
            | error st =>
              split at hok
              · cases hok
              · cases hok
              · next heq => cases heq
            | ok g =>
              obtain ⟨j₂, hread2', halike2, hkept2⟩ := halike.hbmRead_pair hreads hread2
              rw [hread2']
              dsimp only at hok ⊢
              rw [halike2.hbm, halike2.pageGood hreads]
              split at hok
              · next hgood =>
                rw [if_pos hgood, if_pos hgood]
                exact ⟨hok, halike2, hkept.trans hkept2⟩
              · cases hok
          · next hgroup =>
            rw [if_neg hgroup, if_neg hgroup]
            exact ⟨hok, halike, hkept⟩

theorem Alike.findLeaf {root : Nat} (hreads : XltReads P root) (h : Alike P k j) (va : Nat) {l : Leaf} (hok : (k.findLeaf root va).2 = .ok l) :
    (j.findLeaf root va).2 = .ok l ∧ Alike P (k.findLeaf root va).1 (j.findLeaf root va).1 ∧ CellsKept countsNothing k (k.findLeaf root va).1 := by
  have cached : j.cachedLeaf root va = k.cachedLeaf root va := by unfold Pkg.cachedLeaf; rw [h.xlt]
  unfold Pkg.findLeaf at hok ⊢
  rw [cached]
  cases hfound : k.cachedLeaf root va with
  | some l' =>
    rw [hfound] at hok
    exact ⟨hok, (h.ofXlt (by rw [h.xlt])).addWrap _ _, .trans (.ofRegs rfl) (.setF _ _ (by decide))⟩
  | none =>
    rw [hfound] at hok
    have start := h.addWrap (F.XLT_STATS 1) 1
    have count : CellsKept countsNothing k (k.addWrap (F.XLT_STATS 1) 1) := .setF _ _ (by decide)
    dsimp only at hok ⊢
    generalize k.addWrap (F.XLT_STATS 1) 1 = k₁ at hok start count ⊢
    generalize j.addWrap (F.XLT_STATS 1) 1 = j₁ at start ⊢
    have enabled : j₁.flag (F.XLT_ROOT_EN root) = k₁.flag (F.XLT_ROOT_EN root) := by
      unfold Pkg.flag
      rw [start.cells.getF (f := F.XLT_ROOT_EN root) hreads.rootReg]
    have address : j₁.getF (F.XLT_ROOT_ADDR root) = k₁.getF (F.XLT_ROOT_ADDR root) := start.cells.getF hreads.rootReg
    have from_ : j₁.walkStart root va = k₁.walkStart root va := by
      unfold Pkg.walkStart
      rw [start.xlt, address]
    unfold Pkg.walk at hok ⊢
    dsimp only at hok ⊢
    rw [enabled, address, start.inAllotment hreads, from_]
    split at hok
    · cases hok
    · next hroot =>
      rw [if_neg hroot, if_neg hroot]
      obtain ⟨hok', halike, hkept⟩ := start.walkFrom hreads va 4 _ _ hok
      exact ⟨hok', halike, count.trans hkept⟩

/-! ### Accesses that are mapped -/

/-- An answer in HBM needs no more than its leaf. -/
theorem Pkg.xlate_of_leaf {k : Pkg} {root va x : Nat} {r : Requester} {a : Access4} {l : Leaf} (hva : va < 2 ^ 56) (hleaf : (k.findLeaf root va).2 = .ok l)
    (hplace : (k.findLeaf root va).1.place (l.base + (va - l.va)) = some (.hbm x)) (hallows : (k.findLeaf root va).1.leafAllows l r a (.hbm x) = true) :
    k.xlate root va r a = (k.keepLeaf (k.findLeaf root va).1 root va l, .ok (.hbm x, l.va + l.size - va)) := by
  rw [Pkg.xlate, if_neg (Nat.not_le.mpr hva), Pkg.translate_eq, hleaf]
  unfold Pkg.answerLeaf
  dsimp only
  rw [hplace]
  dsimp only
  rw [hallows]
  rfl

theorem Pkg.xlate_hbm_va {k : Pkg} {root va x left : Nat} {r : Requester} {a : Access4} (h : (k.xlate root va r a).2 = .ok (.hbm x, left)) : va < 2 ^ 56 := by
  by_contra hva
  rw [Pkg.xlate, if_pos (Nat.not_lt.mp hva)] at h
  cases h

theorem Alike.xlate {root : Nat} (hreads : XltReads P root) (h : Alike P k j) {va x left : Nat} {r : Requester} {a : Access4}
    (hok : (k.xlate root va r a).2 = .ok (.hbm x, left)) : (j.xlate root va r a).2 = .ok (.hbm x, left) := by
  have hva := Pkg.xlate_hbm_va hok
  obtain ⟨k₁, l, -, -, hplace, hallows, rfl, hleaf, rfl, -⟩ := Pkg.xlate_hbm hok
  obtain ⟨hleaf', halike, -⟩ := h.findLeaf hreads va hleaf
  have allows : (j.findLeaf root va).1.leafAllows l r a (.hbm x) = true := by
    unfold Pkg.leafAllows at hallows ⊢
    have covers : l.root = root := (k.findLeaf_covers hleaf).1
    rw [covers] at hallows ⊢
    rw [halike.inAllotment hreads]
    exact hallows
  rw [Pkg.xlate_of_leaf hva hleaf' (by rw [halike.place hreads]; exact hplace) allows]

/-- Packages that agree are mapped alike. -/
theorem Alike.maps {root : Nat} (hreads : XltReads P root) (h : Alike P k j) {va n x : Nat} {r : Requester} {a : Access4}
    (hmaps : k.maps root va n r a x = true) : j.maps root va n r a x = true := by
  obtain ⟨left, hx, hleft, hgood⟩ := Pkg.maps_iff.mp hmaps
  exact Pkg.maps_iff.mpr ⟨left, h.xlate hreads hx, hleft, (h.unitsGood hreads x n).trans hgood⟩

/-- A change of the fabric alone does not reach translation. -/
theorem FabOnly.alike (h : FabOnly k j) : Alike (fun o => o < 0x200800 ∨ 0x300000 ≤ o) k j := by
  have cells := h.cells
  obtain ⟨⟨r, f, w, rfl⟩, -⟩ := h
  exact ⟨rfl, rfl, rfl, rfl, cells⟩

theorem FabOnly.maps (h : FabOnly k j) {root va n x : Nat} {r : Requester} {a : Access4} (hmaps : k.maps root va n r a x = true) :
    j.maps root va n r a x = true :=
  h.alike.maps ⟨.inl (by decide), .inr (by omega), fun _ => .inr (by omega), fun _ _ => .inr (by omega)⟩ hmaps

/-- The registers that a translation to HBM leaves alone. -/
theorem Pkg.xlate_counts {k : Pkg} {root va x left : Nat} {r : Requester} {a : Access4} (hok : (k.xlate root va r a).2 = .ok (.hbm x, left)) :
    CellsKept countsNothing k (k.xlate root va r a).1 := by
  obtain ⟨k₁, l, -, -, -, -, -, hleaf, rfl, hout⟩ := Pkg.xlate_hbm hok
  have every : XltReads (fun _ => True) root := ⟨trivial, trivial, fun _ => trivial, fun _ _ => trivial⟩
  rw [hout]
  refine ((Alike.mk rfl rfl rfl rfl (.refl k) : Alike (fun _ => True) k k).findLeaf every va hleaf).2.2.trans ?_
  unfold Pkg.keepLeaf
  split
  · exact .refl _
  · exact .ofRegs rfl

/-- The registers that a write of good HBM leaves alone. -/
theorem Pkg.hbmWrite_counts {k : Pkg} {a : Nat} {bs : Bytes} (h : k.unitsGood a bs.length = true) : CellsKept countsNothing k (k.hbmWrite a bs).1 := by
  unfold Pkg.hbmWrite
  dsimp only
  rw [Pkg.hbmStop_of_good h (fun u hu => (List.mem_filter.mp hu).1)]
  exact (((k.hbmCorrect_counts _).trans (.setF _ (f := F.HBM_BYTES 0) _ (by decide))).trans (.ofRegs rfl)).trans (.setF _ (f := F.HBM_BYTES 1) _ (by decide))

theorem Pkg.vwrite_counts {k : Pkg} {root va x : Nat} {bs : Bytes} {r : Requester} (h : k.maps root va bs.length r .write x = true) :
    CellsKept countsNothing k (k.vwrite root r va bs).1 := by
  obtain ⟨left, hx, hleft, hgood⟩ := Pkg.maps_iff.mp h
  have hframe := k.xlate_frame root va r .write
  rw [← hframe.unitsGood] at hgood
  obtain ⟨-, hnone⟩ := Pkg.hbmWrite_of_good hgood
  unfold Pkg.vwrite pages
  by_cases hbs : bs = []
  · subst hbs
    rw [Pkg.xwrite_nil]
    exact .refl k
  · have hspot : (k.xlate root va r .write).1.spotWrite (.hbm x) (bs.take (min bs.length left)) va =
        (((k.xlate root va r .write).1.hbmWrite x bs).1, none) := by
      rw [Nat.min_eq_left hleft, List.take_length, Pkg.spotWrite, show (k.xlate root va r .write).1.hbmWrite x bs = (_, none) from Prod.ext rfl hnone]
    rw [Pkg.xwrite_step _ hbs (Prod.ext rfl hx) hspot, Nat.min_eq_left hleft, List.drop_length, Pkg.xwrite_nil]
    exact ((Pkg.xlate_counts hx).trans (Pkg.hbmWrite_counts hgood)).trans (.ofRegs rfl)

end Sys2Proof.Machine
end

section
/-! PROOFS. HOST_STEP: step reports, plan requests, plans and their sections (R361–R373); O32. -/

namespace Sys2Proof.Machine

/-! ### Reports (R363, R373) -/

/-- A slot that is held is one of the four. -/
theorem Pkg.slot_lt_of_held {k : Pkg} {slot : Nat} (h : k.slotHeld slot = true) : slot < 4 := by
  have bits := k.getF_lt F.LUP_SLOTS
  unfold Pkg.slotHeld bit at h
  by_contra hslot
  rw [Nat.div_eq_of_lt (Nat.lt_of_lt_of_le bits (Nat.pow_le_pow_right (by decide) (Nat.not_lt.mp hslot)))] at h
  cases h

theorem FabOnly.partEntry {k j : Pkg} (h : FabOnly k j) (slot : Nat) : j.partEntry slot = k.partEntry slot := by
  have held : j.slotHeld slot = k.slotHeld slot := by
    unfold Pkg.slotHeld
    rw [h.getF F.LUP_SLOTS (.inl (by decide))]
  unfold Pkg.partEntry
  rw [held, h.lup]
  split
  · next hslot => rw [h.getF (F.LUP_PART_ENTRY slot) (.inl (by have := Pkg.slot_lt_of_held hslot; simp only [F.LUP_PART_ENTRY]; omega))]
  · rfl

theorem FabOnly.partPackages {k j : Pkg} (h : FabOnly k j) (slot : Nat) : j.partPackages slot = k.partPackages slot := by
  unfold Pkg.partPackages Pkg.target
  rw [h.partEntry, h.lup, h.rack, h.id]

theorem Pkg.sumReports_congr {k j : Pkg} {slot : Nat} (hreports : j.moe.reports = k.moe.reports) (hparts : j.partPackages slot = k.partPackages slot)
    (kind layer when_ n : Nat) : j.sumReports slot kind layer when_ n = k.sumReports slot kind layer when_ n := by
  unfold Pkg.sumReports
  rw [hreports, hparts]

/-- The request that the first report of a step opens. -/
def Pkg.openedRequest (k : Pkg) (r : CountReport) : PlanRequest :=
  { slot := r.slot, id := planId r.layer r.when_, deadline := k.now + k.getF (F.MOE_DEADLINE r.slot), written := false, plan := none }

/-- R363: the first report of a step is kept, and opens the step's request. -/
theorem Pkg.stepReport_first {k : Pkg} {r : CountReport} (hcap : k.isCaptain r.slot = true) (hfallen : k.moe.fallen = []) (hrequests : k.moe.requests = [])
    (hsum : (k.keepReport r).sumReports r.slot 1 r.layer r.when_ (k.getF (F.MOE_EXPERTS (layerIx r.slot r.layer))) = none) :
    (k.stepReport r).moe = { k.moe with requests := [k.openedRequest r], reports := k.moe.reports ++ [r] } := by
  have opened : k.stepReport r =
      (({ k with moe := { k.moe with requests := k.moe.requests ++ [k.openedRequest r] } } : Pkg).keepReport r).tryRequest r.slot r.layer r.when_ (k.openedRequest r) := by
    unfold Pkg.stepReport
    dsimp only
    rw [if_neg (by rw [hcap, hfallen]; simp), show k.moe.request r.slot (planId r.layer r.when_) = none by unfold Moe.request; rw [hrequests]; rfl]
    dsimp only
    rw [if_neg (by unfold Moe.pendingPlans; rw [hrequests, List.filter_nil]; exact Nat.not_succ_le_zero 7)]
    rfl
  have same : (({ k with moe := { k.moe with requests := k.moe.requests ++ [k.openedRequest r] } } : Pkg).keepReport r).sumReports r.slot 1 r.layer r.when_
      (k.getF (F.MOE_EXPERTS (layerIx r.slot r.layer))) = none := (Pkg.sumReports_congr rfl rfl _ _ _ _).trans hsum
  rw [opened, Pkg.tryRequest]
  dsimp only
  rw [if_neg (show ¬ (k.openedRequest r).written = true from Bool.false_ne_true)]
  rw [show (({ k with moe := { k.moe with requests := k.moe.requests ++ [k.openedRequest r] } } : Pkg).keepReport r).getF (F.MOE_EXPERTS (layerIx r.slot r.layer)) =
    k.getF (F.MOE_EXPERTS (layerIx r.slot r.layer)) from rfl, same]
  show ({ k.moe with requests := k.moe.requests ++ [k.openedRequest r], reports := k.moe.reports ++ [r] } : Moe) = _
  rw [hrequests, List.nil_append]

/-! ### Decisions (R369–R371) -/

theorem Pkg.sendDecision_moe (k : Pkg) (slot q : Nat) : (k.sendDecision slot q).moe = k.moe := (Pkg.sendHub_frame k _ _ _ _ _).moe

theorem Moe.request_dropped (k : Pkg) (slot id : Nat) : (k.dropStep slot id).moe.request slot id = none := by
  refine List.find?_eq_none.mpr fun r hr => ?_
  have kept := (List.mem_filter.mp hr).2
  intro hmatch
  rw [hmatch] at kept
  cases kept

/-- R370, R371: a step that falls back has no request, and is remembered. -/
theorem Pkg.fallback_moe (k : Pkg) (slot id : Nat) :
    (k.fallback slot id).moe = { (k.dropStep slot id).moe with fallen := (slot, id) :: k.moe.fallen } := by
  have sent : ((k.partPackages slot).foldl (fun k q => k.sendDecision slot q) (k.dropStep slot id)).moe = (k.dropStep slot id).moe :=
    foldl_keeps (v := Pkg.moe) _ _ fun j q _ => j.sendDecision_moe slot q
  unfold Pkg.fallback
  dsimp only
  rw [sent]
  rfl

theorem Pkg.sendSections_moe (k : Pkg) (slot : Nat) (secs : List (Nat × Bytes)) : (secs.foldl (fun k x => k.sendDecision slot x.1) k).moe = k.moe :=
  foldl_keeps (v := Pkg.moe) _ _ fun j x _ => j.sendDecision_moe slot x.1

/-! ### Reads through a translation, whatever they reach -/

/-- Nothing outside the registers, the caches, the local stores and the counts of errors and bytes differs. -/
def Pkg.ReadOnly (k j : Pkg) : Prop :=
  ∃ r x ce n w cs, j = { k with regs := r, xlt := x, hbmCe := ce, errCount := n, power := { k.power with moved := w }, cores := cs }

namespace Pkg.ReadOnly

variable {k j l : Pkg}

theorem refl (k : Pkg) : k.ReadOnly k := ⟨k.regs, k.xlt, k.hbmCe, k.errCount, k.power.moved, k.cores, rfl⟩

theorem trans (h : k.ReadOnly j) (g : j.ReadOnly l) : k.ReadOnly l := by
  obtain ⟨r, x, ce, n, w, cs, rfl⟩ := h
  obtain ⟨r', x', ce', n', w', cs', rfl⟩ := g
  exact ⟨r', x', ce', n', w', cs', rfl⟩

theorem ofXltOnly (h : XltOnly k j) : k.ReadOnly j := by
  obtain ⟨⟨r, x, ce, n, w, rfl⟩, -⟩ := h
  exact ⟨r, x, ce, n, w, k.cores, rfl⟩

theorem moe (h : k.ReadOnly j) : j.moe = k.moe := by obtain ⟨r, x, ce, n, w, cs, rfl⟩ := h; rfl

end Pkg.ReadOnly

theorem Pkg.lsRead_readOnly (k : Pkg) (c : Nat) (addrs : List Nat) : k.ReadOnly (k.lsRead c addrs).1 := by
  unfold Pkg.lsRead
  extract_lets hs x ce k₀ k₁
  have hk₁ : k.ReadOnly k₁ := by
    simp only [k₁]
    split
    · exact .refl k
    · exact ⟨_, k.xlt, k.hbmCe, k.errCount, k.power.moved, _, rfl⟩
  split
  · exact hk₁
  · dsimp only
    split
    · exact hk₁
    · exact hk₁.trans ⟨_, k₁.xlt, k₁.hbmCe, k₁.errCount, k₁.power.moved, k₁.cores, rfl⟩

theorem Pkg.spotRead_readOnly (k : Pkg) (sp : Spot) (n va : Nat) : k.ReadOnly (k.spotRead sp n va).1 := by
  unfold Pkg.spotRead
  cases sp with
  | hbm a =>
    have h := Pkg.ReadOnly.ofXltOnly (k.hbmRead_frame a n)
    dsimp only
    split <;> (next heq => rw [heq] at h; exact h)
  | ls c o =>
    have h := k.lsRead_readOnly c ((List.range n).map (fun i => o + i))
    dsimp only
    split <;> (next heq => rw [heq] at h; exact h)

theorem Pkg.xread_readOnly (root : Nat) (r : Requester) (a : Access4) (fuel : Nat) (k : Pkg) (va n : Nat) : k.ReadOnly (k.xread root r a fuel va n).1 := by
  induction fuel generalizing k va n with
  | zero => exact .refl k
  | succ fuel ih =>
    have hxlate := Pkg.ReadOnly.ofXltOnly (k.xlate_frame root va r a)
    unfold Pkg.xread
    split
    · exact .refl k
    · split
      · next heq => rw [heq] at hxlate; exact hxlate
      · next j sp left heq =>
        rw [heq] at hxlate
        have hspot := j.spotRead_readOnly sp (min n left) va
        dsimp only
        split
        · next heq => rw [heq] at hspot; exact hxlate.trans hspot
        · next i bs heq =>
          rw [heq] at hspot
          exact ((hxlate.trans hspot).trans (.ofXltOnly (i.hbmMoved_frame root sp _))).trans (ih _ _ _)

theorem Pkg.hubRead_readOnly (k : Pkg) (slot va n : Nat) : k.ReadOnly (k.hubRead slot va n).1 := Pkg.xread_readOnly slot .hub .read _ k va n

/-! ### Plans (R365–R368) -/

theorem Pkg.planStatus_shows (k : Pkg) (slot : SlotId) {id st : Nat} (hid : id < 2 ^ 32) (hst : st < 2 ^ 16) :
    (k.planStatus slot id st).getF (F.MOE_PS_STATUS slot) = st ∧ (k.planStatus slot id st).getF (F.MOE_PS_ID slot) = id ∧
    (k.planStatus slot id st).moe = k.moe := by
  have low : (F.MOE_PS_STATUS slot).off < 0x3000000 := by have := slot.isLt; simp only [F.MOE_PS_STATUS]; omega
  have low' : (F.MOE_PS_ID slot).off < 0x3000000 := by have := slot.isLt; simp only [F.MOE_PS_ID]; omega
  unfold Pkg.planStatus
  refine ⟨?_, ?_, ?_⟩
  · rw [Pkg.getF_report_same _ _ _ _ _ low rfl]
    exact Nat.mod_eq_of_lt hst
  · rw [Pkg.getF_report _ _ _ _ _ _ _ low', Pkg.getF_setF_apart _ _ _ _ ((Fld.apart_iff _ _).mpr (.inr (by simp only [F.MOE_PS_STATUS, F.MOE_PS_ID]; omega))),
      Pkg.getF_setF_same _ _ _ rfl]
    exact Nat.mod_eq_of_lt hid
  · obtain ⟨⟨r, n, e⟩, -⟩ := Pkg.report_frame (k.setF (F.MOE_PS_ID slot) id) (F.MOE_PS_STATUS slot) st .slot slot id
    rw [e]
    rfl

theorem Pkg.planStatus_late_shows (k : Pkg) (slot : SlotId) {id : Nat} (hid : id < 2 ^ 32) :
    ((k.planStatus slot id 0x6501).raise F.MOE_PLAN_LATE).getF (F.MOE_PS_STATUS slot) = 0x6501 ∧
    ((k.planStatus slot id 0x6501).raise F.MOE_PLAN_LATE).getF (F.MOE_PS_ID slot) = id ∧
    ((k.planStatus slot id 0x6501).raise F.MOE_PLAN_LATE).getF F.MOE_PLAN_LATE = 1 := by
  obtain ⟨hs, hi, -⟩ := k.planStatus_shows slot hid (st := 0x6501) (by decide)
  have low := slot.isLt
  refine ⟨?_, ?_, Pkg.getF_raise_same _ _ (by decide) (Nat.le_refl 1)⟩
  · rw [Pkg.getF_raise_apart _ _ _ (Fld.apart_of_off (by simp only [F.MOE_PLAN_LATE, F.MOE_PS_STATUS]; omega)), hs]
  · rw [Pkg.getF_raise_apart _ _ _ (Fld.apart_of_off (by simp only [F.MOE_PLAN_LATE, F.MOE_PS_ID]; omega)), hi]

/-- A plan is kept with its step's request. -/
def Pkg.keepPlan (k : Pkg) (slot id : Nat) (secs : List (Nat × Bytes)) : Pkg :=
  { k with moe := { k.moe with requests := k.moe.requests.map (fun (q : PlanRequest) => if q.slot = slot ∧ q.id = id then { q with plan := some secs } else q) } }

section Submit

variable {k : Pkg} {slot id : Nat}

theorem Pkg.submitPlan_fallen (len : Nat) (hnone : k.moe.request slot id = none) (hfallen : (slot, id) ∈ k.moe.fallen) :
    k.submitPlan slot id len = (k.planStatus slot id 0x6501).raise F.MOE_PLAN_LATE := by
  unfold Pkg.submitPlan
  rw [hnone]
  exact if_pos (List.contains_iff_mem.mpr hfallen)

theorem Pkg.submitPlan_unknown (len : Nat) (hnone : k.moe.request slot id = none) (hfallen : (slot, id) ∉ k.moe.fallen) :
    k.submitPlan slot id len = k.planStatus slot id 0x3503 := by
  unfold Pkg.submitPlan
  rw [hnone]
  refine (if_neg fun h => hfallen (List.contains_iff_mem.mp h)).trans ?_
  rw [hnone]

theorem Pkg.submitPlan_good {len : Nat} {r : PlanRequest} {k₁ : Pkg} {b : Bytes} {secs : List (Nat × Bytes)} (hrequest : k.moe.request slot id = some r)
    (hwritten : r.written = true) (hplan : r.plan = none) (hearly : k.now < r.deadline) (hfallen : (slot, id) ∉ k.moe.fallen)
    (hread : k.hubRead slot (k.getF (F.MOE_PLAN_ADDR slot) * 64) len = (k₁, b, none)) (hcheck : k₁.checkPlan slot id b = some secs) :
    k.submitPlan slot id len = (k₁.keepPlan slot id secs).planStatus slot id 0 := by
  have early : (if r.deadline ≤ k.now ∧ r.plan = none then k.fallback slot id else k) = k := if_neg fun h => absurd h.1 (Nat.not_le.mpr hearly)
  unfold Pkg.submitPlan
  rw [hrequest]
  dsimp only
  rw [early]
  refine (if_neg fun h => hfallen (List.contains_iff_mem.mp h)).trans ?_
  rw [hrequest]
  dsimp only
  rw [if_neg (by rw [hwritten, hplan]; simp), hread]
  dsimp only
  rw [hcheck]
  rfl

end Submit

/-! ### Sections (R370, R372) -/

/-- The slot list of a section is handed to the fabric engine. -/
def Pkg.handSlots (k : Pkg) (slot id : Nat) (b : Bytes) : Pkg :=
  k.setTables slot { k.tables slot with plans := (planLayer id, (sectionSlots b).map readTmpl) :: (k.tables slot).plans.filter (fun x => x.1 != planLayer id) }

theorem Pkg.takeSection_of_maps {k : Pkg} {slot id y : Nat} {b : Bytes} (hmaps : k.maps slot (k.getF (F.MOE_VA (layerIx slot (planLayer id)) 0) * 64) b.length .hub .write y = true) :
    ∃ j, k.Wrote y b j ∧ CellsKept countsNothing k j ∧ (k.takeSection slot id (some b)).1 =
      ((j.handSlots slot id b).inc (F.MOE_STATS slot 0)).semAdd slot
        (((j.handSlots slot id b).inc (F.MOE_STATS slot 0)).getF (F.MOE_PLAN_SEM (layerIx slot (planLayer id)))) 1 := by
  obtain ⟨hwrote, hnone⟩ := Pkg.vwrite_of_maps hmaps
  refine ⟨_, hwrote, Pkg.vwrite_counts hmaps, ?_⟩
  unfold Pkg.takeSection
  dsimp only
  rw [show k.vwrite slot .hub (k.getF (F.MOE_VA (layerIx slot (planLayer id)) 0) * 64) b =
    ((k.vwrite slot .hub (k.getF (F.MOE_VA (layerIx slot (planLayer id)) 0) * 64) b).1, none) from Prod.ext rfl hnone]
  rfl

theorem Pkg.sem_semAdd_same (k : Pkg) (slot sem v : Nat) : (k.semAdd slot sem v).sem slot sem = (k.sem slot sem + v) % 2 ^ 32 := by
  rw [Pkg.semAdd, Pkg.sem_setSem_same, Nat.mod_mod]

/-- R370, R372: a section is written, counted, and adds 1 to the plan semaphore. -/
theorem Pkg.takeSection_shows {k : Pkg} {slot id y : Nat} {b : Bytes} (hmaps : k.maps slot (k.getF (F.MOE_VA (layerIx slot (planLayer id)) 0) * 64) b.length .hub .write y = true) :
    (k.takeSection slot id (some b)).1.hbm = Memory.writeBytes k.hbm y b ∧
    (k.takeSection slot id (some b)).1.sem slot (k.getF (F.MOE_PLAN_SEM (layerIx slot (planLayer id)))) =
      (k.sem slot (k.getF (F.MOE_PLAN_SEM (layerIx slot (planLayer id)))) + 1) % 2 ^ 32 ∧
    (k.takeSection slot id (some b)).1.getF (F.MOE_STATS slot 0) = min (2 ^ 64 - 1) (k.getF (F.MOE_STATS slot 0) + 1) := by
  obtain ⟨j, hwrote, hkept, run⟩ := Pkg.takeSection_of_maps hmaps
  have hsem : ((j.handSlots slot id b).inc (F.MOE_STATS slot 0)).getF (F.MOE_PLAN_SEM (layerIx slot (planLayer id))) =
      k.getF (F.MOE_PLAN_SEM (layerIx slot (planLayer id))) := by
    rw [Pkg.getF_inc_apart _ _ _ (Fld.apart_of_off (by simp only [F.MOE_STATS, F.MOE_PLAN_SEM, layerIx]; omega))]
    exact hwrote.getF _ (.inr (.inr (.inr (by simp only [F.MOE_PLAN_SEM]; omega))))
  have hstats : j.getF (F.MOE_STATS slot 0) = k.getF (F.MOE_STATS slot 0) := hkept.getF (by simp only [countsNothing, F.MOE_STATS]; omega)
  rw [run, hsem]
  obtain ⟨bad, hwrote⟩ := hwrote
  refine ⟨hwrote.hbm, ?_, ?_⟩
  · rw [Pkg.sem_semAdd_same]
    have sems : j.sems = k.sems := by
      obtain ⟨⟨r, x, ce, n, w, e⟩, -⟩ := hwrote
      rw [e]
    unfold Pkg.sem
    rw [← sems]
    rfl
  · have counted := Pkg.getF_inc_same (j.handSlots slot id b) (F.MOE_STATS slot 0) rfl
    exact counted.trans (by rw [← hstats]; rfl)

/-! ### The commands -/

section Commands

variable {s : State} {p : PkgId} {t₀ : Nat} {k : Pkg} (hk : k = (s.pkg p).at t₀)
include hk

theorem routeCountsStep_first {pkt : Packet} (haccepts : k.accepts pkt = true) (hkind : (countReport pkt).kind = 1) (hcap : k.isCaptain pkt.slot = true)
    (hfallen : k.moe.fallen = []) (hrequests : k.moe.requests = [])
    (hsum : (k.keepReport (countReport pkt)).sumReports pkt.slot 1 (countReport pkt).layer (countReport pkt).when_
      (k.getF (F.MOE_EXPERTS (layerIx pkt.slot (countReport pkt).layer))) = none) :
    Completes (.routeCountsStep p pkt t₀) s (fun t => ∃ q : PlanRequest,
      (t.pkg p).moe.requests.map (fun r => (r.slot, r.id, r.deadline)) = [(q.slot, q.id, q.deadline)] ∧ q.slot = pkt.slot ∧
      q.id = planId (countReport pkt).layer (countReport pkt).when_ ∧
      q.deadline = k.now + k.getF (F.MOE_DEADLINE pkt.slot) ∧ (t.pkg p).moe.reports = k.moe.reports ++ [countReport pkt]) := by
  obtain ⟨j, hj, hend⟩ := Pkg.sequenced_of_accepts haccepts
    (fun k => (if (countReport pkt).kind = 1 then k.stepReport (countReport pkt) else k, 0, none))
  have experts : j.getF (F.MOE_EXPERTS (layerIx pkt.slot (countReport pkt).layer)) = k.getF (F.MOE_EXPERTS (layerIx pkt.slot (countReport pkt).layer)) :=
    hj.getF _ (.inr (by simp only [F.MOE_EXPERTS]; omega))
  have deadline : j.getF (F.MOE_DEADLINE pkt.slot) = k.getF (F.MOE_DEADLINE pkt.slot) := hj.getF _ (.inr (by simp only [F.MOE_DEADLINE]; omega))
  have sum : (j.keepReport (countReport pkt)).sumReports pkt.slot 1 (countReport pkt).layer (countReport pkt).when_
      (j.getF (F.MOE_EXPERTS (layerIx pkt.slot (countReport pkt).layer))) = none := by
    rw [experts]
    have reports : (j.keepReport (countReport pkt)).moe.reports = (k.keepReport (countReport pkt)).moe.reports := by
      unfold Pkg.keepReport
      rw [hj.moe]
    exact (Pkg.sumReports_congr reports (hj.partPackages pkt.slot) _ _ _ _).trans hsum
  have step := Pkg.stepReport_first (k := j) (r := countReport pkt) ((hj.isCaptain pkt.slot).trans hcap) (by rw [hj.moe]; exact hfallen)
    (by rw [hj.moe]; exact hrequests) sum
  refine completes_of_updPkg (f := fun k => (k.at t₀).sequenced pkt (fun k =>
    (if (countReport pkt).kind = 1 then k.stepReport (countReport pkt) else k, 0, none))) rfl fun t ht => ?_
  rw [ht, ← hk, hend.moe, if_pos hkind, step, hj.moe]
  refine ⟨j.openedRequest (countReport pkt), rfl, rfl, rfl, ?_, rfl⟩
  show j.now + j.getF (F.MOE_DEADLINE pkt.slot) = _
  rw [hj.now, deadline]

theorem planGo_runs {sl : SlotId} {id len : Nat} (hid : id < 2 ^ 32) {P : State → Prop}
    (h : ∀ t : State, t.pkg p = k.submitPlan sl id (len % 2 ^ 32) → P t) : Completes (.planGo p .pf sl id len t₀) s P := by
  refine completes_of_updPkg (f := fun k => (k.at t₀).submitPlan sl (id % 2 ^ 32) (len % 2 ^ 32)) rfl fun t ht => h t ?_
  rw [ht, ← hk, Nat.mod_eq_of_lt hid]

theorem planGo_late {sl : SlotId} {id len : Nat} (hid : id < 2 ^ 32) (hnone : k.moe.request sl id = none) (hfallen : (sl.val, id) ∈ k.moe.fallen) :
    Completes (.planGo p .pf sl id len t₀) s (fun t => (t.pkg p).getF (F.MOE_PS_STATUS sl) = 0x6501 ∧ (t.pkg p).getF (F.MOE_PS_ID sl) = id ∧
      (t.pkg p).getF F.MOE_PLAN_LATE = 1) :=
  planGo_runs hk hid fun t ht => by
    rw [ht, Pkg.submitPlan_fallen _ hnone hfallen]
    exact k.planStatus_late_shows sl hid

theorem planGo_unknown {sl : SlotId} {id len : Nat} (hid : id < 2 ^ 32) (hnone : k.moe.request sl id = none) (hfallen : (sl.val, id) ∉ k.moe.fallen) :
    Completes (.planGo p .pf sl id len t₀) s (fun t => (t.pkg p).getF (F.MOE_PS_STATUS sl) = 0x3503 ∧ (t.pkg p).getF (F.MOE_PS_ID sl) = id) :=
  planGo_runs hk hid fun t ht => by
    rw [ht, Pkg.submitPlan_unknown _ hnone hfallen]
    obtain ⟨hs, hi, -⟩ := k.planStatus_shows sl hid (st := 0x3503) (by decide)
    exact ⟨hs, hi⟩

theorem planGo_good {sl : SlotId} {id len : Nat} {r : PlanRequest} {k₁ : Pkg} {b : Bytes} {secs : List (Nat × Bytes)} (hid : id < 2 ^ 32) (hlen : len < 2 ^ 32)
    (hrequests : k.moe.requests = [r]) (hslot : r.slot = sl.val) (hrid : r.id = id) (hwritten : r.written = true) (hplan : r.plan = none)
    (hearly : k.now < r.deadline) (hfallen : (sl.val, id) ∉ k.moe.fallen)
    (hread : k.hubRead sl (k.getF (F.MOE_PLAN_ADDR sl) * 64) len = (k₁, b, none)) (hcheck : k₁.checkPlan sl id b = some secs) :
    Completes (.planGo p .pf sl id len t₀) s (fun t => (t.pkg p).getF (F.MOE_PS_STATUS sl) = 0 ∧ (t.pkg p).moe.requests = [{ r with plan := some secs }]) := by
  have request : k.moe.request sl id = some r := by
    unfold Moe.request
    rw [hrequests]
    exact List.find?_cons_of_pos (by rw [hslot, hrid]; simp)
  have moe : k₁.moe = k.moe := by
    have frame := (k.hubRead_readOnly sl (k.getF (F.MOE_PLAN_ADDR sl) * 64) len).moe
    rw [hread] at frame
    exact frame
  refine planGo_runs hk hid fun t ht => ?_
  rw [ht, Nat.mod_eq_of_lt hlen, Pkg.submitPlan_good request hwritten hplan hearly hfallen hread hcheck]
  obtain ⟨hs, -, hm⟩ := (k₁.keepPlan sl id secs).planStatus_shows sl hid (st := 0) (by decide)
  rw [hm]
  refine ⟨hs, ?_⟩
  unfold Pkg.keepPlan
  dsimp only
  rw [moe, hrequests, List.map_cons, if_pos ⟨hslot, hrid⟩, List.map_nil]

theorem planDeadline_falls {sl : SlotId} {id : Nat} {r : PlanRequest} (hrequest : k.moe.request sl id = some r) (hplan : r.plan = none)
    (hlate : r.deadline ≤ k.now) : Completes (.planDeadline p sl id t₀) s (fun t => (t.pkg p).moe.request sl id = none ∧
      (t.pkg p).moe.fallen = (sl.val, id) :: k.moe.fallen) := by
  refine completes_of_updPkg_eq (j := k.fallback sl id) rfl ?_ fun t ht => ?_
  · dsimp only
    rw [← hk, hrequest]
    dsimp only
    rw [hplan]
    exact if_pos hlate
  · rw [ht, Pkg.fallback_moe]
    exact ⟨Moe.request_dropped k sl id, rfl⟩

theorem planDeadline_sends {sl : SlotId} {id : Nat} {r : PlanRequest} {secs : List (Nat × Bytes)} (hrequest : k.moe.request sl id = some r)
    (hplan : r.plan = some secs) : Completes (.planDeadline p sl id t₀) s (fun t => (t.pkg p).moe.request sl id = none ∧
      (t.pkg p).moe.fallen = k.moe.fallen) := by
  refine completes_of_updPkg_eq (j := secs.foldl (fun k x => k.sendDecision sl x.1) (k.dropStep sl id)) rfl ?_ fun t ht => ?_
  · dsimp only
    rw [← hk, hrequest]
    dsimp only
    rw [hplan]
  · rw [ht, Pkg.sendSections_moe]
    exact ⟨Moe.request_dropped k sl id, rfl⟩

theorem planSectionReceive_writes {pkt : Packet} {id y : Nat} {b : Bytes} (haccepts : k.accepts pkt = true)
    (hmaps : k.maps pkt.slot (k.getF (F.MOE_VA (layerIx pkt.slot (planLayer id)) 0) * 64) b.length .hub .write y = true) :
    Completes (.planSectionReceive p pkt id (some b) t₀) s (fun t => (t.pkg p).hbm = Memory.writeBytes k.hbm y b ∧
      (t.pkg p).sem pkt.slot (k.getF (F.MOE_PLAN_SEM (layerIx pkt.slot (planLayer id)))) =
        (k.sem pkt.slot (k.getF (F.MOE_PLAN_SEM (layerIx pkt.slot (planLayer id)))) + 1) % 2 ^ 32 ∧
      (t.pkg p).getF (F.MOE_STATS pkt.slot 0) = min (2 ^ 64 - 1) (k.getF (F.MOE_STATS pkt.slot 0) + 1)) := by
  obtain ⟨j, hj, hend⟩ := Pkg.sequenced_of_accepts haccepts
    (fun k => ((k.takeSection pkt.slot id (some b)).1, (k.takeSection pkt.slot id (some b)).2, none))
  have va : j.getF (F.MOE_VA (layerIx pkt.slot (planLayer id)) 0) = k.getF (F.MOE_VA (layerIx pkt.slot (planLayer id)) 0) :=
    hj.getF _ (.inr (by simp only [F.MOE_VA]; omega))
  have sem : j.getF (F.MOE_PLAN_SEM (layerIx pkt.slot (planLayer id))) = k.getF (F.MOE_PLAN_SEM (layerIx pkt.slot (planLayer id))) :=
    hj.getF _ (.inr (by simp only [F.MOE_PLAN_SEM]; omega))
  have stats : ∀ {k j : Pkg}, FabOnly k j → j.getF (F.MOE_STATS pkt.slot 0) = k.getF (F.MOE_STATS pkt.slot 0) := fun h =>
    h.getF _ (.inr (by simp only [F.MOE_STATS]; omega))
  have same : ∀ {k j : Pkg}, FabOnly k j → j.hbm = k.hbm ∧ ∀ n, j.sem pkt.slot n = k.sem pkt.slot n := by
    rintro k j ⟨⟨r, f, w, rfl⟩, -⟩
    exact ⟨rfl, fun _ => rfl⟩
  obtain ⟨hhbm, hsem, hstats⟩ := Pkg.takeSection_shows (k := j) (b := b) (by rw [va]; exact hj.maps hmaps)
  rw [sem, (same hj).2] at hsem
  rw [(same hj).1] at hhbm
  rw [stats hj] at hstats
  refine completes_of_updPkg (f := fun k => (k.at t₀).sequenced pkt (fun k =>
    ((k.takeSection pkt.slot id (some b)).1, (k.takeSection pkt.slot id (some b)).2, none))) rfl fun t ht => ?_
  rw [ht, ← hk, (same hend).1, (same hend).2, stats hend]
  exact ⟨hhbm, hsem, hstats⟩

end Commands

/-- Settles O32. -/
theorem hostSteps : Obligations.HostSteps := by
  unfold Obligations.HostSteps
  intro s p t₀
  obtain ⟨k, hk⟩ : ∃ k, k = (s.pkg p).at t₀ := ⟨_, rfl⟩
  rw [← hk]
  refine ⟨fun pkt => routeCountsStep_first hk, ?_, ?_, ?_, fun sl id r => planDeadline_falls hk, fun sl id r secs => planDeadline_sends hk,
    fun pkt id y b => planSectionReceive_writes hk⟩
  · rintro src sl id len rfl
    exact planGo_late hk
  · rintro src sl id len rfl
    exact planGo_unknown hk
  · rintro src sl id len r k₁ b secs rfl
    exact planGo_good hk

end Sys2Proof.Machine
end

section
/-! PROOFS. One access after another at the same place (R261, R268): what an access found is in the cache for the next one. -/

namespace Sys2Proof.Machine

variable {k j : Pkg} {root va n x : Nat} {r : Requester} {a : Access4}

theorem XltOnly.place (h : XltOnly k j) : j.place = k.place := by
  funext y
  unfold Pkg.place Pkg.logicalCores
  rw [h.getF F.GLB_SPARE_POLICY (.inl (by decide))]

theorem XltOnly.inAllotment (h : XltOnly k j) (root : Nat) : j.inAllotment root = k.inAllotment root := by
  have allotment : j.allotment root = k.allotment root := by
    unfold Pkg.allotment
    split
    · next hroot => rw [h.hbmBase hroot, h.hbmLen hroot]
    · rfl
  funext y m
  unfold Pkg.inAllotment
  rw [allotment]

/-- The cache holds the leaf through which an access within one good page reaches HBM. -/
def Pkg.Holds (k : Pkg) (root va n : Nat) (r : Requester) (a : Access4) (x : Nat) : Prop :=
  va < 2 ^ 56 ∧ (∃ l, k.cachedLeaf root va = some l ∧ k.place (l.base + (va - l.va)) = some (.hbm x) ∧ k.leafAllows l r a (.hbm x) = true ∧
    n ≤ l.va + l.size - va) ∧ k.unitsGood x n = true

namespace Pkg.Holds

/-- What changes neither the cache nor what configures translation keeps the leaf. -/
theorem frame (h : k.Holds root va n r a x) (hframe : XltOnly k j) (hxlt : j.xlt.leaves = k.xlt.leaves) : j.Holds root va n r a x := by
  obtain ⟨hva, ⟨l, hcached, hplace, hallows, hleft⟩, hgood⟩ := h
  refine ⟨hva, ⟨l, ?_, ?_, ?_, hleft⟩, (hframe.unitsGood x n).trans hgood⟩
  · unfold Pkg.cachedLeaf at hcached ⊢
    rw [hxlt]
    exact hcached
  · rw [hframe.place]
    exact hplace
  · unfold Pkg.leafAllows at hallows ⊢
    rw [hframe.inAllotment]
    exact hallows

/-- A shorter access within the page. -/
theorem shorter (h : k.Holds root va n r a x) {m : Nat} (hm : m ≤ n) : k.Holds root va m r a x := by
  obtain ⟨hva, ⟨l, hcached, hplace, hallows, hleft⟩, hgood⟩ := h
  refine ⟨hva, ⟨l, hcached, hplace, hallows, hm.trans hleft⟩, ?_⟩
  unfold Pkg.unitsGood at hgood ⊢
  refine List.all_eq_true.mpr fun u hu => List.all_eq_true.mp hgood u ?_
  unfold hbmUnits at hu ⊢
  obtain ⟨i, hi, rfl⟩ := List.mem_map.mp hu
  exact List.mem_map.mpr ⟨i, List.mem_range.mpr ((List.mem_range.mp hi).trans_le (Nat.div_le_div_right (by omega))), rfl⟩

theorem maps (h : k.Holds root va n r a x) : k.maps root va n r a x = true := by
  obtain ⟨hva, ⟨l, hcached, hplace, hallows, hleft⟩, hgood⟩ := h
  have found : (k.findLeaf root va).2 = .ok l := by
    unfold Pkg.findLeaf
    rw [hcached]
  have frame := k.findLeaf_frame root va
  refine Pkg.maps_iff.mpr ⟨_, congrArg Prod.snd (Pkg.xlate_of_leaf hva found (by rw [frame.place]; exact hplace) ?_), hleft, hgood⟩
  unfold Pkg.leafAllows at hallows ⊢
  rw [frame.inAllotment]
  exact hallows

/-- An access leaves its leaf in the cache. -/
theorem of_maps (h : k.maps root va n r a x = true) : (k.xlate root va r a).1.Holds root va n r a x := by
  obtain ⟨left, hx, hleft, hgood⟩ := Pkg.maps_iff.mp h
  have frame := k.xlate_frame root va r a
  obtain ⟨k₁, l, -, hcovers, hplace, hallows, rfl, hleaf, rfl, hout⟩ := Pkg.xlate_hbm hx
  have keep := k.keepLeaf_frame (k.findLeaf root va).1 root va l
  have matches_ : (l.root == root && decide (l.va ≤ va) && decide (va < l.va + l.size)) = true := by
    obtain ⟨hr, hlow, hhigh⟩ := hcovers
    simp only [Bool.and_eq_true, beq_iff_eq, decide_eq_true_eq]
    exact ⟨⟨hr, hlow⟩, hhigh⟩
  rw [← frame.unitsGood] at hgood
  rw [hout] at hgood ⊢
  refine ⟨Pkg.xlate_hbm_va hx, ⟨l, ?_, by rw [keep.place]; exact hplace, ?_, hleft⟩, hgood⟩
  · unfold Pkg.keepLeaf Pkg.findLeaf at *
    cases hcached : k.cachedLeaf root va with
    | some l' =>
      rw [hcached] at hleaf
      obtain rfl := Except.ok.inj hleaf
      exact List.find?_cons_of_pos matches_
    | none => exact List.find?_cons_of_pos matches_
  · unfold Pkg.leafAllows at hallows ⊢
    rw [keep.inAllotment]
    exact hallows

end Pkg.Holds

theorem Pkg.hbmCorrect_xlt (k : Pkg) (us : List Nat) : (k.hbmCorrect us).xlt = k.xlt := by
  unfold Pkg.hbmCorrect
  exact foldl_keeps (v := Pkg.xlt) _ _ fun _ _ _ => rfl

/-- A check of an access that is mapped passes, and leaves the leaf in the cache unless it checked nothing. -/
theorem Pkg.xcheck_of_maps (h : k.maps root va n r a x = true) (fuel : Nat) : XltOnly k (k.xcheck root r a (fuel + 2) va n).1 ∧
    (k.xcheck root r a (fuel + 2) va n).2 = none ∧ (k.xcheck root r a (fuel + 2) va n).1.maps root va n r a x = true := by
  obtain ⟨left, hx, hleft, -⟩ := Pkg.maps_iff.mp h
  by_cases hn : n = 0
  · subst hn
    exact ⟨.refl k, rfl, h⟩
  · have run : k.xcheck root r a (fuel + 2) va n = ((k.xlate root va r a).1, none) := by
      rw [Pkg.xcheck, if_neg hn, show k.xlate root va r a = ((k.xlate root va r a).1, .ok (.hbm x, left)) from Prod.ext rfl hx]
      dsimp only
      rw [Nat.min_eq_left hleft, Nat.sub_self, Pkg.xcheck, if_pos rfl]
    rw [run]
    exact ⟨k.xlate_frame root va r a, rfl, (Pkg.Holds.of_maps h).maps⟩

/-- After a read, the same place is mapped still. -/
theorem Pkg.maps_after_xread (h : k.maps root va n r a x = true) (fuel : Nat) {m : Nat} (hm : m ≤ n) :
    (k.xread root r a (fuel + 2) va n).1.maps root va m r a x = true := by
  obtain ⟨left, hx, hleft, hgood⟩ := Pkg.maps_iff.mp h
  by_cases hn : n = 0
  · subst hn
    obtain rfl := Nat.le_zero.mp hm
    rwa [Pkg.xread_zero]
  · have holds := Pkg.Holds.of_maps h
    have hframe := k.xlate_frame root va r a
    rw [← hframe.unitsGood] at hgood
    have hread := Pkg.hbmRead_of_good hgood
    have hspot : (k.xlate root va r a).1.spotRead (.hbm x) (min n left) va =
        (((k.xlate root va r a).1.hbmRead x n).1, .ok (Memory.readBytes (k.xlate root va r a).1.hbm x n)) := by
      rw [Nat.min_eq_left hleft, Pkg.spotRead, show (k.xlate root va r a).1.hbmRead x n = (((k.xlate root va r a).1.hbmRead x n).1,
        .ok (Memory.readBytes (k.xlate root va r a).1.hbm x n)) from Prod.ext rfl hread]
    rw [Pkg.xread_step (fuel + 1) hn (Prod.ext rfl hx) hspot, Nat.min_eq_left hleft, Nat.sub_self]
    dsimp only
    rw [Pkg.xread_zero]
    refine ((holds.frame ((Pkg.hbmRead_frame _ x n).trans (Pkg.hbmMoved_frame _ root (.hbm x) n)) ?_).shorter hm).maps
    show ((k.xlate root va r a).1.hbmRead x n).1.xlt.leaves = _
    rw [Pkg.hbmRead_of_unitsGood hgood]
    exact congrArg Xlt.leaves (Pkg.hbmCorrect_xlt _ _)

end Sys2Proof.Machine
end

section
/-! PROOFS. Windows: registration, deregistration, and the writes and reductions of packets (R439–R441, R502–R505, R508, R511); O33. -/

namespace Sys2Proof.Machine

/-! ### An accepted packet -/

theorem Pkg.freeArrived_tables (k : Pkg) (a : Arrived) : (k.freeArrived a).fab.tables = k.fab.tables := by
  unfold Pkg.freeArrived
  dsimp only
  split
  · rfl
  · split <;> rfl

theorem Pkg.take_tables (k : Pkg) (p : Packet) : (k.take p).fab.tables = k.fab.tables := by
  unfold Pkg.take
  split
  · exact k.freeArrived_tables _
  · rfl

/-- The checks of a packet that passes them do no more in the fabric than take it. -/
theorem Pkg.screen_fab {k : Pkg} {p : Packet} (h : (k.screen p).2 = true) : (k.screen p).1.fab = (k.take p).fab := by
  unfold Pkg.screen at h ⊢
  dsimp only at h ⊢
  split at h
  · cases h
  · next hlife =>
    rw [if_neg hlife]
    split at h
    · cases h
    · next hcrc =>
      rw [if_neg hcrc]
      split at h
      · cases h
      · next hform =>
        rw [if_neg hform]
        rfl

theorem Pkg.screen_tables {k : Pkg} {p : Packet} (h : (k.screen p).2 = true) : (k.screen p).1.fab.tables = k.fab.tables := by
  rw [Pkg.screen_fab h, Pkg.take_tables]

theorem Pkg.claim_tables (k : Pkg) (p : Packet) : (k.claim p).1.fab.tables = k.fab.tables := by
  unfold Pkg.claim
  split
  · split <;> rfl
  · dsimp only
    split
    · rfl
    · split <;> rfl

theorem Pkg.claimed_tables {k : Pkg} {p : Packet} (h : k.accepts p = true) : ((k.screen p).1.claim p).1.fab.tables = k.fab.tables := by
  simp only [Pkg.accepts, Bool.and_eq_true] at h
  exact (Pkg.claim_tables _ p).trans (Pkg.screen_tables h.1.1)

theorem Pkg.isCallStream_congr {k j : Pkg} (hcalls : j.calls = k.calls) (htables : j.fab.tables = k.fab.tables) (slot sid : Nat) :
    j.isCallStream slot sid = k.isCallStream slot sid := by
  unfold Pkg.isCallStream Pkg.channel
  rw [hcalls, htables]

theorem FabOnly.windowCheck {k j : Pkg} (h : FabOnly k j) : j.windowCheck = k.windowCheck := by
  obtain ⟨⟨r, f, w, rfl⟩, -⟩ := h
  rfl

theorem FabOnly.hbm {k j : Pkg} (h : FabOnly k j) : j.hbm = k.hbm := by obtain ⟨⟨r, f, w, rfl⟩, -⟩ := h; rfl

theorem FabOnly.calls {k j : Pkg} (h : FabOnly k j) : j.calls = k.calls := by obtain ⟨⟨r, f, w, rfl⟩, -⟩ := h; rfl

/-! ### Writes through a window (R439, R440) -/

section Windows

variable {k : Pkg} {slot index off va y : Nat} {w : Window} {r : Requester} {bs : Bytes}

/-- R439: bytes that are put through a window which allows it are written. -/
theorem Pkg.winPut_writes (hcheck : k.windowCheck slot index off bs.length 2 = .ok (w, va)) (hmaps : k.maps slot va bs.length r .write y = true) :
    k.Wrote y bs (k.winPut slot index off r bs []).1 ∧ (k.winPut slot index off r bs []).2 = none := by
  obtain ⟨hframe, hnone, hagain⟩ := Pkg.xcheck_of_maps hmaps (bs.length / 4096)
  obtain ⟨hwrote, hdone⟩ := Pkg.vwrite_of_maps hagain
  have run : k.winPut slot index off r bs [] = (k.xcheck slot r .write (pages bs.length) va bs.length).1.vwrite slot r va bs := by
    unfold Pkg.winPut
    rw [hcheck]
    dsimp only
    rw [show k.xcheck slot r .write (pages bs.length) va bs.length = (_, none) from Prod.ext rfl hnone]
    rfl
  rw [run]
  exact ⟨hwrote.after hframe, hdone⟩

theorem reduceBytes_length_le (code : Nat) (old new : Bytes) (skip : List Nat) : (reduceBytes code old new skip).length ≤ new.length := by
  unfold reduceBytes
  dsimp only
  generalize ((fmtOf (code / 16)).getD fp32).width / 8 = w
  rw [List.length_flatMap]
  have one : ∀ i ∈ List.range (new.length / w), (if skip.contains (w * i) then leBytes w (fieldAt old (w * i) w)
      else leBytes w (reduceBits code (fieldAt old (w * i) w) (fieldAt new (w * i) w)).1).length = w := by
    intro i _
    split <;> exact leBytes_length _ _
  rw [List.map_congr_left one, List.map_const', List.sum_replicate, List.length_range, smul_eq_mul]
  exact Nat.div_mul_le_self _ _

/-- R440: bytes that are reduced through a window are combined with what is there. -/
theorem Pkg.winReduce_combines {code : Nat} {skip : List Nat} (hmaps : k.maps slot va bs.length r (.atomic false) y = true) :
    (k.winReduce slot r va code bs skip).1.hbm =
      Memory.writeBytes k.hbm y (reduceBytes code (Memory.readBytes k.hbm y bs.length) bs skip) := by
  obtain ⟨hframe, hnone, hagain⟩ := Pkg.xcheck_of_maps hmaps (bs.length / 4096)
  obtain ⟨hframe', hread⟩ := Pkg.xread_of_maps hagain (bs.length / 4096)
  have hlast := Pkg.maps_after_xread hagain (bs.length / 4096)
    (reduceBytes_length_le code (Memory.readBytes k.hbm y bs.length) bs skip)
  obtain ⟨hwrote, -⟩ := Pkg.xwrite_of_maps hlast (bs.length / 4096)
  rw [hframe.hbm] at hread
  unfold Pkg.winReduce pages
  rw [show k.xcheck slot r (.atomic false) (bs.length / 4096 + 2) va bs.length = (_, none) from Prod.ext rfl hnone]
  dsimp only
  rw [show (k.xcheck slot r (.atomic false) (bs.length / 4096 + 2) va bs.length).1.xread slot r (.atomic false) (bs.length / 4096 + 2) va bs.length =
    (_, Memory.readBytes k.hbm y bs.length, none) from Prod.ext rfl hread]
  refine hwrote.hbm.trans ?_
  rw [hframe'.hbm, hframe.hbm]

theorem Pkg.winContribute_reduces {source code : Nat} {skip : List Nat} (hcheck : k.windowCheck slot index off bs.length 4 = .ok (w, va))
    (hcode : windowReducer code = true) (hordered : bit w.rights 4 = false) :
    k.winContribute slot index off r source code bs skip = k.winReduce slot r va code bs skip := by
  unfold Pkg.winContribute
  rw [hcheck]
  dsimp only
  rw [hcode, hordered]
  rfl

end Windows

/-! ### Registration (R502–R504) -/

section Registers

variable (k : Pkg) (sl : SlotId)

theorem Pkg.windowNote_shows {index st : Nat} (hindex : index < 4096) (hst : st < 2 ^ 16) :
    (k.windowNote sl index st).getF (F.COL_WS_INDEX sl) = index ∧ (k.windowNote sl index st).getF (F.COL_WS_CODE sl) = st ∧
    (∀ f : Fld, f.off < 0x3000000 → f.off ≠ 0x301018 + 0x100 * sl.val → (k.windowNote sl index st).getF f = k.getF f) ∧
    (k.windowNote sl index st).windows = k.windows ∧ (k.windowNote sl index st).coll = k.coll := by
  have low := sl.isLt
  have code : (F.COL_WS_CODE sl).off < 0x3000000 := by simp only [F.COL_WS_CODE]; omega
  have number : (F.COL_WS_INDEX sl).off < 0x3000000 := by simp only [F.COL_WS_INDEX]; omega
  have same : ∃ r n, k.windowNote sl index st = { k with regs := r, errCount := n } := by
    obtain ⟨⟨r, n, e⟩, -⟩ := Pkg.report_frame (k.setF (F.COL_WS_INDEX sl) index) (F.COL_WS_CODE sl) st .slot sl index
    exact ⟨r, n, e⟩
  unfold Pkg.windowNote at same ⊢
  refine ⟨?_, ?_, fun f hf hoff => ?_, ?_, ?_⟩
  · rw [Pkg.getF_report _ _ _ _ _ _ _ number, Pkg.getF_setF_apart _ _ _ _ ((Fld.apart_iff _ _).mpr (.inr (by simp only [F.COL_WS_CODE, F.COL_WS_INDEX]; omega))),
      Pkg.getF_setF_same _ _ _ rfl]
    exact Nat.mod_eq_of_lt hindex
  · rw [Pkg.getF_report_same _ _ _ _ _ code rfl]
    exact Nat.mod_eq_of_lt hst
  · rw [Pkg.getF_report _ _ _ _ _ _ _ hf, Pkg.getF_setF_apart _ _ _ _ (Fld.apart_of_off (Ne.symm hoff)), Pkg.getF_setF_apart _ _ _ _ (Fld.apart_of_off (Ne.symm hoff))]
  · obtain ⟨r, n, e⟩ := same
    rw [e]
  · obtain ⟨r, n, e⟩ := same
    rw [e]

theorem Pkg.windowTickets_none (h : k.coll.deregs.find? (fun d => d.1 == sl.val) = none) :
    (k.windowTickets sl).getF (F.COL_WIN_DONE sl) = k.getF (F.COL_WIN_ISSUED sl) := by
  unfold Pkg.windowTickets
  rw [h, Pkg.getF_setF_same _ _ _ rfl]
  exact Nat.mod_eq_of_lt (k.getF_lt (F.COL_WIN_ISSUED sl))

theorem Pkg.windowTickets_some {d : Nat × Nat} (h : k.coll.deregs.find? (fun d => d.1 == sl.val) = some d) :
    (k.windowTickets sl).getF (F.COL_WIN_DONE sl) = (2 ^ 32 + d.2 - 1) % 2 ^ 32 := by
  unfold Pkg.windowTickets
  rw [h, Pkg.getF_setF_same _ _ _ rfl]
  exact Nat.mod_eq_of_lt (Nat.mod_lt _ (by decide))

end Registers

section Commands

variable {s : State} {p : PkgId} {t₀ : Nat} {k : Pkg} (hk : k = (s.pkg p).at t₀)
include hk

theorem windowRegister_runs {sl : SlotId} {index : Nat} {j : Pkg} {P : State → Prop} (hrun : k.registerWindow sl index = j)
    (h : ∀ t : State, t.pkg p = j → P t) : Completes (.windowRegister p .pf sl index t₀) s P :=
  completes_of_updPkg (f := fun k => (k.at t₀).registerWindow sl index) rfl fun t ht => h t (by rw [ht, ← hrun, hk])

theorem windowDeregister_runs {sl : SlotId} {index : Nat} {j : Pkg} {P : State → Prop} (hrun : k.deregisterWindow sl index = j)
    (h : ∀ t : State, t.pkg p = j → P t) : Completes (.windowDeregister p .pf sl index t₀) s P :=
  completes_of_updPkg (f := fun k => (k.at t₀).deregisterWindow sl index) rfl fun t ht => h t (by rw [ht, ← hrun, hk])

/-- The window that a descriptor describes (Table 11-1). -/
def describedWindow (slot index : Nat) (b : Bytes) : Window :=
  { slot := slot, index := index, base := fieldAt b 0 8, length := fieldAt b 8 8, key := fieldAt b 16 4, rights := fieldAt b 20 1, sources := fieldAt b 22 2 }

/-- A window enters the table, and takes a ticket. -/
def Pkg.windowAdded (k : Pkg) (slot : Nat) (w : Window) : Pkg := (({ k with windows := k.windows ++ [w] } : Pkg).addWrap (F.COL_WIN_ISSUED slot) 1).windowTickets slot

theorem windowRegister_reads {sl : SlotId} {index y : Nat} {b : Bytes} (hindex : index < 4096) (hnone : k.window sl index = none)
    (hmaps : k.maps sl (k.getF (F.COL_WIN_VA sl) * 64 + 32 * index) 32 .hub .read y = true) (hb : b = Memory.readBytes k.hbm y 32) :
    Completes (.windowRegister p .pf sl index t₀) s (fun t => (t.pkg p).getF (F.COL_WS_INDEX sl) = index ∧
      (t.pkg p).getF (F.COL_WS_CODE sl) = (if badWindow b then 0x3409 else 0) ∧
      (t.pkg p).windows = k.windows ++ (if badWindow b then [] else
        [{ slot := sl, index := index, base := fieldAt b 0 8, length := fieldAt b 8 8, key := fieldAt b 16 4, rights := fieldAt b 20 1,
           sources := fieldAt b 22 2 }])) := by
  obtain ⟨hframe, hread⟩ := Pkg.vread_of_maps (r := .hub) rfl hmaps
  rw [← hb] at hread
  obtain ⟨j, hj⟩ : ∃ j, (k.vread sl .hub (k.getF (F.COL_WIN_VA sl) * 64 + 32 * index) 32).1 = j := ⟨_, rfl⟩
  have run : k.registerWindow sl index = if badWindow b then j.windowNote sl index 0x3409
      else (j.windowAdded sl (describedWindow sl index b)).windowNote sl index 0 := by
    unfold Pkg.registerWindow Pkg.hubRead
    dsimp only
    rw [Nat.mod_eq_of_lt hindex, hnone, if_neg (by decide), show k.vread sl .hub (k.getF (F.COL_WIN_VA sl) * 64 + 32 * index) 32 = (j, b, none) from Prod.ext hj hread]
    rfl
  have windows : j.windows = k.windows := by
    rw [hj] at hframe
    obtain ⟨⟨r, x, ce, n, w, e⟩, -⟩ := hframe
    rw [e]
  refine windowRegister_runs hk run fun t ht => ?_
  rw [ht]
  cases badWindow b with
  | true =>
    obtain ⟨hi, hc, -, hw, -⟩ := j.windowNote_shows sl hindex (st := 0x3409) (by decide)
    exact ⟨hi, hc, hw.trans (windows.trans (List.append_nil _).symm)⟩
  | false =>
    obtain ⟨hi, hc, -, hw, -⟩ := (j.windowAdded sl (describedWindow sl index b)).windowNote_shows sl hindex (st := 0) (by decide)
    refine ⟨hi, hc, hw.trans ?_⟩
    show j.windows ++ [describedWindow sl index b] = _
    rw [windows]
    rfl

theorem windowRegister_taken {sl : SlotId} {index : Nat} {w : Window} (hindex : index < 4096) (hsome : k.window sl index = some w) :
    Completes (.windowRegister p .pf sl index t₀) s (fun t => (t.pkg p).getF (F.COL_WS_CODE sl) = 0x3406 ∧ (t.pkg p).windows = k.windows) := by
  have run : k.registerWindow sl index = k.windowNote sl index 0x3406 := by
    unfold Pkg.registerWindow
    dsimp only
    rw [Nat.mod_eq_of_lt hindex, hsome]
    exact if_pos rfl
  refine windowRegister_runs hk run fun t ht => ?_
  rw [ht]
  obtain ⟨-, hc, -, hw, -⟩ := k.windowNote_shows sl hindex (st := 0x3406) (by decide)
  exact ⟨hc, hw⟩

theorem windowDeregister_unused {sl : SlotId} {index : Nat} (hindex : index < 4096) (hnone : k.window sl index = none) :
    Completes (.windowDeregister p .pf sl index t₀) s (fun t => (t.pkg p).getF (F.COL_WS_CODE sl) = 0x3401 ∧ (t.pkg p).windows = k.windows) := by
  have run : k.deregisterWindow sl index = k.windowNote sl index 0x3401 := by
    unfold Pkg.deregisterWindow
    dsimp only
    rw [Nat.mod_eq_of_lt hindex, hnone]
    exact if_pos rfl
  refine windowDeregister_runs hk run fun t ht => ?_
  rw [ht]
  obtain ⟨-, hc, -, hw, -⟩ := k.windowNote_shows sl hindex (st := 0x3401) (by decide)
  exact ⟨hc, hw⟩

/-- A window leaves the table with a ticket, and what is staged for it goes. -/
def Pkg.windowGone (k : Pkg) (slot index : Nat) : Pkg :=
  ({ k with windows := k.windows.filter (fun w => !(w.slot == slot && w.index == index))
            staged := k.staged.filter (fun x => !(x.slot == slot && x.window == index)) } : Pkg).addWrap (F.COL_WIN_ISSUED slot) 1

/-- The ticket is open. -/
def Pkg.ticketOpened (k : Pkg) (slot : Nat) : Pkg := { k with coll := { k.coll with deregs := k.coll.deregs ++ [(slot, k.getF (F.COL_WIN_ISSUED slot))] } }

omit hk in
theorem Pkg.window_windowGone (k : Pkg) (slot index : Nat) : (k.windowGone slot index).window slot index = none := by
  refine List.find?_eq_none.mpr fun w hw hmatch => ?_
  have kept := (List.mem_filter.mp hw).2
  rw [hmatch] at kept
  cases kept

omit hk in
theorem Pkg.windowGone_coll (k : Pkg) (slot index : Nat) : (k.windowGone slot index).coll = k.coll := rfl

omit hk in
theorem Pkg.ticketOpened_deregs (k : Pkg) (slot : Nat) : (k.ticketOpened slot).coll.deregs = k.coll.deregs ++ [(slot, k.getF (F.COL_WIN_ISSUED slot))] := rfl

omit hk in
theorem Pkg.getF_ticketOpened (k : Pkg) (slot : Nat) (f : Fld) : (k.ticketOpened slot).getF f = k.getF f := rfl

omit hk in
theorem Pkg.ticketOpened_windows (k : Pkg) (slot : Nat) : (k.ticketOpened slot).windows = k.windows := rfl

omit hk in
theorem Pkg.refreshStage_coll (k : Pkg) : k.refreshStage.coll = k.coll := rfl

omit hk in
theorem Pkg.refreshTickets_windows (k : Pkg) (slot : Nat) : (k.refreshStage.windowTickets slot).windows = k.windows := rfl

omit hk in
theorem Pkg.deregisterWindow_opens {k : Pkg} {slot index : Nat} {w : Window} (hindex : index < 4096) (hsome : k.window slot index = some w)
    (hnone : k.coll.deregs = []) :
    k.deregisterWindow slot index = (((k.windowGone slot index).ticketOpened slot).refreshStage.windowTickets slot).windowNote slot index 0 := by
  unfold Pkg.deregisterWindow Pkg.windowGone Pkg.ticketOpened
  dsimp only
  rw [Nat.mod_eq_of_lt hindex, hsome, if_neg (show ¬ (some w).isNone = true from Bool.false_ne_true), if_neg (by rw [hnone]; decide)]

theorem windowDeregister_opens {sl : SlotId} {index : Nat} {w : Window} (hindex : index < 4096) (hsome : k.window sl index = some w) (hnone : k.coll.deregs = []) :
    Completes (.windowDeregister p .pf sl index t₀) s (fun t => (t.pkg p).getF (F.COL_WS_CODE sl) = 0 ∧ (t.pkg p).window sl index = none ∧
      (t.pkg p).getF (F.COL_WIN_ISSUED sl) = (k.getF (F.COL_WIN_ISSUED sl) + 1) % 2 ^ 32 ∧
      (t.pkg p).getF (F.COL_WIN_DONE sl) = k.getF (F.COL_WIN_ISSUED sl)) := by
  have low := sl.isLt
  have run := Pkg.deregisterWindow_opens hindex hsome hnone
  have ticket : (k.windowGone sl index).getF (F.COL_WIN_ISSUED sl) = (k.getF (F.COL_WIN_ISSUED sl) + 1) % 2 ^ 32 := Pkg.getF_setF_same _ _ _ rfl
  have gone := k.window_windowGone sl index
  have deregs : ((k.windowGone sl index).ticketOpened sl).coll.deregs = [(sl.val, (k.getF (F.COL_WIN_ISSUED sl) + 1) % 2 ^ 32)] := by
    rw [Pkg.ticketOpened_deregs, ticket, Pkg.windowGone_coll, hnone, List.nil_append]
  have issued : ((k.windowGone sl index).ticketOpened sl).refreshStage.getF (F.COL_WIN_ISSUED sl) = (k.getF (F.COL_WIN_ISSUED sl) + 1) % 2 ^ 32 := by
    unfold Pkg.refreshStage
    dsimp only
    rw [Pkg.getF_setF_apart _ _ _ _ (Fld.apart_of_off (by simp only [F.COL_STAGE_PEAK, F.COL_WIN_ISSUED]; omega)),
      Pkg.getF_setF_apart _ _ _ _ (Fld.apart_of_off (by simp only [F.COL_STAGE_USED, F.COL_WIN_ISSUED]; omega))]
    rw [Pkg.getF_ticketOpened, ticket]
  have done := Pkg.windowTickets_some ((k.windowGone sl index).ticketOpened sl).refreshStage sl (d := (sl.val, (k.getF (F.COL_WIN_ISSUED sl) + 1) % 2 ^ 32))
    (by
      rw [Pkg.refreshStage_coll, deregs]
      exact List.find?_cons_of_pos (beq_self_eq_true _))
  have kept : (((k.windowGone sl index).ticketOpened sl).refreshStage.windowTickets sl).getF (F.COL_WIN_ISSUED sl) =
      ((k.windowGone sl index).ticketOpened sl).refreshStage.getF (F.COL_WIN_ISSUED sl) :=
    Pkg.getF_setF_apart _ _ _ _ ((Fld.apart_iff _ _).mpr (.inr (by simp only [F.COL_WIN_DONE, F.COL_WIN_ISSUED]; omega)))
  have table : (((k.windowGone sl index).ticketOpened sl).refreshStage.windowTickets sl).window sl index = none := by
    unfold Pkg.window at gone ⊢
    rw [Pkg.refreshTickets_windows, Pkg.ticketOpened_windows]
    exact gone
  refine windowDeregister_runs hk run fun t ht => ?_
  rw [ht]
  generalize ((k.windowGone sl index).ticketOpened sl).refreshStage.windowTickets sl = j at done kept table ⊢
  obtain ⟨-, hc, hg, hw, -⟩ := j.windowNote_shows sl hindex (st := 0) (by decide)
  refine ⟨hc, ?_, ?_, ?_⟩
  · unfold Pkg.window at table ⊢
    rw [hw]
    exact table
  · rw [hg _ (by simp only [F.COL_WIN_ISSUED]; omega) (by simp only [F.COL_WIN_ISSUED]; omega), kept, issued]
  · rw [hg _ (by simp only [F.COL_WIN_DONE]; omega) (by simp only [F.COL_WIN_DONE]; omega), done]
    have fits : k.getF (F.COL_WIN_ISSUED sl) < 2 ^ 32 := k.getF_lt (F.COL_WIN_ISSUED sl)
    dsimp only
    omega

theorem deregisterComplete_ends {sl : SlotId} {ticket : Nat} (hone : k.coll.deregs = [(sl.val, ticket)]) :
    Completes (.deregisterComplete p sl t₀) s (fun t => (t.pkg p).coll.deregs = [] ∧ (t.pkg p).getF (F.COL_WIN_DONE sl) = k.getF (F.COL_WIN_ISSUED sl)) := by
  have found : k.coll.deregs.find? (fun d => d.1 == sl.val) = some (sl.val, ticket) := by
    rw [hone]
    exact List.find?_cons_of_pos (beq_self_eq_true _)
  have empty : k.coll.deregs.erase (sl.val, ticket) = [] := by
    rw [hone]
    exact List.erase_cons_head _ _
  refine completes_of_updPkg_eq (j := ({ k with coll := { k.coll with deregs := k.coll.deregs.erase (sl.val, ticket) } } : Pkg).windowTickets sl) rfl ?_ fun t ht => ?_
  · dsimp only
    rw [← hk, found]
  · rw [ht, empty]
    exact ⟨rfl, Pkg.windowTickets_none { k with coll := { k.coll with deregs := [] } } sl rfl⟩

/-! ### Packets -/

theorem writePacket_writes {pkt : Packet} {w : Window} {va y : Nat} (haccepts : k.accepts pkt = true) (hgood : bit pkt.info 0 = false)
    (hstream : k.isCallStream pkt.slot pkt.sid = false) (hskip : pkt.skip = [])
    (hcheck : k.windowCheck pkt.slot (bits pkt.addr 55 44) (pkt.addr % 2 ^ 44) pkt.payload.length 2 = .ok (w, va))
    (hmaps : k.maps pkt.slot va pkt.payload.length (.window pkt.src) .write y = true) :
    Completes (.writePacket p pkt t₀) s (fun t => (t.pkg p).hbm = Memory.writeBytes k.hbm y pkt.payload) := by
  have hj := k.claimed_frame pkt
  have stream := (Pkg.isCallStream_congr hj.calls (Pkg.claimed_tables haccepts) pkt.slot pkt.sid).trans hstream
  refine ⟨_, rfl, ?_⟩
  dsimp only
  rw [State.pkg_updPkg_same, ← hk]
  refine (Pkg.sequenced_ends haccepts _).hbm.trans ?_
  generalize ((k.screen pkt).1.claim pkt).1 = j at hj stream ⊢
  obtain ⟨hput, hnone⟩ := Pkg.winPut_writes (k := j) (by rw [hj.windowCheck]; exact hcheck) (hj.maps hmaps)
  rw [hgood, stream, hskip, show j.winPut pkt.slot (bits pkt.addr 55 44) (pkt.addr % 2 ^ 44) (.window pkt.src) pkt.payload [] = (_, none) from Prod.ext rfl hnone,
    ← hj.hbm]
  exact hput.hbm

theorem reducePacket_combines {pkt : Packet} {w : Window} {va y : Nat} (haccepts : k.accepts pkt = true) (hgood : bit pkt.info 0 = false)
    (hstream : k.isCallStream pkt.slot pkt.sid = false)
    (hcheck : k.windowCheck pkt.slot (bits pkt.addr 55 44) (pkt.addr % 2 ^ 44) pkt.payload.length 4 = .ok (w, va))
    (hcode : windowReducer (pkt.addr / 2 ^ 56) = true) (hordered : bit w.rights 4 = false)
    (hmaps : k.maps pkt.slot va pkt.payload.length (.window pkt.src) (.atomic false) y = true) :
    Completes (.reducePacket p pkt t₀) s (fun t => (t.pkg p).hbm = Memory.writeBytes k.hbm y
      (reduceBytes (pkt.addr / 2 ^ 56) (Memory.readBytes k.hbm y pkt.payload.length) pkt.payload pkt.skip)) := by
  have hj := k.claimed_frame pkt
  have stream := (Pkg.isCallStream_congr hj.calls (Pkg.claimed_tables haccepts) pkt.slot pkt.sid).trans hstream
  refine ⟨_, rfl, ?_⟩
  dsimp only
  rw [State.pkg_updPkg_same, ← hk]
  refine (Pkg.sequenced_ends haccepts _).hbm.trans ?_
  generalize ((k.screen pkt).1.claim pkt).1 = j at hj stream ⊢
  have run := Pkg.winContribute_reduces (k := j) (r := .window pkt.src) (source := pkt.src) (skip := pkt.skip) (bs := pkt.payload)
    (by rw [hj.windowCheck]; exact hcheck) hcode hordered
  have combined := Pkg.winReduce_combines (k := j) (code := pkt.addr / 2 ^ 56) (skip := pkt.skip) (hj.maps hmaps)
  rw [hgood, stream, run, ← hj.hbm]
  refine Eq.trans ?_ combined
  cases hout : j.winReduce pkt.slot (.window pkt.src) va (pkt.addr / 2 ^ 56) pkt.payload pkt.skip with
  | mk i o => cases o <;> rfl

end Commands

/-- Settles O33. -/
theorem windowsTakeWrites : Obligations.WindowsTakeWrites := by
  unfold Obligations.WindowsTakeWrites
  intro s p t₀
  obtain ⟨k, hk⟩ : ∃ k, k = (s.pkg p).at t₀ := ⟨_, rfl⟩
  rw [← hk]
  exact ⟨fun sl index y b => windowRegister_reads hk, fun sl index w => windowRegister_taken hk, fun sl index w => windowDeregister_opens hk,
    fun sl index => windowDeregister_unused hk, fun sl ticket => deregisterComplete_ends hk, fun pkt w va y => writePacket_writes hk,
    fun pkt w va y => reducePacket_combines hk⟩

end Sys2Proof.Machine
end

section
/-! PROOFS. The mover: MOVE, GATHER and SCATTER from local store (R230–R238); O25. -/

namespace Sys2Proof.Machine

/-! ### Bytes of a memory -/

theorem readBytes_getD (m : Memory) (a : Nat) {n i : Nat} (h : i < n) : (m.readBytes a n).getD i 0 = m.read (a + i) := by
  induction n generalizing a i with
  | zero => exact absurd h (Nat.not_lt_zero i)
  | succ n ih =>
    cases i with
    | zero => rfl
    | succ i =>
      show (Memory.readBytes m (a + 1) n).getD i 0 = _
      rw [ih (a + 1) (Nat.lt_of_succ_lt_succ h)]
      congr 1
      omega

theorem readBytes_congr {m m' : Memory} {a n : Nat} (h : ∀ i, i < n → m'.read (a + i) = m.read (a + i)) : m'.readBytes a n = m.readBytes a n := by
  induction n generalizing a with
  | zero => rfl
  | succ n ih =>
    show m'.read a :: Memory.readBytes m' (a + 1) n = m.read a :: Memory.readBytes m (a + 1) n
    rw [show m'.read a = m.read a from h 0 (Nat.succ_pos n), ih fun i hi => ?_]
    have := h (i + 1) (Nat.succ_lt_succ hi)
    rwa [show a + 1 + i = a + (i + 1) by omega]

/-- Writing bytes that were read moves them. -/
theorem read_writeBytes_readBytes (m src : Memory) (d a n x : Nat) :
    (m.writeBytes d (src.readBytes a n)).read x = if d ≤ x ∧ x < d + n then src.read (a + (x - d)) else m.read x := by
  rw [Memory.read_writeBytes, readBytes_length]
  split
  · next h => exact readBytes_getD src a (by omega)
  · rfl

/-! ### The view of a command -/

/-- The pieces' source bytes, at their own addresses. -/
def gathered (ls view : Memory) (ps : List (Nat × Nat × Nat)) : Memory :=
  ps.foldl (fun v q => v.writeBytes q.1 (ls.readBytes q.1 q.2.2)) view

theorem gathered_keeps {ls v : Memory} {x : Nat} (ps : List (Nat × Nat × Nat)) (h : v.read x = ls.read x) : (gathered ls v ps).read x = ls.read x :=
  List.foldlRecOn ps _ (motive := fun v : Memory => v.read x = ls.read x) h fun v hv q _ => by
    rw [read_writeBytes_readBytes]
    split
    · congr 1
      omega
    · exact hv

/-- What was gathered reads as the local store does. -/
theorem readBytes_gathered (ls view : Memory) (ps : List (Nat × Nat × Nat)) {q : Nat × Nat × Nat} (hq : q ∈ ps) :
    (gathered ls view ps).readBytes q.1 q.2.2 = ls.readBytes q.1 q.2.2 := by
  refine readBytes_congr fun i hi => ?_
  induction ps generalizing view with
  | nil => exact absurd hq List.not_mem_nil
  | cons p ps ih =>
    rcases List.mem_cons.mp hq with rfl | hq
    · refine gathered_keeps ps ?_
      rw [read_writeBytes_readBytes, if_pos ⟨by omega, by omega⟩]
      congr 1
      omega
    · exact ih (view.writeBytes p.1 (ls.readBytes p.1 p.2.2)) hq

/-- A command with its source bytes. -/
def Cmd.viewing (x : Cmd) (v : Memory) : Cmd := { x with view := v }

theorem Cmd.viewing_f (x : Cmd) (v : Memory) : (x.viewing v).f = x.f := rfl

theorem Cmd.viewing_add (x : Cmd) (v : Memory) : (x.viewing v).add = x.add := rfl

section Mover

variable {k : Pkg} {c : Nat} {x : Cmd}

theorem Pkg.gatherView_of_local (hclean : k.lsClean c = true) (count : Nat) (ps : List (Nat × Nat × Nat)) {x : Cmd} (hsrc : addrSpace (x.f 16 8) = 0) :
    ∃ n, k.gatherView c x count ps = (k, gathered (k.core c).ls x.view ps, n, none) := by
  induction ps generalizing x count with
  | nil => exact ⟨count, rfl⟩
  | cons p ps ih =>
    obtain ⟨a, d, n⟩ := p
    obtain ⟨m, hm⟩ := ih (count + (Memory.readBytes (k.core c).ls a n).length) (x := x.viewing (Memory.writeBytes x.view a (Memory.readBytes (k.core c).ls a n))) hsrc
    refine ⟨m, ?_⟩
    rw [Pkg.gatherView, hsrc]
    dsimp only
    rw [Pkg.lsRead_of_clean hclean]
    exact hm

/-- R230: a command whose checks pass reads its source, then places it. -/
theorem Pkg.moveStart_of_local (hclean : k.lsClean c = true) (hcheck : k.moveCheck c x = none) (hsrc : addrSpace (x.f 16 8) = 0) :
    k.moveStart c x = k.placeAll c (x.viewing (gathered (k.core c).ls x.view (k.movePieces c x))) := by
  obtain ⟨n, hview⟩ := Pkg.gatherView_of_local hclean 0 (k.movePieces c x) hsrc
  unfold Pkg.moveStart
  rw [Pkg.lsRead_of_clean hclean]
  dsimp only
  rw [hcheck]
  dsimp only
  rw [if_neg (by rw [hsrc]; rintro ⟨h, -⟩; exact absurd h (by decide)), hview]
  rfl

/-! ### Placing -/

/-- `j` has the local store `m`, and the plays, the HBM and the acknowledgements of `k`. -/
structure Pkg.Placed (k j : Pkg) (c : Nat) (m : Memory) : Prop where
  stored : k.Stored j c m
  hbm : j.hbm = k.hbm
  done : j.fab.done = k.fab.done

/-- One piece is placed, unless an earlier one has failed. -/
def Pkg.placeStep (c : Nat) (x : Cmd) (acc : Pkg × Option Bad) (q : Nat × Nat × Nat) : Pkg × Option Bad :=
  match acc.2 with
  | some _ => acc
  | none => acc.1.placeRun c x q.2.1 (Memory.readBytes x.view q.1 q.2.2)

/-- A command after all its pieces are placed. -/
def Cmd.placed (x : Cmd) (bad : Option Bad) : Cmd :=
  match bad with
  | some b => ({ x with released := true, phase := .done, view := [] } : Cmd).fail b
  | none => { x with released := true, phase := .done, view := [] }

/-- The bytes that a command moves are counted. -/
def Pkg.movedCounted (k : Pkg) (c : Nat) (x : Cmd) : Pkg := k.addWrap (F.CORE_MOV_BYTES c) (((k.movePieces c x).map (fun p => p.2.2)).sum * x.lsEnds)

theorem Pkg.placeAll_here (hdst : addrSpace (x.f 24 8) ≠ 2) (v : Memory) : k.placeAll c (x.viewing v) =
    (((k.movePieces c x).foldl (Pkg.placeStep c (x.viewing v)) (k.movedCounted c x, none)).1).updCmd c x.num
      (fun y => y.placed ((k.movePieces c x).foldl (Pkg.placeStep c (x.viewing v)) (k.movedCounted c x, none)).2) := by
  unfold Pkg.placeAll
  dsimp only
  rw [Cmd.viewing_f, if_neg (by rw [decide_eq_true_eq]; rintro ⟨h, -⟩; exact hdst h)]
  rfl

theorem Pkg.placeRun_local {j : Pkg} {m : Memory} (hc : c < 64) (h : k.Placed j c m) (hdst : addrSpace (x.f 24 8) = 0) (hadd : x.add = false) (d : Nat) (bs : Bytes) :
    (j.placeRun c x d bs).2 = none ∧ k.Placed (j.placeRun c x d bs).1 c (Memory.writeBytes m d bs) := by
  obtain ⟨⟨hls, hplay⟩, hhbm, hdone⟩ := h
  have run : j.placeRun c x d bs = (j.lsStore c (Memory.writeBytes m d bs) ((List.range bs.length).map (fun i => d + i)), none) := by
    unfold Pkg.placeRun
    dsimp only
    rw [hdst, hadd, hls]
    rfl
  obtain ⟨hls', hplay'⟩ := j.ls_lsStore hc (Memory.writeBytes m d bs) ((List.range bs.length).map (fun i => d + i))
  rw [run]
  exact ⟨rfl, ⟨hls', hplay'.trans hplay⟩, hhbm, hdone⟩

/-- Pieces are placed one after another. -/
theorem Pkg.placeSteps_local (hc : c < 64) (hdst : addrSpace (x.f 24 8) = 0) (hadd : x.add = false) (ps : List (Nat × Nat × Nat)) {j : Pkg} {m : Memory}
    (h : k.Placed j c m) : (ps.foldl (Pkg.placeStep c x) (j, none)).2 = none ∧
      k.Placed (ps.foldl (Pkg.placeStep c x) (j, none)).1 c (ps.foldl (fun m q => Memory.writeBytes m q.2.1 (Memory.readBytes x.view q.1 q.2.2)) m) := by
  induction ps generalizing j m with
  | nil => exact ⟨rfl, h⟩
  | cons q ps ih =>
    obtain ⟨hnone, hplaced⟩ := Pkg.placeRun_local hc h hdst hadd q.2.1 (Memory.readBytes x.view q.1 q.2.2)
    have step : Pkg.placeStep c x (j, none) q = ((j.placeRun c x q.2.1 (Memory.readBytes x.view q.1 q.2.2)).1, none) := Prod.ext rfl hnone
    rw [List.foldl_cons, List.foldl_cons, step]
    exact ih hplaced

/-! ### The end of a command -/

/-- A command has ended with its own status. -/
def Pkg.Ended (k : Pkg) (c : Nat) (x : Cmd) : Prop := (k.cmd c x.num).map (fun y => (y.status, y.phase)) = some (x.status, .done)

theorem Cmd.placed_num (x : Cmd) (bad : Option Bad) : (x.placed bad).num = x.num := by
  cases bad with
  | none => rfl
  | some b => unfold Cmd.placed Cmd.fail; dsimp only; split <;> rfl

theorem Pkg.ended_of_placed {j : Pkg} (hc : c < 64) (hplay : j.play c = k.play c) (hx : k.cmd c x.num = some x) :
    (j.updCmd c x.num (fun y => y.placed none)).Ended c x := by
  unfold Pkg.Ended
  rw [Pkg.cmd_updCmd j hc _ (fun y => y.placed_num none), Pkg.cmd_congr hplay, hx]
  rfl

/-- A command that has ended OK is neither tried again nor settled. -/
theorem Pkg.orRetry_of_ended {j : Pkg} (hok : statusOk x.status = true) (h : j.Ended c x) : k.orRetry j c x.num = j := by
  unfold Pkg.Ended at h
  obtain ⟨y, hy, hy'⟩ := Option.map_eq_some_iff.mp h
  have status : y.status = x.status := congrArg Prod.fst hy'
  unfold Pkg.orRetry
  rw [hy]
  refine if_pos ?_
  rw [status, beq_iff_eq.mp hok]
  decide

theorem Pkg.moved_settles {j : Pkg} (hok : statusOk x.status = true) (h : j.Ended c x) (hdone : j.fab.done = []) : (k.orRetry j c x.num).settleCmds = j := by
  rw [Pkg.orRetry_of_ended hok h, Pkg.settleCmds_of_none hdone]

theorem Pkg.placed_movedCounted (k : Pkg) (c : Nat) (x : Cmd) : k.Placed (k.movedCounted c x) c (k.core c).ls := ⟨⟨rfl, rfl⟩, rfl, rfl⟩

/-- What has ended the command, and what that leaves. -/
theorem Pkg.moveStart_ends {old j : Pkg} {m : Memory} {v : Memory} (hc : c < 64) (hx : k.cmd c x.num = some x) (hok : statusOk x.status = true)
    (hdone : k.fab.done = []) (hstart : k.moveStart c x = k.placeAll c (x.viewing v)) (hdst : addrSpace (x.f 24 8) ≠ 2)
    (hfold : (k.movePieces c x).foldl (Pkg.placeStep c (x.viewing v)) (k.movedCounted c x, none) = (j, none)) (hstored : k.Stored j c m)
    (hacks : j.fab.done = k.fab.done) :
    ((old.orRetry (k.moveStart c x) c x.num).settleCmds).Ended c x ∧ ((old.orRetry (k.moveStart c x) c x.num).settleCmds).hbm = j.hbm ∧
      (((old.orRetry (k.moveStart c x) c x.num).settleCmds).core c).ls = m := by
  have ended := Pkg.ended_of_placed (j := j) hc hstored.2 hx
  rw [hstart, Pkg.placeAll_here hdst, hfold, Pkg.moved_settles hok ended (hacks.trans hdone)]
  exact ⟨ended, rfl, (Pkg.ls_updCmd j hc _ _).trans hstored.1⟩

/-- MOVE, GATHER and SCATTER within a local store. -/
theorem Pkg.moveStart_within (old : Pkg) (hc : c < 64) (hclean : k.lsClean c = true) (hcheck : k.moveCheck c x = none) (hsrc : addrSpace (x.f 16 8) = 0)
    (hdst : addrSpace (x.f 24 8) = 0) (hadd : x.add = false) (hx : k.cmd c x.num = some x) (hok : statusOk x.status = true) (hdone : k.fab.done = []) :
    ((old.orRetry (k.moveStart c x) c x.num).settleCmds).Ended c x ∧ ((old.orRetry (k.moveStart c x) c x.num).settleCmds).hbm = k.hbm ∧
      (((old.orRetry (k.moveStart c x) c x.num).settleCmds).core c).ls = (k.movePieces c x).foldl
        (fun m q => Memory.writeBytes m q.2.1 (Memory.readBytes (k.core c).ls q.1 q.2.2)) (k.core c).ls := by
  have hdst' : addrSpace (x.f 24 8) ≠ 2 := by rw [hdst]; decide
  obtain ⟨hnone, hplaced⟩ := Pkg.placeSteps_local (x := x.viewing (gathered (k.core c).ls x.view (k.movePieces c x))) hc hdst hadd
    (k.movePieces c x) (k.placed_movedCounted c x)
  obtain ⟨hended, hhbm, hls⟩ := Pkg.moveStart_ends (old := old) hc hx hok hdone (Pkg.moveStart_of_local hclean hcheck hsrc) hdst' (Prod.ext rfl hnone)
    hplaced.stored hplaced.done
  refine ⟨hended, hhbm.trans hplaced.hbm, hls.trans (List.foldl_ext _ _ _ fun m q hq => ?_)⟩
  show Memory.writeBytes m q.2.1 ((gathered (k.core c).ls x.view (k.movePieces c x)).readBytes q.1 q.2.2) = _
  rw [readBytes_gathered _ _ _ hq]

/-- A MOVE from local store into HBM. -/
theorem Pkg.moveStart_into {y : Nat} (old : Pkg) (hc : c < 64) (hclean : k.lsClean c = true) (hcheck : k.moveCheck c x = none) (hsrc : addrSpace (x.f 16 8) = 0)
    (hdst : addrSpace (x.f 24 8) = 1) (hop : x.op = 0x30) (hx : k.cmd c x.num = some x) (hok : statusOk x.status = true) (hdone : k.fab.done = [])
    (hmaps : (k.movedCounted c x).maps (k.coreSlot c) (addrBase (x.f 24 8)) (x.f 32 4) (.mover c) .write y = true)
    (hslot : (k.movedCounted c x).coreSlot c = k.coreSlot c) :
    ((old.orRetry (k.moveStart c x) c x.num).settleCmds).Ended c x ∧
      ((old.orRetry (k.moveStart c x) c x.num).settleCmds).hbm =
        Memory.writeBytes k.hbm y (Memory.readBytes (k.core c).ls (addrBase (x.f 16 8)) (x.f 32 4)) ∧
      (((old.orRetry (k.moveStart c x) c x.num).settleCmds).core c).ls = (k.core c).ls := by
  have hdst' : addrSpace (x.f 24 8) ≠ 2 := by rw [hdst]; decide
  have hadd : x.add = false := by unfold Cmd.add; rw [hop]; rfl
  have piece : k.movePieces c x = [(addrBase (x.f 16 8), addrBase (x.f 24 8), x.f 32 4)] := if_pos hop
  have view := readBytes_gathered (k.core c).ls x.view (k.movePieces c x) (q := (addrBase (x.f 16 8), addrBase (x.f 24 8), x.f 32 4))
    (by rw [piece]; exact List.mem_singleton.mpr rfl)
  obtain ⟨hwrote, hnone⟩ := Pkg.vwrite_of_maps (k := k.movedCounted c x) (bs := Memory.readBytes (k.core c).ls (addrBase (x.f 16 8)) (x.f 32 4))
    (by rw [readBytes_length]; exact hmaps)
  have fold : (k.movePieces c x).foldl (Pkg.placeStep c (x.viewing (gathered (k.core c).ls x.view (k.movePieces c x)))) (k.movedCounted c x, none) =
      (((k.movedCounted c x).vwrite (k.coreSlot c) (.mover c) (addrBase (x.f 24 8)) (Memory.readBytes (k.core c).ls (addrBase (x.f 16 8)) (x.f 32 4))).1, none) := by
    refine (congrArg (List.foldl _ _) piece).trans ?_
    show (k.movedCounted c x).placeRun c _ (addrBase (x.f 24 8)) ((gathered (k.core c).ls x.view (k.movePieces c x)).readBytes _ _) = _
    rw [view]
    unfold Pkg.placeRun
    dsimp only
    rw [Cmd.viewing_f, hdst, Cmd.viewing_add, hadd, hslot]
    exact Prod.ext rfl hnone
  obtain ⟨bad, hframe⟩ := hwrote
  have kept : (((k.movedCounted c x).vwrite (k.coreSlot c) (.mover c) (addrBase (x.f 24 8)) (Memory.readBytes (k.core c).ls (addrBase (x.f 16 8)) (x.f 32 4))).1).cores = k.cores :=
    hframe.cores
  have core := Pkg.core_congr kept c
  obtain ⟨hended, hhbm, hls⟩ := Pkg.moveStart_ends (old := old) (m := (k.core c).ls) hc hx hok hdone (Pkg.moveStart_of_local hclean hcheck hsrc) hdst' fold
    ⟨congrArg Core.ls core, congrArg Core.play core⟩ (congrArg Fabric.done hframe.fab)
  exact ⟨hended, hhbm.trans hframe.hbm, hls⟩

/-! ### What an engine's count of conflicts leaves -/

theorem Pkg.moveCheck_congr {j : Pkg} (hcore : j.core c = k.core c) (hrack : j.rack = k.rack) (hid : j.id = k.id) : j.moveCheck c x = k.moveCheck c x := by
  have far : j.farEnd x = k.farEnd x := by unfold Pkg.farEnd Pkg.targetOf Pkg.target; rw [hrack, hid]
  unfold Pkg.moveCheck Pkg.blockDescs Pkg.blockEntries Pkg.descCheck Pkg.descAt
  rw [far, hcore]

theorem Pkg.getF_movedCounted (k : Pkg) (c : Nat) (x : Cmd) {f : Fld} (h : f.off < 0x1000000) : (k.movedCounted c x).getF f = k.getF f :=
  Pkg.getF_addWrap_apart _ _ _ _ (Fld.apart_of_off (by simp only [F.CORE_MOV_BYTES]; omega))

theorem Pkg.alike_addWrap (k : Pkg) {f : Fld} (n : Nat) (h : 0x1000000 ≤ f.off) : Alike (fun o => o < 0x1000000) k (k.addWrap f n) :=
  ⟨rfl, rfl, rfl, rfl, .setF _ _ (by omega)⟩

theorem Pkg.movePieces_congr {j : Pkg} (hcore : j.core c = k.core c) : j.movePieces c x = k.movePieces c x := by
  unfold Pkg.movePieces Pkg.blockDescs Pkg.blockEntries Pkg.descAt
  rw [hcore]

theorem Pkg.coreSlot_lt (k : Pkg) (c : Nat) : k.coreSlot c < 4 := by
  unfold Pkg.coreSlot Pkg.clusterSlot
  cases h : (List.range 4).find? (fun s => k.slotHeld s && bit (k.getF (F.LUP_PART_CLUSTERS s)) (c / 16)) with
  | none => decide
  | some s => exact List.mem_range.mp (List.mem_of_find?_eq_some h)

theorem Alike.maps_below {k j : Pkg} (h : Alike (fun o => o < 0x1000000) k j) {root va n y : Nat} (hroot : root < 4) {r : Requester} {a : Access4}
    (hmaps : k.maps root va n r a y = true) : j.maps root va n r a y = true :=
  h.maps ⟨by decide, by omega, fun _ => by omega, fun _ _ => by omega⟩ hmaps

end Mover

/-! ### The commands -/

section Commands

variable {s : State} {p : PkgId} {core : CoreId} {t₀ : Nat} {x : Cmd} {k : Pkg} (hk : k = (s.pkg p).at t₀)
  (hok : statusOk x.status = true) (hx : k.cmd core x.num = some x) (hclean : k.lsClean core = true) (hfetches : x.fetches = []) (hdone : k.fab.done = [])
  (hcheck : k.moveCheck core x = none) (hsrc : addrSpace (x.f 16 8) = 0)

theorem Pkg.started_op {k : Pkg} {c op : Nat} {x : Cmd} (h : k.started c op = some x) : x.op = op := by
  obtain ⟨pl, -, hfind⟩ := Option.bind_eq_some_iff.mp h
  have hp := List.find?_some hfind
  exact beq_iff_eq.mp (Bool.and_eq_true_iff.mp hp).2

include hk hfetches in
/-- MOVE runs its command with the conflicts that its accesses met. -/
theorem move_runs (conflicts : Nat) (hstart : k.started core 0x30 = some x) {P : State → Prop}
    (h : ∀ t : State, t.pkg p = (k.orRetry ((k.conflicts core conflicts).moveStart core x) core x.num).settleCmds → P t) :
    Completes (.move p core conflicts t₀) s P :=
  completes_of_updPkg rfl fun t ht => h t (by
    rw [← hk] at ht
    refine ht.trans ((Pkg.onStarted_of_started hstart _).trans (if_pos ?_))
    rw [hfetches]
    rfl)

include hk hfetches in
theorem gather_runs (hstart : k.started core 0x21 = some x) {P : State → Prop}
    (h : ∀ t : State, t.pkg p = (k.orRetry (k.moveStart core x) core x.num).settleCmds → P t) : Completes (.gather p core t₀) s P :=
  completes_of_updPkg rfl fun t ht => h t (by
    rw [← hk] at ht
    refine ht.trans ((Pkg.onStarted_of_started hstart _).trans (if_pos ?_))
    rw [hfetches]
    rfl)

include hk hfetches in
theorem scatter_runs (hstart : k.started core 0x22 = some x) {P : State → Prop}
    (h : ∀ t : State, t.pkg p = (k.orRetry (k.moveStart core x) core x.num).settleCmds → P t) : Completes (.scatter p core t₀) s P :=
  completes_of_updPkg rfl fun t ht => h t (by
    rw [← hk] at ht
    refine ht.trans ((Pkg.onStarted_of_started hstart _).trans (if_pos ?_))
    rw [hfetches]
    rfl)

include hk hok hx hclean hfetches hdone hcheck hsrc

theorem move_within (conflicts : Nat) (hstart : k.started core 0x30 = some x) (hdst : addrSpace (x.f 24 8) = 0) :
    Completes (.move p core conflicts t₀) s (fun t => (t.pkg p).Ended core x ∧ (t.pkg p).hbm = k.hbm ∧
      ∀ a, ((t.pkg p).core core).ls.read a = if addrBase (x.f 24 8) ≤ a ∧ a < addrBase (x.f 24 8) + x.f 32 4
        then (k.core core).ls.read (addrBase (x.f 16 8) + (a - addrBase (x.f 24 8))) else (k.core core).ls.read a) := by
  have hcore := Pkg.conflicts_core k core conflicts
  have op := Pkg.started_op hstart
  have piece : k.movePieces core x = [(addrBase (x.f 16 8), addrBase (x.f 24 8), x.f 32 4)] := if_pos op
  have rack : (k.conflicts core conflicts).rack = k.rack :=
    Pkg.getF_addWrap_apart _ _ _ _ (Fld.apart_of_off (by simp only [F.CORE_LS_CONFLICTS, F.GLB_RACK_ID]; omega))
  obtain ⟨hended, hhbm, hls⟩ := Pkg.moveStart_within (k := k.conflicts core conflicts) k core.isLt ((Pkg.lsClean_congr hcore).trans hclean)
    ((Pkg.moveCheck_congr hcore rack rfl).trans hcheck) hsrc hdst (by unfold Cmd.add; rw [op]; rfl) ((Pkg.cmd_congr (congrArg Core.play hcore) _).trans hx) hok hdone
  refine move_runs hk hfetches conflicts hstart fun t ht => ?_
  rw [ht]
  refine ⟨hended, hhbm, fun a => ?_⟩
  rw [hls, Pkg.movePieces_congr hcore, piece, hcore]
  exact read_writeBytes_readBytes _ _ _ _ _ _

theorem move_into (conflicts : Nat) {y : Nat} (hstart : k.started core 0x30 = some x) (hdst : addrSpace (x.f 24 8) = 1)
    (hmaps : k.maps (k.coreSlot core) (addrBase (x.f 24 8)) (x.f 32 4) (.mover core) .write y = true) :
    Completes (.move p core conflicts t₀) s (fun t => (t.pkg p).Ended core x ∧ ((t.pkg p).core core).ls = (k.core core).ls ∧
      ∀ a, (t.pkg p).hbm.read a = if y ≤ a ∧ a < y + x.f 32 4 then (k.core core).ls.read (addrBase (x.f 16 8) + (a - y)) else k.hbm.read a) := by
  have hcore := Pkg.conflicts_core k core conflicts
  have op := Pkg.started_op hstart
  have low : ∀ f : Fld, f.off < 0x1000000 → (k.conflicts core conflicts).getF f = k.getF f := fun f hf =>
    Pkg.getF_addWrap_apart _ _ _ _ (Fld.apart_of_off (by simp only [F.CORE_LS_CONFLICTS]; omega))
  have slot : (k.conflicts core conflicts).coreSlot core = k.coreSlot core := Pkg.coreSlot_congr (fun f hf => low f (by omega)) core
  have alike : Alike (fun o => o < 0x1000000) k ((k.conflicts core conflicts).movedCounted core x) := by
    have first := k.alike_addWrap (f := F.CORE_LS_CONFLICTS core) conflicts (by simp only [F.CORE_LS_CONFLICTS]; omega)
    have second := (k.conflicts core conflicts).alike_addWrap (f := F.CORE_MOV_BYTES core)
      ((((k.conflicts core conflicts).movePieces core x).map (fun p => p.2.2)).sum * x.lsEnds) (by simp only [F.CORE_MOV_BYTES]; omega)
    exact ⟨rfl, rfl, rfl, rfl, first.cells.trans second.cells⟩
  obtain ⟨hended, hhbm, hls⟩ := Pkg.moveStart_into (k := k.conflicts core conflicts) (y := y) k core.isLt ((Pkg.lsClean_congr hcore).trans hclean)
    ((Pkg.moveCheck_congr hcore (low F.GLB_RACK_ID (by decide)) rfl).trans hcheck) hsrc hdst op ((Pkg.cmd_congr (congrArg Core.play hcore) _).trans hx) hok hdone
    (by rw [slot]; exact alike.maps_below (k.coreSlot_lt core) hmaps)
    (Pkg.coreSlot_congr (fun f hf => Pkg.getF_movedCounted _ _ _ (by omega)) core)
  refine move_runs hk hfetches conflicts hstart fun t ht => ?_
  rw [ht]
  refine ⟨hended, hls.trans (congrArg Core.ls hcore), fun a => ?_⟩
  rw [hhbm, hcore]
  exact read_writeBytes_readBytes _ _ _ _ _ _

theorem gather_within (hstart : k.started core 0x21 = some x) (hdst : addrSpace (x.f 24 8) = 0) :
    Completes (.gather p core t₀) s (fun t => (t.pkg p).Ended core x ∧ ((t.pkg p).core core).ls = (k.movePieces core x).foldl
      (fun m q => Memory.writeBytes m q.2.1 (Memory.readBytes (k.core core).ls q.1 q.2.2)) (k.core core).ls) := by
  obtain ⟨hended, -, hls⟩ := Pkg.moveStart_within k core.isLt hclean hcheck hsrc hdst (by unfold Cmd.add; rw [Pkg.started_op hstart]; rfl) hx hok hdone
  refine gather_runs hk hfetches hstart fun t ht => ?_
  rw [ht]
  exact ⟨hended, hls⟩

theorem scatter_within (hstart : k.started core 0x22 = some x) (hdst : addrSpace (x.f 24 8) = 0) (hadd : x.add = false) :
    Completes (.scatter p core t₀) s (fun t => (t.pkg p).Ended core x ∧ ((t.pkg p).core core).ls = (k.movePieces core x).foldl
      (fun m q => Memory.writeBytes m q.2.1 (Memory.readBytes (k.core core).ls q.1 q.2.2)) (k.core core).ls) := by
  obtain ⟨hended, -, hls⟩ := Pkg.moveStart_within k core.isLt hclean hcheck hsrc hdst hadd hx hok hdone
  refine scatter_runs hk hfetches hstart fun t ht => ?_
  rw [ht]
  exact ⟨hended, hls⟩

end Commands

/-- Settles O25. -/
theorem moverCopies : Obligations.MoverCopies := by
  unfold Obligations.MoverCopies
  intro s p core t₀ x
  obtain ⟨k, hk⟩ : ∃ k, k = (s.pkg p).at t₀ := ⟨_, rfl⟩
  rw [← hk]
  intro k' ended src dst n hok hx hclean hfetches hdone hcheck hsrc
  exact ⟨fun conflicts hstart hdst => move_within hk hok hx hclean hfetches hdone hcheck hsrc conflicts hstart hdst,
    fun conflicts y hstart hdst hmaps => move_into hk hok hx hclean hfetches hdone hcheck hsrc conflicts hstart hdst hmaps,
    fun hstart hdst => gather_within hk hok hx hclean hfetches hdone hcheck hsrc hstart hdst,
    fun hstart hdst hadd => scatter_within hk hok hx hclean hfetches hdone hcheck hsrc hstart hdst hadd⟩

end Sys2Proof.Machine
end

section
/-! PROOFS. Operations on windows of the package (R148, R156, R157, R485); O26. -/

namespace Sys2Proof.Machine

/-! ### Window operations -/

section Windows

variable {k : Pkg} {slot index off va y size op compare operand : Nat} {old : Bool} {w : Window} {r : Requester}

/-- R485: an operation on a window that allows it combines the old value with its operand, and returns the old value. -/
theorem Pkg.winAtomic_combines (hcheck : k.windowCheck slot index off size 4 = .ok (w, va)) (hmaps : k.maps slot va size r (.atomic old) y = true) :
    k.Wrote y (leBytes size (atomicNew op size (leNat (Memory.readBytes k.hbm y size)) compare operand))
        (k.winAtomic slot index off size op compare operand old r).1 ∧
      (k.winAtomic slot index off size op compare operand old r).2 = .ok (leNat (Memory.readBytes k.hbm y size)) := by
  obtain ⟨hframe, hnone, hagain⟩ := Pkg.xcheck_of_maps hmaps 0
  obtain ⟨hframe', hread⟩ := Pkg.xread_of_maps hagain 0
  have hlast := Pkg.maps_after_xread hagain 0 (Nat.le_refl size)
  rw [hframe.hbm] at hread
  obtain ⟨hwrote, hdone⟩ := Pkg.xwrite_of_maps (bs := leBytes size (atomicNew op size (leNat (Memory.readBytes k.hbm y size)) compare operand))
    (by rw [leBytes_length]; exact hlast) 0
  have run : k.winAtomic slot index off size op compare operand old r =
      ((((k.xcheck slot r (.atomic old) 2 va size).1.xread slot r (.atomic old) 2 va size).1.xwrite slot r (.atomic old) 2 va
        (leBytes size (atomicNew op size (leNat (Memory.readBytes k.hbm y size)) compare operand))).1, .ok (leNat (Memory.readBytes k.hbm y size))) := by
    unfold Pkg.winAtomic
    rw [hcheck]
    dsimp only
    rw [show k.xcheck slot r (.atomic old) 2 va size = (_, none) from Prod.ext rfl hnone]
    dsimp only
    rw [show (k.xcheck slot r (.atomic old) 2 va size).1.xread slot r (.atomic old) 2 va size = (_, Memory.readBytes k.hbm y size, none) from Prod.ext rfl hread]
    dsimp only
    rw [show ((k.xcheck slot r (.atomic old) 2 va size).1.xread slot r (.atomic old) 2 va size).1.xwrite slot r (.atomic old) 2 va
        (leBytes size (atomicNew op size (leNat (Memory.readBytes k.hbm y size)) compare operand)) = (_, none) from Prod.ext rfl hdone]
  rw [run]
  exact ⟨(hwrote.after hframe').after hframe, rfl⟩

end Windows

theorem Pkg.Wrote.cores {k j : Pkg} {x : Nat} {bs : Bytes} (h : k.Wrote x bs j) : j.cores = k.cores := by
  obtain ⟨bad, h⟩ := h
  exact h.cores

theorem Pkg.Wrote.fab {k j : Pkg} {x : Nat} {bs : Bytes} (h : k.Wrote x bs j) : j.fab = k.fab := by
  obtain ⟨bad, h⟩ := h
  exact h.fab

section Commands

variable {s : State} {p : PkgId} {core : CoreId} {t₀ : Nat} {x : Cmd} {w : Window} {va y : Nat} {k : Pkg} (hk : k = (s.pkg p).at t₀)
  (hx : k.cmd core x.num = some x) (hok : statusOk x.status = true) (hdone : k.fab.done = [])

theorem Pkg.targetOf_own (k : Pkg) {v : Nat} (h : v = 2 ^ 31) : k.targetOf v = k.target := by
  subst h
  exact if_pos (by decide)

/-- R148: RESULT receives the old value where the command asks for it. -/
theorem Pkg.putOld_shows (k : Pkg) {c : Nat} (hc : c < 64) (x : Cmd) (old : Nat) : (k.putOld c x old).hbm = k.hbm ∧ (k.putOld c x old).fab = k.fab ∧
    (k.putOld c x old).play c = k.play c ∧ ((k.putOld c x old).core c).ls =
      if x.flag 6 then Memory.writeBytes (k.core c).ls (bits (x.f 32 8) 25 0) (leBytes (x.f 31 1) old) else (k.core c).ls := by
  unfold Pkg.putOld
  split
  · obtain ⟨hls, hplay⟩ := (k.addWrap (F.CORE_MOV_BYTES c) (x.f 31 1)).ls_lsStore hc
      (Memory.writeBytes (k.core c).ls (bits (x.f 32 8) 25 0) (leBytes (x.f 31 1) old)) ((List.range (x.f 31 1)).map (fun i => bits (x.f 32 8) 25 0 + i))
    exact ⟨rfl, rfl, hplay, hls⟩
  · exact ⟨rfl, rfl, rfl, rfl⟩

include hk hx hok hdone

theorem windowOp_combines {old : Nat} (hstart : k.started core 0x32 = some x) (hcheck : k.windowOpCheck x = none) (htarget : x.f 24 4 = 2 ^ 31)
    (hwindow : k.windowCheck (k.coreSlot core) (addrWin (x.f 16 8)) (addrOff (x.f 16 8)) (x.f 31 1) 4 = .ok (w, va))
    (hmaps : k.maps (k.coreSlot core) va (x.f 31 1) (.ownWindow core) (.atomic (x.flag 6)) y = true) (hold : old = leNat (Memory.readBytes k.hbm y (x.f 31 1))) :
    Completes (.windowOp p core t₀) s (fun t =>
      ((t.pkg p).cmd core x.num).map (fun z => (z.status, z.phase, z.released)) = some (x.status, .done, true) ∧
      (t.pkg p).hbm = Memory.writeBytes k.hbm y (leBytes (x.f 31 1)
        (atomicNew (x.f 30 1) (x.f 31 1) old (x.f 40 8) (if x.f 30 1 = 2 then x.f 48 8 else x.f 48 16))) ∧
      ((t.pkg p).core core).ls = (if x.flag 6 then Memory.writeBytes (k.core core).ls (bits (x.f 32 8) 25 0) (leBytes (x.f 31 1) old)
        else (k.core core).ls)) := by
  obtain ⟨hwrote, hanswer⟩ := Pkg.winAtomic_combines (op := x.f 30 1) (compare := x.f 40 8) (operand := if x.f 30 1 = 2 then x.f 48 8 else x.f 48 16) hwindow hmaps
  rw [← hold] at hwrote hanswer
  obtain ⟨j, hj⟩ : ∃ j, (k.winAtomic (k.coreSlot core) (addrWin (x.f 16 8)) (addrOff (x.f 16 8)) (x.f 31 1) (x.f 30 1) (x.f 40 8)
    (if x.f 30 1 = 2 then x.f 48 8 else x.f 48 16) (x.flag 6) (.ownWindow core)).1 = j := ⟨_, rfl⟩
  rw [hj] at hwrote
  have run : k.windowOp core x = (j.putOld core x old).updCmd core x.num (fun y => y.ended none) := by
    unfold Pkg.windowOp
    rw [hcheck]
    dsimp only
    rw [if_pos (k.targetOf_own htarget), show k.winAtomic (k.coreSlot core) (addrWin (x.f 16 8)) (addrOff (x.f 16 8)) (x.f 31 1) (x.f 30 1) (x.f 40 8)
      (if x.f 30 1 = 2 then x.f 48 8 else x.f 48 16) (x.flag 6) (.ownWindow core) = (j, .ok old) from Prod.ext hj hanswer]
    rfl
  have hcore := Pkg.core_congr hwrote.cores core
  obtain ⟨hhbm, hfab, hplay, hls⟩ := j.putOld_shows core.isLt x old
  have cmd : ((j.putOld core x old).updCmd core x.num (fun y => y.ended none)).cmd core x.num = some (x.ended none) := by
    rw [Pkg.cmd_updCmd _ core.isLt _ (fun y => y.ended_num none), Pkg.cmd_congr (hplay.trans (congrArg Core.play hcore)), hx]
    rfl
  have ended : ((j.putOld core x old).updCmd core x.num (fun y => y.ended none)).Ended core x := by
    unfold Pkg.Ended
    rw [cmd]
    rfl
  refine completes_of_updPkg_eq (j := (j.putOld core x old).updCmd core x.num (fun y => y.ended none)) rfl ?_ fun t ht => ?_
  · rw [← hk, Pkg.onStarted_of_started hstart, run, Pkg.moved_settles hok ended]
    show (j.putOld core x old).fab.done = []
    rw [hfab, hwrote.fab, hdone]
  · rw [ht, cmd, Pkg.ls_updCmd _ core.isLt]
    refine ⟨rfl, hhbm.trans hwrote.hbm, hls.trans ?_⟩
    rw [hcore]

/-! ### Stripes (R156, R157) -/

omit hk hx hok hdone in
/-- The bytes of an output line of a TILE GEMM. -/
def Pkg.lineAt (k : Pkg) (c : Nat) (o : Tensor) (ix : List Nat) : Bytes :=
  (List.range o.d.lineBytes).map (fun i => Memory.read (k.core c).ls (swizzle o.d.sel (o.d.lineAt o.data ix + i)))

omit hk hx hok hdone in
/-- What the core does first: the stripe is counted, with its bytes. -/
def Pkg.stripeTaken (k : Pkg) (c : Nat) (x : Cmd) (n : Nat) : Pkg :=
  (k.updCmd c x.num (fun y => { y with stripes := 1, released := true })).addWrap (F.CORE_MOV_BYTES c) n

omit hk hx hok hdone in
/-- The counting leaves the store, and what translates for it. -/
theorem Pkg.stripeTaken_shows {c : Nat} (hc : c < 64) (n : Nat) :
    Alike (fun o => o < 0x1000000) k (k.stripeTaken c x n) ∧ (k.stripeTaken c x n).windows = k.windows ∧ (k.stripeTaken c x n).fab = k.fab ∧
      ((k.stripeTaken c x n).core c).ls = (k.core c).ls ∧
      (k.stripeTaken c x n).cmd c x.num = (k.cmd c x.num).map (fun y => { y with stripes := 1, released := true }) :=
  have counted : Alike (fun o => o < 0x1000000) (k.updCmd c x.num (fun y => { y with stripes := 1, released := true })) (k.stripeTaken c x n) :=
    Pkg.alike_addWrap _ n (show 0x1000000 ≤ 0x1000148 + 0x40000 * c by omega)
  ⟨⟨rfl, rfl, rfl, rfl, counted.cells⟩, rfl, rfl, k.ls_updCmd hc _ _, k.cmd_updCmd hc _ fun _ => rfl⟩

omit hk hx hok hdone in
theorem Pkg.sendStripe_writes {tile : Bytes} (hstripes : x.stripes = 0) (hrows : x.f 48 2 = 1) (hword : x.tile = some tile)
    (htarget : fieldAt tile 24 4 = 2 ^ 31) (hreduce : fieldAt tile 36 1 = 0)
    (hwindow : k.windowCheck (k.coreSlot core) (addrWin (fieldAt tile 16 8)) (addrOff (fieldAt tile 16 8)) (k.operand core x 32).d.lineBytes 2 = .ok (w, va))
    (hmaps : k.maps (k.coreSlot core) va (k.operand core x 32).d.lineBytes (.ownWindow core) .write y = true) :
    (k.stripeTaken core x (1 * (k.operand core x 32).d.lineBytes)).Wrote y (k.lineAt core (k.operand core x 32) [0, 0, 0, 0, 0, 0]) (k.sendStripe core x) := by
  obtain ⟨j, hj⟩ : ∃ j, j = k.stripeTaken core x (1 * (k.operand core x 32).d.lineBytes) := ⟨_, rfl⟩
  obtain ⟨halike, hwindows, -, hls, -⟩ := k.stripeTaken_shows (x := x) core.isLt (1 * (k.operand core x 32).d.lineBytes)
  rw [← hj] at halike hwindows hls ⊢
  have length : (k.lineAt core (k.operand core x 32) [0, 0, 0, 0, 0, 0]).length = (k.operand core x 32).d.lineBytes := by
    rw [Pkg.lineAt, List.length_map, List.length_range]
  have line : j.lineAt core (k.operand core x 32) [0, 0, 0, 0, 0, 0] = k.lineAt core (k.operand core x 32) [0, 0, 0, 0, 0, 0] := by
    unfold Pkg.lineAt
    rw [hls]
  have htarget' : k.target = j.target := by
    unfold Pkg.target Pkg.rack Pkg.id
    rw [hj, Pkg.stripeTaken, Pkg.getF_addWrap_apart _ _ _ _ (Fld.apart_of_off (by simp only [F.CORE_MOV_BYTES, F.GLB_RACK_ID]; omega))]
    rfl
  have check : j.windowCheck (k.coreSlot core) (addrWin (fieldAt tile 16 8)) (addrOff (fieldAt tile 16 8))
      (k.lineAt core (k.operand core x 32) [0, 0, 0, 0, 0, 0]).length 2 = .ok (w, va) := by
    rw [length, ← hwindow]
    unfold Pkg.windowCheck Pkg.window
    rw [hwindows]
  obtain ⟨hwrote, hnone⟩ := Pkg.winPut_writes check (by rw [length]; exact halike.maps_below (k.coreSlot_lt core) hmaps)
  have run : k.sendStripe core x = (j.winPut (k.coreSlot core) (addrWin (fieldAt tile 16 8)) (addrOff (fieldAt tile 16 8)) (.ownWindow core)
      (k.lineAt core (k.operand core x 32) [0, 0, 0, 0, 0, 0]) []).1 := by
    unfold Pkg.sendStripe
    rw [hword, hstripes, hrows]
    dsimp only [Option.getD_some]
    rw [k.targetOf_own htarget, hreduce, show (List.range (min 32 (1 - 32 * 0))).map (fun r => 32 * 0 + r) = [0] from rfl, List.foldl_cons, List.foldl_nil]
    rw [show (k.updCmd core x.num (fun y => { y with stripes := 0 + 1, released := decide ((1 + 31) / 32 ≤ 0 + 1) })).addWrap (F.CORE_MOV_BYTES core)
      ([0].length * (k.operand core x 32).d.lineBytes) = j from hj.symm, if_pos htarget', if_neg (by decide), Nat.zero_mul, Nat.add_zero]
    rw [show (List.range (k.operand core x 32).d.lineBytes).map (fun i => Memory.read (j.core core).ls
        (swizzle (k.operand core x 32).d.sel ((k.operand core x 32).d.lineAt (k.operand core x 32).data [0, 0, 0, 0, 0, 0] + i))) = _ from line,
      show j.winPut (k.coreSlot core) (addrWin (fieldAt tile 16 8)) (addrOff (fieldAt tile 16 8)) (.ownWindow core)
        (k.lineAt core (k.operand core x 32) [0, 0, 0, 0, 0, 0]) [] = (_, none) from Prod.ext rfl hnone]
  rw [run]
  exact hwrote

theorem tileStripe_writes {tile : Bytes} {pl : Play} (hplay : k.play core = some pl) (hcmds : pl.cmds = [x]) (hop : x.op = 0x01) (htile : x.isTile = true)
    (hphase : x.phase = .done) (hstripes : x.stripes = 0) (hrows : x.f 48 2 = 1) (hword : x.tile = some tile) (htarget : fieldAt tile 24 4 = 2 ^ 31)
    (hreduce : fieldAt tile 36 1 = 0)
    (hwindow : k.windowCheck (k.coreSlot core) (addrWin (fieldAt tile 16 8)) (addrOff (fieldAt tile 16 8)) (k.operand core x 32).d.lineBytes 2 = .ok (w, va))
    (hmaps : k.maps (k.coreSlot core) va (k.operand core x 32).d.lineBytes (.ownWindow core) .write y = true) :
    Completes (.tileStripeSend p core t₀) s (fun t =>
      ((t.pkg p).cmd core x.num).map (fun z => (z.status, z.stripes, z.released)) = some (x.status, 1, true) ∧
      (t.pkg p).hbm = Memory.writeBytes k.hbm y (k.lineAt core (k.operand core x 32) [0, 0, 0, 0, 0, 0])) := by
  obtain ⟨halike, -, hfab, -, hcmd⟩ := k.stripeTaken_shows (x := x) core.isLt (1 * (k.operand core x 32).d.lineBytes)
  have hwrote := Pkg.sendStripe_writes (k := k) (core := core) hstripes hrows hword htarget hreduce hwindow hmaps
  have cmd : (k.sendStripe core x).cmd core x.num = some { x with stripes := 1, released := true } := by
    rw [Pkg.cmd_congr (congrArg Core.play (Pkg.core_congr hwrote.cores core)), hcmd, hx]
    rfl
  have ended : (k.sendStripe core x).Ended core x := by
    unfold Pkg.Ended
    rw [cmd, ← hphase]
    rfl
  have found : (k.play core).bind (fun pl => pl.cmds.find? (fun x => x.op == 0x01 && x.isTile && x.phase == .done
      && decide (x.stripes < x.stripeCount) && statusOk x.status)) = some x := by
    rw [hplay, Option.bind_some, hcmds, List.find?_singleton]
    refine if_pos ?_
    rw [hop, htile, hphase, hok, hstripes, Cmd.stripeCount, hrows]
    rfl
  refine completes_of_updPkg_eq (j := k.sendStripe core x) rfl ?_ fun t ht => ?_
  · dsimp only
    rw [← hk, found]
    exact Pkg.moved_settles hok ended (by rw [hwrote.fab, hfab, hdone])
  · rw [ht, cmd]
    exact ⟨rfl, hwrote.hbm.trans (congrArg (fun m => Memory.writeBytes m y _) halike.hbm)⟩

end Commands

/-- Settles O26. -/
theorem windowsAreOperatedOn : Obligations.WindowsAreOperatedOn := by
  intro s p core t₀ x w va y
  obtain ⟨k, hk⟩ : ∃ k, k = (s.pkg p).at t₀ := ⟨_, rfl⟩
  rw [← hk]
  intro k' slot hx hok hdone
  exact ⟨fun old hstart hcheck htarget hwindow hmaps hold => windowOp_combines hk hx hok hdone hstart hcheck htarget hwindow hmaps hold,
    fun tile pl hplay hcmds hop htile hphase hstripes hrows hword htarget hreduce hwindow hmaps =>
      tileStripe_writes hk hx hok hdone hplay hcmds hop htile hphase hstripes hrows hword htarget hreduce hwindow hmaps⟩

end Sys2Proof.Machine
end

section
/-! PROOFS. Packets that act on the cores of a package (R137, R141, R142, R161, R485). -/

namespace Sys2Proof.Machine

/-! ### What the fabric's own steps leave -/

namespace FabOnly

variable {k j : Pkg}

theorem sems (h : FabOnly k j) : j.sems = k.sems := by obtain ⟨⟨r, f, w, rfl⟩, -⟩ := h; rfl
theorem bring (h : FabOnly k j) : j.bring = k.bring := by obtain ⟨⟨r, f, w, rfl⟩, -⟩ := h; rfl
theorem coreDown (h : FabOnly k j) : j.coreDown = k.coreDown := by obtain ⟨⟨r, f, w, rfl⟩, -⟩ := h; rfl
theorem drains (h : FabOnly k j) : j.drains = k.drains := by obtain ⟨⟨r, f, w, rfl⟩, -⟩ := h; rfl

theorem sem (h : FabOnly k j) (slot sem : Nat) : j.sem slot sem = k.sem slot sem := by
  unfold Pkg.sem
  rw [h.sems]

theorem play (h : FabOnly k j) (c : Nat) : j.play c = k.play c := congrArg Core.play (Pkg.core_congr h.cores c)

theorem slotHeld (h : FabOnly k j) (slot : Nat) : j.slotHeld slot = k.slotHeld slot := by
  unfold Pkg.slotHeld
  rw [h.getF F.LUP_SLOTS (.inl (by decide))]

theorem clusterSlot (h : FabOnly k j) (cl : Nat) : j.clusterSlot cl = k.clusterSlot cl := by
  unfold Pkg.clusterSlot
  refine List.find?_congr fun s hs => ?_
  rw [h.slotHeld, h.getF (F.LUP_PART_CLUSTERS s) (.inl (by have := List.mem_range.mp hs; simp only [F.LUP_PART_CLUSTERS]; omega))]

theorem coreSlot (h : FabOnly k j) (c : Nat) : j.coreSlot c = k.coreSlot c := by
  unfold Pkg.coreSlot
  rw [h.clusterSlot]

theorem coreDraining (h : FabOnly k j) (c : Nat) : j.coreDraining c = k.coreDraining c := by
  unfold Pkg.coreDraining
  rw [h.drains]
  congr 1
  funext d
  unfold Pkg.scopeHasCore
  rw [h.clusterSlot]

theorem physOf (h : FabOnly k j) {l : Nat} (hl : l < 4096) : j.physOf l = k.physOf l := by
  unfold Pkg.physOf Pkg.logicalCores Pkg.flag
  rw [h.bring, h.getF F.GLB_SPARE_POLICY (.inl (by decide)), h.getF (F.GLB_ME_VACANT l) (.inl (by simp only [F.GLB_ME_VACANT]; omega)),
    h.getF (F.GLB_ME_PHYS l) (.inl (by simp only [F.GLB_ME_PHYS]; omega))]

end FabOnly

/-! ### The start of a play (R137, R141) -/

theorem Fld.showFree_play (c : Nat) : (F.CORE_SEQ_PLAY c).showFree c := by
  constructor <;> exact Fld.apart_of_off (by
    simp only [F.CORE_SEQ_PLAY, F.CORE_SEQ_RUN, F.CORE_SEQ_LOOPS, F.CORE_SEQ_OLDEST, F.CORE_MOV_NOW, F.CORE_MOV_PEAK, F.CORE_SEQ_SHOT_NOW]; omega)

theorem Fld.showFree_errValid (c : Nat) : (F.CORE_SEQ_ERR_VALID c).showFree c := by
  constructor <;> exact Fld.apart_of_off (by
    simp only [F.CORE_SEQ_ERR_VALID, F.CORE_SEQ_RUN, F.CORE_SEQ_LOOPS, F.CORE_SEQ_OLDEST, F.CORE_MOV_NOW, F.CORE_MOV_PEAK, F.CORE_SEQ_SHOT_NOW]; omega)

/-- A field reads the same where only its cell's neighbours are dropped. -/
theorem Pkg.getF_keep (k : Pkg) (f : Fld) (P : Nat → Bool) (h : P f.off = true) : ({ k with regs := Sparse.keep k.regs P } : Pkg).getF f = k.getF f := by
  unfold Pkg.getF Pkg.cell
  rw [Sparse.get_keep, if_pos h]

/-- A dropped cell reads its reset value. -/
theorem Pkg.getF_dropped (k : Pkg) (f : Fld) (P : Nat → Bool) (h : P f.off = false) :
    ({ k with regs := Sparse.keep k.regs P } : Pkg).getF f = wordField (cellReset f.off) f.lo f.width := by
  unfold Pkg.getF Pkg.cell
  rw [Sparse.get_keep, if_neg (Bool.not_eq_true _ ▸ h)]

theorem kept_outside {a b o : Nat} (h : o < a ∨ b ≤ o) : (!(decide (a ≤ o) && decide (o < b))) = true := by
  rw [Bool.not_eq_true', Bool.and_eq_false_iff, decide_eq_false_iff_not, decide_eq_false_iff_not]
  omega

theorem dropped_inside {a b o : Nat} (ha : a ≤ o) (hb : o < b) : (!(decide (a ≤ o) && decide (o < b))) = false := by
  rw [decide_eq_true ha, decide_eq_true hb]
  rfl

/-- R130: no error of a core is recorded after its reset. -/
theorem errValid_reset (c : Fin 64) : wordField (cellReset (F.CORE_SEQ_ERR_VALID c).off) 63 1 = 0 := by
  revert c
  decide +kernel

/-- The play that a start opens. -/
def Pkg.newPlay (k : Pkg) (c addr : Nat) : Play := { addr := addr, shotBase := k.now, draining := k.coreDraining c }

/-- The play is opened at its address, with no semaphore, result or error of the play before it. -/
def Pkg.playOpened (k : Pkg) (c addr : Nat) : Pkg :=
  let k := k.updCore c (fun x => { x with play := some (k.newPlay c addr) })
  let k := { k with regs := Sparse.keep k.regs (fun o => !(decide (0x1000000 + c * 0x40000 + 0x1000 ≤ o) && decide (o < 0x1000000 + c * 0x40000 + 0x5000))) }
  let k := (k.setF (F.CORE_SEQ_PLAY c) addr).setF (F.CORE_SEQ_NEXT c) 0
  { k with regs := Sparse.keep k.regs (fun o => !(decide (0x1000000 + c * 0x40000 + 0x118 ≤ o) && decide (o < 0x1000000 + c * 0x40000 + 0x128))) }

theorem Pkg.play_playOpened (k : Pkg) (c : Fin 64) (addr : Nat) : (k.playOpened c addr).play c = some (k.newPlay c addr) := by
  show ((k.updCore c (fun x => { x with play := some (k.newPlay c addr) })).core c).play = _
  rw [Pkg.core_updCore, if_pos ⟨rfl, c.isLt⟩]

theorem Pkg.getF_playOpened (k : Pkg) (c : Fin 64) {addr : Nat} (haddr : addr < 2 ^ 64) : (k.playOpened c addr).getF (F.CORE_SEQ_PLAY c) = addr ∧
    (k.playOpened c addr).getF (F.CORE_SEQ_NEXT c) = 0 ∧ (k.playOpened c addr).getF (F.CORE_SEQ_ERR_VALID c) = 0 := by
  unfold Pkg.playOpened
  dsimp only
  refine ⟨?_, ?_, ?_⟩
  · rw [Pkg.getF_keep _ _ _ (kept_outside (by simp only [F.CORE_SEQ_PLAY]; omega)), Pkg.getF_setF_apart _ _ _ _ (Fld.apart_of_off (by simp only [F.CORE_SEQ_PLAY, F.CORE_SEQ_NEXT]; omega)),
      Pkg.getF_setF_same _ _ _ rfl]
    exact Nat.mod_eq_of_lt haddr
  · rw [Pkg.getF_keep _ _ _ (kept_outside (by simp only [F.CORE_SEQ_NEXT]; omega)), Pkg.getF_setF_same _ _ _ rfl]
    rfl
  · rw [Pkg.getF_dropped _ _ _ (dropped_inside (by simp only [F.CORE_SEQ_ERR_VALID]; omega) (by simp only [F.CORE_SEQ_ERR_VALID]; omega))]
    exact errValid_reset c

theorem Pkg.startPlay_opens {k : Pkg} {slot logical addr : Nat} {core : CoreId} (hmapped : k.bring.mapped = true) (hcool : k.getF F.THM_LEVEL ≠ 3)
    (hspace : addrSpace addr = 0 ∨ addrSpace addr = 1) (hreserved : addrReserved (leBytes 8 addr) 0 .addr = false) (halign : addrBase addr % 64 = 0)
    (hphys : k.physOf logical = some core.val) (hslot : k.clusterSlot (core / 16) = some slot) (hup : k.coreDown.contains core.val = false)
    (hstate : k.getF (F.CORE_STATE core) = 3) (hidle : k.play core = none) (haddr : addr < 2 ^ 64) :
    (k.startPlay slot logical addr).1.play core = some (k.newPlay core addr) ∧ (k.startPlay slot logical addr).1.getF (F.CORE_SEQ_PLAY core) = addr ∧
      (k.startPlay slot logical addr).1.getF (F.CORE_SEQ_NEXT core) = 0 ∧ (k.startPlay slot logical addr).1.getF (F.CORE_SEQ_ERR_VALID core) = 0 := by
  have held : k.coreSlot core = slot := by
    unfold Pkg.coreSlot
    rw [hslot]
    rfl
  have good : ¬ (addrSpace addr ≠ 0 ∧ addrSpace addr ≠ 1 ∨ addrReserved (leBytes 8 addr) 0 .addr = true ∨ addrBase addr % 64 ≠ 0) := by
    rw [hreserved, halign]
    rintro (⟨hl, hv⟩ | h | h)
    · exact hspace.elim hl hv
    · exact absurd h (by decide)
    · exact h rfl
  have run : (k.startPlay slot logical addr).1 = (k.playOpened core addr).showSeq core := by
    unfold Pkg.startPlay
    dsimp only
    rw [hmapped, hphys, if_neg (by decide)]
    dsimp only
    rw [held, hslot, hup, if_neg (by simp), if_neg (by decide), if_neg good, if_neg hcool, hstate, hidle, if_neg (by simp)]
    rfl
  obtain ⟨hshown, hnext, hvalid⟩ := k.getF_playOpened core haddr
  rw [run]
  refine ⟨(congrArg Core.play (Pkg.core_congr (Pkg.showSeq_cores _ _) core)).trans (k.play_playOpened core addr), ?_, ?_, ?_⟩
  · rw [Pkg.getF_showSeq _ (Fld.showFree_play core), hshown]
  · rw [Pkg.getF_showSeq _ (Fld.showFree_next core), hnext]
  · rw [Pkg.getF_showSeq _ (Fld.showFree_errValid core), hvalid]

theorem Pkg.startPlay_hot {k : Pkg} (hhot : k.getF F.THM_LEVEL = 3) (slot logical addr : Nat) : (k.startPlay slot logical addr).1.cores = k.cores := by
  unfold Pkg.startPlay
  dsimp only
  split
  · rfl
  split
  · rfl
  split
  · rfl
  split
  · rfl
  · split
    · rfl
    · rfl

/-! ### The commands -/

section Commands

variable {s : State} {p : PkgId} {pkt : Packet} {t₀ : Nat} {k : Pkg} (hk : k = (s.pkg p).at t₀)
include hk

/-- An accepted packet has its effect between steps of the fabric. -/
theorem completes_of_sequenced {i : Instr} {effect : Pkg → Pkg × Status × Option Nat} {post : State → Prop} (haccepts : k.accepts pkt = true)
    (hexec : exec i s = .next (s.updPkg p (fun k => (k.at t₀).sequenced pkt effect)))
    (h : ∀ j, FabOnly k j → ∀ t : State, FabOnly (effect j).1 (t.pkg p) → post t) : Completes i s post := by
  refine ⟨_, hexec, h _ (k.claimed_frame pkt) _ ?_⟩
  rw [State.pkg_updPkg_same, ← hk]
  exact Pkg.sequenced_ends haccepts effect

theorem semPostPacket_adds (haccepts : k.accepts pkt = true) (hsem : fieldAt pkt.body 0 2 ≤ 4095) :
    Completes (.semPostPacket p pkt t₀) s (fun t => (t.pkg p).sem pkt.slot (fieldAt pkt.body 0 2) =
      (k.sem pkt.slot (fieldAt pkt.body 0 2) + fieldAt pkt.body 4 4) % 2 ^ 32) := by
  refine completes_of_sequenced hk haccepts rfl fun j hj t ends => ?_
  rw [ends.sem]
  dsimp only
  rw [if_neg (by omega), Pkg.sem_semAdd_same, hj.sem]

theorem playStart_opens {core : CoreId} {addr : Nat} (haccepts : k.accepts pkt = true) (hcool : k.getF F.THM_LEVEL ≠ 3) (hmapped : k.bring.mapped = true)
    (haddr : addr = fieldAt pkt.body 4 8) (hspace : addrSpace addr = 0 ∨ addrSpace addr = 1) (hreserved : addrReserved (leBytes 8 addr) 0 .addr = false)
    (halign : addrBase addr % 64 = 0) (hphys : k.physOf (fieldAt pkt.body 0 1) = some core.val) (hslot : k.clusterSlot (core / 16) = some pkt.slot)
    (hup : k.coreDown.contains core.val = false) (hstate : k.getF (F.CORE_STATE core) = 3) (hidle : k.play core = none) :
    Completes (.playStart p pkt t₀) s (fun t =>
      (t.pkg p).play core = some { addr := addr, shotBase := k.now, draining := k.coreDraining core } ∧
      (t.pkg p).getF (F.CORE_SEQ_PLAY core) = addr ∧ (t.pkg p).getF (F.CORE_SEQ_NEXT core) = 0 ∧ (t.pkg p).getF (F.CORE_SEQ_ERR_VALID core) = 0) := by
  refine completes_of_sequenced hk haccepts rfl fun j hj t ends => ?_
  rw [← haddr] at ends
  have bytes : fieldAt pkt.body 0 1 < 4096 := (fieldAt_lt_pow _ _ _).trans_le (by decide)
  obtain ⟨hplay, hshown, hnext, hvalid⟩ := Pkg.startPlay_opens (k := j) (slot := pkt.slot) (logical := fieldAt pkt.body 0 1) (addr := addr) (core := core)
    (by rw [hj.bring]; exact hmapped) (by rw [hj.getF _ (.inr (by decide))]; exact hcool) hspace hreserved halign (by rw [hj.physOf bytes]; exact hphys)
    (by rw [hj.clusterSlot]; exact hslot) (by rw [hj.coreDown]; exact hup)
    (by rw [hj.getF _ (.inr (by simp only [F.CORE_STATE]; omega))]; exact hstate) (by rw [hj.play]; exact hidle)
    (by rw [haddr]; exact fieldAt_lt_pow _ _ _)
  have opened : j.newPlay core addr = { addr := addr, shotBase := k.now, draining := k.coreDraining core } := by
    unfold Pkg.newPlay
    rw [hj.now, hj.coreDraining]
  refine ⟨(ends.play core).trans (hplay.trans (congrArg some opened)), (ends.getF _ (.inr ?_)).trans hshown, (ends.getF _ (.inr ?_)).trans hnext,
    (ends.getF _ (.inr ?_)).trans hvalid⟩
  · simp only [F.CORE_SEQ_PLAY]; omega
  · simp only [F.CORE_SEQ_NEXT]; omega
  · simp only [F.CORE_SEQ_ERR_VALID]; omega

theorem playStart_hot (haccepts : k.accepts pkt = true) (hhot : k.getF F.THM_LEVEL = 3) :
    Completes (.playStart p pkt t₀) s (fun t => (t.pkg p).cores = k.cores) := by
  refine completes_of_sequenced hk haccepts rfl fun j hj t ends => ends.cores.trans ?_
  exact (Pkg.startPlay_hot (by rw [hj.getF _ (.inr (by decide))]; exact hhot) _ _ _).trans hj.cores

theorem atomic_combines {w : Window} {va y size : Nat} (haccepts : k.accepts pkt = true) (hsize : size = fieldAt pkt.body 9 1)
    (hcheck : k.windowCheck pkt.slot (bits (fieldAt pkt.body 0 8) 55 44) (fieldAt pkt.body 0 8 % 2 ^ 44) size 4 = .ok (w, va))
    (hmaps : k.maps pkt.slot va size (.window pkt.src) (.atomic pkt.fetchOld) y = true) :
    Completes (.atomic p pkt t₀) s (fun t =>
      (t.pkg p).hbm = Memory.writeBytes k.hbm y (leBytes size (atomicNew (fieldAt pkt.body 8 1) size
        (leNat (Memory.readBytes k.hbm y size)) (fieldAt pkt.body 12 8) (fieldAt pkt.body 20 16)))) := by
  refine completes_of_sequenced hk haccepts rfl fun j hj t ends => ends.hbm.trans ?_
  obtain ⟨hwrote, hanswer⟩ := Pkg.winAtomic_combines (k := j) (op := fieldAt pkt.body 8 1) (compare := fieldAt pkt.body 12 8)
    (operand := fieldAt pkt.body 20 16) (by rw [hj.windowCheck]; exact hcheck) (hj.maps hmaps)
  dsimp only
  rw [← hsize, show j.winAtomic pkt.slot (bits (fieldAt pkt.body 0 8) 55 44) (fieldAt pkt.body 0 8 % 2 ^ 44) size (fieldAt pkt.body 8 1) (fieldAt pkt.body 12 8)
    (fieldAt pkt.body 20 16) pkt.fetchOld (.window pkt.src) = (_, .ok _) from Prod.ext rfl hanswer]
  dsimp only
  rw [hwrote.hbm, hj.hbm]

end Commands

end Sys2Proof.Machine
end

section
/-! PROOFS. Reads of window ranges and the data that returns (R446); O27. -/

namespace Sys2Proof.Machine

/-! ### A packet of the package to itself -/

theorem Pkg.send_loops {k : Pkg} {o : Outgoing} (hresponse : isResponseType o.pkt.type = true) (hseq : isSequencedType o.pkt.type = false)
    (hdst : o.pkt.dst = k.target) : ∃ a ∈ (k.send o).fab.arrived, a.pkt.type = o.pkt.type ∧ a.pkt.seq = o.pkt.seq ∧ a.pkt.addr = o.pkt.addr ∧
      a.pkt.body = o.pkt.body := by
  have now : k.send o = k.sendNow o := by
    unfold Pkg.send Pkg.maySend
    rw [hresponse]
    rfl
  rw [now]
  unfold Pkg.sendNow
  dsimp only
  rw [decide_eq_true hdst, hseq]
  unfold Pkg.launch
  exact ⟨_, List.mem_append_right _ (List.mem_singleton_self _), rfl, rfl, rfl, rfl⟩

theorem cutRun_whole {size : Nat} {bs : Bytes} (hne : bs ≠ []) (hlen : bs.length ≤ size) : cutRun size (bs.length + 1) 0 bs = [(0, bs)] := by
  have cons : bs.isEmpty = false := by rw [List.isEmpty_eq_false_iff]; exact hne
  have rest : cutRun size bs.length (0 + size) (bs.drop size) = [] := by
    rw [List.drop_eq_nil_of_le hlen]
    cases bs.length with
    | zero => rfl
    | succ n => rfl
  rw [cutRun, cons, rest, List.take_of_length_le hlen]
  rfl

/-! ### What a read returns (R446) -/

theorem Pkg.returnData_loops {k : Pkg} {req : Packet} {addr tag : Nat} {bs : Bytes} (hne : bs ≠ []) (hlen : bs.length ≤ 8192) (hsrc : req.src = k.target) :
    FabOnly k (k.returnData req addr tag bs) ∧ ∃ a ∈ (k.returnData req addr tag bs).fab.arrived, a.pkt.type = 0x12 ∧ a.pkt.seq = tag ∧
      a.pkt.addr = addr % 2 ^ 56 ∧ a.pkt.body.take bs.length = bs := by
  unfold Pkg.returnData
  dsimp only
  rw [cutRun_whole hne hlen, List.foldl_cons, List.foldl_nil]
  refine ⟨Pkg.send_frame _ _, ?_⟩
  obtain ⟨a, ha, htype, hseq, haddr, hbody⟩ := Pkg.send_loops (k := k) (o :=
    { pkt := { type := 0x12, len := (bs.length + 255) / 256 * 256 / 256 - 1
               stream := req.stream % 2 ^ 14 + ((bs.length + 255) / 256 * 256 / 64 - bs.length / 64) * 2 ^ 14
               dst := req.src, seq := tag, addr := (addr + 0) % 2 ^ 56
               body := bs ++ List.replicate ((bs.length + 255) / 256 * 256 - bs.length) 0 }
      sched := false, chan := 0, spread := 0, owner := .none, own := false }) rfl rfl hsrc
  exact ⟨a, ha, htype, hseq, haddr, by rw [hbody]; exact List.take_left⟩

theorem Pkg.take_sends (k : Pkg) (p : Packet) : (k.take p).fab.unacked = k.fab.unacked ∧ (k.take p).fab.held = k.fab.held ∧ (k.take p).fab.done = k.fab.done := by
  unfold Pkg.take
  split
  · unfold Pkg.freeArrived
    dsimp only
    split
    · exact ⟨rfl, rfl, rfl⟩
    · split <;> exact ⟨rfl, rfl, rfl⟩
  · exact ⟨rfl, rfl, rfl⟩

/-- The screen of a packet that passes sends and acknowledges nothing. -/
theorem Pkg.screen_sends {k : Pkg} {p : Packet} (h : (k.screen p).2 = true) : (k.screen p).1.fab.unacked = k.fab.unacked ∧
    (k.screen p).1.fab.held = k.fab.held ∧ (k.screen p).1.fab.done = k.fab.done := by
  rw [Pkg.screen_fab h]
  exact k.take_sends p

theorem FabOnly.target {k j : Pkg} (h : FabOnly k j) : j.target = k.target := by
  unfold Pkg.target
  rw [h.rack, h.id]

theorem XltOnly.target {k j : Pkg} (h : XltOnly k j) : j.target = k.target := by
  unfold Pkg.target Pkg.rack
  rw [h.getF F.GLB_RACK_ID (by decide), show j.id = k.id by obtain ⟨⟨r, x, ce, n, w, rfl⟩, -⟩ := h; rfl]

/-! ### Returned bytes in a command's view -/

/-- A run of 64-byte units of `bs`, written from `off` on. -/
def viewUnits (off : Nat) (bs : Bytes) (n : Nat) (v : Memory) : Memory :=
  ((List.range n).map (fun i => off + 64 * i)).foldl (fun v u => Memory.writeBytes v u ((bs.drop (u - off)).take 64)) v

theorem read_viewUnits {off n x : Nat} {bs : Bytes} {v : Memory} (hlen : 64 * n ≤ bs.length) (hlo : off ≤ x) (hhi : x < off + 64 * n) :
    (viewUnits off bs n v).read x = bs.getD (x - off) 0 := by
  induction n with
  | zero => omega
  | succ n ih =>
    have run : viewUnits off bs (n + 1) v = (viewUnits off bs n v).writeBytes (off + 64 * n) ((bs.drop (off + 64 * n - off)).take 64) := by
      unfold viewUnits
      rw [List.range_succ, List.map_append, List.foldl_append]
      rfl
    rw [run, Memory.read_writeBytes, List.length_take, List.length_drop]
    split
    · next h =>
      rw [List.getD_eq_getElem?_getD, List.getD_eq_getElem?_getD, List.getElem?_take_of_lt (by omega), List.getElem?_drop]
      congr 2
      omega
    · exact ih (by omega) (by omega)

theorem readBytes_viewUnits {off n : Nat} {bs : Bytes} (v : Memory) (hlen : bs.length = 64 * n) : (viewUnits off bs n v).readBytes off bs.length = bs := by
  refine List.ext_getElem (readBytes_length _ _ _) fun i hi hi' => ?_
  have value := readBytes_getD (viewUnits off bs n v) off hi'
  rw [read_viewUnits (by omega) (by omega) (by omega), Nat.add_sub_cancel_left] at value
  rwa [List.getD_eq_getElem _ _ hi, List.getD_eq_getElem _ _ hi'] at value

/-- The command that asked, when all it asked for has come. -/
def Cmd.fetched (x : Cmd) : Cmd := { x with fetches := [] }

/-- A command after the units of a READ_DATA packet. -/
def Cmd.returned (p : Packet) (y : Cmd) : Cmd :=
  let units := (List.range (p.payload.length / 64)).map (fun i => p.addr % 2 ^ 44 + 64 * i)
  let f := y.fetches.find? (fun f => f.tag == p.seq)
  let fresh := units.filter (fun u => match f with | some f => f.need.contains u | none => false)
  { y with
    view := fresh.foldl (fun v u => Memory.writeBytes v u ((p.payload.drop (u - p.addr % 2 ^ 44)).take 64)) y.view
    fetches := (y.fetches.map (fun f => if f.tag = p.seq then { f with need := f.need.filter (fun u => !units.contains u) } else f)).filter
      (fun f => !f.need.isEmpty) }

theorem Cmd.returned_whole {p : Packet} {x : Cmd}
    (hfetches : x.fetches = [{ tag := p.seq, target := p.src, need := (List.range (p.payload.length / 64)).map (fun i => p.addr % 2 ^ 44 + 64 * i) }]) :
    x.returned p = x.fetched.viewing (viewUnits (p.addr % 2 ^ 44) p.payload (p.payload.length / 64) x.view) := by
  unfold Cmd.returned
  dsimp only
  obtain ⟨units, hunits⟩ : ∃ units, (List.range (p.payload.length / 64)).map (fun i => p.addr % 2 ^ 44 + 64 * i) = units := ⟨_, rfl⟩
  have asked : units.filter (fun u => units.contains u) = units := List.filter_eq_self.mpr fun u hu => List.contains_iff_mem.mpr hu
  have left : units.filter (fun u => !units.contains u) = [] := List.filter_eq_nil_iff.mpr fun u hu => by
    rw [List.contains_iff_mem.mpr hu]
    decide
  rw [hunits] at hfetches ⊢
  have mine : List.find? (fun f : Fetch => f.tag == p.seq) [{ tag := p.seq, target := p.src, need := units }] =
      some { tag := p.seq, target := p.src, need := units } := List.find?_cons_of_pos (beq_self_eq_true _)
  rw [hfetches, mine, List.map_singleton, if_pos rfl]
  dsimp only
  rw [asked, left, ← hunits]
  rfl

theorem findSome_only {α : Type} {f : Nat → Option α} {n i : Nat} {v : α} (hi : i < n) (hv : f i = some v) (hothers : ∀ j, j < n → j ≠ i → f j = none) :
    (List.range n).findSome? f = some v := by
  cases h : (List.range n).findSome? f with
  | none => exact absurd (hv.symm.trans (List.findSome?_eq_none_iff.mp h i (List.mem_range.mpr hi))) (by simp)
  | some w =>
    obtain ⟨j, hj, hw⟩ := List.exists_of_findSome?_eq_some h
    have same : j = i := by
      by_contra hne
      rw [hothers j (List.mem_range.mp hj) hne] at hw
      exact nomatch hw
    rw [← hw, same, hv]

theorem Pkg.readReturned_lands {k : Pkg} {p : Packet} {c : CoreId} {pl : Play} {x : Cmd} (hdone : k.fab.done = [])
    (hothers : ∀ c' : CoreId, c' ≠ c → k.play c' = none) (hplay : k.play c = some pl) (hcmds : pl.cmds = [x]) (hop : x.op = 0x30)
    (hok : statusOk x.status = true) (hoff : p.addr % 2 ^ 44 = addrOff (x.f 16 8)) (hsrc : addrSpace (x.f 16 8) = 2) (hdst : addrSpace (x.f 24 8) = 0)
    (hlen : p.payload.length = x.f 32 4) (hunit : x.f 32 4 % 64 = 0) (hgood : bit p.info 0 = false)
    (hfetches : x.fetches = [{ tag := p.seq, target := p.src, need := (List.range (p.payload.length / 64)).map (fun i => p.addr % 2 ^ 44 + 64 * i) }]) :
    (k.readReturned p).Ended c x ∧ ((k.readReturned p).core c).ls = Memory.writeBytes (k.core c).ls (addrBase (x.f 24 8)) p.payload := by
  obtain ⟨j, hj⟩ : ∃ j, j = k.updCmd c x.num (fun y => y.returned p) := ⟨_, rfl⟩
  have whole := Cmd.returned_whole hfetches
  have hx : k.cmd c x.num = some x := by
    rw [Pkg.cmd_eq, hplay, Option.bind_some, hcmds, List.find?_singleton, if_pos (beq_self_eq_true _)]
  have hits : x.fetches.any (fun f => f.tag == p.seq && f.target == p.src) = true := by
    rw [hfetches]
    simp
  have hy : j.cmd c x.num = some (x.returned p) := by
    rw [hj, k.cmd_updCmd c.isLt _ (f := fun y => y.returned p) fun _ => rfl, hx]
    rfl
  have hls : (j.core c).ls = (k.core c).ls := by rw [hj, k.ls_updCmd c.isLt]
  have found : (List.range 64).findSome? (fun c => ((k.core c).play.map (fun pl =>
      (pl.cmds.find? (fun x => x.fetches.any (fun f => f.tag == p.seq && f.target == p.src))).map (fun x => (c, x)))).join) = some (c.val, x) := by
    refine findSome_only c.isLt ?_ fun c' hc' hne => ?_
    · rw [show (k.core c).play = some pl from hplay, Option.map_some, hcmds, List.find?_singleton, if_pos hits]
      rfl
    · rw [show (k.core c').play = none from hothers ⟨c', hc'⟩ fun h => hne (congrArg Fin.val h)]
      rfl
  have run : k.readReturned p = (j.placeAll c (x.returned p)).settleCmds := by
    unfold Pkg.readReturned
    dsimp only
    rw [found]
    dsimp only
    rw [hgood, if_neg (by decide)]
    generalize hj' : k.updCmd c x.num _ = j'
    rw [show j' = j from hj'.symm.trans hj.symm, hy]
    dsimp only
    rw [show (x.returned p).fetches.isEmpty = true by rw [whole]; rfl, show statusOk (x.returned p).status = true from hok]
    rfl
  have pieces : j.movePieces c x.fetched = [(addrBase (x.f 16 8), addrBase (x.f 24 8), x.f 32 4)] := if_pos hop
  have base : addrBase (x.f 16 8) = p.addr % 2 ^ 44 := by
    rw [hoff, addrBase, hsrc]
    rfl
  have view : Memory.readBytes (x.returned p).view (p.addr % 2 ^ 44) p.payload.length = p.payload := by
    rw [whole]
    exact readBytes_viewUnits _ (by omega)
  obtain ⟨hnone, hplaced⟩ := Pkg.placeSteps_local (x := x.returned p) c.isLt hdst (by simp [Cmd.add, show (x.returned p).op = 0x30 from hop])
    (j.movePieces c x.fetched) (j.placed_movedCounted c x.fetched)
  have placed := Pkg.placeAll_here (k := j) (c := c) (x := x.fetched) (show addrSpace (x.f 24 8) ≠ 2 by rw [hdst]; decide)
    (viewUnits (p.addr % 2 ^ 44) p.payload (p.payload.length / 64) x.view)
  rw [← whole, hnone] at placed
  have ended := Pkg.ended_of_placed (x := x.returned p) c.isLt hplaced.stored.2 hy
  have settled : k.readReturned p = ((((j.movePieces c x.fetched).foldl (Pkg.placeStep c (x.returned p)) (j.movedCounted c x.fetched, none)).1).updCmd c x.num
      (fun y => y.placed none)) := by
    rw [run, placed]
    refine Pkg.settleCmds_of_none (hplaced.done.trans ?_)
    rw [hj]
    exact hdone
  rw [settled]
  refine ⟨ended, (Pkg.ls_updCmd _ c.isLt _ _).trans (hplaced.stored.1.trans ?_)⟩
  rw [pieces, List.foldl_cons, List.foldl_nil, base, ← hlen, view, hls]

/-! ### The commands -/

section Commands

variable {s : State} {p : PkgId} {pkt : Packet} {t₀ : Nat} {k : Pkg} (hk : k = (s.pkg p).at t₀) (hscreen : (k.screen pkt).2 = true)
include hk hscreen

theorem readReq_returns {w : Window} {va y n : Nat} (habsorb : (k.screen pkt).1.absorbs pkt = false) (hn : n = fieldAt pkt.body 8 4) (hunit : n % 64 = 0)
    (hpos : 0 < n) (hmax : n ≤ 8192) (hsrc : pkt.src = k.target)
    (hcheck : k.windowCheck pkt.slot (bits (fieldAt pkt.body 0 8) 55 44) (fieldAt pkt.body 0 8 % 2 ^ 44) n 1 = .ok (w, va))
    (hmaps : k.maps pkt.slot va n (.window pkt.src) .read y = true) :
    Completes (.readReq p pkt t₀) s (fun t => (t.pkg p).hbm = k.hbm ∧
      ∃ a ∈ (t.pkg p).fab.arrived, a.pkt.type = 0x12 ∧ a.pkt.seq = fieldAt pkt.body 12 4 ∧
        a.pkt.addr = fieldAt pkt.body 0 8 % 2 ^ 56 ∧ a.pkt.body.take n = Memory.readBytes k.hbm y n) := by
  have hj := k.screen_frame pkt
  obtain ⟨j, hscreened⟩ : ∃ j, k.screen pkt = (j, true) := ⟨_, Prod.ext rfl hscreen⟩
  rw [hscreened] at hj habsorb
  obtain ⟨hframe, hread⟩ := Pkg.vread_of_maps rfl (hj.maps hmaps)
  have read : j.winRead pkt.slot (bits (fieldAt pkt.body 0 8) 55 44) (fieldAt pkt.body 0 8 % 2 ^ 44) n pkt.src =
      ((j.vread pkt.slot (.window pkt.src) va n).1, Memory.readBytes j.hbm y n, none) := by
    unfold Pkg.winRead
    rw [hj.windowCheck, hcheck]
    exact Prod.ext rfl hread
  have length : (Memory.readBytes j.hbm y n).length = n := readBytes_length _ _ _
  obtain ⟨hfab, a, ha, htype, hseq, haddr, hbody⟩ := Pkg.returnData_loops (k := (j.vread pkt.slot (.window pkt.src) va n).1) (req := pkt)
    (addr := fieldAt pkt.body 0 8) (tag := fieldAt pkt.body 12 4) (bs := Memory.readBytes j.hbm y n) (by rw [← List.length_pos_iff, length]; exact hpos)
    (by rw [length]; exact hmax) (by rw [hframe.target, hj.target]; exact hsrc)
  refine completes_of_updPkg_eq (j := (j.vread pkt.slot (.window pkt.src) va n).1.returnData pkt (fieldAt pkt.body 0 8) (fieldAt pkt.body 12 4)
    (Memory.readBytes j.hbm y n)) rfl ?_ fun t ht => ?_
  · dsimp only
    rw [← hk, hscreened]
    dsimp only
    rw [if_neg (by decide), habsorb, if_neg (by decide), ← hn, if_neg (by omega), read]
  · rw [ht]
    rw [length, hj.hbm] at hbody
    exact ⟨hfab.hbm.trans (hframe.hbm.trans hj.hbm), a, ha, htype, hseq, haddr, hbody⟩

theorem readData_lands {core : CoreId} {pl : Play} {x : Cmd} {units : List Nat} (hdone : k.fab.done = [])
    (hothers : ∀ c : CoreId, c ≠ core → k.play c = none) (hplay : k.play core = some pl) (hcmds : pl.cmds = [x]) (hop : x.op = 0x30)
    (hok : statusOk x.status = true) (hoff : pkt.addr % 2 ^ 44 = addrOff (x.f 16 8)) (hsrc : addrSpace (x.f 16 8) = 2) (hdst : addrSpace (x.f 24 8) = 0)
    (hlen : pkt.payload.length = x.f 32 4) (hunit : x.f 32 4 % 64 = 0) (hgood : bit pkt.info 0 = false)
    (hunits : units = (List.range (x.f 32 4 / 64)).map (fun i => pkt.addr % 2 ^ 44 + 64 * i))
    (hfetches : x.fetches = [{ tag := pkt.seq, target := pkt.src, need := units }]) :
    Completes (.readData p pkt t₀) s (fun t =>
      ((t.pkg p).cmd core x.num).map (fun z => (z.status, z.phase)) = some (x.status, .done) ∧
      ((t.pkg p).core core).ls = Memory.writeBytes (k.core core).ls (addrBase (x.f 24 8)) pkt.payload) := by
  have hj := k.screen_frame pkt
  have done := (Pkg.screen_sends hscreen).2.2
  obtain ⟨j, hscreened⟩ : ∃ j, k.screen pkt = (j, true) := ⟨_, Prod.ext rfl hscreen⟩
  rw [hscreened] at hj done
  obtain ⟨hended, hls⟩ := Pkg.readReturned_lands (k := j) (done.trans hdone) (fun c hc => (hj.play c).trans (hothers c hc)) ((hj.play core).trans hplay) hcmds hop
    hok hoff hsrc hdst hlen hunit hgood (by rw [hfetches, hunits, hlen])
  refine completes_of_updPkg_eq (j := j.readReturned pkt) rfl ?_ fun t ht => ?_
  · dsimp only
    rw [← hk, hscreened]
    rfl
  · rw [ht, hls, Pkg.core_congr hj.cores]
    exact ⟨hended, rfl⟩

end Commands

/-- Settles O27. -/
theorem packetsReachCores : Obligations.PacketsReachCores := by
  intro s p pkt t₀
  obtain ⟨k, hk⟩ : ∃ k, k = (s.pkg p).at t₀ := ⟨_, rfl⟩
  rw [← hk]
  exact ⟨fun haccepts hsem => semPostPacket_adds hk haccepts hsem,
    fun core haccepts hcool hmapped hspace hreserved halign hphys hslot hup hstate hidle =>
      playStart_opens hk haccepts hcool hmapped rfl hspace hreserved halign hphys hslot hup hstate hidle,
    fun haccepts hhot => playStart_hot hk haccepts hhot,
    fun w va y size haccepts hsize hcheck hmaps => atomic_combines hk haccepts hsize hcheck hmaps,
    fun w va y n hscreen habsorb hn hunit hpos hmax hsrc hcheck hmaps => readReq_returns hk hscreen habsorb hn hunit hpos hmax hsrc hcheck hmaps,
    fun core pl x units hscreen hdone hothers hplay hcmds hop hok hview hoff hsrc hdst hlen hunit hgood hunits hfetches =>
      readData_lands hk hscreen hdone hothers hplay hcmds hop hok hoff hsrc hdst hlen hunit hgood hunits hfetches⟩

end Sys2Proof.Machine
end

section
/-! PROOFS. Runs of calls: what hears, fails and ends them (R520–R523, R527, R533, R540–R545). -/

namespace Sys2Proof.Machine

/-! ### Runs -/

namespace FabOnly

variable {k j : Pkg}

theorem coll (h : FabOnly k j) : j.coll = k.coll := by obtain ⟨⟨r, f, w, rfl⟩, -⟩ := h; rfl
theorem capArrivals (h : FabOnly k j) : j.capArrivals = k.capArrivals := by obtain ⟨⟨r, f, w, rfl⟩, -⟩ := h; rfl
theorem barGen (h : FabOnly k j) : j.barGen = k.barGen := by obtain ⟨⟨r, f, w, rfl⟩, -⟩ := h; rfl

theorem run (h : FabOnly k j) (slot call : Nat) : j.run slot call = k.run slot call := by
  unfold Pkg.run
  rw [h.coll]

theorem firedOf (h : FabOnly k j) (slot call : Nat) : j.firedOf slot call = k.firedOf slot call := by
  unfold Pkg.firedOf
  rw [h.coll]

end FabOnly

section Runs

variable {k : Pkg} {slot call : Nat} {r : CallRun}

/-- A run found for a call is that call's. -/
theorem Pkg.run_of (h : k.run slot call = some r) : r.slot = slot ∧ r.call = call := by
  have found := List.find?_some h
  simpa using found

theorem Pkg.putRun_coll (k : Pkg) (r : CallRun) :
    (k.putRun r).coll = { k.coll with runs := r :: k.coll.runs.filter (fun x => !(x.slot == r.slot && x.call == r.call)) } := rfl

/-- A run put back is its call's. -/
theorem Pkg.run_putRun (k : Pkg) {slot call : Nat} {r : CallRun} (hslot : r.slot = slot) (hcall : r.call = call) : (k.putRun r).run slot call = some r := by
  unfold Pkg.run
  rw [Pkg.putRun_coll]
  refine List.find?_cons_of_pos ?_
  rw [hslot, hcall, beq_self_eq_true, beq_self_eq_true]
  rfl

theorem Pkg.firedOf_putRun (k : Pkg) (r : CallRun) (slot call : Nat) : (k.putRun r).firedOf slot call = k.firedOf slot call := rfl

theorem Pkg.sem_putRun (k : Pkg) (r : CallRun) (slot sem : Nat) : (k.putRun r).sem slot sem = k.sem slot sem := rfl

/-- R541: a call that has not failed fails with the status given. -/
theorem Pkg.failRun_shows (k : Pkg) {r : CallRun} (hok : r.status = 0) (st : Status) (byAbort : Bool) :
    (k.failRun r st byAbort).2.status = st ∧ (k.failRun r st byAbort).2.byAbort = byAbort ∧ (k.failRun r st byAbort).2.slot = r.slot ∧
      (k.failRun r st byAbort).2.call = r.call := by
  unfold Pkg.failRun
  rw [if_neg (by rw [hok]; decide)]
  cases byAbort <;> exact ⟨rfl, rfl, rfl, rfl⟩

/-- What a failed run put back shows. -/
theorem Pkg.run_failed (k j : Pkg) {slot call : Nat} {r : CallRun} (hok : r.status = 0) (hslot : r.slot = slot) (hcall : r.call = call) (st : Status)
    (byAbort : Bool) : ∃ r', (j.putRun (k.failRun r st byAbort).2).run slot call = some r' ∧ r'.status = st ∧ r'.byAbort = byAbort := by
  obtain ⟨hst, hby, hs, hc⟩ := k.failRun_shows hok st byAbort
  exact ⟨_, j.run_putRun (hs.trans hslot) (hc.trans hcall), hst, hby⟩

/-- R533: a JOIN of the right digest is heard; nothing waited for it. -/
theorem Pkg.hearJoin_heard (k : Pkg) {r : CallRun} (hok : r.status = 0) (hwaiting : r.waiting = []) (src : Nat) :
    k.hearJoin r src (cdDigest r.desc) = (k, { r with joined := src :: r.joined }) := by
  unfold Pkg.hearJoin
  rw [if_neg (by rw [hok]; decide), if_neg (fun h => h rfl), hwaiting]
  dsimp only [List.filter_nil, List.foldl_nil, List.length_nil, Nat.add_zero]

/-- R540: a JOIN of another digest fails the call. -/
theorem Pkg.hearJoin_mismatch (k : Pkg) {r : CallRun} (hok : r.status = 0) {src digest : Nat} (hne : digest ≠ cdDigest r.desc) :
    k.hearJoin r src digest = k.failRun r 0x3405 false := by
  unfold Pkg.hearJoin
  rw [if_neg (by rw [hok]; decide), if_pos hne]

theorem Pkg.callBarrierDone_places (hrun : k.run slot call = some r) (hok : r.status = 0) :
    k.callBarrierDone slot call r.inst 0 = k.putRun { r with placed := true } := by
  unfold Pkg.callBarrierDone
  rw [hrun]
  dsimp only
  rw [if_neg (by rw [hok]; simp)]
  rfl

theorem Pkg.callBarrierDone_fails (hrun : k.run slot call = some r) (hok : r.status = 0) {st : Status} (hst : st ≠ 0) :
    k.callBarrierDone slot call r.inst st = (k.failRun r st false).1.putRun (k.failRun r st false).2 := by
  unfold Pkg.callBarrierDone
  rw [hrun]
  dsimp only
  rw [if_neg (by rw [hok]; simp), if_neg hst]

end Runs

/-! ### The end of a call (R522, R523) -/

section Ends

variable {k : Pkg} {slot call : Nat} {r : CallRun}

/-- A report of OK only shows it. -/
theorem Pkg.report_ok (k : Pkg) (f : Fld) (u : UnitKind) (i x : Nat) : k.report f 0 u i x = k.setF f 0 := by
  unfold Pkg.report
  exact if_pos (by decide)

/-- The run is over, and its call's status shown. -/
def Pkg.runGone (k : Pkg) (slot call form : Nat) : Pkg :=
  ((({ k with coll := { k.coll with runs := k.coll.runs.filter (fun x => !(x.slot == slot && x.call == call)) } } : Pkg).showRuns slot).setF
    (F.COL_CS_STATUS slot call) 0).setF (F.COL_CS_FORM slot call) form

/-- The firing is counted. -/
def Pkg.callCounted (k : Pkg) (slot call form : Nat) : Pkg := ((k.runGone slot call form).addWrap (F.COL_CS_INSTANCES slot call) 1).inc (F.COL_COUNTS 0)

theorem Pkg.settleCalls_of_none (hdone : k.fab.done = []) (fuel : Nat) : k.settleCalls fuel = k := by
  cases fuel with
  | zero => rfl
  | succ n =>
    unfold Pkg.settleCalls
    rw [hdone]
    exact if_pos rfl

theorem Pkg.endRun_ends (hdone : k.fab.done = []) (hrun : k.run slot call = some r) (hout : r.out = 0) (hok : r.status = 0) (hplaced : r.placed = true) :
    ∃ j, (j = k.callCounted slot call r.form ∨ j = (k.callCounted slot call r.form).raise F.COL_EV_ABORT) ∧
      k.endRun slot call = (j.semAdd slot (cdDone r.desc) 1).refreshStage := by
  unfold Pkg.endRun
  rw [Pkg.settleCalls_of_none hdone]
  dsimp only
  rw [hrun]
  dsimp only
  rw [if_neg (by rw [hout, hok, hplaced]; simp), hok, if_pos rfl, if_pos rfl, if_pos rfl, Pkg.report_ok]
  cases r.byAbort with
  | false => exact ⟨_, .inl rfl, rfl⟩
  | true => exact ⟨_, .inr rfl, rfl⟩

theorem Pkg.run_runGone (k : Pkg) (slot call form : Nat) : (k.runGone slot call form).run slot call = none := by
  refine List.find?_eq_none.mpr fun x hx hmatch => ?_
  have kept := (List.mem_filter.mp hx).2
  rw [hmatch] at kept
  cases kept

theorem Pkg.getF_runGone (k : Pkg) {slot call : Nat} (form : Nat) {g : Fld} (hform : (F.COL_CS_FORM slot call).apart g = true)
    (hstatus : (F.COL_CS_STATUS slot call).apart g = true) (hrunning : (F.COL_RUNNING slot).apart g = true) :
    (k.runGone slot call form).getF g = k.getF g := by
  unfold Pkg.runGone Pkg.showRuns
  rw [Pkg.getF_setF_apart _ _ _ _ hform, Pkg.getF_setF_apart _ _ _ _ hstatus, Pkg.getF_setF_apart _ _ _ _ hrunning]
  rfl

/-- What the end of a call counts. -/
theorem Pkg.getF_callCounted (k : Pkg) {slot call : Nat} (form : Nat) (hslot : slot < 4) (hcall : call < 1024) :
    (k.callCounted slot call form).getF (F.COL_CS_STATUS slot call) = 0 ∧
      (k.callCounted slot call form).getF (F.COL_CS_INSTANCES slot call) = (k.getF (F.COL_CS_INSTANCES slot call) + 1) % 2 ^ 32 ∧
      (k.callCounted slot call form).getF (F.COL_COUNTS 0) = min (2 ^ 64 - 1) (k.getF (F.COL_COUNTS 0) + 1) := by
  have parts (f g : Fld) (h : f.lo + f.width ≤ g.lo ∨ g.lo + g.width ≤ f.lo) : f.apart g = true := (Fld.apart_iff _ _).mpr (.inr h)
  have instances := k.getF_runGone (slot := slot) (call := call) form (g := F.COL_CS_INSTANCES slot call)
    (parts _ _ (.inl (show 16 + 2 ≤ 32 by decide))) (parts _ _ (.inl (show 0 + 16 ≤ 32 by decide))) (Fld.apart_of_off (by simp only [F.COL_RUNNING, F.COL_CS_INSTANCES]; omega))
  have counts := k.getF_runGone (slot := slot) (call := call) form (g := F.COL_COUNTS 0)
    (Fld.apart_of_off (by simp only [F.COL_CS_FORM, F.COL_COUNTS]; omega)) (Fld.apart_of_off (by simp only [F.COL_CS_STATUS, F.COL_COUNTS]; omega))
    (Fld.apart_of_off (by simp only [F.COL_RUNNING, F.COL_COUNTS]; omega))
  have status : (k.runGone slot call form).getF (F.COL_CS_STATUS slot call) = 0 := by
    unfold Pkg.runGone
    rw [Pkg.getF_setF_apart _ _ _ _ (parts _ _ (.inr (show 0 + 16 ≤ 16 by decide))), Pkg.getF_setF_same _ _ _ rfl]
    rfl
  unfold Pkg.callCounted
  refine ⟨?_, ?_, ?_⟩
  · rw [Pkg.getF_inc_apart _ _ _ (Fld.apart_of_off (by simp only [F.COL_CS_STATUS, F.COL_COUNTS]; omega)), Pkg.getF_addWrap_apart _ _ _ _ (parts _ _ (.inr (show 0 + 16 ≤ 32 by decide))), status]
  · rw [Pkg.getF_inc_apart _ _ _ (Fld.apart_of_off (by simp only [F.COL_CS_INSTANCES, F.COL_COUNTS]; omega)), Pkg.getF_addWrap_same _ _ _ rfl, instances]
    rfl
  · rw [Pkg.getF_inc_same _ _ rfl, Pkg.getF_addWrap_apart _ _ _ _ (Fld.apart_of_off (by simp only [F.COL_CS_INSTANCES, F.COL_COUNTS]; omega)), counts]
    rfl

theorem Pkg.raise_calls (k : Pkg) (f : Fld) : (k.raise f).coll = k.coll ∧ (k.raise f).sems = k.sems := ⟨rfl, rfl⟩

theorem Pkg.counted_calls (k : Pkg) (f g : Fld) (n : Nat) : ((k.addWrap f n).inc g).coll = k.coll ∧ ((k.addWrap f n).inc g).sems = k.sems := ⟨rfl, rfl⟩

theorem Pkg.runGone_sems (k : Pkg) (slot call form : Nat) : (k.runGone slot call form).sems = k.sems := rfl

/-- What the addition to the semaphore leaves. -/
theorem Pkg.posted_shows (k : Pkg) (slot sem : Nat) : ((k.semAdd slot sem 1).refreshStage).coll = k.coll ∧
    ((k.semAdd slot sem 1).refreshStage).sem slot sem = (k.sem slot sem + 1) % 2 ^ 32 ∧
      ∀ f : Fld, f.off ≠ 0x300010 → ((k.semAdd slot sem 1).refreshStage).getF f = k.getF f := by
  refine ⟨rfl, k.sem_semAdd_same slot sem 1, fun f hf => ?_⟩
  unfold Pkg.refreshStage
  dsimp only
  rw [Pkg.getF_setF_apart _ _ _ _ (Fld.apart_of_off (Ne.symm hf)), Pkg.getF_setF_apart _ _ _ _ (Fld.apart_of_off (Ne.symm hf))]
  rfl

/-- What CALL_END shows. -/
theorem Pkg.endRun_shows (hslot : slot < 4) (hcall : call < 1024) (hdone : k.fab.done = []) (hrun : k.run slot call = some r) (hout : r.out = 0)
    (hok : r.status = 0) (hplaced : r.placed = true) :
    (k.endRun slot call).run slot call = none ∧ (k.endRun slot call).getF (F.COL_CS_STATUS slot call) = 0 ∧
      (k.endRun slot call).getF (F.COL_CS_INSTANCES slot call) = (k.getF (F.COL_CS_INSTANCES slot call) + 1) % 2 ^ 32 ∧
      (k.endRun slot call).getF (F.COL_COUNTS 0) = min (2 ^ 64 - 1) (k.getF (F.COL_COUNTS 0) + 1) ∧
      (k.endRun slot call).sem slot (cdDone r.desc) = (k.sem slot (cdDone r.desc) + 1) % 2 ^ 32 := by
  obtain ⟨hstatus, hinstances, hcounts⟩ := k.getF_callCounted (slot := slot) (call := call) r.form hslot hcall
  obtain ⟨hcoll, hsems⟩ := (k.runGone slot call r.form).counted_calls (F.COL_CS_INSTANCES slot call) (F.COL_COUNTS 0) 1
  have gone := k.run_runGone slot call r.form
  rw [Pkg.runGone_sems] at hsems
  obtain ⟨j, hj, run⟩ := Pkg.endRun_ends hdone hrun hout hok hplaced
  obtain ⟨i, hi⟩ : ∃ i, i = k.callCounted slot call r.form := ⟨_, rfl⟩
  rw [show ((k.runGone slot call r.form).addWrap (F.COL_CS_INSTANCES slot call) 1).inc (F.COL_COUNTS 0) = i from hi.symm] at hcoll hsems
  rw [← hi] at hstatus hinstances hcounts hj
  have same : j.coll = i.coll ∧ j.sems = i.sems ∧ ∀ f : Fld, f.off ≠ 0x300200 → j.getF f = i.getF f := by
    rcases hj with rfl | rfl
    · exact ⟨rfl, rfl, fun _ _ => rfl⟩
    · exact ⟨(i.raise_calls _).1, (i.raise_calls _).2, fun f hf => Pkg.getF_setF_apart _ _ _ _ (Fld.apart_of_off (Ne.symm hf))⟩
  obtain ⟨keptColl, keptSems, kept⟩ := same
  obtain ⟨postColl, postSem, post⟩ := j.posted_shows slot (cdDone r.desc)
  rw [run]
  refine ⟨?_, ?_, ?_, ?_, ?_⟩
  · unfold Pkg.run at gone ⊢
    rw [postColl, keptColl, hcoll]
    exact gone
  · rw [post _ (by simp only [F.COL_CS_STATUS]; omega), kept _ (by simp only [F.COL_CS_STATUS]; omega), hstatus]
  · rw [post _ (by simp only [F.COL_CS_INSTANCES]; omega), kept _ (by simp only [F.COL_CS_INSTANCES]; omega), hinstances]
  · rw [post _ (by decide), kept _ (by decide), hcounts]
  · rw [postSem]
    unfold Pkg.sem
    rw [keptSems, hsems]

end Ends

end Sys2Proof.Machine
end

section
/-! PROOFS. Call tables and firing calls, their JOINs and ABORTs, and barriers (R516–R521, R527, R533, R540–R545); O34. -/

namespace Sys2Proof.Machine

/-! ### The captain's barriers (R544, R545) -/

/-- An arrival that no other waits for, and that does not complete the barrier, is counted. -/
theorem Pkg.captainArrive_counts {k : Pkg} (hnone : k.capArrivals = []) {slot id gen who n count : Nat} (hcount : count < n) :
    (k.captainArrive slot id gen who n count).capArrivals = [{ slot := slot, id := id, gen := gen, who := who, participants := n, count := count }] := by
  unfold Pkg.captainArrive
  dsimp only
  rw [hnone, List.filter_nil, List.filter_nil, List.nil_append, List.nil_append, if_neg (by simp), List.map_singleton, List.sum_singleton, if_neg (Nat.not_le.mpr hcount)]

/-- The arrival that completes a barrier, or that differs from the one that waits, leaves none waiting. -/
theorem Pkg.captainArrive_over {k : Pkg} {a : Arrival} (hone : k.capArrivals = [a]) {who n count : Nat}
    (hall : a.participants ≤ a.count + count ∨ a.participants ≠ n) : (k.captainArrive a.slot a.id a.gen who n count).capArrivals = [] := by
  have mine : (a.slot == a.slot && a.id == a.id && a.gen == a.gen) = true := by simp
  have here : k.capArrivals.filter (fun x => x.slot == a.slot && x.id == a.id && x.gen == a.gen) = [a] := by
    rw [hone]
    exact List.filter_cons_of_pos mine
  have others : k.capArrivals.filter (fun x => !(x.slot == a.slot && x.id == a.id && x.gen == a.gen)) = [] := by
    rw [hone]
    exact List.filter_cons_of_neg (by rw [mine]; decide)
  unfold Pkg.captainArrive
  dsimp only
  rw [here, others]
  by_cases hn : a.participants = n
  · rw [if_neg (by simp [hn]), if_pos (by simp; omega)]
    exact (Pkg.sendPartition_frame _ _ _ _).capArrivals
  · rw [if_pos (by simp [hn])]
    exact (Pkg.sendPartition_frame _ _ _ _).capArrivals

theorem SeqOnly.barGen {k j : Pkg} (h : SeqOnly k j) : j.barGen = k.barGen := by obtain ⟨⟨r, n, cs, rfl⟩, -, -⟩ := h; rfl

/-- R544: a release opens the barrier's next generation. -/
theorem Pkg.releaseBarrier_advances (k : Pkg) (slot id : Nat) : (k.releaseBarrier slot id 0).generation slot id = k.generation slot id + 1 := by
  obtain ⟨j, hj⟩ : ∃ j, j = ({ k with barGen := Sparse.set semZero k.barGen (slot * 64 + id) (k.generation slot id + 1) } : Pkg) := ⟨_, rfl⟩
  have released : (k.releaseBarrier slot id 0).barGen = j.barGen := by
    unfold Pkg.releaseBarrier
    rw [if_pos rfl, ← hj]
    refine foldl_keeps (v := Pkg.barGen) _ _ fun i c hc => (i.endBarrier_frame ?_ 0).barGen
    exact Pkg.waiters_lt hc
  unfold Pkg.generation
  rw [released, hj]
  exact Sparse.get_set_same semZero k.barGen (slot * 64 + id) (k.generation slot id + 1)

section Packets

variable {s : State} {p : PkgId} {t₀ : Nat} {k : Pkg} (hk : k = (s.pkg p).at t₀) {pkt : Packet} {r : CallRun} (haccepts : k.accepts pkt = true)
include hk haccepts

/-! ### JOIN and ABORT (R533, R540, R541) -/

theorem join_heard (hrun : k.run pkt.slot (fieldAt pkt.body 2 2) = some r) (hinst : r.inst = fieldAt pkt.body 4 4) (hok : r.status = 0)
    (hwaiting : r.waiting = []) (hdigest : fieldAt pkt.body 8 4 = cdDigest r.desc) :
    Completes (.join p pkt t₀) s (fun t => (t.pkg p).run pkt.slot (fieldAt pkt.body 2 2) = some { r with joined := pkt.src :: r.joined }) := by
  obtain ⟨hslot, hcall⟩ := Pkg.run_of hrun
  refine completes_of_sequenced hk haccepts rfl fun j hj t ends => (ends.run _ _).trans ?_
  dsimp only
  rw [hj.run, hrun]
  dsimp only
  rw [if_pos hinst, hdigest, Pkg.hearJoin_heard j hok hwaiting]
  exact Pkg.run_putRun j hslot hcall

theorem join_mismatch (hrun : k.run pkt.slot (fieldAt pkt.body 2 2) = some r) (hinst : r.inst = fieldAt pkt.body 4 4) (hok : r.status = 0)
    (hdigest : fieldAt pkt.body 8 4 ≠ cdDigest r.desc) :
    Completes (.join p pkt t₀) s (fun t => ((t.pkg p).run pkt.slot (fieldAt pkt.body 2 2)).map CallRun.status = some 0x3405) := by
  obtain ⟨hslot, hcall⟩ := Pkg.run_of hrun
  refine completes_of_sequenced hk haccepts rfl fun j hj t ends => ?_
  rw [ends.run]
  dsimp only
  rw [hj.run, hrun]
  dsimp only
  rw [if_pos hinst, Pkg.hearJoin_mismatch j hok hdigest]
  obtain ⟨r', hr, hst, -⟩ := Pkg.run_failed j (j.failRun r 0x3405 false).1 hok hslot hcall 0x3405 false
  rw [hr]
  exact congrArg some hst

theorem join_held (hrun : k.run pkt.slot (fieldAt pkt.body 2 2) = none) (hfired : k.firedOf pkt.slot (fieldAt pkt.body 2 2) ≤ fieldAt pkt.body 4 4) :
    Completes (.join p pkt t₀) s (fun t => (t.pkg p).coll.early =
      k.coll.early ++ [(pkt.slot, fieldAt pkt.body 2 2, fieldAt pkt.body 4 4, .join pkt.src (fieldAt pkt.body 8 4))]) := by
  refine completes_of_sequenced hk haccepts rfl fun j hj t ends => ?_
  rw [ends.coll]
  dsimp only
  rw [hj.run, hrun, hj.firedOf]
  dsimp only
  rw [if_pos hfired, ← hj.coll]
  rfl

theorem collAbort_ends (hrun : k.run pkt.slot (fieldAt pkt.body 2 2) = some r) (hinst : r.inst = fieldAt pkt.body 4 4) (hok : r.status = 0)
    (hopen : r.placed = false ∨ 0 < r.out) :
    Completes (.collAbort p pkt t₀) s (fun t =>
      ((t.pkg p).run pkt.slot (fieldAt pkt.body 2 2)).map (fun r => (r.status, r.byAbort)) = some (fieldAt pkt.body 12 2, true)) := by
  obtain ⟨hslot, hcall⟩ := Pkg.run_of hrun
  refine completes_of_sequenced hk haccepts rfl fun j hj t ends => ?_
  rw [ends.run]
  dsimp only
  rw [hj.run, hrun]
  dsimp only
  rw [if_pos hinst, if_neg (by rintro ⟨hp, ho⟩; rcases hopen with h | h; · rw [hp] at h; cases h
                               · omega)]
  obtain ⟨r', hr, hst, hby⟩ := Pkg.run_failed j (j.failRun r (fieldAt pkt.body 12 2) true).1 hok hslot hcall (fieldAt pkt.body 12 2) true
  rw [hr, Option.map_some, hst, hby]

/-! ### Barriers (R527, R544, R545) -/

theorem barrierArrive_counts (hid : fieldAt pkt.body 0 2 < 64) (hcount : fieldAt pkt.body 8 4 < fieldAt pkt.body 12 4) (hnone : k.capArrivals = []) :
    Completes (.barrierArrive p pkt t₀) s (fun t => (t.pkg p).capArrivals =
      [{ slot := pkt.slot, id := fieldAt pkt.body 0 2, gen := fieldAt pkt.body 4 4, who := pkt.src, participants := fieldAt pkt.body 12 4
         count := fieldAt pkt.body 8 4 }]) := by
  refine completes_of_sequenced hk haccepts rfl fun j hj t ends => ?_
  rw [ends.capArrivals]
  dsimp only
  rw [if_pos hid]
  exact Pkg.captainArrive_counts (hj.capArrivals.trans hnone) hcount

theorem barrierArrive_ends {a : Arrival} (hid : fieldAt pkt.body 0 2 < 64) (hone : k.capArrivals = [a]) (hslot : a.slot = pkt.slot)
    (hsame : a.id = fieldAt pkt.body 0 2) (hgen : a.gen = fieldAt pkt.body 4 4)
    (hall : a.participants ≤ a.count + fieldAt pkt.body 8 4 ∨ a.participants ≠ fieldAt pkt.body 12 4) :
    Completes (.barrierArrive p pkt t₀) s (fun t => (t.pkg p).capArrivals = []) := by
  refine completes_of_sequenced hk haccepts rfl fun j hj t ends => ?_
  rw [ends.capArrivals]
  dsimp only
  rw [if_pos hid]
  rw [← hslot, ← hsame, ← hgen]
  exact Pkg.captainArrive_over (hj.capArrivals.trans hone) hall

theorem barrierRelease_advances (hid : fieldAt pkt.body 0 2 < 64) :
    Completes (.barrierRelease p pkt t₀) s (fun t =>
      (t.pkg p).generation pkt.slot (fieldAt pkt.body 0 2) = k.generation pkt.slot (fieldAt pkt.body 0 2) + 1) := by
  refine completes_of_sequenced hk haccepts rfl fun j hj t ends => ?_
  unfold Pkg.generation
  rw [ends.barGen, ← hj.barGen]
  dsimp only
  rw [if_pos hid]
  exact j.releaseBarrier_advances pkt.slot (fieldAt pkt.body 0 2)

theorem barrierRelease_places (hid : 64 ≤ fieldAt pkt.body 0 2) (hrun : k.run pkt.slot (fieldAt pkt.body 0 2 - 64) = some r)
    (hinst : r.inst = fieldAt pkt.body 4 4) (hok : r.status = 0) :
    Completes (.barrierRelease p pkt t₀) s (fun t => (t.pkg p).run pkt.slot (fieldAt pkt.body 0 2 - 64) = some { r with placed := true }) := by
  obtain ⟨hslot, hcall⟩ := Pkg.run_of hrun
  refine completes_of_sequenced hk haccepts rfl fun j hj t ends => ?_
  rw [ends.run]
  dsimp only
  rw [if_neg (by omega), ← hinst, Pkg.callBarrierDone_places ((hj.run _ _).trans hrun) hok]
  exact Pkg.run_putRun j hslot hcall

theorem barrierMismatch_fails (hid : 64 ≤ fieldAt pkt.body 0 2) (hrun : k.run pkt.slot (fieldAt pkt.body 0 2 - 64) = some r)
    (hinst : r.inst = fieldAt pkt.body 4 4) (hok : r.status = 0) :
    Completes (.barrierMismatch p pkt t₀) s (fun t => ((t.pkg p).run pkt.slot (fieldAt pkt.body 0 2 - 64)).map CallRun.status = some 0x3405) := by
  obtain ⟨hslot, hcall⟩ := Pkg.run_of hrun
  refine completes_of_sequenced hk haccepts rfl fun j hj t ends => ?_
  rw [ends.run]
  dsimp only
  rw [if_neg (by omega), ← hinst, Pkg.callBarrierDone_fails ((hj.run _ _).trans hrun) hok (by decide)]
  obtain ⟨r', hr, hst, -⟩ := Pkg.run_failed j (j.failRun r 0x3405 false).1 hok hslot hcall 0x3405 false
  rw [hr]
  exact congrArg some hst

end Packets

end Sys2Proof.Machine
end

section
/-! PROOFS. Call tables and the firing and timing out of calls (R516–R523, R542); O34. -/

namespace Sys2Proof.Machine

/-! ### The checks of a call table (R516) -/

section Congr

variable {k j : Pkg} {slot : Nat} (hparts : j.partPackages slot = k.partPackages slot) (hrack : j.rack = k.rack) (hid : j.id = k.id)
include hparts hrack hid

theorem Pkg.callPackages_congr : j.callPackages slot = k.callPackages slot := by
  funext scope
  unfold Pkg.callPackages Pkg.partRacks
  rw [hparts, hrack, hid]

theorem Pkg.firstBadCall_congr (table : Bytes) (fuel c : Nat) (seen : List Nat) : j.firstBadCall slot table fuel c seen = k.firstBadCall slot table fuel c seen := by
  have bad (d : Bytes) : j.badCall slot d = k.badCall slot d := by
    unfold Pkg.badCall
    rw [Pkg.callPackages_congr hparts hrack hid, hparts]
  induction fuel generalizing c seen with
  | zero => rfl
  | succ fuel ih =>
    unfold Pkg.firstBadCall
    simp only [ih, bad]

end Congr

/-- The first failing entry is one of the table's. -/
theorem Pkg.firstBadCall_lt {k : Pkg} {slot : Nat} {table : Bytes} {fuel c n : Nat} {seen : List Nat} (h : k.firstBadCall slot table fuel c seen = some n) :
    n < c + fuel := by
  induction fuel generalizing c seen with
  | zero => exact nomatch h
  | succ fuel ih =>
    unfold Pkg.firstBadCall at h
    dsimp only at h
    split at h
    · have := ih h
      omega
    · split at h
      · injection h with h
        omega
      · have := ih h
        omega

namespace XltOnly

variable {k j : Pkg}

theorem lup (h : XltOnly k j) : j.lup = k.lup := by obtain ⟨⟨r, x, ce, n, w, rfl⟩, -⟩ := h; rfl
theorem id (h : XltOnly k j) : j.id = k.id := by obtain ⟨⟨r, x, ce, n, w, rfl⟩, -⟩ := h; rfl
theorem calls (h : XltOnly k j) : j.calls = k.calls := by obtain ⟨⟨r, x, ce, n, w, rfl⟩, -⟩ := h; rfl
theorem rack (h : XltOnly k j) : j.rack = k.rack := h.getF F.GLB_RACK_ID (by decide)

theorem partPackages (h : XltOnly k j) {slot : Nat} (hslot : slot < 4) : j.partPackages slot = k.partPackages slot := by
  unfold Pkg.partPackages Pkg.target Pkg.partEntry Pkg.slotHeld
  rw [h.lup, h.rack, h.id, h.getF F.LUP_SLOTS (by decide), h.getF (F.LUP_PART_ENTRY slot) (by simp only [F.LUP_PART_ENTRY]; unfold xltKeeps; omega)]

end XltOnly

/-! ### A table comes into force -/

theorem Pkg.refreshStage_calls (k : Pkg) : k.refreshStage.calls = k.calls := rfl

theorem Pkg.takeCalls_shows (k : Pkg) {slot : Nat} (hslot : slot < 4) (table : Bytes) :
    (k.takeCalls slot table).getF (F.COL_LOADED slot) = 1 ∧ (k.takeCalls slot table).calls = k.calls.filter (fun d => d.1 != slot) ++
      ((List.range 1024).map (fun c => (slot, c, (table.drop (64 * c)).take 64))).filter (fun d => cdOp d.2.2 != 0) := by
  constructor
  · unfold Pkg.takeCalls Pkg.refreshStage
    dsimp only
    rw [Pkg.getF_setF_apart _ _ _ _ (Fld.apart_of_off (by simp only [F.COL_STAGE_PEAK, F.COL_LOADED]; omega)),
      Pkg.getF_setF_apart _ _ _ _ (Fld.apart_of_off (by simp only [F.COL_STAGE_USED, F.COL_LOADED]; omega)), Pkg.getF_setF_same _ _ _ rfl]
    rfl
  · unfold Pkg.takeCalls
    dsimp only
    rw [Pkg.refreshStage_calls, Pkg.setF_calls, foldl_keeps (v := Pkg.calls) _ _ fun i c _ => i.setF_calls (F.COL_CS_INSTANCES slot c) 0]

/-- The scheduled load is no longer pending. -/
def Pkg.loadTaken (k : Pkg) (slot : Nat) : Pkg := { k with coll := { k.coll with loads := k.coll.loads.filter (fun x => x.1 != slot) } }

/-- A table that is refused. -/
def Pkg.callsRefused (k : Pkg) (slot : Nat) (st : Status) : Pkg := (k.report (F.COL_LOAD_CODE slot) st .slot slot 0).raise F.COL_EV_LOAD_FAIL

section Loads

variable {k : Pkg} {sl : SlotId} {e y t₀ : Nat} {table : Bytes} (hload : slotNat k.coll.loads sl = some e) (hdue : e * 2097152 ≤ t₀)
  (hidle : ∀ r ∈ k.coll.runs, r.slot ≠ sl.val) (hmaps : k.maps sl (k.getF (F.COL_CALL_VA sl) * 64) 65536 .hub .read y = true)
  (htable : table = Memory.readBytes k.hbm y 65536)
include hload hdue hidle hmaps htable

theorem Pkg.loadCalls_reads : ∃ j, XltOnly (k.loadTaken sl) j ∧ k.loadCalls sl t₀ = match k.firstBadCall sl table 1024 0 [] with
    | some c => (j.setF (F.COL_BAD_ENTRY sl) c).callsRefused sl 0x3407
    | none => (j.takeCalls sl table).setF (F.COL_LOAD_CODE sl) 0 := by
  have loaded : Alike (fun _ => True) k (k.loadTaken sl) := ⟨rfl, rfl, rfl, rfl, fun _ _ => rfl⟩
  have maps : (k.loadTaken sl).maps sl (k.getF (F.COL_CALL_VA sl) * 64) 65536 .hub .read y = true :=
    loaded.maps ⟨trivial, trivial, fun _ => trivial, fun _ _ => trivial⟩ hmaps
  obtain ⟨hframe, hread⟩ := Pkg.vread_of_maps rfl maps
  obtain ⟨j, hj⟩ : ∃ j, ((k.loadTaken sl).vread sl .hub (k.getF (F.COL_CALL_VA sl) * 64) 65536).1 = j := ⟨_, rfl⟩
  rw [hj] at hframe
  have read : (k.loadTaken sl).hubRead sl (k.getF (F.COL_CALL_VA sl) * 64) 65536 = (j, table, none) := by
    rw [htable]
    exact Prod.ext hj hread
  have check : j.firstBadCall sl table 1024 0 [] = k.firstBadCall sl table 1024 0 [] :=
    Pkg.firstBadCall_congr (k := k) (hframe.partPackages sl.isLt) hframe.rack hframe.id table 1024 0 []
  have none_runs : k.coll.runs.any (fun r => r.slot == sl.val) = false :=
    List.any_eq_false.mpr fun r hr => by rw [beq_iff_eq]; exact hidle r hr
  refine ⟨j, hframe, ?_⟩
  unfold Pkg.loadCalls
  rw [hload]
  dsimp only
  rw [if_neg (by rw [none_runs, epochTicks]; simp; omega)]
  generalize hq : Pkg.hubRead _ _ _ _ = q
  rw [show q = (j, table, none) from hq.symm.trans read]
  dsimp only
  rw [check]
  rfl

theorem Pkg.loadCalls_takes (hgood : k.firstBadCall sl table 1024 0 [] = none) :
    (k.loadCalls sl t₀).getF (F.COL_LOAD_CODE sl) = 0 ∧ (k.loadCalls sl t₀).getF (F.COL_LOADED sl) = 1 ∧
      (k.loadCalls sl t₀).calls = k.calls.filter (fun d => d.1 != sl.val) ++
        ((List.range 1024).map (fun c => (sl.val, c, (table.drop (64 * c)).take 64))).filter (fun d => cdOp d.2.2 != 0) := by
  obtain ⟨j, hj, run⟩ := Pkg.loadCalls_reads hload hdue hidle hmaps htable
  obtain ⟨hloaded, hcalls⟩ := j.takeCalls_shows sl.isLt table
  rw [hgood] at run
  dsimp only at run
  rw [run]
  refine ⟨Pkg.getF_setF_same _ _ _ rfl, ?_, ?_⟩
  · rw [Pkg.getF_setF_apart _ _ _ _ ((Fld.apart_iff _ _).mpr (.inr (.inl (show 0 + 16 ≤ 16 by decide)))), hloaded]
  · rw [Pkg.setF_calls, hcalls, hj.calls]
    rfl

theorem Pkg.loadCalls_refuses {c : Nat} (hbad : k.firstBadCall sl table 1024 0 [] = some c) :
    (k.loadCalls sl t₀).getF (F.COL_LOAD_CODE sl) = 0x3407 ∧ (k.loadCalls sl t₀).getF (F.COL_BAD_ENTRY sl) = c ∧
      (k.loadCalls sl t₀).getF F.COL_EV_LOAD_FAIL = 1 ∧ (k.loadCalls sl t₀).calls = k.calls := by
  have entry : c < 0 + 1024 := Pkg.firstBadCall_lt hbad
  obtain ⟨j, hj, run⟩ := Pkg.loadCalls_reads hload hdue hidle hmaps htable
  rw [hbad] at run
  dsimp only at run
  have same : (k.loadTaken sl).calls = k.calls := rfl
  rw [run, Pkg.callsRefused]
  refine ⟨?_, ?_, Pkg.getF_raise_same _ _ (by decide) (by decide), ?_⟩
  · rw [Pkg.getF_raise_apart _ _ _ (Fld.apart_of_off (by simp only [F.COL_EV_LOAD_FAIL, F.COL_LOAD_CODE]; omega)),
      Pkg.getF_report_same _ _ _ _ _ (by simp only [F.COL_LOAD_CODE]; omega) rfl]
    rfl
  · rw [Pkg.getF_raise_apart _ _ _ (Fld.apart_of_off (by simp only [F.COL_EV_LOAD_FAIL, F.COL_BAD_ENTRY]; omega)),
      Pkg.getF_report _ _ _ _ _ _ _ (by simp only [F.COL_BAD_ENTRY]; omega),
      Pkg.getF_setF_apart _ _ _ _ ((Fld.apart_iff _ _).mpr (.inr (.inl (show 0 + 16 ≤ 48 by decide)))), Pkg.getF_setF_same _ _ _ rfl]
    exact Nat.mod_eq_of_lt (show c < 1024 by omega)
  · have reported : ((j.setF (F.COL_BAD_ENTRY sl) c).report (F.COL_LOAD_CODE sl) 0x3407 .slot sl 0).calls = j.calls := by
      obtain ⟨⟨r, n, e⟩, -⟩ := Pkg.report_frame (j.setF (F.COL_BAD_ENTRY sl) c) (F.COL_LOAD_CODE sl) 0x3407 .slot sl 0
      rw [e, Pkg.setF_calls, Pkg.setF_calls]
    rw [Pkg.raise, Pkg.setF_calls, reported, hj.calls, same]

end Loads

/-! ### Firing (R517–R521) -/

/-- The call's semaphore and firing are taken. -/
def Pkg.callTaken (k : Pkg) (slot c : Nat) (d : Bytes) : Pkg :=
  let j := ({ k with fireOrder := k.fireOrder.filter (fun f => f != (slot, c)) } : Pkg).setSem slot (cdFireSem d) (k.sem slot (cdFireSem d) - cdThreshold d)
  { j with coll := { j.coll with fired := Sparse.set semZero j.coll.fired (slot * 1024 + c) (k.firedOf slot c + 1) } }

theorem Pkg.callTaken_shows (k : Pkg) (slot c : Nat) (d : Bytes) : (k.callTaken slot c d).firedOf slot c = k.firedOf slot c + 1 ∧
    (k.callTaken slot c d).sem slot (cdFireSem d) = (k.sem slot (cdFireSem d) - cdThreshold d) % 2 ^ 32 ∧ (k.callTaken slot c d).coll.early = k.coll.early :=
  ⟨Sparse.get_set_same semZero k.coll.fired (slot * 1024 + c) (k.firedOf slot c + 1),
    Pkg.sem_setSem_same { k with fireOrder := k.fireOrder.filter (fun f => f != (slot, c)) } slot (cdFireSem d) _, rfl⟩

/-- The run of a call, as it fires. -/
def Pkg.firedRun (k : Pkg) (slot c : Nat) (d : Bytes) : CallRun :=
  { slot := slot, call := c, inst := k.firedOf slot c, desc := d, fired := k.now, form := formOf d ((k.callTaken slot c d).callStages slot d)
    participants := (k.callTaken slot c d).callPackages slot (cdScope d), stages := (k.callTaken slot c d).callStages slot d }

theorem Pkg.fireCall_starts {k : Pkg} {slot c : Nat} {d : Bytes} (hnext : k.nextFire slot = some (c, d)) :
    k.fireCall slot = (k.callTaken slot c d).startRun (k.firedRun slot c d) := by
  unfold Pkg.fireCall
  rw [hnext]
  rfl

theorem CallRun.source_barrier {r : CallRun} (hop : cdOp r.desc = 1) (me : Nat) : r.source me = (0, 0) := by
  unfold CallRun.source
  dsimp only
  rw [hop]
  rfl

theorem Pkg.callCheck_barrier (k : Pkg) {r : CallRun} (hop : cdOp r.desc = 1) : k.callCheck r = none := by
  unfold Pkg.callCheck
  dsimp only
  exact if_pos hop

/-- R527: a BARRIER call starts by telling the lowest participant. -/
theorem Pkg.startRun_barrier {k : Pkg} {r : CallRun} (hop : cdOp r.desc = 1) (hearly : k.coll.early = []) :
    ∃ j, FabOnly k j ∧ k.startRun r = j.putRun { r with out := 1 } := by
  have same : ({ k with coll := { k.coll with early := [] } } : Pkg) = k := by rw [← hearly]
  have check := k.callCheck_barrier hop
  have source := CallRun.source_barrier hop k.target
  unfold Pkg.startRun
  rw [hearly, List.filter_nil]
  dsimp only [List.findSome?_nil, List.filter_nil]
  rw [same, check, source]
  dsimp only
  rw [if_pos hop]
  exact ⟨_, Pkg.send_frame k _, rfl⟩

theorem Pkg.callFire_barrier {k : Pkg} {slot c : Nat} {d : Bytes} (hnext : k.nextFire slot = some (c, d)) (hop : cdOp d = 1) (hearly : k.coll.early = []) :
    (k.fireCall slot).firedOf slot c = k.firedOf slot c + 1 ∧
      (k.fireCall slot).sem slot (cdFireSem d) = (k.sem slot (cdFireSem d) - cdThreshold d) % 2 ^ 32 ∧
      ((k.fireCall slot).run slot c).map (fun r => (r.inst, r.fired, r.desc, r.status, r.out)) = some (k.firedOf slot c, k.now, d, 0, 1) := by
  obtain ⟨hfired, hsem, hheld⟩ := k.callTaken_shows slot c d
  obtain ⟨j, hj, run⟩ := Pkg.startRun_barrier (k := k.callTaken slot c d) (r := k.firedRun slot c d) hop (hheld.trans hearly)
  rw [Pkg.fireCall_starts hnext, run]
  refine ⟨?_, ?_, ?_⟩
  · rw [Pkg.firedOf_putRun, hj.firedOf, hfired]
  · rw [Pkg.sem_putRun, hj.sem, hsem]
  · rw [Pkg.run_putRun j (slot := slot) (call := c) rfl rfl]
    rfl

/-! ### The commands -/

section Commands

variable {s : State} {p : PkgId} {t₀ : Nat} {k : Pkg} (hk : k = (s.pkg p).at t₀) {sl : SlotId}
include hk

theorem callLoad_schedules (epoch : Nat) : Completes (.callLoad p .pf sl epoch t₀) s (fun t => slotNat (t.pkg p).coll.loads sl = some (epoch % 2 ^ 43)) := by
  refine ⟨_, rfl, ?_⟩
  dsimp only
  rw [State.pkg_updPkg_same, ← hk]
  unfold Pkg.viaPart
  rw [if_neg (by decide)]
  exact slotNat_setSlotNat _ sl.val (epoch % 2 ^ 43)

theorem callTableLoad_runs {post : Pkg → Prop} (h : post (k.loadCalls sl t₀)) : Completes (.callTableLoad p sl t₀) s (fun t => post (t.pkg p)) := by
  refine completes_of_updPkg_eq (j := k.loadCalls sl t₀) rfl (by rw [← hk]) fun t ht => ?_
  rw [ht]
  exact h

theorem callFire_fires {c : Nat} {d : Bytes} (hnext : k.nextFire sl = some (c, d)) (hop : cdOp d = 1) (hearly : k.coll.early = []) :
    Completes (.callFire p sl t₀) s (fun t => (t.pkg p).firedOf sl c = k.firedOf sl c + 1 ∧
      (t.pkg p).sem sl (cdFireSem d) = (k.sem sl (cdFireSem d) - cdThreshold d) % 2 ^ 32 ∧
      ((t.pkg p).run sl c).map (fun r => (r.inst, r.fired, r.desc, r.status, r.out)) = some (k.firedOf sl c, k.now, d, 0, 1)) := by
  refine completes_of_updPkg_eq (j := k.fireCall sl) rfl (by rw [← hk]) fun t ht => ?_
  rw [ht]
  exact Pkg.callFire_barrier hnext hop hearly

theorem callEnd_ends {c : Nat} {r : CallRun} (hc : c < 1024) (hdone : k.fab.done = []) (hrun : k.run sl c = some r) (hout : r.out = 0) (hok : r.status = 0)
    (hplaced : r.placed = true) : Completes (.callEnd p sl c t₀) s (fun t =>
      (t.pkg p).run sl c = none ∧ (t.pkg p).getF (F.COL_CS_STATUS sl c) = 0 ∧
      (t.pkg p).getF (F.COL_CS_INSTANCES sl c) = (k.getF (F.COL_CS_INSTANCES sl c) + 1) % 2 ^ 32 ∧
      (t.pkg p).getF (F.COL_COUNTS 0) = min (2 ^ 64 - 1) (k.getF (F.COL_COUNTS 0) + 1) ∧
      (t.pkg p).sem sl (cdDone r.desc) = (k.sem sl (cdDone r.desc) + 1) % 2 ^ 32) := by
  refine completes_of_updPkg_eq (j := k.endRun sl c) rfl (by rw [← hk]) fun t ht => ?_
  rw [ht]
  exact Pkg.endRun_shows sl.isLt hc hdone hrun hout hok hplaced

theorem collectiveTimeout_fails {c : Nat} {r : CallRun} (hrun : k.run sl c = some r) (hok : r.status = 0) (hopen : r.placed = false ∨ 0 < r.out)
    (hlate : r.fired + (if cdTimeout r.desc = 0 then k.getF F.COL_TIMEOUT_DEF else cdTimeout r.desc) ≤ k.now) :
    Completes (.collectiveTimeout p sl c t₀) s (fun t => ((t.pkg p).run sl c).map CallRun.status = some 0x6401) := by
  obtain ⟨hslot, hcall⟩ := Pkg.run_of hrun
  have run : k.callTimeout sl c = (k.failRun r 0x6401 false).1.putRun (k.failRun r 0x6401 false).2 := by
    unfold Pkg.callTimeout
    rw [hrun]
    exact if_pos ⟨hok, hopen, hlate⟩
  obtain ⟨r', hr, hst, -⟩ := Pkg.run_failed k (k.failRun r 0x6401 false).1 hok hslot hcall 0x6401 false
  refine completes_of_updPkg_eq (j := k.callTimeout sl c) rfl (by rw [← hk]) fun t ht => ?_
  rw [ht, run, hr]
  exact congrArg some hst

end Commands

/-- Settles O34. -/
theorem callsRun : Obligations.CallsRun := by
  intro s p t₀
  obtain ⟨k, hk⟩ : ∃ k, k = (s.pkg p).at t₀ := ⟨_, rfl⟩
  rw [← hk]
  refine ⟨fun sl epoch => callLoad_schedules hk epoch, fun sl e y table hload hdue hidle hmaps htable => ⟨fun hgood => ?_, fun c hbad => ?_⟩,
    fun sl c d hnext hop hearly => callFire_fires hk hnext hop hearly,
    fun pkt r haccepts hrun hinst hok hwaiting hdigest => join_heard hk haccepts hrun hinst hok hwaiting hdigest,
    fun pkt r haccepts hrun hinst hok hdigest => join_mismatch hk haccepts hrun hinst hok hdigest,
    fun pkt haccepts hrun hfired => join_held hk haccepts hrun hfired,
    fun pkt r haccepts hrun hinst hok hopen => collAbort_ends hk haccepts hrun hinst hok hopen,
    fun sl c r hc hdone hrun hout hok hplaced => callEnd_ends hk hc hdone hrun hout hok hplaced,
    fun sl c r hrun hok hopen hlate => collectiveTimeout_fails hk hrun hok hopen hlate,
    fun pkt haccepts hid hcount hnone => barrierArrive_counts hk haccepts hid hcount hnone,
    fun pkt a haccepts hid hone hslot hsame hgen hall => barrierArrive_ends hk haccepts hid hone hslot hsame hgen hall,
    fun pkt haccepts hid => barrierRelease_advances hk haccepts hid,
    fun pkt r haccepts hid hrun hinst hok => barrierRelease_places hk haccepts hid hrun hinst hok,
    fun pkt r haccepts hid hrun hinst hok => barrierMismatch_fails hk haccepts hid hrun hinst hok⟩
  · exact callTableLoad_runs hk (post := fun j => j.getF (F.COL_LOAD_CODE sl) = 0 ∧ j.getF (F.COL_LOADED sl) = 1 ∧
      j.calls = k.calls.filter (fun d => d.1 != sl.val) ++
        ((List.range 1024).map (fun c => (sl.val, c, (table.drop (64 * c)).take 64))).filter (fun d => cdOp d.2.2 != 0))
      (Pkg.loadCalls_takes hload hdue hidle hmaps htable hgood)
  · exact callTableLoad_runs hk (post := fun j => j.getF (F.COL_LOAD_CODE sl) = 0x3407 ∧ j.getF (F.COL_BAD_ENTRY sl) = c ∧
      j.getF F.COL_EV_LOAD_FAIL = 1 ∧ j.calls = k.calls) (Pkg.loadCalls_refuses hload hdue hidle hmaps htable hbad)

end Sys2Proof.Machine
end

section
/-! PROOFS. The completion of host calls and the acknowledgement of sequences (R481, R482, R595, R596, R604, R609, R610); O36. -/

namespace Sys2Proof.Machine

/-! ### Settling what no call or command owns -/

section Settle

variable {k : Pkg}

/-- A package whose finished sequences are forgotten. -/
def Pkg.doneGone (k : Pkg) : Pkg := { k with fab := { k.fab with done := [] } }

theorem Pkg.doneGone_of_none (h : k.fab.done = []) : k.doneGone = k := by
  unfold Pkg.doneGone
  rw [← h]

theorem Pkg.settleMoe_of_none (h : k.fab.done = []) : k.settleMoe = k := by
  unfold Pkg.settleMoe
  rw [h]
  exact Pkg.doneGone_of_none h

theorem Pkg.settleHost_of_none (h : k.fab.done = []) : k.settleHost = k := by
  unfold Pkg.settleHost
  rw [h]
  exact Pkg.doneGone_of_none h

theorem filter_unowned {ds : List (Owner × Status × Nat)} (h : ∀ d ∈ ds, d.1 = .none) {P : Owner × Status × Nat → Bool}
    (hP : ∀ d : Owner × Status × Nat, d.1 = .none → P d = false) : ds.filter P = [] :=
  List.filter_eq_nil_iff.mpr fun d hd => by rw [hP d (h d hd)]; decide

/-- Sequences without an owner settle nothing. -/
theorem Pkg.settleCmds_of_unowned (h : ∀ d ∈ k.fab.done, d.1 = .none) : k.settleCmds = k.doneGone := by
  unfold Pkg.settleCmds Pkg.doneGone
  dsimp only
  rw [filter_unowned h (fun d hd => by rw [hd]), filter_unowned h (fun d hd => by rw [hd])]
  rfl

theorem Pkg.settleAll_of_unowned (h : ∀ d ∈ k.fab.done, d.1 = .none) : k.settleAll = k.doneGone.decideCalls := by
  have none : k.doneGone.fab.done = [] := rfl
  unfold Pkg.settleAll
  rw [Pkg.settleCmds_of_unowned h, Pkg.settleMoe_of_none none, Pkg.settleCalls_of_none none, Pkg.settleHost_of_none none]
  rfl

end Settle

/-! ### Decided calls -/

/-- A call that is decided, or waits for another, is left as it is. -/
def HostCall.decided (c : HostCall) : HostCall := if c.result.isSome ∨ c.dupOf.isSome then c else { c with result := callResult c }

theorem HostCall.decided_num (c : HostCall) : c.decided.num = c.num := by
  unfold HostCall.decided
  split <;> rfl

theorem HostCall.decided_of_result {c : HostCall} {r : Status × Nat} (h : c.result = some r) : c.decided = c := by
  unfold HostCall.decided
  rw [h]
  exact if_pos (.inl rfl)

theorem HostCall.decided_of_open {c : HostCall} (hresult : c.result = none) (hparts : callResult c = none) : c.decided = c := by
  unfold HostCall.decided
  split
  · rfl
  · rw [hparts, ← hresult]

theorem findCall_map {cs : List HostCall} {num : Nat} {f : HostCall → HostCall} (hf : ∀ c, (f c).num = c.num) :
    (cs.map f).find? (fun c => c.num == num) = (cs.find? (fun c => c.num == num)).map f := by
  rw [List.find?_map]
  congr 2
  funext c
  exact congrArg (· == num) (hf c)

theorem Pkg.call_decideCalls (k : Pkg) (num : Nat) : k.decideCalls.call num = (k.call num).map HostCall.decided :=
  findCall_map HostCall.decided_num

/-- A package with one call, which is decided, has nothing to decide. -/
theorem Pkg.decideCalls_of_one {k : Pkg} {c : HostCall} {r : Status × Nat} (hone : k.host.calls = [c]) (hresult : c.result = some r) : k.decideCalls = k := by
  have same : k.host.calls.map HostCall.decided = k.host.calls := by
    rw [hone, List.map_singleton, HostCall.decided_of_result hresult]
  show ({ k with host := { k.host with calls := k.host.calls.map HostCall.decided } } : Pkg) = k
  rw [same]

/-! ### Parts (R609, R610) -/

section Parts

variable {k : Pkg} {c : HostCall} {x : CallPart} {src core : Nat}

theorem Pkg.updCall_one (hone : k.host.calls = [c]) (f : HostCall → HostCall) : (k.updCall c.num f).host.calls = [f c] := by
  unfold Pkg.updCall
  rw [hone, List.map_singleton, if_pos rfl]

/-- R609: the play's status and result are its part's. -/
theorem Pkg.playDone_ends (hghosts : k.host.ghosts = []) (hone : k.host.calls = [c]) (hop : fieldAt c.entry 0 1 = 2) (hparts : c.parts = [x])
    (htarget : x.target = src) (hcore : x.core = core) (hresult : x.result = none) (result : Nat) (st : Status) :
    (k.playDone src core result st).host.calls = [{ c with parts := [{ x with result := some (st, result) }] }] := by
  have mine : (x.target == src && x.core == core && x.result.isNone) = true := by
    rw [htarget, hcore, hresult]
    simp
  have found : k.host.calls.find? (fun c => (fieldAt c.entry 0 1 == 2 || fieldAt c.entry 0 1 == 3)
      && c.parts.any (fun x => x.target == src && x.core == core && x.result.isNone)) = some c := by
    rw [hone, List.find?_singleton]
    refine if_pos ?_
    rw [hop, hparts, List.any_cons, mine]
    rfl
  have index : [x].findIdx (fun x => x.target == src && x.core == core && x.result.isNone) = 0 := by
    rw [List.findIdx_cons, mine]
    rfl
  unfold Pkg.playDone
  rw [hghosts, if_neg (by simp)]
  dsimp only
  rw [found]
  dsimp only
  rw [Pkg.updCall_one hone, hparts, index]
  rfl

/-- R604: the plays of a call that has timed out are discarded. -/
theorem Pkg.playDone_ghost (h : (src, core) ∈ k.host.ghosts) (result : Nat) (st : Status) :
    k.playDone src core result st = { k with host := { k.host with ghosts := k.host.ghosts.erase (src, core) } } :=
  if_pos (List.contains_iff_mem.mpr h)

/-- R610: the captain records a part's status. -/
theorem Pkg.partDone_records (hone : k.host.calls = [c]) (hparts : c.parts = [x]) (hresult : x.result = none) (st : Status) (info : Nat) :
    (k.partDone c.num x.target st info).host.calls = [{ c with parts := [{ x with result := some (st, info) }] }] := by
  unfold Pkg.partDone
  rw [hone, List.map_singleton, if_pos rfl, hparts, List.map_singleton, if_pos ⟨rfl, by rw [hresult]; rfl⟩]

end Parts

theorem FabOnly.host {k j : Pkg} (h : FabOnly k j) : j.host = k.host := by obtain ⟨⟨r, f, w, rfl⟩, -⟩ := h; rfl

section Packets

variable {s : State} {p : PkgId} {pkt : Packet} {t₀ : Nat} {k : Pkg} (hk : k = (s.pkg p).at t₀) {c : HostCall} {x : CallPart}
  (haccepts : k.accepts pkt = true)
include hk haccepts

theorem playDone_ends (hghosts : k.host.ghosts = []) (hone : k.host.calls = [c]) (hop : fieldAt c.entry 0 1 = 2) (hparts : c.parts = [x])
    (htarget : x.target = pkt.src) (hcore : x.core = fieldAt pkt.body 14 1) (hresult : x.result = none) :
    Completes (.playDone p pkt t₀) s (fun t => (t.pkg p).host.calls =
      [{ c with parts := [{ x with result := some (fieldAt pkt.body 12 2, fieldAt pkt.body 8 4) }] }]) := by
  refine completes_of_sequenced hk haccepts rfl fun j hj t ends => ?_
  rw [ends.host]
  exact Pkg.playDone_ends (k := j) (by rw [hj.host]; exact hghosts) (by rw [hj.host]; exact hone) hop hparts htarget hcore hresult _ _

theorem playDone_ghost (h : (pkt.src, fieldAt pkt.body 14 1) ∈ k.host.ghosts) :
    Completes (.playDone p pkt t₀) s (fun t => (t.pkg p).host.calls = k.host.calls ∧
      (t.pkg p).host.ghosts = k.host.ghosts.erase (pkt.src, fieldAt pkt.body 14 1)) := by
  refine completes_of_sequenced hk haccepts rfl fun j hj t ends => ?_
  rw [ends.host, ← hj.host]
  dsimp only
  rw [Pkg.playDone_ghost (k := j) (by rw [hj.host]; exact h)]
  exact ⟨rfl, rfl⟩

theorem fanoutDone_records (hone : k.host.calls = [c]) (hnum : c.num = fieldAt pkt.body 4 4 / 2) (hparts : c.parts = [x]) (htarget : x.target = pkt.src)
    (hresult : x.result = none) :
    Completes (.fanoutDone p pkt t₀) s (fun t => (t.pkg p).host.calls =
      [{ c with parts := [{ x with result := some (fieldAt pkt.body 32 2, fieldAt pkt.body 24 4) }] }]) := by
  refine completes_of_sequenced hk haccepts rfl fun j hj t ends => ?_
  rw [ends.host, ← hnum, ← htarget]
  exact Pkg.partDone_records (k := j) (by rw [hj.host]; exact hone) hparts hresult _ _

end Packets

end Sys2Proof.Machine
end

section
/-! PROOFS. Completions, timeouts and acknowledgements (R481, R482, R595, R596, R604); O36. -/

namespace Sys2Proof.Machine

/-! ### Completions (R595, R596) -/

section Complete

variable {k : Pkg} {c : HostCall}

theorem Pkg.startReady_of_none (h : k.host.calls = []) (q fuel : Nat) : k.startReady q fuel = k := by
  cases fuel with
  | zero => rfl
  | succ fuel =>
    unfold Pkg.startReady
    rw [h]
    rfl

/-- What a completion without an interrupt leaves. -/
theorem Pkg.cqWrite_shows (k : Pkg) (cq : Nat) (e : Bytes) :
    (k.cqWrite cq e false).host = { k.host with
      mem := Memory.writeBytes k.host.mem (k.getF (F.HIF_CQ_BASE cq) * 4096 + 16 * k.getF (F.HIF_CQ_WINDEX cq)) (e.take 15 ++ leBytes 1 (fieldAt e 15 1 + k.getF (F.HIF_CQ_PHASE cq))) } ∧
    (k.cqWrite cq e false).getF (F.HIF_CQ_WINDEX cq) = (k.getF (F.HIF_CQ_WINDEX cq) + 1) % max 1 (k.getF (F.HIF_CQ_SIZE cq)) ∧
    ∀ f : Fld, f.off ≠ 0x2020010 + 0x40 * cq → (k.cqWrite cq e false).getF f = k.getF f := by
  have apart : (F.HIF_CQ_PHASE cq).apart (F.HIF_CQ_WINDEX cq) = true := (Fld.apart_iff _ _).mpr (.inr (.inr (show 32 + 17 ≤ 63 by decide)))
  have fits : (k.getF (F.HIF_CQ_WINDEX cq) + 1) % max 1 (k.getF (F.HIF_CQ_SIZE cq)) < 2 ^ 17 := by
    have size : k.getF (F.HIF_CQ_SIZE cq) < 2 ^ 17 := k.getF_lt (F.HIF_CQ_SIZE cq)
    exact (Nat.mod_lt _ (by omega)).trans_le (by omega)
  unfold Pkg.cqWrite
  dsimp only
  rw [if_neg Bool.false_ne_true]
  split
  · refine ⟨rfl, ?_, fun f hf => ?_⟩
    · rw [Pkg.getF_setF_apart _ _ _ _ apart, Pkg.getF_setF_same _ _ _ rfl]
      exact Nat.mod_eq_of_lt fits
    · rw [Pkg.getF_setF_apart _ _ _ _ (Fld.apart_of_off (Ne.symm hf)), Pkg.getF_setF_apart _ _ _ _ (Fld.apart_of_off (Ne.symm hf))]
      rfl
  · refine ⟨rfl, ?_, fun f hf => ?_⟩
    · rw [Pkg.getF_setF_same _ _ _ rfl]
      exact Nat.mod_eq_of_lt fits
    · rw [Pkg.getF_setF_apart _ _ _ _ (Fld.apart_of_off (Ne.symm hf))]
      rfl

theorem cqEntry_kind (id status orig info head sq : Nat) : fieldAt (cqEntry id status orig info head sq 0) 15 1 = 0 := by
  unfold fieldAt cqEntry
  rw [List.drop_left' (by simp [leBytes_length])]
  rfl

/-- The completed call is gone; its record and its duplicates take the completion. -/
def Pkg.callGone (k : Pkg) (c : HostCall) (st : Status) (info : Nat) : Pkg :=
  { k with host := { k.host with
      calls := (k.host.calls.filter (fun x => x.num != c.num)).map (fun x =>
        if c.dupOf.isNone ∧ x.dupOf = some c.num ∧ x.result.isNone = true then { x with result := some (0x9601, info), orig := st } else x)
      replay := k.host.replay.map (fun r => if c.dupOf.isNone ∧ r.num = c.num then { r with done := some (st, info) } else r) } }

theorem Pkg.callGone_shows (hone : k.host.calls = [c]) (st : Status) (info : Nat) : (k.callGone c st info).host.calls = [] ∧
    (k.callGone c st info).host.mem = k.host.mem ∧ ∀ f, (k.callGone c st info).getF f = k.getF f := by
  refine ⟨?_, rfl, fun _ => rfl⟩
  show (k.host.calls.filter (fun x => x.num != c.num)).map _ = []
  rw [hone, List.filter_cons_of_neg (by simp)]
  rfl

theorem Pkg.completeCall_completes {st : Status} {info : Nat} (hone : k.host.calls = [c]) (hdup : c.dupOf = none) (hirq : bit (fieldAt c.entry 1 1) 0 = false) :
    k.completeCall c st info = ((((k.cqWrite (k.getF (F.HIF_SQ_CQ c.sq)) (cqEntry (fieldAt c.entry 4 4) st st info (k.getF (F.HIF_SQ_HEAD c.sq)) c.sq 0) false).inc
      (F.HIF_COUNTS 1)).callGone c st info).showRunning c.sq) := by
  obtain ⟨j, hj⟩ : ∃ j, j = (k.cqWrite (k.getF (F.HIF_SQ_CQ c.sq)) (cqEntry (fieldAt c.entry 4 4) st st info (k.getF (F.HIF_SQ_HEAD c.sq)) c.sq 0) false).inc
    (F.HIF_COUNTS 1) := ⟨_, rfl⟩
  have one : j.host.calls = [c] := by
    rw [hj]
    show (k.cqWrite _ _ false).host.calls = [c]
    rw [(k.cqWrite_shows _ _).1]
    exact hone
  have gone : ((j.callGone c st info).showRunning c.sq).host.calls = [] := (Pkg.callGone_shows one st info).1
  rw [← hj, ← Pkg.startReady_of_none gone c.sq 4096]
  unfold Pkg.completeCall
  dsimp only
  rw [hirq, show (if c.dupOf.isSome = true then c.orig else st) = st from if_neg (by rw [hdup]; exact Bool.false_ne_true), ← hj]
  rfl

end Complete

theorem Pkg.call_updCall (k : Pkg) (num : Nat) {f : HostCall → HostCall} (hf : ∀ c, (f c).num = c.num) : (k.updCall num f).call num = (k.call num).map f := by
  have nums (c : HostCall) : (if c.num = num then f c else c).num = c.num := by
    split
    · exact hf c
    · rfl
  unfold Pkg.call
  refine (findCall_map nums).trans ?_
  cases h : k.host.calls.find? (fun c => c.num == num) with
  | none => rfl
  | some c =>
    have mine := List.find?_some h
    rw [Option.map_some, Option.map_some, if_pos (beq_iff_eq.mp mine)]

/-- A call that is decided at its deadline (R604). -/
def HostCall.timedOut (c : HostCall) : HostCall := { c with started := true, result := some (0x6601, 0), parts := [] }

/-! ### Acknowledgements (R482) -/

section Acks

variable {u : Unacked}

theorem Fabric.markThrottle_sends (f : Fabric) (dst : Nat) : (f.markThrottle dst).unacked = f.unacked ∧ (f.markThrottle dst).held = f.held ∧
    (f.markThrottle dst).done = f.done := by
  unfold Fabric.markThrottle
  split <;> exact ⟨rfl, rfl, rfl⟩

theorem Fabric.complete_of_none {f : Fabric} (h : f.unacked = []) (dst slot sid seq : Nat) (st : Status) (data : Nat) :
    f.complete dst slot sid seq st data = f := by
  unfold Fabric.complete
  rw [h]
  rfl

/-- The only sequence completes, and nothing is left to complete. -/
theorem Fabric.complete_one {f : Fabric} (hone : f.unacked = [u]) {dst slot sid seq : Nat} (hdst : u.pkt.dst = dst) (hslot : u.pkt.slot = slot)
    (hsid : u.pkt.sid = sid) (hseq : u.pkt.seq = seq) (st : Status) (data : Nat) :
    (f.complete dst slot sid seq st data).unacked = [] ∧ (f.complete dst slot sid seq st data).held = f.held ∧
      ∃ d, (f.complete dst slot sid seq st data).done = f.done ++ [(u.owner, d)] := by
  have found : f.unacked.find? (fun u => u.pkt.dst == dst && u.pkt.slot == slot && u.pkt.sid == sid && u.pkt.seq == seq) = some u := by
    rw [hone, List.find?_singleton, hdst, hslot, hsid, hseq]
    exact if_pos (by simp)
  unfold Fabric.complete
  rw [found, hone]
  exact ⟨List.erase_cons_head _ _, rfl, _, rfl⟩

end Acks

/-- R482: a packet acknowledged with a final status settles the one sequence it names. -/
theorem Pkg.acknowledge_one {k : Pkg} {pkt : Packet} {u : Unacked} (hclass : statusClass (fieldAt pkt.body 6 2) ≠ 1) (hone : k.fab.unacked = [u])
    (hheld : k.fab.held = []) (howner : u.owner = .none) (hdst : u.pkt.dst = pkt.src) (hslot : u.pkt.slot = bits (fieldAt pkt.body 12 2) 13 12)
    (hsid : u.pkt.sid = bits (fieldAt pkt.body 12 2) 11 0) (hseq : u.pkt.seq = fieldAt pkt.body 0 4) (hdone : k.fab.done = []) :
    (k.acknowledge pkt).fab.unacked = [] := by
  obtain ⟨j, hj⟩ : ∃ j, j = (if bit (fieldAt pkt.body 8 1) 0 = true then ({ k with fab := k.fab.markThrottle pkt.src } : Pkg) else k) := ⟨_, rfl⟩
  obtain ⟨unacked, held, done⟩ : j.fab.unacked = k.fab.unacked ∧ j.fab.held = k.fab.held ∧ j.fab.done = k.fab.done := by
    rw [hj]
    split
    · exact k.fab.markThrottle_sends pkt.src
    · exact ⟨rfl, rfl, rfl⟩
  have seq : (fieldAt pkt.body 0 4 + 0) % 2 ^ 32 = fieldAt pkt.body 0 4 := Nat.mod_eq_of_lt (fieldAt_lt_pow _ _ _)
  have found : (j.fab.unackedAt pkt.src (bits (fieldAt pkt.body 12 2) 13 12) (bits (fieldAt pkt.body 12 2) 11 0) (fieldAt pkt.body 0 4)).isNone = false := by
    unfold Fabric.unackedAt
    rw [unacked, hone, List.find?_singleton, hdst, hslot, hsid, hseq, if_pos (by simp)]
    rfl
  obtain ⟨none, keptHeld, d, last⟩ := Fabric.complete_one (unacked.trans hone) hdst hslot hsid hseq (fieldAt pkt.body 6 2) (fieldAt pkt.body 16 16)
  obtain ⟨n, hn⟩ : ∃ n, max 1 (fieldAt pkt.body 4 2) = n + 1 := ⟨max 1 (fieldAt pkt.body 4 2) - 1, by omega⟩
  unfold Pkg.acknowledge
  dsimp only
  rw [← hj, if_neg hclass, if_neg (by rw [found]; rintro ⟨-, h⟩; cases h), hn, List.range_succ_eq_map, List.foldl_cons, seq,
    List.foldl_fixed' (fun i => Fabric.complete_of_none none _ _ _ _ _ _)]
  generalize j.fab.complete pkt.src _ _ _ _ _ = f at none keptHeld last
  have unowned : ∀ x ∈ ({ j with fab := f } : Pkg).fab.done, x.1 = .none := fun x hx => by
    rw [show ({ j with fab := f } : Pkg).fab.done = _ from last, done, hdone, List.nil_append] at hx
    rw [List.mem_singleton.mp hx]
    exact howner
  rw [Pkg.settleAll_of_unowned unowned, Pkg.releaseHeld_of_none (keptHeld.trans (held.trans hheld))]
  exact none

section Commands

variable {s : State} {p : PkgId} {t₀ : Nat} {k : Pkg} (hk : k = (s.pkg p).at t₀)
include hk

theorem callComplete_completes {c : HostCall} {st info : Nat} (hdone : k.fab.done = []) (hone : k.host.calls = [c]) (hresult : c.result = some (st, info))
    (hdup : c.dupOf = none) (hen : k.getF (F.HIF_CQ_EN (k.getF (F.HIF_SQ_CQ c.sq))) = 1) (hfull : k.cqFull (k.getF (F.HIF_SQ_CQ c.sq)) = false)
    (hirq : bit (fieldAt c.entry 1 1) 0 = false) (hsq : c.sq < 256) :
    Completes (.callComplete p c.num t₀) s (fun t => (t.pkg p).host.calls = [] ∧
      (t.pkg p).getF (F.HIF_CQ_WINDEX (k.getF (F.HIF_SQ_CQ c.sq))) =
        (k.getF (F.HIF_CQ_WINDEX (k.getF (F.HIF_SQ_CQ c.sq))) + 1) % max 1 (k.getF (F.HIF_CQ_SIZE (k.getF (F.HIF_SQ_CQ c.sq)))) ∧
      (t.pkg p).getF (F.HIF_COUNTS 1) = min (2 ^ 64 - 1) (k.getF (F.HIF_COUNTS 1) + 1) ∧
      (t.pkg p).host.mem = Memory.writeBytes k.host.mem
        (k.getF (F.HIF_CQ_BASE (k.getF (F.HIF_SQ_CQ c.sq))) * 4096 + 16 * k.getF (F.HIF_CQ_WINDEX (k.getF (F.HIF_SQ_CQ c.sq))))
        ((cqEntry (fieldAt c.entry 4 4) st st info (k.getF (F.HIF_SQ_HEAD c.sq)) c.sq 0).take 15 ++
          leBytes 1 (k.getF (F.HIF_CQ_PHASE (k.getF (F.HIF_SQ_CQ c.sq)))))) := by
  obtain ⟨cq, hcq⟩ : ∃ cq, cq = k.getF (F.HIF_SQ_CQ c.sq) := ⟨_, rfl⟩
  rw [← hcq] at hen hfull ⊢
  obtain ⟨j, hj⟩ : ∃ j, j = k.cqWrite cq (cqEntry (fieldAt c.entry 4 4) st st info (k.getF (F.HIF_SQ_HEAD c.sq)) c.sq 0) false := ⟨_, rfl⟩
  obtain ⟨hhost, hindex, hkept⟩ := k.cqWrite_shows cq (cqEntry (fieldAt c.entry 4 4) st st info (k.getF (F.HIF_SQ_HEAD c.sq)) c.sq 0)
  rw [cqEntry_kind, Nat.zero_add] at hhost
  rw [← hj] at hhost hindex hkept
  have run := Pkg.completeCall_completes (st := st) (info := info) hone hdup hirq
  rw [← hcq, ← hj] at run
  have cqLow : cq < 2 ^ 8 := hcq ▸ k.getF_lt (F.HIF_SQ_CQ c.sq)
  obtain ⟨hcalls, hmem, hgetF⟩ := Pkg.callGone_shows (k := j.inc (F.HIF_COUNTS 1)) (c := c) (by show j.host.calls = [c]; rw [hhost]; exact hone) st info
  have settled : k.settleHost.decideCalls = k := by rw [Pkg.settleHost_of_none hdone, Pkg.decideCalls_of_one hone hresult]
  have call : k.call c.num = some c := by
    unfold Pkg.call
    rw [hone, List.find?_singleton, if_pos (beq_self_eq_true _)]
  refine completes_of_updPkg_eq (j := k.completeCall c st info) rfl ?_ fun t ht => ?_
  · dsimp only
    rw [← hk, settled, call]
    dsimp only
    rw [hresult]
    dsimp only
    rw [← hcq, (Pkg.flag_iff k _).mpr hen, hfull]
    rfl
  · rw [ht, run]
    refine ⟨hcalls, ?_, ?_, ?_⟩
    · unfold Pkg.showRunning
      rw [Pkg.getF_setF_apart _ _ _ _ (Fld.apart_of_off (by simp only [F.HIF_SQ_RUNNING, F.HIF_CQ_WINDEX]; omega)), hgetF,
        Pkg.getF_inc_apart _ _ _ (Fld.apart_of_off (by simp only [F.HIF_COUNTS, F.HIF_CQ_WINDEX]; omega)), hindex]
    · unfold Pkg.showRunning
      rw [Pkg.getF_setF_apart _ _ _ _ (Fld.apart_of_off (by simp only [F.HIF_SQ_RUNNING, F.HIF_COUNTS]; omega)), hgetF,
        Pkg.getF_inc_same _ _ rfl, hkept _ (by simp only [F.HIF_COUNTS]; omega)]
      rfl
    · show ((j.inc (F.HIF_COUNTS 1)).callGone c st info).host.mem = _
      rw [hmem]
      show j.host.mem = _
      rw [hhost]

theorem hostCallTimeout_decides {num : Nat} {c : HostCall} (hdone : k.fab.done = []) (hcall : k.call num = some c) (hresult : c.result = none)
    (hdup : c.dupOf = none) (hparts : callResult c = none) (hnop : fieldAt c.entry 0 1 ≠ 1) (hpost : fieldAt c.entry 0 1 ≠ 4) (hlate : c.deadline ≤ k.now) :
    Completes (.hostCallTimeout p num t₀) s (fun t =>
      ((t.pkg p).call num).map (fun x => (x.result, x.parts)) = some (some (0x6601, 0), []) ∧
      (t.pkg p).host.ghosts = k.host.ghosts ++ c.openPlays ∧
      (t.pkg p).getF (F.HIF_COUNTS 4) = min (2 ^ 64 - 1) (k.getF (F.HIF_COUNTS 4) + 1)) := by
  have call : k.decideCalls.call num = some c := by rw [Pkg.call_decideCalls, hcall, Option.map_some, HostCall.decided_of_open hresult hparts]
  obtain ⟨j, hj⟩ : ∃ j, j = (({ k.decideCalls with host := { k.decideCalls.host with ghosts := k.decideCalls.host.ghosts ++ c.openPlays } } : Pkg).inc (F.HIF_COUNTS 4)) :=
    ⟨_, rfl⟩
  have callJ : j.call num = some c := by
    rw [hj]
    exact call
  have counts : j.getF (F.HIF_COUNTS 4) = min (2 ^ 64 - 1) (k.getF (F.HIF_COUNTS 4) + 1) := by
    rw [hj, Pkg.getF_inc_same _ _ rfl]
    rfl
  have ghosts : j.host.ghosts = k.host.ghosts ++ c.openPlays := by
    rw [hj]
    rfl
  refine completes_of_updPkg_eq (j := j.updCall num HostCall.timedOut) rfl ?_ fun t ht => ?_
  · dsimp only
    rw [← hk, Pkg.settleHost_of_none hdone, call]
    dsimp only
    rw [if_neg (by
      rw [hresult, hdup]
      rintro (h | h | h | h | h)
      · cases h
      · cases h
      · exact absurd hlate (Nat.not_le.mpr h)
      · exact hnop h
      · exact hpost h), ← hj]
    rfl
  · rw [ht]
    refine ⟨?_, ghosts, counts⟩
    rw [Pkg.call_updCall j num (f := HostCall.timedOut) fun _ => rfl, callJ]
    rfl

theorem ack_completes {pkt : Packet} {u : Unacked} (hscreen : (k.screen pkt).2 = true) (hclass : statusClass (fieldAt pkt.body 6 2) ≠ 1)
    (hone : k.fab.unacked = [u]) (hheld : k.fab.held = []) (howner : u.owner = .none) (hdst : u.pkt.dst = pkt.src)
    (hslot : u.pkt.slot = bits (fieldAt pkt.body 12 2) 13 12) (hsid : u.pkt.sid = bits (fieldAt pkt.body 12 2) 11 0) (hseq : u.pkt.seq = fieldAt pkt.body 0 4)
    (hdone : k.fab.done = []) : Completes (.ack p pkt t₀) s (fun t => (t.pkg p).fab.unacked = []) := by
  obtain ⟨unacked, held, done⟩ := Pkg.screen_sends hscreen
  obtain ⟨j, hscreened⟩ : ∃ j, k.screen pkt = (j, true) := ⟨_, Prod.ext rfl hscreen⟩
  rw [hscreened] at unacked held done
  refine completes_of_updPkg_eq (j := j.acknowledge pkt) rfl ?_ fun t ht => ?_
  · dsimp only
    rw [← hk, hscreened]
    rfl
  · rw [ht]
    exact Pkg.acknowledge_one hclass (unacked.trans hone) (held.trans hheld) howner hdst hslot hsid hseq (done.trans hdone)

theorem ack_retryable {pkt : Packet} (hscreen : (k.screen pkt).2 = true) (hclass : statusClass (fieldAt pkt.body 6 2) = 1) :
    Completes (.ack p pkt t₀) s (fun t => (t.pkg p).fab.unacked = k.fab.unacked) := by
  have unacked := (Pkg.screen_sends hscreen).1
  obtain ⟨j, hscreened⟩ : ∃ j, k.screen pkt = (j, true) := ⟨_, Prod.ext rfl hscreen⟩
  rw [hscreened] at unacked
  refine completes_of_updPkg_eq (j := j.acknowledge pkt) rfl ?_ fun t ht => ?_
  · dsimp only
    rw [← hk, hscreened]
    rfl
  · rw [ht, ← unacked]
    unfold Pkg.acknowledge
    dsimp only
    rw [if_pos hclass]
    split
    · exact (j.fab.markThrottle_sends pkt.src).1
    · rfl

theorem deliveryGiveUp_drops {dst sid seq : Nat} {sl : SlotId} {u : Unacked} (hone : k.fab.unacked = [u]) (hheld : k.fab.held = []) (howner : u.owner = .none)
    (hdst : u.pkt.dst = dst) (hslot : u.pkt.slot = sl.val) (hsid : u.pkt.sid = sid) (hseq : u.pkt.seq = seq) (hdone : k.fab.done = [])
    (hlate : k.getF F.FAB_LIFETIME + 2048 < (2 ^ 32 + k.now - u.pkt.born) % 2 ^ 32) :
    Completes (.deliveryGiveUp p dst sl sid seq t₀) s (fun t => (t.pkg p).fab.unacked = [] ∧ (t.pkg p).getF F.FAB_EV_TIMEOUT = 1 ∧
      (t.pkg p).getF (F.FAB_COUNTS 5) = min (2 ^ 64 - 1) (k.getF (F.FAB_COUNTS 5) + 1)) := by
  have found : k.fab.unackedAt dst sl sid seq = some u := by
    unfold Fabric.unackedAt
    rw [hone, List.find?_singleton, hdst, hslot, hsid, hseq, if_pos (by simp)]
  obtain ⟨i, hi⟩ : ∃ i, i = ({ k with fab := { k.fab with unacked := k.fab.unacked.erase u, done := k.fab.done ++ [(u.owner, 0x6301, 0)] } } : Pkg) := ⟨_, rfl⟩
  obtain ⟨j, hj⟩ : ∃ j, j = (i.inc (F.FAB_COUNTS 5)).raise F.FAB_EV_TIMEOUT := ⟨_, rfl⟩
  have fab : j.fab = i.fab := by
    rw [hj]
    rfl
  have unowned : ∀ x ∈ j.fab.done, x.1 = .none := fun x hx => by
    rw [fab, hi] at hx
    dsimp only at hx
    rw [hdone, List.nil_append] at hx
    rw [List.mem_singleton.mp hx]
    exact howner
  have gone : j.fab.unacked = [] := by
    rw [fab, hi]
    dsimp only
    rw [hone]
    exact List.erase_cons_head _ _
  have held : j.doneGone.decideCalls.fab.held = [] := by
    show j.fab.held = []
    rw [fab, hi]
    exact hheld
  refine completes_of_updPkg_eq (j := j.doneGone.decideCalls) rfl ?_ fun t ht => ?_
  · dsimp only
    rw [← hk, found]
    dsimp only
    rw [if_pos hlate, ← hi, ← hj, Pkg.settleAll_of_unowned unowned, Pkg.releaseHeld_of_none held]
  · rw [ht]
    refine ⟨gone, ?_, ?_⟩
    · show j.getF F.FAB_EV_TIMEOUT = 1
      rw [hj]
      exact Pkg.getF_raise_same _ _ (by decide) (by decide)
    · show j.getF (F.FAB_COUNTS 5) = _
      rw [hj, Pkg.getF_raise_apart _ _ _ (by decide), Pkg.getF_inc_same _ _ rfl, hi]
      rfl

end Commands

/-- Settles O36. -/
theorem hostCallsComplete : Obligations.HostCallsComplete := by
  intro s p t₀
  obtain ⟨k, hk⟩ : ∃ k, k = (s.pkg p).at t₀ := ⟨_, rfl⟩
  rw [← hk]
  exact ⟨fun c st info hdone hone hresult hdup hen hfull hirq hsq => callComplete_completes hk hdone hone hresult hdup hen hfull hirq hsq,
    fun num c hdone hcall hresult hdup hparts hnop hpost hlate => hostCallTimeout_decides hk hdone hcall hresult hdup hparts hnop hpost hlate,
    fun pkt c x haccepts hghosts hone hop hparts htarget hcore hresult => playDone_ends hk haccepts hghosts hone hop hparts htarget hcore hresult,
    fun pkt haccepts h => playDone_ghost hk haccepts h,
    fun pkt c x haccepts hone hnum hparts htarget hresult => fanoutDone_records hk haccepts hone hnum hparts htarget hresult,
    fun pkt u hscreen hclass hone hheld howner hdst hslot hsid hseq hdone =>
      ack_completes hk hscreen hclass hone hheld howner hdst hslot hsid hseq hdone,
    fun pkt hscreen hclass => ack_retryable hk hscreen hclass,
    fun dst sid seq sl u hone hheld howner hdst hslot hsid hseq hdone hlate =>
      deliveryGiveUp_drops hk hone hheld howner hdst hslot hsid hseq hdone hlate⟩

end Sys2Proof.Machine
end

section
/-! PROOFS. Jobs of COPY and STORAGE parts and their NVMe commands (R603, R606, R610, R630, R632, R634, R635). -/

namespace Sys2Proof.Machine

/-! ### What a job that goes on leaves -/

/-- The registers that no job writes: those outside the fabric's and the count of NVMe commands. -/
def jobKeeps (o : Nat) : Prop := 0x300000 ≤ o ∧ o ≠ 0x2040210

/-- `j` has the connections of `k`, and its registers that no job writes. -/
structure JobOnly (k j : Pkg) : Prop where
  conns : j.host.conns = k.host.conns
  cells : CellsKept jobKeeps k j

namespace JobOnly

variable {k j l : Pkg}

theorem refl (k : Pkg) : JobOnly k k := ⟨rfl, .refl k⟩

theorem trans (h : JobOnly k j) (g : JobOnly j l) : JobOnly k l := ⟨g.conns.trans h.conns, h.cells.trans g.cells⟩

theorem ofFab (h : FabOnly k j) : JobOnly k j := ⟨by rw [h.host], fun o ho => h.cells o (.inr ho.1)⟩

theorem afterHost {h : HostIf} (g : JobOnly { k with host := h } j) (hc : h.conns = k.host.conns) : JobOnly k j :=
  JobOnly.trans (j := { k with host := h }) ⟨hc, fun _ _ => rfl⟩ g

theorem foldl {α : Type} (xs : List α) {op : Pkg → α → Pkg} (h : ∀ k x, JobOnly k (op k x)) (k : Pkg) : JobOnly k (xs.foldl op k) :=
  List.foldlRecOn xs op (motive := fun j => JobOnly k j) (.refl k) fun j hj x _ => hj.trans (h j x)

end JobOnly

theorem Pkg.endJob_frame (k : Pkg) (j : HostJob) (st : Status) (info : Nat) : JobOnly k (k.endJob j st info) := by
  unfold Pkg.endJob
  dsimp only
  split
  · exact ⟨rfl, fun _ _ => rfl⟩
  · exact .afterHost (.ofFab (Pkg.sendHub_frame _ _ _ _ _ _)) rfl

theorem Pkg.nvmeIssue_frame (k : Pkg) (j : HostJob) (i : Nat) (e : StoEntry) (size : Nat) : JobOnly k (k.nvmeIssue j i e size) :=
  ⟨rfl, (show CellsKept jobKeeps k _ from fun _ _ => rfl).trans (.inc _ (fun h => h.2 rfl))⟩

theorem Pkg.entryIssue_frame (j : HostJob) (i fuel : Nat) (k : Pkg) (e : StoEntry) : JobOnly k (k.entryIssue j i fuel e).1 := by
  induction fuel generalizing k e with
  | zero => exact .refl k
  | succ fuel ih =>
    unfold Pkg.entryIssue
    dsimp only
    split
    · exact .refl k
    · exact (k.nvmeIssue_frame j i e _).trans (ih _ _)

theorem Pkg.jobIssue_frame (k : Pkg) (j : HostJob) : JobOnly k (k.jobIssue j).1 := by
  unfold Pkg.jobIssue
  refine List.foldlRecOn (List.range j.entries.length) _ (motive := fun a : Pkg × HostJob => JobOnly k a.1) (.refl k) fun a ha i _ => ?_
  dsimp only
  split
  · exact ha
  · next e _ =>
    refine ha.trans ?_
    generalize (if (!e.issued && mayStart a.2.entries i e) = true then a.1.entryStart a.2 e else e) = e'
    split
    · exact a.1.entryIssue_frame a.2 i 16384 e'
    · exact .refl a.1

theorem Pkg.jobStep_frame (k : Pkg) (j : HostJob) : JobOnly k (k.jobStep j) := by
  unfold Pkg.jobStep
  have issued := k.jobIssue_frame j
  generalize k.jobIssue j = a at issued
  dsimp only
  split
  · split <;> exact issued.trans (Pkg.endJob_frame _ _ _ _)
  · exact issued.trans ⟨rfl, fun _ _ => rfl⟩

theorem Pkg.nvmeEnd_frame (k : Pkg) (x : NvmeCmd) (st : Status) (nvme : Nat) : JobOnly k (k.nvmeEnd x st nvme) := by
  unfold Pkg.nvmeEnd
  dsimp only
  split
  · exact ⟨rfl, fun _ _ => rfl⟩
  · exact .afterHost (Pkg.jobStep_frame _ _) rfl

/-! ### A job with one entry -/

section One

variable {k : Pkg} {j : HostJob} {e : StoEntry} {x : NvmeCmd}

/-- An entry with nothing left issues nothing. -/
theorem Pkg.jobIssue_of_one (hone : j.entries = [e]) (hissued : e.issued = true) (hleft : e.left = 0) : k.jobIssue j = (k, j) := by
  have entry : k.entryIssue j 0 16384 e = (k, e) := by
    unfold Pkg.entryIssue
    exact if_pos (.inl hleft)
  have same : ({ j with entries := j.entries.set 0 e } : HostJob) = j := by
    rw [hone, List.set_cons_zero, ← hone]
  unfold Pkg.jobIssue
  rw [hone, List.length_singleton, List.range_one, List.foldl_cons, List.foldl_nil]
  dsimp only
  rw [hone, List.getElem?_cons_zero]
  dsimp only
  rw [show (if (!e.issued && mayStart [e] 0 e) = true then k.entryStart j e else e) = e from if_neg (by rw [hissued]; simp), if_pos hissued, entry]
  dsimp only
  rw [← hone, same]

/-- The command's entry takes its end. -/
def StoEntry.ended (e : StoEntry) (st : Status) (nvme : Nat) : StoEntry :=
  { e with out := e.out - 1, status := if e.status = 0 then st else e.status, nvme := if e.status = 0 then nvme else e.nvme }

/-- What the end of the only job's only command leaves (R634). -/
theorem Pkg.nvmeEnd_one (hjobs : k.host.jobs = [j]) (hcaptain : j.captain = x.captain) (htag : j.tag = x.tag) (hone : j.entries = [e]) (hentry : x.entry = 0)
    (st : Status) (nvme : Nat) : k.nvmeEnd x st nvme =
      ({ k with host := { k.host with nvme := k.host.nvme.erase x } } : Pkg).jobStep { j with entries := [e.ended st nvme] } := by
  have job : ({ k with host := { k.host with nvme := k.host.nvme.erase x } } : Pkg).job x.captain x.tag = some j := by
    show k.host.jobs.find? (fun j => j.captain == x.captain && j.tag == x.tag) = some j
    rw [hjobs, List.find?_singleton, hcaptain, htag, if_pos (by simp)]
  unfold Pkg.nvmeEnd
  dsimp only
  rw [job]
  dsimp only
  rw [hone, hentry]
  rfl

end One

/-! ### The end of a job -/

section Ends

variable {k : Pkg} {j : HostJob} {e : StoEntry} {x : NvmeCmd}

theorem Pkg.endJob_shows (hjobs : ∀ i ∈ k.host.jobs, i.captain = j.captain ∧ i.tag = j.tag) (st : Status) (info : Nat) : (k.endJob j st info).host.jobs = [] ∧
    (k.endJob j st info).host.nvme = k.host.nvme ∧ (k.endJob j st info).host.mem = k.host.mem := by
  have none : k.host.jobs.filter (fun x => !(x.captain == j.captain && x.tag == j.tag)) = [] := List.filter_eq_nil_iff.mpr fun i hi => by
    obtain ⟨hcaptain, htag⟩ := hjobs i hi
    rw [hcaptain, htag]
    simp
  unfold Pkg.endJob
  dsimp only
  rw [none]
  split
  · exact ⟨rfl, rfl, rfl⟩
  · rw [(Pkg.sendHub_frame _ _ _ _ _ _).host]
    exact ⟨rfl, rfl, rfl⟩

/-- A job whose only entry has finished well ends OK. -/
theorem Pkg.jobStep_done (hone : j.entries = [e]) (hissued : e.issued = true) (hout : e.out = 0) (hleft : e.left = 0) (hstatus : e.status = 0) :
    k.jobStep j = k.endJob j 0 0 := by
  have finished : e.finished = true := by
    unfold StoEntry.finished
    rw [hissued, hout, hleft]
    rfl
  unfold Pkg.jobStep
  rw [Pkg.jobIssue_of_one hone hissued hleft]
  dsimp only
  rw [hone, if_pos (by rw [List.all_cons, finished]; rfl)]
  have good : ((List.range [e].length).zip [e]).find? (fun x => x.2.status != 0) = none := by
    show [(0, e)].find? (fun x => x.2.status != 0) = none
    rw [List.find?_singleton, hstatus]
    rfl
  rw [good]

/-- A job whose only entry has commands outstanding waits for them. -/
theorem Pkg.jobStep_waits (hone : j.entries = [e]) (hissued : e.issued = true) (hout : e.out ≠ 0) (hleft : e.left = 0) : k.jobStep j = k.putJob j := by
  have unfinished : e.finished = false := by
    unfold StoEntry.finished
    rw [beq_false_of_ne hout, Bool.and_false, Bool.false_and]
  unfold Pkg.jobStep
  rw [Pkg.jobIssue_of_one hone hissued hleft]
  dsimp only
  rw [hone, if_neg (by rw [List.all_cons, unfinished]; decide)]

end Ends

/-! ### Jobs that wait and jobs that run (R603, R606) -/

section Runs

variable {k : Pkg} {j : HostJob}

/-- A job whose Hall Time has not come waits. -/
theorem Pkg.runJob_waits (hset : j.ht ≠ 0) (hearly : k.hallTime < j.ht) : k.runJob j = k.putJob j := by
  unfold Pkg.runJob
  exact if_pos (by rw [decide_eq_true hearly, bne_iff_ne.mpr hset, Bool.and_self, Bool.or_true])

theorem Pkg.putJob_new (hnew : k.job j.captain j.tag = none) : (k.putJob j).host.jobs = k.host.jobs ++ [j] := by
  have others : k.host.jobs.filter (fun x => !(x.captain == j.captain && x.tag == j.tag)) = k.host.jobs := List.filter_eq_self.mpr fun x hx => by
    have other := List.find?_eq_none.mp hnew x hx
    rw [Bool.not_eq_true'] at *
    exact Bool.eq_false_iff.mpr other
  exact congrArg (· ++ [j]) others

/-- A job whose Hall Time is now runs without being late. -/
theorem Pkg.runJob_copies {va host : Nat} (hva : j.va = some va) (hhost : j.hostAddr = some host) (hstorage : j.storage = false) (hstarted : j.started = false)
    (hnow : j.ht = k.hallTime) : k.runJob j = (k.putJob { j with started := true }).runCopy { j with started := true } := by
  unfold Pkg.runJob
  dsimp only
  rw [hva, hhost, hstorage, hstarted, hnow, if_neg (by simp), if_neg Bool.false_ne_true, if_neg (fun h => Nat.lt_irrefl _ h.2)]

theorem XltOnly.host {k j : Pkg} (h : XltOnly k j) : j.host = k.host := by obtain ⟨⟨r, x, ce, n, w, rfl⟩, -⟩ := h; rfl

/-- R606: a copy to the host reads its range, when it maps, and writes it to the host. -/
theorem Pkg.runCopy_reads {va host y : Nat} (hva : j.va = some va) (hhost : j.hostAddr = some host) (hdir : j.dir = 1)
    (hmaps : k.maps j.slot va j.arg (.host j.slot) .read y = true) : ∃ i, XltOnly k i ∧
      k.runCopy j = ({ i with host := { i.host with mem := Memory.writeBytes i.host.mem host (Memory.readBytes k.hbm y j.arg) } } : Pkg).endJob j 0 j.arg := by
  obtain ⟨hframe, hread⟩ := Pkg.vread_of_maps rfl hmaps
  obtain ⟨i, hi⟩ : ∃ i, (k.vread j.slot (.host j.slot) va j.arg).1 = i := ⟨_, rfl⟩
  rw [hi] at hframe
  refine ⟨i, hframe, ?_⟩
  unfold Pkg.runCopy Pkg.copyOut
  dsimp only
  rw [hdir, if_neg (by decide), hva, hhost]
  dsimp only [Option.getD_some]
  rw [show k.vread j.slot (.host j.slot) va j.arg = (i, Memory.readBytes k.hbm y j.arg, none) from Prod.ext hi hread]
  dsimp only
  rw [readBytes_length]
  rfl

/-- R606: a copy to the host, of a range that maps. -/
theorem Pkg.runCopy_out {va host y : Nat} (hva : j.va = some va) (hhost : j.hostAddr = some host) (hdir : j.dir = 1)
    (hjobs : ∀ i ∈ k.host.jobs, i.captain = j.captain ∧ i.tag = j.tag) (hmaps : k.maps j.slot va j.arg (.host j.slot) .read y = true) :
    (k.runCopy j).host.jobs = [] ∧ (k.runCopy j).host.mem = Memory.writeBytes k.host.mem host (Memory.readBytes k.hbm y j.arg) := by
  obtain ⟨i, hframe, run⟩ := Pkg.runCopy_reads hva hhost hdir hmaps
  obtain ⟨jobs, -, mem⟩ := Pkg.endJob_shows (k := ({ i with host := { i.host with mem := Memory.writeBytes i.host.mem host (Memory.readBytes k.hbm y j.arg) } } : Pkg))
    (j := j) (by show ∀ a ∈ i.host.jobs, _; rw [hframe.host]; exact hjobs) 0 j.arg
  rw [run]
  refine ⟨jobs, mem.trans ?_⟩
  rw [← hframe.host]

end Runs

/-! ### The commands -/

section Commands

variable {s : State} {p : PkgId} {t₀ : Nat} {k : Pkg} (hk : k = (s.pkg p).at t₀)
include hk

theorem fanoutRun_waits {pkt : Packet} (data : Bytes) (haccepts : k.accepts pkt = true) (hop : fieldAt pkt.body 1 1 = 6) (hset : fieldAt pkt.body 8 8 ≠ 0)
    (hearly : k.hallTime < fieldAt pkt.body 8 8) (hjob : k.job pkt.src (fieldAt pkt.body 4 4 / 2 * 2) = none) :
    Completes (.fanoutRun p pkt data t₀) s (fun t => (t.pkg p).host.jobs = k.host.jobs ++
      [{ captain := pkt.src, tag := fieldAt pkt.body 4 4 / 2 * 2, slot := pkt.slot, storage := true, ht := fieldAt pkt.body 8 8,
         va := some (fieldAt pkt.body 16 8), arg := fieldAt pkt.body 24 4, dir := fieldAt pkt.body 28 4 % 2 }]) := by
  refine completes_of_sequenced hk haccepts rfl fun i hi t ends => ?_
  rw [ends.host, ← hi.host]
  have time : i.hallTime = k.hallTime := by
    unfold Pkg.hallTime Pkg.flag
    rw [hi.now, hi.getF _ (.inl (by decide))]
  have none : i.job pkt.src (fieldAt pkt.body 4 4 / 2 * 2) = none := by
    unfold Pkg.job
    rw [hi.host]
    exact hjob
  dsimp only
  rw [hop, none, if_neg (by rintro ⟨h, -⟩; cases h)]
  dsimp only [Option.getD_none]
  rw [Pkg.runJob_waits hset (by rw [time]; exact hearly)]
  exact Pkg.putJob_new none

theorem callAtHtAction_copies {j : HostJob} {va host y : Nat} (hjobs : k.host.jobs = [j]) (hstarted : j.started = false) (hset : j.ht ≠ 0) (hdue : j.ht ≤ k.hallTime)
    (hstorage : j.storage = false) (hva : j.va = some va) (hhost : j.hostAddr = some host) (hdir : j.dir = 1)
    (hmaps : k.maps j.slot va j.arg (.host j.slot) .read y = true) :
    Completes (.callAtHtAction p t₀) s (fun t => (t.pkg p).host.jobs = [] ∧
      (t.pkg p).host.mem = Memory.writeBytes k.host.mem host (Memory.readBytes k.hbm y j.arg)) := by
  obtain ⟨i, hi⟩ : ∃ i : HostJob, i = { j with ht := max j.ht k.hallTime } := ⟨_, rfl⟩
  have due : k.host.jobs.filter (fun j => !j.started && j.ht != 0 && decide (j.ht ≤ k.hallTime)) = [j] := by
    rw [hjobs]
    refine List.filter_cons_of_pos ?_
    rw [hstarted, bne_iff_ne.mpr hset, decide_eq_true hdue]
    rfl
  have only : ({ k with host := { k.host with jobs := [{ i with started := true }] } } : Pkg) = k.putJob { i with started := true } := by
    unfold Pkg.putJob
    rw [hjobs, hi, List.filter_cons_of_neg (by simp)]
    rfl
  have placed : Alike (fun _ => True) k ({ k with host := { k.host with jobs := [{ i with started := true }] } } : Pkg) := ⟨rfl, rfl, rfl, rfl, fun _ _ => rfl⟩
  have maps := placed.maps ⟨trivial, trivial, fun _ => trivial, fun _ _ => trivial⟩ hmaps
  have run : k.runJob i = ({ k with host := { k.host with jobs := [{ i with started := true }] } } : Pkg).runCopy { i with started := true } := by
    rw [only]
    exact Pkg.runJob_copies (va := va) (host := host) (by rw [hi]; exact hva) (by rw [hi]; exact hhost) (by rw [hi]; exact hstorage) (by rw [hi]; exact hstarted)
      (by rw [hi]; exact Nat.max_eq_right hdue)
  refine completes_of_updPkg_eq (j := k.runJob i) rfl ?_ fun t ht => ?_
  · dsimp only
    rw [← hk, due, List.foldl_cons, List.foldl_nil, ← hi]
  · rw [ht, run]
    have slot : i.slot = j.slot := by rw [hi]
    have arg : i.arg = j.arg := by rw [hi]
    have copied := Pkg.runCopy_out (j := { i with started := true }) (va := va) (host := host) (y := y) (by rw [hi]; exact hva) (by rw [hi]; exact hhost)
      (by rw [hi]; exact hdir) (fun a (ha : a ∈ [{ i with started := true }]) => by rw [List.mem_singleton.mp ha]; exact ⟨rfl, rfl⟩) (by rw [← slot, ← arg] at maps; exact maps)
    rw [← arg]
    exact copied

section Nvme

variable {key : Nat} {x : NvmeCmd} {j : HostJob} {e : StoEntry} (hcmd : k.nvmeCmd key = some x)
include hcmd

theorem nvmeCompletion_ends (hjobs : k.host.jobs = [j]) (hcaptain : j.captain = x.captain) (htag : j.tag = x.tag) (hone : j.entries = [e])
    (hentry : x.entry = 0) (hissued : e.issued = true) (hout : e.out = 1) (hleft : e.left = 0) (hstatus : e.status = 0) (hconn : x.conn < 16) :
    Completes (.nvmeCompletion p key 0 t₀) s (fun t => (t.pkg p).host.jobs = [] ∧ (t.pkg p).host.nvme = k.host.nvme.erase x ∧
      (t.pkg p).getF (F.HIF_STO_COUNTS (if x.toMemory then 0 else 1)) =
        min (2 ^ 64 - 1) (k.getF (F.HIF_STO_COUNTS (if x.toMemory then 0 else 1)) + x.size)) := by
  have entry : k.nvmeCmd key = some x := hcmd
  obtain ⟨i, hi⟩ : ∃ i, i = (k.setF (F.HIF_STO_NVME x.conn) 0).addSat (F.HIF_STO_COUNTS (if x.toMemory then 0 else 1)) x.size := ⟨_, rfl⟩
  have low : (if x.toMemory = true then 0 else 1) < 2 := by split <;> decide
  obtain ⟨n, hn⟩ : ∃ n, n = (if x.toMemory = true then 0 else 1) := ⟨_, rfl⟩
  rw [← hn] at low hi ⊢
  have counts : i.getF (F.HIF_STO_COUNTS n) = min (2 ^ 64 - 1) (k.getF (F.HIF_STO_COUNTS n) + x.size) := by
    rw [hi, Pkg.getF_addSat_same _ _ _ rfl, Pkg.getF_setF_apart _ _ _ _ (Fld.apart_of_off (by simp only [F.HIF_STO_NVME, F.HIF_STO_COUNTS]; omega))]
    rfl
  have host : i.host = k.host := by
    rw [hi]
    rfl
  have run : i.nvmeEnd x 0 0 = ({ i with host := { i.host with nvme := i.host.nvme.erase x } } : Pkg).endJob { j with entries := [e.ended 0 0] } 0 0 := by
    rw [Pkg.nvmeEnd_one (by rw [host]; exact hjobs) hcaptain htag hone hentry]
    refine Pkg.jobStep_done rfl hissued (by show e.out - 1 = 0; rw [hout]) hleft ?_
    show (if e.status = 0 then 0 else e.status) = 0
    rw [if_pos hstatus]
  refine completes_of_updPkg_eq (j := i.nvmeEnd x 0 0) rfl ?_ fun t ht => ?_
  · dsimp only
    rw [← hk, entry]
    dsimp only
    rw [if_pos rfl, ← hn, ← hi]
  · rw [ht, run]
    obtain ⟨jobs, nvme, -⟩ := Pkg.endJob_shows (k := ({ i with host := { i.host with nvme := i.host.nvme.erase x } } : Pkg)) (j := { j with entries := [e.ended 0 0] })
      (fun a ha => by
        rw [show ({ i with host := { i.host with nvme := i.host.nvme.erase x } } : Pkg).host.jobs = k.host.jobs by rw [host], hjobs] at ha
        rw [List.mem_singleton.mp ha]
        exact ⟨rfl, rfl⟩) 0 0
    have frame := Pkg.endJob_frame ({ i with host := { i.host with nvme := i.host.nvme.erase x } } : Pkg) { j with entries := [e.ended 0 0] } 0 0
    refine ⟨jobs, nvme.trans (by rw [← host]), (frame.cells.getF ?_).trans counts⟩
    simp only [F.HIF_STO_COUNTS, jobKeeps]
    omega

theorem nvmeCompletion_fails {nvme : Nat} (hne : nvme ≠ 0) (hnvme : nvme < 2 ^ 16) (hconn : x.conn < 16) :
    Completes (.nvmeCompletion p key nvme t₀) s (fun t => (t.pkg p).getF (F.HIF_STO_NVME x.conn) = nvme ∧
      (t.pkg p).getF (F.HIF_STO_COUNTS 3) = min (2 ^ 64 - 1) (k.getF (F.HIF_STO_COUNTS 3) + 1)) := by
  obtain ⟨i, hi⟩ : ∃ i, i = ((k.setF (F.HIF_STO_NVME x.conn) nvme).inc (F.HIF_STO_COUNTS 3)).logError 0x5E03 .package 0 x.conn := ⟨_, rfl⟩
  have logged := Pkg.logError_frame ((k.setF (F.HIF_STO_NVME x.conn) nvme).inc (F.HIF_STO_COUNTS 3)) 0x5E03 .package 0 x.conn
  rw [← hi] at logged
  refine completes_of_updPkg_eq (j := i.nvmeEnd x 0x5E03 nvme) rfl ?_ fun t ht => ?_
  · dsimp only
    rw [← hk, hcmd]
    dsimp only
    rw [if_neg hne, ← hi]
  · have kept := (i.nvmeEnd_frame x 0x5E03 nvme).cells
    rw [ht]
    refine ⟨?_, ?_⟩
    · rw [kept.getF (by simp only [F.HIF_STO_NVME, jobKeeps]; omega), logged.getF _ (.inl (by simp only [F.HIF_STO_NVME]; omega)),
        Pkg.getF_inc_apart _ _ _ (Fld.apart_of_off (by simp only [F.HIF_STO_NVME, F.HIF_STO_COUNTS]; omega)), Pkg.getF_setF_same _ _ _ rfl]
      exact Nat.mod_eq_of_lt hnvme
    · rw [kept.getF (by simp only [F.HIF_STO_COUNTS, jobKeeps]; omega), logged.getF _ (.inl (by simp only [F.HIF_STO_COUNTS]; omega)),
        Pkg.getF_inc_same _ _ rfl, Pkg.getF_setF_apart _ _ _ _ (Fld.apart_of_off (by simp only [F.HIF_STO_NVME, F.HIF_STO_COUNTS]; omega))]
      rfl

theorem nvmeTimeout_ends (hlate : x.issued + 20000000000 ≤ k.now) (hjobs : k.host.jobs = [j]) (hcaptain : j.captain = x.captain) (htag : j.tag = x.tag)
    (hone : j.entries = [e]) (hentry : x.entry = 0) (hissued : e.issued = true) (hout : e.out = 2) (hleft : e.left = 0) (hstatus : e.status = 0) :
    Completes (.nvmeTimeout p key t₀) s (fun t => (t.pkg p).host.nvme = k.host.nvme.erase x ∧
      (t.pkg p).host.jobs.map (fun j => j.entries.map (fun e => (e.out, e.status))) = [[(1, 0x6E04)]]) := by
  have run : k.nvmeEnd x 0x6E04 0 =
      ({ k with host := { k.host with nvme := k.host.nvme.erase x } } : Pkg).putJob { j with entries := [e.ended 0x6E04 0] } := by
    rw [Pkg.nvmeEnd_one hjobs hcaptain htag hone hentry]
    refine Pkg.jobStep_waits rfl hissued ?_ hleft
    show e.out - 1 ≠ 0
    rw [hout]
    decide
  have others : k.host.jobs.filter (fun x => !(x.captain == j.captain && x.tag == j.tag)) = [] := by
    rw [hjobs, List.filter_cons_of_neg (by simp)]
    rfl
  refine completes_of_updPkg_eq (j := k.nvmeEnd x 0x6E04 0) rfl ?_ fun t ht => ?_
  · dsimp only
    rw [← hk, hcmd]
    exact if_pos hlate
  · rw [ht, run]
    refine ⟨rfl, ?_⟩
    unfold Pkg.putJob
    dsimp only
    rw [others, List.nil_append, List.map_singleton, List.map_singleton]
    show [[(e.out - 1, if e.status = 0 then 0x6E04 else e.status)]] = _
    rw [hout, if_pos hstatus]

end Nvme

end Commands

end Sys2Proof.Machine
end

section
/-! PROOFS. Storage connections and port S (R625–R631, R633); O38. -/

namespace Sys2Proof.Machine

/-! ### Folds that reach a state -/

/-- A step that reaches a state which every step keeps has reached it at the end. -/
theorem foldl_reaches {α β : Type} {f : β → α → β} {Q P : β → Prop} {x : α} {xs : List α} (hkeepQ : ∀ b, ∀ y ∈ xs, Q b → Q (f b y)) (hset : ∀ b, Q b → P (f b x))
    (hkeep : ∀ b, ∀ y ∈ xs, P b → P (f b y)) (hx : x ∈ xs) {b : β} (hb : Q b) : P (xs.foldl f b) := by
  induction xs generalizing b with
  | nil => exact absurd hx List.not_mem_nil
  | cons y ys ih =>
    have later {R : β → Prop} (h : ∀ b, ∀ z ∈ y :: ys, R b → R (f b z)) (b : β) (z : α) (hz : z ∈ ys) (hb : R b) : R (f b z) :=
      h b z (List.mem_cons_of_mem y hz) hb
    rw [List.foldl_cons]
    rcases List.mem_cons.mp hx with rfl | hx
    · exact List.foldlRecOn ys f (motive := P) (hset b hb) fun b hb z hz => later hkeep b z hz hb
    · exact ih (later hkeepQ) (later hkeep) hx (hkeepQ b y List.mem_cons_self hb)

/-! ### Connections (R629, R631) -/

section Conns

variable {k : Pkg} {i : Nat}

theorem Pkg.conn_setConn_same (k : Pkg) (hi : i < 16) (c : Conn) : (k.setConn i c).conn i = c := by
  unfold Pkg.setConn Pkg.conn
  simp [hi]

theorem Pkg.conn_setConn_other (k : Pkg) {n : Nat} (h : n ≠ i) (c : Conn) : (k.setConn n c).conn i = k.conn i := by
  unfold Pkg.setConn Pkg.conn
  simp [h]

theorem JobOnly.conn {k j : Pkg} (h : JobOnly k j) (i : Nat) : j.conn i = k.conn i := by
  unfold Pkg.conn
  rw [h.conns]

theorem Fld.sto_apart {n i : Nat} (h : n ≠ i) : (F.HIF_STO_ST n).off ≠ (F.HIF_STO_ST i).off := by
  simp only [F.HIF_STO_ST]
  omega

/-- R629: a connection that goes down shows it, and keeps its own state. -/
theorem Pkg.connDown_shows (k : Pkg) {n : Nat} (hn : n < 16) : (k.connDown n).getF (F.HIF_STO_ST n) = 0 ∧ (k.connDown n).getF (F.HIF_STO_IOQS n) = 0 ∧
    (∀ f : Fld, jobKeeps f.off → f.off ≠ (F.HIF_STO_ST n).off → (k.connDown n).getF f = k.getF f) ∧ ∀ i, (k.connDown n).conn i = k.conn i := by
  have frame : JobOnly ((k.setF (F.HIF_STO_ST n) 0).setF (F.HIF_STO_IOQS n) 0) (k.connDown n) := by
    unfold Pkg.connDown
    exact .foldl _ (fun k x => k.nvmeEnd_frame x 0x1E01 0) _
  have own : jobKeeps (0x2040100 + 0x8 * n) := ⟨by omega, by omega⟩
  refine ⟨?_, ?_, fun f hf hne => ?_, fun i => (frame.conn i).trans rfl⟩
  · rw [frame.cells.getF (f := F.HIF_STO_ST n) own, Pkg.getF_setF_apart _ _ _ _ ((Fld.apart_iff _ _).mpr (.inr (.inr (show 0 + 2 ≤ 32 by decide)))),
      Pkg.getF_setF_same _ _ _ rfl]
    rfl
  · rw [frame.cells.getF (f := F.HIF_STO_IOQS n) own, Pkg.getF_setF_same _ _ _ rfl]
    rfl
  · rw [frame.cells.getF hf, Pkg.getF_setF_apart _ (F.HIF_STO_IOQS n) _ _ (Fld.apart_of_off (Ne.symm hne)),
      Pkg.getF_setF_apart _ (F.HIF_STO_ST n) _ _ (Fld.apart_of_off (Ne.symm hne))]

/-- A connection that is not asked for. -/
def Pkg.connClosed (k : Pkg) (i : Nat) : Prop := k.getF (F.HIF_STO_ST i) = 0 ∧ k.getF (F.HIF_STO_IOQS i) = 0 ∧ (k.conn i).wanted = false

/-- One connection of STO_DISCONNECT. -/
def Pkg.connDropped (k : Pkg) (n : Nat) : Pkg := (k.setConn n { k.conn n with wanted := false }).connDown n

theorem Pkg.connDropped_closes (k : Pkg) (hi : i < 16) : (k.connDropped i).connClosed i := by
  obtain ⟨hst, hioqs, -, hconn⟩ := (k.setConn i { k.conn i with wanted := false }).connDown_shows hi
  refine ⟨hst, hioqs, ?_⟩
  rw [Pkg.connDropped, hconn, Pkg.conn_setConn_same _ hi]

theorem Pkg.connDropped_keeps {n : Nat} (hn : n < 16) (hi : i < 16) (h : k.connClosed i) : (k.connDropped n).connClosed i := by
  by_cases hne : n = i
  · rw [hne]
    exact k.connDropped_closes hi
  · obtain ⟨hst, hioqs, hwanted⟩ := h
    obtain ⟨-, -, hkept, hconn⟩ := (k.setConn n { k.conn n with wanted := false }).connDown_shows hn
    have own : jobKeeps (0x2040100 + 0x8 * i) := ⟨by omega, by omega⟩
    refine ⟨(hkept (F.HIF_STO_ST i) own (Ne.symm (Fld.sto_apart hne))).trans hst, (hkept (F.HIF_STO_IOQS i) own (Ne.symm (Fld.sto_apart hne))).trans hioqs, ?_⟩
    rw [Pkg.connDropped, hconn, Pkg.conn_setConn_other _ hne, hwanted]

/-- R629: every connection of the mask is closed. -/
theorem Pkg.connsDropped_close {mask : Nat} (hi : i < 16) (hmask : bit mask i = true) : (((List.range 16).filter (bit mask)).foldl Pkg.connDropped k).connClosed i :=
  foldl_reaches (Q := fun _ => True) (P := fun k : Pkg => k.connClosed i) (x := i) (fun _ _ _ _ => trivial) (fun k _ => k.connDropped_closes hi)
    (fun _ _ hn h => Pkg.connDropped_keeps (List.mem_range.mp (List.mem_filter.mp hn).1) hi h) (List.mem_filter.mpr ⟨List.mem_range.mpr hi, hmask⟩) trivial

/-! ### STO_CONNECT (R629, R633) -/

/-- An entry of a good table is good. -/
theorem Pkg.unitsGood_part {a n : Nat} (h : k.unitsGood (a * 4096) 4096 = true) (hn : n < 16) : k.unitsGood (a * 4096 + 256 * n) 256 = true := by
  unfold Pkg.unitsGood at h ⊢
  rw [List.all_eq_true] at h ⊢
  intro u hu
  refine h u ?_
  unfold hbmUnits at hu ⊢
  simp only [List.mem_map, List.mem_range] at hu ⊢
  obtain ⟨i, hi, rfl⟩ := hu
  exact ⟨4 * n + i, by omega, by omega⟩

/-- The table's entries. -/
def Pkg.connTable (k : Pkg) : List Bytes := (List.range 16).map (fun j => Memory.readBytes k.hbm (k.getF F.HIF_STO_TABLE * 4096 + 256 * j) 256)

theorem Pkg.connEntry_reads {n : Nat} (hgood : k.unitsGood (k.getF F.HIF_STO_TABLE * 4096 + 256 * n) 256 = true) :
    ∃ j, XltOnly k j ∧ k.connEntry n = (j, Memory.readBytes k.hbm (k.getF F.HIF_STO_TABLE * 4096 + 256 * n) 256) := by
  unfold Pkg.connEntry
  generalize k.getF F.HIF_STO_TABLE * 4096 + 256 * n = a at hgood ⊢
  have frame := k.hbmRead_frame a 256
  have read := Pkg.hbmRead_of_good hgood
  obtain ⟨⟨j, res⟩, h⟩ : ∃ q, q = k.hbmRead a 256 := ⟨_, rfl⟩
  rw [← h] at frame read ⊢
  dsimp only at frame read
  rw [read]
  exact ⟨j, frame, rfl⟩

/-- One entry read into the list. -/
def Pkg.connRead (a : Pkg × List Bytes) (i : Nat) : Pkg × List Bytes := ((a.1.connEntry i).1, a.2 ++ [(a.1.connEntry i).2])

theorem Pkg.connEntries_reads (hgood : k.unitsGood (k.getF F.HIF_STO_TABLE * 4096) 4096 = true) :
    ∃ j, XltOnly k j ∧ (List.range 16).foldl Pkg.connRead (k, []) = (j, k.connTable) := by
  suffices upTo : ∀ n, n ≤ 16 → ∃ j, XltOnly k j ∧ (List.range n).foldl Pkg.connRead (k, []) =
      (j, (List.range n).map (fun j => Memory.readBytes k.hbm (k.getF F.HIF_STO_TABLE * 4096 + 256 * j) 256)) from upTo 16 (Nat.le_refl 16)
  intro n hn
  induction n with
  | zero => exact ⟨k, .refl k, rfl⟩
  | succ n ih =>
    obtain ⟨j, hj, run⟩ := ih (by omega)
    have table : j.getF F.HIF_STO_TABLE = k.getF F.HIF_STO_TABLE := hj.getF F.HIF_STO_TABLE (by decide)
    have good : j.unitsGood (j.getF F.HIF_STO_TABLE * 4096 + 256 * n) 256 = true := by
      rw [table, hj.unitsGood]
      exact Pkg.unitsGood_part hgood (by omega)
    obtain ⟨i, hi, entry⟩ := Pkg.connEntry_reads good
    refine ⟨i, hj.trans hi, ?_⟩
    rw [List.range_succ, List.foldl_append, run, List.foldl_cons, List.foldl_nil, List.map_append, Pkg.connRead, entry, table, hj.hbm]
    rfl

/-- One connection of STO_CONNECT. -/
def Pkg.connAsked (es : List Bytes) (k : Pkg) (n : Nat) : Pkg :=
  if connValid (es.getD n []) && k.getF (F.HIF_STO_ST n) == 0 then
    (k.setConn n { k.conn n with wanted := true, entry := es.getD n [], last := k.now }).setF (F.HIF_STO_ST n) 1
  else k

theorem Pkg.stoConnect_asks (mask : Nat) (hgood : k.unitsGood (k.getF F.HIF_STO_TABLE * 4096) 4096 = true) : ∃ j, XltOnly k j ∧ k.stoConnect mask =
    if k.connTable.any (fun b => bit (fieldAt b 19 1) 0 && !connValid b) = true ∨ 64 < ((k.connTable.filter connValid).map (fun b => fieldAt b 18 1)).sum
    then j.raise F.HIF_EV_STO_REFUSED else ((List.range 16).filter (bit mask)).foldl (Pkg.connAsked k.connTable) j := by
  obtain ⟨j, hj, read⟩ := Pkg.connEntries_reads hgood
  refine ⟨j, hj, ?_⟩
  unfold Pkg.stoConnect
  rw [show (List.range 16).foldl (fun (a : Pkg × List Bytes) i =>
    let (k, b) := a.1.connEntry i
    (k, a.2 ++ [b])) (k, []) = (j, k.connTable) from read]
  generalize k.connTable = es
  rfl

theorem Pkg.connAsked_other (es : List Bytes) {n : Nat} (h : n ≠ i) : (k.connAsked es n).getF (F.HIF_STO_ST i) = k.getF (F.HIF_STO_ST i) := by
  unfold Pkg.connAsked
  split
  · exact Pkg.getF_setF_apart _ _ _ _ (Fld.apart_of_off (Fld.sto_apart h))
  · rfl

theorem Pkg.connAsked_same (es : List Bytes) : (k.connAsked es i).getF (F.HIF_STO_ST i) =
    if connValid (es.getD i []) = true ∧ k.getF (F.HIF_STO_ST i) = 0 then 1 else k.getF (F.HIF_STO_ST i) := by
  unfold Pkg.connAsked
  simp only [Bool.and_eq_true, beq_iff_eq]
  split
  · exact Pkg.getF_setF_same _ _ _ rfl
  · rfl

/-- R629: a connection of the mask with a valid entry begins to connect. -/
theorem Pkg.connsAsked_connect {es : List Bytes} {mask : Nat} (hi : i < 16) (hmask : bit mask i = true) (hvalid : connValid (es.getD i []) = true)
    (hst : k.getF (F.HIF_STO_ST i) = 0) : (((List.range 16).filter (bit mask)).foldl (Pkg.connAsked es) k).getF (F.HIF_STO_ST i) = 1 := by
  have own (k : Pkg) (h : k.getF (F.HIF_STO_ST i) = 0 ∨ k.getF (F.HIF_STO_ST i) = 1) : (k.connAsked es i).getF (F.HIF_STO_ST i) = 1 := by
    rw [Pkg.connAsked_same]
    rcases h with h | h
    · rw [if_pos ⟨hvalid, h⟩]
    · rw [if_neg (by simp [h]), h]
  refine foldl_reaches (Q := fun k : Pkg => k.getF (F.HIF_STO_ST i) = 0 ∨ k.getF (F.HIF_STO_ST i) = 1) (P := fun k : Pkg => k.getF (F.HIF_STO_ST i) = 1)
    (x := i) (fun k n _ h => ?_) own (fun k n _ h => ?_) (List.mem_filter.mpr ⟨List.mem_range.mpr hi, hmask⟩) (.inl hst)
  · by_cases hne : n = i
    · exact .inr (hne ▸ own k h)
    · rwa [Pkg.connAsked_other es hne]
  · by_cases hne : n = i
    · exact hne ▸ own k (.inr h)
    · rwa [Pkg.connAsked_other es hne]

/-- A connection outside the mask, or whose entry is not valid, stays as it is. -/
theorem Pkg.connsAsked_keep {es : List Bytes} {mask : Nat} (hnot : ¬ (bit mask i = true ∧ connValid (es.getD i []) = true)) :
    (((List.range 16).filter (bit mask)).foldl (Pkg.connAsked es) k).getF (F.HIF_STO_ST i) = k.getF (F.HIF_STO_ST i) := by
  refine List.foldlRecOn _ _ (motive := fun j : Pkg => j.getF (F.HIF_STO_ST i) = k.getF (F.HIF_STO_ST i)) rfl fun j hj n hn => ?_
  by_cases hne : n = i
  · have asked : bit mask i = true := hne ▸ (List.mem_filter.mp hn).2
    rw [hne, Pkg.connAsked_same, if_neg fun h => hnot ⟨asked, h.1⟩, hj]
  · rw [Pkg.connAsked_other es hne, hj]

end Conns

/-! ### The commands -/

section Commands

variable {s : State} {p : PkgId} {t₀ : Nat} {k : Pkg}

/-- The PF reaches the connection command over PCIe. -/
theorem Pkg.viaPkg_connections (act : Pkg → Pkg) : k.viaPkg .pf 0x2040030 .p act = act k := by
  unfold Pkg.viaPkg
  rw [if_neg (by decide)]

theorem stoConnect_connects (hk : k = (s.pkg p).at t₀) {mask i : Nat} {es : List Bytes} (hi : i < 16)
    (hgood : k.unitsGood (k.getF F.HIF_STO_TABLE * 4096) 4096 = true) (hes : es = k.connTable)
    (hvalid : ∀ b ∈ es, bit (fieldAt b 19 1) 0 = true → connValid b = true) (hfit : ((es.filter connValid).map (fun b => fieldAt b 18 1)).sum ≤ 64)
    (hst : k.getF (F.HIF_STO_ST i) = 0) : Completes (.stoConnect p .pf mask t₀) s (fun t =>
      (t.pkg p).getF (F.HIF_STO_ST i) = if bit mask i && connValid (es.getD i []) then 1 else 0) := by
  obtain ⟨j, hj, run⟩ := Pkg.stoConnect_asks mask hgood
  rw [← hes, if_neg] at run
  · refine completes_of_updPkg_eq (j := ((List.range 16).filter (bit mask)).foldl (Pkg.connAsked es) j) rfl ?_ fun t ht => ?_
    · rw [← hk, Pkg.viaPkg_connections, run]
    · have down : j.getF (F.HIF_STO_ST i) = 0 := (hj.getF _ (show xltKeeps (0x2040100 + 0x8 * i) by omega)).trans hst
      rw [ht]
      split
      · next h =>
        rw [Bool.and_eq_true] at h
        exact Pkg.connsAsked_connect hi h.1 h.2 down
      · next h =>
        rw [Bool.and_eq_true] at h
        exact (Pkg.connsAsked_keep h).trans down
  · rintro (h | h)
    · obtain ⟨b, hb, h⟩ := List.any_eq_true.mp h
      rw [Bool.and_eq_true, Bool.not_eq_true'] at h
      rw [hvalid b hb h.1] at h
      exact Bool.noConfusion h.2
    · omega

theorem stoConnect_refused (hk : k = (s.pkg p).at t₀) {mask i : Nat} {es : List Bytes} (hi : i < 16)
    (hgood : k.unitsGood (k.getF F.HIF_STO_TABLE * 4096) 4096 = true) (hes : es = k.connTable)
    (hmany : 64 < ((es.filter connValid).map (fun b => fieldAt b 18 1)).sum) :
    Completes (.stoConnect p .pf mask t₀) s (fun t => (t.pkg p).getF F.HIF_EV_STO_REFUSED = 1 ∧
      (t.pkg p).getF (F.HIF_STO_ST i) = k.getF (F.HIF_STO_ST i)) := by
  obtain ⟨j, hj, run⟩ := Pkg.stoConnect_asks mask hgood
  rw [← hes, if_pos (.inr hmany)] at run
  refine completes_of_updPkg_eq (j := j.raise F.HIF_EV_STO_REFUSED) rfl ?_ fun t ht => ?_
  · rw [← hk, Pkg.viaPkg_connections, run]
  · rw [ht]
    refine ⟨Pkg.getF_raise_same _ _ (by decide) (by decide), ?_⟩
    rw [Pkg.getF_raise_apart _ _ _ (Fld.apart_of_off (by simp only [F.HIF_STO_ST, F.HIF_EV_STO_REFUSED]; omega))]
    exact hj.getF _ (show xltKeeps (0x2040100 + 0x8 * i) by omega)

theorem stoDisconnect_closes (hk : k = (s.pkg p).at t₀) {mask i : Nat} (hi : i < 16) (hmask : bit mask i = true) :
    Completes (.stoDisconnect p .pf mask t₀) s (fun t => (t.pkg p).getF (F.HIF_STO_ST i) = 0 ∧ (t.pkg p).getF (F.HIF_STO_IOQS i) = 0 ∧
      ((t.pkg p).conn i).wanted = false) := by
  refine completes_of_updPkg_eq (j := ((List.range 16).filter (bit mask)).foldl Pkg.connDropped k) rfl ?_ fun t ht => ?_
  · rw [← hk, Pkg.viaPkg_connections]
    rfl
  · rw [ht]
    exact Pkg.connsDropped_close hi hmask

theorem keepAliveFailure_drops (hk : k = (s.pkg p).at t₀) (conn : Fin 16) (hup : k.getF (F.HIF_STO_ST conn) = 2) :
    Completes (.keepAliveFailure p conn t₀) s (fun t => (t.pkg p).getF (F.HIF_STO_ST conn) = 0 ∧ (t.pkg p).conn conn = { k.conn conn with last := k.now }) := by
  refine completes_of_updPkg_eq (j := (k.setConn conn { k.conn conn with last := k.now }).connDown conn) rfl ?_ fun t ht => ?_
  · dsimp only
    rw [← hk, if_pos hup]
  · obtain ⟨down, -, -, kept⟩ := (k.setConn conn { k.conn conn with last := k.now }).connDown_shows conn.isLt
    rw [ht]
    exact ⟨down, (kept conn).trans (Pkg.conn_setConn_same k conn.isLt _)⟩

/-- R631: a connection that is asked for and connecting is tried. -/
theorem tried_of_connecting {c : Conn} {st : Nat} {now : Nat} (hwanted : c.wanted = true) (hst : st = 1) :
    (!c.wanted || st == 2 || (st == 0 && decide (now < c.last + 2000000000))) = false := by
  simp [hwanted, hst]

theorem reconnectAttempt_connects (hk : k = (s.pkg p).at t₀) (conn : Fin 16) (mx blk : Nat) (hwanted : (k.conn conn).wanted = true)
    (hst : k.getF (F.HIF_STO_ST conn) = 1) (hqueues : fieldAt (k.conn conn).entry 18 1 ≤ 64) :
    Completes (.reconnectAttempt p conn (some (mx, blk)) t₀) s (fun t => (t.pkg p).getF (F.HIF_STO_ST conn) = 2 ∧
      (t.pkg p).getF (F.HIF_STO_IOQS conn) = fieldAt (k.conn conn).entry 18 1 ∧
      (t.pkg p).conn conn = { k.conn conn with maxTransfer := mx, blockBytes := blk, last := k.now }) := by
  refine completes_of_updPkg_eq (j := ((k.setConn conn { k.conn conn with maxTransfer := mx, blockBytes := blk, last := k.now }).setF (F.HIF_STO_ST conn) 2).setF
      (F.HIF_STO_IOQS conn) (fieldAt (k.conn conn).entry 18 1)) rfl ?_ fun t ht => ?_
  · dsimp only
    rw [← hk, tried_of_connecting hwanted hst]
    rfl
  · rw [ht]
    refine ⟨?_, ?_, ?_⟩
    · rw [Pkg.getF_setF_apart _ _ _ _ ((Fld.apart_iff _ _).mpr (.inr (.inr (show 0 + 2 ≤ 32 by decide)))), Pkg.getF_setF_same _ _ _ rfl]
      rfl
    · rw [Pkg.getF_setF_same _ _ _ rfl]
      exact Nat.mod_eq_of_lt (show fieldAt (k.conn conn).entry 18 1 < 2 ^ 7 by omega)
    · exact Pkg.conn_setConn_same k conn.isLt _

theorem reconnectAttempt_fails (hk : k = (s.pkg p).at t₀) (conn : Fin 16) (hwanted : (k.conn conn).wanted = true) (hst : k.getF (F.HIF_STO_ST conn) = 1) :
    Completes (.reconnectAttempt p conn none t₀) s (fun t => (t.pkg p).getF (F.HIF_STO_ST conn) = 0 ∧
      (t.pkg p).conn conn = { k.conn conn with last := k.now }) := by
  refine completes_of_updPkg_eq (j := (k.setConn conn { k.conn conn with last := k.now }).setF (F.HIF_STO_ST conn) 0) rfl ?_ fun t ht => ?_
  · dsimp only
    rw [← hk, tried_of_connecting hwanted hst]
    rfl
  · rw [ht]
    refine ⟨?_, Pkg.conn_setConn_same k conn.isLt _⟩
    rw [Pkg.getF_setF_same _ _ _ rfl]
    rfl

theorem rdmaAccess_writes (hk : k = (s.pkg p).at t₀) {key off y n : Nat} {bs : Bytes} {x : NvmeCmd} (hcmd : k.nvmeCmd key = some x) (hto : x.toMemory = true)
    (hsize : off + bs.length ≤ x.size) (hmaps : k.maps x.slot (x.va + off) bs.length .storage .write y = true) :
    Completes (.rdmaAccess p key off (some bs) n t₀) s (fun t => (t.pkg p).hbm = Memory.writeBytes k.hbm y bs) := by
  obtain ⟨wrote, none⟩ := Pkg.vwrite_of_maps hmaps
  obtain ⟨j, hj⟩ : ∃ j, j = (k.vwrite x.slot .storage (x.va + off) bs).1 := ⟨_, rfl⟩
  rw [← hj] at wrote
  have run : k.vwrite x.slot .storage (x.va + off) bs = (j, .none) := Prod.ext hj.symm none
  refine completes_of_updPkg_eq (j := j.moveBytes x.slot bs.length) rfl ?_ fun t ht => ?_
  · dsimp only
    rw [← hk, hcmd]
    dsimp only
    rw [if_pos ⟨hto, hsize⟩, run]
  · rw [ht]
    exact wrote.hbm

theorem rdmaAccess_reads (hk : k = (s.pkg p).at t₀) {key off y n : Nat} {x : NvmeCmd} (hcmd : k.nvmeCmd key = some x) (hto : x.toMemory = false)
    (hsize : off + n ≤ x.size) (hmaps : k.maps x.slot (x.va + off) n .storage .read y = true) :
    Completes (.rdmaAccess p key off none n t₀) s (fun t => (t.pkg p).readData = leNat (Memory.readBytes k.hbm y n) ∧ (t.pkg p).hbm = k.hbm) := by
  obtain ⟨frame, read⟩ := Pkg.vread_of_maps rfl hmaps
  obtain ⟨j, hj⟩ : ∃ j, j = (k.vread x.slot .storage (x.va + off) n).1 := ⟨_, rfl⟩
  rw [← hj] at frame
  have run : k.vread x.slot .storage (x.va + off) n = (j, Memory.readBytes k.hbm y n, none) := Prod.ext hj.symm read
  refine completes_of_updPkg_eq (j := { j.moveBytes x.slot n with readData := leNat (Memory.readBytes k.hbm y n) }) rfl ?_ fun t ht => ?_
  · dsimp only
    rw [← hk, hcmd]
    dsimp only
    rw [if_pos (by simp [hto, hsize]), run]
  · rw [ht]
    exact ⟨rfl, frame.hbm⟩

theorem rdmaAccess_outside (hk : k = (s.pkg p).at t₀) {key off n : Nat} {bs : Bytes} {x : NvmeCmd} (hcmd : k.nvmeCmd key = some x)
    (hout : x.toMemory = false ∨ x.size < off + bs.length) : Completes (.rdmaAccess p key off (some bs) n t₀) s (fun t => t.pkg p = k) := by
  refine completes_of_updPkg_eq (j := k) rfl ?_ fun t ht => ht
  dsimp only
  rw [← hk, hcmd]
  dsimp only
  rw [if_neg]
  rintro ⟨hto, hin⟩
  rcases hout with h | h
  · rw [hto] at h
    cases h
  · omega

/-- The package after a frame's answer at port S. -/
def Pkg.replied (k : Pkg) (r : StoReply) : Pkg := { k with host := { k.host with reply := r } }

/-- Port S answers a frame (R626, R627); `tagged` says that the frame is on its VLAN. -/
def Pkg.portAnswer (k : Pkg) (kind : StoFrame) (tagged mine ecn : Bool) : Pkg :=
  if k.getF F.LNK_S_ST ≠ 2 then k
  else match kind with
    | .pause on => if k.flag F.HIF_STO_PFC_EN then k.setF F.LNK_S_PFC (if on then 1 else 0) else k.inc (F.HIF_STO_COUNTS 4)
    | .other => k.inc (F.HIF_STO_COUNTS 4)
    | .roce => if tagged && mine then k.replied (if ecn then .congestion else .roce) else k.inc (F.HIF_STO_COUNTS 4)
    | .address => if tagged && mine then k.replied .address else k.inc (F.HIF_STO_COUNTS 4)
    | .echo => if tagged && mine then k.replied .echo else k.inc (F.HIF_STO_COUNTS 4)

/-- A frame leaves the answer of port S; without a VLAN of its own an untagged frame is the port's. -/
theorem storageFrameReceive_answers (hk : k = (s.pkg p).at t₀) {kind : StoFrame} {mine : Bool} {vlan : Option Nat} {ecn : Bool} (hvlan : k.getF F.HIF_STO_VLAN_EN = 0)
    {Q : State → Prop} (ends : ∀ t : State, t.pkg p = (k.replied .none).portAnswer kind vlan.isNone mine ecn → Q t) :
    Completes (.storageFrameReceive p kind mine vlan ecn t₀) s Q := by
  have untagged : (k.replied .none).flag F.HIF_STO_VLAN_EN = false := (Pkg.flag_eq_false_iff _ _).mpr (show k.getF F.HIF_STO_VLAN_EN ≠ 1 by omega)
  subst hk
  exact completes_of_updPkg_eq rfl rfl fun t ht => ends t (by
    rw [ht]
    change (((s.pkg p).at t₀).replied .none).portAnswer kind (if (((s.pkg p).at t₀).replied .none).flag F.HIF_STO_VLAN_EN then _ else _) mine ecn = _
    rw [untagged]
    rfl)

theorem Pkg.portAnswer_says {kind : StoFrame} {ecn : Bool} {r : StoReply} (hup : k.getF F.LNK_S_ST = 2)
    (hkind : kind = .echo ∧ r = .echo ∨ kind = .roce ∧ r = if ecn then .congestion else .roce) :
    ((k.replied .none).portAnswer kind true true ecn).host.reply = r := by
  unfold Pkg.portAnswer
  rw [if_neg (not_not.mpr (show (k.replied .none).getF F.LNK_S_ST = 2 from hup))]
  rcases hkind with ⟨rfl, rfl⟩ | ⟨rfl, rfl⟩
  · rfl
  · rfl

/-- R627: a frame that port S does not know is dropped and counted. -/
theorem Pkg.portAnswer_drops {kind : StoFrame} {tagged mine ecn : Bool} (hup : k.getF F.LNK_S_ST = 2)
    (hdrop : kind = .other ∨ (kind = .echo ∧ mine = false) ∨ (kind = .address ∧ tagged = false)) :
    (k.replied .none).portAnswer kind tagged mine ecn = (k.replied .none).inc (F.HIF_STO_COUNTS 4) := by
  unfold Pkg.portAnswer
  rw [if_neg (not_not.mpr (show (k.replied .none).getF F.LNK_S_ST = 2 from hup))]
  rcases hdrop with rfl | ⟨rfl, rfl⟩ | ⟨rfl, rfl⟩
  · rfl
  · rw [Bool.and_false]
    rfl
  · rfl

theorem storageLinkChange_shows (st : Fin 3) : Completes (.storageLinkChange p st t₀) s (fun t => (t.pkg p).getF F.LNK_S_ST = st) := by
  refine completes_of_updPkg_eq (j := ((s.pkg p).at t₀).setF F.LNK_S_ST st) rfl rfl fun t ht => ?_
  rw [ht, Pkg.getF_setF_same _ _ _ rfl]
  exact Nat.mod_eq_of_lt (show st.val < 2 ^ 4 by omega)

theorem storageFrameReceive_replies (hk : k = (s.pkg p).at t₀) {kind : StoFrame} {ecn : Bool} {r : StoReply} (hup : k.getF F.LNK_S_ST = 2)
    (hvlan : k.getF F.HIF_STO_VLAN_EN = 0) (hkind : kind = .echo ∧ r = .echo ∨ kind = .roce ∧ r = if ecn then .congestion else .roce) :
    Completes (.storageFrameReceive p kind true none ecn t₀) s (fun t => (t.pkg p).host.reply = r) :=
  storageFrameReceive_answers hk hvlan fun t ht => by rw [ht]; exact Pkg.portAnswer_says hup hkind

theorem storageFrameReceive_drops (hk : k = (s.pkg p).at t₀) {kind : StoFrame} {mine : Bool} {vlan : Option Nat} {ecn : Bool} (hup : k.getF F.LNK_S_ST = 2)
    (hvlan : k.getF F.HIF_STO_VLAN_EN = 0) (hdrop : kind = .other ∨ (kind = .echo ∧ mine = false) ∨ (kind = .address ∧ vlan.isSome = true)) :
    Completes (.storageFrameReceive p kind mine vlan ecn t₀) s (fun t => (t.pkg p).host.reply = .none ∧
      (t.pkg p).getF (F.HIF_STO_COUNTS 4) = min (2 ^ 64 - 1) (k.getF (F.HIF_STO_COUNTS 4) + 1)) :=
  storageFrameReceive_answers hk hvlan fun t ht => by
    have tagged : vlan.isSome = true → vlan.isNone = false := fun h => by rw [← Option.not_isSome, h]; rfl
    rw [ht, Pkg.portAnswer_drops hup (hdrop.imp_right fun h => h.imp_right fun h => ⟨h.1, tagged h.2⟩)]
    exact ⟨rfl, Pkg.getF_inc_same _ _ rfl⟩

end Commands

/-- Settles O38: each command's own rule, over the frames of the jobs and of the connections. -/
theorem storageRuns : Obligations.StorageRuns := by
  unfold Obligations.StorageRuns
  intro s p t₀
  obtain ⟨k, hk⟩ : ∃ k, k = (s.pkg p).at t₀ := ⟨_, rfl⟩
  rw [← hk]
  refine ⟨fun pkt data haccepts hop hset hearly hjob => fanoutRun_waits hk data haccepts hop hset hearly hjob,
    fun j va host y hjobs hstarted hset hdue hstorage hva hhost hdir hmaps =>
      callAtHtAction_copies hk hjobs hstarted hset hdue hstorage hva hhost hdir hmaps,
    fun mask i es hi _ hgood hes hvalid hfit hst => stoConnect_connects hk hi hgood hes hvalid hfit hst,
    fun mask i es hi _ hgood hes hmany => stoConnect_refused hk hi hgood hes hmany,
    fun mask i hi hmask => stoDisconnect_closes hk hi hmask,
    fun conn hup => keepAliveFailure_drops hk conn hup,
    fun conn mx blk hwanted hst hqueues => reconnectAttempt_connects hk conn mx blk hwanted hst hqueues,
    fun conn hwanted hst => reconnectAttempt_fails hk conn hwanted hst,
    fun key x j e hcmd hjobs hcaptain htag hone hentry hissued hout hleft hstatus hconn =>
      nvmeCompletion_ends hk hcmd hjobs hcaptain htag hone hentry hissued hout hleft hstatus hconn,
    fun key nvme x hcmd hne hnvme hconn => nvmeCompletion_fails hk hcmd hne hnvme hconn,
    fun key x j e hcmd hlate hjobs hcaptain htag hone hentry hissued hout hleft hstatus =>
      nvmeTimeout_ends hk hcmd hlate hjobs hcaptain htag hone hentry hissued hout hleft hstatus,
    fun key off y n bs x hcmd hto hsize hmaps => rdmaAccess_writes hk hcmd hto hsize hmaps,
    fun key off y n x hcmd hto hsize hmaps => rdmaAccess_reads hk hcmd hto hsize hmaps,
    fun key off n bs x hcmd hout => rdmaAccess_outside hk hcmd hout,
    fun kind mine vlan ecn hup hvlan => ⟨?_, ?_, fun hdrop => storageFrameReceive_drops hk hup hvlan hdrop⟩,
    fun st => storageLinkChange_shows st⟩
  · rintro hkind rfl rfl
    exact storageFrameReceive_replies hk hup hvlan (.inl ⟨hkind, rfl⟩)
  · rintro hkind rfl rfl
    exact storageFrameReceive_replies hk hup hvlan (.inr ⟨hkind, rfl⟩)

end Sys2Proof.Machine
end

section
/-! PROOFS. What the checks of a host call read (R600, R601, R608, R727, R884–R886), and the frame of a fetch. -/

namespace Sys2Proof.Machine

/-! ### The checks of a call -/

/-- The registers that the checks of a call read. -/
def callReads (o : Nat) : Prop := (o < 0x100000 ∧ o ≠ 0xd0 ∧ o ≠ 0x10130) ∨ (0x2000000 ≤ o ∧ o < 0x2010000)

/-- `j` looks to the checks of a call as `k` does. -/
structure CallsAlike (k j : Pkg) : Prop where
  lup : j.lup = k.lup
  id : j.id = k.id
  hold : j.hold = k.hold
  drains : j.drains = k.drains
  cells : CellsKept callReads k j

theorem XltOnly.callsAlike {k j : Pkg} (h : XltOnly k j) : CallsAlike k j := by
  refine ⟨h.lup, h.id, ?_, ?_, h.cells.mono fun o ho => ?_⟩
  · obtain ⟨⟨r, x, ce, n, w, rfl⟩, -⟩ := h
    rfl
  · obtain ⟨⟨r, x, ce, n, w, rfl⟩, -⟩ := h
    rfl
  · unfold callReads at ho
    unfold xltKeeps
    omega

namespace CallsAlike

variable {k j : Pkg}

theorem target (h : CallsAlike k j) : j.target = k.target := by
  unfold Pkg.target Pkg.rack
  rw [h.id, h.cells.getF (f := F.GLB_RACK_ID) (.inl (by decide))]

theorem partEntry (h : CallsAlike k j) {slot : Nat} (hslot : slot < 8) : j.partEntry slot = k.partEntry slot := by
  have entry : callReads (F.LUP_PART_ENTRY slot).off := .inl (by simp only [F.LUP_PART_ENTRY]; omega)
  unfold Pkg.partEntry Pkg.slotHeld
  rw [h.lup, h.cells.getF (f := F.LUP_SLOTS) (.inl (by decide)), h.cells.getF entry]

theorem partPackages (h : CallsAlike k j) {slot : Nat} (hslot : slot < 8) : j.partPackages slot = k.partPackages slot := by
  unfold Pkg.partPackages
  rw [h.lup, h.target, h.partEntry hslot]

theorem callTargets (h : CallsAlike k j) {slot : Nat} (hslot : slot < 8) (target : Nat) (all : Bool) :
    j.callTargets slot target all = k.callTargets slot target all := by
  unfold Pkg.callTargets
  rw [h.partPackages hslot, h.target]

theorem partCore (h : CallsAlike k j) {slot : Nat} (hslot : slot < 8) (g : Nat) : j.partCore slot g = k.partCore slot g := by
  unfold Pkg.partCore
  rw [h.lup, h.partEntry hslot]

theorem callBody (h : CallsAlike k j) {slot : Nat} (hslot : slot < 8) (b : Bytes) : j.callBody slot b = k.callBody slot b := by
  unfold Pkg.callBody
  rw [h.partCore hslot]

theorem badStart (h : CallsAlike k j) {slot : Nat} (hslot : slot < 8) (e : Bytes) : j.badStart slot e = k.badStart slot e := by
  unfold Pkg.badStart
  dsimp only
  rw [h.callTargets hslot, h.partCore hslot]

theorem slotClosed (h : CallsAlike k j) (slot : Nat) : j.slotClosed slot = k.slotClosed slot := by
  unfold Pkg.slotClosed
  rw [h.hold, h.drains, h.cells.getF (f := F.RST_SLOT_DRAIN) (.inl (by decide)), h.cells.getF (f := F.RST_SLOT_ABSORB) (.inl (by decide))]

theorem flag (h : CallsAlike k j) {f : Fld} (hf : callReads f.off) : j.flag f = k.flag f := by
  unfold Pkg.flag
  rw [h.cells.getF hf]

theorem excluded (h : CallsAlike k j) (slot target : Nat) : j.excluded slot target = k.excluded slot target := by
  by_cases hslot : slot < 4
  · have listed (i : Nat) (hi : i ∈ List.range 128) : callReads (0x400 + 0x200 * slot + 0x4 * i) := by
      have := List.mem_range.mp hi
      exact .inl (by omega)
    unfold Pkg.excluded
    rw [h.flag (f := F.GLB_EXCL_ALL slot) (.inl (by simp only [F.GLB_EXCL_ALL]; omega))]
    congr 2
    rw [Bool.eq_iff_iff, List.any_eq_true, List.any_eq_true]
    refine exists_congr fun i => and_congr_right fun hi => ?_
    rw [h.flag (f := F.GLB_EX_VALID slot i) (listed i hi), h.cells.getF (f := F.GLB_EX_RACK slot i) (listed i hi),
      h.cells.getF (f := F.GLB_EX_PKG slot i) (listed i hi)]
  · unfold Pkg.excluded
    rw [decide_eq_false hslot]
    rfl

theorem callRefusal (h : CallsAlike k j) {slot : Nat} (hslot : slot < 8) (b : Bytes) : j.callRefusal slot b = k.callRefusal slot b := by
  have place : callReads (0x2000100 + 0x8 * slot) := .inr (by omega)
  unfold Pkg.callRefusal Pkg.isCaptain Pkg.captain
  dsimp only
  rw [h.flag (f := F.HIF_PART_VALID slot) place, h.flag (f := F.HIF_IS_CAPTAIN slot) place, h.cells.getF (f := F.HIF_CAP_RACK slot) place,
    h.cells.getF (f := F.HIF_CAP_PKG slot) place, h.callBody hslot, h.callTargets hslot, h.slotClosed]

end CallsAlike

/-- A call that no check refuses: what the later steps need of it. -/
theorem Pkg.callRefusal_none {k : Pkg} {slot : Nat} {b : Bytes} (h : k.callRefusal slot b = none) :
    k.callBody slot b = true ∧ (fieldAt b 0 1 ≠ 1 → fieldAt b 0 1 ≠ 3 → (k.callTargets slot (fieldAt b 16 4) (fieldAt b 0 1 == 4 || fieldAt b 0 1 == 6)).isSome = true) ∧
      (slot < 4 → fieldAt b 0 1 ≠ 1 → k.slotClosed slot = false) := by
  unfold Pkg.callRefusal at h
  dsimp only at h
  split at h
  · cases h
  split at h
  · cases h
  split at h
  · cases h
  split at h
  · cases h
  split at h
  · cases h
  split at h
  · cases h
  next hbody htargets hclosed =>
    refine ⟨by simpa using hbody, fun h1 h3 => ?_, fun hslot h1 => ?_⟩
    · rw [← Option.not_isNone, Bool.not_eq_true']
      exact Bool.eq_false_iff.mpr fun hnone => htargets ⟨h1, h3, hnone⟩
    · exact Bool.eq_false_iff.mpr fun hnot => hclosed ⟨hslot, h1, hnot⟩

/-- A TARGET that names one package. -/
theorem Pkg.callTargets_one {k : Pkg} {slot target : Nat} {all : Bool} (h : (k.callTargets slot target all).isSome = true) (htarget : target ≠ 2 ^ 31) :
    k.callTargets slot target all = some [target] := by
  unfold Pkg.callTargets at h ⊢
  rw [if_neg htarget] at h ⊢
  revert h
  split
  · split
    · exact fun _ => rfl
    · exact fun h => Bool.noConfusion h
  · split
    · exact fun _ => rfl
    · exact fun h => Bool.noConfusion h

/-- A package that is not excluded is not excluded with all (R886). -/
theorem Pkg.not_exclAll {k : Pkg} {slot target : Nat} (h : k.excluded slot target = false) (hslot : slot < 4) : k.flag (F.GLB_EXCL_ALL slot) = false := by
  unfold Pkg.excluded at h
  rw [decide_eq_true hslot, Bool.true_and, Bool.or_eq_false_iff] at h
  exact h.1

/-! ### The frame of a fetch -/

/-- `j` differs from `k` at most in the host's part and in the queue registers. -/
structure HostOnly (k j : Pkg) : Prop where
  fields : ∃ r h, j = { k with regs := r, host := h }
  cells : CellsKept (fun o => o < 0x2010000) k j

namespace HostOnly

variable {k j l : Pkg}

theorem refl (k : Pkg) : HostOnly k k := ⟨⟨k.regs, k.host, rfl⟩, .refl k⟩

theorem trans (h : HostOnly k j) (g : HostOnly j l) : HostOnly k l := by
  obtain ⟨⟨r, x, rfl⟩, hc⟩ := h
  obtain ⟨⟨r', x', rfl⟩, gc⟩ := g
  exact ⟨⟨r', x', rfl⟩, hc.trans gc⟩

theorem setF (k : Pkg) (f : Fld) (v : Nat) (hf : 0x2010000 ≤ f.off) : HostOnly k (k.setF f v) := ⟨⟨_, k.host, rfl⟩, .setF k v (Nat.not_lt.mpr hf)⟩

theorem ofHost (k : Pkg) (h : HostIf) : HostOnly k { k with host := h } := ⟨⟨k.regs, h, rfl⟩, .ofRegs rfl⟩

theorem hbm (h : HostOnly k j) : j.hbm = k.hbm := by obtain ⟨⟨r, x, rfl⟩, -⟩ := h; rfl

theorem callsAlike (h : HostOnly k j) : CallsAlike k j := by
  have cells : CellsKept callReads k j := h.cells.mono fun o ho => by
    unfold callReads at ho
    omega
  obtain ⟨⟨r, x, rfl⟩, -⟩ := h
  exact ⟨rfl, rfl, rfl, rfl, cells⟩

theorem maps (h : HostOnly k j) {root va n y : Nat} (hroot : root < 8) {r : Requester} {a : Access4} (hmaps : k.maps root va n r a y = true) :
    j.maps root va n r a y = true := by
  have alike : Alike (fun o => o < 0x2010000) k j := by
    have cells := h.cells
    obtain ⟨⟨r, x, rfl⟩, -⟩ := h
    exact ⟨rfl, rfl, rfl, rfl, cells⟩
  exact alike.maps ⟨by decide, by omega, fun _ => by omega, fun _ _ => by omega⟩ hmaps

end HostOnly

end Sys2Proof.Machine
end

section
/-! PROOFS. A call is fetched: its number, its record and its place (R594, R600, R602, R612–R615). -/

namespace Sys2Proof.Machine

/-! ### The replay window (R612) -/

theorem mem_trimReplay_new {rs : List ReplayRec} {r : ReplayRec} {q : Nat} : r ∈ trimReplay (rs ++ [r]) q := by
  have new : r ∈ rs ++ [r] := List.mem_append_right _ List.mem_cons_self
  unfold trimReplay
  split
  · next hmany =>
    split
    · next x hx =>
      have old : x ∈ rs := by
        cases hfind : rs.find? (fun r => r.sq == q) with
        | some y =>
          rw [List.find?_append, hfind] at hx
          cases hx
          exact List.mem_of_find?_eq_some hfind
        | none =>
          have none : rs.filter (fun r => r.sq == q) = [] := List.filter_eq_nil_iff.mpr (List.find?_eq_none.mp hfind)
          rw [List.filter_append, none, List.nil_append] at hmany
          have := List.length_filter_le (fun r : ReplayRec => r.sq == q) [r]
          rw [List.length_singleton] at this
          omega
      rw [List.erase_append_left [r] old]
      exact List.mem_append_right _ List.mem_cons_self
    · exact new
  · exact new

/-! ### What a fetch does first -/

section Fetch

variable {k : Pkg} {q : Nat}

/-- The head moves and the fetch is counted. -/
def Pkg.headMoved (k : Pkg) (q : Nat) : Pkg :=
  (k.setF (F.HIF_SQ_HEAD q) ((k.getF (F.HIF_SQ_HEAD q) + 1) % max 1 (k.getF (F.HIF_SQ_SIZE q)))).inc (F.HIF_COUNTS 0)

theorem Pkg.headMoved_frame (k : Pkg) (q : Nat) : HostOnly k (k.headMoved q) :=
  (HostOnly.setF k _ _ (by simp only [F.HIF_SQ_HEAD]; omega)).trans (.setF _ _ _ (by decide))

theorem Fld.queue_apart_counts {q : Nat} (hq : q < 256) : 0x2010018 + 0x40 * q ≠ 0x2030000 := by omega

theorem Pkg.headMoved_shows (hq : q < 256) : (k.headMoved q).getF (F.HIF_SQ_HEAD q) = (k.getF (F.HIF_SQ_HEAD q) + 1) % max 1 (k.getF (F.HIF_SQ_SIZE q)) % 2 ^ 12 ∧
    (k.headMoved q).getF (F.HIF_COUNTS 0) = min (2 ^ 64 - 1) (k.getF (F.HIF_COUNTS 0) + 1) ∧
    (k.headMoved q).getF (F.HIF_SQ_OWNER q) = k.getF (F.HIF_SQ_OWNER q) := by
  have apart : (F.HIF_SQ_HEAD q).off ≠ (F.HIF_COUNTS 0).off := Fld.queue_apart_counts hq
  refine ⟨?_, ?_, ?_⟩
  · unfold Pkg.headMoved
    rw [Pkg.getF_inc_apart _ _ _ (Fld.apart_of_off (Ne.symm apart)), Pkg.getF_setF_same _ _ _ rfl]
    rfl
  · unfold Pkg.headMoved
    rw [Pkg.getF_inc_same _ _ rfl, Pkg.getF_setF_apart _ _ _ _ (Fld.apart_of_off apart)]
    rfl
  · unfold Pkg.headMoved
    rw [Pkg.getF_inc_apart _ _ _ (Fld.apart_of_off (by simp only [F.HIF_SQ_OWNER, F.HIF_COUNTS]; omega)),
      Pkg.getF_setF_apart _ _ _ _ (Fld.apart_of_off (by simp only [F.HIF_SQ_OWNER, F.HIF_SQ_HEAD]; omega))]

/-- The call that an entry makes. -/
def Pkg.newCall (k : Pkg) (q : Nat) (b data : Bytes) : HostCall :=
  { num := k.host.nextCall, sq := q, slot := k.getF (F.HIF_SQ_OWNER q), entry := b
    deadline := k.now + (if fieldAt b 2 2 = 0 then k.getF F.HIF_CALL_TIMEOUT else fieldAt b 2 2) * 2000000, data := data }

/-- The next number is taken. -/
def Pkg.numberTaken (k : Pkg) : Pkg := { k with host := { k.host with nextCall := k.host.nextCall + 1 } }

/-- The replay window takes the record of a call. -/
def Pkg.recorded (k : Pkg) (q id num : Nat) : Pkg :=
  { k with host := { k.host with replay := trimReplay (k.host.replay ++ [({ sq := q, id := id, num := num, done := none } : ReplayRec)]) q } }

/-- The call joins the calls of its queue. -/
def Pkg.callAdded (k : Pkg) (c : HostCall) : Pkg := ({ k with host := { k.host with calls := k.host.calls ++ [c] } } : Pkg).showRunning c.sq

/-- A refused call is counted by its cause. -/
def Pkg.refusalCounted (k : Pkg) (st : Status) : Pkg :=
  if st = 0x3601 then k.inc (F.HIF_COUNTS 3) else if st = 0x2001 then k.inc (F.RST_COUNTS 6) else k

theorem Pkg.fetchCall_duplicate {b data : Bytes} {r : ReplayRec} {st info : Nat} (hfind : k.host.replay.find? (fun r => r.sq == q && r.id == fieldAt b 4 4) = some r)
    (hdone : r.done = some (st, info)) : k.fetchCall q b data = (((k.headMoved q).numberTaken.inc (F.HIF_COUNTS 2)).callAdded
      { (k.headMoved q).newCall q b data with started := true, result := some (0x9601, info), orig := st, dupOf := some r.num }) := by
  unfold Pkg.fetchCall
  dsimp only
  rw [show (k.setF (F.HIF_SQ_HEAD q) _).inc (F.HIF_COUNTS 0) = k.headMoved q from rfl]
  have same : (k.headMoved q).host.replay = k.host.replay := rfl
  rw [← same] at hfind
  generalize k.headMoved q = j at hfind ⊢
  rw [hfind]
  dsimp only
  rw [hdone]
  rfl

theorem Pkg.fetchCall_new {b data : Bytes} (hfind : k.host.replay.find? (fun r => r.sq == q && r.id == fieldAt b 4 4) = none) :
    k.fetchCall q b data = match ((k.headMoved q).numberTaken.recorded q (fieldAt b 4 4) k.host.nextCall).callRefusal ((k.headMoved q).getF (F.HIF_SQ_OWNER q)) b with
      | some r => (((k.headMoved q).numberTaken.recorded q (fieldAt b 4 4) k.host.nextCall).refusalCounted r.1).callAdded
          { (k.headMoved q).newCall q b data with started := true, result := some r, orig := r.1 }
      | none => (((k.headMoved q).numberTaken.recorded q (fieldAt b 4 4) k.host.nextCall).callAdded ((k.headMoved q).newCall q b data)).startReady q 4096 := by
  unfold Pkg.fetchCall
  dsimp only
  rw [show (k.setF (F.HIF_SQ_HEAD q) _).inc (F.HIF_COUNTS 0) = k.headMoved q from rfl]
  have same : (k.headMoved q).host.replay = k.host.replay := rfl
  have next : (k.headMoved q).host.nextCall = k.host.nextCall := rfl
  rw [← same] at hfind
  generalize k.headMoved q = j at hfind next ⊢
  rw [hfind, ← next]
  rfl

end Fetch

/-! ### Calls start in order (R601) -/

/-- With every call started, none starts. -/
theorem Pkg.startReady_of_started {k : Pkg} (h : ∀ c ∈ k.host.calls, c.started = true) (q : Nat) : ∀ fuel, k.startReady q fuel = k
  | 0 => rfl
  | fuel + 1 => by
    have none : (k.host.calls.filter (fun c => c.sq == q && c.dupOf.isNone)).find? (fun c => !c.started && c.result.isNone) = none :=
      List.find?_eq_none.mpr fun c hc => by simp [h c (List.mem_filter.mp hc).1]
    unfold Pkg.startReady
    rw [none]

/-- The one call that has not started starts, when no reset and no ORDER holds it. -/
theorem Pkg.startReady_starts {k : Pkg} {c : HostCall} {cs : List HostCall} (hcalls : k.host.calls = cs ++ [c]) (hearlier : ∀ x ∈ cs, x.started = true)
    (hstarted : c.started = false) (hresult : c.result = none) (hdup : c.dupOf = none) (hopen : c.slot < 4 → fieldAt c.entry 0 1 ≠ 1 → k.slotClosed c.slot = false)
    (horder : bit (fieldAt c.entry 1 1) 2 = false) (hall : ∀ x ∈ (k.startCall c).host.calls, x.started = true) (fuel : Nat) :
    k.startReady c.sq (fuel + 1) = k.startCall c := by
  have found : (k.host.calls.filter (fun x => x.sq == c.sq && x.dupOf.isNone)).find? (fun c => !c.started && c.result.isNone) = some c := by
    have none : (cs.filter (fun x => x.sq == c.sq && x.dupOf.isNone)).find? (fun c => !c.started && c.result.isNone) = none :=
      List.find?_eq_none.mpr fun x hx => by simp [hearlier x (List.mem_filter.mp hx).1]
    rw [hcalls, List.filter_append, List.find?_append, none, Option.none_or, List.filter_cons_of_pos (by simp [hdup]), List.filter_nil, List.find?_singleton,
      if_pos (by rw [hstarted, hresult]; rfl)]
  have closed : (decide (c.slot < 4) && fieldAt c.entry 0 1 != 1 && k.slotClosed c.slot) = false := by
    rw [Bool.eq_false_iff]
    intro h
    simp only [Bool.and_eq_true, decide_eq_true_eq, bne_iff_ne] at h
    obtain ⟨⟨hslot, hop⟩, hclosed⟩ := h
    rw [hopen hslot hop] at hclosed
    exact Bool.noConfusion hclosed
  rw [Pkg.startReady, found]
  dsimp only
  rw [closed, horder, Bool.false_and, if_neg Bool.false_ne_true, if_neg Bool.false_ne_true]
  exact Pkg.startReady_of_started hall c.sq fuel

/-! ### A call that is taken -/

/-- The package just after an entry was fetched whose call passes the checks. -/
structure Fetched (k m : Pkg) (q : Nat) (b data : Bytes) (c : HostCall) : Prop where
  frame : HostOnly k m
  calls : m.host.calls = k.host.calls ++ [c]
  mem : m.host.mem = k.host.mem
  head : m.getF (F.HIF_SQ_HEAD q) = (k.getF (F.HIF_SQ_HEAD q) + 1) % max 1 (k.getF (F.HIF_SQ_SIZE q)) % 2 ^ 12
  fetches : m.getF (F.HIF_COUNTS 0) = min (2 ^ 64 - 1) (k.getF (F.HIF_COUNTS 0) + 1)
  next : m.host.nextCall = k.host.nextCall + 1
  record : ({ sq := q, id := fieldAt b 4 4, num := k.host.nextCall, done := none } : ReplayRec) ∈ m.host.replay
  num : c.num = k.host.nextCall
  slot : c.slot = k.getF (F.HIF_SQ_OWNER q)
  entry : c.entry = b
  hostData : c.data = data
  parts : c.parts = []
  result : c.result = none
  numbers : ∀ x ∈ k.host.calls, x.num < k.host.nextCall
  started : ∀ x ∈ k.host.calls, x.started = true
  run : (∀ x ∈ (m.startCall c).host.calls, x.started = true) → k.fetchCall q b data = m.startCall c

theorem Pkg.owner_lt (k : Pkg) (q : Nat) : k.getF (F.HIF_SQ_OWNER q) < 8 := Pkg.getF_lt k (F.HIF_SQ_OWNER q)

theorem Pkg.callAdded_frame (k : Pkg) (c : HostCall) : HostOnly k (k.callAdded c) :=
  (HostOnly.ofHost k _).trans (.setF _ _ _ (by simp only [F.HIF_SQ_RUNNING]; omega))

theorem Pkg.callAdded_shows (k : Pkg) (c : HostCall) (hsq : c.sq < 256) : (k.callAdded c).host.calls = k.host.calls ++ [c] ∧ (k.callAdded c).getF (F.HIF_SQ_HEAD c.sq) = k.getF (F.HIF_SQ_HEAD c.sq) ∧
    (k.callAdded c).getF (F.HIF_COUNTS 0) = k.getF (F.HIF_COUNTS 0) :=
  ⟨rfl, Pkg.getF_setF_apart _ _ _ _ ((Fld.apart_iff _ _).mpr (.inr (.inr (show 16 + 12 ≤ 32 by decide)))),
    Pkg.getF_setF_apart _ _ _ _ (Fld.apart_of_off (Fld.queue_apart_counts hsq))⟩

/-- The parts of `takesCall`. -/
theorem Pkg.takesCall_iff {k : Pkg} {q : Nat} {b : Bytes} (h : k.takesCall q b = true) : k.mayFetch q = true ∧ k.callRefusal (k.getF (F.HIF_SQ_OWNER q)) b = none ∧
    bit (fieldAt b 1 1) 2 = false ∧ k.host.replay.find? (fun r => r.sq == q && r.id == fieldAt b 4 4) = none ∧
    (∀ c ∈ k.host.calls, c.started = true ∧ c.num < k.host.nextCall) := by
  unfold Pkg.takesCall at h
  simp only [Bool.and_eq_true, Bool.not_eq_true', Option.isNone_iff_eq_none, List.all_eq_true, decide_eq_true_eq] at h
  obtain ⟨⟨⟨⟨hfetch, hpass⟩, horder⟩, hreplay⟩, hcalls⟩ := h
  refine ⟨hfetch, hpass, horder, List.find?_eq_none.mpr fun r hr => ?_, hcalls⟩
  rw [hreplay r hr]
  decide

theorem Pkg.fetched_of_takes {k : Pkg} {q : Nat} {b : Bytes} (hq : q < 256) (h : k.takesCall q b = true) (data : Bytes) : ∃ m c, Fetched k m q b data c := by
  obtain ⟨-, hpass, horder, hnew, hcalls⟩ := Pkg.takesCall_iff h
  obtain ⟨head, fetches, owner⟩ := Pkg.headMoved_shows (k := k) hq
  have moved := k.headMoved_frame q
  have fetch := Pkg.fetchCall_new (data := data) hnew
  have host : (k.headMoved q).host = k.host := rfl
  generalize k.headMoved q = j at head fetches owner moved fetch host
  have before : HostOnly k (j.numberTaken.recorded q (fieldAt b 4 4) k.host.nextCall) := moved.trans ((HostOnly.ofHost j _).trans (.ofHost j.numberTaken _))
  have refusal : (j.numberTaken.recorded q (fieldAt b 4 4) k.host.nextCall).callRefusal (j.getF (F.HIF_SQ_OWNER q)) b = none := by
    rw [owner, before.callsAlike.callRefusal (k.owner_lt q), hpass]
  rw [refusal] at fetch
  dsimp only at fetch
  obtain ⟨c, hc⟩ : ∃ c, c = j.newCall q b data := ⟨_, rfl⟩
  have sq : c.sq = q := by rw [hc]; rfl
  rw [← hc, ← sq] at fetch
  have added := Pkg.callAdded_frame (j.numberTaken.recorded c.sq (fieldAt b 4 4) k.host.nextCall) c
  obtain ⟨calls, head', fetches'⟩ := Pkg.callAdded_shows (j.numberTaken.recorded c.sq (fieldAt b 4 4) k.host.nextCall) c (sq.symm ▸ hq)
  rw [sq] at added calls head' fetches' fetch
  have hslot : c.slot = k.getF (F.HIF_SQ_OWNER q) := by rw [hc]; exact owner
  have hentry : c.entry = b := by rw [hc]; rfl
  have frame := before.trans added
  refine ⟨(j.numberTaken.recorded q (fieldAt b 4 4) k.host.nextCall).callAdded c, c,
    { frame := frame, calls := calls.trans (by rw [← host]; rfl), mem := by rw [← host]; rfl, head := head'.trans head, fetches := fetches'.trans fetches
      next := by rw [← host]; rfl, record := ?_, num := by rw [hc, ← host]; rfl, slot := hslot, entry := hentry, hostData := by rw [hc]; rfl
      parts := by rw [hc]; rfl, result := by rw [hc]; rfl, numbers := fun x hx => (hcalls x hx).2, started := fun x hx => (hcalls x hx).1, run := fun hall => ?_ }⟩
  · exact mem_trimReplay_new
  · obtain ⟨-, -, closed⟩ := Pkg.callRefusal_none hpass
    refine fetch.trans ?_
    rw [← sq]
    refine Pkg.startReady_starts (cs := k.host.calls) ?_ (fun x hx => (hcalls x hx).1) (by rw [hc]; rfl) (by rw [hc]; rfl) (by rw [hc]; rfl) ?_ (by rw [hentry]; exact horder)
      (by rw [sq]; exact hall) 4095
    · rw [sq]
      exact calls.trans (by rw [← host]; rfl)
    · intro hlow hop
      rw [sq, frame.callsAlike.slotClosed, hslot]
      exact closed (hslot ▸ hlow) (hentry ▸ hop)

end Sys2Proof.Machine
end

section
/-! PROOFS. A fetched call starts (R605, R606, R609, R610); O35. -/

namespace Sys2Proof.Machine

/-! ### The last call of a list -/

section Last

variable {k : Pkg} {c : HostCall} {cs : List HostCall} {num : Nat}

theorem Pkg.updCall_last (hcalls : k.host.calls = cs ++ [c]) (hothers : ∀ x ∈ cs, x.num < num) (hnum : c.num = num) (f : HostCall → HostCall) :
    (k.updCall num f).host.calls = cs ++ [f c] := by
  have others : cs.map (fun x => if x.num = num then f x else x) = cs :=
    (List.map_congr_left fun x hx => if_neg (Nat.ne_of_lt (hothers x hx))).trans (List.map_id cs)
  unfold Pkg.updCall
  dsimp only
  rw [hcalls, List.map_append, List.map_singleton, if_pos hnum, others]

theorem Pkg.call_last (hcalls : k.host.calls = cs ++ [c]) (hothers : ∀ x ∈ cs, x.num < num) (hnum : c.num = num) : k.call num = some c := by
  have none : cs.find? (fun c => c.num == num) = none := List.find?_eq_none.mpr fun x hx => by
    have := hothers x hx
    rw [beq_iff_eq]
    omega
  unfold Pkg.call
  rw [hcalls, List.find?_append, none, Option.none_or, List.find?_singleton, if_pos (by rw [hnum, beq_self_eq_true])]

/-- R610: a job of this package ends with its part's result. -/
theorem Pkg.endJob_last {j : HostJob} {x : CallPart} (hown : j.captain = k.target) (htag : j.tag / 2 = num) (hcalls : k.host.calls = cs ++ [c])
    (hothers : ∀ x ∈ cs, x.num < num) (hnum : c.num = num) (hparts : c.parts = [x]) (htarget : x.target = k.target) (hresult : x.result = none)
    (st : Status) (info : Nat) : (k.endJob j st info).host.calls = cs ++ [{ c with parts := [{ x with result := some (st, info) }] }] ∧
      (k.endJob j st info).host.mem = k.host.mem ∧ (k.endJob j st info).hbm = k.hbm := by
  obtain ⟨i, hi⟩ : ∃ i : Pkg, i = { k with host := { k.host with jobs := k.host.jobs.filter (fun x => !(x.captain == j.captain && x.tag == j.tag)) } } := ⟨_, rfl⟩
  have run : k.endJob j st info = i.updCall num (fun c => { c with parts := c.parts.map (fun x =>
      if x.target = k.target ∧ x.result.isNone = true then { x with result := some (st, info) } else x) }) := by
    rw [hi, ← htag]
    exact if_pos hown
  have calls : i.host.calls = cs ++ [c] := by rw [hi]; exact hcalls
  rw [run]
  refine ⟨?_, by rw [hi]; rfl, by rw [hi]; rfl⟩
  rw [Pkg.updCall_last calls hothers hnum, hparts, List.map_singleton, if_pos ⟨htarget, by rw [hresult]; rfl⟩]

end Last

/-! ### A COPY runs at once (R606) -/

section Copies

variable {k : Pkg} {j : HostJob} {va host : Nat}

theorem Pkg.runJob_now (hva : j.va = some va) (hhost : j.hostAddr = some host) (hstorage : j.storage = false) (hstarted : j.started = false)
    (hnow : j.ht = 0) : k.runJob j = (k.putJob { j with started := true }).runCopy { j with started := true } := by
  unfold Pkg.runJob
  dsimp only
  rw [hva, hhost, hstorage, hstarted, hnow, if_neg (by simp), if_neg Bool.false_ne_true, if_neg (fun h => h.1 rfl)]

/-- A copy from the host within one page, into a range that maps. -/
theorem Pkg.runCopy_in {y : Nat} {data : Bytes} (hva : j.va = some va) (hdir : j.dir = 0) (hdata : j.data = data) (hlen : data.length = j.arg) (hne : data ≠ [])
    (hpage : va % 4096 + j.arg ≤ 4096) (hmaps : k.maps j.slot va j.arg (.host j.slot) .write y = true) :
    ∃ i, k.Wrote y data i ∧ k.runCopy j = i.endJob j 0 j.arg := by
  obtain ⟨wrote, none⟩ := Pkg.vwrite_of_maps (bs := data) (hlen ▸ hmaps)
  obtain ⟨i, hi⟩ : ∃ i, (k.vwrite j.slot (.host j.slot) va data).1 = i := ⟨_, rfl⟩
  rw [hi] at wrote
  have write : k.vwrite j.slot (.host j.slot) va data = (i, Option.none) := Prod.ext hi none
  have piece : min data.length (4096 - va % 4096) = data.length := by omega
  have rest (fuel n : Nat) : i.copyIn j.slot fuel n [] (0 + data.length) = (i, j.arg, Option.none) := by
    rw [Nat.zero_add, hlen]
    cases fuel with
    | zero => rfl
    | succ => rfl
  have copied : k.copyIn j.slot (pages j.arg) va data 0 = (i, j.arg, Option.none) := by
    unfold pages Pkg.copyIn
    rw [if_neg (by simpa using hne)]
    dsimp only
    rw [piece, List.take_length, write, List.drop_length]
    exact rest _ _
  refine ⟨i, wrote, ?_⟩
  unfold Pkg.runCopy
  dsimp only
  rw [if_pos hdir, hva, hdata, ← hlen, List.take_left]
  dsimp only [Option.getD_some]
  rw [hlen, copied]
  rfl

end Copies

/-! ### What each call does when it starts -/

section Starts

variable {k : Pkg} {c : HostCall}

/-- The call is shown as started. -/
def Pkg.callStarted (k : Pkg) (c : HostCall) : Pkg := k.updCall c.num (fun x => { x with started := true })

theorem Pkg.startCall_nop (hop : fieldAt c.entry 0 1 = 1) : k.startCall c = (k.callStarted c).updCall c.num (fun x => { x with result := some (0, 0) }) := by
  unfold Pkg.startCall
  dsimp only
  rw [show k.updCall c.num (fun x => { x with started := true }) = k.callStarted c from rfl]
  rw [hop, if_neg (by omega), if_neg (by omega)]
  rfl

/-- The guards of R885 and R886 stand open for a package that is not excluded. -/
theorem Pkg.startCall_guards {target : Nat} (hopen : k.excluded c.slot target = false) (op : Nat) :
    ¬ (c.slot < 4 ∧ (op = 2 ∨ op = 3 ∨ op = 5 ∨ op = 6) ∧ (k.callStarted c).flag (F.GLB_EXCL_ALL c.slot) = true) := by
  rintro ⟨hslot, -, hall⟩
  have := Pkg.not_exclAll hopen hslot
  rw [show (k.callStarted c).flag (F.GLB_EXCL_ALL c.slot) = k.flag (F.GLB_EXCL_ALL c.slot) from rfl, this] at hall
  exact Bool.noConfusion hall

theorem Pkg.startCall_play (hop : fieldAt c.entry 0 1 = 2) (hopen : k.excluded c.slot (fieldAt c.entry 16 4) = false) :
    k.startCall c = (k.callStarted c).sendStarts c.num c.slot [(fieldAt c.entry 16 4, fieldAt c.entry 20 1, fieldAt c.entry 24 8)] := by
  unfold Pkg.startCall
  dsimp only
  rw [show k.updCall c.num (fun x => { x with started := true }) = k.callStarted c from rfl]
  rw [hop, if_neg (Pkg.startCall_guards hopen 2), if_neg (by omega)]
  rfl

/-- PLAY_START goes to every package, and the parts wait. -/
theorem Pkg.sendStarts_shows {num slot : Nat} {plays : List (Nat × Nat × Nat)} (hopen : ∀ p ∈ plays, k.excluded slot p.1 = false) :
    (k.sendStarts num slot plays).host = (k.updCall num (fun c => { c with parts := plays.map (fun p => { target := p.1, core := p.2.1 }) })).host := by
  have parts : plays.map (fun p => ({ target := p.1, core := p.2.1, result := if k.excluded slot p.1 = true then some (0x1B01, 0) else none } : CallPart)) =
      plays.map (fun p => { target := p.1, core := p.2.1 }) := List.map_congr_left fun p hp => by rw [hopen p hp]; rfl
  unfold Pkg.sendStarts
  dsimp only
  rw [parts]
  refine FabOnly.host (FabOnly.foldl _ _ (fun i p => ?_) _)
  split
  · exact .refl i
  · exact Pkg.sendHub_frame i _ _ _ _ _

theorem Pkg.startCall_semPost {target : Nat} (hop : fieldAt c.entry 0 1 = 4) (htargets : k.callTargets c.slot (fieldAt c.entry 16 4) true = some [target]) :
    (k.startCall c).host = ((k.callStarted c).updCall c.num (fun x => { x with parts := [{ target := target }] })).host := by
  have targets : (k.callStarted c).callTargets c.slot (fieldAt c.entry 16 4) true = some [target] := htargets
  unfold Pkg.startCall
  dsimp only
  rw [show k.updCall c.num (fun x => { x with started := true }) = k.callStarted c from rfl]
  rw [hop, if_neg (by omega), if_neg (by omega), targets]
  exact FabOnly.host (FabOnly.foldl _ _ (fun i p => Pkg.sendHub_frame i _ _ _ _ _) _)

/-- A STORAGE call's part for one package that is not this one. -/
def Pkg.storageSent (k : Pkg) (c : HostCall) (p : Nat × Nat) : Pkg :=
  k.sendHub 0x4C c.slot p.1 (fanoutBody 1 6 (2 * c.num) (fieldAt c.entry 8 8) (fieldAt c.entry 24 8) (fieldAt c.entry 20 4) 0 0) (.call c.num p.2)

theorem Pkg.startCall_storage {target : Nat} (hop : fieldAt c.entry 0 1 = 6) (hopen : k.excluded c.slot target = false) (htarget : fieldAt c.entry 16 4 = target)
    (hother : target ≠ k.target) (htargets : k.callTargets c.slot target true = some [target]) :
    (k.startCall c).host = ((k.callStarted c).updCall c.num (fun x => { x with parts := [{ target := target }] })).host := by
  have targets : (k.callStarted c).callTargets c.slot target true = some [target] := htargets
  have still : (k.callStarted c).excluded c.slot target = false := hopen
  have parts : [target].map (fun t => ({ target := t, result := if (k.callStarted c).excluded c.slot t = true then some (0x1B01, 0) else none } : CallPart)) =
      [{ target := target }] := by
    rw [List.map_singleton, still]
    rfl
  have other : ¬ target = ((k.callStarted c).updCall c.num (fun x => { x with parts := [{ target := target }] })).target := hother
  have run : k.startCall c = ((k.callStarted c).updCall c.num (fun x => { x with parts := [{ target := target }] })).storageSent c (target, 0) := by
    unfold Pkg.startCall
    dsimp only
    rw [show k.updCall c.num (fun x => { x with started := true }) = k.callStarted c from rfl]
    rw [hop, if_neg (Pkg.startCall_guards hopen 6), if_neg (by omega), htarget, targets]
    dsimp only [Option.getD_some]
    rw [parts]
    refine Eq.trans (List.foldl_cons ..) ?_
    dsimp only
    rw [if_neg (Bool.eq_false_iff.mp still), if_neg other]
    rfl
  rw [run]
  exact FabOnly.host (Pkg.sendHub_frame _ _ _ _ _ _)

/-- The part that a COPY at this package is. -/
def Pkg.copyJob (k : Pkg) (c : HostCall) : HostJob :=
  { captain := k.target, tag := 2 * c.num, slot := c.slot, storage := false, ht := fieldAt c.entry 8 8, va := some (fieldAt c.entry 24 8)
    arg := fieldAt c.entry 40 4, dir := fieldAt c.entry 20 1, hostAddr := some (fieldAt c.entry 32 8), data := c.data }

theorem Pkg.startCall_copy (hop : fieldAt c.entry 0 1 = 5) (htarget : fieldAt c.entry 16 4 = k.target) (hopen : k.excluded c.slot k.target = false) :
    k.startCall c = ((k.callStarted c).updCall c.num (fun x => { x with parts := [{ target := k.target }] })).runJob (k.copyJob c) := by
  have still : ¬ ((k.callStarted c).excluded c.slot k.target = true) := by
    rw [show (k.callStarted c).excluded c.slot k.target = k.excluded c.slot k.target from rfl, hopen]
    exact Bool.false_ne_true
  unfold Pkg.startCall
  dsimp only
  rw [show k.updCall c.num (fun x => { x with started := true }) = k.callStarted c from rfl]
  rw [hop, htarget, if_neg (Pkg.startCall_guards hopen 5), if_neg (fun h => still h.2)]
  exact if_pos rfl

/-- The entries of a start list in memory. -/
def startEntries (m : Memory) (y n : Nat) : List Bytes := (List.range n).map (fun i => Memory.readBytes m (y + 16 * i) 16)

theorem readBytes_drop (m : Memory) (a : Nat) {n i : Nat} (h : i ≤ n) : (Memory.readBytes m a n).drop i = Memory.readBytes m (a + i) (n - i) := by
  induction i generalizing a n with
  | zero => rfl
  | succ i ih =>
    obtain ⟨n, rfl⟩ : ∃ r, n = r + 1 := ⟨n - 1, by omega⟩
    rw [Memory.readBytes, List.drop_succ_cons, ih (a + 1) (by omega)]
    congr 1 <;> omega

theorem readBytes_take (m : Memory) (a : Nat) {n i : Nat} (h : i ≤ n) : (Memory.readBytes m a n).take i = Memory.readBytes m a i := by
  induction i generalizing a n with
  | zero => rfl
  | succ i ih =>
    obtain ⟨n, rfl⟩ : ∃ r, n = r + 1 := ⟨n - 1, by omega⟩
    rw [Memory.readBytes, List.take_succ_cons, ih (a + 1) (by omega), Memory.readBytes]

theorem startEntries_read (m : Memory) (y n : Nat) :
    (List.range n).map (fun i => ((Memory.readBytes m y (16 * n)).drop (16 * i)).take 16) = startEntries m y n :=
  List.map_congr_left fun i hi => by
    have := List.mem_range.mp hi
    rw [readBytes_drop m y (by omega), readBytes_take m _ (by omega)]

/-- A start-list entry that names a core of the partition is good. -/
theorem Pkg.badStart_none {slot : Nat} {e : Bytes} (hzero : zeroSpan e 5 8 = true) (haddr : addrReserved e 8 .addr = false) (hlow : fieldAt e 0 4 < 2 ^ 18)
    (htargets : (k.callTargets slot (fieldAt e 0 4) false).isSome = true) (hcore : k.partCore slot (fieldAt e 4 1) = true) : k.badStart slot e = none := by
  unfold Pkg.badStart
  dsimp only
  rw [hzero, haddr, decide_eq_true hlow, hcore, if_neg (by simp), if_neg (by rw [← Option.not_isSome, htargets]; decide), if_neg (by decide)]

/-- A STEP starts the plays of a list, or ends with its first bad entry. -/
def Pkg.stepListed (k : Pkg) (c : HostCall) (es : List Bytes) : Pkg :=
  match ((List.range (fieldAt c.entry 24 4)).zip es).findSome? (fun e => (k.badStart c.slot e.2).map (fun st => (st, e.1))) with
  | some r => k.updCall c.num (fun x => { x with result := some r })
  | none => k.sendStarts c.num c.slot (es.map (fun e => (fieldAt e 0 4, fieldAt e 4 1, fieldAt e 8 8)))

/-- R609: a STEP reads its list and starts its plays. -/
theorem Pkg.startCall_step {y : Nat} (hop : fieldAt c.entry 0 1 = 3) (hslot : c.slot < 8) (hsome : 1 ≤ fieldAt c.entry 24 4)
    (hmaps : k.maps c.slot (fieldAt c.entry 16 8) (16 * fieldAt c.entry 24 4) .hub .read y = true)
    (hgood : ∀ e ∈ startEntries k.hbm y (fieldAt c.entry 24 4), k.badStart c.slot e = none ∧ k.excluded c.slot (fieldAt e 0 4) = false) :
    (k.startCall c).host = ((k.callStarted c).updCall c.num (fun x => { x with
        parts := (startEntries k.hbm y (fieldAt c.entry 24 4)).map (fun e => { target := fieldAt e 0 4, core := fieldAt e 4 1 }) })).host := by
  have maps : (k.callStarted c).maps c.slot (fieldAt c.entry 16 8) (16 * fieldAt c.entry 24 4) .hub .read y = true := (HostOnly.ofHost k _).maps hslot hmaps
  obtain ⟨frame, read⟩ := Pkg.vread_of_maps rfl maps
  obtain ⟨i, hi⟩ : ∃ i, ((k.callStarted c).hubRead c.slot (fieldAt c.entry 16 8) (16 * fieldAt c.entry 24 4)).1 = i := ⟨_, rfl⟩
  have list : (k.callStarted c).hubRead c.slot (fieldAt c.entry 16 8) (16 * fieldAt c.entry 24 4) = (i, Memory.readBytes k.hbm y (16 * fieldAt c.entry 24 4), none) :=
    Prod.ext hi read
  have frame : XltOnly (k.callStarted c) i := hi ▸ frame
  have alike : CallsAlike k i := ⟨frame.callsAlike.lup, frame.callsAlike.id, frame.callsAlike.hold, frame.callsAlike.drains, frame.callsAlike.cells⟩
  generalize startEntries_read k.hbm y (fieldAt c.entry 24 4) = entries
  obtain ⟨es, hes⟩ : ∃ es, es = startEntries k.hbm y (fieldAt c.entry 24 4) := ⟨_, rfl⟩
  rw [← hes] at entries hgood ⊢
  have first : 0 < es.length := by
    rw [hes, startEntries, List.length_map, List.length_range]
    omega
  have opened := (hgood es[0] (List.getElem_mem first)).2
  have good : ((List.range (fieldAt c.entry 24 4)).zip es).findSome? (fun e => (i.badStart c.slot e.2).map (fun st => (st, e.1))) = none :=
    List.findSome?_eq_none_iff.mpr fun e he => by
      rw [alike.badStart hslot, (hgood e.2 (List.of_mem_zip he).2).1]
      rfl
  unfold Pkg.startCall
  dsimp only
  rw [show k.updCall c.num (fun x => { x with started := true }) = k.callStarted c from rfl]
  rw [hop, if_neg (Pkg.startCall_guards opened 3), if_neg (by omega), list]
  change (i.stepListed c ((List.range (fieldAt c.entry 24 4)).map (fun n => ((Memory.readBytes k.hbm y (16 * fieldAt c.entry 24 4)).drop (16 * n)).take 16))).host = _
  unfold Pkg.stepListed
  rw [entries, good]
  dsimp only
  rw [Pkg.sendStarts_shows, List.map_map]
  · unfold Pkg.updCall
    dsimp only
    rw [frame.host]
    rfl
  · intro p hp
    obtain ⟨e, he, rfl⟩ := List.mem_map.mp hp
    rw [alike.excluded]
    exact (hgood e he).2

end Starts

end Sys2Proof.Machine
end

section
/-! PROOFS. Host calls are fetched (R600–R602, R605, R606, R609, R610, R613–R615); O35. -/

namespace Sys2Proof.Machine

/-! ### A fetched call after its start -/

/-- What a call shows of its start: started, its parts, its result. -/
def HostCall.shown (c : HostCall) : Bool × List CallPart × Option (Status × Nat) := (c.started, c.parts, c.result)

/-- The part that a COPY is, when it begins. -/
def Pkg.copyBegun (m : Pkg) (c : HostCall) : HostJob := { m.copyJob c with started := true }

/-- The package before a COPY runs. -/
def Pkg.copyReady (m : Pkg) (c : HostCall) : Pkg :=
  ((m.callStarted c).updCall c.num (fun x => { x with parts := [{ target := m.target }] })).putJob (m.copyBegun c)

namespace Fetched

variable {k m : Pkg} {q : Nat} {b data : Bytes} {c : HostCall}

theorem earlier (h : Fetched k m q b data c) : ∀ x ∈ k.host.calls, x.num < c.num := fun x hx => by
  rw [h.num]
  exact h.numbers x hx

theorem calls_callStarted (h : Fetched k m q b data c) : (m.callStarted c).host.calls = k.host.calls ++ [{ c with started := true }] :=
  Pkg.updCall_last h.calls h.earlier rfl _

theorem shows (h : Fetched k m q b data c) {c' : HostCall} (hstart : (m.startCall c).host.calls = k.host.calls ++ [c']) (hnum : c'.num = c.num)
    (hstarted : c'.started = true) : k.fetchCall q b data = m.startCall c ∧ (k.fetchCall q b data).call k.host.nextCall = some c' := by
  have run := h.run fun x hx => by
    rw [hstart, List.mem_append, List.mem_singleton] at hx
    rcases hx with hx | rfl
    · exact h.started x hx
    · exact hstarted
  refine ⟨run, ?_⟩
  rw [run]
  exact Pkg.call_last hstart h.numbers (hnum.trans h.num)

/-- A call whose start is its parts shows them. -/
theorem shows_parts (h : Fetched k m q b data c) {ps : List CallPart}
    (hstart : (m.startCall c).host = ((m.callStarted c).updCall c.num (fun x => { x with parts := ps })).host) :
    ((k.fetchCall q b data).call k.host.nextCall).map HostCall.shown = some (true, ps, none) := by
  have calls := (congrArg HostIf.calls hstart).trans (Pkg.updCall_last h.calls_callStarted h.earlier rfl _)
  rw [(h.shows calls rfl rfl).2]
  exact congrArg (fun r => some (true, ps, r)) h.result

theorem slot_lt (h : Fetched k m q b data c) : c.slot < 8 := h.slot ▸ k.owner_lt q

theorem excluded (h : Fetched k m q b data c) {target : Nat} (hopen : k.excluded (k.getF (F.HIF_SQ_OWNER q)) target = false) : m.excluded c.slot target = false := by
  rw [h.frame.callsAlike.excluded, h.slot, hopen]

theorem maps (h : Fetched k m q b data c) {va n y : Nat} {r : Requester} {a : Access4} (hmaps : k.maps (k.getF (F.HIF_SQ_OWNER q)) va n r a y = true) :
    m.maps c.slot va n r a y = true := by
  rw [h.slot]
  exact h.frame.maps (k.owner_lt q) hmaps

/-- A call with one target. -/
theorem targets (h : Fetched k m q b data c) (hpass : k.callRefusal (k.getF (F.HIF_SQ_OWNER q)) b = none) (hop : fieldAt b 0 1 = 4 ∨ fieldAt b 0 1 = 6)
    (htarget : fieldAt b 16 4 ≠ 2 ^ 31) : m.callTargets c.slot (fieldAt b 16 4) true = some [fieldAt b 16 4] := by
  have all : (fieldAt b 0 1 == 4 || fieldAt b 0 1 == 6) = true := by rw [Bool.or_eq_true, beq_iff_eq, beq_iff_eq]; exact hop
  obtain ⟨-, htargets, -⟩ := Pkg.callRefusal_none hpass
  have some := htargets (by omega) (by omega)
  rw [all] at some
  rw [h.frame.callsAlike.callTargets h.slot_lt, h.slot]
  exact Pkg.callTargets_one some htarget

/-! ### A COPY at this package (R606) -/

theorem copyReady_frame (h : Fetched k m q b data c) : HostOnly k (m.copyReady c) := h.frame.trans (.ofHost m _)

theorem calls_copyReady (h : Fetched k m q b data c) :
    (m.copyReady c).host.calls = k.host.calls ++ [{ c with started := true, parts := [{ target := m.target }] }] :=
  Pkg.updCall_last h.calls_callStarted h.earlier rfl (fun x => { x with parts := [{ target := m.target }] })

theorem copy_runs (h : Fetched k m q b data c) (hop : fieldAt b 0 1 = 5) (htarget : fieldAt b 16 4 = k.target)
    (hopen : k.excluded (k.getF (F.HIF_SQ_OWNER q)) k.target = false) (hnow : fieldAt b 8 8 = 0) :
    m.startCall c = (m.copyReady c).runCopy (m.copyBegun c) := by
  have target := h.frame.callsAlike.target
  rw [Pkg.startCall_copy (by rw [h.entry]; exact hop) (by rw [h.entry, htarget, target]) (by rw [target]; exact h.excluded hopen)]
  exact Pkg.runJob_now rfl rfl rfl rfl (show fieldAt c.entry 8 8 = 0 by rw [h.entry]; exact hnow)

/-- The COPY ends with its part's result. -/
theorem shows_copied (h : Fetched k m q b data c) {i : Pkg} (hcalls : i.host.calls = (m.copyReady c).host.calls) (htarget : i.target = k.target)
    (hstart : m.startCall c = i.endJob (m.copyBegun c) 0 (fieldAt b 40 4)) :
    ((k.fetchCall q b data).call k.host.nextCall).map HostCall.shown = some (true, [{ target := k.target, result := some (0, fieldAt b 40 4) }], none) ∧
      (k.fetchCall q b data).host.mem = i.host.mem ∧ (k.fetchCall q b data).hbm = i.hbm := by
  have target : m.target = i.target := h.frame.callsAlike.target.trans htarget.symm
  obtain ⟨calls, mem, hbm⟩ := Pkg.endJob_last (k := i) (j := m.copyBegun c) (num := c.num) (x := { target := m.target }) target
    (Nat.mul_div_cancel_left c.num (by decide)) (hcalls.trans h.calls_copyReady) h.earlier rfl rfl target rfl 0 (fieldAt b 40 4)
  rw [← hstart] at calls mem hbm
  obtain ⟨run, call⟩ := h.shows calls rfl rfl
  refine ⟨?_, by rw [run, mem], by rw [run, hbm]⟩
  rw [call, ← h.frame.callsAlike.target]
  exact congrArg (fun r => some (true, [({ target := m.target, result := some (0, fieldAt b 40 4) } : CallPart)], r)) h.result

end Fetched

/-! ### The commands -/

section Commands

variable {s : State} {p : PkgId} {q : Fin 256} {b data : Bytes} {t₀ : Nat} {k : Pkg} (hk : k = (s.pkg p).at t₀)
include hk

/-- A command that may fetch leaves the fetch. -/
theorem completes_fetch {i : Instr} {ok : Bool} {Q : State → Prop} (hrun : exec i s = .next (s.updPkg p (fun k => (k.at t₀).fetchOp q b data ok))) (hok : ok = true)
    (hmay : k.mayFetch q = true) (ends : ∀ t : State, t.pkg p = k.fetchCall q b data → Q t) : Completes i s Q := by
  refine completes_of_updPkg_eq hrun ?_ ends
  rw [← hk, Pkg.fetchOp, hok, hmay]
  rfl

/-- The same, of a call that passes the checks. -/
theorem completes_taken {i : Instr} {ok : Bool} {Q : State → Prop} (hrun : exec i s = .next (s.updPkg p (fun k => (k.at t₀).fetchOp q b data ok))) (hok : ok = true)
    (htakes : k.takesCall q b = true) (ends : ∀ (t : State) m c, Fetched k m q b data c → t.pkg p = k.fetchCall q b data → Q t) : Completes i s Q := by
  obtain ⟨m, c, fetched⟩ := Pkg.fetched_of_takes q.isLt htakes data
  exact completes_fetch hk hrun hok (Pkg.takesCall_iff htakes).1 fun t ht => ends t m c fetched ht

theorem callNop_over (htakes : k.takesCall q b = true) (hop : fieldAt b 0 1 = 1) (hsize : k.getF (F.HIF_SQ_SIZE q) ≤ 4096) :
    Completes (.callNop p q b t₀) s (fun t => ((t.pkg p).call k.host.nextCall).map HostCall.shown = some (true, [], some (0, 0)) ∧
      (t.pkg p).host.nextCall = k.host.nextCall + 1 ∧
      (t.pkg p).getF (F.HIF_SQ_HEAD q) = (k.getF (F.HIF_SQ_HEAD q) + 1) % max 1 (k.getF (F.HIF_SQ_SIZE q)) ∧
      (t.pkg p).getF (F.HIF_COUNTS 0) = min (2 ^ 64 - 1) (k.getF (F.HIF_COUNTS 0) + 1) ∧
      ({ sq := q, id := fieldAt b 4 4, num := k.host.nextCall, done := none } : ReplayRec) ∈ (t.pkg p).host.replay) := by
  refine completes_taken hk rfl (by rw [hop]; rfl) htakes fun t m c fetched ht => ?_
  have start := Pkg.startCall_nop (k := m) (c := c) (by rw [fetched.entry]; exact hop)
  have calls := Pkg.updCall_last fetched.calls_callStarted fetched.earlier rfl (fun x => { x with result := some (0, 0) })
  rw [← start] at calls
  obtain ⟨run, call⟩ := fetched.shows calls rfl rfl
  have low : (k.getF (F.HIF_SQ_HEAD q) + 1) % max 1 (k.getF (F.HIF_SQ_SIZE q)) < 2 ^ 12 := (Nat.mod_lt _ (by omega)).trans_le (by omega)
  rw [ht]
  refine ⟨?_, ?_⟩
  · rw [call]
    exact congrArg (fun ps => some (true, ps, some (0, 0))) fetched.parts
  · rw [run, start]
    exact ⟨fetched.next, fetched.head.trans (Nat.mod_eq_of_lt low), fetched.fetches, fetched.record⟩

theorem callPlay_opens (htakes : k.takesCall q b = true) (hop : fieldAt b 0 1 = 2) (hopen : k.excluded (k.getF (F.HIF_SQ_OWNER q)) (fieldAt b 16 4) = false) :
    Completes (.callPlay p q b t₀) s (fun t => ((t.pkg p).call k.host.nextCall).map HostCall.shown =
      some (true, [{ target := fieldAt b 16 4, core := fieldAt b 20 1 }], none)) := by
  refine completes_taken hk rfl (by rw [hop]; rfl) htakes fun t m c fetched ht => ?_
  rw [ht]
  refine fetched.shows_parts ?_
  have opened := fetched.excluded hopen
  rw [Pkg.startCall_play (by rw [fetched.entry]; exact hop) (by rw [fetched.entry]; exact opened), fetched.entry]
  refine Pkg.sendStarts_shows fun x hx => ?_
  rw [List.mem_singleton.mp hx]
  exact opened

theorem callStep_opens {y : Nat} {es : List Bytes} (htakes : k.takesCall q b = true) (hop : fieldAt b 0 1 = 3)
    (hmaps : k.maps (k.getF (F.HIF_SQ_OWNER q)) (fieldAt b 16 8) (16 * fieldAt b 24 4) .hub .read y = true) (hes : es = startEntries k.hbm y (fieldAt b 24 4))
    (hgood : ∀ e ∈ es, zeroSpan e 5 8 = true ∧ addrReserved e 8 .addr = false ∧ fieldAt e 0 4 < 2 ^ 18 ∧
      (k.callTargets (k.getF (F.HIF_SQ_OWNER q)) (fieldAt e 0 4) false).isSome = true ∧ k.partCore (k.getF (F.HIF_SQ_OWNER q)) (fieldAt e 4 1) = true ∧
      k.excluded (k.getF (F.HIF_SQ_OWNER q)) (fieldAt e 0 4) = false) :
    Completes (.callStep p q b t₀) s (fun t => ((t.pkg p).call k.host.nextCall).map HostCall.shown =
      some (true, es.map (fun e => ({ target := fieldAt e 0 4, core := fieldAt e 4 1 } : CallPart)), none)) := by
  refine completes_taken hk rfl (by rw [hop]; rfl) htakes fun t m c fetched ht => ?_
  have some : 1 ≤ fieldAt b 24 4 := by
    obtain ⟨body, -, -⟩ := Pkg.callRefusal_none (Pkg.takesCall_iff htakes).2.1
    unfold Pkg.callBody at body
    rw [hop] at body
    simp only [Bool.and_eq_true, decide_eq_true_eq] at body
    exact body.1.2
  have start := Pkg.startCall_step (k := m) (c := c) (y := y) (by rw [fetched.entry]; exact hop) fetched.slot_lt (by rw [fetched.entry]; exact some)
    (by rw [fetched.entry]; exact fetched.maps hmaps)
  rw [fetched.entry, fetched.frame.hbm, ← hes] at start
  rw [ht]
  refine fetched.shows_parts (start fun e he => ?_)
  obtain ⟨hzero, haddr, hlow, htargets, hcore, hopen⟩ := hgood e he
  rw [fetched.frame.callsAlike.badStart fetched.slot_lt, fetched.slot]
  exact ⟨Pkg.badStart_none hzero haddr hlow htargets hcore, (fetched.slot ▸ fetched.excluded hopen)⟩

theorem callSemPost_parts (htakes : k.takesCall q b = true) (hop : fieldAt b 0 1 = 4) (htarget : fieldAt b 16 4 ≠ 2 ^ 31) :
    Completes (.callSemPost p q b t₀) s (fun t => ((t.pkg p).call k.host.nextCall).map HostCall.shown = some (true, [{ target := fieldAt b 16 4 }], none)) := by
  refine completes_taken hk rfl (by rw [hop]; rfl) htakes fun t m c fetched ht => ?_
  rw [ht]
  refine fetched.shows_parts (Pkg.startCall_semPost (by rw [fetched.entry]; exact hop) ?_)
  rw [fetched.entry]
  exact fetched.targets (Pkg.takesCall_iff htakes).2.1 (.inl hop) htarget

theorem callStorage_parts (htakes : k.takesCall q b = true) (hop : fieldAt b 0 1 = 6) (htarget : fieldAt b 16 4 ≠ 2 ^ 31) (hother : fieldAt b 16 4 ≠ k.target)
    (hopen : k.excluded (k.getF (F.HIF_SQ_OWNER q)) (fieldAt b 16 4) = false) :
    Completes (.callStorage p q b t₀) s (fun t => ((t.pkg p).call k.host.nextCall).map HostCall.shown = some (true, [{ target := fieldAt b 16 4 }], none)) := by
  refine completes_taken hk rfl (by rw [hop]; rfl) htakes fun t m c fetched ht => ?_
  rw [ht]
  exact fetched.shows_parts (Pkg.startCall_storage (by rw [fetched.entry]; exact hop) (fetched.excluded hopen) (by rw [fetched.entry])
    (by rw [fetched.frame.callsAlike.target]; exact hother) (fetched.targets (Pkg.takesCall_iff htakes).2.1 (.inr hop) htarget))

theorem callCopy_out {y : Nat} (htakes : k.takesCall q b = true) (hop : fieldAt b 0 1 = 5) (htarget : fieldAt b 16 4 = k.target)
    (hopen : k.excluded (k.getF (F.HIF_SQ_OWNER q)) k.target = false) (hnow : fieldAt b 8 8 = 0) (hdir : fieldAt b 20 1 = 1)
    (hmaps : k.maps (k.getF (F.HIF_SQ_OWNER q)) (fieldAt b 24 8) (fieldAt b 40 4) (.host (k.getF (F.HIF_SQ_OWNER q))) .read y = true) :
    Completes (.callCopy p q b data t₀) s (fun t => ((t.pkg p).call k.host.nextCall).map HostCall.shown =
        some (true, [{ target := k.target, result := some (0, fieldAt b 40 4) }], none) ∧
      (t.pkg p).host.mem = Memory.writeBytes k.host.mem (fieldAt b 32 8) (Memory.readBytes k.hbm y (fieldAt b 40 4))) := by
  refine completes_taken hk rfl (by rw [hop]; rfl) htakes fun t m c fetched ht => ?_
  have frame := fetched.copyReady_frame
  have maps := frame.maps (k.owner_lt q) hmaps
  obtain ⟨i, read, run⟩ := Pkg.runCopy_reads (k := m.copyReady c) (j := m.copyBegun c) (va := fieldAt b 24 8) (host := fieldAt b 32 8) (y := y)
    (by rw [← fetched.entry]; rfl) (by rw [← fetched.entry]; rfl) (show fieldAt c.entry 20 1 = 1 by rw [fetched.entry]; exact hdir)
    (show (m.copyReady c).maps c.slot (fieldAt b 24 8) (fieldAt c.entry 40 4) (.host c.slot) .read y = true by rw [fetched.entry, fetched.slot]; exact maps)
  have arg : (m.copyBegun c).arg = fieldAt b 40 4 := show fieldAt c.entry 40 4 = _ by rw [fetched.entry]
  rw [arg, frame.hbm] at run
  obtain ⟨got, mem, -⟩ := fetched.shows_copied (i := { i with host := { i.host with mem := Memory.writeBytes i.host.mem (fieldAt b 32 8) (Memory.readBytes k.hbm y (fieldAt b 40 4)) } })
    (by rw [← read.host]) (read.callsAlike.target.trans frame.callsAlike.target)
    ((fetched.copy_runs hop htarget hopen hnow).trans run)
  rw [ht]
  refine ⟨got, mem.trans ?_⟩
  rw [read.host, ← fetched.mem]
  rfl

theorem callCopy_in {y : Nat} (htakes : k.takesCall q b = true) (hop : fieldAt b 0 1 = 5) (htarget : fieldAt b 16 4 = k.target)
    (hopen : k.excluded (k.getF (F.HIF_SQ_OWNER q)) k.target = false) (hnow : fieldAt b 8 8 = 0) (hdir : fieldAt b 20 1 = 0)
    (hpage : fieldAt b 24 8 % 4096 + fieldAt b 40 4 ≤ 4096) (hlen : data.length = fieldAt b 40 4)
    (hmaps : k.maps (k.getF (F.HIF_SQ_OWNER q)) (fieldAt b 24 8) (fieldAt b 40 4) (.host (k.getF (F.HIF_SQ_OWNER q))) .write y = true) :
    Completes (.callCopy p q b data t₀) s (fun t => ((t.pkg p).call k.host.nextCall).map HostCall.shown =
        some (true, [{ target := k.target, result := some (0, fieldAt b 40 4) }], none) ∧ (t.pkg p).hbm = Memory.writeBytes k.hbm y data) := by
  refine completes_taken hk rfl (by rw [hop]; rfl) htakes fun t m c fetched ht => ?_
  have frame := fetched.copyReady_frame
  have maps := frame.maps (k.owner_lt q) hmaps
  have some : 64 ≤ fieldAt b 40 4 := by
    obtain ⟨body, -, -⟩ := Pkg.callRefusal_none (Pkg.takesCall_iff htakes).2.1
    unfold Pkg.callBody at body
    rw [hop] at body
    simp only [Bool.and_eq_true, decide_eq_true_eq] at body
    exact body.2
  have arg : (m.copyBegun c).arg = fieldAt b 40 4 := show fieldAt c.entry 40 4 = _ by rw [fetched.entry]
  obtain ⟨i, wrote, run⟩ := Pkg.runCopy_in (k := m.copyReady c) (j := m.copyBegun c) (va := fieldAt b 24 8) (y := y) (data := data)
    (by rw [← fetched.entry]; rfl) (show fieldAt c.entry 20 1 = 0 by rw [fetched.entry]; exact hdir) fetched.hostData (hlen.trans arg.symm)
    (by rintro rfl; rw [List.length_nil] at hlen; omega) (by rw [← arg] at hpage; exact hpage)
    (show (m.copyReady c).maps c.slot (fieldAt b 24 8) (fieldAt c.entry 40 4) (.host c.slot) .write y = true by rw [fetched.entry, fetched.slot]; exact maps)
  rw [arg] at run
  obtain ⟨bad, kept⟩ : ∃ bad, XltOnly { m.copyReady c with hbm := Memory.writeBytes (m.copyReady c).hbm y data, hbmBad := bad } i := wrote
  obtain ⟨got, -, hbm⟩ := fetched.shows_copied (i := i) (by rw [kept.host]) (kept.callsAlike.target.trans frame.callsAlike.target)
    ((fetched.copy_runs hop htarget hopen hnow).trans run)
  rw [ht]
  exact ⟨got, by rw [hbm, kept.hbm, ← frame.hbm]⟩

theorem callPlay_refused {r : Status × Nat} (hmay : k.mayFetch q = true) (hop : fieldAt b 0 1 = 2) (hnumbers : ∀ c ∈ k.host.calls, c.num < k.host.nextCall)
    (hnew : ∀ r ∈ k.host.replay, r.sq ≠ q.val ∨ r.id ≠ fieldAt b 4 4) (hrefused : k.callRefusal (k.getF (F.HIF_SQ_OWNER q)) b = some r) :
    Completes (.callPlay p q b t₀) s (fun t => ((t.pkg p).call k.host.nextCall).map HostCall.shown = some (true, [], some r)) := by
  refine completes_fetch hk rfl (by rw [hop]; rfl) hmay fun t ht => ?_
  have new : k.host.replay.find? (fun r => r.sq == q.val && r.id == fieldAt b 4 4) = none := List.find?_eq_none.mpr fun r hr => by
    rw [Bool.and_eq_true, beq_iff_eq, beq_iff_eq]
    have := hnew r hr
    omega
  have fetch := Pkg.fetchCall_new (data := []) new
  obtain ⟨-, -, owner⟩ := Pkg.headMoved_shows (k := k) q.isLt
  have moved := k.headMoved_frame q
  have host : (k.headMoved q).host = k.host := rfl
  generalize k.headMoved q = j at owner moved fetch host
  have before : HostOnly k (j.numberTaken.recorded q (fieldAt b 4 4) k.host.nextCall) := moved.trans ((HostOnly.ofHost j _).trans (.ofHost j.numberTaken _))
  rw [owner, before.callsAlike.callRefusal (k.owner_lt q), hrefused] at fetch
  rw [ht, fetch]
  dsimp only
  have counted : ((j.numberTaken.recorded q (fieldAt b 4 4) k.host.nextCall).refusalCounted r.1).host.calls = k.host.calls := by
    unfold Pkg.refusalCounted
    rw [← host]
    split
    · rfl
    · split
      · rfl
      · rfl
  rw [Pkg.call_last (cs := k.host.calls) (c := { j.newCall q b [] with started := true, result := some r, orig := r.1 }) ?_ hnumbers (by rw [← host]; rfl)]
  · rfl
  · exact congrArg (· ++ [_]) counted

theorem callPlay_duplicate {r : ReplayRec} {st info : Nat} (hmay : k.mayFetch q = true) (hop : fieldAt b 0 1 = 2) (hnumbers : ∀ c ∈ k.host.calls, c.num < k.host.nextCall)
    (hfind : k.host.replay.find? (fun r => r.sq == q.val && r.id == fieldAt b 4 4) = some r) (hdone : r.done = some (st, info)) :
    Completes (.callPlay p q b t₀) s (fun t => ((t.pkg p).call k.host.nextCall).map HostCall.shown = some (true, [], some (0x9601, info)) ∧
      ((t.pkg p).call k.host.nextCall).map (fun c => (c.orig, c.dupOf)) = some (st, some r.num) ∧ (t.pkg p).host.replay = k.host.replay) := by
  refine completes_fetch hk rfl (by rw [hop]; rfl) hmay fun t ht => ?_
  have fetch := Pkg.fetchCall_duplicate (data := []) hfind hdone
  have host : (k.headMoved q).host = k.host := rfl
  generalize k.headMoved q = j at fetch host
  rw [ht, fetch, Pkg.call_last (cs := k.host.calls)
    (c := { j.newCall q b [] with started := true, result := some (0x9601, info), orig := st, dupOf := some r.num }) (by rw [← host]; rfl) hnumbers (by rw [← host]; rfl)]
  exact ⟨rfl, rfl, by rw [← host]; rfl⟩

end Commands

/-- Settles O35: one rule per kind of call, over the frame of the fetch. -/
theorem hostCallsAreFetched : Obligations.HostCallsAreFetched := by
  unfold Obligations.HostCallsAreFetched
  intro s p q b t₀
  obtain ⟨k, hk⟩ : ∃ k, k = (s.pkg p).at t₀ := ⟨_, rfl⟩
  rw [← hk]
  exact ⟨fun htakes hop hsize => callNop_over hk htakes hop hsize,
    fun htakes hop hopen => callPlay_opens hk htakes hop hopen,
    fun y es htakes hop hmaps hes hgood => callStep_opens hk htakes hop hmaps hes hgood,
    fun htakes hop htarget => callSemPost_parts hk htakes hop htarget,
    fun data y htakes hop htarget hopen hnow hdir hmaps => by
      rw [htarget] at hopen ⊢
      exact callCopy_out hk htakes hop htarget hopen hnow hdir hmaps,
    fun data y htakes hop htarget hopen hnow hdir hpage hlen hmaps => by
      rw [htarget] at hopen ⊢
      exact callCopy_in hk htakes hop htarget hopen hnow hdir hpage hlen hmaps,
    fun htakes hop htarget hother hopen => callStorage_parts hk htakes hop htarget hother hopen,
    fun r hmay hop hnumbers hnew hrefused => callPlay_refused hk hmay hop hnumbers hnew hrefused,
    fun r st info hmay hop hnumbers hfind hdone => callPlay_duplicate hk hmay hop hnumbers hfind hdone⟩

end Sys2Proof.Machine
end
